-- ==== Sys2Proof/Word.lean ====
section
/-!
DEFINITION. The bytes and words of the device (R4): registers are 32 bits wide, and every structure in memory is little-endian.
-/

namespace Sys2Proof

/-- One byte of a memory. -/
abbrev Byte := BitVec 8

/-- The number that a list of bytes spells, byte 0 holding bits [7:0] (R4). -/
def leNat : List Byte → Nat
  | [] => 0
  | b :: bs => b.toNat + 256 * leNat bs

/-- The `n` low bytes of a number, byte 0 first (R4). -/
def leBytes : Nat → Nat → List Byte
  | 0, _ => []
  | n + 1, v => BitVec.ofNat 8 v :: leBytes n (v / 256)

/-- Bits [lo + w − 1 : lo] of a number. -/
def bitsOf (v lo w : Nat) : Nat := v / 2 ^ lo % 2 ^ w

/-- Bit `i` of a number. -/
def bitOf (v i : Nat) : Bool := v / 2 ^ i % 2 == 1

/-- A Boolean as the bit a register shows. -/
def b2n (b : Bool) : Nat := if b then 1 else 0

/-- A 32-bit register value read as a signed count (R37). -/
def signed32 (v : Nat) : Int := if v % 2 ^ 32 < 2 ^ 31 then (v % 2 ^ 32 : Nat) else (v % 2 ^ 32 : Nat) - (2 ^ 32 : Int)

/-- A signed count as the 32 bits a register shows. -/
def toSigned32 (v : Int) : Nat := (v % (2 ^ 32 : Int)).toNat

end Sys2Proof
end

