-- ==== Sys2Proof/Syntax.lean ====
section
/-!
DEFINITION. The commands of the device, one constructor for each row of the table of operations and events (95: each step whole and
indivisible), with the operands the row's rule reads. A command that a register write carries names the writing function: 0 is the PF,
1 to 8 the VFs. What arrives from outside the chip (host data, flit fields, readings, test results) is an operand.
-/

namespace Sys2Proof

/-- R629. The status codes. -/
inductive Status where
  | ok | duplicate | badDesc | badAddr | range | notOnCurve | badParam | authFail | tagFail | keyDenied
  | preempted | faulted | aborted | quiesced | linkLost | remoteErr | stale | noSpace | refusedCapacity | internal
  deriving DecidableEq, Repr

/-- R629. The code of a status. -/
def Status.code : Status → Nat
  | .ok => 0x00 | .duplicate => 0x01 | .badDesc => 0x10 | .badAddr => 0x11 | .range => 0x12 | .notOnCurve => 0x13
  | .badParam => 0x14 | .authFail => 0x20 | .tagFail => 0x21 | .keyDenied => 0x22 | .preempted => 0x30 | .faulted => 0x31
  | .aborted => 0x32 | .quiesced => 0x33 | .linkLost => 0x40 | .remoteErr => 0x41 | .stale => 0x42 | .noSpace => 0x50
  | .refusedCapacity => 0x51 | .internal => 0xF0

/-- What an MSI-X unmasking names: one vector, or the function's blocking state (MSI-X Enable 0 or Function Mask 1), now left. -/
inductive UnmaskTarget where
  | vector (v : Nat)
  | blockingState
  deriving DecidableEq, Repr

/-- R446. How a host read ended. -/
inductive ReadOutcome where
  | data (bytes : List Byte)
  | unsupported | timeout | poisoned
  deriving DecidableEq, Repr

/-- The levels of the power-good inputs (R537). -/
structure PowerPins where
  io : Bool
  mem : Bool
  coreA : Bool
  coreB : Bool
  deriving DecidableEq, Repr

/-- R485. The fields of a received flit's header beside its type: SEQ, ACK, CREDIT.COUNT, CREDIT.VC. -/
structure FlitHdr where
  seq : Nat
  ack : Nat
  count : Nat
  vc : Nat
  deriving DecidableEq, Repr

/-- R488. An LWR_HEAD's fields: destination and origin member, link flow, origin scheduler flow and function, LF_SEQ, window offset, length. -/
structure LinkWrite where
  dest : Nat
  origin : Nat
  lf : Nat
  flow : Nat
  fn : Nat
  seq : Nat
  off : Nat
  len : Nat
  deriving DecidableEq, Repr

/-- R488. An LSIG's fields: destination and origin member, counter, VALUE, origin scheduler flow and function, the origin's signal sequence number. -/
structure LinkSignal where
  dest : Nat
  origin : Nat
  ctr : Nat
  value : Nat
  flow : Nat
  fn : Nat
  seq : Nat
  deriving DecidableEq, Repr

/-- R489. A NOTICE's fields: destination (the origin member), reporting member, status code, kind, flow named, origin function, sequence, sending chain or
link flow, time at the reporting member (TS64). -/
structure LinkNotice where
  dest : Nat
  reporter : Nat
  status : Nat
  kind : Nat
  flow : Nat
  fn : Nat
  seq : Nat
  ref : Nat
  ts : Nat
  deriving DecidableEq, Repr

/-- R522. A time in a TSYNC, in nanoseconds of the timebase of the chip that took it: whole seconds and nanoseconds. -/
structure TsyncTime where
  sec : Nat
  ns : Nat
  deriving DecidableEq, Repr

/-! ### Steps (R128 to R143) -/

/-- R128. The header of a step that the sequencer of `core` fetches for the task in `slot`: WAIT_PRIOR, SIG_EN, END, SIG_CTR, TAG. -/
structure StepHdr where
  core : Nat
  slot : Nat
  waitPrior : Bool
  sigEn : Bool
  last : Bool
  sigCtr : Nat
  tag : Nat
  deriving DecidableEq, Repr

/-- R130. An operand reference: OFFSET, SPACE, AREG, PITCH. -/
structure OpRef where
  off : Nat
  space : Nat
  areg : Nat
  pitch : Nat
  deriving DecidableEq, Repr

/-- R132. The fields of LOAD and TRANSFER. -/
structure XferStep where
  src : OpRef
  dst : OpRef
  rowLen : Nat
  rows : Nat
  flush : Bool
  deriving DecidableEq, Repr

/-- R134. The fields of MATMUL. -/
structure MatmulStep where
  plane : OpRef
  bcast : OpRef
  dst : OpRef
  init : OpRef
  k : Nat
  n : Nat
  vcnt : Nat
  mode : Nat
  axisT : Bool
  gang : Nat
  share : Nat
  lead : Nat
  xpose : Bool
  initEn : Bool
  rnd : Bool
  ovfm : Bool
  blk : Nat
  pfmt : Nat
  bfmt : Nat
  ofmt : Nat
  seed : Nat
  deriving DecidableEq, Repr

/-- R135. The fields of MATVEC. -/
structure MatvecStep where
  wgt : OpRef
  vec : OpRef
  dst : OpRef
  init : OpRef
  k : Nat
  n : Nat
  nvec : Nat
  initEn : Bool
  rnd : Bool
  ovfm : Bool
  axisT : Bool
  wfmt : Nat
  vfmt : Nat
  ofmt : Nat
  seed : Nat
  deriving DecidableEq, Repr

/-- R136. The fields of VECTOR beside VOP. -/
structure VectorStep where
  a : OpRef
  b : OpRef
  c : OpRef
  dst : OpRef
  afmt : Nat
  bfmt : Nat
  cfmt : Nat
  ofmt : Nat
  rnd : Bool
  ovfm : Bool
  cols : Nat
  rows : Nat
  seed : Nat
  imm : Nat
  deriving DecidableEq, Repr

/-- R140. The fields of SEAL. -/
structure SealStep where
  src : OpRef
  dst : OpRef
  len : Nat
  key : Nat
  alg : Nat
  deriving DecidableEq, Repr

/-- R129, R137 to R143. What a step does; `refused` is a step that cannot run whatever its operands: an opcode or SOP that is not defined, or bytes that could not be fetched. -/
inductive StepOp where
  | nop
  | load (x : XferStep)
  | transfer (x : XferStep)
  | matmul (m : MatmulStep)
  | matvec (m : MatvecStep)
  | vector (vop : Nat) (v : VectorStep)
  | signal (ctr value : Nat)
  | wait (dec : Bool) (ctr value : Nat)
  | set (ctr value : Nat)
  | remote (member ctr value : Nat)
  | post (dlist delay : Nat) (item : List Byte)
  | chainOp (sop chain mark : Nat)
  | commit (chain : Nat)
  | sealing (x : SealStep)
  | fence (full : Bool)
  | flagsOut (dst : OpRef)
  | flagsClr (mask : Nat)
  | saltSet (imm : Nat)
  | seta (areg imm : Nat)
  | adda (areg imm : Nat)
  | loop (areg target : Nat)
  | jump (target : Nat)
  | refused (opcode : Nat) (st : Status)
  deriving DecidableEq, Repr

/-- R107, R149. The place at which a started matrix step stops: block, tile, chunk and sub-pass. -/
structure StepPos where
  block : Nat
  tile : Nat
  chunk : Nat
  sub : Nat
  deriving DecidableEq, Repr

/-- R570. What a core self-test finds: the failed columns of the four arrays, one bit each, and whether stores, sequencer, vector unit and MVP pass. -/
structure CoreTest where
  columns : List Nat
  rest : Bool
  deriving DecidableEq, Repr

/-- R447, R448. The class of a link or transaction error. -/
inductive LinkError where
  | correctable | nonFatal | fatal
  deriving DecidableEq, Repr

/-- R538, R556. What the start of a domain finds: the trained stacks and their failed pseudo-channels, the start-up tests of the random generator, the self-test of the
public-key engine, the self-tests of a die's nine physical slots. -/
structure StartReport where
  trained : List Bool
  pchFail : List Nat
  rngOk : Bool
  pkeOk : Bool
  slots : List CoreTest
  deriving DecidableEq, Repr

/-- R539. How a PMBus transaction ended: the bytes read, or the code of its cause. -/
inductive PmOutcome where
  | ok (data : List Byte)
  | failed (cause : Nat)
  deriving DecidableEq, Repr

/-- R583. The instructions of the JTAG TAP: those of IEEE 1149.1 and the private ones, by their code. -/
inductive TapInstr where
  | idcode | bypass | sample | extest
  | priv (code : Nat)
  deriving DecidableEq, Repr

/-- R559. What an SMBus target access does: it reads a word, or writes PWR_CMD or CHIP_RESET. -/
inductive SmbusOp where
  | read (addr : Nat)
  | pwrCmd (v : Nat)
  | chipReset (v : Nat)
  deriving DecidableEq, Repr

/-- The commands of the device: one constructor for each row of the table of operations and events. -/
inductive Instr where
  /-- LOAD R132 A LOAD step copies rows from a source space into WS or AS. -/
  | load (h : StepHdr) (x : XferStep)
  /-- TRANSFER R132 A TRANSFER step copies rows from AS, WS or HBM_C to any permitted space, opening chain children or sending LINK writes. -/
  | transfer (h : StepHdr) (x : XferStep)
  /-- MATMUL R134 A MATMUL step runs one array or gang step in the selected stationarity mode. -/
  | matmul (h : StepHdr) (m : MatmulStep)
  /-- MATVEC R135 A MATVEC step runs a matrix-vector product on the MVP from the weight store. -/
  | matvec (h : StepHdr) (m : MatvecStep)
  /-- SIGNAL R235 A SYNC SIGNAL adds VALUE to a counter as a full release, saturating at 65,535. -/
  | signal (h : StepHdr) (ctr value : Nat)
  /-- WAIT R236 A SYNC WAIT holds the task until the counter is at least VALUE, as an acquire. -/
  | wait (h : StepHdr) (ctr value : Nat)
  /-- SET R235 A SYNC SET sets a counter to VALUE as a release. -/
  | set (h : StepHdr) (ctr value : Nat)
  /-- FLAGS_OUT R142 CTX FLAGS_OUT writes the context's flag word. -/
  | flagsOut (h : StepHdr) (dst : OpRef)
  /-- FLAGS_CLR R142 CTX FLAGS_CLR clears the masked flags already contributed. -/
  | flagsClr (h : StepHdr) (mask : Nat)
  /-- SALT_SET R142 CTX SALT_SET sets CTX_SALT from the next step issued. -/
  | saltSet (h : StepHdr) (imm : Nat)
  /-- SETA R143 CTL SETA loads an address register. -/
  | seta (h : StepHdr) (areg imm : Nat)
  /-- ADDA R143 CTL ADDA adds a signed immediate to an address register. -/
  | adda (h : StepHdr) (areg imm : Nat)
  /-- LOOP R143 CTL LOOP decrements an address register and branches while it is non-zero. -/
  | loop (h : StepHdr) (areg target : Nat)
  /-- JUMP R143 CTL JUMP continues at TARGET. -/
  | jump (h : StepHdr) (target : Nat)
  /-- SEQ_PREEMPT R146 SEQ_PREEMPT stops issue for a slot's task, withdraws unstarted steps and its wait, and stops started matrix steps. -/
  | seqPreempt (fn core mask : Nat)
  /-- SEQ_ABORT R151 SEQ_ABORT stops a slot's task, which completes ABORTED. -/
  | seqAbort (fn core mask : Nat)
  /-- SEQ_RES_GO R150 SEQ_RES_CTRL.GO checks a resume token and queues the task for a free slot. -/
  | seqResGo (fn core : Nat)
  /-- SEQ_RES_DISCARD R150 SEQ_RES_CTRL.DISCARD frees a save record; the task completes ABORTED. -/
  | seqResDiscard (fn core : Nat)
  /-- CTX_LOAD R154 CTX_CTRL.LOAD starts loading and checking a Golok image into a context. -/
  | ctxLoad (fn core ctx : Nat)
  /-- CORE_TEST_START R570 CORE_TEST.START runs the array and store self-test on an unadmitted, quiesced core. -/
  | coreTestStart (fn core : Nat)
  /-- CH_APPLY R190 APPLY puts a chain descriptor into effect after its checks. -/
  | chApply (fn c : Nat)
  /-- CH_CMD_MARK R174 Host CH_CMD MARK sets or moves a chain mark. -/
  | chCmdMark (fn c m : Nat)
  /-- CH_CMD_REWIND R176 Host CH_CMD REWIND rewinds a chain to an active mark. -/
  | chCmdRewind (fn c m : Nat)
  /-- CH_CMD_RELEASE R178 Host CH_CMD RELEASE releases a chain mark. -/
  | chCmdRelease (fn c m : Nat)
  /-- REPLAY_HELD R182 REPLAY_HELD returns link-held items to READY and clears LINK_HOLD. -/
  | replayHeld (fn c : Nat)
  /-- DISCARD_HELD R182 DISCARD_HELD frees link-held items and clears LINK_HOLD. -/
  | discardHeld (fn c : Nat)
  /-- CH_FLUSH R191 FLUSH frees READY and SPENT items, voids OPEN children, drops every mark and clears LINK_HOLD. -/
  | chFlush (fn c : Nat)
  /-- HOST_POST R228 POST_CTRL.GO posts the host's task item, either at once or to a delay list. -/
  | hostPost (fn j dlist : Nat)
  /-- RELEASE_SKIP R200 RELEASE_SKIP drops a BLOCKED flow's failed task as done. -/
  | releaseSkip (fn w : Nat)
  /-- RELEASE_RETRY R200 RELEASE_RETRY puts a BLOCKED flow's failed task back at the head of its queue. -/
  | releaseRetry (fn w : Nat)
  /-- CLEAR_STALE R200 CLEAR_STALE clears a flow's STALE bit. -/
  | clearStale (fn w : Nat)
  /-- PURGE R200 PURGE discards a flow's queued tasks as done. -/
  | purge (fn w : Nat)
  /-- DL_RELEASE_ALL R216 DL_CMD RELEASE_ALL releases every task of a delay list in sorted order. -/
  | dlReleaseAll (fn d : Nat)
  /-- DL_PURGE R216 DL_CMD PURGE discards every task of a delay list as done. -/
  | dlPurge (fn d : Nat)
  /-- CHN_APPLY R226 CHN_CTRL.APPLY puts a channel configuration into effect after its checks. -/
  | chnApply (fn k : Nat)
  /-- CLEAR_LOST R222 CHN_CTRL.CLEAR_LOST ends a channel's spill-loss stop. -/
  | clearLost (fn k : Nat)
  /-- FLUSH_SPILL R222 CHN_CTRL.FLUSH_SPILL discards every spilled entry as lost and done. -/
  | flushSpill (fn k : Nat)
  /-- CNT_SIGNAL R250 Host CNT_CMD SIGNAL adds to a counter as a host release. -/
  | cntSignal (fn c v : Nat)
  /-- CNT_SUB R235 Host CNT_CMD SUB subtracts from a counter, saturating at 0. -/
  | cntSub (fn c v : Nat)
  /-- CNT_SET R235 Host CNT_CMD SET sets a counter. -/
  | cntSet (fn c v : Nat)
  /-- CNT_ARM R251 Host CNT_CMD ARM sets a watch threshold, which may fire at once. -/
  | cntArm (fn c v : Nat)
  /-- CNT_DISARM R235 Host CNT_CMD DISARM clears a counter's watch. -/
  | cntDisarm (fn c : Nat)
  /-- DBG_SIGNAL R254 DBG_CMD SIGNAL adds to any selected counter. -/
  | dbgSignal (fn v : Nat)
  /-- DBG_SUB R254 DBG_CMD SUB subtracts from any selected counter. -/
  | dbgSub (fn v : Nat)
  /-- DBG_SET R254 DBG_CMD SET sets any selected counter. -/
  | dbgSet (fn v : Nat)
  /-- DBG_ARM R254 DBG_CMD ARM arms the watch of any selected counter. -/
  | dbgArm (fn v : Nat)
  /-- DBG_DISARM R254 DBG_CMD DISARM clears the watch of any selected counter. -/
  | dbgDisarm (fn : Nat)
  /-- SY_BLK_FN_WRITE R249 A write to SY_BLK_FN changes block holders and clears each changed block in one operation. -/
  | syBlkFnWrite (fn r v : Nat)
  /-- SY_BLK_CLR R255 SY_BLK_CLR.GO starts the clear of a counter block. -/
  | syBlkClr (fn b : Nat)
  /-- LC_FLUSH R288 LC_CMD FLUSH writes back the lines that are dirty when it starts. -/
  | lcFlush (fn n : Nat)
  /-- LC_FLUSH_INV R288 LC_CMD FLUSH_INV writes back and invalidates every line of the cache. -/
  | lcFlushInv (fn n : Nat)
  /-- RD_S R289 A home receives a read-shared request. -/
  | rdS (core addr : Nat)
  /-- RD_M R287 A home receives a read-for-ownership request, which checks and reads the line. -/
  | rdM (core addr : Nat) (bytes : List Byte)
  /-- CLAIM R287 A home receives a request for ownership without data. -/
  | claim (core addr : Nat) (bytes : List Byte)
  /-- UPG R295 A home receives an S-to-M upgrade, which it serves as RD_M if an invalidation came first. -/
  | upg (core addr : Nat) (bytes : List Byte)
  /-- DATA_S R289 A core receives shared data from a home. -/
  | dataS (core l : Nat)
  /-- DATA_M R289 A core receives owned data from a home. -/
  | dataM (core l : Nat)
  /-- GRANT R289 A core receives ownership without data. -/
  | grant (core l : Nat)
  /-- EVICT_ACK R293 A core receives the acknowledgement of an eviction and frees its eviction-buffer entry. -/
  | evictAck (core l : Nat)
  /-- SNP_INV R294 A core receives an invalidation snoop and replies. -/
  | snpInv (core l : Nat)
  /-- SNP_SHR R291 An M owner receives a downgrade snoop and returns the data. -/
  | snpShr (core l : Nat)
  /-- HOME_AGENT_READ R291 A non-cache agent reads a line at the home, after any M owner downgrades, and the line is checked under R313. -/
  | homeAgentRead (agent fn core addr : Nat)
  /-- HOME_AGENT_WRITE R291 A non-cache agent writes at the home after invalidating cached copies, full line or merged under R315. -/
  | homeAgentWrite (agent fn core addr : Nat) (bytes : List Byte)
  /-- WSET_APPLY R352 WSET_CMD APPLY places a weight set's regions after the capacity checks. -/
  | wsetApply (fn e : Nat)
  /-- WSET_FILL R341 WSET_CMD FILL writes a copy on the selected cores from its source. -/
  | wsetFill (fn e copy : Nat)
  /-- WSET_SWITCH R346 WSET_CMD SWITCH switches CUR in DUAL mode, or starts the drain and reload in SINGLE mode. -/
  | wsetSwitch (fn e : Nat)
  /-- WSET_ARM R348 WSET_CMD ARM records SW_TICK for a timed switch. -/
  | wsetArm (fn e : Nat)
  /-- WSET_DISARM R348 WSET_CMD DISARM cancels an armed switch. -/
  | wsetDisarm (fn e : Nat)
  /-- MAN_APPLY R338 WSET_CMD MAN_APPLY writes a context's manifest into a copy on one core. -/
  | manApply (fn e copy core ctx : Nat)
  /-- RQ_DOORBELL R361 A write to RQ_PI advances a request ring's producer index if valid. -/
  | rqDoorbell (fn f r p : Nat)
  /-- CQ_DOORBELL R363 A write to CQ_CI returns consumed completion entries. -/
  | cqDoorbell (fn f r p : Nat)
  /-- SEAL_DESC R387 Descriptor SEAL hashes a record and writes a signed seal block. -/
  | sealDesc (id : Nat) (src : ReadOutcome)
  /-- RNG_RESTART R376 RNG_CTRL.RESTART restarts the generator through its start-up tests. -/
  | rngRestart (fn : Nat)
  /-- SLOT_CMD_CLEAR R382 The manager's SLOT_CMD CLEAR zeroises a slot. -/
  | slotCmdClear (fn slot : Nat)
  /-- HOST_READ_COMPLETION R446 A completion for a host read arrives, giving data or an ABORTED outcome with a log entry. -/
  | hostReadCompletion (id : Nat) (o : ReadOutcome)
  /-- COMPLETION_TIMEOUT R446 A host read's completion timer expires; the requester completes ABORTED. -/
  | completionTimeout (id : Nat)
  /-- HR_PI_DOORBELL R438 A write to HR_PI posts inbound host-ring entries. -/
  | hrPiDoorbell (fn c p : Nat)
  /-- HR_CI_DOORBELL R438 A write to HR_CI consumes outbound entries, finishing their items. -/
  | hrCiDoorbell (fn c p : Nat)
  /-- HR_ENABLE R433 A write of HR_CTRL.ENABLE enables a host ring, or stops or refuses to stop it. -/
  | hrEnable (fn c : Nat) (en : Bool)
  /-- HR_SKIP R436 HR_CTRL.SKIP consumes a stopped inbound entry with no item. -/
  | hrSkip (fn c : Nat)
  /-- FLR R467 A function-level reset of a VF aborts and flushes its work and clears its volatile state. -/
  | flr (f : Nat)
  /-- TN_QUIESCE R464 TN_CMD QUIESCE starts the three-stage instance quiesce. -/
  | tnQuiesce (fn f : Nat) (preempt : Bool)
  /-- TN_UNQUIESCE R465 TN_CMD UNQUIESCE reopens the instance gates in reverse order. -/
  | tnUnquiesce (fn f : Nat)
  /-- REVOKE_ALL R470 TN_CMD REVOKE_ALL returns every resource of an instance to the PF. -/
  | revokeAll (fn f : Nat)
  /-- DL_SYNC R475 TN_CMD DL_SYNC completes the dirty log for earlier writes and writes DL_WB. -/
  | dlSync (fn f : Nat)
  /-- DL_EPOCH R473 TN_CMD DL_EPOCH empties the dirty-page filter and clears OVF. -/
  | dlEpoch (fn f : Nat)
  /-- TG_CORES_WRITE R458 A write to TG_CORES changes core grants whole or not at all, flushing and zeroing each changed core. -/
  | tgCoresWrite (fn f v : Nat)
  /-- TG_PAGES_WRITE R459 A write to TG_PAGES changes page-triple grants whole or not at all. -/
  | tgPagesWrite (fn f v : Nat)
  /-- EXCH R501 A received exchange record is compared, leading to MATCH, DATA with resume or a new session, or HELD. -/
  | exch (p : Nat) (h : FlitHdr) (record : List Byte)
  /-- ITEM_HEAD R487 A received ITEM_HEAD takes a cell in the mapped chain, or is refused by NOTICE. -/
  | itemHead (p : Nat) (h : FlitHdr) (header payload : List Byte)
  /-- ITEM_DATA R486 A received ITEM_DATA writes payload bytes; the last commits the item. -/
  | itemData (p : Nat) (h : FlitHdr) (payload : List Byte)
  /-- LWR_HEAD R510 A received LWR_HEAD is checked and written, or forwarded, or refused by NOTICE. -/
  | lwrHead (p : Nat) (h : FlitHdr) (w : LinkWrite) (data : List Byte)
  /-- LWR_DATA R510 A received LWR_DATA writes write data at the home. -/
  | lwrData (p : Nat) (h : FlitHdr) (data : List Byte)
  /-- LSIG R245 A received remote signal is applied to the counter, or denied with a REMOTE_ERR notice. -/
  | lsig (p : Nat) (h : FlitHdr) (g : LinkSignal)
  /-- NOTICE R513 A received notice is logged in the late-error queue and blocks or stales the named flow. -/
  | notice (p : Nat) (h : FlitHdr) (n : LinkNotice)
  /-- VOID R486 A received VOID flit is discarded. -/
  | void (p : Nat) (h : FlitHdr)
  /-- TSYNC R522 A received TSYNC updates PORT_SKEW, which feeds the skew comparison. -/
  | tsync (p : Nat) (h : FlitHdr) (t1 : TsyncTime) (echo : Option (TsyncTime × TsyncTime))
  /-- LANE R505 A received LANE flit applies a new lane mask at the next flit boundary. -/
  | lane (p : Nat) (h : FlitHdr) (mask : Nat)
  /-- KEY R497 A received KEY flit switches port keys from CUR to NEXT. -/
  | key (p : Nat) (h : FlitHdr)
  /-- LEAVE R506 A received LEAVE continues the graceful leave, ending in OFF. -/
  | leave (p : Nat) (h : FlitHdr)
  /-- PWR_ON R531 PWR_CMD ON starts powering a domain after its checks. -/
  | pwrOn (fn d : Nat)
  /-- PWR_RETAIN R532 PWR_CMD RETAIN moves a domain to retention after its checks. -/
  | pwrRetain (fn d : Nat) (force : Bool)
  /-- PWR_OFF R533 PWR_CMD OFF removes a domain's power, drained or forced. -/
  | pwrOff (fn d : Nat) (force : Bool)
  /-- CORE_RST R549 CORE_RST flushes, zeroes and resets a quiesced idle core. -/
  | coreRst (fn mask : Nat)
  /-- SMBUS_ACCESS R559 An SMBus target access reads management pages or writes PWR_CMD or CHIP_RESET. -/
  | smbusAccess (a : SmbusOp)
  /-- PORT_KEY_LOAD R495 PORT_KEY.LOAD derives port keys as CUR or NEXT. -/
  | portKeyLoad (fn p : Nat)
  /-- DIGEST_UPDATE R517 GRP_CMD.DIGEST_UPDATE computes the configuration digest. -/
  | digestUpdate (fn : Nat)
  /-- WITHDRAW R569 FT_CMD WITHDRAW clears a core's admission. -/
  | withdraw (fn core : Nat)
  /-- REFILL R571 FT_CMD REFILL writes a weight copy on an unadmitted core. -/
  | refill (fn core set copy src ctx : Nat)
  /-- EPOCH_SYNC R572 FT_CMD EPOCH_SYNC sets CORE_EPOCH to CHIP_EPOCH. -/
  | epochSync (fn core : Nat)
  /-- ADMIT R573 FT_CMD ADMIT admits a core to the scheduler. -/
  | admitCore (fn core : Nat)
  /-- ARRAY_TEST R565 FT_CMD ARRAY_TEST tests one quiesced array. -/
  | arrayTest (fn core array : Nat)
  /-- FU_UNLOCK R579 A write of 0x0000_F05E to FU_UNLOCK enables the next FU_CMD write. -/
  | fuUnlock (fn v : Nat)
  /-- CORE_REMAP R575 FU_CMD CORE_REMAP burns a spare-core change and moves a logical core to a new slot. -/
  | coreRemap (fn core slot : Nat)
  /-- LANE_REMAP R577 FU_CMD LANE_REMAP burns a lane remap of a port. -/
  | laneRemap (fn port lane phys : Nat)
  /-- RKE_ADVANCE R582 FU_CMD RKE_ADVANCE raises the tenant root-key epoch. -/
  | rkeAdvance (fn : Nat)
  /-- PROFILE_RAISE R586 FU_CMD PROFILE_RAISE burns a profile raise that takes effect at the next power-on reset. -/
  | profileRaise (fn v : Nat)
  /-- PROFILE_LOCK R578 FU_CMD PROFILE_LOCK burns the equivalence-profile lock. -/
  | profileLock (fn : Nat)
  /-- DEBUG_LOCK R583 FU_CMD DEBUG_LOCK burns the debug lockout. -/
  | debugLock (fn : Nat)
  /-- REGISTER_WRITE R9 A write to a register field that has no row of its own takes effect according to its access code and the field's own range checks. -/
  | registerWrite (fn addr v be : Nat)
  /-- LOWER_WORD_READ R5 A read of the lower word of a two-register value captures the upper word for the reading function. -/
  | lowerWordRead (fn addr : Nat)
  /-- TB_NOW_READ R34 A read of TB_NOW_NS captures both seconds words for the reading function. -/
  | tbNowRead (fn : Nat)
  /-- ERR_CODE_READ R617 A read of ERR_CODE captures ERR_INFO0, ERR_INFO1 and the error time for the reading function. -/
  | errCodeRead (fn page : Nat)
  /-- ERR_CODE_CLR R613 A write of 1 to ERR_CODE.CLR clears the page's error capture set; a capture in the same access wins. -/
  | errCodeClr (fn page : Nat) (edge : Option Status)
  /-- EVT_STAT_CLEAR R619 A W1C write to EVT_STAT clears event edges, except an edge that arrives in the same access, and may resend an MSI-X message. -/
  | evtStatClear (fn page mask edges : Nat)
  /-- BLK_ENABLE R105 A write of BLK_CTRL.ENABLE enables the block or, on a quiesced array page, retires the array. -/
  | blkEnable (fn page : Nat) (en : Bool)
  /-- SOFT_RESET R550 BLK_CTRL.SOFT_RESET on a quiesced page returns its writable fields and error capture to reset values. -/
  | softReset (fn page v : Nat)
  /-- QUIESCE_REQ R51 A write of QUIESCE_REQ closes or reopens the block's ENTRY gate. -/
  | quiesceReq (fn page : Nat) (req : Bool)
  /-- QUIESCE_DONE R51 Admitted work reaches the block's unit boundary, and QUIESCED is set. -/
  | quiesceDone (page : Nat)
  /-- BLK_LOCK R620 A write of 1 to BLK_LOCK.LOCK freezes the page's RWL fields until a reset of the page. -/
  | blkLock (fn page : Nat)
  /-- THROTTLE_STALL R48 A falling edge on VR_ALERT_N closes the ALL gates of the fabric domains and stalls every region. -/
  | throttleStall (lowNs : Nat)
  /-- RESUME R50 RESUME on the POWER page, while STALLED is set and VR_ALERT_N is high, reopens every gate. -/
  | resume (fn page : Nat)
  /-- TB_RATE_WINDOW R632 At the end of each 2^20 ns window, TB_RATE_A and TB_RATE_B take the window's beat counts. -/
  | tbRateWindow (beatsA beatsB : Nat)
  /-- TB_PPS_EN_WRITE R38 A write of PPS_EN starts or stops PPS capture; clearing it drops a pending edge and clears HOLDOVER and LOCKED. -/
  | tbPpsEnWrite (en arm : Bool)
  /-- TICK_EN_WRITE R44 Setting TICK_EN takes the current index as the last delivered and releases overdue delay-list tasks; clearing it stops delivery. -/
  | tickEnWrite (fn : Nat) (en : Bool)
  /-- SLOT_GET R120 An enabled slot with no task issues a blocking get to the scheduler. -/
  | slotGet (core slot : Nat)
  /-- NOP R129 A NOP step does nothing but honours its header bits. -/
  | nop (h : StepHdr)
  /-- ADD R137 VECTOR ADD computes a + b elementwise. -/
  | add (h : StepHdr) (v : VectorStep)
  /-- SUB R137 VECTOR SUB computes a + (−b) elementwise. -/
  | sub (h : StepHdr) (v : VectorStep)
  /-- MUL R137 VECTOR MUL computes a × b elementwise. -/
  | mul (h : StepHdr) (v : VectorStep)
  /-- FMA R137 VECTOR FMA computes a × b + c with one rounding. -/
  | fma (h : StepHdr) (v : VectorStep)
  /-- MAX R137 VECTOR MAX computes the IEEE maximum elementwise. -/
  | max (h : StepHdr) (v : VectorStep)
  /-- MIN R137 VECTOR MIN computes the IEEE minimum elementwise. -/
  | min (h : StepHdr) (v : VectorStep)
  /-- RCP R137 VECTOR RCP computes a correctly rounded reciprocal. -/
  | rcp (h : StepHdr) (v : VectorStep)
  /-- RSQRT R137 VECTOR RSQRT computes a correctly rounded reciprocal square root. -/
  | rsqrt (h : StepHdr) (v : VectorStep)
  /-- EXP R137 VECTOR EXP computes a correctly rounded e^a. -/
  | exp (h : StepHdr) (v : VectorStep)
  /-- CVT R137 VECTOR CVT converts each element through FP32 to OFMT. -/
  | cvt (h : StepHdr) (v : VectorStep)
  /-- SUMRED R137 VECTOR SUMRED sum-reduces each row with the fixed tree. -/
  | sumred (h : StepHdr) (v : VectorStep)
  /-- MAXRED R137 VECTOR MAXRED gives the maximum of each row. -/
  | maxred (h : StepHdr) (v : VectorStep)
  /-- ARGMAX R137 VECTOR ARGMAX gives the index of the lowest-indexed maximum of each row. -/
  | argmax (h : StepHdr) (v : VectorStep)
  /-- RAND R137 VECTOR RAND writes seeded uniform values derived from the hash of R63. -/
  | rand (h : StepHdr) (v : VectorStep)
  /-- WAIT_DEC R235 A SYNC WAIT_DEC waits for the counter to reach VALUE and then subtracts VALUE in the same operation. -/
  | waitDec (h : StepHdr) (ctr value : Nat)
  /-- SIGNAL_REMOTE R244 A SYNC SIGNAL_REMOTE sends a signal over the route to another member after the task's older LINK writes. -/
  | signalRemote (h : StepHdr) (m ctr value : Nat)
  /-- TASK_POST R139 A TASK POST hands a task item to the scheduler, either at once or to a delay list. -/
  | taskPost (h : StepHdr) (dlist delay : Nat) (item : List Byte)
  /-- CHAIN_MARK R174 A TASK CHAIN_MARK sets or moves a mark of a chain. -/
  | chainMark (h : StepHdr) (c m : Nat)
  /-- CHAIN_REWIND R176 A TASK CHAIN_REWIND rewinds a chain to an active mark. -/
  | chainRewind (h : StepHdr) (c m : Nat)
  /-- CHAIN_RELEASE R178 A TASK CHAIN_RELEASE releases a mark and frees the items that only it retained. -/
  | chainRelease (h : StepHdr) (c m : Nat)
  /-- CHAIN_COMMIT R165 A TASK CHAIN_COMMIT counts toward the commit of the source item's child in the chain. -/
  | chainCommit (h : StepHdr) (c : Nat)
  /-- SEAL R140 A SEAL step hashes a record in Sluice, signs the digest and writes the seal block, with soft statuses. -/
  | sealOp (h : StepHdr) (x : SealStep)
  /-- FENCE_FULL R141 FENCE.FULL holds younger steps until every older step has completed and its writes are visible. -/
  | fenceFull (h : StepHdr)
  /-- FENCE_STORE R141 FENCE.STORE holds younger writing steps behind older steps. -/
  | fenceStore (h : StepHdr)
  /-- STEP_COMPLETE R125 A step completes, contributes its flags, applies any SIG_EN signal, and may end or stop its task. -/
  | stepComplete (core slot order : Nat)
  /-- ARRAY_FAULT R110 A shadow mismatch, parity error or uncorrectable accumulator error abandons the whole gang step as FAULTED. -/
  | arrayFault (core array cause col : Nat)
  /-- SHADOW_ADVANCE R103 Every 4,096 beats the spare column moves on to shadow the next presented column. -/
  | shadowAdvance (core array : Nat)
  /-- MA_COLFAIL_WRITE R104 A write to MA_COLFAIL on a quiesced array changes the presented columns and raises MAP_APPLIED. -/
  | maColfailWrite (fn core array x v : Nat)
  /-- MA_CNT_CLR R113 MA_CNT_CLR clears the array's vector, bubble and stall counters. -/
  | maCntClr (fn core array : Nat)
  /-- MVP_CNT_CLR R113 MVP_CNT_CLR clears the MVP counters. -/
  | mvpCntClr (fn core : Nat)
  /-- VU_CNT_CLR R157 VU_CNT_CLR clears the vector unit's element count. -/
  | vuCntClr (fn core : Nat)
  /-- CNT_CLR R298 CNT_CLR clears the counts of the weight-store or activation-store page. -/
  | cntClr (fn n k : Nat)
  /-- LC_CNT_CLR R299 LC_CNT_CLR clears the line-cache counts. -/
  | lcCntClr (fn n : Nat)
  /-- SLOT_EN_WRITE R145 A write of SEQ_CTRL.SLOT_EN enables a slot, or lets its task finish and then turns it OFF. -/
  | slotEnWrite (fn core mask : Nat)
  /-- PREEMPT_SAVE R147 Once started steps have stopped, the save record is written and the task completes PREEMPTED with a resume token. -/
  | preemptSave (core slot : Nat) (stops : List StepPos)
  /-- RESUME_START R150 A free slot reloads a save record and resumes the preempted task. -/
  | resumeStart (core : Nat)
  /-- IMG_LOAD_DONE R154 An image load ends with LOADED set, or with LOAD_STATUS and IMG_LOAD_ERR. -/
  | imgLoadDone (core ctx : Nat)
  /-- CORE_TEST_DONE R570 A core self-test ends, setting MA_COLFAIL, CORE_CAP, CORE_TEST and FT_SLOT_PASS. -/
  | coreTestDone (core : Nat) (t : CoreTest)
  /-- CORE_FATAL_FAULT R563 A core-fatal fault sets FAULT, completes the core's tasks FAULTED, cancels its gets and turns its slots OFF. -/
  | coreFatalFault (core : Nat)
  /-- CHAIN_TAKE R171 A port sink takes the READY item with the lowest PRIO and ENQ_SEQ and assigns it a take sequence number. -/
  | chainTake (p c : Nat)
  /-- CELL_GRANT R185 A producer that waited for a cell receives one and continues its open, arrival or post. -/
  | cellGrant (c : Nat)
  /-- CH_ENABLE R183 A write of the chain's ENABLE enables or disables it, with the reserve checks. -/
  | chEnable (fn c : Nat) (en : Bool)
  /-- CHAIN_OP_COMPLETE R179 A chain operation ends after 8 beats plus one per item changed, and its effect is seen whole. -/
  | chainOpComplete (c : Nat)
  /-- ITEM_EXPAND R204 The scheduler takes an item from a SCHED-sink chain and makes FANOUT tasks on their flows. -/
  | itemExpand (c : Nat)
  /-- STORE_ENTRY_GRANT R219 A task held by back-pressure receives a store entry and joins its flow. -/
  | storeEntryGrant (k : Nat)
  /-- BQ_POP R228 A read of BQ_POP pops one attention-queue entry and captures BQ_TAG. -/
  | bqPop (fn j : Nat)
  /-- BINDING_WRITE R205 A write to a chain binding, checked against FN_CHAN_MASK, restarts takes that an expansion error had stopped. -/
  | bindingWrite (fn c x v : Nat)
  /-- SPILL_REFILL R220 Spilled tasks are read back into the store in spill order once their channel can have entries. -/
  | spillRefill (k : Nat)
  /-- CHN_ENABLE R218 A write of CHN_CTRL.ENABLE enables or disables a channel, with the MIN-sum checks. -/
  | chnEnable (fn k : Nat) (en : Bool)
  /-- LC_CMD_DONE R288 A line-cache command ends once its write-backs are accepted, and raises CMD_DONE. -/
  | lcCmdDone (n : Nat)
  /-- SEG_VALID_SET R283 A write that sets a segment's VALID applies it after the range, overlap and domain checks. -/
  | segValidSet (fn f x v : Nat)
  /-- SEG_VALID_CLEAR R284 A write that clears VALID refuses later accesses and writes back and invalidates the segment's cached lines. -/
  | segValidClear (fn f x v : Nat)
  /-- SEG_DONE R284 The write-backs of a segment clear complete; BUSY clears and SEG_DONE is raised. -/
  | segDone (f : Nat)
  /-- EVICT_S R294 A home receives the drop of a shared line. -/
  | evictS (core l : Nat)
  /-- EVICT_M R294 A home receives a dirty write-back, which a crossing snoop may absorb. -/
  | evictM (core l : Nat)
  /-- ACK R289 A home receives a snoop acknowledgement. -/
  | ack (core l : Nat)
  /-- DATA R289 A home receives snoop data. -/
  | data (core l : Nat)
  /-- NOT_HELD R289 A home receives a snoop reply saying the line is not held. -/
  | notHeld (core l : Nat)
  /-- NOT_HELD_EVICTING R294 A home receives a reply that the line is only in an eviction buffer. -/
  | notHeldEvicting (core l : Nat)
  /-- LOAD_CUR R307 DOM_CMD LOAD_CUR derives and installs a domain's current key set. -/
  | loadCur (fn d : Nat)
  /-- LOAD_NEXT R307 DOM_CMD LOAD_NEXT derives and installs a domain's next key set. -/
  | loadNext (fn d : Nat)
  /-- REKEY_START R321 DOM_CMD REKEY_START begins a key-rotation sweep from RK_PTR 0. -/
  | rekeyStart (fn d : Nat)
  /-- DOM_DISABLE R309 DOM_CMD DISABLE erases a domain's key sets and turns the domain OFF. -/
  | domDisable (fn d : Nat)
  /-- DOM_CMD_DONE R307 A key command completes; RESULT is set and KEY_DONE is raised. -/
  | domCmdDone (d : Nat)
  /-- REKEY_SWEEP_LINE R321 The sweep rewrites one line under NEXT, or poisons it, and advances RK_PTR. -/
  | rekeySweepLine (d : Nat)
  /-- PROT_FILL R319 FILL_CTRL.GO starts zero-filling a physical range under a domain. -/
  | protFill (fn : Nat)
  /-- PL_POP R325 A read of PL_POP pops one protection-log entry and captures its address and time. -/
  | plPop (fn : Nat)
  /-- WSET_COPY_FREED R341 A fill or manifest apply that waited for a copy's BOUND count to reach 0 starts. -/
  | wsetCopyFreed (e : Nat)
  /-- FILL_PART_DONE R341 A core's part of a fill or reload completes and sets its valid bit, or fails. -/
  | fillPartDone (e core : Nat) (src : ReadOutcome)
  /-- MAN_DONE R338 A manifest apply completes and sets the core's valid bit, or fails at an entry. -/
  | manDone (e : Nat) (srcs : List ReadOutcome)
  /-- WSET_DRAINED R347 BOUND of the current copy reaches 0 in DRAINING; the set raises DRAINED and starts reloading. -/
  | wsetDrained (e : Nat)
  /-- RELOAD_DONE R347 A SINGLE reload completes; CUR flips and the set becomes READY or FAILED. -/
  | reloadDone (e : Nat)
  /-- RQ_ENABLE R391 A write of RQ_CFG.ENABLE enables or stops a request ring. -/
  | rqEnable (fn f r cq : Nat) (en : Bool)
  /-- CQ_ENABLE R391 A write of CQ_CFG.ENABLE enables or disables a completion ring. -/
  | cqEnable (fn f r : Nat) (en : Bool)
  /-- SLUICE_FETCH R362 Sluice fetches the next entry of a request ring when a completion entry is free and admission allows. -/
  | sluiceFetch (f r : Nat) (entries : List ReadOutcome)
  /-- DESC_NOP R367 Descriptor NOP completes OK. -/
  | descNop (id : Nat)
  /-- GCM_ENC R368 Descriptor GCM_ENC encrypts and tags with AES-GCM. -/
  | gcmEnc (id : Nat) (src aux : ReadOutcome)
  /-- GCM_DEC R368 Descriptor GCM_DEC decrypts and checks the tag, zeroing DST on failure. -/
  | gcmDec (id : Nat) (src aux : ReadOutcome)
  /-- CTR R367 Descriptor CTR applies AES counter mode. -/
  | ctr (id : Nat) (src : ReadOutcome)
  /-- XTS_ENC R367 Descriptor XTS_ENC encrypts one XTS data unit. -/
  | xtsEnc (id : Nat) (src : ReadOutcome)
  /-- XTS_DEC R367 Descriptor XTS_DEC decrypts one XTS data unit. -/
  | xtsDec (id : Nat) (src : ReadOutcome)
  /-- SHA256 R367 Descriptor SHA256 computes a digest. -/
  | sha256 (id : Nat) (src : ReadOutcome)
  /-- HMAC R367 Descriptor HMAC computes a possibly truncated MAC. -/
  | hmac (id : Nat) (src : ReadOutcome)
  /-- HMAC_CHK R367 Descriptor HMAC_CHK checks a MAC in constant time. -/
  | hmacChk (id : Nat) (src aux : ReadOutcome)
  /-- RANDOM R367 Descriptor RANDOM writes random bytes. -/
  | random (id : Nat)
  /-- KEY_LOAD R381 Descriptor KEY_LOAD loads key material into a slot. -/
  | keyLoad (id : Nat) (src : ReadOutcome)
  /-- KEY_UNWRAP R367 Descriptor KEY_UNWRAP unwraps an AES-KWP blob into a slot. -/
  | keyUnwrap (id : Nat) (src : ReadOutcome)
  /-- KEY_WRAP R367 Descriptor KEY_WRAP wraps a WRAPPABLE slot into a blob. -/
  | keyWrap (id : Nat)
  /-- KEY_GEN R407 Descriptor KEY_GEN generates a key into a slot. -/
  | keyGen (id : Nat)
  /-- KEY_DERIVE R367 Descriptor KEY_DERIVE derives a key with HKDF into a slot. -/
  | keyDerive (id : Nat) (src aux : ReadOutcome)
  /-- KEY_CLEAR R382 Descriptor KEY_CLEAR zeroises a slot. -/
  | keyClear (id : Nat)
  /-- KEY_INFO R383 Descriptor KEY_INFO writes a slot's information record. -/
  | keyInfo (id : Nat)
  /-- SEAL_CHK R388 Descriptor SEAL_CHK checks a seal block against a record. -/
  | sealChk (id : Nat) (src aux : ReadOutcome)
  /-- ECDSA_SIGN R398 PKE ECDSA_SIGN signs with a P-256 key. -/
  | ecdsaSign (id : Nat) (src : ReadOutcome)
  /-- ECDSA_VERIFY R396 PKE ECDSA_VERIFY verifies with a P-256 slot key. -/
  | ecdsaVerify (id : Nat) (src aux : ReadOutcome)
  /-- ECDSA_VERIFY_EXT R396 PKE ECDSA_VERIFY_EXT verifies with a supplied key on a curve table. -/
  | ecdsaVerifyExt (id : Nat) (src aux : ReadOutcome)
  /-- ECDH_P256 R400 PKE ECDH_P256 computes a shared X coordinate, written to DST or a slot. -/
  | ecdhP256 (id : Nat) (src : ReadOutcome)
  /-- ED25519_SIGN R399 PKE ED25519_SIGN signs a message. -/
  | ed25519Sign (id : Nat) (src : ReadOutcome)
  /-- ED25519_VERIFY R399 PKE ED25519_VERIFY verifies with a slot key. -/
  | ed25519Verify (id : Nat) (src aux : ReadOutcome)
  /-- ED25519_VERIFY_EXT R399 PKE ED25519_VERIFY_EXT verifies with a supplied key. -/
  | ed25519VerifyExt (id : Nat) (src aux : ReadOutcome)
  /-- X25519 R400 PKE X25519 computes a shared u value. -/
  | x25519 (id : Nat) (src : ReadOutcome)
  /-- RSA_PRIV R401 PKE RSA_PRIV performs a CRT private exponentiation. -/
  | rsaPriv (id : Nat) (src : ReadOutcome)
  /-- RSA_PUB R401 PKE RSA_PUB performs a public exponentiation. -/
  | rsaPub (id : Nat) (src aux : ReadOutcome)
  /-- POINT_CHECK R403 PKE POINT_CHECK validates a point on a curve table. -/
  | pointCheck (id : Nat) (src : ReadOutcome)
  /-- CURVE_LOAD R409 PKE CURVE_LOAD checks and installs a curve table. -/
  | curveLoad (id : Nat) (src : ReadOutcome)
  /-- CURVE_CLEAR R410 PKE CURVE_CLEAR invalidates a curve table. -/
  | curveClear (id : Nat)
  /-- PKE_UNIT_START R413 A free PKE unit takes a short job, a parked long job or a new long job, in that order. -/
  | pkeUnitStart (u : Nat)
  /-- PKE_YIELD_POINT R414 Every 65,536 beats of a long job, the unit parks it if short work waits. -/
  | pkeYieldPoint (us : List Nat)
  /-- PKE_PARK_DONE R414 Parking or restoring an operation completes after 512 beats. -/
  | pkeParkDone (u : Nat)
  /-- PKE_VALIDATION_END R404 At V beats, an operation that failed validation completes RANGE or NOT_ON_CURVE. -/
  | pkeValidationEnd (u : Nat)
  /-- PKE_OP_COMPLETE R405 At T beats, an operation completes after its fault checks. -/
  | pkeOpComplete (u : Nat) (fault : Bool)
  /-- DESC_COMPLETE R363 A descriptor completes and its completion record is written, after any flush. -/
  | descComplete (id : Nat)
  /-- FN_WIN_WRITE R380 A write to FN_WIN changes a VF's key-slot window, after its checks. -/
  | fnWinWrite (fn f base cnt : Nat) (plainOk : Bool)
  /-- HW_ATTR_WRITE R428 A write of HW_ATTR sets or clears a host-window entry's VALID, after its checks. -/
  | hwAttrWrite (fn e len : Nat) (ro valid : Bool)
  /-- ATS_TRANSLATION R429 An ATS translation completion arrives and is cached, or denies the access, which then completes ABORTED. -/
  | atsTranslation (fn p : Nat) (read write : Bool)
  /-- ATS_INVALIDATE R430 An ATS invalidation request stops use of the matching cache entries. -/
  | atsInvalidate (tag fn p n : Nat)
  /-- ATS_INV_COMPLETE R430 Once the matching requests have finished, the invalidation completion is sent. -/
  | atsInvComplete (tag : Nat)
  /-- HR_INBOUND_ENTRY R434 An inbound ring processes its next entry into a chain item. -/
  | hrInboundEntry (c : Nat) (entry : ReadOutcome)
  /-- HR_OUTBOUND_DELIVER R435 An outbound ring takes an item and writes its payload, entry, optional flush and writeback. -/
  | hrOutboundDeliver (c : Nat)
  /-- HR_RESTART R436 HR_CTRL.RESTART retries a stopped ring entry. -/
  | hrRestart (fn c : Nat)
  /-- IRQ_ROUTE_WRITE R439 A write of IRQ_ROUTE routes the selected page's summary to a vector. -/
  | irqRouteWrite (fn v : Nat) (en : Bool)
  /-- MSIX_UNMASK R440 Unmasking a vector, or leaving the blocking MSI-X state, sends its pending message. -/
  | msixUnmask (fn : Nat) (t : UnmaskTarget)
  /-- D_STATE_CHANGE R442 A function enters or leaves D3hot, stopping or resuming its messages only. -/
  | dStateChange (fn : Nat) (enter : Bool)
  /-- PCIE_LINK_ERROR R447 A link or transaction error is reported through AER and counted. -/
  | pcieLinkError (e : LinkError)
  /-- AB_POP R449 A read of HI_AB_POP pops one abort-log entry. -/
  | abPop (fn : Nat)
  /-- RETRAIN R423 HI_TARGET.RETRAIN retrains the PCI Express link under MAX_SPEED. -/
  | retrain (fn speed width : Nat)
  /-- VF_ENABLE R454 A change of VF Enable or NumVFs creates instances or makes them ABSENT, with FLR. -/
  | vfEnable (n : Nat)
  /-- FLR_DONE R468 An FLR completes, and the instance is READY or QUIESCED. -/
  | flrDone (f : Nat)
  /-- TN_QUIESCE_STAGE R464 A quiesce stage reaches its boundaries and the next stage begins, ending in QUIESCED. -/
  | tnQuiesceStage (f : Nat)
  /-- DL_ENABLE R478 A write of DL_CTRL.EN turns dirty logging on, resetting DL_PI and DL_CI, or off. -/
  | dlEnable (fn f : Nat) (en : Bool)
  /-- DL_CI_DOORBELL R472 A write to DL_CI returns consumed dirty-log entries. -/
  | dlCiDoorbell (fn f p : Nat)
  /-- MB_OUT_SEND R461 MB_OUT_CTRL.SEND delivers the tenant's message to the manager. -/
  | mbOutSend (fn f : Nat)
  /-- MB_REQ_ACK R461 MB_REQ_ACK.ACK acknowledges a tenant message. -/
  | mbReqAck (fn f : Nat)
  /-- MB_RSP_SEND R461 MB_RSP_CTRL.SEND delivers the manager's message to the tenant. -/
  | mbRspSend (fn f : Nat)
  /-- MB_IN_ACK R461 MB_IN_CTRL.ACK acknowledges a manager message. -/
  | mbInAck (fn f : Nat)
  /-- PORT_START R503 PORT_CTRL.START begins lane training of a port. -/
  | portStart (fn p : Nat)
  /-- PORT_STOP R506 PORT_CTRL.STOP begins a graceful leave, or turns the port OFF at once outside DATA. -/
  | portStop (fn p : Nat)
  /-- RECHECK R499 PORT_CTRL.RECHECK returns a HELD port to EXCHANGE. -/
  | recheck (fn p : Nat)
  /-- RESET_SEQ R503 PORT_CTRL.RESET_SEQ discards the replay buffer and the recorded sessions. -/
  | resetSeq (fn p : Nat)
  /-- LANE_LOCKED R499 Every masked lane locks, and the port moves to ALIGN. -/
  | laneLocked (p : Nat)
  /-- TRAIN_TIMEOUT R499 Lanes do not lock within 200 ms; the port goes DOWN with TRAIN_FAIL. -/
  | trainTimeout (p locked : Nat)
  /-- ALIGN_DONE R499 Deskew and flit lock complete, and the port enters EXCHANGE. -/
  | alignDone (p : Nat)
  /-- EXCH_SEND R499 Every 2 µs in EXCHANGE, the port sends an EXCH flit. -/
  | exchSend (p : Nat)
  /-- IDLE R486 A received IDLE flit carries only ACK and credits. -/
  | idle (p : Nat) (h : FlitHdr)
  /-- TSYNC_SEND R522 Every 1 ms in DATA, the port sends a TSYNC. -/
  | tsyncSend (p : Nat)
  /-- RETRY R492 A received RETRY makes the sender resend from the requested number. -/
  | retry (p : Nat) (h : FlitHdr) (want : Nat)
  /-- PORT_TRANSMIT R492 The port sends its next flit when it holds a credit and replay room. -/
  | portTransmit (p src : Nat)
  /-- RESEND_TIMEOUT R492 The oldest unacknowledged flit is 2 µs old with no RETRY; the sender resends from it. -/
  | resendTimeout (p : Nat)
  /-- ACK_TIMEOUT R493 Unacknowledged flits make no ACK progress for 100 µs; the link goes DOWN. -/
  | ackTimeout (p : Nat)
  /-- LOCK_LOST R493 An active lane loses lock; the link goes DOWN. -/
  | lockLost (p l : Nat)
  /-- LANE_ADD R505 LANE_CMD ADD trains a lane while the other lanes carry traffic. -/
  | laneAdd (fn p l : Nat)
  /-- LANE_ADD_DONE R505 The added lane locks and joins by LANE flit, or the ADD ends ABORTED. -/
  | laneAddDone (p : Nat) (ok : Bool)
  /-- LANE_REMOVE R505 LANE_CMD REMOVE sends a LANE flit with the reduced mask. -/
  | laneRemove (fn p l : Nat)
  /-- LANE_FEC_WINDOW R504 At the end of each 1 ms window, a lane whose corrected bytes exceed PORT_LANE_WARN raises LANE_WARN. -/
  | laneFecWindow (p : Nat) (counts : List Nat)
  /-- PORT_REKEY R497 PORT_KEY.REKEY sends a KEY flit and switches to NEXT. -/
  | portRekey (fn p : Nat)
  /-- EPOCH_ARM R520 GRP_CMD.EPOCH_ARM records the next epoch and its tick. -/
  | epochArm (fn : Nat)
  /-- EPOCH_DISARM R520 GRP_CMD.EPOCH_DISARM cancels an armed epoch advance. -/
  | epochDisarm (fn : Nat)
  /-- LEQ_POP R526 A read of LEQ_POP pops one late-error queue entry. -/
  | leqPop (fn : Nat)
  /-- PWR_DONE R538 A domain transition completes, including its start and self-tests, and PWR_DONE is raised. -/
  | pwrDone (d : Nat) (r : StartReport)
  /-- PWR_GOOD_FALL R537 A PWR_GOOD input low for 1 µs forces its domains OFF and raises PWR_GOOD_LOST. -/
  | pwrGoodFall (rail : Nat)
  /-- PWR_GOOD_RISE R556 A PWR_GOOD input rises, allowing its domains to start. -/
  | pwrGoodRise (rail : Nat)
  /-- POWER_ON_RESET R547 PWR_GOOD_AON rises; all state resets, the straps are sampled and the fuse load begins. -/
  | powerOnReset (straps : Nat)
  /-- FUSE_LOAD_DONE R554 The fuse load ends; PD_HOST comes ON and the device reaches HOST_UP or FUSE_BAD. -/
  | fuseLoadDone (bad : Bool)
  /-- PERST_RELEASE R597 PERST_N is released and link training starts. -/
  | perstRelease (speed width : Nat)
  /-- HOT_RESET R547 A hot reset or DL_Down causes a fundamental or host-only reset according to HOT_SCOPE. -/
  | hotReset (speed width : Nat)
  /-- CHIP_RESET R547 A write of 0x0000_C1A5 to CHIP_RESET resets every domain but PD_AON and PD_HOST. -/
  | chipReset (fn v : Nat)
  /-- JTAG_INSTRUCTION R583 A JTAG instruction executes, or is refused after the debug lockout. -/
  | jtagInstruction (x : TapInstr)
  /-- PM_SEND_BYTE R539 PM_XFER.GO with KIND SEND_BYTE starts a PMBus transaction. -/
  | pmSendByte (fn addr code : Nat)
  /-- PM_WRITE_BYTE R539 PM_XFER.GO with KIND WRITE_BYTE starts a PMBus transaction. -/
  | pmWriteByte (fn addr code : Nat)
  /-- PM_WRITE_WORD R540 PM_XFER.GO with KIND WRITE_WORD starts a PMBus transaction, checked against the VOUT guards. -/
  | pmWriteWord (fn addr code : Nat)
  /-- PM_READ_BYTE R539 PM_XFER.GO with KIND READ_BYTE starts a PMBus transaction. -/
  | pmReadByte (fn addr code : Nat)
  /-- PM_READ_WORD R539 PM_XFER.GO with KIND READ_WORD starts a PMBus transaction. -/
  | pmReadWord (fn addr code : Nat)
  /-- PM_BLOCK_READ R539 PM_XFER.GO with KIND BLOCK_READ starts a PMBus transaction. -/
  | pmBlockRead (fn addr code : Nat)
  /-- PM_DONE R539 A PMBus transaction completes OK or ABORTED with its cause. -/
  | pmDone (o : PmOutcome)
  /-- PATCH_LOAD R555 PATCH_CTRL.GO loads a management patch in HOST_UP. -/
  | patchLoad (fn : Nat)
  /-- PATCH_DONE R555 Patch verification completes; the patch is in force or the ROM is kept. -/
  | patchDone (src : ReadOutcome) (version profile : Nat)
  /-- THERMAL_SAMPLE R544 Every 100 µs the die readings refresh, raising THERM_WARN or a trip. -/
  | thermalSample (a b io : Nat)
  /-- TRIP_CLEAR R546 A write of 1 to THERM_STAT.TRIPPED clears the trip when all dies are below 95 °C. -/
  | tripClear (fn : Nat)
  /-- REFILL_DONE R571 A REFILL completes and sets the core's valid bit. -/
  | refillDone (srcs : List ReadOutcome)
  /-- ARRAY_TEST_DONE R565 The array test writes FT_COLRES and raises CMD_DONE. -/
  | arrayTestDone (columns : Nat)
  /-- FT_POP R589 A read of FT_POP pops one fault-log entry. -/
  | ftPop (fn : Nat)
  /-- BAD_CRC_FLIT R491 A flit arrives with a bad CRC after FEC, a failed GCM tag or a sequence gap, and is discarded with a RETRY sent. -/
  | badCrcFlit (p : Nat)
  /-- UNDEFINED_TYPE_FLIT R493 A flit with a good CRC and an undefined TYPE arrives and takes the link DOWN with cause PROTOCOL. -/
  | undefinedTypeFlit (p : Nat)
  /-- CATASTROPHIC_TEMPERATURE R545 An HBM3E stack reports the catastrophic-temperature condition and starts a thermal trip. -/
  | catastrophicTemperature (stack : Nat)
  /-- PORT_KEY_DONE R495 A port key derivation finishes; CUR or NEXT is installed, PORT_KEY.BUSY clears and KEY_DONE is raised. -/
  | portKeyDone (p : Nat)
  /-- TN_DONE R470 REVOKE_ALL finishes returning every resource of the instance, and TN_DONE is raised with BUSY clear. -/
  | tnDone (f : Nat)
  /-- DL_DONE R475 DL_SYNC completes once every earlier write of the VF has its log entry and DL_WB holds the final DL_PI, and DL_DONE is raised. -/
  | dlDone (f : Nat)
  /-- TB_ARM R35 TB_CTRL.ARM arms a timebase load, or loads at once when PPS_EN is 0. -/
  | tbArm
  /-- PPS_RISE R38 A rising transition on PPS_IN is captured while PPS_EN is 1. -/
  | ppsRise
  /-- PPS_EDGE R39 Once PPS_IN has stayed high for 1 µs, the edge is acted on: it is compared, accepted or refused as an outlier, and corrected. -/
  | ppsEdge
  /-- PPS_GLITCH R38 PPS_IN falls before 1 µs high; the pulse is ignored and PPS_GLITCH is raised. -/
  | ppsGlitch
  /-- FREEZE_END R40 A hold that absorbs a positive correction ends, and FREEZE clears. -/
  | freezeEnd
  /-- PPS_MISSING R41 No edge is accepted within 1 s plus the window; holdover is entered. -/
  | ppsMissing
  /-- TICK_DELIVERY R43 A tick boundary is reached and its index is delivered to the delay lists, the weight-switch arms and the epoch arm. -/
  | tickDelivery
  /-- SKEW_MAX_CLR R53 TB_CTRL.SKEW_MAX_CLR clears TB_SKEW_MAX. -/
  | skewMaxClr
  /-- TASK_DISPATCH R211 The dispatcher selects a task for the oldest eligible pending get under the deficit weighting and binds its item to a weight copy. -/
  | taskDispatch
  /-- BLK_CLEAR_DONE R255 A block clear completes and raises CLR_DONE. -/
  | blkClearDone
  /-- SCRUB_STEP R281 The scrubber reads and corrects the next line in granule order at its configured pace. -/
  | scrubStep
  /-- PROT_FILL_LINE R319 The fill writes the next line at the configured rate. -/
  | protFillLine
  /-- RNG_HEALTH_FAIL R376 An entropy health test fails; RNG_STAT.OK clears and RNG_FAIL is raised. -/
  | rngHealthFail
  /-- RNG_RESEED R376 After at most 2^20 requests, the DRBG reseeds. -/
  | rngReseed
  /-- PERST_ASSERT R547 PERST_N low causes a fundamental reset. -/
  | perstAssert
  /-- TAP_RESET R547 TRST or the TAP reset state resets the JTAG TAP. -/
  | tapReset
  /-- BURN_DONE R580 A fuse burn completes with its log entry committed, and BURN_DONE is raised. -/
  | burnDone
  /-- VR_ALERT_N_RISING R50 The regulator releases VR_ALERT_N, so the live THROTTLE level falls and a later RESUME can be accepted. -/
  | vrAlertNRising
  /-- RNG_START_UP_TESTS_PASS R376 After RNG_CTRL.RESTART, the entropy source passes its start-up tests, RNG_STAT.OK sets and randomness-dependent requests run again. -/
  | rngStartUpTestsPass
  /-- DIGEST_DONE R517 The configuration digest computation finishes within 2 µs, sets DIGEST_VALID and raises DIGEST_DONE. -/
  | digestDone
  deriving DecidableEq, Repr

end Sys2Proof
end

