-- ==== Sys2Proof/Decode.lean ====
section
/-!
DEFINITION. The words that spell a command. The table of operations and events gives no row any bits: a command reaches the device as a register
write, a step of an image, a descriptor, a flit or an event, each with its own operands, so no word spells one.
-/

namespace Sys2Proof

/-- The command that a word spells by the table's bits: none, since no row has bits. -/
def decodeTableWord (_nbits _w : Nat) : Option Instr := none

end Sys2Proof
end

