-- ==== Sys2Proof/Config.lean ====
section
/-!
DEFINITION. What the spec leaves to the device and the free values of the model. Each constant here has no body: nothing in Lean can
evaluate it, so a statement about the machine holds whatever it is (assumptions 5 to 7 and 12).
-/

namespace Sys2Proof.Config

/-- Byte `k` that the random generator of R376 gives: the model's counter of bytes drawn selects it (assumption 5). -/
opaque randomByte : Nat → BitVec 8

/-- Byte `i` of the tenant root key at root-key epoch `e` (R582: derived from a fused seed no interface can read; assumption 6). -/
opaque rootKeyByte : Nat → Nat → BitVec 8

/-- A value the spec leaves open, numbered by the model's counter of open values (assumption 7). -/
opaque freeValue : Nat → Nat

/-- Byte `i` of the SHA-256 digest of Colzia's management-patch key, fused at manufacture (R554; assumption 6). -/
opaque patchKeyByte : Nat → BitVec 8

/-- Byte `i` of the public key against which a management patch is verified; the rules place it nowhere in the patch (R555; assumption 6). -/
opaque patchPubByte : Nat → BitVec 8

/-- The set, of a home's 64, in which the directory holds a line (R292 names no set function; assumption 12). -/
opaque dirIndex : Nat → Fin 64

end Sys2Proof.Config
end

