-- ==== Sys2Proof/Machine/Float.lean ====
section
/-!
DEFINITION. Numbers (chapter 03): the formats of R57, exact values, the one rounding of R59, stochastic rounding (R62, R63), conversions up and
down (R60, R61, R72) and the operations of the vector unit and of the arrays on FP32 bits. Flags are the bits of R64.
-/

namespace Sys2Proof.Machine

/-- R64. Flag bits. -/
def INV : Nat := 1
def DZ : Nat := 2
def OVF : Nat := 4
def UNF : Nat := 8
def INX : Nat := 16

/-- R57, R75. The formats. -/
inductive Fmt where
  | fp32 | bf16 | fp16 | e4m3 | e5m2 | int8 | int32
  deriving DecidableEq, Repr

/-- R75. The format of a code; a code not listed is undefined. -/
def Fmt.ofCode : Nat → Option Fmt
  | 0 => some .fp32 | 1 => some .bf16 | 2 => some .fp16 | 3 => some .e4m3 | 4 => some .e5m2 | 5 => some .int8 | 6 => some .int32
  | _ => none

/-- Bytes of one element. -/
def Fmt.bytes : Fmt → Nat
  | .fp32 => 4 | .bf16 => 2 | .fp16 => 2 | .e4m3 => 1 | .e5m2 => 1 | .int8 => 1 | .int32 => 4

/-- Significand bits, the hidden one included. -/
def Fmt.prec : Fmt → Nat
  | .fp32 => 24 | .bf16 => 8 | .fp16 => 11 | .e4m3 => 4 | .e5m2 => 3 | _ => 0

/-- The exponent of the smallest subnormal (R57). -/
def Fmt.quantum : Fmt → Int
  | .fp32 => -149 | .bf16 => -133 | .fp16 => -24 | .e4m3 => -9 | .e5m2 => -16 | _ => 0

/-- Exponent bits. -/
def Fmt.expBits : Fmt → Nat
  | .fp32 => 8 | .bf16 => 8 | .fp16 => 5 | .e4m3 => 4 | .e5m2 => 5 | _ => 0

/-- The largest finite magnitude, in units of the smallest subnormal (R57). -/
def Fmt.maxUnits : Fmt → Nat
  | .fp32 => (2 ^ 24 - 1) * 2 ^ 253 | .bf16 => (2 ^ 8 - 1) * 2 ^ 253 | .fp16 => (2 ^ 11 - 1) * 2 ^ 29
  | .e4m3 => 14 * 2 ^ 14 | .e5m2 => 7 * 2 ^ 29 | _ => 0

/-- The canonical quiet NaN (R58). -/
def Fmt.nan : Fmt → Nat
  | .fp32 => 0x7FC00000 | .bf16 => 0x7FC0 | .fp16 => 0x7E00 | .e4m3 => 0x7F | .e5m2 => 0x7E | _ => 0

/-- Infinity; E4M3 has none (R57). -/
def Fmt.inf : Fmt → Nat
  | .fp32 => 0x7F800000 | .bf16 => 0x7F80 | .fp16 => 0x7C00 | .e5m2 => 0x7C | _ => 0

/-- The largest finite encoding (R57). -/
def Fmt.maxEnc : Fmt → Nat
  | .fp32 => 0x7F7FFFFF | .bf16 => 0x7F7F | .fp16 => 0x7BFF | .e4m3 => 0x7E | .e5m2 => 0x7B | _ => 0

/-- The sign bit of a negative encoding. -/
def Fmt.sign (f : Fmt) (neg : Bool) : Nat := if neg then 2 ^ (8 * f.bytes - 1) else 0

/-- An exact value: NaN, an infinity, or ± m × 2^e. -/
inductive FVal where
  | nan
  | inf (neg : Bool)
  | fin (neg : Bool) (m : Nat) (e : Int)
  deriving DecidableEq, Repr

/-- R57, R72. The exact value that an encoding stands for. -/
def decodeFloat (f : Fmt) (bits : Nat) : FVal :=
  match f with
  | .int8 => let v := bits % 256; if v < 128 then .fin false v 0 else .fin true (256 - v) 0
  | .int32 => let v := bits % 2 ^ 32; if v < 2 ^ 31 then .fin false v 0 else .fin true (2 ^ 32 - v) 0
  | _ =>
    let neg := bitOf bits (8 * f.bytes - 1)
    let fb := f.prec - 1
    let ex := bitsOf bits fb f.expBits
    let fr := bits % 2 ^ fb
    if f == .e4m3 then
      if ex = 15 ∧ fr = 7 then .nan
      else if ex = 0 then .fin neg fr (-9) else .fin neg (fr + 8) ((ex : Int) - 10)
    else if ex = 2 ^ f.expBits - 1 then (if fr = 0 then .inf neg else .nan)
    else if ex = 0 then .fin neg fr f.quantum
    else .fin neg (fr + 2 ^ fb) (f.quantum + (ex : Int) - 1)

/-- Bits of a number. -/
def bitLen (n : Nat) : Nat := if n = 0 then 0 else Nat.log2 n + 1

/-- The quotient m ÷ 2^d rounded to nearest, ties to even (R59), and whether it is inexact. -/
def rne (m d : Nat) : Nat × Bool :=
  let q := m / 2 ^ d
  let r := m % 2 ^ d
  if d = 0 then (m, false)
  else if r = 0 then (q, false)
  else if 2 ^ (d - 1) < r ∨ (r = 2 ^ (d - 1) ∧ q % 2 = 1) then (q + 1, true)
  else (q, true)

/-- A magnitude m × 2^e rounded to p significand bits on a grid no finer than 2^qmin: the significand, its exponent, inexactness. -/
def roundMag (p : Nat) (qmin : Option Int) (m : Nat) (e : Int) : Nat × Int × Bool :=
  let q0 : Int := e + (bitLen m : Int) - (p : Int)
  let q := match qmin with | none => q0 | some x => max x q0
  if q ≤ e then (m * 2 ^ (e - q).toNat, q, false)
  else let r := rne m (q - e).toNat; (r.1, q, r.2)

/-- The encoding of a magnitude of k units of 2^q, q at or above the quantum and k at most 2^prec, that does not overflow. -/
def encodeMag (f : Fmt) (k : Nat) (q : Int) : Nat :=
  let p := f.prec
  let kq := if 2 ^ p ≤ k then (k / 2, q + 1) else (k, q)
  if kq.1 < 2 ^ (p - 1) then kq.1
  else ((kq.2 - f.quantum).toNat + 1) * 2 ^ (p - 1) + (kq.1 - 2 ^ (p - 1))

/-- A magnitude of k × 2^q in units of the smallest subnormal, q at or above the quantum. -/
def magUnits (f : Fmt) (k : Nat) (q : Int) : Nat := k * 2 ^ (q - f.quantum).toNat

/-- R60. What an overflow gives: to FP8 by the step's overflow mode (`propagate`), elsewhere infinity. -/
def overflowed (f : Fmt) (neg propagate : Bool) : Nat :=
  match f with
  | .e4m3 => if propagate then f.nan else f.maxEnc + f.sign neg
  | .e5m2 => (if propagate then f.inf else f.maxEnc) + f.sign neg
  | _ => f.inf + f.sign neg

/-- R59, R60. A finite value rounded to nearest-even into a floating-point format, with its flags. -/
def roundTo (f : Fmt) (propagate neg : Bool) (m : Nat) (e : Int) : Nat × Nat :=
  if m = 0 then (f.sign neg, 0)
  else
    let r := roundMag f.prec (some f.quantum) m e
    if f.maxUnits < magUnits f r.1 r.2.1 then (overflowed f neg propagate, OVF + INX)
    else
      let u := roundMag f.prec none m e
      let tiny := decide (u.2.1 + (bitLen u.1 : Int) < f.quantum + (f.prec : Int))
      (encodeMag f r.1 r.2.1 + f.sign neg, (if r.2.2 then INX else 0) + (if tiny && r.2.2 then UNF else 0))

/-- R63. The 32-bit value x of an element, from seed s and index i. -/
def hash32 (s i : Nat) : Nat :=
  let x := (s % 2 ^ 32) ^^^ (i * 0x9E3779B9 % 2 ^ 32)
  let x := x ^^^ (x / 2 ^ 16)
  let x := x * 0x85EBCA6B % 2 ^ 32
  let x := x ^^^ (x / 2 ^ 13)
  let x := x * 0xC2B2AE35 % 2 ^ 32
  x ^^^ (x / 2 ^ 16)

/-- R62. A finite value rounded stochastically with the 16-bit value r. -/
def roundStochastic (f : Fmt) (propagate neg : Bool) (m : Nat) (e : Int) (r : Nat) : Nat × Nat :=
  if m = 0 then (f.sign neg, 0)
  else
    let q : Int := max f.quantum (e + (bitLen m : Int) - (f.prec : Int))
    let kd := if q ≤ e then (m * 2 ^ (e - q).toNat, 0) else (m / 2 ^ (q - e).toNat, m % 2 ^ (q - e).toNat * 2 ^ 16 / 2 ^ (q - e).toNat)
    let exact := decide (q ≤ e) || m % 2 ^ (q - e).toNat == 0
    let k := if !exact && decide (65536 ≤ kd.2 + r) then kd.1 + 1 else kd.1
    if f.maxUnits < magUnits f k q then (overflowed f neg propagate, OVF + INX)
    else
      let tiny := decide (magUnits f k q < 2 ^ (f.prec - 1))
      (encodeMag f k q + f.sign neg, if exact then 0 else INX + (if tiny then UNF else 0))

/-- R61. A value converted to a signed integer of `w` bits: nearest-even, saturating with INV; NaN gives 0 with INV. -/
def toInt (w : Nat) (v : FVal) : Nat × Nat :=
  match v with
  | .nan => (0, INV)
  | .inf neg => (if neg then 2 ^ (w - 1) else 2 ^ (w - 1) - 1, INV)
  | .fin neg m e =>
    let r := if 0 ≤ e then (m * 2 ^ e.toNat, false) else rne m (-e).toNat
    let top := if neg then 2 ^ (w - 1) else 2 ^ (w - 1) - 1
    if top < r.1 then (top, INV)
    else ((if neg && r.1 != 0 then 2 ^ w - r.1 else r.1), if r.2 then INX else 0)

/-- How an output is converted: format, stochastic rounding, overflow mode. -/
structure OutMode where
  fmt : Fmt
  stochastic : Bool
  propagate : Bool
  deriving DecidableEq, Repr

/-- R59 to R62, R72. A value converted down to the output format; r is the element's 16-bit value of R63. -/
def convertDown (o : OutMode) (r : Nat) (v : FVal) : Nat × Nat :=
  match o.fmt with
  | .int8 => toInt 8 v
  | .int32 => toInt 32 v
  | f =>
    match v with
    | .nan => (f.nan, 0)
    | .inf neg =>
      if f == .e4m3 then (if o.propagate then (f.nan, INV) else (f.maxEnc + f.sign neg, OVF + INX)) else (f.inf + f.sign neg, 0)
    | .fin neg m e => if o.stochastic then roundStochastic f o.propagate neg m e r else roundTo f o.propagate neg m e

/-- R62. Stochastic rounding is refused with these output formats. -/
def OutMode.refused (o : OutMode) : Bool :=
  o.stochastic && (o.fmt == .fp32 || o.fmt == .fp16 || o.fmt == .int8 || o.fmt == .int32)

/-- The exact value of FP32 bits. -/
def f32 (a : Nat) : FVal := decodeFloat .fp32 a

/-- A finite value rounded to FP32 (R59). -/
def toF32 (neg : Bool) (m : Nat) (e : Int) : Nat × Nat := roundTo .fp32 false neg m e

/-- The infinity of FP32. -/
def infF32 (neg : Bool) : Nat := Fmt.inf .fp32 + Fmt.sign .fp32 neg

/-- The exact sum of two finite values; an exact zero sum of unlike signs is +0. -/
def exactAdd (na : Bool) (ma : Nat) (ea : Int) (nb : Bool) (mb : Nat) (eb : Int) : Bool × Nat × Int :=
  let e := min ea eb
  let x := ma * 2 ^ (ea - e).toNat
  let y := mb * 2 ^ (eb - e).toNat
  if na == nb then (na, x + y, e)
  else if x = y then (false, 0, e)
  else if y < x then (na, x - y, e) else (nb, y - x, e)

/-- R72, R74. FP32 addition of exact values, rounded once. -/
def addVal (a b : FVal) : Nat × Nat :=
  match a, b with
  | .nan, _ => (Fmt.nan .fp32, 0)
  | _, .nan => (Fmt.nan .fp32, 0)
  | .inf na, .inf nb => if na == nb then (infF32 na, 0) else (Fmt.nan .fp32, INV)
  | .inf na, _ => (infF32 na, 0)
  | _, .inf nb => (infF32 nb, 0)
  | .fin na ma ea, .fin nb mb eb =>
    if ma = 0 ∧ mb = 0 then (Fmt.sign .fp32 (na && nb), 0)
    else let r := exactAdd na ma ea nb mb eb; toF32 r.1 r.2.1 r.2.2

/-- R72. FP32 addition. -/
def fadd (a b : Nat) : Nat × Nat := addVal (f32 a) (f32 b)

/-- The negative of FP32 bits; NaN stays NaN. -/
def fneg (a : Nat) : Nat := a ^^^ 2 ^ 31

/-- R68, R72. The product of two exact values, rounded once to FP32. -/
def mulVal (a b : FVal) : Nat × Nat :=
  match a, b with
  | .nan, _ => (Fmt.nan .fp32, 0)
  | _, .nan => (Fmt.nan .fp32, 0)
  | .inf na, .inf nb => (infF32 (na != nb), 0)
  | .inf na, .fin nb mb _ => if mb = 0 then (Fmt.nan .fp32, INV) else (infF32 (na != nb), 0)
  | .fin na ma _, .inf nb => if ma = 0 then (Fmt.nan .fp32, INV) else (infF32 (na != nb), 0)
  | .fin na ma ea, .fin nb mb eb => toF32 (na != nb) (ma * mb) (ea + eb)

/-- R72. FP32 multiplication. -/
def fmul (a b : Nat) : Nat × Nat := mulVal (f32 a) (f32 b)

/-- R72, R74. a × b + c with one rounding. -/
def ffma (a b c : Nat) : Nat × Nat :=
  match f32 a, f32 b, f32 c with
  | .nan, _, _ => (Fmt.nan .fp32, 0)
  | _, .nan, _ => (Fmt.nan .fp32, 0)
  | _, _, .nan => (Fmt.nan .fp32, 0)
  | .fin na ma ea, .fin nb mb eb, z =>
    match z with
    | .fin nc mc ec =>
      if ma * mb = 0 ∧ mc = 0 then (Fmt.sign .fp32 ((na != nb) && nc), 0)
      else let r := exactAdd (na != nb) (ma * mb) (ea + eb) nc mc ec; toF32 r.1 r.2.1 r.2.2
    | .inf nc => (infF32 nc, 0)
    | .nan => (Fmt.nan .fp32, 0)
  | x, y, z =>
    let pr := mulVal x y
    if pr.2 = INV then pr else addVal (f32 pr.1) z

/-- The order of R72's maximum and minimum on non-NaN FP32 bits: −0 is below +0. -/
def orderKey (a : Nat) : Int := if 2 ^ 31 ≤ a then -((a - 2 ^ 31 : Nat) : Int) - 1 else (a : Int)

/-- FP32 bits are a NaN. -/
def isNan (a : Nat) : Bool := f32 a == .nan

/-- R72. IEEE maximum. -/
def fmax (a b : Nat) : Nat × Nat :=
  if isNan a || isNan b then (Fmt.nan .fp32, 0) else (if orderKey a < orderKey b then b else a, 0)

/-- R72. IEEE minimum. -/
def fmin (a b : Nat) : Nat × Nat :=
  if isNan a || isNan b then (Fmt.nan .fp32, 0) else (if orderKey b < orderKey a then b else a, 0)

/-- R72, R74. The correctly rounded reciprocal: the quotient to 64 bits beyond the divisor's, with a sticky bit. -/
def frcp (a : Nat) : Nat × Nat :=
  match f32 a with
  | .nan => (Fmt.nan .fp32, 0)
  | .inf neg => (Fmt.sign .fp32 neg, 0)
  | .fin neg m e =>
    if m = 0 then (infF32 neg, DZ)
    else
      let t := bitLen m + 64
      let q := 2 ^ t / m
      let sticky := if 2 ^ t % m = 0 then 0 else 1
      toF32 neg (2 * q + sticky) (-(e + (t : Int)) - 1)

/-- The integer square root, by `n` Newton steps from `x`. -/
def isqrtFrom (n : Nat) : Nat → Nat → Nat
  | 0, x => x
  | fuel + 1, x => let y := (x + n / x) / 2; if x ≤ y then x else isqrtFrom n fuel y

/-- The integer square root. -/
def isqrt (n : Nat) : Nat := if n = 0 then 0 else isqrtFrom n (bitLen n + 4) (2 ^ (bitLen n / 2 + 1))

/-- R72, R74. The correctly rounded reciprocal square root. -/
def frsqrt (a : Nat) : Nat × Nat :=
  match f32 a with
  | .nan => (Fmt.nan .fp32, 0)
  | .inf neg => if neg then (Fmt.nan .fp32, INV) else (0, 0)
  | .fin neg m e =>
    if m = 0 then (infF32 neg, DZ)
    else if neg then (Fmt.nan .fp32, INV)
    else
      let m' := if e % 2 = 0 then m else 2 * m
      let h := e / 2
      let t := bitLen m' + 64
      let r := isqrt (2 ^ (2 * t) / m')
      let sticky := if r * r * m' = 2 ^ (2 * t) then 0 else 1
      toF32 false (2 * r + sticky) (-(h + (t : Int)) - 1)

/-- The sum of the Taylor terms of e^y from term `i` on, y and the result in units of 2^-512. -/
def expTerms (y : Nat) : Nat → Nat → Nat → Nat
  | 0, _, _ => 0
  | fuel + 1, i, term => if term = 0 then 0 else term + expTerms y fuel (i + 1) (term * y / 2 ^ 512 / (i + 1))

/-- A number squared `n` times, in units of 2^-512. -/
def squarings : Nat → Nat → Nat
  | 0, x => x
  | n + 1, x => squarings n (x * x / 2 ^ 512)

/-- R72, R74. The correctly rounded exponential: e^|a| to some 400 significant bits (assumption 9), inverted for a negative a, with a sticky bit,
since e^a is irrational for every other a than 0. -/
def fexp (a : Nat) : Nat × Nat :=
  match f32 a with
  | .nan => (Fmt.nan .fp32, 0)
  | .inf neg => if neg then (0, 0) else (infF32 false, 0)
  | .fin neg m e =>
    if m = 0 then (0x3F800000, 0)
    else if 8 < e + (bitLen m : Int) then (if neg then (0, UNF + INX) else (infF32 false, OVF + INX))
    else
      let x := if 0 ≤ e + 500 then m * 2 ^ (e + 500).toNat else 0
      let big := squarings 12 (expTerms x 200 0 (2 ^ 512))
      if neg then toF32 false (2 * (2 ^ 1024 / big) + 1) (-513) else toF32 false (2 * big + 1) (-513)

/-- R69. One level of the balanced tree: neighbours are added, an empty neighbour passes the other through. -/
def treeLevel {α : Type} (add : α → α → α × Nat) : List (Option α) → List (Option α) × Nat
  | a :: b :: rest =>
    let r := treeLevel add rest
    match a, b with
    | some x, some y => let z := add x y; (some z.1 :: r.1, z.2 ||| r.2)
    | some x, none => (some x :: r.1, r.2)
    | none, y => (y :: r.1, r.2)
  | l => (l, 0)

/-- R69. The balanced tree of `n` levels over the leaves. -/
def tree {α : Type} (add : α → α → α × Nat) : Nat → List (Option α) → Option α × Nat
  | 0, l => (l.headD none, 0)
  | n + 1, l => let r := treeLevel add l; let z := tree add n r.1; (z.1, z.2 ||| r.2)

/-- R70. The sum of two accumulators, an empty one passing the other through. -/
def addOpt {α : Type} (add : α → α → α × Nat) (a b : Option α) : Option α × Nat :=
  match a, b with
  | some x, some y => let z := add x y; (some z.1, z.2)
  | some x, none => (some x, 0)
  | none, y => (y, 0)

/-- R70. Saturating INT32 addition with OVF at a bound, on 32-bit two's complement. -/
def iadd (a b : Nat) : Nat × Nat :=
  let v := signed32 a + signed32 b
  if 2147483647 < v then (0x7FFFFFFF, OVF) else if v < -2147483648 then (0x80000000, OVF) else (toSigned32 v, 0)

end Sys2Proof.Machine
end

