-- ==== Sys2Proof/Machine/Map.lean ====
section
/-!
DEFINITION. Sparse data by number, in one canonical form: a list of (key, value) pairs whose keys strictly rise and which lists no
entry equal to what an unlisted key reads as. Registers, memories, slots, contexts, chains and flows are all held so.
-/

namespace Sys2Proof.Machine

/-- A sparse table of `α` by number. -/
abbrev Map (α : Type) := List (Nat × α)

/-- The entry of key `k`, if it is listed. -/
def Map.find {α : Type} : Map α → Nat → Option α
  | [], _ => none
  | (j, v) :: m, k => if k = j then some v else Map.find m k

/-- The value of key `k`, `d` where none is listed. -/
def Map.get {α : Type} (m : Map α) (d : α) (k : Nat) : α := (Map.find m k).getD d

/-- The table with key `k` listed as `v`. -/
def Map.insert {α : Type} : Map α → Nat → α → Map α
  | [], k, v => [(k, v)]
  | (j, w) :: m, k, v =>
    if k < j then (k, v) :: (j, w) :: m else if k = j then (k, v) :: m else (j, w) :: Map.insert m k v

/-- The table with key `k` not listed. -/
def Map.erase {α : Type} (m : Map α) (k : Nat) : Map α := m.filter (fun e => e.1 != k)

/-- The table in which key `k` reads `v`, where an unlisted key reads `d`. -/
def Map.put {α : Type} [DecidableEq α] (d : α) (m : Map α) (k : Nat) (v : α) : Map α :=
  if v = d then Map.erase m k else Map.insert m k v

/-- Every key listed is above `b`, keys strictly rise and no entry equals `d`. -/
def Map.wfFrom {α : Type} [DecidableEq α] (d : α) : Nat → Map α → Bool
  | _, [] => true
  | b, (j, v) :: m => decide (b ≤ j) && decide (v ≠ d) && Map.wfFrom d (j + 1) m

/-- The canonical form of a table whose unlisted keys read `d`. -/
def Map.wf {α : Type} [DecidableEq α] (d : α) (m : Map α) : Bool := Map.wfFrom d 0 m

/-- The table without the keys that satisfy `p`. -/
def Map.drop {α : Type} (p : Nat → Bool) (m : Map α) : Map α := m.filter (fun e => !p e.1)

end Sys2Proof.Machine
end

