-- ==== Sys2Proof/Machine/Registers.lean ====
section
/-!
DEFINITION. Every register field of the spec's register tables, one constant each, named as its table names it (a dot becomes an
underscore). A field is a place in the PF's BAR0 (R611: byte offset of its 32-bit word), a least bit, a width, its access code (R9) and
its reset value. A field of an array takes its indices as arguments: n a logical core, a an array, i a slot, c a chain or a context, k a channel
or a store, d a delay list or a domain, f a function, e a weight set, p a port, w a flow or a link flow, t a stack, j a page of a block,
x the element of the array the table names. A function's own copy of a register (R450) lies at its offset plus f × 2^27.
A reset entry From self-test, Fused or a live state has 0 here until the event that gives the value (assumption 3); CHIP page fields are R557's.
-/

namespace Sys2Proof.Machine

/-- R9. Access codes of register fields. -/
inductive Acc where
  | rw | ro | w1c | w1s | wo | rwl | rwf | rsv
  deriving DecidableEq, Repr

/-- One register field: the byte offset of its word in BAR0, its least bit, its width, its access code, its reset value. -/
structure Field where
  addr : Nat
  lsb : Nat
  width : Nat
  acc : Acc
  reset : Nat
  deriving DecidableEq, Repr

/-- The key under which the register store holds a field: no two fields share a word and a least bit. -/
def Field.key (f : Field) : Nat := f.addr * 32 + f.lsb

/-- The page of a field: its offset [25:12] (R611, R439). -/
def Field.page (f : Field) : Nat := f.addr / 4096

/-! ### TIMEBASE (R53) -/
def TB_CTRL_PPS_EN : Field := ⟨0x2040, 0, 1, .rw, 0⟩
def TB_CTRL_ARM : Field := ⟨0x2040, 1, 1, .w1s, 0⟩
def TB_CTRL_TICK_EN : Field := ⟨0x2040, 2, 1, .rw, 0⟩
def TB_CTRL_SKEW_GATE_EN : Field := ⟨0x2040, 3, 1, .rw, 1⟩
def TB_CTRL_SKEW_MAX_CLR : Field := ⟨0x2040, 4, 1, .w1s, 0⟩
def TB_STAT_ARMED : Field := ⟨0x2044, 0, 1, .ro, 0⟩
def TB_STAT_LOCKED : Field := ⟨0x2044, 1, 1, .ro, 0⟩
def TB_STAT_HOLDOVER : Field := ⟨0x2044, 2, 1, .ro, 0⟩
def TB_STAT_SKEW_HOLD : Field := ⟨0x2044, 3, 1, .ro, 0⟩
def TB_STAT_FREEZE : Field := ⟨0x2044, 4, 1, .ro, 0⟩
def TB_STAT_LOADED_ONCE : Field := ⟨0x2044, 5, 1, .ro, 0⟩
def TB_NOW_NS : Field := ⟨0x2048, 0, 30, .ro, 0⟩
def TB_NOW_SEC_LO : Field := ⟨0x204C, 0, 32, .ro, 0⟩
def TB_NOW_SEC_HI : Field := ⟨0x2050, 0, 16, .ro, 0⟩
def TB_SEC_NEXT_LO : Field := ⟨0x2054, 0, 32, .rw, 0⟩
def TB_SEC_NEXT_HI : Field := ⟨0x2058, 0, 16, .rw, 0⟩
def TB_OFFSET : Field := ⟨0x205C, 0, 32, .rw, 0⟩
def TB_TRIM : Field := ⟨0x2060, 0, 32, .rw, 0⟩
def TB_PPS_ERR : Field := ⟨0x2064, 0, 32, .ro, 0⟩
def TB_PPS_WINDOW : Field := ⟨0x2068, 0, 20, .rw, 1000⟩
def TB_TICK_NS : Field := ⟨0x206C, 0, 32, .rwl, 10000⟩
def TB_TICK_LO : Field := ⟨0x2070, 0, 32, .ro, 0⟩
def TB_TICK_HI : Field := ⟨0x2074, 0, 32, .ro, 0⟩
def TB_SKEW_LIMIT : Field := ⟨0x2078, 0, 17, .rw, 200⟩
def TB_SKEW_MAX : Field := ⟨0x207C, 0, 32, .ro, 0⟩
def TB_RATE_A : Field := ⟨0x2080, 0, 32, .ro, 0⟩
def TB_RATE_B : Field := ⟨0x2084, 0, 32, .ro, 0⟩
def TB_EDGE_CNT : Field := ⟨0x2088, 0, 32, .ro, 0⟩

/-! ### MA (R113) -/
def MA_CAP_PHYS_COLS (n a : Nat) : Field := ⟨0x101000 + n * 0x10000 + a * 0x1000 + 0x040, 0, 7, .ro, 65⟩
def MA_CAP_WIDTH (n a : Nat) : Field := ⟨0x101000 + n * 0x10000 + a * 0x1000 + 0x040, 8, 7, .ro, 0⟩
def MA_CAP_IN_SERVICE (n a : Nat) : Field := ⟨0x101000 + n * 0x10000 + a * 0x1000 + 0x040, 16, 1, .ro, 1⟩
def MA_CAP_SPARE_IN_USE (n a : Nat) : Field := ⟨0x101000 + n * 0x10000 + a * 0x1000 + 0x040, 17, 1, .ro, 0⟩
def MA_COLFAIL0 (n a : Nat) : Field := ⟨0x101000 + n * 0x10000 + a * 0x1000 + 0x044, 0, 32, .rw, 0⟩
def MA_COLFAIL1 (n a : Nat) : Field := ⟨0x101000 + n * 0x10000 + a * 0x1000 + 0x048, 0, 32, .rw, 0⟩
def MA_COLFAIL2 (n a : Nat) : Field := ⟨0x101000 + n * 0x10000 + a * 0x1000 + 0x04C, 0, 1, .rw, 0⟩
def MA_STAGGER (n a : Nat) : Field := ⟨0x101000 + n * 0x10000 + a * 0x1000 + 0x050, 0, 2, .rw, 2⟩
def MA_SHADOW_CUR (n a : Nat) : Field := ⟨0x101000 + n * 0x10000 + a * 0x1000 + 0x054, 0, 7, .ro, 0⟩
def MA_SHADOW_MISMATCH (n a : Nat) : Field := ⟨0x101000 + n * 0x10000 + a * 0x1000 + 0x054, 8, 7, .ro, 127⟩
def MA_SHADOW_ACTIVE (n a : Nat) : Field := ⟨0x101000 + n * 0x10000 + a * 0x1000 + 0x054, 16, 1, .ro, 1⟩
def MA_VEC_CNT (n a : Nat) : Field := ⟨0x101000 + n * 0x10000 + a * 0x1000 + 0x058, 0, 32, .ro, 0⟩
def MA_BUBBLE_CNT (n a : Nat) : Field := ⟨0x101000 + n * 0x10000 + a * 0x1000 + 0x05C, 0, 32, .ro, 0⟩
def MA_STALL_CNT (n a : Nat) : Field := ⟨0x101000 + n * 0x10000 + a * 0x1000 + 0x060, 0, 32, .ro, 0⟩
def MA_CNT_CLR (n a : Nat) : Field := ⟨0x101000 + n * 0x10000 + a * 0x1000 + 0x064, 0, 1, .w1s, 0⟩

/-! ### MVP (R113) -/
def MVP_LIMITS_OUT_BLOCK (n : Nat) : Field := ⟨0x105000 + n * 0x10000 + 0x040, 0, 11, .ro, 1536⟩
def MVP_LIMITS_LINES (n : Nat) : Field := ⟨0x105000 + n * 0x10000 + 0x040, 16, 5, .ro, 24⟩
def MVP_LIMITS_MAXVEC (n : Nat) : Field := ⟨0x105000 + n * 0x10000 + 0x040, 21, 3, .ro, 4⟩
def MVP_KMAX (n : Nat) : Field := ⟨0x105000 + n * 0x10000 + 0x044, 0, 15, .ro, 16384⟩
def MVP_READ_CNT (n : Nat) : Field := ⟨0x105000 + n * 0x10000 + 0x048, 0, 32, .ro, 0⟩
def MVP_STARVE_CNT (n : Nat) : Field := ⟨0x105000 + n * 0x10000 + 0x04C, 0, 32, .ro, 0⟩
def MVP_CNT_CLR (n : Nat) : Field := ⟨0x105000 + n * 0x10000 + 0x050, 0, 1, .w1s, 0⟩

/-! ### CORE (R156) -/
def CORE_ID_LOGICAL (n : Nat) : Field := ⟨0x100000 + n * 0x10000 + 0x040, 0, 4, .ro, n⟩
def CORE_ID_PHYS_SLOT (n : Nat) : Field := ⟨0x100000 + n * 0x10000 + 0x040, 8, 5, .ro, 0⟩
def CORE_ID_DIE (n : Nat) : Field := ⟨0x100000 + n * 0x10000 + 0x040, 16, 1, .ro, 0⟩
def CORE_CAP_ARRAYS (n : Nat) : Field := ⟨0x100000 + n * 0x10000 + 0x044, 0, 4, .ro, 0⟩
def CORE_CAP_SLOTS (n : Nat) : Field := ⟨0x100000 + n * 0x10000 + 0x044, 8, 3, .ro, 4⟩
def CORE_CAP_CTXS (n : Nat) : Field := ⟨0x100000 + n * 0x10000 + 0x044, 16, 5, .ro, 16⟩
def CORE_EPOCH (n : Nat) : Field := ⟨0x100000 + n * 0x10000 + 0x048, 0, 32, .ro, 0⟩
def CORE_TEST_START (n : Nat) : Field := ⟨0x100000 + n * 0x10000 + 0x04C, 0, 1, .w1s, 0⟩
def CORE_TEST_DONE (n : Nat) : Field := ⟨0x100000 + n * 0x10000 + 0x04C, 1, 1, .ro, 0⟩
def CORE_TEST_PASS (n : Nat) : Field := ⟨0x100000 + n * 0x10000 + 0x04C, 2, 1, .ro, 0⟩
def CORE_ISSUE_CNT (n : Nat) : Field := ⟨0x100000 + n * 0x10000 + 0x050, 0, 32, .ro, 0⟩

/-! ### SEQ (R158) -/
def SEQ_CTRL_SLOT_EN (n : Nat) : Field := ⟨0x107000 + n * 0x10000 + 0x040, 0, 4, .rw, 15⟩
def SEQ_CTRL_QUIESCE_PREEMPT (n : Nat) : Field := ⟨0x107000 + n * 0x10000 + 0x040, 8, 1, .rw, 0⟩
def SEQ_PREEMPT (n : Nat) : Field := ⟨0x107000 + n * 0x10000 + 0x044, 0, 4, .w1s, 0⟩
def SEQ_ABORT (n : Nat) : Field := ⟨0x107000 + n * 0x10000 + 0x048, 0, 4, .w1s, 0⟩
def SEQ_RES_TOK (n x : Nat) : Field := ⟨0x107000 + n * 0x10000 + 0x050 + 4 * x, 0, 32, .rw, 0⟩
def SEQ_RES_CTRL_GO (n : Nat) : Field := ⟨0x107000 + n * 0x10000 + 0x060, 0, 1, .w1s, 0⟩
def SEQ_RES_CTRL_DISCARD (n : Nat) : Field := ⟨0x107000 + n * 0x10000 + 0x060, 1, 1, .w1s, 0⟩
def SEQ_RES_CTRL_PENDING (n : Nat) : Field := ⟨0x107000 + n * 0x10000 + 0x060, 2, 1, .ro, 0⟩

/-! ### SLOT (R158) -/
def SLOT_STAT_STATE (n i : Nat) : Field := ⟨0x107000 + n * 0x10000 + 0x100 + i * 0x10, 0, 4, .ro, 1⟩
def SLOT_STAT_CTX (n i : Nat) : Field := ⟨0x107000 + n * 0x10000 + 0x100 + i * 0x10, 4, 4, .ro, 0⟩
def SLOT_STAT_FLOW (n i : Nat) : Field := ⟨0x107000 + n * 0x10000 + 0x100 + i * 0x10, 8, 12, .ro, 0⟩
def SLOT_STAT_INFLIGHT (n i : Nat) : Field := ⟨0x107000 + n * 0x10000 + 0x100 + i * 0x10, 20, 4, .ro, 0⟩
def SLOT_STEP (n i : Nat) : Field := ⟨0x107000 + n * 0x10000 + 0x100 + i * 0x10 + 0x4, 0, 20, .ro, 0⟩
def SLOT_GRP (n i : Nat) : Field := ⟨0x107000 + n * 0x10000 + 0x100 + i * 0x10 + 0x8, 0, 8, .rw, 255⟩
def SLOT_TAG (n i : Nat) : Field := ⟨0x107000 + n * 0x10000 + 0x100 + i * 0x10 + 0xC, 0, 32, .ro, 0⟩

/-! ### CTX (R158) -/
def CTX_CTRL_ENABLE (n c : Nat) : Field := ⟨0x107000 + n * 0x10000 + 0x200 + c * 0x20, 0, 1, .rw, 0⟩
def CTX_CTRL_LOAD (n c : Nat) : Field := ⟨0x107000 + n * 0x10000 + 0x200 + c * 0x20, 1, 1, .w1s, 0⟩
def CTX_STAT_LOADING (n c : Nat) : Field := ⟨0x107000 + n * 0x10000 + 0x200 + c * 0x20 + 0x04, 0, 1, .ro, 0⟩
def CTX_STAT_LOADED (n c : Nat) : Field := ⟨0x107000 + n * 0x10000 + 0x200 + c * 0x20 + 0x04, 1, 1, .ro, 0⟩
def CTX_STAT_LOAD_STATUS (n c : Nat) : Field := ⟨0x107000 + n * 0x10000 + 0x200 + c * 0x20 + 0x04, 8, 8, .ro, 0⟩
def CTX_STAT_ACTIVE (n c : Nat) : Field := ⟨0x107000 + n * 0x10000 + 0x200 + c * 0x20 + 0x04, 16, 3, .ro, 0⟩
def CTX_STAT_SAVED (n c : Nat) : Field := ⟨0x107000 + n * 0x10000 + 0x200 + c * 0x20 + 0x04, 24, 7, .ro, 0⟩
def CTX_IMG_LO (n c : Nat) : Field := ⟨0x107000 + n * 0x10000 + 0x200 + c * 0x20 + 0x08, 12, 20, .rw, 0⟩
def CTX_IMG_HI (n c : Nat) : Field := ⟨0x107000 + n * 0x10000 + 0x200 + c * 0x20 + 0x0C, 0, 8, .rw, 0⟩
def CTX_CFG_VERIFY (n c : Nat) : Field := ⟨0x107000 + n * 0x10000 + 0x200 + c * 0x20 + 0x10, 0, 1, .rwl, 0⟩
def CTX_CFG_IMG_KEY (n c : Nat) : Field := ⟨0x107000 + n * 0x10000 + 0x200 + c * 0x20 + 0x10, 16, 9, .rwl, 0⟩
def CTX_FLAGS (n c : Nat) : Field := ⟨0x107000 + n * 0x10000 + 0x200 + c * 0x20 + 0x14, 0, 5, .w1c, 0⟩
def CTX_SALT (n c : Nat) : Field := ⟨0x107000 + n * 0x10000 + 0x200 + c * 0x20 + 0x18, 0, 32, .rw, 0⟩
def CTX_SAVE_BASE (n c : Nat) : Field := ⟨0x107000 + n * 0x10000 + 0x200 + c * 0x20 + 0x1C, 0, 11, .rw, 0⟩
def CTX_SAVE_CNT (n c : Nat) : Field := ⟨0x107000 + n * 0x10000 + 0x200 + c * 0x20 + 0x1C, 12, 3, .rw, 0⟩
def CTX_SAVE_ACC (n c : Nat) : Field := ⟨0x107000 + n * 0x10000 + 0x200 + c * 0x20 + 0x1C, 16, 5, .rw, 0⟩

/-! ### QUEUE0 (R188) -/
def Q_CAP_CELLS : Field := ⟨0x220040, 0, 14, .ro, 8192⟩
def Q_CAP_CHAINS : Field := ⟨0x220040, 16, 9, .ro, 256⟩
def Q_CAP_MARKS : Field := ⟨0x220040, 25, 4, .ro, 8⟩
def Q_POOL_FREE : Field := ⟨0x220044, 0, 14, .ro, 8192⟩
def Q_POOL_RES_SUM : Field := ⟨0x220044, 16, 14, .ro, 0⟩
def Q_POOL_LOW : Field := ⟨0x220048, 0, 14, .rw, 0⟩
def FN_CELL_CAP (x : Nat) : Field := ⟨0x220000 + 0x050 + 4 * x, 0, 14, .rw, 8192⟩
def FN_CELL_USE (x : Nat) : Field := ⟨0x220000 + 0x080 + 4 * x, 0, 14, .ro, 0⟩

/-! ### CHAIN (R189) -/
def CH_LENGTH (c : Nat) : Field := ⟨0x221000 + (c / 32) * 0x1000 + 0x100 + (c % 32) * 0x40, 0, 14, .rw, 0⟩
def CH_RESERVE (c : Nat) : Field := ⟨0x221000 + (c / 32) * 0x1000 + 0x100 + (c % 32) * 0x40, 16, 14, .rw, 0⟩
def CH_SRC (c : Nat) : Field := ⟨0x221000 + (c / 32) * 0x1000 + 0x100 + (c % 32) * 0x40 + 0x04, 0, 2, .rw, 0⟩
def CH_SRC_PORT (c : Nat) : Field := ⟨0x221000 + (c / 32) * 0x1000 + 0x100 + (c % 32) * 0x40 + 0x04, 2, 3, .rw, 0⟩
def CH_SINK (c : Nat) : Field := ⟨0x221000 + (c / 32) * 0x1000 + 0x100 + (c % 32) * 0x40 + 0x04, 8, 2, .rw, 0⟩
def CH_SINK_PORT (c : Nat) : Field := ⟨0x221000 + (c / 32) * 0x1000 + 0x100 + (c % 32) * 0x40 + 0x04, 10, 3, .rw, 0⟩
def CH_SLOT (c : Nat) : Field := ⟨0x221000 + (c / 32) * 0x1000 + 0x100 + (c % 32) * 0x40 + 0x04, 16, 16, .rw, 0⟩
def CH_PAY_LO (c : Nat) : Field := ⟨0x221000 + (c / 32) * 0x1000 + 0x100 + (c % 32) * 0x40 + 0x08, 12, 20, .rw, 0⟩
def CH_PAY_HI (c : Nat) : Field := ⟨0x221000 + (c / 32) * 0x1000 + 0x100 + (c % 32) * 0x40 + 0x0C, 0, 8, .rw, 0⟩
def CH_ENABLE (c : Nat) : Field := ⟨0x221000 + (c / 32) * 0x1000 + 0x100 + (c % 32) * 0x40 + 0x10, 0, 1, .rw, 0⟩
def CH_APPLY (c : Nat) : Field := ⟨0x221000 + (c / 32) * 0x1000 + 0x100 + (c % 32) * 0x40 + 0x10, 1, 1, .w1s, 0⟩
def CH_TAKE_EN (c : Nat) : Field := ⟨0x221000 + (c / 32) * 0x1000 + 0x100 + (c % 32) * 0x40 + 0x10, 2, 1, .rw, 1⟩
def CH_CMD_OP (c : Nat) : Field := ⟨0x221000 + (c / 32) * 0x1000 + 0x100 + (c % 32) * 0x40 + 0x14, 0, 4, .wo, 0⟩
def CH_CMD_MARK (c : Nat) : Field := ⟨0x221000 + (c / 32) * 0x1000 + 0x100 + (c % 32) * 0x40 + 0x14, 8, 3, .wo, 0⟩
def CH_APPLIED (c : Nat) : Field := ⟨0x221000 + (c / 32) * 0x1000 + 0x100 + (c % 32) * 0x40 + 0x18, 0, 1, .ro, 0⟩
def CH_CMD_BUSY (c : Nat) : Field := ⟨0x221000 + (c / 32) * 0x1000 + 0x100 + (c % 32) * 0x40 + 0x18, 1, 1, .ro, 0⟩
def CH_LINK_HOLD (c : Nat) : Field := ⟨0x221000 + (c / 32) * 0x1000 + 0x100 + (c % 32) * 0x40 + 0x18, 2, 1, .ro, 0⟩
def CH_MARKS (c : Nat) : Field := ⟨0x221000 + (c / 32) * 0x1000 + 0x100 + (c % 32) * 0x40 + 0x18, 8, 8, .ro, 0⟩
def CH_OCC (c : Nat) : Field := ⟨0x221000 + (c / 32) * 0x1000 + 0x100 + (c % 32) * 0x40 + 0x1C, 0, 14, .ro, 0⟩
def CH_READY (c : Nat) : Field := ⟨0x221000 + (c / 32) * 0x1000 + 0x100 + (c % 32) * 0x40 + 0x1C, 16, 14, .ro, 0⟩
def CH_SPENT (c : Nat) : Field := ⟨0x221000 + (c / 32) * 0x1000 + 0x100 + (c % 32) * 0x40 + 0x20, 0, 14, .ro, 0⟩
def CH_OPEN (c : Nat) : Field := ⟨0x221000 + (c / 32) * 0x1000 + 0x100 + (c % 32) * 0x40 + 0x20, 16, 14, .ro, 0⟩
def CH_ENQ_SEQ (c : Nat) : Field := ⟨0x221000 + (c / 32) * 0x1000 + 0x100 + (c % 32) * 0x40 + 0x24, 0, 32, .ro, 0⟩
def CH_TAKE_SEQ (c : Nat) : Field := ⟨0x221000 + (c / 32) * 0x1000 + 0x100 + (c % 32) * 0x40 + 0x28, 0, 32, .ro, 0⟩
def CH_HI (c : Nat) : Field := ⟨0x221000 + (c / 32) * 0x1000 + 0x100 + (c % 32) * 0x40 + 0x2C, 0, 14, .rw, 8192⟩
def CH_LO (c : Nat) : Field := ⟨0x221000 + (c / 32) * 0x1000 + 0x100 + (c % 32) * 0x40 + 0x2C, 16, 14, .rw, 0⟩
def CH_WM_STAT (c : Nat) : Field := ⟨0x221000 + (c / 32) * 0x1000 + 0x100 + (c % 32) * 0x40 + 0x30, 0, 4, .w1c, 0⟩
def CH_WM_LEVEL (c : Nat) : Field := ⟨0x221000 + (c / 32) * 0x1000 + 0x100 + (c % 32) * 0x40 + 0x34, 0, 3, .ro, 2⟩
def CH_WM_EN (c : Nat) : Field := ⟨0x221000 + (c / 32) * 0x1000 + 0x100 + (c % 32) * 0x40 + 0x38, 0, 4, .rw, 0⟩
def CH_DROP_CNT (c : Nat) : Field := ⟨0x221000 + (c / 32) * 0x1000 + 0x100 + (c % 32) * 0x40 + 0x3C, 0, 32, .ro, 0⟩

/-! ### SCHED0 (R223) -/
def SCH_CAP_FLOWS : Field := ⟨0x200040, 0, 13, .ro, 4096⟩
def SCH_CAP_GROUPS : Field := ⟨0x200040, 16, 4, .ro, 8⟩
def SCH_CAP_DLISTS : Field := ⟨0x200040, 20, 4, .ro, 4⟩
def SCH_CAP_CHANNELS : Field := ⟨0x200040, 24, 6, .ro, 32⟩
def SCH_STORE_CAP : Field := ⟨0x200044, 0, 15, .ro, 16384⟩
def SCH_STORE_FREE : Field := ⟨0x200044, 16, 15, .ro, 16384⟩
def SCH_DEF_CAP : Field := ⟨0x200048, 0, 20, .rw, 65535⟩
def SCH_PTR : Field := ⟨0x20004C, 0, 3, .ro, 0⟩
def SCH_STORE_LOW : Field := ⟨0x200050, 0, 15, .rw, 0⟩
def SCH_SPILL_CHN : Field := ⟨0x200054, 0, 5, .ro, 0⟩
def FN_SCHED_POST_CHAN (x : Nat) : Field := ⟨0x200000 + 0x060 + 4 * x, 0, 5, .rw, 0⟩
def FN_SCHED_GRP_MASK (x : Nat) : Field := ⟨0x200000 + 0x060 + 4 * x, 8, 8, .rw, 255⟩
def FN_CHAN_MASK (x : Nat) : Field := ⟨0x200000 + 0x090 + 4 * x, 0, 32, .rw, 4294967295⟩
def GRP_W (x : Nat) : Field := ⟨0x200000 + 0x0C0 + 4 * x, 0, 16, .rw, 1⟩
def GRP_STAT_DEF (x : Nat) : Field := ⟨0x200000 + 0x0E0 + 4 * x, 0, 20, .ro, 0⟩
def GRP_STAT_READY (x : Nat) : Field := ⟨0x200000 + 0x0E0 + 4 * x, 20, 12, .ro, 0⟩
def GRP_DISP_CNT (x : Nat) : Field := ⟨0x200000 + 0x100 + 4 * x, 0, 32, .ro, 0⟩
def GRP_UNITS (x : Nat) : Field := ⟨0x200000 + 0x120 + 4 * x, 0, 32, .ro, 0⟩

/-! ### DL (R224) -/
def SDL_CFG_MODE (d : Nat) : Field := ⟨0x200140 + 0x20 * d, 0, 1, .rw, 0⟩
def SDL_BASE_LO (d : Nat) : Field := ⟨0x200140 + 0x20 * d + 0x04, 0, 32, .rw, 0⟩
def SDL_BASE_HI (d : Nat) : Field := ⟨0x200140 + 0x20 * d + 0x08, 0, 32, .rw, 0⟩
def SDL_COUNT (d : Nat) : Field := ⟨0x200140 + 0x20 * d + 0x0C, 0, 15, .ro, 0⟩
def SDL_NEXT_LO (d : Nat) : Field := ⟨0x200140 + 0x20 * d + 0x10, 0, 32, .ro, 4294967295⟩
def SDL_NEXT_HI (d : Nat) : Field := ⟨0x200140 + 0x20 * d + 0x14, 0, 32, .ro, 4294967295⟩
def SDL_CMD (d : Nat) : Field := ⟨0x200140 + 0x20 * d + 0x18, 0, 2, .wo, 0⟩
def SDL_STAT_BUSY (d : Nat) : Field := ⟨0x200140 + 0x20 * d + 0x1C, 0, 1, .ro, 0⟩

/-! ### CHN (R225) -/
def CHN_CFG_QUOTA (k : Nat) : Field := ⟨0x200200 + 0x20 * k, 0, 15, .rw, 16384⟩
def CHN_CFG_MIN (k : Nat) : Field := ⟨0x200200 + 0x20 * k, 16, 15, .rw, 0⟩
def CHN_CFG_MODE (k : Nat) : Field := ⟨0x200200 + 0x20 * k, 31, 1, .rw, 0⟩
def CHN_SPILL_LO (k : Nat) : Field := ⟨0x200200 + 0x20 * k + 0x04, 12, 20, .rw, 0⟩
def CHN_SPILL_HI (k : Nat) : Field := ⟨0x200200 + 0x20 * k + 0x08, 0, 8, .rw, 0⟩
def CHN_SPILL_SIZE (k : Nat) : Field := ⟨0x200200 + 0x20 * k + 0x0C, 0, 16, .rw, 0⟩
def CHN_CTRL_ENABLE (k : Nat) : Field := ⟨0x200200 + 0x20 * k + 0x10, 0, 1, .rw, 0⟩
def CHN_CTRL_APPLY (k : Nat) : Field := ⟨0x200200 + 0x20 * k + 0x10, 1, 1, .w1s, 0⟩
def CHN_CTRL_CLEAR_LOST (k : Nat) : Field := ⟨0x200200 + 0x20 * k + 0x10, 2, 1, .w1s, 0⟩
def CHN_CTRL_FLUSH_SPILL (k : Nat) : Field := ⟨0x200200 + 0x20 * k + 0x10, 3, 1, .w1s, 0⟩
def CHN_STAT_USED (k : Nat) : Field := ⟨0x200200 + 0x20 * k + 0x14, 0, 15, .ro, 0⟩
def CHN_STAT_APPLIED (k : Nat) : Field := ⟨0x200200 + 0x20 * k + 0x14, 16, 1, .ro, 0⟩
def CHN_STAT_SPILLING (k : Nat) : Field := ⟨0x200200 + 0x20 * k + 0x14, 17, 1, .ro, 0⟩
def CHN_STAT_SPILL_LOST (k : Nat) : Field := ⟨0x200200 + 0x20 * k + 0x14, 18, 1, .ro, 0⟩
def CHN_STAT_WAITING (k : Nat) : Field := ⟨0x200200 + 0x20 * k + 0x14, 19, 1, .ro, 0⟩
def CHN_SPILL_CNT (k : Nat) : Field := ⟨0x200200 + 0x20 * k + 0x18, 0, 21, .ro, 0⟩
def CHN_LOST_CNT (k : Nat) : Field := ⟨0x200200 + 0x20 * k + 0x1C, 0, 32, .ro, 0⟩

/-! ### SCHEDJ (R228) -/
def FLOW_CMD_FLOW (j : Nat) : Field := ⟨0x200000 + j * 0x1000 + 0x040, 0, 9, .wo, 0⟩
def FLOW_CMD_OP (j : Nat) : Field := ⟨0x200000 + j * 0x1000 + 0x040, 16, 4, .wo, 0⟩
def FLOW_CMD_STAT_BUSY (j : Nat) : Field := ⟨0x200000 + j * 0x1000 + 0x044, 0, 1, .ro, 0⟩
def FLOW_CMD_STAT_RESULT (j : Nat) : Field := ⟨0x200000 + j * 0x1000 + 0x044, 8, 8, .ro, 0⟩
def BQ_POP_FLOW (j : Nat) : Field := ⟨0x200000 + j * 0x1000 + 0x048, 0, 9, .ro, 0⟩
def BQ_POP_CORE (j : Nat) : Field := ⟨0x200000 + j * 0x1000 + 0x048, 12, 4, .ro, 0⟩
def BQ_POP_STATUS (j : Nat) : Field := ⟨0x200000 + j * 0x1000 + 0x048, 16, 8, .ro, 0⟩
def BQ_POP_VALID (j : Nat) : Field := ⟨0x200000 + j * 0x1000 + 0x048, 31, 1, .ro, 0⟩
def BQ_TAG (j : Nat) : Field := ⟨0x200000 + j * 0x1000 + 0x04C, 0, 32, .ro, 0⟩
def POST_ITEM (j x : Nat) : Field := ⟨0x200000 + j * 0x1000 + 0x050 + 4 * x, 0, 32, .rw, 0⟩
def POST_DELAY (j : Nat) : Field := ⟨0x200000 + j * 0x1000 + 0x070, 0, 32, .rw, 0⟩
def POST_CTRL_GO (j : Nat) : Field := ⟨0x200000 + j * 0x1000 + 0x074, 0, 1, .w1s, 0⟩
def POST_CTRL_DLIST (j : Nat) : Field := ⟨0x200000 + j * 0x1000 + 0x074, 1, 2, .rw, 0⟩
def POST_CTRL_BUSY (j : Nat) : Field := ⟨0x200000 + j * 0x1000 + 0x074, 3, 1, .ro, 0⟩
def POST_CTRL_STATUS (j : Nat) : Field := ⟨0x200000 + j * 0x1000 + 0x074, 8, 8, .ro, 0⟩
def FLOW_ATTN (j x : Nat) : Field := ⟨0x200000 + j * 0x1000 + 0x100 + 4 * x, 0, 32, .ro, 0⟩

/-! ### BIND (R228) -/
def BIND_CTL_EN (c : Nat) : Field := ⟨0x201000 + (c / 32) * 0x1000 + 0x200 + (c % 32) * 16, 0, 1, .rw, 0⟩
def BIND_CTL_CTX (c : Nat) : Field := ⟨0x201000 + (c / 32) * 0x1000 + 0x200 + (c % 32) * 16, 4, 4, .rw, 0⟩
def BIND_CTL_CHAN (c : Nat) : Field := ⟨0x201000 + (c / 32) * 0x1000 + 0x200 + (c % 32) * 16, 8, 5, .rw, 0⟩
def BIND_CTL_ENTRY (c : Nat) : Field := ⟨0x201000 + (c / 32) * 0x1000 + 0x200 + (c % 32) * 16, 16, 16, .rw, 0⟩
def BIND_FLOW_STRIDE (c : Nat) : Field := ⟨0x201000 + (c / 32) * 0x1000 + 0x200 + (c % 32) * 16 + 0x4, 0, 12, .rw, 0⟩
def BIND_FLOW_COST (c : Nat) : Field := ⟨0x201000 + (c / 32) * 0x1000 + 0x200 + (c % 32) * 16 + 0x4, 16, 12, .rw, 0⟩
def BIND_ARG_STRIDE (c : Nat) : Field := ⟨0x201000 + (c / 32) * 0x1000 + 0x200 + (c % 32) * 16 + 0x8, 0, 32, .rw, 0⟩

/-! ### FLOW (R228) -/
def FLOW_GROUP (w : Nat) : Field := ⟨0x201000 + (w / 512) * 0x1000 + 0x800 + (w % 512) * 4, 0, 3, .rw, 0⟩
def FLOW_ANY (w : Nat) : Field := ⟨0x201000 + (w / 512) * 0x1000 + 0x800 + (w % 512) * 4, 3, 1, .rw, 1⟩
def FLOW_CORE (w : Nat) : Field := ⟨0x201000 + (w / 512) * 0x1000 + 0x800 + (w % 512) * 4, 4, 4, .rw, 0⟩
def FLOW_STATE (w : Nat) : Field := ⟨0x201000 + (w / 512) * 0x1000 + 0x800 + (w % 512) * 4, 8, 3, .ro, 0⟩
def FLOW_STALE (w : Nat) : Field := ⟨0x201000 + (w / 512) * 0x1000 + 0x800 + (w % 512) * 4, 11, 1, .ro, 0⟩
def FLOW_HOLD (w : Nat) : Field := ⟨0x201000 + (w / 512) * 0x1000 + 0x800 + (w % 512) * 4, 12, 1, .rw, 0⟩
def FLOW_LAST_STATUS (w : Nat) : Field := ⟨0x201000 + (w / 512) * 0x1000 + 0x800 + (w % 512) * 4, 13, 8, .ro, 0⟩
def FLOW_QLEN (w : Nat) : Field := ⟨0x201000 + (w / 512) * 0x1000 + 0x800 + (w % 512) * 4, 21, 11, .ro, 0⟩

/-! ### SYNCJ (R265) -/
def SY_PG_BLKS (j : Nat) : Field := ⟨0x210000 + j * 0x1000 + 0x040, 0, 4, .ro, 0⟩
def CNT_NOTIFY (j x : Nat) : Field := ⟨0x210000 + j * 0x1000 + 0x080 + 4 * x, 0, 32, .w1c, 0⟩
def CNT_SATSUM (j x : Nat) : Field := ⟨0x210000 + j * 0x1000 + 0x0A0 + 4 * x, 0, 32, .ro, 0⟩

/-! ### SYNC0 (R266) -/
def SY_CAP_COUNTERS : Field := ⟨0x210100, 0, 13, .ro, 4096⟩
def SY_CAP_BLOCKS : Field := ⟨0x210100, 16, 7, .ro, 64⟩
def SY_BLK_FN (x : Nat) : Field := ⟨0x210000 + 0x110 + 4 * x, 0, 32, .rw, 0⟩
def SY_REMOTE_EN (x : Nat) : Field := ⟨0x210000 + 0x130 + 4 * x, 0, 32, .rw, 0⟩
def SY_BLK_CLR_BLOCK : Field := ⟨0x210140, 0, 6, .wo, 0⟩
def SY_BLK_CLR_GO : Field := ⟨0x210140, 31, 1, .wo, 0⟩
def SY_CLR_STAT_BUSY : Field := ⟨0x210144, 0, 1, .ro, 0⟩
def SY_CLR_STAT_RESULT : Field := ⟨0x210144, 8, 8, .ro, 0⟩
def DBG_SEL : Field := ⟨0x210150, 0, 12, .rw, 0⟩
def DBG_VAL : Field := ⟨0x210154, 0, 32, .ro, 0⟩
def DBG_CMD : Field := ⟨0x210158, 0, 32, .wo, 0⟩
def DBG_WAIT_SEL : Field := ⟨0x210160, 0, 6, .rw, 0⟩
def DBG_WAIT_CTR : Field := ⟨0x210164, 0, 12, .ro, 0⟩
def DBG_WAIT_VALUE : Field := ⟨0x210164, 12, 16, .ro, 0⟩
def DBG_WAIT_KIND : Field := ⟨0x210164, 28, 2, .ro, 0⟩
def SY_REMOTE_DENY_CNT : Field := ⟨0x210170, 0, 32, .ro, 0⟩

/-! ### STORE (R298) -/
def ST_CAP_KIB (n k : Nat) : Field := ⟨0x108000 + n * 0x10000 + k * 0x1000 + 0x040, 0, 16, .ro, if k = 0 then 28672 else 8192⟩
def ST_CAP_BANKS (n k : Nat) : Field := ⟨0x108000 + n * 0x10000 + k * 0x1000 + 0x040, 16, 5, .ro, if k = 0 then 31 else 16⟩
def ST_CE_CNT (n k : Nat) : Field := ⟨0x108000 + n * 0x10000 + k * 0x1000 + 0x044, 0, 32, .ro, 0⟩
def ST_UE_CNT (n k : Nat) : Field := ⟨0x108000 + n * 0x10000 + k * 0x1000 + 0x048, 0, 32, .ro, 0⟩
def ST_ERR_ADDR (n k : Nat) : Field := ⟨0x108000 + n * 0x10000 + k * 0x1000 + 0x04C, 0, 25, .ro, 0⟩
def ST_CONFLICT_CNT (n k : Nat) : Field := ⟨0x108000 + n * 0x10000 + k * 0x1000 + 0x050, 0, 32, .ro, 0⟩
def ST_CNT_CLR (n k : Nat) : Field := ⟨0x108000 + n * 0x10000 + k * 0x1000 + 0x054, 0, 1, .w1s, 0⟩

/-! ### LC (R299) -/
def LC_CAP_SETS (n : Nat) : Field := ⟨0x10A000 + n * 0x10000 + 0x040, 0, 10, .ro, 512⟩
def LC_CAP_WAYS (n : Nat) : Field := ⟨0x10A000 + n * 0x10000 + 0x040, 12, 4, .ro, 8⟩
def LC_CAP_KIB (n : Nat) : Field := ⟨0x10A000 + n * 0x10000 + 0x040, 16, 16, .ro, 512⟩
def LC_CMD (n : Nat) : Field := ⟨0x10A000 + n * 0x10000 + 0x044, 0, 2, .wo, 0⟩
def LC_STAT_BUSY (n : Nat) : Field := ⟨0x10A000 + n * 0x10000 + 0x048, 0, 1, .ro, 0⟩
def LC_STAT_RESULT (n : Nat) : Field := ⟨0x10A000 + n * 0x10000 + 0x048, 8, 8, .ro, 0⟩
def LC_STAT_MISSES (n : Nat) : Field := ⟨0x10A000 + n * 0x10000 + 0x048, 16, 8, .ro, 0⟩
def LC_STAT_EVBUF (n : Nat) : Field := ⟨0x10A000 + n * 0x10000 + 0x048, 24, 5, .ro, 0⟩
def LC_HIT_CNT (n : Nat) : Field := ⟨0x10A000 + n * 0x10000 + 0x4C, 0, 32, .ro, 0⟩
def LC_MISS_CNT (n : Nat) : Field := ⟨0x10A000 + n * 0x10000 + 0x50, 0, 32, .ro, 0⟩
def LC_WB_CNT (n : Nat) : Field := ⟨0x10A000 + n * 0x10000 + 0x54, 0, 32, .ro, 0⟩
def LC_SNOOP_CNT (n : Nat) : Field := ⟨0x10A000 + n * 0x10000 + 0x58, 0, 32, .ro, 0⟩
def LC_XEVICT_CNT (n : Nat) : Field := ⟨0x10A000 + n * 0x10000 + 0x5C, 0, 32, .ro, 0⟩
def LC_CNT_CLR (n : Nat) : Field := ⟨0x10A000 + n * 0x10000 + 0x060, 0, 1, .w1s, 0⟩

/-! ### MEM0 (R300) -/
def MEM_CAP_GIB : Field := ⟨0x300040, 0, 16, .ro, 144⟩
def MEM_CAP_STACKS : Field := ⟨0x300040, 16, 4, .ro, 6⟩
def MEM_CAP_PCH : Field := ⟨0x300040, 20, 8, .ro, 192⟩
def SCRUB_CTRL_EN : Field := ⟨0x300044, 0, 1, .rw, 1⟩
def SCRUB_CTRL_PERIOD : Field := ⟨0x300044, 8, 8, .rw, 24⟩
def SCRUB_POS : Field := ⟨0x300048, 0, 30, .ro, 0⟩
def MEM_CE_CNT : Field := ⟨0x30004C, 0, 32, .ro, 0⟩
def MEM_UE_CNT : Field := ⟨0x300050, 0, 32, .ro, 0⟩
def MEM_UE_ADDR_LO : Field := ⟨0x300054, 7, 25, .ro, 0⟩
def MEM_UE_ADDR_HI : Field := ⟨0x300058, 0, 8, .ro, 0⟩
def DIR_BINV_CNT : Field := ⟨0x30005C, 0, 32, .ro, 0⟩
def DIR_XEVICT_CNT : Field := ⟨0x300060, 0, 32, .ro, 0⟩

/-! ### STACK (R300) -/
def MS_STAT_TRAINED (t : Nat) : Field := ⟨0x301000 + t * 0x1000 + 0x040, 0, 1, .ro, 0⟩
def MS_PCH_FAIL (t : Nat) : Field := ⟨0x301000 + t * 0x1000 + 0x044, 0, 32, .ro, 0⟩
def MS_TEMP (t : Nat) : Field := ⟨0x301000 + t * 0x1000 + 0x048, 0, 8, .ro, 0⟩
def MS_CE_CNT (t : Nat) : Field := ⟨0x301000 + t * 0x1000 + 0x04C, 0, 32, .ro, 0⟩
def MS_UE_CNT (t : Nat) : Field := ⟨0x301000 + t * 0x1000 + 0x050, 0, 32, .ro, 0⟩
def MS_OUTSTANDING (t : Nat) : Field := ⟨0x301000 + t * 0x1000 + 0x054, 0, 10, .ro, 0⟩
def MS_RD_LINES (t : Nat) : Field := ⟨0x301000 + t * 0x1000 + 0x058, 0, 32, .ro, 0⟩
def MS_WR_LINES (t : Nat) : Field := ⟨0x301000 + t * 0x1000 + 0x05C, 0, 32, .ro, 0⟩

/-! ### MEMF (R300) -/
def PEAT_BASE_LO (f : Nat) : Field := ⟨0x307000 + f * 0x1000 + 0x044, 12, 20, .rw, 0⟩
def PEAT_BASE_HI (f : Nat) : Field := ⟨0x307000 + f * 0x1000 + 0x048, 0, 32, .rw, 0⟩
def PEAT_LEN (f : Nat) : Field := ⟨0x307000 + f * 0x1000 + 0x04C, 0, 32, .rw, 0⟩
def PEAT_CTRL_EN (f : Nat) : Field := ⟨0x307000 + f * 0x1000 + 0x050, 0, 1, .rw, 0⟩
def SEG_STAT_BUSY (f : Nat) : Field := ⟨0x307000 + f * 0x1000 + 0x058, 0, 1, .ro, 0⟩
def SEG_STAT_RESULT (f : Nat) : Field := ⟨0x307000 + f * 0x1000 + 0x058, 8, 8, .ro, 0⟩
def SEG_FBASE (f x : Nat) : Field := ⟨0x307000 + f * 0x1000 + 0x100 + 16 * x, 0, 19, .rw, 0⟩
def SEG_FBASE_VALID (f x : Nat) : Field := ⟨0x307000 + f * 0x1000 + 0x100 + 16 * x, 31, 1, .rw, 0⟩
def SEG_PBASE (f x : Nat) : Field := ⟨0x307000 + f * 0x1000 + 0x104 + 16 * x, 0, 17, .rw, 0⟩
def SEG_LEN (f x : Nat) : Field := ⟨0x307000 + f * 0x1000 + 0x108 + 16 * x, 0, 17, .rw, 0⟩
def SEG_ATTR_RO (f x : Nat) : Field := ⟨0x307000 + f * 0x1000 + 0x10C + 16 * x, 0, 1, .rw, 0⟩
def SEG_ATTR_PDOM (f x : Nat) : Field := ⟨0x307000 + f * 0x1000 + 0x10C + 16 * x, 4, 4, .rw, 15⟩

/-! ### PROT (R325) -/
def PROT_CAP_DOMAINS : Field := ⟨0x310040, 0, 4, .ro, 15⟩
def PROT_CTRL_REQUIRE_VF : Field := ⟨0x310044, 0, 1, .rwl, 0⟩
def TAG_FAIL_CNT : Field := ⟨0x310048, 0, 32, .ro, 0⟩
def POISON_SET_CNT : Field := ⟨0x31004C, 0, 32, .ro, 0⟩
def POISON_CLR_CNT : Field := ⟨0x310050, 0, 32, .ro, 0⟩
def PL_POP : Field := ⟨0x310054, 0, 32, .ro, 0⟩
def PL_ADDR_LO : Field := ⟨0x310058, 7, 25, .ro, 0⟩
def PL_ADDR_HI : Field := ⟨0x31005C, 0, 8, .ro, 0⟩
def PL_TIME_NS : Field := ⟨0x310060, 0, 30, .ro, 0⟩
def PL_TIME_SEC : Field := ⟨0x310064, 0, 32, .ro, 0⟩
def PL_LOST : Field := ⟨0x310068, 0, 32, .ro, 0⟩
def FILL_PA_LO : Field := ⟨0x310070, 7, 25, .rw, 0⟩
def FILL_PA_HI : Field := ⟨0x310074, 0, 8, .rw, 0⟩
def FILL_LEN : Field := ⟨0x310078, 0, 17, .rw, 0⟩
def FILL_DOM : Field := ⟨0x31007C, 0, 4, .rw, 15⟩
def FILL_BW : Field := ⟨0x31007C, 16, 10, .rw, 100⟩
def FILL_CTRL_GO : Field := ⟨0x310080, 0, 1, .w1s, 0⟩
def FILL_CTRL_BUSY : Field := ⟨0x310080, 1, 1, .ro, 0⟩
def FILL_CTRL_RESULT : Field := ⟨0x310080, 8, 8, .ro, 0⟩

/-! ### DOM (R327) -/
def DOM_CFG_FN (d : Nat) : Field := ⟨0x310100 + 0x20 * d, 0, 4, .rw, 0⟩
def DOM_CFG_SHARE (d : Nat) : Field := ⟨0x310100 + 0x20 * d, 4, 1, .rw, 0⟩
def DOM_CFG_GEN (d : Nat) : Field := ⟨0x310100 + 0x20 * d, 8, 8, .rw, 0⟩
def DOM_KEY_SLOT (d : Nat) : Field := ⟨0x310100 + 0x20 * d + 0x04, 0, 9, .rw, 0⟩
def DOM_CMD_OP (d : Nat) : Field := ⟨0x310100 + 0x20 * d + 0x08, 0, 3, .wo, 0⟩
def DOM_STAT_STATE (d : Nat) : Field := ⟨0x310100 + 0x20 * d + 0x0C, 0, 3, .ro, 0⟩
def DOM_STAT_BUSY (d : Nat) : Field := ⟨0x310100 + 0x20 * d + 0x0C, 3, 1, .ro, 0⟩
def DOM_STAT_IN_USE (d : Nat) : Field := ⟨0x310100 + 0x20 * d + 0x0C, 4, 1, .ro, 0⟩
def DOM_STAT_RESULT (d : Nat) : Field := ⟨0x310100 + 0x20 * d + 0x0C, 8, 8, .ro, 0⟩
def RK_PTR_LO (d : Nat) : Field := ⟨0x310100 + 0x20 * d + 0x10, 7, 25, .ro, 0⟩
def RK_PTR_HI (d : Nat) : Field := ⟨0x310100 + 0x20 * d + 0x14, 0, 8, .ro, 0⟩
def RK_BW (d : Nat) : Field := ⟨0x310100 + 0x20 * d + 0x18, 0, 10, .rw, 100⟩
def RK_LINES (d : Nat) : Field := ⟨0x310100 + 0x20 * d + 0x1C, 0, 32, .ro, 0⟩

/-! ### WEIGHT0 (R353) -/
def W_CAP_SETS : Field := ⟨0x320040, 0, 4, .ro, 8⟩
def W_CAP2_WS_LINES : Field := ⟨0x320044, 0, 18, .ro, 229376⟩
def W_SET_FN : Field := ⟨0x320048, 0, 32, .rw, 4294967295⟩

/-! ### WSET (R354) -/
def WSET_CFG_MODE (e : Nat) : Field := ⟨0x321000 + e * 0x1000 + 0x040, 0, 2, .rw, 0⟩
def WSET_CFG_CORES (e : Nat) : Field := ⟨0x321000 + e * 0x1000 + 0x040, 16, 16, .rw, 0⟩
def WSET_LEN (e : Nat) : Field := ⟨0x321000 + e * 0x1000 + 0x044, 0, 18, .rw, 0⟩
def WSET_BASE0 (e : Nat) : Field := ⟨0x321000 + e * 0x1000 + 0x048, 0, 18, .rw, 0⟩
def WSET_BASE1 (e : Nat) : Field := ⟨0x321000 + e * 0x1000 + 0x04C, 0, 18, .rw, 0⟩
def WSET_SRC0_LO_KIND (e : Nat) : Field := ⟨0x321000 + e * 0x1000 + 0x050, 0, 1, .rw, 0⟩
def WSET_SRC0_LO_ADDR (e : Nat) : Field := ⟨0x321000 + e * 0x1000 + 0x050, 12, 20, .rw, 0⟩
def WSET_SRC0_HI (e : Nat) : Field := ⟨0x321000 + e * 0x1000 + 0x054, 0, 8, .rw, 0⟩
def WSET_DIG_LO_EN (e : Nat) : Field := ⟨0x321000 + e * 0x1000 + 0x060, 0, 1, .rw, 0⟩
def WSET_DIG_LO_ADDR (e : Nat) : Field := ⟨0x321000 + e * 0x1000 + 0x060, 12, 20, .rw, 0⟩
def WSET_DIG_HI (e : Nat) : Field := ⟨0x321000 + e * 0x1000 + 0x064, 0, 8, .rw, 0⟩
def WSET_BW (e : Nat) : Field := ⟨0x321000 + e * 0x1000 + 0x068, 0, 13, .rw, 7200⟩
def WSET_CMD_OP (e : Nat) : Field := ⟨0x321000 + e * 0x1000 + 0x070, 0, 3, .wo, 0⟩
def WSET_CMD_COPY (e : Nat) : Field := ⟨0x321000 + e * 0x1000 + 0x070, 4, 1, .wo, 0⟩
def WSET_CMD_CORE (e : Nat) : Field := ⟨0x321000 + e * 0x1000 + 0x070, 8, 4, .wo, 0⟩
def WSET_CMD_CTX (e : Nat) : Field := ⟨0x321000 + e * 0x1000 + 0x070, 12, 4, .wo, 0⟩
def WSET_OPCORES (e : Nat) : Field := ⟨0x321000 + e * 0x1000 + 0x074, 0, 16, .rw, 65535⟩
def WSET_CTRL_HOLD (e : Nat) : Field := ⟨0x321000 + e * 0x1000 + 0x078, 0, 1, .rw, 1⟩
def WSET_STAT_STATE (e : Nat) : Field := ⟨0x321000 + e * 0x1000 + 0x07C, 0, 3, .ro, 0⟩
def WSET_STAT_CUR (e : Nat) : Field := ⟨0x321000 + e * 0x1000 + 0x07C, 3, 1, .ro, 0⟩
def WSET_STAT_BUSY (e : Nat) : Field := ⟨0x321000 + e * 0x1000 + 0x07C, 4, 1, .ro, 0⟩
def WSET_STAT_WAIT_FREE (e : Nat) : Field := ⟨0x321000 + e * 0x1000 + 0x07C, 5, 1, .ro, 0⟩
def WSET_STAT_RESULT (e : Nat) : Field := ⟨0x321000 + e * 0x1000 + 0x07C, 8, 8, .ro, 0⟩
def WSET_VALID0 (e : Nat) : Field := ⟨0x321000 + e * 0x1000 + 0x080, 0, 16, .ro, 0⟩
def WSET_VALID1 (e : Nat) : Field := ⟨0x321000 + e * 0x1000 + 0x084, 0, 16, .ro, 0⟩
def BOUND0 (e : Nat) : Field := ⟨0x321000 + e * 0x1000 + 0x088, 0, 17, .ro, 0⟩
def BOUND1 (e : Nat) : Field := ⟨0x321000 + e * 0x1000 + 0x08C, 0, 17, .ro, 0⟩
def SW_TICK_LO (e : Nat) : Field := ⟨0x321000 + e * 0x1000 + 0x090, 0, 32, .rw, 0⟩
def SW_TICK_HI (e : Nat) : Field := ⟨0x321000 + e * 0x1000 + 0x094, 0, 32, .rw, 0⟩
def SW_CNT (e : Nat) : Field := ⟨0x321000 + e * 0x1000 + 0x098, 0, 32, .ro, 0⟩
def SW_TIME_NS (e : Nat) : Field := ⟨0x321000 + e * 0x1000 + 0x09C, 0, 30, .ro, 0⟩
def SW_TIME_SEC (e : Nat) : Field := ⟨0x321000 + e * 0x1000 + 0x0A0, 0, 32, .ro, 0⟩
def MAN_ENTRY (e : Nat) : Field := ⟨0x321000 + e * 0x1000 + 0x0A4, 0, 16, .ro, 0⟩

/-! ### SLUICE0 (R389) -/
def SL_CAP_SLOTS : Field := ⟨0x400040, 0, 10, .ro, 512⟩
def SL_CAP_RINGS : Field := ⟨0x400040, 10, 3, .ro, 4⟩
def SL_CAP_OUTSTANDING : Field := ⟨0x400040, 13, 11, .ro, 1024⟩
def SL_ADMITTED : Field := ⟨0x400044, 0, 11, .ro, 0⟩
def RNG_STAT_OK : Field := ⟨0x400048, 0, 1, .ro, 0⟩
def RNG_CTRL_RESTART : Field := ⟨0x40004C, 0, 1, .w1s, 0⟩
def FN_QOS_WEIGHT (x : Nat) : Field := ⟨0x400000 + 0x050 + 4 * x, 0, 16, .rw, 16⟩
def FN_QOS_DESC_MIN (x : Nat) : Field := ⟨0x400000 + 0x050 + 4 * x, 16, 11, .rw, 0⟩
def FN_DESC_CAP (x : Nat) : Field := ⟨0x400000 + 0x080 + 4 * x, 0, 11, .rw, 1024⟩
def FN_WIN_BASE (x : Nat) : Field := ⟨0x400000 + 0x0B0 + 4 * x, 0, 9, .rw, 0⟩
def FN_WIN_CNT (x : Nat) : Field := ⟨0x400000 + 0x0B0 + 4 * x, 16, 10, .rw, 0⟩
def FN_WIN_PLAIN_OK (x : Nat) : Field := ⟨0x400000 + 0x0B0 + 4 * x, 31, 1, .rwl, 0⟩
def SLOT_CMD_SLOT : Field := ⟨0x4000E0, 0, 9, .wo, 0⟩
def SLOT_CMD_OP : Field := ⟨0x4000E0, 28, 4, .wo, 0⟩
def SL_DONE_CNT : Field := ⟨0x4000F0, 0, 32, .ro, 0⟩
def SL_AUTHFAIL_CNT : Field := ⟨0x4000F4, 0, 32, .ro, 0⟩
def SLOT_ATTR_CLASS (x : Nat) : Field := ⟨0x400000 + 0x800 + 4 * x, 0, 5, .ro, 0⟩
def SLOT_ATTR_LOADED (x : Nat) : Field := ⟨0x400000 + 0x800 + 4 * x, 5, 1, .ro, 0⟩
def SLOT_ATTR_WRAPPABLE (x : Nat) : Field := ⟨0x400000 + 0x800 + 4 * x, 6, 1, .ro, 0⟩
def SLOT_ATTR_FN (x : Nat) : Field := ⟨0x400000 + 0x800 + 4 * x, 8, 4, .ro, 0⟩

/-! ### SLUICEF (R390) -/
def FN_WIN_VIEW_BASE (f : Nat) : Field := ⟨0x401000 + f * 0x1000 + 0x040, 0, 9, .ro, 0⟩
def FN_WIN_VIEW_CNT (f : Nat) : Field := ⟨0x401000 + f * 0x1000 + 0x040, 16, 10, .ro, 0⟩
def FN_ADMITTED (f : Nat) : Field := ⟨0x401000 + f * 0x1000 + 0x044, 0, 11, .ro, 0⟩

/-! ### PKE (R417) -/
def PKE_CAP_UNITS : Field := ⟨0x410040, 0, 3, .ro, 4⟩
def PKE_CAP_CURVES : Field := ⟨0x410040, 4, 4, .ro, 8⟩
def PKE_CAP_PARK : Field := ⟨0x410040, 8, 4, .ro, 4⟩
def PKE_CFG_LONG_MAX : Field := ⟨0x410044, 0, 3, .rw, 4⟩
def PKE_QUEUE_SHORT : Field := ⟨0x410048, 0, 11, .ro, 0⟩
def PKE_QUEUE_LONG : Field := ⟨0x410048, 16, 11, .ro, 0⟩
def PKE_UNIT_OPCODE (x : Nat) : Field := ⟨0x410000 + 0x050 + 4 * x, 0, 8, .ro, 255⟩
def PKE_UNIT_LONG (x : Nat) : Field := ⟨0x410000 + 0x050 + 4 * x, 8, 1, .ro, 0⟩
def PKE_UNIT_MOVING (x : Nat) : Field := ⟨0x410000 + 0x050 + 4 * x, 9, 1, .ro, 0⟩
def PKE_UNIT_FN (x : Nat) : Field := ⟨0x410000 + 0x050 + 4 * x, 16, 4, .ro, 0⟩
def PKE_PARKED : Field := ⟨0x410060, 0, 4, .ro, 0⟩
def PKE_OPS_CNT : Field := ⟨0x410064, 0, 32, .ro, 0⟩
def PKE_REFUSE_CNT : Field := ⟨0x410068, 0, 32, .ro, 0⟩
def PKE_YIELD_CNT : Field := ⟨0x41006C, 0, 32, .ro, 0⟩
def PKE_FCHK_CNT : Field := ⟨0x410070, 0, 32, .ro, 0⟩
def CURVE_STAT_VALID (x : Nat) : Field := ⟨0x410000 + 0x080 + 8 * x, 0, 1, .ro, if x < 2 then 1 else 0⟩
def CURVE_STAT_WIDTH (x : Nat) : Field := ⟨0x410000 + 0x080 + 8 * x, 8, 6, .ro, if x < 2 then 32 else 0⟩
def CURVE_STAT_CHECK (x : Nat) : Field := ⟨0x410000 + 0x080 + 8 * x, 16, 4, .ro, 0⟩
def CURVE_STAT_RESULT (x : Nat) : Field := ⟨0x410000 + 0x080 + 8 * x, 24, 8, .ro, 0⟩
def CURVE_GEN (x : Nat) : Field := ⟨0x410000 + 0x084 + 8 * x, 0, 32, .ro, 0⟩

/-! ### HOSTIF0 (R449) -/
def HI_LINK_SPEED : Field := ⟨0x500040, 0, 3, .ro, 0⟩
def HI_LINK_WIDTH : Field := ⟨0x500040, 4, 5, .ro, 0⟩
def HI_LINK_FLIT : Field := ⟨0x500040, 12, 1, .ro, 0⟩
def HI_LINK_DL_ACTIVE : Field := ⟨0x500040, 16, 1, .ro, 0⟩
def HI_TARGET_MAX_SPEED : Field := ⟨0x500044, 0, 3, .rwl, 6⟩
def HI_TARGET_RETRAIN : Field := ⟨0x500044, 3, 1, .w1s, 0⟩
def HI_RD_OUT : Field := ⟨0x500048, 0, 10, .ro, 0⟩
def HI_CE_CNT : Field := ⟨0x500050, 0, 32, .ro, 0⟩
def HI_UE_CNT : Field := ⟨0x500054, 0, 32, .ro, 0⟩
def HI_ABORT_CNT : Field := ⟨0x500058, 0, 32, .ro, 0⟩
def HI_FLUSH_FAIL_CNT : Field := ⟨0x50005C, 0, 32, .ro, 0⟩
def HI_MMIO_ERR_CNT : Field := ⟨0x500060, 0, 32, .ro, 0⟩
def HI_PDOFF_CNT : Field := ⟨0x500064, 0, 32, .ro, 0⟩
def HI_ATC_ENTRIES : Field := ⟨0x500068, 0, 12, .ro, 2048⟩
def HI_ATC_INV_CNT : Field := ⟨0x50006C, 0, 32, .ro, 0⟩
def HI_AB_POP : Field := ⟨0x500070, 0, 32, .ro, 0⟩
def HI_AB_IOVA_LO : Field := ⟨0x500074, 0, 32, .ro, 0⟩
def HI_AB_IOVA_HI : Field := ⟨0x500078, 0, 32, .ro, 0⟩
def HI_AB_TIME_NS : Field := ⟨0x50007C, 0, 30, .ro, 0⟩
def HI_AB_TIME_SEC : Field := ⟨0x500080, 0, 32, .ro, 0⟩
def FN_RD_CAP (x : Nat) : Field := ⟨0x500000 + 0x0A0 + 4 * x, 0, 10, .rw, 768⟩

/-! ### HOSTIFF (R450) -/
def HW_OFF (f x : Nat) : Field := ⟨0x500000 + f * 0x8000000 + 0x200 + 16 * x, 0, 28, .rw, 0⟩
def HW_IOVA_LO (f x : Nat) : Field := ⟨0x500000 + f * 0x8000000 + 0x204 + 16 * x, 12, 20, .rw, 0⟩
def HW_IOVA_HI (f x : Nat) : Field := ⟨0x500000 + f * 0x8000000 + 0x208 + 16 * x, 0, 32, .rw, 0⟩
def HW_ATTR_LEN (f x : Nat) : Field := ⟨0x500000 + f * 0x8000000 + 0x20C + 16 * x, 0, 24, .rw, 0⟩
def HW_ATTR_RO (f x : Nat) : Field := ⟨0x500000 + f * 0x8000000 + 0x20C + 16 * x, 30, 1, .rw, 0⟩
def HW_ATTR_VALID (f x : Nat) : Field := ⟨0x500000 + f * 0x8000000 + 0x20C + 16 * x, 31, 1, .rw, 0⟩
def IRQ_SEL (f : Nat) : Field := ⟨0x500000 + f * 0x8000000 + 0x300, 0, 14, .rw, 0⟩
def IRQ_ROUTE_VECTOR (f : Nat) : Field := ⟨0x500000 + f * 0x8000000 + 0x304, 0, 11, .rw, 0⟩
def IRQ_ROUTE_EN (f : Nat) : Field := ⟨0x500000 + f * 0x8000000 + 0x304, 31, 1, .rw, 0⟩
def FN_ABORT_CNT (f : Nat) : Field := ⟨0x500000 + f * 0x8000000 + 0x308, 0, 32, .ro, 0⟩
def FN_FLUSH_CNT (f : Nat) : Field := ⟨0x500000 + f * 0x8000000 + 0x30C, 0, 32, .ro, 0⟩

/-! ### HR (R451) -/
def HR_BASE_LO (c : Nat) : Field := ⟨0x501000 + (c / 32) * 0x1000 + 0x100 + (c % 32) * 0x40, 12, 20, .rw, 0⟩
def HR_BASE_HI (c : Nat) : Field := ⟨0x501000 + (c / 32) * 0x1000 + 0x100 + (c % 32) * 0x40 + 0x04, 0, 32, .rw, 0⟩
def HR_BUF_LO (c : Nat) : Field := ⟨0x501000 + (c / 32) * 0x1000 + 0x100 + (c % 32) * 0x40 + 0x08, 12, 20, .rw, 0⟩
def HR_BUF_HI (c : Nat) : Field := ⟨0x501000 + (c / 32) * 0x1000 + 0x100 + (c % 32) * 0x40 + 0x0C, 0, 32, .rw, 0⟩
def HR_WB_LO (c : Nat) : Field := ⟨0x501000 + (c / 32) * 0x1000 + 0x100 + (c % 32) * 0x40 + 0x10, 3, 29, .rw, 0⟩
def HR_WB_HI (c : Nat) : Field := ⟨0x501000 + (c / 32) * 0x1000 + 0x100 + (c % 32) * 0x40 + 0x14, 0, 32, .rw, 0⟩
def HR_SIZE (c : Nat) : Field := ⟨0x501000 + (c / 32) * 0x1000 + 0x100 + (c % 32) * 0x40 + 0x18, 0, 14, .rw, 0⟩
def HR_PI (c : Nat) : Field := ⟨0x501000 + (c / 32) * 0x1000 + 0x100 + (c % 32) * 0x40 + 0x1C, 0, 32, .rw, 0⟩
def HR_CI (c : Nat) : Field := ⟨0x501000 + (c / 32) * 0x1000 + 0x100 + (c % 32) * 0x40 + 0x20, 0, 32, .rw, 0⟩
def HR_CTRL_ENABLE (c : Nat) : Field := ⟨0x501000 + (c / 32) * 0x1000 + 0x100 + (c % 32) * 0x40 + 0x24, 0, 1, .rw, 0⟩
def HR_CTRL_IRQ_EACH (c : Nat) : Field := ⟨0x501000 + (c / 32) * 0x1000 + 0x100 + (c % 32) * 0x40 + 0x24, 1, 1, .rw, 0⟩
def HR_CTRL_FLUSH (c : Nat) : Field := ⟨0x501000 + (c / 32) * 0x1000 + 0x100 + (c % 32) * 0x40 + 0x24, 2, 1, .rw, 0⟩
def HR_CTRL_RESTART (c : Nat) : Field := ⟨0x501000 + (c / 32) * 0x1000 + 0x100 + (c % 32) * 0x40 + 0x24, 3, 1, .w1s, 0⟩
def HR_CTRL_SKIP (c : Nat) : Field := ⟨0x501000 + (c / 32) * 0x1000 + 0x100 + (c % 32) * 0x40 + 0x24, 4, 1, .w1s, 0⟩
def HR_STAT_DIR (c : Nat) : Field := ⟨0x501000 + (c / 32) * 0x1000 + 0x100 + (c % 32) * 0x40 + 0x28, 0, 1, .ro, 0⟩
def HR_STAT_STOPPED (c : Nat) : Field := ⟨0x501000 + (c / 32) * 0x1000 + 0x100 + (c % 32) * 0x40 + 0x28, 1, 1, .ro, 0⟩
def HR_STAT_LAST (c : Nat) : Field := ⟨0x501000 + (c / 32) * 0x1000 + 0x100 + (c % 32) * 0x40 + 0x28, 8, 8, .ro, 0⟩
def HR_ERR_CNT (c : Nat) : Field := ⟨0x501000 + (c / 32) * 0x1000 + 0x100 + (c % 32) * 0x40 + 0x2C, 0, 32, .ro, 0⟩
def HR_DUP_CNT (c : Nat) : Field := ⟨0x501000 + (c / 32) * 0x1000 + 0x100 + (c % 32) * 0x40 + 0x30, 0, 32, .ro, 0⟩

/-! ### TENANT0 (R477) -/
def TN_CAP_VFS : Field := ⟨0x510040, 0, 4, .ro, 8⟩
def TN_CAP_MB_WORDS : Field := ⟨0x510040, 8, 5, .ro, 16⟩
def TN_MB_PEND : Field := ⟨0x510044, 0, 8, .ro, 0⟩
def TN_ATTN : Field := ⟨0x510048, 0, 8, .w1c, 0⟩

/-! ### TNF (R477) -/
def TN_STAT_STATE (f : Nat) : Field := ⟨0x510100 + 0x80 * (f - 1), 0, 3, .ro, 0⟩
def TN_STAT_BUSY (f : Nat) : Field := ⟨0x510100 + 0x80 * (f - 1), 3, 1, .ro, 0⟩
def TN_STAT_RESULT (f : Nat) : Field := ⟨0x510100 + 0x80 * (f - 1), 8, 8, .ro, 0⟩
def TN_CMD_OP (f : Nat) : Field := ⟨0x510100 + 0x80 * (f - 1) + 0x04, 0, 3, .wo, 0⟩
def TN_CMD_PREEMPT (f : Nat) : Field := ⟨0x510100 + 0x80 * (f - 1) + 0x04, 8, 1, .wo, 0⟩
def TG_CORES (f : Nat) : Field := ⟨0x510100 + 0x80 * (f - 1) + 0x08, 0, 16, .rw, 0⟩
def TG_PAGES_QPAGES (f : Nat) : Field := ⟨0x510100 + 0x80 * (f - 1) + 0x0C, 0, 8, .rw, 0⟩
def TG_PAGES_MEMCTL_VIEW (f : Nat) : Field := ⟨0x510100 + 0x80 * (f - 1) + 0x0C, 8, 1, .rw, 0⟩
def TN_FLR_TASKS (f : Nat) : Field := ⟨0x510100 + 0x80 * (f - 1) + 0x10, 0, 16, .ro, 0⟩
def TN_FLR_ITEMS (f : Nat) : Field := ⟨0x510100 + 0x80 * (f - 1) + 0x10, 16, 16, .ro, 0⟩
def TN_FLR_DESC (f : Nat) : Field := ⟨0x510100 + 0x80 * (f - 1) + 0x14, 0, 16, .ro, 0⟩
def MB_REQ_ACK_ACK (f : Nat) : Field := ⟨0x510100 + 0x80 * (f - 1) + 0x18, 0, 1, .w1s, 0⟩
def MB_REQ_ACK_PENDING (f : Nat) : Field := ⟨0x510100 + 0x80 * (f - 1) + 0x18, 1, 1, .ro, 0⟩
def MB_RSP_CTRL_SEND (f : Nat) : Field := ⟨0x510100 + 0x80 * (f - 1) + 0x1C, 0, 1, .w1s, 0⟩
def MB_RSP_CTRL_BUSY (f : Nat) : Field := ⟨0x510100 + 0x80 * (f - 1) + 0x1C, 1, 1, .ro, 0⟩
def TDL_BASE_LO (f : Nat) : Field := ⟨0x510100 + 0x80 * (f - 1) + 0x20, 12, 20, .rw, 0⟩
def TDL_BASE_HI (f : Nat) : Field := ⟨0x510100 + 0x80 * (f - 1) + 0x24, 0, 32, .rw, 0⟩
def TDL_WB_LO (f : Nat) : Field := ⟨0x510100 + 0x80 * (f - 1) + 0x28, 3, 29, .rw, 0⟩
def TDL_WB_HI (f : Nat) : Field := ⟨0x510100 + 0x80 * (f - 1) + 0x2C, 0, 32, .rw, 0⟩
def TDL_SIZE (f : Nat) : Field := ⟨0x510100 + 0x80 * (f - 1) + 0x30, 0, 21, .rw, 0⟩
def TDL_PI (f : Nat) : Field := ⟨0x510100 + 0x80 * (f - 1) + 0x34, 0, 32, .ro, 0⟩
def TDL_CI (f : Nat) : Field := ⟨0x510100 + 0x80 * (f - 1) + 0x38, 0, 32, .rw, 0⟩
def TDL_CTRL_EN (f : Nat) : Field := ⟨0x510100 + 0x80 * (f - 1) + 0x3C, 0, 1, .rw, 0⟩
def TDL_STAT_OVF (f : Nat) : Field := ⟨0x510100 + 0x80 * (f - 1) + 0x3C, 8, 1, .ro, 0⟩
def TDL_CNT (f : Nat) : Field := ⟨0x510100 + 0x80 * (f - 1) + 0x40, 0, 32, .ro, 0⟩

/-! ### TENANTF (R479) -/
def TN_SELF_FN (f : Nat) : Field := ⟨0x510000 + f * 0x1000 + 0x040, 0, 4, .ro, f⟩
def TN_SELF_STATE (f : Nat) : Field := ⟨0x510000 + f * 0x1000 + 0x040, 4, 3, .ro, 0⟩
def TN_HELD_CORES (f : Nat) : Field := ⟨0x510000 + f * 0x1000 + 0x044, 0, 16, .ro, 0⟩
def TN_HELD_QPAGES (f : Nat) : Field := ⟨0x510000 + f * 0x1000 + 0x044, 16, 8, .ro, 0⟩
def TN_HELD_MEMCTL_VIEW (f : Nat) : Field := ⟨0x510000 + f * 0x1000 + 0x044, 24, 1, .ro, 0⟩
def MB_OUT_CTRL_SEND (f : Nat) : Field := ⟨0x510000 + f * 0x1000 + 0x048, 0, 1, .w1s, 0⟩
def MB_OUT_CTRL_BUSY (f : Nat) : Field := ⟨0x510000 + f * 0x1000 + 0x048, 1, 1, .ro, 0⟩
def MB_IN_CTRL_ACK (f : Nat) : Field := ⟨0x510000 + f * 0x1000 + 0x04C, 0, 1, .w1s, 0⟩
def MB_IN_CTRL_VALID (f : Nat) : Field := ⟨0x510000 + f * 0x1000 + 0x04C, 1, 1, .ro, 0⟩
def MB_OUT (f x : Nat) : Field := ⟨0x510000 + f * 0x1000 + 0x100 + 4 * x, 0, 32, .rw, 0⟩
def MB_IN (f x : Nat) : Field := ⟨0x510000 + f * 0x1000 + 0x140 + 4 * x, 0, 32, .ro, 0⟩

/-! ### PORT (R524) -/
def PORT_CTRL_START (p : Nat) : Field := ⟨0x600000 + p * 0x10000 + 0x040, 0, 1, .w1s, 0⟩
def PORT_CTRL_STOP (p : Nat) : Field := ⟨0x600000 + p * 0x10000 + 0x040, 1, 1, .w1s, 0⟩
def PORT_CTRL_RECHECK (p : Nat) : Field := ⟨0x600000 + p * 0x10000 + 0x040, 2, 1, .w1s, 0⟩
def PORT_CTRL_RESET_SEQ (p : Nat) : Field := ⟨0x600000 + p * 0x10000 + 0x040, 3, 1, .w1s, 0⟩
def PORT_CTRL_ENC_EN (p : Nat) : Field := ⟨0x600000 + p * 0x10000 + 0x040, 8, 1, .rw, 0⟩
def PORT_CTRL_PEER_CHECK (p : Nat) : Field := ⟨0x600000 + p * 0x10000 + 0x040, 9, 1, .rw, 1⟩
def PORT_CTRL_REQUIRED (p : Nat) : Field := ⟨0x600000 + p * 0x10000 + 0x040, 10, 1, .rw, 0⟩
def PORT_CTRL_PEER_EXPECT (p : Nat) : Field := ⟨0x600000 + p * 0x10000 + 0x040, 16, 8, .rw, 255⟩
def PORT_STAT_STATE (p : Nat) : Field := ⟨0x600000 + p * 0x10000 + 0x044, 0, 3, .ro, 0⟩
def PORT_STAT_RESUMED (p : Nat) : Field := ⟨0x600000 + p * 0x10000 + 0x044, 3, 1, .ro, 0⟩
def PORT_STAT_DOWN_CAUSE (p : Nat) : Field := ⟨0x600000 + p * 0x10000 + 0x044, 4, 4, .ro, 0⟩
def PORT_STAT_MISMATCH (p : Nat) : Field := ⟨0x600000 + p * 0x10000 + 0x044, 8, 7, .ro, 0⟩
def PORT_STAT_KEY_CUR (p : Nat) : Field := ⟨0x600000 + p * 0x10000 + 0x044, 16, 1, .ro, 0⟩
def PORT_STAT_KEY_NEXT (p : Nat) : Field := ⟨0x600000 + p * 0x10000 + 0x044, 17, 1, .ro, 0⟩
def PORT_LANES_LANE_MASK (p : Nat) : Field := ⟨0x600000 + p * 0x10000 + 0x048, 0, 8, .rw, 255⟩
def PORT_LANES_LANE_LOCK (p : Nat) : Field := ⟨0x600000 + p * 0x10000 + 0x048, 8, 8, .ro, 0⟩
def PORT_LANES_LANE_ACTIVE (p : Nat) : Field := ⟨0x600000 + p * 0x10000 + 0x048, 16, 8, .ro, 0⟩
def PORT_LANES_LANE_CMD_LANE (p : Nat) : Field := ⟨0x600000 + p * 0x10000 + 0x048, 24, 3, .wo, 0⟩
def PORT_LANES_LANE_CMD_OP (p : Nat) : Field := ⟨0x600000 + p * 0x10000 + 0x048, 28, 2, .wo, 0⟩
def PORT_LANES_LANE_BUSY (p : Nat) : Field := ⟨0x600000 + p * 0x10000 + 0x048, 30, 1, .ro, 0⟩
def PORT_LANES_LANE_RESULT (p : Nat) : Field := ⟨0x600000 + p * 0x10000 + 0x048, 31, 1, .ro, 0⟩
def PORT_KEY_SLOT (p : Nat) : Field := ⟨0x600000 + p * 0x10000 + 0x04C, 0, 9, .rw, 0⟩
def PORT_KEY_LOAD (p : Nat) : Field := ⟨0x600000 + p * 0x10000 + 0x04C, 12, 1, .w1s, 0⟩
def PORT_KEY_REKEY (p : Nat) : Field := ⟨0x600000 + p * 0x10000 + 0x04C, 13, 1, .w1s, 0⟩
def PORT_KEY_BUSY (p : Nat) : Field := ⟨0x600000 + p * 0x10000 + 0x04C, 14, 1, .ro, 0⟩
def PEER_ID (p : Nat) : Field := ⟨0x600000 + p * 0x10000 + 0x050, 0, 32, .ro, 0⟩
def PEER_GROUP (p : Nat) : Field := ⟨0x600000 + p * 0x10000 + 0x054, 0, 32, .ro, 0⟩
def PEER_INFO (p : Nat) : Field := ⟨0x600000 + p * 0x10000 + 0x058, 0, 25, .ro, 0⟩
def PEER_EPOCH_LO (p : Nat) : Field := ⟨0x600000 + p * 0x10000 + 0x05C, 0, 32, .ro, 0⟩
def PEER_EPOCH_HI (p : Nat) : Field := ⟨0x600000 + p * 0x10000 + 0x060, 0, 32, .ro, 0⟩
def PEER_SEC_LO (p : Nat) : Field := ⟨0x600000 + p * 0x10000 + 0x064, 0, 32, .ro, 0⟩
def PEER_SEC_HI (p : Nat) : Field := ⟨0x600000 + p * 0x10000 + 0x068, 0, 32, .ro, 0⟩
def PEER_DIGEST (p x : Nat) : Field := ⟨0x600000 + p * 0x10000 + 0x06C + 4 * x, 0, 32, .ro, 0⟩
def PORT_SKEW (p : Nat) : Field := ⟨0x600000 + p * 0x10000 + 0x08C, 0, 32, .ro, 0⟩
def SESSION (p : Nat) : Field := ⟨0x600000 + p * 0x10000 + 0x090, 0, 32, .ro, 0⟩
def PEER_SESSION (p : Nat) : Field := ⟨0x600000 + p * 0x10000 + 0x094, 0, 32, .ro, 0⟩
def TX_NEXT (p : Nat) : Field := ⟨0x600000 + p * 0x10000 + 0x098, 0, 32, .ro, 0⟩
def RX_NEXT (p : Nat) : Field := ⟨0x600000 + p * 0x10000 + 0x09C, 0, 32, .ro, 0⟩
def REPLAY_USED (p : Nat) : Field := ⟨0x600000 + p * 0x10000 + 0x0A0, 0, 12, .ro, 0⟩
def CREDITS (p : Nat) : Field := ⟨0x600000 + p * 0x10000 + 0x0A4, 0, 28, .ro, 0⟩
def TX_FLITS (p : Nat) : Field := ⟨0x600000 + p * 0x10000 + 0xA8, 0, 32, .ro, 0⟩
def RX_FLITS (p : Nat) : Field := ⟨0x600000 + p * 0x10000 + 0xAC, 0, 32, .ro, 0⟩
def RETRY_CNT (p : Nat) : Field := ⟨0x600000 + p * 0x10000 + 0xB0, 0, 32, .ro, 0⟩
def CRC_ERR_CNT (p : Nat) : Field := ⟨0x600000 + p * 0x10000 + 0xB4, 0, 32, .ro, 0⟩
def FEC_CORR_CNT (p : Nat) : Field := ⟨0x600000 + p * 0x10000 + 0xB8, 0, 32, .ro, 0⟩
def DOWN_CNT (p : Nat) : Field := ⟨0x600000 + p * 0x10000 + 0xBC, 0, 32, .ro, 0⟩
def PORT_LANE_WARN (p : Nat) : Field := ⟨0x600000 + p * 0x10000 + 0x0C0, 0, 16, .rw, 4096⟩
def LANE_FEC_CNT (p x : Nat) : Field := ⟨0x600000 + p * 0x10000 + 0x100 + 4 * x, 0, 32, .ro, 0⟩
def RX_CHAIN_MAP_CHAIN (p x : Nat) : Field := ⟨0x600000 + p * 0x10000 + 0x400 + 4 * x, 0, 8, .rw, 0⟩
def RX_CHAIN_MAP_VALID (p x : Nat) : Field := ⟨0x600000 + p * 0x10000 + 0x400 + 4 * x, 31, 1, .rw, 0⟩

/-! ### GROUP (R526) -/
def GRP_ID : Field := ⟨0x680040, 0, 32, .rw, 0⟩
def GRP_MEMBER : Field := ⟨0x680044, 0, 8, .rw, 0⟩
def GRP_MEMBERS : Field := ⟨0x680044, 8, 9, .rw, 1⟩
def GRP_FLAGS_ENC_REQUIRED : Field := ⟨0x680048, 0, 1, .rw, 0⟩
def GRP_USER (x : Nat) : Field := ⟨0x680000 + 0x04C + 4 * x, 0, 32, .rw, 0⟩
def GRP_CMD_DIGEST_UPDATE : Field := ⟨0x68006C, 0, 1, .w1s, 0⟩
def GRP_CMD_EPOCH_ARM : Field := ⟨0x68006C, 1, 1, .w1s, 0⟩
def GRP_CMD_EPOCH_DISARM : Field := ⟨0x68006C, 2, 1, .w1s, 0⟩
def GRP_DIGEST (x : Nat) : Field := ⟨0x680000 + 0x070 + 4 * x, 0, 32, .ro, 0⟩
def GRP_EPOCH_LO : Field := ⟨0x680090, 0, 32, .rw, 0⟩
def GRP_EPOCH_HI : Field := ⟨0x680094, 0, 32, .rw, 0⟩
def GRP_EPOCH_NEXT_LO : Field := ⟨0x680098, 0, 32, .rw, 0⟩
def GRP_EPOCH_NEXT_HI : Field := ⟨0x68009C, 0, 32, .rw, 0⟩
def GRP_EPOCH_TICK_LO : Field := ⟨0x6800A0, 0, 32, .rw, 0⟩
def GRP_EPOCH_TICK_HI : Field := ⟨0x6800A4, 0, 32, .rw, 0⟩
def GRP_STAT_FORMED : Field := ⟨0x6800A8, 0, 1, .ro, 0⟩
def GRP_STAT_DIGEST_VALID : Field := ⟨0x6800A8, 1, 1, .ro, 0⟩
def GRP_STAT_EPOCH_ARMED : Field := ⟨0x6800A8, 2, 1, .ro, 0⟩
def GRP_STAT_PORTS_DATA : Field := ⟨0x6800A8, 8, 8, .ro, 0⟩
def GRP_STAT_REQUIRED : Field := ⟨0x6800A8, 16, 8, .ro, 0⟩
def LEQ_POP : Field := ⟨0x6800B0, 0, 32, .ro, 0⟩
def LEQ_REF : Field := ⟨0x6800B4, 0, 20, .ro, 0⟩
def LEQ_SEQ : Field := ⟨0x6800B8, 0, 32, .ro, 0⟩
def LEQ_TIME_NS : Field := ⟨0x6800BC, 0, 30, .ro, 0⟩
def LEQ_TIME_SEC : Field := ⟨0x6800C0, 0, 32, .ro, 0⟩
def LEQ_LOST : Field := ⟨0x6800C4, 0, 32, .ro, 0⟩

/-! ### POWER (R558) -/
def PWR_CMD_DOMAIN : Field := ⟨0x1040, 0, 3, .wo, 0⟩
def PWR_CMD_OP : Field := ⟨0x1040, 4, 2, .wo, 0⟩
def PWR_CMD_FORCE : Field := ⟨0x1040, 8, 1, .wo, 0⟩
def PWR_STAT : Field := ⟨0x1044, 0, 16, .ro, 0⟩
def PWR_GOOD : Field := ⟨0x1048, 0, 5, .ro, 0⟩
def STRAPS : Field := ⟨0x104C, 0, 7, .ro, 0⟩
def SU_STATE : Field := ⟨0x1050, 0, 4, .ro, 0⟩
def SU_STATE_FUSE_BAD : Field := ⟨0x1050, 8, 1, .ro, 0⟩
def SU_STATE_PATCHED : Field := ⟨0x1050, 9, 1, .ro, 0⟩
def RST_CAUSE : Field := ⟨0x1054, 0, 4, .ro, 1⟩
def RST_CFG_HOT_SCOPE : Field := ⟨0x1058, 0, 1, .rwl, 0⟩
def CHIP_RESET : Field := ⟨0x105C, 0, 32, .wo, 0⟩
def CORE_RST : Field := ⟨0x1060, 0, 16, .w1s, 0⟩
def TEMP_A : Field := ⟨0x1064, 0, 16, .ro, 0⟩
def TEMP_B : Field := ⟨0x1068, 0, 16, .ro, 0⟩
def TEMP_IO : Field := ⟨0x106C, 0, 16, .ro, 0⟩
def THERM_WARN_LIMIT : Field := ⟨0x1070, 0, 8, .rw, 95⟩
def THERM_STAT_TRIPPED : Field := ⟨0x1074, 0, 1, .w1c, 0⟩
def THERM_STAT_DIE : Field := ⟨0x1074, 1, 3, .ro, 0⟩
def THERM_STAT_STACK : Field := ⟨0x1074, 4, 4, .ro, 0⟩
def TRIP_TIME_NS : Field := ⟨0x1078, 0, 30, .ro, 0⟩
def TRIP_TIME_SEC : Field := ⟨0x107C, 0, 32, .ro, 0⟩
def VR_ALERT : Field := ⟨0x1080, 0, 1, .ro, 0⟩
def THROTTLE_CNT : Field := ⟨0x1084, 0, 32, .ro, 0⟩
def PWR_RESULT_STATUS (x : Nat) : Field := ⟨0x1000 + 0x100 + 4 * x, 0, 8, .ro, 0⟩
def PWR_RESULT_OP (x : Nat) : Field := ⟨0x1000 + 0x100 + 4 * x, 8, 2, .ro, 0⟩

/-! ### MGMT (R559) -/
def PM_CFG_SPEED : Field := ⟨0x4040, 0, 2, .rw, 1⟩
def PM_CFG_PEC : Field := ⟨0x4040, 4, 1, .rw, 1⟩
def PM_XFER_ADDR : Field := ⟨0x4044, 0, 7, .rw, 0⟩
def PM_XFER_CODE : Field := ⟨0x4044, 8, 8, .rw, 0⟩
def PM_XFER_KIND : Field := ⟨0x4044, 16, 3, .rw, 0⟩
def PM_XFER_GO : Field := ⟨0x4044, 31, 1, .w1s, 0⟩
def PM_WDATA : Field := ⟨0x4048, 0, 16, .rw, 0⟩
def PM_RDATA : Field := ⟨0x404C, 0, 16, .ro, 0⟩
def PM_STAT_BUSY : Field := ⟨0x4050, 0, 1, .ro, 0⟩
def PM_STAT_RESULT : Field := ⟨0x4050, 8, 8, .ro, 0⟩
def PM_STAT_CAUSE : Field := ⟨0x4050, 16, 4, .ro, 0⟩
def PM_BLK (x : Nat) : Field := ⟨0x4000 + 0x060 + 4 * x, 0, 32, .ro, 0⟩
def PATCH_ADDR_LO : Field := ⟨0x4100, 12, 20, .rw, 0⟩
def PATCH_ADDR_HI : Field := ⟨0x4104, 0, 32, .rw, 0⟩
def PATCH_LEN : Field := ⟨0x4108, 0, 19, .rw, 0⟩
def PATCH_CTRL_GO : Field := ⟨0x410C, 0, 1, .w1s, 0⟩
def PATCH_CTRL_BUSY : Field := ⟨0x410C, 1, 1, .ro, 0⟩
def PATCH_CTRL_RESULT : Field := ⟨0x410C, 8, 8, .ro, 0⟩
def PATCH_VER : Field := ⟨0x4110, 0, 16, .ro, 0⟩

/-! ### FUSE (R588) -/
def FU_ID_GRADE : Field := ⟨0x3040, 0, 2, .ro, 0⟩
def FU_ID_STEPPING : Field := ⟨0x3040, 8, 8, .ro, 0⟩
def FU_PROFILE_CUR : Field := ⟨0x3044, 0, 16, .ro, 0⟩
def FU_PROFILE_MAX : Field := ⟨0x3044, 16, 16, .ro, 0⟩
def FU_PROFILE_NEXT : Field := ⟨0x3048, 0, 16, .ro, 0⟩
def FU_LOCKS_PROFILE : Field := ⟨0x304C, 0, 1, .ro, 0⟩
def FU_LOCKS_DEBUG : Field := ⟨0x304C, 1, 1, .ro, 0⟩
def FU_REMAIN_CORE : Field := ⟨0x3050, 0, 3, .ro, 0⟩
def FU_REMAIN_RKE : Field := ⟨0x3050, 8, 7, .ro, 0⟩
def FU_REMAIN_PROFILE : Field := ⟨0x3050, 16, 4, .ro, 0⟩
def FU_LANE_REMAIN : Field := ⟨0x3054, 0, 32, .ro, 0⟩
def FU_RKE_EPOCH : Field := ⟨0x3058, 0, 7, .ro, 0⟩
def FU_CORE_MAP0 : Field := ⟨0x3060, 0, 32, .ro, 0⟩
def FU_CORE_MAP1 : Field := ⟨0x3064, 0, 32, .ro, 0⟩
def FU_LANE_MAP (x : Nat) : Field := ⟨0x3000 + 0x070 + 4 * x, 0, 32, .ro, 0⟩
def FU_UNLOCK : Field := ⟨0x30A0, 0, 32, .wo, 0⟩
def FU_CMD_OP : Field := ⟨0x30A4, 0, 4, .rwf, 0⟩
def FU_CMD_ARG0 : Field := ⟨0x30A4, 8, 4, .rwf, 0⟩
def FU_CMD_ARG1 : Field := ⟨0x30A4, 12, 4, .rwf, 0⟩
def FU_CMD_VALUE : Field := ⟨0x30A4, 16, 16, .rwf, 0⟩
def FU_STAT_BUSY : Field := ⟨0x30A8, 0, 1, .ro, 0⟩
def FU_STAT_RESULT : Field := ⟨0x30A8, 8, 8, .ro, 0⟩
def FU_LOG_SEL : Field := ⟨0x30B0, 0, 8, .rw, 0⟩
def FU_LOG_CNT : Field := ⟨0x30B4, 0, 8, .ro, 0⟩
def FU_LOG0 : Field := ⟨0x30B8, 0, 32, .ro, 0⟩
def FU_LOG1 : Field := ⟨0x30BC, 0, 32, .ro, 0⟩
def FU_LOG2 : Field := ⟨0x30C0, 0, 32, .ro, 0⟩
def FU_LOG3 : Field := ⟨0x30C4, 0, 32, .ro, 0⟩

/-! ### FAULT (R589) -/
def FT_POP_CLASS : Field := ⟨0x700040, 0, 5, .ro, 0⟩
def FT_POP_STATUS : Field := ⟨0x700040, 8, 8, .ro, 0⟩
def FT_POP_FN : Field := ⟨0x700040, 16, 4, .ro, 0⟩
def FT_POP_VALID : Field := ⟨0x700040, 31, 1, .ro, 0⟩
def FT_UNIT_LCORE : Field := ⟨0x700044, 0, 4, .ro, 0⟩
def FT_UNIT_PSLOT : Field := ⟨0x700044, 4, 5, .ro, 0⟩
def FT_UNIT_ARRAY : Field := ⟨0x700044, 9, 2, .ro, 0⟩
def FT_UNIT_PORT : Field := ⟨0x700044, 12, 3, .ro, 0⟩
def FT_UNIT_INDEX : Field := ⟨0x700044, 16, 9, .ro, 0⟩
def FT_TIME_NS : Field := ⟨0x700048, 0, 30, .ro, 0⟩
def FT_TIME_SEC : Field := ⟨0x70004C, 0, 32, .ro, 0⟩
def FT_LOST : Field := ⟨0x700050, 0, 32, .ro, 0⟩
def CHIP_EPOCH : Field := ⟨0x700060, 0, 32, .ro, 0⟩
def FT_CORE_ADM : Field := ⟨0x700064, 0, 16, .ro, 0⟩
def FT_CORE_FAULT : Field := ⟨0x700068, 0, 16, .ro, 0⟩
def FT_SLOT_PASS : Field := ⟨0x70006C, 0, 18, .ro, 0⟩
def FT_CMD_OP : Field := ⟨0x700070, 0, 4, .wo, 0⟩
def FT_CMD_CORE : Field := ⟨0x700070, 8, 4, .wo, 0⟩
def FT_CMD_ARRAY : Field := ⟨0x700070, 12, 2, .wo, 0⟩
def FT_CMD_SET : Field := ⟨0x700070, 16, 3, .wo, 0⟩
def FT_CMD_COPY : Field := ⟨0x700070, 19, 1, .wo, 0⟩
def FT_CMD_SRC : Field := ⟨0x700070, 20, 1, .wo, 0⟩
def FT_CMD_CTX : Field := ⟨0x700070, 24, 4, .wo, 0⟩
def FT_STAT_BUSY : Field := ⟨0x700074, 0, 1, .ro, 0⟩
def FT_STAT_RESULT : Field := ⟨0x700074, 8, 8, .ro, 0⟩
def FT_COLRES (x : Nat) : Field := ⟨0x700000 + 0x080 + 4 * x, 0, 32, .ro, 0⟩

/-! ### RQ (R390) -/
def RQ_BASE_LO (f r : Nat) : Field := ⟨0x401000 + f * 0x1000 + 0x100 + 0x40 * r, 12, 20, .rw, 0⟩
def RQ_BASE_HI (f r : Nat) : Field := ⟨0x401000 + f * 0x1000 + 0x100 + 0x40 * r + 0x04, 0, 32, .rw, 0⟩
def RQ_SIZE (f r : Nat) : Field := ⟨0x401000 + f * 0x1000 + 0x100 + 0x40 * r + 0x08, 0, 17, .rw, 0⟩
def RQ_PI (f r : Nat) : Field := ⟨0x401000 + f * 0x1000 + 0x100 + 0x40 * r + 0x0C, 0, 32, .rw, 0⟩
def RQ_CI (f r : Nat) : Field := ⟨0x401000 + f * 0x1000 + 0x100 + 0x40 * r + 0x10, 0, 32, .ro, 0⟩
def RQ_CFG_CQ (f r : Nat) : Field := ⟨0x401000 + f * 0x1000 + 0x100 + 0x40 * r + 0x14, 0, 2, .rw, 0⟩
def RQ_CFG_ENABLE (f r : Nat) : Field := ⟨0x401000 + f * 0x1000 + 0x100 + 0x40 * r + 0x14, 8, 1, .rw, 0⟩
def RQ_DUP_CNT (f r : Nat) : Field := ⟨0x401000 + f * 0x1000 + 0x100 + 0x40 * r + 0x18, 0, 32, .ro, 0⟩

/-! ### CQ (R390) -/
def CQ_BASE_LO (f r : Nat) : Field := ⟨0x401000 + f * 0x1000 + 0x200 + 0x40 * r, 12, 20, .rw, 0⟩
def CQ_BASE_HI (f r : Nat) : Field := ⟨0x401000 + f * 0x1000 + 0x200 + 0x40 * r + 0x04, 0, 32, .rw, 0⟩
def CQ_SIZE (f r : Nat) : Field := ⟨0x401000 + f * 0x1000 + 0x200 + 0x40 * r + 0x08, 0, 17, .rw, 0⟩
def CQ_PI (f r : Nat) : Field := ⟨0x401000 + f * 0x1000 + 0x200 + 0x40 * r + 0x0C, 0, 32, .ro, 0⟩
def CQ_CI (f r : Nat) : Field := ⟨0x401000 + f * 0x1000 + 0x200 + 0x40 * r + 0x10, 0, 32, .rw, 0⟩
def CQ_CFG_ENABLE (f r : Nat) : Field := ⟨0x401000 + f * 0x1000 + 0x200 + 0x40 * r + 0x14, 8, 1, .rw, 0⟩

/-! ### WSET (R354) -/
def WSET_SRC1_LO_KIND (e : Nat) : Field := ⟨0x321000 + e * 0x1000 + 0x058, 0, 1, .rw, 0⟩
def WSET_SRC1_LO_ADDR (e : Nat) : Field := ⟨0x321000 + e * 0x1000 + 0x058, 12, 20, .rw, 0⟩
def WSET_SRC1_HI (e : Nat) : Field := ⟨0x321000 + e * 0x1000 + 0x05C, 0, 8, .rw, 0⟩

/-! ### WCTX (R353) -/
def W_CTX_SET (n x : Nat) : Field := ⟨0x320000 + 0x100 + 0x10 * n + 4 * x, 0, 32, .rw, 4294967295⟩

/-! ### MGMT (R559) -/
def PM_GUARD_ADDR (x : Nat) : Field := ⟨0x4000 + 0x080 + 8 * x, 0, 7, .rwl, 0⟩
def PM_GUARD_PAGE (x : Nat) : Field := ⟨0x4000 + 0x080 + 8 * x, 8, 8, .rwl, 0⟩
def PM_GUARD_VMIN (x : Nat) : Field := ⟨0x4000 + 0x084 + 8 * x, 0, 16, .rwl, 0⟩
def PM_GUARD_VMAX (x : Nat) : Field := ⟨0x4000 + 0x084 + 8 * x, 16, 16, .rwl, 65535⟩

/-! ### GROUP (R526) -/
def ROUTE_PORT (x : Nat) : Field := ⟨0x680000 + 0x100 + 4 * (x / 4), x % 4 * 8, 3, .rw, 0⟩
def ROUTE_VALID (x : Nat) : Field := ⟨0x680000 + 0x100 + 4 * (x / 4), x % 4 * 8 + 7, 1, .rw, 0⟩

/-! ### LF (R527) -/
def LF_TX_DEST (w : Nat) : Field := ⟨0x681000 + (w / 256) * 0x1000 + 0x400 + (w % 256) * 12, 0, 8, .rw, 0⟩
def LF_TX_FN (w : Nat) : Field := ⟨0x681000 + (w / 256) * 0x1000 + 0x400 + (w % 256) * 12, 8, 4, .rw, 0⟩
def LF_TX_LEN (w : Nat) : Field := ⟨0x681000 + (w / 256) * 0x1000 + 0x400 + (w % 256) * 12, 12, 16, .rw, 0⟩
def LF_TX_EN (w : Nat) : Field := ⟨0x681000 + (w / 256) * 0x1000 + 0x400 + (w % 256) * 12, 31, 1, .rw, 0⟩
def LF_RX0_FBASE (w : Nat) : Field := ⟨0x681000 + (w / 256) * 0x1000 + 0x400 + (w % 256) * 12 + 4, 0, 28, .rw, 0⟩
def LF_RX0_FN (w : Nat) : Field := ⟨0x681000 + (w / 256) * 0x1000 + 0x400 + (w % 256) * 12 + 4, 28, 4, .rw, 0⟩
def LF_RX1_LEN (w : Nat) : Field := ⟨0x681000 + (w / 256) * 0x1000 + 0x400 + (w % 256) * 12 + 8, 0, 16, .rw, 0⟩
def LF_RX1_SRC_MEMBER (w : Nat) : Field := ⟨0x681000 + (w / 256) * 0x1000 + 0x400 + (w % 256) * 12 + 8, 16, 8, .rw, 0⟩
def LF_RX1_ANY_SRC (w : Nat) : Field := ⟨0x681000 + (w / 256) * 0x1000 + 0x400 + (w % 256) * 12 + 8, 24, 1, .rw, 0⟩
def LF_RX1_EN (w : Nat) : Field := ⟨0x681000 + (w / 256) * 0x1000 + 0x400 + (w % 256) * 12 + 8, 31, 1, .rw, 0⟩

/-! ### VU (R157) -/
def VU_CAP_LANES (n : Nat) : Field := ⟨0x106000 + n * 0x10000 + 0x040, 0, 9, .ro, 256⟩
def VU_ELEM_CNT (n : Nat) : Field := ⟨0x106000 + n * 0x10000 + 0x044, 0, 32, .ro, 0⟩
def VU_CNT_CLR (n : Nat) : Field := ⟨0x106000 + n * 0x10000 + 0x048, 0, 1, .w1s, 0⟩

/-! ### HRJ (R451) -/
def HR_ATTN (j : Nat) : Field := ⟨0x500000 + j * 0x1000 + 0x040, 0, 32, .w1c, 0⟩

/-! ### The fields of a word, found from its BAR0 offset -/

/-- The element of an array of registers (first at `base`, one every `stride` bytes, `count` of them) that lies at page offset `off`. -/
def arrField (f : Nat → Field) (base stride count off : Nat) : List Field :=
  if base ≤ off ∧ off < base + stride * count ∧ (off - base) % stride = 0 then [f ((off - base) / stride)] else []

def fieldsTIMEBASE : List Field :=
  [TB_CTRL_PPS_EN, TB_CTRL_ARM, TB_CTRL_TICK_EN, TB_CTRL_SKEW_GATE_EN, TB_CTRL_SKEW_MAX_CLR, TB_STAT_ARMED, TB_STAT_LOCKED, TB_STAT_HOLDOVER, TB_STAT_SKEW_HOLD, TB_STAT_FREEZE, TB_STAT_LOADED_ONCE, TB_NOW_NS, TB_NOW_SEC_LO, TB_NOW_SEC_HI, TB_SEC_NEXT_LO, TB_SEC_NEXT_HI] ++
  [TB_OFFSET, TB_TRIM, TB_PPS_ERR, TB_PPS_WINDOW, TB_TICK_NS, TB_TICK_LO, TB_TICK_HI, TB_SKEW_LIMIT, TB_SKEW_MAX, TB_RATE_A, TB_RATE_B, TB_EDGE_CNT]

def fieldsMA (n a : Nat) : List Field :=
  [MA_CAP_PHYS_COLS n a, MA_CAP_WIDTH n a, MA_CAP_IN_SERVICE n a, MA_CAP_SPARE_IN_USE n a, MA_COLFAIL0 n a, MA_COLFAIL1 n a, MA_COLFAIL2 n a, MA_STAGGER n a, MA_SHADOW_CUR n a, MA_SHADOW_MISMATCH n a, MA_SHADOW_ACTIVE n a, MA_VEC_CNT n a, MA_BUBBLE_CNT n a, MA_STALL_CNT n a, MA_CNT_CLR n a]

def fieldsMVP (n : Nat) : List Field :=
  [MVP_LIMITS_OUT_BLOCK n, MVP_LIMITS_LINES n, MVP_LIMITS_MAXVEC n, MVP_KMAX n, MVP_READ_CNT n, MVP_STARVE_CNT n, MVP_CNT_CLR n]

def fieldsCORE (n : Nat) : List Field :=
  [CORE_ID_LOGICAL n, CORE_ID_PHYS_SLOT n, CORE_ID_DIE n, CORE_CAP_ARRAYS n, CORE_CAP_SLOTS n, CORE_CAP_CTXS n, CORE_EPOCH n, CORE_TEST_START n, CORE_TEST_DONE n, CORE_TEST_PASS n, CORE_ISSUE_CNT n]

def fieldsSEQ (n : Nat) (off : Nat) : List Field :=
  [SEQ_CTRL_SLOT_EN n, SEQ_CTRL_QUIESCE_PREEMPT n, SEQ_PREEMPT n, SEQ_ABORT n, SEQ_RES_CTRL_GO n, SEQ_RES_CTRL_DISCARD n, SEQ_RES_CTRL_PENDING n] ++
  arrField (SEQ_RES_TOK n) 0x050 4 4 off

def fieldsSLOT (n i : Nat) : List Field :=
  [SLOT_STAT_STATE n i, SLOT_STAT_CTX n i, SLOT_STAT_FLOW n i, SLOT_STAT_INFLIGHT n i, SLOT_STEP n i, SLOT_GRP n i, SLOT_TAG n i]

def fieldsCTX (n c : Nat) : List Field :=
  [CTX_CTRL_ENABLE n c, CTX_CTRL_LOAD n c, CTX_STAT_LOADING n c, CTX_STAT_LOADED n c, CTX_STAT_LOAD_STATUS n c, CTX_STAT_ACTIVE n c, CTX_STAT_SAVED n c, CTX_IMG_LO n c, CTX_IMG_HI n c, CTX_CFG_VERIFY n c, CTX_CFG_IMG_KEY n c, CTX_FLAGS n c, CTX_SALT n c, CTX_SAVE_BASE n c, CTX_SAVE_CNT n c, CTX_SAVE_ACC n c]

def fieldsQUEUE0 (off : Nat) : List Field :=
  [Q_CAP_CELLS, Q_CAP_CHAINS, Q_CAP_MARKS, Q_POOL_FREE, Q_POOL_RES_SUM, Q_POOL_LOW] ++
  arrField (FN_CELL_CAP) 0x050 4 9 off ++
  arrField (FN_CELL_USE) 0x080 4 9 off

def fieldsCHAIN (c : Nat) : List Field :=
  [CH_LENGTH c, CH_RESERVE c, CH_SRC c, CH_SRC_PORT c, CH_SINK c, CH_SINK_PORT c, CH_SLOT c, CH_PAY_LO c, CH_PAY_HI c, CH_ENABLE c, CH_APPLY c, CH_TAKE_EN c, CH_CMD_OP c, CH_CMD_MARK c, CH_APPLIED c, CH_CMD_BUSY c] ++
  [CH_LINK_HOLD c, CH_MARKS c, CH_OCC c, CH_READY c, CH_SPENT c, CH_OPEN c, CH_ENQ_SEQ c, CH_TAKE_SEQ c, CH_HI c, CH_LO c, CH_WM_STAT c, CH_WM_LEVEL c, CH_WM_EN c, CH_DROP_CNT c]

def fieldsSCHED0 (off : Nat) : List Field :=
  [SCH_CAP_FLOWS, SCH_CAP_GROUPS, SCH_CAP_DLISTS, SCH_CAP_CHANNELS, SCH_STORE_CAP, SCH_STORE_FREE, SCH_DEF_CAP, SCH_PTR, SCH_STORE_LOW, SCH_SPILL_CHN] ++
  arrField (FN_SCHED_POST_CHAN) 0x060 4 9 off ++
  arrField (FN_SCHED_GRP_MASK) 0x060 4 9 off ++
  arrField (FN_CHAN_MASK) 0x090 4 9 off ++
  arrField (GRP_W) 0x0C0 4 8 off ++
  arrField (GRP_STAT_DEF) 0x0E0 4 8 off ++
  arrField (GRP_STAT_READY) 0x0E0 4 8 off ++
  arrField (GRP_DISP_CNT) 0x100 4 8 off ++
  arrField (GRP_UNITS) 0x120 4 8 off

def fieldsDL (d : Nat) : List Field :=
  [SDL_CFG_MODE d, SDL_BASE_LO d, SDL_BASE_HI d, SDL_COUNT d, SDL_NEXT_LO d, SDL_NEXT_HI d, SDL_CMD d, SDL_STAT_BUSY d]

def fieldsCHN (k : Nat) : List Field :=
  [CHN_CFG_QUOTA k, CHN_CFG_MIN k, CHN_CFG_MODE k, CHN_SPILL_LO k, CHN_SPILL_HI k, CHN_SPILL_SIZE k, CHN_CTRL_ENABLE k, CHN_CTRL_APPLY k, CHN_CTRL_CLEAR_LOST k, CHN_CTRL_FLUSH_SPILL k, CHN_STAT_USED k, CHN_STAT_APPLIED k, CHN_STAT_SPILLING k, CHN_STAT_SPILL_LOST k, CHN_STAT_WAITING k, CHN_SPILL_CNT k] ++
  [CHN_LOST_CNT k]

def fieldsSCHEDJ (j : Nat) (off : Nat) : List Field :=
  [FLOW_CMD_FLOW j, FLOW_CMD_OP j, FLOW_CMD_STAT_BUSY j, FLOW_CMD_STAT_RESULT j, BQ_POP_FLOW j, BQ_POP_CORE j, BQ_POP_STATUS j, BQ_POP_VALID j, BQ_TAG j, POST_DELAY j, POST_CTRL_GO j, POST_CTRL_DLIST j, POST_CTRL_BUSY j, POST_CTRL_STATUS j] ++
  arrField (POST_ITEM j) 0x050 4 8 off ++
  arrField (FLOW_ATTN j) 0x100 4 16 off

def fieldsBIND (c : Nat) : List Field :=
  [BIND_CTL_EN c, BIND_CTL_CTX c, BIND_CTL_CHAN c, BIND_CTL_ENTRY c, BIND_FLOW_STRIDE c, BIND_FLOW_COST c, BIND_ARG_STRIDE c]

def fieldsFLOW (w : Nat) : List Field :=
  [FLOW_GROUP w, FLOW_ANY w, FLOW_CORE w, FLOW_STATE w, FLOW_STALE w, FLOW_HOLD w, FLOW_LAST_STATUS w, FLOW_QLEN w]

def fieldsSYNCJ (j : Nat) (off : Nat) : List Field :=
  [SY_PG_BLKS j] ++
  arrField (CNT_NOTIFY j) 0x080 4 8 off ++
  arrField (CNT_SATSUM j) 0x0A0 4 8 off

def fieldsSYNC0 (off : Nat) : List Field :=
  [SY_CAP_COUNTERS, SY_CAP_BLOCKS, SY_BLK_CLR_BLOCK, SY_BLK_CLR_GO, SY_CLR_STAT_BUSY, SY_CLR_STAT_RESULT, DBG_SEL, DBG_VAL, DBG_CMD, DBG_WAIT_SEL, DBG_WAIT_CTR, DBG_WAIT_VALUE, DBG_WAIT_KIND, SY_REMOTE_DENY_CNT] ++
  arrField (SY_BLK_FN) 0x110 4 8 off ++
  arrField (SY_REMOTE_EN) 0x130 4 2 off

def fieldsSTORE (n k : Nat) : List Field :=
  [ST_CAP_KIB n k, ST_CAP_BANKS n k, ST_CE_CNT n k, ST_UE_CNT n k, ST_ERR_ADDR n k, ST_CONFLICT_CNT n k, ST_CNT_CLR n k]

def fieldsLC (n : Nat) : List Field :=
  [LC_CAP_SETS n, LC_CAP_WAYS n, LC_CAP_KIB n, LC_CMD n, LC_STAT_BUSY n, LC_STAT_RESULT n, LC_STAT_MISSES n, LC_STAT_EVBUF n, LC_HIT_CNT n, LC_MISS_CNT n, LC_WB_CNT n, LC_SNOOP_CNT n, LC_XEVICT_CNT n, LC_CNT_CLR n]

def fieldsMEM0 : List Field :=
  [MEM_CAP_GIB, MEM_CAP_STACKS, MEM_CAP_PCH, SCRUB_CTRL_EN, SCRUB_CTRL_PERIOD, SCRUB_POS, MEM_CE_CNT, MEM_UE_CNT, MEM_UE_ADDR_LO, MEM_UE_ADDR_HI, DIR_BINV_CNT, DIR_XEVICT_CNT]

def fieldsSTACK (t : Nat) : List Field :=
  [MS_STAT_TRAINED t, MS_PCH_FAIL t, MS_TEMP t, MS_CE_CNT t, MS_UE_CNT t, MS_OUTSTANDING t, MS_RD_LINES t, MS_WR_LINES t]

def fieldsMEMF (f : Nat) (off : Nat) : List Field :=
  [PEAT_BASE_LO f, PEAT_BASE_HI f, PEAT_LEN f, PEAT_CTRL_EN f, SEG_STAT_BUSY f, SEG_STAT_RESULT f] ++
  arrField (SEG_FBASE f) 0x100 16 64 off ++
  arrField (SEG_FBASE_VALID f) 0x100 16 64 off ++
  arrField (SEG_PBASE f) 0x104 16 64 off ++
  arrField (SEG_LEN f) 0x108 16 64 off ++
  arrField (SEG_ATTR_RO f) 0x10C 16 64 off ++
  arrField (SEG_ATTR_PDOM f) 0x10C 16 64 off

def fieldsPROT : List Field :=
  [PROT_CAP_DOMAINS, PROT_CTRL_REQUIRE_VF, TAG_FAIL_CNT, POISON_SET_CNT, POISON_CLR_CNT, PL_POP, PL_ADDR_LO, PL_ADDR_HI, PL_TIME_NS, PL_TIME_SEC, PL_LOST, FILL_PA_LO, FILL_PA_HI, FILL_LEN, FILL_DOM, FILL_BW] ++
  [FILL_CTRL_GO, FILL_CTRL_BUSY, FILL_CTRL_RESULT]

def fieldsDOM (d : Nat) : List Field :=
  [DOM_CFG_FN d, DOM_CFG_SHARE d, DOM_CFG_GEN d, DOM_KEY_SLOT d, DOM_CMD_OP d, DOM_STAT_STATE d, DOM_STAT_BUSY d, DOM_STAT_IN_USE d, DOM_STAT_RESULT d, RK_PTR_LO d, RK_PTR_HI d, RK_BW d, RK_LINES d]

def fieldsWEIGHT0 : List Field :=
  [W_CAP_SETS, W_CAP2_WS_LINES, W_SET_FN]

def fieldsWSET (e : Nat) : List Field :=
  [WSET_CFG_MODE e, WSET_CFG_CORES e, WSET_LEN e, WSET_BASE0 e, WSET_BASE1 e, WSET_SRC0_LO_KIND e, WSET_SRC0_LO_ADDR e, WSET_SRC0_HI e, WSET_DIG_LO_EN e, WSET_DIG_LO_ADDR e, WSET_DIG_HI e, WSET_BW e, WSET_CMD_OP e, WSET_CMD_COPY e, WSET_CMD_CORE e, WSET_CMD_CTX e] ++
  [WSET_OPCORES e, WSET_CTRL_HOLD e, WSET_STAT_STATE e, WSET_STAT_CUR e, WSET_STAT_BUSY e, WSET_STAT_WAIT_FREE e, WSET_STAT_RESULT e, WSET_VALID0 e, WSET_VALID1 e, BOUND0 e, BOUND1 e, SW_TICK_LO e, SW_TICK_HI e, SW_CNT e, SW_TIME_NS e, SW_TIME_SEC e] ++
  [MAN_ENTRY e, WSET_SRC1_LO_KIND e, WSET_SRC1_LO_ADDR e, WSET_SRC1_HI e]

def fieldsSLUICE0 (off : Nat) : List Field :=
  [SL_CAP_SLOTS, SL_CAP_RINGS, SL_CAP_OUTSTANDING, SL_ADMITTED, RNG_STAT_OK, RNG_CTRL_RESTART, SLOT_CMD_SLOT, SLOT_CMD_OP, SL_DONE_CNT, SL_AUTHFAIL_CNT] ++
  arrField (FN_QOS_WEIGHT) 0x050 4 9 off ++
  arrField (FN_QOS_DESC_MIN) 0x050 4 9 off ++
  arrField (FN_DESC_CAP) 0x080 4 9 off ++
  arrField (FN_WIN_BASE) 0x0B0 4 9 off ++
  arrField (FN_WIN_CNT) 0x0B0 4 9 off ++
  arrField (FN_WIN_PLAIN_OK) 0x0B0 4 9 off ++
  arrField (SLOT_ATTR_CLASS) 0x800 4 512 off ++
  arrField (SLOT_ATTR_LOADED) 0x800 4 512 off ++
  arrField (SLOT_ATTR_WRAPPABLE) 0x800 4 512 off ++
  arrField (SLOT_ATTR_FN) 0x800 4 512 off

def fieldsSLUICEF (f : Nat) : List Field :=
  [FN_WIN_VIEW_BASE f, FN_WIN_VIEW_CNT f, FN_ADMITTED f]

def fieldsPKE (off : Nat) : List Field :=
  [PKE_CAP_UNITS, PKE_CAP_CURVES, PKE_CAP_PARK, PKE_CFG_LONG_MAX, PKE_QUEUE_SHORT, PKE_QUEUE_LONG, PKE_PARKED, PKE_OPS_CNT, PKE_REFUSE_CNT, PKE_YIELD_CNT, PKE_FCHK_CNT] ++
  arrField (PKE_UNIT_OPCODE) 0x050 4 4 off ++
  arrField (PKE_UNIT_LONG) 0x050 4 4 off ++
  arrField (PKE_UNIT_MOVING) 0x050 4 4 off ++
  arrField (PKE_UNIT_FN) 0x050 4 4 off ++
  arrField (CURVE_STAT_VALID) 0x080 8 8 off ++
  arrField (CURVE_STAT_WIDTH) 0x080 8 8 off ++
  arrField (CURVE_STAT_CHECK) 0x080 8 8 off ++
  arrField (CURVE_STAT_RESULT) 0x080 8 8 off ++
  arrField (CURVE_GEN) 0x084 8 8 off

def fieldsHOSTIF0 (off : Nat) : List Field :=
  [HI_LINK_SPEED, HI_LINK_WIDTH, HI_LINK_FLIT, HI_LINK_DL_ACTIVE, HI_TARGET_MAX_SPEED, HI_TARGET_RETRAIN, HI_RD_OUT, HI_CE_CNT, HI_UE_CNT, HI_ABORT_CNT, HI_FLUSH_FAIL_CNT, HI_MMIO_ERR_CNT, HI_PDOFF_CNT, HI_ATC_ENTRIES, HI_ATC_INV_CNT, HI_AB_POP] ++
  [HI_AB_IOVA_LO, HI_AB_IOVA_HI, HI_AB_TIME_NS, HI_AB_TIME_SEC] ++
  arrField (FN_RD_CAP) 0x0A0 4 9 off

def fieldsHOSTIFF (f : Nat) (off : Nat) : List Field :=
  [IRQ_SEL f, IRQ_ROUTE_VECTOR f, IRQ_ROUTE_EN f, FN_ABORT_CNT f, FN_FLUSH_CNT f] ++
  arrField (HW_OFF f) 0x200 16 16 off ++
  arrField (HW_IOVA_LO f) 0x204 16 16 off ++
  arrField (HW_IOVA_HI f) 0x208 16 16 off ++
  arrField (HW_ATTR_LEN f) 0x20C 16 16 off ++
  arrField (HW_ATTR_RO f) 0x20C 16 16 off ++
  arrField (HW_ATTR_VALID f) 0x20C 16 16 off

def fieldsHR (c : Nat) : List Field :=
  [HR_BASE_LO c, HR_BASE_HI c, HR_BUF_LO c, HR_BUF_HI c, HR_WB_LO c, HR_WB_HI c, HR_SIZE c, HR_PI c, HR_CI c, HR_CTRL_ENABLE c, HR_CTRL_IRQ_EACH c, HR_CTRL_FLUSH c, HR_CTRL_RESTART c, HR_CTRL_SKIP c, HR_STAT_DIR c, HR_STAT_STOPPED c] ++
  [HR_STAT_LAST c, HR_ERR_CNT c, HR_DUP_CNT c]

def fieldsTENANT0 : List Field :=
  [TN_CAP_VFS, TN_CAP_MB_WORDS, TN_MB_PEND, TN_ATTN]

def fieldsTNF (f : Nat) : List Field :=
  [TN_STAT_STATE f, TN_STAT_BUSY f, TN_STAT_RESULT f, TN_CMD_OP f, TN_CMD_PREEMPT f, TG_CORES f, TG_PAGES_QPAGES f, TG_PAGES_MEMCTL_VIEW f, TN_FLR_TASKS f, TN_FLR_ITEMS f, TN_FLR_DESC f, MB_REQ_ACK_ACK f, MB_REQ_ACK_PENDING f, MB_RSP_CTRL_SEND f, MB_RSP_CTRL_BUSY f, TDL_BASE_LO f] ++
  [TDL_BASE_HI f, TDL_WB_LO f, TDL_WB_HI f, TDL_SIZE f, TDL_PI f, TDL_CI f, TDL_CTRL_EN f, TDL_STAT_OVF f, TDL_CNT f]

def fieldsTENANTF (f : Nat) (off : Nat) : List Field :=
  [TN_SELF_FN f, TN_SELF_STATE f, TN_HELD_CORES f, TN_HELD_QPAGES f, TN_HELD_MEMCTL_VIEW f, MB_OUT_CTRL_SEND f, MB_OUT_CTRL_BUSY f, MB_IN_CTRL_ACK f, MB_IN_CTRL_VALID f] ++
  arrField (MB_OUT f) 0x100 4 16 off ++
  arrField (MB_IN f) 0x140 4 16 off

def fieldsPORT (p : Nat) (off : Nat) : List Field :=
  [PORT_CTRL_START p, PORT_CTRL_STOP p, PORT_CTRL_RECHECK p, PORT_CTRL_RESET_SEQ p, PORT_CTRL_ENC_EN p, PORT_CTRL_PEER_CHECK p, PORT_CTRL_REQUIRED p, PORT_CTRL_PEER_EXPECT p, PORT_STAT_STATE p, PORT_STAT_RESUMED p, PORT_STAT_DOWN_CAUSE p, PORT_STAT_MISMATCH p, PORT_STAT_KEY_CUR p, PORT_STAT_KEY_NEXT p, PORT_LANES_LANE_MASK p, PORT_LANES_LANE_LOCK p] ++
  [PORT_LANES_LANE_ACTIVE p, PORT_LANES_LANE_CMD_LANE p, PORT_LANES_LANE_CMD_OP p, PORT_LANES_LANE_BUSY p, PORT_LANES_LANE_RESULT p, PORT_KEY_SLOT p, PORT_KEY_LOAD p, PORT_KEY_REKEY p, PORT_KEY_BUSY p, PEER_ID p, PEER_GROUP p, PEER_INFO p, PEER_EPOCH_LO p, PEER_EPOCH_HI p, PEER_SEC_LO p, PEER_SEC_HI p] ++
  [PORT_SKEW p, SESSION p, PEER_SESSION p, TX_NEXT p, RX_NEXT p, REPLAY_USED p, CREDITS p, TX_FLITS p, RX_FLITS p, RETRY_CNT p, CRC_ERR_CNT p, FEC_CORR_CNT p, DOWN_CNT p, PORT_LANE_WARN p] ++
  arrField (PEER_DIGEST p) 0x06C 4 8 off ++
  arrField (LANE_FEC_CNT p) 0x100 4 8 off ++
  arrField (RX_CHAIN_MAP_CHAIN p) 0x400 4 256 off ++
  arrField (RX_CHAIN_MAP_VALID p) 0x400 4 256 off

def fieldsGROUP (off : Nat) : List Field :=
  [GRP_ID, GRP_MEMBER, GRP_MEMBERS, GRP_FLAGS_ENC_REQUIRED, GRP_CMD_DIGEST_UPDATE, GRP_CMD_EPOCH_ARM, GRP_CMD_EPOCH_DISARM, GRP_EPOCH_LO, GRP_EPOCH_HI, GRP_EPOCH_NEXT_LO, GRP_EPOCH_NEXT_HI, GRP_EPOCH_TICK_LO, GRP_EPOCH_TICK_HI, GRP_STAT_FORMED, GRP_STAT_DIGEST_VALID, GRP_STAT_EPOCH_ARMED] ++
  [GRP_STAT_PORTS_DATA, GRP_STAT_REQUIRED, LEQ_POP, LEQ_REF, LEQ_SEQ, LEQ_TIME_NS, LEQ_TIME_SEC, LEQ_LOST] ++
  arrField (GRP_USER) 0x04C 4 8 off ++
  arrField (GRP_DIGEST) 0x070 4 8 off ++
  (if 0x100 ≤ off ∧ off < 0x200 then (List.range 4).map (fun q => ROUTE_PORT ((off - 0x100) / 4 * 4 + q)) else []) ++
  (if 0x100 ≤ off ∧ off < 0x200 then (List.range 4).map (fun q => ROUTE_VALID ((off - 0x100) / 4 * 4 + q)) else [])

def fieldsPOWER (off : Nat) : List Field :=
  [PWR_CMD_DOMAIN, PWR_CMD_OP, PWR_CMD_FORCE, PWR_STAT, PWR_GOOD, STRAPS, SU_STATE, SU_STATE_FUSE_BAD, SU_STATE_PATCHED, RST_CAUSE, RST_CFG_HOT_SCOPE, CHIP_RESET, CORE_RST, TEMP_A, TEMP_B, TEMP_IO] ++
  [THERM_WARN_LIMIT, THERM_STAT_TRIPPED, THERM_STAT_DIE, THERM_STAT_STACK, TRIP_TIME_NS, TRIP_TIME_SEC, VR_ALERT, THROTTLE_CNT] ++
  arrField (PWR_RESULT_STATUS) 0x100 4 8 off ++
  arrField (PWR_RESULT_OP) 0x100 4 8 off

def fieldsMGMT (off : Nat) : List Field :=
  [PM_CFG_SPEED, PM_CFG_PEC, PM_XFER_ADDR, PM_XFER_CODE, PM_XFER_KIND, PM_XFER_GO, PM_WDATA, PM_RDATA, PM_STAT_BUSY, PM_STAT_RESULT, PM_STAT_CAUSE, PATCH_ADDR_LO, PATCH_ADDR_HI, PATCH_LEN, PATCH_CTRL_GO, PATCH_CTRL_BUSY] ++
  [PATCH_CTRL_RESULT, PATCH_VER] ++
  arrField (PM_BLK) 0x060 4 8 off ++
  arrField (PM_GUARD_ADDR) 0x080 8 2 off ++
  arrField (PM_GUARD_PAGE) 0x080 8 2 off ++
  arrField (PM_GUARD_VMIN) 0x084 8 2 off ++
  arrField (PM_GUARD_VMAX) 0x084 8 2 off

def fieldsFUSE (off : Nat) : List Field :=
  [FU_ID_GRADE, FU_ID_STEPPING, FU_PROFILE_CUR, FU_PROFILE_MAX, FU_PROFILE_NEXT, FU_LOCKS_PROFILE, FU_LOCKS_DEBUG, FU_REMAIN_CORE, FU_REMAIN_RKE, FU_REMAIN_PROFILE, FU_LANE_REMAIN, FU_RKE_EPOCH, FU_CORE_MAP0, FU_CORE_MAP1, FU_UNLOCK, FU_CMD_OP] ++
  [FU_CMD_ARG0, FU_CMD_ARG1, FU_CMD_VALUE, FU_STAT_BUSY, FU_STAT_RESULT, FU_LOG_SEL, FU_LOG_CNT, FU_LOG0, FU_LOG1, FU_LOG2, FU_LOG3] ++
  arrField (FU_LANE_MAP) 0x070 4 8 off

def fieldsFAULT (off : Nat) : List Field :=
  [FT_POP_CLASS, FT_POP_STATUS, FT_POP_FN, FT_POP_VALID, FT_UNIT_LCORE, FT_UNIT_PSLOT, FT_UNIT_ARRAY, FT_UNIT_PORT, FT_UNIT_INDEX, FT_TIME_NS, FT_TIME_SEC, FT_LOST, CHIP_EPOCH, FT_CORE_ADM, FT_CORE_FAULT, FT_SLOT_PASS] ++
  [FT_CMD_OP, FT_CMD_CORE, FT_CMD_ARRAY, FT_CMD_SET, FT_CMD_COPY, FT_CMD_SRC, FT_CMD_CTX, FT_STAT_BUSY, FT_STAT_RESULT] ++
  arrField (FT_COLRES) 0x080 4 3 off

def fieldsRQ (f r : Nat) : List Field :=
  [RQ_BASE_LO f r, RQ_BASE_HI f r, RQ_SIZE f r, RQ_PI f r, RQ_CI f r, RQ_CFG_CQ f r, RQ_CFG_ENABLE f r, RQ_DUP_CNT f r]

def fieldsCQ (f r : Nat) : List Field :=
  [CQ_BASE_LO f r, CQ_BASE_HI f r, CQ_SIZE f r, CQ_PI f r, CQ_CI f r, CQ_CFG_ENABLE f r]

def fieldsWCTX (off : Nat) : List Field :=
  (if 0x100 ≤ off ∧ off < 0x200 ∧ off % 16 < 8 then [W_CTX_SET ((off - 0x100) / 16) (off % 16 / 4)] else [])

def fieldsLF (w : Nat) : List Field :=
  [LF_TX_DEST w, LF_TX_FN w, LF_TX_LEN w, LF_TX_EN w, LF_RX0_FBASE w, LF_RX0_FN w, LF_RX1_LEN w, LF_RX1_SRC_MEMBER w, LF_RX1_ANY_SRC w, LF_RX1_EN w]

def fieldsVU (n : Nat) : List Field :=
  [VU_CAP_LANES n, VU_ELEM_CNT n, VU_CNT_CLR n]

def fieldsHRJ (j : Nat) : List Field :=
  [HR_ATTN j]

/-- The candidate fields of page `page` (BAR0 offset [25:12]) near page offset `off`, as function `fn` sees them. -/
def pageFields (fn page off : Nat) : List Field :=
  if page = 1 then fieldsPOWER off
  else if page = 2 then fieldsTIMEBASE
  else if page = 3 then fieldsFUSE off
  else if page = 4 then fieldsMGMT off
  else if 0x100 ≤ page ∧ page < 0x200 then
    let n := (page - 0x100) / 16
    let q := page % 16
    if q = 0 then fieldsCORE n
    else if q ≤ 4 then fieldsMA n (q - 1)
    else if q = 5 then fieldsMVP n
    else if q = 6 then fieldsVU n
    else if q = 7 then fieldsSEQ n off ++ fieldsSLOT n ((off - 0x100) / 16 % 4) ++ fieldsCTX n ((off - 0x200) / 0x20 % 16)
    else if q ≤ 9 then fieldsSTORE n (q - 8)
    else if q = 10 then fieldsLC n else []
  else if page = 0x200 then fieldsSCHED0 off ++ fieldsDL ((off - 0x140) / 0x20 % 4) ++ fieldsCHN ((off - 0x200) / 0x20 % 32)
  else if 0x201 ≤ page ∧ page ≤ 0x208 then
    fieldsSCHEDJ (page - 0x200) off ++ fieldsBIND (32 * (page - 0x201) + (off - 0x200) / 16 % 32)
      ++ fieldsFLOW (512 * (page - 0x201) + (off - 0x800) / 4 % 512)
  else if page = 0x210 then fieldsSYNCJ 0 off ++ fieldsSYNC0 off
  else if 0x211 ≤ page ∧ page ≤ 0x21F then fieldsSYNCJ (page - 0x210) off
  else if page = 0x220 then fieldsQUEUE0 off
  else if 0x221 ≤ page ∧ page ≤ 0x228 then fieldsCHAIN (32 * (page - 0x221) + (off - 0x100) / 0x40 % 32)
  else if page = 0x300 then fieldsMEM0
  else if 0x301 ≤ page ∧ page ≤ 0x306 then fieldsSTACK (page - 0x301)
  else if 0x307 ≤ page ∧ page ≤ 0x30F then fieldsMEMF (page - 0x307) off
  else if page = 0x310 then fieldsPROT ++ fieldsDOM ((off - 0x100) / 0x20 % 15)
  else if page = 0x320 then fieldsWEIGHT0 ++ fieldsWCTX off
  else if 0x321 ≤ page ∧ page ≤ 0x328 then fieldsWSET (page - 0x321)
  else if page = 0x400 then fieldsSLUICE0 off
  else if 0x401 ≤ page ∧ page ≤ 0x409 then
    fieldsSLUICEF (page - 0x401) ++ fieldsRQ (page - 0x401) ((off - 0x100) / 0x40 % 4)
      ++ fieldsCQ (page - 0x401) ((off - 0x200) / 0x40 % 4)
  else if page = 0x410 then fieldsPKE off
  else if page = 0x500 then fieldsHOSTIF0 off ++ fieldsHOSTIFF fn off
  else if 0x501 ≤ page ∧ page ≤ 0x508 then fieldsHRJ (page - 0x500) ++ fieldsHR (32 * (page - 0x501) + (off - 0x100) / 0x40 % 32)
  else if page = 0x510 then fieldsTENANT0 ++ fieldsTNF ((off - 0x100) / 0x80 % 8 + 1)
  else if 0x511 ≤ page ∧ page ≤ 0x518 then fieldsTENANTF (page - 0x510) off
  else if 0x600 ≤ page ∧ page < 0x680 then (if page % 16 = 0 then fieldsPORT ((page - 0x600) / 16) off else [])
  else if page = 0x680 then fieldsGROUP off
  else if 0x681 ≤ page ∧ page ≤ 0x690 then fieldsLF (256 * (page - 0x681) + (off - 0x400) / 12 % 256)
  else if page = 0x700 then fieldsFAULT off
  else []

/-- The fields of the word at BAR0 offset `addr` as function `fn` sees it: a per-function copy of R450 is the function's own. -/
def fieldsAt (fn addr : Nat) : List Field :=
  (pageFields fn (addr / 4096) (addr % 4096)).filter (fun f => f.addr % 0x8000000 == addr && (f.addr / 0x8000000 == 0 || f.addr / 0x8000000 == fn))

end Sys2Proof.Machine
end

