-- ==== Sys2Proof/Machine/State.lean ====
section
/-!
DEFINITION. The state of the device, as plain data: the register fields (a sparse store that reads the spec's reset value where nothing is
listed), the common layout of every page, and for each block what the spec gives it beside its registers: queues, logs, memories, records,
sequences, keys. Beside these stand the queue of waiting commands, the commands whose acknowledge is withheld (R29), and the model's own
counters of free values. A field's default value is its value after reset.
-/

namespace Sys2Proof.Machine

/-- Why the device stops. No command of the table stops the device by a fault: every failure the spec names is a status (R629) and a next
state. The one constructor is for an internal inconsistency no reachable state shows; none of the meanings raises it. Safe. -/
inductive Fault where
  | inconsistent
  deriving DecidableEq, Repr

/-- Why a command has no next state. -/
inductive Refusal where
  /-- No meaning yet. Raised by the dispatch alone. Safe. -/
  | notModelled (mnemonic : String)
  /-- A private JTAG instruction before the debug lockout: R583 names its class and gives it no effect. Raised by execJtagInstruction. Safe. -/
  | privateTestAccess
  deriving DecidableEq, Repr

/-- What a command answers. -/
abbrev Res := Host.Outcome

/-- R46. A timestamp: seconds and nanoseconds. -/
structure Ts where
  sec : Nat := 0
  ns : Nat := 0
  deriving DecidableEq, Repr

/-- R613. The common layout of one page (or of one function's copy of it, R628), apart from its fixed fields. `errNext` is the word that ERR_INFO1 gives next where it holds two in
turn (R355). -/
structure Page where
  enable : Bool := true
  quiesceReq : Bool := false
  quiesced : Bool := false
  evtStat : Nat := 0
  evtEn : Nat := 0
  errCode : Nat := 0
  errCount : Nat := 0
  errInfo0 : Nat := 0
  errInfo1 : Nat := 0
  errNext : Option Nat := none
  errTime : Ts := {}
  lock : Bool := false
  scratch : Nat := 0
  deriving DecidableEq, Repr

/-! ### The timebase (chapter 02) -/

/-- R34 to R45, R632. The timebase: its count with the fraction in units of 10^-10 ns, the hold that absorbs a positive correction in the same
units, the clocks counted since the reset of PD_AON, the captured edge that waits out its 1 µs (local time and clock of the capture), the clock
of the last accepted edge, the last tick delivered. -/
structure Timebase where
  sec : Nat := 0
  ns : Nat := 0
  frac : Nat := 0
  hold : Nat := 0
  clocks : Nat := 0
  rise : Option (Ts × Nat) := none
  accepted : Option Nat := none
  lastTick : Nat := 0
  deriving DecidableEq, Repr

/-! ### The host interface (chapter 14) -/

/-- R439. One page's route to a vector, for one function. -/
structure Route where
  vector : Nat := 0
  en : Bool := false
  deriving DecidableEq, Repr

/-- R422, R440, R445. What the device sent to the host, in the order sent: a posted write on a function's behalf, an MSI-X message, the
completion of an ATS invalidation (its tag). -/
inductive HostOut where
  | write (fn iova : Nat) (bytes : List Byte)
  | msg (fn vector : Nat)
  | invalidated (tag : Nat)
  deriving DecidableEq, Repr

/-- R446. What the data of an outstanding host read are for. -/
inductive ReadUse where
  | stepLoad (core slot idx : Nat)
  | stepFlush (core slot idx : Nat)
  | ringPayload (chain : Nat)
  | ringFlush (chain : Nat)
  | descFlush (desc : Nat)
  deriving DecidableEq, Repr

/-- R446. An outstanding host read: its number, function, agent code, address, length and use. -/
structure HostRead where
  id : Nat
  fn : Nat
  agent : Nat
  iova : Nat
  len : Nat
  use : ReadUse
  deriving DecidableEq, Repr

/-- R449. One entry of the abort log. -/
structure AbortEntry where
  fn : Nat
  agent : Nat
  cause : Nat
  status : Nat
  iova : Nat
  time : Ts
  deriving DecidableEq, Repr

/-- R429. One cached translation of a function's 4 KiB page: what it grants. -/
structure Translation where
  fn : Nat
  page : Nat
  read : Bool
  write : Bool
  deriving DecidableEq, Repr

/-- R434 to R436. What one chain's host ring holds beside its registers: the ONCE tags it accepted, newest first; the cell of the item in progress, with the number of its taking; whether a read for
it is outstanding; whether the entry in hand has entered its tag; the outbound items delivered but not yet consumed (position, cell). -/
structure Ring where
  tags : List Nat := []
  cell : Option Nat := none
  id : Nat := 0
  busy : Bool := false
  tagged : Bool := false
  delivered : List (Nat × Nat) := []
  deriving DecidableEq, Repr

/-- Chapter 14. The host side of the chip: MSI-X state, translations, reads outstanding, what was sent, the
abort log. A route is keyed fn × 2^14 + page, a vector fn × 2^11 + vector; `owed` lists the pages (keyed as routes) whose message waits for the end of
D3hot or of the blocking MSI-X state; an invalidation in progress is its tag, function, first page and number of pages; `vfs` is the number of VFs enabled (R454); `dirty` the
filter of pages logged for each VF, newest first (R473). -/
structure HostIf where
  routes : Map Route := []
  unmasked : List Nat := []
  vecPending : List Nat := []
  msixEnabled : List Nat := []
  d3hot : List Nat := []
  owed : List Nat := []
  out : List HostOut := []
  reads : List HostRead := []
  nextRead : Nat := 0
  translations : List Translation := []
  invalidating : List (Nat × Nat × Nat × Nat) := []
  abortLog : List AbortEntry := []
  waitLinkReset : Bool := false
  linkUp : Bool := false
  rings : Map Ring := []
  vfs : Nat := 0
  dirty : Map (List Nat) := []
  deriving DecidableEq, Repr

/-! ### Power, fuses and faults (chapters 17 and 18) -/

/-- R529. The state of a power domain; a domain in TRANSIT keeps the state it left, the command's OP and its FORCE. -/
inductive Dom where
  | off | on | retain
  | transit (was op : Nat) (force : Bool)
  deriving DecidableEq, Repr

/-- R565, R571. A command of the FAULT page in progress. -/
inductive FtJob where
  | refill (core set copy src ctx : Nat)
  | arrayTest (core array : Nat)
  deriving DecidableEq, Repr

/-- R529, R531, R537 to R540, R545, R553 to R556, R565, R566, R583. Domains and supply pins; whether the PKE self-test has passed; the block length and the written bytes of a
PMBus transaction; the last self-test of each physical slot; whether the fuse load has ended; the best speed and width that the link partner offered at the release of PERST_N; the PMBus PAGE last set at each address; the TAP's instruction; the FT_CMD in progress; the compute-die
domains (5, 6) that have been ON at some time in the running window of R632. -/
structure Power where
  doms : Map Dom := []
  pins : PowerPins := ⟨false, false, false, false⟩
  vrAlertHigh : Bool := true
  perstLow : Bool := true
  offer : Nat × Nat := (0, 0)
  thermTripLow : Bool := false
  sluiceSelfTest : Bool := false
  pmBlkLen : Nat := 0
  pmWrite : List Byte := []
  tests : Map CoreTest := []
  fusesLoaded : Bool := false
  pmPages : Map Nat := []
  tap : TapInstr := .idcode
  ftJob : Option FtJob := none
  ringSeen : List Nat := []
  deriving DecidableEq, Repr

/-- R581. One entry of the fuse log. -/
structure FuseEntry where
  op : Nat
  arg0 : Nat
  arg1 : Nat
  value : Nat
  old : Nat
  remaining : Nat
  committed : Bool
  time : Ts
  deriving DecidableEq, Repr

/-- R578 to R582. The fuse array, kept through every reset: its settings, its log, the burn in progress (its log entry is the last one). -/
structure Fuses where
  grade : Nat := 0
  stepping : Nat := 0
  profile : Nat := 1
  profileMax : Nat := 1
  profileLock : Bool := false
  debugLock : Bool := false
  coreMap : List Nat := [0, 1, 2, 3, 4, 5, 6, 7, 0, 1, 2, 3, 4, 5, 6, 7]
  laneMap : List Nat := [0x76543210, 0x76543210, 0x76543210, 0x76543210, 0x76543210, 0x76543210, 0x76543210, 0x76543210]
  rkeEpoch : Nat := 0
  log : List FuseEntry := []
  burning : Bool := false
  unlocked : Bool := false
  deriving DecidableEq, Repr

/-- R589. One entry of the fault log. -/
structure FaultEntry where
  cls : Nat
  status : Nat
  fn : Nat
  lcore : Nat
  pslot : Nat
  array : Nat
  port : Nat
  index : Nat
  time : Ts
  deriving DecidableEq, Repr
/-! ### Memories (chapters 09 and 10) -/

/-- R278 to R280. How the code of a stored HBM line decodes. -/
inductive Code where
  | good | correctable | uncorrectable | poison
  deriving DecidableEq, Repr

/-- R278. The side storage of a line: the 64 metadata bits (byte 0 lowest) and the state of its code. -/
structure LineMeta where
  tag : Nat := 0
  code : Code := .good
  deriving DecidableEq, Repr

/-- R275. An error in a 64-bit SRAM word. -/
inductive WordErr where
  | single | double
  deriving DecidableEq, Repr

/-- R286. One line of a core's line cache: the line's index PA[39:7], its way, the state S or M (owned), whether it is dirty, the domain and the
function of the access that brought it in, its plaintext, the errors of its words. -/
structure CacheLine where
  line : Nat
  way : Nat
  owned : Bool
  dirty : Bool
  dom : Nat
  fn : Nat
  data : List Byte
  err : Map WordErr := []
  deriving DecidableEq, Repr

/-- R280, R289, R634. What a line that leaves a cache brings to its home: nothing (an S line, or a clean one with an uncorrectable word, which is dropped unread), the data of an M
line, or the report that its dirty data are lost. -/
inductive Yield where
  | nothing
  | data (d : List Byte)
  | lost
  deriving DecidableEq, Repr

/-- R293, R294. One entry of a core's eviction buffer, with what it brings to the home; `arrived` once the home has received the eviction, `crossed` once it has counted it as a
crossing. -/
structure Evicted where
  line : Nat
  owned : Bool
  dom : Nat
  fn : Nat
  out : Yield
  arrived : Bool := false
  crossed : Bool := false
  deriving DecidableEq, Repr

/-- A core's line cache, most recently used line first, and its eviction buffer. -/
structure Cache where
  lines : List CacheLine := []
  evicted : List Evicted := []
  deriving DecidableEq, Repr

/-- R289. One entry of a home directory: the M owner, or the cores that share the line. -/
structure DirEntry where
  line : Nat
  owner : Option Nat
  sharers : List Nat
  deriving DecidableEq, Repr

/-- R289. The messages between cores and homes. -/
inductive Msg where
  | dataS | dataM | grant | evictAck | snpInv | snpShr | ack | data | notHeld | notHeldEvicting
  deriving DecidableEq, Repr

/-- R289. A message on its way: its line, the core it goes to or comes from, the data it carries and whether memory lacks them, the status of a
refused fill, the bytes the waiting step writes into the line, whether it is the reply to a CLAIM and whether the write of that CLAIM was abandoned (R318). -/
structure Flight where
  msg : Msg
  line : Nat
  core : Nat
  dom : Nat := 15
  fn : Nat := 0
  data : List Byte := []
  dirty : Bool := false
  status : Status := .ok
  off : Nat := 0
  bytes : List Byte := []
  claim : Bool := false
  dropped : Bool := false
  deriving DecidableEq, Repr

/-- R289. The requests of a core. -/
inductive Req where
  | rdS | rdM | claim | upg
  deriving DecidableEq, Repr

/-- R290. A transaction of a line at its home: the requester, the bytes its step writes, whether it has begun, the cores whose snoop is unanswered, the
snoop data it holds, the cores that answered NOT_HELD_EVICTING, the cores whose eviction it has absorbed (R294), whether a copy that it invalidates was being evicted (R295), whether
the write of a CLAIM was abandoned (R318). -/
structure Txn where
  req : Req
  core : Nat
  line : Nat
  fn : Nat
  dom : Nat
  off : Nat := 0
  bytes : List Byte := []
  begun : Bool := false
  waiting : List Nat := []
  data : Option (List Byte) := none
  evicting : List Nat := []
  absorbed : List Nat := []
  crossed : Bool := false
  dropped : Bool := false
  deriving DecidableEq, Repr

/-- R288. A line-cache command in progress: FLUSH_INV or FLUSH, and the lines that were dirty when it started. -/
structure LcCmd where
  invalidate : Bool
  lines : List Nat
  deriving DecidableEq, Repr

/-- R325. One entry of the protection log. -/
structure ProtEntry where
  fn : Nat
  dom : Nat
  cause : Nat
  agent : Nat
  core : Nat
  pa : Nat
  time : Ts
  deriving DecidableEq, Repr

/-- R305, R306. The key sets of a domain, K1, K2 and K_T joined; the command in progress and the key set it derived. -/
structure DomKeys where
  cur : List Byte := []
  next : List Byte := []
  busy : Option (Nat × Status × List Byte) := none
  deriving DecidableEq, Repr

/-- The memories. A byte of core `n`'s weight store is keyed n × 2^25 + offset, of its activation store n × 2^23 + offset; HBM bytes by physical address,
as stored (ciphertext under a domain); word errors by the same keys divided by 8. A segment clear in progress is its PBASE and LEN (R284); a fill the
next line and the lines left (R319); `scrubHalf` is the line of the granule SCRUB_POS that is next. -/
structure Memory where
  ws : Map Byte := []
  wsErr : Map WordErr := []
  act : Map Byte := []
  actErr : Map WordErr := []
  hbm : List Host.Cell := []
  lineMeta : Map LineMeta := []
  caches : Map Cache := []
  dir : List DirEntry := []
  flights : List Flight := []
  txns : List Txn := []
  lcCmds : Map LcCmd := []
  segBusy : Map (List (Nat × Nat)) := []
  scrubHalf : Bool := false
  keys : Map DomKeys := []
  protLog : List ProtEntry := []
  fill : Option (Nat × Nat × Nat) := none
  deriving DecidableEq, Repr

/-! ### Sluice and the public-key engine (chapters 12 and 13) -/

/-- R377. A key slot: class (0 EMPTY), length, material (the first slot of an RSA key holds it all), the public key that KEY_INFO reports, and whether its
storage holds an uncorrectable error (R382). -/
structure KeySlot where
  cls : Nat := 0
  wrappable : Bool := false
  key : List Byte := []
  pub : List Byte := []
  bad : Bool := false
  deriving DecidableEq, Repr

/-- Where an admitted descriptor stands: fetched, waiting for a public-key operation, waiting for its flush, or ended with a status, output length and
DETAIL. -/
inductive DescState where
  | admitted | inPke | flushing (st : Status) (outLen detail : Nat) | ended (st : Status) (outLen detail : Nat)
  deriving DecidableEq, Repr

/-- R362 to R371. A fetched descriptor: its number, function, ring, absolute index, 64 bytes, completion ring, its chain's number (0 outside a chain) and whether it
is the chain's last, whether a ONCE duplicate, whether in a chain over 16 entries, the last byte a HOST-space write of it touched, its place in the order of completion (R363). -/
structure Desc where
  id : Nat
  fn : Nat
  ring : Nat
  index : Nat
  bytes : List Byte
  cq : Nat
  chain : Nat := 0
  last : Bool := true
  dup : Bool := false
  tooLong : Bool := false
  state : DescState := .admitted
  hostEnd : Option Nat := none
  done : Nat := 0
  deriving DecidableEq, Repr

/-- R369. The chain a request ring is fetching: its number, the entries left, whether it is too long, whether a duplicate. -/
structure RingChain where
  chain : Nat
  left : Nat
  tooLong : Bool
  dup : Bool
  deriving DecidableEq, Repr

/-- R372, R369. A request ring beside its registers: the ONCE tags admitted (newest first) and the chain being fetched. -/
structure ReqRing where
  tags : List Nat := []
  chain : Option RingChain := none
  deriving DecidableEq, Repr

/-- R370. A running chain: its buffer and whether a member has failed. -/
structure RunChain where
  buffer : List Byte := []
  failed : Bool := false
  deriving DecidableEq, Repr

/-- R394. What a public-key operation is for: a descriptor, the seal or check of one, a SEAL step, an image check. -/
inductive PkeUse where
  | desc (id : Nat)
  | sealDesc (id : Nat) (block : List Byte)
  | sealChk (id : Nat)
  | sealStep (core slot idx : Nat) (block : List Byte)
  | image (core ctx : Nat)
  deriving DecidableEq, Repr

/-- R394 to R416. A public-key operation: its use, function, opcode (that of the descriptor for a key check, 0x1B for a generation), key copy, operands, P0, curve table,
class, target slot and WRAPPABLE of a key write; whether it is long. -/
structure PkeJob where
  use : PkeUse
  fn : Nat
  op : Nat
  key : List Byte := []
  src : List Byte := []
  aux : List Byte := []
  p0 : Nat := 0
  table : Nat := 0
  exp : Nat := 0
  cls : Nat := 0
  target : Nat := 0
  wrappable : Bool := false
  long : Bool := false
  deriving DecidableEq, Repr

/-- The outcome a public-key operation is to have: a status, the output, DETAIL or the failing check. -/
structure PkeOut where
  st : Status
  out : List Byte := []
  pub : List Byte := []
  check : Nat := 0
  deriving DecidableEq, Repr

/-- R413, R414. An operation on a unit or parked: the job, the outcome fixed by its operands, whether it is being parked or restored. -/
structure PkeRun where
  job : PkeJob
  out : PkeOut
  moving : Option Bool := none
  deriving DecidableEq, Repr

/-- R408. A loaded curve: y² = x³ + ax + b over p, its generator, order, cofactor, width in bytes. -/
structure Curve where
  w : Nat
  p : Nat
  a : Nat
  b : Nat
  gx : Nat
  gy : Nat
  n : Nat
  h : Nat
  deriving DecidableEq, Repr

/-- Chapters 12 and 13. Sluice: key slots, descriptors, how many have completed, request rings (keyed function × 4 + ring), running chains, the reserved counts of completion
rings, the public-key queues, units and parking stores, curve tables 2 to 7, the outcomes that SEAL steps and image loads await, whether the generator is restarting and its requests since it was last seeded. -/
structure Sluice where
  slots : Map KeySlot := []
  descs : List Desc := []
  nextDesc : Nat := 0
  nextDone : Nat := 0
  rings : Map ReqRing := []
  nextChain : Nat := 1
  chains : Map RunChain := []
  short : List PkeJob := []
  long : List PkeJob := []
  units : Map PkeRun := []
  parked : List (Nat × PkeRun) := []
  curves : Map Curve := []
  results : List (PkeUse × PkeOut) := []
  selfTestFailed : Bool := false
  restarting : Bool := false
  requests : Nat := 0
  deriving DecidableEq, Repr

/-! ### Synchronisation counters (chapter 08) -/

/-- R232, R251. A counter: its value, its sticky flags, its watch, its CNT_NOTIFY bit. -/
structure Counter where
  value : Nat := 0
  satHi : Bool := false
  satLo : Bool := false
  armed : Bool := false
  watch : Nat := 0
  notify : Bool := false
  deriving DecidableEq, Repr

/-- R236. A pending wait: the task slot it holds, its counter and VALUE, whether a WAIT_DEC. -/
structure Wait where
  core : Nat
  slot : Nat
  ctr : Nat
  value : Nat
  dec : Bool
  deriving DecidableEq, Repr

/-- Chapter 08. The counters, the pending waits in the order they entered the total order, the block whose clear is being reported. -/
structure Sync where
  counters : Map Counter := []
  waits : List Wait := []
  clearing : Option Nat := none
  deriving DecidableEq, Repr

/-! ### Tasks, chains and the scheduler (chapters 05 to 07) -/

/-- R194, R221. A task item as the scheduler holds it: its fields, its four arguments, its expansion's number, its channel, its channel post sequence number and
the time of its acceptance. -/
structure Task where
  flow : Nat
  ctx : Nat
  entry : Nat
  cost : Nat
  tidx : Nat := 0
  hasSrc : Bool := false
  srcChain : Nat := 0
  srcCell : Nat := 0
  fn : Nat
  key : Nat
  args : List Nat
  exp : Nat := 0
  chan : Nat := 0
  seq : Nat := 0
  accepted : Ts := {}
  deriving DecidableEq, Repr

/-- R165, R207, R334. One expansion of a source item (or one posted task, its own source): the chain and cell of the item, FANOUT, the tasks that have ended, those
done for the item, and its binding: not yet made, to nothing, or to a copy of a weight set. -/
structure Expansion where
  id : Nat
  fanout : Nat
  item : Option (Nat × Nat) := none
  ended : List Nat := []
  done : List Nat := []
  bound : Option (Option (Nat × Nat)) := none
  deriving DecidableEq, Repr

/-- R165 to R167. Where the child of an expansion in a chain stands; a VOID child, whether CH_DROP_CNT has counted it. -/
inductive ChildState where
  | building (cell : Nat) | committed | void (counted : Bool)
  deriving DecidableEq, Repr

/-- R165. The child of an expansion in a chain, and the tasks that have committed to it. -/
structure Child where
  exp : Nat
  chain : Nat
  state : ChildState
  commits : List Nat := []
  deriving DecidableEq, Repr

/-- The states of an item that hold space. -/
inductive ItemState where
  | building | ready | inUse | spent
  deriving DecidableEq, Repr

/-- R163, R173 to R176. A cell that an item holds: its chain, its payload buffer, state, header, payload length so far, enqueue and take sequence numbers, whether
the link hold retains it, and the rewind that waits for its finish (true: it is then freed). The model's own number of the taking of the cell tells it from later ones. -/
structure Cell where
  id : Nat := 0
  chain : Nat
  buf : Nat
  state : ItemState
  header : List Byte
  top : Nat := 0
  enq : Nat := 0
  take : Nat := 0
  link : Bool := false
  rewind : Option Bool := none
  deriving DecidableEq, Repr

/-- R161, R184, R190. A chain's descriptor in effect. -/
structure ChainDesc where
  length : Nat
  reserve : Nat
  src : Nat
  srcPort : Nat
  sink : Nat
  sinkPort : Nat
  slot : Nat
  pay : Nat
  deriving DecidableEq, Repr

/-- R166, R170, R185. Who waits for a cell of a chain: a core step, a port with an arriving item, the chain's host ring. -/
inductive Waiter where
  | step (core slot order : Nat)
  | port (p : Nat)
  | ring
  deriving DecidableEq, Repr

/-- R179. A chain operation in progress: its OP of CH_CMD (1 to 6), its mark, the step it is for. -/
structure ChainOp where
  op : Nat
  mark : Nat
  step : Option (Nat × Nat × Nat) := none
  deriving DecidableEq, Repr

/-- A chain beside its registers: descriptor in effect, active marks (E and T by mark number), takes stopped by an expansion error, the operation in progress,
those that wait for a cell, each with its place among all that wait, and the finishes of items that wait for the operation or the stall to end (by the numbers of their cells' takings). -/
structure Chain where
  desc : Option ChainDesc := none
  marks : Map (Nat × Nat) := []
  stopped : Bool := false
  busy : Option ChainOp := none
  waiters : List (Nat × Waiter) := []
  finishes : List Nat := []
  deriving DecidableEq, Repr

/-- R198 to R200, R513. A flow beside its registers: its queue, oldest first, the task in service, and whether a notice blocks it at that task's end. -/
structure Flow where
  queue : List Task := []
  service : Option Task := none
  notice : Bool := false
  deriving DecidableEq, Repr

/-- R196, R209. A flow on a group's ready list, with the affinity it joined with. -/
structure ReadyFlow where
  flow : Nat
  any : Bool
  core : Nat
  deriving DecidableEq, Repr

/-- R229. One entry of a flow page's attention queue: flow index, core, status, TAG of the failing step. -/
structure Attention where
  flow : Nat
  core : Nat
  status : Nat
  tag : Nat
  deriving DecidableEq, Repr

/-- R218, R225. A channel's configuration in effect. -/
structure ChannelCfg where
  quota : Nat
  min : Nat
  spill : Bool
  base : Nat
  size : Nat
  deriving DecidableEq, Repr

/-- A channel beside its registers: configuration, post sequence number, the spill ring's PROD, CONS and discarded counts, the expansion, TIDX and function of each spilled
task (oldest first; expansion 0: flushed by an FLR), the steps whose posts wait for an entry, each with its place among all that wait, core, slot and number. -/
structure Channel where
  cfg : Option ChannelCfg := none
  seq : Nat := 0
  prod : Nat := 0
  cons : Nat := 0
  flushed : Nat := 0
  ring : List (Nat × Nat × Nat) := []
  waiters : List (Nat × Nat × Nat × Nat) := []
  deriving DecidableEq, Repr

/-- R118, R122, R126. Where an issued step stands: it waits for its unit, its acknowledge is withheld, or it has run and completes next. -/
inductive Phase where
  | queued | blocked | ran
  deriving DecidableEq, Repr

/-- R123. The region of an operand: space (HBM_D counts as HBM_C), first byte, the byte behind the last, whether it is written. -/
structure Region where
  space : Nat
  lo : Nat
  hi : Nat
  write : Bool
  deriving DecidableEq, Repr

/-- R102, R107. Where a stopped matrix step stands, the presented width that its tiles were counted in, its flags so far, and the quarter accumulators of the outputs in
progress. -/
structure Partial where
  pos : StepPos
  width : Nat := 64
  flags : Nat := 0
  acc : List (List (Option Nat)) := []
  deriving DecidableEq, Repr

/-- R122 to R126. A step in flight: its number among all issued, program order, step index, header and operation; units, effective addresses, regions and CTX_SALT at issue; its phase,
status and flags; the bytes it writes at its completion (space, address, bytes); rows of a host read that have come; where it stopped; whether its flush is under way. -/
structure Entry where
  seq : Nat
  order : Nat
  step : Nat
  hdr : StepHdr
  op : StepOp
  units : List Nat := []
  addrs : List Nat := []
  regions : List Region := []
  salt : Nat := 0
  phase : Phase := .queued
  status : Status := .ok
  flags : Nat := 0
  writes : List (Nat × Nat × List Byte) := []
  rows : List (List Byte) := []
  part : Option Partial := none
  flushed : Bool := false
  deriving DecidableEq, Repr

/-- R126. A status that a step of a task completed with: program order, status, step index, opcode, TAG. -/
structure StepFail where
  order : Nat
  status : Status
  step : Nat
  opcode : Nat
  tag : Nat
  deriving DecidableEq, Repr

/-- R121 to R126, R144 to R151. A task in a slot: the item, the weight set its context selected at its dispatch (R333), the next step index and program order, address registers, steps
fetched and not issued, steps of a resumed window to issue again, steps in flight (oldest first), fences (order, FULL), whether END has issued, the oldest hard and the first soft
status, the save record that a preemption has taken, the save record that is being reloaded into the slot, whether an abort is in progress, the chains committed to in this run. -/
structure Running where
  task : Task
  sel : Option Nat := none
  pc : Nat
  order : Nat := 0
  aregs : List Nat
  queue : List (StepHdr × StepOp) := []
  replay : List Entry := []
  window : List Entry := []
  fences : List (Nat × Bool) := []
  ended : Bool := false
  hard : Option StepFail := none
  soft : Option StepFail := none
  preempt : Option Nat := none
  restore : Option Nat := none
  aborting : Bool := false
  commits : List Nat := []
  deriving DecidableEq, Repr

/-- R153, R119. What a loaded image gives: its base, tables and lengths, and its entry table. -/
structure Image where
  base : Nat
  len : Nat
  stepOff : Nat
  stepCnt : Nat
  entryOff : Nat
  entryCnt : Nat
  manOff : Nat
  manCnt : Nat
  sigOff : Nat
  alg : Nat
  entries : List Nat := []
  deriving DecidableEq, Repr

/-- R148 to R150. A save record in use: the task as it stopped, the token's words, the bytes written where the layout of the record is open, and the number of the free value
from which the order of its accumulator words is drawn. -/
structure Saved where
  run : Running
  token : List Nat
  raw : List Byte
  order : Nat
  deriving DecidableEq, Repr

/-- R155. A group of up to eight steps in a core's step buffer: its context, its number (the index of its first step over 8), its bytes. -/
structure StepGroup where
  ctx : Nat
  group : Nat
  bytes : List Byte
  deriving DecidableEq, Repr

/-- R352. A weight set's applied configuration: MODE (1 or 2), CORES, LEN, BASE0, BASE1. -/
structure SetCfg where
  mode : Nat
  cores : Nat
  len : Nat
  base0 : Nat
  base1 : Nat
  deriving DecidableEq, Repr

/-- R338, R341, R347. A command of a weight set in progress: its OP of WSET_CMD (3: the reload of a SINGLE switch), copy, core and context of a MAN_APPLY, the cores whose
part is not yet complete, whether it still waits for the copy, the state it began in, its first failure and the core that had it. -/
structure SetJob where
  op : Nat
  copy : Nat
  core : Nat := 0
  ctx : Nat := 0
  parts : List Nat := []
  waiting : Bool := false
  st : Status := .ok
  stCore : Nat := 0
  deriving DecidableEq, Repr

/-- A weight set beside its registers: configuration in effect, command in progress, the target of an armed switch and whether its tick has been delivered, whether a reload has
failed that no FILL has mended (R347). -/
structure WeightSet where
  cfg : Option SetCfg := none
  job : Option SetJob := none
  target : Nat := 0
  due : Bool := false
  failed : Bool := false
  deriving DecidableEq, Repr

/-- Chapters 05 to 07 and 11. Cells, the cells taken and the waits begun so far; chains; expansions and children; flows, ready lists, attention queues, pending gets, delay lists (target and task, sorted), channels;
tasks in slots (keyed core × 4 + slot), images (core × 16 + context) and loads in progress with the outcome of their checks, save records in use and their generations (keyed image key
× 8 + record), resumes that wait for a slot (core and record key), steps issued so far, cores under self-test, the slot
of each core that issued last; weight sets; the step buffer of each core, oldest group first. -/
structure Work where
  cells : Map Cell := []
  nextCell : Nat := 0
  nextWait : Nat := 0
  chains : Map Chain := []
  exps : List Expansion := []
  nextExp : Nat := 1
  children : List Child := []
  flows : Map Flow := []
  ready : Map (List ReadyFlow) := []
  attention : Map (List Attention) := []
  gets : List (Nat × Nat) := []
  delayed : Map (List (Nat × Task)) := []
  channels : Map Channel := []
  slots : Map Running := []
  images : Map Image := []
  loading : Map (Image × Status) := []
  saves : Map Saved := []
  gens : Map Nat := []
  resumes : List (Nat × Nat) := []
  issued : Nat := 0
  testing : List Nat := []
  lastSlot : Map Nat := []
  wsets : Map WeightSet := []
  stepBuf : Map (List StepGroup) := []
  deriving DecidableEq, Repr

/-! ### Causeway ports and the group (chapter 16) -/

/-- R486. The content of a flit, by its type. -/
inductive FlitBody where
  | idle
  | itemHead (header payload : List Byte)
  | itemData (payload : List Byte)
  | lwrHead (w : LinkWrite) (data : List Byte)
  | lwrData (data : List Byte)
  | lsig (g : LinkSignal)
  | notice (n : LinkNotice)
  | voided
  | exch (record : List Byte)
  | tsync (t1 : TsyncTime) (echo : Option (TsyncTime × TsyncTime))
  | retry (want : Nat)
  | lane (mask eff : Nat)
  | key
  | leave
  deriving DecidableEq, Repr

/-- R485, R490, R496. A flit that the device sent: its port, extended sequence number (none unsequenced), ACK, credits returned and their VC, content, and on an encrypted
flit the key and the SESSION of its nonce. -/
structure Sent where
  port : Nat
  seq : Option Nat
  ack : Nat
  count : Nat
  vc : Nat
  body : FlitBody
  enc : Option (List Byte × Nat) := none
  deriving DecidableEq, Repr

/-- What a sequenced flit in a replay buffer belongs to: an item (its chain and the number of its cell's taking, whether the flit is its last), a write, a signal, or neither. -/
inductive FlitRef where
  | item (chain id : Nat) (last : Bool)
  | write (w : LinkWrite)
  | signal (g : LinkSignal)
  | other
  deriving DecidableEq, Repr

/-- R492. An entry of a replay buffer: extended sequence number, VC, the flit as sent, what it belongs to. -/
structure Replay where
  seq : Nat
  vc : Nat
  flit : Sent
  ref : FlitRef
  deriving DecidableEq, Repr

/-- What waits at a port to be sent on the WRITE and CONTROL channels. -/
inductive LinkMsg where
  | write (w : LinkWrite) (data : List Byte)
  | signal (g : LinkSignal)
  | notice (n : LinkNotice)
  | lane (mask : Nat)
  | key
  deriving DecidableEq, Repr

/-- R170, R512. An item that is arriving: the sender's member, chain, ENQ_SEQ and FLOW, the chain it is placed in, its cell (none: discarded) with the number of its taking, whether
it waits for a cell, header, length, the bytes arrived, ITEM credits withheld until it has a cell. -/
structure Arrival where
  member : Nat
  src : Nat
  enq : Nat
  flow : Nat
  chain : Nat
  cell : Option Nat := none
  id : Nat := 0
  waiting : Bool := false
  header : List Byte
  len : Nat
  bytes : List Byte := []
  deriving DecidableEq, Repr

/-- Chapter 16. A port beside its registers: whether it encrypts (applied at START), extended sequence numbers, credits of ITEM, WRITE and CONTROL, credits to return, replay buffer
(oldest first), the number from which it resends, resends of the oldest flit, the item being sent (chain, cell, payload bytes sent; none before its head), messages, the write being
sent, the item and the write arriving (with the flits whose credits wait), the flits accepted and not applied yet (oldest first), what the exchange has shown (own MATCH sent, RESUME_OK of both, fresh session drawn, peer's MATCH record), the graceful leave (asked, LEAVE sent, LEAVE got, its
acknowledgement sent), a RETRY owed, keys CUR and NEXT and those being derived, the lane being added, the times t2 and t3 of the last TSYNC received. -/
structure Port where
  enc : Bool := false
  tx : Nat := 0
  rx : Nat := 0
  credits : Nat × Nat × Nat := (0, 0, 0)
  owed : Nat × Nat × Nat := (0, 0, 0)
  replay : List Replay := []
  resend : Option Nat := none
  resends : Nat := 0
  sending : Option (Nat × Nat × Option Nat) := none
  queue : List LinkMsg := []
  txWrite : Option (LinkWrite × List Byte) := none
  arrival : Option Arrival := none
  rxWrite : Option (LinkWrite × List Byte × Nat) := none
  rxBuf : List FlitBody := []
  matched : Bool := false
  matchSent : Bool := false
  resumeOk : Bool := false
  fresh : Bool := false
  peerMatch : Option (Bool × Nat × Nat) := none
  leaving : Bool := false
  leaveSent : Bool := false
  leaveGot : Bool := false
  leaveAcked : Bool := false
  retry : Bool := false
  curKeys : List Byte := []
  nextKeys : List Byte := []
  newKeys : Option (List Byte) := none
  adding : Option Nat := none
  echo : Option (TsyncTime × TsyncTime) := none
  deriving DecidableEq, Repr

/-- R516, R526. One entry of the late-error queue: status code, kind, flow, function, reporting member, chain or link flow, sequence, time of logging. -/
structure LateErr where
  status : Nat
  kind : Nat
  flow : Nat
  fn : Nat
  member : Nat
  ref : Nat
  seq : Nat
  time : Ts
  deriving DecidableEq, Repr

/-- Chapter 16. Ports; the flits sent, in order; LF_SEQ of each link flow; the signal sequence number; the late-error queue; a digest under way; the armed epoch (value and tick) and
whether its tick came during a quiesce; whether FORMED has been 1 since the last DIGEST_UPDATE; the flows in service that have lost a LINK write, each with the member it was for. -/
structure Link where
  ports : Map Port := []
  out : List Sent := []
  lfSeq : Map Nat := []
  sigSeq : Nat := 0
  leq : List LateErr := []
  digesting : Bool := false
  armed : Option (Nat × Nat) := none
  epochDue : Bool := false
  formedOnce : Bool := false
  lost : List (Nat × Nat) := []
  deriving DecidableEq, Repr

/-! ### Tenants (chapter 15) -/

/-- R464 to R468. An instance beside its registers: the stage of its quiesce in progress or reached (0 none, 1 to 3, 4 all gates closed), its PREEMPT, whether the FLR in
progress ends QUIESCED, whether the VF is disabled after it, and the
command whose end is still to be reported (OP of TN_CMD, 0 none). -/
structure Inst where
  stage : Nat := 0
  preempt : Bool := false
  keepQuiet : Bool := false
  leaving : Bool := false
  job : Nat := 0
  deriving DecidableEq, Repr


/-! ### The whole device -/

/-- The state of the device. -/
structure State where
  /-- Every register field of the register tables (Registers.lean), sparse: an unlisted field reads its reset value. -/
  regs : Map Nat := []
  /-- R613. The common layout of every page, and of every function's copy (R628). -/
  pages : Map Page := []
  /-- R5, R34, R617. What a read captured for a function, by function and register. -/
  captures : Map (Option Nat) := []
  /-- The word that the last read command returned. The model's own. -/
  readData : Nat := 0
  time : Timebase := {}
  /-- R48. The ALL gate of the fabric domains is closed. -/
  stall : Bool := false
  host : HostIf := {}
  power : Power := {}
  fuses : Fuses := {}
  faultLog : List FaultEntry := []
  mem : Memory := {}
  sluice : Sluice := {}
  sync : Sync := {}
  work : Work := {}
  link : Link := {}
  tenants : Map Inst := []
  /-- Random bytes drawn so far. The model's own (assumption 5). -/
  rngCtr : Nat := 0
  /-- Open values drawn so far. The model's own (assumption 7). -/
  freeCtr : Nat := 0
  /-- R29, R49, R51. Commands whose acknowledge is withheld, in the order they came, each with the
  number of the block or slot whose order it keeps. -/
  held : List (Nat × Instr) := []
  /-- The commands that wait, first in, first out. -/
  pending : List Instr := []
  deriving DecidableEq, Repr

/-- The machine right after reset: every register at its reset value, every queue empty, every domain but PD_AON off. -/
def State.reset : State := {}

end Sys2Proof.Machine
end

