-- ==== Sys2Proof/Machine/Ops.lean ====
section
/-!
DEFINITION. The named operations over registers, pages, events, error capture, withheld commands and logs that every meaning uses.
-/

namespace Sys2Proof.Machine

/-- What a command answers. -/
abbrev Outcome := Host.Outcome State Fault Refusal

/-! ### Register fields (R9) -/

/-- The value of a register field; an unlisted field reads its reset value. -/
def State.get (s : State) (f : Field) : Nat := Map.get s.regs f.reset f.key

/-- A field takes the low bits of a value. -/
def State.set (s : State) (f : Field) (v : Nat) : State :=
  { s with regs := Map.put f.reset s.regs f.key (v % 2 ^ f.width) }

/-- A counter field takes its value plus `n`, wrapping at its width. -/
def State.add (s : State) (f : Field) (n : Nat) : State := s.set f (s.get f + n)

/-- A one-bit field reads 1. -/
def State.on (s : State) (f : Field) : Bool := s.get f != 0

/-- A one-bit field takes a Boolean. -/
def State.flag (s : State) (f : Field) (b : Bool) : State := s.set f (b2n b)

/-- A value of two words: the upper word's field and the lower word's field, each at its own width. -/
def State.pair (s : State) (lo hi : Field) : Nat :=
  s.get lo * 2 ^ lo.lsb + s.get hi * 2 ^ 32

/-- Two registers take the low and the high word of a value. -/
def State.setPair (s : State) (lo hi : Field) (v : Nat) : State :=
  (s.set lo (v % 2 ^ 32 / 2 ^ lo.lsb)).set hi (v / 2 ^ 32)

/-- Every field of the given pages returns to its reset value. -/
def State.clearRegs (s : State) (p : Nat → Bool) : State :=
  { s with regs := Map.drop (fun k => p (k / 32 / 4096)) s.regs }

/-! ### Withheld commands (R29) -/

/-- The acknowledge of a command is withheld: it waits, in order behind the others of the same block, and takes effect later. -/
def State.hold (s : State) (block : Nat) (c : Instr) : Outcome :=
  .next { s with held := s.held ++ [(block, c)] }

/-- A command of a block waits behind an earlier withheld command of the same block. -/
def State.behind (s : State) (block : Nat) : Bool := s.held.any (fun h => h.1 == block)

/-! ### Pages and power domains (R529, R530, R611) -/

/-- The code of the power domain that a page lies in (R530). -/
def domainOf (page : Nat) : Nat :=
  if page < 0x100 then 0
  else if page < 0x180 then 5
  else if page < 0x200 then 6
  else if page < 0x300 then 7
  else if page < 0x320 then 3
  else if page < 0x400 then 7
  else if page < 0x500 then 4
  else if page < 0x510 then 1
  else if page < 0x600 then 7
  else if page < 0x700 then 2
  else 0

/-- The state of a domain; PD_AON is always ON (R529). -/
def State.dom (s : State) (d : Nat) : Dom := if d = 0 then .on else Map.get s.power.doms .off d

/-- A domain is ON: RETAIN and TRANSIT count as off (R529). -/
def State.domOn (s : State) (d : Nat) : Bool := s.dom d == .on

/-- A domain takes a state. A compute die's domain that comes ON has been ON in the running window of the beat-rate monitors (R632). -/
def State.setDom (s : State) (d : Nat) (v : Dom) : State :=
  { s with power := { s.power with doms := Map.put .off s.power.doms d v,
                                   ringSeen := if v = .on ∧ (d = 5 ∨ d = 6) ∧ !s.power.ringSeen.contains d then s.power.ringSeen ++ [d] else s.power.ringSeen } }

/-- A page's domain is ON. -/
def State.pageOn (s : State) (page : Nat) : Bool := s.domOn (domainOf page)

/-- R48. A page of the self-timed fabric: PD_CORE_A, PD_CORE_B, PD_SHARED and PD_SLUICE. -/
def fabricPage (page : Nat) : Bool := let d := domainOf page; d == 4 || d == 5 || d == 6 || d == 7

/-- R628. The pages of which every function has its own copy of the event and error registers. -/
def perFn (page : Nat) : Bool := page == 0 || page == 2 || page == 0x500 || (0x210 ≤ page && page ≤ 0x21F)

/-- The key of the copy of a page's common registers that function `fn` sees. -/
def pageKey (fn page : Nat) : Nat := if perFn page then page + fn * 65536 else page

/-- The common registers of a page copy. -/
def State.page (s : State) (key : Nat) : Page := Map.get s.pages {} key

/-- A page copy takes common registers. -/
def State.setPage (s : State) (key : Nat) (p : Page) : State := { s with pages := Map.put {} s.pages key p }

/-- R621. The number of event bits of a page. -/
def evtBits (page : Nat) : Nat :=
  if page = 0 then 1 else if page = 1 then 7 else if page = 2 then 7 else if page = 3 then 3 else if page = 4 then 3
  else if 0x100 ≤ page ∧ page < 0x200 then
    let q := page % 16
    if q = 0 then 2 else if q ≤ 4 then 5 else if q = 5 then 3 else if q = 6 then 0 else if q = 7 then 6
    else if q ≤ 9 then 3 else if q = 10 then 4 else 0
  else if page = 0x200 then 5 else if 0x201 ≤ page ∧ page ≤ 0x208 then 5
  else if page = 0x210 then 5 else if 0x211 ≤ page ∧ page ≤ 0x21F then 3
  else if page = 0x220 then 2 else if 0x221 ≤ page ∧ page ≤ 0x228 then 3
  else if page = 0x300 then 4 else if 0x301 ≤ page ∧ page ≤ 0x306 then 3 else if 0x307 ≤ page ∧ page ≤ 0x30F then 2
  else if page = 0x310 then 7 else if page = 0x320 then 1 else if 0x321 ≤ page ∧ page ≤ 0x328 then 6
  else if page = 0x400 then 3 else if 0x401 ≤ page ∧ page ≤ 0x409 then 7 else if page = 0x410 then 5
  else if page = 0x500 then 8 else if 0x501 ≤ page ∧ page ≤ 0x508 then 4
  else if page = 0x510 then 6 else if 0x511 ≤ page ∧ page ≤ 0x518 then 4
  else if 0x600 ≤ page ∧ page < 0x680 then (if page % 16 = 0 then 7 else 0)
  else if page = 0x680 then 7 else if page = 0x700 then 5 else 0

/-- R621. The event bits of a page that are not RSV: bit 1 of an MVP page is. -/
def evtMask (page : Nat) : Nat := if 0x100 ≤ page ∧ page < 0x200 ∧ page % 16 = 5 then 5 else 2 ^ evtBits page - 1

/-- R611. A page the map implements. -/
def implemented (page : Nat) : Bool :=
  page < 5 || (0x100 ≤ page && page < 0x200 && page % 16 ≤ 10) || (0x200 ≤ page && page ≤ 0x208)
    || (0x210 ≤ page && page ≤ 0x21F) || (0x220 ≤ page && page ≤ 0x228) || (0x300 ≤ page && page ≤ 0x310)
    || (0x320 ≤ page && page ≤ 0x328) || (0x400 ≤ page && page ≤ 0x409) || page == 0x410
    || (0x500 ≤ page && page ≤ 0x508) || (0x510 ≤ page && page ≤ 0x518)
    || (0x600 ≤ page && page < 0x680 && page % 16 == 0) || (0x680 ≤ page && page ≤ 0x690) || page == 0x700

/-- R612. The block type code of a page. -/
def blockType (page : Nat) : Nat :=
  if !implemented page then 0
  else if page < 5 then page + 1
  else if page < 0x200 then
    let q := page % 16
    if q = 0 then 0x10 else if q ≤ 4 then 0x11 else q - 5 + 0x12
  else if page < 0x300 then 0x20 + page / 16 % 16
  else if page < 0x400 then 0x30 + page / 16 % 16
  else if page < 0x500 then 0x40 + page / 16 % 16
  else if page < 0x600 then 0x50 + page / 16 % 16
  else if page < 0x680 then 0x60
  else if page < 0x700 then 0x68 else 0x70

/-- R612. The BLK_ID of a page: block type, instance and the page's index in its block. -/
def blkId (page : Nat) : Nat :=
  if !implemented page then 0 else
  let inst := if 0x100 ≤ page ∧ page < 0x200 then page / 16 - 16 else if 0x600 ≤ page ∧ page < 0x680 then page / 16 - 0x60 else 0
  let idx := if page < 5 then 0 else if 0x680 ≤ page ∧ page < 0x700 then page - 0x680 else page % 16
  blockType page * 65536 + inst * 256 + idx

/-- R613. BLK_CAP0.PAGES: the pages of the block a page lies in. -/
def blockPages (page : Nat) : Nat :=
  if page < 5 ∨ page = 0x310 ∨ page = 0x410 ∨ page = 0x700 then 1 else if 0x680 ≤ page ∧ page ≤ 0x690 then 17 else 16

/-! ### What a function may access (R425, R456) -/

/-- The holder recorded for counter block `b` (R247). -/
def State.blockHolder (s : State) (b : Nat) : Nat := bitsOf (s.get (SY_BLK_FN (b / 8))) (4 * (b % 8)) 4

/-- The holder recorded for weight set `e` (R353). -/
def State.setHolder (s : State) (e : Nat) : Nat := bitsOf (s.get W_SET_FN) (4 * e) 4

/-- The holder of logical core `n`: the VF whose TG_CORES has its bit, the PF where none has (R458). -/
def State.coreHolder (s : State) (n : Nat) : Nat :=
  ((List.range 8).find? (fun i => bitOf (s.get (TG_CORES (i + 1))) n)).elim 0 (· + 1)

/-- The holder of page triple `j` (1 to 8) of QUEUE, SCHED and HOSTIF (R459). -/
def State.tripleHolder (s : State) (j : Nat) : Nat :=
  ((List.range 8).find? (fun i => bitOf (s.get (TG_PAGES_QPAGES (i + 1))) (j - 1))).elim 0 (· + 1)

/-- R456. Function `fn` may access a page: the PF every page; a VF, once it is not ABSENT, those it always sees and those granted to it. -/
def State.sees (s : State) (fn page : Nat) : Bool :=
  if fn = 0 then true
  else if s.host.vfs < fn then false
  else page == 0 || page == 2 || page == 0x500 || page == 0x510 + fn || page == 0x401 + fn
    || (0x100 ≤ page && page < 0x200 && s.coreHolder (page / 16 - 16) == fn)
    || (0x201 ≤ page && page ≤ 0x208 && s.tripleHolder (page - 0x200) == fn)
    || (0x221 ≤ page && page ≤ 0x228 && s.tripleHolder (page - 0x220) == fn)
    || (0x501 ≤ page && page ≤ 0x508 && s.tripleHolder (page - 0x500) == fn)
    || (0x210 ≤ page && page ≤ 0x21F && (List.range 4).any (fun i => s.blockHolder (4 * (page - 0x210) + i) == fn))
    || (0x321 ≤ page && page ≤ 0x328 && s.setHolder (page - 0x321) == fn)
    || (page == 0x307 + fn && s.on (TG_PAGES_MEMCTL_VIEW fn))

/-! ### Events and messages (R439 to R442, R619) -/

/-- R439. A page copy's summary: EVT_STAT AND EVT_EN is not 0. -/
def Page.summary (p : Page) : Bool := (p.evtStat &&& p.evtEn) != 0

/-- The route of a page for a function. -/
def State.route (s : State) (fn page : Nat) : Route := Map.get s.host.routes {} (fn * 16384 + page)

/-- R467, R468. Function `fn` is in an FLR: the device issues no request to the host with its requester ID. -/
def State.resetting (s : State) (fn : Nat) : Bool := fn != 0 && s.get (TN_STAT_STATE fn) == 4

/-- R440, R442. A page's message for one function: sent, left pending where its vector is masked, owed while the function is in D3hot or MSI-X is
blocked, nothing where no route is enabled. -/
def State.sendMsg (s : State) (fn page : Nat) : State :=
  let r := s.route fn page
  if !r.en || s.resetting fn then s
  else if s.host.d3hot.contains fn || !s.host.msixEnabled.contains fn then
    if s.host.owed.contains (fn * 16384 + page) then s else { s with host := { s.host with owed := s.host.owed ++ [fn * 16384 + page] } }
  else if !s.host.unmasked.contains (fn * 2048 + r.vector) then
    if s.host.vecPending.contains (fn * 2048 + r.vector) then s
    else { s with host := { s.host with vecPending := s.host.vecPending ++ [fn * 2048 + r.vector] } }
  else { s with host := { s.host with out := s.host.out ++ [.msg fn r.vector] } }

/-- The functions whose view a page copy is. -/
def State.viewers (s : State) (fn page : Nat) : List Nat :=
  if perFn page then [fn] else (List.range 9).filter (fun f => s.sees f page)

/-- R619, R440. An event occurs on the copy of a page that function `fn` sees: its EVT_STAT bit is set, and a summary that rises sends a message. -/
def State.raiseFn (s : State) (fn page bit : Nat) : State :=
  let k := pageKey fn page
  let p := s.page k
  let q := { p with evtStat := p.evtStat ||| 2 ^ bit }
  let s1 := s.setPage k q
  if q.summary && !p.summary then (s.viewers fn page).foldl (fun t f => t.sendMsg f page) s1 else s1

/-- An event occurs on a page that has one copy, or in the PF's copy. -/
def State.raise (s : State) (page bit : Nat) : State := s.raiseFn 0 page bit

/-- R628. A chip-wide event goes to every copy of a page. -/
def State.raiseAll (s : State) (page bit : Nat) : State :=
  (List.range 9).foldl (fun t f => t.raiseFn f page bit) s

/-- R619. A level event: the event occurs when the condition goes from 0 to 1. -/
def State.raiseEdge (s : State) (page bit : Nat) (was now : Bool) : State := if now && !was then s.raise page bit else s

/-! ### Error capture (R616) -/

/-- The timebase's count. -/
def State.now (s : State) : Ts := { sec := s.time.sec, ns := s.time.ns }

/-- R616. A page copy captures an error: CODE, detail and time are the new error's, COUNT rises and saturates at 255. -/
def State.captureFn (s : State) (fn page : Nat) (st : Status) (info0 info1 : Nat) : State :=
  let k := pageKey fn page
  let p := s.page k
  s.setPage k { p with errCode := st.code, errCount := min 255 (p.errCount + 1), errInfo0 := info0 % 2 ^ 32,
                       errInfo1 := info1 % 2 ^ 32, errNext := none, errTime := s.now }

/-- R616. A page that has one copy, or the PF's copy, captures an error. -/
def State.capture (s : State) (page : Nat) (st : Status) (info0 info1 : Nat) : State := s.captureFn 0 page st info0 info1

/-- R616. A refused register write whose chapter gives no other layout: the register's offset in its page and the value written. -/
def State.refuseWrite (s : State) (fn addr v : Nat) : State :=
  s.captureFn fn (addr / 4096) .badParam (addr % 4096) v

/-! ### Register accesses of the functions (R425, R426, R48, R49) -/

/-- R426. An access to a page whose domain is off: counted, and PDOFF_ACCESS raised on the function's copy of HOSTIF page 0. -/
def State.pdoffAccess (s : State) (fn : Nat) : State := (s.add HI_PDOFF_CNT 1).raiseFn fn 0x500 1

/-- A register command of function `fn` on a page: discarded and counted while the page's domain is off (R426), ignored where the function has
no such page (R425). -/
def mmio (fn page : Nat) (s : State) (body : State → Outcome) : Outcome :=
  if !s.pageOn page then .next (s.pdoffAccess fn)
  else if !s.sees fn page then .next s
  else body s

/-- The word that a read command returns. -/
def State.answer (s : State) (v : Nat) : State := { s with readData := v }

/-- R425, R426. A register read of function `fn`: all ones while the page's domain is off, 0 where the function has no such page. -/
def mmioRead (fn page : Nat) (s : State) (body : State → Outcome) : Outcome :=
  if !s.pageOn page then .next ((s.pdoffAccess fn).answer 0xFFFFFFFF)
  else if !s.sees fn page then .next (s.answer 0)
  else body s

/-- A step of a fabric block: its acknowledge is withheld during a throttle stall (R48), and behind an earlier withheld command of the same block. -/
def fabric (page block : Nat) (c : Instr) (s : State) (body : State → Outcome) : Outcome :=
  if (s.stall && fabricPage page) || s.behind block then s.hold block c else body s

/-- R49. A command written to a page: an access as of `mmio`; recorded, to take effect after the stall, while the page's block is stalled. -/
def command (fn page : Nat) (c : Instr) (s : State) (body : State → Outcome) : Outcome :=
  mmio fn page s (fun s => fabric page page c s body)

/-- An event of a block that cannot occur: its domain is not ON, or a throttle stall halts its fabric (R48). -/
def halted (page : Nat) (s : State) : Bool := !s.pageOn page || (s.stall && fabricPage page)

/-- R51. A page's ENTRY gate is closed. -/
def State.quiet (s : State) (page : Nat) : Bool := (s.page page).quiesceReq

/-- A one-time event of a block's engine: no effect while it is halted. -/
def event (page : Nat) (s : State) (body : State → Outcome) : Outcome := if halted page s then .next s else body s

/-! ### The fault log (R562, R589, R590) -/

/-- The physical slot that a logical core fronts (R17, R574): its die-local index plus 9 on die B. -/
def State.physSlot (s : State) (n : Nat) : Nat :=
  (if n < 8 then 0 else 9) + bitsOf (s.get (if n < 8 then FU_CORE_MAP0 else FU_CORE_MAP1)) (4 * (n % 8)) 4

/-- R590. A fault is logged, or counted as lost where the log holds 64 entries. -/
def State.logFault (s : State) (e : FaultEntry) : State :=
  if s.faultLog.length < 64 then ({ s with faultLog := s.faultLog ++ [e] }).raise 0x700 0
  else (s.add FT_LOST 1).raise 0x700 2

/-- R562, R589. A fault of a class of R561, with its unit: fields that its class does not use read 0. -/
def State.fault (s : State) (cls : Nat) (st : Status) (fn lcore array port index : Nat) : State :=
  s.logFault { cls := cls, status := st.code, fn := fn, lcore := lcore, pslot := if cls ≤ 6 then s.physSlot lcore else 0, array := array, port := port,
               index := index, time := s.now }

/-! ### Free values -/

/-- The next value the spec leaves open (assumption 7), below a bound, and the state that has drawn it. -/
def State.drawFree (s : State) : Nat × State := (Config.freeValue s.freeCtr, { s with freeCtr := s.freeCtr + 1 })

/-- The next `n` random bytes (assumption 5), and the state that has drawn them. -/
def State.drawRandom (s : State) (n : Nat) : List Byte × State :=
  ((List.range n).map (fun i => Config.randomByte (s.rngCtr + i)), { s with rngCtr := s.rngCtr + n })

end Sys2Proof.Machine
end

