-- ==== Sys2Proof/Machine/Flags.lean ====
section
/-!
DEFINITION. The flag words of contexts (R64 to R66): which flags the arrays may raise, and when a step contributes its flags.
-/

namespace Sys2Proof.Machine

/-- R65. The flags that the arrays and the MVP raise: INV, OVF and UNF. -/
def arrayFlags (f : Nat) : Nat := f &&& (INV + OVF + UNF)

/-- R66. A step that completes with a status contributes its flags, unless it is FAULTED or ABORTED. -/
def contributed (st : Status) (f : Nat) : Nat := if st = .faulted ∨ st = .aborted then 0 else f % 32

/-- R66. Flags are ORed into the flag word of a context. -/
def State.addFlags (s : State) (core ctx f : Nat) : State := s.set (CTX_FLAGS core ctx) (s.get (CTX_FLAGS core ctx) ||| f)

/-- R66, R142. Flags already contributed are cleared. -/
def State.clearFlags (s : State) (core ctx mask : Nat) : State :=
  s.set (CTX_FLAGS core ctx) (s.get (CTX_FLAGS core ctx) - (s.get (CTX_FLAGS core ctx) &&& (mask % 32)))

end Sys2Proof.Machine
end

