-- ==== Sys2Proof/Machine/Arrays.lean ====
section
/-!
DEFINITION. The matrix arrays, the matrix-vector path and the vector unit (chapters 03 and 04): columns and service, products and reduction order, the
areas of a matrix step and where it can stop, the vector operations. Results are functions of operand elements alone (R8, R71).
-/

namespace Sys2Proof.Machine

/-! ### Columns and service (R103 to R105) -/

/-- R104. The failed columns of an array, one bit each. -/
def State.colFail (s : State) (n a : Nat) : Nat :=
  s.get (MA_COLFAIL0 n a) + s.get (MA_COLFAIL1 n a) * 2 ^ 32 + s.get (MA_COLFAIL2 n a) * 2 ^ 64

/-- R104. The presented columns: those not failed, in increasing order, up to 64. -/
def presented (m : Nat) : List Nat := ((List.range 65).filter (fun c => !bitOf m c)).take 64

/-- R104. The presented width. -/
def State.width (s : State) (n a : Nat) : Nat := (presented (s.colFail n a)).length

/-- R103. The spare column, the highest, is good and not in use: it shadows. -/
def shadowing (m : Nat) : Bool := !bitOf m 64 && !(presented m).contains 64

/-- R103. The presented column after column `c`, around. -/
def nextColumn (m c : Nat) : Nat := (((presented m).find? (fun x => decide (c < x))).orElse (fun _ => (presented m).head?)).getD 0

/-- R104. An array takes a map of failed columns. -/
def State.setColumns (s : State) (n a m : Nat) : State :=
  let s1 := ((s.set (MA_COLFAIL0 n a) m).set (MA_COLFAIL1 n a) (m / 2 ^ 32)).set (MA_COLFAIL2 n a) (m / 2 ^ 64)
  let s2 := ((s1.set (MA_CAP_WIDTH n a) (presented m).length).flag (MA_CAP_SPARE_IN_USE n a) ((presented m).contains 64)).flag
    (MA_SHADOW_ACTIVE n a) (shadowing m && s.on (MA_CAP_IN_SERVICE n a))
  if (presented m).contains (s.get (MA_SHADOW_CUR n a)) then s2 else s2.set (MA_SHADOW_CUR n a) (nextColumn m (s.get (MA_SHADOW_CUR n a)))

/-- R87. An array, or for a retired one the lowest in-service array of its core. -/
def State.serving (s : State) (n a : Nat) : Option Nat :=
  if s.on (MA_CAP_IN_SERVICE n a) then some a else (List.range 4).find? (fun b => s.on (MA_CAP_IN_SERVICE n b))

/-- R105, R156. An array enters or leaves service. -/
def State.setService (s : State) (n a : Nat) (b : Bool) : State :=
  let m := s.get (CORE_CAP_ARRAYS n)
  let rest := if bitOf m a then m - 2 ^ a else m
  ((s.flag (MA_CAP_IN_SERVICE n a) b).set (CORE_CAP_ARRAYS n) (rest + (if b then 2 ^ a else 0))).flag (MA_SHADOW_ACTIVE n a) (b && shadowing (s.colFail n a))

/-! ### Elements -/

/-- The elements of a row of bytes. -/
def elements (f : Fmt) : Nat → List Byte → List Nat
  | 0, _ => []
  | n + 1, b => leNat (b.take f.bytes) :: elements f n (b.drop f.bytes)

/-- Groups of `n` neighbours. -/
def groupsOf {α : Type} (n : Nat) : Nat → List α → List (List α)
  | 0, _ => []
  | fuel + 1, l => if l.isEmpty then [] else l.take n :: groupsOf n fuel (l.drop n)

/-- Rows as columns, `n` of them. -/
def transposed (n : Nat) (rows : List (List Nat)) : List (List Nat) := (List.range n).map (fun j => rows.map (fun r => r.getD j 0))

/-! ### Products and reductions (R67 to R70) -/

/-- R67. The leaves per chunk of a pairing of stored and moving operand, and whether it accumulates in INT32; none where the pairing is refused. The mixed pairing is
accepted where `mixed` says so (R81). -/
def pairing (p b : Fmt) (mixed : Bool) : Option (Nat × Bool) :=
  let fp8 (f : Fmt) := f == .e4m3 || f == .e5m2
  if fp8 p && fp8 b then some (128, false)
  else if (p == .bf16 || p == .fp16) && p == b then some (64, false)
  else if p == .int8 && b == .int8 then some (128, true)
  else if fp8 p && b == .bf16 && mixed then some (128, false)
  else none

/-- R67 to R71, R75. What fixes the numbers of a matrix step: pairing, reduction length, output conversion, seed and elements per output row. -/
structure Dot where
  stored : Fmt
  moving : Fmt
  leaves : Nat
  int : Bool
  k : Nat
  out : OutMode
  seed : Nat
  cols : Nat
  deriving DecidableEq, Repr

/-- R68. One product: exact for INT8, else rounded once to FP32. -/
def Dot.product (d : Dot) (x y : Nat) : Nat × Nat :=
  let signed8 (v : Nat) : Int := if v % 256 < 128 then (v % 256 : Nat) else ((v % 256 : Nat) : Int) - 256
  if d.int then (toSigned32 (signed8 x * signed8 y), 0) else mulVal (decodeFloat d.stored x) (decodeFloat d.moving y)

/-- R69, R70. An addition of the accumulators. -/
def Dot.add (d : Dot) (a b : Nat) : Nat × Nat := if d.int then iadd a b else fadd a b

/-- The OR of flags. -/
def orFlags (l : List Nat) : Nat := l.foldl (· ||| ·) 0

/-- R69. The chunk sums of a reduction, with their flags. -/
def Dot.sums (d : Dot) (xs ys : List Nat) : List (Option Nat × Nat) :=
  (groupsOf d.leaves (d.k + 1) (List.zip xs ys)).map (fun g =>
    let ps := g.map (fun e => d.product e.1 e.2)
    let t := tree d.add (if d.leaves = 128 then 7 else 6) (ps.map (fun e => some e.1))
    (t.1, t.2 ||| orFlags (ps.map (·.2))))

/-- R70. The chunks of the reduction. -/
def Dot.chunks (d : Dot) : Nat := (d.k + d.leaves - 1) / d.leaves

/-- R70. The quarter that chunk `c` of `n` belongs to. -/
def quarterOf (n c : Nat) : Nat := ((List.range 4).find? (fun q => decide (c < (q + 1) * n / 4))).getD 3

/-- R70. The chosen chunks are added, in increasing order, into the quarter accumulators. -/
def Dot.accumulate (d : Dot) (xs ys : List Nat) (pick : Nat → Bool) (acc : List (Option Nat)) : List (Option Nat) × Nat :=
  ((d.sums xs ys).zipIdx).foldl
    (fun (a, f) (c, i) =>
      if pick i then
        let q := quarterOf d.chunks i
        let r := addOpt d.add (a.getD q none) c.1
        (a.set q r.1, f ||| c.2 ||| r.2)
      else (a, f)) (acc, 0)

/-- R59 to R63, R70. The result of an output, (Q0 + Q1) + (Q2 + Q3), converted; `i` is its element index. -/
def Dot.result (d : Dot) (i : Nat) (acc : List (Option Nat)) : Nat × Nat :=
  let l := addOpt d.add (acc.getD 0 none) (acc.getD 1 none)
  let r := addOpt d.add (acc.getD 2 none) (acc.getD 3 none)
  let t := addOpt d.add l.1 r.1
  let v := decodeFloat (if d.int then .int32 else .fp32) (t.1.getD 0)
  let o := convertDown d.out (hash32 d.seed i / 65536) v
  (o.1, l.2 ||| r.2 ||| t.2 ||| o.2)

/-! ### Matrix steps (R82 to R90, R107, R633) -/

/-- The operands of a matrix step as elements: for each output the stored reduction, for each vector the moving one, the initial values by vector. -/
structure MatData where
  dot : Dot
  stored : List (List Nat)
  moving : List (List Nat)
  init : Option (List (List Nat)) := none
  deriving DecidableEq, Repr

/-- R70. The accumulators that output `n` of vector `v` starts with. -/
def MatData.fresh (d : MatData) (v n : Nat) : List (Option Nat) :=
  [d.init.map (fun i => (i.getD v []).getD n 0), none, none, none]

/-- The outputs of an area, vector by vector. -/
def areaOutputs (a : List Nat × List Nat) : List (Nat × Nat) := a.1.flatMap (fun v => a.2.map (fun n => (v, n)))

/-- R70, R82. The chosen chunks of an area are accumulated, from given accumulators or from fresh ones. -/
def MatData.accumulate (d : MatData) (a : List Nat × List Nat) (pick : Nat → Nat → Bool) (acc : Option (List (List (Option Nat)))) :
    List (List (Option Nat)) × Nat :=
  let rs := (areaOutputs a).zipIdx.map (fun ((v, n), i) =>
    d.dot.accumulate (d.stored.getD n []) (d.moving.getD v []) (pick v) (match acc with | some l => l.getD i [] | none => d.fresh v n))
  (rs.map (·.1), orFlags (rs.map (·.2)))

/-- R97. An area drains: for each vector its first output and the bytes of its outputs. -/
def MatData.drain (d : MatData) (a : List Nat × List Nat) (acc : List (List (Option Nat))) : List (Nat × Nat × List Byte) × Nat :=
  let os := (areaOutputs a).zipIdx.map (fun ((v, n), i) => (v, d.dot.result (v * d.dot.cols + n) (acc.getD i [])))
  (a.1.map (fun v => (v, a.2.headD 0, (os.filter (fun o => o.1 == v)).flatMap (fun o => leBytes d.dot.out.fmt.bytes o.2.1))), orFlags (os.map (·.2.2)))

/-- What a run of a matrix step gives: rows drained (vector, first output, bytes), flags, and where it stopped. -/
structure MatRun where
  rows : List (Nat × Nat × List Byte) := []
  flags : Nat := 0
  part : Option Partial := none
  deriving DecidableEq, Repr

/-- R82, R107, R109. A matrix step runs over its areas in order: from where an earlier run stopped (area `i0`), to its end or to a place (area `i1`). `done` tells for a place
whether it lies behind a chunk of a vector. -/
def MatData.run (d : MatData) (areas : List (List Nat × List Nat)) (done : StepPos → Nat → Nat → Bool) (i0 : Nat) (p : Option Partial) (i1 : Nat)
    (stop : Option StepPos) : MatRun :=
  let left (v c : Nat) : Bool := match p with | some q => !done q.pos v c | none => true
  let r := (((areas.take i1).drop i0).zipIdx).foldl
    (fun (r : MatRun) (a, i) =>
      let x := if i = 0 then d.accumulate a left (p.map (·.acc)) else d.accumulate a (fun _ _ => true) none
      let y := d.drain a x.1
      { rows := r.rows ++ y.1, flags := r.flags ||| x.2 ||| y.2 }) ({ flags := (p.map (·.flags)).getD 0 } : MatRun)
  match stop with
  | none => { r with flags := arrayFlags r.flags }
  | some q =>
    let a := areas.getD i1 ([], [])
    let before (v c : Nat) : Bool := done q v c
    let x := if i1 = i0 then d.accumulate a (fun v c => left v c && before v c) (p.map (·.acc)) else d.accumulate a before none
    let f := arrayFlags (r.flags ||| x.2)
    { r with flags := f, part := some { pos := q, flags := f, acc := x.1 } }

end Sys2Proof.Machine

namespace Sys2Proof

open Sys2Proof.Machine

/-- R84. The arrays of a gang. -/
def MatmulStep.members (m : MatmulStep) : Nat := if m.gang = 0 then 1 else if m.gang = 1 then 2 else 4

/-- R85. Outputs that a gang covers with one tile each: with SHARE BCAST each member takes its own. -/
def MatmulStep.tileCols (m : MatmulStep) (w : Nat) : Nat := if m.share = 0 then m.members * w else w

/-- R82, R85. Vectors that a gang takes in one block: with SHARE PLANE each member takes its own. -/
def MatmulStep.blockVecs (m : MatmulStep) : Nat := if m.share = 1 then m.members * m.blk else m.blk

/-- The blocks of a matrix step. -/
def MatmulStep.blocks (m : MatmulStep) : Nat := (m.vcnt + m.blockVecs - 1) / m.blockVecs

/-- The tiles of a matrix step of width `w`. -/
def MatmulStep.tiles (m : MatmulStep) (w : Nat) : Nat := (m.n + m.tileCols w - 1) / m.tileCols w

/-- Numbers `k` to `k + n − 1`, below `top`. -/
def span (k n top : Nat) : List Nat := ((List.range n).map (fun i => k + i)).filter (fun i => decide (i < top))

/-- R82. The areas of a matrix step in their order: every block of a tile, then the next tile. The order is the model's choice (assumption 100). -/
def MatmulStep.areas (m : MatmulStep) (w : Nat) : List (List Nat × List Nat) :=
  (List.range (m.tiles w)).flatMap (fun t => (List.range m.blocks).map (fun b =>
    (span (b * m.blockVecs) m.blockVecs m.vcnt, span (t * m.tileCols w) (m.tileCols w) m.n)))

/-- R85. The place of chunk `c` of `n` among the chunks of the member that takes it. -/
def MatmulStep.chunkPlace (m : MatmulStep) (n c : Nat) : Nat :=
  if m.share ≠ 2 ∨ m.members = 1 then c
  else if m.members = 2 then (if c < 2 * n / 4 then c else c - 2 * n / 4)
  else c - quarterOf n c * n / 4

/-- R107. A place lies behind chunk `c` of vector `v`: a sub-pass is up to 64 vectors of the block. -/
def MatmulStep.behind (m : MatmulStep) (n : Nat) (p : StepPos) (v c : Nat) : Bool :=
  let i := m.chunkPlace n c
  decide (i < p.chunk) || (i == p.chunk && decide (v % m.blockVecs % m.blk < 64 * p.sub))

/-- R107. A place in a matrix step of width `w` and `n` chunks. -/
def MatmulStep.placeOk (m : MatmulStep) (w n : Nat) (p : StepPos) : Bool :=
  decide (p.tile < m.tiles w) && decide (p.block < m.blocks) && decide (p.chunk < n) && (p.sub == 0 || decide (64 * p.sub < m.blk))

/-- The number of the area that a place lies in. -/
def MatmulStep.areaOf (m : MatmulStep) (p : StepPos) : Nat := p.tile * m.blocks + p.block

/-- R107. Bytes of the accumulator words that the members save: BLK × 4 × W words each. -/
def MatmulStep.saveBytes (m : MatmulStep) (w : Nat) : Nat := m.members * (m.blk * 4 * w * 4)

/-- R633. The elements of a matrix step from the rows of its operands. -/
def MatmulStep.data (m : MatmulStep) (d : Dot) (plane bcast init : List (List Byte)) : MatData :=
  let st := if m.axisT then transposed m.n (plane.map (elements d.stored m.n)) else plane.map (elements d.stored m.k)
  let mv := if m.xpose then transposed m.vcnt (bcast.map (elements d.moving m.vcnt)) else bcast.map (elements d.moving m.k)
  { dot := d, stored := st, moving := mv, init := if m.initEn then some (init.map (elements .fp32 m.n)) else none }

/-- Place `a` is at or before place `b`: tile, block, chunk, sub-pass. -/
def placeLe (a b : StepPos) : Bool :=
  decide (a.tile < b.tile) || (a.tile == b.tile && (decide (a.block < b.block) || (a.block == b.block
    && (decide (a.chunk < b.chunk) || (a.chunk == b.chunk && decide (a.sub ≤ b.sub))))))

/-- R85. The vectors of block `b` that member `i` takes. -/
def MatmulStep.memberVecs (m : MatmulStep) (b i : Nat) : Nat :=
  let vs := span (b * m.blockVecs) m.blockVecs m.vcnt
  if m.share = 1 then (vs.filter (fun v => v % m.blockVecs / m.blk == i)).length else vs.length

/-- R85. The chunks, of `n`, that member `i` takes. -/
def MatmulStep.memberChunks (m : MatmulStep) (n i : Nat) : Nat :=
  if m.share ≠ 2 ∨ m.members = 1 then n
  else ((List.range n).filter (fun c => (if m.members = 2 then quarterOf n c / 2 else quarterOf n c) == i)).length

/-- R82, R85. The planes that member `i` loads in a step of width `w` and `n` chunks, in order: the place of each and the vectors that meet it. -/
def MatmulStep.planes (m : MatmulStep) (w n i : Nat) : List (StepPos × Nat) :=
  (List.range (m.tiles w)).flatMap (fun t =>
    if m.share = 0 ∧ m.n ≤ (t * m.members + i) * w then []
    else (List.range m.blocks).flatMap (fun b => (List.range (m.memberChunks n i)).map (fun c => (⟨b, t, c, 0⟩, m.memberVecs b i))))

/-- R107. The vectors of a plane that have entered when a place is reached (none: the end of the step). -/
def planeBehind (x : StepPos × Nat) : Option StepPos → Nat
  | none => x.2
  | some p => if x.1 = { p with sub := 0 } then min x.2 (64 * p.sub) else if placeLe x.1 p then x.2 else 0

/-- R94. The planes whose vectors enter member `i` between two places (none: the start, the end), with their number. -/
def MatmulStep.entered (m : MatmulStep) (w n i : Nat) (a b : Option StepPos) : List Nat :=
  ((m.planes w n i).map (fun x => planeBehind x b - (match a with | some p => planeBehind x (some p) | none => 0))).filter (fun k => decide (0 < k))

/-- R99. The output blocks of an MVP step: 1,536 outputs of every vector. -/
def MatvecStep.areas (m : MatvecStep) : List (List Nat × List Nat) :=
  (List.range ((m.n + 1535) / 1536)).map (fun b => (List.range m.nvec, span (b * 1536) 1536 m.n))

/-- R135. The elements of an MVP step from the rows of its operands. -/
def MatvecStep.data (m : MatvecStep) (d : Dot) (wgt vec init : List (List Byte)) : MatData :=
  { dot := d, stored := wgt.map (elements d.stored m.k), moving := vec.map (elements d.moving m.k),
    init := if m.initEn then some (init.map (elements .fp32 m.n)) else none }

end Sys2Proof

namespace Sys2Proof.Machine

/-! ### The vector unit (R72, R136, R137) -/

/-- R72, R136. An element converted up to FP32; an INT32 one is rounded, with INX where that is inexact. -/
def up32 (f : Fmt) (x : Nat) : Nat × Nat :=
  match decodeFloat f x with
  | .nan => (Fmt.nan .fp32, 0)
  | .inf neg => (infF32 neg, 0)
  | .fin neg m e => toF32 neg m e

/-- R137. The sources of a VOP. -/
def vopSources (vop : Nat) : Nat := if vop = 14 then 0 else if vop = 4 then 3 else if (1 ≤ vop ∧ vop ≤ 6) then 2 else 1

/-- R137. A VOP that gives one element per row. -/
def vopReduces (vop : Nat) : Bool := decide (11 ≤ vop) && decide (vop ≤ 13)

/-- R137. The FP32 result of an elementwise VOP. -/
def elementwise (vop a b c : Nat) : Nat × Nat :=
  match vop with
  | 1 => fadd a b
  | 2 => fadd a (fneg b)
  | 3 => fmul a b
  | 4 => ffma a b c
  | 5 => fmax a b
  | 6 => fmin a b
  | 7 => frcp a
  | 8 => frsqrt a
  | 9 => fexp a
  | _ => (a, 0)

/-- R72. Sum-reduce: chunks of 256 in 8-level trees, chunk sums added in increasing order. -/
def sumReduce (xs : List Nat) : Nat × Nat :=
  let r := (groupsOf 256 (xs.length + 1) xs).foldl
    (fun (a, f) g => let t := tree fadd 8 (g.map some); let z := addOpt fadd a t.1; (z.1, f ||| t.2 ||| z.2)) ((none : Option Nat), 0)
  (r.1.getD 0, r.2)

/-- R137. The index of the lowest-indexed maximum, or of the first NaN. -/
def argMax (xs : List Nat) : Nat :=
  match xs.findIdx? isNan with
  | some i => i
  | none => (xs.zipIdx.foldl (fun (b : Option (Nat × Nat)) (x, i) =>
      match b with
      | none => some (x, i)
      | some (y, _) => if orderKey y < orderKey x then some (x, i) else b) none).elim 0 (·.2)

/-- R137. The outputs of one row, number `r`, from its elements as FP32. -/
def vectorRow (vop : Nat) (o : OutMode) (seed cols r : Nat) (a b c : List Nat) : List (Nat × Nat) :=
  let out (i : Nat) (v : FVal) : Nat × Nat := convertDown o (hash32 seed i / 65536) v
  if vop = 11 then let t := sumReduce a; let z := out r (f32 t.1); [(z.1, t.2 ||| z.2)]
  else if vop = 12 then let t := a.foldl (fun x y => (fmax x y).1) (a.headD 0); [out r (f32 t)]
  else if vop = 13 then [(argMax a, 0)]
  else (List.range cols).map (fun j =>
    let i := r * cols + j
    if vop = 14 then out i (.fin false (hash32 seed i / 256) (-24))
    else let t := elementwise vop (a.getD j 0) (b.getD j 0) (c.getD j 0); let z := out i (f32 t.1); (z.1, t.2 ||| z.2))

/-- R136. The source elements of a row as FP32, with flags. -/
def upRow (f : Fmt) (xs : List Nat) : List Nat × Nat := let u := xs.map (up32 f); (u.map (·.1), orFlags (u.map (·.2)))

/-- R136, R137. A VECTOR step: the bytes of every output row and the flags. A source is a format and its rows of elements. -/
def vectorRun (vop : Nat) (o : OutMode) (seed cols rows : Nat) (srcs : List (Fmt × List (List Nat))) : List (List Byte) × Nat :=
  let rs := (List.range rows).map (fun r =>
    let u := srcs.map (fun e => upRow e.1 (e.2.getD r []))
    let z := vectorRow vop o seed cols r (u.getD 0 ([], 0)).1 (u.getD 1 ([], 0)).1 (u.getD 2 ([], 0)).1
    (z.flatMap (fun e => leBytes o.fmt.bytes e.1), orFlags (z.map (·.2)) ||| orFlags (u.map (·.2))))
  (rs.map (·.1), orFlags (rs.map (·.2)))

/-! ### Commands and events of the array, MVP and vector pages -/

/-- The page of array `a` of core `n` (R113). -/
def arrayPage (n a : Nat) : Nat := 0x101 + 16 * n + a

/-- SHADOW_ADVANCE (R103): the spare moves on to the next presented column. -/
def execShadowAdvance (core array : Nat) (s : State) : Outcome :=
  event (arrayPage core array) s fun s =>
    if s.on (MA_SHADOW_ACTIVE core array) then
      .next (s.set (MA_SHADOW_CUR core array) (nextColumn (s.colFail core array) (s.get (MA_SHADOW_CUR core array))))
    else .next s

/-- R104, R105. The map that a write of `v` to MA_COLFAIL register `i` would leave. -/
def State.newColumns (s : State) (core array i v : Nat) : Nat :=
  let m := s.colFail core array
  if i = 0 then m / 2 ^ 32 * 2 ^ 32 + v % 2 ^ 32
  else if i = 1 then m % 2 ^ 32 + v % 2 ^ 32 * 2 ^ 32 + m / 2 ^ 64 * 2 ^ 64
  else m % 2 ^ 64 + v % 2 * 2 ^ 64

/-- MA_COLFAIL_WRITE (R104, R105): register `i` of a quiesced array. -/
def execMaColfailWrite (fn core array i v : Nat) (s : State) : Outcome :=
  mmio fn (arrayPage core array) s fun s =>
    let m := s.newColumns core array i v
    let addr := (MA_COLFAIL0 core array).addr + 4 * i
    if 2 < i then .next s
    else if !(s.page (arrayPage core array)).quiesced then .next (s.refuseWrite fn addr v)
    else if (presented m).length < 56 then .next (s.captureFn fn (arrayPage core array) .refusedCapacity (addr % 4096) v)
    else .next ((s.setColumns core array m).raise (arrayPage core array) 4)

/-- MA_CNT_CLR (R113). -/
def execMaCntClr (fn core array : Nat) (s : State) : Outcome :=
  command fn (arrayPage core array) (.maCntClr fn core array) s fun s =>
    .next (((s.set (MA_VEC_CNT core array) 0).set (MA_BUBBLE_CNT core array) 0).set (MA_STALL_CNT core array) 0)

/-- MVP_CNT_CLR (R113). -/
def execMvpCntClr (fn core : Nat) (s : State) : Outcome :=
  command fn (0x105 + 16 * core) (.mvpCntClr fn core) s fun s => .next ((s.set (MVP_READ_CNT core) 0).set (MVP_STARVE_CNT core) 0)

/-- VU_CNT_CLR (R157). -/
def execVuCntClr (fn core : Nat) (s : State) : Outcome :=
  command fn (0x106 + 16 * core) (.vuCntClr fn core) s fun s => .next (s.set (VU_ELEM_CNT core) 0)

end Sys2Proof.Machine
end

