-- ==== Sys2Proof/Machine/Hash.lean ====
section
/-!
DEFINITION. SHA-256 and SHA-512 (FIPS 180-4), HMAC (RFC 2104) and HKDF (RFC 5869), on lists of bytes. The constants of FIPS 180-4 are the
fractional parts of square and cube roots of the first primes, and are computed as such.
-/

namespace Sys2Proof.Machine

/-- The number that bytes spell, most significant first. -/
def beNat (bs : List Byte) : Nat := bs.foldl (fun a b => a * 256 + b.toNat) 0

/-- The `n` low bytes of a number, most significant first. -/
def beBytes (n v : Nat) : List Byte := (leBytes n v).reverse

/-- The first eighty primes. -/
def primes : List Nat :=
  (List.range 410).filter (fun n => 2 ≤ n && ((List.range n).drop 2).all (fun d => n % d != 0))

/-- The integer cube root of `n` below 2^k, bit by bit. -/
def icbrt (n : Nat) : Nat → Nat → Nat
  | 0, r => r
  | k + 1, r => let x := r + 2 ^ k; icbrt n k (if x * x * x ≤ n then x else r)

/-- The parameters of one member of the SHA-2 family: word bits, rounds, the rotations of the four functions. -/
structure Sha2 where
  w : Nat
  rounds : Nat
  big0 : Nat × Nat × Nat
  big1 : Nat × Nat × Nat
  small0 : Nat × Nat × Nat
  small1 : Nat × Nat × Nat

/-- FIPS 180-4 SHA-256. -/
def sha256p : Sha2 := ⟨32, 64, (2, 13, 22), (6, 11, 25), (7, 18, 3), (17, 19, 10)⟩

/-- FIPS 180-4 SHA-512. -/
def sha512p : Sha2 := ⟨64, 80, (28, 34, 39), (14, 18, 41), (1, 8, 7), (19, 61, 6)⟩

/-- The round constants. -/
def sha256k : List Nat := (primes.take 64).map (fun p => icbrt (p * 2 ^ 96) 36 0 % 2 ^ 32)

/-- The round constants. -/
def sha512k : List Nat := (primes.take 80).map (fun p => icbrt (p * 2 ^ 192) 68 0 % 2 ^ 64)

/-- The initial hash values. -/
def sha256h : List Nat := (primes.take 8).map (fun p => isqrt (p * 2 ^ 64) % 2 ^ 32)

/-- The initial hash values. -/
def sha512h : List Nat := (primes.take 8).map (fun p => isqrt (p * 2 ^ 128) % 2 ^ 64)

/-- Rotation right of a word of `w` bits. -/
def rotr (w x n : Nat) : Nat := (x / 2 ^ n) ||| (x * 2 ^ (w - n) % 2 ^ w)

/-- The functions Σ0, Σ1: three rotations. -/
def Sha2.big (p : Sha2) (r : Nat × Nat × Nat) (x : Nat) : Nat := rotr p.w x r.1 ^^^ rotr p.w x r.2.1 ^^^ rotr p.w x r.2.2

/-- The functions σ0, σ1: two rotations and a shift. -/
def Sha2.small (p : Sha2) (r : Nat × Nat × Nat) (x : Nat) : Nat := rotr p.w x r.1 ^^^ rotr p.w x r.2.1 ^^^ (x / 2 ^ r.2.2)

/-- The message schedule, newest word first, extended by `n` words. -/
def Sha2.schedule (p : Sha2) : Nat → List Nat → List Nat
  | 0, ws => ws
  | n + 1, ws =>
    let x := (p.small p.small1 (ws.getD 1 0) + ws.getD 6 0 + p.small p.small0 (ws.getD 14 0) + ws.getD 15 0) % 2 ^ p.w
    p.schedule n (x :: ws)

/-- One round on the eight working variables. -/
def Sha2.round (p : Sha2) (v : List Nat) (kw : Nat) : List Nat :=
  match v with
  | [a, b, c, d, e, f, g, h] =>
    let ch := (e &&& f) ^^^ ((2 ^ p.w - 1 - e) &&& g)
    let maj := (a &&& b) ^^^ (a &&& c) ^^^ (b &&& c)
    let t1 := h + p.big p.big1 e + ch + kw
    let t2 := p.big p.big0 a + maj
    [(t1 + t2) % 2 ^ p.w, a, b, c, (d + t1) % 2 ^ p.w, e, f, g]
  | l => l

/-- A list cut into pieces of `n` elements, `fuel` of them at most. -/
def chunksOf {α : Type} (n : Nat) : Nat → List α → List (List α)
  | 0, _ => []
  | fuel + 1, l => if l.isEmpty then [] else l.take n :: chunksOf n fuel (l.drop n)

/-- One block of the message. -/
def Sha2.block (p : Sha2) (k hv : List Nat) (blk : List Byte) : List Nat :=
  let ws := (chunksOf (p.w / 8) 16 blk).map beNat
  let sched := (p.schedule (p.rounds - 16) ws.reverse).reverse
  let v := (List.zipWith (· + ·) k sched).foldl (fun v kw => p.round v kw) hv
  List.zipWith (fun a b => (a + b) % 2 ^ p.w) hv v

/-- The padding of FIPS 180-4. -/
def Sha2.pad (p : Sha2) (m : List Byte) : List Byte :=
  let bs := 2 * p.w
  let z := (bs - (m.length + 1 + p.w / 4) % bs) % bs
  m ++ (BitVec.ofNat 8 0x80 :: List.replicate z 0) ++ beBytes (p.w / 4) (8 * m.length)

/-- The digest of a message. -/
def Sha2.digest (p : Sha2) (k h0 : List Nat) (m : List Byte) : List Byte :=
  let pm := p.pad m
  let hv := (chunksOf (2 * p.w) (pm.length / (2 * p.w) + 1) pm).foldl (p.block k) h0
  hv.flatMap (beBytes (p.w / 8))

/-- SHA-256. -/
def sha256 (m : List Byte) : List Byte := sha256p.digest sha256k sha256h m

/-- SHA-512. -/
def sha512 (m : List Byte) : List Byte := sha512p.digest sha512k sha512h m

/-- HMAC-SHA-256. -/
def hmac256 (key m : List Byte) : List Byte :=
  let k0 := if 64 < key.length then sha256 key else key
  let k := k0 ++ List.replicate (64 - k0.length) 0
  sha256 (k.map (· ^^^ 0x5C) ++ sha256 (k.map (· ^^^ 0x36) ++ m))

/-- The expansion of RFC 5869: the blocks from counter `i` on. -/
def hkdfBlocks (prk info : List Byte) : Nat → Nat → List Byte → List Byte
  | 0, _, _ => []
  | n + 1, i, prev =>
    let t := hmac256 prk (prev ++ info ++ [BitVec.ofNat 8 i])
    t ++ hkdfBlocks prk info n (i + 1) t

/-- HKDF-SHA-256 (RFC 5869). -/
def hkdf (salt ikm info : List Byte) (len : Nat) : List Byte :=
  (hkdfBlocks (hmac256 salt ikm) info ((len + 31) / 32) 1 []).take len

/-- The bytes of an ASCII text. -/
def ascii (s : String) : List Byte := s.toList.map (fun c => BitVec.ofNat 8 c.toNat)

end Sys2Proof.Machine
end

