-- ==== Sys2Proof/Machine/Cipher.lean ====
section
/-!
DEFINITION. AES (FIPS 197), counter mode (SP 800-38A), GHASH and GCM (SP 800-38D), XTS with ciphertext stealing (IEEE 1619), the padded key
wrap KWP (SP 800-38F), on lists of bytes.
-/

namespace Sys2Proof.Machine

/-- Multiplication by x in the field of FIPS 197. -/
def xtime (a : Nat) : Nat := if a < 128 then 2 * a else (2 * a) % 256 ^^^ 0x1B

/-- Multiplication in the field of FIPS 197, over the low `n` bits of b. -/
def gmulBits : Nat → Nat → Nat → Nat
  | 0, _, _ => 0
  | n + 1, a, b => (if b % 2 = 1 then a else 0) ^^^ gmulBits n (xtime a) (b / 2)

/-- Multiplication in the field of FIPS 197. -/
def gmul (a b : Nat) : Nat := gmulBits 8 a b

/-- The inverse in the field, 0 for 0: a to the power 254. -/
def ginv (a : Nat) : Nat :=
  let a2 := gmul a a; let a4 := gmul a2 a2; let a8 := gmul a4 a4; let a16 := gmul a8 a8
  let a32 := gmul a16 a16; let a64 := gmul a32 a32; let a128 := gmul a64 a64
  gmul a128 (gmul a64 (gmul a32 (gmul a16 (gmul a8 (gmul a4 a2)))))

/-- Rotation left of a byte. -/
def rotl8 (a n : Nat) : Nat := (a * 2 ^ n) % 256 ||| a / 2 ^ (8 - n)

/-- The S-box of FIPS 197. -/
def sboxTable : Array Nat :=
  ((List.range 256).map (fun x =>
    let b := ginv x
    b ^^^ rotl8 b 1 ^^^ rotl8 b 2 ^^^ rotl8 b 3 ^^^ rotl8 b 4 ^^^ 0x63)).toArray

/-- The inverse S-box. -/
def invSboxTable : Array Nat :=
  ((List.range 256).map (fun y => ((List.range 256).find? (fun x => sboxTable[x]! == y)).getD 0)).toArray

/-- The S-box applied to a byte. -/
def sbox (x : Nat) : Nat := sboxTable[x]!

/-- The inverse S-box applied to a byte. -/
def invSbox (x : Nat) : Nat := invSboxTable[x]!

/-- Exclusive or of two lists, byte by byte. -/
def xorL (a b : List Nat) : List Nat := List.zipWith (· ^^^ ·) a b

/-- The key schedule, words newest first: `i` is the number of words so far, `n` more are made, `nk` words in the key. -/
def keyWords (nk : Nat) : Nat → Nat → Nat → List (List Nat) → List (List Nat)
  | 0, _, _, ws => ws
  | n + 1, i, rcon, ws =>
    let t := ws.headD []
    let t1 := if i % nk = 0 then xorL ((t.drop 1 ++ t.take 1).map sbox) [rcon, 0, 0, 0]
      else if 6 < nk ∧ i % nk = 4 then t.map sbox else t
    keyWords nk n (i + 1) (if i % nk = 0 then xtime rcon else rcon) (xorL (ws.getD (nk - 1) []) t1 :: ws)

/-- The round keys of a key of 16, 24 or 32 bytes. -/
def roundKeys (key : List Byte) : List (List Nat) :=
  let nk := key.length / 4
  let ws := (keyWords nk (4 * (nk + 7) - nk) nk 1 (chunksOf 4 nk (key.map (·.toNat))).reverse).reverse
  (chunksOf 4 (nk + 7) ws).map List.flatten

/-- The byte order of ShiftRows, and of its inverse. -/
def shiftRows (st : List Nat) : List Nat := (List.range 16).map (fun i => st.getD ((i + 4 * (i % 4)) % 16) 0)

/-- The inverse of ShiftRows. -/
def invShiftRows (st : List Nat) : List Nat := (List.range 16).map (fun i => st.getD ((i + 12 * (i % 4)) % 16) 0)

/-- One column times the circulant matrix whose first row is given. -/
def mixColumn (m : List Nat) (c : List Nat) : List Nat :=
  (List.range 4).map (fun i => (List.range 4).foldl (fun a j => a ^^^ gmul (m.getD ((j + 4 - i) % 4) 0) (c.getD j 0)) 0)

/-- MixColumns with a matrix. -/
def mixColumns (m : List Nat) (st : List Nat) : List Nat := (chunksOf 4 4 st).flatMap (mixColumn m)

/-- The rounds of the cipher after the first key addition; the last has no MixColumns. -/
def encRounds : List (List Nat) → List Nat → List Nat
  | [], st => st
  | [k], st => xorL (shiftRows (st.map sbox)) k
  | k :: ks, st => encRounds ks (xorL (mixColumns [2, 3, 1, 1] (shiftRows (st.map sbox))) k)

/-- The rounds of the inverse cipher, keys last first. -/
def decRounds : List (List Nat) → List Nat → List Nat
  | [], st => st
  | [k], st => xorL ((invShiftRows st).map invSbox) k
  | k :: ks, st => decRounds ks (mixColumns [14, 11, 13, 9] (xorL ((invShiftRows st).map invSbox) k))

/-- One block encrypted under expanded round keys. -/
def aesEncBlock (rk : List (List Nat)) (blk : List Byte) : List Byte :=
  ((encRounds (rk.drop 1) (xorL (blk.map (·.toNat)) (rk.headD []))).map (BitVec.ofNat 8))

/-- One block decrypted under expanded round keys. -/
def aesDecBlock (rk : List (List Nat)) (blk : List Byte) : List Byte :=
  let r := rk.reverse
  ((decRounds (r.drop 1) (xorL (blk.map (·.toNat)) (r.headD []))).map (BitVec.ofNat 8))

/-- AES encryption of one block. -/
def aesEnc (key blk : List Byte) : List Byte := aesEncBlock (roundKeys key) blk

/-- Exclusive or of two byte lists. -/
def xorBytes (a b : List Byte) : List Byte := List.zipWith (· ^^^ ·) a b

/-- A 16-byte counter block plus one: its last four bytes count, most significant first (SP 800-38D). -/
def inc32 (c : List Byte) : List Byte := c.take 12 ++ beBytes 4 (beNat (c.drop 12) + 1)

/-- A 16-byte counter block plus one: all of it counts (SP 800-38A). -/
def inc128 (c : List Byte) : List Byte := beBytes 16 (beNat c + 1)

/-- The key stream of counter mode from a counter block on. -/
def ctrStream (rk : List (List Nat)) (next : List Byte → List Byte) : Nat → List Byte → List Byte
  | 0, _ => []
  | n + 1, c => aesEncBlock rk c ++ ctrStream rk next n (next c)

/-- AES counter mode (SP 800-38A), the whole block counting. -/
def aesCtr (key iv data : List Byte) : List Byte :=
  xorBytes data (ctrStream (roundKeys key) inc128 ((data.length + 15) / 16) iv)

/-- Multiplication in the field of SP 800-38D, blocks as numbers with the first bit most significant. -/
def ghashMulBits : Nat → Nat → Nat → Nat → Nat
  | 0, _, _, z => z
  | n + 1, x, v, z =>
    ghashMulBits n (x * 2) (if v % 2 = 1 then v / 2 ^^^ (0xE1 * 2 ^ 120) else v / 2) (if x / 2 ^ 127 % 2 = 1 then z ^^^ v else z)

/-- Multiplication in the field of SP 800-38D. -/
def ghashMul (x y : Nat) : Nat := ghashMulBits 128 x y 0

/-- GHASH of a list of blocks. -/
def ghash (h : Nat) (blocks : List (List Byte)) : Nat := blocks.foldl (fun y b => ghashMul (y ^^^ beNat b) h) 0

/-- Data padded with zero bytes to whole blocks. -/
def pad16 (d : List Byte) : List Byte := d ++ List.replicate ((16 - d.length % 16) % 16) 0

/-- The GCM counter block before the first (SP 800-38D). -/
def gcmJ0 (h : Nat) (iv : List Byte) : List Byte :=
  if iv.length = 12 then iv ++ [0, 0, 0, 1]
  else
    let p := pad16 iv ++ List.replicate 8 0 ++ beBytes 8 (8 * iv.length)
    beBytes 16 (ghash h (chunksOf 16 (p.length / 16) p))

/-- The GCM tag of additional data and ciphertext. -/
def gcmTag (rk : List (List Nat)) (iv aad ct : List Byte) : List Byte :=
  let h := beNat (aesEncBlock rk (List.replicate 16 0))
  let p := pad16 aad ++ pad16 ct ++ beBytes 8 (8 * aad.length) ++ beBytes 8 (8 * ct.length)
  xorBytes (beBytes 16 (ghash h (chunksOf 16 (p.length / 16) p))) (aesEncBlock rk (gcmJ0 h iv))

/-- GCM's counter-mode part. -/
def gcmCtr (rk : List (List Nat)) (iv data : List Byte) : List Byte :=
  let h := beNat (aesEncBlock rk (List.replicate 16 0))
  xorBytes data (ctrStream rk inc32 ((data.length + 15) / 16) (inc32 (gcmJ0 h iv)))

/-- GCM encryption: ciphertext and tag. -/
def gcmEncrypt (key iv aad pt : List Byte) : List Byte × List Byte :=
  let rk := roundKeys key
  let ct := gcmCtr rk iv pt
  (ct, gcmTag rk iv aad ct)

/-- GCM decryption: plaintext, and the tag that the data should carry. -/
def gcmDecrypt (key iv aad ct : List Byte) : List Byte × List Byte :=
  let rk := roundKeys key
  (gcmCtr rk iv ct, gcmTag rk iv aad ct)

/-- The tweak of the next XTS block (IEEE 1619): multiplication by x, little-endian. -/
def xtsNext (t : List Byte) : List Byte :=
  let v := leNat t
  leBytes 16 (if v / 2 ^ 127 % 2 = 1 then (2 * v) % 2 ^ 128 ^^^ 0x87 else 2 * v)

/-- XTS over whole blocks; `f` is the block cipher or its inverse. -/
def xtsBlocks (f : List Byte → List Byte) : Nat → List Byte → List Byte → List Byte
  | 0, _, _ => []
  | n + 1, t, d => xorBytes (f (xorBytes (d.take 16) t)) t ++ xtsBlocks f n (xtsNext t) (d.drop 16)

/-- The tweak after `n` blocks. -/
def xtsTweak : Nat → List Byte → List Byte
  | 0, t => t
  | n + 1, t => xtsTweak n (xtsNext t)

/-- XTS encryption of one data unit of at least 16 bytes, with ciphertext stealing (IEEE 1619). -/
def xtsEncrypt (k1 k2 tweak d : List Byte) : List Byte :=
  let e := aesEncBlock (roundKeys k1)
  let t0 := aesEnc k2 tweak
  let r := d.length % 16
  if r = 0 then xtsBlocks e (d.length / 16) t0 d
  else
    let m := d.length / 16 - 1
    let body := xtsBlocks e m t0 (d.take (16 * m))
    let tm := xtsTweak m t0
    let cc := xtsBlocks e 1 tm ((d.drop (16 * m)).take 16)
    let tail := d.drop (16 * m + 16)
    body ++ xtsBlocks e 1 (xtsNext tm) (tail ++ cc.drop r) ++ cc.take r

/-- XTS decryption of one data unit of at least 16 bytes, with ciphertext stealing (IEEE 1619). -/
def xtsDecrypt (k1 k2 tweak d : List Byte) : List Byte :=
  let e := aesDecBlock (roundKeys k1)
  let t0 := aesEnc k2 tweak
  let r := d.length % 16
  if r = 0 then xtsBlocks e (d.length / 16) t0 d
  else
    let m := d.length / 16 - 1
    let body := xtsBlocks e m t0 (d.take (16 * m))
    let tm := xtsTweak m t0
    let pp := xtsBlocks e 1 (xtsNext tm) ((d.drop (16 * m)).take 16)
    let tail := d.drop (16 * m + 16)
    body ++ xtsBlocks e 1 tm (tail ++ pp.drop r) ++ pp.take r

/-- One step of the wrapping function W of SP 800-38F: A and the semiblocks. -/
def wrapStep (rk : List (List Nat)) (s : List Byte × List (List Byte)) (t : Nat) : List Byte × List (List Byte) :=
  let b := aesEncBlock rk (s.1 ++ s.2.headD [])
  (xorBytes (b.take 8) (beBytes 8 t), s.2.drop 1 ++ [b.drop 8])

/-- One step of the inverse of W. -/
def unwrapStep (rk : List (List Nat)) (s : List Byte × List (List Byte)) (t : Nat) : List Byte × List (List Byte) :=
  let b := aesDecBlock rk (xorBytes s.1 (beBytes 8 t) ++ s.2.getLastD [])
  (b.take 8, b.drop 8 :: s.2.dropLast)

/-- KWP-AE (SP 800-38F). -/
def kwpWrap (kek p : List Byte) : List Byte :=
  let rk := roundKeys kek
  let pad := (8 - p.length % 8) % 8
  let icv := [0xA6, 0x59, 0x59, 0xA6] ++ beBytes 4 p.length
  let s := p ++ List.replicate pad 0
  if s.length = 8 then aesEncBlock rk (icv ++ s)
  else
    let n := s.length / 8
    let r := ((List.range (6 * n)).map (· + 1)).foldl (wrapStep rk) (icv, chunksOf 8 n s)
    r.1 ++ r.2.flatten

/-- KWP-AD (SP 800-38F): the plaintext where the check holds. -/
def kwpUnwrap (kek c : List Byte) : Option (List Byte) :=
  let rk := roundKeys kek
  if c.length < 16 ∨ c.length % 8 ≠ 0 then none
  else
    let as := if c.length = 16 then let b := aesDecBlock rk c; (b.take 8, b.drop 8)
      else
        let n := c.length / 8 - 1
        let r := ((List.range (6 * n)).map (fun i => 6 * n - i)).foldl (unwrapStep rk) (c.take 8, chunksOf 8 n (c.drop 8))
        (r.1, r.2.flatten)
    let plen := beNat (as.1.drop 4)
    if as.1.take 4 = [0xA6, 0x59, 0x59, 0xA6] ∧ plen ≤ as.2.length ∧ as.2.length < plen + 8 ∧ (as.2.drop plen).all (· == 0)
    then some (as.2.take plen) else none

end Sys2Proof.Machine
end

