-- ==== Sys2Proof/Machine/Memory.lean ====
section
/-!
DEFINITION. The memories and what every agent does to them (chapters 09 and 10): the SRAM stores with their SECDED words, the stored HBM lines with
encryption, tag and code, the home's reads, writes and merges, the segments.
-/

namespace Sys2Proof.Machine

/-- Bytes `k` to `k + n − 1` of a sparse memory. -/
def readBytes (m : Map Byte) (k n : Nat) : List Byte := (List.range n).map (fun i => Map.get m 0 (k + i))

/-- A sparse memory in which the bytes from `k` on are replaced. -/
def writeBytes (m : Map Byte) : Nat → List Byte → Map Byte
  | _, [] => m
  | k, b :: bs => writeBytes (Map.put 0 m k b) (k + 1) bs

/-- The canonical form of the memories: bytes by rising address, none listed that reads 0 as an unlisted one does. -/
def Memory.wf (m : Memory) : Bool := Map.wf 0 m.ws && Map.wf 0 m.act && Map.wf 0 m.hbm

/-- A list of bytes in which those from `off` on are replaced. -/
def patch (d : List Byte) (off : Nat) (bs : List Byte) : List Byte := d.take off ++ bs ++ d.drop (off + bs.length)

/-! ### The weight store and the activation store (R270 to R275) -/

/-- The bytes of a core's store: `k` is 0 for the weight store, 1 for the activation store. -/
def State.storeBytes (s : State) (k core addr n : Nat) : List Byte :=
  if k = 0 then readBytes s.mem.ws (core * 2 ^ 25 + addr) n else readBytes s.mem.act (core * 2 ^ 23 + addr) n

/-- The key of the 64-bit word of a store that holds a byte. -/
def wordKey (k core addr : Nat) : Nat := (core * 2 ^ (if k = 0 then 25 else 23) + addr) / 8

/-- The word errors of a store. -/
def State.storeErrs (s : State) (k : Nat) : Map WordErr := if k = 0 then s.mem.wsErr else s.mem.actErr

/-- A store takes a table of word errors. -/
def State.setStoreErrs (s : State) (k : Nat) (m : Map WordErr) : State :=
  if k = 0 then { s with mem := { s.mem with wsErr := m } } else { s with mem := { s.mem with actErr := m } }

/-- R275. A single-bit error met: corrected, written back, counted, ECC_CE raised. -/
def State.storeCe (s : State) (k core addr : Nat) : State :=
  let s1 := s.setStoreErrs k (Map.erase (s.storeErrs k) (wordKey k core addr))
  (((s1.add (ST_CE_CNT core k) 1).set (ST_ERR_ADDR core k) (addr / 8 * 8))).raise (0x108 + 16 * core + k) 0

/-- R275. A double-bit error met: counted, ECC_UE raised, the page captures FAULTED with the word's offset and the task's flow or the engine bit. -/
def State.storeUe (s : State) (k core addr who : Nat) : State :=
  let s1 := (s.add (ST_UE_CNT core k) 1).set (ST_ERR_ADDR core k) (addr / 8 * 8)
  ((s1.raise (0x108 + 16 * core + k) 1).capture (0x108 + 16 * core + k) .faulted (addr / 8 * 8) who).fault 4 .faulted (s.coreHolder core) core 0 0 0

/-- The first byte offset of every 64-bit word that the range touches. -/
def wordsOf (addr n : Nat) : List Nat := if n = 0 then [] else (List.range ((addr + n - 1) / 8 - addr / 8 + 1)).map (fun i => (addr / 8 + i) * 8)

/-- R275. What reading the words of a range meets: corrected errors are written back; the first uncorrectable one faults. -/
def State.storeCheck (s : State) (k core who : Nat) : List Nat → State × Status
  | [] => (s, .ok)
  | a :: as =>
    match Map.find (s.storeErrs k) (wordKey k core a) with
    | none => s.storeCheck k core who as
    | some .single => (s.storeCe k core a).storeCheck k core who as
    | some .double => (s.storeUe k core a who, .faulted)

/-- A read of a store by a step of flow `who`, or by an engine (bit 31 of `who`). -/
def State.storeRead (s : State) (k core addr n who : Nat) : State × Status × List Byte :=
  let (s1, st) := s.storeCheck k core who (wordsOf addr n)
  (s1, st, s1.storeBytes k core addr n)

/-- The raw write of a store's bytes. -/
def State.storePut (s : State) (k core addr : Nat) (bs : List Byte) : State :=
  if k = 0 then { s with mem := { s.mem with ws := writeBytes s.mem.ws (core * 2 ^ 25 + addr) bs } }
  else { s with mem := { s.mem with act := writeBytes s.mem.act (core * 2 ^ 23 + addr) bs } }

/-- R275. The write of one word of a range: a write of all eight bytes clears an error; a partial one corrects a single-bit error and faults on a
double-bit error, which leaves the word as it is. -/
def State.storeWordWrite (s : State) (k core who addr : Nat) (bs : List Byte) : State × Status :=
  let e := Map.find (s.storeErrs k) (wordKey k core addr)
  if bs.length = 8 then
    ((s.setStoreErrs k (Map.erase (s.storeErrs k) (wordKey k core addr))).storePut k core addr bs, .ok)
  else match e with
    | some .double => (s.storeUe k core addr who, .faulted)
    | some .single => ((s.storeCe k core addr).storePut k core addr bs, .ok)
    | none => (s.storePut k core addr bs, .ok)

/-- The pieces of a range, none of which crosses a multiple of `unit`: start address and bytes. -/
def pieces (unit : Nat) : Nat → Nat → List Byte → List (Nat × List Byte)
  | 0, _, _ => []
  | fuel + 1, a, bs =>
    if bs.isEmpty then []
    else let n := unit - a % unit; (a, bs.take n) :: pieces unit fuel (a + n) (bs.drop n)

/-- The first status other than OK. -/
def firstBad (a b : Status) : Status := if a = .ok then b else a

/-- A write of a store by a step of flow `who` or an engine: every word on its own. -/
def State.storeWrite (s : State) (k core addr who : Nat) (bs : List Byte) : State × Status :=
  if (s.storeErrs k).isEmpty then (s.storePut k core addr bs, .ok)
  else (pieces 8 (bs.length + 1) addr bs).foldl
    (fun (t, st) (a, b) => let (t1, st1) := t.storeWordWrite k core who a b; (t1, firstBad st st1)) (s, .ok)

/-! ### HBM lines (R276 to R280) -/

/-- R277. The pseudo-channel, 0 to 191, of a line. -/
def pchOf (l : Nat) : Nat := let g := l / 2; (g + g / 192 + g / 36864) % 192

/-- R277. The stack of a line. -/
def stackOf (l : Nat) : Nat := pchOf l / 32

/-- R277. The home directory of a line: stack × 16 + channel. -/
def homeOf (l : Nat) : Nat := pchOf l / 2

/-- The stored data bytes of a line. -/
def State.stored (s : State) (l : Nat) : List Byte := readBytes s.mem.hbm (l * 128) 128

/-- The side storage of a line. -/
def State.lineMeta (s : State) (l : Nat) : LineMeta := Map.get s.mem.lineMeta {} l

/-- A line takes side storage. -/
def State.setMeta (s : State) (l : Nat) (m : LineMeta) : State := { s with mem := { s.mem with lineMeta := Map.put {} s.mem.lineMeta l m } }

/-- A line takes data bytes, as stored. -/
def State.setStored (s : State) (l : Nat) (d : List Byte) : State := { s with mem := { s.mem with hbm := writeBytes s.mem.hbm (l * 128) d } }

/-- The keys of a domain. -/
def State.domKeys (s : State) (d : Nat) : DomKeys := Map.get s.mem.keys {} d

/-- A domain takes keys. -/
def State.setKeys (s : State) (d : Nat) (k : DomKeys) : State := { s with mem := { s.mem with keys := Map.put {} s.mem.keys d k } }

/-- R320. The sweep pointer of a domain as a line index. -/
def State.rkLine (s : State) (d : Nat) : Nat := s.pair (RK_PTR_LO d) (RK_PTR_HI d) / 128

/-- R320. The key set for a line of a domain: NEXT below RK_PTR while REKEYING, CUR otherwise. -/
def State.keySet (s : State) (d l : Nat) : List Byte :=
  if s.get (DOM_STAT_STATE d) = 3 ∧ l < s.rkLine d then (s.domKeys d).next else (s.domKeys d).cur

/-- R311. The ciphertext of a line under a key set. -/
def encryptLine (ks : List Byte) (l : Nat) (d : List Byte) : List Byte :=
  xtsEncrypt (ks.take 32) ((ks.drop 32).take 32) (leBytes 16 l) d

/-- R311. The plaintext of a line under a key set. -/
def decryptLine (ks : List Byte) (l : Nat) (c : List Byte) : List Byte :=
  xtsDecrypt (ks.take 32) ((ks.drop 32).take 32) (leBytes 16 l) c

/-- R312. The tag of a line's ciphertext, its byte 0 lowest. -/
def lineTag (ks : List Byte) (l : Nat) (c : List Byte) : Nat :=
  let kt := (ks.drop 64).take 32
  let h := beNat (aesEnc kt (List.replicate 16 0))
  let x9 := beBytes 8 l ++ beBytes 8 1024
  let m := aesEnc kt (255 :: List.replicate 7 0 ++ beBytes 8 l)
  leNat ((xorBytes (beBytes 16 (ghash h (chunksOf 16 8 c ++ [x9]))) m).take 8)

/-! ### Reports of memory errors (R279, R280, R326) -/

/-- R279, R300. A correctable line was met: counted, CE raised; the line is written back with good code. -/
def State.lineCe (s : State) (l : Nat) : State :=
  let s1 := (s.setMeta l { s.lineMeta l with code := .good }).add (MS_WR_LINES (stackOf l)) 1
  ((s1.add (MS_CE_CNT (stackOf l)) 1).add MEM_CE_CNT 1).raise 0x300 0

/-- R279, R300. A line could not be served: logged on MEMCTL page 0 with its place, the cause and the function. -/
def State.lineUe (s : State) (l fn cause : Nat) : State :=
  let s1 := ((s.add (MS_UE_CNT (stackOf l)) 1).add MEM_UE_CNT 1).setPair MEM_UE_ADDR_LO MEM_UE_ADDR_HI (l * 128)
  let s2 := (s1.raise 0x300 1).capture 0x300 .faulted (stackOf l + 16 * (pchOf l % 32 / 2) + 256 * (pchOf l % 2) + 4096 * cause) fn
  if cause = 3 then s2 else s2.fault 8 .faulted fn 0 0 (stackOf l) (pchOf l % 32)

/-- R325, R326. An entry of the protection log: logged or counted as lost; the page captures it. -/
def State.logProt (s : State) (e : ProtEntry) (st : Status) : State :=
  let s1 := if s.mem.protLog.length < 64 then { s with mem := { s.mem with protLog := s.mem.protLog ++ [e] } }
    else (s.add PL_LOST 1).raise 0x310 2
  s1.capture 0x310 st (e.fn + 16 * e.dom + 256 * e.cause + 4096 * e.agent + 65536 * e.core) (e.pa / 128)

/-- R326. An access refused TAG_FAIL: counted, TAG_FAIL raised, logged. -/
def State.tagFail (s : State) (agent fn core dom l cause : Nat) : State :=
  ((s.add TAG_FAIL_CNT 1).raise 0x310 0).logProt
    { fn := fn, dom := dom, cause := cause, agent := agent, core := core, pa := l * 128, time := s.now } .tagFail

/-- R280, R304. A line is written POISON: one line write to its stack, counted, POISON_SET raised. -/
def State.poison (s : State) (l : Nat) : State :=
  (((s.setMeta l { s.lineMeta l with code := .poison }).add (MS_WR_LINES (stackOf l)) 1).add POISON_SET_CNT 1).raise 0x310 1

/-! ### The home's accesses (R313 to R315) -/

/-- R302. The pseudo-channel of a line has failed, or its stack is not trained. -/
def State.lineAbsent (s : State) (l : Nat) : Bool :=
  bitOf (s.get (MS_PCH_FAIL (stackOf l))) (pchOf l % 32) || !s.on (MS_STAT_TRAINED (stackOf l))

/-- R313. A home read of a line by an agent under a domain: the checks in order, the plaintext where none refuses it. -/
def State.homeRead (s : State) (agent fn core dom l : Nat) : State × Status × List Byte :=
  if s.lineAbsent l then (s.lineUe l fn 3, .faulted, [])
  else
    let s := s.add (MS_RD_LINES (stackOf l)) 1
    match (s.lineMeta l).code with
    | .poison => (s.tagFail agent fn core dom l 3, .tagFail, [])
    | .uncorrectable => (s.lineUe l fn 1, .faulted, [])
    | code =>
      let s := if code = .correctable then s.lineCe l else s
      if dom = 15 then (s, .ok, s.stored l)
      else
        let ks := s.keySet dom l
        if lineTag ks l (s.stored l) = (s.lineMeta l).tag then (s, .ok, decryptLine ks l (s.stored l))
        else (s.tagFail agent fn core dom l 1, .tagFail, [])

/-- R314. A full-line write at the home: encrypted and tagged, whatever the line held; poison is cleared and counted. -/
def State.homeWrite (s : State) (fn dom l : Nat) (d : List Byte) : State × Status :=
  if s.lineAbsent l then (s.lineUe l fn 3, .faulted)
  else
    let s1 := s.add (MS_WR_LINES (stackOf l)) 1
    let s2 := if (s1.lineMeta l).code = .poison then s1.add POISON_CLR_CNT 1 else s1
    if dom = 15 then ((s2.setStored l d).setMeta l {}, .ok)
    else
      let ks := s2.keySet dom l
      let c := encryptLine ks l d
      ((s2.setStored l c).setMeta l { tag := lineTag ks l c }, .ok)

/-- R315. The check that a partial write makes at the home: as a read, but a line whose tag fails is poisoned (cause 2). -/
def State.homeReadForMerge (s : State) (agent fn core dom l : Nat) : State × Status × List Byte :=
  if s.lineAbsent l then (s.lineUe l fn 3, .faulted, [])
  else
    let s := s.add (MS_RD_LINES (stackOf l)) 1
    match (s.lineMeta l).code with
    | .poison => (s.tagFail agent fn core dom l 3, .tagFail, [])
    | .uncorrectable => (s.lineUe l fn 1, .faulted, [])
    | code =>
      let s := if code = .correctable then s.lineCe l else s
      if dom = 15 then (s, .ok, s.stored l)
      else
        let ks := s.keySet dom l
        if lineTag ks l (s.stored l) = (s.lineMeta l).tag then (s, .ok, decryptLine ks l (s.stored l))
        else ((s.poison l).tagFail agent fn core dom l 2, .tagFail, [])

/-! ### Segments (R282) -/

/-- R282. The valid segment of a function that holds every byte of a range. -/
def State.segment (s : State) (fn addr n : Nat) : Option Nat :=
  (List.range 64).find? (fun x =>
    s.on (SEG_FBASE_VALID fn x) && decide (s.get (SEG_FBASE fn x) * 2 ^ 21 ≤ addr)
      && decide (addr + n ≤ (s.get (SEG_FBASE fn x) + s.get (SEG_LEN fn x)) * 2 ^ 21))

/-- R282. The physical address and the domain of a range of function addresses; none where it is refused. -/
def State.translate (s : State) (fn addr n : Nat) (write : Bool) : Option (Nat × Nat) :=
  match s.segment fn addr n with
  | none => none
  | some x =>
    if write && s.on (SEG_ATTR_RO fn x) then none
    else some (s.get (SEG_PBASE fn x) * 2 ^ 21 + (addr - s.get (SEG_FBASE fn x) * 2 ^ 21), s.get (SEG_ATTR_PDOM fn x))

/-- R282. Valid segments of a function cover a range of its addresses, one after the other. -/
def State.covered (s : State) (fn : Nat) : Nat → Nat → Nat → Bool
  | 0, _, _ => false
  | f + 1, addr, n =>
    if n = 0 then true
    else match s.segment fn addr 1 with
      | none => false
      | some x =>
        let hi := (s.get (SEG_FBASE fn x) + s.get (SEG_LEN fn x)) * 2 ^ 21
        s.covered fn f hi (addr + n - hi)

/-- R184, R221. A range lies in the HBM grant of a function. -/
def State.granted (s : State) (fn addr n : Nat) : Bool := s.covered fn 65 addr n

/-- The pieces of a range within lines: line, first byte, bytes. -/
def linePieces : Nat → Nat → Nat → List (Nat × Nat × Nat)
  | 0, _, _ => []
  | fuel + 1, pa, n =>
    if n = 0 then []
    else let k := min n (128 - pa % 128); (pa / 128, pa % 128, k) :: linePieces fuel (pa + k) (n - k)

/-- R51, R301. The stack of a line of a physical range is quiesced. -/
def State.stackQuiet (s : State) (pa n : Nat) : Bool :=
  (List.range 6).any (fun k => s.quiet (0x301 + k)) && (linePieces (n / 128 + 2) pa n).any (fun e => s.quiet (0x301 + stackOf e.1))

/-- R51, R301. A new access of function `fn` to a physical range waits for the end of a quiesce: of MEMCTL page 0, of the function's page, of a stack of the range. -/
def State.memQuiet (s : State) (fn pa n : Nat) : Bool := s.quiet 0x300 || s.quiet (0x307 + fn) || s.stackQuiet pa n

/-- R51, R301. The stack of a line of a range of function addresses, one 2 MiB unit at a time, is quiesced. -/
def State.unitsQuiet (s : State) (fn : Nat) : Nat → Nat → Nat → Bool
  | 0, _, _ => false
  | fuel + 1, addr, n =>
    if n = 0 then false
    else
      let k := min n (2 ^ 21 - addr % 2 ^ 21)
      (match s.translate fn addr k false with | some (pa, _) => s.stackQuiet pa k | none => false) || s.unitsQuiet fn fuel (addr + k) (n - k)

/-- R51, R301. A new access of function `fn` to `n` bytes of its addresses waits for the end of a quiesce. One of no bytes makes no access. -/
def State.hbmHeld (s : State) (fn addr n : Nat) : Bool :=
  n != 0 && (s.quiet 0x300 || s.quiet (0x307 + fn) || ((List.range 6).any (fun k => s.quiet (0x301 + k)) && s.unitsQuiet fn (n / 2 ^ 21 + 2) addr n))

/-- R585, R305. A domain is in use: a valid segment of a function names it. -/
def State.domInUse (s : State) (d : Nat) : Bool :=
  (List.range 9).any (fun f => (List.range 64).any (fun x => s.on (SEG_FBASE_VALID f x) && s.get (SEG_ATTR_PDOM f x) == d))

end Sys2Proof.Machine
end

