-- ==== Sys2Proof/Machine/Coherence.lean ====
section
/-!
DEFINITION. Line caches and home directories (R286 to R295): the transactions of a line at its home, the messages between cores and homes, the
accesses of steps through the line cache and of the other agents at the home. A step or an agent that needs a line first lets the transactions
already begun for the line complete, as R290 orders them.
-/

namespace Sys2Proof.Machine

/-! ### Caches and directories -/

/-- A core's line cache. -/
def State.cache (s : State) (core : Nat) : Cache := Map.get s.mem.caches {} core

/-- A core takes a line cache. -/
def State.setCache (s : State) (core : Nat) (c : Cache) : State := { s with mem := { s.mem with caches := Map.put {} s.mem.caches core c } }

/-- The copy of a line in a core's cache. -/
def State.cached (s : State) (core l : Nat) : Option CacheLine := (s.cache core).lines.find? (fun c => c.line == l)

/-- A line in a core's cache is replaced or removed; a replaced line becomes the most recently used. -/
def State.setCached (s : State) (core l : Nat) (v : Option CacheLine) : State :=
  let c := s.cache core
  s.setCache core { c with lines := v.toList ++ c.lines.filter (fun x => x.line != l) }

/-- The entry of a line in its core's eviction buffer. -/
def State.evictedEntry (s : State) (core l : Nat) : Option Evicted := (s.cache core).evicted.find? (fun e => e.line == l)

/-- The eviction-buffer entry of a line is replaced or removed. -/
def State.setEvicted (s : State) (core l : Nat) (v : Option Evicted) : State :=
  let c := s.cache core
  s.setCache core { c with evicted := c.evicted.filter (fun x => x.line != l) ++ v.toList }

/-- The directory entry of a line. -/
def State.dirEntry (s : State) (l : Nat) : Option DirEntry := s.mem.dir.find? (fun e => e.line == l)

/-- The cores that hold a line, as its home records them. -/
def State.holders (s : State) (l : Nat) : List Nat :=
  match s.dirEntry l with
  | none => []
  | some e => e.owner.toList ++ e.sharers

/-- The M owner of a line, as its home records it. -/
def State.owner (s : State) (l : Nat) : Option Nat := (s.dirEntry l).bind (·.owner)

/-- R286. The set of a line in a line cache. -/
def lcSet (l : Nat) : Nat := l % 512

/-- A cached line has an uncorrectable word. -/
def CacheLine.broken (x : CacheLine) : Bool := x.err.any (fun e => e.2 == .double)

/-- R280, R289, R634. What a line brings to its home as it leaves the cache. -/
def CacheLine.yield (x : CacheLine) : Yield :=
  if !x.owned then .nothing else if x.broken then (if x.dirty then .lost else .nothing) else .data x.data

/-- R275. The line cache meets an uncorrectable word of a line: ECC_UE, FAULTED with the set, the way and the word, and the flow or the engine bit. -/
def State.lineFault (s : State) (core : Nat) (x : CacheLine) (w who : Nat) : State :=
  let s1 := (s.raise (0x10A + 16 * core) 1).capture (0x10A + 16 * core) .faulted (lcSet x.line + 512 * x.way + 4096 * w) who
  s1.fault 4 .faulted (s.coreHolder core) core 0 0 0

/-- R275, R280. An engine reads the data of an M line for its home: single-bit errors are corrected, an uncorrectable word of a dirty line is captured with the engine bit. -/
def State.readOut (s : State) (core : Nat) (x : CacheLine) : State :=
  match x.yield, x.err.find? (fun e => e.2 == .double) with
  | .lost, some (w, _) => s.lineFault core x w (2 ^ 31)
  | .data _, _ => if x.err.isEmpty then s else s.raise (0x10A + 16 * core) 0
  | _, _ => s

/-- R280, R314. What a line brings reaches the home: data are written back; lost data are written POISON and logged with cause 2. While PD_MEM is
off nothing reaches HBM (R33). -/
def State.writeBack (s : State) (l fn dom : Nat) (y : Yield) : State :=
  if !s.domOn 3 then s else
  match y with
  | .nothing => s
  | .data d => (s.homeWrite fn dom l d).1
  | .lost => if s.lineAbsent l then s.lineUe l fn 3 else (s.poison l).lineUe l fn 2

/-- The bytes of the words of a line that a write of bytes `off` to `off + n − 1` covers only in part and that are uncorrectable: they keep their contents. -/
def CacheLine.stuck (x : CacheLine) (off n : Nat) : List Nat :=
  (x.err.filter (fun e => n != 0 && e.2 == .double && !(decide (off ≤ e.1 * 8) && decide (e.1 * 8 + 8 ≤ off + n)) && !(decide (e.1 * 8 + 8 ≤ off) || decide (off + n ≤ e.1 * 8)))).map (·.1)

/-- R275. A line with bytes written: a word written whole is good again, a correctable one that is merged is corrected, an uncorrectable one that is written in part stays. -/
def CacheLine.written (x : CacheLine) (off : Nat) (bs : List Byte) : CacheLine :=
  let stay := x.stuck off bs.length
  let apart (e : Nat × WordErr) : Bool := decide (e.1 * 8 + 8 ≤ off) || decide (off + bs.length ≤ e.1 * 8)
  { x with data := stay.foldl (fun d w => patch d (w * 8) ((x.data.drop (w * 8)).take 8)) (patch x.data off bs),
           err := if bs.isEmpty then x.err else x.err.filter (fun e => apart e || stay.contains e.1) }

/-- A message brings a core the line that it asked for, or the right to write it. -/
def Flight.isFill (m : Flight) : Bool := m.msg == .dataS || m.msg == .dataM || m.msg == .grant

/-- R289. A home records who holds a line; an entry that nobody holds is removed. The entry becomes its set's most recently used. -/
def State.setDir (s : State) (l : Nat) (owner : Option Nat) (sharers : List Nat) : State :=
  let rest := s.mem.dir.filter (fun e => e.line != l)
  { s with mem := { s.mem with dir := if owner.isNone && sharers.isEmpty then rest else { line := l, owner := owner, sharers := sharers } :: rest } }

/-- R292. The set of a line in its home's directory. The set function is open (assumption 12). -/
def dirSet (l : Nat) : Nat := homeOf l * 64 + (Config.dirIndex l).val

/-- R275, R287. The line that a core holds once a reply has arrived: the bytes its step writes are merged into the copy it holds, or into the data that came. A whole word that is
written is good again. -/
def State.filled (s : State) (m : Flight) : CacheLine :=
  let old := if m.msg = .grant then s.cached m.core m.line else none
  let x : CacheLine := { line := m.line, way := 0, owned := m.msg != .dataS, dirty := m.msg != .dataS && (m.dirty || !m.bytes.isEmpty || (old.map (·.dirty)).getD false),
                         dom := m.dom, fn := m.fn, data := if m.msg = .grant then (old.map (·.data)).getD (List.replicate 128 0) else m.data,
                         err := (old.map (·.err)).getD [] }
  x.written m.off m.bytes

/-- R294. A snoop and an eviction have crossed: counted by the home and by the core. -/
def State.crossing (s : State) (core : Nat) : State := (s.add DIR_XEVICT_CNT 1).add (LC_XEVICT_CNT core) 1

/-- R292. A home takes a line back that is on its way to a core: the bytes of the core's step are in it. -/
def State.takeFill (s : State) (core l : Nat) : State :=
  match s.mem.flights.find? (fun m => m.core == core && m.line == l && m.isFill) with
  | none => s
  | some m =>
    let t := { s with mem := { s.mem with flights := s.mem.flights.erase m } }
    if m.status ≠ .ok ∨ m.dropped then t else (t.setCached core l none).writeBack l m.fn m.dom (s.filled m).yield

/-- R292. A home takes a line back from a core's cache. -/
def State.takeCached (s : State) (core l : Nat) : State :=
  match s.cached core l with
  | none => s
  | some x => ((s.readOut core x).setCached core l none).writeBack l x.fn x.dom x.yield

/-- R292, R294. A home takes a line back from a core's eviction buffer. -/
def State.takeEvicted (s : State) (core l : Nat) : State :=
  match s.evictedEntry core l with
  | none => s
  | some e =>
    if e.arrived then s
    else (((s.setEvicted core l none).writeBack l e.fn e.dom e.out).add (LC_WB_CNT core) (b2n e.owned)).crossing core

/-- R292. A copy that a home takes back from a core, wherever it stands. -/
def State.takeBack (s : State) (core l : Nat) : State := (((s.add (LC_SNOOP_CNT core) 1).takeFill core l).takeCached core l).takeEvicted core l

/-- R292. A home evicts a directory entry: the holders' copies are invalidated, M data go to HBM. -/
def State.backInvalidate (s : State) (e : DirEntry) : State :=
  let s1 := (e.owner.toList ++ e.sharers).foldl (fun t c => t.takeBack c e.line) s
  (s1.setDir e.line none []).add DIR_BINV_CNT 1

/-- R292. Room for one line in its directory set: where 16 other lines fill the set, the least recently used with no transaction in progress is evicted. -/
def State.dirRoom (s : State) (l : Nat) : State :=
  let same := s.mem.dir.filter (fun e => dirSet e.line == dirSet l && e.line != l)
  let idle := same.filter (fun e => s.mem.txns.all (fun t => !t.begun || t.line != e.line))
  if s.mem.dir.length < 16 then s else if same.length < 16 then s else match idle.getLast? with | none => s | some e => s.backInvalidate e

/-- R289, R292. A home installs who holds a line. -/
def State.installDir (s : State) (l : Nat) (owner : Option Nat) (sharers : List Nat) : State :=
  ((if (s.dirEntry l).isSome then s else s.dirRoom l)).setDir l owner sharers

/-- R293. A core drops a line into its eviction buffer, with what it brings to the home. -/
def State.toBuffer (s : State) (core : Nat) (x : CacheLine) : State :=
  (s.setCached core x.line none).setEvicted core x.line (some { line := x.line, owned := x.owned, dom := x.dom, fn := x.fn, out := x.yield })

/-- R286. A line finds its set of a line cache full of other lines. -/
def State.needsVictim (s : State) (core l : Nat) : Bool := decide (8 ≤ ((s.cache core).lines.filter (fun c => lcSet c.line == lcSet l && c.line != l)).length)

/-- R293. A core's eviction buffer is full. -/
def State.bufferFull (s : State) (core : Nat) : Bool := decide (16 ≤ (s.cache core).evicted.length)

/-- R286, R293. A core installs a line; a full set's least recently used line goes to the eviction buffer, a clean line with an uncorrectable word
is dropped unread (R634). -/
def State.install (s : State) (core : Nat) (x : CacheLine) : State :=
  let s := s.setCached core x.line none
  let same := (s.cache core).lines.filter (fun c => lcSet c.line == lcSet x.line)
  let free := (List.range 8).find? (fun w => same.all (fun c => c.way != w))
  match free, same.getLast? with
  | some w, _ => s.setCached core x.line (some { x with way := w })
  | none, some v =>
    ((s.readOut core v).toBuffer core v).setCached core x.line (some { x with way := v.way })
  | none, none => s

/-! ### Messages and transactions (R289 to R295) -/

/-- A message sets out. -/
def State.send (s : State) (m : Flight) : State := { s with mem := { s.mem with flights := s.mem.flights ++ [m] } }

/-- The begun transaction of a line. -/
def State.txn (s : State) (l : Nat) : Option Txn := s.mem.txns.find? (fun t => t.line == l && t.begun)

/-- The begun transaction of a line is replaced or removed. -/
def State.setTxn (s : State) (l : Nat) (v : Option Txn) : State :=
  { s with mem := { s.mem with txns := s.mem.txns.flatMap (fun t => if t.line == l && t.begun then v.toList else [t]) } }

/-- R287 to R295. A transaction whose snoops are answered: the home reads or writes the line, records the holders, and replies. An UPG that has met a crossing is answered as an RD_M
(R295). -/
def State.finishTxn (s : State) (t : Txn) : State :=
  let l := t.line
  let stay := (s.holders l).filter (fun c => !t.absorbed.contains c && c != t.core)
  let reply (m : Msg) (dirty : Bool) (r : State × Status × List Byte) : State :=
    r.1.send { msg := m, line := l, core := t.core, dom := t.dom, fn := t.fn, data := r.2.2, dirty := dirty, status := r.2.1,
               off := t.off, bytes := t.bytes, claim := t.req == .claim, dropped := t.dropped }
  let s := s.setTxn l none
  let s1 :=
    match (if t.req = .upg ∧ t.crossed then .rdM else t.req) with
    | .rdS =>
      match t.data with
      | some d =>
        let s0 := (s.homeWrite t.fn t.dom l d).1
        (reply .dataS false (s0, .ok, d)).installDir l none (stay ++ [t.core])
      | none =>
        let r := s.homeRead 0 t.fn t.core t.dom l
        let s0 := reply .dataS false r
        if r.2.1 = .ok then s0.installDir l none (stay ++ [t.core]) else s0.setDir l none stay
    | .claim =>
      let s0 := match t.data with | some d => (s.homeWrite t.fn t.dom l d).1 | none => s
      (reply .grant false (s0, .ok, [])).installDir l (some t.core) []
    | .upg => (reply .grant false (s, .ok, [])).installDir l (some t.core) []
    | .rdM =>
      match t.data with
      | some d => (reply .dataM true (s, .ok, d)).installDir l (some t.core) []
      | none =>
        let r := s.homeReadForMerge 0 t.fn t.core t.dom l
        let s0 := reply .dataM false r
        if r.2.1 = .ok then s0.installDir l (some t.core) [] else s0.setDir l none []
  t.absorbed.foldl (fun u c => u.send { msg := .evictAck, line := l, core := c }) s1

/-- R290, R291. A transaction begins: its snoops set out, or it finishes at once where none is needed. An UPG whose line was invalidated first
becomes an RD_M (R295). -/
def State.beginTxn (s : State) (t : Txn) : State :=
  let t := if t.req = .upg ∧ !(s.holders t.line).contains t.core then { t with req := .rdM } else t
  let targets := (if t.req = .rdS then (s.owner t.line).toList else s.holders t.line).filter (· != t.core)
  let t := { t with begun := true, waiting := targets }
  let s1 := { s with mem := { s.mem with txns := s.mem.txns ++ [t] } }
  if targets.isEmpty then s1.finishTxn t
  else targets.foldl (fun u c => u.send { msg := if t.req = .rdS then .snpShr else .snpInv, line := t.line, core := c }) s1

/-- R281, R290. A transaction of a line is in progress: begun, or with its reply on its way. -/
def State.lineBusy (s : State) (l : Nat) : Bool := (s.txn l).isSome || s.mem.flights.any (fun m => m.line == l && m.isFill)

/-- R290. The next waiting transaction of a line begins where none is in progress and the reply to the last one has arrived. -/
def State.nextTxn (s : State) (l : Nat) : Nat → State
  | 0 => s
  | fuel + 1 =>
    if s.lineBusy l then s
    else match s.mem.txns.find? (fun t => t.line == l) with
      | none => s
      | some t => (({ s with mem := { s.mem with txns := s.mem.txns.eraseP (fun u => u.line == l) } }).beginTxn t).nextTxn l fuel

/-- R290. A request arrives at the home of its line and waits its turn. -/
def State.request (s : State) (t : Txn) : State :=
  ({ s with mem := { s.mem with txns := s.mem.txns ++ [t] } }).nextTxn t.line (s.mem.txns.length + 1)

/-- A transaction in progress takes a new form, and finishes once no snoop is unanswered. -/
def State.progress (s : State) (t : Txn) : State :=
  let s1 := s.setTxn t.line (some t)
  if t.waiting.isEmpty then (s1.finishTxn t).nextTxn t.line (s1.mem.txns.length + 1) else s1

/-- R294. The home counts the crossing of a core's eviction, once. -/
def State.cross (s : State) (core l : Nat) : State :=
  match s.evictedEntry core l with
  | some e => if e.crossed then s else (s.setEvicted core l (some { e with crossed := true })).crossing core
  | none => s

/-- R289, R294. The home receives a snoop reply of a core. -/
def State.homeReply (s : State) (m : Flight) : State :=
  match s.txn m.line with
  | none => s
  | some t =>
    if !t.waiting.contains m.core then s
    else
      let done := { t with waiting := t.waiting.filter (· != m.core) }
      match m.msg with
      | .data => s.progress { done with data := some m.data }
      | .notHeldEvicting =>
        if t.absorbed.contains m.core then s.progress done
        else if s.owner m.line != some m.core then (s.cross m.core m.line).progress { done with crossed := true }
        else s.progress { t with evicting := t.evicting ++ [m.core] }
      | _ => s.progress done

/-- R289, R294. A core receives a snoop: it gives up or downgrades its copy, returning the data of an M line, or replies that it holds none. -/
def State.coreSnoop (s : State) (m : Flight) : State :=
  let s := s.add (LC_SNOOP_CNT m.core) 1
  let answer (u : State) (k : Msg) (d : List Byte) : State := u.send { msg := k, line := m.line, core := m.core, data := d }
  match s.cached m.core m.line with
  | some x =>
    let s1 := (s.readOut m.core x).setCached m.core m.line (if m.msg = .snpShr ∧ !x.broken then some { x with owned := false, dirty := false, err := [] } else none)
    match x.yield with
    | .data d => answer s1 .data d
    | y => answer (s1.writeBack m.line x.fn x.dom y) .ack []
  | none => answer s (if (s.evictedEntry m.core m.line).isSome then .notHeldEvicting else .notHeld) []

/-- R293, R294. The home receives an eviction: a transaction in progress absorbs it, otherwise the data are written and EVICT_ACK returns. -/
def State.homeEvict (s : State) (core l : Nat) : State :=
  match s.evictedEntry core l with
  | none => s
  | some e =>
    if e.arrived then s
    else
      let s := (s.setEvicted core l (some { e with arrived := true })).add (LC_WB_CNT core) (b2n e.owned)
      match s.txn l with
      | some t =>
        let s := s.cross core l
        let s := if e.out = .lost then s.writeBack l e.fn e.dom e.out else s
        let t1 := { t with absorbed := t.absorbed ++ [core], crossed := true, data := match e.out with | .data d => some d | _ => t.data }
        s.progress { t1 with waiting := t1.waiting.filter (fun c => !(c == core && t1.evicting.contains c)) }
      | none =>
        let s1 := s.writeBack l e.fn e.dom e.out
        let d := s1.dirEntry l
        let own := (d.bind (·.owner)).filter (· != core)
        let sh := ((d.map (·.sharers)).getD []).filter (· != core)
        (s1.setDir l own sh).send { msg := .evictAck, line := l, core := core }

/-- A message other than a fill arrives where it goes. -/
def State.deliverOther (s : State) (m : Flight) : State :=
  match m.msg with
  | .dataS | .dataM | .grant => s
  | .evictAck => s.setEvicted m.core m.line none
  | .snpInv | .snpShr => s.coreSnoop m
  | .ack | .data | .notHeld | .notHeldEvicting => s.homeReply m

/-- R293. The evictions of a line run to their end, as far as they can without a fill. -/
def State.settleEvictions (s : State) (l : Nat) : Nat → State
  | 0 => s
  | fuel + 1 =>
    match s.mem.flights.find? (fun m => m.line == l && !m.isFill) with
    | some m => (({ s with mem := { s.mem with flights := s.mem.flights.erase m } }).deliverOther m).settleEvictions l fuel
    | none =>
      match (List.range 16).find? (fun c => ((s.evictedEntry c l).map (fun e => !e.arrived)).getD false) with
      | some c => (s.homeEvict c l).settleEvictions l fuel
      | none => s

/-- A bound on the messages of one line. -/
def State.lineFuel (s : State) : Nat := 8 * (s.mem.txns.length + s.mem.flights.length + 20)

/-- R293. A line that needs a victim while the eviction buffer is full waits for EVICT_ACKs. -/
def State.victimRoom (s : State) (core l : Nat) : State :=
  if s.needsVictim core l && s.bufferFull core then ((s.cache core).evicted.map (·.line)).foldl (fun t x => t.settleEvictions x t.lineFuel) s else s

/-- R275, R287, R289, R318. A core receives the line it asked for, merges the bytes its step writes and installs the line; a refused fill installs nothing, and a line whose CLAIMed
write was abandoned is dropped. A word that is uncorrectable and written in part faults; whose write it was is open. -/
def State.coreFill (s : State) (m : Flight) : State :=
  if m.status ≠ .ok then s
  else if m.dropped then s.setCached m.core m.line none
  else
    let old := if m.msg = .grant then s.cached m.core m.line else none
    let s1 := match old, (old.map (·.stuck m.off m.bytes.length)).getD [] with
      | some x, w :: _ => let (f, t) := s.drawFree; t.lineFault m.core x w (f % 4096)
      | _, _ => s
    ((s1.victimRoom m.core m.line).install m.core (s.filled m))

/-- A message arrives where it goes. With a fill the transaction is complete, and the next one of its line begins (R290). -/
def State.deliver (s : State) (m : Flight) : State :=
  if m.isFill then (s.coreFill m).nextTxn m.line (s.mem.txns.length + 1) else s.deliverOther m

/-- The first message on its way of a kind, to or from a core, about a line, arrives; nothing happens where there is none. -/
def State.arrive (s : State) (k : Msg) (core l : Nat) : State :=
  match s.mem.flights.find? (fun m => m.msg == k && m.core == core && m.line == l) with
  | none => s
  | some m => ({ s with mem := { s.mem with flights := s.mem.flights.erase m } }).deliver m

/-- R290, R293. The transactions and evictions of a line that have begun run to their end. -/
def State.settle (s : State) (l : Nat) : Nat → State
  | 0 => s
  | fuel + 1 =>
    match s.mem.flights.find? (fun m => m.line == l) with
    | some m => (({ s with mem := { s.mem with flights := s.mem.flights.erase m } }).deliver m).settle l fuel
    | none =>
      match (List.range 16).find? (fun c => ((s.evictedEntry c l).map (fun e => !e.arrived)).getD false) with
      | some c => (s.homeEvict c l).settle l fuel
      | none => s

/-- The transactions and evictions of a line have run to their end. -/
def State.settled (s : State) (l : Nat) : State := s.settle l s.lineFuel

/-- Every eviction that waits in a core's buffer reaches its home. -/
def State.drainEvictions (s : State) (core : Nat) : State := ((s.cache core).evicted.map (·.line)).foldl (fun t l => t.settled l) s

/-! ### Accesses of the agents at the home (R291) -/

/-- R291. An M owner is downgraded: its data go to HBM and to the reader. -/
def State.downgrade (s : State) (l : Nat) : State × Option (List Byte) :=
  match s.owner l with
  | none => (s, none)
  | some o =>
    let s := s.add (LC_SNOOP_CNT o) 1
    match s.cached o l with
    | none => (s.setDir l none [], none)
    | some x =>
      let s1 := (s.readOut o x).setCached o l (if x.broken then none else some { x with owned := false, dirty := false, err := [] })
      let s2 := s1.writeBack l x.fn x.dom x.yield
      match x.yield with
      | .data d => (s2.setDir l none [o], some d)
      | _ => (s2.setDir l none [], none)

/-- R291. Every cached copy of a line but one core's is invalidated; what an M owner gave up. Lost data are written POISON. -/
def State.invalidate (s : State) (l keep : Nat) : State × Option (List Byte) :=
  (s.holders l).foldl
    (fun (t, d) c =>
      if c == keep then (t, d)
      else
        let t := t.add (LC_SNOOP_CNT c) 1
        match t.cached c l with
        | none => (t, d)
        | some x =>
          let t1 := (t.readOut c x).setCached c l none
          match x.yield with
          | .data b => (t1, some b)
          | y => (t1.writeBack l x.fn x.dom y, d)) (s, none)

/-- A core number that names no core. -/
def noCore : Nat := 16

/-- R291, R313. A line is fetched at its home: an M owner's data where there is one, else what the home reads. -/
def State.homeFetch (s : State) (agent fn core dom l : Nat) : State × Status × List Byte :=
  match s.downgrade l with
  | (s1, some d) => (s1, .ok, d)
  | (s1, none) => s1.homeRead agent fn core dom l

/-- R291, R313. A read of one line by an agent at the home. -/
def State.agentRead (s : State) (agent fn core dom l : Nat) : State × Status × List Byte := (s.settled l).homeFetch agent fn core dom l

/-- R291, R314, R315. A write by an agent at the home of bytes within one line: cached copies are invalidated first. -/
def State.agentWrite (s : State) (agent fn core dom l off : Nat) (bs : List Byte) : State × Status :=
  let s := s.settled l
  let (s1, x) := s.invalidate l noCore
  let s2 := s1.setDir l none []
  if bs.length = 128 then s2.homeWrite fn dom l bs
  else match x with
    | some d => s2.homeWrite fn dom l (patch d off bs)
    | none =>
      match s2.homeReadForMerge agent fn core dom l with
      | (s3, .ok, d) => s3.homeWrite fn dom l (patch d off bs)
      | (s3, st, _) => (s3, st)

/-! ### Accesses of steps through the line cache (R286, R287, R315) -/

/-- R275. A step's access to the bytes from `off` on meets the errors of the words it touches: single-bit errors are corrected, the first double-bit one faults. -/
def State.cacheErr (s : State) (core : Nat) (x : CacheLine) (off n who : Nat) : State × CacheLine × Status :=
  let met := x.err.filter (fun e => !(decide (e.1 * 8 + 8 ≤ off) || decide (off + n ≤ e.1 * 8)))
  if met.isEmpty then (s, x, .ok)
  else
    let s1 := if met.any (fun e => e.2 == .single) then s.raise (0x10A + 16 * core) 0 else s
    let y := { x with err := x.err.filter (fun e => e.2 == .double || !met.contains e) }
    match met.find? (fun e => e.2 == .double) with
    | some (w, _) => (s1.lineFault core x w who, y, .faulted)
    | none => (s1, y, .ok)

/-- R286. A step's read of bytes within one line through its core's line cache. -/
def State.cacheRead (s : State) (core fn dom l off n who : Nat) : State × Status × List Byte :=
  let s := s.settled l
  match s.cached core l with
  | some x =>
    match (s.add (LC_HIT_CNT core) 1).cacheErr core x off n who with
    | (s1, y, st) => (s1.setCached core l (some y), st, (y.data.drop off).take n)
  | none =>
    match (s.add (LC_MISS_CNT core) 1).homeFetch 0 fn core dom l with
    | (s1, .ok, d) =>
      let s2 := s1.installDir l none (s1.holders l ++ [core])
      let s3 := s2.install core { line := l, way := 0, owned := false, dirty := false, dom := dom, fn := fn, data := d }
      (s3.drainEvictions core, .ok, (d.drop off).take n)
    | (s1, st, d) => (s1, st, d)

/-- R287. A core comes to own a line with the data given. -/
def State.ownLine (s : State) (core fn dom l : Nat) (d : List Byte) : State :=
  ((s.installDir l (some core) []).install core { line := l, way := 0, owned := true, dirty := true, dom := dom, fn := fn, data := d }).drainEvictions core

/-- R275. A step's write meets the words that it covers only in part: single-bit errors are corrected, an uncorrectable one faults and keeps its contents. -/
def State.writeErr (s : State) (core : Nat) (x : CacheLine) (off : Nat) (bs : List Byte) (who : Nat) : State × CacheLine × Status :=
  let part (e : Nat × WordErr) : Bool :=
    !(decide (off ≤ e.1 * 8) && decide (e.1 * 8 + 8 ≤ off + bs.length)) && !(decide (e.1 * 8 + 8 ≤ off) || decide (off + bs.length ≤ e.1 * 8))
  let s1 := if x.err.any (fun e => e.2 == .single && part e) then s.raise (0x10A + 16 * core) 0 else s
  match x.stuck off bs.length with
  | w :: _ => (s1.lineFault core x w who, x.written off bs, .faulted)
  | [] => (s1, x.written off bs, .ok)

/-- R287, R315. A step's write of bytes within one line through its core's line cache: CLAIM for a whole line, RD_M for a part, UPG for a shared hit. -/
def State.cacheWrite (s : State) (core fn dom l off who : Nat) (bs : List Byte) : State × Status :=
  let s := s.settled l
  match s.cached core l with
  | some x =>
    match (s.add (LC_HIT_CNT core) 1).writeErr core x off bs who with
    | (s1, y, st) =>
      let s2 := if x.owned then s1 else ((s1.invalidate l core).1).setDir l (some core) []
      (s2.setCached core l (some { y with owned := true, dirty := true, dom := dom, fn := fn }), st)
  | none =>
    match (s.add (LC_MISS_CNT core) 1).invalidate l core with
    | (s1, x) =>
      if bs.length = 128 then (s1.ownLine core fn dom l bs, .ok)
      else match x with
        | some d => (s1.ownLine core fn dom l (patch d off bs), .ok)
        | none =>
          match (s1.setDir l none []).homeReadForMerge 0 fn core dom l with
          | (s2, .ok, d) => (s2.ownLine core fn dom l (patch d off bs), .ok)
          | (s2, st, _) => (s2, st)

/-! ### Abandoned claims (R318) -/

/-- R318. The write of every CLAIM of a core to a line that satisfies `p`, whose grant has not arrived, does not complete. -/
def State.dropClaims (s : State) (core : Nat) (p : Nat → Bool) : State :=
  { s with mem := { s.mem with
      txns := s.mem.txns.map (fun t => if t.req == .claim && t.core == core && p t.line then { t with dropped := true } else t),
      flights := s.mem.flights.map (fun m => if m.claim && m.core == core && p m.line && m.isFill then { m with dropped := true } else m) } }

/-- The transactions of a core run to their ends. -/
def State.settleCore (s : State) (core : Nat) : State :=
  (((s.mem.txns.filter (·.core == core)).map (·.line) ++ (s.mem.flights.filter (·.core == core)).map (·.line)).dedup).foldl (fun t l => t.settled l) s

/-! ### Accesses to a range of function addresses -/

/-- How an access reaches HBM: through a core's line cache, or at the home as an agent (R325's agent code). -/
inductive Via where
  | cache
  | home (agent : Nat)
  deriving DecidableEq, Repr

/-- A read of a physical range, line by line; the first status other than OK. -/
def State.readLines (s : State) (via : Via) (fn core dom who pa n : Nat) : State × Status × List Byte :=
  (linePieces (n / 128 + 2) pa n).foldl
    (fun (t, st, acc) (l, off, k) =>
      match via with
      | .cache => let (t1, st1, b) := t.cacheRead core fn dom l off k who; (t1, firstBad st st1, acc ++ b)
      | .home a => let (t1, st1, b) := t.agentRead a fn core dom l; (t1, firstBad st st1, acc ++ (b.drop off).take k)) (s, .ok, [])

/-- A write of a physical range, line by line: a refused line leaves the others' writes standing (R316). -/
def State.writeLines (s : State) (via : Via) (fn core dom who pa : Nat) (bs : List Byte) : State × Status :=
  (pieces 128 (bs.length / 128 + 2) pa bs).foldl
    (fun (t, st) (a, b) =>
      match via with
      | .cache => let (t1, st1) := t.cacheWrite core fn dom (a / 128) (a % 128) who b; (t1, firstBad st st1)
      | .home g => let (t1, st1) := t.agentWrite g fn core dom (a / 128) (a % 128) b; (t1, firstBad st st1)) (s, .ok)

/-- R33, R282. A read of function addresses: BAD_ADDR outside one valid segment, ABORTED while PD_MEM is off. -/
def State.hbmRead (s : State) (via : Via) (fn core who addr n : Nat) : State × Status × List Byte :=
  if n = 0 then (s, .ok, [])
  else if !s.domOn 3 then (s, .aborted, [])
  else match s.translate fn addr n false with
    | none => (s, .badAddr, [])
    | some (pa, dom) => s.readLines via fn core dom who pa n

/-- R33, R282. A write of function addresses. -/
def State.hbmWrite (s : State) (via : Via) (fn core who addr : Nat) (bs : List Byte) : State × Status :=
  if bs.isEmpty then (s, .ok)
  else if !s.domOn 3 then (s, .aborted)
  else match s.translate fn addr bs.length true with
    | none => (s, .badAddr)
    | some (pa, dom) => s.writeLines via fn core dom who pa bs

end Sys2Proof.Machine
end

