-- ==== Sys2Proof/Machine/Chains.lean ====
section
/-!
DEFINITION. The Reed chains (chapter 06): cells and the budget, the children that tasks build, takes and finishes, marks, rewinds and releases, the link hold,
watermarks, and the chain commands.
-/

namespace Sys2Proof.Machine

/-! ### Access -/

/-- A chain beside its registers. -/
def State.chain (s : State) (c : Nat) : Chain := Map.get s.work.chains {} c

/-- A chain takes contents. -/
def State.setChain (s : State) (c : Nat) (v : Chain) : State := { s with work := { s.work with chains := Map.put {} s.work.chains c v } }

/-- The cells take contents. -/
def State.setCells (s : State) (m : Map Cell) : State := { s with work := { s.work with cells := m } }

/-- A cell takes contents. -/
def State.setCell (s : State) (k : Nat) (v : Cell) : State := s.setCells (Map.insert s.work.cells k v)

/-- The cells of a chain. -/
def State.cellsOf (s : State) (c : Nat) : Map Cell := s.work.cells.filter (fun e => e.2.chain == c)

/-- R186. A chain's occupancy: the number of cells it holds. -/
def State.occ (s : State) (c : Nat) : Nat := (s.cellsOf c).length

/-- The QUEUE page and the SCHED page of a chain are these plus 0x220 and 0x200 (R203). -/
def chainPage (c : Nat) : Nat := 1 + c / 32

/-- R203. The function that holds a chain's page. -/
def State.chainHolder (s : State) (c : Nat) : Nat := s.tripleHolder (chainPage c)

/-- R192. Operations on a chain are held: its page or QUEUE page 0 is quiesced. -/
def State.chainQuiet (s : State) (c : Nat) : Bool := s.quiet 0x220 || s.quiet (0x220 + chainPage c)

/-! ### The budget (R183 to R185) -/

/-- R183. The pool cells a chain holds. -/
def State.poolCells (s : State) (c : Nat) : Nat :=
  match (s.chain c).desc with
  | some d => if s.on (CH_ENABLE c) then s.occ c - d.reserve else s.occ c
  | none => s.occ c

/-- R183. The reserve of a chain while it is enabled. -/
def State.reserveOf (s : State) (c : Nat) : Nat :=
  if s.on (CH_ENABLE c) then ((s.chain c).desc.map (·.reserve)).getD 0 else 0

/-- The chains that have ever been applied. -/
def State.chainKeys (s : State) : List Nat := s.work.chains.map (·.1)

/-- R188. Q_POOL.RES_SUM. -/
def State.resSum (s : State) : Nat := s.chainKeys.foldl (fun n c => n + s.reserveOf c) 0

/-- R188. Q_POOL.FREE. -/
def State.poolFree (s : State) : Nat := 8192 - s.resSum - s.chainKeys.foldl (fun n c => n + s.poolCells c) 0

/-- R188. FN_CELL_USE of a function. -/
def State.cellUse (s : State) (f : Nat) : Nat := s.chainKeys.foldl (fun n c => if s.chainHolder c = f then n + s.poolCells c else n) 0

/-- R183, R185. A chain can have another cell. -/
def State.cellRoom (s : State) (c : Nat) : Bool :=
  match (s.chain c).desc with
  | none => false
  | some d =>
    s.on (CH_ENABLE c) && decide (s.occ c < d.length)
      && (decide (s.occ c < d.reserve) || (s.poolFree != 0 && decide (s.cellUse (s.chainHolder c) < s.get (FN_CELL_CAP (s.chainHolder c)))))

/-- R183. A chain's next cell comes from the shared pool. -/
def State.needsPool (s : State) (c : Nat) : Bool := match (s.chain c).desc with | some d => decide (d.reserve ≤ s.occ c) | none => false

/-- R183. A chain before place `seq` of all that wait could be given a pool cell now. -/
def State.poolAhead (s : State) (c seq d : Nat) : Bool :=
  d != c && s.needsPool d && s.cellRoom d && (s.chain d).busy.isNone && !s.chainQuiet d
    && (match (s.chain d).waiters with | w :: _ => decide (w.1 < seq) | [] => false)

/-- R183, R185. A chain can be given another cell at place `seq` of all that wait: pool cells go first come first served. -/
def State.cellTurn (s : State) (c seq : Nat) : Bool := s.cellRoom c && (!s.needsPool c || !s.chainKeys.any (s.poolAhead c seq))

/-- R183, R185. A new request finds a cell in a chain: behind those that wait for one. -/
def State.cellNow (s : State) (c : Nat) : Bool := (s.chain c).waiters.isEmpty && s.cellTurn c s.work.nextWait

/-- R188. The POOL_LOW edge of a change. -/
def State.poolWatch (s before : State) : State :=
  s.raiseEdge 0x220 0 (decide (before.poolFree ≤ before.get Q_POOL_LOW)) (decide (s.poolFree ≤ s.get Q_POOL_LOW))

/-! ### Watermarks (R186, R187) -/

/-- R186. FULL: every cell held, or a cell request waits. -/
def State.chainFull (s : State) (c : Nat) : Bool :=
  match (s.chain c).desc with
  | none => false
  | some d => s.occ c == d.length || !(s.chain c).waiters.isEmpty

/-- R189. CH_WM_LEVEL. -/
def State.wmLevel (s : State) (c : Nat) : Nat :=
  b2n (decide (s.get (CH_HI c) ≤ s.occ c)) + 2 * b2n (decide (s.occ c ≤ s.get (CH_LO c))) + 4 * b2n (s.chainFull c)

/-- R187. A chain page's CH_WM condition. -/
def State.wmSummary (s : State) (page : Nat) : Bool :=
  (List.range 32).any (fun i => (s.get (CH_WM_STAT (32 * (page - 1) + i)) &&& s.get (CH_WM_EN (32 * (page - 1) + i))) != 0)

/-- R186, R187. Edges of a chain are set; the summary rises. -/
def State.wmEdges (s : State) (c e : Nat) : State :=
  if e = 0 then s
  else
    let s1 := s.set (CH_WM_STAT c) (s.get (CH_WM_STAT c) ||| e)
    if s1.wmSummary (chainPage c) then s1.raise (0x220 + chainPage c) 0 else s1

/-- R186. An operation on a chain, with the edges of its occupancy and of FULL, and the pool's edge. -/
def State.watched (s : State) (c : Nat) (op : State → State) : State :=
  let t := op s
  let hi := decide (s.occ c < s.get (CH_HI c)) && decide (s.get (CH_HI c) ≤ t.occ c)
  let lo := decide (s.get (CH_LO c) < s.occ c) && decide (t.occ c ≤ s.get (CH_LO c))
  let full := !s.chainFull c && t.chainFull c
  (t.wmEdges c (b2n hi + 2 * b2n lo + 4 * b2n full)).poolWatch s

/-- R186. An item is removed by a rollback, a discard, a flush or as VOID: counted, DROP_EDGE. -/
def State.dropped (s : State) (c n : Nat) : State := if n = 0 then s else (s.add (CH_DROP_CNT c) n).wmEdges c 8

/-! ### Those that wait for a cell (R166, R170, R185) -/

/-- R185. One more waits for a cell of a chain, behind all others. -/
def State.awaitCell (s : State) (c : Nat) (w : Waiter) : State :=
  ({ s with work := { s.work with nextWait := s.work.nextWait + 1 } }).watched c fun t =>
    t.setChain c { t.chain c with waiters := (t.chain c).waiters ++ [(s.work.nextWait, w)] }

/-- Some of those that wait for a cell of a chain wait no longer. -/
def State.leaveCell (s : State) (c : Nat) (p : Waiter → Bool) : State :=
  s.setChain c { s.chain c with waiters := (s.chain c).waiters.filter (fun w => !p w.2) }

/-! ### Choices the spec leaves open -/

/-- The first number from `k` on, around a range of `n`, that is not in use. -/
def freeFrom (used : Nat → Bool) (n : Nat) : Nat → Nat → Option Nat
  | _, 0 => none
  | k, f + 1 => if used (k % n) then freeFrom used n (k + 1) f else some (k % n)

/-- R184, R185. A free cell and a free buffer of a chain; which ones is open (assumption 31). The taking is numbered by `nextCell` as it was before. -/
def State.pickCell (s : State) (c length : Nat) : Nat × Nat × State :=
  let (a, s1) := s.drawFree
  let (b, s2) := s1.drawFree
  let mine := s.cellsOf c
  ((freeFrom (fun k => (Map.find s.work.cells k).isSome) 8192 (a % 8192) 8192).getD 0,
   (freeFrom (fun k => mine.any (fun e => e.2.buf == k)) length (b % length) length).getD 0,
   { s2 with work := { s2.work with nextCell := s2.work.nextCell + 1 } })

/-! ### Items (R163, R171 to R175) -/

/-- A field of a header. -/
def hdr (h : List Byte) (off n : Nat) : Nat := leNat ((h.drop off).take n)

/-- R163. An item commits: LEN, the enqueue number, the member and chain, the time and the round go into its header; it is READY. -/
def State.commitCell (s : State) (k : Nat) (x : Cell) (sender : Option (Nat × Nat)) : State :=
  let c := x.chain
  let (m, sc) := sender.getD (s.get GRP_MEMBER, c)
  let e := s.get (CH_ENQ_SEQ c)
  let h := leBytes 4 x.top ++ (x.header.drop 4).take 4 ++ leBytes 4 e ++ leBytes 1 m ++ leBytes 1 sc ++ leBytes 2 0
    ++ leBytes 8 (s.now.ns + s.now.sec % 2 ^ 34 * 2 ^ 30) ++ leBytes 4 (s.get GRP_EPOCH_LO) ++ (x.header.drop 28).take 36
  (s.setCell k { x with state := .ready, header := h, enq := e }).set (CH_ENQ_SEQ c) (e + 1)

/-- R171. `a` is read before `b`: lower PRIO, then lower ENQ_SEQ relative to the chain's current one. -/
def readBefore (cur : Nat) (a b : Cell) : Bool :=
  let pa := hdr a.header 4 1 % 4
  let pb := hdr b.header 4 1 % 4
  let age (x : Cell) := (cur + 2 ^ 32 - x.enq - 1) % 2 ^ 32
  decide (pa < pb) || (pa == pb && decide (age b < age a))

/-- R171. The READY item a sink takes next, and its cell. -/
def State.headItem (s : State) (c : Nat) : Option (Nat × Cell) :=
  ((s.cellsOf c).filter (fun e => e.2.state == .ready)).foldl
    (fun best e => match best with
      | none => some e
      | some b => if readBefore (s.get (CH_ENQ_SEQ c)) e.2 b.2 then some e else best) none

/-- R169, R179, R181, R192. A sink may take from a chain: applied, enabled, takes on, no operation in progress, no link hold. -/
def State.takeOpen (s : State) (c sink : Nat) : Bool :=
  (match (s.chain c).desc with | some d => d.sink == sink | none => false)
    && s.on (CH_ENABLE c) && s.on (CH_TAKE_EN c) && (s.chain c).busy.isNone && !s.on (CH_LINK_HOLD c) && !s.chainQuiet c

/-- R175. The item of a cell is taken. -/
def State.takeCell (s : State) (k : Nat) (x : Cell) : State :=
  (s.setCell k { x with state := .inUse, take := s.get (CH_TAKE_SEQ x.chain) }).add (CH_TAKE_SEQ x.chain) 1

/-- R175. A sequence number is at or after another, modulo 2^32. -/
def atOrAfter (a b : Nat) : Bool := decide ((a + 2 ^ 32 - b) % 2 ^ 32 < 2 ^ 31)

/-- R175, R181. An active mark, or the link hold, retains an item. -/
def State.retained (s : State) (x : Cell) : Bool := x.link || (s.chain x.chain).marks.any (fun m => atOrAfter x.take m.2.2)

/-- R173. A cell and its buffer are freed. -/
def State.freeCell (s : State) (k : Nat) : State := s.setCells (Map.erase s.work.cells k)

/-- R173. An IN_USE item is finished: a pending rewind first, else SPENT where it is retained, else freed. -/
def State.finishItem (s : State) (k : Nat) (x : Cell) : State :=
  if x.state != .inUse then s
  else s.watched x.chain fun s =>
    match x.rewind with
    | some true => (s.freeCell k).dropped x.chain 1
    | some false => s.setCell k { x with state := .ready, rewind := none }
    | none => if s.retained x then s.setCell k { x with state := .spent } else s.freeCell k

/-- R179, R180, R192. A finish is an operation of its chain: it waits for the one in progress, and for the end of a throttle stall. -/
def State.finishWaits (s : State) (c : Nat) : Bool := s.stall || (s.chain c).busy.isSome

/-- R173, R181. An item that its sink has finished: one that the link hold retains was acknowledged all the same, and is held no longer. -/
def State.finishHeld (s : State) (k : Nat) (x : Cell) : State :=
  if x.link then (s.setCell k { x with link := false, state := .inUse }).finishItem k { x with link := false, state := .inUse } else s.finishItem k x

/-- R173, R180. The sink finishes an item, now or once its chain's operation or a stall has ended. -/
def State.finishOf (s : State) (k : Nat) (x : Cell) : State :=
  if s.finishWaits x.chain then s.setChain x.chain { s.chain x.chain with finishes := (s.chain x.chain).finishes ++ [x.id] } else s.finishHeld k x

/-- R173. The sink finishes the item of a cell. -/
def State.finishCell (s : State) (k : Nat) : State := match Map.find s.work.cells k with | some x => s.finishOf k x | none => s

/-- The cell of a taking, with its number. -/
def State.cellOf (s : State) (id : Nat) : Option (Nat × Cell) := s.work.cells.find? (fun e => e.2.id == id)

/-- R170. A cell still holds the item that was being built in it at a taking: a FLUSH may have freed it. -/
def State.building (s : State) (k id : Nat) : Bool := match Map.find s.work.cells k with | some x => x.id == id && x.state == .building | none => false

/-- R180. The finishes that waited at a chain are carried out, in the order in which they came. -/
def State.runFinishes (s : State) (c : Nat) : State :=
  if s.finishWaits c || (s.chain c).finishes.isEmpty then s
  else (s.chain c).finishes.foldl (fun t id => match t.cellOf id with | some (k, x) => t.finishHeld k x | none => t) (s.setChain c { s.chain c with finishes := [] })

/-! ### Children (R165 to R168) -/

/-- The child of an expansion in a chain. -/
def State.child (s : State) (exp c : Nat) : Option Child := s.work.children.find? (fun x => x.exp == exp && x.chain == c)

/-- The children take contents. -/
def State.setChildren (s : State) (l : List Child) : State := { s with work := { s.work with children := l } }

/-- The child of an expansion in a chain takes contents. -/
def State.setChild (s : State) (x : Child) : State :=
  s.setChildren (x :: s.work.children.filter (fun y => !(y.exp == x.exp && y.chain == x.chain)))

/-- An expansion. -/
def State.exp (s : State) (id : Nat) : Option Expansion := s.work.exps.find? (fun e => e.id == id)

/-- An expansion takes contents. -/
def State.setExp (s : State) (x : Expansion) : State :=
  { s with work := { s.work with exps := s.work.exps.map (fun e => if e.id == x.id then x else e) } }

/-- R165. A child is opened in a chain that has room: a cell and a buffer, an empty header. -/
def State.openChild (s : State) (exp c : Nat) : State :=
  match (s.chain c).desc with
  | none => s
  | some d =>
    s.watched c fun s =>
      let (k, b, s1) := s.pickCell c d.length
      (s1.setCell k { id := s.work.nextCell, chain := c, buf := b, state := .building, header := List.replicate 64 0 }).setChild { exp := exp, chain := c, state := .building k }

/-- R167. Every open child of an expansion becomes VOID: its cell is freed at once, DROP_EDGE is set. -/
def State.voidChildren (s : State) (exp : Nat) : State :=
  s.work.children.foldl
    (fun t x =>
      match x.state with
      | .building k => if x.exp = exp then ((t.watched x.chain (·.freeCell k)).setChild { x with state := .void false }).wmEdges x.chain 8 else t
      | _ => t) s

/-- R167. When every task of an expansion has ended, open children become VOID and each VOID child is counted. -/
def State.childrenEnded (s : State) (exp : Nat) : State :=
  let s := s.voidChildren exp
  s.work.children.foldl (fun t x => if x.exp = exp ∧ x.state = .void false then (t.add (CH_DROP_CNT x.chain) 1).setChild { x with state := .void true } else t) s

/-- R165. A CHAIN_COMMIT of task `tidx` reaches an open child: the last one of FANOUT commits it. -/
def State.commitChild (s : State) (e : Expansion) (c tidx : Nat) : State :=
  match s.child e.id c with
  | none => s
  | some x =>
    match x.state with
    | .building k =>
      let commits := if x.commits.contains tidx then x.commits else tidx :: x.commits
      if commits.length < e.fanout then s.setChild { x with commits := commits }
      else match Map.find s.work.cells k with
        | none => s
        | some cell => (s.setChild { x with commits := commits, state := .committed }).commitCell k cell none
    | _ => s

/-! ### Marks, rewind, release (R174 to R178) -/

/-- R176. What a rewind does to an item. -/
def State.rewindCell (s : State) (m e t k : Nat) (x : Cell) : State :=
  let rollback := decide (4 ≤ m)
  let drop := rollback && atOrAfter x.enq e
  match x.state with
  | .building => s
  | .ready => if drop then (s.freeCell k).dropped x.chain 1 else s
  | .inUse => if atOrAfter x.take t then s.setCell k { x with rewind := some drop } else s
  | .spent =>
    if !atOrAfter x.take t then s
    else if drop then (s.freeCell k).dropped x.chain 1
    else s.setCell k { x with state := .ready, rewind := none, link := false }

/-- R178. SPENT items that nothing retains are freed. -/
def State.sweepSpent (s : State) (c : Nat) : State :=
  (s.cellsOf c).foldl (fun t e => if e.2.state = .spent ∧ !t.retained e.2 then t.freeCell e.1 else t) s

/-- R174 to R178, R182, R191. The effect of a chain operation, seen whole. -/
def State.chainEffect (s : State) (c : Nat) (o : ChainOp) : State :=
  s.watched c fun s =>
    let k := s.chain c
    if o.op = 1 then (s.setChain c { k with marks := Map.insert k.marks o.mark (s.get (CH_ENQ_SEQ c), s.get (CH_TAKE_SEQ c)) }).sweepSpent c
    else if o.op = 2 then
      match Map.find k.marks o.mark with
      | none => s
      | some (e, t) => (s.cellsOf c).foldl (fun u x => u.rewindCell o.mark e t x.1 x.2) s
    else if o.op = 3 then (s.setChain c { k with marks := Map.erase k.marks o.mark }).sweepSpent c
    else if o.op = 4 then
      ((s.cellsOf c).foldl (fun u x =>
        if x.2.link then
          let y := { x.2 with link := false }
          if x.2.state = .spent ∧ !(u.retained y) then
            (if x.2.rewind = some true then (u.freeCell x.1).dropped c 1 else u.setCell x.1 { y with state := .ready, rewind := none })
          else u.setCell x.1 y
        else u) s).flag (CH_LINK_HOLD c) false
    else if o.op = 5 then
      ((s.cellsOf c).foldl (fun u x =>
        if x.2.link then
          let y := { x.2 with link := false }
          if x.2.state = .spent ∧ !(u.retained y) then (u.freeCell x.1).dropped c 1 else u.setCell x.1 y
        else u) s).flag (CH_LINK_HOLD c) false
    else
      let s1 := s.setChain c { k with marks := [], stopped := false }
      let s2 := (s1.cellsOf c).foldl (fun u x =>
        match x.2.state with
        | .inUse => u.setCell x.1 { x.2 with rewind := some true }
        | .building =>
          if s.work.children.any (fun y => y.state == .building x.1) then (u.freeCell x.1).wmEdges c 8 else (u.freeCell x.1).dropped c 1
        | _ => (u.freeCell x.1).dropped c 1) s1
      (s2.setChildren (s2.work.children.map (fun x => if x.chain == c && (match x.state with | .building _ => true | _ => false) then { x with state := .void false } else x))).flag
        (CH_LINK_HOLD c) false

/-- R169, R174, R176. The status of a chain operation before it starts. -/
def State.chainOpStatus (s : State) (c op m : Nat) : Status :=
  if op ≤ 3 ∧ 8 ≤ m then .badParam
  else if op ≤ 3 ∧ (s.chain c).desc.isNone then .badAddr
  else if op = 2 ∧ (Map.find (s.chain c).marks m).isNone then .badParam
  else .ok

/-- R179. A chain operation starts. -/
def State.startChainOp (s : State) (c : Nat) (o : ChainOp) : State := (s.setChain c { s.chain c with busy := some o }).flag (CH_CMD_BUSY c) true

/-- R191. A chain page reports a refusal: the chain and a code in ERR_INFO0, CMD_ERR. -/
def State.chainError (s : State) (c code : Nat) (st : Status) : State :=
  (s.capture (0x220 + chainPage c) st (c + 256 * code) 0).raise (0x220 + chainPage c) 2

/-- R191, R192. A CH_CMD of function `fn`: recorded while the chain is quiesced, refused while another is in progress or by its own checks, else started. -/
def chainCmd (fn c op m : Nat) (cmd : Instr) (s : State) : Outcome :=
  mmio fn (0x220 + chainPage c) s fun s =>
    if s.chainQuiet c then s.hold (0x220 + chainPage c) cmd
    else fabric (0x220 + chainPage c) (0x220 + chainPage c) cmd s fun s =>
      if (s.chain c).busy.isSome then .next (s.chainError c op .badParam)
      else match s.chainOpStatus c op m with
        | .ok => .next (s.startChainOp c { op := op, mark := m })
        | st => .next (s.chainError c op st)

/-- CH_CMD_MARK (R174). -/
def execChCmdMark (fn c m : Nat) (s : State) : Outcome := chainCmd fn c 1 m (.chCmdMark fn c m) s

/-- CH_CMD_REWIND (R176). -/
def execChCmdRewind (fn c m : Nat) (s : State) : Outcome := chainCmd fn c 2 m (.chCmdRewind fn c m) s

/-- CH_CMD_RELEASE (R178). -/
def execChCmdRelease (fn c m : Nat) (s : State) : Outcome := chainCmd fn c 3 m (.chCmdRelease fn c m) s

/-- REPLAY_HELD (R182). -/
def execReplayHeld (fn c : Nat) (s : State) : Outcome := chainCmd fn c 4 0 (.replayHeld fn c) s

/-- DISCARD_HELD (R182). -/
def execDiscardHeld (fn c : Nat) (s : State) : Outcome := chainCmd fn c 5 0 (.discardHeld fn c) s

/-- CH_FLUSH (R191). -/
def execChFlush (fn c : Nat) (s : State) : Outcome := chainCmd fn c 6 0 (.chFlush fn c) s

/-! ### Descriptors (R161, R183, R184, R190) -/

/-- R190. The descriptor that the registers of a chain hold. -/
def State.chainRegs (s : State) (c : Nat) : ChainDesc :=
  { length := s.get (CH_LENGTH c), reserve := s.get (CH_RESERVE c), src := s.get (CH_SRC c), srcPort := s.get (CH_SRC_PORT c), sink := s.get (CH_SINK c),
    sinkPort := s.get (CH_SINK_PORT c), slot := s.get (CH_SLOT c), pay := s.pair (CH_PAY_LO c) (CH_PAY_HI c) }

/-- R161, R183, R184, R190, R618. What refuses an APPLY. -/
def State.applyStatus (s : State) (c : Nat) : Status :=
  let d := s.chainRegs c
  if d.length = 0 ∨ d.src = 3 ∨ d.sink = 3 then .badDesc
  else if s.on (CH_ENABLE c) || s.occ c != 0 || !(s.chain c).marks.isEmpty || decide (8192 < d.length) || decide (d.length < d.reserve) || d.slot == 0
      || s.get (CH_HI c) == 0 || decide (d.length < s.get (CH_HI c)) || decide (s.get (CH_HI c) ≤ s.get (CH_LO c)) then .badParam
  else if !s.granted (s.chainHolder c) d.pay (d.length * d.slot * 4096) then .badAddr
  else if 8192 < s.resSum + d.reserve then .refusedCapacity
  else .ok

/-- CH_APPLY (R190): a write of 1 to APPLY. -/
def execChApply (fn c : Nat) (s : State) : Outcome :=
  command fn (0x220 + chainPage c) (.chApply fn c) s fun s =>
    match s.applyStatus c with
    | .ok => .next ((((s.setChain c { s.chain c with desc := some (s.chainRegs c) }).flag (CH_APPLIED c) true).set (CH_ENQ_SEQ c) 0).set (CH_TAKE_SEQ c) 0)
    | st => .next (s.chainError c 15 st)

/-- R183, R190. What refuses a write of 1 to ENABLE. -/
def State.enableStatus (s : State) (c : Nat) : Status :=
  match (s.chain c).desc with
  | none => .badParam
  | some d =>
    if s.on (CH_ENABLE c) then .ok
    else if 8192 < s.resSum + d.reserve ∨ s.poolFree < d.reserve - s.occ c then .refusedCapacity
    else .ok

/-- CH_ENABLE (R183, R190): a write of ENABLE. -/
def execChEnable (fn c : Nat) (en : Bool) (s : State) : Outcome :=
  mmio fn (0x220 + chainPage c) s fun s =>
    if !en then .next ((s.flag (CH_ENABLE c) false).poolWatch s)
    else match s.enableStatus c with
      | .ok => .next ((s.flag (CH_ENABLE c) true).poolWatch s)
      | st => .next (s.chainError c 14 st)

end Sys2Proof.Machine
end

