-- ==== Sys2Proof/Machine/Ecc.lean ====
section
/-!
DEFINITION. The arithmetic of the public-key engine (R395 to R409): modular arithmetic, short Weierstrass curves and ECDSA with the nonces of FIPS 186-5 and
RFC 6979, edwards25519 and Ed25519 of RFC 8032, X25519 of RFC 7748, RSA with the Chinese remainder theorem, Miller–Rabin.
-/

namespace Sys2Proof.Machine

/-! ### Modular arithmetic -/

/-- b^e mod m, over the bits of `e` from the top. -/
def powMod (b e m : Nat) : Nat → Nat
  | 0 => 1 % m
  | k + 1 =>
    let r := powMod b (e / 2) m k
    let r2 := r * r % m
    if e = 0 then 1 % m else if e % 2 = 1 then r2 * b % m else r2

/-- b^e mod m. -/
def modPow (b e m : Nat) : Nat := powMod (b % m) e m (Nat.log2 e + 1)

/-- a − b mod m. -/
def subMod (a b m : Nat) : Nat := (a % m + (m - b % m)) % m

/-- The extended Euclidean recursion: the coefficient of the first argument, modulo `m`. -/
def invLoop (m : Nat) : Nat → Nat → Nat → Nat → Nat → Nat
  | 0, _, _, _, _ => 0
  | k + 1, r0, r1, t0, t1 => if r1 = 0 then (if r0 = 1 then t0 else 0) else invLoop m k r1 (r0 % r1) t1 (subMod t0 (r0 / r1 * t1 % m) m)

/-- The inverse of `a` modulo `m`; 0 where there is none. -/
def invMod (a m : Nat) : Nat := invLoop m (2 * Nat.log2 m + 4) m (a % m) 0 (1 % m)

/-- n = 2^k × odd: the odd part and k. -/
def twoPart : Nat → Nat → Nat × Nat
  | 0, n => (n, 0)
  | f + 1, n => if n % 2 = 0 ∧ n ≠ 0 then let r := twoPart f (n / 2); (r.1, r.2 + 1) else (n, 0)

/-- Squaring `x` up to `k` times meets −1. -/
def meetsMinusOne (m : Nat) : Nat → Nat → Bool
  | 0, _ => false
  | k + 1, x => x == m - 1 || meetsMinusOne m k (x * x % m)

/-- One Miller–Rabin round on an odd n above 3 with a base. -/
def mrRound (n a : Nat) : Bool :=
  let (d, k) := twoPart (Nat.log2 n + 1) (n - 1)
  let x := modPow a d n
  x == 1 || meetsMinusOne n k x

/-- Miller–Rabin rounds with bases 2 + (b mod (n − 3)) from the generator's numbers. -/
def millerRabin (n : Nat) (bases : List Nat) : Bool :=
  if n < 4 then n == 2 || n == 3 else n % 2 == 1 && bases.all (fun b => mrRound n (2 + b % (n - 3)))

/-! ### Short Weierstrass curves -/

/-- The curve P-256 of FIPS 186-5 as p, a, b, Gx, Gy, n. -/
structure Weier where
  p : Nat
  a : Nat
  b : Nat
  gx : Nat
  gy : Nat
  n : Nat
  w : Nat
  deriving DecidableEq, Repr

/-- P-256. -/
def p256 : Weier where
  p := 0xFFFFFFFF00000001000000000000000000000000FFFFFFFFFFFFFFFFFFFFFFFF
  a := 0xFFFFFFFF00000001000000000000000000000000FFFFFFFFFFFFFFFFFFFFFFFC
  b := 0x5AC635D8AA3A93E7B3EBBD55769886BC651D06B0CC53B0F63BCE3C3E27D2604B
  gx := 0x6B17D1F2E12C4247F8BCE6E563A440F277037D812DEB33A0F4A13945D898C296
  gy := 0x4FE342E2FE1A7F9B8EE7EB4A7C0F9E162BCE33576B315ECECBB6406837BF51F5
  n := 0xFFFFFFFF00000000FFFFFFFFFFFFFFFFBCE6FAADA7179E84F3B9CAC2FC632551
  w := 32

/-- A point in Jacobian coordinates; Z = 0 is the point at infinity. -/
abbrev JPoint := Nat × Nat × Nat

/-- Doubling. -/
def Weier.dbl (c : Weier) (q : JPoint) : JPoint :=
  let (x, y, z) := q
  if z = 0 || y = 0 then (1, 1, 0)
  else
    let p := c.p
    let ysq := y * y % p
    let s := 4 * x * ysq % p
    let z2 := z * z % p
    let m := (3 * x * x + c.a * (z2 * z2 % p)) % p
    let nx := subMod (m * m) (2 * s) p
    let ny := subMod (m * subMod s nx p) (8 * (ysq * ysq % p)) p
    (nx, ny, 2 * y * z % p)

/-- Addition. -/
def Weier.add (c : Weier) (q r : JPoint) : JPoint :=
  let (x1, y1, z1) := q
  let (x2, y2, z2) := r
  if z1 = 0 then r
  else if z2 = 0 then q
  else
    let p := c.p
    let z11 := z1 * z1 % p
    let z22 := z2 * z2 % p
    let u1 := x1 * z22 % p
    let u2 := x2 * z11 % p
    let s1 := y1 * z22 * z2 % p
    let s2 := y2 * z11 * z1 % p
    if u1 = u2 then (if s1 = s2 then c.dbl q else (1, 1, 0))
    else
      let h := subMod u2 u1 p
      let rr := subMod s2 s1 p
      let h2 := h * h % p
      let h3 := h * h2 % p
      let v := u1 * h2 % p
      let nx := subMod (rr * rr) (h3 + 2 * v) p
      let ny := subMod (rr * subMod v nx p) (s1 * h3) p
      (nx, ny, h * z1 * z2 % p)

/-- k·Q over the bits of k from the top. -/
def Weier.mulBits (c : Weier) (q : JPoint) : Nat → Nat → JPoint
  | 0, _ => (1, 1, 0)
  | f + 1, k =>
    if k = 0 then (1, 1, 0)
    else let d := c.dbl (c.mulBits q f (k / 2)); if k % 2 = 1 then c.add d q else d

/-- k·Q. -/
def Weier.mul (c : Weier) (k : Nat) (q : JPoint) : JPoint := c.mulBits q (Nat.log2 k + 1) k

/-- The affine coordinates of a point; none at infinity. -/
def Weier.affine (c : Weier) (q : JPoint) : Option (Nat × Nat) :=
  let (x, y, z) := q
  if z = 0 then none
  else
    let zi := invMod z c.p
    let z2 := zi * zi % c.p
    some (x * z2 % c.p, y * (z2 * zi % c.p) % c.p)

/-- A point lies on the curve. -/
def Weier.onCurve (c : Weier) (x y : Nat) : Bool := y * y % c.p == (x * x % c.p * x + c.a * x + c.b) % c.p

/-- R398. The leftmost bits of a digest, as many as the order has. -/
def Weier.hashInt (c : Weier) (d : List Byte) : Nat :=
  let nb := Nat.log2 c.n + 1
  beNat d / 2 ^ (8 * d.length - nb)

/-- ECDSA with nonce `k`: r and s, either of which may be 0. -/
def ecdsaSign (c : Weier) (d k : Nat) (digest : List Byte) : Nat × Nat :=
  match c.affine (c.mul k (c.gx, c.gy, 1)) with
  | none => (0, 0)
  | some (x, _) =>
    let r := x % c.n
    (r, invMod k c.n * (c.hashInt digest + r * d) % c.n)

/-- ECDSA verification of (r, s), both in range, under the public point (qx, qy). -/
def ecdsaVerify (c : Weier) (qx qy r s : Nat) (digest : List Byte) : Bool :=
  let w := invMod s c.n
  let u1 := c.hashInt digest * w % c.n
  let u2 := r * w % c.n
  match c.affine (c.add (c.mul u1 (c.gx, c.gy, 1)) (c.mul u2 (qx, qy, 1))) with
  | none => false
  | some (x, _) => x % c.n == r

/-- RFC 6979. The candidates of the deterministic nonce. -/
def rfc6979Loop (n : Nat) : Nat → List Byte → List Byte → Nat
  | 0, _, _ => 1
  | f + 1, k, v =>
    let v1 := hmac256 k v
    let t := beNat v1
    if 0 < t ∧ t < n then t
    else let k1 := hmac256 k (v1 ++ [0]); rfc6979Loop n f k1 (hmac256 k1 v1)

/-- RFC 6979 with HMAC-SHA-256 on P-256: the nonce of key `d` (32 bytes) and a digest. -/
def rfc6979 (d digest : List Byte) : Nat :=
  let h := beBytes 32 (p256.hashInt digest % p256.n)
  let v0 := List.replicate 32 (1 : Byte)
  let k0 := List.replicate 32 (0 : Byte)
  let k1 := hmac256 k0 (v0 ++ [0] ++ d ++ h)
  let v1 := hmac256 k1 v0
  let k2 := hmac256 k1 (v1 ++ [1] ++ d ++ h)
  rfc6979Loop p256.n 64 k2 (hmac256 k2 v1)

/-! ### edwards25519 and X25519 -/

/-- The field of Curve25519. -/
def p25519 : Nat := 2 ^ 255 - 19

/-- The order of the base point. -/
def l25519 : Nat := 2 ^ 252 + 27742317777372353535851937790883648493

/-- d = −121665/121666. -/
def edD : Nat := subMod 0 (121665 * invMod 121666 p25519 % p25519) p25519

/-- √−1. -/
def sqrtM1 : Nat := modPow 2 ((p25519 - 1) / 4) p25519

/-- A point in extended coordinates (X, Y, Z, T). -/
abbrev EPoint := Nat × Nat × Nat × Nat

/-- The identity. -/
def edZero : EPoint := (0, 1, 1, 0)

/-- Addition, complete. -/
def edAdd (q r : EPoint) : EPoint :=
  let p := p25519
  let (x1, y1, z1, t1) := q
  let (x2, y2, z2, t2) := r
  let a := subMod y1 x1 p * subMod y2 x2 p % p
  let b := (y1 + x1) * (y2 + x2) % p
  let c := 2 * (t1 * t2 % p) * edD % p
  let d := 2 * z1 * z2 % p
  let e := subMod b a p
  let f := subMod d c p
  let g := (d + c) % p
  let h := (b + a) % p
  (e * f % p, g * h % p, f * g % p, e * h % p)

/-- k·Q over the bits of k from the top. -/
def edMulBits (q : EPoint) : Nat → Nat → EPoint
  | 0, _ => edZero
  | f + 1, k =>
    if k = 0 then edZero
    else let d := edMulBits q f (k / 2); let dd := edAdd d d; if k % 2 = 1 then edAdd dd q else dd

/-- k·Q. -/
def edMul (k : Nat) (q : EPoint) : EPoint := edMulBits q (Nat.log2 k + 1) k

/-- Two points are equal. -/
def edEq (q r : EPoint) : Bool :=
  let (x1, y1, z1, _) := q
  let (x2, y2, z2, _) := r
  x1 * z2 % p25519 == x2 * z1 % p25519 && y1 * z2 % p25519 == y2 * z1 % p25519

/-- The x with a given y and parity, if the point is on the curve (RFC 8032). -/
def edRecover (y sign : Nat) : Option Nat :=
  let p := p25519
  let y2 := y * y % p
  let x2 := subMod y2 1 p * invMod (edD * y2 + 1) p % p
  if x2 = 0 then (if sign = 1 then none else some 0)
  else
    let x := modPow x2 ((p + 3) / 8) p
    let x := if x * x % p == x2 then x else x * sqrtM1 % p
    if x * x % p != x2 then none
    else some (if x % 2 = sign then x else p - x)

/-- RFC 8032. Decoding of 32 bytes; the y must be below p. -/
def edDecode (b : List Byte) : Option EPoint :=
  let v := leNat b
  let y := v % 2 ^ 255
  if p25519 ≤ y then none
  else match edRecover y (v / 2 ^ 255 % 2) with
    | none => none
    | some x => some (x, y, 1, x * y % p25519)

/-- RFC 8032. Encoding of a point. -/
def edEncode (q : EPoint) : List Byte :=
  let (x, y, z, _) := q
  let zi := invMod z p25519
  let xa := x * zi % p25519
  leBytes 32 (y * zi % p25519 + (xa % 2) * 2 ^ 255)

/-- The base point. -/
def edBase : EPoint :=
  let y := 4 * invMod 5 p25519 % p25519
  let x := (edRecover y 0).getD 0
  (x, y, 1, x * y % p25519)

/-- RFC 8032, RFC 7748. A scalar, clamped. -/
def clamp25519 (v : Nat) : Nat := (v % 2 ^ 254 / 8) * 8 + 2 ^ 254

/-- RFC 8032. The secret scalar and the prefix of a seed. -/
def edSecret (seed : List Byte) : Nat × List Byte := let h := sha512 seed; (clamp25519 (leNat (h.take 32)), h.drop 32)

/-- RFC 8032. The public key of a seed. -/
def edPublic (seed : List Byte) : List Byte := edEncode (edMul (edSecret seed).1 edBase)

/-- RFC 8032. The signature R ‖ S. -/
def edSign (seed msg : List Byte) : List Byte :=
  let (a, pre) := edSecret seed
  let pk := edEncode (edMul a edBase)
  let r := leNat (sha512 (pre ++ msg)) % l25519
  let rb := edEncode (edMul r edBase)
  let k := leNat (sha512 (rb ++ pk ++ msg)) % l25519
  rb ++ leBytes 32 ((r + k * a) % l25519)

/-- R399. The cofactored equation 8·S·B = 8·R + 8·k·A. -/
def edVerify (pk msg rb : List Byte) (a r : EPoint) (sc : Nat) : Bool :=
  let k := leNat (sha512 (rb ++ pk ++ msg)) % l25519
  edEq (edMul 8 (edMul sc edBase)) (edMul 8 (edAdd r (edMul k a)))

/-- A point has an order that divides 8. -/
def edSmall (q : EPoint) : Bool := edEq (edMul 8 q) edZero

/-- RFC 7748. One step of the ladder at a bit of the scalar. -/
def ladderStep (u : Nat) (s : Nat × Nat × Nat × Nat) (bit : Bool) : Nat × Nat × Nat × Nat :=
  let p := p25519
  let (x2, z2, x3, z3) := if bit then (s.2.2.1, s.2.2.2, s.1, s.2.1) else s
  let a := (x2 + z2) % p
  let aa := a * a % p
  let b := subMod x2 z2 p
  let bb := b * b % p
  let e := subMod aa bb p
  let da := subMod x3 z3 p * a % p
  let cb := (x3 + z3) * b % p
  let t := (da + cb) % p
  let v := subMod da cb p
  let r := (aa * bb % p, e * (aa + 121665 * e) % p, t * t % p, u * (v * v % p) % p)
  if bit then (r.2.2.1, r.2.2.2, r.1, r.2.1) else r

/-- RFC 7748. X25519 of a scalar and a u, both 32 bytes. -/
def x25519 (k u : List Byte) : List Byte :=
  let uu := leNat u % 2 ^ 255 % p25519
  let kk := clamp25519 (leNat k)
  let s := (List.range 255).foldl (fun s i => ladderStep uu s (kk / 2 ^ (254 - i) % 2 == 1)) (1, 0, uu, 1)
  leBytes 32 (s.1 * invMod s.2.1 p25519 % p25519)

/-- RFC 7748. The u values of order dividing 8 below p. -/
def x25519Small : List Nat :=
  [0, 1, 325606250916557431795983626356110631294008115727848805560023387167927233504,
   39382357235489614581723060781553021112529911719440698176882885853963445705823, p25519 - 1]

/-! ### RSA -/

/-- R401. The private operation with p, q, dP, dQ, qInv. -/
def rsaCrt (p q dp dq qi c : Nat) : Nat :=
  let m1 := modPow c dp p
  let m2 := modPow c dq q
  m2 + q * (qi * subMod m1 m2 p % p)

end Sys2Proof.Machine
end

