-- ==== Sys2Proof/Machine/HostIo.lean ====
section
/-!
DEFINITION. What the device does to host memory (R422, R429, R443 to R448): posted writes in issue order, the outcome of reads and flushes, the abort
log, host windows.
-/

namespace Sys2Proof.Machine

/-- R616. A page captures a failure whose detail words its chapter does not lay out: they are open values (assumption 7). -/
def State.captureOpen (s : State) (fn page : Nat) (st : Status) : State :=
  let (a, s1) := s.drawFree
  let (b, s2) := s1.drawFree
  s2.captureFn fn page st a b

/-- R449. An abort: logged or only counted where the log is full, counted, ABORT raised in the function's view. -/
def State.hostAbort (s : State) (fn agent cause iova : Nat) : State :=
  let e : AbortEntry := { fn := fn, agent := agent, cause := cause, status := Status.aborted.code, iova := iova, time := s.now }
  let s1 := if s.host.abortLog.length < 64 then { s with host := { s.host with abortLog := s.host.abortLog ++ [e] } } else s.raise 0x500 5
  (((s1.add HI_ABORT_CNT 1).add (FN_ABORT_CNT fn) 1).raiseFn fn 0x500 4).captureOpen fn 0x500 .aborted

/-- R447, R448. A reported error: counted and raised on the PF's view. -/
def State.aer (s : State) (correctable : Bool) : State :=
  if correctable then (s.add HI_CE_CNT 1).raise 0x500 2 else (s.add HI_UE_CNT 1).raise 0x500 3

/-- R446. What a failed read reports: AER and its abort-log cause. -/
def State.readFailed (s : State) (fn agent iova : Nat) : ReadOutcome → State
  | .data _ => s
  | .unsupported => (s.aer true).hostAbort fn agent 2 iova
  | .timeout => (s.aer false).hostAbort fn agent 4 iova
  | .poisoned => (s.aer true).hostAbort fn agent 5 iova

/-- R429. A cached translation denies an access to a range of IOVAs. An access with no cached translation is issued (assumption 13). -/
def State.hostDenied (s : State) (fn iova n : Nat) (write : Bool) : Bool :=
  s.host.translations.any (fun t =>
    t.fn == fn && decide (iova < (t.page + 1) * 4096) && decide (t.page * 4096 < iova + n) && !(if write then t.write else t.read))

/-- R443. A flush fails: counted, FLUSH_FAIL raised, logged with cause 3. -/
def State.flushFailed (s : State) (fn iova : Nat) : State :=
  (((s.add HI_FLUSH_FAIL_CNT 1).add (FN_FLUSH_CNT fn) 1).raiseFn fn 0x500 6).hostAbort fn 6 3 iova

/-- The first `n` bytes of a list, with zeros where it ends early. -/
def takePad (n : Nat) (bs : List Byte) : List Byte := bs.take n ++ List.replicate (n - bs.length) 0

/-- R429, R446, R448, R468. A read of host memory whose completion is known: data, or ABORTED with its log entry. -/
def State.hostFetch (s : State) (fn agent iova n : Nat) (o : ReadOutcome) : State × Status × List Byte :=
  if n = 0 then (s, .ok, [])
  else if s.resetting fn then (s, .aborted, [])
  else if s.host.waitLinkReset then (s.hostAbort fn agent 4 iova, .aborted, [])
  else if s.hostDenied fn iova n false then (s.hostAbort fn agent 1 iova, .aborted, [])
  else match o with
    | .data bs => (s, .ok, takePad n bs)
    | _ => (s.readFailed fn agent iova o, .aborted, [])

/-- R422, R429, R445, R468. A posted write to host memory, not logged. -/
def State.postWrite (s : State) (fn agent iova : Nat) (bs : List Byte) : State × Status :=
  if bs.isEmpty || s.resetting fn then (s, .ok)
  else if s.host.waitLinkReset then (s.hostAbort fn agent 4 iova, .aborted)
  else if s.hostDenied fn iova bs.length true then (s.hostAbort fn agent 1 iova, .aborted)
  else ({ s with host := { s.host with out := s.host.out ++ [.write fn iova bs] } }, .ok)

/-- R477, R478. An edge of TENANT page 0 that names VF `f`. -/
def State.tenantEdge (s : State) (f bit : Nat) : State :=
  let p := s.page 0x510
  ((s.setPage 0x510 { p with errInfo0 := f }).set TN_ATTN (s.get TN_ATTN ||| 2 ^ (f - 1))).raise 0x510 bit

/-- R472. DL_PI is written to DL_WB, in the PF's address space. -/
def State.dirtyIndex (s : State) (f agent : Nat) : State :=
  (s.postWrite 0 agent (s.pair (TDL_WB_LO f) (TDL_WB_HI f)) (leBytes 4 (s.get (TDL_PI f)))).1

/-- R471 to R474. A page written for VF `f` is logged, unless it is in the filter; a full ring records nothing and sets OVF. -/
def State.dirtyPage (s : State) (f agent page : Nat) : State :=
  let seen := Map.get s.host.dirty [] f
  if seen.contains page then s
  else if (s.get (TDL_PI f) + 2 ^ 32 - s.get (TDL_CI f)) % 2 ^ 32 = s.get (TDL_SIZE f) then
    if s.on (TDL_STAT_OVF f) then s else (s.flag (TDL_STAT_OVF f) true).tenantEdge f 3
  else
    let pi := s.get (TDL_PI f)
    let (s1, _) := s.postWrite 0 agent (s.pair (TDL_BASE_LO f) (TDL_BASE_HI f) + 8 * (pi % s.get (TDL_SIZE f))) (leBytes 8 (page * 4096 + agent))
    let s2 := ({ s1 with host := { s1.host with dirty := Map.put [] s1.host.dirty f ((page :: seen).take 4096) } }.add (TDL_PI f) 1).add (TDL_CNT f) 1
    if (pi + 1) % 64 = 0 then s2.dirtyIndex f agent else s2

/-- R422, R429, R445, R471, R474. A posted write to host memory, and after it the log entries of the pages it touches. -/
def State.hostWrite (s : State) (fn agent iova : Nat) (bs : List Byte) : State × Status :=
  match s.postWrite fn agent iova bs with
  | (t, .ok) =>
    if fn = 0 || 8 < fn || !t.on (TDL_CTRL_EN fn) || t.get (TDL_SIZE fn) = 0 || bs.isEmpty then (t, .ok)
    else ((List.range ((iova + bs.length - 1) / 4096 - iova / 4096 + 1)).foldl (fun u i => u.dirtyPage fn agent (iova / 4096 + i)) t, .ok)
  | r => r

/-- R446. A read of host memory sets out; its completion is a later event. -/
def State.hostReadStart (s : State) (fn agent iova n : Nat) (use : ReadUse) : State :=
  { s with host := { s.host with reads := s.host.reads ++ [⟨s.host.nextRead, fn, agent, iova, n, use⟩], nextRead := s.host.nextRead + 1 } }

/-- R430, R452. A new request of a function to a range of host memory is withheld: HOSTIF page 0 is quiesced, or an ATS invalidation of a page of the range is in progress. -/
def State.hostHeld (s : State) (fn iova n : Nat) : Bool :=
  s.quiet 0x500 || s.host.invalidating.any (fun i => i.2.1 == fn && decide (iova < (i.2.2.1 + i.2.2.2) * 4096) && decide (i.2.2.1 * 4096 < iova + n))

/-- R285, R301, R430. An access of a function to its Peat window waits. -/
def State.peatHeld (s : State) (fn off n : Nat) : Bool := s.quiet (0x307 + fn) || s.hostHeld fn (s.pair (PEAT_BASE_LO fn) (PEAT_BASE_HI fn) + off) n

/-- R449. A function may issue another read: fewer than 768 are outstanding, fewer than FN_RD_CAP of its own. -/
def State.readRoom (s : State) (fn : Nat) : Bool :=
  decide (s.host.reads.length < 768) && decide ((s.host.reads.filter (fun r => r.fn == fn)).length < s.get (FN_RD_CAP fn))

/-- R427. The IOVA of a range of HOST-space offsets through the function's windows; none where it is refused. -/
def State.hostWindow (s : State) (fn addr n : Nat) (write : Bool) : Option Nat :=
  match (List.range 16).find? (fun e =>
    s.on (HW_ATTR_VALID fn e) && decide (s.get (HW_OFF fn e) * 4096 ≤ addr)
      && decide (addr + n ≤ (s.get (HW_OFF fn e) + s.get (HW_ATTR_LEN fn e)) * 4096)) with
  | none => none
  | some e =>
    if write && s.on (HW_ATTR_RO fn e) then none
    else some (s.pair (HW_IOVA_LO fn e) (HW_IOVA_HI fn e) + (addr - s.get (HW_OFF fn e) * 4096))

end Sys2Proof.Machine
end

