-- ==== Sys2Proof/Machine/Sluice.lean ====
section
/-!
DEFINITION. Sluice (chapter 12): key slots and windows, request and completion rings, the descriptors that need no public-key operation, random numbers,
the seal block.
-/

namespace Sys2Proof.Machine

/-- R46. A timestamp in its 8-byte form. -/
def Ts.bytes (t : Ts) : List Byte := leBytes 8 (t.ns + (t.sec % 2 ^ 34) * 2 ^ 30)

/-! ### Key slots (R377 to R384) -/

/-- A key slot. -/
def State.slot (s : State) (i : Nat) : KeySlot := Map.get s.sluice.slots {} i

/-- A key slot takes contents. -/
def State.setSlot (s : State) (i : Nat) (k : KeySlot) : State := { s with sluice := { s.sluice with slots := Map.put {} s.sluice.slots i k } }

/-- R379. The holder of a global slot: the VF whose window it lies in, else the PF. -/
def State.slotHolder (s : State) (i : Nat) : Nat :=
  ((List.range 8).find? (fun v => decide (s.get (FN_WIN_BASE (v + 1)) ≤ i) && decide (i < s.get (FN_WIN_BASE (v + 1)) + s.get (FN_WIN_CNT (v + 1))))).elim 0 (· + 1)

/-- R379. The global number that an index names in a function's window, where it is inside it and the function holds it. -/
def State.globalSlot (s : State) (fn i : Nat) : Option Nat :=
  if fn = 0 then (if i < 512 ∧ s.slotHolder i = 0 then some i else none)
  else if i < s.get (FN_WIN_CNT fn) then some (s.get (FN_WIN_BASE fn) + i) else none

/-- R377. The RSA class. -/
def clsRsa : Nat := 13

/-- R382. A slot is zeroised and EMPTY; a slot of an RSA key empties all 16 of it (assumption 17). -/
def State.clearSlot (s : State) (i : Nat) : State :=
  if (s.slot i).cls = clsRsa then (List.range 16).foldl (fun t j => t.setSlot (i / 16 * 16 + j) {}) s else s.setSlot i {}

/-- R377, R378. A slot takes a key; an RSA key takes 16 slots. -/
def State.writeSlot (s : State) (i cls : Nat) (wrappable : Bool) (key pub : List Byte) : State :=
  if cls = clsRsa then
    let s1 := (List.range 16).foldl (fun t j => (t.clearSlot (i + j)).setSlot (i + j) { cls := clsRsa, wrappable := wrappable }) s
    s1.setSlot i { cls := cls, wrappable := wrappable, key := key, pub := pub }
  else (s.clearSlot i).setSlot i { cls := cls, wrappable := wrappable, key := key, pub := pub }

/-- R377. A key of this length fits its class. -/
def lenFits (cls n : Nat) : Bool :=
  if cls = 1 then n == 16 || n == 32
  else if cls = 2 || cls = 9 then n == 64
  else if cls = 3 then decide (16 ≤ n) && decide (n ≤ 64)
  else if cls = clsRsa then n == 960
  else decide (4 ≤ cls) && decide (cls ≤ 12) && n == 32

/-- A class whose keys the public-key engine checks. -/
def asymmetric (cls : Nat) : Bool := decide (8 ≤ cls) && decide (cls ≤ 13)

/-- R377. The one length of a class; where the class lists several, which one a generated key takes is open (assumption 20). -/
def State.openLen (s : State) (cls : Nat) : Nat × State :=
  if cls = 1 then let (v, s1) := s.drawFree; (if v % 2 = 0 then 16 else 32, s1)
  else if cls = 3 then let (v, s1) := s.drawFree; (16 + v % 49, s1)
  else (if cls = 2 || cls = 9 then 64 else if cls = clsRsa then 960 else 32, s)

/-- What naming a key gives. -/
inductive KeyRes where
  | found (slot : Nat) (k : KeySlot)
  | denied
  | broken (slot : Nat)
  deriving DecidableEq, Repr

/-- R367, R379, R382. The key that an index names for a function, of one of the classes given. -/
def State.findKey (s : State) (fn i : Nat) (classes : List Nat) : KeyRes :=
  match s.globalSlot fn i with
  | none => .denied
  | some g =>
    let k := s.slot g
    if k.bad then .broken g
    else if classes.contains k.cls && !k.key.isEmpty then .found g k else .denied

/-- R384. The key of a global slot that a device function names: held by the PF or by the function, of one of the classes. -/
def State.findGlobal (s : State) (fn g : Nat) (classes : List Nat) : KeyRes :=
  let k := s.slot g
  if 512 ≤ g ∨ !(s.slotHolder g == 0 || s.slotHolder g == fn) then .denied
  else if k.bad then .broken g
  else if classes.contains k.cls && !k.key.isEmpty then .found g k else .denied

/-- R382. An uncorrectable error in a slot: it is cleared, KEY_ERR is raised, page 0 captures INTERNAL with the slot. -/
def State.slotBroken (s : State) (g : Nat) : State :=
  (((s.clearSlot g).raise 0x400 1).capture 0x400 .internal g 0).fault 11 .internal (s.slotHolder g) 0 0 0 g

/-! ### Random numbers (R376) -/

/-- R376. A request of the generator is counted; the 2^20th since it was seeded has it reseeded. -/
def State.countRandom (s : State) : State := { s with sluice := { s.sluice with requests := (s.sluice.requests + 1) % 2 ^ 20 } }

/-- R376. A request of `n` random bytes; none while the generator has failed. -/
def State.random (s : State) (n : Nat) : Option (List Byte) × State :=
  if !s.on RNG_STAT_OK then (none, s) else (some (s.drawRandom n).1, (s.drawRandom n).2.countRandom)

/-- RNG_HEALTH_FAIL (R376). -/
def execRngHealthFail (s : State) : Outcome :=
  event 0x400 s fun s => .next (if s.on RNG_STAT_OK then (s.flag RNG_STAT_OK false).raise 0x400 0 else s)

/-- RNG_RESEED (R376): the count of requests starts again. -/
def execRngReseed (s : State) : Outcome :=
  event 0x400 s fun s => .next (if s.on RNG_STAT_OK then { s with sluice := { s.sluice with requests := 0 } } else s)

/-- RNG_RESTART (R376): the manager restarts the generator, which then runs its start-up tests. -/
def execRngRestart (fn : Nat) (s : State) : Outcome :=
  command fn 0x400 (.rngRestart fn) s fun s => .next { s.flag RNG_STAT_OK false with sluice := { s.sluice with restarting := true } }

/-- RNG_START_UP_TESTS_PASS (R376). -/
def execRngStartUpTestsPass (s : State) : Outcome :=
  event 0x400 s fun s =>
    .next (if s.sluice.restarting then { s.flag RNG_STAT_OK true with sluice := { s.sluice with restarting := false, requests := 0 } } else s)

/-! ### Descriptors (R365 to R371) -/

/-- A field of a descriptor. -/
def Desc.field (d : Desc) (off n : Nat) : Nat := leNat ((d.bytes.drop off).take n)

def Desc.op (d : Desc) : Nat := d.field 0 1
def Desc.link (d : Desc) : Bool := bitOf (d.field 1 1) 0
def Desc.once (d : Desc) : Bool := bitOf (d.field 1 1) 1
def Desc.fence (d : Desc) : Bool := bitOf (d.field 1 1) 2
def Desc.irq (d : Desc) : Bool := bitOf (d.field 1 1) 3
def Desc.cflush (d : Desc) : Bool := bitOf (d.field 1 1) 4
def Desc.key (d : Desc) : Nat := d.field 2 2 % 512
def Desc.tag (d : Desc) : Nat := d.field 4 4
def Desc.src (d : Desc) : Nat := d.field 8 8
def Desc.dst (d : Desc) : Nat := d.field 16 8
def Desc.aux (d : Desc) : Nat := d.field 24 8
def Desc.len (d : Desc) : Nat := d.field 32 4
def Desc.auxLen (d : Desc) : Nat := d.field 36 4
def Desc.srcSp (d : Desc) : Nat := bitsOf (d.field 40 1) 0 2
def Desc.dstSp (d : Desc) : Nat := bitsOf (d.field 40 1) 2 2
def Desc.auxSp (d : Desc) : Nat := bitsOf (d.field 40 1) 4 2
def Desc.p0 (d : Desc) : Nat := d.field 41 1
def Desc.p1 (d : Desc) : Nat := d.field 42 2 % 512
def Desc.iv (d : Desc) : List Byte := (d.bytes.drop 44).take 16

/-- R367, R396. An opcode that the tables list. -/
def opDefined (op : Nat) : Bool :=
  decide (op ≤ 5) || (8 ≤ op && op ≤ 10) || op == 0x10 || (0x18 ≤ op && op ≤ 0x1E) || (0x20 ≤ op && op ≤ 0x2C) || op == 0x30 || op == 0x31

/-- A descriptor by its number. -/
def State.desc (s : State) (id : Nat) : Option Desc := s.sluice.descs.find? (fun d => d.id == id)

/-- A descriptor takes a new form. -/
def State.setDesc (s : State) (d : Desc) : State :=
  { s with sluice := { s.sluice with descs := s.sluice.descs.map (fun e => if e.id == d.id then d else e) } }

/-- R394. A descriptor has work for the public-key engine. -/
def Desc.usesPke (d : Desc) : Bool :=
  (0x20 ≤ d.op && d.op ≤ 0x2C) || d.op == 0x30 || d.op == 0x31 || ([0x18, 0x19, 0x1B, 0x1C].contains d.op && asymmetric d.p0)

/-- R373. A descriptor writes the slot that its P1 names: the key descriptors but KEY_WRAP and KEY_INFO, a shared secret that goes to a slot. -/
def Desc.writesKey (d : Desc) : Bool := [0x18, 0x19, 0x1B, 0x1C, 0x1D].contains d.op || ((d.op == 0x23 || d.op == 0x27) && bitOf d.p0 0)

/-- R373, R378. A descriptor writes a key over 16 slots. -/
def Desc.writesRsa (d : Desc) : Bool := [0x18, 0x19, 0x1B, 0x1C].contains d.op && d.p0 == clsRsa

/-- R373. Two descriptors write one slot. -/
def State.slotShared (s : State) (d e : Desc) : Bool :=
  d.writesKey && e.writesKey && (match s.globalSlot d.fn d.p1, s.globalSlot e.fn e.p1 with
    | some g, some h => g == h || (g / 16 == h / 16 && (d.writesRsa || e.writesRsa || (s.slot g).cls == clsRsa))
    | _, _ => false)

/-- A descriptor has ended. -/
def Desc.ended (d : Desc) : Bool := match d.state with | .ended .. => true | _ => false

/-- R369, R371. What an admitted descriptor waits for in its ring: an earlier one's start where neither chain nor fence is in play, every earlier one's completion for a fence, its
predecessors in its chain (assumption 116). -/
def State.ringWaits (s : State) (d : Desc) : Bool :=
  let before := s.sluice.descs.filter (fun e => e.fn == d.fn && e.ring == d.ring && decide (e.id < d.id))
  (d.fence && !before.isEmpty) || before.any (fun e => (e.chain == 0 && !e.fence && e.state == .admitted) || (e.chain == d.chain && d.chain != 0 && !e.ended))

/-- R373, R394. What an admitted descriptor waits for chip-wide: the earlier ones that go to the public-key engine, where it goes there; those that write its slot. -/
def State.orderWaits (s : State) (d : Desc) : Bool :=
  s.sluice.descs.any (fun e => decide (e.id < d.id) && ((e.state == .admitted && e.usesPke && d.usesPke) || (!e.ended && s.slotShared d e)))

/-- R369, R371, R373, R394. An admitted descriptor may start. -/
def State.mayStart (s : State) (d : Desc) : Bool := d.state == .admitted && !s.ringWaits d && !s.orderWaits d

/-- R363. A descriptor has its status: it takes its place in the order of completion. -/
def State.setEnded (s : State) (d : Desc) (st : Status) (outLen detail : Nat) : State :=
  let t := s.setDesc { d with state := .ended st outLen detail, done := s.sluice.nextDone }
  { t with sluice := { t.sluice with nextDone := s.sluice.nextDone + 1 } }

/-- R369. A chain has a member that failed. -/
def State.failChain (s : State) (c : Nat) : State :=
  { s with sluice := { s.sluice with chains := Map.insert s.sluice.chains c { Map.get s.sluice.chains {} c with failed := true } } }

/-- R369. A descriptor completes; one of a chain that fails ends the later members ABORTED. -/
def State.finishDesc (s : State) (d : Desc) (st : Status) (outLen detail : Nat) : State :=
  let t := s.setEnded d st outLen detail
  if d.chain = 0 || st = .ok then t
  else (t.sluice.descs.filter (fun e => e.chain == d.chain && decide (d.id < e.id))).foldl (fun u e => u.setEnded e .aborted 0 0) (t.failChain d.chain)

/-- R363, R369, R443. The work of a descriptor has ended with a status; a flush that it asks for sets out first where it has written to HOST space. -/
def State.endDesc (s : State) (d : Desc) (st : Status) (outLen detail : Nat) : State :=
  let d := (s.desc d.id).getD d
  let s := if st = .authFail then s.add SL_AUTHFAIL_CNT 1 else s
  match d.cflush, d.hostEnd with
  | true, some e => (s.setDesc { d with state := .flushing st outLen detail }).hostReadStart d.fn 6 ((e - 1) / 4 * 4) 4 (.descFlush d.id)
  | _, _ => s.finishDesc d st outLen detail

/-- R369, R371, R393. A descriptor whose opcode no table lists is refused when it comes to start. -/
def State.refuseOpcode (s : State) (id : Nat) : State :=
  match s.desc id with
  | some d => if !opDefined d.op && s.mayStart d then s.endDesc d .badDesc 0 0 else s
  | none => s

/-- R366, R370. An operand is read: from host memory as its completion gives it, from HBM through the function's segments, or from the chain buffer. -/
def State.readOperand (s : State) (d : Desc) (sp addr n : Nat) (o : ReadOutcome) : State × Status × List Byte :=
  if n = 0 then (s, .ok, [])
  else if sp = 0 then s.hostFetch d.fn 1 addr n o
  else if sp = 1 then s.hbmRead (.home 3) d.fn 0 (2 ^ 31) addr n
  else (s, .ok, (Map.get s.sluice.chains {} d.chain).buffer.take n)

/-- R366, R370. An output is written; the last byte of a HOST-space write is remembered for the flush. -/
def State.writeOutput (s : State) (d : Desc) (sp addr : Nat) (bs : List Byte) : State × Status :=
  if bs.isEmpty then (s, .ok)
  else if sp = 0 then
    let (s1, st) := s.hostWrite d.fn 1 addr bs
    (if st = .ok && !s.resetting d.fn then s1.setDesc { (s1.desc d.id).getD d with hostEnd := some (addr + bs.length) } else s1, st)
  else if sp = 1 then s.hbmWrite (.home 3) d.fn 0 (2 ^ 31) addr bs
  else
    let c := { Map.get s.sluice.chains {} d.chain with buffer := bs }
    ({ s with sluice := { s.sluice with chains := Map.insert s.sluice.chains d.chain c } }, .ok)

/-- The first check that holds gives its status and DETAIL. -/
def firstFail : List (Bool × Status × Nat) → Option (Status × Nat)
  | [] => none
  | (b, st, dt) :: cs => if b then some (st, dt) else firstFail cs

/-- R366. The encoding check of an operand that a descriptor uses: a CHAIN address other than 0 (assumption 116). -/
def spaceChecks (sp addr addrOff : Nat) : List (Bool × Status × Nat) := [(sp == 2 && addr != 0, .badDesc, addrOff)]

/-- R366, R367. The check of every descriptor: code 3 in a field of spaces (assumption 116). -/
def spaceCodes (d : Desc) : List (Bool × Status × Nat) := [(d.srcSp == 3 || d.dstSp == 3 || d.auxSp == 3, .badDesc, 40)]

/-- R370. The checks of a CHAIN operand of `n` bytes that is read: outside a chain, past the bytes written. -/
def State.chainReads (s : State) (d : Desc) (sp n lenOff : Nat) : List (Bool × Status × Nat) :=
  [(sp == 2 && d.chain == 0, .badParam, 40), (sp == 2 && decide ((Map.get s.sluice.chains {} d.chain).buffer.length < n), .badParam, lenOff)]

/-- R13. The bytes of an operand that a data operation accesses: none where LEN is 0. -/
def Desc.atWork (d : Desc) (n : Nat) : Nat := if d.len = 0 then 0 else n

/-- R370. The value checks of a CHAIN output of `n` bytes. -/
def chainWrites (d : Desc) (n : Nat) : List (Bool × Status × Nat) := [(d.dstSp == 2 && (d.chain == 0 || decide (4096 < n)), .badParam, 40)]

/-- R33, R366. The address check of an HBM range. -/
def State.rangeCheck (s : State) (d : Desc) (sp addr n : Nat) (write : Bool) : List (Bool × Status × Nat) :=
  [(sp == 1 && n != 0 && !s.domOn 3, .aborted, 0), (sp == 1 && n != 0 && (s.translate d.fn addr n write).isNone, .badAddr, 0)]

/-- What the work of a descriptor gives: the state, status, output length and DETAIL; no result yet where a public-key operation is to give it. -/
abbrev OpRes := State × Option (Status × Nat × Nat)

/-- R402. The checks in their order: those of the encoding before those of values. -/
def codesFirst (cs : List (Bool × Status × Nat)) : List (Bool × Status × Nat) := cs.filter (fun c => c.2.1 == .badDesc) ++ cs.filter (fun c => c.2.1 != .badDesc)

/-- R366, R367, R396. The operands that a descriptor reads, or writes where `write`: space, address, bytes. An output of a length that only its key gives counts as 960 bytes. -/
def Desc.operands (d : Desc) (write : Bool) : List (Nat × Nat × Nat) :=
  let src (n : Nat) := (d.srcSp, d.src, n)
  let aux := (d.auxSp, d.aux, d.auxLen)
  let dst (n : Nat) := (d.dstSp, d.dst, n)
  let o := d.op
  if d.len = 0 && o != 0x1A && o != 0x1B && o != 0x1C && o != 0x1E then []
  else if write then
    (if o = 1 then [dst (d.len + d.p0)]
     else if (2 ≤ o && o ≤ 5) || o = 0x10 || o = 0x29 then [dst d.len]
     else if o = 8 || o = 9 then [dst 32]
     else if o = 0x1A then [dst 960]
     else if o = 0x1B then (if asymmetric d.p0 then [dst 384] else [])
     else if o = 0x1E || o = 0x20 || o = 0x24 then [dst 64]
     else if o = 0x23 || o = 0x27 then (if bitOf d.p0 0 then [] else [dst 32])
     else if o = 0x28 then [dst 384]
     else if o = 0x30 then [dst 128]
     else [])
  else
    (if o = 1 then [src d.len, aux]
     else if o = 2 then [src (d.len + d.p0), aux]
     else if o = 0x0A || o = 0x1C || o = 0x21 || o = 0x22 || o = 0x25 || o = 0x26 || o = 0x29 || o = 0x31 then [src d.len, aux]
     else if o = 0 || o = 0x10 || o = 0x1A || o = 0x1B || o = 0x1D || o = 0x1E || o = 0x2C then []
     else [src d.len])

/-- R51, R301, R430. Accesses of a descriptor wait for the end of a quiesce or of an invalidation: those to the host, those to HBM lines. -/
def State.operandsHeld (s : State) (d : Desc) (l : List (Nat × Nat × Nat)) : Bool :=
  l.any (fun x => x.2.2 != 0 && ((x.1 == 0 && s.hostHeld d.fn x.2.1 x.2.2) || (x.1 == 1 && s.hbmHeld d.fn x.2.1 x.2.2)))

/-- R13, R51. The work of a descriptor that may start waits for its accesses; the outputs of the public-key engine come later. -/
def State.workHeld (s : State) (d : Desc) : Bool := s.operandsHeld d (d.operands false) || (!d.usesPke && s.operandsHeld d (d.operands true))

/-- The frame of a descriptor's row: nothing while Sluice is halted or the descriptor may not start; the checks in their order; the work. -/
def runDesc (op id : Nat) (s : State) (checks : State → Desc → List (Bool × Status × Nat)) (work : State → Desc → OpRes) : Outcome :=
  event 0x400 s fun s =>
    match s.desc id with
    | none => .next s
    | some d =>
      if d.op ≠ op || !s.mayStart d || s.workHeld d then .next s
      else match firstFail (codesFirst (spaceCodes d ++ checks s d)) with
        | some (st, dt) => .next (s.endDesc d st 0 dt)
        | none =>
          match work s d with
          | (s1, some (st, n, dt)) => .next (s1.endDesc d st n dt)
          | (s1, none) => .next (s1.setDesc { (s1.desc d.id).getD d with state := .inPke })

/-- A work that writes an output where all is well. -/
def State.deliver' (s : State) (d : Desc) (out : List Byte) : OpRes :=
  let (s1, st) := s.writeOutput d d.dstSp d.dst out
  (s1, some (st, if st = .ok then out.length else 0, 0))

/-- A work that uses a key: KEY_DENIED, or INTERNAL on a broken slot. -/
def State.withKey (s : State) (d : Desc) (classes : List Nat) (k : State → Nat → KeySlot → OpRes) : OpRes :=
  match s.findKey d.fn d.key classes with
  | .denied => (s, some (.keyDenied, 0, 0))
  | .broken g => (s.slotBroken g, some (.internal, 0, 0))
  | .found g x => k s g x

/-- A work that reads its source. -/
def State.withSrc (s : State) (d : Desc) (n : Nat) (o : ReadOutcome) (k : State → List Byte → OpRes) : OpRes :=
  match s.readOperand d d.srcSp d.src n o with
  | (s1, .ok, b) => k s1 b
  | (s1, st, _) => (s1, some (st, 0, 0))

/-- A work that reads its auxiliary operand. -/
def State.withAux (s : State) (d : Desc) (o : ReadOutcome) (k : State → List Byte → OpRes) : OpRes :=
  match s.readOperand d d.auxSp d.aux d.auxLen o with
  | (s1, .ok, b) => k s1 b
  | (s1, st, _) => (s1, some (st, 0, 0))

/-- The checks of a data operation: source of `n` bytes, output of `m` bytes. -/
def State.dataChecks (s : State) (d : Desc) (n m : Nat) : List (Bool × Status × Nat) :=
  spaceChecks d.srcSp d.src 8 ++ spaceChecks d.dstSp d.dst 16 ++ s.chainReads d d.srcSp n 32 ++ chainWrites d m

/-- The range checks of a data operation, after its key check; none on no work (R13). -/
def State.ranges (s : State) (d : Desc) (n m : Nat) : Option (Status × Nat) :=
  if d.len = 0 then none else firstFail (s.rangeCheck d d.srcSp d.src n false ++ s.rangeCheck d d.dstSp d.dst m true)

/-- A symmetric operation on LEN bytes with a key: key, ranges, no work on LEN 0, source, output. -/
def State.cipherWork (s : State) (d : Desc) (classes : List Nat) (o : ReadOutcome) (f : KeySlot → List Byte → List Byte) : OpRes :=
  s.withKey d classes fun s _ k =>
    match s.ranges d d.len d.len with
    | some (st, dt) => (s, some (st, 0, dt))
    | none => if d.len = 0 then (s, some (.ok, 0, 0)) else s.withSrc d d.len o fun s b => s.deliver' d (f k b)

/-- DESC_NOP (R367). -/
def execDescNop (id : Nat) (s : State) : Outcome := runDesc 0 id s (fun _ _ => []) fun s _ => (s, some (.ok, 0, 0))

/-- R367. The parameter checks of GCM. -/
def gcmChecks (d : Desc) : List (Bool × Status × Nat) :=
  [((d.iv.drop 12).any (· != 0), .badParam, 56), (decide (d.p0 < 12) || decide (16 < d.p0), .badParam, 41)]

/-- GCM_ENC (R367, R368): ciphertext, then the tag. -/
def execGcmEnc (id : Nat) (src aux : ReadOutcome) (s : State) : Outcome :=
  runDesc 1 id s
    (fun s d => s.dataChecks d d.len (d.len + d.p0) ++ spaceChecks d.auxSp d.aux 24 ++ gcmChecks d ++ s.chainReads d d.auxSp (d.atWork d.auxLen) 36)
    fun s d => s.withKey d [1] fun s _ k =>
      match s.ranges d d.len (d.len + d.p0) with
      | some (st, dt) => (s, some (st, 0, dt))
      | none =>
        if d.len = 0 then (s, some (.ok, 0, 0))
        else s.withSrc d d.len src fun s b => s.withAux d aux fun s a =>
          let (c, t) := gcmEncrypt k.key (d.iv.take 12) a b
          s.deliver' d (c ++ t.take d.p0)

/-- GCM_DEC (R367, R368): the plaintext, or zeros over DST and AUTH_FAIL. -/
def execGcmDec (id : Nat) (src aux : ReadOutcome) (s : State) : Outcome :=
  runDesc 2 id s
    (fun s d => s.dataChecks d (d.atWork (d.len + d.p0)) d.len ++ spaceChecks d.auxSp d.aux 24 ++ gcmChecks d ++ s.chainReads d d.auxSp (d.atWork d.auxLen) 36)
    fun s d => s.withKey d [1] fun s _ k =>
      match s.ranges d (d.len + d.p0) d.len with
      | some (st, dt) => (s, some (st, 0, dt))
      | none =>
        if d.len = 0 then (s, some (.ok, 0, 0))
        else s.withSrc d (d.len + d.p0) src fun s b => s.withAux d aux fun s a =>
          let (p, t) := gcmDecrypt k.key (d.iv.take 12) a (b.take d.len)
          if t.take d.p0 = b.drop d.len then s.deliver' d p
          else
            let (s1, st) := s.writeOutput d d.dstSp d.dst (List.replicate d.len 0)
            (s1, some (if st = .ok then .authFail else st, 0, 0))

/-- CTR (R367). -/
def execCtr (id : Nat) (src : ReadOutcome) (s : State) : Outcome :=
  runDesc 3 id s (fun s d => s.dataChecks d d.len d.len) fun s d => s.cipherWork d [1] src fun k b => aesCtr k.key d.iv b

/-- R367. The length bounds of an XTS data unit. -/
def xtsChecks (d : Desc) : List (Bool × Status × Nat) := [(d.len != 0 && (decide (d.len < 16) || decide (16777216 < d.len)), .badParam, 32)]

/-- XTS_ENC (R367). -/
def execXtsEnc (id : Nat) (src : ReadOutcome) (s : State) : Outcome :=
  runDesc 4 id s (fun s d => s.dataChecks d d.len d.len ++ xtsChecks d) fun s d =>
    s.cipherWork d [2] src fun k b => xtsEncrypt (k.key.take 32) (k.key.drop 32) d.iv b

/-- XTS_DEC (R367). -/
def execXtsDec (id : Nat) (src : ReadOutcome) (s : State) : Outcome :=
  runDesc 5 id s (fun s d => s.dataChecks d d.len d.len ++ xtsChecks d) fun s d =>
    s.cipherWork d [2] src fun k b => xtsDecrypt (k.key.take 32) (k.key.drop 32) d.iv b

/-- SHA256 (R367). -/
def execSha256 (id : Nat) (src : ReadOutcome) (s : State) : Outcome :=
  runDesc 8 id s (fun s d => s.dataChecks d d.len 32) fun s d =>
    match s.ranges d d.len 32 with
    | some (st, dt) => (s, some (st, 0, dt))
    | none => if d.len = 0 then (s, some (.ok, 0, 0)) else s.withSrc d d.len src fun s b => s.deliver' d (sha256 b)

/-- HMAC (R367): a MAC of P0 bytes. -/
def execHmac (id : Nat) (src : ReadOutcome) (s : State) : Outcome :=
  runDesc 9 id s (fun s d => s.dataChecks d d.len d.p0 ++ [(decide (d.p0 < 16) || decide (32 < d.p0), .badParam, 41)]) fun s d =>
    s.withKey d [3] fun s _ k =>
      match s.ranges d d.len d.p0 with
      | some (st, dt) => (s, some (st, 0, dt))
      | none => if d.len = 0 then (s, some (.ok, 0, 0)) else s.withSrc d d.len src fun s b => s.deliver' d ((hmac256 k.key b).take d.p0)

/-- HMAC_CHK (R367): AUTH_FAIL on a mismatch; nothing is written. -/
def execHmacChk (id : Nat) (src aux : ReadOutcome) (s : State) : Outcome :=
  runDesc 10 id s
    (fun s d => spaceChecks d.srcSp d.src 8 ++ spaceChecks d.auxSp d.aux 24 ++ s.chainReads d d.srcSp d.len 32
      ++ [(decide (d.auxLen < 16) || decide (32 < d.auxLen), .badParam, 36)] ++ s.chainReads d d.auxSp (d.atWork d.auxLen) 36)
    fun s d => s.withKey d [3] fun s _ k =>
      if d.len = 0 then (s, some (.ok, 0, 0))
      else match firstFail (s.rangeCheck d d.srcSp d.src d.len false ++ s.rangeCheck d d.auxSp d.aux d.auxLen false) with
        | some (st, dt) => (s, some (st, 0, dt))
        | none => s.withSrc d d.len src fun s b => s.withAux d aux fun s m =>
            (s, some (if (hmac256 k.key b).take d.auxLen = m then .ok else .authFail, 0, 0))

/-- RANDOM (R367, R376). -/
def execRandom (id : Nat) (s : State) : Outcome :=
  runDesc 0x10 id s
    (fun _ d => spaceChecks d.dstSp d.dst 16 ++ [(decide (65536 < d.len), .badParam, 32)] ++ chainWrites d d.len)
    fun s d =>
      if d.len = 0 then (s, some (.ok, 0, 0))
      else match firstFail (s.rangeCheck d d.dstSp d.dst d.len true) with
        | some (st, dt) => (s, some (st, 0, dt))
        | none => match s.random d.len with
          | (none, s) => (s, some (.internal, 0, 0))
          | (some b, s) => s.deliver' d b

/-! ### Key descriptors (R377 to R383, R406, R407) -/

/-- R377. The class named by P0 is one a key can be loaded into. -/
def classCheck (d : Desc) : List (Bool × Status × Nat) := [(decide (d.p0 = 0) || decide (13 < d.p0), .badDesc, 41)]

/-- R394. A public-key operation joins its queue. -/
def State.enqueue (s : State) (j : PkeJob) : State :=
  if j.long then { s with sluice := { s.sluice with long := s.sluice.long ++ [j] } }
  else { s with sluice := { s.sluice with short := s.sluice.short ++ [j] } }

/-- R378, R379. The slot a key descriptor writes: held by the function, aligned for an RSA key. -/
def State.target (s : State) (d : Desc) : Except (Status × Nat) Nat :=
  match s.globalSlot d.fn d.p1 with
  | none => .error (.keyDenied, 0)
  | some g => if d.p0 = clsRsa ∧ g % 16 ≠ 0 then .error (.badParam, 42) else .ok g

/-- R406. Key material for a slot: written at once, or checked first by the public-key engine. -/
def State.installKey (s : State) (d : Desc) (g cls : Nat) (wrappable : Bool) (key : List Byte) : OpRes :=
  if asymmetric cls then
    (s.enqueue { use := .desc d.id, fn := d.fn, op := d.op, key := key, cls := cls, target := g, wrappable := wrappable, long := cls == clsRsa }, none)
  else (s.writeSlot g cls wrappable key [], some (.ok, 0, 0))

/-- KEY_LOAD (R367, R377, R381). -/
def execKeyLoad (id : Nat) (src : ReadOutcome) (s : State) : Outcome :=
  runDesc 0x18 id s
    (fun s d => spaceChecks d.srcSp d.src 8 ++ classCheck d ++ [(!lenFits d.p0 d.len, .badParam, 32)] ++ s.chainReads d d.srcSp d.len 32)
    fun s d => match s.target d with
      | .error (st, dt) => (s, some (st, 0, dt))
      | .ok g =>
        if d.p0 ≠ 9 && d.p0 ≠ 11 && !s.on (FN_WIN_PLAIN_OK d.fn) then (s, some (.keyDenied, 0, 0))
        else match firstFail (s.rangeCheck d d.srcSp d.src d.len false) with
          | some (st, dt) => (s, some (st, 0, dt))
          | none => s.withSrc d d.len src fun s b => s.installKey d g d.p0 (bitOf ((d.iv.headD 0).toNat) 0) b

/-- KEY_UNWRAP (R367): an AES-KWP blob is unwrapped into a slot; AUTH_FAIL where its check fails. -/
def execKeyUnwrap (id : Nat) (src : ReadOutcome) (s : State) : Outcome :=
  runDesc 0x19 id s
    (fun s d => spaceChecks d.srcSp d.src 8 ++ classCheck d ++ [(decide (d.len = 0), .badParam, 32)] ++ s.chainReads d d.srcSp d.len 32)
    fun s d => s.withKey d [4] fun s _ k => match s.target d with
      | .error (st, dt) => (s, some (st, 0, dt))
      | .ok g => match firstFail (s.rangeCheck d d.srcSp d.src d.len false) with
        | some (st, dt) => (s, some (st, 0, dt))
        | none => s.withSrc d d.len src fun s b => match kwpUnwrap k.key b with
          | none => (s, some (.authFail, 0, 0))
          | some m => if lenFits d.p0 m.length then s.installKey d g d.p0 (bitOf ((d.iv.headD 0).toNat) 0) m else (s, some (.badParam, 0, 32))

/-- KEY_WRAP (R367): a WRAPPABLE slot leaves as an AES-KWP blob. -/
def execKeyWrap (id : Nat) (s : State) : Outcome :=
  runDesc 0x1A id s (fun _ d => spaceChecks d.dstSp d.dst 16 ++ chainWrites d 0) fun s d => s.withKey d [4] fun s _ k =>
    match s.findKey d.fn d.p1 [1, 2, 3, 4, 5, 6, 7, 8, 9, 10, 11, 12, 13] with
    | .denied => (s, some (.keyDenied, 0, 0))
    | .broken g => (s.slotBroken g, some (.internal, 0, 0))
    | .found _ x =>
      if !x.wrappable then (s, some (.keyDenied, 0, 0))
      else
        let out := kwpWrap k.key x.key
        match firstFail (s.rangeCheck d d.dstSp d.dst out.length true) with
        | some (st, dt) => (s, some (st, 0, dt))
        | none => s.deliver' d out

/-- KEY_GEN (R367, R407): a symmetric key is drawn at once; the other classes are generated by the public-key engine. -/
def execKeyGen (id : Nat) (s : State) : Outcome :=
  runDesc 0x1B id s (fun _ d => classCheck d ++ (if asymmetric d.p0 then spaceChecks d.dstSp d.dst 16 ++ chainWrites d 0 else [])) fun s d =>
    match s.target d with
    | .error (st, dt) => (s, some (st, 0, dt))
    | .ok g =>
      let wrappable := bitOf ((d.iv.headD 0).toNat) 0
      let outLen := if d.p0 = 9 || d.p0 = 11 then 0 else if d.p0 = 8 then 64 else if d.p0 = clsRsa then 384 else 32
      if d.p0 = 9 || d.p0 = 11 then (s, some (.badDesc, 0, 41))
      else if asymmetric d.p0 then
        match firstFail (s.rangeCheck d d.dstSp d.dst outLen true) with
        | some (st, dt) => (s, some (st, 0, dt))
        | none => (s.enqueue { use := .desc d.id, fn := d.fn, op := 0x1B, cls := d.p0, target := g, wrappable := wrappable, long := d.p0 == clsRsa }, none)
      else
        let (n, s1) := s.openLen d.p0
        match s1.random n with
        | (none, s2) => (s2, some (.internal, 0, 0))
        | (some b, s2) => (s2.writeSlot g d.p0 wrappable b [], some (.ok, 0, 0))

/-- KEY_DERIVE (R367, R406): HKDF-SHA-256 into a slot that never leaves the device. -/
def execKeyDerive (id : Nat) (src aux : ReadOutcome) (s : State) : Outcome :=
  runDesc 0x1C id s
    (fun s d => spaceChecks d.srcSp d.src 8 ++ spaceChecks d.auxSp d.aux 24 ++ classCheck d
      ++ [(decide (d.p0 = clsRsa), .badParam, 41), (decide (256 < d.len), .badParam, 32), (decide (64 < d.auxLen), .badParam, 36)]
      ++ s.chainReads d d.srcSp d.len 32 ++ s.chainReads d d.auxSp d.auxLen 36)
    fun s d => s.withKey d [5] fun s _ k => match s.target d with
      | .error (st, dt) => (s, some (st, 0, dt))
      | .ok g => match firstFail (s.rangeCheck d d.srcSp d.src d.len false ++ s.rangeCheck d d.auxSp d.aux d.auxLen false) with
        | some (st, dt) => (s, some (st, 0, dt))
        | none => s.withSrc d d.len src fun s info => s.withAux d aux fun s salt =>
            let (n, s1) := s.openLen d.p0
            s1.installKey d g d.p0 false (hkdf salt k.key info n)

/-- KEY_CLEAR (R382). -/
def execKeyClear (id : Nat) (s : State) : Outcome :=
  runDesc 0x1D id s (fun _ _ => []) fun s d =>
    match s.globalSlot d.fn d.p1 with
    | none => (s, some (.keyDenied, 0, 0))
    | some g => (s.clearSlot g, some (.ok, 0, 0))

/-- R383. The information record of a slot. -/
def keyInfo (k : KeySlot) : List Byte :=
  let pub := if k.cls = 9 || k.cls = 11 then k.key.take 32 else takePad 32 k.pub
  leBytes 1 k.cls ++ leBytes 1 (b2n (k.cls != 0) + 2 * b2n k.wrappable) ++ leBytes 2 (if k.cls = clsRsa then 960 else k.key.length) ++ leBytes 4 0 ++ pub
    ++ List.replicate 24 0

/-- KEY_INFO (R383). -/
def execKeyInfo (id : Nat) (s : State) : Outcome :=
  runDesc 0x1E id s (fun _ d => spaceChecks d.dstSp d.dst 16 ++ chainWrites d 64) fun s d =>
    match s.globalSlot d.fn d.p1 with
    | none => (s, some (.keyDenied, 0, 0))
    | some g =>
      match firstFail (s.rangeCheck d d.dstSp d.dst 64 true) with
      | some (st, dt) => (s, some (st, 0, dt))
      | none => if (s.slot g).bad then (s.slotBroken g, some (.internal, 0, 0)) else s.deliver' d (keyInfo (s.slot g))

/-! ### Seals (R385 to R388) -/

/-- R386. Bytes 0x00 to 0x3F of a seal block. -/
def State.sealHead (s : State) (st : Status) (alg fn slot len : Nat) (digest : List Byte) : List Byte :=
  leBytes 4 0x4C414553 ++ leBytes 1 1 ++ leBytes 1 alg ++ leBytes 1 st.code ++ leBytes 1 0 ++ leBytes 4 (s.get GRP_ID) ++ leBytes 1 (s.get GRP_MEMBER)
    ++ leBytes 1 fn ++ leBytes 2 slot ++ leBytes 4 (s.get GRP_EPOCH_LO) ++ leBytes 4 len ++ s.now.bytes ++ takePad 32 digest

/-- The global number of the slot that a key index would name. -/
def State.namedSlot (s : State) (fn i : Nat) : Nat := if fn = 0 then i else s.get (FN_WIN_BASE fn) + i

/-- R387. What a seal of a record comes to before signing: the head of its block, and the key where all is well. -/
def State.sealPrepare (s : State) (fn key alg len : Nat) (read : State → State × Status × List Byte) : State × List Byte × Status × Option KeySlot :=
  let head (u : State) (st : Status) (dg : List Byte) : List Byte := u.sealHead st alg fn (s.namedSlot fn key) len dg
  match s.findKey fn key [if alg = 0 then 8 else 10], read s with
  | .broken g, (s1, .ok, b) => let s2 := s1.slotBroken g; (s2, head s2 .internal (sha256 b), .internal, none)
  | .broken g, (s1, _, _) => let s2 := s1.slotBroken g; (s2, head s2 .internal [], .internal, none)
  | .denied, (s1, .ok, b) => (s1, head s1 .keyDenied (sha256 b), .keyDenied, none)
  | .denied, (s1, _, _) => (s1, head s1 .keyDenied [], .keyDenied, none)
  | .found _ k, (s1, .ok, b) =>
    if s1.on RNG_STAT_OK then (s1, head s1 .ok (sha256 b), .ok, some k) else (s1, head s1 .internal (sha256 b), .internal, none)
  | .found _ _, (s1, st, _) => (s1, head s1 st [], st, none)

/-- R387. The public-key operation that signs a seal block's head. -/
def sealJob (use : PkeUse) (fn alg : Nat) (k : KeySlot) (head : List Byte) : PkeJob :=
  if alg = 0 then { use := use, fn := fn, op := 0x20, key := k.key, src := sha256 head }
  else { use := use, fn := fn, op := 0x24, key := k.key, src := head }

/-- SEAL_DESC (R387): the descriptor SEAL hashes a record and signs the head of its block. A refusal of its DST, or of a code (R393), writes no block; every other failure writes one. -/
def execSealDesc (id : Nat) (src : ReadOutcome) (s : State) : Outcome :=
  runDesc 0x30 id s
    (fun _ d => [(decide (1 < d.p0), .badDesc, 41)] ++ spaceChecks d.dstSp d.dst 16 ++ chainWrites d 128 ++ [(decide (d.dst % 128 ≠ 0), .badAddr, 16)])
    fun s d =>
      let bad := firstFail (spaceChecks d.srcSp d.src 8 ++ s.chainReads d d.srcSp d.len 32 ++ s.rangeCheck d d.srcSp d.src d.len false)
      if d.len = 0 then
        match bad with
        | some (st, dt) => (s, some (st, 0, dt))
        | none => s.withKey d [if d.p0 = 0 then 8 else 10] fun s _ _ => (s, some (.ok, 0, 0))
      else match firstFail (s.rangeCheck d d.dstSp d.dst 128 true) with
        | some (st, dt) => (s, some (st, 0, dt))
        | none =>
          let (s1, head, st, k) := s.sealPrepare d.fn d.key d.p0 d.len fun u =>
            match bad with
            | some (st, _) => (u, st, [])
            | none => u.readOperand d d.srcSp d.src d.len src
          match k with
          | some k => (s1.enqueue (sealJob (.sealDesc d.id head) d.fn d.p0 k head), none)
          | none =>
            let (s2, w) := s1.writeOutput d d.dstSp d.dst (head ++ List.replicate 64 0)
            (s2, some (if w = .ok then st else w, if w = .ok then 128 else 0, match bad with | some (_, dt) => dt | none => 0))

/-- SEAL_CHK (R388): header, digest, then the signature. -/
def execSealChk (id : Nat) (src aux : ReadOutcome) (s : State) : Outcome :=
  runDesc 0x31 id s
    (fun s d => spaceChecks d.srcSp d.src 8 ++ spaceChecks d.auxSp d.aux 24 ++ s.chainReads d d.srcSp d.len 32
      ++ [(decide (d.auxLen ≠ 128), .badParam, 36)] ++ s.chainReads d d.auxSp (d.atWork d.auxLen) 36)
    fun s d => s.withKey d [9, 11] fun s _ k =>
      if d.len = 0 then (s, some (.ok, 0, 0))
      else match firstFail (s.rangeCheck d d.srcSp d.src d.len false ++ s.rangeCheck d d.auxSp d.aux d.auxLen false) with
        | some (st, dt) => (s, some (st, 0, dt))
        | none => s.withSrc d d.len src fun s b => s.withAux d aux fun s blk =>
            let alg := leNat ((blk.drop 5).take 1)
            if leNat (blk.take 4) ≠ 0x4C414553 || leNat ((blk.drop 4).take 1) ≠ 1 || leNat ((blk.drop 6).take 1) ≠ 0
                || alg ≠ (if k.cls = 9 then 0 else 1) then (s, some (.authFail, 0, 1))
            else if (blk.drop 0x20).take 32 ≠ sha256 b then (s, some (.authFail, 0, 2))
            else if alg = 0 then
              (s.enqueue { use := .sealChk d.id, fn := d.fn, op := 0x21, key := k.key, src := sha256 (blk.take 64), aux := blk.drop 64 }, none)
            else (s.enqueue { use := .sealChk d.id, fn := d.fn, op := 0x25, key := k.key, src := blk.take 64, aux := blk.drop 64 }, none)

/-! ### Rings (R360 to R364, R391, R438) -/

/-- R361. What a doorbell does, by its value, the accepted index, the other index and the size. -/
inductive Bell where
  | repeated | accepted | rejected
  deriving DecidableEq, Repr

/-- R361, R438. The three cases of a doorbell write `p`. -/
def bell (p cur other size : Nat) : Bell :=
  if p = cur then .repeated
  else if (p + 2 ^ 32 - cur) % 2 ^ 32 ≤ size ∧ (p + 2 ^ 32 - other) % 2 ^ 32 ≤ size then .accepted
  else .rejected

/-- R363. The three cases for an index of consumed entries: it may move up to the producer. -/
def bellConsume (p cur prod : Nat) : Bell :=
  if p = cur then .repeated
  else if (p + 2 ^ 32 - cur) % 2 ^ 32 ≤ (prod + 2 ^ 32 - cur) % 2 ^ 32 then .accepted
  else .rejected

/-- RQ_DOORBELL (R361): function `fn` writes `p` to RQ_PI of request ring `r` of function `f`. -/
def execRqDoorbell (fn f r p : Nat) (s : State) : Outcome :=
  mmio fn (0x401 + f) s fun s =>
    if (s.stall || s.quiet 0x400 || s.quiet (0x401 + f) || s.behind (0x401 + f)) then s.hold (0x401 + f) (.rqDoorbell fn f r p)
    else if !s.on (RQ_CFG_ENABLE f r) then .next s
    else match bell (p % 2 ^ 32) (s.get (RQ_PI f r)) (s.get (RQ_CI f r)) (s.get (RQ_SIZE f r)) with
      | .repeated => .next s
      | .accepted => .next (s.set (RQ_PI f r) p)
      | .rejected => .next ((s.raise (0x401 + f) 5).capture (0x401 + f) .badParam r p)

/-- R362. The completion entries of a ring that descriptors have reserved or filled. -/
def State.cqReserved (s : State) (f r : Nat) : Nat :=
  s.get (CQ_PI f r) + (s.sluice.descs.filter (fun d => d.fn == f && d.cq == r)).length

/-- R362. A completion ring is full. -/
def State.cqFull (s : State) (f r : Nat) : Bool :=
  s.on (CQ_CFG_ENABLE f r) && (s.cqReserved f r + 2 ^ 32 - s.get (CQ_CI f r)) % 2 ^ 32 == s.get (CQ_SIZE f r)

/-- CQ_DOORBELL (R363): consumed completion entries are returned. -/
def execCqDoorbell (fn f r p : Nat) (s : State) : Outcome :=
  mmio fn (0x401 + f) s fun s =>
    if (s.stall || s.quiet 0x400 || s.quiet (0x401 + f) || s.behind (0x401 + f)) then s.hold (0x401 + f) (.cqDoorbell fn f r p)
    else if !s.on (CQ_CFG_ENABLE f r) then .next s
    else match bellConsume (p % 2 ^ 32) (s.get (CQ_CI f r)) (s.get (CQ_PI f r)) with
      | .repeated => .next s
      | .accepted => .next (s.set (CQ_CI f r) p)
      | .rejected => .next ((s.raise (0x401 + f) 5).capture (0x401 + f) .badParam r p)

/-- A request ring's state beside its registers. -/
def State.reqRing (s : State) (f r : Nat) : ReqRing := Map.get s.sluice.rings {} (4 * f + r)

/-- A request ring takes a state. -/
def State.setReqRing (s : State) (f r : Nat) (v : ReqRing) : State :=
  { s with sluice := { s.sluice with rings := Map.put {} s.sluice.rings (4 * f + r) v } }

/-- RQ_ENABLE (R391, R372): a write of RQ_CFG with ENABLE `en` and CQ `cq`. -/
def execRqEnable (fn f r cq : Nat) (en : Bool) (s : State) : Outcome :=
  mmio fn (0x401 + f) s fun s =>
    let v := cq % 4 + 256 * b2n en
    let refuse := s.refuseWrite fn (RQ_CFG_CQ f r).addr v
    if s.on (RQ_CFG_ENABLE f r) then
      if cq % 4 ≠ s.get (RQ_CFG_CQ f r) then .next refuse
      else if en then .next s
      else .next ((s.flag (RQ_CFG_ENABLE f r) false).setReqRing f r { s.reqRing f r with chain := none })
    else if !en then .next (s.set (RQ_CFG_CQ f r) cq)
    else if !s.on (CQ_CFG_ENABLE f (cq % 4)) then .next refuse
    else if s.get (RQ_SIZE f r) = 0 then .next (s.set (RQ_CFG_CQ f r) cq)
    else .next (((((s.set (RQ_CFG_CQ f r) cq).flag (RQ_CFG_ENABLE f r) true).set (RQ_PI f r) 0).set (RQ_CI f r) 0).setReqRing f r {})

/-- CQ_ENABLE (R391). -/
def execCqEnable (fn f r : Nat) (en : Bool) (s : State) : Outcome :=
  mmio fn (0x401 + f) s fun s =>
    if en == s.on (CQ_CFG_ENABLE f r) then .next s
    else if en then
      if s.get (CQ_SIZE f r) = 0 then .next s
      else .next (((s.flag (CQ_CFG_ENABLE f r) true).set (CQ_PI f r) 0).set (CQ_CI f r) 0)
    else if (List.range 4).any (fun q => s.on (RQ_CFG_ENABLE f q) && s.get (RQ_CFG_CQ f q) == r) then
      .next (s.refuseWrite fn (CQ_CFG_ENABLE f r).addr 0)
    else .next (s.flag (CQ_CFG_ENABLE f r) false)

/-- R374, R375. The functions of the SEAL steps that Sluice has admitted. -/
def State.seals (s : State) : List Nat :=
  s.work.slots.flatMap (fun e => (e.2.window.filter (fun x => x.phase == .blocked && (match x.op with | .sealing _ => true | _ => false))).map
    (fun _ => s.coreHolder (e.1 / 4)))

/-- R154, R374, R384. The internal requests that Sluice has admitted: image checks, loads of domain keys and of port keys. -/
def State.internals (s : State) : Nat :=
  let jobs := s.sluice.short ++ s.sluice.long ++ s.sluice.units.map (·.2.job) ++ s.sluice.parked.map (·.2.job)
  (jobs.filter (fun j => match j.use with | .image .. => true | _ => false)).length
    + (s.mem.keys.filter (fun e => match e.2.busy with | some (op, _, _) => op == 1 || op == 2 | none => false)).length
    + (s.link.ports.filter (fun e => e.2.newKeys.isSome)).length

/-- R374. What Sluice has admitted now: descriptors, SEAL steps, internal requests. -/
def State.sluiceLoad (s : State) : Nat := s.sluice.descs.length + s.seals.length + s.internals

/-- R374, R392. Sluice admits no internal request now: a throttle stall, the quiesce of page 0, its limit. -/
def State.sluiceHeld (s : State) : Bool := s.stall || s.quiet 0x400 || decide (1024 ≤ s.sluiceLoad)

/-- R394. An earlier descriptor is to be passed to the public-key engine first. -/
def State.pkeWaits (s : State) : Bool := s.sluice.descs.any (fun e => e.state == .admitted && e.usesPke)

/-- R374. The descriptors of a function admitted now. -/
def State.admittedOf (s : State) (f : Nat) : Nat := (s.sluice.descs.filter (fun d => d.fn == f)).length + (s.seals.filter (· == f)).length

/-- R374. Sluice may take on another descriptor of a function: the chip's limit, the other functions' DESC_MIN, its cap and its weight allow it. -/
def State.admits (s : State) (f : Nat) : Bool :=
  let held := ((List.range 9).filter (· != f)).foldl (fun n g => n + (s.get (FN_QOS_DESC_MIN g) - s.admittedOf g)) 0
  decide (s.admittedOf f < s.get (FN_DESC_CAP f)) && decide (s.sluiceLoad < 1024)
    && (decide (s.admittedOf f < s.get (FN_QOS_DESC_MIN f))
        || (s.get (FN_QOS_WEIGHT f) != 0 && decide (s.sluiceLoad + held < 1024)))

/-- R369. The members of the chain that entries begin: how many have LINK, then one without. None where the posted entries do not reach the last. -/
def chainLength : List (List Byte) → Option Nat
  | [] => none
  | e :: es => if bitOf (leNat ((e.drop 1).take 1)) 0 then (chainLength es).map (· + 1) else some 1

/-- R369. The chain that an entry belongs to, and whether the entry begins a request; none where the chain's entries are not all posted. -/
def State.chainOf (s : State) (f r : Nat) (d0 : Desc) (es : List (List Byte)) : Option (Option RingChain × Bool) :=
  match (s.reqRing f r).chain with
  | some c => some (some c, false)
  | none =>
    if d0.link then
      match chainLength es with
      | none => none
      | some n => some (some ⟨s.sluice.nextChain, n, decide (16 < n), d0.once && (s.reqRing f r).tags.contains d0.tag⟩, true)
    else some (none, true)

/-- R369, R370, R372. A fetched descriptor with its chain and the status that it ends with at once, if any. -/
def State.fetched (s : State) (f r : Nat) (d0 : Desc) (c : Option RingChain) : Desc :=
  let dup := match c with | some c => c.dup | none => d0.once && (s.reqRing f r).tags.contains d0.tag
  let tooLong := match c with | some c => c.tooLong | none => false
  let chain := match c with | some c => c.chain | none => 0
  let last := match c with | some c => decide (c.left ≤ 1) | none => true
  let dead := chain != 0 && (Map.get s.sluice.chains {} chain).failed
  let st : DescState := if tooLong then .ended .badDesc 0 1 else if dup then .ended .duplicate 0 0 else if dead then .ended .aborted 0 0 else .admitted
  { d0 with chain := chain, last := last, dup := dup, tooLong := tooLong, state := st }

/-- R362, R369, R372. A fetched descriptor is admitted: the ring moves on, its tag is recorded. -/
def State.takeRequest (s : State) (f r : Nat) (d : Desc) (c : Option RingChain) (first : Bool) : State :=
  let ring := s.reqRing f r
  let tags := if first && d.once && !d.dup && !d.tooLong then (d.tag :: ring.tags).take 256 else ring.tags
  let next := c.bind (fun c => if c.left ≤ 1 then none else some { c with left := c.left - 1 })
  let s1 := { s with sluice := { s.sluice with
    descs := s.sluice.descs ++ [{ d with done := s.sluice.nextDone }], nextDesc := s.sluice.nextDesc + 1, nextDone := s.sluice.nextDone + b2n d.ended,
    nextChain := if first && d.chain != 0 then d.chain + 1 else s.sluice.nextChain } }
  (s1.setReqRing f r { tags := tags, chain := next }).add (RQ_CI f r) 1

/-- R361. The entries of a request ring that are posted and not fetched. -/
def State.rqPosted (s : State) (f r : Nat) : Nat := (s.get (RQ_PI f r) + 2 ^ 32 - s.get (RQ_CI f r)) % 2 ^ 32

/-- A descriptor as it is fetched from the ring's next entry. -/
def State.entryDesc (s : State) (f r : Nat) (e : List Byte) : Desc :=
  { id := s.sluice.nextDesc, fn := f, ring := r, index := s.get (RQ_CI f r), bytes := takePad 64 e, cq := s.get (RQ_CFG_CQ f r) }

/-- R363, R618. CQ_FULL is raised where the completion ring has become full. -/
def State.cqEdge (s before : State) (f r : Nat) : State :=
  s.raiseEdge (0x401 + f) 4 (before.cqFull f (before.get (RQ_CFG_CQ f r))) (s.cqFull f (before.get (RQ_CFG_CQ f r)))

/-- R362, R369, R372. The first of the posted entries is fetched and admitted. -/
def State.fetchNext (s : State) (f r : Nat) : List (List Byte) → State
  | [] => s
  | e :: es =>
    match s.chainOf f r (s.entryDesc f r e) (e :: es) with
    | none => s
    | some (c, first) => (s.takeRequest f r (s.fetched f r (s.entryDesc f r e) c) c first).cqEdge s f r

/-- R360, R361. The IOVA of entry `i` of a request ring: at position i mod SIZE from its base. -/
def State.entryIova (s : State) (f r i : Nat) : Nat := s.pair (RQ_BASE_LO f r) (RQ_BASE_HI f r) + 64 * (i % max 1 (s.get (RQ_SIZE f r)))

/-- R361, R369. Up to `n` posted entries of a request ring from entry `i` on are read, each with the outcome of its read, as far as a chain needs: past an entry with LINK unless the
chain is known already. -/
def State.readEntries (s : State) (f r : Nat) : Nat → Nat → List ReadOutcome → State × Status × List (List Byte)
  | _, _, [] => (s, .ok, [])
  | 0, _, _ => (s, .ok, [])
  | n + 1, i, o :: os =>
    if s.hostHeld f (s.entryIova f r i) 64 then (s, .ok, [])
    else match s.hostFetch f 1 (s.entryIova f r i) 64 o with
    | (t, .ok, b) =>
      if bitOf (leNat ((b.drop 1).take 1)) 0 && (s.reqRing f r).chain.isNone then
        let (u, st, l) := t.readEntries f r n ((i + 1) % 2 ^ 32) os
        (u, st, b :: l)
      else (t, .ok, [b])
    | (t, st, _) => (t, st, [])

/-- SLUICE_FETCH (R360 to R362, R369, R372): the next entry of request ring `r` of function `f` is fetched; `entries` are the outcomes of the reads of the entries from RQ_CI on. An entry
whose read fails is not fetched (assumption 22). -/
def execSluiceFetch (f r : Nat) (entries : List ReadOutcome) (s : State) : Outcome :=
  event 0x400 s fun s =>
    if !s.on (RQ_CFG_ENABLE f r) || s.cqFull f (s.get (RQ_CFG_CQ f r)) || !s.admits f || s.quiet 0x400 || s.quiet (0x401 + f) || s.hostHeld f (s.entryIova f r (s.get (RQ_CI f r))) 64 then .next s
    else match s.readEntries f r (s.rqPosted f r) (s.get (RQ_CI f r)) entries with
      | (t, .ok, l) => .next (t.fetchNext f r l)
      | (t, _, _) => .next t

/-- R364. The completion record of a descriptor. -/
def State.record (s : State) (d : Desc) (st : Status) (outLen detail : Nat) : List Byte :=
  let phase := (s.get (CQ_PI d.fn d.cq) / max 1 (s.get (CQ_SIZE d.fn d.cq))) % 2 == 0
  leBytes 1 st.code ++ leBytes 1 (b2n d.last + 2 * b2n phase + 4 * d.ring) ++ leBytes 2 0 ++ leBytes 4 d.tag ++ leBytes 4 d.index
    ++ leBytes 4 outLen ++ s.now.bytes ++ leBytes 4 (d.field 60 4) ++ leBytes 4 detail

/-- Descriptors leave Sluice, and with them the chains they were the last of. -/
def State.dropDescs (s : State) (p : Desc → Bool) : State :=
  { s with sluice := { s.sluice with descs := s.sluice.descs.filter (fun d => !p d),
                                     chains := (s.sluice.descs.filter (fun d => p d && d.last && d.chain != 0)).foldl (fun m d => Map.erase m d.chain) s.sluice.chains } }

/-- R360, R363. The IOVA of the next record of a descriptor's completion ring. -/
def State.recordIova (s : State) (d : Desc) : Nat :=
  s.pair (CQ_BASE_LO d.fn d.cq) (CQ_BASE_HI d.fn d.cq) + 32 * (s.get (CQ_PI d.fn d.cq) % max 1 (s.get (CQ_SIZE d.fn d.cq)))

/-- R363. No descriptor of the completion ring that completed before a descriptor waits for its record. -/
def State.recordDue (s : State) (d : Desc) : Bool :=
  s.sluice.descs.all (fun e => e.fn != d.fn || e.cq != d.cq || !e.ended || decide (d.done ≤ e.done))

/-- DESC_COMPLETE (R363, R393, R467): the record of an ended descriptor is written, in the order of completion; CQ_PI advances, IRQ raises the ring's event. A descriptor of an
undefined opcode that comes to start is refused with it. -/
def execDescComplete (id : Nat) (s : State) : Outcome :=
  event 0x400 s fun s =>
    let s := s.refuseOpcode id
    match s.desc id with
    | none => .next s
    | some d =>
      match d.state with
      | .ended st n dt =>
        if s.resetting d.fn then .next (s.dropDescs (fun e => e.id == id))
        else if s.hostHeld d.fn (s.recordIova d) 32 || !s.recordDue d then .next s
        else
          let rec0 := s.record d st n (if st = .badDesc || st = .badParam || st = .authFail then dt else 0)
          let (s1, _) := s.hostWrite d.fn 1 (s.recordIova d) rec0
          let s2 := (s1.add (CQ_PI d.fn d.cq) 1).add SL_DONE_CNT 1
          let s3 := if st = .duplicate then s2.add (RQ_DUP_CNT d.fn d.ring) 1 else s2
          let s4 := if d.irq then s3.raise (0x401 + d.fn) d.cq else s3
          .next { s4 with sluice := { s4.sluice with
            descs := s4.sluice.descs.filter (fun e => e.id != id),
            chains := if d.chain != 0 && d.last then Map.erase s4.sluice.chains d.chain else s4.sluice.chains } }
      | _ => .next s

/-! ### The manager's commands (R380, R382) -/

/-- SLOT_CMD_CLEAR (R382): the manager clears a slot. -/
def execSlotCmdClear (fn slot : Nat) (s : State) : Outcome :=
  command fn 0x400 (.slotCmdClear fn slot) s fun s => .next (s.clearSlot (slot % 512))

/-- FN_WIN_WRITE (R379, R380): a write of FN_WIN of function `f`: BASE, CNT and PLAIN_OK. The PF's register holds PLAIN_OK alone. -/
def execFnWinWrite (fn f base cnt : Nat) (plainOk : Bool) (s : State) : Outcome :=
  mmio fn 0x400 s fun s =>
    let addr := (FN_WIN_BASE f).addr
    let v := base % 512 + cnt % 1024 * 65536 + b2n plainOk * 2 ^ 31
    let ok := if (s.page (pageKey 0 0x400)).lock then s else s.flag (FN_WIN_PLAIN_OK f) plainOk
    if f = 0 then (if s.admittedOf 0 != 0 then .next (s.refuseWrite fn addr v) else .next ok)
    else
      let b := base % 512
      let c := cnt % 1024
      let overlaps := (List.range 8).any (fun i =>
        let g := i + 1
        g != f && c != 0 && s.get (FN_WIN_CNT g) != 0 && decide (b < s.get (FN_WIN_BASE g) + s.get (FN_WIN_CNT g)) && decide (s.get (FN_WIN_BASE g) < b + c))
      let t := (ok.set (FN_WIN_BASE f) b).set (FN_WIN_CNT f) c
      let moved := (List.range 512).any (fun i => (s.slot i).cls != 0 && s.slotHolder i != t.slotHolder i)
      if b % 16 ≠ 0 || c % 16 ≠ 0 || 512 < b + c || overlaps || moved || s.admittedOf f != 0 then .next (s.refuseWrite fn addr v)
      else .next t

end Sys2Proof.Machine
end

