-- ==== Sys2Proof/Machine/Pke.lean ====
section
/-!
DEFINITION. The public-key engine (chapter 13): its queues and units, the operations with their validation, key checks and generation, curve tables,
yielding.
-/

namespace Sys2Proof.Machine

/-- R408. The parameters of a curve table as the arithmetic takes them; table 0 is P-256. -/
def State.curve (s : State) (t : Nat) : Option (Weier × Nat) :=
  if t = 0 then some (p256, 32)
  else match Map.find s.sluice.curves t with
    | some c => some ({ p := c.p, a := c.a, b := c.b, gx := c.gx, gy := c.gy, n := c.n, w := c.w }, c.w)
    | none => none

/-- Slices of an operand. -/
def cut (bs : List Byte) (lo n : Nat) : List Byte := (bs.drop lo).take n

/-- R403. The outcome of the checks of a point: RANGE first, then NOT_ON_CURVE. -/
def pointFault (c : Weier) (x y : Nat) : Option Status :=
  if (x = 0 ∧ y = 0) ∨ c.p ≤ x ∨ c.p ≤ y then some .range else if !c.onCurve x y then some .notOnCurve else none

/-- R403. The outcome of the checks of an Ed25519 encoding. -/
def edFault (b : List Byte) : Option Status :=
  if p25519 ≤ leNat b % 2 ^ 255 then some .range
  else match edDecode b with
    | none => some .notOnCurve
    | some q => if edSmall q then some .range else none

/-- R403. RANGE if any check gives it, else NOT_ON_CURVE if any does. -/
def worst (l : List (Option Status)) : Option Status :=
  if l.contains (some .range) then some .range else if l.contains (some .notOnCurve) then some .notOnCurve else none

/-- A range check. -/
def rangeIf (b : Bool) : Option Status := if b then some .range else none

/-- A value that is 0, 1, or at or above a modulus. -/
def outside (v n : Nat) : Bool := decide (v ≤ 1) || decide (n ≤ v)

/-- The outcome of a verification. -/
def verdict (b : Bool) : PkeOut := { st := if b then .ok else .authFail }

/-- The outcome of an operation whose checks are given. -/
def checked (l : List (Option Status)) (r : Unit → PkeOut) : PkeOut := match worst l with | some st => { st := st } | none => r ()

/-- ECDSA_VERIFY and EXT on a curve. -/
def ecdsaCheck (c : Weier) (ext : Bool) (qx qy r v : Nat) (digest : List Byte) : PkeOut :=
  checked [rangeIf (outside r c.n), rangeIf (outside v c.n), if ext then pointFault c qx qy else none] fun _ => verdict (ecdsaVerify c qx qy r v digest)

/-- ED25519_VERIFY and EXT. -/
def edCheck (ext : Bool) (a rs msg : List Byte) : PkeOut :=
  let r := rs.take 32
  let sc := leNat (rs.drop 32)
  checked [rangeIf (decide (l25519 ≤ sc)), edFault r, if ext then edFault a else none] fun _ =>
    match edDecode a, edDecode r with
    | some pa, some pr => verdict (edVerify a msg r pa pr sc)
    | _, _ => verdict false

/-- The parts of an RSA key: p, q, dP, dQ, qInv. -/
def rsaParts (k : List Byte) : List Nat := (List.range 5).map (fun i => beNat (cut k (192 * i) 192))

/-- RSA_PRIV (R401, R403). -/
def rsaPriv (key c : List Byte) : PkeOut :=
  match rsaParts key with
  | [p, q, dp, dq, qi] =>
    checked [rangeIf (outside (beNat c) (p * q))] fun _ => { st := .ok, out := beBytes 384 (rsaCrt p q dp dq qi (beNat c)) }
  | _ => { st := .range }

/-- RSA_PUB (R401, R403). -/
def rsaPub (sig n : List Byte) (e : Nat) : PkeOut :=
  let m := beNat n
  checked [rangeIf (outside (beNat sig) m), rangeIf (e % 2 == 0 || decide (e < 3)), rangeIf (m % 2 == 0 || n.headD 0 == 0)] fun _ =>
    { st := .ok, out := beBytes n.length (modPow (beNat sig) e m) }

/-- POINT_CHECK (R403): on a Weierstrass table, or on edwards25519 (table 1). -/
def pointCheck (c : Option (Weier × Nat)) (t : Nat) (b : List Byte) : PkeOut :=
  checked [if t = 1 then edFault b else match c with
    | some (c, w) => pointFault c (beNat (b.take w)) (beNat (b.drop w))
    | none => none] fun _ => { st := .ok }

/-- The first check of a curve load that fails, and its status. -/
def curveCheck (c : Weier) (w h : Nat) (bp bn : List Nat) : Option (Nat × Status) :=
  let d := if c.p + 1 ≤ h * c.n then h * c.n - (c.p + 1) else c.p + 1 - h * c.n
  if c.p / 2 ^ (8 * (w - 1)) = 0 || c.p % 2 == 0 || decide (c.p ≤ 3) || !millerRabin c.p bp then some (1, .range)
  else if c.p ≤ c.a ∨ c.p ≤ c.b then some (2, .range)
  else if (4 * c.a * c.a * c.a + 27 * c.b * c.b) % c.p = 0 then some (3, .range)
  else if c.p ≤ c.gx ∨ c.p ≤ c.gy ∨ (c.gx = 0 ∧ c.gy = 0) then some (4, .range)
  else if !c.onCurve c.gx c.gy then some (5, .notOnCurve)
  else if !([1, 2, 4, 8].contains h) || decide (c.n < 2 ^ 159) || c.n == c.p || !millerRabin c.n bn then some (6, .range)
  else if 4 * c.p < d * d then some (7, .range)
  else if (c.affine (c.mul c.n (c.gx, c.gy, 1))).isSome then some (8, .range)
  else none

/-- The parameter block of R409. -/
def parseCurve (b : List Byte) : Weier × Nat × Nat :=
  let w := leNat (b.take 1)
  let v (i : Nat) := beNat (cut b (8 + i * w) w)
  ({ p := v 0, a := v 1, b := v 2, gx := v 3, gy := v 4, n := v 5, w := w }, w, leNat (cut b 4 1))

/-- `k` numbers of `n` bytes from the generator. -/
def State.drawNats (s : State) (n : Nat) : Nat → List Nat × State
  | 0 => ([], s)
  | k + 1 =>
    let (b, s1) := s.drawRandom n
    let (l, s2) := s1.drawNats n k
    (beNat b :: l, s2)

/-- R406. The check of an RSA key with the bases drawn for it. -/
def rsaKeyOk (k : List Byte) (bases : List Nat) : Bool :=
  match rsaParts k with
  | [p, q, dp, dq, qi] =>
    p % 2 == 1 && q % 2 == 1 && decide (2 ^ 1535 ≤ p) && decide (2 ^ 1535 ≤ q) && p != q && decide (2 ^ 3071 ≤ p * q)
      && dp * 65537 % (p - 1) == 1 && dq * 65537 % (q - 1) == 1 && qi * q % p == 1
      && millerRabin p (bases.take 5) && millerRabin q (bases.drop 5)
  | _ => false

/-- R406, R383. The check of a key of a class, and the public key that KEY_INFO reports. -/
def State.keyCheck (s : State) (cls : Nat) (key : List Byte) : PkeOut × State :=
  if cls = 8 then
    let d := beNat key
    (checked [rangeIf (d == 0 || decide (p256.n ≤ d))] fun _ =>
      match p256.affine (p256.mul d (p256.gx, p256.gy, 1)) with
      | some (x, y) => { st := .ok, pub := beBytes 32 x ++ beBytes 32 y }
      | none => { st := .range }, s)
  else if cls = 9 then (checked [pointFault p256 (beNat (key.take 32)) (beNat (key.drop 32))] fun _ => { st := .ok }, s)
  else if cls = 10 then (checked [rangeIf (leNat key == 0)] fun _ => { st := .ok, pub := edPublic key }, s)
  else if cls = 11 then (checked [edFault key] fun _ => { st := .ok }, s)
  else if cls = 12 then (checked [rangeIf (leNat key == 0)] fun _ => { st := .ok, pub := x25519 key (leBytes 32 9) }, s)
  else let (b, s1) := s.drawNats 192 10
       ({ st := if rsaKeyOk key b then .ok else .range }, s1)

/-- R407. A draw of 32 bytes that is not all zero (at most 16 draws are followed; assumption 24). -/
def State.drawSeed (s : State) : Nat → List Byte × State
  | 0 => s.drawRandom 32
  | f + 1 => let (b, s1) := s.drawRandom 32; if leNat b = 0 then s1.drawSeed f else (b, s1)

/-- R407. A candidate prime passes the sieve and the Miller–Rabin rounds, and serves the exponent 65,537 (assumption 24). -/
def primeOk (v : Nat) (bases : List Nat) : Bool :=
  (List.range 32767).all (fun i => v % (2 * i + 3) != 0) && millerRabin v bases && Nat.gcd (v - 1) 65537 == 1

/-- R407. The search for a prime: at most 4,096 candidates. -/
def State.findPrime (s : State) : Nat → Option Nat × State
  | 0 => (none, s)
  | f + 1 =>
    let (b, s1) := s.drawRandom 192
    let v := beNat b ||| (3 * 2 ^ 1534) ||| 1
    let (bases, s2) := s1.drawNats 192 5
    if primeOk v bases then (some v, s2) else s2.findPrime f

/-- R407. A key of a class is generated: its material in `key`, its public key in `out`. -/
def State.generate (s : State) (cls : Nat) : PkeOut × List Byte × State :=
  if cls = 8 then
    let (c, s1) := s.drawRandom 40
    let key := beBytes 32 (beNat c % (p256.n - 1) + 1)
    let (o, s2) := s1.keyCheck 8 key
    ({ o with out := o.pub }, key, s2)
  else if cls = 10 ∨ cls = 12 then
    let (key, s1) := s.drawSeed 16
    let (o, s2) := s1.keyCheck cls key
    ({ o with out := o.pub }, key, s2)
  else
    let (p, s1) := s.findPrime 4096
    match p with
    | none => ({ st := .internal }, [], s1)
    | some p =>
      let (q, s2) := s1.findPrime 4096
      match q with
      | none => ({ st := .internal }, [], s2)
      | some q =>
        let key := beBytes 192 p ++ beBytes 192 q ++ beBytes 192 (invMod 65537 (p - 1)) ++ beBytes 192 (invMod 65537 (q - 1)) ++ beBytes 192 (invMod q p)
        let (o, s3) := s2.keyCheck clsRsa key
        ({ o with out := beBytes 384 (p * q) }, key, s3)

/-- R406. A job checks a key that is loaded, unwrapped or derived into a public-key class. -/
def PkeJob.loadsKey (j : PkeJob) : Bool := j.op == 0x18 || j.op == 0x19 || j.op == 0x1C

/-- R411. The fresh bytes that blind a job's secret arithmetic, which change no output: 64 bits for each scalar, one field element or ρ for the base or point (assumption 21). -/
def PkeJob.blinding (j : PkeJob) : Nat :=
  if j.op = 0x20 ∨ j.op = 0x23 ∨ j.op = 0x24 then 40
  else if j.op = 0x27 then 32
  else if j.op = 0x28 then 400
  else if j.loadsKey ∨ j.op = 0x1B then (if j.cls = 8 ∨ j.cls = 10 then 40 else if j.cls = 12 then 32 else 0)
  else 0

/-- R396 to R410. The outcome of a job that its operands and its curve alone fix. -/
def State.fixedOutcome (s : State) (j : PkeJob) : Option PkeOut :=
  if j.op = 0x21 then
    some (ecdsaCheck p256 false (beNat (j.key.take 32)) (beNat (j.key.drop 32)) (beNat (j.aux.take 32)) (beNat (j.aux.drop 32)) j.src)
  else if j.op = 0x22 then
    match s.curve j.table with
    | none => some { st := .badParam }
    | some (c, w) =>
      let v (i : Nat) := beNat (cut j.aux (i * w) w)
      some (ecdsaCheck c true (v 0) (v 1) (v 2) (v 3) j.src)
  else if j.op = 0x23 then
    let x := beNat (j.src.take 32)
    let y := beNat (j.src.drop 32)
    some (checked [pointFault p256 x y] fun _ =>
      match p256.affine (p256.mul (beNat j.key) (x, y, 1)) with
      | some (x, _) => { st := .ok, out := beBytes 32 x }
      | none => { st := .internal })
  else if j.op = 0x24 then some { st := .ok, out := edSign j.key j.src }
  else if j.op = 0x25 then some (edCheck false j.key j.aux j.src)
  else if j.op = 0x26 then some (edCheck true (j.aux.take 32) (j.aux.drop 32) j.src)
  else if j.op = 0x27 then
    let u := leNat j.src % 2 ^ 255
    some (checked [rangeIf (decide (p25519 ≤ u) || x25519Small.contains u)] fun _ => { st := .ok, out := x25519 j.key j.src })
  else if j.op = 0x28 then some (rsaPriv j.key j.src)
  else if j.op = 0x29 then some (rsaPub j.src j.aux j.exp)
  else if j.op = 0x2A then some (pointCheck (s.curve j.table) j.table j.src)
  else if j.op = 0x2C then some { st := .ok }
  else none

/-- R396. The nonce of an ECDSA signature: that of RFC 6979 where P0 asks for it, else one of the generator. -/
def State.nonce (s : State) (j : PkeJob) : Nat × State :=
  if bitOf j.p0 1 then (rfc6979 j.key j.src, s)
  else let (c, s1) := s.drawRandom 40; (beNat c % (p256.n - 1) + 1, s1)

/-- R396. An ECDSA signature. -/
def State.signOutcome (s : State) (j : PkeJob) : PkeOut × State :=
  let (k, s1) := s.nonce j
  let (r, v) := ecdsaSign p256 (beNat j.key) k j.src
  (if r = 0 ∨ v = 0 then { st := .internal } else { st := .ok, out := beBytes 32 r ++ beBytes 32 v }, s1)

/-- R409. The validation of a curve, with the bases of its primality tests from the generator. -/
def State.curveOutcome (s : State) (j : PkeJob) : PkeOut × State :=
  let (c, w, h) := parseCurve j.src
  let (bp, s1) := s.drawNats 48 32
  let (bn, s2) := s1.drawNats 48 32
  (match curveCheck c w h bp bn with
   | some (n, st) => { st := st, check := n }
   | none => { st := .ok }, s2)

/-- R396 to R410. The outcome of a job, fixed by its operands, its curve and the generator's numbers when its unit starts it; a generation also fixes its key. -/
def State.outcome (s : State) (j : PkeJob) : PkeOut × PkeJob × State :=
  match s.fixedOutcome j with
  | some o => (o, j, s)
  | none =>
    if j.op = 0x20 then ((s.signOutcome j).1, j, (s.signOutcome j).2)
    else if j.op = 0x2B then ((s.curveOutcome j).1, j, (s.curveOutcome j).2)
    else if j.loadsKey then ((s.keyCheck j.cls j.key).1, j, (s.keyCheck j.cls j.key).2)
    else
      let (o, key, s1) := s.generate j.cls
      (o, { j with key := key }, s1)

/-- R412. A job needs randomness. -/
def PkeJob.random (j : PkeJob) : Bool :=
  j.op == 0x20 || j.op == 0x23 || j.op == 0x24 || j.op == 0x27 || j.op == 0x28 || j.op == 0x2B || j.op == 0x1B || (j.loadsKey && j.cls != 9 && j.cls != 11)

/-- R402, R410. What refuses a job before engine work, with the DETAIL of the field at fault. -/
def State.startFault (s : State) (j : PkeJob) : Option (Status × Nat) :=
  if s.sluice.selfTestFailed || (j.random && !s.on RNG_STAT_OK) then some (.internal, 0)
  else if (j.op = 0x22 ∨ j.op = 0x2A ∨ j.op = 0x2C) ∧ j.table ≠ 1 ∧ (s.curve j.table).isNone then some (.badParam, 41)
  else if j.op = 0x22 ∧ j.aux.length ≠ 4 * ((s.curve j.table).elim 0 (·.2)) then some (.badParam, 36)
  else if j.op = 0x2A ∧ j.table ≠ 1 ∧ j.src.length ≠ 2 * ((s.curve j.table).elim 0 (·.2)) then some (.badParam, 32)
  else none

/-- R409. A CURVE_LOAD ends: the table is valid, or invalid where a numbered check failed; one that made no check leaves it as it was (assumption 23). -/
def State.curveEnds (s : State) (j : PkeJob) (o : PkeOut) : State :=
  let (c, w, h) := parseCurve j.src
  let t := j.table
  let s1 := (s.set (CURVE_STAT_CHECK t) o.check).set (CURVE_STAT_RESULT t) o.st.code
  let setTable (u : State) (m : Map Curve) (ok : Bool) : State :=
    ((({ u with sluice := { u.sluice with curves := m } }.add (CURVE_GEN t) 1).flag (CURVE_STAT_VALID t) ok).set (CURVE_STAT_WIDTH t) (if ok then w else 0))
  if o.st = .ok then (setTable s1 (Map.insert s.sluice.curves t { w := w, p := c.p, a := c.a, b := c.b, gx := c.gx, gy := c.gy, n := c.n, h := h }) true).raise 0x410 1
  else ((if o.check = 0 then s1 else setTable s1 (Map.erase s.sluice.curves t) false).raise 0x410 2).capture 0x410 o.st (t + 16 * o.check) 0

/-- R396, R400, R406 to R410, R387, R388, R154. The result of a job goes where its use says. -/
def State.finishJob (s : State) (j : PkeJob) (o : PkeOut) : State :=
  let s := s.add PKE_OPS_CNT 1
  let s := if o.st = .range ∨ o.st = .notOnCurve then s.add PKE_REFUSE_CNT 1 else s
  match j.use with
  | .sealStep .. | .image .. => { s with sluice := { s.sluice with results := s.sluice.results ++ [(j.use, o)] } }
  | .sealChk id =>
    match s.desc id with
    | none => s
    | some d =>
      let bad := o.st = .authFail ∨ o.st = .range ∨ o.st = .notOnCurve
      s.endDesc d (if bad then .authFail else o.st) 0 (if bad then 3 else 0)
  | .sealDesc id block =>
    match s.desc id with
    | none => s
    | some d =>
      let head := block.take 6 ++ leBytes 1 o.st.code ++ block.drop 7
      let sig := if o.st = .ok then o.out else List.replicate 64 0
      let (s1, w) := s.writeOutput d d.dstSp d.dst (head ++ sig)
      s1.endDesc d (if w = .ok then o.st else w) (if w = .ok then 128 else 0) 0
  | .desc id =>
    match s.desc id with
    | none => s
    | some d =>
      if j.op = 0x2B then (s.curveEnds j o).endDesc d o.st 0 0
      else if j.op = 0x2C then
        let s1 := { s with sluice := { s.sluice with curves := Map.erase s.sluice.curves j.table } }
        (((s1.set (CURVE_STAT_RESULT j.table) o.st.code).flag (CURVE_STAT_VALID j.table) false).set (CURVE_STAT_WIDTH j.table) 0).endDesc d o.st 0 o.check
      else if o.st ≠ .ok then s.endDesc d o.st 0 o.check
      else if j.loadsKey then (s.writeSlot j.target j.cls j.wrappable j.key o.pub).endDesc d .ok 0 0
      else if j.op = 0x1B then
        let (s1, st) := s.writeOutput d d.dstSp d.dst o.out
        if st = .ok then (s1.writeSlot j.target j.cls j.wrappable j.key o.pub).endDesc d .ok o.out.length 0 else s1.endDesc d st 0 0
      else if (j.op = 0x23 ∨ j.op = 0x27) ∧ bitOf j.p0 0 then (s.writeSlot j.target 5 j.wrappable o.out []).endDesc d .ok 0 0
      else
        let (s1, st) := s.writeOutput d d.dstSp d.dst o.out
        s1.endDesc d st (if st = .ok then o.out.length else 0) 0

/-! ### The operations' descriptors (R394 to R397) -/

/-- R397. A P0 bit the opcode does not allow, and the curve tables it may name. -/
def p0Checks (d : Desc) (mask : Nat) (tables : List Nat) : List (Bool × Status × Nat) :=
  [((d.p0 &&& (255 - mask)) != 0, .badDesc, 41), (!tables.contains (bitsOf d.p0 4 3), .badParam, 41)]

/-- A public-key descriptor: the operand reads and then the queue. -/
def runPke (op id : Nat) (s : State) (checks : State → Desc → List (Bool × Status × Nat)) (work : State → Desc → OpRes) : Outcome :=
  runDesc op id s checks work

/-- R395, R396. The checks of the source, exact lengths given by `ok`, of the auxiliary operand and of the destination. -/
def State.pkeChecks (s : State) (d : Desc) (lenOk : Bool) (auxLen : Option Bool) (dst : Option Nat) : List (Bool × Status × Nat) :=
  spaceChecks d.srcSp d.src 8 ++ (if auxLen.isSome then spaceChecks d.auxSp d.aux 24 else []) ++ (if dst.isSome then spaceChecks d.dstSp d.dst 16 else [])
    ++ [(d.len != 0 && !lenOk, .badParam, 32), (!auxLen.getD true, .badParam, 36)]
    ++ s.chainReads d d.srcSp d.len 32 ++ (if auxLen.isSome then s.chainReads d d.auxSp d.auxLen 36 else []) ++ (match dst with | some n => chainWrites d n | none => [])

/-- A work of the public-key engine after its key: ranges, no work on LEN 0, operands, queue. -/
def State.pkeWork (s : State) (d : Desc) (src aux : ReadOutcome) (hasAux : Bool) (dst : Option Nat) (mk : List Byte → List Byte → PkeJob) : OpRes :=
  if d.len = 0 then (s, some (.ok, 0, 0))
  else match firstFail (s.rangeCheck d d.srcSp d.src d.len false ++ (if hasAux then s.rangeCheck d d.auxSp d.aux d.auxLen false else [])
      ++ (match dst with | some n => s.rangeCheck d d.dstSp d.dst n true | none => [])) with
    | some (st, dt) => (s, some (st, 0, dt))
    | none => s.withSrc d d.len src fun s b =>
        if hasAux then s.withAux d aux fun s a => (s.enqueue (mk b a), none) else (s.enqueue (mk b []), none)

/-- R397. The digest of a message, or the digest itself. -/
def digestOf (d : Desc) (b : List Byte) : List Byte := if bitOf d.p0 0 then b else sha256 b

/-- A length of a digest or message for P-256. -/
def msgOk (d : Desc) : Bool := !bitOf d.p0 0 || d.len == 32

/-- ECDSA_SIGN (R396, R398). -/
def execEcdsaSign (id : Nat) (src : ReadOutcome) (s : State) : Outcome :=
  runPke 0x20 id s (fun s d => p0Checks d 3 [0] ++ s.pkeChecks d (msgOk d) none (some 64)) fun s d =>
    s.withKey d [8] fun s _ k => s.pkeWork d src src false (some 64) fun b _ =>
      { use := .desc d.id, fn := d.fn, op := 0x20, key := k.key, src := digestOf d b, p0 := d.p0 }

/-- ECDSA_VERIFY (R396, R398). -/
def execEcdsaVerify (id : Nat) (src aux : ReadOutcome) (s : State) : Outcome :=
  runPke 0x21 id s (fun s d => p0Checks d 1 [0] ++ s.pkeChecks d (msgOk d) (some (d.auxLen == 64)) none) fun s d =>
    s.withKey d [9] fun s _ k => s.pkeWork d src aux true none fun b a =>
      { use := .desc d.id, fn := d.fn, op := 0x21, key := k.key, src := digestOf d b, aux := a, p0 := d.p0 }

/-- ECDSA_VERIFY_EXT (R396, R397, R408): on P-256 or a loaded curve. -/
def execEcdsaVerifyExt (id : Nat) (src aux : ReadOutcome) (s : State) : Outcome :=
  runPke 0x22 id s (fun s d =>
      let t := bitsOf d.p0 4 3
      let w := (s.curve t).elim (d.auxLen / 4) (·.2)
      p0Checks d 0x71 [0, 2, 3, 4, 5, 6, 7]
        ++ s.pkeChecks d (if t = 0 then msgOk d else !bitOf d.p0 0 || (decide (20 ≤ d.len) && decide (d.len ≤ 64))) (some (d.auxLen == 4 * w)) none)
    fun s d =>
      let t := bitsOf d.p0 4 3
      s.pkeWork d src aux true none fun b a =>
        { use := .desc d.id, fn := d.fn, op := 0x22, src := digestOf d b, aux := a, p0 := d.p0, table := t, long := t != 0 && decide (128 < d.auxLen) }

/-- R400. TO_SLOT: the slot P1, which the function must hold. -/
def State.toSlot (s : State) (d : Desc) (k : Nat → Bool → OpRes) : OpRes :=
  if bitOf d.p0 0 then
    match s.globalSlot d.fn d.p1 with
    | none => (s, some (.keyDenied, 0, 0))
    | some g => k g (bitOf ((d.iv.headD 0).toNat) 0)
  else k 0 false

/-- ECDH_P256 and X25519: a peer operand and a shared secret of 32 bytes. -/
def execShared (op cls n id : Nat) (src : ReadOutcome) (s : State) : Outcome :=
  runPke op id s (fun s d => p0Checks d 1 [0] ++ s.pkeChecks d (d.len == n) none (if bitOf d.p0 0 then none else some 32)) fun s d =>
    s.withKey d [cls] fun s _ k => s.toSlot d fun g wr =>
      s.pkeWork d src src false (if bitOf d.p0 0 then none else some 32) fun b _ =>
        { use := .desc d.id, fn := d.fn, op := op, key := k.key, src := b, p0 := d.p0, target := g, wrappable := wr }

/-- ECDH_P256 (R400). -/
def execEcdhP256 (id : Nat) (src : ReadOutcome) (s : State) : Outcome := execShared 0x23 8 64 id src s

/-- ED25519_SIGN (R399). -/
def execEd25519Sign (id : Nat) (src : ReadOutcome) (s : State) : Outcome :=
  runPke 0x24 id s (fun s d => p0Checks d 0 [0] ++ s.pkeChecks d (decide (d.len ≤ 16384)) none (some 64)) fun s d =>
    s.withKey d [10] fun s _ k => s.pkeWork d src src false (some 64) fun b _ =>
      { use := .desc d.id, fn := d.fn, op := 0x24, key := k.key, src := b }

/-- ED25519_VERIFY (R399). -/
def execEd25519Verify (id : Nat) (src aux : ReadOutcome) (s : State) : Outcome :=
  runPke 0x25 id s (fun s d => p0Checks d 0 [0] ++ s.pkeChecks d (decide (d.len ≤ 16384)) (some (d.auxLen == 64)) none) fun s d =>
    s.withKey d [11] fun s _ k => s.pkeWork d src aux true none fun b a =>
      { use := .desc d.id, fn := d.fn, op := 0x25, key := k.key, src := b, aux := a }

/-- ED25519_VERIFY_EXT (R399). -/
def execEd25519VerifyExt (id : Nat) (src aux : ReadOutcome) (s : State) : Outcome :=
  runPke 0x26 id s (fun s d => p0Checks d 0 [0] ++ s.pkeChecks d (decide (d.len ≤ 16384)) (some (d.auxLen == 96)) none) fun s d =>
    s.pkeWork d src aux true none fun b a => { use := .desc d.id, fn := d.fn, op := 0x26, src := b, aux := a }

/-- X25519 (R400). -/
def execX25519 (id : Nat) (src : ReadOutcome) (s : State) : Outcome := execShared 0x27 12 32 id src s

/-- RSA_PRIV (R401). -/
def execRsaPriv (id : Nat) (src : ReadOutcome) (s : State) : Outcome :=
  runPke 0x28 id s (fun s d => p0Checks d 0 [0] ++ s.pkeChecks d (d.len == 384) none (some 384)) fun s d =>
    s.withKey d [clsRsa] fun s _ k => s.pkeWork d src src false (some 384) fun b _ =>
      { use := .desc d.id, fn := d.fn, op := 0x28, key := k.key, src := b, long := true }

/-- RSA_PUB (R401): moduli of 2,048, 3,072 or 4,096 bits. -/
def execRsaPub (id : Nat) (src aux : ReadOutcome) (s : State) : Outcome :=
  runPke 0x29 id s (fun s d => p0Checks d 0 [0] ++ s.pkeChecks d ([256, 384, 512].contains d.len) (some (d.len == 0 || d.auxLen == d.len)) (some d.len))
    fun s d => s.pkeWork d src aux true (some d.len) fun b a =>
      { use := .desc d.id, fn := d.fn, op := 0x29, src := b, aux := a, exp := leNat (d.iv.take 4) }

/-- POINT_CHECK (R403). -/
def execPointCheck (id : Nat) (src : ReadOutcome) (s : State) : Outcome :=
  runPke 0x2A id s (fun s d =>
      let t := bitsOf d.p0 4 3
      p0Checks d 0x70 [0, 1, 2, 3, 4, 5, 6, 7] ++ s.pkeChecks d (if t = 1 then d.len == 32 else (s.curve t).elim true (fun c => d.len == 2 * c.2)) none none)
    fun s d => s.pkeWork d src src false none fun b _ => { use := .desc d.id, fn := d.fn, op := 0x2A, src := b, table := bitsOf d.p0 4 3 }

/-- CURVE_LOAD (R408, R409): from the PF, a block of 8 + 6w bytes. -/
def execCurveLoad (id : Nat) (src : ReadOutcome) (s : State) : Outcome :=
  runPke 0x2B id s (fun s d => p0Checks d 0x70 [2, 3, 4, 5, 6, 7] ++ [(decide (d.fn ≠ 0), .badParam, 0)]
      ++ s.pkeChecks d ((List.range 25).any (fun i => d.len == 8 + 6 * (24 + i))) none none)
    fun s d =>
      if d.len = 0 then (s, some (.ok, 0, 0))
      else match firstFail (s.rangeCheck d d.srcSp d.src d.len false) with
        | some (st, dt) => (s, some (st, 0, dt))
        | none => s.withSrc d d.len src fun s b =>
            if 8 + 6 * leNat (b.take 1) = d.len then
              (s.enqueue { use := .desc d.id, fn := d.fn, op := 0x2B, src := b, table := bitsOf d.p0 4 3, long := true }, none)
            else (s, some (.badParam, 0, 32))

/-- CURVE_CLEAR (R408, R410): from the PF, with a LEN of 1. -/
def execCurveClear (id : Nat) (s : State) : Outcome :=
  runPke 0x2C id s (fun _ d => p0Checks d 0x70 [2, 3, 4, 5, 6, 7] ++ [(decide (d.fn ≠ 0), .badParam, 0), (decide (1 < d.len), .badParam, 32)]) fun s d =>
    if d.len = 0 then (s, some (.ok, 0, 0))
    else (s.enqueue { use := .desc d.id, fn := d.fn, op := 0x2C, table := bitsOf d.p0 4 3 }, none)

/-! ### Units (R394, R402, R413 to R415) -/

/-- A unit takes a run. -/
def State.setUnit (s : State) (u : Nat) (r : Option PkeRun) : State :=
  { s with sluice := { s.sluice with units := match r with | some r => Map.insert s.sluice.units u r | none => Map.erase s.sluice.units u } }

/-- R376, R411. A job's request of the generator, with the bytes that blind it. -/
def State.blind (s : State) (j : PkeJob) : State := if j.random then (s.drawRandom j.blinding).2.countRandom else s

/-- A unit starts a job, or the job is refused before engine work. -/
def State.startPke (s : State) (u : Nat) (j : PkeJob) : State :=
  match s.startFault j with
  | some (st, dt) => s.finishJob j { st := st, check := dt }
  | none =>
    let (o, j1, s1) := (s.blind j).outcome j
    s1.setUnit u (some { job := j1, out := o })

/-- The units that run long operations. -/
def State.longUnits (s : State) : Nat := (s.sluice.units.filter (fun e => e.2.job.long)).length

/-- PKE_UNIT_START (R413): a free unit takes the head of the short queue, the oldest parked operation, or the head of the long queue. -/
def execPkeUnitStart (u : Nat) (s : State) : Outcome :=
  event 0x410 s fun s =>
    if 4 ≤ u || (Map.find s.sluice.units u).isSome || s.quiet 0x410 then .next s
    else match s.sluice.short, s.sluice.parked, s.sluice.long with
      | j :: js, _, _ => .next ({ s with sluice := { s.sluice with short := js } }.startPke u j)
      | [], (_, r) :: rs, _ => .next ({ s with sluice := { s.sluice with parked := rs } }.setUnit u (some { r with moving := some true }))
      | [], [], j :: js =>
        if s.longUnits < s.get PKE_CFG_LONG_MAX then .next ({ s with sluice := { s.sluice with long := js } }.startPke u j) else .next s
      | [], [], [] => .next s

/-- R415. Waiting short operations that neither a free unit nor one that is parking is to take. -/
def State.shortUnserved (s : State) : Nat :=
  s.sluice.short.length - (4 - s.sluice.units.length) - (s.sluice.units.filter (fun e => e.2.moving == some false)).length

/-- R414, R415, R419. A unit at a yield point: its long operation parks where a short one waits unserved, or the page is being quiesced. -/
def State.yieldAt (s : State) (u : Nat) : State :=
  match Map.find s.sluice.units u with
  | none => s
  | some r =>
    if r.job.long && r.moving.isNone && (s.quiet 0x410 || decide (0 < s.shortUnserved)) then
      (s.setUnit u (some { r with moving := some false })).add PKE_YIELD_CNT 1
    else s

/-- PKE_YIELD_POINT (R414, R415, R419): the units of `us` reach a yield point in one beat; the lowest-numbered ones park. -/
def execPkeYieldPoint (us : List Nat) (s : State) : Outcome :=
  event 0x410 s fun s => .next (((List.range 4).filter us.contains).foldl (fun t u => t.yieldAt u) s)

/-- PKE_PARK_DONE (R414): a parked operation leaves its unit; a restored one runs on. -/
def execPkeParkDone (u : Nat) (s : State) : Outcome :=
  event 0x410 s fun s =>
    match Map.find s.sluice.units u with
    | none => .next s
    | some r =>
      match r.moving with
      | none => .next s
      | some true => .next (s.setUnit u (some { r with moving := none }))
      | some false =>
        let store := ((List.range 4).find? (fun i => !s.sluice.parked.any (fun e => e.1 == i))).getD 0
        let s1 := s.setUnit u none
        .next { s1 with sluice := { s1.sluice with parked := s1.sluice.parked ++ [(store, { r with moving := none })] } }

/-- R404. The operations that end at V beats where a check fails. -/
def PkeRun.refused (r : PkeRun) : Bool :=
  (r.out.st == .range || r.out.st == .notOnCurve) && !r.job.loadsKey && r.job.op != 0x1B && r.job.op != 0x2B

/-- PKE_VALIDATION_END (R404): an operation that failed validation completes. -/
def execPkeValidationEnd (u : Nat) (s : State) : Outcome :=
  event 0x410 s fun s =>
    match Map.find s.sluice.units u with
    | none => .next s
    | some r => if r.moving.isNone && r.refused then .next ((s.setUnit u none).finishJob r.job r.out) else .next s

/-- R51, R301, R430. The output of an operation waits for the end of a quiesce or of an invalidation. -/
def State.outputHeld (s : State) (r : PkeRun) : Bool :=
  r.out.st == .ok && (match r.job.use with
    | .desc id => (match s.desc id with | some d => s.operandsHeld d (d.operands true) | none => false)
    | .sealDesc id _ => (match s.desc id with | some d => s.operandsHeld d (d.operands true) | none => false)
    | _ => false)

/-- PKE_OP_COMPLETE (R405): an operation completes; `fault` says that a fault check of its unit failed. -/
def execPkeOpComplete (u : Nat) (fault : Bool) (s : State) : Outcome :=
  event 0x410 s fun s =>
    match Map.find s.sluice.units u with
    | none => .next s
    | some r =>
      if r.moving.isSome || r.refused || s.outputHeld r then .next s
      else if fault then
        let s1 := ((s.setUnit u none).add PKE_FCHK_CNT 1).raise 0x410 0
        let s2 := (s1.capture 0x410 .internal (r.job.op + 256 * r.job.fn + 4096 * u) 0).fault 12 .internal r.job.fn 0 0 0 0
        .next (s2.finishJob r.job { st := .internal })
      else .next ((s.setUnit u none).finishJob r.job r.out)

end Sys2Proof.Machine
end

