-- ==== Sys2Proof/Machine/Counters.lean ====
section
/-!
DEFINITION. The synchronisation counters (chapter 08): operations, waits, watches, block holders and clears. Every operation takes one place in the
total order of R234: the order in which the commands take effect.
-/

namespace Sys2Proof.Machine

/-- A counter. -/
def State.counter (s : State) (c : Nat) : Counter := Map.get s.sync.counters {} c

/-- A counter takes contents. -/
def State.setCounter (s : State) (c : Nat) (v : Counter) : State := { s with sync := { s.sync with counters := Map.put {} s.sync.counters c v } }

/-- R247. The holder of a counter's block; 15 where it has none. -/
def State.ctrHolder (s : State) (c : Nat) : Nat := s.blockHolder (c / 64)

/-- The page of a counter. -/
def ctrPage (c : Nat) : Nat := 0x210 + c / 256

/-- R248. An event of a counter, on the copy of the page that its holder sees. -/
def State.raiseCtr (s : State) (c bit : Nat) : State := if s.ctrHolder c < 9 then s.raiseFn (s.ctrHolder c) (ctrPage c) bit else s

/-- R267. Operations on a counter are held: its page or SYNC page 0 is quiesced. -/
def State.ctrQuiet (s : State) (c : Nat) : Bool := s.quiet 0x210 || s.quiet (ctrPage c)

/-- R237. The pending waits on counter `c` are tested in their order against a value that satisfied WAIT_DECs lower; those left, and the value. -/
def testWaits (c : Nat) : Nat → List Wait → Nat × List Wait
  | x, [] => (x, [])
  | x, w :: ws =>
    if w.ctr = c ∧ w.value ≤ x then testWaits c (if w.dec then x - w.value else x) ws
    else let (y, l) := testWaits c x ws; (y, w :: l)

/-- R251. At the end of an operation, an armed watch whose threshold the value reaches fires. -/
def State.fireWatch (s : State) (c : Nat) : State :=
  let k := s.counter c
  if k.armed ∧ k.watch ≤ k.value then (s.setCounter c { k with armed := false, notify := true }).raiseCtr c 0 else s

/-- R235, R237, R251. A counter takes a value: a rise tests the pending waits, the end of the operation tests the watch. -/
def State.putValue (s : State) (c v : Nat) : State :=
  let k := s.counter c
  let (y, ws) := if k.value < v then testWaits c v s.sync.waits else (v, s.sync.waits)
  let s1 := s.setCounter c { k with value := y }
  { s1 with sync := { s1.sync with waits := ws } }.fireWatch c

/-- R235. A saturation flag of a counter is set; a new edge raises the page's SAT event. -/
def State.saturate (s : State) (c : Nat) (high : Bool) : State :=
  let k := s.counter c
  if high then (if k.satHi then s else (s.setCounter c { k with satHi := true }).raiseCtr c 1)
  else (if k.satLo then s else (s.setCounter c { k with satLo := true }).raiseCtr c 1)

/-- R235. The operations. -/
inductive CtrOp where
  | signal | sub | set | arm | disarm
  deriving DecidableEq, Repr

/-- R235. An operation with VALUE `v` on a counter. -/
def State.ctrOp (s : State) (op : CtrOp) (c v : Nat) : State :=
  let x := (s.counter c).value
  match op with
  | .signal => (if 65535 < x + v then s.saturate c true else s).putValue c (min (x + v) 65535)
  | .sub => (if x < v then s.saturate c false else s).putValue c (x - v)
  | .set => s.putValue c v
  | .arm => (s.setCounter c { s.counter c with armed := true, watch := v }).fireWatch c
  | .disarm => s.setCounter c { s.counter c with armed := false }

/-- R235, R236. A WAIT or WAIT_DEC takes effect: satisfied at once, or a pending wait of its slot. -/
def State.ctrWait (s : State) (w : Wait) : State :=
  let x := (s.counter w.ctr).value
  if w.value ≤ x then (if w.dec then s.putValue w.ctr (x - w.value) else s)
  else { s with sync := { s.sync with waits := s.sync.waits ++ [w] } }

/-- R239. The pending wait of a slot is withdrawn. -/
def State.withdrawWait (s : State) (core slot : Nat) : State :=
  { s with sync := { s.sync with waits := s.sync.waits.filter (fun w => !(w.core == core && w.slot == slot)) } }

/-- R236. A slot has a pending wait. -/
def State.waiting (s : State) (core slot : Nat) : Bool := s.sync.waits.any (fun w => w.core == core && w.slot == slot)

/-- R245. A remote signal arrives: applied where its block accepts remote signals and has a holder; otherwise denied and counted. -/
def State.remoteSignal (s : State) (member c v : Nat) : State × Bool :=
  let en := bitOf (s.get (SY_REMOTE_EN (c / 2048))) (c / 64 % 32)
  if en && decide (s.ctrHolder c < 9) then (s.ctrOp .signal c v, true)
  else (((s.add SY_REMOTE_DENY_CNT 1).raise 0x210 3).capture 0x210 .badAddr (member + 65536 * c) 0, false)

/-! ### Host commands (R248, R250, R264) -/

/-- The counter that a host command on a counter window names. -/
def windowCtr : Instr → Option Nat
  | .cntSignal _ c _ => some c
  | .cntSub _ c _ => some c
  | .cntSet _ c _ => some c
  | .cntArm _ c _ => some c
  | .cntDisarm _ c => some c
  | _ => none

/-- A page of the SYNC block. -/
def syncPage (page : Nat) : Bool := decide (0x210 ≤ page) && decide (page ≤ 0x21F)

/-- R234, R267. A withheld command of the SYNC block is due: no quiesce holds it. -/
def State.syncDue (s : State) (h : Nat × Instr) : Bool :=
  syncPage h.1 && (match windowCtr h.2 with | some c => !s.ctrQuiet c | none => true)

/-- R48, R49, R234, R249, R254. A counter operation of the host takes its place in the total order: behind those that reached the device before it, of whichever page, but for those
that a quiesce holds. It is recorded during a throttle stall. -/
def inOrderOf (page : Nat) (cmd : Instr) (s : State) (body : State → Outcome) : Outcome :=
  if s.stall || s.held.any s.syncDue then s.hold page cmd else body s

/-- R248, R250, R267. A host command on a counter's window: ignored where the function does not hold the block, recorded while its page is quiesced or
stalled. -/
def windowCmd (fn c : Nat) (cmd : Instr) (s : State) (body : State → State) : Outcome :=
  mmio fn (ctrPage c) s fun s =>
    if s.ctrHolder c ≠ fn then .next s
    else if s.ctrQuiet c then s.hold (ctrPage c) cmd
    else inOrderOf (ctrPage c) cmd s fun s => .next (body s)

/-- CNT_SIGNAL (R235, R250). -/
def execCntSignal (fn c v : Nat) (s : State) : Outcome := windowCmd fn c (.cntSignal fn c v) s (·.ctrOp .signal c (v % 65536))

/-- CNT_SUB (R235). -/
def execCntSub (fn c v : Nat) (s : State) : Outcome := windowCmd fn c (.cntSub fn c v) s (·.ctrOp .sub c (v % 65536))

/-- CNT_SET (R235). -/
def execCntSet (fn c v : Nat) (s : State) : Outcome := windowCmd fn c (.cntSet fn c v) s (·.ctrOp .set c (v % 65536))

/-- CNT_ARM (R235, R251). -/
def execCntArm (fn c v : Nat) (s : State) : Outcome := windowCmd fn c (.cntArm fn c v) s (·.ctrOp .arm c (v % 65536))

/-- CNT_DISARM (R235). -/
def execCntDisarm (fn c : Nat) (s : State) : Outcome := windowCmd fn c (.cntDisarm fn c) s (·.ctrOp .disarm c 0)

/-! ### Debugger commands (R254) -/

/-- R254, R267. A debugger command on the counter that DBG_SEL names; a quiesce does not hold it. -/
def debugCmd (fn : Nat) (cmd : Instr) (s : State) (body : Nat → State → State) : Outcome :=
  mmio fn 0x210 s fun s => inOrderOf 0x210 cmd s fun s => .next (body (s.get DBG_SEL) s)

/-- DBG_SIGNAL (R254). -/
def execDbgSignal (fn v : Nat) (s : State) : Outcome := debugCmd fn (.dbgSignal fn v) s fun c s => s.ctrOp .signal c (v % 65536)

/-- DBG_SUB (R254). -/
def execDbgSub (fn v : Nat) (s : State) : Outcome := debugCmd fn (.dbgSub fn v) s fun c s => s.ctrOp .sub c (v % 65536)

/-- DBG_SET (R254). -/
def execDbgSet (fn v : Nat) (s : State) : Outcome := debugCmd fn (.dbgSet fn v) s fun c s => s.ctrOp .set c (v % 65536)

/-- DBG_ARM (R254). -/
def execDbgArm (fn v : Nat) (s : State) : Outcome := debugCmd fn (.dbgArm fn v) s fun c s => s.ctrOp .arm c (v % 65536)

/-- DBG_DISARM (R254). -/
def execDbgDisarm (fn : Nat) (s : State) : Outcome := debugCmd fn (.dbgDisarm fn) s fun c s => s.ctrOp .disarm c 0

/-! ### Holders and clears (R247, R249, R255) -/

/-- R255. A block is cleared. -/
def State.clearBlock (s : State) (b : Nat) : State :=
  { s with sync := { s.sync with counters := Map.drop (fun c => c / 64 == b) s.sync.counters } }

/-- The pending waits on the counters of a block. -/
def State.blockWaits (s : State) (b : Nat) : List Wait := s.sync.waits.filter (fun w => w.ctr / 64 == b)

/-- R247, R249, R266. Register `r` of SY_BLK_FN can take `v`: defined codes, blocks 0 to 3 with the PF, no pending wait where a holder changes. -/
def State.holdersOk (s : State) (r v : Nat) : Bool :=
  (List.range 8).all (fun k =>
    let b := 8 * r + k
    let h := bitsOf v (4 * k) 4
    (decide (h ≤ 8) || h == 15) && (decide (4 ≤ b) || h == 0) && (h == s.blockHolder b || (s.blockWaits b).isEmpty))

/-- R249. Register `r` of SY_BLK_FN takes `v`, and every block whose holder changes is cleared, in one operation. -/
def State.setHolders (s : State) (r v : Nat) : State :=
  (List.range 8).foldl (fun t k => if bitsOf v (4 * k) 4 = s.blockHolder (8 * r + k) then t else t.clearBlock (8 * r + k)) (s.set (SY_BLK_FN r) v)

/-- SY_BLK_FN_WRITE (R247, R249). -/
def execSyBlkFnWrite (fn r v : Nat) (s : State) : Outcome :=
  mmio fn 0x210 s fun s => inOrderOf 0x210 (.syBlkFnWrite fn r v) s fun s =>
    if s.holdersOk r v then .next (s.setHolders r v) else .next (s.refuseWrite fn (SY_BLK_FN r).addr v)

/-- SY_BLK_CLR (R255): GO with a block. The clear takes its place in the total order here; its completion is reported later. -/
def execSyBlkClr (fn b : Nat) (s : State) : Outcome :=
  mmio fn 0x210 s fun s => inOrderOf 0x210 (.syBlkClr fn b) s fun s =>
    if s.sync.clearing.isSome then .next (s.refuseWrite fn SY_BLK_CLR_BLOCK.addr (b % 64 + 2 ^ 31))
    else match s.blockWaits (b % 64) with
      | w :: ws =>
        let (i, s1) := s.drawFree
        let c := ((w :: ws).getD (i % (ws.length + 1)) w).ctr
        .next ((s1.set SY_CLR_STAT_RESULT Status.badParam.code).capture 0x210 .badParam (b % 64 + 65536 * c) 0)
      | [] => .next ({ s.clearBlock (b % 64) with sync := { (s.clearBlock (b % 64)).sync with clearing := some (b % 64) } }.flag SY_CLR_STAT_BUSY true)

/-- BLK_CLEAR_DONE (R255): the clear is complete; CLR_DONE is raised. -/
def execBlkClearDone (s : State) : Outcome :=
  event 0x210 s fun s =>
    match s.sync.clearing with
    | none => .next s
    | some _ =>
      .next ((({ s with sync := { s.sync with clearing := none } }.flag SY_CLR_STAT_BUSY false).set SY_CLR_STAT_RESULT Status.ok.code).raise 0x210 4)

end Sys2Proof.Machine
end

