-- ==== Sys2Proof/Machine/Timebase.lean ====
section
/-!
DEFINITION. The timebase (chapter 02): its count, loads, the PPS discipline, the beat-rate windows. One unit of the fraction is 10^-10 ns, in which
the increment of R37, 0.8 ns × (1 + TB_TRIM × 10^-9), is a whole number.
-/

namespace Sys2Proof.Machine

/-- R37. What one timebase clock adds to the count, in units of 10^-10 ns. -/
def State.tbIncrement (s : State) : Nat := ((8000000000 : Int) + 8 * signed32 (s.get TB_TRIM)).toNat

/-- The count moves forward by a number of units; nanoseconds wrap into 48-bit seconds. -/
def Timebase.forward (t : Timebase) (u : Nat) : Timebase :=
  let f := t.frac + u
  let n := t.ns + f / 10000000000
  { t with frac := f % 10000000000, ns := n % 1000000000, sec := (t.sec + n / 1000000000) % 2 ^ 48 }

/-- A number of timebase clocks passes: a hold absorbs its share first (R40), and FREEZE is 1 while one remains. -/
def State.pass (s : State) (clocks : Nat) : State :=
  let u := clocks * s.tbIncrement
  let t := s.time
  let used := min u t.hold
  let t1 := ({ t with hold := t.hold - used, clocks := t.clocks + clocks }).forward (u - used)
  ({ s with time := t1 }).flag TB_STAT_FREEZE (decide (0 < t1.hold))

/-- Time passes up to clock number `c`; nothing passes where it is already behind. -/
def State.passTo (s : State) (c : Nat) : State := s.pass (c - s.time.clocks)

/-- R42. The tick index of the count. -/
def State.tickIndex (s : State) : Nat :=
  s.time.sec * (1000000000 / s.get TB_TICK_NS) + s.time.ns / s.get TB_TICK_NS

/-- R35. The value that a load takes, (TB_SEC_NEXT, 0) + TB_OFFSET, normalised. -/
def State.loadValue (s : State) : Ts :=
  let total : Int := (s.pair TB_SEC_NEXT_LO TB_SEC_NEXT_HI : Int) * 1000000000 + signed32 (s.get TB_OFFSET)
  { sec := (total / 1000000000 % (2 ^ 48 : Int)).toNat, ns := (total % 1000000000).toNat }

/-- R35. A load takes effect for an instant that lies a number of clocks back: the count restarts from its value, ARMED clears, LOADED is raised. -/
def State.load (s : State) (clocksBack : Nat) : State :=
  let v := s.loadValue
  let t := ({ s.time with sec := v.sec, ns := v.ns, frac := 0, hold := 0 }).forward (clocksBack * s.tbIncrement)
  let s1 := { s with time := t }
  (((s1.flag TB_STAT_ARMED false).flag TB_STAT_FREEZE false).flag TB_STAT_LOADED_ONCE true).raiseAll 2 1

/-- R35. ARM: with PPS_EN = 1 a load is armed for the next edge acted on; with PPS_EN = 0 it is made at once. -/
def State.arm (s : State) : State := if s.on TB_CTRL_PPS_EN then s.flag TB_STAT_ARMED true else s.load 0

/-- TB_ARM (R35). -/
def execTbArm (s : State) : Outcome := .next s.arm

/-- TB_PPS_EN_WRITE (R38, R41): setting PPS_EN starts afresh; clearing it drops an edge that has not been acted on and clears HOLDOVER and LOCKED.
ARM written in the same word acts under the new PPS_EN (R35). -/
def execTbPpsEnWrite (en arm : Bool) (s : State) : Outcome :=
  let s1 := if en == s.on TB_CTRL_PPS_EN then s
    else
      let s0 := { s with time := { s.time with rise := none, accepted := none } }
      let s0 := s0.flag TB_CTRL_PPS_EN en
      if en then s0 else (s0.flag TB_STAT_HOLDOVER false).flag TB_STAT_LOCKED false
  .next (if arm then s1.arm else s1)

/-- PPS_RISE (R38): while PPS_EN = 1 the rising transition is captured. -/
def execPpsRise (s : State) : Outcome :=
  .next (if s.on TB_CTRL_PPS_EN then { s with time := { s.time with rise := some (s.now, s.time.clocks) } } else s)

/-- PPS_GLITCH (R38): PPS_IN falls before 1 µs; the pulse is ignored and PPS_GLITCH raised. -/
def execPpsGlitch (s : State) : Outcome :=
  .next (if s.time.rise.isSome then ({ s with time := { s.time with rise := none } }).raiseAll 2 3 else s)

/-- R39. The error of a captured time: the captured time minus the nearest instant of the form (s, TB_OFFSET), the later one where both are half a
second away. -/
def ppsError (s : State) (captured : Ts) : Int :=
  let r := ((captured.ns : Int) - signed32 (s.get TB_OFFSET)) % 1000000000
  if r < 500000000 then r else r - 1000000000

/-- R39, R41. An accepted edge: LOCKED, HOLDOVER cleared, TB_EDGE_CNT counted, the interval of R41 restarted at the clock of its capture. -/
def State.acceptEdge (s : State) (clock : Nat) : State :=
  let s1 := { s with time := { s.time with accepted := some clock } }
  ((s1.flag TB_STAT_LOCKED true).flag TB_STAT_HOLDOVER false).add TB_EDGE_CNT 1

/-- R40. The correction of an error: forward at once where the local clock is slow, a hold where it is fast. -/
def State.correct (s : State) (err : Int) : State :=
  if err < 0 then { s with time := s.time.forward (err.natAbs * 10000000000) }
  else if err = 0 then s
  else (({ s with time := { s.time with hold := s.time.hold + err.natAbs * 10000000000 } }).flag TB_STAT_FREEZE true).raiseAll 2 6

/-- R39. What an edge, once acted on, does: the armed load, the comparison before the first load, or acceptance with a correction, or an outlier. -/
def State.actOnEdge (s : State) (captured : Ts) (clock : Nat) : State :=
  let err := ppsError s captured
  let s0 := s.raiseAll 2 0
  if s.on TB_STAT_ARMED then ((s0.load (s.time.clocks - clock)).set TB_PPS_ERR 0).acceptEdge clock
  else
    let s1 := s0.set TB_PPS_ERR (toSigned32 err)
    if !s.on TB_STAT_LOADED_ONCE then s1
    else if err.natAbs ≤ s.get TB_PPS_WINDOW then (s1.acceptEdge clock).correct err
    else (s1.raiseAll 2 4).flag TB_STAT_LOCKED false

/-- PPS_EDGE (R38, R39): 1 µs, which is 1,250 clocks, after its capture the edge is acted on. -/
def execPpsEdge (s : State) : Outcome :=
  match s.time.rise with
  | none => .next s
  | some (captured, clock) =>
    if !s.on TB_CTRL_PPS_EN then .next s
    else
      let s1 := s.passTo (clock + 1250)
      .next (({ s1 with time := { s1.time with rise := none } }).actOnEdge captured clock)

/-- FREEZE_END (R40): the hold ends and FREEZE clears. -/
def execFreezeEnd (s : State) : Outcome :=
  .next (s.pass ((s.time.hold + s.tbIncrement - 1) / s.tbIncrement))

/-- PPS_MISSING (R41): 1 s + TB_PPS_WINDOW after the last accepted edge, where none has been accepted since. R41 does not say in which time the interval
runs: the model counts cycles of the 1.25 GHz timebase clock, without the trim, from the capture of that edge (DESIGN CHOICE, log 95). -/
def execPpsMissing (s : State) : Outcome :=
  match s.time.accepted with
  | none => .next s
  | some clock =>
    if !s.on TB_CTRL_PPS_EN then .next s
    else
      let wait := ((1000000000 + s.get TB_PPS_WINDOW) * 10 + 7) / 8
      let s1 := s.passTo (clock + wait)
      .next ((((({ s1 with time := { s1.time with accepted := none } }).raiseAll 2 2).flag TB_STAT_HOLDOVER true).flag TB_STAT_LOCKED false))

/-- R632. The count of a die's reference ring over the window that ends: what the ring counted, 0 where the die's domain was not ON at any time of it. -/
def State.ringCount (s : State) (d beats : Nat) : Nat := if s.power.ringSeen.contains d then beats else 0

/-- R632. A new window begins: of the compute dies' domains, those that are ON now have been ON in it. -/
def State.nextWindow (s : State) : State := { s with power := { s.power with ringSeen := [5, 6].filter (fun d => s.domOn d) } }

/-- TB_RATE_WINDOW (R632): the window of 1,310,720 clocks ends, and the counts of the dies' reference rings are reported; the next window begins. -/
def execTbRateWindow (beatsA beatsB : Nat) (s : State) : Outcome :=
  let s1 := s.passTo ((s.time.clocks / 1310720 + 1) * 1310720)
  .next ((s1.set TB_RATE_A (s.ringCount 5 beatsA)).set TB_RATE_B (s.ringCount 6 beatsB)).nextWindow

/-- SKEW_MAX_CLR (R53). -/
def execSkewMaxClr (s : State) : Outcome := .next (s.set TB_SKEW_MAX 0)

end Sys2Proof.Machine
end

