-- ==== Sys2Proof/Machine/Tasks.lean ====
section
/-!
DEFINITION. The scheduler's engine (chapter 07): task items, the task store and its channels, spill areas, flows and ready lists, attention queues, delay
lists, and what the end of a task does to its flow and its source item.
-/

namespace Sys2Proof.Machine

/-! ### Access -/

/-- A flow beside its registers. -/
def State.flow (s : State) (w : Nat) : Flow := Map.get s.work.flows {} w

/-- A flow takes contents. -/
def State.setFlow (s : State) (w : Nat) (v : Flow) : State := { s with work := { s.work with flows := Map.put {} s.work.flows w v } }

/-- A channel beside its registers. -/
def State.channel (s : State) (k : Nat) : Channel := Map.get s.work.channels {} k

/-- A channel takes contents. -/
def State.setChannel (s : State) (k : Nat) (v : Channel) : State := { s with work := { s.work with channels := Map.put {} s.work.channels k v } }

/-- The tasks of delay list `d`, in sorted order, with their targets. -/
def State.delayList (s : State) (d : Nat) : List (Nat × Task) := Map.get s.work.delayed [] d

/-- A delay list takes contents. -/
def State.setDelayList (s : State) (d : Nat) (l : List (Nat × Task)) : State := { s with work := { s.work with delayed := Map.put [] s.work.delayed d l } }

/-- A group's ready list, oldest first. -/
def State.readyList (s : State) (g : Nat) : List ReadyFlow := Map.get s.work.ready [] g

/-- A ready list takes contents. -/
def State.setReadyList (s : State) (g : Nat) (l : List ReadyFlow) : State := { s with work := { s.work with ready := Map.put [] s.work.ready g l } }

/-- R203. The flow page of a flow, and the function that holds it. -/
def flowPage (w : Nat) : Nat := 0x201 + w / 512

/-- R203. The function that holds a flow's page. -/
def State.flowHolder (s : State) (w : Nat) : Nat := s.tripleHolder (1 + w / 512)

/-- A task in a slot. -/
def State.running (s : State) (core slot : Nat) : Option Running := Map.find s.work.slots (core * 4 + slot)

/-! ### Task items (R194) -/

/-- R194. The 32 bytes of a task item. -/
def Task.bytes (t : Task) : List Byte :=
  leBytes 2 (t.flow + 4096 * t.ctx) ++ leBytes 2 t.entry ++ leBytes 2 t.cost ++ leBytes 1 (t.tidx + 64 * b2n t.hasSrc) ++ leBytes 1 t.srcChain
    ++ leBytes 2 t.srcCell ++ leBytes 2 t.fn ++ leBytes 4 t.key ++ (t.args.take 4).flatMap (leBytes 4)

/-- R194. The task item that 32 bytes hold. -/
def Task.ofBytes (b : List Byte) : Task :=
  { flow := hdr b 0 2 % 4096, ctx := hdr b 0 2 / 4096, entry := hdr b 2 2, cost := hdr b 4 2 % 4096, tidx := hdr b 6 1 % 64,
    hasSrc := bitOf (hdr b 6 1) 6, srcChain := hdr b 7 1, srcCell := hdr b 8 2 % 8192, fn := hdr b 10 2 % 16, key := hdr b 12 4,
    args := [hdr b 16 4, hdr b 20 4, hdr b 24 4, hdr b 28 4] }

/-- R195. A posted item: the device-set fields are the device's. -/
def Task.posted (b : List Byte) (fn : Nat) : Task :=
  { Task.ofBytes b with tidx := 0, hasSrc := false, srcChain := 0, srcCell := 0, fn := fn }

/-! ### Attention (R229) -/

/-- R229. A flow page's FLOW_ATTN condition. -/
def State.attnLevel (s : State) (j : Nat) : Bool := (List.range 16).any (fun x => s.get (FLOW_ATTN j x) != 0)

/-- R228, R229. A flow's FLOW_ATTN bit follows its state: BLOCKED or STALE. -/
def State.attnRefresh (s : State) (w : Nat) : State :=
  let j := 1 + w / 512
  let f := FLOW_ATTN j (w % 512 / 32)
  let rest := s.get f - (if bitOf (s.get f) (w % 32) then 2 ^ (w % 32) else 0)
  let t := s.set f (rest + (if s.get (FLOW_STATE w) = 4 ∨ s.on (FLOW_STALE w) then 2 ^ (w % 32) else 0))
  t.raiseEdge (flowPage w) 0 (s.attnLevel j) (t.attnLevel j)

/-- R229. A flow becomes BLOCKED or STALE: an attention entry, or BQ_OVF where the queue holds 64. -/
def State.attention (s : State) (w core status tag : Nat) : State :=
  let j := 1 + w / 512
  let q := Map.get s.work.attention [] j
  let s1 := if q.length < 64 then
      { s with work := { s.work with attention := Map.put [] s.work.attention j (q ++ [⟨w % 512, core, status, tag⟩]) } }
    else s.raise (flowPage w) 1
  s1.attnRefresh w

/-! ### Flows and ready lists (R196 to R199) -/

/-- The flow stands on some ready list. -/
def State.listed (s : State) (w : Nat) : Bool := s.work.ready.any (fun e => e.2.any (fun x => x.flow == w))

/-- R198. A flow that may stand on its group's ready list. -/
def State.flowReady (s : State) (w : Nat) : Bool :=
  s.get (FLOW_STATE w) == 1 && !s.on (FLOW_STALE w) && !s.on (FLOW_HOLD w) && !(s.flow w).queue.isEmpty

/-- The flow leaves every ready list. -/
def State.unlist (s : State) (w : Nat) : State :=
  if s.listed w then
    { s with work := { s.work with ready := (s.work.ready.map (fun e => (e.1, e.2.filter (fun x => x.flow != w)))).filter (fun e => !e.2.isEmpty) } }
  else s

/-- R196, R198, R209. A flow between tasks is READY or IDLE as its queue holds tasks or not; it joins the tail of its group's ready list with the affinity its
registers now hold, or leaves the list. -/
def State.refresh (s : State) (w : Nat) : State :=
  let s := if s.get (FLOW_STATE w) ≤ 1 then s.set (FLOW_STATE w) (b2n !(s.flow w).queue.isEmpty) else s
  if !s.flowReady w then s.unlist w
  else if s.listed w then s
  else
    let g := s.get (FLOW_GROUP w)
    s.setReadyList g (s.readyList g ++ [⟨w, s.on (FLOW_ANY w), s.get (FLOW_CORE w)⟩])

/-- R197. A task joins its flow. -/
def State.joinFlow (s : State) (t : Task) : State :=
  let f := s.flow t.flow
  (s.setFlow t.flow { f with queue := f.queue ++ [t] }).refresh t.flow

/-- R201. A flow that a link-held item names becomes STALE. The core and TAG of its attention entry are open: no task of it failed. -/
def State.staleFlow (s : State) (w : Nat) : State :=
  let s1 := s.set (FLOW_LAST_STATUS w) Status.linkLost.code
  if s1.on (FLOW_STALE w) then s1
  else
    let (c, s2) := s1.drawFree
    let (t, s3) := s2.drawFree
    ((s3.flag (FLOW_STALE w) true).refresh w).attention w (c % 16) Status.linkLost.code (t % 2 ^ 32)

/-! ### Source items (R167, R207, R335) -/

/-- A new expansion, and its number. -/
def State.newExp (s : State) (fanout : Nat) (item : Option (Nat × Nat)) : Nat × State :=
  (s.work.nextExp, { s with work := { s.work with exps := s.work.exps ++ [{ id := s.work.nextExp, fanout := fanout, item := item }],
                                                  nextExp := s.work.nextExp + 1 } })

/-- R167. A task of an expansion has ended; when all have, open children become VOID. -/
def State.taskEnded (s : State) (id tidx : Nat) : State :=
  match s.exp id with
  | none => s
  | some e =>
    if e.ended.contains tidx then s
    else
      let s1 := s.setExp { e with ended := tidx :: e.ended }
      if e.ended.length + 1 = e.fanout then s1.childrenEnded id else s1

/-- R207, R335. An expansion whose every task is done: its item finishes, its binding and its children's records go. -/
def State.expFinished (s : State) (e : Expansion) : State :=
  let s1 := { s with work := { s.work with exps := s.work.exps.filter (fun x => x.id != e.id), children := s.work.children.filter (fun x => x.exp != e.id) } }
  match e.item with
  | some (_, k) => s1.finishCell k
  | none => s1

/-- R207. A task completed OK or was dropped: it is done for its source item. -/
def State.taskDone (s : State) (id tidx : Nat) : State :=
  let s1 := s.taskEnded id tidx
  match s1.exp id with
  | none => s1
  | some e =>
    if e.done.contains tidx then s1
    else
      let e1 := { e with done := tidx :: e.done }
      if e1.done.length = e.fanout then (s1.setExp e1).expFinished e1 else s1.setExp e1

/-! ### The task store and its channels (R217, R218) -/

/-- R218. The store entries a channel holds: tasks queued, delayed or in service. -/
def State.chanUsed (s : State) (k : Nat) : Nat :=
  s.work.flows.foldl (fun n e => n + (e.2.queue.filter (fun t => t.chan == k)).length + (match e.2.service with | some t => b2n (t.chan == k) | none => 0)) 0
    + s.work.delayed.foldl (fun n e => n + (e.2.filter (fun t => t.2.chan == k)).length) 0

/-- R223. SCH_STORE.FREE. -/
def State.storeFree (s : State) : Nat :=
  16384 - s.work.flows.foldl (fun n e => n + e.2.queue.length + b2n e.2.service.isSome) 0 - s.work.delayed.foldl (fun n e => n + e.2.length) 0

/-- R218. The MIN that a channel owns while it is enabled. -/
def State.chanMin (s : State) (k : Nat) : Nat :=
  if s.on (CHN_CTRL_ENABLE k) then ((s.channel k).cfg.map (·.min)).getD 0 else 0

/-- R218. The sum of MIN over the enabled channels. -/
def State.minSum (s : State) : Nat := (List.range 32).foldl (fun n k => n + s.chanMin k) 0

/-- R218. The free entries of the shared remainder. -/
def State.sharedFree (s : State) : Nat := 16384 - s.minSum - (List.range 32).foldl (fun n k => n + (s.chanUsed k - s.chanMin k)) 0

/-- R218. A channel can have `n` more entries. -/
def State.chanRoom (s : State) (k n : Nat) : Bool :=
  match (s.channel k).cfg with
  | none => false
  | some c =>
    s.on (CHN_CTRL_ENABLE k) && decide (s.chanUsed k + n ≤ c.quota)
      && decide ((s.chanUsed k + n - c.min) - (s.chanUsed k - c.min) ≤ s.sharedFree)

/-- R139, R219. The step of a number is a POST whose acknowledge is withheld. -/
def State.postHeld (s : State) (core slot seq : Nat) : Bool :=
  match s.running core slot with
  | some r => r.window.any (fun e => e.seq == seq && e.phase == .blocked && (match e.op with | .post .. => true | _ => false))
  | none => false

/-- R219. The posts that wait for an entry of a channel. -/
def State.postQueue (s : State) (k : Nat) : List (Nat × Nat × Nat × Nat) := (s.channel k).waiters.filter (fun w => s.postHeld w.2.1 w.2.2.1 w.2.2.2)

/-- R218. Some of `n` more entries of a channel come from the shared remainder. -/
def State.needsShared (s : State) (k n : Nat) : Bool :=
  match (s.channel k).cfg with
  | some c => decide (0 < (s.chanUsed k + n - c.min) - (s.chanUsed k - c.min))
  | none => false

/-- R218. A post that waits on channel `d` is before a place of all that wait, and could have an entry of the shared remainder now. -/
def State.sharedAhead (s : State) (k place d : Nat) : Bool :=
  d != k && s.needsShared d 1 && s.chanRoom d 1 && (match s.postQueue d with | w :: _ => decide (w.1 < place) | [] => false)

/-- R218, R219. A channel's source at a place of all that wait can have `n` entries: behind the posts that wait on the channel, and first come first served for the shared remainder. -/
def State.chanTurn (s : State) (k n place : Nat) : Bool :=
  s.chanRoom k n && (s.postQueue k).all (fun w => decide (place ≤ w.1)) && (!s.needsShared k n || !(List.range 32).any (s.sharedAhead k place))

/-- R223. An operation on the store, with the STORE_LOW edge it makes. -/
def State.storeWatched (s : State) (op : State → State) : State :=
  let t := op s
  t.raiseEdge 0x200 4 (decide (s.storeFree ≤ s.get SCH_STORE_LOW)) (decide (t.storeFree ≤ t.get SCH_STORE_LOW))

/-! ### Delay lists (R214, R215) -/

/-- R44. The index that counts as the last one delivered: while TICK_EN = 0, the current one. -/
def State.deliveredTick (s : State) : Nat := if s.on TB_CTRL_TICK_EN then s.time.lastTick else s.tickIndex

/-- R214. The target tick of a task accepted for list `d` with DELAY ≥ 1. -/
def State.tickTarget (s : State) (d delay : Nat) : Nat :=
  if s.on (SDL_CFG_MODE d) then (s.pair (SDL_BASE_LO d) (SDL_BASE_HI d) + delay) % 2 ^ 64 else (s.deliveredTick + delay) % 2 ^ 64

/-- R215. A sorted list with a task after those of equal target. -/
def insertDelayed (t : Nat) (x : Task) : List (Nat × Task) → List (Nat × Task)
  | [] => [(t, x)]
  | (u, y) :: l => if t < u then (t, x) :: (u, y) :: l else (u, y) :: insertDelayed t x l

/-- R214. A task enters the store: a delayed one its list, or its flow where its target has passed. -/
def State.enter (s : State) (x : Task) (delay : Option (Nat × Nat)) : State :=
  match delay with
  | none => s.joinFlow x
  | some (d, t) => if t ≤ s.deliveredTick then s.joinFlow x else s.setDelayList d (insertDelayed t x (s.delayList d))

/-- R215. Delay list `d` releases every task whose target is at or below a tick. -/
def State.releaseDue (s : State) (tick d : Nat) : State :=
  let l := s.delayList d
  (l.filter (fun e => decide (e.1 ≤ tick))).foldl (fun t e => t.joinFlow e.2) (s.setDelayList d (l.filter (fun e => !decide (e.1 ≤ tick))))

/-- R51, R52, R230. The delay lists do not release now: the scheduler is off, quiesced or stalled. -/
def State.releaseHeld (s : State) : Bool := !s.pageOn 0x200 || s.quiet 0x200 || s.stall

/-- R44, R215, R230. Every delay list releases the tasks whose tick has been delivered; nothing moves while that is held. -/
def State.releaseLists (s : State) : State :=
  if s.releaseHeld then s else (List.range 4).foldl (fun t d => t.releaseDue s.time.lastTick d) s

/-! ### Spill areas (R219 to R222) -/

/-- R221. The lines of a spill ring. -/
def ChannelCfg.lines (c : ChannelCfg) : Nat := c.size * 32

/-- R225. CHN_SPILL_CNT. -/
def State.spillCnt (s : State) (k : Nat) : Nat := (s.channel k).ring.length

/-- R622. Some channel's spill ring is full. -/
def State.spillFull (s : State) : Bool :=
  s.work.channels.any (fun e => match e.2.cfg with | some c => c.spill && e.2.ring.length == c.lines | none => false)

/-- R622. Some channel shows SPILL_LOST. -/
def State.spillLost (s : State) : Bool := (List.range 32).any (fun k => s.on (CHN_STAT_SPILL_LOST k))

/-- R222. A spill read or write fails at a byte offset of the area: SPILL_LOST, captured by page 0. -/
def State.loseSpill (s : State) (k off : Nat) (st : Status) : State :=
  ((s.flag (CHN_STAT_SPILL_LOST k) true).capture 0x200 st k off).raiseEdge 0x200 3 s.spillLost true

/-- R221. The 64-bit timestamp of a moment. -/
def Ts.ts64 (t : Ts) : Nat := t.ns + t.sec % 2 ^ 34 * 2 ^ 30

/-- R221. The bytes of a channel's spill header. -/
def Channel.header (x : Channel) (c : ChannelCfg) (k : Nat) (now : Ts) : List Byte :=
  leBytes 4 x.prod ++ leBytes 4 x.cons ++ leBytes 4 c.lines ++ leBytes 4 k ++ leBytes 8 now.ts64 ++ leBytes 4 x.flushed ++ List.replicate 4068 0

/-- R222. Lines of a spill header, given by their numbers, are written in order; the first that fails loses the area. -/
def State.headerLines (s : State) (k base : Nat) (h : List Byte) : List Nat → State
  | [] => s
  | i :: is =>
    match s.hbmWrite (.home 4) 0 0 0 (base + 128 * i) ((h.drop (128 * i)).take 128) with
    | (t, .ok) => t.headerLines k base h is
    | (t, st) => t.loseSpill k (128 * i) st

/-- R221. The spill header of a channel is written. -/
def State.spillHeader (s : State) (k : Nat) : State :=
  match (s.channel k).cfg with
  | none => s
  | some c => s.headerLines k c.base ((s.channel k).header c k s.now) (List.range 32)

/-- R221. The channels of the quiesced scheduler write their headers (assumption 111). -/
def State.spillHeaders (s : State) : State :=
  (List.range 32).foldl (fun t k => if (t.channel k).cfg.any (·.spill) then t.spillHeader k else t) s

/-- R221. The 128 bytes of a spill entry. -/
def spillEntry (x : Task) (delay : Option (Nat × Nat)) : List Byte :=
  x.bytes ++ leBytes 8 ((delay.map (·.2)).getD 0) ++ leBytes 4 x.seq ++ leBytes 1 ((delay.map (·.1)).getD 0 + 4 * b2n delay.isSome) ++ leBytes 3 0
    ++ leBytes 8 x.accepted.ts64 ++ List.replicate 72 0

/-- R219, R221, R227. A task goes behind the spill area's last entry. -/
def State.spill (s : State) (k : Nat) (x : Task) (delay : Option (Nat × Nat)) : State :=
  let ch := s.channel k
  match ch.cfg with
  | none => s
  | some c =>
    let off := 0x1000 + 128 * (ch.prod % c.lines)
    let s1 := match s.hbmWrite (.home 4) 0 0 0 (c.base + off) (spillEntry x delay) with
      | (t, .ok) => t
      | (t, st) => t.loseSpill k off st
    let s2 := s1.setChannel k { s1.channel k with prod := (ch.prod + 1) % 2 ^ 32, ring := ch.ring ++ [(x.exp, x.tidx, x.fn)] }
    let s3 := if ch.ring.isEmpty then ((s2.set SCH_SPILL_CHN k).raise 0x200 1).spillHeader k else s2
    if ch.ring.length + 1 = c.lines ∧ !s.spillFull then (s3.set SCH_SPILL_CHN k).raise 0x200 2 else s3

/-- Where a channel takes new tasks: into the store, into the spill area, or nowhere for now. -/
inductive Route3 where
  | store | spill | wait
  deriving DecidableEq, Repr

/-- R301. The spill writes of `n` more tasks of a channel wait for the end of a quiesce. -/
def State.spillHeld (s : State) (k n : Nat) : Bool :=
  let ch := s.channel k
  match ch.cfg with
  | some c => (List.range n).any (fun i => s.hbmHeld 0 (c.base + 0x1000 + 128 * ((ch.prod + i) % c.lines)) 128) || (ch.ring.isEmpty && s.hbmHeld 0 c.base 4096)
  | none => false

/-- R301. The header of a channel's spill area cannot be written now, for a quiesce. -/
def State.headerHeld (s : State) (k : Nat) : Bool :=
  match (s.channel k).cfg with
  | some c => c.spill && s.hbmHeld 0 c.base 4096
  | none => false

/-- R219, R222, R226. Where `n` new tasks of a channel go at once, from a source at a place of all that wait. -/
def State.route3 (s : State) (k n place : Nat) : Route3 :=
  match (s.channel k).cfg with
  | none => .wait
  | some c =>
    if !s.on (CHN_CTRL_ENABLE k) then .wait
    else
      let room := decide (s.spillCnt k + n ≤ c.lines)
      if !c.spill || s.on (CHN_STAT_SPILL_LOST k) then (if s.chanTurn k n place then .store else .wait)
      else if s.spillCnt k = 0 && s.chanTurn k n place then .store
      else if room && !s.spillHeld k n then .spill else .wait

/-- R197, R217, R219. A channel accepts tasks of a source at a place of all that wait, in their order; false where they must wait. -/
def State.accept (s : State) (k : Nat) (xs : List (Task × Option (Nat × Nat))) (place : Nat := s.work.nextWait) : State × Bool :=
  match s.route3 k xs.length place with
  | .wait => (s, false)
  | r =>
    (s.storeWatched fun s => xs.foldl
      (fun t (x, d) =>
        let ch := t.channel k
        let y := { x with chan := k, seq := ch.seq, accepted := t.now }
        let t1 := t.setChannel k { ch with seq := (ch.seq + 1) % 2 ^ 32 }
        if r = .store then t1.enter y d else t1.spill k y d) s, true)

/-- R214. DELAY 0 joins at once; else the list and the target fixed now. -/
def State.delayOf (s : State) (d delay : Nat) : Option (Nat × Nat) := if delay = 0 then none else some (d, s.tickTarget d delay)

/-- R195, R214, R217. A post of function `fn`: BAD_ADDR where the flow's page is not the function's; none where the task must wait. -/
def State.post (s : State) (fn : Nat) (item : List Byte) (d delay : Nat) (place : Nat := s.work.nextWait) : Option (State × Status) :=
  let x := Task.posted item fn
  if s.flowHolder x.flow ≠ fn then some (s, .badAddr)
  else
    let (e, s1) := s.newExp 1 none
    match s1.accept (s.get (FN_SCHED_POST_CHAN fn)) [({ x with exp := e }, s.delayOf d delay)] place with
    | (t, true) => some (t, .ok)
    | (_, false) => none

/-! ### The end of a task (R125 to R127, R199) -/

/-- R513. A flow with no task in service becomes BLOCKED by a notice. The TAG of its attention entry is open: no step failed here. -/
def State.blockFlow (s : State) (w core : Nat) : State :=
  let (t, s1) := s.drawFree
  ((((s1.setFlow w { s1.flow w with notice := false }).set (FLOW_STATE w) 4).set (FLOW_LAST_STATUS w) Status.remoteErr.code).unlist w).attention
    w core Status.remoteErr.code (t % 2 ^ 32)

/-- R513. A notice blocks a flow: at once, or when the task in service has completed. -/
def State.noticeFlow (s : State) (w : Nat) : State :=
  if s.get (FLOW_STATE w) = 2 ∨ s.get (FLOW_STATE w) = 3 then s.setFlow w { s.flow w with notice := true }
  else let (c, s1) := s.drawFree; s1.blockFlow w (c % 16)

/-- R127, R199, R207, R229. The task in service of a flow ends with a status; what it has lost on the links (R244) is forgotten with it. -/
def State.flowEnds (s : State) (w core : Nat) (st : Status) (tag : Nat) : State :=
  match (s.flow w).service with
  | none => s
  | some x =>
    let s1 := s.set (FLOW_LAST_STATUS w) st.code
    match st with
    | .ok =>
      let s1 := { s1 with link := { s1.link with lost := s1.link.lost.filter (fun e => e.1 != w) } }
      let s2 := ((s1.setFlow w { s1.flow w with service := none }).set (FLOW_STATE w) 0).taskDone x.exp x.tidx
      if (s.flow w).notice then s2.blockFlow w core else s2.refresh w
    | .preempted => s1.set (FLOW_STATE w) 3
    | _ =>
      let s1 := { s1 with link := { s1.link with lost := s1.link.lost.filter (fun e => e.1 != w) } }
      ((((s1.setFlow w { s1.flow w with notice := false }).set (FLOW_STATE w) 4).voidChildren x.exp).taskEnded x.exp x.tidx).attention w core st.code tag

/-! ### Bindings of items to weight copies (R334 to R336) -/

/-- R333. The set that a context of a core selects. -/
def State.ctxSet (s : State) (core ctx : Nat) : Option Nat :=
  let v := bitsOf (s.get (W_CTX_SET core (ctx / 8))) (4 * (ctx % 8)) 4
  if v < 8 then some v else none

/-- R335. The items bound to copy `k` of a set that have not finished. -/
def State.boundCnt (s : State) (e k : Nat) : Nat := (s.work.exps.filter (fun x => x.bound == some (some (e, k)))).length

/-- R336, R347. First tasks of items wait while their set has HOLD, or is DRAINING, RELOADING or FAILED, until a FILL has mended it. -/
def State.setWaits (s : State) (e : Nat) : Bool :=
  s.on (WSET_CTRL_HOLD e) || s.get (WSET_STAT_STATE e) == 3 || s.get (WSET_STAT_STATE e) == 4 || (Map.get s.work.wsets {} e).failed

/-- R336. The task is the first of its item and its set makes it wait. -/
def State.firstWaits (s : State) (core : Nat) (x : Task) : Bool :=
  match s.exp x.exp, s.ctxSet core x.ctx with
  | some e, some z => e.bound.isNone && s.setWaits z
  | _, _ => false

/-- R334. The item of a task is bound at its first task's dispatch. -/
def State.bindItem (s : State) (core : Nat) (x : Task) : State :=
  match s.exp x.exp with
  | none => s
  | some e =>
    if e.bound.isSome then s
    else s.setExp { e with bound := some ((s.ctxSet core x.ctx).map (fun z => (z, s.get (WSET_STAT_CUR z)))) }

/-- R334. The task's context selects another set than its item is bound to. -/
def State.wrongSet (s : State) (core : Nat) (x : Task) : Bool :=
  match s.exp x.exp, s.ctxSet core x.ctx with
  | some e, some z => (match e.bound with | some (some (b, _)) => b != z | some none => true | none => false)
  | _, _ => false

/-! ### Gets, selection and dispatch (R208 to R212) -/

/-- R208. The groups that a slot's get may draw from. -/
def State.getMask (s : State) (core slot : Nat) : Nat := s.get (SLOT_GRP core slot) &&& s.get (FN_SCHED_GRP_MASK (s.coreHolder core))

/-- R196, R230, R336. A flow on a ready list admits a core now. -/
def State.flowAdmits (s : State) (core : Nat) (r : ReadyFlow) : Bool :=
  (r.any || r.core == core) && !s.quiet (flowPage r.flow)
    && (match (s.flow r.flow).queue with | x :: _ => !s.firstWaits core x | [] => false)

/-- R208, R209. The flow whose head task group `g` offers to a get. -/
def State.groupHead (s : State) (core slot g : Nat) : Option Nat :=
  if s.get (GRP_W g) = 0 ∨ !bitOf (s.getMask core slot) g then none
  else ((s.readyList g).find? (s.flowAdmits core)).map (·.flow)

/-- R208. Some group is eligible for a get. -/
def State.eligible (s : State) (core slot : Nat) : Bool := (List.range 8).any (fun g => (s.groupHead core slot g).isSome)

/-- R209. The cost of a flow's head task. -/
def State.headCost (s : State) (w : Nat) : Nat := match (s.flow w).queue with | x :: _ => x.cost + 1 | [] => 0

/-- R209. PTR moves on to the next group. -/
def State.advancePtr (s : State) : State :=
  let g := s.get SCH_PTR
  let s1 := if (s.readyList g).isEmpty then s.set (GRP_STAT_DEF g) 0 else s
  let n := (g + 1) % 8
  let s2 := s1.set SCH_PTR n
  if (s2.readyList n).isEmpty then s2 else s2.set (GRP_STAT_DEF n) (min (s2.get (GRP_STAT_DEF n) + s2.get (GRP_W n)) (s2.get SCH_DEF_CAP))

/-- R209. The deficit weighted round robin: the flow selected. -/
def State.select (s : State) (core slot : Nat) : Nat → Option (Nat × State)
  | 0 => none
  | fuel + 1 =>
    let g := s.get SCH_PTR
    match s.groupHead core slot g with
    | some w =>
      if s.headCost w ≤ s.get (GRP_STAT_DEF g) then
        some (w, ((s.set (GRP_STAT_DEF g) (s.get (GRP_STAT_DEF g) - s.headCost w)).add (GRP_DISP_CNT g) 1).add (GRP_UNITS g) (s.headCost w))
      else s.advancePtr.select core slot fuel
    | none => s.advancePtr.select core slot fuel

/-- A slot takes a task, or none. -/
def State.setRunning (s : State) (core slot : Nat) (r : Option Running) : State :=
  { s with work := { s.work with slots := (match r with | some v => Map.insert s.work.slots (core * 4 + slot) v | none => Map.erase s.work.slots (core * 4 + slot)) } }

/-- R119, R155. The first step of a task: its context enabled and LOADED, its entry in the image's table. -/
def State.entryStep (s : State) (core : Nat) (x : Task) : Option Nat :=
  if !s.on (CTX_CTRL_ENABLE core x.ctx) || !s.on (CTX_STAT_LOADED core x.ctx) then none
  else match Map.find s.work.images (core * 16 + x.ctx) with
    | none => none
    | some i => if x.entry < i.entryCnt then i.entries[x.entry]? else none

/-- R159, R127. A task fails: the sequencer captures its status with the failing step's index and opcode, TASK_FAIL is raised. -/
def State.taskFail (s : State) (core slot : Nat) (x : Task) (st : Status) (step opcode : Nat) : State :=
  (s.capture (0x107 + 16 * core) st (step % 2 ^ 20 + 2 ^ 20 * slot + 2 ^ 24 * x.ctx) (x.flow + 65536 * opcode)).raise (0x107 + 16 * core) 0

/-- R120, R121, R155, R334. A dispatched task reaches its slot: it starts, or completes BAD_PARAM without running, in which case the step index, opcode and TAG
reported are open (assumption 32). -/
def State.startTask (s : State) (core slot : Nat) (x : Task) : State :=
  let wrong := s.wrongSet core x
  let s := (((s.bindItem core x).set (SLOT_STAT_CTX core slot) x.ctx).set (SLOT_STAT_FLOW core slot) x.flow)
  match (if wrong then none else s.entryStep core x) with
  | some pc =>
    let regs := 0 :: (x.args.map (fun a => a * 128 % 2 ^ 40) ++ List.replicate 11 0)
    let r : Running := { task := x, sel := s.ctxSet core x.ctx, pc := pc, aregs := regs }
    ((s.setRunning core slot (some r)).set (SLOT_STAT_STATE core slot) 2).set (SLOT_STEP core slot) pc
  | none =>
    let (a, s1) := s.drawFree
    let (b, s2) := s1.drawFree
    let (c, s3) := s2.drawFree
    ((s3.taskFail core slot x .badParam a (b % 256)).set (SLOT_TAG core slot) c).flowEnds x.flow core .badParam (c % 2 ^ 32)

end Sys2Proof.Machine
end

