-- ==== Sys2Proof/Machine/Weights.lean ====
section
/-!
DEFINITION. The weight sets (chapter 11): windows and their translation, fills, manifests, the pointer switch, and the chip epoch that follows them (R568).
-/

namespace Sys2Proof.Machine

/-! ### Access -/

/-- A weight set beside its registers. -/
def State.wset (s : State) (e : Nat) : WeightSet := Map.get s.work.wsets {} e

/-- A weight set takes contents. -/
def State.setWset (s : State) (e : Nat) (v : WeightSet) : State := { s with work := { s.work with wsets := Map.put {} s.work.wsets e v } }

/-- A weight set's command in progress takes contents. -/
def State.setJob (s : State) (e : Nat) (j : Option SetJob) : State := s.setWset e { s.wset e with job := j }

/-- R331, R344. The first line of copy `k`. -/
def SetCfg.baseOf (c : SetCfg) (k : Nat) : Nat := if c.mode = 2 ∧ k = 1 then c.base1 else c.base0

/-- A reload of a set has failed and no FILL has mended it, or no longer. -/
def State.setFailed (s : State) (e : Nat) (b : Bool) : State := s.setWset e { s.wset e with failed := b }

/-- R347. The code of the state that a set at rest is in: READY, or FAILED. -/
def State.restState (s : State) (e : Nat) : Nat := if (s.wset e).failed then 6 else 1

/-- R330, R344. The copy regions of a set on each core of its mask. -/
def SetCfg.regions (c : SetCfg) : List Nat := if c.mode = 2 then [c.base0, c.base1] else [c.base0]

/-- R344, R354. The valid-mask register that shows copy `k`: in SINGLE mode that of CUR. -/
def State.validField (s : State) (e k : Nat) : Field :=
  let i := match (s.wset e).cfg with | some c => if c.mode = 1 then s.get (WSET_STAT_CUR e) else k | none => k
  if i = 0 then WSET_VALID0 e else WSET_VALID1 e

/-- R332. A core holds copy `k`: its bit in the copy's valid mask. -/
def State.holds (s : State) (e k core : Nat) : Bool :=
  let single := match (s.wset e).cfg with | some c => c.mode == 1 | none => false
  !(single && k != s.get (WSET_STAT_CUR e)) && bitOf (s.get (s.validField e k)) core

/-- A core's bit in the valid mask of copy `k` takes a value. -/
def State.setHolds (s : State) (e k core : Nat) (b : Bool) : State :=
  let f := s.validField e k
  let v := s.get f
  let rest := if bitOf v core then v - 2 ^ core else v
  s.set f (rest + if b then 2 ^ core else 0)

/-- The cores of a mask, in increasing order. -/
def coresOf (m : Nat) : List Nat := (List.range 16).filter (bitOf m)

/-- R340. The rank of a core among the cores of a mask. -/
def rankOf (m core : Nat) : Nat := ((coresOf m).filter (fun n => decide (n < core))).length

/-- R345. The power domain of a core is ON. -/
def State.coreOn (s : State) (core : Nat) : Bool := s.pageOn (0x100 + 16 * core)

/-! ### Window accesses of steps (R331, R332) -/

/-- Two line ranges meet. -/
def meet (a n b m : Nat) : Bool := decide (0 < n) && decide (0 < m) && decide (a < b + m) && decide (b < a + n)

/-- R331. A pass-through range touches a copy region of an applied set on the core. -/
def State.touchesCopy (s : State) (core off n : Nat) : Bool :=
  (List.range 8).any (fun e => match (s.wset e).cfg with
    | some c => bitOf c.cores core && c.regions.any (fun b => meet off n (b * 128) (c.len * 128))
    | none => false)

/-- R331, R332. The physical offset of a WS range of a task that selected set `sel` and whose item is bound as `bound`; none where it is refused. -/
def State.wsOffset (s : State) (core : Nat) (sel : Option Nat) (bound : Option (Nat × Nat)) (off n : Nat) (write : Bool) : Option Nat :=
  let len := match sel with | some e => (match (s.wset e).cfg with | some c => c.len * 128 | none => 0) | none => 0
  if 29360128 < off + n then none
  else if off + n ≤ len ∧ 0 < len then
    match sel, bound with
    | some e, some (b, k) =>
      (match (s.wset e).cfg with
       | some c => if write || b != e || !s.holds e k core then none else some (c.baseOf k * 128 + off)
       | none => none)
    | _, _ => none
  else if off < len ∨ s.touchesCopy core off n then none
  else some off

/-! ### The chip epoch (R568) -/

/-- R568. CHIP_EPOCH rises by 1, and with it the CORE_EPOCH of every admitted core. -/
def State.bumpEpoch (s : State) : State :=
  let e := (s.get CHIP_EPOCH + 1) % 2 ^ 32
  (coresOf (s.get FT_CORE_ADM)).foldl (fun t n => t.set (CORE_EPOCH n) e) (s.set CHIP_EPOCH e)

/-! ### Commands and their ends (R341, R355) -/

/-- R348, R355. A set's command is in progress. -/
def State.wsetBusy (s : State) (e : Nat) : Bool :=
  (s.wset e).job.isSome || s.get (WSET_STAT_STATE e) == 2 || s.get (WSET_STAT_STATE e) == 3 || s.get (WSET_STAT_STATE e) == 4

/-- R355. A command of a set is refused or fails: RESULT and ERR_CODE, the OP, copy and core. ERR_INFO1 is MAN_ENTRY and the failing TENSOR_ID `tensor`, in turn. -/
def State.wsetError (s : State) (e op copy core tensor : Nat) (st : Status) : State :=
  let t := (s.set (WSET_STAT_RESULT e) st.code).capture (0x321 + e) st (op + 16 * copy + 256 * core) (s.get (MAN_ENTRY e))
  t.setPage (0x321 + e) { t.page (0x321 + e) with errNext := some (tensor % 2 ^ 32) }

/-- A command of a set page: refused while BUSY, refused by its own check, else carried out. -/
def wsetCmd (fn e op copy core : Nat) (c : Instr) (s : State) (check : State → Status) (body : State → State) : Outcome :=
  command fn (0x321 + e) c s fun s =>
    if s.wsetBusy e then .next (s.wsetError e op copy core 0 .badParam)
    else match check s with
      | .ok => .next (body (s.set (WSET_STAT_RESULT e) Status.ok.code))
      | st => .next (s.wsetError e op copy core 0 st)

/-! ### APPLY (R352) -/

/-- R354, R568. CUR takes a value; a change of it is timed and counted in the epoch. -/
def State.setCur (s : State) (e v : Nat) : State :=
  if s.get (WSET_STAT_CUR e) = v then s
  else (((s.set (WSET_STAT_CUR e) v).set (SW_TIME_NS e) s.now.ns).set (SW_TIME_SEC e) s.now.sec).bumpEpoch

/-- R352. The configuration that a set's registers hold. -/
def State.wsetRegs (s : State) (e : Nat) : SetCfg :=
  { mode := s.get (WSET_CFG_MODE e), cores := s.get (WSET_CFG_CORES e), len := s.get (WSET_LEN e), base0 := s.get (WSET_BASE0 e), base1 := s.get (WSET_BASE1 e) }

/-- R13, R352. A configuration's regions, none of them empty, reach past the store, or into those of another applied set on a common core. -/
def State.noRoomFor (s : State) (e : Nat) (c : SetCfg) : Bool :=
  c.regions.any (fun b => (c.len != 0 && decide (229376 < b + c.len))
    || (List.range 8).any (fun o => o != e && (match (s.wset o).cfg with
      | some d => (c.cores &&& d.cores) != 0 && d.regions.any (fun x => meet b c.len x d.len)
      | none => false)))

/-- R352. What refuses an APPLY, in the rule's own order. -/
def State.wsetApplyStatus (s : State) (e : Nat) : Status :=
  let c := s.wsetRegs e
  if (c.mode = 1 ∨ c.mode = 2) ∧ s.noRoomFor e c then .refusedCapacity
  else if c.mode == 3 || (coresOf c.cores).any (fun n => s.coreHolder n != s.setHolder e) || (c.mode == 2 && meet c.base0 c.len c.base1 c.len)
      || !s.on (WSET_CTRL_HOLD e) || s.boundCnt e 0 != 0 || s.boundCnt e 1 != 0 then .badParam
  else .ok

/-- WSET_APPLY (R352). -/
def execWsetApply (fn e : Nat) (s : State) : Outcome :=
  wsetCmd fn e 1 0 0 (.wsetApply fn e) s (·.wsetApplyStatus e) fun s =>
    let c := s.wsetRegs e
    ((((s.setCur e 0).setWset e { cfg := if c.mode = 0 then none else some c }).set (WSET_VALID0 e) 0).set (WSET_VALID1 e) 0).set (WSET_STAT_STATE e) (b2n (c.mode != 0))

/-! ### Fills (R340 to R345) -/

/-- R341, R344. What refuses a FILL or MAN_APPLY of copy `k`. -/
def State.copyStatus (s : State) (e k : Nat) : Status :=
  match (s.wset e).cfg with
  | none => .badParam
  | some c =>
    let cur := s.get (WSET_STAT_CUR e)
    if c.mode = 1 ∧ k ≠ cur then .badParam
    else if k = cur ∧ (!s.on (WSET_CTRL_HOLD e) ∨ s.boundCnt e k ≠ 0) then .badParam
    else .ok

/-- R341, R347. A fill has completed on every core; a successful one of the current copy mends a failed reload. -/
def State.fillDone (s : State) (e : Nat) (j : SetJob) : State :=
  let s0 := if j.st = .ok ∧ j.copy = s.get (WSET_STAT_CUR e) then (s.setJob e none).setFailed e false else s.setJob e none
  let s1 := ((s0.set (WSET_STAT_STATE e) (s0.restState e)).set (WSET_STAT_RESULT e) j.st.code).raise (0x321 + e) 1
  if j.copy = s.get (WSET_STAT_CUR e) then s1.bumpEpoch else s1

/-- R341, R345. A fill or reload starts: the valid bits of its cores clear, cores that are not ON have no part. -/
def State.startParts (s : State) (e : Nat) (j : SetJob) : State :=
  let s1 := j.parts.foldl (fun t n => t.setHolds e j.copy n false) s
  s1.setJob e (some { j with parts := j.parts.filter s.coreOn, waiting := false })

/-- R338, R341. A FILL or MAN_APPLY whose copy is free starts. -/
def State.startJob (s : State) (e : Nat) (j : SetJob) : State :=
  let s1 := s.set (WSET_STAT_STATE e) 5
  if j.op = 6 then s1.setJob e (some { j with waiting := false })
  else
    let s2 := s1.startParts e j
    match (s2.wset e).job with
    | some k => if k.parts.isEmpty then s2.fillDone e k else s2
    | none => s2

/-- R341. A FILL or MAN_APPLY is accepted: it waits for the items bound to its copy, or starts. -/
def State.acceptJob (s : State) (e : Nat) (j : SetJob) : State :=
  if s.boundCnt e j.copy = 0 then s.startJob e j else s.setJob e (some { j with waiting := true })

/-- WSET_FILL (R341, R344). -/
def execWsetFill (fn e copy : Nat) (s : State) : Outcome :=
  wsetCmd fn e 2 (copy % 2) 0 (.wsetFill fn e copy) s (·.copyStatus e (copy % 2)) fun s =>
    let cores := match (s.wset e).cfg with | some c => c.cores &&& s.get (WSET_OPCORES e) | none => 0
    s.acceptJob e { op := 2, copy := copy % 2, parts := coresOf cores }

/-- WSET_COPY_FREED (R341): the BOUND count of a waiting command's copy has reached 0. -/
def execWsetCopyFreed (e : Nat) (s : State) : Outcome :=
  event (0x321 + e) s fun s =>
    match (s.wset e).job with
    | some j => if j.waiting && s.boundCnt e j.copy == 0 then .next (s.startJob e j) else .next s
    | none => .next s

/-- R282. A read of function addresses by an engine, one 2 MiB unit at a time, with the code of its agent (R325). -/
def State.engineRead (s : State) (agent fn : Nat) : Nat → Nat → Nat → State × Status × List Byte
  | 0, _, _ => (s, .ok, [])
  | fuel + 1, addr, n =>
    if n = 0 then (s, .ok, [])
    else
      let k := min n (2 ^ 21 - addr % 2 ^ 21)
      match s.hbmRead (.home agent) fn 0 0 addr k with
      | (t, .ok, b) => let (u, st, rest) := t.engineRead agent fn fuel (addr + k) (n - k); (u, st, b ++ rest)
      | (t, st, _) => (t, st, [])

/-- A read of function addresses by the weight engine (assumption 37: agent code 6). -/
def State.weightRead (s : State) (fn addr n : Nat) : State × Status × List Byte := s.engineRead 6 fn (n / 2 ^ 21 + 2) addr n

/-- R285, R449. A read through a function's Peat window, its completion known. -/
def State.peatRead (s : State) (fn agent off n : Nat) (o : ReadOutcome) : State × Status × List Byte :=
  if n = 0 then (s, .ok, [])
  else if !s.on (PEAT_CTRL_EN fn) || decide (s.get (PEAT_LEN fn) * 4096 < off + n) then (s, .badAddr, [])
  else s.hostFetch fn agent (s.pair (PEAT_BASE_LO fn) (PEAT_BASE_HI fn) + off) n o

/-- R340. The source of copy `k` of a set: PEAT or not, and its address. -/
def State.copySource (s : State) (e k : Nat) : Bool × Nat :=
  if k = 0 then (s.on (WSET_SRC0_LO_KIND e), s.pair (WSET_SRC0_LO_ADDR e) (WSET_SRC0_HI e))
  else (s.on (WSET_SRC1_LO_KIND e), s.pair (WSET_SRC1_LO_ADDR e) (WSET_SRC1_HI e))

/-- R340, R341. The bytes of the part of core `core` in a fill of copy `k`, from HBM or from the host. -/
def State.fillRead (s : State) (e k core : Nat) (c : SetCfg) (src : ReadOutcome) : State × Status × List Byte :=
  let at' := (s.copySource e k).2 + rankOf c.cores core * (c.len * 128)
  if (s.copySource e k).1 then s.peatRead (s.setHolder e) 5 at' (c.len * 128) src else s.weightRead (s.setHolder e) at' (c.len * 128)

/-- R342. The digest that the part must have. -/
def State.fillDigest (s : State) (e k core : Nat) (c : SetCfg) : State × Status × List Byte :=
  s.weightRead (s.setHolder e) (s.pair (WSET_DIG_LO_ADDR e) (WSET_DIG_HI e) + 64 * rankOf c.cores core + 32 * k) 32

/-- R33, R342, R343. The bytes of a part are checked against their digest where the set asks, and written. The digest is Sluice's work: with PD_SLUICE off the part ends ABORTED. -/
def State.fillWrite (s : State) (e k core : Nat) (c : SetCfg) (b : List Byte) : State × Status :=
  if s.on (WSET_DIG_LO_EN e) && !s.domOn 4 then (s, .aborted)
  else if s.on (WSET_DIG_LO_EN e) then
    match s.fillDigest e k core c with
    | (t, .ok, d) => if d = sha256 b then t.storeWrite 0 core (c.baseOf k * 128) 0 b else (t, .authFail)
    | (t, st, _) => (t, st)
  else s.storeWrite 0 core (c.baseOf k * 128) 0 b

/-- R340 to R343. The part of core `core` in a fill of copy `k`: the source is read, checked against its digest where the set asks, and written. -/
def State.fillPart (s : State) (e k core : Nat) (c : SetCfg) (src : ReadOutcome) : State × Status :=
  match s.fillRead e k core c src with
  | (t, .ok, b) => t.fillWrite e k core c b
  | (t, st, _) => (t, st)

/-- R51, R301, R430. The accesses of the part of core `core` in a fill of copy `k` wait for the end of a quiesce: the source's, the digest's, the store's. -/
def State.fillHeld (s : State) (e k core : Nat) (c : SetCfg) : Bool :=
  let fn := s.setHolder e
  let at' := (s.copySource e k).2 + rankOf c.cores core * (c.len * 128)
  s.quiet (0x108 + 16 * core)
    || (if (s.copySource e k).1 then s.peatHeld fn at' (c.len * 128) else s.hbmHeld fn at' (c.len * 128))
    || (s.on (WSET_DIG_LO_EN e) && (s.domOn 4 && s.quiet 0x400 || s.hbmHeld fn (s.pair (WSET_DIG_LO_ADDR e) (WSET_DIG_HI e) + 64 * rankOf c.cores core + 32 * k) 32))

/-- R48, R51, R301. The weight engine's work on a set stands: a quiesce of the weight pages. -/
def State.setQuiet (s : State) (e : Nat) : Bool := s.quiet 0x320 || s.quiet (0x321 + e)

/-- FILL_PART_DONE (R341 to R345, R347): the part of a core in a fill or reload ends. -/
def execFillPartDone (e core : Nat) (src : ReadOutcome) (s : State) : Outcome :=
  event (0x321 + e) s fun s =>
    match (s.wset e).job, (s.wset e).cfg with
    | some j, some c =>
      if j.waiting || j.op == 6 || !j.parts.contains core || s.setQuiet e || (s.coreOn core && s.fillHeld e j.copy core c) then .next s
      else
        let (s1, st) := if s.coreOn core then s.fillPart e j.copy core c src else (s, .ok)
        let s2 := if st = .ok then (if s.coreOn core then s1.setHolds e j.copy core true else s1)
          else (s1.wsetError e j.op j.copy core 0 st).raise (0x321 + e) 3
        let j1 := { j with parts := j.parts.filter (fun n => n != core), st := firstBad j.st st, stCore := if j.st = .ok then core else j.stCore }
        let s3 := s2.setJob e (some j1)
        .next (if j.op = 2 ∧ j1.parts.isEmpty then s3.fillDone e j1 else s3)
    | _, _ => .next s

/-! ### Switching (R346 to R348) -/

/-- R346. CUR becomes the other copy. -/
def State.flipCur (s : State) (e : Nat) : State := s.setCur e (1 - s.get (WSET_STAT_CUR e))

/-- R346. The valid mask of the other copy includes every core of CORES that is ON. -/
def State.switchOk (s : State) (e : Nat) : Bool :=
  match (s.wset e).cfg with
  | none => false
  | some c => c.mode != 2 || (coresOf c.cores).all (fun n => !s.coreOn n || s.holds e (1 - s.get (WSET_STAT_CUR e)) n)

/-- R346, R347. A switch that is not refused: DUAL flips CUR, SINGLE starts to drain. -/
def State.doSwitch (s : State) (e : Nat) : State :=
  match (s.wset e).cfg with
  | none => s
  | some c =>
    if c.mode = 2 then ((((s.flipCur e).add (SW_CNT e) 1).set (WSET_STAT_STATE e) (s.restState e)).raise (0x321 + e) 0)
    else s.set (WSET_STAT_STATE e) 3

/-- WSET_SWITCH (R346, R347). -/
def execWsetSwitch (fn e : Nat) (s : State) : Outcome :=
  wsetCmd fn e 3 0 0 (.wsetSwitch fn e) s (fun s => if s.switchOk e then .ok else .badParam) (·.doSwitch e)

/-- R348. An armed switch is requested. -/
def State.requestSwitch (s : State) (e : Nat) : State :=
  let s := (s.setWset e { s.wset e with due := false }).set (WSET_STAT_STATE e) (s.restState e)
  if s.switchOk e then s.doSwitch e else (s.wsetError e 4 0 0 0 .badParam).raise (0x321 + e) 3

/-- R348, R356. The tick of an armed switch is delivered: the switch is requested, or after the quiesce of its page. -/
def State.armTick (s : State) (tick e : Nat) : State :=
  if s.get (WSET_STAT_STATE e) = 2 ∧ (s.wset e).target ≤ tick then
    (if s.setQuiet e then s.setWset e { s.wset e with due := true } else s.requestSwitch e)
  else s

/-- R52, R356. The quiesce of a set's page has ended, and no stall holds the engine: an armed switch whose tick came meanwhile is requested. -/
def State.armResume (s : State) (e : Nat) : State :=
  if s.get (WSET_STAT_STATE e) = 2 ∧ (s.wset e).due ∧ !s.setQuiet e ∧ !s.stall then s.requestSwitch e else s

/-- WSET_ARM (R348): SW_TICK is recorded; a target already passed switches at once. -/
def execWsetArm (fn e : Nat) (s : State) : Outcome :=
  wsetCmd fn e 4 0 0 (.wsetArm fn e) s (fun s => if (s.wset e).cfg.isSome then .ok else .badParam) fun s =>
    ((s.setWset e { s.wset e with target := s.pair (SW_TICK_LO e) (SW_TICK_HI e), due := false }).set (WSET_STAT_STATE e) 2).armTick s.deliveredTick e

/-- WSET_DISARM (R348, R355): allowed while ARMED, refused while another command is in progress, else without effect. -/
def execWsetDisarm (fn e : Nat) (s : State) : Outcome :=
  command fn (0x321 + e) (.wsetDisarm fn e) s fun s =>
    if s.get (WSET_STAT_STATE e) = 2 then
      .next (((s.setWset e { s.wset e with due := false }).set (WSET_STAT_STATE e) (s.restState e)).set (WSET_STAT_RESULT e) Status.ok.code)
    else if s.wsetBusy e then .next (s.wsetError e 5 0 0 0 .badParam)
    else .next (s.set (WSET_STAT_RESULT e) Status.ok.code)

/-- WSET_DRAINED (R347): no item is bound to the current copy; the reload of every core starts. -/
def execWsetDrained (e : Nat) (s : State) : Outcome :=
  event (0x321 + e) s fun s =>
    match (s.wset e).cfg with
    | some c =>
      let cur := s.get (WSET_STAT_CUR e)
      if s.get (WSET_STAT_STATE e) = 3 ∧ s.boundCnt e cur = 0 then
        .next (((s.raise (0x321 + e) 4).set (WSET_STAT_STATE e) 4).startParts e { op := 3, copy := 1 - cur, parts := coresOf c.cores })
      else .next s
    | none => .next s

/-- RELOAD_DONE (R344, R347): every part of a reload has ended; the region's mask becomes that of the new CUR. -/
def execReloadDone (e : Nat) (s : State) : Outcome :=
  event (0x321 + e) s fun s =>
    match (s.wset e).job with
    | some j =>
      if j.op ≠ 3 ∨ !j.parts.isEmpty then .next s
      else
        let (old, new) := if j.copy = 1 then (WSET_VALID0 e, WSET_VALID1 e) else (WSET_VALID1 e, WSET_VALID0 e)
        let s1 := ((((s.set new (s.get old)).set old 0).setJob e none).flipCur e).setFailed e (j.st != .ok)
        let s2 := (s1.set (WSET_STAT_RESULT e) j.st.code).set (WSET_STAT_STATE e) (s1.restState e)
        .next (if j.st = .ok then (s2.add (SW_CNT e) 1).raise (0x321 + e) 0 else s2)
    | none => .next s

/-! ### Manifests (R337 to R339) -/

/-- R338. What refuses a MAN_APPLY. -/
def State.manStatus (s : State) (e copy core ctx : Nat) : Status :=
  match (s.wset e).cfg with
  | none => .badParam
  | some c =>
    if !s.on (CTX_STAT_LOADED core ctx) || !bitOf c.cores core then .badParam else s.copyStatus e copy

/-- MAN_APPLY (R338). -/
def execManApply (fn e copy core ctx : Nat) (s : State) : Outcome :=
  wsetCmd fn e 6 (copy % 2) (core % 16) (.manApply fn e copy core ctx) s (·.manStatus e (copy % 2) (core % 16) (ctx % 16)) fun s =>
    s.acceptJob e { op := 6, copy := copy % 2, core := core % 16, ctx := ctx % 16 }

/-- R339. The malformations of a manifest entry. -/
def manBad (b : List Byte) (len sigOff : Nat) : Bool :=
  let kind := hdr b 12 1 % 4
  let n := hdr b 8 4 % 2 ^ 18
  let soff := hdr b 16 8 % 2 ^ 40
  let dig := bitOf (hdr b 12 1) 2
  kind == 3 || decide (len < hdr b 4 4 % 2 ^ 18 + n) || soff % 128 != 0 || (dig && hdr b 24 4 % 4 != 0)
    || (kind == 0 && decide (sigOff < soff + n * 128)) || (dig && decide (sigOff < hdr b 24 4 + 32))

/-- R337 to R339. The manifest from entry `i` on is written into the region that starts at line `base` of a core: a later entry overwrites an earlier one. A failure
names its entry and TENSOR_ID. The completions of Peat reads are taken in order. -/
def State.manifest (s : State) (fn core base len : Nat) (img : Image) : List ReadOutcome → Nat → Nat → State × Status × Nat × Nat
  | _, 0, i => (s, .ok, i, 0)
  | srcs, left + 1, i =>
    match s.weightRead fn (img.base + img.manOff + 32 * i) 32 with
    | (s1, .ok, b) =>
      let t := hdr b 0 4
      let n := hdr b 8 4 % 2 ^ 18 * 128
      let soff := hdr b 16 8 % 2 ^ 40
      let kind := hdr b 12 1 % 4
      if manBad b len img.sigOff then (s1, .badDesc, i, t)
      else
        let (s2, st, d) := if kind = 0 then s1.weightRead fn (img.base + soff) n
          else if kind = 1 then s1.weightRead fn soff n
          else s1.peatRead fn 5 soff n (srcs.headD .unsupported)
        if st ≠ .ok then (s2, st, i, t)
        else
          let (s3, st3, g) := if bitOf (hdr b 12 1) 2 then s2.weightRead fn (img.base + hdr b 24 4) 32 else (s2, .ok, sha256 d)
          if st3 ≠ .ok then (s3, st3, i, t)
          else if g ≠ sha256 d then (s3, .authFail, i, t)
          else
            let (s4, st4) := s3.storeWrite 0 core ((base + hdr b 4 4 % 2 ^ 18) * 128) 0 d
            if st4 ≠ .ok then (s4, st4, i, t) else s4.manifest fn core base len img (if kind = 2 then srcs.drop 1 else srcs) left (i + 1)
    | (s1, st, _) => (s1, st, i, 0)

/-- R338, R339, R345. A manifest apply ends: the core's valid bit and MAN_DONE, or the failing entry. An image that a reset took away while it ran ends it
ABORTED (assumption 59). -/
def State.manEnds (s : State) (e : Nat) (j : SetJob) (c : SetCfg) (srcs : List ReadOutcome) : State :=
  let s := s.setJob e none
  if !s.coreOn j.core then ((s.setHolds e j.copy j.core false).set (WSET_STAT_STATE e) (s.restState e)).raise (0x321 + e) 2
  else
    let (s1, st, i, tensor) := match Map.find s.work.images (j.core * 16 + j.ctx) with
      | some img => s.manifest (s.setHolder e) j.core (c.baseOf j.copy) c.len img srcs img.manCnt 0
      | none => (s, .aborted, 0, 0)
    if st = .ok then
      let s2 := (((s1.setHolds e j.copy j.core true).set (WSET_STAT_STATE e) (s.restState e)).set (WSET_STAT_RESULT e) Status.ok.code).raise (0x321 + e) 2
      if j.copy = s.get (WSET_STAT_CUR e) then s2.bumpEpoch else s2
    else
      ((((s1.setHolds e j.copy j.core false).set (WSET_STAT_STATE e) (s.restState e)).set (MAN_ENTRY e) i).wsetError e 6 j.copy j.core tensor st).raise (0x321 + e) 3

/-- R51, R301, R430. The accesses of a manifest apply, whose sources its entries name, wait for the end of a quiesce: of any stack (assumption 115). -/
def State.manHeld (s : State) (e core : Nat) : Bool :=
  s.quiet (0x108 + 16 * core) || s.quiet 0x300 || s.quiet (0x307 + s.setHolder e) || s.quiet 0x500 || s.host.invalidating.any (fun i => i.2.1 == s.setHolder e) || (List.range 6).any (fun k => s.quiet (0x301 + k))

/-- MAN_DONE (R338, R339): a manifest apply that has started ends. -/
def execManDone (e : Nat) (srcs : List ReadOutcome) (s : State) : Outcome :=
  event (0x321 + e) s fun s =>
    match (s.wset e).job, (s.wset e).cfg with
    | some j, some c =>
      if j.op ≠ 6 || j.waiting || s.setQuiet e || (s.coreOn j.core && s.manHeld e j.core) then .next s else .next (s.manEnds e j c srcs)
    | _, _ => .next s

end Sys2Proof.Machine
end

