-- ==== Sys2Proof/Machine/Link.lean ====
section
/-!
DEFINITION. The engine of the Causeway ports and of the group (chapter 16): routes, late errors, notices, what waits to be sent, sequences and credits, the link hold,
leaving DATA and entering it, arriving items, writes and signals, the epoch and the group's formation.
-/

namespace Sys2Proof.Machine

/-! ### Access -/

/-- A port beside its registers. -/
def State.port (s : State) (p : Nat) : Port := Map.get s.link.ports {} p

/-- A port takes contents. -/
def State.setPort (s : State) (p : Nat) (v : Port) : State := { s with link := { s.link with ports := Map.put {} s.link.ports p v } }

/-- R524. Page 0 of a port. -/
def portPage (p : Nat) : Nat := 0x600 + 16 * p

/-- R499. A port is in DATA. -/
def State.inData (s : State) (p : Nat) : Bool := s.get (PORT_STAT_STATE p) == 5

/-- R508. The port of the route toward a member, where it is valid. -/
def State.routeTo (s : State) (m : Nat) : Option Nat := if s.on (ROUTE_VALID m) then some (s.get (ROUTE_PORT m)) else none

/-- R508, R509. The port of the route toward a member, where it is valid and in DATA. -/
def State.linkTo (s : State) (m : Nat) : Option Nat := (s.routeTo m).filter s.inData

/-- R506, R507. A port accepts no new items, writes or signals. -/
def State.portStopping (s : State) (p : Nat) : Bool := (s.port p).leaving || s.quiet (portPage p)

/-- A message waits at a port. -/
def State.enqueueMsg (s : State) (p : Nat) (m : LinkMsg) : State := s.setPort p { s.port p with queue := (s.port p).queue ++ [m] }

/-! ### Formation and skew (R45, R519, R523) -/

/-- R519. The condition of FORMED. -/
def State.formed (s : State) : Bool :=
  s.on GRP_STAT_DIGEST_VALID && (List.range 8).all (fun p => !s.on (PORT_CTRL_REQUIRED p) || s.inData p)

/-- R519, R622. FORMED follows its condition, with the FORMED and BROKEN events. -/
def State.groupRefresh (s : State) : State :=
  let was := s.on GRP_STAT_FORMED
  let now := s.formed
  let s1 := (s.flag GRP_STAT_FORMED now).raiseEdge 0x680 0 was now
  let s2 := if now then { s1 with link := { s1.link with formedOnce := true } } else s1
  s2.raiseEdge 0x680 1 (s.link.formedOnce && !was) (s2.link.formedOnce && !now)

/-- R45, R523. SKEW_HOLD follows the skew of the ports in DATA. -/
def State.skewRefresh (s : State) : State :=
  let hold := s.on TB_CTRL_SKEW_GATE_EN && (List.range 8).any (fun p => s.inData p && decide (s.get TB_SKEW_LIMIT < (signed32 (s.get (PORT_SKEW p))).natAbs))
  let t := s.flag TB_STAT_SKEW_HOLD hold
  if hold && !s.on TB_STAT_SKEW_HOLD then t.raiseAll 2 5 else t

/-- R499, R525. A port changes state, with the events DATA_UP, DOWN and MISMATCH, the group's formation and the skew comparison. -/
def State.setPortState (s : State) (p st : Nat) : State :=
  let was := s.get (PORT_STAT_STATE p)
  let t := s.set (PORT_STAT_STATE p) st
  let t := ((t.raiseEdge (portPage p) 0 (was == 5) (st == 5)).raiseEdge (portPage p) 1 (was == 6) (st == 6)).raiseEdge (portPage p) 2 (was == 4) (st == 4)
  t.groupRefresh.skewRefresh

/-! ### Late errors and notices (R489, R513 to R516) -/

/-- R513, R516. A late error is logged, or counted as lost; LATE_ERR. -/
def State.logLate (s : State) (e : LateErr) : State :=
  if s.link.leq.length < 64 then { s with link := { s.link with leq := s.link.leq ++ [e] } }.raise 0x680 2
  else (((s.raise 0x680 2).add LEQ_LOST 1).raise 0x680 3)

/-- R513, R516. A notice as a late error: the entry shows the notice's own status; REMOTE_ERR stands on the flow alone (assumption 108). -/
def State.logNotice (s : State) (n : LinkNotice) : State :=
  s.logLate { status := n.status, kind := n.kind, flow := n.flow % 4096, fn := n.fn % 16, member := n.reporter, ref := n.ref % 4096, seq := n.seq, time := s.now }

/-- R508. A notice is sent over the route to its destination; with no link there it is logged here. -/
def State.sendNotice (s : State) (n : LinkNotice) : State :=
  match s.linkTo n.dest with
  | some p => s.enqueueMsg p (.notice n)
  | none => s.logNotice n

/-- R489. A notice about a write. -/
def State.writeNotice (s : State) (w : LinkWrite) (st : Status) : State :=
  s.sendNotice { dest := w.origin, reporter := s.get GRP_MEMBER, status := st.code, kind := 1, flow := w.flow, fn := w.fn, seq := w.seq, ref := w.lf, ts := s.now.ts64 }

/-- R489. A notice about a signal. An LSIG names neither chain nor link flow: that field of its notice is open. -/
def State.signalNotice (s : State) (g : LinkSignal) (st : Status) : State :=
  let (x, s) := s.drawFree
  s.sendNotice { dest := g.origin, reporter := s.get GRP_MEMBER, status := st.code, kind := 2, flow := g.flow, fn := g.fn, seq := g.seq, ref := x % 65536,
                 ts := s.now.ts64 }

/-- R489, R512. A notice about an arriving item. The item's header names no function: that field is open. -/
def State.itemNotice (s : State) (a : Arrival) (st : Status) : State :=
  let (x, s) := s.drawFree
  s.sendNotice { dest := a.member, reporter := s.get GRP_MEMBER, status := st.code, kind := 0, flow := a.flow, fn := x % 16, seq := a.enq, ref := a.src,
                 ts := s.now.ts64 }

/-- R513, R514. A notice arrives at the origin: logged, and the flow it names becomes BLOCKED; one of a lost link only makes the flow STALE. -/
def State.takeNotice (s : State) (n : LinkNotice) : State :=
  if n.status = Status.linkLost.code then s.staleFlow (n.flow % 4096) else (s.logNotice n).noticeFlow (n.flow % 4096)

/-- R244. The task in service of a flow has lost a LINK write to a member. -/
def State.loseWrite (s : State) (flow m : Nat) : State :=
  if (s.flow flow).service.isSome && !s.link.lost.contains (flow, m) then { s with link := { s.link with lost := s.link.lost ++ [(flow, m)] } } else s

/-- R515. A write or signal of this chip that is discarded is logged as lost; forwarded ones are reported to their origin by notice (R514). -/
def State.lostRef (s : State) : FlitRef → State
  | .write w =>
    if w.origin = s.get GRP_MEMBER then
      (s.loseWrite (w.flow % 4096) w.dest).logLate { status := Status.linkLost.code, kind := 1, flow := w.flow, fn := w.fn, member := s.get GRP_MEMBER, ref := w.lf, seq := w.seq, time := s.now }
    else s
  | .signal g =>
    if g.origin = s.get GRP_MEMBER then
      let (x, s) := s.drawFree
      s.logLate { status := Status.linkLost.code, kind := 2, flow := g.flow, fn := g.fn, member := s.get GRP_MEMBER, ref := x % 4096, seq := g.seq, time := s.now }
    else s
  | _ => s

/-- R514. The port left DATA with a write or signal in its replay buffer: its flow becomes STALE here, or by notice at its origin. -/
def State.staleRef (s : State) : FlitRef → State
  | .write w => if w.origin = s.get GRP_MEMBER then s.staleFlow (w.flow % 4096) else s.writeNotice w .linkLost
  | .signal g => if g.origin = s.get GRP_MEMBER then s.staleFlow (g.flow % 4096) else s.signalNotice g .linkLost
  | _ => s

/-- The writes and signals of a replay buffer, each once; a write that is sent in part counts with it (assumption 114). -/
def Port.refs (v : Port) : List FlitRef := (v.replay.map (·.ref) ++ (match v.txWrite with | some (w, _) => [.write w] | none => [])).dedup

/-- R244. A signal that waits must follow a write of its flow that is lost with the given references. -/
def followsLost (lost : List FlitRef) : LinkMsg → Bool
  | .signal g => lost.any (fun r => match r with | .write w => w.dest == g.dest && w.origin == g.origin && w.flow == g.flow | _ => false)
  | _ => false

/-- What a message that waits counts as once it is discarded. -/
def LinkMsg.toRef : LinkMsg → FlitRef
  | .signal g => .signal g
  | _ => .other

/-- R244, R515. The replay buffer of a port is discarded, and with it the waiting signals that were to follow a discarded write. -/
def State.discardReplay (s : State) (p : Nat) : State :=
  let v := s.port p
  let follow := (v.queue.filter (followsLost v.refs)).map LinkMsg.toRef
  (v.refs ++ follow).foldl State.lostRef
    (s.setPort p { v with replay := [], resend := none, resends := 0, queue := v.queue.filter (fun m => !followsLost v.refs m), txWrite := none, rxWrite := none })

/-! ### The link hold and leaving DATA (R181, R493, R506) -/

/-- R622. Some chain of a QUEUE page shows LINK_HOLD. -/
def State.linkHeld (s : State) (page : Nat) : Bool := (List.range 32).any (fun i => s.on (CH_LINK_HOLD (32 * (page - 1) + i)))

/-- R181. A chain enters the link hold: its IN_USE items become SPENT under it, the flows they name become STALE. -/
def State.holdChain (s : State) (c : Nat) : State :=
  let items := (s.cellsOf c).filter (fun e => e.2.state == .inUse)
  let s1 := items.foldl (fun t e => t.setCell e.1 { e.2 with state := .spent, link := true }) s
  let s2 := (s1.flag (CH_LINK_HOLD c) true).raiseEdge (0x220 + chainPage c) 1 (s.linkHeld (chainPage c)) true
  items.foldl (fun t e => t.staleFlow (hdr e.2.header 6 2 % 4096)) s2

/-- R181. Every enabled chain whose sink is port `p` enters the link hold. -/
def State.holdChains (s : State) (p : Nat) : State :=
  s.chainKeys.foldl (fun t c =>
    match (t.chain c).desc with
    | some d => if d.sink = 1 ∧ d.sinkPort = p ∧ t.on (CH_ENABLE c) then t.holdChain c else t
    | none => t) s

/-- R170. The partly received item of a port is discarded. -/
def State.dropArrival (s : State) (p : Nat) : State :=
  match (s.port p).arrival with
  | none => s
  | some a =>
    let s1 := s.setPort p { s.port p with arrival := none }
    let s2 := s1.leaveCell a.chain (· == .port p)
    match a.cell with
    | some k => if s2.building k a.id then s2.watched a.chain (·.freeCell k) else s2
    | none => s2

/-- R486. Payload bytes of the arriving item that are still to be accepted after a flit, where `n` were before it. -/
def itemLeft (n : Nat) : FlitBody → Nat
  | .itemHead h b => hdr h 0 4 % 2 ^ 28 - b.length
  | .itemData b => n - b.length
  | _ => n

/-- A flit begins an item. -/
def FlitBody.isHead : FlitBody → Bool
  | .itemHead .. => true
  | _ => false

/-- A flit belongs to an item. -/
def FlitBody.isItem : FlitBody → Bool
  | .itemHead .. => true
  | .itemData _ => true
  | _ => false

/-- Accepted flits without those of the last item among them. -/
def cutItem : List FlitBody → List FlitBody
  | [] => []
  | f :: l => if l.any FlitBody.isHead then f :: cutItem l else (f :: l).filter (fun x => !x.isItem)

/-- R170, R491. A port leaves DATA: what it has accepted is still applied, but for an item whose flits it has not accepted whole. -/
def State.cutArrival (s : State) (p : Nat) : State :=
  let v := s.port p
  if v.rxBuf.foldl itemLeft (match v.arrival with | some a => a.len - a.bytes.length | none => 0) = 0 then s
  else
    let t := s.setPort p { v with rxBuf := cutItem v.rxBuf }
    if v.rxBuf.any FlitBody.isHead then t else t.dropArrival p

/-- R181, R493, R514. A port leaves DATA for a state: its chains enter the link hold, the flows of its unacknowledged writes and signals become STALE. -/
def State.leaveData (s : State) (p st : Nat) : State :=
  let s1 := ((s.setPortState p st).set (PORT_LANES_LANE_ACTIVE p) 0).holdChains p
  let s2 := s1.cutArrival p
  let s3 := s2.setPort p { s2.port p with sending := none, retry := false, leaving := false, leaveSent := false, leaveGot := false, leaveAcked := false,
                                          adding := none }
  (s3.port p).refs.foldl State.staleRef (s3.flag (PORT_LANES_LANE_BUSY p) false)

/-- R493, R525. A link goes DOWN with a cause. -/
def State.linkDown (s : State) (p cause : Nat) : State :=
  let s1 := if s.inData p then s.leaveData p 6 else s.setPortState p 6
  ((s1.set (PORT_STAT_DOWN_CAUSE p) cause).add (DOWN_CNT p) 1).capture (portPage p) .linkLost cause 0

/-- R506. Both LEAVEs have been acknowledged: the port turns OFF. -/
def State.leaveCheck (s : State) (p : Nat) : State :=
  let v := s.port p
  if s.inData p && v.leaveSent && v.leaveGot && v.leaveAcked && v.replay.isEmpty then (s.leaveData p 0).set (PORT_STAT_DOWN_CAUSE p) 5 else s

/-! ### Acknowledgement and credits (R173, R490 to R494) -/

/-- R490. The extended number nearest an expected one with the given low 24 bits. -/
def nearest (expected low : Nat) : Nat :=
  let base := expected / 2 ^ 24 * 2 ^ 24 + low % 2 ^ 24
  if expected + 2 ^ 23 < base then (if 2 ^ 24 ≤ base then base - 2 ^ 24 else base)
  else if base + 2 ^ 23 < expected then base + 2 ^ 24 else base

/-- R173. A held or IN_USE item that the far port has acknowledged whole finishes; one whose cell has been freed since has nothing to finish. -/
def State.ackItem (s : State) (id : Nat) : State :=
  match s.cellOf id with | some (k, x) => s.finishOf k x | none => s

/-- R173, R491. Everything below an extended number is acknowledged. -/
def State.ackBelow (s : State) (p n : Nat) : State :=
  let v := s.port p
  let done := v.replay.filter (fun r => decide (r.seq < n))
  if done.isEmpty then s
  else
    let s1 := s.setPort p { v with replay := v.replay.filter (fun r => !decide (r.seq < n)), resends := 0,
                                   resend := v.resend.bind (fun r => if n < v.tx then some (max r n) else none) }
    done.foldl (fun t r => match r.ref with | .item _ id true => t.ackItem id | _ => t) s1

/-- One of three counts, by VC. -/
def vcGet (c : Nat × Nat × Nat) (vc : Nat) : Nat := if vc = 0 then c.1 else if vc = 1 then c.2.1 else c.2.2

/-- One of three counts takes a value. -/
def vcSet (c : Nat × Nat × Nat) (vc n : Nat) : Nat × Nat × Nat := if vc = 0 then (n, c.2) else if vc = 1 then (c.1, n, c.2.2) else (c.1, c.2.1, n)

/-- R494. The flit buffers of a receive port, by VC. -/
def vcBuffers : Nat × Nat × Nat := (512, 384, 128)

/-- R485, R494. The ACK and CREDIT fields of a received flit take effect; credits never pass the far port's buffers. -/
def State.ackIn (s : State) (p : Nat) (hd : FlitHdr) : State :=
  let v := s.port p
  let n := nearest v.tx hd.ack
  let s1 := if n ≤ v.tx then s.ackBelow p n else s
  let w := s1.port p
  let s2 := if hd.vc < 3 then
      s1.setPort p { w with credits := vcSet w.credits hd.vc (min (vcGet w.credits hd.vc + hd.count) (vcGet vcBuffers hd.vc)) }
    else s1
  s2.leaveCheck p

/-- R494. Credits of a VC are to be returned. -/
def State.owe (s : State) (p vc n : Nat) : State := s.setPort p { s.port p with owed := vcSet (s.port p).owed vc (vcGet (s.port p).owed vc + n) }

/-! ### Sending (R485, R490, R492, R496) -/

/-- R485. A flit goes out with the port's ACK and the credits it returns. -/
def State.emit (s : State) (p : Nat) (seq : Option Nat) (body : FlitBody) : Sent × State :=
  let v := s.port p
  let vc := if v.owed.1 != 0 then 0 else if v.owed.2.1 != 0 then 1 else 2
  let n := min 63 (vcGet v.owed vc)
  let keys := if s.get GRP_MEMBER < s.get (PEER_INFO p) % 256 then v.curKeys.take 32 else (v.curKeys.drop 32).take 32
  let f : Sent := { port := p, seq := seq, ack := v.rx % 2 ^ 24, count := n, vc := vc, body := body, enc := if v.enc && seq.isSome then some (keys, s.get (SESSION p)) else none }
  let s1 := s.setPort p { v with owed := vcSet v.owed vc (vcGet v.owed vc - n), leaveAcked := v.leaveAcked || v.leaveGot }
  (f, ({ s1 with link := { s1.link with out := s1.link.out ++ [f] } }).add (TX_FLITS p) 1)

/-- R490, R492, R494. A new sequenced flit goes out: it spends a credit and stays in the replay buffer. -/
def State.emitSeq (s : State) (p vc : Nat) (body : FlitBody) (ref : FlitRef) : State :=
  let n := (s.port p).tx
  let (f, s1) := s.emit p (some n) body
  let v := s1.port p
  s1.setPort p { v with tx := n + 1, credits := vcSet v.credits vc (vcGet v.credits vc - 1), replay := v.replay ++ [⟨n, vc, f, ref⟩] }

/-- R492, R494. A port may send a new flit on a VC. -/
def State.maySend (s : State) (p vc : Nat) : Bool := decide ((s.port p).replay.length < 2048) && vcGet (s.port p).credits vc != 0

/-- R487. The header of an item as an ITEM_HEAD carries it. -/
def State.wireHeader (s : State) (c : Nat) (h : List Byte) : List Byte :=
  h.take 12 ++ leBytes 1 (s.get GRP_MEMBER) ++ leBytes 1 c ++ (h.drop 14).take 2 ++ List.replicate 12 0 ++ (h.drop 28).take 36

/-- R163, R301. The payload accesses of an item of `len` bytes of a chain wait for the end of a quiesce that one of the chain's payload lines lies under. -/
def State.payHeld (s : State) (c len : Nat) : Bool :=
  match (s.chain c).desc with
  | some d => len != 0 && s.hbmHeld (s.chainHolder c) d.pay (d.length * (d.slot * 4096))
  | none => false

/-- R301. The payload reads of the item that a port sends wait for the end of a quiesce. -/
def State.sendHeld (s : State) (p : Nat) : Bool :=
  match (s.port p).sending with
  | some (c, k, _) => (match Map.find s.work.cells k with | some x => s.payHeld c (hdr x.header 0 4) | none => false)
  | none => false

/-- R486. Payload or data bytes of a flit type on a port: 16 fewer where it encrypts. -/
def Port.room (v : Port) (n : Nat) : Nat := if v.enc then n - 16 else n

/-- R163, R184. The function address of payload byte `off` of an item. -/
def State.payAddr (s : State) (x : Cell) (off : Nat) : Nat :=
  match (s.chain x.chain).desc with
  | some d => d.pay + x.buf * (d.slot * 4096) + off
  | none => 0

/-- R486, R487. The next flit of the item being sent. A payload read that fails sends nothing (assumption 39). -/
def State.sendItem (s : State) (p : Nat) : State :=
  match (s.port p).sending with
  | none => s
  | some (c, k, sent) =>
    match Map.find s.work.cells k with
    | none => s.setPort p { s.port p with sending := none }
    | some x =>
      let len := hdr x.header 0 4
      let off := sent.getD 0
      let n := min (len - off) ((s.port p).room (if sent.isNone then 168 else 232))
      match s.hbmRead (.home 2) (s.chainHolder c) 0 0 (s.payAddr x off) n with
      | (s1, .ok, b) =>
        let last := decide (len ≤ off + n)
        let body := if sent.isNone then FlitBody.itemHead (s.wireHeader c x.header) b else .itemData b
        let s2 := s1.emitSeq p 0 body (.item c x.id last)
        s2.setPort p { s2.port p with sending := if last then none else some (c, k, some (off + n)) }
      | (s1, _, _) => s1

/-- R486, R505, R506. The next flit of the messages that wait, or the LEAVE once nothing else is left. -/
def State.sendMessage (s : State) (p : Nat) : State :=
  let v := s.port p
  match v.txWrite, v.queue with
  | some (w, rest), _ =>
    if !s.maySend p 1 then s
    else
      let n := v.room 232
      let s1 := s.emitSeq p 1 (.lwrData (rest.take n)) (.write w)
      s1.setPort p { s1.port p with txWrite := if rest.length ≤ n then none else some (w, rest.drop n) }
  | none, .write w d :: q =>
    if !s.maySend p 1 then s
    else
      let n := v.room 208
      let s1 := s.emitSeq p 1 (.lwrHead w (d.take n)) (.write w)
      s1.setPort p { s1.port p with queue := q, txWrite := if d.length ≤ n then none else some (w, d.drop n) }
  | none, m :: q =>
    if !s.maySend p 2 then s
    else
      let t := s.setPort p { v with queue := q }
      match m with
      | .signal g => t.emitSeq p 2 (.lsig g) (.signal g)
      | .notice n => t.emitSeq p 2 (.notice n) .other
      | .lane mask =>
        let t1 := t.emitSeq p 2 (.lane mask (v.tx + 1)) .other
        let add := v.adding.isSome
        let t2 := ((((t1.setPort p { t1.port p with adding := none }).set (PORT_LANES_LANE_MASK p) mask).set (PORT_LANES_LANE_ACTIVE p) mask).flag
          (PORT_LANES_LANE_BUSY p) false).flag (PORT_LANES_LANE_RESULT p) false
        if add then t2.raise (portPage p) 4 else t2
      | .key =>
        let t1 := t.emitSeq p 2 .key .other
        ((t1.setPort p { t1.port p with curKeys := v.nextKeys, nextKeys := [] }).flag (PORT_STAT_KEY_NEXT p) false).flag (PORT_STAT_KEY_CUR p) true
      | .write _ _ => s
  | none, [] =>
    if v.leaving && v.sending.isNone && v.replay.isEmpty && !v.leaveSent && s.maySend p 2 then
      let s1 := s.emitSeq p 2 .leave .other
      s1.setPort p { s1.port p with leaveSent := true }
    else s

/-- R492. The next stored flit of a resend goes out unchanged. -/
def State.resendNext (s : State) (p n : Nat) : State :=
  let v := s.port p
  match v.replay.find? (fun r => decide (n ≤ r.seq)) with
  | none => s.setPort p { v with resend := none }
  | some r =>
    let first := match v.replay with | x :: _ => x.seq == r.seq | [] => false
    let w := { v with resend := if r.seq + 1 < v.tx then some (r.seq + 1) else none, resends := v.resends + b2n first }
    ({ s.setPort p w with link := { (s.setPort p w).link with out := s.link.out ++ [r.flit] } }).add (TX_FLITS p) 1

/-- R492, R493. The sender is to resend from a number: DOWN with RETRY_LIMIT where its oldest flit has already been resent 16 times. -/
def State.startResend (s : State) (p n : Nat) : State :=
  let v := s.port p
  match v.replay with
  | [] => s
  | r :: _ => if n ≤ r.seq ∧ 16 ≤ v.resends then s.linkDown p 2 else s.setPort p { v with resend := some n }

/-! ### Arriving items (R170, R512) -/

/-- R512. What refuses an arriving item. -/
def State.arrivalStatus (s : State) (p : Nat) (a : Arrival) (valid : Bool) : Status :=
  if !valid || !s.on (CH_ENABLE a.chain) then .badAddr
  else match (s.chain a.chain).desc with
    | none => .badAddr
    | some d => if d.src ≠ 1 ∨ d.srcPort ≠ p then .badAddr else if d.slot * 4096 < a.len then .badParam else .ok

/-- R163, R170, R512. An item whose every byte has arrived is written to its buffer in whole lines and commits; a write that fails discards it (assumption 39). -/
def State.arrived (s : State) (p : Nat) : State :=
  match (s.port p).arrival with
  | none => s
  | some a =>
    if a.waiting || decide (a.bytes.length < a.len) then s
    else
      let s0 := s.setPort p { s.port p with arrival := none }
      match a.cell with
      | none => s0
      | some k =>
        match Map.find s.work.cells k with
        | none => s0
        | some x =>
          if x.id ≠ a.id ∨ x.state ≠ .building then s0 else
          let b := a.bytes ++ List.replicate ((128 - a.len % 128) % 128) 0
          match s0.hbmWrite (.home 2) (s.chainHolder a.chain) 0 0 (s.payAddr x 0) b with
          | (t, .ok) => t.watched a.chain (·.commitCell k { x with top := a.len } (some (a.member, a.src)))
          | (t, st) => (t.watched a.chain (·.freeCell k)).itemNotice a st

/-- R170, R185. An arriving item takes its cell; the credit of its first flit is returned. -/
def State.openArrival (s : State) (p : Nat) (a : Arrival) : State :=
  match (s.chain a.chain).desc with
  | none => s
  | some d =>
    let s1 := s.watched a.chain fun s =>
      let (k, b, t) := s.pickCell a.chain d.length
      (t.setCell k { id := s.work.nextCell, chain := a.chain, buf := b, state := .building, header := a.header }).setPort p
        { t.port p with arrival := some { a with cell := some k, id := s.work.nextCell, waiting := false } }
    (s1.owe p 0 1).arrived p

/-- R170, R487, R512. An ITEM_HEAD is applied: a cell in the mapped chain, a wait for one, or a refusal. -/
def State.itemHead (s : State) (p : Nat) (header payload : List Byte) : State :=
  let src := hdr header 13 1
  let len := hdr header 0 4 % 2 ^ 28
  let a : Arrival := { member := hdr header 12 1, src := src, enq := hdr header 8 4, flow := hdr header 6 2 % 4096, chain := s.get (RX_CHAIN_MAP_CHAIN p src),
                       header := header, len := len, bytes := payload.take len }
  let s := s.dropArrival p
  match s.arrivalStatus p a (s.on (RX_CHAIN_MAP_VALID p src)) with
  | .ok =>
    if s.cellNow a.chain then s.openArrival p a
    else (s.setPort p { s.port p with arrival := some { a with waiting := true } }).awaitCell a.chain (.port p)
  | st =>
    let t := (s.itemNotice a st).owe p 0 1
    if a.bytes.length < len then t.setPort p { t.port p with arrival := some a } else t

/-- R486. An ITEM_DATA is applied. -/
def State.itemData (s : State) (p : Nat) (payload : List Byte) : State :=
  match (s.port p).arrival with
  | none => s.owe p 0 1
  | some a => ((s.setPort p { s.port p with arrival := some { a with bytes := a.bytes ++ payload.take (a.len - a.bytes.length) } }).owe p 0 1).arrived p

/-! ### Arriving writes and signals (R508, R510, R511) -/

/-- R508. A message for another member goes on over this chip's route; none where it is dropped, with the status of its notice. -/
def State.forward (s : State) (dest : Nat) (m : LinkMsg) : Except Status State :=
  match s.routeTo dest with
  | none => .error .badAddr
  | some q => if s.inData q then .ok (s.enqueueMsg q m) else .error .linkLost

/-- R510. What refuses an arriving write before it is made. -/
def State.lwrStatus (s : State) (w : LinkWrite) : Status :=
  if !s.on (LF_RX1_EN w.lf) then .badAddr
  else if !s.on (LF_RX1_ANY_SRC w.lf) && w.origin != s.get (LF_RX1_SRC_MEMBER w.lf) then .badAddr
  else if s.get (LF_RX1_LEN w.lf) * 4096 < w.off + w.len then .badAddr
  else .ok

/-- R508, R510. A write whose every byte has arrived is made at the home, forwarded, or refused by notice. -/
def State.linkWritten (s : State) (w : LinkWrite) (data : List Byte) : State :=
  if w.dest ≠ s.get GRP_MEMBER then
    match s.forward w.dest (.write w data) with
    | .ok t => t
    | .error st => s.writeNotice w st
  else match s.lwrStatus w with
    | .ok =>
      match s.hbmWrite (.home 2) (s.get (LF_RX0_FN w.lf)) 0 0 (s.get (LF_RX0_FBASE w.lf) * 4096 + w.off) data with
      | (t, .ok) => t
      | (t, st) => t.writeNotice w st
    | st => s.writeNotice w st

/-- R486, R494. Bytes of an arriving write: once all have come it is carried out and the credits of its flits are returned. -/
def State.writeBytesIn (s : State) (p : Nat) (w : LinkWrite) (b : List Byte) (flits : Nat) : State :=
  if w.len ≤ b.length then
    ((s.setPort p { s.port p with rxWrite := none }).linkWritten w (b.take w.len)).owe p 1 flits
  else s.setPort p { s.port p with rxWrite := some (w, b, flits) }

/-- R245, R508. A remote signal is applied, forwarded, or denied by notice. -/
def State.signalIn (s : State) (g : LinkSignal) : State :=
  if g.dest ≠ s.get GRP_MEMBER then
    match s.forward g.dest (.signal g) with
    | .ok t => t
    | .error st => s.signalNotice g st
  else match s.remoteSignal g.origin (g.ctr % 4096) (g.value % 65536) with
    | (t, true) => t
    | (t, false) => t.signalNotice g .badAddr

/-- R508, R513. A notice reaches its origin, or is forwarded; with no route it is logged here. -/
def State.noticeIn (s : State) (n : LinkNotice) : State :=
  if n.dest = s.get GRP_MEMBER then s.takeNotice n
  else match s.forward n.dest (.notice n) with
    | .ok t => t
    | .error _ => s.logNotice n

/-! ### The sending side of steps (R244, R488, R509) -/

/-- R488. A write to a link flow's window is split at every 4 KiB boundary of the offset; each part takes the next LF_SEQ. -/
def State.linkWrites (s : State) (p fn flow lf : Nat) : List (Nat × List Byte) → State
  | [] => s
  | (off, b) :: rest =>
    let n := Map.get s.link.lfSeq 0 lf
    let w : LinkWrite := { dest := s.get (LF_TX_DEST lf), origin := s.get GRP_MEMBER, lf := lf, flow := flow, fn := fn, seq := n, off := off, len := b.length }
    let s1 := { s with link := { s.link with lfSeq := Map.put 0 s.link.lfSeq lf ((n + 1) % 2 ^ 32) } }
    (s1.enqueueMsg p (.write w b)).linkWrites p fn flow lf rest

/-- R33, R509, R518. What refuses a TRANSFER to `n` bytes at `off` of a link flow. -/
def State.linkStatus (s : State) (fn lf off n : Nat) : Status :=
  if !s.domOn 2 then .aborted
  else if !s.on (LF_TX_EN lf) || s.get (LF_TX_FN lf) != fn || decide (s.get (LF_TX_LEN lf) * 4096 < off + n) || decide (s.get GRP_MEMBERS ≤ s.get (LF_TX_DEST lf)) then .badAddr
  else if (s.linkTo (s.get (LF_TX_DEST lf))).isNone then .linkLost
  else .ok

/-- R33, R246, R518. What refuses a SIGNAL_REMOTE. -/
def State.remoteStatus (s : State) (m : Nat) : Status :=
  if !s.domOn 2 then .aborted else if m = s.get GRP_MEMBER then .ok else if s.get GRP_MEMBERS ≤ m then .badAddr else if (s.linkTo m).isNone then .linkLost else .ok

/-- R244, R488. A signal leaves for another member; one whose task has lost a write to that member is lost too (assumption 114). -/
def State.linkSignal (s : State) (p fn flow m c v : Nat) : State :=
  let g : LinkSignal := { dest := m, origin := s.get GRP_MEMBER, ctr := c, value := v, flow := flow, fn := fn, seq := s.link.sigSeq }
  let t := { s with link := { s.link with sigSeq := (s.link.sigSeq + 1) % 2 ^ 32 } }
  if s.link.lost.contains (flow, m) then t.lostRef (.signal g) else t.enqueueMsg p (.signal g)

/-! ### The exchange (R500 to R502) -/

/-- R500. The exchange record of a port without its HMAC. -/
def State.exchRecord (s : State) (p : Nat) : List Byte :=
  let v := s.port p
  leBytes 2 (s.get FU_PROFILE_CUR) ++ leBytes 2 (s.get FU_ID_STEPPING) ++ leBytes 4 (s.get GRP_ID) ++ leBytes 1 (s.get GRP_MEMBER)
    ++ leBytes 1 (if s.on (PORT_CTRL_PEER_CHECK p) then s.get (PORT_CTRL_PEER_EXPECT p) else 255) ++ leBytes 1 (s.get (PORT_LANES_LANE_MASK p))
    ++ leBytes 1 (b2n v.enc + 2 * b2n v.matched + 4 * b2n v.resumeOk) ++ leBytes 4 (s.get (SESSION p)) ++ leBytes 4 (s.get (PEER_SESSION p))
    ++ leBytes 8 v.rx ++ leBytes 8 (s.pair GRP_EPOCH_LO GRP_EPOCH_HI) ++ leBytes 6 s.now.sec ++ leBytes 2 0
    ++ (List.range 8).flatMap (fun i => leBytes 4 (s.get (GRP_DIGEST i)))

/-- R495, R500. The exchange HMAC of a record. -/
def State.exchHmac (s : State) (p : Nat) (r : List Byte) : List Byte :=
  if (s.port p).enc then hmac256 (((s.port p).curKeys.drop 64).take 32) r else List.replicate 32 0

/-- R501. The fields of a peer's record that differ. -/
def State.mismatch (s : State) (p : Nat) (r : List Byte) : Nat :=
  let m := hdr r 8 1
  b2n (hdr r 0 2 != s.get FU_PROFILE_CUR) + 2 * b2n (hdr r 4 4 != s.get GRP_ID)
    + 4 * b2n ((s.on (PORT_CTRL_PEER_CHECK p) && m != s.get (PORT_CTRL_PEER_EXPECT p)) || m == s.get GRP_MEMBER)
    + 8 * b2n ((r.drop 0x2C).take 32 != (List.range 8).flatMap (fun i => leBytes 4 (s.get (GRP_DIGEST i))))
    + 16 * b2n (hdr r 0x1C 8 != s.pair GRP_EPOCH_LO GRP_EPOCH_HI)
    + 32 * b2n (bitOf (hdr r 11 1) 0 != (s.port p).enc || ((s.port p).enc && (r.drop 0x4C).take 32 != s.exchHmac p (r.take 0x4C)))
    + 64 * b2n (hdr r 10 1 != s.get (PORT_LANES_LANE_MASK p))

/-- R501. The peer's record is captured in the PEER registers. -/
def State.capturePeer (s : State) (p : Nat) (r : List Byte) : State :=
  let s1 := ((s.set (PEER_ID p) (hdr r 0 4)).set (PEER_GROUP p) (hdr r 4 4)).set (PEER_INFO p) (hdr r 8 3 + 2 ^ 24 * (hdr r 11 1 % 2))
  let s2 := (((s1.set (PEER_EPOCH_LO p) (hdr r 0x1C 4)).set (PEER_EPOCH_HI p) (hdr r 0x20 4)).set (PEER_SEC_LO p) (hdr r 0x24 4)).set (PEER_SEC_HI p) (hdr r 0x28 2)
  (List.range 8).foldl (fun t i => t.set (PEER_DIGEST p i) (hdr r (0x2C + 4 * i) 4)) s2

/-- R502. A fresh non-zero SESSION from the Sluice generator. -/
def State.freshSession (s : State) (p : Nat) : State :=
  let (b, s1) := s.drawRandom 4
  (s1.set (SESSION p) (leNat b % (2 ^ 32 - 1) + 1)).setPort p { s1.port p with fresh := true, matchSent := false, resumeOk := false }

/-- R502. A replay buffer at a resume: what the peer has is dropped, item flits become VOIDs of the same number and VC. -/
def voidItems (l : List Replay) : List Replay :=
  l.map (fun r => match r.ref with | .item _ _ _ => { r with flit := { r.flit with body := .voided }, ref := .other } | _ => r)

/-- R494, R499, R502. The port enters DATA: resumed at the number the peer expects, or in a new session. -/
def State.enterData (s : State) (p : Nat) (resume : Bool) (psess pexp : Nat) : State :=
  let s1 := if resume then s.ackBelow p pexp else s.discardReplay p
  let v := s1.port p
  let v1 := if resume then { v with replay := voidItems v.replay, resend := (voidItems v.replay).head?.map (·.seq) } else { v with tx := 0, rx := 0 }
  let s2 := s1.setPort p { v1 with credits := vcBuffers, owed := (0, 0, 0), resends := 0, matched := false, matchSent := false, resumeOk := false, fresh := false,
                                   peerMatch := none, retry := false, echo := none }
  ((((s2.set (PEER_SESSION p) psess).flag (PORT_STAT_RESUMED p) resume).set (PORT_LANES_LANE_ACTIVE p) (s.get (PORT_LANES_LANE_MASK p))).set
    (PORT_STAT_MISMATCH p) 0).setPortState p 5

/-- R494, R499, R502. DATA once both ends have sent MATCH and agree on resuming, and every receive buffer is empty. -/
def State.tryData (s : State) (p : Nat) : State :=
  let v := s.port p
  match v.peerMatch with
  | some (pr, psess, pexp) => if v.rxBuf.isEmpty && v.arrival.isNone && v.matched && v.matchSent && pr == v.resumeOk && (v.resumeOk || v.fresh) then s.enterData p v.resumeOk psess pexp else s
  | none => s

/-- R501, R502. A received exchange record is compared. -/
def State.exchange (s : State) (p : Nat) (r : List Byte) : State :=
  let s := s.capturePeer p r
  let m := s.mismatch p r
  let s := s.set (PORT_STAT_MISMATCH p) m
  if m ≠ 0 then (s.setPort p { s.port p with matched := false, matchSent := false, peerMatch := none }).setPortState p 4 |>.capture (portPage p) .badParam m 0
  else
    let v := s.port p
    let psess := hdr r 0x0C 4
    let pexp := hdr r 0x14 8
    let oldest := (v.replay.head?.map (·.seq)).getD v.tx
    let ok := !v.fresh && hdr r 0x10 4 == s.get (SESSION p) && psess == s.get (PEER_SESSION p) && psess != 0 && s.get (SESSION p) != 0
      && decide (oldest ≤ pexp) && decide (pexp ≤ v.tx)
    let s1 := if !ok && !v.fresh then (if s.on RNG_STAT_OK then s.freshSession p else s) else s.setPort p { v with resumeOk := ok }
    let w := s1.port p
    (s1.setPort p { w with matched := w.resumeOk || w.fresh,
                           peerMatch := if bitOf (hdr r 11 1) 1 then some (bitOf (hdr r 11 1) 2, psess, pexp) else none }).tryData p

/-! ### The epoch (R520) -/

/-- R520. The round epoch advances. -/
def State.advanceEpoch (s : State) (v : Nat) : State :=
  let s1 := (s.setPair GRP_EPOCH_LO GRP_EPOCH_HI v).flag GRP_STAT_EPOCH_ARMED false
  ({ s1 with link := { s1.link with armed := none, epochDue := false } }).raise 0x680 4

/-- R507, R520. A tick reaches the epoch arm; a quiesce of the GROUP page defers the advance. -/
def State.epochTick (s : State) (tick : Nat) : State :=
  match s.link.armed with
  | some (v, t) => if t ≤ tick then (if s.quiet 0x680 then { s with link := { s.link with epochDue := true } } else s.advanceEpoch v) else s
  | none => s

/-- R507. The quiesce of the GROUP page ends: a deferred epoch advance is made. -/
def State.epochResume (s : State) : State :=
  match s.link.armed with
  | some (v, _) => if s.link.epochDue && !s.quiet 0x680 then s.advanceEpoch v else s
  | none => s

end Sys2Proof.Machine
end

