-- ==== Sys2Proof/Machine/MemCmds.lean ====
section
/-!
DEFINITION. The commands and events of the memory system (R281 to R295, R298, R299): count clears, line-cache commands, segments, the messages of the
coherence protocol, the accesses of other agents, the scrubber.
-/

namespace Sys2Proof.Machine

/-- CNT_CLR (R298) on the page of store `k` (0 weight store, 1 activation store) of logical core `n`. -/
def execCntClr (fn n k : Nat) (s : State) : Outcome :=
  command fn (0x108 + 16 * n + k) (.cntClr fn n k) s fun s => .next (((s.set (ST_CE_CNT n k) 0).set (ST_UE_CNT n k) 0).set (ST_CONFLICT_CNT n k) 0)

/-- LC_CNT_CLR (R299). -/
def execLcCntClr (fn n : Nat) (s : State) : Outcome :=
  command fn (0x10A + 16 * n) (.lcCntClr fn n) s fun s =>
    .next (((((s.set (LC_HIT_CNT n) 0).set (LC_MISS_CNT n) 0).set (LC_WB_CNT n) 0).set (LC_SNOOP_CNT n) 0).set (LC_XEVICT_CNT n) 0)

/-! ### Line-cache commands (R288) -/

/-- R288, R299. A line-cache command is refused BAD_PARAM. -/
def State.lcRefused (s : State) (fn n v : Nat) : State := (s.set (LC_STAT_RESULT n) Status.badParam.code).refuseWrite fn (LC_CMD n).addr v

/-- R288. A line-cache command starts, or is refused while one runs. -/
def State.lcStart (s : State) (fn n v : Nat) (inv : Bool) : State :=
  if s.on (LC_STAT_BUSY n) then s.lcRefused fn n v
  else
    let dirty := ((s.cache n).lines.filter (·.dirty)).map (·.line)
    ({ s with mem := { s.mem with lcCmds := Map.insert s.mem.lcCmds n ⟨inv, dirty⟩ } }).flag (LC_STAT_BUSY n) true

/-- LC_CMD FLUSH (R288). -/
def execLcFlush (fn n : Nat) (s : State) : Outcome :=
  command fn (0x10A + 16 * n) (.lcFlush fn n) s fun s => .next (s.lcStart fn n 1 false)

/-- LC_CMD FLUSH_INV (R288). -/
def execLcFlushInv (fn n : Nat) (s : State) : Outcome :=
  command fn (0x10A + 16 * n) (.lcFlushInv fn n) s fun s => .next (s.lcStart fn n 2 true)

/-- R288. One line of a cache is written back if dirty, and kept or invalidated. -/
def State.flushLine (s : State) (core l : Nat) (inv : Bool) : State :=
  let s := s.settled l
  match s.cached core l with
  | none => s
  | some x =>
    let s1 := if x.dirty then ((s.readOut core x).writeBack l x.fn x.dom x.yield).add (LC_WB_CNT core) 1 else s
    if inv || (x.dirty && x.broken) then
      let s2 := s1.setCached core l none
      match s2.dirEntry l with
      | none => s2
      | some e => s2.setDir l (e.owner.filter (· != core)) (e.sharers.filter (· != core))
    else s1.setCached core l (some { x with dirty := false, err := if x.dirty then [] else x.err })

/-- R288. A cache is flushed and emptied at once, as a grant change and a core reset do. -/
def State.flushInvAll (s : State) (core : Nat) : State :=
  ((s.cache core).lines.map (·.line)).foldl (fun t l => t.flushLine core l true) (s.drainEvictions core)

/-- R318, R549. A core stops: its claims are abandoned, its transactions run to their ends, its cache is flushed and emptied. -/
def State.emptyCache (s : State) (core : Nat) : State := ((s.dropClaims core (fun _ => true)).settleCore core).flushInvAll core

/-- R288, R458. The FLUSH_INV that a grant change performs, with its CMD_DONE. -/
def State.grantFlush (s : State) (core : Nat) : State :=
  (((s.settleCore core).flushInvAll core).set (LC_STAT_RESULT core) Status.ok.code).raise (0x10A + 16 * core) 3

/-- LC_CMD_DONE (R288): the write-backs are accepted; RESULT is OK, CMD_DONE is raised. -/
def execLcCmdDone (n : Nat) (s : State) : Outcome :=
  event (0x10A + 16 * n) s fun s =>
    match Map.find s.mem.lcCmds n with
    | none => .next s
    | some c =>
      let s0 := { s with mem := { s.mem with lcCmds := Map.erase s.mem.lcCmds n } }
      let s1 := if c.invalidate then s0.flushInvAll n else c.lines.foldl (fun t l => t.flushLine n l false) s0
      .next (((s1.flag (LC_STAT_BUSY n) false).set (LC_STAT_RESULT n) Status.ok.code).raise (0x10A + 16 * n) 3)

/-! ### Segments (R282 to R284, R308) -/

/-- Two ranges of units overlap. -/
def overlap (a n b m : Nat) : Bool := decide (0 < n) && decide (0 < m) && decide (a < b + m) && decide (b < a + n)

/-- R283. The checks of a segment that becomes valid at FBASE `b`: ranges, the function range, the physical range. -/
def State.segFits (s : State) (f x b : Nat) : Bool :=
  let n := s.get (SEG_LEN f x)
  let p := s.get (SEG_PBASE f x)
  decide (b + n ≤ 2 ^ 19) && decide (p + n ≤ 73728)
    && (List.range 64).all (fun y => y == x || !s.on (SEG_FBASE_VALID f y) || !overlap b n (s.get (SEG_FBASE f y)) (s.get (SEG_LEN f y)))
    && (List.range 9).all (fun g => (List.range 64).all (fun y =>
        (g == f && y == x) || !s.on (SEG_FBASE_VALID g y) || !overlap p n (s.get (SEG_PBASE g y)) (s.get (SEG_LEN g y))
          || (s.on (SEG_ATTR_RO g y) && s.on (SEG_ATTR_RO f x) && s.get (SEG_ATTR_PDOM g y) == s.get (SEG_ATTR_PDOM f x))))

/-- R308. The domain conditions of a segment that becomes valid. -/
def State.segDomain (s : State) (f x : Nat) : Bool :=
  let d := s.get (SEG_ATTR_PDOM f x)
  if d = 15 then !(f != 0 && s.on PROT_CTRL_REQUIRE_VF)
  else
    let st := s.get (DOM_STAT_STATE d)
    st != 0 && st != 3 && (s.get (DOM_CFG_FN d) == f || (s.on (DOM_CFG_SHARE d) && s.on (SEG_ATTR_RO f x)))

/-- R283. A segment write is refused with BAD_PARAM. -/
def State.segRefused (s : State) (fn f x v : Nat) : State :=
  (s.set (SEG_STAT_RESULT f) Status.badParam.code).refuseWrite fn (SEG_FBASE f x).addr v

/-- SEG_VALID_SET (R283, R308): function `fn` writes `v`, whose bit 31 is 1, to SEG_FBASE of segment `x` of function `f`. A VF sees the page RO. -/
def execSegValidSet (fn f x v : Nat) (s : State) : Outcome :=
  mmio fn (0x307 + f) s fun s =>
    if fn ≠ 0 then .next s
    else if s.on (SEG_STAT_BUSY f) || s.on (SEG_FBASE_VALID f x) || !s.segFits f x (v % 2 ^ 19) || !s.segDomain f x then .next (s.segRefused fn f x v)
    else .next (((s.set (SEG_FBASE f x) v).flag (SEG_FBASE_VALID f x) true).set (SEG_STAT_RESULT f) Status.ok.code)

/-- SEG_VALID_CLEAR (R284): `v`, whose bit 31 is 0, is written to SEG_FBASE. On a valid segment VALID clears and the write-backs begin. -/
def execSegValidClear (fn f x v : Nat) (s : State) : Outcome :=
  mmio fn (0x307 + f) s fun s =>
    if fn ≠ 0 then .next s
    else if s.on (SEG_STAT_BUSY f) then .next (s.segRefused fn f x v)
    else
      let s1 := (s.set (SEG_FBASE f x) v).set (SEG_STAT_RESULT f) Status.ok.code
      if s.on (SEG_FBASE_VALID f x) then
        let s2 := (s1.flag (SEG_FBASE_VALID f x) false).flag (SEG_STAT_BUSY f) true
        .next { s2 with mem := { s2.mem with segBusy := Map.insert s2.mem.segBusy f [(s.get (SEG_PBASE f x), s.get (SEG_LEN f x))] } }
      else .next s1

/-- R284. Every cached line of a physical range, in 2 MiB units, is written back if dirty and invalidated, once the accesses under way to the range are complete. -/
def State.flushRange (s : State) (pbase len : Nat) : State :=
  let hit (l : Nat) : Bool := decide (pbase ≤ l / 16384) && decide (l / 16384 < pbase + len)
  let busy := ((s.mem.txns.map (·.line) ++ s.mem.flights.map (·.line)).filter hit).dedup
  (List.range 16).foldl
    (fun t c =>
      let t := t.drainEvictions c
      (((t.cache c).lines.map (·.line)).filter hit).foldl (fun u l => u.flushLine c l true) t) (busy.foldl (fun t l => t.settled l) s)

/-- SEG_DONE (R284): the write-backs of function `f`'s segment clear are complete. -/
def execSegDone (f : Nat) (s : State) : Outcome :=
  event (0x307 + f) s fun s =>
    match Map.find s.mem.segBusy f with
    | none => .next s
    | some rs =>
      let s0 := { s with mem := { s.mem with segBusy := Map.erase s.mem.segBusy f } }
      .next (((rs.foldl (fun t r => t.flushRange r.1 r.2) s0).flag (SEG_STAT_BUSY f) false).raise (0x307 + f) 0)

/-! ### The messages of the protocol (R289 to R295) -/

/-- R286, R299. The misses of a core that are outstanding: requests at their homes, and replies on their way. -/
def State.misses (s : State) (core : Nat) : Nat :=
  (s.mem.txns.filter (·.core == core)).length + (s.mem.flights.filter (fun m => m.core == core && m.isFill)).length

/-- R296, R300. The line transactions outstanding on a stack. -/
def State.outstanding (s : State) (st : Nat) : Nat :=
  (s.mem.txns.filter (fun t => stackOf t.line == st)).length + (s.mem.flights.filter (fun m => m.isFill && stackOf m.line == st)).length

/-- R48, R286, R293, R296, R301. A request of a core for a line waits: its fabric is stalled, its line cache, the controllers or the function's page is quiesced, an earlier request of
the core waits, 128 misses or the stack's 512 transactions are outstanding, the line is in the core's eviction buffer, or a victim would find that buffer full. -/
def State.requestWaits (s : State) (core fn pa : Nat) : Bool :=
  let page := 0x10A + 16 * core
  (s.stall && fabricPage page) || s.quiet page || s.memQuiet fn pa 1 || s.behind page || decide (128 ≤ s.misses core) || decide (512 ≤ s.outstanding (stackOf (pa / 128)))
    || (s.evictedEntry core (pa / 128)).isSome || (s.needsVictim core (pa / 128) && s.bufferFull core)

/-- R286, R287. A core's request for the line of a function address of its holder arrives at the home; an access no segment takes sends none
(R282). A request for a line that the core does not hold is a miss, one to own a line that it shares a hit. -/
def State.requestFrom (s : State) (c : Instr) (req : Req) (core addr : Nat) (bytes : List Byte) : Outcome :=
  let fn := s.coreHolder core
  match s.translate fn addr (max 1 bytes.length) (!bytes.isEmpty || req != .rdS) with
  | none => .next s
  | some (pa, dom) =>
    if !s.domOn 3 || 128 < pa % 128 + bytes.length then .next s
    else if s.requestWaits core fn pa then s.hold (0x10A + 16 * core) c
    else .next ((s.add (if req = .upg then LC_HIT_CNT core else LC_MISS_CNT core) 1).request { req := req, core := core, line := pa / 128, fn := fn, dom := dom, off := pa % 128, bytes := bytes })

/-- RD_S (R289): `core` asks for the line of function address `addr`, shared. -/
def execRdS (core addr : Nat) (s : State) : Outcome := s.requestFrom (.rdS core addr) .rdS core addr []

/-- RD_M (R287): `core` asks for a line for ownership; its step writes `bytes` at `addr`. -/
def execRdM (core addr : Nat) (bytes : List Byte) (s : State) : Outcome := s.requestFrom (.rdM core addr bytes) .rdM core addr bytes

/-- CLAIM (R287): `core` asks for ownership without data; its step writes the whole line. -/
def execClaim (core addr : Nat) (bytes : List Byte) (s : State) : Outcome :=
  if bytes.length = 128 then s.requestFrom (.claim core addr bytes) .claim core addr bytes else .next s

/-- UPG (R289, R295): `core` asks to own a line it shares; its step writes `bytes` at `addr`. -/
def execUpg (core addr : Nat) (bytes : List Byte) (s : State) : Outcome := s.requestFrom (.upg core addr bytes) .upg core addr bytes

/-- R293. A core drops a line it holds and keeps it in its eviction buffer. -/
def State.evict (s : State) (core l : Nat) (owned : Bool) : State :=
  match s.cached core l with
  | some x =>
    if x.owned == owned && (s.cache core).evicted.length < 16 then
      (s.readOut core x).toBuffer core x
    else s
  | none => s

/-- R293, R294. An eviction of a core arrives at the home. -/
def evictArrives (core l : Nat) (owned : Bool) (s : State) : Outcome :=
  event 0x300 s fun s =>
    let s1 := s.evict core l owned
    match s1.evictedEntry core l with
    | some e => .next (if e.owned == owned then s1.homeEvict core l else s)
    | none => .next s

/-- EVICT_S (R293, R294). -/
def execEvictS (core l : Nat) (s : State) : Outcome := evictArrives core l false s

/-- EVICT_M (R293, R294). -/
def execEvictM (core l : Nat) (s : State) : Outcome := evictArrives core l true s

/-- A message arrives at a core, whose fabric may be stalled: it is withheld until the stall ends, each on its own. -/
def arrivesAtCore (k : Msg) (c : Instr) (core l : Nat) (s : State) : Outcome :=
  if s.stall && fabricPage (0x10A + 16 * core) then s.hold (0x10A + 16 * core) c else .next (s.arrive k core l)

/-- R293. A reply arrives at a core; one that needs a victim waits while the eviction buffer is full. -/
def fillsCore (k : Msg) (c : Instr) (core l : Nat) (s : State) : Outcome :=
  if s.needsVictim core l && s.bufferFull core then s.hold (0x10A + 16 * core) c else arrivesAtCore k c core l s

/-- DATA_S (R289). -/
def execDataS (core l : Nat) (s : State) : Outcome := fillsCore .dataS (.dataS core l) core l s

/-- DATA_M (R289). -/
def execDataM (core l : Nat) (s : State) : Outcome := fillsCore .dataM (.dataM core l) core l s

/-- GRANT (R289). -/
def execGrant (core l : Nat) (s : State) : Outcome := fillsCore .grant (.grant core l) core l s

/-- EVICT_ACK (R293). -/
def execEvictAck (core l : Nat) (s : State) : Outcome := arrivesAtCore .evictAck (.evictAck core l) core l s

/-- SNP_INV (R289, R294). -/
def execSnpInv (core l : Nat) (s : State) : Outcome := arrivesAtCore .snpInv (.snpInv core l) core l s

/-- SNP_SHR (R291). -/
def execSnpShr (core l : Nat) (s : State) : Outcome := arrivesAtCore .snpShr (.snpShr core l) core l s

/-- ACK (R289). -/
def execAck (core l : Nat) (s : State) : Outcome := event 0x300 s fun s => .next (s.arrive .ack core l)

/-- DATA (R289). -/
def execData (core l : Nat) (s : State) : Outcome := event 0x300 s fun s => .next (s.arrive .data core l)

/-- NOT_HELD (R289). -/
def execNotHeld (core l : Nat) (s : State) : Outcome := event 0x300 s fun s => .next (s.arrive .notHeld core l)

/-- NOT_HELD_EVICTING (R294). -/
def execNotHeldEvicting (core l : Nat) (s : State) : Outcome := event 0x300 s fun s => .next (s.arrive .notHeldEvicting core l)

/-! ### The other agents (R291) -/

/-- HOME_AGENT_READ (R291, R313): agent `agent` (its code in R325) reads the line of an address of function `fn`. -/
def execHomeAgentRead (agent fn core addr : Nat) (s : State) : Outcome :=
  match s.translate fn addr 1 false with
  | none => .next s
  | some (pa, dom) =>
    if !s.domOn 3 then .next s
    else if s.memQuiet fn pa 1 || s.behind 0x300 then s.hold 0x300 (.homeAgentRead agent fn core addr)
    else .next (s.agentRead agent fn core dom (pa / 128)).1

/-- HOME_AGENT_WRITE (R291, R314, R315): agent `agent` writes bytes within one line, from address `addr` of function `fn` on. -/
def execHomeAgentWrite (agent fn core addr : Nat) (bytes : List Byte) (s : State) : Outcome :=
  match s.translate fn addr bytes.length true with
  | none => .next s
  | some (pa, dom) =>
    if !s.domOn 3 || bytes.isEmpty || 128 < pa % 128 + bytes.length then .next s
    else if s.memQuiet fn pa bytes.length || s.behind 0x300 then s.hold 0x300 (.homeAgentWrite agent fn core addr bytes)
    else .next (s.agentWrite agent fn core dom (pa / 128) (pa % 128) bytes).1

/-! ### The scrubber (R281) -/

/-- R281. What the scrubber does to a line: nothing while a cache holds it in M or a transaction is in progress; otherwise the code is checked. -/
def State.scrubLine (s : State) (l : Nat) : State :=
  if (s.owner l).isSome || s.lineBusy l then s
  else
    let s := s.add (MS_RD_LINES (stackOf l)) 1
    match (s.lineMeta l).code with
    | .correctable => s.lineCe l
    | .uncorrectable => s.lineUe l 0 1
    | _ => s

/-- SCRUB_STEP (R281, R301): the next line in granule order, where its stack is not quiesced; SCRUB_PASS at the end of a pass. -/
def execScrubStep (s : State) : Outcome :=
  event 0x300 s fun s =>
    let g := s.get SCRUB_POS
    if !s.on SCRUB_CTRL_EN || s.quiet 0x300 || s.quiet (0x301 + stackOf (2 * g + b2n s.mem.scrubHalf)) then .next s
    else
      let s1 := s.scrubLine (2 * g + b2n s.mem.scrubHalf)
      let s2 := { s1 with mem := { s1.mem with scrubHalf := !s.mem.scrubHalf } }
      if !s.mem.scrubHalf then .next s2
      else if g + 1 < 603979776 then .next (s2.set SCRUB_POS (g + 1))
      else .next ((s2.set SCRUB_POS 0).raise 0x300 2)

end Sys2Proof.Machine
end

