-- ==== Sys2Proof/Machine/Operands.lean ====
section
/-!
DEFINITION. The operands of steps (chapter 05): effective addresses, shapes, regions and hazards (R122, R123, R130), the checks of a step's fields and
ranges (R131, R160, R618), and the reads and writes of a row in every space.
-/

namespace Sys2Proof.Machine

/-- A memory operand of a step: its reference, its rows, the bytes of a row, whether the step writes it. -/
structure Operand where
  ref : OpRef
  rows : Nat
  len : Nat
  write : Bool
  deriving DecidableEq, Repr

/-- R75. Bytes of an element of a format code; an undefined code has none. -/
def fmtBytes (c : Nat) : Nat := ((Fmt.ofCode c).map Fmt.bytes).getD 0

/-- R633. The plane of a matrix step. -/
def planeOperand (m : MatmulStep) : Operand :=
  if m.axisT then ⟨m.plane, m.k, m.n * fmtBytes m.pfmt, false⟩ else ⟨m.plane, m.n, m.k * fmtBytes m.pfmt, false⟩

/-- R633. The broadcast operand of a matrix step. -/
def bcastOperand (m : MatmulStep) : Operand :=
  if m.xpose then ⟨m.bcast, m.k, m.vcnt * fmtBytes m.bfmt, false⟩ else ⟨m.bcast, m.vcnt, m.k * fmtBytes m.bfmt, false⟩

/-- R136, R137. The sources of a VECTOR step that its VOP uses, with their format codes. -/
def vectorSources (vop : Nat) (v : VectorStep) : List (OpRef × Nat) := [(v.a, v.afmt), (v.b, v.bfmt), (v.c, v.cfmt)].take (vopSources vop)

/-- R132 to R142. The memory operands of a step; the written one last, but for the INIT of the matrix steps, which stands behind it. -/
def stepOperands : StepOp → List Operand
  | .load x => [⟨x.src, x.rows, x.rowLen, false⟩, ⟨x.dst, x.rows, x.rowLen, true⟩]
  | .transfer x => [⟨x.src, x.rows, x.rowLen, false⟩, ⟨x.dst, x.rows, x.rowLen, true⟩]
  | .matmul m =>
    [planeOperand m, bcastOperand m, ⟨m.dst, m.vcnt, m.n * fmtBytes m.ofmt, true⟩] ++ (if m.initEn then [⟨m.init, m.vcnt, m.n * 4, false⟩] else [])
  | .matvec m =>
    [⟨m.wgt, m.n, m.k * fmtBytes m.wfmt, false⟩, ⟨m.vec, m.nvec, m.k * fmtBytes m.vfmt, false⟩, ⟨m.dst, m.nvec, m.n * fmtBytes m.ofmt, true⟩]
      ++ (if m.initEn then [⟨m.init, m.nvec, m.n * 4, false⟩] else [])
  | .vector vop v =>
    ((vectorSources vop v).filter (fun e => e.1.space != 15)).map (fun e => ⟨e.1, v.rows, v.cols * fmtBytes e.2, false⟩)
      ++ [⟨v.dst, v.rows, (if vopReduces vop then 1 else v.cols) * fmtBytes v.ofmt, true⟩]
  | .sealing x => [⟨x.src, 1, x.len, false⟩, ⟨x.dst, 1, 128, true⟩]
  | .flagsOut d => [⟨d, 1, 4, true⟩]
  | _ => []

/-- R13, R115, R160. The step is no work. -/
def noWork : StepOp → Bool
  | .load x => x.rows == 0 || x.rowLen == 0
  | .transfer x => x.rows == 0 || x.rowLen == 0
  | .matmul m => m.k == 0 || m.n == 0 || m.vcnt == 0 || m.blk == 0
  | .matvec m => m.k == 0 || m.n == 0 || m.nvec == 0
  | .vector _ v => v.rows == 0 || v.cols == 0
  | .sealing x => x.len == 0
  | _ => false

/-- R121, R130. The effective address of an operand. -/
def opAddr (aregs : List Nat) (r : OpRef) : Nat := (r.off + (if r.areg = 0 then 0 else aregs.getD r.areg 0)) % 2 ^ 40

/-- The address of row `i` of an operand at `base`. -/
def Operand.row (o : Operand) (base i : Nat) : Nat := base + i * (o.ref.pitch * 128)

/-- R123. The region of an operand; HBM_C and HBM_D are one space. None where the operand has no byte. -/
def Operand.region (o : Operand) (base : Nat) : Option Region :=
  if o.rows = 0 ∨ o.len = 0 then none
  else some { space := if o.ref.space = 3 then 2 else o.ref.space, lo := base, hi := o.row base (o.rows - 1) + o.len, write := o.write }

/-- R122. Two regions of one space overlap, and one of them is written. -/
def Region.meets (a b : Region) : Bool := a.space == b.space && (a.write || b.write) && decide (a.lo < b.hi) && decide (b.lo < a.hi)

/-- R123. The regions of a step with given effective addresses; none for no work. -/
def stepRegions (op : StepOp) (addrs : List Nat) : List Region :=
  if noWork op then [] else ((stepOperands op).zip addrs).filterMap (fun e => e.1.region e.2)

/-- R141. A step that writes: one with a written operand, or a TASK step (assumption 48). -/
def stepWrites : StepOp → Bool
  | .post .. => true
  | .chainOp .. => true
  | .commit _ => true
  | op => (stepOperands op).any (·.write)

/-- R129. The opcode of a step. -/
def stepOpcode : StepOp → Nat
  | .nop => 0x00
  | .load _ => 0x10
  | .matmul _ => 0x20
  | .matvec _ => 0x21
  | .vector .. => 0x30
  | .transfer _ => 0x40
  | .signal .. => 0x50
  | .wait .. => 0x50
  | .set .. => 0x50
  | .remote .. => 0x50
  | .post .. => 0x60
  | .chainOp .. => 0x60
  | .commit _ => 0x60
  | .sealing _ => 0x70
  | .fence _ => 0x80
  | .flagsOut _ => 0x90
  | .flagsClr _ => 0x90
  | .saltSet _ => 0x90
  | .seta .. => 0xA0
  | .adda .. => 0xA0
  | .loop .. => 0xA0
  | .jump _ => 0xA0
  | .refused c _ => c

/-! ### Checks of the fields (R160, R115, R618) -/

/-- R62, R75. An output mode from its codes. -/
def outMode (code : Nat) (rnd ovfm : Bool) : OutMode := { fmt := (Fmt.ofCode code).getD .fp32, stochastic := rnd, propagate := ovfm }

/-- R62, R75. An undefined output format, or stochastic rounding to a format that does not allow it. -/
def outBad (code : Nat) (rnd : Bool) : Bool := (Fmt.ofCode code).isNone || (outMode code rnd false).refused

/-- R67, R75, R81. Undefined formats of a stored and a moving operand, or a pairing that is refused. -/
def pairBad (p b : Nat) (mixed : Bool) : Bool :=
  match Fmt.ofCode p, Fmt.ofCode b with
  | some x, some y => (pairing x y mixed).isNone
  | _, _ => true

/-- R131. Spaces AS and HBM_C. -/
def asOrHbm (r : OpRef) : Bool := r.space == 1 || r.space == 2

/-- An undefined encoding or a forbidden role: BAD_DESC (R6, R81 to R89, R99, R131, R137, R140, R143). -/
def descBad (stepCnt : Nat) : StepOp → Bool
  | .load x => !([1, 2, 3, 4, 5, 6, 7].contains x.src.space) || !([0, 1].contains x.dst.space)
  | .transfer x => !([0, 1, 2].contains x.src.space) || !([1, 2, 3, 5, 6, 7, 8].contains x.dst.space)
  | .matmul m =>
    m.mode == 3 || !(if m.mode = 0 then m.plane.space == 0 else asOrHbm m.plane) || !(if m.mode = 1 then m.bcast.space == 0 else asOrHbm m.bcast)
      || !asOrHbm m.dst || (m.initEn && !asOrHbm m.init) || m.gang == 3 || m.share == 3 || (m.gang == 1 && m.lead != 0 && m.lead != 2)
      || (m.gang == 2 && m.lead != 0) || (m.xpose && m.bcast.space == 0) || pairBad m.pfmt m.bfmt (m.mode == 0) || outBad m.ofmt m.rnd
  | .matvec m =>
    m.wgt.space != 0 || m.vec.space != 1 || m.dst.space != 1 || (m.initEn && m.init.space != 1) || m.axisT || pairBad m.wfmt m.vfmt true
      || outBad m.ofmt m.rnd
  | .vector vop v =>
    vop == 0 || decide (14 < vop) || (vectorSources vop v).any (fun e => !(asOrHbm e.1 || e.1.space == 15) || (Fmt.ofCode e.2).isNone)
      || !asOrHbm v.dst || outBad v.ofmt v.rnd || (vop == 13 && v.ofmt != 6)
  | .sealing x => !([1, 2, 3].contains x.src.space) || !asOrHbm x.dst || decide (1 < x.alg)
  | .flagsOut d => !asOrHbm d
  | .seta a _ => a == 0
  | .adda a _ => a == 0
  | .loop _ t => decide (stepCnt ≤ t)
  | .jump t => decide (stepCnt ≤ t)
  | _ => false

/-- A forbidden value: BAD_PARAM (R82, R99, R130). -/
def paramBad (op : StepOp) : Bool :=
  (stepOperands op).any (fun o => decide (1 < o.rows) && decide (o.ref.pitch * 128 < o.len))
    || (match op with
        | .matmul m => decide (256 < m.blk)
        | .matvec m => decide (4 < m.nvec) || decide (16384 < m.k)
        | _ => false)

/-- A misaligned operand: BAD_ADDR (R132, R140). -/
def alignBad (op : StepOp) (addrs : List Nat) : Bool :=
  match op with
  | .load x =>
    x.rowLen % 4 != 0 || addrs.any (· % 4 != 0) || (x.dst.space == 0 && (addrs.getD 1 0 % 128 != 0 || x.rowLen % 128 != 0))
  | .transfer x => x.rowLen % 4 != 0 || addrs.any (· % 4 != 0)
  | .sealing _ => addrs.getD 1 0 % 128 != 0
  | _ => false

/-! ### Ranges (R131, R164, R169, R269, R274, R282, R285, R331, R427, R509) -/

/-- R334. The weight copy that a task's item is bound to. -/
def State.taskBound (s : State) (t : Task) : Option (Nat × Nat) := ((s.exp t.exp).bind (·.bound)).join

/-- R164, R169. What refuses an access to the REED space. -/
def State.reedStatus (s : State) (fn : Nat) (t : Task) (c off n : Nat) (write : Bool) : Status :=
  match (s.chain c).desc with
  | none => .badAddr
  | some d =>
    if s.chainHolder c ≠ fn ∨ 64 + d.slot * 4096 < off + n then .badAddr
    else if write then
      if !s.on (CH_ENABLE c) || meet off n 0 4 || meet off n 8 20 then .badAddr else .ok
    else if !t.hasSrc || t.srcChain != c then .badAddr
    else match Map.find s.work.cells t.srcCell with
      | some x => if x.chain ≠ c ∨ 64 + hdr x.header 0 4 < off + n then .badAddr else .ok
      | none => .badAddr

/-- R274. Function `fn` may access bytes of core `c`'s activation store as PEER_AS: an admitted core that it holds. -/
def State.peerOk (s : State) (fn c off n : Nat) : Bool :=
  decide (c < 16) && s.coreHolder c == fn && bitOf (s.get FT_CORE_ADM) c && decide (off + n ≤ 2 ^ 23)

/-- The status of an access to one row of an operand: OK, BAD_ADDR, LINK_LOST (R509), or ABORTED where the domain of the island that serves it is off (R33). -/
def State.rowStatus (s : State) (core : Nat) (r : Running) (sp addr n : Nat) (write : Bool) : Status :=
  let fn := s.coreHolder core
  let ok (b : Bool) : Status := if b then .ok else .badAddr
  match sp with
  | 0 => ok (s.wsOffset core r.sel (s.taskBound r.task) addr n write).isSome
  | 1 => ok (decide (addr + n ≤ 2 ^ 23))
  | 2 => if s.domOn 3 then ok (s.translate fn addr n write).isSome else .aborted
  | 3 => if s.domOn 3 then ok (s.translate fn addr n write).isSome else .aborted
  | 4 => if !s.domOn 3 || !s.domOn 1 then .aborted else ok (s.on (PEAT_CTRL_EN fn) && decide (addr + n ≤ s.get (PEAT_LEN fn) * 4096))
  | 5 => ok (s.peerOk fn (addr / 2 ^ 23) (addr % 2 ^ 23) n)
  | 6 => s.reedStatus fn r.task (addr / 2 ^ 32) (addr % 2 ^ 32) n write
  | 7 => if s.domOn 1 then ok (s.hostWindow fn addr n write).isSome else .aborted
  | 8 => s.linkStatus fn (addr / 2 ^ 28) (addr % 2 ^ 28) n
  | _ => .badDesc

/-- The statuses of the rows of an operand, each row an access of its own (assumption 49). -/
def State.operandStatus (s : State) (core : Nat) (r : Running) (o : Operand) (base : Nat) : List Status :=
  if o.len = 0 then [] else (List.range o.rows).map (fun i => s.rowStatus core r o.ref.space (o.row base i) o.len o.write)

/-- R247, R138. The function may name a counter. -/
def State.ctrGranted (s : State) (core c : Nat) : Bool := s.ctrHolder c == s.coreHolder core

/-- R138, R518. What refuses a SYNC step's counter or member. -/
def State.syncStatus (s : State) (core : Nat) : StepOp → Status
  | .signal c _ => if s.ctrGranted core c then .ok else .badAddr
  | .wait _ c _ => if s.ctrGranted core c then .ok else .badAddr
  | .set c _ => if s.ctrGranted core c then .ok else .badAddr
  | .remote m c _ => if !s.ctrGranted core c then .badAddr else s.remoteStatus m
  | _ => .ok

/-- R618. The first status in the order BAD_DESC, BAD_PARAM, KEY_DENIED, BAD_ADDR, then any other; OK where there is none. -/
def firstOf (l : List Status) : Status :=
  match [Status.badDesc, .badParam, .keyDenied, .badAddr].find? (fun x => l.contains x) with
  | some x => x
  | none => (l.find? (fun x => x != .ok)).getD .ok

/-- R87. A matrix step on a core with no array in service is refused. -/
def State.arrayStatus (s : State) (core : Nat) (op : StepOp) : Status :=
  match op with
  | .matmul _ => if (s.serving core 0).isNone then .faulted else .ok
  | _ => .ok

/-- R131, R140. The ranges of a step at issue. A SEAL step's SRC is Sluice's to refuse. -/
def State.rangeStatus (s : State) (core : Nat) (r : Running) (op : StepOp) (addrs : List Nat) : Status :=
  if noWork op then .ok
  else
    let os := (stepOperands op).zip addrs
    let os := match op with | .sealing _ => os.drop 1 | _ => os
    firstOf (os.flatMap (fun e => s.operandStatus core r e.1 e.2))

/-- R13, R155, R160, R618. What refuses a step at issue. No work is not refused for want of an array in service: R13 and R115 stand before R87 (assumption 102). -/
def State.issueStatus (s : State) (core : Nat) (r : Running) (stepCnt step : Nat) (h : StepHdr) (op : StepOp) (addrs : List Nat) : Status :=
  if stepCnt ≤ step ∨ descBad stepCnt op then .badDesc
  else if let .refused _ st := op then st
  else if paramBad op then .badParam
  else if alignBad op addrs ∨ (h.sigEn ∧ !s.ctrGranted core h.sigCtr) then .badAddr
  else firstOf [s.rangeStatus core r op addrs, s.syncStatus core op, if noWork op then .ok else s.arrayStatus core op]

/-! ### Rows (R131) -/

/-- R163, R164. Bytes of a taken item: header bytes 0 to 63, then the payload. -/
def State.reedRead (s : State) (core flow : Nat) (x : Cell) (off n : Nat) : State × Status × List Byte :=
  let head := (x.header.drop off).take (min n (64 - off))
  let m := n - head.length
  match s.hbmRead (.home 1) (s.chainHolder x.chain) core flow (s.payAddr x (off - 64)) m with
  | (t, st, b) => (t, st, head ++ b)

/-- A read of one row of an operand, the data of HOST and PEAT rows apart. -/
def State.readRow (s : State) (core : Nat) (r : Running) (sp addr n : Nat) : State × Status × List Byte :=
  let fn := s.coreHolder core
  let flow := r.task.flow
  match sp with
  | 0 =>
    match s.wsOffset core r.sel (s.taskBound r.task) addr n false with
    | some off => s.storeRead 0 core off n flow
    | none => (s, .badAddr, [])
  | 1 => s.storeRead 1 core addr n flow
  | 2 => s.hbmRead .cache fn core flow addr n
  | 3 => s.hbmRead (.home 1) fn core flow addr n
  | 5 => s.storeRead 1 (addr / 2 ^ 23) (addr % 2 ^ 23) n flow
  | 6 =>
    match Map.find s.work.cells r.task.srcCell with
    | some x => s.reedRead core flow x (addr % 2 ^ 32) n
    | none => (s, .badAddr, [])
  | _ => (s, .badAddr, [])

/-- Rows `i` to the last of an operand, `k` of them: the first failure ends the reading (R275). -/
def State.readRowsFrom (s : State) (core : Nat) (r : Running) (o : Operand) (base : Nat) : Nat → Nat → State × Status × List (List Byte)
  | 0, _ => (s, .ok, [])
  | k + 1, i =>
    match s.rowStatus core r o.ref.space (o.row base i) o.len false with
    | .ok =>
      match s.readRow core r o.ref.space (o.row base i) o.len with
      | (t, .ok, b) => let (u, st, l) := t.readRowsFrom core r o base k (i + 1); (u, st, b :: l)
      | (t, st, _) => (t, st, [])
    | st => (s, st, [])

/-- Every row of an operand. -/
def State.readRows (s : State) (core : Nat) (r : Running) (o : Operand) (base : Nat) : State × Status × List (List Byte) :=
  if o.len = 0 then (s, .ok, List.replicate o.rows []) else s.readRowsFrom core r o base o.rows 0

/-- Every row of several operands; the first failure ends the reading. -/
def State.readOperands (s : State) (core : Nat) (r : Running) : List (Operand × Nat) → State × Status × List (List (List Byte))
  | [] => (s, .ok, [])
  | (o, b) :: os =>
    match s.readRows core r o b with
    | (t, .ok, l) => let (u, st, ls) := t.readOperands core r os; (u, st, l :: ls)
    | (t, st, _) => (t, st, [])

/-- R164, R165. A write into the open child of the task's source item; without effect where the child is committed or VOID. -/
def State.reedWrite (s : State) (core : Nat) (r : Running) (c off : Nat) (bs : List Byte) : State × Status :=
  match s.child r.task.exp c with
  | some ⟨_, _, .building k, _⟩ =>
    match Map.find s.work.cells k with
    | none => (s, .ok)
    | some x =>
      let hb := bs.take (64 - off)
      let pay := bs.drop (64 - off)
      let at_ := off - 64
      let y := { x with header := if hb.isEmpty then x.header else patch x.header off hb, top := if pay.isEmpty then x.top else max x.top (at_ + pay.length) }
      (s.setCell k y).hbmWrite (.home 1) (s.chainHolder c) core r.task.flow (s.payAddr x at_) pay
  | _ => (s, .ok)

/-- R33, R131, R133, R331. A write of one row of an operand in space `sp`. -/
def State.writeRow (s : State) (core : Nat) (r : Running) (sp addr : Nat) (bs : List Byte) : State × Status :=
  let fn := s.coreHolder core
  let flow := r.task.flow
  if bs.isEmpty then (s, .ok)
  else match sp with
  | 0 =>
    match s.wsOffset core r.sel (s.taskBound r.task) addr bs.length true with
    | some off => s.storeWrite 0 core off flow bs
    | none => (s, .badAddr)
  | 1 => s.storeWrite 1 core addr flow bs
  | 2 => s.hbmWrite .cache fn core flow addr bs
  | 3 => s.hbmWrite (.home 1) fn core flow addr bs
  | 5 => if s.peerOk fn (addr / 2 ^ 23) (addr % 2 ^ 23) bs.length then s.storeWrite 1 (addr / 2 ^ 23) (addr % 2 ^ 23) flow bs else (s, .badAddr)
  | 6 => s.reedWrite core r (addr / 2 ^ 32) (addr % 2 ^ 32) bs
  | 7 =>
    if !s.domOn 1 then (s, .aborted)
    else match s.hostWindow fn addr bs.length true with
    | some iova => s.hostWrite fn 0 iova bs
    | none => (s, .badAddr)
  | 8 =>
    match s.linkStatus fn (addr / 2 ^ 28) (addr % 2 ^ 28) bs.length, s.linkTo (s.get (LF_TX_DEST (addr / 2 ^ 28))) with
    | .ok, some p => (s.linkWrites p fn flow (addr / 2 ^ 28) (pieces 4096 (bs.length / 4096 + 3) (addr % 2 ^ 28) bs), .ok)
    | .ok, none => (s, .linkLost)
    | st, _ => (s, st)
  | _ => (s, .badAddr)

/-- R316. Several writes: a refused one changes nothing else, and the first failure is the status. -/
def State.writeAll (s : State) (core : Nat) (r : Running) (ws : List (Nat × Nat × List Byte)) : State × Status :=
  ws.foldl (fun (t, st) w => let (u, st1) := t.writeRow core r w.1 w.2.1 w.2.2; (u, firstBad st st1)) (s, .ok)

end Sys2Proof.Machine
end

