-- ==== Sys2Proof/Machine/StepWords.lean ====
section
/-!
DEFINITION. The steps of an image as its bytes spell them (R128 to R143), and the step buffer of a core, which holds them as fetched from the image in HBM (R155). Bits that the
rules mark RSV are ignored (R6).
-/

namespace Sys2Proof.Machine

/-- R130. The operand reference at an offset. -/
def opRefAt (b : List Byte) (o : Nat) : OpRef :=
  let v := hdr b o 8
  { off := bitsOf v 0 40, space := bitsOf v 40 4, areg := bitsOf v 44 4, pitch := bitsOf v 48 16 }

/-- R128. The header of a step. -/
def stepHdrAt (core slot : Nat) (b : List Byte) : StepHdr :=
  let c := hdr b 1 1
  { core := core, slot := slot, waitPrior := bitOf c 0, sigEn := bitOf c 1, last := bitOf c 2, sigCtr := bitsOf (hdr b 2 2) 0 12, tag := hdr b 4 4 }

/-- R132. The fields of LOAD and TRANSFER. -/
def xferAt (b : List Byte) : XferStep :=
  { src := opRefAt b 8, dst := opRefAt b 16, rowLen := hdr b 24 3, rows := hdr b 28 2, flush := bitOf (hdr b 30 1) 0 }

/-- R134. The fields of MATMUL. -/
def matmulAt (b : List Byte) : MatmulStep :=
  let c := hdr b 46 2
  let f := hdr b 48 3
  { plane := opRefAt b 8, bcast := opRefAt b 16, dst := opRefAt b 24, init := opRefAt b 32, k := hdr b 40 2, n := hdr b 42 2, vcnt := hdr b 44 2,
    mode := bitsOf c 0 2, axisT := bitOf c 2, gang := bitsOf c 3 2, share := bitsOf c 5 2, lead := bitsOf c 7 2, xpose := bitOf c 9, initEn := bitOf c 10,
    rnd := bitOf c 11, ovfm := bitOf c 12, blk := bitsOf f 0 9, pfmt := bitsOf f 9 4, bfmt := bitsOf f 13 4, ofmt := bitsOf f 17 4, seed := hdr b 52 4 }

/-- R135. The fields of MATVEC. -/
def matvecAt (b : List Byte) : MatvecStep :=
  let c := hdr b 44 1
  { wgt := opRefAt b 8, vec := opRefAt b 16, dst := opRefAt b 24, init := opRefAt b 32, k := hdr b 40 2, n := hdr b 42 2, nvec := bitsOf c 0 3,
    initEn := bitOf c 3, rnd := bitOf c 4, ovfm := bitOf c 5, axisT := bitOf c 6, wfmt := bitsOf (hdr b 45 1) 0 4, vfmt := bitsOf (hdr b 45 1) 4 4,
    ofmt := bitsOf (hdr b 46 1) 0 4, seed := hdr b 48 4 }

/-- R136. The fields of VECTOR. -/
def vectorAt (b : List Byte) : VectorStep :=
  let f := hdr b 41 2
  let c := hdr b 43 1
  { a := opRefAt b 8, b := opRefAt b 16, c := opRefAt b 24, dst := opRefAt b 32, afmt := bitsOf f 0 4, bfmt := bitsOf f 4 4, cfmt := bitsOf f 8 4,
    ofmt := bitsOf f 12 4, rnd := bitOf c 0, ovfm := bitOf c 1, cols := hdr b 44 2, rows := hdr b 46 2, seed := hdr b 48 4, imm := hdr b 52 4 }

/-- R138 to R143. The operation of an opcode whose SOP stands in byte 8; none where the SOP is not defined. -/
def sopAt (b : List Byte) : Nat → Nat → Option StepOp
  | 0x50, 0 => some (.signal (bitsOf (hdr b 10 2) 0 12) (hdr b 12 2))
  | 0x50, 1 => some (.wait false (bitsOf (hdr b 10 2) 0 12) (hdr b 12 2))
  | 0x50, 2 => some (.wait true (bitsOf (hdr b 10 2) 0 12) (hdr b 12 2))
  | 0x50, 3 => some (.set (bitsOf (hdr b 10 2) 0 12) (hdr b 12 2))
  | 0x50, 4 => some (.remote (hdr b 14 1) (bitsOf (hdr b 10 2) 0 12) (hdr b 12 2))
  | 0x60, 0 => some (.post (bitsOf (hdr b 10 1) 0 2) (hdr b 12 4) ((b.drop 24).take 32))
  | 0x60, 1 => some (.chainOp 1 (hdr b 9 1) (hdr b 11 1))
  | 0x60, 2 => some (.chainOp 2 (hdr b 9 1) (hdr b 11 1))
  | 0x60, 3 => some (.chainOp 3 (hdr b 9 1) (hdr b 11 1))
  | 0x60, 4 => some (.commit (hdr b 9 1))
  | 0x80, 0 => some (.fence true)
  | 0x80, 1 => some (.fence false)
  | 0x90, 0 => some (.flagsOut (opRefAt b 16))
  | 0x90, 1 => some (.flagsClr (bitsOf (hdr b 9 1) 0 5))
  | 0x90, 2 => some (.saltSet (hdr b 12 4))
  | 0xA0, 0 => some (.seta (bitsOf (hdr b 9 1) 0 4) (hdr b 16 5))
  | 0xA0, 1 => some (.adda (bitsOf (hdr b 9 1) 0 4) (hdr b 16 5))
  | 0xA0, 2 => some (.loop (bitsOf (hdr b 9 1) 0 4) (bitsOf (hdr b 12 4) 0 20))
  | 0xA0, 3 => some (.jump (bitsOf (hdr b 12 4) 0 20))
  | _, _ => none

/-- R129. What the 64 bytes of a step spell: an undefined opcode or SOP is refused with BAD_DESC. -/
def stepOpAt (b : List Byte) : StepOp :=
  let c := hdr b 0 1
  if c = 0x00 then .nop
  else if c = 0x10 then .load (xferAt b)
  else if c = 0x20 then .matmul (matmulAt b)
  else if c = 0x21 then .matvec (matvecAt b)
  else if c = 0x30 then .vector (hdr b 40 1) (vectorAt b)
  else if c = 0x40 then .transfer (xferAt b)
  else if c = 0x70 then .sealing { src := opRefAt b 8, dst := opRefAt b 16, len := hdr b 24 4, key := bitsOf (hdr b 28 2) 0 9, alg := hdr b 30 1 }
  else (sopAt b c (hdr b 8 1)).getD (.refused c .badDesc)

/-! ### The step buffer (R155) -/

/-- R154. A range of the image is read for a function, segment by segment (assumption 51: agent code 1). -/
def State.imageRead (s : State) (fn addr n : Nat) : State × Status × List Byte := s.engineRead 1 fn (n / 2 ^ 21 + 2) addr n

/-- R155. The groups in a core's step buffer, oldest first. -/
def State.stepGroups (s : State) (core : Nat) : List StepGroup := Map.get s.work.stepBuf [] core

/-- A core's step buffer takes contents. -/
def State.setStepGroups (s : State) (core : Nat) (l : List StepGroup) : State := { s with work := { s.work with stepBuf := Map.put [] s.work.stepBuf core l } }

/-- R155. The 32 KiB of a step buffer are 64 groups of eight steps of 64 bytes; a new group takes the place of the oldest (assumption 97). -/
def State.bufferGroup (s : State) (core : Nat) (g : StepGroup) : State :=
  let l := (s.stepGroups core).filter (fun x => !(x.ctx == g.ctx && x.group == g.group)) ++ [g]
  s.setStepGroups core (l.drop (l.length - 64))

/-- R154, R155. The steps of a context leave the buffer: its image is another one now (assumption 97). -/
def State.dropGroups (s : State) (core ctx : Nat) : State := s.setStepGroups core ((s.stepGroups core).filter (fun x => x.ctx != ctx))

/-- R155. The 64 bytes of step `k` of a context's image: from the step buffer, or fetched from HBM with the seven others of its group. Where the read of the group fails, the step
is read by itself and not kept. -/
def State.stepAt (s : State) (core ctx : Nat) (i : Image) (k : Nat) : State × Status × List Byte :=
  match (s.stepGroups core).find? (fun x => x.ctx == ctx && x.group == k / 8) with
  | some g => (s, .ok, (g.bytes.drop (64 * (k % 8))).take 64)
  | none =>
    match s.imageRead (s.coreHolder core) (i.base + i.stepOff + 512 * (k / 8)) (64 * min 8 (i.stepCnt - 8 * (k / 8))) with
    | (t, .ok, b) => (t.bufferGroup core { ctx := ctx, group := k / 8, bytes := b }, .ok, (b.drop (64 * (k % 8))).take 64)
    | (t, _, _) => t.imageRead (t.coreHolder core) (i.base + i.stepOff + 64 * k) 64

/-- R51, R301. The fetch of step `k` of a context's image waits for the end of a quiesce. -/
def State.stepHeld (s : State) (core ctx k : Nat) : Bool :=
  match Map.find s.work.images (core * 16 + ctx) with
  | none => false
  | some i =>
    decide (k < i.stepCnt) && !(s.stepGroups core).any (fun x => x.ctx == ctx && x.group == k / 8)
      && s.hbmHeld (s.coreHolder core) (i.base + i.stepOff + 512 * (k / 8)) (64 * min 8 (i.stepCnt - 8 * (k / 8)))

/-- R128, R155. Step `k` of a context's image, for a slot. At or beyond STEP_CNT, and where the read fails, the step is refused, its opcode and TAG open (assumption 70). -/
def State.stepRead (s : State) (core slot ctx k : Nat) : State × StepHdr × StepOp :=
  let unread (t : State) (st : Status) : State × StepHdr × StepOp :=
    let (a, t1) := t.drawFree
    let (b, t2) := t1.drawFree
    (t2, { core := core, slot := slot, waitPrior := false, sigEn := false, last := false, sigCtr := 0, tag := b % 2 ^ 32 }, .refused (a % 256) st)
  match Map.find s.work.images (core * 16 + ctx) with
  | none => unread s .badDesc
  | some i =>
    if i.stepCnt ≤ k then unread s .badDesc
    else match s.stepAt core ctx i k with
      | (t, .ok, b) => (t, stepHdrAt core slot b, stepOpAt b)
      | (t, st, _) => unread t st

end Sys2Proof.Machine
end

