-- ==== Sys2Proof/Machine/Steps.lean ====
section
/-!
DEFINITION. The sequencer and its units (chapter 05): how the steps of a task issue (R118, R122 to R124, R141, R240), run and complete (R125, R126, R258),
and how a task ends (R127). A step command is the sequencer's fetch of that step for the task in its slot; what has been fetched issues, and what has issued
starts, as soon as its conditions hold.
-/

namespace Sys2Proof.Machine

/-- The sequencer page of a core. -/
def seqPage (core : Nat) : Nat := 0x107 + 16 * core

/-! ### Entries and units (R118) -/

/-- The step in flight that has an issue number. -/
def State.entryAt (s : State) (core slot seq : Nat) : Option (Running × Entry) :=
  (s.running core slot).bind (fun r => (r.window.find? (fun e => e.seq == seq)).map (fun e => (r, e)))

/-- A task in a slot changes. -/
def State.mapRunning (s : State) (core slot : Nat) (f : Running → Running) : State :=
  match s.running core slot with
  | some r => s.setRunning core slot (some (f r))
  | none => s

/-- A step in flight changes. -/
def State.setEntry (s : State) (core slot : Nat) (e : Entry) : State :=
  s.mapRunning core slot fun r => { r with window := r.window.map (fun x => if x.seq == e.seq then e else x) }

/-- The steps in flight of a core. -/
def State.coreEntries (s : State) (core : Nat) : List Entry :=
  (List.range 4).flatMap (fun slot => match s.running core slot with | some r => r.window | none => [])

/-- R84. The arrays that a gang names. -/
def gangArrays (m : MatmulStep) : List Nat := (List.range m.members).map (fun i => i + (if m.gang = 2 then 0 else m.lead))

/-- R87, R118. The units that a step takes: arrays 0 to 3, MVP 4, VU 5, XFER 6, signal port 7, seal port 8. -/
def State.stepUnits (s : State) (core : Nat) (op : StepOp) : List Nat :=
  if noWork op then []
  else match op with
  | .matmul m => ((gangArrays m).filterMap (s.serving core)).dedup
  | .matvec _ => [4]
  | .vector .. => [5]
  | .load _ => [6]
  | .transfer _ => [6]
  | .signal .. => [7]
  | .set .. => [7]
  | .remote .. => [7]
  | .post .. => [7]
  | .chainOp .. => [7]
  | .commit _ => [7]
  | .sealing _ => [8]
  | _ => []

/-- R87, R115. Steps that wait for an array which has left service wait for the one that serves in its place. -/
def State.rehome (s : State) (core : Nat) : State :=
  (List.range 4).foldl (fun t i => t.mapRunning core i fun r =>
    { r with window := r.window.map (fun e => if e.phase == .queued then { e with units := s.stepUnits core e.op } else e) }) s

/-- R118. A unit holds one running step and at most one waiting step. -/
def State.unitsAccept (s : State) (core : Nat) (us : List Nat) : Bool :=
  us.all (fun u => decide (((s.coreEntries core).filter (fun e => e.units.contains u)).length < 2))

/-- The step is the oldest on each of its units. -/
def State.headOfUnits (s : State) (core : Nat) (e : Entry) : Bool :=
  e.units.all (fun u => (s.coreEntries core).all (fun x => !x.units.contains u || decide (e.seq ≤ x.seq)))

/-- R51, R112. The page of a unit; the ports and XFER have none. -/
def unitPage (core u : Nat) : Option Nat := if u < 4 then some (arrayPage core u) else if u < 6 then some (0x101 + 16 * core + u) else none

/-! ### Slot registers (R144, R158) -/

/-- R240. A full release. -/
def isRelease : StepOp → Bool
  | .signal .. => true
  | .set .. => true
  | .remote .. => true
  | _ => false

/-- The next step to issue: one of a resumed window, else one fetched. -/
def Running.next (r : Running) : Option (StepHdr × StepOp) :=
  match r.replay with
  | e :: _ => some (e.hdr, e.op)
  | [] => r.queue.head?

/-- R141. A fence holds the step of program order `k`, FULL any and STORE one that writes, while a step older than the fence has not completed. -/
def Running.fenced (r : Running) (k : Nat) (op : StepOp) : Bool :=
  r.fences.any (fun f => decide (f.1 < k) && (f.2 || stepWrites op) && (r.window ++ r.replay).any (fun e => decide (e.order < f.1)))

/-- The program order of the next step to issue. -/
def Running.nextOrder (r : Running) : Nat := match r.replay with | e :: _ => e.order | [] => r.order

/-- R144. The next step is held by an unsatisfied wait, a fence or WAIT_PRIOR. -/
def State.slotWaits (s : State) (core slot : Nat) (r : Running) : Bool :=
  s.waiting core slot || (match r.next with
    | some (h, op) => r.fenced r.nextOrder op || ((h.waitPrior || isRelease op) && !r.window.isEmpty)
    | none => false)

/-- R144. SLOT_STAT.STATE. -/
def State.slotState (s : State) (core slot : Nat) : Nat :=
  match s.running core slot with
  | none => if !bitOf (s.get (SEQ_CTRL_SLOT_EN core)) slot || s.quiet (seqPage core) || bitOf (s.get FT_CORE_FAULT) core then 0 else 1
  | some r =>
    if r.restore.isSome then 6
    else if r.preempt.isSome then 5
    else if r.hard.isSome || r.aborting then 7
    else if r.ended && r.replay.isEmpty then 4
    else if s.slotWaits core slot r then 3 else 2

/-- The oldest step of a task that has not completed, by its index. -/
def Running.oldest (r : Running) : Nat :=
  let l := r.window ++ r.replay
  (l.foldl (fun (b : Option Entry) e => match b with | some x => if e.order < x.order then some e else b | none => some e) none).elim r.pc (·.step)

/-- R158. The registers of a slot follow its task. -/
def State.slotRefresh (s : State) (core slot : Nat) : State :=
  let s1 := s.set (SLOT_STAT_STATE core slot) (s.slotState core slot)
  match s.running core slot with
  | some r => (s1.set (SLOT_STAT_INFLIGHT core slot) r.window.length).set (SLOT_STEP core slot) r.oldest
  | none => s1.set (SLOT_STAT_INFLIGHT core slot) 0

/-! ### The end of a task (R125 to R127) -/

/-- R125 to R127, R159. The task in a slot completes with a status and the step that gave it. Where no step gave it, the index, opcode and TAG reported are open
(assumption 32). -/
def State.taskEnds (s : State) (core slot : Nat) (r : Running) (st : Status) (f : Option StepFail) : State :=
  let s := s.setRunning core slot none
  let t :=
    if st = .ok then s.flowEnds r.task.flow core .ok 0
    else match f with
      | some f => ((s.taskFail core slot r.task st f.step f.opcode).set (SLOT_TAG core slot) f.tag).flowEnds r.task.flow core st f.tag
      | none =>
        let (a, s1) := s.drawFree
        let (b, s2) := s1.drawFree
        let (c, s3) := s2.drawFree
        (s3.taskFail core slot r.task st a (b % 256)).flowEnds r.task.flow core st (c % 2 ^ 32)
  t.slotRefresh core slot

/-- R125, R126, R151. The task completes once nothing of it is in flight: aborted, ABORTED; stopped, with its hard status; or after END, with its first soft status or OK. A task
that is being preempted waits for its save, one whose record is being reloaded for that. -/
def State.endCheck (s : State) (core slot : Nat) : State :=
  match s.running core slot with
  | none => s
  | some r =>
    if !r.window.isEmpty then s.slotRefresh core slot
    else if r.aborting then s.taskEnds core slot r .aborted none
    else match r.hard with
      | some f => s.taskEnds core slot r f.status (some f)
      | none =>
        if r.preempt.isSome || r.restore.isSome then s.slotRefresh core slot
        else if r.ended && r.queue.isEmpty && r.replay.isEmpty then
          match r.soft with
          | some f => s.taskEnds core slot r f.status (some f)
          | none => s.taskEnds core slot r .ok none
        else s.slotRefresh core slot

/-! ### The completion of a step (R66, R124 to R126, R258) -/

/-- R126. The statuses of SEAL steps are soft. -/
def softOp : StepOp → Bool
  | .sealing _ => true
  | _ => false

/-- An older failure stands before a newer one. -/
def olderFail (a : Option StepFail) (b : StepFail) : StepFail := match a with | some x => if x.order < b.order then x else b | none => b

/-- R110, R151. A step that is abandoned when its task is aborted or another step of it faults: a started MATMUL. -/
def Entry.abandonable (e : Entry) : Bool := e.phase != .queued && (match e.op with | .matmul _ => true | _ => false)

/-- R126, R151. A task whose step has completed: the step leaves the window; after a hard status nothing more issues and what has not started is withdrawn, and after a fault
the started MATMULs are abandoned. -/
def Running.stepEnded (r : Running) (e : Entry) (st : Status) : Running :=
  let f : StepFail := { order := e.order, status := st, step := e.step, opcode := stepOpcode e.op, tag := e.hdr.tag }
  let w := r.window.filter (fun x => x.seq != e.seq)
  if st = .ok then { r with window := w }
  else if softOp e.op then { r with window := w, soft := some (olderFail r.soft f) }
  else { r with window := w.filter (fun x => x.phase != .queued && !(st == .faulted && x.abandonable)), queue := [], replay := [], preempt := none, hard := some (olderFail r.hard f) }

/-- The chunks of a matrix step's reduction. -/
def chunkCount (p b k : Nat) : Nat := (pairing ((Fmt.ofCode p).getD .fp32) ((Fmt.ofCode b).getD .fp32) true).elim 0 (fun x => (k + x.1 - 1) / x.1)

/-- R86. The presented width of a step's arrays. -/
def State.stepWidth (s : State) (core : Nat) (us : List Nat) : Nat := (us.map (s.width core)).foldl min 64

/-- R86, R107, R109. The width in which the tiles of a matrix step are counted: that of the arrays that serve it (a retired member's own W does not count: assumption 101), and for
one that was stopped the width it was stopped in (assumption 99). -/
def State.entryWidth (s : State) (core : Nat) (e : Entry) : Nat := match e.part with | some p => p.width | none => s.stepWidth core e.units

/-- R85, R87. The planes, with their vectors, that enter array `b` for a step between two places: the shares of the members that it serves. -/
def State.arrayShare (s : State) (core : Nat) (e : Entry) (m : MatmulStep) (stop : Option StepPos) (b : Nat) : List Nat :=
  (gangArrays m).zipIdx.flatMap (fun (a, i) =>
    if s.serving core a = some b then m.entered (s.entryWidth core e) (chunkCount m.pfmt m.bfmt m.k) i (e.part.map (·.pos)) stop else [])

/-- R92, R94, R95. What enters the arrays of a step between two places counts: vectors, and where an array's stagger is OFF 16 bubbles for every change of plane, those between
two members' shares among them. Bubbles of a late source and stalls are matters of beats, which the model does not have. -/
def State.countArrays (s : State) (core : Nat) (e : Entry) (m : MatmulStep) (stop : Option StepPos) : State :=
  e.units.foldl (fun t b =>
    let l := s.arrayShare core e m stop b
    (t.add (MA_VEC_CNT core b) l.sum).add (MA_BUBBLE_CNT core b) (if s.get (MA_STAGGER core b) = 0 then 16 * (l.length - 1) else 0)) s

/-- R94, R113, R157. A step that ran counts, up to its end or to a place: vectors and bubbles in its arrays, weight lines in the MVP, elements in the vector unit. -/
def State.countStep (s : State) (core : Nat) (e : Entry) (stop : Option StepPos) : State :=
  if noWork e.op || e.status ≠ .ok then s
  else match e.op with
  | .matmul m => s.countArrays core e m stop
  | .matvec m =>
    let upTo (p : Option StepPos) (d : Nat) : Nat := match p with | some q => min m.n (q.block * 1536) | none => d
    s.add (MVP_READ_CNT core) ((upTo stop m.n - upTo (e.part.map (·.pos)) 0) * chunkCount m.wfmt m.vfmt m.k)
  | .vector _ v => s.add (VU_ELEM_CNT core) (v.rows * v.cols)
  | _ => s

/-- R94, R110. How far an abandoned matrix step had come is not told: what it counted is free. -/
def State.countAbandoned (s : State) (core : Nat) (e : Entry) : State :=
  match e.op with
  | .matmul _ => e.units.foldl (fun t b =>
      let (v, t1) := t.drawFree; let (u, t2) := t1.drawFree; (t2.add (MA_VEC_CNT core b) v).add (MA_BUBBLE_CNT core b) u) s
  | .matvec _ => let (v, t) := s.drawFree; t.add (MVP_READ_CNT core) v
  | _ => s

/-- R318. The writes of a step to lines that its core has claimed do not complete. -/
def State.abandonClaims (s : State) (core : Nat) (e : Entry) : State :=
  (e.regions.filter (fun g => g.write && g.space == 2)).foldl
    (fun t g => match t.translate (t.coreHolder core) g.lo (g.hi - g.lo) true with
      | some (pa, _) => t.dropClaims core (fun l => decide (pa / 128 ≤ l) && decide (l ≤ (pa + (g.hi - g.lo) - 1) / 128))
      | none => t) s

/-- R94, R151. What of a task's window is abandoned counts. -/
def State.countLost (s : State) (core : Nat) (l : List Entry) : State :=
  (l.filter Entry.abandonable).foldl (fun t e => (t.abandonClaims core e).countAbandoned core e) s

/-- R124, R240. The step is to signal when it completes. -/
def State.signals (s : State) (core : Nat) (e : Entry) : Bool := e.hdr.sigEn && s.ctrGranted core e.hdr.sigCtr

/-- R66, R124, R126, R151. A step completes with a status, whichever it is: its flags, its signal, its task; a fault abandons the task's started MATMULs. -/
def State.stepDone (s : State) (core slot : Nat) (r : Running) (e : Entry) (st : Status) : State :=
  let s := if st ≠ .ok ∧ !softOp e.op then s.abandonClaims core e else s
  let s0 := if st = .faulted ∧ !softOp e.op then s.countLost core (r.window.filter (fun x => x.seq != e.seq)) else s
  let s1 := (s0.addFlags core r.task.ctx (contributed st e.flags)).countStep core e none
  let s2 := if s1.signals core e then s1.ctrOp .signal e.hdr.sigCtr 1 else s1
  (s2.mapRunning core slot fun r => r.stepEnded e st).endCheck core slot

/-- The destination of a TRANSFER to a space. -/
def transferTo (sp : Nat) : StepOp → Bool
  | .transfer x => x.dst.space == sp
  | _ => false

/-- R133. A TRANSFER to HOST with FLUSH. -/
def flushes : StepOp → Bool
  | .transfer x => x.flush && x.dst.space == 7
  | _ => false

/-- R133, R506, R507. The port of a TRANSFER's link flow is stopping: the acknowledge is withheld. -/
def State.linkWithheld (s : State) (e : Entry) : Bool :=
  match e.op with
  | .transfer x => x.dst.space == 8 && (match s.linkTo (s.get (LF_TX_DEST (e.addrs.getD 1 0 / 2 ^ 28))) with | some p => s.portStopping p | none => false)
  | .remote m _ _ => (match s.linkTo m with | some p => s.portStopping p | none => false)
  | _ => false

/-- R427, R430, R452. An access of a core to HOST space waits. -/
def State.windowHeld (s : State) (core addr n : Nat) (write : Bool) : Bool :=
  let fn := s.coreHolder core
  match s.hostWindow fn addr n write with
  | some v => s.hostHeld fn v n
  | none => s.quiet 0x500

/-- The step writes memory, or is a TASK step, and has work to do. -/
def Entry.writesWork (e : Entry) : Bool := stepWrites e.op && !noWork e.op

/-- R240, R258. An older step of the task, in flight or to be issued again, writes. -/
def Running.olderWrite (r : Running) (e : Entry) : Bool := (r.window ++ r.replay).any (fun x => decide (x.order < e.order) && x.writesWork)

/-- R13, R124, R126, R133, R240, R258. A step that has run can complete: one that writes or signals after every older write of its task; one that failed writes nothing; an
acknowledge that is withheld waits, and no work has none. -/
def State.canComplete (s : State) (core slot : Nat) (r : Running) (e : Entry) : Bool :=
  let ran := match e.op with | .wait .. => !s.waiting core slot | _ => e.phase == .ran
  let signal := !(s.signals core e && (r.olderWrite e || s.ctrQuiet e.hdr.sigCtr))
  if e.status ≠ .ok && !softOp e.op then ran && signal
  else ran && signal && !(e.writesWork && r.olderWrite e)
    && (noWork e.op || (!s.linkWithheld e && !(transferTo 7 e.op && e.writes.any (fun w => s.windowHeld core w.2.1 w.2.2.length true))
      && !(flushes e.op && !e.flushed && !e.writes.isEmpty && !s.readRoom (s.coreHolder core))))

/-- R443. The IOVA of the completion flush of a TRANSFER to HOST: the last 4-byte-aligned address of its last row. -/
def State.flushIova (s : State) (core : Nat) (e : Entry) : Option Nat :=
  match e.writes.getLast? with
  | some (_, a, b) => s.hostWindow (s.coreHolder core) (a + b.length - 4) 4 true
  | none => none

/-- R125, R133, R259, R316. A step that has run completes: its writes become visible; a TRANSFER to HOST with FLUSH first waits for its flush read. -/
def State.complete (s : State) (core slot : Nat) (r : Running) (e : Entry) : State :=
  let (s1, st) := s.writeAll core r e.writes
  let st := firstBad e.status st
  if flushes e.op && !e.flushed && st == .ok then
    match s.flushIova core e with
    | some a => (s1.hostReadStart (s.coreHolder core) 6 a 4 (.stepFlush core slot e.seq)).setEntry core slot { e with flushed := true, phase := .blocked, writes := [] }
    | none => s1.stepDone core slot r e st
  else s1.stepDone core slot r e st

/-- A step that has run completes if nothing withholds it. -/
def State.tryComplete (s : State) (core slot : Nat) (seq : Nat) : State :=
  match s.entryAt core slot seq with
  | some (r, e) => if s.canComplete core slot r e then s.complete core slot r e else s
  | none => s

/-! ### The start of a step -/

/-- A step has run: status, flags and the bytes it writes at its completion. -/
def State.ran (s : State) (core slot : Nat) (e : Entry) (st : Status) (flags : Nat) (ws : List (Nat × Nat × List Byte)) : State :=
  s.setEntry core slot { e with phase := .ran, status := st, flags := flags, writes := ws }

/-- A step's acknowledge is withheld. -/
def State.blockStep (s : State) (core slot : Nat) (e : Entry) : State := s.setEntry core slot { e with phase := .blocked }

/-- The writes of the rows of an operand. -/
def rowWrites (o : Operand) (base : Nat) (rows : List (List Byte)) : List (Nat × Nat × List Byte) :=
  rows.zipIdx.map (fun (b, i) => (o.ref.space, o.row base i, b))

/-- The operands that a step reads, with their effective addresses. -/
def readsOf (e : Entry) : List (Operand × Nat) := ((stepOperands e.op).zip e.addrs).filter (fun x => !x.1.write)

/-- The operand that a step writes, with its effective address. -/
def writeOf (e : Entry) : Option (Operand × Nat) := ((stepOperands e.op).zip e.addrs).find? (·.1.write)

/-- The step runs with the rows of its source in hand: LOAD and TRANSFER. -/
def State.copied (s : State) (core slot : Nat) (e : Entry) (rows : List (List Byte)) : State :=
  match writeOf e with
  | some (o, a) => s.ran core slot e .ok 0 (rowWrites o a rows)
  | none => s.ran core slot e .ok 0 []

/-- R132. LOAD and TRANSFER from an on-chip space. -/
def State.copyStep (s : State) (core slot : Nat) (r : Running) (e : Entry) : State :=
  match s.readOperands core r (readsOf e) with
  | (t, .ok, rows :: _) => t.copied core slot e rows
  | (t, .ok, []) => t.copied core slot e []
  | (t, st, _) => t.ran core slot e st 0 []

/-- The step's own read of host memory is outstanding. -/
def State.reading (s : State) (core slot seq : Nat) : Bool :=
  s.host.reads.any (fun x => x.use == .stepLoad core slot seq || x.use == .stepFlush core slot seq)

/-- R285, R427, R429, R446, R448. The next row of a LOAD from HOST or PEAT is asked for; a denied one ends the step ABORTED. Agents 0 and 4. -/
def State.nextHostRow (s : State) (core slot : Nat) (r : Running) (e : Entry) : State :=
  match readsOf e with
  | (o, base) :: _ =>
    let fn := s.coreHolder core
    let a := o.row base e.rows.length
    let iova := if o.ref.space = 7 then s.hostWindow fn a o.len false
      else if s.rowStatus core r 4 a o.len false = .ok then some (s.pair (PEAT_BASE_LO fn) (PEAT_BASE_HI fn) + a) else none
    let agent := if o.ref.space = 7 then 0 else 4
    (match iova with
     | none => s.ran core slot e .badAddr 0 []
     | some v =>
       if s.host.waitLinkReset then (s.hostAbort fn agent 4 v).ran core slot e .aborted 0 []
       else if s.hostDenied fn v o.len false then (s.hostAbort fn agent 1 v).ran core slot e .aborted 0 []
       else if s.readRoom fn then s.hostReadStart fn agent v o.len (.stepLoad core slot e.seq)
       else s)
  | [] => s

/-- The rows of the first operand a step reads. -/
def Entry.firstRows (e : Entry) : Nat := match readsOf e with | (o, _) :: _ => o.rows | [] => 0

/-- R446. The data of a row of a LOAD from HOST or PEAT have come, or its read has failed. -/
def State.hostRow (s : State) (core slot seq : Nat) (row : Option (List Byte)) : State :=
  match s.entryAt core slot seq, row with
  | some (r, e), some b =>
    let e1 := { e with rows := e.rows ++ [b] }
    if e.firstRows ≤ e1.rows.length then s.copied core slot e1 e1.rows else (s.setEntry core slot e1).nextHostRow core slot r e1
  | some (_, e), none => s.ran core slot e .aborted 0 []
  | none, _ => s

/-- R133, R443. The flush of a TRANSFER has ended: the step completes next, ABORTED where it failed. -/
def State.hostFlushed (s : State) (core slot seq : Nat) (good : Bool) : State :=
  match s.entryAt core slot seq with
  | some (_, e) => s.ran core slot e (if good then .ok else .aborted) 0 []
  | none => s

/-- R63. The seed of a step. -/
def seedOf (seed salt : Nat) : Nat := (seed ^^^ salt) % 2 ^ 32

/-- R67 to R75. The numbers of a MATMUL. -/
def matmulDot (m : MatmulStep) (salt : Nat) : Dot :=
  let p := (Fmt.ofCode m.pfmt).getD .fp32
  let b := (Fmt.ofCode m.bfmt).getD .fp32
  let lv := (pairing p b (m.mode == 0)).getD (128, false)
  { stored := p, moving := b, leaves := lv.1, int := lv.2, k := m.k, out := outMode m.ofmt m.rnd m.ovfm, seed := seedOf m.seed salt, cols := m.n }

/-- R67 to R75. The numbers of a MATVEC. -/
def matvecDot (m : MatvecStep) (salt : Nat) : Dot :=
  let p := (Fmt.ofCode m.wfmt).getD .fp32
  let b := (Fmt.ofCode m.vfmt).getD .fp32
  let lv := (pairing p b true).getD (128, false)
  { stored := p, moving := b, leaves := lv.1, int := lv.2, k := m.k, out := outMode m.ofmt m.rnd m.ovfm, seed := seedOf m.seed salt, cols := m.n }

/-- The drained rows of a matrix step as writes. -/
def drainWrites (e : Entry) (bytes : Nat) (rows : List (Nat × Nat × List Byte)) : List (Nat × Nat × List Byte) :=
  match writeOf e with
  | some (o, a) => rows.map (fun (v, n, b) => (o.ref.space, o.row a v + n * bytes, b))
  | none => []

/-- R66. The flags that a stopped step brings along. -/
def Entry.kept (e : Entry) : Nat := (e.part.map (·.flags)).getD 0

/-- R66, R82, R97, R107, R109. A MATMUL from where it stands to its end, or to a place. Every operand is read before any operation, so a read that fails adds no flag to those of an
earlier run (assumption 96). -/
def State.runMatmul (s : State) (core : Nat) (r : Running) (e : Entry) (m : MatmulStep) (stop : Option StepPos) : State × Status × MatRun :=
  match s.readOperands core r (readsOf e) with
  | (t, .ok, rows) =>
    let d := matmulDot m e.salt
    let w := s.entryWidth core e
    let areas := m.areas w
    let data := m.data d (rows.getD 0 []) (rows.getD 1 []) (rows.getD 2 [])
    let i0 := match e.part with | some p => m.areaOf p.pos | none => 0
    let i1 := match stop with | some p => m.areaOf p | none => areas.length
    let x := data.run areas (m.behind d.chunks) i0 e.part i1 stop
    (t, .ok, { x with part := x.part.map (fun p => { p with width := w }) })
  | (t, st, _) => (t, st, { flags := e.kept })

/-- R99, R102. A MATVEC from where it stands to its end, or to an output block. -/
def State.runMatvec (s : State) (core : Nat) (r : Running) (e : Entry) (m : MatvecStep) (stop : Option StepPos) : State × Status × MatRun :=
  match s.readOperands core r (readsOf e) with
  | (t, .ok, rows) =>
    let data := m.data (matvecDot m e.salt) (rows.getD 0 []) (rows.getD 1 []) (rows.getD 2 [])
    let i0 := match e.part with | some p => p.pos.block | none => 0
    let i1 := match stop with | some p => p.block | none => m.areas.length
    let x := data.run m.areas (fun _ _ _ => false) i0 none i1 none
    let f := arrayFlags (x.flags ||| e.kept)
    (t, .ok, { x with flags := f, part := stop.map (fun p => { pos := p, flags := f }) })
  | (t, st, _) => (t, st, { flags := e.kept })

/-- The sources of a VECTOR step as elements: IMM as FP32, or INT32 where the format is INT32; `rows` are those of the sources in memory. -/
def vectorData (v : VectorStep) : List (OpRef × Nat) → List (List (List Byte)) → List (Fmt × List (List Nat))
  | [], _ => []
  | (o, f) :: os, rows =>
    if o.space = 15 then
      ((if f = 6 then .int32 else .fp32), List.replicate v.rows (List.replicate v.cols (v.imm % 2 ^ 32))) :: vectorData v os rows
    else
      let x := (Fmt.ofCode f).getD .fp32
      (x, (rows.headD []).map (elements x v.cols)) :: vectorData v os rows.tail

/-- R136, R137. A VECTOR step runs. -/
def State.vectorStep (s : State) (core slot : Nat) (r : Running) (e : Entry) (vop : Nat) (v : VectorStep) : State :=
  match s.readOperands core r (readsOf e) with
  | (t, .ok, rows) =>
    let x := vectorRun vop (outMode v.ofmt v.rnd v.ovfm) (seedOf v.seed e.salt) v.cols v.rows (vectorData v (vectorSources vop v) rows)
    (match writeOf e with
     | some (o, a) => t.ran core slot e .ok x.2 (rowWrites o a x.1)
     | none => t)
  | (t, st, _) => t.ran core slot e st 0 []

/-- R165. The task's source item has a child in a chain, in whatever state. -/
def State.hasChild (s : State) (r : Running) (c : Nat) : Bool := (s.child r.task.exp c).isSome

/-- R166, R185. A step opens a child in a chain, or waits for a cell behind those that wait; true where the child is open. -/
def State.openOrWait (s : State) (core slot : Nat) (r : Running) (e : Entry) (c : Nat) : State × Bool :=
  if s.hasChild r c then (s, true)
  else if s.cellNow c then (s.openChild r.task.exp c, true)
  else ((s.awaitCell c (.step core slot e.seq)).blockStep core slot e, false)

/-- R165. A CHAIN_COMMIT whose child is open, committed or VOID. -/
def State.commitStep (s : State) (core slot : Nat) (r : Running) (e : Entry) (c : Nat) : State :=
  let s1 := match s.exp r.task.exp with | some x => s.commitChild x c r.task.tidx | none => s
  (s1.mapRunning core slot fun q => { q with commits := c :: q.commits }).ran core slot e .ok 0 []

/-- R165, R169, R618. What refuses a CHAIN_COMMIT. -/
def State.commitStatus (s : State) (core : Nat) (r : Running) (c : Nat) : Status :=
  if (match (s.chain c).desc with | some d => d.src != 0 | none => false) || r.commits.contains c then .badParam
  else if (s.chain c).desc.isNone || s.chainHolder c != s.coreHolder core || !s.on (CH_ENABLE c) then .badAddr
  else .ok

/-- R169, R618. What refuses a MARK, REWIND or RELEASE of a task. -/
def State.chainStepStatus (s : State) (core c op m : Nat) : Status :=
  match s.chainOpStatus c op m with
  | .ok => if s.chainHolder c ≠ s.coreHolder core then .badAddr else .ok
  | st => st

/-- R139, R217, R219. A POST hands its item to the scheduler, or its acknowledge is withheld. -/
def State.postStep (s : State) (core slot : Nat) (e : Entry) (dl delay : Nat) (item : List Byte) : State :=
  let fn := s.coreHolder core
  let k := s.get (FN_SCHED_POST_CHAN fn)
  match s.post fn item dl delay with
  | some (t, st) => t.ran core slot e st 0 []
  | none =>
    let ch := s.channel k
    ({ s with work := { s.work with nextWait := s.work.nextWait + 1 } }.setChannel k { ch with waiters := ch.waiters ++ [(s.work.nextWait, core, slot, e.seq)] }).blockStep core slot e

/-- R33, R140, R375, R387. A SEAL step: Sluice reads the record and signs the head of the block. While PD_SLUICE is off the step ends ABORTED, which the sequencer's page captures. -/
def State.sealStart (s : State) (core slot : Nat) (r : Running) (e : Entry) (x : SealStep) : State :=
  let fn := s.coreHolder core
  if !s.domOn 4 then (s.capture (seqPage core) .aborted (e.step % 2 ^ 20 + 2 ^ 20 * slot + 2 ^ 24 * r.task.ctx) (r.task.flow + 65536 * 0x70)).ran core slot e .aborted 0 [] else
  let (s1, head, st, k) := s.sealPrepare fn x.key x.alg x.len fun u =>
    match readsOf e with
    | (o, a) :: _ => (match u.rowStatus core r o.ref.space a o.len false with
        | .ok => u.readRow core r o.ref.space a o.len
        | st => (u, st, []))
    | [] => (u, .ok, [])
  match k with
  | some k => (s1.enqueue (sealJob (.sealStep core slot e.seq head) fn x.alg k head)).blockStep core slot e
  | none => s1.ran core slot e st 0 [(x.dst.space, e.addrs.getD 1 0, head ++ List.replicate 64 0)]

/-- R387. The public-key operation of a SEAL step has ended. -/
def State.sealEnd (s : State) (core slot : Nat) (e : Entry) (head : List Byte) (o : PkeOut) : State :=
  let block := head.take 6 ++ leBytes 1 o.st.code ++ head.drop 7 ++ (if o.st = .ok then takePad 64 o.out else List.replicate 64 0)
  match writeOf e with
  | some (w, a) => s.ran core slot e o.st 0 [(w.ref.space, a, block)]
  | none => s

/-- R235, R244. A SYNC step other than a wait takes effect. -/
def State.syncStep (s : State) (core slot : Nat) (r : Running) (e : Entry) : State :=
  match e.op with
  | .signal c v => (s.ctrOp .signal c (v % 65536)).ran core slot e .ok 0 []
  | .set c v => (s.ctrOp .set c (v % 65536)).ran core slot e .ok 0 []
  | .remote m c v =>
    if m = s.get GRP_MEMBER then (s.ctrOp .signal c (v % 65536)).ran core slot e .ok 0 []
    else match s.remoteStatus m, s.linkTo m with
      | .ok, some p => (s.linkSignal p (s.coreHolder core) r.task.flow m c (v % 65536)).ran core slot e .ok 0 []
      | .ok, none => s.ran core slot e .linkLost 0 []
      | st, _ => s.ran core slot e st 0 []
  | _ => s

/-- The source space of a copy. -/
def copySpace : StepOp → Nat
  | .load x => x.src.space
  | .transfer x => x.src.space
  | _ => 1

/-- A step that its unit can take starts: it reads its operands as they are now, all of them before any operation, or its acknowledge is withheld. A step whose operand read
fails has done no operation, and contributes no flag of its own (assumption 96). A MATMUL whose core has lost its last array since its issue is refused (R87). -/
def State.startEntry (s : State) (core slot : Nat) (r : Running) (e : Entry) : State :=
  match e.op with
  | .load x =>
    if x.src.space = 4 ∨ x.src.space = 7 then (s.blockStep core slot e).nextHostRow core slot r { e with phase := .blocked } else s.copyStep core slot r e
  | .transfer x =>
    if x.dst.space = 6 then
      match s.openOrWait core slot r e (e.addrs.getD 1 0 / 2 ^ 32) with
      | (t, true) => t.copyStep core slot r e
      | (t, false) => t
    else s.copyStep core slot r e
  | .matmul m =>
    if e.units.isEmpty then s.ran core slot e .faulted 0 []
    else match s.runMatmul core r e m none with
    | (t, st, x) => t.ran core slot e st x.flags (drainWrites e (fmtBytes m.ofmt) x.rows)
  | .matvec m =>
    match s.runMatvec core r e m none with
    | (t, st, x) => t.ran core slot e st x.flags (drainWrites e (fmtBytes m.ofmt) x.rows)
  | .vector vop v => s.vectorStep core slot r e vop v
  | .post dl delay item => s.postStep core slot e dl delay item
  | .chainOp op c m =>
    match s.chainStepStatus core c op m with
    | .ok => (s.startChainOp c { op := op, mark := m, step := some (core, slot, e.seq) }).blockStep core slot e
    | st => (s.chainError c op st).ran core slot e st 0 []
  | .commit c =>
    match s.commitStatus core r c with
    | .ok =>
      (match s.openOrWait core slot r e c with
       | (t, true) => t.commitStep core slot r e c
       | (t, false) => t)
    | st => (s.chainError c 4 st).ran core slot e st 0 []
  | .sealing x => s.sealStart core slot r e x
  | .flagsOut d => s.ran core slot e .ok 0 [(d.space, e.addrs.getD 0 0, leBytes 4 (s.get (CTX_FLAGS core r.task.ctx)))]
  | _ => s.syncStep core slot r e

/-- R51, R301. An access to a row waits while a page that serves it is being quiesced. -/
def State.rowQuiet (s : State) (core sp addr n : Nat) (write : Bool) : Bool :=
  let fn := s.coreHolder core
  let hbm := match s.translate fn addr n write with | some (pa, _) => s.memQuiet fn pa n | none => false
  match sp with
  | 0 => s.quiet (0x108 + 16 * core)
  | 1 => s.quiet (0x109 + 16 * core)
  | 2 => s.quiet (0x10A + 16 * core) || hbm
  | 3 => hbm
  | 4 => s.peatHeld fn addr n
  | 5 => s.quiet (0x109 + 16 * (addr / 2 ^ 23))
  | 6 => s.payHeld (addr / 2 ^ 32) n || (write && (s.chainQuiet (addr / 2 ^ 32) || (s.chain (addr / 2 ^ 32)).busy.isSome))
  | 7 => s.windowHeld core addr n write
  | _ => false

/-- An operand's accesses wait. -/
def State.operandQuiet (s : State) (core : Nat) (x : Operand × Nat) : Bool :=
  decide (0 < x.1.len) && (List.range x.1.rows).any (fun i => s.rowQuiet core x.1.ref.space (x.1.row x.2 i) x.1.len x.1.write)

/-- The step reads memory. -/
def Entry.readsWork (e : Entry) : Bool := !noWork e.op && (stepOperands e.op).any (fun o => !o.write)

/-- R258. The step has performed its reads, or has none left to perform. -/
def Entry.hasRead (e : Entry) : Bool :=
  e.phase == .ran || (e.phase == .blocked && (!e.readsWork || e.flushed || softOp e.op))

/-- R258. A step that reads or writes starts once every older step of its task that reads or writes has started and performed its reads: the reads of a task appear in program
order (assumption 98). -/
def Running.inTurn (r : Running) (e : Entry) : Bool :=
  !(e.readsWork || e.writesWork) || !r.window.any (fun x => decide (x.order < e.order) && (x.readsWork || x.writesWork) && !x.hasRead)

/-- R51, R112, R139, R180, R192, R230, R240, R258, R267, R375. What an issued step that heads its units still waits for. -/
def State.canStart (s : State) (core : Nat) (r : Running) (e : Entry) : Bool :=
  let older := r.olderWrite e
  e.phase == .queued && s.headOfUnits core e && r.inTurn e && e.units.all (fun u => match unitPage core u with | some p => !s.quiet p | none => true)
    && !((stepOperands e.op).zip e.addrs).any (s.operandQuiet core)
    && (match e.op with
        | .signal c _ => !s.ctrQuiet c
        | .set c _ => !s.ctrQuiet c
        | .remote m c _ => (m != s.get GRP_MEMBER || !s.ctrQuiet c) && !s.quiet 0x210 && !s.linkWithheld e
        | .post .. => !older && !s.quiet 0x200
        | .chainOp _ c _ => !older && (s.chain c).busy.isNone && !s.chainQuiet c
        | .commit c => !older && (s.chain c).busy.isNone && !s.chainQuiet c
        | .sealing _ => !s.domOn 4 || (!s.quiet 0x400 && s.admits (s.coreHolder core) && !s.pkeWaits)
        | _ => true)

/-! ### Issue (R118, R122 to R124, R141, R143, R240, R241) -/

/-- R155. STEP_CNT of the image of a task's context. -/
def State.stepCnt (s : State) (core ctx : Nat) : Nat := match Map.find s.work.images (core * 16 + ctx) with | some i => i.stepCnt | none => 0

/-- A step that completes as soon as its ordering allows: the sequencer's own steps and no work (R13, R129, R141 to R143). -/
def atOnce (op : StepOp) : Bool :=
  noWork op || (match op with
    | .nop => true
    | .fence _ => true
    | .flagsClr _ => true
    | .saltSet _ => true
    | .seta .. => true
    | .adda .. => true
    | .loop .. => true
    | .jump _ => true
    | _ => false)

/-- R121, R143. What a CTL step does to the address registers and to the next step index. -/
def ctlEffect (r : Running) : StepOp → Running
  | .seta a v => { r with aregs := r.aregs.set a (v % 2 ^ 40), pc := r.pc + 1 }
  | .adda a v => { r with aregs := r.aregs.set a ((r.aregs.getD a 0 + v) % 2 ^ 40), pc := r.pc + 1 }
  | .loop a t => if a = 0 ∨ r.aregs.getD a 0 = 0 then { r with pc := r.pc + 1 } else { r with aregs := r.aregs.set a (r.aregs.getD a 0 - 1), pc := t }
  | .jump t => { r with pc := t }
  | _ => { r with pc := r.pc + 1 }

/-- R142. What CTX steps other than FLAGS_OUT do to the context, at issue. -/
def State.ctxEffect (s : State) (core ctx : Nat) : StepOp → State
  | .flagsClr m => s.clearFlags core ctx m
  | .saltSet v => s.set (CTX_SALT core ctx) v
  | _ => s

/-- The step of a resumed window has had its effect, and only its completion is owed: a wait that was satisfied, a step of the sequencer's own. -/
def effectDone (old : Option Entry) : Bool := match old with | some e => e.phase == .ran | none => false

/-- The entry that a step issues as: its place, its units and its regions, its status so far, the flags of an earlier run of it. -/
def State.newEntry (s : State) (core : Nat) (r : Running) (h : StepHdr) (op : StepOp) (old : Option Entry) : Entry :=
  if effectDone old then { old.getD { seq := 0, order := 0, step := 0, hdr := h, op := op } with seq := s.work.issued }
  else
  let addrs := match old with | some e => e.addrs | none => (stepOperands op).map (fun o => opAddr r.aregs o.ref)
  let step := match old with | some e => e.step | none => r.pc
  let st := s.issueStatus core r (s.stepCnt core r.task.ctx) step h op addrs
  { seq := s.work.issued, order := (match old with | some e => e.order | none => r.order), step := step, hdr := h, op := op,
    units := if st = .ok then s.stepUnits core op else [], addrs := addrs, regions := if st = .ok then stepRegions op addrs else [],
    salt := (match old with | some e => e.salt | none => s.get (CTX_SALT core r.task.ctx)), status := st, part := old.bind (·.part),
    flags := ((old.bind (·.part)).map (·.flags)).getD 0 }

/-- R118, R122 to R124, R240, R241, R267. The step can issue now. -/
def State.canIssue (s : State) (core slot : Nat) (r : Running) (e : Entry) : Bool :=
  r.hard.isNone && !r.aborting && r.preempt.isNone && decide (r.window.length < 8) && !s.waiting core slot && r.restore.isNone && !r.fenced e.order e.op
    && !((e.hdr.waitPrior || isRelease e.op) && !r.window.isEmpty) && s.unitsAccept core e.units
    && !e.regions.any (fun a => r.window.any (fun x => x.regions.any a.meets))
    && (match e.op with | .wait _ c _ => e.status != .ok || e.phase == .ran || !s.ctrQuiet c | _ => true)

/-- The task after the issue of a step: one fetched or one of its resumed window. A fence stays while a step older than it has not completed, in flight or to be issued again. -/
def Running.issued (r : Running) (e : Entry) (old : Bool) : Running :=
  let r1 := if old then { r with replay := r.replay.tail }
    else
      let q := if e.status = .ok then ctlEffect r e.op else { r with pc := r.pc + 1 }
      { q with order := r.order + 1, queue := (if e.hdr.last then [] else r.queue.tail), ended := e.hdr.last }
  let fs := match e.op with | .fence full => if e.status = Status.ok then r.fences ++ [(e.order, full)] else r.fences | _ => r.fences
  { r1 with window := r.window ++ [e], fences := fs.filter (fun f => (r.window ++ e :: r1.replay).any (fun x => decide (x.order < f.1))) }

/-- The step issues: it takes its place in the window; a refused step, and one that does its work at issue, completes as soon as its ordering allows; a wait takes effect. A step
that is refused counts as issued in CORE_ISSUE_CNT, and one of a resumed window counts again (assumption 106). -/
def State.issueEntry (s : State) (core slot : Nat) (r : Running) (e : Entry) (old : Bool) : State :=
  let s1 := { s.add (CORE_ISSUE_CNT core) 1 with work := { s.work with issued := s.work.issued + 1, lastSlot := Map.put 3 s.work.lastSlot core slot } }
  if e.status ≠ .ok then
    ((match e.op with | .chainOp op c _ => s1.chainError c op e.status | .commit c => s1.chainError c 4 e.status | _ => s1).setRunning core slot
      (some (r.issued { e with phase := .ran } old))).tryComplete core slot e.seq
  else if e.phase = .ran then (s1.setRunning core slot (some (r.issued e old))).tryComplete core slot e.seq
  else if atOnce e.op then ((s1.ctxEffect core r.task.ctx e.op).setRunning core slot (some (r.issued { e with phase := .ran } old))).tryComplete core slot e.seq
  else match e.op with
    | .wait dec c v =>
      (s1.setRunning core slot (some (r.issued { e with phase := .blocked } old))).ctrWait { core := core, slot := slot, ctr := c, value := v % 65536, dec := dec }
    | _ => s1.setRunning core slot (some (r.issued e old))

/-- The next step of the task in a slot issues, if it can. -/
def State.tryIssue (s : State) (core slot : Nat) : Option State :=
  match s.running core slot with
  | none => none
  | some r =>
    match r.next with
    | none => none
    | some (h, op) =>
      let old := r.replay.head?
      let e := s.newEntry core r h op old
      if s.canIssue core slot r e then some (s.issueEntry core slot r e old.isSome) else none

/-! ### Save records (R148 to R150) -/

/-- The key of save record `k` of a context. -/
def recordKey (core ctx k : Nat) : Nat := (core * 16 + ctx) * 8 + k

/-- R148. The byte offset of a save record in the activation store. -/
def State.recordBase (s : State) (core ctx k : Nat) : Nat := s.get (CTX_SAVE_BASE core ctx) * 4096 + k * (4096 + s.get (CTX_SAVE_ACC core ctx) * 65536)

/-- An order of the numbers below `n` that the spec leaves open: each in turn takes a free place among those before it. -/
def freeOrder (ctr : Nat) : Nat → List Nat
  | 0 => []
  | n + 1 =>
    let l := freeOrder ctr n
    let i := Config.freeValue (ctr + n) % (n + 1)
    l.take i ++ n :: l.drop i

/-- R107. Words in an open order. -/
def shuffled (ctr : Nat) (ws : List Nat) : List Nat := (freeOrder ctr ws.length).map (fun i => ws.getD i 0)

/-- R109. Words back in their own order. -/
def unshuffled (ctr : Nat) (ws : List Nat) : List Nat := (List.range ws.length).map (fun i => ws.getD ((freeOrder ctr ws.length).idxOf i) 0)

/-- R107. The accumulator words that a stopped MATMUL saves. -/
def Entry.accWords (e : Entry) : Nat := match e.op, e.part with | .matmul m, some p => m.saveBytes p.width / 4 | _, _ => 0

/-- R109. A stopped MATMUL takes its accumulators from its words. -/
def Entry.reloaded (e : Entry) (ws : List Nat) : Entry :=
  { e with part := e.part.map (fun p => { p with acc := p.acc.zipIdx.map (fun (l, i) => l.zipIdx.map (fun (x, q) => x.map (fun _ => ws.getD (4 * i + q) 0))) }) }

/-- R109. The steps of a window take their accumulator words, those of the oldest step first. -/
def reloadWords : List Entry → List Nat → List Entry
  | [], _ => []
  | e :: es, ws => e.reloaded (ws.take e.accWords) :: reloadWords es (ws.drop e.accWords)

/-- R629. The status of a code; INTERNAL for a code not in the table (R15). -/
def statusOf (c : Nat) : Status :=
  ([.ok, .duplicate, .badDesc, .badAddr, .range, .notOnCurve, .badParam, .authFail, .tagFail, .keyDenied, .preempted, .faulted, .aborted, .quiesced, .linkLost,
    .remoteErr, .stale, .noSpace, .refusedCapacity, .internal].find? (fun st => st.code == c)).getD .internal

/-- R148, R150. What bytes 0x018 to 0x09F of a record say of a saved task: its flow and entry, its soft status, its address registers. -/
def restoredHead (r : Running) (b : List Byte) : Running :=
  let w := hdr b 0x18 4
  let code := hdr b 0x1C 1
  { r with
    task := { r.task with flow := w % 4096, entry := w / 65536 },
    aregs := (List.range 16).map (fun i => if i = 0 then 0 else hdr b (0x20 + 8 * i) 8 % 2 ^ 40),
    soft := if code = 0 then none else some (match r.soft with
      | some f => { f with status := statusOf code }
      | none => { order := 0, status := statusOf code, step := r.pc, opcode := 0x70, tag := 0 }) }

/-- R148, R150. One entry of a window whose bytes software has changed: its layout is open, so its step index, its state (not started or partial), the place reached and the flags
gathered are free values, and the step is the one at that index (assumption 50). -/
def State.freeEntry (s : State) (core slot : Nat) (r : Running) (order : Nat) : Entry × State :=
  let v (i : Nat) := Config.freeValue (s.freeCtr + i)
  let k := v 0 % 2 ^ 20
  let (s1, h, op) := ({ s with freeCtr := s.freeCtr + 8 }).stepRead core slot r.task.ctx k
  let part : Partial :=
    { pos := { block := v 2 % 65536, tile := v 3 % 65536, chunk := v 4 % 65536, sub := v 5 % 256 }, width := s.stepWidth core (s.stepUnits core op), flags := v 6 % 32,
      acc := (List.range 65536).map (fun i => (List.range 4).map (fun q => some (Config.freeValue (s.freeCtr + 8 + 4 * i + q) % 2 ^ 32))) }
  ({ seq := 0, order := order, step := k, hdr := h, op := op, addrs := (stepOperands op).map (fun o => opAddr r.aregs o.ref), salt := s.get (CTX_SALT core r.task.ctx),
     part := if v 1 % 2 = 0 then none else match op with | .matmul _ => some part | .matvec _ => some { part with acc := [] } | _ => none },
   { s1 with freeCtr := s1.freeCtr + 4 * 65536 })

/-- R148, R150. A window whose bytes software has changed: up to eight open entries in place of those saved; the next step index is open too. -/
def State.freeWindow (s : State) (core slot : Nat) (r : Running) : Running × State :=
  let (n, s1) := s.drawFree
  let (pc, s2) := s1.drawFree
  let x := (List.range (n % 9)).foldl (fun (x : List Entry × State) i => let (e, t) := x.2.freeEntry core slot r (r.order + i); (x.1 ++ [e], t)) ([], s2)
  ({ r with pc := pc % 2 ^ 20, replay := x.1, order := r.order + n % 9, fences := [], ended := false }, x.2)

/-- R109, R148, R150. The save record of a resumed task is reloaded into its slot and freed: the task computes from what the record now holds. A word of it that cannot be read
faults the task. -/
def State.reload (s : State) (core slot rk : Nat) : State :=
  match s.running core slot, Map.find s.work.saves rk with
  | some r, some v =>
    let s1 := { s with work := { s.work with saves := Map.erase s.work.saves rk } }
    let words := (r.replay.map Entry.accWords).sum
    let (s2, st, b) := s1.storeRead 1 core (s.recordBase core r.task.ctx (rk % 8)) (4096 + 4 * words) r.task.flow
    let r1 := { r with restore := none }
    if st ≠ .ok then (s2.setRunning core slot (some r1)).taskEnds core slot r1 st none
    else
      let r2 := restoredHead r1 b
      let (r3, s3) := if (b.drop 0xA0).take 352 = v.raw then ({ r2 with replay := reloadWords r2.replay (unshuffled v.order ((groupsOf 4 words (b.drop 4096)).map leNat)) }, s2)
        else s2.freeWindow core slot r2
      (((s3.setRunning core slot (some r3)).set (SLOT_STAT_FLOW core slot) r3.task.flow).raise (seqPage core) 2).endCheck core slot
  | _, _ => s

/-- A slot whose record is being reloaded has it reloaded now. -/
def State.reloadNow (s : State) (core slot : Nat) : State :=
  match (s.running core slot).bind (·.restore) with
  | some rk => s.reload core slot rk
  | none => s

/-! ### Progress -/

/-- A result of the sealing work is taken. -/
def State.takeResult (s : State) (u : PkeUse) : State := { s with sluice := { s.sluice with results := s.sluice.results.filter (·.1 != u) } }

/-- R430, R452. The next row of a LOAD from HOST or PEAT waits. -/
def State.nextRowHeld (s : State) (core : Nat) (e : Entry) : Bool :=
  match readsOf e with
  | (o, base) :: _ => s.rowQuiet core o.ref.space (o.row base e.rows.length) o.len false
  | [] => false

/-- A step whose acknowledge is withheld goes on, where what it waits for is there: the result of its seal, room for its next host read, a child that another task has opened. -/
def State.unblock (s : State) (core slot : Nat) (r : Running) (e : Entry) : Option State :=
  if e.phase != .blocked then none
  else match e.op with
    | .sealing _ =>
      match s.sluice.results.find? (fun (x : PkeUse × PkeOut) => match x.1 with | .sealStep c i q _ => c == core && i == slot && q == e.seq | _ => false) with
      | some (.sealStep c i q head, o) =>
        some ((s.takeResult (.sealStep c i q head)).sealEnd core slot e head o)
      | _ => none
    | .load _ => if s.reading core slot e.seq || !s.readRoom (s.coreHolder core) || s.nextRowHeld core e then none else some (s.nextHostRow core slot r e)
    | .transfer x =>
      let c := e.addrs.getD 1 0 / 2 ^ 32
      if x.dst.space = 6 ∧ s.hasChild r c then
        some ((s.leaveCell c (· == .step core slot e.seq)).copyStep core slot r e)
      else none
    | .commit c =>
      if s.hasChild r c ∧ (s.chain c).busy.isNone ∧ !s.chainQuiet c then
        some ((s.leaveCell c (· == .step core slot e.seq)).commitStep core slot r e c)
      else none
    | _ => none

/-- Something of a slot: its save record is reloaded, a step in flight goes on, or one starts. -/
def State.entryAction (s : State) (core slot : Nat) : Option State :=
  match s.running core slot with
  | none => none
  | some r =>
    if r.restore.isSome then some (s.reloadNow core slot)
    else r.window.findSome? (fun e => match s.unblock core slot r e with
      | some t => some t
      | none => if s.canStart core r e then some (s.startEntry core slot r e) else none)

/-- R118. The slots in their round, the one after that issued last first; before any has issued, slot 0 (assumption 103). -/
def State.slotRound (s : State) (core : Nat) : List Nat := (List.range 4).map (fun i => (Map.get s.work.lastSlot 3 core + 1 + i) % 4)

/-- One action of a core's sequencer or units; none where nothing can move. -/
def State.coreAction (s : State) (core : Nat) : Option State :=
  if halted (seqPage core) s then none
  else match (List.range 4).findSome? (s.entryAction core) with
    | some t => some t
    | none => (s.slotRound core).findSome? (s.tryIssue core)

/-- Actions of a core, as many as can be made and at most `n`. -/
def State.pumpFor (s : State) (core : Nat) : Nat → State
  | 0 => s
  | n + 1 => match s.coreAction core with | some t => t.pumpFor core n | none => s

/-- A core's sequencer and units go on until nothing can move, and the slot registers follow. -/
def State.pump (s : State) (core : Nat) : State := (List.range 4).foldl (fun t i => t.slotRefresh core i) (s.pumpFor core 256)

/-- A core that can move. -/
def State.readyCore (s : State) : Option Nat := (List.range 16).find? (fun n => (s.coreAction n).isSome)

/-! ### Step commands -/

/-- R125, R126, R146. The task fetches another step: END not fetched yet, not stopped. -/
def Running.fetches (r : Running) : Bool :=
  !r.ended && r.hard.isNone && !r.aborting && r.preempt.isNone && r.restore.isNone && !r.queue.any (fun x => x.1.last)

/-- The sequencer fetches a step for the task in its slot, and goes on. No effect where no task fetches. -/
def fetchStep (hd : StepHdr) (op : StepOp) (s : State) : Outcome :=
  if !s.pageOn (seqPage hd.core) then .next s
  else match s.running hd.core hd.slot with
    | none => .next s
    | some r =>
      if r.fetches then .next ((s.setRunning hd.core hd.slot (some { r with queue := r.queue ++ [(hd, op)] })).pump hd.core) else .next s

/-- NOP (R129). -/
def execNop (hd : StepHdr) (s : State) : Outcome := fetchStep hd .nop s

/-- LOAD (R132). -/
def execLoad (hd : StepHdr) (x : XferStep) (s : State) : Outcome := fetchStep hd (.load x) s

/-- TRANSFER (R132, R133). -/
def execTransfer (hd : StepHdr) (x : XferStep) (s : State) : Outcome := fetchStep hd (.transfer x) s

/-- MATMUL (R134). -/
def execMatmul (hd : StepHdr) (m : MatmulStep) (s : State) : Outcome := fetchStep hd (.matmul m) s

/-- MATVEC (R135). -/
def execMatvec (hd : StepHdr) (m : MatvecStep) (s : State) : Outcome := fetchStep hd (.matvec m) s

/-- VECTOR ADD (R137). -/
def execAdd (hd : StepHdr) (v : VectorStep) (s : State) : Outcome := fetchStep hd (.vector 1 v) s

/-- VECTOR SUB (R137). -/
def execSub (hd : StepHdr) (v : VectorStep) (s : State) : Outcome := fetchStep hd (.vector 2 v) s

/-- VECTOR MUL (R137). -/
def execMul (hd : StepHdr) (v : VectorStep) (s : State) : Outcome := fetchStep hd (.vector 3 v) s

/-- VECTOR FMA (R137). -/
def execFma (hd : StepHdr) (v : VectorStep) (s : State) : Outcome := fetchStep hd (.vector 4 v) s

/-- VECTOR MAX (R137). -/
def execMax (hd : StepHdr) (v : VectorStep) (s : State) : Outcome := fetchStep hd (.vector 5 v) s

/-- VECTOR MIN (R137). -/
def execMin (hd : StepHdr) (v : VectorStep) (s : State) : Outcome := fetchStep hd (.vector 6 v) s

/-- VECTOR RCP (R137). -/
def execRcp (hd : StepHdr) (v : VectorStep) (s : State) : Outcome := fetchStep hd (.vector 7 v) s

/-- VECTOR RSQRT (R137). -/
def execRsqrt (hd : StepHdr) (v : VectorStep) (s : State) : Outcome := fetchStep hd (.vector 8 v) s

/-- VECTOR EXP (R137). -/
def execExp (hd : StepHdr) (v : VectorStep) (s : State) : Outcome := fetchStep hd (.vector 9 v) s

/-- VECTOR CVT (R136, R137). -/
def execCvt (hd : StepHdr) (v : VectorStep) (s : State) : Outcome := fetchStep hd (.vector 10 v) s

/-- VECTOR SUMRED (R137). -/
def execSumred (hd : StepHdr) (v : VectorStep) (s : State) : Outcome := fetchStep hd (.vector 11 v) s

/-- VECTOR MAXRED (R137). -/
def execMaxred (hd : StepHdr) (v : VectorStep) (s : State) : Outcome := fetchStep hd (.vector 12 v) s

/-- VECTOR ARGMAX (R137). -/
def execArgmax (hd : StepHdr) (v : VectorStep) (s : State) : Outcome := fetchStep hd (.vector 13 v) s

/-- VECTOR RAND (R137). -/
def execRand (hd : StepHdr) (v : VectorStep) (s : State) : Outcome := fetchStep hd (.vector 14 v) s

/-- SYNC SIGNAL (R138, R235, R240). -/
def execSignal (hd : StepHdr) (ctr value : Nat) (s : State) : Outcome := fetchStep hd (.signal ctr value) s

/-- SYNC WAIT (R138, R236, R241). -/
def execWait (hd : StepHdr) (ctr value : Nat) (s : State) : Outcome := fetchStep hd (.wait false ctr value) s

/-- SYNC WAIT_DEC (R138, R236, R237). -/
def execWaitDec (hd : StepHdr) (ctr value : Nat) (s : State) : Outcome := fetchStep hd (.wait true ctr value) s

/-- SYNC SET (R138, R235). -/
def execSet (hd : StepHdr) (ctr value : Nat) (s : State) : Outcome := fetchStep hd (.set ctr value) s

/-- SYNC SIGNAL_REMOTE (R138, R244 to R246). -/
def execSignalRemote (hd : StepHdr) (m ctr value : Nat) (s : State) : Outcome := fetchStep hd (.remote m ctr value) s

/-- TASK POST (R139, R214). -/
def execTaskPost (hd : StepHdr) (dlist delay : Nat) (item : List Byte) (s : State) : Outcome := fetchStep hd (.post dlist delay item) s

/-- TASK CHAIN_MARK (R139, R174). -/
def execChainMark (hd : StepHdr) (c m : Nat) (s : State) : Outcome := fetchStep hd (.chainOp 1 c m) s

/-- TASK CHAIN_REWIND (R139, R176). -/
def execChainRewind (hd : StepHdr) (c m : Nat) (s : State) : Outcome := fetchStep hd (.chainOp 2 c m) s

/-- TASK CHAIN_RELEASE (R139, R178). -/
def execChainRelease (hd : StepHdr) (c m : Nat) (s : State) : Outcome := fetchStep hd (.chainOp 3 c m) s

/-- TASK CHAIN_COMMIT (R139, R165). -/
def execChainCommit (hd : StepHdr) (c : Nat) (s : State) : Outcome := fetchStep hd (.commit c) s

/-- SEAL (R140, R386, R387). -/
def execSeal (hd : StepHdr) (x : SealStep) (s : State) : Outcome := fetchStep hd (.sealing x) s

/-- FENCE FULL (R141). -/
def execFenceFull (hd : StepHdr) (s : State) : Outcome := fetchStep hd (.fence true) s

/-- FENCE STORE (R141). -/
def execFenceStore (hd : StepHdr) (s : State) : Outcome := fetchStep hd (.fence false) s

/-- CTX FLAGS_OUT (R142). -/
def execFlagsOut (hd : StepHdr) (dst : OpRef) (s : State) : Outcome := fetchStep hd (.flagsOut dst) s

/-- CTX FLAGS_CLR (R142). -/
def execFlagsClr (hd : StepHdr) (mask : Nat) (s : State) : Outcome := fetchStep hd (.flagsClr mask) s

/-- CTX SALT_SET (R142). -/
def execSaltSet (hd : StepHdr) (imm : Nat) (s : State) : Outcome := fetchStep hd (.saltSet imm) s

/-- CTL SETA (R143). -/
def execSeta (hd : StepHdr) (areg imm : Nat) (s : State) : Outcome := fetchStep hd (.seta areg imm) s

/-- CTL ADDA (R143). -/
def execAdda (hd : StepHdr) (areg imm : Nat) (s : State) : Outcome := fetchStep hd (.adda areg imm) s

/-- CTL LOOP (R143). -/
def execLoop (hd : StepHdr) (areg target : Nat) (s : State) : Outcome := fetchStep hd (.loop areg target) s

/-- CTL JUMP (R143). -/
def execJump (hd : StepHdr) (target : Nat) (s : State) : Outcome := fetchStep hd (.jump target) s

/-- STEP_COMPLETE (R125, R126): the step with a program order, if it has run and nothing withholds its completion. -/
def execStepComplete (core slot order : Nat) (s : State) : Outcome :=
  event (seqPage core) s fun s =>
    match s.running core slot with
    | none => .next s
    | some r =>
      match r.window.find? (fun e => e.order == order) with
      | some e => .next ((s.tryComplete core slot e.seq).pump core)
      | none => .next s

/-! ### Grants and ends that steps wait for -/

/-- CELL_GRANT (R166, R170, R183, R185): the first of those that wait for a cell of chain `c` receives one, where no other chain is before it. A host ring takes its cell as it
processes its entry (R434). -/
def execCellGrant (c : Nat) (s : State) : Outcome :=
  event 0x220 s fun s =>
    if (s.chain c).busy.isSome || s.chainQuiet c then .next s
    else
      match (s.chain c).waiters with
      | [] => .next s
      | (n, w) :: ws =>
        if w == .ring || !s.cellTurn c n then .next s else
        let s1 := s.watched c fun t => t.setChain c { t.chain c with waiters := ws }
        match w with
        | .step core slot seq =>
          (match s1.entryAt core slot seq with
           | some (r, _) => .next ((if s1.hasChild r c then s1 else s1.openChild r.task.exp c).pump core)
           | none => .next s1)
        | .port p =>
          (match (s1.port p).arrival with
           | some a => if a.waiting && a.chain == c then .next (s1.openArrival p a) else .next s1
           | none => .next s1)
        | .ring => .next s1

/-- CHAIN_OP_COMPLETE (R179, R180): the operation in progress on a chain ends, and its effect is seen whole, the cells that it frees with it (assumption 110); the finishes that
waited for it follow. -/
def execChainOpComplete (c : Nat) (s : State) : Outcome :=
  event 0x220 s fun s =>
    match (s.chain c).busy with
    | none => .next s
    | some o =>
      let s1 := (((s.setChain c { s.chain c with busy := none }).flag (CH_CMD_BUSY c) false).chainEffect c o).runFinishes c
      match o.step with
      | none => .next s1
      | some (core, slot, seq) =>
        (match s1.entryAt core slot seq with
         | some (_, e) => .next ((s1.ran core slot e .ok 0 []).pump core)
         | none => .next s1)

/-- STORE_ENTRY_GRANT (R139, R219): the first POST withheld on channel `k` is handed to the scheduler, where it can have an entry now. -/
def execStoreEntryGrant (k : Nat) (s : State) : Outcome :=
  event 0x200 s fun s =>
    if s.quiet 0x200 then .next s
    else match (s.channel k).waiters with
      | [] => .next s
      | (place, core, slot, seq) :: ws =>
        let s1 := s.setChannel k { s.channel k with waiters := ws }
        match s.entryAt core slot seq with
        | none => .next s1
        | some (_, e) =>
          match e.op with
          | .post dl delay item =>
            (match s1.post (s.coreHolder core) item dl delay place with
             | some (t, st) => .next ((t.ran core slot e st 0 []).pump core)
             | none => .next s)
          | _ => .next s1

end Sys2Proof.Machine
end

