-- ==== Sys2Proof/Machine/Context.lean ====
section
/-!
DEFINITION. The sequencer's commands and events (chapters 04, 05 and 18): slot enables, preemption, save records and resume tokens, aborts, array faults,
the loading of Golok images, the core self-test and core-fatal faults.
-/

namespace Sys2Proof.Machine

/-! ### Preemption (R107, R146 to R149) -/

/-- Entries in program order, with one more. -/
def insertOrder (x : Entry) : List Entry → List Entry
  | [] => [x]
  | y :: l => if x.order < y.order then x :: y :: l else y :: insertOrder x l

/-- Entries in program order. -/
def inOrder (l : List Entry) : List Entry := l.foldl (fun a x => insertOrder x a) []

/-- R147, R148. The lowest-numbered free save record of a context: not in use, not taken by a preemption in progress. -/
def State.freeRecord (s : State) (core ctx : Nat) : Option Nat :=
  (List.range (s.get (CTX_SAVE_CNT core ctx))).find? (fun k =>
    (Map.find s.work.saves (recordKey core ctx k)).isNone
      && (List.range 4).all (fun i => match s.running core i with | some r => r.task.ctx != ctx || r.preempt != some k | none => true))

/-- R147, R159. A preemption that finds no record: the task runs on, ERR_CODE reads NO_SPACE with the step that is next to complete. -/
def State.noRecord (s : State) (core slot : Nat) (r : Running) : State :=
  let (a, s1) := s.drawFree
  let op := match (r.window ++ r.replay).head? with | some e => stepOpcode e.op | none => (match r.next with | some (_, op) => stepOpcode op | none => a % 256)
  s1.capture (seqPage core) .noSpace (r.oldest % 2 ^ 20 + 2 ^ 20 * slot + 2 ^ 24 * r.task.ctx) (r.task.flow + 65536 * op)

/-- R146, R240. The window of a task that is preempted: what stays in flight, and what is withdrawn for its resumed run: steps not started, an unsatisfied wait, and a step whose effect
is done but whose signal must follow a write that is withdrawn. -/
def State.withdrawn (s : State) (core slot : Nat) (r : Running) : List Entry × List Entry :=
  let idle (e : Entry) : Bool := e.phase == .queued || (match e.op with | .wait .. => s.waiting core slot | _ => false)
  let behind (e : Entry) : Bool := s.signals core e && r.window.any (fun x => decide (x.order < e.order) && x.writesWork && idle x)
  (r.window.filter (fun e => !idle e && !behind e),
   (r.window.filter (fun e => idle e || behind e)).map (fun e => { e with phase := if idle e then .queued else .ran }))

/-- R146. The task in a slot is preempted: nothing more issues, what has not started and an unsatisfied wait are withdrawn for its resumed run. A save record that is being reloaded
into the slot is reloaded first. -/
def State.preemptSlot (s : State) (core slot : Nat) : State :=
  let s := s.reloadNow core slot
  match s.running core slot with
  | none => s
  | some r =>
    if r.preempt.isSome || r.hard.isSome || r.aborting then s
    else match s.freeRecord core r.task.ctx with
      | none => s.noRecord core slot r
      | some k =>
        let w := s.withdrawn core slot r
        let q := { r with preempt := some k, queue := [], replay := inOrder (w.2 ++ r.replay), window := w.1 }
        ((s.setRunning core slot (some q)).withdrawWait core slot).slotRefresh core slot

/-- The slots of a mask. -/
def maskSlots (mask : Nat) : List Nat := (List.range 4).filter (bitOf mask)

/-- SEQ_PREEMPT (R146, R152). -/
def execSeqPreempt (fn core mask : Nat) (s : State) : Outcome :=
  command fn (seqPage core) (.seqPreempt fn core mask) s fun s => .next ((maskSlots mask).foldl (fun t i => t.preemptSlot core i) s)

/-- A matrix step that has run and is not refused. -/
def isMatrix (e : Entry) : Bool := e.phase == .ran && e.status == .ok && (match e.op with | .matmul _ => true | .matvec _ => true | _ => false)

/-- R102, R107. A started matrix step can stop at a place: one of its sub-passes, or of its output blocks, not behind where it resumed. -/
def State.stopOk (s : State) (core : Nat) (e : Entry) (p : StepPos) : Bool :=
  (match e.part with | some q => placeLe q.pos p | none => true)
    && (match e.op with
        | .matmul m => m.placeOk (s.entryWidth core e) (matmulDot m e.salt).chunks p
        | .matvec m => decide (p.block < (m.n + 1535) / 1536) && p.tile == 0 && p.chunk == 0 && p.sub == 0
        | _ => false)

/-- R108. The request came before the first vector entered: nothing of the step is saved. -/
def notBegun (e : Entry) (p : StepPos) : Bool := e.part.isNone && p == ⟨0, 0, 0, 0⟩

/-- R107. Bytes of accumulator words that a stopped step saves. -/
def State.savedBytes (s : State) (core : Nat) (e : Entry) (p : StepPos) : Nat :=
  match e.op with
  | .matmul m => if notBegun e p then 0 else m.saveBytes (s.entryWidth core e)
  | _ => 0

/-- R66, R102, R107, R108. A started matrix step stops at a place: rows already drained are written, the rest is kept for its resumed run. One that fails in this keeps the flags
that it has raised. -/
def State.stopStep (s : State) (core : Nat) (r : Running) (e : Entry) (p : StepPos) : State × Status × Entry :=
  let base : Entry := { e with phase := .queued, writes := [], flags := 0, units := [], regions := [] }
  if notBegun e p then (s, .ok, base)
  else
    let (t, st, x) := match e.op with
      | .matmul m => s.runMatmul core r e m (some p)
      | .matvec m => s.runMatvec core r e m (some p)
      | _ => (s, .ok, {})
    if st ≠ .ok then (t, st, { e with flags := x.flags })
    else
      let bytes := match e.op with | .matmul m => fmtBytes m.ofmt | .matvec m => fmtBytes m.ofmt | _ => 1
      let (u, st1) := t.writeAll core r (drainWrites e bytes x.rows)
      (u.countStep core e (some p), st1, { base with part := x.part, flags := x.flags })

/-- Started steps stop in turn; the first failure, with its step, ends this. -/
def State.stopSteps (s : State) (core : Nat) (r : Running) : List (Entry × StepPos) → State × Option (Entry × Status) × List Entry
  | [] => (s, none, [])
  | (e, p) :: l =>
    match s.stopStep core r e p with
    | (t, .ok, e1) => let (u, f, es) := t.stopSteps core r l; (u, f, e1 :: es)
    | (t, st, e1) => (t, some ({ e with flags := e1.flags }, st), [])

/-- R107. The accumulator words of a stopped MATMUL: those of its outputs in progress, and free ones where none is in use. -/
def State.savedWords (s : State) (e : Entry) : List Nat :=
  let used : List (Option Nat) := match e.part with | some p => p.acc.flatMap (fun l => (List.range 4).map (fun q => l.getD q none)) | none => []
  (List.range e.accWords).map (fun i => (used.getD i none).getD (Config.freeValue (s.freeCtr + i) % 2 ^ 32))

/-- R107. The accumulator words of stopped steps, oldest step first. -/
def State.recordWords (s : State) : List Entry → List Nat × State
  | [] => ([], s)
  | e :: es =>
    let ws := s.savedWords e
    let (l, t) := ({ s with freeCtr := s.freeCtr + e.accWords }).recordWords es
    (ws ++ l, t)

/-- `n` bytes whose value the spec leaves open. -/
def State.drawBytes (s : State) (n : Nat) : List Byte × State :=
  ((List.range n).map (fun i => BitVec.ofNat 8 (Config.freeValue (s.freeCtr + i))), { s with freeCtr := s.freeCtr + n })

/-- R149. The four words of a resume token. -/
def tokenWords (core ctx k gen : Nat) (r : Running) (es : List Entry) : List Nat :=
  let e := match es.find? (fun e => e.part.isSome) with | some e => some e | none => es.head?
  let step := match e with | some e => e.step | none => r.pc
  let pos : StepPos := match e with | some e => (match e.part with | some p => p.pos | none => ⟨0, 0, 0, 0⟩) | none => ⟨0, 0, 0, 0⟩
  let kind := match e with | some e => (if e.part.isNone then 0 else match e.op with | .matmul _ => 1 | _ => 2) | none => 0
  [core + 16 * ctx + 256 * k + 65536 * gen, step % 2 ^ 20 + 2 ^ 20 * kind + 2 ^ 24 * (pos.sub % 256), pos.tile % 65536 + 65536 * (pos.chunk % 65536), pos.block % 65536]

/-- R148. Bytes 0x000 to 0x09F of a save record. -/
def State.recordHead (s : State) (tok : List Nat) (r : Running) : List Byte :=
  tok.flatMap (leBytes 4) ++ leBytes 8 s.now.ts64 ++ leBytes 4 (r.task.flow + 65536 * r.task.entry)
    ++ leBytes 4 (match r.soft with | some f => f.status.code | none => 0) ++ (r.aregs.take 16).flatMap (leBytes 8)

/-- PREEMPT_SAVE (R107, R146 to R149): everything started has completed but for matrix steps, which stop at the places given, oldest step first; the record is written
and the task completes PREEMPTED. The layout of the window is open: its bytes are free values; the accumulator words stand in an open order (assumption 50). PREEMPT_SAVED is
raised on the arrays of every MATMUL that stops (assumption 104). -/
def execPreemptSave (core slot : Nat) (stops : List StepPos) (s : State) : Outcome :=
  event (seqPage core) s fun s =>
    match s.running core slot with
    | none => .next s
    | some r =>
      match r.preempt with
      | none => .next s
      | some k =>
        let ctx := r.task.ctx
        let es := r.window.zip stops
        let acc := es.foldl (fun n x => n + s.savedBytes core x.1 x.2) 0
        if r.window.length ≠ stops.length || !r.window.all isMatrix || !es.all (fun x => s.stopOk core x.1 x.2) || decide (s.get (CTX_SAVE_ACC core ctx) * 65536 < acc) then .next s
        else match s.stopSteps core r es with
          | (t, some (e, st), _) => .next (t.setEntry core slot { e with status := st, writes := [] })
          | (t, none, stopped) =>
            let left := inOrder (stopped ++ r.replay)
            let rk := recordKey core ctx k
            let gen := (Map.get t.work.gens 0 rk + 1) % 65536
            let tok := tokenWords core ctx k gen r left
            let (raw, t1) := t.drawBytes 352
            let (words, t2) := t1.recordWords left
            let u := { t2 with freeCtr := t2.freeCtr + words.length }
            let base := u.recordBase core ctx k
            let (v, _) := u.storeWrite 1 core base r.task.flow
              (u.recordHead tok r ++ raw ++ List.replicate 3584 0 ++ (shuffled t2.freeCtr words).flatMap (leBytes 4))
            let saved : Saved := { run := { r with window := [], replay := left, preempt := none }, token := tok, raw := raw, order := t2.freeCtr }
            let arrays := (es.flatMap (fun x => match x.1.op with | .matmul _ => x.1.units | _ => [])).dedup
            let w := arrays.foldl (fun t a => t.raise (arrayPage core a) 3)
              { v with work := { v.work with saves := Map.insert v.work.saves rk saved, gens := Map.put 0 v.work.gens rk gen } }
            .next ((((w.setRunning core slot none).raise (seqPage core) 1).flowEnds r.task.flow core .preempted 0).slotRefresh core slot)

/-! ### Resume and discard (R150) -/

/-- R150. The record that the token registers name: of this core, in use, not yet accepted, with the token's generation and position. -/
def State.tokenRecord (s : State) (core : Nat) : Option (Nat × Saved) :=
  let w (i : Nat) := s.get (SEQ_RES_TOK core i)
  let rk := recordKey core (bitsOf (w 0) 4 4) (bitsOf (w 0) 8 3)
  match Map.find s.work.saves rk with
  | none => none
  | some v =>
    if w 0 % 16 = core ∧ w 0 / 65536 = v.token.getD 0 0 / 65536 ∧ w 1 = v.token.getD 1 0 ∧ w 2 = v.token.getD 2 0 ∧ w 3 % 65536 = v.token.getD 3 0
        ∧ !s.work.resumes.any (fun x => x.2 == rk) ∧ !s.work.slots.any (fun e => e.2.restore == some rk) then some (rk, v) else none

/-- R150, R159. A token is refused: the page captures BAD_PARAM in the layout of R159, with the step index and the context that the token names, and 0 for the slot, the flow and
the opcode, which no step gives (assumption 105). -/
def State.tokenRefused (s : State) (core : Nat) : State :=
  s.capture (seqPage core) .badParam (s.get (SEQ_RES_TOK core 1) % 2 ^ 20 + 2 ^ 24 * bitsOf (s.get (SEQ_RES_TOK core 0)) 4 4) 0

/-- SEQ_RES_GO (R150, R152). -/
def execSeqResGo (fn core : Nat) (s : State) : Outcome :=
  command fn (seqPage core) (.seqResGo fn core) s fun s =>
    match s.tokenRecord core with
    | some (rk, _) => .next { s with work := { s.work with resumes := s.work.resumes ++ [(core, rk)] } }
    | none => .next (s.tokenRefused core)

/-- R150. A save record is freed and its task completes ABORTED. No step failed: what is reported of one is open (assumption 32). -/
def State.discardSave (s : State) (core rk : Nat) (v : Saved) : State :=
  let s1 := { s with work := { s.work with saves := Map.erase s.work.saves rk } }
  let (a, s2) := s1.drawFree
  let (b, s3) := s2.drawFree
  let (c, s4) := s3.drawFree
  let (d, s5) := s4.drawFree
  (s5.taskFail core (d % 4) v.run.task .aborted a (b % 256)).flowEnds v.run.task.flow core .aborted (c % 2 ^ 32)

/-- SEQ_RES_DISCARD (R127, R150, R168). -/
def execSeqResDiscard (fn core : Nat) (s : State) : Outcome :=
  command fn (seqPage core) (.seqResDiscard fn core) s fun s =>
    match s.tokenRecord core with
    | none => .next (s.tokenRefused core)
    | some (rk, v) => .next (s.discardSave core rk v)

/-- RESUME_START (R109, R144, R150): the first free slot takes the task of the first waiting resume, before it issues a get, and enters RESTORE; the reload of its record follows. -/
def execResumeStart (core : Nat) (s : State) : Outcome :=
  event (seqPage core) s fun s =>
    match s.work.resumes.find? (fun x => x.1 == core) with
    | none => .next s
    | some (c, rk) =>
      match Map.find s.work.saves rk, (List.range 4).find? (fun i => s.slotState core i == 1) with
      | some v, some slot =>
        let s1 := { s with work := { s.work with resumes := s.work.resumes.filter (fun x => x != (c, rk)), gets := s.work.gets.filter (fun g => g != (core, slot)) } }
        let s2 := ((s1.set (SLOT_STAT_CTX core slot) v.run.task.ctx).set (SLOT_STAT_FLOW core slot) v.run.task.flow).set (FLOW_STATE v.run.task.flow) 2
        .next ((s2.setRunning core slot (some { v.run with restore := some rk })).slotRefresh core slot)
      | _, _ => .next s

/-! ### Aborts and slot enables (R145, R151) -/

/-- R95, R151. The task in a slot is aborted: as after a hard status, and started MATMULs are abandoned, with what they counted; a pending wait is withdrawn (R239). A save record
that is being reloaded into the slot is reloaded first. -/
def State.abortSlot (s : State) (core slot : Nat) : State :=
  let s := s.reloadNow core slot
  match s.running core slot with
  | none => s
  | some r =>
    let keep (e : Entry) : Bool := e.phase != .queued && !e.abandonable && (match e.op with | .wait .. => !s.waiting core slot | _ => true)
    (((s.countLost core r.window).setRunning core slot (some { r with aborting := true, preempt := none, queue := [], replay := [], window := r.window.filter keep })).withdrawWait
      core slot).endCheck core slot

/-- SEQ_ABORT (R151, R152). -/
def execSeqAbort (fn core mask : Nat) (s : State) : Outcome :=
  command fn (seqPage core) (.seqAbort fn core mask) s fun s => .next ((maskSlots mask).foldl (fun t i => t.abortSlot core i) s)

/-- R145, R212. The gets of slots that are disabled, quiesced or faulted are cancelled, and the slot registers follow. -/
def State.settleSlots (s : State) (core : Nat) : State :=
  let t := { s with work := { s.work with gets := s.work.gets.filter (fun g => g.1 != core || s.slotState core g.2 == 1) } }
  (List.range 4).foldl (fun u i => u.slotRefresh core i) t

/-- SLOT_EN_WRITE (R145). -/
def execSlotEnWrite (fn core mask : Nat) (s : State) : Outcome :=
  mmio fn (seqPage core) s fun s => .next ((s.set (SEQ_CTRL_SLOT_EN core) mask).settleSlots core)

/-! ### Faults (R103, R110, R114, R563) -/

/-- R103, R114. A fault of an array (`a` 0 to 3) or of the MVP (4) is reported: causes 1 shadow mismatch, 2 broadcast parity, 3 plane parity, 4 uncorrectable accumulator
error, 5 save-area write failure. -/
def State.arrayReport (s : State) (core a cause col flow : Nat) : State :=
  let page := 0x101 + 16 * core + a
  let s1 := (s.capture page .faulted (col % 128 + 256 * cause) flow).raise page 0
  let s2 := if cause = 1 then (s1.set (MA_SHADOW_MISMATCH core a) col).raise page 1 else if cause = 2 ∨ cause = 3 then s1.raise page 2 else s1
  if cause = 5 then s2 else s2.fault (if cause = 1 then 1 else if cause = 4 then 3 else 2) .faulted (s.coreHolder core) core (a % 4) 0 col

/-- The slot and the step that run on an array or the MVP. -/
def State.unitRun (s : State) (core u : Nat) : Option (Nat × Running × Entry) :=
  (List.range 4).findSome? (fun i => match s.running core i with
    | some r => (r.window.find? (fun e => e.units.contains u && e.phase == .ran && s.headOfUnits core e)).map (fun e => (i, r, e))
    | none => none)

/-- ARRAY_FAULT (R103, R110, R114): the step that runs on the unit is abandoned FAULTED, with its flags. The column of a mismatch is the one that the spare shadows. Cause 5 occurs while the task is being preempted: the record's place is
then undefined. -/
def execArrayFault (core array cause col : Nat) (s : State) : Outcome :=
  event (0x101 + 16 * core + array) s fun s =>
    if 4 < array || cause = 0 || 5 < cause || (cause == 1 && (4 ≤ array || !s.on (MA_SHADOW_ACTIVE core array))) then .next s
    else match s.unitRun core array with
      | none => .next s
      | some (slot, r, e) =>
        if cause = 5 ∧ r.preempt.isNone then .next s
        else
          let c := if cause = 1 then s.get (MA_SHADOW_CUR core array) else if cause = 4 then col % 128 else 0x7F
          let s1 := (s.countAbandoned core e).arrayReport core array cause c r.task.flow
          let s2 := match cause, r.preempt with
            | 5, some k =>
              let (b, t) := s1.drawBytes (4096 + s1.get (CTX_SAVE_ACC core r.task.ctx) * 65536)
              t.storePut 1 core (t.recordBase core r.task.ctx k) b
            | _, _ => s1
          .next ((s2.setEntry core slot { e with status := .faulted, writes := [], flags := 0 }).stepDone core slot r { e with status := .faulted, flags := 0 } .faulted |>.pump core)

/-- R563. The task in a slot completes FAULTED at once; what of it was on an array or the MVP is abandoned and counts (R94). -/
def State.fatalSlot (s : State) (core slot : Nat) : State :=
  let s := s.reloadNow core slot
  match s.running core slot with
  | some r => (((r.window.filter isMatrix).foldl (fun t e => t.countAbandoned core e) (s.dropClaims core (fun _ => true))).withdrawWait core slot).taskEnds core slot r .faulted none
  | none => s

/-- CORE_FATAL_FAULT (R563): FAULT is set, every running task of the core completes FAULTED, its gets are cancelled and its slots go to OFF. No step is the failing one (assumption 32). -/
def execCoreFatalFault (core : Nat) (s : State) : Outcome :=
  event (0x100 + 16 * core) s fun s =>
    let m := s.get FT_CORE_FAULT
    let s1 := (s.set FT_CORE_FAULT (if bitOf m core then m else m + 2 ^ core)).raise 0x700 1
    let s2 := s1.fault 6 .faulted (s.coreHolder core) core 0 0 0
    .next (((List.range 4).foldl (fun t i => t.fatalSlot core i) s2).settleSlots core)

/-! ### Golok images (R153 to R155) -/

/-- R158. Tasks of a context in slots. -/
def State.ctxActive (s : State) (core ctx : Nat) : Nat :=
  ((List.range 4).filter (fun i => match s.running core i with | some r => r.task.ctx == ctx | none => false)).length

/-- R158. Save records of a context in use, one bit each. -/
def State.ctxSaved (s : State) (core ctx : Nat) : Nat :=
  (List.range 7).foldl (fun n k => if (Map.find s.work.saves (recordKey core ctx k)).isSome then n + 2 ^ k else n) 0

/-- R153. A table of `n` entries of `size` bytes lies at or after the header and wholly before the signature. -/
def tableOk (off n size sig : Nat) : Bool := n == 0 || (decide (256 ≤ off) && decide (off + n * size ≤ sig))

/-- R153. The image that a header describes, with MIN_PROFILE; none where it is malformed. -/
def parseImage (base : Nat) (b : List Byte) : Option (Image × Nat) :=
  let w (o : Nat) := hdr b o 4
  let i : Image := { base := base, len := w 0x0C, stepOff := w 0x10, stepCnt := w 0x14, entryOff := w 0x18, entryCnt := w 0x1C, manOff := w 0x20, manCnt := w 0x24,
                     sigOff := w 0x28, alg := hdr b 0x2C 1 }
  if w 0 = 0x4B4C4F47 && hdr b 4 2 == 1 && hdr b 6 2 == 256 && i.stepOff % 64 == 0 && decide (1 ≤ i.stepCnt) && decide (i.stepCnt ≤ 1048576) && i.entryOff % 4 == 0
      && decide (1 ≤ i.entryCnt) && decide (i.entryCnt ≤ 65536) && decide (i.alg ≤ 2) && decide (i.sigOff + 64 ≤ i.len)
      && tableOk i.stepOff i.stepCnt 64 i.sigOff && tableOk i.entryOff i.entryCnt 4 i.sigOff && tableOk i.manOff i.manCnt 32 i.sigOff
  then some (i, hdr b 8 2) else none

/-- R154, steps 3 and 4. Header, tables and profile: the image with its entry table, and the status. -/
def State.imageHeader (s : State) (fn base : Nat) : State × Status × Image :=
  let none1 : Image := { base := base, len := 0, stepOff := 0, stepCnt := 0, entryOff := 0, entryCnt := 0, manOff := 0, manCnt := 0, sigOff := 0, alg := 0 }
  if !s.domOn 3 then (s, .aborted, none1)
  else if !s.granted fn base 256 then (s, .badAddr, none1)
  else match s.imageRead fn base 256 with
    | (s1, .ok, b) =>
      match parseImage base b with
      | none => (s1, .badDesc, none1)
      | some (i, profile) =>
        if !s1.granted fn base i.len then (s1, .badAddr, none1)
        else if s1.get FU_PROFILE_CUR < profile then (s1, .badParam, none1)
        else match s1.imageRead fn (base + i.entryOff) (i.entryCnt * 4) with
          | (s2, .ok, t) => (s2, .ok, { i with entries := (groupsOf 4 i.entryCnt t).map (fun e => leNat e % 2 ^ 20) })
          | (s2, st, _) => (s2, st, none1)
    | (s1, st, _) => (s1, st, none1)

/-- R154, step 5. The signature check of an image is asked for, where one is needed: the status so far. -/
def State.imageCheck (s : State) (core ctx fn : Nat) (i : Image) : State × Status :=
  if i.alg = 0 then (s, if s.on (CTX_CFG_VERIFY core ctx) then .authFail else .ok)
  else if !s.domOn 4 then (s, .aborted)
  else match s.findGlobal fn (s.get (CTX_CFG_IMG_KEY core ctx)) [if i.alg = 1 then 9 else 11] with
    | .denied => (s, .keyDenied)
    | .broken g => (s.slotBroken g, .internal)
    | .found _ k =>
      match s.imageRead fn i.base i.sigOff with
      | (s1, .ok, b) =>
        (match s1.imageRead fn (i.base + i.sigOff) 64 with
         | (s2, .ok, sig) => (s2.enqueue { use := .image core ctx, fn := fn, op := if i.alg = 1 then 0x21 else 0x25, key := k.key, src := sha256 b, aux := sig }, .ok)
         | (s2, st, _) => (s2, st))
      | (s1, st, _) => (s1, st)

/-- R154, R159. A load fails: LOAD_STATUS, the capture of the page, IMG_LOAD_ERR. The capture's fields about a step are open. -/
def State.loadFails (s : State) (core ctx : Nat) (st : Status) : State :=
  let (a, s1) := s.drawFree
  let (b, s2) := s1.drawFree
  ((s2.set (CTX_STAT_LOAD_STATUS core ctx) st.code).capture (seqPage core) st (a % 2 ^ 22 + 2 ^ 24 * ctx) (b % 2 ^ 24)).raise (seqPage core) 4

/-- R51, R301. The reads of an image, whose header at its base gives its length, wait for the end of a quiesce (assumption 115). -/
def State.loadHeld (s : State) (fn base : Nat) : Bool :=
  s.quiet 0x300 || s.quiet (0x307 + fn) || ((List.range 6).any (fun k => s.quiet (0x301 + k)) && s.granted fn base 256)

/-- CTX_LOAD (R154): a load starts where the context is neither enabled, active nor saved. A load asked for while another of the context is in progress is refused as those are, and
LOADED of an earlier image clears when a load starts (assumption 107). -/
def execCtxLoad (fn core ctx : Nat) (s : State) : Outcome :=
  command fn (seqPage core) (.ctxLoad fn core ctx) s fun s =>
    if s.on (CTX_CTRL_ENABLE core ctx) || s.ctxActive core ctx != 0 || s.ctxSaved core ctx != 0 || s.on (CTX_STAT_LOADING core ctx) then
      .next (s.loadFails core ctx .badParam)
    else
      let f := s.coreHolder core
      let base := s.get (CTX_IMG_LO core ctx) * 4096 + s.get (CTX_IMG_HI core ctx) * 2 ^ 32
      if s.loadHeld f base then s.hold (seqPage core) (.ctxLoad fn core ctx) else
      let (s1, st, i) := s.imageHeader f base
      if st = .ok && i.alg != 0 && s.domOn 4 && (s.sluiceHeld || s.pkeWaits) then s.hold (seqPage core) (.ctxLoad fn core ctx) else
      let (s2, st2) := if st = .ok then s1.imageCheck core ctx f i else (s1, st)
      .next (({ s2 with work := { s2.work with loading := Map.insert s2.work.loading (core * 16 + ctx) (i, st2) } }.flag (CTX_STAT_LOADING core ctx) true).flag
        (CTX_STAT_LOADED core ctx) false)

/-- R154. The end of a load with a status. -/
def State.loadEnds (s : State) (core ctx : Nat) (i : Image) (st : Status) : State :=
  let s1 := { s with work := { s.work with loading := Map.erase s.work.loading (core * 16 + ctx) } }.flag (CTX_STAT_LOADING core ctx) false
  if st = .ok then
    ((({ s1.dropGroups core ctx with work := { (s1.dropGroups core ctx).work with images := Map.insert s1.work.images (core * 16 + ctx) i } }.flag (CTX_STAT_LOADED core ctx) true).set
      (CTX_STAT_LOAD_STATUS core ctx) 0)).raise (seqPage core) 3
  else s1.loadFails core ctx st

/-- IMG_LOAD_DONE (R154): the load ends, once the check of its signature has. -/
def execImgLoadDone (core ctx : Nat) (s : State) : Outcome :=
  event (seqPage core) s fun s =>
    match Map.find s.work.loading (core * 16 + ctx) with
    | none => .next s
    | some (i, st) =>
      if st ≠ .ok || i.alg == 0 then .next (s.loadEnds core ctx i st)
      else match s.sluice.results.find? (fun (x : PkeUse × PkeOut) => x.1 == PkeUse.image core ctx) with
        | none => .next s
        | some (_, o) =>
          let s1 := { s with sluice := { s.sluice with results := s.sluice.results.filter (fun (x : PkeUse × PkeOut) => x.1 != PkeUse.image core ctx) } }
          .next (s1.loadEnds core ctx i (if o.st = .range ∨ o.st = .notOnCurve then .authFail else o.st))

/-! ### The core self-test (R570) -/

/-- R570. Both stores of a core are zeroed. -/
def State.zeroStores (s : State) (core : Nat) : State :=
  { s with mem := { s.mem with ws := Map.drop (fun k => k / 2 ^ 25 == core) s.mem.ws, wsErr := Map.drop (fun k => k / 2 ^ 22 == core) s.mem.wsErr,
                               act := Map.drop (fun k => k / 2 ^ 23 == core) s.mem.act, actErr := Map.drop (fun k => k / 2 ^ 20 == core) s.mem.actErr } }

/-- R570. A core's bits in the valid masks of every set clear. -/
def State.clearHolds (s : State) (core : Nat) : State := (List.range 8).foldl (fun t e => (t.setHolds e 0 core false).setHolds e 1 core false) s

/-- CORE_TEST_START (R570). -/
def execCoreTestStart (fn core : Nat) (s : State) : Outcome :=
  command fn (0x100 + 16 * core) (.coreTestStart fn core) s fun s =>
    if bitOf (s.get FT_CORE_ADM) core || !(s.page (0x100 + 16 * core)).quiesced || (List.range 16).any (fun c => s.ctxActive core c != 0 || s.ctxSaved core c != 0)
        || s.work.testing.contains core then
      .next (s.refuseWrite fn (CORE_TEST_START core).addr 1)
    else
      .next ((({ s with work := { s.work with testing := s.work.testing ++ [core] } }.flag (CORE_TEST_DONE core) false).flag (CORE_TEST_PASS core) false))

/-- R566, R570. What a self-test found goes into the maps and service bits of the core's arrays: fewer than 56 good columns retire one. -/
def State.testColumns (s : State) (core : Nat) (l : List Nat) : State :=
  (List.range 4).foldl (fun t a => (t.setColumns core a (l.getD a 0 % 2 ^ 65)).setService core a (decide (56 ≤ (presented (l.getD a 0 % 2 ^ 65)).length))) s

/-- R570. A core passes: stores, sequencer, vector unit and MVP, and at least one array with 56 or more good columns. -/
def testPasses (t : CoreTest) : Bool := t.rest && (List.range 4).any (fun a => decide (56 ≤ (presented (t.columns.getD a 0 % 2 ^ 65)).length))

/-- R566, R570. The pass bit of a core's physical slot. -/
def State.setSlotPass (s : State) (core : Nat) (b : Bool) : State :=
  let m := s.get FT_SLOT_PASS
  let k := s.physSlot core
  let rest := if bitOf m k then m - 2 ^ k else m
  s.set FT_SLOT_PASS (rest + (if b then 2 ^ k else 0))

/-- CORE_TEST_DONE (R570): the stores are zeroed, the valid bits clear, the maps and pass bits are set, TEST_DONE is raised. A core that fails is a fault of class 5. -/
def execCoreTestDone (core : Nat) (t : CoreTest) (s : State) : Outcome :=
  event (0x100 + 16 * core) s fun s =>
    if !s.work.testing.contains core then .next s
    else
      let s1 := { s with work := { s.work with testing := s.work.testing.filter (· != core) },
                         power := { s.power with tests := Map.insert s.power.tests (s.physSlot core) t } }
      let s2 := (((((s1.zeroStores core).clearHolds core).testColumns core t.columns).flag (CORE_TEST_DONE core) true).flag (CORE_TEST_PASS core) (testPasses t)).setSlotPass
        core (testPasses t)
      let s3 := if testPasses t then s2 else s2.fault 5 .faulted (s.coreHolder core) core 0 0 0
      .next (s3.raise (0x100 + 16 * core) 1)

end Sys2Proof.Machine
end

