-- ==== Sys2Proof/Machine/Ports.lean ====
section
/-!
DEFINITION. The commands and events of the Causeway ports and of the group (chapter 16).
-/

namespace Sys2Proof.Machine

/-! ### Starting and stopping (R499, R503, R506) -/

/-- R503. What refuses a START. -/
def State.startStatus (s : State) (p : Nat) : Status :=
  let st := s.get (PORT_STAT_STATE p)
  if (st != 0 && st != 6) || s.get (PORT_LANES_LANE_MASK p) == 0 || !s.on GRP_STAT_DIGEST_VALID
      || (s.on GRP_FLAGS_ENC_REQUIRED && !s.on (PORT_CTRL_ENC_EN p)) || (s.on (PORT_CTRL_ENC_EN p) && !s.on (PORT_STAT_KEY_CUR p)) then .badParam
  else if (s.get (SESSION p) = 0 ∨ s.get (PEER_SESSION p) = 0) ∧ !s.on RNG_STAT_OK then .internal
  else .ok

/-- PORT_START (R495, R499, R503): training begins; a port with no recorded session draws a fresh one. -/
def execPortStart (fn p : Nat) (s : State) : Outcome :=
  mmio fn (portPage p) s fun s =>
    match s.startStatus p with
    | .ok =>
      let v := s.port p
      let s1 := s.setPort p { v with enc := s.on (PORT_CTRL_ENC_EN p), matched := false, matchSent := false, resumeOk := false, fresh := false, peerMatch := none,
                                     leaving := false, leaveSent := false, leaveGot := false, leaveAcked := false }
      let s2 := if s.get (SESSION p) = 0 ∨ s.get (PEER_SESSION p) = 0 then s1.freshSession p else s1
      .next ((((s2.flag (PORT_STAT_RESUMED p) false).set (PORT_STAT_MISMATCH p) 0).set (PORT_LANES_LANE_LOCK p) 0).setPortState p 1)
    | st => .next (s.captureFn fn (portPage p) st ((PORT_CTRL_START p).addr % 4096) 1)

/-- PORT_STOP (R506): a graceful leave from DATA; any other state turns OFF at once. -/
def execPortStop (fn p : Nat) (s : State) : Outcome :=
  mmio fn (portPage p) s fun s =>
    if s.inData p then .next ((s.setPort p { s.port p with leaving := true }).leaveCheck p)
    else .next ((s.setPortState p 0).set (PORT_LANES_LANE_ACTIVE p) 0)

/-- RECHECK (R499, R503). -/
def execRecheck (fn p : Nat) (s : State) : Outcome :=
  mmio fn (portPage p) s fun s =>
    if s.get (PORT_STAT_STATE p) = 4 then .next (s.setPortState p 3) else .next (s.refuseWrite fn (PORT_CTRL_RECHECK p).addr 4)

/-- RESET_SEQ (R503, R515). -/
def execResetSeq (fn p : Nat) (s : State) : Outcome :=
  mmio fn (portPage p) s fun s =>
    if s.get (PORT_STAT_STATE p) = 0 ∨ s.get (PORT_STAT_STATE p) = 6 then .next (((s.discardReplay p).set (SESSION p) 0).set (PEER_SESSION p) 0)
    else .next (s.refuseWrite fn (PORT_CTRL_RESET_SEQ p).addr 8)

/-- An event of a port in one state; it does not occur in another. -/
def portEvent (p st : Nat) (s : State) (body : State → State) : Outcome :=
  event (portPage p) s fun s => if s.get (PORT_STAT_STATE p) = st then .next (body s) else .next s

/-- LANE_LOCKED (R499): every masked lane has locked. -/
def execLaneLocked (p : Nat) (s : State) : Outcome :=
  portEvent p 1 s fun s => (s.set (PORT_LANES_LANE_LOCK p) (s.get (PORT_LANES_LANE_MASK p))).setPortState p 2

/-- TRAIN_TIMEOUT (R499): after 200 ms not every masked lane has locked; `locked` are those that have. -/
def execTrainTimeout (p locked : Nat) (s : State) : Outcome :=
  portEvent p 1 s fun s => (s.set (PORT_LANES_LANE_LOCK p) locked).linkDown p 7

/-- ALIGN_DONE (R499). -/
def execAlignDone (p : Nat) (s : State) : Outcome := portEvent p 2 s fun s => s.setPortState p 3

/-- EXCH_SEND (R499, R500): the exchange record goes out. -/
def execExchSend (p : Nat) (s : State) : Outcome :=
  portEvent p 3 s fun s =>
    let r := s.exchRecord p
    let s1 := (s.emit p none (.exch (r ++ s.exchHmac p r))).2
    (s1.setPort p { s1.port p with matchSent := (s1.port p).matched }).tryData p

/-! ### Received flits -/

/-- A received flit is counted and its ACK and credits taken. -/
def State.flitIn (s : State) (p : Nat) (hd : FlitHdr) : State := (s.add (RX_FLITS p) 1).ackIn p hd

/-- R486, R491. An unsequenced flit received in DATA. -/
def unsequenced (p : Nat) (hd : FlitHdr) (s : State) (body : State → State) : Outcome :=
  portEvent p 5 s fun s => let t := s.flitIn p hd; if t.inData p then body t else t

/-- The chain that an arriving item is being built in can take its commit and its payload now (R179, R192, R301). -/
def State.arrivalReady (s : State) (c len : Nat) : Bool := !s.stall && (s.chain c).busy.isNone && !s.chainQuiet c && !s.payHeld c len

/-- R301, R510. The bytes of a LINK write to this member can be written now. -/
def State.lwrReady (s : State) (w : LinkWrite) : Bool := !s.hbmHeld (s.get (LF_RX0_FN w.lf)) (s.get (LF_RX0_FBASE w.lf) * 4096 + w.off) w.len

/-- R48, R51, R508. What names a member is for another one, and goes on without entering the fabric, or the fabric can take it now. -/
def State.passes (s : State) (dest : Nat) (open_ : Bool) : Bool := dest != s.get GRP_MEMBER || (!s.stall && open_)

/-- R49, R192, R267, R511. An accepted flit that is the oldest of its port can be applied now. -/
def State.flitReady (s : State) (p : Nat) : FlitBody → Bool
  | .itemHead h _ => s.arrivalReady (s.get (RX_CHAIN_MAP_CHAIN p (hdr h 13 1))) (hdr h 0 4 % 2 ^ 28)
  | .itemData _ => (match (s.port p).arrival with | some a => s.arrivalReady a.chain a.len | none => true)
  | .lwrHead w _ => s.passes w.dest (s.lwrReady w)
  | .lwrData _ => (match (s.port p).rxWrite with | some (w, _, _) => s.passes w.dest (s.lwrReady w) | none => true)
  | .lsig g => s.passes g.dest (!s.ctrQuiet (g.ctr % 4096))
  | .notice n => s.passes n.dest true
  | _ => true

/-- R506. A LEAVE is applied, while the link is in DATA. -/
def State.leaveIn (s : State) (p : Nat) : State :=
  if s.inData p then (s.setPort p { s.port p with leaving := true, leaveGot := true }).leaveCheck p else s

/-- R486. The content of an accepted flit is applied. -/
def State.applyFlit (s : State) (p : Nat) : FlitBody → State
  | .itemHead h b => s.itemHead p h b
  | .itemData b => s.itemData p b
  | .lwrHead w d => s.writeBytesIn p w d 1
  | .lwrData d => (match (s.port p).rxWrite with | some (w, b, n) => s.writeBytesIn p w (b ++ d) (n + 1) | none => s.owe p 1 1)
  | .lsig g => (s.signalIn g).owe p 2 1
  | .notice n => (s.noticeIn n).owe p 2 1
  | .leave => (s.owe p 2 1).leaveIn p
  | _ => s

/-- R170, R511. The oldest accepted flit of a port can be applied now; all wait behind an item that waits for its cell. -/
def State.rxReady (s : State) (p : Nat) : Bool :=
  match (s.port p).rxBuf with
  | f :: _ => (match (s.port p).arrival with | some a => !a.waiting | none => true) && s.flitReady p f
  | [] => false

/-- R511. The oldest accepted flit of a port is applied. -/
def State.rxTake (s : State) (p : Nat) : State :=
  match (s.port p).rxBuf with
  | f :: l => (s.setPort p { s.port p with rxBuf := l }).applyFlit p f
  | [] => s

/-- R511. Up to `n` accepted flits of a port are applied, in sequence order, until one waits. -/
def State.rxDrain (s : State) (p : Nat) : Nat → State
  | 0 => s
  | n + 1 => if s.rxReady p then (s.rxTake p).rxDrain p n else s

/-- R511. The accepted flits of a port are applied as far as they can be now. -/
def State.rxGo (s : State) (p : Nat) : State := s.rxDrain p (s.port p).rxBuf.length

/-- R49, R511. A port whose oldest accepted flit waits no longer. -/
def State.rxPort (s : State) : Option Nat := (List.range 8).find? s.rxReady

/-- R491. A sequenced flit received in DATA: the expected one is accepted; a duplicate is discarded; one beyond a gap is discarded and a RETRY sent. -/
def sequenced (p : Nat) (hd : FlitHdr) (s : State) (accept : State → State) : Outcome :=
  event (portPage p) s fun s =>
    if !s.inData p then .next s
    else
      let n := (s.port p).rx
      let k := nearest n hd.seq
      if k < n then .next (s.flitIn p hd)
      else if n < k then .next (let t := s.flitIn p hd; t.setPort p { t.port p with retry := true })
      else .next (accept (s.setPort p { s.port p with rx := n + 1 }))

/-- R49, R494, R511. A sequenced flit whose content the chip applies in sequence order: it takes a receive buffer, and its credit returns once it is applied. -/
def buffered (p : Nat) (hd : FlitHdr) (f : FlitBody) (s : State) : Outcome :=
  sequenced p hd s fun t => ((t.setPort p { t.port p with rxBuf := (t.port p).rxBuf ++ [f] }).flitIn p hd).rxGo p

/-- R491. A sequenced flit that changes the link itself, from the flit after it on (assumption 113). -/
def linkFlit (p : Nat) (hd : FlitHdr) (s : State) (body : State → State) : Outcome :=
  sequenced p hd s fun t => let u := t.flitIn p hd; if u.inData p then body u else u

/-- EXCH (R500 to R502): a received exchange record. -/
def execExch (p : Nat) (hd : FlitHdr) (record : List Byte) (s : State) : Outcome :=
  portEvent p 3 s fun s => let _ := hd; (s.add (RX_FLITS p) 1).exchange p (takePad 108 record)

/-- IDLE (R486). -/
def execIdle (p : Nat) (hd : FlitHdr) (s : State) : Outcome := unsequenced p hd s id

/-- ITEM_HEAD (R487, R512). -/
def execItemHead (p : Nat) (hd : FlitHdr) (header payload : List Byte) (s : State) : Outcome := buffered p hd (.itemHead (takePad 64 header) payload) s

/-- ITEM_DATA (R486). -/
def execItemData (p : Nat) (hd : FlitHdr) (payload : List Byte) (s : State) : Outcome := buffered p hd (.itemData payload) s

/-- LWR_HEAD (R488, R510). -/
def execLwrHead (p : Nat) (hd : FlitHdr) (w : LinkWrite) (data : List Byte) (s : State) : Outcome := buffered p hd (.lwrHead w data) s

/-- LWR_DATA (R486, R510). -/
def execLwrData (p : Nat) (hd : FlitHdr) (data : List Byte) (s : State) : Outcome := buffered p hd (.lwrData data) s

/-- LSIG (R245, R511). -/
def execLsig (p : Nat) (hd : FlitHdr) (g : LinkSignal) (s : State) : Outcome := buffered p hd (.lsig g) s

/-- NOTICE (R489, R513). -/
def execNotice (p : Nat) (hd : FlitHdr) (n : LinkNotice) (s : State) : Outcome := buffered p hd (.notice n) s

/-- VOID (R486): discarded. -/
def execVoid (p : Nat) (hd : FlitHdr) (s : State) : Outcome := buffered p hd .voided s

/-- R522. A time as a count of nanoseconds. -/
def tsyncTotal (t : TsyncTime) : Int := (t.sec : Int) * 1000000000 + t.ns

/-- R522. Twice the skew: (t2 − t1) − (t4 − t3), t2 being the time of arrival. -/
def tsyncTwice (now : TsyncTime) (t1 t3 t4 : TsyncTime) : Int := (tsyncTotal now - tsyncTotal t1) - (tsyncTotal t4 - tsyncTotal t3)

/-- Half of a difference; which way an odd one is halved is open, and `r` decides it. -/
def halfOpen (d : Int) (r : Nat) : Int := if d % 2 = 0 then d / 2 else d / 2 + (r % 2 : Nat)

/-- R522. The skew of the four times; which way an odd difference is halved is open. -/
def State.tsyncSkew (s : State) (t1 t3 t4 : TsyncTime) : Int × State :=
  (halfOpen (tsyncTwice ⟨s.now.sec, s.now.ns⟩ t1 t3 t4) s.drawFree.1, s.drawFree.2)

/-- TSYNC (R45, R522, R523): `t1` the peer's send time; `echo` the times t4 and t3 of this end's last TSYNC, once the peer has one. -/
def execTsync (p : Nat) (hd : FlitHdr) (t1 : TsyncTime) (echo : Option (TsyncTime × TsyncTime)) (s : State) : Outcome :=
  unsequenced p hd s fun s =>
    let s1 := s.setPort p { s.port p with echo := some (⟨s.now.sec, s.now.ns⟩, t1) }
    match echo with
    | none => s1
    | some (t4, t3) =>
      let (k, s2) := s1.tsyncSkew t1 t3 t4
      ((s2.set (PORT_SKEW p) (toSigned32 k)).set TB_SKEW_MAX (max (s2.get TB_SKEW_MAX) (k.natAbs % 2 ^ 32))).skewRefresh

/-- TSYNC_SEND (R522). -/
def execTsyncSend (p : Nat) (s : State) : Outcome :=
  portEvent p 5 s fun s => (s.emit p none (.tsync ⟨s.now.sec, s.now.ns⟩ (s.port p).echo)).2

/-- RETRY (R492, R493): the sender resends from the number requested. -/
def execRetry (p : Nat) (hd : FlitHdr) (want : Nat) (s : State) : Outcome :=
  unsequenced p hd s fun s =>
    let v := s.port p
    let oldest := (v.replay.head?.map (·.seq)).getD v.tx
    if want < oldest then s.linkDown p 4 else if want < v.tx then s.startResend p want else s

/-- LANE (R505): a new lane mask from the peer. -/
def execLane (p : Nat) (hd : FlitHdr) (mask : Nat) (s : State) : Outcome :=
  linkFlit p hd s fun s =>
    let s := s.owe p 2 1
    if mask % 256 = 0 then s.linkDown p 4
    else
      let old := s.get (PORT_LANES_LANE_MASK p)
      let t := (s.set (PORT_LANES_LANE_MASK p) mask).set (PORT_LANES_LANE_ACTIVE p) mask
      if (mask % 256) &&& (255 - old) ≠ 0 then
        ((t.set (PORT_LANES_LANE_LOCK p) (s.get (PORT_LANES_LANE_LOCK p) ||| mask % 256)).flag (PORT_LANES_LANE_RESULT p) false).raise (portPage p) 4
      else t

/-- KEY (R497): the port's keys change from CUR to NEXT. -/
def execKey (p : Nat) (hd : FlitHdr) (s : State) : Outcome :=
  linkFlit p hd s fun s =>
    let s := s.owe p 2 1
    if !s.on (PORT_STAT_KEY_NEXT p) then s.linkDown p 4
    else ((s.setPort p { s.port p with curKeys := (s.port p).nextKeys, nextKeys := [] }).flag (PORT_STAT_KEY_NEXT p) false).flag (PORT_STAT_KEY_CUR p) true

/-- LEAVE (R506). -/
def execLeave (p : Nat) (hd : FlitHdr) (s : State) : Outcome := buffered p hd .leave s

/-- BAD_CRC_FLIT (R491, R496): a flit with a bad CRC, a failed tag or beyond a gap is discarded and a RETRY is to be sent. -/
def execBadCrcFlit (p : Nat) (s : State) : Outcome :=
  event (portPage p) s fun s =>
    let t := (s.add (RX_FLITS p) 1).add (CRC_ERR_CNT p) 1
    .next (if s.inData p then t.setPort p { t.port p with retry := true } else t)

/-- UNDEFINED_TYPE_FLIT (R486, R493): a protocol error. -/
def execUndefinedTypeFlit (p : Nat) (s : State) : Outcome := portEvent p 5 s fun s => (s.add (RX_FLITS p) 1).linkDown p 4

/-! ### Sending -/

/-- CHAIN_TAKE (R171, R175, R506): the port takes the next item of chain `c`. -/
def execChainTake (p c : Nat) (s : State) : Outcome :=
  event (portPage p) s fun s =>
    if s.stall || !s.inData p || s.portStopping p || (s.port p).sending.isSome || !s.takeOpen c 1
        || !(match (s.chain c).desc with | some d => d.sinkPort == p | none => false) then .next s
    else match s.headItem c with
      | none => .next s
      | some (k, x) => .next ((s.takeCell k x).setPort p { s.port p with sending := some (c, k, none) })

/-- PORT_TRANSMIT (R491, R492, R494): the next flit goes out. The sources' order is open: `src` is 0 for the item in progress, 1 for the writes and control messages that
wait, 2 for an unsequenced flit, a RETRY where one is owed and else an IDLE. A resend goes before new sequenced flits. -/
def execPortTransmit (p src : Nat) (s : State) : Outcome :=
  portEvent p 5 s fun s =>
    let v := s.port p
    if 2 ≤ src then
      let body := if v.retry then FlitBody.retry v.rx else .idle
      let s1 := (s.setPort p { v with retry := false })
      ((if v.retry then s1.add (RETRY_CNT p) 1 else s1).emit p none body).2.leaveCheck p
    else match v.resend with
      | some n => s.resendNext p n
      | none =>
        if src = 0 then (if s.stall || s.sendHeld p || !s.maySend p 0 then s else s.sendItem p)
        else (s.sendMessage p).leaveCheck p

/-- RESEND_TIMEOUT (R492): the oldest unacknowledged flit is 2 µs old and no RETRY has come. -/
def execResendTimeout (p : Nat) (s : State) : Outcome :=
  portEvent p 5 s fun s => match (s.port p).replay with | r :: _ => s.startResend p r.seq | [] => s

/-- ACK_TIMEOUT (R493): 100 µs of unacknowledged flits without progress. -/
def execAckTimeout (p : Nat) (s : State) : Outcome := portEvent p 5 s fun s => if (s.port p).replay.isEmpty then s else s.linkDown p 3

/-- LOCK_LOST (R493): lane `l` loses lock; an active one takes the link DOWN. -/
def execLockLost (p l : Nat) (s : State) : Outcome :=
  event (portPage p) s fun s =>
    let m := s.get (PORT_LANES_LANE_LOCK p)
    let t := s.set (PORT_LANES_LANE_LOCK p) (if bitOf m (l % 8) then m - 2 ^ (l % 8) else m)
    .next (if s.inData p ∧ bitOf (s.get (PORT_LANES_LANE_ACTIVE p)) (l % 8) then (t.linkDown p 1).fault 7 .linkLost 0 0 0 p (l % 8) else t)

/-! ### Lanes in service (R504, R505) -/

/-- R505. A LANE_CMD is refused outside DATA and while one is in progress. -/
def State.laneRefused (s : State) (p : Nat) : Bool := !s.inData p || s.on (PORT_LANES_LANE_BUSY p)

/-- LANE_ADD (R505): training of lane `l` begins while the others carry traffic. -/
def execLaneAdd (fn p l : Nat) (s : State) : Outcome :=
  mmio fn (portPage p) s fun s =>
    if s.laneRefused p then .next (s.refuseWrite fn (PORT_LANES_LANE_MASK p).addr (2 ^ 24 * (l % 8) + 2 ^ 28))
    else .next ((s.setPort p { s.port p with adding := some (l % 8) }).flag (PORT_LANES_LANE_BUSY p) true)

/-- LANE_ADD_DONE (R505): the lane has locked and joins by a LANE flit, or the ADD, on this end or on the other one, ends ABORTED. -/
def execLaneAddDone (p : Nat) (ok : Bool) (s : State) : Outcome :=
  portEvent p 5 s fun s =>
    match (s.port p).adding with
    | none => if ok then s else (s.flag (PORT_LANES_LANE_RESULT p) true).raise (portPage p) 4
    | some l =>
      if ok then
        (s.set (PORT_LANES_LANE_LOCK p) (s.get (PORT_LANES_LANE_LOCK p) ||| 2 ^ l)).enqueueMsg p (.lane (s.get (PORT_LANES_LANE_MASK p) ||| 2 ^ l))
      else
        (((s.setPort p { s.port p with adding := none }).flag (PORT_LANES_LANE_BUSY p) false).flag (PORT_LANES_LANE_RESULT p) true).raise (portPage p) 4

/-- LANE_REMOVE (R505). -/
def execLaneRemove (fn p l : Nat) (s : State) : Outcome :=
  mmio fn (portPage p) s fun s =>
    let m := s.get (PORT_LANES_LANE_MASK p)
    let n := if bitOf m (l % 8) then m - 2 ^ (l % 8) else m
    if s.laneRefused p || n == 0 then .next (s.refuseWrite fn (PORT_LANES_LANE_MASK p).addr (2 ^ 24 * (l % 8) + 2 ^ 29))
    else .next ((s.enqueueMsg p (.lane n)).flag (PORT_LANES_LANE_BUSY p) true)

/-- LANE_FEC_WINDOW (R504): the bytes that FEC corrected on each lane in the 1 ms window now ended. -/
def execLaneFecWindow (p : Nat) (counts : List Nat) (s : State) : Outcome :=
  event (portPage p) s fun s =>
    let t := (List.range 8).foldl (fun t i => (t.add (LANE_FEC_CNT p i) (counts.getD i 0)).add (FEC_CORR_CNT p) (counts.getD i 0)) s
    let warn := (List.range 8).filter (fun i => decide (s.get (PORT_LANE_WARN p) < counts.getD i 0))
    .next (if warn.isEmpty then t else warn.foldl (fun u i => u.fault 7 .ok 0 0 0 p i) (t.raise (portPage p) 3))

/-! ### Keys (R495, R497) -/

/-- R495. The keys that the secret of a slot gives a port. -/
def State.portKeys (s : State) (p : Nat) (secret : List Byte) : List Byte :=
  let m := s.get GRP_MEMBER
  let q := s.get (PORT_CTRL_PEER_EXPECT p)
  hkdf (leBytes 4 (s.get GRP_ID)) secret ([0x52, 0x59, 0x58, 0x34, 0x2D, 0x4C, 0x49, 0x4E, 0x4B] ++ leBytes 1 (min m q) ++ leBytes 1 (max m q)) 96

/-- PORT_KEY_LOAD (R33, R382, R384, R392, R495, R525): it waits for its admission to Sluice. -/
def execPortKeyLoad (fn p : Nat) (s : State) : Outcome :=
  mmio fn (portPage p) s fun s =>
    let i := s.get (PORT_KEY_SLOT p)
    if s.on (PORT_KEY_BUSY p) then .next (s.refuseWrite fn (PORT_KEY_LOAD p).addr (i + 2 ^ 12))
    else if !s.domOn 4 then .next (s.capture (portPage p) .aborted i 0)
    else if s.sluiceHeld || s.behind (portPage p) then s.hold (portPage p) (.portKeyLoad fn p)
    else match s.findGlobal 0 i [7] with
      | .denied => .next (s.capture (portPage p) .keyDenied i 0)
      | .broken g => .next ((s.slotBroken g).capture (portPage p) .internal i 0)
      | .found _ k => .next ((s.setPort p { s.port p with newKeys := some (s.portKeys p k.key) }).flag (PORT_KEY_BUSY p) true)

/-- PORT_KEY_DONE (R497): the derived keys become NEXT in DATA, else CUR. -/
def execPortKeyDone (p : Nat) (s : State) : Outcome :=
  event (portPage p) s fun s =>
    match (s.port p).newKeys with
    | none => .next s
    | some k =>
      let v := { s.port p with newKeys := none }
      let t := if s.inData p then (s.setPort p { v with nextKeys := k }).flag (PORT_STAT_KEY_NEXT p) true
        else (s.setPort p { v with curKeys := k }).flag (PORT_STAT_KEY_CUR p) true
      .next ((t.flag (PORT_KEY_BUSY p) false).raise (portPage p) 5)

/-- PORT_REKEY (R497): refused where no NEXT is loaded or the link is not in DATA, since there is nothing to change to (assumption 41). -/
def execPortRekey (fn p : Nat) (s : State) : Outcome :=
  mmio fn (portPage p) s fun s =>
    if s.inData p && s.on (PORT_STAT_KEY_NEXT p) then .next (s.enqueueMsg p .key) else .next (s.refuseWrite fn (PORT_KEY_REKEY p).addr (2 ^ 13))

/-! ### The group (R517, R520, R526) -/

/-- R517. The 64 bytes whose digest is the configuration digest. -/
def State.groupConfig (s : State) : List Byte :=
  leBytes 4 (s.get GRP_ID) ++ leBytes 2 (s.get GRP_MEMBERS) ++ leBytes 2 (s.get FU_PROFILE_CUR) ++ leBytes 4 (s.get TB_TICK_NS) ++ leBytes 4 (s.get TB_SKEW_LIMIT)
    ++ leBytes 4 (s.get GRP_FLAGS_ENC_REQUIRED) ++ List.replicate 12 0 ++ (List.range 8).flatMap (fun i => leBytes 4 (s.get (GRP_USER i)))

/-- DIGEST_UPDATE (R51, R507, R517): it waits for the end of a quiesce of the page. -/
def execDigestUpdate (fn : Nat) (s : State) : Outcome :=
  mmio fn 0x680 s fun s => if s.quiet 0x680 || s.behind 0x680 then s.hold 0x680 (.digestUpdate fn) else .next { s with link := { s.link with digesting := true, formedOnce := false } }

/-- DIGEST_DONE (R517). -/
def execDigestDone (s : State) : Outcome :=
  event 0x680 s fun s =>
    if !s.link.digesting then .next s
    else
      let d := sha256 s.groupConfig
      let s1 := (List.range 8).foldl (fun t i => t.set (GRP_DIGEST i) (leNat ((d.drop (4 * i)).take 4))) { s with link := { s.link with digesting := false } }
      .next ((s1.flag GRP_STAT_DIGEST_VALID true).groupRefresh.raise 0x680 5)

/-- EPOCH_ARM (R520): refused while armed; a tick already passed advances the epoch at once. -/
def execEpochArm (fn : Nat) (s : State) : Outcome :=
  mmio fn 0x680 s fun s =>
    if s.on GRP_STAT_EPOCH_ARMED then .next (s.refuseWrite fn GRP_CMD_EPOCH_ARM.addr 2)
    else
      let a := (s.pair GRP_EPOCH_NEXT_LO GRP_EPOCH_NEXT_HI, s.pair GRP_EPOCH_TICK_LO GRP_EPOCH_TICK_HI)
      .next (({ s with link := { s.link with armed := some a, epochDue := false } }.flag GRP_STAT_EPOCH_ARMED true).epochTick s.deliveredTick)

/-- EPOCH_DISARM (R520). -/
def execEpochDisarm (fn : Nat) (s : State) : Outcome :=
  mmio fn 0x680 s fun s => .next ({ s with link := { s.link with armed := none, epochDue := false } }.flag GRP_STAT_EPOCH_ARMED false)

/-- LEQ_POP (R526): a read pops one late error and captures its words. -/
def execLeqPop (fn : Nat) (s : State) : Outcome :=
  mmioRead fn 0x680 s fun s =>
    match s.link.leq with
    | [] => .next { s with readData := 0 }
    | e :: q =>
      let w := e.status + 256 * (e.kind % 4) + 2 ^ 10 * e.flow + 2 ^ 22 * e.fn + 2 ^ 31
      let s1 := { s with link := { s.link with leq := q }, readData := w }
      .next ((((s1.set LEQ_REF (e.member + 256 * e.ref)).set LEQ_SEQ e.seq).set LEQ_TIME_NS e.time.ns).set LEQ_TIME_SEC e.time.sec)

end Sys2Proof.Machine
end

