-- ==== Sys2Proof/Machine/Protect.lean ====
section
/-!
DEFINITION. The commands of the protection path (R305 to R309, R319 to R327): key sets of domains, key rotation, fills, the protection log.
-/

namespace Sys2Proof.Machine

/-- R306. The key set of domain `d` at generation `g` from a secret, under the chip's root key at its epoch. -/
def State.deriveKeys (s : State) (secret : List Byte) (d g : Nat) : List Byte :=
  let salt := (List.range 32).map (fun i => Config.rootKeyByte (s.get FU_RKE_EPOCH) i)
  hkdf salt secret (ascii "RYX4-MEM" ++ [BitVec.ofNat 8 d, BitVec.ofNat 8 g]) 96

/-- R322. A domain command is refused. RESULT shows it unless another command is in progress. -/
def State.domRefused (s : State) (fn d op : Nat) : State :=
  let s1 := if s.on (DOM_STAT_BUSY d) then s else s.set (DOM_STAT_RESULT d) Status.badParam.code
  s1.refuseWrite fn (DOM_CMD_OP d).addr op

/-- A domain command is in progress with its outcome. -/
def State.domBusy (s : State) (d op : Nat) (st : Status) (ks : List Byte) : State :=
  (s.setKeys d { s.domKeys d with busy := some (op, st, ks) }).flag (DOM_STAT_BUSY d) true

/-- R307, R384. The secret that a LOAD of domain `d` names: of the memory class, in a slot held by the domain's FN or the PF. -/
def State.domSecret (s : State) (d : Nat) : KeyRes := s.findGlobal (s.get (DOM_CFG_FN d)) (s.get (DOM_KEY_SLOT d)) [6]

/-- R33, R306, R307, R326, R382. A LOAD derives its key set, or is refused with KEY_DENIED and logged with cause 5; the log's agent and address are open there. A slot that cannot be
read gives INTERNAL, a Sluice that is off ABORTED. -/
def State.domLoad (s : State) (d op g : Nat) : State :=
  if !s.domOn 4 then (s.capture 0x310 .aborted 0 0).domBusy d op .aborted []
  else match s.domSecret d with
  | .found _ k => s.domBusy d op .ok (s.deriveKeys k.key d g)
  | .broken i => (s.slotBroken i).domBusy d op .internal []
  | .denied =>
    let (a, s1) := s.drawFree
    let (p, s2) := s1.drawFree
    (s2.logProt { fn := s.get (DOM_CFG_FN d), dom := d, cause := 5, agent := a % 16, core := 0, pa := p % 2 ^ 33 * 128, time := s.now } .keyDenied).domBusy
      d op .keyDenied []

/-- R29, R33, R374, R392. A LOAD of domain `d` waits for its admission, or behind one that does. -/
def State.loadWaits (s : State) : Bool := s.domOn 4 && (s.sluiceHeld || s.behind 0x310)

/-- LOAD_CUR (R306, R307): accepted in OFF. -/
def execLoadCur (fn d : Nat) (s : State) : Outcome :=
  mmio fn 0x310 s fun s =>
    if s.on (DOM_STAT_BUSY d) || s.get (DOM_STAT_STATE d) != 0 then .next (s.domRefused fn d 1)
    else if s.loadWaits then s.hold 0x310 (.loadCur fn d)
    else .next (s.domLoad d 1 (s.get (DOM_CFG_GEN d)))

/-- LOAD_NEXT (R306, R307, R322): accepted in ACTIVE and NEXT_LOADED. -/
def execLoadNext (fn d : Nat) (s : State) : Outcome :=
  mmio fn 0x310 s fun s =>
    if s.on (DOM_STAT_BUSY d) || !([1, 2].contains (s.get (DOM_STAT_STATE d))) then .next (s.domRefused fn d 2)
    else if s.loadWaits then s.hold 0x310 (.loadNext fn d)
    else .next (s.domLoad d 2 ((s.get (DOM_CFG_GEN d) + 1) % 256))

/-- REKEY_START (R321): accepted in NEXT_LOADED. -/
def execRekeyStart (fn d : Nat) (s : State) : Outcome :=
  mmio fn 0x310 s fun s =>
    if s.on (DOM_STAT_BUSY d) || s.get (DOM_STAT_STATE d) != 2 then .next (s.domRefused fn d 3)
    else .next ((((s.setPair (RK_PTR_LO d) (RK_PTR_HI d) 0).set (RK_LINES d) 0).set (DOM_STAT_STATE d) 3).set (DOM_STAT_RESULT d) Status.ok.code)

/-- DOM_DISABLE (R309): refused in a sweep or while a valid segment names the domain; otherwise the key sets are erased and the domain is OFF. -/
def execDomDisable (fn d : Nat) (s : State) : Outcome :=
  mmio fn 0x310 s fun s =>
    if s.on (DOM_STAT_BUSY d) || s.get (DOM_STAT_STATE d) == 3 || s.domInUse d then .next (s.domRefused fn d 4)
    else .next (((s.setKeys d {}).set (DOM_STAT_STATE d) 0).domBusy d 4 .ok [])

/-- DOM_CMD_DONE (R307, R327): a key command completes: the key set is installed, RESULT set, KEY_DONE raised. -/
def execDomCmdDone (d : Nat) (s : State) : Outcome :=
  event 0x310 s fun s =>
    match (s.domKeys d).busy with
    | none => .next s
    | some (op, st, ks) =>
      let k := s.domKeys d
      let s1 :=
        if st = .ok ∧ op = 1 then (s.setKeys d { cur := ks }).set (DOM_STAT_STATE d) 1
        else if st = .ok ∧ op = 2 then (s.setKeys d { k with next := ks, busy := none }).set (DOM_STAT_STATE d) 2
        else s.setKeys d { k with busy := none }
      .next (((s1.flag (DOM_STAT_BUSY d) false).set (DOM_STAT_RESULT d) st.code).raise 0x310 5)

/-! ### Key rotation (R320, R321) -/

/-- R321. The first line from `l` on that lies in a valid segment naming the domain, and the segment's function. -/
def State.nextDomLine (s : State) (d l : Nat) : Option (Nat × Nat) :=
  (List.range 9).foldl (fun best f => (List.range 64).foldl (fun best x =>
    if s.on (SEG_FBASE_VALID f x) && s.get (SEG_ATTR_PDOM f x) == d then
      let lo := s.get (SEG_PBASE f x) * 16384
      let hi := lo + s.get (SEG_LEN f x) * 16384
      let c := Nat.max l lo
      if c < hi then
        match best with
        | some (b, _) => if c < b then some (c, f) else best
        | none => some (c, f)
      else best
    else best) best) none

/-- R301, R328. A sweep or fill line waits under the pages of the HBM: MEMCTL page 0, the line's stack. -/
def State.lineHeld (s : State) (l : Nat) : Bool := s.quiet 0x300 || s.stackQuiet (l * 128) 1

/-- R321. The sweep takes a line: an M copy is fetched, else the line is read under CUR; the plaintext that is to be rewritten, if any. -/
def State.sweepRead (s : State) (d l fn : Nat) : State × Option (List Byte) :=
  match (s.settled l).downgrade l with
  | (s1, some b) => (s1, some b)
  | (s1, none) =>
    if s1.lineAbsent l then (s1, none)
    else
      let s2 := s1.add (MS_RD_LINES (stackOf l)) 1
      match (s2.lineMeta l).code with
      | .poison => (s2, none)
      | .uncorrectable => (s2, none)
      | code =>
        let s3 := if code = .correctable then s2.lineCe l else s2
        let ks := (s3.domKeys d).cur
        if lineTag ks l (s3.stored l) = (s3.lineMeta l).tag then (s3, some (decryptLine ks l (s3.stored l)))
        else ((s3.poison l).tagFail 5 fn 0 d l 4, none)

/-- R321. The sweep ends: NEXT becomes CUR, GEN rises, the state is ACTIVE, REKEY_DONE is raised. -/
def State.rekeyDone (s : State) (d : Nat) : State :=
  let k := s.domKeys d
  (((s.setKeys d { k with cur := k.next, next := [] }).add (DOM_CFG_GEN d) 1).set (DOM_STAT_STATE d) 1).raise 0x310 3

/-- REKEY_SWEEP_LINE (R321, R328): the sweep of domain `d` handles its next line. -/
def execRekeySweepLine (d : Nat) (s : State) : Outcome :=
  event 0x310 s fun s =>
    if s.get (DOM_STAT_STATE d) ≠ 3 || s.get (RK_BW d) = 0 || s.quiet 0x310 || s.stall then .next s
    else match s.nextDomLine d (s.rkLine d) with
      | none => .next (s.rekeyDone d)
      | some (l, fn) =>
        if s.lineHeld l then .next s else
        let (s1, b) := s.sweepRead d l fn
        let s2 := (s1.setPair (RK_PTR_LO d) (RK_PTR_HI d) ((l + 1) * 128)).add (RK_LINES d) 1
        let s3 := match b with | some b => (s2.homeWrite fn d l b).1 | none => s2
        .next (if (s3.nextDomLine d (l + 1)).isNone then s3.rekeyDone d else s3)

/-! ### Fills (R319) -/

/-- PROT_FILL (R319): FILL_CTRL.GO. -/
def execProtFill (fn : Nat) (s : State) : Outcome :=
  mmio fn 0x310 s fun s =>
    let pa := s.pair FILL_PA_LO FILL_PA_HI
    let n := s.get FILL_LEN
    let d := s.get FILL_DOM
    if s.on FILL_CTRL_BUSY then .next (s.refuseWrite fn FILL_CTRL_GO.addr 1)
    else if (n != 0 && decide (144 * 2 ^ 30 < pa + n * 2 ^ 21)) || (d != 15 && s.get (DOM_STAT_STATE d) != 1) || s.get FILL_BW == 0 then
      .next ((s.set FILL_CTRL_RESULT Status.badParam.code).refuseWrite fn FILL_CTRL_GO.addr 1)
    else if n = 0 then .next ((s.set FILL_CTRL_RESULT Status.ok.code).raise 0x310 4)
    else .next ({ s with mem := { s.mem with fill := some (pa / 128, n * 16384, d) } }.flag FILL_CTRL_BUSY true)

/-- PROT_FILL_LINE (R319, R328): the fill writes its next line with zeros; the last ends it. -/
def execProtFillLine (s : State) : Outcome :=
  event 0x310 s fun s =>
    match s.mem.fill with
    | none => .next s
    | some (l, n, d) =>
      if s.quiet 0x310 || s.stall || s.lineHeld l then .next s
      else
        let s1 := (s.agentWrite 6 0 0 d l 0 (List.replicate 128 0)).1
        if 1 < n then .next { s1 with mem := { s1.mem with fill := some (l + 1, n - 1, d) } }
        else .next ((({ s1 with mem := { s1.mem with fill := none } }.flag FILL_CTRL_BUSY false).set FILL_CTRL_RESULT Status.ok.code).raise 0x310 4)

/-! ### The log (R325, R326) -/

/-- PL_POP (R325): a read pops the oldest entry and captures its address and time. -/
def execPlPop (fn : Nat) (s : State) : Outcome :=
  mmioRead fn 0x310 s fun s =>
    match s.mem.protLog with
    | [] => .next { s with readData := 0 }
    | e :: es =>
      let w := e.fn + 16 * e.dom + 256 * e.cause + 4096 * e.agent + 65536 * e.core + 2 ^ 31
      let s1 := { s with readData := w, mem := { s.mem with protLog := es } }
      .next (((s1.setPair PL_ADDR_LO PL_ADDR_HI e.pa).set PL_TIME_NS e.time.ns).set PL_TIME_SEC e.time.sec)

end Sys2Proof.Machine
end

