-- ==== Sys2Proof/Machine/Rings.lean ====
section
/-!
DEFINITION. The host interface (chapter 14): host windows, address translation, completions of host reads, the host rings of Reed chains, event routing and
MSI-X, link errors, the abort log, the link's training.
-/

namespace Sys2Proof.Machine

/-! ### Host windows and translation (R427 to R430) -/

/-- R428. The range of window entry `e` of a function meets another valid entry, or passes the space. -/
def State.windowBad (s : State) (fn e len : Nat) : Bool :=
  let off := s.get (HW_OFF fn e)
  decide (2 ^ 28 < off + len) || (List.range 16).any (fun g =>
    let o := s.get (HW_OFF fn g)
    let n := s.get (HW_ATTR_LEN fn g)
    g != e && s.on (HW_ATTR_VALID fn g) && decide (0 < len) && decide (0 < n) && decide (off < o + n) && decide (o < off + len))

/-- HW_ATTR_WRITE (R428): function `fn` writes LEN, RO and VALID of its window entry `e`. -/
def execHwAttrWrite (fn e len : Nat) (ro valid : Bool) (s : State) : Outcome :=
  mmio fn 0x500 s fun s =>
    let len := len % 2 ^ 24
    let refuse := s.captureFn fn 0x500 .badParam (0x20C + 16 * e) (len + 2 ^ 30 * b2n ro + 2 ^ 31 * b2n valid)
    let stored := ((s.set (HW_ATTR_LEN fn e) len).flag (HW_ATTR_RO fn e) ro).flag (HW_ATTR_VALID fn e) valid
    if valid && (s.on (HW_ATTR_VALID fn e) || s.windowBad fn e len) then .next refuse else .next stored

/-- An invalidation in progress covers a page of a function. -/
def State.underInvalidation (s : State) (fn page : Nat) : Bool :=
  s.host.invalidating.any (fun i => i.2.1 == fn && decide (i.2.2.1 ≤ page) && decide (page < i.2.2.1 + i.2.2.2))

/-- ATS_TRANSLATION (R429): the completion of a translation request is cached with what it grants. The cache holds 2,048; which entry a further one displaces is open
(assumption 54). -/
def execAtsTranslation (fn p : Nat) (read write : Bool) (s : State) : Outcome :=
  if !s.pageOn 0x500 || s.underInvalidation fn p then .next s
  else
    let rest := s.host.translations.filter (fun t => !(t.fn == fn && t.page == p))
    let (a, s1) := s.drawFree
    let kept := if rest.length < 2048 then rest else rest.eraseIdx (a % 2048)
    .next { s1 with host := { s1.host with translations := kept ++ [⟨fn, p, read, write⟩] } }

/-- ATS_INVALIDATE (R430): no matching entry is used again; `n` pages from page `p` on. -/
def execAtsInvalidate (tag fn p n : Nat) (s : State) : Outcome :=
  if !s.pageOn 0x500 then .next s
  else
    .next { s with host := { s.host with
      translations := s.host.translations.filter (fun t => !(t.fn == fn && decide (p ≤ t.page) && decide (t.page < p + n)))
      invalidating := s.host.invalidating ++ [(tag, fn, p, n)] } }

/-- ATS_INV_COMPLETE (R430): the reads of the pages have completed, and the completion is sent. Writes are sent when they are issued. -/
def execAtsInvComplete (tag : Nat) (s : State) : Outcome :=
  match s.host.invalidating.find? (fun i => i.1 == tag) with
  | none => .next s
  | some (t, fn, p, n) =>
    if s.host.reads.any (fun r => r.fn == fn && decide (r.iova / 4096 < p + n) && decide (p * 4096 < r.iova + r.len)) then .next s
    else .next ({ s with host := { s.host with invalidating := s.host.invalidating.erase (t, fn, p, n), out := s.host.out ++ [HostOut.invalidated t] } }.add HI_ATC_INV_CNT 1)

/-! ### Host rings of Reed chains (R431 to R437, R451) -/

/-- The HOSTIF page of a chain's ring. -/
def ringPage (c : Nat) : Nat := 0x500 + chainPage c

/-- A chain's ring beside its registers. -/
def State.ring (s : State) (c : Nat) : Ring := Map.get s.host.rings {} c

/-- A chain's ring takes contents. -/
def State.setRing (s : State) (c : Nat) (r : Ring) : State := { s with host := { s.host with rings := Map.put {} s.host.rings c r } }

/-- R451. The device's own index of a ring: HR_CI inbound, HR_PI outbound. -/
def State.ringIndex (s : State) (c : Nat) : Nat := if s.on (HR_STAT_DIR c) then s.get (HR_PI c) else s.get (HR_CI c)

/-- R451. A ring page captures a status: the chain and the ring index in ERR_INFO0. -/
def State.ringCapture (s : State) (c : Nat) (st : Status) : State := s.capture (ringPage c) st (c + 256 * (s.ringIndex c % 256)) 0

/-- R451. An edge of a ring: HR_DONE (0) or HR_ERR (1), with its bit of HR_ATTN. -/
def State.ringEdge (s : State) (c bit : Nat) : State :=
  let f := HR_ATTN (chainPage c)
  (s.set f (s.get f ||| 2 ^ (c % 32))).raise (ringPage c) bit

/-- R436, R451. A write of a ring's control register is refused with BAD_PARAM. -/
def State.ringRefused (s : State) (c : Nat) : State := s.ringCapture c .badParam

/-- R434, R435. The index writeback of a ring. -/
def State.ringWriteback (s : State) (c v : Nat) : State :=
  (s.hostWrite (s.chainHolder c) (if s.on (HR_STAT_DIR c) then 3 else 2) (s.pair (HR_WB_LO c) (HR_WB_HI c)) (leBytes 4 (v % 2 ^ 32))).1

/-- R451. HR_DONE where IRQ_EACH asks for it. -/
def State.ringDone (s : State) (c : Nat) : State := if s.on (HR_CTRL_IRQ_EACH c) then s.ringEdge c 0 else s

/-- R434. The entry in hand of an inbound ring is consumed: HR_CI advances and is written back. -/
def State.ringConsume (s : State) (c : Nat) : State :=
  let s1 := (s.setRing c { s.ring c with cell := none, busy := false, tagged := false }).add (HR_CI c) 1
  (s1.ringWriteback c (s1.get (HR_CI c))).ringDone c

/-- R434, R435. A ring stops with a status (assumption 55 where the rules name none). -/
def State.ringStop (s : State) (c : Nat) (st : Status) : State :=
  ((s.setRing c { s.ring c with busy := false }).flag (HR_STAT_STOPPED c) true).set (HR_STAT_LAST c) st.code

/-- R434. An inbound ring stops on its entry, whose item, if any, is freed. -/
def State.ringFails (s : State) (c : Nat) (st : Status) : State :=
  let s1 := match (s.ring c).cell with
    | some k =>
      let t := s.setRing c { s.ring c with cell := none }
      if t.building k (s.ring c).id then t.watched c (·.freeCell k) else t
    | none => s
  ((s1.ringStop c st).ringCapture c st).ringEdge c 1

/-- R431. The buffer position and the entry of index `i` of a ring with SLOT `slot`. -/
def State.ringPayAt (s : State) (c slot i : Nat) : Nat := s.pair (HR_BUF_LO c) (HR_BUF_HI c) + i % max 1 (s.get (HR_SIZE c)) * (slot * 4096)

/-- R431. The IOVA of the entry of index `i` of a ring. -/
def State.ringEntryAt (s : State) (c i : Nat) : Nat := s.pair (HR_BASE_LO c) (HR_BASE_HI c) + 128 * (i % max 1 (s.get (HR_SIZE c)))

/-- R430, R452. The host accesses for the entry of index `i` of a ring, or those to its writeback, are withheld. -/
def State.ringHostHeld (s : State) (c slot i : Nat) : Bool :=
  let fn := s.chainHolder c
  s.hostHeld fn (s.ringEntryAt c i) 128 || s.hostHeld fn (s.ringPayAt c slot i) (slot * 4096) || s.hostHeld fn (s.pair (HR_WB_LO c) (HR_WB_HI c)) 4

/-- R452. A ring's processing stands: a throttle stall, its page quiesced, no power. -/
def State.ringHalted (s : State) (c : Nat) : Bool := s.stall || s.quiet (ringPage c) || !s.pageOn (ringPage c) || !s.pageOn 0x220

/-- The bytes of a payload as lines: whole ones, padded with zeros. -/
def padLines (b : List Byte) : List Byte := b ++ List.replicate ((128 - b.length % 128) % 128) 0

/-- R434, step 5. The payload of the item in progress has come: it is written and the item commits. A cell that a FLUSH has freed gives no item. -/
def State.ringCommit (s : State) (c : Nat) (b : List Byte) : State :=
  match (s.ring c).cell with
  | none => s.ringConsume c
  | some k =>
    match Map.find s.work.cells k with
    | none => s.ringConsume c
    | some x =>
      if x.id ≠ (s.ring c).id ∨ x.state ≠ .building then s.ringConsume c
      else match s.hbmWrite (.home 2) (s.chainHolder c) 0 0 (s.payAddr x 0) (padLines b) with
        | (t, .ok) => (t.watched c (·.commitCell k { x with top := b.length } none)).ringConsume c
        | (t, st) => t.ringFails c st

/-- R183, R185. The ring of a chain finds a cell for its entry: as a new request, or once it is the first of those that wait. -/
def State.ringTurn (s : State) (c : Nat) : Bool :=
  match (s.chain c).waiters with
  | (n, .ring) :: _ => s.cellTurn c n
  | [] => s.cellTurn c s.work.nextWait
  | _ => false

/-- R434. What an inbound entry asks for, once it has been read. -/
def State.ringEntry (s : State) (c : Nat) (d : ChainDesc) (b : List Byte) : State :=
  let len := hdr b 0 4 % 2 ^ 28
  let tag := hdr b 64 4
  let once := bitOf (hdr b 68 1) 0
  let r := s.ring c
  if d.slot * 4096 < len then ((((s.add (HR_ERR_CNT c) 1).set (HR_STAT_LAST c) Status.badDesc.code).ringCapture c .badDesc).ringEdge c 1).ringConsume c
  else if once && !r.tagged && r.tags.contains tag then (s.add (HR_DUP_CNT c) 1).ringConsume c
  else if !s.ringTurn c then
    if (s.chain c).waiters.any (·.2 == .ring) then s else s.awaitCell c .ring
  else
    let fn := s.chainHolder c
    let tags := if once && !r.tagged then (tag :: r.tags).take 256 else r.tags
    let s1 := s.watched c fun s =>
      let (k, buf, t) := s.pickCell c d.length
      ((t.leaveCell c (· == .ring)).setCell k
        { id := s.work.nextCell, chain := c, buf := buf, state := .building, header := (b.take 4) ++ (b.drop 4).take 4 ++ List.replicate 20 0 ++ (b.drop 28).take 36 }).setRing c
          { r with tags := tags, cell := some k, id := s.work.nextCell, busy := true, tagged := r.tagged || once }
    let iova := s.ringPayAt c d.slot (s.get (HR_CI c))
    if len = 0 then s1.ringCommit c []
    else if s.host.waitLinkReset then (s1.hostAbort fn 2 4 iova).ringFails c .aborted
    else if s.hostDenied fn iova len false then (s1.hostAbort fn 2 1 iova).ringFails c .aborted
    else s1.hostReadStart fn 2 iova len (.ringPayload c)

/-- HR_INBOUND_ENTRY (R169, R434): an inbound ring processes its next entry; `entry` is what its read of the entry gives. A ring whose chain is disabled waits. -/
def execHrInboundEntry (c : Nat) (entry : ReadOutcome) (s : State) : Outcome :=
  match (s.chain c).desc with
  | none => .next s
  | some d =>
    if s.ringHalted c || s.ringHostHeld c d.slot (s.get (HR_CI c)) || s.chainQuiet c || (s.chain c).busy.isSome || !s.on (CH_ENABLE c) || !s.on (HR_CTRL_ENABLE c) || s.on (HR_STAT_DIR c) || s.on (HR_STAT_STOPPED c) || (s.ring c).busy
        || s.get (HR_CI c) == s.get (HR_PI c) || !s.readRoom (s.chainHolder c) then .next s
    else match s.hostFetch (s.chainHolder c) 2 (s.ringEntryAt c (s.get (HR_CI c))) 128 entry with
      | (t, .ok, b) => .next (t.ringEntry c d b)
      | (t, st, _) => .next (t.ringFails c st)

/-- R432. An outbound entry: the item's header, the take sequence number and the time of the delivery. -/
def State.ringRecord (s : State) (x : Cell) : List Byte :=
  takePad 64 x.header ++ List.replicate 8 0 ++ leBytes 4 x.take ++ List.replicate 4 0 ++ s.now.bytes ++ List.replicate 40 0

/-- R435. An item has been delivered: HR_PI + 1 goes to HR_WB, HR_PI advances, the item stays IN_USE until HR_CI passes its position. -/
def State.ringDelivered (s : State) (c : Nat) : State :=
  let r := s.ring c
  let p := s.get (HR_PI c)
  let s1 := s.setRing c { r with cell := none, busy := false, delivered := r.delivered ++ (match r.cell with | some k => [(p, k)] | none => []) }
  ((s1.ringWriteback c (p + 1)).set (HR_PI c) ((p + 1) % 2 ^ 32)).ringDone c

/-- R435. The item in progress of an outbound ring is written: payload, entry, and a flush where the ring asks for one. -/
def State.ringDeliver (s : State) (c k : Nat) (x : Cell) (d : ChainDesc) : State :=
  let fn := s.chainHolder c
  let len := hdr x.header 0 4 % 2 ^ 28
  let entry := s.ringEntryAt c (s.get (HR_PI c))
  let s0 := s.setRing c { s.ring c with cell := some k }
  match s0.hbmRead (.home 2) fn 0 0 (s.payAddr x 0) len with
  | (t, .ok, b) =>
    match t.hostWrite fn 3 (s.ringPayAt c d.slot (s.get (HR_PI c))) b with
    | (t1, .ok) =>
      (match t1.hostWrite fn 3 entry (t1.ringRecord x) with
       | (t2, .ok) =>
         if !s.on (HR_CTRL_FLUSH c) then t2.ringDelivered c
         else if t2.hostDenied fn (entry + 124) 4 false then (t2.flushFailed fn (entry + 124)).ringStop c .aborted
         else (t2.setRing c { t2.ring c with busy := true }).hostReadStart fn 6 (entry + 124) 4 (.ringFlush c)
       | (t2, st) => t2.ringStop c st)
    | (t1, st) => t1.ringStop c st
  | (t, st, _) => t.ringStop c st

/-- R301. The payload read of the item that an outbound ring is to write, the one in hand or the chain's next, waits for the end of a quiesce. -/
def State.deliverHeld (s : State) (c : Nat) : Bool :=
  match (match (s.ring c).cell with | some k => Map.find s.work.cells k | none => (s.headItem c).map Prod.snd) with
  | some x => s.payHeld c (hdr x.header 0 4 % 2 ^ 28)
  | none => false

/-- HR_OUTBOUND_DELIVER (R435): an outbound ring takes an item, or retries the one it stopped on, and writes it. -/
def execHrOutboundDeliver (c : Nat) (s : State) : Outcome :=
  match (s.chain c).desc with
  | none => .next s
  | some d =>
    if s.ringHalted c || s.ringHostHeld c d.slot (s.get (HR_PI c)) || !s.on (HR_CTRL_ENABLE c) || !s.on (HR_STAT_DIR c) || s.on (HR_STAT_STOPPED c) || (s.ring c).busy || !s.readRoom (s.chainHolder c) || s.deliverHeld c
        || decide (s.get (HR_SIZE c) ≤ (s.get (HR_PI c) + 2 ^ 32 - s.get (HR_CI c)) % 2 ^ 32) then .next s
    else match (s.ring c).cell with
      | some k =>
        (match Map.find s.work.cells k with
         | some x => .next (s.ringDeliver c k x d)
         | none => .next (s.setRing c { s.ring c with cell := none }))
      | none =>
        if !s.takeOpen c 2 then .next s
        else match s.headItem c with
          | none => .next s
          | some (k, x) =>
            let t := s.takeCell k x
            (match Map.find t.work.cells k with
             | some y => .next (t.ringDeliver c k y d)
             | none => .next t)

/-! ### Doorbells and ring control (R433, R436, R438) -/

/-- R438. A rejected doorbell of a ring. -/
def State.ringDbErr (s : State) (c : Nat) : State := (s.ringCapture c .badParam).raise (ringPage c) 2

/-- HR_PI_DOORBELL (R438): entries are posted to an inbound ring; recorded while the page is quiesced (R452). -/
def execHrPiDoorbell (fn c p : Nat) (s : State) : Outcome :=
  mmio fn (ringPage c) s fun s =>
    if s.quiet (ringPage c) || s.behind (ringPage c) then s.hold (ringPage c) (.hrPiDoorbell fn c p)
    else if !s.on (HR_CTRL_ENABLE c) || s.on (HR_STAT_DIR c) then .next s
    else match bell (p % 2 ^ 32) (s.get (HR_PI c)) (s.get (HR_CI c)) (s.get (HR_SIZE c)) with
      | .repeated => .next s
      | .accepted => .next (s.set (HR_PI c) p)
      | .rejected => .next (s.ringDbErr c)

/-- R173, R435. The items at positions that HR_CI, now `p`, has passed finish. -/
def State.ringPassed (s : State) (c p : Nat) : State :=
  let passed (e : Nat × Nat) : Bool := e.1 != p && atOrAfter p e.1
  let r := s.ring c
  (r.delivered.filter passed).foldl (fun t e => t.finishCell e.2) (s.setRing c { r with delivered := r.delivered.filter (fun e => !passed e) })

/-- HR_CI_DOORBELL (R438): outbound entries are consumed. The chain's finishes wait out a throttle stall. -/
def execHrCiDoorbell (fn c p : Nat) (s : State) : Outcome :=
  mmio fn (ringPage c) s fun s =>
    if s.stall || s.quiet (ringPage c) || s.behind (ringPage c) then s.hold (ringPage c) (.hrCiDoorbell fn c p)
    else if !s.on (HR_CTRL_ENABLE c) || !s.on (HR_STAT_DIR c) then .next s
    else match bellConsume (p % 2 ^ 32) (s.get (HR_CI c)) (s.get (HR_PI c)) with
      | .repeated => .next s
      | .accepted => .next ((s.set (HR_CI c) p).ringPassed c (p % 2 ^ 32))
      | .rejected => .next (s.ringDbErr c)

/-- R433. What refuses an ENABLE. -/
def State.ringEnableBad (s : State) (c : Nat) : Bool :=
  (match (s.chain c).desc with | none => true | some d => (d.src == 2) == (d.sink == 2)) || s.get (HR_SIZE c) == 0 || s.on (HR_STAT_STOPPED c)

/-- HR_ENABLE (R433, R436): a write of HR_CTRL.ENABLE. -/
def execHrEnable (fn c : Nat) (en : Bool) (s : State) : Outcome :=
  mmio fn (ringPage c) s fun s =>
    if en == s.on (HR_CTRL_ENABLE c) then .next s
    else if en then
      if s.ringEnableBad c then .next (s.ringRefused c)
      else if (s.ring c).busy then s.hold (ringPage c) (.hrEnable fn c en)
      else
        let out := match (s.chain c).desc with | some d => d.sink == 2 | none => false
        .next (((((s.flag (HR_CTRL_ENABLE c) true).flag (HR_STAT_DIR c) out).set (HR_PI c) 0).set (HR_CI c) 0).setRing c { s.ring c with tags := [], tagged := false, delivered := [] })
    else if s.on (HR_STAT_DIR c) && s.get (HR_PI c) != s.get (HR_CI c) then .next (s.ringRefused c)
    else .next (s.flag (HR_CTRL_ENABLE c) false)

/-- HR_RESTART (R436): STOPPED clears; the ring's next event retries the entry. -/
def execHrRestart (fn c : Nat) (s : State) : Outcome :=
  mmio fn (ringPage c) s fun s => .next (s.flag (HR_STAT_STOPPED c) false)

/-- HR_SKIP (R436): the stopped entry of an inbound ring is consumed with no item. -/
def execHrSkip (fn c : Nat) (s : State) : Outcome :=
  mmio fn (ringPage c) s fun s =>
    if s.on (HR_STAT_DIR c) then .next (s.ringRefused c)
    else if s.stall || s.quiet (ringPage c) || s.hostHeld (s.chainHolder c) (s.pair (HR_WB_LO c) (HR_WB_HI c)) 4 || s.behind (ringPage c) then s.hold (ringPage c) (.hrSkip fn c)
    else if !s.on (HR_STAT_STOPPED c) then .next s
    else .next ((s.flag (HR_STAT_STOPPED c) false).ringConsume c)

/-! ### Completions of host reads (R443, R446, R448) -/

/-- R443, R446. What a read was for goes on with its data, or without. -/
def State.readUsed (s : State) (r : HostRead) (data : Option (List Byte)) : State :=
  match r.use with
  | .stepLoad core slot q => (s.hostRow core slot q data).pump core
  | .stepFlush core slot q => (s.hostFlushed core slot q data.isSome).pump core
  | .ringPayload c => (match data with | some b => s.ringCommit c b | none => s.ringFails c .aborted)
  | .ringFlush c => (match data with | some _ => s.ringDelivered c | none => s.ringStop c .aborted)
  | .descFlush id =>
    match s.desc id with
    | none => s
    | some d =>
      match d.state, data with
      | .flushing st n dt, some _ => s.finishDesc d st n dt
      | .flushing .., none => s.finishDesc d .aborted 0 0
      | _, _ => s

/-- A use of a host read is a completion flush. -/
def ReadUse.isFlush : ReadUse → Bool
  | .stepFlush .. => true
  | .ringFlush _ => true
  | .descFlush _ => true
  | _ => false

/-- R446, R447. The report of a failed read at the device, other than its log entry. -/
def State.readAer (s : State) : ReadOutcome → State
  | .data _ => s
  | .timeout => s.aer false
  | _ => s.aer true

/-- R443, R446. A host read ends: its requester goes on, a failure is reported and logged. -/
def State.readEnds (s : State) (r : HostRead) (o : ReadOutcome) : State :=
  let s1 := { s with host := { s.host with reads := s.host.reads.filter (fun x => x.id != r.id) } }
  match o with
  | .data b => s1.readUsed r (some (takePad r.len b))
  | _ => if r.use.isFlush then ((s1.readAer o).flushFailed r.fn r.iova).readUsed r none else (s1.readFailed r.fn r.agent r.iova o).readUsed r none

/-- R301. The payload write that a host read was made for waits for the end of a quiesce. -/
def State.usedHeld (s : State) (r : HostRead) : Bool := match r.use with | .ringPayload c => s.payHeld c r.len | _ => false

/-- A completion of a host read; what it was for waits out a throttle stall, and a quiesce of the HBM that it is to be written to. -/
def readCompletion (id : Nat) (o : ReadOutcome) (c : Instr) (s : State) : Outcome :=
  match s.host.reads.find? (fun r => r.id == id) with
  | none => .next s
  | some r => if s.stall || s.behind 0x500 then s.hold 0x500 c else if s.usedHeld r then s.hold 0x300 c else .next (s.readEnds r o)

/-- HOST_READ_COMPLETION (R446). -/
def execHostReadCompletion (id : Nat) (o : ReadOutcome) (s : State) : Outcome := readCompletion id o (.hostReadCompletion id o) s

/-- COMPLETION_TIMEOUT (R446). -/
def execCompletionTimeout (id : Nat) (s : State) : Outcome := readCompletion id .timeout (.completionTimeout id) s

/-! ### Event routing and MSI-X (R439 to R442) -/

/-- R439. The vectors of a function. -/
def vectorsOf (fn : Nat) : Nat := if fn = 0 then 2048 else 256

/-- IRQ_ROUTE_WRITE (R439): the page that IRQ_SEL names is routed to a vector. -/
def execIrqRouteWrite (fn v : Nat) (en : Bool) (s : State) : Outcome :=
  mmio fn 0x500 s fun s =>
    let page := s.get (IRQ_SEL fn)
    if vectorsOf fn ≤ v ∨ !s.sees fn page then .next (s.captureFn fn 0x500 .badParam 0x304 (v % 2048 + 2 ^ 31 * b2n en))
    else .next { s with host := { s.host with routes := Map.put {} s.host.routes (fn * 16384 + page) { vector := v, en := en } } }

/-- R440, R442. The messages that a function owed are sent where nothing blocks them any longer; one whose summary has been cleared meanwhile is not. -/
def State.sendOwed (s : State) (fn : Nat) : State :=
  if s.host.d3hot.contains fn || !s.host.msixEnabled.contains fn then s
  else
    let mine := s.host.owed.filter (fun k => k / 16384 == fn)
    let s1 := { s with host := { s.host with owed := s.host.owed.filter (fun k => k / 16384 != fn) } }
    let s2 := mine.foldl (fun t k => if (t.page (pageKey fn (k % 16384))).summary then t.sendMsg fn (k % 16384) else t) s1
    let ready := s2.host.vecPending.filter (fun k => k / 2048 == fn && s2.host.unmasked.contains k)
    { s2 with host := { s2.host with vecPending := s2.host.vecPending.filter (fun k => !ready.contains k), out := s2.host.out ++ ready.map (fun k => HostOut.msg fn (k % 2048)) } }

/-- MSIX_UNMASK (R440, R442): a vector is unmasked, or the function leaves the blocking state (MSI-X Enable 0 or Function Mask 1). -/
def execMsixUnmask (fn : Nat) (t : UnmaskTarget) (s : State) : Outcome :=
  if !s.pageOn 0x500 then .next s
  else
    match t with
    | .vector v =>
      if vectorsOf fn ≤ v ∨ s.host.unmasked.contains (fn * 2048 + v) then .next s
      else .next ({ s with host := { s.host with unmasked := s.host.unmasked ++ [fn * 2048 + v] } }.sendOwed fn)
    | .blockingState =>
      if s.host.msixEnabled.contains fn then .next s else .next ({ s with host := { s.host with msixEnabled := s.host.msixEnabled ++ [fn] } }.sendOwed fn)

/-- D_STATE_CHANGE (R442, R535): a function enters or leaves D3hot; only its messages stop. -/
def execDStateChange (fn : Nat) (enter : Bool) (s : State) : Outcome :=
  let rest := s.host.d3hot.filter (· != fn)
  if enter then .next { s with host := { s.host with d3hot := rest ++ [fn] } }
  else .next ({ s with host := { s.host with d3hot := rest } }.sendOwed fn)

/-! ### Link errors, the abort log, the link (R423, R447 to R449) -/

/-- R448. Every host request in flight completes ABORTED, logged with cause 4 (assumption 14). -/
def State.abortAllReads (s : State) : State :=
  s.host.reads.foldl (fun t r =>
    let t1 := { t with host := { t.host with reads := t.host.reads.filter (fun x => x.id != r.id) } }
    (t1.hostAbort r.fn r.agent 4 r.iova).readUsed r none) s

/-- PCIE_LINK_ERROR (R447, R448). -/
def execPcieLinkError (e : LinkError) (s : State) : Outcome :=
  if !s.pageOn 0x500 then .next s
  else match e with
    | .correctable => .next (s.aer true)
    | .nonFatal => .next (s.aer false)
    | .fatal =>
      let s1 := s.aer false
      .next ({ s1 with host := { s1.host with waitLinkReset := true } }.abortAllReads)

/-- AB_POP (R449): a read of HI_AB_POP pops one entry of the abort log and captures its words. In a VF's view the register reads 0. -/
def execAbPop (fn : Nat) (s : State) : Outcome :=
  mmioRead fn 0x500 s fun s =>
    if fn ≠ 0 then .next { s with readData := 0 }
    else match s.host.abortLog with
      | [] => .next { s with readData := 0 }
      | e :: es =>
        let v := e.fn + 16 * e.agent + 256 * e.cause + 4096 * e.status + 2 ^ 31
        let s1 := { s with readData := v, host := { s.host with abortLog := es } }
        .next (((s1.setPair HI_AB_IOVA_LO HI_AB_IOVA_HI e.iova).set HI_AB_TIME_NS e.time.ns).set HI_AB_TIME_SEC e.time.sec)

/-- R421. A width the link trains at. -/
def widthOk (w : Nat) : Bool := w == 1 || w == 2 || w == 4 || w == 8 || w == 16

/-- R421, R423, R449. The link stands as it has trained: at most MAX_SPEED; speed 0 is no link. -/
def State.linkTrained (s : State) (speed width : Nat) : State :=
  let up := decide (4 ≤ speed) && widthOk width
  let v := if up then min (min speed 6) (s.get HI_TARGET_MAX_SPEED) else 0
  let s1 := (((s.set HI_LINK_SPEED v).set HI_LINK_WIDTH (if up then width else 0)).flag HI_LINK_FLIT (v == 6)).flag HI_LINK_DL_ACTIVE up
  { s1 with host := { s1.host with linkUp := up } }

/-- RETRAIN (R423, R449): HI_TARGET.RETRAIN; `speed` and `width` are the best that the partner offers. -/
def execRetrain (fn speed width : Nat) (s : State) : Outcome :=
  mmio fn 0x500 s fun s => if fn ≠ 0 then .next s else .next (s.linkTrained speed width)

end Sys2Proof.Machine
end

