-- ==== Sys2Proof/Machine/Resets.lean ====
section
/-!
DEFINITION. The resets of pages and cores (chapters 15, 17 and 18): registers return to their reset values, contexts reset, a core's work ends, CORE_RST.
-/

namespace Sys2Proof.Machine

/-! ### Pages -/

/-- The registers, common layouts and captures of pages, every function's copies included, return to their values after reset. -/
def State.clearPages (s : State) (p : Nat → Bool) : State :=
  { s with regs := Map.drop (fun k => p (k / 131072 % 32768)) s.regs, pages := Map.drop (fun k => p (k % 65536)) s.pages,
           captures := Map.drop (fun k => p (k / 4096 % 32768)) s.captures }

/-- Page `p` is one of the 16 pages of logical core `n` (R156). -/
def corePage (n p : Nat) : Bool := p / 16 == 16 + n

/-- R549, R566, R575. A core's columns and arrays take the result of its slot's last self-test; a slot that none has tested shows no failed column (assumption 3). -/
def State.applyTest (s : State) (n : Nat) : State :=
  s.testColumns n (match Map.find s.power.tests (s.physSlot n) with | some t => t.columns | none => [])

/-- The fields of a core's pages that a reset of them keeps: CORE_EPOCH, which has no reset value, and CTX_CFG where asked. -/
def keptFields (n : Nat) (cfg : Bool) : List Field :=
  CORE_EPOCH n :: (if cfg then (List.range 16).flatMap (fun c => [CTX_CFG_VERIFY n c, CTX_CFG_IMG_KEY n c]) else [])

/-- R549, R575. The 16 pages of a core are reset: all but QUIESCE_REQ, and, where `cfg` asks, BLK_LOCK and CTX_CFG; FAULT clears (R564). -/
def State.resetCorePages (s : State) (n : Nat) (cfg : Bool) : State :=
  let t := s.clearPages (corePage n)
  let t1 := (keptFields n cfg).foldl (fun t f => t.set f (s.get f)) t
  let t2 := (List.range 16).foldl (fun t q =>
    let o := s.page (0x100 + 16 * n + q)
    t.setPage (0x100 + 16 * n + q) { lock := cfg && o.lock, quiesceReq := o.quiesceReq, quiesced := o.quiesced }) t1
  let m := t2.get FT_CORE_FAULT
  (t2.set FT_CORE_FAULT (if bitOf m n then m - 2 ^ n else m)).applyTest n

/-! ### A core's work -/

/-- Public-key operations are abandoned (R467, R529): those that satisfy `p`, and the waiting outcomes of the uses that satisfy `u`. -/
def State.dropPke (s : State) (p : PkeJob → Bool) (u : PkeUse → Bool) : State :=
  { s with sluice := { s.sluice with
      short := s.sluice.short.filter (fun j => !p j), long := s.sluice.long.filter (fun j => !p j),
      units := s.sluice.units.filter (fun e => !p e.2.job), parked := s.sluice.parked.filter (fun e => !p e.2.job),
      results := s.sluice.results.filter (fun e => !u e.1) } }

/-- A public-key use of a core: a SEAL step or an image check. -/
def PkeUse.ofCore (n : Nat) : PkeUse → Bool
  | .sealStep c _ _ _ => c == n
  | .image c _ => c == n
  | _ => false

/-- What a core's tables of work and its line cache hold goes. -/
def State.coreDrop (s : State) (n : Nat) : State :=
  { s with
    work := { s.work with
      slots := Map.drop (fun k => k / 4 == n) s.work.slots, gets := s.work.gets.filter (fun g => g.1 != n),
      images := Map.drop (fun k => k / 16 == n) s.work.images, loading := Map.drop (fun k => k / 16 == n) s.work.loading,
      saves := Map.drop (fun k => k / 128 == n) s.work.saves, resumes := s.work.resumes.filter (fun x => x.1 != n),
      testing := s.work.testing.filter (· != n), lastSlot := Map.erase s.work.lastSlot n,
      stepBuf := Map.erase s.work.stepBuf n },
    mem := { s.mem with caches := Map.erase s.mem.caches n, lcCmds := Map.erase s.mem.lcCmds n } }

/-- What a core holds beside its registers and stores goes: tasks, gets, resumes, images, loads, save records, waits, its line cache. -/
def State.coreClear (s : State) (n : Nat) : State :=
  (((List.range 4).foldl (fun t i => t.withdrawWait n i) s).dropPke (fun j => j.use.ofCore n) (·.ofCore n)).coreDrop n

/-- R333, R549. Every context of a core selects no weight set. -/
def State.selectNone (s : State) (n : Nat) : State := (s.set (W_CTX_SET n 0) 0xFFFFFFFF).set (W_CTX_SET n 1) 0xFFFFFFFF

/-- The registers of a context that its reset clears. -/
def contextFields (n c : Nat) : List Field :=
  [CTX_CTRL_ENABLE n c, CTX_STAT_LOADED n c, CTX_STAT_LOADING n c, CTX_FLAGS n c, CTX_SALT n c, CTX_SAVE_BASE n c, CTX_SAVE_CNT n c, CTX_SAVE_ACC n c]

/-- The image check of a context of a core. -/
def PkeUse.imageOf (n : Nat) : PkeUse → Bool
  | .image c _ => c == n
  | _ => false

/-- The step images of a core's contexts, and the loads in progress of them, go. -/
def State.dropImages (s : State) (n : Nat) : State :=
  { s with
    work := { s.work with
      images := Map.drop (fun k => k / 16 == n) s.work.images, loading := Map.drop (fun k => k / 16 == n) s.work.loading,
      stepBuf := Map.erase s.work.stepBuf n } }

/-- R458, step 3. The contexts of a core reset, apart from CTX_CFG. -/
def State.contextsReset (s : State) (n : Nat) : State :=
  let t := ((List.range 16).flatMap (contextFields n)).foldl (fun u f => u.set f 0) s
  ((t.dropPke (·.use.imageOf n) (·.imageOf n)).dropImages n).selectNone n

/-- R549, R458. A core's contexts are neither active nor saved, and its core control page shows QUIESCED. -/
def State.coreIdle (s : State) (n : Nat) : Bool :=
  (s.page (0x100 + 16 * n)).quiesced && (List.range 16).all (fun c => s.ctxActive n c == 0 && s.ctxSaved n c == 0)

/-- R549. The core reset. -/
def State.coreReset (s : State) (n : Nat) : State := ((((s.emptyCache n).coreClear n).zeroStores n).resetCorePages n false).selectNone n

/-- CORE_RST (R49, R549): each core whose bit is written is reset, or refused with BAD_PARAM; recorded while the cores are stalled or the page is quiesced. -/
def execCoreRst (fn mask : Nat) (s : State) : Outcome :=
  mmio fn 1 s fun s =>
    if s.stall || s.quiet 1 || s.behind 1 then s.hold 1 (.coreRst fn mask)
    else .next ((coresOf (mask % 65536)).foldl (fun t n => if t.coreOn n && t.coreIdle n then t.coreReset n else t.refuseWrite fn CORE_RST.addr mask) s)

/-- R151, R467. The task in a slot is aborted, and what of it still runs completes at once: the order of the steps in flight is theirs, oldest first. -/
def State.abortNow (s : State) (core slot : Nat) : State :=
  let t := s.abortSlot core slot
  let u := match t.running core slot with
    | some r => (inOrder r.window).foldl (fun (u : State) (e : Entry) => u.tryComplete core slot e.seq) t
    | none => t
  match u.running core slot with
  | some r => u.taskEnds core slot r .aborted none
  | none => u

/-- Every save record of a core is discarded; its tasks complete ABORTED. -/
def State.discardSaves (s : State) (n : Nat) : State :=
  (s.work.saves.filter (fun e => e.1 / 128 == n)).foldl (fun t e => t.discardSave n e.1 e.2)
    { s with work := { s.work with resumes := s.work.resumes.filter (fun x => x.1 != n) } }

end Sys2Proof.Machine
end

