-- ==== Sys2Proof/Machine/Quiesce.lean ====
section
/-!
DEFINITION. The quiesce of pages (R51, R52): a page's ENTRY gate closes and opens, the unit boundary that each chapter gives, QUIESCED.
-/

namespace Sys2Proof.Machine

/-- R621. The position of the QUIESCED event of a page, where it has one. -/
def quiescedBit (page : Nat) : Option Nat :=
  if page = 0 ∨ page = 0x200 ∨ page = 0x320 then some 0
  else if page = 1 ∨ page = 0x310 ∨ page = 0x680 then some 6
  else if page = 3 ∨ page = 4 ∨ page = 0x400 then some 2
  else if 0x100 ≤ page ∧ page < 0x200 then
    let q := page % 16
    if q = 0 then some 0 else if q = 7 then some 5 else if 8 ≤ q ∧ q ≤ 10 then some 2 else none
  else if 0x201 ≤ page ∧ page ≤ 0x208 then some 4
  else if 0x210 ≤ page ∧ page ≤ 0x21F then some 2
  else if page = 0x220 then some 1
  else if page = 0x300 ∨ (0x501 ≤ page ∧ page ≤ 0x508) then some 3
  else if 0x301 ≤ page ∧ page ≤ 0x306 then some 2
  else if 0x307 ≤ page ∧ page ≤ 0x30F then some 1
  else if (0x321 ≤ page ∧ page ≤ 0x328) ∨ page = 0x510 then some 5
  else if 0x401 ≤ page ∧ page ≤ 0x409 then some 6
  else if page = 0x410 ∨ page = 0x700 then some 4
  else if page = 0x500 then some 7
  else if 0x600 ≤ page ∧ page < 0x680 ∧ page % 16 = 0 then some 6
  else none

/-! ### Unit boundaries -/

/-- R112, R145. No step that has started stands on unit `u` of a core. -/
def State.unitEmpty (s : State) (n u : Nat) : Bool :=
  (List.range 4).all (fun i => match s.running n i with | some r => r.window.all (fun e => e.phase == .queued || !e.units.contains u) | none => true)

/-- R145. The boundary of a core's sequencer: no task in a slot, no get outstanding. -/
def State.sequencerEmpty (s : State) (n : Nat) : Bool := (List.range 4).all (fun i => (s.running n i).isNone) && s.work.gets.all (fun g => g.1 != n)

/-- R274, R301. A place of core `m` in a space lies in store `k` (0 weight store, 1 activation store) of core `n`. -/
def inStore (m space addr n k : Nat) : Bool := (m == n && space == k) || (k == 1 && space == 5 && addr / 2 ^ 23 == n)

/-- R301. A step that core `m` has started has accesses to a store of core `n` left: those of a step whose acknowledge is withheld, the writes of one that has run. -/
def Entry.usesStore (e : Entry) (m n k : Nat) : Bool :=
  (e.phase == .blocked && ((stepOperands e.op).zip e.addrs).any (fun x => decide (0 < x.1.len) && inStore m x.1.ref.space x.2 n k))
    || (e.phase == .ran && e.writes.any (fun w => inStore m w.1 w.2.1 n k))

/-- R301. Admitted accesses to a store of core `n` are not complete. -/
def State.storeInUse (s : State) (n k : Nat) : Bool :=
  (List.range 16).any (fun m => (List.range 4).any (fun i => match s.running m i with | some r => r.window.any (fun e => e.usesStore m n k) | none => false))

/-- The boundary of page `q` of a core (R112, R145, R301). -/
def State.coreBoundary (s : State) (n q : Nat) : Bool :=
  if q = 0 then (List.range 10).all (fun i => (s.page (0x101 + 16 * n + i)).quiesced) && s.sequencerEmpty n
  else if q ≤ 6 then s.unitEmpty n (q - 1)
  else if q = 7 then s.sequencerEmpty n
  else if q = 8 ∨ q = 9 then !s.storeInUse n (q - 8)
  else if q = 10 then s.mem.txns.all (fun t => t.core != n) && s.mem.flights.all (fun m => m.core != n) && (s.cache n).evicted.isEmpty
  else true

/-- R301. No admitted HBM transaction satisfies `p` (of its line and function). -/
def State.hbmIdle (s : State) (p : Nat → Nat → Bool) : Bool :=
  s.mem.txns.all (fun t => !t.begun || !p t.line t.fn) && s.mem.flights.all (fun m => !p m.line m.fn)

/-- R507. The boundary of a port: replay buffer empty, nothing being sent, no item IN_USE. -/
def State.portBoundary (s : State) (p : Nat) : Bool :=
  (s.port p).replay.isEmpty && (s.port p).sending.isNone && (s.port p).txWrite.isNone
    && s.work.cells.all (fun e => e.2.state != .inUse || (match (s.chain e.2.chain).desc with | some d => d.sink != 1 || d.sinkPort != p | none => true))

/-- The quiesce unit boundary of a page: what its chapter calls the work in progress has ended. Where a chapter defines none, or the unit is one of the model's single steps,
it holds at once (R614). -/
def State.atBoundary (s : State) (page : Nat) : Bool :=
  if page = 1 then (List.range 8).all (fun d => match s.dom d with | .transit .. => false | _ => true)
  else if page = 3 then !s.fuses.burning
  else if 0x100 ≤ page ∧ page < 0x200 then s.coreBoundary (page / 16 - 16) (page % 16)
  else if page = 0x200 then (List.range 32).all (fun k => !s.headerHeld k)
  else if page = 0x220 then s.work.chains.all (fun e => e.2.busy.isNone)
  else if 0x221 ≤ page ∧ page ≤ 0x228 then s.work.chains.all (fun e => e.2.busy.isNone || 0x220 + chainPage e.1 != page)
  else if page = 0x300 then s.hbmIdle (fun _ _ => true)
  else if 0x301 ≤ page ∧ page ≤ 0x306 then s.hbmIdle (fun l _ => stackOf l == page - 0x301)
  else if 0x307 ≤ page ∧ page ≤ 0x30F then s.hbmIdle (fun _ f => f == page - 0x307) && s.host.reads.all (fun r => r.agent != 4 || r.fn != page - 0x307)
  else if page = 0x310 then s.mem.keys.all (fun e => e.2.busy.isNone)
  else if page = 0x400 then s.sluice.descs.isEmpty && s.seals.isEmpty && s.internals == 0 && s.sluice.short.isEmpty && s.sluice.long.isEmpty && s.sluice.units.isEmpty && s.sluice.parked.isEmpty
  else if 0x401 ≤ page ∧ page ≤ 0x409 then s.sluice.descs.all (fun d => d.fn != page - 0x401)
  else if page = 0x410 then s.sluice.units.isEmpty
  else if page = 0x500 then s.host.reads.isEmpty
  else if 0x501 ≤ page ∧ page ≤ 0x508 then s.host.rings.all (fun e => !e.2.busy || ringPage e.1 != page)
  else if page = 0x510 then (List.range 8).all (fun i => !s.on (TN_STAT_BUSY (i + 1)) && s.get (TN_STAT_STATE (i + 1)) != 2)
  else if 0x511 ≤ page ∧ page ≤ 0x518 then !s.on (TN_STAT_BUSY (page - 0x510)) && s.get (TN_STAT_STATE (page - 0x510)) != 2
  else if 0x600 ≤ page ∧ page < 0x680 then s.portBoundary ((page - 0x600) / 16)
  else if page = 0x680 then !s.link.digesting
  else if page = 0x700 then s.power.ftJob.isNone
  else true

/-! ### Gates (R51, R145, R464) -/

/-- R145, R464. A quiesce of a core preempts its tasks: SEQ_CTRL.QUIESCE_PREEMPT, or PREEMPT of the instance whose quiesce is in force. -/
def State.quiescePreempts (s : State) (n : Nat) : Bool :=
  let f := s.coreHolder n
  let i := Map.get s.tenants {} f
  if f != 0 && decide (2 ≤ i.stage) then i.preempt else s.on (SEQ_CTRL_QUIESCE_PREEMPT n)

/-- The QUIESCE_REQ bit of a page, and with a 0 its QUIESCED, take a value. -/
def State.gate (s : State) (page : Nat) (req : Bool) : State := s.setPage page { s.page page with quiesceReq := req, quiesced := req && (s.page page).quiesced }

/-- R145, R212. A core's sequencer is quiesced: its gets are cancelled, its tasks preempted where that is asked. -/
def State.closeSequencer (s : State) (n : Nat) : State :=
  let t := s.settleSlots n
  if t.quiescePreempts n then (List.range 4).foldl (fun u i => u.preemptSlot n i) t else t

/-- R145, R160. QUIESCE_PREEMPT is written: a quiesce in progress preempts the core's tasks where it now asks for that. -/
def State.quiesceAgain (s : State) (n : Nat) : State := if s.quiet (seqPage n) then s.closeSequencer n else s

/-- R51, R145. A page's ENTRY gate closes; that of the core control page closes those of all the core's pages. -/
def State.closePage (s : State) (page : Nat) : State :=
  if 0x100 ≤ page ∧ page < 0x200 then
    let n := page / 16 - 16
    if page % 16 = 0 then ((List.range 16).foldl (fun t q => t.gate (page + q) true) s).closeSequencer n
    else if page % 16 = 7 then (s.gate page true).closeSequencer n
    else s.gate page true
  else s.gate page true

/-- R51, R230, R356, R507. A page's ENTRY gate opens, and what waited for it goes on. -/
def State.openPage (s : State) (page : Nat) : State :=
  if 0x100 ≤ page ∧ page < 0x200 then
    let t := if page % 16 = 0 then (List.range 16).foldl (fun t q => t.gate (page + q) false) s else s.gate page false
    t.settleSlots (page / 16 - 16)
  else
    let t := s.gate page false
    if page = 0x200 then t.releaseLists
    else if page = 0x320 then (List.range 8).foldl (fun u e => u.armResume e) t
    else if 0x321 ≤ page ∧ page ≤ 0x328 then t.armResume (page - 0x321)
    else if page = 0x680 then t.epochResume
    else t

/-- R50, R52, R192. A throttle stall ends where VR_ALERT_N is high: every gate reopens, and what a reopened ENTRY gate, the start of the ticks or an acknowledgement had let through
moves now. -/
def State.resume (s : State) : State :=
  if s.stall && s.power.vrAlertHigh then
    let t := { s with stall := false }
    (List.range 8).foldl (fun u e => u.armResume e) ((t.chainKeys.foldl (fun u c => u.runFinishes c) t).releaseLists)
  else s

/-- RESUME (R50, R613): on the POWER page, while STALLED shows and VR_ALERT_N is high, every gate reopens. Elsewhere it has no effect. -/
def execResume (fn page : Nat) (s : State) : Outcome :=
  mmio fn page s fun s => .next (if page == 1 && fn == 0 then s.resume else s)

/-- R51. QUIESCED is set, with its event. -/
def State.quiescedNow (s : State) (page : Nat) : State :=
  let t := s.setPage page { s.page page with quiesced := true }
  match quiescedBit page with
  | some b => if (s.page page).quiesced then t else t.raise page b
  | none => t

/-- R579. A write to a page, with FU_UNLOCK and FU_CMD apart, is one of the FUSE page's writes: it uses up the unlock, unless commands of the page wait before it. -/
def State.fuseTouch (s : State) (page : Nat) : State :=
  if page = 3 ∧ !s.behind 3 then { s with fuses := { s.fuses with unlocked := false } } else s

/-- QUIESCE_REQ (R51, R627): the manager writes the bit; a VF's write is ignored. -/
def execQuiesceReq (fn page : Nat) (req : Bool) (s : State) : Outcome :=
  mmio fn page s fun s => if fn ≠ 0 || !implemented page then .next s
    else .next (if req then (s.fuseTouch page).closePage page else (s.fuseTouch page).openPage page)

/-- QUIESCE_DONE (R51, R52): the page has reached its unit boundary. The scheduler's channels write their spill headers (R221). -/
def execQuiesceDone (page : Nat) (s : State) : Outcome :=
  event page s fun s =>
    if implemented page && s.quiet page && !(s.page page).quiesced && s.atBoundary page then .next ((if page = 0x200 then s.spillHeaders else s).quiescedNow page) else .next s

end Sys2Proof.Machine
end

