-- ==== Sys2Proof/Machine/Tenants.lean ====
section
/-!
DEFINITION. Tenants (chapter 15): instances and their states, grants, mailboxes, the instance quiesce, function-level reset, revocation, dirty-page logging.
-/

namespace Sys2Proof.Machine

/-! ### Instances and what they hold (R454 to R457) -/

/-- An instance beside its registers. -/
def State.inst (s : State) (f : Nat) : Inst := Map.get s.tenants {} f

/-- An instance takes contents. -/
def State.setInst (s : State) (f : Nat) (i : Inst) : State := { s with tenants := Map.put {} s.tenants f i }

/-- R454. The state of an instance: 0 ABSENT, 1 READY, 2 QUIESCING, 3 QUIESCED, 4 RESETTING. -/
def State.instState (s : State) (f : Nat) : Nat := s.get (TN_STAT_STATE f)

/-- R458. The logical cores granted to a VF. -/
def State.instCores (s : State) (f : Nat) : List Nat := coresOf (s.get (TG_CORES f))

/-- R459. The page triples granted to a VF. -/
def State.instTriples (s : State) (f : Nat) : List Nat := ((List.range 8).filter (bitOf (s.get (TG_PAGES_QPAGES f)))).map (· + 1)

/-- The chains of a page triple. -/
def tripleChains (j : Nat) : List Nat := (List.range 32).map (fun i => 32 * (j - 1) + i)

/-- The flows of a page triple. -/
def tripleFlows (j : Nat) : List Nat := (List.range 512).map (fun i => 512 * (j - 1) + i)

/-- The weight sets that a function holds. -/
def State.instSets (s : State) (f : Nat) : List Nat := (List.range 8).filter (fun e => s.setHolder e == f)

/-- R464. The pages that a stage of the instance quiesce closes, of the domains that are ON. -/
def State.stagePages (s : State) (f stage : Nat) : List Nat :=
  (if stage = 1 then (s.instTriples f).flatMap (fun j => [0x200 + j, 0x500 + j])
   else if stage = 2 then (s.instCores f).map (fun n => 0x100 + 16 * n)
   else if stage = 3 then (s.instTriples f).map (0x220 + ·) ++ [0x401 + f, 0x307 + f] ++ (s.instSets f).map (0x321 + ·)
   else []).filter s.pageOn

/-- Every gate of a stage closes. -/
def State.closeStage (s : State) (f stage : Nat) : State := (s.stagePages f stage).foldl State.closePage s

/-- Every gate of a stage opens. -/
def State.openStage (s : State) (f stage : Nat) : State := (s.stagePages f stage).foldl State.openPage s

/-! ### Commands of the manager (R477, R478, R480) -/

/-- R460, R478. A command or grant write of an instance is refused; ERR_INFO0 names the VF and, for a grant write, the first refused bit. -/
def State.instRefused (s : State) (f bit : Nat) : State := (s.set (TN_STAT_RESULT f) Status.badParam.code).capture 0x510 .badParam (f + 256 * bit) 0

/-- R480, R630. A command or grant write on TENANT page 0: recorded while the page is quiesced or the chip is stalled. -/
def tenantWrite (fn f : Nat) (c : Instr) (s : State) (body : State → Outcome) : Outcome :=
  mmio fn 0x510 s fun s =>
    if s.quiet 0x510 then (s.set (TN_STAT_RESULT f) Status.quiesced.code).hold 0x510 c
    else if s.stall || s.behind 0x510 then s.hold 0x510 c
    else body s

/-- R478. A TN_CMD: refused while BUSY, in RESETTING, or by its own check. -/
def tnCmd (fn f : Nat) (c : Instr) (s : State) (check : State → Bool) (body : State → State) : Outcome :=
  tenantWrite fn f c s fun s =>
    if s.on (TN_STAT_BUSY f) || s.instState f == 4 || !check s then .next (s.instRefused f 0) else .next (body (s.set (TN_STAT_RESULT f) Status.ok.code))

/-- A command of an instance is in progress until its end is reported. -/
def State.instBusy (s : State) (f op : Nat) : State := (s.setInst f { s.inst f with job := op }).flag (TN_STAT_BUSY f) true

/-! ### Grants (R458 to R460) -/

/-- R458. The condition of a change of holder of a core. -/
def State.coreChangeOk (s : State) (f n : Nat) : Bool :=
  s.coreOn n && s.coreIdle n && (List.range 8).all (fun e => match (s.wset e).cfg with | some c => !bitOf c.cores n | none => true)
    && (bitOf (s.get (TG_CORES f)) n || s.coreHolder n == 0)

/-- R458. A core is emptied for its next holder; back to the PF its pages reset too. -/
def State.coreChanges (s : State) (n : Nat) (back : Bool) : State :=
  let t := ((s.grantFlush n).zeroStores n).contextsReset n
  let u := if back then t.resetCorePages n false else t
  u.openPage (0x100 + 16 * n)

/-- The bits in which two words differ. -/
def changedBits (a b n : Nat) : List Nat := (List.range n).filter (fun i => bitOf a i != bitOf b i)

/-- TG_CORES_WRITE (R458, R460): whole or not at all. -/
def execTgCoresWrite (fn f v : Nat) (s : State) : Outcome :=
  tenantWrite fn f (.tgCoresWrite fn f v) s fun s =>
    let bits := changedBits (s.get (TG_CORES f)) v 16
    match bits.find? (fun n => !s.coreChangeOk f n) with
    | some n => .next (s.instRefused f n)
    | none =>
      let t := (s.set (TG_CORES f) v).set (TN_STAT_RESULT f) Status.ok.code
      .next (bits.foldl (fun t n => t.coreChanges n (bitOf (s.get (TG_CORES f)) n)) t)

/-- R459. The condition of a change of holder of a page triple. -/
def State.tripleChangeOk (s : State) (f j : Nat) : Bool :=
  (tripleChains j).all (fun c => !s.on (CH_ENABLE c) && s.occ c == 0 && (s.chain c).marks.isEmpty && !s.on (BIND_CTL_EN c) && !s.on (HR_CTRL_ENABLE c))
    && (tripleFlows j).all (fun w => s.get (FLOW_STATE w) == 0 && !s.on (FLOW_STALE w) && (s.flow w).queue.isEmpty)
    && (bitOf (s.get (TG_PAGES_QPAGES f)) (j - 1) || s.tripleHolder j == 0)

/-- R459. The chains, flows, bindings and host rings of a triple return to their reset values. -/
def State.tripleReset (s : State) (j : Nat) : State :=
  let mine (k : Nat) : Bool :=
    let a := k / 32
    (a / 4096 == 0x220 + j && decide (0x100 ≤ a % 4096)) || (a / 4096 == 0x200 + j && decide (0x100 ≤ a % 4096)) || (a / 4096 == 0x500 + j)
  { s with
    regs := Map.drop mine s.regs, host := { s.host with rings := Map.drop (fun c => chainPage c == j) s.host.rings },
    work := { s.work with
      chains := Map.drop (fun c => chainPage c == j) s.work.chains, flows := Map.drop (fun w => 1 + w / 512 == j) s.work.flows,
      ready := (s.work.ready.map (fun e => (e.1, e.2.filter (fun x => 1 + x.flow / 512 != j)))).filter (fun e => !e.2.isEmpty),
      attention := Map.erase s.work.attention j } }

/-- TG_PAGES_WRITE (R459, R460): QPAGES in bits 7:0, MEMCTL_VIEW in bit 8, whole or not at all. -/
def execTgPagesWrite (fn f v : Nat) (s : State) : Outcome :=
  tenantWrite fn f (.tgPagesWrite fn f v) s fun s =>
    let bits := changedBits (s.get (TG_PAGES_QPAGES f)) v 8
    match bits.find? (fun i => !s.tripleChangeOk f (i + 1)) with
    | some i => .next (s.instRefused f i)
    | none =>
      let t := ((s.set (TG_PAGES_QPAGES f) v).set (TG_PAGES_MEMCTL_VIEW f) (v / 256)).set (TN_STAT_RESULT f) Status.ok.code
      .next (bits.foldl (fun t i => t.tripleReset (i + 1)) t)

/-! ### Mailboxes (R461, R462) -/

/-- TN_MB_PEND with the bit of a VF set or clear. -/
def State.setPend (s : State) (f : Nat) (b : Bool) : State :=
  let m := s.get TN_MB_PEND
  s.set TN_MB_PEND (if b then m ||| 2 ^ (f - 1) else if bitOf m (f - 1) then m - 2 ^ (f - 1) else m)

/-- MB_OUT_SEND (R461, R462): the tenant sends OUT. -/
def execMbOutSend (fn f : Nat) (s : State) : Outcome :=
  mmio fn (0x510 + f) s fun s =>
    if s.on (MB_OUT_CTRL_BUSY f) then .next (s.refuseWrite fn (MB_OUT_CTRL_SEND f).addr 1)
    else .next ((((s.flag (MB_OUT_CTRL_BUSY f) true).flag (MB_REQ_ACK_PENDING f) true).setPend f true).tenantEdge f 0)

/-- MB_REQ_ACK (R461): the manager has read OUT. -/
def execMbReqAck (fn f : Nat) (s : State) : Outcome :=
  mmio fn 0x510 s fun s =>
    if s.on (MB_REQ_ACK_PENDING f) then
      .next ((((s.flag (MB_REQ_ACK_PENDING f) false).flag (MB_OUT_CTRL_BUSY f) false).setPend f false).raise (0x510 + f) 1)
    else .next s

/-- MB_RSP_SEND (R461, R462): the manager sends IN. -/
def execMbRspSend (fn f : Nat) (s : State) : Outcome :=
  mmio fn 0x510 s fun s =>
    if s.on (MB_RSP_CTRL_BUSY f) then .next (s.refuseWrite fn (MB_RSP_CTRL_SEND f).addr 1)
    else .next (((s.flag (MB_RSP_CTRL_BUSY f) true).flag (MB_IN_CTRL_VALID f) true).raise (0x510 + f) 0)

/-- MB_IN_ACK (R461, R477): the tenant has read IN; TN_ATTN records it. -/
def execMbInAck (fn f : Nat) (s : State) : Outcome :=
  mmio fn (0x510 + f) s fun s =>
    if s.on (MB_IN_CTRL_VALID f) then
      .next (((s.flag (MB_IN_CTRL_VALID f) false).flag (MB_RSP_CTRL_BUSY f) false).set TN_ATTN (s.get TN_ATTN ||| 2 ^ (f - 1)))
    else .next s

/-- R462. Both mailboxes of an instance are cleared. -/
def State.clearMailboxes (s : State) (f : Nat) : State :=
  let t := [MB_OUT_CTRL_BUSY f, MB_REQ_ACK_PENDING f, MB_RSP_CTRL_BUSY f, MB_IN_CTRL_VALID f].foldl (fun t x => t.flag x false) s
  ((List.range 16).foldl (fun t i => (t.set (MB_OUT f i) 0).set (MB_IN f i) 0) t).setPend f false

/-! ### The instance quiesce (R464, R465) -/

/-- TN_QUIESCE (R464, R478): the state becomes QUIESCING and stage 1 closes; in QUIESCING the command changes PREEMPT. -/
def execTnQuiesce (fn f : Nat) (preempt : Bool) (s : State) : Outcome :=
  tnCmd fn f (.tnQuiesce fn f preempt) s (fun s => s.instState f == 1 || s.instState f == 2) fun s =>
    if s.instState f = 1 then ((s.setInst f { stage := 1, preempt := preempt }).set (TN_STAT_STATE f) 2).closeStage f 1
    else
      let t := s.setInst f { s.inst f with preempt := preempt }
      if preempt && (s.inst f).stage == 2 then t.closeStage f 2 else t

/-- TN_QUIESCE_STAGE (R464): the pages of the stage have reached their boundaries; the next stage begins, or the instance is QUIESCED. -/
def execTnQuiesceStage (f : Nat) (s : State) : Outcome :=
  event 0x510 s fun s =>
    let i := s.inst f
    if s.instState f ≠ 2 || !(s.stagePages f i.stage).all (fun p => (s.page p).quiesced) then .next s
    else if i.stage < 3 then .next ((s.setInst f { i with stage := i.stage + 1 }).closeStage f (i.stage + 1))
    else .next ((((s.setInst f { i with stage := 4 }).set (TN_STAT_STATE f) 3).raise (0x510 + f) 2).tenantEdge f 1)

/-- R465. Every gate of an instance opens, in the reverse order of the stages. -/
def State.openGates (s : State) (f : Nat) : State := (((s.openStage f 3).openStage f 2).openStage f 1).setInst f { s.inst f with stage := 0, preempt := false }

/-- TN_UNQUIESCE (R465, R478). -/
def execTnUnquiesce (fn f : Nat) (s : State) : Outcome :=
  tnCmd fn f (.tnUnquiesce fn f) s (fun s => s.instState f == 2 || s.instState f == 3) fun s =>
    ((s.openGates f).set (TN_STAT_STATE f) 1).raise (0x510 + f) 3

/-! ### Function-level reset (R467 to R469) -/

/-- R467, step 2. The tasks of a core abort and its save records are discarded; TN_FLR_TASKS counts them. -/
def State.abortCore (s : State) (f n : Nat) : State :=
  let running := ((List.range 4).filter (fun i => (s.running n i).isSome)).length
  let saved := (s.work.saves.filter (fun e => e.1 / 128 == n)).length
  (((List.range 4).foldl (fun t i => t.abortNow n i) s).discardSaves n).add (TN_FLR_TASKS f) (running + saved)

/-- R470. A host ring holds nothing and is disabled. -/
def State.ringOff (s : State) (c : Nat) : State := (s.flag (HR_CTRL_ENABLE c) false).setRing c {}

/-- R467, step 4. A chain is flushed whatever is in progress on it, and its host ring disabled. -/
def State.flushChain (s : State) (c : Nat) : State :=
  let k := s.chain c
  let s1 := match k.busy with
    | some o => ((s.setChain c { k with busy := none }).flag (CH_CMD_BUSY c) false).chainEffect c o
    | none => s
  let s2 := (s1.runFinishes c).leaveCell c (fun w => match w with | .port _ => false | _ => true)
  (s2.chainEffect c { op := 6, mark := 0 }).ringOff c

/-- R467, step 5. A flow is purged, the task that blocks it with it, and its registers reset. -/
def State.resetFlow (s : State) (w : Nat) : State :=
  let f := s.flow w
  let t := ((s.setFlow w {}).unlist w)
  let u := (f.service.toList ++ f.queue).foldl (fun t x => t.taskDone x.exp x.tidx) t
  ([FLOW_GROUP w, FLOW_ANY w, FLOW_CORE w, FLOW_STATE w, FLOW_STALE w, FLOW_HOLD w, FLOW_LAST_STATUS w].foldl (fun t x => t.set x x.reset) u).attnRefresh w

/-- The flows of a triple that hold anything or are not at their reset values. -/
def State.liveFlows (s : State) (j : Nat) : List Nat :=
  (tripleFlows j).filter (fun w => s.flow w != {} || [FLOW_GROUP w, FLOW_ANY w, FLOW_CORE w, FLOW_STATE w, FLOW_STALE w, FLOW_HOLD w, FLOW_LAST_STATUS w].any (fun x => s.get x != x.reset))

/-- R467, step 5. The spilled tasks of a function are flushed and count as done. -/
def State.flushSpilled (s : State) (f : Nat) : State :=
  s.work.channels.foldl (fun t e =>
    let mine := e.2.ring.filter (fun x => x.1 != 0 && x.2.2 == f)
    let u := t.setChannel e.1 { t.channel e.1 with ring := e.2.ring.map (fun x => if x.2.2 == f then (0, 0, f) else x) }
    mine.foldl (fun u x => u.taskDone x.1 x.2.1) u) s

/-- R467, step 6. Sluice's rings of a function are disabled; its public-key operations are abandoned, the descriptors that waited for them with them; TN_FLR_DESC counts what
was admitted. -/
def State.sluiceReset (s : State) (f : Nat) : State :=
  let n := (s.sluice.descs.filter (fun d => d.fn == f)).length
  let t := (List.range 4).foldl (fun t r => ((t.flag (RQ_CFG_ENABLE f r) false).flag (CQ_CFG_ENABLE f r) false).setReqRing f r {}) s
  let u := (t.dropPke (fun j => j.fn == f) (fun _ => false)).dropDescs (fun d => d.fn == f && (match d.state with | .inPke => true | .flushing .. => true | _ => false))
  u.set (TN_FLR_DESC f) n

/-- R467, R468. An FLR begins: RESETTING, its gates closed, steps 1 to 6. `leaving`: VF Enable has been cleared. A command of the manager in progress stays so. -/
def State.flrStart (s : State) (f : Nat) (leaving : Bool) : State :=
  let st := s.instState f
  let i : Inst := { s.inst f with stage := 4, preempt := false, keepQuiet := st == 2 || st == 3, leaving := leaving }
  let s1 := (s.setInst f i).set (TN_STAT_STATE f) 4
  let s2 := ((s1.closeStage f 1).closeStage f 3).set (TN_FLR_TASKS f) 0
  let cores := (s.instCores f).filter s.coreOn
  let s3 := cores.foldl (fun t n => ((t.abortCore f n).contextsReset n).emptyCache n) s2
  let chains := (s.instTriples f).flatMap tripleChains
  let held (t : State) : Nat := (t.work.cells.filter (fun e => chains.contains e.2.chain)).length
  let s4 := (s3.chainKeys.filter (fun c => chains.contains c)).foldl (fun t c => t.flushChain c) s3
  let s5 := (s.instTriples f).foldl (fun t j => (t.liveFlows j).foldl (fun t w => t.resetFlow w) t) s4
  let s6 := ((chains.foldl (fun t c => t.flag (BIND_CTL_EN c) false) s5).flushSpilled f)
  let s7 := (s6.set (TN_FLR_ITEMS f) (held s3 - held s6)).sluiceReset f
  { s7 with host := { s7.host with reads := s7.host.reads.filter (fun r => r.fn != f) } }

/-- R467, step 9, R470. The host side of a function: windows invalid, routes cleared. -/
def State.hostSideReset (s : State) (f : Nat) : State :=
  let t := (List.range 16).foldl (fun t e => t.flag (HW_ATTR_VALID f e) false) s
  { t with host := { t.host with routes := Map.drop (fun k => k / 16384 == f) t.host.routes } }

/-- R467, step 9. The PCI Express state of a function as the standard resets it: its MSI-X state, its power state, its translations (assumption 61). -/
def State.pcieReset (s : State) (f : Nat) : State :=
  let h := s.host
  { s with host := { h with
      unmasked := h.unmasked.filter (fun k => k / 2048 != f), vecPending := h.vecPending.filter (fun k => k / 2048 != f), msixEnabled := h.msixEnabled.filter (· != f),
      d3hot := h.d3hot.filter (· != f), owed := h.owed.filter (fun k => k / 16384 != f), translations := h.translations.filter (fun t => t.fn != f) } }

/-- R467, step 7. The key slots of a function's window are cleared. -/
def State.clearWindow (s : State) (f : Nat) : State := ((List.range 512).filter (fun i => s.slotHolder i == f)).foldl (fun t i => t.clearSlot i) s

/-- R467, step 8. The counter blocks of a function are cleared. -/
def State.clearBlocks (s : State) (f : Nat) : State := ((List.range 64).filter (fun b => s.blockHolder b == f)).foldl (fun t b => t.clearBlock b) s

/-- Every gate of an instance is closed and drained. -/
def State.gatesQuiesced (s : State) (f : Nat) : State :=
  ([1, 2, 3].flatMap (s.stagePages f)).foldl (fun (t : State) p =>
    let u := t.closePage p
    (if 0x100 ≤ p ∧ p < 0x200 then (List.range 10).foldl (fun (v : State) q => v.quiescedNow (p + 10 - q)) u else u).quiescedNow p) s

/-- R468. An FLR ends: steps 7 to 9, FLR_DONE; the instance is QUIESCED if it was being quiesced when it began, READY otherwise, ABSENT where its VF is disabled. -/
def State.flrEnd (s : State) (f : Nat) : State :=
  let i := s.inst f
  let s1 := ((((s.clearWindow f).clearBlocks f).hostSideReset f).clearMailboxes f).pcieReset f
  let s2 := if i.keepQuiet then (s1.gatesQuiesced f).setInst f { stage := 4, job := i.job } else (s1.openGates f).setInst f { job := i.job }
  (s2.set (TN_STAT_STATE f) (if i.leaving then 0 else if i.keepQuiet then 3 else 1)).tenantEdge f 2

/-- FLR (R467, R468, R480): the VF's function-level reset begins; during a throttle stall it waits. -/
def execFlr (f : Nat) (s : State) : Outcome :=
  if !s.pageOn 0x500 || f = 0 || s.host.vfs < f then .next s
  else if !s.pageOn 0x510 then .next ((s.hostSideReset f).pcieReset f)
  else if s.stall || s.behind 0x510 then s.hold 0x510 (.flr f)
  else if s.instState f = 4 then .next s
  else .next (s.flrStart f false)

/-- FLR_DONE (R467, R468): the descriptors of the function have run to their ends. -/
def execFlrDone (f : Nat) (s : State) : Outcome :=
  event 0x510 s fun s => if f = 0 || s.instState f ≠ 4 || s.sluice.descs.any (fun d => d.fn == f) then .next s else .next (s.flrEnd f)

/-- R454, R455, R467. VFs 1 to `n` are enabled. A VF that is disabled undergoes an FLR and goes ABSENT; one that is enabled is READY, or QUIESCED while its gates stand
closed (assumption 60). -/
def State.vfsBecome (s : State) (n : Nat) : State :=
  (List.range 8).foldl (fun t i =>
    let f := i + 1
    if n < f ∧ f ≤ s.host.vfs then
      (if !t.pageOn 0x510 then (t.hostSideReset f).pcieReset f
       else if t.instState f = 4 then t.setInst f { t.inst f with leaving := true }
       else t.flrStart f true)
    else if s.host.vfs < f ∧ f ≤ n ∧ t.pageOn 0x510 then
      (if t.instState f = 4 then t.setInst f { t.inst f with leaving := false } else t.set (TN_STAT_STATE f) (if (t.inst f).stage = 4 then 3 else 1))
    else t) { s with host := { s.host with vfs := n } }

/-- VF_ENABLE (R454, R455): the PF's SR-IOV capability enables VFs 1 to `n` (0: VF Enable = 0). -/
def execVfEnable (n : Nat) (s : State) : Outcome := if !s.pageOn 0x500 || 8 < n then .next s else .next (s.vfsBecome n)

/-! ### Revocation (R470) -/

/-- R470. A valid segment of another function names a domain of function `f`. -/
def State.sharedDomain (s : State) (f : Nat) : Bool :=
  (List.range 9).any (fun g => g != f && (List.range 64).any (fun x =>
    s.on (SEG_FBASE_VALID g x) && s.get (SEG_ATTR_PDOM g x) != 15 && s.get (DOM_CFG_FN (s.get (SEG_ATTR_PDOM g x))) == f))

/-- R470, step 4. The counter blocks of a function have no holder, and are cleared. -/
def State.revokeBlocks (s : State) (f : Nat) : State :=
  ((List.range 64).filter (fun b => s.blockHolder b == f)).foldl (fun t b =>
    (t.clearBlock b).set (SY_BLK_FN (b / 8)) (t.get (SY_BLK_FN (b / 8)) + (15 - f) * 2 ^ (4 * (b % 8)))) s

/-- R470, step 6. The segments of a function go invalid, their cached lines written back; its Peat window closes. -/
def State.revokeSegments (s : State) (f : Nat) : State :=
  ((List.range 64).filter (fun x => s.on (SEG_FBASE_VALID f x))).foldl (fun t x =>
    (t.flag (SEG_FBASE_VALID f x) false).flushRange (s.get (SEG_PBASE f x)) (s.get (SEG_LEN f x))) (s.flag (PEAT_CTRL_EN f) false)

/-- R470, step 7. The protection domains of a function are disabled and theirs no longer. -/
def State.revokeDomains (s : State) (f : Nat) : State :=
  ((List.range 15).filter (fun d => s.get (DOM_CFG_FN d) == f)).foldl (fun t d =>
    (((t.setKeys d {}).set (DOM_STAT_STATE d) 0).flag (DOM_STAT_BUSY d) false).set (DOM_CFG_FN d) 0) s

/-- R470, step 8. A weight set is OFF, with no holder. -/
def State.revokeSet (s : State) (e : Nat) : State :=
  let t := [WSET_CFG_MODE e, WSET_VALID0 e, WSET_VALID1 e, WSET_STAT_STATE e].foldl (fun t x => t.set x 0) ((s.setCur e 0).setWset e {})
  t.set W_SET_FN (t.get W_SET_FN + (15 - t.setHolder e) * 2 ^ (4 * e))

/-- R470. Every resource of an instance is returned; the tasks that its flows and their rings still hold count as done (R207). -/
def State.revoke (s : State) (f : Nat) : State :=
  let cores := s.instCores f
  let s1 := (cores.filter s.coreOn).foldl (fun t n => t.discardSaves n) s
  let s2 := (cores.foldl (fun t n => if t.coreOn n then t.coreChanges n true else t.selectNone n) s1).set (TG_CORES f) 0
  let triples := s.instTriples f
  let chains := triples.flatMap tripleChains
  let s3 := (s2.chainKeys.filter (fun c => chains.contains c)).foldl (fun t c => t.flushChain c) s2
  let s3 := (triples.foldl (fun t j => (t.liveFlows j).foldl (fun t w => t.resetFlow w) t) s3).flushSpilled f
  let s4 := ((triples.foldl (fun t j => t.tripleReset j) s3).set (TG_PAGES_QPAGES f) 0).set (TG_PAGES_MEMCTL_VIEW f) 0
  let s5 := (((s4.revokeBlocks f).clearWindow f).set (FN_WIN_CNT f) 0).revokeSegments f
  let s6 := (s5.instSets f).foldl (fun t e => t.revokeSet e) (s5.revokeDomains f)
  let s7 := (s6.hostSideReset f).clearMailboxes f
  [FN_CELL_CAP f, FN_QOS_WEIGHT f, FN_QOS_DESC_MIN f, FN_DESC_CAP f, FN_RD_CAP f].foldl (fun t x => t.set x x.reset) s7

/-- REVOKE_ALL (R466, R470, R478). -/
def execRevokeAll (fn f : Nat) (s : State) : Outcome :=
  tnCmd fn f (.revokeAll fn f) s (fun s => (s.instState f == 3 || s.instState f == 0) && !s.sharedDomain f) fun s => (s.revoke f).instBusy f 3

/-- TN_DONE (R470): the revocation of an instance has ended. -/
def execTnDone (f : Nat) (s : State) : Outcome :=
  event 0x510 s fun s =>
    if (s.inst f).job ≠ 3 then .next s else .next (((s.setInst f { s.inst f with job := 0 }).flag (TN_STAT_BUSY f) false).tenantEdge f 1)

/-! ### Dirty-page logging (R471 to R475) -/

/-- DL_SYNC (R475, R478): with logging off it completes with no work. -/
def execDlSync (fn f : Nat) (s : State) : Outcome :=
  tnCmd fn f (.dlSync fn f) s (fun _ => true) fun s => if s.on (TDL_CTRL_EN f) then s.instBusy f 4 else s

/-- DL_DONE (R472, R475): every write issued has its entry, DL_WB holds DL_PI. The agent that a refused index write would log is open. -/
def execDlDone (f : Nat) (s : State) : Outcome :=
  event 0x510 s fun s =>
    if (s.inst f).job ≠ 4 || s.hostHeld 0 (s.pair (TDL_WB_LO f) (TDL_WB_HI f)) 4 then .next s
    else
      let (a, s1) := s.drawFree
      .next ((((s1.dirtyIndex f (a % 16)).setInst f { s.inst f with job := 0 }).flag (TN_STAT_BUSY f) false).tenantEdge f 4)

/-- DL_EPOCH (R473): the filter empties, OVF clears. -/
def execDlEpoch (fn f : Nat) (s : State) : Outcome :=
  tnCmd fn f (.dlEpoch fn f) s (fun _ => true) fun s => { s with host := { s.host with dirty := Map.erase s.host.dirty f } }.flag (TDL_STAT_OVF f) false

/-- DL_ENABLE (R471, R473, R478): a write of DL_CTRL.EN; setting it resets DL_PI and DL_CI and starts an empty filter. -/
def execDlEnable (fn f : Nat) (en : Bool) (s : State) : Outcome :=
  mmio fn 0x510 s fun s =>
    if en && !s.on (TDL_CTRL_EN f) then
      .next ((({ s with host := { s.host with dirty := Map.erase s.host.dirty f } }.flag (TDL_CTRL_EN f) true).set (TDL_PI f) 0).set (TDL_CI f) 0)
    else .next (s.flag (TDL_CTRL_EN f) en)

/-- DL_CI_DOORBELL (R438, R472): consumed log entries are returned. -/
def execDlCiDoorbell (fn f p : Nat) (s : State) : Outcome :=
  mmio fn 0x510 s fun s =>
    if !s.on (TDL_CTRL_EN f) then .next s
    else match bellConsume (p % 2 ^ 32) (s.get (TDL_CI f)) (s.get (TDL_PI f)) with
      | .repeated => .next s
      | .accepted => .next (s.set (TDL_CI f) p)
      | .rejected => .next (s.capture 0x510 .badParam f 0)

end Sys2Proof.Machine
end

