-- ==== Sys2Proof/Machine/Power.lean ====
section
/-!
DEFINITION. Power domains, supplies, the thermal trip, the chip's resets and start-up, the PMBus master, management patches, the JTAG port (chapters 17 and 19).
-/

namespace Sys2Proof.Machine

/-! ### Domains (R529, R530) -/

/-- R530. The parents of a domain. -/
def parentsOf (d : Nat) : List Nat :=
  if d = 3 ∨ d = 4 then [7] else if d = 2 ∨ d = 5 ∨ d = 6 then [7, 3] else []

/-- R530. The children of a domain. -/
def childrenOf (d : Nat) : List Nat := (List.range 8).filter (fun c => (parentsOf c).contains d)

/-- R537. The PWR_GOOD input of a domain is high. -/
def State.supplied (s : State) (d : Nat) : Bool :=
  if d = 3 then s.power.pins.mem else if d = 5 then s.power.pins.coreA else if d = 6 then s.power.pins.coreB else s.power.pins.io

/-- The domains, but PD_AON. -/
def allDomains : List Nat := [1, 2, 3, 4, 5, 6, 7]

/-- The logical cores of a domain. -/
def domCores (d : Nat) : List Nat := if d = 5 then List.range 8 else if d = 6 then (List.range 8).map (· + 8) else []

/-- R529. The implemented pages of a domain. -/
def domPages (d : Nat) : List Nat := (List.range 0x701).filter (fun p => implemented p && domainOf p == d)

/-! ### READY (R557, R615) -/

/-- R557. The conditions of READY. A stack or a core that failed its test does not withhold it; self-tests are done once their domain is ON (assumption 62). -/
def State.readyNow (s : State) : Bool := [3, 4, 5, 6, 7].all s.domOn && s.power.sluiceSelfTest

/-- R557. SU_STATE follows the conditions of READY. -/
def State.readyRefresh (s : State) : State :=
  if s.get SU_STATE = 3 ∧ s.readyNow then (s.set SU_STATE 4).raise 1 5
  else if s.get SU_STATE = 4 ∧ !s.readyNow then s.set SU_STATE 3
  else s

/-! ### The loss of a domain (R310, R529, R534, R548) -/

/-- The registers of a domain's pages return to their reset values; the commands withheld on those pages go. -/
def State.clearDomain (s : State) (d : Nat) : State :=
  let t := s.clearPages (fun p => domainOf p == d)
  { t with held := t.held.filter (fun h => domainOf h.1 != d) }

/-- R553. HI_TARGET.MAX_SPEED takes its strap. -/
def State.strapSpeed (s : State) : State :=
  let v := s.get STRAPS / 32
  s.set HI_TARGET_MAX_SPEED (if v = 1 then 5 else if v = 2 then 4 else 6)

/-- R555. A management patch in force, or none, and the result of the load that ends. -/
def State.patchEnds (s : State) (st : Status) (version : Nat) : State :=
  let s1 := ((s.flag PATCH_CTRL_BUSY false).set PATCH_CTRL_RESULT st.code).flag SU_STATE_PATCHED (st == .ok)
  let s2 := s1.set PATCH_VER (if st = .ok then version else 0)
  (if st = .ok then s2 else s2.captureOpen 0 4 st).raise 4 1

/-- The state of the host interface, but for what the device has sent. -/
def State.dropHost (s : State) : State := { s with host := { out := s.host.out, nextRead := s.host.nextRead } }

/-- The state of the links, but for what the device has sent. -/
def State.dropLink (s : State) : State := { s with link := { out := s.link.out } }

/-- The sluices' state; the results of sealing that others wait for, and the numbering of descriptors and chains, stay. -/
def State.dropSluice (s : State) : State :=
  { s with sluice := { results := s.sluice.results, nextDesc := s.sluice.nextDesc, nextChain := s.sluice.nextChain },
           power := { s.power with sluiceSelfTest := false } }

/-- R548. PD_HOST is reset: PCI Express configuration and HOSTIF pages; a patch load that reads the host ends ABORTED. -/
def State.loseHost (s : State) : State :=
  let t := s.dropHost.strapSpeed
  if t.on PATCH_CTRL_BUSY then t.patchEnds .aborted 0 else t

/-- R310, R548. PD_MEM is reset; HBM contents go where they are not kept. -/
def State.loseMem (s : State) (retain : Bool) : State :=
  { s with mem := { s.mem with
      dir := [], flights := [], txns := [], segBusy := [], scrubHalf := false, keys := [], protLog := [], fill := none,
      hbm := if retain then s.mem.hbm else [], lineMeta := if retain then s.mem.lineMeta else [] } }

/-- R534, R548, R567. A core's state goes: its admission and FAULT, its work; its stores and valid bits where they are not kept. -/
def State.loseCore (s : State) (retain : Bool) (n : Nat) : State :=
  let t := s.coreClear n
  let drop (t : State) (f : Field) : State := let m := t.get f; t.set f (if bitOf m n then m - 2 ^ n else m)
  let u := drop (drop t FT_CORE_ADM) FT_CORE_FAULT
  if retain then u else (u.zeroStores n).clearHolds n

/-- R533, R548. PD_SHARED is reset: chain items, tasks, counters, weight sets, instances. What belongs to cores, and the host rings' own state, stays. -/
def State.loseShared (s : State) : State :=
  let w := s.work
  { s with
    work := { slots := w.slots, nextExp := w.nextExp, images := w.images, loading := w.loading, saves := w.saves, gens := w.gens, resumes := w.resumes,
              issued := w.issued, testing := w.testing, lastSlot := w.lastSlot },
    sync := {}, tenants := [],
    host := { s.host with dirty := [], rings := s.host.rings.map (fun e => (e.1, { e.2 with cell := none, busy := false, delivered := [] })) } }

/-- R529, R534, R548. What a domain holds goes; `retain` keeps its storage. -/
def State.lose (s : State) (d : Nat) (retain : Bool) : State :=
  let t := s.clearDomain d
  if d = 1 then t.loseHost
  else if d = 2 then t.dropLink.skewRefresh
  else if d = 3 then t.loseMem retain
  else if d = 4 then t.dropSluice
  else if d = 7 then t.loseShared
  else (domCores d).foldl (fun u n => u.loseCore retain n) t

/-! ### What happens while a domain leaves ON (R532, R533) -/

/-- R548. The item that a host ring holds is given back: an outbound one is READY again (assumption 63), an inbound one is freed. -/
def State.ringGivesBack (s : State) (c : Nat) : State :=
  let r := s.ring c
  let back (t : State) (k : Nat) : State := match Map.find t.work.cells k with
    | some x => if x.state != .inUse then t else if x.rewind = some true then t.watched c (fun u => (u.freeCell k).dropped c 1)
      else t.watched c (·.setCell k { x with state := .ready, rewind := none })
    | none => t
  let t := if s.on (HR_STAT_DIR c) then (r.cell.toList ++ r.delivered.map (·.2)).foldl back s
    else match r.cell with | some k => if s.building k r.id then s.watched c (·.freeCell k) else s | none => s
  t.leaveCell c (· == .ring)

/-- R548. PD_HOST leaves ON: each VF undergoes an FLR, requests in flight complete ABORTED, host rings give back their items. -/
def State.leaveHost (s : State) : State :=
  let t := (s.vfsBecome 0).abortAllReads
  if t.domOn 7 then (t.host.rings.map (·.1)).foldl (fun u c => u.ringGivesBack c) t else t

/-- R538. PD_LINK leaves ON: every port leaves DATA. -/
def State.leaveLink (s : State) : State :=
  (List.range 8).foldl (fun t p => if t.inData p then (t.leaveData p 0).set (PORT_STAT_DOWN_CAUSE p) 6 else t) s

/-- R33, R533. The key loads that Sluice has admitted for domains and ports complete ABORTED. -/
def State.abortLoads (s : State) : State :=
  let t := (List.range 15).foldl (fun (u : State) d => match (u.domKeys d).busy with
    | some (op, .ok, _) => if op = 1 ∨ op = 2 then (u.capture 0x310 .aborted 0 0).domBusy d op .aborted [] else u
    | _ => u) s
  (List.range 8).foldl (fun (u : State) p =>
    if (u.port p).newKeys.isSome then
      ((u.setPort p { u.port p with newKeys := none }).flag (PORT_KEY_BUSY p) false).capture (portPage p) .aborted (u.get (PORT_KEY_SLOT p)) 0
    else u) t

/-- R33, R533. PD_SLUICE leaves ON: the requests of SEAL steps and of image checks complete ABORTED. -/
def State.abortSluice (s : State) : State :=
  let x := s.sluice
  let mine (u : PkeUse) : Bool := match u with | .sealStep .. => true | .image .. => true | _ => false
  let jobs := x.short ++ x.long ++ x.units.map (·.2.job) ++ x.parked.map (·.2.job)
  { s with sluice := { x with results := x.results ++ (jobs.filter (fun j => mine j.use)).map (fun j => (j.use, { st := .aborted })) } }

/-- R33, R533. PD_SLUICE leaves ON: the requests that it has from elsewhere complete ABORTED. -/
def State.leaveSluice (s : State) : State := s.abortLoads.abortSluice

/-- R533, R567. The tasks of a core that leaves ON end ABORTED, the saved ones with them (assumption 64). -/
def State.abortTasks (s : State) (n : Nat) : State :=
  ((List.range 4).foldl (fun t i => match t.running n i with
    | some r => (t.withdrawWait n i).taskEnds n i r .aborted none
    | none => t) s).discardSaves n

/-- The transactions under way run to their ends. -/
def State.settleAll (s : State) : State := (s.mem.txns.map (·.line) ++ s.mem.flights.map (·.line)).dedup.foldl (fun t l => t.settled l) s

/-- R533. The homes drop a core; a line that it held in M is written POISON, with cause 2. -/
def State.homesDrop (s : State) (n : Nat) : State :=
  s.mem.dir.foldl (fun t e =>
    let rest := e.sharers.filter (· != n)
    if e.owner = some n then
      ((t.setDir e.line none rest).poison e.line).lineUe e.line (match t.cached n e.line with | some x => x.fn | none => 0) 2
    else if e.sharers.contains n then t.setDir e.line e.owner rest
    else t) s

/-- R532, R533. A core domain leaves ON: drained, with FLUSH_INV, or forced. -/
def State.leaveCores (s : State) (d : Nat) (force : Bool) : State :=
  (domCores d).foldl (fun t n =>
    let u := (if t.domOn 3 then (t.dropClaims n (fun _ => true)).settleAll.drainEvictions n else t).abortTasks n
    if !force then u.flushInvAll n else if u.domOn 3 then u.homesDrop n else u) s

/-- R532, R533. What happens while a domain leaves ON. -/
def State.leave (s : State) (d : Nat) (force : Bool) : State :=
  if d = 1 then s.leaveHost else if d = 2 then s.leaveLink else if d = 4 then s.leaveSluice else if d = 5 ∨ d = 6 then s.leaveCores d force else s

/-! ### Starts of domains (R538, R553 to R557) -/

/-- R302, R589. What the training of a stack found. -/
def State.stackStarts (s : State) (i : Nat) (trained : Bool) (pch : Nat) : State :=
  let f := pch % 2 ^ 32
  let s1 := (s.flag (MS_STAT_TRAINED i) trained).set (MS_PCH_FAIL i) f
  let s2 := if trained then s1 else (s1.raise (0x301 + i) 1).fault 10 .faulted 0 0 0 i 0
  ((List.range 32).filter (bitOf f)).foldl (fun t k => t.fault 9 .faulted 0 0 0 i k) (if f = 0 then s2 else s2.raise (0x301 + i) 0)

/-- R376, R409. What the start-up tests of the generator and of the public-key engine found. -/
def State.sluiceStarts (s : State) (r : StartReport) : State :=
  let s1 := s.flag RNG_STAT_OK r.rngOk
  let s2 := if r.rngOk then s1 else s1.raise 0x400 0
  let s3 := { s2 with sluice := { s2.sluice with selfTestFailed := !r.pkeOk }, power := { s2.power with sluiceSelfTest := r.pkeOk } }
  if r.pkeOk then s3 else s3.raise 0x410 3

/-- R571, R572, R567. The core holds the current copy of every applied set whose CORES includes it. -/
def State.holdsCurrent (s : State) (n : Nat) : Bool :=
  (List.range 8).all (fun e => match (s.wset e).cfg with | some c => !bitOf c.cores n || s.holds e (s.get (WSET_STAT_CUR e)) n | none => true)

/-- R566, R567. A logical core whose domain comes ON: the result of its slot's self-test, its admission, its CORE_EPOCH. -/
def State.coreStarts (s : State) (n : Nat) : State :=
  let pass := match Map.find s.power.tests (s.physSlot n) with | some t => testPasses t | none => false
  let s1 := ((s.applyTest n).flag (CORE_TEST_DONE n) true).flag (CORE_TEST_PASS n) pass
  let s2 := if pass then s1 else s1.fault 5 .faulted (s.coreHolder n) n 0 0 0
  let e := s2.get CHIP_EPOCH
  if pass && s2.holdsCurrent n then (s2.set FT_CORE_ADM (s2.get FT_CORE_ADM ||| 2 ^ n)).set (CORE_EPOCH n) e
  else s2.set (CORE_EPOCH n) (e + 2 ^ 32 - 1)

/-- R538, R566. A core domain starts: every physical slot of its die has been tested, the spare included. -/
def State.dieStarts (s : State) (d : Nat) (slots : List CoreTest) : State :=
  let base := if d = 5 then 0 else 9
  let t := (List.range 9).foldl (fun (t : State) i =>
    let x : CoreTest := slots.getD i ⟨[], false⟩
    let m := t.get FT_SLOT_PASS
    let rest := if bitOf m (base + i) then m - 2 ^ (base + i) else m
    { t with power := { t.power with tests := Map.insert t.power.tests (base + i) x } }.set FT_SLOT_PASS (rest + (if testPasses x then 2 ^ (base + i) else 0))) s
  (domCores d).foldl State.coreStarts t

/-- R556. The link trains where PERST_N is released. -/
def State.tryTrain (s : State) : State := if s.power.perstLow then s else s.linkTrained s.power.offer.1 s.power.offer.2

/-- R538, R556. A domain has come ON. -/
def State.starts (s : State) (d : Nat) (r : StartReport) : State :=
  if d = 1 then s.tryTrain
  else if d = 3 then (List.range 6).foldl (fun t i => t.stackStarts i (r.trained.getD i false) (r.pchFail.getD i 0)) s
  else if d = 4 then s.sluiceStarts r
  else if d = 5 ∨ d = 6 then s.dieStarts d r.slots
  else if d = 7 then (List.range 8).foldl (fun t i => if i < t.host.vfs then t.set (TN_STAT_STATE (i + 1)) 1 else t) s
  else s

/-! ### Power commands (R531 to R536) -/

/-- R529. The code of a domain's state. -/
def Dom.code : Dom → Nat
  | .off => 0
  | .on => 1
  | .retain => 2
  | .transit .. => 3

/-- R531 to R535. What refuses a PWR_CMD: OP 1 ON, 2 RETAIN, 3 OFF. `smbus`: it came over the SMBus target. -/
def State.pwrStatus (s : State) (smbus : Bool) (d op : Nat) (force : Bool) : Status :=
  let x := s.dom d
  let su := s.get SU_STATE
  if d = 0 ∨ op = 0 ∨ x.code = 3 then .badParam
  else if op = 1 then
    (if su < 2 || su == 5 || !(parentsOf d).all s.domOn || !s.supplied d then .badParam else if su = 2 ∧ s.on SU_STATE_FUSE_BAD then .internal else .ok)
  else if x.code = (if op = 2 then 2 else 0) then .ok
  else if !(childrenOf d).all (fun c => s.dom c == .off || s.dom c == .retain) then .badParam
  else if op = 2 ∧ (x ≠ .on ∨ !(d == 3 || d == 5 || d == 6)) then .badParam
  else if x = .on ∧ !force ∧ !(domPages d).all (fun p => (s.page p).quiesced) then .badParam
  else if d = 1 ∧ !smbus then .badParam
  else .ok

/-- R558. A command on a domain ends. -/
def State.pwrEnds (s : State) (d op : Nat) : State :=
  let t := (s.set (PWR_RESULT_STATUS d) Status.ok.code).set (PWR_RESULT_OP d) op
  (t.setPage 1 { t.page 1 with errInfo0 := d }).raise 1 3 |>.readyRefresh

/-- R531 to R535, R558. A PWR_CMD is checked and begins. A command for the state in which its domain is ends at once (assumption 65). -/
def State.pwrBegin (s : State) (smbus : Bool) (d op : Nat) (force : Bool) : State :=
  match s.pwrStatus smbus d op force with
  | .ok =>
    let x := s.dom d
    if x.code = (if op = 3 then 0 else op) then s.pwrEnds d op
    else if op = 1 then
      let t := s.setDom d (.transit x.code 1 false)
      if d = 7 ∧ t.get SU_STATE = 2 then t.set SU_STATE 3 else t
    else
      let t := if x = .on then s.leave d force else s
      ((t.lose d (op == 2)).setDom d (.transit x.code op force)).readyRefresh
  | st => ((s.set (PWR_RESULT_STATUS d) st.code).set (PWR_RESULT_OP d) op).capture 1 st (PWR_CMD_DOMAIN.addr % 4096) (d + 16 * op + 256 * b2n force)

/-- R49, R51, R536. A PWR_CMD: recorded during a throttle stall, but for a forced OFF, and while the page is quiesced. -/
def powerCmd (smbus : Bool) (d op : Nat) (force : Bool) (c : Instr) (s : State) : Outcome :=
  if s.quiet 1 || ((s.stall || s.behind 1) && !(op == 3 && force)) then s.hold 1 c else .next (s.pwrBegin smbus d op force)

/-- PWR_ON (R531, R538). -/
def execPwrOn (fn d : Nat) (s : State) : Outcome := mmio fn 1 s fun s => powerCmd false d 1 false (.pwrOn fn d) s

/-- PWR_RETAIN (R532, R534). -/
def execPwrRetain (fn d : Nat) (force : Bool) (s : State) : Outcome := mmio fn 1 s fun s => powerCmd false d 2 force (.pwrRetain fn d force) s

/-- PWR_OFF (R532, R533, R535). -/
def execPwrOff (fn d : Nat) (force : Bool) (s : State) : Outcome := mmio fn 1 s fun s => powerCmd false d 3 force (.pwrOff fn d force) s

/-- PWR_DONE (R538, R558): a domain's transition completes; `r` is what its start found. -/
def execPwrDone (d : Nat) (r : StartReport) (s : State) : Outcome :=
  match s.dom d with
  | .transit _ op _ =>
    .next (if op = 1 then ((s.setDom d .on).starts d r).pwrEnds d 1 else (s.setDom d (if op = 2 then .retain else .off)).pwrEnds d op)
  | _ => .next s

/-! ### Supplies (R537, R598) -/

/-- R537. The domains of a PWR_GOOD input: 1 IO, 2 MEM, 3 CORE_A, 4 CORE_B. -/
def railDomains (rail : Nat) : List Nat := if rail = 1 then [2, 4, 7, 1] else if rail = 2 then [3] else if rail = 3 then [5] else if rail = 4 then [6] else []

/-- A PWR_GOOD input takes a level. -/
def State.setPin (s : State) (rail : Nat) (b : Bool) : State :=
  let p := s.power.pins
  { s with power := { s.power with pins :=
      if rail = 1 then { p with io := b } else if rail = 2 then { p with mem := b } else if rail = 3 then { p with coreA := b } else if rail = 4 then { p with coreB := b } else p } }

/-- R598. A command in progress on a domain ends ABORTED. -/
def State.transitAborts (s : State) (d : Nat) : State :=
  match s.dom d with
  | .transit _ op _ => (s.set (PWR_RESULT_STATUS d) Status.aborted.code).set (PWR_RESULT_OP d) op
  | _ => s

/-- R537, R598. A domain loses its supply: as forced, with PWR_GOOD_LOST where it was ON or RETAIN. -/
def State.supplyLost (s : State) (d : Nat) : State :=
  match s.dom d with
  | .off => s
  | .transit .. => ((s.transitAborts d).lose d false).setDom d .off
  | x =>
    let t := (((if x = .on then s.leave d true else s).lose d false).setDom d .off)
    ((t.capture 1 .aborted d 0).raise 1 4).fault 13 .aborted 0 0 0 0 0

/-- What a power-on reset leaves: fuses, levels on pins, what the device has sent, the model's own counters and the queue (R548). A burn that was in progress has failed (R580). -/
def State.powerOff (s : State) : State :=
  { State.reset with
    fuses := { s.fuses with burning := false, unlocked := false }, rngCtr := s.rngCtr, freeCtr := s.freeCtr, pending := s.pending,
    host := { out := s.host.out, nextRead := s.host.nextRead }, link := { out := s.link.out },
    power := { pins := s.power.pins, vrAlertHigh := s.power.vrAlertHigh, perstLow := s.power.perstLow, offer := s.power.offer } }

/-- PWR_GOOD_FALL (R537, R598): 0 AON, 1 IO, 2 MEM, 3 CORE_A, 4 CORE_B. -/
def execPwrGoodFall (rail : Nat) (s : State) : Outcome :=
  if rail = 0 then .next s.powerOff else .next (((railDomains rail).foldl State.supplyLost (s.setPin rail false)).readyRefresh)

/-- R556, steps 4 and 5. PD_HOST comes ON: HOST_UP. -/
def State.hostUp (s : State) : State :=
  if s.get SU_STATE = 1 ∧ s.power.fusesLoaded ∧ s.power.pins.io then ((s.setDom 1 .on).set SU_STATE 2).strapSpeed.tryTrain else s

/-- PWR_GOOD_RISE (R556, R597). -/
def execPwrGoodRise (rail : Nat) (s : State) : Outcome := .next (s.setPin rail true).hostUp

/-! ### Resets and start-up (R547 to R556) -/

/-- POWER_ON_RESET (R547, R548, R553): PWR_GOOD_AON rises, the straps are sampled, the fuse load begins. -/
def execPowerOnReset (straps : Nat) (s : State) : Outcome := .next (((s.powerOff.set STRAPS straps).set SU_STATE 1).set RST_CAUSE 1)

/-- R578. The changes left for a setting whose log entries satisfy `p`, of `n`. -/
def Fuses.left (x : Fuses) (n : Nat) (p : FuseEntry → Bool) : Nat := n - (x.log.filter p).length

/-- R578, R588. The changes left to a port's lane remap. -/
def Fuses.laneLeft (x : Fuses) (port : Nat) : Nat := x.left 8 (fun e => e.op == 2 && e.arg0 == port)

/-- R578, R588. The counts of changes left show in the registers. -/
def State.showCounts (s : State) : State :=
  let x := s.fuses
  let of (k : Nat) (e : FuseEntry) : Bool := e.op == k
  let t := ((s.set FU_REMAIN_CORE (x.left 4 (of 1))).set FU_REMAIN_RKE (x.left 64 (of 3))).set FU_REMAIN_PROFILE (x.left 15 (of 4))
  (t.set FU_LANE_REMAIN ((List.range 8).foldl (fun n p => n + x.laneLeft p * 16 ^ p) 0)).set FU_LOG_CNT x.log.length

/-- The word that packs eight entries of 4 bits. -/
def packNibbles (l : List Nat) : Nat := l.zipIdx.foldl (fun n e => n + e.1 % 16 * 16 ^ e.2) 0

/-- R554, R588. The fuses show in the shadow registers. -/
def State.fuseShadow (s : State) : State :=
  let x := s.fuses
  let t := ((((s.set FU_ID_GRADE x.grade).set FU_ID_STEPPING x.stepping).set FU_PROFILE_CUR x.profile).set FU_PROFILE_MAX x.profileMax).set FU_PROFILE_NEXT x.profile
  let t1 := ((t.flag FU_LOCKS_PROFILE x.profileLock).flag FU_LOCKS_DEBUG x.debugLock).set FU_RKE_EPOCH x.rkeEpoch
  let t2 := (t1.set FU_CORE_MAP0 (packNibbles (x.coreMap.take 8))).set FU_CORE_MAP1 (packNibbles (x.coreMap.drop 8))
  ((List.range 8).foldl (fun t p => t.set (FU_LANE_MAP p) (x.laneMap.getD p 0)) t2).showCounts

/-- FUSE_LOAD_DONE (R554, R556): the shadow is loaded; a bad word sets FUSE_BAD. -/
def execFuseLoadDone (bad : Bool) (s : State) : Outcome :=
  if s.get SU_STATE ≠ 1 || s.power.fusesLoaded then .next s
  else
    let t := { s with power := { s.power with fusesLoaded := true } }.fuseShadow
    .next (if bad then ((t.flag SU_STATE_FUSE_BAD true).raise 3 0).fault 15 .internal 0 0 0 0 0 else t).hostUp

/-- R547, R548. A domain is reset and is OFF; a command in progress on it is gone (assumption 66). -/
def State.resetDomain (s : State) (d : Nat) : State := ((s.transitAborts d).lose d false).setDom d .off

/-- R547, R551. PD_MEM under a fundamental or a chip reset: RETAIN if it was ON or RETAIN and its PWR_GOOD stays high. -/
def State.resetMem (s : State) : State :=
  let keep := (s.dom 3 == .on || s.dom 3 == .retain) && s.power.pins.mem
  ((s.transitAborts 3).lose 3 keep).setDom 3 (if keep then .retain else .off)

/-- R547. The resets of every domain but PD_AON and PD_HOST; the last one's code is recorded. -/
def State.resetOthers (s : State) (cause : Nat) : State :=
  let t := ([2, 4, 5, 6, 7].foldl State.resetDomain s).resetMem
  (if t.get SU_STATE = 3 ∨ t.get SU_STATE = 4 then t.set SU_STATE 2 else t).set RST_CAUSE cause

/-- R547. PD_HOST is ON after a reset, where its supply is good. -/
def State.hostAgain (s : State) : State := if s.power.pins.io then s.setDom 1 .on else s

/-- R547. A fundamental reset. -/
def State.fundamental (s : State) (cause : Nat) : State := ((s.resetOthers cause).resetDomain 1).hostAgain

/-- PERST_ASSERT (R546, R547). -/
def execPerstAssert (s : State) : Outcome :=
  let t := { s with power := { s.power with perstLow := true } }
  .next (if t.get SU_STATE < 2 then t else t.fundamental 2)

/-- PERST_RELEASE (R556, R597): recognised while PWR_GOOD_IO is high; the link trains at HOST_UP. `speed` and `width` are the best that the partner offers. -/
def execPerstRelease (speed width : Nat) (s : State) : Outcome :=
  if !s.power.pins.io then .next s
  else
    let t := { s with power := { s.power with perstLow := false, offer := (speed, width) } }
    .next (if t.domOn 1 then t.tryTrain else t)

/-- HOT_RESET (R547, R552): a hot reset or DL_Down, by HOT_SCOPE; the link trains again with what the partner offers. -/
def execHotReset (speed width : Nat) (s : State) : Outcome :=
  if !s.domOn 1 || s.power.perstLow then .next s
  else
    let t := { s with power := { s.power with offer := (speed, width) } }
    let u := if t.on RST_CFG_HOT_SCOPE then ((((t.leave 1 true).lose 1 false).set RST_CAUSE 4).hostAgain) else t.fundamental 3
    .next (if u.domOn 1 then u.tryTrain else u)

/-- R547, R548. The chip reset: the host side stays; what was in flight to the host is ABORTED. -/
def State.chipReset (s : State) : State := { s with host := { s.host with reads := [] } }.resetOthers 5

/-- CHIP_RESET (R547, R558). -/
def execChipReset (fn v : Nat) (s : State) : Outcome := mmio fn 1 s fun s => .next (if v % 2 ^ 32 = 0xC1A5 then s.chipReset else s)

/-- TAP_RESET (R547): TRST or the TAP reset state. -/
def execTapReset (s : State) : Outcome := .next { s with power := { s.power with tap := .idcode } }

/-- JTAG_INSTRUCTION (R583): the mandatory instructions; a private one is refused after the debug lockout, and the rules give it no effect before. -/
def execJtagInstruction (i : TapInstr) (s : State) : Outcome :=
  match i with
  | .priv _ => if s.on FU_LOCKS_DEBUG then .next { s with power := { s.power with tap := .idcode } } else .refused .privateTestAccess
  | _ => .next { s with power := { s.power with tap := i } }

/-! ### The PMBus master (R539, R540) -/

/-- R540. A WRITE_WORD of VOUT_COMMAND outside a guard of its regulator. -/
def State.guarded (s : State) (addr code : Nat) : Bool :=
  code == 0x21 && [0, 1].any (fun x =>
    s.get (PM_GUARD_ADDR x) != 0 && s.get (PM_GUARD_ADDR x) == addr && s.get (PM_GUARD_PAGE x) == Map.get s.power.pmPages 0 addr
      && (decide (s.get PM_WDATA < s.get (PM_GUARD_VMIN x)) || decide (s.get (PM_GUARD_VMAX x) < s.get PM_WDATA)))

/-- R539, R540, R559. PM_XFER.GO with a KIND. -/
def pmCmd (fn kind addr code : Nat) (s : State) : Outcome :=
  mmio fn 4 s fun s =>
    let a := addr % 128
    let c := code % 256
    let word := a + 256 * c + 65536 * kind + 2 ^ 31
    if s.on PM_STAT_BUSY then .next (s.refuseWrite fn PM_XFER_ADDR.addr word)
    else
      let t := ((s.set PM_XFER_ADDR a).set PM_XFER_CODE c).set PM_XFER_KIND kind
      if kind = 2 ∧ t.guarded a c then .next ((t.set PM_STAT_RESULT Status.badParam.code).refuseWrite fn PM_XFER_ADDR.addr word)
      else
        let w := leBytes 2 (t.get PM_WDATA)
        .next ({ t with power := { t.power with pmWrite := if kind = 1 then w.take 1 else if kind = 2 then w else [] } }.flag PM_STAT_BUSY true)

/-- PM_SEND_BYTE (R539). -/
def execPmSendByte (fn addr code : Nat) (s : State) : Outcome := pmCmd fn 0 addr code s

/-- PM_WRITE_BYTE (R539). -/
def execPmWriteByte (fn addr code : Nat) (s : State) : Outcome := pmCmd fn 1 addr code s

/-- PM_WRITE_WORD (R539, R540). -/
def execPmWriteWord (fn addr code : Nat) (s : State) : Outcome := pmCmd fn 2 addr code s

/-- PM_READ_BYTE (R539). -/
def execPmReadByte (fn addr code : Nat) (s : State) : Outcome := pmCmd fn 3 addr code s

/-- PM_READ_WORD (R539). -/
def execPmReadWord (fn addr code : Nat) (s : State) : Outcome := pmCmd fn 4 addr code s

/-- PM_BLOCK_READ (R539). -/
def execPmBlockRead (fn addr code : Nat) (s : State) : Outcome := pmCmd fn 5 addr code s

/-- R539. The data of a transaction that ended well. The regulator's PAGE follows the bytes written to it (assumption 67). -/
def State.pmData (s : State) (b : List Byte) : State :=
  let kind := s.get PM_XFER_KIND
  if kind = 3 then s.set PM_RDATA (leNat (b.take 1))
  else if kind = 4 then s.set PM_RDATA (leNat (b.take 2))
  else if kind = 5 then
    (List.range 8).foldl (fun t i => t.set (PM_BLK i) (leNat (((b.take 32).drop (4 * i)).take 4))) { s with power := { s.power with pmBlkLen := min 32 b.length } }
  else if kind = 1 ∧ s.get PM_XFER_CODE = 0 then
    { s with power := { s.power with pmPages := Map.put 0 s.power.pmPages (s.get PM_XFER_ADDR) (leNat s.power.pmWrite) } }
  else s

/-- PM_DONE (R539). -/
def execPmDone (o : PmOutcome) (s : State) : Outcome :=
  if !s.on PM_STAT_BUSY then .next s
  else
    let t := s.flag PM_STAT_BUSY false
    match o with
    | .ok b => .next ((((t.pmData b).set PM_STAT_RESULT Status.ok.code).set PM_STAT_CAUSE 0).raise 4 0)
    | .failed c => .next ((((t.set PM_STAT_RESULT Status.aborted.code).set PM_STAT_CAUSE c).captureOpen 0 4 .aborted).raise 4 0)

/-! ### Management patches (R555) -/

/-- PATCH_LOAD (R555, R559): PATCH_CTRL.GO. -/
def execPatchLoad (fn : Nat) (s : State) : Outcome :=
  mmio fn 4 s fun s =>
    if s.on PATCH_CTRL_BUSY then .next (s.refuseWrite fn PATCH_CTRL_GO.addr 1)
    else if s.get SU_STATE ≠ 2 || s.get STRAPS % 4 == 2 then .next ((s.set PATCH_CTRL_RESULT Status.badParam.code).refuseWrite fn PATCH_CTRL_GO.addr 1)
    else if 262272 < s.get PATCH_LEN then .next (((s.set PATCH_CTRL_RESULT Status.badParam.code).refuseWrite fn PATCH_CTRL_GO.addr 1).raise 4 1)
    else if s.get PATCH_LEN = 0 then .next ((s.set PATCH_CTRL_RESULT Status.ok.code).raise 4 1)
    else .next (s.flag PATCH_CTRL_BUSY true)

/-- R555. The verdict on a patch: its signature under a key whose digest is the fused one, its lowest profile. -/
def State.patchVerdict (s : State) (b : List Byte) (profile : Nat) : Status :=
  let key := (List.range 64).map Config.patchPubByte
  let sig := b.drop (b.length - 64)
  let good := decide (128 ≤ b.length) && sha256 key == (List.range 32).map Config.patchKeyByte
    && (ecdsaCheck p256 false (beNat (key.take 32)) (beNat (key.drop 32)) (beNat (sig.take 32)) (beNat (sig.drop 32)) (sha256 (b.take (b.length - 64)))).st == .ok
  if !good then .authFail else if s.get FU_PROFILE_CUR < profile then .badParam else .ok

/-- PATCH_DONE (R555): the read of the patch, its verification; `version` and `profile` are the fields of its header (assumption 68). -/
def execPatchDone (src : ReadOutcome) (version profile : Nat) (s : State) : Outcome :=
  if !s.on PATCH_CTRL_BUSY || s.hostHeld 0 (s.pair PATCH_ADDR_LO PATCH_ADDR_HI) (s.get PATCH_LEN) then .next s
  else
    let (a, s1) := s.drawFree
    match s1.hostFetch 0 (a % 16) (s1.pair PATCH_ADDR_LO PATCH_ADDR_HI) (s1.get PATCH_LEN) src with
    | (t, .ok, b) => .next (t.patchEnds (t.patchVerdict b profile) version)
    | (t, st, _) => .next (t.patchEnds st version)

/-! ### Temperatures and the thermal trip (R544 to R546) -/

/-- A die reading in 1/16 °C. -/
def tempReading (v : Nat) : Int := if v % 65536 < 32768 then (v % 65536 : Nat) else (v % 65536 : Nat) - (65536 : Int)

/-- The three die readings, A, B, I/O. -/
def State.readings (s : State) : List Int := [s.get TEMP_A, s.get TEMP_B, s.get TEMP_IO].map tempReading

/-- R622. Some reading is at or above THERM_WARN.LIMIT. -/
def State.warm (s : State) : Bool := s.readings.any (fun t => decide ((s.get THERM_WARN_LIMIT : Int) * 16 ≤ t))

/-- R545. A thermal trip from a die (1 A, 2 B, 3 I/O) or a stack: every domain but PD_AON is OFF. -/
def State.trip (s : State) (die stack : Nat) : State :=
  let t := allDomains.foldl State.resetDomain { s with power := { s.power with thermTripLow := true } }
  let u := (((t.set SU_STATE 5).flag THERM_STAT_TRIPPED true).set THERM_STAT_DIE die).set THERM_STAT_STACK stack
  (((u.set TRIP_TIME_NS s.now.ns).set TRIP_TIME_SEC s.now.sec).raise 1 2).fault 14 .aborted 0 0 0 0 0

/-- THERMAL_SAMPLE (R544, R545): the die readings, as the registers show them. -/
def execThermalSample (a b io : Nat) (s : State) : Outcome :=
  let t := ((s.set TEMP_A a).set TEMP_B b).set TEMP_IO io
  let u := t.raiseEdge 1 1 s.warm t.warm
  match u.readings.findIdx? (fun x => decide (1920 ≤ x)) with
  | some i => .next (if u.get SU_STATE = 5 then u else u.trip (i + 1) 0)
  | none => .next u

/-- CATASTROPHIC_TEMPERATURE (R545): from a stack that has power. -/
def execCatastrophicTemperature (stack : Nat) (s : State) : Outcome :=
  .next (if stack < 6 && s.get SU_STATE != 5 && (s.dom 3 == .on || s.dom 3 == .retain) then s.trip 0 (stack + 1) else s)

/-- TRIP_CLEAR (R546): refused unless all three readings are below 95 °C. -/
def execTripClear (fn : Nat) (s : State) : Outcome :=
  mmio fn 1 s fun s =>
    if s.readings.any (fun t => decide (1520 ≤ t)) then .next (s.refuseWrite fn THERM_STAT_TRIPPED.addr 1)
    else if !s.on THERM_STAT_TRIPPED then .next s
    else .next (({ s with power := { s.power with thermTripLow := false } }.flag THERM_STAT_TRIPPED false).set SU_STATE (if s.power.fusesLoaded then 2 else 1))

end Sys2Proof.Machine
end

