-- ==== Sys2Proof/Machine/Repair.lean ====
section
/-!
DEFINITION. Repair (chapter 18): the commands of the FAULT page that bring a core back, the fault log, the fuse-counted settings.
-/

namespace Sys2Proof.Machine

/-! ### FT_CMD (R565, R569 to R573, R589, R590) -/

/-- R589. A FAULT command is refused. -/
def State.ftRefused (s : State) (word : Nat) (st : Status) : State := (s.set FT_STAT_RESULT st.code).capture 0x700 st (FT_CMD_OP.addr % 4096) word

/-- R589, R590. A FAULT command completes. -/
def State.ftEnds (s : State) (st : Status) : State :=
  let t := ((s.flag FT_STAT_BUSY false).set FT_STAT_RESULT st.code).raise 0x700 3
  if st = .ok then t else t.captureOpen 0 0x700 st

/-- R51, R589. A command written to FT_CMD: held while the page is quiesced, refused while BUSY or by its own check. -/
def ftCmd (fn word : Nat) (c : Instr) (s : State) (check : State → Status) (body : State → State) : Outcome :=
  mmio fn 0x700 s fun s =>
    if s.quiet 0x700 || s.behind 0x700 then s.hold 0x700 c
    else if s.on FT_STAT_BUSY then .next (s.capture 0x700 .badParam (FT_CMD_OP.addr % 4096) word)
    else match check s with
      | .ok => .next (body s)
      | st => .next (s.ftRefused word st)

/-- A command of the FAULT page is in progress. -/
def State.ftStart (s : State) (j : FtJob) : State := { s with power := { s.power with ftJob := some j } }.flag FT_STAT_BUSY true

/-- R567. A core is admitted. -/
def State.admitted (s : State) (n : Nat) : Bool := bitOf (s.get FT_CORE_ADM) n

/-- WITHDRAW (R569). -/
def execWithdraw (fn core : Nat) (s : State) : Outcome :=
  ftCmd fn (1 + 256 * core) (.withdraw fn core) s (fun _ => .ok) fun s =>
    (s.set FT_CORE_ADM (s.get FT_CORE_ADM - (if s.admitted core then 2 ^ core else 0))).ftEnds .ok

/-- R571. What refuses a REFILL. -/
def State.refillStatus (s : State) (core set copy src ctx : Nat) : Status :=
  match (s.wset set).cfg with
  | none => .badParam
  | some c =>
    if s.admitted core || !bitOf c.cores core || (src == 1 && !s.on (CTX_STAT_LOADED core ctx)) || (c.mode == 1 && copy != s.get (WSET_STAT_CUR set)) then .badParam
    else .ok

/-- REFILL (R345, R571): the core's valid bit clears when the copy begins to be written. -/
def execRefill (fn core set copy src ctx : Nat) (s : State) : Outcome :=
  ftCmd fn (2 + 256 * core + 2 ^ 16 * set + 2 ^ 19 * copy + 2 ^ 20 * src + 2 ^ 24 * ctx) (.refill fn core set copy src ctx) s
    (·.refillStatus core set copy src ctx) fun s => (s.setHolds set copy core false).ftStart (.refill core set copy src ctx)

/-- R339, R343, R571. What a REFILL writes on a core that is ON, and its status. -/
def State.refillCore (s : State) (core set copy src ctx : Nat) (c : SetCfg) (srcs : List ReadOutcome) : State × Status :=
  if src = 0 then s.fillPart set copy core c (srcs.headD .unsupported)
  else match Map.find s.work.images (core * 16 + ctx) with
    | none => (s, .aborted)
    | some img =>
      match s.manifest (s.setHolder set) core (c.baseOf copy) c.len img srcs img.manCnt 0 with
      | (t, .ok, _, _) => (t, .ok)
      | (t, st, i, _) => ((t.set (MAN_ENTRY set) i).raise (0x321 + set) 3, st)

/-- R51, R301. The accesses of a REFILL wait for the end of a quiesce. -/
def State.copyHeld (s : State) (core set copy src : Nat) : Bool :=
  match (s.wset set).cfg with
  | some c => s.coreOn core && (if src = 0 then s.fillHeld set copy core c else s.manHeld set core)
  | none => false

/-- REFILL_DONE (R345, R571): the copy is written and the core's valid bit set; on a core that is not ON nothing is written. A set that is gone ends it ABORTED. -/
def execRefillDone (srcs : List ReadOutcome) (s : State) : Outcome :=
  match s.power.ftJob with
  | some (.refill core set copy src ctx) =>
    if s.stall || s.copyHeld core set copy src then .next s
    else
      let t := { s with power := { s.power with ftJob := none } }
      match (t.wset set).cfg with
      | none => .next (t.ftEnds .aborted)
      | some c =>
        if !t.coreOn core then .next (t.ftEnds .ok)
        else match t.refillCore core set copy src ctx c srcs with
          | (u, .ok) => .next ((u.setHolds set copy core true).ftEnds .ok)
          | (u, st) => .next (u.ftEnds st)
  | _ => .next s

/-- EPOCH_SYNC (R572). -/
def execEpochSync (fn core : Nat) (s : State) : Outcome :=
  ftCmd fn (3 + 256 * core) (.epochSync fn core) s (fun s => if !s.holdsCurrent core then .badParam else if !s.coreOn core then .aborted else .ok) fun s =>
    (s.set (CORE_EPOCH core) (s.get CHIP_EPOCH)).ftEnds .ok

/-- R573. What refuses an ADMIT. A core whose domain is not ON has no CORE_EPOCH to compare (assumption 69). -/
def State.admitStatus (s : State) (core : Nat) : Status :=
  if bitOf (s.get FT_CORE_FAULT) core || !bitOf (s.get FT_SLOT_PASS) (s.physSlot core) then .badParam
  else if !s.coreOn core then .aborted
  else if s.get (CORE_EPOCH core) ≠ s.get CHIP_EPOCH then .badParam
  else .ok

/-- ADMIT (R573). -/
def execAdmitCore (fn core : Nat) (s : State) : Outcome :=
  ftCmd fn (4 + 256 * core) (.admitCore fn core) s (·.admitStatus core) fun s => (s.set FT_CORE_ADM (s.get FT_CORE_ADM ||| 2 ^ core)).ftEnds .ok

/-- ARRAY_TEST (R565): one array, whose page shows QUIESCED. -/
def execArrayTest (fn core array : Nat) (s : State) : Outcome :=
  ftCmd fn (5 + 256 * core + 4096 * array) (.arrayTest fn core array) s
    (fun s => if s.coreOn core && (s.page (arrayPage core array)).quiesced then .ok else .badParam) fun s => s.ftStart (.arrayTest core array)

/-- ARRAY_TEST_DONE (R565): the failing columns show in FT_COLRES; no map changes. -/
def execArrayTestDone (columns : Nat) (s : State) : Outcome :=
  match s.power.ftJob with
  | some (.arrayTest core _) =>
    if s.stall then .next s
    else
      let t := { s with power := { s.power with ftJob := none } }
      if !t.coreOn core then .next (t.ftEnds .aborted)
      else .next ((((t.set (FT_COLRES 0) columns).set (FT_COLRES 1) (columns / 2 ^ 32)).set (FT_COLRES 2) (columns / 2 ^ 64 % 2)).ftEnds .ok)
  | _ => .next s

/-- FT_POP (R589): a read pops the oldest entry and captures its unit and time. -/
def execFtPop (fn : Nat) (s : State) : Outcome :=
  mmioRead fn 0x700 s fun s =>
    match s.faultLog with
    | [] => .next { s with readData := 0 }
    | e :: es =>
      let t := { s with readData := e.cls + 256 * e.status + 2 ^ 16 * e.fn + 2 ^ 31, faultLog := es }
      let u := ((((t.set FT_UNIT_LCORE e.lcore).set FT_UNIT_PSLOT e.pslot).set FT_UNIT_ARRAY e.array).set FT_UNIT_PORT e.port).set FT_UNIT_INDEX e.index
      .next ((u.set FT_TIME_NS e.time.ns).set FT_TIME_SEC e.time.sec)

/-! ### Fuses (R574 to R586) -/

/-- The fuse page's unlock takes a value. -/
def State.unlocked (s : State) (b : Bool) : State := { s with fuses := { s.fuses with unlocked := b } }

/-- FU_UNLOCK (R579): the next write of FU_CMD takes effect where `v` is 0x0000_F05E. -/
def execFuUnlock (fn v : Nat) (s : State) : Outcome :=
  mmio fn 3 s fun s => if s.behind 3 then s.hold 3 (.fuUnlock fn v) else .next (s.unlocked (v % 2 ^ 32 == 0xF05E))

/-- R579, R588. A fuse command is refused; RESULT shows it unless another is in progress. -/
def State.fuRefused (s : State) (word : Nat) (st : Status) : State :=
  (if s.on FU_STAT_BUSY then s else s.set FU_STAT_RESULT st.code).capture 3 st (FU_CMD_OP.addr % 4096) word

/-- R580, R581. A burn begins: its log entry, uncommitted, with the count already decremented. -/
def State.burn (s : State) (op a0 a1 v old left : Nat) : State :=
  let e : FuseEntry := { op := op, arg0 := a0, arg1 := a1, value := v, old := old, remaining := left - 1, committed := false, time := s.now }
  let t := { s with fuses := { s.fuses with log := s.fuses.log ++ [e], burning := true } }.showCounts
  ((((t.set FU_CMD_OP op).set FU_CMD_ARG0 a0).set FU_CMD_ARG1 a1).set FU_CMD_VALUE v).flag FU_STAT_BUSY true

/-- R51, R578, R579, R588. A write of FU_CMD: ignored without the unlock just before it, held while the page is quiesced, refused while BUSY, by its own check, or for want
of count. `old` is the value that the change replaces, `left` the changes that remain. -/
def fuCmd (fn op a0 a1 v : Nat) (c : Instr) (s : State) (check : State → Status) (old left : State → Nat) (live : State → State) : Outcome :=
  mmio fn 3 s fun s =>
    let word := op + 256 * a0 + 4096 * a1 + 65536 * v
    if s.behind 3 || (s.quiet 3 && s.fuses.unlocked) then s.hold 3 c
    else if !s.fuses.unlocked then .next (s.capture 3 .badParam (FU_CMD_OP.addr % 4096) word)
    else
      let t := s.unlocked false
      if t.on FU_STAT_BUSY then .next (t.fuRefused word .badParam)
      else match check t with
        | .ok => if left t = 0 then .next (t.fuRefused word .refusedCapacity) else .next (live (t.burn op a0 a1 v (old t) (left t)))
        | st => .next (t.fuRefused word st)

/-- The core map's register of a core, and the place of its nibble. -/
def coreMapField (core : Nat) : Field := if core < 8 then FU_CORE_MAP0 else FU_CORE_MAP1

/-- A word with its nibble `i` replaced. -/
def withNibble (w i v : Nat) : Nat := w - bitsOf w (4 * i) 4 * 16 ^ i + v % 16 * 16 ^ i

/-- R574. What refuses a CORE_REMAP. -/
def State.coreRemapStatus (s : State) (core slot : Nat) : Status :=
  let m := s.get (coreMapField core)
  let assigned := (List.range 8).any (fun i => bitsOf m (4 * i) 4 == slot)
  if decide (8 < slot) || assigned || !bitOf (s.get FT_SLOT_PASS) ((if core < 8 then 0 else 9) + slot) || s.admitted core || !s.coreOn core || !s.coreIdle core then .badParam
  else .ok

/-- CORE_REMAP (R574, R575, R578). -/
def execCoreRemap (fn core slot : Nat) (s : State) : Outcome :=
  fuCmd fn 1 core 0 slot (.coreRemap fn core slot) s (·.coreRemapStatus core slot) (fun s => bitsOf (s.get (coreMapField core)) (4 * (core % 8)) 4)
    (fun s => s.fuses.left 4 (fun e => e.op == 1)) id

/-- R577. What refuses a LANE_REMAP. -/
def State.laneRemapStatus (s : State) (port lane phys : Nat) : Status :=
  let st := s.get (PORT_STAT_STATE port)
  if decide (7 < port) || decide (7 < lane) || decide (8 < phys) || (List.range 8).any (fun i => bitsOf (s.get (FU_LANE_MAP port)) (4 * i) 4 == phys)
      || (bitOf (s.get (PORT_LANES_LANE_ACTIVE port)) lane && st != 0 && st != 6) then .badParam
  else .ok

/-- LANE_REMAP (R577, R578): the live map changes at once. -/
def execLaneRemap (fn port lane phys : Nat) (s : State) : Outcome :=
  fuCmd fn 2 port lane phys (.laneRemap fn port lane phys) s (·.laneRemapStatus port lane phys) (fun s => bitsOf (s.get (FU_LANE_MAP port)) (4 * lane) 4)
    (fun s => s.fuses.laneLeft port) fun s => s.set (FU_LANE_MAP port) (withNibble (s.get (FU_LANE_MAP port)) lane phys)

/-- RKE_ADVANCE (R578, R582): the root-key epoch rises by 1. -/
def execRkeAdvance (fn : Nat) (s : State) : Outcome :=
  fuCmd fn 3 0 0 0 (.rkeAdvance fn) s (fun _ => .ok) (fun s => s.get FU_RKE_EPOCH) (fun s => s.fuses.left 64 (fun e => e.op == 3)) id

/-- R586. What refuses a PROFILE_RAISE: its own order of checks. -/
def State.profileStatus (s : State) (v : Nat) : Status :=
  if s.on FU_LOCKS_PROFILE then .refusedCapacity
  else if !(decide (s.get FU_PROFILE_CUR < v) && decide (v ≤ s.get FU_PROFILE_MAX)) then .badParam
  else .ok

/-- PROFILE_RAISE (R578, R586). -/
def execProfileRaise (fn v : Nat) (s : State) : Outcome :=
  fuCmd fn 4 0 0 v (.profileRaise fn v) s (·.profileStatus v) (fun s => s.get FU_PROFILE_NEXT) (fun s => s.fuses.left 15 (fun e => e.op == 4)) id

/-- PROFILE_LOCK (R578): once. -/
def execProfileLock (fn : Nat) (s : State) : Outcome :=
  fuCmd fn 5 0 0 0 (.profileLock fn) s (fun _ => .ok) (fun s => s.get FU_LOCKS_PROFILE)
    (fun s => if s.on FU_LOCKS_PROFILE then 0 else s.fuses.left 1 (fun e => e.op == 5)) id

/-- DEBUG_LOCK (R578, R583): once; it takes effect at once. -/
def execDebugLock (fn : Nat) (s : State) : Outcome :=
  fuCmd fn 6 0 0 0 (.debugLock fn) s (fun _ => .ok) (fun s => s.get FU_LOCKS_DEBUG) (fun s => s.fuses.left 1 (fun e => e.op == 6)) (·.flag FU_LOCKS_DEBUG true)

/-- R575. The steps of a core remap that follow its burn. -/
def State.remapped (s : State) (core slot : Nat) : State :=
  let t := if s.coreOn core then (s.emptyCache core).abortTasks core else s
  let f := coreMapField core
  let u := t.set f (withNibble (t.get f) (core % 8) slot)
  let v := (((u.coreClear core).zeroStores core).clearHolds core)
  if s.coreOn core then v.resetCorePages core true else v

/-- R577, R580, R582, R583, R586. The new value of a setting is committed: the fuses hold it, the registers show it. -/
def State.committed (s : State) (e : FuseEntry) : State :=
  let x := s.fuses
  if e.op = 1 then ({ s with fuses := { x with coreMap := x.coreMap.set e.arg0 e.value } }).remapped e.arg0 e.value
  else if e.op = 2 then { s with fuses := { x with laneMap := x.laneMap.set e.arg0 (withNibble (x.laneMap.getD e.arg0 0) e.arg1 e.value) } }
  else if e.op = 3 then ({ s with fuses := { x with rkeEpoch := x.rkeEpoch + 1 } }).set FU_RKE_EPOCH (x.rkeEpoch + 1)
  else if e.op = 4 then ({ s with fuses := { x with profile := max x.profile e.value } }).set FU_PROFILE_NEXT (max x.profile e.value)
  else if e.op = 5 then ({ s with fuses := { x with profileLock := true } }).flag FU_LOCKS_PROFILE true
  else { s with fuses := { x with debugLock := true } }

/-- BURN_DONE (R575, R579, R580): the new value and the commit bit are burned; RESULT is OK. -/
def execBurnDone (s : State) : Outcome :=
  match s.fuses.burning, s.fuses.log.getLast? with
  | true, some e =>
    let t := { s with fuses := { s.fuses with burning := false, log := s.fuses.log.dropLast ++ [{ e with committed := true }] } }
    .next ((((t.committed e).flag FU_STAT_BUSY false).set FU_STAT_RESULT Status.ok.code).raise 3 1)
  | _, _ => .next s

end Sys2Proof.Machine
end

