-- ==== Sys2Proof/Machine/Sched.lean ====
section
/-!
DEFINITION. The scheduler's commands and events (chapter 07): gets and dispatch, the expansion of chain items, host posts, attention entries, bindings,
flow commands, delay-list commands, channels and their spill areas.
-/

namespace Sys2Proof.Machine

/-! ### Gets and dispatch -/

/-- SLOT_GET (R120, R145, R150): an enabled, idle slot of a core that is not quiesced and has no resume waiting issues its get. -/
def execSlotGet (core slot : Nat) (s : State) : Outcome :=
  event (0x107 + 16 * core) s fun s =>
    if bitOf (s.get (SEQ_CTRL_SLOT_EN core)) slot && s.get (SLOT_STAT_STATE core slot) == 1 && !s.quiet (0x107 + 16 * core)
        && (s.running core slot).isNone && !s.work.gets.contains (core, slot) && !s.work.resumes.any (fun r => r.1 == core) then
      .next { s with work := { s.work with gets := s.work.gets ++ [(core, slot)] } }
    else .next s

/-- R209. Beats of the selection that always suffice: a deficit grows by at least 1 a cycle and no cost is above 4,096. -/
def selectFuel : Nat := 8 * 4100

/-- TASK_DISPATCH (R211, R212, R230): the oldest pending get of an admitted core with an eligible group receives a task. -/
def execTaskDispatch (s : State) : Outcome :=
  event 0x200 s fun s =>
    if s.quiet 0x200 then .next s
    else match s.work.gets.find? (fun g => bitOf (s.get FT_CORE_ADM) g.1 && s.eligible g.1 g.2) with
      | none => .next s
      | some (core, slot) =>
        match s.select core slot selectFuel with
        | none => .next s
        | some (w, s1) =>
          match (s1.flow w).queue with
          | [] => .next s
          | x :: q =>
            let s2 := ((s1.setFlow w { s1.flow w with queue := q, service := some x }).set (FLOW_STATE w) 2).refresh w
            let s3 := { s2 with work := { s2.work with gets := s2.work.gets.filter (fun g => g != (core, slot)) } }
            .next (s3.startTask core slot x)

/-! ### Expansion (R203 to R207) -/

/-- R205, R622. The EXPAND_ERR condition of a flow page. -/
def State.expandErr (s : State) (page : Nat) : Bool := (List.range 32).any (fun i => (s.chain (32 * (page - 1) + i)).stopped)

/-- R205. The expansion of a chain's items stops with an error. -/
def State.expandStops (s : State) (c : Nat) (st : Status) : State :=
  let t := (s.setChain c { s.chain c with stopped := true }).capture (0x200 + chainPage c) st c 0
  t.raiseEdge (0x200 + chainPage c) 2 (s.expandErr (chainPage c)) true

/-- R204. Task `j` of an item, from its header, chain, cell and binding. -/
def State.expandedTask (s : State) (c k : Nat) (h : List Byte) (e j : Nat) : Task :=
  { flow := (hdr h 6 2 % 4096 + j * s.get (BIND_FLOW_STRIDE c)) % 4096, ctx := s.get (BIND_CTL_CTX c), entry := s.get (BIND_CTL_ENTRY c),
    cost := s.get (BIND_FLOW_COST c), tidx := j, hasSrc := true, srcChain := c, srcCell := k, fn := s.chainHolder c, key := hdr h 28 4,
    args := [(hdr h 32 4 + j * s.get (BIND_ARG_STRIDE c)) % 2 ^ 32, hdr h 36 4, hdr h 40 4, hdr h 44 4], exp := e }

/-- ITEM_EXPAND (R204, R205, R230): the head item of chain `c` is taken and expanded, or left READY with the chain stopped. -/
def execItemExpand (c : Nat) (s : State) : Outcome :=
  event 0x200 s fun s =>
    if !s.takeOpen c 0 || !s.on (BIND_CTL_EN c) || (s.chain c).stopped || s.quiet 0x200 || s.quiet (0x200 + chainPage c) then .next s
    else match s.headItem c with
      | none => .next s
      | some (k, x) =>
        let n := hdr x.header 5 1 % 128
        let (e, s1) := s.newExp n (some (c, k))
        let tasks := (List.range n).map (s1.expandedTask c k x.header e)
        if 64 < n then .next (s.expandStops c .badDesc)
        else if tasks.any (fun t => s.flowHolder t.flow != s.chainHolder c) then .next (s.expandStops c .badAddr)
        else if n = 0 then .next ((s.takeCell k x).finishCell k)
        else match (s1.takeCell k x).accept (s.get (BIND_CTL_CHAN c)) (tasks.map (fun t => (t, none))) with
          | (t, true) => .next t
          | (_, false) => .next s

/-- BINDING_WRITE (R205, R217, R228): register `x` (BIND_CTL, BIND_FLOW, BIND_ARG_STRIDE) of a chain's binding takes a value; takes resume. -/
def execBindingWrite (fn c x v : Nat) (s : State) : Outcome :=
  mmio fn (0x200 + chainPage c) s fun s =>
    let go (t : State) : Outcome := .next (t.setChain c { t.chain c with stopped := false })
    if x = 0 then
      if !bitOf (s.get (FN_CHAN_MASK (s.chainHolder c))) (bitsOf v 8 5) then .next (s.refuseWrite fn (BIND_CTL_EN c).addr v)
      else go ((((s.set (BIND_CTL_EN c) v).set (BIND_CTL_CTX c) (v / 2 ^ 4)).set (BIND_CTL_CHAN c) (v / 2 ^ 8)).set (BIND_CTL_ENTRY c) (v / 2 ^ 16))
    else if x = 1 then go ((s.set (BIND_FLOW_STRIDE c) v).set (BIND_FLOW_COST c) (v / 2 ^ 16))
    else if x = 2 then go (s.set (BIND_ARG_STRIDE c) v)
    else .next s

/-! ### Host posts and attention (R228, R229) -/

/-- A host post of flow page `j` is withheld. -/
def State.postBusy (s : State) (j : Nat) : Bool := s.held.any (fun h => match h.2 with | .hostPost _ i _ => i == j | _ => false)

/-- R228. A host post ends with a status: POST_DONE, and a capture of the status where it was refused (R616). -/
def State.postEnds (s : State) (fn j dlist : Nat) (st : Status) : State :=
  let u := if st = .ok then s else s.captureFn fn (0x200 + j) st ((POST_CTRL_GO j).addr % 4096) (1 + 2 * (dlist % 4))
  (u.set (POST_CTRL_STATUS j) st.code).raise (0x200 + j) 3

/-- HOST_POST (R214, R217, R219, R228): POST_CTRL of flow page `j` is written with GO = 1. The post acts for the page's holder. -/
def execHostPost (fn j dlist : Nat) (s : State) : Outcome :=
  mmio fn (0x200 + j) s fun s =>
    if s.postBusy j then .next s
    else if s.quiet 0x200 || s.spillHeld (s.get (FN_SCHED_POST_CHAN (s.tripleHolder j))) 1 then (s.set (POST_CTRL_DLIST j) dlist).hold (0x200 + j) (.hostPost fn j dlist)
    else fabric (0x200 + j) (0x200 + j) (.hostPost fn j dlist) (s.set (POST_CTRL_DLIST j) dlist) fun s =>
      let item := (List.range 8).flatMap (fun x => leBytes 4 (s.get (POST_ITEM j x)))
      match s.post (s.tripleHolder j) item (dlist % 4) (s.get (POST_DELAY j)) with
      | some (t, st) => .next (t.postEnds fn j dlist st)
      | none => .next (s.postEnds fn j dlist .noSpace)

/-- BQ_POP (R228): a read pops one attention entry of flow page `j` and captures its TAG. -/
def execBqPop (fn j : Nat) (s : State) : Outcome :=
  mmioRead fn (0x200 + j) s fun s =>
    match Map.get s.work.attention [] j with
    | [] => .next ({ s with readData := 0 }.set (BQ_TAG j) 0)
    | a :: q =>
      let word := a.flow + 2 ^ 12 * a.core + 2 ^ 16 * a.status + 2 ^ 31
      .next ({ s with work := { s.work with attention := Map.put [] s.work.attention j q }, readData := word }.set (BQ_TAG j) a.tag)

/-! ### Flow commands (R200) -/

/-- R228. A flow command of flow page `j` is withheld. -/
def State.flowBusy (s : State) (j : Nat) : Bool :=
  s.held.any (fun h => match h.2 with
    | .releaseSkip _ w => 1 + w / 512 == j
    | .releaseRetry _ w => 1 + w / 512 == j
    | .clearStale _ w => 1 + w / 512 == j
    | .purge _ w => 1 + w / 512 == j
    | _ => false)

/-- R228. A write of FLOW_CMD of flow page `j` is refused BAD_PARAM. -/
def State.flowRefused (s : State) (fn j v : Nat) : State := (s.set (FLOW_CMD_STAT_RESULT j) Status.badParam.code).refuseWrite fn (FLOW_CMD_FLOW j).addr v

/-- R200, R228. Flow command `op` of the function `fn`, refused while another one of the page is in progress; its status goes to FLOW_CMD_STAT. -/
def flowCmd (fn w op : Nat) (c : Instr) (s : State) (body : State → State × Status) : Outcome :=
  mmio fn (flowPage w) s fun s =>
    if s.flowBusy (1 + w / 512) then .next (s.flowRefused fn (1 + w / 512) (w % 512 + op * 2 ^ 16))
    else fabric (flowPage w) (flowPage w) c s fun s => let (t, st) := body s; .next (t.set (FLOW_CMD_STAT_RESULT (1 + w / 512)) st.code)

/-- R630. The status of a release of a BLOCKED flow: STALE while the flow is STALE. -/
def State.releaseStatus (s : State) (w : Nat) : Status := if s.on (FLOW_STALE w) then .stale else .ok

/-- RELEASE_SKIP (R200): the failed task is dropped as done. -/
def execReleaseSkip (fn w : Nat) (s : State) : Outcome :=
  flowCmd fn w 1 (.releaseSkip fn w) s fun s =>
    match (s.flow w).service with
    | some x =>
      if s.get (FLOW_STATE w) ≠ 4 then (s, .ok)
      else
        ((((s.setFlow w { s.flow w with service := none }).set (FLOW_STATE w) 0).taskDone x.exp x.tidx).refresh w |>.attnRefresh w, s.releaseStatus w)
    | none => if s.get (FLOW_STATE w) ≠ 4 then (s, .ok) else (((s.set (FLOW_STATE w) 0).refresh w).attnRefresh w, s.releaseStatus w)

/-- R200. A task that is to run again has not ended. -/
def State.unended (s : State) (x : Task) : State :=
  match s.exp x.exp with
  | some e => s.setExp { e with ended := e.ended.filter (fun i => i != x.tidx) }
  | none => s

/-- RELEASE_RETRY (R200): the failed task goes back to the head of its queue. -/
def execReleaseRetry (fn w : Nat) (s : State) : Outcome :=
  flowCmd fn w 2 (.releaseRetry fn w) s fun s =>
    match (s.flow w).service with
    | some x =>
      if s.get (FLOW_STATE w) ≠ 4 then (s, .ok)
      else
        ((((s.setFlow w { s.flow w with queue := x :: (s.flow w).queue, service := none }).set (FLOW_STATE w) 0).unended x).refresh w |>.attnRefresh w, s.releaseStatus w)
    | none => if s.get (FLOW_STATE w) ≠ 4 then (s, .ok) else (((s.set (FLOW_STATE w) 0).refresh w).attnRefresh w, s.releaseStatus w)

/-- CLEAR_STALE (R200). -/
def execClearStale (fn w : Nat) (s : State) : Outcome :=
  flowCmd fn w 3 (.clearStale fn w) s fun s => (((s.flag (FLOW_STALE w) false).refresh w).attnRefresh w, .ok)

/-- PURGE (R200): every queued task of the flow that is not in service is discarded as done. -/
def execPurge (fn w : Nat) (s : State) : Outcome :=
  flowCmd fn w 4 (.purge fn w) s fun s =>
    ((s.flow w).queue.foldl (fun t x => t.taskDone x.exp x.tidx) ((s.setFlow w { s.flow w with queue := [] }).refresh w), .ok)

/-! ### Delay lists (R216) -/

/-- R216, R224. A command of delay list `d` is withheld. -/
def State.delayBusy (s : State) (d : Nat) : Bool :=
  s.held.any (fun h => match h.2 with | .dlReleaseAll _ x => x == d | .dlPurge _ x => x == d | _ => false)

/-- DL_RELEASE_ALL (R216, R230): every task of list `d` joins its flow, in sorted order. A command written while one of the list is in progress is refused. -/
def execDlReleaseAll (fn d : Nat) (s : State) : Outcome :=
  mmio fn 0x200 s fun s =>
    if s.delayBusy d then .next (s.refuseWrite fn (SDL_CMD d).addr 1)
    else if s.quiet 0x200 then s.hold 0x200 (.dlReleaseAll fn d)
    else fabric 0x200 0x200 (.dlReleaseAll fn d) s fun s =>
      .next ((s.delayList d).foldl (fun t e => t.joinFlow e.2) (s.setDelayList d []))

/-- DL_PURGE (R216): every task of list `d` is discarded as done; refused while a command of the list is in progress. -/
def execDlPurge (fn d : Nat) (s : State) : Outcome :=
  mmio fn 0x200 s fun s =>
    if s.delayBusy d then .next (s.refuseWrite fn (SDL_CMD d).addr 2)
    else fabric 0x200 0x200 (.dlPurge fn d) s fun s => .next ((s.delayList d).foldl (fun t e => t.taskDone e.2.exp e.2.tidx) (s.setDelayList d []))

/-! ### Channels (R217 to R226) -/

/-- R225. The configuration that a channel's registers hold. -/
def State.chanRegs (s : State) (k : Nat) : ChannelCfg :=
  { quota := s.get (CHN_CFG_QUOTA k), min := s.get (CHN_CFG_MIN k), spill := s.on (CHN_CFG_MODE k),
    base := s.pair (CHN_SPILL_LO k) (CHN_SPILL_HI k), size := s.get (CHN_SPILL_SIZE k) }

/-- R218, R226, R618. What refuses a channel's APPLY. -/
def State.chanApplyStatus (s : State) (k : Nat) : Status :=
  let c := s.chanRegs k
  if s.on (CHN_CTRL_ENABLE k) || s.chanUsed k != 0 || s.spillCnt k != 0 || decide (c.quota < c.min) || c.quota == 0 || (c.spill && c.size == 0) then .badParam
  else if c.spill && !s.granted 0 c.base (4096 + c.size * 4096) then .badAddr
  else if 16384 < s.minSum + c.min then .refusedCapacity
  else .ok

/-- CHN_APPLY (R218, R225, R226). -/
def execChnApply (fn k : Nat) (s : State) : Outcome :=
  command fn 0x200 (.chnApply fn k) s fun s =>
    match s.chanApplyStatus k with
    | .ok =>
      .next ((s.setChannel k { s.channel k with cfg := some (s.chanRegs k), prod := 0, cons := 0, flushed := 0 }).flag (CHN_STAT_APPLIED k) true)
    | st => .next (s.captureFn fn 0x200 st ((CHN_CTRL_APPLY k).addr % 4096) 2)

/-- R218, R226. What refuses a write of 1 to a channel's ENABLE. -/
def State.chanEnableStatus (s : State) (k : Nat) : Status :=
  match (s.channel k).cfg with
  | none => .badParam
  | some c =>
    if s.on (CHN_CTRL_ENABLE k) then .ok
    else if 16384 < s.minSum + c.min ∨ s.sharedFree < c.min - s.chanUsed k then .refusedCapacity
    else .ok

/-- CHN_ENABLE (R218, R226): a write of ENABLE. -/
def execChnEnable (fn k : Nat) (en : Bool) (s : State) : Outcome :=
  mmio fn 0x200 s fun s =>
    if !en then .next (s.flag (CHN_CTRL_ENABLE k) false)
    else match s.chanEnableStatus k with
      | .ok => .next (s.flag (CHN_CTRL_ENABLE k) true)
      | st => .next (s.captureFn fn 0x200 st ((CHN_CTRL_ENABLE k).addr % 4096) 1)

/-- CLEAR_LOST (R222). -/
def execClearLost (fn k : Nat) (s : State) : Outcome :=
  command fn 0x200 (.clearLost fn k) s fun s => .next (s.flag (CHN_STAT_SPILL_LOST k) false)

/-- R220, R221. The spill entry that 48 bytes hold: the task as it will join, and its delay list and target where it is delayed. -/
def spilledTask (b : List Byte) (k : Nat) (own : Nat × Nat × Nat) : Task × Option (Nat × Nat) :=
  let at_ : Ts := { sec := hdr b 0x30 8 / 2 ^ 30, ns := hdr b 0x30 8 % 2 ^ 30 }
  ({ Task.ofBytes b with tidx := own.2.1, exp := own.1, chan := k, seq := hdr b 0x28 4, accepted := at_ },
   if bitOf (hdr b 0x2C 1) 2 then some (hdr b 0x2C 1 % 4, hdr b 0x20 8) else none)

/-- R220, R222. Up to `n` spilled tasks return to the store; a read that fails ends the batch. -/
def State.refill (s : State) (k : Nat) : Nat → State
  | 0 => s
  | n + 1 =>
    let ch := s.channel k
    match ch.cfg, ch.ring with
    | some c, own :: rest =>
      if own.1 = 0 then (s.setChannel k { ch with cons := (ch.cons + 1) % 2 ^ 32, ring := rest }).refill k n
      else if !s.chanRoom k 1 then s
      else
        let off := 0x1000 + 128 * (ch.cons % c.lines)
        match s.hbmRead (.home 4) 0 0 0 (c.base + off) 128 with
        | (t, .ok, b) =>
          let (x, d) := spilledTask b k own
          ((t.setChannel k { ch with cons := (ch.cons + 1) % 2 ^ 32, ring := rest }).enter x d).refill k n
        | (t, st, _) => t.loseSpill k off st
    | _, _ => s

/-- R301. The reads of a batch of channel `k`, or the header write after it, wait for the end of a quiesce. -/
def State.refillHeld (s : State) (k : Nat) : Bool :=
  let ch := s.channel k
  match ch.cfg with
  | some c => (List.range 32).any (fun i => s.hbmHeld 0 (c.base + 0x1000 + 128 * ((ch.cons + i) % c.lines)) 128) || s.headerHeld k
  | none => false

/-- SPILL_REFILL (R220 to R222, R230): a batch of channel `k`. -/
def execSpillRefill (k : Nat) (s : State) : Outcome :=
  event 0x200 s fun s =>
    if s.quiet 0x200 || s.on (CHN_STAT_SPILL_LOST k) || (s.channel k).ring.isEmpty || s.refillHeld k then .next s
    else
      let t := s.storeWatched (·.refill k 32)
      .next (if (t.channel k).ring.isEmpty then t.spillHeader k else t)

/-- FLUSH_SPILL (R222): every spilled entry is discarded, counted as lost and as done. -/
def execFlushSpill (fn k : Nat) (s : State) : Outcome :=
  command fn 0x200 (.flushSpill fn k) s fun s =>
    let ch := s.channel k
    if ch.ring.isEmpty then .next s
    else if s.headerHeld k then s.hold 0x300 (.flushSpill fn k)
    else
      let n := ch.ring.length
      let s1 := (s.setChannel k { ch with ring := [], cons := (ch.cons + n) % 2 ^ 32, flushed := (ch.flushed + n) % 2 ^ 32 }).add (CHN_LOST_CNT k) n
      .next ((ch.ring.foldl (fun t e => t.taskDone e.1 e.2.1) s1).spillHeader k)

end Sys2Proof.Machine
end

