-- ==== Sys2Proof/Machine/RegRead.lean ====
section
/-!
DEFINITION. Register reads (R5, R34, R425, R426, R613, R617): the word that a read returns, from the register store, the common layout and the
live state; the captures that a read makes; the reads of the SMBus target.
-/

namespace Sys2Proof.Machine

/-- A word of Booleans, bit 0 first. -/
def bitWord : List Bool → Nat
  | [] => 0
  | b :: l => b2n b + 2 * bitWord l

/-! ### Live levels (R615, R622) -/

/-- R265. Some counter of a SYNC page that function `fn` holds satisfies `p`. -/
def State.anyCounter (s : State) (fn page : Nat) (p : Counter → Bool) : Bool :=
  s.sync.counters.any (fun e => ctrPage e.1 == page && s.ctrHolder e.1 == fn && p e.2)

/-- R622. A PWR_GOOD input is low while a domain that it serves is ON or RETAIN. -/
def State.supplyMissing (s : State) : Bool := allDomains.any (fun d => (s.dom d == .on || s.dom d == .retain) && !s.supplied d)

/-- R622. The levels of a page's level events, bit 0 first, as function `fn` sees them; a pulse event reads 0. -/
def State.levels (s : State) (fn page : Nat) : List Bool :=
  let q := (s.page page).quiesced
  if page = 0 then [q]
  else if page = 1 then [!s.power.vrAlertHigh, s.warm, false, false, s.supplyMissing, s.get SU_STATE == 4, q]
  else if page = 2 then [false, false, s.on TB_STAT_HOLDOVER, false, false, s.on TB_STAT_SKEW_HOLD, s.on TB_STAT_FREEZE]
  else if page = 3 then [s.on SU_STATE_FUSE_BAD, false, q]
  else if page = 4 then [false, false, q]
  else if 0x100 ≤ page ∧ page < 0x200 then
    let u := page % 16
    if u = 0 then [q] else if u = 7 then [false, false, false, false, false, q] else if 8 ≤ u ∧ u ≤ 10 then [false, false, q] else []
  else if page = 0x200 then [q, false, s.spillFull, s.spillLost, decide (s.storeFree ≤ s.get SCH_STORE_LOW)]
  else if 0x201 ≤ page ∧ page ≤ 0x208 then [s.attnLevel (page - 0x200), false, s.expandErr (page - 0x200), false, q]
  else if 0x210 ≤ page ∧ page ≤ 0x21F then [s.anyCounter fn page (·.notify), s.anyCounter fn page (fun c => c.satHi || c.satLo), q]
  else if page = 0x220 then [decide (s.poolFree ≤ s.get Q_POOL_LOW), q]
  else if 0x221 ≤ page ∧ page ≤ 0x228 then [s.wmSummary (page - 0x220), s.linkHeld (page - 0x220)]
  else if page = 0x300 then [false, false, false, q]
  else if 0x301 ≤ page ∧ page ≤ 0x306 then [s.get (MS_PCH_FAIL (page - 0x301)) != 0, !s.on (MS_STAT_TRAINED (page - 0x301)), q]
  else if 0x307 ≤ page ∧ page ≤ 0x30F then [false, q]
  else if page = 0x310 then [false, false, false, false, false, false, q]
  else if page = 0x320 then [q]
  else if 0x321 ≤ page ∧ page ≤ 0x328 then [false, false, false, false, false, q]
  else if page = 0x400 then [!s.on RNG_STAT_OK, false, q]
  else if 0x401 ≤ page ∧ page ≤ 0x409 then [false, false, false, false, (List.range 4).any (s.cqFull (page - 0x401)), false, q]
  else if page = 0x410 then [false, false, false, s.sluice.selfTestFailed, q]
  else if page = 0x500 then [false, false, false, false, false, false, false, q && fn == 0]
  else if 0x501 ≤ page ∧ page ≤ 0x508 then [false, false, false, q]
  else if page = 0x510 then [s.get TN_MB_PEND != 0, false, false, (List.range 8).any (fun i => s.on (TDL_STAT_OVF (i + 1))), false, q]
  else if 0x511 ≤ page ∧ page ≤ 0x518 then [s.on (MB_IN_CTRL_VALID (page - 0x510)), false, s.instState (page - 0x510) == 3]
  else if 0x600 ≤ page ∧ page < 0x680 ∧ page % 16 = 0 then
    let st := s.get (PORT_STAT_STATE ((page - 0x600) / 16))
    [st == 5, st == 6, st == 4, false, false, false, q]
  else if page = 0x680 then [s.on GRP_STAT_FORMED, s.link.formedOnce && !s.on GRP_STAT_FORMED, false, false, false, false, q]
  else if page = 0x700 then [false, s.get FT_CORE_FAULT != 0, false, false, q]
  else []

/-- R615. BLK_STAT.FAULT of a page. -/
def State.blkFault (s : State) (page : Nat) : Bool :=
  if 0x100 ≤ page ∧ page < 0x200 then
    let n := page / 16 - 16
    let u := page % 16
    if u = 0 then bitOf (s.get FT_CORE_FAULT) n else if u ≤ 4 then !s.on (MA_CAP_IN_SERVICE n (u - 1)) else false
  else if 0x301 ≤ page ∧ page ≤ 0x306 then !s.on (MS_STAT_TRAINED (page - 0x301)) || s.get (MS_PCH_FAIL (page - 0x301)) != 0
  else if page = 0x400 then !s.on RNG_STAT_OK
  else if page = 0x410 then s.sluice.selfTestFailed
  else page == 3 && s.on SU_STATE_FUSE_BAD

/-- R613, R615. BLK_STAT: READY (on the CHIP page as R557), QUIESCED, FAULT, STALLED. -/
def State.blkStat (s : State) (page : Nat) : Nat :=
  bitWord [if page = 0 then s.get SU_STATE == 4 else s.pageOn page, (s.page page).quiesced, s.blkFault page, s.stall && (page == 1 || fabricPage page)]

/-- R105, R613. BLK_CTRL.ENABLE: on an array page, whether the array is in service. -/
def State.blkEnabled (s : State) (page : Nat) : Bool :=
  if 0x100 ≤ page ∧ page < 0x200 ∧ 1 ≤ page % 16 ∧ page % 16 ≤ 4 then s.on (MA_CAP_IN_SERVICE (page / 16 - 16) (page % 16 - 1)) else (s.page page).enable

/-- R613. A word of the common layout of a page as function `fn` sees it (R627, R628). -/
def State.commonWord (s : State) (fn page off : Nat) : Nat :=
  let p := s.page (pageKey fn page)
  let own := fn = 0 ∨ !perFn page
  let err := fn = 0 ∨ (page ≠ 0 ∧ page ≠ 2)
  if off = 0x00 then blkId page
  else if off = 0x04 then 0x00010100
  else if off = 0x08 then evtBits page + 256 * blockPages page
  else if off = 0x10 then (if own then b2n (s.blkEnabled page) + 4 * b2n (s.quiet page) else 0)
  else if off = 0x14 then s.blkStat page
  else if off = 0x18 then p.evtStat
  else if off = 0x1C then p.evtEn
  else if off = 0x20 then bitWord (s.levels fn page)
  else if off = 0x24 then (if err then p.errCode + 256 * p.errCount else 0)
  else if off = 0x28 then (if err then p.errInfo0 else 0)
  else if off = 0x2C then (if err then p.errInfo1 else 0)
  else if off = 0x30 then (if err then p.errTime.ns else 0)
  else if off = 0x34 then (if err then p.errTime.sec % 2 ^ 32 else 0)
  else if off = 0x38 then (if own then b2n (s.page page).lock else 0)
  else if off = 0x3C then (if fn ≠ 0 ∧ (page = 0 ∨ page = 2) then (s.page page).scratch else p.scratch)
  else 0

/-! ### Live words -/

/-- R264. CNT_VAL of a counter. -/
def State.cntVal (s : State) (c : Nat) : Nat :=
  let x := s.counter c
  x.value + 2 ^ 16 * bitWord [x.satHi, x.satLo, s.sync.waits.any (·.ctr == c), x.armed]

/-- One bit for each of 32 elements from `base`. -/
def mask32 (p : Nat → Bool) (base : Nat) : Nat := bitWord ((List.range 32).map (fun i => p (base + i)))

/-- R204, R225. The head item of a chain that could be expanded is held only because its channel cannot accept all of its tasks now. -/
def State.itemWaits (s : State) (c k : Nat) : Bool :=
  s.on (BIND_CTL_EN c) && s.get (BIND_CTL_CHAN c) == k && s.takeOpen c 0 && !(s.chain c).stopped
    && (match s.headItem c with
        | some (_, x) => let n := hdr x.header 5 1 % 128; n != 0 && decide (n ≤ 64) && s.route3 k n s.work.nextWait == .wait
        | none => false)

/-- R225. A source of channel `k` is held by back-pressure: a posting step, or a bound chain's item. -/
def State.chanWaiting (s : State) (k : Nat) : Bool := !(s.postQueue k).isEmpty || s.work.chains.any (fun e => s.itemWaits e.1 k)

/-- R588. The entry of the fuse log that FU_LOG_SEL names, as its four words. -/
def State.fuseWords (s : State) : List Nat :=
  match s.fuses.log[s.get FU_LOG_SEL]? with
  | none => [0, 0, 0, 0]
  | some e =>
    let t := e.time.ns + e.time.sec % 2 ^ 34 * 2 ^ 30
    [e.op + 128 * b2n e.committed + 256 * e.arg0 + 4096 * e.arg1 + 65536 * e.value, e.old + 65536 * e.remaining, t % 2 ^ 32, t / 2 ^ 32]

/-- The parts of a word that show live state: least bit and value. -/
def State.live (s : State) (fn page off : Nat) : List (Nat × Nat) :=
  if page = 0 then
    (if off = 0x40 then [(0, s.get FU_ID_GRADE), (8, s.get FU_ID_STEPPING)]
     else if off = 0x44 then [(0, s.get FU_PROFILE_CUR), (16, s.get FU_PROFILE_MAX)] else [])
  else if page = 1 then
    (if off = 0x44 then [(0, (List.range 8).foldl (fun n d => n + (s.dom d).code * 4 ^ d) 0)]
     else if off = 0x48 then [(0, bitWord [s.get SU_STATE != 0, s.power.pins.io, s.power.pins.mem, s.power.pins.coreA, s.power.pins.coreB])]
     else if off = 0x80 then [(0, b2n s.power.vrAlertHigh)] else [])
  else if page = 2 then
    (if off = 0x48 then [(0, s.time.ns)] else if off = 0x4C then [(0, s.time.sec % 2 ^ 32)] else if off = 0x50 then [(0, s.time.sec / 2 ^ 32)]
     else if off = 0x70 then [(0, s.tickIndex % 2 ^ 32)] else if off = 0x74 then [(0, s.tickIndex / 2 ^ 32 % 2 ^ 32)] else [])
  else if page = 3 then (if 0xB8 ≤ off ∧ off ≤ 0xC4 then [(0, s.fuseWords.getD ((off - 0xB8) / 4) 0)] else [])
  else if page = 4 then (if off = 0x50 then [(0, if s.on PM_STAT_BUSY then 1 else s.power.pmBlkLen)] else [])
  else if 0x100 ≤ page ∧ page < 0x200 then
    let n := page / 16 - 16
    let u := page % 16
    if u = 0 then (if off = 0x40 then [(8, s.physSlot n), (16, n / 8)] else [])
    else if u = 7 then
      (if off = 0x60 then [(2, b2n (s.work.resumes.any (·.1 == n)))]
       else if 0x200 ≤ off ∧ off < 0x400 ∧ off % 0x20 = 4 then
         [(16, s.ctxActive n ((off - 0x200) / 0x20)), (24, bitWord ((List.range 7).map (fun k => (Map.find s.work.saves (recordKey n ((off - 0x200) / 0x20) k)).isSome)))]
       else [])
    else if u = 10 ∧ off = 0x48 then [(16, min 128 (s.misses n)), (24, min 16 (s.cache n).evicted.length)]
    else []
  else if page = 0x200 then
    (if off = 0x44 then [(16, s.storeFree)]
     else if 0xE0 ≤ off ∧ off < 0x100 then [(20, min 4095 (s.readyList ((off - 0xE0) / 4)).length)]
     else if 0x140 ≤ off ∧ off < 0x1C0 then
       let l := s.delayList ((off - 0x140) / 0x20)
       let t := match l.head? with | some e => e.1 | none => 2 ^ 64 - 1
       let r := (off - 0x140) % 0x20
       if r = 0x0C then [(0, l.length)] else if r = 0x10 then [(0, t % 2 ^ 32)] else if r = 0x14 then [(0, t / 2 ^ 32)]
       else if r = 0x1C then [(0, b2n (s.delayBusy ((off - 0x140) / 0x20)))] else []
     else if 0x200 ≤ off ∧ off < 0x600 then
       let k := (off - 0x200) / 0x20
       if off % 0x20 = 0x14 then [(0, s.chanUsed k), (17, b2n !(s.channel k).ring.isEmpty), (19, b2n (s.chanWaiting k))]
       else if off % 0x20 = 0x18 then [(0, s.spillCnt k)] else []
     else [])
  else if 0x201 ≤ page ∧ page ≤ 0x208 then
    (if off = 0x44 then [(0, b2n (s.flowBusy (page - 0x200)))]
     else if off = 0x74 then [(3, b2n (s.postBusy (page - 0x200)))]
     else if 0x800 ≤ off then [(21, min 2047 (s.flow (512 * (page - 0x201) + (off - 0x800) / 4)).queue.length)] else [])
  else if 0x210 ≤ page ∧ page ≤ 0x21F then
    let q := page - 0x210
    let mine (c : Nat) : Bool := s.ctrHolder c == fn
    if off = 0x40 then [(0, bitWord ((List.range 4).map (fun i => s.blockHolder (4 * q + i) == fn)))]
    else if 0x80 ≤ off ∧ off < 0xA0 then [(0, mask32 (fun c => mine c && (s.counter c).notify) (256 * q + 32 * ((off - 0x80) / 4)))]
    else if 0xA0 ≤ off ∧ off < 0xC0 then [(0, mask32 (fun c => mine c && ((s.counter c).satHi || (s.counter c).satLo)) (256 * q + 32 * ((off - 0xA0) / 4)))]
    else if 0x800 ≤ off then
      let c := 256 * q + (off - 0x800) / 8
      if !mine c then [] else if off % 8 = 0 then [(0, s.cntVal c)] else [(0, (s.counter c).watch)]
    else if q = 0 ∧ off = 0x154 then [(0, s.cntVal (s.get DBG_SEL))]
    else if q = 0 ∧ off = 0x164 then
      match s.sync.waits.find? (fun w => 4 * w.core + w.slot == s.get DBG_WAIT_SEL) with
      | some w => [(0, w.ctr), (12, w.value), (28, if w.dec then 2 else 1)]
      | none => []
    else []
  else if page = 0x220 then
    (if off = 0x44 then [(0, s.poolFree), (16, s.resSum)] else if 0x80 ≤ off ∧ off < 0xA4 then [(0, s.cellUse ((off - 0x80) / 4))] else [])
  else if 0x221 ≤ page ∧ page ≤ 0x228 ∧ 0x100 ≤ off ∧ off < 0x900 then
    let c := 32 * (page - 0x221) + (off - 0x100) / 0x40
    let count (st : ItemState) : Nat := ((s.cellsOf c).filter (fun e => e.2.state == st)).length
    let r := off % 0x40
    if r = 0x18 then [(8, bitWord ((List.range 8).map (fun m => (Map.find (s.chain c).marks m).isSome)))]
    else if r = 0x1C then [(0, s.occ c), (16, count .ready)]
    else if r = 0x20 then [(0, count .spent), (16, count .building)]
    else if r = 0x34 then [(0, s.wmLevel c)] else []
  else if 0x301 ≤ page ∧ page ≤ 0x306 then
    (if off = 0x54 then [(0, min 512 (s.outstanding (page - 0x301)))] else [])
  else if page = 0x310 then (if 0x100 ≤ off ∧ off < 0x2E0 ∧ off % 0x20 = 0x0C then [(4, b2n (s.domInUse ((off - 0x100) / 0x20)))] else [])
  else if 0x321 ≤ page ∧ page ≤ 0x328 then
    let e := page - 0x321
    if off = 0x7C then [(4, b2n (s.wsetBusy e)), (5, b2n (match (s.wset e).job with | some j => j.waiting | none => false))]
    else if off = 0x88 then [(0, s.boundCnt e 0)] else if off = 0x8C then [(0, s.boundCnt e 1)] else []
  else if page = 0x400 then
    (if off = 0x44 then [(0, s.sluiceLoad)]
     else if 0x800 ≤ off then
       let k := s.slot ((off - 0x800) / 4)
       [(0, k.cls), (5, b2n (k.cls != 0)), (6, b2n k.wrappable), (8, s.slotHolder ((off - 0x800) / 4))]
     else [])
  else if 0x401 ≤ page ∧ page ≤ 0x409 then
    let f := page - 0x401
    if off = 0x40 then [(0, s.get (FN_WIN_BASE f)), (16, s.get (FN_WIN_CNT f))] else if off = 0x44 then [(0, s.admittedOf f)] else []
  else if page = 0x410 then
    (if off = 0x48 then [(0, s.sluice.short.length), (16, s.sluice.long.length)]
     else if 0x50 ≤ off ∧ off < 0x60 then
       match Map.find s.sluice.units ((off - 0x50) / 4) with
       | some r => [(0, r.job.op), (8, b2n r.job.long), (9, b2n r.moving.isSome), (16, r.job.fn)]
       | none => []
     else if off = 0x60 then [(0, bitWord ((List.range 4).map (fun i => s.sluice.parked.any (·.1 == i))))] else [])
  else if page = 0x500 then
    (if off = 0x48 then [(0, s.host.reads.length)]
     else if off = 0x304 then [(0, (s.route fn (s.get (IRQ_SEL fn))).vector), (31, b2n (s.route fn (s.get (IRQ_SEL fn))).en)] else [])
  else if page = 0x510 then
    (if 0x800 ≤ off then
       let f := (off - 0x800) / 0x100 + 1
       let r := off % 0x100
       if r < 0x40 then [(0, s.get (MB_OUT f (r / 4)))] else if r < 0x80 then [(0, s.get (MB_IN f ((r - 0x40) / 4)))] else []
     else [])
  else if 0x511 ≤ page ∧ page ≤ 0x518 then
    let f := page - 0x510
    if off = 0x40 then [(4, s.instState f)]
    else if off = 0x44 then [(0, s.get (TG_CORES f)), (16, s.get (TG_PAGES_QPAGES f)), (24, s.get (TG_PAGES_MEMCTL_VIEW f))] else []
  else if 0x600 ≤ page ∧ page < 0x680 ∧ page % 16 = 0 then
    let v := s.port ((page - 0x600) / 16)
    if off = 0x98 then [(0, v.tx % 2 ^ 32)] else if off = 0x9C then [(0, v.rx % 2 ^ 32)] else if off = 0xA0 then [(0, v.replay.length)]
    else if off = 0xA4 then [(0, v.credits.1 + 2 ^ 10 * v.credits.2.1 + 2 ^ 20 * v.credits.2.2)] else []
  else if page = 0x680 then
    (if off = 0xA8 then [(8, bitWord ((List.range 8).map s.inData)), (16, bitWord ((List.range 8).map (fun p => s.on (PORT_CTRL_REQUIRED p))))] else [])
  else []

/-- R9. A stored field as a read of its word shows it: W1S and WO fields read 0. -/
def State.shown (s : State) (f : Field) : Nat :=
  match f.acc with
  | .w1s | .wo | .rsv => 0
  | .rw | .ro | .w1c | .rwl | .rwf => s.get f * 2 ^ f.lsb

/-- R9, R425, R450. The word at an offset, as function `fn` sees it. The PF alone sees the common registers of HOSTIF page 0 from 0x040 to 0x1FC. -/
def State.wordAt (s : State) (fn addr : Nat) : Nat :=
  let page := addr / 4096
  let off := addr % 4096
  if !implemented page then 0
  else if off < 0x40 then s.commonWord fn page off
  else if fn ≠ 0 ∧ page = 0x500 ∧ off < 0x200 then 0
  else
    let l := s.live fn page off
    let stored := (fieldsAt fn addr).filter (fun f => l.all (fun e => e.1 != f.lsb))
    (stored.foldl (fun n f => n + s.shown f) 0 + l.foldl (fun n e => n + e.2 * 2 ^ e.1) 0) % 2 ^ 32

/-! ### Reads and captures (R5, R34, R617) -/

/-- R5. The word at this page offset is the lower word of a value in two adjacent registers. -/
def lowerWord (page off : Nat) : Bool :=
  if page = 1 then off == 0x78
  else if page = 2 then off == 0x4C || off == 0x54 || off == 0x70
  else if page = 3 then off == 0xC0
  else if page = 4 then off == 0x100
  else if 0x100 ≤ page ∧ page < 0x200 then page % 16 == 7 && decide (0x200 ≤ off) && decide (off < 0x400) && off % 0x20 == 8
  else if page = 0x200 then
    (decide (0x140 ≤ off) && decide (off < 0x1C0) && ((off - 0x140) % 0x20 == 4 || (off - 0x140) % 0x20 == 0x10))
      || (decide (0x200 ≤ off) && decide (off < 0x600) && off % 0x20 == 4)
  else if 0x221 ≤ page ∧ page ≤ 0x228 then decide (0x100 ≤ off) && decide (off < 0x900) && off % 0x40 == 8
  else if page = 0x300 then off == 0x54
  else if 0x307 ≤ page ∧ page ≤ 0x30F then off == 0x44
  else if page = 0x310 then off == 0x58 || off == 0x60 || off == 0x70 || (decide (0x100 ≤ off) && decide (off < 0x2E0) && off % 0x20 == 0x10)
  else if 0x321 ≤ page ∧ page ≤ 0x328 then [0x50, 0x58, 0x60, 0x90, 0x9C].contains off
  else if 0x401 ≤ page ∧ page ≤ 0x409 then decide (0x100 ≤ off) && decide (off < 0x300) && off % 0x40 == 0
  else if page = 0x500 then off == 0x74 || off == 0x7C || (decide (0x200 ≤ off) && decide (off < 0x300) && off % 16 == 4)
  else if 0x501 ≤ page ∧ page ≤ 0x508 then decide (0x100 ≤ off) && decide (off < 0x900) && (off % 0x40 == 0 || off % 0x40 == 8 || off % 0x40 == 0x10)
  else if page = 0x510 then decide (0x100 ≤ off) && decide (off < 0x500) && (off % 0x80 == 0x20 || off % 0x80 == 0x28)
  else if 0x600 ≤ page ∧ page < 0x680 then page % 16 == 0 && (off == 0x5C || off == 0x64)
  else if page = 0x680 then [0x90, 0x98, 0xA0, 0xBC].contains off
  else page == 0x700 && off == 0x48

/-- The word that reader `who` captured at an offset. -/
def State.captured (s : State) (who addr : Nat) : Option Nat := Map.get s.captures none (who * 0x8000000 + addr)

/-- A reader's capture at an offset takes a value. -/
def State.setCaptured (s : State) (who addr : Nat) (v : Option Nat) : State :=
  { s with captures := Map.put none s.captures (who * 0x8000000 + addr) v }

/-- R355. ERR_INFO1 of a page's copy, where it holds two words in turn, has been read: the next read gives the other word. -/
def State.turnInfo (s : State) (fn page : Nat) : State :=
  let p := s.page (pageKey fn page)
  match p.errNext with
  | some v => s.setPage (pageKey fn page) { p with errInfo1 := v, errNext := some p.errInfo1 }
  | none => s

/-- R5. Reader `who` reads a word in the view of function `fn`: a captured word is returned once; otherwise the live word, and the read of a lower word captures the
upper one. -/
def State.readWord (s : State) (who fn addr : Nat) : State :=
  match s.captured who addr with
  | some v => (s.setCaptured who addr none).answer v
  | none =>
    let t := if lowerWord (addr / 4096) (addr % 4096) then s.setCaptured who (addr + 4) (some (s.wordAt fn (addr + 4))) else s
    (if addr % 4096 = 0x2C then t.turnInfo fn (addr / 4096) else t).answer (s.wordAt fn addr)

/-- R34. A read of TB_NOW_NS captures both seconds words with it. -/
def State.readNow (s : State) (who : Nat) : State :=
  ((s.setCaptured who 0x204C (some (s.time.sec % 2 ^ 32))).setCaptured who 0x2050 (some (s.time.sec / 2 ^ 32))).answer s.time.ns

/-- R617. A read of ERR_CODE captures the other four words of the error set. -/
def State.readErr (s : State) (who fn page : Nat) : State :=
  (([0x28, 0x2C, 0x30, 0x34].foldl (fun t o => t.setCaptured who (4096 * page + o) (some (s.commonWord fn page o))) s).turnInfo fn page).answer (s.commonWord fn page 0x24)

/-- TB_NOW_READ (R34). -/
def execTbNowRead (fn : Nat) (s : State) : Outcome := mmioRead fn 2 s fun s => .next (s.readNow fn)

/-- ERR_CODE_READ (R617). -/
def execErrCodeRead (fn page : Nat) (s : State) : Outcome := mmioRead fn page s fun s => .next (s.readErr fn fn page)

/-- LOWER_WORD_READ (R5, R425): a read of the word at `addr`. A register whose read has an effect of its own has it. MS_TEMP is a live reading that no command
gives: an open value (assumption 7). -/
def execLowerWordRead (fn addr : Nat) (s : State) : Outcome :=
  let a := addr / 4 * 4
  let page := a / 4096
  let off := a % 4096
  if a = 0x2048 then execTbNowRead fn s
  else if off = 0x24 then execErrCodeRead fn page s
  else if 0x201 ≤ page ∧ page ≤ 0x208 ∧ off = 0x48 then execBqPop fn (page - 0x200) s
  else if a = 0x310054 then execPlPop fn s
  else if a = 0x500070 then execAbPop fn s
  else if a = 0x6800B0 then execLeqPop fn s
  else if a = 0x700040 then execFtPop fn s
  else mmioRead fn page s fun s =>
    if 0x301 ≤ page ∧ page ≤ 0x306 ∧ off = 0x48 then
      let (v, t) := s.drawFree
      .next (t.answer (v % 256))
    else .next (s.readWord fn fn a)

/-- R559. The pages that the SMBus target reads: CHIP, POWER, FUSE, FAULT. -/
def smbusPage (page : Nat) : Bool := page == 0 || page == 1 || page == 3 || page == 0x700

/-- R426, R559, R617. A read by the SMBus target, in the PF's view with captures of its own; the pages that it reads are always on. -/
def State.smbusRead (s : State) (addr : Nat) : Outcome :=
  let a := addr / 4 * 4
  let page := a / 4096
  if !smbusPage page then .next s
  else if a % 4096 = 0x24 then .next (s.readErr 9 0 page)
  else if a = 0x700040 then execFtPop 0 s
  else .next (s.readWord 9 0 a)

/-- SMBUS_ACCESS (R535, R559, R625): a read, or a write of PWR_CMD or of CHIP_RESET. -/
def execSmbusAccess (a : SmbusOp) (s : State) : Outcome :=
  match a with
  | .read addr => s.smbusRead addr
  | .pwrCmd v => powerCmd true (v % 8) (v / 16 % 4) (bitOf v 8) (.smbusAccess (.pwrCmd v)) s
  | .chipReset v => .next (if v % 2 ^ 32 = 0xC1A5 then s.chipReset else s)

end Sys2Proof.Machine
end

