-- ==== Sys2Proof/Machine/RegWrite.lean ====
section
/-!
DEFINITION. Register writes (R9, R425, R613 to R620): a write to the fields that have no command of their own, with their chapters' range checks; the commands of
the common layout; the page reset; the tick generator (R43, R44).
-/

namespace Sys2Proof.Machine

/-! ### Fields that other commands write -/

/-- The words, and the parts of words, whose RW fields are written by commands of their own in the table of operations. -/
def ownCommand (page off lsb : Nat) : Bool :=
  if page = 1 then off == 0x74
  else if page = 2 then off == 0x40 && (lsb == 0 || lsb == 2)
  else if page = 3 then off == 0xA4
  else if 0x100 ≤ page ∧ page < 0x200 then
    let u := page % 16
    if 1 ≤ u ∧ u ≤ 4 then off == 0x44 || off == 0x48 || off == 0x4C else u == 7 && off == 0x40 && lsb == 0
  else if page = 0x200 then decide (0x200 ≤ off) && off % 0x20 == 0x10
  else if 0x201 ≤ page ∧ page ≤ 0x208 then decide (0x200 ≤ off) && decide (off < 0x400)
  else if page = 0x210 then decide (0x110 ≤ off) && decide (off < 0x130)
  else if 0x221 ≤ page ∧ page ≤ 0x228 then off % 0x40 == 0x10 && lsb == 0
  else if 0x307 ≤ page ∧ page ≤ 0x30F then decide (0x100 ≤ off) && off % 16 == 0
  else if page = 0x400 then decide (0xB0 ≤ off) && decide (off < 0xD4)
  else if 0x401 ≤ page ∧ page ≤ 0x409 then
    if off < 0x200 then off % 0x40 == 0x0C || off % 0x40 == 0x14 else off % 0x40 == 0x10 || off % 0x40 == 0x14
  else if page = 0x500 then (decide (0x200 ≤ off) && decide (off < 0x300) && off % 16 == 0xC) || off == 0x304
  else if 0x501 ≤ page ∧ page ≤ 0x508 then off % 0x40 == 0x1C || off % 0x40 == 0x20 || (off % 0x40 == 0x24 && lsb == 0)
  else page == 0x510 && [0x08, 0x0C, 0x38, 0x3C].contains (off % 0x80)

/-! ### Range checks -/

/-- A ring's size: a power of two in a range, or 0 (R14). -/
def ringSizeOk (v lo hi : Nat) : Bool := v == 0 || (decide (lo ≤ v) && decide (v ≤ hi) && decide (2 ^ Nat.log2 v = v))

/-- R54. A value of a timebase register outside its stated range; TB_TICK_NS while TICK_EN = 1. -/
def State.timebaseBad (s : State) (off v : Nat) : Bool :=
  if off = 0x5C then decide (999999999 < (signed32 v).natAbs)
  else if off = 0x60 then decide (100000 < (signed32 v).natAbs)
  else if off = 0x68 then decide (v % 2 ^ 20 < 100) || decide (1000000 < v % 2 ^ 20)
  else if off = 0x6C then
    !(s.page 2).lock && (s.on TB_CTRL_TICK_EN || decide (v < 1000) || decide (1000000 < v) || decide (1000000000 % v ≠ 0))
  else off == 0x78 && (decide (v % 2 ^ 17 < 20) || decide (100000 < v % 2 ^ 17))

/-- R159. A write of CTX_IMG or CTX_SAVE of a context in use, of an ACC above 16, of a save area past the activation store. -/
def State.ctxBad (s : State) (n c r v : Nat) : Bool :=
  (r == 0x08 || r == 0x0C || r == 0x1C) && (s.ctxActive n c != 0 || s.ctxSaved n c != 0
    || (r == 0x1C && (decide (16 < bitsOf v 16 5) || decide (8388608 < v % 2048 * 4096 + bitsOf v 12 3 * (4096 + bitsOf v 16 5 * 65536)))))

/-- R333. A word of W_CTX_SET names a set that is not the core's holder's, or whose CORES omits the core. CORES of a set that is OFF is its register's. -/
def State.ctxSetBad (s : State) (n v : Nat) : Bool :=
  (List.range 8).any (fun i =>
    let e := bitsOf v (4 * i) 4
    let cores := match (s.wset e).cfg with | some c => c.cores | none => s.get (WSET_CFG_CORES e)
    e != 15 && (decide (8 ≤ e) || s.setHolder e != s.coreHolder n || !bitOf cores n))

/-- R353. A write of W_SET_FN that gives a set that is not OFF another holder, or an undefined one. -/
def State.setFnBad (s : State) (v : Nat) : Bool :=
  (List.range 8).any (fun e =>
    let h := bitsOf v (4 * e) 4
    h != s.setHolder e && (s.get (WSET_STAT_STATE e) != 0 || (decide (8 < h) && h != 15)))

/-- R518. Some port is in EXCHANGE, HELD or DATA. -/
def State.groupBusy (s : State) : Bool := (List.range 8).any (fun p => let st := s.get (PORT_STAT_STATE p); st == 3 || st == 4 || st == 5)

/-- R518. A group setting that cannot be written now, or that is outside its range. -/
def State.groupBad (s : State) (off v : Nat) : Bool :=
  ((decide (0x40 ≤ off) && decide (off < 0x6C)) || off == 0x90 || off == 0x94)
    && (s.groupBusy || (off == 0x44 && (decide (bitsOf v 8 9 ≤ v % 256) || decide (256 < bitsOf v 8 9))))

/-- R527. A write to word `r` (0, 4 or 8) of a link flow changes a field other than EN of a word whose EN is 1, or names an undefined function. -/
def State.linkFlowBad (s : State) (w r v : Nat) : Bool :=
  if r = 0 then
    decide (8 < bitsOf v 8 4) || (s.on (LF_TX_EN w) && (s.get (LF_TX_DEST w) != v % 256 || s.get (LF_TX_FN w) != bitsOf v 8 4 || s.get (LF_TX_LEN w) != bitsOf v 12 16))
  else if r = 4 then decide (8 < bitsOf v 28 4)
  else s.on (LF_RX1_EN w)
    && (s.get (LF_RX1_LEN w) != v % 65536 || s.get (LF_RX1_SRC_MEMBER w) != bitsOf v 16 8 || s.get (LF_RX1_ANY_SRC w) != bitsOf v 24 1)

/-- A refusal, where one is called for, and what it leaves. -/
def refusedIf (b : Bool) (s : State) : Option State := if b then some s else none

/-- The plain refusal of a write to the word at `off` of a page. -/
def State.writeRefused (s : State) (fn page off v : Nat) (b : Bool) : Option State := refusedIf b (s.refuseWrite fn (4096 * page + off) v)

/-- The refusals of writes to the chip pages and the pages of the cores. A refused CTX_IMG or CTX_SAVE write is captured in the layout of R159 with its context; the step, slot, flow
and opcode, which no step gives, are 0 (assumption 109). -/
def State.refusalChip (s : State) (fn page off v : Nat) : Option State :=
  if page = 1 then
    (if off = 0x40 then refusedIf (bitsOf v 4 2 == 0) (s.pwrBegin false (v % 8) 0 (bitOf v 8))
     else s.writeRefused fn page off v (off == 0x70 && (decide (v % 256 < 40) || decide (115 < v % 256))))
  else if page = 2 then s.writeRefused fn page off v (s.timebaseBad off v)
  else if page = 3 then
    (if off = 0xA4 then refusedIf (v % 16 == 0 || decide (6 < v % 16))
       (if s.fuses.unlocked then (s.unlocked false).fuRefused v .badParam else s.capture 3 .badParam 0xA4 v)
     else s.writeRefused fn page off v (off == 0xB0 && decide (191 < v % 256)))
  else if page = 4 then s.writeRefused fn page off v ((off == 0x40 && v % 4 == 3) || (off == 0x44 && decide (5 < bitsOf v 16 3)))
  else if 0x100 ≤ page ∧ page < 0x200 then
    let n := page / 16 - 16
    let u := page % 16
    if 1 ≤ u ∧ u ≤ 4 then s.writeRefused fn page off v (off == 0x50 && v % 4 == 3)
    else if u = 7 ∧ 0x200 ≤ off ∧ off < 0x400 then
      let c := (off - 0x200) / 0x20
      refusedIf (s.ctxBad n c (off % 0x20) v) (s.capture page .badParam (c * 2 ^ 24) 0)
    else refusedIf (u == 10 && off == 0x44 && (v % 4 == 0 || v % 4 == 3)) (s.lcRefused fn n v)
  else none

/-- The refusals of writes to the pages of the scheduler, the counters and the chains. -/
def State.refusalWork (s : State) (fn page off v : Nat) : Option State :=
  if page = 0x200 then
    s.writeRefused fn page off v ((off == 0x48 && (decide (v % 2 ^ 20 < 4096) || decide (1048575 < v % 2 ^ 20)))
      || (decide (0x140 ≤ off) && decide (off < 0x1C0) && (off - 0x140) % 0x20 == 0x18 && (v % 4 == 0 || v % 4 == 3)))
  else if 0x201 ≤ page ∧ page ≤ 0x208 then
    refusedIf (off == 0x40 && (bitsOf v 16 4 == 0 || decide (4 < bitsOf v 16 4)))
      (s.flowRefused fn (page - 0x200) v)
  else if 0x210 ≤ page ∧ page ≤ 0x21F then
    let bad := bitsOf v 16 3 == 0 || decide (5 < bitsOf v 16 3)
    let c := 256 * (page - 0x210) + (off - 0x800) / 8
    if 0x800 ≤ off ∧ off % 8 = 4 then refusedIf (bad && s.ctrHolder c == fn) (s.captureFn fn page .badParam c 0)
    else refusedIf (page == 0x210 && off == 0x158 && bad) (s.captureFn fn page .badParam (s.get DBG_SEL) 0)
  else if 0x221 ≤ page ∧ page ≤ 0x228 ∧ 0x100 ≤ off ∧ off < 0x900 then
    let c := 32 * (page - 0x221) + (off - 0x100) / 0x40
    let r := off % 0x40
    if r = 0x14 then refusedIf (v % 16 == 0 || decide (6 < v % 16)) (s.chainError c (v % 16) .badParam)
    else match (s.chain c).desc with
      | some d =>
        refusedIf (r == 0x2C && (decide (v % 2 ^ 14 < 1) || decide (d.length < v % 2 ^ 14) || decide (v % 2 ^ 14 ≤ bitsOf v 16 14))) (s.chainError c 0xD .badParam)
      | none => none
  else none

/-- The refusals of writes to the pages of memory, protection and weights. -/
def State.refusalMemory (s : State) (fn page off v : Nat) : Option State :=
  if page = 0x300 then s.writeRefused fn page off v (off == 0x44 && (decide (bitsOf v 8 8 < 1) || decide (168 < bitsOf v 8 8)))
  else if 0x307 ≤ page ∧ page ≤ 0x30F ∧ 0x100 ≤ off ∧ off < 0x500 ∧ off % 16 ≠ 0 then
    let f := page - 0x307
    refusedIf (s.on (SEG_FBASE_VALID f ((off - 0x100) / 16)) || s.on (SEG_STAT_BUSY f))
      ((s.set (SEG_STAT_RESULT f) Status.badParam.code).refuseWrite fn (4096 * page + off) v)
  else if page = 0x310 then
    if 0x100 ≤ off ∧ off < 0x2E0 then
      let d := (off - 0x100) / 0x20
      let r := off % 0x20
      if r = 8 then refusedIf (v % 8 == 0 || decide (4 < v % 8)) (s.domRefused fn d (v % 8))
      else s.writeRefused fn page off v ((r == 0 && (s.get (DOM_STAT_STATE d) != 0 || decide (8 < v % 16))) || (r == 0x18 && decide (1000 < v % 1024)))
    else s.writeRefused fn page off v (off == 0x7C && decide (1000 < bitsOf v 16 10))
  else if page = 0x320 then
    s.writeRefused fn page off v ((off == 0x48 && s.setFnBad v) || (decide (0x100 ≤ off) && decide (off < 0x200) && decide (off % 16 < 8) && s.ctxSetBad ((off - 0x100) / 16) v))
  else if 0x321 ≤ page ∧ page ≤ 0x328 then
    if off = 0x70 then
      refusedIf (v % 8 == 0 || v % 8 == 7) (s.wsetError (page - 0x321) (v % 8) (bitsOf v 4 1) (bitsOf v 8 4) 0 .badParam)
    else s.writeRefused fn page off v (off == 0x68 && (decide (v % 2 ^ 13 < 1) || decide (7200 < v % 2 ^ 13)))
  else none

/-- R374. A write of FN_QOS of function `f` would take the sum of DESC_MIN over the 1,024 that Sluice admits. -/
def State.descMinOver (s : State) (f v : Nat) : Bool :=
  decide (1024 < ((List.range 9).filter (· != f)).foldl (fun n g => n + s.get (FN_QOS_DESC_MIN g)) (bitsOf v 16 11))

/-- The refusals of writes to the pages of the sluices, the host interface and the tenants. -/
def State.refusalHost (s : State) (fn page off v : Nat) : Option State :=
  if page = 0x400 then
    (if 0x50 ≤ off ∧ off < 0x74 then refusedIf (s.descMinOver ((off - 0x50) / 4) v) (s.captureFn fn page .refusedCapacity off v)
     else s.writeRefused fn page off v (off == 0xE0 && bitsOf v 28 4 != 1))
  else if 0x401 ≤ page ∧ page ≤ 0x409 ∧ 0x100 ≤ off ∧ off < 0x300 then
    let f := page - 0x401
    let r := (off - 0x100) / 0x40 % 4
    let on := if off < 0x200 then s.on (RQ_CFG_ENABLE f r) else s.on (CQ_CFG_ENABLE f r)
    s.writeRefused fn page off v (decide (off % 0x40 ≤ 8) && (on || (off % 0x40 == 8 && !ringSizeOk (v % 2 ^ 17) 16 65536)))
  else if page = 0x410 then s.writeRefused fn page off v (off == 0x44 && (v % 8 == 0 || decide (4 < v % 8)))
  else if page = 0x500 then
    s.writeRefused fn page off v ((off == 0x44 && !(s.page 0x500).lock && (decide (v % 8 < 4) || decide (6 < v % 8)))
      || (decide (0xA0 ≤ off) && decide (off < 0xC4) && (decide (v % 1024 < 1) || decide (768 < v % 1024)))
      || (decide (0x200 ≤ off) && decide (off < 0x300) && off % 16 != 0xC && s.on (HW_ATTR_VALID fn ((off - 0x200) / 16))))
  else if 0x501 ≤ page ∧ page ≤ 0x508 ∧ 0x100 ≤ off ∧ off < 0x900 then
    let c := 32 * (page - 0x501) + (off - 0x100) / 0x40
    let r := off % 0x40
    refusedIf (decide (r ≤ 0x18) && (s.on (HR_CTRL_ENABLE c) || (r == 0x18 && !ringSizeOk (v % 2 ^ 14) 16 8192))) (s.ringRefused c)
  else if page = 0x510 then
    if 0x100 ≤ off ∧ off < 0x500 then
      let f := (off - 0x100) / 0x80 + 1
      let r := off % 0x80
      if r = 4 then refusedIf (v % 8 == 0 || decide (5 < v % 8)) (s.instRefused f 0)
      else refusedIf (decide (0x20 ≤ r) && decide (r ≤ 0x30) && (s.on (TDL_CTRL_EN f) || (r == 0x30 && !ringSizeOk (v % 2 ^ 21) 256 1048576))) (s.capture 0x510 .badParam f v)
    else s.writeRefused fn page off v (decide (0x800 ≤ off) && decide (0x40 ≤ off % 0x100) && decide (off % 0x100 < 0x80) && s.on (MB_RSP_CTRL_BUSY ((off - 0x800) / 0x100 + 1)))
  else if 0x511 ≤ page ∧ page ≤ 0x518 then s.writeRefused fn page off v (decide (0x100 ≤ off) && decide (off < 0x140) && s.on (MB_OUT_CTRL_BUSY (page - 0x510)))
  else if 0x600 ≤ page ∧ page < 0x680 then
    let p := (page - 0x600) / 16
    let st := s.get (PORT_STAT_STATE p)
    s.writeRefused fn page off v (off == 0x48 && (bitsOf v 28 2 == 3 || (bitsOf v 28 2 == 0 && s.get (PORT_LANES_LANE_MASK p) != v % 256 && st != 0 && st != 6)))
  else if page = 0x680 then s.writeRefused fn page off v (s.groupBad off v)
  else if 0x681 ≤ page ∧ page ≤ 0x690 ∧ 0x400 ≤ off ∧ off < 0x1000 then s.writeRefused fn page off v (s.linkFlowBad (256 * (page - 0x681) + (off - 0x400) / 12) ((off - 0x400) % 12) v)
  else if page = 0x700 then
    refusedIf (off == 0x70 && (v % 16 == 0 || decide (5 < v % 16)))
      (if s.on FT_STAT_BUSY then s.capture 0x700 .badParam 0x70 v else s.ftRefused v .badParam)
  else none

/-- The state after the refusal of a write to the word at `off` of a page, or nothing where no check refuses it: ranges, states in which a register may not change, and
the codes of command registers for which no command is defined. -/
def State.refusal (s : State) (fn page off v : Nat) : Option State :=
  if page < 0x200 then s.refusalChip fn page off v
  else if page < 0x300 then s.refusalWork fn page off v
  else if page < 0x400 then s.refusalMemory fn page off v
  else s.refusalHost fn page off v

/-! ### The write itself -/

/-- A word that carries a command of its own, whose other fields belong to that command: PM_XFER with GO, PORT_LANES with a LANE_CMD. -/
def commandWord (page off v : Nat) : Bool :=
  (page == 4 && off == 0x44 && bitOf v 31) || (decide (0x600 ≤ page) && decide (page < 0x680) && off == 0x48 && bitsOf v 28 2 != 0)

/-- R9. A field takes its part of a written word, by its access code. -/
def State.writeField (s : State) (lock : Bool) (v : Nat) (f : Field) : State :=
  match f.acc with
  | .rw => s.set f (bitsOf v f.lsb f.width)
  | .rwl => if lock then s else s.set f (bitsOf v f.lsb f.width)
  | .w1c => s.set f (s.get f - (s.get f &&& bitsOf v f.lsb f.width))
  | .ro | .w1s | .wo | .rwf | .rsv => s

/-- R264, R265. A W1C write to the flags of a counter, or to the CNT_NOTIFY bits of 32 counters from `base`: those that the function holds. -/
def State.clearSat (s : State) (fn c v : Nat) : State :=
  if s.ctrHolder c ≠ fn then s
  else
    let x := s.counter c
    s.setCounter c { x with satHi := x.satHi && !bitOf v 16, satLo := x.satLo && !bitOf v 17 }

/-- R265. See `clearSat`. -/
def State.clearNotify (s : State) (fn base v : Nat) : State :=
  (List.range 32).foldl (fun t i =>
    if bitOf v i && t.ctrHolder (base + i) == fn then t.setCounter (base + i) { t.counter (base + i) with notify := false } else t) s

/-- The fields of a word, and the words that live beside the register fields, take a written value. -/
def State.store (s : State) (fn page off v : Nat) : State :=
  if page = 0x510 ∧ 0x800 ≤ off then
    (if 0x40 ≤ off % 0x100 ∧ off % 0x100 < 0x80 then s.set (MB_IN ((off - 0x800) / 0x100 + 1) ((off % 0x100 - 0x40) / 4)) v else s)
  else if 0x210 ≤ page ∧ page ≤ 0x21F ∧ 0x800 ≤ off then
    (if off % 8 = 0 then s.clearSat fn (256 * (page - 0x210) + (off - 0x800) / 8) v else s)
  else if 0x210 ≤ page ∧ page ≤ 0x21F ∧ 0x80 ≤ off ∧ off < 0xA0 then s.clearNotify fn (256 * (page - 0x210) + 32 * ((off - 0x80) / 4)) v
  else if commandWord page off v then s
  else ((fieldsAt fn (4096 * page + off)).filter (fun f => !ownCommand page off f.lsb)).foldl (fun t f => t.writeField (s.page page).lock v f) s

/-- R517. An input of the configuration digest has been written. -/
def State.digestStale (s : State) : State := (s.flag GRP_STAT_DIGEST_VALID false).groupRefresh

/-- What follows from a written word at once: levels that rise, the skew comparison, the group's formation, a flow's readiness, the preemptions of a quiesce in progress, the status of a segment
write (R300). -/
def State.afterWrite (s before : State) (page off : Nat) : State :=
  if page = 1 ∧ off = 0x70 then s.raiseEdge 1 1 before.warm s.warm
  else if page = 2 then
    let t := if off = 0x40 ∨ off = 0x78 then s.skewRefresh else s
    if off = 0x78 ∨ (off = 0x6C ∧ !(before.page 2).lock) then t.digestStale else t
  else if 0x100 ≤ page ∧ page < 0x200 ∧ page % 16 = 7 ∧ off = 0x40 then s.quiesceAgain (page / 16 - 16)
  else if page = 0x220 ∧ off = 0x48 then s.poolWatch before
  else if 0x307 ≤ page ∧ page ≤ 0x30F ∧ 0x100 ≤ off ∧ off < 0x500 then s.set (SEG_STAT_RESULT (page - 0x307)) Status.ok.code
  else if page = 0x200 ∧ off = 0x50 then
    s.raiseEdge 0x200 4 (decide (before.storeFree ≤ before.get SCH_STORE_LOW)) (decide (s.storeFree ≤ s.get SCH_STORE_LOW))
  else if 0x201 ≤ page ∧ page ≤ 0x208 ∧ 0x800 ≤ off then s.refresh (512 * (page - 0x201) + (off - 0x800) / 4)
  else if 0x221 ≤ page ∧ page ≤ 0x228 then s.raiseEdge page 0 (before.wmSummary (page - 0x220)) (s.wmSummary (page - 0x220))
  else if 0x600 ≤ page ∧ page < 0x680 ∧ off = 0x40 then s.groupRefresh
  else if page = 0x680 ∧ 0x40 ≤ off ∧ off < 0x6C then s.digestStale
  else s

/-- R439, R440. A page copy's EVT_EN takes a value; a summary that rises sends its message. -/
def State.enableEvents (s : State) (fn page v : Nat) : State :=
  let p := s.page (pageKey fn page)
  let q := { p with evtEn := v &&& evtMask page }
  let t := s.setPage (pageKey fn page) q
  if q.summary && !p.summary then (s.viewers fn page).foldl (fun t f => t.sendMsg f page) t else t

/-- R456, R627. What a VF may write in a page that it sees: nothing on its MEMCTL page; EVT_EN of the CHIP and TIMEBASE pages; its own registers of HOSTIF page 0. -/
def vfWrites (fn page off : Nat) : Bool :=
  fn == 0 || (if page = 0 ∨ page = 2 then off == 0x1C else if page = 0x500 then off == 0x1C || off == 0x3C || decide (0x200 ≤ off) else !(decide (0x307 ≤ page) && decide (page ≤ 0x30F)))

/-- R9, R425. A whole word is written by function `fn`. -/
def State.writeWord (s : State) (fn page off v : Nat) : State :=
  let s := if off ≠ 0xA0 ∧ off ≠ 0xA4 then s.fuseTouch page else s
  if !vfWrites fn page off || !implemented page then s
  else if off = 0x1C then s.enableEvents fn page v
  else if off = 0x3C then s.setPage (pageKey fn page) { s.page (pageKey fn page) with scratch := v }
  else if off < 0x40 then s
  else match s.refusal fn page off v with
    | some t => t
    | none => (s.store fn page off v).afterWrite s page off

/-- REGISTER_WRITE (R9, R425): a written word whose byte enables are not all set is discarded and counted. -/
def execRegisterWrite (fn addr v be : Nat) (s : State) : Outcome :=
  let a := addr / 4 * 4
  if be % 16 ≠ 15 then .next ((s.add HI_MMIO_ERR_CNT 1).raiseFn fn 0x500 0)
  else mmio fn (a / 4096) s fun s => .next (s.writeWord fn (a / 4096) (a % 4096) (v % 2 ^ 32))

/-! ### The common layout (R613 to R620) -/

/-- R627, R628. The page copy whose error set or event registers function `fn` may clear. -/
def mayClear (fn page : Nat) (err : Bool) : Bool :=
  fn == 0 || (!(decide (0x307 ≤ page) && decide (page ≤ 0x30F)) && !(err && (page == 0 || page == 2)))

/-- ERR_CODE_CLR (R613, R616): the error set of a page copy is cleared; an error captured in the same access is kept. -/
def execErrCodeClr (fn page : Nat) (edge : Option Status) (s : State) : Outcome :=
  mmio fn page s fun s =>
    if !implemented page || !mayClear fn page true then .next s
    else
      let s := s.fuseTouch page
      let k := pageKey fn page
      let t := s.setPage k { s.page k with errCode := 0, errCount := 0, errInfo0 := 0, errInfo1 := 0, errNext := none, errTime := {} }
      .next (match edge with | some st => t.captureOpen fn page st | none => t)

/-- EVT_STAT_CLEAR (R10, R187, R440): the bits of `mask` are cleared but for those with a new edge in the same access; CH_WM is set again at once while an enabled edge remains. A
summary left at 1 sends a message. -/
def execEvtStatClear (fn page mask edges : Nat) (s : State) : Outcome :=
  mmio fn page s fun s =>
    if !implemented page || !mayClear fn page false then .next s
    else
      let s := s.fuseTouch page
      let k := pageKey fn page
      let p := s.page k
      let m := mask &&& evtMask page
      let again := if 0x221 ≤ page ∧ page ≤ 0x228 ∧ s.wmSummary (page - 0x220) then p.evtStat &&& 1 else 0
      let q := { p with evtStat := (p.evtStat - (p.evtStat &&& m)) ||| (edges &&& m) ||| again }
      let t := s.setPage k q
      .next (if q.summary then (s.viewers fn page).foldl (fun t f => t.sendMsg f page) t else t)

/-- R105. Whether a page is one of a core's array pages. -/
def isArrayPage (page : Nat) : Bool := decide (0x100 ≤ page) && decide (page < 0x200) && decide (1 ≤ page % 16) && decide (page % 16 ≤ 4)

/-- R105, R613. BLK_CTRL.ENABLE takes a value; on an array page a 0 retires the array, which only a self-test brings back (R566). -/
def State.enablePage (s : State) (page : Nat) (en : Bool) : State :=
  if isArrayPage page then (if !en && s.blkEnabled page then (s.setService (page / 16 - 16) (page % 16 - 1) false).rehome (page / 16 - 16) else s)
  else s.setPage page { s.page page with enable := en }

/-- BLK_ENABLE (R105, R613, R627): an array's ENABLE changes only while its page is quiesced. -/
def execBlkEnable (fn page : Nat) (en : Bool) (s : State) : Outcome :=
  mmio fn page s fun s =>
    if fn ≠ 0 || !implemented page then .next s
    else if isArrayPage page && !en && s.blkEnabled page && !(s.page page).quiesced then .next (s.refuseWrite fn (4096 * page + 0x10) 0)
    else .next ((s.fuseTouch page).enablePage page en)

/-- BLK_LOCK (R620, R627). -/
def execBlkLock (fn page : Nat) (s : State) : Outcome :=
  mmio fn page s fun s => .next (if fn ≠ 0 || !implemented page then s else (s.fuseTouch page).setPage page { s.page page with lock := true })

/-! ### The page reset (R550, R614) -/

/-- R550. A stored field returns to its reset value: RW, W1C, W1S and WO fields, and RWL fields while the page is not locked. THERM_STAT.TRIPPED stays (R546). -/
def softField (lock : Bool) (key : Nat) : Bool :=
  let fn := key / 32 / 0x8000000
  (fieldsAt fn (key / 32 % 0x8000000)).any (fun f => f.key == key && key != THERM_STAT_TRIPPED.key &&
    (match f.acc with | .rw | .w1c | .w1s | .wo => true | .rwl => !lock | .ro | .rwf | .rsv => false))

/-- R550. The block state that the writable fields of a page control, as those fields return to their reset values. -/
def State.softState (s : State) (page : Nat) : State :=
  if page = 2 then
    let t := { s with time := { s.time with rise := none, accepted := none } }
    (t.flag TB_STAT_HOLDOVER false).flag TB_STAT_LOCKED false
  else if isArrayPage page then
    let n := page / 16 - 16
    let cols := match Map.find s.power.tests (s.physSlot n) with | some t => t.columns | none => []
    let m := cols.getD (page % 16 - 1) 0 % 2 ^ 65
    (s.setColumns n (page % 16 - 1) m).setService n (page % 16 - 1) (decide (56 ≤ (presented m).length))
  else if page = 0x210 then (List.range 8).foldl (fun t r => t.setHolders r 0) s
  else if 0x307 ≤ page ∧ page ≤ 0x30F then
    (List.range 64).foldl (fun t x =>
      if t.on (SEG_FBASE_VALID (page - 0x307) x) then
        t.flushRange (t.get (SEG_PBASE (page - 0x307) x)) (t.get (SEG_LEN (page - 0x307) x)) else t) s
  else if page = 0x500 then { s with host := { s.host with routes := [] } }
  else if 0x501 ≤ page ∧ page ≤ 0x508 then
    (List.range 32).foldl (fun t i =>
      let c := 32 * (page - 0x501) + i
      if t.on (HR_CTRL_ENABLE c) then (t.ringGivesBack c).ringOff c else t) s
  else if page = 0x510 then
    (List.range 8).foldl (fun t i =>
      let f := i + 1
      let u := (t.instCores f).foldl (fun u n => u.coreChanges n true) t
      (u.instTriples f).foldl (fun u j => u.tripleReset j) u) s
  else s

/-- R550. After the fields of a page have returned to their reset values: what follows of them. -/
def State.softAfter (s before : State) (page : Nat) : State :=
  if page = 1 then s.raiseEdge 1 1 before.warm s.warm
  else if page = 2 then s.skewRefresh.digestStale
  else if 0x201 ≤ page ∧ page ≤ 0x208 then (List.range 512).foldl (fun t i => t.refresh (512 * (page - 0x201) + i)) s
  else if 0x210 ≤ page ∧ page ≤ 0x21F then
    (List.range 256).foldl (fun t i =>
      let c := 256 * (page - 0x210) + i
      t.setCounter c { t.counter c with satHi := false, satLo := false, notify := false }) s
  else if page = 0x220 then s.poolWatch before
  else if page = 0x500 then (if (before.page 0x500).lock then s else s.strapSpeed)
  else if 0x600 ≤ page ∧ page < 0x680 then s.groupRefresh
  else if page = 0x680 then s.digestStale
  else s

/-- R550, R614. The page reset: fields, the state they control, the events, the error set, BLK_SCRATCH, in every function's copy. -/
def State.softReset (s : State) (page : Nat) : State :=
  let lock := (s.page page).lock
  let t := s.softState page
  let u := { t with regs := Map.drop (fun k => k / 131072 % 32768 == page && softField lock k) t.regs,
                    pages := Map.drop (fun k => k % 65536 == page && decide (65536 ≤ k)) t.pages }
  let p := s.page page
  let w := u.setPage page { enable := (s.page page).enable, quiesceReq := p.quiesceReq, quiesced := p.quiesced, lock := lock }
  if isArrayPage page then
    (w.setColumns (page / 16 - 16) (page % 16 - 1) (t.colFail (page / 16 - 16) (page % 16 - 1))).softAfter s page
  else w.softAfter s page

/-- SOFT_RESET (R50, R550, R614, R627): BLK_CTRL is written with SOFT_RESET = 1 in `v`: refused whole unless the page shows QUIESCED; otherwise the page is reset, and ENABLE,
QUIESCE_REQ and RESUME of the same word are then applied. -/
def execSoftReset (fn page v : Nat) (s : State) : Outcome :=
  mmio fn page s fun s =>
    if fn ≠ 0 || !implemented page then .next s
    else if !(s.page page).quiesced then .next ((s.fuseTouch page).refuseWrite fn (4096 * page + 0x10) v)
    else
      let t := ((s.fuseTouch page).softReset page).enablePage page (bitOf v 0)
      let u := if bitOf v 2 then t.closePage page else t.openPage page
      .next (if bitOf v 3 && page == 1 then u.resume else u)

/-! ### The tick generator (R42 to R45) -/

/-- R44. Ticks start: the current index counts as the last one delivered, and overdue tasks are released where the scheduler is neither quiesced nor stalled. -/
def State.startTicks (s : State) : State :=
  (({ s with time := { s.time with lastTick := s.tickIndex } }).flag TB_CTRL_TICK_EN true).releaseLists

/-- TICK_EN_WRITE (R44): only a change of TICK_EN acts. -/
def execTickEnWrite (fn : Nat) (en : Bool) (s : State) : Outcome :=
  mmio fn 2 s fun s =>
    if fn ≠ 0 || en == s.on TB_CTRL_TICK_EN then .next s
    else .next (if en then s.startTicks else s.flag TB_CTRL_TICK_EN false)

/-- R43. Time passes until the timebase reaches the boundary of tick `i`; nothing passes where it already has. -/
def State.reachTick (s : State) (i : Nat) : State :=
  if i ≤ s.tickIndex then s
  else
    let per := 1000000000 / s.get TB_TICK_NS
    let target := (i / per * 1000000000 + i % per * s.get TB_TICK_NS) * 10000000000
    let cur := (s.time.sec * 1000000000 + s.time.ns) * 10000000000 + s.time.frac
    s.pass ((target - cur + s.time.hold + s.tbIncrement - 1) / s.tbIncrement)

/-- R43, R215, R348, R520. Tick `i` is delivered to the delay lists, the weight-switch arms and the epoch arm. A quiesced SCHED page releases when it reopens. -/
def State.deliverTick (s : State) (i : Nat) : State :=
  let t := ({ s with time := { s.time with lastTick := i } }).releaseLists
  ((List.range 8).foldl (fun u e => u.armTick i e) t).epochTick i

/-- TICK_DELIVERY (R43, R45, R50): the next index after the last one delivered; none while TICK_EN is 0, under a skew hold or in a stall. -/
def execTickDelivery (s : State) : Outcome :=
  if !s.on TB_CTRL_TICK_EN || s.on TB_STAT_SKEW_HOLD || s.stall then .next s
  else .next ((s.reachTick (s.time.lastTick + 1)).deliverTick (s.time.lastTick + 1))

end Sys2Proof.Machine
end

