-- ==== Sys2Proof/Machine/Throttle.lean ====
section
/-!
DEFINITION. The throttle stall (R48 to R50): the falling and rising edges of VR_ALERT_N. RESUME stands with the quiesce (Quiesce.lean).
-/

namespace Sys2Proof.Machine

/-- THROTTLE_STALL (R48, R50, R595): VR_ALERT_N falls and stays low for `lowNs`. Below 5 ns nothing is acted on; otherwise a stall begins unless
one holds: the ALL gates close, STALLED shows, THROTTLE is set and THROTTLE_CNT counts. -/
def execThrottleStall (lowNs : Nat) (s : State) : Outcome :=
  if lowNs < 5 then .next s
  else
    let s1 := { s with power := { s.power with vrAlertHigh := false } }
    .next (if s.stall then s1 else (({ s1 with stall := true }).add THROTTLE_CNT 1).raise 1 0)

/-- VR_ALERT_N_RISING (R50): the level is high again; the stall stays. -/
def execVrAlertNRising (s : State) : Outcome :=
  .next { s with power := { s.power with vrAlertHigh := true } }

end Sys2Proof.Machine
end

