-- ==== Sys2Proof/Machine/Dispatch.lean ====
section
/-!
DEFINITION. The effect of each command on everything but the queue of waiting commands: one arm for each command, each one call of its meaning.
-/

namespace Sys2Proof.Machine

/-- The effect of one command. -/
def exec (i : Instr) (s : State) : Host.Outcome State Fault Refusal :=
  match i with
  | .load h x => Sys2Proof.Machine.execLoad h x s
  | .transfer h x => Sys2Proof.Machine.execTransfer h x s
  | .matmul h m => Sys2Proof.Machine.execMatmul h m s
  | .matvec h m => Sys2Proof.Machine.execMatvec h m s
  | .signal h ctr value => Sys2Proof.Machine.execSignal h ctr value s
  | .wait h ctr value => Sys2Proof.Machine.execWait h ctr value s
  | .set h ctr value => Sys2Proof.Machine.execSet h ctr value s
  | .flagsOut h dst => Sys2Proof.Machine.execFlagsOut h dst s
  | .flagsClr h mask => Sys2Proof.Machine.execFlagsClr h mask s
  | .saltSet h imm => Sys2Proof.Machine.execSaltSet h imm s
  | .seta h areg imm => Sys2Proof.Machine.execSeta h areg imm s
  | .adda h areg imm => Sys2Proof.Machine.execAdda h areg imm s
  | .loop h areg target => Sys2Proof.Machine.execLoop h areg target s
  | .jump h target => Sys2Proof.Machine.execJump h target s
  | .seqPreempt fn core mask => Sys2Proof.Machine.execSeqPreempt fn core mask s
  | .seqAbort fn core mask => Sys2Proof.Machine.execSeqAbort fn core mask s
  | .seqResGo fn core => Sys2Proof.Machine.execSeqResGo fn core s
  | .seqResDiscard fn core => Sys2Proof.Machine.execSeqResDiscard fn core s
  | .ctxLoad fn core ctx => Sys2Proof.Machine.execCtxLoad fn core ctx s
  | .coreTestStart fn core => Sys2Proof.Machine.execCoreTestStart fn core s
  | .chApply fn c => Sys2Proof.Machine.execChApply fn c s
  | .chCmdMark fn c m => Sys2Proof.Machine.execChCmdMark fn c m s
  | .chCmdRewind fn c m => Sys2Proof.Machine.execChCmdRewind fn c m s
  | .chCmdRelease fn c m => Sys2Proof.Machine.execChCmdRelease fn c m s
  | .replayHeld fn c => Sys2Proof.Machine.execReplayHeld fn c s
  | .discardHeld fn c => Sys2Proof.Machine.execDiscardHeld fn c s
  | .chFlush fn c => Sys2Proof.Machine.execChFlush fn c s
  | .hostPost fn j dlist => Sys2Proof.Machine.execHostPost fn j dlist s
  | .releaseSkip fn w => Sys2Proof.Machine.execReleaseSkip fn w s
  | .releaseRetry fn w => Sys2Proof.Machine.execReleaseRetry fn w s
  | .clearStale fn w => Sys2Proof.Machine.execClearStale fn w s
  | .purge fn w => Sys2Proof.Machine.execPurge fn w s
  | .dlReleaseAll fn d => Sys2Proof.Machine.execDlReleaseAll fn d s
  | .dlPurge fn d => Sys2Proof.Machine.execDlPurge fn d s
  | .chnApply fn k => Sys2Proof.Machine.execChnApply fn k s
  | .clearLost fn k => Sys2Proof.Machine.execClearLost fn k s
  | .flushSpill fn k => Sys2Proof.Machine.execFlushSpill fn k s
  | .cntSignal fn c v => Sys2Proof.Machine.execCntSignal fn c v s
  | .cntSub fn c v => Sys2Proof.Machine.execCntSub fn c v s
  | .cntSet fn c v => Sys2Proof.Machine.execCntSet fn c v s
  | .cntArm fn c v => Sys2Proof.Machine.execCntArm fn c v s
  | .cntDisarm fn c => Sys2Proof.Machine.execCntDisarm fn c s
  | .dbgSignal fn v => Sys2Proof.Machine.execDbgSignal fn v s
  | .dbgSub fn v => Sys2Proof.Machine.execDbgSub fn v s
  | .dbgSet fn v => Sys2Proof.Machine.execDbgSet fn v s
  | .dbgArm fn v => Sys2Proof.Machine.execDbgArm fn v s
  | .dbgDisarm fn => Sys2Proof.Machine.execDbgDisarm fn s
  | .syBlkFnWrite fn r v => Sys2Proof.Machine.execSyBlkFnWrite fn r v s
  | .syBlkClr fn b => Sys2Proof.Machine.execSyBlkClr fn b s
  | .lcFlush fn n => Sys2Proof.Machine.execLcFlush fn n s
  | .lcFlushInv fn n => Sys2Proof.Machine.execLcFlushInv fn n s
  | .rdS core addr => Sys2Proof.Machine.execRdS core addr s
  | .rdM core addr bytes => Sys2Proof.Machine.execRdM core addr bytes s
  | .claim core addr bytes => Sys2Proof.Machine.execClaim core addr bytes s
  | .upg core addr bytes => Sys2Proof.Machine.execUpg core addr bytes s
  | .dataS core l => Sys2Proof.Machine.execDataS core l s
  | .dataM core l => Sys2Proof.Machine.execDataM core l s
  | .grant core l => Sys2Proof.Machine.execGrant core l s
  | .evictAck core l => Sys2Proof.Machine.execEvictAck core l s
  | .snpInv core l => Sys2Proof.Machine.execSnpInv core l s
  | .snpShr core l => Sys2Proof.Machine.execSnpShr core l s
  | .homeAgentRead agent fn core addr => Sys2Proof.Machine.execHomeAgentRead agent fn core addr s
  | .homeAgentWrite agent fn core addr bytes => Sys2Proof.Machine.execHomeAgentWrite agent fn core addr bytes s
  | .wsetApply fn e => Sys2Proof.Machine.execWsetApply fn e s
  | .wsetFill fn e copy => Sys2Proof.Machine.execWsetFill fn e copy s
  | .wsetSwitch fn e => Sys2Proof.Machine.execWsetSwitch fn e s
  | .wsetArm fn e => Sys2Proof.Machine.execWsetArm fn e s
  | .wsetDisarm fn e => Sys2Proof.Machine.execWsetDisarm fn e s
  | .manApply fn e copy core ctx => Sys2Proof.Machine.execManApply fn e copy core ctx s
  | .rqDoorbell fn f r p => Sys2Proof.Machine.execRqDoorbell fn f r p s
  | .cqDoorbell fn f r p => Sys2Proof.Machine.execCqDoorbell fn f r p s
  | .sealDesc id src => Sys2Proof.Machine.execSealDesc id src s
  | .rngRestart fn => Sys2Proof.Machine.execRngRestart fn s
  | .slotCmdClear fn slot => Sys2Proof.Machine.execSlotCmdClear fn slot s
  | .hostReadCompletion id o => Sys2Proof.Machine.execHostReadCompletion id o s
  | .completionTimeout id => Sys2Proof.Machine.execCompletionTimeout id s
  | .hrPiDoorbell fn c p => Sys2Proof.Machine.execHrPiDoorbell fn c p s
  | .hrCiDoorbell fn c p => Sys2Proof.Machine.execHrCiDoorbell fn c p s
  | .hrEnable fn c en => Sys2Proof.Machine.execHrEnable fn c en s
  | .hrSkip fn c => Sys2Proof.Machine.execHrSkip fn c s
  | .flr f => Sys2Proof.Machine.execFlr f s
  | .tnQuiesce fn f preempt => Sys2Proof.Machine.execTnQuiesce fn f preempt s
  | .tnUnquiesce fn f => Sys2Proof.Machine.execTnUnquiesce fn f s
  | .revokeAll fn f => Sys2Proof.Machine.execRevokeAll fn f s
  | .dlSync fn f => Sys2Proof.Machine.execDlSync fn f s
  | .dlEpoch fn f => Sys2Proof.Machine.execDlEpoch fn f s
  | .tgCoresWrite fn f v => Sys2Proof.Machine.execTgCoresWrite fn f v s
  | .tgPagesWrite fn f v => Sys2Proof.Machine.execTgPagesWrite fn f v s
  | .exch p h record => Sys2Proof.Machine.execExch p h record s
  | .itemHead p h header payload => Sys2Proof.Machine.execItemHead p h header payload s
  | .itemData p h payload => Sys2Proof.Machine.execItemData p h payload s
  | .lwrHead p h w data => Sys2Proof.Machine.execLwrHead p h w data s
  | .lwrData p h data => Sys2Proof.Machine.execLwrData p h data s
  | .lsig p h g => Sys2Proof.Machine.execLsig p h g s
  | .notice p h n => Sys2Proof.Machine.execNotice p h n s
  | .void p h => Sys2Proof.Machine.execVoid p h s
  | .tsync p h t1 echo => Sys2Proof.Machine.execTsync p h t1 echo s
  | .lane p h mask => Sys2Proof.Machine.execLane p h mask s
  | .key p h => Sys2Proof.Machine.execKey p h s
  | .leave p h => Sys2Proof.Machine.execLeave p h s
  | .pwrOn fn d => Sys2Proof.Machine.execPwrOn fn d s
  | .pwrRetain fn d force => Sys2Proof.Machine.execPwrRetain fn d force s
  | .pwrOff fn d force => Sys2Proof.Machine.execPwrOff fn d force s
  | .coreRst fn mask => Sys2Proof.Machine.execCoreRst fn mask s
  | .smbusAccess a => Sys2Proof.Machine.execSmbusAccess a s
  | .withdraw fn core => Sys2Proof.Machine.execWithdraw fn core s
  | .refill fn core set copy src ctx => Sys2Proof.Machine.execRefill fn core set copy src ctx s
  | .epochSync fn core => Sys2Proof.Machine.execEpochSync fn core s
  | .admitCore fn core => Sys2Proof.Machine.execAdmitCore fn core s
  | .arrayTest fn core array => Sys2Proof.Machine.execArrayTest fn core array s
  | .fuUnlock fn v => Sys2Proof.Machine.execFuUnlock fn v s
  | .coreRemap fn core slot => Sys2Proof.Machine.execCoreRemap fn core slot s
  | .laneRemap fn port lane phys => Sys2Proof.Machine.execLaneRemap fn port lane phys s
  | .rkeAdvance fn => Sys2Proof.Machine.execRkeAdvance fn s
  | .profileRaise fn v => Sys2Proof.Machine.execProfileRaise fn v s
  | .profileLock fn => Sys2Proof.Machine.execProfileLock fn s
  | .debugLock fn => Sys2Proof.Machine.execDebugLock fn s
  | .registerWrite fn addr v be => Sys2Proof.Machine.execRegisterWrite fn addr v be s
  | .lowerWordRead fn addr => Sys2Proof.Machine.execLowerWordRead fn addr s
  | .tbNowRead fn => Sys2Proof.Machine.execTbNowRead fn s
  | .errCodeRead fn page => Sys2Proof.Machine.execErrCodeRead fn page s
  | .errCodeClr fn page edge => Sys2Proof.Machine.execErrCodeClr fn page edge s
  | .evtStatClear fn page mask edges => Sys2Proof.Machine.execEvtStatClear fn page mask edges s
  | .blkEnable fn page en => Sys2Proof.Machine.execBlkEnable fn page en s
  | .softReset fn page v => Sys2Proof.Machine.execSoftReset fn page v s
  | .quiesceReq fn page req => Sys2Proof.Machine.execQuiesceReq fn page req s
  | .quiesceDone page => Sys2Proof.Machine.execQuiesceDone page s
  | .blkLock fn page => Sys2Proof.Machine.execBlkLock fn page s
  | .throttleStall lowNs => Sys2Proof.Machine.execThrottleStall lowNs s
  | .resume fn page => Sys2Proof.Machine.execResume fn page s
  | .tbRateWindow beatsA beatsB => Sys2Proof.Machine.execTbRateWindow beatsA beatsB s
  | .tbPpsEnWrite en arm => Sys2Proof.Machine.execTbPpsEnWrite en arm s
  | .tickEnWrite fn en => Sys2Proof.Machine.execTickEnWrite fn en s
  | .slotGet core slot => Sys2Proof.Machine.execSlotGet core slot s
  | .nop h => Sys2Proof.Machine.execNop h s
  | .add h v => Sys2Proof.Machine.execAdd h v s
  | .sub h v => Sys2Proof.Machine.execSub h v s
  | .mul h v => Sys2Proof.Machine.execMul h v s
  | .fma h v => Sys2Proof.Machine.execFma h v s
  | .max h v => Sys2Proof.Machine.execMax h v s
  | .min h v => Sys2Proof.Machine.execMin h v s
  | .rcp h v => Sys2Proof.Machine.execRcp h v s
  | .rsqrt h v => Sys2Proof.Machine.execRsqrt h v s
  | .exp h v => Sys2Proof.Machine.execExp h v s
  | .cvt h v => Sys2Proof.Machine.execCvt h v s
  | .sumred h v => Sys2Proof.Machine.execSumred h v s
  | .maxred h v => Sys2Proof.Machine.execMaxred h v s
  | .argmax h v => Sys2Proof.Machine.execArgmax h v s
  | .rand h v => Sys2Proof.Machine.execRand h v s
  | .waitDec h ctr value => Sys2Proof.Machine.execWaitDec h ctr value s
  | .signalRemote h m ctr value => Sys2Proof.Machine.execSignalRemote h m ctr value s
  | .taskPost h dlist delay item => Sys2Proof.Machine.execTaskPost h dlist delay item s
  | .chainMark h c m => Sys2Proof.Machine.execChainMark h c m s
  | .chainRewind h c m => Sys2Proof.Machine.execChainRewind h c m s
  | .chainRelease h c m => Sys2Proof.Machine.execChainRelease h c m s
  | .chainCommit h c => Sys2Proof.Machine.execChainCommit h c s
  | .sealOp h x => Sys2Proof.Machine.execSeal h x s
  | .fenceFull h => Sys2Proof.Machine.execFenceFull h s
  | .fenceStore h => Sys2Proof.Machine.execFenceStore h s
  | .stepComplete core slot order => Sys2Proof.Machine.execStepComplete core slot order s
  | .arrayFault core array cause col => Sys2Proof.Machine.execArrayFault core array cause col s
  | .shadowAdvance core array => Sys2Proof.Machine.execShadowAdvance core array s
  | .maColfailWrite fn core array x v => Sys2Proof.Machine.execMaColfailWrite fn core array x v s
  | .maCntClr fn core array => Sys2Proof.Machine.execMaCntClr fn core array s
  | .mvpCntClr fn core => Sys2Proof.Machine.execMvpCntClr fn core s
  | .vuCntClr fn core => Sys2Proof.Machine.execVuCntClr fn core s
  | .cntClr fn n k => Sys2Proof.Machine.execCntClr fn n k s
  | .lcCntClr fn n => Sys2Proof.Machine.execLcCntClr fn n s
  | .slotEnWrite fn core mask => Sys2Proof.Machine.execSlotEnWrite fn core mask s
  | .preemptSave core slot stops => Sys2Proof.Machine.execPreemptSave core slot stops s
  | .resumeStart core => Sys2Proof.Machine.execResumeStart core s
  | .imgLoadDone core ctx => Sys2Proof.Machine.execImgLoadDone core ctx s
  | .coreTestDone core t => Sys2Proof.Machine.execCoreTestDone core t s
  | .coreFatalFault core => Sys2Proof.Machine.execCoreFatalFault core s
  | .chainTake p c => Sys2Proof.Machine.execChainTake p c s
  | .cellGrant c => Sys2Proof.Machine.execCellGrant c s
  | .chEnable fn c en => Sys2Proof.Machine.execChEnable fn c en s
  | .chainOpComplete c => Sys2Proof.Machine.execChainOpComplete c s
  | .itemExpand c => Sys2Proof.Machine.execItemExpand c s
  | .storeEntryGrant k => Sys2Proof.Machine.execStoreEntryGrant k s
  | .bqPop fn j => Sys2Proof.Machine.execBqPop fn j s
  | .bindingWrite fn c x v => Sys2Proof.Machine.execBindingWrite fn c x v s
  | .spillRefill k => Sys2Proof.Machine.execSpillRefill k s
  | .chnEnable fn k en => Sys2Proof.Machine.execChnEnable fn k en s
  | .lcCmdDone n => Sys2Proof.Machine.execLcCmdDone n s
  | .segValidSet fn f x v => Sys2Proof.Machine.execSegValidSet fn f x v s
  | .segValidClear fn f x v => Sys2Proof.Machine.execSegValidClear fn f x v s
  | .segDone f => Sys2Proof.Machine.execSegDone f s
  | .evictS core l => Sys2Proof.Machine.execEvictS core l s
  | .evictM core l => Sys2Proof.Machine.execEvictM core l s
  | .ack core l => Sys2Proof.Machine.execAck core l s
  | .data core l => Sys2Proof.Machine.execData core l s
  | .notHeld core l => Sys2Proof.Machine.execNotHeld core l s
  | .notHeldEvicting core l => Sys2Proof.Machine.execNotHeldEvicting core l s
  | .loadCur fn d => Sys2Proof.Machine.execLoadCur fn d s
  | .loadNext fn d => Sys2Proof.Machine.execLoadNext fn d s
  | .rekeyStart fn d => Sys2Proof.Machine.execRekeyStart fn d s
  | .domDisable fn d => Sys2Proof.Machine.execDomDisable fn d s
  | .domCmdDone d => Sys2Proof.Machine.execDomCmdDone d s
  | .rekeySweepLine d => Sys2Proof.Machine.execRekeySweepLine d s
  | .protFill fn => Sys2Proof.Machine.execProtFill fn s
  | .plPop fn => Sys2Proof.Machine.execPlPop fn s
  | .wsetCopyFreed e => Sys2Proof.Machine.execWsetCopyFreed e s
  | .fillPartDone e core src => Sys2Proof.Machine.execFillPartDone e core src s
  | .manDone e srcs => Sys2Proof.Machine.execManDone e srcs s
  | .wsetDrained e => Sys2Proof.Machine.execWsetDrained e s
  | .reloadDone e => Sys2Proof.Machine.execReloadDone e s
  | .rqEnable fn f r cq en => Sys2Proof.Machine.execRqEnable fn f r cq en s
  | .cqEnable fn f r en => Sys2Proof.Machine.execCqEnable fn f r en s
  | .sluiceFetch f r entries => Sys2Proof.Machine.execSluiceFetch f r entries s
  | .descNop id => Sys2Proof.Machine.execDescNop id s
  | .gcmEnc id src aux => Sys2Proof.Machine.execGcmEnc id src aux s
  | .gcmDec id src aux => Sys2Proof.Machine.execGcmDec id src aux s
  | .ctr id src => Sys2Proof.Machine.execCtr id src s
  | .xtsEnc id src => Sys2Proof.Machine.execXtsEnc id src s
  | .xtsDec id src => Sys2Proof.Machine.execXtsDec id src s
  | .sha256 id src => Sys2Proof.Machine.execSha256 id src s
  | .hmac id src => Sys2Proof.Machine.execHmac id src s
  | .hmacChk id src aux => Sys2Proof.Machine.execHmacChk id src aux s
  | .random id => Sys2Proof.Machine.execRandom id s
  | .keyLoad id src => Sys2Proof.Machine.execKeyLoad id src s
  | .keyUnwrap id src => Sys2Proof.Machine.execKeyUnwrap id src s
  | .keyWrap id => Sys2Proof.Machine.execKeyWrap id s
  | .keyGen id => Sys2Proof.Machine.execKeyGen id s
  | .keyDerive id src aux => Sys2Proof.Machine.execKeyDerive id src aux s
  | .keyClear id => Sys2Proof.Machine.execKeyClear id s
  | .keyInfo id => Sys2Proof.Machine.execKeyInfo id s
  | .sealChk id src aux => Sys2Proof.Machine.execSealChk id src aux s
  | .ecdsaSign id src => Sys2Proof.Machine.execEcdsaSign id src s
  | .ecdsaVerify id src aux => Sys2Proof.Machine.execEcdsaVerify id src aux s
  | .ecdsaVerifyExt id src aux => Sys2Proof.Machine.execEcdsaVerifyExt id src aux s
  | .ecdhP256 id src => Sys2Proof.Machine.execEcdhP256 id src s
  | .ed25519Sign id src => Sys2Proof.Machine.execEd25519Sign id src s
  | .ed25519Verify id src aux => Sys2Proof.Machine.execEd25519Verify id src aux s
  | .ed25519VerifyExt id src aux => Sys2Proof.Machine.execEd25519VerifyExt id src aux s
  | .x25519 id src => Sys2Proof.Machine.execX25519 id src s
  | .rsaPriv id src => Sys2Proof.Machine.execRsaPriv id src s
  | .rsaPub id src aux => Sys2Proof.Machine.execRsaPub id src aux s
  | .pointCheck id src => Sys2Proof.Machine.execPointCheck id src s
  | .curveLoad id src => Sys2Proof.Machine.execCurveLoad id src s
  | .curveClear id => Sys2Proof.Machine.execCurveClear id s
  | .pkeUnitStart u => Sys2Proof.Machine.execPkeUnitStart u s
  | .pkeYieldPoint us => Sys2Proof.Machine.execPkeYieldPoint us s
  | .pkeParkDone u => Sys2Proof.Machine.execPkeParkDone u s
  | .pkeValidationEnd u => Sys2Proof.Machine.execPkeValidationEnd u s
  | .pkeOpComplete u fault => Sys2Proof.Machine.execPkeOpComplete u fault s
  | .descComplete id => Sys2Proof.Machine.execDescComplete id s
  | .fnWinWrite fn f base cnt plainOk => Sys2Proof.Machine.execFnWinWrite fn f base cnt plainOk s
  | .hwAttrWrite fn e len ro valid => Sys2Proof.Machine.execHwAttrWrite fn e len ro valid s
  | .atsTranslation fn p read write => Sys2Proof.Machine.execAtsTranslation fn p read write s
  | .atsInvalidate tag fn p n => Sys2Proof.Machine.execAtsInvalidate tag fn p n s
  | .atsInvComplete tag => Sys2Proof.Machine.execAtsInvComplete tag s
  | .hrInboundEntry c entry => Sys2Proof.Machine.execHrInboundEntry c entry s
  | .hrOutboundDeliver c => Sys2Proof.Machine.execHrOutboundDeliver c s
  | .hrRestart fn c => Sys2Proof.Machine.execHrRestart fn c s
  | .irqRouteWrite fn v en => Sys2Proof.Machine.execIrqRouteWrite fn v en s
  | .msixUnmask fn t => Sys2Proof.Machine.execMsixUnmask fn t s
  | .dStateChange fn enter => Sys2Proof.Machine.execDStateChange fn enter s
  | .pcieLinkError e => Sys2Proof.Machine.execPcieLinkError e s
  | .abPop fn => Sys2Proof.Machine.execAbPop fn s
  | .retrain fn speed width => Sys2Proof.Machine.execRetrain fn speed width s
  | .vfEnable n => Sys2Proof.Machine.execVfEnable n s
  | .flrDone f => Sys2Proof.Machine.execFlrDone f s
  | .tnQuiesceStage f => Sys2Proof.Machine.execTnQuiesceStage f s
  | .dlEnable fn f en => Sys2Proof.Machine.execDlEnable fn f en s
  | .dlCiDoorbell fn f p => Sys2Proof.Machine.execDlCiDoorbell fn f p s
  | .mbOutSend fn f => Sys2Proof.Machine.execMbOutSend fn f s
  | .mbReqAck fn f => Sys2Proof.Machine.execMbReqAck fn f s
  | .mbRspSend fn f => Sys2Proof.Machine.execMbRspSend fn f s
  | .mbInAck fn f => Sys2Proof.Machine.execMbInAck fn f s
  | .portStart fn p => Sys2Proof.Machine.execPortStart fn p s
  | .portStop fn p => Sys2Proof.Machine.execPortStop fn p s
  | .recheck fn p => Sys2Proof.Machine.execRecheck fn p s
  | .resetSeq fn p => Sys2Proof.Machine.execResetSeq fn p s
  | .laneLocked p => Sys2Proof.Machine.execLaneLocked p s
  | .trainTimeout p locked => Sys2Proof.Machine.execTrainTimeout p locked s
  | .alignDone p => Sys2Proof.Machine.execAlignDone p s
  | .exchSend p => Sys2Proof.Machine.execExchSend p s
  | .idle p h => Sys2Proof.Machine.execIdle p h s
  | .tsyncSend p => Sys2Proof.Machine.execTsyncSend p s
  | .retry p h want => Sys2Proof.Machine.execRetry p h want s
  | .portTransmit p src => Sys2Proof.Machine.execPortTransmit p src s
  | .resendTimeout p => Sys2Proof.Machine.execResendTimeout p s
  | .ackTimeout p => Sys2Proof.Machine.execAckTimeout p s
  | .lockLost p l => Sys2Proof.Machine.execLockLost p l s
  | .laneAdd fn p l => Sys2Proof.Machine.execLaneAdd fn p l s
  | .laneAddDone p ok => Sys2Proof.Machine.execLaneAddDone p ok s
  | .laneRemove fn p l => Sys2Proof.Machine.execLaneRemove fn p l s
  | .laneFecWindow p counts => Sys2Proof.Machine.execLaneFecWindow p counts s
  | .portKeyLoad fn p => Sys2Proof.Machine.execPortKeyLoad fn p s
  | .portRekey fn p => Sys2Proof.Machine.execPortRekey fn p s
  | .digestUpdate fn => Sys2Proof.Machine.execDigestUpdate fn s
  | .epochArm fn => Sys2Proof.Machine.execEpochArm fn s
  | .epochDisarm fn => Sys2Proof.Machine.execEpochDisarm fn s
  | .leqPop fn => Sys2Proof.Machine.execLeqPop fn s
  | .pwrDone d r => Sys2Proof.Machine.execPwrDone d r s
  | .pwrGoodFall rail => Sys2Proof.Machine.execPwrGoodFall rail s
  | .pwrGoodRise rail => Sys2Proof.Machine.execPwrGoodRise rail s
  | .powerOnReset straps => Sys2Proof.Machine.execPowerOnReset straps s
  | .fuseLoadDone bad => Sys2Proof.Machine.execFuseLoadDone bad s
  | .perstRelease speed width => Sys2Proof.Machine.execPerstRelease speed width s
  | .hotReset speed width => Sys2Proof.Machine.execHotReset speed width s
  | .chipReset fn v => Sys2Proof.Machine.execChipReset fn v s
  | .jtagInstruction x => Sys2Proof.Machine.execJtagInstruction x s
  | .pmSendByte fn addr code => Sys2Proof.Machine.execPmSendByte fn addr code s
  | .pmWriteByte fn addr code => Sys2Proof.Machine.execPmWriteByte fn addr code s
  | .pmWriteWord fn addr code => Sys2Proof.Machine.execPmWriteWord fn addr code s
  | .pmReadByte fn addr code => Sys2Proof.Machine.execPmReadByte fn addr code s
  | .pmReadWord fn addr code => Sys2Proof.Machine.execPmReadWord fn addr code s
  | .pmBlockRead fn addr code => Sys2Proof.Machine.execPmBlockRead fn addr code s
  | .pmDone o => Sys2Proof.Machine.execPmDone o s
  | .patchLoad fn => Sys2Proof.Machine.execPatchLoad fn s
  | .patchDone src version profile => Sys2Proof.Machine.execPatchDone src version profile s
  | .thermalSample a b io => Sys2Proof.Machine.execThermalSample a b io s
  | .tripClear fn => Sys2Proof.Machine.execTripClear fn s
  | .refillDone srcs => Sys2Proof.Machine.execRefillDone srcs s
  | .arrayTestDone columns => Sys2Proof.Machine.execArrayTestDone columns s
  | .ftPop fn => Sys2Proof.Machine.execFtPop fn s
  | .badCrcFlit p => Sys2Proof.Machine.execBadCrcFlit p s
  | .undefinedTypeFlit p => Sys2Proof.Machine.execUndefinedTypeFlit p s
  | .catastrophicTemperature stack => Sys2Proof.Machine.execCatastrophicTemperature stack s
  | .portKeyDone p => Sys2Proof.Machine.execPortKeyDone p s
  | .tnDone f => Sys2Proof.Machine.execTnDone f s
  | .dlDone f => Sys2Proof.Machine.execDlDone f s
  | .tbArm => Sys2Proof.Machine.execTbArm s
  | .ppsRise => Sys2Proof.Machine.execPpsRise s
  | .ppsEdge => Sys2Proof.Machine.execPpsEdge s
  | .ppsGlitch => Sys2Proof.Machine.execPpsGlitch s
  | .freezeEnd => Sys2Proof.Machine.execFreezeEnd s
  | .ppsMissing => Sys2Proof.Machine.execPpsMissing s
  | .tickDelivery => Sys2Proof.Machine.execTickDelivery s
  | .skewMaxClr => Sys2Proof.Machine.execSkewMaxClr s
  | .taskDispatch => Sys2Proof.Machine.execTaskDispatch s
  | .blkClearDone => Sys2Proof.Machine.execBlkClearDone s
  | .scrubStep => Sys2Proof.Machine.execScrubStep s
  | .protFillLine => Sys2Proof.Machine.execProtFillLine s
  | .rngHealthFail => Sys2Proof.Machine.execRngHealthFail s
  | .rngReseed => Sys2Proof.Machine.execRngReseed s
  | .perstAssert => Sys2Proof.Machine.execPerstAssert s
  | .tapReset => Sys2Proof.Machine.execTapReset s
  | .burnDone => Sys2Proof.Machine.execBurnDone s
  | .vrAlertNRising => Sys2Proof.Machine.execVrAlertNRising s
  | .rngStartUpTestsPass => Sys2Proof.Machine.execRngStartUpTestsPass s
  | .digestDone => Sys2Proof.Machine.execDigestDone s

end Sys2Proof.Machine
end

