-- ==== Sys2Proof/Machine/Fetch.lean ====
section
/-!
DEFINITION. The sequencer's fetch of the next step of a task, from the step buffer of its core or the image in HBM (R125, R155).
-/

namespace Sys2Proof.Machine

/-- R125, R155, R301. The task in a slot has no step left to issue and fetches another. -/
def State.wantsStep (s : State) (core slot : Nat) : Bool :=
  !halted (seqPage core) s && (match s.running core slot with
    | some r => r.fetches && r.queue.isEmpty && r.replay.isEmpty && !s.stepHeld core r.task.ctx r.pc
    | none => false)

/-- A slot, in the order of the slots and cores, whose task is to fetch its next step. -/
def State.fetcher (s : State) : Option (Nat × Nat) :=
  (List.range 64).findSome? (fun k => if s.wantsStep (k / 4) (k % 4) then some (k / 4, k % 4) else none)

/-- R155. The next step of the task in a slot is fetched, and the core goes on. -/
def State.fetch (s : State) (core slot : Nat) : State :=
  match s.running core slot with
  | some r =>
    let (t, h, op) := s.stepRead core slot r.task.ctx r.pc
    (t.mapRunning core slot fun q => { q with queue := q.queue ++ [(h, op)] }).pump core
  | none => s

end Sys2Proof.Machine
end

