-- ==== Sys2Proof/Machine/Step.lean ====
section
/-!
DEFINITION. One step of the device: the front command of the queue; on an empty queue a withheld command that can now run, else a Causeway port whose accepted flits can be applied, else a core whose sequencer or
units can go on, else the fetch of a task's next step and one clock of the timebase, else that clock alone.
-/

namespace Sys2Proof.Machine

/-- The queue takes new contents. -/
def State.withPending (s : State) (q : List Instr) : State := { s with pending := q }

/-- R29. The withheld commands take new contents. -/
def State.withHeld (s : State) (q : List (Nat × Instr)) : State := { s with held := q }

/-- R29, R50, R51. The first withheld command, in their order, that no longer waits takes effect. `before` are those passed over. -/
def State.release (s : State) (before : List (Nat × Instr)) : List (Nat × Instr) → Outcome
  | [] => match s.rxPort with
    | some p => .next (s.rxGo p)
    | none => match s.readyCore with
      | some n => .next (s.pump n)
      | none => match s.fetcher with
        | some (n, i) => .next ((s.fetch n i).pass 1)
        | none => .next (s.pass 1)
  | (b, c) :: after =>
    match exec c (s.withHeld before) with
    | .next t =>
      if before.length < t.held.length then s.release (before ++ [(b, c)]) after
      else .next (t.withHeld (t.held ++ after.filter (fun h => t.pageOn h.1)))
    | o => o

/-- One step. -/
def step (s : State) : Host.Outcome State Fault Refusal :=
  match s.pending with
  | c :: q => exec c (s.withPending q)
  | [] => s.release [] s.held

/-- A command is put at the front of the queue. -/
def State.push (s : State) (c : Instr) : State := s.withPending (c :: s.pending)

/-- The state in which the command that a word spells is next; unchanged where the word spells none. -/
def State.withFetchWord (s : State) (nbits w : Nat) : State :=
  match decodeTableWord nbits w with
  | some c => s.push c
  | none => s

end Sys2Proof.Machine
end

