-- ==== Sys2Proof/WellFormed.lean ====
section
/-!
DEFINITION. Well-formed commands: every operand is a number that its field or its index in the device can hold. A command of the table is sent
with such operands; what the meanings do with others is of no account.
-/

namespace Sys2Proof

/-- R454. The number of a VF. -/
def vfNumber (f : Nat) : Bool := decide (1 ≤ f) && decide (f ≤ 8)

/-- R459. The number of a page triple. -/
def tripleNumber (j : Nat) : Bool := decide (1 ≤ j) && decide (j ≤ 8)

/-- R529. The code of a power domain that a command can name. -/
def domainNumber (d : Nat) : Bool := decide (1 ≤ d) && decide (d ≤ 7)

/-- R287. Bytes written into one 128-byte line. -/
def lineBytes (addr : Nat) (bytes : List Byte) : Bool := decide (addr % 128 + bytes.length ≤ 128)

/-- R128. The fields of a step's header. -/
def StepHdr.wf (h : StepHdr) : Bool := decide (h.core < 16) && decide (h.slot < 4) && decide (h.sigCtr < 4096) && decide (h.tag < 2 ^ 32)

/-- R130. The fields of an operand reference. -/
def OpRef.wf (o : OpRef) : Bool := decide (o.off < 2 ^ 40) && decide (o.space < 16) && decide (o.areg < 16) && decide (o.pitch < 2 ^ 16)

/-- R132. The fields of LOAD and TRANSFER. -/
def XferStep.wf (x : XferStep) : Bool := x.src.wf && x.dst.wf && decide (x.rowLen < 2 ^ 24) && decide (x.rows < 2 ^ 16)

/-- R134. The fields of MATMUL. -/
def MatmulStep.wf (m : MatmulStep) : Bool :=
  m.plane.wf && m.bcast.wf && m.dst.wf && m.init.wf && decide (m.k < 2 ^ 16) && decide (m.n < 2 ^ 16) && decide (m.vcnt < 2 ^ 16) && decide (m.mode < 4)
    && decide (m.gang < 4) && decide (m.share < 4) && decide (m.lead < 4) && decide (m.blk < 512) && decide (m.pfmt < 16) && decide (m.bfmt < 16)
    && decide (m.ofmt < 16) && decide (m.seed < 2 ^ 32)

/-- R135. The fields of MATVEC. -/
def MatvecStep.wf (m : MatvecStep) : Bool :=
  m.wgt.wf && m.vec.wf && m.dst.wf && m.init.wf && decide (m.k < 2 ^ 16) && decide (m.n < 2 ^ 16) && decide (m.nvec < 8) && decide (m.wfmt < 16)
    && decide (m.vfmt < 16) && decide (m.ofmt < 16) && decide (m.seed < 2 ^ 32)

/-- R136. The fields of VECTOR. -/
def VectorStep.wf (v : VectorStep) : Bool :=
  v.a.wf && v.b.wf && v.c.wf && v.dst.wf && decide (v.afmt < 16) && decide (v.bfmt < 16) && decide (v.cfmt < 16) && decide (v.ofmt < 16)
    && decide (v.cols < 2 ^ 16) && decide (v.rows < 2 ^ 16) && decide (v.seed < 2 ^ 32) && decide (v.imm < 2 ^ 32)

/-- R140. The fields of SEAL. -/
def SealStep.wf (x : SealStep) : Bool := x.src.wf && x.dst.wf && decide (x.len < 2 ^ 32) && decide (x.key < 512) && decide (x.alg < 256)

/-- R485. The fields of a flit's header. -/
def FlitHdr.wf (h : FlitHdr) : Bool := decide (h.seq < 2 ^ 24) && decide (h.ack < 2 ^ 24) && decide (h.count < 64) && decide (h.vc < 4)

/-- R488. The fields of an LWR_HEAD. -/
def LinkWrite.wf (w : LinkWrite) : Bool := decide (w.dest < 256) && decide (w.origin < 256) && decide (w.lf < 4096) && decide (w.flow < 4096) && decide (w.fn < 16)
    && decide (w.seq < 2 ^ 32) && decide (w.off < 2 ^ 28) && decide (1 ≤ w.len) && decide (w.len ≤ 4096)

/-- R488. The fields of an LSIG. -/
def LinkSignal.wf (g : LinkSignal) : Bool :=
  decide (g.dest < 256) && decide (g.origin < 256) && decide (g.ctr < 4096) && decide (g.value < 2 ^ 16) && decide (g.flow < 4096) && decide (g.fn < 16)

/-- R570. A self-test reports on four arrays of 65 columns. -/
def CoreTest.wf (t : CoreTest) : Bool := t.columns.length == 4 && t.columns.all (fun c => decide (c < 2 ^ 65))

/-- R538. A start reports on six stacks. -/
def StartReport.wf (r : StartReport) : Bool := r.trained.length == 6 && r.pchFail.length == 6 && r.slots.all CoreTest.wf

/-- A command is well-formed. -/
def wellFormed : Instr → Bool
  | .load h x => h.wf && x.wf
  | .transfer h x => h.wf && x.wf
  | .matmul h m => h.wf && m.wf
  | .matvec h m => h.wf && m.wf
  | .signal h ctr value => h.wf && decide (ctr < 4096) && decide (value < 2 ^ 16)
  | .wait h ctr value => h.wf && decide (ctr < 4096) && decide (value < 2 ^ 16)
  | .set h ctr value => h.wf && decide (ctr < 4096) && decide (value < 2 ^ 16)
  | .flagsOut h dst => h.wf && dst.wf
  | .flagsClr h mask => h.wf && decide (mask < 32)
  | .saltSet h imm => h.wf && decide (imm < 2 ^ 32)
  | .seta h areg imm => h.wf && decide (areg < 16) && decide (imm < 2 ^ 40)
  | .adda h areg imm => h.wf && decide (areg < 16) && decide (imm < 2 ^ 40)
  | .loop h areg target => h.wf && decide (areg < 16) && decide (target < 2 ^ 20)
  | .jump h target => h.wf && decide (target < 2 ^ 20)
  | .seqPreempt fn core mask => decide (fn < 9) && decide (core < 16) && decide (mask < 16)
  | .seqAbort fn core mask => decide (fn < 9) && decide (core < 16) && decide (mask < 16)
  | .seqResGo fn core => decide (fn < 9) && decide (core < 16)
  | .seqResDiscard fn core => decide (fn < 9) && decide (core < 16)
  | .ctxLoad fn core ctx => decide (fn < 9) && decide (core < 16) && decide (ctx < 16)
  | .coreTestStart fn core => decide (fn < 9) && decide (core < 16)
  | .chApply fn c => decide (fn < 9) && decide (c < 256)
  | .chCmdMark fn c m => decide (fn < 9) && decide (c < 256) && decide (m < 8)
  | .chCmdRewind fn c m => decide (fn < 9) && decide (c < 256) && decide (m < 8)
  | .chCmdRelease fn c m => decide (fn < 9) && decide (c < 256) && decide (m < 8)
  | .replayHeld fn c => decide (fn < 9) && decide (c < 256)
  | .discardHeld fn c => decide (fn < 9) && decide (c < 256)
  | .chFlush fn c => decide (fn < 9) && decide (c < 256)
  | .hostPost fn j dlist => decide (fn < 9) && tripleNumber j && decide (dlist < 4)
  | .releaseSkip fn w => decide (fn < 9) && decide (w < 4096)
  | .releaseRetry fn w => decide (fn < 9) && decide (w < 4096)
  | .clearStale fn w => decide (fn < 9) && decide (w < 4096)
  | .purge fn w => decide (fn < 9) && decide (w < 4096)
  | .dlReleaseAll fn d => decide (fn < 9) && decide (d < 4)
  | .dlPurge fn d => decide (fn < 9) && decide (d < 4)
  | .chnApply fn k => decide (fn < 9) && decide (k < 32)
  | .clearLost fn k => decide (fn < 9) && decide (k < 32)
  | .flushSpill fn k => decide (fn < 9) && decide (k < 32)
  | .cntSignal fn c v => decide (fn < 9) && decide (c < 4096) && decide (v < 2 ^ 32)
  | .cntSub fn c v => decide (fn < 9) && decide (c < 4096) && decide (v < 2 ^ 32)
  | .cntSet fn c v => decide (fn < 9) && decide (c < 4096) && decide (v < 2 ^ 32)
  | .cntArm fn c v => decide (fn < 9) && decide (c < 4096) && decide (v < 2 ^ 32)
  | .cntDisarm fn c => decide (fn < 9) && decide (c < 4096)
  | .dbgSignal fn v => decide (fn < 9) && decide (v < 2 ^ 32)
  | .dbgSub fn v => decide (fn < 9) && decide (v < 2 ^ 32)
  | .dbgSet fn v => decide (fn < 9) && decide (v < 2 ^ 32)
  | .dbgArm fn v => decide (fn < 9) && decide (v < 2 ^ 32)
  | .dbgDisarm fn => decide (fn < 9)
  | .syBlkFnWrite fn r v => decide (fn < 9) && decide (r < 8) && decide (v < 2 ^ 32)
  | .syBlkClr fn b => decide (fn < 9) && decide (b < 64)
  | .lcFlush fn n => decide (fn < 9) && decide (n < 16)
  | .lcFlushInv fn n => decide (fn < 9) && decide (n < 16)
  | .rdS core addr => decide (core < 16) && decide (addr < 2 ^ 40)
  | .rdM core addr bytes => decide (core < 16) && decide (addr < 2 ^ 40) && lineBytes addr bytes
  | .claim core addr bytes => decide (core < 16) && decide (addr < 2 ^ 40) && lineBytes addr bytes
  | .upg core addr bytes => decide (core < 16) && decide (addr < 2 ^ 40) && lineBytes addr bytes
  | .dataS core l => decide (core < 16) && decide (l < 2 ^ 33)
  | .dataM core l => decide (core < 16) && decide (l < 2 ^ 33)
  | .grant core l => decide (core < 16) && decide (l < 2 ^ 33)
  | .evictAck core l => decide (core < 16) && decide (l < 2 ^ 33)
  | .snpInv core l => decide (core < 16) && decide (l < 2 ^ 33)
  | .snpShr core l => decide (core < 16) && decide (l < 2 ^ 33)
  | .homeAgentRead agent fn core addr => decide (agent < 16) && decide (fn < 9) && decide (core < 16) && decide (addr < 2 ^ 40)
  | .homeAgentWrite agent fn core addr bytes => decide (agent < 16) && decide (fn < 9) && decide (core < 16) && decide (addr < 2 ^ 40) && lineBytes addr bytes
  | .wsetApply fn e => decide (fn < 9) && decide (e < 8)
  | .wsetFill fn e copy => decide (fn < 9) && decide (e < 8) && decide (copy < 2)
  | .wsetSwitch fn e => decide (fn < 9) && decide (e < 8)
  | .wsetArm fn e => decide (fn < 9) && decide (e < 8)
  | .wsetDisarm fn e => decide (fn < 9) && decide (e < 8)
  | .manApply fn e copy core ctx => decide (fn < 9) && decide (e < 8) && decide (copy < 2) && decide (core < 16) && decide (ctx < 16)
  | .rqDoorbell fn f r p => decide (fn < 9) && decide (f < 9) && decide (r < 4) && decide (p < 2 ^ 32)
  | .cqDoorbell fn f r p => decide (fn < 9) && decide (f < 9) && decide (r < 4) && decide (p < 2 ^ 32)
  | .sealDesc _ _ => true
  | .rngRestart fn => decide (fn < 9)
  | .slotCmdClear fn slot => decide (fn < 9) && decide (slot < 512)
  | .hostReadCompletion _ _ => true
  | .completionTimeout _ => true
  | .hrPiDoorbell fn c p => decide (fn < 9) && decide (c < 256) && decide (p < 2 ^ 32)
  | .hrCiDoorbell fn c p => decide (fn < 9) && decide (c < 256) && decide (p < 2 ^ 32)
  | .hrEnable fn c _ => decide (fn < 9) && decide (c < 256)
  | .hrSkip fn c => decide (fn < 9) && decide (c < 256)
  | .flr f => vfNumber f
  | .tnQuiesce fn f _ => decide (fn < 9) && vfNumber f
  | .tnUnquiesce fn f => decide (fn < 9) && vfNumber f
  | .revokeAll fn f => decide (fn < 9) && vfNumber f
  | .dlSync fn f => decide (fn < 9) && vfNumber f
  | .dlEpoch fn f => decide (fn < 9) && vfNumber f
  | .tgCoresWrite fn f v => decide (fn < 9) && vfNumber f && decide (v < 2 ^ 32)
  | .tgPagesWrite fn f v => decide (fn < 9) && vfNumber f && decide (v < 2 ^ 32)
  | .exch p h _ => decide (p < 8) && h.wf
  | .itemHead p h _ _ => decide (p < 8) && h.wf
  | .itemData p h _ => decide (p < 8) && h.wf
  | .lwrHead p h w _ => decide (p < 8) && h.wf && w.wf
  | .lwrData p h _ => decide (p < 8) && h.wf
  | .lsig p h g => decide (p < 8) && h.wf && g.wf
  | .notice p h _ => decide (p < 8) && h.wf
  | .void p h => decide (p < 8) && h.wf
  | .tsync p h _ _ => decide (p < 8) && h.wf
  | .lane p h mask => decide (p < 8) && h.wf && decide (mask < 256)
  | .key p h => decide (p < 8) && h.wf
  | .leave p h => decide (p < 8) && h.wf
  | .pwrOn fn d => decide (fn < 9) && domainNumber d
  | .pwrRetain fn d _ => decide (fn < 9) && domainNumber d
  | .pwrOff fn d _ => decide (fn < 9) && domainNumber d
  | .coreRst fn mask => decide (fn < 9) && decide (mask < 2 ^ 16)
  | .smbusAccess _ => true
  | .withdraw fn core => decide (fn < 9) && decide (core < 16)
  | .refill fn core set copy src ctx => decide (fn < 9) && decide (core < 16) && decide (set < 8) && decide (copy < 2) && decide (src < 2) && decide (ctx < 16)
  | .epochSync fn core => decide (fn < 9) && decide (core < 16)
  | .admitCore fn core => decide (fn < 9) && decide (core < 16)
  | .arrayTest fn core array => decide (fn < 9) && decide (core < 16) && decide (array < 4)
  | .fuUnlock fn v => decide (fn < 9) && decide (v < 2 ^ 32)
  | .coreRemap fn core slot => decide (fn < 9) && decide (core < 16) && decide (slot < 16)
  | .laneRemap fn port lane phys => decide (fn < 9) && decide (port < 8) && decide (lane < 8) && decide (phys < 16)
  | .rkeAdvance fn => decide (fn < 9)
  | .profileRaise fn v => decide (fn < 9) && decide (v < 2 ^ 32)
  | .profileLock fn => decide (fn < 9)
  | .debugLock fn => decide (fn < 9)
  | .registerWrite fn addr v be => decide (fn < 9) && decide (addr < 2 ^ 26) && decide (v < 2 ^ 32) && decide (be < 16)
  | .lowerWordRead fn addr => decide (fn < 9) && decide (addr < 2 ^ 26)
  | .tbNowRead fn => decide (fn < 9)
  | .errCodeRead fn page => decide (fn < 9) && decide (page < 16384)
  | .errCodeClr fn page _ => decide (fn < 9) && decide (page < 16384)
  | .evtStatClear fn page mask edges => decide (fn < 9) && decide (page < 16384) && decide (mask < 2 ^ 32) && decide (edges < 2 ^ 32)
  | .blkEnable fn page _ => decide (fn < 9) && decide (page < 16384)
  | .softReset fn page v => decide (fn < 9) && decide (page < 16384) && decide (v < 2 ^ 32)
  | .quiesceReq fn page _ => decide (fn < 9) && decide (page < 16384)
  | .quiesceDone page => decide (page < 16384)
  | .blkLock fn page => decide (fn < 9) && decide (page < 16384)
  | .throttleStall _ => true
  | .resume fn page => decide (fn < 9) && decide (page < 16384)
  | .tbRateWindow _ _ => true
  | .tbPpsEnWrite _ _ => true
  | .tickEnWrite fn _ => decide (fn < 9)
  | .slotGet core slot => decide (core < 16) && decide (slot < 4)
  | .nop h => h.wf
  | .add h v => h.wf && v.wf
  | .sub h v => h.wf && v.wf
  | .mul h v => h.wf && v.wf
  | .fma h v => h.wf && v.wf
  | .max h v => h.wf && v.wf
  | .min h v => h.wf && v.wf
  | .rcp h v => h.wf && v.wf
  | .rsqrt h v => h.wf && v.wf
  | .exp h v => h.wf && v.wf
  | .cvt h v => h.wf && v.wf
  | .sumred h v => h.wf && v.wf
  | .maxred h v => h.wf && v.wf
  | .argmax h v => h.wf && v.wf
  | .rand h v => h.wf && v.wf
  | .waitDec h ctr value => h.wf && decide (ctr < 4096) && decide (value < 2 ^ 16)
  | .signalRemote h m ctr value => h.wf && decide (m < 256) && decide (ctr < 4096) && decide (value < 2 ^ 16)
  | .taskPost h dlist delay item => h.wf && decide (dlist < 4) && decide (delay < 2 ^ 32) && item.length == 32
  | .chainMark h c m => h.wf && decide (c < 256) && decide (m < 256)
  | .chainRewind h c m => h.wf && decide (c < 256) && decide (m < 256)
  | .chainRelease h c m => h.wf && decide (c < 256) && decide (m < 256)
  | .chainCommit h c => h.wf && decide (c < 256)
  | .sealOp h x => h.wf && x.wf
  | .fenceFull h => h.wf
  | .fenceStore h => h.wf
  | .stepComplete core slot _ => decide (core < 16) && decide (slot < 4)
  | .arrayFault core array cause col => decide (core < 16) && decide (array < 5) && decide (cause < 6) && decide (col < 128)
  | .shadowAdvance core array => decide (core < 16) && decide (array < 4)
  | .maColfailWrite fn core array x v => decide (fn < 9) && decide (core < 16) && decide (array < 4) && decide (x < 3) && decide (v < 2 ^ 32)
  | .maCntClr fn core array => decide (fn < 9) && decide (core < 16) && decide (array < 4)
  | .mvpCntClr fn core => decide (fn < 9) && decide (core < 16)
  | .vuCntClr fn core => decide (fn < 9) && decide (core < 16)
  | .cntClr fn n k => decide (fn < 9) && decide (n < 16) && decide (k < 2)
  | .lcCntClr fn n => decide (fn < 9) && decide (n < 16)
  | .slotEnWrite fn core mask => decide (fn < 9) && decide (core < 16) && decide (mask < 16)
  | .preemptSave core slot _ => decide (core < 16) && decide (slot < 4)
  | .resumeStart core => decide (core < 16)
  | .imgLoadDone core ctx => decide (core < 16) && decide (ctx < 16)
  | .coreTestDone core t => decide (core < 16) && t.wf
  | .coreFatalFault core => decide (core < 16)
  | .chainTake p c => decide (p < 8) && decide (c < 256)
  | .cellGrant c => decide (c < 256)
  | .chEnable fn c _ => decide (fn < 9) && decide (c < 256)
  | .chainOpComplete c => decide (c < 256)
  | .itemExpand c => decide (c < 256)
  | .storeEntryGrant k => decide (k < 32)
  | .bqPop fn j => decide (fn < 9) && tripleNumber j
  | .bindingWrite fn c x v => decide (fn < 9) && decide (c < 256) && decide (x < 3) && decide (v < 2 ^ 32)
  | .spillRefill k => decide (k < 32)
  | .chnEnable fn k _ => decide (fn < 9) && decide (k < 32)
  | .lcCmdDone n => decide (n < 16)
  | .segValidSet fn f x v => decide (fn < 9) && decide (f < 9) && decide (x < 64) && decide (v < 2 ^ 32)
  | .segValidClear fn f x v => decide (fn < 9) && decide (f < 9) && decide (x < 64) && decide (v < 2 ^ 32)
  | .segDone f => decide (f < 9)
  | .evictS core l => decide (core < 16) && decide (l < 2 ^ 33)
  | .evictM core l => decide (core < 16) && decide (l < 2 ^ 33)
  | .ack core l => decide (core < 16) && decide (l < 2 ^ 33)
  | .data core l => decide (core < 16) && decide (l < 2 ^ 33)
  | .notHeld core l => decide (core < 16) && decide (l < 2 ^ 33)
  | .notHeldEvicting core l => decide (core < 16) && decide (l < 2 ^ 33)
  | .loadCur fn d => decide (fn < 9) && decide (d < 15)
  | .loadNext fn d => decide (fn < 9) && decide (d < 15)
  | .rekeyStart fn d => decide (fn < 9) && decide (d < 15)
  | .domDisable fn d => decide (fn < 9) && decide (d < 15)
  | .domCmdDone d => decide (d < 15)
  | .rekeySweepLine d => decide (d < 15)
  | .protFill fn => decide (fn < 9)
  | .plPop fn => decide (fn < 9)
  | .wsetCopyFreed e => decide (e < 8)
  | .fillPartDone e core _ => decide (e < 8) && decide (core < 16)
  | .manDone e _ => decide (e < 8)
  | .wsetDrained e => decide (e < 8)
  | .reloadDone e => decide (e < 8)
  | .rqEnable fn f r cq _ => decide (fn < 9) && decide (f < 9) && decide (r < 4) && decide (cq < 4)
  | .cqEnable fn f r _ => decide (fn < 9) && decide (f < 9) && decide (r < 4)
  | .sluiceFetch f r _ => decide (f < 9) && decide (r < 4)
  | .descNop _ => true
  | .gcmEnc _ _ _ => true
  | .gcmDec _ _ _ => true
  | .ctr _ _ => true
  | .xtsEnc _ _ => true
  | .xtsDec _ _ => true
  | .sha256 _ _ => true
  | .hmac _ _ => true
  | .hmacChk _ _ _ => true
  | .random _ => true
  | .keyLoad _ _ => true
  | .keyUnwrap _ _ => true
  | .keyWrap _ => true
  | .keyGen _ => true
  | .keyDerive _ _ _ => true
  | .keyClear _ => true
  | .keyInfo _ => true
  | .sealChk _ _ _ => true
  | .ecdsaSign _ _ => true
  | .ecdsaVerify _ _ _ => true
  | .ecdsaVerifyExt _ _ _ => true
  | .ecdhP256 _ _ => true
  | .ed25519Sign _ _ => true
  | .ed25519Verify _ _ _ => true
  | .ed25519VerifyExt _ _ _ => true
  | .x25519 _ _ => true
  | .rsaPriv _ _ => true
  | .rsaPub _ _ _ => true
  | .pointCheck _ _ => true
  | .curveLoad _ _ => true
  | .curveClear _ => true
  | .pkeUnitStart u => decide (u < 4)
  | .pkeYieldPoint us => us.all (fun u => decide (u < 4))
  | .pkeParkDone u => decide (u < 4)
  | .pkeValidationEnd u => decide (u < 4)
  | .pkeOpComplete u _ => decide (u < 4)
  | .descComplete _ => true
  | .fnWinWrite fn f base cnt _ => decide (fn < 9) && decide (f < 9) && decide (base < 512) && decide (cnt < 1024)
  | .hwAttrWrite fn e len _ _ => decide (fn < 9) && decide (e < 16) && decide (len < 2 ^ 24)
  | .atsTranslation fn p _ _ => decide (fn < 9) && decide (p < 2 ^ 52)
  | .atsInvalidate _ fn p _ => decide (fn < 9) && decide (p < 2 ^ 52)
  | .atsInvComplete _ => true
  | .hrInboundEntry c _ => decide (c < 256)
  | .hrOutboundDeliver c => decide (c < 256)
  | .hrRestart fn c => decide (fn < 9) && decide (c < 256)
  | .irqRouteWrite fn v _ => decide (fn < 9) && decide (v < 2048)
  | .msixUnmask fn _ => decide (fn < 9)
  | .dStateChange fn _ => decide (fn < 9)
  | .pcieLinkError _ => true
  | .abPop fn => decide (fn < 9)
  | .retrain fn speed width => decide (fn < 9) && decide (speed < 16) && decide (width < 32)
  | .vfEnable n => decide (n < 9)
  | .flrDone f => vfNumber f
  | .tnQuiesceStage f => vfNumber f
  | .dlEnable fn f _ => decide (fn < 9) && vfNumber f
  | .dlCiDoorbell fn f p => decide (fn < 9) && vfNumber f && decide (p < 2 ^ 32)
  | .mbOutSend fn f => decide (fn < 9) && vfNumber f
  | .mbReqAck fn f => decide (fn < 9) && vfNumber f
  | .mbRspSend fn f => decide (fn < 9) && vfNumber f
  | .mbInAck fn f => decide (fn < 9) && vfNumber f
  | .portStart fn p => decide (fn < 9) && decide (p < 8)
  | .portStop fn p => decide (fn < 9) && decide (p < 8)
  | .recheck fn p => decide (fn < 9) && decide (p < 8)
  | .resetSeq fn p => decide (fn < 9) && decide (p < 8)
  | .laneLocked p => decide (p < 8)
  | .trainTimeout p locked => decide (p < 8) && decide (locked < 256)
  | .alignDone p => decide (p < 8)
  | .exchSend p => decide (p < 8)
  | .idle p h => decide (p < 8) && h.wf
  | .tsyncSend p => decide (p < 8)
  | .retry p h want => decide (p < 8) && h.wf && decide (want < 2 ^ 24)
  | .portTransmit p src => decide (p < 8) && decide (src < 3)
  | .resendTimeout p => decide (p < 8)
  | .ackTimeout p => decide (p < 8)
  | .lockLost p l => decide (p < 8) && decide (l < 8)
  | .laneAdd fn p l => decide (fn < 9) && decide (p < 8) && decide (l < 8)
  | .laneAddDone p _ => decide (p < 8)
  | .laneRemove fn p l => decide (fn < 9) && decide (p < 8) && decide (l < 8)
  | .laneFecWindow p _ => decide (p < 8)
  | .portKeyLoad fn p => decide (fn < 9) && decide (p < 8)
  | .portRekey fn p => decide (fn < 9) && decide (p < 8)
  | .digestUpdate fn => decide (fn < 9)
  | .epochArm fn => decide (fn < 9)
  | .epochDisarm fn => decide (fn < 9)
  | .leqPop fn => decide (fn < 9)
  | .pwrDone d r => domainNumber d && r.wf
  | .pwrGoodFall rail => decide (rail < 5)
  | .pwrGoodRise rail => decide (rail < 5)
  | .powerOnReset straps => decide (straps < 2 ^ 32)
  | .fuseLoadDone _ => true
  | .perstRelease speed width => decide (speed < 16) && decide (width < 32)
  | .hotReset speed width => decide (speed < 16) && decide (width < 32)
  | .chipReset fn v => decide (fn < 9) && decide (v < 2 ^ 32)
  | .jtagInstruction _ => true
  | .pmSendByte fn addr code => decide (fn < 9) && decide (addr < 128) && decide (code < 256)
  | .pmWriteByte fn addr code => decide (fn < 9) && decide (addr < 128) && decide (code < 256)
  | .pmWriteWord fn addr code => decide (fn < 9) && decide (addr < 128) && decide (code < 256)
  | .pmReadByte fn addr code => decide (fn < 9) && decide (addr < 128) && decide (code < 256)
  | .pmReadWord fn addr code => decide (fn < 9) && decide (addr < 128) && decide (code < 256)
  | .pmBlockRead fn addr code => decide (fn < 9) && decide (addr < 128) && decide (code < 256)
  | .pmDone _ => true
  | .patchLoad fn => decide (fn < 9)
  | .patchDone _ version profile => decide (version < 2 ^ 32) && decide (profile < 2 ^ 32)
  | .thermalSample a b io => decide (a < 2 ^ 16) && decide (b < 2 ^ 16) && decide (io < 2 ^ 16)
  | .tripClear fn => decide (fn < 9)
  | .refillDone _ => true
  | .arrayTestDone columns => decide (columns < 2 ^ 65)
  | .ftPop fn => decide (fn < 9)
  | .badCrcFlit p => decide (p < 8)
  | .undefinedTypeFlit p => decide (p < 8)
  | .catastrophicTemperature stack => decide (stack < 6)
  | .portKeyDone p => decide (p < 8)
  | .tnDone f => vfNumber f
  | .dlDone f => vfNumber f
  | .tbArm => true
  | .ppsRise => true
  | .ppsEdge => true
  | .ppsGlitch => true
  | .freezeEnd => true
  | .ppsMissing => true
  | .tickDelivery => true
  | .skewMaxClr => true
  | .taskDispatch => true
  | .blkClearDone => true
  | .scrubStep => true
  | .protFillLine => true
  | .rngHealthFail => true
  | .rngReseed => true
  | .perstAssert => true
  | .tapReset => true
  | .burnDone => true
  | .vrAlertNRising => true
  | .rngStartUpTestsPass => true
  | .digestDone => true

end Sys2Proof
end

