-- ==== Sys2Proof/Safety.lean ====
section
/-!
DEFINITION. What the statements say of states and runs: soundness (what every run keeps), the parts a command may leave alone, the conditions under which a
command reaches its page.
-/

namespace Sys2Proof.Machine

/-! ### Soundness -/

/-- R325, R449, R526, R590. What every step keeps: the memories are in canonical form, and no log holds more entries than it has room for. -/
structure State.Sound (s : State) : Prop where
  memory : s.mem.wf = true
  protLog : s.mem.protLog.length ≤ 64
  abortLog : s.host.abortLog.length ≤ 64
  lateErrors : s.link.leq.length ≤ 64
  faultLog : s.faultLog.length ≤ 64

/-- A step stopped with a fault. -/
def Outcome.isFault : Outcome → Bool
  | .fault _ => true
  | _ => false

/-- A command runs: it answers a next state, of which `post` holds. -/
def Runs (c : Instr) (s : State) (post : State → Prop) : Prop := ∃ t, exec c s = .next t ∧ post t

/-! ### What a command leaves alone -/

/-- The parts of the state. `msgs` is what the device has sent to the host or owes it; `ws`, `act` and `hbm` are the bytes of the weight stores, the activation stores and
HBM; `caches` are the line caches of the cores; `host` and `mem` are the rest of theirs. -/
inductive Part where
  | regs | pages | captures | readData | time | stall | msgs | host | power | fuses | faultLog | ws | act | hbm | caches | mem | sluice | sync | work | link | tenants | rngCtr | freeCtr | held | pending
  deriving DecidableEq, Repr

/-- The host interface apart from what has been sent or is owed. -/
abbrev HostIf.rest (h : HostIf) : HostIf := { h with out := [], owed := [], vecPending := [] }

/-- Memory apart from the bytes of the stores and of HBM and the line caches. -/
abbrev Memory.rest (m : Memory) : Memory := { m with ws := [], act := [], hbm := [], caches := [] }

/-- A part is the same in two states. -/
def SamePart (s t : State) : Part → Prop
  | .regs => t.regs = s.regs
  | .pages => t.pages = s.pages
  | .captures => t.captures = s.captures
  | .readData => t.readData = s.readData
  | .time => t.time = s.time
  | .stall => t.stall = s.stall
  | .msgs => t.host.out = s.host.out ∧ t.host.owed = s.host.owed ∧ t.host.vecPending = s.host.vecPending
  | .host => t.host.rest = s.host.rest
  | .power => t.power = s.power
  | .fuses => t.fuses = s.fuses
  | .faultLog => t.faultLog = s.faultLog
  | .ws => t.mem.ws = s.mem.ws
  | .act => t.mem.act = s.mem.act
  | .hbm => t.mem.hbm = s.mem.hbm
  | .caches => t.mem.caches = s.mem.caches
  | .mem => t.mem.rest = s.mem.rest
  | .sluice => t.sluice = s.sluice
  | .sync => t.sync = s.sync
  | .work => t.work = s.work
  | .link => t.link = s.link
  | .tenants => t.tenants = s.tenants
  | .rngCtr => t.rngCtr = s.rngCtr
  | .freeCtr => t.freeCtr = s.freeCtr
  | .held => t.held = s.held
  | .pending => t.pending = s.pending

/-- Only the named parts differ. -/
def OnlyParts (ps : List Part) (s t : State) : Prop := ∀ p, p ∉ ps → SamePart s t p

/-- Of the registers, only the named fields differ. -/
def OnlyRegs (fs : List Field) (s t : State) : Prop := ∀ g : Field, g.key ∉ fs.map Field.key → t.get g = s.get g

/-- Of the common registers, only those of the named page copies differ. -/
def OnlyPages (ks : List Nat) (s t : State) : Prop := ∀ k, k ∉ ks → t.page k = s.page k

/-- An event bit of a page copy shows. -/
def State.shows (s : State) (fn page bit : Nat) : Bool := bitOf (s.page (pageKey fn page)).evtStat bit

/-! ### What each command may change -/

/-- The parts of the state that a command may change when it runs, whatever the state; all others it leaves as they are. -/
def mayChange : Instr → List Part
  | .shadowAdvance _ _ | .skewMaxClr =>
      [.regs]
  | .ppsRise =>
      [.time]
  | .atsInvalidate _ _ _ _ =>
      [.host]
  | .jtagInstruction _ | .tapReset | .vrAlertNRising =>
      [.power]
  | .pkeParkDone _ | .rngReseed =>
      [.sluice]
  | .slotGet _ _ =>
      [.work]
  | .freezeEnd =>
      [.regs, .time]
  | .pkeYieldPoint _ | .rngStartUpTestsPass =>
      [.regs, .sluice]
  | .resumeStart _ =>
      [.regs, .work]
  | .tsyncSend _ | .badCrcFlit _ =>
      [.regs, .link]
  | .msixUnmask _ _ | .dStateChange _ _ =>
      [.msgs, .host]
  | .atsTranslation _ _ _ _ =>
      [.host, .freeCtr]
  | .maColfailWrite _ _ _ _ _ | .chEnable _ _ _ | .chnEnable _ _ _ | .segValidSet _ _ _ _ | .rekeyStart _ _ | .cqEnable _ _ _ _
  | .fnWinWrite _ _ _ _ _ | .hwAttrWrite _ _ _ _ _ | .hrRestart _ _ | .dlCiDoorbell _ _ _ | .mbOutSend _ _ | .mbReqAck _ _ | .mbRspSend _ _
  | .mbInAck _ _ | .patchLoad _ | .rngHealthFail =>
      [.regs, .pages, .msgs]
  | .tbRateWindow _ _ =>
      [.regs, .time, .power]
  | .atsInvComplete _ =>
      [.regs, .msgs, .host]
  | .pwrGoodRise _ | .perstRelease _ _ =>
      [.regs, .host, .power]
  | .descNop _ | .keyClear _ | .curveClear _ =>
      [.regs, .host, .sluice]
  | .chainTake _ _ =>
      [.regs, .work, .link]
  | .ppsGlitch =>
      [.pages, .time, .msgs]
  | .tbPpsEnWrite _ _ | .tbArm | .ppsEdge | .ppsMissing =>
      [.regs, .pages, .time, .msgs]
  | .irqRouteWrite _ _ _ | .retrain _ _ _ | .dlEnable _ _ _ =>
      [.regs, .pages, .msgs, .host]
  | .pmSendByte _ _ _ | .pmWriteByte _ _ _ | .pmWriteWord _ _ _ | .pmReadByte _ _ _ | .pmReadWord _ _ _ | .pmBlockRead _ _ _ | .tripClear _ =>
      [.regs, .pages, .msgs, .power]
  | .evtStatClear _ _ _ _ | .blkLock _ _ =>
      [.regs, .pages, .msgs, .fuses]
  | .laneFecWindow _ _ =>
      [.regs, .pages, .msgs, .faultLog]
  | .segValidClear _ _ _ _ | .domDisable _ _ | .domCmdDone _ | .protFill _ =>
      [.regs, .pages, .msgs, .mem]
  | .rqEnable _ _ _ _ _ =>
      [.regs, .pages, .msgs, .sluice]
  | .blkClearDone =>
      [.regs, .pages, .msgs, .sync]
  | .slotEnWrite _ _ _ | .bindingWrite _ _ _ _ | .wsetCopyFreed _ | .wsetDrained _ | .reloadDone _ =>
      [.regs, .pages, .msgs, .work]
  | .recheck _ _ | .laneLocked _ | .alignDone _ | .laneAdd _ _ _ | .laneAddDone _ _ | .laneRemove _ _ _ | .portRekey _ _ | .epochArm _
  | .epochDisarm _ | .portKeyDone _ | .digestDone =>
      [.regs, .pages, .msgs, .link]
  | .tnDone _ =>
      [.regs, .pages, .msgs, .tenants]
  | .clearLost _ _ | .wsetSwitch _ _ | .rqDoorbell _ _ _ _ | .cqDoorbell _ _ _ _ | .hrPiDoorbell _ _ _ | .maCntClr _ _ _ | .mvpCntClr _ _
  | .vuCntClr _ _ | .cntClr _ _ _ | .lcCntClr _ _ =>
      [.regs, .pages, .msgs, .held]
  | .tbNowRead _ | .errCodeRead _ _ =>
      [.regs, .pages, .captures, .readData, .msgs]
  | .abPop _ =>
      [.regs, .pages, .readData, .msgs, .host]
  | .ftPop _ =>
      [.regs, .pages, .readData, .msgs, .faultLog]
  | .plPop _ =>
      [.regs, .pages, .readData, .msgs, .mem]
  | .bqPop _ _ =>
      [.regs, .pages, .readData, .msgs, .work]
  | .leqPop _ =>
      [.regs, .pages, .readData, .msgs, .link]
  | .tickEnWrite _ _ =>
      [.regs, .pages, .time, .msgs, .work]
  | .throttleStall _ =>
      [.regs, .pages, .stall, .msgs, .power]
  | .resume _ _ =>
      [.regs, .pages, .stall, .msgs, .work]
  | .patchDone _ _ _ =>
      [.regs, .pages, .msgs, .host, .freeCtr]
  | .hrEnable _ _ _ | .dlEpoch _ _ =>
      [.regs, .pages, .msgs, .host, .held]
  | .pmDone _ | .arrayTestDone _ =>
      [.regs, .pages, .msgs, .power, .freeCtr]
  | .refill _ _ _ _ _ _ | .arrayTest _ _ _ =>
      [.regs, .pages, .msgs, .power, .held]
  | .blkEnable _ _ _ =>
      [.regs, .pages, .msgs, .fuses, .work]
  | .errCodeClr _ _ _ =>
      [.regs, .pages, .msgs, .fuses, .freeCtr]
  | .fuUnlock _ _ | .coreRemap _ _ _ | .laneRemap _ _ _ _ | .rkeAdvance _ | .profileRaise _ _ | .profileLock _ | .debugLock _ =>
      [.regs, .pages, .msgs, .fuses, .held]
  | .scrubStep =>
      [.regs, .pages, .msgs, .faultLog, .mem]
  | .lcFlush _ _ | .lcFlushInv _ _ =>
      [.regs, .pages, .msgs, .mem, .held]
  | .rngRestart _ | .slotCmdClear _ _ =>
      [.regs, .pages, .msgs, .sluice, .held]
  | .cntSignal _ _ _ | .cntSub _ _ _ | .cntSet _ _ _ | .cntArm _ _ _ | .cntDisarm _ _ | .dbgSignal _ _ | .dbgSub _ _ | .dbgSet _ _ | .dbgArm _ _
  | .dbgDisarm _ | .syBlkFnWrite _ _ _ =>
      [.regs, .pages, .msgs, .sync, .held]
  | .seqResGo _ _ | .coreTestStart _ _ | .chApply _ _ | .chCmdMark _ _ _ | .chCmdRewind _ _ _ | .chCmdRelease _ _ _ | .replayHeld _ _
  | .discardHeld _ _ | .chFlush _ _ | .releaseSkip _ _ | .releaseRetry _ _ | .clearStale _ _ | .purge _ _ | .dlReleaseAll _ _ | .dlPurge _ _
  | .chnApply _ _ | .wsetApply _ _ | .wsetFill _ _ _ | .wsetArm _ _ | .wsetDisarm _ _ | .manApply _ _ _ _ _ =>
      [.regs, .pages, .msgs, .work, .held]
  | .portStart _ _ =>
      [.regs, .pages, .msgs, .link, .rngCtr]
  | .resetSeq _ _ =>
      [.regs, .pages, .msgs, .link, .freeCtr]
  | .digestUpdate _ =>
      [.regs, .pages, .msgs, .link, .held]
  | .dlSync _ _ =>
      [.regs, .pages, .msgs, .tenants, .held]
  | .withdraw _ _ | .epochSync _ _ | .admitCore _ _ =>
      [.regs, .pages, .msgs, .freeCtr, .held]
  | .keyGen _ =>
      [.regs, .host, .sluice, .rngCtr, .freeCtr]
  | .tickDelivery =>
      [.regs, .pages, .time, .msgs, .work, .link]
  | .fuseLoadDone _ =>
      [.regs, .pages, .msgs, .host, .power, .faultLog]
  | .sluiceFetch _ _ _ | .descComplete _ =>
      [.regs, .pages, .msgs, .host, .sluice, .freeCtr]
  | .hrCiDoorbell _ _ _ | .tgPagesWrite _ _ _ =>
      [.regs, .pages, .msgs, .host, .work, .held]
  | .dlDone _ =>
      [.regs, .pages, .msgs, .host, .tenants, .freeCtr]
  | .hrSkip _ _ =>
      [.regs, .pages, .msgs, .host, .freeCtr, .held]
  | .imgLoadDone _ _ =>
      [.regs, .pages, .msgs, .sluice, .work, .freeCtr]
  | .syBlkClr _ _ =>
      [.regs, .pages, .msgs, .sync, .freeCtr, .held]
  | .tsync _ _ _ _ | .lane _ _ _ | .key _ _ | .portStop _ _ | .trainTimeout _ _ | .exchSend _ | .idle _ _ | .retry _ _ _ | .resendTimeout _
  | .ackTimeout _ | .undefinedTypeFlit _ | .taskDispatch =>
      [.regs, .pages, .msgs, .work, .link, .freeCtr]
  | .pwrDone _ _ =>
      [.regs, .pages, .msgs, .host, .power, .faultLog, .sluice]
  | .evictS _ _ | .evictM _ _ =>
      [.regs, .pages, .msgs, .faultLog, .hbm, .caches, .mem]
  | .portKeyLoad _ _ =>
      [.regs, .pages, .msgs, .faultLog, .sluice, .link, .held]
  | .lockLost _ _ =>
      [.regs, .pages, .msgs, .faultLog, .work, .link, .freeCtr]
  | .tnUnquiesce _ _ =>
      [.regs, .pages, .msgs, .work, .link, .tenants, .held]
  | .exch _ _ _ =>
      [.regs, .pages, .msgs, .work, .link, .rngCtr, .freeCtr]
  | .seqResDiscard _ _ =>
      [.regs, .pages, .msgs, .work, .link, .freeCtr, .held]
  | .quiesceDone _ | .lcCmdDone _ | .segDone _ | .ack _ _ | .data _ _ | .notHeld _ _ | .notHeldEvicting _ _ | .rekeySweepLine _ | .protFillLine =>
      [.regs, .pages, .msgs, .faultLog, .hbm, .caches, .mem, .freeCtr]
  | .rdS _ _ | .rdM _ _ _ | .claim _ _ _ | .upg _ _ _ =>
      [.regs, .pages, .msgs, .faultLog, .hbm, .caches, .mem, .held]
  | .loadCur _ _ | .loadNext _ _ =>
      [.regs, .pages, .msgs, .faultLog, .mem, .sluice, .freeCtr, .held]
  | .coreTestDone _ _ =>
      [.regs, .pages, .msgs, .power, .faultLog, .ws, .act, .mem, .work]
  | .itemExpand _ | .spillRefill _ =>
      [.regs, .pages, .msgs, .faultLog, .hbm, .caches, .mem, .work, .freeCtr]
  | .dataS _ _ | .dataM _ _ | .grant _ _ | .evictAck _ _ | .snpInv _ _ | .snpShr _ _ | .homeAgentRead _ _ _ _ | .homeAgentWrite _ _ _ _ _ =>
      [.regs, .pages, .msgs, .faultLog, .hbm, .caches, .mem, .freeCtr, .held]
  | .sealDesc _ _ | .gcmEnc _ _ _ | .gcmDec _ _ _ | .ctr _ _ | .xtsEnc _ _ | .xtsDec _ _ | .sha256 _ _ | .hmac _ _ | .hmacChk _ _ _ | .keyLoad _ _
  | .keyUnwrap _ _ | .keyWrap _ | .keyDerive _ _ _ | .keyInfo _ | .sealChk _ _ _ | .ecdsaSign _ _ | .ecdsaVerify _ _ _ | .ecdsaVerifyExt _ _ _
  | .ecdhP256 _ _ | .ed25519Sign _ _ | .ed25519Verify _ _ _ | .ed25519VerifyExt _ _ _ | .x25519 _ _ | .rsaPriv _ _ | .rsaPub _ _ _ | .pointCheck _ _
  | .curveLoad _ _ | .pkeValidationEnd _ | .pkeOpComplete _ _ =>
      [.regs, .pages, .msgs, .host, .faultLog, .hbm, .caches, .mem, .sluice, .freeCtr]
  | .hrInboundEntry _ _ | .hrOutboundDeliver _ =>
      [.regs, .pages, .msgs, .host, .faultLog, .hbm, .caches, .mem, .work, .freeCtr]
  | .portTransmit _ _ =>
      [.regs, .pages, .msgs, .faultLog, .hbm, .caches, .mem, .work, .link, .freeCtr]
  | .hostPost _ _ _ | .flushSpill _ _ =>
      [.regs, .pages, .msgs, .faultLog, .hbm, .caches, .mem, .work, .freeCtr, .held]
  | .lowerWordRead _ _ =>
      [.regs, .pages, .captures, .readData, .msgs, .host, .faultLog, .mem, .work, .link, .freeCtr]
  | .random _ | .pkeUnitStart _ =>
      [.regs, .pages, .msgs, .host, .faultLog, .hbm, .caches, .mem, .sluice, .rngCtr, .freeCtr]
  | .ctxLoad _ _ _ =>
      [.regs, .pages, .msgs, .faultLog, .hbm, .caches, .mem, .sluice, .work, .freeCtr, .held]
  | .itemHead _ _ _ _ | .itemData _ _ _ | .lwrHead _ _ _ _ | .lwrData _ _ _ | .lsig _ _ _ | .notice _ _ _ | .void _ _ | .leave _ _
  | .coreFatalFault _ =>
      [.regs, .pages, .msgs, .faultLog, .hbm, .caches, .mem, .sync, .work, .link, .freeCtr]
  | .refillDone _ =>
      [.regs, .pages, .msgs, .host, .power, .faultLog, .ws, .act, .hbm, .caches, .mem, .freeCtr]
  | .fillPartDone _ _ _ | .manDone _ _ =>
      [.regs, .pages, .msgs, .host, .faultLog, .ws, .act, .hbm, .caches, .mem, .work, .freeCtr]
  | .quiesceReq _ _ _ =>
      [.regs, .pages, .msgs, .fuses, .faultLog, .hbm, .caches, .mem, .sync, .work, .link, .freeCtr]
  | .tnQuiesceStage _ =>
      [.regs, .pages, .msgs, .faultLog, .hbm, .caches, .mem, .sync, .work, .link, .tenants, .freeCtr]
  | .seqPreempt _ _ _ | .seqAbort _ _ _ =>
      [.regs, .pages, .msgs, .faultLog, .hbm, .caches, .mem, .sync, .work, .link, .freeCtr, .held]
  | .preemptSave _ _ _ =>
      [.regs, .pages, .msgs, .host, .faultLog, .ws, .act, .hbm, .caches, .mem, .work, .link, .freeCtr]
  | .tnQuiesce _ _ _ =>
      [.regs, .pages, .msgs, .faultLog, .hbm, .caches, .mem, .sync, .work, .link, .tenants, .freeCtr, .held]
  | .flrDone _ =>
      [.regs, .pages, .msgs, .host, .faultLog, .hbm, .caches, .mem, .sluice, .sync, .work, .link, .tenants, .freeCtr]
  | .coreRst _ _ =>
      [.regs, .pages, .captures, .msgs, .faultLog, .ws, .act, .hbm, .caches, .mem, .sluice, .sync, .work, .freeCtr, .held]
  | .tgCoresWrite _ _ _ =>
      [.regs, .pages, .captures, .msgs, .faultLog, .ws, .act, .hbm, .caches, .mem, .sluice, .work, .link, .freeCtr, .held]
  | .load _ _ | .transfer _ _ | .matmul _ _ | .matvec _ _ | .signal _ _ _ | .wait _ _ _ | .set _ _ _ | .flagsOut _ _ | .flagsClr _ _ | .saltSet _ _
  | .seta _ _ _ | .adda _ _ _ | .loop _ _ _ | .jump _ _ | .nop _ | .add _ _ | .sub _ _ | .mul _ _ | .fma _ _ | .max _ _ | .min _ _ | .rcp _ _
  | .rsqrt _ _ | .exp _ _ | .cvt _ _ | .sumred _ _ | .maxred _ _ | .argmax _ _ | .rand _ _ | .waitDec _ _ _ | .signalRemote _ _ _ _
  | .taskPost _ _ _ _ | .chainMark _ _ _ | .chainRewind _ _ _ | .chainRelease _ _ _ | .chainCommit _ _ | .sealOp _ _ | .fenceFull _ | .fenceStore _
  | .stepComplete _ _ _ | .arrayFault _ _ _ _ | .cellGrant _ | .chainOpComplete _ | .storeEntryGrant _ | .pcieLinkError _ =>
      [.regs, .pages, .msgs, .host, .faultLog, .ws, .act, .hbm, .caches, .mem, .sluice, .sync, .work, .link, .freeCtr]
  | .burnDone =>
      [.regs, .pages, .captures, .msgs, .fuses, .faultLog, .ws, .act, .hbm, .caches, .mem, .sluice, .sync, .work, .link, .freeCtr]
  | .vfEnable _ =>
      [.regs, .pages, .msgs, .host, .faultLog, .ws, .act, .hbm, .caches, .mem, .sluice, .sync, .work, .link, .tenants, .freeCtr]
  | .hostReadCompletion _ _ | .completionTimeout _ =>
      [.regs, .pages, .msgs, .host, .faultLog, .ws, .act, .hbm, .caches, .mem, .sluice, .sync, .work, .link, .freeCtr, .held]
  | .flr _ =>
      [.regs, .pages, .msgs, .host, .faultLog, .ws, .act, .hbm, .caches, .mem, .sluice, .sync, .work, .link, .tenants, .freeCtr, .held]
  | .chipReset _ _ | .perstAssert =>
      [.regs, .pages, .captures, .msgs, .host, .power, .ws, .act, .hbm, .caches, .mem, .sluice, .sync, .work, .link, .tenants, .freeCtr, .held]
  | .revokeAll _ _ =>
      [.regs, .pages, .captures, .msgs, .host, .faultLog, .ws, .act, .hbm, .caches, .mem, .sluice, .sync, .work, .link, .tenants, .freeCtr, .held]
  | .softReset _ _ _ =>
      [.regs, .pages, .captures, .time, .stall, .msgs, .host, .fuses, .faultLog, .ws, .act, .hbm, .caches, .mem, .sluice, .sync, .work, .link, .freeCtr]
  | .pwrOn _ _ | .pwrRetain _ _ _ | .pwrOff _ _ _ | .hotReset _ _ | .thermalSample _ _ _ | .catastrophicTemperature _ =>
      [.regs, .pages, .captures, .msgs, .host, .power, .faultLog, .ws, .act, .hbm, .caches, .mem, .sluice, .sync, .work, .link, .tenants, .freeCtr, .held]
  | .smbusAccess _ =>
      [.regs, .pages, .captures, .readData, .msgs, .host, .power, .faultLog, .ws, .act, .hbm, .caches, .mem, .sluice, .sync, .work, .link, .tenants, .freeCtr, .held]
  | .registerWrite _ _ _ _ =>
      [.regs, .pages, .captures, .msgs, .host, .power, .fuses, .faultLog, .ws, .act, .hbm, .caches, .mem, .sluice, .sync, .work, .link, .tenants, .freeCtr, .held]
  | .powerOnReset _ =>
      [.regs, .pages, .captures, .readData, .time, .stall, .msgs, .host, .power, .fuses, .faultLog, .ws, .act, .hbm, .caches, .mem, .sluice, .sync, .work, .link, .tenants, .held]
  | .pwrGoodFall _ =>
      [.regs, .pages, .captures, .readData, .time, .stall, .msgs, .host, .power, .fuses, .faultLog, .ws, .act, .hbm, .caches, .mem, .sluice, .sync, .work, .link, .tenants, .freeCtr, .held]

/-! ### Where a command takes effect -/

/-- R425, R426, R456. Function `fn` reaches a page: its domain is ON and the function may access it. -/
abbrev State.Reaches (s : State) (fn page : Nat) : Prop := s.pageOn page = true ∧ s.sees fn page = true

/-- R29, R48. No acknowledge is withheld: no throttle stall, no command held. -/
abbrev State.Flowing (s : State) : Prop := s.stall = false ∧ s.held = []

/-- R48, R529. An event of a block of a page can occur: its domain is ON, and no throttle stall. -/
abbrev State.Awake (s : State) (page : Nat) : Prop := s.pageOn page = true ∧ s.stall = false

end Sys2Proof.Machine
end

