-- ==== Sys2Proof/Certificates/Slice0/Obligations.lean ====
section
/-!
DEFINITION. The statements about the device, one obligation each: what every command does to the state, what a step does, what every step keeps. First the
notions that the statements share.
-/

namespace Sys2Proof.Claims

open Sys2Proof.Machine

/-- R235, R237, R251. Counter `c` takes `y`: where it rises the pending waits are tested in their order, at the end the watch fires where the value reaches it; no other
counter changes. -/
def CounterTakes (s : State) (c y : Nat) (t : State) : Prop :=
  let k := s.counter c
  let r := if k.value < y then testWaits c y s.sync.waits else (y, s.sync.waits)
  (t.counter c).value = r.1 ∧ t.sync.waits = r.2 ∧ (t.counter c).watch = k.watch ∧
  (k.armed = true ∧ k.watch ≤ r.1 → (t.counter c).armed = false ∧ (t.counter c).notify = true) ∧
  (¬(k.armed = true ∧ k.watch ≤ r.1) → (t.counter c).armed = k.armed ∧ (t.counter c).notify = k.notify) ∧
  (∀ d, d ≠ c → t.counter d = s.counter d) ∧ OnlyParts [.sync, .pages, .msgs] s t

/-- R235, R251. Counter `c` is armed with threshold `v`, or fires at once. -/
def CounterArms (s : State) (c v : Nat) (t : State) : Prop :=
  let k := s.counter c
  (t.counter c).watch = v ∧ (t.counter c).value = k.value ∧ t.sync.waits = s.sync.waits ∧ (v ≤ k.value → (t.counter c).armed = false ∧ (t.counter c).notify = true) ∧
  (k.value < v → (t.counter c).armed = true ∧ (t.counter c).notify = k.notify) ∧ (∀ d, d ≠ c → t.counter d = s.counter d) ∧ OnlyParts [.sync, .pages, .msgs] s t

/-- The step that a step command sends, with its header. -/
def stepOf : Instr → Option (StepHdr × StepOp)
  | .nop h => some (h, .nop)
  | .load h x => some (h, .load x)
  | .transfer h x => some (h, .transfer x)
  | .matmul h m => some (h, .matmul m)
  | .matvec h m => some (h, .matvec m)
  | .add h v => some (h, .vector 1 v)
  | .sub h v => some (h, .vector 2 v)
  | .mul h v => some (h, .vector 3 v)
  | .fma h v => some (h, .vector 4 v)
  | .max h v => some (h, .vector 5 v)
  | .min h v => some (h, .vector 6 v)
  | .rcp h v => some (h, .vector 7 v)
  | .rsqrt h v => some (h, .vector 8 v)
  | .exp h v => some (h, .vector 9 v)
  | .cvt h v => some (h, .vector 10 v)
  | .sumred h v => some (h, .vector 11 v)
  | .maxred h v => some (h, .vector 12 v)
  | .argmax h v => some (h, .vector 13 v)
  | .rand h v => some (h, .vector 14 v)
  | .signal h c v => some (h, .signal c v)
  | .wait h c v => some (h, .wait false c v)
  | .waitDec h c v => some (h, .wait true c v)
  | .set h c v => some (h, .set c v)
  | .signalRemote h m c v => some (h, .remote m c v)
  | .taskPost h d n i => some (h, .post d n i)
  | .chainMark h c m => some (h, .chainOp 1 c m)
  | .chainRewind h c m => some (h, .chainOp 2 c m)
  | .chainRelease h c m => some (h, .chainOp 3 c m)
  | .chainCommit h c => some (h, .commit c)
  | .sealOp h x => some (h, .sealing x)
  | .fenceFull h => some (h, .fence true)
  | .fenceStore h => some (h, .fence false)
  | .flagsOut h d => some (h, .flagsOut d)
  | .flagsClr h m => some (h, .flagsClr m)
  | .saltSet h v => some (h, .saltSet v)
  | .seta h a v => some (h, .seta a v)
  | .adda h a v => some (h, .adda a v)
  | .loop h a t => some (h, .loop a t)
  | .jump h t => some (h, .jump t)
  | _ => none

/-- A WAIT or WAIT_DEC. -/
def isWait : StepOp → Bool
  | .wait .. => true
  | _ => false

/-- R129, R141 to R143. The sequencer's own steps, FLAGS_OUT apart. -/
def ownStep : StepOp → Bool
  | .nop => true
  | .fence _ => true
  | .flagsClr _ => true
  | .saltSet _ => true
  | .seta .. => true
  | .adda .. => true
  | .loop .. => true
  | .jump _ => true
  | _ => false

/-- The task in a slot of a core is alone there and takes its next step at once: the core is not halted, no other slot holds a task, nothing of this one is in flight, fetched
or waiting. -/
abbrev Solo (s : State) (core slot : Nat) (r : Running) : Prop :=
  halted (seqPage core) s = false ∧ slot < 4 ∧ s.running core slot = some r ∧ (∀ i, i < 4 → i ≠ slot → s.running core i = none) ∧ r.window = [] ∧ r.queue = [] ∧
  r.replay = [] ∧ r.fetches = true ∧ s.waiting core slot = false

/-- The state in which the step has been fetched. -/
def fetchedState (s : State) (h : StepHdr) (op : StepOp) (r : Running) : State := s.setRunning h.core h.slot (some { r with queue := [(h, op)] })

/-- R118, R122. The place in the window that the step takes. -/
def issuedEntry (s : State) (h : StepHdr) (op : StepOp) (r : Running) : Entry :=
  (fetchedState s h op r).newEntry h.core { r with queue := [(h, op)] } h op none

/-- The state in which the step has issued. -/
def issuedState (s : State) (h : StepHdr) (op : StepOp) (r : Running) : State :=
  (fetchedState s h op r).issueEntry h.core h.slot { r with queue := [(h, op)] } (issuedEntry s h op r) false

/-- The task once the step has issued. -/
def issuedTask (s : State) (h : StepHdr) (op : StepOp) (r : Running) : Running := Running.issued { r with queue := [(h, op)] } (issuedEntry s h op r) false

/-- At most `n` further actions of the core, and the slot registers follow. -/
def settled (s : State) (core n : Nat) : State := (List.range 4).foldl (fun t i => t.slotRefresh core i) (s.pumpFor core n)

/-- R368, R371. A descriptor with an opcode is admitted and may run: Sluice is not halted, its fence, its chain and those before it allow it, no quiesce holds its accesses. -/
abbrev DescRuns (s : State) (id op : Nat) (d : Desc) : Prop :=
  s.Awake 0x400 ∧ s.desc id = some d ∧ d.op = op ∧ s.mayStart d = true ∧ s.workHeld d = false

/-- R366, R393, R402. A descriptor passes the checks of its encoding and of its values. -/
abbrev Passes (d : Desc) (cs : List (Bool × Status × Nat)) : Prop := firstFail (codesFirst (spaceCodes d ++ cs)) = none

/-- A descriptor's source operand of `n` bytes as it is read. -/
abbrev source (s : State) (d : Desc) (n : Nat) (o : ReadOutcome) : State × Status × List Byte := s.readOperand d d.srcSp d.src n o

/-- A descriptor's auxiliary operand as it is read. -/
abbrev auxiliary (s : State) (d : Desc) (o : ReadOutcome) : State × Status × List Byte := s.readOperand d d.auxSp d.aux d.auxLen o

/-- A descriptor's output is written. -/
abbrev output (s : State) (d : Desc) (out : List Byte) : State × Status := s.writeOutput d d.dstSp d.dst out

/-- R364. A descriptor has written its output and ends OK. -/
def delivered (s : State) (d : Desc) (out : List Byte) : State := (output s d out).1.endDesc d .ok out.length 0

/-- R360, R361. The posted entries of a request ring as they are read. -/
abbrev requests (s : State) (f r : Nat) (es : List ReadOutcome) : State × Status × List (List Byte) := s.readEntries f r (s.rqPosted f r) (s.get (RQ_CI f r)) es

/-- R199, R211. The head task of the flow that was selected leaves its queue for the slot. -/
def dispatched (s s1 : State) (core slot w : Nat) : State :=
  match (s1.flow w).queue with
  | x :: q =>
    let s2 := ((s1.setFlow w { s1.flow w with queue := q, service := some x }).set (FLOW_STATE w) 2).refresh w
    { s2 with work := { s2.work with gets := s2.work.gets.filter (fun g => g != (core, slot)) } }.startTask core slot x
  | [] => s

/-- R204. The tasks of the item in a cell of a chain, with the expansion they belong to. -/
abbrev itemTasks (s : State) (c k : Nat) (x : Cell) : List Task :=
  (List.range (hdr x.header 5 1 % 128)).map ((s.newExp (hdr x.header 5 1 % 128) (some (c, k))).2.expandedTask c k x.header (s.newExp (hdr x.header 5 1 % 128) (some (c, k))).1)

/-- R204, R217. The item is taken and the chain's channel is given its tasks. -/
abbrev itemAccepted (s : State) (c k : Nat) (x : Cell) : State × Bool :=
  ((s.newExp (hdr x.header 5 1 % 128) (some (c, k))).2.takeCell k x).accept (s.get (BIND_CTL_CHAN c)) ((itemTasks s c k x).map (fun t => (t, none)))

/-- R204, R230. The chain's head item can be expanded now. -/
abbrev ItemTurn (s : State) (c k : Nat) (x : Cell) : Prop :=
  s.Awake 0x200 ∧ s.takeOpen c 0 = true ∧ s.on (BIND_CTL_EN c) = true ∧ (s.chain c).stopped = false ∧ s.quiet 0x200 = false ∧ s.quiet (0x200 + chainPage c) = false ∧
  s.headItem c = some (k, x)

/-- R214, R217. What a host post of flow page `j` hands to the scheduler. -/
abbrev hostPosted (s : State) (j : Nat) (dl : Nat) : Option (State × Status) :=
  (s.set (POST_CTRL_DLIST j) dl).post (s.tripleHolder j) ((List.range 8).flatMap (fun x => leBytes 4 ((s.set (POST_CTRL_DLIST j) dl).get (POST_ITEM j x)))) (dl % 4)
    ((s.set (POST_CTRL_DLIST j) dl).get (POST_DELAY j))

/-- R220. The oldest spilled entry of a channel as it is read. -/
abbrev spillRead (s : State) (k : Nat) (c : ChannelCfg) : State × Status × List Byte :=
  s.hbmRead (.home 4) 0 0 0 (c.base + (0x1000 + 128 * ((s.channel k).cons % c.lines))) 128

/-- R394. A descriptor's public-key operation joins its queue. -/
def queued (s : State) (d : Desc) (j : PkeJob) : State := (s.enqueue j).setDesc { ((s.enqueue j).desc d.id).getD d with state := .inPke }

/-- R406. Key material of the descriptor's class is installed: in slot `z` at once, or once the public-key engine has checked it. -/
def keyInstalled (s : State) (d : Desc) (z : Nat) (wr : Bool) (m : List Byte) : State :=
  if asymmetric d.p0 then queued s d { use := .desc d.id, fn := d.fn, op := d.op, key := m, cls := d.p0, target := z, wrappable := wr, long := d.p0 == clsRsa }
  else (s.writeSlot z d.p0 wr m []).endDesc d .ok 0 0

/-- R386, R387. The signed part of the block of a SEAL whose record was read OK. -/
def sealedHead (s : State) (d : Desc) (src : ReadOutcome) : List Byte :=
  (source s d d.len src).1.sealHead .ok d.p0 d.fn (s.namedSlot d.fn d.key) d.len (sha256 (source s d d.len src).2.2)

/-- R434. An inbound ring has an entry to process, and nothing holds it. -/
abbrev InboundTurn (s : State) (c : Nat) (d : ChainDesc) : Prop :=
  (s.chain c).desc = some d ∧ s.ringHalted c = false ∧ s.ringHostHeld c d.slot (s.get (HR_CI c)) = false ∧ s.chainQuiet c = false ∧ (s.chain c).busy = none ∧ s.on (CH_ENABLE c) = true ∧
  s.on (HR_CTRL_ENABLE c) = true ∧ s.on (HR_STAT_DIR c) = false ∧
  s.on (HR_STAT_STOPPED c) = false ∧ (s.ring c).busy = false ∧ s.get (HR_CI c) ≠ s.get (HR_PI c) ∧ s.readRoom (s.chainHolder c) = true

/-- R434, step 1. The entry of an inbound ring as it is read. -/
abbrev inboundEntry (s : State) (c : Nat) (o : ReadOutcome) : State × Status × List Byte :=
  s.hostFetch (s.chainHolder c) 2 (s.ringEntryAt c (s.get (HR_CI c))) 128 o

/-- R435. An outbound ring has room for an entry, and nothing holds it. -/
abbrev OutboundTurn (s : State) (c : Nat) (d : ChainDesc) : Prop :=
  (s.chain c).desc = some d ∧ s.ringHalted c = false ∧ s.ringHostHeld c d.slot (s.get (HR_PI c)) = false ∧ s.deliverHeld c = false ∧ s.on (HR_CTRL_ENABLE c) = true ∧ s.on (HR_STAT_DIR c) = true ∧ s.on (HR_STAT_STOPPED c) = false ∧
  (s.ring c).busy = false ∧ s.readRoom (s.chainHolder c) = true ∧ (s.get (HR_PI c) + 2 ^ 32 - s.get (HR_CI c)) % 2 ^ 32 < s.get (HR_SIZE c)

/-- R480. A command or grant write on TENANT page 0 takes effect at once. -/
abbrev TenantOpen (s : State) (fn : Nat) : Prop := s.Reaches fn 0x510 ∧ s.quiet 0x510 = false ∧ s.stall = false ∧ s.behind 0x510 = false

/-- R478. A command of instance `f` is not refused as BUSY or RESETTING. -/
abbrev TenantRuns (s : State) (fn f : Nat) : Prop := TenantOpen s fn ∧ s.on (TN_STAT_BUSY f) = false ∧ s.instState f ≠ 4

/-- The sequenced flit that a flit command brings: its port and header. -/
def flitOf : Instr → Option (Nat × FlitHdr)
  | .itemHead p h _ _ => some (p, h)
  | .itemData p h _ => some (p, h)
  | .lwrHead p h _ _ => some (p, h)
  | .lwrData p h _ => some (p, h)
  | .lsig p h _ => some (p, h)
  | .notice p h _ => some (p, h)
  | .void p h => some (p, h)
  | .lane p h _ => some (p, h)
  | .key p h => some (p, h)
  | .leave p h => some (p, h)
  | _ => none

/-- The content that a flit command brings for the chip to apply in sequence order. -/
def contentOf : Instr → Option FlitBody
  | .itemHead _ _ h b => some (.itemHead (takePad 64 h) b)
  | .itemData _ _ b => some (.itemData b)
  | .lwrHead _ _ w b => some (.lwrHead w b)
  | .lwrData _ _ b => some (.lwrData b)
  | .lsig _ _ g => some (.lsig g)
  | .notice _ _ n => some (.notice n)
  | .void _ _ => some .voided
  | .leave _ _ => some .leave
  | _ => none

/-- R491, R511. The expected flit is accepted into a receive buffer: the expected number advances, the flit is counted, its ACK and credits take effect. -/
def received (s : State) (p : Nat) (hd : FlitHdr) (f : FlitBody) : State :=
  (s.setPort p { s.port p with rx := (s.port p).rx + 1, rxBuf := (s.port p).rxBuf ++ [f] }).flitIn p hd

/-- R491. The expected flit is accepted: the expected number advances, the flit is counted, its ACK and credits take effect. -/
def accepted (s : State) (p : Nat) (hd : FlitHdr) : State := (s.setPort p { s.port p with rx := (s.port p).rx + 1 }).flitIn p hd

/-- R491. A flit is the expected one of a port in DATA. -/
abbrev Expected (s : State) (p : Nat) (hd : FlitHdr) : Prop :=
  s.Awake (portPage p) ∧ s.inData p = true ∧ nearest (s.port p).rx hd.seq = (s.port p).rx

/-- R491. The expected flit of a port in DATA, which is still in DATA once the flit's header has taken effect. -/
abbrev FlitNext (s : State) (p : Nat) (hd : FlitHdr) : Prop := Expected s p hd ∧ (accepted s p hd).inData p = true

/-- R536. A command written to PWR_CMD takes effect at once. -/
abbrev PowerOpen (s : State) (fn : Nat) : Prop := s.Reaches fn 1 ∧ s.quiet 1 = false ∧ s.stall = false ∧ s.behind 1 = false

/-- R589. A command written to FT_CMD is checked at once. -/
abbrev RepairOpen (s : State) (fn : Nat) : Prop := s.Reaches fn 0x700 ∧ s.quiet 0x700 = false ∧ s.behind 0x700 = false ∧ s.on FT_STAT_BUSY = false

/-- R579. A fuse command finds the page unlocked, and nothing in progress. -/
abbrev FuseOpen (s : State) (fn : Nat) : Prop := s.Reaches fn 3 ∧ s.behind 3 = false ∧ s.quiet 3 = false ∧ s.fuses.unlocked = true ∧ s.on FU_STAT_BUSY = false

/-- R580, R581. A burn of a fuse command has begun. -/
abbrev BurnBegun (s : State) (op a0 a1 v old left : Nat) (t : State) : Prop :=
  t.fuses.log = s.fuses.log ++ [{ op := op, arg0 := a0, arg1 := a1, value := v, old := old, remaining := left - 1, committed := false, time := s.now }] ∧
  t.fuses.burning = true ∧ t.fuses.unlocked = false ∧ t.on FU_STAT_BUSY = true

end Sys2Proof.Claims

open Sys2Proof Sys2Proof.Machine Sys2Proof.Claims

/-- O1, R35, R38, R41, R50, R53. TB_ARM with PPS_EN = 0 loads (TB_SEC_NEXT, 0) + TB_OFFSET at once, with PPS_EN = 1 sets ARMED. A write that changes PPS_EN takes it and forgets a pending edge. PPS_RISE captures the time, PPS_GLITCH forgets the pulse and is reported. SKEW_MAX_CLR clears the maximum. VR_ALERT_N_RISING only records the level. -/
def Obligations.TimebaseLoadAndPulse : Prop :=
  (∀ (s : State), s.on TB_CTRL_PPS_EN = false → Runs .tbArm s (fun t => t.now = s.loadValue ∧ t.time.frac = 0 ∧ t.time.hold = 0 ∧ t.on TB_STAT_ARMED = false ∧ t.on TB_STAT_LOADED_ONCE = true ∧
      t.shows 0 2 1 = true ∧ OnlyParts [.regs, .pages, .msgs, .time] s t ∧ OnlyRegs [TB_STAT_ARMED, TB_STAT_FREEZE, TB_STAT_LOADED_ONCE] s t)) ∧
  (∀ (s : State), s.on TB_CTRL_PPS_EN = true → exec .tbArm s = .next (s.flag TB_STAT_ARMED true)) ∧
  (∀ (en : Bool) (s : State), en ≠ s.on TB_CTRL_PPS_EN → Runs (.tbPpsEnWrite en false) s (fun t => t.on TB_CTRL_PPS_EN = en ∧ t.time = { s.time with rise := none, accepted := none } ∧
      (en = false → t.on TB_STAT_HOLDOVER = false ∧ t.on TB_STAT_LOCKED = false) ∧ OnlyParts [.regs, .time] s t ∧
      OnlyRegs [TB_CTRL_PPS_EN, TB_STAT_HOLDOVER, TB_STAT_LOCKED] s t)) ∧
  (∀ (s : State), s.on TB_CTRL_PPS_EN = true → exec .ppsRise s = .next { s with time := { s.time with rise := some (s.now, s.time.clocks) } }) ∧
  (∀ (s : State), s.time.rise.isSome = true → Runs .ppsGlitch s (fun t => t.time = { s.time with rise := none } ∧ t.shows 0 2 3 = true ∧ OnlyParts [.time, .pages, .msgs] s t)) ∧
  (∀ (s : State), exec .skewMaxClr s = .next (s.set TB_SKEW_MAX 0)) ∧
  (∀ (s : State), exec .vrAlertNRising s = .next { s with power := { s.power with vrAlertHigh := true } })

/-- O2, R35, R38, R39, R40, R41, R43, R44, R632. 1,250 clocks after its capture an edge is acted on: PPS_EDGE; an armed load is made and counts as an accepted edge of error 0; before the first load only TB_PPS_ERR is written; then an error within TB_PPS_WINDOW is accepted and corrected, a larger one is an outlier. A missing edge raises PPS_MISSING and HOLDOVER. TICK_EN starts and stops the ticks; a tick delivered is the next index. The rate window reports both rings, 0 for a die that was off throughout it. -/
def Obligations.PpsEdgesDisciplineTheTimebase : Prop :=
  (∀ (captured : Ts) (clock : Nat) (s : State), s.time.rise = some (captured, clock) → s.on TB_CTRL_PPS_EN = true → s.on TB_STAT_ARMED = false → s.on TB_STAT_LOADED_ONCE = true → (ppsError s captured).natAbs ≤ s.get TB_PPS_WINDOW → Runs .ppsEdge s (fun t => t.time.rise = none ∧ t.time.accepted = some clock ∧ t.shows 0 2 0 = true ∧ t.get TB_PPS_ERR = toSigned32 (ppsError s captured) % 2 ^ 32 ∧
        t.on TB_STAT_LOCKED = true ∧ t.on TB_STAT_HOLDOVER = false ∧ t.get TB_EDGE_CNT = (s.get TB_EDGE_CNT + 1) % 2 ^ 32 ∧ OnlyParts [.regs, .pages, .msgs, .time] s t)) ∧
  (∀ (captured : Ts) (clock : Nat) (s : State), s.time.rise = some (captured, clock) → s.on TB_CTRL_PPS_EN = true → s.on TB_STAT_ARMED = false → s.on TB_STAT_LOADED_ONCE = true → s.get TB_PPS_WINDOW < (ppsError s captured).natAbs → Runs .ppsEdge s (fun t => t.time.rise = none ∧ t.time.accepted = s.time.accepted ∧ t.shows 0 2 0 = true ∧ t.shows 0 2 4 = true ∧
        t.get TB_PPS_ERR = toSigned32 (ppsError s captured) % 2 ^ 32 ∧ t.on TB_STAT_LOCKED = false ∧ t.get TB_EDGE_CNT = s.get TB_EDGE_CNT ∧
        OnlyParts [.regs, .pages, .msgs, .time] s t)) ∧
  (∀ (captured : Ts) (clock : Nat) (s : State), s.time.rise = some (captured, clock) → s.on TB_CTRL_PPS_EN = true → s.on TB_STAT_ARMED = true → Runs .ppsEdge s (fun t => t.time.rise = none ∧ t.time.accepted = some clock ∧ t.shows 0 2 0 = true ∧ t.shows 0 2 1 = true ∧ t.get TB_PPS_ERR = 0 ∧
        t.on TB_STAT_ARMED = false ∧ t.on TB_STAT_LOADED_ONCE = true ∧ t.on TB_STAT_LOCKED = true ∧ t.on TB_STAT_HOLDOVER = false ∧
        t.get TB_EDGE_CNT = (s.get TB_EDGE_CNT + 1) % 2 ^ 32 ∧ OnlyParts [.regs, .pages, .msgs, .time] s t)) ∧
  (∀ (s : State), 0 < s.time.hold → s.tbIncrement ≠ 0 → Runs .freezeEnd s (fun t => t.time.hold = 0 ∧ t.on TB_STAT_FREEZE = false ∧ OnlyParts [.regs, .time] s t ∧ OnlyRegs [TB_STAT_FREEZE] s t)) ∧
  (∀ (clock : Nat) (s : State), s.time.accepted = some clock → s.on TB_CTRL_PPS_EN = true → Runs .ppsMissing s (fun t => t.time.accepted = none ∧ t.shows 0 2 2 = true ∧ t.on TB_STAT_HOLDOVER = true ∧ t.on TB_STAT_LOCKED = false ∧
        OnlyParts [.regs, .pages, .msgs, .time] s t ∧ OnlyRegs [TB_STAT_FREEZE, TB_STAT_HOLDOVER, TB_STAT_LOCKED] s t)) ∧
  (∀ (a b : Nat) (s : State), Runs (.tbRateWindow a b) s (fun t => t.get TB_RATE_A = s.ringCount 5 a % 2 ^ 32 ∧ t.get TB_RATE_B = s.ringCount 6 b % 2 ^ 32 ∧ t.power = s.nextWindow.power ∧ OnlyParts [.regs, .time, .power] s t ∧
        OnlyRegs [TB_STAT_FREEZE, TB_RATE_A, TB_RATE_B] s t)) ∧
  (∀ (s : State), s.on TB_CTRL_TICK_EN = true → s.on TB_STAT_SKEW_HOLD = false → s.stall = false → Runs .tickDelivery s (fun t => t.time.lastTick = s.time.lastTick + 1 ∧ t = (s.reachTick (s.time.lastTick + 1)).deliverTick (s.time.lastTick + 1))) ∧
  (∀ (s : State), s.pageOn 2 = true → s.on TB_CTRL_TICK_EN = false → Runs (.tickEnWrite 0 true) s (fun t => t = s.startTicks ∧ t.on TB_CTRL_TICK_EN = true ∧ t.time = { s.time with lastTick := s.tickIndex })) ∧
  (∀ (s : State), s.pageOn 2 = true → s.on TB_CTRL_TICK_EN = true → exec (.tickEnWrite 0 false) s = .next (s.flag TB_CTRL_TICK_EN false))

/-- O3, R48, R50, R595. An alert of at least 5 ns begins a stall, sets THROTTLE and counts; a shorter one has no effect; RESUME on the POWER page reopens the gates once the pin is high. -/
def Obligations.ThrottleStallAndResume : Prop :=
  (∀ (ns : Nat) (s : State), 5 ≤ ns → s.stall = false → Runs (.throttleStall ns) s (fun t => t.stall = true ∧ t.power = { s.power with vrAlertHigh := false } ∧ t.shows 0 1 0 = true ∧
        t.get THROTTLE_CNT = (s.get THROTTLE_CNT + 1) % 2 ^ 32 ∧ OnlyParts [.regs, .pages, .msgs, .stall, .power] s t ∧ OnlyRegs [THROTTLE_CNT] s t)) ∧
  (∀ (ns : Nat) (s : State), ns < 5 → exec (.throttleStall ns) s = .next s) ∧
  (∀ (s : State), s.pageOn 1 = true → s.stall = true → s.power.vrAlertHigh = true → exec (.resume 0 1) s = .next s.resume ∧ s.resume.stall = false) ∧
  (∀ (s : State), s.stall = true → s.power.vrAlertHigh = false → s.pageOn 1 = true → exec (.resume 0 1) s = .next s)

/-- O4, R235, R237, R250, R251, R254. A counter command of the function that holds the block, or of the debugger on the counter DBG_SEL names: SIGNAL adds and saturates at 65,535, SUB subtracts and saturates at 0, SET writes; a rise tests the pending waits in their order, the armed watch fires at the end; ARM and DISARM change the watch only. -/
def Obligations.CounterOperations : Prop :=
  (∀ (fn c v : Nat) (s : State), s.Reaches fn (ctrPage c) → s.ctrHolder c = fn → s.ctrQuiet c = false → s.Flowing → Runs (.cntSignal fn c v) s (fun t => CounterTakes s c (min ((s.counter c).value + v % 65536) 65535) t ∧ (65535 < (s.counter c).value + v % 65536 → (t.counter c).satHi = true))) ∧
  (∀ (fn c v : Nat) (s : State), s.Reaches fn (ctrPage c) → s.ctrHolder c = fn → s.ctrQuiet c = false → s.Flowing → Runs (.cntSub fn c v) s (fun t => CounterTakes s c ((s.counter c).value - v % 65536) t ∧ ((s.counter c).value < v % 65536 → (t.counter c).satLo = true))) ∧
  (∀ (fn c v : Nat) (s : State), s.Reaches fn (ctrPage c) → s.ctrHolder c = fn → s.ctrQuiet c = false → s.Flowing → Runs (.cntSet fn c v) s (fun t => CounterTakes s c (v % 65536) t)) ∧
  (∀ (fn c v : Nat) (s : State), s.Reaches fn (ctrPage c) → s.ctrHolder c = fn → s.ctrQuiet c = false → s.Flowing → Runs (.cntArm fn c v) s (fun t => CounterArms s c (v % 65536) t)) ∧
  (∀ (fn c : Nat) (s : State), s.Reaches fn (ctrPage c) → s.ctrHolder c = fn → s.ctrQuiet c = false → s.Flowing → exec (.cntDisarm fn c) s = .next (s.setCounter c { s.counter c with armed := false })) ∧
  (∀ (fn v : Nat) (s : State), s.Reaches fn 0x210 → s.Flowing → Runs (.dbgSignal fn v) s (fun t => CounterTakes s (s.get DBG_SEL) (min ((s.counter (s.get DBG_SEL)).value + v % 65536) 65535) t ∧ (65535 < (s.counter (s.get DBG_SEL)).value + v % 65536 → (t.counter (s.get DBG_SEL)).satHi = true))) ∧
  (∀ (fn v : Nat) (s : State), s.Reaches fn 0x210 → s.Flowing → Runs (.dbgSub fn v) s (fun t => CounterTakes s (s.get DBG_SEL) ((s.counter (s.get DBG_SEL)).value - v % 65536) t ∧ ((s.counter (s.get DBG_SEL)).value < v % 65536 → (t.counter (s.get DBG_SEL)).satLo = true))) ∧
  (∀ (fn v : Nat) (s : State), s.Reaches fn 0x210 → s.Flowing → Runs (.dbgSet fn v) s (fun t => CounterTakes s (s.get DBG_SEL) (v % 65536) t)) ∧
  (∀ (fn v : Nat) (s : State), s.Reaches fn 0x210 → s.Flowing → Runs (.dbgArm fn v) s (fun t => CounterArms s (s.get DBG_SEL) (v % 65536) t)) ∧
  (∀ (fn : Nat) (s : State), s.Reaches fn 0x210 → s.Flowing → exec (.dbgDisarm fn) s = .next (s.setCounter (s.get DBG_SEL) { s.counter (s.get DBG_SEL) with armed := false }))

/-- O5, R103, R104, R105, R113, R157, R247, R249, R255. SY_BLK_FN takes its word and every block whose holder changes is cleared; a word that may not be taken is refused with BAD_PARAM. SY_BLK_CLR clears the block and is BUSY until it is done. The counts of a matrix array, an MVP and a VU clear. A spare moves to the next column. The column map of a quiesced array takes a word that leaves 56 presented columns. -/
def Obligations.CounterBlocksAndArrayCounts : Prop :=
  (∀ (fn r v : Nat) (s : State), s.Reaches fn 0x210 → s.Flowing → r < 8 → s.holdersOk r v = true → Runs (.syBlkFnWrite fn r v) s (fun t => t.get (SY_BLK_FN r) = v % 2 ^ 32 ∧
        (∀ c, c / 512 = r → bitsOf v (4 * (c / 64 % 8)) 4 ≠ s.blockHolder (c / 64) → t.counter c = {}) ∧
        (∀ c, c / 512 = r → bitsOf v (4 * (c / 64 % 8)) 4 = s.blockHolder (c / 64) → t.counter c = s.counter c) ∧ (∀ c, c / 512 ≠ r → t.counter c = s.counter c) ∧
        OnlyParts [.regs, .sync] s t ∧ OnlyRegs [SY_BLK_FN r] s t)) ∧
  (∀ (fn r v : Nat) (s : State), s.Reaches fn 0x210 → s.Flowing → s.holdersOk r v = false → exec (.syBlkFnWrite fn r v) s = .next (s.refuseWrite fn (SY_BLK_FN r).addr v)) ∧
  (∀ (fn b : Nat) (s : State), s.Reaches fn 0x210 → s.Flowing → s.sync.clearing = none → s.blockWaits (b % 64) = [] → Runs (.syBlkClr fn b) s (fun t => t.sync.clearing = some (b % 64) ∧ t.on SY_CLR_STAT_BUSY = true ∧ (∀ c, c / 64 = b % 64 → t.counter c = {}) ∧
        (∀ c, c / 64 ≠ b % 64 → t.counter c = s.counter c) ∧ t.sync.waits = s.sync.waits ∧ OnlyParts [.regs, .sync] s t ∧ OnlyRegs [SY_CLR_STAT_BUSY] s t)) ∧
  (∀ (b : Nat) (s : State), s.Awake 0x210 → s.sync.clearing = some b → Runs .blkClearDone s (fun t => t.sync = { s.sync with clearing := none } ∧ t.on SY_CLR_STAT_BUSY = false ∧ t.get SY_CLR_STAT_RESULT = 0 ∧ t.shows 0 0x210 4 = true ∧
        OnlyParts [.regs, .sync, .pages, .msgs] s t ∧ OnlyRegs [SY_CLR_STAT_BUSY, SY_CLR_STAT_RESULT] s t)) ∧
  (∀ (core array : Nat) (s : State), s.Awake (arrayPage core array) → s.on (MA_SHADOW_ACTIVE core array) = true → exec (.shadowAdvance core array) s =
         .next (s.set (MA_SHADOW_CUR core array) (nextColumn (s.colFail core array) (s.get (MA_SHADOW_CUR core array))))) ∧
  (∀ (fn core array i v : Nat) (s : State), s.Reaches fn (arrayPage core array) → i ≤ 2 → (s.page (arrayPage core array)).quiesced = true → 56 ≤ (presented (s.newColumns core array i v)).length → exec (.maColfailWrite fn core array i v) s = .next ((s.setColumns core array (s.newColumns core array i v)).raise (arrayPage core array) 4)) ∧
  (∀ (fn core array : Nat) (s : State), s.Reaches fn (arrayPage core array) → s.Flowing → exec (.maCntClr fn core array) s =
         .next (((s.set (MA_VEC_CNT core array) 0).set (MA_BUBBLE_CNT core array) 0).set (MA_STALL_CNT core array) 0)) ∧
  (∀ (fn core : Nat) (s : State), s.Reaches fn (0x105 + 16 * core) → s.Flowing → exec (.mvpCntClr fn core) s = .next ((s.set (MVP_READ_CNT core) 0).set (MVP_STARVE_CNT core) 0)) ∧
  (∀ (fn core : Nat) (s : State), s.Reaches fn (0x106 + 16 * core) → s.Flowing → exec (.vuCntClr fn core) s = .next (s.set (VU_ELEM_CNT core) 0))

/-- O6, R125, R129, R155. A step command of any opcode, for a slot whose task still fetches: the step joins the task's queue and the core's sequencer and units go on. No other task gets it. -/
def Obligations.StepCommandsAreFetched : Prop :=
  ∀ (c : Instr) (h : StepHdr) (op : StepOp) (r : Running) (s : State), stepOf c = some (h, op) → s.pageOn (seqPage h.core) = true → s.running h.core h.slot = some r → r.fetches = true → exec c s = .next ((s.setRunning h.core h.slot (some { r with queue := r.queue ++ [(h, op)] })).pump h.core)

/-- O7, R118, R122, R123, R124, R129. For a task alone on its core with nothing in flight: every step that can start once issued issues and starts within the command (its unit reads its operands, or its acknowledge is withheld), and the core settles. -/
def Obligations.StepsIssueAndStart : Prop :=
  ∀ (c : Instr) (h : StepHdr) (op : StepOp) (r : Running) (s : State), stepOf c = some (h, op) → Solo s h.core h.slot r → s.pageOn (seqPage h.core) = true → (issuedEntry s h op r).status = .ok → atOnce op = false → isWait op = false → (issuedState s h op r).canStart h.core (issuedTask s h op r) (issuedEntry s h op r) = true → exec c s = .next (settled ((issuedState s h op r).startEntry h.core h.slot (issuedTask s h op r) (issuedEntry s h op r)) h.core 254)

/-- O8, R129, R141, R142, R143, R236, R237. For a task alone on its core: NOP, FENCE, FLAGS_CLR, SALT_SET, SETA, ADDA, LOOP and JUMP (no signal, not the last) leave the window empty with the next step index and address registers their rule gives; FLAGS_CLR and SALT_SET change the context. A WAIT or WAIT_DEC is satisfied, or is the last pending wait. -/
def Obligations.SequencerStepsAndWaitsTakeEffect : Prop :=
  (∀ (c : Instr) (h : StepHdr) (op : StepOp) (r : Running) (s : State), stepOf c = some (h, op) → Solo s h.core h.slot r → s.pageOn (seqPage h.core) = true → (issuedEntry s h op r).status = .ok → ownStep op = true → h.sigEn = false → h.last = false → r.task.ctx < 16 → Runs c s (fun t => ∃ q, t.running h.core h.slot = some q ∧ q.pc = (ctlEffect r op).pc ∧ q.aregs = (ctlEffect r op).aregs ∧ q.window = [] ∧ q.queue = [] ∧
        q.task = r.task ∧ t.sync = s.sync ∧ t.mem = s.mem ∧
        (∀ v, op = .saltSet v → t.get (CTX_SALT h.core r.task.ctx) = v % 2 ^ 32) ∧
        (∀ m, op = .flagsClr m → t.get (CTX_FLAGS h.core r.task.ctx) =
          (s.get (CTX_FLAGS h.core r.task.ctx) - (s.get (CTX_FLAGS h.core r.task.ctx) &&& (m % 32))) % 2 ^ 5))) ∧
  (∀ (c : Instr) (h : StepHdr) (dec : Bool) (k v : Nat) (r : Running) (s : State), stepOf c = some (h, .wait dec k v) → Solo s h.core h.slot r → s.pageOn (seqPage h.core) = true → (issuedEntry s h (.wait dec k v) r).status = .ok → s.ctrQuiet k = false → Runs c s (fun t => t.sync = (s.ctrWait { core := h.core, slot := h.slot, ctr := k, value := v % 65536, dec := dec }).sync ∧
        (∃ q, t.running h.core h.slot = some q ∧ q.window.length = 1) ∧ t.mem = s.mem)) ∧
  (∀ (k v core slot : Nat) (s : State), v ≤ (s.counter k).value → s.ctrWait { core := core, slot := slot, ctr := k, value := v, dec := false } = s) ∧
  (∀ (dec : Bool) (k v core slot : Nat) (s : State), (s.counter k).value < v → (s.ctrWait { core := core, slot := slot, ctr := k, value := v, dec := dec }).sync = { s.sync with waits := s.sync.waits ++ [{ core := core, slot := slot, ctr := k, value := v, dec := dec }] }) ∧
  (∀ (k v core slot : Nat) (s : State), v ≤ (s.counter k).value → CounterTakes s k ((s.counter k).value - v) (s.ctrWait { core := core, slot := slot, ctr := k, value := v, dec := true }))

/-- O9, R125, R126, R132, R134, R135, R136, R137, R138, R142, R103. On starting: LOAD and TRANSFER from on-chip copy their source rows, VECTOR steps apply their operation to the elements read, MATMUL and MATVEC run to their end, FLAGS_OUT holds the context's flags, SIGNAL and SET act on their counter. STEP_COMPLETE writes what a step that has run holds and takes it out of the window; an array that faults abandons its step. -/
def Obligations.StartedStepsComputeAndComplete : Prop :=
  (∀ (core slot : Nat) (r : Running) (e : Entry) (x : XferStep) (o : Operand) (a : Nat) (s : State), e.op = .load x ∧ x.src.space ≠ 4 ∧ x.src.space ≠ 7 ∨ e.op = .transfer x ∧ x.dst.space ≠ 6 → (s.readOperands core r (readsOf e)).2.1 = .ok → writeOf e = some (o, a) → s.startEntry core slot r e = (s.readOperands core r (readsOf e)).1.ran core slot e .ok 0 (rowWrites o a ((s.readOperands core r (readsOf e)).2.2.headD []))) ∧
  (∀ (core slot vop : Nat) (r : Running) (e : Entry) (v : VectorStep) (o : Operand) (a : Nat) (s : State), e.op = .vector vop v → (s.readOperands core r (readsOf e)).2.1 = .ok → writeOf e = some (o, a) → s.startEntry core slot r e =
         (s.readOperands core r (readsOf e)).1.ran core slot e .ok (vectorRun vop (outMode v.ofmt v.rnd v.ovfm) (seedOf v.seed e.salt) v.cols v.rows (vectorData v (vectorSources vop v) (s.readOperands core r (readsOf e)).2.2)).2
           (rowWrites o a (vectorRun vop (outMode v.ofmt v.rnd v.ovfm) (seedOf v.seed e.salt) v.cols v.rows (vectorData v (vectorSources vop v) (s.readOperands core r (readsOf e)).2.2)).1)) ∧
  (∀ (core slot : Nat) (r : Running) (e : Entry) (m : MatmulStep) (s : State), e.op = .matmul m → e.units ≠ [] → (s.runMatmul core r e m none).2.1 = .ok → s.startEntry core slot r e =
         (s.runMatmul core r e m none).1.ran core slot e .ok (s.runMatmul core r e m none).2.2.flags (drainWrites e (fmtBytes m.ofmt) (s.runMatmul core r e m none).2.2.rows)) ∧
  (∀ (core slot : Nat) (r : Running) (e : Entry) (m : MatvecStep) (s : State), e.op = .matvec m → (s.runMatvec core r e m none).2.1 = .ok → s.startEntry core slot r e =
         (s.runMatvec core r e m none).1.ran core slot e .ok (s.runMatvec core r e m none).2.2.flags (drainWrites e (fmtBytes m.ofmt) (s.runMatvec core r e m none).2.2.rows)) ∧
  (∀ (core slot : Nat) (r : Running) (e : Entry) (d : OpRef) (s : State), e.op = .flagsOut d → s.startEntry core slot r e = s.ran core slot e .ok 0 [(d.space, e.addrs.getD 0 0, leBytes 4 (s.get (CTX_FLAGS core r.task.ctx)))]) ∧
  (∀ (core slot k v : Nat) (r : Running) (e : Entry) (s : State), e.op = .signal k v → s.startEntry core slot r e = (s.ctrOp .signal k (v % 65536)).ran core slot e .ok 0 []) ∧
  (∀ (core slot k v : Nat) (r : Running) (e : Entry) (s : State), e.op = .set k v → s.startEntry core slot r e = (s.ctrOp .set k (v % 65536)).ran core slot e .ok 0 []) ∧
  (∀ (core slot order : Nat) (r : Running) (e : Entry) (s : State), s.Awake (seqPage core) → s.running core slot = some r → r.window.find? (fun x => x.order == order) = some e → s.entryAt core slot e.seq = some (r, e) → s.canComplete core slot r e = true → flushes e.op = false → exec (.stepComplete core slot order) s =
         .next (((s.writeAll core r e.writes).1.stepDone core slot r e (firstBad e.status (s.writeAll core r e.writes).2)).pump core)) ∧
  (∀ (core array cause col slot : Nat) (r : Running) (e : Entry) (s : State), s.Awake (0x101 + 16 * core + array) → array < 4 → cause = 1 ∧ s.on (MA_SHADOW_ACTIVE core array) = true ∨ cause = 2 ∨ cause = 3 ∨ cause = 4 → s.unitRun core array = some (slot, r, e) → exec (.arrayFault core array cause col) s =
        .next (((((s.countAbandoned core e).arrayReport core array cause (if cause = 1 then s.get (MA_SHADOW_CUR core array) else if cause = 4 then col % 128 else 0x7F) r.task.flow).setEntry core slot
          { e with status := .faulted, writes := [], flags := 0 }).stepDone core slot r { e with status := .faulted, flags := 0 } .faulted).pump core))

/-- O10, R120, R145, R146, R147, R150, R151, R152, R563. Preempt, abort and slot-enable writes act on each slot of their mask; a preemption takes the lowest free save record; RES_GO accepts a token, RES_DISCARD frees its record; a get joins the list of gets; a core-fatal fault ends every task of the core FAULTED. -/
def Obligations.SequencerCommands : Prop :=
  (∀ (fn core mask : Nat) (s : State), s.Reaches fn (seqPage core) → s.Flowing → exec (.seqPreempt fn core mask) s = .next ((maskSlots mask).foldl (fun t i => t.preemptSlot core i) s)) ∧
  (∀ (core slot k : Nat) (r : Running) (s : State), s.running core slot = some r → r.restore = none → r.preempt = none → r.hard = none → r.aborting = false → s.freeRecord core r.task.ctx = some k → (∃ q, (s.preemptSlot core slot).running core slot = some q ∧ q.preempt = some k ∧ q.queue = [] ∧ q.task = r.task ∧
         (∀ e ∈ q.window, e ∈ r.window ∧ e.phase ≠ .queued)) ∧ OnlyParts [.regs, .sync, .work] s (s.preemptSlot core slot)) ∧
  (∀ (fn core mask : Nat) (s : State), s.Reaches fn (seqPage core) → s.Flowing → exec (.seqAbort fn core mask) s = .next ((maskSlots mask).foldl (fun t i => t.abortSlot core i) s)) ∧
  (∀ (core slot : Nat) (r : Running) (s : State), s.running core slot = some r → r.window = [] → (s.abortSlot core slot).running core slot = none) ∧
  (∀ (fn core mask : Nat) (s : State), s.Reaches fn (seqPage core) → exec (.slotEnWrite fn core mask) s = .next ((s.set (SEQ_CTRL_SLOT_EN core) mask).settleSlots core)) ∧
  (∀ (core slot : Nat) (s : State), s.Awake (seqPage core) → bitOf (s.get (SEQ_CTRL_SLOT_EN core)) slot = true → s.get (SLOT_STAT_STATE core slot) = 1 → s.quiet (seqPage core) = false → s.running core slot = none → (core, slot) ∉ s.work.gets → s.work.resumes = [] → exec (.slotGet core slot) s = .next { s with work := { s.work with gets := s.work.gets ++ [(core, slot)] } }) ∧
  (∀ (fn core rk : Nat) (v : Saved) (s : State), s.Reaches fn (seqPage core) → s.Flowing → s.tokenRecord core = some (rk, v) → exec (.seqResGo fn core) s = .next { s with work := { s.work with resumes := s.work.resumes ++ [(core, rk)] } }) ∧
  (∀ (fn core rk : Nat) (v : Saved) (s : State), s.Reaches fn (seqPage core) → s.Flowing → s.tokenRecord core = some (rk, v) → exec (.seqResDiscard fn core) s = .next (s.discardSave core rk v) ∧ Map.find (s.discardSave core rk v).work.saves rk = none) ∧
  (∀ (core : Nat) (s : State), s.Awake (0x100 + 16 * core) → Runs (.coreFatalFault core) s (fun t => (∀ i, i < 4 → t.running core i = none) ∧ t.shows 0 0x700 1 = true ∧ bitOf (t.get FT_CORE_FAULT) core = decide (core < 16) ∧
        OnlyParts [.regs, .pages, .msgs, .faultLog, .hbm, .caches, .mem, .sync, .work, .link, .freeCtr] s t))

/-- O11, R146, R147, R149, R150. PREEMPT_SAVE of a task that is being preempted, once its window holds only started matrix steps that stop where asked (here: none): its record takes the rest of its program, the task leaves its slot PREEMPTED, PREEMPTED and its flow shows. RESUME_START takes the first waiting resume into the first free slot, which enters RESTORE; once its record is reloaded, the record is free and RESUMED shows. -/
def Obligations.PreemptionSavesAndResumes : Prop :=
  (∀ (core slot k : Nat) (r : Running) (s : State), s.Awake (seqPage core) → core < 16 → slot < 4 → r.task.ctx < 16 → k < 8 → s.running core slot = some r → r.preempt = some k → r.window = [] → Runs (.preemptSave core slot []) s (fun t => t.running core slot = none ∧
        (∃ v, Map.find t.work.saves (recordKey core r.task.ctx k) = some v ∧ v.run = { r with window := [], replay := inOrder r.replay, preempt := none } ∧
          v.token.length = 4 ∧ v.token.getD 0 0 % 65536 = core + 16 * r.task.ctx + 256 * k) ∧
        t.shows 0 (seqPage core) 1 = true)) ∧
  (∀ (core slot rk : Nat) (v : Saved) (s : State), s.Awake (seqPage core) → core < 16 → s.work.resumes.find? (fun x => x.1 == core) = some (core, rk) → Map.find s.work.saves rk = some v → (List.range 4).find? (fun i => s.slotState core i == 1) = some slot → Runs (.resumeStart core) s (fun t => t.running core slot = some { v.run with restore := some rk } ∧ (core, rk) ∉ t.work.resumes ∧ (core, slot) ∉ t.work.gets ∧
        t.get (SLOT_STAT_STATE core slot) = 6 ∧ t.get (SLOT_STAT_CTX core slot) = v.run.task.ctx % 16 ∧ t.work.saves = s.work.saves ∧ OnlyParts [.regs, .work] s t)) ∧
  (∀ (core slot rk : Nat) (r : Running) (v : Saved) (s : State), s.running core slot = some r → Map.find s.work.saves rk = some v → (s.storeRead 1 core (s.recordBase core r.task.ctx (rk % 8)) (4096 + 4 * (r.replay.map Entry.accWords).sum) r.task.flow).2.1 = .ok → Map.find (s.reload core slot rk).work.saves rk = none ∧ (s.reload core slot rk).shows 0 (seqPage core) 2 = true)

/-- O12, R154, R158. CTX_LOAD of a free context starts a load: LOADING set, LOADED clear; of a busy one fails with BAD_PARAM. IMG_LOAD_DONE ends it: LOADED and LOAD_DONE, or the status in LOAD_STATUS and IMG_LOAD_ERR. -/
def Obligations.ImagesLoad : Prop :=
  (∀ (fn core ctx : Nat) (s : State), s.Reaches fn (seqPage core) → s.Flowing → s.on (CTX_CTRL_ENABLE core ctx) = false → s.ctxActive core ctx = 0 → s.ctxSaved core ctx = 0 → s.on (CTX_STAT_LOADING core ctx) = false → s.loadHeld (s.coreHolder core) (s.get (CTX_IMG_LO core ctx) * 4096 + s.get (CTX_IMG_HI core ctx) * 2 ^ 32) = false → s.sluiceHeld = false → s.pkeWaits = false → Runs (.ctxLoad fn core ctx) s (fun t => t.on (CTX_STAT_LOADING core ctx) = true ∧ t.on (CTX_STAT_LOADED core ctx) = false ∧
        (Map.find t.work.loading (core * 16 + ctx)).isSome = true)) ∧
  (∀ (fn core ctx : Nat) (s : State), s.Reaches fn (seqPage core) → s.Flowing → s.on (CTX_CTRL_ENABLE core ctx) = true → Runs (.ctxLoad fn core ctx) s (fun t => t.get (CTX_STAT_LOAD_STATUS core ctx) = Status.badParam.code ∧ t.shows 0 (seqPage core) 4 = true ∧
        OnlyRegs [CTX_STAT_LOAD_STATUS core ctx] s t)) ∧
  (∀ (core ctx : Nat) (i : Image) (s : State), s.Awake (seqPage core) → Map.find s.work.loading (core * 16 + ctx) = some (i, .ok) → i.alg = 0 → Runs (.imgLoadDone core ctx) s (fun t => t.on (CTX_STAT_LOADED core ctx) = true ∧ t.on (CTX_STAT_LOADING core ctx) = false ∧ t.get (CTX_STAT_LOAD_STATUS core ctx) = 0 ∧
        Map.find t.work.images (core * 16 + ctx) = some i ∧ t.shows 0 (seqPage core) 3 = true)) ∧
  (∀ (core ctx : Nat) (i : Image) (st : Status) (s : State), s.Awake (seqPage core) → Map.find s.work.loading (core * 16 + ctx) = some (i, st) → st ≠ .ok → Runs (.imgLoadDone core ctx) s (fun t => t.get (CTX_STAT_LOAD_STATUS core ctx) = st.code ∧ t.on (CTX_STAT_LOADING core ctx) = false ∧ t.shows 0 (seqPage core) 4 = true ∧
        t.work.images = s.work.images))

/-- O13, R549, R566, R570. CORE_TEST starts on a withdrawn, quiesced, idle core and clears its result; a core that may not be tested is refused with BAD_PARAM. At the end both stores are zero, the pass bit follows the outcome and TEST_DONE is raised. CORE_RST resets each core of its mask that is ON, quiesced and idle and refuses each other one. -/
def Obligations.CoresTestAndReset : Prop :=
  (∀ (fn core : Nat) (s : State), s.Reaches fn (0x100 + 16 * core) → s.Flowing → core < 16 → bitOf (s.get FT_CORE_ADM) core = false → (s.page (0x100 + 16 * core)).quiesced = true → s.work.slots = [] → s.work.saves = [] → core ∉ s.work.testing → Runs (.coreTestStart fn core) s (fun t => core ∈ t.work.testing ∧ t.on (CORE_TEST_DONE core) = false ∧ t.on (CORE_TEST_PASS core) = false ∧ t.mem = s.mem)) ∧
  (∀ (fn core : Nat) (s : State), s.Reaches fn (0x100 + 16 * core) → s.Flowing → bitOf (s.get FT_CORE_ADM) core = true → exec (.coreTestStart fn core) s = .next (s.refuseWrite fn (CORE_TEST_START core).addr 1)) ∧
  (∀ (core : Nat) (r : CoreTest) (s : State), s.Awake (0x100 + 16 * core) → core < 16 → s.physSlot core < 18 → core ∈ s.work.testing → Runs (.coreTestDone core r) s (fun t => core ∉ t.work.testing ∧ t.on (CORE_TEST_DONE core) = true ∧ t.on (CORE_TEST_PASS core) = testPasses r ∧
        bitOf (t.get FT_SLOT_PASS) (s.physSlot core) = testPasses r ∧ (∀ i, Map.find t.mem.ws (core * 2 ^ 25 + i % 2 ^ 25) = none) ∧
        (∀ i, Map.find t.mem.act (core * 2 ^ 23 + i % 2 ^ 23) = none) ∧ t.shows 0 (0x100 + 16 * core) 1 = true)) ∧
  (∀ (fn mask : Nat) (s : State), s.Reaches fn 1 → s.Flowing → s.quiet 1 = false → exec (.coreRst fn mask) s = .next ((coresOf (mask % 65536)).foldl
         (fun t n => if t.coreOn n && t.coreIdle n then t.coreReset n else t.refuseWrite fn CORE_RST.addr mask) s)) ∧
  (∀ (n : Nat) (s : State), n < 16 → (∀ i, i < 4 → (s.coreReset n).running n i = none) ∧ (∀ k, k / 16 = n → Map.find (s.coreReset n).work.images k = none) ∧
      (∀ i, Map.find (s.coreReset n).mem.ws (n * 2 ^ 25 + i % 2 ^ 25) = none) ∧ (s.coreReset n).get (W_CTX_SET n 0) = 0xFFFFFFFF ∧ (s.coreReset n).get (W_CTX_SET n 1) = 0xFFFFFFFF)

/-- O14, R208, R209, R211, R212. TASK_DISPATCH: of the gets that wait, the oldest one of an admitted core with an eligible group; the flow that the round robin selects gives its head task to the slot, which becomes BUSY, and is IN_SERVICE. -/
def Obligations.TaskDispatchStartsATask : Prop :=
  (∀ (core slot : Nat) (s : State), s.Awake 0x200 → s.quiet 0x200 = false → s.work.gets.find? (fun g => bitOf (s.get FT_CORE_ADM) g.1 && s.eligible g.1 g.2) = some (core, slot) → exec .taskDispatch s = .next (match s.select core slot selectFuel with
        | some (w, s1) => dispatched s s1 core slot w
        | none => s)) ∧
  (∀ (core slot pc : Nat) (x : Task) (s : State), core < 16 → slot < 4 → x.ctx < 16 → s.wrongSet core x = false → s.entryStep core x = some pc → (∃ r, (s.startTask core slot x).running core slot = some r ∧ r.task = x ∧ r.pc = pc ∧ r.aregs = 0 :: (x.args.map (fun a => a * 128 % 2 ^ 40) ++ List.replicate 11 0) ∧ r.window = [] ∧ r.queue = []) ∧
      (s.startTask core slot x).get (SLOT_STAT_STATE core slot) = 2 ∧ (s.startTask core slot x).get (SLOT_STAT_FLOW core slot) = x.flow % 4096)

/-- O15, R174, R176, R178, R179, R182, R190, R191. MARK, REWIND, RELEASE, REPLAY_HELD, DISCARD_HELD and FLUSH written to a chain that has no operation in progress start theirs: CMD_BUSY. MARK and RELEASE need a mark below 8 and a chain with a descriptor, REWIND an active mark; one written while CMD_BUSY = 1 is refused with BAD_PARAM. APPLY copies the registers to the descriptor and zeroes both counts. ENABLE takes its value. -/
def Obligations.ChainCommandsStart : Prop :=
  (∀ (fn c m : Nat) (s : State), s.Reaches fn (0x220 + chainPage c) → s.Flowing → s.chainQuiet c = false → (s.chain c).busy = none → m < 8 → (s.chain c).desc.isSome = true → Runs (.chCmdMark fn c m) s (fun t => (t.chain c).busy = some { op := 1, mark := m } ∧ t.on (CH_CMD_BUSY c) = true ∧ OnlyParts [.regs, .work] s t ∧ OnlyRegs [CH_CMD_BUSY c] s t)) ∧
  (∀ (fn c m : Nat) (s : State), s.Reaches fn (0x220 + chainPage c) → s.Flowing → s.chainQuiet c = false → (s.chain c).busy = none → m < 8 → (s.chain c).desc.isSome = true → (Map.find (s.chain c).marks m).isSome = true → Runs (.chCmdRewind fn c m) s (fun t => (t.chain c).busy = some { op := 2, mark := m } ∧ t.on (CH_CMD_BUSY c) = true ∧ OnlyParts [.regs, .work] s t ∧ OnlyRegs [CH_CMD_BUSY c] s t)) ∧
  (∀ (fn c m : Nat) (s : State), s.Reaches fn (0x220 + chainPage c) → s.Flowing → s.chainQuiet c = false → (s.chain c).busy = none → m < 8 → (s.chain c).desc.isSome = true → Runs (.chCmdRelease fn c m) s (fun t => (t.chain c).busy = some { op := 3, mark := m } ∧ t.on (CH_CMD_BUSY c) = true ∧ OnlyParts [.regs, .work] s t ∧ OnlyRegs [CH_CMD_BUSY c] s t)) ∧
  (∀ (fn c : Nat) (s : State), s.Reaches fn (0x220 + chainPage c) → s.Flowing → s.chainQuiet c = false → (s.chain c).busy = none → Runs (.replayHeld fn c) s (fun t => (t.chain c).busy = some { op := 4, mark := 0 } ∧ t.on (CH_CMD_BUSY c) = true ∧ OnlyParts [.regs, .work] s t ∧ OnlyRegs [CH_CMD_BUSY c] s t)) ∧
  (∀ (fn c : Nat) (s : State), s.Reaches fn (0x220 + chainPage c) → s.Flowing → s.chainQuiet c = false → (s.chain c).busy = none → Runs (.discardHeld fn c) s (fun t => (t.chain c).busy = some { op := 5, mark := 0 } ∧ t.on (CH_CMD_BUSY c) = true ∧ OnlyParts [.regs, .work] s t ∧ OnlyRegs [CH_CMD_BUSY c] s t)) ∧
  (∀ (fn c : Nat) (s : State), s.Reaches fn (0x220 + chainPage c) → s.Flowing → s.chainQuiet c = false → (s.chain c).busy = none → Runs (.chFlush fn c) s (fun t => (t.chain c).busy = some { op := 6, mark := 0 } ∧ t.on (CH_CMD_BUSY c) = true ∧ OnlyParts [.regs, .work] s t ∧ OnlyRegs [CH_CMD_BUSY c] s t)) ∧
  (∀ (fn c m : Nat) (s : State), s.Reaches fn (0x220 + chainPage c) → s.Flowing → s.chainQuiet c = false → (s.chain c).busy.isSome = true → exec (.chCmdMark fn c m) s = .next (s.chainError c 1 .badParam) ∧ exec (.chFlush fn c) s = .next (s.chainError c 6 .badParam)) ∧
  (∀ (fn c : Nat) (s : State), s.Reaches fn (0x220 + chainPage c) → s.Flowing → s.applyStatus c = .ok → Runs (.chApply fn c) s (fun t => (t.chain c).desc = some (s.chainRegs c) ∧ t.on (CH_APPLIED c) = true ∧ t.get (CH_ENQ_SEQ c) = 0 ∧ t.get (CH_TAKE_SEQ c) = 0 ∧
        OnlyParts [.regs, .work] s t ∧ OnlyRegs [CH_APPLIED c, CH_ENQ_SEQ c, CH_TAKE_SEQ c] s t)) ∧
  (∀ (fn c : Nat) (s : State), s.Reaches fn (0x220 + chainPage c) → s.Flowing → s.applyStatus c ≠ .ok → exec (.chApply fn c) s = .next (s.chainError c 15 (s.applyStatus c))) ∧
  (∀ (fn c : Nat) (s : State), s.Reaches fn (0x220 + chainPage c) → exec (.chEnable fn c false) s = .next ((s.flag (CH_ENABLE c) false).poolWatch s)) ∧
  (∀ (fn c : Nat) (s : State), s.Reaches fn (0x220 + chainPage c) → s.enableStatus c = .ok → exec (.chEnable fn c true) s = .next ((s.flag (CH_ENABLE c) true).poolWatch s))

/-- O16, R139, R165, R166, R167, R174, R176, R178, R179, R182, R185, R191, R219. CHAIN_OP_COMPLETE ends the operation in progress: MARK records the positions, RELEASE and FLUSH make marks inactive, REPLAY_HELD, DISCARD_HELD and FLUSH clear LINK_HOLD. A rewind treats each item as its table gives. CELL_GRANT opens the child of the first step that waits. STORE_ENTRY_GRANT hands the first withheld POST over. -/
def Obligations.ChainOperationsTakeEffect : Prop :=
  (∀ (c : Nat) (o : ChainOp) (s : State), s.Awake 0x220 → c < 256 → (s.chain c).busy = some o → o.step = none → Runs (.chainOpComplete c) s (fun t => (t.chain c).busy = none ∧ t.on (CH_CMD_BUSY c) = false ∧
        (o.op = 1 → Map.find (t.chain c).marks o.mark = some (s.get (CH_ENQ_SEQ c), s.get (CH_TAKE_SEQ c))) ∧
        (o.op = 2 → (t.chain c).marks = (s.chain c).marks) ∧ (o.op = 3 → Map.find (t.chain c).marks o.mark = none) ∧
        (4 ≤ o.op → t.on (CH_LINK_HOLD c) = false) ∧ (6 ≤ o.op → (t.chain c).marks = []))) ∧
  (∀ (m e n k : Nat) (x : Cell) (s : State), x.state = .ready → s.rewindCell m e n k x = if 4 ≤ m ∧ atOrAfter x.enq e = true then (s.freeCell k).dropped x.chain 1 else s) ∧
  (∀ (m e n k : Nat) (x : Cell) (s : State), x.state = .inUse → s.rewindCell m e n k x = if atOrAfter x.take n = true then s.setCell k { x with rewind := some (decide (4 ≤ m) && atOrAfter x.enq e) } else s) ∧
  (∀ (m e n k : Nat) (x : Cell) (s : State), x.state = .spent → s.rewindCell m e n k x = if atOrAfter x.take n = false then s
         else if 4 ≤ m ∧ atOrAfter x.enq e = true then (s.freeCell k).dropped x.chain 1 else s.setCell k { x with state := .ready, rewind := none, link := false }) ∧
  (∀ (c n core slot seq : Nat) (ws : List (Nat × Waiter)) (r : Running) (x : Entry) (s : State), s.Awake 0x220 → s.cellTurn c n = true → (s.chain c).busy = none → s.chainQuiet c = false → (s.chain c).waiters = (n, .step core slot seq) :: ws → s.entryAt core slot seq = some (r, x) → exec (.cellGrant c) s = .next (let s1 := s.watched c (fun t => t.setChain c { t.chain c with waiters := ws }); (if s1.hasChild r c then s1 else s1.openChild r.task.exp c).pump core)) ∧
  (∀ (e c : Nat) (d : ChainDesc) (s : State), (s.chain c).desc = some d → ∃ k b, (s.openChild e c).child e c = some { exp := e, chain := c, state := .building k } ∧
        Map.find (s.openChild e c).work.cells k = some { id := s.work.nextCell, chain := c, buf := b, state := .building, header := List.replicate 64 0 }) ∧
  (∀ (k place core slot seq dl delay : Nat) (item : List Byte) (ws : List (Nat × Nat × Nat × Nat)) (r : Running) (x : Entry) (s : State), s.Awake 0x200 → s.quiet 0x200 = false → (s.channel k).waiters = (place, core, slot, seq) :: ws → s.entryAt core slot seq = some (r, x) → x.op = .post dl delay item → exec (.storeEntryGrant k) s = .next (match (s.setChannel k { s.channel k with waiters := ws }).post (s.coreHolder core) item dl delay place with
        | some (t, st) => (t.ran core slot x st 0 []).pump core
        | none => s))

/-- O17, R200, R228, R229, R630. RELEASE_SKIP drops the failed task of a BLOCKED flow as done, RELEASE_RETRY puts it back at the head of its queue; CLEAR_STALE clears STALE; PURGE discards the queue. Each leaves its status in FLOW_CMD_STAT: STALE for a release of a STALE flow, else OK. -/
def Obligations.FlowCommands : Prop :=
  (∀ (fn w : Nat) (x : Task) (s : State), s.Reaches fn (flowPage w) → s.Flowing → w < 4096 → (s.flow w).service = some x → s.get (FLOW_STATE w) = 4 → exec (.releaseSkip fn w) s = .next
         (((((((s.setFlow w { s.flow w with service := none }).set (FLOW_STATE w) 0).taskDone x.exp x.tidx).refresh w).attnRefresh w).set (FLOW_CMD_STAT_RESULT (1 + w / 512)) (s.releaseStatus w).code))) ∧
  (∀ (fn w : Nat) (x : Task) (s : State), s.Reaches fn (flowPage w) → s.Flowing → w < 4096 → (s.flow w).service = some x → s.get (FLOW_STATE w) = 4 → Runs (.releaseRetry fn w) s (fun t => (t.flow w).service = none ∧ (t.flow w).queue = x :: (s.flow w).queue ∧ t.get (FLOW_STATE w) = 1 ∧
        t.get (FLOW_CMD_STAT_RESULT (1 + w / 512)) = (s.releaseStatus w).code)) ∧
  (∀ (fn w : Nat) (s : State), s.Reaches fn (flowPage w) → s.Flowing → w < 4096 → Runs (.clearStale fn w) s (fun t => t.on (FLOW_STALE w) = false ∧ (t.flow w) = s.flow w ∧ t.get (FLOW_CMD_STAT_RESULT (1 + w / 512)) = 0)) ∧
  (∀ (fn w : Nat) (s : State), s.Reaches fn (flowPage w) → s.Flowing → w < 4096 → Runs (.purge fn w) s (fun t => (t.flow w).queue = [] ∧ (t.flow w).service = (s.flow w).service ∧ t.get (FLOW_CMD_STAT_RESULT (1 + w / 512)) = 0))

/-- O18, R216, R230. DL_RELEASE_ALL empties a delay list and its tasks join their flows in sorted order; DL_PURGE empties it and its tasks are done. -/
def Obligations.DelayListsReleaseAndPurge : Prop :=
  (∀ (fn d : Nat) (s : State), s.Reaches fn 0x200 → s.Flowing → s.quiet 0x200 = false → Runs (.dlReleaseAll fn d) s (fun t => t.delayList d = [] ∧ (∀ e, e ≠ d → t.delayList e = s.delayList e) ∧
        (∀ w, (t.flow w).queue = (s.flow w).queue ++ ((s.delayList d).filter (fun e => e.2.flow == w)).map (·.2)))) ∧
  (∀ (fn d : Nat) (s : State), s.Reaches fn 0x200 → s.Flowing → Runs (.dlPurge fn d) s (fun t => t.delayList d = [] ∧ (∀ e, e ≠ d → t.delayList e = s.delayList e) ∧ t.work.flows = s.work.flows)) ∧
  (∀ (s : State) (d tick : Nat), (s.releaseDue tick d).delayList d = (s.delayList d).filter (fun e => !decide (e.1 ≤ tick)))

/-- O19, R218, R220, R222, R225, R226. CHN_APPLY copies the registers and sets APPLIED, or captures its refusal. ENABLE takes its value, 1 only where R218 allows. CLEAR_LOST clears SPILL_LOST. FLUSH_SPILL empties the spill area and counts its entries as lost. A refill brings a batch back. -/
def Obligations.SchedulerChannels : Prop :=
  (∀ (fn k : Nat) (s : State), s.Reaches fn 0x200 → s.Flowing → s.chanApplyStatus k = .ok → Runs (.chnApply fn k) s (fun t => (t.channel k).cfg = some (s.chanRegs k) ∧ (t.channel k).prod = 0 ∧ (t.channel k).cons = 0 ∧ (t.channel k).flushed = 0 ∧ t.on (CHN_STAT_APPLIED k) = true ∧
        OnlyParts [.regs, .work] s t ∧ OnlyRegs [CHN_STAT_APPLIED k] s t)) ∧
  (∀ (fn k : Nat) (s : State), s.Reaches fn 0x200 → s.Flowing → s.chanApplyStatus k ≠ .ok → exec (.chnApply fn k) s = .next (s.captureFn fn 0x200 (s.chanApplyStatus k) ((CHN_CTRL_APPLY k).addr % 4096) 2)) ∧
  (∀ (fn k : Nat) (s : State), s.Reaches fn 0x200 → exec (.chnEnable fn k false) s = .next (s.flag (CHN_CTRL_ENABLE k) false)) ∧
  (∀ (fn k : Nat) (s : State), s.Reaches fn 0x200 → s.chanEnableStatus k = .ok → exec (.chnEnable fn k true) s = .next (s.flag (CHN_CTRL_ENABLE k) true)) ∧
  (∀ (fn k : Nat) (s : State), s.Reaches fn 0x200 → s.Flowing → exec (.clearLost fn k) s = .next (s.flag (CHN_STAT_SPILL_LOST k) false)) ∧
  (∀ (fn k : Nat) (s : State), s.Reaches fn 0x200 → s.Flowing → (s.channel k).ring ≠ [] → k < 32 → s.headerHeld k = false → Runs (.flushSpill fn k) s (fun t => (t.channel k).ring = [] ∧
        (t.channel k).cons = ((s.channel k).cons + (s.channel k).ring.length) % 2 ^ 32 ∧ t.get (CHN_LOST_CNT k) = (s.get (CHN_LOST_CNT k) + (s.channel k).ring.length) % 2 ^ 32)) ∧
  (∀ (k : Nat) (s : State), s.Awake 0x200 → s.quiet 0x200 = false → s.on (CHN_STAT_SPILL_LOST k) = false → (s.channel k).ring ≠ [] → s.refillHeld k = false → exec (.spillRefill k) s = .next (let t := s.storeWatched (·.refill k 32); if (t.channel k).ring.isEmpty then t.spillHeader k else t)) ∧
  (∀ (k n : Nat) (c : ChannelCfg) (own : Nat × Nat × Nat) (rest : List (Nat × Nat × Nat)) (s : State), (s.channel k).cfg = some c → (s.channel k).ring = own :: rest → own.1 ≠ 0 → s.chanRoom k 1 = true → (spillRead s k c).2.1 = .ok → s.refill k (n + 1) = (((spillRead s k c).1.setChannel k { s.channel k with cons := ((s.channel k).cons + 1) % 2 ^ 32, ring := rest }).enter
         (spilledTask (spillRead s k c).2.2 k own).1 (spilledTask (spillRead s k c).2.2 k own).2).refill k n)

/-- O20, R204, R205, R217, R228, R229. A HOST_POST that is accepted or refused ends with its status and POST_DONE. A pop reads the oldest attention entry of the flow page. A binding write resumes the takes of its chain. The head item of a chain is taken and its tasks are accepted in order by its channel, an item of no tasks finishes, one that may not be expanded stops the chain. -/
def Obligations.SchedulerPostsItemsAndBindings : Prop :=
  (∀ (fn j dl : Nat) (s : State), s.Reaches fn (0x200 + j) → s.Flowing → s.quiet 0x200 = false → s.spillHeld (s.get (FN_SCHED_POST_CHAN (s.tripleHolder j))) 1 = false → exec (.hostPost fn j dl) s = .next (match hostPosted s j dl with
        | some (t, st) => t.postEnds fn j dl st
        | none => (s.set (POST_CTRL_DLIST j) dl).postEnds fn j dl .noSpace)) ∧
  (∀ (fn j dl : Nat) (st : Status) (t : State), (t.postEnds fn j dl st).get (POST_CTRL_STATUS j) = st.code ∧ (t.postEnds fn j dl st).shows 0 (0x200 + j) 3 = true) ∧
  (∀ (fn j : Nat) (a : Attention) (q : List Attention) (s : State), s.Reaches fn (0x200 + j) → Map.get s.work.attention [] j = a :: q → Runs (.bqPop fn j) s (fun t => t.readData = a.flow + 2 ^ 12 * a.core + 2 ^ 16 * a.status + 2 ^ 31 ∧ t.get (BQ_TAG j) = a.tag % 2 ^ 32 ∧ Map.get t.work.attention [] j = q ∧ OnlyRegs [BQ_TAG j] s t)) ∧
  (∀ (fn c v : Nat) (s : State), s.Reaches fn (0x200 + chainPage c) → c < 256 → bitOf (s.get (FN_CHAN_MASK (s.chainHolder c))) (bitsOf v 8 5) = true → Runs (.bindingWrite fn c 0 v) s (fun t => t.on (BIND_CTL_EN c) = bitOf v 0 ∧ t.get (BIND_CTL_CTX c) = bitsOf v 4 4 ∧
        t.get (BIND_CTL_CHAN c) = bitsOf v 8 5 ∧ t.get (BIND_CTL_ENTRY c) = bitsOf v 16 16 ∧ (t.chain c).stopped = false ∧
        OnlyRegs [BIND_CTL_EN c, BIND_CTL_CTX c, BIND_CTL_CHAN c, BIND_CTL_ENTRY c] s t)) ∧
  (∀ (fn c v : Nat) (s : State), s.Reaches fn (0x200 + chainPage c) → c < 256 → Runs (.bindingWrite fn c 1 v) s (fun t => t.get (BIND_FLOW_STRIDE c) = bitsOf v 0 12 ∧ t.get (BIND_FLOW_COST c) = bitsOf v 16 12 ∧ (t.chain c).stopped = false)) ∧
  (∀ (fn c v : Nat) (s : State), s.Reaches fn (0x200 + chainPage c) → c < 256 → Runs (.bindingWrite fn c 2 v) s (fun t => t.get (BIND_ARG_STRIDE c) = v % 2 ^ 32 ∧ (t.chain c).stopped = false)) ∧
  (∀ (c k : Nat) (x : Cell) (s : State), ItemTurn s c k x → 0 < hdr x.header 5 1 % 128 → hdr x.header 5 1 % 128 ≤ 64 → (∀ t ∈ itemTasks s c k x, s.flowHolder t.flow = s.chainHolder c) → exec (.itemExpand c) s = .next (if (itemAccepted s c k x).2 = true then (itemAccepted s c k x).1 else s)) ∧
  (∀ (c k : Nat) (x : Cell) (s : State), ItemTurn s c k x → hdr x.header 5 1 % 128 = 0 → exec (.itemExpand c) s = .next ((s.takeCell k x).finishCell k)) ∧
  (∀ (c k : Nat) (x : Cell) (s : State), ItemTurn s c k x → hdr x.header 5 1 % 128 ≤ 64 → (∃ t ∈ itemTasks s c k x, s.flowHolder t.flow ≠ s.chainHolder c) → exec (.itemExpand c) s = .next (s.expandStops c .badAddr)) ∧
  (∀ (c k : Nat) (x : Cell) (s : State), ItemTurn s c k x → 64 < hdr x.header 5 1 % 128 → exec (.itemExpand c) s = .next (s.expandStops c .badDesc))

/-- O21, R288, R298, R299. FLUSH and FLUSH_INV written while BUSY = 0 start: BUSY, with the lines that are dirty now; written while BUSY = 1 they are refused with BAD_PARAM. At the end BUSY clears, RESULT reads OK, CMD_DONE is raised. CNT_CLR clears the counts of a store, LC_CNT_CLR those of a line cache. -/
def Obligations.CacheCommandsAndCounts : Prop :=
  (∀ (fn n k : Nat) (s : State), s.Reaches fn (0x108 + 16 * n + k) → s.Flowing → exec (.cntClr fn n k) s = .next (((s.set (ST_CE_CNT n k) 0).set (ST_UE_CNT n k) 0).set (ST_CONFLICT_CNT n k) 0)) ∧
  (∀ (fn n : Nat) (s : State), s.Reaches fn (0x10A + 16 * n) → s.Flowing → exec (.lcCntClr fn n) s =
         .next (((((s.set (LC_HIT_CNT n) 0).set (LC_MISS_CNT n) 0).set (LC_WB_CNT n) 0).set (LC_SNOOP_CNT n) 0).set (LC_XEVICT_CNT n) 0)) ∧
  (∀ (fn n : Nat) (s : State), s.Reaches fn (0x10A + 16 * n) → s.Flowing → s.on (LC_STAT_BUSY n) = false → Runs (.lcFlush fn n) s (fun t => t.on (LC_STAT_BUSY n) = true ∧
        Map.find t.mem.lcCmds n = some ⟨false, ((s.cache n).lines.filter (·.dirty)).map (·.line)⟩ ∧ t.mem.caches = s.mem.caches ∧ OnlyRegs [LC_STAT_BUSY n] s t)) ∧
  (∀ (fn n : Nat) (s : State), s.Reaches fn (0x10A + 16 * n) → s.Flowing → s.on (LC_STAT_BUSY n) = true → exec (.lcFlush fn n) s = .next (s.lcRefused fn n 1)) ∧
  (∀ (fn n : Nat) (s : State), s.Reaches fn (0x10A + 16 * n) → s.Flowing → s.on (LC_STAT_BUSY n) = false → Runs (.lcFlushInv fn n) s (fun t => t.on (LC_STAT_BUSY n) = true ∧
        Map.find t.mem.lcCmds n = some ⟨true, ((s.cache n).lines.filter (·.dirty)).map (·.line)⟩ ∧ t.mem.caches = s.mem.caches ∧ OnlyRegs [LC_STAT_BUSY n] s t)) ∧
  (∀ (fn n : Nat) (s : State), s.Reaches fn (0x10A + 16 * n) → s.Flowing → s.on (LC_STAT_BUSY n) = true → exec (.lcFlushInv fn n) s = .next (s.lcRefused fn n 2)) ∧
  (∀ (n : Nat) (c : LcCmd) (s : State), s.Awake (0x10A + 16 * n) → n < 16 → Map.find s.mem.lcCmds n = some c → Runs (.lcCmdDone n) s (fun t => t.on (LC_STAT_BUSY n) = false ∧ t.get (LC_STAT_RESULT n) = 0 ∧ t.shows 0 (0x10A + 16 * n) 3 = true ∧
        Map.find t.mem.lcCmds n = none)) ∧
  (∀ (core l : Nat) (x : CacheLine) (s : State), s.domOn 3 = true → s.mem.flights = [] → s.mem.txns = [] → (∀ c, s.evictedEntry c l = none) → s.cached core l = some x → x.err = [] → 
        ((s.flushLine core l true).cached core l = none ∧ core ∉ (s.flushLine core l true).holders l) ∧
        (s.flushLine core l false).cached core l = some { x with dirty := false })

/-- O22, R282, R283, R284, R308. The PF's write that sets VALID is applied where the segment fits and its domain allows it, and is refused with BAD_PARAM otherwise; a VF's write is ignored. A write that clears VALID stores its word, unmaps at once and is BUSY until the write-backs are done; SEG_DONE then. -/
def Obligations.SegmentsBecomeValidAndClear : Prop :=
  (∀ (f x v : Nat) (s : State), s.pageOn (0x307 + f) = true → f < 9 → x < 64 → s.on (SEG_STAT_BUSY f) = false → s.on (SEG_FBASE_VALID f x) = false → s.segFits f x (v % 2 ^ 19) = true → s.segDomain f x = true → Runs (.segValidSet 0 f x v) s (fun t => t.on (SEG_FBASE_VALID f x) = true ∧ t.get (SEG_FBASE f x) = v % 2 ^ 19 ∧ t.get (SEG_STAT_RESULT f) = 0 ∧
        OnlyRegs [SEG_FBASE f x, SEG_FBASE_VALID f x, SEG_STAT_RESULT f] s t ∧ OnlyParts [.regs] s t)) ∧
  (∀ (f x v : Nat) (s : State), s.pageOn (0x307 + f) = true → f < 9 → x < 64 → s.on (SEG_STAT_BUSY f) = true ∨ s.on (SEG_FBASE_VALID f x) = true ∨ s.segFits f x (v % 2 ^ 19) = false ∨ s.segDomain f x = false → Runs (.segValidSet 0 f x v) s (fun t => t.on (SEG_FBASE_VALID f x) = s.on (SEG_FBASE_VALID f x) ∧ t.get (SEG_STAT_RESULT f) = Status.badParam.code ∧
        (t.page (0x307 + f)).errCode = Status.badParam.code ∧ OnlyRegs [SEG_STAT_RESULT f] s t)) ∧
  (∀ (f x v : Nat) (s : State), s.pageOn (0x307 + f) = true → f < 9 → x < 64 → s.on (SEG_STAT_BUSY f) = false → s.on (SEG_FBASE_VALID f x) = true → Runs (.segValidClear 0 f x v) s (fun t => t.on (SEG_FBASE_VALID f x) = false ∧ t.get (SEG_FBASE f x) = v % 2 ^ 19 ∧ t.on (SEG_STAT_BUSY f) = true ∧
        Map.find t.mem.segBusy f = some [(s.get (SEG_PBASE f x), s.get (SEG_LEN f x))] ∧ OnlyRegs [SEG_FBASE f x, SEG_FBASE_VALID f x, SEG_STAT_BUSY f, SEG_STAT_RESULT f] s t)) ∧
  (∀ (fn f x v : Nat) (s : State), s.Reaches fn (0x307 + f) → fn ≠ 0 → exec (.segValidSet fn f x v) s = .next s ∧ exec (.segValidClear fn f x v) s = .next s) ∧
  (∀ (f : Nat) (rs : List (Nat × Nat)) (s : State), s.Awake (0x307 + f) → f < 9 → Map.find s.mem.segBusy f = some rs → Runs (.segDone f) s (fun t => t.on (SEG_STAT_BUSY f) = false ∧ Map.find t.mem.segBusy f = none ∧ t.shows 0 (0x307 + f) 0 = true))

/-- O23, R286, R287, R289, R290, R291, R293, R294, R295. A core's request for a line reaches its home, waits its turn and begins: without other holders it is answered at once, an M owner is snooped. Each message that is on its way arrives: a core takes the line, gives it up or answers a snoop, the home goes on. An eviction writes M data back. -/
def Obligations.CoherenceMessages : Prop :=
  (∀ (core addr pa dom : Nat) (s : State), s.translate (s.coreHolder core) addr 1 false = some (pa, dom) → s.domOn 3 = true → s.requestWaits core (s.coreHolder core) pa = false → exec (.rdS core addr) s = .next ((s.add (LC_MISS_CNT core) 1).request { req := .rdS, core := core, line := pa / 128, fn := s.coreHolder core, dom := dom, off := pa % 128, bytes := [] })) ∧
  (∀ (core addr pa dom : Nat) (bytes : List Byte) (s : State), s.translate (s.coreHolder core) addr (max 1 bytes.length) true = some (pa, dom) → s.domOn 3 = true → pa % 128 + bytes.length ≤ 128 → s.requestWaits core (s.coreHolder core) pa = false → exec (.rdM core addr bytes) s = .next ((s.add (LC_MISS_CNT core) 1).request { req := .rdM, core := core, line := pa / 128, fn := s.coreHolder core, dom := dom, off := pa % 128, bytes := bytes })) ∧
  (∀ (core addr pa dom : Nat) (bytes : List Byte) (s : State), s.translate (s.coreHolder core) addr (max 1 bytes.length) true = some (pa, dom) → s.domOn 3 = true → pa % 128 + bytes.length ≤ 128 → s.requestWaits core (s.coreHolder core) pa = false → bytes.length = 128 → exec (.claim core addr bytes) s = .next ((s.add (LC_MISS_CNT core) 1).request { req := .claim, core := core, line := pa / 128, fn := s.coreHolder core, dom := dom, off := pa % 128, bytes := bytes })) ∧
  (∀ (core addr pa dom : Nat) (bytes : List Byte) (s : State), s.translate (s.coreHolder core) addr (max 1 bytes.length) true = some (pa, dom) → s.domOn 3 = true → pa % 128 + bytes.length ≤ 128 → s.requestWaits core (s.coreHolder core) pa = false → exec (.upg core addr bytes) s = .next ((s.add (LC_HIT_CNT core) 1).request { req := .upg, core := core, line := pa / 128, fn := s.coreHolder core, dom := dom, off := pa % 128, bytes := bytes })) ∧
  (∀ (t : Txn) (s : State), s.mem.txns = [] → s.lineBusy t.line = false → s.holders t.line = [] → t.req = .rdS → t.begun = false → t.data = none → ∃ m ∈ (s.request t).mem.flights, m.msg = .dataS ∧ m.core = t.core ∧ m.line = t.line ∧ m.status = (s.homeRead 0 t.fn t.core t.dom t.line).2.1 ∧
        m.data = (s.homeRead 0 t.fn t.core t.dom t.line).2.2) ∧
  (∀ (t : Txn) (o : Nat) (s : State), s.mem.txns = [] → s.lineBusy t.line = false → s.owner t.line = some o → o ≠ t.core → t.req = .rdS → t.begun = false → (∃ m ∈ (s.request t).mem.flights, m.msg = .snpShr ∧ m.core = o ∧ m.line = t.line) ∧
        (∃ u, (s.request t).txn t.line = some u ∧ u.core = t.core ∧ u.waiting = [o])) ∧
  (∀ (core l : Nat) (m : Flight) (s : State), s.Flowing → (s.needsVictim core l && s.bufferFull core) = false → s.mem.flights.find? (fun m => m.msg == .dataS && m.core == core && m.line == l) = some m → exec (.dataS core l) s = .next (({ s with mem := { s.mem with flights := s.mem.flights.erase m } }).deliver m)) ∧
  (∀ (core l : Nat) (m : Flight) (s : State), s.Flowing → (s.needsVictim core l && s.bufferFull core) = false → s.mem.flights.find? (fun m => m.msg == .dataM && m.core == core && m.line == l) = some m → exec (.dataM core l) s = .next (({ s with mem := { s.mem with flights := s.mem.flights.erase m } }).deliver m)) ∧
  (∀ (core l : Nat) (m : Flight) (s : State), s.Flowing → (s.needsVictim core l && s.bufferFull core) = false → s.mem.flights.find? (fun m => m.msg == .grant && m.core == core && m.line == l) = some m → exec (.grant core l) s = .next (({ s with mem := { s.mem with flights := s.mem.flights.erase m } }).deliver m)) ∧
  (∀ (core l : Nat) (m : Flight) (s : State), s.Flowing → s.mem.flights.find? (fun m => m.msg == .evictAck && m.core == core && m.line == l) = some m → exec (.evictAck core l) s = .next (({ s with mem := { s.mem with flights := s.mem.flights.erase m } }).deliver m)) ∧
  (∀ (core l : Nat) (m : Flight) (s : State), s.Flowing → s.mem.flights.find? (fun m => m.msg == .snpInv && m.core == core && m.line == l) = some m → exec (.snpInv core l) s = .next (({ s with mem := { s.mem with flights := s.mem.flights.erase m } }).deliver m)) ∧
  (∀ (core l : Nat) (m : Flight) (s : State), s.Flowing → s.mem.flights.find? (fun m => m.msg == .snpShr && m.core == core && m.line == l) = some m → exec (.snpShr core l) s = .next (({ s with mem := { s.mem with flights := s.mem.flights.erase m } }).deliver m)) ∧
  (∀ (core l : Nat) (m : Flight) (s : State), s.Awake 0x300 → s.mem.flights.find? (fun m => m.msg == .ack && m.core == core && m.line == l) = some m → exec (.ack core l) s = .next (({ s with mem := { s.mem with flights := s.mem.flights.erase m } }).deliver m)) ∧
  (∀ (core l : Nat) (m : Flight) (s : State), s.Awake 0x300 → s.mem.flights.find? (fun m => m.msg == .data && m.core == core && m.line == l) = some m → exec (.data core l) s = .next (({ s with mem := { s.mem with flights := s.mem.flights.erase m } }).deliver m)) ∧
  (∀ (core l : Nat) (m : Flight) (s : State), s.Awake 0x300 → s.mem.flights.find? (fun m => m.msg == .notHeld && m.core == core && m.line == l) = some m → exec (.notHeld core l) s = .next (({ s with mem := { s.mem with flights := s.mem.flights.erase m } }).deliver m)) ∧
  (∀ (core l : Nat) (m : Flight) (s : State), s.Awake 0x300 → s.mem.flights.find? (fun m => m.msg == .notHeldEvicting && m.core == core && m.line == l) = some m → exec (.notHeldEvicting core l) s = .next (({ s with mem := { s.mem with flights := s.mem.flights.erase m } }).deliver m)) ∧
  (∀ (m : Flight) (s : State), m.msg = .dataS → m.status = .ok → m.dropped = false → ∃ y, (s.deliver m).cached m.core m.line = some y ∧ y.owned = false ∧ y.dirty = false ∧ y.dom = m.dom ∧ y.fn = m.fn ∧ y.data = patch m.data m.off m.bytes) ∧
  (∀ (m : Flight) (s : State), m.msg = .dataM → m.status = .ok → m.dropped = false → ∃ y, (s.deliver m).cached m.core m.line = some y ∧ y.owned = true ∧ y.data = patch m.data m.off m.bytes) ∧
  (∀ (m : Flight) (x : CacheLine) (s : State), m.msg = .snpInv → s.cached m.core m.line = some x → x.owned = true → x.err = [] → (s.deliver m).cached m.core m.line = none ∧ (∃ a ∈ (s.deliver m).mem.flights, a.msg = .data ∧ a.line = m.line ∧ a.core = m.core ∧ a.data = x.data)) ∧
  (∀ (m : Flight) (x : CacheLine) (s : State), m.msg = .snpShr → s.cached m.core m.line = some x → x.owned = true → x.err = [] → (s.deliver m).cached m.core m.line = some { x with owned := false, dirty := false } ∧
        (∃ a ∈ (s.deliver m).mem.flights, a.msg = .data ∧ a.line = m.line ∧ a.core = m.core ∧ a.data = x.data)) ∧
  (∀ (m : Flight) (s : State), m.msg = .evictAck → (s.deliver m).evictedEntry m.core m.line = none) ∧
  (∀ (core l : Nat) (x : CacheLine) (s : State), s.Awake 0x300 → s.cached core l = some x → x.owned = false → (s.cache core).evicted.length < 16 → s.evictedEntry core l = none → s.txn l = none → s.dirEntry l = some { line := l, owner := none, sharers := [core] } → Runs (.evictS core l) s (fun t => t.cached core l = none ∧ t.holders l = [] ∧ (∃ m ∈ t.mem.flights, m.msg = .evictAck ∧ m.core = core ∧ m.line = l) ∧ t.mem.hbm = s.mem.hbm)) ∧
  (∀ (core l : Nat) (x : CacheLine) (s : State), s.Awake 0x300 → s.cached core l = some x → x.owned = true → x.err = [] → (s.cache core).evicted.length < 16 → s.evictedEntry core l = none → s.txn l = none → s.lineAbsent l = false → x.dom = 15 → x.data.length = 128 → core < 16 → Runs (.evictM core l) s (fun t => t.cached core l = none ∧ core ∉ t.holders l ∧ (∃ m ∈ t.mem.flights, m.msg = .evictAck ∧ m.core = core ∧ m.line = l) ∧ t.stored l = x.data))

/-- O24, R279, R281, R282, R291, R313, R314. An agent's read or write of a function address goes to the line that its segment maps. A line written whole at the home reads back, in its domain; other lines keep their bytes. SCRUB_STEP visits the next line, and after the last one starts over with SCRUB_PASS. -/
def Obligations.HomeAgentsAndScrubber : Prop :=
  (∀ (agent fn core addr pa dom : Nat) (s : State), s.translate fn addr 1 false = some (pa, dom) → s.domOn 3 = true → s.memQuiet fn pa 1 = false → s.held = [] → exec (.homeAgentRead agent fn core addr) s = .next (s.agentRead agent fn core dom (pa / 128)).1) ∧
  (∀ (agent fn core addr pa dom : Nat) (bytes : List Byte) (s : State), s.translate fn addr bytes.length true = some (pa, dom) → s.domOn 3 = true → s.memQuiet fn pa bytes.length = false → s.held = [] → bytes ≠ [] → pa % 128 + bytes.length ≤ 128 → exec (.homeAgentWrite agent fn core addr bytes) s = .next (s.agentWrite agent fn core dom (pa / 128) (pa % 128) bytes).1) ∧
  (∀ (fn l : Nat) (d : List Byte) (s : State), s.lineAbsent l = false → d.length = 128 → (s.homeWrite fn 15 l d).2 = .ok ∧ (s.homeWrite fn 15 l d).1.stored l = d ∧ (∀ m, m ≠ l → (s.homeWrite fn 15 l d).1.stored m = s.stored m) ∧
        ((s.homeWrite fn 15 l d).1.homeRead 0 fn 0 15 l).2 = (.ok, d)) ∧
  (∀ (s : State), s.Awake 0x300 → s.on SCRUB_CTRL_EN = true → s.quiet 0x300 = false → s.quiet (0x301 + stackOf (2 * s.get SCRUB_POS)) = false → s.mem.scrubHalf = false → exec .scrubStep s =
         .next (let u := s.scrubLine (2 * s.get SCRUB_POS); { u with mem := { u.mem with scrubHalf := true } })) ∧
  (∀ (s : State), s.Awake 0x300 → s.on SCRUB_CTRL_EN = true → s.quiet 0x300 = false → s.quiet (0x301 + stackOf (2 * s.get SCRUB_POS + 1)) = false → s.mem.scrubHalf = true → Runs .scrubStep s (fun t => t.mem.scrubHalf = false ∧
        (s.get SCRUB_POS + 1 < 603979776 → t.get SCRUB_POS = s.get SCRUB_POS + 1) ∧ (603979776 ≤ s.get SCRUB_POS + 1 → t.get SCRUB_POS = 0 ∧ t.shows 0 0x300 2 = true)))

/-- O25, R305, R306, R307, R309, R319, R321, R322, R325, R326, R327. LOAD_CUR in OFF and LOAD_NEXT in ACTIVE or NEXT_LOADED derive the key set of their secret and generation, REKEY_START in NEXT_LOADED starts the sweep, DISABLE erases the keys of a domain that no segment names; any other is refused with BAD_PARAM. The completion installs the set. A fill writes zeros line by line. A pop reads the oldest log entry. -/
def Obligations.ProtectionDomains : Prop :=
  (∀ (fn d g : Nat) (k : KeySlot) (s : State), s.Reaches fn 0x310 → d < 15 → s.on (DOM_STAT_BUSY d) = false → s.get (DOM_STAT_STATE d) = 0 → s.domOn 4 = true → s.loadWaits = false → s.domSecret d = .found g k → exec (.loadCur fn d) s = .next (s.domBusy d 1 .ok (s.deriveKeys k.key d (s.get (DOM_CFG_GEN d))))) ∧
  (∀ (fn d g : Nat) (k : KeySlot) (s : State), s.Reaches fn 0x310 → d < 15 → s.on (DOM_STAT_BUSY d) = false → s.get (DOM_STAT_STATE d) = 1 ∨ s.get (DOM_STAT_STATE d) = 2 → s.domOn 4 = true → s.loadWaits = false → s.domSecret d = .found g k → exec (.loadNext fn d) s = .next (s.domBusy d 2 .ok (s.deriveKeys k.key d ((s.get (DOM_CFG_GEN d) + 1) % 256)))) ∧
  (∀ (d op : Nat) (ks : List Byte) (st : Status) (s : State), d < 15 → ((s.domBusy d op st ks).domKeys d).busy = some (op, st, ks) ∧ (s.domBusy d op st ks).on (DOM_STAT_BUSY d) = true) ∧
  (∀ (fn d : Nat) (s : State), s.Reaches fn 0x310 → d < 15 → s.on (DOM_STAT_BUSY d) = false → s.get (DOM_STAT_STATE d) = 2 → Runs (.rekeyStart fn d) s (fun t => t.get (DOM_STAT_STATE d) = 3 ∧ t.pair (RK_PTR_LO d) (RK_PTR_HI d) = 0 ∧ t.get (RK_LINES d) = 0 ∧ t.get (DOM_STAT_RESULT d) = 0 ∧
        t.domKeys d = s.domKeys d ∧ OnlyRegs [DOM_STAT_STATE d, RK_PTR_LO d, RK_PTR_HI d, RK_LINES d, DOM_STAT_RESULT d] s t ∧ OnlyParts [.regs] s t)) ∧
  (∀ (fn d : Nat) (s : State), s.Reaches fn 0x310 → d < 15 → s.on (DOM_STAT_BUSY d) = false → s.get (DOM_STAT_STATE d) ≠ 3 → s.domInUse d = false → Runs (.domDisable fn d) s (fun t => t.get (DOM_STAT_STATE d) = 0 ∧ (t.domKeys d).cur = [] ∧ (t.domKeys d).next = [] ∧ t.on (DOM_STAT_BUSY d) = true ∧
        (t.domKeys d).busy = some (4, .ok, []) ∧ OnlyRegs [DOM_STAT_STATE d, DOM_STAT_BUSY d] s t)) ∧
  (∀ (fn d : Nat) (s : State), s.Reaches fn 0x310 → d < 15 → s.on (DOM_STAT_BUSY d) = true → exec (.loadCur fn d) s = .next (s.domRefused fn d 1) ∧ exec (.loadNext fn d) s = .next (s.domRefused fn d 2) ∧ exec (.rekeyStart fn d) s = .next (s.domRefused fn d 3) ∧
        exec (.domDisable fn d) s = .next (s.domRefused fn d 4)) ∧
  (∀ (d op : Nat) (st : Status) (ks : List Byte) (s : State), s.Awake 0x310 → d < 15 → (s.domKeys d).busy = some (op, st, ks) → Runs (.domCmdDone d) s (fun t => t.on (DOM_STAT_BUSY d) = false ∧ t.get (DOM_STAT_RESULT d) = st.code ∧ (t.domKeys d).busy = none ∧ t.shows 0 0x310 5 = true ∧
        (st = .ok ∧ op = 1 → (t.domKeys d).cur = ks ∧ t.get (DOM_STAT_STATE d) = 1) ∧
        (st = .ok ∧ op = 2 → (t.domKeys d).next = ks ∧ (t.domKeys d).cur = (s.domKeys d).cur ∧ t.get (DOM_STAT_STATE d) = 2) ∧
        (st ≠ .ok → (t.domKeys d).cur = (s.domKeys d).cur ∧ (t.domKeys d).next = (s.domKeys d).next ∧ t.get (DOM_STAT_STATE d) = s.get (DOM_STAT_STATE d)))) ∧
  (∀ (d : Nat) (s : State), s.Awake 0x310 → s.get (DOM_STAT_STATE d) = 3 → s.get (RK_BW d) ≠ 0 → s.quiet 0x310 = false → s.nextDomLine d (s.rkLine d) = none → exec (.rekeySweepLine d) s = .next (s.rekeyDone d)) ∧
  (∀ (d : Nat) (s : State), d < 15 → ((s.rekeyDone d).domKeys d).cur = (s.domKeys d).next ∧ ((s.rekeyDone d).domKeys d).next = [] ∧ (s.rekeyDone d).get (DOM_CFG_GEN d) = (s.get (DOM_CFG_GEN d) + 1) % 256 ∧
        (s.rekeyDone d).get (DOM_STAT_STATE d) = 1 ∧ (s.rekeyDone d).shows 0 0x310 3 = true) ∧
  (∀ (d l fn : Nat) (s : State), s.Awake 0x310 → d < 15 → s.get (DOM_STAT_STATE d) = 3 → s.get (RK_BW d) ≠ 0 → s.quiet 0x310 = false → s.nextDomLine d (s.rkLine d) = some (l, fn) → s.lineHeld l = false → exec (.rekeySweepLine d) s = .next
        (let s2 := ((s.sweepRead d l fn).1.setPair (RK_PTR_LO d) (RK_PTR_HI d) ((l + 1) * 128)).add (RK_LINES d) 1
         let s3 := match (s.sweepRead d l fn).2 with | some b => (s2.homeWrite fn d l b).1 | none => s2
         if (s3.nextDomLine d (l + 1)).isNone then s3.rekeyDone d else s3)) ∧
  (∀ (fn : Nat) (s : State), s.Reaches fn 0x310 → s.on FILL_CTRL_BUSY = false → 0 < s.get FILL_LEN → s.pair FILL_PA_LO FILL_PA_HI + s.get FILL_LEN * 2 ^ 21 ≤ 144 * 2 ^ 30 → s.get FILL_DOM = 15 ∨ s.get (DOM_STAT_STATE (s.get FILL_DOM)) = 1 → s.get FILL_BW ≠ 0 → Runs (.protFill fn) s (fun t => t.mem.fill = some (s.pair FILL_PA_LO FILL_PA_HI / 128, s.get FILL_LEN * 16384, s.get FILL_DOM) ∧ t.on FILL_CTRL_BUSY = true ∧ OnlyRegs [FILL_CTRL_BUSY] s t)) ∧
  (∀ (l n d : Nat) (s : State), s.Awake 0x310 → s.quiet 0x310 = false → s.mem.fill = some (l, n, d) → s.lineHeld l = false → 1 < n → exec .protFillLine s = .next (let u := (s.agentWrite 6 0 0 d l 0 (List.replicate 128 0)).1; { u with mem := { u.mem with fill := some (l + 1, n - 1, d) } })) ∧
  (∀ (l n d : Nat) (s : State), s.Awake 0x310 → s.quiet 0x310 = false → s.mem.fill = some (l, n, d) → s.lineHeld l = false → n ≤ 1 → Runs .protFillLine s (fun t => t.mem.fill = none ∧ t.on FILL_CTRL_BUSY = false ∧ t.get FILL_CTRL_RESULT = 0 ∧ t.shows 0 0x310 4 = true)) ∧
  (∀ (fn : Nat) (e : ProtEntry) (es : List ProtEntry) (s : State), s.Reaches fn 0x310 → s.mem.protLog = e :: es → Runs (.plPop fn) s (fun t => t.readData = e.fn + 16 * e.dom + 256 * e.cause + 4096 * e.agent + 65536 * e.core + 2 ^ 31 ∧ t.mem = { s.mem with protLog := es } ∧
        (e.pa < 2 ^ 40 ∧ e.pa % 128 = 0 → t.pair PL_ADDR_LO PL_ADDR_HI = e.pa) ∧ t.get PL_TIME_NS = e.time.ns % 2 ^ 30 ∧ t.get PL_TIME_SEC = e.time.sec % 2 ^ 32 ∧
        OnlyRegs [PL_ADDR_LO, PL_ADDR_HI, PL_TIME_NS, PL_TIME_SEC] s t))

/-- O26, R338, R341, R346, R347, R348, R352, R355, R568. Each command that its rule allows shows OK in RESULT and is carried out: APPLY takes the configuration, clears the valid bits and CUR; FILL and MAN_APPLY start or wait for the items bound to their copy; SWITCH flips CUR in DUAL mode and starts to drain in SINGLE mode; ARM waits for its tick; DISARM ends ARMED. One that is refused shows its status and changes no copy. -/
def Obligations.WeightSetCommands : Prop :=
  (∀ (fn e : Nat) (s : State), s.Reaches fn (0x321 + e) → s.Flowing → e < 8 → s.wsetBusy e = false → s.wsetApplyStatus e = .ok → Runs (.wsetApply fn e) s (fun t => (t.wset e).cfg = (if s.get (WSET_CFG_MODE e) = 0 then none else some (s.wsetRegs e)) ∧ t.get (WSET_VALID0 e) = 0 ∧ t.get (WSET_VALID1 e) = 0 ∧
        t.get (WSET_STAT_CUR e) = 0 ∧ t.get (WSET_STAT_STATE e) = b2n (s.get (WSET_CFG_MODE e) != 0) ∧ t.get (WSET_STAT_RESULT e) = 0 ∧
        (s.get (WSET_STAT_CUR e) ≠ 0 → t.get (SW_TIME_NS e) = s.time.ns % 2 ^ 30 ∧ t.get CHIP_EPOCH = (s.get CHIP_EPOCH + 1) % 2 ^ 32) ∧
        OnlyRegs ([WSET_VALID0 e, WSET_VALID1 e, WSET_STAT_CUR e, WSET_STAT_STATE e, WSET_STAT_RESULT e, SW_TIME_NS e, SW_TIME_SEC e, CHIP_EPOCH] ++ (List.range 16).map CORE_EPOCH) s t)) ∧
  (∀ (fn e : Nat) (s : State), s.Reaches fn (0x321 + e) → s.Flowing → e < 8 → s.wsetBusy e = false → s.wsetApplyStatus e ≠ .ok → exec (.wsetApply fn e) s = .next (s.wsetError e 1 0 0 0 (s.wsetApplyStatus e))) ∧
  (∀ (fn e copy : Nat) (c : SetCfg) (s : State), s.Reaches fn (0x321 + e) → s.Flowing → e < 8 → s.wsetBusy e = false → s.copyStatus e (copy % 2) = .ok → (s.wset e).cfg = some c → exec (.wsetFill fn e copy) s =
        .next ((s.set (WSET_STAT_RESULT e) 0).acceptJob e { op := 2, copy := copy % 2, parts := coresOf (c.cores &&& s.get (WSET_OPCORES e)) })) ∧
  (∀ (fn e copy core ctx : Nat) (s : State), s.Reaches fn (0x321 + e) → s.Flowing → e < 8 → s.wsetBusy e = false → s.manStatus e (copy % 2) (core % 16) (ctx % 16) = .ok → exec (.manApply fn e copy core ctx) s =
        .next ((s.set (WSET_STAT_RESULT e) 0).acceptJob e { op := 6, copy := copy % 2, core := core % 16, ctx := ctx % 16 })) ∧
  (∀ (e : Nat) (j : SetJob) (s : State), s.boundCnt e j.copy ≠ 0 → s.acceptJob e j = s.setJob e (some { j with waiting := true })) ∧
  (∀ (e n : Nat) (j : SetJob) (s : State), e < 8 → s.boundCnt e j.copy = 0 → j.op = 2 → n ∈ j.parts → s.coreOn n = true → (s.acceptJob e j).get (WSET_STAT_STATE e) = 5 ∧
        ((s.acceptJob e j).wset e).job = some { j with parts := j.parts.filter s.coreOn, waiting := false }) ∧
  (∀ (fn e : Nat) (c : SetCfg) (s : State), s.Reaches fn (0x321 + e) → s.Flowing → e < 8 → s.wsetBusy e = false → (s.wset e).cfg = some c → c.mode = 2 → (coresOf c.cores).all (fun n => !s.coreOn n || s.holds e (1 - s.get (WSET_STAT_CUR e)) n) = true → Runs (.wsetSwitch fn e) s (fun t => t.get (WSET_STAT_CUR e) = 1 - s.get (WSET_STAT_CUR e) ∧
        t.get (WSET_STAT_STATE e) = s.restState e ∧ t.get (SW_CNT e) = (s.get (SW_CNT e) + 1) % 2 ^ 32 ∧ t.get CHIP_EPOCH = (s.get CHIP_EPOCH + 1) % 2 ^ 32 ∧ t.get (SW_TIME_NS e) = s.time.ns % 2 ^ 30 ∧
        t.shows 0 (0x321 + e) 0 = true ∧ (∀ k, t.get (s.validField e k) = s.get (s.validField e k)))) ∧
  (∀ (fn e : Nat) (c : SetCfg) (s : State), s.Reaches fn (0x321 + e) → s.Flowing → e < 8 → s.wsetBusy e = false → (s.wset e).cfg = some c → c.mode = 2 → (coresOf c.cores).all (fun n => !s.coreOn n || s.holds e (1 - s.get (WSET_STAT_CUR e)) n) = false → exec (.wsetSwitch fn e) s = .next (s.wsetError e 3 0 0 0 .badParam)) ∧
  (∀ (fn e : Nat) (c : SetCfg) (s : State), s.Reaches fn (0x321 + e) → s.Flowing → e < 8 → s.wsetBusy e = false → (s.wset e).cfg = some c → c.mode ≠ 2 → Runs (.wsetSwitch fn e) s (fun t => t.get (WSET_STAT_STATE e) = 3 ∧ t.get (WSET_STAT_CUR e) = s.get (WSET_STAT_CUR e) ∧ t.get (WSET_STAT_RESULT e) = 0)) ∧
  (∀ (fn e : Nat) (s : State), s.Reaches fn (0x321 + e) → s.Flowing → e < 8 → s.wsetBusy e = false → (s.wset e).cfg.isSome = true → s.deliveredTick < s.pair (SW_TICK_LO e) (SW_TICK_HI e) → Runs (.wsetArm fn e) s (fun t => t.get (WSET_STAT_STATE e) = 2 ∧ (t.wset e).target = s.pair (SW_TICK_LO e) (SW_TICK_HI e) ∧
        t.get (WSET_STAT_CUR e) = s.get (WSET_STAT_CUR e) ∧ t.get (WSET_STAT_RESULT e) = 0)) ∧
  (∀ (fn e : Nat) (s : State), s.Reaches fn (0x321 + e) → s.Flowing → e < 8 → s.get (WSET_STAT_STATE e) = 2 → Runs (.wsetDisarm fn e) s (fun t => t.get (WSET_STAT_STATE e) = s.restState e ∧ t.get (WSET_STAT_RESULT e) = 0 ∧ OnlyRegs [WSET_STAT_STATE e, WSET_STAT_RESULT e] s t)) ∧
  (∀ (fn e : Nat) (s : State), s.Reaches fn (0x321 + e) → s.Flowing → s.wsetBusy e = true → exec (.wsetApply fn e) s = .next (s.wsetError e 1 0 0 0 .badParam) ∧ exec (.wsetSwitch fn e) s = .next (s.wsetError e 3 0 0 0 .badParam) ∧
        exec (.wsetArm fn e) s = .next (s.wsetError e 4 0 0 0 .badParam))

/-- O27, R338, R341, R342, R343, R345, R347, R354. A waiting FILL or MAN_APPLY starts once no item is bound to its copy. A part that is read, checked and written sets its core's valid bit; the last part of a fill ends it, READY, or FAILED still where a reload failed before and the fill is not of the current copy. A SINGLE set that has drained reloads every core; when every part has ended CUR flips and the set is READY, or FAILED. A manifest is applied entry by entry. -/
def Obligations.WeightSetFillsAndReloads : Prop :=
  (∀ (e : Nat) (j : SetJob) (s : State), s.Awake (0x321 + e) → (s.wset e).job = some j → j.waiting = true → s.boundCnt e j.copy = 0 → exec (.wsetCopyFreed e) s = .next (s.startJob e j)) ∧
  (∀ (e core : Nat) (src : ReadOutcome) (j : SetJob) (c : SetCfg) (s : State), s.Awake (0x321 + e) → e < 8 → (s.wset e).job = some j → (s.wset e).cfg = some c → j.waiting = false → j.op ≠ 6 → core ∈ j.parts → s.setQuiet e = false → s.coreOn core = true → s.fillHeld e j.copy core c = false → (s.fillPart e j.copy core c src).2 = .ok → (j.parts.filter (fun n => n != core)) ≠ [] → Runs (.fillPartDone e core src) s (fun t => (t.wset e).job = some { j with parts := j.parts.filter (fun n => n != core), st := j.st, stCore := if j.st = .ok then core else j.stCore } ∧
        t = ((s.fillPart e j.copy core c src).1.setHolds e j.copy core true).setJob e (t.wset e).job)) ∧
  (∀ (e core : Nat) (src : ReadOutcome) (j : SetJob) (c : SetCfg) (s : State), s.Awake (0x321 + e) → e < 8 → (s.wset e).job = some j → (s.wset e).cfg = some c → j.waiting = false → j.op = 2 → j.parts = [core] → j.st = .ok → s.setQuiet e = false → s.coreOn core = true → s.fillHeld e j.copy core c = false → (s.fillPart e j.copy core c src).2 = .ok → Runs (.fillPartDone e core src) s (fun t => (t.wset e).job = none ∧ t.get (WSET_STAT_STATE e) = (if j.copy = s.get (WSET_STAT_CUR e) then 1 else s.restState e) ∧ t.get (WSET_STAT_RESULT e) = 0 ∧ t.shows 0 (0x321 + e) 1 = true)) ∧
  (∀ (e : Nat) (c : SetCfg) (s : State), s.Awake (0x321 + e) → e < 8 → (s.wset e).cfg = some c → s.get (WSET_STAT_STATE e) = 3 → s.boundCnt e (s.get (WSET_STAT_CUR e)) = 0 → Runs (.wsetDrained e) s (fun t => t.get (WSET_STAT_STATE e) = 4 ∧ t.shows 0 (0x321 + e) 4 = true ∧
        (t.wset e).job = some { op := 3, copy := 1 - s.get (WSET_STAT_CUR e), parts := (coresOf c.cores).filter s.coreOn })) ∧
  (∀ (e : Nat) (j : SetJob) (s : State), s.Awake (0x321 + e) → e < 8 → (s.wset e).job = some j → j.op = 3 → j.parts = [] → Runs (.reloadDone e) s (fun t => (t.wset e).job = none ∧ t.get (WSET_STAT_CUR e) = 1 - s.get (WSET_STAT_CUR e) ∧ t.get (WSET_STAT_RESULT e) = j.st.code ∧
        t.get (WSET_STAT_STATE e) = (if j.st = .ok then 1 else 6) ∧ (j.st = .ok → t.get (SW_CNT e) = (s.get (SW_CNT e) + 1) % 2 ^ 32 ∧ t.shows 0 (0x321 + e) 0 = true))) ∧
  (∀ (e : Nat) (srcs : List ReadOutcome) (j : SetJob) (c : SetCfg) (s : State), s.Awake (0x321 + e) → (s.wset e).job = some j → (s.wset e).cfg = some c → j.op = 6 → j.waiting = false → s.setQuiet e = false → (s.coreOn j.core && s.manHeld e j.core) = false → exec (.manDone e srcs) s = .next (s.manEnds e j c srcs)) ∧
  (∀ (e : Nat) (j : SetJob) (c : SetCfg) (img : Image) (srcs : List ReadOutcome) (s : State), e < 8 → s.coreOn j.core = true → Map.find s.work.images (j.core * 16 + j.ctx) = some img → ((s.setJob e none).manifest (s.setHolder e) j.core (c.baseOf j.copy) c.len img srcs img.manCnt 0).2.1 = .ok →
        (s.manEnds e j c srcs).get (WSET_STAT_STATE e) = s.restState e ∧ (s.manEnds e j c srcs).get (WSET_STAT_RESULT e) = 0 ∧ (s.manEnds e j c srcs).shows 0 (0x321 + e) 2 = true)

/-- O28, R13, R367, R368, R376. A descriptor that passes its checks, finds its key and reads its operands OK delivers its output: GCM ciphertext and tag or plaintext (AUTH_FAIL and zeros on a tag mismatch), CTR, XTS, SHA-256, HMAC; HMAC_CHK writes nothing; RANDOM delivers bytes of the generator; NOP, and a LEN of 0 of a data opcode, complete OK with no work. -/
def Obligations.SymmetricDescriptors : Prop :=
  (∀ (id : Nat) (d : Desc) (s : State), DescRuns s id 0 d → Passes d [] → exec (.descNop id) s = .next (s.endDesc d .ok 0 0)) ∧
  (∀ (id : Nat) (d : Desc) (g : Nat) (k : KeySlot) (src aux : ReadOutcome) (s : State), DescRuns s id 1 d → Passes d (s.dataChecks d (d.len) (d.len + d.p0) ++ spaceChecks d.auxSp d.aux 24 ++ gcmChecks d ++ s.chainReads d d.auxSp (d.atWork d.auxLen) 36) → s.findKey d.fn d.key [1] = .found g k → s.ranges d (d.len) (d.len + d.p0) = none → d.len ≠ 0 → (source s d (d.len) src).2.1 = .ok → (auxiliary (source s d (d.len) src).1 d aux).2.1 = .ok → (output (auxiliary (source s d (d.len) src).1 d aux).1 d ((gcmEncrypt k.key (d.iv.take 12) (auxiliary (source s d (d.len) src).1 d aux).2.2 (source s d (d.len) src).2.2).1 ++ (gcmEncrypt k.key (d.iv.take 12) (auxiliary (source s d (d.len) src).1 d aux).2.2 (source s d (d.len) src).2.2).2.take d.p0)).2 = .ok → exec (.gcmEnc id src aux) s = .next (delivered (auxiliary (source s d (d.len) src).1 d aux).1 d ((gcmEncrypt k.key (d.iv.take 12) (auxiliary (source s d (d.len) src).1 d aux).2.2 (source s d (d.len) src).2.2).1 ++ (gcmEncrypt k.key (d.iv.take 12) (auxiliary (source s d (d.len) src).1 d aux).2.2 (source s d (d.len) src).2.2).2.take d.p0))) ∧
  (∀ (id : Nat) (d : Desc) (g : Nat) (k : KeySlot) (src aux : ReadOutcome) (s : State), DescRuns s id 2 d → Passes d (s.dataChecks d (d.atWork (d.len + d.p0)) d.len ++ spaceChecks d.auxSp d.aux 24 ++ gcmChecks d ++ s.chainReads d d.auxSp (d.atWork d.auxLen) 36) → s.findKey d.fn d.key [1] = .found g k → s.ranges d (d.len + d.p0) (d.len) = none → d.len ≠ 0 → (source s d (d.len + d.p0) src).2.1 = .ok → (auxiliary (source s d (d.len + d.p0) src).1 d aux).2.1 = .ok → (output (auxiliary (source s d (d.len + d.p0) src).1 d aux).1 d (if (gcmDecrypt k.key (d.iv.take 12) (auxiliary (source s d (d.len + d.p0) src).1 d aux).2.2 ((source s d (d.len + d.p0) src).2.2.take d.len)).2.take d.p0 = (source s d (d.len + d.p0) src).2.2.drop d.len then (gcmDecrypt k.key (d.iv.take 12) (auxiliary (source s d (d.len + d.p0) src).1 d aux).2.2 ((source s d (d.len + d.p0) src).2.2.take d.len)).1 else List.replicate d.len 0)).2 = .ok → exec (.gcmDec id src aux) s = .next (if (gcmDecrypt k.key (d.iv.take 12) (auxiliary (source s d (d.len + d.p0) src).1 d aux).2.2 ((source s d (d.len + d.p0) src).2.2.take d.len)).2.take d.p0 = (source s d (d.len + d.p0) src).2.2.drop d.len then delivered (auxiliary (source s d (d.len + d.p0) src).1 d aux).1 d (gcmDecrypt k.key (d.iv.take 12) (auxiliary (source s d (d.len + d.p0) src).1 d aux).2.2 ((source s d (d.len + d.p0) src).2.2.take d.len)).1 else (output (auxiliary (source s d (d.len + d.p0) src).1 d aux).1 d (List.replicate d.len 0)).1.endDesc d .authFail 0 0)) ∧
  (∀ (id : Nat) (d : Desc) (g : Nat) (k : KeySlot) (src : ReadOutcome) (s : State), DescRuns s id 3 d → Passes d (s.dataChecks d d.len d.len) → s.findKey d.fn d.key [1] = .found g k → s.ranges d (d.len) (d.len) = none → d.len ≠ 0 → (source s d (d.len) src).2.1 = .ok → (output (source s d (d.len) src).1 d (aesCtr k.key d.iv (source s d (d.len) src).2.2)).2 = .ok → exec (.ctr id src) s = .next (delivered (source s d (d.len) src).1 d (aesCtr k.key d.iv (source s d (d.len) src).2.2))) ∧
  (∀ (id : Nat) (d : Desc) (g : Nat) (k : KeySlot) (src : ReadOutcome) (s : State), DescRuns s id 4 d → Passes d (s.dataChecks d d.len d.len ++ xtsChecks d) → s.findKey d.fn d.key [2] = .found g k → s.ranges d (d.len) (d.len) = none → d.len ≠ 0 → (source s d (d.len) src).2.1 = .ok → (output (source s d (d.len) src).1 d (xtsEncrypt (k.key.take 32) (k.key.drop 32) d.iv (source s d (d.len) src).2.2)).2 = .ok → exec (.xtsEnc id src) s = .next (delivered (source s d (d.len) src).1 d (xtsEncrypt (k.key.take 32) (k.key.drop 32) d.iv (source s d (d.len) src).2.2))) ∧
  (∀ (id : Nat) (d : Desc) (g : Nat) (k : KeySlot) (src : ReadOutcome) (s : State), DescRuns s id 5 d → Passes d (s.dataChecks d d.len d.len ++ xtsChecks d) → s.findKey d.fn d.key [2] = .found g k → s.ranges d (d.len) (d.len) = none → d.len ≠ 0 → (source s d (d.len) src).2.1 = .ok → (output (source s d (d.len) src).1 d (xtsDecrypt (k.key.take 32) (k.key.drop 32) d.iv (source s d (d.len) src).2.2)).2 = .ok → exec (.xtsDec id src) s = .next (delivered (source s d (d.len) src).1 d (xtsDecrypt (k.key.take 32) (k.key.drop 32) d.iv (source s d (d.len) src).2.2))) ∧
  (∀ (id : Nat) (d : Desc) (src : ReadOutcome) (s : State), DescRuns s id 8 d → Passes d (s.dataChecks d d.len 32) → s.ranges d d.len 32 = none → d.len ≠ 0 → (source s d (d.len) src).2.1 = .ok → (output (source s d (d.len) src).1 d (sha256 (source s d (d.len) src).2.2)).2 = .ok → exec (.sha256 id src) s = .next (delivered (source s d (d.len) src).1 d (sha256 (source s d (d.len) src).2.2))) ∧
  (∀ (id : Nat) (d : Desc) (g : Nat) (k : KeySlot) (src : ReadOutcome) (s : State), DescRuns s id 9 d → Passes d (s.dataChecks d d.len d.p0 ++ [(decide (d.p0 < 16) || decide (32 < d.p0), .badParam, 41)]) → s.findKey d.fn d.key [3] = .found g k → s.ranges d (d.len) (d.p0) = none → d.len ≠ 0 → (source s d (d.len) src).2.1 = .ok → (output (source s d (d.len) src).1 d ((hmac256 k.key (source s d (d.len) src).2.2).take d.p0)).2 = .ok → exec (.hmac id src) s = .next (delivered (source s d (d.len) src).1 d ((hmac256 k.key (source s d (d.len) src).2.2).take d.p0))) ∧
  (∀ (id : Nat) (d : Desc) (g : Nat) (k : KeySlot) (src aux : ReadOutcome) (s : State), DescRuns s id 10 d → Passes d (spaceChecks d.srcSp d.src 8 ++ spaceChecks d.auxSp d.aux 24 ++ s.chainReads d d.srcSp d.len 32 ++ [(decide (d.auxLen < 16) || decide (32 < d.auxLen), .badParam, 36)] ++ s.chainReads d d.auxSp (d.atWork d.auxLen) 36) → s.findKey d.fn d.key [3] = .found g k → d.len ≠ 0 → firstFail (s.rangeCheck d d.srcSp d.src d.len false ++ s.rangeCheck d d.auxSp d.aux d.auxLen false) = none → (source s d (d.len) src).2.1 = .ok → (auxiliary (source s d (d.len) src).1 d aux).2.1 = .ok → exec (.hmacChk id src aux) s = .next ((auxiliary (source s d (d.len) src).1 d aux).1.endDesc d (if (hmac256 k.key (source s d (d.len) src).2.2).take d.auxLen = (auxiliary (source s d (d.len) src).1 d aux).2.2 then .ok else .authFail) 0 0)) ∧
  (∀ (id : Nat) (d : Desc) (s : State), DescRuns s id 16 d → Passes d (spaceChecks d.dstSp d.dst 16 ++ [(decide (65536 < d.len), .badParam, 32)] ++ chainWrites d d.len) → d.len ≠ 0 → firstFail (s.rangeCheck d d.dstSp d.dst d.len true) = none → s.on RNG_STAT_OK = true → (output (s.random d.len).2 d ((s.random d.len).1.getD [])).2 = .ok → exec (.random id) s = .next (delivered (s.random d.len).2 d ((s.drawRandom d.len).1))) ∧
  (∀ (id : Nat) (d : Desc) (src : ReadOutcome) (s : State), DescRuns s id 8 d → Passes d (s.dataChecks d d.len 32) → d.len = 0 → exec (.sha256 id src) s = .next (s.endDesc d .ok 0 0))

/-- O29, R367, R377, R378, R379, R381, R382, R383, R406, R407. A key that is loaded, unwrapped or derived goes into its slot at once (symmetric) or to the public-key engine to be checked; a symmetric key is generated from the generator's bytes, an asymmetric one by the engine; KEY_WRAP delivers the blob of a WRAPPABLE slot, KEY_CLEAR empties a slot, KEY_INFO delivers its record. A class outside the table is refused with BAD_DESC. -/
def Obligations.KeyDescriptors : Prop :=
  (∀ (id z : Nat) (d : Desc) (src : ReadOutcome) (s : State), DescRuns s id 24 d → Passes d (spaceChecks d.srcSp d.src 8 ++ classCheck d ++ [(!lenFits d.p0 d.len, .badParam, 32)] ++ s.chainReads d d.srcSp d.len 32) → s.target d = .ok z → s.on (FN_WIN_PLAIN_OK d.fn) = true ∨ d.p0 = 9 ∨ d.p0 = 11 → firstFail (s.rangeCheck d d.srcSp d.src d.len false) = none → (source s d (d.len) src).2.1 = .ok → asymmetric d.p0 = false → exec (.keyLoad id src) s = .next (((source s d (d.len) src).1.writeSlot z d.p0 (bitOf ((d.iv.headD 0).toNat) 0) (source s d (d.len) src).2.2 []).endDesc d .ok 0 0)) ∧
  (∀ (id z : Nat) (d : Desc) (src : ReadOutcome) (s : State), DescRuns s id 24 d → Passes d (spaceChecks d.srcSp d.src 8 ++ classCheck d ++ [(!lenFits d.p0 d.len, .badParam, 32)] ++ s.chainReads d d.srcSp d.len 32) → s.target d = .ok z → s.on (FN_WIN_PLAIN_OK d.fn) = true ∨ d.p0 = 9 ∨ d.p0 = 11 → firstFail (s.rangeCheck d d.srcSp d.src d.len false) = none → (source s d (d.len) src).2.1 = .ok → asymmetric d.p0 = true → exec (.keyLoad id src) s = .next (queued (source s d (d.len) src).1 d { use := .desc d.id, fn := d.fn, op := 0x18, key := (source s d (d.len) src).2.2, cls := d.p0, target := z, wrappable := bitOf ((d.iv.headD 0).toNat) 0, long := d.p0 == clsRsa })) ∧
  (∀ (id z g : Nat) (d : Desc) (k : KeySlot) (src : ReadOutcome) (s : State), DescRuns s id 25 d → Passes d (spaceChecks d.srcSp d.src 8 ++ classCheck d ++ [(decide (d.len = 0), .badParam, 32)] ++ s.chainReads d d.srcSp d.len 32) → s.findKey d.fn d.key [4] = .found g k → s.target d = .ok z → firstFail (s.rangeCheck d d.srcSp d.src d.len false) = none → (source s d (d.len) src).2.1 = .ok → exec (.keyUnwrap id src) s = .next (match kwpUnwrap k.key (source s d (d.len) src).2.2 with
         | none => (source s d (d.len) src).1.endDesc d .authFail 0 0
         | some m => if lenFits d.p0 m.length = true then keyInstalled (source s d (d.len) src).1 d z (bitOf ((d.iv.headD 0).toNat) 0) m else (source s d (d.len) src).1.endDesc d .badParam 0 32)) ∧
  (∀ (id g h : Nat) (d : Desc) (k x : KeySlot) (s : State), DescRuns s id 26 d → Passes d (spaceChecks d.dstSp d.dst 16 ++ chainWrites d 0) → s.findKey d.fn d.key [4] = .found g k → s.findKey d.fn d.p1 [1, 2, 3, 4, 5, 6, 7, 8, 9, 10, 11, 12, 13] = .found h x → x.wrappable = true → firstFail (s.rangeCheck d d.dstSp d.dst (kwpWrap k.key x.key).length true) = none → (output s d (kwpWrap k.key x.key)).2 = .ok → exec (.keyWrap id) s = .next (delivered s d (kwpWrap k.key x.key))) ∧
  (∀ (id z : Nat) (d : Desc) (s : State), DescRuns s id 27 d → Passes d (classCheck d ++ (if asymmetric d.p0 then spaceChecks d.dstSp d.dst 16 ++ chainWrites d 0 else [])) → s.target d = .ok z → asymmetric d.p0 = false → s.on RNG_STAT_OK = true → exec (.keyGen id) s = .next ((((s.openLen d.p0).2.random (s.openLen d.p0).1).2.writeSlot z d.p0 (bitOf ((d.iv.headD 0).toNat) 0) (((s.openLen d.p0).2.drawRandom (s.openLen d.p0).1).1) []).endDesc d .ok 0 0)) ∧
  (∀ (id z : Nat) (d : Desc) (s : State), DescRuns s id 27 d → Passes d (classCheck d ++ (if asymmetric d.p0 then spaceChecks d.dstSp d.dst 16 ++ chainWrites d 0 else [])) → s.target d = .ok z → asymmetric d.p0 = true → d.p0 ≠ 9 ∧ d.p0 ≠ 11 → firstFail (s.rangeCheck d d.dstSp d.dst (if d.p0 = 8 then 64 else if d.p0 = clsRsa then 384 else 32) true) = none → exec (.keyGen id) s = .next (queued s d { use := .desc d.id, fn := d.fn, op := 0x1B, cls := d.p0, target := z, wrappable := bitOf ((d.iv.headD 0).toNat) 0, long := d.p0 == clsRsa })) ∧
  (∀ (id z g : Nat) (d : Desc) (k : KeySlot) (src aux : ReadOutcome) (s : State), DescRuns s id 28 d → Passes d (spaceChecks d.srcSp d.src 8 ++ spaceChecks d.auxSp d.aux 24 ++ classCheck d ++ [(decide (d.p0 = clsRsa), .badParam, 41), (decide (256 < d.len), .badParam, 32), (decide (64 < d.auxLen), .badParam, 36)] ++ s.chainReads d d.srcSp d.len 32 ++ s.chainReads d d.auxSp d.auxLen 36) → s.findKey d.fn d.key [5] = .found g k → s.target d = .ok z → firstFail (s.rangeCheck d d.srcSp d.src d.len false ++ s.rangeCheck d d.auxSp d.aux d.auxLen false) = none → (source s d (d.len) src).2.1 = .ok → (auxiliary (source s d (d.len) src).1 d aux).2.1 = .ok → exec (.keyDerive id src aux) s = .next (keyInstalled ((auxiliary (source s d (d.len) src).1 d aux).1.openLen d.p0).2 d z false (hkdf (auxiliary (source s d (d.len) src).1 d aux).2.2 k.key (source s d (d.len) src).2.2 ((auxiliary (source s d (d.len) src).1 d aux).1.openLen d.p0).1))) ∧
  (∀ (id g : Nat) (d : Desc) (s : State), DescRuns s id 29 d → Passes d [] → s.globalSlot d.fn d.p1 = some g → exec (.keyClear id) s = .next ((s.clearSlot g).endDesc d .ok 0 0)) ∧
  (∀ (id g : Nat) (d : Desc) (s : State), DescRuns s id 30 d → Passes d (spaceChecks d.dstSp d.dst 16 ++ chainWrites d 64) → s.globalSlot d.fn d.p1 = some g → firstFail (s.rangeCheck d d.dstSp d.dst 64 true) = none → (s.slot g).bad = false → (output s d (keyInfo (s.slot g))).2 = .ok → exec (.keyInfo id) s = .next (delivered s d (keyInfo (s.slot g))))

/-- O30, R361, R362, R363, R369, R376, R379, R380, R382, R385, R387, R388, R391. SEAL queues the signature of its block's head, SEAL_CHK the check of it once header and digest agree. A doorbell within the ring's bounds moves the index, another raises DB_ERR; enabling a ring zeroes its indexes; the next posted entry is fetched; an ended descriptor's record is written and CQ_PI moves on. A failed generator gives no number until it passes its tests. A window write takes its values where R380 allows. -/
def Obligations.SealsRingsAndGenerator : Prop :=
  (∀ (id g : Nat) (d : Desc) (k : KeySlot) (src : ReadOutcome) (s : State), DescRuns s id 48 d → Passes d ([(decide (1 < d.p0), .badDesc, 41)] ++ spaceChecks d.dstSp d.dst 16 ++ chainWrites d 128 ++ [(decide (d.dst % 128 ≠ 0), .badAddr, 16)]) → s.findKey d.fn d.key [if d.p0 = 0 then 8 else 10] = .found g k → d.len ≠ 0 → firstFail (spaceChecks d.srcSp d.src 8 ++ s.chainReads d d.srcSp d.len 32 ++ s.rangeCheck d d.srcSp d.src d.len false) = none → firstFail (s.rangeCheck d d.dstSp d.dst 128 true) = none → (source s d d.len src).2.1 = .ok → (source s d d.len src).1.on RNG_STAT_OK = true → exec (.sealDesc id src) s = .next (queued (source s d d.len src).1 d (sealJob (.sealDesc d.id (sealedHead s d src)) d.fn d.p0 k (sealedHead s d src)))) ∧
  (∀ (id g : Nat) (d : Desc) (k : KeySlot) (src aux : ReadOutcome) (s : State), DescRuns s id 49 d → Passes d (spaceChecks d.srcSp d.src 8 ++ spaceChecks d.auxSp d.aux 24 ++ s.chainReads d d.srcSp d.len 32 ++ [(decide (d.auxLen ≠ 128), .badParam, 36)] ++ s.chainReads d d.auxSp (d.atWork d.auxLen) 36) → s.findKey d.fn d.key [9, 11] = .found g k → d.len ≠ 0 → firstFail (s.rangeCheck d d.srcSp d.src d.len false ++ s.rangeCheck d d.auxSp d.aux d.auxLen false) = none → (source s d (d.len) src).2.1 = .ok → (auxiliary (source s d (d.len) src).1 d aux).2.1 = .ok → leNat ((auxiliary (source s d (d.len) src).1 d aux).2.2.take 4) = 0x4C414553 → leNat (((auxiliary (source s d (d.len) src).1 d aux).2.2.drop 4).take 1) = 1 → leNat (((auxiliary (source s d (d.len) src).1 d aux).2.2.drop 6).take 1) = 0 → leNat (((auxiliary (source s d (d.len) src).1 d aux).2.2.drop 5).take 1) = (if k.cls = 9 then 0 else 1) → ((auxiliary (source s d (d.len) src).1 d aux).2.2.drop 0x20).take 32 = sha256 (source s d (d.len) src).2.2 → exec (.sealChk id src aux) s = .next (queued (auxiliary (source s d (d.len) src).1 d aux).1 d (if k.cls = 9 then { use := .sealChk d.id, fn := d.fn, op := 0x21, key := k.key, src := sha256 ((auxiliary (source s d (d.len) src).1 d aux).2.2.take 64), aux := (auxiliary (source s d (d.len) src).1 d aux).2.2.drop 64 }
          else { use := .sealChk d.id, fn := d.fn, op := 0x25, key := k.key, src := (auxiliary (source s d (d.len) src).1 d aux).2.2.take 64, aux := (auxiliary (source s d (d.len) src).1 d aux).2.2.drop 64 }))) ∧
  (∀ (s : State), s.Awake 0x400 → s.on RNG_STAT_OK = true → Runs .rngHealthFail s (fun t => t.on RNG_STAT_OK = false ∧ t.shows 0 0x400 0 = true ∧ OnlyRegs [RNG_STAT_OK] s t)) ∧
  (∀ (s : State), s.Awake 0x400 → s.on RNG_STAT_OK = true → exec .rngReseed s = .next { s with sluice := { s.sluice with requests := 0 } }) ∧
  (∀ (fn : Nat) (s : State), s.Reaches fn 0x400 → s.Flowing → exec (.rngRestart fn) s = .next { s.flag RNG_STAT_OK false with sluice := { s.sluice with restarting := true } }) ∧
  (∀ (s : State), s.Awake 0x400 → s.sluice.restarting = true → exec .rngStartUpTestsPass s = .next { s.flag RNG_STAT_OK true with sluice := { s.sluice with restarting := false, requests := 0 } }) ∧
  (∀ (fn f r p : Nat) (s : State), s.Reaches fn (0x401 + f) → s.Flowing → s.quiet 0x400 = false → s.quiet (0x401 + f) = false → s.on (RQ_CFG_ENABLE f r) = true → exec (.rqDoorbell fn f r p) s = .next (match bell (p % 2 ^ 32) (s.get (RQ_PI f r)) (s.get (RQ_CI f r)) (s.get (RQ_SIZE f r)) with
         | .repeated => s | .accepted => s.set (RQ_PI f r) p | .rejected => (s.raise (0x401 + f) 5).capture (0x401 + f) .badParam r p)) ∧
  (∀ (fn f r p : Nat) (s : State), s.Reaches fn (0x401 + f) → s.Flowing → s.quiet 0x400 = false → s.quiet (0x401 + f) = false → s.on (CQ_CFG_ENABLE f r) = true → exec (.cqDoorbell fn f r p) s = .next (match bellConsume (p % 2 ^ 32) (s.get (CQ_CI f r)) (s.get (CQ_PI f r)) with
         | .repeated => s | .accepted => s.set (CQ_CI f r) p | .rejected => (s.raise (0x401 + f) 5).capture (0x401 + f) .badParam r p)) ∧
  (∀ (fn f r cq : Nat) (s : State), s.Reaches fn (0x401 + f) → f < 9 → r < 4 → s.on (RQ_CFG_ENABLE f r) = false → s.on (CQ_CFG_ENABLE f (cq % 4)) = true → s.get (RQ_SIZE f r) ≠ 0 → Runs (.rqEnable fn f r cq true) s (fun t => t.on (RQ_CFG_ENABLE f r) = true ∧ t.get (RQ_CFG_CQ f r) = cq % 4 ∧
        t.get (RQ_PI f r) = 0 ∧ t.get (RQ_CI f r) = 0 ∧ t.reqRing f r = {} ∧ OnlyRegs [RQ_CFG_CQ f r, RQ_CFG_ENABLE f r, RQ_PI f r, RQ_CI f r] s t)) ∧
  (∀ (fn f r : Nat) (s : State), s.Reaches fn (0x401 + f) → f < 9 → r < 4 → s.on (CQ_CFG_ENABLE f r) = false → s.get (CQ_SIZE f r) ≠ 0 → exec (.cqEnable fn f r true) s = .next (((s.flag (CQ_CFG_ENABLE f r) true).set (CQ_PI f r) 0).set (CQ_CI f r) 0)) ∧
  (∀ (f r : Nat) (es : List ReadOutcome) (s : State), s.Awake 0x400 → s.on (RQ_CFG_ENABLE f r) = true → s.cqFull f (s.get (RQ_CFG_CQ f r)) = false → s.admits f = true → s.quiet 0x400 = false → s.quiet (0x401 + f) = false → s.hostHeld f (s.entryIova f r (s.get (RQ_CI f r))) 64 = false → (requests s f r es).2.1 = .ok → exec (.sluiceFetch f r es) s = .next ((requests s f r es).1.fetchNext f r (requests s f r es).2.2)) ∧
  (∀ (f r : Nat) (e : List Byte) (es : List (List Byte)) (s : State), f < 9 → r < 4 → (s.reqRing f r).chain = none → (s.entryDesc f r e).link = false → (s.entryDesc f r e).once = false → (s.fetchNext f r (e :: es)).sluice.descs = s.sluice.descs ++ [{ s.entryDesc f r e with done := s.sluice.nextDone }] ∧
        (s.fetchNext f r (e :: es)).get (RQ_CI f r) = (s.get (RQ_CI f r) + 1) % 2 ^ 32) ∧
  (∀ (id n dt : Nat) (d : Desc) (st : Status) (s : State), s.Awake 0x400 → s.desc id = some d → d.state = .ended st n dt → s.resetting d.fn = false → s.hostHeld d.fn (s.recordIova d) 32 = false → s.recordDue d = true → d.fn < 9 → d.cq < 4 → Runs (.descComplete id) s (fun t => t.get (CQ_PI d.fn d.cq) = (s.get (CQ_PI d.fn d.cq) + 1) % 2 ^ 32 ∧ t.desc id = none ∧
        t.get SL_DONE_CNT = (s.get SL_DONE_CNT + 1) % 2 ^ 32 ∧ (d.irq = true → t.shows 0 (0x401 + d.fn) d.cq = true))) ∧
  (∀ (fn slot : Nat) (s : State), s.Reaches fn 0x400 → s.Flowing → exec (.slotCmdClear fn slot) s = .next (s.clearSlot (slot % 512))) ∧
  (∀ (slot : Nat) (s : State), (s.slot slot).cls ≠ clsRsa → (s.clearSlot slot).slot slot = {} ∧ (∀ j, j ≠ slot → (s.clearSlot slot).slot j = s.slot j)) ∧
  (∀ (fn base cnt : Nat) (ok : Bool) (s : State), s.Reaches fn 0x400 → (s.page 0x400).lock = false → s.admittedOf 0 = 0 → exec (.fnWinWrite fn 0 base cnt ok) s = .next (s.flag (FN_WIN_PLAIN_OK 0) ok)) ∧
  (∀ (fn f base cnt : Nat) (ok : Bool) (s : State), s.Reaches fn 0x400 → (s.page 0x400).lock = false → 0 < f → f < 9 → base % 16 = 0 → cnt % 16 = 0 → base % 512 + cnt % 1024 ≤ 512 → (∀ g, g < 9 → 0 < g → g ≠ f → cnt % 1024 = 0 ∨ s.get (FN_WIN_CNT g) = 0 ∨ base % 512 + cnt % 1024 ≤ s.get (FN_WIN_BASE g) ∨ s.get (FN_WIN_BASE g) + s.get (FN_WIN_CNT g) ≤ base % 512) → (∀ i, i < 512 → (s.slot i).cls ≠ 0 → (((s.flag (FN_WIN_PLAIN_OK f) ok).set (FN_WIN_BASE f) (base % 512)).set (FN_WIN_CNT f) (cnt % 1024)).slotHolder i = s.slotHolder i) → s.admittedOf f = 0 → Runs (.fnWinWrite fn f base cnt ok) s (fun t => t.get (FN_WIN_BASE f) = base % 512 ∧ t.get (FN_WIN_CNT f) = cnt % 1024 ∧ t.on (FN_WIN_PLAIN_OK f) = ok ∧ OnlyRegs [FN_WIN_BASE f, FN_WIN_CNT f, FN_WIN_PLAIN_OK f] s t))

/-- O31, R394, R395, R396, R397, R398, R399, R400, R401, R403, R408, R409. A public-key descriptor that passes its checks, finds its key and reads its operands OK joins the queue with its operands: signatures and verifications over P-256, loaded curves and Ed25519, ECDH and X25519, RSA, point checks, the loading and clearing of a curve table. A LEN of 0 completes OK with no work. -/
def Obligations.PublicKeyDescriptors : Prop :=
  (∀ (id : Nat) (d : Desc) (g : Nat) (k : KeySlot) (src : ReadOutcome) (s : State), DescRuns s id 32 d → Passes d (p0Checks d 3 [0] ++ s.pkeChecks d (msgOk d) none (some 64)) → s.findKey d.fn d.key [8] = .found g k → d.len ≠ 0 → firstFail (s.rangeCheck d d.srcSp d.src d.len false ++ s.rangeCheck d d.dstSp d.dst (64) true) = none → (source s d (d.len) src).2.1 = .ok → exec (.ecdsaSign id src) s = .next (queued (source s d (d.len) src).1 d { use := .desc d.id, fn := d.fn, op := 0x20, key := k.key, src := digestOf d (source s d (d.len) src).2.2, p0 := d.p0 })) ∧
  (∀ (id : Nat) (d : Desc) (g : Nat) (k : KeySlot) (src aux : ReadOutcome) (s : State), DescRuns s id 33 d → Passes d (p0Checks d 1 [0] ++ s.pkeChecks d (msgOk d) (some (d.auxLen == 64)) none) → s.findKey d.fn d.key [9] = .found g k → d.len ≠ 0 → firstFail (s.rangeCheck d d.srcSp d.src d.len false ++ s.rangeCheck d d.auxSp d.aux d.auxLen false) = none → (source s d (d.len) src).2.1 = .ok → (auxiliary (source s d (d.len) src).1 d aux).2.1 = .ok → exec (.ecdsaVerify id src aux) s = .next (queued (auxiliary (source s d (d.len) src).1 d aux).1 d { use := .desc d.id, fn := d.fn, op := 0x21, key := k.key, src := digestOf d (source s d (d.len) src).2.2, aux := (auxiliary (source s d (d.len) src).1 d aux).2.2, p0 := d.p0 })) ∧
  (∀ (id : Nat) (d : Desc) (src aux : ReadOutcome) (s : State), DescRuns s id 34 d → Passes d (p0Checks d 0x71 [0, 2, 3, 4, 5, 6, 7] ++ s.pkeChecks d (if bitsOf d.p0 4 3 = 0 then msgOk d else !bitOf d.p0 0 || (decide (20 ≤ d.len) && decide (d.len ≤ 64))) (some (d.auxLen == 4 * (s.curve (bitsOf d.p0 4 3)).elim (d.auxLen / 4) (·.2))) none) → d.len ≠ 0 → firstFail (s.rangeCheck d d.srcSp d.src d.len false ++ s.rangeCheck d d.auxSp d.aux d.auxLen false) = none → (source s d (d.len) src).2.1 = .ok → (auxiliary (source s d (d.len) src).1 d aux).2.1 = .ok → exec (.ecdsaVerifyExt id src aux) s = .next (queued (auxiliary (source s d (d.len) src).1 d aux).1 d { use := .desc d.id, fn := d.fn, op := 0x22, src := digestOf d (source s d (d.len) src).2.2, aux := (auxiliary (source s d (d.len) src).1 d aux).2.2, p0 := d.p0, table := bitsOf d.p0 4 3, long := bitsOf d.p0 4 3 != 0 && decide (128 < d.auxLen) })) ∧
  (∀ (id : Nat) (d : Desc) (g : Nat) (k : KeySlot) (src : ReadOutcome) (s : State), DescRuns s id 35 d → Passes d (p0Checks d 1 [0] ++ s.pkeChecks d (d.len == 64) none (some 32)) → s.findKey d.fn d.key [8] = .found g k → bitOf d.p0 0 = false → d.len ≠ 0 → firstFail (s.rangeCheck d d.srcSp d.src d.len false ++ s.rangeCheck d d.dstSp d.dst (32) true) = none → (source s d (d.len) src).2.1 = .ok → exec (.ecdhP256 id src) s = .next (queued (source s d (d.len) src).1 d { use := .desc d.id, fn := d.fn, op := 0x23, key := k.key, src := (source s d (d.len) src).2.2, p0 := d.p0 })) ∧
  (∀ (id : Nat) (d : Desc) (g : Nat) (k : KeySlot) (z : Nat) (src : ReadOutcome) (s : State), DescRuns s id 35 d → Passes d (p0Checks d 1 [0] ++ s.pkeChecks d (d.len == 64) none none) → s.findKey d.fn d.key [8] = .found g k → bitOf d.p0 0 = true → s.globalSlot d.fn d.p1 = some z → d.len ≠ 0 → firstFail (s.rangeCheck d d.srcSp d.src d.len false) = none → (source s d (d.len) src).2.1 = .ok → exec (.ecdhP256 id src) s = .next (queued (source s d (d.len) src).1 d { use := .desc d.id, fn := d.fn, op := 0x23, key := k.key, src := (source s d (d.len) src).2.2, p0 := d.p0, target := z, wrappable := bitOf ((d.iv.headD 0).toNat) 0 })) ∧
  (∀ (id : Nat) (d : Desc) (g : Nat) (k : KeySlot) (src : ReadOutcome) (s : State), DescRuns s id 36 d → Passes d (p0Checks d 0 [0] ++ s.pkeChecks d (decide (d.len ≤ 16384)) none (some 64)) → s.findKey d.fn d.key [10] = .found g k → d.len ≠ 0 → firstFail (s.rangeCheck d d.srcSp d.src d.len false ++ s.rangeCheck d d.dstSp d.dst (64) true) = none → (source s d (d.len) src).2.1 = .ok → exec (.ed25519Sign id src) s = .next (queued (source s d (d.len) src).1 d { use := .desc d.id, fn := d.fn, op := 0x24, key := k.key, src := (source s d (d.len) src).2.2 })) ∧
  (∀ (id : Nat) (d : Desc) (g : Nat) (k : KeySlot) (src aux : ReadOutcome) (s : State), DescRuns s id 37 d → Passes d (p0Checks d 0 [0] ++ s.pkeChecks d (decide (d.len ≤ 16384)) (some (d.auxLen == 64)) none) → s.findKey d.fn d.key [11] = .found g k → d.len ≠ 0 → firstFail (s.rangeCheck d d.srcSp d.src d.len false ++ s.rangeCheck d d.auxSp d.aux d.auxLen false) = none → (source s d (d.len) src).2.1 = .ok → (auxiliary (source s d (d.len) src).1 d aux).2.1 = .ok → exec (.ed25519Verify id src aux) s = .next (queued (auxiliary (source s d (d.len) src).1 d aux).1 d { use := .desc d.id, fn := d.fn, op := 0x25, key := k.key, src := (source s d (d.len) src).2.2, aux := (auxiliary (source s d (d.len) src).1 d aux).2.2 })) ∧
  (∀ (id : Nat) (d : Desc) (src aux : ReadOutcome) (s : State), DescRuns s id 38 d → Passes d (p0Checks d 0 [0] ++ s.pkeChecks d (decide (d.len ≤ 16384)) (some (d.auxLen == 96)) none) → d.len ≠ 0 → firstFail (s.rangeCheck d d.srcSp d.src d.len false ++ s.rangeCheck d d.auxSp d.aux d.auxLen false) = none → (source s d (d.len) src).2.1 = .ok → (auxiliary (source s d (d.len) src).1 d aux).2.1 = .ok → exec (.ed25519VerifyExt id src aux) s = .next (queued (auxiliary (source s d (d.len) src).1 d aux).1 d { use := .desc d.id, fn := d.fn, op := 0x26, src := (source s d (d.len) src).2.2, aux := (auxiliary (source s d (d.len) src).1 d aux).2.2 })) ∧
  (∀ (id : Nat) (d : Desc) (g : Nat) (k : KeySlot) (src : ReadOutcome) (s : State), DescRuns s id 39 d → Passes d (p0Checks d 1 [0] ++ s.pkeChecks d (d.len == 32) none (some 32)) → s.findKey d.fn d.key [12] = .found g k → bitOf d.p0 0 = false → d.len ≠ 0 → firstFail (s.rangeCheck d d.srcSp d.src d.len false ++ s.rangeCheck d d.dstSp d.dst (32) true) = none → (source s d (d.len) src).2.1 = .ok → exec (.x25519 id src) s = .next (queued (source s d (d.len) src).1 d { use := .desc d.id, fn := d.fn, op := 0x27, key := k.key, src := (source s d (d.len) src).2.2, p0 := d.p0 })) ∧
  (∀ (id : Nat) (d : Desc) (g : Nat) (k : KeySlot) (z : Nat) (src : ReadOutcome) (s : State), DescRuns s id 39 d → Passes d (p0Checks d 1 [0] ++ s.pkeChecks d (d.len == 32) none none) → s.findKey d.fn d.key [12] = .found g k → bitOf d.p0 0 = true → s.globalSlot d.fn d.p1 = some z → d.len ≠ 0 → firstFail (s.rangeCheck d d.srcSp d.src d.len false) = none → (source s d (d.len) src).2.1 = .ok → exec (.x25519 id src) s = .next (queued (source s d (d.len) src).1 d { use := .desc d.id, fn := d.fn, op := 0x27, key := k.key, src := (source s d (d.len) src).2.2, p0 := d.p0, target := z, wrappable := bitOf ((d.iv.headD 0).toNat) 0 })) ∧
  (∀ (id : Nat) (d : Desc) (g : Nat) (k : KeySlot) (src : ReadOutcome) (s : State), DescRuns s id 40 d → Passes d (p0Checks d 0 [0] ++ s.pkeChecks d (d.len == 384) none (some 384)) → s.findKey d.fn d.key [clsRsa] = .found g k → d.len ≠ 0 → firstFail (s.rangeCheck d d.srcSp d.src d.len false ++ s.rangeCheck d d.dstSp d.dst (384) true) = none → (source s d (d.len) src).2.1 = .ok → exec (.rsaPriv id src) s = .next (queued (source s d (d.len) src).1 d { use := .desc d.id, fn := d.fn, op := 0x28, key := k.key, src := (source s d (d.len) src).2.2, long := true })) ∧
  (∀ (id : Nat) (d : Desc) (src aux : ReadOutcome) (s : State), DescRuns s id 41 d → Passes d (p0Checks d 0 [0] ++ s.pkeChecks d ([256, 384, 512].contains d.len) (some (d.len == 0 || d.auxLen == d.len)) (some d.len)) → d.len ≠ 0 → firstFail (s.rangeCheck d d.srcSp d.src d.len false ++ s.rangeCheck d d.auxSp d.aux d.auxLen false ++ s.rangeCheck d d.dstSp d.dst (d.len) true) = none → (source s d (d.len) src).2.1 = .ok → (auxiliary (source s d (d.len) src).1 d aux).2.1 = .ok → exec (.rsaPub id src aux) s = .next (queued (auxiliary (source s d (d.len) src).1 d aux).1 d { use := .desc d.id, fn := d.fn, op := 0x29, src := (source s d (d.len) src).2.2, aux := (auxiliary (source s d (d.len) src).1 d aux).2.2, exp := leNat (d.iv.take 4) })) ∧
  (∀ (id : Nat) (d : Desc) (src : ReadOutcome) (s : State), DescRuns s id 42 d → Passes d (p0Checks d 0x70 [0, 1, 2, 3, 4, 5, 6, 7] ++ s.pkeChecks d (if bitsOf d.p0 4 3 = 1 then d.len == 32 else (s.curve (bitsOf d.p0 4 3)).elim true (fun c => d.len == 2 * c.2)) none none) → d.len ≠ 0 → firstFail (s.rangeCheck d d.srcSp d.src d.len false) = none → (source s d (d.len) src).2.1 = .ok → exec (.pointCheck id src) s = .next (queued (source s d (d.len) src).1 d { use := .desc d.id, fn := d.fn, op := 0x2A, src := (source s d (d.len) src).2.2, table := bitsOf d.p0 4 3 })) ∧
  (∀ (id : Nat) (d : Desc) (src : ReadOutcome) (s : State), DescRuns s id 43 d → Passes d (p0Checks d 0x70 [2, 3, 4, 5, 6, 7] ++ [(decide (d.fn ≠ 0), .badParam, 0)] ++ s.pkeChecks d ((List.range 25).any (fun i => d.len == 8 + 6 * (24 + i))) none none) → 8 + 6 * leNat ((source s d (d.len) src).2.2.take 1) = d.len → d.len ≠ 0 → firstFail (s.rangeCheck d d.srcSp d.src d.len false) = none → (source s d (d.len) src).2.1 = .ok → exec (.curveLoad id src) s = .next (queued (source s d (d.len) src).1 d { use := .desc d.id, fn := d.fn, op := 0x2B, src := (source s d (d.len) src).2.2, table := bitsOf d.p0 4 3, long := true })) ∧
  (∀ (id : Nat) (d : Desc) (s : State), DescRuns s id 44 d → Passes d (p0Checks d 0x70 [2, 3, 4, 5, 6, 7] ++ [(decide (d.fn ≠ 0), .badParam, 0), (decide (1 < d.len), .badParam, 32)]) → d.len ≠ 0 → exec (.curveClear id) s = .next (queued s d { use := .desc d.id, fn := d.fn, op := 0x2C, table := bitsOf d.p0 4 3 })) ∧
  (∀ (id g : Nat) (d : Desc) (k : KeySlot) (src : ReadOutcome) (s : State), DescRuns s id 36 d → Passes d (p0Checks d 0 [0] ++ s.pkeChecks d (decide (d.len ≤ 16384)) none (some 64)) → s.findKey d.fn d.key [10] = .found g k → d.len = 0 → exec (.ed25519Sign id src) s = .next (s.endDesc d .ok 0 0))

/-- O32, R394, R402, R404, R405, R413, R414, R415, R419. A free unit takes the head of the short queue, else the oldest parked operation, else the head of the long queue within LONG_MAX; its outcome is that of its operands. A long operation yields to short work, is parked, and comes back. An operation that fails its validation, completes or meets a fault of its unit ends its descriptor. -/
def Obligations.PublicKeyUnits : Prop :=
  (∀ (u : Nat) (j : PkeJob) (js : List PkeJob) (s : State), s.Awake 0x410 → u < 4 → Map.find s.sluice.units u = none → s.quiet 0x410 = false → s.sluice.short = j :: js → exec (.pkeUnitStart u) s = .next (({ s with sluice := { s.sluice with short := js } }).startPke u j)) ∧
  (∀ (u x : Nat) (r : PkeRun) (rs : List (Nat × PkeRun)) (s : State), s.Awake 0x410 → u < 4 → Map.find s.sluice.units u = none → s.quiet 0x410 = false → s.sluice.short = [] → s.sluice.parked = (x, r) :: rs → Runs (.pkeUnitStart u) s (fun t => Map.find t.sluice.units u = some { r with moving := some true } ∧ t.sluice.parked = rs ∧ t.sluice.long = s.sluice.long)) ∧
  (∀ (u : Nat) (j : PkeJob) (js : List PkeJob) (s : State), s.Awake 0x410 → u < 4 → Map.find s.sluice.units u = none → s.quiet 0x410 = false → s.sluice.short = [] → s.sluice.parked = [] → s.sluice.long = j :: js → s.longUnits < s.get PKE_CFG_LONG_MAX → exec (.pkeUnitStart u) s = .next (({ s with sluice := { s.sluice with long := js } }).startPke u j)) ∧
  (∀ (u : Nat) (j : PkeJob) (o : PkeOut) (s : State), s.startFault j = none → s.fixedOutcome j = some o → s.startPke u j = (s.blind j).setUnit u (some { job := j, out := o })) ∧
  (∀ (u : Nat) (r : PkeRun) (s : State), s.Awake 0x410 → u < 4 → Map.find s.sluice.units u = some r → r.job.long = true → r.moving = none → s.quiet 0x410 = true ∨ 0 < s.shortUnserved → Runs (.pkeYieldPoint [u]) s (fun t => Map.find t.sluice.units u = some { r with moving := some false } ∧
        t.get PKE_YIELD_CNT = (s.get PKE_YIELD_CNT + 1) % 2 ^ 32 ∧ OnlyRegs [PKE_YIELD_CNT] s t)) ∧
  (∀ (u : Nat) (r : PkeRun) (s : State), s.Awake 0x410 → Map.find s.sluice.units u = some r → r.moving = some false → Runs (.pkeParkDone u) s (fun t => Map.find t.sluice.units u = none ∧ (∃ x, t.sluice.parked = s.sluice.parked ++ [(x, { r with moving := none })]))) ∧
  (∀ (u : Nat) (r : PkeRun) (s : State), s.Awake 0x410 → Map.find s.sluice.units u = some r → r.moving = some true → exec (.pkeParkDone u) s = .next (s.setUnit u (some { r with moving := none }))) ∧
  (∀ (u : Nat) (r : PkeRun) (s : State), s.Awake 0x410 → Map.find s.sluice.units u = some r → r.moving = none → r.refused = true → exec (.pkeValidationEnd u) s = .next ((s.setUnit u none).finishJob r.job r.out)) ∧
  (∀ (u : Nat) (r : PkeRun) (s : State), s.Awake 0x410 → Map.find s.sluice.units u = some r → r.moving = none → r.refused = false → s.outputHeld r = false → exec (.pkeOpComplete u false) s = .next ((s.setUnit u none).finishJob r.job r.out)) ∧
  (∀ (u : Nat) (r : PkeRun) (s : State), s.Awake 0x410 → Map.find s.sluice.units u = some r → r.moving = none → r.refused = false → s.outputHeld r = false → Runs (.pkeOpComplete u true) s (fun t => Map.find t.sluice.units u = none ∧ t.get PKE_FCHK_CNT = (s.get PKE_FCHK_CNT + 1) % 2 ^ 32 ∧ t.shows 0 0x410 0 = true ∧
        t.get PKE_OPS_CNT = (s.get PKE_OPS_CNT + 1) % 2 ^ 32)) ∧
  (∀ (id : Nat) (d : Desc) (j : PkeJob) (o : PkeOut) (s : State), s.desc id = some d → j.use = .desc id → j.op = 0x20 ∨ j.op = 0x24 ∨ j.op = 0x28 ∨ j.op = 0x29 → o.st = .ok → (output (s.add PKE_OPS_CNT 1) d o.out).2 = .ok → s.finishJob j o = delivered (s.add PKE_OPS_CNT 1) d o.out) ∧
  (∀ (id : Nat) (d : Desc) (j : PkeJob) (o : PkeOut) (s : State), s.desc id = some d → j.use = .desc id → j.loadsKey = true → o.st = .ok → s.finishJob j o = (((s.add PKE_OPS_CNT 1).writeSlot j.target j.cls j.wrappable j.key o.pub).endDesc d .ok 0 0))

/-- O33, R428, R429, R430. A write of a host window's attributes stores LEN, RO and VALID, or is refused with BAD_PARAM where VALID is set on a valid entry or on one that overlaps another or passes the window space. A translation enters the cache; an invalidation withdraws what it covers; its completion goes out, and is counted, once no read of those pages is outstanding. -/
def Obligations.HostWindowsAndTranslations : Prop :=
  (∀ (fn e len : Nat) (ro valid : Bool) (s : State), s.Reaches fn 0x500 → fn ≤ 8 → e < 16 → (valid = false ∨ (s.on (HW_ATTR_VALID fn e) = false ∧ s.windowBad fn e (len % 2 ^ 24) = false)) → Runs (.hwAttrWrite fn e len ro valid) s (fun t => t.get (HW_ATTR_LEN fn e) = len % 2 ^ 24 ∧ t.on (HW_ATTR_RO fn e) = ro ∧ t.on (HW_ATTR_VALID fn e) = valid ∧
        OnlyRegs [HW_ATTR_LEN fn e, HW_ATTR_RO fn e, HW_ATTR_VALID fn e] s t ∧ t.pages = s.pages)) ∧
  (∀ (fn e len : Nat) (ro : Bool) (s : State), s.Reaches fn 0x500 → (s.on (HW_ATTR_VALID fn e) = true ∨ s.windowBad fn e (len % 2 ^ 24) = true) → exec (.hwAttrWrite fn e len ro true) s = .next (s.captureFn fn 0x500 .badParam (0x20C + 16 * e) (len % 2 ^ 24 + 2 ^ 30 * b2n ro + 2 ^ 31))) ∧
  (∀ (fn p : Nat) (read write : Bool) (s : State), s.pageOn 0x500 = true → s.underInvalidation fn p = false → s.host.translations.length < 2048 → Runs (.atsTranslation fn p read write) s (fun t => t.host.translations = s.host.translations.filter (fun x => !(x.fn == fn && x.page == p)) ++ [⟨fn, p, read, write⟩])) ∧
  (∀ (tag fn p n : Nat) (s : State), s.pageOn 0x500 = true → Runs (.atsInvalidate tag fn p n) s (fun t => (∀ x ∈ t.host.translations, ¬(x.fn = fn ∧ p ≤ x.page ∧ x.page < p + n)) ∧
        (∀ x ∈ s.host.translations, (x.fn ≠ fn ∨ x.page < p ∨ p + n ≤ x.page) → x ∈ t.host.translations) ∧
        t.host.invalidating = s.host.invalidating ++ [(tag, fn, p, n)])) ∧
  (∀ (tag fn p n : Nat) (s : State), s.pageOn 0x500 = true → s.host.invalidating.find? (fun i => i.1 == tag) = some (tag, fn, p, n) → (∀ r ∈ s.host.reads, r.fn = fn → r.iova / 4096 < p + n → r.iova + r.len ≤ p * 4096) → Runs (.atsInvComplete tag) s (fun t => t.host.invalidating = s.host.invalidating.erase (tag, fn, p, n) ∧ t.host.out = s.host.out ++ [.invalidated tag] ∧
        t.get HI_ATC_INV_CNT = (s.get HI_ATC_INV_CNT + 1) % 2 ^ 32 ∧ OnlyRegs [HI_ATC_INV_CNT] s t)) ∧
  (∀ (fn addr n e : Nat) (write : Bool) (s : State), fn ≤ 8 → e < 16 → s.on (HW_ATTR_VALID fn e) = true → s.get (HW_OFF fn e) * 4096 ≤ addr → addr + n ≤ (s.get (HW_OFF fn e) + s.get (HW_ATTR_LEN fn e)) * 4096 → 0 < n → (∀ g, g < 16 → g ≠ e → s.on (HW_ATTR_VALID fn g) = true → addr + n ≤ s.get (HW_OFF fn g) * 4096 ∨ (s.get (HW_OFF fn g) + s.get (HW_ATTR_LEN fn g)) * 4096 ≤ addr) → s.hostWindow fn addr n write = if write = true ∧ s.on (HW_ATTR_RO fn e) = true then none else some (s.pair (HW_IOVA_LO fn e) (HW_IOVA_HI fn e) + (addr - s.get (HW_OFF fn e) * 4096)))

/-- O34, R361, R433, R436, R438. A doorbell that lies between the ring's indices moves the index; a repeat changes nothing; any other is rejected with BAD_PARAM and DB_ERR. ENABLE fixes the direction and clears both indices and the tags; it is refused where R433 says. RESTART clears STOPPED, SKIP consumes the stopped entry of an inbound ring. -/
def Obligations.HostRingControls : Prop :=
  (∀ (fn c p : Nat) (s : State), s.Reaches fn (ringPage c) → c < 256 → s.quiet (ringPage c) = false → s.behind (ringPage c) = false → s.on (HR_CTRL_ENABLE c) = true → s.on (HR_STAT_DIR c) = false → bell (p % 2 ^ 32) (s.get (HR_PI c)) (s.get (HR_CI c)) (s.get (HR_SIZE c)) = .accepted → exec (.hrPiDoorbell fn c p) s = .next (s.set (HR_PI c) p)) ∧
  (∀ (fn c p : Nat) (s : State), s.Reaches fn (ringPage c) → c < 256 → s.quiet (ringPage c) = false → s.behind (ringPage c) = false → s.on (HR_CTRL_ENABLE c) = true → s.on (HR_STAT_DIR c) = false → bell (p % 2 ^ 32) (s.get (HR_PI c)) (s.get (HR_CI c)) (s.get (HR_SIZE c)) = .rejected → Runs (.hrPiDoorbell fn c p) s (fun t => t.shows 0 (ringPage c) 2 = true ∧ (t.page (pageKey 0 (ringPage c))).errCode = Status.badParam.code ∧
        (t.page (pageKey 0 (ringPage c))).errInfo0 = c + 256 * (s.get (HR_CI c) % 256) ∧ t.regs = s.regs)) ∧
  (∀ (fn c p : Nat) (s : State), s.Reaches fn (ringPage c) → c < 256 → s.stall = false → s.quiet (ringPage c) = false → s.behind (ringPage c) = false → s.on (HR_CTRL_ENABLE c) = true → s.on (HR_STAT_DIR c) = true → bellConsume (p % 2 ^ 32) (s.get (HR_CI c)) (s.get (HR_PI c)) = .accepted → exec (.hrCiDoorbell fn c p) s = .next ((s.set (HR_CI c) p).ringPassed c (p % 2 ^ 32)) ∧
        (((s.set (HR_CI c) p).ringPassed c (p % 2 ^ 32)).ring c).delivered = (s.ring c).delivered.filter (fun e => !(e.1 != p % 2 ^ 32 && atOrAfter (p % 2 ^ 32) e.1))) ∧
  (∀ (s : State) (k : Nat) (x : Cell), Map.find s.work.cells k = some x → x.state = .inUse → x.rewind = none → s.retained x = false → s.finishWaits x.chain = false → Map.find (s.finishCell k).work.cells k = none) ∧
  (∀ (fn c : Nat) (s : State), s.Reaches fn (ringPage c) → c < 256 → s.on (HR_CTRL_ENABLE c) = false → s.ringEnableBad c = false → (s.ring c).busy = false → Runs (.hrEnable fn c true) s (fun t => t.on (HR_CTRL_ENABLE c) = true ∧ t.on (HR_STAT_DIR c) = (s.chain c).desc.elim false (fun d => d.sink == 2) ∧
        t.get (HR_PI c) = 0 ∧ t.get (HR_CI c) = 0 ∧ (t.ring c).tags = [] ∧ OnlyRegs [HR_CTRL_ENABLE c, HR_STAT_DIR c, HR_PI c, HR_CI c] s t)) ∧
  (∀ (fn c : Nat) (s : State), s.Reaches fn (ringPage c) → c < 256 → s.on (HR_CTRL_ENABLE c) = false → s.ringEnableBad c = true → exec (.hrEnable fn c true) s = .next (s.capture (ringPage c) .badParam (c + 256 * (s.ringIndex c % 256)) 0)) ∧
  (∀ (fn c : Nat) (s : State), s.Reaches fn (ringPage c) → c < 256 → s.on (HR_CTRL_ENABLE c) = true → (s.on (HR_STAT_DIR c) = false ∨ s.get (HR_PI c) = s.get (HR_CI c)) → exec (.hrEnable fn c false) s = .next (s.flag (HR_CTRL_ENABLE c) false)) ∧
  (∀ (fn c : Nat) (s : State), s.Reaches fn (ringPage c) → c < 256 → exec (.hrRestart fn c) s = .next (s.flag (HR_STAT_STOPPED c) false)) ∧
  (∀ (fn c : Nat) (s : State), s.Reaches fn (ringPage c) → c < 256 → s.on (HR_STAT_DIR c) = false → s.stall = false → s.quiet (ringPage c) = false → s.behind (ringPage c) = false → s.hostHeld (s.chainHolder c) (s.pair (HR_WB_LO c) (HR_WB_HI c)) 4 = false → s.on (HR_STAT_STOPPED c) = true → Runs (.hrSkip fn c) s (fun t => t.on (HR_STAT_STOPPED c) = false ∧ t.get (HR_CI c) = (s.get (HR_CI c) + 1) % 2 ^ 32 ∧ (t.ring c).cell = none)) ∧
  (∀ (fn c : Nat) (s : State), s.Reaches fn (ringPage c) → c < 256 → s.on (HR_STAT_DIR c) = true → exec (.hrSkip fn c) s = .next (s.capture (ringPage c) .badParam (c + 256 * (s.ringIndex c % 256)) 0))

/-- O35, R432, R434, R435, R443, R446. An inbound entry that is too long is consumed and counted; a repeated ONCE tag is consumed and counted; else a cell is taken and the payload read. The payload's arrival commits the item and HR_CI advances. An outbound item's payload and entry are written and HR_PI advances. A host read that completes gives its requester the data; one that fails is logged, and its requester goes on without. -/
def Obligations.HostRingProcessing : Prop :=
  (∀ (c : Nat) (d : ChainDesc) (entry : ReadOutcome) (b : List Byte) (s : State), InboundTurn s c d → c < 256 → inboundEntry s c entry = (s, .ok, b) → d.slot * 4096 < hdr b 0 4 % 2 ^ 28 → Runs (.hrInboundEntry c entry) s (fun t => t.get (HR_CI c) = (s.get (HR_CI c) + 1) % 2 ^ 32 ∧ t.get (HR_ERR_CNT c) = (s.get (HR_ERR_CNT c) + 1) % 2 ^ 32 ∧ t.get (HR_STAT_LAST c) = Status.badDesc.code ∧
        t.shows 0 (ringPage c) 1 = true ∧ t.work = s.work)) ∧
  (∀ (c : Nat) (d : ChainDesc) (entry : ReadOutcome) (b : List Byte) (s : State), InboundTurn s c d → c < 256 → inboundEntry s c entry = (s, .ok, b) → hdr b 0 4 % 2 ^ 28 ≤ d.slot * 4096 → bitOf (hdr b 68 1) 0 = true → (s.ring c).tagged = false → hdr b 64 4 ∈ (s.ring c).tags → Runs (.hrInboundEntry c entry) s (fun t => t.get (HR_CI c) = (s.get (HR_CI c) + 1) % 2 ^ 32 ∧ t.get (HR_DUP_CNT c) = (s.get (HR_DUP_CNT c) + 1) % 2 ^ 32 ∧ (t.ring c).tags = (s.ring c).tags ∧ t.work = s.work)) ∧
  (∀ (c : Nat) (d : ChainDesc) (entry : ReadOutcome) (b : List Byte) (s : State), InboundTurn s c d → c < 256 → inboundEntry s c entry = (s, .ok, b) → 0 < hdr b 0 4 % 2 ^ 28 → hdr b 0 4 % 2 ^ 28 ≤ d.slot * 4096 → (bitOf (hdr b 68 1) 0 = false ∨ (s.ring c).tagged = true ∨ hdr b 64 4 ∉ (s.ring c).tags) → s.ringTurn c = true → s.host.waitLinkReset = false → s.hostDenied (s.chainHolder c) (s.ringPayAt c d.slot (s.get (HR_CI c))) (hdr b 0 4 % 2 ^ 28) false = false → Runs (.hrInboundEntry c entry) s (fun t => (t.ring c).busy = true ∧ (t.ring c).tags = (if bitOf (hdr b 68 1) 0 && !(s.ring c).tagged then (hdr b 64 4 :: (s.ring c).tags).take 256 else (s.ring c).tags) ∧
        t.host.reads = s.host.reads ++ [⟨s.host.nextRead, s.chainHolder c, 2, s.ringPayAt c d.slot (s.get (HR_CI c)), hdr b 0 4 % 2 ^ 28, .ringPayload c⟩] ∧
        t.get (HR_CI c) = s.get (HR_CI c) ∧
        (∃ k x, (t.ring c).cell = some k ∧ Map.find t.work.cells k = some x ∧ x.chain = c ∧ x.state = .building ∧ x.header = b.take 8 ++ List.replicate 20 0 ++ (b.drop 28).take 36))) ∧
  (∀ (c : Nat) (d : ChainDesc) (entry : ReadOutcome) (b : List Byte) (st : Status) (z s : State), InboundTurn s c d → inboundEntry s c entry = (z, st, b) → st ≠ .ok → exec (.hrInboundEntry c entry) s = .next (z.ringFails c st)) ∧
  (∀ (c : Nat) (st : Status) (s : State), c < 256 → (s.ringFails c st).on (HR_STAT_STOPPED c) = true ∧ (s.ringFails c st).get (HR_STAT_LAST c) = st.code ∧ (s.ringFails c st).get (HR_CI c) = s.get (HR_CI c) ∧ (s.ringFails c st).shows 0 (ringPage c) 1 = true ∧ ((s.ringFails c st).ring c).cell = none) ∧
  (∀ (id : Nat) (r : HostRead) (o : ReadOutcome) (s : State), s.host.reads.find? (fun x => x.id == id) = some r → s.stall = false → s.behind 0x500 = false → s.usedHeld r = false → exec (.hostReadCompletion id o) s = .next (s.readEnds r o)) ∧
  (∀ (id : Nat) (r : HostRead) (s : State), s.host.reads.find? (fun x => x.id == id) = some r → s.stall = false → s.behind 0x500 = false → s.usedHeld r = false → exec (.completionTimeout id) s = .next (s.readEnds r .timeout)) ∧
  (∀ (r : HostRead) (b : List Byte) (s : State), s.readEnds r (.data b) = ({ s with host := { s.host with reads := s.host.reads.filter (fun x => x.id != r.id) } }).readUsed r (some (b.take r.len ++ List.replicate (r.len - b.length) 0))) ∧
  (∀ (r : HostRead) (o : ReadOutcome) (s : State), (∀ b, o ≠ .data b) → r.use.isFlush = false → s.readEnds r o = (({ s with host := { s.host with reads := s.host.reads.filter (fun x => x.id != r.id) } }).readFailed r.fn r.agent r.iova o).readUsed r none) ∧
  (∀ (fn agent iova : Nat) (s : State), s.host.abortLog.length < 64 → fn ≤ 8 → (s.hostAbort fn agent 4 iova).host.abortLog = s.host.abortLog ++ [{ fn := fn, agent := agent, cause := 4, status := Status.aborted.code, iova := iova, time := s.now }] ∧
        (s.hostAbort fn agent 4 iova).get HI_ABORT_CNT = (s.get HI_ABORT_CNT + 1) % 2 ^ 32 ∧ (s.hostAbort fn agent 4 iova).shows fn 0x500 4 = true) ∧
  (∀ (c k : Nat) (x : Cell) (b : List Byte) (s u : State), (s.ring c).cell = some k → Map.find s.work.cells k = some x → x.id = (s.ring c).id → x.chain = c → x.state = .building → c < 256 → s.hbmWrite (.home 2) (s.chainHolder c) 0 0 (s.payAddr x 0) (padLines b) = (u, .ok) → s.ringCommit c b = (u.watched c (·.commitCell k { x with top := b.length } none)).ringConsume c ∧
        (∃ y, Map.find (s.ringCommit c b).work.cells k = some y ∧ y.state = .ready ∧ hdr y.header 0 4 = b.length % 2 ^ 32) ∧ (s.ringCommit c b).get (HR_CI c) = (s.get (HR_CI c) + 1) % 2 ^ 32) ∧
  (∀ (c k : Nat) (x y : Cell) (d : ChainDesc) (t1 t2 t3 s : State) (b : List Byte), OutboundTurn s c d → c < 256 → (s.ring c).cell = none → s.takeOpen c 2 = true → s.headItem c = some (k, x) → s.on (HR_CTRL_FLUSH c) = false → y = { x with state := .inUse, take := s.get (CH_TAKE_SEQ x.chain) } → ((s.takeCell k x).setRing c { s.ring c with cell := some k }).hbmRead (.home 2) (s.chainHolder c) 0 0 (s.payAddr x 0) (hdr x.header 0 4 % 2 ^ 28) = (t1, .ok, b) → t1.hostWrite (s.chainHolder c) 3 (s.ringPayAt c d.slot (s.get (HR_PI c))) b = (t2, .ok) → t2.hostWrite (s.chainHolder c) 3 (s.ringEntryAt c (s.get (HR_PI c))) (t2.ringRecord y) = (t3, .ok) → exec (.hrOutboundDeliver c) s = .next (t3.ringDelivered c) ∧ (t3.ringDelivered c).get (HR_PI c) = (s.get (HR_PI c) + 1) % 2 ^ 32 ∧
        ((t3.ringDelivered c).ring c).delivered = (s.ring c).delivered ++ [(s.get (HR_PI c), k)] ∧ Map.find (t3.ringDelivered c).work.cells k = some y)

/-- O36, R439, R440, R442, R447, R448, R449. An accepted route is stored; a vector or page out of reach is refused. Unmasking, leaving the blocking state and leaving D3hot send what is owed. A link error is counted and raised; a fatal one aborts every read in flight. A pop takes the oldest abort. RETRAIN leaves the link at what it trained to. -/
def Obligations.HostEventsAndLink : Prop :=
  (∀ (fn v : Nat) (en : Bool) (s : State), s.Reaches fn 0x500 → v < vectorsOf fn → s.sees fn (s.get (IRQ_SEL fn)) = true → fn ≤ 8 → Runs (.irqRouteWrite fn v en) s (fun t => t.route fn (s.get (IRQ_SEL fn)) = { vector := v, en := en } ∧ (∀ p, p ≠ s.get (IRQ_SEL fn) → t.route fn p = s.route fn p) ∧ t.regs = s.regs)) ∧
  (∀ (fn v : Nat) (en : Bool) (s : State), s.Reaches fn 0x500 → (vectorsOf fn ≤ v ∨ s.sees fn (s.get (IRQ_SEL fn)) = false) → exec (.irqRouteWrite fn v en) s = .next (s.captureFn fn 0x500 .badParam 0x304 (v % 2048 + 2 ^ 31 * b2n en))) ∧
  (∀ (fn v : Nat) (s : State), s.pageOn 0x500 = true → v < vectorsOf fn → fn * 2048 + v ∉ s.host.unmasked → fn ∉ s.host.d3hot → fn ∈ s.host.msixEnabled → (∀ k ∈ s.host.owed, k / 16384 ≠ fn) → (∀ k ∈ s.host.vecPending, k / 2048 = fn → k = fn * 2048 + v) → v < 2048 → Runs (.msixUnmask fn (.vector v)) s (fun t => t.host.unmasked = s.host.unmasked ++ [fn * 2048 + v] ∧
        t.host.out = s.host.out ++ (s.host.vecPending.filter (· == fn * 2048 + v)).map (fun _ => .msg fn v) ∧ fn * 2048 + v ∉ t.host.vecPending)) ∧
  (∀ (fn : Nat) (s : State), s.pageOn 0x500 = true → fn ∉ s.host.msixEnabled → exec (.msixUnmask fn .blockingState) s = .next ({ s with host := { s.host with msixEnabled := s.host.msixEnabled ++ [fn] } }.sendOwed fn)) ∧
  (∀ (fn : Nat) (s : State), exec (.dStateChange fn true) s = .next { s with host := { s.host with d3hot := s.host.d3hot.filter (· != fn) ++ [fn] } }) ∧
  (∀ (fn : Nat) (s : State), exec (.dStateChange fn false) s = .next ({ s with host := { s.host with d3hot := s.host.d3hot.filter (· != fn) } }.sendOwed fn)) ∧
  (∀ (fn page : Nat) (s : State), fn ∉ s.host.d3hot → fn ∈ s.host.msixEnabled → page < 16384 → s.host.owed = [fn * 16384 + page] → s.host.vecPending = [] → (s.page (pageKey fn page)).summary = true → s.resetting fn = false → (s.route fn page).en = true → fn * 2048 + (s.route fn page).vector ∈ s.host.unmasked → (s.sendOwed fn).host.out = s.host.out ++ [.msg fn (s.route fn page).vector] ∧ (s.sendOwed fn).host.owed = []) ∧
  (∀ (s : State), s.pageOn 0x500 = true → Runs (.pcieLinkError .correctable) s (fun t => t.get HI_CE_CNT = (s.get HI_CE_CNT + 1) % 2 ^ 32 ∧ t.shows 0 0x500 2 = true ∧ OnlyRegs [HI_CE_CNT] s t)) ∧
  (∀ (s : State), s.pageOn 0x500 = true → Runs (.pcieLinkError .nonFatal) s (fun t => t.get HI_UE_CNT = (s.get HI_UE_CNT + 1) % 2 ^ 32 ∧ t.shows 0 0x500 3 = true ∧ OnlyRegs [HI_UE_CNT] s t)) ∧
  (∀ (s : State), s.pageOn 0x500 = true → exec (.pcieLinkError .fatal) s = .next ({ s.aer false with host := { (s.aer false).host with waitLinkReset := true } }.abortAllReads) ∧
        (s.aer false).get HI_UE_CNT = (s.get HI_UE_CNT + 1) % 2 ^ 32 ∧ (s.aer false).shows 0 0x500 3 = true) ∧
  (∀ (c : Nat) (r : HostRead) (s : State), s.host.reads = [r] → r.use = .ringPayload c → s.abortAllReads = (({ s with host := { s.host with reads := [] } }).hostAbort r.fn r.agent 4 r.iova).ringFails c .aborted) ∧
  (∀ (e : AbortEntry) (es : List AbortEntry) (s : State), s.Reaches 0 0x500 → s.host.abortLog = e :: es → Runs (.abPop 0) s (fun t => t.readData = e.fn + 16 * e.agent + 256 * e.cause + 4096 * e.status + 2 ^ 31 ∧ t.host.abortLog = es ∧
        t.get HI_AB_IOVA_LO = e.iova % 2 ^ 32 ∧ t.get HI_AB_IOVA_HI = e.iova / 2 ^ 32 % 2 ^ 32 ∧ t.get HI_AB_TIME_NS = e.time.ns % 2 ^ 30 ∧ t.get HI_AB_TIME_SEC = e.time.sec % 2 ^ 32 ∧
        OnlyRegs [HI_AB_IOVA_LO, HI_AB_IOVA_HI, HI_AB_TIME_NS, HI_AB_TIME_SEC] s t)) ∧
  (∀ (fn : Nat) (s : State), s.Reaches fn 0x500 → (s.host.abortLog = [] ∨ fn ≠ 0) → exec (.abPop fn) s = .next { s with readData := 0 }) ∧
  (∀ (speed width : Nat) (s : State), s.Reaches 0 0x500 → 4 ≤ speed → width = 1 ∨ width = 2 ∨ width = 4 ∨ width = 8 ∨ width = 16 → Runs (.retrain 0 speed width) s (fun t => t.get HI_LINK_SPEED = min (min speed 6) (s.get HI_TARGET_MAX_SPEED) ∧ t.get HI_LINK_WIDTH = width ∧ t.on HI_LINK_FLIT = decide (t.get HI_LINK_SPEED = 6) ∧
        t.on HI_LINK_DL_ACTIVE = true ∧ t.host.linkUp = true ∧ OnlyRegs [HI_LINK_SPEED, HI_LINK_WIDTH, HI_LINK_FLIT, HI_LINK_DL_ACTIVE] s t))

/-- O37, R454, R464, R465, R478. QUIESCE of a READY instance makes it QUIESCING and closes stage 1; in QUIESCING it changes PREEMPT, which may close stage 2 anew. When the pages of a stage are quiesced the next one closes; after stage 3 the instance is QUIESCED, with its events. UNQUIESCE opens every gate and makes it READY. A command refused by its state leaves BAD_PARAM. -/
def Obligations.InstancesQuiesceInStages : Prop :=
  (∀ (fn f : Nat) (pre : Bool) (s : State), TenantRuns s fn f → 1 ≤ f → f ≤ 8 → s.instState f = 1 → exec (.tnQuiesce fn f pre) s = .next (((((s.set (TN_STAT_RESULT f) 0).setInst f { stage := 1, preempt := pre }).set (TN_STAT_STATE f) 2).closeStage f 1))) ∧
  (∀ (fn f : Nat) (pre : Bool) (s : State), TenantRuns s fn f → 1 ≤ f → f ≤ 8 → s.instState f = 2 → exec (.tnQuiesce fn f pre) s = .next (if pre = true ∧ (s.inst f).stage = 2 then ((s.set (TN_STAT_RESULT f) 0).setInst f { s.inst f with preempt := pre }).closeStage f 2 else (s.set (TN_STAT_RESULT f) 0).setInst f { s.inst f with preempt := pre })) ∧
  (∀ (fn f : Nat) (pre : Bool) (s : State), TenantOpen s fn → 1 ≤ f → f ≤ 8 → (s.on (TN_STAT_BUSY f) = true ∨ s.instState f = 4 ∨ (s.instState f ≠ 1 ∧ s.instState f ≠ 2)) → exec (.tnQuiesce fn f pre) s = .next ((s.set (TN_STAT_RESULT f) Status.badParam.code).capture 0x510 .badParam f 0)) ∧
  (∀ (f p stage : Nat) (s : State), stage = 1 ∨ stage = 3 → p ∈ s.stagePages f stage → (s.closeStage f stage).quiet p = true) ∧
  (∀ (f : Nat) (s : State), s.Awake 0x510 → 1 ≤ f → f ≤ 8 → s.instState f = 2 → (s.inst f).stage < 3 → (s.stagePages f (s.inst f).stage).all (fun p => (s.page p).quiesced) = true → exec (.tnQuiesceStage f) s = .next ((s.setInst f { s.inst f with stage := (s.inst f).stage + 1 }).closeStage f ((s.inst f).stage + 1))) ∧
  (∀ (f : Nat) (s : State), s.Awake 0x510 → 1 ≤ f → f ≤ 8 → s.instState f = 2 → 3 ≤ (s.inst f).stage → (s.stagePages f (s.inst f).stage).all (fun p => (s.page p).quiesced) = true → Runs (.tnQuiesceStage f) s (fun t => t.instState f = 3 ∧ (t.inst f).stage = 4 ∧ t.shows 0 (0x510 + f) 2 = true ∧ t.shows 0 0x510 1 = true ∧ bitOf (t.get TN_ATTN) (f - 1) = true ∧
        OnlyRegs [TN_STAT_STATE f, TN_ATTN] s t)) ∧
  (∀ (fn f : Nat) (s : State), TenantRuns s fn f → 1 ≤ f → f ≤ 8 → s.instState f = 2 ∨ s.instState f = 3 → exec (.tnUnquiesce fn f) s = .next (((((s.set (TN_STAT_RESULT f) 0).openGates f).set (TN_STAT_STATE f) 1).raise (0x510 + f) 3)) ∧
        ((((s.set (TN_STAT_RESULT f) 0).openGates f).set (TN_STAT_STATE f) 1).raise (0x510 + f) 3).instState f = 1 ∧ ((s.set (TN_STAT_RESULT f) 0).openGates f).inst f = { s.inst f with stage := 0, preempt := false })

/-- O38, R458, R459, R460. A grant write of cores or page triples whose changed bits all satisfy their conditions is stored, and each core or triple that changes its holder is emptied; else nothing is granted and BAD_PARAM names the VF and the first refused bit. -/
def Obligations.GrantsOfCoresAndPageTriples : Prop :=
  (∀ (fn f v : Nat) (s : State), TenantOpen s fn → 1 ≤ f → f ≤ 8 → (changedBits (s.get (TG_CORES f)) v 16).find? (fun n => !s.coreChangeOk f n) = none → exec (.tgCoresWrite fn f v) s = .next ((changedBits (s.get (TG_CORES f)) v 16).foldl (fun t n => t.coreChanges n (bitOf (s.get (TG_CORES f)) n)) ((s.set (TG_CORES f) v).set (TN_STAT_RESULT f) 0))) ∧
  (∀ (fn f v n : Nat) (s : State), TenantOpen s fn → 1 ≤ f → f ≤ 8 → (changedBits (s.get (TG_CORES f)) v 16).find? (fun n => !s.coreChangeOk f n) = some n → Runs (.tgCoresWrite fn f v) s (fun t => t.get (TG_CORES f) = s.get (TG_CORES f) ∧ t.get (TN_STAT_RESULT f) = Status.badParam.code ∧ (t.page 0x510).errCode = Status.badParam.code ∧ (t.page 0x510).errInfo0 = f + 256 * n ∧
        OnlyRegs [TN_STAT_RESULT f] s t ∧ t.work = s.work ∧ t.mem = s.mem)) ∧
  (∀ (n : Nat) (back : Bool) (s : State), n < 16 → (∀ i, Map.find (s.coreChanges n back).mem.ws (n * 2 ^ 25 + i % 2 ^ 25) = none) ∧ (∀ i, Map.find (s.coreChanges n back).mem.act (n * 2 ^ 23 + i % 2 ^ 23) = none) ∧
        (s.coreChanges n back).quiet (0x100 + 16 * n) = false) ∧
  (∀ (fn f v : Nat) (s : State), TenantOpen s fn → 1 ≤ f → f ≤ 8 → (changedBits (s.get (TG_PAGES_QPAGES f)) v 8).find? (fun i => !s.tripleChangeOk f (i + 1)) = none → exec (.tgPagesWrite fn f v) s = .next ((changedBits (s.get (TG_PAGES_QPAGES f)) v 8).foldl (fun t i => t.tripleReset (i + 1))
        (((s.set (TG_PAGES_QPAGES f) v).set (TG_PAGES_MEMCTL_VIEW f) (v / 256)).set (TN_STAT_RESULT f) 0))) ∧
  (∀ (fn f v i : Nat) (s : State), TenantOpen s fn → 1 ≤ f → f ≤ 8 → (changedBits (s.get (TG_PAGES_QPAGES f)) v 8).find? (fun i => !s.tripleChangeOk f (i + 1)) = some i → Runs (.tgPagesWrite fn f v) s (fun t => t.get (TG_PAGES_QPAGES f) = s.get (TG_PAGES_QPAGES f) ∧ t.get (TN_STAT_RESULT f) = Status.badParam.code ∧ (t.page 0x510).errInfo0 = f + 256 * i ∧ OnlyRegs [TN_STAT_RESULT f] s t ∧ t.work = s.work)) ∧
  (∀ (c j w : Nat) (s : State), 1 ≤ j → j ≤ 8 → c < 256 → chainPage c = j → w < 4096 → 1 + w / 512 = j → (s.tripleReset j).ring c = {} ∧ (s.tripleReset j).chain c = {} ∧ (s.tripleReset j).flow w = {} ∧ (s.tripleReset j).on (CH_ENABLE c) = false ∧ (s.tripleReset j).get (FLOW_STATE w) = 0)

/-- O39, R461, R462, R477, R479. A SEND sets BUSY and hands the message over, with its event and attention bit; while BUSY it is refused with BAD_PARAM and the offset. The reader's ACK clears both sides and tells the sender; with nothing to acknowledge it does nothing. -/
def Obligations.MailboxesOfInstances : Prop :=
  (∀ (fn f : Nat) (s : State), s.Reaches fn (0x510 + f) → 1 ≤ f → f ≤ 8 → s.on (MB_OUT_CTRL_BUSY f) = false → Runs (.mbOutSend fn f) s (fun t => t.on (MB_OUT_CTRL_BUSY f) = true ∧ t.on (MB_REQ_ACK_PENDING f) = true ∧ bitOf (t.get TN_MB_PEND) (f - 1) = true ∧ bitOf (t.get TN_ATTN) (f - 1) = true ∧
        t.shows 0 0x510 0 = true ∧ OnlyRegs [MB_OUT_CTRL_BUSY f, MB_REQ_ACK_PENDING f, TN_MB_PEND, TN_ATTN] s t)) ∧
  (∀ (fn f : Nat) (s : State), s.Reaches fn (0x510 + f) → 1 ≤ f → f ≤ 8 → s.on (MB_OUT_CTRL_BUSY f) = true → exec (.mbOutSend fn f) s = .next (s.refuseWrite fn (MB_OUT_CTRL_SEND f).addr 1)) ∧
  (∀ (fn f : Nat) (s : State), s.Reaches fn 0x510 → 1 ≤ f → f ≤ 8 → s.on (MB_REQ_ACK_PENDING f) = true → Runs (.mbReqAck fn f) s (fun t => t.on (MB_OUT_CTRL_BUSY f) = false ∧ t.on (MB_REQ_ACK_PENDING f) = false ∧ bitOf (t.get TN_MB_PEND) (f - 1) = false ∧
        t.shows 0 (0x510 + f) 1 = true ∧ OnlyRegs [MB_OUT_CTRL_BUSY f, MB_REQ_ACK_PENDING f, TN_MB_PEND] s t)) ∧
  (∀ (fn f : Nat) (s : State), s.Reaches fn 0x510 → 1 ≤ f → f ≤ 8 → s.on (MB_RSP_CTRL_BUSY f) = false → Runs (.mbRspSend fn f) s (fun t => t.on (MB_RSP_CTRL_BUSY f) = true ∧ t.on (MB_IN_CTRL_VALID f) = true ∧ t.shows 0 (0x510 + f) 0 = true ∧ OnlyRegs [MB_RSP_CTRL_BUSY f, MB_IN_CTRL_VALID f] s t)) ∧
  (∀ (fn f : Nat) (s : State), s.Reaches fn 0x510 → 1 ≤ f → f ≤ 8 → s.on (MB_RSP_CTRL_BUSY f) = true → exec (.mbRspSend fn f) s = .next (s.refuseWrite fn (MB_RSP_CTRL_SEND f).addr 1)) ∧
  (∀ (fn f : Nat) (s : State), s.Reaches fn (0x510 + f) → 1 ≤ f → f ≤ 8 → s.on (MB_IN_CTRL_VALID f) = true → Runs (.mbInAck fn f) s (fun t => t.on (MB_IN_CTRL_VALID f) = false ∧ t.on (MB_RSP_CTRL_BUSY f) = false ∧ bitOf (t.get TN_ATTN) (f - 1) = true ∧ OnlyRegs [MB_RSP_CTRL_BUSY f, MB_IN_CTRL_VALID f, TN_ATTN] s t ∧ t.pages = s.pages)) ∧
  (∀ (fn f : Nat) (s : State), s.Reaches fn 0x510 → s.on (MB_REQ_ACK_PENDING f) = false → exec (.mbReqAck fn f) s = .next s) ∧
  (∀ (fn f : Nat) (s : State), s.Reaches fn (0x510 + f) → s.on (MB_IN_CTRL_VALID f) = false → exec (.mbInAck fn f) s = .next s)

/-- O40, R454, R455, R467, R468, R470, R478. Enabling a VF makes it READY; disabling one resets it. An FLR makes the instance RESETTING, aborts its tasks, drops its host reads; at its end its windows, vectors and counters are cleared and the instance is READY (QUIESCED where it was quiesced, ABSENT where it leaves). REVOKE_ALL returns cores, triples, keys and blocks to the PF, BUSY until TN_DONE. -/
def Obligations.ResetsRevocationAndVfEnable : Prop :=
  (∀ (n : Nat) (s : State), s.pageOn 0x500 = true → n ≤ 8 → s.host.vfs = 0 → s.pageOn 0x510 = true → (∀ f, f < 9 → 1 ≤ f → (s.inst f).stage ≠ 4 ∧ s.instState f ≠ 4) → Runs (.vfEnable n) s (fun t => t.host.vfs = n ∧ (∀ f, 1 ≤ f → f ≤ n → t.instState f = 1) ∧ (∀ f, n < f → f ≤ 8 → t.instState f = s.instState f) ∧ t.work = s.work ∧ t.mem = s.mem)) ∧
  (∀ (s : State), s.pageOn 0x500 = true → s.host.vfs = 1 → s.pageOn 0x510 = true → s.instState 1 ≠ 4 → exec (.vfEnable 0) s = .next ({ s with host := { s.host with vfs := 0 } }.flrStart 1 true)) ∧
  (∀ (f : Nat) (s : State), s.pageOn 0x500 = true → s.pageOn 0x510 = true → 1 ≤ f → f ≤ 8 → f ≤ s.host.vfs → s.stall = false → s.behind 0x510 = false → s.instState f ≠ 4 → exec (.flr f) s = .next (s.flrStart f false)) ∧
  (∀ (f : Nat) (lv : Bool) (s : State), 1 ≤ f → f ≤ 8 → ((s.flrStart f lv).inst f).keepQuiet = (s.instState f == 2 || s.instState f == 3) ∧ ((s.flrStart f lv).inst f).leaving = lv ∧
        (∀ r ∈ (s.flrStart f lv).host.reads, r.fn ≠ f) ∧ (∀ r, r < 4 → (s.flrStart f lv).on (RQ_CFG_ENABLE f r) = false)) ∧
  (∀ (f : Nat) (lv : Bool) (s : State), 1 ≤ f → f ≤ 8 → s.get (TG_CORES f) = 0 → s.get (TG_PAGES_QPAGES f) = 0 → s.work.channels = [] → (s.flrStart f lv).instState f = 4 ∧ (s.flrStart f lv).on (TN_STAT_BUSY f) = s.on (TN_STAT_BUSY f)) ∧
  (∀ (f n i : Nat) (s : State), i < 4 → ((s.abortCore f n).running n i) = none) ∧
  (∀ (f : Nat) (s : State), s.Awake 0x510 → 1 ≤ f → f ≤ 8 → s.instState f = 4 → (∀ d ∈ s.sluice.descs, d.fn ≠ f) → exec (.flrDone f) s = .next (s.flrEnd f) ∧ (s.flrEnd f).instState f = (if (s.inst f).leaving then 0 else if (s.inst f).keepQuiet then 3 else 1) ∧ (s.flrEnd f).shows 0 0x510 2 = true ∧
        bitOf ((s.flrEnd f).get TN_ATTN) (f - 1) = true) ∧
  (∀ (f b c i : Nat) (s : State), 1 ≤ f → f ≤ 8 → b < 64 → s.blockHolder b = f → c / 64 = b → i < 512 → s.slotHolder i = f → (s.clearMailboxes f).on (MB_OUT_CTRL_BUSY f) = false ∧ (s.clearMailboxes f).on (MB_IN_CTRL_VALID f) = false ∧ (∀ e, e < 16 → (s.hostSideReset f).on (HW_ATTR_VALID f e) = false) ∧
        (∀ k ∈ (s.pcieReset f).host.unmasked, k / 2048 ≠ f) ∧ (s.clearBlocks f).counter c = {} ∧ ((s.clearWindow f).slot i).cls = 0) ∧
  (∀ (fn f : Nat) (s : State), TenantRuns s fn f → 1 ≤ f → f ≤ 8 → s.instState f = 3 ∨ s.instState f = 0 → s.sharedDomain f = false → exec (.revokeAll fn f) s = .next (((s.set (TN_STAT_RESULT f) 0).revoke f).instBusy f 3)) ∧
  (∀ (f : Nat) (s : State), 1 ≤ f → f ≤ 8 → (∀ e, e < 16 → (s.revoke f).on (HW_ATTR_VALID f e) = false) ∧ (s.revoke f).get (FN_RD_CAP f) = 768 ∧ (s.revoke f).on (MB_OUT_CTRL_BUSY f) = false ∧
        (∀ b, b < 64 → s.blockHolder b = f → (s.revokeBlocks f).blockHolder b = 15) ∧ (∀ d, d < 15 → s.get (DOM_CFG_FN d) = f → (s.revokeDomains f).get (DOM_STAT_STATE d) = 0) ∧
        (∀ e, e < 8 → (s.revokeSet e).setHolder e = 15 ∧ ((s.revokeSet e).wset e).cfg = none)) ∧
  (∀ (f : Nat) (s : State), s.Awake 0x510 → 1 ≤ f → f ≤ 8 → (s.inst f).job = 3 → Runs (.tnDone f) s (fun t => t.on (TN_STAT_BUSY f) = false ∧ (t.inst f).job = 0 ∧ t.shows 0 0x510 1 = true ∧ OnlyRegs [TN_STAT_BUSY f, TN_ATTN] s t))

/-- O41, R438, R471, R472, R473, R475. EN from 0 to 1 resets the indices and empties the filter. A page newly written takes the next ring position and enters the filter; a page in the filter is not logged; a full ring sets OVF once. SYNC with logging on is BUSY until DL_DONE writes DL_PI back; EPOCH empties the filter and clears OVF. The consumer doorbell moves DL_CI up to DL_PI. -/
def Obligations.DirtyPageLogging : Prop :=
  (∀ (fn f : Nat) (s : State), TenantRuns s fn f → 1 ≤ f → f ≤ 8 → s.on (TDL_CTRL_EN f) = true → exec (.dlSync fn f) s = .next ((s.set (TN_STAT_RESULT f) 0).instBusy f 4)) ∧
  (∀ (fn f : Nat) (s : State), TenantRuns s fn f → 1 ≤ f → f ≤ 8 → s.on (TDL_CTRL_EN f) = false → exec (.dlSync fn f) s = .next (s.set (TN_STAT_RESULT f) 0)) ∧
  (∀ (f : Nat) (s : State), s.Awake 0x510 → 1 ≤ f → f ≤ 8 → (s.inst f).job = 4 → s.hostHeld 0 (s.pair (TDL_WB_LO f) (TDL_WB_HI f)) 4 = false → s.host.waitLinkReset = false → s.hostDenied 0 (s.pair (TDL_WB_LO f) (TDL_WB_HI f)) 4 true = false → Runs (.dlDone f) s (fun t => t.on (TN_STAT_BUSY f) = false ∧ (t.inst f).job = 0 ∧ t.shows 0 0x510 4 = true ∧
        HostOut.write 0 (s.pair (TDL_WB_LO f) (TDL_WB_HI f)) (leBytes 4 (s.get (TDL_PI f))) ∈ t.host.out)) ∧
  (∀ (fn f : Nat) (s : State), TenantRuns s fn f → 1 ≤ f → f ≤ 8 → Runs (.dlEpoch fn f) s (fun t => t.on (TDL_STAT_OVF f) = false ∧ Map.get t.host.dirty [] f = [] ∧ t.get (TN_STAT_RESULT f) = 0 ∧ OnlyRegs [TDL_STAT_OVF f, TN_STAT_RESULT f] s t)) ∧
  (∀ (fn f : Nat) (s : State), s.Reaches fn 0x510 → 1 ≤ f → f ≤ 8 → s.on (TDL_CTRL_EN f) = false → Runs (.dlEnable fn f true) s (fun t => t.on (TDL_CTRL_EN f) = true ∧ t.get (TDL_PI f) = 0 ∧ t.get (TDL_CI f) = 0 ∧ Map.get t.host.dirty [] f = [] ∧ OnlyRegs [TDL_CTRL_EN f, TDL_PI f, TDL_CI f] s t)) ∧
  (∀ (fn f : Nat) (s : State), s.Reaches fn 0x510 → exec (.dlEnable fn f false) s = .next (s.flag (TDL_CTRL_EN f) false)) ∧
  (∀ (fn f p : Nat) (s : State), s.Reaches fn 0x510 → s.on (TDL_CTRL_EN f) = true → bellConsume (p % 2 ^ 32) (s.get (TDL_CI f)) (s.get (TDL_PI f)) = .accepted → exec (.dlCiDoorbell fn f p) s = .next (s.set (TDL_CI f) p)) ∧
  (∀ (f agent page : Nat) (s : State), 1 ≤ f → f ≤ 8 → page ∉ Map.get s.host.dirty [] f → s.get (TDL_SIZE f) ≠ 0 → (s.get (TDL_PI f) + 2 ^ 32 - s.get (TDL_CI f)) % 2 ^ 32 ≠ s.get (TDL_SIZE f) → s.host.waitLinkReset = false → s.hostDenied 0 (s.pair (TDL_BASE_LO f) (TDL_BASE_HI f) + 8 * (s.get (TDL_PI f) % s.get (TDL_SIZE f))) 8 true = false → (s.get (TDL_PI f) + 1) % 64 ≠ 0 → (s.dirtyPage f agent page).host.out = s.host.out ++ [.write 0 (s.pair (TDL_BASE_LO f) (TDL_BASE_HI f) + 8 * (s.get (TDL_PI f) % s.get (TDL_SIZE f))) (leBytes 8 (page * 4096 + agent))] ∧
        (s.dirtyPage f agent page).get (TDL_PI f) = (s.get (TDL_PI f) + 1) % 2 ^ 32 ∧ Map.get (s.dirtyPage f agent page).host.dirty [] f = (page :: Map.get s.host.dirty [] f).take 4096) ∧
  (∀ (f agent page : Nat) (s : State), page ∈ Map.get s.host.dirty [] f → s.dirtyPage f agent page = s) ∧
  (∀ (f agent page : Nat) (s : State), 1 ≤ f → f ≤ 8 → page ∉ Map.get s.host.dirty [] f → (s.get (TDL_PI f) + 2 ^ 32 - s.get (TDL_CI f)) % 2 ^ 32 = s.get (TDL_SIZE f) → s.on (TDL_STAT_OVF f) = false → (s.dirtyPage f agent page).on (TDL_STAT_OVF f) = true ∧ (s.dirtyPage f agent page).shows 0 0x510 3 = true ∧ (s.dirtyPage f agent page).get (TDL_PI f) = s.get (TDL_PI f) ∧ (s.dirtyPage f agent page).host.dirty = s.host.dirty)

/-- O42, R493, R499, R500, R501, R502, R503, R506, R515. START begins training with the port's flags cleared, or is refused. Lane lock, alignment and the exchange move a port through its states; a record that differs gives MISMATCH and its bits; with both MATCHes the port enters DATA, resumed or in a new session. A lock lost in DATA, a training that times out take it DOWN with their cause. STOP, RECHECK, RESET_SEQ act in their states. -/
def Obligations.PortsTrainExchangeAndGoDown : Prop :=
  (∀ (fn p : Nat) (s : State), s.Reaches fn (portPage p) → p < 8 → s.startStatus p = .ok → s.get (SESSION p) ≠ 0 → s.get (PEER_SESSION p) ≠ 0 → Runs (.portStart fn p) s (fun t => t.get (PORT_STAT_STATE p) = 1 ∧ (t.port p).enc = s.on (PORT_CTRL_ENC_EN p) ∧ (t.port p).matched = false ∧ (t.port p).fresh = false ∧ t.get (PORT_LANES_LANE_LOCK p) = 0 ∧
        t.on (PORT_STAT_RESUMED p) = false ∧ t.get (PORT_STAT_MISMATCH p) = 0 ∧ t.get (SESSION p) = s.get (SESSION p) ∧ (t.port p).replay = (s.port p).replay)) ∧
  (∀ (fn p : Nat) (s : State), s.Reaches fn (portPage p) → p < 8 → s.startStatus p = .ok → (s.get (SESSION p) = 0 ∨ s.get (PEER_SESSION p) = 0) → Runs (.portStart fn p) s (fun t => t.get (PORT_STAT_STATE p) = 1 ∧ (t.port p).fresh = true ∧ t.get (SESSION p) ≠ 0 ∧ t.get (PORT_LANES_LANE_LOCK p) = 0)) ∧
  (∀ (fn p : Nat) (s : State), s.Reaches fn (portPage p) → p < 8 → s.startStatus p ≠ .ok → exec (.portStart fn p) s = .next (s.captureFn fn (portPage p) (s.startStatus p) ((PORT_CTRL_START p).addr % 4096) 1)) ∧
  (∀ (p st : Nat) (s : State), p < 8 → st < 7 → (s.setPortState p st).get (PORT_STAT_STATE p) = st ∧ (st = 5 ∧ s.get (PORT_STAT_STATE p) ≠ 5 → (s.setPortState p st).shows 0 (portPage p) 0 = true) ∧
        (st = 6 ∧ s.get (PORT_STAT_STATE p) ≠ 6 → (s.setPortState p st).shows 0 (portPage p) 1 = true) ∧ (st = 4 ∧ s.get (PORT_STAT_STATE p) ≠ 4 → (s.setPortState p st).shows 0 (portPage p) 2 = true) ∧
        (s.setPortState p st).on GRP_STAT_FORMED = (s.set (PORT_STAT_STATE p) st).formed) ∧
  (∀ (fn p : Nat) (s : State), s.Reaches fn (portPage p) → p < 8 → s.inData p = true → exec (.portStop fn p) s = .next ((s.setPort p { s.port p with leaving := true }).leaveCheck p)) ∧
  (∀ (fn p : Nat) (s : State), s.Reaches fn (portPage p) → p < 8 → s.inData p = false → exec (.portStop fn p) s = .next ((s.setPortState p 0).set (PORT_LANES_LANE_ACTIVE p) 0)) ∧
  (∀ (fn p : Nat) (s : State), s.Reaches fn (portPage p) → p < 8 → s.get (PORT_STAT_STATE p) = 4 → exec (.recheck fn p) s = .next (s.setPortState p 3)) ∧
  (∀ (fn p : Nat) (s : State), s.Reaches fn (portPage p) → p < 8 → s.get (PORT_STAT_STATE p) ≠ 4 → exec (.recheck fn p) s = .next (s.refuseWrite fn (PORT_CTRL_RECHECK p).addr 4)) ∧
  (∀ (fn p : Nat) (s : State), s.Reaches fn (portPage p) → p < 8 → (s.get (PORT_STAT_STATE p) = 0 ∨ s.get (PORT_STAT_STATE p) = 6) → exec (.resetSeq fn p) s = .next (((s.discardReplay p).set (SESSION p) 0).set (PEER_SESSION p) 0) ∧ ((s.discardReplay p).port p).replay = [] ∧ ((s.discardReplay p).port p).txWrite = none) ∧
  (∀ (p : Nat) (w : LinkWrite) (s : State), (s.port p).refs = [.write w] → (s.port p).queue.filter (followsLost [.write w]) = [] → w.origin = s.get GRP_MEMBER → s.link.leq.length < 64 → (s.discardReplay p).link.leq = s.link.leq ++ [{ status := Status.linkLost.code, kind := 1, flow := w.flow, fn := w.fn, member := s.get GRP_MEMBER, ref := w.lf, seq := w.seq, time := s.now }]) ∧
  (∀ (p : Nat) (s : State), s.Awake (portPage p) → p < 8 → s.get (PORT_STAT_STATE p) = 1 → exec (.laneLocked p) s = .next ((s.set (PORT_LANES_LANE_LOCK p) (s.get (PORT_LANES_LANE_MASK p))).setPortState p 2)) ∧
  (∀ (p locked : Nat) (s : State), s.Awake (portPage p) → p < 8 → s.get (PORT_STAT_STATE p) = 1 → Runs (.trainTimeout p locked) s (fun t => t.get (PORT_STAT_STATE p) = 6 ∧ t.get (PORT_STAT_DOWN_CAUSE p) = 7 ∧ t.get (DOWN_CNT p) = (s.get (DOWN_CNT p) + 1) % 2 ^ 32 ∧ t.get (PORT_LANES_LANE_LOCK p) = locked % 256 ∧
        t.shows 0 (portPage p) 1 = true ∧ (t.page (portPage p)).errCode = Status.linkLost.code ∧ t.work = s.work)) ∧
  (∀ (p : Nat) (s : State), s.Awake (portPage p) → p < 8 → s.get (PORT_STAT_STATE p) = 2 → exec (.alignDone p) s = .next (s.setPortState p 3)) ∧
  (∀ (p : Nat) (s : State), s.Awake (portPage p) → p < 8 → s.get (PORT_STAT_STATE p) = 3 → (s.port p).peerMatch = none → Runs (.exchSend p) s (fun t => (∃ f, t.link.out = s.link.out ++ [f] ∧ f.port = p ∧ f.seq = none ∧ f.body = .exch (s.exchRecord p ++ s.exchHmac p (s.exchRecord p))) ∧
        (t.port p).matchSent = (s.port p).matched ∧ t.get (TX_FLITS p) = (s.get (TX_FLITS p) + 1) % 2 ^ 32 ∧ t.get (PORT_STAT_STATE p) = 3)) ∧
  (∀ (p : Nat) (hd : FlitHdr) (rec : List Byte) (s : State), s.Awake (portPage p) → p < 8 → s.get (PORT_STAT_STATE p) = 3 → exec (.exch p hd rec) s = .next ((s.add (RX_FLITS p) 1).exchange p (takePad 108 rec))) ∧
  (∀ (p : Nat) (r : List Byte) (s : State), p < 8 → s.get (PORT_STAT_STATE p) = 3 → (s.capturePeer p r).mismatch p r ≠ 0 → (s.exchange p r).get (PORT_STAT_STATE p) = 4 ∧ (s.exchange p r).get (PORT_STAT_MISMATCH p) = (s.capturePeer p r).mismatch p r ∧ ((s.exchange p r).port p).matched = false ∧
        (s.exchange p r).shows 0 (portPage p) 2 = true ∧ (s.exchange p r).get (PEER_GROUP p) = hdr r 4 4 ∧ ((s.exchange p r).page (portPage p)).errInfo0 = (s.capturePeer p r).mismatch p r) ∧
  (∀ (p ps pe : Nat) (pr : Bool) (s : State), (s.port p).peerMatch = some (pr, ps, pe) → (s.port p).rxBuf = [] → (s.port p).arrival = none → (s.port p).matched = true → (s.port p).matchSent = true → pr = (s.port p).resumeOk → ((s.port p).resumeOk = true ∨ (s.port p).fresh = true) → s.tryData p = s.enterData p (s.port p).resumeOk ps pe) ∧
  (∀ (p ps pe : Nat) (s : State), p < 8 → (s.port p).replay = [] → (s.enterData p false ps pe).inData p = true ∧ ((s.enterData p false ps pe).port p).tx = 0 ∧ ((s.enterData p false ps pe).port p).rx = 0 ∧ ((s.enterData p false ps pe).port p).credits = (512, 384, 128) ∧
        (s.enterData p false ps pe).get (PEER_SESSION p) = ps % 2 ^ 32 ∧ (s.enterData p false ps pe).on (PORT_STAT_RESUMED p) = false ∧ (s.enterData p false ps pe).get (PORT_LANES_LANE_ACTIVE p) = s.get (PORT_LANES_LANE_MASK p) % 256) ∧
  (∀ (p ps pe : Nat) (r : Replay) (s : State), p < 8 → (s.port p).replay = [r] → pe ≤ r.seq → ((s.enterData p true ps pe).port p).replay = voidItems [r] ∧ ((s.enterData p true ps pe).port p).resend = some r.seq ∧ ((s.enterData p true ps pe).port p).tx = (s.port p).tx ∧ ((s.enterData p true ps pe).port p).rx = (s.port p).rx ∧
        (s.enterData p true ps pe).on (PORT_STAT_RESUMED p) = true) ∧
  (∀ (p l : Nat) (s : State), s.Awake (portPage p) → p < 8 → (s.inData p = false ∨ bitOf (s.get (PORT_LANES_LANE_ACTIVE p)) (l % 8) = false) → Runs (.lockLost p l) s (fun t => bitOf (t.get (PORT_LANES_LANE_LOCK p)) (l % 8) = false ∧ (∀ i, i < 8 → i ≠ l % 8 → bitOf (t.get (PORT_LANES_LANE_LOCK p)) i = bitOf (s.get (PORT_LANES_LANE_LOCK p)) i) ∧ OnlyRegs [PORT_LANES_LANE_LOCK p] s t ∧ t.link = s.link)) ∧
  (∀ (p l m : Nat) (s : State), s.Awake (portPage p) → p < 8 → s.inData p = true → bitOf (s.get (PORT_LANES_LANE_ACTIVE p)) (l % 8) = true → m = s.get (PORT_LANES_LANE_LOCK p) → exec (.lockLost p l) s = .next (((s.set (PORT_LANES_LANE_LOCK p) (if bitOf m (l % 8) then m - 2 ^ (l % 8) else m)).linkDown p 1).fault 7 .linkLost 0 0 0 p (l % 8))) ∧
  (∀ (p cause : Nat) (s : State), p < 8 → cause < 8 → (s.linkDown p cause).get (PORT_STAT_DOWN_CAUSE p) = cause ∧ ((s.linkDown p cause).page (portPage p)).errCode = Status.linkLost.code ∧ ((s.linkDown p cause).page (portPage p)).errInfo0 = cause ∧
        (s.inData p = true → ((s.linkDown p cause).port p).sending = none ∧ ((s.linkDown p cause).port p).leaving = false ∧ ((s.port p).rxBuf = [] → (s.port p).arrival.all (fun a => decide (a.bytes.length < a.len)) = true → ((s.linkDown p cause).port p).arrival = none))) ∧
  (∀ (p : Nat) (s : State), s.inData p = true → (s.port p).leaveSent = true → (s.port p).leaveGot = true → (s.port p).leaveAcked = true → (s.port p).replay = [] → s.leaveCheck p = (s.leaveData p 0).set (PORT_STAT_DOWN_CAUSE p) 5)

/-- O43, R170, R486, R491, R494, R497, R505, R506, R510, R511, R512, R513. A flit below the expected number is acknowledged and discarded; one beyond it is discarded and a RETRY is owed; the expected one takes a receive buffer, its ACK and credits take effect, and in sequence order, once nothing holds it, it does what its type says: an item is built and commits, a write is made at its home, a signal applied, a notice logged, lanes and keys change, a LEAVE is noted, a VOID is discarded. -/
def Obligations.SequencedFlitsAreAppliedOnceInOrder : Prop :=
  (∀ (c : Instr) (p : Nat) (hd : FlitHdr) (s : State), flitOf c = some (p, hd) → s.Awake (portPage p) → s.inData p = true → nearest (s.port p).rx hd.seq < (s.port p).rx → exec c s = .next (s.flitIn p hd)) ∧
  (∀ (c : Instr) (p : Nat) (hd : FlitHdr) (s : State), flitOf c = some (p, hd) → s.Awake (portPage p) → s.inData p = true → (s.port p).rx < nearest (s.port p).rx hd.seq → exec c s = .next ((s.flitIn p hd).setPort p { (s.flitIn p hd).port p with retry := true })) ∧
  (∀ (c : Instr) (p : Nat) (hd : FlitHdr) (f : FlitBody) (s : State), flitOf c = some (p, hd) → contentOf c = some f → Expected s p hd → exec c s = .next ((received s p hd f).rxGo p)) ∧
  (∀ (p : Nat) (s : State), s.rxReady p = false → s.rxGo p = s) ∧
  (∀ (p : Nat) (f : FlitBody) (s : State), (s.port p).rxBuf = [f] → s.rxReady p = true → s.rxGo p = (s.setPort p { s.port p with rxBuf := [] }).applyFlit p f) ∧
  (∀ (p : Nat) (f : FlitBody) (q : List FlitBody) (s : State), (s.port p).rxBuf = f :: q → s.rxReady p = ((s.port p).arrival.all (fun a => !a.waiting) && s.flitReady p f)) ∧
  (∀ (p : Nat) (hd : FlitHdr) (s : State), (s.port p).replay = [] → (s.port p).leaveSent = false → hd.vc < 3 → s.flitIn p hd = (s.add (RX_FLITS p) 1).setPort p { s.port p with credits := vcSet (s.port p).credits hd.vc (min (vcGet (s.port p).credits hd.vc + hd.count) (vcGet vcBuffers hd.vc)) }) ∧
  (∀ (p n : Nat) (s : State), p < 8 → (∀ r ∈ (s.port p).replay, ∀ c k, r.ref ≠ .item c k true) → ((s.ackBelow p n).port p).replay = (s.port p).replay.filter (fun r => !decide (r.seq < n)) ∧ (s.ackBelow p n).work = s.work) ∧
  (∀ (p : Nat) (h b : List Byte) (s : State), s.applyFlit p (.itemHead h b) = s.itemHead p h b ∧ s.applyFlit p (.itemData b) = s.itemData p b ∧ s.applyFlit p .voided = s) ∧
  (∀ (p : Nat) (h b : List Byte) (a : Arrival) (s : State), p < 8 → (s.port p).arrival = none → a.chain = s.get (RX_CHAIN_MAP_CHAIN p (hdr h 13 1)) → a = { member := hdr h 12 1, src := hdr h 13 1, enq := hdr h 8 4, flow := hdr h 6 2 % 4096, chain := s.get (RX_CHAIN_MAP_CHAIN p (hdr h 13 1)), header := h, len := hdr h 0 4 % 2 ^ 28, bytes := b.take (hdr h 0 4 % 2 ^ 28) } → s.arrivalStatus p a (s.on (RX_CHAIN_MAP_VALID p (hdr h 13 1))) = .ok → s.cellNow a.chain = true → a.bytes.length < a.len → ∃ k x, ((s.itemHead p h b).port p).arrival = some { a with cell := some k, id := s.work.nextCell } ∧ Map.find (s.itemHead p h b).work.cells k = some x ∧ x.chain = a.chain ∧ x.state = .building ∧ x.header = h ∧
        ((s.itemHead p h b).port p).owed.1 = (s.port p).owed.1 + 1) ∧
  (∀ (p k : Nat) (b : List Byte) (a : Arrival) (x : Cell) (s u : State), p < 8 → (s.port p).arrival = some a → a.waiting = false → a.cell = some k → a.bytes.length + b.length = a.len → Map.find s.work.cells k = some x → x.id = a.id → x.chain = a.chain → x.state = .building → a.chain < 256 → ((((s.setPort p { s.port p with arrival := some { a with bytes := a.bytes ++ b } }).owe p 0 1).setPort p { ((s.setPort p { s.port p with arrival := some { a with bytes := a.bytes ++ b } }).owe p 0 1).port p with arrival := none })).hbmWrite (.home 2) (s.chainHolder a.chain) 0 0 (s.payAddr x 0) ((a.bytes ++ b) ++ List.replicate ((128 - a.len % 128) % 128) 0) = (u, .ok) → ((s.itemData p b).port p).arrival = none ∧ (∃ y, Map.find (s.itemData p b).work.cells k = some y ∧ y.state = .ready ∧ hdr y.header 0 4 = a.len % 2 ^ 32 ∧ hdr y.header 12 1 = a.member % 256 ∧ hdr y.header 13 1 = a.src % 256)) ∧
  (∀ (p : Nat) (w : LinkWrite) (b : List Byte) (s : State), s.applyFlit p (.lwrHead w b) = s.writeBytesIn p w b 1) ∧
  (∀ (p n : Nat) (w : LinkWrite) (b : List Byte) (s : State), (b.length < w.len → s.writeBytesIn p w b n = s.setPort p { s.port p with rxWrite := some (w, b, n) }) ∧
        (w.len ≤ b.length → s.writeBytesIn p w b n = ((s.setPort p { s.port p with rxWrite := none }).linkWritten w (b.take w.len)).owe p 1 n)) ∧
  (∀ (w : LinkWrite) (b : List Byte) (s u : State), w.dest = s.get GRP_MEMBER → s.lwrStatus w = .ok → s.hbmWrite (.home 2) (s.get (LF_RX0_FN w.lf)) 0 0 (s.get (LF_RX0_FBASE w.lf) * 4096 + w.off) b = (u, .ok) → s.linkWritten w b = u) ∧
  (∀ (w : LinkWrite) (b : List Byte) (s : State), w.dest = s.get GRP_MEMBER → s.lwrStatus w = .badAddr → s.linkWritten w b = s.writeNotice w .badAddr) ∧
  (∀ (p n : Nat) (w : LinkWrite) (a b : List Byte) (s : State), ((s.port p).rxWrite = some (w, a, n) → s.applyFlit p (.lwrData b) = s.writeBytesIn p w (a ++ b) (n + 1)) ∧ ((s.port p).rxWrite = none → s.applyFlit p (.lwrData b) = s.owe p 1 1)) ∧
  (∀ (p : Nat) (g : LinkSignal) (s : State), s.applyFlit p (.lsig g) = (s.signalIn g).owe p 2 1) ∧
  (∀ (g : LinkSignal) (s : State), g.dest = s.get GRP_MEMBER → bitOf (s.get (SY_REMOTE_EN (g.ctr % 4096 / 2048))) (g.ctr % 4096 / 64 % 32) = true → s.ctrHolder (g.ctr % 4096) < 9 → s.signalIn g = s.ctrOp .signal (g.ctr % 4096) (g.value % 65536)) ∧
  (∀ (p : Nat) (n : LinkNotice) (s : State), s.applyFlit p (.notice n) = (s.noticeIn n).owe p 2 1) ∧
  (∀ (n : LinkNotice) (s : State), n.dest = s.get GRP_MEMBER → s.link.leq.length < 64 → s.noticeIn n = s.takeNotice n ∧ (s.logNotice n).link.leq = s.link.leq ++ [{ status := n.status, kind := n.kind, flow := n.flow % 4096, fn := n.fn % 16, member := n.reporter, ref := n.ref % 4096, seq := n.seq, time := s.now }] ∧
        s.takeNotice n = (if n.status = Status.linkLost.code then s.staleFlow (n.flow % 4096) else (s.logNotice n).noticeFlow (n.flow % 4096))) ∧
  (∀ (p m : Nat) (hd : FlitHdr) (s : State), FlitNext s p hd → p < 8 → m % 256 ≠ 0 → Runs (.lane p hd m) s (fun t => t.get (PORT_LANES_LANE_MASK p) = m % 256 ∧ t.get (PORT_LANES_LANE_ACTIVE p) = m % 256 ∧
        ((m % 256) &&& (255 - (accepted s p hd).get (PORT_LANES_LANE_MASK p)) ≠ 0 → t.shows 0 (portPage p) 4 = true))) ∧
  (∀ (p m : Nat) (hd : FlitHdr) (s : State), FlitNext s p hd → p < 8 → m % 256 = 0 → exec (.lane p hd m) s = .next (((accepted s p hd).owe p 2 1).linkDown p 4)) ∧
  (∀ (p : Nat) (hd : FlitHdr) (s : State), FlitNext s p hd → p < 8 → (accepted s p hd).on (PORT_STAT_KEY_NEXT p) = true → Runs (.key p hd) s (fun t => (t.port p).curKeys = ((accepted s p hd).port p).nextKeys ∧ (t.port p).nextKeys = [] ∧ t.on (PORT_STAT_KEY_NEXT p) = false ∧ t.on (PORT_STAT_KEY_CUR p) = true)) ∧
  (∀ (p : Nat) (s : State), (s.owe p 2 1).inData p = true → s.applyFlit p .leave = ((s.owe p 2 1).setPort p { (s.owe p 2 1).port p with leaving := true, leaveGot := true }).leaveCheck p)

/-- O44, R171, R175, R485, R486, R491, R492, R493, R494, R522, R523. IDLE carries acknowledgement and credits; TSYNC gives the skew and its maximum; RETRY makes the sender resend from the number asked, or takes the link DOWN; a bad flit is counted and a RETRY owed; an undefined type is a protocol error. A port takes its chain's head item; a new sequenced flit spends a credit and stays in the replay buffer until acknowledged; a resend goes out unchanged; timeouts resend or end the link. -/
def Obligations.FlitsOutsideTheSequenceAndSending : Prop :=
  (∀ (p : Nat) (hd : FlitHdr) (s : State), s.Awake (portPage p) → p < 8 → s.inData p = true → (s.flitIn p hd).inData p = true → exec (.idle p hd) s = .next (s.flitIn p hd)) ∧
  (∀ (p : Nat) (hd : FlitHdr) (t1 : TsyncTime) (s : State), s.Awake (portPage p) → p < 8 → s.inData p = true → (s.flitIn p hd).inData p = true → exec (.tsync p hd t1 none) s = .next ((s.flitIn p hd).setPort p { (s.flitIn p hd).port p with echo := some (⟨s.time.sec, s.time.ns⟩, t1) })) ∧
  (∀ (p : Nat) (hd : FlitHdr) (t1 t3 t4 : TsyncTime) (k : Int) (s : State), s.Awake (portPage p) → p < 8 → s.inData p = true → (s.flitIn p hd).inData p = true → (((s.time.sec : Int) * 1000000000 + s.time.ns) - ((t1.sec : Int) * 1000000000 + t1.ns)) - (((t4.sec : Int) * 1000000000 + t4.ns) - ((t3.sec : Int) * 1000000000 + t3.ns)) = 2 * k → Runs (.tsync p hd t1 (some (t4, t3))) s (fun t => t.get (PORT_SKEW p) = toSigned32 k % 2 ^ 32 ∧ t.get TB_SKEW_MAX = max ((s.flitIn p hd).get TB_SKEW_MAX) (k.natAbs % 2 ^ 32) % 2 ^ 32 ∧ (t.port p).echo = some (⟨s.time.sec, s.time.ns⟩, t1))) ∧
  (∀ (p : Nat) (s : State), s.Awake (portPage p) → p < 8 → s.get (PORT_STAT_STATE p) = 5 → Runs (.tsyncSend p) s (fun t => ∃ f, t.link.out = s.link.out ++ [f] ∧ f.port = p ∧ f.seq = none ∧ f.ack = (s.port p).rx % 2 ^ 24 ∧ f.body = .tsync ⟨s.time.sec, s.time.ns⟩ (s.port p).echo)) ∧
  (∀ (p want : Nat) (hd : FlitHdr) (r : Replay) (rs : List Replay) (s : State), s.Awake (portPage p) → p < 8 → s.inData p = true → (s.flitIn p hd).inData p = true → ((s.flitIn p hd).port p).replay = r :: rs → r.seq ≤ want → want < ((s.flitIn p hd).port p).tx → exec (.retry p hd want) s = .next (if want = r.seq ∧ 16 ≤ ((s.flitIn p hd).port p).resends then (s.flitIn p hd).linkDown p 2 else (s.flitIn p hd).setPort p { (s.flitIn p hd).port p with resend := some want })) ∧
  (∀ (p want : Nat) (hd : FlitHdr) (r : Replay) (rs : List Replay) (s : State), s.Awake (portPage p) → p < 8 → s.inData p = true → (s.flitIn p hd).inData p = true → ((s.flitIn p hd).port p).replay = r :: rs → want < r.seq → exec (.retry p hd want) s = .next ((s.flitIn p hd).linkDown p 4)) ∧
  (∀ (p : Nat) (s : State), s.Awake (portPage p) → p < 8 → s.inData p = true → Runs (.badCrcFlit p) s (fun t => t.get (RX_FLITS p) = (s.get (RX_FLITS p) + 1) % 2 ^ 32 ∧ t.get (CRC_ERR_CNT p) = (s.get (CRC_ERR_CNT p) + 1) % 2 ^ 32 ∧ (t.port p).retry = true ∧ (t.port p).rx = (s.port p).rx ∧ OnlyRegs [RX_FLITS p, CRC_ERR_CNT p] s t)) ∧
  (∀ (p : Nat) (s : State), s.Awake (portPage p) → p < 8 → s.get (PORT_STAT_STATE p) = 5 → exec (.undefinedTypeFlit p) s = .next ((s.add (RX_FLITS p) 1).linkDown p 4)) ∧
  (∀ (p c k : Nat) (x : Cell) (d : ChainDesc) (s : State), s.Awake (portPage p) → p < 8 → s.stall = false → s.inData p = true → s.portStopping p = false → (s.port p).sending = none → s.takeOpen c 1 = true → (s.chain c).desc = some d → d.sinkPort = p → s.headItem c = some (k, x) → Runs (.chainTake p c) s (fun t => (t.port p).sending = some (c, k, none) ∧ Map.find t.work.cells k = some { x with state := .inUse, take := s.get (CH_TAKE_SEQ x.chain) } ∧
        t.get (CH_TAKE_SEQ x.chain) = (s.get (CH_TAKE_SEQ x.chain) + 1) % 2 ^ 32 ∧ OnlyRegs [CH_TAKE_SEQ x.chain] s t)) ∧
  (∀ (p : Nat) (s : State), s.Awake (portPage p) → p < 8 → s.get (PORT_STAT_STATE p) = 5 → (s.port p).resend = none → s.sendHeld p = false → s.maySend p 0 = true → exec (.portTransmit p 0) s = .next (s.sendItem p)) ∧
  (∀ (p k c : Nat) (x : Cell) (b : List Byte) (s u : State), p < 8 → (s.port p).sending = some (c, k, none) → (s.port p).enc = false → Map.find s.work.cells k = some x → hdr x.header 0 4 ≤ 168 → s.hbmRead (.home 2) (s.chainHolder c) 0 0 (s.payAddr x 0) (hdr x.header 0 4) = (u, .ok, b) → u.link = s.link → ∃ f, (s.sendItem p).link.out = s.link.out ++ [f] ∧ f.seq = some (s.port p).tx ∧ f.body = .itemHead (u.wireHeader c x.header) b ∧ ((s.sendItem p).port p).tx = (s.port p).tx + 1 ∧ ((s.sendItem p).port p).credits.1 = (s.port p).credits.1 - 1 ∧
        ((s.sendItem p).port p).replay = (s.port p).replay ++ [⟨(s.port p).tx, 0, f, .item c x.id true⟩] ∧ ((s.sendItem p).port p).sending = none) ∧
  (∀ (p n src : Nat) (s : State), s.Awake (portPage p) → p < 8 → s.get (PORT_STAT_STATE p) = 5 → (s.port p).resend = some n → src < 2 → exec (.portTransmit p src) s = .next (s.resendNext p n)) ∧
  (∀ (p n : Nat) (r : Replay) (s : State), (s.port p).replay.find? (fun r => decide (n ≤ r.seq)) = some r → (s.resendNext p n).link.out = s.link.out ++ [r.flit] ∧ ((s.resendNext p n).port p).replay = (s.port p).replay ∧ ((s.resendNext p n).port p).credits = (s.port p).credits ∧ ((s.resendNext p n).port p).tx = (s.port p).tx) ∧
  (∀ (p : Nat) (s : State), s.Awake (portPage p) → p < 8 → s.get (PORT_STAT_STATE p) = 5 → (s.port p).resend = none → exec (.portTransmit p 1) s = .next ((s.sendMessage p).leaveCheck p)) ∧
  (∀ (p : Nat) (g : LinkSignal) (q : List LinkMsg) (s : State), p < 8 → (s.port p).txWrite = none → (s.port p).queue = .signal g :: q → s.maySend p 2 = true → ∃ f, (s.sendMessage p).link.out = s.link.out ++ [f] ∧ f.seq = some (s.port p).tx ∧ f.body = .lsig g ∧ ((s.sendMessage p).port p).tx = (s.port p).tx + 1 ∧ ((s.sendMessage p).port p).queue = q ∧
        ((s.sendMessage p).port p).replay = (s.port p).replay ++ [⟨(s.port p).tx, 2, f, .signal g⟩] ∧ ((s.sendMessage p).port p).credits.2.2 = (s.port p).credits.2.2 - 1) ∧
  (∀ (p src : Nat) (s : State), s.Awake (portPage p) → p < 8 → s.get (PORT_STAT_STATE p) = 5 → 2 ≤ src → (s.port p).leaveSent = false → Runs (.portTransmit p src) s (fun t => (∃ f, t.link.out = s.link.out ++ [f] ∧ f.seq = none ∧ f.ack = (s.port p).rx % 2 ^ 24 ∧ f.body = (if (s.port p).retry then .retry (s.port p).rx else .idle)) ∧ (t.port p).retry = false ∧
        t.get (RETRY_CNT p) = (s.get (RETRY_CNT p) + b2n (s.port p).retry) % 2 ^ 32 ∧ t.get (TX_FLITS p) = (s.get (TX_FLITS p) + 1) % 2 ^ 32 ∧ (t.port p).tx = (s.port p).tx)) ∧
  (∀ (p : Nat) (r : Replay) (rs : List Replay) (s : State), s.Awake (portPage p) → p < 8 → s.get (PORT_STAT_STATE p) = 5 → (s.port p).replay = r :: rs → exec (.resendTimeout p) s = .next (if 16 ≤ (s.port p).resends then s.linkDown p 2 else s.setPort p { s.port p with resend := some r.seq })) ∧
  (∀ (p : Nat) (s : State), s.Awake (portPage p) → p < 8 → s.get (PORT_STAT_STATE p) = 5 → (s.port p).replay ≠ [] → exec (.ackTimeout p) s = .next (s.linkDown p 3))

/-- O45, R495, R497, R504, R505, R517, R520, R526. LANE_ADD and LANE_REMOVE are refused outside DATA and while BUSY; a lane that locks joins by a LANE flit, one that fails ends the ADD. FEC counts add up, a lane above its limit is reported. Derived keys become NEXT in DATA, else CUR. The digest covers R517's bytes. ARM and DISARM set the epoch. A late-error pop reads the oldest entry. -/
def Obligations.LanesKeysAndTheGroup : Prop :=
  (∀ (fn p l : Nat) (s : State), s.Reaches fn (portPage p) → p < 8 → s.laneRefused p = false → exec (.laneAdd fn p l) s = .next ((s.setPort p { s.port p with adding := some (l % 8) }).flag (PORT_LANES_LANE_BUSY p) true)) ∧
  (∀ (fn p l : Nat) (s : State), s.Reaches fn (portPage p) → p < 8 → s.laneRefused p = true → exec (.laneAdd fn p l) s = .next (s.refuseWrite fn (PORT_LANES_LANE_MASK p).addr (2 ^ 24 * (l % 8) + 2 ^ 28))) ∧
  (∀ (p l : Nat) (s : State), s.Awake (portPage p) → p < 8 → s.get (PORT_STAT_STATE p) = 5 → (s.port p).adding = some l → l < 8 → Runs (.laneAddDone p true) s (fun t => bitOf (t.get (PORT_LANES_LANE_LOCK p)) l = true ∧ (t.port p).queue = (s.port p).queue ++ [.lane (s.get (PORT_LANES_LANE_MASK p) ||| 2 ^ l)] ∧ OnlyRegs [PORT_LANES_LANE_LOCK p] s t)) ∧
  (∀ (p l : Nat) (s : State), s.Awake (portPage p) → p < 8 → s.get (PORT_STAT_STATE p) = 5 → (s.port p).adding = some l → Runs (.laneAddDone p false) s (fun t => (t.port p).adding = none ∧ t.on (PORT_LANES_LANE_BUSY p) = false ∧ t.on (PORT_LANES_LANE_RESULT p) = true ∧ t.shows 0 (portPage p) 4 = true ∧
        OnlyRegs [PORT_LANES_LANE_BUSY p, PORT_LANES_LANE_RESULT p] s t)) ∧
  (∀ (fn p l n : Nat) (s : State), s.Reaches fn (portPage p) → p < 8 → s.laneRefused p = false → n = (if bitOf (s.get (PORT_LANES_LANE_MASK p)) (l % 8) then s.get (PORT_LANES_LANE_MASK p) - 2 ^ (l % 8) else s.get (PORT_LANES_LANE_MASK p)) → n ≠ 0 → exec (.laneRemove fn p l) s = .next ((s.enqueueMsg p (.lane n)).flag (PORT_LANES_LANE_BUSY p) true)) ∧
  (∀ (p : Nat) (counts : List Nat) (s : State), s.Awake (portPage p) → p < 8 → (∀ i, i < 8 → counts.getD i 0 ≤ s.get (PORT_LANE_WARN p)) → Runs (.laneFecWindow p counts) s (fun t => (∀ i, i < 8 → t.get (LANE_FEC_CNT p i) = (s.get (LANE_FEC_CNT p i) + counts.getD i 0) % 2 ^ 32) ∧ t.get (FEC_CORR_CNT p) = (s.get (FEC_CORR_CNT p) + ((List.range 8).map (counts.getD · 0)).sum) % 2 ^ (FEC_CORR_CNT p).width ∧
        OnlyRegs ((FEC_CORR_CNT p) :: (List.range 8).map (LANE_FEC_CNT p)) s t)) ∧
  (∀ (p l : Nat) (counts : List Nat) (s : State), s.Awake (portPage p) → p < 8 → l < 8 → s.get (PORT_LANE_WARN p) < counts.getD l 0 → (∀ i, i < 8 → i ≠ l → counts.getD i 0 ≤ s.get (PORT_LANE_WARN p)) → s.faultLog.length < 64 → Runs (.laneFecWindow p counts) s (fun t => t.shows 0 (portPage p) 3 = true ∧
        t.faultLog = s.faultLog ++ [{ cls := 7, status := 0, fn := 0, lcore := 0, pslot := 0, array := 0, port := p, index := l, time := s.now }])) ∧
  (∀ (fn p : Nat) (k : KeySlot) (s : State), s.Reaches fn (portPage p) → p < 8 → s.on (PORT_KEY_BUSY p) = false → s.domOn 4 = true → s.sluiceHeld = false → s.behind (portPage p) = false → k = s.slot (s.get (PORT_KEY_SLOT p)) → k.cls = 7 → k.key ≠ [] → s.slotHolder (s.get (PORT_KEY_SLOT p)) = 0 → k.bad = false → exec (.portKeyLoad fn p) s = .next ((s.setPort p { s.port p with newKeys := some (s.portKeys p k.key) }).flag (PORT_KEY_BUSY p) true)) ∧
  (∀ (fn p : Nat) (s : State), s.Reaches fn (portPage p) → p < 8 → s.on (PORT_KEY_BUSY p) = false → s.domOn 4 = true → s.sluiceHeld = false → s.behind (portPage p) = false → (s.slotHolder (s.get (PORT_KEY_SLOT p)) ≠ 0 ∨ ((s.slot (s.get (PORT_KEY_SLOT p))).bad = false ∧ ((s.slot (s.get (PORT_KEY_SLOT p))).cls ≠ 7 ∨ (s.slot (s.get (PORT_KEY_SLOT p))).key = []))) → exec (.portKeyLoad fn p) s = .next (s.capture (portPage p) .keyDenied (s.get (PORT_KEY_SLOT p)) 0)) ∧
  (∀ (p : Nat) (k : List Byte) (s : State), s.Awake (portPage p) → p < 8 → (s.port p).newKeys = some k → Runs (.portKeyDone p) s (fun t => (t.port p).newKeys = none ∧ (s.inData p = true → (t.port p).nextKeys = k ∧ t.on (PORT_STAT_KEY_NEXT p) = true ∧ (t.port p).curKeys = (s.port p).curKeys) ∧
        (s.inData p = false → (t.port p).curKeys = k ∧ t.on (PORT_STAT_KEY_CUR p) = true ∧ (t.port p).nextKeys = (s.port p).nextKeys) ∧ t.on (PORT_KEY_BUSY p) = false ∧ t.shows 0 (portPage p) 5 = true ∧
        OnlyRegs [PORT_STAT_KEY_NEXT p, PORT_STAT_KEY_CUR p, PORT_KEY_BUSY p] s t)) ∧
  (∀ (fn p : Nat) (s : State), s.Reaches fn (portPage p) → p < 8 → s.inData p = true → s.on (PORT_STAT_KEY_NEXT p) = true → exec (.portRekey fn p) s = .next (s.enqueueMsg p .key)) ∧
  (∀ (fn : Nat) (s : State), s.Reaches fn 0x680 → s.quiet 0x680 = false → s.behind 0x680 = false → exec (.digestUpdate fn) s = .next { s with link := { s.link with digesting := true, formedOnce := false } }) ∧
  (∀ (s : State), s.Awake 0x680 → s.link.digesting = true → Runs .digestDone s (fun t => t.link.digesting = false ∧ t.on GRP_STAT_DIGEST_VALID = true ∧ t.shows 0 0x680 5 = true ∧
        (∀ i, i < 8 → t.get (GRP_DIGEST i) = leNat (((sha256 s.groupConfig).drop (4 * i)).take 4)) ∧ t.on GRP_STAT_FORMED = (List.range 8).all (fun p => !s.on (PORT_CTRL_REQUIRED p) || s.inData p))) ∧
  (∀ (fn : Nat) (s : State), s.Reaches fn 0x680 → s.on GRP_STAT_EPOCH_ARMED = false → s.deliveredTick < s.pair GRP_EPOCH_TICK_LO GRP_EPOCH_TICK_HI → Runs (.epochArm fn) s (fun t => t.link.armed = some (s.pair GRP_EPOCH_NEXT_LO GRP_EPOCH_NEXT_HI, s.pair GRP_EPOCH_TICK_LO GRP_EPOCH_TICK_HI) ∧ t.on GRP_STAT_EPOCH_ARMED = true ∧ OnlyRegs [GRP_STAT_EPOCH_ARMED] s t)) ∧
  (∀ (fn : Nat) (s : State), s.Reaches fn 0x680 → s.on GRP_STAT_EPOCH_ARMED = true → exec (.epochArm fn) s = .next (s.refuseWrite fn GRP_CMD_EPOCH_ARM.addr 2)) ∧
  (∀ (v tick due : Nat) (s : State), s.link.armed = some (v, due) → due ≤ tick → s.quiet 0x680 = false → (s.epochTick tick).get GRP_EPOCH_LO = v % 2 ^ 32 ∧ (s.epochTick tick).get GRP_EPOCH_HI = v / 2 ^ 32 % 2 ^ 32 ∧ (s.epochTick tick).on GRP_STAT_EPOCH_ARMED = false ∧ (s.epochTick tick).link.armed = none ∧ (s.epochTick tick).shows 0 0x680 4 = true) ∧
  (∀ (fn : Nat) (s : State), s.Reaches fn 0x680 → exec (.epochDisarm fn) s = .next ({ s with link := { s.link with armed := none, epochDue := false } }.flag GRP_STAT_EPOCH_ARMED false)) ∧
  (∀ (fn : Nat) (e : LateErr) (q : List LateErr) (s : State), s.Reaches fn 0x680 → s.link.leq = e :: q → Runs (.leqPop fn) s (fun t => t.readData = e.status + 256 * (e.kind % 4) + 2 ^ 10 * e.flow + 2 ^ 22 * e.fn + 2 ^ 31 ∧ t.link.leq = q ∧ t.get LEQ_REF = (e.member + 256 * e.ref) % 2 ^ 20 ∧ t.get LEQ_SEQ = e.seq % 2 ^ 32 ∧
        t.get LEQ_TIME_NS = e.time.ns % 2 ^ 30 ∧ t.get LEQ_TIME_SEC = e.time.sec % 2 ^ 32 ∧ OnlyRegs [LEQ_REF, LEQ_SEQ, LEQ_TIME_NS, LEQ_TIME_SEC] s t)) ∧
  (∀ (fn : Nat) (s : State), s.Reaches fn 0x680 → s.link.leq = [] → exec (.leqPop fn) s = .next { s with readData := 0 })

/-- O46, R529, R531, R532, R534, R536, R538, R557, R558. An accepted ON puts a domain in TRANSIT, and the first ON of PD_SHARED takes SU_STATE to BRINGUP; an accepted RETAIN or OFF makes the domain leave and lose what it holds. PWR_DONE completes the transition with its result, event and domain. A refused command leaves its status and captures it. READY follows its conditions. -/
def Obligations.PowerCommandsMoveDomains : Prop :=
  (∀ (fn d : Nat) (s : State), PowerOpen s fn → 1 ≤ d → d ≤ 7 → s.pwrStatus false d 1 false = .ok → (s.dom d).code ≠ 1 → Runs (.pwrOn fn d) s (fun t => t.dom d = .transit (s.dom d).code 1 false ∧ (∀ e, e ≠ d → t.dom e = s.dom e) ∧ t.get SU_STATE = (if d = 7 ∧ s.get SU_STATE = 2 then 3 else s.get SU_STATE) ∧ OnlyRegs [SU_STATE] s t ∧ t.work = s.work ∧ t.mem = s.mem)) ∧
  (∀ (fn d : Nat) (s : State), PowerOpen s fn → 1 ≤ d → d ≤ 7 → s.pwrStatus false d 1 false ≠ .ok → Runs (.pwrOn fn d) s (fun t => t.get (PWR_RESULT_STATUS d) = (s.pwrStatus false d 1 false).code ∧ t.get (PWR_RESULT_OP d) = 1 ∧ (t.page 1).errCode = (s.pwrStatus false d 1 false).code ∧ t.power = s.power ∧
        OnlyRegs [PWR_RESULT_STATUS d, PWR_RESULT_OP d] s t)) ∧
  (∀ (fn d : Nat) (force : Bool) (s : State), PowerOpen s fn → 1 ≤ d → d ≤ 7 → s.pwrStatus false d 2 force = .ok → s.dom d = .on → exec (.pwrRetain fn d force) s = .next ((((s.leave d force).lose d true).setDom d (.transit 1 2 force)).readyRefresh)) ∧
  (∀ (fn d : Nat) (force : Bool) (s : State), s.Reaches fn 1 → s.quiet 1 = false → 1 ≤ d → d ≤ 7 → (force = true ∨ (s.stall = false ∧ s.behind 1 = false)) → s.pwrStatus false d 3 force = .ok → s.dom d = .on → exec (.pwrOff fn d force) s = .next ((((s.leave d force).lose d false).setDom d (.transit 1 3 force)).readyRefresh)) ∧
  (∀ (fn d : Nat) (force : Bool) (s : State), PowerOpen s fn → 1 ≤ d → d ≤ 7 → s.pwrStatus false d 3 force = .ok → s.dom d = .off → exec (.pwrOff fn d force) s = .next (s.pwrEnds d 3)) ∧
  (∀ (fn d : Nat) (s : State), s.Reaches fn 1 → s.stall = true ∨ s.quiet 1 = true → exec (.pwrOn fn d) s = .next { s with held := s.held ++ [(1, .pwrOn fn d)] }) ∧
  (∀ (d x op : Nat) (force : Bool) (r : StartReport) (s : State), 1 ≤ d → d ≤ 7 → op ≠ 1 → s.dom d = .transit x op force → Runs (.pwrDone d r) s (fun t => t.dom d = (if op = 2 then .retain else .off) ∧ t.get (PWR_RESULT_STATUS d) = 0 ∧ t.get (PWR_RESULT_OP d) = op % 4 ∧ t.shows 0 1 3 = true ∧ (t.page 1).errInfo0 = d ∧
        OnlyRegs [PWR_RESULT_STATUS d, PWR_RESULT_OP d, SU_STATE] s t)) ∧
  (∀ (d x : Nat) (force : Bool) (r : StartReport) (s : State), s.dom d = .transit x 1 force → exec (.pwrDone d r) s = .next (((s.setDom d .on).starts d r).pwrEnds d 1)) ∧
  (∀ (r : StartReport) (s : State), (s.starts 4 r).on RNG_STAT_OK = r.rngOk ∧ (s.starts 4 r).power.sluiceSelfTest = r.pkeOk ∧ (s.starts 4 r).sluice.selfTestFailed = !r.pkeOk ∧ (r.rngOk = false → (s.starts 4 r).shows 0 0x400 0 = true)) ∧
  (∀ (i : Nat) (r : StartReport) (s : State), i < 6 → (s.starts 3 r).on (MS_STAT_TRAINED i) = r.trained.getD i false ∧ (s.starts 3 r).get (MS_PCH_FAIL i) = r.pchFail.getD i 0 % 2 ^ 32) ∧
  (∀ (n : Nat) (retain : Bool) (s : State), n < 16 → (retain = true → (s.loseCore retain n).mem.ws = s.mem.ws ∧ (s.loseCore retain n).mem.act = s.mem.act) ∧ (retain = false → ∀ i, Map.find (s.loseCore retain n).mem.ws (n * 2 ^ 25 + i % 2 ^ 25) = none) ∧
        bitOf ((s.loseCore retain n).get FT_CORE_ADM) n = false ∧ (∀ i, i < 4 → (s.loseCore retain n).running n i = none)) ∧
  (∀ (retain : Bool) (s : State), (s.lose 7 false).sync = {} ∧ (s.lose 7 false).tenants = [] ∧ (s.lose 7 false).work.flows = [] ∧ (s.lose 3 retain).mem.hbm = (if retain then s.mem.hbm else []) ∧ (s.lose 3 retain).mem.keys = []) ∧
  (∀ (s : State), s.get SU_STATE = 3 → s.readyNow = true → s.readyRefresh.get SU_STATE = 4 ∧ s.readyRefresh.shows 0 1 5 = true) ∧
  (∀ (s : State), s.get SU_STATE = 4 → s.readyNow = false → s.readyRefresh = s.set SU_STATE 3)

/-- O47, R537, R546, R547, R548, R549, R553, R554, R556, R583. A supply that falls takes its domains OFF with PWR_GOOD_LOST; that of PD_AON, like a power-on reset, leaves only fuses, pins and the model's counters. The fuse load shows the fuses and, with the supply good, PD_HOST comes ON at HOST_UP. PERST, a hot reset, a chip reset and a core reset clear what R547 to R549 give. The TAP takes its mandatory instructions. -/
def Obligations.SuppliesResetsAndStartUp : Prop :=
  (∀ (s : State), exec (.pwrGoodFall 0) s = .next s.powerOff ∧ s.powerOff.regs = [] ∧ s.powerOff.mem = State.reset.mem ∧ s.powerOff.work = {} ∧ s.powerOff.fuses = { s.fuses with burning := false, unlocked := false } ∧ s.powerOff.power.pins = s.power.pins ∧
        s.powerOff.held = []) ∧
  (∀ (d : Nat) (s : State), 1 ≤ d → d ≤ 7 → s.dom d = .retain → (s.supplyLost d).dom d = .off ∧ (s.supplyLost d).shows 0 1 4 = true ∧ ((s.supplyLost d).page 1).errInfo0 = d) ∧
  (∀ (rail : Nat) (s : State), rail = 2 ∨ rail = 3 ∨ rail = 4 → exec (.pwrGoodFall rail) s = .next (((s.setPin rail false).supplyLost (rail + 1 + b2n (rail != 2))).readyRefresh)) ∧
  (∀ (rail : Nat) (s : State), s.get SU_STATE ≠ 1 → exec (.pwrGoodRise rail) s = .next (s.setPin rail true)) ∧
  (∀ (straps : Nat) (s : State), Runs (.powerOnReset straps) s (fun t => t.get STRAPS = straps % 128 ∧ t.get SU_STATE = 1 ∧ t.get RST_CAUSE = 1 ∧ (∀ d, 1 ≤ d → t.dom d = .off) ∧ t.fuses.log = s.fuses.log ∧ t.mem = State.reset.mem ∧ OnlyRegs [STRAPS, SU_STATE, RST_CAUSE] State.reset t)) ∧
  (∀ (s : State), s.get SU_STATE = 1 → s.power.fusesLoaded = false → s.power.pins.io = true → s.power.perstLow = true → Runs (.fuseLoadDone false) s (fun t => t.power.fusesLoaded = true ∧ t.get SU_STATE = 2 ∧ t.dom 1 = .on ∧ t.get FU_PROFILE_CUR = s.fuses.profile % 2 ^ 16 ∧ t.get FU_RKE_EPOCH = s.fuses.rkeEpoch % 2 ^ 7 ∧ t.on FU_LOCKS_DEBUG = s.fuses.debugLock)) ∧
  (∀ (s : State), s.get SU_STATE = 1 → s.power.fusesLoaded = false → s.power.pins.io = false → Runs (.fuseLoadDone true) s (fun t => t.on SU_STATE_FUSE_BAD = true ∧ t.shows 0 3 0 = true ∧ t.get SU_STATE = 1)) ∧
  (∀ (s : State), 2 ≤ s.get SU_STATE → exec .perstAssert s = .next (({ s with power := { s.power with perstLow := true } }).fundamental 2)) ∧
  (∀ (cause : Nat) (s : State), cause < 16 → (s.fundamental cause).get RST_CAUSE = cause ∧ (∀ d, d ∈ [2, 4, 5, 6, 7] → (s.fundamental cause).dom d = .off) ∧ (s.fundamental cause).dom 3 = (if (s.dom 3 = .on ∨ s.dom 3 = .retain) ∧ s.power.pins.mem = true then .retain else .off) ∧
        (s.fundamental cause).dom 1 = (if s.power.pins.io = true then .on else .off) ∧ (s.fundamental cause).faultLog = s.faultLog ∧ (s.fundamental cause).tenants = [] ∧ (s.fundamental cause).sync = {} ∧ (s.fundamental cause).host.reads = []) ∧
  (∀ (speed width : Nat) (s : State), s.power.pins.io = true → s.domOn 1 = false → exec (.perstRelease speed width) s = .next { s with power := { s.power with perstLow := false, offer := (speed, width) } }) ∧
  (∀ (speed width : Nat) (s : State), s.power.pins.io = true → s.domOn 1 = true → exec (.perstRelease speed width) s = .next ({ s with power := { s.power with perstLow := false, offer := (speed, width) } }.linkTrained speed width)) ∧
  (∀ (speed width : Nat) (s : State), s.domOn 1 = true → s.power.perstLow = false → s.on RST_CFG_HOT_SCOPE = false → s.power.pins.io = true → Runs (.hotReset speed width) s (fun t => t.get RST_CAUSE = 3 ∧ t.dom 1 = .on ∧ t.dom 7 = .off ∧ t.power.offer = (speed, width))) ∧
  (∀ (speed width : Nat) (s : State), s.domOn 1 = true → s.power.perstLow = false → s.on RST_CFG_HOT_SCOPE = true → s.power.pins.io = true → Runs (.hotReset speed width) s (fun t => t.get RST_CAUSE = 4 ∧ (∀ d, d ≠ 1 → t.dom d = s.dom d) ∧ t.dom 1 = .on ∧ t.host.vfs = 0 ∧ t.power.offer = (speed, width))) ∧
  (∀ (fn v : Nat) (s : State), s.Reaches fn 1 → exec (.chipReset fn v) s = .next (if v % 2 ^ 32 = 0xC1A5 then s.chipReset else s)) ∧
  (∀ (s : State), s.chipReset.get RST_CAUSE = 5 ∧ s.chipReset.host.reads = [] ∧ s.chipReset.dom 1 = s.dom 1 ∧ s.chipReset.dom 7 = .off ∧ s.chipReset.dom 2 = .off ∧ s.chipReset.host.unmasked = s.host.unmasked ∧ s.chipReset.faultLog = s.faultLog ∧ s.chipReset.fuses = s.fuses) ∧
  (∀ (fn n : Nat) (s : State), PowerOpen s fn → n < 16 → s.coreOn n = true → s.coreIdle n = true → exec (.coreRst fn (2 ^ n)) s = .next (s.coreReset n)) ∧
  (∀ (fn n : Nat) (s : State), PowerOpen s fn → n < 16 → (s.coreOn n = false ∨ s.coreIdle n = false) → exec (.coreRst fn (2 ^ n)) s = .next (s.refuseWrite fn CORE_RST.addr (2 ^ n))) ∧
  (∀ (s : State), exec .tapReset s = .next { s with power := { s.power with tap := .idcode } }) ∧
  (∀ (i : TapInstr) (s : State), (∀ n, i ≠ .priv n) → exec (.jtagInstruction i) s = .next { s with power := { s.power with tap := i } }) ∧
  (∀ (n : Nat) (s : State), s.on FU_LOCKS_DEBUG = true → exec (.jtagInstruction (.priv n)) s = .next { s with power := { s.power with tap := .idcode } })

/-- O48, R539, R540, R544, R545, R546, R555, R559. A transfer's GO records its address, code and kind and is BUSY; a guarded VOUT write outside its window is refused. Its end gives the data or ABORTED with its cause. A patch is refused at the wrong time, too long, or of a wrong signature or profile; an accepted one is in force. Samples show in the registers with their warning; a trip turns every domain OFF and TRIPPED shows until it may be cleared. -/
def Obligations.PmbusPatchesAndTemperatures : Prop :=
  (∀ (fn addr code : Nat) (s : State), s.Reaches fn 4 → s.on PM_STAT_BUSY = false → Runs (.pmSendByte fn addr code) s (fun t => t.on PM_STAT_BUSY = true ∧ t.get PM_XFER_ADDR = addr % 128 ∧ t.get PM_XFER_CODE = code % 256 ∧ t.get PM_XFER_KIND = 0 ∧ t.power = { s.power with pmWrite := [] } ∧
        OnlyRegs [PM_STAT_BUSY, PM_XFER_ADDR, PM_XFER_CODE, PM_XFER_KIND] s t)) ∧
  (∀ (fn addr code : Nat) (s : State), s.Reaches fn 4 → s.on PM_STAT_BUSY = false → Runs (.pmWriteByte fn addr code) s (fun t => t.on PM_STAT_BUSY = true ∧ t.get PM_XFER_ADDR = addr % 128 ∧ t.get PM_XFER_CODE = code % 256 ∧ t.get PM_XFER_KIND = 1 ∧ t.power = { s.power with pmWrite := leBytes 1 (s.get PM_WDATA % 256) } ∧
        OnlyRegs [PM_STAT_BUSY, PM_XFER_ADDR, PM_XFER_CODE, PM_XFER_KIND] s t)) ∧
  (∀ (fn addr code : Nat) (s : State), s.Reaches fn 4 → s.on PM_STAT_BUSY = false → s.guarded (addr % 128) (code % 256) = false → Runs (.pmWriteWord fn addr code) s (fun t => t.on PM_STAT_BUSY = true ∧ t.get PM_XFER_ADDR = addr % 128 ∧ t.get PM_XFER_CODE = code % 256 ∧ t.get PM_XFER_KIND = 2 ∧ t.power = { s.power with pmWrite := leBytes 2 (s.get PM_WDATA) } ∧
        OnlyRegs [PM_STAT_BUSY, PM_XFER_ADDR, PM_XFER_CODE, PM_XFER_KIND] s t)) ∧
  (∀ (fn addr code : Nat) (s : State), s.Reaches fn 4 → s.on PM_STAT_BUSY = false → Runs (.pmReadByte fn addr code) s (fun t => t.on PM_STAT_BUSY = true ∧ t.get PM_XFER_ADDR = addr % 128 ∧ t.get PM_XFER_CODE = code % 256 ∧ t.get PM_XFER_KIND = 3 ∧ t.power = { s.power with pmWrite := [] } ∧
        OnlyRegs [PM_STAT_BUSY, PM_XFER_ADDR, PM_XFER_CODE, PM_XFER_KIND] s t)) ∧
  (∀ (fn addr code : Nat) (s : State), s.Reaches fn 4 → s.on PM_STAT_BUSY = false → Runs (.pmReadWord fn addr code) s (fun t => t.on PM_STAT_BUSY = true ∧ t.get PM_XFER_ADDR = addr % 128 ∧ t.get PM_XFER_CODE = code % 256 ∧ t.get PM_XFER_KIND = 4 ∧ t.power = { s.power with pmWrite := [] } ∧
        OnlyRegs [PM_STAT_BUSY, PM_XFER_ADDR, PM_XFER_CODE, PM_XFER_KIND] s t)) ∧
  (∀ (fn addr code : Nat) (s : State), s.Reaches fn 4 → s.on PM_STAT_BUSY = false → Runs (.pmBlockRead fn addr code) s (fun t => t.on PM_STAT_BUSY = true ∧ t.get PM_XFER_ADDR = addr % 128 ∧ t.get PM_XFER_CODE = code % 256 ∧ t.get PM_XFER_KIND = 5 ∧ t.power = { s.power with pmWrite := [] } ∧
        OnlyRegs [PM_STAT_BUSY, PM_XFER_ADDR, PM_XFER_CODE, PM_XFER_KIND] s t)) ∧
  (∀ (fn addr code x : Nat) (s : State), s.Reaches fn 4 → s.on PM_STAT_BUSY = false → x < 2 → code % 256 = 0x21 → s.get (PM_GUARD_ADDR x) ≠ 0 → s.get (PM_GUARD_ADDR x) = addr % 128 → s.get (PM_GUARD_PAGE x) = Map.get s.power.pmPages 0 (addr % 128) → (s.get PM_WDATA < s.get (PM_GUARD_VMIN x) ∨ s.get (PM_GUARD_VMAX x) < s.get PM_WDATA) → Runs (.pmWriteWord fn addr code) s (fun t => t.on PM_STAT_BUSY = false ∧ t.get PM_STAT_RESULT = Status.badParam.code ∧ (t.page 4).errCode = Status.badParam.code ∧ t.power = s.power)) ∧
  (∀ (b : List Byte) (s : State), s.on PM_STAT_BUSY = true → Runs (.pmDone (.ok b)) s (fun t => t.on PM_STAT_BUSY = false ∧ t.get PM_STAT_RESULT = 0 ∧ t.get PM_STAT_CAUSE = 0 ∧ t.shows 0 4 0 = true ∧ (s.get PM_XFER_KIND = 3 → t.get PM_RDATA = leNat (b.take 1)) ∧
        (s.get PM_XFER_KIND = 4 → t.get PM_RDATA = leNat (b.take 2)) ∧ (s.get PM_XFER_KIND = 5 → ∀ i, i < 8 → t.get (PM_BLK i) = leNat (((b.take 32).drop (4 * i)).take 4)))) ∧
  (∀ (c : Nat) (s : State), s.on PM_STAT_BUSY = true → Runs (.pmDone (.failed c)) s (fun t => t.on PM_STAT_BUSY = false ∧ t.get PM_STAT_RESULT = Status.aborted.code ∧ t.get PM_STAT_CAUSE = c % 16 ∧ t.shows 0 4 0 = true ∧ (t.page 4).errCode = Status.aborted.code ∧ OnlyRegs [PM_STAT_BUSY, PM_STAT_RESULT, PM_STAT_CAUSE] s t)) ∧
  (∀ (fn : Nat) (s : State), s.Reaches fn 4 → s.on PATCH_CTRL_BUSY = false → s.get SU_STATE = 2 → s.get STRAPS % 4 ≠ 2 → 0 < s.get PATCH_LEN → s.get PATCH_LEN ≤ 262272 → exec (.patchLoad fn) s = .next (s.flag PATCH_CTRL_BUSY true)) ∧
  (∀ (fn : Nat) (s : State), s.Reaches fn 4 → s.on PATCH_CTRL_BUSY = false → (s.get SU_STATE ≠ 2 ∨ s.get STRAPS % 4 = 2) → exec (.patchLoad fn) s = .next ((s.set PATCH_CTRL_RESULT Status.badParam.code).refuseWrite fn PATCH_CTRL_GO.addr 1)) ∧
  (∀ (src : ReadOutcome) (version profile a : Nat) (s t0 z : State) (st : Status) (b : List Byte), s.on PATCH_CTRL_BUSY = true → s.hostHeld 0 (s.pair PATCH_ADDR_LO PATCH_ADDR_HI) (s.get PATCH_LEN) = false → s.drawFree = (a, t0) → t0.hostFetch 0 (a % 16) (s.pair PATCH_ADDR_LO PATCH_ADDR_HI) (s.get PATCH_LEN) src = (z, st, b) → exec (.patchDone src version profile) s = .next (z.patchEnds (if st = .ok then z.patchVerdict b profile else st) version)) ∧
  (∀ (version : Nat) (st : Status) (s : State), version < 65536 → (s.patchEnds st version).on PATCH_CTRL_BUSY = false ∧ (s.patchEnds st version).get PATCH_CTRL_RESULT = st.code ∧ (s.patchEnds st version).on SU_STATE_PATCHED = (st == .ok) ∧
        (s.patchEnds st version).get PATCH_VER = (if st = .ok then version else 0) ∧ (s.patchEnds st version).shows 0 4 1 = true) ∧
  (∀ (profile : Nat) (b : List Byte) (s : State), b.length < 128 → s.patchVerdict b profile = .authFail) ∧
  (∀ (a b io : Nat) (s : State), tempReading a < 1920 → tempReading b < 1920 → tempReading io < 1920 → Runs (.thermalSample a b io) s (fun t => t.get TEMP_A = a % 65536 ∧ t.get TEMP_B = b % 65536 ∧ t.get TEMP_IO = io % 65536 ∧ OnlyRegs [TEMP_A, TEMP_B, TEMP_IO] s t ∧ t.power = s.power ∧
        (s.warm = false → t.warm = true → t.shows 0 1 1 = true))) ∧
  (∀ (a b io : Nat) (s : State), 1920 ≤ tempReading a → s.get SU_STATE ≠ 5 → Runs (.thermalSample a b io) s (fun t => t.get SU_STATE = 5 ∧ t.on THERM_STAT_TRIPPED = true ∧ t.get THERM_STAT_DIE = 1 ∧ t.get THERM_STAT_STACK = 0 ∧ t.power.thermTripLow = true ∧ (∀ d, d < 8 → 1 ≤ d → t.dom d = .off) ∧ t.shows 0 1 2 = true ∧
        t.get TRIP_TIME_NS = s.time.ns % 2 ^ 30)) ∧
  (∀ (k : Nat) (s : State), k < 6 → s.get SU_STATE ≠ 5 → s.dom 3 = .on → exec (.catastrophicTemperature k) s = .next (s.trip 0 (k + 1))) ∧
  (∀ (fn : Nat) (s : State), s.Reaches fn 1 → s.on THERM_STAT_TRIPPED = true → (∀ x ∈ s.readings, x < 1520) → Runs (.tripClear fn) s (fun t => t.on THERM_STAT_TRIPPED = false ∧ t.power.thermTripLow = false ∧ t.get SU_STATE = (if s.power.fusesLoaded then 2 else 1) ∧ OnlyRegs [THERM_STAT_TRIPPED, SU_STATE] s t)) ∧
  (∀ (fn : Nat) (s : State), s.Reaches fn 1 → (∃ x ∈ s.readings, 1520 ≤ x) → exec (.tripClear fn) s = .next (s.refuseWrite fn THERM_STAT_TRIPPED.addr 1))

/-- O49, R565, R569, R571, R572, R573, R589, R590. WITHDRAW clears a core's admission; EPOCH_SYNC gives it the chip's epoch, ADMIT its admission, each where its conditions hold, else the status is refused. REFILL clears the core's valid bit, is BUSY, writes the copy and sets the bit. ARRAY_TEST reports its failed columns. A pop reads the oldest fault with its unit and time. -/
def Obligations.RepairCommandsOfTheFaultPage : Prop :=
  (∀ (fn core : Nat) (s : State), RepairOpen s fn → core < 16 → Runs (.withdraw fn core) s (fun t => bitOf (t.get FT_CORE_ADM) core = false ∧ (∀ i, i < 16 → i ≠ core → bitOf (t.get FT_CORE_ADM) i = bitOf (s.get FT_CORE_ADM) i) ∧ t.get FT_STAT_RESULT = 0 ∧ t.on FT_STAT_BUSY = false ∧ t.shows 0 0x700 3 = true ∧
        OnlyRegs [FT_CORE_ADM, FT_STAT_RESULT, FT_STAT_BUSY] s t)) ∧
  (∀ (fn core set copy src ctx : Nat) (s : State), RepairOpen s fn → core < 16 → set < 8 → copy < 2 → s.refillStatus core set copy src ctx = .ok → Runs (.refill fn core set copy src ctx) s (fun t => t.on FT_STAT_BUSY = true ∧ t.power.ftJob = some (.refill core set copy src ctx) ∧ bitOf (t.get (s.validField set copy)) core = false ∧ OnlyRegs [FT_STAT_BUSY, s.validField set copy] s t)) ∧
  (∀ (fn core set copy src ctx : Nat) (s : State), RepairOpen s fn → core < 16 → s.refillStatus core set copy src ctx ≠ .ok → exec (.refill fn core set copy src ctx) s = .next ((s.set FT_STAT_RESULT (s.refillStatus core set copy src ctx).code).capture 0x700 (s.refillStatus core set copy src ctx) 0x70 (2 + 256 * core + 2 ^ 16 * set + 2 ^ 19 * copy + 2 ^ 20 * src + 2 ^ 24 * ctx))) ∧
  (∀ (core set copy src ctx : Nat) (c : SetCfg) (srcs : List ReadOutcome) (s u : State), s.power.ftJob = some (.refill core set copy src ctx) → s.stall = false → s.copyHeld core set copy src = false → (s.wset set).cfg = some c → s.coreOn core = true → ({ s with power := { s.power with ftJob := none } }).refillCore core set copy src ctx c srcs = (u, .ok) → core < 16 → set < 8 → copy < 2 → exec (.refillDone srcs) s = .next ((u.setHolds set copy core true).ftEnds .ok) ∧ bitOf (((u.setHolds set copy core true).ftEnds .ok).get (u.validField set copy)) core = true ∧ ((u.setHolds set copy core true).ftEnds .ok).on FT_STAT_BUSY = false ∧ ((u.setHolds set copy core true).ftEnds .ok).shows 0 0x700 3 = true) ∧
  (∀ (fn core : Nat) (s : State), RepairOpen s fn → core < 16 → s.holdsCurrent core = true → s.coreOn core = true → Runs (.epochSync fn core) s (fun t => t.get (CORE_EPOCH core) = s.get CHIP_EPOCH % 2 ^ 32 ∧ t.get FT_STAT_RESULT = 0 ∧ t.shows 0 0x700 3 = true ∧ OnlyRegs [CORE_EPOCH core, FT_STAT_RESULT, FT_STAT_BUSY] s t)) ∧
  (∀ (fn core : Nat) (s : State), RepairOpen s fn → core < 16 → s.holdsCurrent core = false → exec (.epochSync fn core) s = .next ((s.set FT_STAT_RESULT Status.badParam.code).capture 0x700 .badParam 0x70 (3 + 256 * core))) ∧
  (∀ (fn core : Nat) (s : State), RepairOpen s fn → core < 16 → bitOf (s.get FT_CORE_FAULT) core = false → bitOf (s.get FT_SLOT_PASS) (s.physSlot core) = true → s.coreOn core = true → s.get (CORE_EPOCH core) = s.get CHIP_EPOCH → Runs (.admitCore fn core) s (fun t => bitOf (t.get FT_CORE_ADM) core = true ∧ (∀ i, i < 16 → i ≠ core → bitOf (t.get FT_CORE_ADM) i = bitOf (s.get FT_CORE_ADM) i) ∧ t.get FT_STAT_RESULT = 0 ∧ t.shows 0 0x700 3 = true ∧
        OnlyRegs [FT_CORE_ADM, FT_STAT_RESULT, FT_STAT_BUSY] s t)) ∧
  (∀ (fn core : Nat) (s : State), RepairOpen s fn → core < 16 → (bitOf (s.get FT_CORE_FAULT) core = true ∨ bitOf (s.get FT_SLOT_PASS) (s.physSlot core) = false) → exec (.admitCore fn core) s = .next ((s.set FT_STAT_RESULT Status.badParam.code).capture 0x700 .badParam 0x70 (4 + 256 * core))) ∧
  (∀ (fn core a : Nat) (s : State), RepairOpen s fn → core < 16 → a < 4 → s.coreOn core = true → (s.page (arrayPage core a)).quiesced = true → exec (.arrayTest fn core a) s = .next ({ s with power := { s.power with ftJob := some (.arrayTest core a) } }.flag FT_STAT_BUSY true)) ∧
  (∀ (core a cols : Nat) (s : State), s.power.ftJob = some (.arrayTest core a) → s.stall = false → s.coreOn core = true → Runs (.arrayTestDone cols) s (fun t => t.get (FT_COLRES 0) = cols % 2 ^ 32 ∧ t.get (FT_COLRES 1) = cols / 2 ^ 32 % 2 ^ 32 ∧ t.get (FT_COLRES 2) = cols / 2 ^ 64 % 2 ∧ t.power.ftJob = none ∧ t.get FT_STAT_RESULT = 0 ∧ t.on FT_STAT_BUSY = false ∧ t.shows 0 0x700 3 = true ∧
        OnlyRegs [FT_COLRES 0, FT_COLRES 1, FT_COLRES 2, FT_STAT_RESULT, FT_STAT_BUSY] s t)) ∧
  (∀ (fn : Nat) (e : FaultEntry) (es : List FaultEntry) (s : State), s.Reaches fn 0x700 → s.faultLog = e :: es → Runs (.ftPop fn) s (fun t => t.readData = e.cls + 256 * e.status + 2 ^ 16 * e.fn + 2 ^ 31 ∧ t.faultLog = es ∧ t.get FT_UNIT_LCORE = e.lcore % 16 ∧ t.get FT_UNIT_PSLOT = e.pslot % 32 ∧ t.get FT_UNIT_ARRAY = e.array % 4 ∧
        t.get FT_UNIT_PORT = e.port % 8 ∧ t.get FT_UNIT_INDEX = e.index % 512 ∧ t.get FT_TIME_NS = e.time.ns % 2 ^ 30 ∧ t.get FT_TIME_SEC = e.time.sec % 2 ^ 32)) ∧
  (∀ (e : FaultEntry) (s : State), (s.faultLog.length < 64 → (s.logFault e).faultLog = s.faultLog ++ [e] ∧ (s.logFault e).shows 0 0x700 0 = true) ∧ (64 ≤ s.faultLog.length → (s.logFault e).faultLog = s.faultLog ∧ (s.logFault e).get FT_LOST = (s.get FT_LOST + 1) % 2 ^ 32 ∧ (s.logFault e).shows 0 0x700 2 = true))

/-- O50, R574, R577, R578, R579, R580, R581, R582, R583, R586, R588. FU_UNLOCK with its key lets the next write of FU_CMD take effect; without it that write is ignored as BAD_PARAM. A fuse command whose conditions hold and whose count is not used up begins its burn, uncommitted in the log and BUSY; a lane remap and the debug lock act at once. BURN_DONE commits: the fuses and the registers hold the new value, RESULT is OK. -/
def Obligations.FuseCommandsAndTheirBurns : Prop :=
  (∀ (fn v : Nat) (s : State), s.Reaches fn 3 → s.behind 3 = false → exec (.fuUnlock fn v) s = .next { s with fuses := { s.fuses with unlocked := v % 2 ^ 32 == 0xF05E } }) ∧
  (∀ (fn : Nat) (s : State), s.Reaches fn 3 → s.behind 3 = false → s.fuses.unlocked = false → exec (.rkeAdvance fn) s = .next (s.capture 3 .badParam 0xA4 3)) ∧
  (∀ (fn core slot : Nat) (s : State), FuseOpen s fn → core < 16 → (s.unlocked false).coreRemapStatus core slot = .ok → s.fuses.left 4 (fun e => e.op == 1) ≠ 0 → Runs (.coreRemap fn core slot) s (BurnBegun s 1 core 0 slot (bitsOf (s.get (coreMapField core)) (4 * (core % 8)) 4) (s.fuses.left 4 (fun e => e.op == 1)))) ∧
  (∀ (fn port lane phys : Nat) (s : State), FuseOpen s fn → (s.unlocked false).laneRemapStatus port lane phys = .ok → s.fuses.laneLeft port ≠ 0 → Runs (.laneRemap fn port lane phys) s (fun t => BurnBegun s 2 port lane phys (bitsOf (s.get (FU_LANE_MAP port)) (4 * lane) 4) (s.fuses.laneLeft port) t ∧ bitsOf (t.get (FU_LANE_MAP port)) (4 * lane) 4 = phys)) ∧
  (∀ (fn : Nat) (s : State), FuseOpen s fn → s.fuses.left 64 (fun e => e.op == 3) ≠ 0 → Runs (.rkeAdvance fn) s (BurnBegun s 3 0 0 0 (s.get FU_RKE_EPOCH) (s.fuses.left 64 (fun e => e.op == 3)))) ∧
  (∀ (fn v : Nat) (s : State), FuseOpen s fn → s.on FU_LOCKS_PROFILE = false → s.get FU_PROFILE_CUR < v → v ≤ s.get FU_PROFILE_MAX → s.fuses.left 15 (fun e => e.op == 4) ≠ 0 → Runs (.profileRaise fn v) s (BurnBegun s 4 0 0 v (s.get FU_PROFILE_NEXT) (s.fuses.left 15 (fun e => e.op == 4)))) ∧
  (∀ (fn v : Nat) (s : State), FuseOpen s fn → s.on FU_LOCKS_PROFILE = true → Runs (.profileRaise fn v) s (fun t => t.get FU_STAT_RESULT = Status.refusedCapacity.code ∧ (t.page 3).errCode = Status.refusedCapacity.code ∧ t.fuses = { s.fuses with unlocked := false })) ∧
  (∀ (fn : Nat) (s : State), FuseOpen s fn → s.on FU_LOCKS_PROFILE = false → s.fuses.left 1 (fun e => e.op == 5) ≠ 0 → Runs (.profileLock fn) s (BurnBegun s 5 0 0 0 0 1)) ∧
  (∀ (fn : Nat) (s : State), FuseOpen s fn → s.fuses.left 1 (fun e => e.op == 6) ≠ 0 → Runs (.debugLock fn) s (fun t => BurnBegun s 6 0 0 0 (s.get FU_LOCKS_DEBUG) 1 t ∧ t.on FU_LOCKS_DEBUG = true)) ∧
  (∀ (e : FuseEntry) (log : List FuseEntry) (s : State), s.fuses.burning = true → s.fuses.log = log ++ [e] → e.op = 3 → Runs .burnDone s (fun t => t.fuses = { s.fuses with burning := false, log := log ++ [{ e with committed := true }], rkeEpoch := s.fuses.rkeEpoch + 1 } ∧ t.get FU_RKE_EPOCH = (s.fuses.rkeEpoch + 1) % 2 ^ 7 ∧ t.on FU_STAT_BUSY = false ∧ t.get FU_STAT_RESULT = 0 ∧
        t.shows 0 3 1 = true ∧ OnlyRegs [FU_RKE_EPOCH, FU_STAT_BUSY, FU_STAT_RESULT] s t)) ∧
  (∀ (e : FuseEntry) (log : List FuseEntry) (s : State), s.fuses.burning = true → s.fuses.log = log ++ [e] → e.op = 4 ∨ e.op = 5 ∨ e.op = 6 → Runs .burnDone s (fun t => t.fuses.profile = (if e.op = 4 then max s.fuses.profile e.value else s.fuses.profile) ∧ (e.op = 5 → t.fuses.profileLock = true ∧ t.on FU_LOCKS_PROFILE = true) ∧ (e.op = 6 → t.fuses.debugLock = true) ∧
        t.fuses.log = log ++ [{ e with committed := true }] ∧ t.on FU_STAT_BUSY = false ∧ t.get FU_STAT_RESULT = 0)) ∧
  (∀ (e : FuseEntry) (log : List FuseEntry) (s : State), s.fuses.burning = true → s.fuses.log = log ++ [e] → e.op = 2 → Runs .burnDone s (fun t => t.fuses.laneMap = s.fuses.laneMap.set e.arg0 (withNibble (s.fuses.laneMap.getD e.arg0 0) e.arg1 e.value) ∧ t.on FU_STAT_BUSY = false ∧ OnlyRegs [FU_STAT_BUSY, FU_STAT_RESULT] s t))

/-- O51, R5, R9, R34, R425, R426, R535, R559, R613, R616, R617. A word whose byte enables are not all set is discarded and counted. A write sets a scratch word, the event enables, an RW field; an RWL field keeps its value under BLK_LOCK; a value outside its range is refused. A lower-word read captures the upper word, whose next read returns it; TB_NOW_NS and ERR_CODE capture their sets. A page that is off reads all ones, one that a function lacks reads 0. The SMBus target reads, orders a domain and resets the chip. -/
def Obligations.RegisterReadsAndWrites : Prop :=
  (∀ (fn addr v be : Nat) (s : State), be % 16 ≠ 15 → exec (.registerWrite fn addr v be) s = .next ((s.add HI_MMIO_ERR_CNT 1).raiseFn fn 0x500 0)) ∧
  (∀ (fn page v : Nat) (s : State), s.Reaches fn page → implemented page = true → page < 2 ^ 15 → vfWrites fn page 0x3C = true → Runs (.registerWrite fn (4096 * page + 0x3C) v 15) s (fun t => (t.page (pageKey fn page)).scratch = v % 2 ^ 32 ∧ OnlyPages [pageKey fn page] s t ∧ t.regs = s.regs)) ∧
  (∀ (fn page v : Nat) (s : State), s.Reaches fn page → implemented page = true → page < 2 ^ 15 → vfWrites fn page 0x1C = true → Runs (.registerWrite fn (4096 * page + 0x1C) v 15) s (fun t => (t.page (pageKey fn page)).evtEn = v % 2 ^ 32 &&& evtMask page ∧ OnlyPages [pageKey fn page] s t ∧ t.regs = s.regs)) ∧
  (∀ (v : Nat) (s : State), 40 ≤ v → v ≤ 115 → Runs (.registerWrite 0 0x1070 v 15) s (fun t => t.get THERM_WARN_LIMIT = v ∧ OnlyRegs [THERM_WARN_LIMIT] s t ∧ (s.warm = false → t.warm = true → t.shows 0 1 1 = true))) ∧
  (∀ (v : Nat) (s : State), (v % 256 < 40 ∨ 115 < v % 256) → exec (.registerWrite 0 0x1070 v 15) s = .next (s.refuseWrite 0 0x1070 (v % 2 ^ 32))) ∧
  (∀ (v : Nat) (s : State), (s.page 2).lock = true → exec (.registerWrite 0 0x206C v 15) s = .next s) ∧
  (∀ (v : Nat) (s : State), (s.page 2).lock = false → s.on TB_CTRL_TICK_EN = false → 1000 ≤ v → v ≤ 1000000 → 1000000000 % v = 0 → Runs (.registerWrite 0 0x206C v 15) s (fun t => t.get TB_TICK_NS = v ∧ t.on GRP_STAT_DIGEST_VALID = false)) ∧
  (∀ (v : Nat) (s : State), (s.page 2).lock = false → (s.on TB_CTRL_TICK_EN = true ∨ v < 1000 ∨ 1000000 < v) → v < 2 ^ 32 → exec (.registerWrite 0 0x206C v 15) s = .next (s.refuseWrite 0 0x206C v)) ∧
  (∀ (fn page off : Nat) (s : State), s.Reaches fn page → lowerWord page off = true → off < 4096 → off % 4 = 0 → off ≠ 0x48 ∨ page = 0x700 → ¬(page = 2 ∧ off = 0x48) → s.captured fn (4096 * page + off) = none → Runs (.lowerWordRead fn (4096 * page + off)) s (fun t => t.readData = s.wordAt fn (4096 * page + off) ∧ t.captured fn (4096 * page + off + 4) = some (s.wordAt fn (4096 * page + off + 4)) ∧
        OnlyParts [.captures, .readData] s t)) ∧
  (∀ (fn page off v : Nat) (s : State), s.Reaches fn page → page ∈ [1, 3, 4, 0x300, 0x321, 0x510, 0x600, 0x680] → off < 4096 → off % 4 = 0 → off ≠ 0x24 → ¬(page = 0x680 ∧ off = 0xB0) → s.captured fn (4096 * page + off) = some v → Runs (.lowerWordRead fn (4096 * page + off)) s (fun t => t.readData = v ∧ t.captured fn (4096 * page + off) = none ∧ OnlyParts [.captures, .readData] s t)) ∧
  (∀ (fn addr : Nat) (s : State), s.pageOn (addr / 4096) = false → addr % 4096 ∈ [0x40, 0x44] → addr / 4096 ≥ 0x600 → exec (.lowerWordRead fn addr) s = .next ((s.pdoffAccess fn).answer 0xFFFFFFFF)) ∧
  (∀ (fn addr : Nat) (s : State), s.pageOn (addr / 4096) = true → s.sees fn (addr / 4096) = false → addr % 4096 ∈ [0x40, 0x44] → exec (.lowerWordRead fn addr) s = .next (s.answer 0)) ∧
  (∀ (fn : Nat) (s : State), s.Reaches fn 2 → Runs (.tbNowRead fn) s (fun t => t.readData = s.time.ns ∧ t.captured fn 0x204C = some (s.time.sec % 2 ^ 32) ∧ t.captured fn 0x2050 = some (s.time.sec / 2 ^ 32) ∧ OnlyParts [.captures, .readData] s t)) ∧
  (∀ (fn page : Nat) (s : State), s.Reaches fn page → page < 2 ^ 15 → (fn = 0 ∨ (page ≠ 0 ∧ page ≠ 2)) → Runs (.errCodeRead fn page) s (fun t => t.readData = (s.page (pageKey fn page)).errCode + 256 * (s.page (pageKey fn page)).errCount ∧
        t.captured fn (4096 * page + 0x28) = some (s.page (pageKey fn page)).errInfo0 ∧ t.captured fn (4096 * page + 0x2C) = some (s.page (pageKey fn page)).errInfo1 ∧ t.captured fn (4096 * page + 0x30) = some (s.page (pageKey fn page)).errTime.ns ∧
        t.captured fn (4096 * page + 0x34) = some ((s.page (pageKey fn page)).errTime.sec % 2 ^ 32) ∧ OnlyParts [.captures, .readData, .pages] s t ∧ ((s.page (pageKey fn page)).errNext = none → t.pages = s.pages))) ∧
  (∀ (addr : Nat) (s : State), addr % 4 = 0 → smbusPage (addr / 4096) = true → addr % 4096 ≠ 0x24 → addr ≠ 0x700040 → s.captured 9 addr = none → (addr % 4096 = 0x2C → (s.page (pageKey 0 (addr / 4096))).errNext = none) → Runs (.smbusAccess (.read addr)) s (fun t => t.readData = s.wordAt 0 addr ∧ OnlyParts [.captures, .readData] s t)) ∧
  (∀ (v : Nat) (s : State), s.quiet 1 = false → s.stall = false → s.behind 1 = false → exec (.smbusAccess (.pwrCmd v)) s = .next (s.pwrBegin true (v % 8) (v / 16 % 4) (bitOf v 8))) ∧
  (∀ (v : Nat) (s : State), exec (.smbusAccess (.chipReset v)) s = .next (if v % 2 ^ 32 = 0xC1A5 then s.chipReset else s))

/-- O52, R9, R10, R51, R52, R105, R550, R613, R614, R616, R620, R627. ERR_CODE.CLR clears the error set, and a capture of the same access stays with COUNT 1. EVT_STAT bits clear where written, but for new edges. ENABLE and LOCK are stored by the PF. SOFT_RESET is refused whole unless the page shows QUIESCED; else it clears the error set and the events and applies ENABLE and QUIESCE_REQ. QUIESCE_REQ closes and opens the gate; QUIESCED follows at the boundary, with its event; the SCHED page writes its spill headers first. -/
def Obligations.CommonLayoutCommands : Prop :=
  (∀ (fn page : Nat) (s : State), s.Reaches fn page → implemented page = true → mayClear fn page true = true → Runs (.errCodeClr fn page none) s (fun t => (t.page (pageKey fn page)).errCode = 0 ∧ (t.page (pageKey fn page)).errCount = 0 ∧ (t.page (pageKey fn page)).errInfo0 = 0 ∧ (t.page (pageKey fn page)).errInfo1 = 0 ∧
        (t.page (pageKey fn page)).errTime = {} ∧ OnlyPages [pageKey fn page] s t ∧ t.regs = s.regs)) ∧
  (∀ (fn page : Nat) (st : Status) (s : State), s.Reaches fn page → implemented page = true → mayClear fn page true = true → Runs (.errCodeClr fn page (some st)) s (fun t => (t.page (pageKey fn page)).errCode = st.code ∧ (t.page (pageKey fn page)).errCount = 1 ∧ OnlyPages [pageKey fn page] s t ∧ t.regs = s.regs)) ∧
  (∀ (fn page mask edges b : Nat) (s : State), s.Reaches fn page → implemented page = true → mayClear fn page false = true → (page < 0x221 ∨ 0x228 < page) → bitOf (evtMask page) b = true → Runs (.evtStatClear fn page mask edges) s (fun t => bitOf (t.page (pageKey fn page)).evtStat b = (if bitOf mask b then bitOf edges b else bitOf (s.page (pageKey fn page)).evtStat b) ∧ OnlyPages [pageKey fn page] s t ∧ t.regs = s.regs)) ∧
  (∀ (page : Nat) (en : Bool) (s : State), s.pageOn page = true → implemented page = true → isArrayPage page = false → Runs (.blkEnable 0 page en) s (fun t => t.page page = { s.page page with enable := en } ∧ OnlyPages [page] s t ∧ t.regs = s.regs)) ∧
  (∀ (n a : Nat) (s : State), n < 16 → a < 4 → s.coreOn n = true → s.on (MA_CAP_IN_SERVICE n a) = true → (s.page (arrayPage n a)).quiesced = true → Runs (.blkEnable 0 (arrayPage n a) false) s (fun t => t.on (MA_CAP_IN_SERVICE n a) = false)) ∧
  (∀ (n a : Nat) (s : State), n < 16 → a < 4 → s.coreOn n = true → s.on (MA_CAP_IN_SERVICE n a) = true → (s.page (arrayPage n a)).quiesced = false → exec (.blkEnable 0 (arrayPage n a) false) s = .next (s.refuseWrite 0 (4096 * arrayPage n a + 0x10) 0)) ∧
  (∀ (page : Nat) (s : State), s.pageOn page = true → implemented page = true → Runs (.blkLock 0 page) s (fun t => t.page page = { s.page page with lock := true } ∧ OnlyPages [page] s t ∧ t.regs = s.regs)) ∧
  (∀ (fn page v : Nat) (en req : Bool) (s : State), s.pageOn page = true → fn ≠ 0 → exec (.blkEnable fn page en) s = .next s ∧ exec (.blkLock fn page) s = .next s ∧ exec (.softReset fn page v) s = .next s ∧ exec (.quiesceReq fn page req) s = .next s) ∧
  (∀ (page v : Nat) (s : State), s.pageOn page = true → implemented page = true → (s.page page).quiesced = false → exec (.softReset 0 page v) s = .next ((s.fuseTouch page).refuseWrite 0 (4096 * page + 0x10) v)) ∧
  (∀ (page v : Nat) (s : State), page ∈ [0, 4, 0x220, 0x310, 0x400, 0x700] → s.pageOn page = true → (s.page page).quiesced = true → Runs (.softReset 0 page v) s (fun t => t.quiet page = bitOf v 2 ∧ (t.page page).enable = bitOf v 0 ∧ (t.page page).lock = (s.page page).lock ∧ (t.page page).errCode = 0 ∧ (t.page page).errCount = 0 ∧ (t.page page).evtEn = 0 ∧ (t.page page).scratch = 0)) ∧
  (∀ (page : Nat) (req : Bool) (s : State), s.pageOn page = true → implemented page = true → (page < 0x100 ∨ 0x400 ≤ page) → page ≠ 0x680 → Runs (.quiesceReq 0 page req) s (fun t => t.page page = { s.page page with quiesceReq := req, quiesced := req && (s.page page).quiesced } ∧ OnlyPages [page] s t ∧ t.regs = s.regs)) ∧
  (∀ (n : Nat) (s : State), n < 16 → s.coreOn n = true → s.sequencerEmpty n = true → Runs (.quiesceReq 0 (0x100 + 16 * n) true) s (fun t => ∀ q, q < 16 → t.quiet (0x100 + 16 * n + q) = true)) ∧
  (∀ (page b : Nat) (s : State), s.Awake page → implemented page = true → page ≠ 0x200 → s.quiet page = true → (s.page page).quiesced = false → s.atBoundary page = true → quiescedBit page = some b → Runs (.quiesceDone page) s (fun t => (t.page page).quiesced = true ∧ (t.page page).quiesceReq = true ∧ bitOf (t.page page).evtStat b = true ∧ OnlyPages [page] s t ∧ t.regs = s.regs)) ∧
  (∀ (s : State), s.Awake 0x200 → s.quiet 0x200 = true → (s.page 0x200).quiesced = false → s.atBoundary 0x200 = true → exec (.quiesceDone 0x200) s = .next (s.spillHeaders.quiescedNow 0x200)) ∧
  (∀ (page : Nat) (s : State), (s.atBoundary page = false ∨ (s.stall = true ∧ fabricPage page = true)) → exec (.quiesceDone page) s = .next s)

/-- O53, R29, R425. With a command at the front of the queue, a step is that command executed on the state with the queue's rest. -/
def Obligations.StepTakesTheFrontCommand : Prop :=
  ∀ (c : Instr) (q : List Instr) (s : State), s.pending = c :: q → step s = exec c (s.withPending q)

/-- O54, R29, R31, R125. On an empty queue with no command withheld, a Causeway port whose accepted flits can be applied applies them; else a core that can go on goes on; else the next step of a task is fetched and one timebase clock passes; else that clock alone passes. The order is the model's own (log entry 71). -/
def Obligations.IdleStepsReleaseFetchAndPassTime : Prop :=
  (∀ (p : Nat) (s : State), s.pending = [] → s.held = [] → s.rxPort = some p → step s = .next (s.rxGo p)) ∧
  (∀ (n : Nat) (s : State), s.pending = [] → s.held = [] → s.rxPort = none → s.readyCore = some n → step s = .next (s.pump n)) ∧
  (∀ (n i : Nat) (s : State), s.pending = [] → s.held = [] → s.rxPort = none → s.readyCore = none → s.fetcher = some (n, i) → step s = .next ((s.fetch n i).pass 1)) ∧
  (∀ (s : State), s.pending = [] → s.held = [] → s.rxPort = none → s.readyCore = none → s.fetcher = none → step s = .next (s.pass 1))

/-- O55, R9, R11, R529, R548, R613. Right after reset every register field reads its reset value, every page is enabled, open, unlocked and shows no event or error, PD_AON alone is ON, no task, item, counter value, key or withheld command exists, the memories list nothing, the queue is empty, and the state is sound. Reset values that the spec does not give are the model's (log entries). -/
def Obligations.ResetStateIsSoundAndEmpty : Prop :=
  (∀ (f : Field), State.reset.get f = f.reset) ∧
  (∀ (k : Nat), State.reset.page k = {} ∧ (State.reset.page k).enable = true ∧ (State.reset.page k).quiesceReq = false ∧ (State.reset.page k).lock = false ∧ (State.reset.page k).evtStat = 0 ∧ (State.reset.page k).evtEn = 0 ∧ (State.reset.page k).errCode = 0) ∧
  (∀ (d : Nat), State.reset.dom d = (if d = 0 then .on else .off)) ∧
  (State.reset.Sound ∧ State.reset.mem.hbm = [] ∧ State.reset.mem.ws = [] ∧ State.reset.mem.act = [] ∧ State.reset.pending = [] ∧ State.reset.held = [] ∧ State.reset.stall = false) ∧
  (∀ (core slot c : Nat), State.reset.running core slot = none ∧ State.reset.counter c = {} ∧ (State.reset.counter c).value = 0 ∧ (State.reset.chain c).desc = none)

/-- O56, R325, R449, R526, R590. From every sound state, whatever is queued, withheld or in flight: if a step answers a next state, that state is sound. The memories stay in canonical form, and the protection, abort, late-error and fault logs hold at most 64 entries. -/
def Obligations.EveryStepKeepsSoundness : Prop :=
  ∀ (s t : State), s.Sound → step s = .next t → t.Sound

/-- O57, R425, R583. Every command but a private JTAG instruction answers a next state, in every state and for every operand, and leaves the queue as it is. A private instruction is refused while the debug lockout does not hold, and runs once it does. No step ends in a fault. -/
def Obligations.CommandsRunAndOnlyPrivateTestAccessIsRefused : Prop :=
  (∀ (c : Instr) (s : State), (∀ n, c ≠ .jtagInstruction (.priv n)) → Runs c s (fun t => t.pending = s.pending)) ∧
  (∀ (n : Nat) (s : State), s.on FU_LOCKS_DEBUG = false → exec (.jtagInstruction (.priv n)) s = .refused .privateTestAccess) ∧
  (∀ (n : Nat) (s : State), s.on FU_LOCKS_DEBUG = true → Runs (.jtagInstruction (.priv n)) s (fun t => t.pending = s.pending)) ∧
  (∀ (f : Fault) (s : State), step s ≠ .fault f)

/-- O58, R9, R29, R425. For every command and every state: when it answers a next state, every part of the state that `mayChange` does not name for it is as before. Parts are the register store, the common registers, the timebase, each memory, the line caches, the scheduler and chains, the counters, the sluice, the links, the tenants, power, fuses, logs and the rest. -/
def Obligations.CommandsLeaveOtherPartsAlone : Prop :=
  ∀ (c : Instr) (s t : State), exec c s = .next t → OnlyParts (mayChange c) s t

/-- O59, R617. A read of ERR_CODE captures ERR_INFO0, ERR_INFO1, ERR_TIME_NS and ERR_TIME_SEC of the reader's view; whatever error is captured since, that function's next reads of them return the captured values, and no other function's captures change. A read of any of the four with no capture returns the live value. -/
def Obligations.ErrorCodeReadsCaptureTheErrorSet : Prop :=
  (∀ (fn page g p a b o : Nat) (st : Status) (s : State), s.Reaches fn page → implemented page = true → o = 0x28 ∨ o = 0x2C ∨ o = 0x30 ∨ o = 0x34 → Runs (.errCodeRead fn page) s (fun t => Runs (.lowerWordRead fn (4096 * page + o)) (t.captureFn g p st a b) (fun u => u.readData = s.wordAt fn (4096 * page + o)))) ∧
  (∀ (fn page o : Nat) (s : State), s.Reaches fn page → implemented page = true → o = 0x28 ∨ o = 0x2C ∨ o = 0x30 ∨ o = 0x34 → s.captured fn (4096 * page + o) = none → Runs (.lowerWordRead fn (4096 * page + o)) s (fun t => t.readData = s.wordAt fn (4096 * page + o))) ∧
  (∀ (fn g page x : Nat) (s : State), s.Reaches fn page → g ≠ fn → page < 2 ^ 15 → x < 2 ^ 27 → Runs (.errCodeRead fn page) s (fun t => t.captured g x = s.captured g x))

/-- O60, R34. A read of TB_NOW_NS returns the nanoseconds and captures TB_NOW_SEC_LO and TB_NOW_SEC_HI for the reading function; however the time has moved on, that function's next reads of the two registers return the captured values. -/
def Obligations.TimebaseReadsCaptureTheSeconds : Prop :=
  (∀ (fn : Nat) (x : Timebase) (s : State), s.Reaches fn 2 → Runs (.tbNowRead fn) s (fun t => t.readData = s.time.ns ∧ Runs (.lowerWordRead fn 0x204C) { t with time := x } (fun u => u.readData = s.time.sec % 2 ^ 32 ∧ Runs (.lowerWordRead fn 0x2050) { u with time := x } (fun w => w.readData = s.time.sec / 2 ^ 32)))) ∧
  (∀ (fn : Nat) (x : Timebase) (s : State), s.Reaches fn 2 → Runs (.tbNowRead fn) s (fun t => Runs (.lowerWordRead fn 0x2050) { t with time := x } (fun w => w.readData = s.time.sec / 2 ^ 32)))
end

