-- ==== Sys2Proof/Laws/Map.lean ====
section
/-!
SUPPORT. The laws of sparse tables: what a table reads after a write, and that every operation keeps the canonical form.
-/

set_option Elab.async false

namespace Sys2Proof.Machine

variable {α : Type}

/-- An inserted key reads the value inserted. -/
@[simp] theorem Map.find_insert_self (m : Map α) (k : Nat) (v : α) : Map.find (Map.insert m k v) k = some v := by
  induction m with
  | nil => simp [Map.insert, Map.find]
  | cons e m ih =>
    obtain ⟨j, w⟩ := e
    simp only [Map.insert]
    split
    · simp [Map.find]
    · split
      · simp [Map.find]
      · rename_i h1 h2
        simp [Map.find, h2, ih]

/-- Inserting a key leaves the others as they read. -/
theorem Map.find_insert_ne {k k' : Nat} (h : k' ≠ k) (m : Map α) (v : α) : Map.find (Map.insert m k v) k' = Map.find m k' := by
  induction m with
  | nil => simp [Map.insert, Map.find, h]
  | cons e m ih =>
    obtain ⟨j, w⟩ := e
    simp only [Map.insert]
    split
    · simp [Map.find, h]
    · split
      · rename_i h1 h2
        subst h2
        simp [Map.find, h]
      · simp [Map.find, ih]

/-- An erased key is not listed. -/
@[simp] theorem Map.find_erase_self (m : Map α) (k : Nat) : Map.find (Map.erase m k) k = none := by
  induction m with
  | nil => rfl
  | cons e m ih =>
    obtain ⟨j, w⟩ := e
    unfold Map.erase at ih ⊢
    by_cases h : j = k
    · simp [h, ih]
    · have h' : ¬k = j := fun e => h e.symm
      simp [h, h', Map.find, ih]

/-- Erasing a key leaves the others as they read. -/
theorem Map.find_erase_ne {k k' : Nat} (h : k' ≠ k) (m : Map α) : Map.find (Map.erase m k) k' = Map.find m k' := by
  induction m with
  | nil => rfl
  | cons e m ih =>
    obtain ⟨j, w⟩ := e
    unfold Map.erase at ih ⊢
    by_cases hj : j = k
    · subst hj
      simp [h, ih, Map.find]
    · simp [hj, Map.find, ih]

/-- A written key reads the value written. -/
@[simp] theorem Map.get_put_self [DecidableEq α] (d : α) (m : Map α) (k : Nat) (v : α) : Map.get (Map.put d m k v) d k = v := by
  unfold Map.put Map.get
  split
  · rename_i h
    simp [h]
  · simp

/-- A write leaves the other keys as they read, whatever an unlisted key is taken to read. -/
theorem Map.get_put_ne [DecidableEq α] {k k' : Nat} (h : k' ≠ k) (d e : α) (m : Map α) (v : α) :
    Map.get (Map.put d m k v) e k' = Map.get m e k' := by
  unfold Map.put Map.get
  split
  · rw [Map.find_erase_ne h]
  · rw [Map.find_insert_ne h]

/-- A bound on the keys may be lowered. -/
theorem Map.wfFrom_mono [DecidableEq α] {d : α} {a b : Nat} (hab : a ≤ b) {m : Map α} (h : Map.wfFrom d b m = true) : Map.wfFrom d a m = true := by
  cases m with
  | nil => rfl
  | cons e m =>
    obtain ⟨j, w⟩ := e
    simp only [Map.wfFrom, Bool.and_eq_true, decide_eq_true_eq] at h ⊢
    exact ⟨⟨Nat.le_trans hab h.1.1, h.1.2⟩, h.2⟩

/-- Inserting keeps the canonical form. -/
theorem Map.wfFrom_insert [DecidableEq α] {d v : α} (hv : v ≠ d) {k : Nat} {m : Map α} :
    ∀ {b : Nat}, b ≤ k → Map.wfFrom d b m = true → Map.wfFrom d b (Map.insert m k v) = true := by
  induction m with
  | nil => intro b hb _; simp [Map.insert, Map.wfFrom, hb, hv]
  | cons e m ih =>
    intro b hb h
    obtain ⟨j, w⟩ := e
    simp only [Map.wfFrom, Bool.and_eq_true, decide_eq_true_eq] at h
    simp only [Map.insert]
    split
    · rename_i hk
      simp only [Map.wfFrom, Bool.and_eq_true, decide_eq_true_eq]
      exact ⟨⟨hb, hv⟩, ⟨hk, h.1.2⟩, h.2⟩
    · split
      · rename_i h1 h2
        subst h2
        simp only [Map.wfFrom, Bool.and_eq_true, decide_eq_true_eq]
        exact ⟨⟨hb, hv⟩, h.2⟩
      · simp only [Map.wfFrom, Bool.and_eq_true, decide_eq_true_eq]
        exact ⟨h.1, ih (by omega) h.2⟩

/-- Leaving entries out keeps the canonical form. -/
theorem Map.wfFrom_filter [DecidableEq α] {d : α} (p : Nat × α → Bool) {m : Map α} :
    ∀ {b : Nat}, Map.wfFrom d b m = true → Map.wfFrom d b (m.filter p) = true := by
  induction m with
  | nil => intro b h; simpa using h
  | cons e m ih =>
    intro b h
    obtain ⟨j, w⟩ := e
    simp only [Map.wfFrom, Bool.and_eq_true, decide_eq_true_eq] at h
    rw [List.filter_cons]
    split
    · simp only [Map.wfFrom, Bool.and_eq_true, decide_eq_true_eq]
      exact ⟨h.1, ih h.2⟩
    · exact Map.wfFrom_mono (by omega) (ih h.2)

/-- A write keeps the canonical form. -/
theorem Map.wf_put [DecidableEq α] {d : α} {m : Map α} (h : Map.wf d m = true) (k : Nat) (v : α) : Map.wf d (Map.put d m k v) = true := by
  unfold Map.put
  split
  · exact Map.wfFrom_filter _ h
  · rename_i hv
    exact Map.wfFrom_insert hv (Nat.zero_le k) h

/-- Dropping keys keeps the canonical form. -/
theorem Map.wf_drop [DecidableEq α] {d : α} {m : Map α} (h : Map.wf d m = true) (p : Nat → Bool) : Map.wf d (Map.drop p m) = true :=
  Map.wfFrom_filter _ h

end Sys2Proof.Machine
end

