-- ==== Sys2Proof/Laws/Memory.lean ====
section
/-!
SUPPORT. The laws of the memories: a read after a write, what a write leaves alone, and that writes keep the canonical form.
-/

set_option Elab.async false

namespace Sys2Proof.Machine

/-- A write of bytes keeps the canonical form. -/
theorem wf_writeBytes (bs : List Byte) : ∀ {m : Map Byte} (k : Nat), Map.wf 0 m = true → Map.wf 0 (writeBytes m k bs) = true := by
  induction bs with
  | nil => intro m k h; exact h
  | cons b bs ih => intro m k h; exact ih (k + 1) (Map.wf_put h k b)

/-- A write of bytes leaves every other byte as it reads. -/
theorem get_writeBytes_outside (bs : List Byte) :
    ∀ (m : Map Byte) (k : Nat) {a : Nat}, a < k ∨ k + bs.length ≤ a → Map.get (writeBytes m k bs) 0 a = Map.get m 0 a := by
  induction bs with
  | nil => intro m k a _; rfl
  | cons b bs ih =>
    intro m k a h
    rw [List.length_cons] at h
    have hne : a ≠ k := by omega
    simp only [writeBytes]
    rw [ih _ _ (by omega), Map.get_put_ne hne]

/-- A byte that was written reads as written. -/
theorem get_writeBytes_inside (bs : List Byte) :
    ∀ (m : Map Byte) (k : Nat) {i : Nat}, i < bs.length → Map.get (writeBytes m k bs) 0 (k + i) = bs.getD i 0 := by
  induction bs with
  | nil => intro m k i h; simp at h
  | cons b bs ih =>
    intro m k i h
    simp only [writeBytes]
    cases i with
    | zero => rw [get_writeBytes_outside bs _ _ (by omega)]; simp
    | succ i =>
      rw [List.length_cons] at h
      have := ih (Map.put 0 m k b) (k + 1) (i := i) (by omega)
      rw [show k + (i + 1) = k + 1 + i by omega, this]
      simp

/-- What a store reads after a write of the same place. -/
theorem readBytes_writeBytes (m : Map Byte) (k : Nat) (bs : List Byte) : readBytes (writeBytes m k bs) k bs.length = bs := by
  apply List.ext_getElem
  · simp [readBytes]
  · intro i h1 h2
    simp only [readBytes, List.getElem_map, List.getElem_range]
    rw [get_writeBytes_inside bs m k h2]
    simp [List.getD, h2]

/-- Memories in canonical form stay so when one of them takes bytes. -/
theorem Memory.wf_parts {m : Memory} : m.wf = true ↔ Map.wf 0 m.ws = true ∧ Map.wf 0 m.act = true ∧ Map.wf (0 : Byte) m.hbm = true := by
  unfold Memory.wf
  simp [Bool.and_eq_true, and_assoc]

/-- The raw write of a store keeps the canonical form. -/
theorem State.storePut_wf {s : State} (h : s.mem.wf = true) (k core addr : Nat) (bs : List Byte) : (s.storePut k core addr bs).mem.wf = true := by
  rw [Memory.wf_parts] at h ⊢
  unfold State.storePut
  split
  · exact ⟨wf_writeBytes _ _ h.1, h.2⟩
  · exact ⟨h.1, wf_writeBytes _ _ h.2.1, h.2.2⟩

/-- The write of a stored line keeps the canonical form. -/
theorem State.setStored_wf {s : State} (h : s.mem.wf = true) (l : Nat) (d : List Byte) : (s.setStored l d).mem.wf = true := by
  rw [Memory.wf_parts] at h ⊢
  exact ⟨h.1, h.2.1, wf_writeBytes _ _ h.2.2⟩

end Sys2Proof.Machine
end

