-- ==== Sys2Proof/Laws/State.lean ====
section
/-!
SUPPORT. The laws of the parts of the state: what a field reads after an update, and what an update leaves alone.
-/

set_option Elab.async false

namespace Sys2Proof.Machine

/-! ### Register fields -/

/-- A field reads what it was given, cut to its width. -/
@[simp] theorem State.get_set_self (s : State) (f : Field) (v : Nat) : (s.set f v).get f = v % 2 ^ f.width := by
  simp [State.get, State.set]

/-- A field keeps its value when another takes one. -/
theorem State.get_set_ne {f g : Field} (h : g.key ≠ f.key) (s : State) (v : Nat) : (s.set f v).get g = s.get g := by
  simp only [State.get, State.set]
  exact Map.get_put_ne h _ _ _ _

/-- Fields of one key and one reset value read the same. -/
theorem State.get_of_key {f g : Field} (hk : g.key = f.key) (hr : g.reset = f.reset) (s : State) : s.get g = s.get f := by
  simp only [State.get, hk, hr]

theorem State.get_add_self (s : State) (f : Field) (n : Nat) : (s.add f n).get f = (s.get f + n) % 2 ^ f.width := State.get_set_self _ _ _

theorem State.get_add_ne {f g : Field} (h : g.key ≠ f.key) (s : State) (n : Nat) : (s.add f n).get g = s.get g := State.get_set_ne h _ _

theorem State.get_flag_self (s : State) (f : Field) (b : Bool) : (s.flag f b).get f = b2n b % 2 ^ f.width := State.get_set_self _ _ _

theorem State.get_flag_ne {f g : Field} (h : g.key ≠ f.key) (s : State) (b : Bool) : (s.flag f b).get g = s.get g := State.get_set_ne h _ _

/-- A one-bit field reads the flag it was given. -/
theorem State.on_flag_self {f : Field} (h : f.width = 1) (s : State) (b : Bool) : (s.flag f b).on f = b := by
  simp only [State.on, State.get_flag_self, h]
  cases b <;> rfl

/-- A state with the same registers reads the same. -/
theorem State.get_of_regs {s t : State} (h : t.regs = s.regs) (f : Field) : t.get f = s.get f := by
  simp only [State.get, h]

/-! ### Pages -/

@[simp] theorem State.page_setPage_self (s : State) (k : Nat) (p : Page) : (s.setPage k p).page k = p := by
  simp [State.page, State.setPage]

theorem State.page_setPage_ne {k j : Nat} (h : j ≠ k) (s : State) (p : Page) : (s.setPage k p).page j = s.page j := by
  simp only [State.page, State.setPage]
  exact Map.get_put_ne h _ _ _ _

theorem State.page_of_pages {s t : State} (h : t.pages = s.pages) (k : Nat) : t.page k = s.page k := by
  simp only [State.page, h]

/-- A domain takes the state it is given. -/
@[simp] theorem State.dom_setDom_self {d : Nat} (h : d ≠ 0) (s : State) (v : Dom) : (s.setDom d v).dom d = v := by
  simp [State.dom, State.setDom, h]

/-! ### What the updates leave alone -/

@[simp] theorem State.set_pages (s : State) (f : Field) (v : Nat) : (s.set f v).pages = s.pages := rfl
@[simp] theorem State.set_captures (s : State) (f : Field) (v : Nat) : (s.set f v).captures = s.captures := rfl
@[simp] theorem State.set_readData (s : State) (f : Field) (v : Nat) : (s.set f v).readData = s.readData := rfl
@[simp] theorem State.set_time (s : State) (f : Field) (v : Nat) : (s.set f v).time = s.time := rfl
@[simp] theorem State.set_stall (s : State) (f : Field) (v : Nat) : (s.set f v).stall = s.stall := rfl
@[simp] theorem State.set_host (s : State) (f : Field) (v : Nat) : (s.set f v).host = s.host := rfl
@[simp] theorem State.set_power (s : State) (f : Field) (v : Nat) : (s.set f v).power = s.power := rfl
@[simp] theorem State.set_fuses (s : State) (f : Field) (v : Nat) : (s.set f v).fuses = s.fuses := rfl
@[simp] theorem State.set_faultLog (s : State) (f : Field) (v : Nat) : (s.set f v).faultLog = s.faultLog := rfl
@[simp] theorem State.set_mem (s : State) (f : Field) (v : Nat) : (s.set f v).mem = s.mem := rfl
@[simp] theorem State.set_sluice (s : State) (f : Field) (v : Nat) : (s.set f v).sluice = s.sluice := rfl
@[simp] theorem State.set_sync (s : State) (f : Field) (v : Nat) : (s.set f v).sync = s.sync := rfl
@[simp] theorem State.set_work (s : State) (f : Field) (v : Nat) : (s.set f v).work = s.work := rfl
@[simp] theorem State.set_link (s : State) (f : Field) (v : Nat) : (s.set f v).link = s.link := rfl
@[simp] theorem State.set_tenants (s : State) (f : Field) (v : Nat) : (s.set f v).tenants = s.tenants := rfl
@[simp] theorem State.set_rngCtr (s : State) (f : Field) (v : Nat) : (s.set f v).rngCtr = s.rngCtr := rfl
@[simp] theorem State.set_freeCtr (s : State) (f : Field) (v : Nat) : (s.set f v).freeCtr = s.freeCtr := rfl
@[simp] theorem State.set_held (s : State) (f : Field) (v : Nat) : (s.set f v).held = s.held := rfl
@[simp] theorem State.set_pending (s : State) (f : Field) (v : Nat) : (s.set f v).pending = s.pending := rfl

@[simp] theorem State.add_pages (s : State) (f : Field) (n : Nat) : (s.add f n).pages = s.pages := rfl
@[simp] theorem State.add_captures (s : State) (f : Field) (n : Nat) : (s.add f n).captures = s.captures := rfl
@[simp] theorem State.add_readData (s : State) (f : Field) (n : Nat) : (s.add f n).readData = s.readData := rfl
@[simp] theorem State.add_time (s : State) (f : Field) (n : Nat) : (s.add f n).time = s.time := rfl
@[simp] theorem State.add_stall (s : State) (f : Field) (n : Nat) : (s.add f n).stall = s.stall := rfl
@[simp] theorem State.add_host (s : State) (f : Field) (n : Nat) : (s.add f n).host = s.host := rfl
@[simp] theorem State.add_power (s : State) (f : Field) (n : Nat) : (s.add f n).power = s.power := rfl
@[simp] theorem State.add_fuses (s : State) (f : Field) (n : Nat) : (s.add f n).fuses = s.fuses := rfl
@[simp] theorem State.add_faultLog (s : State) (f : Field) (n : Nat) : (s.add f n).faultLog = s.faultLog := rfl
@[simp] theorem State.add_mem (s : State) (f : Field) (n : Nat) : (s.add f n).mem = s.mem := rfl
@[simp] theorem State.add_sluice (s : State) (f : Field) (n : Nat) : (s.add f n).sluice = s.sluice := rfl
@[simp] theorem State.add_sync (s : State) (f : Field) (n : Nat) : (s.add f n).sync = s.sync := rfl
@[simp] theorem State.add_work (s : State) (f : Field) (n : Nat) : (s.add f n).work = s.work := rfl
@[simp] theorem State.add_link (s : State) (f : Field) (n : Nat) : (s.add f n).link = s.link := rfl
@[simp] theorem State.add_tenants (s : State) (f : Field) (n : Nat) : (s.add f n).tenants = s.tenants := rfl
@[simp] theorem State.add_rngCtr (s : State) (f : Field) (n : Nat) : (s.add f n).rngCtr = s.rngCtr := rfl
@[simp] theorem State.add_freeCtr (s : State) (f : Field) (n : Nat) : (s.add f n).freeCtr = s.freeCtr := rfl
@[simp] theorem State.add_held (s : State) (f : Field) (n : Nat) : (s.add f n).held = s.held := rfl
@[simp] theorem State.add_pending (s : State) (f : Field) (n : Nat) : (s.add f n).pending = s.pending := rfl

@[simp] theorem State.flag_pages (s : State) (f : Field) (b : Bool) : (s.flag f b).pages = s.pages := rfl
@[simp] theorem State.flag_captures (s : State) (f : Field) (b : Bool) : (s.flag f b).captures = s.captures := rfl
@[simp] theorem State.flag_readData (s : State) (f : Field) (b : Bool) : (s.flag f b).readData = s.readData := rfl
@[simp] theorem State.flag_time (s : State) (f : Field) (b : Bool) : (s.flag f b).time = s.time := rfl
@[simp] theorem State.flag_stall (s : State) (f : Field) (b : Bool) : (s.flag f b).stall = s.stall := rfl
@[simp] theorem State.flag_host (s : State) (f : Field) (b : Bool) : (s.flag f b).host = s.host := rfl
@[simp] theorem State.flag_power (s : State) (f : Field) (b : Bool) : (s.flag f b).power = s.power := rfl
@[simp] theorem State.flag_fuses (s : State) (f : Field) (b : Bool) : (s.flag f b).fuses = s.fuses := rfl
@[simp] theorem State.flag_faultLog (s : State) (f : Field) (b : Bool) : (s.flag f b).faultLog = s.faultLog := rfl
@[simp] theorem State.flag_mem (s : State) (f : Field) (b : Bool) : (s.flag f b).mem = s.mem := rfl
@[simp] theorem State.flag_sluice (s : State) (f : Field) (b : Bool) : (s.flag f b).sluice = s.sluice := rfl
@[simp] theorem State.flag_sync (s : State) (f : Field) (b : Bool) : (s.flag f b).sync = s.sync := rfl
@[simp] theorem State.flag_work (s : State) (f : Field) (b : Bool) : (s.flag f b).work = s.work := rfl
@[simp] theorem State.flag_link (s : State) (f : Field) (b : Bool) : (s.flag f b).link = s.link := rfl
@[simp] theorem State.flag_tenants (s : State) (f : Field) (b : Bool) : (s.flag f b).tenants = s.tenants := rfl
@[simp] theorem State.flag_rngCtr (s : State) (f : Field) (b : Bool) : (s.flag f b).rngCtr = s.rngCtr := rfl
@[simp] theorem State.flag_freeCtr (s : State) (f : Field) (b : Bool) : (s.flag f b).freeCtr = s.freeCtr := rfl
@[simp] theorem State.flag_held (s : State) (f : Field) (b : Bool) : (s.flag f b).held = s.held := rfl
@[simp] theorem State.flag_pending (s : State) (f : Field) (b : Bool) : (s.flag f b).pending = s.pending := rfl

@[simp] theorem State.setPage_regs (s : State) (k : Nat) (p : Page) : (s.setPage k p).regs = s.regs := rfl
@[simp] theorem State.setPage_captures (s : State) (k : Nat) (p : Page) : (s.setPage k p).captures = s.captures := rfl
@[simp] theorem State.setPage_readData (s : State) (k : Nat) (p : Page) : (s.setPage k p).readData = s.readData := rfl
@[simp] theorem State.setPage_time (s : State) (k : Nat) (p : Page) : (s.setPage k p).time = s.time := rfl
@[simp] theorem State.setPage_stall (s : State) (k : Nat) (p : Page) : (s.setPage k p).stall = s.stall := rfl
@[simp] theorem State.setPage_host (s : State) (k : Nat) (p : Page) : (s.setPage k p).host = s.host := rfl
@[simp] theorem State.setPage_power (s : State) (k : Nat) (p : Page) : (s.setPage k p).power = s.power := rfl
@[simp] theorem State.setPage_fuses (s : State) (k : Nat) (p : Page) : (s.setPage k p).fuses = s.fuses := rfl
@[simp] theorem State.setPage_faultLog (s : State) (k : Nat) (p : Page) : (s.setPage k p).faultLog = s.faultLog := rfl
@[simp] theorem State.setPage_mem (s : State) (k : Nat) (p : Page) : (s.setPage k p).mem = s.mem := rfl
@[simp] theorem State.setPage_sluice (s : State) (k : Nat) (p : Page) : (s.setPage k p).sluice = s.sluice := rfl
@[simp] theorem State.setPage_sync (s : State) (k : Nat) (p : Page) : (s.setPage k p).sync = s.sync := rfl
@[simp] theorem State.setPage_work (s : State) (k : Nat) (p : Page) : (s.setPage k p).work = s.work := rfl
@[simp] theorem State.setPage_link (s : State) (k : Nat) (p : Page) : (s.setPage k p).link = s.link := rfl
@[simp] theorem State.setPage_tenants (s : State) (k : Nat) (p : Page) : (s.setPage k p).tenants = s.tenants := rfl
@[simp] theorem State.setPage_rngCtr (s : State) (k : Nat) (p : Page) : (s.setPage k p).rngCtr = s.rngCtr := rfl
@[simp] theorem State.setPage_freeCtr (s : State) (k : Nat) (p : Page) : (s.setPage k p).freeCtr = s.freeCtr := rfl
@[simp] theorem State.setPage_held (s : State) (k : Nat) (p : Page) : (s.setPage k p).held = s.held := rfl
@[simp] theorem State.setPage_pending (s : State) (k : Nat) (p : Page) : (s.setPage k p).pending = s.pending := rfl

@[simp] theorem State.setDom_regs (s : State) (d : Nat) (v : Dom) : (s.setDom d v).regs = s.regs := rfl
@[simp] theorem State.setDom_pages (s : State) (d : Nat) (v : Dom) : (s.setDom d v).pages = s.pages := rfl
@[simp] theorem State.setDom_captures (s : State) (d : Nat) (v : Dom) : (s.setDom d v).captures = s.captures := rfl
@[simp] theorem State.setDom_readData (s : State) (d : Nat) (v : Dom) : (s.setDom d v).readData = s.readData := rfl
@[simp] theorem State.setDom_time (s : State) (d : Nat) (v : Dom) : (s.setDom d v).time = s.time := rfl
@[simp] theorem State.setDom_stall (s : State) (d : Nat) (v : Dom) : (s.setDom d v).stall = s.stall := rfl
@[simp] theorem State.setDom_host (s : State) (d : Nat) (v : Dom) : (s.setDom d v).host = s.host := rfl
@[simp] theorem State.setDom_fuses (s : State) (d : Nat) (v : Dom) : (s.setDom d v).fuses = s.fuses := rfl
@[simp] theorem State.setDom_faultLog (s : State) (d : Nat) (v : Dom) : (s.setDom d v).faultLog = s.faultLog := rfl
@[simp] theorem State.setDom_mem (s : State) (d : Nat) (v : Dom) : (s.setDom d v).mem = s.mem := rfl
@[simp] theorem State.setDom_sluice (s : State) (d : Nat) (v : Dom) : (s.setDom d v).sluice = s.sluice := rfl
@[simp] theorem State.setDom_sync (s : State) (d : Nat) (v : Dom) : (s.setDom d v).sync = s.sync := rfl
@[simp] theorem State.setDom_work (s : State) (d : Nat) (v : Dom) : (s.setDom d v).work = s.work := rfl
@[simp] theorem State.setDom_link (s : State) (d : Nat) (v : Dom) : (s.setDom d v).link = s.link := rfl
@[simp] theorem State.setDom_tenants (s : State) (d : Nat) (v : Dom) : (s.setDom d v).tenants = s.tenants := rfl
@[simp] theorem State.setDom_rngCtr (s : State) (d : Nat) (v : Dom) : (s.setDom d v).rngCtr = s.rngCtr := rfl
@[simp] theorem State.setDom_freeCtr (s : State) (d : Nat) (v : Dom) : (s.setDom d v).freeCtr = s.freeCtr := rfl
@[simp] theorem State.setDom_held (s : State) (d : Nat) (v : Dom) : (s.setDom d v).held = s.held := rfl
@[simp] theorem State.setDom_pending (s : State) (d : Nat) (v : Dom) : (s.setDom d v).pending = s.pending := rfl

@[simp] theorem State.captureFn_regs (s : State) (fn page : Nat) (st : Status) (i j : Nat) : (s.captureFn fn page st i j).regs = s.regs := rfl
@[simp] theorem State.captureFn_captures (s : State) (fn page : Nat) (st : Status) (i j : Nat) : (s.captureFn fn page st i j).captures = s.captures := rfl
@[simp] theorem State.captureFn_readData (s : State) (fn page : Nat) (st : Status) (i j : Nat) : (s.captureFn fn page st i j).readData = s.readData := rfl
@[simp] theorem State.captureFn_time (s : State) (fn page : Nat) (st : Status) (i j : Nat) : (s.captureFn fn page st i j).time = s.time := rfl
@[simp] theorem State.captureFn_stall (s : State) (fn page : Nat) (st : Status) (i j : Nat) : (s.captureFn fn page st i j).stall = s.stall := rfl
@[simp] theorem State.captureFn_host (s : State) (fn page : Nat) (st : Status) (i j : Nat) : (s.captureFn fn page st i j).host = s.host := rfl
@[simp] theorem State.captureFn_power (s : State) (fn page : Nat) (st : Status) (i j : Nat) : (s.captureFn fn page st i j).power = s.power := rfl
@[simp] theorem State.captureFn_fuses (s : State) (fn page : Nat) (st : Status) (i j : Nat) : (s.captureFn fn page st i j).fuses = s.fuses := rfl
@[simp] theorem State.captureFn_faultLog (s : State) (fn page : Nat) (st : Status) (i j : Nat) : (s.captureFn fn page st i j).faultLog = s.faultLog := rfl
@[simp] theorem State.captureFn_mem (s : State) (fn page : Nat) (st : Status) (i j : Nat) : (s.captureFn fn page st i j).mem = s.mem := rfl
@[simp] theorem State.captureFn_sluice (s : State) (fn page : Nat) (st : Status) (i j : Nat) : (s.captureFn fn page st i j).sluice = s.sluice := rfl
@[simp] theorem State.captureFn_sync (s : State) (fn page : Nat) (st : Status) (i j : Nat) : (s.captureFn fn page st i j).sync = s.sync := rfl
@[simp] theorem State.captureFn_work (s : State) (fn page : Nat) (st : Status) (i j : Nat) : (s.captureFn fn page st i j).work = s.work := rfl
@[simp] theorem State.captureFn_link (s : State) (fn page : Nat) (st : Status) (i j : Nat) : (s.captureFn fn page st i j).link = s.link := rfl
@[simp] theorem State.captureFn_tenants (s : State) (fn page : Nat) (st : Status) (i j : Nat) : (s.captureFn fn page st i j).tenants = s.tenants := rfl
@[simp] theorem State.captureFn_rngCtr (s : State) (fn page : Nat) (st : Status) (i j : Nat) : (s.captureFn fn page st i j).rngCtr = s.rngCtr := rfl
@[simp] theorem State.captureFn_freeCtr (s : State) (fn page : Nat) (st : Status) (i j : Nat) : (s.captureFn fn page st i j).freeCtr = s.freeCtr := rfl
@[simp] theorem State.captureFn_held (s : State) (fn page : Nat) (st : Status) (i j : Nat) : (s.captureFn fn page st i j).held = s.held := rfl
@[simp] theorem State.captureFn_pending (s : State) (fn page : Nat) (st : Status) (i j : Nat) : (s.captureFn fn page st i j).pending = s.pending := rfl

@[simp] theorem State.capture_regs (s : State) (page : Nat) (st : Status) (i j : Nat) : (s.capture page st i j).regs = s.regs := rfl
@[simp] theorem State.capture_captures (s : State) (page : Nat) (st : Status) (i j : Nat) : (s.capture page st i j).captures = s.captures := rfl
@[simp] theorem State.capture_readData (s : State) (page : Nat) (st : Status) (i j : Nat) : (s.capture page st i j).readData = s.readData := rfl
@[simp] theorem State.capture_time (s : State) (page : Nat) (st : Status) (i j : Nat) : (s.capture page st i j).time = s.time := rfl
@[simp] theorem State.capture_stall (s : State) (page : Nat) (st : Status) (i j : Nat) : (s.capture page st i j).stall = s.stall := rfl
@[simp] theorem State.capture_host (s : State) (page : Nat) (st : Status) (i j : Nat) : (s.capture page st i j).host = s.host := rfl
@[simp] theorem State.capture_power (s : State) (page : Nat) (st : Status) (i j : Nat) : (s.capture page st i j).power = s.power := rfl
@[simp] theorem State.capture_fuses (s : State) (page : Nat) (st : Status) (i j : Nat) : (s.capture page st i j).fuses = s.fuses := rfl
@[simp] theorem State.capture_faultLog (s : State) (page : Nat) (st : Status) (i j : Nat) : (s.capture page st i j).faultLog = s.faultLog := rfl
@[simp] theorem State.capture_mem (s : State) (page : Nat) (st : Status) (i j : Nat) : (s.capture page st i j).mem = s.mem := rfl
@[simp] theorem State.capture_sluice (s : State) (page : Nat) (st : Status) (i j : Nat) : (s.capture page st i j).sluice = s.sluice := rfl
@[simp] theorem State.capture_sync (s : State) (page : Nat) (st : Status) (i j : Nat) : (s.capture page st i j).sync = s.sync := rfl
@[simp] theorem State.capture_work (s : State) (page : Nat) (st : Status) (i j : Nat) : (s.capture page st i j).work = s.work := rfl
@[simp] theorem State.capture_link (s : State) (page : Nat) (st : Status) (i j : Nat) : (s.capture page st i j).link = s.link := rfl
@[simp] theorem State.capture_tenants (s : State) (page : Nat) (st : Status) (i j : Nat) : (s.capture page st i j).tenants = s.tenants := rfl
@[simp] theorem State.capture_rngCtr (s : State) (page : Nat) (st : Status) (i j : Nat) : (s.capture page st i j).rngCtr = s.rngCtr := rfl
@[simp] theorem State.capture_freeCtr (s : State) (page : Nat) (st : Status) (i j : Nat) : (s.capture page st i j).freeCtr = s.freeCtr := rfl
@[simp] theorem State.capture_held (s : State) (page : Nat) (st : Status) (i j : Nat) : (s.capture page st i j).held = s.held := rfl
@[simp] theorem State.capture_pending (s : State) (page : Nat) (st : Status) (i j : Nat) : (s.capture page st i j).pending = s.pending := rfl

@[simp] theorem State.refuseWrite_regs (s : State) (fn addr v : Nat) : (s.refuseWrite fn addr v).regs = s.regs := rfl
@[simp] theorem State.refuseWrite_captures (s : State) (fn addr v : Nat) : (s.refuseWrite fn addr v).captures = s.captures := rfl
@[simp] theorem State.refuseWrite_readData (s : State) (fn addr v : Nat) : (s.refuseWrite fn addr v).readData = s.readData := rfl
@[simp] theorem State.refuseWrite_time (s : State) (fn addr v : Nat) : (s.refuseWrite fn addr v).time = s.time := rfl
@[simp] theorem State.refuseWrite_stall (s : State) (fn addr v : Nat) : (s.refuseWrite fn addr v).stall = s.stall := rfl
@[simp] theorem State.refuseWrite_host (s : State) (fn addr v : Nat) : (s.refuseWrite fn addr v).host = s.host := rfl
@[simp] theorem State.refuseWrite_power (s : State) (fn addr v : Nat) : (s.refuseWrite fn addr v).power = s.power := rfl
@[simp] theorem State.refuseWrite_fuses (s : State) (fn addr v : Nat) : (s.refuseWrite fn addr v).fuses = s.fuses := rfl
@[simp] theorem State.refuseWrite_faultLog (s : State) (fn addr v : Nat) : (s.refuseWrite fn addr v).faultLog = s.faultLog := rfl
@[simp] theorem State.refuseWrite_mem (s : State) (fn addr v : Nat) : (s.refuseWrite fn addr v).mem = s.mem := rfl
@[simp] theorem State.refuseWrite_sluice (s : State) (fn addr v : Nat) : (s.refuseWrite fn addr v).sluice = s.sluice := rfl
@[simp] theorem State.refuseWrite_sync (s : State) (fn addr v : Nat) : (s.refuseWrite fn addr v).sync = s.sync := rfl
@[simp] theorem State.refuseWrite_work (s : State) (fn addr v : Nat) : (s.refuseWrite fn addr v).work = s.work := rfl
@[simp] theorem State.refuseWrite_link (s : State) (fn addr v : Nat) : (s.refuseWrite fn addr v).link = s.link := rfl
@[simp] theorem State.refuseWrite_tenants (s : State) (fn addr v : Nat) : (s.refuseWrite fn addr v).tenants = s.tenants := rfl
@[simp] theorem State.refuseWrite_rngCtr (s : State) (fn addr v : Nat) : (s.refuseWrite fn addr v).rngCtr = s.rngCtr := rfl
@[simp] theorem State.refuseWrite_freeCtr (s : State) (fn addr v : Nat) : (s.refuseWrite fn addr v).freeCtr = s.freeCtr := rfl
@[simp] theorem State.refuseWrite_held (s : State) (fn addr v : Nat) : (s.refuseWrite fn addr v).held = s.held := rfl
@[simp] theorem State.refuseWrite_pending (s : State) (fn addr v : Nat) : (s.refuseWrite fn addr v).pending = s.pending := rfl

/-! ### Keyed parts: what each reads after it takes contents, and that registers and pages stay -/

@[simp] theorem State.counter_setCounter_self (s : State) (c : Nat) (v : Counter) : (s.setCounter c v).counter c = v := Map.get_put_self _ _ _ _

theorem State.counter_setCounter_ne {c j : Nat} (h : j ≠ c) (s : State) (v : Counter) : (s.setCounter c v).counter j = s.counter j := Map.get_put_ne h _ _ _ _

@[simp] theorem State.get_setCounter (s : State) (c : Nat) (v : Counter) (x : Field) : (s.setCounter c v).get x = s.get x := rfl

@[simp] theorem State.page_setCounter (s : State) (c : Nat) (v : Counter) (q : Nat) : (s.setCounter c v).page q = s.page q := rfl

@[simp] theorem State.chain_setChain_self (s : State) (c : Nat) (v : Chain) : (s.setChain c v).chain c = v := Map.get_put_self _ _ _ _

theorem State.chain_setChain_ne {c j : Nat} (h : j ≠ c) (s : State) (v : Chain) : (s.setChain c v).chain j = s.chain j := Map.get_put_ne h _ _ _ _

@[simp] theorem State.get_setChain (s : State) (c : Nat) (v : Chain) (x : Field) : (s.setChain c v).get x = s.get x := rfl

@[simp] theorem State.page_setChain (s : State) (c : Nat) (v : Chain) (q : Nat) : (s.setChain c v).page q = s.page q := rfl

@[simp] theorem State.channel_setChannel_self (s : State) (k : Nat) (v : Channel) : (s.setChannel k v).channel k = v := Map.get_put_self _ _ _ _

theorem State.channel_setChannel_ne {k j : Nat} (h : j ≠ k) (s : State) (v : Channel) : (s.setChannel k v).channel j = s.channel j := Map.get_put_ne h _ _ _ _

@[simp] theorem State.get_setChannel (s : State) (k : Nat) (v : Channel) (x : Field) : (s.setChannel k v).get x = s.get x := rfl

@[simp] theorem State.page_setChannel (s : State) (k : Nat) (v : Channel) (q : Nat) : (s.setChannel k v).page q = s.page q := rfl

@[simp] theorem State.flow_setFlow_self (s : State) (w : Nat) (v : Flow) : (s.setFlow w v).flow w = v := Map.get_put_self _ _ _ _

theorem State.flow_setFlow_ne {w j : Nat} (h : j ≠ w) (s : State) (v : Flow) : (s.setFlow w v).flow j = s.flow j := Map.get_put_ne h _ _ _ _

@[simp] theorem State.get_setFlow (s : State) (w : Nat) (v : Flow) (x : Field) : (s.setFlow w v).get x = s.get x := rfl

@[simp] theorem State.page_setFlow (s : State) (w : Nat) (v : Flow) (q : Nat) : (s.setFlow w v).page q = s.page q := rfl

@[simp] theorem State.port_setPort_self (s : State) (p : Nat) (v : Port) : (s.setPort p v).port p = v := Map.get_put_self _ _ _ _

theorem State.port_setPort_ne {p j : Nat} (h : j ≠ p) (s : State) (v : Port) : (s.setPort p v).port j = s.port j := Map.get_put_ne h _ _ _ _

@[simp] theorem State.get_setPort (s : State) (p : Nat) (v : Port) (x : Field) : (s.setPort p v).get x = s.get x := rfl

@[simp] theorem State.page_setPort (s : State) (p : Nat) (v : Port) (q : Nat) : (s.setPort p v).page q = s.page q := rfl

@[simp] theorem State.wset_setWset_self (s : State) (e : Nat) (v : WeightSet) : (s.setWset e v).wset e = v := Map.get_put_self _ _ _ _

theorem State.wset_setWset_ne {e j : Nat} (h : j ≠ e) (s : State) (v : WeightSet) : (s.setWset e v).wset j = s.wset j := Map.get_put_ne h _ _ _ _

@[simp] theorem State.get_setWset (s : State) (e : Nat) (v : WeightSet) (x : Field) : (s.setWset e v).get x = s.get x := rfl

@[simp] theorem State.page_setWset (s : State) (e : Nat) (v : WeightSet) (q : Nat) : (s.setWset e v).page q = s.page q := rfl

@[simp] theorem State.inst_setInst_self (s : State) (f : Nat) (v : Inst) : (s.setInst f v).inst f = v := Map.get_put_self _ _ _ _

theorem State.inst_setInst_ne {f j : Nat} (h : j ≠ f) (s : State) (v : Inst) : (s.setInst f v).inst j = s.inst j := Map.get_put_ne h _ _ _ _

@[simp] theorem State.get_setInst (s : State) (f : Nat) (v : Inst) (x : Field) : (s.setInst f v).get x = s.get x := rfl

@[simp] theorem State.page_setInst (s : State) (f : Nat) (v : Inst) (q : Nat) : (s.setInst f v).page q = s.page q := rfl

@[simp] theorem State.stepGroups_setStepGroups_self (s : State) (n : Nat) (v : List StepGroup) : (s.setStepGroups n v).stepGroups n = v := Map.get_put_self _ _ _ _

theorem State.stepGroups_setStepGroups_ne {n j : Nat} (h : j ≠ n) (s : State) (v : List StepGroup) : (s.setStepGroups n v).stepGroups j = s.stepGroups j := Map.get_put_ne h _ _ _ _

@[simp] theorem State.get_setStepGroups (s : State) (n : Nat) (v : List StepGroup) (x : Field) : (s.setStepGroups n v).get x = s.get x := rfl

@[simp] theorem State.page_setStepGroups (s : State) (n : Nat) (v : List StepGroup) (q : Nat) : (s.setStepGroups n v).page q = s.page q := rfl

@[simp] theorem State.cache_setCache_self (s : State) (n : Nat) (v : Cache) : (s.setCache n v).cache n = v := Map.get_put_self _ _ _ _

theorem State.cache_setCache_ne {n j : Nat} (h : j ≠ n) (s : State) (v : Cache) : (s.setCache n v).cache j = s.cache j := Map.get_put_ne h _ _ _ _

@[simp] theorem State.get_setCache (s : State) (n : Nat) (v : Cache) (x : Field) : (s.setCache n v).get x = s.get x := rfl

@[simp] theorem State.page_setCache (s : State) (n : Nat) (v : Cache) (q : Nat) : (s.setCache n v).page q = s.page q := rfl

@[simp] theorem State.ring_setRing_self (s : State) (c : Nat) (v : Ring) : (s.setRing c v).ring c = v := Map.get_put_self _ _ _ _

theorem State.ring_setRing_ne {c j : Nat} (h : j ≠ c) (s : State) (v : Ring) : (s.setRing c v).ring j = s.ring j := Map.get_put_ne h _ _ _ _

@[simp] theorem State.get_setRing (s : State) (c : Nat) (v : Ring) (x : Field) : (s.setRing c v).get x = s.get x := rfl

@[simp] theorem State.page_setRing (s : State) (c : Nat) (v : Ring) (q : Nat) : (s.setRing c v).page q = s.page q := rfl

@[simp] theorem State.readyList_setReadyList_self (s : State) (g : Nat) (v : List ReadyFlow) : (s.setReadyList g v).readyList g = v := Map.get_put_self _ _ _ _

theorem State.readyList_setReadyList_ne {g j : Nat} (h : j ≠ g) (s : State) (v : List ReadyFlow) : (s.setReadyList g v).readyList j = s.readyList j := Map.get_put_ne h _ _ _ _

@[simp] theorem State.get_setReadyList (s : State) (g : Nat) (v : List ReadyFlow) (x : Field) : (s.setReadyList g v).get x = s.get x := rfl

@[simp] theorem State.page_setReadyList (s : State) (g : Nat) (v : List ReadyFlow) (q : Nat) : (s.setReadyList g v).page q = s.page q := rfl

@[simp] theorem State.delayList_setDelayList_self (s : State) (d : Nat) (v : List (Nat × Task)) : (s.setDelayList d v).delayList d = v := Map.get_put_self _ _ _ _

theorem State.delayList_setDelayList_ne {d j : Nat} (h : j ≠ d) (s : State) (v : List (Nat × Task)) : (s.setDelayList d v).delayList j = s.delayList j := Map.get_put_ne h _ _ _ _

@[simp] theorem State.get_setDelayList (s : State) (d : Nat) (v : List (Nat × Task)) (x : Field) : (s.setDelayList d v).get x = s.get x := rfl

@[simp] theorem State.page_setDelayList (s : State) (d : Nat) (v : List (Nat × Task)) (q : Nat) : (s.setDelayList d v).page q = s.page q := rfl

/-- A slot holds the task it is given, or none. -/
@[simp] theorem State.running_setRunning_self (s : State) (core slot : Nat) (r : Option Running) : (s.setRunning core slot r).running core slot = r := by
  cases r <;> simp [State.running, State.setRunning]

theorem State.running_setRunning_ne {core slot core' slot' : Nat} (h : core' * 4 + slot' ≠ core * 4 + slot) (s : State) (r : Option Running) :
    (s.setRunning core slot r).running core' slot' = s.running core' slot' := by
  cases r
  · exact Map.find_erase_ne h _
  · exact Map.find_insert_ne h _ _

@[simp] theorem State.get_setRunning (s : State) (core slot : Nat) (r : Option Running) (x : Field) : (s.setRunning core slot r).get x = s.get x := rfl

@[simp] theorem State.page_setRunning (s : State) (core slot : Nat) (r : Option Running) (q : Nat) : (s.setRunning core slot r).page q = s.page q := rfl

/-- A cell holds what it is given. -/
@[simp] theorem State.cells_setCell_self (s : State) (k : Nat) (v : Cell) : Map.find (s.setCell k v).work.cells k = some v := Map.find_insert_self _ _ _

theorem State.cells_setCell_ne {k j : Nat} (h : j ≠ k) (s : State) (v : Cell) : Map.find (s.setCell k v).work.cells j = Map.find s.work.cells j :=
  Map.find_insert_ne h _ _

/-! ### Only some parts -/

theorem OnlyParts.refl (ps : List Part) (s : State) : OnlyParts ps s s := by
  intro p _
  cases p <;> simp [SamePart]

theorem OnlyParts.trans {ps : List Part} {s t u : State} (h : OnlyParts ps s t) (h' : OnlyParts ps t u) : OnlyParts ps s u := by
  intro p hp
  have a := h p hp
  have b := h' p hp
  cases p <;> first | exact Eq.trans b a | exact ⟨b.1.trans a.1, b.2.1.trans a.2.1, b.2.2.trans a.2.2⟩

theorem OnlyParts.mono {ps qs : List Part} {s t : State} (hs : ∀ p ∈ ps, p ∈ qs) (h : OnlyParts ps s t) : OnlyParts qs s t :=
  fun p hp => h p (fun hm => hp (hs p hm))

theorem OnlyRegs.refl (fs : List Field) (s : State) : OnlyRegs fs s s := fun _ _ => rfl

theorem OnlyRegs.trans {fs : List Field} {s t u : State} (h : OnlyRegs fs s t) (h' : OnlyRegs fs t u) : OnlyRegs fs s u :=
  fun g hg => (h' g hg).trans (h g hg)

/-- Of the registers, a write changes its field. -/
theorem OnlyRegs.set {fs : List Field} {s t : State} (h : OnlyRegs fs s t) {f : Field} (hf : f ∈ fs) (v : Nat) : OnlyRegs fs s (t.set f v) := by
  intro g hg
  have hne : g.key ≠ f.key := fun e => hg (e ▸ List.mem_map_of_mem hf)
  exact (State.get_set_ne hne t v).trans (h g hg)

/-- A state of the same registers changes none. -/
theorem OnlyRegs.of_regs {fs : List Field} {s t u : State} (h : OnlyRegs fs s t) (e : u.regs = t.regs) : OnlyRegs fs s u :=
  fun g hg => (State.get_of_regs e g).trans (h g hg)

/-! ### Where a command takes effect -/

theorem mmio_reaches {fn page : Nat} {s : State} (h : s.Reaches fn page) (body : State → Outcome) : mmio fn page s body = body s := by
  unfold mmio
  rw [h.1, h.2]
  rfl

theorem mmioRead_reaches {fn page : Nat} {s : State} (h : s.Reaches fn page) (body : State → Outcome) : mmioRead fn page s body = body s := by
  unfold mmioRead
  rw [h.1, h.2]
  rfl

theorem fabric_flowing {s : State} (h : s.Flowing) (page block : Nat) (c : Instr) (body : State → Outcome) : fabric page block c s body = body s := by
  unfold fabric State.behind
  rw [h.1, h.2]
  rfl

theorem command_runs {fn page : Nat} {s : State} (h : s.Reaches fn page) (hf : s.Flowing) (c : Instr) (body : State → Outcome) :
    command fn page c s body = body s := by
  unfold command
  rw [mmio_reaches h, fabric_flowing hf]

theorem event_awake {page : Nat} {s : State} (h : s.Awake page) (body : State → Outcome) : event page s body = body s := by
  unfold event halted
  rw [h.1, h.2]
  rfl

/-- A command that answers a given next state runs, where the state is as wanted. -/
theorem Runs.of_next {c : Instr} {s t : State} {post : State → Prop} (h : exec c s = .next t) (hp : post t) : Runs c s post := ⟨t, h, hp⟩

end Sys2Proof.Machine
end

