-- ==== Sys2Proof/Laws/Events.lean ====
section
/-!
SUPPORT. The laws of events, captures and the fault log: which bit shows, which message goes out, and what stays.
-/

set_option Elab.async false

namespace Sys2Proof.Machine

theorem foldl_exists {γ : Type} (P : State → State → Prop) (hr : ∀ s, P s s) (ht : ∀ s t u, P s t → P t u → P s u) (g : State → γ → State)
    (h : ∀ s a, P s (g s a)) (l : List γ) : ∀ s, P s (l.foldl g s) := by
  induction l with
  | nil => exact hr
  | cons a l ih => exact fun s => ht _ _ _ (h s a) (ih (g s a))

/-- Only what has been sent to the host or is owed to it differs. -/
def SentOnly (s t : State) : Prop := ∃ o w v, t = { s with host := { s.host with out := o, owed := w, vecPending := v } }

theorem SentOnly.refl (s : State) : SentOnly s s := ⟨_, _, _, rfl⟩

theorem SentOnly.trans {s t u : State} (h : SentOnly s t) (h' : SentOnly t u) : SentOnly s u := by
  obtain ⟨o, w, v, rfl⟩ := h
  obtain ⟨o', w', v', rfl⟩ := h'
  exact ⟨o', w', v', rfl⟩

theorem State.sendMsg_sent (s : State) (fn page : Nat) : SentOnly s (s.sendMsg fn page) := by
  unfold State.sendMsg
  repeat' first | split | exact SentOnly.refl s | exact ⟨_, _, _, rfl⟩ | dsimp only

/-- R619. What an event leaves: its bit shows in the copy of the page, and perhaps a message. -/
theorem State.raiseFn_eq (s : State) (fn page bit : Nat) :
    SentOnly (s.setPage (pageKey fn page) { s.page (pageKey fn page) with evtStat := (s.page (pageKey fn page)).evtStat ||| 2 ^ bit }) (s.raiseFn fn page bit) := by
  unfold State.raiseFn
  dsimp only
  split
  · exact foldl_exists SentOnly SentOnly.refl (fun _ _ _ => SentOnly.trans) _ (fun t f => t.sendMsg_sent f page) _ _
  · exact SentOnly.refl _

/-- An event sets its bit in the copy of the page and changes none of the page's other registers. -/
theorem State.raiseFn_page_self (s : State) (fn page bit : Nat) : (s.raiseFn fn page bit).page (pageKey fn page) =
    { s.page (pageKey fn page) with evtStat := (s.page (pageKey fn page)).evtStat ||| 2 ^ bit } := by
  obtain ⟨o, w, v, h⟩ := s.raiseFn_eq fn page bit
  rw [h]
  exact State.page_setPage_self s _ _

/-- An event leaves the other page copies. -/
theorem State.raiseFn_page_ne (s : State) (fn page bit : Nat) {k : Nat} (hk : k ≠ pageKey fn page) : (s.raiseFn fn page bit).page k = s.page k := by
  obtain ⟨o, w, v, h⟩ := s.raiseFn_eq fn page bit
  rw [h]
  exact State.page_setPage_ne hk s _

theorem bitOf_eq_testBit (n k : Nat) : bitOf n k = n.testBit k := by
  rw [Nat.testBit_eq_decide_div_mod_eq]
  rfl

/-- The bit of an event that occurs shows. -/
theorem State.raiseFn_shows (s : State) (fn page bit : Nat) : (s.raiseFn fn page bit).shows fn page bit = true := by
  unfold State.shows
  rw [State.raiseFn_page_self]
  rw [bitOf_eq_testBit, Nat.testBit_or, Nat.testBit_two_pow_self, Bool.or_true]

theorem State.raise_shows (s : State) (page bit : Nat) : (s.raise page bit).shows 0 page bit = true := s.raiseFn_shows 0 page bit

/-- An error code captured. -/
theorem State.captureFn_page_self (s : State) (fn page : Nat) (st : Status) (i j : Nat) : (s.captureFn fn page st i j).page (pageKey fn page) =
    { s.page (pageKey fn page) with errCode := st.code, errCount := min 255 ((s.page (pageKey fn page)).errCount + 1), errInfo0 := i % 2 ^ 32,
                                    errInfo1 := j % 2 ^ 32, errNext := none, errTime := s.now } :=
  State.page_setPage_self s _ _

theorem State.captureFn_page_ne (s : State) (fn page : Nat) (st : Status) (i j : Nat) {k : Nat} (hk : k ≠ pageKey fn page) :
    (s.captureFn fn page st i j).page k = s.page k := State.page_setPage_ne hk s _

/-- What all copies' events leave alone. -/
theorem State.raiseAll_of (s : State) (page bit : Nat) {β : Type} (f : State → β) (h : ∀ t fn, f (t.raiseFn fn page bit) = f t) :
    f (s.raiseAll page bit) = f s := by
  unfold State.raiseAll
  exact foldl_exists (fun a b => f b = f a) (fun _ => rfl) (fun _ _ _ h h' => h'.trans h) _ h _ s

@[simp] theorem State.raiseFn_regs (s : State) (fn page bit : Nat) : (s.raiseFn fn page bit).regs = s.regs := by
  obtain ⟨o, w, v, h⟩ := s.raiseFn_eq fn page bit
  rw [h]
  rfl

@[simp] theorem State.raise_regs (s : State) (page bit : Nat) : (s.raise page bit).regs = s.regs := s.raiseFn_regs 0 page bit

@[simp] theorem State.raiseAll_regs (s : State) (page bit : Nat) : (s.raiseAll page bit).regs = s.regs :=
  s.raiseAll_of page bit (·.regs) (fun t fn => t.raiseFn_regs fn page bit)

@[simp] theorem State.raiseFn_captures (s : State) (fn page bit : Nat) : (s.raiseFn fn page bit).captures = s.captures := by
  obtain ⟨o, w, v, h⟩ := s.raiseFn_eq fn page bit
  rw [h]
  rfl

@[simp] theorem State.raise_captures (s : State) (page bit : Nat) : (s.raise page bit).captures = s.captures := s.raiseFn_captures 0 page bit

@[simp] theorem State.raiseAll_captures (s : State) (page bit : Nat) : (s.raiseAll page bit).captures = s.captures :=
  s.raiseAll_of page bit (·.captures) (fun t fn => t.raiseFn_captures fn page bit)

@[simp] theorem State.raiseFn_readData (s : State) (fn page bit : Nat) : (s.raiseFn fn page bit).readData = s.readData := by
  obtain ⟨o, w, v, h⟩ := s.raiseFn_eq fn page bit
  rw [h]
  rfl

@[simp] theorem State.raise_readData (s : State) (page bit : Nat) : (s.raise page bit).readData = s.readData := s.raiseFn_readData 0 page bit

@[simp] theorem State.raiseAll_readData (s : State) (page bit : Nat) : (s.raiseAll page bit).readData = s.readData :=
  s.raiseAll_of page bit (·.readData) (fun t fn => t.raiseFn_readData fn page bit)

@[simp] theorem State.raiseFn_time (s : State) (fn page bit : Nat) : (s.raiseFn fn page bit).time = s.time := by
  obtain ⟨o, w, v, h⟩ := s.raiseFn_eq fn page bit
  rw [h]
  rfl

@[simp] theorem State.raise_time (s : State) (page bit : Nat) : (s.raise page bit).time = s.time := s.raiseFn_time 0 page bit

@[simp] theorem State.raiseAll_time (s : State) (page bit : Nat) : (s.raiseAll page bit).time = s.time :=
  s.raiseAll_of page bit (·.time) (fun t fn => t.raiseFn_time fn page bit)

@[simp] theorem State.raiseFn_stall (s : State) (fn page bit : Nat) : (s.raiseFn fn page bit).stall = s.stall := by
  obtain ⟨o, w, v, h⟩ := s.raiseFn_eq fn page bit
  rw [h]
  rfl

@[simp] theorem State.raise_stall (s : State) (page bit : Nat) : (s.raise page bit).stall = s.stall := s.raiseFn_stall 0 page bit

@[simp] theorem State.raiseAll_stall (s : State) (page bit : Nat) : (s.raiseAll page bit).stall = s.stall :=
  s.raiseAll_of page bit (·.stall) (fun t fn => t.raiseFn_stall fn page bit)

@[simp] theorem State.raiseFn_power (s : State) (fn page bit : Nat) : (s.raiseFn fn page bit).power = s.power := by
  obtain ⟨o, w, v, h⟩ := s.raiseFn_eq fn page bit
  rw [h]
  rfl

@[simp] theorem State.raise_power (s : State) (page bit : Nat) : (s.raise page bit).power = s.power := s.raiseFn_power 0 page bit

@[simp] theorem State.raiseAll_power (s : State) (page bit : Nat) : (s.raiseAll page bit).power = s.power :=
  s.raiseAll_of page bit (·.power) (fun t fn => t.raiseFn_power fn page bit)

@[simp] theorem State.raiseFn_fuses (s : State) (fn page bit : Nat) : (s.raiseFn fn page bit).fuses = s.fuses := by
  obtain ⟨o, w, v, h⟩ := s.raiseFn_eq fn page bit
  rw [h]
  rfl

@[simp] theorem State.raise_fuses (s : State) (page bit : Nat) : (s.raise page bit).fuses = s.fuses := s.raiseFn_fuses 0 page bit

@[simp] theorem State.raiseAll_fuses (s : State) (page bit : Nat) : (s.raiseAll page bit).fuses = s.fuses :=
  s.raiseAll_of page bit (·.fuses) (fun t fn => t.raiseFn_fuses fn page bit)

@[simp] theorem State.raiseFn_faultLog (s : State) (fn page bit : Nat) : (s.raiseFn fn page bit).faultLog = s.faultLog := by
  obtain ⟨o, w, v, h⟩ := s.raiseFn_eq fn page bit
  rw [h]
  rfl

@[simp] theorem State.raise_faultLog (s : State) (page bit : Nat) : (s.raise page bit).faultLog = s.faultLog := s.raiseFn_faultLog 0 page bit

@[simp] theorem State.raiseAll_faultLog (s : State) (page bit : Nat) : (s.raiseAll page bit).faultLog = s.faultLog :=
  s.raiseAll_of page bit (·.faultLog) (fun t fn => t.raiseFn_faultLog fn page bit)

@[simp] theorem State.raiseFn_mem (s : State) (fn page bit : Nat) : (s.raiseFn fn page bit).mem = s.mem := by
  obtain ⟨o, w, v, h⟩ := s.raiseFn_eq fn page bit
  rw [h]
  rfl

@[simp] theorem State.raise_mem (s : State) (page bit : Nat) : (s.raise page bit).mem = s.mem := s.raiseFn_mem 0 page bit

@[simp] theorem State.raiseAll_mem (s : State) (page bit : Nat) : (s.raiseAll page bit).mem = s.mem :=
  s.raiseAll_of page bit (·.mem) (fun t fn => t.raiseFn_mem fn page bit)

@[simp] theorem State.raiseFn_sluice (s : State) (fn page bit : Nat) : (s.raiseFn fn page bit).sluice = s.sluice := by
  obtain ⟨o, w, v, h⟩ := s.raiseFn_eq fn page bit
  rw [h]
  rfl

@[simp] theorem State.raise_sluice (s : State) (page bit : Nat) : (s.raise page bit).sluice = s.sluice := s.raiseFn_sluice 0 page bit

@[simp] theorem State.raiseAll_sluice (s : State) (page bit : Nat) : (s.raiseAll page bit).sluice = s.sluice :=
  s.raiseAll_of page bit (·.sluice) (fun t fn => t.raiseFn_sluice fn page bit)

@[simp] theorem State.raiseFn_sync (s : State) (fn page bit : Nat) : (s.raiseFn fn page bit).sync = s.sync := by
  obtain ⟨o, w, v, h⟩ := s.raiseFn_eq fn page bit
  rw [h]
  rfl

@[simp] theorem State.raise_sync (s : State) (page bit : Nat) : (s.raise page bit).sync = s.sync := s.raiseFn_sync 0 page bit

@[simp] theorem State.raiseAll_sync (s : State) (page bit : Nat) : (s.raiseAll page bit).sync = s.sync :=
  s.raiseAll_of page bit (·.sync) (fun t fn => t.raiseFn_sync fn page bit)

@[simp] theorem State.raiseFn_work (s : State) (fn page bit : Nat) : (s.raiseFn fn page bit).work = s.work := by
  obtain ⟨o, w, v, h⟩ := s.raiseFn_eq fn page bit
  rw [h]
  rfl

@[simp] theorem State.raise_work (s : State) (page bit : Nat) : (s.raise page bit).work = s.work := s.raiseFn_work 0 page bit

@[simp] theorem State.raiseAll_work (s : State) (page bit : Nat) : (s.raiseAll page bit).work = s.work :=
  s.raiseAll_of page bit (·.work) (fun t fn => t.raiseFn_work fn page bit)

@[simp] theorem State.raiseFn_link (s : State) (fn page bit : Nat) : (s.raiseFn fn page bit).link = s.link := by
  obtain ⟨o, w, v, h⟩ := s.raiseFn_eq fn page bit
  rw [h]
  rfl

@[simp] theorem State.raise_link (s : State) (page bit : Nat) : (s.raise page bit).link = s.link := s.raiseFn_link 0 page bit

@[simp] theorem State.raiseAll_link (s : State) (page bit : Nat) : (s.raiseAll page bit).link = s.link :=
  s.raiseAll_of page bit (·.link) (fun t fn => t.raiseFn_link fn page bit)

@[simp] theorem State.raiseFn_tenants (s : State) (fn page bit : Nat) : (s.raiseFn fn page bit).tenants = s.tenants := by
  obtain ⟨o, w, v, h⟩ := s.raiseFn_eq fn page bit
  rw [h]
  rfl

@[simp] theorem State.raise_tenants (s : State) (page bit : Nat) : (s.raise page bit).tenants = s.tenants := s.raiseFn_tenants 0 page bit

@[simp] theorem State.raiseAll_tenants (s : State) (page bit : Nat) : (s.raiseAll page bit).tenants = s.tenants :=
  s.raiseAll_of page bit (·.tenants) (fun t fn => t.raiseFn_tenants fn page bit)

@[simp] theorem State.raiseFn_rngCtr (s : State) (fn page bit : Nat) : (s.raiseFn fn page bit).rngCtr = s.rngCtr := by
  obtain ⟨o, w, v, h⟩ := s.raiseFn_eq fn page bit
  rw [h]
  rfl

@[simp] theorem State.raise_rngCtr (s : State) (page bit : Nat) : (s.raise page bit).rngCtr = s.rngCtr := s.raiseFn_rngCtr 0 page bit

@[simp] theorem State.raiseAll_rngCtr (s : State) (page bit : Nat) : (s.raiseAll page bit).rngCtr = s.rngCtr :=
  s.raiseAll_of page bit (·.rngCtr) (fun t fn => t.raiseFn_rngCtr fn page bit)

@[simp] theorem State.raiseFn_freeCtr (s : State) (fn page bit : Nat) : (s.raiseFn fn page bit).freeCtr = s.freeCtr := by
  obtain ⟨o, w, v, h⟩ := s.raiseFn_eq fn page bit
  rw [h]
  rfl

@[simp] theorem State.raise_freeCtr (s : State) (page bit : Nat) : (s.raise page bit).freeCtr = s.freeCtr := s.raiseFn_freeCtr 0 page bit

@[simp] theorem State.raiseAll_freeCtr (s : State) (page bit : Nat) : (s.raiseAll page bit).freeCtr = s.freeCtr :=
  s.raiseAll_of page bit (·.freeCtr) (fun t fn => t.raiseFn_freeCtr fn page bit)

@[simp] theorem State.raiseFn_held (s : State) (fn page bit : Nat) : (s.raiseFn fn page bit).held = s.held := by
  obtain ⟨o, w, v, h⟩ := s.raiseFn_eq fn page bit
  rw [h]
  rfl

@[simp] theorem State.raise_held (s : State) (page bit : Nat) : (s.raise page bit).held = s.held := s.raiseFn_held 0 page bit

@[simp] theorem State.raiseAll_held (s : State) (page bit : Nat) : (s.raiseAll page bit).held = s.held :=
  s.raiseAll_of page bit (·.held) (fun t fn => t.raiseFn_held fn page bit)

@[simp] theorem State.raiseFn_pending (s : State) (fn page bit : Nat) : (s.raiseFn fn page bit).pending = s.pending := by
  obtain ⟨o, w, v, h⟩ := s.raiseFn_eq fn page bit
  rw [h]
  rfl

@[simp] theorem State.raise_pending (s : State) (page bit : Nat) : (s.raise page bit).pending = s.pending := s.raiseFn_pending 0 page bit

@[simp] theorem State.raiseAll_pending (s : State) (page bit : Nat) : (s.raiseAll page bit).pending = s.pending :=
  s.raiseAll_of page bit (·.pending) (fun t fn => t.raiseFn_pending fn page bit)

@[simp] theorem State.raiseFn_get (s : State) (fn page bit : Nat) (f : Field) : (s.raiseFn fn page bit).get f = s.get f := State.get_of_regs (s.raiseFn_regs fn page bit) f

@[simp] theorem State.raiseFn_on (s : State) (fn page bit : Nat) (f : Field) : (s.raiseFn fn page bit).on f = s.on f := by
  simp only [State.on, State.raiseFn_get]

@[simp] theorem State.raise_get (s : State) (page bit : Nat) (f : Field) : (s.raise page bit).get f = s.get f := State.get_of_regs (s.raise_regs page bit) f

@[simp] theorem State.raise_on (s : State) (page bit : Nat) (f : Field) : (s.raise page bit).on f = s.on f := by
  simp only [State.on, State.raise_get]

@[simp] theorem State.raiseAll_get (s : State) (page bit : Nat) (f : Field) : (s.raiseAll page bit).get f = s.get f := State.get_of_regs (s.raiseAll_regs page bit) f

@[simp] theorem State.raiseAll_on (s : State) (page bit : Nat) (f : Field) : (s.raiseAll page bit).on f = s.on f := by
  simp only [State.on, State.raiseAll_get]

@[simp] theorem State.setPage_get (s : State) (k : Nat) (p : Page) (f : Field) : (s.setPage k p).get f = s.get f := rfl

@[simp] theorem State.captureFn_get (s : State) (fn page : Nat) (st : Status) (i j : Nat) (f : Field) : (s.captureFn fn page st i j).get f = s.get f := rfl

@[simp] theorem State.capture_get (s : State) (page : Nat) (st : Status) (i j : Nat) (f : Field) : (s.capture page st i j).get f = s.get f := rfl

/-- R619, R440. An event changes a page copy and what is sent, nothing else. -/
theorem State.raiseFn_only (s : State) (fn page bit : Nat) : OnlyParts [.pages, .msgs] s (s.raiseFn fn page bit) := by
  obtain ⟨o, w, v, h⟩ := s.raiseFn_eq fn page bit
  rw [h]
  intro p hp
  cases p <;> first | exact Eq.refl _ | exact absurd (by decide) hp

theorem State.raise_only (s : State) (page bit : Nat) : OnlyParts [.pages, .msgs] s (s.raise page bit) := s.raiseFn_only 0 page bit

theorem State.raiseAll_only (s : State) (page bit : Nat) : OnlyParts [.pages, .msgs] s (s.raiseAll page bit) := by
  unfold State.raiseAll
  exact foldl_exists (OnlyParts [.pages, .msgs]) (OnlyParts.refl _) (fun _ _ _ => OnlyParts.trans) _ (fun t fn => t.raiseFn_only fn page bit) _ s

/-- A write of a field changes the registers, nothing else. -/
theorem State.set_only (s : State) (f : Field) (v : Nat) : OnlyParts [.regs] s (s.set f v) := by
  intro p hp
  cases p <;> first | exact Eq.refl _ | exact ⟨rfl, rfl, rfl⟩ | exact absurd (by decide) hp

theorem State.captureFn_only (s : State) (fn page : Nat) (st : Status) (i j : Nat) : OnlyParts [.pages] s (s.captureFn fn page st i j) := by
  intro p hp
  cases p <;> first | exact Eq.refl _ | exact ⟨rfl, rfl, rfl⟩ | exact absurd (by decide) hp

end Sys2Proof.Machine
end

