-- ==== Sys2Proof/Laws/Keep.lean ====
section
/-!
SUPPORT. What every operation keeps: the queue of waiting commands, soundness (the canonical form of the memories, the bounds of the logs), and every part of the
state but those a lemma names.
-/

set_option Elab.async false

namespace Sys2Proof.Laws

open Sys2Proof.Machine

/-- What is to be kept: a queue, and the parts `keep` of a state `base`. -/
structure Kept where
  queue : List Instr
  base : State
  keep : Part → Bool

/-- The queue is that to be kept, the parts to be kept are those of the base state, and the state is sound if that is. -/
structure Good (q : Kept) (s : State) : Prop where
  queue : s.pending = q.queue
  sound : q.base.Sound → s.Sound
  same : ∀ x, q.keep x = true → SamePart q.base s x

/-- A command answers a next state, and that state is good. -/
structure GoodO (q : Kept) (o : Outcome) : Prop where
  next : ∃ t, o = .next t ∧ Good q t

theorem goodO_next {q : Kept} {t : State} (h : Good q t) : GoodO q (.next t) := ⟨t, rfl, h⟩

theorem samePart_refl (s : State) (x : Part) : SamePart s s x := by
  cases x <;> simp [SamePart]

theorem samePart_trans {s t u : State} {x : Part} (h : SamePart s t x) (h' : SamePart t u x) : SamePart s u x := by
  cases x <;> first | exact Eq.trans h' h | exact ⟨h'.1.trans h.1, h'.2.1.trans h.2.1, h'.2.2.trans h.2.2⟩

/-- A state keeps its own parts. -/
theorem good_self (s : State) (keep : Part → Bool) : Good ⟨s.pending, s, keep⟩ s := ⟨rfl, id, fun x _ => samePart_refl s x⟩

/-- A good state's successor is good, if the queue stays, soundness is kept and so are the parts. -/
theorem good_step {q : Kept} {t u : State} (h : Good q t) (hp : u.pending = t.pending) (hs : t.Sound → u.Sound)
    (hk : ∀ x, q.keep x = true → SamePart t u x) : Good q u :=
  ⟨hp.trans h.queue, fun b => hs (h.sound b), fun x hx => samePart_trans (h.same x hx) (hk x hx)⟩

theorem same_or {q : Kept} {x : Part} {A B : Prop} (h : A ∨ q.keep x = false) (hx : q.keep x = true) (f : A → B) : B := by
  cases h with
  | inl a => exact f a
  | inr e => rw [hx] at e; cases e

/-- A state that has queue, memories and logs of a good one, and its parts but for those not to be kept, is good. -/
theorem good_mk {q : Kept} {t : State} (h : Good q t) {regs pages captures readData time stall host power fuses faultLog mem sluice sync work link tenants rc
    fc held p} (hp : p = t.pending) (hw : mem.ws = t.mem.ws) (ha : mem.act = t.mem.act) (hh : mem.hbm = t.mem.hbm) (hl : mem.protLog = t.mem.protLog)
    (hb : host.abortLog = t.host.abortLog) (hq : link.leq = t.link.leq) (hf : faultLog = t.faultLog)
    (k_regs : regs = t.regs ∨ q.keep .regs = false := by first | exact .inr (by assumption) | exact .inl rfl)
    (k_pages : pages = t.pages ∨ q.keep .pages = false := by first | exact .inr (by assumption) | exact .inl rfl)
    (k_captures : captures = t.captures ∨ q.keep .captures = false := by first | exact .inr (by assumption) | exact .inl rfl)
    (k_readData : readData = t.readData ∨ q.keep .readData = false := by first | exact .inr (by assumption) | exact .inl rfl)
    (k_time : time = t.time ∨ q.keep .time = false := by first | exact .inr (by assumption) | exact .inl rfl)
    (k_stall : stall = t.stall ∨ q.keep .stall = false := by first | exact .inr (by assumption) | exact .inl rfl)
    (k_power : power = t.power ∨ q.keep .power = false := by first | exact .inr (by assumption) | exact .inl rfl)
    (k_fuses : fuses = t.fuses ∨ q.keep .fuses = false := by first | exact .inr (by assumption) | exact .inl rfl)
    (k_sluice : sluice = t.sluice ∨ q.keep .sluice = false := by first | exact .inr (by assumption) | exact .inl rfl)
    (k_sync : sync = t.sync ∨ q.keep .sync = false := by first | exact .inr (by assumption) | exact .inl rfl)
    (k_work : work = t.work ∨ q.keep .work = false := by first | exact .inr (by assumption) | exact .inl rfl)
    (k_link : link = t.link ∨ q.keep .link = false := by first | exact .inr (by assumption) | exact .inl rfl)
    (k_tenants : tenants = t.tenants ∨ q.keep .tenants = false := by first | exact .inr (by assumption) | exact .inl rfl)
    (k_rc : rc = t.rngCtr ∨ q.keep .rngCtr = false := by first | exact .inr (by assumption) | exact .inl rfl)
    (k_fc : fc = t.freeCtr ∨ q.keep .freeCtr = false := by first | exact .inr (by assumption) | exact .inl rfl)
    (k_held : held = t.held ∨ q.keep .held = false := by first | exact .inr (by assumption) | exact .inl rfl)
    (k_msgs : (host.out = t.host.out ∧ host.owed = t.host.owed ∧ host.vecPending = t.host.vecPending) ∨ q.keep .msgs = false := by first | exact .inr (by assumption) | exact .inl ⟨rfl, rfl, rfl⟩)
    (k_host : host.rest = t.host.rest ∨ q.keep .host = false := by first | exact .inr (by assumption) | exact .inl rfl)
    (k_caches : mem.caches = t.mem.caches ∨ q.keep .caches = false := by first | exact .inr (by assumption) | exact .inl rfl) (k_mem : mem.rest = t.mem.rest ∨ q.keep .mem = false := by first | exact .inr (by assumption) | exact .inl rfl) :
    Good q (State.mk regs pages captures readData time stall host power fuses faultLog mem sluice sync work link tenants rc fc held p) := by
  refine ⟨hp.trans h.queue, fun b => ?_, ?_⟩
  · have s := h.sound b
    exact ⟨by simp only [Memory.wf, hw, ha, hh]; exact s.memory, by simp only [hl]; exact s.protLog, by simp only [hb]; exact s.abortLog,
      by simp only [hq]; exact s.lateErrors, by simp only [hf]; exact s.faultLog⟩
  intro x hx
  cases x with
  | regs => exact same_or k_regs hx (fun e => e.trans (h.same .regs hx))
  | pages => exact same_or k_pages hx (fun e => e.trans (h.same .pages hx))
  | captures => exact same_or k_captures hx (fun e => e.trans (h.same .captures hx))
  | readData => exact same_or k_readData hx (fun e => e.trans (h.same .readData hx))
  | time => exact same_or k_time hx (fun e => e.trans (h.same .time hx))
  | stall => exact same_or k_stall hx (fun e => e.trans (h.same .stall hx))
  | power => exact same_or k_power hx (fun e => e.trans (h.same .power hx))
  | fuses => exact same_or k_fuses hx (fun e => e.trans (h.same .fuses hx))
  | sluice => exact same_or k_sluice hx (fun e => e.trans (h.same .sluice hx))
  | sync => exact same_or k_sync hx (fun e => e.trans (h.same .sync hx))
  | work => exact same_or k_work hx (fun e => e.trans (h.same .work hx))
  | link => exact same_or k_link hx (fun e => e.trans (h.same .link hx))
  | tenants => exact same_or k_tenants hx (fun e => e.trans (h.same .tenants hx))
  | rngCtr => exact same_or k_rc hx (fun e => e.trans (h.same .rngCtr hx))
  | freeCtr => exact same_or k_fc hx (fun e => e.trans (h.same .freeCtr hx))
  | held => exact same_or k_held hx (fun e => e.trans (h.same .held hx))
  | msgs =>
    have hm := h.same .msgs hx
    exact same_or k_msgs hx (fun e => ⟨e.1.trans hm.1, e.2.1.trans hm.2.1, e.2.2.trans hm.2.2⟩)
  | host => exact same_or k_host hx (fun e => e.trans (h.same .host hx))
  | caches => exact same_or k_caches hx (fun e => e.trans (h.same .caches hx))
  | mem => exact same_or k_mem hx (fun e => e.trans (h.same .mem hx))
  | ws => exact hw.trans (h.same .ws hx)
  | act => exact ha.trans (h.same .act hx)
  | hbm => exact hh.trans (h.same .hbm hx)
  | pending => exact hp.trans (h.same .pending hx)
  | faultLog => exact hf.trans (h.same .faultLog hx)

/-- A state that has queue and memories of a good one, logs no longer than its logs, and its parts but for those not to be kept, is good. -/
theorem good_le {q : Kept} {t : State} (h : Good q t) {regs pages captures readData time stall host power fuses faultLog mem sluice sync work link tenants rc
    fc held p} (hp : p = t.pending) (hw : mem.ws = t.mem.ws) (ha : mem.act = t.mem.act) (hh : mem.hbm = t.mem.hbm)
    (hl : mem.protLog.length ≤ t.mem.protLog.length) (hb : host.abortLog.length ≤ t.host.abortLog.length)
    (hq : link.leq.length ≤ t.link.leq.length) (hf : faultLog.length ≤ t.faultLog.length)
    (k_regs : regs = t.regs ∨ q.keep .regs = false := by first | exact .inr (by assumption) | exact .inl rfl)
    (k_pages : pages = t.pages ∨ q.keep .pages = false := by first | exact .inr (by assumption) | exact .inl rfl)
    (k_captures : captures = t.captures ∨ q.keep .captures = false := by first | exact .inr (by assumption) | exact .inl rfl)
    (k_readData : readData = t.readData ∨ q.keep .readData = false := by first | exact .inr (by assumption) | exact .inl rfl)
    (k_time : time = t.time ∨ q.keep .time = false := by first | exact .inr (by assumption) | exact .inl rfl)
    (k_stall : stall = t.stall ∨ q.keep .stall = false := by first | exact .inr (by assumption) | exact .inl rfl)
    (k_power : power = t.power ∨ q.keep .power = false := by first | exact .inr (by assumption) | exact .inl rfl)
    (k_fuses : fuses = t.fuses ∨ q.keep .fuses = false := by first | exact .inr (by assumption) | exact .inl rfl)
    (k_sluice : sluice = t.sluice ∨ q.keep .sluice = false := by first | exact .inr (by assumption) | exact .inl rfl)
    (k_sync : sync = t.sync ∨ q.keep .sync = false := by first | exact .inr (by assumption) | exact .inl rfl)
    (k_work : work = t.work ∨ q.keep .work = false := by first | exact .inr (by assumption) | exact .inl rfl)
    (k_link : link = t.link ∨ q.keep .link = false := by first | exact .inr (by assumption) | exact .inl rfl)
    (k_tenants : tenants = t.tenants ∨ q.keep .tenants = false := by first | exact .inr (by assumption) | exact .inl rfl)
    (k_rc : rc = t.rngCtr ∨ q.keep .rngCtr = false := by first | exact .inr (by assumption) | exact .inl rfl)
    (k_fc : fc = t.freeCtr ∨ q.keep .freeCtr = false := by first | exact .inr (by assumption) | exact .inl rfl)
    (k_held : held = t.held ∨ q.keep .held = false := by first | exact .inr (by assumption) | exact .inl rfl)
    (k_msgs : (host.out = t.host.out ∧ host.owed = t.host.owed ∧ host.vecPending = t.host.vecPending) ∨ q.keep .msgs = false := by first | exact .inr (by assumption) | exact .inl ⟨rfl, rfl, rfl⟩)
    (k_host : host.rest = t.host.rest ∨ q.keep .host = false := by first | exact .inr (by assumption) | exact .inl rfl)
    (k_caches : mem.caches = t.mem.caches ∨ q.keep .caches = false := by first | exact .inr (by assumption) | exact .inl rfl) (k_mem : mem.rest = t.mem.rest ∨ q.keep .mem = false := by first | exact .inr (by assumption) | exact .inl rfl)
    (k_log : faultLog = t.faultLog ∨ q.keep .faultLog = false := by first | exact .inr (by assumption) | exact .inl rfl) :
    Good q (State.mk regs pages captures readData time stall host power fuses faultLog mem sluice sync work link tenants rc fc held p) := by
  refine ⟨hp.trans h.queue, fun b => ?_, ?_⟩
  · have s := h.sound b
    exact ⟨by simp only [Memory.wf, hw, ha, hh]; exact s.memory, Nat.le_trans hl s.protLog, Nat.le_trans hb s.abortLog, Nat.le_trans hq s.lateErrors,
      Nat.le_trans hf s.faultLog⟩
  intro x hx
  cases x with
  | regs => exact same_or k_regs hx (fun e => e.trans (h.same .regs hx))
  | pages => exact same_or k_pages hx (fun e => e.trans (h.same .pages hx))
  | captures => exact same_or k_captures hx (fun e => e.trans (h.same .captures hx))
  | readData => exact same_or k_readData hx (fun e => e.trans (h.same .readData hx))
  | time => exact same_or k_time hx (fun e => e.trans (h.same .time hx))
  | stall => exact same_or k_stall hx (fun e => e.trans (h.same .stall hx))
  | power => exact same_or k_power hx (fun e => e.trans (h.same .power hx))
  | fuses => exact same_or k_fuses hx (fun e => e.trans (h.same .fuses hx))
  | sluice => exact same_or k_sluice hx (fun e => e.trans (h.same .sluice hx))
  | sync => exact same_or k_sync hx (fun e => e.trans (h.same .sync hx))
  | work => exact same_or k_work hx (fun e => e.trans (h.same .work hx))
  | link => exact same_or k_link hx (fun e => e.trans (h.same .link hx))
  | tenants => exact same_or k_tenants hx (fun e => e.trans (h.same .tenants hx))
  | rngCtr => exact same_or k_rc hx (fun e => e.trans (h.same .rngCtr hx))
  | freeCtr => exact same_or k_fc hx (fun e => e.trans (h.same .freeCtr hx))
  | held => exact same_or k_held hx (fun e => e.trans (h.same .held hx))
  | msgs =>
    have hm := h.same .msgs hx
    exact same_or k_msgs hx (fun e => ⟨e.1.trans hm.1, e.2.1.trans hm.2.1, e.2.2.trans hm.2.2⟩)
  | host => exact same_or k_host hx (fun e => e.trans (h.same .host hx))
  | caches => exact same_or k_caches hx (fun e => e.trans (h.same .caches hx))
  | mem => exact same_or k_mem hx (fun e => e.trans (h.same .mem hx))
  | ws => exact hw.trans (h.same .ws hx)
  | act => exact ha.trans (h.same .act hx)
  | hbm => exact hh.trans (h.same .hbm hx)
  | pending => exact hp.trans (h.same .pending hx)
  | faultLog => exact same_or k_log hx (fun e => e.trans (h.same .faultLog hx))

theorem good_faultLog {q : Kept} {t : State} (h : Good q t) (l : List FaultEntry) (hl : t.faultLog.length ≤ 64 → l.length ≤ 64) (w : q.keep .faultLog = false) : Good q { t with faultLog := l } := by
  refine good_step h rfl (fun b => ⟨b.memory, b.protLog, b.abortLog, b.lateErrors, hl b.faultLog⟩) ?_
  intro x hx
  cases x <;> first | exact Eq.refl _ | exact ⟨rfl, rfl, rfl⟩ | (rw [w] at hx; cases hx)

theorem good_protLog {q : Kept} {t : State} (h : Good q t) (l : List ProtEntry) (hl : t.mem.protLog.length ≤ 64 → l.length ≤ 64) (w : q.keep .mem = false) : Good q { t with mem := { t.mem with protLog := l } } := by
  refine good_step h rfl (fun b => ⟨b.memory, hl b.protLog, b.abortLog, b.lateErrors, b.faultLog⟩) ?_
  intro x hx
  cases x <;> first | exact Eq.refl _ | exact ⟨rfl, rfl, rfl⟩ | (rw [w] at hx; cases hx)

theorem good_abortLog {q : Kept} {t : State} (h : Good q t) (l : List AbortEntry) (hl : t.host.abortLog.length ≤ 64 → l.length ≤ 64) (w : q.keep .host = false) : Good q { t with host := { t.host with abortLog := l } } := by
  refine good_step h rfl (fun b => ⟨b.memory, b.protLog, hl b.abortLog, b.lateErrors, b.faultLog⟩) ?_
  intro x hx
  cases x <;> first | exact Eq.refl _ | exact ⟨rfl, rfl, rfl⟩ | (rw [w] at hx; cases hx)

theorem good_leq {q : Kept} {t : State} (h : Good q t) (l : List LateErr) (hl : t.link.leq.length ≤ 64 → l.length ≤ 64) (w : q.keep .link = false) : Good q { t with link := { t.link with leq := l } } := by
  refine good_step h rfl (fun b => ⟨b.memory, b.protLog, b.abortLog, hl b.lateErrors, b.faultLog⟩) ?_
  intro x hx
  cases x <;> first | exact Eq.refl _ | exact ⟨rfl, rfl, rfl⟩ | (rw [w] at hx; cases hx)

theorem len_tail {β : Type} {l l' : List β} {a : β} (h : l' = a :: l) : l.length ≤ l'.length := by
  rw [h]; exact Nat.le_succ _

theorem good_fst {q : Kept} {β : Type} {p : State × β} {t : State} {b : β} (e : p = (t, b)) (h : Good q p.1) : Good q t := by
  rw [e] at h; exact h

theorem good_snd {q : Kept} {β : Type} {p : β × State} {t : State} {b : β} (e : p = (b, t)) (h : Good q p.2) : Good q t := by
  rw [e] at h; exact h

theorem good_snd2 {q : Kept} {β γ : Type} {p : β × γ × State} {t : State} {b : β} {c : γ} (e : p = (b, c, t)) (h : Good q p.2.2) : Good q t := by
  rw [e] at h; exact h

/-- The state of an option, if there is one, is good. -/
abbrev GoodIf (q : Kept) (o : Option State) : Prop := ∀ z, o = some z → Good q z

theorem goodIf_none {q : Kept} : GoodIf q none := fun _ e => nomatch e

theorem goodIf_ite {q : Kept} {c : Prop} [Decidable c] {a b : Option State} (ha : GoodIf q a) (hb : GoodIf q b) : GoodIf q (if c then a else b) := by
  split
  · exact ha
  · exact hb

theorem good_ite {q : Kept} {c : Prop} [Decidable c] {a b : State} (ha : Good q a) (hb : Good q b) : Good q (if c then a else b) := by
  split
  · exact ha
  · exact hb

theorem good_findSome {q : Kept} {β : Type} {f : β → Option State} {l : List β} (hf : ∀ a z, f a = some z → Good q z) :
    ∀ z, l.findSome? f = some z → Good q z := by
  intro z hz
  obtain ⟨a, -, ha⟩ := List.exists_of_findSome?_eq_some hz
  exact hf a z ha

theorem good_foldl {q : Kept} {β : Type} {g : State → β → State} {s : State} {l : List β} (h : Good q s)
    (hg : ∀ t a, Good q t → Good q (g t a)) : Good q (l.foldl g s) := by
  induction l generalizing s with
  | nil => exact h
  | cons a l ih => exact ih (hg _ _ h)

theorem good_foldl_snd {q : Kept} {β γ : Type} {g : γ × State → β → γ × State} {p : γ × State} {l : List β} (h : Good q p.2)
    (hg : ∀ t a, Good q t.2 → Good q (g t a).2) : Good q (l.foldl g p).2 := by
  induction l generalizing p with
  | nil => exact h
  | cons a l ih => exact ih (hg _ _ h)

theorem good_foldl_fst {q : Kept} {β γ : Type} {g : State × γ → β → State × γ} {p : State × γ} {l : List β} (h : Good q p.1)
    (hg : ∀ t a, Good q t.1 → Good q (g t a).1) : Good q (l.foldl g p).1 := by
  induction l generalizing p with
  | nil => exact h
  | cons a l ih => exact ih (hg _ _ h)

end Sys2Proof.Laws
end

