-- ==== Sys2Proof/Laws/Frames.lean ====
section
/-!
SUPPORT. From what the operations keep (Keep*.lean) to the frames that statements name.
-/

set_option Elab.async false

namespace Sys2Proof.Laws

open Sys2Proof.Machine

/-- A state reached by operations that keep every part but the named ones differs in those alone. -/
theorem onlyParts_of_good {ps : List Part} {s t : State} (h : Good ⟨s.pending, s, fun p => !ps.contains p⟩ t) : OnlyParts ps s t :=
  fun p hp => h.same p (by simp [hp])

/-- A command that keeps every part but the named ones changes those alone. -/
theorem onlyParts_of_goodO {ps : List Part} {s t : State} {o : Outcome} (h : GoodO ⟨s.pending, s, fun p => !ps.contains p⟩ o) (e : o = .next t) :
    OnlyParts ps s t := by
  obtain ⟨u, hu, hg⟩ := h.next
  rw [e] at hu
  cases hu
  exact onlyParts_of_good hg

end Sys2Proof.Laws
end

