-- ==== Sys2Proof/Laws/KeepOps.lean ====
section
/-!
SUPPORT. What the operations of Machine/Ops.lean keep.
-/

set_option Elab.async false

namespace Sys2Proof.Laws

open Sys2Proof.Machine

theorem State_set_good {q : Kept} {s : State} (f : Field) (v : Nat) (h : Good q s) (w_regs : q.keep .regs = false := by assumption) : Good q (Sys2Proof.Machine.State.set s f v) := by
  unfold Sys2Proof.Machine.State.set
  repeat' first
    | with_reducible assumption
    | with_reducible apply goodO_next
    | intro _
    | with_reducible apply good_foldl
    | with_reducible apply good_foldl_fst
    | split
    | with_reducible refine good_fst (by assumption) ?_
    | with_reducible refine good_snd (by assumption) ?_
    | with_reducible refine good_snd2 (by assumption) ?_
    | dsimp only
    | with_reducible refine good_mk (t := _) ?_ rfl rfl rfl rfl rfl rfl rfl rfl

theorem State_add_good {q : Kept} {s : State} (f : Field) (n : Nat) (h : Good q s) (w_regs : q.keep .regs = false := by assumption) : Good q (Sys2Proof.Machine.State.add s f n) := by
  unfold Sys2Proof.Machine.State.add
  repeat' first
    | with_reducible assumption
    | with_reducible apply goodO_next
    | intro _
    | with_reducible apply State_set_good

theorem State_flag_good {q : Kept} {s : State} (f : Field) (b : Bool) (h : Good q s) (w_regs : q.keep .regs = false := by assumption) : Good q (Sys2Proof.Machine.State.flag s f b) := by
  unfold Sys2Proof.Machine.State.flag
  repeat' first
    | with_reducible assumption
    | with_reducible apply goodO_next
    | intro _
    | with_reducible apply State_set_good

theorem State_setPair_good {q : Kept} {s : State} (lo : Field) (hi : Field) (v : Nat) (h : Good q s) (w_regs : q.keep .regs = false := by assumption) : Good q (Sys2Proof.Machine.State.setPair s lo hi v) := by
  unfold Sys2Proof.Machine.State.setPair
  repeat' first
    | with_reducible assumption
    | with_reducible apply goodO_next
    | intro _
    | with_reducible apply State_set_good

theorem State_clearRegs_good {q : Kept} {s : State} (p : Nat → Bool) (h : Good q s) (w_regs : q.keep .regs = false := by assumption) : Good q (Sys2Proof.Machine.State.clearRegs s p) := by
  unfold Sys2Proof.Machine.State.clearRegs
  repeat' first
    | with_reducible assumption
    | with_reducible apply goodO_next
    | intro _
    | with_reducible apply good_foldl
    | with_reducible apply good_foldl_fst
    | split
    | with_reducible refine good_fst (by assumption) ?_
    | with_reducible refine good_snd (by assumption) ?_
    | with_reducible refine good_snd2 (by assumption) ?_
    | dsimp only
    | with_reducible refine good_mk (t := _) ?_ rfl rfl rfl rfl rfl rfl rfl rfl

theorem State_hold_good {q : Kept} {s : State} (block : Nat) (c : Instr) (h : Good q s) (w_held : q.keep .held = false := by assumption) : GoodO q (Sys2Proof.Machine.State.hold s block c) := by
  unfold Sys2Proof.Machine.State.hold
  repeat' first
    | with_reducible assumption
    | with_reducible apply goodO_next
    | intro _
    | with_reducible apply good_foldl
    | with_reducible apply good_foldl_fst
    | split
    | with_reducible refine good_fst (by assumption) ?_
    | with_reducible refine good_snd (by assumption) ?_
    | with_reducible refine good_snd2 (by assumption) ?_
    | dsimp only
    | with_reducible refine good_mk (t := _) ?_ rfl rfl rfl rfl rfl rfl rfl rfl

theorem State_setDom_good {q : Kept} {s : State} (d : Nat) (v : Dom) (h : Good q s) (w_power : q.keep .power = false := by assumption) : Good q (Sys2Proof.Machine.State.setDom s d v) := by
  unfold Sys2Proof.Machine.State.setDom
  repeat' first
    | with_reducible assumption
    | with_reducible apply goodO_next
    | intro _
    | with_reducible apply good_foldl
    | with_reducible apply good_foldl_fst
    | split
    | with_reducible refine good_fst (by assumption) ?_
    | with_reducible refine good_snd (by assumption) ?_
    | with_reducible refine good_snd2 (by assumption) ?_
    | dsimp only
    | with_reducible refine good_mk (t := _) ?_ rfl rfl rfl rfl rfl rfl rfl rfl

theorem State_setPage_good {q : Kept} {s : State} (key : Nat) (p : Page) (h : Good q s) (w_pages : q.keep .pages = false := by assumption) : Good q (Sys2Proof.Machine.State.setPage s key p) := by
  unfold Sys2Proof.Machine.State.setPage
  repeat' first
    | with_reducible assumption
    | with_reducible apply goodO_next
    | intro _
    | with_reducible apply good_foldl
    | with_reducible apply good_foldl_fst
    | split
    | with_reducible refine good_fst (by assumption) ?_
    | with_reducible refine good_snd (by assumption) ?_
    | with_reducible refine good_snd2 (by assumption) ?_
    | dsimp only
    | with_reducible refine good_mk (t := _) ?_ rfl rfl rfl rfl rfl rfl rfl rfl

theorem State_sendMsg_good {q : Kept} {s : State} (fn : Nat) (page : Nat) (h : Good q s) (w_msgs : q.keep .msgs = false := by assumption) : Good q (Sys2Proof.Machine.State.sendMsg s fn page) := by
  unfold Sys2Proof.Machine.State.sendMsg
  repeat' first
    | with_reducible assumption
    | with_reducible apply goodO_next
    | intro _
    | with_reducible apply good_foldl
    | with_reducible apply good_foldl_fst
    | split
    | with_reducible refine good_fst (by assumption) ?_
    | with_reducible refine good_snd (by assumption) ?_
    | with_reducible refine good_snd2 (by assumption) ?_
    | dsimp only
    | with_reducible refine good_mk (t := _) ?_ rfl rfl rfl rfl rfl rfl rfl rfl

theorem State_raiseFn_good {q : Kept} {s : State} (fn : Nat) (page : Nat) (bit : Nat) (h : Good q s) (w_pages : q.keep .pages = false := by assumption) (w_msgs : q.keep .msgs = false := by assumption) : Good q (Sys2Proof.Machine.State.raiseFn s fn page bit) := by
  unfold Sys2Proof.Machine.State.raiseFn
  repeat' first
    | with_reducible assumption
    | with_reducible apply goodO_next
    | intro _
    | with_reducible apply State_setPage_good
    | with_reducible apply State_sendMsg_good
    | with_reducible apply good_foldl
    | with_reducible apply good_foldl_fst
    | split
    | with_reducible refine good_fst (by assumption) ?_
    | with_reducible refine good_snd (by assumption) ?_
    | with_reducible refine good_snd2 (by assumption) ?_
    | dsimp only

theorem State_raise_good {q : Kept} {s : State} (page : Nat) (bit : Nat) (h : Good q s) (w_pages : q.keep .pages = false := by assumption) (w_msgs : q.keep .msgs = false := by assumption) : Good q (Sys2Proof.Machine.State.raise s page bit) := by
  unfold Sys2Proof.Machine.State.raise
  repeat' first
    | with_reducible assumption
    | with_reducible apply goodO_next
    | intro _
    | with_reducible apply State_raiseFn_good

theorem State_raiseAll_good {q : Kept} {s : State} (page : Nat) (bit : Nat) (h : Good q s) (w_pages : q.keep .pages = false := by assumption) (w_msgs : q.keep .msgs = false := by assumption) : Good q (Sys2Proof.Machine.State.raiseAll s page bit) := by
  unfold Sys2Proof.Machine.State.raiseAll
  repeat' first
    | with_reducible assumption
    | with_reducible apply goodO_next
    | intro _
    | with_reducible apply State_raiseFn_good
    | with_reducible apply good_foldl

theorem State_raiseEdge_good {q : Kept} {s : State} (page : Nat) (bit : Nat) (was : Bool) (now : Bool) (h : Good q s) (w_pages : q.keep .pages = false := by assumption) (w_msgs : q.keep .msgs = false := by assumption) : Good q (Sys2Proof.Machine.State.raiseEdge s page bit was now) := by
  unfold Sys2Proof.Machine.State.raiseEdge
  repeat' first
    | with_reducible assumption
    | with_reducible apply goodO_next
    | intro _
    | with_reducible apply State_raise_good
    | with_reducible apply good_foldl
    | with_reducible apply good_foldl_fst
    | split

theorem State_captureFn_good {q : Kept} {s : State} (fn : Nat) (page : Nat) (st : Status) (info0 : Nat) (info1 : Nat) (h : Good q s) (w_pages : q.keep .pages = false := by assumption) : Good q (Sys2Proof.Machine.State.captureFn s fn page st info0 info1) := by
  unfold Sys2Proof.Machine.State.captureFn
  repeat' first
    | with_reducible assumption
    | with_reducible apply goodO_next
    | intro _
    | with_reducible apply State_setPage_good

theorem State_capture_good {q : Kept} {s : State} (page : Nat) (st : Status) (info0 : Nat) (info1 : Nat) (h : Good q s) (w_pages : q.keep .pages = false := by assumption) : Good q (Sys2Proof.Machine.State.capture s page st info0 info1) := by
  unfold Sys2Proof.Machine.State.capture
  repeat' first
    | with_reducible assumption
    | with_reducible apply goodO_next
    | intro _
    | with_reducible apply State_captureFn_good

theorem State_refuseWrite_good {q : Kept} {s : State} (fn : Nat) (addr : Nat) (v : Nat) (h : Good q s) (w_pages : q.keep .pages = false := by assumption) : Good q (Sys2Proof.Machine.State.refuseWrite s fn addr v) := by
  unfold Sys2Proof.Machine.State.refuseWrite
  repeat' first
    | with_reducible assumption
    | with_reducible apply goodO_next
    | intro _
    | with_reducible apply State_captureFn_good

theorem State_pdoffAccess_good {q : Kept} {s : State} (fn : Nat) (h : Good q s) (w_regs : q.keep .regs = false := by assumption) (w_pages : q.keep .pages = false := by assumption) (w_msgs : q.keep .msgs = false := by assumption) : Good q (Sys2Proof.Machine.State.pdoffAccess s fn) := by
  unfold Sys2Proof.Machine.State.pdoffAccess
  repeat' first
    | with_reducible assumption
    | with_reducible apply goodO_next
    | intro _
    | with_reducible apply State_add_good
    | with_reducible apply State_raiseFn_good

theorem mmio_good {q : Kept} (fn : Nat) (page : Nat) {s : State} (body : State → Outcome) (h : Good q s) (hbody : ∀ x0, Good q x0 → GoodO q (body x0)) (w_regs : q.keep .regs = false := by assumption) (w_pages : q.keep .pages = false := by assumption) (w_msgs : q.keep .msgs = false := by assumption) : GoodO q (Sys2Proof.Machine.mmio fn page s body) := by
  unfold Sys2Proof.Machine.mmio
  repeat' first
    | with_reducible assumption
    | with_reducible apply goodO_next
    | intro _
    | with_reducible apply hbody
    | with_reducible apply State_pdoffAccess_good
    | with_reducible apply good_foldl
    | with_reducible apply good_foldl_fst
    | split

theorem State_answer_good {q : Kept} {s : State} (v : Nat) (h : Good q s) (w_readData : q.keep .readData = false := by assumption) : Good q (Sys2Proof.Machine.State.answer s v) := by
  unfold Sys2Proof.Machine.State.answer
  repeat' first
    | with_reducible assumption
    | with_reducible apply goodO_next
    | intro _
    | with_reducible apply good_foldl
    | with_reducible apply good_foldl_fst
    | split
    | with_reducible refine good_fst (by assumption) ?_
    | with_reducible refine good_snd (by assumption) ?_
    | with_reducible refine good_snd2 (by assumption) ?_
    | dsimp only
    | with_reducible refine good_mk (t := _) ?_ rfl rfl rfl rfl rfl rfl rfl rfl

theorem mmioRead_good {q : Kept} (fn : Nat) (page : Nat) {s : State} (body : State → Outcome) (h : Good q s) (hbody : ∀ x0, Good q x0 → GoodO q (body x0)) (w_regs : q.keep .regs = false := by assumption) (w_pages : q.keep .pages = false := by assumption) (w_readData : q.keep .readData = false := by assumption) (w_msgs : q.keep .msgs = false := by assumption) : GoodO q (Sys2Proof.Machine.mmioRead fn page s body) := by
  unfold Sys2Proof.Machine.mmioRead
  repeat' first
    | with_reducible assumption
    | with_reducible apply goodO_next
    | intro _
    | with_reducible apply hbody
    | with_reducible apply State_pdoffAccess_good
    | with_reducible apply State_answer_good
    | with_reducible apply good_foldl
    | with_reducible apply good_foldl_fst
    | split

theorem fabric_good {q : Kept} (page : Nat) (block : Nat) (c : Instr) {s : State} (body : State → Outcome) (h : Good q s) (hbody : ∀ x0, Good q x0 → GoodO q (body x0)) (w_held : q.keep .held = false := by assumption) : GoodO q (Sys2Proof.Machine.fabric page block c s body) := by
  unfold Sys2Proof.Machine.fabric
  repeat' first
    | with_reducible assumption
    | with_reducible apply goodO_next
    | intro _
    | with_reducible apply hbody
    | with_reducible apply State_hold_good
    | with_reducible apply good_foldl
    | with_reducible apply good_foldl_fst
    | split

theorem command_good {q : Kept} (fn : Nat) (page : Nat) (c : Instr) {s : State} (body : State → Outcome) (h : Good q s) (hbody : ∀ x0, Good q x0 → GoodO q (body x0)) (w_regs : q.keep .regs = false := by assumption) (w_pages : q.keep .pages = false := by assumption) (w_msgs : q.keep .msgs = false := by assumption) (w_held : q.keep .held = false := by assumption) : GoodO q (Sys2Proof.Machine.command fn page c s body) := by
  unfold Sys2Proof.Machine.command
  repeat' first
    | with_reducible assumption
    | with_reducible apply goodO_next
    | intro _
    | with_reducible apply hbody
    | with_reducible apply mmio_good
    | with_reducible apply fabric_good

theorem event_good {q : Kept} (page : Nat) {s : State} (body : State → Outcome) (h : Good q s) (hbody : ∀ x0, Good q x0 → GoodO q (body x0)) : GoodO q (Sys2Proof.Machine.event page s body) := by
  unfold Sys2Proof.Machine.event
  repeat' first
    | with_reducible assumption
    | with_reducible apply goodO_next
    | intro _
    | with_reducible apply hbody
    | with_reducible apply good_foldl
    | with_reducible apply good_foldl_fst
    | split

theorem State_logFault_good {q : Kept} {s : State} (e : FaultEntry) (h : Good q s) (w_regs : q.keep .regs = false := by assumption) (w_pages : q.keep .pages = false := by assumption) (w_msgs : q.keep .msgs = false := by assumption) (w_faultLog : q.keep .faultLog = false := by assumption) : Good q (Sys2Proof.Machine.State.logFault s e) := by
  unfold Sys2Proof.Machine.State.logFault
  split
  · refine State_raise_good _ _ (good_faultLog h _ (fun _ => ?_) w_faultLog)
    simp only [List.length_append, List.length_singleton]
    omega
  · exact State_raise_good _ _ (State_add_good _ _ h)

theorem State_fault_good {q : Kept} {s : State} (cls : Nat) (st : Status) (fn : Nat) (lcore : Nat) (array : Nat) (port : Nat) (index : Nat) (h : Good q s) (w_regs : q.keep .regs = false := by assumption) (w_pages : q.keep .pages = false := by assumption) (w_msgs : q.keep .msgs = false := by assumption) (w_faultLog : q.keep .faultLog = false := by assumption) : Good q (Sys2Proof.Machine.State.fault s cls st fn lcore array port index) := by
  unfold Sys2Proof.Machine.State.fault
  repeat' first
    | with_reducible assumption
    | with_reducible apply goodO_next
    | intro _
    | with_reducible apply State_logFault_good

theorem State_drawFree_good {q : Kept} {s : State} (h : Good q s) (w_freeCtr : q.keep .freeCtr = false := by assumption) : Good q (Sys2Proof.Machine.State.drawFree s).2 := by
  unfold Sys2Proof.Machine.State.drawFree
  repeat' first
    | with_reducible assumption
    | with_reducible apply goodO_next
    | intro _
    | with_reducible apply good_foldl
    | with_reducible apply good_foldl_fst
    | split
    | with_reducible refine good_fst (by assumption) ?_
    | with_reducible refine good_snd (by assumption) ?_
    | with_reducible refine good_snd2 (by assumption) ?_
    | dsimp only
    | with_reducible refine good_mk (t := _) ?_ rfl rfl rfl rfl rfl rfl rfl rfl

theorem State_drawRandom_good {q : Kept} {s : State} (n : Nat) (h : Good q s) (w_rngCtr : q.keep .rngCtr = false := by assumption) : Good q (Sys2Proof.Machine.State.drawRandom s n).2 := by
  unfold Sys2Proof.Machine.State.drawRandom
  repeat' first
    | with_reducible assumption
    | with_reducible apply goodO_next
    | intro _
    | with_reducible apply good_foldl
    | with_reducible apply good_foldl_fst
    | split
    | with_reducible refine good_fst (by assumption) ?_
    | with_reducible refine good_snd (by assumption) ?_
    | with_reducible refine good_snd2 (by assumption) ?_
    | dsimp only
    | with_reducible refine good_mk (t := _) ?_ rfl rfl rfl rfl rfl rfl rfl rfl

end Sys2Proof.Laws
end

