-- ==== Sys2Proof/Laws/KeepTimebase.lean ====
section
/-!
SUPPORT. What the operations of Machine/Timebase.lean keep.
-/

set_option Elab.async false

namespace Sys2Proof.Laws

open Sys2Proof.Machine

theorem State_pass_good {q : Kept} {s : State} (clocks : Nat) (h : Good q s) (w_regs : q.keep .regs = false := by assumption) (w_time : q.keep .time = false := by assumption) : Good q (Sys2Proof.Machine.State.pass s clocks) := by
  unfold Sys2Proof.Machine.State.pass
  repeat' first
    | with_reducible assumption
    | with_reducible apply goodO_next
    | intro _
    | with_reducible apply State_flag_good
    | with_reducible apply good_foldl
    | with_reducible apply good_foldl_fst
    | split
    | with_reducible refine good_fst (by assumption) ?_
    | with_reducible refine good_snd (by assumption) ?_
    | with_reducible refine good_snd2 (by assumption) ?_
    | dsimp only
    | with_reducible refine good_mk (t := _) ?_ rfl rfl rfl rfl rfl rfl rfl rfl

theorem State_passTo_good {q : Kept} {s : State} (c : Nat) (h : Good q s) (w_regs : q.keep .regs = false := by assumption) (w_time : q.keep .time = false := by assumption) : Good q (Sys2Proof.Machine.State.passTo s c) := by
  unfold Sys2Proof.Machine.State.passTo
  repeat' first
    | with_reducible assumption
    | with_reducible apply goodO_next
    | intro _
    | with_reducible apply State_pass_good

theorem State_load_good {q : Kept} {s : State} (clocksBack : Nat) (h : Good q s) (w_regs : q.keep .regs = false := by assumption) (w_pages : q.keep .pages = false := by assumption) (w_time : q.keep .time = false := by assumption) (w_msgs : q.keep .msgs = false := by assumption) : Good q (Sys2Proof.Machine.State.load s clocksBack) := by
  unfold Sys2Proof.Machine.State.load
  repeat' first
    | with_reducible assumption
    | with_reducible apply goodO_next
    | intro _
    | with_reducible apply State_flag_good
    | with_reducible apply State_raiseAll_good
    | with_reducible apply good_foldl
    | with_reducible apply good_foldl_fst
    | split
    | with_reducible refine good_fst (by assumption) ?_
    | with_reducible refine good_snd (by assumption) ?_
    | with_reducible refine good_snd2 (by assumption) ?_
    | dsimp only
    | with_reducible refine good_mk (t := _) ?_ rfl rfl rfl rfl rfl rfl rfl rfl

theorem State_arm_good {q : Kept} {s : State} (h : Good q s) (w_regs : q.keep .regs = false := by assumption) (w_pages : q.keep .pages = false := by assumption) (w_time : q.keep .time = false := by assumption) (w_msgs : q.keep .msgs = false := by assumption) : Good q (Sys2Proof.Machine.State.arm s) := by
  unfold Sys2Proof.Machine.State.arm
  repeat' first
    | with_reducible assumption
    | with_reducible apply goodO_next
    | intro _
    | with_reducible apply State_flag_good
    | with_reducible apply State_load_good
    | with_reducible apply good_foldl
    | with_reducible apply good_foldl_fst
    | split

theorem execTbArm_good {q : Kept} {s : State} (h : Good q s) (w_regs : q.keep .regs = false := by assumption) (w_pages : q.keep .pages = false := by assumption) (w_time : q.keep .time = false := by assumption) (w_msgs : q.keep .msgs = false := by assumption) : GoodO q (Sys2Proof.Machine.execTbArm s) := by
  unfold Sys2Proof.Machine.execTbArm
  repeat' first
    | with_reducible assumption
    | with_reducible apply goodO_next
    | intro _
    | with_reducible apply State_arm_good

theorem execTbPpsEnWrite_good {q : Kept} (en : Bool) (arm : Bool) {s : State} (h : Good q s) (w_regs : q.keep .regs = false := by assumption) (w_pages : q.keep .pages = false := by assumption) (w_time : q.keep .time = false := by assumption) (w_msgs : q.keep .msgs = false := by assumption) : GoodO q (Sys2Proof.Machine.execTbPpsEnWrite en arm s) := by
  unfold Sys2Proof.Machine.execTbPpsEnWrite
  repeat' first
    | with_reducible assumption
    | with_reducible apply goodO_next
    | intro _
    | with_reducible apply State_flag_good
    | with_reducible apply State_arm_good
    | with_reducible apply good_foldl
    | with_reducible apply good_foldl_fst
    | split
    | with_reducible refine good_fst (by assumption) ?_
    | with_reducible refine good_snd (by assumption) ?_
    | with_reducible refine good_snd2 (by assumption) ?_
    | dsimp only
    | with_reducible refine good_mk (t := _) ?_ rfl rfl rfl rfl rfl rfl rfl rfl

theorem execPpsRise_good {q : Kept} {s : State} (h : Good q s) (w_time : q.keep .time = false := by assumption) : GoodO q (Sys2Proof.Machine.execPpsRise s) := by
  unfold Sys2Proof.Machine.execPpsRise
  repeat' first
    | with_reducible assumption
    | with_reducible apply goodO_next
    | intro _
    | with_reducible apply good_foldl
    | with_reducible apply good_foldl_fst
    | split
    | with_reducible refine good_fst (by assumption) ?_
    | with_reducible refine good_snd (by assumption) ?_
    | with_reducible refine good_snd2 (by assumption) ?_
    | dsimp only
    | with_reducible refine good_mk (t := _) ?_ rfl rfl rfl rfl rfl rfl rfl rfl

theorem execPpsGlitch_good {q : Kept} {s : State} (h : Good q s) (w_pages : q.keep .pages = false := by assumption) (w_time : q.keep .time = false := by assumption) (w_msgs : q.keep .msgs = false := by assumption) : GoodO q (Sys2Proof.Machine.execPpsGlitch s) := by
  unfold Sys2Proof.Machine.execPpsGlitch
  repeat' first
    | with_reducible assumption
    | with_reducible apply goodO_next
    | intro _
    | with_reducible apply State_raiseAll_good
    | with_reducible apply good_foldl
    | with_reducible apply good_foldl_fst
    | split
    | with_reducible refine good_fst (by assumption) ?_
    | with_reducible refine good_snd (by assumption) ?_
    | with_reducible refine good_snd2 (by assumption) ?_
    | dsimp only
    | with_reducible refine good_mk (t := _) ?_ rfl rfl rfl rfl rfl rfl rfl rfl

theorem State_acceptEdge_good {q : Kept} {s : State} (clock : Nat) (h : Good q s) (w_regs : q.keep .regs = false := by assumption) (w_time : q.keep .time = false := by assumption) : Good q (Sys2Proof.Machine.State.acceptEdge s clock) := by
  unfold Sys2Proof.Machine.State.acceptEdge
  repeat' first
    | with_reducible assumption
    | with_reducible apply goodO_next
    | intro _
    | with_reducible apply State_add_good
    | with_reducible apply State_flag_good
    | with_reducible apply good_foldl
    | with_reducible apply good_foldl_fst
    | split
    | with_reducible refine good_fst (by assumption) ?_
    | with_reducible refine good_snd (by assumption) ?_
    | with_reducible refine good_snd2 (by assumption) ?_
    | dsimp only
    | with_reducible refine good_mk (t := _) ?_ rfl rfl rfl rfl rfl rfl rfl rfl

theorem State_correct_good {q : Kept} {s : State} (err : Int) (h : Good q s) (w_regs : q.keep .regs = false := by assumption) (w_pages : q.keep .pages = false := by assumption) (w_time : q.keep .time = false := by assumption) (w_msgs : q.keep .msgs = false := by assumption) : Good q (Sys2Proof.Machine.State.correct s err) := by
  unfold Sys2Proof.Machine.State.correct
  repeat' first
    | with_reducible assumption
    | with_reducible apply goodO_next
    | intro _
    | with_reducible apply State_flag_good
    | with_reducible apply State_raiseAll_good
    | with_reducible apply good_foldl
    | with_reducible apply good_foldl_fst
    | split
    | with_reducible refine good_fst (by assumption) ?_
    | with_reducible refine good_snd (by assumption) ?_
    | with_reducible refine good_snd2 (by assumption) ?_
    | dsimp only
    | with_reducible refine good_mk (t := _) ?_ rfl rfl rfl rfl rfl rfl rfl rfl

theorem State_actOnEdge_good {q : Kept} {s : State} (captured : Ts) (clock : Nat) (h : Good q s) (w_regs : q.keep .regs = false := by assumption) (w_pages : q.keep .pages = false := by assumption) (w_time : q.keep .time = false := by assumption) (w_msgs : q.keep .msgs = false := by assumption) : Good q (Sys2Proof.Machine.State.actOnEdge s captured clock) := by
  unfold Sys2Proof.Machine.State.actOnEdge
  repeat' first
    | with_reducible assumption
    | with_reducible apply goodO_next
    | intro _
    | with_reducible apply State_set_good
    | with_reducible apply State_flag_good
    | with_reducible apply State_raiseAll_good
    | with_reducible apply State_load_good
    | with_reducible apply State_acceptEdge_good
    | with_reducible apply State_correct_good
    | with_reducible apply good_foldl
    | with_reducible apply good_foldl_fst
    | split
    | with_reducible refine good_fst (by assumption) ?_
    | with_reducible refine good_snd (by assumption) ?_
    | with_reducible refine good_snd2 (by assumption) ?_
    | dsimp only

theorem execPpsEdge_good {q : Kept} {s : State} (h : Good q s) (w_regs : q.keep .regs = false := by assumption) (w_pages : q.keep .pages = false := by assumption) (w_time : q.keep .time = false := by assumption) (w_msgs : q.keep .msgs = false := by assumption) : GoodO q (Sys2Proof.Machine.execPpsEdge s) := by
  unfold Sys2Proof.Machine.execPpsEdge
  repeat' first
    | with_reducible assumption
    | with_reducible apply goodO_next
    | intro _
    | with_reducible apply State_passTo_good
    | with_reducible apply State_actOnEdge_good
    | with_reducible apply good_foldl
    | with_reducible apply good_foldl_fst
    | split
    | with_reducible refine good_fst (by assumption) ?_
    | with_reducible refine good_snd (by assumption) ?_
    | with_reducible refine good_snd2 (by assumption) ?_
    | dsimp only
    | with_reducible refine good_mk (t := _) ?_ rfl rfl rfl rfl rfl rfl rfl rfl

theorem execFreezeEnd_good {q : Kept} {s : State} (h : Good q s) (w_regs : q.keep .regs = false := by assumption) (w_time : q.keep .time = false := by assumption) : GoodO q (Sys2Proof.Machine.execFreezeEnd s) := by
  unfold Sys2Proof.Machine.execFreezeEnd
  repeat' first
    | with_reducible assumption
    | with_reducible apply goodO_next
    | intro _
    | with_reducible apply State_pass_good

theorem execPpsMissing_good {q : Kept} {s : State} (h : Good q s) (w_regs : q.keep .regs = false := by assumption) (w_pages : q.keep .pages = false := by assumption) (w_time : q.keep .time = false := by assumption) (w_msgs : q.keep .msgs = false := by assumption) : GoodO q (Sys2Proof.Machine.execPpsMissing s) := by
  unfold Sys2Proof.Machine.execPpsMissing
  repeat' first
    | with_reducible assumption
    | with_reducible apply goodO_next
    | intro _
    | with_reducible apply State_flag_good
    | with_reducible apply State_raiseAll_good
    | with_reducible apply State_passTo_good
    | with_reducible apply good_foldl
    | with_reducible apply good_foldl_fst
    | split
    | with_reducible refine good_fst (by assumption) ?_
    | with_reducible refine good_snd (by assumption) ?_
    | with_reducible refine good_snd2 (by assumption) ?_
    | dsimp only
    | with_reducible refine good_mk (t := _) ?_ rfl rfl rfl rfl rfl rfl rfl rfl

theorem State_nextWindow_good {q : Kept} {s : State} (h : Good q s) (w_power : q.keep .power = false := by assumption) : Good q (Sys2Proof.Machine.State.nextWindow s) := by
  unfold Sys2Proof.Machine.State.nextWindow
  repeat' first
    | with_reducible assumption
    | with_reducible apply goodO_next
    | intro _
    | with_reducible apply good_foldl
    | with_reducible apply good_foldl_fst
    | split
    | with_reducible refine good_fst (by assumption) ?_
    | with_reducible refine good_snd (by assumption) ?_
    | with_reducible refine good_snd2 (by assumption) ?_
    | dsimp only
    | with_reducible refine good_mk (t := _) ?_ rfl rfl rfl rfl rfl rfl rfl rfl

theorem execTbRateWindow_good {q : Kept} (beatsA : Nat) (beatsB : Nat) {s : State} (h : Good q s) (w_regs : q.keep .regs = false := by assumption) (w_time : q.keep .time = false := by assumption) (w_power : q.keep .power = false := by assumption) : GoodO q (Sys2Proof.Machine.execTbRateWindow beatsA beatsB s) := by
  unfold Sys2Proof.Machine.execTbRateWindow
  repeat' first
    | with_reducible assumption
    | with_reducible apply goodO_next
    | intro _
    | with_reducible apply State_nextWindow_good
    | with_reducible apply State_passTo_good
    | with_reducible apply State_set_good

theorem execSkewMaxClr_good {q : Kept} {s : State} (h : Good q s) (w_regs : q.keep .regs = false := by assumption) : GoodO q (Sys2Proof.Machine.execSkewMaxClr s) := by
  unfold Sys2Proof.Machine.execSkewMaxClr
  repeat' first
    | with_reducible assumption
    | with_reducible apply goodO_next
    | intro _
    | with_reducible apply State_set_good

end Sys2Proof.Laws
end

