-- ==== Sys2Proof/Laws/KeepThrottle.lean ====
section
/-!
SUPPORT. What the operations of Machine/Throttle.lean keep.
-/

set_option Elab.async false

namespace Sys2Proof.Laws

open Sys2Proof.Machine

theorem execThrottleStall_good {q : Kept} (lowNs : Nat) {s : State} (h : Good q s) (w_regs : q.keep .regs = false := by assumption) (w_pages : q.keep .pages = false := by assumption) (w_stall : q.keep .stall = false := by assumption) (w_msgs : q.keep .msgs = false := by assumption) (w_power : q.keep .power = false := by assumption) : GoodO q (Sys2Proof.Machine.execThrottleStall lowNs s) := by
  unfold Sys2Proof.Machine.execThrottleStall
  repeat' first
    | with_reducible assumption
    | with_reducible apply goodO_next
    | intro _
    | with_reducible apply State_add_good
    | with_reducible apply State_raise_good
    | with_reducible apply good_foldl
    | with_reducible apply good_foldl_fst
    | split
    | with_reducible refine good_fst (by assumption) ?_
    | with_reducible refine good_snd (by assumption) ?_
    | with_reducible refine good_snd2 (by assumption) ?_
    | dsimp only
    | with_reducible refine good_mk (t := _) ?_ rfl rfl rfl rfl rfl rfl rfl rfl

theorem execVrAlertNRising_good {q : Kept} {s : State} (h : Good q s) (w_power : q.keep .power = false := by assumption) : GoodO q (Sys2Proof.Machine.execVrAlertNRising s) := by
  unfold Sys2Proof.Machine.execVrAlertNRising
  repeat' first
    | with_reducible assumption
    | with_reducible apply goodO_next
    | intro _
    | with_reducible apply good_foldl
    | with_reducible apply good_foldl_fst
    | split
    | with_reducible refine good_fst (by assumption) ?_
    | with_reducible refine good_snd (by assumption) ?_
    | with_reducible refine good_snd2 (by assumption) ?_
    | dsimp only
    | with_reducible refine good_mk (t := _) ?_ rfl rfl rfl rfl rfl rfl rfl rfl

end Sys2Proof.Laws
end

