-- ==== Sys2Proof/Laws/KeepMemory.lean ====
section
/-!
SUPPORT. What the operations of Machine/Memory.lean keep.
-/

set_option Elab.async false

namespace Sys2Proof.Laws

open Sys2Proof.Machine

theorem State_setStoreErrs_good {q : Kept} {s : State} (k : Nat) (m : Map WordErr) (h : Good q s) (w_mem : q.keep .mem = false := by assumption) : Good q (Sys2Proof.Machine.State.setStoreErrs s k m) := by
  unfold Sys2Proof.Machine.State.setStoreErrs
  repeat' first
    | with_reducible assumption
    | with_reducible apply goodO_next
    | intro _
    | with_reducible apply good_foldl
    | with_reducible apply good_foldl_fst
    | split
    | with_reducible refine good_fst (by assumption) ?_
    | with_reducible refine good_snd (by assumption) ?_
    | with_reducible refine good_snd2 (by assumption) ?_
    | dsimp only
    | with_reducible refine good_mk (t := _) ?_ rfl rfl rfl rfl rfl rfl rfl rfl

theorem State_storeCe_good {q : Kept} {s : State} (k : Nat) (core : Nat) (addr : Nat) (h : Good q s) (w_regs : q.keep .regs = false := by assumption) (w_pages : q.keep .pages = false := by assumption) (w_msgs : q.keep .msgs = false := by assumption) (w_mem : q.keep .mem = false := by assumption) : Good q (Sys2Proof.Machine.State.storeCe s k core addr) := by
  unfold Sys2Proof.Machine.State.storeCe
  repeat' first
    | with_reducible assumption
    | with_reducible apply goodO_next
    | intro _
    | with_reducible apply State_set_good
    | with_reducible apply State_add_good
    | with_reducible apply State_raise_good
    | with_reducible apply State_setStoreErrs_good

theorem State_storeUe_good {q : Kept} {s : State} (k : Nat) (core : Nat) (addr : Nat) (who : Nat) (h : Good q s) (w_regs : q.keep .regs = false := by assumption) (w_pages : q.keep .pages = false := by assumption) (w_msgs : q.keep .msgs = false := by assumption) (w_faultLog : q.keep .faultLog = false := by assumption) : Good q (Sys2Proof.Machine.State.storeUe s k core addr who) := by
  unfold Sys2Proof.Machine.State.storeUe
  repeat' first
    | with_reducible assumption
    | with_reducible apply goodO_next
    | intro _
    | with_reducible apply State_set_good
    | with_reducible apply State_add_good
    | with_reducible apply State_raise_good
    | with_reducible apply State_capture_good
    | with_reducible apply State_fault_good

theorem State_storeCheck_good {q : Kept} (r0 : List Nat) (w_regs : q.keep .regs = false := by assumption) (w_pages : q.keep .pages = false := by assumption) (w_msgs : q.keep .msgs = false := by assumption) (w_faultLog : q.keep .faultLog = false := by assumption) (w_mem : q.keep .mem = false := by assumption) : ∀ (s : State) (k : Nat) (core : Nat) (who : Nat), Good q s → Good q (Sys2Proof.Machine.State.storeCheck s k core who r0).1 := by
  induction r0 with
  | nil =>
    intro s k core who h
    unfold Sys2Proof.Machine.State.storeCheck
    repeat' first
      | with_reducible assumption
  | cons a as ih =>
    intro s k core who h
    unfold Sys2Proof.Machine.State.storeCheck
    repeat' first
      | with_reducible assumption
      | with_reducible apply goodO_next
      | intro _
      | with_reducible apply ih
      | with_reducible apply State_storeCe_good
      | with_reducible apply State_storeUe_good
      | with_reducible apply good_foldl
      | with_reducible apply good_foldl_fst
      | split

theorem State_storeRead_good {q : Kept} {s : State} (k : Nat) (core : Nat) (addr : Nat) (n : Nat) (who : Nat) (h : Good q s) (w_regs : q.keep .regs = false := by assumption) (w_pages : q.keep .pages = false := by assumption) (w_msgs : q.keep .msgs = false := by assumption) (w_faultLog : q.keep .faultLog = false := by assumption) (w_mem : q.keep .mem = false := by assumption) : Good q (Sys2Proof.Machine.State.storeRead s k core addr n who).1 := by
  unfold Sys2Proof.Machine.State.storeRead
  repeat' first
    | with_reducible assumption
    | with_reducible apply goodO_next
    | intro _
    | with_reducible apply State_storeCheck_good

theorem State_storePut_good {q : Kept} {s : State} (k : Nat) (core : Nat) (addr : Nat) (bs : List Byte) (h : Good q s) (w_ws : q.keep .ws = false := by assumption) (w_act : q.keep .act = false := by assumption) : Good q (Sys2Proof.Machine.State.storePut s k core addr bs) := by
  refine good_step h ?_ (fun b => ?_) (fun x hx => ?_)
  · unfold Sys2Proof.Machine.State.storePut
    split <;> rfl
  · have hm := State.storePut_wf b.memory k core addr bs
    unfold Sys2Proof.Machine.State.storePut at hm ⊢
    split at hm
    · rename_i hk
      rw [if_pos hk]
      exact ⟨hm, b.protLog, b.abortLog, b.lateErrors, b.faultLog⟩
    · rename_i hk
      rw [if_neg hk]
      exact ⟨hm, b.protLog, b.abortLog, b.lateErrors, b.faultLog⟩
  · unfold Sys2Proof.Machine.State.storePut
    split <;> cases x <;> first | exact Eq.refl _ | exact ⟨rfl, rfl, rfl⟩ | (rw [w_ws] at hx; cases hx) | (rw [w_act] at hx; cases hx)

theorem State_storeWordWrite_good {q : Kept} {s : State} (k : Nat) (core : Nat) (who : Nat) (addr : Nat) (bs : List Byte) (h : Good q s) (w_regs : q.keep .regs = false := by assumption) (w_pages : q.keep .pages = false := by assumption) (w_msgs : q.keep .msgs = false := by assumption) (w_faultLog : q.keep .faultLog = false := by assumption) (w_ws : q.keep .ws = false := by assumption) (w_act : q.keep .act = false := by assumption) (w_mem : q.keep .mem = false := by assumption) : Good q (Sys2Proof.Machine.State.storeWordWrite s k core who addr bs).1 := by
  unfold Sys2Proof.Machine.State.storeWordWrite
  repeat' first
    | with_reducible assumption
    | with_reducible apply goodO_next
    | intro _
    | with_reducible apply State_setStoreErrs_good
    | with_reducible apply State_storeCe_good
    | with_reducible apply State_storeUe_good
    | with_reducible apply State_storePut_good
    | with_reducible apply good_foldl
    | with_reducible apply good_foldl_fst
    | split
    | with_reducible refine good_fst (by assumption) ?_
    | with_reducible refine good_snd (by assumption) ?_
    | with_reducible refine good_snd2 (by assumption) ?_
    | dsimp only

theorem State_storeWrite_good {q : Kept} {s : State} (k : Nat) (core : Nat) (addr : Nat) (who : Nat) (bs : List Byte) (h : Good q s) (w_regs : q.keep .regs = false := by assumption) (w_pages : q.keep .pages = false := by assumption) (w_msgs : q.keep .msgs = false := by assumption) (w_faultLog : q.keep .faultLog = false := by assumption) (w_ws : q.keep .ws = false := by assumption) (w_act : q.keep .act = false := by assumption) (w_mem : q.keep .mem = false := by assumption) : Good q (Sys2Proof.Machine.State.storeWrite s k core addr who bs).1 := by
  unfold Sys2Proof.Machine.State.storeWrite
  repeat' first
    | with_reducible assumption
    | with_reducible apply goodO_next
    | intro _
    | with_reducible apply State_storePut_good
    | with_reducible apply State_storeWordWrite_good
    | with_reducible apply good_foldl
    | with_reducible apply good_foldl_fst
    | split

theorem State_setMeta_good {q : Kept} {s : State} (l : Nat) (m : LineMeta) (h : Good q s) (w_mem : q.keep .mem = false := by assumption) : Good q (Sys2Proof.Machine.State.setMeta s l m) := by
  unfold Sys2Proof.Machine.State.setMeta
  repeat' first
    | with_reducible assumption
    | with_reducible apply goodO_next
    | intro _
    | with_reducible apply good_foldl
    | with_reducible apply good_foldl_fst
    | split
    | with_reducible refine good_fst (by assumption) ?_
    | with_reducible refine good_snd (by assumption) ?_
    | with_reducible refine good_snd2 (by assumption) ?_
    | dsimp only
    | with_reducible refine good_mk (t := _) ?_ rfl rfl rfl rfl rfl rfl rfl rfl

theorem State_setStored_good {q : Kept} {s : State} (l : Nat) (d : List Byte) (h : Good q s) (w_hbm : q.keep .hbm = false := by assumption) : Good q (Sys2Proof.Machine.State.setStored s l d) := by
  refine good_step h rfl (fun b => ⟨State.setStored_wf b.memory l d, b.protLog, b.abortLog, b.lateErrors, b.faultLog⟩) (fun x hx => ?_)
  cases x <;> first | exact Eq.refl _ | exact ⟨rfl, rfl, rfl⟩ | (rw [w_hbm] at hx; cases hx)

theorem State_setKeys_good {q : Kept} {s : State} (d : Nat) (k : DomKeys) (h : Good q s) (w_mem : q.keep .mem = false := by assumption) : Good q (Sys2Proof.Machine.State.setKeys s d k) := by
  unfold Sys2Proof.Machine.State.setKeys
  repeat' first
    | with_reducible assumption
    | with_reducible apply goodO_next
    | intro _
    | with_reducible apply good_foldl
    | with_reducible apply good_foldl_fst
    | split
    | with_reducible refine good_fst (by assumption) ?_
    | with_reducible refine good_snd (by assumption) ?_
    | with_reducible refine good_snd2 (by assumption) ?_
    | dsimp only
    | with_reducible refine good_mk (t := _) ?_ rfl rfl rfl rfl rfl rfl rfl rfl

theorem State_lineCe_good {q : Kept} {s : State} (l : Nat) (h : Good q s) (w_regs : q.keep .regs = false := by assumption) (w_pages : q.keep .pages = false := by assumption) (w_msgs : q.keep .msgs = false := by assumption) (w_mem : q.keep .mem = false := by assumption) : Good q (Sys2Proof.Machine.State.lineCe s l) := by
  unfold Sys2Proof.Machine.State.lineCe
  repeat' first
    | with_reducible assumption
    | with_reducible apply goodO_next
    | intro _
    | with_reducible apply State_add_good
    | with_reducible apply State_raise_good
    | with_reducible apply State_setMeta_good

theorem State_lineUe_good {q : Kept} {s : State} (l : Nat) (fn : Nat) (cause : Nat) (h : Good q s) (w_regs : q.keep .regs = false := by assumption) (w_pages : q.keep .pages = false := by assumption) (w_msgs : q.keep .msgs = false := by assumption) (w_faultLog : q.keep .faultLog = false := by assumption) : Good q (Sys2Proof.Machine.State.lineUe s l fn cause) := by
  unfold Sys2Proof.Machine.State.lineUe
  repeat' first
    | with_reducible assumption
    | with_reducible apply goodO_next
    | intro _
    | with_reducible apply State_add_good
    | with_reducible apply State_setPair_good
    | with_reducible apply State_raise_good
    | with_reducible apply State_capture_good
    | with_reducible apply State_fault_good
    | with_reducible apply good_foldl
    | with_reducible apply good_foldl_fst
    | split

theorem State_logProt_good {q : Kept} {s : State} (e : ProtEntry) (st : Status) (h : Good q s) (w_regs : q.keep .regs = false := by assumption) (w_pages : q.keep .pages = false := by assumption) (w_msgs : q.keep .msgs = false := by assumption) (w_mem : q.keep .mem = false := by assumption) : Good q (Sys2Proof.Machine.State.logProt s e st) := by
  unfold Sys2Proof.Machine.State.logProt
  apply State_capture_good
  · split
    · refine good_protLog h _ (fun _ => ?_) w_mem
      simp only [List.length_append, List.length_singleton]
      omega
    · exact State_raise_good _ _ (State_add_good _ _ h)
  · assumption

theorem State_tagFail_good {q : Kept} {s : State} (agent : Nat) (fn : Nat) (core : Nat) (dom : Nat) (l : Nat) (cause : Nat) (h : Good q s) (w_regs : q.keep .regs = false := by assumption) (w_pages : q.keep .pages = false := by assumption) (w_msgs : q.keep .msgs = false := by assumption) (w_mem : q.keep .mem = false := by assumption) : Good q (Sys2Proof.Machine.State.tagFail s agent fn core dom l cause) := by
  unfold Sys2Proof.Machine.State.tagFail
  repeat' first
    | with_reducible assumption
    | with_reducible apply goodO_next
    | intro _
    | with_reducible apply State_add_good
    | with_reducible apply State_raise_good
    | with_reducible apply State_logProt_good

theorem State_poison_good {q : Kept} {s : State} (l : Nat) (h : Good q s) (w_regs : q.keep .regs = false := by assumption) (w_pages : q.keep .pages = false := by assumption) (w_msgs : q.keep .msgs = false := by assumption) (w_mem : q.keep .mem = false := by assumption) : Good q (Sys2Proof.Machine.State.poison s l) := by
  unfold Sys2Proof.Machine.State.poison
  repeat' first
    | with_reducible assumption
    | with_reducible apply goodO_next
    | intro _
    | with_reducible apply State_add_good
    | with_reducible apply State_raise_good
    | with_reducible apply State_setMeta_good

theorem State_homeRead_good {q : Kept} {s : State} (agent : Nat) (fn : Nat) (core : Nat) (dom : Nat) (l : Nat) (h : Good q s) (w_regs : q.keep .regs = false := by assumption) (w_pages : q.keep .pages = false := by assumption) (w_msgs : q.keep .msgs = false := by assumption) (w_faultLog : q.keep .faultLog = false := by assumption) (w_mem : q.keep .mem = false := by assumption) : Good q (Sys2Proof.Machine.State.homeRead s agent fn core dom l).1 := by
  unfold Sys2Proof.Machine.State.homeRead
  repeat' first
    | with_reducible assumption
    | with_reducible apply goodO_next
    | intro _
    | with_reducible apply State_add_good
    | with_reducible apply State_lineCe_good
    | with_reducible apply State_lineUe_good
    | with_reducible apply State_tagFail_good
    | with_reducible apply good_foldl
    | with_reducible apply good_foldl_fst
    | split
    | with_reducible refine good_fst (by assumption) ?_
    | with_reducible refine good_snd (by assumption) ?_
    | with_reducible refine good_snd2 (by assumption) ?_
    | dsimp only

theorem State_homeWrite_good {q : Kept} {s : State} (fn : Nat) (dom : Nat) (l : Nat) (d : List Byte) (h : Good q s) (w_regs : q.keep .regs = false := by assumption) (w_pages : q.keep .pages = false := by assumption) (w_msgs : q.keep .msgs = false := by assumption) (w_faultLog : q.keep .faultLog = false := by assumption) (w_hbm : q.keep .hbm = false := by assumption) (w_mem : q.keep .mem = false := by assumption) : Good q (Sys2Proof.Machine.State.homeWrite s fn dom l d).1 := by
  unfold Sys2Proof.Machine.State.homeWrite
  repeat' first
    | with_reducible assumption
    | with_reducible apply goodO_next
    | intro _
    | with_reducible apply State_add_good
    | with_reducible apply State_setMeta_good
    | with_reducible apply State_setStored_good
    | with_reducible apply State_lineUe_good
    | with_reducible apply good_foldl
    | with_reducible apply good_foldl_fst
    | split

theorem State_homeReadForMerge_good {q : Kept} {s : State} (agent : Nat) (fn : Nat) (core : Nat) (dom : Nat) (l : Nat) (h : Good q s) (w_regs : q.keep .regs = false := by assumption) (w_pages : q.keep .pages = false := by assumption) (w_msgs : q.keep .msgs = false := by assumption) (w_faultLog : q.keep .faultLog = false := by assumption) (w_mem : q.keep .mem = false := by assumption) : Good q (Sys2Proof.Machine.State.homeReadForMerge s agent fn core dom l).1 := by
  unfold Sys2Proof.Machine.State.homeReadForMerge
  repeat' first
    | with_reducible assumption
    | with_reducible apply goodO_next
    | intro _
    | with_reducible apply State_add_good
    | with_reducible apply State_lineCe_good
    | with_reducible apply State_lineUe_good
    | with_reducible apply State_tagFail_good
    | with_reducible apply State_poison_good
    | with_reducible apply good_foldl
    | with_reducible apply good_foldl_fst
    | split
    | with_reducible refine good_fst (by assumption) ?_
    | with_reducible refine good_snd (by assumption) ?_
    | with_reducible refine good_snd2 (by assumption) ?_
    | dsimp only

end Sys2Proof.Laws
end

