-- ==== Sys2Proof/Laws/KeepCoherence.lean ====
section
/-!
SUPPORT. What the operations of Machine/Coherence.lean keep.
-/

set_option Elab.async false

namespace Sys2Proof.Laws

open Sys2Proof.Machine

theorem State_setCache_good {q : Kept} {s : State} (core : Nat) (c : Cache) (h : Good q s) (w_caches : q.keep .caches = false := by assumption) : Good q (Sys2Proof.Machine.State.setCache s core c) := by
  unfold Sys2Proof.Machine.State.setCache
  repeat' first
    | with_reducible assumption
    | with_reducible apply goodO_next
    | intro _
    | with_reducible apply good_foldl
    | with_reducible apply good_foldl_fst
    | split
    | with_reducible refine good_fst (by assumption) ?_
    | with_reducible refine good_snd (by assumption) ?_
    | with_reducible refine good_snd2 (by assumption) ?_
    | dsimp only
    | with_reducible refine good_mk (t := _) ?_ rfl rfl rfl rfl rfl rfl rfl rfl

theorem State_setCached_good {q : Kept} {s : State} (core : Nat) (l : Nat) (v : Option CacheLine) (h : Good q s) (w_caches : q.keep .caches = false := by assumption) : Good q (Sys2Proof.Machine.State.setCached s core l v) := by
  unfold Sys2Proof.Machine.State.setCached
  repeat' first
    | with_reducible assumption
    | with_reducible apply goodO_next
    | intro _
    | with_reducible apply State_setCache_good

theorem State_setEvicted_good {q : Kept} {s : State} (core : Nat) (l : Nat) (v : Option Evicted) (h : Good q s) (w_caches : q.keep .caches = false := by assumption) : Good q (Sys2Proof.Machine.State.setEvicted s core l v) := by
  unfold Sys2Proof.Machine.State.setEvicted
  repeat' first
    | with_reducible assumption
    | with_reducible apply goodO_next
    | intro _
    | with_reducible apply State_setCache_good

theorem State_lineFault_good {q : Kept} {s : State} (core : Nat) (x : CacheLine) (w : Nat) (who : Nat) (h : Good q s) (w_regs : q.keep .regs = false := by assumption) (w_pages : q.keep .pages = false := by assumption) (w_msgs : q.keep .msgs = false := by assumption) (w_faultLog : q.keep .faultLog = false := by assumption) : Good q (Sys2Proof.Machine.State.lineFault s core x w who) := by
  unfold Sys2Proof.Machine.State.lineFault
  repeat' first
    | with_reducible assumption
    | with_reducible apply goodO_next
    | intro _
    | with_reducible apply State_fault_good
    | with_reducible apply State_capture_good
    | with_reducible apply State_raise_good

theorem State_readOut_good {q : Kept} {s : State} (core : Nat) (x : CacheLine) (h : Good q s) (w_regs : q.keep .regs = false := by assumption) (w_pages : q.keep .pages = false := by assumption) (w_msgs : q.keep .msgs = false := by assumption) (w_faultLog : q.keep .faultLog = false := by assumption) : Good q (Sys2Proof.Machine.State.readOut s core x) := by
  unfold Sys2Proof.Machine.State.readOut
  repeat' first
    | with_reducible assumption
    | with_reducible apply goodO_next
    | intro _
    | with_reducible apply State_lineFault_good
    | with_reducible apply State_raise_good
    | with_reducible apply good_foldl
    | with_reducible apply good_foldl_fst
    | split

theorem State_writeBack_good {q : Kept} {s : State} (l : Nat) (fn : Nat) (dom : Nat) (y : Yield) (h : Good q s) (w_regs : q.keep .regs = false := by assumption) (w_pages : q.keep .pages = false := by assumption) (w_msgs : q.keep .msgs = false := by assumption) (w_faultLog : q.keep .faultLog = false := by assumption) (w_hbm : q.keep .hbm = false := by assumption) (w_mem : q.keep .mem = false := by assumption) : Good q (Sys2Proof.Machine.State.writeBack s l fn dom y) := by
  unfold Sys2Proof.Machine.State.writeBack
  repeat' first
    | with_reducible assumption
    | with_reducible apply goodO_next
    | intro _
    | with_reducible apply State_lineUe_good
    | with_reducible apply State_poison_good
    | with_reducible apply State_homeWrite_good
    | with_reducible apply good_foldl
    | with_reducible apply good_foldl_fst
    | split

theorem State_setDir_good {q : Kept} {s : State} (l : Nat) (owner : Option Nat) (sharers : List Nat) (h : Good q s) (w_mem : q.keep .mem = false := by assumption) : Good q (Sys2Proof.Machine.State.setDir s l owner sharers) := by
  unfold Sys2Proof.Machine.State.setDir
  repeat' first
    | with_reducible assumption
    | with_reducible apply goodO_next
    | intro _
    | with_reducible apply good_foldl
    | with_reducible apply good_foldl_fst
    | split
    | with_reducible refine good_fst (by assumption) ?_
    | with_reducible refine good_snd (by assumption) ?_
    | with_reducible refine good_snd2 (by assumption) ?_
    | dsimp only
    | with_reducible refine good_mk (t := _) ?_ rfl rfl rfl rfl rfl rfl rfl rfl

theorem State_crossing_good {q : Kept} {s : State} (core : Nat) (h : Good q s) (w_regs : q.keep .regs = false := by assumption) : Good q (Sys2Proof.Machine.State.crossing s core) := by
  unfold Sys2Proof.Machine.State.crossing
  repeat' first
    | with_reducible assumption
    | with_reducible apply goodO_next
    | intro _
    | with_reducible apply State_add_good

theorem State_takeFill_good {q : Kept} {s : State} (core : Nat) (l : Nat) (h : Good q s) (w_regs : q.keep .regs = false := by assumption) (w_pages : q.keep .pages = false := by assumption) (w_msgs : q.keep .msgs = false := by assumption) (w_faultLog : q.keep .faultLog = false := by assumption) (w_hbm : q.keep .hbm = false := by assumption) (w_caches : q.keep .caches = false := by assumption) (w_mem : q.keep .mem = false := by assumption) : Good q (Sys2Proof.Machine.State.takeFill s core l) := by
  unfold Sys2Proof.Machine.State.takeFill
  repeat' first
    | with_reducible assumption
    | with_reducible apply goodO_next
    | intro _
    | with_reducible apply State_writeBack_good
    | with_reducible apply State_setCached_good
    | with_reducible apply good_foldl
    | with_reducible apply good_foldl_fst
    | split
    | with_reducible refine good_fst (by assumption) ?_
    | with_reducible refine good_snd (by assumption) ?_
    | with_reducible refine good_snd2 (by assumption) ?_
    | dsimp only
    | with_reducible refine good_mk (t := _) ?_ rfl rfl rfl rfl rfl rfl rfl rfl

theorem State_takeCached_good {q : Kept} {s : State} (core : Nat) (l : Nat) (h : Good q s) (w_regs : q.keep .regs = false := by assumption) (w_pages : q.keep .pages = false := by assumption) (w_msgs : q.keep .msgs = false := by assumption) (w_faultLog : q.keep .faultLog = false := by assumption) (w_hbm : q.keep .hbm = false := by assumption) (w_caches : q.keep .caches = false := by assumption) (w_mem : q.keep .mem = false := by assumption) : Good q (Sys2Proof.Machine.State.takeCached s core l) := by
  unfold Sys2Proof.Machine.State.takeCached
  repeat' first
    | with_reducible assumption
    | with_reducible apply goodO_next
    | intro _
    | with_reducible apply State_writeBack_good
    | with_reducible apply State_readOut_good
    | with_reducible apply State_setCached_good
    | with_reducible apply good_foldl
    | with_reducible apply good_foldl_fst
    | split

theorem State_takeEvicted_good {q : Kept} {s : State} (core : Nat) (l : Nat) (h : Good q s) (w_regs : q.keep .regs = false := by assumption) (w_pages : q.keep .pages = false := by assumption) (w_msgs : q.keep .msgs = false := by assumption) (w_faultLog : q.keep .faultLog = false := by assumption) (w_hbm : q.keep .hbm = false := by assumption) (w_caches : q.keep .caches = false := by assumption) (w_mem : q.keep .mem = false := by assumption) : Good q (Sys2Proof.Machine.State.takeEvicted s core l) := by
  unfold Sys2Proof.Machine.State.takeEvicted
  repeat' first
    | with_reducible assumption
    | with_reducible apply goodO_next
    | intro _
    | with_reducible apply State_crossing_good
    | with_reducible apply State_writeBack_good
    | with_reducible apply State_setEvicted_good
    | with_reducible apply State_add_good
    | with_reducible apply good_foldl
    | with_reducible apply good_foldl_fst
    | split

theorem State_takeBack_good {q : Kept} {s : State} (core : Nat) (l : Nat) (h : Good q s) (w_regs : q.keep .regs = false := by assumption) (w_pages : q.keep .pages = false := by assumption) (w_msgs : q.keep .msgs = false := by assumption) (w_faultLog : q.keep .faultLog = false := by assumption) (w_hbm : q.keep .hbm = false := by assumption) (w_caches : q.keep .caches = false := by assumption) (w_mem : q.keep .mem = false := by assumption) : Good q (Sys2Proof.Machine.State.takeBack s core l) := by
  unfold Sys2Proof.Machine.State.takeBack
  repeat' first
    | with_reducible assumption
    | with_reducible apply goodO_next
    | intro _
    | with_reducible apply State_takeEvicted_good
    | with_reducible apply State_takeCached_good
    | with_reducible apply State_takeFill_good
    | with_reducible apply State_add_good

theorem State_backInvalidate_good {q : Kept} {s : State} (e : DirEntry) (h : Good q s) (w_regs : q.keep .regs = false := by assumption) (w_pages : q.keep .pages = false := by assumption) (w_msgs : q.keep .msgs = false := by assumption) (w_faultLog : q.keep .faultLog = false := by assumption) (w_hbm : q.keep .hbm = false := by assumption) (w_caches : q.keep .caches = false := by assumption) (w_mem : q.keep .mem = false := by assumption) : Good q (Sys2Proof.Machine.State.backInvalidate s e) := by
  unfold Sys2Proof.Machine.State.backInvalidate
  repeat' first
    | with_reducible assumption
    | with_reducible apply goodO_next
    | intro _
    | with_reducible apply State_takeBack_good
    | with_reducible apply State_setDir_good
    | with_reducible apply State_add_good
    | with_reducible apply good_foldl

theorem State_dirRoom_good {q : Kept} {s : State} (l : Nat) (h : Good q s) (w_regs : q.keep .regs = false := by assumption) (w_pages : q.keep .pages = false := by assumption) (w_msgs : q.keep .msgs = false := by assumption) (w_faultLog : q.keep .faultLog = false := by assumption) (w_hbm : q.keep .hbm = false := by assumption) (w_caches : q.keep .caches = false := by assumption) (w_mem : q.keep .mem = false := by assumption) : Good q (Sys2Proof.Machine.State.dirRoom s l) := by
  unfold Sys2Proof.Machine.State.dirRoom
  repeat' first
    | with_reducible assumption
    | with_reducible apply goodO_next
    | intro _
    | with_reducible apply State_backInvalidate_good
    | with_reducible apply good_foldl
    | with_reducible apply good_foldl_fst
    | split
    | with_reducible refine good_fst (by assumption) ?_
    | with_reducible refine good_snd (by assumption) ?_
    | with_reducible refine good_snd2 (by assumption) ?_
    | dsimp only

theorem State_installDir_good {q : Kept} {s : State} (l : Nat) (owner : Option Nat) (sharers : List Nat) (h : Good q s) (w_regs : q.keep .regs = false := by assumption) (w_pages : q.keep .pages = false := by assumption) (w_msgs : q.keep .msgs = false := by assumption) (w_faultLog : q.keep .faultLog = false := by assumption) (w_hbm : q.keep .hbm = false := by assumption) (w_caches : q.keep .caches = false := by assumption) (w_mem : q.keep .mem = false := by assumption) : Good q (Sys2Proof.Machine.State.installDir s l owner sharers) := by
  unfold Sys2Proof.Machine.State.installDir
  repeat' first
    | with_reducible assumption
    | with_reducible apply goodO_next
    | intro _
    | with_reducible apply State_setDir_good
    | with_reducible apply State_dirRoom_good
    | with_reducible apply good_foldl
    | with_reducible apply good_foldl_fst
    | split

theorem State_toBuffer_good {q : Kept} {s : State} (core : Nat) (x : CacheLine) (h : Good q s) (w_caches : q.keep .caches = false := by assumption) : Good q (Sys2Proof.Machine.State.toBuffer s core x) := by
  unfold Sys2Proof.Machine.State.toBuffer
  repeat' first
    | with_reducible assumption
    | with_reducible apply goodO_next
    | intro _
    | with_reducible apply State_setEvicted_good
    | with_reducible apply State_setCached_good

theorem State_install_good {q : Kept} {s : State} (core : Nat) (x : CacheLine) (h : Good q s) (w_regs : q.keep .regs = false := by assumption) (w_pages : q.keep .pages = false := by assumption) (w_msgs : q.keep .msgs = false := by assumption) (w_faultLog : q.keep .faultLog = false := by assumption) (w_caches : q.keep .caches = false := by assumption) : Good q (Sys2Proof.Machine.State.install s core x) := by
  unfold Sys2Proof.Machine.State.install
  repeat' first
    | with_reducible assumption
    | with_reducible apply goodO_next
    | intro _
    | with_reducible apply State_toBuffer_good
    | with_reducible apply State_readOut_good
    | with_reducible apply State_setCached_good
    | with_reducible apply good_foldl
    | with_reducible apply good_foldl_fst
    | split
    | with_reducible refine good_fst (by assumption) ?_
    | with_reducible refine good_snd (by assumption) ?_
    | with_reducible refine good_snd2 (by assumption) ?_
    | dsimp only

theorem State_send_good {q : Kept} {s : State} (m : Flight) (h : Good q s) (w_mem : q.keep .mem = false := by assumption) : Good q (Sys2Proof.Machine.State.send s m) := by
  unfold Sys2Proof.Machine.State.send
  repeat' first
    | with_reducible assumption
    | with_reducible apply goodO_next
    | intro _
    | with_reducible apply good_foldl
    | with_reducible apply good_foldl_fst
    | split
    | with_reducible refine good_fst (by assumption) ?_
    | with_reducible refine good_snd (by assumption) ?_
    | with_reducible refine good_snd2 (by assumption) ?_
    | dsimp only
    | with_reducible refine good_mk (t := _) ?_ rfl rfl rfl rfl rfl rfl rfl rfl

theorem State_setTxn_good {q : Kept} {s : State} (l : Nat) (v : Option Txn) (h : Good q s) (w_mem : q.keep .mem = false := by assumption) : Good q (Sys2Proof.Machine.State.setTxn s l v) := by
  unfold Sys2Proof.Machine.State.setTxn
  repeat' first
    | with_reducible assumption
    | with_reducible apply goodO_next
    | intro _
    | with_reducible apply good_foldl
    | with_reducible apply good_foldl_fst
    | split
    | with_reducible refine good_fst (by assumption) ?_
    | with_reducible refine good_snd (by assumption) ?_
    | with_reducible refine good_snd2 (by assumption) ?_
    | dsimp only
    | with_reducible refine good_mk (t := _) ?_ rfl rfl rfl rfl rfl rfl rfl rfl

theorem State_finishTxn_good {q : Kept} {s : State} (t : Txn) (h : Good q s) (w_regs : q.keep .regs = false := by assumption) (w_pages : q.keep .pages = false := by assumption) (w_msgs : q.keep .msgs = false := by assumption) (w_faultLog : q.keep .faultLog = false := by assumption) (w_hbm : q.keep .hbm = false := by assumption) (w_caches : q.keep .caches = false := by assumption) (w_mem : q.keep .mem = false := by assumption) : Good q (Sys2Proof.Machine.State.finishTxn s t) := by
  unfold Sys2Proof.Machine.State.finishTxn
  repeat' first
    | with_reducible assumption
    | with_reducible apply goodO_next
    | intro _
    | with_reducible apply State_homeRead_good
    | with_reducible apply State_homeWrite_good
    | with_reducible apply State_homeReadForMerge_good
    | with_reducible apply State_setDir_good
    | with_reducible apply State_installDir_good
    | with_reducible apply State_send_good
    | with_reducible apply State_setTxn_good
    | with_reducible apply good_foldl
    | with_reducible apply good_foldl_fst
    | split
    | with_reducible refine good_fst (by assumption) ?_
    | with_reducible refine good_snd (by assumption) ?_
    | with_reducible refine good_snd2 (by assumption) ?_
    | dsimp only

theorem State_beginTxn_good {q : Kept} {s : State} (t : Txn) (h : Good q s) (w_regs : q.keep .regs = false := by assumption) (w_pages : q.keep .pages = false := by assumption) (w_msgs : q.keep .msgs = false := by assumption) (w_faultLog : q.keep .faultLog = false := by assumption) (w_hbm : q.keep .hbm = false := by assumption) (w_caches : q.keep .caches = false := by assumption) (w_mem : q.keep .mem = false := by assumption) : Good q (Sys2Proof.Machine.State.beginTxn s t) := by
  unfold Sys2Proof.Machine.State.beginTxn
  repeat' first
    | with_reducible assumption
    | with_reducible apply goodO_next
    | intro _
    | with_reducible apply State_send_good
    | with_reducible apply State_finishTxn_good
    | with_reducible apply good_foldl
    | with_reducible apply good_foldl_fst
    | split
    | with_reducible refine good_fst (by assumption) ?_
    | with_reducible refine good_snd (by assumption) ?_
    | with_reducible refine good_snd2 (by assumption) ?_
    | dsimp only
    | with_reducible refine good_mk (t := _) ?_ rfl rfl rfl rfl rfl rfl rfl rfl

theorem State_nextTxn_good {q : Kept} (r0 : Nat) (w_regs : q.keep .regs = false := by assumption) (w_pages : q.keep .pages = false := by assumption) (w_msgs : q.keep .msgs = false := by assumption) (w_faultLog : q.keep .faultLog = false := by assumption) (w_hbm : q.keep .hbm = false := by assumption) (w_caches : q.keep .caches = false := by assumption) (w_mem : q.keep .mem = false := by assumption) : ∀ (s : State) (l : Nat), Good q s → Good q (Sys2Proof.Machine.State.nextTxn s l r0) := by
  induction r0 with
  | zero =>
    intro s l h
    unfold Sys2Proof.Machine.State.nextTxn
    repeat' first
      | with_reducible assumption
  | succ n ih =>
    intro s l h
    unfold Sys2Proof.Machine.State.nextTxn
    repeat' first
      | with_reducible assumption
      | with_reducible apply goodO_next
      | intro _
      | with_reducible apply ih
      | with_reducible apply State_beginTxn_good
      | with_reducible apply good_foldl
      | with_reducible apply good_foldl_fst
      | split
      | with_reducible refine good_fst (by assumption) ?_
      | with_reducible refine good_snd (by assumption) ?_
      | with_reducible refine good_snd2 (by assumption) ?_
      | dsimp only
      | with_reducible refine good_mk (t := _) ?_ rfl rfl rfl rfl rfl rfl rfl rfl

theorem State_request_good {q : Kept} {s : State} (t : Txn) (h : Good q s) (w_regs : q.keep .regs = false := by assumption) (w_pages : q.keep .pages = false := by assumption) (w_msgs : q.keep .msgs = false := by assumption) (w_faultLog : q.keep .faultLog = false := by assumption) (w_hbm : q.keep .hbm = false := by assumption) (w_caches : q.keep .caches = false := by assumption) (w_mem : q.keep .mem = false := by assumption) : Good q (Sys2Proof.Machine.State.request s t) := by
  unfold Sys2Proof.Machine.State.request
  repeat' first
    | with_reducible assumption
    | with_reducible apply goodO_next
    | intro _
    | with_reducible apply State_nextTxn_good
    | with_reducible apply good_foldl
    | with_reducible apply good_foldl_fst
    | split
    | with_reducible refine good_fst (by assumption) ?_
    | with_reducible refine good_snd (by assumption) ?_
    | with_reducible refine good_snd2 (by assumption) ?_
    | dsimp only
    | with_reducible refine good_mk (t := _) ?_ rfl rfl rfl rfl rfl rfl rfl rfl

theorem State_progress_good {q : Kept} {s : State} (t : Txn) (h : Good q s) (w_regs : q.keep .regs = false := by assumption) (w_pages : q.keep .pages = false := by assumption) (w_msgs : q.keep .msgs = false := by assumption) (w_faultLog : q.keep .faultLog = false := by assumption) (w_hbm : q.keep .hbm = false := by assumption) (w_caches : q.keep .caches = false := by assumption) (w_mem : q.keep .mem = false := by assumption) : Good q (Sys2Proof.Machine.State.progress s t) := by
  unfold Sys2Proof.Machine.State.progress
  repeat' first
    | with_reducible assumption
    | with_reducible apply goodO_next
    | intro _
    | with_reducible apply State_setTxn_good
    | with_reducible apply State_finishTxn_good
    | with_reducible apply State_nextTxn_good
    | with_reducible apply good_foldl
    | with_reducible apply good_foldl_fst
    | split

theorem State_cross_good {q : Kept} {s : State} (core : Nat) (l : Nat) (h : Good q s) (w_regs : q.keep .regs = false := by assumption) (w_caches : q.keep .caches = false := by assumption) : Good q (Sys2Proof.Machine.State.cross s core l) := by
  unfold Sys2Proof.Machine.State.cross
  repeat' first
    | with_reducible assumption
    | with_reducible apply goodO_next
    | intro _
    | with_reducible apply State_crossing_good
    | with_reducible apply State_setEvicted_good
    | with_reducible apply good_foldl
    | with_reducible apply good_foldl_fst
    | split

theorem State_homeReply_good {q : Kept} {s : State} (m : Flight) (h : Good q s) (w_regs : q.keep .regs = false := by assumption) (w_pages : q.keep .pages = false := by assumption) (w_msgs : q.keep .msgs = false := by assumption) (w_faultLog : q.keep .faultLog = false := by assumption) (w_hbm : q.keep .hbm = false := by assumption) (w_caches : q.keep .caches = false := by assumption) (w_mem : q.keep .mem = false := by assumption) : Good q (Sys2Proof.Machine.State.homeReply s m) := by
  unfold Sys2Proof.Machine.State.homeReply
  repeat' first
    | with_reducible assumption
    | with_reducible apply goodO_next
    | intro _
    | with_reducible apply State_cross_good
    | with_reducible apply State_progress_good
    | with_reducible apply good_foldl
    | with_reducible apply good_foldl_fst
    | split

theorem State_coreSnoop_good {q : Kept} {s : State} (m : Flight) (h : Good q s) (w_regs : q.keep .regs = false := by assumption) (w_pages : q.keep .pages = false := by assumption) (w_msgs : q.keep .msgs = false := by assumption) (w_faultLog : q.keep .faultLog = false := by assumption) (w_hbm : q.keep .hbm = false := by assumption) (w_caches : q.keep .caches = false := by assumption) (w_mem : q.keep .mem = false := by assumption) : Good q (Sys2Proof.Machine.State.coreSnoop s m) := by
  unfold Sys2Proof.Machine.State.coreSnoop
  repeat' first
    | with_reducible assumption
    | with_reducible apply goodO_next
    | intro _
    | with_reducible apply State_send_good
    | with_reducible apply State_writeBack_good
    | with_reducible apply State_readOut_good
    | with_reducible apply State_setCached_good
    | with_reducible apply State_add_good
    | with_reducible apply good_foldl
    | with_reducible apply good_foldl_fst
    | split
    | with_reducible refine good_fst (by assumption) ?_
    | with_reducible refine good_snd (by assumption) ?_
    | with_reducible refine good_snd2 (by assumption) ?_
    | dsimp only

theorem State_homeEvict_good {q : Kept} {s : State} (core : Nat) (l : Nat) (h : Good q s) (w_regs : q.keep .regs = false := by assumption) (w_pages : q.keep .pages = false := by assumption) (w_msgs : q.keep .msgs = false := by assumption) (w_faultLog : q.keep .faultLog = false := by assumption) (w_hbm : q.keep .hbm = false := by assumption) (w_caches : q.keep .caches = false := by assumption) (w_mem : q.keep .mem = false := by assumption) : Good q (Sys2Proof.Machine.State.homeEvict s core l) := by
  unfold Sys2Proof.Machine.State.homeEvict
  repeat' first
    | with_reducible assumption
    | with_reducible apply goodO_next
    | intro _
    | with_reducible apply State_cross_good
    | with_reducible apply State_progress_good
    | with_reducible apply State_send_good
    | with_reducible apply State_setDir_good
    | with_reducible apply State_writeBack_good
    | with_reducible apply State_setEvicted_good
    | with_reducible apply State_add_good
    | with_reducible apply good_foldl
    | with_reducible apply good_foldl_fst
    | split
    | with_reducible refine good_fst (by assumption) ?_
    | with_reducible refine good_snd (by assumption) ?_
    | with_reducible refine good_snd2 (by assumption) ?_
    | dsimp only

theorem State_deliverOther_good {q : Kept} {s : State} (m : Flight) (h : Good q s) (w_regs : q.keep .regs = false := by assumption) (w_pages : q.keep .pages = false := by assumption) (w_msgs : q.keep .msgs = false := by assumption) (w_faultLog : q.keep .faultLog = false := by assumption) (w_hbm : q.keep .hbm = false := by assumption) (w_caches : q.keep .caches = false := by assumption) (w_mem : q.keep .mem = false := by assumption) : Good q (Sys2Proof.Machine.State.deliverOther s m) := by
  unfold Sys2Proof.Machine.State.deliverOther
  repeat' first
    | with_reducible assumption
    | with_reducible apply goodO_next
    | intro _
    | with_reducible apply State_coreSnoop_good
    | with_reducible apply State_homeReply_good
    | with_reducible apply State_setEvicted_good
    | with_reducible apply good_foldl
    | with_reducible apply good_foldl_fst
    | split

theorem State_settleEvictions_good {q : Kept} (r0 : Nat) (w_regs : q.keep .regs = false := by assumption) (w_pages : q.keep .pages = false := by assumption) (w_msgs : q.keep .msgs = false := by assumption) (w_faultLog : q.keep .faultLog = false := by assumption) (w_hbm : q.keep .hbm = false := by assumption) (w_caches : q.keep .caches = false := by assumption) (w_mem : q.keep .mem = false := by assumption) : ∀ (s : State) (l : Nat), Good q s → Good q (Sys2Proof.Machine.State.settleEvictions s l r0) := by
  induction r0 with
  | zero =>
    intro s l h
    unfold Sys2Proof.Machine.State.settleEvictions
    repeat' first
      | with_reducible assumption
  | succ n ih =>
    intro s l h
    unfold Sys2Proof.Machine.State.settleEvictions
    repeat' first
      | with_reducible assumption
      | with_reducible apply goodO_next
      | intro _
      | with_reducible apply ih
      | with_reducible apply State_deliverOther_good
      | with_reducible apply State_homeEvict_good
      | with_reducible apply good_foldl
      | with_reducible apply good_foldl_fst
      | split
      | with_reducible refine good_fst (by assumption) ?_
      | with_reducible refine good_snd (by assumption) ?_
      | with_reducible refine good_snd2 (by assumption) ?_
      | dsimp only
      | with_reducible refine good_mk (t := _) ?_ rfl rfl rfl rfl rfl rfl rfl rfl

theorem State_victimRoom_good {q : Kept} {s : State} (core : Nat) (l : Nat) (h : Good q s) (w_regs : q.keep .regs = false := by assumption) (w_pages : q.keep .pages = false := by assumption) (w_msgs : q.keep .msgs = false := by assumption) (w_faultLog : q.keep .faultLog = false := by assumption) (w_hbm : q.keep .hbm = false := by assumption) (w_caches : q.keep .caches = false := by assumption) (w_mem : q.keep .mem = false := by assumption) : Good q (Sys2Proof.Machine.State.victimRoom s core l) := by
  unfold Sys2Proof.Machine.State.victimRoom
  repeat' first
    | with_reducible assumption
    | with_reducible apply goodO_next
    | intro _
    | with_reducible apply State_settleEvictions_good
    | with_reducible apply good_foldl
    | with_reducible apply good_foldl_fst
    | split

theorem State_coreFill_good {q : Kept} {s : State} (m : Flight) (h : Good q s) (w_regs : q.keep .regs = false := by assumption) (w_pages : q.keep .pages = false := by assumption) (w_msgs : q.keep .msgs = false := by assumption) (w_faultLog : q.keep .faultLog = false := by assumption) (w_hbm : q.keep .hbm = false := by assumption) (w_caches : q.keep .caches = false := by assumption) (w_mem : q.keep .mem = false := by assumption) (w_freeCtr : q.keep .freeCtr = false := by assumption) : Good q (Sys2Proof.Machine.State.coreFill s m) := by
  unfold Sys2Proof.Machine.State.coreFill
  repeat' first
    | with_reducible assumption
    | with_reducible apply goodO_next
    | intro _
    | with_reducible apply State_victimRoom_good
    | with_reducible apply State_install_good
    | with_reducible apply State_lineFault_good
    | with_reducible apply State_setCached_good
    | with_reducible apply State_drawFree_good
    | with_reducible apply good_foldl
    | with_reducible apply good_foldl_fst
    | split

theorem State_deliver_good {q : Kept} {s : State} (m : Flight) (h : Good q s) (w_regs : q.keep .regs = false := by assumption) (w_pages : q.keep .pages = false := by assumption) (w_msgs : q.keep .msgs = false := by assumption) (w_faultLog : q.keep .faultLog = false := by assumption) (w_hbm : q.keep .hbm = false := by assumption) (w_caches : q.keep .caches = false := by assumption) (w_mem : q.keep .mem = false := by assumption) (w_freeCtr : q.keep .freeCtr = false := by assumption) : Good q (Sys2Proof.Machine.State.deliver s m) := by
  unfold Sys2Proof.Machine.State.deliver
  repeat' first
    | with_reducible assumption
    | with_reducible apply goodO_next
    | intro _
    | with_reducible apply State_coreFill_good
    | with_reducible apply State_deliverOther_good
    | with_reducible apply State_nextTxn_good
    | with_reducible apply good_foldl
    | with_reducible apply good_foldl_fst
    | split

theorem State_arrive_good {q : Kept} {s : State} (k : Msg) (core : Nat) (l : Nat) (h : Good q s) (w_regs : q.keep .regs = false := by assumption) (w_pages : q.keep .pages = false := by assumption) (w_msgs : q.keep .msgs = false := by assumption) (w_faultLog : q.keep .faultLog = false := by assumption) (w_hbm : q.keep .hbm = false := by assumption) (w_caches : q.keep .caches = false := by assumption) (w_mem : q.keep .mem = false := by assumption) (w_freeCtr : q.keep .freeCtr = false := by assumption) : Good q (Sys2Proof.Machine.State.arrive s k core l) := by
  unfold Sys2Proof.Machine.State.arrive
  repeat' first
    | with_reducible assumption
    | with_reducible apply goodO_next
    | intro _
    | with_reducible apply State_deliver_good
    | with_reducible apply good_foldl
    | with_reducible apply good_foldl_fst
    | split
    | with_reducible refine good_fst (by assumption) ?_
    | with_reducible refine good_snd (by assumption) ?_
    | with_reducible refine good_snd2 (by assumption) ?_
    | dsimp only
    | with_reducible refine good_mk (t := _) ?_ rfl rfl rfl rfl rfl rfl rfl rfl

theorem State_settle_good {q : Kept} (r0 : Nat) (w_regs : q.keep .regs = false := by assumption) (w_pages : q.keep .pages = false := by assumption) (w_msgs : q.keep .msgs = false := by assumption) (w_faultLog : q.keep .faultLog = false := by assumption) (w_hbm : q.keep .hbm = false := by assumption) (w_caches : q.keep .caches = false := by assumption) (w_mem : q.keep .mem = false := by assumption) (w_freeCtr : q.keep .freeCtr = false := by assumption) : ∀ (s : State) (l : Nat), Good q s → Good q (Sys2Proof.Machine.State.settle s l r0) := by
  induction r0 with
  | zero =>
    intro s l h
    unfold Sys2Proof.Machine.State.settle
    repeat' first
      | with_reducible assumption
  | succ n ih =>
    intro s l h
    unfold Sys2Proof.Machine.State.settle
    repeat' first
      | with_reducible assumption
      | with_reducible apply goodO_next
      | intro _
      | with_reducible apply ih
      | with_reducible apply State_homeEvict_good
      | with_reducible apply State_deliver_good
      | with_reducible apply good_foldl
      | with_reducible apply good_foldl_fst
      | split
      | with_reducible refine good_fst (by assumption) ?_
      | with_reducible refine good_snd (by assumption) ?_
      | with_reducible refine good_snd2 (by assumption) ?_
      | dsimp only
      | with_reducible refine good_mk (t := _) ?_ rfl rfl rfl rfl rfl rfl rfl rfl

theorem State_settled_good {q : Kept} {s : State} (l : Nat) (h : Good q s) (w_regs : q.keep .regs = false := by assumption) (w_pages : q.keep .pages = false := by assumption) (w_msgs : q.keep .msgs = false := by assumption) (w_faultLog : q.keep .faultLog = false := by assumption) (w_hbm : q.keep .hbm = false := by assumption) (w_caches : q.keep .caches = false := by assumption) (w_mem : q.keep .mem = false := by assumption) (w_freeCtr : q.keep .freeCtr = false := by assumption) : Good q (Sys2Proof.Machine.State.settled s l) := by
  unfold Sys2Proof.Machine.State.settled
  repeat' first
    | with_reducible assumption
    | with_reducible apply goodO_next
    | intro _
    | with_reducible apply State_settle_good

theorem State_drainEvictions_good {q : Kept} {s : State} (core : Nat) (h : Good q s) (w_regs : q.keep .regs = false := by assumption) (w_pages : q.keep .pages = false := by assumption) (w_msgs : q.keep .msgs = false := by assumption) (w_faultLog : q.keep .faultLog = false := by assumption) (w_hbm : q.keep .hbm = false := by assumption) (w_caches : q.keep .caches = false := by assumption) (w_mem : q.keep .mem = false := by assumption) (w_freeCtr : q.keep .freeCtr = false := by assumption) : Good q (Sys2Proof.Machine.State.drainEvictions s core) := by
  unfold Sys2Proof.Machine.State.drainEvictions
  repeat' first
    | with_reducible assumption
    | with_reducible apply goodO_next
    | intro _
    | with_reducible apply State_settled_good
    | with_reducible apply good_foldl

theorem State_downgrade_good {q : Kept} {s : State} (l : Nat) (h : Good q s) (w_regs : q.keep .regs = false := by assumption) (w_pages : q.keep .pages = false := by assumption) (w_msgs : q.keep .msgs = false := by assumption) (w_faultLog : q.keep .faultLog = false := by assumption) (w_hbm : q.keep .hbm = false := by assumption) (w_caches : q.keep .caches = false := by assumption) (w_mem : q.keep .mem = false := by assumption) : Good q (Sys2Proof.Machine.State.downgrade s l).1 := by
  unfold Sys2Proof.Machine.State.downgrade
  repeat' first
    | with_reducible assumption
    | with_reducible apply goodO_next
    | intro _
    | with_reducible apply State_setDir_good
    | with_reducible apply State_writeBack_good
    | with_reducible apply State_readOut_good
    | with_reducible apply State_setCached_good
    | with_reducible apply State_add_good
    | with_reducible apply good_foldl
    | with_reducible apply good_foldl_fst
    | split
    | with_reducible refine good_fst (by assumption) ?_
    | with_reducible refine good_snd (by assumption) ?_
    | with_reducible refine good_snd2 (by assumption) ?_
    | dsimp only

theorem State_invalidate_good {q : Kept} {s : State} (l : Nat) (keep : Nat) (h : Good q s) (w_regs : q.keep .regs = false := by assumption) (w_pages : q.keep .pages = false := by assumption) (w_msgs : q.keep .msgs = false := by assumption) (w_faultLog : q.keep .faultLog = false := by assumption) (w_hbm : q.keep .hbm = false := by assumption) (w_caches : q.keep .caches = false := by assumption) (w_mem : q.keep .mem = false := by assumption) : Good q (Sys2Proof.Machine.State.invalidate s l keep).1 := by
  unfold Sys2Proof.Machine.State.invalidate
  repeat' first
    | with_reducible assumption
    | with_reducible apply goodO_next
    | intro _
    | with_reducible apply State_writeBack_good
    | with_reducible apply State_readOut_good
    | with_reducible apply State_setCached_good
    | with_reducible apply State_add_good
    | with_reducible apply good_foldl
    | with_reducible apply good_foldl_fst
    | split
    | with_reducible refine good_fst (by assumption) ?_
    | with_reducible refine good_snd (by assumption) ?_
    | with_reducible refine good_snd2 (by assumption) ?_
    | dsimp only

theorem State_homeFetch_good {q : Kept} {s : State} (agent : Nat) (fn : Nat) (core : Nat) (dom : Nat) (l : Nat) (h : Good q s) (w_regs : q.keep .regs = false := by assumption) (w_pages : q.keep .pages = false := by assumption) (w_msgs : q.keep .msgs = false := by assumption) (w_faultLog : q.keep .faultLog = false := by assumption) (w_hbm : q.keep .hbm = false := by assumption) (w_caches : q.keep .caches = false := by assumption) (w_mem : q.keep .mem = false := by assumption) : Good q (Sys2Proof.Machine.State.homeFetch s agent fn core dom l).1 := by
  unfold Sys2Proof.Machine.State.homeFetch
  repeat' first
    | with_reducible assumption
    | with_reducible apply goodO_next
    | intro _
    | with_reducible apply State_homeRead_good
    | with_reducible apply State_downgrade_good
    | with_reducible apply good_foldl
    | with_reducible apply good_foldl_fst
    | split
    | with_reducible refine good_fst (by assumption) ?_

theorem State_agentRead_good {q : Kept} {s : State} (agent : Nat) (fn : Nat) (core : Nat) (dom : Nat) (l : Nat) (h : Good q s) (w_regs : q.keep .regs = false := by assumption) (w_pages : q.keep .pages = false := by assumption) (w_msgs : q.keep .msgs = false := by assumption) (w_faultLog : q.keep .faultLog = false := by assumption) (w_hbm : q.keep .hbm = false := by assumption) (w_caches : q.keep .caches = false := by assumption) (w_mem : q.keep .mem = false := by assumption) (w_freeCtr : q.keep .freeCtr = false := by assumption) : Good q (Sys2Proof.Machine.State.agentRead s agent fn core dom l).1 := by
  unfold Sys2Proof.Machine.State.agentRead
  repeat' first
    | with_reducible assumption
    | with_reducible apply goodO_next
    | intro _
    | with_reducible apply State_homeFetch_good
    | with_reducible apply State_settled_good

theorem State_agentWrite_good {q : Kept} {s : State} (agent : Nat) (fn : Nat) (core : Nat) (dom : Nat) (l : Nat) (off : Nat) (bs : List Byte) (h : Good q s) (w_regs : q.keep .regs = false := by assumption) (w_pages : q.keep .pages = false := by assumption) (w_msgs : q.keep .msgs = false := by assumption) (w_faultLog : q.keep .faultLog = false := by assumption) (w_hbm : q.keep .hbm = false := by assumption) (w_caches : q.keep .caches = false := by assumption) (w_mem : q.keep .mem = false := by assumption) (w_freeCtr : q.keep .freeCtr = false := by assumption) : Good q (Sys2Proof.Machine.State.agentWrite s agent fn core dom l off bs).1 := by
  unfold Sys2Proof.Machine.State.agentWrite
  repeat' first
    | with_reducible assumption
    | with_reducible apply goodO_next
    | intro _
    | with_reducible apply State_invalidate_good
    | with_reducible apply State_settled_good
    | with_reducible apply State_setDir_good
    | with_reducible apply State_homeReadForMerge_good
    | with_reducible apply State_homeWrite_good
    | with_reducible apply good_foldl
    | with_reducible apply good_foldl_fst
    | split
    | with_reducible refine good_fst (by assumption) ?_
    | with_reducible refine good_snd (by assumption) ?_
    | with_reducible refine good_snd2 (by assumption) ?_
    | dsimp only

theorem State_cacheErr_good {q : Kept} {s : State} (core : Nat) (x : CacheLine) (off : Nat) (n : Nat) (who : Nat) (h : Good q s) (w_regs : q.keep .regs = false := by assumption) (w_pages : q.keep .pages = false := by assumption) (w_msgs : q.keep .msgs = false := by assumption) (w_faultLog : q.keep .faultLog = false := by assumption) : Good q (Sys2Proof.Machine.State.cacheErr s core x off n who).1 := by
  unfold Sys2Proof.Machine.State.cacheErr
  repeat' first
    | with_reducible assumption
    | with_reducible apply goodO_next
    | intro _
    | with_reducible apply State_lineFault_good
    | with_reducible apply State_raise_good
    | with_reducible apply good_foldl
    | with_reducible apply good_foldl_fst
    | split
    | with_reducible refine good_fst (by assumption) ?_
    | with_reducible refine good_snd (by assumption) ?_
    | with_reducible refine good_snd2 (by assumption) ?_
    | dsimp only

theorem State_cacheRead_good {q : Kept} {s : State} (core : Nat) (fn : Nat) (dom : Nat) (l : Nat) (off : Nat) (n : Nat) (who : Nat) (h : Good q s) (w_regs : q.keep .regs = false := by assumption) (w_pages : q.keep .pages = false := by assumption) (w_msgs : q.keep .msgs = false := by assumption) (w_faultLog : q.keep .faultLog = false := by assumption) (w_hbm : q.keep .hbm = false := by assumption) (w_caches : q.keep .caches = false := by assumption) (w_mem : q.keep .mem = false := by assumption) (w_freeCtr : q.keep .freeCtr = false := by assumption) : Good q (Sys2Proof.Machine.State.cacheRead s core fn dom l off n who).1 := by
  unfold Sys2Proof.Machine.State.cacheRead
  repeat' first
    | with_reducible assumption
    | with_reducible apply goodO_next
    | intro _
    | with_reducible apply State_cacheErr_good
    | with_reducible apply State_homeFetch_good
    | with_reducible apply State_drainEvictions_good
    | with_reducible apply State_settled_good
    | with_reducible apply State_install_good
    | with_reducible apply State_installDir_good
    | with_reducible apply State_setCached_good
    | with_reducible apply State_add_good
    | with_reducible apply good_foldl
    | with_reducible apply good_foldl_fst
    | split
    | with_reducible refine good_fst (by assumption) ?_
    | with_reducible refine good_snd (by assumption) ?_
    | with_reducible refine good_snd2 (by assumption) ?_
    | dsimp only

theorem State_ownLine_good {q : Kept} {s : State} (core : Nat) (fn : Nat) (dom : Nat) (l : Nat) (d : List Byte) (h : Good q s) (w_regs : q.keep .regs = false := by assumption) (w_pages : q.keep .pages = false := by assumption) (w_msgs : q.keep .msgs = false := by assumption) (w_faultLog : q.keep .faultLog = false := by assumption) (w_hbm : q.keep .hbm = false := by assumption) (w_caches : q.keep .caches = false := by assumption) (w_mem : q.keep .mem = false := by assumption) (w_freeCtr : q.keep .freeCtr = false := by assumption) : Good q (Sys2Proof.Machine.State.ownLine s core fn dom l d) := by
  unfold Sys2Proof.Machine.State.ownLine
  repeat' first
    | with_reducible assumption
    | with_reducible apply goodO_next
    | intro _
    | with_reducible apply State_drainEvictions_good
    | with_reducible apply State_install_good
    | with_reducible apply State_installDir_good

theorem State_writeErr_good {q : Kept} {s : State} (core : Nat) (x : CacheLine) (off : Nat) (bs : List Byte) (who : Nat) (h : Good q s) (w_regs : q.keep .regs = false := by assumption) (w_pages : q.keep .pages = false := by assumption) (w_msgs : q.keep .msgs = false := by assumption) (w_faultLog : q.keep .faultLog = false := by assumption) : Good q (Sys2Proof.Machine.State.writeErr s core x off bs who).1 := by
  unfold Sys2Proof.Machine.State.writeErr
  repeat' first
    | with_reducible assumption
    | with_reducible apply goodO_next
    | intro _
    | with_reducible apply State_lineFault_good
    | with_reducible apply State_raise_good
    | with_reducible apply State_cacheErr_good
    | with_reducible apply good_foldl
    | with_reducible apply good_foldl_fst
    | split
    | with_reducible apply good_ite

theorem State_cacheWrite_good {q : Kept} {s : State} (core : Nat) (fn : Nat) (dom : Nat) (l : Nat) (off : Nat) (who : Nat) (bs : List Byte) (h : Good q s) (w_regs : q.keep .regs = false := by assumption) (w_pages : q.keep .pages = false := by assumption) (w_msgs : q.keep .msgs = false := by assumption) (w_faultLog : q.keep .faultLog = false := by assumption) (w_hbm : q.keep .hbm = false := by assumption) (w_caches : q.keep .caches = false := by assumption) (w_mem : q.keep .mem = false := by assumption) (w_freeCtr : q.keep .freeCtr = false := by assumption) : Good q (Sys2Proof.Machine.State.cacheWrite s core fn dom l off who bs).1 := by
  unfold Sys2Proof.Machine.State.cacheWrite
  repeat' first
    | with_reducible assumption
    | with_reducible apply goodO_next
    | intro _
    | with_reducible apply State_writeErr_good
    | with_reducible apply State_ownLine_good
    | with_reducible apply State_invalidate_good
    | with_reducible apply State_settled_good
    | with_reducible apply State_setDir_good
    | with_reducible apply State_setCached_good
    | with_reducible apply State_homeReadForMerge_good
    | with_reducible apply State_add_good
    | with_reducible apply good_foldl
    | with_reducible apply good_foldl_fst
    | split
    | with_reducible refine good_fst (by assumption) ?_
    | with_reducible refine good_snd (by assumption) ?_
    | with_reducible refine good_snd2 (by assumption) ?_
    | dsimp only

theorem State_dropClaims_good {q : Kept} {s : State} (core : Nat) (p : Nat → Bool) (h : Good q s) (w_mem : q.keep .mem = false := by assumption) : Good q (Sys2Proof.Machine.State.dropClaims s core p) := by
  unfold Sys2Proof.Machine.State.dropClaims
  repeat' first
    | with_reducible assumption
    | with_reducible apply goodO_next
    | intro _
    | with_reducible apply good_foldl
    | with_reducible apply good_foldl_fst
    | split
    | with_reducible refine good_fst (by assumption) ?_
    | with_reducible refine good_snd (by assumption) ?_
    | with_reducible refine good_snd2 (by assumption) ?_
    | dsimp only
    | with_reducible refine good_mk (t := _) ?_ rfl rfl rfl rfl rfl rfl rfl rfl

theorem State_settleCore_good {q : Kept} {s : State} (core : Nat) (h : Good q s) (w_regs : q.keep .regs = false := by assumption) (w_pages : q.keep .pages = false := by assumption) (w_msgs : q.keep .msgs = false := by assumption) (w_faultLog : q.keep .faultLog = false := by assumption) (w_hbm : q.keep .hbm = false := by assumption) (w_caches : q.keep .caches = false := by assumption) (w_mem : q.keep .mem = false := by assumption) (w_freeCtr : q.keep .freeCtr = false := by assumption) : Good q (Sys2Proof.Machine.State.settleCore s core) := by
  unfold Sys2Proof.Machine.State.settleCore
  repeat' first
    | with_reducible assumption
    | with_reducible apply goodO_next
    | intro _
    | with_reducible apply State_settled_good
    | with_reducible apply good_foldl

theorem State_readLines_good {q : Kept} {s : State} (via : Via) (fn : Nat) (core : Nat) (dom : Nat) (who : Nat) (pa : Nat) (n : Nat) (h : Good q s) (w_regs : q.keep .regs = false := by assumption) (w_pages : q.keep .pages = false := by assumption) (w_msgs : q.keep .msgs = false := by assumption) (w_faultLog : q.keep .faultLog = false := by assumption) (w_hbm : q.keep .hbm = false := by assumption) (w_caches : q.keep .caches = false := by assumption) (w_mem : q.keep .mem = false := by assumption) (w_freeCtr : q.keep .freeCtr = false := by assumption) : Good q (Sys2Proof.Machine.State.readLines s via fn core dom who pa n).1 := by
  unfold Sys2Proof.Machine.State.readLines
  repeat' first
    | with_reducible assumption
    | with_reducible apply goodO_next
    | intro _
    | with_reducible apply State_cacheRead_good
    | with_reducible apply State_agentRead_good
    | with_reducible apply good_foldl
    | with_reducible apply good_foldl_fst
    | split

theorem State_writeLines_good {q : Kept} {s : State} (via : Via) (fn : Nat) (core : Nat) (dom : Nat) (who : Nat) (pa : Nat) (bs : List Byte) (h : Good q s) (w_regs : q.keep .regs = false := by assumption) (w_pages : q.keep .pages = false := by assumption) (w_msgs : q.keep .msgs = false := by assumption) (w_faultLog : q.keep .faultLog = false := by assumption) (w_hbm : q.keep .hbm = false := by assumption) (w_caches : q.keep .caches = false := by assumption) (w_mem : q.keep .mem = false := by assumption) (w_freeCtr : q.keep .freeCtr = false := by assumption) : Good q (Sys2Proof.Machine.State.writeLines s via fn core dom who pa bs).1 := by
  unfold Sys2Proof.Machine.State.writeLines
  repeat' first
    | with_reducible assumption
    | with_reducible apply goodO_next
    | intro _
    | with_reducible apply State_cacheWrite_good
    | with_reducible apply State_agentWrite_good
    | with_reducible apply good_foldl
    | with_reducible apply good_foldl_fst
    | split

theorem State_hbmRead_good {q : Kept} {s : State} (via : Via) (fn : Nat) (core : Nat) (who : Nat) (addr : Nat) (n : Nat) (h : Good q s) (w_regs : q.keep .regs = false := by assumption) (w_pages : q.keep .pages = false := by assumption) (w_msgs : q.keep .msgs = false := by assumption) (w_faultLog : q.keep .faultLog = false := by assumption) (w_hbm : q.keep .hbm = false := by assumption) (w_caches : q.keep .caches = false := by assumption) (w_mem : q.keep .mem = false := by assumption) (w_freeCtr : q.keep .freeCtr = false := by assumption) : Good q (Sys2Proof.Machine.State.hbmRead s via fn core who addr n).1 := by
  unfold Sys2Proof.Machine.State.hbmRead
  repeat' first
    | with_reducible assumption
    | with_reducible apply goodO_next
    | intro _
    | with_reducible apply State_readLines_good
    | with_reducible apply good_foldl
    | with_reducible apply good_foldl_fst
    | split

theorem State_hbmWrite_good {q : Kept} {s : State} (via : Via) (fn : Nat) (core : Nat) (who : Nat) (addr : Nat) (bs : List Byte) (h : Good q s) (w_regs : q.keep .regs = false := by assumption) (w_pages : q.keep .pages = false := by assumption) (w_msgs : q.keep .msgs = false := by assumption) (w_faultLog : q.keep .faultLog = false := by assumption) (w_hbm : q.keep .hbm = false := by assumption) (w_caches : q.keep .caches = false := by assumption) (w_mem : q.keep .mem = false := by assumption) (w_freeCtr : q.keep .freeCtr = false := by assumption) : Good q (Sys2Proof.Machine.State.hbmWrite s via fn core who addr bs).1 := by
  unfold Sys2Proof.Machine.State.hbmWrite
  repeat' first
    | with_reducible assumption
    | with_reducible apply goodO_next
    | intro _
    | with_reducible apply State_writeLines_good
    | with_reducible apply good_foldl
    | with_reducible apply good_foldl_fst
    | split

end Sys2Proof.Laws
end

