-- ==== Sys2Proof/Laws/KeepMemCmds.lean ====
section
/-!
SUPPORT. What the operations of Machine/MemCmds.lean keep.
-/

set_option Elab.async false

namespace Sys2Proof.Laws

open Sys2Proof.Machine

theorem execCntClr_good {q : Kept} (fn : Nat) (n : Nat) (k : Nat) {s : State} (h : Good q s) (w_regs : q.keep .regs = false := by assumption) (w_pages : q.keep .pages = false := by assumption) (w_msgs : q.keep .msgs = false := by assumption) (w_held : q.keep .held = false := by assumption) : GoodO q (Sys2Proof.Machine.execCntClr fn n k s) := by
  unfold Sys2Proof.Machine.execCntClr
  repeat' first
    | with_reducible assumption
    | with_reducible apply goodO_next
    | intro _
    | with_reducible apply command_good
    | with_reducible apply State_set_good

theorem execLcCntClr_good {q : Kept} (fn : Nat) (n : Nat) {s : State} (h : Good q s) (w_regs : q.keep .regs = false := by assumption) (w_pages : q.keep .pages = false := by assumption) (w_msgs : q.keep .msgs = false := by assumption) (w_held : q.keep .held = false := by assumption) : GoodO q (Sys2Proof.Machine.execLcCntClr fn n s) := by
  unfold Sys2Proof.Machine.execLcCntClr
  repeat' first
    | with_reducible assumption
    | with_reducible apply goodO_next
    | intro _
    | with_reducible apply command_good
    | with_reducible apply State_set_good

theorem State_lcRefused_good {q : Kept} {s : State} (fn : Nat) (n : Nat) (v : Nat) (h : Good q s) (w_regs : q.keep .regs = false := by assumption) (w_pages : q.keep .pages = false := by assumption) : Good q (Sys2Proof.Machine.State.lcRefused s fn n v) := by
  unfold Sys2Proof.Machine.State.lcRefused
  repeat' first
    | with_reducible assumption
    | with_reducible apply goodO_next
    | intro _
    | with_reducible apply State_refuseWrite_good
    | with_reducible apply State_set_good

theorem State_lcStart_good {q : Kept} {s : State} (fn : Nat) (n : Nat) (v : Nat) (inv : Bool) (h : Good q s) (w_regs : q.keep .regs = false := by assumption) (w_pages : q.keep .pages = false := by assumption) (w_mem : q.keep .mem = false := by assumption) : Good q (Sys2Proof.Machine.State.lcStart s fn n v inv) := by
  unfold Sys2Proof.Machine.State.lcStart
  repeat' first
    | with_reducible assumption
    | with_reducible apply goodO_next
    | intro _
    | with_reducible apply State_lcRefused_good
    | with_reducible apply State_flag_good
    | with_reducible apply good_foldl
    | with_reducible apply good_foldl_fst
    | split
    | with_reducible refine good_fst (by assumption) ?_
    | with_reducible refine good_snd (by assumption) ?_
    | with_reducible refine good_snd2 (by assumption) ?_
    | dsimp only
    | with_reducible refine good_mk (t := _) ?_ rfl rfl rfl rfl rfl rfl rfl rfl

theorem execLcFlush_good {q : Kept} (fn : Nat) (n : Nat) {s : State} (h : Good q s) (w_regs : q.keep .regs = false := by assumption) (w_pages : q.keep .pages = false := by assumption) (w_msgs : q.keep .msgs = false := by assumption) (w_mem : q.keep .mem = false := by assumption) (w_held : q.keep .held = false := by assumption) : GoodO q (Sys2Proof.Machine.execLcFlush fn n s) := by
  unfold Sys2Proof.Machine.execLcFlush
  repeat' first
    | with_reducible assumption
    | with_reducible apply goodO_next
    | intro _
    | with_reducible apply command_good
    | with_reducible apply State_lcStart_good

theorem execLcFlushInv_good {q : Kept} (fn : Nat) (n : Nat) {s : State} (h : Good q s) (w_regs : q.keep .regs = false := by assumption) (w_pages : q.keep .pages = false := by assumption) (w_msgs : q.keep .msgs = false := by assumption) (w_mem : q.keep .mem = false := by assumption) (w_held : q.keep .held = false := by assumption) : GoodO q (Sys2Proof.Machine.execLcFlushInv fn n s) := by
  unfold Sys2Proof.Machine.execLcFlushInv
  repeat' first
    | with_reducible assumption
    | with_reducible apply goodO_next
    | intro _
    | with_reducible apply command_good
    | with_reducible apply State_lcStart_good

theorem State_flushLine_good {q : Kept} {s : State} (core : Nat) (l : Nat) (inv : Bool) (h : Good q s) (w_regs : q.keep .regs = false := by assumption) (w_pages : q.keep .pages = false := by assumption) (w_msgs : q.keep .msgs = false := by assumption) (w_faultLog : q.keep .faultLog = false := by assumption) (w_hbm : q.keep .hbm = false := by assumption) (w_caches : q.keep .caches = false := by assumption) (w_mem : q.keep .mem = false := by assumption) (w_freeCtr : q.keep .freeCtr = false := by assumption) : Good q (Sys2Proof.Machine.State.flushLine s core l inv) := by
  unfold Sys2Proof.Machine.State.flushLine
  repeat' first
    | with_reducible assumption
    | with_reducible apply goodO_next
    | intro _
    | with_reducible apply State_settled_good
    | with_reducible apply State_setDir_good
    | with_reducible apply State_writeBack_good
    | with_reducible apply State_readOut_good
    | with_reducible apply State_setCached_good
    | with_reducible apply State_add_good
    | with_reducible apply good_foldl
    | with_reducible apply good_foldl_fst
    | split
    | with_reducible refine good_fst (by assumption) ?_
    | with_reducible refine good_snd (by assumption) ?_
    | with_reducible refine good_snd2 (by assumption) ?_
    | dsimp only

theorem State_flushInvAll_good {q : Kept} {s : State} (core : Nat) (h : Good q s) (w_regs : q.keep .regs = false := by assumption) (w_pages : q.keep .pages = false := by assumption) (w_msgs : q.keep .msgs = false := by assumption) (w_faultLog : q.keep .faultLog = false := by assumption) (w_hbm : q.keep .hbm = false := by assumption) (w_caches : q.keep .caches = false := by assumption) (w_mem : q.keep .mem = false := by assumption) (w_freeCtr : q.keep .freeCtr = false := by assumption) : Good q (Sys2Proof.Machine.State.flushInvAll s core) := by
  unfold Sys2Proof.Machine.State.flushInvAll
  repeat' first
    | with_reducible assumption
    | with_reducible apply goodO_next
    | intro _
    | with_reducible apply State_flushLine_good
    | with_reducible apply State_drainEvictions_good
    | with_reducible apply good_foldl

theorem State_emptyCache_good {q : Kept} {s : State} (core : Nat) (h : Good q s) (w_regs : q.keep .regs = false := by assumption) (w_pages : q.keep .pages = false := by assumption) (w_msgs : q.keep .msgs = false := by assumption) (w_faultLog : q.keep .faultLog = false := by assumption) (w_hbm : q.keep .hbm = false := by assumption) (w_caches : q.keep .caches = false := by assumption) (w_mem : q.keep .mem = false := by assumption) (w_freeCtr : q.keep .freeCtr = false := by assumption) : Good q (Sys2Proof.Machine.State.emptyCache s core) := by
  unfold Sys2Proof.Machine.State.emptyCache
  repeat' first
    | with_reducible assumption
    | with_reducible apply goodO_next
    | intro _
    | with_reducible apply State_flushInvAll_good
    | with_reducible apply State_settleCore_good
    | with_reducible apply State_dropClaims_good

theorem State_grantFlush_good {q : Kept} {s : State} (core : Nat) (h : Good q s) (w_regs : q.keep .regs = false := by assumption) (w_pages : q.keep .pages = false := by assumption) (w_msgs : q.keep .msgs = false := by assumption) (w_faultLog : q.keep .faultLog = false := by assumption) (w_hbm : q.keep .hbm = false := by assumption) (w_caches : q.keep .caches = false := by assumption) (w_mem : q.keep .mem = false := by assumption) (w_freeCtr : q.keep .freeCtr = false := by assumption) : Good q (Sys2Proof.Machine.State.grantFlush s core) := by
  unfold Sys2Proof.Machine.State.grantFlush
  repeat' first
    | with_reducible assumption
    | with_reducible apply goodO_next
    | intro _
    | with_reducible apply State_flushInvAll_good
    | with_reducible apply State_settleCore_good
    | with_reducible apply State_raise_good
    | with_reducible apply State_set_good

theorem execLcCmdDone_good {q : Kept} (n : Nat) {s : State} (h : Good q s) (w_regs : q.keep .regs = false := by assumption) (w_pages : q.keep .pages = false := by assumption) (w_msgs : q.keep .msgs = false := by assumption) (w_faultLog : q.keep .faultLog = false := by assumption) (w_hbm : q.keep .hbm = false := by assumption) (w_caches : q.keep .caches = false := by assumption) (w_mem : q.keep .mem = false := by assumption) (w_freeCtr : q.keep .freeCtr = false := by assumption) : GoodO q (Sys2Proof.Machine.execLcCmdDone n s) := by
  unfold Sys2Proof.Machine.execLcCmdDone
  repeat' first
    | with_reducible assumption
    | with_reducible apply goodO_next
    | intro _
    | with_reducible apply State_flushInvAll_good
    | with_reducible apply State_flushLine_good
    | with_reducible apply event_good
    | with_reducible apply State_raise_good
    | with_reducible apply State_flag_good
    | with_reducible apply State_set_good
    | with_reducible apply good_foldl
    | with_reducible apply good_foldl_fst
    | split
    | with_reducible refine good_fst (by assumption) ?_
    | with_reducible refine good_snd (by assumption) ?_
    | with_reducible refine good_snd2 (by assumption) ?_
    | dsimp only
    | with_reducible refine good_mk (t := _) ?_ rfl rfl rfl rfl rfl rfl rfl rfl

theorem State_segRefused_good {q : Kept} {s : State} (fn : Nat) (f : Nat) (x : Nat) (v : Nat) (h : Good q s) (w_regs : q.keep .regs = false := by assumption) (w_pages : q.keep .pages = false := by assumption) : Good q (Sys2Proof.Machine.State.segRefused s fn f x v) := by
  unfold Sys2Proof.Machine.State.segRefused
  repeat' first
    | with_reducible assumption
    | with_reducible apply goodO_next
    | intro _
    | with_reducible apply State_set_good
    | with_reducible apply State_refuseWrite_good

theorem execSegValidSet_good {q : Kept} (fn : Nat) (f : Nat) (x : Nat) (v : Nat) {s : State} (h : Good q s) (w_regs : q.keep .regs = false := by assumption) (w_pages : q.keep .pages = false := by assumption) (w_msgs : q.keep .msgs = false := by assumption) : GoodO q (Sys2Proof.Machine.execSegValidSet fn f x v s) := by
  unfold Sys2Proof.Machine.execSegValidSet
  repeat' first
    | with_reducible assumption
    | with_reducible apply goodO_next
    | intro _
    | with_reducible apply State_set_good
    | with_reducible apply State_flag_good
    | with_reducible apply mmio_good
    | with_reducible apply State_segRefused_good
    | with_reducible apply good_foldl
    | with_reducible apply good_foldl_fst
    | split

theorem execSegValidClear_good {q : Kept} (fn : Nat) (f : Nat) (x : Nat) (v : Nat) {s : State} (h : Good q s) (w_regs : q.keep .regs = false := by assumption) (w_pages : q.keep .pages = false := by assumption) (w_msgs : q.keep .msgs = false := by assumption) (w_mem : q.keep .mem = false := by assumption) : GoodO q (Sys2Proof.Machine.execSegValidClear fn f x v s) := by
  unfold Sys2Proof.Machine.execSegValidClear
  repeat' first
    | with_reducible assumption
    | with_reducible apply goodO_next
    | intro _
    | with_reducible apply State_set_good
    | with_reducible apply State_flag_good
    | with_reducible apply mmio_good
    | with_reducible apply State_segRefused_good
    | with_reducible apply good_foldl
    | with_reducible apply good_foldl_fst
    | split
    | with_reducible refine good_fst (by assumption) ?_
    | with_reducible refine good_snd (by assumption) ?_
    | with_reducible refine good_snd2 (by assumption) ?_
    | dsimp only
    | with_reducible refine good_mk (t := _) ?_ rfl rfl rfl rfl rfl rfl rfl rfl

theorem State_flushRange_good {q : Kept} {s : State} (pbase : Nat) (len : Nat) (h : Good q s) (w_regs : q.keep .regs = false := by assumption) (w_pages : q.keep .pages = false := by assumption) (w_msgs : q.keep .msgs = false := by assumption) (w_faultLog : q.keep .faultLog = false := by assumption) (w_hbm : q.keep .hbm = false := by assumption) (w_caches : q.keep .caches = false := by assumption) (w_mem : q.keep .mem = false := by assumption) (w_freeCtr : q.keep .freeCtr = false := by assumption) : Good q (Sys2Proof.Machine.State.flushRange s pbase len) := by
  unfold Sys2Proof.Machine.State.flushRange
  repeat' first
    | with_reducible assumption
    | with_reducible apply goodO_next
    | intro _
    | with_reducible apply State_flushLine_good
    | with_reducible apply State_drainEvictions_good
    | with_reducible apply State_settled_good
    | with_reducible apply good_foldl

theorem execSegDone_good {q : Kept} (f : Nat) {s : State} (h : Good q s) (w_regs : q.keep .regs = false := by assumption) (w_pages : q.keep .pages = false := by assumption) (w_msgs : q.keep .msgs = false := by assumption) (w_faultLog : q.keep .faultLog = false := by assumption) (w_hbm : q.keep .hbm = false := by assumption) (w_caches : q.keep .caches = false := by assumption) (w_mem : q.keep .mem = false := by assumption) (w_freeCtr : q.keep .freeCtr = false := by assumption) : GoodO q (Sys2Proof.Machine.execSegDone f s) := by
  unfold Sys2Proof.Machine.execSegDone
  repeat' first
    | with_reducible assumption
    | with_reducible apply goodO_next
    | intro _
    | with_reducible apply State_flushRange_good
    | with_reducible apply event_good
    | with_reducible apply State_raise_good
    | with_reducible apply State_flag_good
    | with_reducible apply good_foldl
    | with_reducible apply good_foldl_fst
    | split
    | with_reducible refine good_fst (by assumption) ?_
    | with_reducible refine good_snd (by assumption) ?_
    | with_reducible refine good_snd2 (by assumption) ?_
    | dsimp only
    | with_reducible refine good_mk (t := _) ?_ rfl rfl rfl rfl rfl rfl rfl rfl

theorem State_requestFrom_good {q : Kept} {s : State} (c : Instr) (req : Req) (core : Nat) (addr : Nat) (bytes : List Byte) (h : Good q s) (w_regs : q.keep .regs = false := by assumption) (w_pages : q.keep .pages = false := by assumption) (w_msgs : q.keep .msgs = false := by assumption) (w_faultLog : q.keep .faultLog = false := by assumption) (w_hbm : q.keep .hbm = false := by assumption) (w_caches : q.keep .caches = false := by assumption) (w_mem : q.keep .mem = false := by assumption) (w_held : q.keep .held = false := by assumption) : GoodO q (Sys2Proof.Machine.State.requestFrom s c req core addr bytes) := by
  unfold Sys2Proof.Machine.State.requestFrom
  repeat' first
    | with_reducible assumption
    | with_reducible apply goodO_next
    | intro _
    | with_reducible apply State_request_good
    | with_reducible apply State_hold_good
    | with_reducible apply State_add_good
    | with_reducible apply good_foldl
    | with_reducible apply good_foldl_fst
    | split
    | with_reducible refine good_fst (by assumption) ?_
    | with_reducible refine good_snd (by assumption) ?_
    | with_reducible refine good_snd2 (by assumption) ?_
    | dsimp only

theorem execRdS_good {q : Kept} (core : Nat) (addr : Nat) {s : State} (h : Good q s) (w_regs : q.keep .regs = false := by assumption) (w_pages : q.keep .pages = false := by assumption) (w_msgs : q.keep .msgs = false := by assumption) (w_faultLog : q.keep .faultLog = false := by assumption) (w_hbm : q.keep .hbm = false := by assumption) (w_caches : q.keep .caches = false := by assumption) (w_mem : q.keep .mem = false := by assumption) (w_held : q.keep .held = false := by assumption) : GoodO q (Sys2Proof.Machine.execRdS core addr s) := by
  unfold Sys2Proof.Machine.execRdS
  repeat' first
    | with_reducible assumption
    | with_reducible apply goodO_next
    | intro _
    | with_reducible apply State_requestFrom_good

theorem execRdM_good {q : Kept} (core : Nat) (addr : Nat) (bytes : List Byte) {s : State} (h : Good q s) (w_regs : q.keep .regs = false := by assumption) (w_pages : q.keep .pages = false := by assumption) (w_msgs : q.keep .msgs = false := by assumption) (w_faultLog : q.keep .faultLog = false := by assumption) (w_hbm : q.keep .hbm = false := by assumption) (w_caches : q.keep .caches = false := by assumption) (w_mem : q.keep .mem = false := by assumption) (w_held : q.keep .held = false := by assumption) : GoodO q (Sys2Proof.Machine.execRdM core addr bytes s) := by
  unfold Sys2Proof.Machine.execRdM
  repeat' first
    | with_reducible assumption
    | with_reducible apply goodO_next
    | intro _
    | with_reducible apply State_requestFrom_good

theorem execClaim_good {q : Kept} (core : Nat) (addr : Nat) (bytes : List Byte) {s : State} (h : Good q s) (w_regs : q.keep .regs = false := by assumption) (w_pages : q.keep .pages = false := by assumption) (w_msgs : q.keep .msgs = false := by assumption) (w_faultLog : q.keep .faultLog = false := by assumption) (w_hbm : q.keep .hbm = false := by assumption) (w_caches : q.keep .caches = false := by assumption) (w_mem : q.keep .mem = false := by assumption) (w_held : q.keep .held = false := by assumption) : GoodO q (Sys2Proof.Machine.execClaim core addr bytes s) := by
  unfold Sys2Proof.Machine.execClaim
  repeat' first
    | with_reducible assumption
    | with_reducible apply goodO_next
    | intro _
    | with_reducible apply State_requestFrom_good
    | with_reducible apply good_foldl
    | with_reducible apply good_foldl_fst
    | split

theorem execUpg_good {q : Kept} (core : Nat) (addr : Nat) (bytes : List Byte) {s : State} (h : Good q s) (w_regs : q.keep .regs = false := by assumption) (w_pages : q.keep .pages = false := by assumption) (w_msgs : q.keep .msgs = false := by assumption) (w_faultLog : q.keep .faultLog = false := by assumption) (w_hbm : q.keep .hbm = false := by assumption) (w_caches : q.keep .caches = false := by assumption) (w_mem : q.keep .mem = false := by assumption) (w_held : q.keep .held = false := by assumption) : GoodO q (Sys2Proof.Machine.execUpg core addr bytes s) := by
  unfold Sys2Proof.Machine.execUpg
  repeat' first
    | with_reducible assumption
    | with_reducible apply goodO_next
    | intro _
    | with_reducible apply State_requestFrom_good

theorem State_evict_good {q : Kept} {s : State} (core : Nat) (l : Nat) (owned : Bool) (h : Good q s) (w_regs : q.keep .regs = false := by assumption) (w_pages : q.keep .pages = false := by assumption) (w_msgs : q.keep .msgs = false := by assumption) (w_faultLog : q.keep .faultLog = false := by assumption) (w_caches : q.keep .caches = false := by assumption) : Good q (Sys2Proof.Machine.State.evict s core l owned) := by
  unfold Sys2Proof.Machine.State.evict
  repeat' first
    | with_reducible assumption
    | with_reducible apply goodO_next
    | intro _
    | with_reducible apply State_toBuffer_good
    | with_reducible apply State_readOut_good
    | with_reducible apply good_foldl
    | with_reducible apply good_foldl_fst
    | split

theorem evictArrives_good {q : Kept} (core : Nat) (l : Nat) (owned : Bool) {s : State} (h : Good q s) (w_regs : q.keep .regs = false := by assumption) (w_pages : q.keep .pages = false := by assumption) (w_msgs : q.keep .msgs = false := by assumption) (w_faultLog : q.keep .faultLog = false := by assumption) (w_hbm : q.keep .hbm = false := by assumption) (w_caches : q.keep .caches = false := by assumption) (w_mem : q.keep .mem = false := by assumption) : GoodO q (Sys2Proof.Machine.evictArrives core l owned s) := by
  unfold Sys2Proof.Machine.evictArrives
  repeat' first
    | with_reducible assumption
    | with_reducible apply goodO_next
    | intro _
    | with_reducible apply event_good
    | with_reducible apply State_homeEvict_good
    | with_reducible apply State_evict_good
    | with_reducible apply good_foldl
    | with_reducible apply good_foldl_fst
    | split
    | with_reducible refine good_fst (by assumption) ?_
    | with_reducible refine good_snd (by assumption) ?_
    | with_reducible refine good_snd2 (by assumption) ?_
    | dsimp only

theorem execEvictS_good {q : Kept} (core : Nat) (l : Nat) {s : State} (h : Good q s) (w_regs : q.keep .regs = false := by assumption) (w_pages : q.keep .pages = false := by assumption) (w_msgs : q.keep .msgs = false := by assumption) (w_faultLog : q.keep .faultLog = false := by assumption) (w_hbm : q.keep .hbm = false := by assumption) (w_caches : q.keep .caches = false := by assumption) (w_mem : q.keep .mem = false := by assumption) : GoodO q (Sys2Proof.Machine.execEvictS core l s) := by
  unfold Sys2Proof.Machine.execEvictS
  repeat' first
    | with_reducible assumption
    | with_reducible apply goodO_next
    | intro _
    | with_reducible apply evictArrives_good

theorem execEvictM_good {q : Kept} (core : Nat) (l : Nat) {s : State} (h : Good q s) (w_regs : q.keep .regs = false := by assumption) (w_pages : q.keep .pages = false := by assumption) (w_msgs : q.keep .msgs = false := by assumption) (w_faultLog : q.keep .faultLog = false := by assumption) (w_hbm : q.keep .hbm = false := by assumption) (w_caches : q.keep .caches = false := by assumption) (w_mem : q.keep .mem = false := by assumption) : GoodO q (Sys2Proof.Machine.execEvictM core l s) := by
  unfold Sys2Proof.Machine.execEvictM
  repeat' first
    | with_reducible assumption
    | with_reducible apply goodO_next
    | intro _
    | with_reducible apply evictArrives_good

theorem arrivesAtCore_good {q : Kept} (k : Msg) (c : Instr) (core : Nat) (l : Nat) {s : State} (h : Good q s) (w_regs : q.keep .regs = false := by assumption) (w_pages : q.keep .pages = false := by assumption) (w_msgs : q.keep .msgs = false := by assumption) (w_faultLog : q.keep .faultLog = false := by assumption) (w_hbm : q.keep .hbm = false := by assumption) (w_caches : q.keep .caches = false := by assumption) (w_mem : q.keep .mem = false := by assumption) (w_freeCtr : q.keep .freeCtr = false := by assumption) (w_held : q.keep .held = false := by assumption) : GoodO q (Sys2Proof.Machine.arrivesAtCore k c core l s) := by
  unfold Sys2Proof.Machine.arrivesAtCore
  repeat' first
    | with_reducible assumption
    | with_reducible apply goodO_next
    | intro _
    | with_reducible apply State_arrive_good
    | with_reducible apply State_hold_good
    | with_reducible apply good_foldl
    | with_reducible apply good_foldl_fst
    | split

theorem fillsCore_good {q : Kept} (k : Msg) (c : Instr) (core : Nat) (l : Nat) {s : State} (h : Good q s) (w_regs : q.keep .regs = false := by assumption) (w_pages : q.keep .pages = false := by assumption) (w_msgs : q.keep .msgs = false := by assumption) (w_faultLog : q.keep .faultLog = false := by assumption) (w_hbm : q.keep .hbm = false := by assumption) (w_caches : q.keep .caches = false := by assumption) (w_mem : q.keep .mem = false := by assumption) (w_freeCtr : q.keep .freeCtr = false := by assumption) (w_held : q.keep .held = false := by assumption) : GoodO q (Sys2Proof.Machine.fillsCore k c core l s) := by
  unfold Sys2Proof.Machine.fillsCore
  repeat' first
    | with_reducible assumption
    | with_reducible apply goodO_next
    | intro _
    | with_reducible apply arrivesAtCore_good
    | with_reducible apply State_hold_good
    | with_reducible apply good_foldl
    | with_reducible apply good_foldl_fst
    | split

theorem execDataS_good {q : Kept} (core : Nat) (l : Nat) {s : State} (h : Good q s) (w_regs : q.keep .regs = false := by assumption) (w_pages : q.keep .pages = false := by assumption) (w_msgs : q.keep .msgs = false := by assumption) (w_faultLog : q.keep .faultLog = false := by assumption) (w_hbm : q.keep .hbm = false := by assumption) (w_caches : q.keep .caches = false := by assumption) (w_mem : q.keep .mem = false := by assumption) (w_freeCtr : q.keep .freeCtr = false := by assumption) (w_held : q.keep .held = false := by assumption) : GoodO q (Sys2Proof.Machine.execDataS core l s) := by
  unfold Sys2Proof.Machine.execDataS
  repeat' first
    | with_reducible assumption
    | with_reducible apply goodO_next
    | intro _
    | with_reducible apply fillsCore_good

theorem execDataM_good {q : Kept} (core : Nat) (l : Nat) {s : State} (h : Good q s) (w_regs : q.keep .regs = false := by assumption) (w_pages : q.keep .pages = false := by assumption) (w_msgs : q.keep .msgs = false := by assumption) (w_faultLog : q.keep .faultLog = false := by assumption) (w_hbm : q.keep .hbm = false := by assumption) (w_caches : q.keep .caches = false := by assumption) (w_mem : q.keep .mem = false := by assumption) (w_freeCtr : q.keep .freeCtr = false := by assumption) (w_held : q.keep .held = false := by assumption) : GoodO q (Sys2Proof.Machine.execDataM core l s) := by
  unfold Sys2Proof.Machine.execDataM
  repeat' first
    | with_reducible assumption
    | with_reducible apply goodO_next
    | intro _
    | with_reducible apply fillsCore_good

theorem execGrant_good {q : Kept} (core : Nat) (l : Nat) {s : State} (h : Good q s) (w_regs : q.keep .regs = false := by assumption) (w_pages : q.keep .pages = false := by assumption) (w_msgs : q.keep .msgs = false := by assumption) (w_faultLog : q.keep .faultLog = false := by assumption) (w_hbm : q.keep .hbm = false := by assumption) (w_caches : q.keep .caches = false := by assumption) (w_mem : q.keep .mem = false := by assumption) (w_freeCtr : q.keep .freeCtr = false := by assumption) (w_held : q.keep .held = false := by assumption) : GoodO q (Sys2Proof.Machine.execGrant core l s) := by
  unfold Sys2Proof.Machine.execGrant
  repeat' first
    | with_reducible assumption
    | with_reducible apply goodO_next
    | intro _
    | with_reducible apply fillsCore_good

theorem execEvictAck_good {q : Kept} (core : Nat) (l : Nat) {s : State} (h : Good q s) (w_regs : q.keep .regs = false := by assumption) (w_pages : q.keep .pages = false := by assumption) (w_msgs : q.keep .msgs = false := by assumption) (w_faultLog : q.keep .faultLog = false := by assumption) (w_hbm : q.keep .hbm = false := by assumption) (w_caches : q.keep .caches = false := by assumption) (w_mem : q.keep .mem = false := by assumption) (w_freeCtr : q.keep .freeCtr = false := by assumption) (w_held : q.keep .held = false := by assumption) : GoodO q (Sys2Proof.Machine.execEvictAck core l s) := by
  unfold Sys2Proof.Machine.execEvictAck
  repeat' first
    | with_reducible assumption
    | with_reducible apply goodO_next
    | intro _
    | with_reducible apply arrivesAtCore_good

theorem execSnpInv_good {q : Kept} (core : Nat) (l : Nat) {s : State} (h : Good q s) (w_regs : q.keep .regs = false := by assumption) (w_pages : q.keep .pages = false := by assumption) (w_msgs : q.keep .msgs = false := by assumption) (w_faultLog : q.keep .faultLog = false := by assumption) (w_hbm : q.keep .hbm = false := by assumption) (w_caches : q.keep .caches = false := by assumption) (w_mem : q.keep .mem = false := by assumption) (w_freeCtr : q.keep .freeCtr = false := by assumption) (w_held : q.keep .held = false := by assumption) : GoodO q (Sys2Proof.Machine.execSnpInv core l s) := by
  unfold Sys2Proof.Machine.execSnpInv
  repeat' first
    | with_reducible assumption
    | with_reducible apply goodO_next
    | intro _
    | with_reducible apply arrivesAtCore_good

theorem execSnpShr_good {q : Kept} (core : Nat) (l : Nat) {s : State} (h : Good q s) (w_regs : q.keep .regs = false := by assumption) (w_pages : q.keep .pages = false := by assumption) (w_msgs : q.keep .msgs = false := by assumption) (w_faultLog : q.keep .faultLog = false := by assumption) (w_hbm : q.keep .hbm = false := by assumption) (w_caches : q.keep .caches = false := by assumption) (w_mem : q.keep .mem = false := by assumption) (w_freeCtr : q.keep .freeCtr = false := by assumption) (w_held : q.keep .held = false := by assumption) : GoodO q (Sys2Proof.Machine.execSnpShr core l s) := by
  unfold Sys2Proof.Machine.execSnpShr
  repeat' first
    | with_reducible assumption
    | with_reducible apply goodO_next
    | intro _
    | with_reducible apply arrivesAtCore_good

theorem execAck_good {q : Kept} (core : Nat) (l : Nat) {s : State} (h : Good q s) (w_regs : q.keep .regs = false := by assumption) (w_pages : q.keep .pages = false := by assumption) (w_msgs : q.keep .msgs = false := by assumption) (w_faultLog : q.keep .faultLog = false := by assumption) (w_hbm : q.keep .hbm = false := by assumption) (w_caches : q.keep .caches = false := by assumption) (w_mem : q.keep .mem = false := by assumption) (w_freeCtr : q.keep .freeCtr = false := by assumption) : GoodO q (Sys2Proof.Machine.execAck core l s) := by
  unfold Sys2Proof.Machine.execAck
  repeat' first
    | with_reducible assumption
    | with_reducible apply goodO_next
    | intro _
    | with_reducible apply State_arrive_good
    | with_reducible apply event_good

theorem execData_good {q : Kept} (core : Nat) (l : Nat) {s : State} (h : Good q s) (w_regs : q.keep .regs = false := by assumption) (w_pages : q.keep .pages = false := by assumption) (w_msgs : q.keep .msgs = false := by assumption) (w_faultLog : q.keep .faultLog = false := by assumption) (w_hbm : q.keep .hbm = false := by assumption) (w_caches : q.keep .caches = false := by assumption) (w_mem : q.keep .mem = false := by assumption) (w_freeCtr : q.keep .freeCtr = false := by assumption) : GoodO q (Sys2Proof.Machine.execData core l s) := by
  unfold Sys2Proof.Machine.execData
  repeat' first
    | with_reducible assumption
    | with_reducible apply goodO_next
    | intro _
    | with_reducible apply State_arrive_good
    | with_reducible apply event_good

theorem execNotHeld_good {q : Kept} (core : Nat) (l : Nat) {s : State} (h : Good q s) (w_regs : q.keep .regs = false := by assumption) (w_pages : q.keep .pages = false := by assumption) (w_msgs : q.keep .msgs = false := by assumption) (w_faultLog : q.keep .faultLog = false := by assumption) (w_hbm : q.keep .hbm = false := by assumption) (w_caches : q.keep .caches = false := by assumption) (w_mem : q.keep .mem = false := by assumption) (w_freeCtr : q.keep .freeCtr = false := by assumption) : GoodO q (Sys2Proof.Machine.execNotHeld core l s) := by
  unfold Sys2Proof.Machine.execNotHeld
  repeat' first
    | with_reducible assumption
    | with_reducible apply goodO_next
    | intro _
    | with_reducible apply State_arrive_good
    | with_reducible apply event_good

theorem execNotHeldEvicting_good {q : Kept} (core : Nat) (l : Nat) {s : State} (h : Good q s) (w_regs : q.keep .regs = false := by assumption) (w_pages : q.keep .pages = false := by assumption) (w_msgs : q.keep .msgs = false := by assumption) (w_faultLog : q.keep .faultLog = false := by assumption) (w_hbm : q.keep .hbm = false := by assumption) (w_caches : q.keep .caches = false := by assumption) (w_mem : q.keep .mem = false := by assumption) (w_freeCtr : q.keep .freeCtr = false := by assumption) : GoodO q (Sys2Proof.Machine.execNotHeldEvicting core l s) := by
  unfold Sys2Proof.Machine.execNotHeldEvicting
  repeat' first
    | with_reducible assumption
    | with_reducible apply goodO_next
    | intro _
    | with_reducible apply State_arrive_good
    | with_reducible apply event_good

theorem execHomeAgentRead_good {q : Kept} (agent : Nat) (fn : Nat) (core : Nat) (addr : Nat) {s : State} (h : Good q s) (w_regs : q.keep .regs = false := by assumption) (w_pages : q.keep .pages = false := by assumption) (w_msgs : q.keep .msgs = false := by assumption) (w_faultLog : q.keep .faultLog = false := by assumption) (w_hbm : q.keep .hbm = false := by assumption) (w_caches : q.keep .caches = false := by assumption) (w_mem : q.keep .mem = false := by assumption) (w_freeCtr : q.keep .freeCtr = false := by assumption) (w_held : q.keep .held = false := by assumption) : GoodO q (Sys2Proof.Machine.execHomeAgentRead agent fn core addr s) := by
  unfold Sys2Proof.Machine.execHomeAgentRead
  repeat' first
    | with_reducible assumption
    | with_reducible apply goodO_next
    | intro _
    | with_reducible apply State_agentRead_good
    | with_reducible apply State_hold_good
    | with_reducible apply good_foldl
    | with_reducible apply good_foldl_fst
    | split

theorem execHomeAgentWrite_good {q : Kept} (agent : Nat) (fn : Nat) (core : Nat) (addr : Nat) (bytes : List Byte) {s : State} (h : Good q s) (w_regs : q.keep .regs = false := by assumption) (w_pages : q.keep .pages = false := by assumption) (w_msgs : q.keep .msgs = false := by assumption) (w_faultLog : q.keep .faultLog = false := by assumption) (w_hbm : q.keep .hbm = false := by assumption) (w_caches : q.keep .caches = false := by assumption) (w_mem : q.keep .mem = false := by assumption) (w_freeCtr : q.keep .freeCtr = false := by assumption) (w_held : q.keep .held = false := by assumption) : GoodO q (Sys2Proof.Machine.execHomeAgentWrite agent fn core addr bytes s) := by
  unfold Sys2Proof.Machine.execHomeAgentWrite
  repeat' first
    | with_reducible assumption
    | with_reducible apply goodO_next
    | intro _
    | with_reducible apply State_agentWrite_good
    | with_reducible apply State_hold_good
    | with_reducible apply good_foldl
    | with_reducible apply good_foldl_fst
    | split

theorem State_scrubLine_good {q : Kept} {s : State} (l : Nat) (h : Good q s) (w_regs : q.keep .regs = false := by assumption) (w_pages : q.keep .pages = false := by assumption) (w_msgs : q.keep .msgs = false := by assumption) (w_faultLog : q.keep .faultLog = false := by assumption) (w_mem : q.keep .mem = false := by assumption) : Good q (Sys2Proof.Machine.State.scrubLine s l) := by
  unfold Sys2Proof.Machine.State.scrubLine
  repeat' first
    | with_reducible assumption
    | with_reducible apply goodO_next
    | intro _
    | with_reducible apply State_add_good
    | with_reducible apply State_lineCe_good
    | with_reducible apply State_lineUe_good
    | with_reducible apply good_foldl
    | with_reducible apply good_foldl_fst
    | split
    | with_reducible refine good_fst (by assumption) ?_
    | with_reducible refine good_snd (by assumption) ?_
    | with_reducible refine good_snd2 (by assumption) ?_
    | dsimp only

theorem execScrubStep_good {q : Kept} {s : State} (h : Good q s) (w_regs : q.keep .regs = false := by assumption) (w_pages : q.keep .pages = false := by assumption) (w_msgs : q.keep .msgs = false := by assumption) (w_faultLog : q.keep .faultLog = false := by assumption) (w_mem : q.keep .mem = false := by assumption) : GoodO q (Sys2Proof.Machine.execScrubStep s) := by
  unfold Sys2Proof.Machine.execScrubStep
  repeat' first
    | with_reducible assumption
    | with_reducible apply goodO_next
    | intro _
    | with_reducible apply State_set_good
    | with_reducible apply State_raise_good
    | with_reducible apply event_good
    | with_reducible apply State_scrubLine_good
    | with_reducible apply good_foldl
    | with_reducible apply good_foldl_fst
    | split
    | with_reducible refine good_fst (by assumption) ?_
    | with_reducible refine good_snd (by assumption) ?_
    | with_reducible refine good_snd2 (by assumption) ?_
    | dsimp only
    | with_reducible refine good_mk (t := _) ?_ rfl rfl rfl rfl rfl rfl rfl rfl

end Sys2Proof.Laws
end

