-- ==== Sys2Proof/Laws/KeepHostIo.lean ====
section
/-!
SUPPORT. What the operations of Machine/HostIo.lean keep.
-/

set_option Elab.async false

namespace Sys2Proof.Laws

open Sys2Proof.Machine

theorem State_captureOpen_good {q : Kept} {s : State} (fn : Nat) (page : Nat) (st : Status) (h : Good q s) (w_pages : q.keep .pages = false := by assumption) (w_freeCtr : q.keep .freeCtr = false := by assumption) : Good q (Sys2Proof.Machine.State.captureOpen s fn page st) := by
  unfold Sys2Proof.Machine.State.captureOpen
  repeat' first
    | with_reducible assumption
    | with_reducible apply goodO_next
    | intro _
    | with_reducible apply State_captureFn_good
    | with_reducible apply State_drawFree_good

theorem State_hostAbort_good {q : Kept} {s : State} (fn : Nat) (agent : Nat) (cause : Nat) (iova : Nat) (h : Good q s) (w_regs : q.keep .regs = false := by assumption) (w_pages : q.keep .pages = false := by assumption) (w_msgs : q.keep .msgs = false := by assumption) (w_host : q.keep .host = false := by assumption) (w_freeCtr : q.keep .freeCtr = false := by assumption) : Good q (Sys2Proof.Machine.State.hostAbort s fn agent cause iova) := by
  unfold Sys2Proof.Machine.State.hostAbort
  dsimp only
  refine State_captureOpen_good _ _ _ (State_raiseFn_good _ _ _ (State_add_good _ _ (State_add_good _ _ ?_)))
  split
  · refine good_abortLog h _ (fun _ => ?_) w_host
    simp only [List.length_append, List.length_singleton]
    omega
  · exact State_raise_good _ _ h

theorem State_aer_good {q : Kept} {s : State} (correctable : Bool) (h : Good q s) (w_regs : q.keep .regs = false := by assumption) (w_pages : q.keep .pages = false := by assumption) (w_msgs : q.keep .msgs = false := by assumption) : Good q (Sys2Proof.Machine.State.aer s correctable) := by
  unfold Sys2Proof.Machine.State.aer
  repeat' first
    | with_reducible assumption
    | with_reducible apply goodO_next
    | intro _
    | with_reducible apply State_add_good
    | with_reducible apply State_raise_good
    | with_reducible apply good_foldl
    | with_reducible apply good_foldl_fst
    | split

theorem State_readFailed_good {q : Kept} {s : State} (fn : Nat) (agent : Nat) (iova : Nat) (h : Good q s) (w_regs : q.keep .regs = false := by assumption) (w_pages : q.keep .pages = false := by assumption) (w_msgs : q.keep .msgs = false := by assumption) (w_host : q.keep .host = false := by assumption) (w_freeCtr : q.keep .freeCtr = false := by assumption) : ∀ (r0 : ReadOutcome), Good q (Sys2Proof.Machine.State.readFailed s fn agent iova r0) := by
  intro r0
  unfold Sys2Proof.Machine.State.readFailed
  repeat' first
    | with_reducible assumption
    | with_reducible apply goodO_next
    | intro _
    | with_reducible apply State_hostAbort_good
    | with_reducible apply State_aer_good
    | with_reducible apply good_foldl
    | with_reducible apply good_foldl_fst
    | split

theorem State_flushFailed_good {q : Kept} {s : State} (fn : Nat) (iova : Nat) (h : Good q s) (w_regs : q.keep .regs = false := by assumption) (w_pages : q.keep .pages = false := by assumption) (w_msgs : q.keep .msgs = false := by assumption) (w_host : q.keep .host = false := by assumption) (w_freeCtr : q.keep .freeCtr = false := by assumption) : Good q (Sys2Proof.Machine.State.flushFailed s fn iova) := by
  unfold Sys2Proof.Machine.State.flushFailed
  repeat' first
    | with_reducible assumption
    | with_reducible apply goodO_next
    | intro _
    | with_reducible apply State_add_good
    | with_reducible apply State_raiseFn_good
    | with_reducible apply State_hostAbort_good

theorem State_hostFetch_good {q : Kept} {s : State} (fn : Nat) (agent : Nat) (iova : Nat) (n : Nat) (o : ReadOutcome) (h : Good q s) (w_regs : q.keep .regs = false := by assumption) (w_pages : q.keep .pages = false := by assumption) (w_msgs : q.keep .msgs = false := by assumption) (w_host : q.keep .host = false := by assumption) (w_freeCtr : q.keep .freeCtr = false := by assumption) : Good q (Sys2Proof.Machine.State.hostFetch s fn agent iova n o).1 := by
  unfold Sys2Proof.Machine.State.hostFetch
  repeat' first
    | with_reducible assumption
    | with_reducible apply goodO_next
    | intro _
    | with_reducible apply State_hostAbort_good
    | with_reducible apply State_readFailed_good
    | with_reducible apply good_foldl
    | with_reducible apply good_foldl_fst
    | split

theorem State_postWrite_good {q : Kept} {s : State} (fn : Nat) (agent : Nat) (iova : Nat) (bs : List Byte) (h : Good q s) (w_regs : q.keep .regs = false := by assumption) (w_pages : q.keep .pages = false := by assumption) (w_msgs : q.keep .msgs = false := by assumption) (w_host : q.keep .host = false := by assumption) (w_freeCtr : q.keep .freeCtr = false := by assumption) : Good q (Sys2Proof.Machine.State.postWrite s fn agent iova bs).1 := by
  unfold Sys2Proof.Machine.State.postWrite
  repeat' first
    | with_reducible assumption
    | with_reducible apply goodO_next
    | intro _
    | with_reducible apply State_hostAbort_good
    | with_reducible apply good_foldl
    | with_reducible apply good_foldl_fst
    | split
    | with_reducible refine good_fst (by assumption) ?_
    | with_reducible refine good_snd (by assumption) ?_
    | with_reducible refine good_snd2 (by assumption) ?_
    | dsimp only
    | with_reducible refine good_mk (t := _) ?_ rfl rfl rfl rfl rfl rfl rfl rfl

theorem State_tenantEdge_good {q : Kept} {s : State} (f : Nat) (bit : Nat) (h : Good q s) (w_regs : q.keep .regs = false := by assumption) (w_pages : q.keep .pages = false := by assumption) (w_msgs : q.keep .msgs = false := by assumption) : Good q (Sys2Proof.Machine.State.tenantEdge s f bit) := by
  unfold Sys2Proof.Machine.State.tenantEdge
  repeat' first
    | with_reducible assumption
    | with_reducible apply goodO_next
    | intro _
    | with_reducible apply State_set_good
    | with_reducible apply State_setPage_good
    | with_reducible apply State_raise_good

theorem State_dirtyIndex_good {q : Kept} {s : State} (f : Nat) (agent : Nat) (h : Good q s) (w_regs : q.keep .regs = false := by assumption) (w_pages : q.keep .pages = false := by assumption) (w_msgs : q.keep .msgs = false := by assumption) (w_host : q.keep .host = false := by assumption) (w_freeCtr : q.keep .freeCtr = false := by assumption) : Good q (Sys2Proof.Machine.State.dirtyIndex s f agent) := by
  unfold Sys2Proof.Machine.State.dirtyIndex
  repeat' first
    | with_reducible assumption
    | with_reducible apply goodO_next
    | intro _
    | with_reducible apply State_postWrite_good

theorem State_dirtyPage_good {q : Kept} {s : State} (f : Nat) (agent : Nat) (page : Nat) (h : Good q s) (w_regs : q.keep .regs = false := by assumption) (w_pages : q.keep .pages = false := by assumption) (w_msgs : q.keep .msgs = false := by assumption) (w_host : q.keep .host = false := by assumption) (w_freeCtr : q.keep .freeCtr = false := by assumption) : Good q (Sys2Proof.Machine.State.dirtyPage s f agent page) := by
  unfold Sys2Proof.Machine.State.dirtyPage
  repeat' first
    | with_reducible assumption
    | with_reducible apply goodO_next
    | intro _
    | with_reducible apply State_add_good
    | with_reducible apply State_flag_good
    | with_reducible apply State_postWrite_good
    | with_reducible apply State_tenantEdge_good
    | with_reducible apply State_dirtyIndex_good
    | with_reducible apply good_foldl
    | with_reducible apply good_foldl_fst
    | split
    | with_reducible refine good_fst (by assumption) ?_
    | with_reducible refine good_snd (by assumption) ?_
    | with_reducible refine good_snd2 (by assumption) ?_
    | dsimp only
    | with_reducible refine good_mk (t := _) ?_ rfl rfl rfl rfl rfl rfl rfl rfl

theorem State_hostWrite_good {q : Kept} {s : State} (fn : Nat) (agent : Nat) (iova : Nat) (bs : List Byte) (h : Good q s) (w_regs : q.keep .regs = false := by assumption) (w_pages : q.keep .pages = false := by assumption) (w_msgs : q.keep .msgs = false := by assumption) (w_host : q.keep .host = false := by assumption) (w_freeCtr : q.keep .freeCtr = false := by assumption) : Good q (Sys2Proof.Machine.State.hostWrite s fn agent iova bs).1 := by
  unfold Sys2Proof.Machine.State.hostWrite
  repeat' first
    | with_reducible assumption
    | with_reducible apply goodO_next
    | intro _
    | with_reducible apply State_postWrite_good
    | with_reducible apply State_dirtyPage_good
    | with_reducible apply good_foldl
    | with_reducible apply good_foldl_fst
    | split
    | with_reducible refine good_fst (by assumption) ?_

theorem State_hostReadStart_good {q : Kept} {s : State} (fn : Nat) (agent : Nat) (iova : Nat) (n : Nat) (use : ReadUse) (h : Good q s) (w_host : q.keep .host = false := by assumption) : Good q (Sys2Proof.Machine.State.hostReadStart s fn agent iova n use) := by
  unfold Sys2Proof.Machine.State.hostReadStart
  repeat' first
    | with_reducible assumption
    | with_reducible apply goodO_next
    | intro _
    | with_reducible apply good_foldl
    | with_reducible apply good_foldl_fst
    | split
    | with_reducible refine good_fst (by assumption) ?_
    | with_reducible refine good_snd (by assumption) ?_
    | with_reducible refine good_snd2 (by assumption) ?_
    | dsimp only
    | with_reducible refine good_mk (t := _) ?_ rfl rfl rfl rfl rfl rfl rfl rfl

end Sys2Proof.Laws
end

