-- ==== Sys2Proof/Laws/KeepSluice.lean ====
section
/-!
SUPPORT. What the operations of Machine/Sluice.lean keep.
-/

set_option Elab.async false

namespace Sys2Proof.Laws

open Sys2Proof.Machine

theorem State_setSlot_good {q : Kept} {s : State} (i : Nat) (k : KeySlot) (h : Good q s) (w_sluice : q.keep .sluice = false := by assumption) : Good q (Sys2Proof.Machine.State.setSlot s i k) := by
  unfold Sys2Proof.Machine.State.setSlot
  repeat' first
    | with_reducible assumption
    | with_reducible apply goodO_next
    | intro _
    | with_reducible apply good_foldl
    | with_reducible apply good_foldl_fst
    | split
    | with_reducible refine good_fst (by assumption) ?_
    | with_reducible refine good_snd (by assumption) ?_
    | with_reducible refine good_snd2 (by assumption) ?_
    | dsimp only
    | with_reducible refine good_mk (t := _) ?_ rfl rfl rfl rfl rfl rfl rfl rfl

theorem State_clearSlot_good {q : Kept} {s : State} (i : Nat) (h : Good q s) (w_sluice : q.keep .sluice = false := by assumption) : Good q (Sys2Proof.Machine.State.clearSlot s i) := by
  unfold Sys2Proof.Machine.State.clearSlot
  repeat' first
    | with_reducible assumption
    | with_reducible apply goodO_next
    | intro _
    | with_reducible apply State_setSlot_good
    | with_reducible apply good_foldl
    | with_reducible apply good_foldl_fst
    | split

theorem State_writeSlot_good {q : Kept} {s : State} (i : Nat) (cls : Nat) (wrappable : Bool) (key : List Byte) (pub : List Byte) (h : Good q s) (w_sluice : q.keep .sluice = false := by assumption) : Good q (Sys2Proof.Machine.State.writeSlot s i cls wrappable key pub) := by
  unfold Sys2Proof.Machine.State.writeSlot
  repeat' first
    | with_reducible assumption
    | with_reducible apply goodO_next
    | intro _
    | with_reducible apply State_setSlot_good
    | with_reducible apply State_clearSlot_good
    | with_reducible apply good_foldl
    | with_reducible apply good_foldl_fst
    | split

theorem State_openLen_good {q : Kept} {s : State} (cls : Nat) (h : Good q s) (w_freeCtr : q.keep .freeCtr = false := by assumption) : Good q (Sys2Proof.Machine.State.openLen s cls).2 := by
  unfold Sys2Proof.Machine.State.openLen
  repeat' first
    | with_reducible assumption
    | with_reducible apply goodO_next
    | intro _
    | with_reducible apply State_drawFree_good
    | with_reducible apply good_foldl
    | with_reducible apply good_foldl_fst
    | split

theorem State_slotBroken_good {q : Kept} {s : State} (g : Nat) (h : Good q s) (w_regs : q.keep .regs = false := by assumption) (w_pages : q.keep .pages = false := by assumption) (w_msgs : q.keep .msgs = false := by assumption) (w_faultLog : q.keep .faultLog = false := by assumption) (w_sluice : q.keep .sluice = false := by assumption) : Good q (Sys2Proof.Machine.State.slotBroken s g) := by
  unfold Sys2Proof.Machine.State.slotBroken
  repeat' first
    | with_reducible assumption
    | with_reducible apply goodO_next
    | intro _
    | with_reducible apply State_raise_good
    | with_reducible apply State_capture_good
    | with_reducible apply State_fault_good
    | with_reducible apply State_clearSlot_good

theorem State_countRandom_good {q : Kept} {s : State} (h : Good q s) (w_sluice : q.keep .sluice = false := by assumption) : Good q (Sys2Proof.Machine.State.countRandom s) := by
  unfold Sys2Proof.Machine.State.countRandom
  repeat' first
    | with_reducible assumption
    | with_reducible apply goodO_next
    | intro _
    | with_reducible apply good_foldl
    | with_reducible apply good_foldl_fst
    | split
    | with_reducible refine good_fst (by assumption) ?_
    | with_reducible refine good_snd (by assumption) ?_
    | with_reducible refine good_snd2 (by assumption) ?_
    | dsimp only
    | with_reducible refine good_mk (t := _) ?_ rfl rfl rfl rfl rfl rfl rfl rfl

theorem State_random_good {q : Kept} {s : State} (n : Nat) (h : Good q s) (w_sluice : q.keep .sluice = false := by assumption) (w_rngCtr : q.keep .rngCtr = false := by assumption) : Good q (Sys2Proof.Machine.State.random s n).2 := by
  unfold Sys2Proof.Machine.State.random
  repeat' first
    | with_reducible assumption
    | with_reducible apply goodO_next
    | intro _
    | with_reducible apply State_countRandom_good
    | with_reducible apply State_drawRandom_good
    | with_reducible apply good_foldl
    | with_reducible apply good_foldl_fst
    | split

theorem execRngHealthFail_good {q : Kept} {s : State} (h : Good q s) (w_regs : q.keep .regs = false := by assumption) (w_pages : q.keep .pages = false := by assumption) (w_msgs : q.keep .msgs = false := by assumption) : GoodO q (Sys2Proof.Machine.execRngHealthFail s) := by
  unfold Sys2Proof.Machine.execRngHealthFail
  repeat' first
    | with_reducible assumption
    | with_reducible apply goodO_next
    | intro _
    | with_reducible apply State_flag_good
    | with_reducible apply State_raise_good
    | with_reducible apply event_good
    | with_reducible apply good_foldl
    | with_reducible apply good_foldl_fst
    | split

theorem execRngReseed_good {q : Kept} {s : State} (h : Good q s) (w_sluice : q.keep .sluice = false := by assumption) : GoodO q (Sys2Proof.Machine.execRngReseed s) := by
  unfold Sys2Proof.Machine.execRngReseed
  repeat' first
    | with_reducible assumption
    | with_reducible apply goodO_next
    | intro _
    | with_reducible apply event_good
    | with_reducible apply good_foldl
    | with_reducible apply good_foldl_fst
    | split
    | with_reducible refine good_fst (by assumption) ?_
    | with_reducible refine good_snd (by assumption) ?_
    | with_reducible refine good_snd2 (by assumption) ?_
    | dsimp only
    | with_reducible refine good_mk (t := _) ?_ rfl rfl rfl rfl rfl rfl rfl rfl

theorem execRngRestart_good {q : Kept} (fn : Nat) {s : State} (h : Good q s) (w_regs : q.keep .regs = false := by assumption) (w_pages : q.keep .pages = false := by assumption) (w_msgs : q.keep .msgs = false := by assumption) (w_sluice : q.keep .sluice = false := by assumption) (w_held : q.keep .held = false := by assumption) : GoodO q (Sys2Proof.Machine.execRngRestart fn s) := by
  unfold Sys2Proof.Machine.execRngRestart
  repeat' first
    | with_reducible assumption
    | with_reducible apply goodO_next
    | intro _
    | with_reducible apply State_flag_good
    | with_reducible apply command_good
    | with_reducible apply good_foldl
    | with_reducible apply good_foldl_fst
    | split
    | with_reducible refine good_fst (by assumption) ?_
    | with_reducible refine good_snd (by assumption) ?_
    | with_reducible refine good_snd2 (by assumption) ?_
    | dsimp only
    | with_reducible refine good_mk (t := _) ?_ rfl rfl rfl rfl rfl rfl rfl rfl

theorem execRngStartUpTestsPass_good {q : Kept} {s : State} (h : Good q s) (w_regs : q.keep .regs = false := by assumption) (w_sluice : q.keep .sluice = false := by assumption) : GoodO q (Sys2Proof.Machine.execRngStartUpTestsPass s) := by
  unfold Sys2Proof.Machine.execRngStartUpTestsPass
  repeat' first
    | with_reducible assumption
    | with_reducible apply goodO_next
    | intro _
    | with_reducible apply State_flag_good
    | with_reducible apply event_good
    | with_reducible apply good_foldl
    | with_reducible apply good_foldl_fst
    | split
    | with_reducible refine good_fst (by assumption) ?_
    | with_reducible refine good_snd (by assumption) ?_
    | with_reducible refine good_snd2 (by assumption) ?_
    | dsimp only
    | with_reducible refine good_mk (t := _) ?_ rfl rfl rfl rfl rfl rfl rfl rfl

theorem State_setDesc_good {q : Kept} {s : State} (d : Desc) (h : Good q s) (w_sluice : q.keep .sluice = false := by assumption) : Good q (Sys2Proof.Machine.State.setDesc s d) := by
  unfold Sys2Proof.Machine.State.setDesc
  repeat' first
    | with_reducible assumption
    | with_reducible apply goodO_next
    | intro _
    | with_reducible apply good_foldl
    | with_reducible apply good_foldl_fst
    | split
    | with_reducible refine good_fst (by assumption) ?_
    | with_reducible refine good_snd (by assumption) ?_
    | with_reducible refine good_snd2 (by assumption) ?_
    | dsimp only
    | with_reducible refine good_mk (t := _) ?_ rfl rfl rfl rfl rfl rfl rfl rfl

theorem State_setEnded_good {q : Kept} {s : State} (d : Desc) (st : Status) (outLen : Nat) (detail : Nat) (h : Good q s) (w_sluice : q.keep .sluice = false := by assumption) : Good q (Sys2Proof.Machine.State.setEnded s d st outLen detail) := by
  unfold Sys2Proof.Machine.State.setEnded
  repeat' first
    | with_reducible assumption
    | with_reducible apply goodO_next
    | intro _
    | with_reducible apply State_setDesc_good
    | with_reducible apply good_foldl
    | with_reducible apply good_foldl_fst
    | split
    | with_reducible refine good_fst (by assumption) ?_
    | with_reducible refine good_snd (by assumption) ?_
    | with_reducible refine good_snd2 (by assumption) ?_
    | dsimp only
    | with_reducible refine good_mk (t := _) ?_ rfl rfl rfl rfl rfl rfl rfl rfl

theorem State_failChain_good {q : Kept} {s : State} (c : Nat) (h : Good q s) (w_sluice : q.keep .sluice = false := by assumption) : Good q (Sys2Proof.Machine.State.failChain s c) := by
  unfold Sys2Proof.Machine.State.failChain
  repeat' first
    | with_reducible assumption
    | with_reducible apply goodO_next
    | intro _
    | with_reducible apply good_foldl
    | with_reducible apply good_foldl_fst
    | split
    | with_reducible refine good_fst (by assumption) ?_
    | with_reducible refine good_snd (by assumption) ?_
    | with_reducible refine good_snd2 (by assumption) ?_
    | dsimp only
    | with_reducible refine good_mk (t := _) ?_ rfl rfl rfl rfl rfl rfl rfl rfl

theorem State_finishDesc_good {q : Kept} {s : State} (d : Desc) (st : Status) (outLen : Nat) (detail : Nat) (h : Good q s) (w_sluice : q.keep .sluice = false := by assumption) : Good q (Sys2Proof.Machine.State.finishDesc s d st outLen detail) := by
  unfold Sys2Proof.Machine.State.finishDesc
  repeat' first
    | with_reducible assumption
    | with_reducible apply goodO_next
    | intro _
    | with_reducible apply State_failChain_good
    | with_reducible apply State_setEnded_good
    | with_reducible apply good_foldl
    | with_reducible apply good_foldl_fst
    | split

theorem State_endDesc_good {q : Kept} {s : State} (d : Desc) (st : Status) (outLen : Nat) (detail : Nat) (h : Good q s) (w_regs : q.keep .regs = false := by assumption) (w_host : q.keep .host = false := by assumption) (w_sluice : q.keep .sluice = false := by assumption) : Good q (Sys2Proof.Machine.State.endDesc s d st outLen detail) := by
  unfold Sys2Proof.Machine.State.endDesc
  repeat' first
    | with_reducible assumption
    | with_reducible apply goodO_next
    | intro _
    | with_reducible apply State_finishDesc_good
    | with_reducible apply State_setDesc_good
    | with_reducible apply State_hostReadStart_good
    | with_reducible apply State_add_good
    | with_reducible apply good_foldl
    | with_reducible apply good_foldl_fst
    | split
    | with_reducible refine good_fst (by assumption) ?_
    | with_reducible refine good_snd (by assumption) ?_
    | with_reducible refine good_snd2 (by assumption) ?_
    | dsimp only

theorem State_refuseOpcode_good {q : Kept} {s : State} (id : Nat) (h : Good q s) (w_regs : q.keep .regs = false := by assumption) (w_host : q.keep .host = false := by assumption) (w_sluice : q.keep .sluice = false := by assumption) : Good q (Sys2Proof.Machine.State.refuseOpcode s id) := by
  unfold Sys2Proof.Machine.State.refuseOpcode
  repeat' first
    | with_reducible assumption
    | with_reducible apply goodO_next
    | intro _
    | with_reducible apply State_endDesc_good
    | with_reducible apply good_foldl
    | with_reducible apply good_foldl_fst
    | split

theorem State_readOperand_good {q : Kept} {s : State} (d : Desc) (sp : Nat) (addr : Nat) (n : Nat) (o : ReadOutcome) (h : Good q s) (w_regs : q.keep .regs = false := by assumption) (w_pages : q.keep .pages = false := by assumption) (w_msgs : q.keep .msgs = false := by assumption) (w_host : q.keep .host = false := by assumption) (w_faultLog : q.keep .faultLog = false := by assumption) (w_hbm : q.keep .hbm = false := by assumption) (w_caches : q.keep .caches = false := by assumption) (w_mem : q.keep .mem = false := by assumption) (w_freeCtr : q.keep .freeCtr = false := by assumption) : Good q (Sys2Proof.Machine.State.readOperand s d sp addr n o).1 := by
  unfold Sys2Proof.Machine.State.readOperand
  repeat' first
    | with_reducible assumption
    | with_reducible apply goodO_next
    | intro _
    | with_reducible apply State_hbmRead_good
    | with_reducible apply State_hostFetch_good
    | with_reducible apply good_foldl
    | with_reducible apply good_foldl_fst
    | split

theorem State_writeOutput_good {q : Kept} {s : State} (d : Desc) (sp : Nat) (addr : Nat) (bs : List Byte) (h : Good q s) (w_regs : q.keep .regs = false := by assumption) (w_pages : q.keep .pages = false := by assumption) (w_msgs : q.keep .msgs = false := by assumption) (w_host : q.keep .host = false := by assumption) (w_faultLog : q.keep .faultLog = false := by assumption) (w_hbm : q.keep .hbm = false := by assumption) (w_caches : q.keep .caches = false := by assumption) (w_mem : q.keep .mem = false := by assumption) (w_sluice : q.keep .sluice = false := by assumption) (w_freeCtr : q.keep .freeCtr = false := by assumption) : Good q (Sys2Proof.Machine.State.writeOutput s d sp addr bs).1 := by
  unfold Sys2Proof.Machine.State.writeOutput
  repeat' first
    | with_reducible assumption
    | with_reducible apply goodO_next
    | intro _
    | with_reducible apply State_hbmWrite_good
    | with_reducible apply State_hostWrite_good
    | with_reducible apply State_setDesc_good
    | with_reducible apply good_foldl
    | with_reducible apply good_foldl_fst
    | split
    | with_reducible refine good_fst (by assumption) ?_
    | with_reducible refine good_snd (by assumption) ?_
    | with_reducible refine good_snd2 (by assumption) ?_
    | dsimp only
    | with_reducible refine good_mk (t := _) ?_ rfl rfl rfl rfl rfl rfl rfl rfl

theorem runDesc_good {q : Kept} (op : Nat) (id : Nat) {s : State} (checks : State → Desc → List (Bool × Status × Nat)) (work : State → Desc → OpRes) (h : Good q s) (hwork : ∀ x0 x1, Good q x0 → Good q (work x0 x1).1) (w_regs : q.keep .regs = false := by assumption) (w_host : q.keep .host = false := by assumption) (w_sluice : q.keep .sluice = false := by assumption) : GoodO q (Sys2Proof.Machine.runDesc op id s checks work) := by
  unfold Sys2Proof.Machine.runDesc
  repeat' first
    | with_reducible assumption
    | with_reducible apply goodO_next
    | intro _
    | with_reducible apply hwork
    | with_reducible apply event_good
    | with_reducible apply State_setDesc_good
    | with_reducible apply State_endDesc_good
    | with_reducible apply good_foldl
    | with_reducible apply good_foldl_fst
    | split
    | with_reducible refine good_fst (by assumption) ?_

theorem State_deliver'_good {q : Kept} {s : State} (d : Desc) (out : List Byte) (h : Good q s) (w_regs : q.keep .regs = false := by assumption) (w_pages : q.keep .pages = false := by assumption) (w_msgs : q.keep .msgs = false := by assumption) (w_host : q.keep .host = false := by assumption) (w_faultLog : q.keep .faultLog = false := by assumption) (w_hbm : q.keep .hbm = false := by assumption) (w_caches : q.keep .caches = false := by assumption) (w_mem : q.keep .mem = false := by assumption) (w_sluice : q.keep .sluice = false := by assumption) (w_freeCtr : q.keep .freeCtr = false := by assumption) : Good q (Sys2Proof.Machine.State.deliver' s d out).1 := by
  unfold Sys2Proof.Machine.State.deliver'
  repeat' first
    | with_reducible assumption
    | with_reducible apply goodO_next
    | intro _
    | with_reducible apply State_writeOutput_good

theorem State_withKey_good {q : Kept} {s : State} (d : Desc) (classes : List Nat) (k : State → Nat → KeySlot → OpRes) (h : Good q s) (hk : ∀ x0 x1 x2, Good q x0 → Good q (k x0 x1 x2).1) (w_regs : q.keep .regs = false := by assumption) (w_pages : q.keep .pages = false := by assumption) (w_msgs : q.keep .msgs = false := by assumption) (w_faultLog : q.keep .faultLog = false := by assumption) (w_sluice : q.keep .sluice = false := by assumption) : Good q (Sys2Proof.Machine.State.withKey s d classes k).1 := by
  unfold Sys2Proof.Machine.State.withKey
  repeat' first
    | with_reducible assumption
    | with_reducible apply goodO_next
    | intro _
    | with_reducible apply hk
    | with_reducible apply State_slotBroken_good
    | with_reducible apply good_foldl
    | with_reducible apply good_foldl_fst
    | split

theorem State_withSrc_good {q : Kept} {s : State} (d : Desc) (n : Nat) (o : ReadOutcome) (k : State → List Byte → OpRes) (h : Good q s) (hk : ∀ x0 x1, Good q x0 → Good q (k x0 x1).1) (w_regs : q.keep .regs = false := by assumption) (w_pages : q.keep .pages = false := by assumption) (w_msgs : q.keep .msgs = false := by assumption) (w_host : q.keep .host = false := by assumption) (w_faultLog : q.keep .faultLog = false := by assumption) (w_hbm : q.keep .hbm = false := by assumption) (w_caches : q.keep .caches = false := by assumption) (w_mem : q.keep .mem = false := by assumption) (w_freeCtr : q.keep .freeCtr = false := by assumption) : Good q (Sys2Proof.Machine.State.withSrc s d n o k).1 := by
  unfold Sys2Proof.Machine.State.withSrc
  repeat' first
    | with_reducible assumption
    | with_reducible apply goodO_next
    | intro _
    | with_reducible apply hk
    | with_reducible apply State_readOperand_good
    | with_reducible apply good_foldl
    | with_reducible apply good_foldl_fst
    | split
    | with_reducible refine good_fst (by assumption) ?_

theorem State_withAux_good {q : Kept} {s : State} (d : Desc) (o : ReadOutcome) (k : State → List Byte → OpRes) (h : Good q s) (hk : ∀ x0 x1, Good q x0 → Good q (k x0 x1).1) (w_regs : q.keep .regs = false := by assumption) (w_pages : q.keep .pages = false := by assumption) (w_msgs : q.keep .msgs = false := by assumption) (w_host : q.keep .host = false := by assumption) (w_faultLog : q.keep .faultLog = false := by assumption) (w_hbm : q.keep .hbm = false := by assumption) (w_caches : q.keep .caches = false := by assumption) (w_mem : q.keep .mem = false := by assumption) (w_freeCtr : q.keep .freeCtr = false := by assumption) : Good q (Sys2Proof.Machine.State.withAux s d o k).1 := by
  unfold Sys2Proof.Machine.State.withAux
  repeat' first
    | with_reducible assumption
    | with_reducible apply goodO_next
    | intro _
    | with_reducible apply hk
    | with_reducible apply State_readOperand_good
    | with_reducible apply good_foldl
    | with_reducible apply good_foldl_fst
    | split
    | with_reducible refine good_fst (by assumption) ?_

theorem State_cipherWork_good {q : Kept} {s : State} (d : Desc) (classes : List Nat) (o : ReadOutcome) (f : KeySlot → List Byte → List Byte) (h : Good q s) (w_regs : q.keep .regs = false := by assumption) (w_pages : q.keep .pages = false := by assumption) (w_msgs : q.keep .msgs = false := by assumption) (w_host : q.keep .host = false := by assumption) (w_faultLog : q.keep .faultLog = false := by assumption) (w_hbm : q.keep .hbm = false := by assumption) (w_caches : q.keep .caches = false := by assumption) (w_mem : q.keep .mem = false := by assumption) (w_sluice : q.keep .sluice = false := by assumption) (w_freeCtr : q.keep .freeCtr = false := by assumption) : Good q (Sys2Proof.Machine.State.cipherWork s d classes o f).1 := by
  unfold Sys2Proof.Machine.State.cipherWork
  repeat' first
    | with_reducible assumption
    | with_reducible apply goodO_next
    | intro _
    | with_reducible apply State_withSrc_good
    | with_reducible apply State_withKey_good
    | with_reducible apply State_deliver'_good
    | with_reducible apply good_foldl
    | with_reducible apply good_foldl_fst
    | split

theorem execDescNop_good {q : Kept} (id : Nat) {s : State} (h : Good q s) (w_regs : q.keep .regs = false := by assumption) (w_host : q.keep .host = false := by assumption) (w_sluice : q.keep .sluice = false := by assumption) : GoodO q (Sys2Proof.Machine.execDescNop id s) := by
  unfold Sys2Proof.Machine.execDescNop
  repeat' first
    | with_reducible assumption
    | with_reducible apply goodO_next
    | intro _
    | with_reducible apply runDesc_good

theorem execGcmEnc_good {q : Kept} (id : Nat) (src : ReadOutcome) (aux : ReadOutcome) {s : State} (h : Good q s) (w_regs : q.keep .regs = false := by assumption) (w_pages : q.keep .pages = false := by assumption) (w_msgs : q.keep .msgs = false := by assumption) (w_host : q.keep .host = false := by assumption) (w_faultLog : q.keep .faultLog = false := by assumption) (w_hbm : q.keep .hbm = false := by assumption) (w_caches : q.keep .caches = false := by assumption) (w_mem : q.keep .mem = false := by assumption) (w_sluice : q.keep .sluice = false := by assumption) (w_freeCtr : q.keep .freeCtr = false := by assumption) : GoodO q (Sys2Proof.Machine.execGcmEnc id src aux s) := by
  unfold Sys2Proof.Machine.execGcmEnc
  repeat' first
    | with_reducible assumption
    | with_reducible apply goodO_next
    | intro _
    | with_reducible apply State_withAux_good
    | with_reducible apply State_withSrc_good
    | with_reducible apply State_withKey_good
    | with_reducible apply State_deliver'_good
    | with_reducible apply runDesc_good
    | with_reducible apply good_foldl
    | with_reducible apply good_foldl_fst
    | split

theorem execGcmDec_good {q : Kept} (id : Nat) (src : ReadOutcome) (aux : ReadOutcome) {s : State} (h : Good q s) (w_regs : q.keep .regs = false := by assumption) (w_pages : q.keep .pages = false := by assumption) (w_msgs : q.keep .msgs = false := by assumption) (w_host : q.keep .host = false := by assumption) (w_faultLog : q.keep .faultLog = false := by assumption) (w_hbm : q.keep .hbm = false := by assumption) (w_caches : q.keep .caches = false := by assumption) (w_mem : q.keep .mem = false := by assumption) (w_sluice : q.keep .sluice = false := by assumption) (w_freeCtr : q.keep .freeCtr = false := by assumption) : GoodO q (Sys2Proof.Machine.execGcmDec id src aux s) := by
  unfold Sys2Proof.Machine.execGcmDec
  repeat' first
    | with_reducible assumption
    | with_reducible apply goodO_next
    | intro _
    | with_reducible apply State_withAux_good
    | with_reducible apply State_withSrc_good
    | with_reducible apply State_withKey_good
    | with_reducible apply State_deliver'_good
    | with_reducible apply runDesc_good
    | with_reducible apply State_writeOutput_good
    | with_reducible apply good_foldl
    | with_reducible apply good_foldl_fst
    | split

theorem execCtr_good {q : Kept} (id : Nat) (src : ReadOutcome) {s : State} (h : Good q s) (w_regs : q.keep .regs = false := by assumption) (w_pages : q.keep .pages = false := by assumption) (w_msgs : q.keep .msgs = false := by assumption) (w_host : q.keep .host = false := by assumption) (w_faultLog : q.keep .faultLog = false := by assumption) (w_hbm : q.keep .hbm = false := by assumption) (w_caches : q.keep .caches = false := by assumption) (w_mem : q.keep .mem = false := by assumption) (w_sluice : q.keep .sluice = false := by assumption) (w_freeCtr : q.keep .freeCtr = false := by assumption) : GoodO q (Sys2Proof.Machine.execCtr id src s) := by
  unfold Sys2Proof.Machine.execCtr
  repeat' first
    | with_reducible assumption
    | with_reducible apply goodO_next
    | intro _
    | with_reducible apply runDesc_good
    | with_reducible apply State_cipherWork_good

theorem execXtsEnc_good {q : Kept} (id : Nat) (src : ReadOutcome) {s : State} (h : Good q s) (w_regs : q.keep .regs = false := by assumption) (w_pages : q.keep .pages = false := by assumption) (w_msgs : q.keep .msgs = false := by assumption) (w_host : q.keep .host = false := by assumption) (w_faultLog : q.keep .faultLog = false := by assumption) (w_hbm : q.keep .hbm = false := by assumption) (w_caches : q.keep .caches = false := by assumption) (w_mem : q.keep .mem = false := by assumption) (w_sluice : q.keep .sluice = false := by assumption) (w_freeCtr : q.keep .freeCtr = false := by assumption) : GoodO q (Sys2Proof.Machine.execXtsEnc id src s) := by
  unfold Sys2Proof.Machine.execXtsEnc
  repeat' first
    | with_reducible assumption
    | with_reducible apply goodO_next
    | intro _
    | with_reducible apply runDesc_good
    | with_reducible apply State_cipherWork_good

theorem execXtsDec_good {q : Kept} (id : Nat) (src : ReadOutcome) {s : State} (h : Good q s) (w_regs : q.keep .regs = false := by assumption) (w_pages : q.keep .pages = false := by assumption) (w_msgs : q.keep .msgs = false := by assumption) (w_host : q.keep .host = false := by assumption) (w_faultLog : q.keep .faultLog = false := by assumption) (w_hbm : q.keep .hbm = false := by assumption) (w_caches : q.keep .caches = false := by assumption) (w_mem : q.keep .mem = false := by assumption) (w_sluice : q.keep .sluice = false := by assumption) (w_freeCtr : q.keep .freeCtr = false := by assumption) : GoodO q (Sys2Proof.Machine.execXtsDec id src s) := by
  unfold Sys2Proof.Machine.execXtsDec
  repeat' first
    | with_reducible assumption
    | with_reducible apply goodO_next
    | intro _
    | with_reducible apply runDesc_good
    | with_reducible apply State_cipherWork_good

theorem execSha256_good {q : Kept} (id : Nat) (src : ReadOutcome) {s : State} (h : Good q s) (w_regs : q.keep .regs = false := by assumption) (w_pages : q.keep .pages = false := by assumption) (w_msgs : q.keep .msgs = false := by assumption) (w_host : q.keep .host = false := by assumption) (w_faultLog : q.keep .faultLog = false := by assumption) (w_hbm : q.keep .hbm = false := by assumption) (w_caches : q.keep .caches = false := by assumption) (w_mem : q.keep .mem = false := by assumption) (w_sluice : q.keep .sluice = false := by assumption) (w_freeCtr : q.keep .freeCtr = false := by assumption) : GoodO q (Sys2Proof.Machine.execSha256 id src s) := by
  unfold Sys2Proof.Machine.execSha256
  repeat' first
    | with_reducible assumption
    | with_reducible apply goodO_next
    | intro _
    | with_reducible apply State_withSrc_good
    | with_reducible apply State_deliver'_good
    | with_reducible apply runDesc_good
    | with_reducible apply good_foldl
    | with_reducible apply good_foldl_fst
    | split

theorem execHmac_good {q : Kept} (id : Nat) (src : ReadOutcome) {s : State} (h : Good q s) (w_regs : q.keep .regs = false := by assumption) (w_pages : q.keep .pages = false := by assumption) (w_msgs : q.keep .msgs = false := by assumption) (w_host : q.keep .host = false := by assumption) (w_faultLog : q.keep .faultLog = false := by assumption) (w_hbm : q.keep .hbm = false := by assumption) (w_caches : q.keep .caches = false := by assumption) (w_mem : q.keep .mem = false := by assumption) (w_sluice : q.keep .sluice = false := by assumption) (w_freeCtr : q.keep .freeCtr = false := by assumption) : GoodO q (Sys2Proof.Machine.execHmac id src s) := by
  unfold Sys2Proof.Machine.execHmac
  repeat' first
    | with_reducible assumption
    | with_reducible apply goodO_next
    | intro _
    | with_reducible apply State_withSrc_good
    | with_reducible apply State_withKey_good
    | with_reducible apply State_deliver'_good
    | with_reducible apply runDesc_good
    | with_reducible apply good_foldl
    | with_reducible apply good_foldl_fst
    | split

theorem execHmacChk_good {q : Kept} (id : Nat) (src : ReadOutcome) (aux : ReadOutcome) {s : State} (h : Good q s) (w_regs : q.keep .regs = false := by assumption) (w_pages : q.keep .pages = false := by assumption) (w_msgs : q.keep .msgs = false := by assumption) (w_host : q.keep .host = false := by assumption) (w_faultLog : q.keep .faultLog = false := by assumption) (w_hbm : q.keep .hbm = false := by assumption) (w_caches : q.keep .caches = false := by assumption) (w_mem : q.keep .mem = false := by assumption) (w_sluice : q.keep .sluice = false := by assumption) (w_freeCtr : q.keep .freeCtr = false := by assumption) : GoodO q (Sys2Proof.Machine.execHmacChk id src aux s) := by
  unfold Sys2Proof.Machine.execHmacChk
  repeat' first
    | with_reducible assumption
    | with_reducible apply goodO_next
    | intro _
    | with_reducible apply runDesc_good
    | with_reducible apply State_withKey_good
    | with_reducible apply State_withSrc_good
    | with_reducible apply State_withAux_good
    | with_reducible apply good_foldl
    | with_reducible apply good_foldl_fst
    | split

theorem execRandom_good {q : Kept} (id : Nat) {s : State} (h : Good q s) (w_regs : q.keep .regs = false := by assumption) (w_pages : q.keep .pages = false := by assumption) (w_msgs : q.keep .msgs = false := by assumption) (w_host : q.keep .host = false := by assumption) (w_faultLog : q.keep .faultLog = false := by assumption) (w_hbm : q.keep .hbm = false := by assumption) (w_caches : q.keep .caches = false := by assumption) (w_mem : q.keep .mem = false := by assumption) (w_sluice : q.keep .sluice = false := by assumption) (w_rngCtr : q.keep .rngCtr = false := by assumption) (w_freeCtr : q.keep .freeCtr = false := by assumption) : GoodO q (Sys2Proof.Machine.execRandom id s) := by
  unfold Sys2Proof.Machine.execRandom
  repeat' first
    | with_reducible assumption
    | with_reducible apply goodO_next
    | intro _
    | with_reducible apply State_deliver'_good
    | with_reducible apply runDesc_good
    | with_reducible apply State_random_good
    | with_reducible apply good_foldl
    | with_reducible apply good_foldl_fst
    | split
    | with_reducible refine good_fst (by assumption) ?_
    | with_reducible refine good_snd (by assumption) ?_

theorem State_enqueue_good {q : Kept} {s : State} (j : PkeJob) (h : Good q s) (w_sluice : q.keep .sluice = false := by assumption) : Good q (Sys2Proof.Machine.State.enqueue s j) := by
  unfold Sys2Proof.Machine.State.enqueue
  repeat' first
    | with_reducible assumption
    | with_reducible apply goodO_next
    | intro _
    | with_reducible apply good_foldl
    | with_reducible apply good_foldl_fst
    | split
    | with_reducible refine good_fst (by assumption) ?_
    | with_reducible refine good_snd (by assumption) ?_
    | with_reducible refine good_snd2 (by assumption) ?_
    | dsimp only
    | with_reducible refine good_mk (t := _) ?_ rfl rfl rfl rfl rfl rfl rfl rfl

theorem State_installKey_good {q : Kept} {s : State} (d : Desc) (g : Nat) (cls : Nat) (wrappable : Bool) (key : List Byte) (h : Good q s) (w_sluice : q.keep .sluice = false := by assumption) : Good q (Sys2Proof.Machine.State.installKey s d g cls wrappable key).1 := by
  unfold Sys2Proof.Machine.State.installKey
  repeat' first
    | with_reducible assumption
    | with_reducible apply goodO_next
    | intro _
    | with_reducible apply State_writeSlot_good
    | with_reducible apply State_enqueue_good
    | with_reducible apply good_foldl
    | with_reducible apply good_foldl_fst
    | split

theorem execKeyLoad_good {q : Kept} (id : Nat) (src : ReadOutcome) {s : State} (h : Good q s) (w_regs : q.keep .regs = false := by assumption) (w_pages : q.keep .pages = false := by assumption) (w_msgs : q.keep .msgs = false := by assumption) (w_host : q.keep .host = false := by assumption) (w_faultLog : q.keep .faultLog = false := by assumption) (w_hbm : q.keep .hbm = false := by assumption) (w_caches : q.keep .caches = false := by assumption) (w_mem : q.keep .mem = false := by assumption) (w_sluice : q.keep .sluice = false := by assumption) (w_freeCtr : q.keep .freeCtr = false := by assumption) : GoodO q (Sys2Proof.Machine.execKeyLoad id src s) := by
  unfold Sys2Proof.Machine.execKeyLoad
  repeat' first
    | with_reducible assumption
    | with_reducible apply goodO_next
    | intro _
    | with_reducible apply runDesc_good
    | with_reducible apply State_withSrc_good
    | with_reducible apply State_installKey_good
    | with_reducible apply good_foldl
    | with_reducible apply good_foldl_fst
    | split

theorem execKeyUnwrap_good {q : Kept} (id : Nat) (src : ReadOutcome) {s : State} (h : Good q s) (w_regs : q.keep .regs = false := by assumption) (w_pages : q.keep .pages = false := by assumption) (w_msgs : q.keep .msgs = false := by assumption) (w_host : q.keep .host = false := by assumption) (w_faultLog : q.keep .faultLog = false := by assumption) (w_hbm : q.keep .hbm = false := by assumption) (w_caches : q.keep .caches = false := by assumption) (w_mem : q.keep .mem = false := by assumption) (w_sluice : q.keep .sluice = false := by assumption) (w_freeCtr : q.keep .freeCtr = false := by assumption) : GoodO q (Sys2Proof.Machine.execKeyUnwrap id src s) := by
  unfold Sys2Proof.Machine.execKeyUnwrap
  repeat' first
    | with_reducible assumption
    | with_reducible apply goodO_next
    | intro _
    | with_reducible apply runDesc_good
    | with_reducible apply State_withKey_good
    | with_reducible apply State_withSrc_good
    | with_reducible apply State_installKey_good
    | with_reducible apply good_foldl
    | with_reducible apply good_foldl_fst
    | split

theorem execKeyWrap_good {q : Kept} (id : Nat) {s : State} (h : Good q s) (w_regs : q.keep .regs = false := by assumption) (w_pages : q.keep .pages = false := by assumption) (w_msgs : q.keep .msgs = false := by assumption) (w_host : q.keep .host = false := by assumption) (w_faultLog : q.keep .faultLog = false := by assumption) (w_hbm : q.keep .hbm = false := by assumption) (w_caches : q.keep .caches = false := by assumption) (w_mem : q.keep .mem = false := by assumption) (w_sluice : q.keep .sluice = false := by assumption) (w_freeCtr : q.keep .freeCtr = false := by assumption) : GoodO q (Sys2Proof.Machine.execKeyWrap id s) := by
  unfold Sys2Proof.Machine.execKeyWrap
  repeat' first
    | with_reducible assumption
    | with_reducible apply goodO_next
    | intro _
    | with_reducible apply State_withKey_good
    | with_reducible apply State_deliver'_good
    | with_reducible apply runDesc_good
    | with_reducible apply State_slotBroken_good
    | with_reducible apply good_foldl
    | with_reducible apply good_foldl_fst
    | split
    | with_reducible refine good_fst (by assumption) ?_
    | with_reducible refine good_snd (by assumption) ?_
    | with_reducible refine good_snd2 (by assumption) ?_
    | dsimp only

theorem execKeyGen_good {q : Kept} (id : Nat) {s : State} (h : Good q s) (w_regs : q.keep .regs = false := by assumption) (w_host : q.keep .host = false := by assumption) (w_sluice : q.keep .sluice = false := by assumption) (w_rngCtr : q.keep .rngCtr = false := by assumption) (w_freeCtr : q.keep .freeCtr = false := by assumption) : GoodO q (Sys2Proof.Machine.execKeyGen id s) := by
  unfold Sys2Proof.Machine.execKeyGen
  repeat' first
    | with_reducible assumption
    | with_reducible apply goodO_next
    | intro _
    | with_reducible apply State_writeSlot_good
    | with_reducible apply State_openLen_good
    | with_reducible apply State_random_good
    | with_reducible apply runDesc_good
    | with_reducible apply State_enqueue_good
    | with_reducible apply good_foldl
    | with_reducible apply good_foldl_fst
    | split
    | with_reducible refine good_fst (by assumption) ?_
    | with_reducible refine good_snd (by assumption) ?_
    | with_reducible refine good_snd2 (by assumption) ?_
    | dsimp only

theorem execKeyDerive_good {q : Kept} (id : Nat) (src : ReadOutcome) (aux : ReadOutcome) {s : State} (h : Good q s) (w_regs : q.keep .regs = false := by assumption) (w_pages : q.keep .pages = false := by assumption) (w_msgs : q.keep .msgs = false := by assumption) (w_host : q.keep .host = false := by assumption) (w_faultLog : q.keep .faultLog = false := by assumption) (w_hbm : q.keep .hbm = false := by assumption) (w_caches : q.keep .caches = false := by assumption) (w_mem : q.keep .mem = false := by assumption) (w_sluice : q.keep .sluice = false := by assumption) (w_freeCtr : q.keep .freeCtr = false := by assumption) : GoodO q (Sys2Proof.Machine.execKeyDerive id src aux s) := by
  unfold Sys2Proof.Machine.execKeyDerive
  repeat' first
    | with_reducible assumption
    | with_reducible apply goodO_next
    | intro _
    | with_reducible apply State_openLen_good
    | with_reducible apply runDesc_good
    | with_reducible apply State_withKey_good
    | with_reducible apply State_withSrc_good
    | with_reducible apply State_withAux_good
    | with_reducible apply State_installKey_good
    | with_reducible apply good_foldl
    | with_reducible apply good_foldl_fst
    | split

theorem execKeyClear_good {q : Kept} (id : Nat) {s : State} (h : Good q s) (w_regs : q.keep .regs = false := by assumption) (w_host : q.keep .host = false := by assumption) (w_sluice : q.keep .sluice = false := by assumption) : GoodO q (Sys2Proof.Machine.execKeyClear id s) := by
  unfold Sys2Proof.Machine.execKeyClear
  repeat' first
    | with_reducible assumption
    | with_reducible apply goodO_next
    | intro _
    | with_reducible apply State_clearSlot_good
    | with_reducible apply runDesc_good
    | with_reducible apply good_foldl
    | with_reducible apply good_foldl_fst
    | split

theorem execKeyInfo_good {q : Kept} (id : Nat) {s : State} (h : Good q s) (w_regs : q.keep .regs = false := by assumption) (w_pages : q.keep .pages = false := by assumption) (w_msgs : q.keep .msgs = false := by assumption) (w_host : q.keep .host = false := by assumption) (w_faultLog : q.keep .faultLog = false := by assumption) (w_hbm : q.keep .hbm = false := by assumption) (w_caches : q.keep .caches = false := by assumption) (w_mem : q.keep .mem = false := by assumption) (w_sluice : q.keep .sluice = false := by assumption) (w_freeCtr : q.keep .freeCtr = false := by assumption) : GoodO q (Sys2Proof.Machine.execKeyInfo id s) := by
  unfold Sys2Proof.Machine.execKeyInfo
  repeat' first
    | with_reducible assumption
    | with_reducible apply goodO_next
    | intro _
    | with_reducible apply State_deliver'_good
    | with_reducible apply runDesc_good
    | with_reducible apply State_slotBroken_good
    | with_reducible apply good_foldl
    | with_reducible apply good_foldl_fst
    | split

theorem State_sealPrepare_good {q : Kept} {s : State} (fn : Nat) (key : Nat) (alg : Nat) (len : Nat) (read : State → State × Status × List Byte) (h : Good q s) (hread : ∀ x0, Good q x0 → Good q (read x0).1) (w_regs : q.keep .regs = false := by assumption) (w_pages : q.keep .pages = false := by assumption) (w_msgs : q.keep .msgs = false := by assumption) (w_faultLog : q.keep .faultLog = false := by assumption) (w_sluice : q.keep .sluice = false := by assumption) : Good q (Sys2Proof.Machine.State.sealPrepare s fn key alg len read).1 := by
  unfold Sys2Proof.Machine.State.sealPrepare
  repeat' first
    | with_reducible assumption
    | with_reducible apply goodO_next
    | intro _
    | with_reducible apply hread
    | with_reducible apply State_slotBroken_good
    | with_reducible apply good_foldl
    | with_reducible apply good_foldl_fst
    | split
    | with_reducible refine good_fst (by assumption) ?_

theorem execSealDesc_good {q : Kept} (id : Nat) (src : ReadOutcome) {s : State} (h : Good q s) (w_regs : q.keep .regs = false := by assumption) (w_pages : q.keep .pages = false := by assumption) (w_msgs : q.keep .msgs = false := by assumption) (w_host : q.keep .host = false := by assumption) (w_faultLog : q.keep .faultLog = false := by assumption) (w_hbm : q.keep .hbm = false := by assumption) (w_caches : q.keep .caches = false := by assumption) (w_mem : q.keep .mem = false := by assumption) (w_sluice : q.keep .sluice = false := by assumption) (w_freeCtr : q.keep .freeCtr = false := by assumption) : GoodO q (Sys2Proof.Machine.execSealDesc id src s) := by
  unfold Sys2Proof.Machine.execSealDesc
  repeat' first
    | with_reducible assumption
    | with_reducible apply goodO_next
    | intro _
    | with_reducible apply State_sealPrepare_good
    | with_reducible apply State_enqueue_good
    | with_reducible apply State_withKey_good
    | with_reducible apply runDesc_good
    | with_reducible apply State_writeOutput_good
    | with_reducible apply State_readOperand_good
    | with_reducible apply good_foldl
    | with_reducible apply good_foldl_fst
    | split
    | with_reducible refine good_fst (by assumption) ?_
    | with_reducible refine good_snd (by assumption) ?_
    | with_reducible refine good_snd2 (by assumption) ?_
    | dsimp only

theorem execSealChk_good {q : Kept} (id : Nat) (src : ReadOutcome) (aux : ReadOutcome) {s : State} (h : Good q s) (w_regs : q.keep .regs = false := by assumption) (w_pages : q.keep .pages = false := by assumption) (w_msgs : q.keep .msgs = false := by assumption) (w_host : q.keep .host = false := by assumption) (w_faultLog : q.keep .faultLog = false := by assumption) (w_hbm : q.keep .hbm = false := by assumption) (w_caches : q.keep .caches = false := by assumption) (w_mem : q.keep .mem = false := by assumption) (w_sluice : q.keep .sluice = false := by assumption) (w_freeCtr : q.keep .freeCtr = false := by assumption) : GoodO q (Sys2Proof.Machine.execSealChk id src aux s) := by
  unfold Sys2Proof.Machine.execSealChk
  repeat' first
    | with_reducible assumption
    | with_reducible apply goodO_next
    | intro _
    | with_reducible apply runDesc_good
    | with_reducible apply State_withKey_good
    | with_reducible apply State_withSrc_good
    | with_reducible apply State_withAux_good
    | with_reducible apply State_enqueue_good
    | with_reducible apply good_foldl
    | with_reducible apply good_foldl_fst
    | split
    | with_reducible refine good_fst (by assumption) ?_
    | with_reducible refine good_snd (by assumption) ?_
    | with_reducible refine good_snd2 (by assumption) ?_
    | dsimp only

theorem execRqDoorbell_good {q : Kept} (fn : Nat) (f : Nat) (r : Nat) (p : Nat) {s : State} (h : Good q s) (w_regs : q.keep .regs = false := by assumption) (w_pages : q.keep .pages = false := by assumption) (w_msgs : q.keep .msgs = false := by assumption) (w_held : q.keep .held = false := by assumption) : GoodO q (Sys2Proof.Machine.execRqDoorbell fn f r p s) := by
  unfold Sys2Proof.Machine.execRqDoorbell
  repeat' first
    | with_reducible assumption
    | with_reducible apply goodO_next
    | intro _
    | with_reducible apply State_set_good
    | with_reducible apply State_hold_good
    | with_reducible apply State_raise_good
    | with_reducible apply State_capture_good
    | with_reducible apply mmio_good
    | with_reducible apply good_foldl
    | with_reducible apply good_foldl_fst
    | split

theorem execCqDoorbell_good {q : Kept} (fn : Nat) (f : Nat) (r : Nat) (p : Nat) {s : State} (h : Good q s) (w_regs : q.keep .regs = false := by assumption) (w_pages : q.keep .pages = false := by assumption) (w_msgs : q.keep .msgs = false := by assumption) (w_held : q.keep .held = false := by assumption) : GoodO q (Sys2Proof.Machine.execCqDoorbell fn f r p s) := by
  unfold Sys2Proof.Machine.execCqDoorbell
  repeat' first
    | with_reducible assumption
    | with_reducible apply goodO_next
    | intro _
    | with_reducible apply State_set_good
    | with_reducible apply State_hold_good
    | with_reducible apply State_raise_good
    | with_reducible apply State_capture_good
    | with_reducible apply mmio_good
    | with_reducible apply good_foldl
    | with_reducible apply good_foldl_fst
    | split

theorem State_setReqRing_good {q : Kept} {s : State} (f : Nat) (r : Nat) (v : ReqRing) (h : Good q s) (w_sluice : q.keep .sluice = false := by assumption) : Good q (Sys2Proof.Machine.State.setReqRing s f r v) := by
  unfold Sys2Proof.Machine.State.setReqRing
  repeat' first
    | with_reducible assumption
    | with_reducible apply goodO_next
    | intro _
    | with_reducible apply good_foldl
    | with_reducible apply good_foldl_fst
    | split
    | with_reducible refine good_fst (by assumption) ?_
    | with_reducible refine good_snd (by assumption) ?_
    | with_reducible refine good_snd2 (by assumption) ?_
    | dsimp only
    | with_reducible refine good_mk (t := _) ?_ rfl rfl rfl rfl rfl rfl rfl rfl

theorem execRqEnable_good {q : Kept} (fn : Nat) (f : Nat) (r : Nat) (cq : Nat) (en : Bool) {s : State} (h : Good q s) (w_regs : q.keep .regs = false := by assumption) (w_pages : q.keep .pages = false := by assumption) (w_msgs : q.keep .msgs = false := by assumption) (w_sluice : q.keep .sluice = false := by assumption) : GoodO q (Sys2Proof.Machine.execRqEnable fn f r cq en s) := by
  unfold Sys2Proof.Machine.execRqEnable
  repeat' first
    | with_reducible assumption
    | with_reducible apply goodO_next
    | intro _
    | with_reducible apply State_set_good
    | with_reducible apply State_flag_good
    | with_reducible apply State_refuseWrite_good
    | with_reducible apply mmio_good
    | with_reducible apply State_setReqRing_good
    | with_reducible apply good_foldl
    | with_reducible apply good_foldl_fst
    | split

theorem execCqEnable_good {q : Kept} (fn : Nat) (f : Nat) (r : Nat) (en : Bool) {s : State} (h : Good q s) (w_regs : q.keep .regs = false := by assumption) (w_pages : q.keep .pages = false := by assumption) (w_msgs : q.keep .msgs = false := by assumption) : GoodO q (Sys2Proof.Machine.execCqEnable fn f r en s) := by
  unfold Sys2Proof.Machine.execCqEnable
  repeat' first
    | with_reducible assumption
    | with_reducible apply goodO_next
    | intro _
    | with_reducible apply State_set_good
    | with_reducible apply State_flag_good
    | with_reducible apply State_refuseWrite_good
    | with_reducible apply mmio_good
    | with_reducible apply good_foldl
    | with_reducible apply good_foldl_fst
    | split

theorem State_takeRequest_good {q : Kept} {s : State} (f : Nat) (r : Nat) (d : Desc) (c : Option RingChain) (first : Bool) (h : Good q s) (w_regs : q.keep .regs = false := by assumption) (w_sluice : q.keep .sluice = false := by assumption) : Good q (Sys2Proof.Machine.State.takeRequest s f r d c first) := by
  unfold Sys2Proof.Machine.State.takeRequest
  repeat' first
    | with_reducible assumption
    | with_reducible apply goodO_next
    | intro _
    | with_reducible apply State_setReqRing_good
    | with_reducible apply State_add_good
    | with_reducible apply good_foldl
    | with_reducible apply good_foldl_fst
    | split
    | with_reducible refine good_fst (by assumption) ?_
    | with_reducible refine good_snd (by assumption) ?_
    | with_reducible refine good_snd2 (by assumption) ?_
    | dsimp only
    | with_reducible refine good_mk (t := _) ?_ rfl rfl rfl rfl rfl rfl rfl rfl

theorem State_cqEdge_good {q : Kept} {s : State} (before : State) (f : Nat) (r : Nat) (h : Good q s) (w_pages : q.keep .pages = false := by assumption) (w_msgs : q.keep .msgs = false := by assumption) : Good q (Sys2Proof.Machine.State.cqEdge s before f r) := by
  unfold Sys2Proof.Machine.State.cqEdge
  repeat' first
    | with_reducible assumption
    | with_reducible apply goodO_next
    | intro _
    | with_reducible apply State_raiseEdge_good

theorem State_fetchNext_good {q : Kept} {s : State} (f : Nat) (r : Nat) (h : Good q s) (w_regs : q.keep .regs = false := by assumption) (w_pages : q.keep .pages = false := by assumption) (w_msgs : q.keep .msgs = false := by assumption) (w_sluice : q.keep .sluice = false := by assumption) : ∀ (r0 : List (List Byte)), Good q (Sys2Proof.Machine.State.fetchNext s f r r0) := by
  intro r0
  unfold Sys2Proof.Machine.State.fetchNext
  repeat' first
    | with_reducible assumption
    | with_reducible apply goodO_next
    | intro _
    | with_reducible apply State_takeRequest_good
    | with_reducible apply State_cqEdge_good
    | with_reducible apply good_foldl
    | with_reducible apply good_foldl_fst
    | split

theorem State_readEntries_good {q : Kept} (r0 : List ReadOutcome) (w_regs : q.keep .regs = false := by assumption) (w_pages : q.keep .pages = false := by assumption) (w_msgs : q.keep .msgs = false := by assumption) (w_host : q.keep .host = false := by assumption) (w_freeCtr : q.keep .freeCtr = false := by assumption) : ∀ (s : State) (f : Nat) (r : Nat) (n : Nat) (i : Nat), Good q s → Good q (Sys2Proof.Machine.State.readEntries s f r n i r0).1 := by
  induction r0 with
  | nil =>
    intro s f r n i h
    cases n <;> exact h
  | cons o os ih =>
    intro s f r n i h
    cases n with
    | zero => exact h
    | succ n =>
      simp only [Sys2Proof.Machine.State.readEntries]
      repeat' first
        | with_reducible assumption
        | with_reducible apply ih
        | with_reducible apply State_hostFetch_good
        | split
        | with_reducible refine good_fst (by assumption) ?_

theorem execSluiceFetch_good {q : Kept} (f : Nat) (r : Nat) (entries : List ReadOutcome) {s : State} (h : Good q s) (w_regs : q.keep .regs = false := by assumption) (w_pages : q.keep .pages = false := by assumption) (w_msgs : q.keep .msgs = false := by assumption) (w_host : q.keep .host = false := by assumption) (w_sluice : q.keep .sluice = false := by assumption) (w_freeCtr : q.keep .freeCtr = false := by assumption) : GoodO q (Sys2Proof.Machine.execSluiceFetch f r entries s) := by
  unfold Sys2Proof.Machine.execSluiceFetch
  repeat' first
    | with_reducible assumption
    | with_reducible apply goodO_next
    | intro _
    | with_reducible apply State_readEntries_good
    | with_reducible apply event_good
    | with_reducible apply State_fetchNext_good
    | with_reducible apply good_foldl
    | with_reducible apply good_foldl_fst
    | split
    | with_reducible refine good_fst (by assumption) ?_

theorem State_dropDescs_good {q : Kept} {s : State} (p : Desc → Bool) (h : Good q s) (w_sluice : q.keep .sluice = false := by assumption) : Good q (Sys2Proof.Machine.State.dropDescs s p) := by
  unfold Sys2Proof.Machine.State.dropDescs
  repeat' first
    | with_reducible assumption
    | with_reducible apply goodO_next
    | intro _
    | with_reducible apply good_foldl
    | with_reducible apply good_foldl_fst
    | split
    | with_reducible refine good_fst (by assumption) ?_
    | with_reducible refine good_snd (by assumption) ?_
    | with_reducible refine good_snd2 (by assumption) ?_
    | dsimp only
    | with_reducible refine good_mk (t := _) ?_ rfl rfl rfl rfl rfl rfl rfl rfl

theorem execDescComplete_good {q : Kept} (id : Nat) {s : State} (h : Good q s) (w_regs : q.keep .regs = false := by assumption) (w_pages : q.keep .pages = false := by assumption) (w_msgs : q.keep .msgs = false := by assumption) (w_host : q.keep .host = false := by assumption) (w_sluice : q.keep .sluice = false := by assumption) (w_freeCtr : q.keep .freeCtr = false := by assumption) : GoodO q (Sys2Proof.Machine.execDescComplete id s) := by
  unfold Sys2Proof.Machine.execDescComplete
  repeat' first
    | with_reducible assumption
    | with_reducible apply goodO_next
    | intro _
    | with_reducible apply State_dropDescs_good
    | with_reducible apply State_refuseOpcode_good
    | with_reducible apply State_hostWrite_good
    | with_reducible apply event_good
    | with_reducible apply State_raise_good
    | with_reducible apply State_add_good
    | with_reducible apply good_foldl
    | with_reducible apply good_foldl_fst
    | split
    | with_reducible refine good_fst (by assumption) ?_
    | with_reducible refine good_snd (by assumption) ?_
    | with_reducible refine good_snd2 (by assumption) ?_
    | dsimp only
    | with_reducible refine good_mk (t := _) ?_ rfl rfl rfl rfl rfl rfl rfl rfl

theorem execSlotCmdClear_good {q : Kept} (fn : Nat) (slot : Nat) {s : State} (h : Good q s) (w_regs : q.keep .regs = false := by assumption) (w_pages : q.keep .pages = false := by assumption) (w_msgs : q.keep .msgs = false := by assumption) (w_sluice : q.keep .sluice = false := by assumption) (w_held : q.keep .held = false := by assumption) : GoodO q (Sys2Proof.Machine.execSlotCmdClear fn slot s) := by
  unfold Sys2Proof.Machine.execSlotCmdClear
  repeat' first
    | with_reducible assumption
    | with_reducible apply goodO_next
    | intro _
    | with_reducible apply command_good
    | with_reducible apply State_clearSlot_good

theorem execFnWinWrite_good {q : Kept} (fn : Nat) (f : Nat) (base : Nat) (cnt : Nat) (plainOk : Bool) {s : State} (h : Good q s) (w_regs : q.keep .regs = false := by assumption) (w_pages : q.keep .pages = false := by assumption) (w_msgs : q.keep .msgs = false := by assumption) : GoodO q (Sys2Proof.Machine.execFnWinWrite fn f base cnt plainOk s) := by
  unfold Sys2Proof.Machine.execFnWinWrite
  repeat' first
    | with_reducible assumption
    | with_reducible apply goodO_next
    | intro _
    | with_reducible apply State_set_good
    | with_reducible apply State_flag_good
    | with_reducible apply State_refuseWrite_good
    | with_reducible apply mmio_good
    | with_reducible apply good_foldl
    | with_reducible apply good_foldl_fst
    | split
    | with_reducible refine good_fst (by assumption) ?_
    | with_reducible refine good_snd (by assumption) ?_
    | with_reducible refine good_snd2 (by assumption) ?_
    | dsimp only

end Sys2Proof.Laws
end

