-- ==== Sys2Proof/Laws/KeepPke.lean ====
section
/-!
SUPPORT. What the operations of Machine/Pke.lean keep.
-/

set_option Elab.async false

namespace Sys2Proof.Laws

open Sys2Proof.Machine

theorem State_drawNats_good {q : Kept} (r0 : Nat) (w_rngCtr : q.keep .rngCtr = false := by assumption) : ∀ (s : State) (n : Nat), Good q s → Good q (Sys2Proof.Machine.State.drawNats s n r0).2 := by
  induction r0 with
  | zero =>
    intro s n h
    unfold Sys2Proof.Machine.State.drawNats
    repeat' first
      | with_reducible assumption
  | succ n ih =>
    intro s n h
    unfold Sys2Proof.Machine.State.drawNats
    repeat' first
      | with_reducible assumption
      | with_reducible apply goodO_next
      | intro _
      | with_reducible apply ih
      | with_reducible apply State_drawRandom_good

theorem State_keyCheck_good {q : Kept} {s : State} (cls : Nat) (key : List Byte) (h : Good q s) (w_rngCtr : q.keep .rngCtr = false := by assumption) : Good q (Sys2Proof.Machine.State.keyCheck s cls key).2 := by
  unfold Sys2Proof.Machine.State.keyCheck
  repeat' first
    | with_reducible assumption
    | with_reducible apply goodO_next
    | intro _
    | with_reducible apply State_drawNats_good
    | with_reducible apply good_foldl
    | with_reducible apply good_foldl_fst
    | split

theorem State_drawSeed_good {q : Kept} (r0 : Nat) (w_rngCtr : q.keep .rngCtr = false := by assumption) : ∀ (s : State), Good q s → Good q (Sys2Proof.Machine.State.drawSeed s r0).2 := by
  induction r0 with
  | zero =>
    intro s h
    unfold Sys2Proof.Machine.State.drawSeed
    repeat' first
      | with_reducible assumption
      | with_reducible apply goodO_next
      | intro _
      | with_reducible apply State_drawRandom_good
  | succ n ih =>
    intro s h
    unfold Sys2Proof.Machine.State.drawSeed
    repeat' first
      | with_reducible assumption
      | with_reducible apply goodO_next
      | intro _
      | with_reducible apply ih
      | with_reducible apply State_drawRandom_good
      | with_reducible apply good_foldl
      | with_reducible apply good_foldl_fst
      | split
      | with_reducible refine good_fst (by assumption) ?_
      | with_reducible refine good_snd (by assumption) ?_

theorem State_findPrime_good {q : Kept} (r0 : Nat) (w_rngCtr : q.keep .rngCtr = false := by assumption) : ∀ (s : State), Good q s → Good q (Sys2Proof.Machine.State.findPrime s r0).2 := by
  induction r0 with
  | zero =>
    intro s h
    unfold Sys2Proof.Machine.State.findPrime
    repeat' first
      | with_reducible assumption
  | succ n ih =>
    intro s h
    unfold Sys2Proof.Machine.State.findPrime
    repeat' first
      | with_reducible assumption
      | with_reducible apply goodO_next
      | intro _
      | with_reducible apply ih
      | with_reducible apply State_drawRandom_good
      | with_reducible apply State_drawNats_good
      | with_reducible apply good_foldl
      | with_reducible apply good_foldl_fst
      | split
      | with_reducible refine good_fst (by assumption) ?_
      | with_reducible refine good_snd (by assumption) ?_
      | with_reducible refine good_snd2 (by assumption) ?_
      | dsimp only

theorem State_generate_good {q : Kept} {s : State} (cls : Nat) (h : Good q s) (w_rngCtr : q.keep .rngCtr = false := by assumption) : Good q (Sys2Proof.Machine.State.generate s cls).2.2 := by
  unfold Sys2Proof.Machine.State.generate
  repeat' first
    | with_reducible assumption
    | with_reducible apply goodO_next
    | intro _
    | with_reducible apply State_drawRandom_good
    | with_reducible apply State_keyCheck_good
    | with_reducible apply State_drawSeed_good
    | with_reducible apply State_findPrime_good
    | with_reducible apply good_foldl
    | with_reducible apply good_foldl_fst
    | split
    | with_reducible refine good_fst (by assumption) ?_
    | with_reducible refine good_snd (by assumption) ?_

theorem State_nonce_good {q : Kept} {s : State} (j : PkeJob) (h : Good q s) (w_rngCtr : q.keep .rngCtr = false := by assumption) : Good q (Sys2Proof.Machine.State.nonce s j).2 := by
  unfold Sys2Proof.Machine.State.nonce
  repeat' first
    | with_reducible assumption
    | with_reducible apply goodO_next
    | intro _
    | with_reducible apply State_drawRandom_good
    | with_reducible apply good_foldl
    | with_reducible apply good_foldl_fst
    | split

theorem State_signOutcome_good {q : Kept} {s : State} (j : PkeJob) (h : Good q s) (w_rngCtr : q.keep .rngCtr = false := by assumption) : Good q (Sys2Proof.Machine.State.signOutcome s j).2 := by
  unfold Sys2Proof.Machine.State.signOutcome
  repeat' first
    | with_reducible assumption
    | with_reducible apply goodO_next
    | intro _
    | with_reducible apply State_nonce_good

theorem State_curveOutcome_good {q : Kept} {s : State} (j : PkeJob) (h : Good q s) (w_rngCtr : q.keep .rngCtr = false := by assumption) : Good q (Sys2Proof.Machine.State.curveOutcome s j).2 := by
  unfold Sys2Proof.Machine.State.curveOutcome
  repeat' first
    | with_reducible assumption
    | with_reducible apply goodO_next
    | intro _
    | with_reducible apply State_drawNats_good

theorem State_outcome_good {q : Kept} {s : State} (j : PkeJob) (h : Good q s) (w_rngCtr : q.keep .rngCtr = false := by assumption) : Good q (Sys2Proof.Machine.State.outcome s j).2.2 := by
  unfold Sys2Proof.Machine.State.outcome
  repeat' first
    | with_reducible assumption
    | with_reducible apply goodO_next
    | intro _
    | with_reducible apply State_keyCheck_good
    | with_reducible apply State_generate_good
    | with_reducible apply State_signOutcome_good
    | with_reducible apply State_curveOutcome_good
    | with_reducible apply good_foldl
    | with_reducible apply good_foldl_fst
    | split

theorem State_curveEnds_good {q : Kept} {s : State} (j : PkeJob) (o : PkeOut) (h : Good q s) (w_regs : q.keep .regs = false := by assumption) (w_pages : q.keep .pages = false := by assumption) (w_msgs : q.keep .msgs = false := by assumption) (w_sluice : q.keep .sluice = false := by assumption) : Good q (Sys2Proof.Machine.State.curveEnds s j o) := by
  unfold Sys2Proof.Machine.State.curveEnds
  repeat' first
    | with_reducible assumption
    | with_reducible apply goodO_next
    | intro _
    | with_reducible apply State_capture_good
    | with_reducible apply State_raise_good
    | with_reducible apply State_flag_good
    | with_reducible apply State_add_good
    | with_reducible apply State_set_good
    | with_reducible apply good_foldl
    | with_reducible apply good_foldl_fst
    | split
    | with_reducible refine good_fst (by assumption) ?_
    | with_reducible refine good_snd (by assumption) ?_
    | with_reducible refine good_snd2 (by assumption) ?_
    | dsimp only
    | with_reducible refine good_mk (t := _) ?_ rfl rfl rfl rfl rfl rfl rfl rfl

theorem State_finishJob_good {q : Kept} {s : State} (j : PkeJob) (o : PkeOut) (h : Good q s) (w_regs : q.keep .regs = false := by assumption) (w_pages : q.keep .pages = false := by assumption) (w_msgs : q.keep .msgs = false := by assumption) (w_host : q.keep .host = false := by assumption) (w_faultLog : q.keep .faultLog = false := by assumption) (w_hbm : q.keep .hbm = false := by assumption) (w_caches : q.keep .caches = false := by assumption) (w_mem : q.keep .mem = false := by assumption) (w_sluice : q.keep .sluice = false := by assumption) (w_freeCtr : q.keep .freeCtr = false := by assumption) : Good q (Sys2Proof.Machine.State.finishJob s j o) := by
  unfold Sys2Proof.Machine.State.finishJob
  repeat' first
    | with_reducible assumption
    | with_reducible apply goodO_next
    | intro _
    | with_reducible apply State_curveEnds_good
    | with_reducible apply State_writeOutput_good
    | with_reducible apply State_endDesc_good
    | with_reducible apply State_writeSlot_good
    | with_reducible apply State_flag_good
    | with_reducible apply State_add_good
    | with_reducible apply State_set_good
    | with_reducible apply good_foldl
    | with_reducible apply good_foldl_fst
    | split
    | with_reducible refine good_fst (by assumption) ?_
    | with_reducible refine good_snd (by assumption) ?_
    | with_reducible refine good_snd2 (by assumption) ?_
    | dsimp only
    | with_reducible refine good_mk (t := _) ?_ rfl rfl rfl rfl rfl rfl rfl rfl

theorem runPke_good {q : Kept} (op : Nat) (id : Nat) {s : State} (checks : State → Desc → List (Bool × Status × Nat)) (work : State → Desc → OpRes) (h : Good q s) (hwork : ∀ x0 x1, Good q x0 → Good q (work x0 x1).1) (w_regs : q.keep .regs = false := by assumption) (w_host : q.keep .host = false := by assumption) (w_sluice : q.keep .sluice = false := by assumption) : GoodO q (Sys2Proof.Machine.runPke op id s checks work) := by
  unfold Sys2Proof.Machine.runPke
  repeat' first
    | with_reducible assumption
    | with_reducible apply goodO_next
    | intro _
    | with_reducible apply hwork
    | with_reducible apply runDesc_good

theorem State_pkeWork_good {q : Kept} {s : State} (d : Desc) (src : ReadOutcome) (aux : ReadOutcome) (hasAux : Bool) (dst : Option Nat) (mk : List Byte → List Byte → PkeJob) (h : Good q s) (w_regs : q.keep .regs = false := by assumption) (w_pages : q.keep .pages = false := by assumption) (w_msgs : q.keep .msgs = false := by assumption) (w_host : q.keep .host = false := by assumption) (w_faultLog : q.keep .faultLog = false := by assumption) (w_hbm : q.keep .hbm = false := by assumption) (w_caches : q.keep .caches = false := by assumption) (w_mem : q.keep .mem = false := by assumption) (w_sluice : q.keep .sluice = false := by assumption) (w_freeCtr : q.keep .freeCtr = false := by assumption) : Good q (Sys2Proof.Machine.State.pkeWork s d src aux hasAux dst mk).1 := by
  unfold Sys2Proof.Machine.State.pkeWork
  repeat' first
    | with_reducible assumption
    | with_reducible apply goodO_next
    | intro _
    | with_reducible apply State_withSrc_good
    | with_reducible apply State_withAux_good
    | with_reducible apply State_enqueue_good
    | with_reducible apply good_foldl
    | with_reducible apply good_foldl_fst
    | split

theorem execEcdsaSign_good {q : Kept} (id : Nat) (src : ReadOutcome) {s : State} (h : Good q s) (w_regs : q.keep .regs = false := by assumption) (w_pages : q.keep .pages = false := by assumption) (w_msgs : q.keep .msgs = false := by assumption) (w_host : q.keep .host = false := by assumption) (w_faultLog : q.keep .faultLog = false := by assumption) (w_hbm : q.keep .hbm = false := by assumption) (w_caches : q.keep .caches = false := by assumption) (w_mem : q.keep .mem = false := by assumption) (w_sluice : q.keep .sluice = false := by assumption) (w_freeCtr : q.keep .freeCtr = false := by assumption) : GoodO q (Sys2Proof.Machine.execEcdsaSign id src s) := by
  unfold Sys2Proof.Machine.execEcdsaSign
  repeat' first
    | with_reducible assumption
    | with_reducible apply goodO_next
    | intro _
    | with_reducible apply State_withKey_good
    | with_reducible apply runPke_good
    | with_reducible apply State_pkeWork_good

theorem execEcdsaVerify_good {q : Kept} (id : Nat) (src : ReadOutcome) (aux : ReadOutcome) {s : State} (h : Good q s) (w_regs : q.keep .regs = false := by assumption) (w_pages : q.keep .pages = false := by assumption) (w_msgs : q.keep .msgs = false := by assumption) (w_host : q.keep .host = false := by assumption) (w_faultLog : q.keep .faultLog = false := by assumption) (w_hbm : q.keep .hbm = false := by assumption) (w_caches : q.keep .caches = false := by assumption) (w_mem : q.keep .mem = false := by assumption) (w_sluice : q.keep .sluice = false := by assumption) (w_freeCtr : q.keep .freeCtr = false := by assumption) : GoodO q (Sys2Proof.Machine.execEcdsaVerify id src aux s) := by
  unfold Sys2Proof.Machine.execEcdsaVerify
  repeat' first
    | with_reducible assumption
    | with_reducible apply goodO_next
    | intro _
    | with_reducible apply State_withKey_good
    | with_reducible apply runPke_good
    | with_reducible apply State_pkeWork_good

theorem execEcdsaVerifyExt_good {q : Kept} (id : Nat) (src : ReadOutcome) (aux : ReadOutcome) {s : State} (h : Good q s) (w_regs : q.keep .regs = false := by assumption) (w_pages : q.keep .pages = false := by assumption) (w_msgs : q.keep .msgs = false := by assumption) (w_host : q.keep .host = false := by assumption) (w_faultLog : q.keep .faultLog = false := by assumption) (w_hbm : q.keep .hbm = false := by assumption) (w_caches : q.keep .caches = false := by assumption) (w_mem : q.keep .mem = false := by assumption) (w_sluice : q.keep .sluice = false := by assumption) (w_freeCtr : q.keep .freeCtr = false := by assumption) : GoodO q (Sys2Proof.Machine.execEcdsaVerifyExt id src aux s) := by
  unfold Sys2Proof.Machine.execEcdsaVerifyExt
  repeat' first
    | with_reducible assumption
    | with_reducible apply goodO_next
    | intro _
    | with_reducible apply runPke_good
    | with_reducible apply State_pkeWork_good

theorem State_toSlot_good {q : Kept} {s : State} (d : Desc) (k : Nat → Bool → OpRes) (h : Good q s) (hk : ∀ x0 x1, Good q (k x0 x1).1) : Good q (Sys2Proof.Machine.State.toSlot s d k).1 := by
  unfold Sys2Proof.Machine.State.toSlot
  repeat' first
    | with_reducible assumption
    | with_reducible apply goodO_next
    | intro _
    | with_reducible apply hk
    | with_reducible apply good_foldl
    | with_reducible apply good_foldl_fst
    | split

theorem execShared_good {q : Kept} (op : Nat) (cls : Nat) (n : Nat) (id : Nat) (src : ReadOutcome) {s : State} (h : Good q s) (w_regs : q.keep .regs = false := by assumption) (w_pages : q.keep .pages = false := by assumption) (w_msgs : q.keep .msgs = false := by assumption) (w_host : q.keep .host = false := by assumption) (w_faultLog : q.keep .faultLog = false := by assumption) (w_hbm : q.keep .hbm = false := by assumption) (w_caches : q.keep .caches = false := by assumption) (w_mem : q.keep .mem = false := by assumption) (w_sluice : q.keep .sluice = false := by assumption) (w_freeCtr : q.keep .freeCtr = false := by assumption) : GoodO q (Sys2Proof.Machine.execShared op cls n id src s) := by
  unfold Sys2Proof.Machine.execShared
  repeat' first
    | with_reducible assumption
    | with_reducible apply goodO_next
    | intro _
    | with_reducible apply State_withKey_good
    | with_reducible apply runPke_good
    | with_reducible apply State_pkeWork_good
    | with_reducible apply State_toSlot_good

theorem execEcdhP256_good {q : Kept} (id : Nat) (src : ReadOutcome) {s : State} (h : Good q s) (w_regs : q.keep .regs = false := by assumption) (w_pages : q.keep .pages = false := by assumption) (w_msgs : q.keep .msgs = false := by assumption) (w_host : q.keep .host = false := by assumption) (w_faultLog : q.keep .faultLog = false := by assumption) (w_hbm : q.keep .hbm = false := by assumption) (w_caches : q.keep .caches = false := by assumption) (w_mem : q.keep .mem = false := by assumption) (w_sluice : q.keep .sluice = false := by assumption) (w_freeCtr : q.keep .freeCtr = false := by assumption) : GoodO q (Sys2Proof.Machine.execEcdhP256 id src s) := by
  unfold Sys2Proof.Machine.execEcdhP256
  repeat' first
    | with_reducible assumption
    | with_reducible apply goodO_next
    | intro _
    | with_reducible apply execShared_good

theorem execEd25519Sign_good {q : Kept} (id : Nat) (src : ReadOutcome) {s : State} (h : Good q s) (w_regs : q.keep .regs = false := by assumption) (w_pages : q.keep .pages = false := by assumption) (w_msgs : q.keep .msgs = false := by assumption) (w_host : q.keep .host = false := by assumption) (w_faultLog : q.keep .faultLog = false := by assumption) (w_hbm : q.keep .hbm = false := by assumption) (w_caches : q.keep .caches = false := by assumption) (w_mem : q.keep .mem = false := by assumption) (w_sluice : q.keep .sluice = false := by assumption) (w_freeCtr : q.keep .freeCtr = false := by assumption) : GoodO q (Sys2Proof.Machine.execEd25519Sign id src s) := by
  unfold Sys2Proof.Machine.execEd25519Sign
  repeat' first
    | with_reducible assumption
    | with_reducible apply goodO_next
    | intro _
    | with_reducible apply State_withKey_good
    | with_reducible apply runPke_good
    | with_reducible apply State_pkeWork_good

theorem execEd25519Verify_good {q : Kept} (id : Nat) (src : ReadOutcome) (aux : ReadOutcome) {s : State} (h : Good q s) (w_regs : q.keep .regs = false := by assumption) (w_pages : q.keep .pages = false := by assumption) (w_msgs : q.keep .msgs = false := by assumption) (w_host : q.keep .host = false := by assumption) (w_faultLog : q.keep .faultLog = false := by assumption) (w_hbm : q.keep .hbm = false := by assumption) (w_caches : q.keep .caches = false := by assumption) (w_mem : q.keep .mem = false := by assumption) (w_sluice : q.keep .sluice = false := by assumption) (w_freeCtr : q.keep .freeCtr = false := by assumption) : GoodO q (Sys2Proof.Machine.execEd25519Verify id src aux s) := by
  unfold Sys2Proof.Machine.execEd25519Verify
  repeat' first
    | with_reducible assumption
    | with_reducible apply goodO_next
    | intro _
    | with_reducible apply State_withKey_good
    | with_reducible apply runPke_good
    | with_reducible apply State_pkeWork_good

theorem execEd25519VerifyExt_good {q : Kept} (id : Nat) (src : ReadOutcome) (aux : ReadOutcome) {s : State} (h : Good q s) (w_regs : q.keep .regs = false := by assumption) (w_pages : q.keep .pages = false := by assumption) (w_msgs : q.keep .msgs = false := by assumption) (w_host : q.keep .host = false := by assumption) (w_faultLog : q.keep .faultLog = false := by assumption) (w_hbm : q.keep .hbm = false := by assumption) (w_caches : q.keep .caches = false := by assumption) (w_mem : q.keep .mem = false := by assumption) (w_sluice : q.keep .sluice = false := by assumption) (w_freeCtr : q.keep .freeCtr = false := by assumption) : GoodO q (Sys2Proof.Machine.execEd25519VerifyExt id src aux s) := by
  unfold Sys2Proof.Machine.execEd25519VerifyExt
  repeat' first
    | with_reducible assumption
    | with_reducible apply goodO_next
    | intro _
    | with_reducible apply runPke_good
    | with_reducible apply State_pkeWork_good

theorem execX25519_good {q : Kept} (id : Nat) (src : ReadOutcome) {s : State} (h : Good q s) (w_regs : q.keep .regs = false := by assumption) (w_pages : q.keep .pages = false := by assumption) (w_msgs : q.keep .msgs = false := by assumption) (w_host : q.keep .host = false := by assumption) (w_faultLog : q.keep .faultLog = false := by assumption) (w_hbm : q.keep .hbm = false := by assumption) (w_caches : q.keep .caches = false := by assumption) (w_mem : q.keep .mem = false := by assumption) (w_sluice : q.keep .sluice = false := by assumption) (w_freeCtr : q.keep .freeCtr = false := by assumption) : GoodO q (Sys2Proof.Machine.execX25519 id src s) := by
  unfold Sys2Proof.Machine.execX25519
  repeat' first
    | with_reducible assumption
    | with_reducible apply goodO_next
    | intro _
    | with_reducible apply execShared_good

theorem execRsaPriv_good {q : Kept} (id : Nat) (src : ReadOutcome) {s : State} (h : Good q s) (w_regs : q.keep .regs = false := by assumption) (w_pages : q.keep .pages = false := by assumption) (w_msgs : q.keep .msgs = false := by assumption) (w_host : q.keep .host = false := by assumption) (w_faultLog : q.keep .faultLog = false := by assumption) (w_hbm : q.keep .hbm = false := by assumption) (w_caches : q.keep .caches = false := by assumption) (w_mem : q.keep .mem = false := by assumption) (w_sluice : q.keep .sluice = false := by assumption) (w_freeCtr : q.keep .freeCtr = false := by assumption) : GoodO q (Sys2Proof.Machine.execRsaPriv id src s) := by
  unfold Sys2Proof.Machine.execRsaPriv
  repeat' first
    | with_reducible assumption
    | with_reducible apply goodO_next
    | intro _
    | with_reducible apply State_withKey_good
    | with_reducible apply runPke_good
    | with_reducible apply State_pkeWork_good

theorem execRsaPub_good {q : Kept} (id : Nat) (src : ReadOutcome) (aux : ReadOutcome) {s : State} (h : Good q s) (w_regs : q.keep .regs = false := by assumption) (w_pages : q.keep .pages = false := by assumption) (w_msgs : q.keep .msgs = false := by assumption) (w_host : q.keep .host = false := by assumption) (w_faultLog : q.keep .faultLog = false := by assumption) (w_hbm : q.keep .hbm = false := by assumption) (w_caches : q.keep .caches = false := by assumption) (w_mem : q.keep .mem = false := by assumption) (w_sluice : q.keep .sluice = false := by assumption) (w_freeCtr : q.keep .freeCtr = false := by assumption) : GoodO q (Sys2Proof.Machine.execRsaPub id src aux s) := by
  unfold Sys2Proof.Machine.execRsaPub
  repeat' first
    | with_reducible assumption
    | with_reducible apply goodO_next
    | intro _
    | with_reducible apply runPke_good
    | with_reducible apply State_pkeWork_good

theorem execPointCheck_good {q : Kept} (id : Nat) (src : ReadOutcome) {s : State} (h : Good q s) (w_regs : q.keep .regs = false := by assumption) (w_pages : q.keep .pages = false := by assumption) (w_msgs : q.keep .msgs = false := by assumption) (w_host : q.keep .host = false := by assumption) (w_faultLog : q.keep .faultLog = false := by assumption) (w_hbm : q.keep .hbm = false := by assumption) (w_caches : q.keep .caches = false := by assumption) (w_mem : q.keep .mem = false := by assumption) (w_sluice : q.keep .sluice = false := by assumption) (w_freeCtr : q.keep .freeCtr = false := by assumption) : GoodO q (Sys2Proof.Machine.execPointCheck id src s) := by
  unfold Sys2Proof.Machine.execPointCheck
  repeat' first
    | with_reducible assumption
    | with_reducible apply goodO_next
    | intro _
    | with_reducible apply runPke_good
    | with_reducible apply State_pkeWork_good

theorem execCurveLoad_good {q : Kept} (id : Nat) (src : ReadOutcome) {s : State} (h : Good q s) (w_regs : q.keep .regs = false := by assumption) (w_pages : q.keep .pages = false := by assumption) (w_msgs : q.keep .msgs = false := by assumption) (w_host : q.keep .host = false := by assumption) (w_faultLog : q.keep .faultLog = false := by assumption) (w_hbm : q.keep .hbm = false := by assumption) (w_caches : q.keep .caches = false := by assumption) (w_mem : q.keep .mem = false := by assumption) (w_sluice : q.keep .sluice = false := by assumption) (w_freeCtr : q.keep .freeCtr = false := by assumption) : GoodO q (Sys2Proof.Machine.execCurveLoad id src s) := by
  unfold Sys2Proof.Machine.execCurveLoad
  repeat' first
    | with_reducible assumption
    | with_reducible apply goodO_next
    | intro _
    | with_reducible apply State_withSrc_good
    | with_reducible apply State_enqueue_good
    | with_reducible apply runPke_good
    | with_reducible apply good_foldl
    | with_reducible apply good_foldl_fst
    | split

theorem execCurveClear_good {q : Kept} (id : Nat) {s : State} (h : Good q s) (w_regs : q.keep .regs = false := by assumption) (w_host : q.keep .host = false := by assumption) (w_sluice : q.keep .sluice = false := by assumption) : GoodO q (Sys2Proof.Machine.execCurveClear id s) := by
  unfold Sys2Proof.Machine.execCurveClear
  repeat' first
    | with_reducible assumption
    | with_reducible apply goodO_next
    | intro _
    | with_reducible apply State_enqueue_good
    | with_reducible apply runPke_good
    | with_reducible apply good_foldl
    | with_reducible apply good_foldl_fst
    | split

theorem State_setUnit_good {q : Kept} {s : State} (u : Nat) (r : Option PkeRun) (h : Good q s) (w_sluice : q.keep .sluice = false := by assumption) : Good q (Sys2Proof.Machine.State.setUnit s u r) := by
  unfold Sys2Proof.Machine.State.setUnit
  repeat' first
    | with_reducible assumption
    | with_reducible apply goodO_next
    | intro _
    | with_reducible apply good_foldl
    | with_reducible apply good_foldl_fst
    | split
    | with_reducible refine good_fst (by assumption) ?_
    | with_reducible refine good_snd (by assumption) ?_
    | with_reducible refine good_snd2 (by assumption) ?_
    | dsimp only
    | with_reducible refine good_mk (t := _) ?_ rfl rfl rfl rfl rfl rfl rfl rfl

theorem State_blind_good {q : Kept} {s : State} (j : PkeJob) (h : Good q s) (w_sluice : q.keep .sluice = false := by assumption) (w_rngCtr : q.keep .rngCtr = false := by assumption) : Good q (Sys2Proof.Machine.State.blind s j) := by
  unfold Sys2Proof.Machine.State.blind
  repeat' first
    | with_reducible assumption
    | with_reducible apply goodO_next
    | intro _
    | with_reducible apply State_countRandom_good
    | with_reducible apply State_drawRandom_good
    | with_reducible apply good_foldl
    | with_reducible apply good_foldl_fst
    | split

theorem State_startPke_good {q : Kept} {s : State} (u : Nat) (j : PkeJob) (h : Good q s) (w_regs : q.keep .regs = false := by assumption) (w_pages : q.keep .pages = false := by assumption) (w_msgs : q.keep .msgs = false := by assumption) (w_host : q.keep .host = false := by assumption) (w_faultLog : q.keep .faultLog = false := by assumption) (w_hbm : q.keep .hbm = false := by assumption) (w_caches : q.keep .caches = false := by assumption) (w_mem : q.keep .mem = false := by assumption) (w_sluice : q.keep .sluice = false := by assumption) (w_rngCtr : q.keep .rngCtr = false := by assumption) (w_freeCtr : q.keep .freeCtr = false := by assumption) : Good q (Sys2Proof.Machine.State.startPke s u j) := by
  unfold Sys2Proof.Machine.State.startPke
  repeat' first
    | with_reducible assumption
    | with_reducible apply goodO_next
    | intro _
    | with_reducible apply State_blind_good
    | with_reducible apply State_setUnit_good
    | with_reducible apply State_finishJob_good
    | with_reducible apply State_outcome_good
    | with_reducible apply good_foldl
    | with_reducible apply good_foldl_fst
    | split

theorem execPkeUnitStart_good {q : Kept} (u : Nat) {s : State} (h : Good q s) (w_regs : q.keep .regs = false := by assumption) (w_pages : q.keep .pages = false := by assumption) (w_msgs : q.keep .msgs = false := by assumption) (w_host : q.keep .host = false := by assumption) (w_faultLog : q.keep .faultLog = false := by assumption) (w_hbm : q.keep .hbm = false := by assumption) (w_caches : q.keep .caches = false := by assumption) (w_mem : q.keep .mem = false := by assumption) (w_sluice : q.keep .sluice = false := by assumption) (w_rngCtr : q.keep .rngCtr = false := by assumption) (w_freeCtr : q.keep .freeCtr = false := by assumption) : GoodO q (Sys2Proof.Machine.execPkeUnitStart u s) := by
  unfold Sys2Proof.Machine.execPkeUnitStart
  repeat' first
    | with_reducible assumption
    | with_reducible apply goodO_next
    | intro _
    | with_reducible apply event_good
    | with_reducible apply State_setUnit_good
    | with_reducible apply State_startPke_good
    | with_reducible apply good_foldl
    | with_reducible apply good_foldl_fst
    | split
    | with_reducible refine good_fst (by assumption) ?_
    | with_reducible refine good_snd (by assumption) ?_
    | with_reducible refine good_snd2 (by assumption) ?_
    | dsimp only
    | with_reducible refine good_mk (t := _) ?_ rfl rfl rfl rfl rfl rfl rfl rfl

theorem State_yieldAt_good {q : Kept} {s : State} (u : Nat) (h : Good q s) (w_regs : q.keep .regs = false := by assumption) (w_sluice : q.keep .sluice = false := by assumption) : Good q (Sys2Proof.Machine.State.yieldAt s u) := by
  unfold Sys2Proof.Machine.State.yieldAt
  repeat' first
    | with_reducible assumption
    | with_reducible apply goodO_next
    | intro _
    | with_reducible apply State_setUnit_good
    | with_reducible apply State_add_good
    | with_reducible apply good_foldl
    | with_reducible apply good_foldl_fst
    | split

theorem execPkeYieldPoint_good {q : Kept} (us : List Nat) {s : State} (h : Good q s) (w_regs : q.keep .regs = false := by assumption) (w_sluice : q.keep .sluice = false := by assumption) : GoodO q (Sys2Proof.Machine.execPkeYieldPoint us s) := by
  unfold Sys2Proof.Machine.execPkeYieldPoint
  repeat' first
    | with_reducible assumption
    | with_reducible apply goodO_next
    | intro _
    | with_reducible apply State_yieldAt_good
    | with_reducible apply event_good
    | with_reducible apply good_foldl

theorem execPkeParkDone_good {q : Kept} (u : Nat) {s : State} (h : Good q s) (w_sluice : q.keep .sluice = false := by assumption) : GoodO q (Sys2Proof.Machine.execPkeParkDone u s) := by
  unfold Sys2Proof.Machine.execPkeParkDone
  repeat' first
    | with_reducible assumption
    | with_reducible apply goodO_next
    | intro _
    | with_reducible apply event_good
    | with_reducible apply State_setUnit_good
    | with_reducible apply good_foldl
    | with_reducible apply good_foldl_fst
    | split
    | with_reducible refine good_fst (by assumption) ?_
    | with_reducible refine good_snd (by assumption) ?_
    | with_reducible refine good_snd2 (by assumption) ?_
    | dsimp only
    | with_reducible refine good_mk (t := _) ?_ rfl rfl rfl rfl rfl rfl rfl rfl

theorem execPkeValidationEnd_good {q : Kept} (u : Nat) {s : State} (h : Good q s) (w_regs : q.keep .regs = false := by assumption) (w_pages : q.keep .pages = false := by assumption) (w_msgs : q.keep .msgs = false := by assumption) (w_host : q.keep .host = false := by assumption) (w_faultLog : q.keep .faultLog = false := by assumption) (w_hbm : q.keep .hbm = false := by assumption) (w_caches : q.keep .caches = false := by assumption) (w_mem : q.keep .mem = false := by assumption) (w_sluice : q.keep .sluice = false := by assumption) (w_freeCtr : q.keep .freeCtr = false := by assumption) : GoodO q (Sys2Proof.Machine.execPkeValidationEnd u s) := by
  unfold Sys2Proof.Machine.execPkeValidationEnd
  repeat' first
    | with_reducible assumption
    | with_reducible apply goodO_next
    | intro _
    | with_reducible apply event_good
    | with_reducible apply State_finishJob_good
    | with_reducible apply State_setUnit_good
    | with_reducible apply good_foldl
    | with_reducible apply good_foldl_fst
    | split

theorem execPkeOpComplete_good {q : Kept} (u : Nat) (fault : Bool) {s : State} (h : Good q s) (w_regs : q.keep .regs = false := by assumption) (w_pages : q.keep .pages = false := by assumption) (w_msgs : q.keep .msgs = false := by assumption) (w_host : q.keep .host = false := by assumption) (w_faultLog : q.keep .faultLog = false := by assumption) (w_hbm : q.keep .hbm = false := by assumption) (w_caches : q.keep .caches = false := by assumption) (w_mem : q.keep .mem = false := by assumption) (w_sluice : q.keep .sluice = false := by assumption) (w_freeCtr : q.keep .freeCtr = false := by assumption) : GoodO q (Sys2Proof.Machine.execPkeOpComplete u fault s) := by
  unfold Sys2Proof.Machine.execPkeOpComplete
  repeat' first
    | with_reducible assumption
    | with_reducible apply goodO_next
    | intro _
    | with_reducible apply State_add_good
    | with_reducible apply State_raise_good
    | with_reducible apply State_capture_good
    | with_reducible apply event_good
    | with_reducible apply State_fault_good
    | with_reducible apply State_finishJob_good
    | with_reducible apply State_setUnit_good
    | with_reducible apply good_foldl
    | with_reducible apply good_foldl_fst
    | split

end Sys2Proof.Laws
end

