-- ==== Sys2Proof/Laws/KeepProtect.lean ====
section
/-!
SUPPORT. What the operations of Machine/Protect.lean keep.
-/

set_option Elab.async false

namespace Sys2Proof.Laws

open Sys2Proof.Machine

theorem State_domRefused_good {q : Kept} {s : State} (fn : Nat) (d : Nat) (op : Nat) (h : Good q s) (w_regs : q.keep .regs = false := by assumption) (w_pages : q.keep .pages = false := by assumption) : Good q (Sys2Proof.Machine.State.domRefused s fn d op) := by
  unfold Sys2Proof.Machine.State.domRefused
  repeat' first
    | with_reducible assumption
    | with_reducible apply goodO_next
    | intro _
    | with_reducible apply State_set_good
    | with_reducible apply State_refuseWrite_good
    | with_reducible apply good_foldl
    | with_reducible apply good_foldl_fst
    | split

theorem State_domBusy_good {q : Kept} {s : State} (d : Nat) (op : Nat) (st : Status) (ks : List Byte) (h : Good q s) (w_regs : q.keep .regs = false := by assumption) (w_mem : q.keep .mem = false := by assumption) : Good q (Sys2Proof.Machine.State.domBusy s d op st ks) := by
  unfold Sys2Proof.Machine.State.domBusy
  repeat' first
    | with_reducible assumption
    | with_reducible apply goodO_next
    | intro _
    | with_reducible apply State_flag_good
    | with_reducible apply State_setKeys_good

theorem State_domLoad_good {q : Kept} {s : State} (d : Nat) (op : Nat) (g : Nat) (h : Good q s) (w_regs : q.keep .regs = false := by assumption) (w_pages : q.keep .pages = false := by assumption) (w_msgs : q.keep .msgs = false := by assumption) (w_faultLog : q.keep .faultLog = false := by assumption) (w_mem : q.keep .mem = false := by assumption) (w_sluice : q.keep .sluice = false := by assumption) (w_freeCtr : q.keep .freeCtr = false := by assumption) : Good q (Sys2Proof.Machine.State.domLoad s d op g) := by
  unfold Sys2Proof.Machine.State.domLoad
  repeat' first
    | with_reducible assumption
    | with_reducible apply goodO_next
    | intro _
    | with_reducible apply State_domBusy_good
    | with_reducible apply State_slotBroken_good
    | with_reducible apply State_logProt_good
    | with_reducible apply State_drawFree_good
    | with_reducible apply State_capture_good
    | with_reducible apply good_foldl
    | with_reducible apply good_foldl_fst
    | split

theorem execLoadCur_good {q : Kept} (fn : Nat) (d : Nat) {s : State} (h : Good q s) (w_regs : q.keep .regs = false := by assumption) (w_pages : q.keep .pages = false := by assumption) (w_msgs : q.keep .msgs = false := by assumption) (w_faultLog : q.keep .faultLog = false := by assumption) (w_mem : q.keep .mem = false := by assumption) (w_sluice : q.keep .sluice = false := by assumption) (w_freeCtr : q.keep .freeCtr = false := by assumption) (w_held : q.keep .held = false := by assumption) : GoodO q (Sys2Proof.Machine.execLoadCur fn d s) := by
  unfold Sys2Proof.Machine.execLoadCur
  repeat' first
    | with_reducible assumption
    | with_reducible apply goodO_next
    | intro _
    | with_reducible apply State_domLoad_good
    | with_reducible apply State_domRefused_good
    | with_reducible apply mmio_good
    | with_reducible apply State_hold_good
    | with_reducible apply good_foldl
    | with_reducible apply good_foldl_fst
    | split

theorem execLoadNext_good {q : Kept} (fn : Nat) (d : Nat) {s : State} (h : Good q s) (w_regs : q.keep .regs = false := by assumption) (w_pages : q.keep .pages = false := by assumption) (w_msgs : q.keep .msgs = false := by assumption) (w_faultLog : q.keep .faultLog = false := by assumption) (w_mem : q.keep .mem = false := by assumption) (w_sluice : q.keep .sluice = false := by assumption) (w_freeCtr : q.keep .freeCtr = false := by assumption) (w_held : q.keep .held = false := by assumption) : GoodO q (Sys2Proof.Machine.execLoadNext fn d s) := by
  unfold Sys2Proof.Machine.execLoadNext
  repeat' first
    | with_reducible assumption
    | with_reducible apply goodO_next
    | intro _
    | with_reducible apply State_domLoad_good
    | with_reducible apply State_domRefused_good
    | with_reducible apply mmio_good
    | with_reducible apply State_hold_good
    | with_reducible apply good_foldl
    | with_reducible apply good_foldl_fst
    | split

theorem execRekeyStart_good {q : Kept} (fn : Nat) (d : Nat) {s : State} (h : Good q s) (w_regs : q.keep .regs = false := by assumption) (w_pages : q.keep .pages = false := by assumption) (w_msgs : q.keep .msgs = false := by assumption) : GoodO q (Sys2Proof.Machine.execRekeyStart fn d s) := by
  unfold Sys2Proof.Machine.execRekeyStart
  repeat' first
    | with_reducible assumption
    | with_reducible apply goodO_next
    | intro _
    | with_reducible apply State_set_good
    | with_reducible apply State_setPair_good
    | with_reducible apply mmio_good
    | with_reducible apply State_domRefused_good
    | with_reducible apply good_foldl
    | with_reducible apply good_foldl_fst
    | split

theorem execDomDisable_good {q : Kept} (fn : Nat) (d : Nat) {s : State} (h : Good q s) (w_regs : q.keep .regs = false := by assumption) (w_pages : q.keep .pages = false := by assumption) (w_msgs : q.keep .msgs = false := by assumption) (w_mem : q.keep .mem = false := by assumption) : GoodO q (Sys2Proof.Machine.execDomDisable fn d s) := by
  unfold Sys2Proof.Machine.execDomDisable
  repeat' first
    | with_reducible assumption
    | with_reducible apply goodO_next
    | intro _
    | with_reducible apply State_set_good
    | with_reducible apply mmio_good
    | with_reducible apply State_setKeys_good
    | with_reducible apply State_domRefused_good
    | with_reducible apply State_domBusy_good
    | with_reducible apply good_foldl
    | with_reducible apply good_foldl_fst
    | split

theorem execDomCmdDone_good {q : Kept} (d : Nat) {s : State} (h : Good q s) (w_regs : q.keep .regs = false := by assumption) (w_pages : q.keep .pages = false := by assumption) (w_msgs : q.keep .msgs = false := by assumption) (w_mem : q.keep .mem = false := by assumption) : GoodO q (Sys2Proof.Machine.execDomCmdDone d s) := by
  unfold Sys2Proof.Machine.execDomCmdDone
  repeat' first
    | with_reducible assumption
    | with_reducible apply goodO_next
    | intro _
    | with_reducible apply State_set_good
    | with_reducible apply State_flag_good
    | with_reducible apply State_raise_good
    | with_reducible apply event_good
    | with_reducible apply State_setKeys_good
    | with_reducible apply good_foldl
    | with_reducible apply good_foldl_fst
    | split

theorem State_sweepRead_good {q : Kept} {s : State} (d : Nat) (l : Nat) (fn : Nat) (h : Good q s) (w_regs : q.keep .regs = false := by assumption) (w_pages : q.keep .pages = false := by assumption) (w_msgs : q.keep .msgs = false := by assumption) (w_faultLog : q.keep .faultLog = false := by assumption) (w_hbm : q.keep .hbm = false := by assumption) (w_caches : q.keep .caches = false := by assumption) (w_mem : q.keep .mem = false := by assumption) (w_freeCtr : q.keep .freeCtr = false := by assumption) : Good q (Sys2Proof.Machine.State.sweepRead s d l fn).1 := by
  unfold Sys2Proof.Machine.State.sweepRead
  repeat' first
    | with_reducible assumption
    | with_reducible apply goodO_next
    | intro _
    | with_reducible apply State_downgrade_good
    | with_reducible apply State_settled_good
    | with_reducible apply State_poison_good
    | with_reducible apply State_tagFail_good
    | with_reducible apply State_lineCe_good
    | with_reducible apply State_add_good
    | with_reducible apply good_foldl
    | with_reducible apply good_foldl_fst
    | split
    | with_reducible refine good_fst (by assumption) ?_
    | with_reducible refine good_snd (by assumption) ?_
    | with_reducible refine good_snd2 (by assumption) ?_
    | dsimp only

theorem State_rekeyDone_good {q : Kept} {s : State} (d : Nat) (h : Good q s) (w_regs : q.keep .regs = false := by assumption) (w_pages : q.keep .pages = false := by assumption) (w_msgs : q.keep .msgs = false := by assumption) (w_mem : q.keep .mem = false := by assumption) : Good q (Sys2Proof.Machine.State.rekeyDone s d) := by
  unfold Sys2Proof.Machine.State.rekeyDone
  repeat' first
    | with_reducible assumption
    | with_reducible apply goodO_next
    | intro _
    | with_reducible apply State_set_good
    | with_reducible apply State_add_good
    | with_reducible apply State_raise_good
    | with_reducible apply State_setKeys_good

theorem execRekeySweepLine_good {q : Kept} (d : Nat) {s : State} (h : Good q s) (w_regs : q.keep .regs = false := by assumption) (w_pages : q.keep .pages = false := by assumption) (w_msgs : q.keep .msgs = false := by assumption) (w_faultLog : q.keep .faultLog = false := by assumption) (w_hbm : q.keep .hbm = false := by assumption) (w_caches : q.keep .caches = false := by assumption) (w_mem : q.keep .mem = false := by assumption) (w_freeCtr : q.keep .freeCtr = false := by assumption) : GoodO q (Sys2Proof.Machine.execRekeySweepLine d s) := by
  unfold Sys2Proof.Machine.execRekeySweepLine
  repeat' first
    | with_reducible assumption
    | with_reducible apply goodO_next
    | intro _
    | with_reducible apply State_rekeyDone_good
    | with_reducible apply State_sweepRead_good
    | with_reducible apply State_homeWrite_good
    | with_reducible apply event_good
    | with_reducible apply State_setPair_good
    | with_reducible apply State_add_good
    | with_reducible apply good_foldl
    | with_reducible apply good_foldl_fst
    | split

theorem execProtFill_good {q : Kept} (fn : Nat) {s : State} (h : Good q s) (w_regs : q.keep .regs = false := by assumption) (w_pages : q.keep .pages = false := by assumption) (w_msgs : q.keep .msgs = false := by assumption) (w_mem : q.keep .mem = false := by assumption) : GoodO q (Sys2Proof.Machine.execProtFill fn s) := by
  unfold Sys2Proof.Machine.execProtFill
  repeat' first
    | with_reducible assumption
    | with_reducible apply goodO_next
    | intro _
    | with_reducible apply State_set_good
    | with_reducible apply State_flag_good
    | with_reducible apply State_raise_good
    | with_reducible apply State_refuseWrite_good
    | with_reducible apply mmio_good
    | with_reducible apply good_foldl
    | with_reducible apply good_foldl_fst
    | split
    | with_reducible refine good_fst (by assumption) ?_
    | with_reducible refine good_snd (by assumption) ?_
    | with_reducible refine good_snd2 (by assumption) ?_
    | dsimp only
    | with_reducible refine good_mk (t := _) ?_ rfl rfl rfl rfl rfl rfl rfl rfl

theorem execProtFillLine_good {q : Kept} {s : State} (h : Good q s) (w_regs : q.keep .regs = false := by assumption) (w_pages : q.keep .pages = false := by assumption) (w_msgs : q.keep .msgs = false := by assumption) (w_faultLog : q.keep .faultLog = false := by assumption) (w_hbm : q.keep .hbm = false := by assumption) (w_caches : q.keep .caches = false := by assumption) (w_mem : q.keep .mem = false := by assumption) (w_freeCtr : q.keep .freeCtr = false := by assumption) : GoodO q (Sys2Proof.Machine.execProtFillLine s) := by
  unfold Sys2Proof.Machine.execProtFillLine
  repeat' first
    | with_reducible assumption
    | with_reducible apply goodO_next
    | intro _
    | with_reducible apply State_agentWrite_good
    | with_reducible apply event_good
    | with_reducible apply State_raise_good
    | with_reducible apply State_flag_good
    | with_reducible apply State_set_good
    | with_reducible apply good_foldl
    | with_reducible apply good_foldl_fst
    | split
    | with_reducible refine good_fst (by assumption) ?_
    | with_reducible refine good_snd (by assumption) ?_
    | with_reducible refine good_snd2 (by assumption) ?_
    | dsimp only
    | with_reducible refine good_mk (t := _) ?_ rfl rfl rfl rfl rfl rfl rfl rfl

theorem execPlPop_good {q : Kept} (fn : Nat) {s : State} (h : Good q s) (w_regs : q.keep .regs = false := by assumption) (w_pages : q.keep .pages = false := by assumption) (w_readData : q.keep .readData = false := by assumption) (w_msgs : q.keep .msgs = false := by assumption) (w_mem : q.keep .mem = false := by assumption) : GoodO q (Sys2Proof.Machine.execPlPop fn s) := by
  unfold Sys2Proof.Machine.execPlPop
  repeat' first
    | with_reducible assumption
    | with_reducible apply goodO_next
    | intro _
    | with_reducible apply State_set_good
    | with_reducible apply State_setPair_good
    | with_reducible apply mmioRead_good
    | with_reducible apply good_foldl
    | with_reducible apply good_foldl_fst
    | split
    | with_reducible refine good_fst (by assumption) ?_
    | with_reducible refine good_snd (by assumption) ?_
    | with_reducible refine good_snd2 (by assumption) ?_
    | dsimp only
    | with_reducible refine good_mk (t := _) ?_ rfl rfl rfl rfl rfl rfl rfl rfl
    | with_reducible refine good_le (t := _) ?_ rfl rfl rfl rfl (by first | exact Nat.le_refl _ | exact Nat.zero_le _ | exact len_tail (by assumption)) (by first | exact Nat.le_refl _ | exact Nat.zero_le _ | exact len_tail (by assumption)) (by first | exact Nat.le_refl _ | exact Nat.zero_le _ | exact len_tail (by assumption)) (by first | exact Nat.le_refl _ | exact Nat.zero_le _ | exact len_tail (by assumption))

end Sys2Proof.Laws
end

