-- ==== Sys2Proof/Laws/KeepCounters.lean ====
section
/-!
SUPPORT. What the operations of Machine/Counters.lean keep.
-/

set_option Elab.async false

namespace Sys2Proof.Laws

open Sys2Proof.Machine

theorem State_setCounter_good {q : Kept} {s : State} (c : Nat) (v : Counter) (h : Good q s) (w_sync : q.keep .sync = false := by assumption) : Good q (Sys2Proof.Machine.State.setCounter s c v) := by
  unfold Sys2Proof.Machine.State.setCounter
  repeat' first
    | with_reducible assumption
    | with_reducible apply goodO_next
    | intro _
    | with_reducible apply good_foldl
    | with_reducible apply good_foldl_fst
    | split
    | with_reducible refine good_fst (by assumption) ?_
    | with_reducible refine good_snd (by assumption) ?_
    | with_reducible refine good_snd2 (by assumption) ?_
    | dsimp only
    | with_reducible refine good_mk (t := _) ?_ rfl rfl rfl rfl rfl rfl rfl rfl

theorem State_raiseCtr_good {q : Kept} {s : State} (c : Nat) (bit : Nat) (h : Good q s) (w_pages : q.keep .pages = false := by assumption) (w_msgs : q.keep .msgs = false := by assumption) : Good q (Sys2Proof.Machine.State.raiseCtr s c bit) := by
  unfold Sys2Proof.Machine.State.raiseCtr
  repeat' first
    | with_reducible assumption
    | with_reducible apply goodO_next
    | intro _
    | with_reducible apply State_raiseFn_good
    | with_reducible apply good_foldl
    | with_reducible apply good_foldl_fst
    | split

theorem State_fireWatch_good {q : Kept} {s : State} (c : Nat) (h : Good q s) (w_pages : q.keep .pages = false := by assumption) (w_msgs : q.keep .msgs = false := by assumption) (w_sync : q.keep .sync = false := by assumption) : Good q (Sys2Proof.Machine.State.fireWatch s c) := by
  unfold Sys2Proof.Machine.State.fireWatch
  repeat' first
    | with_reducible assumption
    | with_reducible apply goodO_next
    | intro _
    | with_reducible apply State_setCounter_good
    | with_reducible apply State_raiseCtr_good
    | with_reducible apply good_foldl
    | with_reducible apply good_foldl_fst
    | split
    | with_reducible refine good_fst (by assumption) ?_
    | with_reducible refine good_snd (by assumption) ?_
    | with_reducible refine good_snd2 (by assumption) ?_
    | dsimp only

theorem State_putValue_good {q : Kept} {s : State} (c : Nat) (v : Nat) (h : Good q s) (w_pages : q.keep .pages = false := by assumption) (w_msgs : q.keep .msgs = false := by assumption) (w_sync : q.keep .sync = false := by assumption) : Good q (Sys2Proof.Machine.State.putValue s c v) := by
  unfold Sys2Proof.Machine.State.putValue
  repeat' first
    | with_reducible assumption
    | with_reducible apply goodO_next
    | intro _
    | with_reducible apply State_setCounter_good
    | with_reducible apply State_fireWatch_good
    | with_reducible apply good_foldl
    | with_reducible apply good_foldl_fst
    | split
    | with_reducible refine good_fst (by assumption) ?_
    | with_reducible refine good_snd (by assumption) ?_
    | with_reducible refine good_snd2 (by assumption) ?_
    | dsimp only
    | with_reducible refine good_mk (t := _) ?_ rfl rfl rfl rfl rfl rfl rfl rfl

theorem State_saturate_good {q : Kept} {s : State} (c : Nat) (high : Bool) (h : Good q s) (w_pages : q.keep .pages = false := by assumption) (w_msgs : q.keep .msgs = false := by assumption) (w_sync : q.keep .sync = false := by assumption) : Good q (Sys2Proof.Machine.State.saturate s c high) := by
  unfold Sys2Proof.Machine.State.saturate
  repeat' first
    | with_reducible assumption
    | with_reducible apply goodO_next
    | intro _
    | with_reducible apply State_setCounter_good
    | with_reducible apply State_raiseCtr_good
    | with_reducible apply good_foldl
    | with_reducible apply good_foldl_fst
    | split
    | with_reducible refine good_fst (by assumption) ?_
    | with_reducible refine good_snd (by assumption) ?_
    | with_reducible refine good_snd2 (by assumption) ?_
    | dsimp only

theorem State_ctrOp_good {q : Kept} {s : State} (op : CtrOp) (c : Nat) (v : Nat) (h : Good q s) (w_pages : q.keep .pages = false := by assumption) (w_msgs : q.keep .msgs = false := by assumption) (w_sync : q.keep .sync = false := by assumption) : Good q (Sys2Proof.Machine.State.ctrOp s op c v) := by
  unfold Sys2Proof.Machine.State.ctrOp
  repeat' first
    | with_reducible assumption
    | with_reducible apply goodO_next
    | intro _
    | with_reducible apply State_setCounter_good
    | with_reducible apply State_fireWatch_good
    | with_reducible apply State_putValue_good
    | with_reducible apply State_saturate_good
    | with_reducible apply good_foldl
    | with_reducible apply good_foldl_fst
    | split

theorem State_ctrWait_good {q : Kept} {s : State} (w : Wait) (h : Good q s) (w_pages : q.keep .pages = false := by assumption) (w_msgs : q.keep .msgs = false := by assumption) (w_sync : q.keep .sync = false := by assumption) : Good q (Sys2Proof.Machine.State.ctrWait s w) := by
  unfold Sys2Proof.Machine.State.ctrWait
  repeat' first
    | with_reducible assumption
    | with_reducible apply goodO_next
    | intro _
    | with_reducible apply State_putValue_good
    | with_reducible apply good_foldl
    | with_reducible apply good_foldl_fst
    | split
    | with_reducible refine good_fst (by assumption) ?_
    | with_reducible refine good_snd (by assumption) ?_
    | with_reducible refine good_snd2 (by assumption) ?_
    | dsimp only
    | with_reducible refine good_mk (t := _) ?_ rfl rfl rfl rfl rfl rfl rfl rfl

theorem State_withdrawWait_good {q : Kept} {s : State} (core : Nat) (slot : Nat) (h : Good q s) (w_sync : q.keep .sync = false := by assumption) : Good q (Sys2Proof.Machine.State.withdrawWait s core slot) := by
  unfold Sys2Proof.Machine.State.withdrawWait
  repeat' first
    | with_reducible assumption
    | with_reducible apply goodO_next
    | intro _
    | with_reducible apply good_foldl
    | with_reducible apply good_foldl_fst
    | split
    | with_reducible refine good_fst (by assumption) ?_
    | with_reducible refine good_snd (by assumption) ?_
    | with_reducible refine good_snd2 (by assumption) ?_
    | dsimp only
    | with_reducible refine good_mk (t := _) ?_ rfl rfl rfl rfl rfl rfl rfl rfl

theorem State_remoteSignal_good {q : Kept} {s : State} (member : Nat) (c : Nat) (v : Nat) (h : Good q s) (w_regs : q.keep .regs = false := by assumption) (w_pages : q.keep .pages = false := by assumption) (w_msgs : q.keep .msgs = false := by assumption) (w_sync : q.keep .sync = false := by assumption) : Good q (Sys2Proof.Machine.State.remoteSignal s member c v).1 := by
  unfold Sys2Proof.Machine.State.remoteSignal
  repeat' first
    | with_reducible assumption
    | with_reducible apply goodO_next
    | intro _
    | with_reducible apply State_add_good
    | with_reducible apply State_raise_good
    | with_reducible apply State_capture_good
    | with_reducible apply State_ctrOp_good
    | with_reducible apply good_foldl
    | with_reducible apply good_foldl_fst
    | split
    | with_reducible refine good_fst (by assumption) ?_
    | with_reducible refine good_snd (by assumption) ?_
    | with_reducible refine good_snd2 (by assumption) ?_
    | dsimp only

theorem inOrderOf_good {q : Kept} (page : Nat) (cmd : Instr) {s : State} (body : State → Outcome) (h : Good q s) (hbody : ∀ x0, Good q x0 → GoodO q (body x0)) (w_held : q.keep .held = false := by assumption) : GoodO q (Sys2Proof.Machine.inOrderOf page cmd s body) := by
  unfold Sys2Proof.Machine.inOrderOf
  repeat' first
    | with_reducible assumption
    | with_reducible apply goodO_next
    | intro _
    | with_reducible apply hbody
    | with_reducible apply State_hold_good
    | with_reducible apply good_foldl
    | with_reducible apply good_foldl_fst
    | split

theorem windowCmd_good {q : Kept} (fn : Nat) (c : Nat) (cmd : Instr) {s : State} (body : State → State) (h : Good q s) (hbody : ∀ x0, Good q x0 → Good q (body x0)) (w_regs : q.keep .regs = false := by assumption) (w_pages : q.keep .pages = false := by assumption) (w_msgs : q.keep .msgs = false := by assumption) (w_held : q.keep .held = false := by assumption) : GoodO q (Sys2Proof.Machine.windowCmd fn c cmd s body) := by
  unfold Sys2Proof.Machine.windowCmd
  repeat' first
    | with_reducible assumption
    | with_reducible apply goodO_next
    | intro _
    | with_reducible apply hbody
    | with_reducible apply inOrderOf_good
    | with_reducible apply mmio_good
    | with_reducible apply State_hold_good
    | with_reducible apply good_foldl
    | with_reducible apply good_foldl_fst
    | split

theorem execCntSignal_good {q : Kept} (fn : Nat) (c : Nat) (v : Nat) {s : State} (h : Good q s) (w_regs : q.keep .regs = false := by assumption) (w_pages : q.keep .pages = false := by assumption) (w_msgs : q.keep .msgs = false := by assumption) (w_sync : q.keep .sync = false := by assumption) (w_held : q.keep .held = false := by assumption) : GoodO q (Sys2Proof.Machine.execCntSignal fn c v s) := by
  unfold Sys2Proof.Machine.execCntSignal
  repeat' first
    | with_reducible assumption
    | with_reducible apply goodO_next
    | intro _
    | with_reducible apply State_ctrOp_good
    | with_reducible apply windowCmd_good

theorem execCntSub_good {q : Kept} (fn : Nat) (c : Nat) (v : Nat) {s : State} (h : Good q s) (w_regs : q.keep .regs = false := by assumption) (w_pages : q.keep .pages = false := by assumption) (w_msgs : q.keep .msgs = false := by assumption) (w_sync : q.keep .sync = false := by assumption) (w_held : q.keep .held = false := by assumption) : GoodO q (Sys2Proof.Machine.execCntSub fn c v s) := by
  unfold Sys2Proof.Machine.execCntSub
  repeat' first
    | with_reducible assumption
    | with_reducible apply goodO_next
    | intro _
    | with_reducible apply State_ctrOp_good
    | with_reducible apply windowCmd_good

theorem execCntSet_good {q : Kept} (fn : Nat) (c : Nat) (v : Nat) {s : State} (h : Good q s) (w_regs : q.keep .regs = false := by assumption) (w_pages : q.keep .pages = false := by assumption) (w_msgs : q.keep .msgs = false := by assumption) (w_sync : q.keep .sync = false := by assumption) (w_held : q.keep .held = false := by assumption) : GoodO q (Sys2Proof.Machine.execCntSet fn c v s) := by
  unfold Sys2Proof.Machine.execCntSet
  repeat' first
    | with_reducible assumption
    | with_reducible apply goodO_next
    | intro _
    | with_reducible apply State_ctrOp_good
    | with_reducible apply windowCmd_good

theorem execCntArm_good {q : Kept} (fn : Nat) (c : Nat) (v : Nat) {s : State} (h : Good q s) (w_regs : q.keep .regs = false := by assumption) (w_pages : q.keep .pages = false := by assumption) (w_msgs : q.keep .msgs = false := by assumption) (w_sync : q.keep .sync = false := by assumption) (w_held : q.keep .held = false := by assumption) : GoodO q (Sys2Proof.Machine.execCntArm fn c v s) := by
  unfold Sys2Proof.Machine.execCntArm
  repeat' first
    | with_reducible assumption
    | with_reducible apply goodO_next
    | intro _
    | with_reducible apply State_ctrOp_good
    | with_reducible apply windowCmd_good

theorem execCntDisarm_good {q : Kept} (fn : Nat) (c : Nat) {s : State} (h : Good q s) (w_regs : q.keep .regs = false := by assumption) (w_pages : q.keep .pages = false := by assumption) (w_msgs : q.keep .msgs = false := by assumption) (w_sync : q.keep .sync = false := by assumption) (w_held : q.keep .held = false := by assumption) : GoodO q (Sys2Proof.Machine.execCntDisarm fn c s) := by
  unfold Sys2Proof.Machine.execCntDisarm
  repeat' first
    | with_reducible assumption
    | with_reducible apply goodO_next
    | intro _
    | with_reducible apply State_ctrOp_good
    | with_reducible apply windowCmd_good

theorem debugCmd_good {q : Kept} (fn : Nat) (cmd : Instr) {s : State} (body : Nat → State → State) (h : Good q s) (hbody : ∀ x0 x1, Good q x1 → Good q (body x0 x1)) (w_regs : q.keep .regs = false := by assumption) (w_pages : q.keep .pages = false := by assumption) (w_msgs : q.keep .msgs = false := by assumption) (w_held : q.keep .held = false := by assumption) : GoodO q (Sys2Proof.Machine.debugCmd fn cmd s body) := by
  unfold Sys2Proof.Machine.debugCmd
  repeat' first
    | with_reducible assumption
    | with_reducible apply goodO_next
    | intro _
    | with_reducible apply hbody
    | with_reducible apply inOrderOf_good
    | with_reducible apply mmio_good

theorem execDbgSignal_good {q : Kept} (fn : Nat) (v : Nat) {s : State} (h : Good q s) (w_regs : q.keep .regs = false := by assumption) (w_pages : q.keep .pages = false := by assumption) (w_msgs : q.keep .msgs = false := by assumption) (w_sync : q.keep .sync = false := by assumption) (w_held : q.keep .held = false := by assumption) : GoodO q (Sys2Proof.Machine.execDbgSignal fn v s) := by
  unfold Sys2Proof.Machine.execDbgSignal
  repeat' first
    | with_reducible assumption
    | with_reducible apply goodO_next
    | intro _
    | with_reducible apply State_ctrOp_good
    | with_reducible apply debugCmd_good

theorem execDbgSub_good {q : Kept} (fn : Nat) (v : Nat) {s : State} (h : Good q s) (w_regs : q.keep .regs = false := by assumption) (w_pages : q.keep .pages = false := by assumption) (w_msgs : q.keep .msgs = false := by assumption) (w_sync : q.keep .sync = false := by assumption) (w_held : q.keep .held = false := by assumption) : GoodO q (Sys2Proof.Machine.execDbgSub fn v s) := by
  unfold Sys2Proof.Machine.execDbgSub
  repeat' first
    | with_reducible assumption
    | with_reducible apply goodO_next
    | intro _
    | with_reducible apply State_ctrOp_good
    | with_reducible apply debugCmd_good

theorem execDbgSet_good {q : Kept} (fn : Nat) (v : Nat) {s : State} (h : Good q s) (w_regs : q.keep .regs = false := by assumption) (w_pages : q.keep .pages = false := by assumption) (w_msgs : q.keep .msgs = false := by assumption) (w_sync : q.keep .sync = false := by assumption) (w_held : q.keep .held = false := by assumption) : GoodO q (Sys2Proof.Machine.execDbgSet fn v s) := by
  unfold Sys2Proof.Machine.execDbgSet
  repeat' first
    | with_reducible assumption
    | with_reducible apply goodO_next
    | intro _
    | with_reducible apply State_ctrOp_good
    | with_reducible apply debugCmd_good

theorem execDbgArm_good {q : Kept} (fn : Nat) (v : Nat) {s : State} (h : Good q s) (w_regs : q.keep .regs = false := by assumption) (w_pages : q.keep .pages = false := by assumption) (w_msgs : q.keep .msgs = false := by assumption) (w_sync : q.keep .sync = false := by assumption) (w_held : q.keep .held = false := by assumption) : GoodO q (Sys2Proof.Machine.execDbgArm fn v s) := by
  unfold Sys2Proof.Machine.execDbgArm
  repeat' first
    | with_reducible assumption
    | with_reducible apply goodO_next
    | intro _
    | with_reducible apply State_ctrOp_good
    | with_reducible apply debugCmd_good

theorem execDbgDisarm_good {q : Kept} (fn : Nat) {s : State} (h : Good q s) (w_regs : q.keep .regs = false := by assumption) (w_pages : q.keep .pages = false := by assumption) (w_msgs : q.keep .msgs = false := by assumption) (w_sync : q.keep .sync = false := by assumption) (w_held : q.keep .held = false := by assumption) : GoodO q (Sys2Proof.Machine.execDbgDisarm fn s) := by
  unfold Sys2Proof.Machine.execDbgDisarm
  repeat' first
    | with_reducible assumption
    | with_reducible apply goodO_next
    | intro _
    | with_reducible apply State_ctrOp_good
    | with_reducible apply debugCmd_good

theorem State_clearBlock_good {q : Kept} {s : State} (b : Nat) (h : Good q s) (w_sync : q.keep .sync = false := by assumption) : Good q (Sys2Proof.Machine.State.clearBlock s b) := by
  unfold Sys2Proof.Machine.State.clearBlock
  repeat' first
    | with_reducible assumption
    | with_reducible apply goodO_next
    | intro _
    | with_reducible apply good_foldl
    | with_reducible apply good_foldl_fst
    | split
    | with_reducible refine good_fst (by assumption) ?_
    | with_reducible refine good_snd (by assumption) ?_
    | with_reducible refine good_snd2 (by assumption) ?_
    | dsimp only
    | with_reducible refine good_mk (t := _) ?_ rfl rfl rfl rfl rfl rfl rfl rfl

theorem State_setHolders_good {q : Kept} {s : State} (r : Nat) (v : Nat) (h : Good q s) (w_regs : q.keep .regs = false := by assumption) (w_sync : q.keep .sync = false := by assumption) : Good q (Sys2Proof.Machine.State.setHolders s r v) := by
  unfold Sys2Proof.Machine.State.setHolders
  repeat' first
    | with_reducible assumption
    | with_reducible apply goodO_next
    | intro _
    | with_reducible apply State_set_good
    | with_reducible apply State_clearBlock_good
    | with_reducible apply good_foldl
    | with_reducible apply good_foldl_fst
    | split

theorem execSyBlkFnWrite_good {q : Kept} (fn : Nat) (r : Nat) (v : Nat) {s : State} (h : Good q s) (w_regs : q.keep .regs = false := by assumption) (w_pages : q.keep .pages = false := by assumption) (w_msgs : q.keep .msgs = false := by assumption) (w_sync : q.keep .sync = false := by assumption) (w_held : q.keep .held = false := by assumption) : GoodO q (Sys2Proof.Machine.execSyBlkFnWrite fn r v s) := by
  unfold Sys2Proof.Machine.execSyBlkFnWrite
  repeat' first
    | with_reducible assumption
    | with_reducible apply goodO_next
    | intro _
    | with_reducible apply State_setHolders_good
    | with_reducible apply inOrderOf_good
    | with_reducible apply mmio_good
    | with_reducible apply State_refuseWrite_good
    | with_reducible apply good_foldl
    | with_reducible apply good_foldl_fst
    | split

theorem execSyBlkClr_good {q : Kept} (fn : Nat) (b : Nat) {s : State} (h : Good q s) (w_regs : q.keep .regs = false := by assumption) (w_pages : q.keep .pages = false := by assumption) (w_msgs : q.keep .msgs = false := by assumption) (w_sync : q.keep .sync = false := by assumption) (w_freeCtr : q.keep .freeCtr = false := by assumption) (w_held : q.keep .held = false := by assumption) : GoodO q (Sys2Proof.Machine.execSyBlkClr fn b s) := by
  unfold Sys2Proof.Machine.execSyBlkClr
  repeat' first
    | with_reducible assumption
    | with_reducible apply goodO_next
    | intro _
    | with_reducible apply State_clearBlock_good
    | with_reducible apply inOrderOf_good
    | with_reducible apply State_drawFree_good
    | with_reducible apply mmio_good
    | with_reducible apply State_refuseWrite_good
    | with_reducible apply State_capture_good
    | with_reducible apply State_flag_good
    | with_reducible apply State_set_good
    | with_reducible apply good_foldl
    | with_reducible apply good_foldl_fst
    | split
    | with_reducible refine good_fst (by assumption) ?_
    | with_reducible refine good_snd (by assumption) ?_
    | with_reducible refine good_snd2 (by assumption) ?_
    | dsimp only
    | with_reducible refine good_mk (t := _) ?_ rfl rfl rfl rfl rfl rfl rfl rfl

theorem execBlkClearDone_good {q : Kept} {s : State} (h : Good q s) (w_regs : q.keep .regs = false := by assumption) (w_pages : q.keep .pages = false := by assumption) (w_msgs : q.keep .msgs = false := by assumption) (w_sync : q.keep .sync = false := by assumption) : GoodO q (Sys2Proof.Machine.execBlkClearDone s) := by
  unfold Sys2Proof.Machine.execBlkClearDone
  repeat' first
    | with_reducible assumption
    | with_reducible apply goodO_next
    | intro _
    | with_reducible apply State_set_good
    | with_reducible apply State_flag_good
    | with_reducible apply State_raise_good
    | with_reducible apply event_good
    | with_reducible apply good_foldl
    | with_reducible apply good_foldl_fst
    | split
    | with_reducible refine good_fst (by assumption) ?_
    | with_reducible refine good_snd (by assumption) ?_
    | with_reducible refine good_snd2 (by assumption) ?_
    | dsimp only
    | with_reducible refine good_mk (t := _) ?_ rfl rfl rfl rfl rfl rfl rfl rfl

end Sys2Proof.Laws
end

