-- ==== Sys2Proof/Laws/KeepChains.lean ====
section
/-!
SUPPORT. What the operations of Machine/Chains.lean keep.
-/

set_option Elab.async false

namespace Sys2Proof.Laws

open Sys2Proof.Machine

theorem State_setChain_good {q : Kept} {s : State} (c : Nat) (v : Chain) (h : Good q s) (w_work : q.keep .work = false := by assumption) : Good q (Sys2Proof.Machine.State.setChain s c v) := by
  unfold Sys2Proof.Machine.State.setChain
  repeat' first
    | with_reducible assumption
    | with_reducible apply goodO_next
    | intro _
    | with_reducible apply good_foldl
    | with_reducible apply good_foldl_fst
    | split
    | with_reducible refine good_fst (by assumption) ?_
    | with_reducible refine good_snd (by assumption) ?_
    | with_reducible refine good_snd2 (by assumption) ?_
    | dsimp only
    | with_reducible refine good_mk (t := _) ?_ rfl rfl rfl rfl rfl rfl rfl rfl

theorem State_setCells_good {q : Kept} {s : State} (m : Map Cell) (h : Good q s) (w_work : q.keep .work = false := by assumption) : Good q (Sys2Proof.Machine.State.setCells s m) := by
  unfold Sys2Proof.Machine.State.setCells
  repeat' first
    | with_reducible assumption
    | with_reducible apply goodO_next
    | intro _
    | with_reducible apply good_foldl
    | with_reducible apply good_foldl_fst
    | split
    | with_reducible refine good_fst (by assumption) ?_
    | with_reducible refine good_snd (by assumption) ?_
    | with_reducible refine good_snd2 (by assumption) ?_
    | dsimp only
    | with_reducible refine good_mk (t := _) ?_ rfl rfl rfl rfl rfl rfl rfl rfl

theorem State_setCell_good {q : Kept} {s : State} (k : Nat) (v : Cell) (h : Good q s) (w_work : q.keep .work = false := by assumption) : Good q (Sys2Proof.Machine.State.setCell s k v) := by
  unfold Sys2Proof.Machine.State.setCell
  repeat' first
    | with_reducible assumption
    | with_reducible apply goodO_next
    | intro _
    | with_reducible apply State_setCells_good

theorem State_poolWatch_good {q : Kept} {s : State} (before : State) (h : Good q s) (w_pages : q.keep .pages = false := by assumption) (w_msgs : q.keep .msgs = false := by assumption) : Good q (Sys2Proof.Machine.State.poolWatch s before) := by
  unfold Sys2Proof.Machine.State.poolWatch
  repeat' first
    | with_reducible assumption
    | with_reducible apply goodO_next
    | intro _
    | with_reducible apply State_raiseEdge_good

theorem State_wmEdges_good {q : Kept} {s : State} (c : Nat) (e : Nat) (h : Good q s) (w_regs : q.keep .regs = false := by assumption) (w_pages : q.keep .pages = false := by assumption) (w_msgs : q.keep .msgs = false := by assumption) : Good q (Sys2Proof.Machine.State.wmEdges s c e) := by
  unfold Sys2Proof.Machine.State.wmEdges
  repeat' first
    | with_reducible assumption
    | with_reducible apply goodO_next
    | intro _
    | with_reducible apply State_set_good
    | with_reducible apply State_raise_good
    | with_reducible apply good_foldl
    | with_reducible apply good_foldl_fst
    | split
    | with_reducible refine good_fst (by assumption) ?_
    | with_reducible refine good_snd (by assumption) ?_
    | with_reducible refine good_snd2 (by assumption) ?_
    | dsimp only

theorem State_watched_good {q : Kept} {s : State} (c : Nat) (op : State → State) (h : Good q s) (hop : ∀ x0, Good q x0 → Good q (op x0)) (w_regs : q.keep .regs = false := by assumption) (w_pages : q.keep .pages = false := by assumption) (w_msgs : q.keep .msgs = false := by assumption) : Good q (Sys2Proof.Machine.State.watched s c op) := by
  unfold Sys2Proof.Machine.State.watched
  repeat' first
    | with_reducible assumption
    | with_reducible apply goodO_next
    | intro _
    | with_reducible apply hop
    | with_reducible apply State_poolWatch_good
    | with_reducible apply State_wmEdges_good

theorem State_dropped_good {q : Kept} {s : State} (c : Nat) (n : Nat) (h : Good q s) (w_regs : q.keep .regs = false := by assumption) (w_pages : q.keep .pages = false := by assumption) (w_msgs : q.keep .msgs = false := by assumption) : Good q (Sys2Proof.Machine.State.dropped s c n) := by
  unfold Sys2Proof.Machine.State.dropped
  repeat' first
    | with_reducible assumption
    | with_reducible apply goodO_next
    | intro _
    | with_reducible apply State_add_good
    | with_reducible apply State_wmEdges_good
    | with_reducible apply good_foldl
    | with_reducible apply good_foldl_fst
    | split

theorem State_awaitCell_good {q : Kept} {s : State} (c : Nat) (w : Waiter) (h : Good q s) (w_regs : q.keep .regs = false := by assumption) (w_pages : q.keep .pages = false := by assumption) (w_msgs : q.keep .msgs = false := by assumption) (w_work : q.keep .work = false := by assumption) : Good q (Sys2Proof.Machine.State.awaitCell s c w) := by
  unfold Sys2Proof.Machine.State.awaitCell
  repeat' first
    | with_reducible assumption
    | with_reducible apply goodO_next
    | intro _
    | with_reducible apply State_watched_good
    | with_reducible apply State_setChain_good
    | with_reducible apply good_foldl
    | with_reducible apply good_foldl_fst
    | split
    | with_reducible refine good_fst (by assumption) ?_
    | with_reducible refine good_snd (by assumption) ?_
    | with_reducible refine good_snd2 (by assumption) ?_
    | dsimp only
    | with_reducible refine good_mk (t := _) ?_ rfl rfl rfl rfl rfl rfl rfl rfl

theorem State_leaveCell_good {q : Kept} {s : State} (c : Nat) (p : Waiter → Bool) (h : Good q s) (w_work : q.keep .work = false := by assumption) : Good q (Sys2Proof.Machine.State.leaveCell s c p) := by
  unfold Sys2Proof.Machine.State.leaveCell
  repeat' first
    | with_reducible assumption
    | with_reducible apply goodO_next
    | intro _
    | with_reducible apply State_setChain_good

theorem State_pickCell_good {q : Kept} {s : State} (c : Nat) (length : Nat) (h : Good q s) (w_work : q.keep .work = false := by assumption) (w_freeCtr : q.keep .freeCtr = false := by assumption) : Good q (Sys2Proof.Machine.State.pickCell s c length).2.2 := by
  unfold Sys2Proof.Machine.State.pickCell
  repeat' first
    | with_reducible assumption
    | with_reducible apply goodO_next
    | intro _
    | with_reducible apply State_drawFree_good
    | with_reducible apply good_foldl
    | with_reducible apply good_foldl_fst
    | split
    | with_reducible refine good_fst (by assumption) ?_
    | with_reducible refine good_snd (by assumption) ?_
    | with_reducible refine good_snd2 (by assumption) ?_
    | dsimp only
    | with_reducible refine good_mk (t := _) ?_ rfl rfl rfl rfl rfl rfl rfl rfl

theorem State_commitCell_good {q : Kept} {s : State} (k : Nat) (x : Cell) (sender : Option (Nat × Nat)) (h : Good q s) (w_regs : q.keep .regs = false := by assumption) (w_work : q.keep .work = false := by assumption) : Good q (Sys2Proof.Machine.State.commitCell s k x sender) := by
  unfold Sys2Proof.Machine.State.commitCell
  repeat' first
    | with_reducible assumption
    | with_reducible apply goodO_next
    | intro _
    | with_reducible apply State_set_good
    | with_reducible apply State_setCell_good

theorem State_takeCell_good {q : Kept} {s : State} (k : Nat) (x : Cell) (h : Good q s) (w_regs : q.keep .regs = false := by assumption) (w_work : q.keep .work = false := by assumption) : Good q (Sys2Proof.Machine.State.takeCell s k x) := by
  unfold Sys2Proof.Machine.State.takeCell
  repeat' first
    | with_reducible assumption
    | with_reducible apply goodO_next
    | intro _
    | with_reducible apply State_add_good
    | with_reducible apply State_setCell_good

theorem State_freeCell_good {q : Kept} {s : State} (k : Nat) (h : Good q s) (w_work : q.keep .work = false := by assumption) : Good q (Sys2Proof.Machine.State.freeCell s k) := by
  unfold Sys2Proof.Machine.State.freeCell
  repeat' first
    | with_reducible assumption
    | with_reducible apply goodO_next
    | intro _
    | with_reducible apply State_setCells_good

theorem State_finishItem_good {q : Kept} {s : State} (k : Nat) (x : Cell) (h : Good q s) (w_regs : q.keep .regs = false := by assumption) (w_pages : q.keep .pages = false := by assumption) (w_msgs : q.keep .msgs = false := by assumption) (w_work : q.keep .work = false := by assumption) : Good q (Sys2Proof.Machine.State.finishItem s k x) := by
  unfold Sys2Proof.Machine.State.finishItem
  repeat' first
    | with_reducible assumption
    | with_reducible apply goodO_next
    | intro _
    | with_reducible apply State_freeCell_good
    | with_reducible apply State_dropped_good
    | with_reducible apply State_watched_good
    | with_reducible apply State_setCell_good
    | with_reducible apply good_foldl
    | with_reducible apply good_foldl_fst
    | split

theorem State_finishHeld_good {q : Kept} {s : State} (k : Nat) (x : Cell) (h : Good q s) (w_regs : q.keep .regs = false := by assumption) (w_pages : q.keep .pages = false := by assumption) (w_msgs : q.keep .msgs = false := by assumption) (w_work : q.keep .work = false := by assumption) : Good q (Sys2Proof.Machine.State.finishHeld s k x) := by
  unfold Sys2Proof.Machine.State.finishHeld
  repeat' first
    | with_reducible assumption
    | with_reducible apply goodO_next
    | intro _
    | with_reducible apply State_finishItem_good
    | with_reducible apply State_setCell_good
    | with_reducible apply good_foldl
    | with_reducible apply good_foldl_fst
    | split

theorem State_finishOf_good {q : Kept} {s : State} (k : Nat) (x : Cell) (h : Good q s) (w_regs : q.keep .regs = false := by assumption) (w_pages : q.keep .pages = false := by assumption) (w_msgs : q.keep .msgs = false := by assumption) (w_work : q.keep .work = false := by assumption) : Good q (Sys2Proof.Machine.State.finishOf s k x) := by
  unfold Sys2Proof.Machine.State.finishOf
  repeat' first
    | with_reducible assumption
    | with_reducible apply goodO_next
    | intro _
    | with_reducible apply State_finishHeld_good
    | with_reducible apply State_setChain_good
    | with_reducible apply good_foldl
    | with_reducible apply good_foldl_fst
    | split

theorem State_finishCell_good {q : Kept} {s : State} (k : Nat) (h : Good q s) (w_regs : q.keep .regs = false := by assumption) (w_pages : q.keep .pages = false := by assumption) (w_msgs : q.keep .msgs = false := by assumption) (w_work : q.keep .work = false := by assumption) : Good q (Sys2Proof.Machine.State.finishCell s k) := by
  unfold Sys2Proof.Machine.State.finishCell
  repeat' first
    | with_reducible assumption
    | with_reducible apply goodO_next
    | intro _
    | with_reducible apply State_finishOf_good
    | with_reducible apply good_foldl
    | with_reducible apply good_foldl_fst
    | split

theorem State_runFinishes_good {q : Kept} {s : State} (c : Nat) (h : Good q s) (w_regs : q.keep .regs = false := by assumption) (w_pages : q.keep .pages = false := by assumption) (w_msgs : q.keep .msgs = false := by assumption) (w_work : q.keep .work = false := by assumption) : Good q (Sys2Proof.Machine.State.runFinishes s c) := by
  unfold Sys2Proof.Machine.State.runFinishes
  repeat' first
    | with_reducible assumption
    | with_reducible apply goodO_next
    | intro _
    | with_reducible apply State_finishHeld_good
    | with_reducible apply State_setChain_good
    | with_reducible apply good_foldl
    | with_reducible apply good_foldl_fst
    | split

theorem State_setChildren_good {q : Kept} {s : State} (l : List Child) (h : Good q s) (w_work : q.keep .work = false := by assumption) : Good q (Sys2Proof.Machine.State.setChildren s l) := by
  unfold Sys2Proof.Machine.State.setChildren
  repeat' first
    | with_reducible assumption
    | with_reducible apply goodO_next
    | intro _
    | with_reducible apply good_foldl
    | with_reducible apply good_foldl_fst
    | split
    | with_reducible refine good_fst (by assumption) ?_
    | with_reducible refine good_snd (by assumption) ?_
    | with_reducible refine good_snd2 (by assumption) ?_
    | dsimp only
    | with_reducible refine good_mk (t := _) ?_ rfl rfl rfl rfl rfl rfl rfl rfl

theorem State_setChild_good {q : Kept} {s : State} (x : Child) (h : Good q s) (w_work : q.keep .work = false := by assumption) : Good q (Sys2Proof.Machine.State.setChild s x) := by
  unfold Sys2Proof.Machine.State.setChild
  repeat' first
    | with_reducible assumption
    | with_reducible apply goodO_next
    | intro _
    | with_reducible apply State_setChildren_good

theorem State_setExp_good {q : Kept} {s : State} (x : Expansion) (h : Good q s) (w_work : q.keep .work = false := by assumption) : Good q (Sys2Proof.Machine.State.setExp s x) := by
  unfold Sys2Proof.Machine.State.setExp
  repeat' first
    | with_reducible assumption
    | with_reducible apply goodO_next
    | intro _
    | with_reducible apply good_foldl
    | with_reducible apply good_foldl_fst
    | split
    | with_reducible refine good_fst (by assumption) ?_
    | with_reducible refine good_snd (by assumption) ?_
    | with_reducible refine good_snd2 (by assumption) ?_
    | dsimp only
    | with_reducible refine good_mk (t := _) ?_ rfl rfl rfl rfl rfl rfl rfl rfl

theorem State_openChild_good {q : Kept} {s : State} (exp : Nat) (c : Nat) (h : Good q s) (w_regs : q.keep .regs = false := by assumption) (w_pages : q.keep .pages = false := by assumption) (w_msgs : q.keep .msgs = false := by assumption) (w_work : q.keep .work = false := by assumption) (w_freeCtr : q.keep .freeCtr = false := by assumption) : Good q (Sys2Proof.Machine.State.openChild s exp c) := by
  unfold Sys2Proof.Machine.State.openChild
  repeat' first
    | with_reducible assumption
    | with_reducible apply goodO_next
    | intro _
    | with_reducible apply State_setCell_good
    | with_reducible apply State_watched_good
    | with_reducible apply State_pickCell_good
    | with_reducible apply State_setChild_good
    | with_reducible apply good_foldl
    | with_reducible apply good_foldl_fst
    | split

theorem State_voidChildren_good {q : Kept} {s : State} (exp : Nat) (h : Good q s) (w_regs : q.keep .regs = false := by assumption) (w_pages : q.keep .pages = false := by assumption) (w_msgs : q.keep .msgs = false := by assumption) (w_work : q.keep .work = false := by assumption) : Good q (Sys2Proof.Machine.State.voidChildren s exp) := by
  unfold Sys2Proof.Machine.State.voidChildren
  repeat' first
    | with_reducible assumption
    | with_reducible apply goodO_next
    | intro _
    | with_reducible apply State_wmEdges_good
    | with_reducible apply State_watched_good
    | with_reducible apply State_freeCell_good
    | with_reducible apply State_setChild_good
    | with_reducible apply good_foldl
    | with_reducible apply good_foldl_fst
    | split

theorem State_childrenEnded_good {q : Kept} {s : State} (exp : Nat) (h : Good q s) (w_regs : q.keep .regs = false := by assumption) (w_pages : q.keep .pages = false := by assumption) (w_msgs : q.keep .msgs = false := by assumption) (w_work : q.keep .work = false := by assumption) : Good q (Sys2Proof.Machine.State.childrenEnded s exp) := by
  unfold Sys2Proof.Machine.State.childrenEnded
  repeat' first
    | with_reducible assumption
    | with_reducible apply goodO_next
    | intro _
    | with_reducible apply State_add_good
    | with_reducible apply State_setChild_good
    | with_reducible apply State_voidChildren_good
    | with_reducible apply good_foldl
    | with_reducible apply good_foldl_fst
    | split

theorem State_commitChild_good {q : Kept} {s : State} (e : Expansion) (c : Nat) (tidx : Nat) (h : Good q s) (w_regs : q.keep .regs = false := by assumption) (w_work : q.keep .work = false := by assumption) : Good q (Sys2Proof.Machine.State.commitChild s e c tidx) := by
  unfold Sys2Proof.Machine.State.commitChild
  repeat' first
    | with_reducible assumption
    | with_reducible apply goodO_next
    | intro _
    | with_reducible apply State_commitCell_good
    | with_reducible apply State_setChild_good
    | with_reducible apply good_foldl
    | with_reducible apply good_foldl_fst
    | split
    | with_reducible refine good_fst (by assumption) ?_
    | with_reducible refine good_snd (by assumption) ?_
    | with_reducible refine good_snd2 (by assumption) ?_
    | dsimp only

theorem State_rewindCell_good {q : Kept} {s : State} (m : Nat) (e : Nat) (t : Nat) (k : Nat) (x : Cell) (h : Good q s) (w_regs : q.keep .regs = false := by assumption) (w_pages : q.keep .pages = false := by assumption) (w_msgs : q.keep .msgs = false := by assumption) (w_work : q.keep .work = false := by assumption) : Good q (Sys2Proof.Machine.State.rewindCell s m e t k x) := by
  unfold Sys2Proof.Machine.State.rewindCell
  repeat' first
    | with_reducible assumption
    | with_reducible apply goodO_next
    | intro _
    | with_reducible apply State_setCell_good
    | with_reducible apply State_dropped_good
    | with_reducible apply State_freeCell_good
    | with_reducible apply good_foldl
    | with_reducible apply good_foldl_fst
    | split
    | with_reducible refine good_fst (by assumption) ?_
    | with_reducible refine good_snd (by assumption) ?_
    | with_reducible refine good_snd2 (by assumption) ?_
    | dsimp only

theorem State_sweepSpent_good {q : Kept} {s : State} (c : Nat) (h : Good q s) (w_work : q.keep .work = false := by assumption) : Good q (Sys2Proof.Machine.State.sweepSpent s c) := by
  unfold Sys2Proof.Machine.State.sweepSpent
  repeat' first
    | with_reducible assumption
    | with_reducible apply goodO_next
    | intro _
    | with_reducible apply State_freeCell_good
    | with_reducible apply good_foldl
    | with_reducible apply good_foldl_fst
    | split

theorem State_chainEffect_good {q : Kept} {s : State} (c : Nat) (o : ChainOp) (h : Good q s) (w_regs : q.keep .regs = false := by assumption) (w_pages : q.keep .pages = false := by assumption) (w_msgs : q.keep .msgs = false := by assumption) (w_work : q.keep .work = false := by assumption) : Good q (Sys2Proof.Machine.State.chainEffect s c o) := by
  unfold Sys2Proof.Machine.State.chainEffect
  repeat' first
    | with_reducible assumption
    | with_reducible apply goodO_next
    | intro _
    | with_reducible apply State_sweepSpent_good
    | with_reducible apply State_rewindCell_good
    | with_reducible apply State_setChildren_good
    | with_reducible apply State_freeCell_good
    | with_reducible apply State_dropped_good
    | with_reducible apply State_watched_good
    | with_reducible apply State_wmEdges_good
    | with_reducible apply State_setCell_good
    | with_reducible apply State_setChain_good
    | with_reducible apply State_flag_good
    | with_reducible apply good_foldl
    | with_reducible apply good_foldl_fst
    | split
    | with_reducible refine good_fst (by assumption) ?_
    | with_reducible refine good_snd (by assumption) ?_
    | with_reducible refine good_snd2 (by assumption) ?_
    | dsimp only

theorem State_startChainOp_good {q : Kept} {s : State} (c : Nat) (o : ChainOp) (h : Good q s) (w_regs : q.keep .regs = false := by assumption) (w_work : q.keep .work = false := by assumption) : Good q (Sys2Proof.Machine.State.startChainOp s c o) := by
  unfold Sys2Proof.Machine.State.startChainOp
  repeat' first
    | with_reducible assumption
    | with_reducible apply goodO_next
    | intro _
    | with_reducible apply State_flag_good
    | with_reducible apply State_setChain_good

theorem State_chainError_good {q : Kept} {s : State} (c : Nat) (code : Nat) (st : Status) (h : Good q s) (w_pages : q.keep .pages = false := by assumption) (w_msgs : q.keep .msgs = false := by assumption) : Good q (Sys2Proof.Machine.State.chainError s c code st) := by
  unfold Sys2Proof.Machine.State.chainError
  repeat' first
    | with_reducible assumption
    | with_reducible apply goodO_next
    | intro _
    | with_reducible apply State_raise_good
    | with_reducible apply State_capture_good

theorem chainCmd_good {q : Kept} (fn : Nat) (c : Nat) (op : Nat) (m : Nat) (cmd : Instr) {s : State} (h : Good q s) (w_regs : q.keep .regs = false := by assumption) (w_pages : q.keep .pages = false := by assumption) (w_msgs : q.keep .msgs = false := by assumption) (w_work : q.keep .work = false := by assumption) (w_held : q.keep .held = false := by assumption) : GoodO q (Sys2Proof.Machine.chainCmd fn c op m cmd s) := by
  unfold Sys2Proof.Machine.chainCmd
  repeat' first
    | with_reducible assumption
    | with_reducible apply goodO_next
    | intro _
    | with_reducible apply State_hold_good
    | with_reducible apply mmio_good
    | with_reducible apply fabric_good
    | with_reducible apply State_startChainOp_good
    | with_reducible apply State_chainError_good
    | with_reducible apply good_foldl
    | with_reducible apply good_foldl_fst
    | split

theorem execChCmdMark_good {q : Kept} (fn : Nat) (c : Nat) (m : Nat) {s : State} (h : Good q s) (w_regs : q.keep .regs = false := by assumption) (w_pages : q.keep .pages = false := by assumption) (w_msgs : q.keep .msgs = false := by assumption) (w_work : q.keep .work = false := by assumption) (w_held : q.keep .held = false := by assumption) : GoodO q (Sys2Proof.Machine.execChCmdMark fn c m s) := by
  unfold Sys2Proof.Machine.execChCmdMark
  repeat' first
    | with_reducible assumption
    | with_reducible apply goodO_next
    | intro _
    | with_reducible apply chainCmd_good

theorem execChCmdRewind_good {q : Kept} (fn : Nat) (c : Nat) (m : Nat) {s : State} (h : Good q s) (w_regs : q.keep .regs = false := by assumption) (w_pages : q.keep .pages = false := by assumption) (w_msgs : q.keep .msgs = false := by assumption) (w_work : q.keep .work = false := by assumption) (w_held : q.keep .held = false := by assumption) : GoodO q (Sys2Proof.Machine.execChCmdRewind fn c m s) := by
  unfold Sys2Proof.Machine.execChCmdRewind
  repeat' first
    | with_reducible assumption
    | with_reducible apply goodO_next
    | intro _
    | with_reducible apply chainCmd_good

theorem execChCmdRelease_good {q : Kept} (fn : Nat) (c : Nat) (m : Nat) {s : State} (h : Good q s) (w_regs : q.keep .regs = false := by assumption) (w_pages : q.keep .pages = false := by assumption) (w_msgs : q.keep .msgs = false := by assumption) (w_work : q.keep .work = false := by assumption) (w_held : q.keep .held = false := by assumption) : GoodO q (Sys2Proof.Machine.execChCmdRelease fn c m s) := by
  unfold Sys2Proof.Machine.execChCmdRelease
  repeat' first
    | with_reducible assumption
    | with_reducible apply goodO_next
    | intro _
    | with_reducible apply chainCmd_good

theorem execReplayHeld_good {q : Kept} (fn : Nat) (c : Nat) {s : State} (h : Good q s) (w_regs : q.keep .regs = false := by assumption) (w_pages : q.keep .pages = false := by assumption) (w_msgs : q.keep .msgs = false := by assumption) (w_work : q.keep .work = false := by assumption) (w_held : q.keep .held = false := by assumption) : GoodO q (Sys2Proof.Machine.execReplayHeld fn c s) := by
  unfold Sys2Proof.Machine.execReplayHeld
  repeat' first
    | with_reducible assumption
    | with_reducible apply goodO_next
    | intro _
    | with_reducible apply chainCmd_good

theorem execDiscardHeld_good {q : Kept} (fn : Nat) (c : Nat) {s : State} (h : Good q s) (w_regs : q.keep .regs = false := by assumption) (w_pages : q.keep .pages = false := by assumption) (w_msgs : q.keep .msgs = false := by assumption) (w_work : q.keep .work = false := by assumption) (w_held : q.keep .held = false := by assumption) : GoodO q (Sys2Proof.Machine.execDiscardHeld fn c s) := by
  unfold Sys2Proof.Machine.execDiscardHeld
  repeat' first
    | with_reducible assumption
    | with_reducible apply goodO_next
    | intro _
    | with_reducible apply chainCmd_good

theorem execChFlush_good {q : Kept} (fn : Nat) (c : Nat) {s : State} (h : Good q s) (w_regs : q.keep .regs = false := by assumption) (w_pages : q.keep .pages = false := by assumption) (w_msgs : q.keep .msgs = false := by assumption) (w_work : q.keep .work = false := by assumption) (w_held : q.keep .held = false := by assumption) : GoodO q (Sys2Proof.Machine.execChFlush fn c s) := by
  unfold Sys2Proof.Machine.execChFlush
  repeat' first
    | with_reducible assumption
    | with_reducible apply goodO_next
    | intro _
    | with_reducible apply chainCmd_good

theorem execChApply_good {q : Kept} (fn : Nat) (c : Nat) {s : State} (h : Good q s) (w_regs : q.keep .regs = false := by assumption) (w_pages : q.keep .pages = false := by assumption) (w_msgs : q.keep .msgs = false := by assumption) (w_work : q.keep .work = false := by assumption) (w_held : q.keep .held = false := by assumption) : GoodO q (Sys2Proof.Machine.execChApply fn c s) := by
  unfold Sys2Proof.Machine.execChApply
  repeat' first
    | with_reducible assumption
    | with_reducible apply goodO_next
    | intro _
    | with_reducible apply State_set_good
    | with_reducible apply State_flag_good
    | with_reducible apply command_good
    | with_reducible apply State_setChain_good
    | with_reducible apply State_chainError_good
    | with_reducible apply good_foldl
    | with_reducible apply good_foldl_fst
    | split

theorem execChEnable_good {q : Kept} (fn : Nat) (c : Nat) (en : Bool) {s : State} (h : Good q s) (w_regs : q.keep .regs = false := by assumption) (w_pages : q.keep .pages = false := by assumption) (w_msgs : q.keep .msgs = false := by assumption) : GoodO q (Sys2Proof.Machine.execChEnable fn c en s) := by
  unfold Sys2Proof.Machine.execChEnable
  repeat' first
    | with_reducible assumption
    | with_reducible apply goodO_next
    | intro _
    | with_reducible apply State_flag_good
    | with_reducible apply mmio_good
    | with_reducible apply State_poolWatch_good
    | with_reducible apply State_chainError_good
    | with_reducible apply good_foldl
    | with_reducible apply good_foldl_fst
    | split

end Sys2Proof.Laws
end

