-- ==== Sys2Proof/Laws/KeepTasks.lean ====
section
/-!
SUPPORT. What the operations of Machine/Tasks.lean keep.
-/

set_option Elab.async false

namespace Sys2Proof.Laws

open Sys2Proof.Machine

theorem State_setFlow_good {q : Kept} {s : State} (w : Nat) (v : Flow) (h : Good q s) (w_work : q.keep .work = false := by assumption) : Good q (Sys2Proof.Machine.State.setFlow s w v) := by
  unfold Sys2Proof.Machine.State.setFlow
  repeat' first
    | with_reducible assumption
    | with_reducible apply goodO_next
    | intro _
    | with_reducible apply good_foldl
    | with_reducible apply good_foldl_fst
    | split
    | with_reducible refine good_fst (by assumption) ?_
    | with_reducible refine good_snd (by assumption) ?_
    | with_reducible refine good_snd2 (by assumption) ?_
    | dsimp only
    | with_reducible refine good_mk (t := _) ?_ rfl rfl rfl rfl rfl rfl rfl rfl

theorem State_setChannel_good {q : Kept} {s : State} (k : Nat) (v : Channel) (h : Good q s) (w_work : q.keep .work = false := by assumption) : Good q (Sys2Proof.Machine.State.setChannel s k v) := by
  unfold Sys2Proof.Machine.State.setChannel
  repeat' first
    | with_reducible assumption
    | with_reducible apply goodO_next
    | intro _
    | with_reducible apply good_foldl
    | with_reducible apply good_foldl_fst
    | split
    | with_reducible refine good_fst (by assumption) ?_
    | with_reducible refine good_snd (by assumption) ?_
    | with_reducible refine good_snd2 (by assumption) ?_
    | dsimp only
    | with_reducible refine good_mk (t := _) ?_ rfl rfl rfl rfl rfl rfl rfl rfl

theorem State_setDelayList_good {q : Kept} {s : State} (d : Nat) (l : List (Nat × Task)) (h : Good q s) (w_work : q.keep .work = false := by assumption) : Good q (Sys2Proof.Machine.State.setDelayList s d l) := by
  unfold Sys2Proof.Machine.State.setDelayList
  repeat' first
    | with_reducible assumption
    | with_reducible apply goodO_next
    | intro _
    | with_reducible apply good_foldl
    | with_reducible apply good_foldl_fst
    | split
    | with_reducible refine good_fst (by assumption) ?_
    | with_reducible refine good_snd (by assumption) ?_
    | with_reducible refine good_snd2 (by assumption) ?_
    | dsimp only
    | with_reducible refine good_mk (t := _) ?_ rfl rfl rfl rfl rfl rfl rfl rfl

theorem State_setReadyList_good {q : Kept} {s : State} (g : Nat) (l : List ReadyFlow) (h : Good q s) (w_work : q.keep .work = false := by assumption) : Good q (Sys2Proof.Machine.State.setReadyList s g l) := by
  unfold Sys2Proof.Machine.State.setReadyList
  repeat' first
    | with_reducible assumption
    | with_reducible apply goodO_next
    | intro _
    | with_reducible apply good_foldl
    | with_reducible apply good_foldl_fst
    | split
    | with_reducible refine good_fst (by assumption) ?_
    | with_reducible refine good_snd (by assumption) ?_
    | with_reducible refine good_snd2 (by assumption) ?_
    | dsimp only
    | with_reducible refine good_mk (t := _) ?_ rfl rfl rfl rfl rfl rfl rfl rfl

theorem State_attnRefresh_good {q : Kept} {s : State} (w : Nat) (h : Good q s) (w_regs : q.keep .regs = false := by assumption) (w_pages : q.keep .pages = false := by assumption) (w_msgs : q.keep .msgs = false := by assumption) : Good q (Sys2Proof.Machine.State.attnRefresh s w) := by
  unfold Sys2Proof.Machine.State.attnRefresh
  repeat' first
    | with_reducible assumption
    | with_reducible apply goodO_next
    | intro _
    | with_reducible apply State_set_good
    | with_reducible apply State_raiseEdge_good

theorem State_attention_good {q : Kept} {s : State} (w : Nat) (core : Nat) (status : Nat) (tag : Nat) (h : Good q s) (w_regs : q.keep .regs = false := by assumption) (w_pages : q.keep .pages = false := by assumption) (w_msgs : q.keep .msgs = false := by assumption) (w_work : q.keep .work = false := by assumption) : Good q (Sys2Proof.Machine.State.attention s w core status tag) := by
  unfold Sys2Proof.Machine.State.attention
  repeat' first
    | with_reducible assumption
    | with_reducible apply goodO_next
    | intro _
    | with_reducible apply State_raise_good
    | with_reducible apply State_attnRefresh_good
    | with_reducible apply good_foldl
    | with_reducible apply good_foldl_fst
    | split
    | with_reducible refine good_fst (by assumption) ?_
    | with_reducible refine good_snd (by assumption) ?_
    | with_reducible refine good_snd2 (by assumption) ?_
    | dsimp only
    | with_reducible refine good_mk (t := _) ?_ rfl rfl rfl rfl rfl rfl rfl rfl

theorem State_unlist_good {q : Kept} {s : State} (w : Nat) (h : Good q s) (w_work : q.keep .work = false := by assumption) : Good q (Sys2Proof.Machine.State.unlist s w) := by
  unfold Sys2Proof.Machine.State.unlist
  repeat' first
    | with_reducible assumption
    | with_reducible apply goodO_next
    | intro _
    | with_reducible apply good_foldl
    | with_reducible apply good_foldl_fst
    | split
    | with_reducible refine good_fst (by assumption) ?_
    | with_reducible refine good_snd (by assumption) ?_
    | with_reducible refine good_snd2 (by assumption) ?_
    | dsimp only
    | with_reducible refine good_mk (t := _) ?_ rfl rfl rfl rfl rfl rfl rfl rfl

theorem State_refresh_good {q : Kept} {s : State} (w : Nat) (h : Good q s) (w_regs : q.keep .regs = false := by assumption) (w_work : q.keep .work = false := by assumption) : Good q (Sys2Proof.Machine.State.refresh s w) := by
  unfold Sys2Proof.Machine.State.refresh
  repeat' first
    | with_reducible assumption
    | with_reducible apply goodO_next
    | intro _
    | with_reducible apply State_set_good
    | with_reducible apply State_setReadyList_good
    | with_reducible apply State_unlist_good
    | with_reducible apply good_foldl
    | with_reducible apply good_foldl_fst
    | split
    | with_reducible refine good_fst (by assumption) ?_
    | with_reducible refine good_snd (by assumption) ?_
    | with_reducible refine good_snd2 (by assumption) ?_
    | dsimp only

theorem State_joinFlow_good {q : Kept} {s : State} (t : Task) (h : Good q s) (w_regs : q.keep .regs = false := by assumption) (w_work : q.keep .work = false := by assumption) : Good q (Sys2Proof.Machine.State.joinFlow s t) := by
  unfold Sys2Proof.Machine.State.joinFlow
  repeat' first
    | with_reducible assumption
    | with_reducible apply goodO_next
    | intro _
    | with_reducible apply State_setFlow_good
    | with_reducible apply State_refresh_good

theorem State_staleFlow_good {q : Kept} {s : State} (w : Nat) (h : Good q s) (w_regs : q.keep .regs = false := by assumption) (w_pages : q.keep .pages = false := by assumption) (w_msgs : q.keep .msgs = false := by assumption) (w_work : q.keep .work = false := by assumption) (w_freeCtr : q.keep .freeCtr = false := by assumption) : Good q (Sys2Proof.Machine.State.staleFlow s w) := by
  unfold Sys2Proof.Machine.State.staleFlow
  repeat' first
    | with_reducible assumption
    | with_reducible apply goodO_next
    | intro _
    | with_reducible apply State_set_good
    | with_reducible apply State_flag_good
    | with_reducible apply State_drawFree_good
    | with_reducible apply State_attention_good
    | with_reducible apply State_refresh_good
    | with_reducible apply good_foldl
    | with_reducible apply good_foldl_fst
    | split
    | with_reducible refine good_fst (by assumption) ?_
    | with_reducible refine good_snd (by assumption) ?_
    | with_reducible refine good_snd2 (by assumption) ?_
    | dsimp only

theorem State_newExp_good {q : Kept} {s : State} (fanout : Nat) (item : Option (Nat × Nat)) (h : Good q s) (w_work : q.keep .work = false := by assumption) : Good q (Sys2Proof.Machine.State.newExp s fanout item).2 := by
  unfold Sys2Proof.Machine.State.newExp
  repeat' first
    | with_reducible assumption
    | with_reducible apply goodO_next
    | intro _
    | with_reducible apply good_foldl
    | with_reducible apply good_foldl_fst
    | split
    | with_reducible refine good_fst (by assumption) ?_
    | with_reducible refine good_snd (by assumption) ?_
    | with_reducible refine good_snd2 (by assumption) ?_
    | dsimp only
    | with_reducible refine good_mk (t := _) ?_ rfl rfl rfl rfl rfl rfl rfl rfl

theorem State_taskEnded_good {q : Kept} {s : State} (id : Nat) (tidx : Nat) (h : Good q s) (w_regs : q.keep .regs = false := by assumption) (w_pages : q.keep .pages = false := by assumption) (w_msgs : q.keep .msgs = false := by assumption) (w_work : q.keep .work = false := by assumption) : Good q (Sys2Proof.Machine.State.taskEnded s id tidx) := by
  unfold Sys2Proof.Machine.State.taskEnded
  repeat' first
    | with_reducible assumption
    | with_reducible apply goodO_next
    | intro _
    | with_reducible apply State_setExp_good
    | with_reducible apply State_childrenEnded_good
    | with_reducible apply good_foldl
    | with_reducible apply good_foldl_fst
    | split

theorem State_expFinished_good {q : Kept} {s : State} (e : Expansion) (h : Good q s) (w_regs : q.keep .regs = false := by assumption) (w_pages : q.keep .pages = false := by assumption) (w_msgs : q.keep .msgs = false := by assumption) (w_work : q.keep .work = false := by assumption) : Good q (Sys2Proof.Machine.State.expFinished s e) := by
  unfold Sys2Proof.Machine.State.expFinished
  repeat' first
    | with_reducible assumption
    | with_reducible apply goodO_next
    | intro _
    | with_reducible apply State_finishCell_good
    | with_reducible apply good_foldl
    | with_reducible apply good_foldl_fst
    | split
    | with_reducible refine good_fst (by assumption) ?_
    | with_reducible refine good_snd (by assumption) ?_
    | with_reducible refine good_snd2 (by assumption) ?_
    | dsimp only
    | with_reducible refine good_mk (t := _) ?_ rfl rfl rfl rfl rfl rfl rfl rfl

theorem State_taskDone_good {q : Kept} {s : State} (id : Nat) (tidx : Nat) (h : Good q s) (w_regs : q.keep .regs = false := by assumption) (w_pages : q.keep .pages = false := by assumption) (w_msgs : q.keep .msgs = false := by assumption) (w_work : q.keep .work = false := by assumption) : Good q (Sys2Proof.Machine.State.taskDone s id tidx) := by
  unfold Sys2Proof.Machine.State.taskDone
  repeat' first
    | with_reducible assumption
    | with_reducible apply goodO_next
    | intro _
    | with_reducible apply State_setExp_good
    | with_reducible apply State_taskEnded_good
    | with_reducible apply State_expFinished_good
    | with_reducible apply good_foldl
    | with_reducible apply good_foldl_fst
    | split
    | with_reducible refine good_fst (by assumption) ?_
    | with_reducible refine good_snd (by assumption) ?_
    | with_reducible refine good_snd2 (by assumption) ?_
    | dsimp only

theorem State_storeWatched_good {q : Kept} {s : State} (op : State → State) (h : Good q s) (hop : ∀ x0, Good q x0 → Good q (op x0)) (w_pages : q.keep .pages = false := by assumption) (w_msgs : q.keep .msgs = false := by assumption) : Good q (Sys2Proof.Machine.State.storeWatched s op) := by
  unfold Sys2Proof.Machine.State.storeWatched
  repeat' first
    | with_reducible assumption
    | with_reducible apply goodO_next
    | intro _
    | with_reducible apply hop
    | with_reducible apply State_raiseEdge_good

theorem State_enter_good {q : Kept} {s : State} (x : Task) (delay : Option (Nat × Nat)) (h : Good q s) (w_regs : q.keep .regs = false := by assumption) (w_work : q.keep .work = false := by assumption) : Good q (Sys2Proof.Machine.State.enter s x delay) := by
  unfold Sys2Proof.Machine.State.enter
  repeat' first
    | with_reducible assumption
    | with_reducible apply goodO_next
    | intro _
    | with_reducible apply State_setDelayList_good
    | with_reducible apply State_joinFlow_good
    | with_reducible apply good_foldl
    | with_reducible apply good_foldl_fst
    | split

theorem State_releaseDue_good {q : Kept} {s : State} (tick : Nat) (d : Nat) (h : Good q s) (w_regs : q.keep .regs = false := by assumption) (w_work : q.keep .work = false := by assumption) : Good q (Sys2Proof.Machine.State.releaseDue s tick d) := by
  unfold Sys2Proof.Machine.State.releaseDue
  repeat' first
    | with_reducible assumption
    | with_reducible apply goodO_next
    | intro _
    | with_reducible apply State_setDelayList_good
    | with_reducible apply State_joinFlow_good
    | with_reducible apply good_foldl

theorem State_releaseLists_good {q : Kept} {s : State} (h : Good q s) (w_regs : q.keep .regs = false := by assumption) (w_work : q.keep .work = false := by assumption) : Good q (Sys2Proof.Machine.State.releaseLists s) := by
  unfold Sys2Proof.Machine.State.releaseLists
  repeat' first
    | with_reducible assumption
    | with_reducible apply goodO_next
    | intro _
    | with_reducible apply State_releaseDue_good
    | with_reducible apply good_foldl
    | with_reducible apply good_foldl_fst
    | split

theorem State_loseSpill_good {q : Kept} {s : State} (k : Nat) (off : Nat) (st : Status) (h : Good q s) (w_regs : q.keep .regs = false := by assumption) (w_pages : q.keep .pages = false := by assumption) (w_msgs : q.keep .msgs = false := by assumption) : Good q (Sys2Proof.Machine.State.loseSpill s k off st) := by
  unfold Sys2Proof.Machine.State.loseSpill
  repeat' first
    | with_reducible assumption
    | with_reducible apply goodO_next
    | intro _
    | with_reducible apply State_flag_good
    | with_reducible apply State_raiseEdge_good
    | with_reducible apply State_capture_good

theorem State_headerLines_good {q : Kept} (r0 : List Nat) (w_regs : q.keep .regs = false := by assumption) (w_pages : q.keep .pages = false := by assumption) (w_msgs : q.keep .msgs = false := by assumption) (w_faultLog : q.keep .faultLog = false := by assumption) (w_hbm : q.keep .hbm = false := by assumption) (w_caches : q.keep .caches = false := by assumption) (w_mem : q.keep .mem = false := by assumption) (w_freeCtr : q.keep .freeCtr = false := by assumption) : ∀ (s : State) (k : Nat) (base : Nat) (a3 : List Byte), Good q s → Good q (Sys2Proof.Machine.State.headerLines s k base a3 r0) := by
  induction r0 with
  | nil => exact fun s _ _ _ h => h
  | cons i is ih =>
    intro s k base a3 h
    simp only [Sys2Proof.Machine.State.headerLines]
    repeat' first
      | with_reducible assumption
      | with_reducible apply ih
      | with_reducible apply State_loseSpill_good
      | with_reducible apply State_hbmWrite_good
      | split
      | with_reducible refine good_fst (by assumption) ?_

theorem State_spillHeader_good {q : Kept} {s : State} (k : Nat) (h : Good q s) (w_regs : q.keep .regs = false := by assumption) (w_pages : q.keep .pages = false := by assumption) (w_msgs : q.keep .msgs = false := by assumption) (w_faultLog : q.keep .faultLog = false := by assumption) (w_hbm : q.keep .hbm = false := by assumption) (w_caches : q.keep .caches = false := by assumption) (w_mem : q.keep .mem = false := by assumption) (w_freeCtr : q.keep .freeCtr = false := by assumption) : Good q (Sys2Proof.Machine.State.spillHeader s k) := by
  unfold Sys2Proof.Machine.State.spillHeader
  repeat' first
    | with_reducible assumption
    | with_reducible apply goodO_next
    | intro _
    | with_reducible apply State_headerLines_good
    | with_reducible apply good_foldl
    | with_reducible apply good_foldl_fst
    | split

theorem State_spillHeaders_good {q : Kept} {s : State} (h : Good q s) (w_regs : q.keep .regs = false := by assumption) (w_pages : q.keep .pages = false := by assumption) (w_msgs : q.keep .msgs = false := by assumption) (w_faultLog : q.keep .faultLog = false := by assumption) (w_hbm : q.keep .hbm = false := by assumption) (w_caches : q.keep .caches = false := by assumption) (w_mem : q.keep .mem = false := by assumption) (w_freeCtr : q.keep .freeCtr = false := by assumption) : Good q (Sys2Proof.Machine.State.spillHeaders s) := by
  unfold Sys2Proof.Machine.State.spillHeaders
  repeat' first
    | with_reducible assumption
    | with_reducible apply goodO_next
    | intro _
    | with_reducible apply State_spillHeader_good
    | with_reducible apply good_foldl
    | with_reducible apply good_foldl_fst
    | split

theorem State_spill_good {q : Kept} {s : State} (k : Nat) (x : Task) (delay : Option (Nat × Nat)) (h : Good q s) (w_regs : q.keep .regs = false := by assumption) (w_pages : q.keep .pages = false := by assumption) (w_msgs : q.keep .msgs = false := by assumption) (w_faultLog : q.keep .faultLog = false := by assumption) (w_hbm : q.keep .hbm = false := by assumption) (w_caches : q.keep .caches = false := by assumption) (w_mem : q.keep .mem = false := by assumption) (w_work : q.keep .work = false := by assumption) (w_freeCtr : q.keep .freeCtr = false := by assumption) : Good q (Sys2Proof.Machine.State.spill s k x delay) := by
  unfold Sys2Proof.Machine.State.spill
  repeat' first
    | with_reducible assumption
    | with_reducible apply goodO_next
    | intro _
    | with_reducible apply State_spillHeader_good
    | with_reducible apply State_loseSpill_good
    | with_reducible apply State_setChannel_good
    | with_reducible apply State_hbmWrite_good
    | with_reducible apply State_raise_good
    | with_reducible apply State_set_good
    | with_reducible apply good_foldl
    | with_reducible apply good_foldl_fst
    | split
    | with_reducible refine good_fst (by assumption) ?_
    | with_reducible refine good_snd (by assumption) ?_
    | with_reducible refine good_snd2 (by assumption) ?_
    | dsimp only

theorem State_accept_good {q : Kept} {s : State} (k : Nat) (xs : List (Task × Option (Nat × Nat))) (place : Nat) (h : Good q s) (w_regs : q.keep .regs = false := by assumption) (w_pages : q.keep .pages = false := by assumption) (w_msgs : q.keep .msgs = false := by assumption) (w_faultLog : q.keep .faultLog = false := by assumption) (w_hbm : q.keep .hbm = false := by assumption) (w_caches : q.keep .caches = false := by assumption) (w_mem : q.keep .mem = false := by assumption) (w_work : q.keep .work = false := by assumption) (w_freeCtr : q.keep .freeCtr = false := by assumption) : Good q (Sys2Proof.Machine.State.accept s k xs place).1 := by
  unfold Sys2Proof.Machine.State.accept
  repeat' first
    | with_reducible assumption
    | with_reducible apply goodO_next
    | intro _
    | with_reducible apply State_setChannel_good
    | with_reducible apply State_storeWatched_good
    | with_reducible apply State_enter_good
    | with_reducible apply State_spill_good
    | with_reducible apply good_foldl
    | with_reducible apply good_foldl_fst
    | split

theorem State_post_good {q : Kept} {s z : State} {y : Status} {fn : Nat} {item : List Byte} {d delay place : Nat} (hz : Sys2Proof.Machine.State.post s fn item d delay place = some (z, y)) (h : Good q s) (w_regs : q.keep .regs = false := by assumption) (w_pages : q.keep .pages = false := by assumption) (w_msgs : q.keep .msgs = false := by assumption) (w_faultLog : q.keep .faultLog = false := by assumption) (w_hbm : q.keep .hbm = false := by assumption) (w_caches : q.keep .caches = false := by assumption) (w_mem : q.keep .mem = false := by assumption) (w_work : q.keep .work = false := by assumption) (w_freeCtr : q.keep .freeCtr = false := by assumption) : Good q z := by
  unfold Sys2Proof.Machine.State.post at hz
  dsimp only at hz
  split at hz
  · cases hz
    exact h
  · have h1 := State_accept_good (s.get (FN_SCHED_POST_CHAN fn)) [({ Task.posted item fn with exp := (s.newExp 1 none).1 }, s.delayOf d delay)] place
      (State_newExp_good 1 none h)
    split at hz
    · rename_i e
      rw [e] at h1
      cases hz
      exact h1
    · cases hz

theorem State_blockFlow_good {q : Kept} {s : State} (w : Nat) (core : Nat) (h : Good q s) (w_regs : q.keep .regs = false := by assumption) (w_pages : q.keep .pages = false := by assumption) (w_msgs : q.keep .msgs = false := by assumption) (w_work : q.keep .work = false := by assumption) (w_freeCtr : q.keep .freeCtr = false := by assumption) : Good q (Sys2Proof.Machine.State.blockFlow s w core) := by
  unfold Sys2Proof.Machine.State.blockFlow
  repeat' first
    | with_reducible assumption
    | with_reducible apply goodO_next
    | intro _
    | with_reducible apply State_set_good
    | with_reducible apply State_drawFree_good
    | with_reducible apply State_setFlow_good
    | with_reducible apply State_attention_good
    | with_reducible apply State_unlist_good

theorem State_noticeFlow_good {q : Kept} {s : State} (w : Nat) (h : Good q s) (w_regs : q.keep .regs = false := by assumption) (w_pages : q.keep .pages = false := by assumption) (w_msgs : q.keep .msgs = false := by assumption) (w_work : q.keep .work = false := by assumption) (w_freeCtr : q.keep .freeCtr = false := by assumption) : Good q (Sys2Proof.Machine.State.noticeFlow s w) := by
  unfold Sys2Proof.Machine.State.noticeFlow
  repeat' first
    | with_reducible assumption
    | with_reducible apply goodO_next
    | intro _
    | with_reducible apply State_drawFree_good
    | with_reducible apply State_setFlow_good
    | with_reducible apply State_blockFlow_good
    | with_reducible apply good_foldl
    | with_reducible apply good_foldl_fst
    | split

theorem State_flowEnds_good {q : Kept} {s : State} (w : Nat) (core : Nat) (st : Status) (tag : Nat) (h : Good q s) (w_regs : q.keep .regs = false := by assumption) (w_pages : q.keep .pages = false := by assumption) (w_msgs : q.keep .msgs = false := by assumption) (w_work : q.keep .work = false := by assumption) (w_link : q.keep .link = false := by assumption) (w_freeCtr : q.keep .freeCtr = false := by assumption) : Good q (Sys2Proof.Machine.State.flowEnds s w core st tag) := by
  unfold Sys2Proof.Machine.State.flowEnds
  repeat' first
    | with_reducible assumption
    | with_reducible apply goodO_next
    | intro _
    | with_reducible apply State_blockFlow_good
    | with_reducible apply State_taskDone_good
    | with_reducible apply State_taskEnded_good
    | with_reducible apply State_refresh_good
    | with_reducible apply State_attention_good
    | with_reducible apply State_setFlow_good
    | with_reducible apply State_voidChildren_good
    | with_reducible apply State_set_good
    | with_reducible apply good_foldl
    | with_reducible apply good_foldl_fst
    | split
    | with_reducible refine good_fst (by assumption) ?_
    | with_reducible refine good_snd (by assumption) ?_
    | with_reducible refine good_snd2 (by assumption) ?_
    | dsimp only
    | with_reducible refine good_mk (t := _) ?_ rfl rfl rfl rfl rfl rfl rfl rfl

theorem State_bindItem_good {q : Kept} {s : State} (core : Nat) (x : Task) (h : Good q s) (w_work : q.keep .work = false := by assumption) : Good q (Sys2Proof.Machine.State.bindItem s core x) := by
  unfold Sys2Proof.Machine.State.bindItem
  repeat' first
    | with_reducible assumption
    | with_reducible apply goodO_next
    | intro _
    | with_reducible apply State_setExp_good
    | with_reducible apply good_foldl
    | with_reducible apply good_foldl_fst
    | split

theorem State_advancePtr_good {q : Kept} {s : State} (h : Good q s) (w_regs : q.keep .regs = false := by assumption) : Good q (Sys2Proof.Machine.State.advancePtr s) := by
  unfold Sys2Proof.Machine.State.advancePtr
  repeat' first
    | with_reducible assumption
    | with_reducible apply goodO_next
    | intro _
    | with_reducible apply State_set_good
    | with_reducible apply good_foldl
    | with_reducible apply good_foldl_fst
    | split
    | with_reducible refine good_fst (by assumption) ?_
    | with_reducible refine good_snd (by assumption) ?_
    | with_reducible refine good_snd2 (by assumption) ?_
    | dsimp only

theorem State_select_good {q : Kept} (r0 : Nat) (w_regs : q.keep .regs = false := by assumption) : ∀ (s : State) (core : Nat) (slot : Nat), Good q s → ∀ y z, Sys2Proof.Machine.State.select s core slot r0 = some (y, z) → Good q z := by
  induction r0 with
  | zero =>
    intro s core slot h y z hz
    cases hz
  | succ n ih =>
    intro s core slot h y z hz
    unfold Sys2Proof.Machine.State.select at hz
    dsimp only at hz
    split at hz
    · split at hz
      · cases hz
        exact State_add_good _ _ (State_add_good _ _ (State_set_good _ _ h))
      · exact ih _ _ _ (State_advancePtr_good h) _ _ hz
    · exact ih _ _ _ (State_advancePtr_good h) _ _ hz

theorem State_setRunning_good {q : Kept} {s : State} (core : Nat) (slot : Nat) (r : Option Running) (h : Good q s) (w_work : q.keep .work = false := by assumption) : Good q (Sys2Proof.Machine.State.setRunning s core slot r) := by
  unfold Sys2Proof.Machine.State.setRunning
  repeat' first
    | with_reducible assumption
    | with_reducible apply goodO_next
    | intro _
    | with_reducible apply good_foldl
    | with_reducible apply good_foldl_fst
    | split
    | with_reducible refine good_fst (by assumption) ?_
    | with_reducible refine good_snd (by assumption) ?_
    | with_reducible refine good_snd2 (by assumption) ?_
    | dsimp only
    | with_reducible refine good_mk (t := _) ?_ rfl rfl rfl rfl rfl rfl rfl rfl

theorem State_taskFail_good {q : Kept} {s : State} (core : Nat) (slot : Nat) (x : Task) (st : Status) (step : Nat) (opcode : Nat) (h : Good q s) (w_pages : q.keep .pages = false := by assumption) (w_msgs : q.keep .msgs = false := by assumption) : Good q (Sys2Proof.Machine.State.taskFail s core slot x st step opcode) := by
  unfold Sys2Proof.Machine.State.taskFail
  repeat' first
    | with_reducible assumption
    | with_reducible apply goodO_next
    | intro _
    | with_reducible apply State_raise_good
    | with_reducible apply State_capture_good

theorem State_startTask_good {q : Kept} {s : State} (core : Nat) (slot : Nat) (x : Task) (h : Good q s) (w_regs : q.keep .regs = false := by assumption) (w_pages : q.keep .pages = false := by assumption) (w_msgs : q.keep .msgs = false := by assumption) (w_work : q.keep .work = false := by assumption) (w_link : q.keep .link = false := by assumption) (w_freeCtr : q.keep .freeCtr = false := by assumption) : Good q (Sys2Proof.Machine.State.startTask s core slot x) := by
  unfold Sys2Proof.Machine.State.startTask
  repeat' first
    | with_reducible assumption
    | with_reducible apply goodO_next
    | intro _
    | with_reducible apply State_taskFail_good
    | with_reducible apply State_setRunning_good
    | with_reducible apply State_bindItem_good
    | with_reducible apply State_flowEnds_good
    | with_reducible apply State_drawFree_good
    | with_reducible apply State_set_good
    | with_reducible apply good_foldl
    | with_reducible apply good_foldl_fst
    | split
    | with_reducible refine good_fst (by assumption) ?_
    | with_reducible refine good_snd (by assumption) ?_
    | with_reducible refine good_snd2 (by assumption) ?_
    | dsimp only

end Sys2Proof.Laws
end

