-- ==== Sys2Proof/Laws/KeepSched.lean ====
section
/-!
SUPPORT. What the operations of Machine/Sched.lean keep.
-/

set_option Elab.async false

namespace Sys2Proof.Laws

open Sys2Proof.Machine

theorem execSlotGet_good {q : Kept} (core : Nat) (slot : Nat) {s : State} (h : Good q s) (w_work : q.keep .work = false := by assumption) : GoodO q (Sys2Proof.Machine.execSlotGet core slot s) := by
  unfold Sys2Proof.Machine.execSlotGet
  repeat' first
    | with_reducible assumption
    | with_reducible apply goodO_next
    | intro _
    | with_reducible apply event_good
    | with_reducible apply good_foldl
    | with_reducible apply good_foldl_fst
    | split
    | with_reducible refine good_fst (by assumption) ?_
    | with_reducible refine good_snd (by assumption) ?_
    | with_reducible refine good_snd2 (by assumption) ?_
    | dsimp only
    | with_reducible refine good_mk (t := _) ?_ rfl rfl rfl rfl rfl rfl rfl rfl

theorem execTaskDispatch_good {q : Kept} {s : State} (h : Good q s) (w_regs : q.keep .regs = false := by assumption) (w_pages : q.keep .pages = false := by assumption) (w_msgs : q.keep .msgs = false := by assumption) (w_work : q.keep .work = false := by assumption) (w_link : q.keep .link = false := by assumption) (w_freeCtr : q.keep .freeCtr = false := by assumption) : GoodO q (Sys2Proof.Machine.execTaskDispatch s) := by
  unfold Sys2Proof.Machine.execTaskDispatch
  repeat' first
    | with_reducible assumption
    | with_reducible apply goodO_next
    | intro _
    | with_reducible apply State_startTask_good
    | with_reducible apply State_refresh_good
    | with_reducible apply State_setFlow_good
    | with_reducible apply event_good
    | with_reducible apply State_set_good
    | with_reducible apply good_foldl
    | with_reducible apply good_foldl_fst
    | split
    | with_reducible refine good_fst (by assumption) ?_
    | with_reducible refine good_snd (by assumption) ?_
    | with_reducible refine good_snd2 (by assumption) ?_
    | (with_reducible refine State_select_good _ ?_ _ _ _ ?_ _ _ (by assumption))
    | dsimp only
    | with_reducible refine good_mk (t := _) ?_ rfl rfl rfl rfl rfl rfl rfl rfl

theorem State_expandStops_good {q : Kept} {s : State} (c : Nat) (st : Status) (h : Good q s) (w_pages : q.keep .pages = false := by assumption) (w_msgs : q.keep .msgs = false := by assumption) (w_work : q.keep .work = false := by assumption) : Good q (Sys2Proof.Machine.State.expandStops s c st) := by
  unfold Sys2Proof.Machine.State.expandStops
  repeat' first
    | with_reducible assumption
    | with_reducible apply goodO_next
    | intro _
    | with_reducible apply State_raiseEdge_good
    | with_reducible apply State_capture_good
    | with_reducible apply State_setChain_good

theorem execItemExpand_good {q : Kept} (c : Nat) {s : State} (h : Good q s) (w_regs : q.keep .regs = false := by assumption) (w_pages : q.keep .pages = false := by assumption) (w_msgs : q.keep .msgs = false := by assumption) (w_faultLog : q.keep .faultLog = false := by assumption) (w_hbm : q.keep .hbm = false := by assumption) (w_caches : q.keep .caches = false := by assumption) (w_mem : q.keep .mem = false := by assumption) (w_work : q.keep .work = false := by assumption) (w_freeCtr : q.keep .freeCtr = false := by assumption) : GoodO q (Sys2Proof.Machine.execItemExpand c s) := by
  unfold Sys2Proof.Machine.execItemExpand
  repeat' first
    | with_reducible assumption
    | with_reducible apply goodO_next
    | intro _
    | with_reducible apply State_expandStops_good
    | with_reducible apply State_accept_good
    | with_reducible apply State_newExp_good
    | with_reducible apply State_finishCell_good
    | with_reducible apply State_takeCell_good
    | with_reducible apply event_good
    | with_reducible apply good_foldl
    | with_reducible apply good_foldl_fst
    | split
    | with_reducible refine good_fst (by assumption) ?_
    | with_reducible refine good_snd (by assumption) ?_
    | with_reducible refine good_snd2 (by assumption) ?_
    | dsimp only

theorem execBindingWrite_good {q : Kept} (fn : Nat) (c : Nat) (x : Nat) (v : Nat) {s : State} (h : Good q s) (w_regs : q.keep .regs = false := by assumption) (w_pages : q.keep .pages = false := by assumption) (w_msgs : q.keep .msgs = false := by assumption) (w_work : q.keep .work = false := by assumption) : GoodO q (Sys2Proof.Machine.execBindingWrite fn c x v s) := by
  unfold Sys2Proof.Machine.execBindingWrite
  repeat' first
    | with_reducible assumption
    | with_reducible apply goodO_next
    | intro _
    | with_reducible apply State_set_good
    | with_reducible apply State_refuseWrite_good
    | with_reducible apply mmio_good
    | with_reducible apply State_setChain_good
    | with_reducible apply good_foldl
    | with_reducible apply good_foldl_fst
    | split

theorem State_postEnds_good {q : Kept} {s : State} (fn : Nat) (j : Nat) (dlist : Nat) (st : Status) (h : Good q s) (w_regs : q.keep .regs = false := by assumption) (w_pages : q.keep .pages = false := by assumption) (w_msgs : q.keep .msgs = false := by assumption) : Good q (Sys2Proof.Machine.State.postEnds s fn j dlist st) := by
  unfold Sys2Proof.Machine.State.postEnds
  repeat' first
    | with_reducible assumption
    | with_reducible apply goodO_next
    | intro _
    | with_reducible apply State_captureFn_good
    | with_reducible apply State_raise_good
    | with_reducible apply State_set_good
    | with_reducible apply good_foldl
    | with_reducible apply good_foldl_fst
    | split

theorem execHostPost_good {q : Kept} (fn : Nat) (j : Nat) (dlist : Nat) {s : State} (h : Good q s) (w_regs : q.keep .regs = false := by assumption) (w_pages : q.keep .pages = false := by assumption) (w_msgs : q.keep .msgs = false := by assumption) (w_faultLog : q.keep .faultLog = false := by assumption) (w_hbm : q.keep .hbm = false := by assumption) (w_caches : q.keep .caches = false := by assumption) (w_mem : q.keep .mem = false := by assumption) (w_work : q.keep .work = false := by assumption) (w_freeCtr : q.keep .freeCtr = false := by assumption) (w_held : q.keep .held = false := by assumption) : GoodO q (Sys2Proof.Machine.execHostPost fn j dlist s) := by
  unfold Sys2Proof.Machine.execHostPost
  repeat' first
    | with_reducible assumption
    | with_reducible apply goodO_next
    | intro _
    | with_reducible apply State_set_good
    | with_reducible apply State_hold_good
    | with_reducible apply mmio_good
    | with_reducible apply fabric_good
    | with_reducible apply State_postEnds_good
    | with_reducible apply good_foldl
    | with_reducible apply good_foldl_fst
    | split
    | with_reducible refine good_fst (by assumption) ?_
    | with_reducible refine good_snd (by assumption) ?_
    | with_reducible refine good_snd2 (by assumption) ?_
    | with_reducible refine State_post_good (by assumption) ?_
    | dsimp only

theorem execBqPop_good {q : Kept} (fn : Nat) (j : Nat) {s : State} (h : Good q s) (w_regs : q.keep .regs = false := by assumption) (w_pages : q.keep .pages = false := by assumption) (w_readData : q.keep .readData = false := by assumption) (w_msgs : q.keep .msgs = false := by assumption) (w_work : q.keep .work = false := by assumption) : GoodO q (Sys2Proof.Machine.execBqPop fn j s) := by
  unfold Sys2Proof.Machine.execBqPop
  repeat' first
    | with_reducible assumption
    | with_reducible apply goodO_next
    | intro _
    | with_reducible apply mmioRead_good
    | with_reducible apply State_set_good
    | with_reducible apply good_foldl
    | with_reducible apply good_foldl_fst
    | split
    | with_reducible refine good_fst (by assumption) ?_
    | with_reducible refine good_snd (by assumption) ?_
    | with_reducible refine good_snd2 (by assumption) ?_
    | dsimp only
    | with_reducible refine good_mk (t := _) ?_ rfl rfl rfl rfl rfl rfl rfl rfl

theorem State_flowRefused_good {q : Kept} {s : State} (fn : Nat) (j : Nat) (v : Nat) (h : Good q s) (w_regs : q.keep .regs = false := by assumption) (w_pages : q.keep .pages = false := by assumption) : Good q (Sys2Proof.Machine.State.flowRefused s fn j v) := by
  unfold Sys2Proof.Machine.State.flowRefused
  repeat' first
    | with_reducible assumption
    | with_reducible apply goodO_next
    | intro _
    | with_reducible apply State_refuseWrite_good
    | with_reducible apply State_set_good

theorem flowCmd_good {q : Kept} (fn : Nat) (w : Nat) (op : Nat) (c : Instr) {s : State} (body : State → State × Status) (h : Good q s) (hbody : ∀ x0, Good q x0 → Good q (body x0).1) (w_regs : q.keep .regs = false := by assumption) (w_pages : q.keep .pages = false := by assumption) (w_msgs : q.keep .msgs = false := by assumption) (w_held : q.keep .held = false := by assumption) : GoodO q (Sys2Proof.Machine.flowCmd fn w op c s body) := by
  unfold Sys2Proof.Machine.flowCmd
  repeat' first
    | with_reducible assumption
    | with_reducible apply goodO_next
    | intro _
    | with_reducible apply State_flowRefused_good
    | with_reducible apply fabric_good
    | with_reducible apply mmio_good
    | with_reducible apply hbody
    | with_reducible apply State_set_good
    | with_reducible apply good_foldl
    | with_reducible apply good_foldl_fst
    | split

theorem execReleaseSkip_good {q : Kept} (fn : Nat) (w : Nat) {s : State} (h : Good q s) (w_regs : q.keep .regs = false := by assumption) (w_pages : q.keep .pages = false := by assumption) (w_msgs : q.keep .msgs = false := by assumption) (w_work : q.keep .work = false := by assumption) (w_held : q.keep .held = false := by assumption) : GoodO q (Sys2Proof.Machine.execReleaseSkip fn w s) := by
  unfold Sys2Proof.Machine.execReleaseSkip
  repeat' first
    | with_reducible assumption
    | with_reducible apply goodO_next
    | intro _
    | with_reducible apply State_set_good
    | with_reducible apply State_setFlow_good
    | with_reducible apply State_attnRefresh_good
    | with_reducible apply State_refresh_good
    | with_reducible apply State_taskDone_good
    | with_reducible apply flowCmd_good
    | with_reducible apply good_foldl
    | with_reducible apply good_foldl_fst
    | split

theorem State_unended_good {q : Kept} {s : State} (x : Task) (h : Good q s) (w_work : q.keep .work = false := by assumption) : Good q (Sys2Proof.Machine.State.unended s x) := by
  unfold Sys2Proof.Machine.State.unended
  repeat' first
    | with_reducible assumption
    | with_reducible apply goodO_next
    | intro _
    | with_reducible apply State_setExp_good
    | with_reducible apply good_foldl
    | with_reducible apply good_foldl_fst
    | split

theorem execReleaseRetry_good {q : Kept} (fn : Nat) (w : Nat) {s : State} (h : Good q s) (w_regs : q.keep .regs = false := by assumption) (w_pages : q.keep .pages = false := by assumption) (w_msgs : q.keep .msgs = false := by assumption) (w_work : q.keep .work = false := by assumption) (w_held : q.keep .held = false := by assumption) : GoodO q (Sys2Proof.Machine.execReleaseRetry fn w s) := by
  unfold Sys2Proof.Machine.execReleaseRetry
  repeat' first
    | with_reducible assumption
    | with_reducible apply goodO_next
    | intro _
    | with_reducible apply State_set_good
    | with_reducible apply State_setFlow_good
    | with_reducible apply State_attnRefresh_good
    | with_reducible apply State_refresh_good
    | with_reducible apply flowCmd_good
    | with_reducible apply State_unended_good
    | with_reducible apply good_foldl
    | with_reducible apply good_foldl_fst
    | split

theorem execClearStale_good {q : Kept} (fn : Nat) (w : Nat) {s : State} (h : Good q s) (w_regs : q.keep .regs = false := by assumption) (w_pages : q.keep .pages = false := by assumption) (w_msgs : q.keep .msgs = false := by assumption) (w_work : q.keep .work = false := by assumption) (w_held : q.keep .held = false := by assumption) : GoodO q (Sys2Proof.Machine.execClearStale fn w s) := by
  unfold Sys2Proof.Machine.execClearStale
  repeat' first
    | with_reducible assumption
    | with_reducible apply goodO_next
    | intro _
    | with_reducible apply State_flag_good
    | with_reducible apply State_attnRefresh_good
    | with_reducible apply State_refresh_good
    | with_reducible apply flowCmd_good

theorem execPurge_good {q : Kept} (fn : Nat) (w : Nat) {s : State} (h : Good q s) (w_regs : q.keep .regs = false := by assumption) (w_pages : q.keep .pages = false := by assumption) (w_msgs : q.keep .msgs = false := by assumption) (w_work : q.keep .work = false := by assumption) (w_held : q.keep .held = false := by assumption) : GoodO q (Sys2Proof.Machine.execPurge fn w s) := by
  unfold Sys2Proof.Machine.execPurge
  repeat' first
    | with_reducible assumption
    | with_reducible apply goodO_next
    | intro _
    | with_reducible apply State_setFlow_good
    | with_reducible apply State_refresh_good
    | with_reducible apply State_taskDone_good
    | with_reducible apply flowCmd_good
    | with_reducible apply good_foldl

theorem execDlReleaseAll_good {q : Kept} (fn : Nat) (d : Nat) {s : State} (h : Good q s) (w_regs : q.keep .regs = false := by assumption) (w_pages : q.keep .pages = false := by assumption) (w_msgs : q.keep .msgs = false := by assumption) (w_work : q.keep .work = false := by assumption) (w_held : q.keep .held = false := by assumption) : GoodO q (Sys2Proof.Machine.execDlReleaseAll fn d s) := by
  unfold Sys2Proof.Machine.execDlReleaseAll
  repeat' first
    | with_reducible assumption
    | with_reducible apply goodO_next
    | intro _
    | with_reducible apply State_joinFlow_good
    | with_reducible apply State_setDelayList_good
    | with_reducible apply fabric_good
    | with_reducible apply mmio_good
    | with_reducible apply State_refuseWrite_good
    | with_reducible apply State_hold_good
    | with_reducible apply good_foldl
    | with_reducible apply good_foldl_fst
    | split

theorem execDlPurge_good {q : Kept} (fn : Nat) (d : Nat) {s : State} (h : Good q s) (w_regs : q.keep .regs = false := by assumption) (w_pages : q.keep .pages = false := by assumption) (w_msgs : q.keep .msgs = false := by assumption) (w_work : q.keep .work = false := by assumption) (w_held : q.keep .held = false := by assumption) : GoodO q (Sys2Proof.Machine.execDlPurge fn d s) := by
  unfold Sys2Proof.Machine.execDlPurge
  repeat' first
    | with_reducible assumption
    | with_reducible apply goodO_next
    | intro _
    | with_reducible apply State_taskDone_good
    | with_reducible apply State_setDelayList_good
    | with_reducible apply fabric_good
    | with_reducible apply mmio_good
    | with_reducible apply State_refuseWrite_good
    | with_reducible apply good_foldl
    | with_reducible apply good_foldl_fst
    | split

theorem execChnApply_good {q : Kept} (fn : Nat) (k : Nat) {s : State} (h : Good q s) (w_regs : q.keep .regs = false := by assumption) (w_pages : q.keep .pages = false := by assumption) (w_msgs : q.keep .msgs = false := by assumption) (w_work : q.keep .work = false := by assumption) (w_held : q.keep .held = false := by assumption) : GoodO q (Sys2Proof.Machine.execChnApply fn k s) := by
  unfold Sys2Proof.Machine.execChnApply
  repeat' first
    | with_reducible assumption
    | with_reducible apply goodO_next
    | intro _
    | with_reducible apply State_flag_good
    | with_reducible apply State_captureFn_good
    | with_reducible apply command_good
    | with_reducible apply State_setChannel_good
    | with_reducible apply good_foldl
    | with_reducible apply good_foldl_fst
    | split

theorem execChnEnable_good {q : Kept} (fn : Nat) (k : Nat) (en : Bool) {s : State} (h : Good q s) (w_regs : q.keep .regs = false := by assumption) (w_pages : q.keep .pages = false := by assumption) (w_msgs : q.keep .msgs = false := by assumption) : GoodO q (Sys2Proof.Machine.execChnEnable fn k en s) := by
  unfold Sys2Proof.Machine.execChnEnable
  repeat' first
    | with_reducible assumption
    | with_reducible apply goodO_next
    | intro _
    | with_reducible apply State_flag_good
    | with_reducible apply State_captureFn_good
    | with_reducible apply mmio_good
    | with_reducible apply good_foldl
    | with_reducible apply good_foldl_fst
    | split

theorem execClearLost_good {q : Kept} (fn : Nat) (k : Nat) {s : State} (h : Good q s) (w_regs : q.keep .regs = false := by assumption) (w_pages : q.keep .pages = false := by assumption) (w_msgs : q.keep .msgs = false := by assumption) (w_held : q.keep .held = false := by assumption) : GoodO q (Sys2Proof.Machine.execClearLost fn k s) := by
  unfold Sys2Proof.Machine.execClearLost
  repeat' first
    | with_reducible assumption
    | with_reducible apply goodO_next
    | intro _
    | with_reducible apply State_flag_good
    | with_reducible apply command_good

theorem State_refill_good {q : Kept} (r0 : Nat) (w_regs : q.keep .regs = false := by assumption) (w_pages : q.keep .pages = false := by assumption) (w_msgs : q.keep .msgs = false := by assumption) (w_faultLog : q.keep .faultLog = false := by assumption) (w_hbm : q.keep .hbm = false := by assumption) (w_caches : q.keep .caches = false := by assumption) (w_mem : q.keep .mem = false := by assumption) (w_work : q.keep .work = false := by assumption) (w_freeCtr : q.keep .freeCtr = false := by assumption) : ∀ (s : State) (k : Nat), Good q s → Good q (Sys2Proof.Machine.State.refill s k r0) := by
  induction r0 with
  | zero =>
    intro s k h
    unfold Sys2Proof.Machine.State.refill
    repeat' first
      | with_reducible assumption
  | succ n ih =>
    intro s k h
    unfold Sys2Proof.Machine.State.refill
    repeat' first
      | with_reducible assumption
      | with_reducible apply goodO_next
      | intro _
      | with_reducible apply ih
      | with_reducible apply State_hbmRead_good
      | with_reducible apply State_setChannel_good
      | with_reducible apply State_enter_good
      | with_reducible apply State_loseSpill_good
      | with_reducible apply good_foldl
      | with_reducible apply good_foldl_fst
      | split
      | with_reducible refine good_fst (by assumption) ?_
      | with_reducible refine good_snd (by assumption) ?_
      | with_reducible refine good_snd2 (by assumption) ?_
      | dsimp only

theorem execSpillRefill_good {q : Kept} (k : Nat) {s : State} (h : Good q s) (w_regs : q.keep .regs = false := by assumption) (w_pages : q.keep .pages = false := by assumption) (w_msgs : q.keep .msgs = false := by assumption) (w_faultLog : q.keep .faultLog = false := by assumption) (w_hbm : q.keep .hbm = false := by assumption) (w_caches : q.keep .caches = false := by assumption) (w_mem : q.keep .mem = false := by assumption) (w_work : q.keep .work = false := by assumption) (w_freeCtr : q.keep .freeCtr = false := by assumption) : GoodO q (Sys2Proof.Machine.execSpillRefill k s) := by
  unfold Sys2Proof.Machine.execSpillRefill
  repeat' first
    | with_reducible assumption
    | with_reducible apply goodO_next
    | intro _
    | with_reducible apply State_refill_good
    | with_reducible apply State_spillHeader_good
    | with_reducible apply State_storeWatched_good
    | with_reducible apply event_good
    | with_reducible apply good_foldl
    | with_reducible apply good_foldl_fst
    | split

theorem execFlushSpill_good {q : Kept} (fn : Nat) (k : Nat) {s : State} (h : Good q s) (w_regs : q.keep .regs = false := by assumption) (w_pages : q.keep .pages = false := by assumption) (w_msgs : q.keep .msgs = false := by assumption) (w_faultLog : q.keep .faultLog = false := by assumption) (w_hbm : q.keep .hbm = false := by assumption) (w_caches : q.keep .caches = false := by assumption) (w_mem : q.keep .mem = false := by assumption) (w_work : q.keep .work = false := by assumption) (w_freeCtr : q.keep .freeCtr = false := by assumption) (w_held : q.keep .held = false := by assumption) : GoodO q (Sys2Proof.Machine.execFlushSpill fn k s) := by
  unfold Sys2Proof.Machine.execFlushSpill
  repeat' first
    | with_reducible assumption
    | with_reducible apply goodO_next
    | intro _
    | with_reducible apply State_spillHeader_good
    | with_reducible apply State_taskDone_good
    | with_reducible apply State_setChannel_good
    | with_reducible apply command_good
    | with_reducible apply State_hold_good
    | with_reducible apply State_add_good
    | with_reducible apply good_foldl
    | with_reducible apply good_foldl_fst
    | split
    | with_reducible refine good_fst (by assumption) ?_
    | with_reducible refine good_snd (by assumption) ?_
    | with_reducible refine good_snd2 (by assumption) ?_
    | dsimp only

end Sys2Proof.Laws
end

