-- ==== Sys2Proof/Laws/KeepWeights.lean ====
section
/-!
SUPPORT. What the operations of Machine/Weights.lean keep.
-/

set_option Elab.async false

namespace Sys2Proof.Laws

open Sys2Proof.Machine

theorem State_setWset_good {q : Kept} {s : State} (e : Nat) (v : WeightSet) (h : Good q s) (w_work : q.keep .work = false := by assumption) : Good q (Sys2Proof.Machine.State.setWset s e v) := by
  unfold Sys2Proof.Machine.State.setWset
  repeat' first
    | with_reducible assumption
    | with_reducible apply goodO_next
    | intro _
    | with_reducible apply good_foldl
    | with_reducible apply good_foldl_fst
    | split
    | with_reducible refine good_fst (by assumption) ?_
    | with_reducible refine good_snd (by assumption) ?_
    | with_reducible refine good_snd2 (by assumption) ?_
    | dsimp only
    | with_reducible refine good_mk (t := _) ?_ rfl rfl rfl rfl rfl rfl rfl rfl

theorem State_setJob_good {q : Kept} {s : State} (e : Nat) (j : Option SetJob) (h : Good q s) (w_work : q.keep .work = false := by assumption) : Good q (Sys2Proof.Machine.State.setJob s e j) := by
  unfold Sys2Proof.Machine.State.setJob
  repeat' first
    | with_reducible assumption
    | with_reducible apply goodO_next
    | intro _
    | with_reducible apply State_setWset_good

theorem State_setFailed_good {q : Kept} {s : State} (e : Nat) (b : Bool) (h : Good q s) (w_work : q.keep .work = false := by assumption) : Good q (Sys2Proof.Machine.State.setFailed s e b) := by
  unfold Sys2Proof.Machine.State.setFailed
  repeat' first
    | with_reducible assumption
    | with_reducible apply goodO_next
    | intro _
    | with_reducible apply State_setWset_good

theorem State_setHolds_good {q : Kept} {s : State} (e : Nat) (k : Nat) (core : Nat) (b : Bool) (h : Good q s) (w_regs : q.keep .regs = false := by assumption) : Good q (Sys2Proof.Machine.State.setHolds s e k core b) := by
  unfold Sys2Proof.Machine.State.setHolds
  repeat' first
    | with_reducible assumption
    | with_reducible apply goodO_next
    | intro _
    | with_reducible apply State_set_good

theorem State_bumpEpoch_good {q : Kept} {s : State} (h : Good q s) (w_regs : q.keep .regs = false := by assumption) : Good q (Sys2Proof.Machine.State.bumpEpoch s) := by
  unfold Sys2Proof.Machine.State.bumpEpoch
  repeat' first
    | with_reducible assumption
    | with_reducible apply goodO_next
    | intro _
    | with_reducible apply State_set_good
    | with_reducible apply good_foldl

theorem State_wsetError_good {q : Kept} {s : State} (e : Nat) (op : Nat) (copy : Nat) (core : Nat) (tensor : Nat) (st : Status) (h : Good q s) (w_regs : q.keep .regs = false := by assumption) (w_pages : q.keep .pages = false := by assumption) : Good q (Sys2Proof.Machine.State.wsetError s e op copy core tensor st) := by
  unfold Sys2Proof.Machine.State.wsetError
  repeat' first
    | with_reducible assumption
    | with_reducible apply goodO_next
    | intro _
    | with_reducible apply State_capture_good
    | with_reducible apply State_setPage_good
    | with_reducible apply State_set_good

theorem wsetCmd_good {q : Kept} (fn : Nat) (e : Nat) (op : Nat) (copy : Nat) (core : Nat) (c : Instr) {s : State} (check : State → Status) (body : State → State) (h : Good q s) (hbody : ∀ x0, Good q x0 → Good q (body x0)) (w_regs : q.keep .regs = false := by assumption) (w_pages : q.keep .pages = false := by assumption) (w_msgs : q.keep .msgs = false := by assumption) (w_held : q.keep .held = false := by assumption) : GoodO q (Sys2Proof.Machine.wsetCmd fn e op copy core c s check body) := by
  unfold Sys2Proof.Machine.wsetCmd
  repeat' first
    | with_reducible assumption
    | with_reducible apply goodO_next
    | intro _
    | with_reducible apply hbody
    | with_reducible apply State_set_good
    | with_reducible apply command_good
    | with_reducible apply State_wsetError_good
    | with_reducible apply good_foldl
    | with_reducible apply good_foldl_fst
    | split

theorem State_setCur_good {q : Kept} {s : State} (e : Nat) (v : Nat) (h : Good q s) (w_regs : q.keep .regs = false := by assumption) : Good q (Sys2Proof.Machine.State.setCur s e v) := by
  unfold Sys2Proof.Machine.State.setCur
  repeat' first
    | with_reducible assumption
    | with_reducible apply goodO_next
    | intro _
    | with_reducible apply State_bumpEpoch_good
    | with_reducible apply State_set_good
    | with_reducible apply good_foldl
    | with_reducible apply good_foldl_fst
    | split

theorem execWsetApply_good {q : Kept} (fn : Nat) (e : Nat) {s : State} (h : Good q s) (w_regs : q.keep .regs = false := by assumption) (w_pages : q.keep .pages = false := by assumption) (w_msgs : q.keep .msgs = false := by assumption) (w_work : q.keep .work = false := by assumption) (w_held : q.keep .held = false := by assumption) : GoodO q (Sys2Proof.Machine.execWsetApply fn e s) := by
  unfold Sys2Proof.Machine.execWsetApply
  repeat' first
    | with_reducible assumption
    | with_reducible apply goodO_next
    | intro _
    | with_reducible apply State_setCur_good
    | with_reducible apply wsetCmd_good
    | with_reducible apply State_setWset_good
    | with_reducible apply State_set_good

theorem State_fillDone_good {q : Kept} {s : State} (e : Nat) (j : SetJob) (h : Good q s) (w_regs : q.keep .regs = false := by assumption) (w_pages : q.keep .pages = false := by assumption) (w_msgs : q.keep .msgs = false := by assumption) (w_work : q.keep .work = false := by assumption) : Good q (Sys2Proof.Machine.State.fillDone s e j) := by
  unfold Sys2Proof.Machine.State.fillDone
  repeat' first
    | with_reducible assumption
    | with_reducible apply goodO_next
    | intro _
    | with_reducible apply State_bumpEpoch_good
    | with_reducible apply State_setFailed_good
    | with_reducible apply State_setJob_good
    | with_reducible apply State_raise_good
    | with_reducible apply State_set_good
    | with_reducible apply good_foldl
    | with_reducible apply good_foldl_fst
    | split

theorem State_startParts_good {q : Kept} {s : State} (e : Nat) (j : SetJob) (h : Good q s) (w_regs : q.keep .regs = false := by assumption) (w_work : q.keep .work = false := by assumption) : Good q (Sys2Proof.Machine.State.startParts s e j) := by
  unfold Sys2Proof.Machine.State.startParts
  repeat' first
    | with_reducible assumption
    | with_reducible apply goodO_next
    | intro _
    | with_reducible apply State_setJob_good
    | with_reducible apply State_setHolds_good
    | with_reducible apply good_foldl

theorem State_startJob_good {q : Kept} {s : State} (e : Nat) (j : SetJob) (h : Good q s) (w_regs : q.keep .regs = false := by assumption) (w_pages : q.keep .pages = false := by assumption) (w_msgs : q.keep .msgs = false := by assumption) (w_work : q.keep .work = false := by assumption) : Good q (Sys2Proof.Machine.State.startJob s e j) := by
  unfold Sys2Proof.Machine.State.startJob
  repeat' first
    | with_reducible assumption
    | with_reducible apply goodO_next
    | intro _
    | with_reducible apply State_set_good
    | with_reducible apply State_setJob_good
    | with_reducible apply State_fillDone_good
    | with_reducible apply State_startParts_good
    | with_reducible apply good_foldl
    | with_reducible apply good_foldl_fst
    | split
    | with_reducible refine good_fst (by assumption) ?_
    | with_reducible refine good_snd (by assumption) ?_
    | with_reducible refine good_snd2 (by assumption) ?_
    | dsimp only

theorem State_acceptJob_good {q : Kept} {s : State} (e : Nat) (j : SetJob) (h : Good q s) (w_regs : q.keep .regs = false := by assumption) (w_pages : q.keep .pages = false := by assumption) (w_msgs : q.keep .msgs = false := by assumption) (w_work : q.keep .work = false := by assumption) : Good q (Sys2Proof.Machine.State.acceptJob s e j) := by
  unfold Sys2Proof.Machine.State.acceptJob
  repeat' first
    | with_reducible assumption
    | with_reducible apply goodO_next
    | intro _
    | with_reducible apply State_setJob_good
    | with_reducible apply State_startJob_good
    | with_reducible apply good_foldl
    | with_reducible apply good_foldl_fst
    | split

theorem execWsetFill_good {q : Kept} (fn : Nat) (e : Nat) (copy : Nat) {s : State} (h : Good q s) (w_regs : q.keep .regs = false := by assumption) (w_pages : q.keep .pages = false := by assumption) (w_msgs : q.keep .msgs = false := by assumption) (w_work : q.keep .work = false := by assumption) (w_held : q.keep .held = false := by assumption) : GoodO q (Sys2Proof.Machine.execWsetFill fn e copy s) := by
  unfold Sys2Proof.Machine.execWsetFill
  repeat' first
    | with_reducible assumption
    | with_reducible apply goodO_next
    | intro _
    | with_reducible apply wsetCmd_good
    | with_reducible apply State_acceptJob_good

theorem execWsetCopyFreed_good {q : Kept} (e : Nat) {s : State} (h : Good q s) (w_regs : q.keep .regs = false := by assumption) (w_pages : q.keep .pages = false := by assumption) (w_msgs : q.keep .msgs = false := by assumption) (w_work : q.keep .work = false := by assumption) : GoodO q (Sys2Proof.Machine.execWsetCopyFreed e s) := by
  unfold Sys2Proof.Machine.execWsetCopyFreed
  repeat' first
    | with_reducible assumption
    | with_reducible apply goodO_next
    | intro _
    | with_reducible apply event_good
    | with_reducible apply State_startJob_good
    | with_reducible apply good_foldl
    | with_reducible apply good_foldl_fst
    | split

theorem State_engineRead_good {q : Kept} (r0 : Nat) (w_regs : q.keep .regs = false := by assumption) (w_pages : q.keep .pages = false := by assumption) (w_msgs : q.keep .msgs = false := by assumption) (w_faultLog : q.keep .faultLog = false := by assumption) (w_hbm : q.keep .hbm = false := by assumption) (w_caches : q.keep .caches = false := by assumption) (w_mem : q.keep .mem = false := by assumption) (w_freeCtr : q.keep .freeCtr = false := by assumption) : ∀ (s : State) (agent : Nat) (fn : Nat) (r1 : Nat) (r2 : Nat), Good q s → Good q (Sys2Proof.Machine.State.engineRead s agent fn r0 r1 r2).1 := by
  induction r0 with
  | zero =>
    intro s agent fn r1 r2 h
    unfold Sys2Proof.Machine.State.engineRead
    repeat' first
      | with_reducible assumption
  | succ n ih =>
    intro s agent fn r1 r2 h
    unfold Sys2Proof.Machine.State.engineRead
    repeat' first
      | with_reducible assumption
      | with_reducible apply goodO_next
      | intro _
      | with_reducible apply ih
      | with_reducible apply State_hbmRead_good
      | with_reducible apply good_foldl
      | with_reducible apply good_foldl_fst
      | split
      | with_reducible refine good_fst (by assumption) ?_
      | with_reducible refine good_snd (by assumption) ?_
      | with_reducible refine good_snd2 (by assumption) ?_
      | dsimp only

theorem State_weightRead_good {q : Kept} {s : State} (fn : Nat) (addr : Nat) (n : Nat) (h : Good q s) (w_regs : q.keep .regs = false := by assumption) (w_pages : q.keep .pages = false := by assumption) (w_msgs : q.keep .msgs = false := by assumption) (w_faultLog : q.keep .faultLog = false := by assumption) (w_hbm : q.keep .hbm = false := by assumption) (w_caches : q.keep .caches = false := by assumption) (w_mem : q.keep .mem = false := by assumption) (w_freeCtr : q.keep .freeCtr = false := by assumption) : Good q (Sys2Proof.Machine.State.weightRead s fn addr n).1 := by
  unfold Sys2Proof.Machine.State.weightRead
  repeat' first
    | with_reducible assumption
    | with_reducible apply goodO_next
    | intro _
    | with_reducible apply State_engineRead_good

theorem State_peatRead_good {q : Kept} {s : State} (fn : Nat) (agent : Nat) (off : Nat) (n : Nat) (o : ReadOutcome) (h : Good q s) (w_regs : q.keep .regs = false := by assumption) (w_pages : q.keep .pages = false := by assumption) (w_msgs : q.keep .msgs = false := by assumption) (w_host : q.keep .host = false := by assumption) (w_freeCtr : q.keep .freeCtr = false := by assumption) : Good q (Sys2Proof.Machine.State.peatRead s fn agent off n o).1 := by
  unfold Sys2Proof.Machine.State.peatRead
  repeat' first
    | with_reducible assumption
    | with_reducible apply goodO_next
    | intro _
    | with_reducible apply State_hostFetch_good
    | with_reducible apply good_foldl
    | with_reducible apply good_foldl_fst
    | split

theorem State_fillRead_good {q : Kept} {s : State} (e : Nat) (k : Nat) (core : Nat) (c : SetCfg) (src : ReadOutcome) (h : Good q s) (w_regs : q.keep .regs = false := by assumption) (w_pages : q.keep .pages = false := by assumption) (w_msgs : q.keep .msgs = false := by assumption) (w_host : q.keep .host = false := by assumption) (w_faultLog : q.keep .faultLog = false := by assumption) (w_hbm : q.keep .hbm = false := by assumption) (w_caches : q.keep .caches = false := by assumption) (w_mem : q.keep .mem = false := by assumption) (w_freeCtr : q.keep .freeCtr = false := by assumption) : Good q (Sys2Proof.Machine.State.fillRead s e k core c src).1 := by
  unfold Sys2Proof.Machine.State.fillRead
  repeat' first
    | with_reducible assumption
    | with_reducible apply goodO_next
    | intro _
    | with_reducible apply State_weightRead_good
    | with_reducible apply State_peatRead_good
    | with_reducible apply good_foldl
    | with_reducible apply good_foldl_fst
    | split

theorem State_fillDigest_good {q : Kept} {s : State} (e : Nat) (k : Nat) (core : Nat) (c : SetCfg) (h : Good q s) (w_regs : q.keep .regs = false := by assumption) (w_pages : q.keep .pages = false := by assumption) (w_msgs : q.keep .msgs = false := by assumption) (w_faultLog : q.keep .faultLog = false := by assumption) (w_hbm : q.keep .hbm = false := by assumption) (w_caches : q.keep .caches = false := by assumption) (w_mem : q.keep .mem = false := by assumption) (w_freeCtr : q.keep .freeCtr = false := by assumption) : Good q (Sys2Proof.Machine.State.fillDigest s e k core c).1 := by
  unfold Sys2Proof.Machine.State.fillDigest
  repeat' first
    | with_reducible assumption
    | with_reducible apply goodO_next
    | intro _
    | with_reducible apply State_weightRead_good

theorem State_fillWrite_good {q : Kept} {s : State} (e : Nat) (k : Nat) (core : Nat) (c : SetCfg) (b : List Byte) (h : Good q s) (w_regs : q.keep .regs = false := by assumption) (w_pages : q.keep .pages = false := by assumption) (w_msgs : q.keep .msgs = false := by assumption) (w_faultLog : q.keep .faultLog = false := by assumption) (w_ws : q.keep .ws = false := by assumption) (w_act : q.keep .act = false := by assumption) (w_hbm : q.keep .hbm = false := by assumption) (w_caches : q.keep .caches = false := by assumption) (w_mem : q.keep .mem = false := by assumption) (w_freeCtr : q.keep .freeCtr = false := by assumption) : Good q (Sys2Proof.Machine.State.fillWrite s e k core c b).1 := by
  unfold Sys2Proof.Machine.State.fillWrite
  repeat' first
    | with_reducible assumption
    | with_reducible apply goodO_next
    | intro _
    | with_reducible apply State_fillDigest_good
    | with_reducible apply State_storeWrite_good
    | with_reducible apply good_foldl
    | with_reducible apply good_foldl_fst
    | split
    | with_reducible refine good_fst (by assumption) ?_

theorem State_fillPart_good {q : Kept} {s : State} (e : Nat) (k : Nat) (core : Nat) (c : SetCfg) (src : ReadOutcome) (h : Good q s) (w_regs : q.keep .regs = false := by assumption) (w_pages : q.keep .pages = false := by assumption) (w_msgs : q.keep .msgs = false := by assumption) (w_host : q.keep .host = false := by assumption) (w_faultLog : q.keep .faultLog = false := by assumption) (w_ws : q.keep .ws = false := by assumption) (w_act : q.keep .act = false := by assumption) (w_hbm : q.keep .hbm = false := by assumption) (w_caches : q.keep .caches = false := by assumption) (w_mem : q.keep .mem = false := by assumption) (w_freeCtr : q.keep .freeCtr = false := by assumption) : Good q (Sys2Proof.Machine.State.fillPart s e k core c src).1 := by
  unfold Sys2Proof.Machine.State.fillPart
  repeat' first
    | with_reducible assumption
    | with_reducible apply goodO_next
    | intro _
    | with_reducible apply State_fillRead_good
    | with_reducible apply State_fillWrite_good
    | with_reducible apply good_foldl
    | with_reducible apply good_foldl_fst
    | split
    | with_reducible refine good_fst (by assumption) ?_

theorem execFillPartDone_good {q : Kept} (e : Nat) (core : Nat) (src : ReadOutcome) {s : State} (h : Good q s) (w_regs : q.keep .regs = false := by assumption) (w_pages : q.keep .pages = false := by assumption) (w_msgs : q.keep .msgs = false := by assumption) (w_host : q.keep .host = false := by assumption) (w_faultLog : q.keep .faultLog = false := by assumption) (w_ws : q.keep .ws = false := by assumption) (w_act : q.keep .act = false := by assumption) (w_hbm : q.keep .hbm = false := by assumption) (w_caches : q.keep .caches = false := by assumption) (w_mem : q.keep .mem = false := by assumption) (w_work : q.keep .work = false := by assumption) (w_freeCtr : q.keep .freeCtr = false := by assumption) : GoodO q (Sys2Proof.Machine.execFillPartDone e core src s) := by
  unfold Sys2Proof.Machine.execFillPartDone
  repeat' first
    | with_reducible assumption
    | with_reducible apply goodO_next
    | intro _
    | with_reducible apply State_raise_good
    | with_reducible apply event_good
    | with_reducible apply State_setJob_good
    | with_reducible apply State_setHolds_good
    | with_reducible apply State_wsetError_good
    | with_reducible apply State_fillDone_good
    | with_reducible apply State_fillPart_good
    | with_reducible apply good_foldl
    | with_reducible apply good_foldl_fst
    | split

theorem State_flipCur_good {q : Kept} {s : State} (e : Nat) (h : Good q s) (w_regs : q.keep .regs = false := by assumption) : Good q (Sys2Proof.Machine.State.flipCur s e) := by
  unfold Sys2Proof.Machine.State.flipCur
  repeat' first
    | with_reducible assumption
    | with_reducible apply goodO_next
    | intro _
    | with_reducible apply State_setCur_good

theorem State_doSwitch_good {q : Kept} {s : State} (e : Nat) (h : Good q s) (w_regs : q.keep .regs = false := by assumption) (w_pages : q.keep .pages = false := by assumption) (w_msgs : q.keep .msgs = false := by assumption) : Good q (Sys2Proof.Machine.State.doSwitch s e) := by
  unfold Sys2Proof.Machine.State.doSwitch
  repeat' first
    | with_reducible assumption
    | with_reducible apply goodO_next
    | intro _
    | with_reducible apply State_set_good
    | with_reducible apply State_add_good
    | with_reducible apply State_raise_good
    | with_reducible apply State_flipCur_good
    | with_reducible apply good_foldl
    | with_reducible apply good_foldl_fst
    | split

theorem execWsetSwitch_good {q : Kept} (fn : Nat) (e : Nat) {s : State} (h : Good q s) (w_regs : q.keep .regs = false := by assumption) (w_pages : q.keep .pages = false := by assumption) (w_msgs : q.keep .msgs = false := by assumption) (w_held : q.keep .held = false := by assumption) : GoodO q (Sys2Proof.Machine.execWsetSwitch fn e s) := by
  unfold Sys2Proof.Machine.execWsetSwitch
  repeat' first
    | with_reducible assumption
    | with_reducible apply goodO_next
    | intro _
    | with_reducible apply wsetCmd_good
    | with_reducible apply State_doSwitch_good

theorem State_requestSwitch_good {q : Kept} {s : State} (e : Nat) (h : Good q s) (w_regs : q.keep .regs = false := by assumption) (w_pages : q.keep .pages = false := by assumption) (w_msgs : q.keep .msgs = false := by assumption) (w_work : q.keep .work = false := by assumption) : Good q (Sys2Proof.Machine.State.requestSwitch s e) := by
  unfold Sys2Proof.Machine.State.requestSwitch
  repeat' first
    | with_reducible assumption
    | with_reducible apply goodO_next
    | intro _
    | with_reducible apply State_set_good
    | with_reducible apply State_raise_good
    | with_reducible apply State_setWset_good
    | with_reducible apply State_wsetError_good
    | with_reducible apply State_doSwitch_good
    | with_reducible apply good_foldl
    | with_reducible apply good_foldl_fst
    | split
    | with_reducible refine good_fst (by assumption) ?_
    | with_reducible refine good_snd (by assumption) ?_
    | with_reducible refine good_snd2 (by assumption) ?_
    | dsimp only

theorem State_armTick_good {q : Kept} {s : State} (tick : Nat) (e : Nat) (h : Good q s) (w_regs : q.keep .regs = false := by assumption) (w_pages : q.keep .pages = false := by assumption) (w_msgs : q.keep .msgs = false := by assumption) (w_work : q.keep .work = false := by assumption) : Good q (Sys2Proof.Machine.State.armTick s tick e) := by
  unfold Sys2Proof.Machine.State.armTick
  repeat' first
    | with_reducible assumption
    | with_reducible apply goodO_next
    | intro _
    | with_reducible apply State_setWset_good
    | with_reducible apply State_requestSwitch_good
    | with_reducible apply good_foldl
    | with_reducible apply good_foldl_fst
    | split

theorem State_armResume_good {q : Kept} {s : State} (e : Nat) (h : Good q s) (w_regs : q.keep .regs = false := by assumption) (w_pages : q.keep .pages = false := by assumption) (w_msgs : q.keep .msgs = false := by assumption) (w_work : q.keep .work = false := by assumption) : Good q (Sys2Proof.Machine.State.armResume s e) := by
  unfold Sys2Proof.Machine.State.armResume
  repeat' first
    | with_reducible assumption
    | with_reducible apply goodO_next
    | intro _
    | with_reducible apply State_requestSwitch_good
    | with_reducible apply good_foldl
    | with_reducible apply good_foldl_fst
    | split

theorem execWsetArm_good {q : Kept} (fn : Nat) (e : Nat) {s : State} (h : Good q s) (w_regs : q.keep .regs = false := by assumption) (w_pages : q.keep .pages = false := by assumption) (w_msgs : q.keep .msgs = false := by assumption) (w_work : q.keep .work = false := by assumption) (w_held : q.keep .held = false := by assumption) : GoodO q (Sys2Proof.Machine.execWsetArm fn e s) := by
  unfold Sys2Proof.Machine.execWsetArm
  repeat' first
    | with_reducible assumption
    | with_reducible apply goodO_next
    | intro _
    | with_reducible apply State_set_good
    | with_reducible apply State_setWset_good
    | with_reducible apply wsetCmd_good
    | with_reducible apply State_armTick_good

theorem execWsetDisarm_good {q : Kept} (fn : Nat) (e : Nat) {s : State} (h : Good q s) (w_regs : q.keep .regs = false := by assumption) (w_pages : q.keep .pages = false := by assumption) (w_msgs : q.keep .msgs = false := by assumption) (w_work : q.keep .work = false := by assumption) (w_held : q.keep .held = false := by assumption) : GoodO q (Sys2Proof.Machine.execWsetDisarm fn e s) := by
  unfold Sys2Proof.Machine.execWsetDisarm
  repeat' first
    | with_reducible assumption
    | with_reducible apply goodO_next
    | intro _
    | with_reducible apply State_set_good
    | with_reducible apply command_good
    | with_reducible apply State_setWset_good
    | with_reducible apply State_wsetError_good
    | with_reducible apply good_foldl
    | with_reducible apply good_foldl_fst
    | split

theorem execWsetDrained_good {q : Kept} (e : Nat) {s : State} (h : Good q s) (w_regs : q.keep .regs = false := by assumption) (w_pages : q.keep .pages = false := by assumption) (w_msgs : q.keep .msgs = false := by assumption) (w_work : q.keep .work = false := by assumption) : GoodO q (Sys2Proof.Machine.execWsetDrained e s) := by
  unfold Sys2Proof.Machine.execWsetDrained
  repeat' first
    | with_reducible assumption
    | with_reducible apply goodO_next
    | intro _
    | with_reducible apply State_set_good
    | with_reducible apply State_raise_good
    | with_reducible apply event_good
    | with_reducible apply State_startParts_good
    | with_reducible apply good_foldl
    | with_reducible apply good_foldl_fst
    | split
    | with_reducible refine good_fst (by assumption) ?_
    | with_reducible refine good_snd (by assumption) ?_
    | with_reducible refine good_snd2 (by assumption) ?_
    | dsimp only

theorem execReloadDone_good {q : Kept} (e : Nat) {s : State} (h : Good q s) (w_regs : q.keep .regs = false := by assumption) (w_pages : q.keep .pages = false := by assumption) (w_msgs : q.keep .msgs = false := by assumption) (w_work : q.keep .work = false := by assumption) : GoodO q (Sys2Proof.Machine.execReloadDone e s) := by
  unfold Sys2Proof.Machine.execReloadDone
  repeat' first
    | with_reducible assumption
    | with_reducible apply goodO_next
    | intro _
    | with_reducible apply State_flipCur_good
    | with_reducible apply State_setFailed_good
    | with_reducible apply State_setJob_good
    | with_reducible apply event_good
    | with_reducible apply State_raise_good
    | with_reducible apply State_add_good
    | with_reducible apply State_set_good
    | with_reducible apply good_foldl
    | with_reducible apply good_foldl_fst
    | split

theorem execManApply_good {q : Kept} (fn : Nat) (e : Nat) (copy : Nat) (core : Nat) (ctx : Nat) {s : State} (h : Good q s) (w_regs : q.keep .regs = false := by assumption) (w_pages : q.keep .pages = false := by assumption) (w_msgs : q.keep .msgs = false := by assumption) (w_work : q.keep .work = false := by assumption) (w_held : q.keep .held = false := by assumption) : GoodO q (Sys2Proof.Machine.execManApply fn e copy core ctx s) := by
  unfold Sys2Proof.Machine.execManApply
  repeat' first
    | with_reducible assumption
    | with_reducible apply goodO_next
    | intro _
    | with_reducible apply wsetCmd_good
    | with_reducible apply State_acceptJob_good

theorem State_manifest_good {q : Kept} (r1 : Nat) (w_regs : q.keep .regs = false := by assumption) (w_pages : q.keep .pages = false := by assumption) (w_msgs : q.keep .msgs = false := by assumption) (w_host : q.keep .host = false := by assumption) (w_faultLog : q.keep .faultLog = false := by assumption) (w_ws : q.keep .ws = false := by assumption) (w_act : q.keep .act = false := by assumption) (w_hbm : q.keep .hbm = false := by assumption) (w_caches : q.keep .caches = false := by assumption) (w_mem : q.keep .mem = false := by assumption) (w_freeCtr : q.keep .freeCtr = false := by assumption) : ∀ (s : State) (fn : Nat) (core : Nat) (base : Nat) (len : Nat) (img : Image) (r0 : List ReadOutcome) (r2 : Nat), Good q s → Good q (Sys2Proof.Machine.State.manifest s fn core base len img r0 r1 r2).1 := by
  induction r1 with
  | zero =>
    intro s fn core base len img r0 r2 h
    unfold Sys2Proof.Machine.State.manifest
    repeat' first
      | with_reducible assumption
  | succ n ih =>
    intro s fn core base len img r0 r2 h
    unfold Sys2Proof.Machine.State.manifest
    repeat' first
      | with_reducible assumption
      | with_reducible apply goodO_next
      | intro _
      | with_reducible apply ih
      | with_reducible apply State_storeWrite_good
      | with_reducible apply State_weightRead_good
      | with_reducible apply State_peatRead_good
      | with_reducible apply good_foldl
      | with_reducible apply good_foldl_fst
      | split
      | with_reducible refine good_fst (by assumption) ?_
      | with_reducible refine good_snd (by assumption) ?_
      | with_reducible refine good_snd2 (by assumption) ?_
      | dsimp only

theorem State_manEnds_good {q : Kept} {s : State} (e : Nat) (j : SetJob) (c : SetCfg) (srcs : List ReadOutcome) (h : Good q s) (w_regs : q.keep .regs = false := by assumption) (w_pages : q.keep .pages = false := by assumption) (w_msgs : q.keep .msgs = false := by assumption) (w_host : q.keep .host = false := by assumption) (w_faultLog : q.keep .faultLog = false := by assumption) (w_ws : q.keep .ws = false := by assumption) (w_act : q.keep .act = false := by assumption) (w_hbm : q.keep .hbm = false := by assumption) (w_caches : q.keep .caches = false := by assumption) (w_mem : q.keep .mem = false := by assumption) (w_work : q.keep .work = false := by assumption) (w_freeCtr : q.keep .freeCtr = false := by assumption) : Good q (Sys2Proof.Machine.State.manEnds s e j c srcs) := by
  unfold Sys2Proof.Machine.State.manEnds
  repeat' first
    | with_reducible assumption
    | with_reducible apply goodO_next
    | intro _
    | with_reducible apply State_set_good
    | with_reducible apply State_raise_good
    | with_reducible apply State_setJob_good
    | with_reducible apply State_setHolds_good
    | with_reducible apply State_bumpEpoch_good
    | with_reducible apply State_wsetError_good
    | with_reducible apply State_manifest_good
    | with_reducible apply good_foldl
    | with_reducible apply good_foldl_fst
    | split
    | with_reducible refine good_fst (by assumption) ?_
    | with_reducible refine good_snd (by assumption) ?_
    | with_reducible refine good_snd2 (by assumption) ?_
    | dsimp only

theorem execManDone_good {q : Kept} (e : Nat) (srcs : List ReadOutcome) {s : State} (h : Good q s) (w_regs : q.keep .regs = false := by assumption) (w_pages : q.keep .pages = false := by assumption) (w_msgs : q.keep .msgs = false := by assumption) (w_host : q.keep .host = false := by assumption) (w_faultLog : q.keep .faultLog = false := by assumption) (w_ws : q.keep .ws = false := by assumption) (w_act : q.keep .act = false := by assumption) (w_hbm : q.keep .hbm = false := by assumption) (w_caches : q.keep .caches = false := by assumption) (w_mem : q.keep .mem = false := by assumption) (w_work : q.keep .work = false := by assumption) (w_freeCtr : q.keep .freeCtr = false := by assumption) : GoodO q (Sys2Proof.Machine.execManDone e srcs s) := by
  unfold Sys2Proof.Machine.execManDone
  repeat' first
    | with_reducible assumption
    | with_reducible apply goodO_next
    | intro _
    | with_reducible apply event_good
    | with_reducible apply State_manEnds_good
    | with_reducible apply good_foldl
    | with_reducible apply good_foldl_fst
    | split

end Sys2Proof.Laws
end

