-- ==== Sys2Proof/Laws/KeepLink.lean ====
section
/-!
SUPPORT. What the operations of Machine/Link.lean keep.
-/

set_option Elab.async false

namespace Sys2Proof.Laws

open Sys2Proof.Machine

theorem State_setPort_good {q : Kept} {s : State} (p : Nat) (v : Port) (h : Good q s) (w_link : q.keep .link = false := by assumption) : Good q (Sys2Proof.Machine.State.setPort s p v) := by
  unfold Sys2Proof.Machine.State.setPort
  repeat' first
    | with_reducible assumption
    | with_reducible apply goodO_next
    | intro _
    | with_reducible apply good_foldl
    | with_reducible apply good_foldl_fst
    | split
    | with_reducible refine good_fst (by assumption) ?_
    | with_reducible refine good_snd (by assumption) ?_
    | with_reducible refine good_snd2 (by assumption) ?_
    | dsimp only
    | with_reducible refine good_mk (t := _) ?_ rfl rfl rfl rfl rfl rfl rfl rfl

theorem State_enqueueMsg_good {q : Kept} {s : State} (p : Nat) (m : LinkMsg) (h : Good q s) (w_link : q.keep .link = false := by assumption) : Good q (Sys2Proof.Machine.State.enqueueMsg s p m) := by
  unfold Sys2Proof.Machine.State.enqueueMsg
  repeat' first
    | with_reducible assumption
    | with_reducible apply goodO_next
    | intro _
    | with_reducible apply State_setPort_good

theorem State_groupRefresh_good {q : Kept} {s : State} (h : Good q s) (w_regs : q.keep .regs = false := by assumption) (w_pages : q.keep .pages = false := by assumption) (w_msgs : q.keep .msgs = false := by assumption) (w_link : q.keep .link = false := by assumption) : Good q (Sys2Proof.Machine.State.groupRefresh s) := by
  unfold Sys2Proof.Machine.State.groupRefresh
  repeat' first
    | with_reducible assumption
    | with_reducible apply goodO_next
    | intro _
    | with_reducible apply State_flag_good
    | with_reducible apply State_raiseEdge_good
    | with_reducible apply good_foldl
    | with_reducible apply good_foldl_fst
    | split
    | with_reducible refine good_fst (by assumption) ?_
    | with_reducible refine good_snd (by assumption) ?_
    | with_reducible refine good_snd2 (by assumption) ?_
    | dsimp only
    | with_reducible refine good_mk (t := _) ?_ rfl rfl rfl rfl rfl rfl rfl rfl

theorem State_skewRefresh_good {q : Kept} {s : State} (h : Good q s) (w_regs : q.keep .regs = false := by assumption) (w_pages : q.keep .pages = false := by assumption) (w_msgs : q.keep .msgs = false := by assumption) : Good q (Sys2Proof.Machine.State.skewRefresh s) := by
  unfold Sys2Proof.Machine.State.skewRefresh
  repeat' first
    | with_reducible assumption
    | with_reducible apply goodO_next
    | intro _
    | with_reducible apply State_flag_good
    | with_reducible apply State_raiseAll_good
    | with_reducible apply good_foldl
    | with_reducible apply good_foldl_fst
    | split
    | with_reducible refine good_fst (by assumption) ?_
    | with_reducible refine good_snd (by assumption) ?_
    | with_reducible refine good_snd2 (by assumption) ?_
    | dsimp only

theorem State_setPortState_good {q : Kept} {s : State} (p : Nat) (st : Nat) (h : Good q s) (w_regs : q.keep .regs = false := by assumption) (w_pages : q.keep .pages = false := by assumption) (w_msgs : q.keep .msgs = false := by assumption) (w_link : q.keep .link = false := by assumption) : Good q (Sys2Proof.Machine.State.setPortState s p st) := by
  unfold Sys2Proof.Machine.State.setPortState
  repeat' first
    | with_reducible assumption
    | with_reducible apply goodO_next
    | intro _
    | with_reducible apply State_set_good
    | with_reducible apply State_raiseEdge_good
    | with_reducible apply State_groupRefresh_good
    | with_reducible apply State_skewRefresh_good

theorem State_logLate_good {q : Kept} {s : State} (e : LateErr) (h : Good q s) (w_regs : q.keep .regs = false := by assumption) (w_pages : q.keep .pages = false := by assumption) (w_msgs : q.keep .msgs = false := by assumption) (w_link : q.keep .link = false := by assumption) : Good q (Sys2Proof.Machine.State.logLate s e) := by
  unfold Sys2Proof.Machine.State.logLate
  split
  · refine State_raise_good _ _ (good_leq h _ (fun _ => ?_) w_link)
    simp only [List.length_append, List.length_singleton]
    omega
  · exact State_raise_good _ _ (State_add_good _ _ (State_raise_good _ _ h))

theorem State_logNotice_good {q : Kept} {s : State} (n : LinkNotice) (h : Good q s) (w_regs : q.keep .regs = false := by assumption) (w_pages : q.keep .pages = false := by assumption) (w_msgs : q.keep .msgs = false := by assumption) (w_link : q.keep .link = false := by assumption) : Good q (Sys2Proof.Machine.State.logNotice s n) := by
  unfold Sys2Proof.Machine.State.logNotice
  repeat' first
    | with_reducible assumption
    | with_reducible apply goodO_next
    | intro _
    | with_reducible apply State_logLate_good

theorem State_sendNotice_good {q : Kept} {s : State} (n : LinkNotice) (h : Good q s) (w_regs : q.keep .regs = false := by assumption) (w_pages : q.keep .pages = false := by assumption) (w_msgs : q.keep .msgs = false := by assumption) (w_link : q.keep .link = false := by assumption) : Good q (Sys2Proof.Machine.State.sendNotice s n) := by
  unfold Sys2Proof.Machine.State.sendNotice
  repeat' first
    | with_reducible assumption
    | with_reducible apply goodO_next
    | intro _
    | with_reducible apply State_enqueueMsg_good
    | with_reducible apply State_logNotice_good
    | with_reducible apply good_foldl
    | with_reducible apply good_foldl_fst
    | split

theorem State_writeNotice_good {q : Kept} {s : State} (w : LinkWrite) (st : Status) (h : Good q s) (w_regs : q.keep .regs = false := by assumption) (w_pages : q.keep .pages = false := by assumption) (w_msgs : q.keep .msgs = false := by assumption) (w_link : q.keep .link = false := by assumption) : Good q (Sys2Proof.Machine.State.writeNotice s w st) := by
  unfold Sys2Proof.Machine.State.writeNotice
  repeat' first
    | with_reducible assumption
    | with_reducible apply goodO_next
    | intro _
    | with_reducible apply State_sendNotice_good

theorem State_signalNotice_good {q : Kept} {s : State} (g : LinkSignal) (st : Status) (h : Good q s) (w_regs : q.keep .regs = false := by assumption) (w_pages : q.keep .pages = false := by assumption) (w_msgs : q.keep .msgs = false := by assumption) (w_link : q.keep .link = false := by assumption) (w_freeCtr : q.keep .freeCtr = false := by assumption) : Good q (Sys2Proof.Machine.State.signalNotice s g st) := by
  unfold Sys2Proof.Machine.State.signalNotice
  repeat' first
    | with_reducible assumption
    | with_reducible apply goodO_next
    | intro _
    | with_reducible apply State_drawFree_good
    | with_reducible apply State_sendNotice_good

theorem State_itemNotice_good {q : Kept} {s : State} (a : Arrival) (st : Status) (h : Good q s) (w_regs : q.keep .regs = false := by assumption) (w_pages : q.keep .pages = false := by assumption) (w_msgs : q.keep .msgs = false := by assumption) (w_link : q.keep .link = false := by assumption) (w_freeCtr : q.keep .freeCtr = false := by assumption) : Good q (Sys2Proof.Machine.State.itemNotice s a st) := by
  unfold Sys2Proof.Machine.State.itemNotice
  repeat' first
    | with_reducible assumption
    | with_reducible apply goodO_next
    | intro _
    | with_reducible apply State_drawFree_good
    | with_reducible apply State_sendNotice_good

theorem State_takeNotice_good {q : Kept} {s : State} (n : LinkNotice) (h : Good q s) (w_regs : q.keep .regs = false := by assumption) (w_pages : q.keep .pages = false := by assumption) (w_msgs : q.keep .msgs = false := by assumption) (w_work : q.keep .work = false := by assumption) (w_link : q.keep .link = false := by assumption) (w_freeCtr : q.keep .freeCtr = false := by assumption) : Good q (Sys2Proof.Machine.State.takeNotice s n) := by
  unfold Sys2Proof.Machine.State.takeNotice
  repeat' first
    | with_reducible assumption
    | with_reducible apply goodO_next
    | intro _
    | with_reducible apply State_staleFlow_good
    | with_reducible apply State_noticeFlow_good
    | with_reducible apply State_logNotice_good
    | with_reducible apply good_foldl
    | with_reducible apply good_foldl_fst
    | split

theorem State_loseWrite_good {q : Kept} {s : State} (flow : Nat) (m : Nat) (h : Good q s) (w_link : q.keep .link = false := by assumption) : Good q (Sys2Proof.Machine.State.loseWrite s flow m) := by
  unfold Sys2Proof.Machine.State.loseWrite
  repeat' first
    | with_reducible assumption
    | with_reducible apply goodO_next
    | intro _
    | with_reducible apply good_foldl
    | with_reducible apply good_foldl_fst
    | split
    | with_reducible refine good_fst (by assumption) ?_
    | with_reducible refine good_snd (by assumption) ?_
    | with_reducible refine good_snd2 (by assumption) ?_
    | dsimp only
    | with_reducible refine good_mk (t := _) ?_ rfl rfl rfl rfl rfl rfl rfl rfl

theorem State_lostRef_good {q : Kept} {s : State} (h : Good q s) (w_regs : q.keep .regs = false := by assumption) (w_pages : q.keep .pages = false := by assumption) (w_msgs : q.keep .msgs = false := by assumption) (w_link : q.keep .link = false := by assumption) (w_freeCtr : q.keep .freeCtr = false := by assumption) : ∀ (r0 : FlitRef), Good q (Sys2Proof.Machine.State.lostRef s r0) := by
  intro r0
  unfold Sys2Proof.Machine.State.lostRef
  repeat' first
    | with_reducible assumption
    | with_reducible apply goodO_next
    | intro _
    | with_reducible apply State_loseWrite_good
    | with_reducible apply State_drawFree_good
    | with_reducible apply State_logLate_good
    | with_reducible apply good_foldl
    | with_reducible apply good_foldl_fst
    | split

theorem State_staleRef_good {q : Kept} {s : State} (h : Good q s) (w_regs : q.keep .regs = false := by assumption) (w_pages : q.keep .pages = false := by assumption) (w_msgs : q.keep .msgs = false := by assumption) (w_work : q.keep .work = false := by assumption) (w_link : q.keep .link = false := by assumption) (w_freeCtr : q.keep .freeCtr = false := by assumption) : ∀ (r0 : FlitRef), Good q (Sys2Proof.Machine.State.staleRef s r0) := by
  intro r0
  unfold Sys2Proof.Machine.State.staleRef
  repeat' first
    | with_reducible assumption
    | with_reducible apply goodO_next
    | intro _
    | with_reducible apply State_staleFlow_good
    | with_reducible apply State_writeNotice_good
    | with_reducible apply State_signalNotice_good
    | with_reducible apply good_foldl
    | with_reducible apply good_foldl_fst
    | split

theorem State_discardReplay_good {q : Kept} {s : State} (p : Nat) (h : Good q s) (w_regs : q.keep .regs = false := by assumption) (w_pages : q.keep .pages = false := by assumption) (w_msgs : q.keep .msgs = false := by assumption) (w_link : q.keep .link = false := by assumption) (w_freeCtr : q.keep .freeCtr = false := by assumption) : Good q (Sys2Proof.Machine.State.discardReplay s p) := by
  unfold Sys2Proof.Machine.State.discardReplay
  repeat' first
    | with_reducible assumption
    | with_reducible apply goodO_next
    | intro _
    | with_reducible apply State_setPort_good
    | with_reducible apply State_lostRef_good
    | with_reducible apply good_foldl

theorem State_holdChain_good {q : Kept} {s : State} (c : Nat) (h : Good q s) (w_regs : q.keep .regs = false := by assumption) (w_pages : q.keep .pages = false := by assumption) (w_msgs : q.keep .msgs = false := by assumption) (w_work : q.keep .work = false := by assumption) (w_freeCtr : q.keep .freeCtr = false := by assumption) : Good q (Sys2Proof.Machine.State.holdChain s c) := by
  unfold Sys2Proof.Machine.State.holdChain
  repeat' first
    | with_reducible assumption
    | with_reducible apply goodO_next
    | intro _
    | with_reducible apply State_flag_good
    | with_reducible apply State_raiseEdge_good
    | with_reducible apply State_setCell_good
    | with_reducible apply State_staleFlow_good
    | with_reducible apply good_foldl

theorem State_holdChains_good {q : Kept} {s : State} (p : Nat) (h : Good q s) (w_regs : q.keep .regs = false := by assumption) (w_pages : q.keep .pages = false := by assumption) (w_msgs : q.keep .msgs = false := by assumption) (w_work : q.keep .work = false := by assumption) (w_freeCtr : q.keep .freeCtr = false := by assumption) : Good q (Sys2Proof.Machine.State.holdChains s p) := by
  unfold Sys2Proof.Machine.State.holdChains
  repeat' first
    | with_reducible assumption
    | with_reducible apply goodO_next
    | intro _
    | with_reducible apply State_holdChain_good
    | with_reducible apply good_foldl
    | with_reducible apply good_foldl_fst
    | split

theorem State_dropArrival_good {q : Kept} {s : State} (p : Nat) (h : Good q s) (w_regs : q.keep .regs = false := by assumption) (w_pages : q.keep .pages = false := by assumption) (w_msgs : q.keep .msgs = false := by assumption) (w_work : q.keep .work = false := by assumption) (w_link : q.keep .link = false := by assumption) : Good q (Sys2Proof.Machine.State.dropArrival s p) := by
  unfold Sys2Proof.Machine.State.dropArrival
  repeat' first
    | with_reducible assumption
    | with_reducible apply goodO_next
    | intro _
    | with_reducible apply State_setPort_good
    | with_reducible apply State_freeCell_good
    | with_reducible apply State_leaveCell_good
    | with_reducible apply State_watched_good
    | with_reducible apply good_foldl
    | with_reducible apply good_foldl_fst
    | split
    | with_reducible refine good_fst (by assumption) ?_
    | with_reducible refine good_snd (by assumption) ?_
    | with_reducible refine good_snd2 (by assumption) ?_
    | dsimp only

theorem State_cutArrival_good {q : Kept} {s : State} (p : Nat) (h : Good q s) (w_regs : q.keep .regs = false := by assumption) (w_pages : q.keep .pages = false := by assumption) (w_msgs : q.keep .msgs = false := by assumption) (w_work : q.keep .work = false := by assumption) (w_link : q.keep .link = false := by assumption) : Good q (Sys2Proof.Machine.State.cutArrival s p) := by
  unfold Sys2Proof.Machine.State.cutArrival
  repeat' first
    | with_reducible assumption
    | with_reducible apply goodO_next
    | intro _
    | with_reducible apply State_dropArrival_good
    | with_reducible apply State_setPort_good
    | with_reducible apply good_foldl
    | with_reducible apply good_foldl_fst
    | split
    | with_reducible refine good_fst (by assumption) ?_
    | with_reducible refine good_snd (by assumption) ?_
    | with_reducible refine good_snd2 (by assumption) ?_
    | dsimp only

theorem State_leaveData_good {q : Kept} {s : State} (p : Nat) (st : Nat) (h : Good q s) (w_regs : q.keep .regs = false := by assumption) (w_pages : q.keep .pages = false := by assumption) (w_msgs : q.keep .msgs = false := by assumption) (w_work : q.keep .work = false := by assumption) (w_link : q.keep .link = false := by assumption) (w_freeCtr : q.keep .freeCtr = false := by assumption) : Good q (Sys2Proof.Machine.State.leaveData s p st) := by
  unfold Sys2Proof.Machine.State.leaveData
  repeat' first
    | with_reducible assumption
    | with_reducible apply goodO_next
    | intro _
    | with_reducible apply State_cutArrival_good
    | with_reducible apply State_holdChains_good
    | with_reducible apply State_staleRef_good
    | with_reducible apply State_setPortState_good
    | with_reducible apply State_setPort_good
    | with_reducible apply State_flag_good
    | with_reducible apply State_set_good
    | with_reducible apply good_foldl

theorem State_linkDown_good {q : Kept} {s : State} (p : Nat) (cause : Nat) (h : Good q s) (w_regs : q.keep .regs = false := by assumption) (w_pages : q.keep .pages = false := by assumption) (w_msgs : q.keep .msgs = false := by assumption) (w_work : q.keep .work = false := by assumption) (w_link : q.keep .link = false := by assumption) (w_freeCtr : q.keep .freeCtr = false := by assumption) : Good q (Sys2Proof.Machine.State.linkDown s p cause) := by
  unfold Sys2Proof.Machine.State.linkDown
  repeat' first
    | with_reducible assumption
    | with_reducible apply goodO_next
    | intro _
    | with_reducible apply State_set_good
    | with_reducible apply State_add_good
    | with_reducible apply State_capture_good
    | with_reducible apply State_setPortState_good
    | with_reducible apply State_leaveData_good
    | with_reducible apply good_foldl
    | with_reducible apply good_foldl_fst
    | split

theorem State_leaveCheck_good {q : Kept} {s : State} (p : Nat) (h : Good q s) (w_regs : q.keep .regs = false := by assumption) (w_pages : q.keep .pages = false := by assumption) (w_msgs : q.keep .msgs = false := by assumption) (w_work : q.keep .work = false := by assumption) (w_link : q.keep .link = false := by assumption) (w_freeCtr : q.keep .freeCtr = false := by assumption) : Good q (Sys2Proof.Machine.State.leaveCheck s p) := by
  unfold Sys2Proof.Machine.State.leaveCheck
  repeat' first
    | with_reducible assumption
    | with_reducible apply goodO_next
    | intro _
    | with_reducible apply State_set_good
    | with_reducible apply State_leaveData_good
    | with_reducible apply good_foldl
    | with_reducible apply good_foldl_fst
    | split
    | with_reducible refine good_fst (by assumption) ?_
    | with_reducible refine good_snd (by assumption) ?_
    | with_reducible refine good_snd2 (by assumption) ?_
    | dsimp only

theorem State_ackItem_good {q : Kept} {s : State} (k : Nat) (h : Good q s) (w_regs : q.keep .regs = false := by assumption) (w_pages : q.keep .pages = false := by assumption) (w_msgs : q.keep .msgs = false := by assumption) (w_work : q.keep .work = false := by assumption) : Good q (Sys2Proof.Machine.State.ackItem s k) := by
  unfold Sys2Proof.Machine.State.ackItem
  repeat' first
    | with_reducible assumption
    | with_reducible apply goodO_next
    | intro _
    | with_reducible apply State_finishOf_good
    | with_reducible apply State_setCell_good
    | with_reducible apply State_finishCell_good
    | with_reducible apply good_foldl
    | with_reducible apply good_foldl_fst
    | split

theorem State_ackBelow_good {q : Kept} {s : State} (p : Nat) (n : Nat) (h : Good q s) (w_regs : q.keep .regs = false := by assumption) (w_pages : q.keep .pages = false := by assumption) (w_msgs : q.keep .msgs = false := by assumption) (w_work : q.keep .work = false := by assumption) (w_link : q.keep .link = false := by assumption) : Good q (Sys2Proof.Machine.State.ackBelow s p n) := by
  unfold Sys2Proof.Machine.State.ackBelow
  repeat' first
    | with_reducible assumption
    | with_reducible apply goodO_next
    | intro _
    | with_reducible apply State_setPort_good
    | with_reducible apply State_ackItem_good
    | with_reducible apply good_foldl
    | with_reducible apply good_foldl_fst
    | split
    | with_reducible refine good_fst (by assumption) ?_
    | with_reducible refine good_snd (by assumption) ?_
    | with_reducible refine good_snd2 (by assumption) ?_
    | dsimp only

theorem State_ackIn_good {q : Kept} {s : State} (p : Nat) (hd : FlitHdr) (h : Good q s) (w_regs : q.keep .regs = false := by assumption) (w_pages : q.keep .pages = false := by assumption) (w_msgs : q.keep .msgs = false := by assumption) (w_work : q.keep .work = false := by assumption) (w_link : q.keep .link = false := by assumption) (w_freeCtr : q.keep .freeCtr = false := by assumption) : Good q (Sys2Proof.Machine.State.ackIn s p hd) := by
  unfold Sys2Proof.Machine.State.ackIn
  repeat' first
    | with_reducible assumption
    | with_reducible apply goodO_next
    | intro _
    | with_reducible apply State_setPort_good
    | with_reducible apply State_leaveCheck_good
    | with_reducible apply State_ackBelow_good
    | with_reducible apply good_foldl
    | with_reducible apply good_foldl_fst
    | split

theorem State_owe_good {q : Kept} {s : State} (p : Nat) (vc : Nat) (n : Nat) (h : Good q s) (w_link : q.keep .link = false := by assumption) : Good q (Sys2Proof.Machine.State.owe s p vc n) := by
  unfold Sys2Proof.Machine.State.owe
  repeat' first
    | with_reducible assumption
    | with_reducible apply goodO_next
    | intro _
    | with_reducible apply State_setPort_good

theorem State_emit_good {q : Kept} {s : State} (p : Nat) (seq : Option Nat) (body : FlitBody) (h : Good q s) (w_regs : q.keep .regs = false := by assumption) (w_link : q.keep .link = false := by assumption) : Good q (Sys2Proof.Machine.State.emit s p seq body).2 := by
  unfold Sys2Proof.Machine.State.emit
  repeat' first
    | with_reducible assumption
    | with_reducible apply goodO_next
    | intro _
    | with_reducible apply State_add_good
    | with_reducible apply State_setPort_good
    | with_reducible apply good_foldl
    | with_reducible apply good_foldl_fst
    | split
    | with_reducible refine good_fst (by assumption) ?_
    | with_reducible refine good_snd (by assumption) ?_
    | with_reducible refine good_snd2 (by assumption) ?_
    | dsimp only
    | with_reducible refine good_mk (t := _) ?_ rfl rfl rfl rfl rfl rfl rfl rfl

theorem State_emitSeq_good {q : Kept} {s : State} (p : Nat) (vc : Nat) (body : FlitBody) (ref : FlitRef) (h : Good q s) (w_regs : q.keep .regs = false := by assumption) (w_link : q.keep .link = false := by assumption) : Good q (Sys2Proof.Machine.State.emitSeq s p vc body ref) := by
  unfold Sys2Proof.Machine.State.emitSeq
  repeat' first
    | with_reducible assumption
    | with_reducible apply goodO_next
    | intro _
    | with_reducible apply State_setPort_good
    | with_reducible apply State_emit_good

theorem State_sendItem_good {q : Kept} {s : State} (p : Nat) (h : Good q s) (w_regs : q.keep .regs = false := by assumption) (w_pages : q.keep .pages = false := by assumption) (w_msgs : q.keep .msgs = false := by assumption) (w_faultLog : q.keep .faultLog = false := by assumption) (w_hbm : q.keep .hbm = false := by assumption) (w_caches : q.keep .caches = false := by assumption) (w_mem : q.keep .mem = false := by assumption) (w_link : q.keep .link = false := by assumption) (w_freeCtr : q.keep .freeCtr = false := by assumption) : Good q (Sys2Proof.Machine.State.sendItem s p) := by
  unfold Sys2Proof.Machine.State.sendItem
  repeat' first
    | with_reducible assumption
    | with_reducible apply goodO_next
    | intro _
    | with_reducible apply State_emitSeq_good
    | with_reducible apply State_setPort_good
    | with_reducible apply State_hbmRead_good
    | with_reducible apply good_foldl
    | with_reducible apply good_foldl_fst
    | split
    | with_reducible refine good_fst (by assumption) ?_
    | with_reducible refine good_snd (by assumption) ?_
    | with_reducible refine good_snd2 (by assumption) ?_
    | dsimp only

theorem State_sendMessage_good {q : Kept} {s : State} (p : Nat) (h : Good q s) (w_regs : q.keep .regs = false := by assumption) (w_pages : q.keep .pages = false := by assumption) (w_msgs : q.keep .msgs = false := by assumption) (w_link : q.keep .link = false := by assumption) : Good q (Sys2Proof.Machine.State.sendMessage s p) := by
  unfold Sys2Proof.Machine.State.sendMessage
  repeat' first
    | with_reducible assumption
    | with_reducible apply goodO_next
    | intro _
    | with_reducible apply State_set_good
    | with_reducible apply State_flag_good
    | with_reducible apply State_raise_good
    | with_reducible apply State_setPort_good
    | with_reducible apply State_emitSeq_good
    | with_reducible apply good_foldl
    | with_reducible apply good_foldl_fst
    | split
    | with_reducible refine good_fst (by assumption) ?_
    | with_reducible refine good_snd (by assumption) ?_
    | with_reducible refine good_snd2 (by assumption) ?_
    | dsimp only

theorem State_resendNext_good {q : Kept} {s : State} (p : Nat) (n : Nat) (h : Good q s) (w_regs : q.keep .regs = false := by assumption) (w_link : q.keep .link = false := by assumption) : Good q (Sys2Proof.Machine.State.resendNext s p n) := by
  unfold Sys2Proof.Machine.State.resendNext
  repeat' first
    | with_reducible assumption
    | with_reducible apply goodO_next
    | intro _
    | with_reducible apply State_add_good
    | with_reducible apply State_setPort_good
    | with_reducible apply good_foldl
    | with_reducible apply good_foldl_fst
    | split
    | with_reducible refine good_fst (by assumption) ?_
    | with_reducible refine good_snd (by assumption) ?_
    | with_reducible refine good_snd2 (by assumption) ?_
    | dsimp only
    | with_reducible refine good_mk (t := _) ?_ rfl rfl rfl rfl rfl rfl rfl rfl

theorem State_startResend_good {q : Kept} {s : State} (p : Nat) (n : Nat) (h : Good q s) (w_regs : q.keep .regs = false := by assumption) (w_pages : q.keep .pages = false := by assumption) (w_msgs : q.keep .msgs = false := by assumption) (w_work : q.keep .work = false := by assumption) (w_link : q.keep .link = false := by assumption) (w_freeCtr : q.keep .freeCtr = false := by assumption) : Good q (Sys2Proof.Machine.State.startResend s p n) := by
  unfold Sys2Proof.Machine.State.startResend
  repeat' first
    | with_reducible assumption
    | with_reducible apply goodO_next
    | intro _
    | with_reducible apply State_setPort_good
    | with_reducible apply State_linkDown_good
    | with_reducible apply good_foldl
    | with_reducible apply good_foldl_fst
    | split
    | with_reducible refine good_fst (by assumption) ?_
    | with_reducible refine good_snd (by assumption) ?_
    | with_reducible refine good_snd2 (by assumption) ?_
    | dsimp only

theorem State_arrived_good {q : Kept} {s : State} (p : Nat) (h : Good q s) (w_regs : q.keep .regs = false := by assumption) (w_pages : q.keep .pages = false := by assumption) (w_msgs : q.keep .msgs = false := by assumption) (w_faultLog : q.keep .faultLog = false := by assumption) (w_hbm : q.keep .hbm = false := by assumption) (w_caches : q.keep .caches = false := by assumption) (w_mem : q.keep .mem = false := by assumption) (w_work : q.keep .work = false := by assumption) (w_link : q.keep .link = false := by assumption) (w_freeCtr : q.keep .freeCtr = false := by assumption) : Good q (Sys2Proof.Machine.State.arrived s p) := by
  unfold Sys2Proof.Machine.State.arrived
  repeat' first
    | with_reducible assumption
    | with_reducible apply goodO_next
    | intro _
    | with_reducible apply State_hbmWrite_good
    | with_reducible apply State_watched_good
    | with_reducible apply State_commitCell_good
    | with_reducible apply State_freeCell_good
    | with_reducible apply State_setPort_good
    | with_reducible apply State_itemNotice_good
    | with_reducible apply good_foldl
    | with_reducible apply good_foldl_fst
    | split
    | with_reducible refine good_fst (by assumption) ?_
    | with_reducible refine good_snd (by assumption) ?_
    | with_reducible refine good_snd2 (by assumption) ?_
    | dsimp only

theorem State_openArrival_good {q : Kept} {s : State} (p : Nat) (a : Arrival) (h : Good q s) (w_regs : q.keep .regs = false := by assumption) (w_pages : q.keep .pages = false := by assumption) (w_msgs : q.keep .msgs = false := by assumption) (w_faultLog : q.keep .faultLog = false := by assumption) (w_hbm : q.keep .hbm = false := by assumption) (w_caches : q.keep .caches = false := by assumption) (w_mem : q.keep .mem = false := by assumption) (w_work : q.keep .work = false := by assumption) (w_link : q.keep .link = false := by assumption) (w_freeCtr : q.keep .freeCtr = false := by assumption) : Good q (Sys2Proof.Machine.State.openArrival s p a) := by
  unfold Sys2Proof.Machine.State.openArrival
  repeat' first
    | with_reducible assumption
    | with_reducible apply goodO_next
    | intro _
    | with_reducible apply State_setCell_good
    | with_reducible apply State_watched_good
    | with_reducible apply State_pickCell_good
    | with_reducible apply State_setPort_good
    | with_reducible apply State_owe_good
    | with_reducible apply State_arrived_good
    | with_reducible apply good_foldl
    | with_reducible apply good_foldl_fst
    | split

theorem State_itemHead_good {q : Kept} {s : State} (p : Nat) (header : List Byte) (payload : List Byte) (h : Good q s) (w_regs : q.keep .regs = false := by assumption) (w_pages : q.keep .pages = false := by assumption) (w_msgs : q.keep .msgs = false := by assumption) (w_faultLog : q.keep .faultLog = false := by assumption) (w_hbm : q.keep .hbm = false := by assumption) (w_caches : q.keep .caches = false := by assumption) (w_mem : q.keep .mem = false := by assumption) (w_work : q.keep .work = false := by assumption) (w_link : q.keep .link = false := by assumption) (w_freeCtr : q.keep .freeCtr = false := by assumption) : Good q (Sys2Proof.Machine.State.itemHead s p header payload) := by
  unfold Sys2Proof.Machine.State.itemHead
  repeat' first
    | with_reducible assumption
    | with_reducible apply goodO_next
    | intro _
    | with_reducible apply State_openArrival_good
    | with_reducible apply State_owe_good
    | with_reducible apply State_dropArrival_good
    | with_reducible apply State_itemNotice_good
    | with_reducible apply State_setPort_good
    | with_reducible apply State_awaitCell_good
    | with_reducible apply good_foldl
    | with_reducible apply good_foldl_fst
    | split
    | with_reducible refine good_fst (by assumption) ?_
    | with_reducible refine good_snd (by assumption) ?_
    | with_reducible refine good_snd2 (by assumption) ?_
    | dsimp only

theorem State_itemData_good {q : Kept} {s : State} (p : Nat) (payload : List Byte) (h : Good q s) (w_regs : q.keep .regs = false := by assumption) (w_pages : q.keep .pages = false := by assumption) (w_msgs : q.keep .msgs = false := by assumption) (w_faultLog : q.keep .faultLog = false := by assumption) (w_hbm : q.keep .hbm = false := by assumption) (w_caches : q.keep .caches = false := by assumption) (w_mem : q.keep .mem = false := by assumption) (w_work : q.keep .work = false := by assumption) (w_link : q.keep .link = false := by assumption) (w_freeCtr : q.keep .freeCtr = false := by assumption) : Good q (Sys2Proof.Machine.State.itemData s p payload) := by
  unfold Sys2Proof.Machine.State.itemData
  repeat' first
    | with_reducible assumption
    | with_reducible apply goodO_next
    | intro _
    | with_reducible apply State_setPort_good
    | with_reducible apply State_owe_good
    | with_reducible apply State_arrived_good
    | with_reducible apply good_foldl
    | with_reducible apply good_foldl_fst
    | split

theorem State_forward_good {q : Kept} {s : State} (dest : Nat) (m : LinkMsg) (h : Good q s) (w_link : q.keep .link = false := by assumption) : ∀ z, Sys2Proof.Machine.State.forward s dest m = .ok z → Good q z := by
  intro z hz
  unfold Sys2Proof.Machine.State.forward at hz
  split at hz
  · cases hz
  · split at hz
    · cases hz
      exact State_enqueueMsg_good _ _ h
    · cases hz

theorem State_linkWritten_good {q : Kept} {s : State} (w : LinkWrite) (data : List Byte) (h : Good q s) (w_regs : q.keep .regs = false := by assumption) (w_pages : q.keep .pages = false := by assumption) (w_msgs : q.keep .msgs = false := by assumption) (w_faultLog : q.keep .faultLog = false := by assumption) (w_hbm : q.keep .hbm = false := by assumption) (w_caches : q.keep .caches = false := by assumption) (w_mem : q.keep .mem = false := by assumption) (w_link : q.keep .link = false := by assumption) (w_freeCtr : q.keep .freeCtr = false := by assumption) : Good q (Sys2Proof.Machine.State.linkWritten s w data) := by
  unfold Sys2Proof.Machine.State.linkWritten
  repeat' first
    | with_reducible assumption
    | with_reducible apply goodO_next
    | intro _
    | with_reducible apply State_hbmWrite_good
    | with_reducible apply State_writeNotice_good
    | with_reducible apply good_foldl
    | with_reducible apply good_foldl_fst
    | split
    | with_reducible refine good_fst (by assumption) ?_
    | with_reducible refine good_snd (by assumption) ?_
    | with_reducible refine good_snd2 (by assumption) ?_
    | (with_reducible refine State_forward_good _ _ ?_ ?_ _ (by assumption))

theorem State_writeBytesIn_good {q : Kept} {s : State} (p : Nat) (w : LinkWrite) (b : List Byte) (flits : Nat) (h : Good q s) (w_regs : q.keep .regs = false := by assumption) (w_pages : q.keep .pages = false := by assumption) (w_msgs : q.keep .msgs = false := by assumption) (w_faultLog : q.keep .faultLog = false := by assumption) (w_hbm : q.keep .hbm = false := by assumption) (w_caches : q.keep .caches = false := by assumption) (w_mem : q.keep .mem = false := by assumption) (w_link : q.keep .link = false := by assumption) (w_freeCtr : q.keep .freeCtr = false := by assumption) : Good q (Sys2Proof.Machine.State.writeBytesIn s p w b flits) := by
  unfold Sys2Proof.Machine.State.writeBytesIn
  repeat' first
    | with_reducible assumption
    | with_reducible apply goodO_next
    | intro _
    | with_reducible apply State_linkWritten_good
    | with_reducible apply State_owe_good
    | with_reducible apply State_setPort_good
    | with_reducible apply good_foldl
    | with_reducible apply good_foldl_fst
    | split

theorem State_signalIn_good {q : Kept} {s : State} (g : LinkSignal) (h : Good q s) (w_regs : q.keep .regs = false := by assumption) (w_pages : q.keep .pages = false := by assumption) (w_msgs : q.keep .msgs = false := by assumption) (w_sync : q.keep .sync = false := by assumption) (w_link : q.keep .link = false := by assumption) (w_freeCtr : q.keep .freeCtr = false := by assumption) : Good q (Sys2Proof.Machine.State.signalIn s g) := by
  unfold Sys2Proof.Machine.State.signalIn
  repeat' first
    | with_reducible assumption
    | with_reducible apply goodO_next
    | intro _
    | with_reducible apply State_remoteSignal_good
    | with_reducible apply State_signalNotice_good
    | with_reducible apply good_foldl
    | with_reducible apply good_foldl_fst
    | split
    | with_reducible refine good_fst (by assumption) ?_
    | with_reducible refine good_snd (by assumption) ?_
    | with_reducible refine good_snd2 (by assumption) ?_
    | (with_reducible refine State_forward_good _ _ ?_ ?_ _ (by assumption))

theorem State_noticeIn_good {q : Kept} {s : State} (n : LinkNotice) (h : Good q s) (w_regs : q.keep .regs = false := by assumption) (w_pages : q.keep .pages = false := by assumption) (w_msgs : q.keep .msgs = false := by assumption) (w_work : q.keep .work = false := by assumption) (w_link : q.keep .link = false := by assumption) (w_freeCtr : q.keep .freeCtr = false := by assumption) : Good q (Sys2Proof.Machine.State.noticeIn s n) := by
  unfold Sys2Proof.Machine.State.noticeIn
  repeat' first
    | with_reducible assumption
    | with_reducible apply goodO_next
    | intro _
    | with_reducible apply State_logNotice_good
    | with_reducible apply State_takeNotice_good
    | with_reducible apply good_foldl
    | with_reducible apply good_foldl_fst
    | split
    | with_reducible refine good_fst (by assumption) ?_
    | with_reducible refine good_snd (by assumption) ?_
    | with_reducible refine good_snd2 (by assumption) ?_
    | (with_reducible refine State_forward_good _ _ ?_ ?_ _ (by assumption))

theorem State_linkWrites_good {q : Kept} (r0 : List (Nat × List Byte)) (w_link : q.keep .link = false := by assumption) : ∀ (s : State) (p : Nat) (fn : Nat) (flow : Nat) (lf : Nat), Good q s → Good q (Sys2Proof.Machine.State.linkWrites s p fn flow lf r0) := by
  induction r0 with
  | nil =>
    intro s p fn flow lf h
    unfold Sys2Proof.Machine.State.linkWrites
    repeat' first
      | with_reducible assumption
  | cons a as ih =>
    intro s p fn flow lf h
    unfold Sys2Proof.Machine.State.linkWrites
    repeat' first
      | with_reducible assumption
      | with_reducible apply goodO_next
      | intro _
      | with_reducible apply ih
      | with_reducible apply State_enqueueMsg_good
      | with_reducible apply good_foldl
      | with_reducible apply good_foldl_fst
      | split
      | with_reducible refine good_fst (by assumption) ?_
      | with_reducible refine good_snd (by assumption) ?_
      | with_reducible refine good_snd2 (by assumption) ?_
      | dsimp only
      | with_reducible refine good_mk (t := _) ?_ rfl rfl rfl rfl rfl rfl rfl rfl

theorem State_linkSignal_good {q : Kept} {s : State} (p : Nat) (fn : Nat) (flow : Nat) (m : Nat) (c : Nat) (v : Nat) (h : Good q s) (w_regs : q.keep .regs = false := by assumption) (w_pages : q.keep .pages = false := by assumption) (w_msgs : q.keep .msgs = false := by assumption) (w_link : q.keep .link = false := by assumption) (w_freeCtr : q.keep .freeCtr = false := by assumption) : Good q (Sys2Proof.Machine.State.linkSignal s p fn flow m c v) := by
  unfold Sys2Proof.Machine.State.linkSignal
  repeat' first
    | with_reducible assumption
    | with_reducible apply goodO_next
    | intro _
    | with_reducible apply State_lostRef_good
    | with_reducible apply State_enqueueMsg_good
    | with_reducible apply good_foldl
    | with_reducible apply good_foldl_fst
    | split
    | with_reducible refine good_fst (by assumption) ?_
    | with_reducible refine good_snd (by assumption) ?_
    | with_reducible refine good_snd2 (by assumption) ?_
    | dsimp only
    | with_reducible refine good_mk (t := _) ?_ rfl rfl rfl rfl rfl rfl rfl rfl

theorem State_capturePeer_good {q : Kept} {s : State} (p : Nat) (r : List Byte) (h : Good q s) (w_regs : q.keep .regs = false := by assumption) : Good q (Sys2Proof.Machine.State.capturePeer s p r) := by
  unfold Sys2Proof.Machine.State.capturePeer
  repeat' first
    | with_reducible assumption
    | with_reducible apply goodO_next
    | intro _
    | with_reducible apply State_set_good
    | with_reducible apply good_foldl

theorem State_freshSession_good {q : Kept} {s : State} (p : Nat) (h : Good q s) (w_regs : q.keep .regs = false := by assumption) (w_link : q.keep .link = false := by assumption) (w_rngCtr : q.keep .rngCtr = false := by assumption) : Good q (Sys2Proof.Machine.State.freshSession s p) := by
  unfold Sys2Proof.Machine.State.freshSession
  repeat' first
    | with_reducible assumption
    | with_reducible apply goodO_next
    | intro _
    | with_reducible apply State_set_good
    | with_reducible apply State_drawRandom_good
    | with_reducible apply State_setPort_good

theorem State_enterData_good {q : Kept} {s : State} (p : Nat) (resume : Bool) (psess : Nat) (pexp : Nat) (h : Good q s) (w_regs : q.keep .regs = false := by assumption) (w_pages : q.keep .pages = false := by assumption) (w_msgs : q.keep .msgs = false := by assumption) (w_work : q.keep .work = false := by assumption) (w_link : q.keep .link = false := by assumption) (w_freeCtr : q.keep .freeCtr = false := by assumption) : Good q (Sys2Proof.Machine.State.enterData s p resume psess pexp) := by
  unfold Sys2Proof.Machine.State.enterData
  repeat' first
    | with_reducible assumption
    | with_reducible apply goodO_next
    | intro _
    | with_reducible apply State_set_good
    | with_reducible apply State_flag_good
    | with_reducible apply State_setPort_good
    | with_reducible apply State_setPortState_good
    | with_reducible apply State_discardReplay_good
    | with_reducible apply State_ackBelow_good
    | with_reducible apply good_foldl
    | with_reducible apply good_foldl_fst
    | split

theorem State_tryData_good {q : Kept} {s : State} (p : Nat) (h : Good q s) (w_regs : q.keep .regs = false := by assumption) (w_pages : q.keep .pages = false := by assumption) (w_msgs : q.keep .msgs = false := by assumption) (w_work : q.keep .work = false := by assumption) (w_link : q.keep .link = false := by assumption) (w_freeCtr : q.keep .freeCtr = false := by assumption) : Good q (Sys2Proof.Machine.State.tryData s p) := by
  unfold Sys2Proof.Machine.State.tryData
  repeat' first
    | with_reducible assumption
    | with_reducible apply goodO_next
    | intro _
    | with_reducible apply State_enterData_good
    | with_reducible apply good_foldl
    | with_reducible apply good_foldl_fst
    | split
    | with_reducible refine good_fst (by assumption) ?_
    | with_reducible refine good_snd (by assumption) ?_
    | with_reducible refine good_snd2 (by assumption) ?_
    | dsimp only

theorem State_exchange_good {q : Kept} {s : State} (p : Nat) (r : List Byte) (h : Good q s) (w_regs : q.keep .regs = false := by assumption) (w_pages : q.keep .pages = false := by assumption) (w_msgs : q.keep .msgs = false := by assumption) (w_work : q.keep .work = false := by assumption) (w_link : q.keep .link = false := by assumption) (w_rngCtr : q.keep .rngCtr = false := by assumption) (w_freeCtr : q.keep .freeCtr = false := by assumption) : Good q (Sys2Proof.Machine.State.exchange s p r) := by
  unfold Sys2Proof.Machine.State.exchange
  repeat' first
    | with_reducible assumption
    | with_reducible apply goodO_next
    | intro _
    | with_reducible apply State_set_good
    | with_reducible apply State_capture_good
    | with_reducible apply State_setPort_good
    | with_reducible apply State_setPortState_good
    | with_reducible apply State_capturePeer_good
    | with_reducible apply State_freshSession_good
    | with_reducible apply State_tryData_good
    | with_reducible apply good_foldl
    | with_reducible apply good_foldl_fst
    | split
    | with_reducible refine good_fst (by assumption) ?_
    | with_reducible refine good_snd (by assumption) ?_
    | with_reducible refine good_snd2 (by assumption) ?_
    | dsimp only

theorem State_advanceEpoch_good {q : Kept} {s : State} (v : Nat) (h : Good q s) (w_regs : q.keep .regs = false := by assumption) (w_pages : q.keep .pages = false := by assumption) (w_msgs : q.keep .msgs = false := by assumption) (w_link : q.keep .link = false := by assumption) : Good q (Sys2Proof.Machine.State.advanceEpoch s v) := by
  unfold Sys2Proof.Machine.State.advanceEpoch
  repeat' first
    | with_reducible assumption
    | with_reducible apply goodO_next
    | intro _
    | with_reducible apply State_flag_good
    | with_reducible apply State_setPair_good
    | with_reducible apply State_raise_good
    | with_reducible apply good_foldl
    | with_reducible apply good_foldl_fst
    | split
    | with_reducible refine good_fst (by assumption) ?_
    | with_reducible refine good_snd (by assumption) ?_
    | with_reducible refine good_snd2 (by assumption) ?_
    | dsimp only
    | with_reducible refine good_mk (t := _) ?_ rfl rfl rfl rfl rfl rfl rfl rfl

theorem State_epochTick_good {q : Kept} {s : State} (tick : Nat) (h : Good q s) (w_regs : q.keep .regs = false := by assumption) (w_pages : q.keep .pages = false := by assumption) (w_msgs : q.keep .msgs = false := by assumption) (w_link : q.keep .link = false := by assumption) : Good q (Sys2Proof.Machine.State.epochTick s tick) := by
  unfold Sys2Proof.Machine.State.epochTick
  repeat' first
    | with_reducible assumption
    | with_reducible apply goodO_next
    | intro _
    | with_reducible apply State_advanceEpoch_good
    | with_reducible apply good_foldl
    | with_reducible apply good_foldl_fst
    | split
    | with_reducible refine good_fst (by assumption) ?_
    | with_reducible refine good_snd (by assumption) ?_
    | with_reducible refine good_snd2 (by assumption) ?_
    | dsimp only
    | with_reducible refine good_mk (t := _) ?_ rfl rfl rfl rfl rfl rfl rfl rfl

theorem State_epochResume_good {q : Kept} {s : State} (h : Good q s) (w_regs : q.keep .regs = false := by assumption) (w_pages : q.keep .pages = false := by assumption) (w_msgs : q.keep .msgs = false := by assumption) (w_link : q.keep .link = false := by assumption) : Good q (Sys2Proof.Machine.State.epochResume s) := by
  unfold Sys2Proof.Machine.State.epochResume
  repeat' first
    | with_reducible assumption
    | with_reducible apply goodO_next
    | intro _
    | with_reducible apply State_advanceEpoch_good
    | with_reducible apply good_foldl
    | with_reducible apply good_foldl_fst
    | split

end Sys2Proof.Laws
end

