-- ==== Sys2Proof/Laws/KeepPorts.lean ====
section
/-!
SUPPORT. What the operations of Machine/Ports.lean keep.
-/

set_option Elab.async false

namespace Sys2Proof.Laws

open Sys2Proof.Machine

theorem execPortStart_good {q : Kept} (fn : Nat) (p : Nat) {s : State} (h : Good q s) (w_regs : q.keep .regs = false := by assumption) (w_pages : q.keep .pages = false := by assumption) (w_msgs : q.keep .msgs = false := by assumption) (w_link : q.keep .link = false := by assumption) (w_rngCtr : q.keep .rngCtr = false := by assumption) : GoodO q (Sys2Proof.Machine.execPortStart fn p s) := by
  unfold Sys2Proof.Machine.execPortStart
  repeat' first
    | with_reducible assumption
    | with_reducible apply goodO_next
    | intro _
    | with_reducible apply State_set_good
    | with_reducible apply State_flag_good
    | with_reducible apply State_captureFn_good
    | with_reducible apply mmio_good
    | with_reducible apply State_setPort_good
    | with_reducible apply State_setPortState_good
    | with_reducible apply State_freshSession_good
    | with_reducible apply good_foldl
    | with_reducible apply good_foldl_fst
    | split

theorem execPortStop_good {q : Kept} (fn : Nat) (p : Nat) {s : State} (h : Good q s) (w_regs : q.keep .regs = false := by assumption) (w_pages : q.keep .pages = false := by assumption) (w_msgs : q.keep .msgs = false := by assumption) (w_work : q.keep .work = false := by assumption) (w_link : q.keep .link = false := by assumption) (w_freeCtr : q.keep .freeCtr = false := by assumption) : GoodO q (Sys2Proof.Machine.execPortStop fn p s) := by
  unfold Sys2Proof.Machine.execPortStop
  repeat' first
    | with_reducible assumption
    | with_reducible apply goodO_next
    | intro _
    | with_reducible apply State_set_good
    | with_reducible apply mmio_good
    | with_reducible apply State_setPort_good
    | with_reducible apply State_setPortState_good
    | with_reducible apply State_leaveCheck_good
    | with_reducible apply good_foldl
    | with_reducible apply good_foldl_fst
    | split

theorem execRecheck_good {q : Kept} (fn : Nat) (p : Nat) {s : State} (h : Good q s) (w_regs : q.keep .regs = false := by assumption) (w_pages : q.keep .pages = false := by assumption) (w_msgs : q.keep .msgs = false := by assumption) (w_link : q.keep .link = false := by assumption) : GoodO q (Sys2Proof.Machine.execRecheck fn p s) := by
  unfold Sys2Proof.Machine.execRecheck
  repeat' first
    | with_reducible assumption
    | with_reducible apply goodO_next
    | intro _
    | with_reducible apply State_refuseWrite_good
    | with_reducible apply mmio_good
    | with_reducible apply State_setPortState_good
    | with_reducible apply good_foldl
    | with_reducible apply good_foldl_fst
    | split

theorem execResetSeq_good {q : Kept} (fn : Nat) (p : Nat) {s : State} (h : Good q s) (w_regs : q.keep .regs = false := by assumption) (w_pages : q.keep .pages = false := by assumption) (w_msgs : q.keep .msgs = false := by assumption) (w_link : q.keep .link = false := by assumption) (w_freeCtr : q.keep .freeCtr = false := by assumption) : GoodO q (Sys2Proof.Machine.execResetSeq fn p s) := by
  unfold Sys2Proof.Machine.execResetSeq
  repeat' first
    | with_reducible assumption
    | with_reducible apply goodO_next
    | intro _
    | with_reducible apply State_set_good
    | with_reducible apply State_refuseWrite_good
    | with_reducible apply mmio_good
    | with_reducible apply State_discardReplay_good
    | with_reducible apply good_foldl
    | with_reducible apply good_foldl_fst
    | split

theorem portEvent_good {q : Kept} (p : Nat) (st : Nat) {s : State} (body : State → State) (h : Good q s) (hbody : ∀ x0, Good q x0 → Good q (body x0)) : GoodO q (Sys2Proof.Machine.portEvent p st s body) := by
  unfold Sys2Proof.Machine.portEvent
  repeat' first
    | with_reducible assumption
    | with_reducible apply goodO_next
    | intro _
    | with_reducible apply hbody
    | with_reducible apply event_good
    | with_reducible apply good_foldl
    | with_reducible apply good_foldl_fst
    | split

theorem execLaneLocked_good {q : Kept} (p : Nat) {s : State} (h : Good q s) (w_regs : q.keep .regs = false := by assumption) (w_pages : q.keep .pages = false := by assumption) (w_msgs : q.keep .msgs = false := by assumption) (w_link : q.keep .link = false := by assumption) : GoodO q (Sys2Proof.Machine.execLaneLocked p s) := by
  unfold Sys2Proof.Machine.execLaneLocked
  repeat' first
    | with_reducible assumption
    | with_reducible apply goodO_next
    | intro _
    | with_reducible apply State_set_good
    | with_reducible apply State_setPortState_good
    | with_reducible apply portEvent_good

theorem execTrainTimeout_good {q : Kept} (p : Nat) (locked : Nat) {s : State} (h : Good q s) (w_regs : q.keep .regs = false := by assumption) (w_pages : q.keep .pages = false := by assumption) (w_msgs : q.keep .msgs = false := by assumption) (w_work : q.keep .work = false := by assumption) (w_link : q.keep .link = false := by assumption) (w_freeCtr : q.keep .freeCtr = false := by assumption) : GoodO q (Sys2Proof.Machine.execTrainTimeout p locked s) := by
  unfold Sys2Proof.Machine.execTrainTimeout
  repeat' first
    | with_reducible assumption
    | with_reducible apply goodO_next
    | intro _
    | with_reducible apply State_set_good
    | with_reducible apply State_linkDown_good
    | with_reducible apply portEvent_good

theorem execAlignDone_good {q : Kept} (p : Nat) {s : State} (h : Good q s) (w_regs : q.keep .regs = false := by assumption) (w_pages : q.keep .pages = false := by assumption) (w_msgs : q.keep .msgs = false := by assumption) (w_link : q.keep .link = false := by assumption) : GoodO q (Sys2Proof.Machine.execAlignDone p s) := by
  unfold Sys2Proof.Machine.execAlignDone
  repeat' first
    | with_reducible assumption
    | with_reducible apply goodO_next
    | intro _
    | with_reducible apply State_setPortState_good
    | with_reducible apply portEvent_good

theorem execExchSend_good {q : Kept} (p : Nat) {s : State} (h : Good q s) (w_regs : q.keep .regs = false := by assumption) (w_pages : q.keep .pages = false := by assumption) (w_msgs : q.keep .msgs = false := by assumption) (w_work : q.keep .work = false := by assumption) (w_link : q.keep .link = false := by assumption) (w_freeCtr : q.keep .freeCtr = false := by assumption) : GoodO q (Sys2Proof.Machine.execExchSend p s) := by
  unfold Sys2Proof.Machine.execExchSend
  repeat' first
    | with_reducible assumption
    | with_reducible apply goodO_next
    | intro _
    | with_reducible apply State_setPort_good
    | with_reducible apply State_emit_good
    | with_reducible apply State_tryData_good
    | with_reducible apply portEvent_good

theorem State_flitIn_good {q : Kept} {s : State} (p : Nat) (hd : FlitHdr) (h : Good q s) (w_regs : q.keep .regs = false := by assumption) (w_pages : q.keep .pages = false := by assumption) (w_msgs : q.keep .msgs = false := by assumption) (w_work : q.keep .work = false := by assumption) (w_link : q.keep .link = false := by assumption) (w_freeCtr : q.keep .freeCtr = false := by assumption) : Good q (Sys2Proof.Machine.State.flitIn s p hd) := by
  unfold Sys2Proof.Machine.State.flitIn
  repeat' first
    | with_reducible assumption
    | with_reducible apply goodO_next
    | intro _
    | with_reducible apply State_add_good
    | with_reducible apply State_ackIn_good

theorem unsequenced_good {q : Kept} (p : Nat) (hd : FlitHdr) {s : State} (body : State → State) (h : Good q s) (hbody : ∀ x0, Good q x0 → Good q (body x0)) (w_regs : q.keep .regs = false := by assumption) (w_pages : q.keep .pages = false := by assumption) (w_msgs : q.keep .msgs = false := by assumption) (w_work : q.keep .work = false := by assumption) (w_link : q.keep .link = false := by assumption) (w_freeCtr : q.keep .freeCtr = false := by assumption) : GoodO q (Sys2Proof.Machine.unsequenced p hd s body) := by
  unfold Sys2Proof.Machine.unsequenced
  repeat' first
    | with_reducible assumption
    | with_reducible apply goodO_next
    | intro _
    | with_reducible apply hbody
    | with_reducible apply portEvent_good
    | with_reducible apply State_flitIn_good
    | with_reducible apply good_foldl
    | with_reducible apply good_foldl_fst
    | split
    | with_reducible refine good_fst (by assumption) ?_
    | with_reducible refine good_snd (by assumption) ?_
    | with_reducible refine good_snd2 (by assumption) ?_
    | dsimp only

theorem State_leaveIn_good {q : Kept} {s : State} (p : Nat) (h : Good q s) (w_regs : q.keep .regs = false := by assumption) (w_pages : q.keep .pages = false := by assumption) (w_msgs : q.keep .msgs = false := by assumption) (w_work : q.keep .work = false := by assumption) (w_link : q.keep .link = false := by assumption) (w_freeCtr : q.keep .freeCtr = false := by assumption) : Good q (Sys2Proof.Machine.State.leaveIn s p) := by
  unfold Sys2Proof.Machine.State.leaveIn
  repeat' first
    | with_reducible assumption
    | with_reducible apply goodO_next
    | intro _
    | with_reducible apply State_leaveCheck_good
    | with_reducible apply State_setPort_good
    | with_reducible apply good_foldl
    | with_reducible apply good_foldl_fst
    | split

theorem State_applyFlit_good {q : Kept} {s : State} (p : Nat) (a : FlitBody) (h : Good q s) (w_regs : q.keep .regs = false := by assumption) (w_pages : q.keep .pages = false := by assumption) (w_msgs : q.keep .msgs = false := by assumption) (w_faultLog : q.keep .faultLog = false := by assumption) (w_hbm : q.keep .hbm = false := by assumption) (w_caches : q.keep .caches = false := by assumption) (w_mem : q.keep .mem = false := by assumption) (w_sync : q.keep .sync = false := by assumption) (w_work : q.keep .work = false := by assumption) (w_link : q.keep .link = false := by assumption) (w_freeCtr : q.keep .freeCtr = false := by assumption) : Good q (Sys2Proof.Machine.State.applyFlit s p a) := by
  unfold Sys2Proof.Machine.State.applyFlit
  repeat' first
    | with_reducible assumption
    | with_reducible apply goodO_next
    | intro _
    | with_reducible apply State_leaveIn_good
    | with_reducible apply State_noticeIn_good
    | with_reducible apply State_signalIn_good
    | with_reducible apply State_writeBytesIn_good
    | with_reducible apply State_itemData_good
    | with_reducible apply State_itemHead_good
    | with_reducible apply State_owe_good
    | with_reducible apply good_foldl
    | with_reducible apply good_foldl_fst
    | split

theorem State_rxTake_good {q : Kept} {s : State} (p : Nat) (h : Good q s) (w_regs : q.keep .regs = false := by assumption) (w_pages : q.keep .pages = false := by assumption) (w_msgs : q.keep .msgs = false := by assumption) (w_faultLog : q.keep .faultLog = false := by assumption) (w_hbm : q.keep .hbm = false := by assumption) (w_caches : q.keep .caches = false := by assumption) (w_mem : q.keep .mem = false := by assumption) (w_sync : q.keep .sync = false := by assumption) (w_work : q.keep .work = false := by assumption) (w_link : q.keep .link = false := by assumption) (w_freeCtr : q.keep .freeCtr = false := by assumption) : Good q (Sys2Proof.Machine.State.rxTake s p) := by
  unfold Sys2Proof.Machine.State.rxTake
  repeat' first
    | with_reducible assumption
    | with_reducible apply goodO_next
    | intro _
    | with_reducible apply State_applyFlit_good
    | with_reducible apply State_setPort_good
    | with_reducible apply good_foldl
    | with_reducible apply good_foldl_fst
    | split

theorem State_rxDrain_good {q : Kept} (r0 : Nat) (w_regs : q.keep .regs = false := by assumption) (w_pages : q.keep .pages = false := by assumption) (w_msgs : q.keep .msgs = false := by assumption) (w_faultLog : q.keep .faultLog = false := by assumption) (w_hbm : q.keep .hbm = false := by assumption) (w_caches : q.keep .caches = false := by assumption) (w_mem : q.keep .mem = false := by assumption) (w_sync : q.keep .sync = false := by assumption) (w_work : q.keep .work = false := by assumption) (w_link : q.keep .link = false := by assumption) (w_freeCtr : q.keep .freeCtr = false := by assumption) : ∀ (s : State) (p : Nat), Good q s → Good q (Sys2Proof.Machine.State.rxDrain s p r0) := by
  induction r0 with
  | zero =>
    intro s p h
    unfold Sys2Proof.Machine.State.rxDrain
    repeat' first
      | with_reducible assumption
  | succ n ih =>
    intro s p h
    unfold Sys2Proof.Machine.State.rxDrain
    repeat' first
      | with_reducible assumption
      | with_reducible apply goodO_next
      | intro _
      | with_reducible apply ih
      | with_reducible apply State_rxTake_good
      | with_reducible apply good_foldl
      | with_reducible apply good_foldl_fst
      | split

theorem State_rxGo_good {q : Kept} {s : State} (p : Nat) (h : Good q s) (w_regs : q.keep .regs = false := by assumption) (w_pages : q.keep .pages = false := by assumption) (w_msgs : q.keep .msgs = false := by assumption) (w_faultLog : q.keep .faultLog = false := by assumption) (w_hbm : q.keep .hbm = false := by assumption) (w_caches : q.keep .caches = false := by assumption) (w_mem : q.keep .mem = false := by assumption) (w_sync : q.keep .sync = false := by assumption) (w_work : q.keep .work = false := by assumption) (w_link : q.keep .link = false := by assumption) (w_freeCtr : q.keep .freeCtr = false := by assumption) : Good q (Sys2Proof.Machine.State.rxGo s p) := by
  unfold Sys2Proof.Machine.State.rxGo
  repeat' first
    | with_reducible assumption
    | with_reducible apply goodO_next
    | intro _
    | with_reducible apply State_rxDrain_good

theorem sequenced_good {q : Kept} (p : Nat) (hd : FlitHdr) {s : State} (accept : State → State) (h : Good q s) (haccept : ∀ x0, Good q x0 → Good q (accept x0)) (w_regs : q.keep .regs = false := by assumption) (w_pages : q.keep .pages = false := by assumption) (w_msgs : q.keep .msgs = false := by assumption) (w_work : q.keep .work = false := by assumption) (w_link : q.keep .link = false := by assumption) (w_freeCtr : q.keep .freeCtr = false := by assumption) : GoodO q (Sys2Proof.Machine.sequenced p hd s accept) := by
  unfold Sys2Proof.Machine.sequenced
  repeat' first
    | with_reducible assumption
    | with_reducible apply goodO_next
    | intro _
    | with_reducible apply haccept
    | with_reducible apply event_good
    | with_reducible apply State_setPort_good
    | with_reducible apply State_flitIn_good
    | with_reducible apply good_foldl
    | with_reducible apply good_foldl_fst
    | split
    | with_reducible refine good_fst (by assumption) ?_
    | with_reducible refine good_snd (by assumption) ?_
    | with_reducible refine good_snd2 (by assumption) ?_
    | dsimp only

theorem buffered_good {q : Kept} (p : Nat) (hd : FlitHdr) (f : FlitBody) {s : State} (h : Good q s) (w_regs : q.keep .regs = false := by assumption) (w_pages : q.keep .pages = false := by assumption) (w_msgs : q.keep .msgs = false := by assumption) (w_faultLog : q.keep .faultLog = false := by assumption) (w_hbm : q.keep .hbm = false := by assumption) (w_caches : q.keep .caches = false := by assumption) (w_mem : q.keep .mem = false := by assumption) (w_sync : q.keep .sync = false := by assumption) (w_work : q.keep .work = false := by assumption) (w_link : q.keep .link = false := by assumption) (w_freeCtr : q.keep .freeCtr = false := by assumption) : GoodO q (Sys2Proof.Machine.buffered p hd f s) := by
  unfold Sys2Proof.Machine.buffered
  repeat' first
    | with_reducible assumption
    | with_reducible apply goodO_next
    | intro _
    | with_reducible apply sequenced_good
    | with_reducible apply State_rxGo_good
    | with_reducible apply State_flitIn_good
    | with_reducible apply State_setPort_good

theorem linkFlit_good {q : Kept} (p : Nat) (hd : FlitHdr) {s : State} (body : State → State) (h : Good q s) (hbody : ∀ x0, Good q x0 → Good q (body x0)) (w_regs : q.keep .regs = false := by assumption) (w_pages : q.keep .pages = false := by assumption) (w_msgs : q.keep .msgs = false := by assumption) (w_work : q.keep .work = false := by assumption) (w_link : q.keep .link = false := by assumption) (w_freeCtr : q.keep .freeCtr = false := by assumption) : GoodO q (Sys2Proof.Machine.linkFlit p hd s body) := by
  unfold Sys2Proof.Machine.linkFlit
  repeat' first
    | with_reducible assumption
    | with_reducible apply goodO_next
    | intro _
    | with_reducible apply hbody
    | with_reducible apply sequenced_good
    | with_reducible apply State_flitIn_good
    | with_reducible apply good_foldl
    | with_reducible apply good_foldl_fst
    | split
    | with_reducible refine good_fst (by assumption) ?_
    | with_reducible refine good_snd (by assumption) ?_
    | with_reducible refine good_snd2 (by assumption) ?_
    | dsimp only

theorem execExch_good {q : Kept} (p : Nat) (hd : FlitHdr) (record : List Byte) {s : State} (h : Good q s) (w_regs : q.keep .regs = false := by assumption) (w_pages : q.keep .pages = false := by assumption) (w_msgs : q.keep .msgs = false := by assumption) (w_work : q.keep .work = false := by assumption) (w_link : q.keep .link = false := by assumption) (w_rngCtr : q.keep .rngCtr = false := by assumption) (w_freeCtr : q.keep .freeCtr = false := by assumption) : GoodO q (Sys2Proof.Machine.execExch p hd record s) := by
  unfold Sys2Proof.Machine.execExch
  repeat' first
    | with_reducible assumption
    | with_reducible apply goodO_next
    | intro _
    | with_reducible apply State_add_good
    | with_reducible apply State_exchange_good
    | with_reducible apply portEvent_good

theorem execIdle_good {q : Kept} (p : Nat) (hd : FlitHdr) {s : State} (h : Good q s) (w_regs : q.keep .regs = false := by assumption) (w_pages : q.keep .pages = false := by assumption) (w_msgs : q.keep .msgs = false := by assumption) (w_work : q.keep .work = false := by assumption) (w_link : q.keep .link = false := by assumption) (w_freeCtr : q.keep .freeCtr = false := by assumption) : GoodO q (Sys2Proof.Machine.execIdle p hd s) := by
  exact unsequenced_good _ _ _ h (fun _ k => k)

theorem execItemHead_good {q : Kept} (p : Nat) (hd : FlitHdr) (header : List Byte) (payload : List Byte) {s : State} (h : Good q s) (w_regs : q.keep .regs = false := by assumption) (w_pages : q.keep .pages = false := by assumption) (w_msgs : q.keep .msgs = false := by assumption) (w_faultLog : q.keep .faultLog = false := by assumption) (w_hbm : q.keep .hbm = false := by assumption) (w_caches : q.keep .caches = false := by assumption) (w_mem : q.keep .mem = false := by assumption) (w_sync : q.keep .sync = false := by assumption) (w_work : q.keep .work = false := by assumption) (w_link : q.keep .link = false := by assumption) (w_freeCtr : q.keep .freeCtr = false := by assumption) : GoodO q (Sys2Proof.Machine.execItemHead p hd header payload s) := by
  unfold Sys2Proof.Machine.execItemHead
  repeat' first
    | with_reducible assumption
    | with_reducible apply goodO_next
    | intro _
    | with_reducible apply buffered_good

theorem execItemData_good {q : Kept} (p : Nat) (hd : FlitHdr) (payload : List Byte) {s : State} (h : Good q s) (w_regs : q.keep .regs = false := by assumption) (w_pages : q.keep .pages = false := by assumption) (w_msgs : q.keep .msgs = false := by assumption) (w_faultLog : q.keep .faultLog = false := by assumption) (w_hbm : q.keep .hbm = false := by assumption) (w_caches : q.keep .caches = false := by assumption) (w_mem : q.keep .mem = false := by assumption) (w_sync : q.keep .sync = false := by assumption) (w_work : q.keep .work = false := by assumption) (w_link : q.keep .link = false := by assumption) (w_freeCtr : q.keep .freeCtr = false := by assumption) : GoodO q (Sys2Proof.Machine.execItemData p hd payload s) := by
  unfold Sys2Proof.Machine.execItemData
  repeat' first
    | with_reducible assumption
    | with_reducible apply goodO_next
    | intro _
    | with_reducible apply buffered_good

theorem execLwrHead_good {q : Kept} (p : Nat) (hd : FlitHdr) (w : LinkWrite) (data : List Byte) {s : State} (h : Good q s) (w_regs : q.keep .regs = false := by assumption) (w_pages : q.keep .pages = false := by assumption) (w_msgs : q.keep .msgs = false := by assumption) (w_faultLog : q.keep .faultLog = false := by assumption) (w_hbm : q.keep .hbm = false := by assumption) (w_caches : q.keep .caches = false := by assumption) (w_mem : q.keep .mem = false := by assumption) (w_sync : q.keep .sync = false := by assumption) (w_work : q.keep .work = false := by assumption) (w_link : q.keep .link = false := by assumption) (w_freeCtr : q.keep .freeCtr = false := by assumption) : GoodO q (Sys2Proof.Machine.execLwrHead p hd w data s) := by
  unfold Sys2Proof.Machine.execLwrHead
  repeat' first
    | with_reducible assumption
    | with_reducible apply goodO_next
    | intro _
    | with_reducible apply buffered_good

theorem execLwrData_good {q : Kept} (p : Nat) (hd : FlitHdr) (data : List Byte) {s : State} (h : Good q s) (w_regs : q.keep .regs = false := by assumption) (w_pages : q.keep .pages = false := by assumption) (w_msgs : q.keep .msgs = false := by assumption) (w_faultLog : q.keep .faultLog = false := by assumption) (w_hbm : q.keep .hbm = false := by assumption) (w_caches : q.keep .caches = false := by assumption) (w_mem : q.keep .mem = false := by assumption) (w_sync : q.keep .sync = false := by assumption) (w_work : q.keep .work = false := by assumption) (w_link : q.keep .link = false := by assumption) (w_freeCtr : q.keep .freeCtr = false := by assumption) : GoodO q (Sys2Proof.Machine.execLwrData p hd data s) := by
  unfold Sys2Proof.Machine.execLwrData
  repeat' first
    | with_reducible assumption
    | with_reducible apply goodO_next
    | intro _
    | with_reducible apply buffered_good

theorem execLsig_good {q : Kept} (p : Nat) (hd : FlitHdr) (g : LinkSignal) {s : State} (h : Good q s) (w_regs : q.keep .regs = false := by assumption) (w_pages : q.keep .pages = false := by assumption) (w_msgs : q.keep .msgs = false := by assumption) (w_faultLog : q.keep .faultLog = false := by assumption) (w_hbm : q.keep .hbm = false := by assumption) (w_caches : q.keep .caches = false := by assumption) (w_mem : q.keep .mem = false := by assumption) (w_sync : q.keep .sync = false := by assumption) (w_work : q.keep .work = false := by assumption) (w_link : q.keep .link = false := by assumption) (w_freeCtr : q.keep .freeCtr = false := by assumption) : GoodO q (Sys2Proof.Machine.execLsig p hd g s) := by
  unfold Sys2Proof.Machine.execLsig
  repeat' first
    | with_reducible assumption
    | with_reducible apply goodO_next
    | intro _
    | with_reducible apply buffered_good

theorem execNotice_good {q : Kept} (p : Nat) (hd : FlitHdr) (n : LinkNotice) {s : State} (h : Good q s) (w_regs : q.keep .regs = false := by assumption) (w_pages : q.keep .pages = false := by assumption) (w_msgs : q.keep .msgs = false := by assumption) (w_faultLog : q.keep .faultLog = false := by assumption) (w_hbm : q.keep .hbm = false := by assumption) (w_caches : q.keep .caches = false := by assumption) (w_mem : q.keep .mem = false := by assumption) (w_sync : q.keep .sync = false := by assumption) (w_work : q.keep .work = false := by assumption) (w_link : q.keep .link = false := by assumption) (w_freeCtr : q.keep .freeCtr = false := by assumption) : GoodO q (Sys2Proof.Machine.execNotice p hd n s) := by
  unfold Sys2Proof.Machine.execNotice
  repeat' first
    | with_reducible assumption
    | with_reducible apply goodO_next
    | intro _
    | with_reducible apply buffered_good

theorem execVoid_good {q : Kept} (p : Nat) (hd : FlitHdr) {s : State} (h : Good q s) (w_regs : q.keep .regs = false := by assumption) (w_pages : q.keep .pages = false := by assumption) (w_msgs : q.keep .msgs = false := by assumption) (w_faultLog : q.keep .faultLog = false := by assumption) (w_hbm : q.keep .hbm = false := by assumption) (w_caches : q.keep .caches = false := by assumption) (w_mem : q.keep .mem = false := by assumption) (w_sync : q.keep .sync = false := by assumption) (w_work : q.keep .work = false := by assumption) (w_link : q.keep .link = false := by assumption) (w_freeCtr : q.keep .freeCtr = false := by assumption) : GoodO q (Sys2Proof.Machine.execVoid p hd s) := by
  exact buffered_good _ _ _ h

theorem State_tsyncSkew_good {q : Kept} {s : State} (t1 : TsyncTime) (t3 : TsyncTime) (t4 : TsyncTime) (h : Good q s) (w_freeCtr : q.keep .freeCtr = false := by assumption) : Good q (Sys2Proof.Machine.State.tsyncSkew s t1 t3 t4).2 := by
  exact State_drawFree_good h

theorem execTsync_good {q : Kept} (p : Nat) (hd : FlitHdr) (t1 : TsyncTime) (echo : Option (TsyncTime × TsyncTime)) {s : State} (h : Good q s) (w_regs : q.keep .regs = false := by assumption) (w_pages : q.keep .pages = false := by assumption) (w_msgs : q.keep .msgs = false := by assumption) (w_work : q.keep .work = false := by assumption) (w_link : q.keep .link = false := by assumption) (w_freeCtr : q.keep .freeCtr = false := by assumption) : GoodO q (Sys2Proof.Machine.execTsync p hd t1 echo s) := by
  unfold Sys2Proof.Machine.execTsync
  repeat' first
    | with_reducible assumption
    | with_reducible apply goodO_next
    | intro _
    | with_reducible apply State_set_good
    | with_reducible apply State_setPort_good
    | with_reducible apply State_skewRefresh_good
    | with_reducible apply unsequenced_good
    | with_reducible apply State_tsyncSkew_good
    | with_reducible apply good_foldl
    | with_reducible apply good_foldl_fst
    | split

theorem execTsyncSend_good {q : Kept} (p : Nat) {s : State} (h : Good q s) (w_regs : q.keep .regs = false := by assumption) (w_link : q.keep .link = false := by assumption) : GoodO q (Sys2Proof.Machine.execTsyncSend p s) := by
  unfold Sys2Proof.Machine.execTsyncSend
  repeat' first
    | with_reducible assumption
    | with_reducible apply goodO_next
    | intro _
    | with_reducible apply State_emit_good
    | with_reducible apply portEvent_good

theorem execRetry_good {q : Kept} (p : Nat) (hd : FlitHdr) (want : Nat) {s : State} (h : Good q s) (w_regs : q.keep .regs = false := by assumption) (w_pages : q.keep .pages = false := by assumption) (w_msgs : q.keep .msgs = false := by assumption) (w_work : q.keep .work = false := by assumption) (w_link : q.keep .link = false := by assumption) (w_freeCtr : q.keep .freeCtr = false := by assumption) : GoodO q (Sys2Proof.Machine.execRetry p hd want s) := by
  unfold Sys2Proof.Machine.execRetry
  repeat' first
    | with_reducible assumption
    | with_reducible apply goodO_next
    | intro _
    | with_reducible apply State_linkDown_good
    | with_reducible apply State_startResend_good
    | with_reducible apply unsequenced_good
    | with_reducible apply good_foldl
    | with_reducible apply good_foldl_fst
    | split
    | with_reducible refine good_fst (by assumption) ?_
    | with_reducible refine good_snd (by assumption) ?_
    | with_reducible refine good_snd2 (by assumption) ?_
    | dsimp only

theorem execLane_good {q : Kept} (p : Nat) (hd : FlitHdr) (mask : Nat) {s : State} (h : Good q s) (w_regs : q.keep .regs = false := by assumption) (w_pages : q.keep .pages = false := by assumption) (w_msgs : q.keep .msgs = false := by assumption) (w_work : q.keep .work = false := by assumption) (w_link : q.keep .link = false := by assumption) (w_freeCtr : q.keep .freeCtr = false := by assumption) : GoodO q (Sys2Proof.Machine.execLane p hd mask s) := by
  unfold Sys2Proof.Machine.execLane
  repeat' first
    | with_reducible assumption
    | with_reducible apply goodO_next
    | intro _
    | with_reducible apply linkFlit_good
    | with_reducible apply State_owe_good
    | with_reducible apply State_linkDown_good
    | with_reducible apply State_raise_good
    | with_reducible apply State_flag_good
    | with_reducible apply State_set_good
    | with_reducible apply good_foldl
    | with_reducible apply good_foldl_fst
    | split
    | with_reducible refine good_fst (by assumption) ?_
    | with_reducible refine good_snd (by assumption) ?_
    | with_reducible refine good_snd2 (by assumption) ?_
    | dsimp only

theorem execKey_good {q : Kept} (p : Nat) (hd : FlitHdr) {s : State} (h : Good q s) (w_regs : q.keep .regs = false := by assumption) (w_pages : q.keep .pages = false := by assumption) (w_msgs : q.keep .msgs = false := by assumption) (w_work : q.keep .work = false := by assumption) (w_link : q.keep .link = false := by assumption) (w_freeCtr : q.keep .freeCtr = false := by assumption) : GoodO q (Sys2Proof.Machine.execKey p hd s) := by
  unfold Sys2Proof.Machine.execKey
  repeat' first
    | with_reducible assumption
    | with_reducible apply goodO_next
    | intro _
    | with_reducible apply linkFlit_good
    | with_reducible apply State_owe_good
    | with_reducible apply State_linkDown_good
    | with_reducible apply State_setPort_good
    | with_reducible apply State_flag_good
    | with_reducible apply good_foldl
    | with_reducible apply good_foldl_fst
    | split
    | with_reducible refine good_fst (by assumption) ?_
    | with_reducible refine good_snd (by assumption) ?_
    | with_reducible refine good_snd2 (by assumption) ?_
    | dsimp only

theorem execLeave_good {q : Kept} (p : Nat) (hd : FlitHdr) {s : State} (h : Good q s) (w_regs : q.keep .regs = false := by assumption) (w_pages : q.keep .pages = false := by assumption) (w_msgs : q.keep .msgs = false := by assumption) (w_faultLog : q.keep .faultLog = false := by assumption) (w_hbm : q.keep .hbm = false := by assumption) (w_caches : q.keep .caches = false := by assumption) (w_mem : q.keep .mem = false := by assumption) (w_sync : q.keep .sync = false := by assumption) (w_work : q.keep .work = false := by assumption) (w_link : q.keep .link = false := by assumption) (w_freeCtr : q.keep .freeCtr = false := by assumption) : GoodO q (Sys2Proof.Machine.execLeave p hd s) := by
  unfold Sys2Proof.Machine.execLeave
  repeat' first
    | with_reducible assumption
    | with_reducible apply goodO_next
    | intro _
    | with_reducible apply buffered_good

theorem execBadCrcFlit_good {q : Kept} (p : Nat) {s : State} (h : Good q s) (w_regs : q.keep .regs = false := by assumption) (w_link : q.keep .link = false := by assumption) : GoodO q (Sys2Proof.Machine.execBadCrcFlit p s) := by
  unfold Sys2Proof.Machine.execBadCrcFlit
  repeat' first
    | with_reducible assumption
    | with_reducible apply goodO_next
    | intro _
    | with_reducible apply State_add_good
    | with_reducible apply event_good
    | with_reducible apply State_setPort_good
    | with_reducible apply good_foldl
    | with_reducible apply good_foldl_fst
    | split

theorem execUndefinedTypeFlit_good {q : Kept} (p : Nat) {s : State} (h : Good q s) (w_regs : q.keep .regs = false := by assumption) (w_pages : q.keep .pages = false := by assumption) (w_msgs : q.keep .msgs = false := by assumption) (w_work : q.keep .work = false := by assumption) (w_link : q.keep .link = false := by assumption) (w_freeCtr : q.keep .freeCtr = false := by assumption) : GoodO q (Sys2Proof.Machine.execUndefinedTypeFlit p s) := by
  unfold Sys2Proof.Machine.execUndefinedTypeFlit
  repeat' first
    | with_reducible assumption
    | with_reducible apply goodO_next
    | intro _
    | with_reducible apply State_add_good
    | with_reducible apply State_linkDown_good
    | with_reducible apply portEvent_good

theorem execChainTake_good {q : Kept} (p : Nat) (c : Nat) {s : State} (h : Good q s) (w_regs : q.keep .regs = false := by assumption) (w_work : q.keep .work = false := by assumption) (w_link : q.keep .link = false := by assumption) : GoodO q (Sys2Proof.Machine.execChainTake p c s) := by
  unfold Sys2Proof.Machine.execChainTake
  repeat' first
    | with_reducible assumption
    | with_reducible apply goodO_next
    | intro _
    | with_reducible apply event_good
    | with_reducible apply State_takeCell_good
    | with_reducible apply State_setPort_good
    | with_reducible apply good_foldl
    | with_reducible apply good_foldl_fst
    | split

theorem execPortTransmit_good {q : Kept} (p : Nat) (src : Nat) {s : State} (h : Good q s) (w_regs : q.keep .regs = false := by assumption) (w_pages : q.keep .pages = false := by assumption) (w_msgs : q.keep .msgs = false := by assumption) (w_faultLog : q.keep .faultLog = false := by assumption) (w_hbm : q.keep .hbm = false := by assumption) (w_caches : q.keep .caches = false := by assumption) (w_mem : q.keep .mem = false := by assumption) (w_work : q.keep .work = false := by assumption) (w_link : q.keep .link = false := by assumption) (w_freeCtr : q.keep .freeCtr = false := by assumption) : GoodO q (Sys2Proof.Machine.execPortTransmit p src s) := by
  unfold Sys2Proof.Machine.execPortTransmit
  repeat' first
    | with_reducible assumption
    | with_reducible apply goodO_next
    | intro _
    | with_reducible apply State_add_good
    | with_reducible apply State_setPort_good
    | with_reducible apply State_leaveCheck_good
    | with_reducible apply State_emit_good
    | with_reducible apply State_sendItem_good
    | with_reducible apply State_sendMessage_good
    | with_reducible apply State_resendNext_good
    | with_reducible apply portEvent_good
    | with_reducible apply good_foldl
    | with_reducible apply good_foldl_fst
    | split
    | with_reducible refine good_fst (by assumption) ?_
    | with_reducible refine good_snd (by assumption) ?_
    | with_reducible refine good_snd2 (by assumption) ?_
    | dsimp only

theorem execResendTimeout_good {q : Kept} (p : Nat) {s : State} (h : Good q s) (w_regs : q.keep .regs = false := by assumption) (w_pages : q.keep .pages = false := by assumption) (w_msgs : q.keep .msgs = false := by assumption) (w_work : q.keep .work = false := by assumption) (w_link : q.keep .link = false := by assumption) (w_freeCtr : q.keep .freeCtr = false := by assumption) : GoodO q (Sys2Proof.Machine.execResendTimeout p s) := by
  unfold Sys2Proof.Machine.execResendTimeout
  repeat' first
    | with_reducible assumption
    | with_reducible apply goodO_next
    | intro _
    | with_reducible apply State_startResend_good
    | with_reducible apply portEvent_good
    | with_reducible apply good_foldl
    | with_reducible apply good_foldl_fst
    | split

theorem execAckTimeout_good {q : Kept} (p : Nat) {s : State} (h : Good q s) (w_regs : q.keep .regs = false := by assumption) (w_pages : q.keep .pages = false := by assumption) (w_msgs : q.keep .msgs = false := by assumption) (w_work : q.keep .work = false := by assumption) (w_link : q.keep .link = false := by assumption) (w_freeCtr : q.keep .freeCtr = false := by assumption) : GoodO q (Sys2Proof.Machine.execAckTimeout p s) := by
  unfold Sys2Proof.Machine.execAckTimeout
  repeat' first
    | with_reducible assumption
    | with_reducible apply goodO_next
    | intro _
    | with_reducible apply State_linkDown_good
    | with_reducible apply portEvent_good
    | with_reducible apply good_foldl
    | with_reducible apply good_foldl_fst
    | split

theorem execLockLost_good {q : Kept} (p : Nat) (l : Nat) {s : State} (h : Good q s) (w_regs : q.keep .regs = false := by assumption) (w_pages : q.keep .pages = false := by assumption) (w_msgs : q.keep .msgs = false := by assumption) (w_faultLog : q.keep .faultLog = false := by assumption) (w_work : q.keep .work = false := by assumption) (w_link : q.keep .link = false := by assumption) (w_freeCtr : q.keep .freeCtr = false := by assumption) : GoodO q (Sys2Proof.Machine.execLockLost p l s) := by
  unfold Sys2Proof.Machine.execLockLost
  repeat' first
    | with_reducible assumption
    | with_reducible apply goodO_next
    | intro _
    | with_reducible apply State_set_good
    | with_reducible apply event_good
    | with_reducible apply State_fault_good
    | with_reducible apply State_linkDown_good
    | with_reducible apply good_foldl
    | with_reducible apply good_foldl_fst
    | split

theorem execLaneAdd_good {q : Kept} (fn : Nat) (p : Nat) (l : Nat) {s : State} (h : Good q s) (w_regs : q.keep .regs = false := by assumption) (w_pages : q.keep .pages = false := by assumption) (w_msgs : q.keep .msgs = false := by assumption) (w_link : q.keep .link = false := by assumption) : GoodO q (Sys2Proof.Machine.execLaneAdd fn p l s) := by
  unfold Sys2Proof.Machine.execLaneAdd
  repeat' first
    | with_reducible assumption
    | with_reducible apply goodO_next
    | intro _
    | with_reducible apply State_flag_good
    | with_reducible apply State_refuseWrite_good
    | with_reducible apply mmio_good
    | with_reducible apply State_setPort_good
    | with_reducible apply good_foldl
    | with_reducible apply good_foldl_fst
    | split

theorem execLaneAddDone_good {q : Kept} (p : Nat) (ok : Bool) {s : State} (h : Good q s) (w_regs : q.keep .regs = false := by assumption) (w_pages : q.keep .pages = false := by assumption) (w_msgs : q.keep .msgs = false := by assumption) (w_link : q.keep .link = false := by assumption) : GoodO q (Sys2Proof.Machine.execLaneAddDone p ok s) := by
  unfold Sys2Proof.Machine.execLaneAddDone
  repeat' first
    | with_reducible assumption
    | with_reducible apply goodO_next
    | intro _
    | with_reducible apply State_set_good
    | with_reducible apply State_flag_good
    | with_reducible apply State_raise_good
    | with_reducible apply State_setPort_good
    | with_reducible apply State_enqueueMsg_good
    | with_reducible apply portEvent_good
    | with_reducible apply good_foldl
    | with_reducible apply good_foldl_fst
    | split

theorem execLaneRemove_good {q : Kept} (fn : Nat) (p : Nat) (l : Nat) {s : State} (h : Good q s) (w_regs : q.keep .regs = false := by assumption) (w_pages : q.keep .pages = false := by assumption) (w_msgs : q.keep .msgs = false := by assumption) (w_link : q.keep .link = false := by assumption) : GoodO q (Sys2Proof.Machine.execLaneRemove fn p l s) := by
  unfold Sys2Proof.Machine.execLaneRemove
  repeat' first
    | with_reducible assumption
    | with_reducible apply goodO_next
    | intro _
    | with_reducible apply State_flag_good
    | with_reducible apply State_refuseWrite_good
    | with_reducible apply mmio_good
    | with_reducible apply State_enqueueMsg_good
    | with_reducible apply good_foldl
    | with_reducible apply good_foldl_fst
    | split
    | with_reducible refine good_fst (by assumption) ?_
    | with_reducible refine good_snd (by assumption) ?_
    | with_reducible refine good_snd2 (by assumption) ?_
    | dsimp only

theorem execLaneFecWindow_good {q : Kept} (p : Nat) (counts : List Nat) {s : State} (h : Good q s) (w_regs : q.keep .regs = false := by assumption) (w_pages : q.keep .pages = false := by assumption) (w_msgs : q.keep .msgs = false := by assumption) (w_faultLog : q.keep .faultLog = false := by assumption) : GoodO q (Sys2Proof.Machine.execLaneFecWindow p counts s) := by
  unfold Sys2Proof.Machine.execLaneFecWindow
  repeat' first
    | with_reducible assumption
    | with_reducible apply goodO_next
    | intro _
    | with_reducible apply State_add_good
    | with_reducible apply State_raise_good
    | with_reducible apply event_good
    | with_reducible apply State_fault_good
    | with_reducible apply good_foldl
    | with_reducible apply good_foldl_fst
    | split

theorem execPortKeyLoad_good {q : Kept} (fn : Nat) (p : Nat) {s : State} (h : Good q s) (w_regs : q.keep .regs = false := by assumption) (w_pages : q.keep .pages = false := by assumption) (w_msgs : q.keep .msgs = false := by assumption) (w_faultLog : q.keep .faultLog = false := by assumption) (w_sluice : q.keep .sluice = false := by assumption) (w_link : q.keep .link = false := by assumption) (w_held : q.keep .held = false := by assumption) : GoodO q (Sys2Proof.Machine.execPortKeyLoad fn p s) := by
  unfold Sys2Proof.Machine.execPortKeyLoad
  repeat' first
    | with_reducible assumption
    | with_reducible apply goodO_next
    | intro _
    | with_reducible apply State_setPort_good
    | with_reducible apply State_slotBroken_good
    | with_reducible apply mmio_good
    | with_reducible apply State_refuseWrite_good
    | with_reducible apply State_capture_good
    | with_reducible apply State_hold_good
    | with_reducible apply State_flag_good
    | with_reducible apply good_foldl
    | with_reducible apply good_foldl_fst
    | split
    | with_reducible refine good_fst (by assumption) ?_
    | with_reducible refine good_snd (by assumption) ?_
    | with_reducible refine good_snd2 (by assumption) ?_
    | dsimp only

theorem execPortKeyDone_good {q : Kept} (p : Nat) {s : State} (h : Good q s) (w_regs : q.keep .regs = false := by assumption) (w_pages : q.keep .pages = false := by assumption) (w_msgs : q.keep .msgs = false := by assumption) (w_link : q.keep .link = false := by assumption) : GoodO q (Sys2Proof.Machine.execPortKeyDone p s) := by
  unfold Sys2Proof.Machine.execPortKeyDone
  repeat' first
    | with_reducible assumption
    | with_reducible apply goodO_next
    | intro _
    | with_reducible apply State_flag_good
    | with_reducible apply State_raise_good
    | with_reducible apply event_good
    | with_reducible apply State_setPort_good
    | with_reducible apply good_foldl
    | with_reducible apply good_foldl_fst
    | split

theorem execPortRekey_good {q : Kept} (fn : Nat) (p : Nat) {s : State} (h : Good q s) (w_regs : q.keep .regs = false := by assumption) (w_pages : q.keep .pages = false := by assumption) (w_msgs : q.keep .msgs = false := by assumption) (w_link : q.keep .link = false := by assumption) : GoodO q (Sys2Proof.Machine.execPortRekey fn p s) := by
  unfold Sys2Proof.Machine.execPortRekey
  repeat' first
    | with_reducible assumption
    | with_reducible apply goodO_next
    | intro _
    | with_reducible apply State_refuseWrite_good
    | with_reducible apply mmio_good
    | with_reducible apply State_enqueueMsg_good
    | with_reducible apply good_foldl
    | with_reducible apply good_foldl_fst
    | split

theorem execDigestUpdate_good {q : Kept} (fn : Nat) {s : State} (h : Good q s) (w_regs : q.keep .regs = false := by assumption) (w_pages : q.keep .pages = false := by assumption) (w_msgs : q.keep .msgs = false := by assumption) (w_link : q.keep .link = false := by assumption) (w_held : q.keep .held = false := by assumption) : GoodO q (Sys2Proof.Machine.execDigestUpdate fn s) := by
  unfold Sys2Proof.Machine.execDigestUpdate
  repeat' first
    | with_reducible assumption
    | with_reducible apply goodO_next
    | intro _
    | with_reducible apply mmio_good
    | with_reducible apply State_hold_good
    | with_reducible apply good_foldl
    | with_reducible apply good_foldl_fst
    | split
    | with_reducible refine good_fst (by assumption) ?_
    | with_reducible refine good_snd (by assumption) ?_
    | with_reducible refine good_snd2 (by assumption) ?_
    | dsimp only
    | with_reducible refine good_mk (t := _) ?_ rfl rfl rfl rfl rfl rfl rfl rfl

theorem execDigestDone_good {q : Kept} {s : State} (h : Good q s) (w_regs : q.keep .regs = false := by assumption) (w_pages : q.keep .pages = false := by assumption) (w_msgs : q.keep .msgs = false := by assumption) (w_link : q.keep .link = false := by assumption) : GoodO q (Sys2Proof.Machine.execDigestDone s) := by
  unfold Sys2Proof.Machine.execDigestDone
  repeat' first
    | with_reducible assumption
    | with_reducible apply goodO_next
    | intro _
    | with_reducible apply State_set_good
    | with_reducible apply State_flag_good
    | with_reducible apply State_raise_good
    | with_reducible apply event_good
    | with_reducible apply State_groupRefresh_good
    | with_reducible apply good_foldl
    | with_reducible apply good_foldl_fst
    | split
    | with_reducible refine good_fst (by assumption) ?_
    | with_reducible refine good_snd (by assumption) ?_
    | with_reducible refine good_snd2 (by assumption) ?_
    | dsimp only
    | with_reducible refine good_mk (t := _) ?_ rfl rfl rfl rfl rfl rfl rfl rfl

theorem execEpochArm_good {q : Kept} (fn : Nat) {s : State} (h : Good q s) (w_regs : q.keep .regs = false := by assumption) (w_pages : q.keep .pages = false := by assumption) (w_msgs : q.keep .msgs = false := by assumption) (w_link : q.keep .link = false := by assumption) : GoodO q (Sys2Proof.Machine.execEpochArm fn s) := by
  unfold Sys2Proof.Machine.execEpochArm
  repeat' first
    | with_reducible assumption
    | with_reducible apply goodO_next
    | intro _
    | with_reducible apply State_flag_good
    | with_reducible apply State_refuseWrite_good
    | with_reducible apply mmio_good
    | with_reducible apply State_epochTick_good
    | with_reducible apply good_foldl
    | with_reducible apply good_foldl_fst
    | split
    | with_reducible refine good_fst (by assumption) ?_
    | with_reducible refine good_snd (by assumption) ?_
    | with_reducible refine good_snd2 (by assumption) ?_
    | dsimp only
    | with_reducible refine good_mk (t := _) ?_ rfl rfl rfl rfl rfl rfl rfl rfl

theorem execEpochDisarm_good {q : Kept} (fn : Nat) {s : State} (h : Good q s) (w_regs : q.keep .regs = false := by assumption) (w_pages : q.keep .pages = false := by assumption) (w_msgs : q.keep .msgs = false := by assumption) (w_link : q.keep .link = false := by assumption) : GoodO q (Sys2Proof.Machine.execEpochDisarm fn s) := by
  unfold Sys2Proof.Machine.execEpochDisarm
  repeat' first
    | with_reducible assumption
    | with_reducible apply goodO_next
    | intro _
    | with_reducible apply State_flag_good
    | with_reducible apply mmio_good
    | with_reducible apply good_foldl
    | with_reducible apply good_foldl_fst
    | split
    | with_reducible refine good_fst (by assumption) ?_
    | with_reducible refine good_snd (by assumption) ?_
    | with_reducible refine good_snd2 (by assumption) ?_
    | dsimp only
    | with_reducible refine good_mk (t := _) ?_ rfl rfl rfl rfl rfl rfl rfl rfl

theorem execLeqPop_good {q : Kept} (fn : Nat) {s : State} (h : Good q s) (w_regs : q.keep .regs = false := by assumption) (w_pages : q.keep .pages = false := by assumption) (w_readData : q.keep .readData = false := by assumption) (w_msgs : q.keep .msgs = false := by assumption) (w_link : q.keep .link = false := by assumption) : GoodO q (Sys2Proof.Machine.execLeqPop fn s) := by
  unfold Sys2Proof.Machine.execLeqPop
  repeat' first
    | with_reducible assumption
    | with_reducible apply goodO_next
    | intro _
    | with_reducible apply State_set_good
    | with_reducible apply mmioRead_good
    | with_reducible apply good_foldl
    | with_reducible apply good_foldl_fst
    | split
    | with_reducible refine good_fst (by assumption) ?_
    | with_reducible refine good_snd (by assumption) ?_
    | with_reducible refine good_snd2 (by assumption) ?_
    | dsimp only
    | with_reducible refine good_mk (t := _) ?_ rfl rfl rfl rfl rfl rfl rfl rfl
    | with_reducible refine good_le (t := _) ?_ rfl rfl rfl rfl (by first | exact Nat.le_refl _ | exact Nat.zero_le _ | exact len_tail (by assumption)) (by first | exact Nat.le_refl _ | exact Nat.zero_le _ | exact len_tail (by assumption)) (by first | exact Nat.le_refl _ | exact Nat.zero_le _ | exact len_tail (by assumption)) (by first | exact Nat.le_refl _ | exact Nat.zero_le _ | exact len_tail (by assumption))

end Sys2Proof.Laws
end

