-- ==== Sys2Proof/Laws/KeepFlags.lean ====
section
/-!
SUPPORT. What the operations of Machine/Flags.lean keep.
-/

set_option Elab.async false

namespace Sys2Proof.Laws

open Sys2Proof.Machine

theorem State_addFlags_good {q : Kept} {s : State} (core : Nat) (ctx : Nat) (f : Nat) (h : Good q s) (w_regs : q.keep .regs = false := by assumption) : Good q (Sys2Proof.Machine.State.addFlags s core ctx f) := by
  unfold Sys2Proof.Machine.State.addFlags
  repeat' first
    | with_reducible assumption
    | with_reducible apply goodO_next
    | intro _
    | with_reducible apply State_set_good

theorem State_clearFlags_good {q : Kept} {s : State} (core : Nat) (ctx : Nat) (mask : Nat) (h : Good q s) (w_regs : q.keep .regs = false := by assumption) : Good q (Sys2Proof.Machine.State.clearFlags s core ctx mask) := by
  unfold Sys2Proof.Machine.State.clearFlags
  repeat' first
    | with_reducible assumption
    | with_reducible apply goodO_next
    | intro _
    | with_reducible apply State_set_good

end Sys2Proof.Laws
end

