-- ==== Sys2Proof/Laws/KeepArrays.lean ====
section
/-!
SUPPORT. What the operations of Machine/Arrays.lean keep.
-/

set_option Elab.async false

namespace Sys2Proof.Laws

open Sys2Proof.Machine

theorem State_setColumns_good {q : Kept} {s : State} (n : Nat) (a : Nat) (m : Nat) (h : Good q s) (w_regs : q.keep .regs = false := by assumption) : Good q (Sys2Proof.Machine.State.setColumns s n a m) := by
  unfold Sys2Proof.Machine.State.setColumns
  repeat' first
    | with_reducible assumption
    | with_reducible apply goodO_next
    | intro _
    | with_reducible apply State_set_good
    | with_reducible apply State_flag_good
    | with_reducible apply good_foldl
    | with_reducible apply good_foldl_fst
    | split

theorem State_setService_good {q : Kept} {s : State} (n : Nat) (a : Nat) (b : Bool) (h : Good q s) (w_regs : q.keep .regs = false := by assumption) : Good q (Sys2Proof.Machine.State.setService s n a b) := by
  unfold Sys2Proof.Machine.State.setService
  repeat' first
    | with_reducible assumption
    | with_reducible apply goodO_next
    | intro _
    | with_reducible apply State_set_good
    | with_reducible apply State_flag_good

theorem execShadowAdvance_good {q : Kept} (core : Nat) (array : Nat) {s : State} (h : Good q s) (w_regs : q.keep .regs = false := by assumption) : GoodO q (Sys2Proof.Machine.execShadowAdvance core array s) := by
  unfold Sys2Proof.Machine.execShadowAdvance
  repeat' first
    | with_reducible assumption
    | with_reducible apply goodO_next
    | intro _
    | with_reducible apply State_set_good
    | with_reducible apply event_good
    | with_reducible apply good_foldl
    | with_reducible apply good_foldl_fst
    | split

theorem execMaColfailWrite_good {q : Kept} (fn : Nat) (core : Nat) (array : Nat) (i : Nat) (v : Nat) {s : State} (h : Good q s) (w_regs : q.keep .regs = false := by assumption) (w_pages : q.keep .pages = false := by assumption) (w_msgs : q.keep .msgs = false := by assumption) : GoodO q (Sys2Proof.Machine.execMaColfailWrite fn core array i v s) := by
  unfold Sys2Proof.Machine.execMaColfailWrite
  repeat' first
    | with_reducible assumption
    | with_reducible apply goodO_next
    | intro _
    | with_reducible apply State_raise_good
    | with_reducible apply State_captureFn_good
    | with_reducible apply State_refuseWrite_good
    | with_reducible apply mmio_good
    | with_reducible apply State_setColumns_good
    | with_reducible apply good_foldl
    | with_reducible apply good_foldl_fst
    | split
    | with_reducible refine good_fst (by assumption) ?_
    | with_reducible refine good_snd (by assumption) ?_
    | with_reducible refine good_snd2 (by assumption) ?_
    | dsimp only

theorem execMaCntClr_good {q : Kept} (fn : Nat) (core : Nat) (array : Nat) {s : State} (h : Good q s) (w_regs : q.keep .regs = false := by assumption) (w_pages : q.keep .pages = false := by assumption) (w_msgs : q.keep .msgs = false := by assumption) (w_held : q.keep .held = false := by assumption) : GoodO q (Sys2Proof.Machine.execMaCntClr fn core array s) := by
  unfold Sys2Proof.Machine.execMaCntClr
  repeat' first
    | with_reducible assumption
    | with_reducible apply goodO_next
    | intro _
    | with_reducible apply command_good
    | with_reducible apply State_set_good

theorem execMvpCntClr_good {q : Kept} (fn : Nat) (core : Nat) {s : State} (h : Good q s) (w_regs : q.keep .regs = false := by assumption) (w_pages : q.keep .pages = false := by assumption) (w_msgs : q.keep .msgs = false := by assumption) (w_held : q.keep .held = false := by assumption) : GoodO q (Sys2Proof.Machine.execMvpCntClr fn core s) := by
  unfold Sys2Proof.Machine.execMvpCntClr
  repeat' first
    | with_reducible assumption
    | with_reducible apply goodO_next
    | intro _
    | with_reducible apply command_good
    | with_reducible apply State_set_good

theorem execVuCntClr_good {q : Kept} (fn : Nat) (core : Nat) {s : State} (h : Good q s) (w_regs : q.keep .regs = false := by assumption) (w_pages : q.keep .pages = false := by assumption) (w_msgs : q.keep .msgs = false := by assumption) (w_held : q.keep .held = false := by assumption) : GoodO q (Sys2Proof.Machine.execVuCntClr fn core s) := by
  unfold Sys2Proof.Machine.execVuCntClr
  repeat' first
    | with_reducible assumption
    | with_reducible apply goodO_next
    | intro _
    | with_reducible apply command_good
    | with_reducible apply State_set_good

end Sys2Proof.Laws
end

