-- ==== Sys2Proof/Laws/KeepOperands.lean ====
section
/-!
SUPPORT. What the operations of Machine/Operands.lean keep.
-/

set_option Elab.async false

namespace Sys2Proof.Laws

open Sys2Proof.Machine

theorem State_reedRead_good {q : Kept} {s : State} (core : Nat) (flow : Nat) (x : Cell) (off : Nat) (n : Nat) (h : Good q s) (w_regs : q.keep .regs = false := by assumption) (w_pages : q.keep .pages = false := by assumption) (w_msgs : q.keep .msgs = false := by assumption) (w_faultLog : q.keep .faultLog = false := by assumption) (w_hbm : q.keep .hbm = false := by assumption) (w_caches : q.keep .caches = false := by assumption) (w_mem : q.keep .mem = false := by assumption) (w_freeCtr : q.keep .freeCtr = false := by assumption) : Good q (Sys2Proof.Machine.State.reedRead s core flow x off n).1 := by
  unfold Sys2Proof.Machine.State.reedRead
  repeat' first
    | with_reducible assumption
    | with_reducible apply goodO_next
    | intro _
    | with_reducible apply State_hbmRead_good

theorem State_readRow_good {q : Kept} {s : State} (core : Nat) (r : Running) (sp : Nat) (addr : Nat) (n : Nat) (h : Good q s) (w_regs : q.keep .regs = false := by assumption) (w_pages : q.keep .pages = false := by assumption) (w_msgs : q.keep .msgs = false := by assumption) (w_faultLog : q.keep .faultLog = false := by assumption) (w_hbm : q.keep .hbm = false := by assumption) (w_caches : q.keep .caches = false := by assumption) (w_mem : q.keep .mem = false := by assumption) (w_freeCtr : q.keep .freeCtr = false := by assumption) : Good q (Sys2Proof.Machine.State.readRow s core r sp addr n).1 := by
  unfold Sys2Proof.Machine.State.readRow
  repeat' first
    | with_reducible assumption
    | with_reducible apply goodO_next
    | intro _
    | with_reducible apply State_reedRead_good
    | with_reducible apply State_hbmRead_good
    | with_reducible apply State_storeRead_good
    | with_reducible apply good_foldl
    | with_reducible apply good_foldl_fst
    | split

theorem State_readRowsFrom_good {q : Kept} (r0 : Nat) (w_regs : q.keep .regs = false := by assumption) (w_pages : q.keep .pages = false := by assumption) (w_msgs : q.keep .msgs = false := by assumption) (w_faultLog : q.keep .faultLog = false := by assumption) (w_hbm : q.keep .hbm = false := by assumption) (w_caches : q.keep .caches = false := by assumption) (w_mem : q.keep .mem = false := by assumption) (w_freeCtr : q.keep .freeCtr = false := by assumption) : ∀ (s : State) (core : Nat) (r : Running) (o : Operand) (base : Nat) (r1 : Nat), Good q s → Good q (Sys2Proof.Machine.State.readRowsFrom s core r o base r0 r1).1 := by
  induction r0 with
  | zero =>
    intro s core r o base r1 h
    unfold Sys2Proof.Machine.State.readRowsFrom
    repeat' first
      | with_reducible assumption
  | succ n ih =>
    intro s core r o base r1 h
    unfold Sys2Proof.Machine.State.readRowsFrom
    repeat' first
      | with_reducible assumption
      | with_reducible apply goodO_next
      | intro _
      | with_reducible apply ih
      | with_reducible apply State_readRow_good
      | with_reducible apply good_foldl
      | with_reducible apply good_foldl_fst
      | split
      | with_reducible refine good_fst (by assumption) ?_

theorem State_readRows_good {q : Kept} {s : State} (core : Nat) (r : Running) (o : Operand) (base : Nat) (h : Good q s) (w_regs : q.keep .regs = false := by assumption) (w_pages : q.keep .pages = false := by assumption) (w_msgs : q.keep .msgs = false := by assumption) (w_faultLog : q.keep .faultLog = false := by assumption) (w_hbm : q.keep .hbm = false := by assumption) (w_caches : q.keep .caches = false := by assumption) (w_mem : q.keep .mem = false := by assumption) (w_freeCtr : q.keep .freeCtr = false := by assumption) : Good q (Sys2Proof.Machine.State.readRows s core r o base).1 := by
  unfold Sys2Proof.Machine.State.readRows
  repeat' first
    | with_reducible assumption
    | with_reducible apply goodO_next
    | intro _
    | with_reducible apply State_readRowsFrom_good
    | with_reducible apply good_foldl
    | with_reducible apply good_foldl_fst
    | split

theorem State_readOperands_good {q : Kept} (r0 : List (Operand × Nat)) (w_regs : q.keep .regs = false := by assumption) (w_pages : q.keep .pages = false := by assumption) (w_msgs : q.keep .msgs = false := by assumption) (w_faultLog : q.keep .faultLog = false := by assumption) (w_hbm : q.keep .hbm = false := by assumption) (w_caches : q.keep .caches = false := by assumption) (w_mem : q.keep .mem = false := by assumption) (w_freeCtr : q.keep .freeCtr = false := by assumption) : ∀ (s : State) (core : Nat) (r : Running), Good q s → Good q (Sys2Proof.Machine.State.readOperands s core r r0).1 := by
  induction r0 with
  | nil =>
    intro s core r h
    unfold Sys2Proof.Machine.State.readOperands
    repeat' first
      | with_reducible assumption
  | cons a as ih =>
    intro s core r h
    unfold Sys2Proof.Machine.State.readOperands
    repeat' first
      | with_reducible assumption
      | with_reducible apply goodO_next
      | intro _
      | with_reducible apply ih
      | with_reducible apply State_readRows_good
      | with_reducible apply good_foldl
      | with_reducible apply good_foldl_fst
      | split
      | with_reducible refine good_fst (by assumption) ?_

theorem State_reedWrite_good {q : Kept} {s : State} (core : Nat) (r : Running) (c : Nat) (off : Nat) (bs : List Byte) (h : Good q s) (w_regs : q.keep .regs = false := by assumption) (w_pages : q.keep .pages = false := by assumption) (w_msgs : q.keep .msgs = false := by assumption) (w_faultLog : q.keep .faultLog = false := by assumption) (w_hbm : q.keep .hbm = false := by assumption) (w_caches : q.keep .caches = false := by assumption) (w_mem : q.keep .mem = false := by assumption) (w_work : q.keep .work = false := by assumption) (w_freeCtr : q.keep .freeCtr = false := by assumption) : Good q (Sys2Proof.Machine.State.reedWrite s core r c off bs).1 := by
  unfold Sys2Proof.Machine.State.reedWrite
  repeat' first
    | with_reducible assumption
    | with_reducible apply goodO_next
    | intro _
    | with_reducible apply State_setCell_good
    | with_reducible apply State_hbmWrite_good
    | with_reducible apply good_foldl
    | with_reducible apply good_foldl_fst
    | split

theorem State_writeRow_good {q : Kept} {s : State} (core : Nat) (r : Running) (sp : Nat) (addr : Nat) (bs : List Byte) (h : Good q s) (w_regs : q.keep .regs = false := by assumption) (w_pages : q.keep .pages = false := by assumption) (w_msgs : q.keep .msgs = false := by assumption) (w_host : q.keep .host = false := by assumption) (w_faultLog : q.keep .faultLog = false := by assumption) (w_ws : q.keep .ws = false := by assumption) (w_act : q.keep .act = false := by assumption) (w_hbm : q.keep .hbm = false := by assumption) (w_caches : q.keep .caches = false := by assumption) (w_mem : q.keep .mem = false := by assumption) (w_work : q.keep .work = false := by assumption) (w_link : q.keep .link = false := by assumption) (w_freeCtr : q.keep .freeCtr = false := by assumption) : Good q (Sys2Proof.Machine.State.writeRow s core r sp addr bs).1 := by
  unfold Sys2Proof.Machine.State.writeRow
  repeat' first
    | with_reducible assumption
    | with_reducible apply goodO_next
    | intro _
    | with_reducible apply State_storeWrite_good
    | with_reducible apply State_hbmWrite_good
    | with_reducible apply State_hostWrite_good
    | with_reducible apply State_linkWrites_good
    | with_reducible apply State_reedWrite_good
    | with_reducible apply good_foldl
    | with_reducible apply good_foldl_fst
    | split
    | with_reducible refine good_fst (by assumption) ?_
    | with_reducible refine good_snd (by assumption) ?_
    | with_reducible refine good_snd2 (by assumption) ?_
    | dsimp only

theorem State_writeAll_good {q : Kept} {s : State} (core : Nat) (r : Running) (ws : List (Nat × Nat × List Byte)) (h : Good q s) (w_regs : q.keep .regs = false := by assumption) (w_pages : q.keep .pages = false := by assumption) (w_msgs : q.keep .msgs = false := by assumption) (w_host : q.keep .host = false := by assumption) (w_faultLog : q.keep .faultLog = false := by assumption) (w_ws : q.keep .ws = false := by assumption) (w_act : q.keep .act = false := by assumption) (w_hbm : q.keep .hbm = false := by assumption) (w_caches : q.keep .caches = false := by assumption) (w_mem : q.keep .mem = false := by assumption) (w_work : q.keep .work = false := by assumption) (w_link : q.keep .link = false := by assumption) (w_freeCtr : q.keep .freeCtr = false := by assumption) : Good q (Sys2Proof.Machine.State.writeAll s core r ws).1 := by
  unfold Sys2Proof.Machine.State.writeAll
  repeat' first
    | with_reducible assumption
    | with_reducible apply goodO_next
    | intro _
    | with_reducible apply State_writeRow_good
    | with_reducible apply good_foldl
    | with_reducible apply good_foldl_fst

end Sys2Proof.Laws
end

