-- ==== Sys2Proof/Laws/KeepStepWords.lean ====
section
/-!
SUPPORT. What the operations of Machine/StepWords.lean keep.
-/

set_option Elab.async false

namespace Sys2Proof.Laws

open Sys2Proof.Machine

theorem State_imageRead_good {q : Kept} {s : State} (fn : Nat) (addr : Nat) (n : Nat) (h : Good q s) (w_regs : q.keep .regs = false := by assumption) (w_pages : q.keep .pages = false := by assumption) (w_msgs : q.keep .msgs = false := by assumption) (w_faultLog : q.keep .faultLog = false := by assumption) (w_hbm : q.keep .hbm = false := by assumption) (w_caches : q.keep .caches = false := by assumption) (w_mem : q.keep .mem = false := by assumption) (w_freeCtr : q.keep .freeCtr = false := by assumption) : Good q (Sys2Proof.Machine.State.imageRead s fn addr n).1 := by
  unfold Sys2Proof.Machine.State.imageRead
  repeat' first
    | with_reducible assumption
    | with_reducible apply goodO_next
    | intro _
    | with_reducible apply State_engineRead_good

theorem State_setStepGroups_good {q : Kept} {s : State} (core : Nat) (l : List StepGroup) (h : Good q s) (w_work : q.keep .work = false := by assumption) : Good q (Sys2Proof.Machine.State.setStepGroups s core l) := by
  unfold Sys2Proof.Machine.State.setStepGroups
  repeat' first
    | with_reducible assumption
    | with_reducible apply goodO_next
    | intro _
    | with_reducible apply good_foldl
    | with_reducible apply good_foldl_fst
    | split
    | with_reducible refine good_fst (by assumption) ?_
    | with_reducible refine good_snd (by assumption) ?_
    | with_reducible refine good_snd2 (by assumption) ?_
    | dsimp only
    | with_reducible refine good_mk (t := _) ?_ rfl rfl rfl rfl rfl rfl rfl rfl

theorem State_bufferGroup_good {q : Kept} {s : State} (core : Nat) (g : StepGroup) (h : Good q s) (w_work : q.keep .work = false := by assumption) : Good q (Sys2Proof.Machine.State.bufferGroup s core g) := by
  unfold Sys2Proof.Machine.State.bufferGroup
  repeat' first
    | with_reducible assumption
    | with_reducible apply goodO_next
    | intro _
    | with_reducible apply State_setStepGroups_good

theorem State_dropGroups_good {q : Kept} {s : State} (core : Nat) (ctx : Nat) (h : Good q s) (w_work : q.keep .work = false := by assumption) : Good q (Sys2Proof.Machine.State.dropGroups s core ctx) := by
  unfold Sys2Proof.Machine.State.dropGroups
  repeat' first
    | with_reducible assumption
    | with_reducible apply goodO_next
    | intro _
    | with_reducible apply State_setStepGroups_good

theorem State_stepAt_good {q : Kept} {s : State} (core : Nat) (ctx : Nat) (i : Image) (k : Nat) (h : Good q s) (w_regs : q.keep .regs = false := by assumption) (w_pages : q.keep .pages = false := by assumption) (w_msgs : q.keep .msgs = false := by assumption) (w_faultLog : q.keep .faultLog = false := by assumption) (w_hbm : q.keep .hbm = false := by assumption) (w_caches : q.keep .caches = false := by assumption) (w_mem : q.keep .mem = false := by assumption) (w_work : q.keep .work = false := by assumption) (w_freeCtr : q.keep .freeCtr = false := by assumption) : Good q (Sys2Proof.Machine.State.stepAt s core ctx i k).1 := by
  unfold Sys2Proof.Machine.State.stepAt
  repeat' first
    | with_reducible assumption
    | with_reducible apply goodO_next
    | intro _
    | with_reducible apply State_bufferGroup_good
    | with_reducible apply State_imageRead_good
    | with_reducible apply good_foldl
    | with_reducible apply good_foldl_fst
    | split
    | with_reducible refine good_fst (by assumption) ?_

theorem State_stepRead_good {q : Kept} {s : State} (core : Nat) (slot : Nat) (ctx : Nat) (k : Nat) (h : Good q s) (w_regs : q.keep .regs = false := by assumption) (w_pages : q.keep .pages = false := by assumption) (w_msgs : q.keep .msgs = false := by assumption) (w_faultLog : q.keep .faultLog = false := by assumption) (w_hbm : q.keep .hbm = false := by assumption) (w_caches : q.keep .caches = false := by assumption) (w_mem : q.keep .mem = false := by assumption) (w_work : q.keep .work = false := by assumption) (w_freeCtr : q.keep .freeCtr = false := by assumption) : Good q (Sys2Proof.Machine.State.stepRead s core slot ctx k).1 := by
  unfold Sys2Proof.Machine.State.stepRead
  repeat' first
    | with_reducible assumption
    | with_reducible apply goodO_next
    | intro _
    | with_reducible apply State_stepAt_good
    | with_reducible apply State_drawFree_good
    | with_reducible apply good_foldl
    | with_reducible apply good_foldl_fst
    | split
    | with_reducible refine good_fst (by assumption) ?_

end Sys2Proof.Laws
end

