-- ==== Sys2Proof/Laws/KeepSteps.lean ====
section
/-!
SUPPORT. What the operations of Machine/Steps.lean keep.
-/

set_option Elab.async false

namespace Sys2Proof.Laws

open Sys2Proof.Machine

theorem State_mapRunning_good {q : Kept} {s : State} (core : Nat) (slot : Nat) (f : Running → Running) (h : Good q s) (w_work : q.keep .work = false := by assumption) : Good q (Sys2Proof.Machine.State.mapRunning s core slot f) := by
  unfold Sys2Proof.Machine.State.mapRunning
  repeat' first
    | with_reducible assumption
    | with_reducible apply goodO_next
    | intro _
    | with_reducible apply State_setRunning_good
    | with_reducible apply good_foldl
    | with_reducible apply good_foldl_fst
    | split

theorem State_setEntry_good {q : Kept} {s : State} (core : Nat) (slot : Nat) (e : Entry) (h : Good q s) (w_work : q.keep .work = false := by assumption) : Good q (Sys2Proof.Machine.State.setEntry s core slot e) := by
  unfold Sys2Proof.Machine.State.setEntry
  repeat' first
    | with_reducible assumption
    | with_reducible apply goodO_next
    | intro _
    | with_reducible apply State_mapRunning_good

theorem State_rehome_good {q : Kept} {s : State} (core : Nat) (h : Good q s) (w_work : q.keep .work = false := by assumption) : Good q (Sys2Proof.Machine.State.rehome s core) := by
  unfold Sys2Proof.Machine.State.rehome
  repeat' first
    | with_reducible assumption
    | with_reducible apply goodO_next
    | intro _
    | with_reducible apply State_mapRunning_good
    | with_reducible apply good_foldl

theorem State_slotRefresh_good {q : Kept} {s : State} (core : Nat) (slot : Nat) (h : Good q s) (w_regs : q.keep .regs = false := by assumption) : Good q (Sys2Proof.Machine.State.slotRefresh s core slot) := by
  unfold Sys2Proof.Machine.State.slotRefresh
  repeat' first
    | with_reducible assumption
    | with_reducible apply goodO_next
    | intro _
    | with_reducible apply State_set_good
    | with_reducible apply good_foldl
    | with_reducible apply good_foldl_fst
    | split

theorem State_taskEnds_good {q : Kept} {s : State} (core : Nat) (slot : Nat) (r : Running) (st : Status) (f : Option StepFail) (h : Good q s) (w_regs : q.keep .regs = false := by assumption) (w_pages : q.keep .pages = false := by assumption) (w_msgs : q.keep .msgs = false := by assumption) (w_work : q.keep .work = false := by assumption) (w_link : q.keep .link = false := by assumption) (w_freeCtr : q.keep .freeCtr = false := by assumption) : Good q (Sys2Proof.Machine.State.taskEnds s core slot r st f) := by
  unfold Sys2Proof.Machine.State.taskEnds
  repeat' first
    | with_reducible assumption
    | with_reducible apply goodO_next
    | intro _
    | with_reducible apply State_slotRefresh_good
    | with_reducible apply State_taskFail_good
    | with_reducible apply State_setRunning_good
    | with_reducible apply State_flowEnds_good
    | with_reducible apply State_drawFree_good
    | with_reducible apply State_set_good
    | with_reducible apply good_foldl
    | with_reducible apply good_foldl_fst
    | split

theorem State_endCheck_good {q : Kept} {s : State} (core : Nat) (slot : Nat) (h : Good q s) (w_regs : q.keep .regs = false := by assumption) (w_pages : q.keep .pages = false := by assumption) (w_msgs : q.keep .msgs = false := by assumption) (w_work : q.keep .work = false := by assumption) (w_link : q.keep .link = false := by assumption) (w_freeCtr : q.keep .freeCtr = false := by assumption) : Good q (Sys2Proof.Machine.State.endCheck s core slot) := by
  unfold Sys2Proof.Machine.State.endCheck
  repeat' first
    | with_reducible assumption
    | with_reducible apply goodO_next
    | intro _
    | with_reducible apply State_taskEnds_good
    | with_reducible apply State_slotRefresh_good
    | with_reducible apply good_foldl
    | with_reducible apply good_foldl_fst
    | split

theorem State_countArrays_good {q : Kept} {s : State} (core : Nat) (e : Entry) (m : MatmulStep) (stop : Option StepPos) (h : Good q s) (w_regs : q.keep .regs = false := by assumption) : Good q (Sys2Proof.Machine.State.countArrays s core e m stop) := by
  unfold Sys2Proof.Machine.State.countArrays
  repeat' first
    | with_reducible assumption
    | with_reducible apply goodO_next
    | intro _
    | with_reducible apply State_add_good
    | with_reducible apply good_foldl

theorem State_countStep_good {q : Kept} {s : State} (core : Nat) (e : Entry) (stop : Option StepPos) (h : Good q s) (w_regs : q.keep .regs = false := by assumption) : Good q (Sys2Proof.Machine.State.countStep s core e stop) := by
  unfold Sys2Proof.Machine.State.countStep
  repeat' first
    | with_reducible assumption
    | with_reducible apply goodO_next
    | intro _
    | with_reducible apply State_add_good
    | with_reducible apply State_countArrays_good
    | with_reducible apply good_foldl
    | with_reducible apply good_foldl_fst
    | split

theorem State_countAbandoned_good {q : Kept} {s : State} (core : Nat) (e : Entry) (h : Good q s) (w_regs : q.keep .regs = false := by assumption) (w_freeCtr : q.keep .freeCtr = false := by assumption) : Good q (Sys2Proof.Machine.State.countAbandoned s core e) := by
  unfold Sys2Proof.Machine.State.countAbandoned
  repeat' first
    | with_reducible assumption
    | with_reducible apply goodO_next
    | intro _
    | with_reducible apply State_add_good
    | with_reducible apply State_drawFree_good
    | with_reducible apply good_foldl
    | with_reducible apply good_foldl_fst
    | split

theorem State_abandonClaims_good {q : Kept} {s : State} (core : Nat) (e : Entry) (h : Good q s) (w_mem : q.keep .mem = false := by assumption) : Good q (Sys2Proof.Machine.State.abandonClaims s core e) := by
  unfold Sys2Proof.Machine.State.abandonClaims
  repeat' first
    | with_reducible assumption
    | with_reducible apply goodO_next
    | intro _
    | with_reducible apply State_dropClaims_good
    | with_reducible apply good_foldl
    | with_reducible apply good_foldl_fst
    | split

theorem State_countLost_good {q : Kept} {s : State} (core : Nat) (l : List Entry) (h : Good q s) (w_regs : q.keep .regs = false := by assumption) (w_mem : q.keep .mem = false := by assumption) (w_freeCtr : q.keep .freeCtr = false := by assumption) : Good q (Sys2Proof.Machine.State.countLost s core l) := by
  unfold Sys2Proof.Machine.State.countLost
  repeat' first
    | with_reducible assumption
    | with_reducible apply goodO_next
    | intro _
    | with_reducible apply State_abandonClaims_good
    | with_reducible apply State_countAbandoned_good
    | with_reducible apply good_foldl

theorem State_stepDone_good {q : Kept} {s : State} (core : Nat) (slot : Nat) (r : Running) (e : Entry) (st : Status) (h : Good q s) (w_regs : q.keep .regs = false := by assumption) (w_pages : q.keep .pages = false := by assumption) (w_msgs : q.keep .msgs = false := by assumption) (w_mem : q.keep .mem = false := by assumption) (w_sync : q.keep .sync = false := by assumption) (w_work : q.keep .work = false := by assumption) (w_link : q.keep .link = false := by assumption) (w_freeCtr : q.keep .freeCtr = false := by assumption) : Good q (Sys2Proof.Machine.State.stepDone s core slot r e st) := by
  unfold Sys2Proof.Machine.State.stepDone
  repeat' first
    | with_reducible assumption
    | with_reducible apply goodO_next
    | intro _
    | with_reducible apply State_countLost_good
    | with_reducible apply State_abandonClaims_good
    | with_reducible apply State_countStep_good
    | with_reducible apply State_endCheck_good
    | with_reducible apply State_mapRunning_good
    | with_reducible apply State_addFlags_good
    | with_reducible apply State_ctrOp_good
    | with_reducible apply good_foldl
    | with_reducible apply good_foldl_fst
    | split

theorem State_complete_good {q : Kept} {s : State} (core : Nat) (slot : Nat) (r : Running) (e : Entry) (h : Good q s) (w_regs : q.keep .regs = false := by assumption) (w_pages : q.keep .pages = false := by assumption) (w_msgs : q.keep .msgs = false := by assumption) (w_host : q.keep .host = false := by assumption) (w_faultLog : q.keep .faultLog = false := by assumption) (w_ws : q.keep .ws = false := by assumption) (w_act : q.keep .act = false := by assumption) (w_hbm : q.keep .hbm = false := by assumption) (w_caches : q.keep .caches = false := by assumption) (w_mem : q.keep .mem = false := by assumption) (w_sync : q.keep .sync = false := by assumption) (w_work : q.keep .work = false := by assumption) (w_link : q.keep .link = false := by assumption) (w_freeCtr : q.keep .freeCtr = false := by assumption) : Good q (Sys2Proof.Machine.State.complete s core slot r e) := by
  unfold Sys2Proof.Machine.State.complete
  repeat' first
    | with_reducible assumption
    | with_reducible apply goodO_next
    | intro _
    | with_reducible apply State_hostReadStart_good
    | with_reducible apply State_writeAll_good
    | with_reducible apply State_setEntry_good
    | with_reducible apply State_stepDone_good
    | with_reducible apply good_foldl
    | with_reducible apply good_foldl_fst
    | split
    | with_reducible refine good_fst (by assumption) ?_
    | with_reducible refine good_snd (by assumption) ?_
    | with_reducible refine good_snd2 (by assumption) ?_
    | dsimp only

theorem State_tryComplete_good {q : Kept} {s : State} (core : Nat) (slot : Nat) (seq : Nat) (h : Good q s) (w_regs : q.keep .regs = false := by assumption) (w_pages : q.keep .pages = false := by assumption) (w_msgs : q.keep .msgs = false := by assumption) (w_host : q.keep .host = false := by assumption) (w_faultLog : q.keep .faultLog = false := by assumption) (w_ws : q.keep .ws = false := by assumption) (w_act : q.keep .act = false := by assumption) (w_hbm : q.keep .hbm = false := by assumption) (w_caches : q.keep .caches = false := by assumption) (w_mem : q.keep .mem = false := by assumption) (w_sync : q.keep .sync = false := by assumption) (w_work : q.keep .work = false := by assumption) (w_link : q.keep .link = false := by assumption) (w_freeCtr : q.keep .freeCtr = false := by assumption) : Good q (Sys2Proof.Machine.State.tryComplete s core slot seq) := by
  unfold Sys2Proof.Machine.State.tryComplete
  repeat' first
    | with_reducible assumption
    | with_reducible apply goodO_next
    | intro _
    | with_reducible apply State_complete_good
    | with_reducible apply good_foldl
    | with_reducible apply good_foldl_fst
    | split

theorem State_ran_good {q : Kept} {s : State} (core : Nat) (slot : Nat) (e : Entry) (st : Status) (flags : Nat) (ws : List (Nat × Nat × List Byte)) (h : Good q s) (w_work : q.keep .work = false := by assumption) : Good q (Sys2Proof.Machine.State.ran s core slot e st flags ws) := by
  unfold Sys2Proof.Machine.State.ran
  repeat' first
    | with_reducible assumption
    | with_reducible apply goodO_next
    | intro _
    | with_reducible apply State_setEntry_good

theorem State_blockStep_good {q : Kept} {s : State} (core : Nat) (slot : Nat) (e : Entry) (h : Good q s) (w_work : q.keep .work = false := by assumption) : Good q (Sys2Proof.Machine.State.blockStep s core slot e) := by
  unfold Sys2Proof.Machine.State.blockStep
  repeat' first
    | with_reducible assumption
    | with_reducible apply goodO_next
    | intro _
    | with_reducible apply State_setEntry_good

theorem State_copied_good {q : Kept} {s : State} (core : Nat) (slot : Nat) (e : Entry) (rows : List (List Byte)) (h : Good q s) (w_work : q.keep .work = false := by assumption) : Good q (Sys2Proof.Machine.State.copied s core slot e rows) := by
  unfold Sys2Proof.Machine.State.copied
  repeat' first
    | with_reducible assumption
    | with_reducible apply goodO_next
    | intro _
    | with_reducible apply State_ran_good
    | with_reducible apply good_foldl
    | with_reducible apply good_foldl_fst
    | split

theorem State_copyStep_good {q : Kept} {s : State} (core : Nat) (slot : Nat) (r : Running) (e : Entry) (h : Good q s) (w_regs : q.keep .regs = false := by assumption) (w_pages : q.keep .pages = false := by assumption) (w_msgs : q.keep .msgs = false := by assumption) (w_faultLog : q.keep .faultLog = false := by assumption) (w_hbm : q.keep .hbm = false := by assumption) (w_caches : q.keep .caches = false := by assumption) (w_mem : q.keep .mem = false := by assumption) (w_work : q.keep .work = false := by assumption) (w_freeCtr : q.keep .freeCtr = false := by assumption) : Good q (Sys2Proof.Machine.State.copyStep s core slot r e) := by
  unfold Sys2Proof.Machine.State.copyStep
  repeat' first
    | with_reducible assumption
    | with_reducible apply goodO_next
    | intro _
    | with_reducible apply State_copied_good
    | with_reducible apply State_ran_good
    | with_reducible apply State_readOperands_good
    | with_reducible apply good_foldl
    | with_reducible apply good_foldl_fst
    | split
    | with_reducible refine good_fst (by assumption) ?_

theorem State_nextHostRow_good {q : Kept} {s : State} (core : Nat) (slot : Nat) (r : Running) (e : Entry) (h : Good q s) (w_regs : q.keep .regs = false := by assumption) (w_pages : q.keep .pages = false := by assumption) (w_msgs : q.keep .msgs = false := by assumption) (w_host : q.keep .host = false := by assumption) (w_work : q.keep .work = false := by assumption) (w_freeCtr : q.keep .freeCtr = false := by assumption) : Good q (Sys2Proof.Machine.State.nextHostRow s core slot r e) := by
  unfold Sys2Proof.Machine.State.nextHostRow
  repeat' first
    | with_reducible assumption
    | with_reducible apply goodO_next
    | intro _
    | with_reducible apply State_hostAbort_good
    | with_reducible apply State_hostReadStart_good
    | with_reducible apply State_ran_good
    | with_reducible apply good_foldl
    | with_reducible apply good_foldl_fst
    | split
    | with_reducible refine good_fst (by assumption) ?_
    | with_reducible refine good_snd (by assumption) ?_
    | with_reducible refine good_snd2 (by assumption) ?_
    | dsimp only

theorem State_hostRow_good {q : Kept} {s : State} (core : Nat) (slot : Nat) (seq : Nat) (row : Option (List Byte)) (h : Good q s) (w_regs : q.keep .regs = false := by assumption) (w_pages : q.keep .pages = false := by assumption) (w_msgs : q.keep .msgs = false := by assumption) (w_host : q.keep .host = false := by assumption) (w_work : q.keep .work = false := by assumption) (w_freeCtr : q.keep .freeCtr = false := by assumption) : Good q (Sys2Proof.Machine.State.hostRow s core slot seq row) := by
  unfold Sys2Proof.Machine.State.hostRow
  repeat' first
    | with_reducible assumption
    | with_reducible apply goodO_next
    | intro _
    | with_reducible apply State_setEntry_good
    | with_reducible apply State_ran_good
    | with_reducible apply State_copied_good
    | with_reducible apply State_nextHostRow_good
    | with_reducible apply good_foldl
    | with_reducible apply good_foldl_fst
    | split
    | with_reducible refine good_fst (by assumption) ?_
    | with_reducible refine good_snd (by assumption) ?_
    | with_reducible refine good_snd2 (by assumption) ?_
    | dsimp only

theorem State_hostFlushed_good {q : Kept} {s : State} (core : Nat) (slot : Nat) (seq : Nat) (good : Bool) (h : Good q s) (w_work : q.keep .work = false := by assumption) : Good q (Sys2Proof.Machine.State.hostFlushed s core slot seq good) := by
  unfold Sys2Proof.Machine.State.hostFlushed
  repeat' first
    | with_reducible assumption
    | with_reducible apply goodO_next
    | intro _
    | with_reducible apply State_ran_good
    | with_reducible apply good_foldl
    | with_reducible apply good_foldl_fst
    | split

theorem State_runMatmul_good {q : Kept} {s : State} (core : Nat) (r : Running) (e : Entry) (m : MatmulStep) (stop : Option StepPos) (h : Good q s) (w_regs : q.keep .regs = false := by assumption) (w_pages : q.keep .pages = false := by assumption) (w_msgs : q.keep .msgs = false := by assumption) (w_faultLog : q.keep .faultLog = false := by assumption) (w_hbm : q.keep .hbm = false := by assumption) (w_caches : q.keep .caches = false := by assumption) (w_mem : q.keep .mem = false := by assumption) (w_freeCtr : q.keep .freeCtr = false := by assumption) : Good q (Sys2Proof.Machine.State.runMatmul s core r e m stop).1 := by
  unfold Sys2Proof.Machine.State.runMatmul
  repeat' first
    | with_reducible assumption
    | with_reducible apply goodO_next
    | intro _
    | with_reducible apply State_readOperands_good
    | with_reducible apply good_foldl
    | with_reducible apply good_foldl_fst
    | split
    | with_reducible refine good_fst (by assumption) ?_

theorem State_runMatvec_good {q : Kept} {s : State} (core : Nat) (r : Running) (e : Entry) (m : MatvecStep) (stop : Option StepPos) (h : Good q s) (w_regs : q.keep .regs = false := by assumption) (w_pages : q.keep .pages = false := by assumption) (w_msgs : q.keep .msgs = false := by assumption) (w_faultLog : q.keep .faultLog = false := by assumption) (w_hbm : q.keep .hbm = false := by assumption) (w_caches : q.keep .caches = false := by assumption) (w_mem : q.keep .mem = false := by assumption) (w_freeCtr : q.keep .freeCtr = false := by assumption) : Good q (Sys2Proof.Machine.State.runMatvec s core r e m stop).1 := by
  unfold Sys2Proof.Machine.State.runMatvec
  repeat' first
    | with_reducible assumption
    | with_reducible apply goodO_next
    | intro _
    | with_reducible apply State_readOperands_good
    | with_reducible apply good_foldl
    | with_reducible apply good_foldl_fst
    | split
    | with_reducible refine good_fst (by assumption) ?_

theorem State_vectorStep_good {q : Kept} {s : State} (core : Nat) (slot : Nat) (r : Running) (e : Entry) (vop : Nat) (v : VectorStep) (h : Good q s) (w_regs : q.keep .regs = false := by assumption) (w_pages : q.keep .pages = false := by assumption) (w_msgs : q.keep .msgs = false := by assumption) (w_faultLog : q.keep .faultLog = false := by assumption) (w_hbm : q.keep .hbm = false := by assumption) (w_caches : q.keep .caches = false := by assumption) (w_mem : q.keep .mem = false := by assumption) (w_work : q.keep .work = false := by assumption) (w_freeCtr : q.keep .freeCtr = false := by assumption) : Good q (Sys2Proof.Machine.State.vectorStep s core slot r e vop v) := by
  unfold Sys2Proof.Machine.State.vectorStep
  repeat' first
    | with_reducible assumption
    | with_reducible apply goodO_next
    | intro _
    | with_reducible apply State_ran_good
    | with_reducible apply State_readOperands_good
    | with_reducible apply good_foldl
    | with_reducible apply good_foldl_fst
    | split
    | with_reducible refine good_fst (by assumption) ?_

theorem State_openOrWait_good {q : Kept} {s : State} (core : Nat) (slot : Nat) (r : Running) (e : Entry) (c : Nat) (h : Good q s) (w_regs : q.keep .regs = false := by assumption) (w_pages : q.keep .pages = false := by assumption) (w_msgs : q.keep .msgs = false := by assumption) (w_work : q.keep .work = false := by assumption) (w_freeCtr : q.keep .freeCtr = false := by assumption) : Good q (Sys2Proof.Machine.State.openOrWait s core slot r e c).1 := by
  unfold Sys2Proof.Machine.State.openOrWait
  repeat' first
    | with_reducible assumption
    | with_reducible apply goodO_next
    | intro _
    | with_reducible apply State_blockStep_good
    | with_reducible apply State_openChild_good
    | with_reducible apply State_awaitCell_good
    | with_reducible apply good_foldl
    | with_reducible apply good_foldl_fst
    | split

theorem State_commitStep_good {q : Kept} {s : State} (core : Nat) (slot : Nat) (r : Running) (e : Entry) (c : Nat) (h : Good q s) (w_regs : q.keep .regs = false := by assumption) (w_work : q.keep .work = false := by assumption) : Good q (Sys2Proof.Machine.State.commitStep s core slot r e c) := by
  unfold Sys2Proof.Machine.State.commitStep
  repeat' first
    | with_reducible assumption
    | with_reducible apply goodO_next
    | intro _
    | with_reducible apply State_commitChild_good
    | with_reducible apply State_mapRunning_good
    | with_reducible apply State_ran_good
    | with_reducible apply good_foldl
    | with_reducible apply good_foldl_fst
    | split

theorem State_postStep_good {q : Kept} {s : State} (core : Nat) (slot : Nat) (e : Entry) (dl : Nat) (delay : Nat) (item : List Byte) (h : Good q s) (w_regs : q.keep .regs = false := by assumption) (w_pages : q.keep .pages = false := by assumption) (w_msgs : q.keep .msgs = false := by assumption) (w_faultLog : q.keep .faultLog = false := by assumption) (w_hbm : q.keep .hbm = false := by assumption) (w_caches : q.keep .caches = false := by assumption) (w_mem : q.keep .mem = false := by assumption) (w_work : q.keep .work = false := by assumption) (w_freeCtr : q.keep .freeCtr = false := by assumption) : Good q (Sys2Proof.Machine.State.postStep s core slot e dl delay item) := by
  unfold Sys2Proof.Machine.State.postStep
  repeat' first
    | with_reducible assumption
    | with_reducible apply goodO_next
    | intro _
    | with_reducible apply State_setChannel_good
    | with_reducible apply State_ran_good
    | with_reducible apply State_blockStep_good
    | with_reducible apply good_foldl
    | with_reducible apply good_foldl_fst
    | split
    | with_reducible refine good_fst (by assumption) ?_
    | with_reducible refine good_snd (by assumption) ?_
    | with_reducible refine good_snd2 (by assumption) ?_
    | with_reducible refine State_post_good (by assumption) ?_
    | dsimp only
    | with_reducible refine good_mk (t := _) ?_ rfl rfl rfl rfl rfl rfl rfl rfl

theorem State_sealStart_good {q : Kept} {s : State} (core : Nat) (slot : Nat) (r : Running) (e : Entry) (x : SealStep) (h : Good q s) (w_regs : q.keep .regs = false := by assumption) (w_pages : q.keep .pages = false := by assumption) (w_msgs : q.keep .msgs = false := by assumption) (w_faultLog : q.keep .faultLog = false := by assumption) (w_hbm : q.keep .hbm = false := by assumption) (w_caches : q.keep .caches = false := by assumption) (w_mem : q.keep .mem = false := by assumption) (w_sluice : q.keep .sluice = false := by assumption) (w_work : q.keep .work = false := by assumption) (w_freeCtr : q.keep .freeCtr = false := by assumption) : Good q (Sys2Proof.Machine.State.sealStart s core slot r e x) := by
  unfold Sys2Proof.Machine.State.sealStart
  repeat' first
    | with_reducible assumption
    | with_reducible apply goodO_next
    | intro _
    | with_reducible apply State_blockStep_good
    | with_reducible apply State_ran_good
    | with_reducible apply State_readRow_good
    | with_reducible apply State_sealPrepare_good
    | with_reducible apply State_enqueue_good
    | with_reducible apply State_capture_good
    | with_reducible apply good_foldl
    | with_reducible apply good_foldl_fst
    | split
    | with_reducible refine good_fst (by assumption) ?_
    | with_reducible refine good_snd (by assumption) ?_
    | with_reducible refine good_snd2 (by assumption) ?_
    | dsimp only

theorem State_sealEnd_good {q : Kept} {s : State} (core : Nat) (slot : Nat) (e : Entry) (head : List Byte) (o : PkeOut) (h : Good q s) (w_work : q.keep .work = false := by assumption) : Good q (Sys2Proof.Machine.State.sealEnd s core slot e head o) := by
  unfold Sys2Proof.Machine.State.sealEnd
  repeat' first
    | with_reducible assumption
    | with_reducible apply goodO_next
    | intro _
    | with_reducible apply State_ran_good
    | with_reducible apply good_foldl
    | with_reducible apply good_foldl_fst
    | split

theorem State_syncStep_good {q : Kept} {s : State} (core : Nat) (slot : Nat) (r : Running) (e : Entry) (h : Good q s) (w_regs : q.keep .regs = false := by assumption) (w_pages : q.keep .pages = false := by assumption) (w_msgs : q.keep .msgs = false := by assumption) (w_sync : q.keep .sync = false := by assumption) (w_work : q.keep .work = false := by assumption) (w_link : q.keep .link = false := by assumption) (w_freeCtr : q.keep .freeCtr = false := by assumption) : Good q (Sys2Proof.Machine.State.syncStep s core slot r e) := by
  unfold Sys2Proof.Machine.State.syncStep
  repeat' first
    | with_reducible assumption
    | with_reducible apply goodO_next
    | intro _
    | with_reducible apply State_ran_good
    | with_reducible apply State_linkSignal_good
    | with_reducible apply State_ctrOp_good
    | with_reducible apply good_foldl
    | with_reducible apply good_foldl_fst
    | split

theorem State_startEntry_good {q : Kept} {s : State} (core : Nat) (slot : Nat) (r : Running) (e : Entry) (h : Good q s) (w_regs : q.keep .regs = false := by assumption) (w_pages : q.keep .pages = false := by assumption) (w_msgs : q.keep .msgs = false := by assumption) (w_host : q.keep .host = false := by assumption) (w_faultLog : q.keep .faultLog = false := by assumption) (w_hbm : q.keep .hbm = false := by assumption) (w_caches : q.keep .caches = false := by assumption) (w_mem : q.keep .mem = false := by assumption) (w_sluice : q.keep .sluice = false := by assumption) (w_sync : q.keep .sync = false := by assumption) (w_work : q.keep .work = false := by assumption) (w_link : q.keep .link = false := by assumption) (w_freeCtr : q.keep .freeCtr = false := by assumption) : Good q (Sys2Proof.Machine.State.startEntry s core slot r e) := by
  unfold Sys2Proof.Machine.State.startEntry
  repeat' first
    | with_reducible assumption
    | with_reducible apply goodO_next
    | intro _
    | with_reducible apply State_startChainOp_good
    | with_reducible apply State_chainError_good
    | with_reducible apply State_ran_good
    | with_reducible apply State_blockStep_good
    | with_reducible apply State_copyStep_good
    | with_reducible apply State_nextHostRow_good
    | with_reducible apply State_runMatmul_good
    | with_reducible apply State_runMatvec_good
    | with_reducible apply State_vectorStep_good
    | with_reducible apply State_openOrWait_good
    | with_reducible apply State_commitStep_good
    | with_reducible apply State_postStep_good
    | with_reducible apply State_sealStart_good
    | with_reducible apply State_syncStep_good
    | with_reducible apply good_foldl
    | with_reducible apply good_foldl_fst
    | split
    | with_reducible refine good_fst (by assumption) ?_

theorem State_ctxEffect_good {q : Kept} {s : State} (core : Nat) (ctx : Nat) (h : Good q s) (w_regs : q.keep .regs = false := by assumption) : ∀ (r0 : StepOp), Good q (Sys2Proof.Machine.State.ctxEffect s core ctx r0) := by
  intro r0
  unfold Sys2Proof.Machine.State.ctxEffect
  repeat' first
    | with_reducible assumption
    | with_reducible apply goodO_next
    | intro _
    | with_reducible apply State_set_good
    | with_reducible apply State_clearFlags_good
    | with_reducible apply good_foldl
    | with_reducible apply good_foldl_fst
    | split

theorem State_issueEntry_good {q : Kept} {s : State} (core : Nat) (slot : Nat) (r : Running) (e : Entry) (old : Bool) (h : Good q s) (w_regs : q.keep .regs = false := by assumption) (w_pages : q.keep .pages = false := by assumption) (w_msgs : q.keep .msgs = false := by assumption) (w_host : q.keep .host = false := by assumption) (w_faultLog : q.keep .faultLog = false := by assumption) (w_ws : q.keep .ws = false := by assumption) (w_act : q.keep .act = false := by assumption) (w_hbm : q.keep .hbm = false := by assumption) (w_caches : q.keep .caches = false := by assumption) (w_mem : q.keep .mem = false := by assumption) (w_sync : q.keep .sync = false := by assumption) (w_work : q.keep .work = false := by assumption) (w_link : q.keep .link = false := by assumption) (w_freeCtr : q.keep .freeCtr = false := by assumption) : Good q (Sys2Proof.Machine.State.issueEntry s core slot r e old) := by
  unfold Sys2Proof.Machine.State.issueEntry
  repeat' first
    | with_reducible assumption
    | with_reducible apply goodO_next
    | intro _
    | with_reducible apply State_add_good
    | with_reducible apply State_ctrWait_good
    | with_reducible apply State_chainError_good
    | with_reducible apply State_setRunning_good
    | with_reducible apply State_tryComplete_good
    | with_reducible apply State_ctxEffect_good
    | with_reducible apply good_foldl
    | with_reducible apply good_foldl_fst
    | split
    | with_reducible refine good_fst (by assumption) ?_
    | with_reducible refine good_snd (by assumption) ?_
    | with_reducible refine good_snd2 (by assumption) ?_
    | dsimp only
    | with_reducible refine good_mk (t := _) ?_ rfl rfl rfl rfl rfl rfl rfl rfl

theorem State_tryIssue_good {q : Kept} {s : State} (core : Nat) (slot : Nat) (h : Good q s) (w_regs : q.keep .regs = false := by assumption) (w_pages : q.keep .pages = false := by assumption) (w_msgs : q.keep .msgs = false := by assumption) (w_host : q.keep .host = false := by assumption) (w_faultLog : q.keep .faultLog = false := by assumption) (w_ws : q.keep .ws = false := by assumption) (w_act : q.keep .act = false := by assumption) (w_hbm : q.keep .hbm = false := by assumption) (w_caches : q.keep .caches = false := by assumption) (w_mem : q.keep .mem = false := by assumption) (w_sync : q.keep .sync = false := by assumption) (w_work : q.keep .work = false := by assumption) (w_link : q.keep .link = false := by assumption) (w_freeCtr : q.keep .freeCtr = false := by assumption) : ∀ z, Sys2Proof.Machine.State.tryIssue s core slot = some z → Good q z := by
  intro z hz
  unfold Sys2Proof.Machine.State.tryIssue at hz
  split at hz
  · cases hz
  · split at hz
    · cases hz
    · dsimp only at hz
      split at hz
      · cases hz
        exact State_issueEntry_good _ _ _ _ _ h
      · cases hz

theorem State_freeEntry_good {q : Kept} {s : State} (core : Nat) (slot : Nat) (r : Running) (order : Nat) (h : Good q s) (w_regs : q.keep .regs = false := by assumption) (w_pages : q.keep .pages = false := by assumption) (w_msgs : q.keep .msgs = false := by assumption) (w_faultLog : q.keep .faultLog = false := by assumption) (w_hbm : q.keep .hbm = false := by assumption) (w_caches : q.keep .caches = false := by assumption) (w_mem : q.keep .mem = false := by assumption) (w_work : q.keep .work = false := by assumption) (w_freeCtr : q.keep .freeCtr = false := by assumption) : Good q (Sys2Proof.Machine.State.freeEntry s core slot r order).2 := by
  unfold Sys2Proof.Machine.State.freeEntry
  repeat' first
    | with_reducible assumption
    | with_reducible apply goodO_next
    | intro _
    | with_reducible apply State_stepRead_good
    | with_reducible apply good_foldl
    | with_reducible apply good_foldl_fst
    | split
    | with_reducible refine good_fst (by assumption) ?_
    | with_reducible refine good_snd (by assumption) ?_
    | with_reducible refine good_snd2 (by assumption) ?_
    | dsimp only
    | with_reducible refine good_mk (t := _) ?_ rfl rfl rfl rfl rfl rfl rfl rfl

theorem State_freeWindow_good {q : Kept} {s : State} (core : Nat) (slot : Nat) (r : Running) (h : Good q s) (w_regs : q.keep .regs = false := by assumption) (w_pages : q.keep .pages = false := by assumption) (w_msgs : q.keep .msgs = false := by assumption) (w_faultLog : q.keep .faultLog = false := by assumption) (w_hbm : q.keep .hbm = false := by assumption) (w_caches : q.keep .caches = false := by assumption) (w_mem : q.keep .mem = false := by assumption) (w_work : q.keep .work = false := by assumption) (w_freeCtr : q.keep .freeCtr = false := by assumption) : Good q (Sys2Proof.Machine.State.freeWindow s core slot r).2 := by
  unfold Sys2Proof.Machine.State.freeWindow
  dsimp only
  exact good_foldl_snd (State_drawFree_good (State_drawFree_good h)) (fun t i ht => State_freeEntry_good core slot r (r.order + i) ht)

theorem State_reload_good {q : Kept} {s : State} (core : Nat) (slot : Nat) (rk : Nat) (h : Good q s) (w_regs : q.keep .regs = false := by assumption) (w_pages : q.keep .pages = false := by assumption) (w_msgs : q.keep .msgs = false := by assumption) (w_faultLog : q.keep .faultLog = false := by assumption) (w_hbm : q.keep .hbm = false := by assumption) (w_caches : q.keep .caches = false := by assumption) (w_mem : q.keep .mem = false := by assumption) (w_work : q.keep .work = false := by assumption) (w_link : q.keep .link = false := by assumption) (w_freeCtr : q.keep .freeCtr = false := by assumption) : Good q (Sys2Proof.Machine.State.reload s core slot rk) := by
  unfold Sys2Proof.Machine.State.reload
  repeat' first
    | with_reducible assumption
    | with_reducible apply goodO_next
    | intro _
    | with_reducible apply State_freeWindow_good
    | with_reducible apply State_endCheck_good
    | with_reducible apply State_taskEnds_good
    | with_reducible apply State_setRunning_good
    | with_reducible apply State_storeRead_good
    | with_reducible apply State_raise_good
    | with_reducible apply State_set_good
    | with_reducible apply good_foldl
    | with_reducible apply good_foldl_fst
    | split
    | with_reducible refine good_fst (by assumption) ?_
    | with_reducible refine good_snd (by assumption) ?_
    | with_reducible refine good_snd2 (by assumption) ?_
    | dsimp only
    | with_reducible refine good_mk (t := _) ?_ rfl rfl rfl rfl rfl rfl rfl rfl

theorem State_reloadNow_good {q : Kept} {s : State} (core : Nat) (slot : Nat) (h : Good q s) (w_regs : q.keep .regs = false := by assumption) (w_pages : q.keep .pages = false := by assumption) (w_msgs : q.keep .msgs = false := by assumption) (w_faultLog : q.keep .faultLog = false := by assumption) (w_hbm : q.keep .hbm = false := by assumption) (w_caches : q.keep .caches = false := by assumption) (w_mem : q.keep .mem = false := by assumption) (w_work : q.keep .work = false := by assumption) (w_link : q.keep .link = false := by assumption) (w_freeCtr : q.keep .freeCtr = false := by assumption) : Good q (Sys2Proof.Machine.State.reloadNow s core slot) := by
  unfold Sys2Proof.Machine.State.reloadNow
  repeat' first
    | with_reducible assumption
    | with_reducible apply goodO_next
    | intro _
    | with_reducible apply State_reload_good
    | with_reducible apply good_foldl
    | with_reducible apply good_foldl_fst
    | split

theorem State_takeResult_good {q : Kept} {s : State} (u : PkeUse) (h : Good q s) (w_sluice : q.keep .sluice = false := by assumption) : Good q (Sys2Proof.Machine.State.takeResult s u) := by
  unfold Sys2Proof.Machine.State.takeResult
  repeat' first
    | with_reducible assumption
    | with_reducible apply goodO_next
    | intro _
    | with_reducible apply good_foldl
    | with_reducible apply good_foldl_fst
    | split
    | with_reducible refine good_fst (by assumption) ?_
    | with_reducible refine good_snd (by assumption) ?_
    | with_reducible refine good_snd2 (by assumption) ?_
    | dsimp only
    | with_reducible refine good_mk (t := _) ?_ rfl rfl rfl rfl rfl rfl rfl rfl

theorem State_unblock_good {q : Kept} {s : State} (core : Nat) (slot : Nat) (r : Running) (e : Entry) (h : Good q s) (w_regs : q.keep .regs = false := by assumption) (w_pages : q.keep .pages = false := by assumption) (w_msgs : q.keep .msgs = false := by assumption) (w_host : q.keep .host = false := by assumption) (w_faultLog : q.keep .faultLog = false := by assumption) (w_hbm : q.keep .hbm = false := by assumption) (w_caches : q.keep .caches = false := by assumption) (w_mem : q.keep .mem = false := by assumption) (w_sluice : q.keep .sluice = false := by assumption) (w_work : q.keep .work = false := by assumption) (w_freeCtr : q.keep .freeCtr = false := by assumption) : ∀ z, Sys2Proof.Machine.State.unblock s core slot r e = some z → Good q z := by
  intro z hz
  unfold Sys2Proof.Machine.State.unblock at hz
  split at hz
  · cases hz
  · split at hz
    · split at hz
      · cases hz
        exact State_sealEnd_good _ _ _ _ _ (State_takeResult_good _ h)
      · cases hz
    · split at hz
      · cases hz
      · cases hz
        exact State_nextHostRow_good _ _ _ _ h
    · dsimp only at hz
      split at hz
      · cases hz
        exact State_copyStep_good _ _ _ _ (State_leaveCell_good _ _ h)
      · cases hz
    · split at hz
      · cases hz
        exact State_commitStep_good _ _ _ _ _ (State_leaveCell_good _ _ h)
      · cases hz
    · cases hz

theorem State_entryAction_good {q : Kept} {s : State} (core : Nat) (slot : Nat) (h : Good q s) (w_regs : q.keep .regs = false := by assumption) (w_pages : q.keep .pages = false := by assumption) (w_msgs : q.keep .msgs = false := by assumption) (w_host : q.keep .host = false := by assumption) (w_faultLog : q.keep .faultLog = false := by assumption) (w_hbm : q.keep .hbm = false := by assumption) (w_caches : q.keep .caches = false := by assumption) (w_mem : q.keep .mem = false := by assumption) (w_sluice : q.keep .sluice = false := by assumption) (w_sync : q.keep .sync = false := by assumption) (w_work : q.keep .work = false := by assumption) (w_link : q.keep .link = false := by assumption) (w_freeCtr : q.keep .freeCtr = false := by assumption) : ∀ z, Sys2Proof.Machine.State.entryAction s core slot = some z → Good q z := by
  intro z hz
  unfold Sys2Proof.Machine.State.entryAction at hz
  split at hz
  · cases hz
  · rename_i r _
    split at hz
    · cases hz
      exact State_reloadNow_good _ _ h
    · refine good_findSome ?_ z hz
      intro e t ht
      have hu := State_unblock_good core slot r e h
      split at ht
      · rename_i u hs
        cases ht
        exact hu _ hs
      · split at ht
        · cases ht
          exact State_startEntry_good _ _ _ _ h
        · cases ht

theorem State_coreAction_good {q : Kept} {s z : State} {core : Nat} (hz : Sys2Proof.Machine.State.coreAction s core = some z) (h : Good q s) (w_regs : q.keep .regs = false := by assumption) (w_pages : q.keep .pages = false := by assumption) (w_msgs : q.keep .msgs = false := by assumption) (w_host : q.keep .host = false := by assumption) (w_faultLog : q.keep .faultLog = false := by assumption) (w_ws : q.keep .ws = false := by assumption) (w_act : q.keep .act = false := by assumption) (w_hbm : q.keep .hbm = false := by assumption) (w_caches : q.keep .caches = false := by assumption) (w_mem : q.keep .mem = false := by assumption) (w_sluice : q.keep .sluice = false := by assumption) (w_sync : q.keep .sync = false := by assumption) (w_work : q.keep .work = false := by assumption) (w_link : q.keep .link = false := by assumption) (w_freeCtr : q.keep .freeCtr = false := by assumption) : Good q z := by
  unfold Sys2Proof.Machine.State.coreAction at hz
  split at hz
  · cases hz
  · split at hz
    · cases hz
      exact good_findSome (fun i => State_entryAction_good _ i h) _ (by assumption)
    · exact good_findSome (fun i => State_tryIssue_good _ i h) _ hz

theorem State_pumpFor_good {q : Kept} (r0 : Nat) (w_regs : q.keep .regs = false := by assumption) (w_pages : q.keep .pages = false := by assumption) (w_msgs : q.keep .msgs = false := by assumption) (w_host : q.keep .host = false := by assumption) (w_faultLog : q.keep .faultLog = false := by assumption) (w_ws : q.keep .ws = false := by assumption) (w_act : q.keep .act = false := by assumption) (w_hbm : q.keep .hbm = false := by assumption) (w_caches : q.keep .caches = false := by assumption) (w_mem : q.keep .mem = false := by assumption) (w_sluice : q.keep .sluice = false := by assumption) (w_sync : q.keep .sync = false := by assumption) (w_work : q.keep .work = false := by assumption) (w_link : q.keep .link = false := by assumption) (w_freeCtr : q.keep .freeCtr = false := by assumption) : ∀ (s : State) (core : Nat), Good q s → Good q (Sys2Proof.Machine.State.pumpFor s core r0) := by
  induction r0 with
  | zero =>
    intro s core h
    unfold Sys2Proof.Machine.State.pumpFor
    repeat' first
      | with_reducible assumption
  | succ n ih =>
    intro s core h
    unfold Sys2Proof.Machine.State.pumpFor
    repeat' first
      | with_reducible assumption
      | with_reducible apply goodO_next
      | intro _
      | with_reducible apply ih
      | with_reducible apply good_foldl
      | with_reducible apply good_foldl_fst
      | split
      | with_reducible refine good_fst (by assumption) ?_
      | with_reducible refine good_snd (by assumption) ?_
      | with_reducible refine good_snd2 (by assumption) ?_
      | with_reducible refine State_coreAction_good (by assumption) ?_

theorem State_pump_good {q : Kept} {s : State} (core : Nat) (h : Good q s) (w_regs : q.keep .regs = false := by assumption) (w_pages : q.keep .pages = false := by assumption) (w_msgs : q.keep .msgs = false := by assumption) (w_host : q.keep .host = false := by assumption) (w_faultLog : q.keep .faultLog = false := by assumption) (w_ws : q.keep .ws = false := by assumption) (w_act : q.keep .act = false := by assumption) (w_hbm : q.keep .hbm = false := by assumption) (w_caches : q.keep .caches = false := by assumption) (w_mem : q.keep .mem = false := by assumption) (w_sluice : q.keep .sluice = false := by assumption) (w_sync : q.keep .sync = false := by assumption) (w_work : q.keep .work = false := by assumption) (w_link : q.keep .link = false := by assumption) (w_freeCtr : q.keep .freeCtr = false := by assumption) : Good q (Sys2Proof.Machine.State.pump s core) := by
  unfold Sys2Proof.Machine.State.pump
  repeat' first
    | with_reducible assumption
    | with_reducible apply goodO_next
    | intro _
    | with_reducible apply State_slotRefresh_good
    | with_reducible apply State_pumpFor_good
    | with_reducible apply good_foldl

theorem fetchStep_good {q : Kept} (hd : StepHdr) (op : StepOp) {s : State} (h : Good q s) (w_regs : q.keep .regs = false := by assumption) (w_pages : q.keep .pages = false := by assumption) (w_msgs : q.keep .msgs = false := by assumption) (w_host : q.keep .host = false := by assumption) (w_faultLog : q.keep .faultLog = false := by assumption) (w_ws : q.keep .ws = false := by assumption) (w_act : q.keep .act = false := by assumption) (w_hbm : q.keep .hbm = false := by assumption) (w_caches : q.keep .caches = false := by assumption) (w_mem : q.keep .mem = false := by assumption) (w_sluice : q.keep .sluice = false := by assumption) (w_sync : q.keep .sync = false := by assumption) (w_work : q.keep .work = false := by assumption) (w_link : q.keep .link = false := by assumption) (w_freeCtr : q.keep .freeCtr = false := by assumption) : GoodO q (Sys2Proof.Machine.fetchStep hd op s) := by
  unfold Sys2Proof.Machine.fetchStep
  repeat' first
    | with_reducible assumption
    | with_reducible apply goodO_next
    | intro _
    | with_reducible apply State_setRunning_good
    | with_reducible apply State_pump_good
    | with_reducible apply good_foldl
    | with_reducible apply good_foldl_fst
    | split

theorem execNop_good {q : Kept} (hd : StepHdr) {s : State} (h : Good q s) (w_regs : q.keep .regs = false := by assumption) (w_pages : q.keep .pages = false := by assumption) (w_msgs : q.keep .msgs = false := by assumption) (w_host : q.keep .host = false := by assumption) (w_faultLog : q.keep .faultLog = false := by assumption) (w_ws : q.keep .ws = false := by assumption) (w_act : q.keep .act = false := by assumption) (w_hbm : q.keep .hbm = false := by assumption) (w_caches : q.keep .caches = false := by assumption) (w_mem : q.keep .mem = false := by assumption) (w_sluice : q.keep .sluice = false := by assumption) (w_sync : q.keep .sync = false := by assumption) (w_work : q.keep .work = false := by assumption) (w_link : q.keep .link = false := by assumption) (w_freeCtr : q.keep .freeCtr = false := by assumption) : GoodO q (Sys2Proof.Machine.execNop hd s) := by
  unfold Sys2Proof.Machine.execNop
  repeat' first
    | with_reducible assumption
    | with_reducible apply goodO_next
    | intro _
    | with_reducible apply fetchStep_good

theorem execLoad_good {q : Kept} (hd : StepHdr) (x : XferStep) {s : State} (h : Good q s) (w_regs : q.keep .regs = false := by assumption) (w_pages : q.keep .pages = false := by assumption) (w_msgs : q.keep .msgs = false := by assumption) (w_host : q.keep .host = false := by assumption) (w_faultLog : q.keep .faultLog = false := by assumption) (w_ws : q.keep .ws = false := by assumption) (w_act : q.keep .act = false := by assumption) (w_hbm : q.keep .hbm = false := by assumption) (w_caches : q.keep .caches = false := by assumption) (w_mem : q.keep .mem = false := by assumption) (w_sluice : q.keep .sluice = false := by assumption) (w_sync : q.keep .sync = false := by assumption) (w_work : q.keep .work = false := by assumption) (w_link : q.keep .link = false := by assumption) (w_freeCtr : q.keep .freeCtr = false := by assumption) : GoodO q (Sys2Proof.Machine.execLoad hd x s) := by
  unfold Sys2Proof.Machine.execLoad
  repeat' first
    | with_reducible assumption
    | with_reducible apply goodO_next
    | intro _
    | with_reducible apply fetchStep_good

theorem execTransfer_good {q : Kept} (hd : StepHdr) (x : XferStep) {s : State} (h : Good q s) (w_regs : q.keep .regs = false := by assumption) (w_pages : q.keep .pages = false := by assumption) (w_msgs : q.keep .msgs = false := by assumption) (w_host : q.keep .host = false := by assumption) (w_faultLog : q.keep .faultLog = false := by assumption) (w_ws : q.keep .ws = false := by assumption) (w_act : q.keep .act = false := by assumption) (w_hbm : q.keep .hbm = false := by assumption) (w_caches : q.keep .caches = false := by assumption) (w_mem : q.keep .mem = false := by assumption) (w_sluice : q.keep .sluice = false := by assumption) (w_sync : q.keep .sync = false := by assumption) (w_work : q.keep .work = false := by assumption) (w_link : q.keep .link = false := by assumption) (w_freeCtr : q.keep .freeCtr = false := by assumption) : GoodO q (Sys2Proof.Machine.execTransfer hd x s) := by
  unfold Sys2Proof.Machine.execTransfer
  repeat' first
    | with_reducible assumption
    | with_reducible apply goodO_next
    | intro _
    | with_reducible apply fetchStep_good

theorem execMatmul_good {q : Kept} (hd : StepHdr) (m : MatmulStep) {s : State} (h : Good q s) (w_regs : q.keep .regs = false := by assumption) (w_pages : q.keep .pages = false := by assumption) (w_msgs : q.keep .msgs = false := by assumption) (w_host : q.keep .host = false := by assumption) (w_faultLog : q.keep .faultLog = false := by assumption) (w_ws : q.keep .ws = false := by assumption) (w_act : q.keep .act = false := by assumption) (w_hbm : q.keep .hbm = false := by assumption) (w_caches : q.keep .caches = false := by assumption) (w_mem : q.keep .mem = false := by assumption) (w_sluice : q.keep .sluice = false := by assumption) (w_sync : q.keep .sync = false := by assumption) (w_work : q.keep .work = false := by assumption) (w_link : q.keep .link = false := by assumption) (w_freeCtr : q.keep .freeCtr = false := by assumption) : GoodO q (Sys2Proof.Machine.execMatmul hd m s) := by
  unfold Sys2Proof.Machine.execMatmul
  repeat' first
    | with_reducible assumption
    | with_reducible apply goodO_next
    | intro _
    | with_reducible apply fetchStep_good

theorem execMatvec_good {q : Kept} (hd : StepHdr) (m : MatvecStep) {s : State} (h : Good q s) (w_regs : q.keep .regs = false := by assumption) (w_pages : q.keep .pages = false := by assumption) (w_msgs : q.keep .msgs = false := by assumption) (w_host : q.keep .host = false := by assumption) (w_faultLog : q.keep .faultLog = false := by assumption) (w_ws : q.keep .ws = false := by assumption) (w_act : q.keep .act = false := by assumption) (w_hbm : q.keep .hbm = false := by assumption) (w_caches : q.keep .caches = false := by assumption) (w_mem : q.keep .mem = false := by assumption) (w_sluice : q.keep .sluice = false := by assumption) (w_sync : q.keep .sync = false := by assumption) (w_work : q.keep .work = false := by assumption) (w_link : q.keep .link = false := by assumption) (w_freeCtr : q.keep .freeCtr = false := by assumption) : GoodO q (Sys2Proof.Machine.execMatvec hd m s) := by
  unfold Sys2Proof.Machine.execMatvec
  repeat' first
    | with_reducible assumption
    | with_reducible apply goodO_next
    | intro _
    | with_reducible apply fetchStep_good

theorem execAdd_good {q : Kept} (hd : StepHdr) (v : VectorStep) {s : State} (h : Good q s) (w_regs : q.keep .regs = false := by assumption) (w_pages : q.keep .pages = false := by assumption) (w_msgs : q.keep .msgs = false := by assumption) (w_host : q.keep .host = false := by assumption) (w_faultLog : q.keep .faultLog = false := by assumption) (w_ws : q.keep .ws = false := by assumption) (w_act : q.keep .act = false := by assumption) (w_hbm : q.keep .hbm = false := by assumption) (w_caches : q.keep .caches = false := by assumption) (w_mem : q.keep .mem = false := by assumption) (w_sluice : q.keep .sluice = false := by assumption) (w_sync : q.keep .sync = false := by assumption) (w_work : q.keep .work = false := by assumption) (w_link : q.keep .link = false := by assumption) (w_freeCtr : q.keep .freeCtr = false := by assumption) : GoodO q (Sys2Proof.Machine.execAdd hd v s) := by
  unfold Sys2Proof.Machine.execAdd
  repeat' first
    | with_reducible assumption
    | with_reducible apply goodO_next
    | intro _
    | with_reducible apply fetchStep_good

theorem execSub_good {q : Kept} (hd : StepHdr) (v : VectorStep) {s : State} (h : Good q s) (w_regs : q.keep .regs = false := by assumption) (w_pages : q.keep .pages = false := by assumption) (w_msgs : q.keep .msgs = false := by assumption) (w_host : q.keep .host = false := by assumption) (w_faultLog : q.keep .faultLog = false := by assumption) (w_ws : q.keep .ws = false := by assumption) (w_act : q.keep .act = false := by assumption) (w_hbm : q.keep .hbm = false := by assumption) (w_caches : q.keep .caches = false := by assumption) (w_mem : q.keep .mem = false := by assumption) (w_sluice : q.keep .sluice = false := by assumption) (w_sync : q.keep .sync = false := by assumption) (w_work : q.keep .work = false := by assumption) (w_link : q.keep .link = false := by assumption) (w_freeCtr : q.keep .freeCtr = false := by assumption) : GoodO q (Sys2Proof.Machine.execSub hd v s) := by
  unfold Sys2Proof.Machine.execSub
  repeat' first
    | with_reducible assumption
    | with_reducible apply goodO_next
    | intro _
    | with_reducible apply fetchStep_good

theorem execMul_good {q : Kept} (hd : StepHdr) (v : VectorStep) {s : State} (h : Good q s) (w_regs : q.keep .regs = false := by assumption) (w_pages : q.keep .pages = false := by assumption) (w_msgs : q.keep .msgs = false := by assumption) (w_host : q.keep .host = false := by assumption) (w_faultLog : q.keep .faultLog = false := by assumption) (w_ws : q.keep .ws = false := by assumption) (w_act : q.keep .act = false := by assumption) (w_hbm : q.keep .hbm = false := by assumption) (w_caches : q.keep .caches = false := by assumption) (w_mem : q.keep .mem = false := by assumption) (w_sluice : q.keep .sluice = false := by assumption) (w_sync : q.keep .sync = false := by assumption) (w_work : q.keep .work = false := by assumption) (w_link : q.keep .link = false := by assumption) (w_freeCtr : q.keep .freeCtr = false := by assumption) : GoodO q (Sys2Proof.Machine.execMul hd v s) := by
  unfold Sys2Proof.Machine.execMul
  repeat' first
    | with_reducible assumption
    | with_reducible apply goodO_next
    | intro _
    | with_reducible apply fetchStep_good

theorem execFma_good {q : Kept} (hd : StepHdr) (v : VectorStep) {s : State} (h : Good q s) (w_regs : q.keep .regs = false := by assumption) (w_pages : q.keep .pages = false := by assumption) (w_msgs : q.keep .msgs = false := by assumption) (w_host : q.keep .host = false := by assumption) (w_faultLog : q.keep .faultLog = false := by assumption) (w_ws : q.keep .ws = false := by assumption) (w_act : q.keep .act = false := by assumption) (w_hbm : q.keep .hbm = false := by assumption) (w_caches : q.keep .caches = false := by assumption) (w_mem : q.keep .mem = false := by assumption) (w_sluice : q.keep .sluice = false := by assumption) (w_sync : q.keep .sync = false := by assumption) (w_work : q.keep .work = false := by assumption) (w_link : q.keep .link = false := by assumption) (w_freeCtr : q.keep .freeCtr = false := by assumption) : GoodO q (Sys2Proof.Machine.execFma hd v s) := by
  unfold Sys2Proof.Machine.execFma
  repeat' first
    | with_reducible assumption
    | with_reducible apply goodO_next
    | intro _
    | with_reducible apply fetchStep_good

theorem execMax_good {q : Kept} (hd : StepHdr) (v : VectorStep) {s : State} (h : Good q s) (w_regs : q.keep .regs = false := by assumption) (w_pages : q.keep .pages = false := by assumption) (w_msgs : q.keep .msgs = false := by assumption) (w_host : q.keep .host = false := by assumption) (w_faultLog : q.keep .faultLog = false := by assumption) (w_ws : q.keep .ws = false := by assumption) (w_act : q.keep .act = false := by assumption) (w_hbm : q.keep .hbm = false := by assumption) (w_caches : q.keep .caches = false := by assumption) (w_mem : q.keep .mem = false := by assumption) (w_sluice : q.keep .sluice = false := by assumption) (w_sync : q.keep .sync = false := by assumption) (w_work : q.keep .work = false := by assumption) (w_link : q.keep .link = false := by assumption) (w_freeCtr : q.keep .freeCtr = false := by assumption) : GoodO q (Sys2Proof.Machine.execMax hd v s) := by
  unfold Sys2Proof.Machine.execMax
  repeat' first
    | with_reducible assumption
    | with_reducible apply goodO_next
    | intro _
    | with_reducible apply fetchStep_good

theorem execMin_good {q : Kept} (hd : StepHdr) (v : VectorStep) {s : State} (h : Good q s) (w_regs : q.keep .regs = false := by assumption) (w_pages : q.keep .pages = false := by assumption) (w_msgs : q.keep .msgs = false := by assumption) (w_host : q.keep .host = false := by assumption) (w_faultLog : q.keep .faultLog = false := by assumption) (w_ws : q.keep .ws = false := by assumption) (w_act : q.keep .act = false := by assumption) (w_hbm : q.keep .hbm = false := by assumption) (w_caches : q.keep .caches = false := by assumption) (w_mem : q.keep .mem = false := by assumption) (w_sluice : q.keep .sluice = false := by assumption) (w_sync : q.keep .sync = false := by assumption) (w_work : q.keep .work = false := by assumption) (w_link : q.keep .link = false := by assumption) (w_freeCtr : q.keep .freeCtr = false := by assumption) : GoodO q (Sys2Proof.Machine.execMin hd v s) := by
  unfold Sys2Proof.Machine.execMin
  repeat' first
    | with_reducible assumption
    | with_reducible apply goodO_next
    | intro _
    | with_reducible apply fetchStep_good

theorem execRcp_good {q : Kept} (hd : StepHdr) (v : VectorStep) {s : State} (h : Good q s) (w_regs : q.keep .regs = false := by assumption) (w_pages : q.keep .pages = false := by assumption) (w_msgs : q.keep .msgs = false := by assumption) (w_host : q.keep .host = false := by assumption) (w_faultLog : q.keep .faultLog = false := by assumption) (w_ws : q.keep .ws = false := by assumption) (w_act : q.keep .act = false := by assumption) (w_hbm : q.keep .hbm = false := by assumption) (w_caches : q.keep .caches = false := by assumption) (w_mem : q.keep .mem = false := by assumption) (w_sluice : q.keep .sluice = false := by assumption) (w_sync : q.keep .sync = false := by assumption) (w_work : q.keep .work = false := by assumption) (w_link : q.keep .link = false := by assumption) (w_freeCtr : q.keep .freeCtr = false := by assumption) : GoodO q (Sys2Proof.Machine.execRcp hd v s) := by
  unfold Sys2Proof.Machine.execRcp
  repeat' first
    | with_reducible assumption
    | with_reducible apply goodO_next
    | intro _
    | with_reducible apply fetchStep_good

theorem execRsqrt_good {q : Kept} (hd : StepHdr) (v : VectorStep) {s : State} (h : Good q s) (w_regs : q.keep .regs = false := by assumption) (w_pages : q.keep .pages = false := by assumption) (w_msgs : q.keep .msgs = false := by assumption) (w_host : q.keep .host = false := by assumption) (w_faultLog : q.keep .faultLog = false := by assumption) (w_ws : q.keep .ws = false := by assumption) (w_act : q.keep .act = false := by assumption) (w_hbm : q.keep .hbm = false := by assumption) (w_caches : q.keep .caches = false := by assumption) (w_mem : q.keep .mem = false := by assumption) (w_sluice : q.keep .sluice = false := by assumption) (w_sync : q.keep .sync = false := by assumption) (w_work : q.keep .work = false := by assumption) (w_link : q.keep .link = false := by assumption) (w_freeCtr : q.keep .freeCtr = false := by assumption) : GoodO q (Sys2Proof.Machine.execRsqrt hd v s) := by
  unfold Sys2Proof.Machine.execRsqrt
  repeat' first
    | with_reducible assumption
    | with_reducible apply goodO_next
    | intro _
    | with_reducible apply fetchStep_good

theorem execExp_good {q : Kept} (hd : StepHdr) (v : VectorStep) {s : State} (h : Good q s) (w_regs : q.keep .regs = false := by assumption) (w_pages : q.keep .pages = false := by assumption) (w_msgs : q.keep .msgs = false := by assumption) (w_host : q.keep .host = false := by assumption) (w_faultLog : q.keep .faultLog = false := by assumption) (w_ws : q.keep .ws = false := by assumption) (w_act : q.keep .act = false := by assumption) (w_hbm : q.keep .hbm = false := by assumption) (w_caches : q.keep .caches = false := by assumption) (w_mem : q.keep .mem = false := by assumption) (w_sluice : q.keep .sluice = false := by assumption) (w_sync : q.keep .sync = false := by assumption) (w_work : q.keep .work = false := by assumption) (w_link : q.keep .link = false := by assumption) (w_freeCtr : q.keep .freeCtr = false := by assumption) : GoodO q (Sys2Proof.Machine.execExp hd v s) := by
  unfold Sys2Proof.Machine.execExp
  repeat' first
    | with_reducible assumption
    | with_reducible apply goodO_next
    | intro _
    | with_reducible apply fetchStep_good

theorem execCvt_good {q : Kept} (hd : StepHdr) (v : VectorStep) {s : State} (h : Good q s) (w_regs : q.keep .regs = false := by assumption) (w_pages : q.keep .pages = false := by assumption) (w_msgs : q.keep .msgs = false := by assumption) (w_host : q.keep .host = false := by assumption) (w_faultLog : q.keep .faultLog = false := by assumption) (w_ws : q.keep .ws = false := by assumption) (w_act : q.keep .act = false := by assumption) (w_hbm : q.keep .hbm = false := by assumption) (w_caches : q.keep .caches = false := by assumption) (w_mem : q.keep .mem = false := by assumption) (w_sluice : q.keep .sluice = false := by assumption) (w_sync : q.keep .sync = false := by assumption) (w_work : q.keep .work = false := by assumption) (w_link : q.keep .link = false := by assumption) (w_freeCtr : q.keep .freeCtr = false := by assumption) : GoodO q (Sys2Proof.Machine.execCvt hd v s) := by
  unfold Sys2Proof.Machine.execCvt
  repeat' first
    | with_reducible assumption
    | with_reducible apply goodO_next
    | intro _
    | with_reducible apply fetchStep_good

theorem execSumred_good {q : Kept} (hd : StepHdr) (v : VectorStep) {s : State} (h : Good q s) (w_regs : q.keep .regs = false := by assumption) (w_pages : q.keep .pages = false := by assumption) (w_msgs : q.keep .msgs = false := by assumption) (w_host : q.keep .host = false := by assumption) (w_faultLog : q.keep .faultLog = false := by assumption) (w_ws : q.keep .ws = false := by assumption) (w_act : q.keep .act = false := by assumption) (w_hbm : q.keep .hbm = false := by assumption) (w_caches : q.keep .caches = false := by assumption) (w_mem : q.keep .mem = false := by assumption) (w_sluice : q.keep .sluice = false := by assumption) (w_sync : q.keep .sync = false := by assumption) (w_work : q.keep .work = false := by assumption) (w_link : q.keep .link = false := by assumption) (w_freeCtr : q.keep .freeCtr = false := by assumption) : GoodO q (Sys2Proof.Machine.execSumred hd v s) := by
  unfold Sys2Proof.Machine.execSumred
  repeat' first
    | with_reducible assumption
    | with_reducible apply goodO_next
    | intro _
    | with_reducible apply fetchStep_good

theorem execMaxred_good {q : Kept} (hd : StepHdr) (v : VectorStep) {s : State} (h : Good q s) (w_regs : q.keep .regs = false := by assumption) (w_pages : q.keep .pages = false := by assumption) (w_msgs : q.keep .msgs = false := by assumption) (w_host : q.keep .host = false := by assumption) (w_faultLog : q.keep .faultLog = false := by assumption) (w_ws : q.keep .ws = false := by assumption) (w_act : q.keep .act = false := by assumption) (w_hbm : q.keep .hbm = false := by assumption) (w_caches : q.keep .caches = false := by assumption) (w_mem : q.keep .mem = false := by assumption) (w_sluice : q.keep .sluice = false := by assumption) (w_sync : q.keep .sync = false := by assumption) (w_work : q.keep .work = false := by assumption) (w_link : q.keep .link = false := by assumption) (w_freeCtr : q.keep .freeCtr = false := by assumption) : GoodO q (Sys2Proof.Machine.execMaxred hd v s) := by
  unfold Sys2Proof.Machine.execMaxred
  repeat' first
    | with_reducible assumption
    | with_reducible apply goodO_next
    | intro _
    | with_reducible apply fetchStep_good

theorem execArgmax_good {q : Kept} (hd : StepHdr) (v : VectorStep) {s : State} (h : Good q s) (w_regs : q.keep .regs = false := by assumption) (w_pages : q.keep .pages = false := by assumption) (w_msgs : q.keep .msgs = false := by assumption) (w_host : q.keep .host = false := by assumption) (w_faultLog : q.keep .faultLog = false := by assumption) (w_ws : q.keep .ws = false := by assumption) (w_act : q.keep .act = false := by assumption) (w_hbm : q.keep .hbm = false := by assumption) (w_caches : q.keep .caches = false := by assumption) (w_mem : q.keep .mem = false := by assumption) (w_sluice : q.keep .sluice = false := by assumption) (w_sync : q.keep .sync = false := by assumption) (w_work : q.keep .work = false := by assumption) (w_link : q.keep .link = false := by assumption) (w_freeCtr : q.keep .freeCtr = false := by assumption) : GoodO q (Sys2Proof.Machine.execArgmax hd v s) := by
  unfold Sys2Proof.Machine.execArgmax
  repeat' first
    | with_reducible assumption
    | with_reducible apply goodO_next
    | intro _
    | with_reducible apply fetchStep_good

theorem execRand_good {q : Kept} (hd : StepHdr) (v : VectorStep) {s : State} (h : Good q s) (w_regs : q.keep .regs = false := by assumption) (w_pages : q.keep .pages = false := by assumption) (w_msgs : q.keep .msgs = false := by assumption) (w_host : q.keep .host = false := by assumption) (w_faultLog : q.keep .faultLog = false := by assumption) (w_ws : q.keep .ws = false := by assumption) (w_act : q.keep .act = false := by assumption) (w_hbm : q.keep .hbm = false := by assumption) (w_caches : q.keep .caches = false := by assumption) (w_mem : q.keep .mem = false := by assumption) (w_sluice : q.keep .sluice = false := by assumption) (w_sync : q.keep .sync = false := by assumption) (w_work : q.keep .work = false := by assumption) (w_link : q.keep .link = false := by assumption) (w_freeCtr : q.keep .freeCtr = false := by assumption) : GoodO q (Sys2Proof.Machine.execRand hd v s) := by
  unfold Sys2Proof.Machine.execRand
  repeat' first
    | with_reducible assumption
    | with_reducible apply goodO_next
    | intro _
    | with_reducible apply fetchStep_good

theorem execSignal_good {q : Kept} (hd : StepHdr) (ctr : Nat) (value : Nat) {s : State} (h : Good q s) (w_regs : q.keep .regs = false := by assumption) (w_pages : q.keep .pages = false := by assumption) (w_msgs : q.keep .msgs = false := by assumption) (w_host : q.keep .host = false := by assumption) (w_faultLog : q.keep .faultLog = false := by assumption) (w_ws : q.keep .ws = false := by assumption) (w_act : q.keep .act = false := by assumption) (w_hbm : q.keep .hbm = false := by assumption) (w_caches : q.keep .caches = false := by assumption) (w_mem : q.keep .mem = false := by assumption) (w_sluice : q.keep .sluice = false := by assumption) (w_sync : q.keep .sync = false := by assumption) (w_work : q.keep .work = false := by assumption) (w_link : q.keep .link = false := by assumption) (w_freeCtr : q.keep .freeCtr = false := by assumption) : GoodO q (Sys2Proof.Machine.execSignal hd ctr value s) := by
  unfold Sys2Proof.Machine.execSignal
  repeat' first
    | with_reducible assumption
    | with_reducible apply goodO_next
    | intro _
    | with_reducible apply fetchStep_good

theorem execWait_good {q : Kept} (hd : StepHdr) (ctr : Nat) (value : Nat) {s : State} (h : Good q s) (w_regs : q.keep .regs = false := by assumption) (w_pages : q.keep .pages = false := by assumption) (w_msgs : q.keep .msgs = false := by assumption) (w_host : q.keep .host = false := by assumption) (w_faultLog : q.keep .faultLog = false := by assumption) (w_ws : q.keep .ws = false := by assumption) (w_act : q.keep .act = false := by assumption) (w_hbm : q.keep .hbm = false := by assumption) (w_caches : q.keep .caches = false := by assumption) (w_mem : q.keep .mem = false := by assumption) (w_sluice : q.keep .sluice = false := by assumption) (w_sync : q.keep .sync = false := by assumption) (w_work : q.keep .work = false := by assumption) (w_link : q.keep .link = false := by assumption) (w_freeCtr : q.keep .freeCtr = false := by assumption) : GoodO q (Sys2Proof.Machine.execWait hd ctr value s) := by
  unfold Sys2Proof.Machine.execWait
  repeat' first
    | with_reducible assumption
    | with_reducible apply goodO_next
    | intro _
    | with_reducible apply fetchStep_good

theorem execWaitDec_good {q : Kept} (hd : StepHdr) (ctr : Nat) (value : Nat) {s : State} (h : Good q s) (w_regs : q.keep .regs = false := by assumption) (w_pages : q.keep .pages = false := by assumption) (w_msgs : q.keep .msgs = false := by assumption) (w_host : q.keep .host = false := by assumption) (w_faultLog : q.keep .faultLog = false := by assumption) (w_ws : q.keep .ws = false := by assumption) (w_act : q.keep .act = false := by assumption) (w_hbm : q.keep .hbm = false := by assumption) (w_caches : q.keep .caches = false := by assumption) (w_mem : q.keep .mem = false := by assumption) (w_sluice : q.keep .sluice = false := by assumption) (w_sync : q.keep .sync = false := by assumption) (w_work : q.keep .work = false := by assumption) (w_link : q.keep .link = false := by assumption) (w_freeCtr : q.keep .freeCtr = false := by assumption) : GoodO q (Sys2Proof.Machine.execWaitDec hd ctr value s) := by
  unfold Sys2Proof.Machine.execWaitDec
  repeat' first
    | with_reducible assumption
    | with_reducible apply goodO_next
    | intro _
    | with_reducible apply fetchStep_good

theorem execSet_good {q : Kept} (hd : StepHdr) (ctr : Nat) (value : Nat) {s : State} (h : Good q s) (w_regs : q.keep .regs = false := by assumption) (w_pages : q.keep .pages = false := by assumption) (w_msgs : q.keep .msgs = false := by assumption) (w_host : q.keep .host = false := by assumption) (w_faultLog : q.keep .faultLog = false := by assumption) (w_ws : q.keep .ws = false := by assumption) (w_act : q.keep .act = false := by assumption) (w_hbm : q.keep .hbm = false := by assumption) (w_caches : q.keep .caches = false := by assumption) (w_mem : q.keep .mem = false := by assumption) (w_sluice : q.keep .sluice = false := by assumption) (w_sync : q.keep .sync = false := by assumption) (w_work : q.keep .work = false := by assumption) (w_link : q.keep .link = false := by assumption) (w_freeCtr : q.keep .freeCtr = false := by assumption) : GoodO q (Sys2Proof.Machine.execSet hd ctr value s) := by
  unfold Sys2Proof.Machine.execSet
  repeat' first
    | with_reducible assumption
    | with_reducible apply goodO_next
    | intro _
    | with_reducible apply fetchStep_good

theorem execSignalRemote_good {q : Kept} (hd : StepHdr) (m : Nat) (ctr : Nat) (value : Nat) {s : State} (h : Good q s) (w_regs : q.keep .regs = false := by assumption) (w_pages : q.keep .pages = false := by assumption) (w_msgs : q.keep .msgs = false := by assumption) (w_host : q.keep .host = false := by assumption) (w_faultLog : q.keep .faultLog = false := by assumption) (w_ws : q.keep .ws = false := by assumption) (w_act : q.keep .act = false := by assumption) (w_hbm : q.keep .hbm = false := by assumption) (w_caches : q.keep .caches = false := by assumption) (w_mem : q.keep .mem = false := by assumption) (w_sluice : q.keep .sluice = false := by assumption) (w_sync : q.keep .sync = false := by assumption) (w_work : q.keep .work = false := by assumption) (w_link : q.keep .link = false := by assumption) (w_freeCtr : q.keep .freeCtr = false := by assumption) : GoodO q (Sys2Proof.Machine.execSignalRemote hd m ctr value s) := by
  unfold Sys2Proof.Machine.execSignalRemote
  repeat' first
    | with_reducible assumption
    | with_reducible apply goodO_next
    | intro _
    | with_reducible apply fetchStep_good

theorem execTaskPost_good {q : Kept} (hd : StepHdr) (dlist : Nat) (delay : Nat) (item : List Byte) {s : State} (h : Good q s) (w_regs : q.keep .regs = false := by assumption) (w_pages : q.keep .pages = false := by assumption) (w_msgs : q.keep .msgs = false := by assumption) (w_host : q.keep .host = false := by assumption) (w_faultLog : q.keep .faultLog = false := by assumption) (w_ws : q.keep .ws = false := by assumption) (w_act : q.keep .act = false := by assumption) (w_hbm : q.keep .hbm = false := by assumption) (w_caches : q.keep .caches = false := by assumption) (w_mem : q.keep .mem = false := by assumption) (w_sluice : q.keep .sluice = false := by assumption) (w_sync : q.keep .sync = false := by assumption) (w_work : q.keep .work = false := by assumption) (w_link : q.keep .link = false := by assumption) (w_freeCtr : q.keep .freeCtr = false := by assumption) : GoodO q (Sys2Proof.Machine.execTaskPost hd dlist delay item s) := by
  unfold Sys2Proof.Machine.execTaskPost
  repeat' first
    | with_reducible assumption
    | with_reducible apply goodO_next
    | intro _
    | with_reducible apply fetchStep_good

theorem execChainMark_good {q : Kept} (hd : StepHdr) (c : Nat) (m : Nat) {s : State} (h : Good q s) (w_regs : q.keep .regs = false := by assumption) (w_pages : q.keep .pages = false := by assumption) (w_msgs : q.keep .msgs = false := by assumption) (w_host : q.keep .host = false := by assumption) (w_faultLog : q.keep .faultLog = false := by assumption) (w_ws : q.keep .ws = false := by assumption) (w_act : q.keep .act = false := by assumption) (w_hbm : q.keep .hbm = false := by assumption) (w_caches : q.keep .caches = false := by assumption) (w_mem : q.keep .mem = false := by assumption) (w_sluice : q.keep .sluice = false := by assumption) (w_sync : q.keep .sync = false := by assumption) (w_work : q.keep .work = false := by assumption) (w_link : q.keep .link = false := by assumption) (w_freeCtr : q.keep .freeCtr = false := by assumption) : GoodO q (Sys2Proof.Machine.execChainMark hd c m s) := by
  unfold Sys2Proof.Machine.execChainMark
  repeat' first
    | with_reducible assumption
    | with_reducible apply goodO_next
    | intro _
    | with_reducible apply fetchStep_good

theorem execChainRewind_good {q : Kept} (hd : StepHdr) (c : Nat) (m : Nat) {s : State} (h : Good q s) (w_regs : q.keep .regs = false := by assumption) (w_pages : q.keep .pages = false := by assumption) (w_msgs : q.keep .msgs = false := by assumption) (w_host : q.keep .host = false := by assumption) (w_faultLog : q.keep .faultLog = false := by assumption) (w_ws : q.keep .ws = false := by assumption) (w_act : q.keep .act = false := by assumption) (w_hbm : q.keep .hbm = false := by assumption) (w_caches : q.keep .caches = false := by assumption) (w_mem : q.keep .mem = false := by assumption) (w_sluice : q.keep .sluice = false := by assumption) (w_sync : q.keep .sync = false := by assumption) (w_work : q.keep .work = false := by assumption) (w_link : q.keep .link = false := by assumption) (w_freeCtr : q.keep .freeCtr = false := by assumption) : GoodO q (Sys2Proof.Machine.execChainRewind hd c m s) := by
  unfold Sys2Proof.Machine.execChainRewind
  repeat' first
    | with_reducible assumption
    | with_reducible apply goodO_next
    | intro _
    | with_reducible apply fetchStep_good

theorem execChainRelease_good {q : Kept} (hd : StepHdr) (c : Nat) (m : Nat) {s : State} (h : Good q s) (w_regs : q.keep .regs = false := by assumption) (w_pages : q.keep .pages = false := by assumption) (w_msgs : q.keep .msgs = false := by assumption) (w_host : q.keep .host = false := by assumption) (w_faultLog : q.keep .faultLog = false := by assumption) (w_ws : q.keep .ws = false := by assumption) (w_act : q.keep .act = false := by assumption) (w_hbm : q.keep .hbm = false := by assumption) (w_caches : q.keep .caches = false := by assumption) (w_mem : q.keep .mem = false := by assumption) (w_sluice : q.keep .sluice = false := by assumption) (w_sync : q.keep .sync = false := by assumption) (w_work : q.keep .work = false := by assumption) (w_link : q.keep .link = false := by assumption) (w_freeCtr : q.keep .freeCtr = false := by assumption) : GoodO q (Sys2Proof.Machine.execChainRelease hd c m s) := by
  unfold Sys2Proof.Machine.execChainRelease
  repeat' first
    | with_reducible assumption
    | with_reducible apply goodO_next
    | intro _
    | with_reducible apply fetchStep_good

theorem execChainCommit_good {q : Kept} (hd : StepHdr) (c : Nat) {s : State} (h : Good q s) (w_regs : q.keep .regs = false := by assumption) (w_pages : q.keep .pages = false := by assumption) (w_msgs : q.keep .msgs = false := by assumption) (w_host : q.keep .host = false := by assumption) (w_faultLog : q.keep .faultLog = false := by assumption) (w_ws : q.keep .ws = false := by assumption) (w_act : q.keep .act = false := by assumption) (w_hbm : q.keep .hbm = false := by assumption) (w_caches : q.keep .caches = false := by assumption) (w_mem : q.keep .mem = false := by assumption) (w_sluice : q.keep .sluice = false := by assumption) (w_sync : q.keep .sync = false := by assumption) (w_work : q.keep .work = false := by assumption) (w_link : q.keep .link = false := by assumption) (w_freeCtr : q.keep .freeCtr = false := by assumption) : GoodO q (Sys2Proof.Machine.execChainCommit hd c s) := by
  unfold Sys2Proof.Machine.execChainCommit
  repeat' first
    | with_reducible assumption
    | with_reducible apply goodO_next
    | intro _
    | with_reducible apply fetchStep_good

theorem execSeal_good {q : Kept} (hd : StepHdr) (x : SealStep) {s : State} (h : Good q s) (w_regs : q.keep .regs = false := by assumption) (w_pages : q.keep .pages = false := by assumption) (w_msgs : q.keep .msgs = false := by assumption) (w_host : q.keep .host = false := by assumption) (w_faultLog : q.keep .faultLog = false := by assumption) (w_ws : q.keep .ws = false := by assumption) (w_act : q.keep .act = false := by assumption) (w_hbm : q.keep .hbm = false := by assumption) (w_caches : q.keep .caches = false := by assumption) (w_mem : q.keep .mem = false := by assumption) (w_sluice : q.keep .sluice = false := by assumption) (w_sync : q.keep .sync = false := by assumption) (w_work : q.keep .work = false := by assumption) (w_link : q.keep .link = false := by assumption) (w_freeCtr : q.keep .freeCtr = false := by assumption) : GoodO q (Sys2Proof.Machine.execSeal hd x s) := by
  unfold Sys2Proof.Machine.execSeal
  repeat' first
    | with_reducible assumption
    | with_reducible apply goodO_next
    | intro _
    | with_reducible apply fetchStep_good

theorem execFenceFull_good {q : Kept} (hd : StepHdr) {s : State} (h : Good q s) (w_regs : q.keep .regs = false := by assumption) (w_pages : q.keep .pages = false := by assumption) (w_msgs : q.keep .msgs = false := by assumption) (w_host : q.keep .host = false := by assumption) (w_faultLog : q.keep .faultLog = false := by assumption) (w_ws : q.keep .ws = false := by assumption) (w_act : q.keep .act = false := by assumption) (w_hbm : q.keep .hbm = false := by assumption) (w_caches : q.keep .caches = false := by assumption) (w_mem : q.keep .mem = false := by assumption) (w_sluice : q.keep .sluice = false := by assumption) (w_sync : q.keep .sync = false := by assumption) (w_work : q.keep .work = false := by assumption) (w_link : q.keep .link = false := by assumption) (w_freeCtr : q.keep .freeCtr = false := by assumption) : GoodO q (Sys2Proof.Machine.execFenceFull hd s) := by
  unfold Sys2Proof.Machine.execFenceFull
  repeat' first
    | with_reducible assumption
    | with_reducible apply goodO_next
    | intro _
    | with_reducible apply fetchStep_good

theorem execFenceStore_good {q : Kept} (hd : StepHdr) {s : State} (h : Good q s) (w_regs : q.keep .regs = false := by assumption) (w_pages : q.keep .pages = false := by assumption) (w_msgs : q.keep .msgs = false := by assumption) (w_host : q.keep .host = false := by assumption) (w_faultLog : q.keep .faultLog = false := by assumption) (w_ws : q.keep .ws = false := by assumption) (w_act : q.keep .act = false := by assumption) (w_hbm : q.keep .hbm = false := by assumption) (w_caches : q.keep .caches = false := by assumption) (w_mem : q.keep .mem = false := by assumption) (w_sluice : q.keep .sluice = false := by assumption) (w_sync : q.keep .sync = false := by assumption) (w_work : q.keep .work = false := by assumption) (w_link : q.keep .link = false := by assumption) (w_freeCtr : q.keep .freeCtr = false := by assumption) : GoodO q (Sys2Proof.Machine.execFenceStore hd s) := by
  unfold Sys2Proof.Machine.execFenceStore
  repeat' first
    | with_reducible assumption
    | with_reducible apply goodO_next
    | intro _
    | with_reducible apply fetchStep_good

theorem execFlagsOut_good {q : Kept} (hd : StepHdr) (dst : OpRef) {s : State} (h : Good q s) (w_regs : q.keep .regs = false := by assumption) (w_pages : q.keep .pages = false := by assumption) (w_msgs : q.keep .msgs = false := by assumption) (w_host : q.keep .host = false := by assumption) (w_faultLog : q.keep .faultLog = false := by assumption) (w_ws : q.keep .ws = false := by assumption) (w_act : q.keep .act = false := by assumption) (w_hbm : q.keep .hbm = false := by assumption) (w_caches : q.keep .caches = false := by assumption) (w_mem : q.keep .mem = false := by assumption) (w_sluice : q.keep .sluice = false := by assumption) (w_sync : q.keep .sync = false := by assumption) (w_work : q.keep .work = false := by assumption) (w_link : q.keep .link = false := by assumption) (w_freeCtr : q.keep .freeCtr = false := by assumption) : GoodO q (Sys2Proof.Machine.execFlagsOut hd dst s) := by
  unfold Sys2Proof.Machine.execFlagsOut
  repeat' first
    | with_reducible assumption
    | with_reducible apply goodO_next
    | intro _
    | with_reducible apply fetchStep_good

theorem execFlagsClr_good {q : Kept} (hd : StepHdr) (mask : Nat) {s : State} (h : Good q s) (w_regs : q.keep .regs = false := by assumption) (w_pages : q.keep .pages = false := by assumption) (w_msgs : q.keep .msgs = false := by assumption) (w_host : q.keep .host = false := by assumption) (w_faultLog : q.keep .faultLog = false := by assumption) (w_ws : q.keep .ws = false := by assumption) (w_act : q.keep .act = false := by assumption) (w_hbm : q.keep .hbm = false := by assumption) (w_caches : q.keep .caches = false := by assumption) (w_mem : q.keep .mem = false := by assumption) (w_sluice : q.keep .sluice = false := by assumption) (w_sync : q.keep .sync = false := by assumption) (w_work : q.keep .work = false := by assumption) (w_link : q.keep .link = false := by assumption) (w_freeCtr : q.keep .freeCtr = false := by assumption) : GoodO q (Sys2Proof.Machine.execFlagsClr hd mask s) := by
  unfold Sys2Proof.Machine.execFlagsClr
  repeat' first
    | with_reducible assumption
    | with_reducible apply goodO_next
    | intro _
    | with_reducible apply fetchStep_good

theorem execSaltSet_good {q : Kept} (hd : StepHdr) (imm : Nat) {s : State} (h : Good q s) (w_regs : q.keep .regs = false := by assumption) (w_pages : q.keep .pages = false := by assumption) (w_msgs : q.keep .msgs = false := by assumption) (w_host : q.keep .host = false := by assumption) (w_faultLog : q.keep .faultLog = false := by assumption) (w_ws : q.keep .ws = false := by assumption) (w_act : q.keep .act = false := by assumption) (w_hbm : q.keep .hbm = false := by assumption) (w_caches : q.keep .caches = false := by assumption) (w_mem : q.keep .mem = false := by assumption) (w_sluice : q.keep .sluice = false := by assumption) (w_sync : q.keep .sync = false := by assumption) (w_work : q.keep .work = false := by assumption) (w_link : q.keep .link = false := by assumption) (w_freeCtr : q.keep .freeCtr = false := by assumption) : GoodO q (Sys2Proof.Machine.execSaltSet hd imm s) := by
  unfold Sys2Proof.Machine.execSaltSet
  repeat' first
    | with_reducible assumption
    | with_reducible apply goodO_next
    | intro _
    | with_reducible apply fetchStep_good

theorem execSeta_good {q : Kept} (hd : StepHdr) (areg : Nat) (imm : Nat) {s : State} (h : Good q s) (w_regs : q.keep .regs = false := by assumption) (w_pages : q.keep .pages = false := by assumption) (w_msgs : q.keep .msgs = false := by assumption) (w_host : q.keep .host = false := by assumption) (w_faultLog : q.keep .faultLog = false := by assumption) (w_ws : q.keep .ws = false := by assumption) (w_act : q.keep .act = false := by assumption) (w_hbm : q.keep .hbm = false := by assumption) (w_caches : q.keep .caches = false := by assumption) (w_mem : q.keep .mem = false := by assumption) (w_sluice : q.keep .sluice = false := by assumption) (w_sync : q.keep .sync = false := by assumption) (w_work : q.keep .work = false := by assumption) (w_link : q.keep .link = false := by assumption) (w_freeCtr : q.keep .freeCtr = false := by assumption) : GoodO q (Sys2Proof.Machine.execSeta hd areg imm s) := by
  unfold Sys2Proof.Machine.execSeta
  repeat' first
    | with_reducible assumption
    | with_reducible apply goodO_next
    | intro _
    | with_reducible apply fetchStep_good

theorem execAdda_good {q : Kept} (hd : StepHdr) (areg : Nat) (imm : Nat) {s : State} (h : Good q s) (w_regs : q.keep .regs = false := by assumption) (w_pages : q.keep .pages = false := by assumption) (w_msgs : q.keep .msgs = false := by assumption) (w_host : q.keep .host = false := by assumption) (w_faultLog : q.keep .faultLog = false := by assumption) (w_ws : q.keep .ws = false := by assumption) (w_act : q.keep .act = false := by assumption) (w_hbm : q.keep .hbm = false := by assumption) (w_caches : q.keep .caches = false := by assumption) (w_mem : q.keep .mem = false := by assumption) (w_sluice : q.keep .sluice = false := by assumption) (w_sync : q.keep .sync = false := by assumption) (w_work : q.keep .work = false := by assumption) (w_link : q.keep .link = false := by assumption) (w_freeCtr : q.keep .freeCtr = false := by assumption) : GoodO q (Sys2Proof.Machine.execAdda hd areg imm s) := by
  unfold Sys2Proof.Machine.execAdda
  repeat' first
    | with_reducible assumption
    | with_reducible apply goodO_next
    | intro _
    | with_reducible apply fetchStep_good

theorem execLoop_good {q : Kept} (hd : StepHdr) (areg : Nat) (target : Nat) {s : State} (h : Good q s) (w_regs : q.keep .regs = false := by assumption) (w_pages : q.keep .pages = false := by assumption) (w_msgs : q.keep .msgs = false := by assumption) (w_host : q.keep .host = false := by assumption) (w_faultLog : q.keep .faultLog = false := by assumption) (w_ws : q.keep .ws = false := by assumption) (w_act : q.keep .act = false := by assumption) (w_hbm : q.keep .hbm = false := by assumption) (w_caches : q.keep .caches = false := by assumption) (w_mem : q.keep .mem = false := by assumption) (w_sluice : q.keep .sluice = false := by assumption) (w_sync : q.keep .sync = false := by assumption) (w_work : q.keep .work = false := by assumption) (w_link : q.keep .link = false := by assumption) (w_freeCtr : q.keep .freeCtr = false := by assumption) : GoodO q (Sys2Proof.Machine.execLoop hd areg target s) := by
  unfold Sys2Proof.Machine.execLoop
  repeat' first
    | with_reducible assumption
    | with_reducible apply goodO_next
    | intro _
    | with_reducible apply fetchStep_good

theorem execJump_good {q : Kept} (hd : StepHdr) (target : Nat) {s : State} (h : Good q s) (w_regs : q.keep .regs = false := by assumption) (w_pages : q.keep .pages = false := by assumption) (w_msgs : q.keep .msgs = false := by assumption) (w_host : q.keep .host = false := by assumption) (w_faultLog : q.keep .faultLog = false := by assumption) (w_ws : q.keep .ws = false := by assumption) (w_act : q.keep .act = false := by assumption) (w_hbm : q.keep .hbm = false := by assumption) (w_caches : q.keep .caches = false := by assumption) (w_mem : q.keep .mem = false := by assumption) (w_sluice : q.keep .sluice = false := by assumption) (w_sync : q.keep .sync = false := by assumption) (w_work : q.keep .work = false := by assumption) (w_link : q.keep .link = false := by assumption) (w_freeCtr : q.keep .freeCtr = false := by assumption) : GoodO q (Sys2Proof.Machine.execJump hd target s) := by
  unfold Sys2Proof.Machine.execJump
  repeat' first
    | with_reducible assumption
    | with_reducible apply goodO_next
    | intro _
    | with_reducible apply fetchStep_good

theorem execStepComplete_good {q : Kept} (core : Nat) (slot : Nat) (order : Nat) {s : State} (h : Good q s) (w_regs : q.keep .regs = false := by assumption) (w_pages : q.keep .pages = false := by assumption) (w_msgs : q.keep .msgs = false := by assumption) (w_host : q.keep .host = false := by assumption) (w_faultLog : q.keep .faultLog = false := by assumption) (w_ws : q.keep .ws = false := by assumption) (w_act : q.keep .act = false := by assumption) (w_hbm : q.keep .hbm = false := by assumption) (w_caches : q.keep .caches = false := by assumption) (w_mem : q.keep .mem = false := by assumption) (w_sluice : q.keep .sluice = false := by assumption) (w_sync : q.keep .sync = false := by assumption) (w_work : q.keep .work = false := by assumption) (w_link : q.keep .link = false := by assumption) (w_freeCtr : q.keep .freeCtr = false := by assumption) : GoodO q (Sys2Proof.Machine.execStepComplete core slot order s) := by
  unfold Sys2Proof.Machine.execStepComplete
  repeat' first
    | with_reducible assumption
    | with_reducible apply goodO_next
    | intro _
    | with_reducible apply event_good
    | with_reducible apply State_tryComplete_good
    | with_reducible apply State_pump_good
    | with_reducible apply good_foldl
    | with_reducible apply good_foldl_fst
    | split

theorem execCellGrant_good {q : Kept} (c : Nat) {s : State} (h : Good q s) (w_regs : q.keep .regs = false := by assumption) (w_pages : q.keep .pages = false := by assumption) (w_msgs : q.keep .msgs = false := by assumption) (w_host : q.keep .host = false := by assumption) (w_faultLog : q.keep .faultLog = false := by assumption) (w_ws : q.keep .ws = false := by assumption) (w_act : q.keep .act = false := by assumption) (w_hbm : q.keep .hbm = false := by assumption) (w_caches : q.keep .caches = false := by assumption) (w_mem : q.keep .mem = false := by assumption) (w_sluice : q.keep .sluice = false := by assumption) (w_sync : q.keep .sync = false := by assumption) (w_work : q.keep .work = false := by assumption) (w_link : q.keep .link = false := by assumption) (w_freeCtr : q.keep .freeCtr = false := by assumption) : GoodO q (Sys2Proof.Machine.execCellGrant c s) := by
  unfold Sys2Proof.Machine.execCellGrant
  repeat' first
    | with_reducible assumption
    | with_reducible apply goodO_next
    | intro _
    | with_reducible apply event_good
    | with_reducible apply State_setChain_good
    | with_reducible apply State_watched_good
    | with_reducible apply State_openChild_good
    | with_reducible apply State_openArrival_good
    | with_reducible apply State_pump_good
    | with_reducible apply good_foldl
    | with_reducible apply good_foldl_fst
    | split
    | with_reducible refine good_fst (by assumption) ?_
    | with_reducible refine good_snd (by assumption) ?_
    | with_reducible refine good_snd2 (by assumption) ?_
    | dsimp only

theorem execChainOpComplete_good {q : Kept} (c : Nat) {s : State} (h : Good q s) (w_regs : q.keep .regs = false := by assumption) (w_pages : q.keep .pages = false := by assumption) (w_msgs : q.keep .msgs = false := by assumption) (w_host : q.keep .host = false := by assumption) (w_faultLog : q.keep .faultLog = false := by assumption) (w_ws : q.keep .ws = false := by assumption) (w_act : q.keep .act = false := by assumption) (w_hbm : q.keep .hbm = false := by assumption) (w_caches : q.keep .caches = false := by assumption) (w_mem : q.keep .mem = false := by assumption) (w_sluice : q.keep .sluice = false := by assumption) (w_sync : q.keep .sync = false := by assumption) (w_work : q.keep .work = false := by assumption) (w_link : q.keep .link = false := by assumption) (w_freeCtr : q.keep .freeCtr = false := by assumption) : GoodO q (Sys2Proof.Machine.execChainOpComplete c s) := by
  unfold Sys2Proof.Machine.execChainOpComplete
  repeat' first
    | with_reducible assumption
    | with_reducible apply goodO_next
    | intro _
    | with_reducible apply State_pump_good
    | with_reducible apply State_ran_good
    | with_reducible apply State_chainEffect_good
    | with_reducible apply State_runFinishes_good
    | with_reducible apply State_setChain_good
    | with_reducible apply event_good
    | with_reducible apply State_flag_good
    | with_reducible apply good_foldl
    | with_reducible apply good_foldl_fst
    | split
    | with_reducible refine good_fst (by assumption) ?_
    | with_reducible refine good_snd (by assumption) ?_
    | with_reducible refine good_snd2 (by assumption) ?_
    | dsimp only

theorem execStoreEntryGrant_good {q : Kept} (k : Nat) {s : State} (h : Good q s) (w_regs : q.keep .regs = false := by assumption) (w_pages : q.keep .pages = false := by assumption) (w_msgs : q.keep .msgs = false := by assumption) (w_host : q.keep .host = false := by assumption) (w_faultLog : q.keep .faultLog = false := by assumption) (w_ws : q.keep .ws = false := by assumption) (w_act : q.keep .act = false := by assumption) (w_hbm : q.keep .hbm = false := by assumption) (w_caches : q.keep .caches = false := by assumption) (w_mem : q.keep .mem = false := by assumption) (w_sluice : q.keep .sluice = false := by assumption) (w_sync : q.keep .sync = false := by assumption) (w_work : q.keep .work = false := by assumption) (w_link : q.keep .link = false := by assumption) (w_freeCtr : q.keep .freeCtr = false := by assumption) : GoodO q (Sys2Proof.Machine.execStoreEntryGrant k s) := by
  unfold Sys2Proof.Machine.execStoreEntryGrant
  repeat' first
    | with_reducible assumption
    | with_reducible apply goodO_next
    | intro _
    | with_reducible apply event_good
    | with_reducible apply State_setChannel_good
    | with_reducible apply State_ran_good
    | with_reducible apply State_pump_good
    | with_reducible apply good_foldl
    | with_reducible apply good_foldl_fst
    | split
    | with_reducible refine good_fst (by assumption) ?_
    | with_reducible refine good_snd (by assumption) ?_
    | with_reducible refine good_snd2 (by assumption) ?_
    | with_reducible refine State_post_good (by assumption) ?_
    | dsimp only

end Sys2Proof.Laws
end

