-- ==== Sys2Proof/Laws/KeepContext.lean ====
section
/-!
SUPPORT. What the operations of Machine/Context.lean keep.
-/

set_option Elab.async false

namespace Sys2Proof.Laws

open Sys2Proof.Machine

theorem State_noRecord_good {q : Kept} {s : State} (core : Nat) (slot : Nat) (r : Running) (h : Good q s) (w_pages : q.keep .pages = false := by assumption) (w_freeCtr : q.keep .freeCtr = false := by assumption) : Good q (Sys2Proof.Machine.State.noRecord s core slot r) := by
  unfold Sys2Proof.Machine.State.noRecord
  repeat' first
    | with_reducible assumption
    | with_reducible apply goodO_next
    | intro _
    | with_reducible apply State_capture_good
    | with_reducible apply State_drawFree_good

theorem State_preemptSlot_good {q : Kept} {s : State} (core : Nat) (slot : Nat) (h : Good q s) (w_regs : q.keep .regs = false := by assumption) (w_pages : q.keep .pages = false := by assumption) (w_msgs : q.keep .msgs = false := by assumption) (w_faultLog : q.keep .faultLog = false := by assumption) (w_hbm : q.keep .hbm = false := by assumption) (w_caches : q.keep .caches = false := by assumption) (w_mem : q.keep .mem = false := by assumption) (w_sync : q.keep .sync = false := by assumption) (w_work : q.keep .work = false := by assumption) (w_link : q.keep .link = false := by assumption) (w_freeCtr : q.keep .freeCtr = false := by assumption) : Good q (Sys2Proof.Machine.State.preemptSlot s core slot) := by
  unfold Sys2Proof.Machine.State.preemptSlot
  repeat' first
    | with_reducible assumption
    | with_reducible apply goodO_next
    | intro _
    | with_reducible apply State_noRecord_good
    | with_reducible apply State_reloadNow_good
    | with_reducible apply State_slotRefresh_good
    | with_reducible apply State_setRunning_good
    | with_reducible apply State_withdrawWait_good
    | with_reducible apply good_foldl
    | with_reducible apply good_foldl_fst
    | split
    | with_reducible refine good_fst (by assumption) ?_
    | with_reducible refine good_snd (by assumption) ?_
    | with_reducible refine good_snd2 (by assumption) ?_
    | dsimp only

theorem execSeqPreempt_good {q : Kept} (fn : Nat) (core : Nat) (mask : Nat) {s : State} (h : Good q s) (w_regs : q.keep .regs = false := by assumption) (w_pages : q.keep .pages = false := by assumption) (w_msgs : q.keep .msgs = false := by assumption) (w_faultLog : q.keep .faultLog = false := by assumption) (w_hbm : q.keep .hbm = false := by assumption) (w_caches : q.keep .caches = false := by assumption) (w_mem : q.keep .mem = false := by assumption) (w_sync : q.keep .sync = false := by assumption) (w_work : q.keep .work = false := by assumption) (w_link : q.keep .link = false := by assumption) (w_freeCtr : q.keep .freeCtr = false := by assumption) (w_held : q.keep .held = false := by assumption) : GoodO q (Sys2Proof.Machine.execSeqPreempt fn core mask s) := by
  unfold Sys2Proof.Machine.execSeqPreempt
  repeat' first
    | with_reducible assumption
    | with_reducible apply goodO_next
    | intro _
    | with_reducible apply State_preemptSlot_good
    | with_reducible apply command_good
    | with_reducible apply good_foldl

theorem State_stopStep_good {q : Kept} {s : State} (core : Nat) (r : Running) (e : Entry) (p : StepPos) (h : Good q s) (w_regs : q.keep .regs = false := by assumption) (w_pages : q.keep .pages = false := by assumption) (w_msgs : q.keep .msgs = false := by assumption) (w_host : q.keep .host = false := by assumption) (w_faultLog : q.keep .faultLog = false := by assumption) (w_ws : q.keep .ws = false := by assumption) (w_act : q.keep .act = false := by assumption) (w_hbm : q.keep .hbm = false := by assumption) (w_caches : q.keep .caches = false := by assumption) (w_mem : q.keep .mem = false := by assumption) (w_work : q.keep .work = false := by assumption) (w_link : q.keep .link = false := by assumption) (w_freeCtr : q.keep .freeCtr = false := by assumption) : Good q (Sys2Proof.Machine.State.stopStep s core r e p).1 := by
  unfold Sys2Proof.Machine.State.stopStep
  repeat' first
    | with_reducible assumption
    | with_reducible apply goodO_next
    | intro _
    | with_reducible apply State_writeAll_good
    | with_reducible apply State_countStep_good
    | with_reducible apply State_runMatmul_good
    | with_reducible apply State_runMatvec_good
    | with_reducible apply good_foldl
    | with_reducible apply good_foldl_fst
    | split
    | with_reducible refine good_fst (by assumption) ?_

theorem State_stopSteps_good {q : Kept} (r0 : List (Entry × StepPos)) (w_regs : q.keep .regs = false := by assumption) (w_pages : q.keep .pages = false := by assumption) (w_msgs : q.keep .msgs = false := by assumption) (w_host : q.keep .host = false := by assumption) (w_faultLog : q.keep .faultLog = false := by assumption) (w_ws : q.keep .ws = false := by assumption) (w_act : q.keep .act = false := by assumption) (w_hbm : q.keep .hbm = false := by assumption) (w_caches : q.keep .caches = false := by assumption) (w_mem : q.keep .mem = false := by assumption) (w_work : q.keep .work = false := by assumption) (w_link : q.keep .link = false := by assumption) (w_freeCtr : q.keep .freeCtr = false := by assumption) : ∀ (s : State) (core : Nat) (r : Running), Good q s → Good q (Sys2Proof.Machine.State.stopSteps s core r r0).1 := by
  induction r0 with
  | nil =>
    intro s core r h
    unfold Sys2Proof.Machine.State.stopSteps
    repeat' first
      | with_reducible assumption
  | cons a as ih =>
    intro s core r h
    unfold Sys2Proof.Machine.State.stopSteps
    repeat' first
      | with_reducible assumption
      | with_reducible apply goodO_next
      | intro _
      | with_reducible apply ih
      | with_reducible apply State_stopStep_good
      | with_reducible apply good_foldl
      | with_reducible apply good_foldl_fst
      | split
      | with_reducible refine good_fst (by assumption) ?_

theorem State_recordWords_good {q : Kept} (r0 : List Entry) (w_freeCtr : q.keep .freeCtr = false := by assumption) : ∀ (s : State), Good q s → Good q (Sys2Proof.Machine.State.recordWords s r0).2 := by
  induction r0 with
  | nil =>
    intro s h
    unfold Sys2Proof.Machine.State.recordWords
    repeat' first
      | with_reducible assumption
  | cons a as ih =>
    intro s h
    unfold Sys2Proof.Machine.State.recordWords
    repeat' first
      | with_reducible assumption
      | with_reducible apply goodO_next
      | intro _
      | with_reducible apply ih
      | with_reducible apply good_foldl
      | with_reducible apply good_foldl_fst
      | split
      | with_reducible refine good_fst (by assumption) ?_
      | with_reducible refine good_snd (by assumption) ?_
      | with_reducible refine good_snd2 (by assumption) ?_
      | dsimp only
      | with_reducible refine good_mk (t := _) ?_ rfl rfl rfl rfl rfl rfl rfl rfl

theorem State_drawBytes_good {q : Kept} {s : State} (n : Nat) (h : Good q s) (w_freeCtr : q.keep .freeCtr = false := by assumption) : Good q (Sys2Proof.Machine.State.drawBytes s n).2 := by
  unfold Sys2Proof.Machine.State.drawBytes
  repeat' first
    | with_reducible assumption
    | with_reducible apply goodO_next
    | intro _
    | with_reducible apply good_foldl
    | with_reducible apply good_foldl_fst
    | split
    | with_reducible refine good_fst (by assumption) ?_
    | with_reducible refine good_snd (by assumption) ?_
    | with_reducible refine good_snd2 (by assumption) ?_
    | dsimp only
    | with_reducible refine good_mk (t := _) ?_ rfl rfl rfl rfl rfl rfl rfl rfl

theorem execPreemptSave_good {q : Kept} (core : Nat) (slot : Nat) (stops : List StepPos) {s : State} (h : Good q s) (w_regs : q.keep .regs = false := by assumption) (w_pages : q.keep .pages = false := by assumption) (w_msgs : q.keep .msgs = false := by assumption) (w_host : q.keep .host = false := by assumption) (w_faultLog : q.keep .faultLog = false := by assumption) (w_ws : q.keep .ws = false := by assumption) (w_act : q.keep .act = false := by assumption) (w_hbm : q.keep .hbm = false := by assumption) (w_caches : q.keep .caches = false := by assumption) (w_mem : q.keep .mem = false := by assumption) (w_work : q.keep .work = false := by assumption) (w_link : q.keep .link = false := by assumption) (w_freeCtr : q.keep .freeCtr = false := by assumption) : GoodO q (Sys2Proof.Machine.execPreemptSave core slot stops s) := by
  unfold Sys2Proof.Machine.execPreemptSave
  repeat' first
    | with_reducible assumption
    | with_reducible apply goodO_next
    | intro _
    | with_reducible apply State_drawBytes_good
    | with_reducible apply State_recordWords_good
    | with_reducible apply State_stopSteps_good
    | with_reducible apply State_slotRefresh_good
    | with_reducible apply State_setEntry_good
    | with_reducible apply State_setRunning_good
    | with_reducible apply State_flowEnds_good
    | with_reducible apply State_storeWrite_good
    | with_reducible apply event_good
    | with_reducible apply State_raise_good
    | with_reducible apply good_foldl
    | with_reducible apply good_foldl_fst
    | split
    | with_reducible refine good_fst (by assumption) ?_
    | with_reducible refine good_snd (by assumption) ?_
    | with_reducible refine good_snd2 (by assumption) ?_
    | dsimp only
    | with_reducible refine good_mk (t := _) ?_ rfl rfl rfl rfl rfl rfl rfl rfl

theorem State_tokenRefused_good {q : Kept} {s : State} (core : Nat) (h : Good q s) (w_pages : q.keep .pages = false := by assumption) : Good q (Sys2Proof.Machine.State.tokenRefused s core) := by
  unfold Sys2Proof.Machine.State.tokenRefused
  repeat' first
    | with_reducible assumption
    | with_reducible apply goodO_next
    | intro _
    | with_reducible apply State_capture_good

theorem execSeqResGo_good {q : Kept} (fn : Nat) (core : Nat) {s : State} (h : Good q s) (w_regs : q.keep .regs = false := by assumption) (w_pages : q.keep .pages = false := by assumption) (w_msgs : q.keep .msgs = false := by assumption) (w_work : q.keep .work = false := by assumption) (w_held : q.keep .held = false := by assumption) : GoodO q (Sys2Proof.Machine.execSeqResGo fn core s) := by
  unfold Sys2Proof.Machine.execSeqResGo
  repeat' first
    | with_reducible assumption
    | with_reducible apply goodO_next
    | intro _
    | with_reducible apply State_tokenRefused_good
    | with_reducible apply command_good
    | with_reducible apply good_foldl
    | with_reducible apply good_foldl_fst
    | split
    | with_reducible refine good_fst (by assumption) ?_
    | with_reducible refine good_snd (by assumption) ?_
    | with_reducible refine good_snd2 (by assumption) ?_
    | dsimp only
    | with_reducible refine good_mk (t := _) ?_ rfl rfl rfl rfl rfl rfl rfl rfl

theorem State_discardSave_good {q : Kept} {s : State} (core : Nat) (rk : Nat) (v : Saved) (h : Good q s) (w_regs : q.keep .regs = false := by assumption) (w_pages : q.keep .pages = false := by assumption) (w_msgs : q.keep .msgs = false := by assumption) (w_work : q.keep .work = false := by assumption) (w_link : q.keep .link = false := by assumption) (w_freeCtr : q.keep .freeCtr = false := by assumption) : Good q (Sys2Proof.Machine.State.discardSave s core rk v) := by
  unfold Sys2Proof.Machine.State.discardSave
  repeat' first
    | with_reducible assumption
    | with_reducible apply goodO_next
    | intro _
    | with_reducible apply State_taskFail_good
    | with_reducible apply State_flowEnds_good
    | with_reducible apply State_drawFree_good
    | with_reducible apply good_foldl
    | with_reducible apply good_foldl_fst
    | split
    | with_reducible refine good_fst (by assumption) ?_
    | with_reducible refine good_snd (by assumption) ?_
    | with_reducible refine good_snd2 (by assumption) ?_
    | dsimp only
    | with_reducible refine good_mk (t := _) ?_ rfl rfl rfl rfl rfl rfl rfl rfl

theorem execSeqResDiscard_good {q : Kept} (fn : Nat) (core : Nat) {s : State} (h : Good q s) (w_regs : q.keep .regs = false := by assumption) (w_pages : q.keep .pages = false := by assumption) (w_msgs : q.keep .msgs = false := by assumption) (w_work : q.keep .work = false := by assumption) (w_link : q.keep .link = false := by assumption) (w_freeCtr : q.keep .freeCtr = false := by assumption) (w_held : q.keep .held = false := by assumption) : GoodO q (Sys2Proof.Machine.execSeqResDiscard fn core s) := by
  unfold Sys2Proof.Machine.execSeqResDiscard
  repeat' first
    | with_reducible assumption
    | with_reducible apply goodO_next
    | intro _
    | with_reducible apply State_discardSave_good
    | with_reducible apply State_tokenRefused_good
    | with_reducible apply command_good
    | with_reducible apply good_foldl
    | with_reducible apply good_foldl_fst
    | split

theorem execResumeStart_good {q : Kept} (core : Nat) {s : State} (h : Good q s) (w_regs : q.keep .regs = false := by assumption) (w_work : q.keep .work = false := by assumption) : GoodO q (Sys2Proof.Machine.execResumeStart core s) := by
  unfold Sys2Proof.Machine.execResumeStart
  repeat' first
    | with_reducible assumption
    | with_reducible apply goodO_next
    | intro _
    | with_reducible apply State_slotRefresh_good
    | with_reducible apply State_setRunning_good
    | with_reducible apply event_good
    | with_reducible apply State_set_good
    | with_reducible apply good_foldl
    | with_reducible apply good_foldl_fst
    | split
    | with_reducible refine good_fst (by assumption) ?_
    | with_reducible refine good_snd (by assumption) ?_
    | with_reducible refine good_snd2 (by assumption) ?_
    | dsimp only
    | with_reducible refine good_mk (t := _) ?_ rfl rfl rfl rfl rfl rfl rfl rfl

theorem State_abortSlot_good {q : Kept} {s : State} (core : Nat) (slot : Nat) (h : Good q s) (w_regs : q.keep .regs = false := by assumption) (w_pages : q.keep .pages = false := by assumption) (w_msgs : q.keep .msgs = false := by assumption) (w_faultLog : q.keep .faultLog = false := by assumption) (w_hbm : q.keep .hbm = false := by assumption) (w_caches : q.keep .caches = false := by assumption) (w_mem : q.keep .mem = false := by assumption) (w_sync : q.keep .sync = false := by assumption) (w_work : q.keep .work = false := by assumption) (w_link : q.keep .link = false := by assumption) (w_freeCtr : q.keep .freeCtr = false := by assumption) : Good q (Sys2Proof.Machine.State.abortSlot s core slot) := by
  unfold Sys2Proof.Machine.State.abortSlot
  repeat' first
    | with_reducible assumption
    | with_reducible apply goodO_next
    | intro _
    | with_reducible apply State_reloadNow_good
    | with_reducible apply State_countLost_good
    | with_reducible apply State_endCheck_good
    | with_reducible apply State_setRunning_good
    | with_reducible apply State_withdrawWait_good
    | with_reducible apply good_foldl
    | with_reducible apply good_foldl_fst
    | split
    | with_reducible refine good_fst (by assumption) ?_
    | with_reducible refine good_snd (by assumption) ?_
    | with_reducible refine good_snd2 (by assumption) ?_
    | dsimp only

theorem execSeqAbort_good {q : Kept} (fn : Nat) (core : Nat) (mask : Nat) {s : State} (h : Good q s) (w_regs : q.keep .regs = false := by assumption) (w_pages : q.keep .pages = false := by assumption) (w_msgs : q.keep .msgs = false := by assumption) (w_faultLog : q.keep .faultLog = false := by assumption) (w_hbm : q.keep .hbm = false := by assumption) (w_caches : q.keep .caches = false := by assumption) (w_mem : q.keep .mem = false := by assumption) (w_sync : q.keep .sync = false := by assumption) (w_work : q.keep .work = false := by assumption) (w_link : q.keep .link = false := by assumption) (w_freeCtr : q.keep .freeCtr = false := by assumption) (w_held : q.keep .held = false := by assumption) : GoodO q (Sys2Proof.Machine.execSeqAbort fn core mask s) := by
  unfold Sys2Proof.Machine.execSeqAbort
  repeat' first
    | with_reducible assumption
    | with_reducible apply goodO_next
    | intro _
    | with_reducible apply State_abortSlot_good
    | with_reducible apply command_good
    | with_reducible apply good_foldl

theorem State_settleSlots_good {q : Kept} {s : State} (core : Nat) (h : Good q s) (w_regs : q.keep .regs = false := by assumption) (w_work : q.keep .work = false := by assumption) : Good q (Sys2Proof.Machine.State.settleSlots s core) := by
  unfold Sys2Proof.Machine.State.settleSlots
  repeat' first
    | with_reducible assumption
    | with_reducible apply goodO_next
    | intro _
    | with_reducible apply State_slotRefresh_good
    | with_reducible apply good_foldl
    | with_reducible apply good_foldl_fst
    | split
    | with_reducible refine good_fst (by assumption) ?_
    | with_reducible refine good_snd (by assumption) ?_
    | with_reducible refine good_snd2 (by assumption) ?_
    | dsimp only
    | with_reducible refine good_mk (t := _) ?_ rfl rfl rfl rfl rfl rfl rfl rfl

theorem execSlotEnWrite_good {q : Kept} (fn : Nat) (core : Nat) (mask : Nat) {s : State} (h : Good q s) (w_regs : q.keep .regs = false := by assumption) (w_pages : q.keep .pages = false := by assumption) (w_msgs : q.keep .msgs = false := by assumption) (w_work : q.keep .work = false := by assumption) : GoodO q (Sys2Proof.Machine.execSlotEnWrite fn core mask s) := by
  unfold Sys2Proof.Machine.execSlotEnWrite
  repeat' first
    | with_reducible assumption
    | with_reducible apply goodO_next
    | intro _
    | with_reducible apply State_set_good
    | with_reducible apply mmio_good
    | with_reducible apply State_settleSlots_good

theorem State_arrayReport_good {q : Kept} {s : State} (core : Nat) (a : Nat) (cause : Nat) (col : Nat) (flow : Nat) (h : Good q s) (w_regs : q.keep .regs = false := by assumption) (w_pages : q.keep .pages = false := by assumption) (w_msgs : q.keep .msgs = false := by assumption) (w_faultLog : q.keep .faultLog = false := by assumption) : Good q (Sys2Proof.Machine.State.arrayReport s core a cause col flow) := by
  unfold Sys2Proof.Machine.State.arrayReport
  repeat' first
    | with_reducible assumption
    | with_reducible apply goodO_next
    | intro _
    | with_reducible apply State_set_good
    | with_reducible apply State_raise_good
    | with_reducible apply State_capture_good
    | with_reducible apply State_fault_good
    | with_reducible apply good_foldl
    | with_reducible apply good_foldl_fst
    | split

theorem execArrayFault_good {q : Kept} (core : Nat) (array : Nat) (cause : Nat) (col : Nat) {s : State} (h : Good q s) (w_regs : q.keep .regs = false := by assumption) (w_pages : q.keep .pages = false := by assumption) (w_msgs : q.keep .msgs = false := by assumption) (w_host : q.keep .host = false := by assumption) (w_faultLog : q.keep .faultLog = false := by assumption) (w_ws : q.keep .ws = false := by assumption) (w_act : q.keep .act = false := by assumption) (w_hbm : q.keep .hbm = false := by assumption) (w_caches : q.keep .caches = false := by assumption) (w_mem : q.keep .mem = false := by assumption) (w_sluice : q.keep .sluice = false := by assumption) (w_sync : q.keep .sync = false := by assumption) (w_work : q.keep .work = false := by assumption) (w_link : q.keep .link = false := by assumption) (w_freeCtr : q.keep .freeCtr = false := by assumption) : GoodO q (Sys2Proof.Machine.execArrayFault core array cause col s) := by
  unfold Sys2Proof.Machine.execArrayFault
  repeat' first
    | with_reducible assumption
    | with_reducible apply goodO_next
    | intro _
    | with_reducible apply event_good
    | with_reducible apply State_storePut_good
    | with_reducible apply State_setEntry_good
    | with_reducible apply State_countAbandoned_good
    | with_reducible apply State_stepDone_good
    | with_reducible apply State_pump_good
    | with_reducible apply State_drawBytes_good
    | with_reducible apply State_arrayReport_good
    | with_reducible apply good_foldl
    | with_reducible apply good_foldl_fst
    | split

theorem State_fatalSlot_good {q : Kept} {s : State} (core : Nat) (slot : Nat) (h : Good q s) (w_regs : q.keep .regs = false := by assumption) (w_pages : q.keep .pages = false := by assumption) (w_msgs : q.keep .msgs = false := by assumption) (w_faultLog : q.keep .faultLog = false := by assumption) (w_hbm : q.keep .hbm = false := by assumption) (w_caches : q.keep .caches = false := by assumption) (w_mem : q.keep .mem = false := by assumption) (w_sync : q.keep .sync = false := by assumption) (w_work : q.keep .work = false := by assumption) (w_link : q.keep .link = false := by assumption) (w_freeCtr : q.keep .freeCtr = false := by assumption) : Good q (Sys2Proof.Machine.State.fatalSlot s core slot) := by
  unfold Sys2Proof.Machine.State.fatalSlot
  repeat' first
    | with_reducible assumption
    | with_reducible apply goodO_next
    | intro _
    | with_reducible apply State_reloadNow_good
    | with_reducible apply State_countAbandoned_good
    | with_reducible apply State_taskEnds_good
    | with_reducible apply State_withdrawWait_good
    | with_reducible apply State_dropClaims_good
    | with_reducible apply good_foldl
    | with_reducible apply good_foldl_fst
    | split
    | with_reducible refine good_fst (by assumption) ?_
    | with_reducible refine good_snd (by assumption) ?_
    | with_reducible refine good_snd2 (by assumption) ?_
    | dsimp only

theorem execCoreFatalFault_good {q : Kept} (core : Nat) {s : State} (h : Good q s) (w_regs : q.keep .regs = false := by assumption) (w_pages : q.keep .pages = false := by assumption) (w_msgs : q.keep .msgs = false := by assumption) (w_faultLog : q.keep .faultLog = false := by assumption) (w_hbm : q.keep .hbm = false := by assumption) (w_caches : q.keep .caches = false := by assumption) (w_mem : q.keep .mem = false := by assumption) (w_sync : q.keep .sync = false := by assumption) (w_work : q.keep .work = false := by assumption) (w_link : q.keep .link = false := by assumption) (w_freeCtr : q.keep .freeCtr = false := by assumption) : GoodO q (Sys2Proof.Machine.execCoreFatalFault core s) := by
  unfold Sys2Proof.Machine.execCoreFatalFault
  repeat' first
    | with_reducible assumption
    | with_reducible apply goodO_next
    | intro _
    | with_reducible apply State_fatalSlot_good
    | with_reducible apply State_settleSlots_good
    | with_reducible apply State_fault_good
    | with_reducible apply event_good
    | with_reducible apply State_raise_good
    | with_reducible apply State_set_good
    | with_reducible apply good_foldl

theorem State_imageHeader_good {q : Kept} {s : State} (fn : Nat) (base : Nat) (h : Good q s) (w_regs : q.keep .regs = false := by assumption) (w_pages : q.keep .pages = false := by assumption) (w_msgs : q.keep .msgs = false := by assumption) (w_faultLog : q.keep .faultLog = false := by assumption) (w_hbm : q.keep .hbm = false := by assumption) (w_caches : q.keep .caches = false := by assumption) (w_mem : q.keep .mem = false := by assumption) (w_freeCtr : q.keep .freeCtr = false := by assumption) : Good q (Sys2Proof.Machine.State.imageHeader s fn base).1 := by
  unfold Sys2Proof.Machine.State.imageHeader
  repeat' first
    | with_reducible assumption
    | with_reducible apply goodO_next
    | intro _
    | with_reducible apply State_imageRead_good
    | with_reducible apply good_foldl
    | with_reducible apply good_foldl_fst
    | split
    | with_reducible refine good_fst (by assumption) ?_

theorem State_imageCheck_good {q : Kept} {s : State} (core : Nat) (ctx : Nat) (fn : Nat) (i : Image) (h : Good q s) (w_regs : q.keep .regs = false := by assumption) (w_pages : q.keep .pages = false := by assumption) (w_msgs : q.keep .msgs = false := by assumption) (w_faultLog : q.keep .faultLog = false := by assumption) (w_hbm : q.keep .hbm = false := by assumption) (w_caches : q.keep .caches = false := by assumption) (w_mem : q.keep .mem = false := by assumption) (w_sluice : q.keep .sluice = false := by assumption) (w_freeCtr : q.keep .freeCtr = false := by assumption) : Good q (Sys2Proof.Machine.State.imageCheck s core ctx fn i).1 := by
  unfold Sys2Proof.Machine.State.imageCheck
  repeat' first
    | with_reducible assumption
    | with_reducible apply goodO_next
    | intro _
    | with_reducible apply State_imageRead_good
    | with_reducible apply State_enqueue_good
    | with_reducible apply State_slotBroken_good
    | with_reducible apply good_foldl
    | with_reducible apply good_foldl_fst
    | split
    | with_reducible refine good_fst (by assumption) ?_

theorem State_loadFails_good {q : Kept} {s : State} (core : Nat) (ctx : Nat) (st : Status) (h : Good q s) (w_regs : q.keep .regs = false := by assumption) (w_pages : q.keep .pages = false := by assumption) (w_msgs : q.keep .msgs = false := by assumption) (w_freeCtr : q.keep .freeCtr = false := by assumption) : Good q (Sys2Proof.Machine.State.loadFails s core ctx st) := by
  unfold Sys2Proof.Machine.State.loadFails
  repeat' first
    | with_reducible assumption
    | with_reducible apply goodO_next
    | intro _
    | with_reducible apply State_set_good
    | with_reducible apply State_raise_good
    | with_reducible apply State_capture_good
    | with_reducible apply State_drawFree_good

theorem execCtxLoad_good {q : Kept} (fn : Nat) (core : Nat) (ctx : Nat) {s : State} (h : Good q s) (w_regs : q.keep .regs = false := by assumption) (w_pages : q.keep .pages = false := by assumption) (w_msgs : q.keep .msgs = false := by assumption) (w_faultLog : q.keep .faultLog = false := by assumption) (w_hbm : q.keep .hbm = false := by assumption) (w_caches : q.keep .caches = false := by assumption) (w_mem : q.keep .mem = false := by assumption) (w_sluice : q.keep .sluice = false := by assumption) (w_work : q.keep .work = false := by assumption) (w_freeCtr : q.keep .freeCtr = false := by assumption) (w_held : q.keep .held = false := by assumption) : GoodO q (Sys2Proof.Machine.execCtxLoad fn core ctx s) := by
  unfold Sys2Proof.Machine.execCtxLoad
  repeat' first
    | with_reducible assumption
    | with_reducible apply goodO_next
    | intro _
    | with_reducible apply State_loadFails_good
    | with_reducible apply State_imageCheck_good
    | with_reducible apply State_imageHeader_good
    | with_reducible apply command_good
    | with_reducible apply State_hold_good
    | with_reducible apply State_flag_good
    | with_reducible apply good_foldl
    | with_reducible apply good_foldl_fst
    | split
    | with_reducible refine good_fst (by assumption) ?_
    | with_reducible refine good_snd (by assumption) ?_
    | with_reducible refine good_snd2 (by assumption) ?_
    | dsimp only
    | with_reducible refine good_mk (t := _) ?_ rfl rfl rfl rfl rfl rfl rfl rfl

theorem State_loadEnds_good {q : Kept} {s : State} (core : Nat) (ctx : Nat) (i : Image) (st : Status) (h : Good q s) (w_regs : q.keep .regs = false := by assumption) (w_pages : q.keep .pages = false := by assumption) (w_msgs : q.keep .msgs = false := by assumption) (w_work : q.keep .work = false := by assumption) (w_freeCtr : q.keep .freeCtr = false := by assumption) : Good q (Sys2Proof.Machine.State.loadEnds s core ctx i st) := by
  unfold Sys2Proof.Machine.State.loadEnds
  repeat' first
    | with_reducible assumption
    | with_reducible apply goodO_next
    | intro _
    | with_reducible apply State_loadFails_good
    | with_reducible apply State_dropGroups_good
    | with_reducible apply State_raise_good
    | with_reducible apply State_flag_good
    | with_reducible apply State_set_good
    | with_reducible apply good_foldl
    | with_reducible apply good_foldl_fst
    | split
    | with_reducible refine good_fst (by assumption) ?_
    | with_reducible refine good_snd (by assumption) ?_
    | with_reducible refine good_snd2 (by assumption) ?_
    | dsimp only
    | with_reducible refine good_mk (t := _) ?_ rfl rfl rfl rfl rfl rfl rfl rfl

theorem execImgLoadDone_good {q : Kept} (core : Nat) (ctx : Nat) {s : State} (h : Good q s) (w_regs : q.keep .regs = false := by assumption) (w_pages : q.keep .pages = false := by assumption) (w_msgs : q.keep .msgs = false := by assumption) (w_sluice : q.keep .sluice = false := by assumption) (w_work : q.keep .work = false := by assumption) (w_freeCtr : q.keep .freeCtr = false := by assumption) : GoodO q (Sys2Proof.Machine.execImgLoadDone core ctx s) := by
  unfold Sys2Proof.Machine.execImgLoadDone
  repeat' first
    | with_reducible assumption
    | with_reducible apply goodO_next
    | intro _
    | with_reducible apply event_good
    | with_reducible apply State_loadEnds_good
    | with_reducible apply good_foldl
    | with_reducible apply good_foldl_fst
    | split
    | with_reducible refine good_fst (by assumption) ?_
    | with_reducible refine good_snd (by assumption) ?_
    | with_reducible refine good_snd2 (by assumption) ?_
    | dsimp only
    | with_reducible refine good_mk (t := _) ?_ rfl rfl rfl rfl rfl rfl rfl rfl

theorem State_zeroStores_good {q : Kept} {s : State} (core : Nat) (h : Good q s) (w_ws : q.keep .ws = false := by assumption) (w_act : q.keep .act = false := by assumption) (w_mem : q.keep .mem = false := by assumption) : Good q (Sys2Proof.Machine.State.zeroStores s core) := by
  unfold Sys2Proof.Machine.State.zeroStores
  refine good_step h rfl (fun b => ?_) (fun x hx => ?_)
  · have hm := Memory.wf_parts.mp b.memory
    exact ⟨Memory.wf_parts.mpr ⟨Map.wf_drop hm.1 (fun k => k / 2 ^ 25 == core), Map.wf_drop hm.2.1 (fun k => k / 2 ^ 23 == core), hm.2.2⟩, b.protLog,
      b.abortLog, b.lateErrors, b.faultLog⟩
  · cases x <;> first
      | (rw [w_ws] at hx; cases hx; done) | (rw [w_act] at hx; cases hx; done) | (rw [w_mem] at hx; cases hx; done) | exact Eq.refl _ | exact ⟨rfl, rfl, rfl⟩

theorem State_clearHolds_good {q : Kept} {s : State} (core : Nat) (h : Good q s) (w_regs : q.keep .regs = false := by assumption) : Good q (Sys2Proof.Machine.State.clearHolds s core) := by
  unfold Sys2Proof.Machine.State.clearHolds
  repeat' first
    | with_reducible assumption
    | with_reducible apply goodO_next
    | intro _
    | with_reducible apply State_setHolds_good
    | with_reducible apply good_foldl

theorem execCoreTestStart_good {q : Kept} (fn : Nat) (core : Nat) {s : State} (h : Good q s) (w_regs : q.keep .regs = false := by assumption) (w_pages : q.keep .pages = false := by assumption) (w_msgs : q.keep .msgs = false := by assumption) (w_work : q.keep .work = false := by assumption) (w_held : q.keep .held = false := by assumption) : GoodO q (Sys2Proof.Machine.execCoreTestStart fn core s) := by
  unfold Sys2Proof.Machine.execCoreTestStart
  repeat' first
    | with_reducible assumption
    | with_reducible apply goodO_next
    | intro _
    | with_reducible apply State_flag_good
    | with_reducible apply State_refuseWrite_good
    | with_reducible apply command_good
    | with_reducible apply good_foldl
    | with_reducible apply good_foldl_fst
    | split
    | with_reducible refine good_fst (by assumption) ?_
    | with_reducible refine good_snd (by assumption) ?_
    | with_reducible refine good_snd2 (by assumption) ?_
    | dsimp only
    | with_reducible refine good_mk (t := _) ?_ rfl rfl rfl rfl rfl rfl rfl rfl

theorem State_testColumns_good {q : Kept} {s : State} (core : Nat) (l : List Nat) (h : Good q s) (w_regs : q.keep .regs = false := by assumption) : Good q (Sys2Proof.Machine.State.testColumns s core l) := by
  unfold Sys2Proof.Machine.State.testColumns
  repeat' first
    | with_reducible assumption
    | with_reducible apply goodO_next
    | intro _
    | with_reducible apply State_setColumns_good
    | with_reducible apply State_setService_good
    | with_reducible apply good_foldl

theorem State_setSlotPass_good {q : Kept} {s : State} (core : Nat) (b : Bool) (h : Good q s) (w_regs : q.keep .regs = false := by assumption) : Good q (Sys2Proof.Machine.State.setSlotPass s core b) := by
  unfold Sys2Proof.Machine.State.setSlotPass
  repeat' first
    | with_reducible assumption
    | with_reducible apply goodO_next
    | intro _
    | with_reducible apply State_set_good

theorem execCoreTestDone_good {q : Kept} (core : Nat) (t : CoreTest) {s : State} (h : Good q s) (w_regs : q.keep .regs = false := by assumption) (w_pages : q.keep .pages = false := by assumption) (w_msgs : q.keep .msgs = false := by assumption) (w_power : q.keep .power = false := by assumption) (w_faultLog : q.keep .faultLog = false := by assumption) (w_ws : q.keep .ws = false := by assumption) (w_act : q.keep .act = false := by assumption) (w_mem : q.keep .mem = false := by assumption) (w_work : q.keep .work = false := by assumption) : GoodO q (Sys2Proof.Machine.execCoreTestDone core t s) := by
  unfold Sys2Proof.Machine.execCoreTestDone
  repeat' first
    | with_reducible assumption
    | with_reducible apply goodO_next
    | intro _
    | with_reducible apply State_flag_good
    | with_reducible apply State_raise_good
    | with_reducible apply event_good
    | with_reducible apply State_fault_good
    | with_reducible apply State_zeroStores_good
    | with_reducible apply State_clearHolds_good
    | with_reducible apply State_testColumns_good
    | with_reducible apply State_setSlotPass_good
    | with_reducible apply good_foldl
    | with_reducible apply good_foldl_fst
    | split
    | with_reducible refine good_fst (by assumption) ?_
    | with_reducible refine good_snd (by assumption) ?_
    | with_reducible refine good_snd2 (by assumption) ?_
    | dsimp only
    | with_reducible refine good_mk (t := _) ?_ rfl rfl rfl rfl rfl rfl rfl rfl

end Sys2Proof.Laws
end

