-- ==== Sys2Proof/Laws/KeepRings.lean ====
section
/-!
SUPPORT. What the operations of Machine/Rings.lean keep.
-/

set_option Elab.async false

namespace Sys2Proof.Laws

open Sys2Proof.Machine

theorem execHwAttrWrite_good {q : Kept} (fn : Nat) (e : Nat) (len : Nat) (ro : Bool) (valid : Bool) {s : State} (h : Good q s) (w_regs : q.keep .regs = false := by assumption) (w_pages : q.keep .pages = false := by assumption) (w_msgs : q.keep .msgs = false := by assumption) : GoodO q (Sys2Proof.Machine.execHwAttrWrite fn e len ro valid s) := by
  unfold Sys2Proof.Machine.execHwAttrWrite
  repeat' first
    | with_reducible assumption
    | with_reducible apply goodO_next
    | intro _
    | with_reducible apply State_set_good
    | with_reducible apply State_flag_good
    | with_reducible apply State_captureFn_good
    | with_reducible apply mmio_good
    | with_reducible apply good_foldl
    | with_reducible apply good_foldl_fst
    | split
    | with_reducible refine good_fst (by assumption) ?_
    | with_reducible refine good_snd (by assumption) ?_
    | with_reducible refine good_snd2 (by assumption) ?_
    | dsimp only

theorem execAtsTranslation_good {q : Kept} (fn : Nat) (p : Nat) (read : Bool) (write : Bool) {s : State} (h : Good q s) (w_host : q.keep .host = false := by assumption) (w_freeCtr : q.keep .freeCtr = false := by assumption) : GoodO q (Sys2Proof.Machine.execAtsTranslation fn p read write s) := by
  unfold Sys2Proof.Machine.execAtsTranslation
  repeat' first
    | with_reducible assumption
    | with_reducible apply goodO_next
    | intro _
    | with_reducible apply State_drawFree_good
    | with_reducible apply good_foldl
    | with_reducible apply good_foldl_fst
    | split
    | with_reducible refine good_fst (by assumption) ?_
    | with_reducible refine good_snd (by assumption) ?_
    | with_reducible refine good_snd2 (by assumption) ?_
    | dsimp only
    | with_reducible refine good_mk (t := _) ?_ rfl rfl rfl rfl rfl rfl rfl rfl

theorem execAtsInvalidate_good {q : Kept} (tag : Nat) (fn : Nat) (p : Nat) (n : Nat) {s : State} (h : Good q s) (w_host : q.keep .host = false := by assumption) : GoodO q (Sys2Proof.Machine.execAtsInvalidate tag fn p n s) := by
  unfold Sys2Proof.Machine.execAtsInvalidate
  repeat' first
    | with_reducible assumption
    | with_reducible apply goodO_next
    | intro _
    | with_reducible apply good_foldl
    | with_reducible apply good_foldl_fst
    | split
    | with_reducible refine good_fst (by assumption) ?_
    | with_reducible refine good_snd (by assumption) ?_
    | with_reducible refine good_snd2 (by assumption) ?_
    | dsimp only
    | with_reducible refine good_mk (t := _) ?_ rfl rfl rfl rfl rfl rfl rfl rfl

theorem execAtsInvComplete_good {q : Kept} (tag : Nat) {s : State} (h : Good q s) (w_regs : q.keep .regs = false := by assumption) (w_msgs : q.keep .msgs = false := by assumption) (w_host : q.keep .host = false := by assumption) : GoodO q (Sys2Proof.Machine.execAtsInvComplete tag s) := by
  unfold Sys2Proof.Machine.execAtsInvComplete
  repeat' first
    | with_reducible assumption
    | with_reducible apply goodO_next
    | intro _
    | with_reducible apply State_add_good
    | with_reducible apply good_foldl
    | with_reducible apply good_foldl_fst
    | split
    | with_reducible refine good_fst (by assumption) ?_
    | with_reducible refine good_snd (by assumption) ?_
    | with_reducible refine good_snd2 (by assumption) ?_
    | dsimp only
    | with_reducible refine good_mk (t := _) ?_ rfl rfl rfl rfl rfl rfl rfl rfl

theorem State_setRing_good {q : Kept} {s : State} (c : Nat) (r : Ring) (h : Good q s) (w_host : q.keep .host = false := by assumption) : Good q (Sys2Proof.Machine.State.setRing s c r) := by
  unfold Sys2Proof.Machine.State.setRing
  repeat' first
    | with_reducible assumption
    | with_reducible apply goodO_next
    | intro _
    | with_reducible apply good_foldl
    | with_reducible apply good_foldl_fst
    | split
    | with_reducible refine good_fst (by assumption) ?_
    | with_reducible refine good_snd (by assumption) ?_
    | with_reducible refine good_snd2 (by assumption) ?_
    | dsimp only
    | with_reducible refine good_mk (t := _) ?_ rfl rfl rfl rfl rfl rfl rfl rfl

theorem State_ringCapture_good {q : Kept} {s : State} (c : Nat) (st : Status) (h : Good q s) (w_pages : q.keep .pages = false := by assumption) : Good q (Sys2Proof.Machine.State.ringCapture s c st) := by
  unfold Sys2Proof.Machine.State.ringCapture
  repeat' first
    | with_reducible assumption
    | with_reducible apply goodO_next
    | intro _
    | with_reducible apply State_capture_good

theorem State_ringEdge_good {q : Kept} {s : State} (c : Nat) (bit : Nat) (h : Good q s) (w_regs : q.keep .regs = false := by assumption) (w_pages : q.keep .pages = false := by assumption) (w_msgs : q.keep .msgs = false := by assumption) : Good q (Sys2Proof.Machine.State.ringEdge s c bit) := by
  unfold Sys2Proof.Machine.State.ringEdge
  repeat' first
    | with_reducible assumption
    | with_reducible apply goodO_next
    | intro _
    | with_reducible apply State_set_good
    | with_reducible apply State_raise_good

theorem State_ringRefused_good {q : Kept} {s : State} (c : Nat) (h : Good q s) (w_pages : q.keep .pages = false := by assumption) : Good q (Sys2Proof.Machine.State.ringRefused s c) := by
  unfold Sys2Proof.Machine.State.ringRefused
  repeat' first
    | with_reducible assumption
    | with_reducible apply goodO_next
    | intro _
    | with_reducible apply State_ringCapture_good

theorem State_ringWriteback_good {q : Kept} {s : State} (c : Nat) (v : Nat) (h : Good q s) (w_regs : q.keep .regs = false := by assumption) (w_pages : q.keep .pages = false := by assumption) (w_msgs : q.keep .msgs = false := by assumption) (w_host : q.keep .host = false := by assumption) (w_freeCtr : q.keep .freeCtr = false := by assumption) : Good q (Sys2Proof.Machine.State.ringWriteback s c v) := by
  unfold Sys2Proof.Machine.State.ringWriteback
  repeat' first
    | with_reducible assumption
    | with_reducible apply goodO_next
    | intro _
    | with_reducible apply State_hostWrite_good

theorem State_ringDone_good {q : Kept} {s : State} (c : Nat) (h : Good q s) (w_regs : q.keep .regs = false := by assumption) (w_pages : q.keep .pages = false := by assumption) (w_msgs : q.keep .msgs = false := by assumption) : Good q (Sys2Proof.Machine.State.ringDone s c) := by
  unfold Sys2Proof.Machine.State.ringDone
  repeat' first
    | with_reducible assumption
    | with_reducible apply goodO_next
    | intro _
    | with_reducible apply State_ringEdge_good
    | with_reducible apply good_foldl
    | with_reducible apply good_foldl_fst
    | split

theorem State_ringConsume_good {q : Kept} {s : State} (c : Nat) (h : Good q s) (w_regs : q.keep .regs = false := by assumption) (w_pages : q.keep .pages = false := by assumption) (w_msgs : q.keep .msgs = false := by assumption) (w_host : q.keep .host = false := by assumption) (w_freeCtr : q.keep .freeCtr = false := by assumption) : Good q (Sys2Proof.Machine.State.ringConsume s c) := by
  unfold Sys2Proof.Machine.State.ringConsume
  repeat' first
    | with_reducible assumption
    | with_reducible apply goodO_next
    | intro _
    | with_reducible apply State_add_good
    | with_reducible apply State_setRing_good
    | with_reducible apply State_ringWriteback_good
    | with_reducible apply State_ringDone_good

theorem State_ringStop_good {q : Kept} {s : State} (c : Nat) (st : Status) (h : Good q s) (w_regs : q.keep .regs = false := by assumption) (w_host : q.keep .host = false := by assumption) : Good q (Sys2Proof.Machine.State.ringStop s c st) := by
  unfold Sys2Proof.Machine.State.ringStop
  repeat' first
    | with_reducible assumption
    | with_reducible apply goodO_next
    | intro _
    | with_reducible apply State_set_good
    | with_reducible apply State_flag_good
    | with_reducible apply State_setRing_good

theorem State_ringFails_good {q : Kept} {s : State} (c : Nat) (st : Status) (h : Good q s) (w_regs : q.keep .regs = false := by assumption) (w_pages : q.keep .pages = false := by assumption) (w_msgs : q.keep .msgs = false := by assumption) (w_host : q.keep .host = false := by assumption) (w_work : q.keep .work = false := by assumption) : Good q (Sys2Proof.Machine.State.ringFails s c st) := by
  unfold Sys2Proof.Machine.State.ringFails
  repeat' first
    | with_reducible assumption
    | with_reducible apply goodO_next
    | intro _
    | with_reducible apply State_watched_good
    | with_reducible apply State_freeCell_good
    | with_reducible apply State_setRing_good
    | with_reducible apply State_ringCapture_good
    | with_reducible apply State_ringEdge_good
    | with_reducible apply State_ringStop_good
    | with_reducible apply good_foldl
    | with_reducible apply good_foldl_fst
    | split
    | with_reducible refine good_fst (by assumption) ?_
    | with_reducible refine good_snd (by assumption) ?_
    | with_reducible refine good_snd2 (by assumption) ?_
    | dsimp only

theorem State_ringCommit_good {q : Kept} {s : State} (c : Nat) (b : List Byte) (h : Good q s) (w_regs : q.keep .regs = false := by assumption) (w_pages : q.keep .pages = false := by assumption) (w_msgs : q.keep .msgs = false := by assumption) (w_host : q.keep .host = false := by assumption) (w_faultLog : q.keep .faultLog = false := by assumption) (w_hbm : q.keep .hbm = false := by assumption) (w_caches : q.keep .caches = false := by assumption) (w_mem : q.keep .mem = false := by assumption) (w_work : q.keep .work = false := by assumption) (w_freeCtr : q.keep .freeCtr = false := by assumption) : Good q (Sys2Proof.Machine.State.ringCommit s c b) := by
  unfold Sys2Proof.Machine.State.ringCommit
  repeat' first
    | with_reducible assumption
    | with_reducible apply goodO_next
    | intro _
    | with_reducible apply State_hbmWrite_good
    | with_reducible apply State_watched_good
    | with_reducible apply State_commitCell_good
    | with_reducible apply State_ringConsume_good
    | with_reducible apply State_ringFails_good
    | with_reducible apply good_foldl
    | with_reducible apply good_foldl_fst
    | split
    | with_reducible refine good_fst (by assumption) ?_

theorem State_ringEntry_good {q : Kept} {s : State} (c : Nat) (d : ChainDesc) (b : List Byte) (h : Good q s) (w_regs : q.keep .regs = false := by assumption) (w_pages : q.keep .pages = false := by assumption) (w_msgs : q.keep .msgs = false := by assumption) (w_host : q.keep .host = false := by assumption) (w_faultLog : q.keep .faultLog = false := by assumption) (w_hbm : q.keep .hbm = false := by assumption) (w_caches : q.keep .caches = false := by assumption) (w_mem : q.keep .mem = false := by assumption) (w_work : q.keep .work = false := by assumption) (w_freeCtr : q.keep .freeCtr = false := by assumption) : Good q (Sys2Proof.Machine.State.ringEntry s c d b) := by
  unfold Sys2Proof.Machine.State.ringEntry
  repeat' first
    | with_reducible assumption
    | with_reducible apply goodO_next
    | intro _
    | with_reducible apply State_ringCommit_good
    | with_reducible apply State_ringFails_good
    | with_reducible apply State_ringConsume_good
    | with_reducible apply State_ringEdge_good
    | with_reducible apply State_ringCapture_good
    | with_reducible apply State_setRing_good
    | with_reducible apply State_pickCell_good
    | with_reducible apply State_leaveCell_good
    | with_reducible apply State_awaitCell_good
    | with_reducible apply State_watched_good
    | with_reducible apply State_setCell_good
    | with_reducible apply State_hostReadStart_good
    | with_reducible apply State_hostAbort_good
    | with_reducible apply State_add_good
    | with_reducible apply State_set_good
    | with_reducible apply good_foldl
    | with_reducible apply good_foldl_fst
    | split
    | with_reducible refine good_fst (by assumption) ?_
    | with_reducible refine good_snd (by assumption) ?_
    | with_reducible refine good_snd2 (by assumption) ?_
    | dsimp only

theorem execHrInboundEntry_good {q : Kept} (c : Nat) (entry : ReadOutcome) {s : State} (h : Good q s) (w_regs : q.keep .regs = false := by assumption) (w_pages : q.keep .pages = false := by assumption) (w_msgs : q.keep .msgs = false := by assumption) (w_host : q.keep .host = false := by assumption) (w_faultLog : q.keep .faultLog = false := by assumption) (w_hbm : q.keep .hbm = false := by assumption) (w_caches : q.keep .caches = false := by assumption) (w_mem : q.keep .mem = false := by assumption) (w_work : q.keep .work = false := by assumption) (w_freeCtr : q.keep .freeCtr = false := by assumption) : GoodO q (Sys2Proof.Machine.execHrInboundEntry c entry s) := by
  unfold Sys2Proof.Machine.execHrInboundEntry
  repeat' first
    | with_reducible assumption
    | with_reducible apply goodO_next
    | intro _
    | with_reducible apply State_hostFetch_good
    | with_reducible apply State_ringFails_good
    | with_reducible apply State_ringEntry_good
    | with_reducible apply good_foldl
    | with_reducible apply good_foldl_fst
    | split
    | with_reducible refine good_fst (by assumption) ?_

theorem State_ringDelivered_good {q : Kept} {s : State} (c : Nat) (h : Good q s) (w_regs : q.keep .regs = false := by assumption) (w_pages : q.keep .pages = false := by assumption) (w_msgs : q.keep .msgs = false := by assumption) (w_host : q.keep .host = false := by assumption) (w_freeCtr : q.keep .freeCtr = false := by assumption) : Good q (Sys2Proof.Machine.State.ringDelivered s c) := by
  unfold Sys2Proof.Machine.State.ringDelivered
  repeat' first
    | with_reducible assumption
    | with_reducible apply goodO_next
    | intro _
    | with_reducible apply State_set_good
    | with_reducible apply State_setRing_good
    | with_reducible apply State_ringWriteback_good
    | with_reducible apply State_ringDone_good

theorem State_ringDeliver_good {q : Kept} {s : State} (c : Nat) (k : Nat) (x : Cell) (d : ChainDesc) (h : Good q s) (w_regs : q.keep .regs = false := by assumption) (w_pages : q.keep .pages = false := by assumption) (w_msgs : q.keep .msgs = false := by assumption) (w_host : q.keep .host = false := by assumption) (w_faultLog : q.keep .faultLog = false := by assumption) (w_hbm : q.keep .hbm = false := by assumption) (w_caches : q.keep .caches = false := by assumption) (w_mem : q.keep .mem = false := by assumption) (w_freeCtr : q.keep .freeCtr = false := by assumption) : Good q (Sys2Proof.Machine.State.ringDeliver s c k x d) := by
  unfold Sys2Proof.Machine.State.ringDeliver
  repeat' first
    | with_reducible assumption
    | with_reducible apply goodO_next
    | intro _
    | with_reducible apply State_hbmRead_good
    | with_reducible apply State_flushFailed_good
    | with_reducible apply State_hostWrite_good
    | with_reducible apply State_hostReadStart_good
    | with_reducible apply State_setRing_good
    | with_reducible apply State_ringStop_good
    | with_reducible apply State_ringDelivered_good
    | with_reducible apply good_foldl
    | with_reducible apply good_foldl_fst
    | split
    | with_reducible refine good_fst (by assumption) ?_
    | with_reducible refine good_snd (by assumption) ?_
    | with_reducible refine good_snd2 (by assumption) ?_
    | dsimp only

theorem execHrOutboundDeliver_good {q : Kept} (c : Nat) {s : State} (h : Good q s) (w_regs : q.keep .regs = false := by assumption) (w_pages : q.keep .pages = false := by assumption) (w_msgs : q.keep .msgs = false := by assumption) (w_host : q.keep .host = false := by assumption) (w_faultLog : q.keep .faultLog = false := by assumption) (w_hbm : q.keep .hbm = false := by assumption) (w_caches : q.keep .caches = false := by assumption) (w_mem : q.keep .mem = false := by assumption) (w_work : q.keep .work = false := by assumption) (w_freeCtr : q.keep .freeCtr = false := by assumption) : GoodO q (Sys2Proof.Machine.execHrOutboundDeliver c s) := by
  unfold Sys2Proof.Machine.execHrOutboundDeliver
  repeat' first
    | with_reducible assumption
    | with_reducible apply goodO_next
    | intro _
    | with_reducible apply State_takeCell_good
    | with_reducible apply State_setRing_good
    | with_reducible apply State_ringDeliver_good
    | with_reducible apply good_foldl
    | with_reducible apply good_foldl_fst
    | split
    | with_reducible refine good_fst (by assumption) ?_
    | with_reducible refine good_snd (by assumption) ?_
    | with_reducible refine good_snd2 (by assumption) ?_
    | dsimp only

theorem State_ringDbErr_good {q : Kept} {s : State} (c : Nat) (h : Good q s) (w_pages : q.keep .pages = false := by assumption) (w_msgs : q.keep .msgs = false := by assumption) : Good q (Sys2Proof.Machine.State.ringDbErr s c) := by
  unfold Sys2Proof.Machine.State.ringDbErr
  repeat' first
    | with_reducible assumption
    | with_reducible apply goodO_next
    | intro _
    | with_reducible apply State_raise_good
    | with_reducible apply State_ringCapture_good

theorem execHrPiDoorbell_good {q : Kept} (fn : Nat) (c : Nat) (p : Nat) {s : State} (h : Good q s) (w_regs : q.keep .regs = false := by assumption) (w_pages : q.keep .pages = false := by assumption) (w_msgs : q.keep .msgs = false := by assumption) (w_held : q.keep .held = false := by assumption) : GoodO q (Sys2Proof.Machine.execHrPiDoorbell fn c p s) := by
  unfold Sys2Proof.Machine.execHrPiDoorbell
  repeat' first
    | with_reducible assumption
    | with_reducible apply goodO_next
    | intro _
    | with_reducible apply State_set_good
    | with_reducible apply State_hold_good
    | with_reducible apply mmio_good
    | with_reducible apply State_ringDbErr_good
    | with_reducible apply good_foldl
    | with_reducible apply good_foldl_fst
    | split

theorem State_ringPassed_good {q : Kept} {s : State} (c : Nat) (p : Nat) (h : Good q s) (w_regs : q.keep .regs = false := by assumption) (w_pages : q.keep .pages = false := by assumption) (w_msgs : q.keep .msgs = false := by assumption) (w_host : q.keep .host = false := by assumption) (w_work : q.keep .work = false := by assumption) : Good q (Sys2Proof.Machine.State.ringPassed s c p) := by
  unfold Sys2Proof.Machine.State.ringPassed
  repeat' first
    | with_reducible assumption
    | with_reducible apply goodO_next
    | intro _
    | with_reducible apply State_finishCell_good
    | with_reducible apply State_setRing_good
    | with_reducible apply good_foldl

theorem execHrCiDoorbell_good {q : Kept} (fn : Nat) (c : Nat) (p : Nat) {s : State} (h : Good q s) (w_regs : q.keep .regs = false := by assumption) (w_pages : q.keep .pages = false := by assumption) (w_msgs : q.keep .msgs = false := by assumption) (w_host : q.keep .host = false := by assumption) (w_work : q.keep .work = false := by assumption) (w_held : q.keep .held = false := by assumption) : GoodO q (Sys2Proof.Machine.execHrCiDoorbell fn c p s) := by
  unfold Sys2Proof.Machine.execHrCiDoorbell
  repeat' first
    | with_reducible assumption
    | with_reducible apply goodO_next
    | intro _
    | with_reducible apply State_set_good
    | with_reducible apply State_hold_good
    | with_reducible apply mmio_good
    | with_reducible apply State_ringDbErr_good
    | with_reducible apply State_ringPassed_good
    | with_reducible apply good_foldl
    | with_reducible apply good_foldl_fst
    | split

theorem execHrEnable_good {q : Kept} (fn : Nat) (c : Nat) (en : Bool) {s : State} (h : Good q s) (w_regs : q.keep .regs = false := by assumption) (w_pages : q.keep .pages = false := by assumption) (w_msgs : q.keep .msgs = false := by assumption) (w_host : q.keep .host = false := by assumption) (w_held : q.keep .held = false := by assumption) : GoodO q (Sys2Proof.Machine.execHrEnable fn c en s) := by
  unfold Sys2Proof.Machine.execHrEnable
  repeat' first
    | with_reducible assumption
    | with_reducible apply goodO_next
    | intro _
    | with_reducible apply State_set_good
    | with_reducible apply State_flag_good
    | with_reducible apply State_hold_good
    | with_reducible apply mmio_good
    | with_reducible apply State_setRing_good
    | with_reducible apply State_ringRefused_good
    | with_reducible apply good_foldl
    | with_reducible apply good_foldl_fst
    | split

theorem execHrRestart_good {q : Kept} (fn : Nat) (c : Nat) {s : State} (h : Good q s) (w_regs : q.keep .regs = false := by assumption) (w_pages : q.keep .pages = false := by assumption) (w_msgs : q.keep .msgs = false := by assumption) : GoodO q (Sys2Proof.Machine.execHrRestart fn c s) := by
  unfold Sys2Proof.Machine.execHrRestart
  repeat' first
    | with_reducible assumption
    | with_reducible apply goodO_next
    | intro _
    | with_reducible apply State_flag_good
    | with_reducible apply mmio_good

theorem execHrSkip_good {q : Kept} (fn : Nat) (c : Nat) {s : State} (h : Good q s) (w_regs : q.keep .regs = false := by assumption) (w_pages : q.keep .pages = false := by assumption) (w_msgs : q.keep .msgs = false := by assumption) (w_host : q.keep .host = false := by assumption) (w_freeCtr : q.keep .freeCtr = false := by assumption) (w_held : q.keep .held = false := by assumption) : GoodO q (Sys2Proof.Machine.execHrSkip fn c s) := by
  unfold Sys2Proof.Machine.execHrSkip
  repeat' first
    | with_reducible assumption
    | with_reducible apply goodO_next
    | intro _
    | with_reducible apply State_flag_good
    | with_reducible apply State_hold_good
    | with_reducible apply mmio_good
    | with_reducible apply State_ringRefused_good
    | with_reducible apply State_ringConsume_good
    | with_reducible apply good_foldl
    | with_reducible apply good_foldl_fst
    | split

theorem State_readUsed_good {q : Kept} {s : State} (r : HostRead) (data : Option (List Byte)) (h : Good q s) (w_regs : q.keep .regs = false := by assumption) (w_pages : q.keep .pages = false := by assumption) (w_msgs : q.keep .msgs = false := by assumption) (w_host : q.keep .host = false := by assumption) (w_faultLog : q.keep .faultLog = false := by assumption) (w_ws : q.keep .ws = false := by assumption) (w_act : q.keep .act = false := by assumption) (w_hbm : q.keep .hbm = false := by assumption) (w_caches : q.keep .caches = false := by assumption) (w_mem : q.keep .mem = false := by assumption) (w_sluice : q.keep .sluice = false := by assumption) (w_sync : q.keep .sync = false := by assumption) (w_work : q.keep .work = false := by assumption) (w_link : q.keep .link = false := by assumption) (w_freeCtr : q.keep .freeCtr = false := by assumption) : Good q (Sys2Proof.Machine.State.readUsed s r data) := by
  unfold Sys2Proof.Machine.State.readUsed
  repeat' first
    | with_reducible assumption
    | with_reducible apply goodO_next
    | intro _
    | with_reducible apply State_ringDelivered_good
    | with_reducible apply State_ringCommit_good
    | with_reducible apply State_ringFails_good
    | with_reducible apply State_ringStop_good
    | with_reducible apply State_pump_good
    | with_reducible apply State_hostFlushed_good
    | with_reducible apply State_hostRow_good
    | with_reducible apply State_finishDesc_good
    | with_reducible apply good_foldl
    | with_reducible apply good_foldl_fst
    | split

theorem State_readAer_good {q : Kept} {s : State} (h : Good q s) (w_regs : q.keep .regs = false := by assumption) (w_pages : q.keep .pages = false := by assumption) (w_msgs : q.keep .msgs = false := by assumption) : ∀ (r0 : ReadOutcome), Good q (Sys2Proof.Machine.State.readAer s r0) := by
  intro r0
  unfold Sys2Proof.Machine.State.readAer
  repeat' first
    | with_reducible assumption
    | with_reducible apply goodO_next
    | intro _
    | with_reducible apply State_aer_good
    | with_reducible apply good_foldl
    | with_reducible apply good_foldl_fst
    | split

theorem State_readEnds_good {q : Kept} {s : State} (r : HostRead) (o : ReadOutcome) (h : Good q s) (w_regs : q.keep .regs = false := by assumption) (w_pages : q.keep .pages = false := by assumption) (w_msgs : q.keep .msgs = false := by assumption) (w_host : q.keep .host = false := by assumption) (w_faultLog : q.keep .faultLog = false := by assumption) (w_ws : q.keep .ws = false := by assumption) (w_act : q.keep .act = false := by assumption) (w_hbm : q.keep .hbm = false := by assumption) (w_caches : q.keep .caches = false := by assumption) (w_mem : q.keep .mem = false := by assumption) (w_sluice : q.keep .sluice = false := by assumption) (w_sync : q.keep .sync = false := by assumption) (w_work : q.keep .work = false := by assumption) (w_link : q.keep .link = false := by assumption) (w_freeCtr : q.keep .freeCtr = false := by assumption) : Good q (Sys2Proof.Machine.State.readEnds s r o) := by
  unfold Sys2Proof.Machine.State.readEnds
  repeat' first
    | with_reducible assumption
    | with_reducible apply goodO_next
    | intro _
    | with_reducible apply State_readFailed_good
    | with_reducible apply State_flushFailed_good
    | with_reducible apply State_readUsed_good
    | with_reducible apply State_readAer_good
    | with_reducible apply good_foldl
    | with_reducible apply good_foldl_fst
    | split
    | with_reducible refine good_fst (by assumption) ?_
    | with_reducible refine good_snd (by assumption) ?_
    | with_reducible refine good_snd2 (by assumption) ?_
    | dsimp only
    | with_reducible refine good_mk (t := _) ?_ rfl rfl rfl rfl rfl rfl rfl rfl

theorem readCompletion_good {q : Kept} (id : Nat) (o : ReadOutcome) (c : Instr) {s : State} (h : Good q s) (w_regs : q.keep .regs = false := by assumption) (w_pages : q.keep .pages = false := by assumption) (w_msgs : q.keep .msgs = false := by assumption) (w_host : q.keep .host = false := by assumption) (w_faultLog : q.keep .faultLog = false := by assumption) (w_ws : q.keep .ws = false := by assumption) (w_act : q.keep .act = false := by assumption) (w_hbm : q.keep .hbm = false := by assumption) (w_caches : q.keep .caches = false := by assumption) (w_mem : q.keep .mem = false := by assumption) (w_sluice : q.keep .sluice = false := by assumption) (w_sync : q.keep .sync = false := by assumption) (w_work : q.keep .work = false := by assumption) (w_link : q.keep .link = false := by assumption) (w_freeCtr : q.keep .freeCtr = false := by assumption) (w_held : q.keep .held = false := by assumption) : GoodO q (Sys2Proof.Machine.readCompletion id o c s) := by
  unfold Sys2Proof.Machine.readCompletion
  repeat' first
    | with_reducible assumption
    | with_reducible apply goodO_next
    | intro _
    | with_reducible apply State_hold_good
    | with_reducible apply State_readEnds_good
    | with_reducible apply good_foldl
    | with_reducible apply good_foldl_fst
    | split

theorem execHostReadCompletion_good {q : Kept} (id : Nat) (o : ReadOutcome) {s : State} (h : Good q s) (w_regs : q.keep .regs = false := by assumption) (w_pages : q.keep .pages = false := by assumption) (w_msgs : q.keep .msgs = false := by assumption) (w_host : q.keep .host = false := by assumption) (w_faultLog : q.keep .faultLog = false := by assumption) (w_ws : q.keep .ws = false := by assumption) (w_act : q.keep .act = false := by assumption) (w_hbm : q.keep .hbm = false := by assumption) (w_caches : q.keep .caches = false := by assumption) (w_mem : q.keep .mem = false := by assumption) (w_sluice : q.keep .sluice = false := by assumption) (w_sync : q.keep .sync = false := by assumption) (w_work : q.keep .work = false := by assumption) (w_link : q.keep .link = false := by assumption) (w_freeCtr : q.keep .freeCtr = false := by assumption) (w_held : q.keep .held = false := by assumption) : GoodO q (Sys2Proof.Machine.execHostReadCompletion id o s) := by
  unfold Sys2Proof.Machine.execHostReadCompletion
  repeat' first
    | with_reducible assumption
    | with_reducible apply goodO_next
    | intro _
    | with_reducible apply readCompletion_good

theorem execCompletionTimeout_good {q : Kept} (id : Nat) {s : State} (h : Good q s) (w_regs : q.keep .regs = false := by assumption) (w_pages : q.keep .pages = false := by assumption) (w_msgs : q.keep .msgs = false := by assumption) (w_host : q.keep .host = false := by assumption) (w_faultLog : q.keep .faultLog = false := by assumption) (w_ws : q.keep .ws = false := by assumption) (w_act : q.keep .act = false := by assumption) (w_hbm : q.keep .hbm = false := by assumption) (w_caches : q.keep .caches = false := by assumption) (w_mem : q.keep .mem = false := by assumption) (w_sluice : q.keep .sluice = false := by assumption) (w_sync : q.keep .sync = false := by assumption) (w_work : q.keep .work = false := by assumption) (w_link : q.keep .link = false := by assumption) (w_freeCtr : q.keep .freeCtr = false := by assumption) (w_held : q.keep .held = false := by assumption) : GoodO q (Sys2Proof.Machine.execCompletionTimeout id s) := by
  unfold Sys2Proof.Machine.execCompletionTimeout
  repeat' first
    | with_reducible assumption
    | with_reducible apply goodO_next
    | intro _
    | with_reducible apply readCompletion_good

theorem execIrqRouteWrite_good {q : Kept} (fn : Nat) (v : Nat) (en : Bool) {s : State} (h : Good q s) (w_regs : q.keep .regs = false := by assumption) (w_pages : q.keep .pages = false := by assumption) (w_msgs : q.keep .msgs = false := by assumption) (w_host : q.keep .host = false := by assumption) : GoodO q (Sys2Proof.Machine.execIrqRouteWrite fn v en s) := by
  unfold Sys2Proof.Machine.execIrqRouteWrite
  repeat' first
    | with_reducible assumption
    | with_reducible apply goodO_next
    | intro _
    | with_reducible apply State_captureFn_good
    | with_reducible apply mmio_good
    | with_reducible apply good_foldl
    | with_reducible apply good_foldl_fst
    | split
    | with_reducible refine good_fst (by assumption) ?_
    | with_reducible refine good_snd (by assumption) ?_
    | with_reducible refine good_snd2 (by assumption) ?_
    | dsimp only
    | with_reducible refine good_mk (t := _) ?_ rfl rfl rfl rfl rfl rfl rfl rfl

theorem State_sendOwed_good {q : Kept} {s : State} (fn : Nat) (h : Good q s) (w_msgs : q.keep .msgs = false := by assumption) : Good q (Sys2Proof.Machine.State.sendOwed s fn) := by
  unfold Sys2Proof.Machine.State.sendOwed
  repeat' first
    | with_reducible assumption
    | with_reducible apply goodO_next
    | intro _
    | with_reducible apply State_sendMsg_good
    | with_reducible apply good_foldl
    | with_reducible apply good_foldl_fst
    | split
    | with_reducible refine good_fst (by assumption) ?_
    | with_reducible refine good_snd (by assumption) ?_
    | with_reducible refine good_snd2 (by assumption) ?_
    | dsimp only
    | with_reducible refine good_mk (t := _) ?_ rfl rfl rfl rfl rfl rfl rfl rfl

theorem execMsixUnmask_good {q : Kept} (fn : Nat) (t : UnmaskTarget) {s : State} (h : Good q s) (w_msgs : q.keep .msgs = false := by assumption) (w_host : q.keep .host = false := by assumption) : GoodO q (Sys2Proof.Machine.execMsixUnmask fn t s) := by
  unfold Sys2Proof.Machine.execMsixUnmask
  repeat' first
    | with_reducible assumption
    | with_reducible apply goodO_next
    | intro _
    | with_reducible apply State_sendOwed_good
    | with_reducible apply good_foldl
    | with_reducible apply good_foldl_fst
    | split
    | with_reducible refine good_fst (by assumption) ?_
    | with_reducible refine good_snd (by assumption) ?_
    | with_reducible refine good_snd2 (by assumption) ?_
    | dsimp only
    | with_reducible refine good_mk (t := _) ?_ rfl rfl rfl rfl rfl rfl rfl rfl

theorem execDStateChange_good {q : Kept} (fn : Nat) (enter : Bool) {s : State} (h : Good q s) (w_msgs : q.keep .msgs = false := by assumption) (w_host : q.keep .host = false := by assumption) : GoodO q (Sys2Proof.Machine.execDStateChange fn enter s) := by
  unfold Sys2Proof.Machine.execDStateChange
  repeat' first
    | with_reducible assumption
    | with_reducible apply goodO_next
    | intro _
    | with_reducible apply State_sendOwed_good
    | with_reducible apply good_foldl
    | with_reducible apply good_foldl_fst
    | split
    | with_reducible refine good_fst (by assumption) ?_
    | with_reducible refine good_snd (by assumption) ?_
    | with_reducible refine good_snd2 (by assumption) ?_
    | dsimp only
    | with_reducible refine good_mk (t := _) ?_ rfl rfl rfl rfl rfl rfl rfl rfl

theorem State_abortAllReads_good {q : Kept} {s : State} (h : Good q s) (w_regs : q.keep .regs = false := by assumption) (w_pages : q.keep .pages = false := by assumption) (w_msgs : q.keep .msgs = false := by assumption) (w_host : q.keep .host = false := by assumption) (w_faultLog : q.keep .faultLog = false := by assumption) (w_ws : q.keep .ws = false := by assumption) (w_act : q.keep .act = false := by assumption) (w_hbm : q.keep .hbm = false := by assumption) (w_caches : q.keep .caches = false := by assumption) (w_mem : q.keep .mem = false := by assumption) (w_sluice : q.keep .sluice = false := by assumption) (w_sync : q.keep .sync = false := by assumption) (w_work : q.keep .work = false := by assumption) (w_link : q.keep .link = false := by assumption) (w_freeCtr : q.keep .freeCtr = false := by assumption) : Good q (Sys2Proof.Machine.State.abortAllReads s) := by
  unfold Sys2Proof.Machine.State.abortAllReads
  repeat' first
    | with_reducible assumption
    | with_reducible apply goodO_next
    | intro _
    | with_reducible apply State_hostAbort_good
    | with_reducible apply State_readUsed_good
    | with_reducible apply good_foldl
    | with_reducible apply good_foldl_fst
    | split
    | with_reducible refine good_fst (by assumption) ?_
    | with_reducible refine good_snd (by assumption) ?_
    | with_reducible refine good_snd2 (by assumption) ?_
    | dsimp only
    | with_reducible refine good_mk (t := _) ?_ rfl rfl rfl rfl rfl rfl rfl rfl

theorem execPcieLinkError_good {q : Kept} (e : LinkError) {s : State} (h : Good q s) (w_regs : q.keep .regs = false := by assumption) (w_pages : q.keep .pages = false := by assumption) (w_msgs : q.keep .msgs = false := by assumption) (w_host : q.keep .host = false := by assumption) (w_faultLog : q.keep .faultLog = false := by assumption) (w_ws : q.keep .ws = false := by assumption) (w_act : q.keep .act = false := by assumption) (w_hbm : q.keep .hbm = false := by assumption) (w_caches : q.keep .caches = false := by assumption) (w_mem : q.keep .mem = false := by assumption) (w_sluice : q.keep .sluice = false := by assumption) (w_sync : q.keep .sync = false := by assumption) (w_work : q.keep .work = false := by assumption) (w_link : q.keep .link = false := by assumption) (w_freeCtr : q.keep .freeCtr = false := by assumption) : GoodO q (Sys2Proof.Machine.execPcieLinkError e s) := by
  unfold Sys2Proof.Machine.execPcieLinkError
  repeat' first
    | with_reducible assumption
    | with_reducible apply goodO_next
    | intro _
    | with_reducible apply State_aer_good
    | with_reducible apply State_abortAllReads_good
    | with_reducible apply good_foldl
    | with_reducible apply good_foldl_fst
    | split
    | with_reducible refine good_fst (by assumption) ?_
    | with_reducible refine good_snd (by assumption) ?_
    | with_reducible refine good_snd2 (by assumption) ?_
    | dsimp only
    | with_reducible refine good_mk (t := _) ?_ rfl rfl rfl rfl rfl rfl rfl rfl

theorem execAbPop_good {q : Kept} (fn : Nat) {s : State} (h : Good q s) (w_regs : q.keep .regs = false := by assumption) (w_pages : q.keep .pages = false := by assumption) (w_readData : q.keep .readData = false := by assumption) (w_msgs : q.keep .msgs = false := by assumption) (w_host : q.keep .host = false := by assumption) : GoodO q (Sys2Proof.Machine.execAbPop fn s) := by
  unfold Sys2Proof.Machine.execAbPop
  repeat' first
    | with_reducible assumption
    | with_reducible apply goodO_next
    | intro _
    | with_reducible apply State_set_good
    | with_reducible apply State_setPair_good
    | with_reducible apply mmioRead_good
    | with_reducible apply good_foldl
    | with_reducible apply good_foldl_fst
    | split
    | with_reducible refine good_fst (by assumption) ?_
    | with_reducible refine good_snd (by assumption) ?_
    | with_reducible refine good_snd2 (by assumption) ?_
    | dsimp only
    | with_reducible refine good_mk (t := _) ?_ rfl rfl rfl rfl rfl rfl rfl rfl
    | with_reducible refine good_le (t := _) ?_ rfl rfl rfl rfl (by first | exact Nat.le_refl _ | exact Nat.zero_le _ | exact len_tail (by assumption)) (by first | exact Nat.le_refl _ | exact Nat.zero_le _ | exact len_tail (by assumption)) (by first | exact Nat.le_refl _ | exact Nat.zero_le _ | exact len_tail (by assumption)) (by first | exact Nat.le_refl _ | exact Nat.zero_le _ | exact len_tail (by assumption))

theorem State_linkTrained_good {q : Kept} {s : State} (speed : Nat) (width : Nat) (h : Good q s) (w_regs : q.keep .regs = false := by assumption) (w_host : q.keep .host = false := by assumption) : Good q (Sys2Proof.Machine.State.linkTrained s speed width) := by
  unfold Sys2Proof.Machine.State.linkTrained
  repeat' first
    | with_reducible assumption
    | with_reducible apply goodO_next
    | intro _
    | with_reducible apply State_set_good
    | with_reducible apply State_flag_good
    | with_reducible apply good_foldl
    | with_reducible apply good_foldl_fst
    | split
    | with_reducible refine good_fst (by assumption) ?_
    | with_reducible refine good_snd (by assumption) ?_
    | with_reducible refine good_snd2 (by assumption) ?_
    | dsimp only
    | with_reducible refine good_mk (t := _) ?_ rfl rfl rfl rfl rfl rfl rfl rfl

theorem execRetrain_good {q : Kept} (fn : Nat) (speed : Nat) (width : Nat) {s : State} (h : Good q s) (w_regs : q.keep .regs = false := by assumption) (w_pages : q.keep .pages = false := by assumption) (w_msgs : q.keep .msgs = false := by assumption) (w_host : q.keep .host = false := by assumption) : GoodO q (Sys2Proof.Machine.execRetrain fn speed width s) := by
  unfold Sys2Proof.Machine.execRetrain
  repeat' first
    | with_reducible assumption
    | with_reducible apply goodO_next
    | intro _
    | with_reducible apply mmio_good
    | with_reducible apply State_linkTrained_good
    | with_reducible apply good_foldl
    | with_reducible apply good_foldl_fst
    | split

end Sys2Proof.Laws
end

