-- ==== Sys2Proof/Laws/KeepTenants.lean ====
section
/-!
SUPPORT. What the operations of Machine/Tenants.lean keep.
-/

set_option Elab.async false

namespace Sys2Proof.Laws

open Sys2Proof.Machine

theorem State_setInst_good {q : Kept} {s : State} (f : Nat) (i : Inst) (h : Good q s) (w_tenants : q.keep .tenants = false := by assumption) : Good q (Sys2Proof.Machine.State.setInst s f i) := by
  unfold Sys2Proof.Machine.State.setInst
  repeat' first
    | with_reducible assumption
    | with_reducible apply goodO_next
    | intro _
    | with_reducible apply good_foldl
    | with_reducible apply good_foldl_fst
    | split
    | with_reducible refine good_fst (by assumption) ?_
    | with_reducible refine good_snd (by assumption) ?_
    | with_reducible refine good_snd2 (by assumption) ?_
    | dsimp only
    | with_reducible refine good_mk (t := _) ?_ rfl rfl rfl rfl rfl rfl rfl rfl

theorem State_closeStage_good {q : Kept} {s : State} (f : Nat) (stage : Nat) (h : Good q s) (w_regs : q.keep .regs = false := by assumption) (w_pages : q.keep .pages = false := by assumption) (w_msgs : q.keep .msgs = false := by assumption) (w_faultLog : q.keep .faultLog = false := by assumption) (w_hbm : q.keep .hbm = false := by assumption) (w_caches : q.keep .caches = false := by assumption) (w_mem : q.keep .mem = false := by assumption) (w_sync : q.keep .sync = false := by assumption) (w_work : q.keep .work = false := by assumption) (w_link : q.keep .link = false := by assumption) (w_freeCtr : q.keep .freeCtr = false := by assumption) : Good q (Sys2Proof.Machine.State.closeStage s f stage) := by
  unfold Sys2Proof.Machine.State.closeStage
  repeat' first
    | with_reducible assumption
    | with_reducible apply goodO_next
    | intro _
    | with_reducible apply State_closePage_good
    | with_reducible apply good_foldl

theorem State_openStage_good {q : Kept} {s : State} (f : Nat) (stage : Nat) (h : Good q s) (w_regs : q.keep .regs = false := by assumption) (w_pages : q.keep .pages = false := by assumption) (w_msgs : q.keep .msgs = false := by assumption) (w_work : q.keep .work = false := by assumption) (w_link : q.keep .link = false := by assumption) : Good q (Sys2Proof.Machine.State.openStage s f stage) := by
  unfold Sys2Proof.Machine.State.openStage
  repeat' first
    | with_reducible assumption
    | with_reducible apply goodO_next
    | intro _
    | with_reducible apply State_openPage_good
    | with_reducible apply good_foldl

theorem State_instRefused_good {q : Kept} {s : State} (f : Nat) (bit : Nat) (h : Good q s) (w_regs : q.keep .regs = false := by assumption) (w_pages : q.keep .pages = false := by assumption) : Good q (Sys2Proof.Machine.State.instRefused s f bit) := by
  unfold Sys2Proof.Machine.State.instRefused
  repeat' first
    | with_reducible assumption
    | with_reducible apply goodO_next
    | intro _
    | with_reducible apply State_set_good
    | with_reducible apply State_capture_good

theorem tenantWrite_good {q : Kept} (fn : Nat) (f : Nat) (c : Instr) {s : State} (body : State → Outcome) (h : Good q s) (hbody : ∀ x0, Good q x0 → GoodO q (body x0)) (w_regs : q.keep .regs = false := by assumption) (w_pages : q.keep .pages = false := by assumption) (w_msgs : q.keep .msgs = false := by assumption) (w_held : q.keep .held = false := by assumption) : GoodO q (Sys2Proof.Machine.tenantWrite fn f c s body) := by
  unfold Sys2Proof.Machine.tenantWrite
  repeat' first
    | with_reducible assumption
    | with_reducible apply goodO_next
    | intro _
    | with_reducible apply hbody
    | with_reducible apply State_set_good
    | with_reducible apply State_hold_good
    | with_reducible apply mmio_good
    | with_reducible apply good_foldl
    | with_reducible apply good_foldl_fst
    | split

theorem tnCmd_good {q : Kept} (fn : Nat) (f : Nat) (c : Instr) {s : State} (check : State → Bool) (body : State → State) (h : Good q s) (hbody : ∀ x0, Good q x0 → Good q (body x0)) (w_regs : q.keep .regs = false := by assumption) (w_pages : q.keep .pages = false := by assumption) (w_msgs : q.keep .msgs = false := by assumption) (w_held : q.keep .held = false := by assumption) : GoodO q (Sys2Proof.Machine.tnCmd fn f c s check body) := by
  unfold Sys2Proof.Machine.tnCmd
  repeat' first
    | with_reducible assumption
    | with_reducible apply goodO_next
    | intro _
    | with_reducible apply hbody
    | with_reducible apply State_set_good
    | with_reducible apply State_instRefused_good
    | with_reducible apply tenantWrite_good
    | with_reducible apply good_foldl
    | with_reducible apply good_foldl_fst
    | split

theorem State_instBusy_good {q : Kept} {s : State} (f : Nat) (op : Nat) (h : Good q s) (w_regs : q.keep .regs = false := by assumption) (w_tenants : q.keep .tenants = false := by assumption) : Good q (Sys2Proof.Machine.State.instBusy s f op) := by
  unfold Sys2Proof.Machine.State.instBusy
  repeat' first
    | with_reducible assumption
    | with_reducible apply goodO_next
    | intro _
    | with_reducible apply State_flag_good
    | with_reducible apply State_setInst_good

theorem State_coreChanges_good {q : Kept} {s : State} (n : Nat) (back : Bool) (h : Good q s) (w_regs : q.keep .regs = false := by assumption) (w_pages : q.keep .pages = false := by assumption) (w_captures : q.keep .captures = false := by assumption) (w_msgs : q.keep .msgs = false := by assumption) (w_faultLog : q.keep .faultLog = false := by assumption) (w_ws : q.keep .ws = false := by assumption) (w_act : q.keep .act = false := by assumption) (w_hbm : q.keep .hbm = false := by assumption) (w_caches : q.keep .caches = false := by assumption) (w_mem : q.keep .mem = false := by assumption) (w_sluice : q.keep .sluice = false := by assumption) (w_work : q.keep .work = false := by assumption) (w_link : q.keep .link = false := by assumption) (w_freeCtr : q.keep .freeCtr = false := by assumption) : Good q (Sys2Proof.Machine.State.coreChanges s n back) := by
  unfold Sys2Proof.Machine.State.coreChanges
  repeat' first
    | with_reducible assumption
    | with_reducible apply goodO_next
    | intro _
    | with_reducible apply State_openPage_good
    | with_reducible apply State_contextsReset_good
    | with_reducible apply State_resetCorePages_good
    | with_reducible apply State_zeroStores_good
    | with_reducible apply State_grantFlush_good
    | with_reducible apply good_foldl
    | with_reducible apply good_foldl_fst
    | split

theorem execTgCoresWrite_good {q : Kept} (fn : Nat) (f : Nat) (v : Nat) {s : State} (h : Good q s) (w_regs : q.keep .regs = false := by assumption) (w_pages : q.keep .pages = false := by assumption) (w_captures : q.keep .captures = false := by assumption) (w_msgs : q.keep .msgs = false := by assumption) (w_faultLog : q.keep .faultLog = false := by assumption) (w_ws : q.keep .ws = false := by assumption) (w_act : q.keep .act = false := by assumption) (w_hbm : q.keep .hbm = false := by assumption) (w_caches : q.keep .caches = false := by assumption) (w_mem : q.keep .mem = false := by assumption) (w_sluice : q.keep .sluice = false := by assumption) (w_work : q.keep .work = false := by assumption) (w_link : q.keep .link = false := by assumption) (w_freeCtr : q.keep .freeCtr = false := by assumption) (w_held : q.keep .held = false := by assumption) : GoodO q (Sys2Proof.Machine.execTgCoresWrite fn f v s) := by
  unfold Sys2Proof.Machine.execTgCoresWrite
  repeat' first
    | with_reducible assumption
    | with_reducible apply goodO_next
    | intro _
    | with_reducible apply State_coreChanges_good
    | with_reducible apply tenantWrite_good
    | with_reducible apply State_instRefused_good
    | with_reducible apply State_set_good
    | with_reducible apply good_foldl
    | with_reducible apply good_foldl_fst
    | split
    | with_reducible refine good_fst (by assumption) ?_
    | with_reducible refine good_snd (by assumption) ?_
    | with_reducible refine good_snd2 (by assumption) ?_
    | dsimp only

theorem State_tripleReset_good {q : Kept} {s : State} (j : Nat) (h : Good q s) (w_regs : q.keep .regs = false := by assumption) (w_host : q.keep .host = false := by assumption) (w_work : q.keep .work = false := by assumption) : Good q (Sys2Proof.Machine.State.tripleReset s j) := by
  unfold Sys2Proof.Machine.State.tripleReset
  repeat' first
    | with_reducible assumption
    | with_reducible apply goodO_next
    | intro _
    | with_reducible apply good_foldl
    | with_reducible apply good_foldl_fst
    | split
    | with_reducible refine good_fst (by assumption) ?_
    | with_reducible refine good_snd (by assumption) ?_
    | with_reducible refine good_snd2 (by assumption) ?_
    | dsimp only
    | with_reducible refine good_mk (t := _) ?_ rfl rfl rfl rfl rfl rfl rfl rfl

theorem execTgPagesWrite_good {q : Kept} (fn : Nat) (f : Nat) (v : Nat) {s : State} (h : Good q s) (w_regs : q.keep .regs = false := by assumption) (w_pages : q.keep .pages = false := by assumption) (w_msgs : q.keep .msgs = false := by assumption) (w_host : q.keep .host = false := by assumption) (w_work : q.keep .work = false := by assumption) (w_held : q.keep .held = false := by assumption) : GoodO q (Sys2Proof.Machine.execTgPagesWrite fn f v s) := by
  unfold Sys2Proof.Machine.execTgPagesWrite
  repeat' first
    | with_reducible assumption
    | with_reducible apply goodO_next
    | intro _
    | with_reducible apply State_set_good
    | with_reducible apply State_instRefused_good
    | with_reducible apply tenantWrite_good
    | with_reducible apply State_tripleReset_good
    | with_reducible apply good_foldl
    | with_reducible apply good_foldl_fst
    | split
    | with_reducible refine good_fst (by assumption) ?_
    | with_reducible refine good_snd (by assumption) ?_
    | with_reducible refine good_snd2 (by assumption) ?_
    | dsimp only

theorem State_setPend_good {q : Kept} {s : State} (f : Nat) (b : Bool) (h : Good q s) (w_regs : q.keep .regs = false := by assumption) : Good q (Sys2Proof.Machine.State.setPend s f b) := by
  unfold Sys2Proof.Machine.State.setPend
  repeat' first
    | with_reducible assumption
    | with_reducible apply goodO_next
    | intro _
    | with_reducible apply State_set_good

theorem execMbOutSend_good {q : Kept} (fn : Nat) (f : Nat) {s : State} (h : Good q s) (w_regs : q.keep .regs = false := by assumption) (w_pages : q.keep .pages = false := by assumption) (w_msgs : q.keep .msgs = false := by assumption) : GoodO q (Sys2Proof.Machine.execMbOutSend fn f s) := by
  unfold Sys2Proof.Machine.execMbOutSend
  repeat' first
    | with_reducible assumption
    | with_reducible apply goodO_next
    | intro _
    | with_reducible apply State_flag_good
    | with_reducible apply State_refuseWrite_good
    | with_reducible apply mmio_good
    | with_reducible apply State_tenantEdge_good
    | with_reducible apply State_setPend_good
    | with_reducible apply good_foldl
    | with_reducible apply good_foldl_fst
    | split

theorem execMbReqAck_good {q : Kept} (fn : Nat) (f : Nat) {s : State} (h : Good q s) (w_regs : q.keep .regs = false := by assumption) (w_pages : q.keep .pages = false := by assumption) (w_msgs : q.keep .msgs = false := by assumption) : GoodO q (Sys2Proof.Machine.execMbReqAck fn f s) := by
  unfold Sys2Proof.Machine.execMbReqAck
  repeat' first
    | with_reducible assumption
    | with_reducible apply goodO_next
    | intro _
    | with_reducible apply State_flag_good
    | with_reducible apply State_raise_good
    | with_reducible apply mmio_good
    | with_reducible apply State_setPend_good
    | with_reducible apply good_foldl
    | with_reducible apply good_foldl_fst
    | split

theorem execMbRspSend_good {q : Kept} (fn : Nat) (f : Nat) {s : State} (h : Good q s) (w_regs : q.keep .regs = false := by assumption) (w_pages : q.keep .pages = false := by assumption) (w_msgs : q.keep .msgs = false := by assumption) : GoodO q (Sys2Proof.Machine.execMbRspSend fn f s) := by
  unfold Sys2Proof.Machine.execMbRspSend
  repeat' first
    | with_reducible assumption
    | with_reducible apply goodO_next
    | intro _
    | with_reducible apply State_flag_good
    | with_reducible apply State_raise_good
    | with_reducible apply State_refuseWrite_good
    | with_reducible apply mmio_good
    | with_reducible apply good_foldl
    | with_reducible apply good_foldl_fst
    | split

theorem execMbInAck_good {q : Kept} (fn : Nat) (f : Nat) {s : State} (h : Good q s) (w_regs : q.keep .regs = false := by assumption) (w_pages : q.keep .pages = false := by assumption) (w_msgs : q.keep .msgs = false := by assumption) : GoodO q (Sys2Proof.Machine.execMbInAck fn f s) := by
  unfold Sys2Proof.Machine.execMbInAck
  repeat' first
    | with_reducible assumption
    | with_reducible apply goodO_next
    | intro _
    | with_reducible apply State_set_good
    | with_reducible apply State_flag_good
    | with_reducible apply mmio_good
    | with_reducible apply good_foldl
    | with_reducible apply good_foldl_fst
    | split

theorem State_clearMailboxes_good {q : Kept} {s : State} (f : Nat) (h : Good q s) (w_regs : q.keep .regs = false := by assumption) : Good q (Sys2Proof.Machine.State.clearMailboxes s f) := by
  unfold Sys2Proof.Machine.State.clearMailboxes
  repeat' first
    | with_reducible assumption
    | with_reducible apply goodO_next
    | intro _
    | with_reducible apply State_set_good
    | with_reducible apply State_flag_good
    | with_reducible apply State_setPend_good
    | with_reducible apply good_foldl

theorem execTnQuiesce_good {q : Kept} (fn : Nat) (f : Nat) (preempt : Bool) {s : State} (h : Good q s) (w_regs : q.keep .regs = false := by assumption) (w_pages : q.keep .pages = false := by assumption) (w_msgs : q.keep .msgs = false := by assumption) (w_faultLog : q.keep .faultLog = false := by assumption) (w_hbm : q.keep .hbm = false := by assumption) (w_caches : q.keep .caches = false := by assumption) (w_mem : q.keep .mem = false := by assumption) (w_sync : q.keep .sync = false := by assumption) (w_work : q.keep .work = false := by assumption) (w_link : q.keep .link = false := by assumption) (w_tenants : q.keep .tenants = false := by assumption) (w_freeCtr : q.keep .freeCtr = false := by assumption) (w_held : q.keep .held = false := by assumption) : GoodO q (Sys2Proof.Machine.execTnQuiesce fn f preempt s) := by
  unfold Sys2Proof.Machine.execTnQuiesce
  repeat' first
    | with_reducible assumption
    | with_reducible apply goodO_next
    | intro _
    | with_reducible apply tnCmd_good
    | with_reducible apply State_closeStage_good
    | with_reducible apply State_setInst_good
    | with_reducible apply State_set_good
    | with_reducible apply good_foldl
    | with_reducible apply good_foldl_fst
    | split

theorem execTnQuiesceStage_good {q : Kept} (f : Nat) {s : State} (h : Good q s) (w_regs : q.keep .regs = false := by assumption) (w_pages : q.keep .pages = false := by assumption) (w_msgs : q.keep .msgs = false := by assumption) (w_faultLog : q.keep .faultLog = false := by assumption) (w_hbm : q.keep .hbm = false := by assumption) (w_caches : q.keep .caches = false := by assumption) (w_mem : q.keep .mem = false := by assumption) (w_sync : q.keep .sync = false := by assumption) (w_work : q.keep .work = false := by assumption) (w_link : q.keep .link = false := by assumption) (w_tenants : q.keep .tenants = false := by assumption) (w_freeCtr : q.keep .freeCtr = false := by assumption) : GoodO q (Sys2Proof.Machine.execTnQuiesceStage f s) := by
  unfold Sys2Proof.Machine.execTnQuiesceStage
  repeat' first
    | with_reducible assumption
    | with_reducible apply goodO_next
    | intro _
    | with_reducible apply State_closeStage_good
    | with_reducible apply State_setInst_good
    | with_reducible apply State_tenantEdge_good
    | with_reducible apply event_good
    | with_reducible apply State_raise_good
    | with_reducible apply State_set_good
    | with_reducible apply good_foldl
    | with_reducible apply good_foldl_fst
    | split
    | with_reducible refine good_fst (by assumption) ?_
    | with_reducible refine good_snd (by assumption) ?_
    | with_reducible refine good_snd2 (by assumption) ?_
    | dsimp only

theorem State_openGates_good {q : Kept} {s : State} (f : Nat) (h : Good q s) (w_regs : q.keep .regs = false := by assumption) (w_pages : q.keep .pages = false := by assumption) (w_msgs : q.keep .msgs = false := by assumption) (w_work : q.keep .work = false := by assumption) (w_link : q.keep .link = false := by assumption) (w_tenants : q.keep .tenants = false := by assumption) : Good q (Sys2Proof.Machine.State.openGates s f) := by
  unfold Sys2Proof.Machine.State.openGates
  repeat' first
    | with_reducible assumption
    | with_reducible apply goodO_next
    | intro _
    | with_reducible apply State_setInst_good
    | with_reducible apply State_openStage_good

theorem execTnUnquiesce_good {q : Kept} (fn : Nat) (f : Nat) {s : State} (h : Good q s) (w_regs : q.keep .regs = false := by assumption) (w_pages : q.keep .pages = false := by assumption) (w_msgs : q.keep .msgs = false := by assumption) (w_work : q.keep .work = false := by assumption) (w_link : q.keep .link = false := by assumption) (w_tenants : q.keep .tenants = false := by assumption) (w_held : q.keep .held = false := by assumption) : GoodO q (Sys2Proof.Machine.execTnUnquiesce fn f s) := by
  unfold Sys2Proof.Machine.execTnUnquiesce
  repeat' first
    | with_reducible assumption
    | with_reducible apply goodO_next
    | intro _
    | with_reducible apply State_set_good
    | with_reducible apply State_raise_good
    | with_reducible apply tnCmd_good
    | with_reducible apply State_openGates_good

theorem State_abortCore_good {q : Kept} {s : State} (f : Nat) (n : Nat) (h : Good q s) (w_regs : q.keep .regs = false := by assumption) (w_pages : q.keep .pages = false := by assumption) (w_msgs : q.keep .msgs = false := by assumption) (w_host : q.keep .host = false := by assumption) (w_faultLog : q.keep .faultLog = false := by assumption) (w_ws : q.keep .ws = false := by assumption) (w_act : q.keep .act = false := by assumption) (w_hbm : q.keep .hbm = false := by assumption) (w_caches : q.keep .caches = false := by assumption) (w_mem : q.keep .mem = false := by assumption) (w_sync : q.keep .sync = false := by assumption) (w_work : q.keep .work = false := by assumption) (w_link : q.keep .link = false := by assumption) (w_freeCtr : q.keep .freeCtr = false := by assumption) : Good q (Sys2Proof.Machine.State.abortCore s f n) := by
  unfold Sys2Proof.Machine.State.abortCore
  repeat' first
    | with_reducible assumption
    | with_reducible apply goodO_next
    | intro _
    | with_reducible apply State_add_good
    | with_reducible apply State_abortNow_good
    | with_reducible apply State_discardSaves_good
    | with_reducible apply good_foldl

theorem State_ringOff_good {q : Kept} {s : State} (c : Nat) (h : Good q s) (w_regs : q.keep .regs = false := by assumption) (w_host : q.keep .host = false := by assumption) : Good q (Sys2Proof.Machine.State.ringOff s c) := by
  unfold Sys2Proof.Machine.State.ringOff
  repeat' first
    | with_reducible assumption
    | with_reducible apply goodO_next
    | intro _
    | with_reducible apply State_flag_good
    | with_reducible apply State_setRing_good

theorem State_flushChain_good {q : Kept} {s : State} (c : Nat) (h : Good q s) (w_regs : q.keep .regs = false := by assumption) (w_pages : q.keep .pages = false := by assumption) (w_msgs : q.keep .msgs = false := by assumption) (w_host : q.keep .host = false := by assumption) (w_work : q.keep .work = false := by assumption) : Good q (Sys2Proof.Machine.State.flushChain s c) := by
  unfold Sys2Proof.Machine.State.flushChain
  repeat' first
    | with_reducible assumption
    | with_reducible apply goodO_next
    | intro _
    | with_reducible apply State_ringOff_good
    | with_reducible apply State_chainEffect_good
    | with_reducible apply State_runFinishes_good
    | with_reducible apply State_leaveCell_good
    | with_reducible apply State_setChain_good
    | with_reducible apply State_flag_good
    | with_reducible apply good_foldl
    | with_reducible apply good_foldl_fst
    | split

theorem State_resetFlow_good {q : Kept} {s : State} (w : Nat) (h : Good q s) (w_regs : q.keep .regs = false := by assumption) (w_pages : q.keep .pages = false := by assumption) (w_msgs : q.keep .msgs = false := by assumption) (w_work : q.keep .work = false := by assumption) : Good q (Sys2Proof.Machine.State.resetFlow s w) := by
  unfold Sys2Proof.Machine.State.resetFlow
  repeat' first
    | with_reducible assumption
    | with_reducible apply goodO_next
    | intro _
    | with_reducible apply State_set_good
    | with_reducible apply State_setFlow_good
    | with_reducible apply State_attnRefresh_good
    | with_reducible apply State_unlist_good
    | with_reducible apply State_taskDone_good
    | with_reducible apply good_foldl

theorem State_flushSpilled_good {q : Kept} {s : State} (f : Nat) (h : Good q s) (w_regs : q.keep .regs = false := by assumption) (w_pages : q.keep .pages = false := by assumption) (w_msgs : q.keep .msgs = false := by assumption) (w_work : q.keep .work = false := by assumption) : Good q (Sys2Proof.Machine.State.flushSpilled s f) := by
  unfold Sys2Proof.Machine.State.flushSpilled
  repeat' first
    | with_reducible assumption
    | with_reducible apply goodO_next
    | intro _
    | with_reducible apply State_setChannel_good
    | with_reducible apply State_taskDone_good
    | with_reducible apply good_foldl

theorem State_sluiceReset_good {q : Kept} {s : State} (f : Nat) (h : Good q s) (w_regs : q.keep .regs = false := by assumption) (w_sluice : q.keep .sluice = false := by assumption) : Good q (Sys2Proof.Machine.State.sluiceReset s f) := by
  unfold Sys2Proof.Machine.State.sluiceReset
  repeat' first
    | with_reducible assumption
    | with_reducible apply goodO_next
    | intro _
    | with_reducible apply State_set_good
    | with_reducible apply State_flag_good
    | with_reducible apply State_setReqRing_good
    | with_reducible apply State_dropDescs_good
    | with_reducible apply State_dropPke_good
    | with_reducible apply good_foldl

theorem State_flrStart_good {q : Kept} {s : State} (f : Nat) (leaving : Bool) (h : Good q s) (w_regs : q.keep .regs = false := by assumption) (w_pages : q.keep .pages = false := by assumption) (w_msgs : q.keep .msgs = false := by assumption) (w_host : q.keep .host = false := by assumption) (w_faultLog : q.keep .faultLog = false := by assumption) (w_ws : q.keep .ws = false := by assumption) (w_act : q.keep .act = false := by assumption) (w_hbm : q.keep .hbm = false := by assumption) (w_caches : q.keep .caches = false := by assumption) (w_mem : q.keep .mem = false := by assumption) (w_sluice : q.keep .sluice = false := by assumption) (w_sync : q.keep .sync = false := by assumption) (w_work : q.keep .work = false := by assumption) (w_link : q.keep .link = false := by assumption) (w_tenants : q.keep .tenants = false := by assumption) (w_freeCtr : q.keep .freeCtr = false := by assumption) : Good q (Sys2Proof.Machine.State.flrStart s f leaving) := by
  unfold Sys2Proof.Machine.State.flrStart
  repeat' first
    | with_reducible assumption
    | with_reducible apply goodO_next
    | intro _
    | with_reducible apply State_sluiceReset_good
    | with_reducible apply State_flushSpilled_good
    | with_reducible apply State_resetFlow_good
    | with_reducible apply State_flushChain_good
    | with_reducible apply State_abortCore_good
    | with_reducible apply State_closeStage_good
    | with_reducible apply State_setInst_good
    | with_reducible apply State_contextsReset_good
    | with_reducible apply State_emptyCache_good
    | with_reducible apply State_flag_good
    | with_reducible apply State_set_good
    | with_reducible apply good_foldl
    | with_reducible apply good_foldl_fst
    | split
    | with_reducible refine good_fst (by assumption) ?_
    | with_reducible refine good_snd (by assumption) ?_
    | with_reducible refine good_snd2 (by assumption) ?_
    | dsimp only
    | with_reducible refine good_mk (t := _) ?_ rfl rfl rfl rfl rfl rfl rfl rfl

theorem State_hostSideReset_good {q : Kept} {s : State} (f : Nat) (h : Good q s) (w_regs : q.keep .regs = false := by assumption) (w_host : q.keep .host = false := by assumption) : Good q (Sys2Proof.Machine.State.hostSideReset s f) := by
  unfold Sys2Proof.Machine.State.hostSideReset
  repeat' first
    | with_reducible assumption
    | with_reducible apply goodO_next
    | intro _
    | with_reducible apply State_flag_good
    | with_reducible apply good_foldl
    | with_reducible apply good_foldl_fst
    | split
    | with_reducible refine good_fst (by assumption) ?_
    | with_reducible refine good_snd (by assumption) ?_
    | with_reducible refine good_snd2 (by assumption) ?_
    | dsimp only
    | with_reducible refine good_mk (t := _) ?_ rfl rfl rfl rfl rfl rfl rfl rfl

theorem State_pcieReset_good {q : Kept} {s : State} (f : Nat) (h : Good q s) (w_msgs : q.keep .msgs = false := by assumption) (w_host : q.keep .host = false := by assumption) : Good q (Sys2Proof.Machine.State.pcieReset s f) := by
  unfold Sys2Proof.Machine.State.pcieReset
  repeat' first
    | with_reducible assumption
    | with_reducible apply goodO_next
    | intro _
    | with_reducible apply good_foldl
    | with_reducible apply good_foldl_fst
    | split
    | with_reducible refine good_fst (by assumption) ?_
    | with_reducible refine good_snd (by assumption) ?_
    | with_reducible refine good_snd2 (by assumption) ?_
    | dsimp only
    | with_reducible refine good_mk (t := _) ?_ rfl rfl rfl rfl rfl rfl rfl rfl

theorem State_clearWindow_good {q : Kept} {s : State} (f : Nat) (h : Good q s) (w_sluice : q.keep .sluice = false := by assumption) : Good q (Sys2Proof.Machine.State.clearWindow s f) := by
  unfold Sys2Proof.Machine.State.clearWindow
  repeat' first
    | with_reducible assumption
    | with_reducible apply goodO_next
    | intro _
    | with_reducible apply State_clearSlot_good
    | with_reducible apply good_foldl

theorem State_clearBlocks_good {q : Kept} {s : State} (f : Nat) (h : Good q s) (w_sync : q.keep .sync = false := by assumption) : Good q (Sys2Proof.Machine.State.clearBlocks s f) := by
  unfold Sys2Proof.Machine.State.clearBlocks
  repeat' first
    | with_reducible assumption
    | with_reducible apply goodO_next
    | intro _
    | with_reducible apply State_clearBlock_good
    | with_reducible apply good_foldl

theorem State_gatesQuiesced_good {q : Kept} {s : State} (f : Nat) (h : Good q s) (w_regs : q.keep .regs = false := by assumption) (w_pages : q.keep .pages = false := by assumption) (w_msgs : q.keep .msgs = false := by assumption) (w_faultLog : q.keep .faultLog = false := by assumption) (w_hbm : q.keep .hbm = false := by assumption) (w_caches : q.keep .caches = false := by assumption) (w_mem : q.keep .mem = false := by assumption) (w_sync : q.keep .sync = false := by assumption) (w_work : q.keep .work = false := by assumption) (w_link : q.keep .link = false := by assumption) (w_freeCtr : q.keep .freeCtr = false := by assumption) : Good q (Sys2Proof.Machine.State.gatesQuiesced s f) := by
  unfold Sys2Proof.Machine.State.gatesQuiesced
  repeat' first
    | with_reducible assumption
    | with_reducible apply goodO_next
    | intro _
    | with_reducible apply State_quiescedNow_good
    | with_reducible apply State_closePage_good
    | with_reducible apply good_foldl
    | with_reducible apply good_foldl_fst
    | split

theorem State_flrEnd_good {q : Kept} {s : State} (f : Nat) (h : Good q s) (w_regs : q.keep .regs = false := by assumption) (w_pages : q.keep .pages = false := by assumption) (w_msgs : q.keep .msgs = false := by assumption) (w_host : q.keep .host = false := by assumption) (w_faultLog : q.keep .faultLog = false := by assumption) (w_hbm : q.keep .hbm = false := by assumption) (w_caches : q.keep .caches = false := by assumption) (w_mem : q.keep .mem = false := by assumption) (w_sluice : q.keep .sluice = false := by assumption) (w_sync : q.keep .sync = false := by assumption) (w_work : q.keep .work = false := by assumption) (w_link : q.keep .link = false := by assumption) (w_tenants : q.keep .tenants = false := by assumption) (w_freeCtr : q.keep .freeCtr = false := by assumption) : Good q (Sys2Proof.Machine.State.flrEnd s f) := by
  unfold Sys2Proof.Machine.State.flrEnd
  repeat' first
    | with_reducible assumption
    | with_reducible apply goodO_next
    | intro _
    | with_reducible apply State_gatesQuiesced_good
    | with_reducible apply State_clearBlocks_good
    | with_reducible apply State_clearWindow_good
    | with_reducible apply State_pcieReset_good
    | with_reducible apply State_hostSideReset_good
    | with_reducible apply State_openGates_good
    | with_reducible apply State_clearMailboxes_good
    | with_reducible apply State_setInst_good
    | with_reducible apply State_tenantEdge_good
    | with_reducible apply State_set_good
    | with_reducible apply good_foldl
    | with_reducible apply good_foldl_fst
    | split

theorem execFlr_good {q : Kept} (f : Nat) {s : State} (h : Good q s) (w_regs : q.keep .regs = false := by assumption) (w_pages : q.keep .pages = false := by assumption) (w_msgs : q.keep .msgs = false := by assumption) (w_host : q.keep .host = false := by assumption) (w_faultLog : q.keep .faultLog = false := by assumption) (w_ws : q.keep .ws = false := by assumption) (w_act : q.keep .act = false := by assumption) (w_hbm : q.keep .hbm = false := by assumption) (w_caches : q.keep .caches = false := by assumption) (w_mem : q.keep .mem = false := by assumption) (w_sluice : q.keep .sluice = false := by assumption) (w_sync : q.keep .sync = false := by assumption) (w_work : q.keep .work = false := by assumption) (w_link : q.keep .link = false := by assumption) (w_tenants : q.keep .tenants = false := by assumption) (w_freeCtr : q.keep .freeCtr = false := by assumption) (w_held : q.keep .held = false := by assumption) : GoodO q (Sys2Proof.Machine.execFlr f s) := by
  unfold Sys2Proof.Machine.execFlr
  repeat' first
    | with_reducible assumption
    | with_reducible apply goodO_next
    | intro _
    | with_reducible apply State_hold_good
    | with_reducible apply State_flrStart_good
    | with_reducible apply State_hostSideReset_good
    | with_reducible apply State_pcieReset_good
    | with_reducible apply good_foldl
    | with_reducible apply good_foldl_fst
    | split

theorem execFlrDone_good {q : Kept} (f : Nat) {s : State} (h : Good q s) (w_regs : q.keep .regs = false := by assumption) (w_pages : q.keep .pages = false := by assumption) (w_msgs : q.keep .msgs = false := by assumption) (w_host : q.keep .host = false := by assumption) (w_faultLog : q.keep .faultLog = false := by assumption) (w_hbm : q.keep .hbm = false := by assumption) (w_caches : q.keep .caches = false := by assumption) (w_mem : q.keep .mem = false := by assumption) (w_sluice : q.keep .sluice = false := by assumption) (w_sync : q.keep .sync = false := by assumption) (w_work : q.keep .work = false := by assumption) (w_link : q.keep .link = false := by assumption) (w_tenants : q.keep .tenants = false := by assumption) (w_freeCtr : q.keep .freeCtr = false := by assumption) : GoodO q (Sys2Proof.Machine.execFlrDone f s) := by
  unfold Sys2Proof.Machine.execFlrDone
  repeat' first
    | with_reducible assumption
    | with_reducible apply goodO_next
    | intro _
    | with_reducible apply State_flrEnd_good
    | with_reducible apply event_good
    | with_reducible apply good_foldl
    | with_reducible apply good_foldl_fst
    | split

theorem State_vfsBecome_good {q : Kept} {s : State} (n : Nat) (h : Good q s) (w_regs : q.keep .regs = false := by assumption) (w_pages : q.keep .pages = false := by assumption) (w_msgs : q.keep .msgs = false := by assumption) (w_host : q.keep .host = false := by assumption) (w_faultLog : q.keep .faultLog = false := by assumption) (w_ws : q.keep .ws = false := by assumption) (w_act : q.keep .act = false := by assumption) (w_hbm : q.keep .hbm = false := by assumption) (w_caches : q.keep .caches = false := by assumption) (w_mem : q.keep .mem = false := by assumption) (w_sluice : q.keep .sluice = false := by assumption) (w_sync : q.keep .sync = false := by assumption) (w_work : q.keep .work = false := by assumption) (w_link : q.keep .link = false := by assumption) (w_tenants : q.keep .tenants = false := by assumption) (w_freeCtr : q.keep .freeCtr = false := by assumption) : Good q (Sys2Proof.Machine.State.vfsBecome s n) := by
  unfold Sys2Proof.Machine.State.vfsBecome
  repeat' first
    | with_reducible assumption
    | with_reducible apply goodO_next
    | intro _
    | with_reducible apply State_set_good
    | with_reducible apply State_setInst_good
    | with_reducible apply State_flrStart_good
    | with_reducible apply State_hostSideReset_good
    | with_reducible apply State_pcieReset_good
    | with_reducible apply good_foldl
    | with_reducible apply good_foldl_fst
    | split
    | with_reducible refine good_fst (by assumption) ?_
    | with_reducible refine good_snd (by assumption) ?_
    | with_reducible refine good_snd2 (by assumption) ?_
    | dsimp only
    | with_reducible refine good_mk (t := _) ?_ rfl rfl rfl rfl rfl rfl rfl rfl

theorem execVfEnable_good {q : Kept} (n : Nat) {s : State} (h : Good q s) (w_regs : q.keep .regs = false := by assumption) (w_pages : q.keep .pages = false := by assumption) (w_msgs : q.keep .msgs = false := by assumption) (w_host : q.keep .host = false := by assumption) (w_faultLog : q.keep .faultLog = false := by assumption) (w_ws : q.keep .ws = false := by assumption) (w_act : q.keep .act = false := by assumption) (w_hbm : q.keep .hbm = false := by assumption) (w_caches : q.keep .caches = false := by assumption) (w_mem : q.keep .mem = false := by assumption) (w_sluice : q.keep .sluice = false := by assumption) (w_sync : q.keep .sync = false := by assumption) (w_work : q.keep .work = false := by assumption) (w_link : q.keep .link = false := by assumption) (w_tenants : q.keep .tenants = false := by assumption) (w_freeCtr : q.keep .freeCtr = false := by assumption) : GoodO q (Sys2Proof.Machine.execVfEnable n s) := by
  unfold Sys2Proof.Machine.execVfEnable
  repeat' first
    | with_reducible assumption
    | with_reducible apply goodO_next
    | intro _
    | with_reducible apply State_vfsBecome_good
    | with_reducible apply good_foldl
    | with_reducible apply good_foldl_fst
    | split

theorem State_revokeBlocks_good {q : Kept} {s : State} (f : Nat) (h : Good q s) (w_regs : q.keep .regs = false := by assumption) (w_sync : q.keep .sync = false := by assumption) : Good q (Sys2Proof.Machine.State.revokeBlocks s f) := by
  unfold Sys2Proof.Machine.State.revokeBlocks
  repeat' first
    | with_reducible assumption
    | with_reducible apply goodO_next
    | intro _
    | with_reducible apply State_set_good
    | with_reducible apply State_clearBlock_good
    | with_reducible apply good_foldl

theorem State_revokeSegments_good {q : Kept} {s : State} (f : Nat) (h : Good q s) (w_regs : q.keep .regs = false := by assumption) (w_pages : q.keep .pages = false := by assumption) (w_msgs : q.keep .msgs = false := by assumption) (w_faultLog : q.keep .faultLog = false := by assumption) (w_hbm : q.keep .hbm = false := by assumption) (w_caches : q.keep .caches = false := by assumption) (w_mem : q.keep .mem = false := by assumption) (w_freeCtr : q.keep .freeCtr = false := by assumption) : Good q (Sys2Proof.Machine.State.revokeSegments s f) := by
  unfold Sys2Proof.Machine.State.revokeSegments
  repeat' first
    | with_reducible assumption
    | with_reducible apply goodO_next
    | intro _
    | with_reducible apply State_flushRange_good
    | with_reducible apply State_flag_good
    | with_reducible apply good_foldl

theorem State_revokeDomains_good {q : Kept} {s : State} (f : Nat) (h : Good q s) (w_regs : q.keep .regs = false := by assumption) (w_mem : q.keep .mem = false := by assumption) : Good q (Sys2Proof.Machine.State.revokeDomains s f) := by
  unfold Sys2Proof.Machine.State.revokeDomains
  repeat' first
    | with_reducible assumption
    | with_reducible apply goodO_next
    | intro _
    | with_reducible apply State_set_good
    | with_reducible apply State_flag_good
    | with_reducible apply State_setKeys_good
    | with_reducible apply good_foldl

theorem State_revokeSet_good {q : Kept} {s : State} (e : Nat) (h : Good q s) (w_regs : q.keep .regs = false := by assumption) (w_work : q.keep .work = false := by assumption) : Good q (Sys2Proof.Machine.State.revokeSet s e) := by
  unfold Sys2Proof.Machine.State.revokeSet
  repeat' first
    | with_reducible assumption
    | with_reducible apply goodO_next
    | intro _
    | with_reducible apply State_setCur_good
    | with_reducible apply State_setWset_good
    | with_reducible apply State_set_good
    | with_reducible apply good_foldl

theorem State_revoke_good {q : Kept} {s : State} (f : Nat) (h : Good q s) (w_regs : q.keep .regs = false := by assumption) (w_pages : q.keep .pages = false := by assumption) (w_captures : q.keep .captures = false := by assumption) (w_msgs : q.keep .msgs = false := by assumption) (w_host : q.keep .host = false := by assumption) (w_faultLog : q.keep .faultLog = false := by assumption) (w_ws : q.keep .ws = false := by assumption) (w_act : q.keep .act = false := by assumption) (w_hbm : q.keep .hbm = false := by assumption) (w_caches : q.keep .caches = false := by assumption) (w_mem : q.keep .mem = false := by assumption) (w_sluice : q.keep .sluice = false := by assumption) (w_sync : q.keep .sync = false := by assumption) (w_work : q.keep .work = false := by assumption) (w_link : q.keep .link = false := by assumption) (w_freeCtr : q.keep .freeCtr = false := by assumption) : Good q (Sys2Proof.Machine.State.revoke s f) := by
  unfold Sys2Proof.Machine.State.revoke
  repeat' first
    | with_reducible assumption
    | with_reducible apply goodO_next
    | intro _
    | with_reducible apply State_revokeSet_good
    | with_reducible apply State_revokeDomains_good
    | with_reducible apply State_revokeSegments_good
    | with_reducible apply State_revokeBlocks_good
    | with_reducible apply State_clearWindow_good
    | with_reducible apply State_hostSideReset_good
    | with_reducible apply State_flushSpilled_good
    | with_reducible apply State_resetFlow_good
    | with_reducible apply State_flushChain_good
    | with_reducible apply State_clearMailboxes_good
    | with_reducible apply State_tripleReset_good
    | with_reducible apply State_coreChanges_good
    | with_reducible apply State_discardSaves_good
    | with_reducible apply State_selectNone_good
    | with_reducible apply State_set_good
    | with_reducible apply good_foldl
    | with_reducible apply good_foldl_fst
    | split

theorem execRevokeAll_good {q : Kept} (fn : Nat) (f : Nat) {s : State} (h : Good q s) (w_regs : q.keep .regs = false := by assumption) (w_pages : q.keep .pages = false := by assumption) (w_captures : q.keep .captures = false := by assumption) (w_msgs : q.keep .msgs = false := by assumption) (w_host : q.keep .host = false := by assumption) (w_faultLog : q.keep .faultLog = false := by assumption) (w_ws : q.keep .ws = false := by assumption) (w_act : q.keep .act = false := by assumption) (w_hbm : q.keep .hbm = false := by assumption) (w_caches : q.keep .caches = false := by assumption) (w_mem : q.keep .mem = false := by assumption) (w_sluice : q.keep .sluice = false := by assumption) (w_sync : q.keep .sync = false := by assumption) (w_work : q.keep .work = false := by assumption) (w_link : q.keep .link = false := by assumption) (w_tenants : q.keep .tenants = false := by assumption) (w_freeCtr : q.keep .freeCtr = false := by assumption) (w_held : q.keep .held = false := by assumption) : GoodO q (Sys2Proof.Machine.execRevokeAll fn f s) := by
  unfold Sys2Proof.Machine.execRevokeAll
  repeat' first
    | with_reducible assumption
    | with_reducible apply goodO_next
    | intro _
    | with_reducible apply tnCmd_good
    | with_reducible apply State_instBusy_good
    | with_reducible apply State_revoke_good

theorem execTnDone_good {q : Kept} (f : Nat) {s : State} (h : Good q s) (w_regs : q.keep .regs = false := by assumption) (w_pages : q.keep .pages = false := by assumption) (w_msgs : q.keep .msgs = false := by assumption) (w_tenants : q.keep .tenants = false := by assumption) : GoodO q (Sys2Proof.Machine.execTnDone f s) := by
  unfold Sys2Proof.Machine.execTnDone
  repeat' first
    | with_reducible assumption
    | with_reducible apply goodO_next
    | intro _
    | with_reducible apply State_flag_good
    | with_reducible apply event_good
    | with_reducible apply State_tenantEdge_good
    | with_reducible apply State_setInst_good
    | with_reducible apply good_foldl
    | with_reducible apply good_foldl_fst
    | split

theorem execDlSync_good {q : Kept} (fn : Nat) (f : Nat) {s : State} (h : Good q s) (w_regs : q.keep .regs = false := by assumption) (w_pages : q.keep .pages = false := by assumption) (w_msgs : q.keep .msgs = false := by assumption) (w_tenants : q.keep .tenants = false := by assumption) (w_held : q.keep .held = false := by assumption) : GoodO q (Sys2Proof.Machine.execDlSync fn f s) := by
  unfold Sys2Proof.Machine.execDlSync
  repeat' first
    | with_reducible assumption
    | with_reducible apply goodO_next
    | intro _
    | with_reducible apply tnCmd_good
    | with_reducible apply State_instBusy_good
    | with_reducible apply good_foldl
    | with_reducible apply good_foldl_fst
    | split

theorem execDlDone_good {q : Kept} (f : Nat) {s : State} (h : Good q s) (w_regs : q.keep .regs = false := by assumption) (w_pages : q.keep .pages = false := by assumption) (w_msgs : q.keep .msgs = false := by assumption) (w_host : q.keep .host = false := by assumption) (w_tenants : q.keep .tenants = false := by assumption) (w_freeCtr : q.keep .freeCtr = false := by assumption) : GoodO q (Sys2Proof.Machine.execDlDone f s) := by
  unfold Sys2Proof.Machine.execDlDone
  repeat' first
    | with_reducible assumption
    | with_reducible apply goodO_next
    | intro _
    | with_reducible apply State_flag_good
    | with_reducible apply event_good
    | with_reducible apply State_drawFree_good
    | with_reducible apply State_tenantEdge_good
    | with_reducible apply State_dirtyIndex_good
    | with_reducible apply State_setInst_good
    | with_reducible apply good_foldl
    | with_reducible apply good_foldl_fst
    | split

theorem execDlEpoch_good {q : Kept} (fn : Nat) (f : Nat) {s : State} (h : Good q s) (w_regs : q.keep .regs = false := by assumption) (w_pages : q.keep .pages = false := by assumption) (w_msgs : q.keep .msgs = false := by assumption) (w_host : q.keep .host = false := by assumption) (w_held : q.keep .held = false := by assumption) : GoodO q (Sys2Proof.Machine.execDlEpoch fn f s) := by
  unfold Sys2Proof.Machine.execDlEpoch
  repeat' first
    | with_reducible assumption
    | with_reducible apply goodO_next
    | intro _
    | with_reducible apply State_flag_good
    | with_reducible apply tnCmd_good
    | with_reducible apply good_foldl
    | with_reducible apply good_foldl_fst
    | split
    | with_reducible refine good_fst (by assumption) ?_
    | with_reducible refine good_snd (by assumption) ?_
    | with_reducible refine good_snd2 (by assumption) ?_
    | dsimp only
    | with_reducible refine good_mk (t := _) ?_ rfl rfl rfl rfl rfl rfl rfl rfl

theorem execDlEnable_good {q : Kept} (fn : Nat) (f : Nat) (en : Bool) {s : State} (h : Good q s) (w_regs : q.keep .regs = false := by assumption) (w_pages : q.keep .pages = false := by assumption) (w_msgs : q.keep .msgs = false := by assumption) (w_host : q.keep .host = false := by assumption) : GoodO q (Sys2Proof.Machine.execDlEnable fn f en s) := by
  unfold Sys2Proof.Machine.execDlEnable
  repeat' first
    | with_reducible assumption
    | with_reducible apply goodO_next
    | intro _
    | with_reducible apply State_set_good
    | with_reducible apply State_flag_good
    | with_reducible apply mmio_good
    | with_reducible apply good_foldl
    | with_reducible apply good_foldl_fst
    | split
    | with_reducible refine good_fst (by assumption) ?_
    | with_reducible refine good_snd (by assumption) ?_
    | with_reducible refine good_snd2 (by assumption) ?_
    | dsimp only
    | with_reducible refine good_mk (t := _) ?_ rfl rfl rfl rfl rfl rfl rfl rfl

theorem execDlCiDoorbell_good {q : Kept} (fn : Nat) (f : Nat) (p : Nat) {s : State} (h : Good q s) (w_regs : q.keep .regs = false := by assumption) (w_pages : q.keep .pages = false := by assumption) (w_msgs : q.keep .msgs = false := by assumption) : GoodO q (Sys2Proof.Machine.execDlCiDoorbell fn f p s) := by
  unfold Sys2Proof.Machine.execDlCiDoorbell
  repeat' first
    | with_reducible assumption
    | with_reducible apply goodO_next
    | intro _
    | with_reducible apply State_set_good
    | with_reducible apply State_capture_good
    | with_reducible apply mmio_good
    | with_reducible apply good_foldl
    | with_reducible apply good_foldl_fst
    | split

end Sys2Proof.Laws
end

