-- ==== Sys2Proof/Laws/KeepPower.lean ====
section
/-!
SUPPORT. What the operations of Machine/Power.lean keep.
-/

set_option Elab.async false

namespace Sys2Proof.Laws

open Sys2Proof.Machine

theorem State_readyRefresh_good {q : Kept} {s : State} (h : Good q s) (w_regs : q.keep .regs = false := by assumption) (w_pages : q.keep .pages = false := by assumption) (w_msgs : q.keep .msgs = false := by assumption) : Good q (Sys2Proof.Machine.State.readyRefresh s) := by
  unfold Sys2Proof.Machine.State.readyRefresh
  repeat' first
    | with_reducible assumption
    | with_reducible apply goodO_next
    | intro _
    | with_reducible apply State_set_good
    | with_reducible apply State_raise_good
    | with_reducible apply good_foldl
    | with_reducible apply good_foldl_fst
    | split

theorem State_clearDomain_good {q : Kept} {s : State} (d : Nat) (h : Good q s) (w_regs : q.keep .regs = false := by assumption) (w_pages : q.keep .pages = false := by assumption) (w_captures : q.keep .captures = false := by assumption) (w_held : q.keep .held = false := by assumption) : Good q (Sys2Proof.Machine.State.clearDomain s d) := by
  unfold Sys2Proof.Machine.State.clearDomain
  repeat' first
    | with_reducible assumption
    | with_reducible apply goodO_next
    | intro _
    | with_reducible apply State_clearPages_good
    | with_reducible apply good_foldl
    | with_reducible apply good_foldl_fst
    | split
    | with_reducible refine good_fst (by assumption) ?_
    | with_reducible refine good_snd (by assumption) ?_
    | with_reducible refine good_snd2 (by assumption) ?_
    | dsimp only
    | with_reducible refine good_mk (t := _) ?_ rfl rfl rfl rfl rfl rfl rfl rfl

theorem State_strapSpeed_good {q : Kept} {s : State} (h : Good q s) (w_regs : q.keep .regs = false := by assumption) : Good q (Sys2Proof.Machine.State.strapSpeed s) := by
  unfold Sys2Proof.Machine.State.strapSpeed
  repeat' first
    | with_reducible assumption
    | with_reducible apply goodO_next
    | intro _
    | with_reducible apply State_set_good

theorem State_patchEnds_good {q : Kept} {s : State} (st : Status) (version : Nat) (h : Good q s) (w_regs : q.keep .regs = false := by assumption) (w_pages : q.keep .pages = false := by assumption) (w_msgs : q.keep .msgs = false := by assumption) (w_freeCtr : q.keep .freeCtr = false := by assumption) : Good q (Sys2Proof.Machine.State.patchEnds s st version) := by
  unfold Sys2Proof.Machine.State.patchEnds
  repeat' first
    | with_reducible assumption
    | with_reducible apply goodO_next
    | intro _
    | with_reducible apply State_set_good
    | with_reducible apply State_flag_good
    | with_reducible apply State_raise_good
    | with_reducible apply State_captureOpen_good
    | with_reducible apply good_foldl
    | with_reducible apply good_foldl_fst
    | split

theorem State_dropHost_good {q : Kept} {s : State} (h : Good q s) (w_msgs : q.keep .msgs = false := by assumption) (w_host : q.keep .host = false := by assumption) : Good q (Sys2Proof.Machine.State.dropHost s) := by
  refine good_step h rfl (fun b => ⟨b.memory, b.protLog, Nat.zero_le _, b.lateErrors, b.faultLog⟩) (fun x hx => ?_)
  cases x <;> first | (rw [w_host] at hx; cases hx; done) | (rw [w_msgs] at hx; cases hx; done) | exact Eq.refl _

theorem State_dropLink_good {q : Kept} {s : State} (h : Good q s) (w_link : q.keep .link = false := by assumption) : Good q (Sys2Proof.Machine.State.dropLink s) := by
  refine good_step h rfl (fun b => ⟨b.memory, b.protLog, b.abortLog, Nat.zero_le _, b.faultLog⟩) (fun x hx => ?_)
  cases x <;> first | (rw [w_link] at hx; cases hx; done) | exact Eq.refl _ | exact ⟨rfl, rfl, rfl⟩

theorem State_dropSluice_good {q : Kept} {s : State} (h : Good q s) (w_power : q.keep .power = false := by assumption) (w_sluice : q.keep .sluice = false := by assumption) : Good q (Sys2Proof.Machine.State.dropSluice s) := by
  unfold Sys2Proof.Machine.State.dropSluice
  repeat' first
    | with_reducible assumption
    | with_reducible apply goodO_next
    | intro _
    | with_reducible apply good_foldl
    | with_reducible apply good_foldl_fst
    | split
    | with_reducible refine good_fst (by assumption) ?_
    | with_reducible refine good_snd (by assumption) ?_
    | with_reducible refine good_snd2 (by assumption) ?_
    | dsimp only
    | with_reducible refine good_mk (t := _) ?_ rfl rfl rfl rfl rfl rfl rfl rfl

theorem State_loseHost_good {q : Kept} {s : State} (h : Good q s) (w_regs : q.keep .regs = false := by assumption) (w_pages : q.keep .pages = false := by assumption) (w_msgs : q.keep .msgs = false := by assumption) (w_host : q.keep .host = false := by assumption) (w_freeCtr : q.keep .freeCtr = false := by assumption) : Good q (Sys2Proof.Machine.State.loseHost s) := by
  unfold Sys2Proof.Machine.State.loseHost
  repeat' first
    | with_reducible assumption
    | with_reducible apply goodO_next
    | intro _
    | with_reducible apply State_strapSpeed_good
    | with_reducible apply State_patchEnds_good
    | with_reducible apply State_dropHost_good
    | with_reducible apply good_foldl
    | with_reducible apply good_foldl_fst
    | split
    | with_reducible refine good_fst (by assumption) ?_
    | with_reducible refine good_snd (by assumption) ?_
    | with_reducible refine good_snd2 (by assumption) ?_
    | dsimp only

theorem State_loseMem_good {q : Kept} {s : State} (retain : Bool) (h : Good q s) (w_hbm : q.keep .hbm = false := by assumption) (w_mem : q.keep .mem = false := by assumption) : Good q (Sys2Proof.Machine.State.loseMem s retain) := by
  unfold Sys2Proof.Machine.State.loseMem
  refine good_step h rfl (fun b => ?_) (fun x hx => ?_)
  · have hm := Memory.wf_parts.mp b.memory
    refine ⟨Memory.wf_parts.mpr ⟨hm.1, hm.2.1, ?_⟩, Nat.zero_le _, b.abortLog, b.lateErrors, b.faultLog⟩
    cases retain
    · rfl
    · exact hm.2.2
  · cases x <;> first
      | (rw [w_hbm] at hx; cases hx; done) | (rw [w_mem] at hx; cases hx; done) | exact Eq.refl _ | exact ⟨rfl, rfl, rfl⟩

theorem State_loseCore_good {q : Kept} {s : State} (retain : Bool) (n : Nat) (h : Good q s) (w_regs : q.keep .regs = false := by assumption) (w_ws : q.keep .ws = false := by assumption) (w_act : q.keep .act = false := by assumption) (w_caches : q.keep .caches = false := by assumption) (w_mem : q.keep .mem = false := by assumption) (w_sluice : q.keep .sluice = false := by assumption) (w_sync : q.keep .sync = false := by assumption) (w_work : q.keep .work = false := by assumption) : Good q (Sys2Proof.Machine.State.loseCore s retain n) := by
  unfold Sys2Proof.Machine.State.loseCore
  repeat' first
    | with_reducible assumption
    | with_reducible apply goodO_next
    | intro _
    | with_reducible apply State_set_good
    | with_reducible apply State_zeroStores_good
    | with_reducible apply State_clearHolds_good
    | with_reducible apply State_coreClear_good
    | with_reducible apply good_foldl
    | with_reducible apply good_foldl_fst
    | split

theorem State_loseShared_good {q : Kept} {s : State} (h : Good q s) (w_host : q.keep .host = false := by assumption) (w_sync : q.keep .sync = false := by assumption) (w_work : q.keep .work = false := by assumption) (w_tenants : q.keep .tenants = false := by assumption) : Good q (Sys2Proof.Machine.State.loseShared s) := by
  unfold Sys2Proof.Machine.State.loseShared
  repeat' first
    | with_reducible assumption
    | with_reducible apply goodO_next
    | intro _
    | with_reducible apply good_foldl
    | with_reducible apply good_foldl_fst
    | split
    | with_reducible refine good_fst (by assumption) ?_
    | with_reducible refine good_snd (by assumption) ?_
    | with_reducible refine good_snd2 (by assumption) ?_
    | dsimp only
    | with_reducible refine good_mk (t := _) ?_ rfl rfl rfl rfl rfl rfl rfl rfl

theorem State_lose_good {q : Kept} {s : State} (d : Nat) (retain : Bool) (h : Good q s) (w_regs : q.keep .regs = false := by assumption) (w_pages : q.keep .pages = false := by assumption) (w_captures : q.keep .captures = false := by assumption) (w_msgs : q.keep .msgs = false := by assumption) (w_host : q.keep .host = false := by assumption) (w_power : q.keep .power = false := by assumption) (w_ws : q.keep .ws = false := by assumption) (w_act : q.keep .act = false := by assumption) (w_hbm : q.keep .hbm = false := by assumption) (w_caches : q.keep .caches = false := by assumption) (w_mem : q.keep .mem = false := by assumption) (w_sluice : q.keep .sluice = false := by assumption) (w_sync : q.keep .sync = false := by assumption) (w_work : q.keep .work = false := by assumption) (w_link : q.keep .link = false := by assumption) (w_tenants : q.keep .tenants = false := by assumption) (w_freeCtr : q.keep .freeCtr = false := by assumption) (w_held : q.keep .held = false := by assumption) : Good q (Sys2Proof.Machine.State.lose s d retain) := by
  unfold Sys2Proof.Machine.State.lose
  repeat' first
    | with_reducible assumption
    | with_reducible apply goodO_next
    | intro _
    | with_reducible apply State_skewRefresh_good
    | with_reducible apply State_clearDomain_good
    | with_reducible apply State_dropLink_good
    | with_reducible apply State_dropSluice_good
    | with_reducible apply State_loseHost_good
    | with_reducible apply State_loseMem_good
    | with_reducible apply State_loseCore_good
    | with_reducible apply State_loseShared_good
    | with_reducible apply good_foldl
    | with_reducible apply good_foldl_fst
    | split

theorem State_ringGivesBack_good {q : Kept} {s : State} (c : Nat) (h : Good q s) (w_regs : q.keep .regs = false := by assumption) (w_pages : q.keep .pages = false := by assumption) (w_msgs : q.keep .msgs = false := by assumption) (w_work : q.keep .work = false := by assumption) : Good q (Sys2Proof.Machine.State.ringGivesBack s c) := by
  unfold Sys2Proof.Machine.State.ringGivesBack
  repeat' first
    | with_reducible assumption
    | with_reducible apply goodO_next
    | intro _
    | with_reducible apply State_freeCell_good
    | with_reducible apply State_leaveCell_good
    | with_reducible apply State_dropped_good
    | with_reducible apply State_watched_good
    | with_reducible apply State_setCell_good
    | with_reducible apply good_foldl
    | with_reducible apply good_foldl_fst
    | split

theorem State_leaveHost_good {q : Kept} {s : State} (h : Good q s) (w_regs : q.keep .regs = false := by assumption) (w_pages : q.keep .pages = false := by assumption) (w_msgs : q.keep .msgs = false := by assumption) (w_host : q.keep .host = false := by assumption) (w_faultLog : q.keep .faultLog = false := by assumption) (w_ws : q.keep .ws = false := by assumption) (w_act : q.keep .act = false := by assumption) (w_hbm : q.keep .hbm = false := by assumption) (w_caches : q.keep .caches = false := by assumption) (w_mem : q.keep .mem = false := by assumption) (w_sluice : q.keep .sluice = false := by assumption) (w_sync : q.keep .sync = false := by assumption) (w_work : q.keep .work = false := by assumption) (w_link : q.keep .link = false := by assumption) (w_tenants : q.keep .tenants = false := by assumption) (w_freeCtr : q.keep .freeCtr = false := by assumption) : Good q (Sys2Proof.Machine.State.leaveHost s) := by
  unfold Sys2Proof.Machine.State.leaveHost
  repeat' first
    | with_reducible assumption
    | with_reducible apply goodO_next
    | intro _
    | with_reducible apply State_abortAllReads_good
    | with_reducible apply State_vfsBecome_good
    | with_reducible apply State_ringGivesBack_good
    | with_reducible apply good_foldl
    | with_reducible apply good_foldl_fst
    | split
    | with_reducible refine good_fst (by assumption) ?_
    | with_reducible refine good_snd (by assumption) ?_
    | with_reducible refine good_snd2 (by assumption) ?_
    | dsimp only

theorem State_leaveLink_good {q : Kept} {s : State} (h : Good q s) (w_regs : q.keep .regs = false := by assumption) (w_pages : q.keep .pages = false := by assumption) (w_msgs : q.keep .msgs = false := by assumption) (w_work : q.keep .work = false := by assumption) (w_link : q.keep .link = false := by assumption) (w_freeCtr : q.keep .freeCtr = false := by assumption) : Good q (Sys2Proof.Machine.State.leaveLink s) := by
  unfold Sys2Proof.Machine.State.leaveLink
  repeat' first
    | with_reducible assumption
    | with_reducible apply goodO_next
    | intro _
    | with_reducible apply State_set_good
    | with_reducible apply State_leaveData_good
    | with_reducible apply good_foldl
    | with_reducible apply good_foldl_fst
    | split

theorem State_abortLoads_good {q : Kept} {s : State} (h : Good q s) (w_regs : q.keep .regs = false := by assumption) (w_pages : q.keep .pages = false := by assumption) (w_mem : q.keep .mem = false := by assumption) (w_link : q.keep .link = false := by assumption) : Good q (Sys2Proof.Machine.State.abortLoads s) := by
  unfold Sys2Proof.Machine.State.abortLoads
  repeat' first
    | with_reducible assumption
    | with_reducible apply goodO_next
    | intro _
    | with_reducible apply State_setPort_good
    | with_reducible apply State_domBusy_good
    | with_reducible apply State_capture_good
    | with_reducible apply State_flag_good
    | with_reducible apply good_foldl
    | with_reducible apply good_foldl_fst
    | split

theorem State_abortSluice_good {q : Kept} {s : State} (h : Good q s) (w_sluice : q.keep .sluice = false := by assumption) : Good q (Sys2Proof.Machine.State.abortSluice s) := by
  unfold Sys2Proof.Machine.State.abortSluice
  repeat' first
    | with_reducible assumption
    | with_reducible apply goodO_next
    | intro _
    | with_reducible apply good_foldl
    | with_reducible apply good_foldl_fst
    | split
    | with_reducible refine good_fst (by assumption) ?_
    | with_reducible refine good_snd (by assumption) ?_
    | with_reducible refine good_snd2 (by assumption) ?_
    | dsimp only
    | with_reducible refine good_mk (t := _) ?_ rfl rfl rfl rfl rfl rfl rfl rfl

theorem State_leaveSluice_good {q : Kept} {s : State} (h : Good q s) (w_regs : q.keep .regs = false := by assumption) (w_pages : q.keep .pages = false := by assumption) (w_mem : q.keep .mem = false := by assumption) (w_sluice : q.keep .sluice = false := by assumption) (w_link : q.keep .link = false := by assumption) : Good q (Sys2Proof.Machine.State.leaveSluice s) := by
  unfold Sys2Proof.Machine.State.leaveSluice
  repeat' first
    | with_reducible assumption
    | with_reducible apply goodO_next
    | intro _
    | with_reducible apply State_abortSluice_good
    | with_reducible apply State_abortLoads_good

theorem State_abortTasks_good {q : Kept} {s : State} (n : Nat) (h : Good q s) (w_regs : q.keep .regs = false := by assumption) (w_pages : q.keep .pages = false := by assumption) (w_msgs : q.keep .msgs = false := by assumption) (w_sync : q.keep .sync = false := by assumption) (w_work : q.keep .work = false := by assumption) (w_link : q.keep .link = false := by assumption) (w_freeCtr : q.keep .freeCtr = false := by assumption) : Good q (Sys2Proof.Machine.State.abortTasks s n) := by
  unfold Sys2Proof.Machine.State.abortTasks
  repeat' first
    | with_reducible assumption
    | with_reducible apply goodO_next
    | intro _
    | with_reducible apply State_discardSaves_good
    | with_reducible apply State_taskEnds_good
    | with_reducible apply State_withdrawWait_good
    | with_reducible apply good_foldl
    | with_reducible apply good_foldl_fst
    | split

theorem State_settleAll_good {q : Kept} {s : State} (h : Good q s) (w_regs : q.keep .regs = false := by assumption) (w_pages : q.keep .pages = false := by assumption) (w_msgs : q.keep .msgs = false := by assumption) (w_faultLog : q.keep .faultLog = false := by assumption) (w_hbm : q.keep .hbm = false := by assumption) (w_caches : q.keep .caches = false := by assumption) (w_mem : q.keep .mem = false := by assumption) (w_freeCtr : q.keep .freeCtr = false := by assumption) : Good q (Sys2Proof.Machine.State.settleAll s) := by
  unfold Sys2Proof.Machine.State.settleAll
  repeat' first
    | with_reducible assumption
    | with_reducible apply goodO_next
    | intro _
    | with_reducible apply State_settled_good
    | with_reducible apply good_foldl

theorem State_homesDrop_good {q : Kept} {s : State} (n : Nat) (h : Good q s) (w_regs : q.keep .regs = false := by assumption) (w_pages : q.keep .pages = false := by assumption) (w_msgs : q.keep .msgs = false := by assumption) (w_faultLog : q.keep .faultLog = false := by assumption) (w_mem : q.keep .mem = false := by assumption) : Good q (Sys2Proof.Machine.State.homesDrop s n) := by
  unfold Sys2Proof.Machine.State.homesDrop
  repeat' first
    | with_reducible assumption
    | with_reducible apply goodO_next
    | intro _
    | with_reducible apply State_lineUe_good
    | with_reducible apply State_poison_good
    | with_reducible apply State_setDir_good
    | with_reducible apply good_foldl
    | with_reducible apply good_foldl_fst
    | split

theorem State_leaveCores_good {q : Kept} {s : State} (d : Nat) (force : Bool) (h : Good q s) (w_regs : q.keep .regs = false := by assumption) (w_pages : q.keep .pages = false := by assumption) (w_msgs : q.keep .msgs = false := by assumption) (w_faultLog : q.keep .faultLog = false := by assumption) (w_hbm : q.keep .hbm = false := by assumption) (w_caches : q.keep .caches = false := by assumption) (w_mem : q.keep .mem = false := by assumption) (w_sync : q.keep .sync = false := by assumption) (w_work : q.keep .work = false := by assumption) (w_link : q.keep .link = false := by assumption) (w_freeCtr : q.keep .freeCtr = false := by assumption) : Good q (Sys2Proof.Machine.State.leaveCores s d force) := by
  unfold Sys2Proof.Machine.State.leaveCores
  repeat' first
    | with_reducible assumption
    | with_reducible apply goodO_next
    | intro _
    | with_reducible apply State_homesDrop_good
    | with_reducible apply State_settleAll_good
    | with_reducible apply State_abortTasks_good
    | with_reducible apply State_flushInvAll_good
    | with_reducible apply State_dropClaims_good
    | with_reducible apply State_drainEvictions_good
    | with_reducible apply good_foldl
    | with_reducible apply good_foldl_fst
    | split
    | with_reducible refine good_fst (by assumption) ?_
    | with_reducible refine good_snd (by assumption) ?_
    | with_reducible refine good_snd2 (by assumption) ?_
    | dsimp only

theorem State_leave_good {q : Kept} {s : State} (d : Nat) (force : Bool) (h : Good q s) (w_regs : q.keep .regs = false := by assumption) (w_pages : q.keep .pages = false := by assumption) (w_msgs : q.keep .msgs = false := by assumption) (w_host : q.keep .host = false := by assumption) (w_faultLog : q.keep .faultLog = false := by assumption) (w_ws : q.keep .ws = false := by assumption) (w_act : q.keep .act = false := by assumption) (w_hbm : q.keep .hbm = false := by assumption) (w_caches : q.keep .caches = false := by assumption) (w_mem : q.keep .mem = false := by assumption) (w_sluice : q.keep .sluice = false := by assumption) (w_sync : q.keep .sync = false := by assumption) (w_work : q.keep .work = false := by assumption) (w_link : q.keep .link = false := by assumption) (w_tenants : q.keep .tenants = false := by assumption) (w_freeCtr : q.keep .freeCtr = false := by assumption) : Good q (Sys2Proof.Machine.State.leave s d force) := by
  unfold Sys2Proof.Machine.State.leave
  repeat' first
    | with_reducible assumption
    | with_reducible apply goodO_next
    | intro _
    | with_reducible apply State_leaveHost_good
    | with_reducible apply State_leaveLink_good
    | with_reducible apply State_leaveSluice_good
    | with_reducible apply State_leaveCores_good
    | with_reducible apply good_foldl
    | with_reducible apply good_foldl_fst
    | split

theorem State_stackStarts_good {q : Kept} {s : State} (i : Nat) (trained : Bool) (pch : Nat) (h : Good q s) (w_regs : q.keep .regs = false := by assumption) (w_pages : q.keep .pages = false := by assumption) (w_msgs : q.keep .msgs = false := by assumption) (w_faultLog : q.keep .faultLog = false := by assumption) : Good q (Sys2Proof.Machine.State.stackStarts s i trained pch) := by
  unfold Sys2Proof.Machine.State.stackStarts
  repeat' first
    | with_reducible assumption
    | with_reducible apply goodO_next
    | intro _
    | with_reducible apply State_set_good
    | with_reducible apply State_flag_good
    | with_reducible apply State_raise_good
    | with_reducible apply State_fault_good
    | with_reducible apply good_foldl
    | with_reducible apply good_foldl_fst
    | split

theorem State_sluiceStarts_good {q : Kept} {s : State} (r : StartReport) (h : Good q s) (w_regs : q.keep .regs = false := by assumption) (w_pages : q.keep .pages = false := by assumption) (w_msgs : q.keep .msgs = false := by assumption) (w_power : q.keep .power = false := by assumption) (w_sluice : q.keep .sluice = false := by assumption) : Good q (Sys2Proof.Machine.State.sluiceStarts s r) := by
  unfold Sys2Proof.Machine.State.sluiceStarts
  repeat' first
    | with_reducible assumption
    | with_reducible apply goodO_next
    | intro _
    | with_reducible apply State_flag_good
    | with_reducible apply State_raise_good
    | with_reducible apply good_foldl
    | with_reducible apply good_foldl_fst
    | split
    | with_reducible refine good_fst (by assumption) ?_
    | with_reducible refine good_snd (by assumption) ?_
    | with_reducible refine good_snd2 (by assumption) ?_
    | dsimp only
    | with_reducible refine good_mk (t := _) ?_ rfl rfl rfl rfl rfl rfl rfl rfl

theorem State_coreStarts_good {q : Kept} {s : State} (n : Nat) (h : Good q s) (w_regs : q.keep .regs = false := by assumption) (w_pages : q.keep .pages = false := by assumption) (w_msgs : q.keep .msgs = false := by assumption) (w_faultLog : q.keep .faultLog = false := by assumption) : Good q (Sys2Proof.Machine.State.coreStarts s n) := by
  unfold Sys2Proof.Machine.State.coreStarts
  repeat' first
    | with_reducible assumption
    | with_reducible apply goodO_next
    | intro _
    | with_reducible apply State_set_good
    | with_reducible apply State_flag_good
    | with_reducible apply State_fault_good
    | with_reducible apply State_applyTest_good
    | with_reducible apply good_foldl
    | with_reducible apply good_foldl_fst
    | split
    | with_reducible refine good_fst (by assumption) ?_
    | with_reducible refine good_snd (by assumption) ?_
    | with_reducible refine good_snd2 (by assumption) ?_
    | dsimp only

theorem State_dieStarts_good {q : Kept} {s : State} (d : Nat) (slots : List CoreTest) (h : Good q s) (w_regs : q.keep .regs = false := by assumption) (w_pages : q.keep .pages = false := by assumption) (w_msgs : q.keep .msgs = false := by assumption) (w_power : q.keep .power = false := by assumption) (w_faultLog : q.keep .faultLog = false := by assumption) : Good q (Sys2Proof.Machine.State.dieStarts s d slots) := by
  unfold Sys2Proof.Machine.State.dieStarts
  repeat' first
    | with_reducible assumption
    | with_reducible apply goodO_next
    | intro _
    | with_reducible apply State_set_good
    | with_reducible apply State_coreStarts_good
    | with_reducible apply good_foldl
    | with_reducible apply good_foldl_fst
    | split
    | with_reducible refine good_fst (by assumption) ?_
    | with_reducible refine good_snd (by assumption) ?_
    | with_reducible refine good_snd2 (by assumption) ?_
    | dsimp only
    | with_reducible refine good_mk (t := _) ?_ rfl rfl rfl rfl rfl rfl rfl rfl

theorem State_tryTrain_good {q : Kept} {s : State} (h : Good q s) (w_regs : q.keep .regs = false := by assumption) (w_host : q.keep .host = false := by assumption) : Good q (Sys2Proof.Machine.State.tryTrain s) := by
  unfold Sys2Proof.Machine.State.tryTrain
  repeat' first
    | with_reducible assumption
    | with_reducible apply goodO_next
    | intro _
    | with_reducible apply State_linkTrained_good
    | with_reducible apply good_foldl
    | with_reducible apply good_foldl_fst
    | split

theorem State_starts_good {q : Kept} {s : State} (d : Nat) (r : StartReport) (h : Good q s) (w_regs : q.keep .regs = false := by assumption) (w_pages : q.keep .pages = false := by assumption) (w_msgs : q.keep .msgs = false := by assumption) (w_host : q.keep .host = false := by assumption) (w_power : q.keep .power = false := by assumption) (w_faultLog : q.keep .faultLog = false := by assumption) (w_sluice : q.keep .sluice = false := by assumption) : Good q (Sys2Proof.Machine.State.starts s d r) := by
  unfold Sys2Proof.Machine.State.starts
  repeat' first
    | with_reducible assumption
    | with_reducible apply goodO_next
    | intro _
    | with_reducible apply State_set_good
    | with_reducible apply State_stackStarts_good
    | with_reducible apply State_sluiceStarts_good
    | with_reducible apply State_dieStarts_good
    | with_reducible apply State_tryTrain_good
    | with_reducible apply good_foldl
    | with_reducible apply good_foldl_fst
    | split

theorem State_pwrEnds_good {q : Kept} {s : State} (d : Nat) (op : Nat) (h : Good q s) (w_regs : q.keep .regs = false := by assumption) (w_pages : q.keep .pages = false := by assumption) (w_msgs : q.keep .msgs = false := by assumption) : Good q (Sys2Proof.Machine.State.pwrEnds s d op) := by
  unfold Sys2Proof.Machine.State.pwrEnds
  repeat' first
    | with_reducible assumption
    | with_reducible apply goodO_next
    | intro _
    | with_reducible apply State_set_good
    | with_reducible apply State_setPage_good
    | with_reducible apply State_raise_good
    | with_reducible apply State_readyRefresh_good

theorem State_pwrBegin_good {q : Kept} {s : State} (smbus : Bool) (d : Nat) (op : Nat) (force : Bool) (h : Good q s) (w_regs : q.keep .regs = false := by assumption) (w_pages : q.keep .pages = false := by assumption) (w_captures : q.keep .captures = false := by assumption) (w_msgs : q.keep .msgs = false := by assumption) (w_host : q.keep .host = false := by assumption) (w_power : q.keep .power = false := by assumption) (w_faultLog : q.keep .faultLog = false := by assumption) (w_ws : q.keep .ws = false := by assumption) (w_act : q.keep .act = false := by assumption) (w_hbm : q.keep .hbm = false := by assumption) (w_caches : q.keep .caches = false := by assumption) (w_mem : q.keep .mem = false := by assumption) (w_sluice : q.keep .sluice = false := by assumption) (w_sync : q.keep .sync = false := by assumption) (w_work : q.keep .work = false := by assumption) (w_link : q.keep .link = false := by assumption) (w_tenants : q.keep .tenants = false := by assumption) (w_freeCtr : q.keep .freeCtr = false := by assumption) (w_held : q.keep .held = false := by assumption) : Good q (Sys2Proof.Machine.State.pwrBegin s smbus d op force) := by
  unfold Sys2Proof.Machine.State.pwrBegin
  repeat' first
    | with_reducible assumption
    | with_reducible apply goodO_next
    | intro _
    | with_reducible apply State_set_good
    | with_reducible apply State_setDom_good
    | with_reducible apply State_capture_good
    | with_reducible apply State_readyRefresh_good
    | with_reducible apply State_lose_good
    | with_reducible apply State_leave_good
    | with_reducible apply State_pwrEnds_good
    | with_reducible apply good_foldl
    | with_reducible apply good_foldl_fst
    | split
    | with_reducible refine good_fst (by assumption) ?_
    | with_reducible refine good_snd (by assumption) ?_
    | with_reducible refine good_snd2 (by assumption) ?_
    | dsimp only

theorem powerCmd_good {q : Kept} (smbus : Bool) (d : Nat) (op : Nat) (force : Bool) (c : Instr) {s : State} (h : Good q s) (w_regs : q.keep .regs = false := by assumption) (w_pages : q.keep .pages = false := by assumption) (w_captures : q.keep .captures = false := by assumption) (w_msgs : q.keep .msgs = false := by assumption) (w_host : q.keep .host = false := by assumption) (w_power : q.keep .power = false := by assumption) (w_faultLog : q.keep .faultLog = false := by assumption) (w_ws : q.keep .ws = false := by assumption) (w_act : q.keep .act = false := by assumption) (w_hbm : q.keep .hbm = false := by assumption) (w_caches : q.keep .caches = false := by assumption) (w_mem : q.keep .mem = false := by assumption) (w_sluice : q.keep .sluice = false := by assumption) (w_sync : q.keep .sync = false := by assumption) (w_work : q.keep .work = false := by assumption) (w_link : q.keep .link = false := by assumption) (w_tenants : q.keep .tenants = false := by assumption) (w_freeCtr : q.keep .freeCtr = false := by assumption) (w_held : q.keep .held = false := by assumption) : GoodO q (Sys2Proof.Machine.powerCmd smbus d op force c s) := by
  unfold Sys2Proof.Machine.powerCmd
  repeat' first
    | with_reducible assumption
    | with_reducible apply goodO_next
    | intro _
    | with_reducible apply State_hold_good
    | with_reducible apply State_pwrBegin_good
    | with_reducible apply good_foldl
    | with_reducible apply good_foldl_fst
    | split

theorem execPwrOn_good {q : Kept} (fn : Nat) (d : Nat) {s : State} (h : Good q s) (w_regs : q.keep .regs = false := by assumption) (w_pages : q.keep .pages = false := by assumption) (w_captures : q.keep .captures = false := by assumption) (w_msgs : q.keep .msgs = false := by assumption) (w_host : q.keep .host = false := by assumption) (w_power : q.keep .power = false := by assumption) (w_faultLog : q.keep .faultLog = false := by assumption) (w_ws : q.keep .ws = false := by assumption) (w_act : q.keep .act = false := by assumption) (w_hbm : q.keep .hbm = false := by assumption) (w_caches : q.keep .caches = false := by assumption) (w_mem : q.keep .mem = false := by assumption) (w_sluice : q.keep .sluice = false := by assumption) (w_sync : q.keep .sync = false := by assumption) (w_work : q.keep .work = false := by assumption) (w_link : q.keep .link = false := by assumption) (w_tenants : q.keep .tenants = false := by assumption) (w_freeCtr : q.keep .freeCtr = false := by assumption) (w_held : q.keep .held = false := by assumption) : GoodO q (Sys2Proof.Machine.execPwrOn fn d s) := by
  unfold Sys2Proof.Machine.execPwrOn
  repeat' first
    | with_reducible assumption
    | with_reducible apply goodO_next
    | intro _
    | with_reducible apply mmio_good
    | with_reducible apply powerCmd_good

theorem execPwrRetain_good {q : Kept} (fn : Nat) (d : Nat) (force : Bool) {s : State} (h : Good q s) (w_regs : q.keep .regs = false := by assumption) (w_pages : q.keep .pages = false := by assumption) (w_captures : q.keep .captures = false := by assumption) (w_msgs : q.keep .msgs = false := by assumption) (w_host : q.keep .host = false := by assumption) (w_power : q.keep .power = false := by assumption) (w_faultLog : q.keep .faultLog = false := by assumption) (w_ws : q.keep .ws = false := by assumption) (w_act : q.keep .act = false := by assumption) (w_hbm : q.keep .hbm = false := by assumption) (w_caches : q.keep .caches = false := by assumption) (w_mem : q.keep .mem = false := by assumption) (w_sluice : q.keep .sluice = false := by assumption) (w_sync : q.keep .sync = false := by assumption) (w_work : q.keep .work = false := by assumption) (w_link : q.keep .link = false := by assumption) (w_tenants : q.keep .tenants = false := by assumption) (w_freeCtr : q.keep .freeCtr = false := by assumption) (w_held : q.keep .held = false := by assumption) : GoodO q (Sys2Proof.Machine.execPwrRetain fn d force s) := by
  unfold Sys2Proof.Machine.execPwrRetain
  repeat' first
    | with_reducible assumption
    | with_reducible apply goodO_next
    | intro _
    | with_reducible apply mmio_good
    | with_reducible apply powerCmd_good

theorem execPwrOff_good {q : Kept} (fn : Nat) (d : Nat) (force : Bool) {s : State} (h : Good q s) (w_regs : q.keep .regs = false := by assumption) (w_pages : q.keep .pages = false := by assumption) (w_captures : q.keep .captures = false := by assumption) (w_msgs : q.keep .msgs = false := by assumption) (w_host : q.keep .host = false := by assumption) (w_power : q.keep .power = false := by assumption) (w_faultLog : q.keep .faultLog = false := by assumption) (w_ws : q.keep .ws = false := by assumption) (w_act : q.keep .act = false := by assumption) (w_hbm : q.keep .hbm = false := by assumption) (w_caches : q.keep .caches = false := by assumption) (w_mem : q.keep .mem = false := by assumption) (w_sluice : q.keep .sluice = false := by assumption) (w_sync : q.keep .sync = false := by assumption) (w_work : q.keep .work = false := by assumption) (w_link : q.keep .link = false := by assumption) (w_tenants : q.keep .tenants = false := by assumption) (w_freeCtr : q.keep .freeCtr = false := by assumption) (w_held : q.keep .held = false := by assumption) : GoodO q (Sys2Proof.Machine.execPwrOff fn d force s) := by
  unfold Sys2Proof.Machine.execPwrOff
  repeat' first
    | with_reducible assumption
    | with_reducible apply goodO_next
    | intro _
    | with_reducible apply mmio_good
    | with_reducible apply powerCmd_good

theorem execPwrDone_good {q : Kept} (d : Nat) (r : StartReport) {s : State} (h : Good q s) (w_regs : q.keep .regs = false := by assumption) (w_pages : q.keep .pages = false := by assumption) (w_msgs : q.keep .msgs = false := by assumption) (w_host : q.keep .host = false := by assumption) (w_power : q.keep .power = false := by assumption) (w_faultLog : q.keep .faultLog = false := by assumption) (w_sluice : q.keep .sluice = false := by assumption) : GoodO q (Sys2Proof.Machine.execPwrDone d r s) := by
  unfold Sys2Proof.Machine.execPwrDone
  repeat' first
    | with_reducible assumption
    | with_reducible apply goodO_next
    | intro _
    | with_reducible apply State_setDom_good
    | with_reducible apply State_starts_good
    | with_reducible apply State_pwrEnds_good
    | with_reducible apply good_foldl
    | with_reducible apply good_foldl_fst
    | split

theorem State_setPin_good {q : Kept} {s : State} (rail : Nat) (b : Bool) (h : Good q s) (w_power : q.keep .power = false := by assumption) : Good q (Sys2Proof.Machine.State.setPin s rail b) := by
  unfold Sys2Proof.Machine.State.setPin
  repeat' first
    | with_reducible assumption
    | with_reducible apply goodO_next
    | intro _
    | with_reducible apply good_foldl
    | with_reducible apply good_foldl_fst
    | split
    | with_reducible refine good_fst (by assumption) ?_
    | with_reducible refine good_snd (by assumption) ?_
    | with_reducible refine good_snd2 (by assumption) ?_
    | dsimp only
    | with_reducible refine good_mk (t := _) ?_ rfl rfl rfl rfl rfl rfl rfl rfl

theorem State_transitAborts_good {q : Kept} {s : State} (d : Nat) (h : Good q s) (w_regs : q.keep .regs = false := by assumption) : Good q (Sys2Proof.Machine.State.transitAborts s d) := by
  unfold Sys2Proof.Machine.State.transitAborts
  repeat' first
    | with_reducible assumption
    | with_reducible apply goodO_next
    | intro _
    | with_reducible apply State_set_good
    | with_reducible apply good_foldl
    | with_reducible apply good_foldl_fst
    | split

theorem State_supplyLost_good {q : Kept} {s : State} (d : Nat) (h : Good q s) (w_regs : q.keep .regs = false := by assumption) (w_pages : q.keep .pages = false := by assumption) (w_captures : q.keep .captures = false := by assumption) (w_msgs : q.keep .msgs = false := by assumption) (w_host : q.keep .host = false := by assumption) (w_power : q.keep .power = false := by assumption) (w_faultLog : q.keep .faultLog = false := by assumption) (w_ws : q.keep .ws = false := by assumption) (w_act : q.keep .act = false := by assumption) (w_hbm : q.keep .hbm = false := by assumption) (w_caches : q.keep .caches = false := by assumption) (w_mem : q.keep .mem = false := by assumption) (w_sluice : q.keep .sluice = false := by assumption) (w_sync : q.keep .sync = false := by assumption) (w_work : q.keep .work = false := by assumption) (w_link : q.keep .link = false := by assumption) (w_tenants : q.keep .tenants = false := by assumption) (w_freeCtr : q.keep .freeCtr = false := by assumption) (w_held : q.keep .held = false := by assumption) : Good q (Sys2Proof.Machine.State.supplyLost s d) := by
  unfold Sys2Proof.Machine.State.supplyLost
  repeat' first
    | with_reducible assumption
    | with_reducible apply goodO_next
    | intro _
    | with_reducible apply State_setDom_good
    | with_reducible apply State_raise_good
    | with_reducible apply State_capture_good
    | with_reducible apply State_fault_good
    | with_reducible apply State_lose_good
    | with_reducible apply State_leave_good
    | with_reducible apply State_transitAborts_good
    | with_reducible apply good_foldl
    | with_reducible apply good_foldl_fst
    | split

theorem State_powerOff_good {q : Kept} {s : State} (h : Good q s) (w_regs : q.keep .regs = false := by assumption) (w_pages : q.keep .pages = false := by assumption) (w_captures : q.keep .captures = false := by assumption) (w_readData : q.keep .readData = false := by assumption) (w_time : q.keep .time = false := by assumption) (w_stall : q.keep .stall = false := by assumption) (w_msgs : q.keep .msgs = false := by assumption) (w_host : q.keep .host = false := by assumption) (w_power : q.keep .power = false := by assumption) (w_fuses : q.keep .fuses = false := by assumption) (w_faultLog : q.keep .faultLog = false := by assumption) (w_ws : q.keep .ws = false := by assumption) (w_act : q.keep .act = false := by assumption) (w_hbm : q.keep .hbm = false := by assumption) (w_caches : q.keep .caches = false := by assumption) (w_mem : q.keep .mem = false := by assumption) (w_sluice : q.keep .sluice = false := by assumption) (w_sync : q.keep .sync = false := by assumption) (w_work : q.keep .work = false := by assumption) (w_link : q.keep .link = false := by assumption) (w_tenants : q.keep .tenants = false := by assumption) (w_held : q.keep .held = false := by assumption) : Good q (Sys2Proof.Machine.State.powerOff s) := by
  refine good_step h rfl (fun _ => ⟨rfl, Nat.zero_le _, Nat.zero_le _, Nat.zero_le _, Nat.zero_le _⟩) (fun x hx => ?_)
  cases x <;> first | (exfalso; simp_all; done) | exact Eq.refl _

theorem execPwrGoodFall_good {q : Kept} (rail : Nat) {s : State} (h : Good q s) (w_regs : q.keep .regs = false := by assumption) (w_pages : q.keep .pages = false := by assumption) (w_captures : q.keep .captures = false := by assumption) (w_readData : q.keep .readData = false := by assumption) (w_time : q.keep .time = false := by assumption) (w_stall : q.keep .stall = false := by assumption) (w_msgs : q.keep .msgs = false := by assumption) (w_host : q.keep .host = false := by assumption) (w_power : q.keep .power = false := by assumption) (w_fuses : q.keep .fuses = false := by assumption) (w_faultLog : q.keep .faultLog = false := by assumption) (w_ws : q.keep .ws = false := by assumption) (w_act : q.keep .act = false := by assumption) (w_hbm : q.keep .hbm = false := by assumption) (w_caches : q.keep .caches = false := by assumption) (w_mem : q.keep .mem = false := by assumption) (w_sluice : q.keep .sluice = false := by assumption) (w_sync : q.keep .sync = false := by assumption) (w_work : q.keep .work = false := by assumption) (w_link : q.keep .link = false := by assumption) (w_tenants : q.keep .tenants = false := by assumption) (w_freeCtr : q.keep .freeCtr = false := by assumption) (w_held : q.keep .held = false := by assumption) : GoodO q (Sys2Proof.Machine.execPwrGoodFall rail s) := by
  unfold Sys2Proof.Machine.execPwrGoodFall
  repeat' first
    | with_reducible assumption
    | with_reducible apply goodO_next
    | intro _
    | with_reducible apply State_powerOff_good
    | with_reducible apply State_supplyLost_good
    | with_reducible apply State_setPin_good
    | with_reducible apply State_readyRefresh_good
    | with_reducible apply good_foldl
    | with_reducible apply good_foldl_fst
    | split

theorem State_hostUp_good {q : Kept} {s : State} (h : Good q s) (w_regs : q.keep .regs = false := by assumption) (w_host : q.keep .host = false := by assumption) (w_power : q.keep .power = false := by assumption) : Good q (Sys2Proof.Machine.State.hostUp s) := by
  unfold Sys2Proof.Machine.State.hostUp
  repeat' first
    | with_reducible assumption
    | with_reducible apply goodO_next
    | intro _
    | with_reducible apply State_set_good
    | with_reducible apply State_setDom_good
    | with_reducible apply State_strapSpeed_good
    | with_reducible apply State_tryTrain_good
    | with_reducible apply good_foldl
    | with_reducible apply good_foldl_fst
    | split

theorem execPwrGoodRise_good {q : Kept} (rail : Nat) {s : State} (h : Good q s) (w_regs : q.keep .regs = false := by assumption) (w_host : q.keep .host = false := by assumption) (w_power : q.keep .power = false := by assumption) : GoodO q (Sys2Proof.Machine.execPwrGoodRise rail s) := by
  unfold Sys2Proof.Machine.execPwrGoodRise
  repeat' first
    | with_reducible assumption
    | with_reducible apply goodO_next
    | intro _
    | with_reducible apply State_setPin_good
    | with_reducible apply State_hostUp_good

theorem execPowerOnReset_good {q : Kept} (straps : Nat) {s : State} (h : Good q s) (w_regs : q.keep .regs = false := by assumption) (w_pages : q.keep .pages = false := by assumption) (w_captures : q.keep .captures = false := by assumption) (w_readData : q.keep .readData = false := by assumption) (w_time : q.keep .time = false := by assumption) (w_stall : q.keep .stall = false := by assumption) (w_msgs : q.keep .msgs = false := by assumption) (w_host : q.keep .host = false := by assumption) (w_power : q.keep .power = false := by assumption) (w_fuses : q.keep .fuses = false := by assumption) (w_faultLog : q.keep .faultLog = false := by assumption) (w_ws : q.keep .ws = false := by assumption) (w_act : q.keep .act = false := by assumption) (w_hbm : q.keep .hbm = false := by assumption) (w_caches : q.keep .caches = false := by assumption) (w_mem : q.keep .mem = false := by assumption) (w_sluice : q.keep .sluice = false := by assumption) (w_sync : q.keep .sync = false := by assumption) (w_work : q.keep .work = false := by assumption) (w_link : q.keep .link = false := by assumption) (w_tenants : q.keep .tenants = false := by assumption) (w_held : q.keep .held = false := by assumption) : GoodO q (Sys2Proof.Machine.execPowerOnReset straps s) := by
  unfold Sys2Proof.Machine.execPowerOnReset
  repeat' first
    | with_reducible assumption
    | with_reducible apply goodO_next
    | intro _
    | with_reducible apply State_powerOff_good
    | with_reducible apply State_set_good

theorem State_showCounts_good {q : Kept} {s : State} (h : Good q s) (w_regs : q.keep .regs = false := by assumption) : Good q (Sys2Proof.Machine.State.showCounts s) := by
  unfold Sys2Proof.Machine.State.showCounts
  repeat' first
    | with_reducible assumption
    | with_reducible apply goodO_next
    | intro _
    | with_reducible apply State_set_good

theorem State_fuseShadow_good {q : Kept} {s : State} (h : Good q s) (w_regs : q.keep .regs = false := by assumption) : Good q (Sys2Proof.Machine.State.fuseShadow s) := by
  unfold Sys2Proof.Machine.State.fuseShadow
  repeat' first
    | with_reducible assumption
    | with_reducible apply goodO_next
    | intro _
    | with_reducible apply State_set_good
    | with_reducible apply State_flag_good
    | with_reducible apply State_showCounts_good
    | with_reducible apply good_foldl

theorem execFuseLoadDone_good {q : Kept} (bad : Bool) {s : State} (h : Good q s) (w_regs : q.keep .regs = false := by assumption) (w_pages : q.keep .pages = false := by assumption) (w_msgs : q.keep .msgs = false := by assumption) (w_host : q.keep .host = false := by assumption) (w_power : q.keep .power = false := by assumption) (w_faultLog : q.keep .faultLog = false := by assumption) : GoodO q (Sys2Proof.Machine.execFuseLoadDone bad s) := by
  unfold Sys2Proof.Machine.execFuseLoadDone
  repeat' first
    | with_reducible assumption
    | with_reducible apply goodO_next
    | intro _
    | with_reducible apply State_flag_good
    | with_reducible apply State_raise_good
    | with_reducible apply State_fault_good
    | with_reducible apply State_hostUp_good
    | with_reducible apply State_fuseShadow_good
    | with_reducible apply good_foldl
    | with_reducible apply good_foldl_fst
    | split
    | with_reducible refine good_fst (by assumption) ?_
    | with_reducible refine good_snd (by assumption) ?_
    | with_reducible refine good_snd2 (by assumption) ?_
    | dsimp only
    | with_reducible refine good_mk (t := _) ?_ rfl rfl rfl rfl rfl rfl rfl rfl

theorem State_resetDomain_good {q : Kept} {s : State} (d : Nat) (h : Good q s) (w_regs : q.keep .regs = false := by assumption) (w_pages : q.keep .pages = false := by assumption) (w_captures : q.keep .captures = false := by assumption) (w_msgs : q.keep .msgs = false := by assumption) (w_host : q.keep .host = false := by assumption) (w_power : q.keep .power = false := by assumption) (w_ws : q.keep .ws = false := by assumption) (w_act : q.keep .act = false := by assumption) (w_hbm : q.keep .hbm = false := by assumption) (w_caches : q.keep .caches = false := by assumption) (w_mem : q.keep .mem = false := by assumption) (w_sluice : q.keep .sluice = false := by assumption) (w_sync : q.keep .sync = false := by assumption) (w_work : q.keep .work = false := by assumption) (w_link : q.keep .link = false := by assumption) (w_tenants : q.keep .tenants = false := by assumption) (w_freeCtr : q.keep .freeCtr = false := by assumption) (w_held : q.keep .held = false := by assumption) : Good q (Sys2Proof.Machine.State.resetDomain s d) := by
  unfold Sys2Proof.Machine.State.resetDomain
  repeat' first
    | with_reducible assumption
    | with_reducible apply goodO_next
    | intro _
    | with_reducible apply State_setDom_good
    | with_reducible apply State_lose_good
    | with_reducible apply State_transitAborts_good

theorem State_resetMem_good {q : Kept} {s : State} (h : Good q s) (w_regs : q.keep .regs = false := by assumption) (w_pages : q.keep .pages = false := by assumption) (w_captures : q.keep .captures = false := by assumption) (w_msgs : q.keep .msgs = false := by assumption) (w_host : q.keep .host = false := by assumption) (w_power : q.keep .power = false := by assumption) (w_ws : q.keep .ws = false := by assumption) (w_act : q.keep .act = false := by assumption) (w_hbm : q.keep .hbm = false := by assumption) (w_caches : q.keep .caches = false := by assumption) (w_mem : q.keep .mem = false := by assumption) (w_sluice : q.keep .sluice = false := by assumption) (w_sync : q.keep .sync = false := by assumption) (w_work : q.keep .work = false := by assumption) (w_link : q.keep .link = false := by assumption) (w_tenants : q.keep .tenants = false := by assumption) (w_freeCtr : q.keep .freeCtr = false := by assumption) (w_held : q.keep .held = false := by assumption) : Good q (Sys2Proof.Machine.State.resetMem s) := by
  unfold Sys2Proof.Machine.State.resetMem
  repeat' first
    | with_reducible assumption
    | with_reducible apply goodO_next
    | intro _
    | with_reducible apply State_setDom_good
    | with_reducible apply State_lose_good
    | with_reducible apply State_transitAborts_good

theorem State_resetOthers_good {q : Kept} {s : State} (cause : Nat) (h : Good q s) (w_regs : q.keep .regs = false := by assumption) (w_pages : q.keep .pages = false := by assumption) (w_captures : q.keep .captures = false := by assumption) (w_msgs : q.keep .msgs = false := by assumption) (w_host : q.keep .host = false := by assumption) (w_power : q.keep .power = false := by assumption) (w_ws : q.keep .ws = false := by assumption) (w_act : q.keep .act = false := by assumption) (w_hbm : q.keep .hbm = false := by assumption) (w_caches : q.keep .caches = false := by assumption) (w_mem : q.keep .mem = false := by assumption) (w_sluice : q.keep .sluice = false := by assumption) (w_sync : q.keep .sync = false := by assumption) (w_work : q.keep .work = false := by assumption) (w_link : q.keep .link = false := by assumption) (w_tenants : q.keep .tenants = false := by assumption) (w_freeCtr : q.keep .freeCtr = false := by assumption) (w_held : q.keep .held = false := by assumption) : Good q (Sys2Proof.Machine.State.resetOthers s cause) := by
  unfold Sys2Proof.Machine.State.resetOthers
  repeat' first
    | with_reducible assumption
    | with_reducible apply goodO_next
    | intro _
    | with_reducible apply State_set_good
    | with_reducible apply State_resetDomain_good
    | with_reducible apply State_resetMem_good
    | with_reducible apply good_foldl
    | with_reducible apply good_foldl_fst
    | split

theorem State_hostAgain_good {q : Kept} {s : State} (h : Good q s) (w_power : q.keep .power = false := by assumption) : Good q (Sys2Proof.Machine.State.hostAgain s) := by
  unfold Sys2Proof.Machine.State.hostAgain
  repeat' first
    | with_reducible assumption
    | with_reducible apply goodO_next
    | intro _
    | with_reducible apply State_setDom_good
    | with_reducible apply good_foldl
    | with_reducible apply good_foldl_fst
    | split

theorem State_fundamental_good {q : Kept} {s : State} (cause : Nat) (h : Good q s) (w_regs : q.keep .regs = false := by assumption) (w_pages : q.keep .pages = false := by assumption) (w_captures : q.keep .captures = false := by assumption) (w_msgs : q.keep .msgs = false := by assumption) (w_host : q.keep .host = false := by assumption) (w_power : q.keep .power = false := by assumption) (w_ws : q.keep .ws = false := by assumption) (w_act : q.keep .act = false := by assumption) (w_hbm : q.keep .hbm = false := by assumption) (w_caches : q.keep .caches = false := by assumption) (w_mem : q.keep .mem = false := by assumption) (w_sluice : q.keep .sluice = false := by assumption) (w_sync : q.keep .sync = false := by assumption) (w_work : q.keep .work = false := by assumption) (w_link : q.keep .link = false := by assumption) (w_tenants : q.keep .tenants = false := by assumption) (w_freeCtr : q.keep .freeCtr = false := by assumption) (w_held : q.keep .held = false := by assumption) : Good q (Sys2Proof.Machine.State.fundamental s cause) := by
  unfold Sys2Proof.Machine.State.fundamental
  repeat' first
    | with_reducible assumption
    | with_reducible apply goodO_next
    | intro _
    | with_reducible apply State_resetDomain_good
    | with_reducible apply State_resetOthers_good
    | with_reducible apply State_hostAgain_good

theorem execPerstAssert_good {q : Kept} {s : State} (h : Good q s) (w_regs : q.keep .regs = false := by assumption) (w_pages : q.keep .pages = false := by assumption) (w_captures : q.keep .captures = false := by assumption) (w_msgs : q.keep .msgs = false := by assumption) (w_host : q.keep .host = false := by assumption) (w_power : q.keep .power = false := by assumption) (w_ws : q.keep .ws = false := by assumption) (w_act : q.keep .act = false := by assumption) (w_hbm : q.keep .hbm = false := by assumption) (w_caches : q.keep .caches = false := by assumption) (w_mem : q.keep .mem = false := by assumption) (w_sluice : q.keep .sluice = false := by assumption) (w_sync : q.keep .sync = false := by assumption) (w_work : q.keep .work = false := by assumption) (w_link : q.keep .link = false := by assumption) (w_tenants : q.keep .tenants = false := by assumption) (w_freeCtr : q.keep .freeCtr = false := by assumption) (w_held : q.keep .held = false := by assumption) : GoodO q (Sys2Proof.Machine.execPerstAssert s) := by
  unfold Sys2Proof.Machine.execPerstAssert
  repeat' first
    | with_reducible assumption
    | with_reducible apply goodO_next
    | intro _
    | with_reducible apply State_fundamental_good
    | with_reducible apply good_foldl
    | with_reducible apply good_foldl_fst
    | split
    | with_reducible refine good_fst (by assumption) ?_
    | with_reducible refine good_snd (by assumption) ?_
    | with_reducible refine good_snd2 (by assumption) ?_
    | dsimp only
    | with_reducible refine good_mk (t := _) ?_ rfl rfl rfl rfl rfl rfl rfl rfl

theorem execPerstRelease_good {q : Kept} (speed : Nat) (width : Nat) {s : State} (h : Good q s) (w_regs : q.keep .regs = false := by assumption) (w_host : q.keep .host = false := by assumption) (w_power : q.keep .power = false := by assumption) : GoodO q (Sys2Proof.Machine.execPerstRelease speed width s) := by
  unfold Sys2Proof.Machine.execPerstRelease
  repeat' first
    | with_reducible assumption
    | with_reducible apply goodO_next
    | intro _
    | with_reducible apply State_tryTrain_good
    | with_reducible apply good_foldl
    | with_reducible apply good_foldl_fst
    | split
    | with_reducible refine good_fst (by assumption) ?_
    | with_reducible refine good_snd (by assumption) ?_
    | with_reducible refine good_snd2 (by assumption) ?_
    | dsimp only
    | with_reducible refine good_mk (t := _) ?_ rfl rfl rfl rfl rfl rfl rfl rfl

theorem execHotReset_good {q : Kept} (speed : Nat) (width : Nat) {s : State} (h : Good q s) (w_regs : q.keep .regs = false := by assumption) (w_pages : q.keep .pages = false := by assumption) (w_captures : q.keep .captures = false := by assumption) (w_msgs : q.keep .msgs = false := by assumption) (w_host : q.keep .host = false := by assumption) (w_power : q.keep .power = false := by assumption) (w_faultLog : q.keep .faultLog = false := by assumption) (w_ws : q.keep .ws = false := by assumption) (w_act : q.keep .act = false := by assumption) (w_hbm : q.keep .hbm = false := by assumption) (w_caches : q.keep .caches = false := by assumption) (w_mem : q.keep .mem = false := by assumption) (w_sluice : q.keep .sluice = false := by assumption) (w_sync : q.keep .sync = false := by assumption) (w_work : q.keep .work = false := by assumption) (w_link : q.keep .link = false := by assumption) (w_tenants : q.keep .tenants = false := by assumption) (w_freeCtr : q.keep .freeCtr = false := by assumption) (w_held : q.keep .held = false := by assumption) : GoodO q (Sys2Proof.Machine.execHotReset speed width s) := by
  unfold Sys2Proof.Machine.execHotReset
  repeat' first
    | with_reducible assumption
    | with_reducible apply goodO_next
    | intro _
    | with_reducible apply State_set_good
    | with_reducible apply State_lose_good
    | with_reducible apply State_leave_good
    | with_reducible apply State_tryTrain_good
    | with_reducible apply State_hostAgain_good
    | with_reducible apply State_fundamental_good
    | with_reducible apply good_foldl
    | with_reducible apply good_foldl_fst
    | split
    | with_reducible refine good_fst (by assumption) ?_
    | with_reducible refine good_snd (by assumption) ?_
    | with_reducible refine good_snd2 (by assumption) ?_
    | dsimp only
    | with_reducible refine good_mk (t := _) ?_ rfl rfl rfl rfl rfl rfl rfl rfl

theorem State_chipReset_good {q : Kept} {s : State} (h : Good q s) (w_regs : q.keep .regs = false := by assumption) (w_pages : q.keep .pages = false := by assumption) (w_captures : q.keep .captures = false := by assumption) (w_msgs : q.keep .msgs = false := by assumption) (w_host : q.keep .host = false := by assumption) (w_power : q.keep .power = false := by assumption) (w_ws : q.keep .ws = false := by assumption) (w_act : q.keep .act = false := by assumption) (w_hbm : q.keep .hbm = false := by assumption) (w_caches : q.keep .caches = false := by assumption) (w_mem : q.keep .mem = false := by assumption) (w_sluice : q.keep .sluice = false := by assumption) (w_sync : q.keep .sync = false := by assumption) (w_work : q.keep .work = false := by assumption) (w_link : q.keep .link = false := by assumption) (w_tenants : q.keep .tenants = false := by assumption) (w_freeCtr : q.keep .freeCtr = false := by assumption) (w_held : q.keep .held = false := by assumption) : Good q (Sys2Proof.Machine.State.chipReset s) := by
  unfold Sys2Proof.Machine.State.chipReset
  repeat' first
    | with_reducible assumption
    | with_reducible apply goodO_next
    | intro _
    | with_reducible apply State_resetOthers_good
    | with_reducible apply good_foldl
    | with_reducible apply good_foldl_fst
    | split
    | with_reducible refine good_fst (by assumption) ?_
    | with_reducible refine good_snd (by assumption) ?_
    | with_reducible refine good_snd2 (by assumption) ?_
    | dsimp only
    | with_reducible refine good_mk (t := _) ?_ rfl rfl rfl rfl rfl rfl rfl rfl

theorem execChipReset_good {q : Kept} (fn : Nat) (v : Nat) {s : State} (h : Good q s) (w_regs : q.keep .regs = false := by assumption) (w_pages : q.keep .pages = false := by assumption) (w_captures : q.keep .captures = false := by assumption) (w_msgs : q.keep .msgs = false := by assumption) (w_host : q.keep .host = false := by assumption) (w_power : q.keep .power = false := by assumption) (w_ws : q.keep .ws = false := by assumption) (w_act : q.keep .act = false := by assumption) (w_hbm : q.keep .hbm = false := by assumption) (w_caches : q.keep .caches = false := by assumption) (w_mem : q.keep .mem = false := by assumption) (w_sluice : q.keep .sluice = false := by assumption) (w_sync : q.keep .sync = false := by assumption) (w_work : q.keep .work = false := by assumption) (w_link : q.keep .link = false := by assumption) (w_tenants : q.keep .tenants = false := by assumption) (w_freeCtr : q.keep .freeCtr = false := by assumption) (w_held : q.keep .held = false := by assumption) : GoodO q (Sys2Proof.Machine.execChipReset fn v s) := by
  unfold Sys2Proof.Machine.execChipReset
  repeat' first
    | with_reducible assumption
    | with_reducible apply goodO_next
    | intro _
    | with_reducible apply mmio_good
    | with_reducible apply State_chipReset_good
    | with_reducible apply good_foldl
    | with_reducible apply good_foldl_fst
    | split

theorem execTapReset_good {q : Kept} {s : State} (h : Good q s) (w_power : q.keep .power = false := by assumption) : GoodO q (Sys2Proof.Machine.execTapReset s) := by
  unfold Sys2Proof.Machine.execTapReset
  repeat' first
    | with_reducible assumption
    | with_reducible apply goodO_next
    | intro _
    | with_reducible apply good_foldl
    | with_reducible apply good_foldl_fst
    | split
    | with_reducible refine good_fst (by assumption) ?_
    | with_reducible refine good_snd (by assumption) ?_
    | with_reducible refine good_snd2 (by assumption) ?_
    | dsimp only
    | with_reducible refine good_mk (t := _) ?_ rfl rfl rfl rfl rfl rfl rfl rfl

theorem execJtagInstruction_good {q : Kept} (i : TapInstr) {s : State} (h : Good q s) (hi : ∀ n, i = .priv n → s.on FU_LOCKS_DEBUG = true)
    (w_power : q.keep .power = false := by assumption) : GoodO q (Sys2Proof.Machine.execJtagInstruction i s) := by
  unfold Sys2Proof.Machine.execJtagInstruction
  split
  · rw [if_pos (hi _ rfl)]
    exact goodO_next (good_mk h rfl rfl rfl rfl rfl rfl rfl rfl)
  · exact goodO_next (good_mk h rfl rfl rfl rfl rfl rfl rfl rfl)

theorem pmCmd_good {q : Kept} (fn : Nat) (kind : Nat) (addr : Nat) (code : Nat) {s : State} (h : Good q s) (w_regs : q.keep .regs = false := by assumption) (w_pages : q.keep .pages = false := by assumption) (w_msgs : q.keep .msgs = false := by assumption) (w_power : q.keep .power = false := by assumption) : GoodO q (Sys2Proof.Machine.pmCmd fn kind addr code s) := by
  unfold Sys2Proof.Machine.pmCmd
  repeat' first
    | with_reducible assumption
    | with_reducible apply goodO_next
    | intro _
    | with_reducible apply State_set_good
    | with_reducible apply State_flag_good
    | with_reducible apply State_refuseWrite_good
    | with_reducible apply mmio_good
    | with_reducible apply good_foldl
    | with_reducible apply good_foldl_fst
    | split
    | with_reducible refine good_fst (by assumption) ?_
    | with_reducible refine good_snd (by assumption) ?_
    | with_reducible refine good_snd2 (by assumption) ?_
    | dsimp only
    | with_reducible refine good_mk (t := _) ?_ rfl rfl rfl rfl rfl rfl rfl rfl

theorem execPmSendByte_good {q : Kept} (fn : Nat) (addr : Nat) (code : Nat) {s : State} (h : Good q s) (w_regs : q.keep .regs = false := by assumption) (w_pages : q.keep .pages = false := by assumption) (w_msgs : q.keep .msgs = false := by assumption) (w_power : q.keep .power = false := by assumption) : GoodO q (Sys2Proof.Machine.execPmSendByte fn addr code s) := by
  unfold Sys2Proof.Machine.execPmSendByte
  repeat' first
    | with_reducible assumption
    | with_reducible apply goodO_next
    | intro _
    | with_reducible apply pmCmd_good

theorem execPmWriteByte_good {q : Kept} (fn : Nat) (addr : Nat) (code : Nat) {s : State} (h : Good q s) (w_regs : q.keep .regs = false := by assumption) (w_pages : q.keep .pages = false := by assumption) (w_msgs : q.keep .msgs = false := by assumption) (w_power : q.keep .power = false := by assumption) : GoodO q (Sys2Proof.Machine.execPmWriteByte fn addr code s) := by
  unfold Sys2Proof.Machine.execPmWriteByte
  repeat' first
    | with_reducible assumption
    | with_reducible apply goodO_next
    | intro _
    | with_reducible apply pmCmd_good

theorem execPmWriteWord_good {q : Kept} (fn : Nat) (addr : Nat) (code : Nat) {s : State} (h : Good q s) (w_regs : q.keep .regs = false := by assumption) (w_pages : q.keep .pages = false := by assumption) (w_msgs : q.keep .msgs = false := by assumption) (w_power : q.keep .power = false := by assumption) : GoodO q (Sys2Proof.Machine.execPmWriteWord fn addr code s) := by
  unfold Sys2Proof.Machine.execPmWriteWord
  repeat' first
    | with_reducible assumption
    | with_reducible apply goodO_next
    | intro _
    | with_reducible apply pmCmd_good

theorem execPmReadByte_good {q : Kept} (fn : Nat) (addr : Nat) (code : Nat) {s : State} (h : Good q s) (w_regs : q.keep .regs = false := by assumption) (w_pages : q.keep .pages = false := by assumption) (w_msgs : q.keep .msgs = false := by assumption) (w_power : q.keep .power = false := by assumption) : GoodO q (Sys2Proof.Machine.execPmReadByte fn addr code s) := by
  unfold Sys2Proof.Machine.execPmReadByte
  repeat' first
    | with_reducible assumption
    | with_reducible apply goodO_next
    | intro _
    | with_reducible apply pmCmd_good

theorem execPmReadWord_good {q : Kept} (fn : Nat) (addr : Nat) (code : Nat) {s : State} (h : Good q s) (w_regs : q.keep .regs = false := by assumption) (w_pages : q.keep .pages = false := by assumption) (w_msgs : q.keep .msgs = false := by assumption) (w_power : q.keep .power = false := by assumption) : GoodO q (Sys2Proof.Machine.execPmReadWord fn addr code s) := by
  unfold Sys2Proof.Machine.execPmReadWord
  repeat' first
    | with_reducible assumption
    | with_reducible apply goodO_next
    | intro _
    | with_reducible apply pmCmd_good

theorem execPmBlockRead_good {q : Kept} (fn : Nat) (addr : Nat) (code : Nat) {s : State} (h : Good q s) (w_regs : q.keep .regs = false := by assumption) (w_pages : q.keep .pages = false := by assumption) (w_msgs : q.keep .msgs = false := by assumption) (w_power : q.keep .power = false := by assumption) : GoodO q (Sys2Proof.Machine.execPmBlockRead fn addr code s) := by
  unfold Sys2Proof.Machine.execPmBlockRead
  repeat' first
    | with_reducible assumption
    | with_reducible apply goodO_next
    | intro _
    | with_reducible apply pmCmd_good

theorem State_pmData_good {q : Kept} {s : State} (b : List Byte) (h : Good q s) (w_regs : q.keep .regs = false := by assumption) (w_power : q.keep .power = false := by assumption) : Good q (Sys2Proof.Machine.State.pmData s b) := by
  unfold Sys2Proof.Machine.State.pmData
  repeat' first
    | with_reducible assumption
    | with_reducible apply goodO_next
    | intro _
    | with_reducible apply State_set_good
    | with_reducible apply good_foldl
    | with_reducible apply good_foldl_fst
    | split
    | with_reducible refine good_fst (by assumption) ?_
    | with_reducible refine good_snd (by assumption) ?_
    | with_reducible refine good_snd2 (by assumption) ?_
    | dsimp only
    | with_reducible refine good_mk (t := _) ?_ rfl rfl rfl rfl rfl rfl rfl rfl

theorem execPmDone_good {q : Kept} (o : PmOutcome) {s : State} (h : Good q s) (w_regs : q.keep .regs = false := by assumption) (w_pages : q.keep .pages = false := by assumption) (w_msgs : q.keep .msgs = false := by assumption) (w_power : q.keep .power = false := by assumption) (w_freeCtr : q.keep .freeCtr = false := by assumption) : GoodO q (Sys2Proof.Machine.execPmDone o s) := by
  unfold Sys2Proof.Machine.execPmDone
  repeat' first
    | with_reducible assumption
    | with_reducible apply goodO_next
    | intro _
    | with_reducible apply State_set_good
    | with_reducible apply State_flag_good
    | with_reducible apply State_raise_good
    | with_reducible apply State_captureOpen_good
    | with_reducible apply State_pmData_good
    | with_reducible apply good_foldl
    | with_reducible apply good_foldl_fst
    | split

theorem execPatchLoad_good {q : Kept} (fn : Nat) {s : State} (h : Good q s) (w_regs : q.keep .regs = false := by assumption) (w_pages : q.keep .pages = false := by assumption) (w_msgs : q.keep .msgs = false := by assumption) : GoodO q (Sys2Proof.Machine.execPatchLoad fn s) := by
  unfold Sys2Proof.Machine.execPatchLoad
  repeat' first
    | with_reducible assumption
    | with_reducible apply goodO_next
    | intro _
    | with_reducible apply State_set_good
    | with_reducible apply State_flag_good
    | with_reducible apply State_raise_good
    | with_reducible apply State_refuseWrite_good
    | with_reducible apply mmio_good
    | with_reducible apply good_foldl
    | with_reducible apply good_foldl_fst
    | split

theorem execPatchDone_good {q : Kept} (src : ReadOutcome) (version : Nat) (profile : Nat) {s : State} (h : Good q s) (w_regs : q.keep .regs = false := by assumption) (w_pages : q.keep .pages = false := by assumption) (w_msgs : q.keep .msgs = false := by assumption) (w_host : q.keep .host = false := by assumption) (w_freeCtr : q.keep .freeCtr = false := by assumption) : GoodO q (Sys2Proof.Machine.execPatchDone src version profile s) := by
  unfold Sys2Proof.Machine.execPatchDone
  repeat' first
    | with_reducible assumption
    | with_reducible apply goodO_next
    | intro _
    | with_reducible apply State_drawFree_good
    | with_reducible apply State_hostFetch_good
    | with_reducible apply State_patchEnds_good
    | with_reducible apply good_foldl
    | with_reducible apply good_foldl_fst
    | split
    | with_reducible refine good_fst (by assumption) ?_
    | with_reducible refine good_snd (by assumption) ?_

theorem State_trip_good {q : Kept} {s : State} (die : Nat) (stack : Nat) (h : Good q s) (w_regs : q.keep .regs = false := by assumption) (w_pages : q.keep .pages = false := by assumption) (w_captures : q.keep .captures = false := by assumption) (w_msgs : q.keep .msgs = false := by assumption) (w_host : q.keep .host = false := by assumption) (w_power : q.keep .power = false := by assumption) (w_faultLog : q.keep .faultLog = false := by assumption) (w_ws : q.keep .ws = false := by assumption) (w_act : q.keep .act = false := by assumption) (w_hbm : q.keep .hbm = false := by assumption) (w_caches : q.keep .caches = false := by assumption) (w_mem : q.keep .mem = false := by assumption) (w_sluice : q.keep .sluice = false := by assumption) (w_sync : q.keep .sync = false := by assumption) (w_work : q.keep .work = false := by assumption) (w_link : q.keep .link = false := by assumption) (w_tenants : q.keep .tenants = false := by assumption) (w_freeCtr : q.keep .freeCtr = false := by assumption) (w_held : q.keep .held = false := by assumption) : Good q (Sys2Proof.Machine.State.trip s die stack) := by
  unfold Sys2Proof.Machine.State.trip
  repeat' first
    | with_reducible assumption
    | with_reducible apply goodO_next
    | intro _
    | with_reducible apply State_set_good
    | with_reducible apply State_flag_good
    | with_reducible apply State_raise_good
    | with_reducible apply State_fault_good
    | with_reducible apply State_resetDomain_good
    | with_reducible apply good_foldl
    | with_reducible apply good_foldl_fst
    | split
    | with_reducible refine good_fst (by assumption) ?_
    | with_reducible refine good_snd (by assumption) ?_
    | with_reducible refine good_snd2 (by assumption) ?_
    | dsimp only
    | with_reducible refine good_mk (t := _) ?_ rfl rfl rfl rfl rfl rfl rfl rfl

theorem execThermalSample_good {q : Kept} (a : Nat) (b : Nat) (io : Nat) {s : State} (h : Good q s) (w_regs : q.keep .regs = false := by assumption) (w_pages : q.keep .pages = false := by assumption) (w_captures : q.keep .captures = false := by assumption) (w_msgs : q.keep .msgs = false := by assumption) (w_host : q.keep .host = false := by assumption) (w_power : q.keep .power = false := by assumption) (w_faultLog : q.keep .faultLog = false := by assumption) (w_ws : q.keep .ws = false := by assumption) (w_act : q.keep .act = false := by assumption) (w_hbm : q.keep .hbm = false := by assumption) (w_caches : q.keep .caches = false := by assumption) (w_mem : q.keep .mem = false := by assumption) (w_sluice : q.keep .sluice = false := by assumption) (w_sync : q.keep .sync = false := by assumption) (w_work : q.keep .work = false := by assumption) (w_link : q.keep .link = false := by assumption) (w_tenants : q.keep .tenants = false := by assumption) (w_freeCtr : q.keep .freeCtr = false := by assumption) (w_held : q.keep .held = false := by assumption) : GoodO q (Sys2Proof.Machine.execThermalSample a b io s) := by
  unfold Sys2Proof.Machine.execThermalSample
  repeat' first
    | with_reducible assumption
    | with_reducible apply goodO_next
    | intro _
    | with_reducible apply State_set_good
    | with_reducible apply State_raiseEdge_good
    | with_reducible apply State_trip_good
    | with_reducible apply good_foldl
    | with_reducible apply good_foldl_fst
    | split
    | with_reducible refine good_fst (by assumption) ?_
    | with_reducible refine good_snd (by assumption) ?_
    | with_reducible refine good_snd2 (by assumption) ?_
    | dsimp only

theorem execCatastrophicTemperature_good {q : Kept} (stack : Nat) {s : State} (h : Good q s) (w_regs : q.keep .regs = false := by assumption) (w_pages : q.keep .pages = false := by assumption) (w_captures : q.keep .captures = false := by assumption) (w_msgs : q.keep .msgs = false := by assumption) (w_host : q.keep .host = false := by assumption) (w_power : q.keep .power = false := by assumption) (w_faultLog : q.keep .faultLog = false := by assumption) (w_ws : q.keep .ws = false := by assumption) (w_act : q.keep .act = false := by assumption) (w_hbm : q.keep .hbm = false := by assumption) (w_caches : q.keep .caches = false := by assumption) (w_mem : q.keep .mem = false := by assumption) (w_sluice : q.keep .sluice = false := by assumption) (w_sync : q.keep .sync = false := by assumption) (w_work : q.keep .work = false := by assumption) (w_link : q.keep .link = false := by assumption) (w_tenants : q.keep .tenants = false := by assumption) (w_freeCtr : q.keep .freeCtr = false := by assumption) (w_held : q.keep .held = false := by assumption) : GoodO q (Sys2Proof.Machine.execCatastrophicTemperature stack s) := by
  unfold Sys2Proof.Machine.execCatastrophicTemperature
  repeat' first
    | with_reducible assumption
    | with_reducible apply goodO_next
    | intro _
    | with_reducible apply State_trip_good
    | with_reducible apply good_foldl
    | with_reducible apply good_foldl_fst
    | split

theorem execTripClear_good {q : Kept} (fn : Nat) {s : State} (h : Good q s) (w_regs : q.keep .regs = false := by assumption) (w_pages : q.keep .pages = false := by assumption) (w_msgs : q.keep .msgs = false := by assumption) (w_power : q.keep .power = false := by assumption) : GoodO q (Sys2Proof.Machine.execTripClear fn s) := by
  unfold Sys2Proof.Machine.execTripClear
  repeat' first
    | with_reducible assumption
    | with_reducible apply goodO_next
    | intro _
    | with_reducible apply State_set_good
    | with_reducible apply State_flag_good
    | with_reducible apply State_refuseWrite_good
    | with_reducible apply mmio_good
    | with_reducible apply good_foldl
    | with_reducible apply good_foldl_fst
    | split
    | with_reducible refine good_fst (by assumption) ?_
    | with_reducible refine good_snd (by assumption) ?_
    | with_reducible refine good_snd2 (by assumption) ?_
    | dsimp only
    | with_reducible refine good_mk (t := _) ?_ rfl rfl rfl rfl rfl rfl rfl rfl

end Sys2Proof.Laws
end

