-- ==== Sys2Proof/Laws/KeepRepair.lean ====
section
/-!
SUPPORT. What the operations of Machine/Repair.lean keep.
-/

set_option Elab.async false

namespace Sys2Proof.Laws

open Sys2Proof.Machine

theorem State_ftRefused_good {q : Kept} {s : State} (word : Nat) (st : Status) (h : Good q s) (w_regs : q.keep .regs = false := by assumption) (w_pages : q.keep .pages = false := by assumption) : Good q (Sys2Proof.Machine.State.ftRefused s word st) := by
  unfold Sys2Proof.Machine.State.ftRefused
  repeat' first
    | with_reducible assumption
    | with_reducible apply goodO_next
    | intro _
    | with_reducible apply State_set_good
    | with_reducible apply State_capture_good

theorem State_ftEnds_good {q : Kept} {s : State} (st : Status) (h : Good q s) (w_regs : q.keep .regs = false := by assumption) (w_pages : q.keep .pages = false := by assumption) (w_msgs : q.keep .msgs = false := by assumption) (w_freeCtr : q.keep .freeCtr = false := by assumption) : Good q (Sys2Proof.Machine.State.ftEnds s st) := by
  unfold Sys2Proof.Machine.State.ftEnds
  repeat' first
    | with_reducible assumption
    | with_reducible apply goodO_next
    | intro _
    | with_reducible apply State_set_good
    | with_reducible apply State_flag_good
    | with_reducible apply State_raise_good
    | with_reducible apply State_captureOpen_good
    | with_reducible apply good_foldl
    | with_reducible apply good_foldl_fst
    | split

theorem ftCmd_good {q : Kept} (fn : Nat) (word : Nat) (c : Instr) {s : State} (check : State → Status) (body : State → State) (h : Good q s) (hbody : ∀ x0, Good q x0 → Good q (body x0)) (w_regs : q.keep .regs = false := by assumption) (w_pages : q.keep .pages = false := by assumption) (w_msgs : q.keep .msgs = false := by assumption) (w_held : q.keep .held = false := by assumption) : GoodO q (Sys2Proof.Machine.ftCmd fn word c s check body) := by
  unfold Sys2Proof.Machine.ftCmd
  repeat' first
    | with_reducible assumption
    | with_reducible apply goodO_next
    | intro _
    | with_reducible apply hbody
    | with_reducible apply State_hold_good
    | with_reducible apply State_capture_good
    | with_reducible apply mmio_good
    | with_reducible apply State_ftRefused_good
    | with_reducible apply good_foldl
    | with_reducible apply good_foldl_fst
    | split

theorem State_ftStart_good {q : Kept} {s : State} (j : FtJob) (h : Good q s) (w_regs : q.keep .regs = false := by assumption) (w_power : q.keep .power = false := by assumption) : Good q (Sys2Proof.Machine.State.ftStart s j) := by
  unfold Sys2Proof.Machine.State.ftStart
  repeat' first
    | with_reducible assumption
    | with_reducible apply goodO_next
    | intro _
    | with_reducible apply State_flag_good
    | with_reducible apply good_foldl
    | with_reducible apply good_foldl_fst
    | split
    | with_reducible refine good_fst (by assumption) ?_
    | with_reducible refine good_snd (by assumption) ?_
    | with_reducible refine good_snd2 (by assumption) ?_
    | dsimp only
    | with_reducible refine good_mk (t := _) ?_ rfl rfl rfl rfl rfl rfl rfl rfl

theorem execWithdraw_good {q : Kept} (fn : Nat) (core : Nat) {s : State} (h : Good q s) (w_regs : q.keep .regs = false := by assumption) (w_pages : q.keep .pages = false := by assumption) (w_msgs : q.keep .msgs = false := by assumption) (w_freeCtr : q.keep .freeCtr = false := by assumption) (w_held : q.keep .held = false := by assumption) : GoodO q (Sys2Proof.Machine.execWithdraw fn core s) := by
  unfold Sys2Proof.Machine.execWithdraw
  repeat' first
    | with_reducible assumption
    | with_reducible apply goodO_next
    | intro _
    | with_reducible apply State_set_good
    | with_reducible apply State_ftEnds_good
    | with_reducible apply ftCmd_good

theorem execRefill_good {q : Kept} (fn : Nat) (core : Nat) (set : Nat) (copy : Nat) (src : Nat) (ctx : Nat) {s : State} (h : Good q s) (w_regs : q.keep .regs = false := by assumption) (w_pages : q.keep .pages = false := by assumption) (w_msgs : q.keep .msgs = false := by assumption) (w_power : q.keep .power = false := by assumption) (w_held : q.keep .held = false := by assumption) : GoodO q (Sys2Proof.Machine.execRefill fn core set copy src ctx s) := by
  unfold Sys2Proof.Machine.execRefill
  repeat' first
    | with_reducible assumption
    | with_reducible apply goodO_next
    | intro _
    | with_reducible apply State_setHolds_good
    | with_reducible apply ftCmd_good
    | with_reducible apply State_ftStart_good

theorem State_refillCore_good {q : Kept} {s : State} (core : Nat) (set : Nat) (copy : Nat) (src : Nat) (ctx : Nat) (c : SetCfg) (srcs : List ReadOutcome) (h : Good q s) (w_regs : q.keep .regs = false := by assumption) (w_pages : q.keep .pages = false := by assumption) (w_msgs : q.keep .msgs = false := by assumption) (w_host : q.keep .host = false := by assumption) (w_faultLog : q.keep .faultLog = false := by assumption) (w_ws : q.keep .ws = false := by assumption) (w_act : q.keep .act = false := by assumption) (w_hbm : q.keep .hbm = false := by assumption) (w_caches : q.keep .caches = false := by assumption) (w_mem : q.keep .mem = false := by assumption) (w_freeCtr : q.keep .freeCtr = false := by assumption) : Good q (Sys2Proof.Machine.State.refillCore s core set copy src ctx c srcs).1 := by
  unfold Sys2Proof.Machine.State.refillCore
  repeat' first
    | with_reducible assumption
    | with_reducible apply goodO_next
    | intro _
    | with_reducible apply State_set_good
    | with_reducible apply State_raise_good
    | with_reducible apply State_fillPart_good
    | with_reducible apply State_manifest_good
    | with_reducible apply good_foldl
    | with_reducible apply good_foldl_fst
    | split
    | with_reducible refine good_fst (by assumption) ?_

theorem execRefillDone_good {q : Kept} (srcs : List ReadOutcome) {s : State} (h : Good q s) (w_regs : q.keep .regs = false := by assumption) (w_pages : q.keep .pages = false := by assumption) (w_msgs : q.keep .msgs = false := by assumption) (w_host : q.keep .host = false := by assumption) (w_power : q.keep .power = false := by assumption) (w_faultLog : q.keep .faultLog = false := by assumption) (w_ws : q.keep .ws = false := by assumption) (w_act : q.keep .act = false := by assumption) (w_hbm : q.keep .hbm = false := by assumption) (w_caches : q.keep .caches = false := by assumption) (w_mem : q.keep .mem = false := by assumption) (w_freeCtr : q.keep .freeCtr = false := by assumption) : GoodO q (Sys2Proof.Machine.execRefillDone srcs s) := by
  unfold Sys2Proof.Machine.execRefillDone
  repeat' first
    | with_reducible assumption
    | with_reducible apply goodO_next
    | intro _
    | with_reducible apply State_setHolds_good
    | with_reducible apply State_ftEnds_good
    | with_reducible apply State_refillCore_good
    | with_reducible apply good_foldl
    | with_reducible apply good_foldl_fst
    | split
    | with_reducible refine good_fst (by assumption) ?_
    | with_reducible refine good_snd (by assumption) ?_
    | with_reducible refine good_snd2 (by assumption) ?_
    | dsimp only
    | with_reducible refine good_mk (t := _) ?_ rfl rfl rfl rfl rfl rfl rfl rfl

theorem execEpochSync_good {q : Kept} (fn : Nat) (core : Nat) {s : State} (h : Good q s) (w_regs : q.keep .regs = false := by assumption) (w_pages : q.keep .pages = false := by assumption) (w_msgs : q.keep .msgs = false := by assumption) (w_freeCtr : q.keep .freeCtr = false := by assumption) (w_held : q.keep .held = false := by assumption) : GoodO q (Sys2Proof.Machine.execEpochSync fn core s) := by
  unfold Sys2Proof.Machine.execEpochSync
  repeat' first
    | with_reducible assumption
    | with_reducible apply goodO_next
    | intro _
    | with_reducible apply State_set_good
    | with_reducible apply State_ftEnds_good
    | with_reducible apply ftCmd_good

theorem execAdmitCore_good {q : Kept} (fn : Nat) (core : Nat) {s : State} (h : Good q s) (w_regs : q.keep .regs = false := by assumption) (w_pages : q.keep .pages = false := by assumption) (w_msgs : q.keep .msgs = false := by assumption) (w_freeCtr : q.keep .freeCtr = false := by assumption) (w_held : q.keep .held = false := by assumption) : GoodO q (Sys2Proof.Machine.execAdmitCore fn core s) := by
  unfold Sys2Proof.Machine.execAdmitCore
  repeat' first
    | with_reducible assumption
    | with_reducible apply goodO_next
    | intro _
    | with_reducible apply State_set_good
    | with_reducible apply State_ftEnds_good
    | with_reducible apply ftCmd_good

theorem execArrayTest_good {q : Kept} (fn : Nat) (core : Nat) (array : Nat) {s : State} (h : Good q s) (w_regs : q.keep .regs = false := by assumption) (w_pages : q.keep .pages = false := by assumption) (w_msgs : q.keep .msgs = false := by assumption) (w_power : q.keep .power = false := by assumption) (w_held : q.keep .held = false := by assumption) : GoodO q (Sys2Proof.Machine.execArrayTest fn core array s) := by
  unfold Sys2Proof.Machine.execArrayTest
  repeat' first
    | with_reducible assumption
    | with_reducible apply goodO_next
    | intro _
    | with_reducible apply ftCmd_good
    | with_reducible apply State_ftStart_good

theorem execArrayTestDone_good {q : Kept} (columns : Nat) {s : State} (h : Good q s) (w_regs : q.keep .regs = false := by assumption) (w_pages : q.keep .pages = false := by assumption) (w_msgs : q.keep .msgs = false := by assumption) (w_power : q.keep .power = false := by assumption) (w_freeCtr : q.keep .freeCtr = false := by assumption) : GoodO q (Sys2Proof.Machine.execArrayTestDone columns s) := by
  unfold Sys2Proof.Machine.execArrayTestDone
  repeat' first
    | with_reducible assumption
    | with_reducible apply goodO_next
    | intro _
    | with_reducible apply State_set_good
    | with_reducible apply State_ftEnds_good
    | with_reducible apply good_foldl
    | with_reducible apply good_foldl_fst
    | split
    | with_reducible refine good_fst (by assumption) ?_
    | with_reducible refine good_snd (by assumption) ?_
    | with_reducible refine good_snd2 (by assumption) ?_
    | dsimp only
    | with_reducible refine good_mk (t := _) ?_ rfl rfl rfl rfl rfl rfl rfl rfl

theorem execFtPop_good {q : Kept} (fn : Nat) {s : State} (h : Good q s) (w_regs : q.keep .regs = false := by assumption) (w_pages : q.keep .pages = false := by assumption) (w_readData : q.keep .readData = false := by assumption) (w_msgs : q.keep .msgs = false := by assumption) (w_faultLog : q.keep .faultLog = false := by assumption) : GoodO q (Sys2Proof.Machine.execFtPop fn s) := by
  unfold Sys2Proof.Machine.execFtPop
  repeat' first
    | with_reducible assumption
    | with_reducible apply goodO_next
    | intro _
    | with_reducible apply State_set_good
    | with_reducible apply mmioRead_good
    | with_reducible apply good_foldl
    | with_reducible apply good_foldl_fst
    | split
    | with_reducible refine good_fst (by assumption) ?_
    | with_reducible refine good_snd (by assumption) ?_
    | with_reducible refine good_snd2 (by assumption) ?_
    | dsimp only
    | with_reducible refine good_mk (t := _) ?_ rfl rfl rfl rfl rfl rfl rfl rfl
    | with_reducible refine good_le (t := _) ?_ rfl rfl rfl rfl (by first | exact Nat.le_refl _ | exact Nat.zero_le _ | exact len_tail (by assumption)) (by first | exact Nat.le_refl _ | exact Nat.zero_le _ | exact len_tail (by assumption)) (by first | exact Nat.le_refl _ | exact Nat.zero_le _ | exact len_tail (by assumption)) (by first | exact Nat.le_refl _ | exact Nat.zero_le _ | exact len_tail (by assumption))

theorem State_unlocked_good {q : Kept} {s : State} (b : Bool) (h : Good q s) (w_fuses : q.keep .fuses = false := by assumption) : Good q (Sys2Proof.Machine.State.unlocked s b) := by
  unfold Sys2Proof.Machine.State.unlocked
  repeat' first
    | with_reducible assumption
    | with_reducible apply goodO_next
    | intro _
    | with_reducible apply good_foldl
    | with_reducible apply good_foldl_fst
    | split
    | with_reducible refine good_fst (by assumption) ?_
    | with_reducible refine good_snd (by assumption) ?_
    | with_reducible refine good_snd2 (by assumption) ?_
    | dsimp only
    | with_reducible refine good_mk (t := _) ?_ rfl rfl rfl rfl rfl rfl rfl rfl

theorem execFuUnlock_good {q : Kept} (fn : Nat) (v : Nat) {s : State} (h : Good q s) (w_regs : q.keep .regs = false := by assumption) (w_pages : q.keep .pages = false := by assumption) (w_msgs : q.keep .msgs = false := by assumption) (w_fuses : q.keep .fuses = false := by assumption) (w_held : q.keep .held = false := by assumption) : GoodO q (Sys2Proof.Machine.execFuUnlock fn v s) := by
  unfold Sys2Proof.Machine.execFuUnlock
  repeat' first
    | with_reducible assumption
    | with_reducible apply goodO_next
    | intro _
    | with_reducible apply State_hold_good
    | with_reducible apply mmio_good
    | with_reducible apply State_unlocked_good
    | with_reducible apply good_foldl
    | with_reducible apply good_foldl_fst
    | split

theorem State_fuRefused_good {q : Kept} {s : State} (word : Nat) (st : Status) (h : Good q s) (w_regs : q.keep .regs = false := by assumption) (w_pages : q.keep .pages = false := by assumption) : Good q (Sys2Proof.Machine.State.fuRefused s word st) := by
  unfold Sys2Proof.Machine.State.fuRefused
  repeat' first
    | with_reducible assumption
    | with_reducible apply goodO_next
    | intro _
    | with_reducible apply State_set_good
    | with_reducible apply State_capture_good
    | with_reducible apply good_foldl
    | with_reducible apply good_foldl_fst
    | split

theorem State_burn_good {q : Kept} {s : State} (op : Nat) (a0 : Nat) (a1 : Nat) (v : Nat) (old : Nat) (left : Nat) (h : Good q s) (w_regs : q.keep .regs = false := by assumption) (w_fuses : q.keep .fuses = false := by assumption) : Good q (Sys2Proof.Machine.State.burn s op a0 a1 v old left) := by
  unfold Sys2Proof.Machine.State.burn
  repeat' first
    | with_reducible assumption
    | with_reducible apply goodO_next
    | intro _
    | with_reducible apply State_set_good
    | with_reducible apply State_flag_good
    | with_reducible apply State_showCounts_good
    | with_reducible apply good_foldl
    | with_reducible apply good_foldl_fst
    | split
    | with_reducible refine good_fst (by assumption) ?_
    | with_reducible refine good_snd (by assumption) ?_
    | with_reducible refine good_snd2 (by assumption) ?_
    | dsimp only
    | with_reducible refine good_mk (t := _) ?_ rfl rfl rfl rfl rfl rfl rfl rfl

theorem fuCmd_good {q : Kept} (fn : Nat) (op : Nat) (a0 : Nat) (a1 : Nat) (v : Nat) (c : Instr) {s : State} (check : State → Status) (old : State → Nat) (left : State → Nat) (live : State → State) (h : Good q s) (hlive : ∀ x0, Good q x0 → Good q (live x0)) (w_regs : q.keep .regs = false := by assumption) (w_pages : q.keep .pages = false := by assumption) (w_msgs : q.keep .msgs = false := by assumption) (w_fuses : q.keep .fuses = false := by assumption) (w_held : q.keep .held = false := by assumption) : GoodO q (Sys2Proof.Machine.fuCmd fn op a0 a1 v c s check old left live) := by
  unfold Sys2Proof.Machine.fuCmd
  repeat' first
    | with_reducible assumption
    | with_reducible apply goodO_next
    | intro _
    | with_reducible apply hlive
    | with_reducible apply State_hold_good
    | with_reducible apply State_capture_good
    | with_reducible apply mmio_good
    | with_reducible apply State_unlocked_good
    | with_reducible apply State_fuRefused_good
    | with_reducible apply State_burn_good
    | with_reducible apply good_foldl
    | with_reducible apply good_foldl_fst
    | split
    | with_reducible refine good_fst (by assumption) ?_
    | with_reducible refine good_snd (by assumption) ?_
    | with_reducible refine good_snd2 (by assumption) ?_
    | dsimp only

theorem execCoreRemap_good {q : Kept} (fn : Nat) (core : Nat) (slot : Nat) {s : State} (h : Good q s) (w_regs : q.keep .regs = false := by assumption) (w_pages : q.keep .pages = false := by assumption) (w_msgs : q.keep .msgs = false := by assumption) (w_fuses : q.keep .fuses = false := by assumption) (w_held : q.keep .held = false := by assumption) : GoodO q (Sys2Proof.Machine.execCoreRemap fn core slot s) := by
  exact fuCmd_good _ _ _ _ _ _ _ _ _ _ h (fun _ k => k)

theorem execLaneRemap_good {q : Kept} (fn : Nat) (port : Nat) (lane : Nat) (phys : Nat) {s : State} (h : Good q s) (w_regs : q.keep .regs = false := by assumption) (w_pages : q.keep .pages = false := by assumption) (w_msgs : q.keep .msgs = false := by assumption) (w_fuses : q.keep .fuses = false := by assumption) (w_held : q.keep .held = false := by assumption) : GoodO q (Sys2Proof.Machine.execLaneRemap fn port lane phys s) := by
  unfold Sys2Proof.Machine.execLaneRemap
  repeat' first
    | with_reducible assumption
    | with_reducible apply goodO_next
    | intro _
    | with_reducible apply State_set_good
    | with_reducible apply fuCmd_good

theorem execRkeAdvance_good {q : Kept} (fn : Nat) {s : State} (h : Good q s) (w_regs : q.keep .regs = false := by assumption) (w_pages : q.keep .pages = false := by assumption) (w_msgs : q.keep .msgs = false := by assumption) (w_fuses : q.keep .fuses = false := by assumption) (w_held : q.keep .held = false := by assumption) : GoodO q (Sys2Proof.Machine.execRkeAdvance fn s) := by
  exact fuCmd_good _ _ _ _ _ _ _ _ _ _ h (fun _ k => k)

theorem execProfileRaise_good {q : Kept} (fn : Nat) (v : Nat) {s : State} (h : Good q s) (w_regs : q.keep .regs = false := by assumption) (w_pages : q.keep .pages = false := by assumption) (w_msgs : q.keep .msgs = false := by assumption) (w_fuses : q.keep .fuses = false := by assumption) (w_held : q.keep .held = false := by assumption) : GoodO q (Sys2Proof.Machine.execProfileRaise fn v s) := by
  exact fuCmd_good _ _ _ _ _ _ _ _ _ _ h (fun _ k => k)

theorem execProfileLock_good {q : Kept} (fn : Nat) {s : State} (h : Good q s) (w_regs : q.keep .regs = false := by assumption) (w_pages : q.keep .pages = false := by assumption) (w_msgs : q.keep .msgs = false := by assumption) (w_fuses : q.keep .fuses = false := by assumption) (w_held : q.keep .held = false := by assumption) : GoodO q (Sys2Proof.Machine.execProfileLock fn s) := by
  exact fuCmd_good _ _ _ _ _ _ _ _ _ _ h (fun _ k => k)

theorem execDebugLock_good {q : Kept} (fn : Nat) {s : State} (h : Good q s) (w_regs : q.keep .regs = false := by assumption) (w_pages : q.keep .pages = false := by assumption) (w_msgs : q.keep .msgs = false := by assumption) (w_fuses : q.keep .fuses = false := by assumption) (w_held : q.keep .held = false := by assumption) : GoodO q (Sys2Proof.Machine.execDebugLock fn s) := by
  unfold Sys2Proof.Machine.execDebugLock
  repeat' first
    | with_reducible assumption
    | with_reducible apply goodO_next
    | intro _
    | with_reducible apply State_flag_good
    | with_reducible apply fuCmd_good

theorem State_remapped_good {q : Kept} {s : State} (core : Nat) (slot : Nat) (h : Good q s) (w_regs : q.keep .regs = false := by assumption) (w_pages : q.keep .pages = false := by assumption) (w_captures : q.keep .captures = false := by assumption) (w_msgs : q.keep .msgs = false := by assumption) (w_faultLog : q.keep .faultLog = false := by assumption) (w_ws : q.keep .ws = false := by assumption) (w_act : q.keep .act = false := by assumption) (w_hbm : q.keep .hbm = false := by assumption) (w_caches : q.keep .caches = false := by assumption) (w_mem : q.keep .mem = false := by assumption) (w_sluice : q.keep .sluice = false := by assumption) (w_sync : q.keep .sync = false := by assumption) (w_work : q.keep .work = false := by assumption) (w_link : q.keep .link = false := by assumption) (w_freeCtr : q.keep .freeCtr = false := by assumption) : Good q (Sys2Proof.Machine.State.remapped s core slot) := by
  unfold Sys2Proof.Machine.State.remapped
  repeat' first
    | with_reducible assumption
    | with_reducible apply goodO_next
    | intro _
    | with_reducible apply State_abortTasks_good
    | with_reducible apply State_coreClear_good
    | with_reducible apply State_resetCorePages_good
    | with_reducible apply State_clearHolds_good
    | with_reducible apply State_zeroStores_good
    | with_reducible apply State_emptyCache_good
    | with_reducible apply State_set_good
    | with_reducible apply good_foldl
    | with_reducible apply good_foldl_fst
    | split

theorem State_committed_good {q : Kept} {s : State} (e : FuseEntry) (h : Good q s) (w_regs : q.keep .regs = false := by assumption) (w_pages : q.keep .pages = false := by assumption) (w_captures : q.keep .captures = false := by assumption) (w_msgs : q.keep .msgs = false := by assumption) (w_fuses : q.keep .fuses = false := by assumption) (w_faultLog : q.keep .faultLog = false := by assumption) (w_ws : q.keep .ws = false := by assumption) (w_act : q.keep .act = false := by assumption) (w_hbm : q.keep .hbm = false := by assumption) (w_caches : q.keep .caches = false := by assumption) (w_mem : q.keep .mem = false := by assumption) (w_sluice : q.keep .sluice = false := by assumption) (w_sync : q.keep .sync = false := by assumption) (w_work : q.keep .work = false := by assumption) (w_link : q.keep .link = false := by assumption) (w_freeCtr : q.keep .freeCtr = false := by assumption) : Good q (Sys2Proof.Machine.State.committed s e) := by
  unfold Sys2Proof.Machine.State.committed
  repeat' first
    | with_reducible assumption
    | with_reducible apply goodO_next
    | intro _
    | with_reducible apply State_remapped_good
    | with_reducible apply State_flag_good
    | with_reducible apply State_set_good
    | with_reducible apply good_foldl
    | with_reducible apply good_foldl_fst
    | split
    | with_reducible refine good_fst (by assumption) ?_
    | with_reducible refine good_snd (by assumption) ?_
    | with_reducible refine good_snd2 (by assumption) ?_
    | dsimp only
    | with_reducible refine good_mk (t := _) ?_ rfl rfl rfl rfl rfl rfl rfl rfl

theorem execBurnDone_good {q : Kept} {s : State} (h : Good q s) (w_regs : q.keep .regs = false := by assumption) (w_pages : q.keep .pages = false := by assumption) (w_captures : q.keep .captures = false := by assumption) (w_msgs : q.keep .msgs = false := by assumption) (w_fuses : q.keep .fuses = false := by assumption) (w_faultLog : q.keep .faultLog = false := by assumption) (w_ws : q.keep .ws = false := by assumption) (w_act : q.keep .act = false := by assumption) (w_hbm : q.keep .hbm = false := by assumption) (w_caches : q.keep .caches = false := by assumption) (w_mem : q.keep .mem = false := by assumption) (w_sluice : q.keep .sluice = false := by assumption) (w_sync : q.keep .sync = false := by assumption) (w_work : q.keep .work = false := by assumption) (w_link : q.keep .link = false := by assumption) (w_freeCtr : q.keep .freeCtr = false := by assumption) : GoodO q (Sys2Proof.Machine.execBurnDone s) := by
  unfold Sys2Proof.Machine.execBurnDone
  repeat' first
    | with_reducible assumption
    | with_reducible apply goodO_next
    | intro _
    | with_reducible apply State_committed_good
    | with_reducible apply State_raise_good
    | with_reducible apply State_flag_good
    | with_reducible apply State_set_good
    | with_reducible apply good_foldl
    | with_reducible apply good_foldl_fst
    | split
    | with_reducible refine good_fst (by assumption) ?_
    | with_reducible refine good_snd (by assumption) ?_
    | with_reducible refine good_snd2 (by assumption) ?_
    | dsimp only
    | with_reducible refine good_mk (t := _) ?_ rfl rfl rfl rfl rfl rfl rfl rfl

end Sys2Proof.Laws
end

