-- ==== Sys2Proof/Laws/KeepRegRead.lean ====
section
/-!
SUPPORT. What the operations of Machine/RegRead.lean keep.
-/

set_option Elab.async false

namespace Sys2Proof.Laws

open Sys2Proof.Machine

theorem State_setCaptured_good {q : Kept} {s : State} (who : Nat) (addr : Nat) (v : Option Nat) (h : Good q s) (w_captures : q.keep .captures = false := by assumption) : Good q (Sys2Proof.Machine.State.setCaptured s who addr v) := by
  unfold Sys2Proof.Machine.State.setCaptured
  repeat' first
    | with_reducible assumption
    | with_reducible apply goodO_next
    | intro _
    | with_reducible apply good_foldl
    | with_reducible apply good_foldl_fst
    | split
    | with_reducible refine good_fst (by assumption) ?_
    | with_reducible refine good_snd (by assumption) ?_
    | with_reducible refine good_snd2 (by assumption) ?_
    | dsimp only
    | with_reducible refine good_mk (t := _) ?_ rfl rfl rfl rfl rfl rfl rfl rfl

theorem State_turnInfo_good {q : Kept} {s : State} (fn : Nat) (page : Nat) (h : Good q s) (w_pages : q.keep .pages = false := by assumption) : Good q (Sys2Proof.Machine.State.turnInfo s fn page) := by
  unfold Sys2Proof.Machine.State.turnInfo
  repeat' first
    | with_reducible assumption
    | with_reducible apply goodO_next
    | intro _
    | with_reducible apply State_setPage_good
    | with_reducible apply good_foldl
    | with_reducible apply good_foldl_fst
    | split
    | with_reducible refine good_fst (by assumption) ?_
    | with_reducible refine good_snd (by assumption) ?_
    | with_reducible refine good_snd2 (by assumption) ?_
    | dsimp only

theorem State_readWord_good {q : Kept} {s : State} (who : Nat) (fn : Nat) (addr : Nat) (h : Good q s) (w_pages : q.keep .pages = false := by assumption) (w_captures : q.keep .captures = false := by assumption) (w_readData : q.keep .readData = false := by assumption) : Good q (Sys2Proof.Machine.State.readWord s who fn addr) := by
  unfold Sys2Proof.Machine.State.readWord
  repeat' first
    | with_reducible assumption
    | with_reducible apply goodO_next
    | intro _
    | with_reducible apply State_turnInfo_good
    | with_reducible apply State_setCaptured_good
    | with_reducible apply State_answer_good
    | with_reducible apply good_foldl
    | with_reducible apply good_foldl_fst
    | split

theorem State_readNow_good {q : Kept} {s : State} (who : Nat) (h : Good q s) (w_captures : q.keep .captures = false := by assumption) (w_readData : q.keep .readData = false := by assumption) : Good q (Sys2Proof.Machine.State.readNow s who) := by
  unfold Sys2Proof.Machine.State.readNow
  repeat' first
    | with_reducible assumption
    | with_reducible apply goodO_next
    | intro _
    | with_reducible apply State_setCaptured_good
    | with_reducible apply State_answer_good

theorem State_readErr_good {q : Kept} {s : State} (who : Nat) (fn : Nat) (page : Nat) (h : Good q s) (w_pages : q.keep .pages = false := by assumption) (w_captures : q.keep .captures = false := by assumption) (w_readData : q.keep .readData = false := by assumption) : Good q (Sys2Proof.Machine.State.readErr s who fn page) := by
  unfold Sys2Proof.Machine.State.readErr
  repeat' first
    | with_reducible assumption
    | with_reducible apply goodO_next
    | intro _
    | with_reducible apply State_turnInfo_good
    | with_reducible apply State_setCaptured_good
    | with_reducible apply State_answer_good
    | with_reducible apply good_foldl

theorem execTbNowRead_good {q : Kept} (fn : Nat) {s : State} (h : Good q s) (w_regs : q.keep .regs = false := by assumption) (w_pages : q.keep .pages = false := by assumption) (w_captures : q.keep .captures = false := by assumption) (w_readData : q.keep .readData = false := by assumption) (w_msgs : q.keep .msgs = false := by assumption) : GoodO q (Sys2Proof.Machine.execTbNowRead fn s) := by
  unfold Sys2Proof.Machine.execTbNowRead
  repeat' first
    | with_reducible assumption
    | with_reducible apply goodO_next
    | intro _
    | with_reducible apply State_readNow_good
    | with_reducible apply mmioRead_good

theorem execErrCodeRead_good {q : Kept} (fn : Nat) (page : Nat) {s : State} (h : Good q s) (w_regs : q.keep .regs = false := by assumption) (w_pages : q.keep .pages = false := by assumption) (w_captures : q.keep .captures = false := by assumption) (w_readData : q.keep .readData = false := by assumption) (w_msgs : q.keep .msgs = false := by assumption) : GoodO q (Sys2Proof.Machine.execErrCodeRead fn page s) := by
  unfold Sys2Proof.Machine.execErrCodeRead
  repeat' first
    | with_reducible assumption
    | with_reducible apply goodO_next
    | intro _
    | with_reducible apply State_readErr_good
    | with_reducible apply mmioRead_good

theorem execLowerWordRead_good {q : Kept} (fn : Nat) (addr : Nat) {s : State} (h : Good q s) (w_regs : q.keep .regs = false := by assumption) (w_pages : q.keep .pages = false := by assumption) (w_captures : q.keep .captures = false := by assumption) (w_readData : q.keep .readData = false := by assumption) (w_msgs : q.keep .msgs = false := by assumption) (w_host : q.keep .host = false := by assumption) (w_faultLog : q.keep .faultLog = false := by assumption) (w_mem : q.keep .mem = false := by assumption) (w_work : q.keep .work = false := by assumption) (w_link : q.keep .link = false := by assumption) (w_freeCtr : q.keep .freeCtr = false := by assumption) : GoodO q (Sys2Proof.Machine.execLowerWordRead fn addr s) := by
  unfold Sys2Proof.Machine.execLowerWordRead
  repeat' first
    | with_reducible assumption
    | with_reducible apply goodO_next
    | intro _
    | with_reducible apply State_drawFree_good
    | with_reducible apply execPlPop_good
    | with_reducible apply execBqPop_good
    | with_reducible apply execLeqPop_good
    | with_reducible apply execAbPop_good
    | with_reducible apply execFtPop_good
    | with_reducible apply State_answer_good
    | with_reducible apply State_readWord_good
    | with_reducible apply mmioRead_good
    | with_reducible apply execTbNowRead_good
    | with_reducible apply execErrCodeRead_good
    | with_reducible apply good_foldl
    | with_reducible apply good_foldl_fst
    | split
    | with_reducible refine good_fst (by assumption) ?_
    | with_reducible refine good_snd (by assumption) ?_
    | with_reducible refine good_snd2 (by assumption) ?_
    | dsimp only

theorem State_smbusRead_good {q : Kept} {s : State} (addr : Nat) (h : Good q s) (w_regs : q.keep .regs = false := by assumption) (w_pages : q.keep .pages = false := by assumption) (w_captures : q.keep .captures = false := by assumption) (w_readData : q.keep .readData = false := by assumption) (w_msgs : q.keep .msgs = false := by assumption) (w_faultLog : q.keep .faultLog = false := by assumption) : GoodO q (Sys2Proof.Machine.State.smbusRead s addr) := by
  unfold Sys2Proof.Machine.State.smbusRead
  repeat' first
    | with_reducible assumption
    | with_reducible apply goodO_next
    | intro _
    | with_reducible apply execFtPop_good
    | with_reducible apply State_readWord_good
    | with_reducible apply State_readErr_good
    | with_reducible apply good_foldl
    | with_reducible apply good_foldl_fst
    | split
    | with_reducible refine good_fst (by assumption) ?_
    | with_reducible refine good_snd (by assumption) ?_
    | with_reducible refine good_snd2 (by assumption) ?_
    | dsimp only

theorem execSmbusAccess_good {q : Kept} (a : SmbusOp) {s : State} (h : Good q s) (w_regs : q.keep .regs = false := by assumption) (w_pages : q.keep .pages = false := by assumption) (w_captures : q.keep .captures = false := by assumption) (w_readData : q.keep .readData = false := by assumption) (w_msgs : q.keep .msgs = false := by assumption) (w_host : q.keep .host = false := by assumption) (w_power : q.keep .power = false := by assumption) (w_faultLog : q.keep .faultLog = false := by assumption) (w_ws : q.keep .ws = false := by assumption) (w_act : q.keep .act = false := by assumption) (w_hbm : q.keep .hbm = false := by assumption) (w_caches : q.keep .caches = false := by assumption) (w_mem : q.keep .mem = false := by assumption) (w_sluice : q.keep .sluice = false := by assumption) (w_sync : q.keep .sync = false := by assumption) (w_work : q.keep .work = false := by assumption) (w_link : q.keep .link = false := by assumption) (w_tenants : q.keep .tenants = false := by assumption) (w_freeCtr : q.keep .freeCtr = false := by assumption) (w_held : q.keep .held = false := by assumption) : GoodO q (Sys2Proof.Machine.execSmbusAccess a s) := by
  unfold Sys2Proof.Machine.execSmbusAccess
  repeat' first
    | with_reducible assumption
    | with_reducible apply goodO_next
    | intro _
    | with_reducible apply powerCmd_good
    | with_reducible apply State_chipReset_good
    | with_reducible apply State_smbusRead_good
    | with_reducible apply good_foldl
    | with_reducible apply good_foldl_fst
    | split

end Sys2Proof.Laws
end

