-- ==== Sys2Proof/Laws/KeepRegWrite.lean ====
section
/-!
SUPPORT. What the operations of Machine/RegWrite.lean keep.
-/

set_option Elab.async false

namespace Sys2Proof.Laws

open Sys2Proof.Machine

theorem refusedIf_good {q : Kept} (b : Bool) {s : State} (h : Good q s) : ∀ z, Sys2Proof.Machine.refusedIf b s = some z → Good q z := by
  intro z hz
  unfold Sys2Proof.Machine.refusedIf at hz
  split at hz
  · cases hz
    exact h
  · cases hz

theorem State_writeRefused_good {q : Kept} {s : State} (fn : Nat) (page : Nat) (off : Nat) (v : Nat) (b : Bool) (h : Good q s) (w_pages : q.keep .pages = false := by assumption) : ∀ z, Sys2Proof.Machine.State.writeRefused s fn page off v b = some z → Good q z := by
  exact refusedIf_good _ (State_refuseWrite_good _ _ _ h)

theorem State_refusalChip_good {q : Kept} {s : State} (fn : Nat) (page : Nat) (off : Nat) (v : Nat) (h : Good q s) (w_regs : q.keep .regs = false := by assumption) (w_pages : q.keep .pages = false := by assumption) (w_captures : q.keep .captures = false := by assumption) (w_msgs : q.keep .msgs = false := by assumption) (w_host : q.keep .host = false := by assumption) (w_power : q.keep .power = false := by assumption) (w_fuses : q.keep .fuses = false := by assumption) (w_faultLog : q.keep .faultLog = false := by assumption) (w_ws : q.keep .ws = false := by assumption) (w_act : q.keep .act = false := by assumption) (w_hbm : q.keep .hbm = false := by assumption) (w_caches : q.keep .caches = false := by assumption) (w_mem : q.keep .mem = false := by assumption) (w_sluice : q.keep .sluice = false := by assumption) (w_sync : q.keep .sync = false := by assumption) (w_work : q.keep .work = false := by assumption) (w_link : q.keep .link = false := by assumption) (w_tenants : q.keep .tenants = false := by assumption) (w_freeCtr : q.keep .freeCtr = false := by assumption) (w_held : q.keep .held = false := by assumption) : ∀ z, Sys2Proof.Machine.State.refusalChip s fn page off v = some z → Good q z := by
  change GoodIf q _
  unfold Sys2Proof.Machine.State.refusalChip
  repeat' first
    | with_reducible refine goodIf_ite ?_ ?_
    | with_reducible exact goodIf_none
    | with_reducible refine State_writeRefused_good _ _ _ _ _ h
    | with_reducible refine refusedIf_good _ ?_
    | with_reducible assumption
    | with_reducible apply good_ite
    | with_reducible apply State_pwrBegin_good
    | with_reducible apply State_fuRefused_good
    | with_reducible apply State_unlocked_good
    | with_reducible apply State_capture_good
    | with_reducible apply State_lcRefused_good

theorem State_refusalWork_good {q : Kept} {s : State} (fn : Nat) (page : Nat) (off : Nat) (v : Nat) (h : Good q s) (w_regs : q.keep .regs = false := by assumption) (w_pages : q.keep .pages = false := by assumption) (w_msgs : q.keep .msgs = false := by assumption) : ∀ z, Sys2Proof.Machine.State.refusalWork s fn page off v = some z → Good q z := by
  change GoodIf q _
  unfold Sys2Proof.Machine.State.refusalWork
  repeat' first
    | with_reducible refine goodIf_ite ?_ ?_
    | with_reducible exact goodIf_none
    | with_reducible refine State_writeRefused_good _ _ _ _ _ h
    | with_reducible refine refusedIf_good _ ?_
    | with_reducible assumption
    | with_reducible apply good_ite
    | with_reducible apply State_pwrBegin_good
    | with_reducible apply State_fuRefused_good
    | with_reducible apply State_unlocked_good
    | with_reducible apply State_capture_good
    | with_reducible apply State_captureFn_good
    | with_reducible apply State_refuseWrite_good
    | with_reducible apply State_chainError_good
    | with_reducible apply State_wsetError_good
    | with_reducible apply State_domRefused_good
    | with_reducible apply State_ringRefused_good
    | with_reducible apply State_instRefused_good
    | with_reducible apply State_ftRefused_good
    | with_reducible apply State_set_good
    | with_reducible apply State_flowRefused_good
    | split

theorem State_refusalMemory_good {q : Kept} {s : State} (fn : Nat) (page : Nat) (off : Nat) (v : Nat) (h : Good q s) (w_regs : q.keep .regs = false := by assumption) (w_pages : q.keep .pages = false := by assumption) : ∀ z, Sys2Proof.Machine.State.refusalMemory s fn page off v = some z → Good q z := by
  change GoodIf q _
  unfold Sys2Proof.Machine.State.refusalMemory
  repeat' first
    | with_reducible refine goodIf_ite ?_ ?_
    | with_reducible exact goodIf_none
    | with_reducible refine State_writeRefused_good _ _ _ _ _ h
    | with_reducible refine refusedIf_good _ ?_
    | with_reducible assumption
    | with_reducible apply good_ite
    | with_reducible apply State_pwrBegin_good
    | with_reducible apply State_fuRefused_good
    | with_reducible apply State_unlocked_good
    | with_reducible apply State_capture_good
    | with_reducible apply State_captureFn_good
    | with_reducible apply State_refuseWrite_good
    | with_reducible apply State_chainError_good
    | with_reducible apply State_wsetError_good
    | with_reducible apply State_domRefused_good
    | with_reducible apply State_ringRefused_good
    | with_reducible apply State_instRefused_good
    | with_reducible apply State_ftRefused_good
    | with_reducible apply State_set_good

theorem State_refusalHost_good {q : Kept} {s : State} (fn : Nat) (page : Nat) (off : Nat) (v : Nat) (h : Good q s) (w_regs : q.keep .regs = false := by assumption) (w_pages : q.keep .pages = false := by assumption) : ∀ z, Sys2Proof.Machine.State.refusalHost s fn page off v = some z → Good q z := by
  change GoodIf q _
  unfold Sys2Proof.Machine.State.refusalHost
  repeat' first
    | with_reducible refine goodIf_ite ?_ ?_
    | with_reducible exact goodIf_none
    | with_reducible refine State_writeRefused_good _ _ _ _ _ h
    | with_reducible refine refusedIf_good _ ?_
    | with_reducible assumption
    | with_reducible apply good_ite
    | with_reducible apply State_pwrBegin_good
    | with_reducible apply State_fuRefused_good
    | with_reducible apply State_unlocked_good
    | with_reducible apply State_capture_good
    | with_reducible apply State_captureFn_good
    | with_reducible apply State_refuseWrite_good
    | with_reducible apply State_chainError_good
    | with_reducible apply State_wsetError_good
    | with_reducible apply State_domRefused_good
    | with_reducible apply State_ringRefused_good
    | with_reducible apply State_instRefused_good
    | with_reducible apply State_ftRefused_good

theorem State_refusal_good {q : Kept} {s : State} (fn : Nat) (page : Nat) (off : Nat) (v : Nat) (h : Good q s) (w_regs : q.keep .regs = false := by assumption) (w_pages : q.keep .pages = false := by assumption) (w_captures : q.keep .captures = false := by assumption) (w_msgs : q.keep .msgs = false := by assumption) (w_host : q.keep .host = false := by assumption) (w_power : q.keep .power = false := by assumption) (w_fuses : q.keep .fuses = false := by assumption) (w_faultLog : q.keep .faultLog = false := by assumption) (w_ws : q.keep .ws = false := by assumption) (w_act : q.keep .act = false := by assumption) (w_hbm : q.keep .hbm = false := by assumption) (w_caches : q.keep .caches = false := by assumption) (w_mem : q.keep .mem = false := by assumption) (w_sluice : q.keep .sluice = false := by assumption) (w_sync : q.keep .sync = false := by assumption) (w_work : q.keep .work = false := by assumption) (w_link : q.keep .link = false := by assumption) (w_tenants : q.keep .tenants = false := by assumption) (w_freeCtr : q.keep .freeCtr = false := by assumption) (w_held : q.keep .held = false := by assumption) : ∀ z, Sys2Proof.Machine.State.refusal s fn page off v = some z → Good q z := by
  unfold Sys2Proof.Machine.State.refusal
  split
  · exact State_refusalChip_good _ _ _ _ h
  · split
    · exact State_refusalWork_good _ _ _ _ h
    · split
      · exact State_refusalMemory_good _ _ _ _ h
      · exact State_refusalHost_good _ _ _ _ h

theorem State_writeField_good {q : Kept} {s : State} (lock : Bool) (v : Nat) (f : Field) (h : Good q s) (w_regs : q.keep .regs = false := by assumption) : Good q (Sys2Proof.Machine.State.writeField s lock v f) := by
  unfold Sys2Proof.Machine.State.writeField
  repeat' first
    | with_reducible assumption
    | with_reducible apply goodO_next
    | intro _
    | with_reducible apply State_set_good
    | with_reducible apply good_foldl
    | with_reducible apply good_foldl_fst
    | split

theorem State_clearSat_good {q : Kept} {s : State} (fn : Nat) (c : Nat) (v : Nat) (h : Good q s) (w_sync : q.keep .sync = false := by assumption) : Good q (Sys2Proof.Machine.State.clearSat s fn c v) := by
  unfold Sys2Proof.Machine.State.clearSat
  repeat' first
    | with_reducible assumption
    | with_reducible apply goodO_next
    | intro _
    | with_reducible apply State_setCounter_good
    | with_reducible apply good_foldl
    | with_reducible apply good_foldl_fst
    | split

theorem State_clearNotify_good {q : Kept} {s : State} (fn : Nat) (base : Nat) (v : Nat) (h : Good q s) (w_sync : q.keep .sync = false := by assumption) : Good q (Sys2Proof.Machine.State.clearNotify s fn base v) := by
  unfold Sys2Proof.Machine.State.clearNotify
  repeat' first
    | with_reducible assumption
    | with_reducible apply goodO_next
    | intro _
    | with_reducible apply State_setCounter_good
    | with_reducible apply good_foldl
    | with_reducible apply good_foldl_fst
    | split

theorem State_store_good {q : Kept} {s : State} (fn : Nat) (page : Nat) (off : Nat) (v : Nat) (h : Good q s) (w_regs : q.keep .regs = false := by assumption) (w_sync : q.keep .sync = false := by assumption) : Good q (Sys2Proof.Machine.State.store s fn page off v) := by
  unfold Sys2Proof.Machine.State.store
  repeat' first
    | with_reducible assumption
    | with_reducible apply goodO_next
    | intro _
    | with_reducible apply State_set_good
    | with_reducible apply State_writeField_good
    | with_reducible apply State_clearSat_good
    | with_reducible apply State_clearNotify_good
    | with_reducible apply good_foldl
    | with_reducible apply good_foldl_fst
    | split

theorem State_digestStale_good {q : Kept} {s : State} (h : Good q s) (w_regs : q.keep .regs = false := by assumption) (w_pages : q.keep .pages = false := by assumption) (w_msgs : q.keep .msgs = false := by assumption) (w_link : q.keep .link = false := by assumption) : Good q (Sys2Proof.Machine.State.digestStale s) := by
  unfold Sys2Proof.Machine.State.digestStale
  repeat' first
    | with_reducible assumption
    | with_reducible apply goodO_next
    | intro _
    | with_reducible apply State_flag_good
    | with_reducible apply State_groupRefresh_good

theorem State_afterWrite_good {q : Kept} {s : State} (before : State) (page : Nat) (off : Nat) (h : Good q s) (w_regs : q.keep .regs = false := by assumption) (w_pages : q.keep .pages = false := by assumption) (w_msgs : q.keep .msgs = false := by assumption) (w_faultLog : q.keep .faultLog = false := by assumption) (w_hbm : q.keep .hbm = false := by assumption) (w_caches : q.keep .caches = false := by assumption) (w_mem : q.keep .mem = false := by assumption) (w_sync : q.keep .sync = false := by assumption) (w_work : q.keep .work = false := by assumption) (w_link : q.keep .link = false := by assumption) (w_freeCtr : q.keep .freeCtr = false := by assumption) : Good q (Sys2Proof.Machine.State.afterWrite s before page off) := by
  unfold Sys2Proof.Machine.State.afterWrite
  repeat' first
    | with_reducible assumption
    | with_reducible apply goodO_next
    | intro _
    | with_reducible apply State_digestStale_good
    | with_reducible apply State_quiesceAgain_good
    | with_reducible apply State_skewRefresh_good
    | with_reducible apply State_groupRefresh_good
    | with_reducible apply State_refresh_good
    | with_reducible apply State_poolWatch_good
    | with_reducible apply State_raiseEdge_good
    | with_reducible apply State_set_good
    | with_reducible apply good_foldl
    | with_reducible apply good_foldl_fst
    | split

theorem State_enableEvents_good {q : Kept} {s : State} (fn : Nat) (page : Nat) (v : Nat) (h : Good q s) (w_pages : q.keep .pages = false := by assumption) (w_msgs : q.keep .msgs = false := by assumption) : Good q (Sys2Proof.Machine.State.enableEvents s fn page v) := by
  unfold Sys2Proof.Machine.State.enableEvents
  repeat' first
    | with_reducible assumption
    | with_reducible apply goodO_next
    | intro _
    | with_reducible apply State_setPage_good
    | with_reducible apply State_sendMsg_good
    | with_reducible apply good_foldl
    | with_reducible apply good_foldl_fst
    | split
    | with_reducible refine good_fst (by assumption) ?_
    | with_reducible refine good_snd (by assumption) ?_
    | with_reducible refine good_snd2 (by assumption) ?_
    | dsimp only

theorem State_writeWord_good {q : Kept} {s : State} (fn : Nat) (page : Nat) (off : Nat) (v : Nat) (h : Good q s) (w_regs : q.keep .regs = false := by assumption) (w_pages : q.keep .pages = false := by assumption) (w_captures : q.keep .captures = false := by assumption) (w_msgs : q.keep .msgs = false := by assumption) (w_host : q.keep .host = false := by assumption) (w_power : q.keep .power = false := by assumption) (w_fuses : q.keep .fuses = false := by assumption) (w_faultLog : q.keep .faultLog = false := by assumption) (w_ws : q.keep .ws = false := by assumption) (w_act : q.keep .act = false := by assumption) (w_hbm : q.keep .hbm = false := by assumption) (w_caches : q.keep .caches = false := by assumption) (w_mem : q.keep .mem = false := by assumption) (w_sluice : q.keep .sluice = false := by assumption) (w_sync : q.keep .sync = false := by assumption) (w_work : q.keep .work = false := by assumption) (w_link : q.keep .link = false := by assumption) (w_tenants : q.keep .tenants = false := by assumption) (w_freeCtr : q.keep .freeCtr = false := by assumption) (w_held : q.keep .held = false := by assumption) : Good q (Sys2Proof.Machine.State.writeWord s fn page off v) := by
  unfold Sys2Proof.Machine.State.writeWord
  repeat' first
    | with_reducible assumption
    | with_reducible apply goodO_next
    | intro _
    | with_reducible apply State_setPage_good
    | with_reducible apply State_fuseTouch_good
    | with_reducible apply State_store_good
    | with_reducible apply State_afterWrite_good
    | with_reducible apply State_enableEvents_good
    | with_reducible apply good_foldl
    | with_reducible apply good_foldl_fst
    | split
    | with_reducible refine good_fst (by assumption) ?_
    | with_reducible refine good_snd (by assumption) ?_
    | with_reducible refine good_snd2 (by assumption) ?_
    | (with_reducible refine (State_refusal_good _ _ _ _ ?_) _ (by assumption))
    | dsimp only

theorem execRegisterWrite_good {q : Kept} (fn : Nat) (addr : Nat) (v : Nat) (be : Nat) {s : State} (h : Good q s) (w_regs : q.keep .regs = false := by assumption) (w_pages : q.keep .pages = false := by assumption) (w_captures : q.keep .captures = false := by assumption) (w_msgs : q.keep .msgs = false := by assumption) (w_host : q.keep .host = false := by assumption) (w_power : q.keep .power = false := by assumption) (w_fuses : q.keep .fuses = false := by assumption) (w_faultLog : q.keep .faultLog = false := by assumption) (w_ws : q.keep .ws = false := by assumption) (w_act : q.keep .act = false := by assumption) (w_hbm : q.keep .hbm = false := by assumption) (w_caches : q.keep .caches = false := by assumption) (w_mem : q.keep .mem = false := by assumption) (w_sluice : q.keep .sluice = false := by assumption) (w_sync : q.keep .sync = false := by assumption) (w_work : q.keep .work = false := by assumption) (w_link : q.keep .link = false := by assumption) (w_tenants : q.keep .tenants = false := by assumption) (w_freeCtr : q.keep .freeCtr = false := by assumption) (w_held : q.keep .held = false := by assumption) : GoodO q (Sys2Proof.Machine.execRegisterWrite fn addr v be s) := by
  unfold Sys2Proof.Machine.execRegisterWrite
  repeat' first
    | with_reducible assumption
    | with_reducible apply goodO_next
    | intro _
    | with_reducible apply State_add_good
    | with_reducible apply State_raiseFn_good
    | with_reducible apply mmio_good
    | with_reducible apply State_writeWord_good
    | with_reducible apply good_foldl
    | with_reducible apply good_foldl_fst
    | split

theorem execErrCodeClr_good {q : Kept} (fn : Nat) (page : Nat) (edge : Option Status) {s : State} (h : Good q s) (w_regs : q.keep .regs = false := by assumption) (w_pages : q.keep .pages = false := by assumption) (w_msgs : q.keep .msgs = false := by assumption) (w_fuses : q.keep .fuses = false := by assumption) (w_freeCtr : q.keep .freeCtr = false := by assumption) : GoodO q (Sys2Proof.Machine.execErrCodeClr fn page edge s) := by
  unfold Sys2Proof.Machine.execErrCodeClr
  repeat' first
    | with_reducible assumption
    | with_reducible apply goodO_next
    | intro _
    | with_reducible apply State_setPage_good
    | with_reducible apply mmio_good
    | with_reducible apply State_captureOpen_good
    | with_reducible apply State_fuseTouch_good
    | with_reducible apply good_foldl
    | with_reducible apply good_foldl_fst
    | split

theorem execEvtStatClear_good {q : Kept} (fn : Nat) (page : Nat) (mask : Nat) (edges : Nat) {s : State} (h : Good q s) (w_regs : q.keep .regs = false := by assumption) (w_pages : q.keep .pages = false := by assumption) (w_msgs : q.keep .msgs = false := by assumption) (w_fuses : q.keep .fuses = false := by assumption) : GoodO q (Sys2Proof.Machine.execEvtStatClear fn page mask edges s) := by
  unfold Sys2Proof.Machine.execEvtStatClear
  repeat' first
    | with_reducible assumption
    | with_reducible apply goodO_next
    | intro _
    | with_reducible apply State_setPage_good
    | with_reducible apply State_sendMsg_good
    | with_reducible apply mmio_good
    | with_reducible apply State_fuseTouch_good
    | with_reducible apply good_foldl
    | with_reducible apply good_foldl_fst
    | split

theorem State_enablePage_good {q : Kept} {s : State} (page : Nat) (en : Bool) (h : Good q s) (w_regs : q.keep .regs = false := by assumption) (w_pages : q.keep .pages = false := by assumption) (w_work : q.keep .work = false := by assumption) : Good q (Sys2Proof.Machine.State.enablePage s page en) := by
  unfold Sys2Proof.Machine.State.enablePage
  repeat' first
    | with_reducible assumption
    | with_reducible apply goodO_next
    | intro _
    | with_reducible apply State_rehome_good
    | with_reducible apply State_setService_good
    | with_reducible apply State_setPage_good
    | with_reducible apply good_foldl
    | with_reducible apply good_foldl_fst
    | split

theorem execBlkEnable_good {q : Kept} (fn : Nat) (page : Nat) (en : Bool) {s : State} (h : Good q s) (w_regs : q.keep .regs = false := by assumption) (w_pages : q.keep .pages = false := by assumption) (w_msgs : q.keep .msgs = false := by assumption) (w_fuses : q.keep .fuses = false := by assumption) (w_work : q.keep .work = false := by assumption) : GoodO q (Sys2Proof.Machine.execBlkEnable fn page en s) := by
  unfold Sys2Proof.Machine.execBlkEnable
  repeat' first
    | with_reducible assumption
    | with_reducible apply goodO_next
    | intro _
    | with_reducible apply State_enablePage_good
    | with_reducible apply State_fuseTouch_good
    | with_reducible apply mmio_good
    | with_reducible apply State_refuseWrite_good
    | with_reducible apply good_foldl
    | with_reducible apply good_foldl_fst
    | split

theorem execBlkLock_good {q : Kept} (fn : Nat) (page : Nat) {s : State} (h : Good q s) (w_regs : q.keep .regs = false := by assumption) (w_pages : q.keep .pages = false := by assumption) (w_msgs : q.keep .msgs = false := by assumption) (w_fuses : q.keep .fuses = false := by assumption) : GoodO q (Sys2Proof.Machine.execBlkLock fn page s) := by
  unfold Sys2Proof.Machine.execBlkLock
  repeat' first
    | with_reducible assumption
    | with_reducible apply goodO_next
    | intro _
    | with_reducible apply State_setPage_good
    | with_reducible apply mmio_good
    | with_reducible apply State_fuseTouch_good
    | with_reducible apply good_foldl
    | with_reducible apply good_foldl_fst
    | split

theorem State_softState_good {q : Kept} {s : State} (page : Nat) (h : Good q s) (w_regs : q.keep .regs = false := by assumption) (w_pages : q.keep .pages = false := by assumption) (w_captures : q.keep .captures = false := by assumption) (w_time : q.keep .time = false := by assumption) (w_msgs : q.keep .msgs = false := by assumption) (w_host : q.keep .host = false := by assumption) (w_faultLog : q.keep .faultLog = false := by assumption) (w_ws : q.keep .ws = false := by assumption) (w_act : q.keep .act = false := by assumption) (w_hbm : q.keep .hbm = false := by assumption) (w_caches : q.keep .caches = false := by assumption) (w_mem : q.keep .mem = false := by assumption) (w_sluice : q.keep .sluice = false := by assumption) (w_sync : q.keep .sync = false := by assumption) (w_work : q.keep .work = false := by assumption) (w_link : q.keep .link = false := by assumption) (w_freeCtr : q.keep .freeCtr = false := by assumption) : Good q (Sys2Proof.Machine.State.softState s page) := by
  unfold Sys2Proof.Machine.State.softState
  repeat' first
    | with_reducible assumption
    | with_reducible apply goodO_next
    | intro _
    | with_reducible apply State_ringGivesBack_good
    | with_reducible apply State_ringOff_good
    | with_reducible apply State_tripleReset_good
    | with_reducible apply State_coreChanges_good
    | with_reducible apply State_setService_good
    | with_reducible apply State_setColumns_good
    | with_reducible apply State_setHolders_good
    | with_reducible apply State_flushRange_good
    | with_reducible apply State_flag_good
    | with_reducible apply good_foldl
    | with_reducible apply good_foldl_fst
    | split
    | with_reducible refine good_fst (by assumption) ?_
    | with_reducible refine good_snd (by assumption) ?_
    | with_reducible refine good_snd2 (by assumption) ?_
    | dsimp only
    | with_reducible refine good_mk (t := _) ?_ rfl rfl rfl rfl rfl rfl rfl rfl

theorem State_softAfter_good {q : Kept} {s : State} (before : State) (page : Nat) (h : Good q s) (w_regs : q.keep .regs = false := by assumption) (w_pages : q.keep .pages = false := by assumption) (w_msgs : q.keep .msgs = false := by assumption) (w_sync : q.keep .sync = false := by assumption) (w_work : q.keep .work = false := by assumption) (w_link : q.keep .link = false := by assumption) : Good q (Sys2Proof.Machine.State.softAfter s before page) := by
  unfold Sys2Proof.Machine.State.softAfter
  repeat' first
    | with_reducible assumption
    | with_reducible apply goodO_next
    | intro _
    | with_reducible apply State_raiseEdge_good
    | with_reducible apply State_setCounter_good
    | with_reducible apply State_poolWatch_good
    | with_reducible apply State_refresh_good
    | with_reducible apply State_groupRefresh_good
    | with_reducible apply State_skewRefresh_good
    | with_reducible apply State_strapSpeed_good
    | with_reducible apply State_digestStale_good
    | with_reducible apply good_foldl
    | with_reducible apply good_foldl_fst
    | split

theorem State_softReset_good {q : Kept} {s : State} (page : Nat) (h : Good q s) (w_regs : q.keep .regs = false := by assumption) (w_pages : q.keep .pages = false := by assumption) (w_captures : q.keep .captures = false := by assumption) (w_time : q.keep .time = false := by assumption) (w_msgs : q.keep .msgs = false := by assumption) (w_host : q.keep .host = false := by assumption) (w_faultLog : q.keep .faultLog = false := by assumption) (w_ws : q.keep .ws = false := by assumption) (w_act : q.keep .act = false := by assumption) (w_hbm : q.keep .hbm = false := by assumption) (w_caches : q.keep .caches = false := by assumption) (w_mem : q.keep .mem = false := by assumption) (w_sluice : q.keep .sluice = false := by assumption) (w_sync : q.keep .sync = false := by assumption) (w_work : q.keep .work = false := by assumption) (w_link : q.keep .link = false := by assumption) (w_freeCtr : q.keep .freeCtr = false := by assumption) : Good q (Sys2Proof.Machine.State.softReset s page) := by
  unfold Sys2Proof.Machine.State.softReset
  repeat' first
    | with_reducible assumption
    | with_reducible apply goodO_next
    | intro _
    | with_reducible apply State_softAfter_good
    | with_reducible apply State_softState_good
    | with_reducible apply State_setColumns_good
    | with_reducible apply State_setPage_good
    | with_reducible apply good_foldl
    | with_reducible apply good_foldl_fst
    | split
    | with_reducible refine good_fst (by assumption) ?_
    | with_reducible refine good_snd (by assumption) ?_
    | with_reducible refine good_snd2 (by assumption) ?_
    | dsimp only
    | with_reducible refine good_mk (t := _) ?_ rfl rfl rfl rfl rfl rfl rfl rfl

theorem execSoftReset_good {q : Kept} (fn : Nat) (page : Nat) (v : Nat) {s : State} (h : Good q s) (w_regs : q.keep .regs = false := by assumption) (w_pages : q.keep .pages = false := by assumption) (w_captures : q.keep .captures = false := by assumption) (w_time : q.keep .time = false := by assumption) (w_stall : q.keep .stall = false := by assumption) (w_msgs : q.keep .msgs = false := by assumption) (w_host : q.keep .host = false := by assumption) (w_fuses : q.keep .fuses = false := by assumption) (w_faultLog : q.keep .faultLog = false := by assumption) (w_ws : q.keep .ws = false := by assumption) (w_act : q.keep .act = false := by assumption) (w_hbm : q.keep .hbm = false := by assumption) (w_caches : q.keep .caches = false := by assumption) (w_mem : q.keep .mem = false := by assumption) (w_sluice : q.keep .sluice = false := by assumption) (w_sync : q.keep .sync = false := by assumption) (w_work : q.keep .work = false := by assumption) (w_link : q.keep .link = false := by assumption) (w_freeCtr : q.keep .freeCtr = false := by assumption) : GoodO q (Sys2Proof.Machine.execSoftReset fn page v s) := by
  unfold Sys2Proof.Machine.execSoftReset
  repeat' first
    | with_reducible assumption
    | with_reducible apply goodO_next
    | intro _
    | with_reducible apply State_softReset_good
    | with_reducible apply State_enablePage_good
    | with_reducible apply State_fuseTouch_good
    | with_reducible apply State_resume_good
    | with_reducible apply State_openPage_good
    | with_reducible apply State_closePage_good
    | with_reducible apply mmio_good
    | with_reducible apply State_refuseWrite_good
    | with_reducible apply good_foldl
    | with_reducible apply good_foldl_fst
    | split

theorem State_startTicks_good {q : Kept} {s : State} (h : Good q s) (w_regs : q.keep .regs = false := by assumption) (w_time : q.keep .time = false := by assumption) (w_work : q.keep .work = false := by assumption) : Good q (Sys2Proof.Machine.State.startTicks s) := by
  unfold Sys2Proof.Machine.State.startTicks
  repeat' first
    | with_reducible assumption
    | with_reducible apply goodO_next
    | intro _
    | with_reducible apply State_releaseLists_good
    | with_reducible apply State_flag_good
    | with_reducible apply good_foldl
    | with_reducible apply good_foldl_fst
    | split
    | with_reducible refine good_fst (by assumption) ?_
    | with_reducible refine good_snd (by assumption) ?_
    | with_reducible refine good_snd2 (by assumption) ?_
    | dsimp only
    | with_reducible refine good_mk (t := _) ?_ rfl rfl rfl rfl rfl rfl rfl rfl

theorem execTickEnWrite_good {q : Kept} (fn : Nat) (en : Bool) {s : State} (h : Good q s) (w_regs : q.keep .regs = false := by assumption) (w_pages : q.keep .pages = false := by assumption) (w_time : q.keep .time = false := by assumption) (w_msgs : q.keep .msgs = false := by assumption) (w_work : q.keep .work = false := by assumption) : GoodO q (Sys2Proof.Machine.execTickEnWrite fn en s) := by
  unfold Sys2Proof.Machine.execTickEnWrite
  repeat' first
    | with_reducible assumption
    | with_reducible apply goodO_next
    | intro _
    | with_reducible apply State_flag_good
    | with_reducible apply mmio_good
    | with_reducible apply State_startTicks_good
    | with_reducible apply good_foldl
    | with_reducible apply good_foldl_fst
    | split

theorem State_reachTick_good {q : Kept} {s : State} (i : Nat) (h : Good q s) (w_regs : q.keep .regs = false := by assumption) (w_time : q.keep .time = false := by assumption) : Good q (Sys2Proof.Machine.State.reachTick s i) := by
  unfold Sys2Proof.Machine.State.reachTick
  repeat' first
    | with_reducible assumption
    | with_reducible apply goodO_next
    | intro _
    | with_reducible apply State_pass_good
    | with_reducible apply good_foldl
    | with_reducible apply good_foldl_fst
    | split

theorem State_deliverTick_good {q : Kept} {s : State} (i : Nat) (h : Good q s) (w_regs : q.keep .regs = false := by assumption) (w_pages : q.keep .pages = false := by assumption) (w_time : q.keep .time = false := by assumption) (w_msgs : q.keep .msgs = false := by assumption) (w_work : q.keep .work = false := by assumption) (w_link : q.keep .link = false := by assumption) : Good q (Sys2Proof.Machine.State.deliverTick s i) := by
  unfold Sys2Proof.Machine.State.deliverTick
  repeat' first
    | with_reducible assumption
    | with_reducible apply goodO_next
    | intro _
    | with_reducible apply State_epochTick_good
    | with_reducible apply State_armTick_good
    | with_reducible apply State_releaseLists_good
    | with_reducible apply good_foldl
    | with_reducible apply good_foldl_fst
    | split
    | with_reducible refine good_fst (by assumption) ?_
    | with_reducible refine good_snd (by assumption) ?_
    | with_reducible refine good_snd2 (by assumption) ?_
    | dsimp only
    | with_reducible refine good_mk (t := _) ?_ rfl rfl rfl rfl rfl rfl rfl rfl

theorem execTickDelivery_good {q : Kept} {s : State} (h : Good q s) (w_regs : q.keep .regs = false := by assumption) (w_pages : q.keep .pages = false := by assumption) (w_time : q.keep .time = false := by assumption) (w_msgs : q.keep .msgs = false := by assumption) (w_work : q.keep .work = false := by assumption) (w_link : q.keep .link = false := by assumption) : GoodO q (Sys2Proof.Machine.execTickDelivery s) := by
  unfold Sys2Proof.Machine.execTickDelivery
  repeat' first
    | with_reducible assumption
    | with_reducible apply goodO_next
    | intro _
    | with_reducible apply State_reachTick_good
    | with_reducible apply State_deliverTick_good
    | with_reducible apply good_foldl
    | with_reducible apply good_foldl_fst
    | split

end Sys2Proof.Laws
end

