-- ==== Sys2Proof/Tests/Slice0.lean ====
section
/-!
SUPPORT. Tests: the states that witness the hypotheses of the statements, clause by clause; terms that well-formedness refuses; a few steps and functions
against values from outside the model.
-/

namespace Sys2Proof.Tests

open Sys2Proof Sys2Proof.Machine Sys2Proof.Claims

set_option Elab.async false

/-! ### States -/

/-- Every power domain is ON. -/
def up : State := { State.reset with power := { State.reset.power with doms := [(1, .on), (2, .on), (3, .on), (4, .on), (5, .on), (6, .on), (7, .on)] } }

/-- A task of the first flow, at its first step. -/
def oneTask : Running := { task := { flow := 0, ctx := 0, entry := 0, cost := 0, fn := 0, key := 0, args := [] }, pc := 0, aregs := List.replicate 16 0 }

/-- Core 0 with that task in slot 0 and an image of ten steps. -/
def busyCore : State :=
  (({ up with work := { up.work with images := [(0, { base := 0, len := 1024, stepOff := 64, stepCnt := 10, entryOff := 0, entryCnt := 0, manOff := 0, manCnt := 0, sigOff := 0, alg := 0 })] } }).setRunning 0 0
    (some oneTask))

/-- A plain step header of core 0, slot 0. -/
def hdr0 : StepHdr := ⟨0, 0, false, false, false, 0, 0⟩

/-- A step of core 0 in flight that has not started. -/
def entOf (op : StepOp) (addrs : List Nat) : Entry := { seq := 0, order := 0, step := 0, hdr := hdr0, op := op, addrs := addrs }

/-- A reference to the activation store. -/
def asRef (off : Nat) : OpRef := ⟨off, 1, 0, 64⟩

/-- Core 0 with a step that has run. -/
def ranCore : State := busyCore.setRunning 0 0 (some { oneTask with window := [{ entOf (.flagsOut (asRef 0)) [0] with phase := .ran, writes := [(1, 0, [0, 0, 0, 0])] }] })

/-- A MATMUL and a MATVEC of no work. -/
def mm0 : MatmulStep := { plane := asRef 0, bcast := asRef 0, dst := asRef 0, init := asRef 0, k := 0, n := 0, vcnt := 0, mode := 0, axisT := false, gang := 0, share := 0, lead := 0, xpose := false, initEn := false, rnd := false, ovfm := false, blk := 0, pfmt := 0, bfmt := 0, ofmt := 0, seed := 0 }

def mv0 : MatvecStep := { wgt := asRef 0, vec := asRef 0, dst := asRef 0, init := asRef 0, k := 0, n := 0, nvec := 0, initEn := false, rnd := false, ovfm := false, axisT := false, wfmt := 0, vfmt := 0, ofmt := 0, seed := 0 }

/-- A MATMUL that runs on array 0. -/
def arrEntry : Entry := { entOf (.matmul mm0) [] with phase := .ran, units := [0] }

def arrTask : Running := { oneTask with window := [arrEntry] }

/-- A saved task, and core 0 with its record and token. -/
def savedTask : Saved := { run := oneTask, token := [0, 0, 0, 0], raw := [], order := 0 }

def savedCore : State := { up with work := { up.work with saves := [(0, savedTask)] } }

/-- A flow of group 0 with one task, which a get of core 0 waits for; context 0 has an image of one entry. -/
def readyGet : State :=
  ((((((({ up with work := { up.work with
            gets := [(0, 0)], images := [(0, { base := 0, len := 1024, stepOff := 64, stepCnt := 10, entryOff := 0, entryCnt := 1, manOff := 0, manCnt := 0, sigOff := 0, alg := 0, entries := [0] })] } }.set
    FT_CORE_ADM 1).set (SLOT_GRP 0 0) 1).set (FN_SCHED_GRP_MASK 0) 1).set (GRP_W 0) 1).flag (CTX_CTRL_ENABLE 0 0) true).flag (CTX_STAT_LOADED 0 0) true).flag (FLOW_ANY 0) true).joinFlow oneTask.task

/-- Chain 0 with a descriptor and an active mark 2. -/
def aChain : State :=
  up.setChain 0 { up.chain 0 with desc := some { length := 4, reserve := 0, src := 0, srcPort := 0, sink := 0, sinkPort := 0, slot := 1, pay := 0 }, marks := [(2, (0, 0))] } |>.flag (CH_ENABLE 0) true

/-- Channel 0 is applied and enabled; a POST step waits for it. -/
def postWait : State :=
  ((up.setRunning 0 0 (some { oneTask with window := [entOf (.post 0 0 (List.replicate 32 0)) []] })).setChannel 0
    { up.channel 0 with cfg := some { quota := 4, min := 0, spill := false, base := 0, size := 0 }, waiters := [(0, 0, 0, 0)] }).flag (CHN_CTRL_ENABLE 0) true

/-- Flow 0 is BLOCKED, its failed task in service. -/
def blockedFlow : State := (up.setFlow 0 { up.flow 0 with service := some oneTask.task }).set (FLOW_STATE 0) 4

/-- Every power domain is ON, every HBM stack is trained, and the first segment of the PF maps 2 MiB at address 0. -/
def memUp : State := ((List.range 6).foldl (fun t k => t.flag (MS_STAT_TRAINED k) true) ((up.set (SEG_LEN 0 0) 1).flag (SEG_FBASE_VALID 0 0) true))

/-- Channel 0 with a spill area at address 0 and one entry in it, of expansion 1. -/
def spilled : State :=
  (memUp.setChannel 0 { up.channel 0 with cfg := some { quota := 4, min := 0, spill := true, base := 0, size := 1 }, ring := [(1, 0, 0)] }).flag (CHN_CTRL_ENABLE 0) true

/-- Chain 0 with its binding on and one READY item of one task in cell 0; channel 0 is open. -/
def itemReady : State :=
  (((({ aChain with work := { aChain.work with cells := [(0, { chain := 0, buf := 0, state := .ready, header := [0, 0, 0, 0, 0, 1] ++ List.replicate 58 0 })] } }.flag
    (CH_TAKE_EN 0) true).flag (BIND_CTL_EN 0) true).set (FN_CHAN_MASK 0) 1).setChannel 0 { up.channel 0 with cfg := some { quota := 4, min := 0, spill := false, base := 0, size := 0 } }).flag
    (CHN_CTRL_ENABLE 0) true

/-- Core 0 owns line 0, dirty. -/
def cachedUp : State :=
  { memUp with mem := { memUp.mem with
      caches := [(0, { lines := [{ line := 0, way := 0, owned := true, dirty := true, dom := 15, fn := 0, data := List.replicate 128 1 }] })],
      dir := [{ line := 0, owner := some 0, sharers := [] }] } }

/-- Key slot 0 holds a secret of the memory class. -/
def secretUp : State := { up with sluice := { up.sluice with slots := [(0, { cls := 6, key := List.replicate 32 1 })] } }

/-- A descriptor: opcode, key index, LEN, AUX_LEN, P0, P1 and IV, its operands in HBM from addresses 0, 0x2000 and 0x1000 on. -/
def descWith (op key len auxLen p0 p1 : Nat) (iv : List Byte) : Desc :=
  { id := 0, fn := 0, ring := 0, index := 0, cq := 0,
    bytes := leBytes 1 op ++ [0] ++ leBytes 2 key ++ leBytes 4 9 ++ leBytes 8 0 ++ leBytes 8 0x2000 ++ leBytes 8 0x1000 ++ leBytes 4 len ++ leBytes 4 auxLen
      ++ leBytes 1 (1 + 4 + 16) ++ leBytes 1 p0 ++ leBytes 2 p1 ++ iv ++ List.replicate (20 - iv.length) 0 }

/-- That descriptor is admitted; key slot 0 holds a key of a class and length; the generator works; the PF may load plain keys. -/
def descUp (d : Desc) (cls n : Nat) : State :=
  { (memUp.flag RNG_STAT_OK true).flag (FN_WIN_PLAIN_OK 0) true with sluice := { up.sluice with descs := [d], slots := [(0, { cls := cls, wrappable := true, key := List.replicate n 1 })] } }

/-- Set 1 with two copies of one line on core 0, READY. -/
def dualCfg : SetCfg := { mode := 2, cores := 1, len := 1, base0 := 0, base1 := 1 }

def dualSet : State := { up with work := { up.work with wsets := [(1, { cfg := some dualCfg })] } }.set (WSET_STAT_STATE 1) 1

/-- An item is bound to copy 0 of set 1. -/
def boundSet : State := { dualSet with work := { dualSet.work with exps := [{ id := 1, fanout := 1, item := none, bound := some (some (1, 0)) }] } }

/-- A fill of set 1 from HBM, on cores 0 and 1, and on core 0 alone. -/
def fillSet : State := { memUp.set W_SET_FN 0 with work := { memUp.work with wsets := [(1, { cfg := some dualCfg, job := some { op := 2, copy := 0, parts := [0, 1] } })] } }

def fillSet1 : State := { memUp.set W_SET_FN 0 with work := { memUp.work with wsets := [(1, { cfg := some dualCfg, job := some { op := 2, copy := 0, parts := [0] } })] } }

/-- Context 0 of core 0 has an image with no manifest entry. -/
def manSet : State :=
  { dualSet with work := { dualSet.work with images := [(0, { base := 0, len := 0, stepOff := 0, stepCnt := 0, entryOff := 0, entryCnt := 0, manOff := 0, manCnt := 0, sigOff := 0, alg := 0 })] } }

/-- The SEAL_CHK descriptor: an empty seal block with header and digest of 32 zero bytes at its AUX operand, read from the host. -/
def sealBlk : List Byte := leBytes 4 0x4C414553 ++ [1, 0, 0, 0] ++ List.replicate 24 0 ++ sha256 (List.replicate 32 0) ++ List.replicate 64 0

/-- The PF has translations of its first three pages. -/
def hostUp (s : State) : State := { s with host := { s.host with translations := [⟨0, 0, true, true⟩, ⟨0, 1, true, true⟩, ⟨0, 2, true, true⟩] } }

/-- A KEY_UNWRAP descriptor whose blob of 40 bytes lies in host memory, and a SEAL_CHK descriptor whose seal block does. -/
def wrapDesc : Desc := { descWith 0x19 0 40 0 1 5 [] with bytes := (descWith 0x19 0 40 0 1 5 []).bytes.set 40 20 }

def wrapUp : State := hostUp (descUp wrapDesc 4 32)

def sealDesc0 : Desc := { descWith 0x31 0 32 128 0 0 [] with bytes := (descWith 0x31 0 32 128 0 0 []).bytes.set 40 5 }

def sealUp : State := hostUp (descUp sealDesc0 9 64)

/-- A CURVE_LOAD descriptor for table 2 with a block of 152 bytes in host memory. -/
def curveDesc : Desc := { descWith 0x2B 0 152 0 0x20 0 [] with bytes := (descWith 0x2B 0 152 0 0x20 0 []).bytes.set 40 20 }


/-- A run of a long operation on a unit of the public-key engine. -/
def longRun : PkeRun := { job := { use := .desc 0, fn := 0, op := 0x28, long := true }, out := { st := .ok } }

/-- Chain 0 is a host chain with a ring of 16 entries, its base at page 0, its buffers from page 16 on; its area in HBM starts at 0. `entry` in its first cell is READY. -/
def ringUp (src sink : Nat) : State :=
  ((((hostUp memUp).setChain 0 { desc := some { length := 4, reserve := 4, src := src, srcPort := 0, sink := sink, sinkPort := 0, slot := 1, pay := 0 } }).flag (CH_ENABLE 0) true).set
    (HR_SIZE 0) 16).set (HR_BUF_LO 0) 16

/-- An inbound ring with one entry posted. -/
def inRing : State := ((ringUp 2 0).flag (HR_CTRL_ENABLE 0) true).set (HR_PI 0) 1

/-- An inbound ring whose entry is in progress, its item in cell 0. -/
def inBusy : State :=
  { inRing.setRing 0 { cell := some 0, busy := true } with
    work := { inRing.work with cells := [(0, { chain := 0, buf := 0, state := .building, header := List.replicate 64 0 })] },
    host := { (inRing.setRing 0 { cell := some 0, busy := true }).host with reads := [⟨0, 0, 2, 0x10000, 4, .ringPayload 0⟩], nextRead := 1 } }

/-- An outbound ring whose chain has a READY item of four bytes. -/
def outRing : State :=
  let t := (((ringUp 0 2).flag (HR_CTRL_ENABLE 0) true).flag (HR_STAT_DIR 0) true).flag (CH_TAKE_EN 0) true
  { t with work := { t.work with cells := [(0, { chain := 0, buf := 0, state := .ready, header := [4, 0, 0, 0] ++ List.replicate 60 0 })] } }

/-- An outbound ring that has delivered one item. -/
def outSent : State :=
  let t := (((ringUp 0 2).flag (HR_CTRL_ENABLE 0) true).flag (HR_STAT_DIR 0) true).set (HR_PI 0) 1
  { t.setRing 0 { delivered := [(0, 0)] } with work := { t.work with cells := [(0, { chain := 0, buf := 0, state := .inUse, header := [4, 0, 0, 0] ++ List.replicate 60 0 })] } }

/-- The outbound ring of `outRing` has taken its item, has read its payload, has written it, has written its entry. -/
def outCell : Cell := { chain := 0, buf := 0, state := .ready, header := [4, 0, 0, 0] ++ List.replicate 60 0 }

def outTaken : State := (outRing.takeCell 0 outCell).setRing 0 { cell := some 0 }

def out1 : State := (outTaken.hbmRead (.home 2) 0 0 0 0 4).1

def out2 : State := (out1.hostWrite 0 3 0x10000 (outTaken.hbmRead (.home 2) 0 0 0 0 4).2.2).1

def out3 : State := (out2.hostWrite 0 3 0 (out2.ringRecord { outCell with state := .inUse })).1

/-- The PF owes the message of the CHIP page, whose event shows and is enabled; vector 0 is unmasked and routed. -/
def owing : State :=
  { up.setPage 0 { up.page 0 with evtStat := 1, evtEn := 1 } with host := { up.host with msixEnabled := [0], unmasked := [0], owed := [0], routes := [(0, { vector := 0, en := true })] } }

/-- One VF, READY. -/
def vfUp : State := { up with host := { up.host with vfs := 1 } }.set (TN_STAT_STATE 1) 1

/-- That VF holds the first page triple. -/
def triUp : State := vfUp.set (TG_PAGES_QPAGES 1) 1

/-- That VF's writes are logged in a ring of 64 entries. -/
def dlUp : State := (vfUp.flag (TDL_CTRL_EN 1) true).set (TDL_SIZE 1) 64

/-- Port 0 in a state, lanes 0 to 7 in its mask, the digest valid, the generator working. -/
def portIn (st : Nat) : State := ((((up.set (PORT_STAT_STATE 0) st).set (PORT_LANES_LANE_MASK 0) 255).flag GRP_STAT_DIGEST_VALID true).flag RNG_STAT_OK true)

/-- Port 0 in DATA with credits. -/
def dataUp : State := (((portIn 5).set (PORT_LANES_LANE_ACTIVE 0) 255).set (PORT_LANES_LANE_LOCK 0) 255).setPort 0 { credits := (512, 384, 128) }

/-- The header of an expected flit. -/
def fh0 : FlitHdr := ⟨0, 0, 0, 3⟩

/-- A write and a signal from member 1, for member 0. -/
def lw0 : LinkWrite := { dest := 0, origin := 1, lf := 0, flow := 3, fn := 0, seq := 0, off := 0, len := 4 }

def ls0 : LinkSignal := { dest := 0, origin := 1, ctr := 256, value := 1, flow := 3, fn := 0, seq := 0 }

def ln0 : LinkNotice := { dest := 0, reporter := 1, status := 0x11, kind := 1, flow := 3, fn := 0, seq := 0, ref := 0, ts := 0 }

/-- A flit in a replay buffer that carries the start of write `lw0`. -/
def rep0 : Replay := ⟨0, 1, { port := 0, seq := some 0, ack := 0, count := 0, vc := 2, body := .lwrHead lw0 [] }, .write { lw0 with origin := 0 }⟩

def replayUp : State := dataUp.setPort 0 { dataUp.port 0 with tx := 1, replay := [rep0] }

/-- Chain 0 is fed by port 0, mapped from sending chain 0; memory is up. -/
def linkChain : State :=
  let t := (((memUp.set (PORT_STAT_STATE 0) 5).setPort 0 { credits := (512, 384, 128) }).setChain 0
    { desc := some { length := 4, reserve := 4, src := 1, srcPort := 0, sink := 0, sinkPort := 0, slot := 1, pay := 0 } }).flag (CH_ENABLE 0) true
  t.flag (RX_CHAIN_MAP_VALID 0 0) true

def itemHdr (n : Nat) : List Byte := leBytes 4 n ++ List.replicate 60 0

/-- An item of four bytes is arriving, its cell taken. -/
def arriving : State :=
  { linkChain.setPort 0 { linkChain.port 0 with arrival := some { member := 0, src := 0, enq := 0, flow := 0, chain := 0, cell := some 0, header := itemHdr 4, len := 4, bytes := [1] } } with
    work := { linkChain.work with cells := [(0, { chain := 0, buf := 0, state := .building, header := itemHdr 4 })] } }

/-- Chain 0 is taken by port 0 and has a READY item of four bytes. -/
def sinkChain : State :=
  let t := ((memUp.set (PORT_STAT_STATE 0) 5).setPort 0 { credits := (512, 384, 128) }).setChain 0
    { desc := some { length := 4, reserve := 4, src := 0, srcPort := 0, sink := 1, sinkPort := 0, slot := 1, pay := 0 } }
  let t := (t.flag (CH_ENABLE 0) true).flag (CH_TAKE_EN 0) true
  { t with work := { t.work with cells := [(0, { chain := 0, buf := 0, state := .ready, header := itemHdr 4 })] } }

def arrDone : State := ((arriving.setPort 0 { arriving.port 0 with arrival := none }).owe 0 0 1)

/-- Link flow 0 is open for any sender at address 0. -/
def linkFlow : State := (((memUp.flag (LF_RX1_EN 0) true).flag (LF_RX1_ANY_SRC 0) true).set (LF_RX1_LEN 0) 1).set (LF_RX0_FN 0) 0

/-- Port 0 has taken that item. -/
def sinkSend : State := sinkChain.setPort 0 { sinkChain.port 0 with sending := some (0, 0, none) }

/-- The state at HOST_UP: the supplies are good, PD_HOST is ON, no other domain is. -/
def hostOn : State :=
  ((({ State.reset with power := { State.reset.power with pins := { io := true, mem := true, coreA := true, coreB := true }, fusesLoaded := true } }).setDom 1 .on).set SU_STATE 2)

/-- Every domain is ON and READY shows, the supplies are good. -/
def readyUp : State :=
  ({ up with power := { up.power with pins := { io := true, mem := true, coreA := true, coreB := true }, fusesLoaded := true, perstLow := false, sluiceSelfTest := true } }).set SU_STATE 4

/-- Weight set 0 has two copies on core 0, which is not admitted; a REFILL of copy 1 from HBM is in progress. -/
def refillUp : State := ({ memUp with work := { memUp.work with wsets := [(0, { cfg := some { mode := 2, cores := 1, len := 1, base0 := 0, base1 := 1 } })] } }).set W_SET_FN 0

def refilling : State := ({ refillUp with power := { refillUp.power with ftJob := some (.refill 0 0 1 0 0) } }).flag FT_STAT_BUSY true

def testing : State := ({ up with power := { up.power with ftJob := some (.arrayTest 0 1) } }).flag FT_STAT_BUSY true

/-- The FUSE page is unlocked. -/
def fuseUp : State := up.unlocked true

/-- A burn of the root-key epoch is in progress. -/
def burnUp : State := fuseUp.burn 3 0 0 0 0 64

/-- Core 0 is idle and its die's spare has passed; the FUSE page is unlocked. -/
def remapUp : State := ((fuseUp.set FT_SLOT_PASS 0x3FFFF).set FU_CORE_MAP0 0x76543210).setPage 0x100 { fuseUp.page 0x100 with quiesceReq := true, quiesced := true }

/-- A patch's read times out. -/
def patchTimeout : State × Status × List Byte :=
  (((hostOn.set PATCH_LEN 128).flag PATCH_CTRL_BUSY true).drawFree.2).hostFetch 0 (hostOn.drawFree.1 % 16) (hostOn.pair PATCH_ADDR_LO PATCH_ADDR_HI) 128 .timeout

/-! ### Each statement's hypotheses are met -/

/-- States and operands that meet the hypotheses of each clause of TimebaseLoadAndPulse. -/
theorem witness_TimebaseLoadAndPulse :
    (∃ (s : State), s.on TB_CTRL_PPS_EN = false) ∧
    (∃ (s : State), s.on TB_CTRL_PPS_EN = true) ∧
    (∃ (en : Bool) (s : State), en ≠ s.on TB_CTRL_PPS_EN) ∧
    (∃ (s : State), s.time.rise.isSome = true) :=
  ⟨⟨up, by decide +kernel⟩,
   ⟨(up.flag TB_CTRL_PPS_EN true), by decide +kernel⟩,
   ⟨true, up, by decide +kernel⟩,
   ⟨{ up with time := { up.time with rise := some (⟨0, 0⟩, 0) } }, by decide +kernel⟩⟩

/-- States and operands that meet the hypotheses of each clause of PpsEdgesDisciplineTheTimebase. -/
theorem witness_PpsEdgesDisciplineTheTimebase :
    (∃ (captured : Ts) (clock : Nat) (s : State), s.time.rise = some (captured, clock) ∧ s.on TB_CTRL_PPS_EN = true ∧ s.on TB_STAT_ARMED = false ∧ s.on TB_STAT_LOADED_ONCE = true ∧ (ppsError s captured).natAbs ≤ s.get TB_PPS_WINDOW) ∧
    (∃ (captured : Ts) (clock : Nat) (s : State), s.time.rise = some (captured, clock) ∧ s.on TB_CTRL_PPS_EN = true ∧ s.on TB_STAT_ARMED = false ∧ s.on TB_STAT_LOADED_ONCE = true ∧ s.get TB_PPS_WINDOW < (ppsError s captured).natAbs) ∧
    (∃ (captured : Ts) (clock : Nat) (s : State), s.time.rise = some (captured, clock) ∧ s.on TB_CTRL_PPS_EN = true ∧ s.on TB_STAT_ARMED = true) ∧
    (∃ (s : State), 0 < s.time.hold ∧ s.tbIncrement ≠ 0) ∧
    (∃ (clock : Nat) (s : State), s.time.accepted = some clock ∧ s.on TB_CTRL_PPS_EN = true) ∧
    (∃ (s : State), s.on TB_CTRL_TICK_EN = true ∧ s.on TB_STAT_SKEW_HOLD = false ∧ s.stall = false) ∧
    (∃ (s : State), s.pageOn 2 = true ∧ s.on TB_CTRL_TICK_EN = false) ∧
    (∃ (s : State), s.pageOn 2 = true ∧ s.on TB_CTRL_TICK_EN = true) :=
  ⟨⟨⟨0, 0⟩, 0, { ((up.flag TB_CTRL_PPS_EN true).flag TB_STAT_LOADED_ONCE true) with time := { up.time with rise := some (⟨0, 0⟩, 0) } }, by decide +kernel⟩,
   ⟨⟨0, 5000⟩, 0, { ((up.flag TB_CTRL_PPS_EN true).flag TB_STAT_LOADED_ONCE true) with time := { up.time with rise := some (⟨0, 5000⟩, 0) } }, by decide +kernel⟩,
   ⟨⟨0, 0⟩, 0, { ((up.flag TB_CTRL_PPS_EN true).flag TB_STAT_ARMED true) with time := { up.time with rise := some (⟨0, 0⟩, 0) } }, by decide +kernel⟩,
   ⟨{ up with time := { up.time with hold := 8 } }, by decide +kernel⟩,
   ⟨0, { (up.flag TB_CTRL_PPS_EN true) with time := { up.time with accepted := some 0 } }, by decide +kernel⟩,
   ⟨(up.flag TB_CTRL_TICK_EN true), by decide +kernel⟩,
   ⟨up, by decide +kernel⟩,
   ⟨(up.flag TB_CTRL_TICK_EN true), by decide +kernel⟩⟩

/-- States and operands that meet the hypotheses of each clause of ThrottleStallAndResume. -/
theorem witness_ThrottleStallAndResume :
    (∃ (ns : Nat) (s : State), 5 ≤ ns ∧ s.stall = false) ∧
    (∃ (ns : Nat), ns < 5) ∧
    (∃ (s : State), s.pageOn 1 = true ∧ s.stall = true ∧ s.power.vrAlertHigh = true) ∧
    (∃ (s : State), s.stall = true ∧ s.power.vrAlertHigh = false ∧ s.pageOn 1 = true) :=
  ⟨⟨5, up, by decide +kernel⟩,
   ⟨4, by decide +kernel⟩,
   ⟨{ up with stall := true }, by decide +kernel⟩,
   ⟨{ up with stall := true, power := { up.power with vrAlertHigh := false } }, by decide +kernel⟩⟩

/-- States and operands that meet the hypotheses of each clause of CounterOperations. -/
theorem witness_CounterOperations :
    (∃ (fn : Nat) (c : Nat) (s : State), s.Reaches fn (ctrPage c) ∧ s.ctrHolder c = fn ∧ s.ctrQuiet c = false ∧ s.Flowing) ∧
    (∃ (fn : Nat) (s : State), s.Reaches fn 0x210 ∧ s.Flowing) :=
  ⟨⟨0, 5, up, by decide +kernel⟩,
   ⟨0, up, by decide +kernel⟩⟩

/-- States and operands that meet the hypotheses of each clause of CounterBlocksAndArrayCounts. -/
theorem witness_CounterBlocksAndArrayCounts :
    (∃ (fn : Nat) (r : Nat) (v : Nat) (s : State), s.Reaches fn 0x210 ∧ s.Flowing ∧ r < 8 ∧ s.holdersOk r v = true) ∧
    (∃ (fn : Nat) (r : Nat) (v : Nat) (s : State), s.Reaches fn 0x210 ∧ s.Flowing ∧ s.holdersOk r v = false) ∧
    (∃ (fn : Nat) (b : Nat) (s : State), s.Reaches fn 0x210 ∧ s.Flowing ∧ s.sync.clearing = none ∧ s.blockWaits (b % 64) = []) ∧
    (∃ (b : Nat) (s : State), s.Awake 0x210 ∧ s.sync.clearing = some b) ∧
    (∃ (core : Nat) (array : Nat) (s : State), s.Awake (arrayPage core array) ∧ s.on (MA_SHADOW_ACTIVE core array) = true) ∧
    (∃ (fn : Nat) (core : Nat) (array : Nat) (i : Nat) (v : Nat) (s : State), s.Reaches fn (arrayPage core array) ∧ i ≤ 2 ∧ (s.page (arrayPage core array)).quiesced = true ∧ 56 ≤ (presented (s.newColumns core array i v)).length) ∧
    (∃ (fn : Nat) (core : Nat) (array : Nat) (s : State), s.Reaches fn (arrayPage core array) ∧ s.Flowing) ∧
    (∃ (fn : Nat) (core : Nat) (s : State), s.Reaches fn (0x105 + 16 * core) ∧ s.Flowing) ∧
    (∃ (fn : Nat) (core : Nat) (s : State), s.Reaches fn (0x106 + 16 * core) ∧ s.Flowing) :=
  ⟨⟨0, 1, 0, up, by decide +kernel⟩,
   ⟨0, 0, 1, up, by decide +kernel⟩,
   ⟨0, 3, up, by decide +kernel⟩,
   ⟨3, { up with sync := { up.sync with clearing := some 3 } }, by decide +kernel⟩,
   ⟨0, 0, (up.flag (MA_SHADOW_ACTIVE 0 0) true), by decide +kernel⟩,
   ⟨0, 0, 0, 0, 1, (up.setPage 0x101 { quiesced := true }), by decide +kernel⟩,
   ⟨0, 0, 0, up, by decide +kernel⟩,
   ⟨0, 0, up, by decide +kernel⟩,
   ⟨0, 0, up, by decide +kernel⟩⟩

/-- States and operands that meet the hypotheses of each clause of StepCommandsAreFetched. -/
theorem witness_StepCommandsAreFetched :
    (∃ (c : Instr) (h : StepHdr) (op : StepOp) (r : Running) (s : State), stepOf c = some (h, op) ∧ s.pageOn (seqPage h.core) = true ∧ s.running h.core h.slot = some r ∧ r.fetches = true) :=
  ⟨(.nop ⟨0, 0, false, false, false, 0, 0⟩), ⟨0, 0, false, false, false, 0, 0⟩, .nop, oneTask, busyCore, by decide +kernel⟩

/-- States and operands that meet the hypotheses of each clause of StepsIssueAndStart. -/
theorem witness_StepsIssueAndStart :
    (∃ (c : Instr) (h : StepHdr) (op : StepOp) (r : Running) (s : State), stepOf c = some (h, op) ∧ Solo s h.core h.slot r ∧ s.pageOn (seqPage h.core) = true ∧ (issuedEntry s h op r).status = .ok ∧ atOnce op = false ∧ isWait op = false ∧ (issuedState s h op r).canStart h.core (issuedTask s h op r) (issuedEntry s h op r) = true) :=
  ⟨(.flagsOut ⟨0, 0, false, false, false, 0, 0⟩ ⟨0, 1, 0, 0⟩), ⟨0, 0, false, false, false, 0, 0⟩, (.flagsOut ⟨0, 1, 0, 0⟩), oneTask, busyCore, by decide +kernel⟩

/-- States and operands that meet the hypotheses of each clause of SequencerStepsAndWaitsTakeEffect. -/
theorem witness_SequencerStepsAndWaitsTakeEffect :
    (∃ (c : Instr) (h : StepHdr) (op : StepOp) (r : Running) (s : State), stepOf c = some (h, op) ∧ Solo s h.core h.slot r ∧ s.pageOn (seqPage h.core) = true ∧ (issuedEntry s h op r).status = .ok ∧ ownStep op = true ∧ h.sigEn = false ∧ h.last = false ∧ r.task.ctx < 16) ∧
    (∃ (c : Instr) (h : StepHdr) (dec : Bool) (k : Nat) (v : Nat) (r : Running) (s : State), stepOf c = some (h, .wait dec k v) ∧ Solo s h.core h.slot r ∧ s.pageOn (seqPage h.core) = true ∧ (issuedEntry s h (.wait dec k v) r).status = .ok ∧ s.ctrQuiet k = false) ∧
    (∃ (k : Nat) (v : Nat) (s : State), v ≤ (s.counter k).value) ∧
    (∃ (k : Nat) (v : Nat) (s : State), (s.counter k).value < v) :=
  ⟨⟨(.seta ⟨0, 0, false, false, false, 0, 0⟩ 1 7), ⟨0, 0, false, false, false, 0, 0⟩, (.seta 1 7), oneTask, busyCore, by decide +kernel⟩,
   ⟨(.wait ⟨0, 0, false, false, false, 0, 0⟩ 1 7), ⟨0, 0, false, false, false, 0, 0⟩, false, 1, 7, oneTask, busyCore, by decide +kernel⟩,
   ⟨1, 0, up, by decide +kernel⟩,
   ⟨1, 1, up, by decide +kernel⟩⟩

/-- States and operands that meet the hypotheses of each clause of StartedStepsComputeAndComplete. -/
theorem witness_StartedStepsComputeAndComplete :
    (∃ (core : Nat) (r : Running) (e : Entry) (x : XferStep) (o : Operand) (a : Nat) (s : State), (e.op = .load x ∧ x.src.space ≠ 4 ∧ x.src.space ≠ 7 ∨ e.op = .transfer x ∧ x.dst.space ≠ 6) ∧ (s.readOperands core r (readsOf e)).2.1 = .ok ∧ writeOf e = some (o, a)) ∧
    (∃ (core : Nat) (vop : Nat) (r : Running) (e : Entry) (v : VectorStep) (o : Operand) (a : Nat) (s : State), e.op = .vector vop v ∧ (s.readOperands core r (readsOf e)).2.1 = .ok ∧ writeOf e = some (o, a)) ∧
    (∃ (core : Nat) (r : Running) (e : Entry) (m : MatmulStep) (s : State), e.op = .matmul m ∧ e.units ≠ [] ∧ (s.runMatmul core r e m none).2.1 = .ok) ∧
    (∃ (core : Nat) (r : Running) (e : Entry) (m : MatvecStep) (s : State), e.op = .matvec m ∧ (s.runMatvec core r e m none).2.1 = .ok) ∧
    (∃ (e : Entry) (d : OpRef), e.op = .flagsOut d) ∧
    (∃ (k : Nat) (v : Nat) (e : Entry), e.op = .signal k v) ∧
    (∃ (k : Nat) (v : Nat) (e : Entry), e.op = .set k v) ∧
    (∃ (core : Nat) (slot : Nat) (order : Nat) (r : Running) (e : Entry) (s : State), s.Awake (seqPage core) ∧ s.running core slot = some r ∧ r.window.find? (fun x => x.order == order) = some e ∧ s.entryAt core slot e.seq = some (r, e) ∧ s.canComplete core slot r e = true ∧ flushes e.op = false) ∧
    (∃ (core : Nat) (array : Nat) (cause : Nat) (slot : Nat) (r : Running) (e : Entry) (s : State), s.Awake (0x101 + 16 * core + array) ∧ array < 4 ∧ (cause = 1 ∧ s.on (MA_SHADOW_ACTIVE core array) = true ∨ cause = 2 ∨ cause = 3 ∨ cause = 4) ∧ s.unitRun core array = some (slot, r, e)) :=
  ⟨⟨0, oneTask, (entOf (.load ⟨asRef 0, asRef 64, 8, 1, false⟩) [0, 64]), ⟨asRef 0, asRef 64, 8, 1, false⟩, ((writeOf (entOf (.load ⟨asRef 0, asRef 64, 8, 1, false⟩) [0, 64])).get rfl).1, ((writeOf (entOf (.load ⟨asRef 0, asRef 64, 8, 1, false⟩) [0, 64])).get rfl).2, busyCore, by decide +kernel, by decide +kernel, rfl⟩,
   ⟨0, 1, oneTask, (entOf (.vector 1 ⟨asRef 0, asRef 64, asRef 0, asRef 128, 0, 0, 0, 0, false, false, 1, 1, 0, 0⟩) [0, 64, 128]), ⟨asRef 0, asRef 64, asRef 0, asRef 128, 0, 0, 0, 0, false, false, 1, 1, 0, 0⟩, ((writeOf (entOf (.vector 1 ⟨asRef 0, asRef 64, asRef 0, asRef 128, 0, 0, 0, 0, false, false, 1, 1, 0, 0⟩) [0, 64, 128])).get rfl).1, ((writeOf (entOf (.vector 1 ⟨asRef 0, asRef 64, asRef 0, asRef 128, 0, 0, 0, 0, false, false, 1, 1, 0, 0⟩) [0, 64, 128])).get rfl).2, busyCore, by decide +kernel, by decide +kernel, rfl⟩,
   ⟨0, oneTask, { entOf (.matmul mm0) [0, 0, 0, 0] with units := [0] }, mm0, busyCore, by decide +kernel⟩,
   ⟨0, oneTask, (entOf (.matvec mv0) []), mv0, busyCore, by decide +kernel⟩,
   ⟨(entOf (.flagsOut (asRef 0)) [0]), (asRef 0), by decide +kernel⟩,
   ⟨1, 2, (entOf (.signal 1 2) []), by decide +kernel⟩,
   ⟨1, 2, (entOf (.set 1 2) []), by decide +kernel⟩,
   ⟨0, 0, 0, { oneTask with window := [{ entOf (.flagsOut (asRef 0)) [0] with phase := .ran, writes := [(1, 0, [0, 0, 0, 0])] }] }, { entOf (.flagsOut (asRef 0)) [0] with phase := .ran, writes := [(1, 0, [0, 0, 0, 0])] }, ranCore, by decide +kernel⟩,
   ⟨0, 0, 2, 0, arrTask, arrEntry, (busyCore.setRunning 0 0 (some arrTask)), by decide +kernel⟩⟩

/-- States and operands that meet the hypotheses of each clause of SequencerCommands. -/
theorem witness_SequencerCommands :
    (∃ (fn : Nat) (core : Nat) (s : State), s.Reaches fn (seqPage core) ∧ s.Flowing) ∧
    (∃ (core : Nat) (slot : Nat) (k : Nat) (r : Running) (s : State), s.running core slot = some r ∧ r.restore = none ∧ r.preempt = none ∧ r.hard = none ∧ r.aborting = false ∧ s.freeRecord core r.task.ctx = some k) ∧
    (∃ (core : Nat) (slot : Nat) (r : Running) (s : State), s.running core slot = some r ∧ r.window = []) ∧
    (∃ (fn : Nat) (core : Nat) (s : State), s.Reaches fn (seqPage core)) ∧
    (∃ (core : Nat) (slot : Nat) (s : State), s.Awake (seqPage core) ∧ bitOf (s.get (SEQ_CTRL_SLOT_EN core)) slot = true ∧ s.get (SLOT_STAT_STATE core slot) = 1 ∧ s.quiet (seqPage core) = false ∧ s.running core slot = none ∧ (core, slot) ∉ s.work.gets ∧ s.work.resumes = []) ∧
    (∃ (fn : Nat) (core : Nat) (rk : Nat) (v : Saved) (s : State), s.Reaches fn (seqPage core) ∧ s.Flowing ∧ s.tokenRecord core = some (rk, v)) ∧
    (∃ (core : Nat) (s : State), s.Awake (0x100 + 16 * core)) :=
  ⟨⟨0, 0, busyCore, by decide +kernel⟩,
   ⟨0, 0, 0, oneTask, ((busyCore.set (CTX_SAVE_CNT 0 0) 2)), by decide +kernel⟩,
   ⟨0, 0, oneTask, busyCore, by decide +kernel⟩,
   ⟨0, 0, up, by decide +kernel⟩,
   ⟨0, 0, (up.set (SEQ_CTRL_SLOT_EN 0) 15), by decide +kernel⟩,
   ⟨0, 0, 0, savedTask, savedCore, by decide +kernel⟩,
   ⟨0, up, by decide +kernel⟩⟩

/-- States and operands that meet the hypotheses of each clause of PreemptionSavesAndResumes. -/
theorem witness_PreemptionSavesAndResumes :
    (∃ (core : Nat) (slot : Nat) (k : Nat) (r : Running) (s : State), s.Awake (seqPage core) ∧ core < 16 ∧ slot < 4 ∧ r.task.ctx < 16 ∧ k < 8 ∧ s.running core slot = some r ∧ r.preempt = some k ∧ r.window = []) ∧
    (∃ (core : Nat) (slot : Nat) (rk : Nat) (v : Saved) (s : State), s.Awake (seqPage core) ∧ core < 16 ∧ s.work.resumes.find? (fun x => x.1 == core) = some (core, rk) ∧ Map.find s.work.saves rk = some v ∧ (List.range 4).find? (fun i => s.slotState core i == 1) = some slot) ∧
    (∃ (core : Nat) (slot : Nat) (rk : Nat) (r : Running) (v : Saved) (s : State), s.running core slot = some r ∧ Map.find s.work.saves rk = some v ∧ (s.storeRead 1 core (s.recordBase core r.task.ctx (rk % 8)) (4096 + 4 * (r.replay.map Entry.accWords).sum) r.task.flow).2.1 = .ok) :=
  ⟨⟨0, 0, 2, { oneTask with preempt := some 2 }, (busyCore.setRunning 0 0 (some { oneTask with preempt := some 2 })), by decide +kernel⟩,
   ⟨0, 0, 0, savedTask, { savedCore.set (SEQ_CTRL_SLOT_EN 0) 15 with work := { savedCore.work with resumes := [(0, 0)] } }, by decide +kernel⟩,
   ⟨0, 0, 0, { oneTask with restore := some 0 }, savedTask, (savedCore.setRunning 0 0 (some { oneTask with restore := some 0 })), by decide +kernel⟩⟩

/-- States and operands that meet the hypotheses of each clause of ImagesLoad. -/
theorem witness_ImagesLoad :
    (∃ (fn : Nat) (core : Nat) (ctx : Nat) (s : State), s.Reaches fn (seqPage core) ∧ s.Flowing ∧ s.on (CTX_CTRL_ENABLE core ctx) = false ∧ s.ctxActive core ctx = 0 ∧ s.ctxSaved core ctx = 0 ∧ s.on (CTX_STAT_LOADING core ctx) = false ∧ s.loadHeld (s.coreHolder core) (s.get (CTX_IMG_LO core ctx) * 4096 + s.get (CTX_IMG_HI core ctx) * 2 ^ 32) = false ∧ s.sluiceHeld = false ∧ s.pkeWaits = false) ∧
    (∃ (fn : Nat) (core : Nat) (ctx : Nat) (s : State), s.Reaches fn (seqPage core) ∧ s.Flowing ∧ s.on (CTX_CTRL_ENABLE core ctx) = true) ∧
    (∃ (core : Nat) (ctx : Nat) (i : Image) (s : State), s.Awake (seqPage core) ∧ Map.find s.work.loading (core * 16 + ctx) = some (i, .ok) ∧ i.alg = 0) ∧
    (∃ (core : Nat) (ctx : Nat) (i : Image) (st : Status) (s : State), s.Awake (seqPage core) ∧ Map.find s.work.loading (core * 16 + ctx) = some (i, st) ∧ st ≠ .ok) :=
  ⟨⟨0, 0, 0, up, by decide +kernel⟩,
   ⟨0, 0, 0, (up.flag (CTX_CTRL_ENABLE 0 0) true), by decide +kernel⟩,
   ⟨0, 0, { base := 0, len := 0, stepOff := 0, stepCnt := 0, entryOff := 0, entryCnt := 0, manOff := 0, manCnt := 0, sigOff := 0, alg := 0 }, { up with work := { up.work with loading := [(0, ({ base := 0, len := 0, stepOff := 0, stepCnt := 0, entryOff := 0, entryCnt := 0, manOff := 0, manCnt := 0, sigOff := 0, alg := 0 }, .ok))] } }, by decide +kernel⟩,
   ⟨0, 0, { base := 0, len := 0, stepOff := 0, stepCnt := 0, entryOff := 0, entryCnt := 0, manOff := 0, manCnt := 0, sigOff := 0, alg := 0 }, .badDesc, { up with work := { up.work with loading := [(0, ({ base := 0, len := 0, stepOff := 0, stepCnt := 0, entryOff := 0, entryCnt := 0, manOff := 0, manCnt := 0, sigOff := 0, alg := 0 }, .badDesc))] } }, by decide +kernel⟩⟩

/-- States and operands that meet the hypotheses of each clause of CoresTestAndReset. -/
theorem witness_CoresTestAndReset :
    (∃ (fn : Nat) (core : Nat) (s : State), s.Reaches fn (0x100 + 16 * core) ∧ s.Flowing ∧ core < 16 ∧ bitOf (s.get FT_CORE_ADM) core = false ∧ (s.page (0x100 + 16 * core)).quiesced = true ∧ s.work.slots = [] ∧ s.work.saves = [] ∧ core ∉ s.work.testing) ∧
    (∃ (fn : Nat) (core : Nat) (s : State), s.Reaches fn (0x100 + 16 * core) ∧ s.Flowing ∧ bitOf (s.get FT_CORE_ADM) core = true) ∧
    (∃ (core : Nat) (s : State), s.Awake (0x100 + 16 * core) ∧ core < 16 ∧ s.physSlot core < 18 ∧ core ∈ s.work.testing) ∧
    (∃ (fn : Nat) (s : State), s.Reaches fn 1 ∧ s.Flowing ∧ s.quiet 1 = false) ∧
    (∃ (n : Nat), n < 16) :=
  ⟨⟨0, 3, ((up.set FT_CORE_ADM 0).setPage 0x130 { quiesced := true }), by decide +kernel⟩,
   ⟨0, 3, (up.set FT_CORE_ADM 8), by decide +kernel⟩,
   ⟨3, { up with work := { up.work with testing := [3] } }, by decide +kernel⟩,
   ⟨0, up, by decide +kernel⟩,
   ⟨0, by decide +kernel⟩⟩

/-- States and operands that meet the hypotheses of each clause of TaskDispatchStartsATask. -/
theorem witness_TaskDispatchStartsATask :
    (∃ (core : Nat) (slot : Nat) (s : State), s.Awake 0x200 ∧ s.quiet 0x200 = false ∧ s.work.gets.find? (fun g => bitOf (s.get FT_CORE_ADM) g.1 && s.eligible g.1 g.2) = some (core, slot)) ∧
    (∃ (core : Nat) (slot : Nat) (pc : Nat) (x : Task) (s : State), core < 16 ∧ slot < 4 ∧ x.ctx < 16 ∧ s.wrongSet core x = false ∧ s.entryStep core x = some pc) :=
  ⟨⟨0, 0, readyGet, by decide +kernel⟩,
   ⟨0, 0, 0, oneTask.task, readyGet, by decide +kernel⟩⟩

/-- States and operands that meet the hypotheses of each clause of ChainCommandsStart. -/
theorem witness_ChainCommandsStart :
    (∃ (fn : Nat) (c : Nat) (m : Nat) (s : State), s.Reaches fn (0x220 + chainPage c) ∧ s.Flowing ∧ s.chainQuiet c = false ∧ (s.chain c).busy = none ∧ m < 8 ∧ (s.chain c).desc.isSome = true) ∧
    (∃ (fn : Nat) (c : Nat) (m : Nat) (s : State), s.Reaches fn (0x220 + chainPage c) ∧ s.Flowing ∧ s.chainQuiet c = false ∧ (s.chain c).busy = none ∧ m < 8 ∧ (s.chain c).desc.isSome = true ∧ (Map.find (s.chain c).marks m).isSome = true) ∧
    (∃ (fn : Nat) (c : Nat) (s : State), s.Reaches fn (0x220 + chainPage c) ∧ s.Flowing ∧ s.chainQuiet c = false ∧ (s.chain c).busy = none) ∧
    (∃ (fn : Nat) (c : Nat) (s : State), s.Reaches fn (0x220 + chainPage c) ∧ s.Flowing ∧ s.chainQuiet c = false ∧ (s.chain c).busy.isSome = true) ∧
    (∃ (fn : Nat) (c : Nat) (s : State), s.Reaches fn (0x220 + chainPage c) ∧ s.Flowing ∧ s.applyStatus c = .ok) ∧
    (∃ (fn : Nat) (c : Nat) (s : State), s.Reaches fn (0x220 + chainPage c) ∧ s.Flowing ∧ s.applyStatus c ≠ .ok) ∧
    (∃ (fn : Nat) (c : Nat) (s : State), s.Reaches fn (0x220 + chainPage c)) ∧
    (∃ (fn : Nat) (c : Nat) (s : State), s.Reaches fn (0x220 + chainPage c) ∧ s.enableStatus c = .ok) :=
  ⟨⟨0, 0, 1, aChain, by decide +kernel⟩,
   ⟨0, 0, 2, aChain, by decide +kernel⟩,
   ⟨0, 0, aChain, by decide +kernel⟩,
   ⟨0, 0, (aChain.setChain 0 { aChain.chain 0 with busy := some { op := 1, mark := 0 } }), by decide +kernel⟩,
   ⟨0, 0, ((((((up.set (CH_LENGTH 0) 4).set (CH_SLOT 0) 1).set (CH_HI 0) 2).set (CH_LO 0) 1).set (SEG_LEN 0 0) 1).flag (SEG_FBASE_VALID 0 0) true), by decide +kernel⟩,
   ⟨0, 0, up, by decide +kernel⟩,
   ⟨0, 0, up, by decide +kernel⟩,
   ⟨0, 0, aChain, by decide +kernel⟩⟩

/-- States and operands that meet the hypotheses of each clause of ChainOperationsTakeEffect. -/
theorem witness_ChainOperationsTakeEffect :
    (∃ (c : Nat) (o : ChainOp) (s : State), s.Awake 0x220 ∧ c < 256 ∧ (s.chain c).busy = some o ∧ o.step = none) ∧
    (∃ (x : Cell), x.state = .ready) ∧
    (∃ (x : Cell), x.state = .inUse) ∧
    (∃ (x : Cell), x.state = .spent) ∧
    (∃ (c : Nat) (n : Nat) (core : Nat) (slot : Nat) (seq : Nat) (ws : List (Nat × Waiter)) (r : Running) (x : Entry) (s : State), s.Awake 0x220 ∧ s.cellTurn c n = true ∧ (s.chain c).busy = none ∧ s.chainQuiet c = false ∧ (s.chain c).waiters = (n, .step core slot seq) :: ws ∧ s.entryAt core slot seq = some (r, x)) ∧
    (∃ (c : Nat) (d : ChainDesc) (s : State), (s.chain c).desc = some d) ∧
    (∃ (k : Nat) (place : Nat) (core : Nat) (slot : Nat) (seq : Nat) (dl : Nat) (delay : Nat) (item : List Byte) (ws : List (Nat × Nat × Nat × Nat)) (r : Running) (x : Entry) (s : State), s.Awake 0x200 ∧ s.quiet 0x200 = false ∧ (s.channel k).waiters = (place, core, slot, seq) :: ws ∧ s.entryAt core slot seq = some (r, x) ∧ x.op = .post dl delay item) :=
  ⟨⟨0, { op := 1, mark := 1 }, (aChain.setChain 0 { aChain.chain 0 with busy := some { op := 1, mark := 1 } }), by decide +kernel⟩,
   ⟨{ chain := 0, buf := 0, state := .ready, header := [] }, by decide +kernel⟩,
   ⟨{ chain := 0, buf := 0, state := .inUse, header := [] }, by decide +kernel⟩,
   ⟨{ chain := 0, buf := 0, state := .spent, header := [] }, by decide +kernel⟩,
   ⟨0, 0, 0, 0, 0, [], { oneTask with window := [entOf .nop []] }, entOf .nop [], (aChain.setRunning 0 0 (some { oneTask with window := [entOf .nop []] })).setChain 0 { aChain.chain 0 with waiters := [(0, .step 0 0 0)] }, by decide +kernel⟩,
   ⟨0, { length := 4, reserve := 0, src := 0, srcPort := 0, sink := 0, sinkPort := 0, slot := 1, pay := 0 }, aChain, by decide +kernel⟩,
   ⟨0, 0, 0, 0, 0, 0, 0, List.replicate 32 0, [], { oneTask with window := [entOf (.post 0 0 (List.replicate 32 0)) []] }, entOf (.post 0 0 (List.replicate 32 0)) [], postWait, by decide +kernel⟩⟩

/-- States and operands that meet the hypotheses of each clause of FlowCommands. -/
theorem witness_FlowCommands :
    (∃ (fn : Nat) (w : Nat) (x : Task) (s : State), s.Reaches fn (flowPage w) ∧ s.Flowing ∧ w < 4096 ∧ (s.flow w).service = some x ∧ s.get (FLOW_STATE w) = 4) ∧
    (∃ (fn : Nat) (w : Nat) (s : State), s.Reaches fn (flowPage w) ∧ s.Flowing ∧ w < 4096) :=
  ⟨⟨0, 0, oneTask.task, blockedFlow, by decide +kernel⟩,
   ⟨0, 0, up, by decide +kernel⟩⟩

/-- States and operands that meet the hypotheses of each clause of DelayListsReleaseAndPurge. -/
theorem witness_DelayListsReleaseAndPurge :
    (∃ (fn : Nat) (s : State), s.Reaches fn 0x200 ∧ s.Flowing ∧ s.quiet 0x200 = false) ∧
    (∃ (fn : Nat) (s : State), s.Reaches fn 0x200 ∧ s.Flowing) :=
  ⟨⟨0, (up.setDelayList 0 [(5, oneTask.task)]), by decide +kernel⟩,
   ⟨0, (up.setDelayList 0 [(5, oneTask.task)]), by decide +kernel⟩⟩

/-- States and operands that meet the hypotheses of each clause of SchedulerChannels. -/
theorem witness_SchedulerChannels :
    (∃ (fn : Nat) (k : Nat) (s : State), s.Reaches fn 0x200 ∧ s.Flowing ∧ s.chanApplyStatus k = .ok) ∧
    (∃ (fn : Nat) (k : Nat) (s : State), s.Reaches fn 0x200 ∧ s.Flowing ∧ s.chanApplyStatus k ≠ .ok) ∧
    (∃ (fn : Nat) (s : State), s.Reaches fn 0x200) ∧
    (∃ (fn : Nat) (k : Nat) (s : State), s.Reaches fn 0x200 ∧ s.chanEnableStatus k = .ok) ∧
    (∃ (fn : Nat) (s : State), s.Reaches fn 0x200 ∧ s.Flowing) ∧
    (∃ (fn : Nat) (k : Nat) (s : State), s.Reaches fn 0x200 ∧ s.Flowing ∧ (s.channel k).ring ≠ [] ∧ k < 32 ∧ s.headerHeld k = false) ∧
    (∃ (k : Nat) (s : State), s.Awake 0x200 ∧ s.quiet 0x200 = false ∧ s.on (CHN_STAT_SPILL_LOST k) = false ∧ (s.channel k).ring ≠ [] ∧ s.refillHeld k = false) ∧
    (∃ (k : Nat) (c : ChannelCfg) (own : Nat × Nat × Nat) (rest : List (Nat × Nat × Nat)) (s : State), (s.channel k).cfg = some c ∧ (s.channel k).ring = own :: rest ∧ own.1 ≠ 0 ∧ s.chanRoom k 1 = true ∧ (spillRead s k c).2.1 = .ok) :=
  ⟨⟨0, 0, (up.set (CHN_CFG_QUOTA 0) 8), by decide +kernel⟩,
   ⟨0, 0, (up.set (CHN_CFG_QUOTA 0) 0), by decide +kernel⟩,
   ⟨0, up, by decide +kernel⟩,
   ⟨0, 0, postWait, by decide +kernel⟩,
   ⟨0, up, by decide +kernel⟩,
   ⟨0, 0, (postWait.setChannel 0 { postWait.channel 0 with ring := [(0, 0, 0)] }), by decide +kernel⟩,
   ⟨0, (postWait.setChannel 0 { postWait.channel 0 with ring := [(0, 0, 0)] }), by decide +kernel⟩,
   ⟨0, { quota := 4, min := 0, spill := true, base := 0, size := 1 }, (1, 0, 0), [], spilled, by decide +kernel⟩⟩

/-- States and operands that meet the hypotheses of each clause of SchedulerPostsItemsAndBindings. -/
theorem witness_SchedulerPostsItemsAndBindings :
    (∃ (fn : Nat) (j : Nat) (s : State), s.Reaches fn (0x200 + j) ∧ s.Flowing ∧ s.quiet 0x200 = false ∧ s.spillHeld (s.get (FN_SCHED_POST_CHAN (s.tripleHolder j))) 1 = false) ∧
    (∃ (fn : Nat) (j : Nat) (a : Attention) (q : List Attention) (s : State), s.Reaches fn (0x200 + j) ∧ Map.get s.work.attention [] j = a :: q) ∧
    (∃ (fn : Nat) (c : Nat) (v : Nat) (s : State), s.Reaches fn (0x200 + chainPage c) ∧ c < 256 ∧ bitOf (s.get (FN_CHAN_MASK (s.chainHolder c))) (bitsOf v 8 5) = true) ∧
    (∃ (fn : Nat) (c : Nat) (s : State), s.Reaches fn (0x200 + chainPage c) ∧ c < 256) ∧
    (∃ (c : Nat) (k : Nat) (x : Cell) (s : State), ItemTurn s c k x ∧ 0 < hdr x.header 5 1 % 128 ∧ hdr x.header 5 1 % 128 ≤ 64 ∧ (∀ t ∈ itemTasks s c k x, s.flowHolder t.flow = s.chainHolder c)) ∧
    (∃ (c : Nat) (k : Nat) (x : Cell) (s : State), ItemTurn s c k x ∧ hdr x.header 5 1 % 128 = 0) ∧
    (∃ (c : Nat) (k : Nat) (x : Cell) (s : State), ItemTurn s c k x ∧ hdr x.header 5 1 % 128 ≤ 64 ∧ (∃ t ∈ itemTasks s c k x, s.flowHolder t.flow ≠ s.chainHolder c)) ∧
    (∃ (c : Nat) (k : Nat) (x : Cell) (s : State), ItemTurn s c k x ∧ 64 < hdr x.header 5 1 % 128) :=
  ⟨⟨0, 1, ((up.set (FN_CHAN_MASK 0) 1).setChannel 0 { up.channel 0 with cfg := some { quota := 4, min := 0, spill := false, base := 0, size := 0 } }).flag (CHN_CTRL_ENABLE 0) true, by decide +kernel⟩,
   ⟨0, 1, ⟨3, 2, 0x20, 7⟩, [], { up with work := { up.work with attention := [(1, [⟨3, 2, 0x20, 7⟩])] } }, by decide +kernel⟩,
   ⟨0, 0, 1, (up.set (FN_CHAN_MASK 0) 1), by decide +kernel⟩,
   ⟨0, 0, up, by decide +kernel⟩,
   ⟨0, 0, { chain := 0, buf := 0, state := .ready, header := [0, 0, 0, 0, 0, 1] ++ List.replicate 58 0 }, itemReady, by decide +kernel⟩,
   ⟨0, 0, { chain := 0, buf := 0, state := .ready, header := [0, 0, 0, 0, 0, 0] ++ List.replicate 58 0 }, { itemReady with work := { itemReady.work with cells := [(0, { chain := 0, buf := 0, state := .ready, header := [0, 0, 0, 0, 0, 0] ++ List.replicate 58 0 })] } }, by decide +kernel⟩,
   ⟨0, 0, { chain := 0, buf := 0, state := .ready, header := [0, 0, 0, 0, 0, 1, 0, 2] ++ List.replicate 56 0 }, (({ itemReady with work := { itemReady.work with cells := [(0, { chain := 0, buf := 0, state := .ready, header := [0, 0, 0, 0, 0, 1, 0, 2] ++ List.replicate 56 0 })] } }).set (TG_PAGES_QPAGES 1) 2), by decide +kernel⟩,
   ⟨0, 0, { chain := 0, buf := 0, state := .ready, header := [0, 0, 0, 0, 0, 65] ++ List.replicate 58 0 }, { itemReady with work := { itemReady.work with cells := [(0, { chain := 0, buf := 0, state := .ready, header := [0, 0, 0, 0, 0, 65] ++ List.replicate 58 0 })] } }, by decide +kernel⟩⟩

/-- States and operands that meet the hypotheses of each clause of CacheCommandsAndCounts. -/
theorem witness_CacheCommandsAndCounts :
    (∃ (fn : Nat) (n : Nat) (k : Nat) (s : State), s.Reaches fn (0x108 + 16 * n + k) ∧ s.Flowing) ∧
    (∃ (fn : Nat) (n : Nat) (s : State), s.Reaches fn (0x10A + 16 * n) ∧ s.Flowing) ∧
    (∃ (fn : Nat) (n : Nat) (s : State), s.Reaches fn (0x10A + 16 * n) ∧ s.Flowing ∧ s.on (LC_STAT_BUSY n) = false) ∧
    (∃ (fn : Nat) (n : Nat) (s : State), s.Reaches fn (0x10A + 16 * n) ∧ s.Flowing ∧ s.on (LC_STAT_BUSY n) = true) ∧
    (∃ (n : Nat) (c : LcCmd) (s : State), s.Awake (0x10A + 16 * n) ∧ n < 16 ∧ Map.find s.mem.lcCmds n = some c) ∧
    (∃ (core : Nat) (l : Nat) (x : CacheLine) (s : State), s.domOn 3 = true ∧ s.mem.flights = [] ∧ s.mem.txns = [] ∧ (∀ c, s.evictedEntry c l = none) ∧ s.cached core l = some x ∧ x.err = []) :=
  ⟨⟨0, 0, 1, up, by decide +kernel⟩,
   ⟨0, 0, up, by decide +kernel⟩,
   ⟨0, 0, up, by decide +kernel⟩,
   ⟨0, 0, (up.flag (LC_STAT_BUSY 0) true), by decide +kernel⟩,
   ⟨0, ⟨true, []⟩, { up with mem := { up.mem with lcCmds := [(0, ⟨true, []⟩)] } }, by decide +kernel⟩,
   ⟨0, 0, { line := 0, way := 0, owned := true, dirty := true, dom := 15, fn := 0, data := List.replicate 128 1 }, cachedUp, by decide +kernel, by decide +kernel, by decide +kernel, fun c => by by_cases h : c = 0 <;> simp [State.evictedEntry, State.cache, cachedUp, Map.get, Map.find, h], by decide +kernel, by decide +kernel⟩⟩

/-- States and operands that meet the hypotheses of each clause of SegmentsBecomeValidAndClear. -/
theorem witness_SegmentsBecomeValidAndClear :
    (∃ (f : Nat) (x : Nat) (v : Nat) (s : State), s.pageOn (0x307 + f) = true ∧ f < 9 ∧ x < 64 ∧ s.on (SEG_STAT_BUSY f) = false ∧ s.on (SEG_FBASE_VALID f x) = false ∧ s.segFits f x (v % 2 ^ 19) = true ∧ s.segDomain f x = true) ∧
    (∃ (f : Nat) (x : Nat) (v : Nat) (s : State), s.pageOn (0x307 + f) = true ∧ f < 9 ∧ x < 64 ∧ (s.on (SEG_STAT_BUSY f) = true ∨ s.on (SEG_FBASE_VALID f x) = true ∨ s.segFits f x (v % 2 ^ 19) = false ∨ s.segDomain f x = false)) ∧
    (∃ (f : Nat) (x : Nat) (s : State), s.pageOn (0x307 + f) = true ∧ f < 9 ∧ x < 64 ∧ s.on (SEG_STAT_BUSY f) = false ∧ s.on (SEG_FBASE_VALID f x) = true) ∧
    (∃ (fn : Nat) (f : Nat) (s : State), s.Reaches fn (0x307 + f) ∧ fn ≠ 0) ∧
    (∃ (f : Nat) (rs : List (Nat × Nat)) (s : State), s.Awake (0x307 + f) ∧ f < 9 ∧ Map.find s.mem.segBusy f = some rs) :=
  ⟨⟨0, 3, 0x80000004, up, by decide +kernel⟩,
   ⟨0, 3, 0x80000004, (up.flag (SEG_STAT_BUSY 0) true), by decide +kernel⟩,
   ⟨0, 0, memUp, by decide +kernel⟩,
   ⟨1, 1, { up.flag (TG_PAGES_MEMCTL_VIEW 1) true with host := { up.host with vfs := 8 } }, by decide +kernel⟩,
   ⟨0, [(0, 1)], { memUp with mem := { memUp.mem with segBusy := [(0, [(0, 1)])] } }, by decide +kernel⟩⟩

/-- States and operands that meet the hypotheses of each clause of CoherenceMessages. -/
theorem witness_CoherenceMessages :
    (∃ (core : Nat) (addr : Nat) (pa : Nat) (dom : Nat) (s : State), s.translate (s.coreHolder core) addr 1 false = some (pa, dom) ∧ s.domOn 3 = true ∧ s.requestWaits core (s.coreHolder core) pa = false) ∧
    (∃ (core : Nat) (addr : Nat) (pa : Nat) (dom : Nat) (bytes : List Byte) (s : State), s.translate (s.coreHolder core) addr (max 1 bytes.length) true = some (pa, dom) ∧ s.domOn 3 = true ∧ pa % 128 + bytes.length ≤ 128 ∧ s.requestWaits core (s.coreHolder core) pa = false) ∧
    (∃ (core : Nat) (addr : Nat) (pa : Nat) (dom : Nat) (bytes : List Byte) (s : State), s.translate (s.coreHolder core) addr (max 1 bytes.length) true = some (pa, dom) ∧ s.domOn 3 = true ∧ pa % 128 + bytes.length ≤ 128 ∧ s.requestWaits core (s.coreHolder core) pa = false ∧ bytes.length = 128) ∧
    (∃ (t : Txn) (s : State), s.mem.txns = [] ∧ s.lineBusy t.line = false ∧ s.holders t.line = [] ∧ t.req = .rdS ∧ t.begun = false ∧ t.data = none) ∧
    (∃ (t : Txn) (o : Nat) (s : State), s.mem.txns = [] ∧ s.lineBusy t.line = false ∧ s.owner t.line = some o ∧ o ≠ t.core ∧ t.req = .rdS ∧ t.begun = false) ∧
    (∃ (core : Nat) (l : Nat) (m : Flight) (s : State), s.Flowing ∧ (s.needsVictim core l && s.bufferFull core) = false ∧ s.mem.flights.find? (fun m => m.msg == .dataS && m.core == core && m.line == l) = some m) ∧
    (∃ (core : Nat) (l : Nat) (m : Flight) (s : State), s.Flowing ∧ (s.needsVictim core l && s.bufferFull core) = false ∧ s.mem.flights.find? (fun m => m.msg == .dataM && m.core == core && m.line == l) = some m) ∧
    (∃ (core : Nat) (l : Nat) (m : Flight) (s : State), s.Flowing ∧ (s.needsVictim core l && s.bufferFull core) = false ∧ s.mem.flights.find? (fun m => m.msg == .grant && m.core == core && m.line == l) = some m) ∧
    (∃ (core : Nat) (l : Nat) (m : Flight) (s : State), s.Flowing ∧ s.mem.flights.find? (fun m => m.msg == .evictAck && m.core == core && m.line == l) = some m) ∧
    (∃ (core : Nat) (l : Nat) (m : Flight) (s : State), s.Flowing ∧ s.mem.flights.find? (fun m => m.msg == .snpInv && m.core == core && m.line == l) = some m) ∧
    (∃ (core : Nat) (l : Nat) (m : Flight) (s : State), s.Flowing ∧ s.mem.flights.find? (fun m => m.msg == .snpShr && m.core == core && m.line == l) = some m) ∧
    (∃ (core : Nat) (l : Nat) (m : Flight) (s : State), s.Awake 0x300 ∧ s.mem.flights.find? (fun m => m.msg == .ack && m.core == core && m.line == l) = some m) ∧
    (∃ (core : Nat) (l : Nat) (m : Flight) (s : State), s.Awake 0x300 ∧ s.mem.flights.find? (fun m => m.msg == .data && m.core == core && m.line == l) = some m) ∧
    (∃ (core : Nat) (l : Nat) (m : Flight) (s : State), s.Awake 0x300 ∧ s.mem.flights.find? (fun m => m.msg == .notHeld && m.core == core && m.line == l) = some m) ∧
    (∃ (core : Nat) (l : Nat) (m : Flight) (s : State), s.Awake 0x300 ∧ s.mem.flights.find? (fun m => m.msg == .notHeldEvicting && m.core == core && m.line == l) = some m) ∧
    (∃ (m : Flight), m.msg = .dataS ∧ m.status = .ok ∧ m.dropped = false) ∧
    (∃ (m : Flight), m.msg = .dataM ∧ m.status = .ok ∧ m.dropped = false) ∧
    (∃ (m : Flight) (x : CacheLine) (s : State), m.msg = .snpInv ∧ s.cached m.core m.line = some x ∧ x.owned = true ∧ x.err = []) ∧
    (∃ (m : Flight) (x : CacheLine) (s : State), m.msg = .snpShr ∧ s.cached m.core m.line = some x ∧ x.owned = true ∧ x.err = []) ∧
    (∃ (m : Flight), m.msg = .evictAck) ∧
    (∃ (core : Nat) (l : Nat) (x : CacheLine) (s : State), s.Awake 0x300 ∧ s.cached core l = some x ∧ x.owned = false ∧ (s.cache core).evicted.length < 16 ∧ s.evictedEntry core l = none ∧ s.txn l = none ∧ s.dirEntry l = some { line := l, owner := none, sharers := [core] }) ∧
    (∃ (core : Nat) (l : Nat) (x : CacheLine) (s : State), s.Awake 0x300 ∧ s.cached core l = some x ∧ x.owned = true ∧ x.err = [] ∧ (s.cache core).evicted.length < 16 ∧ s.evictedEntry core l = none ∧ s.txn l = none ∧ s.lineAbsent l = false ∧ x.dom = 15 ∧ x.data.length = 128 ∧ core < 16) :=
  ⟨⟨0, 0, 0, 15, memUp, by decide +kernel⟩,
   ⟨0, 0, 0, 15, [1], memUp, by decide +kernel⟩,
   ⟨0, 0, 0, 15, List.replicate 128 1, memUp, by decide +kernel⟩,
   ⟨{ req := .rdS, core := 0, line := 0, fn := 0, dom := 15 }, memUp, by decide +kernel⟩,
   ⟨{ req := .rdS, core := 1, line := 0, fn := 0, dom := 15 }, 0, cachedUp, by decide +kernel⟩,
   ⟨0, 0, { msg := .dataS, line := 0, core := 0 }, { up with mem := { up.mem with flights := [{ msg := .dataS, line := 0, core := 0 }] } }, by decide +kernel⟩,
   ⟨0, 0, { msg := .dataM, line := 0, core := 0 }, { up with mem := { up.mem with flights := [{ msg := .dataM, line := 0, core := 0 }] } }, by decide +kernel⟩,
   ⟨0, 0, { msg := .grant, line := 0, core := 0 }, { up with mem := { up.mem with flights := [{ msg := .grant, line := 0, core := 0 }] } }, by decide +kernel⟩,
   ⟨0, 0, { msg := .evictAck, line := 0, core := 0 }, { up with mem := { up.mem with flights := [{ msg := .evictAck, line := 0, core := 0 }] } }, by decide +kernel⟩,
   ⟨0, 0, { msg := .snpInv, line := 0, core := 0 }, { up with mem := { up.mem with flights := [{ msg := .snpInv, line := 0, core := 0 }] } }, by decide +kernel⟩,
   ⟨0, 0, { msg := .snpShr, line := 0, core := 0 }, { up with mem := { up.mem with flights := [{ msg := .snpShr, line := 0, core := 0 }] } }, by decide +kernel⟩,
   ⟨0, 0, { msg := .ack, line := 0, core := 0 }, { up with mem := { up.mem with flights := [{ msg := .ack, line := 0, core := 0 }] } }, by decide +kernel⟩,
   ⟨0, 0, { msg := .data, line := 0, core := 0 }, { up with mem := { up.mem with flights := [{ msg := .data, line := 0, core := 0 }] } }, by decide +kernel⟩,
   ⟨0, 0, { msg := .notHeld, line := 0, core := 0 }, { up with mem := { up.mem with flights := [{ msg := .notHeld, line := 0, core := 0 }] } }, by decide +kernel⟩,
   ⟨0, 0, { msg := .notHeldEvicting, line := 0, core := 0 }, { up with mem := { up.mem with flights := [{ msg := .notHeldEvicting, line := 0, core := 0 }] } }, by decide +kernel⟩,
   ⟨{ msg := .dataS, line := 0, core := 0, data := List.replicate 128 7 }, by decide +kernel⟩,
   ⟨{ msg := .dataM, line := 0, core := 0, data := List.replicate 128 7 }, by decide +kernel⟩,
   ⟨{ msg := .snpInv, line := 0, core := 0 }, { line := 0, way := 0, owned := true, dirty := true, dom := 15, fn := 0, data := List.replicate 128 1 }, cachedUp, by decide +kernel⟩,
   ⟨{ msg := .snpShr, line := 0, core := 0 }, { line := 0, way := 0, owned := true, dirty := true, dom := 15, fn := 0, data := List.replicate 128 1 }, cachedUp, by decide +kernel⟩,
   ⟨{ msg := .evictAck, line := 0, core := 0 }, by decide +kernel⟩,
   ⟨0, 0, { line := 0, way := 0, owned := false, dirty := false, dom := 15, fn := 0, data := [] }, { up with mem := { up.mem with caches := [(0, { lines := [{ line := 0, way := 0, owned := false, dirty := false, dom := 15, fn := 0, data := [] }] })], dir := [{ line := 0, owner := none, sharers := [0] }] } }, by decide +kernel⟩,
   ⟨0, 0, { line := 0, way := 0, owned := true, dirty := true, dom := 15, fn := 0, data := List.replicate 128 1 }, cachedUp, by decide +kernel⟩⟩

/-- States and operands that meet the hypotheses of each clause of HomeAgentsAndScrubber. -/
theorem witness_HomeAgentsAndScrubber :
    (∃ (fn : Nat) (addr : Nat) (pa : Nat) (dom : Nat) (s : State), s.translate fn addr 1 false = some (pa, dom) ∧ s.domOn 3 = true ∧ s.memQuiet fn pa 1 = false ∧ s.held = []) ∧
    (∃ (fn : Nat) (addr : Nat) (pa : Nat) (dom : Nat) (bytes : List Byte) (s : State), s.translate fn addr bytes.length true = some (pa, dom) ∧ s.domOn 3 = true ∧ s.memQuiet fn pa bytes.length = false ∧ s.held = [] ∧ bytes ≠ [] ∧ pa % 128 + bytes.length ≤ 128) ∧
    (∃ (l : Nat) (d : List Byte) (s : State), s.lineAbsent l = false ∧ d.length = 128) ∧
    (∃ (s : State), s.Awake 0x300 ∧ s.on SCRUB_CTRL_EN = true ∧ s.quiet 0x300 = false ∧ s.quiet (0x301 + stackOf (2 * s.get SCRUB_POS)) = false ∧ s.mem.scrubHalf = false) ∧
    (∃ (s : State), s.Awake 0x300 ∧ s.on SCRUB_CTRL_EN = true ∧ s.quiet 0x300 = false ∧ s.quiet (0x301 + stackOf (2 * s.get SCRUB_POS + 1)) = false ∧ s.mem.scrubHalf = true) :=
  ⟨⟨0, 0, 0, 15, memUp, by decide +kernel⟩,
   ⟨0, 0, 0, 15, [5], memUp, by decide +kernel⟩,
   ⟨0, List.replicate 128 7, memUp, by decide +kernel⟩,
   ⟨up, by decide +kernel⟩,
   ⟨{ up with mem := { up.mem with scrubHalf := true } }, by decide +kernel⟩⟩

/-- States and operands that meet the hypotheses of each clause of ProtectionDomains. -/
theorem witness_ProtectionDomains :
    (∃ (fn : Nat) (d : Nat) (g : Nat) (k : KeySlot) (s : State), s.Reaches fn 0x310 ∧ d < 15 ∧ s.on (DOM_STAT_BUSY d) = false ∧ s.get (DOM_STAT_STATE d) = 0 ∧ s.domOn 4 = true ∧ s.loadWaits = false ∧ s.domSecret d = .found g k) ∧
    (∃ (fn : Nat) (d : Nat) (g : Nat) (k : KeySlot) (s : State), s.Reaches fn 0x310 ∧ d < 15 ∧ s.on (DOM_STAT_BUSY d) = false ∧ (s.get (DOM_STAT_STATE d) = 1 ∨ s.get (DOM_STAT_STATE d) = 2) ∧ s.domOn 4 = true ∧ s.loadWaits = false ∧ s.domSecret d = .found g k) ∧
    (∃ (d : Nat), d < 15) ∧
    (∃ (fn : Nat) (d : Nat) (s : State), s.Reaches fn 0x310 ∧ d < 15 ∧ s.on (DOM_STAT_BUSY d) = false ∧ s.get (DOM_STAT_STATE d) = 2) ∧
    (∃ (fn : Nat) (d : Nat) (s : State), s.Reaches fn 0x310 ∧ d < 15 ∧ s.on (DOM_STAT_BUSY d) = false ∧ s.get (DOM_STAT_STATE d) ≠ 3 ∧ s.domInUse d = false) ∧
    (∃ (fn : Nat) (d : Nat) (s : State), s.Reaches fn 0x310 ∧ d < 15 ∧ s.on (DOM_STAT_BUSY d) = true) ∧
    (∃ (d : Nat) (op : Nat) (st : Status) (ks : List Byte) (s : State), s.Awake 0x310 ∧ d < 15 ∧ (s.domKeys d).busy = some (op, st, ks)) ∧
    (∃ (d : Nat) (s : State), s.Awake 0x310 ∧ s.get (DOM_STAT_STATE d) = 3 ∧ s.get (RK_BW d) ≠ 0 ∧ s.quiet 0x310 = false ∧ s.nextDomLine d (s.rkLine d) = none) ∧
    (∃ (d : Nat) (l : Nat) (fn : Nat) (s : State), s.Awake 0x310 ∧ d < 15 ∧ s.get (DOM_STAT_STATE d) = 3 ∧ s.get (RK_BW d) ≠ 0 ∧ s.quiet 0x310 = false ∧ s.nextDomLine d (s.rkLine d) = some (l, fn) ∧ s.lineHeld l = false) ∧
    (∃ (fn : Nat) (s : State), s.Reaches fn 0x310 ∧ s.on FILL_CTRL_BUSY = false ∧ 0 < s.get FILL_LEN ∧ s.pair FILL_PA_LO FILL_PA_HI + s.get FILL_LEN * 2 ^ 21 ≤ 144 * 2 ^ 30 ∧ (s.get FILL_DOM = 15 ∨ s.get (DOM_STAT_STATE (s.get FILL_DOM)) = 1) ∧ s.get FILL_BW ≠ 0) ∧
    (∃ (l : Nat) (n : Nat) (d : Nat) (s : State), s.Awake 0x310 ∧ s.quiet 0x310 = false ∧ s.mem.fill = some (l, n, d) ∧ s.lineHeld l = false ∧ 1 < n) ∧
    (∃ (l : Nat) (n : Nat) (d : Nat) (s : State), s.Awake 0x310 ∧ s.quiet 0x310 = false ∧ s.mem.fill = some (l, n, d) ∧ s.lineHeld l = false ∧ n ≤ 1) ∧
    (∃ (fn : Nat) (e : ProtEntry) (es : List ProtEntry) (s : State), s.Reaches fn 0x310 ∧ s.mem.protLog = e :: es) :=
  ⟨⟨0, 1, 0, { cls := 6, key := List.replicate 32 1 }, secretUp, by decide +kernel⟩,
   ⟨0, 1, 0, { cls := 6, key := List.replicate 32 1 }, (secretUp.set (DOM_STAT_STATE 1) 1), by decide +kernel⟩,
   ⟨1, by decide +kernel⟩,
   ⟨0, 1, (up.set (DOM_STAT_STATE 1) 2), by decide +kernel⟩,
   ⟨0, 1, up, by decide +kernel⟩,
   ⟨0, 1, (up.flag (DOM_STAT_BUSY 1) true), by decide +kernel⟩,
   ⟨1, 1, .ok, [1], (up.domBusy 1 1 .ok [1]), by decide +kernel⟩,
   ⟨1, (up.set (DOM_STAT_STATE 1) 3), by decide +kernel⟩,
   ⟨1, 0, 0, ((memUp.set (DOM_STAT_STATE 1) 3).set (SEG_ATTR_PDOM 0 0) 1), by decide +kernel⟩,
   ⟨0, (up.set FILL_LEN 1), by decide +kernel⟩,
   ⟨0, 2, 15, { memUp with mem := { memUp.mem with fill := some (0, 2, 15) } }, by decide +kernel⟩,
   ⟨0, 1, 15, { memUp with mem := { memUp.mem with fill := some (0, 1, 15) } }, by decide +kernel⟩,
   ⟨0, { fn := 0, dom := 1, cause := 1, agent := 0, core := 0, pa := 128, time := ⟨0, 0⟩ }, [], { up with mem := { up.mem with protLog := [{ fn := 0, dom := 1, cause := 1, agent := 0, core := 0, pa := 128, time := ⟨0, 0⟩ }] } }, by decide +kernel⟩⟩

/-- States and operands that meet the hypotheses of each clause of WeightSetCommands. -/
theorem witness_WeightSetCommands :
    (∃ (fn : Nat) (e : Nat) (s : State), s.Reaches fn (0x321 + e) ∧ s.Flowing ∧ e < 8 ∧ s.wsetBusy e = false ∧ s.wsetApplyStatus e = .ok) ∧
    (∃ (fn : Nat) (e : Nat) (s : State), s.Reaches fn (0x321 + e) ∧ s.Flowing ∧ e < 8 ∧ s.wsetBusy e = false ∧ s.wsetApplyStatus e ≠ .ok) ∧
    (∃ (fn : Nat) (e : Nat) (copy : Nat) (c : SetCfg) (s : State), s.Reaches fn (0x321 + e) ∧ s.Flowing ∧ e < 8 ∧ s.wsetBusy e = false ∧ s.copyStatus e (copy % 2) = .ok ∧ (s.wset e).cfg = some c) ∧
    (∃ (fn : Nat) (e : Nat) (copy : Nat) (core : Nat) (ctx : Nat) (s : State), s.Reaches fn (0x321 + e) ∧ s.Flowing ∧ e < 8 ∧ s.wsetBusy e = false ∧ s.manStatus e (copy % 2) (core % 16) (ctx % 16) = .ok) ∧
    (∃ (e : Nat) (j : SetJob) (s : State), s.boundCnt e j.copy ≠ 0) ∧
    (∃ (e : Nat) (n : Nat) (j : SetJob) (s : State), e < 8 ∧ s.boundCnt e j.copy = 0 ∧ j.op = 2 ∧ n ∈ j.parts ∧ s.coreOn n = true) ∧
    (∃ (fn : Nat) (e : Nat) (c : SetCfg) (s : State), s.Reaches fn (0x321 + e) ∧ s.Flowing ∧ e < 8 ∧ s.wsetBusy e = false ∧ (s.wset e).cfg = some c ∧ c.mode = 2 ∧ (coresOf c.cores).all (fun n => !s.coreOn n || s.holds e (1 - s.get (WSET_STAT_CUR e)) n) = true) ∧
    (∃ (fn : Nat) (e : Nat) (c : SetCfg) (s : State), s.Reaches fn (0x321 + e) ∧ s.Flowing ∧ e < 8 ∧ s.wsetBusy e = false ∧ (s.wset e).cfg = some c ∧ c.mode = 2 ∧ (coresOf c.cores).all (fun n => !s.coreOn n || s.holds e (1 - s.get (WSET_STAT_CUR e)) n) = false) ∧
    (∃ (fn : Nat) (e : Nat) (c : SetCfg) (s : State), s.Reaches fn (0x321 + e) ∧ s.Flowing ∧ e < 8 ∧ s.wsetBusy e = false ∧ (s.wset e).cfg = some c ∧ c.mode ≠ 2) ∧
    (∃ (fn : Nat) (e : Nat) (s : State), s.Reaches fn (0x321 + e) ∧ s.Flowing ∧ e < 8 ∧ s.wsetBusy e = false ∧ (s.wset e).cfg.isSome = true ∧ s.deliveredTick < s.pair (SW_TICK_LO e) (SW_TICK_HI e)) ∧
    (∃ (fn : Nat) (e : Nat) (s : State), s.Reaches fn (0x321 + e) ∧ s.Flowing ∧ e < 8 ∧ s.get (WSET_STAT_STATE e) = 2) ∧
    (∃ (fn : Nat) (e : Nat) (s : State), s.Reaches fn (0x321 + e) ∧ s.Flowing ∧ s.wsetBusy e = true) :=
  ⟨⟨0, 1, (up.flag (WSET_CTRL_HOLD 1) true), by decide +kernel⟩,
   ⟨0, 1, (up.set (WSET_CFG_MODE 1) 3), by decide +kernel⟩,
   ⟨0, 1, 1, dualCfg, dualSet, by decide +kernel⟩,
   ⟨0, 1, 1, 0, 0, (dualSet.flag (CTX_STAT_LOADED 0 0) true), by decide +kernel⟩,
   ⟨1, { op := 2, copy := 0 }, boundSet, by decide +kernel⟩,
   ⟨1, 0, { op := 2, copy := 1, parts := [0] }, dualSet, by decide +kernel⟩,
   ⟨0, 1, dualCfg, (dualSet.set (WSET_VALID1 1) 1), by decide +kernel⟩,
   ⟨0, 1, dualCfg, dualSet, by decide +kernel⟩,
   ⟨0, 1, { dualCfg with mode := 1 }, { up with work := { up.work with wsets := [(1, { cfg := some { dualCfg with mode := 1 } })] } }, by decide +kernel⟩,
   ⟨0, 1, (dualSet.set (SW_TICK_LO 1) 100), by decide +kernel⟩,
   ⟨0, 1, (dualSet.set (WSET_STAT_STATE 1) 2), by decide +kernel⟩,
   ⟨0, 1, (dualSet.set (WSET_STAT_STATE 1) 2), by decide +kernel⟩⟩

/-- States and operands that meet the hypotheses of each clause of WeightSetFillsAndReloads. -/
theorem witness_WeightSetFillsAndReloads :
    (∃ (e : Nat) (j : SetJob) (s : State), s.Awake (0x321 + e) ∧ (s.wset e).job = some j ∧ j.waiting = true ∧ s.boundCnt e j.copy = 0) ∧
    (∃ (e : Nat) (core : Nat) (src : ReadOutcome) (j : SetJob) (c : SetCfg) (s : State), s.Awake (0x321 + e) ∧ e < 8 ∧ (s.wset e).job = some j ∧ (s.wset e).cfg = some c ∧ j.waiting = false ∧ j.op ≠ 6 ∧ core ∈ j.parts ∧ s.setQuiet e = false ∧ s.coreOn core = true ∧ s.fillHeld e j.copy core c = false ∧ (s.fillPart e j.copy core c src).2 = .ok ∧ (j.parts.filter (fun n => n != core)) ≠ []) ∧
    (∃ (e : Nat) (core : Nat) (src : ReadOutcome) (j : SetJob) (c : SetCfg) (s : State), s.Awake (0x321 + e) ∧ e < 8 ∧ (s.wset e).job = some j ∧ (s.wset e).cfg = some c ∧ j.waiting = false ∧ j.op = 2 ∧ j.parts = [core] ∧ j.st = .ok ∧ s.setQuiet e = false ∧ s.coreOn core = true ∧ s.fillHeld e j.copy core c = false ∧ (s.fillPart e j.copy core c src).2 = .ok) ∧
    (∃ (e : Nat) (c : SetCfg) (s : State), s.Awake (0x321 + e) ∧ e < 8 ∧ (s.wset e).cfg = some c ∧ s.get (WSET_STAT_STATE e) = 3 ∧ s.boundCnt e (s.get (WSET_STAT_CUR e)) = 0) ∧
    (∃ (e : Nat) (j : SetJob) (s : State), s.Awake (0x321 + e) ∧ e < 8 ∧ (s.wset e).job = some j ∧ j.op = 3 ∧ j.parts = []) ∧
    (∃ (e : Nat) (j : SetJob) (c : SetCfg) (s : State), s.Awake (0x321 + e) ∧ (s.wset e).job = some j ∧ (s.wset e).cfg = some c ∧ j.op = 6 ∧ j.waiting = false ∧ s.setQuiet e = false ∧ (s.coreOn j.core && s.manHeld e j.core) = false) ∧
    (∃ (e : Nat) (j : SetJob) (c : SetCfg) (img : Image) (srcs : List ReadOutcome) (s : State), e < 8 ∧ s.coreOn j.core = true ∧ Map.find s.work.images (j.core * 16 + j.ctx) = some img ∧ ((s.setJob e none).manifest (s.setHolder e) j.core (c.baseOf j.copy) c.len img srcs img.manCnt 0).2.1 = .ok) :=
  ⟨⟨1, { op := 2, copy := 0, waiting := true }, { up with work := { up.work with wsets := [(1, { job := some { op := 2, copy := 0, waiting := true } })] } }, by decide +kernel⟩,
   ⟨1, 0, .unsupported, { op := 2, copy := 0, parts := [0, 1] }, dualCfg, fillSet, by decide +kernel⟩,
   ⟨1, 0, .unsupported, { op := 2, copy := 0, parts := [0] }, dualCfg, fillSet1, by decide +kernel⟩,
   ⟨1, dualCfg, (dualSet.set (WSET_STAT_STATE 1) 3), by decide +kernel⟩,
   ⟨1, { op := 3, copy := 1 }, { up with work := { up.work with wsets := [(1, { cfg := some { dualCfg with mode := 1 }, job := some { op := 3, copy := 1 } })] } }, by decide +kernel⟩,
   ⟨1, { op := 6, copy := 0 }, dualCfg, { up with work := { up.work with wsets := [(1, { cfg := some dualCfg, job := some { op := 6, copy := 0 } })] } }, by decide +kernel⟩,
   ⟨1, { op := 6, copy := 0 }, dualCfg, { base := 0, len := 0, stepOff := 0, stepCnt := 0, entryOff := 0, entryCnt := 0, manOff := 0, manCnt := 0, sigOff := 0, alg := 0 }, [], manSet, by decide +kernel⟩⟩

/-- States and operands that meet the hypotheses of each clause of SymmetricDescriptors. -/
theorem witness_SymmetricDescriptors :
    (∃ (id : Nat) (d : Desc) (s : State), DescRuns s id 0 d ∧ Passes d []) ∧
    (∃ (id : Nat) (d : Desc) (g : Nat) (k : KeySlot) (src : ReadOutcome) (aux : ReadOutcome) (s : State), DescRuns s id 1 d ∧ Passes d (s.dataChecks d (d.len) (d.len + d.p0) ++ spaceChecks d.auxSp d.aux 24 ++ gcmChecks d ++ s.chainReads d d.auxSp (d.atWork d.auxLen) 36) ∧ s.findKey d.fn d.key [1] = .found g k ∧ s.ranges d (d.len) (d.len + d.p0) = none ∧ d.len ≠ 0 ∧ (source s d (d.len) src).2.1 = .ok ∧ (auxiliary (source s d (d.len) src).1 d aux).2.1 = .ok ∧ (output (auxiliary (source s d (d.len) src).1 d aux).1 d ((gcmEncrypt k.key (d.iv.take 12) (auxiliary (source s d (d.len) src).1 d aux).2.2 (source s d (d.len) src).2.2).1 ++ (gcmEncrypt k.key (d.iv.take 12) (auxiliary (source s d (d.len) src).1 d aux).2.2 (source s d (d.len) src).2.2).2.take d.p0)).2 = .ok) ∧
    (∃ (id : Nat) (d : Desc) (g : Nat) (k : KeySlot) (src : ReadOutcome) (aux : ReadOutcome) (s : State), DescRuns s id 2 d ∧ Passes d (s.dataChecks d (d.atWork (d.len + d.p0)) d.len ++ spaceChecks d.auxSp d.aux 24 ++ gcmChecks d ++ s.chainReads d d.auxSp (d.atWork d.auxLen) 36) ∧ s.findKey d.fn d.key [1] = .found g k ∧ s.ranges d (d.len + d.p0) (d.len) = none ∧ d.len ≠ 0 ∧ (source s d (d.len + d.p0) src).2.1 = .ok ∧ (auxiliary (source s d (d.len + d.p0) src).1 d aux).2.1 = .ok ∧ (output (auxiliary (source s d (d.len + d.p0) src).1 d aux).1 d (if (gcmDecrypt k.key (d.iv.take 12) (auxiliary (source s d (d.len + d.p0) src).1 d aux).2.2 ((source s d (d.len + d.p0) src).2.2.take d.len)).2.take d.p0 = (source s d (d.len + d.p0) src).2.2.drop d.len then (gcmDecrypt k.key (d.iv.take 12) (auxiliary (source s d (d.len + d.p0) src).1 d aux).2.2 ((source s d (d.len + d.p0) src).2.2.take d.len)).1 else List.replicate d.len 0)).2 = .ok) ∧
    (∃ (id : Nat) (d : Desc) (g : Nat) (k : KeySlot) (src : ReadOutcome) (s : State), DescRuns s id 3 d ∧ Passes d (s.dataChecks d d.len d.len) ∧ s.findKey d.fn d.key [1] = .found g k ∧ s.ranges d (d.len) (d.len) = none ∧ d.len ≠ 0 ∧ (source s d (d.len) src).2.1 = .ok ∧ (output (source s d (d.len) src).1 d (aesCtr k.key d.iv (source s d (d.len) src).2.2)).2 = .ok) ∧
    (∃ (id : Nat) (d : Desc) (g : Nat) (k : KeySlot) (src : ReadOutcome) (s : State), DescRuns s id 4 d ∧ Passes d (s.dataChecks d d.len d.len ++ xtsChecks d) ∧ s.findKey d.fn d.key [2] = .found g k ∧ s.ranges d (d.len) (d.len) = none ∧ d.len ≠ 0 ∧ (source s d (d.len) src).2.1 = .ok ∧ (output (source s d (d.len) src).1 d (xtsEncrypt (k.key.take 32) (k.key.drop 32) d.iv (source s d (d.len) src).2.2)).2 = .ok) ∧
    (∃ (id : Nat) (d : Desc) (g : Nat) (k : KeySlot) (src : ReadOutcome) (s : State), DescRuns s id 5 d ∧ Passes d (s.dataChecks d d.len d.len ++ xtsChecks d) ∧ s.findKey d.fn d.key [2] = .found g k ∧ s.ranges d (d.len) (d.len) = none ∧ d.len ≠ 0 ∧ (source s d (d.len) src).2.1 = .ok ∧ (output (source s d (d.len) src).1 d (xtsDecrypt (k.key.take 32) (k.key.drop 32) d.iv (source s d (d.len) src).2.2)).2 = .ok) ∧
    (∃ (id : Nat) (d : Desc) (src : ReadOutcome) (s : State), DescRuns s id 8 d ∧ Passes d (s.dataChecks d d.len 32) ∧ s.ranges d d.len 32 = none ∧ d.len ≠ 0 ∧ (source s d (d.len) src).2.1 = .ok ∧ (output (source s d (d.len) src).1 d (sha256 (source s d (d.len) src).2.2)).2 = .ok) ∧
    (∃ (id : Nat) (d : Desc) (g : Nat) (k : KeySlot) (src : ReadOutcome) (s : State), DescRuns s id 9 d ∧ Passes d (s.dataChecks d d.len d.p0 ++ [(decide (d.p0 < 16) || decide (32 < d.p0), .badParam, 41)]) ∧ s.findKey d.fn d.key [3] = .found g k ∧ s.ranges d (d.len) (d.p0) = none ∧ d.len ≠ 0 ∧ (source s d (d.len) src).2.1 = .ok ∧ (output (source s d (d.len) src).1 d ((hmac256 k.key (source s d (d.len) src).2.2).take d.p0)).2 = .ok) ∧
    (∃ (id : Nat) (d : Desc) (g : Nat) (k : KeySlot) (src : ReadOutcome) (aux : ReadOutcome) (s : State), DescRuns s id 10 d ∧ Passes d (spaceChecks d.srcSp d.src 8 ++ spaceChecks d.auxSp d.aux 24 ++ s.chainReads d d.srcSp d.len 32 ++ [(decide (d.auxLen < 16) || decide (32 < d.auxLen), .badParam, 36)] ++ s.chainReads d d.auxSp (d.atWork d.auxLen) 36) ∧ s.findKey d.fn d.key [3] = .found g k ∧ d.len ≠ 0 ∧ firstFail (s.rangeCheck d d.srcSp d.src d.len false ++ s.rangeCheck d d.auxSp d.aux d.auxLen false) = none ∧ (source s d (d.len) src).2.1 = .ok ∧ (auxiliary (source s d (d.len) src).1 d aux).2.1 = .ok) ∧
    (∃ (id : Nat) (d : Desc) (s : State), DescRuns s id 16 d ∧ Passes d (spaceChecks d.dstSp d.dst 16 ++ [(decide (65536 < d.len), .badParam, 32)] ++ chainWrites d d.len) ∧ d.len ≠ 0 ∧ firstFail (s.rangeCheck d d.dstSp d.dst d.len true) = none ∧ s.on RNG_STAT_OK = true ∧ (output (s.random d.len).2 d ((s.random d.len).1.getD [])).2 = .ok) ∧
    (∃ (id : Nat) (d : Desc) (s : State), DescRuns s id 8 d ∧ Passes d (s.dataChecks d d.len 32) ∧ d.len = 0) :=
  ⟨⟨0, (descWith 0 0 32 0 0 0 []), (descUp (descWith 0 0 32 0 0 0 []) 0 0), by decide +kernel⟩,
   ⟨0, (descWith 1 0 32 16 16 0 []), 0, { cls := 1, wrappable := true, key := List.replicate 32 1 }, .unsupported, .unsupported, (descUp (descWith 1 0 32 16 16 0 []) 1 32), by decide +kernel⟩,
   ⟨0, (descWith 2 0 32 16 16 0 []), 0, { cls := 1, wrappable := true, key := List.replicate 32 1 }, .unsupported, .unsupported, (descUp (descWith 2 0 32 16 16 0 []) 1 32), by decide +kernel⟩,
   ⟨0, (descWith 3 0 32 0 0 0 []), 0, { cls := 1, wrappable := true, key := List.replicate 32 1 }, .unsupported, (descUp (descWith 3 0 32 0 0 0 []) 1 32), by decide +kernel⟩,
   ⟨0, (descWith 4 0 32 0 0 0 []), 0, { cls := 2, wrappable := true, key := List.replicate 64 1 }, .unsupported, (descUp (descWith 4 0 32 0 0 0 []) 2 64), by decide +kernel⟩,
   ⟨0, (descWith 5 0 32 0 0 0 []), 0, { cls := 2, wrappable := true, key := List.replicate 64 1 }, .unsupported, (descUp (descWith 5 0 32 0 0 0 []) 2 64), by decide +kernel⟩,
   ⟨0, (descWith 8 0 32 0 0 0 []), .unsupported, (descUp (descWith 8 0 32 0 0 0 []) 0 0), by decide +kernel⟩,
   ⟨0, (descWith 9 0 32 0 16 0 []), 0, { cls := 3, wrappable := true, key := List.replicate 32 1 }, .unsupported, (descUp (descWith 9 0 32 0 16 0 []) 3 32), by decide +kernel⟩,
   ⟨0, (descWith 10 0 32 32 0 0 []), 0, { cls := 3, wrappable := true, key := List.replicate 32 1 }, .unsupported, .unsupported, (descUp (descWith 10 0 32 32 0 0 []) 3 32), by decide +kernel⟩,
   ⟨0, (descWith 16 0 32 0 0 0 []), (descUp (descWith 16 0 32 0 0 0 []) 0 0), by decide +kernel⟩,
   ⟨0, (descWith 8 0 0 0 0 0 []), (descUp (descWith 8 0 0 0 0 0 []) 0 0), by decide +kernel⟩⟩

/-- States and operands that meet the hypotheses of each clause of KeyDescriptors. -/
theorem witness_KeyDescriptors :
    (∃ (id : Nat) (z : Nat) (d : Desc) (src : ReadOutcome) (s : State), DescRuns s id 24 d ∧ Passes d (spaceChecks d.srcSp d.src 8 ++ classCheck d ++ [(!lenFits d.p0 d.len, .badParam, 32)] ++ s.chainReads d d.srcSp d.len 32) ∧ s.target d = .ok z ∧ (s.on (FN_WIN_PLAIN_OK d.fn) = true ∨ d.p0 = 9 ∨ d.p0 = 11) ∧ firstFail (s.rangeCheck d d.srcSp d.src d.len false) = none ∧ (source s d (d.len) src).2.1 = .ok ∧ asymmetric d.p0 = false) ∧
    (∃ (id : Nat) (z : Nat) (d : Desc) (src : ReadOutcome) (s : State), DescRuns s id 24 d ∧ Passes d (spaceChecks d.srcSp d.src 8 ++ classCheck d ++ [(!lenFits d.p0 d.len, .badParam, 32)] ++ s.chainReads d d.srcSp d.len 32) ∧ s.target d = .ok z ∧ (s.on (FN_WIN_PLAIN_OK d.fn) = true ∨ d.p0 = 9 ∨ d.p0 = 11) ∧ firstFail (s.rangeCheck d d.srcSp d.src d.len false) = none ∧ (source s d (d.len) src).2.1 = .ok ∧ asymmetric d.p0 = true) ∧
    (∃ (id : Nat) (z : Nat) (g : Nat) (d : Desc) (k : KeySlot) (src : ReadOutcome) (s : State), DescRuns s id 25 d ∧ Passes d (spaceChecks d.srcSp d.src 8 ++ classCheck d ++ [(decide (d.len = 0), .badParam, 32)] ++ s.chainReads d d.srcSp d.len 32) ∧ s.findKey d.fn d.key [4] = .found g k ∧ s.target d = .ok z ∧ firstFail (s.rangeCheck d d.srcSp d.src d.len false) = none ∧ (source s d (d.len) src).2.1 = .ok) ∧
    (∃ (id : Nat) (g : Nat) (h : Nat) (d : Desc) (k : KeySlot) (x : KeySlot) (s : State), DescRuns s id 26 d ∧ Passes d (spaceChecks d.dstSp d.dst 16 ++ chainWrites d 0) ∧ s.findKey d.fn d.key [4] = .found g k ∧ s.findKey d.fn d.p1 [1, 2, 3, 4, 5, 6, 7, 8, 9, 10, 11, 12, 13] = .found h x ∧ x.wrappable = true ∧ firstFail (s.rangeCheck d d.dstSp d.dst (kwpWrap k.key x.key).length true) = none ∧ (output s d (kwpWrap k.key x.key)).2 = .ok) ∧
    (∃ (id : Nat) (z : Nat) (d : Desc) (s : State), DescRuns s id 27 d ∧ Passes d (classCheck d ++ (if asymmetric d.p0 then spaceChecks d.dstSp d.dst 16 ++ chainWrites d 0 else [])) ∧ s.target d = .ok z ∧ asymmetric d.p0 = false ∧ s.on RNG_STAT_OK = true) ∧
    (∃ (id : Nat) (z : Nat) (d : Desc) (s : State), DescRuns s id 27 d ∧ Passes d (classCheck d ++ (if asymmetric d.p0 then spaceChecks d.dstSp d.dst 16 ++ chainWrites d 0 else [])) ∧ s.target d = .ok z ∧ asymmetric d.p0 = true ∧ d.p0 ≠ 9 ∧ d.p0 ≠ 11 ∧ firstFail (s.rangeCheck d d.dstSp d.dst (if d.p0 = 8 then 64 else if d.p0 = clsRsa then 384 else 32) true) = none) ∧
    (∃ (id : Nat) (z : Nat) (g : Nat) (d : Desc) (k : KeySlot) (src : ReadOutcome) (aux : ReadOutcome) (s : State), DescRuns s id 28 d ∧ Passes d (spaceChecks d.srcSp d.src 8 ++ spaceChecks d.auxSp d.aux 24 ++ classCheck d ++ [(decide (d.p0 = clsRsa), .badParam, 41), (decide (256 < d.len), .badParam, 32), (decide (64 < d.auxLen), .badParam, 36)] ++ s.chainReads d d.srcSp d.len 32 ++ s.chainReads d d.auxSp d.auxLen 36) ∧ s.findKey d.fn d.key [5] = .found g k ∧ s.target d = .ok z ∧ firstFail (s.rangeCheck d d.srcSp d.src d.len false ++ s.rangeCheck d d.auxSp d.aux d.auxLen false) = none ∧ (source s d (d.len) src).2.1 = .ok ∧ (auxiliary (source s d (d.len) src).1 d aux).2.1 = .ok) ∧
    (∃ (id : Nat) (g : Nat) (d : Desc) (s : State), DescRuns s id 29 d ∧ Passes d [] ∧ s.globalSlot d.fn d.p1 = some g) ∧
    (∃ (id : Nat) (g : Nat) (d : Desc) (s : State), DescRuns s id 30 d ∧ Passes d (spaceChecks d.dstSp d.dst 16 ++ chainWrites d 64) ∧ s.globalSlot d.fn d.p1 = some g ∧ firstFail (s.rangeCheck d d.dstSp d.dst 64 true) = none ∧ (s.slot g).bad = false ∧ (output s d (keyInfo (s.slot g))).2 = .ok) :=
  ⟨⟨0, 5, (descWith 24 0 32 0 1 5 []), .unsupported, (descUp (descWith 24 0 32 0 1 5 []) 0 0), by decide +kernel⟩,
   ⟨0, 5, (descWith 24 0 32 0 8 5 []), .unsupported, (descUp (descWith 24 0 32 0 8 5 []) 0 0), by decide +kernel⟩,
   ⟨0, 5, 0, wrapDesc, { cls := 4, wrappable := true, key := List.replicate 32 1 }, (.data []), wrapUp, by decide +kernel⟩,
   ⟨0, 0, 0, (descWith 26 0 0 0 0 0 []), { cls := 4, wrappable := true, key := List.replicate 32 1 }, { cls := 4, wrappable := true, key := List.replicate 32 1 }, (descUp (descWith 26 0 0 0 0 0 []) 4 32), by decide +kernel⟩,
   ⟨0, 5, (descWith 27 0 0 0 4 5 []), (descUp (descWith 27 0 0 0 4 5 []) 0 0), by decide +kernel⟩,
   ⟨0, 5, (descWith 27 0 0 0 10 5 []), (descUp (descWith 27 0 0 0 10 5 []) 0 0), by decide +kernel⟩,
   ⟨0, 5, 0, (descWith 28 0 16 16 4 5 []), { cls := 5, wrappable := true, key := List.replicate 32 1 }, .unsupported, .unsupported, (descUp (descWith 28 0 16 16 4 5 []) 5 32), by decide +kernel⟩,
   ⟨0, 0, (descWith 29 0 0 0 0 0 []), (descUp (descWith 29 0 0 0 0 0 []) 4 32), by decide +kernel⟩,
   ⟨0, 0, (descWith 30 0 0 0 0 0 []), (descUp (descWith 30 0 0 0 0 0 []) 4 32), by decide +kernel⟩⟩

/-- States and operands that meet the hypotheses of each clause of SealsRingsAndGenerator. -/
theorem witness_SealsRingsAndGenerator :
    (∃ (id : Nat) (g : Nat) (d : Desc) (k : KeySlot) (src : ReadOutcome) (s : State), DescRuns s id 48 d ∧ Passes d ([(decide (1 < d.p0), .badDesc, 41)] ++ spaceChecks d.dstSp d.dst 16 ++ chainWrites d 128 ++ [(decide (d.dst % 128 ≠ 0), .badAddr, 16)]) ∧ s.findKey d.fn d.key [if d.p0 = 0 then 8 else 10] = .found g k ∧ d.len ≠ 0 ∧ firstFail (spaceChecks d.srcSp d.src 8 ++ s.chainReads d d.srcSp d.len 32 ++ s.rangeCheck d d.srcSp d.src d.len false) = none ∧ firstFail (s.rangeCheck d d.dstSp d.dst 128 true) = none ∧ (source s d d.len src).2.1 = .ok ∧ (source s d d.len src).1.on RNG_STAT_OK = true) ∧
    (∃ (id : Nat) (g : Nat) (d : Desc) (k : KeySlot) (src : ReadOutcome) (aux : ReadOutcome) (s : State), DescRuns s id 49 d ∧ Passes d (spaceChecks d.srcSp d.src 8 ++ spaceChecks d.auxSp d.aux 24 ++ s.chainReads d d.srcSp d.len 32 ++ [(decide (d.auxLen ≠ 128), .badParam, 36)] ++ s.chainReads d d.auxSp (d.atWork d.auxLen) 36) ∧ s.findKey d.fn d.key [9, 11] = .found g k ∧ d.len ≠ 0 ∧ firstFail (s.rangeCheck d d.srcSp d.src d.len false ++ s.rangeCheck d d.auxSp d.aux d.auxLen false) = none ∧ (source s d (d.len) src).2.1 = .ok ∧ (auxiliary (source s d (d.len) src).1 d aux).2.1 = .ok ∧ leNat ((auxiliary (source s d (d.len) src).1 d aux).2.2.take 4) = 0x4C414553 ∧ leNat (((auxiliary (source s d (d.len) src).1 d aux).2.2.drop 4).take 1) = 1 ∧ leNat (((auxiliary (source s d (d.len) src).1 d aux).2.2.drop 6).take 1) = 0 ∧ leNat (((auxiliary (source s d (d.len) src).1 d aux).2.2.drop 5).take 1) = (if k.cls = 9 then 0 else 1) ∧ ((auxiliary (source s d (d.len) src).1 d aux).2.2.drop 0x20).take 32 = sha256 (source s d (d.len) src).2.2) ∧
    (∃ (s : State), s.Awake 0x400 ∧ s.on RNG_STAT_OK = true) ∧
    (∃ (fn : Nat) (s : State), s.Reaches fn 0x400 ∧ s.Flowing) ∧
    (∃ (s : State), s.Awake 0x400 ∧ s.sluice.restarting = true) ∧
    (∃ (fn : Nat) (f : Nat) (r : Nat) (s : State), s.Reaches fn (0x401 + f) ∧ s.Flowing ∧ s.quiet 0x400 = false ∧ s.quiet (0x401 + f) = false ∧ s.on (RQ_CFG_ENABLE f r) = true) ∧
    (∃ (fn : Nat) (f : Nat) (r : Nat) (s : State), s.Reaches fn (0x401 + f) ∧ s.Flowing ∧ s.quiet 0x400 = false ∧ s.quiet (0x401 + f) = false ∧ s.on (CQ_CFG_ENABLE f r) = true) ∧
    (∃ (fn : Nat) (f : Nat) (r : Nat) (cq : Nat) (s : State), s.Reaches fn (0x401 + f) ∧ f < 9 ∧ r < 4 ∧ s.on (RQ_CFG_ENABLE f r) = false ∧ s.on (CQ_CFG_ENABLE f (cq % 4)) = true ∧ s.get (RQ_SIZE f r) ≠ 0) ∧
    (∃ (fn : Nat) (f : Nat) (r : Nat) (s : State), s.Reaches fn (0x401 + f) ∧ f < 9 ∧ r < 4 ∧ s.on (CQ_CFG_ENABLE f r) = false ∧ s.get (CQ_SIZE f r) ≠ 0) ∧
    (∃ (f : Nat) (r : Nat) (es : List ReadOutcome) (s : State), s.Awake 0x400 ∧ s.on (RQ_CFG_ENABLE f r) = true ∧ s.cqFull f (s.get (RQ_CFG_CQ f r)) = false ∧ s.admits f = true ∧ s.quiet 0x400 = false ∧ s.quiet (0x401 + f) = false ∧ s.hostHeld f (s.entryIova f r (s.get (RQ_CI f r))) 64 = false ∧ (requests s f r es).2.1 = .ok) ∧
    (∃ (f : Nat) (r : Nat) (e : List Byte) (s : State), f < 9 ∧ r < 4 ∧ (s.reqRing f r).chain = none ∧ (s.entryDesc f r e).link = false ∧ (s.entryDesc f r e).once = false) ∧
    (∃ (id : Nat) (n : Nat) (dt : Nat) (d : Desc) (st : Status) (s : State), s.Awake 0x400 ∧ s.desc id = some d ∧ d.state = .ended st n dt ∧ s.resetting d.fn = false ∧ s.hostHeld d.fn (s.recordIova d) 32 = false ∧ s.recordDue d = true ∧ d.fn < 9 ∧ d.cq < 4) ∧
    (∃ (slot : Nat) (s : State), (s.slot slot).cls ≠ clsRsa) ∧
    (∃ (fn : Nat) (s : State), s.Reaches fn 0x400 ∧ (s.page 0x400).lock = false ∧ s.admittedOf 0 = 0) ∧
    (∃ (fn : Nat) (f : Nat) (base : Nat) (cnt : Nat) (ok : Bool) (s : State), s.Reaches fn 0x400 ∧ (s.page 0x400).lock = false ∧ 0 < f ∧ f < 9 ∧ base % 16 = 0 ∧ cnt % 16 = 0 ∧ base % 512 + cnt % 1024 ≤ 512 ∧ (∀ g, g < 9 → 0 < g → g ≠ f → cnt % 1024 = 0 ∨ s.get (FN_WIN_CNT g) = 0 ∨ base % 512 + cnt % 1024 ≤ s.get (FN_WIN_BASE g) ∨ s.get (FN_WIN_BASE g) + s.get (FN_WIN_CNT g) ≤ base % 512) ∧ (∀ i, i < 512 → (s.slot i).cls ≠ 0 → (((s.flag (FN_WIN_PLAIN_OK f) ok).set (FN_WIN_BASE f) (base % 512)).set (FN_WIN_CNT f) (cnt % 1024)).slotHolder i = s.slotHolder i) ∧ s.admittedOf f = 0) :=
  ⟨⟨0, 0, descWith 48 0 32 0 1 0 [], { cls := 10, wrappable := true, key := List.replicate 32 1 }, .unsupported, descUp (descWith 48 0 32 0 1 0 []) 10 32, by decide +kernel⟩,
   ⟨0, 0, sealDesc0, { cls := 9, wrappable := true, key := List.replicate 64 1 }, .unsupported, (.data sealBlk), sealUp, by decide +kernel⟩,
   ⟨(up.flag RNG_STAT_OK true), by decide +kernel⟩,
   ⟨0, up, by decide +kernel⟩,
   ⟨{ up with sluice := { up.sluice with restarting := true } }, by decide +kernel⟩,
   ⟨0, 1, 2, ((up.set (RQ_SIZE 1 2) 16).flag (RQ_CFG_ENABLE 1 2) true), by decide +kernel⟩,
   ⟨0, 1, 2, (up.flag (CQ_CFG_ENABLE 1 2) true), by decide +kernel⟩,
   ⟨0, 1, 2, 3, ((up.set (RQ_SIZE 1 2) 16).flag (CQ_CFG_ENABLE 1 3) true), by decide +kernel⟩,
   ⟨0, 1, 2, (up.set (CQ_SIZE 1 2) 16), by decide +kernel⟩,
   ⟨0, 0, [.data (List.replicate 64 0)], ((up.flag (RQ_CFG_ENABLE 0 0) true).set (RQ_PI 0 0) 1).set (RQ_SIZE 0 0) 4, by decide +kernel⟩,
   ⟨0, 0, List.replicate 64 0, up, by decide +kernel⟩,
   ⟨0, 0, 0, { (descWith 0 0 32 0 0 0 []) with state := .ended .ok 0 0 }, .ok, (descUp { (descWith 0 0 32 0 0 0 []) with state := .ended .ok 0 0 } 0 0), by decide +kernel⟩,
   ⟨3, up, by decide +kernel⟩,
   ⟨0, up, by decide +kernel⟩,
   ⟨0, 1, 16, 32, true, up, by decide +kernel⟩⟩

/-- States and operands that meet the hypotheses of each clause of PublicKeyDescriptors. -/
theorem witness_PublicKeyDescriptors :
    (∃ (id : Nat) (d : Desc) (g : Nat) (k : KeySlot) (src : ReadOutcome) (s : State), DescRuns s id 32 d ∧ Passes d (p0Checks d 3 [0] ++ s.pkeChecks d (msgOk d) none (some 64)) ∧ s.findKey d.fn d.key [8] = .found g k ∧ d.len ≠ 0 ∧ firstFail (s.rangeCheck d d.srcSp d.src d.len false ++ s.rangeCheck d d.dstSp d.dst (64) true) = none ∧ (source s d (d.len) src).2.1 = .ok) ∧
    (∃ (id : Nat) (d : Desc) (g : Nat) (k : KeySlot) (src : ReadOutcome) (aux : ReadOutcome) (s : State), DescRuns s id 33 d ∧ Passes d (p0Checks d 1 [0] ++ s.pkeChecks d (msgOk d) (some (d.auxLen == 64)) none) ∧ s.findKey d.fn d.key [9] = .found g k ∧ d.len ≠ 0 ∧ firstFail (s.rangeCheck d d.srcSp d.src d.len false ++ s.rangeCheck d d.auxSp d.aux d.auxLen false) = none ∧ (source s d (d.len) src).2.1 = .ok ∧ (auxiliary (source s d (d.len) src).1 d aux).2.1 = .ok) ∧
    (∃ (id : Nat) (d : Desc) (src : ReadOutcome) (aux : ReadOutcome) (s : State), DescRuns s id 34 d ∧ Passes d (p0Checks d 0x71 [0, 2, 3, 4, 5, 6, 7] ++ s.pkeChecks d (if bitsOf d.p0 4 3 = 0 then msgOk d else !bitOf d.p0 0 || (decide (20 ≤ d.len) && decide (d.len ≤ 64))) (some (d.auxLen == 4 * (s.curve (bitsOf d.p0 4 3)).elim (d.auxLen / 4) (·.2))) none) ∧ d.len ≠ 0 ∧ firstFail (s.rangeCheck d d.srcSp d.src d.len false ++ s.rangeCheck d d.auxSp d.aux d.auxLen false) = none ∧ (source s d (d.len) src).2.1 = .ok ∧ (auxiliary (source s d (d.len) src).1 d aux).2.1 = .ok) ∧
    (∃ (id : Nat) (d : Desc) (g : Nat) (k : KeySlot) (src : ReadOutcome) (s : State), DescRuns s id 35 d ∧ Passes d (p0Checks d 1 [0] ++ s.pkeChecks d (d.len == 64) none (some 32)) ∧ s.findKey d.fn d.key [8] = .found g k ∧ bitOf d.p0 0 = false ∧ d.len ≠ 0 ∧ firstFail (s.rangeCheck d d.srcSp d.src d.len false ++ s.rangeCheck d d.dstSp d.dst (32) true) = none ∧ (source s d (d.len) src).2.1 = .ok) ∧
    (∃ (id : Nat) (d : Desc) (g : Nat) (k : KeySlot) (z : Nat) (src : ReadOutcome) (s : State), DescRuns s id 35 d ∧ Passes d (p0Checks d 1 [0] ++ s.pkeChecks d (d.len == 64) none none) ∧ s.findKey d.fn d.key [8] = .found g k ∧ bitOf d.p0 0 = true ∧ s.globalSlot d.fn d.p1 = some z ∧ d.len ≠ 0 ∧ firstFail (s.rangeCheck d d.srcSp d.src d.len false) = none ∧ (source s d (d.len) src).2.1 = .ok) ∧
    (∃ (id : Nat) (d : Desc) (g : Nat) (k : KeySlot) (src : ReadOutcome) (s : State), DescRuns s id 36 d ∧ Passes d (p0Checks d 0 [0] ++ s.pkeChecks d (decide (d.len ≤ 16384)) none (some 64)) ∧ s.findKey d.fn d.key [10] = .found g k ∧ d.len ≠ 0 ∧ firstFail (s.rangeCheck d d.srcSp d.src d.len false ++ s.rangeCheck d d.dstSp d.dst (64) true) = none ∧ (source s d (d.len) src).2.1 = .ok) ∧
    (∃ (id : Nat) (d : Desc) (g : Nat) (k : KeySlot) (src : ReadOutcome) (aux : ReadOutcome) (s : State), DescRuns s id 37 d ∧ Passes d (p0Checks d 0 [0] ++ s.pkeChecks d (decide (d.len ≤ 16384)) (some (d.auxLen == 64)) none) ∧ s.findKey d.fn d.key [11] = .found g k ∧ d.len ≠ 0 ∧ firstFail (s.rangeCheck d d.srcSp d.src d.len false ++ s.rangeCheck d d.auxSp d.aux d.auxLen false) = none ∧ (source s d (d.len) src).2.1 = .ok ∧ (auxiliary (source s d (d.len) src).1 d aux).2.1 = .ok) ∧
    (∃ (id : Nat) (d : Desc) (src : ReadOutcome) (aux : ReadOutcome) (s : State), DescRuns s id 38 d ∧ Passes d (p0Checks d 0 [0] ++ s.pkeChecks d (decide (d.len ≤ 16384)) (some (d.auxLen == 96)) none) ∧ d.len ≠ 0 ∧ firstFail (s.rangeCheck d d.srcSp d.src d.len false ++ s.rangeCheck d d.auxSp d.aux d.auxLen false) = none ∧ (source s d (d.len) src).2.1 = .ok ∧ (auxiliary (source s d (d.len) src).1 d aux).2.1 = .ok) ∧
    (∃ (id : Nat) (d : Desc) (g : Nat) (k : KeySlot) (src : ReadOutcome) (s : State), DescRuns s id 39 d ∧ Passes d (p0Checks d 1 [0] ++ s.pkeChecks d (d.len == 32) none (some 32)) ∧ s.findKey d.fn d.key [12] = .found g k ∧ bitOf d.p0 0 = false ∧ d.len ≠ 0 ∧ firstFail (s.rangeCheck d d.srcSp d.src d.len false ++ s.rangeCheck d d.dstSp d.dst (32) true) = none ∧ (source s d (d.len) src).2.1 = .ok) ∧
    (∃ (id : Nat) (d : Desc) (g : Nat) (k : KeySlot) (z : Nat) (src : ReadOutcome) (s : State), DescRuns s id 39 d ∧ Passes d (p0Checks d 1 [0] ++ s.pkeChecks d (d.len == 32) none none) ∧ s.findKey d.fn d.key [12] = .found g k ∧ bitOf d.p0 0 = true ∧ s.globalSlot d.fn d.p1 = some z ∧ d.len ≠ 0 ∧ firstFail (s.rangeCheck d d.srcSp d.src d.len false) = none ∧ (source s d (d.len) src).2.1 = .ok) ∧
    (∃ (id : Nat) (d : Desc) (g : Nat) (k : KeySlot) (src : ReadOutcome) (s : State), DescRuns s id 40 d ∧ Passes d (p0Checks d 0 [0] ++ s.pkeChecks d (d.len == 384) none (some 384)) ∧ s.findKey d.fn d.key [clsRsa] = .found g k ∧ d.len ≠ 0 ∧ firstFail (s.rangeCheck d d.srcSp d.src d.len false ++ s.rangeCheck d d.dstSp d.dst (384) true) = none ∧ (source s d (d.len) src).2.1 = .ok) ∧
    (∃ (id : Nat) (d : Desc) (src : ReadOutcome) (aux : ReadOutcome) (s : State), DescRuns s id 41 d ∧ Passes d (p0Checks d 0 [0] ++ s.pkeChecks d ([256, 384, 512].contains d.len) (some (d.len == 0 || d.auxLen == d.len)) (some d.len)) ∧ d.len ≠ 0 ∧ firstFail (s.rangeCheck d d.srcSp d.src d.len false ++ s.rangeCheck d d.auxSp d.aux d.auxLen false ++ s.rangeCheck d d.dstSp d.dst (d.len) true) = none ∧ (source s d (d.len) src).2.1 = .ok ∧ (auxiliary (source s d (d.len) src).1 d aux).2.1 = .ok) ∧
    (∃ (id : Nat) (d : Desc) (src : ReadOutcome) (s : State), DescRuns s id 42 d ∧ Passes d (p0Checks d 0x70 [0, 1, 2, 3, 4, 5, 6, 7] ++ s.pkeChecks d (if bitsOf d.p0 4 3 = 1 then d.len == 32 else (s.curve (bitsOf d.p0 4 3)).elim true (fun c => d.len == 2 * c.2)) none none) ∧ d.len ≠ 0 ∧ firstFail (s.rangeCheck d d.srcSp d.src d.len false) = none ∧ (source s d (d.len) src).2.1 = .ok) ∧
    (∃ (id : Nat) (d : Desc) (src : ReadOutcome) (s : State), DescRuns s id 43 d ∧ Passes d (p0Checks d 0x70 [2, 3, 4, 5, 6, 7] ++ [(decide (d.fn ≠ 0), .badParam, 0)] ++ s.pkeChecks d ((List.range 25).any (fun i => d.len == 8 + 6 * (24 + i))) none none) ∧ 8 + 6 * leNat ((source s d (d.len) src).2.2.take 1) = d.len ∧ d.len ≠ 0 ∧ firstFail (s.rangeCheck d d.srcSp d.src d.len false) = none ∧ (source s d (d.len) src).2.1 = .ok) ∧
    (∃ (id : Nat) (d : Desc) (s : State), DescRuns s id 44 d ∧ Passes d (p0Checks d 0x70 [2, 3, 4, 5, 6, 7] ++ [(decide (d.fn ≠ 0), .badParam, 0), (decide (1 < d.len), .badParam, 32)]) ∧ d.len ≠ 0) ∧
    (∃ (id : Nat) (g : Nat) (d : Desc) (k : KeySlot) (s : State), DescRuns s id 36 d ∧ Passes d (p0Checks d 0 [0] ++ s.pkeChecks d (decide (d.len ≤ 16384)) none (some 64)) ∧ s.findKey d.fn d.key [10] = .found g k ∧ d.len = 0) :=
  ⟨⟨0, (descWith 32 0 32 0 0 0 []), 0, { cls := 8, wrappable := true, key := List.replicate 32 1 }, .unsupported, (descUp (descWith 32 0 32 0 0 0 []) 8 32), by decide +kernel⟩,
   ⟨0, (descWith 33 0 32 64 0 0 []), 0, { cls := 9, wrappable := true, key := List.replicate 64 1 }, .unsupported, .unsupported, (descUp (descWith 33 0 32 64 0 0 []) 9 64), by decide +kernel⟩,
   ⟨0, (descWith 34 0 32 128 0 0 []), .unsupported, .unsupported, (descUp (descWith 34 0 32 128 0 0 []) 0 0), by decide +kernel⟩,
   ⟨0, (descWith 35 0 64 0 0 0 []), 0, { cls := 8, wrappable := true, key := List.replicate 32 1 }, .unsupported, (descUp (descWith 35 0 64 0 0 0 []) 8 32), by decide +kernel⟩,
   ⟨0, (descWith 35 0 64 0 1 3 []), 0, { cls := 8, wrappable := true, key := List.replicate 32 1 }, 3, .unsupported, (descUp (descWith 35 0 64 0 1 3 []) 8 32), by decide +kernel⟩,
   ⟨0, (descWith 36 0 32 0 0 0 []), 0, { cls := 10, wrappable := true, key := List.replicate 32 1 }, .unsupported, (descUp (descWith 36 0 32 0 0 0 []) 10 32), by decide +kernel⟩,
   ⟨0, (descWith 37 0 32 64 0 0 []), 0, { cls := 11, wrappable := true, key := List.replicate 32 1 }, .unsupported, .unsupported, (descUp (descWith 37 0 32 64 0 0 []) 11 32), by decide +kernel⟩,
   ⟨0, (descWith 38 0 32 96 0 0 []), .unsupported, .unsupported, (descUp (descWith 38 0 32 96 0 0 []) 0 0), by decide +kernel⟩,
   ⟨0, (descWith 39 0 32 0 0 0 []), 0, { cls := 12, wrappable := true, key := List.replicate 32 1 }, .unsupported, (descUp (descWith 39 0 32 0 0 0 []) 12 32), by decide +kernel⟩,
   ⟨0, (descWith 39 0 32 0 1 3 []), 0, { cls := 12, wrappable := true, key := List.replicate 32 1 }, 3, .unsupported, (descUp (descWith 39 0 32 0 1 3 []) 12 32), by decide +kernel⟩,
   ⟨0, (descWith 40 0 384 0 0 0 []), 0, { cls := 13, wrappable := true, key := List.replicate 960 1 }, .unsupported, (descUp (descWith 40 0 384 0 0 0 []) 13 960), by decide +kernel⟩,
   ⟨0, (descWith 41 0 256 256 0 0 []), .unsupported, .unsupported, (descUp (descWith 41 0 256 256 0 0 []) 0 0), by decide +kernel⟩,
   ⟨0, (descWith 42 0 64 0 0 0 []), .unsupported, (descUp (descWith 42 0 64 0 0 0 []) 0 0), by decide +kernel⟩,
   ⟨0, curveDesc, (.data [24]), (hostUp (descUp curveDesc 0 0)), by decide +kernel⟩,
   ⟨0, (descWith 44 0 1 0 32 0 []), (descUp (descWith 44 0 1 0 32 0 []) 0 0), by decide +kernel⟩,
   ⟨0, 0, (descWith 36 0 0 0 0 0 []), { cls := 10, wrappable := true, key := List.replicate 32 1 }, (descUp (descWith 36 0 0 0 0 0 []) 10 32), by decide +kernel⟩⟩

/-- States and operands that meet the hypotheses of each clause of PublicKeyUnits. -/
theorem witness_PublicKeyUnits :
    (∃ (u : Nat) (j : PkeJob) (js : List PkeJob) (s : State), s.Awake 0x410 ∧ u < 4 ∧ Map.find s.sluice.units u = none ∧ s.quiet 0x410 = false ∧ s.sluice.short = j :: js) ∧
    (∃ (u : Nat) (x : Nat) (r : PkeRun) (rs : List (Nat × PkeRun)) (s : State), s.Awake 0x410 ∧ u < 4 ∧ Map.find s.sluice.units u = none ∧ s.quiet 0x410 = false ∧ s.sluice.short = [] ∧ s.sluice.parked = (x, r) :: rs) ∧
    (∃ (u : Nat) (j : PkeJob) (js : List PkeJob) (s : State), s.Awake 0x410 ∧ u < 4 ∧ Map.find s.sluice.units u = none ∧ s.quiet 0x410 = false ∧ s.sluice.short = [] ∧ s.sluice.parked = [] ∧ s.sluice.long = j :: js ∧ s.longUnits < s.get PKE_CFG_LONG_MAX) ∧
    (∃ (j : PkeJob) (o : PkeOut) (s : State), s.startFault j = none ∧ s.fixedOutcome j = some o) ∧
    (∃ (u : Nat) (r : PkeRun) (s : State), s.Awake 0x410 ∧ u < 4 ∧ Map.find s.sluice.units u = some r ∧ r.job.long = true ∧ r.moving = none ∧ (s.quiet 0x410 = true ∨ 0 < s.shortUnserved)) ∧
    (∃ (u : Nat) (r : PkeRun) (s : State), s.Awake 0x410 ∧ Map.find s.sluice.units u = some r ∧ r.moving = some false) ∧
    (∃ (u : Nat) (r : PkeRun) (s : State), s.Awake 0x410 ∧ Map.find s.sluice.units u = some r ∧ r.moving = some true) ∧
    (∃ (u : Nat) (r : PkeRun) (s : State), s.Awake 0x410 ∧ Map.find s.sluice.units u = some r ∧ r.moving = none ∧ r.refused = true) ∧
    (∃ (u : Nat) (r : PkeRun) (s : State), s.Awake 0x410 ∧ Map.find s.sluice.units u = some r ∧ r.moving = none ∧ r.refused = false ∧ s.outputHeld r = false) ∧
    (∃ (id : Nat) (d : Desc) (j : PkeJob) (o : PkeOut) (s : State), s.desc id = some d ∧ j.use = .desc id ∧ (j.op = 0x20 ∨ j.op = 0x24 ∨ j.op = 0x28 ∨ j.op = 0x29) ∧ o.st = .ok ∧ (output (s.add PKE_OPS_CNT 1) d o.out).2 = .ok) ∧
    (∃ (id : Nat) (d : Desc) (j : PkeJob) (o : PkeOut) (s : State), s.desc id = some d ∧ j.use = .desc id ∧ j.loadsKey = true ∧ o.st = .ok) :=
  ⟨⟨1, { use := .desc 0, fn := 0, op := 0x2C, table := 2 }, [], { up with sluice := { up.sluice with short := [{ use := .desc 0, fn := 0, op := 0x2C, table := 2 }] } }, by decide +kernel⟩,
   ⟨1, 0, { job := { use := .desc 0, fn := 0, op := 0x28, long := true }, out := { st := .ok } }, [], { up with sluice := { up.sluice with parked := [(0, { job := { use := .desc 0, fn := 0, op := 0x28, long := true }, out := { st := .ok } })] } }, by decide +kernel⟩,
   ⟨1, { use := .desc 0, fn := 0, op := 0x2C, table := 2 }, [], { up with sluice := { up.sluice with long := [{ use := .desc 0, fn := 0, op := 0x2C, table := 2 }] } }, by decide +kernel⟩,
   ⟨{ use := .desc 0, fn := 0, op := 0x24, key := [], src := [] }, { st := .ok, out := edSign [] [] }, (up.flag RNG_STAT_OK true), by decide +kernel, rfl⟩,
   ⟨1, { job := { use := .desc 0, fn := 0, op := 0x28, long := true }, out := { st := .ok } }, { up with sluice := { up.sluice with units := (List.range 4).map (fun u => (u, { job := { use := .desc 0, fn := 0, op := 0x28, long := true }, out := { st := .ok } })), short := [{ use := .desc 0, fn := 0, op := 0x2C, table := 2 }] } }, by decide +kernel⟩,
   ⟨1, { longRun with moving := some false }, { up with sluice := { up.sluice with units := [(1, { longRun with moving := some false })] } }, by decide +kernel⟩,
   ⟨1, { longRun with moving := some true }, { up with sluice := { up.sluice with units := [(1, { longRun with moving := some true })] } }, by decide +kernel⟩,
   ⟨1, { job := { use := .desc 0, fn := 0, op := 0x28 }, out := { st := .range } }, { up with sluice := { up.sluice with units := [(1, { job := { use := .desc 0, fn := 0, op := 0x28 }, out := { st := .range } })] } }, by decide +kernel⟩,
   ⟨1, { job := { use := .desc 0, fn := 0, op := 0x2C, table := 2 }, out := { st := .ok } }, { up with sluice := { up.sluice with units := [(1, { job := { use := .desc 0, fn := 0, op := 0x2C, table := 2 }, out := { st := .ok } })] } }, by decide +kernel⟩,
   ⟨0, (descWith 36 0 32 0 0 0 []), { use := .desc 0, fn := 0, op := 0x24 }, { st := .ok, out := List.replicate 64 1 }, (descUp (descWith 36 0 32 0 0 0 []) 0 0), by decide +kernel⟩,
   ⟨0, (descWith 24 0 32 0 0 0 []), { use := .desc 0, fn := 0, op := 0x18, cls := 8 }, { st := .ok }, (descUp (descWith 24 0 32 0 0 0 []) 0 0), by decide +kernel⟩⟩

/-- States and operands that meet the hypotheses of each clause of HostWindowsAndTranslations. -/
theorem witness_HostWindowsAndTranslations :
    (∃ (fn : Nat) (e : Nat) (len : Nat) (valid : Bool) (s : State), s.Reaches fn 0x500 ∧ fn ≤ 8 ∧ e < 16 ∧ (valid = false ∨ (s.on (HW_ATTR_VALID fn e) = false ∧ s.windowBad fn e (len % 2 ^ 24) = false))) ∧
    (∃ (fn : Nat) (e : Nat) (len : Nat) (s : State), s.Reaches fn 0x500 ∧ (s.on (HW_ATTR_VALID fn e) = true ∨ s.windowBad fn e (len % 2 ^ 24) = true)) ∧
    (∃ (fn : Nat) (p : Nat) (s : State), s.pageOn 0x500 = true ∧ s.underInvalidation fn p = false ∧ s.host.translations.length < 2048) ∧
    (∃ (s : State), s.pageOn 0x500 = true) ∧
    (∃ (tag : Nat) (fn : Nat) (p : Nat) (n : Nat) (s : State), s.pageOn 0x500 = true ∧ s.host.invalidating.find? (fun i => i.1 == tag) = some (tag, fn, p, n) ∧ (∀ r ∈ s.host.reads, r.fn = fn → r.iova / 4096 < p + n → r.iova + r.len ≤ p * 4096)) ∧
    (∃ (fn : Nat) (addr : Nat) (n : Nat) (e : Nat) (s : State), fn ≤ 8 ∧ e < 16 ∧ s.on (HW_ATTR_VALID fn e) = true ∧ s.get (HW_OFF fn e) * 4096 ≤ addr ∧ addr + n ≤ (s.get (HW_OFF fn e) + s.get (HW_ATTR_LEN fn e)) * 4096 ∧ 0 < n ∧ (∀ g, g < 16 → g ≠ e → s.on (HW_ATTR_VALID fn g) = true → addr + n ≤ s.get (HW_OFF fn g) * 4096 ∨ (s.get (HW_OFF fn g) + s.get (HW_ATTR_LEN fn g)) * 4096 ≤ addr)) :=
  ⟨⟨0, 0, 1, true, up, by decide +kernel⟩,
   ⟨0, 0, 1, (up.flag (HW_ATTR_VALID 0 0) true), by decide +kernel⟩,
   ⟨0, 0, up, by decide +kernel⟩,
   ⟨(hostUp up), by decide +kernel⟩,
   ⟨7, 0, 0, 1, { up with host := { up.host with invalidating := [(7, 0, 0, 1)] } }, by decide +kernel⟩,
   ⟨0, 0, 4, 0, ((up.set (HW_ATTR_LEN 0 0) 1).flag (HW_ATTR_VALID 0 0) true), by decide +kernel⟩⟩

/-- States and operands that meet the hypotheses of each clause of HostRingControls. -/
theorem witness_HostRingControls :
    (∃ (fn : Nat) (c : Nat) (p : Nat) (s : State), s.Reaches fn (ringPage c) ∧ c < 256 ∧ s.quiet (ringPage c) = false ∧ s.behind (ringPage c) = false ∧ s.on (HR_CTRL_ENABLE c) = true ∧ s.on (HR_STAT_DIR c) = false ∧ bell (p % 2 ^ 32) (s.get (HR_PI c)) (s.get (HR_CI c)) (s.get (HR_SIZE c)) = .accepted) ∧
    (∃ (fn : Nat) (c : Nat) (p : Nat) (s : State), s.Reaches fn (ringPage c) ∧ c < 256 ∧ s.quiet (ringPage c) = false ∧ s.behind (ringPage c) = false ∧ s.on (HR_CTRL_ENABLE c) = true ∧ s.on (HR_STAT_DIR c) = false ∧ bell (p % 2 ^ 32) (s.get (HR_PI c)) (s.get (HR_CI c)) (s.get (HR_SIZE c)) = .rejected) ∧
    (∃ (fn : Nat) (c : Nat) (p : Nat) (s : State), s.Reaches fn (ringPage c) ∧ c < 256 ∧ s.stall = false ∧ s.quiet (ringPage c) = false ∧ s.behind (ringPage c) = false ∧ s.on (HR_CTRL_ENABLE c) = true ∧ s.on (HR_STAT_DIR c) = true ∧ bellConsume (p % 2 ^ 32) (s.get (HR_CI c)) (s.get (HR_PI c)) = .accepted) ∧
    (∃ (s : State) (k : Nat) (x : Cell), Map.find s.work.cells k = some x ∧ x.state = .inUse ∧ x.rewind = none ∧ s.retained x = false ∧ s.finishWaits x.chain = false) ∧
    (∃ (fn : Nat) (c : Nat) (s : State), s.Reaches fn (ringPage c) ∧ c < 256 ∧ s.on (HR_CTRL_ENABLE c) = false ∧ s.ringEnableBad c = false ∧ (s.ring c).busy = false) ∧
    (∃ (fn : Nat) (c : Nat) (s : State), s.Reaches fn (ringPage c) ∧ c < 256 ∧ s.on (HR_CTRL_ENABLE c) = false ∧ s.ringEnableBad c = true) ∧
    (∃ (fn : Nat) (c : Nat) (s : State), s.Reaches fn (ringPage c) ∧ c < 256 ∧ s.on (HR_CTRL_ENABLE c) = true ∧ (s.on (HR_STAT_DIR c) = false ∨ s.get (HR_PI c) = s.get (HR_CI c))) ∧
    (∃ (fn : Nat) (c : Nat) (s : State), s.Reaches fn (ringPage c) ∧ c < 256) ∧
    (∃ (fn : Nat) (c : Nat) (s : State), s.Reaches fn (ringPage c) ∧ c < 256 ∧ s.on (HR_STAT_DIR c) = false ∧ s.stall = false ∧ s.quiet (ringPage c) = false ∧ s.behind (ringPage c) = false ∧ s.hostHeld (s.chainHolder c) (s.pair (HR_WB_LO c) (HR_WB_HI c)) 4 = false ∧ s.on (HR_STAT_STOPPED c) = true) ∧
    (∃ (fn : Nat) (c : Nat) (s : State), s.Reaches fn (ringPage c) ∧ c < 256 ∧ s.on (HR_STAT_DIR c) = true) :=
  ⟨⟨0, 0, 2, inRing, by decide +kernel⟩,
   ⟨0, 0, 100, inRing, by decide +kernel⟩,
   ⟨0, 0, 1, outSent, by decide +kernel⟩,
   ⟨outSent, 0, { chain := 0, buf := 0, state := .inUse, header := [4, 0, 0, 0] ++ List.replicate 60 0 }, by decide +kernel⟩,
   ⟨0, 0, (ringUp 2 0), by decide +kernel⟩,
   ⟨0, 0, up, by decide +kernel⟩,
   ⟨0, 0, inRing, by decide +kernel⟩,
   ⟨0, 0, inRing, by decide +kernel⟩,
   ⟨0, 0, (inRing.flag (HR_STAT_STOPPED 0) true), by decide +kernel⟩,
   ⟨0, 0, outRing, by decide +kernel⟩⟩

/-- States and operands that meet the hypotheses of each clause of HostRingProcessing. -/
theorem witness_HostRingProcessing :
    (∃ (c : Nat) (d : ChainDesc) (entry : ReadOutcome) (b : List Byte) (s : State), InboundTurn s c d ∧ c < 256 ∧ inboundEntry s c entry = (s, .ok, b) ∧ d.slot * 4096 < hdr b 0 4 % 2 ^ 28) ∧
    (∃ (c : Nat) (d : ChainDesc) (entry : ReadOutcome) (b : List Byte) (s : State), InboundTurn s c d ∧ c < 256 ∧ inboundEntry s c entry = (s, .ok, b) ∧ hdr b 0 4 % 2 ^ 28 ≤ d.slot * 4096 ∧ bitOf (hdr b 68 1) 0 = true ∧ (s.ring c).tagged = false ∧ hdr b 64 4 ∈ (s.ring c).tags) ∧
    (∃ (c : Nat) (d : ChainDesc) (entry : ReadOutcome) (b : List Byte) (s : State), InboundTurn s c d ∧ c < 256 ∧ inboundEntry s c entry = (s, .ok, b) ∧ 0 < hdr b 0 4 % 2 ^ 28 ∧ hdr b 0 4 % 2 ^ 28 ≤ d.slot * 4096 ∧ (bitOf (hdr b 68 1) 0 = false ∨ (s.ring c).tagged = true ∨ hdr b 64 4 ∉ (s.ring c).tags) ∧ s.ringTurn c = true ∧ s.host.waitLinkReset = false ∧ s.hostDenied (s.chainHolder c) (s.ringPayAt c d.slot (s.get (HR_CI c))) (hdr b 0 4 % 2 ^ 28) false = false) ∧
    (∃ (c : Nat) (d : ChainDesc) (entry : ReadOutcome) (b : List Byte) (st : Status) (z : State) (s : State), InboundTurn s c d ∧ inboundEntry s c entry = (z, st, b) ∧ st ≠ .ok) ∧
    (∃ (c : Nat), c < 256) ∧
    (∃ (id : Nat) (r : HostRead) (s : State), s.host.reads.find? (fun x => x.id == id) = some r ∧ s.stall = false ∧ s.behind 0x500 = false ∧ s.usedHeld r = false) ∧
    (∃ (r : HostRead) (o : ReadOutcome), (∀ b, o ≠ .data b) ∧ r.use.isFlush = false) ∧
    (∃ (fn : Nat) (s : State), s.host.abortLog.length < 64 ∧ fn ≤ 8) ∧
    (∃ (c : Nat) (k : Nat) (x : Cell) (b : List Byte) (s : State) (u : State), (s.ring c).cell = some k ∧ Map.find s.work.cells k = some x ∧ x.id = (s.ring c).id ∧ x.chain = c ∧ x.state = .building ∧ c < 256 ∧ s.hbmWrite (.home 2) (s.chainHolder c) 0 0 (s.payAddr x 0) (padLines b) = (u, .ok)) ∧
    (∃ (c : Nat) (k : Nat) (x : Cell) (y : Cell) (d : ChainDesc) (t1 : State) (t2 : State) (t3 : State) (s : State) (b : List Byte), OutboundTurn s c d ∧ c < 256 ∧ (s.ring c).cell = none ∧ s.takeOpen c 2 = true ∧ s.headItem c = some (k, x) ∧ s.on (HR_CTRL_FLUSH c) = false ∧ y = { x with state := .inUse, take := s.get (CH_TAKE_SEQ x.chain) } ∧ ((s.takeCell k x).setRing c { s.ring c with cell := some k }).hbmRead (.home 2) (s.chainHolder c) 0 0 (s.payAddr x 0) (hdr x.header 0 4 % 2 ^ 28) = (t1, .ok, b) ∧ t1.hostWrite (s.chainHolder c) 3 (s.ringPayAt c d.slot (s.get (HR_PI c))) b = (t2, .ok) ∧ t2.hostWrite (s.chainHolder c) 3 (s.ringEntryAt c (s.get (HR_PI c))) (t2.ringRecord y) = (t3, .ok)) :=
  ⟨⟨0, { length := 4, reserve := 4, src := 2, srcPort := 0, sink := 0, sinkPort := 0, slot := 1, pay := 0 }, (.data [1, 16]), ([1, 16] ++ List.replicate 126 0), inRing, by decide +kernel⟩,
   ⟨0, { length := 4, reserve := 4, src := 2, srcPort := 0, sink := 0, sinkPort := 0, slot := 1, pay := 0 }, (.data (List.replicate 64 0 ++ [0, 0, 0, 0, 1])), (List.replicate 64 0 ++ [0, 0, 0, 0, 1] ++ List.replicate 59 0), (inRing.setRing 0 { tags := [0] }), by decide +kernel⟩,
   ⟨0, { length := 4, reserve := 4, src := 2, srcPort := 0, sink := 0, sinkPort := 0, slot := 1, pay := 0 }, (.data [4]), ([4] ++ List.replicate 127 0), { inRing with host := { inRing.host with translations := [] } }, by decide +kernel⟩,
   ⟨0, { length := 4, reserve := 4, src := 2, srcPort := 0, sink := 0, sinkPort := 0, slot := 1, pay := 0 }, .timeout, [], .aborted, (inboundEntry inRing 0 .timeout).1, inRing, by decide +kernel, rfl, by decide +kernel⟩,
   ⟨0, by decide +kernel⟩,
   ⟨0, ⟨0, 0, 2, 0x10000, 4, .ringPayload 0⟩, inBusy, by decide +kernel⟩,
   ⟨⟨0, 0, 2, 0x10000, 4, .ringPayload 0⟩, .timeout, (by intro b h; cases h), by decide +kernel⟩,
   ⟨0, up, by decide +kernel⟩,
   ⟨0, 0, { chain := 0, buf := 0, state := .building, header := List.replicate 64 0 }, [1], inBusy, (inBusy.hbmWrite (.home 2) 0 0 0 0 (padLines [1])).1, by decide +kernel⟩,
   ⟨0, 0, { chain := 0, buf := 0, state := .ready, header := [4, 0, 0, 0] ++ List.replicate 60 0 }, { chain := 0, buf := 0, state := .inUse, header := [4, 0, 0, 0] ++ List.replicate 60 0 }, { length := 4, reserve := 4, src := 0, srcPort := 0, sink := 2, sinkPort := 0, slot := 1, pay := 0 }, out1, out2, out3, outRing, (outTaken.hbmRead (.home 2) 0 0 0 0 4).2.2, by decide +kernel⟩⟩

/-- States and operands that meet the hypotheses of each clause of HostEventsAndLink. -/
theorem witness_HostEventsAndLink :
    (∃ (fn : Nat) (v : Nat) (s : State), s.Reaches fn 0x500 ∧ v < vectorsOf fn ∧ s.sees fn (s.get (IRQ_SEL fn)) = true ∧ fn ≤ 8) ∧
    (∃ (fn : Nat) (v : Nat) (s : State), s.Reaches fn 0x500 ∧ (vectorsOf fn ≤ v ∨ s.sees fn (s.get (IRQ_SEL fn)) = false)) ∧
    (∃ (fn : Nat) (v : Nat) (s : State), s.pageOn 0x500 = true ∧ v < vectorsOf fn ∧ fn * 2048 + v ∉ s.host.unmasked ∧ fn ∉ s.host.d3hot ∧ fn ∈ s.host.msixEnabled ∧ (∀ k ∈ s.host.owed, k / 16384 ≠ fn) ∧ (∀ k ∈ s.host.vecPending, k / 2048 = fn → k = fn * 2048 + v) ∧ v < 2048) ∧
    (∃ (fn : Nat) (s : State), s.pageOn 0x500 = true ∧ fn ∉ s.host.msixEnabled) ∧
    (∃ (fn : Nat) (page : Nat) (s : State), fn ∉ s.host.d3hot ∧ fn ∈ s.host.msixEnabled ∧ page < 16384 ∧ s.host.owed = [fn * 16384 + page] ∧ s.host.vecPending = [] ∧ (s.page (pageKey fn page)).summary = true ∧ s.resetting fn = false ∧ (s.route fn page).en = true ∧ fn * 2048 + (s.route fn page).vector ∈ s.host.unmasked) ∧
    (∃ (s : State), s.pageOn 0x500 = true) ∧
    (∃ (c : Nat) (r : HostRead) (s : State), s.host.reads = [r] ∧ r.use = .ringPayload c) ∧
    (∃ (e : AbortEntry) (es : List AbortEntry) (s : State), s.Reaches 0 0x500 ∧ s.host.abortLog = e :: es) ∧
    (∃ (fn : Nat) (s : State), s.Reaches fn 0x500 ∧ (s.host.abortLog = [] ∨ fn ≠ 0)) ∧
    (∃ (speed : Nat) (width : Nat) (s : State), s.Reaches 0 0x500 ∧ 4 ≤ speed ∧ (width = 1 ∨ width = 2 ∨ width = 4 ∨ width = 8 ∨ width = 16)) :=
  ⟨⟨0, 5, up, by decide +kernel⟩,
   ⟨0, 2048, up, by decide +kernel⟩,
   ⟨0, 5, { up with host := { up.host with msixEnabled := [0], vecPending := [5] } }, by decide +kernel⟩,
   ⟨0, up, by decide +kernel⟩,
   ⟨0, 0, owing, by decide +kernel⟩,
   ⟨up, by decide +kernel⟩,
   ⟨0, ⟨0, 0, 2, 0x10000, 4, .ringPayload 0⟩, inBusy, by decide +kernel⟩,
   ⟨⟨0, 2, 4, 0x32, 4096, ⟨0, 0⟩⟩, [], { up with host := { up.host with abortLog := [⟨0, 2, 4, 0x32, 4096, ⟨0, 0⟩⟩] } }, by decide +kernel⟩,
   ⟨0, up, by decide +kernel⟩,
   ⟨6, 16, up, by decide +kernel⟩⟩

/-- States and operands that meet the hypotheses of each clause of InstancesQuiesceInStages. -/
theorem witness_InstancesQuiesceInStages :
    (∃ (fn : Nat) (f : Nat) (s : State), TenantRuns s fn f ∧ 1 ≤ f ∧ f ≤ 8 ∧ s.instState f = 1) ∧
    (∃ (fn : Nat) (f : Nat) (s : State), TenantRuns s fn f ∧ 1 ≤ f ∧ f ≤ 8 ∧ s.instState f = 2) ∧
    (∃ (fn : Nat) (f : Nat) (s : State), TenantOpen s fn ∧ 1 ≤ f ∧ f ≤ 8 ∧ (s.on (TN_STAT_BUSY f) = true ∨ s.instState f = 4 ∨ (s.instState f ≠ 1 ∧ s.instState f ≠ 2))) ∧
    (∃ (f : Nat) (p : Nat) (stage : Nat) (s : State), (stage = 1 ∨ stage = 3) ∧ p ∈ s.stagePages f stage) ∧
    (∃ (f : Nat) (s : State), s.Awake 0x510 ∧ 1 ≤ f ∧ f ≤ 8 ∧ s.instState f = 2 ∧ (s.inst f).stage < 3 ∧ (s.stagePages f (s.inst f).stage).all (fun p => (s.page p).quiesced) = true) ∧
    (∃ (f : Nat) (s : State), s.Awake 0x510 ∧ 1 ≤ f ∧ f ≤ 8 ∧ s.instState f = 2 ∧ 3 ≤ (s.inst f).stage ∧ (s.stagePages f (s.inst f).stage).all (fun p => (s.page p).quiesced) = true) ∧
    (∃ (fn : Nat) (f : Nat) (s : State), TenantRuns s fn f ∧ 1 ≤ f ∧ f ≤ 8 ∧ (s.instState f = 2 ∨ s.instState f = 3)) :=
  ⟨⟨0, 1, vfUp, by decide +kernel⟩,
   ⟨0, 1, (vfUp.set (TN_STAT_STATE 1) 2), by decide +kernel⟩,
   ⟨0, 1, up, by decide +kernel⟩,
   ⟨1, 0x201, 1, triUp, by decide +kernel⟩,
   ⟨1, ((vfUp.set (TN_STAT_STATE 1) 2).setInst 1 { stage := 1, preempt := false }), by decide +kernel⟩,
   ⟨1, ((vfUp.set (TN_STAT_STATE 1) 2).setInst 1 { stage := 4, preempt := false }), by decide +kernel⟩,
   ⟨0, 1, (vfUp.set (TN_STAT_STATE 1) 3), by decide +kernel⟩⟩

/-- States and operands that meet the hypotheses of each clause of GrantsOfCoresAndPageTriples. -/
theorem witness_GrantsOfCoresAndPageTriples :
    (∃ (fn : Nat) (f : Nat) (v : Nat) (s : State), TenantOpen s fn ∧ 1 ≤ f ∧ f ≤ 8 ∧ (changedBits (s.get (TG_CORES f)) v 16).find? (fun n => !s.coreChangeOk f n) = none) ∧
    (∃ (fn : Nat) (f : Nat) (v : Nat) (n : Nat) (s : State), TenantOpen s fn ∧ 1 ≤ f ∧ f ≤ 8 ∧ (changedBits (s.get (TG_CORES f)) v 16).find? (fun n => !s.coreChangeOk f n) = some n) ∧
    (∃ (n : Nat), n < 16) ∧
    (∃ (fn : Nat) (f : Nat) (v : Nat) (s : State), TenantOpen s fn ∧ 1 ≤ f ∧ f ≤ 8 ∧ (changedBits (s.get (TG_PAGES_QPAGES f)) v 8).find? (fun i => !s.tripleChangeOk f (i + 1)) = none) ∧
    (∃ (fn : Nat) (f : Nat) (v : Nat) (i : Nat) (s : State), TenantOpen s fn ∧ 1 ≤ f ∧ f ≤ 8 ∧ (changedBits (s.get (TG_PAGES_QPAGES f)) v 8).find? (fun i => !s.tripleChangeOk f (i + 1)) = some i) ∧
    (∃ (c : Nat) (j : Nat) (w : Nat), 1 ≤ j ∧ j ≤ 8 ∧ c < 256 ∧ chainPage c = j ∧ w < 4096 ∧ 1 + w / 512 = j) :=
  ⟨⟨0, 1, 1, (vfUp.setPage 0x100 { vfUp.page 0x100 with quiesceReq := true, quiesced := true }), by decide +kernel⟩,
   ⟨0, 1, 1, 0, { vfUp.setRunning 0 0 (some oneTask) with stall := false }, by decide +kernel⟩,
   ⟨0, by decide +kernel⟩,
   ⟨0, 1, 0x101, vfUp, by decide +kernel⟩,
   ⟨0, 1, 1, 0, (vfUp.flag (CH_ENABLE 0) true), by decide +kernel⟩,
   ⟨0, 1, 0, by decide +kernel⟩⟩

/-- States and operands that meet the hypotheses of each clause of MailboxesOfInstances. -/
theorem witness_MailboxesOfInstances :
    (∃ (fn : Nat) (f : Nat) (s : State), s.Reaches fn (0x510 + f) ∧ 1 ≤ f ∧ f ≤ 8 ∧ s.on (MB_OUT_CTRL_BUSY f) = false) ∧
    (∃ (fn : Nat) (f : Nat) (s : State), s.Reaches fn (0x510 + f) ∧ 1 ≤ f ∧ f ≤ 8 ∧ s.on (MB_OUT_CTRL_BUSY f) = true) ∧
    (∃ (fn : Nat) (f : Nat) (s : State), s.Reaches fn 0x510 ∧ 1 ≤ f ∧ f ≤ 8 ∧ s.on (MB_REQ_ACK_PENDING f) = true) ∧
    (∃ (fn : Nat) (f : Nat) (s : State), s.Reaches fn 0x510 ∧ 1 ≤ f ∧ f ≤ 8 ∧ s.on (MB_RSP_CTRL_BUSY f) = false) ∧
    (∃ (fn : Nat) (f : Nat) (s : State), s.Reaches fn 0x510 ∧ 1 ≤ f ∧ f ≤ 8 ∧ s.on (MB_RSP_CTRL_BUSY f) = true) ∧
    (∃ (fn : Nat) (f : Nat) (s : State), s.Reaches fn (0x510 + f) ∧ 1 ≤ f ∧ f ≤ 8 ∧ s.on (MB_IN_CTRL_VALID f) = true) ∧
    (∃ (fn : Nat) (f : Nat) (s : State), s.Reaches fn 0x510 ∧ s.on (MB_REQ_ACK_PENDING f) = false) ∧
    (∃ (fn : Nat) (f : Nat) (s : State), s.Reaches fn (0x510 + f) ∧ s.on (MB_IN_CTRL_VALID f) = false) :=
  ⟨⟨1, 1, vfUp, by decide +kernel⟩,
   ⟨0, 1, (vfUp.flag (MB_OUT_CTRL_BUSY 1) true), by decide +kernel⟩,
   ⟨0, 1, (vfUp.flag (MB_REQ_ACK_PENDING 1) true), by decide +kernel⟩,
   ⟨0, 1, vfUp, by decide +kernel⟩,
   ⟨0, 1, (vfUp.flag (MB_RSP_CTRL_BUSY 1) true), by decide +kernel⟩,
   ⟨1, 1, (vfUp.flag (MB_IN_CTRL_VALID 1) true), by decide +kernel⟩,
   ⟨0, 1, up, by decide +kernel⟩,
   ⟨1, 1, { up with host := { up.host with vfs := 1 } }, by decide +kernel⟩⟩

/-- States and operands that meet the hypotheses of each clause of ResetsRevocationAndVfEnable. -/
theorem witness_ResetsRevocationAndVfEnable :
    (∃ (n : Nat) (s : State), s.pageOn 0x500 = true ∧ n ≤ 8 ∧ s.host.vfs = 0 ∧ s.pageOn 0x510 = true ∧ (∀ f, f < 9 → 1 ≤ f → (s.inst f).stage ≠ 4 ∧ s.instState f ≠ 4)) ∧
    (∃ (s : State), s.pageOn 0x500 = true ∧ s.host.vfs = 1 ∧ s.pageOn 0x510 = true ∧ s.instState 1 ≠ 4) ∧
    (∃ (f : Nat) (s : State), s.pageOn 0x500 = true ∧ s.pageOn 0x510 = true ∧ 1 ≤ f ∧ f ≤ 8 ∧ f ≤ s.host.vfs ∧ s.stall = false ∧ s.behind 0x510 = false ∧ s.instState f ≠ 4) ∧
    (∃ (f : Nat), 1 ≤ f ∧ f ≤ 8) ∧
    (∃ (f : Nat) (s : State), 1 ≤ f ∧ f ≤ 8 ∧ s.get (TG_CORES f) = 0 ∧ s.get (TG_PAGES_QPAGES f) = 0 ∧ s.work.channels = []) ∧
    (∃ (i : Nat), i < 4) ∧
    (∃ (f : Nat) (s : State), s.Awake 0x510 ∧ 1 ≤ f ∧ f ≤ 8 ∧ s.instState f = 4 ∧ (∀ d ∈ s.sluice.descs, d.fn ≠ f)) ∧
    (∃ (f : Nat) (b : Nat) (c : Nat) (i : Nat) (s : State), 1 ≤ f ∧ f ≤ 8 ∧ b < 64 ∧ s.blockHolder b = f ∧ c / 64 = b ∧ i < 512 ∧ s.slotHolder i = f) ∧
    (∃ (fn : Nat) (f : Nat) (s : State), TenantRuns s fn f ∧ 1 ≤ f ∧ f ≤ 8 ∧ (s.instState f = 3 ∨ s.instState f = 0) ∧ s.sharedDomain f = false) ∧
    (∃ (f : Nat) (s : State), s.Awake 0x510 ∧ 1 ≤ f ∧ f ≤ 8 ∧ (s.inst f).job = 3) :=
  ⟨⟨3, up, by decide +kernel⟩,
   ⟨vfUp, by decide +kernel⟩,
   ⟨1, vfUp, by decide +kernel⟩,
   ⟨1, by decide +kernel⟩,
   ⟨1, vfUp, by decide +kernel⟩,
   ⟨0, by decide +kernel⟩,
   ⟨1, (vfUp.set (TN_STAT_STATE 1) 4), by decide +kernel⟩,
   ⟨1, 4, 256, 0, (((vfUp.set (SY_BLK_FN 0) 0x10000).set (FN_WIN_CNT 1) 4)), by decide +kernel⟩,
   ⟨0, 1, up, by decide +kernel⟩,
   ⟨1, (vfUp.setInst 1 { stage := 0, preempt := false, job := 3 }), by decide +kernel⟩⟩

/-- States and operands that meet the hypotheses of each clause of DirtyPageLogging. -/
theorem witness_DirtyPageLogging :
    (∃ (fn : Nat) (f : Nat) (s : State), TenantRuns s fn f ∧ 1 ≤ f ∧ f ≤ 8 ∧ s.on (TDL_CTRL_EN f) = true) ∧
    (∃ (fn : Nat) (f : Nat) (s : State), TenantRuns s fn f ∧ 1 ≤ f ∧ f ≤ 8 ∧ s.on (TDL_CTRL_EN f) = false) ∧
    (∃ (f : Nat) (s : State), s.Awake 0x510 ∧ 1 ≤ f ∧ f ≤ 8 ∧ (s.inst f).job = 4 ∧ s.hostHeld 0 (s.pair (TDL_WB_LO f) (TDL_WB_HI f)) 4 = false ∧ s.host.waitLinkReset = false ∧ s.hostDenied 0 (s.pair (TDL_WB_LO f) (TDL_WB_HI f)) 4 true = false) ∧
    (∃ (fn : Nat) (f : Nat) (s : State), TenantRuns s fn f ∧ 1 ≤ f ∧ f ≤ 8) ∧
    (∃ (fn : Nat) (f : Nat) (s : State), s.Reaches fn 0x510 ∧ 1 ≤ f ∧ f ≤ 8 ∧ s.on (TDL_CTRL_EN f) = false) ∧
    (∃ (fn : Nat) (s : State), s.Reaches fn 0x510) ∧
    (∃ (fn : Nat) (f : Nat) (p : Nat) (s : State), s.Reaches fn 0x510 ∧ s.on (TDL_CTRL_EN f) = true ∧ bellConsume (p % 2 ^ 32) (s.get (TDL_CI f)) (s.get (TDL_PI f)) = .accepted) ∧
    (∃ (f : Nat) (page : Nat) (s : State), 1 ≤ f ∧ f ≤ 8 ∧ page ∉ Map.get s.host.dirty [] f ∧ s.get (TDL_SIZE f) ≠ 0 ∧ (s.get (TDL_PI f) + 2 ^ 32 - s.get (TDL_CI f)) % 2 ^ 32 ≠ s.get (TDL_SIZE f) ∧ s.host.waitLinkReset = false ∧ s.hostDenied 0 (s.pair (TDL_BASE_LO f) (TDL_BASE_HI f) + 8 * (s.get (TDL_PI f) % s.get (TDL_SIZE f))) 8 true = false ∧ (s.get (TDL_PI f) + 1) % 64 ≠ 0) ∧
    (∃ (f : Nat) (page : Nat) (s : State), page ∈ Map.get s.host.dirty [] f) ∧
    (∃ (f : Nat) (page : Nat) (s : State), 1 ≤ f ∧ f ≤ 8 ∧ page ∉ Map.get s.host.dirty [] f ∧ (s.get (TDL_PI f) + 2 ^ 32 - s.get (TDL_CI f)) % 2 ^ 32 = s.get (TDL_SIZE f) ∧ s.on (TDL_STAT_OVF f) = false) :=
  ⟨⟨0, 1, dlUp, by decide +kernel⟩,
   ⟨0, 1, vfUp, by decide +kernel⟩,
   ⟨1, (dlUp.setInst 1 { stage := 0, preempt := false, job := 4 }), by decide +kernel⟩,
   ⟨0, 1, dlUp, by decide +kernel⟩,
   ⟨0, 1, vfUp, by decide +kernel⟩,
   ⟨0, dlUp, by decide +kernel⟩,
   ⟨0, 1, 1, (dlUp.set (TDL_PI 1) 1), by decide +kernel⟩,
   ⟨1, 5, dlUp, by decide +kernel⟩,
   ⟨1, 5, { dlUp with host := { dlUp.host with dirty := [(1, [5])] } }, by decide +kernel⟩,
   ⟨1, 5, (dlUp.set (TDL_PI 1) 64), by decide +kernel⟩⟩

/-- States and operands that meet the hypotheses of each clause of PortsTrainExchangeAndGoDown. -/
theorem witness_PortsTrainExchangeAndGoDown :
    (∃ (fn : Nat) (p : Nat) (s : State), s.Reaches fn (portPage p) ∧ p < 8 ∧ s.startStatus p = .ok ∧ s.get (SESSION p) ≠ 0 ∧ s.get (PEER_SESSION p) ≠ 0) ∧
    (∃ (fn : Nat) (p : Nat) (s : State), s.Reaches fn (portPage p) ∧ p < 8 ∧ s.startStatus p = .ok ∧ (s.get (SESSION p) = 0 ∨ s.get (PEER_SESSION p) = 0)) ∧
    (∃ (fn : Nat) (p : Nat) (s : State), s.Reaches fn (portPage p) ∧ p < 8 ∧ s.startStatus p ≠ .ok) ∧
    (∃ (p : Nat) (st : Nat), p < 8 ∧ st < 7) ∧
    (∃ (fn : Nat) (p : Nat) (s : State), s.Reaches fn (portPage p) ∧ p < 8 ∧ s.inData p = true) ∧
    (∃ (fn : Nat) (p : Nat) (s : State), s.Reaches fn (portPage p) ∧ p < 8 ∧ s.inData p = false) ∧
    (∃ (fn : Nat) (p : Nat) (s : State), s.Reaches fn (portPage p) ∧ p < 8 ∧ s.get (PORT_STAT_STATE p) = 4) ∧
    (∃ (fn : Nat) (p : Nat) (s : State), s.Reaches fn (portPage p) ∧ p < 8 ∧ s.get (PORT_STAT_STATE p) ≠ 4) ∧
    (∃ (fn : Nat) (p : Nat) (s : State), s.Reaches fn (portPage p) ∧ p < 8 ∧ (s.get (PORT_STAT_STATE p) = 0 ∨ s.get (PORT_STAT_STATE p) = 6)) ∧
    (∃ (p : Nat) (w : LinkWrite) (s : State), (s.port p).refs = [.write w] ∧ (s.port p).queue.filter (followsLost [.write w]) = [] ∧ w.origin = s.get GRP_MEMBER ∧ s.link.leq.length < 64) ∧
    (∃ (p : Nat) (s : State), s.Awake (portPage p) ∧ p < 8 ∧ s.get (PORT_STAT_STATE p) = 1) ∧
    (∃ (p : Nat) (s : State), s.Awake (portPage p) ∧ p < 8 ∧ s.get (PORT_STAT_STATE p) = 2) ∧
    (∃ (p : Nat) (s : State), s.Awake (portPage p) ∧ p < 8 ∧ s.get (PORT_STAT_STATE p) = 3 ∧ (s.port p).peerMatch = none) ∧
    (∃ (p : Nat) (s : State), s.Awake (portPage p) ∧ p < 8 ∧ s.get (PORT_STAT_STATE p) = 3) ∧
    (∃ (p : Nat) (r : List Byte) (s : State), p < 8 ∧ s.get (PORT_STAT_STATE p) = 3 ∧ (s.capturePeer p r).mismatch p r ≠ 0) ∧
    (∃ (p : Nat) (ps : Nat) (pe : Nat) (pr : Bool) (s : State), (s.port p).peerMatch = some (pr, ps, pe) ∧ (s.port p).rxBuf = [] ∧ (s.port p).arrival = none ∧ (s.port p).matched = true ∧ (s.port p).matchSent = true ∧ pr = (s.port p).resumeOk ∧ ((s.port p).resumeOk = true ∨ (s.port p).fresh = true)) ∧
    (∃ (p : Nat) (s : State), p < 8 ∧ (s.port p).replay = []) ∧
    (∃ (p : Nat) (pe : Nat) (r : Replay) (s : State), p < 8 ∧ (s.port p).replay = [r] ∧ pe ≤ r.seq) ∧
    (∃ (p : Nat) (l : Nat) (s : State), s.Awake (portPage p) ∧ p < 8 ∧ (s.inData p = false ∨ bitOf (s.get (PORT_LANES_LANE_ACTIVE p)) (l % 8) = false)) ∧
    (∃ (p : Nat) (l : Nat) (m : Nat) (s : State), s.Awake (portPage p) ∧ p < 8 ∧ s.inData p = true ∧ bitOf (s.get (PORT_LANES_LANE_ACTIVE p)) (l % 8) = true ∧ m = s.get (PORT_LANES_LANE_LOCK p)) ∧
    (∃ (p : Nat) (cause : Nat), p < 8 ∧ cause < 8) ∧
    (∃ (p : Nat) (s : State), s.inData p = true ∧ (s.port p).leaveSent = true ∧ (s.port p).leaveGot = true ∧ (s.port p).leaveAcked = true ∧ (s.port p).replay = []) :=
  ⟨⟨0, 0, (((portIn 0).set (SESSION 0) 1).set (PEER_SESSION 0) 1), by decide +kernel⟩,
   ⟨0, 0, (portIn 0), by decide +kernel⟩,
   ⟨0, 0, up, by decide +kernel⟩,
   ⟨0, 5, by decide +kernel⟩,
   ⟨0, 0, dataUp, by decide +kernel⟩,
   ⟨0, 0, up, by decide +kernel⟩,
   ⟨0, 0, (portIn 4), by decide +kernel⟩,
   ⟨0, 0, (portIn 3), by decide +kernel⟩,
   ⟨0, 0, (portIn 6), by decide +kernel⟩,
   ⟨0, { lw0 with origin := 0 }, replayUp, by decide +kernel⟩,
   ⟨0, (portIn 1), by decide +kernel⟩,
   ⟨0, (portIn 2), by decide +kernel⟩,
   ⟨0, (portIn 3), by decide +kernel⟩,
   ⟨0, (portIn 3), by decide +kernel⟩,
   ⟨0, (List.replicate 108 0), (portIn 3), by decide +kernel⟩,
   ⟨0, 5, 0, false, ((portIn 3).setPort 0 { (portIn 3).port 0 with matched := true, matchSent := true, fresh := true, peerMatch := some (false, 5, 0) }), by decide +kernel⟩,
   ⟨0, (portIn 3), by decide +kernel⟩,
   ⟨0, 0, rep0, (replayUp.set (PORT_STAT_STATE 0) 3), by decide +kernel⟩,
   ⟨0, 9, ((portIn 1).set (PORT_LANES_LANE_LOCK 0) 255), by decide +kernel⟩,
   ⟨0, 9, 255, dataUp, by decide +kernel⟩,
   ⟨0, 1, by decide +kernel⟩,
   ⟨0, (dataUp.setPort 0 { dataUp.port 0 with leaveSent := true, leaveGot := true, leaveAcked := true }), by decide +kernel⟩⟩

/-- States and operands that meet the hypotheses of each clause of SequencedFlitsAreAppliedOnceInOrder. -/
theorem witness_SequencedFlitsAreAppliedOnceInOrder :
    (∃ (c : Instr) (p : Nat) (hd : FlitHdr) (s : State), flitOf c = some (p, hd) ∧ s.Awake (portPage p) ∧ s.inData p = true ∧ nearest (s.port p).rx hd.seq < (s.port p).rx) ∧
    (∃ (c : Instr) (p : Nat) (hd : FlitHdr) (s : State), flitOf c = some (p, hd) ∧ s.Awake (portPage p) ∧ s.inData p = true ∧ (s.port p).rx < nearest (s.port p).rx hd.seq) ∧
    (∃ (c : Instr) (p : Nat) (hd : FlitHdr) (f : FlitBody) (s : State), flitOf c = some (p, hd) ∧ contentOf c = some f ∧ Expected s p hd) ∧
    (∃ (p : Nat) (s : State), s.rxReady p = false) ∧
    (∃ (p : Nat) (f : FlitBody) (s : State), (s.port p).rxBuf = [f] ∧ s.rxReady p = true) ∧
    (∃ (p : Nat) (f : FlitBody) (q : List FlitBody) (s : State), (s.port p).rxBuf = f :: q) ∧
    (∃ (p : Nat) (hd : FlitHdr) (s : State), (s.port p).replay = [] ∧ (s.port p).leaveSent = false ∧ hd.vc < 3) ∧
    (∃ (p : Nat) (s : State), p < 8 ∧ (∀ r ∈ (s.port p).replay, ∀ c k, r.ref ≠ .item c k true)) ∧
    (∃ (p : Nat) (h : List Byte) (b : List Byte) (a : Arrival) (s : State), p < 8 ∧ (s.port p).arrival = none ∧ a.chain = s.get (RX_CHAIN_MAP_CHAIN p (hdr h 13 1)) ∧ a = { member := hdr h 12 1, src := hdr h 13 1, enq := hdr h 8 4, flow := hdr h 6 2 % 4096, chain := s.get (RX_CHAIN_MAP_CHAIN p (hdr h 13 1)), header := h, len := hdr h 0 4 % 2 ^ 28, bytes := b.take (hdr h 0 4 % 2 ^ 28) } ∧ s.arrivalStatus p a (s.on (RX_CHAIN_MAP_VALID p (hdr h 13 1))) = .ok ∧ s.cellNow a.chain = true ∧ a.bytes.length < a.len) ∧
    (∃ (p : Nat) (k : Nat) (b : List Byte) (a : Arrival) (x : Cell) (s : State) (u : State), p < 8 ∧ (s.port p).arrival = some a ∧ a.waiting = false ∧ a.cell = some k ∧ a.bytes.length + b.length = a.len ∧ Map.find s.work.cells k = some x ∧ x.id = a.id ∧ x.chain = a.chain ∧ x.state = .building ∧ a.chain < 256 ∧ ((((s.setPort p { s.port p with arrival := some { a with bytes := a.bytes ++ b } }).owe p 0 1).setPort p { ((s.setPort p { s.port p with arrival := some { a with bytes := a.bytes ++ b } }).owe p 0 1).port p with arrival := none })).hbmWrite (.home 2) (s.chainHolder a.chain) 0 0 (s.payAddr x 0) ((a.bytes ++ b) ++ List.replicate ((128 - a.len % 128) % 128) 0) = (u, .ok)) ∧
    (∃ (w : LinkWrite) (b : List Byte) (s : State) (u : State), w.dest = s.get GRP_MEMBER ∧ s.lwrStatus w = .ok ∧ s.hbmWrite (.home 2) (s.get (LF_RX0_FN w.lf)) 0 0 (s.get (LF_RX0_FBASE w.lf) * 4096 + w.off) b = (u, .ok)) ∧
    (∃ (w : LinkWrite) (s : State), w.dest = s.get GRP_MEMBER ∧ s.lwrStatus w = .badAddr) ∧
    (∃ (g : LinkSignal) (s : State), g.dest = s.get GRP_MEMBER ∧ bitOf (s.get (SY_REMOTE_EN (g.ctr % 4096 / 2048))) (g.ctr % 4096 / 64 % 32) = true ∧ s.ctrHolder (g.ctr % 4096) < 9) ∧
    (∃ (n : LinkNotice) (s : State), n.dest = s.get GRP_MEMBER ∧ s.link.leq.length < 64) ∧
    (∃ (p : Nat) (m : Nat) (hd : FlitHdr) (s : State), FlitNext s p hd ∧ p < 8 ∧ m % 256 ≠ 0) ∧
    (∃ (p : Nat) (m : Nat) (hd : FlitHdr) (s : State), FlitNext s p hd ∧ p < 8 ∧ m % 256 = 0) ∧
    (∃ (p : Nat) (hd : FlitHdr) (s : State), FlitNext s p hd ∧ p < 8 ∧ (accepted s p hd).on (PORT_STAT_KEY_NEXT p) = true) ∧
    (∃ (p : Nat) (s : State), (s.owe p 2 1).inData p = true) :=
  ⟨⟨(.void 0 fh0), 0, fh0, (dataUp.setPort 0 { dataUp.port 0 with rx := 5 }), by decide +kernel⟩,
   ⟨(.void 0 ⟨3, 0, 0, 3⟩), 0, ⟨3, 0, 0, 3⟩, dataUp, by decide +kernel⟩,
   ⟨(.void 0 fh0), 0, fh0, .voided, dataUp, by decide +kernel⟩,
   ⟨0, dataUp, by decide +kernel⟩,
   ⟨0, .voided, (dataUp.setPort 0 { dataUp.port 0 with rxBuf := [.voided] }), by decide +kernel⟩,
   ⟨0, .voided, [], (dataUp.setPort 0 { dataUp.port 0 with rxBuf := [.voided] }), by decide +kernel⟩,
   ⟨0, ⟨0, 0, 5, 1⟩, (portIn 5), by decide +kernel⟩,
   ⟨0, replayUp, by decide +kernel, (by intro r hr c k h; have hq : (replayUp.port 0).replay = [rep0] := (by decide +kernel); rw [hq] at hr; cases List.mem_singleton.mp hr; cases h)⟩,
   ⟨0, (itemHdr 4), [1], { member := 0, src := 0, enq := 0, flow := 0, chain := 0, header := itemHdr 4, len := 4, bytes := [1] }, linkChain, by decide +kernel⟩,
   ⟨0, 0, [2, 3, 4], { member := 0, src := 0, enq := 0, flow := 0, chain := 0, cell := some 0, header := itemHdr 4, len := 4, bytes := [1] }, { chain := 0, buf := 0, state := .building, header := itemHdr 4 }, arriving, (arrDone.hbmWrite (.home 2) 0 0 0 0 ([1, 2, 3, 4] ++ List.replicate 124 0)).1, by decide +kernel⟩,
   ⟨lw0, [1, 2, 3, 4], linkFlow, (linkFlow.hbmWrite (.home 2) 0 0 0 0 [1, 2, 3, 4]).1, by decide +kernel⟩,
   ⟨lw0, dataUp, by decide +kernel⟩,
   ⟨ls0, ((dataUp.set (SY_REMOTE_EN 0) 16).set (SY_BLK_FN 0) 0), by decide +kernel⟩,
   ⟨ln0, dataUp, by decide +kernel⟩,
   ⟨0, 127, fh0, dataUp, by decide +kernel⟩,
   ⟨0, 0, fh0, dataUp, by decide +kernel⟩,
   ⟨0, fh0, (dataUp.flag (PORT_STAT_KEY_NEXT 0) true), by decide +kernel⟩,
   ⟨0, dataUp, by decide +kernel⟩⟩

/-- States and operands that meet the hypotheses of each clause of FlitsOutsideTheSequenceAndSending. -/
theorem witness_FlitsOutsideTheSequenceAndSending :
    (∃ (p : Nat) (hd : FlitHdr) (s : State), s.Awake (portPage p) ∧ p < 8 ∧ s.inData p = true ∧ (s.flitIn p hd).inData p = true) ∧
    (∃ (p : Nat) (hd : FlitHdr) (t1 : TsyncTime) (t3 : TsyncTime) (t4 : TsyncTime) (k : Int) (s : State), s.Awake (portPage p) ∧ p < 8 ∧ s.inData p = true ∧ (s.flitIn p hd).inData p = true ∧ (((s.time.sec : Int) * 1000000000 + s.time.ns) - ((t1.sec : Int) * 1000000000 + t1.ns)) - (((t4.sec : Int) * 1000000000 + t4.ns) - ((t3.sec : Int) * 1000000000 + t3.ns)) = 2 * k) ∧
    (∃ (p : Nat) (s : State), s.Awake (portPage p) ∧ p < 8 ∧ s.get (PORT_STAT_STATE p) = 5) ∧
    (∃ (p : Nat) (want : Nat) (hd : FlitHdr) (r : Replay) (rs : List Replay) (s : State), s.Awake (portPage p) ∧ p < 8 ∧ s.inData p = true ∧ (s.flitIn p hd).inData p = true ∧ ((s.flitIn p hd).port p).replay = r :: rs ∧ r.seq ≤ want ∧ want < ((s.flitIn p hd).port p).tx) ∧
    (∃ (p : Nat) (want : Nat) (hd : FlitHdr) (r : Replay) (rs : List Replay) (s : State), s.Awake (portPage p) ∧ p < 8 ∧ s.inData p = true ∧ (s.flitIn p hd).inData p = true ∧ ((s.flitIn p hd).port p).replay = r :: rs ∧ want < r.seq) ∧
    (∃ (p : Nat) (s : State), s.Awake (portPage p) ∧ p < 8 ∧ s.inData p = true) ∧
    (∃ (p : Nat) (c : Nat) (k : Nat) (x : Cell) (d : ChainDesc) (s : State), s.Awake (portPage p) ∧ p < 8 ∧ s.stall = false ∧ s.inData p = true ∧ s.portStopping p = false ∧ (s.port p).sending = none ∧ s.takeOpen c 1 = true ∧ (s.chain c).desc = some d ∧ d.sinkPort = p ∧ s.headItem c = some (k, x)) ∧
    (∃ (p : Nat) (s : State), s.Awake (portPage p) ∧ p < 8 ∧ s.get (PORT_STAT_STATE p) = 5 ∧ (s.port p).resend = none ∧ s.sendHeld p = false ∧ s.maySend p 0 = true) ∧
    (∃ (p : Nat) (k : Nat) (c : Nat) (x : Cell) (b : List Byte) (s : State) (u : State), p < 8 ∧ (s.port p).sending = some (c, k, none) ∧ (s.port p).enc = false ∧ Map.find s.work.cells k = some x ∧ hdr x.header 0 4 ≤ 168 ∧ s.hbmRead (.home 2) (s.chainHolder c) 0 0 (s.payAddr x 0) (hdr x.header 0 4) = (u, .ok, b) ∧ u.link = s.link) ∧
    (∃ (p : Nat) (n : Nat) (src : Nat) (s : State), s.Awake (portPage p) ∧ p < 8 ∧ s.get (PORT_STAT_STATE p) = 5 ∧ (s.port p).resend = some n ∧ src < 2) ∧
    (∃ (p : Nat) (n : Nat) (r : Replay) (s : State), (s.port p).replay.find? (fun r => decide (n ≤ r.seq)) = some r) ∧
    (∃ (p : Nat) (s : State), s.Awake (portPage p) ∧ p < 8 ∧ s.get (PORT_STAT_STATE p) = 5 ∧ (s.port p).resend = none) ∧
    (∃ (p : Nat) (g : LinkSignal) (q : List LinkMsg) (s : State), p < 8 ∧ (s.port p).txWrite = none ∧ (s.port p).queue = .signal g :: q ∧ s.maySend p 2 = true) ∧
    (∃ (p : Nat) (src : Nat) (s : State), s.Awake (portPage p) ∧ p < 8 ∧ s.get (PORT_STAT_STATE p) = 5 ∧ 2 ≤ src ∧ (s.port p).leaveSent = false) ∧
    (∃ (p : Nat) (r : Replay) (rs : List Replay) (s : State), s.Awake (portPage p) ∧ p < 8 ∧ s.get (PORT_STAT_STATE p) = 5 ∧ (s.port p).replay = r :: rs) ∧
    (∃ (p : Nat) (s : State), s.Awake (portPage p) ∧ p < 8 ∧ s.get (PORT_STAT_STATE p) = 5 ∧ (s.port p).replay ≠ []) :=
  ⟨⟨0, fh0, dataUp, by decide +kernel⟩,
   ⟨0, fh0, ⟨0, 0⟩, ⟨0, 0⟩, ⟨0, 6⟩, (-3), dataUp, by decide +kernel⟩,
   ⟨0, dataUp, by decide +kernel⟩,
   ⟨0, 0, fh0, rep0, [], replayUp, by decide +kernel⟩,
   ⟨0, 0, fh0, { rep0 with seq := 1 }, [], (replayUp.setPort 0 { replayUp.port 0 with replay := [{ rep0 with seq := 1 }] }), by decide +kernel⟩,
   ⟨0, dataUp, by decide +kernel⟩,
   ⟨0, 0, 0, { chain := 0, buf := 0, state := .ready, header := itemHdr 4 }, { length := 4, reserve := 4, src := 0, srcPort := 0, sink := 1, sinkPort := 0, slot := 1, pay := 0 }, sinkChain, by decide +kernel⟩,
   ⟨0, sinkChain, by decide +kernel⟩,
   ⟨0, 0, 0, { chain := 0, buf := 0, state := .ready, header := itemHdr 4 }, (sinkSend.hbmRead (.home 2) 0 0 0 0 4).2.2, sinkSend, (sinkSend.hbmRead (.home 2) 0 0 0 0 4).1, by decide +kernel⟩,
   ⟨0, 0, 0, (replayUp.setPort 0 { replayUp.port 0 with resend := some 0 }), by decide +kernel⟩,
   ⟨0, 0, rep0, replayUp, by decide +kernel⟩,
   ⟨0, dataUp, by decide +kernel⟩,
   ⟨0, ls0, [], (dataUp.setPort 0 { dataUp.port 0 with queue := [.signal ls0] }), by decide +kernel⟩,
   ⟨0, 2, dataUp, by decide +kernel⟩,
   ⟨0, rep0, [], replayUp, by decide +kernel⟩,
   ⟨0, replayUp, by decide +kernel⟩⟩

/-- States and operands that meet the hypotheses of each clause of LanesKeysAndTheGroup. -/
theorem witness_LanesKeysAndTheGroup :
    (∃ (fn : Nat) (p : Nat) (s : State), s.Reaches fn (portPage p) ∧ p < 8 ∧ s.laneRefused p = false) ∧
    (∃ (fn : Nat) (p : Nat) (s : State), s.Reaches fn (portPage p) ∧ p < 8 ∧ s.laneRefused p = true) ∧
    (∃ (p : Nat) (l : Nat) (s : State), s.Awake (portPage p) ∧ p < 8 ∧ s.get (PORT_STAT_STATE p) = 5 ∧ (s.port p).adding = some l ∧ l < 8) ∧
    (∃ (p : Nat) (l : Nat) (s : State), s.Awake (portPage p) ∧ p < 8 ∧ s.get (PORT_STAT_STATE p) = 5 ∧ (s.port p).adding = some l) ∧
    (∃ (fn : Nat) (p : Nat) (l : Nat) (n : Nat) (s : State), s.Reaches fn (portPage p) ∧ p < 8 ∧ s.laneRefused p = false ∧ n = (if bitOf (s.get (PORT_LANES_LANE_MASK p)) (l % 8) then s.get (PORT_LANES_LANE_MASK p) - 2 ^ (l % 8) else s.get (PORT_LANES_LANE_MASK p)) ∧ n ≠ 0) ∧
    (∃ (p : Nat) (counts : List Nat) (s : State), s.Awake (portPage p) ∧ p < 8 ∧ (∀ i, i < 8 → counts.getD i 0 ≤ s.get (PORT_LANE_WARN p))) ∧
    (∃ (p : Nat) (l : Nat) (counts : List Nat) (s : State), s.Awake (portPage p) ∧ p < 8 ∧ l < 8 ∧ s.get (PORT_LANE_WARN p) < counts.getD l 0 ∧ (∀ i, i < 8 → i ≠ l → counts.getD i 0 ≤ s.get (PORT_LANE_WARN p)) ∧ s.faultLog.length < 64) ∧
    (∃ (fn : Nat) (p : Nat) (k : KeySlot) (s : State), s.Reaches fn (portPage p) ∧ p < 8 ∧ s.on (PORT_KEY_BUSY p) = false ∧ s.domOn 4 = true ∧ s.sluiceHeld = false ∧ s.behind (portPage p) = false ∧ k = s.slot (s.get (PORT_KEY_SLOT p)) ∧ k.cls = 7 ∧ k.key ≠ [] ∧ s.slotHolder (s.get (PORT_KEY_SLOT p)) = 0 ∧ k.bad = false) ∧
    (∃ (fn : Nat) (p : Nat) (s : State), s.Reaches fn (portPage p) ∧ p < 8 ∧ s.on (PORT_KEY_BUSY p) = false ∧ s.domOn 4 = true ∧ s.sluiceHeld = false ∧ s.behind (portPage p) = false ∧ (s.slotHolder (s.get (PORT_KEY_SLOT p)) ≠ 0 ∨ ((s.slot (s.get (PORT_KEY_SLOT p))).bad = false ∧ ((s.slot (s.get (PORT_KEY_SLOT p))).cls ≠ 7 ∨ (s.slot (s.get (PORT_KEY_SLOT p))).key = [])))) ∧
    (∃ (p : Nat) (k : List Byte) (s : State), s.Awake (portPage p) ∧ p < 8 ∧ (s.port p).newKeys = some k) ∧
    (∃ (fn : Nat) (p : Nat) (s : State), s.Reaches fn (portPage p) ∧ p < 8 ∧ s.inData p = true ∧ s.on (PORT_STAT_KEY_NEXT p) = true) ∧
    (∃ (fn : Nat) (s : State), s.Reaches fn 0x680 ∧ s.quiet 0x680 = false ∧ s.behind 0x680 = false) ∧
    (∃ (s : State), s.Awake 0x680 ∧ s.link.digesting = true) ∧
    (∃ (fn : Nat) (s : State), s.Reaches fn 0x680 ∧ s.on GRP_STAT_EPOCH_ARMED = false ∧ s.deliveredTick < s.pair GRP_EPOCH_TICK_LO GRP_EPOCH_TICK_HI) ∧
    (∃ (fn : Nat) (s : State), s.Reaches fn 0x680 ∧ s.on GRP_STAT_EPOCH_ARMED = true) ∧
    (∃ (v : Nat) (tick : Nat) (due : Nat) (s : State), s.link.armed = some (v, due) ∧ due ≤ tick ∧ s.quiet 0x680 = false) ∧
    (∃ (fn : Nat) (s : State), s.Reaches fn 0x680) ∧
    (∃ (fn : Nat) (e : LateErr) (q : List LateErr) (s : State), s.Reaches fn 0x680 ∧ s.link.leq = e :: q) ∧
    (∃ (fn : Nat) (s : State), s.Reaches fn 0x680 ∧ s.link.leq = []) :=
  ⟨⟨0, 0, dataUp, by decide +kernel⟩,
   ⟨0, 0, up, by decide +kernel⟩,
   ⟨0, 3, (dataUp.setPort 0 { dataUp.port 0 with adding := some 3 }), by decide +kernel⟩,
   ⟨0, 3, (dataUp.setPort 0 { dataUp.port 0 with adding := some 3 }), by decide +kernel⟩,
   ⟨0, 0, 3, 247, dataUp, by decide +kernel⟩,
   ⟨0, [1,2,3], dataUp, by decide +kernel⟩,
   ⟨0, 0, [5000], dataUp, by decide +kernel⟩,
   ⟨0, 0, { cls := 7, key := List.replicate 32 1 }, { dataUp with sluice := { dataUp.sluice with slots := [(0, { cls := 7, key := List.replicate 32 1 })] } }, by decide +kernel⟩,
   ⟨0, 0, dataUp, by decide +kernel⟩,
   ⟨0, [1], (dataUp.setPort 0 { dataUp.port 0 with newKeys := some [1] }), by decide +kernel⟩,
   ⟨0, 0, (dataUp.flag (PORT_STAT_KEY_NEXT 0) true), by decide +kernel⟩,
   ⟨0, up, by decide +kernel⟩,
   ⟨{ up with link := { up.link with digesting := true } }, by decide +kernel⟩,
   ⟨0, (up.set GRP_EPOCH_TICK_LO 5), by decide +kernel⟩,
   ⟨0, (up.flag GRP_STAT_EPOCH_ARMED true), by decide +kernel⟩,
   ⟨7, 5, 5, { up with link := { up.link with armed := some (7, 5) } }, by decide +kernel⟩,
   ⟨0, up, by decide +kernel⟩,
   ⟨0, { status := 0x40, kind := 1, flow := 3, fn := 0, member := 1, ref := 2, seq := 3, time := ⟨0, 0⟩ }, [], { up with link := { up.link with leq := [{ status := 0x40, kind := 1, flow := 3, fn := 0, member := 1, ref := 2, seq := 3, time := ⟨0, 0⟩ }] } }, by decide +kernel⟩,
   ⟨0, up, by decide +kernel⟩⟩

/-- States and operands that meet the hypotheses of each clause of PowerCommandsMoveDomains. -/
theorem witness_PowerCommandsMoveDomains :
    (∃ (fn : Nat) (d : Nat) (s : State), PowerOpen s fn ∧ 1 ≤ d ∧ d ≤ 7 ∧ s.pwrStatus false d 1 false = .ok ∧ (s.dom d).code ≠ 1) ∧
    (∃ (fn : Nat) (d : Nat) (s : State), PowerOpen s fn ∧ 1 ≤ d ∧ d ≤ 7 ∧ s.pwrStatus false d 1 false ≠ .ok) ∧
    (∃ (fn : Nat) (d : Nat) (force : Bool) (s : State), PowerOpen s fn ∧ 1 ≤ d ∧ d ≤ 7 ∧ s.pwrStatus false d 2 force = .ok ∧ s.dom d = .on) ∧
    (∃ (fn : Nat) (d : Nat) (force : Bool) (s : State), s.Reaches fn 1 ∧ s.quiet 1 = false ∧ 1 ≤ d ∧ d ≤ 7 ∧ (force = true ∨ (s.stall = false ∧ s.behind 1 = false)) ∧ s.pwrStatus false d 3 force = .ok ∧ s.dom d = .on) ∧
    (∃ (fn : Nat) (d : Nat) (force : Bool) (s : State), PowerOpen s fn ∧ 1 ≤ d ∧ d ≤ 7 ∧ s.pwrStatus false d 3 force = .ok ∧ s.dom d = .off) ∧
    (∃ (fn : Nat) (s : State), s.Reaches fn 1 ∧ (s.stall = true ∨ s.quiet 1 = true)) ∧
    (∃ (d : Nat) (x : Nat) (op : Nat) (force : Bool) (s : State), 1 ≤ d ∧ d ≤ 7 ∧ op ≠ 1 ∧ s.dom d = .transit x op force) ∧
    (∃ (d : Nat) (x : Nat) (force : Bool) (s : State), s.dom d = .transit x 1 force) ∧
    (∃ (i : Nat), i < 6) ∧
    (∃ (n : Nat), n < 16) ∧
    (∃ (s : State), s.get SU_STATE = 3 ∧ s.readyNow = true) ∧
    (∃ (s : State), s.get SU_STATE = 4 ∧ s.readyNow = false) :=
  ⟨⟨0, 7, hostOn, by decide +kernel⟩,
   ⟨0, 3, hostOn, by decide +kernel⟩,
   ⟨0, 5, true, readyUp, by decide +kernel⟩,
   ⟨0, 5, true, { readyUp with stall := true }, by decide +kernel⟩,
   ⟨0, 5, true, hostOn, by decide +kernel⟩,
   ⟨0, { hostOn with stall := true }, by decide +kernel⟩,
   ⟨5, 1, 3, true, (hostOn.setDom 5 (.transit 1 3 true)), by decide +kernel⟩,
   ⟨7, 0, false, (hostOn.setDom 7 (.transit 0 1 false)), by decide +kernel⟩,
   ⟨0, by decide +kernel⟩,
   ⟨0, by decide +kernel⟩,
   ⟨(readyUp.set SU_STATE 3), by decide +kernel⟩,
   ⟨(readyUp.setDom 3 .off), by decide +kernel⟩⟩

/-- States and operands that meet the hypotheses of each clause of SuppliesResetsAndStartUp. -/
theorem witness_SuppliesResetsAndStartUp :
    (∃ (d : Nat) (s : State), 1 ≤ d ∧ d ≤ 7 ∧ s.dom d = .retain) ∧
    (∃ (rail : Nat), (rail = 2 ∨ rail = 3 ∨ rail = 4)) ∧
    (∃ (s : State), s.get SU_STATE ≠ 1) ∧
    (∃ (s : State), s.get SU_STATE = 1 ∧ s.power.fusesLoaded = false ∧ s.power.pins.io = true ∧ s.power.perstLow = true) ∧
    (∃ (s : State), s.get SU_STATE = 1 ∧ s.power.fusesLoaded = false ∧ s.power.pins.io = false) ∧
    (∃ (s : State), 2 ≤ s.get SU_STATE) ∧
    (∃ (cause : Nat), cause < 16) ∧
    (∃ (s : State), s.power.pins.io = true ∧ s.domOn 1 = false) ∧
    (∃ (s : State), s.power.pins.io = true ∧ s.domOn 1 = true) ∧
    (∃ (s : State), s.domOn 1 = true ∧ s.power.perstLow = false ∧ s.on RST_CFG_HOT_SCOPE = false ∧ s.power.pins.io = true) ∧
    (∃ (s : State), s.domOn 1 = true ∧ s.power.perstLow = false ∧ s.on RST_CFG_HOT_SCOPE = true ∧ s.power.pins.io = true) ∧
    (∃ (fn : Nat) (s : State), s.Reaches fn 1) ∧
    (∃ (fn : Nat) (n : Nat) (s : State), PowerOpen s fn ∧ n < 16 ∧ s.coreOn n = true ∧ s.coreIdle n = true) ∧
    (∃ (fn : Nat) (n : Nat) (s : State), PowerOpen s fn ∧ n < 16 ∧ (s.coreOn n = false ∨ s.coreIdle n = false)) ∧
    (∃ (i : TapInstr), (∀ n, i ≠ .priv n)) ∧
    (∃ (s : State), s.on FU_LOCKS_DEBUG = true) :=
  ⟨⟨5, (readyUp.setDom 5 .retain), by decide +kernel⟩,
   ⟨3, by decide +kernel⟩,
   ⟨readyUp, by decide +kernel⟩,
   ⟨(({ State.reset with power := { State.reset.power with pins := { State.reset.power.pins with io := true }, perstLow := true } }).set SU_STATE 1), by decide +kernel⟩,
   ⟨(State.reset.set SU_STATE 1), by decide +kernel⟩,
   ⟨readyUp, by decide +kernel⟩,
   ⟨2, by decide +kernel⟩,
   ⟨({ readyUp with power := { readyUp.power with perstLow := true } }.setDom 1 .off), by decide +kernel⟩,
   ⟨readyUp, by decide +kernel⟩,
   ⟨readyUp, by decide +kernel⟩,
   ⟨(readyUp.flag RST_CFG_HOT_SCOPE true), by decide +kernel⟩,
   ⟨0, readyUp, by decide +kernel⟩,
   ⟨0, 3, (readyUp.setPage 0x130 { readyUp.page 0x130 with quiesceReq := true, quiesced := true }), by decide +kernel⟩,
   ⟨0, 3, readyUp, by decide +kernel⟩,
   ⟨.idcode, (by intro n h; cases h)⟩,
   ⟨(up.flag FU_LOCKS_DEBUG true), by decide +kernel⟩⟩

/-- States and operands that meet the hypotheses of each clause of PmbusPatchesAndTemperatures. -/
theorem witness_PmbusPatchesAndTemperatures :
    (∃ (fn : Nat) (s : State), s.Reaches fn 4 ∧ s.on PM_STAT_BUSY = false) ∧
    (∃ (fn : Nat) (addr : Nat) (code : Nat) (s : State), s.Reaches fn 4 ∧ s.on PM_STAT_BUSY = false ∧ s.guarded (addr % 128) (code % 256) = false) ∧
    (∃ (fn : Nat) (addr : Nat) (code : Nat) (x : Nat) (s : State), s.Reaches fn 4 ∧ s.on PM_STAT_BUSY = false ∧ x < 2 ∧ code % 256 = 0x21 ∧ s.get (PM_GUARD_ADDR x) ≠ 0 ∧ s.get (PM_GUARD_ADDR x) = addr % 128 ∧ s.get (PM_GUARD_PAGE x) = Map.get s.power.pmPages 0 (addr % 128) ∧ (s.get PM_WDATA < s.get (PM_GUARD_VMIN x) ∨ s.get (PM_GUARD_VMAX x) < s.get PM_WDATA)) ∧
    (∃ (s : State), s.on PM_STAT_BUSY = true) ∧
    (∃ (fn : Nat) (s : State), s.Reaches fn 4 ∧ s.on PATCH_CTRL_BUSY = false ∧ s.get SU_STATE = 2 ∧ s.get STRAPS % 4 ≠ 2 ∧ 0 < s.get PATCH_LEN ∧ s.get PATCH_LEN ≤ 262272) ∧
    (∃ (fn : Nat) (s : State), s.Reaches fn 4 ∧ s.on PATCH_CTRL_BUSY = false ∧ (s.get SU_STATE ≠ 2 ∨ s.get STRAPS % 4 = 2)) ∧
    (∃ (src : ReadOutcome) (a : Nat) (s : State) (t0 : State) (z : State) (st : Status) (b : List Byte), s.on PATCH_CTRL_BUSY = true ∧ s.hostHeld 0 (s.pair PATCH_ADDR_LO PATCH_ADDR_HI) (s.get PATCH_LEN) = false ∧ s.drawFree = (a, t0) ∧ t0.hostFetch 0 (a % 16) (s.pair PATCH_ADDR_LO PATCH_ADDR_HI) (s.get PATCH_LEN) src = (z, st, b)) ∧
    (∃ (version : Nat), version < 65536) ∧
    (∃ (b : List Byte), b.length < 128) ∧
    (∃ (a : Nat) (b : Nat) (io : Nat), tempReading a < 1920 ∧ tempReading b < 1920 ∧ tempReading io < 1920) ∧
    (∃ (a : Nat) (s : State), 1920 ≤ tempReading a ∧ s.get SU_STATE ≠ 5) ∧
    (∃ (k : Nat) (s : State), k < 6 ∧ s.get SU_STATE ≠ 5 ∧ s.dom 3 = .on) ∧
    (∃ (fn : Nat) (s : State), s.Reaches fn 1 ∧ s.on THERM_STAT_TRIPPED = true ∧ (∀ x ∈ s.readings, x < 1520)) ∧
    (∃ (fn : Nat) (s : State), s.Reaches fn 1 ∧ (∃ x ∈ s.readings, 1520 ≤ x)) :=
  ⟨⟨0, up, by decide +kernel⟩,
   ⟨0, 0x40, 0x21, up, by decide +kernel⟩,
   ⟨0, 0x40, 0x21, 0, ((up.set (PM_GUARD_ADDR 0) 0x40).set (PM_GUARD_VMIN 0) 5), by decide +kernel⟩,
   ⟨((up.flag PM_STAT_BUSY true).set PM_XFER_KIND 3), by decide +kernel⟩,
   ⟨0, (hostOn.set PATCH_LEN 128), by decide +kernel⟩,
   ⟨0, up, by decide +kernel⟩,
   ⟨.timeout, (hostOn.drawFree.1), ((hostOn.set PATCH_LEN 128).flag PATCH_CTRL_BUSY true), ((hostOn.set PATCH_LEN 128).flag PATCH_CTRL_BUSY true).drawFree.2, patchTimeout.1, .aborted, [], by decide +kernel, by decide +kernel, rfl, rfl⟩,
   ⟨3, by decide +kernel⟩,
   ⟨[], by decide +kernel⟩,
   ⟨1600, 0, 0, by decide +kernel⟩,
   ⟨1920, up, by decide +kernel⟩,
   ⟨2, up, by decide +kernel⟩,
   ⟨0, (up.flag THERM_STAT_TRIPPED true), by decide +kernel⟩,
   ⟨0, (up.set TEMP_A 1600), by decide +kernel⟩⟩

/-- States and operands that meet the hypotheses of each clause of RepairCommandsOfTheFaultPage. -/
theorem witness_RepairCommandsOfTheFaultPage :
    (∃ (fn : Nat) (core : Nat) (s : State), RepairOpen s fn ∧ core < 16) ∧
    (∃ (fn : Nat) (core : Nat) (set : Nat) (copy : Nat) (src : Nat) (ctx : Nat) (s : State), RepairOpen s fn ∧ core < 16 ∧ set < 8 ∧ copy < 2 ∧ s.refillStatus core set copy src ctx = .ok) ∧
    (∃ (fn : Nat) (core : Nat) (set : Nat) (copy : Nat) (src : Nat) (ctx : Nat) (s : State), RepairOpen s fn ∧ core < 16 ∧ s.refillStatus core set copy src ctx ≠ .ok) ∧
    (∃ (core : Nat) (set : Nat) (copy : Nat) (src : Nat) (ctx : Nat) (c : SetCfg) (srcs : List ReadOutcome) (s : State) (u : State), s.power.ftJob = some (.refill core set copy src ctx) ∧ s.stall = false ∧ s.copyHeld core set copy src = false ∧ (s.wset set).cfg = some c ∧ s.coreOn core = true ∧ ({ s with power := { s.power with ftJob := none } }).refillCore core set copy src ctx c srcs = (u, .ok) ∧ core < 16 ∧ set < 8 ∧ copy < 2) ∧
    (∃ (fn : Nat) (core : Nat) (s : State), RepairOpen s fn ∧ core < 16 ∧ s.holdsCurrent core = true ∧ s.coreOn core = true) ∧
    (∃ (fn : Nat) (core : Nat) (s : State), RepairOpen s fn ∧ core < 16 ∧ s.holdsCurrent core = false) ∧
    (∃ (fn : Nat) (core : Nat) (s : State), RepairOpen s fn ∧ core < 16 ∧ bitOf (s.get FT_CORE_FAULT) core = false ∧ bitOf (s.get FT_SLOT_PASS) (s.physSlot core) = true ∧ s.coreOn core = true ∧ s.get (CORE_EPOCH core) = s.get CHIP_EPOCH) ∧
    (∃ (fn : Nat) (core : Nat) (s : State), RepairOpen s fn ∧ core < 16 ∧ (bitOf (s.get FT_CORE_FAULT) core = true ∨ bitOf (s.get FT_SLOT_PASS) (s.physSlot core) = false)) ∧
    (∃ (fn : Nat) (core : Nat) (a : Nat) (s : State), RepairOpen s fn ∧ core < 16 ∧ a < 4 ∧ s.coreOn core = true ∧ (s.page (arrayPage core a)).quiesced = true) ∧
    (∃ (core : Nat) (a : Nat) (s : State), s.power.ftJob = some (.arrayTest core a) ∧ s.stall = false ∧ s.coreOn core = true) ∧
    (∃ (fn : Nat) (e : FaultEntry) (es : List FaultEntry) (s : State), s.Reaches fn 0x700 ∧ s.faultLog = e :: es) :=
  ⟨⟨0, 3, (up.set FT_CORE_ADM 0xFFFF), by decide +kernel⟩,
   ⟨0, 0, 0, 1, 0, 0, refillUp, by decide +kernel⟩,
   ⟨0, 0, 0, 1, 0, 0, up, by decide +kernel⟩,
   ⟨0, 0, 1, 0, 0, { mode := 2, cores := 1, len := 1, base0 := 0, base1 := 1 }, [.unsupported], refilling, (({ refilling with power := { refilling.power with ftJob := none } }).refillCore 0 0 1 0 0 { mode := 2, cores := 1, len := 1, base0 := 0, base1 := 1 } [.unsupported]).1, by decide +kernel⟩,
   ⟨0, 3, up, by decide +kernel⟩,
   ⟨0, 0, (refillUp.flag FT_STAT_BUSY false), by decide +kernel⟩,
   ⟨0, 3, ((up.set FT_SLOT_PASS 0x3FFFF).set (CORE_EPOCH 3) 0), by decide +kernel⟩,
   ⟨0, 3, up, by decide +kernel⟩,
   ⟨0, 0, 1, (up.setPage 0x102 { up.page 0x102 with quiesced := true }), by decide +kernel⟩,
   ⟨0, 1, testing, by decide +kernel⟩,
   ⟨0, { cls := 7, status := 0, fn := 0, lcore := 0, pslot := 0, array := 0, port := 1, index := 2, time := ⟨0, 0⟩ }, [], { up with faultLog := [{ cls := 7, status := 0, fn := 0, lcore := 0, pslot := 0, array := 0, port := 1, index := 2, time := ⟨0, 0⟩ }] }, by decide +kernel⟩⟩

/-- States and operands that meet the hypotheses of each clause of FuseCommandsAndTheirBurns. -/
theorem witness_FuseCommandsAndTheirBurns :
    (∃ (fn : Nat) (s : State), s.Reaches fn 3 ∧ s.behind 3 = false) ∧
    (∃ (fn : Nat) (s : State), s.Reaches fn 3 ∧ s.behind 3 = false ∧ s.fuses.unlocked = false) ∧
    (∃ (fn : Nat) (core : Nat) (slot : Nat) (s : State), FuseOpen s fn ∧ core < 16 ∧ (s.unlocked false).coreRemapStatus core slot = .ok ∧ s.fuses.left 4 (fun e => e.op == 1) ≠ 0) ∧
    (∃ (fn : Nat) (port : Nat) (lane : Nat) (phys : Nat) (s : State), FuseOpen s fn ∧ (s.unlocked false).laneRemapStatus port lane phys = .ok ∧ s.fuses.laneLeft port ≠ 0) ∧
    (∃ (fn : Nat) (s : State), FuseOpen s fn ∧ s.fuses.left 64 (fun e => e.op == 3) ≠ 0) ∧
    (∃ (fn : Nat) (v : Nat) (s : State), FuseOpen s fn ∧ s.on FU_LOCKS_PROFILE = false ∧ s.get FU_PROFILE_CUR < v ∧ v ≤ s.get FU_PROFILE_MAX ∧ s.fuses.left 15 (fun e => e.op == 4) ≠ 0) ∧
    (∃ (fn : Nat) (s : State), FuseOpen s fn ∧ s.on FU_LOCKS_PROFILE = true) ∧
    (∃ (fn : Nat) (s : State), FuseOpen s fn ∧ s.on FU_LOCKS_PROFILE = false ∧ s.fuses.left 1 (fun e => e.op == 5) ≠ 0) ∧
    (∃ (fn : Nat) (s : State), FuseOpen s fn ∧ s.fuses.left 1 (fun e => e.op == 6) ≠ 0) ∧
    (∃ (e : FuseEntry) (log : List FuseEntry) (s : State), s.fuses.burning = true ∧ s.fuses.log = log ++ [e] ∧ e.op = 3) ∧
    (∃ (e : FuseEntry) (log : List FuseEntry) (s : State), s.fuses.burning = true ∧ s.fuses.log = log ++ [e] ∧ (e.op = 4 ∨ e.op = 5 ∨ e.op = 6)) ∧
    (∃ (e : FuseEntry) (log : List FuseEntry) (s : State), s.fuses.burning = true ∧ s.fuses.log = log ++ [e] ∧ e.op = 2) :=
  ⟨⟨0, up, by decide +kernel⟩,
   ⟨0, up, by decide +kernel⟩,
   ⟨0, 0, 8, remapUp, by decide +kernel⟩,
   ⟨0, 0, 3, 8, (fuseUp.set (FU_LANE_MAP 0) 0x76543210), by decide +kernel⟩,
   ⟨0, fuseUp, by decide +kernel⟩,
   ⟨0, 5, (fuseUp.set FU_PROFILE_MAX 9), by decide +kernel⟩,
   ⟨0, (fuseUp.flag FU_LOCKS_PROFILE true), by decide +kernel⟩,
   ⟨0, fuseUp, by decide +kernel⟩,
   ⟨0, fuseUp, by decide +kernel⟩,
   ⟨(burnUp.fuses.log.getLastD ⟨0,0,0,0,0,0,false,⟨0,0⟩⟩), [], burnUp, by decide +kernel⟩,
   ⟨((fuseUp.burn 5 0 0 0 0 1).fuses.log.getLastD ⟨0,0,0,0,0,0,false,⟨0,0⟩⟩), [], (fuseUp.burn 5 0 0 0 0 1), by decide +kernel⟩,
   ⟨((fuseUp.burn 2 0 3 8 3 8).fuses.log.getLastD ⟨0,0,0,0,0,0,false,⟨0,0⟩⟩), [], (fuseUp.burn 2 0 3 8 3 8), by decide +kernel⟩⟩

/-- States and operands that meet the hypotheses of each clause of RegisterReadsAndWrites. -/
theorem witness_RegisterReadsAndWrites :
    (∃ (be : Nat), be % 16 ≠ 15) ∧
    (∃ (fn : Nat) (page : Nat) (s : State), s.Reaches fn page ∧ implemented page = true ∧ page < 2 ^ 15 ∧ vfWrites fn page 0x3C = true) ∧
    (∃ (fn : Nat) (page : Nat) (s : State), s.Reaches fn page ∧ implemented page = true ∧ page < 2 ^ 15 ∧ vfWrites fn page 0x1C = true) ∧
    (∃ (v : Nat), 40 ≤ v ∧ v ≤ 115) ∧
    (∃ (v : Nat), (v % 256 < 40 ∨ 115 < v % 256)) ∧
    (∃ (s : State), (s.page 2).lock = true) ∧
    (∃ (v : Nat) (s : State), (s.page 2).lock = false ∧ s.on TB_CTRL_TICK_EN = false ∧ 1000 ≤ v ∧ v ≤ 1000000 ∧ 1000000000 % v = 0) ∧
    (∃ (v : Nat) (s : State), (s.page 2).lock = false ∧ (s.on TB_CTRL_TICK_EN = true ∨ v < 1000 ∨ 1000000 < v) ∧ v < 2 ^ 32) ∧
    (∃ (fn : Nat) (page : Nat) (off : Nat) (s : State), s.Reaches fn page ∧ lowerWord page off = true ∧ off < 4096 ∧ off % 4 = 0 ∧ (off ≠ 0x48 ∨ page = 0x700) ∧ ¬(page = 2 ∧ off = 0x48) ∧ s.captured fn (4096 * page + off) = none) ∧
    (∃ (fn : Nat) (page : Nat) (off : Nat) (v : Nat) (s : State), s.Reaches fn page ∧ page ∈ [1, 3, 4, 0x300, 0x321, 0x510, 0x600, 0x680] ∧ off < 4096 ∧ off % 4 = 0 ∧ off ≠ 0x24 ∧ ¬(page = 0x680 ∧ off = 0xB0) ∧ s.captured fn (4096 * page + off) = some v) ∧
    (∃ (addr : Nat) (s : State), s.pageOn (addr / 4096) = false ∧ addr % 4096 ∈ [0x40, 0x44] ∧ addr / 4096 ≥ 0x600) ∧
    (∃ (fn : Nat) (addr : Nat) (s : State), s.pageOn (addr / 4096) = true ∧ s.sees fn (addr / 4096) = false ∧ addr % 4096 ∈ [0x40, 0x44]) ∧
    (∃ (fn : Nat) (s : State), s.Reaches fn 2) ∧
    (∃ (fn : Nat) (page : Nat) (s : State), s.Reaches fn page ∧ page < 2 ^ 15 ∧ (fn = 0 ∨ (page ≠ 0 ∧ page ≠ 2))) ∧
    (∃ (addr : Nat) (s : State), addr % 4 = 0 ∧ smbusPage (addr / 4096) = true ∧ addr % 4096 ≠ 0x24 ∧ addr ≠ 0x700040 ∧ s.captured 9 addr = none ∧ (addr % 4096 = 0x2C → (s.page (pageKey 0 (addr / 4096))).errNext = none)) ∧
    (∃ (s : State), s.quiet 1 = false ∧ s.stall = false ∧ s.behind 1 = false) :=
  ⟨⟨3, by decide +kernel⟩,
   ⟨0, 2, up, by decide +kernel⟩,
   ⟨0, 2, up, by decide +kernel⟩,
   ⟨100, by decide +kernel⟩,
   ⟨30, by decide +kernel⟩,
   ⟨(up.setPage 2 { up.page 2 with lock := true }), by decide +kernel⟩,
   ⟨1000, up, by decide +kernel⟩,
   ⟨5, up, by decide +kernel⟩,
   ⟨0, 3, 0xC0, up, by decide +kernel⟩,
   ⟨0, 3, 0xC4, 9, (up.setCaptured 0 0x30C4 (some 9)), by decide +kernel⟩,
   ⟨0x600044, hostOn, by decide +kernel⟩,
   ⟨1, 0x1044, up, by decide +kernel⟩,
   ⟨0, up, by decide +kernel⟩,
   ⟨0, 3, up, by decide +kernel⟩,
   ⟨0x1050, up, by decide +kernel⟩,
   ⟨readyUp, by decide +kernel⟩⟩

/-- States and operands that meet the hypotheses of each clause of CommonLayoutCommands. -/
theorem witness_CommonLayoutCommands :
    (∃ (fn : Nat) (page : Nat) (s : State), s.Reaches fn page ∧ implemented page = true ∧ mayClear fn page true = true) ∧
    (∃ (fn : Nat) (page : Nat) (b : Nat) (s : State), s.Reaches fn page ∧ implemented page = true ∧ mayClear fn page false = true ∧ (page < 0x221 ∨ 0x228 < page) ∧ bitOf (evtMask page) b = true) ∧
    (∃ (page : Nat) (s : State), s.pageOn page = true ∧ implemented page = true ∧ isArrayPage page = false) ∧
    (∃ (n : Nat) (a : Nat) (s : State), n < 16 ∧ a < 4 ∧ s.coreOn n = true ∧ s.on (MA_CAP_IN_SERVICE n a) = true ∧ (s.page (arrayPage n a)).quiesced = true) ∧
    (∃ (n : Nat) (a : Nat) (s : State), n < 16 ∧ a < 4 ∧ s.coreOn n = true ∧ s.on (MA_CAP_IN_SERVICE n a) = true ∧ (s.page (arrayPage n a)).quiesced = false) ∧
    (∃ (page : Nat) (s : State), s.pageOn page = true ∧ implemented page = true) ∧
    (∃ (fn : Nat) (page : Nat) (s : State), s.pageOn page = true ∧ fn ≠ 0) ∧
    (∃ (page : Nat) (s : State), s.pageOn page = true ∧ implemented page = true ∧ (s.page page).quiesced = false) ∧
    (∃ (page : Nat) (s : State), page ∈ [0, 4, 0x220, 0x310, 0x400, 0x700] ∧ s.pageOn page = true ∧ (s.page page).quiesced = true) ∧
    (∃ (page : Nat) (s : State), s.pageOn page = true ∧ implemented page = true ∧ (page < 0x100 ∨ 0x400 ≤ page) ∧ page ≠ 0x680) ∧
    (∃ (n : Nat) (s : State), n < 16 ∧ s.coreOn n = true ∧ s.sequencerEmpty n = true) ∧
    (∃ (page : Nat) (b : Nat) (s : State), s.Awake page ∧ implemented page = true ∧ page ≠ 0x200 ∧ s.quiet page = true ∧ (s.page page).quiesced = false ∧ s.atBoundary page = true ∧ quiescedBit page = some b) ∧
    (∃ (s : State), s.Awake 0x200 ∧ s.quiet 0x200 = true ∧ (s.page 0x200).quiesced = false ∧ s.atBoundary 0x200 = true) ∧
    (∃ (page : Nat) (s : State), (s.atBoundary page = false ∨ (s.stall = true ∧ fabricPage page = true))) :=
  ⟨⟨0, 4, (up.capture 4 .badParam 3 4), by decide +kernel⟩,
   ⟨0, 4, 0, (up.raise 4 0), by decide +kernel⟩,
   ⟨4, up, by decide +kernel⟩,
   ⟨0, 1, ((up.flag (MA_CAP_IN_SERVICE 0 1) true).setPage 0x102 { up.page 0x102 with quiesced := true }), by decide +kernel⟩,
   ⟨0, 1, (up.flag (MA_CAP_IN_SERVICE 0 1) true), by decide +kernel⟩,
   ⟨4, up, by decide +kernel⟩,
   ⟨1, 0, up, by decide +kernel⟩,
   ⟨4, up, by decide +kernel⟩,
   ⟨4, ((up.capture 4 .badParam 1 2).setPage 4 { (up.capture 4 .badParam 1 2).page 4 with quiesceReq := true, quiesced := true }), by decide +kernel⟩,
   ⟨4, up, by decide +kernel⟩,
   ⟨3, up, by decide +kernel⟩,
   ⟨4, 2, (up.setPage 4 { up.page 4 with quiesceReq := true }), by decide +kernel⟩,
   ⟨(up.setPage 0x200 { up.page 0x200 with quiesceReq := true }), by decide +kernel⟩,
   ⟨0x101, { up with stall := true }, by decide +kernel⟩⟩

/-- States and operands that meet the hypotheses of each clause of StepTakesTheFrontCommand. -/
theorem witness_StepTakesTheFrontCommand :
    (∃ (c : Instr) (q : List Instr) (s : State), s.pending = c :: q) :=
  ⟨.tbArm, [.tapReset], { up with pending := [.tbArm, .tapReset] }, by decide +kernel⟩

/-- States and operands that meet the hypotheses of each clause of IdleStepsReleaseFetchAndPassTime. -/
theorem witness_IdleStepsReleaseFetchAndPassTime :
    (∃ (p : Nat) (s : State), s.pending = [] ∧ s.held = [] ∧ s.rxPort = some p) ∧
    (∃ (n : Nat) (s : State), s.pending = [] ∧ s.held = [] ∧ s.rxPort = none ∧ s.readyCore = some n) ∧
    (∃ (n : Nat) (i : Nat) (s : State), s.pending = [] ∧ s.held = [] ∧ s.rxPort = none ∧ s.readyCore = none ∧ s.fetcher = some (n, i)) ∧
    (∃ (s : State), s.pending = [] ∧ s.held = [] ∧ s.rxPort = none ∧ s.readyCore = none ∧ s.fetcher = none) :=
  ⟨⟨0, (dataUp.setPort 0 { dataUp.port 0 with rxBuf := [.voided] }), by decide +kernel⟩,
   ⟨0, (busyCore.setRunning 0 0 (some { oneTask with window := [entOf (.flagsOut (asRef 0)) [0]] })), by decide +kernel⟩,
   ⟨0, 0, busyCore, by decide +kernel⟩,
   ⟨up, by decide +kernel⟩⟩

/-- States and operands that meet the hypotheses of each clause of EveryStepKeepsSoundness. -/
theorem witness_EveryStepKeepsSoundness :
    (∃ (s : State) (t : State), s.Sound ∧ step s = .next t) :=
  ⟨{ up with pending := [.tapReset] }, { up with power := { up.power with tap := .idcode } }, ⟨by decide, by decide, by decide, by decide, by decide⟩, rfl⟩

/-- States and operands that meet the hypotheses of each clause of CommandsRunAndOnlyPrivateTestAccessIsRefused. -/
theorem witness_CommandsRunAndOnlyPrivateTestAccessIsRefused :
    (∃ (c : Instr), (∀ n, c ≠ .jtagInstruction (.priv n))) ∧
    (∃ (s : State), s.on FU_LOCKS_DEBUG = false) ∧
    (∃ (s : State), s.on FU_LOCKS_DEBUG = true) :=
  ⟨⟨.tbArm, by intro n h; cases h⟩,
   ⟨up, by decide +kernel⟩,
   ⟨(up.flag FU_LOCKS_DEBUG true), by decide +kernel⟩⟩

/-- States and operands that meet the hypotheses of each clause of CommandsLeaveOtherPartsAlone. -/
theorem witness_CommandsLeaveOtherPartsAlone :
    (∃ (c : Instr) (s : State) (t : State), exec c s = .next t) :=
  ⟨.tapReset, up, { up with power := { up.power with tap := .idcode } }, rfl⟩

/-- States and operands that meet the hypotheses of each clause of ErrorCodeReadsCaptureTheErrorSet. -/
theorem witness_ErrorCodeReadsCaptureTheErrorSet :
    (∃ (fn : Nat) (page : Nat) (o : Nat) (s : State), s.Reaches fn page ∧ implemented page = true ∧ (o = 0x28 ∨ o = 0x2C ∨ o = 0x30 ∨ o = 0x34)) ∧
    (∃ (fn : Nat) (page : Nat) (o : Nat) (s : State), s.Reaches fn page ∧ implemented page = true ∧ (o = 0x28 ∨ o = 0x2C ∨ o = 0x30 ∨ o = 0x34) ∧ s.captured fn (4096 * page + o) = none) ∧
    (∃ (fn : Nat) (g : Nat) (page : Nat) (x : Nat) (s : State), s.Reaches fn page ∧ g ≠ fn ∧ page < 2 ^ 15 ∧ x < 2 ^ 27) :=
  ⟨⟨0, 4, 0x28, (up.capture 4 .aborted 7 8), by decide +kernel⟩,
   ⟨0, 4, 0x28, (up.capture 4 .aborted 7 8), by decide +kernel⟩,
   ⟨0, 1, 4, 0x4028, up, by decide +kernel⟩⟩

/-- States and operands that meet the hypotheses of each clause of TimebaseReadsCaptureTheSeconds. -/
theorem witness_TimebaseReadsCaptureTheSeconds :
    (∃ (fn : Nat) (s : State), s.Reaches fn 2) :=
  ⟨0, up, by decide +kernel⟩

/-! ### Functions and steps against values from outside the model -/

/-- SHA-256 of "abc" (FIPS 180-4, its worked example). -/
theorem test_sha256_abc : beNat (sha256 [0x61, 0x62, 0x63]) = 0xba7816bf8f01cfea414140de5dae2223b00361a396177a9cb410ff61f20015ad := by decide +kernel

/-- AES-128 (FIPS 197, appendix C.1). -/
theorem test_aes128 : beNat (aesEnc ((List.range 16).map (BitVec.ofNat 8)) ((List.range 16).map (fun i => BitVec.ofNat 8 (17 * i)))) = 0x69c4e0d86a7b0430d8cdb78070b4c55a := by decide +kernel

/-- 1 + 2 = 3 in FP32, exactly; 1 + 2^-24 rounds to 1, the tie going to the even significand (IEEE 754). -/
theorem test_fp32_add : fadd 0x3F800000 0x40000000 = (0x40400000, 0) ∧ fadd 0x3F800000 0x33800000 = (0x3F800000, INX) := by decide +kernel

/-- 3 times −0.5 is −1.5 in FP32 (IEEE 754). -/
theorem test_fp32_mul : fmul 0x40400000 0xBF000000 = (0xBFC00000, 0) := by decide +kernel

/-- R235. A SIGNAL of 2 on a counter at 65,535 saturates and sets SAT_HI. -/
theorem test_signal_saturates : (match execCntSignal 0 5 2 (up.setCounter 5 { up.counter 5 with value := 65535 }) with
    | .next t => (t.counter 5).value == 65535 && (t.counter 5).satHi | _ => false) = true := by decide +kernel

/-- R612. BLK_ID of the TIMEBASE page: type 3, instance 0, page 0. -/
theorem test_blk_id : State.reset.wordAt 0 0x2000 = 0x00030000 := by decide +kernel

/-- R53. TB_TICK_NS resets to 10,000. -/
theorem test_tick_reset : State.reset.wordAt 0 0x206C = 10000 := by decide +kernel

/-- R547. CHIP_RESET takes effect with its key alone. -/
theorem test_chip_reset_key : (match execChipReset 0 1 readyUp, execChipReset 0 0xC1A5 readyUp with
    | .next s, .next t => s.get RST_CAUSE == 1 && t.get RST_CAUSE == 5 | _, _ => false) = true := by decide +kernel

/-- R537, R598. The fall of PWR_GOOD_MEM turns PD_MEM off. -/
theorem test_mem_supply : (match execPwrGoodFall 2 readyUp with | .next t => t.dom 3 == .off && t.dom 5 == .on | _ => false) = true := by decide +kernel

/-- R426. A read of a page whose domain is off answers all ones. -/
theorem test_off_page : (match execLowerWordRead 0 0x300040 State.reset with | .next t => t.readData == 0xFFFFFFFF | _ => false) = true := by decide +kernel

/-- A step takes the command at the front of the queue. -/
theorem test_step_front : (match step { State.reset with pending := [.tapReset, .tbArm] } with | .next t => t.pending == [.tbArm] | _ => false) = true := by decide +kernel

/-- No word spells a command: the table gives no bits. -/
theorem test_no_words : decodeTableWord 32 0 = none := rfl


/-! ### Terms that well-formedness refuses, one for each of its checks -/

/-- Fields in their ranges. -/
def xf0 : XferStep := { src := asRef 0, dst := asRef 0, rowLen := 0, rows := 0, flush := false }

def se0 : SealStep := { src := asRef 0, dst := asRef 0, len := 0, key := 0, alg := 0 }

def ve0 : VectorStep := { a := asRef 0, b := asRef 0, c := asRef 0, dst := asRef 0, afmt := 0, bfmt := 0, cfmt := 0, ofmt := 0, rnd := false, ovfm := false, cols := 0, rows := 0, seed := 0, imm := 0 }

def ct0 : CoreTest := ⟨[0, 0, 0, 0], true⟩

def sr0 : StartReport := { trained := List.replicate 6 true, pchFail := List.replicate 6 0, rngOk := true, pkeOk := true, slots := [] }

/-- A part of a step, flit or report is out of range. -/
theorem test_ill_formed_parts1 : ([.nop { hdr0 with core := 16 }, .nop { hdr0 with slot := 4 }, .nop { hdr0 with sigCtr := 4096 }, .nop { hdr0 with tag := 2 ^ 32 },
    .flagsOut hdr0 { asRef 0 with off := 2 ^ 40 }, .flagsOut hdr0 { asRef 0 with space := 16 }, .flagsOut hdr0 { asRef 0 with areg := 16 },
    .flagsOut hdr0 { asRef 0 with pitch := 2 ^ 16 }, .load hdr0 { xf0 with src := { asRef 0 with areg := 16 } },
    .load hdr0 { xf0 with dst := { asRef 0 with areg := 16 } }, .load hdr0 { xf0 with rowLen := 2 ^ 24 }, .load hdr0 { xf0 with rows := 2 ^ 16 },
    .matmul hdr0 { mm0 with plane := { asRef 0 with areg := 16 } }, .matmul hdr0 { mm0 with bcast := { asRef 0 with areg := 16 } },
    .matmul hdr0 { mm0 with dst := { asRef 0 with areg := 16 } }, .matmul hdr0 { mm0 with init := { asRef 0 with areg := 16 } }, .matmul hdr0 { mm0 with k := 2 ^ 16 },
    .matmul hdr0 { mm0 with n := 2 ^ 16 }, .matmul hdr0 { mm0 with vcnt := 2 ^ 16 }, .matmul hdr0 { mm0 with mode := 4 }, .matmul hdr0 { mm0 with gang := 4 },
    .matmul hdr0 { mm0 with share := 4 }, .matmul hdr0 { mm0 with lead := 4 }, .matmul hdr0 { mm0 with blk := 512 }, .matmul hdr0 { mm0 with pfmt := 16 },
    .matmul hdr0 { mm0 with bfmt := 16 }, .matmul hdr0 { mm0 with ofmt := 16 }, .matmul hdr0 { mm0 with seed := 2 ^ 32 },
    .matvec hdr0 { mv0 with wgt := { asRef 0 with areg := 16 } }, .matvec hdr0 { mv0 with vec := { asRef 0 with areg := 16 } },
    .matvec hdr0 { mv0 with dst := { asRef 0 with areg := 16 } }, .matvec hdr0 { mv0 with init := { asRef 0 with areg := 16 } }, .matvec hdr0 { mv0 with k := 2 ^ 16 },
    .matvec hdr0 { mv0 with n := 2 ^ 16 }, .matvec hdr0 { mv0 with nvec := 8 }, .matvec hdr0 { mv0 with wfmt := 16 }, .matvec hdr0 { mv0 with vfmt := 16 },
    .matvec hdr0 { mv0 with ofmt := 16 }, .matvec hdr0 { mv0 with seed := 2 ^ 32 }, .add hdr0 { ve0 with a := { asRef 0 with areg := 16 } },
    .add hdr0 { ve0 with b := { asRef 0 with areg := 16 } }, .add hdr0 { ve0 with c := { asRef 0 with areg := 16 } },
    .add hdr0 { ve0 with dst := { asRef 0 with areg := 16 } }, .add hdr0 { ve0 with afmt := 16 }, .add hdr0 { ve0 with bfmt := 16 }, .add hdr0 { ve0 with cfmt := 16 },
    .add hdr0 { ve0 with ofmt := 16 }, .add hdr0 { ve0 with cols := 2 ^ 16 }, .add hdr0 { ve0 with rows := 2 ^ 16 }, .add hdr0 { ve0 with seed := 2 ^ 32 },
    .add hdr0 { ve0 with imm := 2 ^ 32 }, .sealOp hdr0 { se0 with src := { asRef 0 with areg := 16 } }, .sealOp hdr0 { se0 with dst := { asRef 0 with areg := 16 } },
    .sealOp hdr0 { se0 with len := 2 ^ 32 }, .sealOp hdr0 { se0 with key := 512 }, .sealOp hdr0 { se0 with alg := 256 }, .void 0 { fh0 with seq := 2 ^ 24 },
    .void 0 { fh0 with ack := 2 ^ 24 }, .void 0 { fh0 with count := 64 }, .void 0 { fh0 with vc := 4 }] : List Instr).all (fun c => !wellFormed c) = true := by decide +kernel

/-- A part of a step, flit or report is out of range. -/
theorem test_ill_formed_parts2 : ([.lwrHead 0 fh0 { lw0 with dest := 256 } [], .lwrHead 0 fh0 { lw0 with origin := 256 } [], .lwrHead 0 fh0 { lw0 with lf := 4096 } [],
    .lwrHead 0 fh0 { lw0 with flow := 4096 } [], .lwrHead 0 fh0 { lw0 with fn := 16 } [], .lwrHead 0 fh0 { lw0 with seq := 2 ^ 32 } [],
    .lwrHead 0 fh0 { lw0 with off := 2 ^ 28 } [], .lwrHead 0 fh0 { lw0 with len := 0 } [], .lwrHead 0 fh0 { lw0 with len := 4096 + 1 } [],
    .lsig 0 fh0 { ls0 with dest := 256 }, .lsig 0 fh0 { ls0 with origin := 256 }, .lsig 0 fh0 { ls0 with ctr := 4096 }, .lsig 0 fh0 { ls0 with value := 2 ^ 16 },
    .lsig 0 fh0 { ls0 with flow := 4096 }, .lsig 0 fh0 { ls0 with fn := 16 }, .coreTestDone 0 { ct0 with columns := [0, 0, 0] },
    .coreTestDone 0 { ct0 with columns := [0, 0, 0, 2 ^ 65] }, .pwrDone 1 { sr0 with trained := [] }, .pwrDone 1 { sr0 with pchFail := [] },
    .pwrDone 1 { sr0 with slots := [{ ct0 with columns := [] }] }] : List Instr).all (fun c => !wellFormed c) = true := by decide +kernel

/-- An operand is out of range. -/
theorem test_ill_formed1 : ([.load { hdr0 with core := 16 } xf0, .load hdr0 { xf0 with rows := 65536 }, .transfer { hdr0 with core := 16 } xf0, .transfer hdr0 { xf0 with rows := 65536 },
    .matmul { hdr0 with core := 16 } mm0, .matmul hdr0 { mm0 with k := 65536 }, .matvec { hdr0 with core := 16 } mv0, .matvec hdr0 { mv0 with k := 65536 },
    .signal { hdr0 with core := 16 } 0 0, .signal hdr0 4096 0, .signal hdr0 0 (2 ^ 16), .wait { hdr0 with core := 16 } 0 0, .wait hdr0 4096 0, .wait hdr0 0 (2 ^ 16),
    .set { hdr0 with core := 16 } 0 0, .set hdr0 4096 0, .set hdr0 0 (2 ^ 16), .flagsOut { hdr0 with core := 16 } (asRef 0),
    .flagsOut hdr0 { asRef 0 with space := 16 }, .flagsClr { hdr0 with core := 16 } 0, .flagsClr hdr0 32, .saltSet { hdr0 with core := 16 } 0, .saltSet hdr0 (2 ^ 32),
    .seta { hdr0 with core := 16 } 0 0, .seta hdr0 16 0, .seta hdr0 0 (2 ^ 40), .adda { hdr0 with core := 16 } 0 0, .adda hdr0 16 0, .adda hdr0 0 (2 ^ 40),
    .loop { hdr0 with core := 16 } 0 0, .loop hdr0 16 0, .loop hdr0 0 (2 ^ 20), .jump { hdr0 with core := 16 } 0, .jump hdr0 (2 ^ 20), .seqPreempt 9 0 0,
    .seqPreempt 0 16 0, .seqPreempt 0 0 16, .seqAbort 9 0 0, .seqAbort 0 16 0, .seqAbort 0 0 16, .seqResGo 9 0, .seqResGo 0 16, .seqResDiscard 9 0,
    .seqResDiscard 0 16, .ctxLoad 9 0 0, .ctxLoad 0 16 0, .ctxLoad 0 0 16, .coreTestStart 9 0, .coreTestStart 0 16, .chApply 9 0, .chApply 0 256, .chCmdMark 9 0 0,
    .chCmdMark 0 256 0, .chCmdMark 0 0 8, .chCmdRewind 9 0 0, .chCmdRewind 0 256 0, .chCmdRewind 0 0 8, .chCmdRelease 9 0 0, .chCmdRelease 0 256 0,
    .chCmdRelease 0 0 8] : List Instr).all (fun c => !wellFormed c) = true := by decide +kernel

/-- An operand is out of range. -/
theorem test_ill_formed2 : ([.replayHeld 9 0, .replayHeld 0 256, .discardHeld 9 0, .discardHeld 0 256, .chFlush 9 0, .chFlush 0 256, .hostPost 9 1 0, .hostPost 0 0 0, .hostPost 0 9 0,
    .hostPost 0 1 4, .releaseSkip 9 0, .releaseSkip 0 4096, .releaseRetry 9 0, .releaseRetry 0 4096, .clearStale 9 0, .clearStale 0 4096, .purge 9 0, .purge 0 4096,
    .dlReleaseAll 9 0, .dlReleaseAll 0 4, .dlPurge 9 0, .dlPurge 0 4, .chnApply 9 0, .chnApply 0 32, .clearLost 9 0, .clearLost 0 32, .flushSpill 9 0,
    .flushSpill 0 32, .cntSignal 9 0 0, .cntSignal 0 4096 0, .cntSignal 0 0 (2 ^ 32), .cntSub 9 0 0, .cntSub 0 4096 0, .cntSub 0 0 (2 ^ 32), .cntSet 9 0 0,
    .cntSet 0 4096 0, .cntSet 0 0 (2 ^ 32), .cntArm 9 0 0, .cntArm 0 4096 0, .cntArm 0 0 (2 ^ 32), .cntDisarm 9 0, .cntDisarm 0 4096, .dbgSignal 9 0,
    .dbgSignal 0 (2 ^ 32), .dbgSub 9 0, .dbgSub 0 (2 ^ 32), .dbgSet 9 0, .dbgSet 0 (2 ^ 32), .dbgArm 9 0, .dbgArm 0 (2 ^ 32), .dbgDisarm 9, .syBlkFnWrite 9 0 0,
    .syBlkFnWrite 0 8 0, .syBlkFnWrite 0 0 (2 ^ 32), .syBlkClr 9 0, .syBlkClr 0 64, .lcFlush 9 0, .lcFlush 0 16, .lcFlushInv 9 0, .lcFlushInv 0 16] : List Instr).all (fun c => !wellFormed c) = true := by decide +kernel

/-- An operand is out of range. -/
theorem test_ill_formed3 : ([.rdS 16 0, .rdS 0 (2 ^ 40), .rdM 16 0 [], .rdM 0 (2 ^ 40) [], .rdM 0 0 (List.replicate 129 0), .claim 16 0 [], .claim 0 (2 ^ 40) [],
    .claim 0 0 (List.replicate 129 0), .upg 16 0 [], .upg 0 (2 ^ 40) [], .upg 0 0 (List.replicate 129 0), .dataS 16 0, .dataS 0 (2 ^ 33), .dataM 16 0,
    .dataM 0 (2 ^ 33), .grant 16 0, .grant 0 (2 ^ 33), .evictAck 16 0, .evictAck 0 (2 ^ 33), .snpInv 16 0, .snpInv 0 (2 ^ 33), .snpShr 16 0, .snpShr 0 (2 ^ 33),
    .homeAgentRead 16 0 0 0, .homeAgentRead 0 9 0 0, .homeAgentRead 0 0 16 0, .homeAgentRead 0 0 0 (2 ^ 40), .homeAgentWrite 16 0 0 0 [], .homeAgentWrite 0 9 0 0 [],
    .homeAgentWrite 0 0 16 0 [], .homeAgentWrite 0 0 0 (2 ^ 40) [], .homeAgentWrite 0 0 0 0 (List.replicate 129 0), .wsetApply 9 0, .wsetApply 0 8, .wsetFill 9 0 0,
    .wsetFill 0 8 0, .wsetFill 0 0 2, .wsetSwitch 9 0, .wsetSwitch 0 8, .wsetArm 9 0, .wsetArm 0 8, .wsetDisarm 9 0, .wsetDisarm 0 8, .manApply 9 0 0 0 0,
    .manApply 0 8 0 0 0, .manApply 0 0 2 0 0, .manApply 0 0 0 16 0, .manApply 0 0 0 0 16, .rqDoorbell 9 0 0 0, .rqDoorbell 0 9 0 0, .rqDoorbell 0 0 4 0,
    .rqDoorbell 0 0 0 (2 ^ 32), .cqDoorbell 9 0 0 0, .cqDoorbell 0 9 0 0, .cqDoorbell 0 0 4 0, .cqDoorbell 0 0 0 (2 ^ 32), .rngRestart 9, .slotCmdClear 9 0,
    .slotCmdClear 0 512, .hrPiDoorbell 9 0 0] : List Instr).all (fun c => !wellFormed c) = true := by decide +kernel

/-- An operand is out of range. -/
theorem test_ill_formed4 : ([.hrPiDoorbell 0 256 0, .hrPiDoorbell 0 0 (2 ^ 32), .hrCiDoorbell 9 0 0, .hrCiDoorbell 0 256 0, .hrCiDoorbell 0 0 (2 ^ 32), .hrEnable 9 0 false,
    .hrEnable 0 256 false, .hrSkip 9 0, .hrSkip 0 256, .flr 0, .flr 9, .tnQuiesce 9 1 false, .tnQuiesce 0 0 false, .tnQuiesce 0 9 false, .tnUnquiesce 9 1,
    .tnUnquiesce 0 0, .tnUnquiesce 0 9, .revokeAll 9 1, .revokeAll 0 0, .revokeAll 0 9, .dlSync 9 1, .dlSync 0 0, .dlSync 0 9, .dlEpoch 9 1, .dlEpoch 0 0,
    .dlEpoch 0 9, .tgCoresWrite 9 1 0, .tgCoresWrite 0 0 0, .tgCoresWrite 0 9 0, .tgCoresWrite 0 1 (2 ^ 32), .tgPagesWrite 9 1 0, .tgPagesWrite 0 0 0,
    .tgPagesWrite 0 9 0, .tgPagesWrite 0 1 (2 ^ 32), .exch 8 fh0 [], .exch 0 { fh0 with vc := 4 } [], .itemHead 8 fh0 [] [], .itemHead 0 { fh0 with vc := 4 } [] [],
    .itemData 8 fh0 [], .itemData 0 { fh0 with vc := 4 } [], .lwrHead 8 fh0 lw0 [], .lwrHead 0 { fh0 with vc := 4 } lw0 [], .lwrHead 0 fh0 { lw0 with fn := 16 } [],
    .lwrData 8 fh0 [], .lwrData 0 { fh0 with vc := 4 } [], .lsig 8 fh0 ls0, .lsig 0 { fh0 with vc := 4 } ls0, .lsig 0 fh0 { ls0 with fn := 16 }, .notice 8 fh0 ln0,
    .notice 0 { fh0 with vc := 4 } ln0, .void 8 fh0, .void 0 { fh0 with vc := 4 }, .tsync 8 fh0 ⟨0, 0⟩ none, .tsync 0 { fh0 with vc := 4 } ⟨0, 0⟩ none, .lane 8 fh0 0,
    .lane 0 { fh0 with vc := 4 } 0, .lane 0 fh0 256, .key 8 fh0, .key 0 { fh0 with vc := 4 }, .leave 8 fh0] : List Instr).all (fun c => !wellFormed c) = true := by decide +kernel

/-- An operand is out of range. -/
theorem test_ill_formed5 : ([.leave 0 { fh0 with vc := 4 }, .pwrOn 9 1, .pwrOn 0 0, .pwrOn 0 9, .pwrRetain 9 1 false, .pwrRetain 0 0 false, .pwrRetain 0 9 false, .pwrOff 9 1 false,
    .pwrOff 0 0 false, .pwrOff 0 9 false, .coreRst 9 0, .coreRst 0 (2 ^ 16), .withdraw 9 0, .withdraw 0 16, .refill 9 0 0 0 0 0, .refill 0 16 0 0 0 0,
    .refill 0 0 8 0 0 0, .refill 0 0 0 2 0 0, .refill 0 0 0 0 2 0, .refill 0 0 0 0 0 16, .epochSync 9 0, .epochSync 0 16, .admitCore 9 0, .admitCore 0 16,
    .arrayTest 9 0 0, .arrayTest 0 16 0, .arrayTest 0 0 4, .fuUnlock 9 0, .fuUnlock 0 (2 ^ 32), .coreRemap 9 0 0, .coreRemap 0 16 0, .coreRemap 0 0 16,
    .laneRemap 9 0 0 0, .laneRemap 0 8 0 0, .laneRemap 0 0 8 0, .laneRemap 0 0 0 16, .rkeAdvance 9, .profileRaise 9 0, .profileRaise 0 (2 ^ 32), .profileLock 9,
    .debugLock 9, .registerWrite 9 0 0 0, .registerWrite 0 (2 ^ 26) 0 0, .registerWrite 0 0 (2 ^ 32) 0, .registerWrite 0 0 0 16, .lowerWordRead 9 0,
    .lowerWordRead 0 (2 ^ 26), .tbNowRead 9, .errCodeRead 9 0, .errCodeRead 0 16384, .errCodeClr 9 0 none, .errCodeClr 0 16384 none, .evtStatClear 9 0 0 0,
    .evtStatClear 0 16384 0 0, .evtStatClear 0 0 (2 ^ 32) 0, .evtStatClear 0 0 0 (2 ^ 32), .blkEnable 9 0 false, .blkEnable 0 16384 false, .softReset 9 0 0,
    .softReset 0 16384 0] : List Instr).all (fun c => !wellFormed c) = true := by decide +kernel

/-- An operand is out of range. -/
theorem test_ill_formed6 : ([.softReset 0 0 (2 ^ 32), .quiesceReq 9 0 false, .quiesceReq 0 16384 false, .quiesceDone 16384, .blkLock 9 0, .blkLock 0 16384, .resume 9 0, .resume 0 16384,
    .tickEnWrite 9 false, .slotGet 16 0, .slotGet 0 4, .nop { hdr0 with core := 16 }, .add { hdr0 with core := 16 } ve0, .add hdr0 { ve0 with cols := 65536 },
    .sub { hdr0 with core := 16 } ve0, .sub hdr0 { ve0 with cols := 65536 }, .mul { hdr0 with core := 16 } ve0, .mul hdr0 { ve0 with cols := 65536 },
    .fma { hdr0 with core := 16 } ve0, .fma hdr0 { ve0 with cols := 65536 }, .max { hdr0 with core := 16 } ve0, .max hdr0 { ve0 with cols := 65536 },
    .min { hdr0 with core := 16 } ve0, .min hdr0 { ve0 with cols := 65536 }, .rcp { hdr0 with core := 16 } ve0, .rcp hdr0 { ve0 with cols := 65536 },
    .rsqrt { hdr0 with core := 16 } ve0, .rsqrt hdr0 { ve0 with cols := 65536 }, .exp { hdr0 with core := 16 } ve0, .exp hdr0 { ve0 with cols := 65536 },
    .cvt { hdr0 with core := 16 } ve0, .cvt hdr0 { ve0 with cols := 65536 }, .sumred { hdr0 with core := 16 } ve0, .sumred hdr0 { ve0 with cols := 65536 },
    .maxred { hdr0 with core := 16 } ve0, .maxred hdr0 { ve0 with cols := 65536 }, .argmax { hdr0 with core := 16 } ve0, .argmax hdr0 { ve0 with cols := 65536 },
    .rand { hdr0 with core := 16 } ve0, .rand hdr0 { ve0 with cols := 65536 }, .waitDec { hdr0 with core := 16 } 0 0, .waitDec hdr0 4096 0, .waitDec hdr0 0 (2 ^ 16),
    .signalRemote { hdr0 with core := 16 } 0 0 0, .signalRemote hdr0 256 0 0, .signalRemote hdr0 0 4096 0, .signalRemote hdr0 0 0 (2 ^ 16),
    .taskPost { hdr0 with core := 16 } 0 0 (List.replicate 32 0), .taskPost hdr0 4 0 (List.replicate 32 0), .taskPost hdr0 0 (2 ^ 32) (List.replicate 32 0),
    .taskPost hdr0 0 0 [], .chainMark { hdr0 with core := 16 } 0 0, .chainMark hdr0 256 0, .chainMark hdr0 0 256, .chainRewind { hdr0 with core := 16 } 0 0,
    .chainRewind hdr0 256 0, .chainRewind hdr0 0 256, .chainRelease { hdr0 with core := 16 } 0 0, .chainRelease hdr0 256 0, .chainRelease hdr0 0 256] : List Instr).all (fun c => !wellFormed c) = true := by decide +kernel

/-- An operand is out of range. -/
theorem test_ill_formed7 : ([.chainCommit { hdr0 with core := 16 } 0, .chainCommit hdr0 256, .sealOp { hdr0 with core := 16 } se0, .sealOp hdr0 { se0 with key := 512 },
    .fenceFull { hdr0 with core := 16 }, .fenceStore { hdr0 with core := 16 }, .stepComplete 16 0 0, .stepComplete 0 4 0, .arrayFault 16 0 0 0, .arrayFault 0 5 0 0,
    .arrayFault 0 0 6 0, .arrayFault 0 0 0 128, .shadowAdvance 16 0, .shadowAdvance 0 4, .maColfailWrite 9 0 0 0 0, .maColfailWrite 0 16 0 0 0,
    .maColfailWrite 0 0 4 0 0, .maColfailWrite 0 0 0 3 0, .maColfailWrite 0 0 0 0 (2 ^ 32), .maCntClr 9 0 0, .maCntClr 0 16 0, .maCntClr 0 0 4, .mvpCntClr 9 0,
    .mvpCntClr 0 16, .vuCntClr 9 0, .vuCntClr 0 16, .cntClr 9 0 0, .cntClr 0 16 0, .cntClr 0 0 2, .lcCntClr 9 0, .lcCntClr 0 16, .slotEnWrite 9 0 0,
    .slotEnWrite 0 16 0, .slotEnWrite 0 0 16, .preemptSave 16 0 [], .preemptSave 0 4 [], .resumeStart 16, .imgLoadDone 16 0, .imgLoadDone 0 16, .coreTestDone 16 ct0,
    .coreTestDone 0 { ct0 with columns := [] }, .coreFatalFault 16, .chainTake 8 0, .chainTake 0 256, .cellGrant 256, .chEnable 9 0 false, .chEnable 0 256 false,
    .chainOpComplete 256, .itemExpand 256, .storeEntryGrant 32, .bqPop 9 1, .bqPop 0 0, .bqPop 0 9, .bindingWrite 9 0 0 0, .bindingWrite 0 256 0 0,
    .bindingWrite 0 0 3 0, .bindingWrite 0 0 0 (2 ^ 32), .spillRefill 32, .chnEnable 9 0 false, .chnEnable 0 32 false] : List Instr).all (fun c => !wellFormed c) = true := by decide +kernel

/-- An operand is out of range. -/
theorem test_ill_formed8 : ([.lcCmdDone 16, .segValidSet 9 0 0 0, .segValidSet 0 9 0 0, .segValidSet 0 0 64 0, .segValidSet 0 0 0 (2 ^ 32), .segValidClear 9 0 0 0, .segValidClear 0 9 0 0,
    .segValidClear 0 0 64 0, .segValidClear 0 0 0 (2 ^ 32), .segDone 9, .evictS 16 0, .evictS 0 (2 ^ 33), .evictM 16 0, .evictM 0 (2 ^ 33), .ack 16 0, .ack 0 (2 ^ 33),
    .data 16 0, .data 0 (2 ^ 33), .notHeld 16 0, .notHeld 0 (2 ^ 33), .notHeldEvicting 16 0, .notHeldEvicting 0 (2 ^ 33), .loadCur 9 0, .loadCur 0 15, .loadNext 9 0,
    .loadNext 0 15, .rekeyStart 9 0, .rekeyStart 0 15, .domDisable 9 0, .domDisable 0 15, .domCmdDone 15, .rekeySweepLine 15, .protFill 9, .plPop 9, .wsetCopyFreed 8,
    .fillPartDone 8 0 .timeout, .fillPartDone 0 16 .timeout, .manDone 8 [], .wsetDrained 8, .reloadDone 8, .rqEnable 9 0 0 0 false, .rqEnable 0 9 0 0 false,
    .rqEnable 0 0 4 0 false, .rqEnable 0 0 0 4 false, .cqEnable 9 0 0 false, .cqEnable 0 9 0 false, .cqEnable 0 0 4 false, .sluiceFetch 9 0 [], .sluiceFetch 0 4 [],
    .pkeUnitStart 4, .pkeYieldPoint [4], .pkeParkDone 4, .pkeValidationEnd 4, .pkeOpComplete 4 false, .fnWinWrite 9 0 0 0 false, .fnWinWrite 0 9 0 0 false,
    .fnWinWrite 0 0 512 0 false, .fnWinWrite 0 0 0 1024 false, .hwAttrWrite 9 0 0 false false, .hwAttrWrite 0 16 0 false false] : List Instr).all (fun c => !wellFormed c) = true := by decide +kernel

/-- An operand is out of range. -/
theorem test_ill_formed9 : ([.hwAttrWrite 0 0 (2 ^ 24) false false, .atsTranslation 9 0 false false, .atsTranslation 0 (2 ^ 52) false false, .atsInvalidate 0 9 0 0,
    .atsInvalidate 0 0 (2 ^ 52) 0, .hrInboundEntry 256 .timeout, .hrOutboundDeliver 256, .hrRestart 9 0, .hrRestart 0 256, .irqRouteWrite 9 0 false,
    .irqRouteWrite 0 2048 false, .msixUnmask 9 .blockingState, .dStateChange 9 false, .abPop 9, .retrain 9 0 0, .retrain 0 16 0, .retrain 0 0 32, .vfEnable 9,
    .flrDone 0, .flrDone 9, .tnQuiesceStage 0, .tnQuiesceStage 9, .dlEnable 9 1 false, .dlEnable 0 0 false, .dlEnable 0 9 false, .dlCiDoorbell 9 1 0,
    .dlCiDoorbell 0 0 0, .dlCiDoorbell 0 9 0, .dlCiDoorbell 0 1 (2 ^ 32), .mbOutSend 9 1, .mbOutSend 0 0, .mbOutSend 0 9, .mbReqAck 9 1, .mbReqAck 0 0, .mbReqAck 0 9,
    .mbRspSend 9 1, .mbRspSend 0 0, .mbRspSend 0 9, .mbInAck 9 1, .mbInAck 0 0, .mbInAck 0 9, .portStart 9 0, .portStart 0 8, .portStop 9 0, .portStop 0 8,
    .recheck 9 0, .recheck 0 8, .resetSeq 9 0, .resetSeq 0 8, .laneLocked 8, .trainTimeout 8 0, .trainTimeout 0 256, .alignDone 8, .exchSend 8, .idle 8 fh0,
    .idle 0 { fh0 with vc := 4 }, .tsyncSend 8, .retry 8 fh0 0, .retry 0 { fh0 with vc := 4 } 0, .retry 0 fh0 (2 ^ 24)] : List Instr).all (fun c => !wellFormed c) = true := by decide +kernel

/-- An operand is out of range. -/
theorem test_ill_formed10 : ([.portTransmit 8 0, .portTransmit 0 3, .resendTimeout 8, .ackTimeout 8, .lockLost 8 0, .lockLost 0 8, .laneAdd 9 0 0, .laneAdd 0 8 0, .laneAdd 0 0 8,
    .laneAddDone 8 false, .laneRemove 9 0 0, .laneRemove 0 8 0, .laneRemove 0 0 8, .laneFecWindow 8 [], .portKeyLoad 9 0, .portKeyLoad 0 8, .portRekey 9 0,
    .portRekey 0 8, .digestUpdate 9, .epochArm 9, .epochDisarm 9, .leqPop 9, .pwrDone 0 sr0, .pwrDone 9 sr0, .pwrDone 1 { sr0 with trained := [] }, .pwrGoodFall 5,
    .pwrGoodRise 5, .powerOnReset (2 ^ 32), .perstRelease 16 0, .perstRelease 0 32, .hotReset 16 0, .hotReset 0 32, .chipReset 9 0, .chipReset 0 (2 ^ 32),
    .pmSendByte 9 0 0, .pmSendByte 0 128 0, .pmSendByte 0 0 256, .pmWriteByte 9 0 0, .pmWriteByte 0 128 0, .pmWriteByte 0 0 256, .pmWriteWord 9 0 0,
    .pmWriteWord 0 128 0, .pmWriteWord 0 0 256, .pmReadByte 9 0 0, .pmReadByte 0 128 0, .pmReadByte 0 0 256, .pmReadWord 9 0 0, .pmReadWord 0 128 0,
    .pmReadWord 0 0 256, .pmBlockRead 9 0 0, .pmBlockRead 0 128 0, .pmBlockRead 0 0 256, .patchLoad 9, .patchDone .timeout (2 ^ 32) 0, .patchDone .timeout 0 (2 ^ 32),
    .thermalSample (2 ^ 16) 0 0, .thermalSample 0 (2 ^ 16) 0, .thermalSample 0 0 (2 ^ 16), .tripClear 9, .arrayTestDone (2 ^ 65)] : List Instr).all (fun c => !wellFormed c) = true := by decide +kernel

/-- An operand is out of range. -/
theorem test_ill_formed11 : ([.ftPop 9, .badCrcFlit 8, .undefinedTypeFlit 8, .catastrophicTemperature 6, .portKeyDone 8, .tnDone 0, .tnDone 9, .dlDone 0, .dlDone 9] : List Instr).all (fun c => !wellFormed c) = true := by decide +kernel

/-- The same commands with every operand in range. -/
theorem test_well_formed1 : ([.load hdr0 xf0, .transfer hdr0 xf0, .matmul hdr0 mm0, .matvec hdr0 mv0, .signal hdr0 0 0, .wait hdr0 0 0, .set hdr0 0 0, .flagsOut hdr0 (asRef 0),
    .flagsClr hdr0 0, .saltSet hdr0 0, .seta hdr0 0 0, .adda hdr0 0 0, .loop hdr0 0 0, .jump hdr0 0, .seqPreempt 0 0 0, .seqAbort 0 0 0, .seqResGo 0 0,
    .seqResDiscard 0 0, .ctxLoad 0 0 0, .coreTestStart 0 0, .chApply 0 0, .chCmdMark 0 0 0, .chCmdRewind 0 0 0, .chCmdRelease 0 0 0, .replayHeld 0 0, .discardHeld 0 0,
    .chFlush 0 0, .hostPost 0 1 0, .releaseSkip 0 0, .releaseRetry 0 0, .clearStale 0 0, .purge 0 0, .dlReleaseAll 0 0, .dlPurge 0 0, .chnApply 0 0, .clearLost 0 0,
    .flushSpill 0 0, .cntSignal 0 0 0, .cntSub 0 0 0, .cntSet 0 0 0, .cntArm 0 0 0, .cntDisarm 0 0, .dbgSignal 0 0, .dbgSub 0 0, .dbgSet 0 0, .dbgArm 0 0,
    .dbgDisarm 0, .syBlkFnWrite 0 0 0, .syBlkClr 0 0, .lcFlush 0 0, .lcFlushInv 0 0, .rdS 0 0, .rdM 0 0 [], .claim 0 0 [], .upg 0 0 [], .dataS 0 0, .dataM 0 0,
    .grant 0 0, .evictAck 0 0, .snpInv 0 0] : List Instr).all (fun c => wellFormed c) = true := by decide +kernel

/-- The same commands with every operand in range. -/
theorem test_well_formed2 : ([.snpShr 0 0, .homeAgentRead 0 0 0 0, .homeAgentWrite 0 0 0 0 [], .wsetApply 0 0, .wsetFill 0 0 0, .wsetSwitch 0 0, .wsetArm 0 0, .wsetDisarm 0 0,
    .manApply 0 0 0 0 0, .rqDoorbell 0 0 0 0, .cqDoorbell 0 0 0 0, .rngRestart 0, .slotCmdClear 0 0, .hrPiDoorbell 0 0 0, .hrCiDoorbell 0 0 0, .hrEnable 0 0 false,
    .hrSkip 0 0, .flr 1, .tnQuiesce 0 1 false, .tnUnquiesce 0 1, .revokeAll 0 1, .dlSync 0 1, .dlEpoch 0 1, .tgCoresWrite 0 1 0, .tgPagesWrite 0 1 0, .exch 0 fh0 [],
    .itemHead 0 fh0 [] [], .itemData 0 fh0 [], .lwrHead 0 fh0 lw0 [], .lwrData 0 fh0 [], .lsig 0 fh0 ls0, .notice 0 fh0 ln0, .void 0 fh0, .tsync 0 fh0 ⟨0, 0⟩ none,
    .lane 0 fh0 0, .key 0 fh0, .leave 0 fh0, .pwrOn 0 1, .pwrRetain 0 1 false, .pwrOff 0 1 false, .coreRst 0 0, .withdraw 0 0, .refill 0 0 0 0 0 0, .epochSync 0 0,
    .admitCore 0 0, .arrayTest 0 0 0, .fuUnlock 0 0, .coreRemap 0 0 0, .laneRemap 0 0 0 0, .rkeAdvance 0, .profileRaise 0 0, .profileLock 0, .debugLock 0,
    .registerWrite 0 0 0 0, .lowerWordRead 0 0, .tbNowRead 0, .errCodeRead 0 0, .errCodeClr 0 0 none, .evtStatClear 0 0 0 0, .blkEnable 0 0 false] : List Instr).all (fun c => wellFormed c) = true := by decide +kernel

/-- The same commands with every operand in range. -/
theorem test_well_formed3 : ([.softReset 0 0 0, .quiesceReq 0 0 false, .quiesceDone 0, .blkLock 0 0, .resume 0 0, .tickEnWrite 0 false, .slotGet 0 0, .nop hdr0, .add hdr0 ve0, .sub hdr0 ve0,
    .mul hdr0 ve0, .fma hdr0 ve0, .max hdr0 ve0, .min hdr0 ve0, .rcp hdr0 ve0, .rsqrt hdr0 ve0, .exp hdr0 ve0, .cvt hdr0 ve0, .sumred hdr0 ve0, .maxred hdr0 ve0,
    .argmax hdr0 ve0, .rand hdr0 ve0, .waitDec hdr0 0 0, .signalRemote hdr0 0 0 0, .taskPost hdr0 0 0 (List.replicate 32 0), .chainMark hdr0 0 0,
    .chainRewind hdr0 0 0, .chainRelease hdr0 0 0, .chainCommit hdr0 0, .sealOp hdr0 se0, .fenceFull hdr0, .fenceStore hdr0, .stepComplete 0 0 0, .arrayFault 0 0 0 0,
    .shadowAdvance 0 0, .maColfailWrite 0 0 0 0 0, .maCntClr 0 0 0, .mvpCntClr 0 0, .vuCntClr 0 0, .cntClr 0 0 0, .lcCntClr 0 0, .slotEnWrite 0 0 0,
    .preemptSave 0 0 [], .resumeStart 0, .imgLoadDone 0 0, .coreTestDone 0 ct0, .coreFatalFault 0, .chainTake 0 0, .cellGrant 0, .chEnable 0 0 false,
    .chainOpComplete 0, .itemExpand 0, .storeEntryGrant 0, .bqPop 0 1, .bindingWrite 0 0 0 0, .spillRefill 0, .chnEnable 0 0 false, .lcCmdDone 0, .segValidSet 0 0 0 0,
    .segValidClear 0 0 0 0] : List Instr).all (fun c => wellFormed c) = true := by decide +kernel

/-- The same commands with every operand in range. -/
theorem test_well_formed4 : ([.segDone 0, .evictS 0 0, .evictM 0 0, .ack 0 0, .data 0 0, .notHeld 0 0, .notHeldEvicting 0 0, .loadCur 0 0, .loadNext 0 0, .rekeyStart 0 0, .domDisable 0 0,
    .domCmdDone 0, .rekeySweepLine 0, .protFill 0, .plPop 0, .wsetCopyFreed 0, .fillPartDone 0 0 .timeout, .manDone 0 [], .wsetDrained 0, .reloadDone 0,
    .rqEnable 0 0 0 0 false, .cqEnable 0 0 0 false, .sluiceFetch 0 0 [], .pkeUnitStart 0, .pkeYieldPoint [0], .pkeParkDone 0, .pkeValidationEnd 0,
    .pkeOpComplete 0 false, .fnWinWrite 0 0 0 0 false, .hwAttrWrite 0 0 0 false false, .atsTranslation 0 0 false false, .atsInvalidate 0 0 0 0,
    .hrInboundEntry 0 .timeout, .hrOutboundDeliver 0, .hrRestart 0 0, .irqRouteWrite 0 0 false, .msixUnmask 0 .blockingState, .dStateChange 0 false, .abPop 0,
    .retrain 0 0 0, .vfEnable 0, .flrDone 1, .tnQuiesceStage 1, .dlEnable 0 1 false, .dlCiDoorbell 0 1 0, .mbOutSend 0 1, .mbReqAck 0 1, .mbRspSend 0 1, .mbInAck 0 1,
    .portStart 0 0, .portStop 0 0, .recheck 0 0, .resetSeq 0 0, .laneLocked 0, .trainTimeout 0 0, .alignDone 0, .exchSend 0, .idle 0 fh0, .tsyncSend 0, .retry 0 fh0 0] : List Instr).all (fun c => wellFormed c) = true := by decide +kernel

/-- The same commands with every operand in range. -/
theorem test_well_formed5 : ([.portTransmit 0 0, .resendTimeout 0, .ackTimeout 0, .lockLost 0 0, .laneAdd 0 0 0, .laneAddDone 0 false, .laneRemove 0 0 0, .laneFecWindow 0 [], .portKeyLoad 0 0,
    .portRekey 0 0, .digestUpdate 0, .epochArm 0, .epochDisarm 0, .leqPop 0, .pwrDone 1 sr0, .pwrGoodFall 0, .pwrGoodRise 0, .powerOnReset 0, .perstRelease 0 0,
    .hotReset 0 0, .chipReset 0 0, .pmSendByte 0 0 0, .pmWriteByte 0 0 0, .pmWriteWord 0 0 0, .pmReadByte 0 0 0, .pmReadWord 0 0 0, .pmBlockRead 0 0 0, .patchLoad 0,
    .patchDone .timeout 0 0, .thermalSample 0 0 0, .tripClear 0, .arrayTestDone 0, .ftPop 0, .badCrcFlit 0, .undefinedTypeFlit 0, .catastrophicTemperature 0,
    .portKeyDone 0, .tnDone 1, .dlDone 1] : List Instr).all (fun c => wellFormed c) = true := by decide +kernel


end Sys2Proof.Tests
end

/-!
What each command leaves alone (R9, R29, R425): the frames of the meanings (Laws/Keep*.lean), joined over the table of commands.
-/

namespace Sys2Proof.Proofs
open Sys2Proof.Machine Sys2Proof.Laws

/-- Every command keeps what is to be kept, where none of the parts that it may change is: one arm for each command, each the law of its meaning.
A private JTAG instruction is kept in hand by the debug lockout, without which it is refused (R583). -/
theorem exec_good {q : Kept} (c : Instr) {s : State} (h : Good q s) (hc : ∀ n, c = .jtagInstruction (.priv n) → s.on FU_LOCKS_DEBUG = true)
    (hk : ∀ p, (mayChange c).contains p = true → q.keep p = false) : GoodO q (exec c s) := by
  cases c with
  | load _ _ => apply execLoad_good <;> first | exact h | exact hk _ rfl
  | transfer _ _ => apply execTransfer_good <;> first | exact h | exact hk _ rfl
  | matmul _ _ => apply execMatmul_good <;> first | exact h | exact hk _ rfl
  | matvec _ _ => apply execMatvec_good <;> first | exact h | exact hk _ rfl
  | signal _ _ _ => apply execSignal_good <;> first | exact h | exact hk _ rfl
  | wait _ _ _ => apply execWait_good <;> first | exact h | exact hk _ rfl
  | set _ _ _ => apply execSet_good <;> first | exact h | exact hk _ rfl
  | flagsOut _ _ => apply execFlagsOut_good <;> first | exact h | exact hk _ rfl
  | flagsClr _ _ => apply execFlagsClr_good <;> first | exact h | exact hk _ rfl
  | saltSet _ _ => apply execSaltSet_good <;> first | exact h | exact hk _ rfl
  | seta _ _ _ => apply execSeta_good <;> first | exact h | exact hk _ rfl
  | adda _ _ _ => apply execAdda_good <;> first | exact h | exact hk _ rfl
  | loop _ _ _ => apply execLoop_good <;> first | exact h | exact hk _ rfl
  | jump _ _ => apply execJump_good <;> first | exact h | exact hk _ rfl
  | seqPreempt _ _ _ => apply execSeqPreempt_good <;> first | exact h | exact hk _ rfl
  | seqAbort _ _ _ => apply execSeqAbort_good <;> first | exact h | exact hk _ rfl
  | seqResGo _ _ => apply execSeqResGo_good <;> first | exact h | exact hk _ rfl
  | seqResDiscard _ _ => apply execSeqResDiscard_good <;> first | exact h | exact hk _ rfl
  | ctxLoad _ _ _ => apply execCtxLoad_good <;> first | exact h | exact hk _ rfl
  | coreTestStart _ _ => apply execCoreTestStart_good <;> first | exact h | exact hk _ rfl
  | chApply _ _ => apply execChApply_good <;> first | exact h | exact hk _ rfl
  | chCmdMark _ _ _ => apply execChCmdMark_good <;> first | exact h | exact hk _ rfl
  | chCmdRewind _ _ _ => apply execChCmdRewind_good <;> first | exact h | exact hk _ rfl
  | chCmdRelease _ _ _ => apply execChCmdRelease_good <;> first | exact h | exact hk _ rfl
  | replayHeld _ _ => apply execReplayHeld_good <;> first | exact h | exact hk _ rfl
  | discardHeld _ _ => apply execDiscardHeld_good <;> first | exact h | exact hk _ rfl
  | chFlush _ _ => apply execChFlush_good <;> first | exact h | exact hk _ rfl
  | hostPost _ _ _ => apply execHostPost_good <;> first | exact h | exact hk _ rfl
  | releaseSkip _ _ => apply execReleaseSkip_good <;> first | exact h | exact hk _ rfl
  | releaseRetry _ _ => apply execReleaseRetry_good <;> first | exact h | exact hk _ rfl
  | clearStale _ _ => apply execClearStale_good <;> first | exact h | exact hk _ rfl
  | purge _ _ => apply execPurge_good <;> first | exact h | exact hk _ rfl
  | dlReleaseAll _ _ => apply execDlReleaseAll_good <;> first | exact h | exact hk _ rfl
  | dlPurge _ _ => apply execDlPurge_good <;> first | exact h | exact hk _ rfl
  | chnApply _ _ => apply execChnApply_good <;> first | exact h | exact hk _ rfl
  | clearLost _ _ => apply execClearLost_good <;> first | exact h | exact hk _ rfl
  | flushSpill _ _ => apply execFlushSpill_good <;> first | exact h | exact hk _ rfl
  | cntSignal _ _ _ => apply execCntSignal_good <;> first | exact h | exact hk _ rfl
  | cntSub _ _ _ => apply execCntSub_good <;> first | exact h | exact hk _ rfl
  | cntSet _ _ _ => apply execCntSet_good <;> first | exact h | exact hk _ rfl
  | cntArm _ _ _ => apply execCntArm_good <;> first | exact h | exact hk _ rfl
  | cntDisarm _ _ => apply execCntDisarm_good <;> first | exact h | exact hk _ rfl
  | dbgSignal _ _ => apply execDbgSignal_good <;> first | exact h | exact hk _ rfl
  | dbgSub _ _ => apply execDbgSub_good <;> first | exact h | exact hk _ rfl
  | dbgSet _ _ => apply execDbgSet_good <;> first | exact h | exact hk _ rfl
  | dbgArm _ _ => apply execDbgArm_good <;> first | exact h | exact hk _ rfl
  | dbgDisarm _ => apply execDbgDisarm_good <;> first | exact h | exact hk _ rfl
  | syBlkFnWrite _ _ _ => apply execSyBlkFnWrite_good <;> first | exact h | exact hk _ rfl
  | syBlkClr _ _ => apply execSyBlkClr_good <;> first | exact h | exact hk _ rfl
  | lcFlush _ _ => apply execLcFlush_good <;> first | exact h | exact hk _ rfl
  | lcFlushInv _ _ => apply execLcFlushInv_good <;> first | exact h | exact hk _ rfl
  | rdS _ _ => apply execRdS_good <;> first | exact h | exact hk _ rfl
  | rdM _ _ _ => apply execRdM_good <;> first | exact h | exact hk _ rfl
  | claim _ _ _ => apply execClaim_good <;> first | exact h | exact hk _ rfl
  | upg _ _ _ => apply execUpg_good <;> first | exact h | exact hk _ rfl
  | dataS _ _ => apply execDataS_good <;> first | exact h | exact hk _ rfl
  | dataM _ _ => apply execDataM_good <;> first | exact h | exact hk _ rfl
  | grant _ _ => apply execGrant_good <;> first | exact h | exact hk _ rfl
  | evictAck _ _ => apply execEvictAck_good <;> first | exact h | exact hk _ rfl
  | snpInv _ _ => apply execSnpInv_good <;> first | exact h | exact hk _ rfl
  | snpShr _ _ => apply execSnpShr_good <;> first | exact h | exact hk _ rfl
  | homeAgentRead _ _ _ _ => apply execHomeAgentRead_good <;> first | exact h | exact hk _ rfl
  | homeAgentWrite _ _ _ _ _ => apply execHomeAgentWrite_good <;> first | exact h | exact hk _ rfl
  | wsetApply _ _ => apply execWsetApply_good <;> first | exact h | exact hk _ rfl
  | wsetFill _ _ _ => apply execWsetFill_good <;> first | exact h | exact hk _ rfl
  | wsetSwitch _ _ => apply execWsetSwitch_good <;> first | exact h | exact hk _ rfl
  | wsetArm _ _ => apply execWsetArm_good <;> first | exact h | exact hk _ rfl
  | wsetDisarm _ _ => apply execWsetDisarm_good <;> first | exact h | exact hk _ rfl
  | manApply _ _ _ _ _ => apply execManApply_good <;> first | exact h | exact hk _ rfl
  | rqDoorbell _ _ _ _ => apply execRqDoorbell_good <;> first | exact h | exact hk _ rfl
  | cqDoorbell _ _ _ _ => apply execCqDoorbell_good <;> first | exact h | exact hk _ rfl
  | sealDesc _ _ => apply execSealDesc_good <;> first | exact h | exact hk _ rfl
  | rngRestart _ => apply execRngRestart_good <;> first | exact h | exact hk _ rfl
  | slotCmdClear _ _ => apply execSlotCmdClear_good <;> first | exact h | exact hk _ rfl
  | hostReadCompletion _ _ => apply execHostReadCompletion_good <;> first | exact h | exact hk _ rfl
  | completionTimeout _ => apply execCompletionTimeout_good <;> first | exact h | exact hk _ rfl
  | hrPiDoorbell _ _ _ => apply execHrPiDoorbell_good <;> first | exact h | exact hk _ rfl
  | hrCiDoorbell _ _ _ => apply execHrCiDoorbell_good <;> first | exact h | exact hk _ rfl
  | hrEnable _ _ _ => apply execHrEnable_good <;> first | exact h | exact hk _ rfl
  | hrSkip _ _ => apply execHrSkip_good <;> first | exact h | exact hk _ rfl
  | flr _ => apply execFlr_good <;> first | exact h | exact hk _ rfl
  | tnQuiesce _ _ _ => apply execTnQuiesce_good <;> first | exact h | exact hk _ rfl
  | tnUnquiesce _ _ => apply execTnUnquiesce_good <;> first | exact h | exact hk _ rfl
  | revokeAll _ _ => apply execRevokeAll_good <;> first | exact h | exact hk _ rfl
  | dlSync _ _ => apply execDlSync_good <;> first | exact h | exact hk _ rfl
  | dlEpoch _ _ => apply execDlEpoch_good <;> first | exact h | exact hk _ rfl
  | tgCoresWrite _ _ _ => apply execTgCoresWrite_good <;> first | exact h | exact hk _ rfl
  | tgPagesWrite _ _ _ => apply execTgPagesWrite_good <;> first | exact h | exact hk _ rfl
  | exch _ hd _ => apply @execExch_good q _ hd <;> first | exact h | exact hk _ rfl
  | itemHead _ _ _ _ => apply execItemHead_good <;> first | exact h | exact hk _ rfl
  | itemData _ _ _ => apply execItemData_good <;> first | exact h | exact hk _ rfl
  | lwrHead _ _ _ _ => apply execLwrHead_good <;> first | exact h | exact hk _ rfl
  | lwrData _ _ _ => apply execLwrData_good <;> first | exact h | exact hk _ rfl
  | lsig _ _ _ => apply execLsig_good <;> first | exact h | exact hk _ rfl
  | notice _ _ _ => apply execNotice_good <;> first | exact h | exact hk _ rfl
  | void _ _ => apply execVoid_good <;> first | exact h | exact hk _ rfl
  | tsync _ _ _ _ => apply execTsync_good <;> first | exact h | exact hk _ rfl
  | lane _ _ _ => apply execLane_good <;> first | exact h | exact hk _ rfl
  | key _ _ => apply execKey_good <;> first | exact h | exact hk _ rfl
  | leave _ _ => apply execLeave_good <;> first | exact h | exact hk _ rfl
  | pwrOn _ _ => apply execPwrOn_good <;> first | exact h | exact hk _ rfl
  | pwrRetain _ _ _ => apply execPwrRetain_good <;> first | exact h | exact hk _ rfl
  | pwrOff _ _ _ => apply execPwrOff_good <;> first | exact h | exact hk _ rfl
  | coreRst _ _ => apply execCoreRst_good <;> first | exact h | exact hk _ rfl
  | smbusAccess _ => apply execSmbusAccess_good <;> first | exact h | exact hk _ rfl
  | withdraw _ _ => apply execWithdraw_good <;> first | exact h | exact hk _ rfl
  | refill _ _ _ _ _ _ => apply execRefill_good <;> first | exact h | exact hk _ rfl
  | epochSync _ _ => apply execEpochSync_good <;> first | exact h | exact hk _ rfl
  | admitCore _ _ => apply execAdmitCore_good <;> first | exact h | exact hk _ rfl
  | arrayTest _ _ _ => apply execArrayTest_good <;> first | exact h | exact hk _ rfl
  | fuUnlock _ _ => apply execFuUnlock_good <;> first | exact h | exact hk _ rfl
  | coreRemap _ _ _ => apply execCoreRemap_good <;> first | exact h | exact hk _ rfl
  | laneRemap _ _ _ _ => apply execLaneRemap_good <;> first | exact h | exact hk _ rfl
  | rkeAdvance _ => apply execRkeAdvance_good <;> first | exact h | exact hk _ rfl
  | profileRaise _ _ => apply execProfileRaise_good <;> first | exact h | exact hk _ rfl
  | profileLock _ => apply execProfileLock_good <;> first | exact h | exact hk _ rfl
  | debugLock _ => apply execDebugLock_good <;> first | exact h | exact hk _ rfl
  | registerWrite _ _ _ _ => apply execRegisterWrite_good <;> first | exact h | exact hk _ rfl
  | lowerWordRead _ _ => apply execLowerWordRead_good <;> first | exact h | exact hk _ rfl
  | tbNowRead _ => apply execTbNowRead_good <;> first | exact h | exact hk _ rfl
  | errCodeRead _ _ => apply execErrCodeRead_good <;> first | exact h | exact hk _ rfl
  | errCodeClr _ _ _ => apply execErrCodeClr_good <;> first | exact h | exact hk _ rfl
  | evtStatClear _ _ _ _ => apply execEvtStatClear_good <;> first | exact h | exact hk _ rfl
  | blkEnable _ _ _ => apply execBlkEnable_good <;> first | exact h | exact hk _ rfl
  | softReset _ _ _ => apply execSoftReset_good <;> first | exact h | exact hk _ rfl
  | quiesceReq _ _ _ => apply execQuiesceReq_good <;> first | exact h | exact hk _ rfl
  | quiesceDone _ => apply execQuiesceDone_good <;> first | exact h | exact hk _ rfl
  | blkLock _ _ => apply execBlkLock_good <;> first | exact h | exact hk _ rfl
  | throttleStall _ => apply execThrottleStall_good <;> first | exact h | exact hk _ rfl
  | resume _ _ => apply execResume_good <;> first | exact h | exact hk _ rfl
  | tbRateWindow _ _ => apply execTbRateWindow_good <;> first | exact h | exact hk _ rfl
  | tbPpsEnWrite _ _ => apply execTbPpsEnWrite_good <;> first | exact h | exact hk _ rfl
  | tickEnWrite _ _ => apply execTickEnWrite_good <;> first | exact h | exact hk _ rfl
  | slotGet _ _ => apply execSlotGet_good <;> first | exact h | exact hk _ rfl
  | nop _ => apply execNop_good <;> first | exact h | exact hk _ rfl
  | add _ _ => apply execAdd_good <;> first | exact h | exact hk _ rfl
  | sub _ _ => apply execSub_good <;> first | exact h | exact hk _ rfl
  | mul _ _ => apply execMul_good <;> first | exact h | exact hk _ rfl
  | fma _ _ => apply execFma_good <;> first | exact h | exact hk _ rfl
  | max _ _ => apply execMax_good <;> first | exact h | exact hk _ rfl
  | min _ _ => apply execMin_good <;> first | exact h | exact hk _ rfl
  | rcp _ _ => apply execRcp_good <;> first | exact h | exact hk _ rfl
  | rsqrt _ _ => apply execRsqrt_good <;> first | exact h | exact hk _ rfl
  | exp _ _ => apply execExp_good <;> first | exact h | exact hk _ rfl
  | cvt _ _ => apply execCvt_good <;> first | exact h | exact hk _ rfl
  | sumred _ _ => apply execSumred_good <;> first | exact h | exact hk _ rfl
  | maxred _ _ => apply execMaxred_good <;> first | exact h | exact hk _ rfl
  | argmax _ _ => apply execArgmax_good <;> first | exact h | exact hk _ rfl
  | rand _ _ => apply execRand_good <;> first | exact h | exact hk _ rfl
  | waitDec _ _ _ => apply execWaitDec_good <;> first | exact h | exact hk _ rfl
  | signalRemote _ _ _ _ => apply execSignalRemote_good <;> first | exact h | exact hk _ rfl
  | taskPost _ _ _ _ => apply execTaskPost_good <;> first | exact h | exact hk _ rfl
  | chainMark _ _ _ => apply execChainMark_good <;> first | exact h | exact hk _ rfl
  | chainRewind _ _ _ => apply execChainRewind_good <;> first | exact h | exact hk _ rfl
  | chainRelease _ _ _ => apply execChainRelease_good <;> first | exact h | exact hk _ rfl
  | chainCommit _ _ => apply execChainCommit_good <;> first | exact h | exact hk _ rfl
  | sealOp _ _ => apply execSeal_good <;> first | exact h | exact hk _ rfl
  | fenceFull _ => apply execFenceFull_good <;> first | exact h | exact hk _ rfl
  | fenceStore _ => apply execFenceStore_good <;> first | exact h | exact hk _ rfl
  | stepComplete _ _ _ => apply execStepComplete_good <;> first | exact h | exact hk _ rfl
  | arrayFault _ _ _ _ => apply execArrayFault_good <;> first | exact h | exact hk _ rfl
  | shadowAdvance _ _ => apply execShadowAdvance_good <;> first | exact h | exact hk _ rfl
  | maColfailWrite _ _ _ _ _ => apply execMaColfailWrite_good <;> first | exact h | exact hk _ rfl
  | maCntClr _ _ _ => apply execMaCntClr_good <;> first | exact h | exact hk _ rfl
  | mvpCntClr _ _ => apply execMvpCntClr_good <;> first | exact h | exact hk _ rfl
  | vuCntClr _ _ => apply execVuCntClr_good <;> first | exact h | exact hk _ rfl
  | cntClr _ _ _ => apply execCntClr_good <;> first | exact h | exact hk _ rfl
  | lcCntClr _ _ => apply execLcCntClr_good <;> first | exact h | exact hk _ rfl
  | slotEnWrite _ _ _ => apply execSlotEnWrite_good <;> first | exact h | exact hk _ rfl
  | preemptSave _ _ _ => apply execPreemptSave_good <;> first | exact h | exact hk _ rfl
  | resumeStart _ => apply execResumeStart_good <;> first | exact h | exact hk _ rfl
  | imgLoadDone _ _ => apply execImgLoadDone_good <;> first | exact h | exact hk _ rfl
  | coreTestDone _ _ => apply execCoreTestDone_good <;> first | exact h | exact hk _ rfl
  | coreFatalFault _ => apply execCoreFatalFault_good <;> first | exact h | exact hk _ rfl
  | chainTake _ _ => apply execChainTake_good <;> first | exact h | exact hk _ rfl
  | cellGrant _ => apply execCellGrant_good <;> first | exact h | exact hk _ rfl
  | chEnable _ _ _ => apply execChEnable_good <;> first | exact h | exact hk _ rfl
  | chainOpComplete _ => apply execChainOpComplete_good <;> first | exact h | exact hk _ rfl
  | itemExpand _ => apply execItemExpand_good <;> first | exact h | exact hk _ rfl
  | storeEntryGrant _ => apply execStoreEntryGrant_good <;> first | exact h | exact hk _ rfl
  | bqPop _ _ => apply execBqPop_good <;> first | exact h | exact hk _ rfl
  | bindingWrite _ _ _ _ => apply execBindingWrite_good <;> first | exact h | exact hk _ rfl
  | spillRefill _ => apply execSpillRefill_good <;> first | exact h | exact hk _ rfl
  | chnEnable _ _ _ => apply execChnEnable_good <;> first | exact h | exact hk _ rfl
  | lcCmdDone _ => apply execLcCmdDone_good <;> first | exact h | exact hk _ rfl
  | segValidSet _ _ _ _ => apply execSegValidSet_good <;> first | exact h | exact hk _ rfl
  | segValidClear _ _ _ _ => apply execSegValidClear_good <;> first | exact h | exact hk _ rfl
  | segDone _ => apply execSegDone_good <;> first | exact h | exact hk _ rfl
  | evictS _ _ => apply execEvictS_good <;> first | exact h | exact hk _ rfl
  | evictM _ _ => apply execEvictM_good <;> first | exact h | exact hk _ rfl
  | ack _ _ => apply execAck_good <;> first | exact h | exact hk _ rfl
  | data _ _ => apply execData_good <;> first | exact h | exact hk _ rfl
  | notHeld _ _ => apply execNotHeld_good <;> first | exact h | exact hk _ rfl
  | notHeldEvicting _ _ => apply execNotHeldEvicting_good <;> first | exact h | exact hk _ rfl
  | loadCur _ _ => apply execLoadCur_good <;> first | exact h | exact hk _ rfl
  | loadNext _ _ => apply execLoadNext_good <;> first | exact h | exact hk _ rfl
  | rekeyStart _ _ => apply execRekeyStart_good <;> first | exact h | exact hk _ rfl
  | domDisable _ _ => apply execDomDisable_good <;> first | exact h | exact hk _ rfl
  | domCmdDone _ => apply execDomCmdDone_good <;> first | exact h | exact hk _ rfl
  | rekeySweepLine _ => apply execRekeySweepLine_good <;> first | exact h | exact hk _ rfl
  | protFill _ => apply execProtFill_good <;> first | exact h | exact hk _ rfl
  | plPop _ => apply execPlPop_good <;> first | exact h | exact hk _ rfl
  | wsetCopyFreed _ => apply execWsetCopyFreed_good <;> first | exact h | exact hk _ rfl
  | fillPartDone _ _ _ => apply execFillPartDone_good <;> first | exact h | exact hk _ rfl
  | manDone _ _ => apply execManDone_good <;> first | exact h | exact hk _ rfl
  | wsetDrained _ => apply execWsetDrained_good <;> first | exact h | exact hk _ rfl
  | reloadDone _ => apply execReloadDone_good <;> first | exact h | exact hk _ rfl
  | rqEnable _ _ _ _ _ => apply execRqEnable_good <;> first | exact h | exact hk _ rfl
  | cqEnable _ _ _ _ => apply execCqEnable_good <;> first | exact h | exact hk _ rfl
  | sluiceFetch _ _ _ => apply execSluiceFetch_good <;> first | exact h | exact hk _ rfl
  | descNop _ => apply execDescNop_good <;> first | exact h | exact hk _ rfl
  | gcmEnc _ _ _ => apply execGcmEnc_good <;> first | exact h | exact hk _ rfl
  | gcmDec _ _ _ => apply execGcmDec_good <;> first | exact h | exact hk _ rfl
  | ctr _ _ => apply execCtr_good <;> first | exact h | exact hk _ rfl
  | xtsEnc _ _ => apply execXtsEnc_good <;> first | exact h | exact hk _ rfl
  | xtsDec _ _ => apply execXtsDec_good <;> first | exact h | exact hk _ rfl
  | sha256 _ _ => apply execSha256_good <;> first | exact h | exact hk _ rfl
  | hmac _ _ => apply execHmac_good <;> first | exact h | exact hk _ rfl
  | hmacChk _ _ _ => apply execHmacChk_good <;> first | exact h | exact hk _ rfl
  | random _ => apply execRandom_good <;> first | exact h | exact hk _ rfl
  | keyLoad _ _ => apply execKeyLoad_good <;> first | exact h | exact hk _ rfl
  | keyUnwrap _ _ => apply execKeyUnwrap_good <;> first | exact h | exact hk _ rfl
  | keyWrap _ => apply execKeyWrap_good <;> first | exact h | exact hk _ rfl
  | keyGen _ => apply execKeyGen_good <;> first | exact h | exact hk _ rfl
  | keyDerive _ _ _ => apply execKeyDerive_good <;> first | exact h | exact hk _ rfl
  | keyClear _ => apply execKeyClear_good <;> first | exact h | exact hk _ rfl
  | keyInfo _ => apply execKeyInfo_good <;> first | exact h | exact hk _ rfl
  | sealChk _ _ _ => apply execSealChk_good <;> first | exact h | exact hk _ rfl
  | ecdsaSign _ _ => apply execEcdsaSign_good <;> first | exact h | exact hk _ rfl
  | ecdsaVerify _ _ _ => apply execEcdsaVerify_good <;> first | exact h | exact hk _ rfl
  | ecdsaVerifyExt _ _ _ => apply execEcdsaVerifyExt_good <;> first | exact h | exact hk _ rfl
  | ecdhP256 _ _ => apply execEcdhP256_good <;> first | exact h | exact hk _ rfl
  | ed25519Sign _ _ => apply execEd25519Sign_good <;> first | exact h | exact hk _ rfl
  | ed25519Verify _ _ _ => apply execEd25519Verify_good <;> first | exact h | exact hk _ rfl
  | ed25519VerifyExt _ _ _ => apply execEd25519VerifyExt_good <;> first | exact h | exact hk _ rfl
  | x25519 _ _ => apply execX25519_good <;> first | exact h | exact hk _ rfl
  | rsaPriv _ _ => apply execRsaPriv_good <;> first | exact h | exact hk _ rfl
  | rsaPub _ _ _ => apply execRsaPub_good <;> first | exact h | exact hk _ rfl
  | pointCheck _ _ => apply execPointCheck_good <;> first | exact h | exact hk _ rfl
  | curveLoad _ _ => apply execCurveLoad_good <;> first | exact h | exact hk _ rfl
  | curveClear _ => apply execCurveClear_good <;> first | exact h | exact hk _ rfl
  | pkeUnitStart _ => apply execPkeUnitStart_good <;> first | exact h | exact hk _ rfl
  | pkeYieldPoint _ => apply execPkeYieldPoint_good <;> first | exact h | exact hk _ rfl
  | pkeParkDone _ => apply execPkeParkDone_good <;> first | exact h | exact hk _ rfl
  | pkeValidationEnd _ => apply execPkeValidationEnd_good <;> first | exact h | exact hk _ rfl
  | pkeOpComplete _ _ => apply execPkeOpComplete_good <;> first | exact h | exact hk _ rfl
  | descComplete _ => apply execDescComplete_good <;> first | exact h | exact hk _ rfl
  | fnWinWrite _ _ _ _ _ => apply execFnWinWrite_good <;> first | exact h | exact hk _ rfl
  | hwAttrWrite _ _ _ _ _ => apply execHwAttrWrite_good <;> first | exact h | exact hk _ rfl
  | atsTranslation _ _ _ _ => apply execAtsTranslation_good <;> first | exact h | exact hk _ rfl
  | atsInvalidate _ _ _ _ => apply execAtsInvalidate_good <;> first | exact h | exact hk _ rfl
  | atsInvComplete _ => apply execAtsInvComplete_good <;> first | exact h | exact hk _ rfl
  | hrInboundEntry _ _ => apply execHrInboundEntry_good <;> first | exact h | exact hk _ rfl
  | hrOutboundDeliver _ => apply execHrOutboundDeliver_good <;> first | exact h | exact hk _ rfl
  | hrRestart _ _ => apply execHrRestart_good <;> first | exact h | exact hk _ rfl
  | irqRouteWrite _ _ _ => apply execIrqRouteWrite_good <;> first | exact h | exact hk _ rfl
  | msixUnmask _ _ => apply execMsixUnmask_good <;> first | exact h | exact hk _ rfl
  | dStateChange _ _ => apply execDStateChange_good <;> first | exact h | exact hk _ rfl
  | pcieLinkError _ => apply execPcieLinkError_good <;> first | exact h | exact hk _ rfl
  | abPop _ => apply execAbPop_good <;> first | exact h | exact hk _ rfl
  | retrain _ _ _ => apply execRetrain_good <;> first | exact h | exact hk _ rfl
  | vfEnable _ => apply execVfEnable_good <;> first | exact h | exact hk _ rfl
  | flrDone _ => apply execFlrDone_good <;> first | exact h | exact hk _ rfl
  | tnQuiesceStage _ => apply execTnQuiesceStage_good <;> first | exact h | exact hk _ rfl
  | dlEnable _ _ _ => apply execDlEnable_good <;> first | exact h | exact hk _ rfl
  | dlCiDoorbell _ _ _ => apply execDlCiDoorbell_good <;> first | exact h | exact hk _ rfl
  | mbOutSend _ _ => apply execMbOutSend_good <;> first | exact h | exact hk _ rfl
  | mbReqAck _ _ => apply execMbReqAck_good <;> first | exact h | exact hk _ rfl
  | mbRspSend _ _ => apply execMbRspSend_good <;> first | exact h | exact hk _ rfl
  | mbInAck _ _ => apply execMbInAck_good <;> first | exact h | exact hk _ rfl
  | portStart _ _ => apply execPortStart_good <;> first | exact h | exact hk _ rfl
  | portStop _ _ => apply execPortStop_good <;> first | exact h | exact hk _ rfl
  | recheck _ _ => apply execRecheck_good <;> first | exact h | exact hk _ rfl
  | resetSeq _ _ => apply execResetSeq_good <;> first | exact h | exact hk _ rfl
  | laneLocked _ => apply execLaneLocked_good <;> first | exact h | exact hk _ rfl
  | trainTimeout _ _ => apply execTrainTimeout_good <;> first | exact h | exact hk _ rfl
  | alignDone _ => apply execAlignDone_good <;> first | exact h | exact hk _ rfl
  | exchSend _ => apply execExchSend_good <;> first | exact h | exact hk _ rfl
  | idle _ _ => apply execIdle_good <;> first | exact h | exact hk _ rfl
  | tsyncSend _ => apply execTsyncSend_good <;> first | exact h | exact hk _ rfl
  | retry _ _ _ => apply execRetry_good <;> first | exact h | exact hk _ rfl
  | portTransmit _ _ => apply execPortTransmit_good <;> first | exact h | exact hk _ rfl
  | resendTimeout _ => apply execResendTimeout_good <;> first | exact h | exact hk _ rfl
  | ackTimeout _ => apply execAckTimeout_good <;> first | exact h | exact hk _ rfl
  | lockLost _ _ => apply execLockLost_good <;> first | exact h | exact hk _ rfl
  | laneAdd _ _ _ => apply execLaneAdd_good <;> first | exact h | exact hk _ rfl
  | laneAddDone _ _ => apply execLaneAddDone_good <;> first | exact h | exact hk _ rfl
  | laneRemove _ _ _ => apply execLaneRemove_good <;> first | exact h | exact hk _ rfl
  | laneFecWindow _ _ => apply execLaneFecWindow_good <;> first | exact h | exact hk _ rfl
  | portKeyLoad _ _ => apply execPortKeyLoad_good <;> first | exact h | exact hk _ rfl
  | portRekey _ _ => apply execPortRekey_good <;> first | exact h | exact hk _ rfl
  | digestUpdate _ => apply execDigestUpdate_good <;> first | exact h | exact hk _ rfl
  | epochArm _ => apply execEpochArm_good <;> first | exact h | exact hk _ rfl
  | epochDisarm _ => apply execEpochDisarm_good <;> first | exact h | exact hk _ rfl
  | leqPop _ => apply execLeqPop_good <;> first | exact h | exact hk _ rfl
  | pwrDone _ _ => apply execPwrDone_good <;> first | exact h | exact hk _ rfl
  | pwrGoodFall _ => apply execPwrGoodFall_good <;> first | exact h | exact hk _ rfl
  | pwrGoodRise _ => apply execPwrGoodRise_good <;> first | exact h | exact hk _ rfl
  | powerOnReset _ => apply execPowerOnReset_good <;> first | exact h | exact hk _ rfl
  | fuseLoadDone _ => apply execFuseLoadDone_good <;> first | exact h | exact hk _ rfl
  | perstRelease _ _ => apply execPerstRelease_good <;> first | exact h | exact hk _ rfl
  | hotReset _ _ => apply execHotReset_good <;> first | exact h | exact hk _ rfl
  | chipReset _ _ => apply execChipReset_good <;> first | exact h | exact hk _ rfl
  | jtagInstruction x => exact execJtagInstruction_good x h (fun n e => hc n (congrArg _ e)) (hk _ rfl)
  | pmSendByte _ _ _ => apply execPmSendByte_good <;> first | exact h | exact hk _ rfl
  | pmWriteByte _ _ _ => apply execPmWriteByte_good <;> first | exact h | exact hk _ rfl
  | pmWriteWord _ _ _ => apply execPmWriteWord_good <;> first | exact h | exact hk _ rfl
  | pmReadByte _ _ _ => apply execPmReadByte_good <;> first | exact h | exact hk _ rfl
  | pmReadWord _ _ _ => apply execPmReadWord_good <;> first | exact h | exact hk _ rfl
  | pmBlockRead _ _ _ => apply execPmBlockRead_good <;> first | exact h | exact hk _ rfl
  | pmDone _ => apply execPmDone_good <;> first | exact h | exact hk _ rfl
  | patchLoad _ => apply execPatchLoad_good <;> first | exact h | exact hk _ rfl
  | patchDone _ _ _ => apply execPatchDone_good <;> first | exact h | exact hk _ rfl
  | thermalSample _ _ _ => apply execThermalSample_good <;> first | exact h | exact hk _ rfl
  | tripClear _ => apply execTripClear_good <;> first | exact h | exact hk _ rfl
  | refillDone _ => apply execRefillDone_good <;> first | exact h | exact hk _ rfl
  | arrayTestDone _ => apply execArrayTestDone_good <;> first | exact h | exact hk _ rfl
  | ftPop _ => apply execFtPop_good <;> first | exact h | exact hk _ rfl
  | badCrcFlit _ => apply execBadCrcFlit_good <;> first | exact h | exact hk _ rfl
  | undefinedTypeFlit _ => apply execUndefinedTypeFlit_good <;> first | exact h | exact hk _ rfl
  | catastrophicTemperature _ => apply execCatastrophicTemperature_good <;> first | exact h | exact hk _ rfl
  | portKeyDone _ => apply execPortKeyDone_good <;> first | exact h | exact hk _ rfl
  | tnDone _ => apply execTnDone_good <;> first | exact h | exact hk _ rfl
  | dlDone _ => apply execDlDone_good <;> first | exact h | exact hk _ rfl
  | tbArm => apply execTbArm_good <;> first | exact h | exact hk _ rfl
  | ppsRise => apply execPpsRise_good <;> first | exact h | exact hk _ rfl
  | ppsEdge => apply execPpsEdge_good <;> first | exact h | exact hk _ rfl
  | ppsGlitch => apply execPpsGlitch_good <;> first | exact h | exact hk _ rfl
  | freezeEnd => apply execFreezeEnd_good <;> first | exact h | exact hk _ rfl
  | ppsMissing => apply execPpsMissing_good <;> first | exact h | exact hk _ rfl
  | tickDelivery => apply execTickDelivery_good <;> first | exact h | exact hk _ rfl
  | skewMaxClr => apply execSkewMaxClr_good <;> first | exact h | exact hk _ rfl
  | taskDispatch => apply execTaskDispatch_good <;> first | exact h | exact hk _ rfl
  | blkClearDone => apply execBlkClearDone_good <;> first | exact h | exact hk _ rfl
  | scrubStep => apply execScrubStep_good <;> first | exact h | exact hk _ rfl
  | protFillLine => apply execProtFillLine_good <;> first | exact h | exact hk _ rfl
  | rngHealthFail => apply execRngHealthFail_good <;> first | exact h | exact hk _ rfl
  | rngReseed => apply execRngReseed_good <;> first | exact h | exact hk _ rfl
  | perstAssert => apply execPerstAssert_good <;> first | exact h | exact hk _ rfl
  | tapReset => apply execTapReset_good <;> first | exact h | exact hk _ rfl
  | burnDone => apply execBurnDone_good <;> first | exact h | exact hk _ rfl
  | vrAlertNRising => apply execVrAlertNRising_good <;> first | exact h | exact hk _ rfl
  | rngStartUpTestsPass => apply execRngStartUpTestsPass_good <;> first | exact h | exact hk _ rfl
  | digestDone => apply execDigestDone_good <;> first | exact h | exact hk _ rfl

/-- Settles O58: each command's frame is that of its meaning; a private JTAG instruction answers a next state only under the debug lockout. -/
theorem commandsLeaveOtherPartsAlone : Obligations.CommandsLeaveOtherPartsAlone := by
  intro c s t e
  refine onlyParts_of_goodO (exec_good c (good_self s _) ?_ ?_) e
  · rintro n rfl
    by_contra hd
    simp [exec, execJtagInstruction, hd] at e
  · intro p hp
    simp only [hp, Bool.not_true]

end Sys2Proof.Proofs

/-!
The rules that register accesses use again: what messages, level events and the unlock of the FUSE page leave alone, of which pages an access changes the common
registers, and where the manager reaches.
-/

namespace Sys2Proof.Proofs

open Sys2Proof.Machine Sys2Proof.Laws

/-! ### Messages and level events -/

theorem SentOnly_regs {s t : State} (h : SentOnly s t) : t.regs = s.regs := by
  obtain ⟨o, w, v, rfl⟩ := h
  rfl

theorem SentOnly_page {s t : State} (h : SentOnly s t) (k : Nat) : t.page k = s.page k := by
  obtain ⟨o, w, v, rfl⟩ := h
  rfl

/-- R440. The messages of a page to its viewers change nothing but what is sent or owed. -/
theorem sendMsgs_sent (s : State) (page : Nat) (fns : List Nat) : SentOnly s (fns.foldl (fun t f => t.sendMsg f page) s) :=
  foldl_exists SentOnly SentOnly.refl (fun _ _ _ => SentOnly.trans) _ (fun t f => t.sendMsg_sent f page) _ _

@[simp] theorem raiseEdge_regs (s : State) (page bit : Nat) (was now : Bool) : (s.raiseEdge page bit was now).regs = s.regs := by
  unfold State.raiseEdge
  split
  · exact s.raise_regs page bit
  · rfl

@[simp] theorem raiseEdge_get (s : State) (page bit : Nat) (was now : Bool) (f : Field) : (s.raiseEdge page bit was now).get f = s.get f :=
  State.get_of_regs (raiseEdge_regs s page bit was now) f

/-- R619. A level event changes of its page's common registers at most EVT_STAT. -/
theorem raiseEdge_page (s : State) (page bit : Nat) (was now : Bool) (k : Nat) :
    ∃ e, (s.raiseEdge page bit was now).page k = { s.page k with evtStat := e } := by
  unfold State.raiseEdge State.raise
  split
  · by_cases hk : k = pageKey 0 page
    · subst hk
      exact ⟨_, s.raiseFn_page_self 0 page bit⟩
    · exact ⟨_, s.raiseFn_page_ne 0 page bit hk⟩
  · exact ⟨_, rfl⟩

/-- R619. A level that rises shows its event. -/
theorem raiseEdge_shows {was now : Bool} (hw : was = false) (hn : now = true) (s : State) (page bit : Nat) : (s.raiseEdge page bit was now).shows 0 page bit = true := by
  subst hw hn
  exact s.raise_shows page bit

/-! ### The unlock of the FUSE page -/

@[simp] theorem fuseTouch_regs (s : State) (page : Nat) : (s.fuseTouch page).regs = s.regs := by
  unfold State.fuseTouch
  split <;> rfl

@[simp] theorem fuseTouch_page (s : State) (page k : Nat) : (s.fuseTouch page).page k = s.page k := by
  unfold State.fuseTouch
  split <;> rfl

@[simp] theorem fuseTouch_other {page : Nat} (h : page ≠ 3) (s : State) : s.fuseTouch page = s := by
  unfold State.fuseTouch
  rw [if_neg (fun c => h c.1)]

/-! ### Pages -/

theorem onlyPages_setPage (s : State) (k : Nat) (p : Page) : OnlyPages [k] s (s.setPage k p) :=
  fun j hj => State.page_setPage_ne (by simpa using hj) s p

theorem onlyPages_trans {ks : List Nat} {s t u : State} (h : OnlyPages ks s t) (h' : OnlyPages ks t u) : OnlyPages ks s u :=
  fun k hk => (h' k hk).trans (h k hk)

theorem onlyPages_of_page {ks : List Nat} {s t : State} (h : ∀ k, t.page k = s.page k) : OnlyPages ks s t := fun k _ => h k

/-- The PF sees one copy of every page. -/
@[simp] theorem pageKey_manager (page : Nat) : pageKey 0 page = page := by
  unfold pageKey
  split <;> simp

/-! ### Reach -/

@[simp] theorem sees_manager (s : State) (page : Nat) : s.sees 0 page = true := rfl

/-- R456. The PF reaches every page whose domain is ON. -/
theorem reaches_manager {s : State} {page : Nat} (h : s.pageOn page = true) : s.Reaches 0 page := ⟨h, rfl⟩

/-- R529. A page of PD_AON is always on. -/
theorem pageOn_aon (s : State) {page : Nat} (h : domainOf page = 0) : s.pageOn page = true := by
  unfold State.pageOn
  rw [h]
  rfl

end Sys2Proof.Proofs

/-!
The symmetric descriptors of Sluice (R366 to R368, R376): a descriptor that runs and passes its checks ends with what its work gives.
-/

namespace Sys2Proof.Proofs

open Sys2Proof.Machine Sys2Proof.Laws Sys2Proof.Claims

/-! ### The frame of a descriptor's row -/

/-- A descriptor that runs and passes its checks ends with the status, output length and DETAIL that its work gives. -/
theorem runDesc_ends {op id : Nat} {d : Desc} {s t : State} {checks : State → Desc → List (Bool × Status × Nat)} {work : State → Desc → OpRes} {st : Status} {n dt : Nat}
    (h : DescRuns s id op d) (hp : Passes d (checks s d)) (hw : work s d = (t, some (st, n, dt))) :
    runDesc op id s checks work = .next (t.endDesc d st n dt) := by
  obtain ⟨awake, found, isOp, starts, free⟩ := h
  unfold runDesc
  rw [event_awake awake]
  unfold Passes at hp
  simp [found, isOp, starts, free, hp, hw]

/-- A descriptor whose work writes an output, and may write it, delivers it. -/
theorem runDesc_delivers {op id : Nat} {d : Desc} {s t : State} {checks : State → Desc → List (Bool × Status × Nat)} {work : State → Desc → OpRes} {out : List Byte}
    (h : DescRuns s id op d) (hp : Passes d (checks s d)) (hw : work s d = t.deliver' d out) (ho : (output t d out).2 = .ok) :
    runDesc op id s checks work = .next (delivered t d out) := by
  refine runDesc_ends h hp (hw.trans ?_)
  unfold State.deliver'
  simp [ho]

/-! ### The steps of a work that go well -/

theorem withKey_found {s : State} {d : Desc} {cs : List Nat} {g : Nat} {x : KeySlot} (h : s.findKey d.fn d.key cs = .found g x) (k : State → Nat → KeySlot → OpRes) :
    s.withKey d cs k = k s g x := by
  simp [State.withKey, h]

theorem withSrc_ok {s : State} {d : Desc} {n : Nat} {o : ReadOutcome} (h : (source s d n o).2.1 = .ok) (k : State → List Byte → OpRes) :
    s.withSrc d n o k = k (source s d n o).1 (source s d n o).2.2 := by
  rcases r : source s d n o with ⟨t, st, b⟩
  obtain rfl : st = .ok := by simpa [r] using h
  simp only [State.withSrc, r]

theorem withAux_ok {s : State} {d : Desc} {o : ReadOutcome} (h : (auxiliary s d o).2.1 = .ok) (k : State → List Byte → OpRes) :
    s.withAux d o k = k (auxiliary s d o).1 (auxiliary s d o).2.2 := by
  rcases r : auxiliary s d o with ⟨t, st, b⟩
  obtain rfl : st = .ok := by simpa [r] using h
  simp only [State.withAux, r]

/-- The work of a symmetric operation on LEN bytes: what it makes of its source is delivered. -/
theorem cipherWork_ok {s : State} {d : Desc} {cs : List Nat} {g : Nat} {x : KeySlot} {o : ReadOutcome} (hk : s.findKey d.fn d.key cs = .found g x)
    (hr : s.ranges d d.len d.len = none) (hn : d.len ≠ 0) (hs : (source s d d.len o).2.1 = .ok) (f : KeySlot → List Byte → List Byte) :
    s.cipherWork d cs o f = (source s d d.len o).1.deliver' d (f x (source s d d.len o).2.2) := by
  unfold State.cipherWork
  rw [withKey_found hk]
  simp only [hr, if_neg hn, withSrc_ok hs]

/-! ### The obligation -/

/-- Settles O28: each descriptor's work is followed through its key, ranges, operands and output, and the row ends with it. -/
theorem symmetricDescriptors : Obligations.SymmetricDescriptors := by
  refine ⟨?nop, ?gcmEnc, ?gcmDec, ?ctr, ?xtsEnc, ?xtsDec, ?sha256, ?hmac, ?hmacChk, ?random, ?noWork⟩
  case nop =>
    intro id d s runs passes
    show execDescNop id s = _
    unfold execDescNop
    exact runDesc_ends runs passes rfl
  case gcmEnc =>
    intro id d g x src aux s runs passes key ranges len hsrc haux out
    show execGcmEnc id src aux s = _
    unfold execGcmEnc
    refine runDesc_delivers runs passes ?_ out
    rw [withKey_found key]
    simp only [ranges, if_neg len, withSrc_ok hsrc, withAux_ok haux]
  case gcmDec =>
    intro id d g x src aux s runs passes key ranges len hsrc haux out
    rcases r : source s d (d.len + d.p0) src with ⟨t, st, b⟩
    rcases ra : auxiliary t d aux with ⟨u, sa, a⟩
    rcases rd : gcmDecrypt x.key (d.iv.take 12) a (b.take d.len) with ⟨p, tag⟩
    simp only [r] at haux
    simp only [r, ra, rd] at out ⊢
    show execGcmDec id src aux s = _
    unfold execGcmDec
    by_cases tagOk : tag.take d.p0 = b.drop d.len
    · rw [if_pos tagOk] at out ⊢
      refine runDesc_delivers runs passes ?_ out
      rw [withKey_found key]
      simp only [ranges, if_neg len, withSrc_ok hsrc, r, withAux_ok haux, ra, rd, if_pos tagOk]
    · rw [if_neg tagOk] at out ⊢
      refine runDesc_ends runs passes ?_
      rw [withKey_found key]
      simp only [ranges, if_neg len, withSrc_ok hsrc, r, withAux_ok haux, ra, rd, if_neg tagOk, out, if_true]
  case ctr =>
    intro id d g x src s runs passes key ranges len hsrc out
    show execCtr id src s = _
    unfold execCtr
    exact runDesc_delivers runs passes (cipherWork_ok key ranges len hsrc _) out
  case xtsEnc =>
    intro id d g x src s runs passes key ranges len hsrc out
    show execXtsEnc id src s = _
    unfold execXtsEnc
    exact runDesc_delivers runs passes (cipherWork_ok key ranges len hsrc _) out
  case xtsDec =>
    intro id d g x src s runs passes key ranges len hsrc out
    show execXtsDec id src s = _
    unfold execXtsDec
    exact runDesc_delivers runs passes (cipherWork_ok key ranges len hsrc _) out
  case sha256 =>
    intro id d src s runs passes ranges len hsrc out
    show execSha256 id src s = _
    unfold execSha256
    refine runDesc_delivers runs passes ?_ out
    simp only [ranges, if_neg len, withSrc_ok hsrc]
  case hmac =>
    intro id d g x src s runs passes key ranges len hsrc out
    show execHmac id src s = _
    unfold execHmac
    refine runDesc_delivers runs passes ?_ out
    rw [withKey_found key]
    simp only [ranges, if_neg len, withSrc_ok hsrc]
  case hmacChk =>
    intro id d g x src aux s runs passes key len ranges hsrc haux
    show execHmacChk id src aux s = _
    unfold execHmacChk
    refine runDesc_ends runs passes ?_
    rw [withKey_found key]
    simp only [ranges, if_neg len, withSrc_ok hsrc, withAux_ok haux]
  case random =>
    intro id d s runs passes len range healthy out
    have drawn : s.random d.len = (some (s.drawRandom d.len).1, (s.drawRandom d.len).2.countRandom) := by simp [State.random, healthy]
    show execRandom id s = _
    unfold execRandom
    refine runDesc_delivers runs passes ?_ ?_
    · simp only [if_neg len, range, drawn]
    · simpa [drawn] using out
  case noWork =>
    intro id d src s runs passes len
    show execSha256 id src s = _
    unfold execSha256
    refine runDesc_ends runs passes ?_
    simp only [State.ranges, len, if_true]

end Sys2Proof.Proofs

/-!
The machine right after reset (R9, R529, R613): nothing is listed, so every part reads its default.
-/

namespace Sys2Proof.Proofs

open Sys2Proof.Machine Sys2Proof.Laws

/-- Right after reset the register store lists nothing: a field reads its reset value. -/
@[simp] theorem reset_get (f : Field) : State.reset.get f = f.reset := rfl

/-- Right after reset no page copy is listed: each has the common layout's reset values. -/
@[simp] theorem reset_page (k : Nat) : State.reset.page k = {} := rfl

/-- Right after reset PD_AON alone is ON. -/
theorem reset_dom (d : Nat) : State.reset.dom d = if d = 0 then .on else .off := rfl

/-- Right after reset the memories and the logs are empty. -/
theorem reset_sound : State.reset.Sound where
  memory := by decide
  protLog := Nat.zero_le _
  abortLog := Nat.zero_le _
  lateErrors := Nat.zero_le _
  faultLog := Nat.zero_le _

/-- Settles O55: field, page, domain and list by list from the default values of the state. -/
theorem resetStateIsSoundAndEmpty : Obligations.ResetStateIsSoundAndEmpty := by
  refine ⟨reset_get, fun k => ?_, reset_dom, ⟨reset_sound, rfl, rfl, rfl, rfl, rfl, rfl⟩, fun core slot c => ⟨rfl, rfl, rfl, rfl⟩⟩
  rw [reset_page]
  exact ⟨rfl, rfl, rfl, rfl, rfl, rfl, rfl⟩

end Sys2Proof.Proofs

/-!
Register reads and writes (R5, R9, R34, R425, R426, R613 to R617): which word an access addresses, what a write of a plain word stores, what a read returns and
captures.
-/

namespace Sys2Proof.Proofs

open Sys2Proof.Machine Sys2Proof.Laws

/-! ### The word that an access addresses -/

/-- R9. A whole word written to a page that the function reaches. -/
theorem exec_registerWrite {fn page off : Nat} {s : State} (h : s.Reaches fn page) (ho : off < 4096) (hw : off % 4 = 0) (v : Nat) :
    exec (.registerWrite fn (4096 * page + off) v 15) s = .next (s.writeWord fn page off (v % 2 ^ 32)) := by
  have word : (4096 * page + off) / 4 * 4 = 4096 * page + off := by omega
  have page_eq : (4096 * page + off) / 4096 = page := by omega
  have off_eq : (4096 * page + off) % 4096 = off := by omega
  show execRegisterWrite fn _ v 15 s = _
  unfold execRegisterWrite
  simp only [word, page_eq, off_eq]
  rw [if_neg (by decide), mmio_reaches h]

/-- A word whose read has no effect of its own: neither a pop, nor one of the captures of R34 and R617, nor a live reading. -/
def PlainRead (page off : Nat) : Prop :=
  off ≠ 0x24 ∧ ¬(page = 2 ∧ off = 0x48) ∧ ¬(0x201 ≤ page ∧ page ≤ 0x208 ∧ off = 0x48) ∧ ¬(page = 0x310 ∧ off = 0x54) ∧ ¬(page = 0x500 ∧ off = 0x70) ∧
  ¬(page = 0x680 ∧ off = 0xB0) ∧ ¬(page = 0x700 ∧ off = 0x40) ∧ ¬(0x301 ≤ page ∧ page ≤ 0x306 ∧ off = 0x48)

/-- R5. The read of a plain word of a page that the function reaches. -/
theorem exec_lowerWordRead {fn page off : Nat} {s : State} (h : s.Reaches fn page) (ho : off < 4096) (hw : off % 4 = 0) (hp : PlainRead page off) :
    exec (.lowerWordRead fn (4096 * page + off)) s = .next (s.readWord fn fn (4096 * page + off)) := by
  have word : (4096 * page + off) / 4 * 4 = 4096 * page + off := by omega
  have page_eq : (4096 * page + off) / 4096 = page := by omega
  have off_eq : (4096 * page + off) % 4096 = off := by omega
  obtain ⟨err, now, bq, pl, ab, leq, ft, temp⟩ := hp
  show execLowerWordRead fn _ s = _
  unfold execLowerWordRead
  simp only [word, page_eq, off_eq]
  rw [if_neg (by omega), if_neg err, if_neg bq, if_neg (by omega), if_neg (by omega), if_neg (by omega), if_neg (by omega), mmioRead_reaches h, if_neg temp]

/-- The lower word of a pair lies past the common layout. -/
theorem lowerWord_past {page off : Nat} (h : lowerWord page off = true) : 0x44 ≤ off := by
  by_contra hlt
  have ne (k : Nat) (hk : 0x44 ≤ k) : ¬off = k := by omega
  have below (k : Nat) (hk : 0x44 ≤ k) : ¬k ≤ off := by omega
  revert h
  simp [lowerWord, ne, below]

/-- R426. A read of a page whose domain is off. -/
theorem mmioRead_off {fn page : Nat} {s : State} (h : s.pageOn page = false) (body : State → Outcome) :
    mmioRead fn page s body = .next ((s.pdoffAccess fn).answer 0xFFFFFFFF) := by
  simp [mmioRead, h]

/-- R425. A read of a page that the function has not. -/
theorem mmioRead_unseen {fn page : Nat} {s : State} (h : s.pageOn page = true) (h' : s.sees fn page = false) (body : State → Outcome) :
    mmioRead fn page s body = .next (s.answer 0) := by
  simp [mmioRead, h, h']

/-- A read of either of the first two words past the common layout is an access to its page. -/
theorem exec_lowerWordRead_access {fn addr : Nat} (s : State) (h : addr % 4096 ∈ [0x40, 0x44]) :
    ∃ body, exec (.lowerWordRead fn addr) s = mmioRead fn (addr / 4096) s body := by
  have word : addr / 4 * 4 = addr := by simp at h; omega
  change ∃ body, execLowerWordRead fn addr s = _
  unfold execLowerWordRead
  simp only [word]
  simp only [List.mem_cons, List.not_mem_nil, or_false] at h
  rw [if_neg (by omega), if_neg (by omega), if_neg (by omega), if_neg (by omega), if_neg (by omega), if_neg (by omega)]
  split
  · next pop =>
    subst pop
    exact ⟨_, rfl⟩
  · exact ⟨_, rfl⟩

/-! ### Captures -/

@[simp] theorem captured_setCaptured_self (s : State) (who addr : Nat) (v : Option Nat) : (s.setCaptured who addr v).captured who addr = v :=
  Map.get_put_self _ _ _ _

theorem captured_setCaptured_ne {a b : Nat} (h : a ≠ b) (s : State) (who : Nat) (v : Option Nat) : (s.setCaptured who b v).captured who a = s.captured who a :=
  Map.get_put_ne (by omega) _ _ _ _

@[simp] theorem captured_answer (s : State) (who addr v : Nat) : (s.answer v).captured who addr = s.captured who addr := rfl

@[simp] theorem readData_answer (s : State) (v : Nat) : (s.answer v).readData = v := rfl

/-- A read that captures a word, or gives a captured one back, changes nothing else. -/
theorem setCaptured_answer_only (s : State) (who addr v : Nat) (c : Option Nat) : OnlyParts [.captures, .readData] s ((s.setCaptured who addr c).answer v) :=
  onlyParts_of_good (State_answer_good v (State_setCaptured_good who addr c (good_self s _) rfl) rfl)

/-- R5. A captured word is returned once. -/
theorem readWord_captured {s : State} {who addr v : Nat} (h : s.captured who addr = some v) (fn : Nat) :
    s.readWord who fn addr = (s.setCaptured who addr none).answer v := by
  simp [State.readWord, h]

/-- R5. The read of a lower word captures the upper one. -/
theorem readWord_lower {s : State} {who fn addr : Nat} (h : s.captured who addr = none) (hl : lowerWord (addr / 4096) (addr % 4096) = true) :
    s.readWord who fn addr = (s.setCaptured who (addr + 4) (some (s.wordAt fn (addr + 4)))).answer (s.wordAt fn addr) := by
  have past := lowerWord_past hl
  unfold State.readWord
  rw [h]
  simp only [hl, if_true]
  rw [if_neg (by omega)]

/-- R355. Where ERR_INFO1 holds one word, its read turns nothing. -/
theorem turnInfo_single {s : State} {fn page : Nat} (h : (s.page (pageKey fn page)).errNext = none) : s.turnInfo fn page = s := by
  simp [State.turnInfo, h]

/-- R5. A live word is returned; at most the upper word of its pair is captured, where ERR_INFO1 is not turned. -/
theorem readWord_live {s : State} {who fn addr : Nat} (h : s.captured who addr = none)
    (he : addr % 4096 = 0x2C → (s.page (pageKey fn (addr / 4096))).errNext = none) :
    (s.readWord who fn addr).readData = s.wordAt fn addr ∧ OnlyParts [.captures, .readData] s (s.readWord who fn addr) := by
  by_cases hl : lowerWord (addr / 4096) (addr % 4096) = true
  · rw [readWord_lower h hl]
    exact ⟨rfl, setCaptured_answer_only _ _ _ _ _⟩
  · have turned : (if addr % 4096 = 0x2C then s.turnInfo fn (addr / 4096) else s) = s := by
      split
      · next c => exact turnInfo_single (he c)
      · rfl
    have live : s.readWord who fn addr = s.answer (s.wordAt fn addr) := by
      unfold State.readWord
      rw [h]
      simp only [hl, Bool.false_eq_true, if_false, turned]
    rw [live]
    exact ⟨rfl, onlyParts_of_good (State_answer_good _ (good_self s _) rfl)⟩

/-- R34. A read of TB_NOW_NS captures both words of the seconds. -/
theorem readNow_captures (s : State) (who : Nat) :
    (s.readNow who).readData = s.time.ns ∧ (s.readNow who).captured who 0x204C = some (s.time.sec % 2 ^ 32) ∧
      (s.readNow who).captured who 0x2050 = some (s.time.sec / 2 ^ 32) ∧ OnlyParts [.captures, .readData] s (s.readNow who) := by
  refine ⟨rfl, ?_, ?_, onlyParts_of_good (State_readNow_good who (good_self s _) rfl rfl)⟩
  · unfold State.readNow
    rw [captured_answer, captured_setCaptured_ne (by decide), captured_setCaptured_self]
  · unfold State.readNow
    rw [captured_answer, captured_setCaptured_self]

@[simp] theorem captured_turnInfo (s : State) (who addr fn page : Nat) : (s.turnInfo fn page).captured who addr = s.captured who addr := by
  unfold State.turnInfo
  dsimp only
  split <;> rfl

/-- R617. A read of ERR_CODE captures the other four words of the error set, as the reader sees them. -/
theorem readErr_captures (s : State) (who fn page : Nat) :
    (s.readErr who fn page).readData = s.commonWord fn page 0x24 ∧
      (s.readErr who fn page).captured who (4096 * page + 0x28) = some (s.commonWord fn page 0x28) ∧
      (s.readErr who fn page).captured who (4096 * page + 0x2C) = some (s.commonWord fn page 0x2C) ∧
      (s.readErr who fn page).captured who (4096 * page + 0x30) = some (s.commonWord fn page 0x30) ∧
      (s.readErr who fn page).captured who (4096 * page + 0x34) = some (s.commonWord fn page 0x34) ∧
      OnlyParts [.captures, .readData, .pages] s (s.readErr who fn page) := by
  refine ⟨rfl, ?_, ?_, ?_, ?_, onlyParts_of_good (State_readErr_good who fn page (good_self s _) rfl rfl rfl)⟩ <;>
    simp [State.readErr, captured_setCaptured_ne]

/-- R617. Where the page's ERR_INFO1 holds one word, a read of ERR_CODE changes no page. -/
theorem readErr_pages {s : State} {fn page : Nat} (who : Nat) (h : (s.page (pageKey fn page)).errNext = none) : (s.readErr who fn page).pages = s.pages := by
  have turned (t : State) (ht : t.pages = s.pages) : (t.turnInfo fn page).pages = s.pages := by
    rw [turnInfo_single (by rw [State.page_of_pages ht]; exact h), ht]
  exact turned _ rfl

/-- R34. The read of TB_NOW_NS of a function that reaches the page. -/
theorem exec_tbNowRead {fn : Nat} {s : State} (h : s.Reaches fn 2) : exec (.tbNowRead fn) s = .next (s.readNow fn) :=
  mmioRead_reaches h fun s => .next (s.readNow fn)

/-- R617. The read of ERR_CODE of a function that reaches the page. -/
theorem exec_errCodeRead {fn page : Nat} {s : State} (h : s.Reaches fn page) : exec (.errCodeRead fn page) s = .next (s.readErr fn fn page) :=
  mmioRead_reaches h fun s => .next (s.readErr fn fn page)

/-! ### Writes -/

/-- R439. A write of EVT_EN sets the page copy's register, and perhaps sends messages. -/
theorem enableEvents_sent (s : State) (fn page v : Nat) :
    SentOnly (s.setPage (pageKey fn page) { s.page (pageKey fn page) with evtEn := v &&& evtMask page }) (s.enableEvents fn page v) := by
  unfold State.enableEvents
  dsimp only
  split
  · exact sendMsgs_sent _ page _
  · exact SentOnly.refl _

/-- R613. A write of EVT_EN. -/
theorem writeWord_events {fn page : Nat} (hv : vfWrites fn page 0x1C = true) (hi : implemented page = true) (s : State) (v : Nat) :
    s.writeWord fn page 0x1C v = (s.fuseTouch page).enableEvents fn page v := by
  simp [State.writeWord, hv, hi]

/-- R613. A write of BLK_SCRATCH. -/
theorem writeWord_scratch {fn page : Nat} (hv : vfWrites fn page 0x3C = true) (hi : implemented page = true) (s : State) (v : Nat) :
    s.writeWord fn page 0x3C v = (s.fuseTouch page).setPage (pageKey fn page) { s.page (pageKey fn page) with scratch := v } := by
  simp [State.writeWord, hv, hi]

/-- R9. The PF's write of a word past the common layout of a page other than FUSE: refused by its range check, or stored. -/
theorem writeWord_fields {page off : Nat} (hp : page ≠ 3) (hi : implemented page = true) (ho : 0x40 ≤ off) (s : State) (v : Nat) :
    s.writeWord 0 page off v = ((s.refusal 0 page off v).getD ((s.store 0 page off v).afterWrite s page off)) := by
  unfold State.writeWord
  rw [fuseTouch_other hp]
  have manager : vfWrites 0 page off = true := rfl
  have event : off ≠ 0x1C := by omega
  have scratch : off ≠ 0x3C := by omega
  simp only [manager, hi, event, scratch, Nat.not_lt.mpr ho, ite_self, Bool.not_true, Bool.or_self, Bool.false_eq_true, if_false]
  cases s.refusal 0 page off v <;> rfl

/-- R9. The fields of a word of a chip page take what is written. -/
theorem store_fields {page : Nat} (hp : page < 0x200) {off v : Nat} (hc : commandWord page off v = false) (s : State) (fn : Nat) :
    s.store fn page off v = ((fieldsAt fn (4096 * page + off)).filter (fun f => !ownCommand page off f.lsb)).foldl (fun t f => t.writeField (s.page page).lock v f) s := by
  unfold State.store
  rw [if_neg (by omega), if_neg (by omega), if_neg (by omega), hc]
  rfl

/-! ### THERM_WARN and TB_TICK_NS -/

/-- R544. The refusal of a write of THERM_WARN: a limit outside 40 to 115. -/
theorem refusal_thermWarn (s : State) (v : Nat) :
    s.refusal 0 1 0x70 v = if v % 256 < 40 ∨ 115 < v % 256 then some (s.refuseWrite 0 0x1070 v) else none := by
  simp [State.refusal, State.refusalChip, State.writeRefused, refusedIf]

theorem store_thermWarn (s : State) (v : Nat) : s.store 0 1 0x70 v = s.set THERM_WARN_LIMIT (bitsOf v 0 8) := by
  have fields : (fieldsAt 0 (4096 * 1 + 0x70)).filter (fun f => !ownCommand 1 0x70 f.lsb) = [THERM_WARN_LIMIT] := by decide
  rw [store_fields (by decide) (by simp [commandWord]), fields]
  rfl

/-- R54. The refusal of a write of TB_TICK_NS: while the page is not locked, with ticks running or a period out of range. -/
theorem refusal_tickNs (s : State) (v : Nat) :
    s.refusal 0 2 0x6C v = if (s.page 2).lock = false ∧ (s.on TB_CTRL_TICK_EN = true ∨ v < 1000 ∨ 1000000 < v ∨ 1000000000 % v ≠ 0) then some (s.refuseWrite 0 0x206C v) else none := by
  simp [State.refusal, State.refusalChip, State.writeRefused, refusedIf, State.timebaseBad, or_assoc]

theorem store_tickNs (s : State) (v : Nat) : s.store 0 2 0x6C v = if (s.page 2).lock then s else s.set TB_TICK_NS (bitsOf v 0 32) := by
  have fields : (fieldsAt 0 (4096 * 2 + 0x6C)).filter (fun f => !ownCommand 2 0x6C f.lsb) = [TB_TICK_NS] := by decide
  rw [store_fields (by decide) (by simp [commandWord]), fields]
  rfl

/-- R519. The group's formation changes FORMED, events and the group, no other register. -/
theorem groupRefresh_get_ne {f : Field} (h : f.key ≠ GRP_STAT_FORMED.key) (s : State) : s.groupRefresh.get f = s.get f := by
  unfold State.groupRefresh
  dsimp only
  rw [raiseEdge_get]
  split
  · exact (raiseEdge_get _ _ _ _ _ f).trans (State.get_flag_ne h _ _)
  · rw [raiseEdge_get, State.get_flag_ne h]

/-- R517. An input of the digest has changed: DIGEST_VALID is 0. -/
theorem digestStale_invalid (s : State) : s.digestStale.on GRP_STAT_DIGEST_VALID = false := by
  unfold State.digestStale State.on
  rw [groupRefresh_get_ne (by decide), State.get_flag_self]
  rfl

theorem digestStale_get_ne {f : Field} (h : f.key ≠ GRP_STAT_FORMED.key) (h' : f.key ≠ GRP_STAT_DIGEST_VALID.key) (s : State) : s.digestStale.get f = s.get f := by
  unfold State.digestStale
  rw [groupRefresh_get_ne h, State.get_flag_ne h']

/-- R544. The temperature alert reads registers alone. -/
theorem raiseEdge_warm (s : State) (page bit : Nat) (was now : Bool) : (s.raiseEdge page bit was now).warm = s.warm := by
  simp [State.warm, State.readings]

/-- R544. A limit in range is stored, and a chip that is now at or above it raises THERM_WARN. -/
theorem write_thermWarn_stored {v : Nat} (lo : 40 ≤ v) (hi : v ≤ 115) (s : State) :
    exec (.registerWrite 0 0x1070 v 15) s = .next ((s.set THERM_WARN_LIMIT v).raiseEdge 1 1 s.warm (s.set THERM_WARN_LIMIT v).warm) := by
  have small : v % 2 ^ 32 = v := Nat.mod_eq_of_lt (by omega)
  have low : bitsOf v 0 8 = v := by unfold bitsOf; omega
  refine (exec_registerWrite (page := 1) (off := 0x70) (reaches_manager (pageOn_aon s rfl)) (by decide) (by decide) v).trans ?_
  rw [writeWord_fields (by decide) (by decide) (by decide), small, refusal_thermWarn, if_neg (by omega), store_thermWarn, low]
  rfl

/-- R544, R616. A limit out of range is refused. -/
theorem write_thermWarn_refused {v : Nat} (h : v % 256 < 40 ∨ 115 < v % 256) (s : State) :
    exec (.registerWrite 0 0x1070 v 15) s = .next (s.refuseWrite 0 0x1070 (v % 2 ^ 32)) := by
  refine (exec_registerWrite (page := 1) (off := 0x70) (reaches_manager (pageOn_aon s rfl)) (by decide) (by decide) v).trans ?_
  rw [writeWord_fields (by decide) (by decide) (by decide), refusal_thermWarn, if_pos (by omega)]
  rfl

/-- R9, R54, R616. A write of TB_TICK_NS: refused as its checks say; otherwise nothing while the page is locked, else stored, and the digest is out of date. -/
theorem write_tickNs (v : Nat) (s : State) :
    exec (.registerWrite 0 0x206C v 15) s = .next ((s.refusal 0 2 0x6C (v % 2 ^ 32)).getD
      (if (s.page 2).lock then s else (s.set TB_TICK_NS (bitsOf (v % 2 ^ 32) 0 32)).digestStale)) := by
  refine (exec_registerWrite (page := 2) (off := 0x6C) (reaches_manager (pageOn_aon s rfl)) (by decide) (by decide) v).trans ?_
  rw [writeWord_fields (by decide) (by decide) (by decide), store_tickNs]
  cases hl : (s.page 2).lock <;> simp [State.afterWrite, hl]

/-! ### The obligation -/

/-- Settles O51: each access from the word that it addresses, by the rules of reads, captures and writes above. -/
theorem registerReadsAndWrites : Obligations.RegisterReadsAndWrites := by
  refine ⟨?halfWord, ?scratch, ?events, ?limit, ?limitRefused, ?locked, ?tick, ?tickRefused, ?lower, ?captured, ?off, ?unseen, ?now, ?err, ?smbusRead, ?smbusPower, ?smbusReset⟩
  case halfWord =>
    intro fn addr v be s h
    show execRegisterWrite fn addr v be s = _
    unfold execRegisterWrite
    simp only [ne_eq, h, not_false_eq_true, if_true]
  case scratch =>
    intro fn page v s reach impl _ writes
    refine .of_next ((exec_registerWrite reach (by decide) (by decide) v).trans (congrArg _ (writeWord_scratch writes impl s _))) ⟨?_, ?_, ?_⟩
    · rw [State.page_setPage_self]
    · exact onlyPages_trans (onlyPages_of_page (fuseTouch_page s page)) (onlyPages_setPage _ _ _)
    · exact fuseTouch_regs s page
  case events =>
    intro fn page v s reach impl _ writes
    have sent := enableEvents_sent (s.fuseTouch page) fn page (v % 2 ^ 32)
    refine .of_next ((exec_registerWrite reach (by decide) (by decide) v).trans (congrArg _ (writeWord_events writes impl s _))) ⟨?_, ?_, ?_⟩
    · rw [SentOnly_page sent, State.page_setPage_self]
    · exact onlyPages_trans (onlyPages_of_page (fuseTouch_page s page)) (onlyPages_trans (onlyPages_setPage _ _ _) (onlyPages_of_page (SentOnly_page sent)))
    · rw [SentOnly_regs sent, State.setPage_regs, fuseTouch_regs]
  case limit =>
    intro v s lo hi
    refine .of_next (write_thermWarn_stored lo hi s) ⟨?_, ?_, ?_⟩
    · rw [raiseEdge_get, State.get_set_self]
      exact Nat.mod_eq_of_lt (show v < 256 by omega)
    · exact ((OnlyRegs.refl _ s).set (List.mem_singleton_self _) v).of_regs (raiseEdge_regs _ _ _ _ _)
    · intro cool warm
      exact raiseEdge_shows cool (by rwa [raiseEdge_warm] at warm) _ _ _
  case limitRefused =>
    intro v s h
    exact write_thermWarn_refused h s
  case locked =>
    intro v s locked
    rw [write_tickNs, refusal_tickNs]
    simp [locked]
  case tick =>
    intro v s unlocked stopped lo hi divides
    have small : v % 2 ^ 32 = v := Nat.mod_eq_of_lt (by omega)
    refine .of_next ((write_tickNs v s).trans (by rw [small, refusal_tickNs, if_neg (by simp [stopped, divides]; omega), unlocked]; rfl)) ⟨?_, digestStale_invalid _⟩
    rw [digestStale_get_ne (by decide) (by decide), State.get_set_self]
    unfold bitsOf
    show v / 2 ^ 0 % 2 ^ 32 % 2 ^ 32 = v
    omega
  case tickRefused =>
    intro v s unlocked bad small
    rw [write_tickNs, Nat.mod_eq_of_lt small, refusal_tickNs, if_pos ⟨unlocked, by tauto⟩]
    rfl
  case lower =>
    intro fn page off s reach hl ho hw hpop hnow none
    have past := lowerWord_past hl
    have page_eq : (4096 * page + off) / 4096 = page := by omega
    have off_eq : (4096 * page + off) % 4096 = off := by omega
    have plain : PlainRead page off := by
      have bufferFree : ¬(page = 0x310 ∧ off = 0x54) := by rintro ⟨rfl, rfl⟩; exact absurd hl (by decide)
      have aborts : ¬(page = 0x500 ∧ off = 0x70) := by rintro ⟨rfl, rfl⟩; exact absurd hl (by decide)
      have lateErrors : ¬(page = 0x680 ∧ off = 0xB0) := by rintro ⟨rfl, rfl⟩; exact absurd hl (by decide)
      unfold PlainRead
      omega
    refine .of_next ((exec_lowerWordRead reach ho hw plain).trans (congrArg _ (readWord_lower none (by rw [page_eq, off_eq]; exact hl)))) ⟨rfl, ?_, setCaptured_answer_only _ _ _ _ _⟩
    rw [captured_answer, captured_setCaptured_self]
  case captured =>
    intro fn page off v s reach hpage ho hw herr hpop some
    have plain : PlainRead page off := by
      simp only [List.mem_cons, List.not_mem_nil, or_false] at hpage
      unfold PlainRead
      omega
    refine .of_next ((exec_lowerWordRead reach ho hw plain).trans (congrArg _ (readWord_captured some fn))) ⟨rfl, ?_, setCaptured_answer_only _ _ _ _ _⟩
    rw [captured_answer, captured_setCaptured_self]
  case off =>
    intro fn addr s isOff word _
    obtain ⟨body, access⟩ := exec_lowerWordRead_access (fn := fn) s word
    rw [access, mmioRead_off isOff]
  case unseen =>
    intro fn addr s isOn unseen word
    obtain ⟨body, access⟩ := exec_lowerWordRead_access (fn := fn) s word
    rw [access, mmioRead_unseen isOn unseen]
  case now =>
    intro fn s reach
    exact .of_next (exec_tbNowRead reach) (readNow_captures s fn)
  case err =>
    intro fn page s reach _ view
    obtain ⟨word, info0, info1, ns, sec, only⟩ := readErr_captures s fn fn page
    refine .of_next (exec_errCodeRead reach) ⟨?_, ?_, ?_, ?_, ?_, only, readErr_pages fn⟩
    · rw [word]; simp [State.commonWord, view]
    · rw [info0]; simp [State.commonWord, view]
    · rw [info1]; simp [State.commonWord, view]
    · rw [ns]; simp [State.commonWord, view]
    · rw [sec]; simp [State.commonWord, view]
  case smbusRead =>
    intro addr s hw seen herr hpop none single
    have word : addr / 4 * 4 = addr := by omega
    refine .of_next (t := s.readWord 9 0 addr) ?_ (readWord_live none single)
    show s.smbusRead addr = _
    simp [State.smbusRead, word, seen, herr, hpop]
  case smbusPower =>
    intro v s open_ flows first
    show powerCmd true _ _ _ _ s = _
    simp [powerCmd, open_, flows, first]
  case smbusReset =>
    intro v s
    rfl

end Sys2Proof.Proofs

/-!
The commands of the common layout (R9, R10, R51, R52, R613 to R620): clears of the error set and of events, ENABLE and LOCK, the page reset, the quiesce of a page.
-/

namespace Sys2Proof.Proofs

open Sys2Proof.Machine Sys2Proof.Laws

/-! ### Accesses that change nothing -/

/-- R425, R627. A command of a page that is on changes nothing, where its meaning does not: the function has no such page, or may not write it. -/
theorem mmio_ignored {fn page : Nat} {s : State} {body : State → Outcome} (h : s.pageOn page = true) (hb : body s = .next s) : mmio fn page s body = .next s := by
  unfold mmio
  rw [h, hb]
  simp

/-! ### The error set -/

/-- R613. The error set of a page cleared. -/
def errCleared (p : Page) : Page := { p with errCode := 0, errCount := 0, errInfo0 := 0, errInfo1 := 0, errNext := none, errTime := {} }

/-- R613. The state in which the error set of a function's copy of a page is cleared. -/
def clearErr (s : State) (fn page : Nat) : State := (s.fuseTouch page).setPage (pageKey fn page) (errCleared (s.page (pageKey fn page)))

/-- R613, R616. ERR_CODE.CLR by a function that may clear the page. -/
theorem exec_errCodeClr {fn page : Nat} {s : State} (reach : s.Reaches fn page) (impl : implemented page = true) (may : mayClear fn page true = true) (edge : Option Status) :
    exec (.errCodeClr fn page edge) s = .next (match edge with | some st => (clearErr s fn page).captureOpen fn page st | none => clearErr s fn page) := by
  show execErrCodeClr fn page edge s = _
  unfold execErrCodeClr
  rw [mmio_reaches reach]
  simp only [impl, may, Bool.not_true, Bool.or_self, Bool.false_eq_true, if_false, fuseTouch_page]
  rfl

theorem clearErr_page (s : State) (fn page : Nat) : (clearErr s fn page).page (pageKey fn page) = errCleared (s.page (pageKey fn page)) :=
  State.page_setPage_self _ _ _

theorem clearErr_only (s : State) (fn page : Nat) : OnlyPages [pageKey fn page] s (clearErr s fn page) :=
  onlyPages_trans (onlyPages_of_page (fuseTouch_page s page)) (onlyPages_setPage _ _ _)

theorem clearErr_regs (s : State) (fn page : Nat) : (clearErr s fn page).regs = s.regs := fuseTouch_regs s page

/-- R616. A capture with open details: the code is the new error's, COUNT rises, and of the pages only the captured copy changes. -/
theorem captureOpen_captures (s : State) (fn page : Nat) (st : Status) :
    ((s.captureOpen fn page st).page (pageKey fn page)).errCode = st.code ∧
      ((s.captureOpen fn page st).page (pageKey fn page)).errCount = min 255 ((s.page (pageKey fn page)).errCount + 1) ∧
      OnlyPages [pageKey fn page] s (s.captureOpen fn page st) ∧ (s.captureOpen fn page st).regs = s.regs := by
  obtain ⟨t, a, b, same, regs, captured⟩ : ∃ (t : State) (a b : Nat), (∀ k, t.page k = s.page k) ∧ t.regs = s.regs ∧ s.captureOpen fn page st = t.captureFn fn page st a b :=
    ⟨s.drawFree.2.drawFree.2, s.drawFree.1, s.drawFree.2.drawFree.1, fun _ => rfl, rfl, rfl⟩
  rw [captured, State.captureFn_page_self, same]
  exact ⟨rfl, rfl, fun k hk => (State.captureFn_page_ne t fn page st a b (by simpa using hk)).trans (same k), regs⟩

/-! ### Events -/

/-- A number with the bits of a mask taken away keeps its other bits. -/
theorem testBit_sub_and (e m b : Nat) : (e - (e &&& m)).testBit b = (e.testBit b && !m.testBit b) := by
  induction b generalizing e m with
  | zero =>
    have low : (e &&& m) % 2 = (e % 2) &&& (m % 2) := Nat.and_mod_two_pow (n := 1)
    have le : e &&& m ≤ e := Nat.and_le_left
    generalize e &&& m = x at low le
    rw [Bool.eq_iff_iff]
    simp only [Nat.testBit_zero, Bool.and_eq_true, Bool.not_eq_true', decide_eq_true_eq, decide_eq_false_iff_not]
    rcases Nat.mod_two_eq_zero_or_one e with he | he <;> rcases Nat.mod_two_eq_zero_or_one m with hm | hm <;> rw [he, hm] at low <;>
      simp only [Nat.and_self, Nat.and_zero, Nat.zero_and] at low <;> omega
  | succ b ih =>
    have half : (e - (e &&& m)) / 2 = e / 2 - (e / 2 &&& m / 2) := by
      have low : (e &&& m) % 2 = (e % 2) &&& (m % 2) := Nat.and_mod_two_pow (n := 1)
      have low_le : (e % 2) &&& (m % 2) ≤ e % 2 := Nat.and_le_left
      have high : (e &&& m) / 2 = e / 2 &&& m / 2 := Nat.and_div_two
      have le : e &&& m ≤ e := Nat.and_le_left
      omega
    rw [Nat.testBit_succ, Nat.testBit_succ, Nat.testBit_succ, half, ih]

/-- R10. EVT_STAT after a clear of the bits of `mask`, with new edges, of a page whose event bits are `bits`. -/
def evtCleared (old mask edges bits : Nat) : Nat := (old - (old &&& (mask &&& bits))) ||| (edges &&& (mask &&& bits))

/-- R10. A written event bit shows its new edge alone; the others stay. -/
theorem evtCleared_bit {bits b : Nat} (h : bitOf bits b = true) (old mask edges : Nat) :
    bitOf (evtCleared old mask edges bits) b = if bitOf mask b then bitOf edges b else bitOf old b := by
  simp only [bitOf_eq_testBit] at h ⊢
  unfold evtCleared
  simp only [Nat.testBit_or, testBit_sub_and, Nat.testBit_and, h]
  cases mask.testBit b <;> simp

/-- R10, R440. EVT_STAT_CLEAR by a function that may clear a page other than a chain's: the copy's EVT_STAT takes its new value, and messages may go out. -/
theorem exec_evtStatClear {fn page : Nat} {s : State} (reach : s.Reaches fn page) (impl : implemented page = true) (may : mayClear fn page false = true)
    (h : page < 0x221 ∨ 0x228 < page) (mask edges : Nat) : ∃ t, exec (.evtStatClear fn page mask edges) s = .next t ∧
      SentOnly ((s.fuseTouch page).setPage (pageKey fn page)
        { s.page (pageKey fn page) with evtStat := evtCleared (s.page (pageKey fn page)).evtStat mask edges (evtMask page) }) t := by
  have noChain : ¬(0x221 ≤ page ∧ page ≤ 0x228 ∧ (s.fuseTouch page).wmSummary (page - 0x220) = true) := by omega
  change ∃ t, execEvtStatClear fn page mask edges s = .next t ∧ _
  unfold execEvtStatClear
  rw [mmio_reaches reach]
  simp only [impl, may, Bool.not_true, Bool.or_self, Bool.false_eq_true, if_false, fuseTouch_page, if_neg noChain, Nat.or_zero]
  refine ⟨_, rfl, ?_⟩
  split
  · exact sendMsgs_sent _ page _
  · exact SentOnly.refl _

/-! ### Gates -/

/-- R51. QUIESCE_REQ of a page takes a value, and a 0 clears QUIESCED. -/
theorem gate_page (s : State) (page : Nat) (req : Bool) :
    (s.gate page req).page page = { s.page page with quiesceReq := req, quiesced := req && (s.page page).quiesced } :=
  State.page_setPage_self _ _ _

theorem gate_only (s : State) (page : Nat) (req : Bool) : OnlyPages [page] s (s.gate page req) := onlyPages_setPage _ _ _

theorem gate_quiet (s : State) (page k : Nat) (req : Bool) : (s.gate page req).quiet k = if k = page then req else s.quiet k := by
  unfold State.quiet
  split
  · next e => rw [e, gate_page]
  · next e => rw [gate_only s page req k (by simpa using e)]

/-- R145. The gates of a list of a core's pages close. -/
theorem gates_quiet (base : Nat) (qs : List Nat) (s : State) (k : Nat) :
    (qs.foldl (fun t q => t.gate (base + q) true) s).quiet k = (decide (k ∈ qs.map (base + ·)) || s.quiet k) := by
  induction qs generalizing s with
  | nil => simp
  | cons q qs ih =>
    rw [List.foldl_cons, ih, gate_quiet]
    by_cases h : k = base + q <;> simp [h]

/-- R51. A page outside the cores closes its own gate alone. -/
theorem closePage_gate {page : Nat} (h : ¬(0x100 ≤ page ∧ page < 0x200)) (s : State) : s.closePage page = s.gate page true := by
  unfold State.closePage
  rw [if_neg h]

/-- R51. A page that nothing waits for opens its own gate alone. -/
theorem openPage_gate {page : Nat} (h : page < 0x100 ∨ 0x200 < page ∧ page < 0x320 ∨ 0x328 < page) (hg : page ≠ 0x680) (s : State) :
    s.openPage page = s.gate page false := by
  unfold State.openPage
  rw [if_neg (by omega)]
  dsimp only
  rw [if_neg (by omega), if_neg (by omega), if_neg (by omega), if_neg hg]

/-! ### A core with no task -/

theorem slotRefresh_work (s : State) (core slot : Nat) : (s.slotRefresh core slot).work = s.work :=
  (State_slotRefresh_good core slot (good_self s (· != .regs)) rfl).same .work rfl

theorem settleSlots_pages (s : State) (n : Nat) : (s.settleSlots n).pages = s.pages :=
  (State_settleSlots_good n (good_self s (fun x => x != .regs && x != .work)) rfl rfl).same .pages rfl

/-- R145, R212. Settling a core's slots leaves the tasks in them. -/
theorem settleSlots_running (s : State) (n core slot : Nat) : (s.settleSlots n).running core slot = s.running core slot := by
  unfold State.settleSlots State.running
  dsimp only
  rw [foldl_exists (fun a b => b.work = a.work) (fun _ => rfl) (fun _ _ _ h h' => h'.trans h) _ (fun t i => slotRefresh_work t n i)]

/-- R146. A slot without a task has none to preempt. -/
theorem preemptSlot_empty {s : State} {core slot : Nat} (h : s.running core slot = none) : s.preemptSlot core slot = s := by
  simp [State.preemptSlot, State.reloadNow, h]

/-- R145. The quiesce of a core without a task settles its slots and preempts nothing. -/
theorem closeSequencer_empty {s : State} {n : Nat} (h : s.sequencerEmpty n = true) : s.closeSequencer n = s.settleSlots n := by
  have empty (i : Nat) (hi : i < 4) : (s.settleSlots n).running n i = none := by
    rw [settleSlots_running]
    simp only [State.sequencerEmpty, Bool.and_eq_true, List.all_eq_true, List.mem_range, Option.isNone_iff_eq_none] at h
    exact h.1 i hi
  unfold State.closeSequencer
  dsimp only
  split
  · simp only [List.range, List.range.loop, List.foldl]
    rw [preemptSlot_empty (empty 0 (by decide)), preemptSlot_empty (empty 1 (by decide)), preemptSlot_empty (empty 2 (by decide)), preemptSlot_empty (empty 3 (by decide))]
  · rfl

/-! ### ENABLE and LOCK -/

/-- R613. ENABLE of a page that is not an array's. -/
theorem enablePage_other {page : Nat} (h : isArrayPage page = false) (s : State) (en : Bool) : s.enablePage page en = s.setPage page { s.page page with enable := en } := by
  simp [State.enablePage, h]

/-- R613, R627. ENABLE written by the PF to a page that is not an array's. -/
theorem exec_blkEnable {page : Nat} {s : State} (isOn : s.pageOn page = true) (impl : implemented page = true) (h : isArrayPage page = false) (en : Bool) :
    exec (.blkEnable 0 page en) s = .next ((s.fuseTouch page).setPage page { s.page page with enable := en }) := by
  show execBlkEnable 0 page en s = _
  unfold execBlkEnable
  rw [mmio_reaches (reaches_manager isOn)]
  simp [impl, h, enablePage_other]

/-- R620, R627. LOCK written by the PF. -/
theorem exec_blkLock {page : Nat} {s : State} (isOn : s.pageOn page = true) (impl : implemented page = true) :
    exec (.blkLock 0 page) s = .next ((s.fuseTouch page).setPage page { s.page page with lock := true }) := by
  show execBlkLock 0 page s = _
  unfold execBlkLock
  rw [mmio_reaches (reaches_manager isOn)]
  simp [impl]

/-- The pages of the cores that the map implements. -/
theorem implemented_core {page : Nat} (low : 0x100 ≤ page) (high : page < 0x200) (unit : page % 16 ≤ 10) : implemented page = true := by
  simp [implemented, low, high, unit]

/-- R529. The domain of a core's page is its group's. -/
theorem domainOf_core {page : Nat} (low : 0x100 ≤ page) (high : page < 0x200) : domainOf page = if page < 0x180 then 5 else 6 := by
  unfold domainOf
  rw [if_neg (by omega), if_pos high]

/-- R113. The page of an array of a core: one that the map implements, of the core's domain. -/
theorem arrayPage_facts {n a : Nat} (hn : n < 16) (ha : a < 4) (s : State) :
    isArrayPage (arrayPage n a) = true ∧ implemented (arrayPage n a) = true ∧ arrayPage n a / 16 - 16 = n ∧ arrayPage n a % 16 - 1 = a ∧
      s.pageOn (arrayPage n a) = s.coreOn n := by
  have core : arrayPage n a / 16 - 16 = n := by unfold arrayPage; omega
  have array : arrayPage n a % 16 - 1 = a := by unfold arrayPage; omega
  have inCore : 0x100 ≤ arrayPage n a ∧ arrayPage n a < 0x200 ∧ 1 ≤ arrayPage n a % 16 ∧ arrayPage n a % 16 ≤ 4 := by unfold arrayPage; omega
  obtain ⟨low, high, first, last⟩ := inCore
  refine ⟨by simp [isArrayPage, low, high, first, last], implemented_core low high (by omega), core, array, ?_⟩
  unfold State.coreOn State.pageOn
  rw [domainOf_core low high, domainOf_core (by omega) (by omega)]
  congr 2
  unfold arrayPage
  rw [eq_iff_iff]
  omega

/-- R105. Whether an array's page shows ENABLE. -/
theorem blkEnabled_array {n a : Nat} (hn : n < 16) (ha : a < 4) (s : State) : s.blkEnabled (arrayPage n a) = s.on (MA_CAP_IN_SERVICE n a) := by
  obtain ⟨isArray, -, core, array, -⟩ := arrayPage_facts hn ha s
  simp only [isArrayPage, Bool.and_eq_true, decide_eq_true_eq] at isArray
  unfold State.blkEnabled
  rw [if_pos (by omega), core, array]

/-- R105. An array that leaves service is out of it, and its steps' units follow. -/
theorem retired_array (s : State) (n a : Nat) : ((s.setService n a false).rehome n).on (MA_CAP_IN_SERVICE n a) = false := by
  have regs : ((s.setService n a false).rehome n).regs = (s.setService n a false).regs :=
    (State_rehome_good n (good_self _ (· != .work)) rfl).same .regs rfl
  have notCap : (MA_CAP_IN_SERVICE n a).key ≠ (CORE_CAP_ARRAYS n).key := by
    unfold Field.key MA_CAP_IN_SERVICE CORE_CAP_ARRAYS
    dsimp only
    omega
  have notShadow : (MA_CAP_IN_SERVICE n a).key ≠ (MA_SHADOW_ACTIVE n a).key := by
    unfold Field.key MA_CAP_IN_SERVICE MA_SHADOW_ACTIVE
    dsimp only
    omega
  unfold State.on
  rw [State.get_of_regs regs]
  unfold State.setService
  rw [State.get_flag_ne notShadow, State.get_set_ne notCap, State.get_flag_self]
  rfl

/-- R105. ENABLE = 0 written by the PF to an in-service array: retired where the page is quiesced, else refused. -/
theorem exec_blkEnable_array {n a : Nat} (hn : n < 16) (ha : a < 4) {s : State} (isOn : s.coreOn n = true) (serves : s.on (MA_CAP_IN_SERVICE n a) = true) :
    exec (.blkEnable 0 (arrayPage n a) false) s = .next (if (s.page (arrayPage n a)).quiesced then (s.setService n a false).rehome n
      else s.refuseWrite 0 (4096 * arrayPage n a + 0x10) 0) := by
  obtain ⟨isArray, impl, core, array, sameDomain⟩ := arrayPage_facts hn ha s
  have enabled := (blkEnabled_array hn ha s).trans serves
  have notFuse : arrayPage n a ≠ 3 := by unfold arrayPage; omega
  show execBlkEnable 0 (arrayPage n a) false s = _
  unfold execBlkEnable
  rw [mmio_reaches (reaches_manager (sameDomain.trans isOn))]
  simp only [impl, isArray, enabled, fuseTouch_other notFuse, State.enablePage, core, array]
  cases (s.page (arrayPage n a)).quiesced <;> rfl

/-! ### The commands of a function other than the PF -/

theorem blkEnable_ignored {fn page : Nat} {s : State} (isOn : s.pageOn page = true) (other : fn ≠ 0) (en : Bool) : exec (.blkEnable fn page en) s = .next s := by
  show execBlkEnable fn page en s = _
  unfold execBlkEnable
  exact mmio_ignored isOn (by simp [other])

theorem blkLock_ignored {fn page : Nat} {s : State} (isOn : s.pageOn page = true) (other : fn ≠ 0) : exec (.blkLock fn page) s = .next s := by
  show execBlkLock fn page s = _
  unfold execBlkLock
  exact mmio_ignored isOn (by simp [other])

theorem softReset_ignored {fn page : Nat} {s : State} (isOn : s.pageOn page = true) (other : fn ≠ 0) (v : Nat) : exec (.softReset fn page v) s = .next s := by
  show execSoftReset fn page v s = _
  unfold execSoftReset
  exact mmio_ignored isOn (by simp [other])

theorem quiesceReq_ignored {fn page : Nat} {s : State} (isOn : s.pageOn page = true) (other : fn ≠ 0) (req : Bool) : exec (.quiesceReq fn page req) s = .next s := by
  show execQuiesceReq fn page req s = _
  unfold execQuiesceReq
  exact mmio_ignored isOn (by simp [other])

/-! ### The page reset -/

/-- R614. SOFT_RESET written by the PF to a page that shows no QUIESCED. -/
theorem exec_softReset_refused {page : Nat} {s : State} (isOn : s.pageOn page = true) (impl : implemented page = true) (h : (s.page page).quiesced = false) (v : Nat) :
    exec (.softReset 0 page v) s = .next ((s.fuseTouch page).refuseWrite 0 (4096 * page + 0x10) v) := by
  show execSoftReset 0 page v s = _
  unfold execSoftReset
  rw [mmio_reaches (reaches_manager isOn)]
  simp [impl, h]

/-- R550. The page reset of a page whose reset has no state beside its fields: its common registers, but for an event that the reset itself brings. -/
theorem softReset_page {page : Nat} (h : page ∈ [0, 4, 0x220, 0x310, 0x400, 0x700]) (s : State) : ∃ e, (s.softReset page).page page =
    { enable := (s.page page).enable, quiesceReq := (s.page page).quiesceReq, quiesced := (s.page page).quiesced, lock := (s.page page).lock, evtStat := e } := by
  have after (t : State) : ∃ e, (t.softAfter s page).page page = { t.page page with evtStat := e } := by
    by_cases pool : page = 0x220
    · subst pool
      exact raiseEdge_page t 0x220 0 _ _ 0x220
    · have plain : t.softAfter s page = t := by
        simp only [List.mem_cons, List.not_mem_nil, or_false] at h
        unfold State.softAfter
        rw [if_neg (by omega), if_neg (by omega), if_neg (by omega), if_neg (by omega), if_neg pool, if_neg (by omega), if_neg (by omega), if_neg (by omega)]
      exact ⟨_, by rw [plain]⟩
  have other : isArrayPage page = false := by
    revert h
    simp only [List.mem_cons, List.not_mem_nil, or_false]
    rintro (rfl | rfl | rfl | rfl | rfl | rfl) <;> rfl
  unfold State.softReset
  dsimp only
  rw [other]
  obtain ⟨e, he⟩ := after (State.setPage _ page _)
  exact ⟨e, he.trans (by rw [State.page_setPage_self])⟩

/-- R550, R614. SOFT_RESET of such a page while it shows QUIESCED: the reset, then ENABLE and QUIESCE_REQ of the word written. -/
theorem exec_softReset {page : Nat} (h : page ∈ [0, 4, 0x220, 0x310, 0x400, 0x700]) {s : State} (isOn : s.pageOn page = true) (hq : (s.page page).quiesced = true) (v : Nat) :
    ∃ t : State, t.page page = { (s.softReset page).page page with enable := bitOf v 0 } ∧ exec (.softReset 0 page v) s = .next (t.gate page (bitOf v 2)) := by
  have facts : page ≠ 1 ∧ page ≠ 3 ∧ isArrayPage page = false ∧ implemented page = true ∧ ¬(0x100 ≤ page ∧ page < 0x200) ∧
      (page < 0x100 ∨ 0x200 < page ∧ page < 0x320 ∨ 0x328 < page) ∧ page ≠ 0x680 := by
    revert h
    simp only [List.mem_cons, List.not_mem_nil, or_false]
    rintro (rfl | rfl | rfl | rfl | rfl | rfl) <;> decide
  obtain ⟨notPower, notFuse, other, impl, noCore, opens, noGroup⟩ := facts
  refine ⟨(s.softReset page).setPage page { (s.softReset page).page page with enable := bitOf v 0 }, State.page_setPage_self _ _ _, ?_⟩
  show execSoftReset 0 page v s = _
  unfold execSoftReset
  rw [mmio_reaches (reaches_manager isOn)]
  simp only [impl, hq, fuseTouch_other notFuse, enablePage_other other, closePage_gate noCore, openPage_gate opens noGroup]
  cases bitOf v 2 <;> simp [notPower]

/-! ### The quiesce -/

/-- R51, R627. QUIESCE_REQ written by the PF to a page outside the cores that nothing waits for. -/
theorem exec_quiesceReq {page : Nat} (h : page < 0x100 ∨ 0x400 ≤ page) (hg : page ≠ 0x680) {s : State} (isOn : s.pageOn page = true) (impl : implemented page = true)
    (req : Bool) : exec (.quiesceReq 0 page req) s = .next ((s.fuseTouch page).gate page req) := by
  show execQuiesceReq 0 page req s = _
  unfold execQuiesceReq
  rw [mmio_reaches (reaches_manager isOn)]
  simp only [impl, closePage_gate (page := page) (by omega), openPage_gate (page := page) (by omega) hg]
  cases req <;> rfl

/-- R145. The gates of all pages of a core close. -/
def closeGates (s : State) (base : Nat) : State := (List.range 16).foldl (fun t q => t.gate (base + q) true) s

theorem gates_work (base : Nat) (qs : List Nat) (s : State) : (qs.foldl (fun t q => t.gate (base + q) true) s).work = s.work := by
  induction qs generalizing s with
  | nil => rfl
  | cons q qs ih => exact ih (s.gate (base + q) true)

theorem closeGates_work (s : State) (base : Nat) : (closeGates s base).work = s.work := gates_work base _ s

theorem closeGates_quiet (s : State) (base : Nat) {q : Nat} (h : q < 16) : (closeGates s base).quiet (base + q) = true := by
  unfold closeGates
  rw [gates_quiet]
  simp [h]

/-- A core's sequencer is empty by its tasks and gets alone. -/
theorem sequencerEmpty_of_work {s t : State} (h : t.work = s.work) (n : Nat) : t.sequencerEmpty n = s.sequencerEmpty n := by
  simp only [State.sequencerEmpty, State.running, h]

/-- R51, R145. The gate of a core's control page closes those of its pages. -/
theorem closePage_core {n : Nat} (hn : n < 16) (s : State) : s.closePage (0x100 + 16 * n) = (closeGates s (0x100 + 16 * n)).closeSequencer n := by
  have core : (0x100 + 16 * n) / 16 - 16 = n := by omega
  have control : (0x100 + 16 * n) % 16 = 0 := by omega
  have inCore : 0x100 ≤ 0x100 + 16 * n ∧ 0x100 + 16 * n < 0x200 := by omega
  unfold State.closePage closeGates
  rw [if_pos inCore, core]
  dsimp only
  rw [if_pos control]

/-- R145. QUIESCE_REQ = 1 written by the PF to the control page of a core with no task. -/
theorem exec_quiesceReq_core {n : Nat} (hn : n < 16) {s : State} (isOn : s.coreOn n = true) (empty : s.sequencerEmpty n = true) :
    exec (.quiesceReq 0 (0x100 + 16 * n) true) s = .next ((closeGates s (0x100 + 16 * n)).settleSlots n) := by
  have impl : implemented (0x100 + 16 * n) = true := implemented_core (by omega) (by omega) (by omega)
  have stillEmpty := (sequencerEmpty_of_work (closeGates_work s (0x100 + 16 * n)) n).trans empty
  have notFuse : 0x100 + 16 * n ≠ 3 := by omega
  show execQuiesceReq 0 (0x100 + 16 * n) true s = _
  unfold execQuiesceReq
  rw [mmio_reaches (reaches_manager isOn), impl, fuseTouch_other notFuse, closePage_core hn, closeSequencer_empty stillEmpty]
  simp

/-- R51. A page that shows QUIESCED for the first time raises its event. -/
theorem quiescedNow_first {s : State} {page b : Nat} (first : (s.page page).quiesced = false) (hb : quiescedBit page = some b) :
    s.quiescedNow page = (s.setPage page { s.page page with quiesced := true }).raise page b := by
  simp [State.quiescedNow, first, hb]

/-- R51. QUIESCED shown with its event: of the pages only this one changes. -/
theorem raise_quiesced (s : State) (page b : Nat) :
    (((s.setPage page { s.page page with quiesced := true }).raise page b).page page).quiesced = true ∧
      (((s.setPage page { s.page page with quiesced := true }).raise page b).page page).quiesceReq = (s.page page).quiesceReq ∧
      bitOf (((s.setPage page { s.page page with quiesced := true }).raise page b).page page).evtStat b = true ∧
      OnlyPages [page] s ((s.setPage page { s.page page with quiesced := true }).raise page b) ∧
      ((s.setPage page { s.page page with quiesced := true }).raise page b).regs = s.regs := by
  generalize marked : s.setPage page { s.page page with quiesced := true } = t
  have self : (t.raise page b).page page = { t.page page with evtStat := (t.page page).evtStat ||| 2 ^ b } := by
    have raised := t.raiseFn_page_self 0 page b
    rwa [pageKey_manager] at raised
  have shown := t.raise_shows page b
  unfold State.shows at shown
  rw [pageKey_manager] at shown
  have others : OnlyPages [page] t (t.raise page b) := fun k hk => t.raiseFn_page_ne 0 page b (by simpa using hk)
  have page_t : t.page page = { s.page page with quiesced := true } := by rw [← marked, State.page_setPage_self]
  refine ⟨by rw [self, page_t], by rw [self, page_t], shown, onlyPages_trans ?_ others, ?_⟩
  · rw [← marked]
    exact onlyPages_setPage _ _ _
  · rw [State.raise_regs, ← marked, State.setPage_regs]

/-- R51, R52. A quiesced page reaches its boundary. -/
theorem exec_quiesceDone {page : Nat} {s : State} (awake : s.Awake page) (impl : implemented page = true) (closed : s.quiet page = true)
    (first : (s.page page).quiesced = false) (boundary : s.atBoundary page = true) :
    exec (.quiesceDone page) s = .next ((if page = 0x200 then s.spillHeaders else s).quiescedNow page) := by
  show execQuiesceDone page s = _
  unfold execQuiesceDone
  rw [event_awake awake]
  simp [impl, closed, first, boundary]

/-- R48, R52. No boundary, or a stalled fabric: no QUIESCED. -/
theorem exec_quiesceDone_early {page : Nat} {s : State} (h : s.atBoundary page = false ∨ (s.stall = true ∧ fabricPage page = true)) :
    exec (.quiesceDone page) s = .next s := by
  show execQuiesceDone page s = _
  unfold execQuiesceDone event
  rcases h with early | ⟨stalled, fabric⟩
  · simp [early]
  · simp [halted, stalled, fabric]

/-! ### The obligation -/

/-- Settles O52: each command by the rule of its register above. -/
theorem commonLayoutCommands : Obligations.CommonLayoutCommands := by
  refine ⟨?clear, ?clearEdge, ?events, ?enable, ?retire, ?retireRefused, ?lock, ?others, ?resetRefused, ?reset, ?gate, ?core, ?done, ?sched, ?early⟩
  case clear =>
    intro fn page s reach impl may
    refine .of_next (exec_errCodeClr reach impl may none) ⟨?_, ?_, ?_, ?_, ?_, clearErr_only s fn page, clearErr_regs s fn page⟩ <;> rw [clearErr_page] <;> rfl
  case clearEdge =>
    intro fn page st s reach impl may
    obtain ⟨code, count, only, regs⟩ := captureOpen_captures (clearErr s fn page) fn page st
    refine .of_next (exec_errCodeClr reach impl may (some st)) ⟨code, ?_, onlyPages_trans (clearErr_only s fn page) only, regs.trans (clearErr_regs s fn page)⟩
    rw [count, clearErr_page]
    rfl
  case events =>
    intro fn page mask edges b s reach impl may noChain isEvent
    obtain ⟨t, run, sent⟩ := exec_evtStatClear reach impl may noChain mask edges
    refine .of_next run ⟨?_, ?_, ?_⟩
    · rw [SentOnly_page sent, State.page_setPage_self]
      exact evtCleared_bit isEvent _ _ _
    · exact onlyPages_trans (onlyPages_of_page (fuseTouch_page s page)) (onlyPages_trans (onlyPages_setPage _ _ _) (onlyPages_of_page (SentOnly_page sent)))
    · rw [SentOnly_regs sent, State.setPage_regs, fuseTouch_regs]
  case enable =>
    intro page en s isOn impl other
    exact .of_next (exec_blkEnable isOn impl other en) ⟨State.page_setPage_self _ _ _,
      onlyPages_trans (onlyPages_of_page (fuseTouch_page s page)) (onlyPages_setPage _ _ _), fuseTouch_regs s page⟩
  case retire =>
    intro n a s hn ha isOn serves quiesced
    exact .of_next ((exec_blkEnable_array hn ha isOn serves).trans (by rw [if_pos quiesced])) (retired_array s n a)
  case retireRefused =>
    intro n a s hn ha isOn serves running
    rw [exec_blkEnable_array hn ha isOn serves, running]
    rfl
  case lock =>
    intro page s isOn impl
    exact .of_next (exec_blkLock isOn impl) ⟨State.page_setPage_self _ _ _,
      onlyPages_trans (onlyPages_of_page (fuseTouch_page s page)) (onlyPages_setPage _ _ _), fuseTouch_regs s page⟩
  case others =>
    intro fn page v en req s isOn other
    exact ⟨blkEnable_ignored isOn other en, blkLock_ignored isOn other, softReset_ignored isOn other v, quiesceReq_ignored isOn other req⟩
  case resetRefused =>
    intro page v s isOn impl running
    exact exec_softReset_refused isOn impl running v
  case reset =>
    intro page v s listed isOn quiesced
    obtain ⟨t, enabled, run⟩ := exec_softReset listed isOn quiesced v
    obtain ⟨e, reset⟩ := softReset_page listed s
    rw [reset] at enabled
    refine .of_next run ⟨?_, ?_⟩
    · rw [gate_quiet, if_pos rfl]
    · rw [gate_page, enabled]
      exact ⟨rfl, rfl, rfl, rfl, rfl, rfl⟩
  case gate =>
    intro page req s isOn impl region noGroup
    refine .of_next (exec_quiesceReq region noGroup isOn impl req) ⟨?_, ?_, fuseTouch_regs s page⟩
    · rw [gate_page, fuseTouch_page]
    · exact onlyPages_trans (onlyPages_of_page (fuseTouch_page s page)) (gate_only _ _ _)
  case core =>
    intro n s hn isOn empty
    refine .of_next (exec_quiesceReq_core hn isOn empty) fun q hq => ?_
    unfold State.quiet
    rw [State.page_of_pages (settleSlots_pages _ n)]
    exact closeGates_quiet s _ hq
  case done =>
    intro page b s awake impl noSched closed first boundary hb
    refine .of_next ((exec_quiesceDone awake impl closed first boundary).trans (by rw [if_neg noSched, quiescedNow_first first hb])) ?_
    obtain ⟨quiesced, req, shown, only, regs⟩ := raise_quiesced s page b
    exact ⟨quiesced, req.trans closed, shown, only, regs⟩
  case sched =>
    intro s awake closed first boundary
    exact exec_quiesceDone awake rfl closed first boundary
  case early =>
    intro page s h
    exact exec_quiesceDone_early h

end Sys2Proof.Proofs

/-!
One step of the device (R29, R31, R125): the front command of the queue, and what an empty queue with no command withheld gives way to.
-/

namespace Sys2Proof.Proofs

open Sys2Proof.Machine

theorem step_front {c : Instr} {q : List Instr} {s : State} (h : s.pending = c :: q) : step s = exec c (s.withPending q) := by
  unfold step
  rw [h]

/-- With no command queued or withheld, a step is what the links, the cores and the clock do. -/
theorem step_idle {s : State} (queue : s.pending = []) (held : s.held = []) : step s = s.release [] [] := by
  unfold step
  rw [queue, held]

/-- Settles O53: the queue's front decides the step. -/
theorem stepTakesTheFrontCommand : Obligations.StepTakesTheFrontCommand :=
  fun _ _ _ h => step_front h

/-- Settles O54: with nothing withheld, the release is the first of the four that can act. -/
theorem idleStepsReleaseFetchAndPassTime : Obligations.IdleStepsReleaseFetchAndPassTime := by
  refine ⟨?port, ?core, ?fetch, ?clock⟩
  case port =>
    intro p s queue held port
    rw [step_idle queue held, State.release, port]
  case core =>
    intro n s queue held port core
    rw [step_idle queue held, State.release, port, core]
  case fetch =>
    intro n i s queue held port core fetch
    rw [step_idle queue held, State.release, port, core, fetch]
  case clock =>
    intro s queue held port core fetch
    rw [step_idle queue held, State.release, port, core, fetch]

end Sys2Proof.Proofs

/-!
The timebase and the throttle stall (R34 to R53, R595, R632): what passing time, a load, an accepted edge and a correction change of the registers, the count and the
events; then the commands that are made of them.
-/

namespace Sys2Proof.Proofs

open Sys2Proof.Machine Sys2Proof.Laws

/-! ### Frames -/

/-- A command that answers a next state changes the named parts alone, where they are among those that it may change. -/
theorem onlyParts_of_exec {c : Instr} {s t : State} (run : exec c s = .next t) {ps : List Part} (h : ∀ p ∈ mayChange c, p ∈ ps) : OnlyParts ps s t :=
  (commandsLeaveOtherPartsAlone c s t run).mono h

/-- A register outside those that may differ reads the same. -/
theorem on_of_onlyRegs {fs : List Field} {s t : State} (h : OnlyRegs fs s t) {f : Field} (hf : f.key ∉ fs.map Field.key) : t.on f = s.on f := by
  unfold State.on
  rw [h f hf]

theorem onlyRegs_flag {fs : List Field} {s t : State} (h : OnlyRegs fs s t) {f : Field} (hf : f ∈ fs) (b : Bool) : OnlyRegs fs s (t.flag f b) :=
  OnlyRegs.set h hf _

theorem onlyRegs_mono {fs gs : List Field} {s t : State} (hs : ∀ f ∈ fs, f ∈ gs) (h : OnlyRegs fs s t) : OnlyRegs gs s t := by
  refine fun g hg => h g fun hm => hg ?_
  obtain ⟨f, hf, e⟩ := List.mem_map.mp hm
  exact e ▸ List.mem_map_of_mem (hs f hf)

theorem setTime_only (s : State) (x : Timebase) : OnlyParts [.time] s { s with time := x } := by
  intro p hp
  cases p <;> first | exact Eq.refl _ | exact ⟨rfl, rfl, rfl⟩ | exact absurd (by decide) hp

/-! ### Events that show stay shown -/

/-- Every event bit that shows in the one state shows in the other. -/
def KeepsShown (s t : State) : Prop := ∀ fn page bit, s.shows fn page bit = true → t.shows fn page bit = true

theorem KeepsShown.refl (s : State) : KeepsShown s s := fun _ _ _ h => h

theorem KeepsShown.trans {s t u : State} (h : KeepsShown s t) (h' : KeepsShown t u) : KeepsShown s u :=
  fun fn page bit hs => h' fn page bit (h fn page bit hs)

/-- R619. An event sets bits of EVT_STAT and clears none. -/
theorem raiseFn_keepsShown (s : State) (fn page bit : Nat) : KeepsShown s (s.raiseFn fn page bit) := by
  intro g p b h
  unfold State.shows at h ⊢
  by_cases same : pageKey g p = pageKey fn page
  · rw [same] at h ⊢
    rw [State.raiseFn_page_self, bitOf_eq_testBit, Nat.testBit_or, ← bitOf_eq_testBit, h, Bool.true_or]
  · rw [State.raiseFn_page_ne s fn page bit same, h]

theorem raiseFns_keepsShown (page bit : Nat) (fns : List Nat) (s : State) : KeepsShown s (fns.foldl (fun t f => t.raiseFn f page bit) s) :=
  foldl_exists KeepsShown KeepsShown.refl (fun _ _ _ => KeepsShown.trans) _ (fun t f => raiseFn_keepsShown t f page bit) _ s

/-- A chip-wide event hides none that showed before it. -/
theorem KeepsShown.raiseAll {s t : State} (h : t.pages = s.pages) (page bit : Nat) : KeepsShown s (t.raiseAll page bit) := by
  refine KeepsShown.trans (fun fn q b hs => ?_) (raiseFns_keepsShown page bit _ t)
  unfold State.shows at hs ⊢
  rw [State.page_of_pages h, hs]

/-- R628. A chip-wide event shows in the PF's copy of its page. -/
theorem raiseAll_shows (s : State) (page bit : Nat) : (s.raiseAll page bit).shows 0 page bit = true :=
  raiseFns_keepsShown page bit (List.range' 1 8) (s.raiseFn 0 page bit) 0 page bit (s.raiseFn_shows 0 page bit)

/-! ### Time that passes (R37, R40) -/

/-- The count that moves forward keeps the recorded edges. -/
theorem forward_edges (t : Timebase) (u : Nat) : (t.forward u).rise = t.rise ∧ (t.forward u).accepted = t.accepted := ⟨rfl, rfl⟩

/-- R40. Of the registers, passing time changes FREEZE. -/
theorem pass_onlyRegs (s : State) (clocks : Nat) : OnlyRegs [TB_STAT_FREEZE] s (s.pass clocks) :=
  fun _ hg => State.get_flag_ne (by simpa using hg) _ _

/-- R40. A hold absorbs its share of the time that passes. -/
theorem pass_hold (s : State) (clocks : Nat) : (s.pass clocks).time.hold = s.time.hold - min (clocks * s.tbIncrement) s.time.hold := rfl

/-- Passing time keeps the recorded edges. -/
theorem pass_edges (s : State) (clocks : Nat) : (s.pass clocks).time.rise = s.time.rise ∧ (s.pass clocks).time.accepted = s.time.accepted :=
  forward_edges _ (clocks * s.tbIncrement - min (clocks * s.tbIncrement) s.time.hold)

/-- R40. FREEZE shows whether a hold remains. -/
theorem pass_freeze (s : State) (clocks : Nat) : (s.pass clocks).on TB_STAT_FREEZE = decide (0 < (s.pass clocks).time.hold) :=
  State.on_flag_self rfl _ _

/-- R40. A hold ends after the clocks that cover it, and FREEZE clears. -/
theorem pass_ends_hold {s : State} (runs : s.tbIncrement ≠ 0) : (s.pass ((s.time.hold + s.tbIncrement - 1) / s.tbIncrement)).time.hold = 0 ∧
    (s.pass ((s.time.hold + s.tbIncrement - 1) / s.tbIncrement)).on TB_STAT_FREEZE = false := by
  have covers : s.time.hold ≤ (s.time.hold + s.tbIncrement - 1) / s.tbIncrement * s.tbIncrement := by
    rw [← Nat.ceilDiv_eq_add_pred_div, Nat.mul_comm]
    exact le_smul_ceilDiv (Nat.pos_of_ne_zero runs)
  rw [pass_freeze, pass_hold, Nat.min_eq_right covers, Nat.sub_self]
  exact ⟨rfl, rfl⟩

/-! ### A load (R35) -/

/-- R35. The value that a load takes is normalised. -/
theorem loadValue_normal (s : State) : s.loadValue.sec < 2 ^ 48 ∧ s.loadValue.ns < 1000000000 := by
  unfold State.loadValue
  dsimp only
  omega

/-- Nothing passes on a normalised count. -/
theorem forward_zero {t : Timebase} (sec : t.sec < 2 ^ 48) (ns : t.ns < 1000000000) (frac : t.frac = 0) : t.forward 0 = t := by
  obtain ⟨sec', ns', frac', hold, clocks, rise, accepted, lastTick⟩ := t
  simp only at sec ns frac
  subst frac
  simp only [Timebase.forward, Nat.add_zero, Nat.zero_div, Nat.zero_mod, Nat.mod_eq_of_lt ns, Nat.div_eq_of_lt ns, Nat.mod_eq_of_lt sec]

/-- R35. The count from which a load restarts, with no hold. -/
def loadedTime (s : State) : Timebase := { s.time with sec := s.loadValue.sec, ns := s.loadValue.ns, frac := 0, hold := 0 }

/-- R35. A load restarts the count, and what has passed since its instant passes. -/
theorem load_time (s : State) (clocksBack : Nat) : (s.load clocksBack).time = (loadedTime s).forward (clocksBack * s.tbIncrement) :=
  State.raiseAll_time _ 2 1

theorem load_rise (s : State) (clocksBack : Nat) : (s.load clocksBack).time.rise = s.time.rise := by
  rw [load_time]
  exact (forward_edges _ _).1

/-- R35. A load made at once takes its value. -/
theorem load_time_now (s : State) : (s.load 0).time = loadedTime s := by
  rw [load_time, Nat.zero_mul]
  exact forward_zero (loadValue_normal s).1 (loadValue_normal s).2 rfl

theorem load_onlyRegs (s : State) (clocksBack : Nat) : OnlyRegs [TB_STAT_ARMED, TB_STAT_FREEZE, TB_STAT_LOADED_ONCE] s (s.load clocksBack) := by
  unfold State.load
  refine OnlyRegs.of_regs (onlyRegs_flag (onlyRegs_flag (onlyRegs_flag ?_ ?_ _) ?_ _) ?_ _) (State.raiseAll_regs _ 2 1)
  · exact OnlyRegs.refl _ s
  all_goals simp

/-- R35. A load disarms. -/
theorem load_armed (s : State) (clocksBack : Nat) : (s.load clocksBack).on TB_STAT_ARMED = false := by
  unfold State.load State.on
  rw [State.raiseAll_get, State.get_flag_ne (by decide), State.get_flag_ne (by decide), State.get_flag_self]
  rfl

/-- R35. After a load the timebase has been loaded once. -/
theorem load_loadedOnce (s : State) (clocksBack : Nat) : (s.load clocksBack).on TB_STAT_LOADED_ONCE = true := by
  unfold State.load
  rw [State.raiseAll_on, State.on_flag_self rfl]

/-- R35. A load raises LOADED. -/
theorem load_shows (s : State) (clocksBack : Nat) : (s.load clocksBack).shows 0 2 1 = true := raiseAll_shows _ 2 1

theorem load_keepsShown (s : State) (clocksBack : Nat) : KeepsShown s (s.load clocksBack) := by
  unfold State.load
  exact KeepsShown.raiseAll (by rfl) 2 1

/-! ### An accepted edge and its correction (R39 to R41) -/

/-- R39. An accepted edge locks, ends a holdover and counts. -/
theorem acceptEdge_status (s : State) (clock : Nat) : (s.acceptEdge clock).on TB_STAT_LOCKED = true ∧ (s.acceptEdge clock).on TB_STAT_HOLDOVER = false ∧
    (s.acceptEdge clock).get TB_EDGE_CNT = (s.get TB_EDGE_CNT + 1) % 2 ^ 32 := by
  unfold State.acceptEdge State.on
  refine ⟨?_, ?_, ?_⟩
  · rw [State.get_add_ne (by decide), State.get_flag_ne (by decide), State.get_flag_self]
    rfl
  · rw [State.get_add_ne (by decide), State.get_flag_self]
    rfl
  · rw [State.get_add_self, State.get_flag_ne (by decide), State.get_flag_ne (by decide)]
    rfl

theorem acceptEdge_rise (s : State) (clock : Nat) : (s.acceptEdge clock).time.rise = s.time.rise := rfl

theorem acceptEdge_onlyRegs (s : State) (clock : Nat) : OnlyRegs [TB_STAT_LOCKED, TB_STAT_HOLDOVER, TB_EDGE_CNT] s (s.acceptEdge clock) := by
  unfold State.acceptEdge
  refine OnlyRegs.set (onlyRegs_flag (onlyRegs_flag ?_ ?_ _) ?_ _) ?_ _
  · exact OnlyRegs.refl _ s
  all_goals simp

/-- R40. A correction moves the count, or holds it with FREEZE and an event; the edges stay as they are recorded. -/
theorem correct_cases (s : State) (err : Int) : ∃ x : Timebase, x.rise = s.time.rise ∧ x.accepted = s.time.accepted ∧
    (s.correct err = { s with time := x } ∨ s.correct err = (({ s with time := x }).flag TB_STAT_FREEZE true).raiseAll 2 6) := by
  unfold State.correct
  rcases lt_trichotomy err 0 with slow | exact | fast
  · obtain ⟨rise, accepted⟩ := forward_edges s.time (err.natAbs * 10000000000)
    exact ⟨s.time.forward (err.natAbs * 10000000000), rise, accepted, .inl (if_pos slow)⟩
  · exact ⟨s.time, rfl, rfl, .inl (by rw [if_neg (by omega), if_pos exact])⟩
  · exact ⟨{ s.time with hold := s.time.hold + err.natAbs * 10000000000 }, rfl, rfl, .inr (by rw [if_neg (by omega), if_neg (by omega)])⟩

theorem correct_onlyRegs (s : State) (err : Int) : OnlyRegs [TB_STAT_FREEZE] s (s.correct err) := by
  obtain ⟨x, -, -, moved | held⟩ := correct_cases s err
  · rw [moved]
    exact fun _ _ => rfl
  · rw [held]
    refine OnlyRegs.of_regs (onlyRegs_flag (t := { s with time := x }) ?_ (List.mem_singleton_self _) _) (State.raiseAll_regs _ 2 6)
    exact fun _ _ => rfl

theorem correct_keepsShown (s : State) (err : Int) : KeepsShown s (s.correct err) := by
  obtain ⟨x, -, -, moved | held⟩ := correct_cases s err
  · rw [moved]
    exact fun _ _ _ h => h
  · rw [held]
    exact KeepsShown.raiseAll (by rfl) 2 6

theorem correct_edges (s : State) (err : Int) : (s.correct err).time.rise = s.time.rise ∧ (s.correct err).time.accepted = s.time.accepted := by
  obtain ⟨x, rise, accepted, moved | held⟩ := correct_cases s err
  · rw [moved]
    exact ⟨rise, accepted⟩
  · rw [held, State.raiseAll_time]
    exact ⟨rise, accepted⟩

/-! ### An edge acted on (R38, R39) -/

/-- R39. The error of an edge depends on TB_OFFSET and the captured time alone. -/
theorem ppsError_of_onlyRegs {fs : List Field} {s t : State} (h : OnlyRegs fs s t) (hf : TB_OFFSET.key ∉ fs.map Field.key) (captured : Ts) :
    ppsError t captured = ppsError s captured := by
  unfold ppsError
  rw [h TB_OFFSET hf]

/-- R38. A pending edge is acted on 1 µs later, in a state where no edge is pending: of the registers time has changed FREEZE. -/
theorem exec_ppsEdge {captured : Ts} {clock : Nat} {s : State} (rise : s.time.rise = some (captured, clock)) (enabled : s.on TB_CTRL_PPS_EN = true) :
    ∃ u, exec .ppsEdge s = .next (u.actOnEdge captured clock) ∧ u.time.rise = none ∧ u.time.accepted = s.time.accepted ∧ OnlyRegs [TB_STAT_FREEZE] s u := by
  refine ⟨{ s.passTo (clock + 1250) with time := { (s.passTo (clock + 1250)).time with rise := none } }, ?_, rfl, ?_, pass_onlyRegs s _⟩
  · show execPpsEdge s = _
    unfold execPpsEdge
    rw [rise]
    simp only [enabled, Bool.not_true, Bool.false_eq_true, if_false]
  · exact (pass_edges s (clock + 1250 - s.time.clocks)).2

/-- R39. The state in which an edge's PPS_EDGE and error show. -/
def edgeSeen (s : State) (captured : Ts) : State := (s.raiseAll 2 0).set TB_PPS_ERR (toSigned32 (ppsError s captured))

theorem edgeSeen_shows (s : State) (captured : Ts) : (edgeSeen s captured).shows 0 2 0 = true := raiseAll_shows s 2 0

theorem edgeSeen_time (s : State) (captured : Ts) : (edgeSeen s captured).time = s.time := State.raiseAll_time s 2 0

theorem edgeSeen_error (s : State) (captured : Ts) : (edgeSeen s captured).get TB_PPS_ERR = toSigned32 (ppsError s captured) % 2 ^ 32 := State.get_set_self _ _ _

theorem edgeSeen_onlyRegs (s : State) (captured : Ts) : OnlyRegs [TB_PPS_ERR] s (edgeSeen s captured) :=
  OnlyRegs.set (OnlyRegs.of_regs (OnlyRegs.refl _ s) (State.raiseAll_regs s 2 0)) (List.mem_singleton_self _) _

/-- R35, R39. An armed load is made, and the edge counts as accepted without error. -/
theorem actOnEdge_armed {s t : State} {captured : Ts} {clock : Nat} (acts : s.actOnEdge captured clock = t) (armed : s.on TB_STAT_ARMED = true) :
    t.time.rise = s.time.rise ∧ t.time.accepted = some clock ∧ t.shows 0 2 0 = true ∧ t.shows 0 2 1 = true ∧ t.get TB_PPS_ERR = 0 ∧ t.on TB_STAT_ARMED = false ∧
      t.on TB_STAT_LOADED_ONCE = true ∧ t.on TB_STAT_LOCKED = true ∧ t.on TB_STAT_HOLDOVER = false ∧ t.get TB_EDGE_CNT = (s.get TB_EDGE_CNT + 1) % 2 ^ 32 := by
  obtain ⟨n, made⟩ : ∃ n, s.actOnEdge captured clock = (((s.raiseAll 2 0).load n).set TB_PPS_ERR 0).acceptEdge clock := by
    refine ⟨s.time.clocks - clock, ?_⟩
    unfold State.actOnEdge
    simp only [armed, if_true]
  rw [made] at acts
  have accepts := acceptEdge_onlyRegs (((s.raiseAll 2 0).load n).set TB_PPS_ERR 0) clock
  obtain ⟨locked, holdover, count⟩ := acceptEdge_status (((s.raiseAll 2 0).load n).set TB_PPS_ERR 0) clock
  have loads := load_onlyRegs (s.raiseAll 2 0) n
  have seen := load_keepsShown (s.raiseAll 2 0) n 0 2 0 (raiseAll_shows s 2 0)
  rw [acts] at accepts locked holdover count
  refine ⟨?_, ?_, ?_, ?_, ?_, ?_, ?_, locked, holdover, ?_⟩
  · rw [← acts, acceptEdge_rise, State.set_time, load_rise, State.raiseAll_time]
  · rw [← acts]
    rfl
  · rw [← acts]
    exact seen
  · rw [← acts]
    exact load_shows (s.raiseAll 2 0) n
  · rw [accepts TB_PPS_ERR (by decide), State.get_set_self]
    rfl
  · rw [on_of_onlyRegs accepts (by decide)]
    unfold State.on
    rw [State.get_set_ne (by decide)]
    exact load_armed _ n
  · rw [on_of_onlyRegs accepts (by decide)]
    unfold State.on
    rw [State.get_set_ne (by decide)]
    exact load_loadedOnce _ n
  · rw [count, State.get_set_ne (by decide), loads TB_EDGE_CNT (by decide), State.raiseAll_get]

/-- R39. An edge within TB_PPS_WINDOW is accepted and corrected. -/
theorem actOnEdge_accepted {s t : State} {captured : Ts} {clock : Nat} (acts : s.actOnEdge captured clock = t) (unarmed : s.on TB_STAT_ARMED = false)
    (loaded : s.on TB_STAT_LOADED_ONCE = true) (inside : (ppsError s captured).natAbs ≤ s.get TB_PPS_WINDOW) :
    t.time.rise = s.time.rise ∧ t.time.accepted = some clock ∧ t.shows 0 2 0 = true ∧ t.get TB_PPS_ERR = toSigned32 (ppsError s captured) % 2 ^ 32 ∧
      t.on TB_STAT_LOCKED = true ∧ t.on TB_STAT_HOLDOVER = false ∧ t.get TB_EDGE_CNT = (s.get TB_EDGE_CNT + 1) % 2 ^ 32 := by
  have made : s.actOnEdge captured clock = ((edgeSeen s captured).acceptEdge clock).correct (ppsError s captured) := by
    unfold State.actOnEdge edgeSeen
    simp only [unarmed, loaded, inside, Bool.not_true, Bool.false_eq_true, if_false, if_true]
  rw [made] at acts
  obtain ⟨rise, accepted⟩ := correct_edges ((edgeSeen s captured).acceptEdge clock) (ppsError s captured)
  have corrects := correct_onlyRegs ((edgeSeen s captured).acceptEdge clock) (ppsError s captured)
  have shown := correct_keepsShown ((edgeSeen s captured).acceptEdge clock) (ppsError s captured) 0 2 0 (edgeSeen_shows s captured)
  have accepts := acceptEdge_onlyRegs (edgeSeen s captured) clock
  obtain ⟨locked, holdover, count⟩ := acceptEdge_status (edgeSeen s captured) clock
  rw [acts] at rise accepted corrects shown
  refine ⟨rise.trans ((acceptEdge_rise _ clock).trans (congrArg Timebase.rise (edgeSeen_time s captured))), accepted, shown, ?_, ?_, ?_, ?_⟩
  · rw [corrects TB_PPS_ERR (by decide), accepts TB_PPS_ERR (by decide), edgeSeen_error]
  · rw [on_of_onlyRegs corrects (by decide), locked]
  · rw [on_of_onlyRegs corrects (by decide), holdover]
  · rw [corrects TB_EDGE_CNT (by decide), count, edgeSeen_onlyRegs s captured TB_EDGE_CNT (by decide)]

/-- R39. An edge outside TB_PPS_WINDOW is an outlier: reported, and the lock is lost. -/
theorem actOnEdge_outlier {s t : State} {captured : Ts} {clock : Nat} (acts : s.actOnEdge captured clock = t) (unarmed : s.on TB_STAT_ARMED = false)
    (loaded : s.on TB_STAT_LOADED_ONCE = true) (outside : s.get TB_PPS_WINDOW < (ppsError s captured).natAbs) :
    t.time = s.time ∧ t.shows 0 2 0 = true ∧ t.shows 0 2 4 = true ∧ t.get TB_PPS_ERR = toSigned32 (ppsError s captured) % 2 ^ 32 ∧
      t.on TB_STAT_LOCKED = false ∧ t.get TB_EDGE_CNT = s.get TB_EDGE_CNT := by
  have made : s.actOnEdge captured clock = ((edgeSeen s captured).raiseAll 2 4).flag TB_STAT_LOCKED false := by
    unfold State.actOnEdge edgeSeen
    simp only [unarmed, loaded, Nat.not_le.mpr outside, Bool.not_true, Bool.false_eq_true, if_false]
  rw [← acts, made]
  refine ⟨(State.raiseAll_time _ 2 4).trans (edgeSeen_time s captured), ?_, raiseAll_shows (edgeSeen s captured) 2 4, ?_, State.on_flag_self rfl _ _, ?_⟩
  · exact KeepsShown.raiseAll (t := edgeSeen s captured) rfl 2 4 0 2 0 (edgeSeen_shows s captured)
  · rw [State.get_flag_ne (by decide), State.raiseAll_get, edgeSeen_error]
  · rw [State.get_flag_ne (by decide), State.raiseAll_get, edgeSeen_onlyRegs s captured TB_EDGE_CNT (by decide)]

/-! ### A missing edge and the rate windows (R41, R632) -/

/-- R41. The state in which, a number of clocks later, an edge is missing: PPS_MISSING is raised and the holdover begins. -/
def holdoverBegun (s : State) (clocks : Nat) : State :=
  ((({ s.pass clocks with time := { (s.pass clocks).time with accepted := none } }).raiseAll 2 2).flag TB_STAT_HOLDOVER true).flag TB_STAT_LOCKED false

theorem holdoverBegun_status (s : State) (clocks : Nat) : (holdoverBegun s clocks).time.accepted = none ∧ (holdoverBegun s clocks).shows 0 2 2 = true ∧
    (holdoverBegun s clocks).on TB_STAT_HOLDOVER = true ∧ (holdoverBegun s clocks).on TB_STAT_LOCKED = false ∧
    OnlyRegs [TB_STAT_FREEZE, TB_STAT_HOLDOVER, TB_STAT_LOCKED] s (holdoverBegun s clocks) := by
  have passed := onlyRegs_mono (gs := [TB_STAT_FREEZE, TB_STAT_HOLDOVER, TB_STAT_LOCKED]) (by simp) (pass_onlyRegs s clocks)
  unfold holdoverBegun
  generalize s.pass clocks = u at passed ⊢
  refine ⟨congrArg Timebase.accepted (State.raiseAll_time _ 2 2), raiseAll_shows _ 2 2, ?_, State.on_flag_self rfl _ _, ?_⟩
  · unfold State.on
    rw [State.get_flag_ne (by decide), State.get_flag_self]
    rfl
  · refine onlyRegs_flag (onlyRegs_flag ?_ ?_ _) ?_ _
    · exact OnlyRegs.of_regs passed (State.raiseAll_regs _ 2 2)
    all_goals simp

/-- R41. PPS_MISSING while an accepted edge is recorded. -/
theorem exec_ppsMissing {clock : Nat} {s : State} (accepted : s.time.accepted = some clock) (enabled : s.on TB_CTRL_PPS_EN = true) :
    ∃ n, exec .ppsMissing s = .next (holdoverBegun s n) := by
  refine ⟨clock + ((1000000000 + s.get TB_PPS_WINDOW) * 10 + 7) / 8 - s.time.clocks, ?_⟩
  show execPpsMissing s = _
  unfold execPpsMissing
  rw [accepted]
  simp only [enabled, Bool.not_true, Bool.false_eq_true, if_false]
  rfl

/-- R632. The state in which, a number of clocks later, the window of the beat-rate monitors ends. -/
def rateWindow (s : State) (a b clocks : Nat) : State :=
  (((s.pass clocks).set TB_RATE_A (s.ringCount 5 a)).set TB_RATE_B (s.ringCount 6 b)).nextWindow

theorem rateWindow_reports (s : State) (a b clocks : Nat) : (rateWindow s a b clocks).get TB_RATE_A = s.ringCount 5 a % 2 ^ 32 ∧
    (rateWindow s a b clocks).get TB_RATE_B = s.ringCount 6 b % 2 ^ 32 ∧ (rateWindow s a b clocks).power = s.nextWindow.power ∧
    OnlyRegs [TB_STAT_FREEZE, TB_RATE_A, TB_RATE_B] s (rateWindow s a b clocks) := by
  refine ⟨(State.get_set_ne (by decide) _ _).trans (State.get_set_self _ _ _), State.get_set_self _ _ _, rfl, ?_⟩
  have passed := onlyRegs_mono (gs := [TB_STAT_FREEZE, TB_RATE_A, TB_RATE_B]) (by simp) (pass_onlyRegs s clocks)
  exact OnlyRegs.of_regs (OnlyRegs.set (OnlyRegs.set passed (by simp) _) (by simp) _) rfl

/-! ### Ticks (R42 to R44) -/

/-- R44. Releasing a flow's tasks changes of the registers that flow's STATE. -/
theorem refresh_get {f : Field} {w : Nat} (h : f.key ≠ (FLOW_STATE w).key) (s : State) : (s.refresh w).get f = s.get f := by
  unfold State.refresh
  generalize taken : (if s.get (FLOW_STATE w) ≤ 1 then s.set (FLOW_STATE w) (b2n !(s.flow w).queue.isEmpty) else s) = t
  have kept : t.get f = s.get f := by
    rw [← taken]
    split
    · exact State.get_set_ne h s _
    · rfl
  dsimp only
  split
  · unfold State.unlist
    split <;> exact kept
  · split <;> exact kept

/-- The registers of the timebase page lie below those of the flows. -/
theorem timebase_key_ne_flow {f : Field} (h : f.addr < 0x200000 ∧ f.lsb < 32) (w : Nat) : f.key ≠ (FLOW_STATE w).key := by
  unfold Field.key FLOW_STATE
  dsimp only
  omega

/-- R44, R215. What the delay lists release changes no register of the timebase. -/
theorem releaseLists_get {f : Field} (h : f.addr < 0x200000 ∧ f.lsb < 32) (s : State) : s.releaseLists.get f = s.get f := by
  have folds {γ : Type} (g : State → γ → State) (l : List γ) (hg : ∀ t a, (g t a).get f = t.get f) (t : State) : (l.foldl g t).get f = t.get f :=
    foldl_exists (fun a b => b.get f = a.get f) (fun _ => rfl) (fun _ _ _ e e' => e'.trans e) g hg l t
  have joins (t : State) (x : Task) : (t.joinFlow x).get f = t.get f := by
    unfold State.joinFlow
    rw [refresh_get (timebase_key_ne_flow h x.flow)]
    rfl
  have due (t : State) (d : Nat) : (t.releaseDue s.time.lastTick d).get f = t.get f := by
    unfold State.releaseDue
    rw [folds _ _ (fun (t : State) (e : Nat × Task) => joins t e.2), State.get_setDelayList]
  unfold State.releaseLists
  split
  · rfl
  · exact folds _ _ due s

theorem releaseLists_time (s : State) : s.releaseLists.time = s.time :=
  (State_releaseLists_good (good_self s (· == .time)) rfl rfl).same .time rfl

/-- R43. A tick that is delivered is the last one delivered. -/
theorem deliverTick_lastTick (s : State) (i : Nat) : (s.deliverTick i).time.lastTick = i := by
  have kept (u : State) (l : List Nat) : ((l.foldl (fun v e => v.armTick i e) u.releaseLists).epochTick i).time = u.time := by
    refine (State_epochTick_good i (good_foldl (State_releaseLists_good (good_self u (· == .time)) rfl rfl) fun t e h => ?_) rfl rfl rfl rfl).same .time rfl
    exact State_armTick_good i e h rfl rfl rfl rfl
  unfold State.deliverTick
  dsimp only
  rw [kept]

/-- R44. The start of the ticks: they run, and the current index is the last one delivered. -/
theorem startTicks_runs (s : State) : s.startTicks.on TB_CTRL_TICK_EN = true ∧ s.startTicks.time = { s.time with lastTick := s.tickIndex } := by
  unfold State.startTicks State.on
  rw [releaseLists_get (by decide), State.get_flag_self, releaseLists_time]
  exact ⟨rfl, rfl⟩

/-- R44. A change of TICK_EN by the PF. -/
theorem exec_tickEnWrite {s : State} (isOn : s.pageOn 2 = true) {en : Bool} (changes : s.on TB_CTRL_TICK_EN = !en) :
    exec (.tickEnWrite 0 en) s = .next (if en then s.startTicks else s.flag TB_CTRL_TICK_EN false) := by
  show execTickEnWrite 0 en s = _
  unfold execTickEnWrite
  rw [mmio_reaches (reaches_manager isOn), changes]
  cases en <;> rfl

/-! ### Loads, the PPS input and the alert pin -/

/-- R38, R41. The state after a write that changes PPS_EN. -/
def ppsEnTaken (s : State) (en : Bool) : State :=
  let t := ({ s with time := { s.time with rise := none, accepted := none } }).flag TB_CTRL_PPS_EN en
  if en then t else (t.flag TB_STAT_HOLDOVER false).flag TB_STAT_LOCKED false

theorem ppsEnTaken_on (s : State) (en : Bool) : (ppsEnTaken s en).on TB_CTRL_PPS_EN = en := by
  cases en with
  | true => exact State.on_flag_self rfl _ true
  | false =>
    unfold State.on
    exact congrArg (· != 0) ((State.get_flag_ne (by decide) _ _).trans ((State.get_flag_ne (by decide) _ _).trans (State.get_flag_self _ _ _)))

theorem ppsEnTaken_time (s : State) (en : Bool) : (ppsEnTaken s en).time = { s.time with rise := none, accepted := none } := by
  cases en <;> rfl

/-- R41. Without PPS_EN there is neither lock nor holdover. -/
theorem ppsEnTaken_status {en : Bool} (off : en = false) (s : State) : (ppsEnTaken s en).on TB_STAT_HOLDOVER = false ∧ (ppsEnTaken s en).on TB_STAT_LOCKED = false := by
  subst off
  refine ⟨?_, State.on_flag_self rfl _ false⟩
  exact congrArg (· != 0) ((State.get_flag_ne (by decide) _ _).trans (State.get_flag_self _ _ _))

theorem ppsEnTaken_only (s : State) (en : Bool) : OnlyParts [.regs, .time] s (ppsEnTaken s en) := by
  have forgets := (setTime_only s { s.time with rise := none, accepted := none }).mono (qs := [.regs, .time]) (by decide)
  have sets (t : State) (f : Field) (b : Bool) : OnlyParts [.regs, .time] t (t.flag f b) := (State.set_only t f _).mono (by decide)
  cases en with
  | true => exact forgets.trans (sets _ _ _)
  | false => exact ((forgets.trans (sets _ _ _)).trans (sets _ _ _)).trans (sets _ _ _)

theorem ppsEnTaken_onlyRegs (s : State) (en : Bool) : OnlyRegs [TB_CTRL_PPS_EN, TB_STAT_HOLDOVER, TB_STAT_LOCKED] s (ppsEnTaken s en) := by
  have enables : OnlyRegs [TB_CTRL_PPS_EN, TB_STAT_HOLDOVER, TB_STAT_LOCKED] s
      (({ s with time := { s.time with rise := none, accepted := none } }).flag TB_CTRL_PPS_EN en) := by
    refine onlyRegs_flag (OnlyRegs.of_regs (OnlyRegs.refl _ s) rfl) ?_ en
    simp
  cases en with
  | true => exact enables
  | false =>
    refine onlyRegs_flag (onlyRegs_flag enables ?_ false) ?_ false
    all_goals simp

theorem exec_tbPpsEnWrite {en : Bool} {s : State} (changes : en ≠ s.on TB_CTRL_PPS_EN) : exec (.tbPpsEnWrite en false) s = .next (ppsEnTaken s en) := by
  show execTbPpsEnWrite en false s = _
  unfold execTbPpsEnWrite
  rw [if_neg (by simpa using changes)]
  rfl

/-- Settles O1: a load by its time and its registers, every other command by the field or the pin that it writes. -/
theorem timebaseLoadAndPulse : Obligations.TimebaseLoadAndPulse := by
  refine ⟨?load, ?arm, ?enable, ?rise, ?glitch, ?skew, ?alert⟩
  case load =>
    intro s disabled
    have run : exec .tbArm s = .next (s.load 0) := by
      show execTbArm s = _
      unfold execTbArm State.arm
      rw [disabled]
      rfl
    have time := load_time_now s
    refine .of_next run ⟨?_, ?_, ?_, load_armed s 0, load_loadedOnce s 0, load_shows s 0, onlyParts_of_exec run (by decide), load_onlyRegs s 0⟩
    · unfold State.now
      rw [time]
      rfl
    · rw [time]
      rfl
    · rw [time]
      rfl
  case arm =>
    intro s enabled
    show execTbArm s = _
    unfold execTbArm State.arm
    rw [enabled]
    rfl
  case enable =>
    intro en s changes
    refine .of_next (exec_tbPpsEnWrite changes) ?_
    exact ⟨ppsEnTaken_on s en, ppsEnTaken_time s en, fun off => ppsEnTaken_status off s, ppsEnTaken_only s en, ppsEnTaken_onlyRegs s en⟩
  case rise =>
    intro s enabled
    show execPpsRise s = _
    unfold execPpsRise
    rw [enabled]
    rfl
  case glitch =>
    intro s pending
    have run : exec .ppsGlitch s = .next (({ s with time := { s.time with rise := none } }).raiseAll 2 3) := by
      show execPpsGlitch s = _
      unfold execPpsGlitch
      rw [if_pos pending]
    exact .of_next run ⟨State.raiseAll_time _ 2 3, raiseAll_shows _ 2 3, onlyParts_of_exec run (by decide)⟩
  case skew => exact fun s => rfl
  case alert => exact fun s => rfl

/-- Settles O2: an edge by what acting on it does to a state in which time has passed; a missing edge, a window and a tick by the states that they lead to. -/
theorem ppsEdgesDisciplineTheTimebase : Obligations.PpsEdgesDisciplineTheTimebase := by
  refine ⟨?accepted, ?outlier, ?armed, ?freezeEnd, ?missing, ?rates, ?tick, ?start, ?stop⟩
  case accepted =>
    intro captured clock s rise enabled unarmed loaded inside
    obtain ⟨u, run, idle, -, due⟩ := exec_ppsEdge rise enabled
    have error := ppsError_of_onlyRegs due (by decide) captured
    obtain ⟨rise', accepted, shown, err, locked, holdover, count⟩ := actOnEdge_accepted (s := u) (captured := captured) (clock := clock) rfl
      (by rw [on_of_onlyRegs due (by decide), unarmed]) (by rw [on_of_onlyRegs due (by decide), loaded]) (by rw [error, due TB_PPS_WINDOW (by decide)]; exact inside)
    rw [error] at err
    rw [due TB_EDGE_CNT (by decide)] at count
    exact .of_next run ⟨rise'.trans idle, accepted, shown, err, locked, holdover, count, onlyParts_of_exec run (by decide)⟩
  case outlier =>
    intro captured clock s rise enabled unarmed loaded outside
    obtain ⟨u, run, idle, kept, due⟩ := exec_ppsEdge rise enabled
    have error := ppsError_of_onlyRegs due (by decide) captured
    obtain ⟨time, edge, outlier, err, locked, count⟩ := actOnEdge_outlier (s := u) (captured := captured) (clock := clock) rfl
      (by rw [on_of_onlyRegs due (by decide), unarmed]) (by rw [on_of_onlyRegs due (by decide), loaded]) (by rw [error, due TB_PPS_WINDOW (by decide)]; exact outside)
    rw [error] at err
    rw [due TB_EDGE_CNT (by decide)] at count
    exact .of_next run ⟨by rw [time, idle], by rw [time, kept], edge, outlier, err, locked, count, onlyParts_of_exec run (by decide)⟩
  case armed =>
    intro captured clock s rise enabled armed
    obtain ⟨u, run, idle, -, due⟩ := exec_ppsEdge rise enabled
    obtain ⟨rise', accepted, edge, loaded, err, disarmed, once, locked, holdover, count⟩ := actOnEdge_armed (s := u) (captured := captured) (clock := clock) rfl
      (by rw [on_of_onlyRegs due (by decide), armed])
    rw [due TB_EDGE_CNT (by decide)] at count
    exact .of_next run ⟨rise'.trans idle, accepted, edge, loaded, err, disarmed, once, locked, holdover, count, onlyParts_of_exec run (by decide)⟩
  case freezeEnd =>
    intro s _ runs
    have run : exec .freezeEnd s = .next (s.pass ((s.time.hold + s.tbIncrement - 1) / s.tbIncrement)) := rfl
    obtain ⟨ended, thawed⟩ := pass_ends_hold runs
    exact .of_next run ⟨ended, thawed, onlyParts_of_exec run (by decide), pass_onlyRegs s _⟩
  case missing =>
    intro clock s accepted enabled
    obtain ⟨n, run⟩ := exec_ppsMissing accepted enabled
    obtain ⟨forgotten, shown, holdover, unlocked, regs⟩ := holdoverBegun_status s n
    exact .of_next run ⟨forgotten, shown, holdover, unlocked, onlyParts_of_exec run (by decide), regs⟩
  case rates =>
    intro a b s
    have run : exec (.tbRateWindow a b) s = .next (rateWindow s a b ((s.time.clocks / 1310720 + 1) * 1310720 - s.time.clocks)) := rfl
    obtain ⟨rateA, rateB, power, regs⟩ := rateWindow_reports s a b ((s.time.clocks / 1310720 + 1) * 1310720 - s.time.clocks)
    exact .of_next run ⟨rateA, rateB, power, onlyParts_of_exec run (by simp [mayChange]), regs⟩
  case tick =>
    intro s enabled free flowing
    refine .of_next ?_ ⟨deliverTick_lastTick _ _, rfl⟩
    show execTickDelivery s = _
    unfold execTickDelivery
    rw [enabled, free, flowing]
    rfl
  case start =>
    intro s isOn stopped
    obtain ⟨runs, time⟩ := startTicks_runs s
    exact .of_next (exec_tickEnWrite isOn stopped) ⟨rfl, runs, time⟩
  case stop =>
    intro s isOn running
    exact exec_tickEnWrite isOn running

/-! ### The throttle stall (R48 to R50, R595) -/

/-- R50. The end of a stall: none of what then moves starts another. -/
theorem resume_stall {s : State} (stalled : s.stall = true) (high : s.power.vrAlertHigh = true) : s.resume.stall = false := by
  unfold State.resume
  rw [stalled, high]
  simp only [Bool.and_self, if_true]
  refine (good_foldl (State_releaseLists_good (good_foldl (good_self { s with stall := false } (· == .stall)) fun t c h => ?_) rfl rfl) fun t e h => ?_).same .stall rfl
  · exact State_runFinishes_good c h rfl rfl rfl rfl
  · exact State_armResume_good e h rfl rfl rfl rfl

theorem exec_resume {s : State} (isOn : s.pageOn 1 = true) : exec (.resume 0 1) s = .next s.resume := by
  show execResume 0 1 s = _
  unfold execResume
  rw [mmio_reaches (reaches_manager isOn)]
  rfl

/-- Settles O3: the stall by its event and count, its end by what every released activity keeps. -/
theorem throttleStallAndResume : Obligations.ThrottleStallAndResume := by
  refine ⟨?stall, ?short, ?resume, ?low⟩
  case stall =>
    intro ns s long free
    have run : exec (.throttleStall ns) s = .next ((({ s with power := { s.power with vrAlertHigh := false }, stall := true }).add THROTTLE_CNT 1).raise 1 0) := by
      show execThrottleStall ns s = _
      unfold execThrottleStall
      rw [if_neg (by omega), free]
      rfl
    refine .of_next run ⟨State.raise_stall _ 1 0, State.raise_power _ 1 0, State.raise_shows _ 1 0, ?_, onlyParts_of_exec run (by simp [mayChange]), ?_⟩
    · rw [State.raise_get, State.get_add_self]
      rfl
    · intro g hg
      rw [State.raise_get]
      exact State.get_add_ne (by simpa using hg) _ _
  case short =>
    intro ns s short
    show execThrottleStall ns s = _
    unfold execThrottleStall
    rw [if_pos short]
  case resume =>
    intro s isOn stalled high
    exact ⟨exec_resume isOn, resume_stall stalled high⟩
  case low =>
    intro s stalled low isOn
    rw [exec_resume isOn]
    simp [State.resume, low]

/-! ### Reads of the count (R34) -/

/-- R456. Which pages a function reaches depends on the registers, the host interface and the power domains alone. -/
theorem reaches_of_parts {s t : State} (regs : t.regs = s.regs) (host : t.host = s.host) (power : t.power = s.power) {fn page : Nat} (h : s.Reaches fn page) :
    t.Reaches fn page := by
  cases s
  cases t
  subst regs host power
  exact h

/-- R34. The read of a captured word of the timebase page returns what was captured, whatever the time is now, and uses up that capture alone. -/
theorem read_captured_seconds {fn off v : Nat} {s : State} (reach : s.Reaches fn 2) (hoff : off = 0x4C ∨ off = 0x50) (held : s.captured fn (4096 * 2 + off) = some v) :
    exec (.lowerWordRead fn (4096 * 2 + off)) s = .next ((s.setCaptured fn (4096 * 2 + off) none).answer v) := by
  have plain : PlainRead 2 off := by
    unfold PlainRead
    omega
  rw [exec_lowerWordRead reach (by omega) (by omega) plain, readWord_captured held]

/-- Settles O60: each read returns the capture of its word, which neither the time nor the other read touches. -/
theorem timebaseReadsCaptureTheSeconds : Obligations.TimebaseReadsCaptureTheSeconds := by
  refine ⟨?both, ?upper⟩
  case both =>
    intro fn x s reach
    obtain ⟨ns, lo, hi, -⟩ := readNow_captures s fn
    refine .of_next (exec_tbNowRead reach) ⟨ns, ?_⟩
    refine .of_next (read_captured_seconds (off := 0x4C) (reaches_of_parts (s := s) rfl rfl rfl reach) (.inl rfl) lo) ⟨rfl, ?_⟩
    refine .of_next (read_captured_seconds (off := 0x50) (reaches_of_parts (s := s) rfl rfl rfl reach) (.inr rfl) ?_) rfl
    show ((s.readNow fn).setCaptured fn 0x204C none).captured fn 0x2050 = _
    rw [captured_setCaptured_ne (by decide), hi]
  case upper =>
    intro fn x s reach
    obtain ⟨-, -, hi, -⟩ := readNow_captures s fn
    refine .of_next (exec_tbNowRead reach) ?_
    exact .of_next (read_captured_seconds (off := 0x50) (reaches_of_parts (s := s) rfl rfl rfl reach) (.inr rfl) hi) rfl

end Sys2Proof.Proofs

/-!
Counter blocks and the matrix arrays (R103 to R105, R113, R157, R247, R249, R255): which counters a clear and a change of holders empty, then the commands that do so
and those of the array, MVP and vector pages.
-/

namespace Sys2Proof.Proofs

open Sys2Proof.Machine Sys2Proof.Laws

/-! ### What a clear empties -/

/-- A table that drops keys lists the others as before. -/
theorem find_drop {α : Type} (p : Nat → Bool) (m : Map α) (k : Nat) : Map.find (Map.drop p m) k = if p k then none else Map.find m k := by
  induction m with
  | nil => cases p k <;> rfl
  | cons e m ih =>
    obtain ⟨j, w⟩ := e
    unfold Map.drop at ih ⊢
    by_cases same : k = j
    · subst same
      cases h : p k <;> simp [h, Map.find, ih]
    · cases h : p j <;> simp [h, same, Map.find, ih]

/-- R255. A clear empties the counters of its block alone. -/
theorem clearBlock_counter (s : State) (b c : Nat) : (s.clearBlock b).counter c = if c / 64 = b then {} else s.counter c := by
  unfold State.counter State.clearBlock Map.get
  rw [find_drop]
  by_cases inside : c / 64 = b <;> simp [inside]

/-- Clears of several blocks, but for those kept, empty the counters of the blocks cleared alone. -/
theorem clearBlocks_counter (keep : Nat → Prop) [DecidablePred keep] (block : Nat → Nat) (c : Nat) (l : List Nat) (s : State) :
    (l.foldl (fun t k => if keep k then t else t.clearBlock (block k)) s).counter c = if ∃ k ∈ l, ¬keep k ∧ c / 64 = block k then {} else s.counter c := by
  induction l generalizing s with
  | nil => simp
  | cons k l ih =>
    rw [List.foldl_cons, ih]
    by_cases kept : keep k
    · simp [kept]
    · by_cases inside : c / 64 = block k <;> simp [kept, inside, clearBlock_counter]

/-- R249. A change of holders empties the counters of the blocks whose holder changes, and no others. -/
theorem setHolders_counter (s : State) (r v c : Nat) :
    (s.setHolders r v).counter c = if c / 512 = r ∧ bitsOf v (4 * (c / 64 % 8)) 4 ≠ s.blockHolder (c / 64) then {} else s.counter c := by
  have changes : (∃ k ∈ List.range 8, ¬bitsOf v (4 * k) 4 = s.blockHolder (8 * r + k) ∧ c / 64 = 8 * r + k) ↔
      c / 512 = r ∧ bitsOf v (4 * (c / 64 % 8)) 4 ≠ s.blockHolder (c / 64) := by
    constructor
    · rintro ⟨k, low, differs, block⟩
      have low := List.mem_range.mp low
      obtain rfl : k = c / 64 % 8 := by omega
      exact ⟨by omega, fun same => differs (same.trans (congrArg s.blockHolder block))⟩
    · rintro ⟨register, differs⟩
      have block : c / 64 = 8 * r + c / 64 % 8 := by omega
      exact ⟨c / 64 % 8, List.mem_range.mpr (by omega), fun same => differs (same.trans (congrArg s.blockHolder block.symm)), block⟩
  unfold State.setHolders
  rw [clearBlocks_counter]
  simp only [changes]
  rfl

/-- R249. Of the registers, a change of holders writes the word of SY_BLK_FN. -/
theorem setHolders_regs (s : State) (r v : Nat) : (s.setHolders r v).regs = (s.set (SY_BLK_FN r) v).regs := by
  refine foldl_exists (fun a b => b.regs = a.regs) (fun _ => rfl) (fun _ _ _ h h' => h'.trans h) _ (fun t k => ?_) _ _
  split <;> rfl

theorem setHolders_only (s : State) (r v : Nat) : OnlyParts [.regs, .sync] s (s.setHolders r v) :=
  onlyParts_of_good (State_setHolders_good r v (good_self s _) rfl rfl)

theorem setHolders_onlyRegs (s : State) (r v : Nat) : OnlyRegs [SY_BLK_FN r] s (s.setHolders r v) :=
  OnlyRegs.of_regs (OnlyRegs.set (OnlyRegs.refl _ s) List.mem_cons_self v) (setHolders_regs s r v)

/-! ### Commands on blocks -/

theorem setSync_only (s : State) (x : Sync) : OnlyParts [.sync] s { s with sync := x } := by
  intro p hp
  cases p
  case sync => exact absurd (by decide) hp
  case msgs => exact ⟨rfl, rfl, rfl⟩
  all_goals exact Eq.refl _

/-- R234. A counter operation takes its place at once where nothing is withheld. -/
theorem inOrderOf_flowing {s : State} (h : s.Flowing) (page : Nat) (c : Instr) (body : State → Outcome) : inOrderOf page c s body = body s := by
  obtain ⟨unstalled, free⟩ := h
  unfold inOrderOf
  rw [unstalled, free]
  rfl

theorem exec_syBlkFnWrite {fn : Nat} {s : State} (reach : s.Reaches fn 0x210) (flows : s.Flowing) (r v : Nat) :
    exec (.syBlkFnWrite fn r v) s = if s.holdersOk r v then .next (s.setHolders r v) else .next (s.refuseWrite fn (SY_BLK_FN r).addr v) := by
  show execSyBlkFnWrite fn r v s = _
  unfold execSyBlkFnWrite
  rw [mmio_reaches reach, inOrderOf_flowing flows]

/-- R255. The state after a clear of a block has started. -/
def clearStarted (s : State) (b : Nat) : State :=
  { s.clearBlock b with sync := { (s.clearBlock b).sync with clearing := some b } }.flag SY_CLR_STAT_BUSY true

theorem clearStarted_counter (s : State) (b c : Nat) : (clearStarted s b).counter c = if c / 64 = b then {} else s.counter c :=
  clearBlock_counter s b c

theorem clearStarted_only (s : State) (b : Nat) : OnlyParts [.regs, .sync] s (clearStarted s b) :=
  ((setSync_only s _).mono (by decide)).trans ((State.set_only _ SY_CLR_STAT_BUSY _).mono (by decide))

theorem clearStarted_onlyRegs (s : State) (b : Nat) : OnlyRegs [SY_CLR_STAT_BUSY] s (clearStarted s b) :=
  onlyRegs_flag (OnlyRegs.of_regs (OnlyRegs.refl _ s) rfl) List.mem_cons_self true

theorem exec_syBlkClr {fn b : Nat} {s : State} (reach : s.Reaches fn 0x210) (flows : s.Flowing) (idle : s.sync.clearing = none) (free : s.blockWaits (b % 64) = []) :
    exec (.syBlkClr fn b) s = .next (clearStarted s (b % 64)) := by
  show execSyBlkClr fn b s = _
  unfold execSyBlkClr
  rw [mmio_reaches reach, inOrderOf_flowing flows, idle, free]
  rfl

/-- R255. The state after a clear has ended, before CLR_DONE is raised. -/
def clearEnded (s : State) : State :=
  ({ s with sync := { s.sync with clearing := none } }.flag SY_CLR_STAT_BUSY false).set SY_CLR_STAT_RESULT Status.ok.code

theorem clearEnded_busy (s : State) : (clearEnded s).on SY_CLR_STAT_BUSY = false :=
  congrArg (· != 0) ((State.get_set_ne (by decide) _ _).trans (State.get_flag_self _ _ _))

theorem clearEnded_result (s : State) : (clearEnded s).get SY_CLR_STAT_RESULT = 0 := State.get_set_self _ _ _

theorem clearEnded_onlyRegs (s : State) : OnlyRegs [SY_CLR_STAT_BUSY, SY_CLR_STAT_RESULT] s (clearEnded s) := by
  have busy : OnlyRegs [SY_CLR_STAT_BUSY, SY_CLR_STAT_RESULT] s ({ s with sync := { s.sync with clearing := none } }.flag SY_CLR_STAT_BUSY false) :=
    onlyRegs_flag (OnlyRegs.of_regs (OnlyRegs.refl _ s) rfl) (by simp) false
  exact OnlyRegs.set busy (by simp) _

theorem exec_blkClearDone {b : Nat} {s : State} (awake : s.Awake 0x210) (clearing : s.sync.clearing = some b) :
    exec .blkClearDone s = .next ((clearEnded s).raise 0x210 4) := by
  show execBlkClearDone s = _
  unfold execBlkClearDone
  rw [event_awake awake, clearing]
  rfl

/-! ### Columns of an array -/

/-- R104, R105. A quiesced array takes a map that leaves enough presented columns. -/
theorem exec_maColfailWrite {fn core array i v : Nat} {s : State} (reach : s.Reaches fn (arrayPage core array)) (register : i ≤ 2)
    (quiesced : (s.page (arrayPage core array)).quiesced = true) (enough : 56 ≤ (presented (s.newColumns core array i v)).length) :
    exec (.maColfailWrite fn core array i v) s = .next ((s.setColumns core array (s.newColumns core array i v)).raise (arrayPage core array) 4) := by
  show execMaColfailWrite fn core array i v s = _
  unfold execMaColfailWrite
  rw [mmio_reaches reach]
  dsimp only
  rw [if_neg (by omega), quiesced, if_neg (by decide), if_neg (by omega)]

/-! ### The obligation -/

/-- Settles O5: the counters by the blocks that are cleared, the registers by the words that are written; the commands of the array, MVP and vector pages by the access to their page. -/
theorem counterBlocksAndArrayCounts : Obligations.CounterBlocksAndArrayCounts := by
  refine ⟨?holders, ?refused, ?clear, ?done, ?spare, ?columns, ?array, ?mvp, ?vector⟩
  case holders =>
    intro fn r v s reach flows _ takes
    have run : exec (.syBlkFnWrite fn r v) s = .next (s.setHolders r v) := by rw [exec_syBlkFnWrite reach flows, if_pos takes]
    refine .of_next run ⟨?_, fun c here changes => ?_, fun c _ same => ?_, fun c other => ?_, setHolders_only s r v, setHolders_onlyRegs s r v⟩
    · exact (State.get_of_regs (setHolders_regs s r v) _).trans (State.get_set_self _ _ _)
    · rw [setHolders_counter, if_pos ⟨here, changes⟩]
    · rw [setHolders_counter, if_neg fun ⟨_, changes⟩ => changes same]
    · rw [setHolders_counter, if_neg fun ⟨here, _⟩ => other here]
  case refused =>
    intro fn r v s reach flows refuses
    rw [exec_syBlkFnWrite reach flows, refuses]
    rfl
  case clear =>
    intro fn b s reach flows idle free
    refine .of_next (exec_syBlkClr reach flows idle free)
      ⟨rfl, State.on_flag_self rfl _ true, fun c here => ?_, fun c other => ?_, rfl, clearStarted_only s _, clearStarted_onlyRegs s _⟩
    · rw [clearStarted_counter, if_pos here]
    · rw [clearStarted_counter, if_neg other]
  case done =>
    intro b s awake clearing
    have run := exec_blkClearDone awake clearing
    refine .of_next run ⟨State.raise_sync _ _ _, ?_, ?_, State.raise_shows _ _ _, onlyParts_of_exec run (by decide), ?_⟩
    · rw [State.raise_on, clearEnded_busy]
    · rw [State.raise_get, clearEnded_result]
    · exact (clearEnded_onlyRegs s).of_regs (State.raise_regs _ _ _)
  case spare =>
    intro core array s awake shadows
    show execShadowAdvance core array s = _
    unfold execShadowAdvance
    rw [event_awake awake, if_pos shadows]
  case columns => exact fun fn core array i v s => exec_maColfailWrite
  case array => exact fun fn core array s reach flows => command_runs reach flows (.maCntClr fn core array) _
  case mvp => exact fun fn core s reach flows => command_runs reach flows (.mvpCntClr fn core) _
  case vector => exact fun fn core s reach flows => command_runs reach flows (.vuCntClr fn core) _

end Sys2Proof.Proofs

/-!
The sequencer of a core whose only task is in one slot (R118, R122 to R125, R129): a step command is a fetch, the fetched step issues, and what has issued starts, where nothing
withholds it.
-/

namespace Sys2Proof.Proofs

open Sys2Proof.Machine Sys2Proof.Laws Sys2Proof.Claims

/-! ### A step command is a fetch (R125, R155) -/

/-- R129. Every step command is the fetch of the step that it sends. -/
theorem exec_stepOf {c : Instr} {h : StepHdr} {op : StepOp} (sends : stepOf c = some (h, op)) (s : State) : exec c s = fetchStep h op s := by
  unfold stepOf at sends
  split at sends <;> cases sends <;> rfl

/-- R125. A task that still fetches takes the step into its queue, and its core goes on. -/
theorem exec_fetched {c : Instr} {h : StepHdr} {op : StepOp} {r : Running} {s : State} (sends : stepOf c = some (h, op)) (isOn : s.pageOn (seqPage h.core) = true)
    (runs : s.running h.core h.slot = some r) (fetches : r.fetches = true) :
    exec c s = .next ((s.setRunning h.core h.slot (some { r with queue := r.queue ++ [(h, op)] })).pump h.core) := by
  rw [exec_stepOf sends]
  unfold fetchStep
  simp only [isOn, runs, fetches, Bool.not_true, Bool.false_eq_true, if_false, if_true]

/-- Settles O6: a step command is a fetch of its step. -/
theorem stepCommandsAreFetched : Obligations.StepCommandsAreFetched :=
  fun _ _ _ _ _ sends isOn runs fetches => exec_fetched sends isOn runs fetches

/-! ### A task alone on its core -/

/-- The slot holds the task, and no other slot of the core holds one. -/
def Alone (s : State) (core slot : Nat) (q : Running) : Prop :=
  slot < 4 ∧ s.running core slot = some q ∧ ∀ i, i < 4 → i ≠ slot → s.running core i = none

theorem Alone.of_slots {s t : State} {core slot : Nat} {q : Running} (h : Alone s core slot q) (same : t.work.slots = s.work.slots) : Alone t core slot q := by
  unfold Alone State.running at h ⊢
  rw [same]
  exact h

theorem Alone.setRunning {s : State} {core slot : Nat} {r : Running} (h : Alone s core slot r) (q : Running) : Alone (s.setRunning core slot (some q)) core slot q := by
  obtain ⟨low, -, others⟩ := h
  refine ⟨low, State.running_setRunning_self _ _ _ _, fun i hi other => ?_⟩
  rw [State.running_setRunning_ne (by omega), others i hi other]

/-- A search in which one candidate alone can succeed gives what that one gives. -/
theorem findSome?_only {α β : Type} {f : α → Option β} {l : List α} {a : α} (mem : a ∈ l) (others : ∀ b ∈ l, b ≠ a → f b = none) : l.findSome? f = f a := by
  induction l with
  | nil => cases mem
  | cons b l ih =>
    by_cases here : b = a
    · subst here
      rw [List.findSome?_cons]
      cases found : f b with
      | some v => rfl
      | none =>
        refine List.findSome?_eq_none_iff.mpr fun c hc => ?_
        by_cases again : c = b
        · rw [again, found]
        · exact others c (List.mem_cons_of_mem _ hc) again
    · rw [List.findSome?_cons, others b List.mem_cons_self here]
      exact ih ((List.mem_cons.mp mem).resolve_left (Ne.symm here)) fun c hc => others c (List.mem_cons_of_mem _ hc)

/-- R118. The round of a core's slots names each of the four. -/
theorem mem_slotRound (s : State) (core i : Nat) : i ∈ s.slotRound core ↔ i < 4 := by
  unfold State.slotRound
  simp only [List.mem_map, List.mem_range]
  constructor
  · rintro ⟨k, -, rfl⟩
    omega
  · intro low
    exact ⟨(i + 3 * (Map.get s.work.lastSlot 3 core + 1)) % 4, by omega, by omega⟩

/-- The core of a lone task does what its slot can do. -/
theorem coreAction_alone {s : State} {core slot : Nat} {q : Running} (alone : Alone s core slot q) :
    s.coreAction core = if halted (seqPage core) s then none else match s.entryAction core slot with | some t => some t | none => s.tryIssue core slot := by
  obtain ⟨low, -, others⟩ := alone
  have entries : (List.range 4).findSome? (s.entryAction core) = s.entryAction core slot := by
    refine findSome?_only (List.mem_range.mpr low) fun i hi other => ?_
    unfold State.entryAction
    rw [others i (List.mem_range.mp hi) other]
  have issues : (s.slotRound core).findSome? (s.tryIssue core) = s.tryIssue core slot := by
    refine findSome?_only ((mem_slotRound s core slot).mpr low) fun i hi other => ?_
    unfold State.tryIssue
    rw [others i ((mem_slotRound s core i).mp hi) other]
  unfold State.coreAction
  rw [entries, issues] <;> rfl

/-- The steps in flight on the core of a lone task with an empty window are none. -/
theorem coreEntries_alone {s : State} {core slot : Nat} {q : Running} (alone : Alone s core slot q) (empty : q.window = []) : s.coreEntries core = [] := by
  obtain ⟨-, runs, others⟩ := alone
  refine List.flatMap_eq_nil_iff.mpr fun i hi => ?_
  by_cases here : i = slot
  · rw [here, runs]
    exact empty
  · rw [others i (List.mem_range.mp hi) here]

/-- A task that is not being restored and has nothing in flight has nothing to start or to go on with. -/
theorem entryAction_empty {s : State} {core slot : Nat} {q : Running} (runs : s.running core slot = some q) (restored : q.restore = none) (empty : q.window = []) :
    s.entryAction core slot = none := by
  unfold State.entryAction
  rw [runs]
  simp [restored, empty]

/-- A task that has fetched nothing more issues nothing. -/
theorem tryIssue_empty {s : State} {core slot : Nat} {q : Running} (runs : s.running core slot = some q) (replayed : q.replay = []) (fetched : q.queue = []) :
    s.tryIssue core slot = none := by
  unfold State.tryIssue
  rw [runs]
  simp [Running.next, replayed, fetched]

/-! ### Progress -/

theorem settled_step {s t : State} {core n : Nat} (acts : s.coreAction core = some t) : settled s core (n + 1) = settled t core n := by
  unfold settled
  rw [State.pumpFor, acts]

theorem pump_step {s t : State} {core : Nat} (acts : s.coreAction core = some t) : s.pump core = settled t core 255 := settled_step acts

/-- R144. A core in which nothing moves has its slot registers follow. -/
theorem settled_still {s : State} {core n : Nat} (still : s.coreAction core = none) : settled s core n = (List.range 4).foldl (fun t i => t.slotRefresh core i) s := by
  unfold settled
  cases n with
  | zero => rfl
  | succ n => rw [State.pumpFor, still]

/-- R125, R126, R146. A task that fetches is neither at its end nor stopped. -/
theorem fetches_iff {r : Running} : r.fetches = true ↔ r.ended = false ∧ r.hard = none ∧ r.aborting = false ∧ r.preempt = none ∧ r.restore = none ∧
    r.queue.any (fun x => x.1.last) = false := by
  unfold Running.fetches
  simp only [Bool.and_eq_true, Bool.not_eq_true', Option.isNone_iff_eq_none, and_assoc]

/-- A halted block depends on the domains and the stall alone. -/
theorem halted_of {s t : State} (power : t.power = s.power) (stall : t.stall = s.stall) (page : Nat) : halted page t = halted page s := by
  unfold halted State.pageOn State.domOn State.dom
  rw [power, stall]

end Sys2Proof.Proofs

/-!
A fetched step of a task alone on its core issues (R118, R122, R123, R236); one that can start then starts (R124).
-/

namespace Sys2Proof.Proofs

open Sys2Proof.Machine Sys2Proof.Laws Sys2Proof.Claims

/-! ### The issue of a step (R118, R122, R123) -/

/-- The state that has counted the issue of a step, before what the step does at issue. -/
def issueCounted (s : State) (core slot : Nat) : State :=
  { s.add (CORE_ISSUE_CNT core) 1 with work := { s.work with issued := s.work.issued + 1, lastSlot := Map.put 3 s.work.lastSlot core slot } }

/-- R124. A step that a unit is to run takes its place in the window. -/
theorem issueEntry_unit {s : State} {core slot : Nat} {r : Running} {e : Entry} {old : Bool} (good : e.status = .ok) (waits : e.phase = .queued) (later : atOnce e.op = false)
    (unit : isWait e.op = false) : s.issueEntry core slot r e old = (issueCounted s core slot).setRunning core slot (some (r.issued e old)) := by
  unfold State.issueEntry
  rw [if_neg (by simp [good]), if_neg (by simp [waits]), later]
  cases op : e.op
  case wait => simp [op, isWait] at unit
  all_goals rfl

/-- R236. A wait takes its place in the window and takes effect. -/
theorem issueEntry_wait {s : State} {core slot : Nat} {r : Running} {e : Entry} {old dec : Bool} {k v : Nat} (good : e.status = .ok) (waits : e.phase = .queued)
    (isWait : e.op = .wait dec k v) :
    s.issueEntry core slot r e old = ((issueCounted s core slot).setRunning core slot (some (r.issued { e with phase := .blocked } old))).ctrWait
      { core := core, slot := slot, ctr := k, value := v % 65536, dec := dec } := by
  unfold State.issueEntry
  rw [if_neg (by simp [good]), if_neg (by simp [waits])]
  simp only [isWait]
  rfl

/-- R129. A step that does its work at issue completes if nothing withholds it. -/
theorem issueEntry_atOnce {s : State} {core slot : Nat} {r : Running} {e : Entry} {old : Bool} (good : e.status = .ok) (waits : e.phase = .queued) (now : atOnce e.op = true) :
    s.issueEntry core slot r e old =
      (((issueCounted s core slot).ctxEffect core r.task.ctx e.op).setRunning core slot (some (r.issued { e with phase := .ran } old))).tryComplete core slot e.seq := by
  unfold State.issueEntry
  rw [if_neg (by simp [good]), if_neg (by simp [waits]), now]
  rfl

/-- Nothing holds the issue of the next step of a task whose window is empty, alone on its core: there is no fence, no hazard, no busy unit. -/
theorem canIssue_empty {s : State} {core slot : Nat} {q : Running} {e : Entry} (alone : Alone s core slot q)
    (unstopped : q.hard = none ∧ q.aborting = false ∧ q.preempt = none ∧ q.restore = none) (empty : q.window = []) (replayed : q.replay = [])
    (idle : s.waiting core slot = false) (free : ∀ dec k v, e.op = .wait dec k v → s.ctrQuiet k = false) : s.canIssue core slot q e = true := by
  obtain ⟨hard, aborting, preempt, restore⟩ := unstopped
  have units : s.unitsAccept core e.units = true := by simp [State.unitsAccept, coreEntries_alone alone empty]
  have unfenced : q.fenced e.order e.op = false := by simp [Running.fenced, empty, replayed]
  unfold State.canIssue
  simp only [hard, aborting, preempt, restore, empty, units, unfenced, idle]
  split
  next dec k v isWait => simp [free dec k v isWait]
  next => simp

/-- A step fetched behind no other issues once it can. -/
theorem tryIssue_next {s : State} {core slot : Nat} {q : Running} {h : StepHdr} {op : StepOp} (runs : s.running core slot = some q) (replayed : q.replay = [])
    (queue : q.queue = [(h, op)]) (can : s.canIssue core slot q (s.newEntry core q h op none) = true) :
    s.tryIssue core slot = some (s.issueEntry core slot q (s.newEntry core q h op none) false) := by
  unfold State.tryIssue Running.next
  simp only [runs, replayed, queue, List.head?_nil, List.head?_cons, can, if_true, Option.isSome_none]

/-! ### A lone task's fetched step (R122) -/

section Solo

variable {s : State} {h : StepHdr} {op : StepOp} {r : Running}

theorem issuedEntry_op : (issuedEntry s h op r).op = op := rfl

theorem issuedEntry_hdr : (issuedEntry s h op r).hdr = h := rfl

theorem issuedEntry_phase : (issuedEntry s h op r).phase = .queued := rfl

/-- A lone task that has fetched a step is alone with it. -/
theorem fetchedState_alone (solo : Solo s h.core h.slot r) : Alone (fetchedState s h op r) h.core h.slot { r with queue := [(h, op)] } := by
  obtain ⟨-, low, runs, others, -⟩ := solo
  exact Alone.setRunning (s := s) (r := r) ⟨low, runs, others⟩ _

/-- R118. The fetched step of a lone task issues. -/
theorem tryIssue_solo (solo : Solo s h.core h.slot r) (free : ∀ dec k v, op = .wait dec k v → s.ctrQuiet k = false) :
    (fetchedState s h op r).tryIssue h.core h.slot = some (issuedState s h op r) := by
  have alone := fetchedState_alone (op := op) solo
  obtain ⟨-, -, -, -, empty, -, replayed, fetches, idle⟩ := solo
  obtain ⟨-, hard, aborting, preempt, restore, -⟩ := fetches_iff.mp fetches
  exact tryIssue_next alone.2.1 replayed rfl (canIssue_empty alone ⟨hard, aborting, preempt, restore⟩ empty replayed idle free)

/-- R118, R125. A step command of a lone task leaves the core to go on from the issue of its step. -/
theorem exec_issued {c : Instr} (sends : stepOf c = some (h, op)) (solo : Solo s h.core h.slot r) (isOn : s.pageOn (seqPage h.core) = true)
    (free : ∀ dec k v, op = .wait dec k v → s.ctrQuiet k = false) : exec c s = .next (settled (issuedState s h op r) h.core 255) := by
  have alone := fetchedState_alone (op := op) solo
  have issues := tryIssue_solo solo free
  obtain ⟨awake, -, runs, -, empty, queue, -, fetches, -⟩ := solo
  obtain ⟨-, -, -, -, restore, -⟩ := fetches_iff.mp fetches
  have acts : (fetchedState s h op r).coreAction h.core = some (issuedState s h op r) := by
    rw [coreAction_alone alone, entryAction_empty alone.2.1 restore empty, issues, halted_of (t := fetchedState s h op r) (s := s) rfl rfl, awake]
    rfl
  rw [exec_fetched sends isOn runs fetches, queue]
  exact congrArg (fun t : State => (.next t : Outcome)) (pump_step acts)

/-- The task of an issued step that a unit is to run, or of a wait, has that step alone in its window. -/
theorem issuedTask_window (solo : Solo s h.core h.slot r) (e : Entry) : (Running.issued { r with queue := [(h, op)] } e false).window = [e] := by
  obtain ⟨-, -, -, -, empty, -⟩ := solo
  show r.window ++ [e] = [e]
  rw [empty]
  rfl

/-- A CTL step changes address registers and the next step index alone. -/
theorem ctlEffect_rest (q : Running) (op : StepOp) : ctlEffect q op = { q with aregs := (ctlEffect q op).aregs, pc := (ctlEffect q op).pc } := by
  unfold ctlEffect
  split
  case h_3 => split <;> rfl
  all_goals rfl

/-- R143. The next step index and the address registers after the issue of a step are those that its rule gives. -/
theorem issued_ctl (q : Running) {e : Entry} (good : e.status = .ok) :
    (q.issued e false).pc = (ctlEffect q e.op).pc ∧ (q.issued e false).aregs = (ctlEffect q e.op).aregs := by
  unfold Running.issued
  simp only [good, if_true, Bool.false_eq_true, if_false]
  exact ⟨trivial, trivial⟩

/-- What the issue of a fetched step leaves of the task. -/
theorem issued_rest (q : Running) (e : Entry) : (q.issued e false).task = q.task ∧ (q.issued e false).replay = q.replay ∧
    (q.issued e false).hard = q.hard ∧ (q.issued e false).soft = q.soft ∧ (q.issued e false).preempt = q.preempt ∧ (q.issued e false).restore = q.restore ∧
    (q.issued e false).aborting = q.aborting ∧ (q.issued e false).ended = e.hdr.last ∧ (q.issued e false).queue = (if e.hdr.last then [] else q.queue.tail) := by
  unfold Running.issued
  simp only [Bool.false_eq_true, if_false]
  split
  · rw [ctlEffect_rest q e.op]
    simp
  · simp

/-- A lone task whose step has just issued has fetched nothing more. -/
theorem issued_queue (e : Entry) : (Running.issued { r with queue := [(h, op)] } e false).queue = [] := by
  obtain ⟨-, -, -, -, -, -, -, -, queue⟩ := issued_rest { r with queue := [(h, op)] } e
  rw [queue]
  split <;> rfl

theorem issued_replay (solo : Solo s h.core h.slot r) (e : Entry) : (Running.issued { r with queue := [(h, op)] } e false).replay = [] := by
  obtain ⟨-, -, -, -, -, -, replayed, -⟩ := solo
  exact (issued_rest { r with queue := [(h, op)] } e).2.1.trans replayed

theorem issued_restore (solo : Solo s h.core h.slot r) (e : Entry) : (Running.issued { r with queue := [(h, op)] } e false).restore = none := by
  obtain ⟨-, -, -, -, -, -, -, fetches, -⟩ := solo
  obtain ⟨-, -, -, -, restore, -⟩ := fetches_iff.mp fetches
  obtain ⟨-, -, -, -, -, kept, -⟩ := issued_rest { r with queue := [(h, op)] } e
  exact kept.trans restore

end Solo

/-! ### The start of a step (R124) -/

/-- A step that waits for its unit alone in its window starts once it can. -/
theorem entryAction_starts {s : State} {core slot : Nat} {q : Running} {e : Entry} (runs : s.running core slot = some q) (restored : q.restore = none) (window : q.window = [e])
    (waits : e.phase = .queued) (can : s.canStart core q e = true) : s.entryAction core slot = some (s.startEntry core slot q e) := by
  have idle : s.unblock core slot q e = none := by
    unfold State.unblock
    rw [waits]
    rfl
  unfold State.entryAction
  simp only [runs, restored, window, Option.isSome_none, Bool.false_eq_true, if_false, List.findSome?_cons, idle, can, if_true]

/-- Settles O7: the step is fetched, issues and starts by one action of the core each. -/
theorem stepsIssueAndStart : Obligations.StepsIssueAndStart := by
  intro c h op r s sends solo isOn good later unit can
  have noWait : ∀ dec k v, op = .wait dec k v → s.ctrQuiet k = false := by
    rintro dec k v rfl
    cases unit
  have issued : issuedState s h op r = (issueCounted (fetchedState s h op r) h.core h.slot).setRunning h.core h.slot (some (issuedTask s h op r)) :=
    issueEntry_unit good issuedEntry_phase later unit
  have alone : Alone (issuedState s h op r) h.core h.slot (issuedTask s h op r) := by
    rw [issued]
    exact Alone.setRunning (s := issueCounted _ _ _) ((fetchedState_alone solo).of_slots rfl) _
  have starts := entryAction_starts alone.2.1 (issued_restore solo _) (issuedTask_window solo _) issuedEntry_phase can
  have awake : halted (seqPage h.core) (issuedState s h op r) = false := by
    rw [issued]
    exact (halted_of (s := s) rfl rfl _).trans solo.1
  have acts : (issuedState s h op r).coreAction h.core = some ((issuedState s h op r).startEntry h.core h.slot (issuedTask s h op r) (issuedEntry s h op r)) := by
    rw [coreAction_alone alone, awake, starts]
    rfl
  rw [exec_issued sends solo isOn noWait]
  exact congrArg (fun t : State => (.next t : Outcome)) (settled_step acts)

end Sys2Proof.Proofs

/-!
The sequencer's own steps and the waits (R129, R141 to R143, R235 to R237): what a step does that completes as it issues, what a wait does, and what the slot registers follow.
-/

namespace Sys2Proof.Proofs

open Sys2Proof.Machine Sys2Proof.Laws Sys2Proof.Claims

/-! ### Register addresses -/

/-- Fields of words at two addresses are held apart. -/
theorem key_ne_of_addr {f g : Field} (lf : f.lsb < 32) (lg : g.lsb < 32) (h : f.addr ≠ g.addr) : f.key ≠ g.key := by
  unfold Field.key
  omega

/-- A fold keeps what each of its steps keeps. -/
theorem foldl_keeps {γ : Type} {P : State → State → Prop} (hr : ∀ s, P s s) (ht : ∀ s t u, P s t → P t u → P s u) {g : State → γ → State} {l : List γ}
    (h : ∀ s, ∀ a ∈ l, P s (g s a)) (s : State) : P s (l.foldl g s) := by
  induction l generalizing s with
  | nil => exact hr s
  | cons a l ih => exact ht _ _ _ (h s a List.mem_cons_self) (ih (fun t b hb => h t b (List.mem_cons_of_mem _ hb)) _)

/-! ### The slot registers follow (R144, R158) -/

/-- Only registers differ. -/
def SameButRegs (s t : State) : Prop := ∃ r, t = { s with regs := r }

theorem SameButRegs.refl (s : State) : SameButRegs s s := ⟨_, rfl⟩

theorem SameButRegs.trans {s t u : State} (h : SameButRegs s t) (h' : SameButRegs t u) : SameButRegs s u := by
  obtain ⟨r, rfl⟩ := h
  obtain ⟨r', rfl⟩ := h'
  exact ⟨r', rfl⟩

theorem SameButRegs.set (s : State) (f : Field) (v : Nat) : SameButRegs s (s.set f v) := ⟨_, rfl⟩

/-- R158. The registers of a slot alone follow its task. -/
theorem slotRefresh_sameButRegs (s : State) (core slot : Nat) : SameButRegs s (s.slotRefresh core slot) := by
  unfold State.slotRefresh
  dsimp only
  split
  · exact ((SameButRegs.set _ _ _).trans (.set _ _ _)).trans (.set _ _ _)
  · exact (SameButRegs.set _ _ _).trans (.set _ _ _)

/-- R158. Of the registers, those of the slot's two words follow. -/
theorem slotRefresh_get {s : State} {core slot : Nat} {f : Field} (low : f.lsb < 32) (stat : f.addr ≠ (SLOT_STAT_STATE core slot).addr) (step : f.addr ≠ (SLOT_STEP core slot).addr) :
    (s.slotRefresh core slot).get f = s.get f := by
  have state : f.key ≠ (SLOT_STAT_STATE core slot).key := key_ne_of_addr low (by simp [SLOT_STAT_STATE]) stat
  have inflight : f.key ≠ (SLOT_STAT_INFLIGHT core slot).key := key_ne_of_addr low (by simp [SLOT_STAT_INFLIGHT]) stat
  have index : f.key ≠ (SLOT_STEP core slot).key := key_ne_of_addr low (by simp [SLOT_STEP]) step
  unfold State.slotRefresh
  dsimp only
  split
  · rw [State.get_set_ne index, State.get_set_ne inflight, State.get_set_ne state]
  · rw [State.get_set_ne inflight, State.get_set_ne state]

/-- R158. A core that has settled differs by its slot registers from the state in which nothing moves any more. -/
theorem settled_end {s : State} {core n : Nat} (still : s.coreAction core = none) : SameButRegs s (settled s core n) ∧
    ∀ f : Field, f.lsb < 32 → (∀ i, i < 4 → f.addr ≠ (SLOT_STAT_STATE core i).addr ∧ f.addr ≠ (SLOT_STEP core i).addr) → (settled s core n).get f = s.get f := by
  rw [settled_still still]
  constructor
  · exact foldl_keeps SameButRegs.refl (fun _ _ _ => SameButRegs.trans) (fun t i _ => slotRefresh_sameButRegs t core i) s
  · intro f low apart
    refine foldl_keeps (P := fun a b => b.get f = a.get f) (fun _ => rfl) (fun _ _ _ h h' => h'.trans h) (fun t i hi => ?_) s
    obtain ⟨stat, step⟩ := apart i (List.mem_range.mp hi)
    exact slotRefresh_get low stat step

/-! ### A step that completes as it issues (R125, R129) -/

/-- R129, R141 to R143. The sequencer's own steps do their work at issue; they write nothing, leave the chip by no port and count nothing. -/
theorem ownStep_plain {op : StepOp} (own : ownStep op = true) : atOnce op = true ∧ stepWrites op = false ∧ transferTo 7 op = false ∧ flushes op = false ∧
    (∀ (s : State) (e : Entry), e.op = op → s.linkWithheld e = false) ∧ ∀ (s : State) (core : Nat) (e : Entry), e.op = op → s.countStep core e none = s := by
  have count {t : State} {c : Prop} [Decidable c] : (if c then t else t) = t := ite_self t
  cases op <;> cases own <;> exact ⟨rfl, rfl, rfl, rfl, fun s e is => by simp only [State.linkWithheld, is], fun s core e is => by simp only [State.countStep, is, count]⟩

/-- R124, R126. Nothing withholds the completion of one of the sequencer's own steps that does not signal. -/
theorem canComplete_own {s : State} {core slot : Nat} {q : Running} {e : Entry} (own : ownStep e.op = true) (ran : e.phase = .ran) (good : e.status = .ok)
    (silent : e.hdr.sigEn = false) : s.canComplete core slot q e = true := by
  obtain ⟨-, writes, transfers, flush, link, -⟩ := ownStep_plain own
  have noWait : ∀ dec k v, e.op ≠ .wait dec k v := by
    intro dec k v is
    rw [is] at own
    cases own
  unfold State.canComplete Entry.writesWork State.signals
  simp only [good, writes, transfers, flush, link s e rfl, silent, ne_eq, not_true_eq_false, decide_false, Bool.false_and, Bool.false_eq_true, if_false]
  simp [ran]

/-- R66, R126. One of the sequencer's own steps that has raised no flag and does not signal completes by leaving the window. -/
theorem stepDone_own {s : State} {core slot : Nat} {q : Running} {e : Entry} (own : ownStep e.op = true) (flags : e.flags = 0) (silent : e.hdr.sigEn = false) :
    s.stepDone core slot q e .ok = ((s.addFlags core q.task.ctx 0).mapRunning core slot fun r => r.stepEnded e .ok).endCheck core slot := by
  obtain ⟨-, -, -, -, -, count⟩ := ownStep_plain own
  unfold State.stepDone
  have none : contributed .ok e.flags = 0 := by rw [flags]; rfl
  have quiet (t : State) : t.signals core e = false := by simp [State.signals, silent]
  simp only [none, count _ core e rfl, quiet]
  simp

/-- R125. One of the sequencer's own steps completes as soon as it has run. -/
theorem tryComplete_own {s : State} {core slot seq : Nat} {q : Running} {e : Entry} (found : s.entryAt core slot seq = some (q, e)) (own : ownStep e.op = true)
    (ran : e.phase = .ran) (good : e.status = .ok) (silent : e.hdr.sigEn = false) (writes : e.writes = []) (flags : e.flags = 0) :
    s.tryComplete core slot seq = ((s.addFlags core q.task.ctx 0).mapRunning core slot fun r => r.stepEnded e .ok).endCheck core slot := by
  obtain ⟨-, -, -, flush, -⟩ := ownStep_plain own
  unfold State.tryComplete
  simp only [found, canComplete_own own ran good silent, if_true]
  unfold State.complete State.writeAll
  simp only [writes, List.foldl_nil, firstBad, good, if_true, flush, Bool.false_and, Bool.false_eq_true, if_false]
  exact stepDone_own own flags silent

/-- A step that leaves the window where it stands alone leaves it empty. -/
theorem stepEnded_ok (q : Running) (e : Entry) : q.stepEnded e .ok = { q with window := q.window.filter (fun x => x.seq != e.seq) } := rfl

/-- A task with nothing in flight that is neither stopped nor at its end runs on. -/
theorem endCheck_runs {s : State} {core slot : Nat} {q : Running} (runs : s.running core slot = some q) (empty : q.window = []) (going : q.aborting = false) (hard : q.hard = none)
    (more : q.ended = false) : s.endCheck core slot = s.slotRefresh core slot := by
  unfold State.endCheck
  simp only [runs, empty, going, hard, more]
  simp

/-- The state in which a lone task's own step has had its effect on the context and has run. -/
def ownRan (s : State) (h : StepHdr) (op : StepOp) (r : Running) : State :=
  ((issueCounted (fetchedState s h op r) h.core h.slot).ctxEffect h.core r.task.ctx op).setRunning h.core h.slot
    (some (Running.issued { r with queue := [(h, op)] } { issuedEntry s h op r with phase := .ran } false))

/-- R142. A step's effect on its context is on the context's words alone. -/
theorem ctxEffect_cases (s : State) (core ctx : Nat) (op : StepOp) : SameButRegs s (s.ctxEffect core ctx op) := by
  unfold State.ctxEffect
  split
  · exact .set _ _ _
  · exact .set _ _ _
  · exact .refl _

section Own

variable {s : State} {h : StepHdr} {op : StepOp} {r : Running}

theorem ownRan_sameBut (s : State) (h : StepHdr) (op : StepOp) (r : Running) : (ownRan s h op r).sync = s.sync ∧ (ownRan s h op r).mem = s.mem := by
  obtain ⟨regs, e⟩ := ctxEffect_cases (issueCounted (fetchedState s h op r) h.core h.slot) h.core r.task.ctx op
  unfold ownRan
  rw [e]
  exact ⟨rfl, rfl⟩

theorem ownRan_alone (solo : Solo s h.core h.slot r) : Alone (ownRan s h op r) h.core h.slot
    (Running.issued { r with queue := [(h, op)] } { issuedEntry s h op r with phase := .ran } false) := by
  obtain ⟨regs, e⟩ := ctxEffect_cases (issueCounted (fetchedState s h op r) h.core h.slot) h.core r.task.ctx op
  refine Alone.setRunning (r := { r with queue := [(h, op)] }) ((fetchedState_alone solo).of_slots ?_) _
  rw [e]
  rfl

/-- What is left of a lone task once its own step has completed. -/
def ownTask (s : State) (h : StepHdr) (op : StepOp) (r : Running) : Running :=
  (Running.issued { r with queue := [(h, op)] } { issuedEntry s h op r with phase := .ran } false).stepEnded { issuedEntry s h op r with phase := .ran } .ok

/-- The task that its own step leaves has nothing in flight or fetched, and stands at the step index and with the address registers that the step's rule gives. -/
theorem ownTask_eq (solo : Solo s h.core h.slot r) (good : (issuedEntry s h op r).status = .ok) (more : h.last = false) :
    (ownTask s h op r).pc = (ctlEffect r op).pc ∧ (ownTask s h op r).aregs = (ctlEffect r op).aregs ∧ (ownTask s h op r).window = [] ∧ (ownTask s h op r).queue = [] ∧
      (ownTask s h op r).replay = [] ∧ (ownTask s h op r).task = r.task ∧ (ownTask s h op r).hard = none ∧ (ownTask s h op r).aborting = false ∧
      (ownTask s h op r).ended = false ∧ (ownTask s h op r).restore = none := by
  have window := issuedTask_window (op := op) solo { issuedEntry s h op r with phase := .ran }
  have queue := issued_queue (r := r) (h := h) (op := op) { issuedEntry s h op r with phase := .ran }
  have replay := issued_replay (op := op) solo { issuedEntry s h op r with phase := .ran }
  have restore := issued_restore (op := op) solo { issuedEntry s h op r with phase := .ran }
  obtain ⟨pc, aregs⟩ := issued_ctl { r with queue := [(h, op)] } (e := { issuedEntry s h op r with phase := .ran }) good
  obtain ⟨task, -, hard, -, -, -, aborting, ended, -⟩ := issued_rest { r with queue := [(h, op)] } { issuedEntry s h op r with phase := .ran }
  obtain ⟨-, -, -, -, -, -, -, fetches, -⟩ := solo
  obtain ⟨-, noHard, noAbort, -⟩ := fetches_iff.mp fetches
  have ctl : (ctlEffect { r with queue := [(h, op)] } op).pc = (ctlEffect r op).pc ∧ (ctlEffect { r with queue := [(h, op)] } op).aregs = (ctlEffect r op).aregs := by
    unfold ctlEffect
    split
    case h_3 => split <;> exact ⟨rfl, rfl⟩
    all_goals exact ⟨rfl, rfl⟩
  refine ⟨pc.trans ctl.1, aregs.trans ctl.2, ?_, queue, replay, task, hard.trans noHard, aborting.trans noAbort, ended.trans more, restore⟩
  unfold ownTask
  rw [stepEnded_ok, window]
  simp

/-- R129. Once a lone task's own step has issued it has completed: the task runs on with nothing in flight. -/
theorem issuedState_own (solo : Solo s h.core h.slot r) (good : (issuedEntry s h op r).status = .ok) (own : ownStep op = true) (silent : h.sigEn = false) (more : h.last = false) :
    issuedState s h op r = ((ownRan s h op r).addFlags h.core r.task.ctx 0 |>.setRunning h.core h.slot (some (ownTask s h op r))).slotRefresh h.core h.slot := by
  have window := issuedTask_window (op := op) solo { issuedEntry s h op r with phase := .ran }
  obtain ⟨-, runs, -⟩ := ownRan_alone (op := op) solo
  have task : (Running.issued { r with queue := [(h, op)] } { issuedEntry s h op r with phase := .ran } false).task = r.task := (issued_rest _ _).1
  have found : (ownRan s h op r).entryAt h.core h.slot (issuedEntry s h op r).seq =
      some (Running.issued { r with queue := [(h, op)] } { issuedEntry s h op r with phase := .ran } false, { issuedEntry s h op r with phase := .ran }) := by
    unfold State.entryAt
    rw [runs]
    simp [window]
  have run : issuedState s h op r = (ownRan s h op r).tryComplete h.core h.slot (issuedEntry s h op r).seq := issueEntry_atOnce good issuedEntry_phase (ownStep_plain own).1
  obtain ⟨-, -, empty, -, -, -, hard, aborting, ended, -⟩ := ownTask_eq solo good more
  rw [run, tryComplete_own found own rfl good silent rfl rfl, task]
  unfold State.mapRunning
  rw [show ((ownRan s h op r).addFlags h.core r.task.ctx 0).running h.core h.slot = _ from runs]
  exact endCheck_runs (State.running_setRunning_self _ _ _ _) empty aborting hard ended

end Own

end Sys2Proof.Proofs

/-!
Waits on counters (R235 to R237, R251): what a counter that takes a value does, and that a wait satisfied or pending changes the counters alone; then the sequencer's own steps and
waits of a lone task.
-/

namespace Sys2Proof.Proofs

open Sys2Proof.Machine Sys2Proof.Laws Sys2Proof.Claims

/-! ### Counters (R235, R251) -/

@[simp] theorem raiseCtr_sync (s : State) (c bit : Nat) : (s.raiseCtr c bit).sync = s.sync := by
  unfold State.raiseCtr
  split
  · exact s.raiseFn_sync _ _ _
  · rfl

/-- R251. What the counters hold after the test of a watch. -/
theorem fireWatch_sync (s : State) (c : Nat) : (s.fireWatch c).sync =
    if (s.counter c).armed ∧ (s.counter c).watch ≤ (s.counter c).value then (s.setCounter c { s.counter c with armed := false, notify := true }).sync else s.sync := by
  unfold State.fireWatch
  dsimp only
  split
  · exact raiseCtr_sync _ _ _
  · rfl

/-- Counters of states with one and the same counters and waits read the same. -/
theorem counter_of_sync {s t : State} (h : t.sync = s.sync) (c : Nat) : t.counter c = s.counter c := by
  unfold State.counter
  rw [h]

theorem fireWatch_sync_congr {s t : State} (h : t.sync = s.sync) (c : Nat) : (t.fireWatch c).sync = (s.fireWatch c).sync := by
  rw [fireWatch_sync, fireWatch_sync, counter_of_sync h, State.setCounter, State.setCounter, h]

/-- R237. The value that a counter which takes `v` keeps, and the waits left. -/
def settledValue (s : State) (c v : Nat) : Nat × List Wait := if (s.counter c).value < v then testWaits c v s.sync.waits else (v, s.sync.waits)

/-- R235. The state in which a counter has taken a value, before its watch is tested. -/
def valueTaken (s : State) (c v : Nat) : State :=
  { s with sync := { (s.setCounter c { s.counter c with value := (settledValue s c v).1 }).sync with waits := (settledValue s c v).2 } }

theorem putValue_eq (s : State) (c v : Nat) : s.putValue c v = (valueTaken s c v).fireWatch c := rfl

theorem valueTaken_self (s : State) (c v : Nat) : (valueTaken s c v).counter c = { s.counter c with value := (settledValue s c v).1 } :=
  State.counter_setCounter_self s c _

theorem valueTaken_ne {c d : Nat} (h : d ≠ c) (s : State) (v : Nat) : (valueTaken s c v).counter d = s.counter d := State.counter_setCounter_ne h s _

theorem putValue_sync_congr {s t : State} (h : t.sync = s.sync) (c v : Nat) : (t.putValue c v).sync = (s.putValue c v).sync := by
  rw [putValue_eq, putValue_eq]
  refine fireWatch_sync_congr ?_ c
  unfold valueTaken settledValue State.setCounter
  rw [counter_of_sync h c, h]

/-- R235, R237, R251. A counter that takes a value tests the waits on a rise, then its watch. -/
theorem putValue_takes (s : State) (c v : Nat) : CounterTakes s c v (s.putValue c v) := by
  have only : OnlyParts [.sync, .pages, .msgs] s (s.putValue c v) := onlyParts_of_good (State_putValue_good c v (good_self s _) rfl rfl rfl)
  have sync := fireWatch_sync (valueTaken s c v) c
  rw [← putValue_eq, valueTaken_self] at sync
  by_cases fires : (s.counter c).armed = true ∧ (s.counter c).watch ≤ (settledValue s c v).1
  · rw [if_pos fires] at sync
    have self := (counter_of_sync sync c).trans (State.counter_setCounter_self _ c _)
    refine ⟨?_, ?_, ?_, fun _ => ?_, fun silent => absurd fires silent, fun d other => ?_, only⟩
    · rw [self]; rfl
    · rw [sync]; rfl
    · rw [self]
    · rw [self]
      exact ⟨rfl, rfl⟩
    · rw [counter_of_sync sync, State.counter_setCounter_ne other, valueTaken_ne other]
  · rw [if_neg fires] at sync
    have self := (counter_of_sync sync c).trans (valueTaken_self s c v)
    refine ⟨?_, ?_, ?_, fun fired => absurd fired fires, fun _ => ?_, fun d other => ?_, only⟩
    · rw [self]; rfl
    · rw [sync]; rfl
    · rw [self]
    · rw [self]
      exact ⟨rfl, rfl⟩
    · rw [counter_of_sync sync, valueTaken_ne other]

/-! ### Waits (R236, R237) -/

/-- R236. A wait whose counter has reached its value is satisfied at once. -/
theorem ctrWait_satisfied {s : State} {w : Wait} (reached : w.value ≤ (s.counter w.ctr).value) :
    s.ctrWait w = if w.dec then s.putValue w.ctr ((s.counter w.ctr).value - w.value) else s := by
  unfold State.ctrWait
  exact if_pos reached

/-- R236. A wait whose counter has not reached its value is the last of the pending ones. -/
theorem ctrWait_pending {s : State} {w : Wait} (short : (s.counter w.ctr).value < w.value) :
    s.ctrWait w = { s with sync := { s.sync with waits := s.sync.waits ++ [w] } } := by
  unfold State.ctrWait
  exact if_neg (by omega)

/-- A wait does to the counters what the counters alone decide. -/
theorem ctrWait_sync_congr {s t : State} (h : t.sync = s.sync) (w : Wait) : (t.ctrWait w).sync = (s.ctrWait w).sync := by
  have same := counter_of_sync h w.ctr
  by_cases reached : w.value ≤ (s.counter w.ctr).value
  · rw [ctrWait_satisfied (s := t) (w := w) (by rw [same]; exact reached), ctrWait_satisfied (s := s) (w := w) reached, same]
    split
    · exact putValue_sync_congr h w.ctr _
    · exact h
  · rw [ctrWait_pending (s := t) (w := w) (by rw [same]; omega), ctrWait_pending (s := s) (w := w) (by omega), h]

/-- R236. A wait leaves everything but counters, events and messages. -/
theorem ctrWait_only (s : State) (w : Wait) : OnlyParts [.sync, .pages, .msgs] s (s.ctrWait w) :=
  onlyParts_of_good (State_ctrWait_good w (good_self s _) rfl rfl rfl)

/-- Two states whose memories' parts are the same have the same memories. -/
theorem mem_of_parts {s t : State} (ws : SamePart s t .ws) (act : SamePart s t .act) (hbm : SamePart s t .hbm) (caches : SamePart s t .caches) (rest : SamePart s t .mem) :
    t.mem = s.mem := by
  simp only [SamePart, Memory.mk.injEq] at ws act hbm caches rest
  cases hs : s.mem
  cases ht : t.mem
  simp_all

/-! ### The obligation -/

section

variable {s : State} {h : StepHdr} {r : Running}

/-- R143. The registers of a slot's two words and of a context's stand at different addresses. -/
theorem context_apart {core ctx i : Nat} (hc : ctx < 16) (hi : i < 4) (off : Nat) (ho : off < 0x20) :
    0x107000 + core * 0x10000 + 0x200 + ctx * 0x20 + off ≠ (SLOT_STAT_STATE core i).addr ∧ 0x107000 + core * 0x10000 + 0x200 + ctx * 0x20 + off ≠ (SLOT_STEP core i).addr := by
  simp only [SLOT_STAT_STATE, SLOT_STEP]
  omega

theorem salt_apart {core ctx i : Nat} (hc : ctx < 16) (hi : i < 4) : (CTX_SALT core ctx).addr ≠ (SLOT_STAT_STATE core i).addr ∧ (CTX_SALT core ctx).addr ≠ (SLOT_STEP core i).addr :=
  context_apart hc hi 0x18 (by decide)

theorem flags_apart {core ctx i : Nat} (hc : ctx < 16) (hi : i < 4) : (CTX_FLAGS core ctx).addr ≠ (SLOT_STAT_STATE core i).addr ∧ (CTX_FLAGS core ctx).addr ≠ (SLOT_STEP core i).addr :=
  context_apart hc hi 0x14 (by decide)

/-- R129. A lone task's own step has completed by the end of its command, in a core in which nothing else moves. -/
theorem own_settled {op : StepOp} (solo : Solo s h.core h.slot r) (good : (issuedEntry s h op r).status = .ok) (own : ownStep op = true) (silent : h.sigEn = false)
    (more : h.last = false) (n : Nat) : (settled (issuedState s h op r) h.core n).running h.core h.slot = some (ownTask s h op r) ∧
      (settled (issuedState s h op r) h.core n).sync = s.sync ∧ (settled (issuedState s h op r) h.core n).mem = s.mem ∧
      ∀ f : Field, f.lsb < 32 → (∀ i, i < 4 → f.addr ≠ (SLOT_STAT_STATE h.core i).addr ∧ f.addr ≠ (SLOT_STEP h.core i).addr) →
        (settled (issuedState s h op r) h.core n).get f = ((ownRan s h op r).addFlags h.core r.task.ctx 0).get f := by
  obtain ⟨-, -, empty, queue, replay, -, -, -, -, restore⟩ := ownTask_eq solo good more
  have alone : Alone (issuedState s h op r) h.core h.slot (ownTask s h op r) := by
    obtain ⟨regs, e⟩ := slotRefresh_sameButRegs ((ownRan s h op r).addFlags h.core r.task.ctx 0 |>.setRunning h.core h.slot (some (ownTask s h op r))) h.core h.slot
    have set : Alone ((ownRan s h op r).addFlags h.core r.task.ctx 0 |>.setRunning h.core h.slot (some (ownTask s h op r))) h.core h.slot (ownTask s h op r) :=
      Alone.setRunning ((ownRan_alone solo).of_slots rfl) _
    rw [issuedState_own solo good own silent more]
    exact set.of_slots (by rw [e])
  have still : (issuedState s h op r).coreAction h.core = none := by
    rw [coreAction_alone alone, entryAction_empty alone.2.1 restore empty, tryIssue_empty alone.2.1 replay queue]
    exact ite_self _
  obtain ⟨⟨regs, same⟩, kept⟩ := settled_end (n := n) still
  obtain ⟨sync, mem⟩ := ownRan_sameBut s h op r
  obtain ⟨regs', refreshed⟩ := slotRefresh_sameButRegs ((ownRan s h op r).addFlags h.core r.task.ctx 0 |>.setRunning h.core h.slot (some (ownTask s h op r))) h.core h.slot
  have issued := issuedState_own solo good own silent more
  refine ⟨?_, ?_, ?_, fun f low apart => ?_⟩
  · rw [same]
    exact alone.2.1
  · rw [same, issued, refreshed]
    exact sync
  · rw [same, issued, refreshed]
    exact mem
  · obtain ⟨stat, step⟩ := apart h.slot solo.2.1
    rw [kept f low apart, issued, slotRefresh_get low stat step]
    rfl

/-- R142. SALT_SET gives the context its salt. -/
theorem ownRan_salt (v : Nat) : ((ownRan s h (.saltSet v) r).addFlags h.core r.task.ctx 0).get (CTX_SALT h.core r.task.ctx) = v % 2 ^ 32 := by
  refine (State.get_set_ne (f := CTX_FLAGS h.core r.task.ctx) (g := CTX_SALT h.core r.task.ctx) ?_ _ _).trans (State.get_set_self _ _ v)
  exact key_ne_of_addr (by simp [CTX_SALT]) (by simp [CTX_FLAGS]) (by simp [CTX_SALT, CTX_FLAGS])

/-- R142. FLAGS_CLR clears the flags of its mask. -/
theorem ownRan_flags (m : Nat) : ((ownRan s h (.flagsClr m) r).addFlags h.core r.task.ctx 0).get (CTX_FLAGS h.core r.task.ctx) =
    (s.get (CTX_FLAGS h.core r.task.ctx) - (s.get (CTX_FLAGS h.core r.task.ctx) &&& (m % 32))) % 2 ^ 5 := by
  have counted : (issueCounted (fetchedState s h (.flagsClr m) r) h.core h.slot).get (CTX_FLAGS h.core r.task.ctx) = s.get (CTX_FLAGS h.core r.task.ctx) := by
    refine State.get_add_ne (f := CORE_ISSUE_CNT h.core) (g := CTX_FLAGS h.core r.task.ctx) ?_ (fetchedState s h (.flagsClr m) r) 1
    exact key_ne_of_addr (by simp [CTX_FLAGS]) (by simp [CORE_ISSUE_CNT]) (by simp only [CTX_FLAGS, CORE_ISSUE_CNT]; omega)
  have cleared : (ownRan s h (.flagsClr m) r).get (CTX_FLAGS h.core r.task.ctx) =
      (s.get (CTX_FLAGS h.core r.task.ctx) - (s.get (CTX_FLAGS h.core r.task.ctx) &&& (m % 32))) % 2 ^ 5 := by
    rw [← counted]
    exact State.get_set_self _ _ _
  unfold State.addFlags
  rw [State.get_set_self, cleared, Nat.or_zero]
  exact Nat.mod_mod _ _

/-- R236. A lone task's wait is in its window by the end of its command, and has taken effect on the counters. -/
theorem wait_settled {dec : Bool} {k v : Nat} (solo : Solo s h.core h.slot r) (good : (issuedEntry s h (.wait dec k v) r).status = .ok) (n : Nat) :
    (settled (issuedState s h (.wait dec k v) r) h.core n).sync = (s.ctrWait { core := h.core, slot := h.slot, ctr := k, value := v % 65536, dec := dec }).sync ∧
      (∃ q, (settled (issuedState s h (.wait dec k v) r) h.core n).running h.core h.slot = some q ∧ q.window.length = 1) ∧
      (settled (issuedState s h (.wait dec k v) r) h.core n).mem = s.mem := by
  have issued : issuedState s h (.wait dec k v) r = _ := issueEntry_wait good issuedEntry_phase rfl
  have window := issuedTask_window (op := .wait dec k v) solo { issuedEntry s h (.wait dec k v) r with phase := .blocked }
  have queue := issued_queue (r := r) (h := h) (op := .wait dec k v) { issuedEntry s h (.wait dec k v) r with phase := .blocked }
  have replay := issued_replay (op := .wait dec k v) solo { issuedEntry s h (.wait dec k v) r with phase := .blocked }
  have restore := issued_restore (op := .wait dec k v) solo { issuedEntry s h (.wait dec k v) r with phase := .blocked }
  generalize Running.issued { r with queue := [(h, .wait dec k v)] } { issuedEntry s h (.wait dec k v) r with phase := .blocked } false = q at window queue replay restore issued
  generalize before : (issueCounted (fetchedState s h (.wait dec k v) r) h.core h.slot).setRunning h.core h.slot (some q) = t at issued
  have placed : Alone t h.core h.slot q := by
    rw [← before]
    exact Alone.setRunning (s := issueCounted _ _ _) ((fetchedState_alone solo).of_slots rfl) _
  have only := ctrWait_only t { core := h.core, slot := h.slot, ctr := k, value := v % 65536, dec := dec }
  have alone : Alone (issuedState s h (.wait dec k v) r) h.core h.slot q := by
    rw [issued]
    exact placed.of_slots (congrArg Work.slots (only .work (by decide)))
  have blocked : (issuedState s h (.wait dec k v) r).entryAction h.core h.slot = none := by
    unfold State.entryAction State.unblock State.canStart
    simp only [alone.2.1, restore, window]
    rfl
  have still : (issuedState s h (.wait dec k v) r).coreAction h.core = none := by
    rw [coreAction_alone alone, blocked, tryIssue_empty alone.2.1 replay queue]
    exact ite_self _
  obtain ⟨⟨regs, same⟩, -⟩ := settled_end (n := n) still
  rw [same]
  refine ⟨?_, ⟨q, alone.2.1, by rw [window]; rfl⟩, ?_⟩
  · show (issuedState s h (.wait dec k v) r).sync = _
    rw [issued]
    refine ctrWait_sync_congr ?_ _
    rw [← before]
    rfl
  · show (issuedState s h (.wait dec k v) r).mem = _
    rw [issued, mem_of_parts (only .ws (by decide)) (only .act (by decide)) (only .hbm (by decide)) (only .caches (by decide)) (only .mem (by decide)), ← before]
    rfl

end

/-- Settles O8: an own step by the state in which it has completed, a wait by what it does to the counters. -/
theorem sequencerStepsAndWaitsTakeEffect : Obligations.SequencerStepsAndWaitsTakeEffect := by
  refine ⟨?own, ?wait, ?satisfied, ?pending, ?taken⟩
  case own =>
    intro c h op r s sends solo isOn good own silent more low
    have noWait : ∀ dec k v, op = .wait dec k v → s.ctrQuiet k = false := by
      rintro dec k v rfl
      cases own
    obtain ⟨pc, aregs, empty, queue, -, task, -⟩ := ownTask_eq solo good more
    obtain ⟨runs, sync, mem, regs⟩ := own_settled solo good own silent more 255
    refine .of_next (exec_issued sends solo isOn noWait) ⟨_, runs, pc, aregs, empty, queue, task, sync, mem, ?_, ?_⟩
    · rintro v rfl
      rw [regs _ (by simp [CTX_SALT]) fun i hi => salt_apart low hi, ownRan_salt]
    · rintro m rfl
      rw [regs _ (by simp [CTX_FLAGS]) fun i hi => flags_apart low hi, ownRan_flags]
  case wait =>
    intro c h dec k v r s sends solo isOn good free
    have quiet : ∀ dec' k' v', StepOp.wait dec k v = .wait dec' k' v' → s.ctrQuiet k' = false := by
      rintro _ _ _ ⟨⟩
      exact free
    exact .of_next (exec_issued sends solo isOn quiet) (wait_settled solo good 255)
  case satisfied => exact fun k v core slot s reached => ctrWait_satisfied (w := { core := core, slot := slot, ctr := k, value := v, dec := false }) reached
  case pending =>
    intro dec k v core slot s short
    rw [ctrWait_pending (w := { core := core, slot := slot, ctr := k, value := v, dec := dec }) short]
  case taken =>
    intro k v core slot s reached
    rw [ctrWait_satisfied (w := { core := core, slot := slot, ctr := k, value := v, dec := true }) reached]
    exact putValue_takes s k _

end Sys2Proof.Proofs

/-!
Images (R154, R158): what the start of a load and its end leave in the context's registers and in the chip's work.
-/

namespace Sys2Proof.Proofs

open Sys2Proof.Machine Sys2Proof.Laws Sys2Proof.Claims

/-! ### The fields of a context's status -/

theorem loading_ne_loaded (core ctx : Nat) : (CTX_STAT_LOADING core ctx).key ≠ (CTX_STAT_LOADED core ctx).key := by
  simp [Field.key, CTX_STAT_LOADING, CTX_STAT_LOADED]

theorem loading_ne_status (core ctx : Nat) : (CTX_STAT_LOADING core ctx).key ≠ (CTX_STAT_LOAD_STATUS core ctx).key := by
  simp [Field.key, CTX_STAT_LOADING, CTX_STAT_LOAD_STATUS]

theorem loaded_ne_status (core ctx : Nat) : (CTX_STAT_LOADED core ctx).key ≠ (CTX_STAT_LOAD_STATUS core ctx).key := by
  simp [Field.key, CTX_STAT_LOADED, CTX_STAT_LOAD_STATUS]

/-- R616. A status stands whole in the 8 bits of a status field. -/
theorem code_byte (st : Status) : st.code % 2 ^ 8 = st.code := by
  cases st <;> rfl

/-! ### The end of a load (R154) -/

/-- R154, R159. A failed load changes LOAD_STATUS alone among the registers. -/
theorem loadFails_regs (s : State) (core ctx : Nat) (st : Status) : (s.loadFails core ctx st).regs = (s.set (CTX_STAT_LOAD_STATUS core ctx) st.code).regs :=
  State.raise_regs _ _ _

theorem loadFails_work (s : State) (core ctx : Nat) (st : Status) : (s.loadFails core ctx st).work = s.work := State.raise_work _ _ _

theorem loadFails_shows (s : State) (core ctx : Nat) (st : Status) : (s.loadFails core ctx st).shows 0 (seqPage core) 4 = true := State.raise_shows _ _ _

theorem loadFails_status (s : State) (core ctx : Nat) (st : Status) : (s.loadFails core ctx st).get (CTX_STAT_LOAD_STATUS core ctx) = st.code :=
  (State.get_of_regs (loadFails_regs s core ctx st) _).trans ((State.get_set_self _ _ _).trans (code_byte st))

theorem loadFails_loading (s : State) (core ctx : Nat) (st : Status) : (s.loadFails core ctx st).on (CTX_STAT_LOADING core ctx) = s.on (CTX_STAT_LOADING core ctx) := by
  unfold State.on
  rw [State.get_of_regs (loadFails_regs s core ctx st), State.get_set_ne (loading_ne_status core ctx)]

theorem loadFails_onlyRegs (s : State) (core ctx : Nat) (st : Status) : OnlyRegs [CTX_STAT_LOAD_STATUS core ctx] s (s.loadFails core ctx st) :=
  ((OnlyRegs.refl _ s).set (List.mem_singleton_self _) st.code).of_regs (loadFails_regs s core ctx st)

/-- R154. The state of a context whose load has ended, before its outcome shows. -/
def loadTaken (s : State) (core ctx : Nat) : State :=
  { s with work := { s.work with loading := Map.erase s.work.loading (core * 16 + ctx) } }.flag (CTX_STAT_LOADING core ctx) false

/-- R154. The state of a context whose image is loaded, before LOAD_DONE. -/
def imageKept (s : State) (core ctx : Nat) (i : Image) : State :=
  ({ s.dropGroups core ctx with work := { (s.dropGroups core ctx).work with images := Map.insert s.work.images (core * 16 + ctx) i } }.flag (CTX_STAT_LOADED core ctx) true).set
    (CTX_STAT_LOAD_STATUS core ctx) 0

theorem loadEnds_ok (s : State) (core ctx : Nat) (i : Image) : s.loadEnds core ctx i .ok = (imageKept (loadTaken s core ctx) core ctx i).raise (seqPage core) 3 := rfl

theorem loadEnds_fails (s : State) (core ctx : Nat) (i : Image) {st : Status} (bad : st ≠ .ok) : s.loadEnds core ctx i st = (loadTaken s core ctx).loadFails core ctx st := by
  unfold State.loadEnds
  exact if_neg bad

theorem loadTaken_loading (s : State) (core ctx : Nat) : (loadTaken s core ctx).on (CTX_STAT_LOADING core ctx) = false := State.on_flag_self rfl _ _

/-! ### The start of a load (R154) -/

/-- R154. What a load that has read its header goes on with: the check of its signature. -/
def loadChecked (s : State) (core ctx : Nat) : State × Status × Image :=
  let x := s.imageHeader (s.coreHolder core) (s.get (CTX_IMG_LO core ctx) * 4096 + s.get (CTX_IMG_HI core ctx) * 2 ^ 32)
  let y := if x.2.1 = .ok then x.1.imageCheck core ctx (s.coreHolder core) x.2.2 else (x.1, x.2.1)
  (y.1, y.2, x.2.2)

/-- R154. The state of a context whose load has started. -/
def loadStarted (s : State) (core ctx : Nat) (st : Status) (i : Image) : State :=
  (({ s with work := { s.work with loading := Map.insert s.work.loading (core * 16 + ctx) (i, st) } }.flag (CTX_STAT_LOADING core ctx) true).flag (CTX_STAT_LOADED core ctx) false)

theorem loadStarted_loading (s : State) (core ctx : Nat) (st : Status) (i : Image) : (loadStarted s core ctx st i).on (CTX_STAT_LOADING core ctx) = true := by
  unfold loadStarted State.on
  rw [State.get_flag_ne (loading_ne_loaded core ctx)]
  exact State.on_flag_self rfl _ _

theorem loadStarted_loaded (s : State) (core ctx : Nat) (st : Status) (i : Image) : (loadStarted s core ctx st i).on (CTX_STAT_LOADED core ctx) = false := State.on_flag_self rfl _ _

theorem loadStarted_found (s : State) (core ctx : Nat) (st : Status) (i : Image) : Map.find (loadStarted s core ctx st i).work.loading (core * 16 + ctx) = some (i, st) :=
  Map.find_insert_self _ _ _

/-- Settles O12, from the two ends of a load (`loadEnds_ok`, `loadEnds_fails`) and the fields that each writes. -/
theorem imagesLoad : Obligations.ImagesLoad := by
  unfold Obligations.ImagesLoad
  refine ⟨?starts, ?busy, ?loaded, ?failed⟩
  case starts =>
    intro fn core ctx s reach flows enable active saved loading held sluice pke
    have run : exec (.ctxLoad fn core ctx) s = .next (loadStarted (loadChecked s core ctx).1 core ctx (loadChecked s core ctx).2.1 (loadChecked s core ctx).2.2) := by
      show execCtxLoad fn core ctx s = _
      unfold execCtxLoad
      rw [command_runs reach flows]
      simp only [enable, active, saved, loading, held, sluice, pke, Bool.or_false, Bool.and_false, Bool.false_eq_true, if_false, bne_self_eq_false]
      rfl
    exact .of_next run ⟨loadStarted_loading .., loadStarted_loaded .., by rw [loadStarted_found]; rfl⟩
  case busy =>
    intro fn core ctx s reach flows enable
    have run : exec (.ctxLoad fn core ctx) s = .next (s.loadFails core ctx .badParam) := by
      show execCtxLoad fn core ctx s = _
      unfold execCtxLoad
      rw [command_runs reach flows]
      simp only [enable, Bool.true_or, if_true]
    exact .of_next run ⟨loadFails_status .., loadFails_shows .., loadFails_onlyRegs s core ctx .badParam⟩
  case loaded =>
    intro core ctx i s awake found plain
    have run : exec (.imgLoadDone core ctx) s = .next ((imageKept (loadTaken s core ctx) core ctx i).raise (seqPage core) 3) := by
      show execImgLoadDone core ctx s = _
      unfold execImgLoadDone
      rw [event_awake awake, found]
      simp only [plain, BEq.rfl, Bool.or_true, if_true, loadEnds_ok]
    refine .of_next run ⟨?_, ?_, ?_, ?_, State.raise_shows _ _ _⟩
    · rw [State.raise_on]
      unfold imageKept State.on
      rw [State.get_set_ne (loaded_ne_status core ctx)]
      exact State.on_flag_self rfl _ _
    · rw [State.raise_on]
      unfold imageKept State.on
      rw [State.get_set_ne (loading_ne_status core ctx), State.get_flag_ne (loading_ne_loaded core ctx)]
      exact loadTaken_loading s core ctx
    · rw [State.raise_get]
      exact State.get_set_self _ _ _
    · rw [State.raise_work]
      exact Map.find_insert_self _ _ _
  case failed =>
    intro core ctx i st s awake found bad
    have run : exec (.imgLoadDone core ctx) s = .next ((loadTaken s core ctx).loadFails core ctx st) := by
      show execImgLoadDone core ctx s = _
      unfold execImgLoadDone
      rw [event_awake awake, found]
      simp only [ne_eq, bad, not_false_eq_true, decide_true, Bool.true_or, if_true, loadEnds_fails s core ctx i bad]
    refine .of_next run ⟨loadFails_status .., ?_, loadFails_shows .., ?_⟩
    · rw [loadFails_loading, loadTaken_loading]
    · rw [loadFails_work]
      rfl

end Sys2Proof.Proofs

/-!
Steps on their units (R125, R126, R132 to R138, R142, R103): what a step that starts leaves as run, what its completion writes, and the step that a faulty array abandons.
-/

namespace Sys2Proof.Proofs

open Sys2Proof.Machine Sys2Proof.Laws Sys2Proof.Claims

/-! ### Steps that start -/

/-- R134, R135. A copy whose source is read writes its rows to its destination. -/
theorem copyStep_ok {s : State} {core slot a : Nat} {r : Running} {e : Entry} {o : Operand} (read : (s.readOperands core r (readsOf e)).2.1 = .ok) (target : writeOf e = some (o, a)) :
    s.copyStep core slot r e = (s.readOperands core r (readsOf e)).1.ran core slot e .ok 0 (rowWrites o a ((s.readOperands core r (readsOf e)).2.2.headD [])) := by
  unfold State.copyStep
  generalize s.readOperands core r (readsOf e) = x at read ⊢
  obtain ⟨t, st, d⟩ := x
  obtain rfl : st = .ok := read
  cases d <;> simp only [State.copied, target, List.headD]

/-- R136. A VECTOR step whose sources are read writes what its operation gives, with the operation's flags. -/
theorem vectorStep_ok {s : State} {core slot vop a : Nat} {r : Running} {e : Entry} {v : VectorStep} {o : Operand} (read : (s.readOperands core r (readsOf e)).2.1 = .ok)
    (target : writeOf e = some (o, a)) : s.vectorStep core slot r e vop v = (s.readOperands core r (readsOf e)).1.ran core slot e .ok
      (vectorRun vop (outMode v.ofmt v.rnd v.ovfm) (seedOf v.seed e.salt) v.cols v.rows (vectorData v (vectorSources vop v) (s.readOperands core r (readsOf e)).2.2)).2
      (rowWrites o a (vectorRun vop (outMode v.ofmt v.rnd v.ovfm) (seedOf v.seed e.salt) v.cols v.rows (vectorData v (vectorSources vop v) (s.readOperands core r (readsOf e)).2.2)).1) := by
  unfold State.vectorStep
  generalize s.readOperands core r (readsOf e) = x at read ⊢
  obtain ⟨t, st, d⟩ := x
  obtain rfl : st = .ok := read
  simp only [target]

theorem startEntry_load {s : State} {core slot : Nat} {r : Running} {e : Entry} {x : XferStep} (op : e.op = .load x) (window : x.src.space ≠ 4) (host : x.src.space ≠ 7) :
    s.startEntry core slot r e = s.copyStep core slot r e := by
  unfold State.startEntry
  rw [op]
  exact if_neg (by simp [window, host])

theorem startEntry_transfer {s : State} {core slot : Nat} {r : Running} {e : Entry} {x : XferStep} (op : e.op = .transfer x) (pay : x.dst.space ≠ 6) :
    s.startEntry core slot r e = s.copyStep core slot r e := by
  unfold State.startEntry
  rw [op]
  exact if_neg pay

theorem startEntry_matmul {s : State} {core slot : Nat} {r : Running} {e : Entry} {m : MatmulStep} (op : e.op = .matmul m) (arrays : e.units ≠ []) (ends : (s.runMatmul core r e m none).2.1 = .ok) :
    s.startEntry core slot r e =
      (s.runMatmul core r e m none).1.ran core slot e .ok (s.runMatmul core r e m none).2.2.flags (drainWrites e (fmtBytes m.ofmt) (s.runMatmul core r e m none).2.2.rows) := by
  unfold State.startEntry
  rw [op]
  simp only [List.isEmpty_iff, arrays, if_false]
  rw [← ends]

theorem startEntry_matvec {s : State} {core slot : Nat} {r : Running} {e : Entry} {m : MatvecStep} (op : e.op = .matvec m) (ends : (s.runMatvec core r e m none).2.1 = .ok) :
    s.startEntry core slot r e =
      (s.runMatvec core r e m none).1.ran core slot e .ok (s.runMatvec core r e m none).2.2.flags (drainWrites e (fmtBytes m.ofmt) (s.runMatvec core r e m none).2.2.rows) := by
  unfold State.startEntry
  rw [op]
  simp only
  rw [← ends]

/-! ### Completion (R125, R126) -/

/-- R126. The completion of a step other than a flush writes what the step holds and takes it out of the window. -/
theorem complete_plain {s : State} {core slot : Nat} {r : Running} {e : Entry} (plain : flushes e.op = false) :
    s.complete core slot r e = (s.writeAll core r e.writes).1.stepDone core slot r e (firstBad e.status (s.writeAll core r e.writes).2) := by
  unfold State.complete
  simp only [plain, Bool.false_and, Bool.false_eq_true, if_false]

theorem tryComplete_plain {s : State} {core slot seq : Nat} {r : Running} {e : Entry} (entry : s.entryAt core slot seq = some (r, e)) (may : s.canComplete core slot r e = true)
    (plain : flushes e.op = false) :
    s.tryComplete core slot seq = (s.writeAll core r e.writes).1.stepDone core slot r e (firstBad e.status (s.writeAll core r e.writes).2) := by
  unfold State.tryComplete
  simp only [entry, may, if_true, complete_plain plain]

/-- R103, R114. The column that an array's fault names. -/
def faultColumn (s : State) (core array cause col : Nat) : Nat := if cause = 1 then s.get (MA_SHADOW_CUR core array) else if cause = 4 then col % 128 else 0x7F

/-- R103, R110. The step that an array's fault abandons completes FAULTED. -/
def faultEnds (s : State) (core array cause col slot : Nat) (r : Running) (e : Entry) : State :=
  ((((s.countAbandoned core e).arrayReport core array cause (faultColumn s core array cause col) r.task.flow).setEntry core slot
    { e with status := .faulted, writes := [], flags := 0 }).stepDone core slot r { e with status := .faulted, flags := 0 } .faulted).pump core

/-- R103, R110, R114. A fault of causes 1 to 4 of an array with a step on it. -/
theorem exec_arrayFault {s : State} {core array cause col slot : Nat} {r : Running} {e : Entry} (awake : s.Awake (0x101 + 16 * core + array)) (small : array < 4) (low : 1 ≤ cause)
    (high : cause < 5) (shadow : cause = 1 → s.on (MA_SHADOW_ACTIVE core array) = true) (onUnit : s.unitRun core array = some (slot, r, e)) :
    exec (.arrayFault core array cause col) s = .next (faultEnds s core array cause col slot r e) := by
  show execArrayFault core array cause col s = _
  unfold execArrayFault
  rw [event_awake awake, if_neg, onUnit]
  · simp only [if_neg (show ¬ (cause = 5 ∧ r.preempt.isNone = true) by omega)]
    split
    · omega
    · rfl
  · by_cases one : cause = 1
    · simp [one, shadow one]
      omega
    · simp [one]
      omega

/-- Settles O9, a lemma for each step that starts, and one each for a completion and an abandoned step. -/
theorem startedStepsComputeAndComplete : Obligations.StartedStepsComputeAndComplete := by
  unfold Obligations.StartedStepsComputeAndComplete
  refine ⟨?copy, ?vector, ?matmul, ?matvec, ?flagsOut, ?signal, ?set, ?completes, ?abandoned⟩
  case copy =>
    intro core slot r e x o a s kind read target
    obtain ⟨op, window, host⟩ | ⟨op, pay⟩ := kind
    · rw [startEntry_load op window host, copyStep_ok read target]
    · rw [startEntry_transfer op pay, copyStep_ok read target]
  case vector =>
    intro core slot vop r e v o a s op read target
    rw [← vectorStep_ok read target]
    unfold State.startEntry
    rw [op]
  case matmul =>
    intro core slot r e m s op arrays ends
    exact startEntry_matmul op arrays ends
  case matvec =>
    intro core slot r e m s op ends
    exact startEntry_matvec op ends
  case flagsOut =>
    intro core slot r e d s op
    unfold State.startEntry
    rw [op]
  case signal =>
    intro core slot k v r e s op
    unfold State.startEntry State.syncStep
    rw [op]
  case set =>
    intro core slot k v r e s op
    unfold State.startEntry State.syncStep
    rw [op]
  case completes =>
    intro core slot order r e s awake running found entry may plain
    show execStepComplete core slot order s = _
    unfold execStepComplete
    rw [event_awake awake]
    simp only [running, found, tryComplete_plain entry may plain]
  case abandoned =>
    intro core array cause col slot r e s awake small which onUnit
    exact exec_arrayFault awake small (by omega) (by omega) (fun one => by simpa [one] using which) onUnit

end Sys2Proof.Proofs

/-!
What happens beside a register field, the events that show and the tasks and save records of the cores: a relation that the operations of items, flows and memory keep, and, for the
operations of items, the chains too.
-/

namespace Sys2Proof.Proofs

open Sys2Proof.Machine Sys2Proof.Laws Sys2Proof.Claims

/-! ### Steady: a field, the events, the tasks and the records stay -/

/-- A field keeps its value, events stay shown, and no slot or save record changes. -/
structure Steady (f : Field) (s t : State) : Prop where
  get : t.get f = s.get f
  shown : KeepsShown s t
  slots : t.work.slots = s.work.slots
  saves : t.work.saves = s.work.saves

section

variable {f : Field} {s t u : State}

theorem Steady.refl (f : Field) (s : State) : Steady f s s := ⟨rfl, .refl s, rfl, rfl⟩

theorem Steady.trans (h : Steady f s t) (h' : Steady f t u) : Steady f s u :=
  ⟨h'.get.trans h.get, h.shown.trans h'.shown, h'.slots.trans h.slots, h'.saves.trans h.saves⟩

theorem keepsShown_of_pages (h : t.pages = s.pages) : KeepsShown s t := by
  intro fn page bit shows
  unfold State.shows at shows ⊢
  rw [State.page_of_pages h, shows]

/-- An update of other parts of the state. -/
theorem Steady.upd (h : Steady f s t) (regs : u.regs = t.regs) (pages : u.pages = t.pages) (slots : u.work.slots = t.work.slots) (saves : u.work.saves = t.work.saves) : Steady f s u :=
  h.trans ⟨State.get_of_regs regs f, keepsShown_of_pages pages, slots, saves⟩

theorem Steady.set (h : Steady f s t) {g : Field} (apart : f.key ≠ g.key) (v : Nat) : Steady f s (t.set g v) :=
  h.trans ⟨State.get_set_ne apart t v, keepsShown_of_pages rfl, rfl, rfl⟩

theorem Steady.raise (h : Steady f s t) (page bit : Nat) : Steady f s (t.raise page bit) :=
  h.trans ⟨t.raise_get page bit f, raiseFn_keepsShown t 0 page bit, congrArg Work.slots (t.raise_work page bit), congrArg Work.saves (t.raise_work page bit)⟩

theorem Steady.raiseEdge (h : Steady f s t) (page bit : Nat) (was now : Bool) : Steady f s (t.raiseEdge page bit was now) := by
  unfold State.raiseEdge
  split
  · exact h.raise page bit
  · exact h

theorem captureFn_keepsShown (s : State) (fn page : Nat) (st : Status) (i j : Nat) : KeepsShown s (s.captureFn fn page st i j) := by
  intro g p b shows
  unfold State.shows at shows ⊢
  by_cases same : pageKey g p = pageKey fn page
  · rw [same] at shows ⊢
    rw [State.captureFn_page_self, shows]
  · rw [State.captureFn_page_ne s fn page st i j same, shows]

theorem Steady.capture (h : Steady f s t) (page : Nat) (st : Status) (i j : Nat) : Steady f s (t.capture page st i j) :=
  h.trans ⟨rfl, captureFn_keepsShown t 0 page st i j, rfl, rfl⟩

end

/-! ### Calm: no chain changes either -/

/-- What the operations of items keep: a field, events, tasks, records and the chains. -/
structure Calm (f : Field) (s t : State) : Prop extends Steady f s t where
  chains : t.work.chains = s.work.chains

/-- A field that no watermark and no count of dropped items of a chain stands at. -/
def OffItems (f : Field) : Prop := f.lsb < 32 ∧ f.addr % 64 ≠ 0x30 ∧ f.addr % 64 ≠ 0x3C

section

variable {f : Field} {s t : State}

theorem Calm.refl (f : Field) (s : State) : Calm f s s := ⟨.refl f s, rfl⟩

theorem Calm.trans {u : State} (h : Calm f s t) (h' : Calm f t u) : Calm f s u := ⟨h.toSteady.trans h'.toSteady, h'.chains.trans h.chains⟩

theorem Calm.set (h : Calm f s t) {g : Field} (apart : f.key ≠ g.key) (v : Nat) : Calm f s (t.set g v) := ⟨h.toSteady.set apart v, h.chains⟩

theorem Calm.raise (h : Calm f s t) (page bit : Nat) : Calm f s (t.raise page bit) :=
  ⟨h.toSteady.raise page bit, (congrArg Work.chains (t.raise_work page bit)).trans h.chains⟩

theorem Calm.setCells (h : Calm f s t) (m : Map Cell) : Calm f s (t.setCells m) := ⟨h.toSteady.upd rfl rfl rfl rfl, h.chains⟩

theorem Calm.setCell (h : Calm f s t) (k : Nat) (x : Cell) : Calm f s (t.setCell k x) := h.setCells _

theorem Calm.freeCell (h : Calm f s t) (k : Nat) : Calm f s (t.freeCell k) := h.setCells _

theorem Calm.setChildren (h : Calm f s t) (l : List Child) : Calm f s (t.setChildren l) := ⟨h.toSteady.upd rfl rfl rfl rfl, h.chains⟩

theorem Calm.poolWatch (h : Calm f s t) (before : State) : Calm f s (t.poolWatch before) := by
  unfold State.poolWatch State.raiseEdge
  split
  · exact h.raise _ _
  · exact h

theorem Calm.foldl {γ : Type} {g : State → γ → State} {l : List γ} (h : Calm f s t) (each : ∀ u x, Calm f s u → Calm f s (g u x)) : Calm f s (l.foldl g t) := by
  induction l generalizing t with
  | nil => exact h
  | cons x l ih => exact ih (each t x h)

section

variable (off : OffItems f)

include off

theorem off_wmStat (c : Nat) : f.key ≠ (CH_WM_STAT c).key := key_ne_of_addr off.1 (by simp [CH_WM_STAT]) (by have := off.2.1; simp only [CH_WM_STAT]; omega)

theorem off_dropCnt (c : Nat) : f.key ≠ (CH_DROP_CNT c).key := key_ne_of_addr off.1 (by simp [CH_DROP_CNT]) (by have := off.2.2; simp only [CH_DROP_CNT]; omega)

theorem Calm.wmEdges (h : Calm f s t) (c e : Nat) : Calm f s (t.wmEdges c e) := by
  unfold State.wmEdges
  split
  · exact h
  · dsimp only
    split
    · exact (h.set (off_wmStat off c) _).raise _ _
    · exact h.set (off_wmStat off c) _

theorem Calm.dropped (h : Calm f s t) (c n : Nat) : Calm f s (t.dropped c n) := by
  unfold State.dropped
  split
  · exact h
  · exact Calm.wmEdges off (h.set (off_dropCnt off c) _) c 8

/-- The edges that an operation on a chain gives are all that is added to it. -/
theorem Calm.watched (c : Nat) {op : State → State} (h : Calm f s (op t)) : Calm f s (t.watched c op) := (Calm.wmEdges off h c _).poolWatch t

theorem Calm.finishItem (h : Calm f s t) (k : Nat) (x : Cell) : Calm f s (t.finishItem k x) := by
  unfold State.finishItem
  split
  · exact h
  · refine Calm.watched off x.chain ?_
    split
    · exact Calm.dropped off (h.freeCell k) _ _
    · exact h.setCell _ _
    · split
      · exact h.setCell _ _
      · exact h.freeCell _

theorem Calm.finishHeld (h : Calm f s t) (k : Nat) (x : Cell) : Calm f s (t.finishHeld k x) := by
  unfold State.finishHeld
  split
  · exact Calm.finishItem off (h.setCell _ _) _ _
  · exact Calm.finishItem off h k x

end

end

end Sys2Proof.Proofs

/-!
Chain operations that end (R174 to R182, R191): what each leaves in its chain; the treatment of each item by a rewind; grants of cells and of store entries.
-/

namespace Sys2Proof.Proofs

open Sys2Proof.Machine Sys2Proof.Laws Sys2Proof.Claims

section

variable {f : Field} {s t : State}

/-! ### Items under a chain operation -/

theorem chain_of_chains (h : t.work.chains = s.work.chains) (c : Nat) : t.chain c = s.chain c := by
  unfold State.chain
  rw [h]

theorem Calm.sweepSpent (h : Calm f s t) (c : Nat) : Calm f s (t.sweepSpent c) :=
  h.foldl fun u x hu => by
    split
    · exact hu.freeCell _
    · exact hu

theorem Calm.rewindCell (off : OffItems f) (h : Calm f s t) (m e n k : Nat) (x : Cell) : Calm f s (t.rewindCell m e n k x) := by
  unfold State.rewindCell
  dsimp only
  split
  · exact h
  · split
    · exact Calm.dropped off (h.freeCell k) _ _
    · exact h
  · split
    · exact h.setCell _ _
    · exact h
  · split
    · exact h
    · split
      · exact Calm.dropped off (h.freeCell k) _ _
      · exact h.setCell _ _

/-- R176. A READY item is dropped by a rollback to before it was enqueued. -/
theorem rewindCell_ready {m e n k : Nat} {x : Cell} (ready : x.state = .ready) :
    s.rewindCell m e n k x = if 4 ≤ m ∧ atOrAfter x.enq e = true then (s.freeCell k).dropped x.chain 1 else s := by
  unfold State.rewindCell
  simp only [ready, Bool.and_eq_true, decide_eq_true_eq]

/-- R176. An IN_USE item taken since the mark keeps what its finish is to do. -/
theorem rewindCell_inUse {m e n k : Nat} {x : Cell} (inUse : x.state = .inUse) :
    s.rewindCell m e n k x = if atOrAfter x.take n = true then s.setCell k { x with rewind := some (decide (4 ≤ m) && atOrAfter x.enq e) } else s := by
  unfold State.rewindCell
  simp only [inUse]

/-- R176. A SPENT item taken since the mark is dropped, or READY again. -/
theorem rewindCell_spent {m e n k : Nat} {x : Cell} (spent : x.state = .spent) :
    s.rewindCell m e n k x = if atOrAfter x.take n = false then s
      else if 4 ≤ m ∧ atOrAfter x.enq e = true then (s.freeCell k).dropped x.chain 1 else s.setCell k { x with state := .ready, rewind := none, link := false } := by
  unfold State.rewindCell
  simp only [spent, Bool.and_eq_true, decide_eq_true_eq, Bool.not_eq_true']

end

/-! ### What an operation leaves in its chain -/

theorem offItems_busy (c : Nat) : OffItems (CH_CMD_BUSY c) := by
  simp only [OffItems, CH_CMD_BUSY]
  omega

theorem offItems_hold (c : Nat) : OffItems (CH_LINK_HOLD c) := by
  simp only [OffItems, CH_LINK_HOLD]
  omega

theorem busy_ne_hold (c : Nat) : (CH_CMD_BUSY c).key ≠ (CH_LINK_HOLD c).key := by
  simp [Field.key, CH_CMD_BUSY, CH_LINK_HOLD]

/-- R174 to R182, R191. What the end of an operation leaves in its chain. -/
structure OpEnds (c : Nat) (o : ChainOp) (s t : State) : Prop where
  busy : (t.chain c).busy = (s.chain c).busy
  shown : t.get (CH_CMD_BUSY c) = s.get (CH_CMD_BUSY c)
  mark : o.op = 1 → Map.find (t.chain c).marks o.mark = some (s.get (CH_ENQ_SEQ c), s.get (CH_TAKE_SEQ c))
  rewind : o.op = 2 → (t.chain c).marks = (s.chain c).marks
  release : o.op = 3 → Map.find (t.chain c).marks o.mark = none
  hold : 4 ≤ o.op → t.on (CH_LINK_HOLD c) = false
  flush : 6 ≤ o.op → (t.chain c).marks = []

section

variable {s t u : State} {c : Nat} {o : ChainOp}

/-- What follows and keeps registers and the chain's marks keeps what the operation left. -/
theorem OpEnds.of_kept (e : OpEnds c o s t) (busy : (u.chain c).busy = (t.chain c).busy) (marks : (u.chain c).marks = (t.chain c).marks) (regs : ∀ f, OffItems f → u.get f = t.get f) :
    OpEnds c o s u where
  busy := busy.trans e.busy
  shown := (regs _ (offItems_busy c)).trans e.shown
  mark := by rw [marks]; exact e.mark
  rewind := by rw [marks]; exact e.rewind
  release := by rw [marks]; exact e.release
  hold := by
    unfold State.on
    rw [regs _ (offItems_hold c)]
    exact e.hold
  flush := by rw [marks]; exact e.flush

theorem OpEnds.of_calm (e : OpEnds c o s t) (calm : ∀ f, OffItems f → Calm f t u) : OpEnds c o s u := by
  have chain := chain_of_chains (calm _ (offItems_busy c)).chains c
  exact e.of_kept (by rw [chain]) (by rw [chain]) fun f off => (calm f off).get

/-- R174. A MARK records the positions of its chain. -/
theorem markEnds (op : o.op = 1) :
    OpEnds c o s ((s.setChain c { s.chain c with marks := Map.insert (s.chain c).marks o.mark (s.get (CH_ENQ_SEQ c), s.get (CH_TAKE_SEQ c)) }).sweepSpent c) := by
  refine OpEnds.of_calm (t := s.setChain c _) ?_ fun f _ => (Calm.refl f _).sweepSpent c
  refine ⟨?_, rfl, fun _ => ?_, fun _ => by omega, fun _ => by omega, fun _ => by omega, fun _ => by omega⟩
  · rw [State.chain_setChain_self]
  · rw [State.chain_setChain_self]
    exact Map.find_insert_self _ _ _

/-- R176. A REWIND treats the items of its chain one by one. -/
theorem rewindEnds (op : o.op = 2) (calm : ∀ f, OffItems f → Calm f s t) : OpEnds c o s t := by
  have chain := chain_of_chains (calm _ (offItems_busy c)).chains c
  exact ⟨by rw [chain], (calm _ (offItems_busy c)).get, fun _ => by omega, fun _ => by rw [chain], fun _ => by omega, fun _ => by omega, fun _ => by omega⟩

/-- R178. A RELEASE makes its mark inactive. -/
theorem releaseEnds (op : o.op = 3) : OpEnds c o s ((s.setChain c { s.chain c with marks := Map.erase (s.chain c).marks o.mark }).sweepSpent c) := by
  refine OpEnds.of_calm (t := s.setChain c _) ?_ fun f _ => (Calm.refl f _).sweepSpent c
  refine ⟨?_, rfl, fun _ => by omega, fun _ => by omega, fun _ => ?_, fun _ => by omega, fun _ => by omega⟩
  · rw [State.chain_setChain_self]
  · rw [State.chain_setChain_self]
    exact Map.find_erase_self _ _

/-- R182. REPLAY_HELD and DISCARD_HELD treat the held items one by one and end the link hold. -/
theorem heldEnds (op : o.op = 4 ∨ o.op = 5) (calm : ∀ f, OffItems f → Calm f s t) : OpEnds c o s (t.flag (CH_LINK_HOLD c) false) := by
  have chain : (t.flag (CH_LINK_HOLD c) false).chain c = s.chain c := chain_of_chains (calm _ (offItems_busy c)).chains c
  refine ⟨by rw [chain], ?_, fun _ => by omega, fun _ => by omega, fun _ => by omega, fun _ => State.on_flag_self rfl _ _, fun _ => by omega⟩
  rw [State.get_flag_ne (busy_ne_hold c)]
  exact (calm _ (offItems_busy c)).get

/-- R191. A FLUSH makes every mark of its chain inactive, treats its items one by one and ends the link hold. -/
theorem flushEnds (op : o.op = 0 ∨ 6 ≤ o.op) {x : Chain} (busy : x.busy = (s.chain c).busy) (marks : x.marks = []) (calm : ∀ f, OffItems f → Calm f (s.setChain c x) t) :
    OpEnds c o s (t.flag (CH_LINK_HOLD c) false) := by
  have chain : (t.flag (CH_LINK_HOLD c) false).chain c = x := (chain_of_chains (calm _ (offItems_busy c)).chains c).trans (State.chain_setChain_self s c x)
  refine ⟨by rw [chain, busy], ?_, fun _ => by omega, fun _ => by omega, fun _ => by omega, fun _ => State.on_flag_self rfl _ _, fun _ => by rw [chain, marks]⟩
  rw [State.get_flag_ne (busy_ne_hold c)]
  exact (calm _ (offItems_busy c)).get

/-- R174 to R182, R191. The effect of an operation on its chain. -/
theorem chainEffect_ends (s : State) (c : Nat) (o : ChainOp) : OpEnds c o s (s.chainEffect c o) := by
  unfold State.chainEffect
  refine OpEnds.of_calm (t := _) ?_ fun f off => Calm.watched off c (.refl f _)
  dsimp only
  split
  · exact markEnds ‹_›
  split
  · refine rewindEnds ‹_› fun f off => ?_
    split
    · exact .refl f s
    · exact (Calm.refl f s).foldl fun u x hu => Calm.rewindCell off hu _ _ _ _ _
  split
  · exact releaseEnds ‹_›
  split
  · refine heldEnds (.inl ‹_›) fun f off => (Calm.refl f s).foldl fun u x hu => ?_
    split
    · split
      · split
        · exact Calm.dropped off (hu.freeCell _) _ _
        · exact hu.setCell _ _
      · exact hu.setCell _ _
    · exact hu
  split
  · refine heldEnds (.inr ‹_›) fun f off => (Calm.refl f s).foldl fun u x hu => ?_
    split
    · split
      · exact Calm.dropped off (hu.freeCell _) _ _
      · exact hu.setCell _ _
    · exact hu
  · refine flushEnds (x := { s.chain c with marks := [], stopped := false }) (by omega) rfl rfl fun f off => Calm.setChildren (Calm.foldl (.refl f _) fun u x hu => ?_) _
    split
    · exact hu.setCell _ _
    · split
      · exact Calm.wmEdges off (hu.freeCell _) _ _
      · exact Calm.dropped off (hu.freeCell _) _ _
    · exact Calm.dropped off (hu.freeCell _) _ _

/-- R180. The finishes that waited leave what the operation left. -/
theorem OpEnds.runFinishes (e : OpEnds c o s t) : OpEnds c o s (t.runFinishes c) := by
  unfold State.runFinishes
  split
  · exact e
  · have finishes : OpEnds c o s (t.setChain c { t.chain c with finishes := [] }) :=
      e.of_kept (by rw [State.chain_setChain_self]) (by rw [State.chain_setChain_self]) fun _ _ => rfl
    refine finishes.of_calm fun f off => (Calm.refl f _).foldl fun u id hu => ?_
    split
    · exact Calm.finishHeld off hu _ _
    · exact hu

/-- R179. The state of a chain whose operation is over, before its effect. -/
def opOver (s : State) (c : Nat) : State := (s.setChain c { s.chain c with busy := none }).flag (CH_CMD_BUSY c) false

/-- R179, R180. The operation of a command, not of a step, ends. -/
theorem exec_chainOpComplete (awake : s.Awake 0x220) (busy : (s.chain c).busy = some o) (command : o.step = none) :
    exec (.chainOpComplete c) s = .next (((opOver s c).chainEffect c o).runFinishes c) := by
  show execChainOpComplete c s = _
  unfold execChainOpComplete
  rw [event_awake awake, busy]
  simp only [command]
  rfl

theorem opOver_get (s : State) (c : Nat) {f : Field} (apart : f.key ≠ (CH_CMD_BUSY c).key) : (opOver s c).get f = s.get f := State.get_flag_ne apart _ _

theorem opOver_chain (s : State) (c : Nat) : (opOver s c).chain c = { s.chain c with busy := none } := State.chain_setChain_self s c _

end

/-! ### Grants (R166, R185, R219) -/

theorem wmEdges_work (s : State) (c e : Nat) : (s.wmEdges c e).work = s.work := by
  unfold State.wmEdges
  split
  · rfl
  · dsimp only
    split
    · exact State.raise_work _ _ _
    · rfl

/-- R186. The edges of an operation on a chain leave the work as the operation does. -/
theorem watched_work (s : State) (c : Nat) (op : State → State) : (s.watched c op).work = (op s).work := by
  unfold State.watched State.poolWatch State.raiseEdge
  dsimp only
  split
  · rw [State.raise_work, wmEdges_work]
  · exact wmEdges_work _ _ _

theorem entryAt_of_slots {s t : State} (h : t.work.slots = s.work.slots) (core slot seq : Nat) : t.entryAt core slot seq = s.entryAt core slot seq := by
  unfold State.entryAt State.running
  rw [h]

/-- R165. A child that is opened is the expansion's in the chain, in a cell of its own. -/
theorem openChild_opens {s : State} {c : Nat} {d : ChainDesc} (desc : (s.chain c).desc = some d) (e : Nat) :
    ∃ k b, (s.openChild e c).child e c = some { exp := e, chain := c, state := .building k } ∧
      Map.find (s.openChild e c).work.cells k = some { id := s.work.nextCell, chain := c, buf := b, state := .building, header := List.replicate 64 0 } := by
  refine ⟨(s.pickCell c d.length).1, (s.pickCell c d.length).2.1, ?child, ?cell⟩
  case child =>
    unfold State.openChild State.child
    rw [desc]
    dsimp only
    rw [watched_work]
    simp [State.setChild, State.setChildren]
  case cell =>
    unfold State.openChild
    rw [desc]
    dsimp only
    rw [watched_work]
    exact Map.find_insert_self _ _ _

/-- R166, R185. The first step that waits for a cell of a chain leaves its queue and has its child opened. -/
theorem exec_cellGrant {s : State} {c n core slot seq : Nat} {ws : List (Nat × Waiter)} {r : Running} {x : Entry} (awake : s.Awake 0x220) (turn : s.cellTurn c n = true)
    (idle : (s.chain c).busy = none) (quiet : s.chainQuiet c = false) (first : (s.chain c).waiters = (n, .step core slot seq) :: ws) (entry : s.entryAt core slot seq = some (r, x)) :
    exec (.cellGrant c) s = .next (let s1 := s.watched c (fun t => t.setChain c { t.chain c with waiters := ws })
      (if s1.hasChild r c then s1 else s1.openChild r.task.exp c).pump core) := by
  show execCellGrant c s = _
  unfold execCellGrant
  have kept : (s.watched c (fun t => t.setChain c { t.chain c with waiters := ws })).entryAt core slot seq = some (r, x) :=
    (entryAt_of_slots (congrArg Work.slots (watched_work s c _)) core slot seq).trans entry
  rw [event_awake awake]
  simp [idle, quiet, first, turn, kept]

/-- Settles O16: `chainEffect_ends` and `OpEnds.runFinishes` for the end of an operation, the table of a rewind, and a lemma for each grant. -/
theorem chainOperationsTakeEffect : Obligations.ChainOperationsTakeEffect := by
  unfold Obligations.ChainOperationsTakeEffect
  refine ⟨?ends, ?ready, ?inUse, ?spent, ?cell, ?child, ?entry⟩
  case ends =>
    intro c o s awake _ busy command
    obtain ⟨ended, shown, mark, rewind, release, hold, flush⟩ := (chainEffect_ends (opOver s c) c o).runFinishes
    have enq := opOver_get s c (f := CH_ENQ_SEQ c) (by simp [Field.key, CH_ENQ_SEQ, CH_CMD_BUSY]; omega)
    have take := opOver_get s c (f := CH_TAKE_SEQ c) (by simp [Field.key, CH_TAKE_SEQ, CH_CMD_BUSY]; omega)
    rw [opOver_chain] at ended rewind
    rw [enq, take] at mark
    refine .of_next (exec_chainOpComplete awake busy command) ⟨ended, ?_, mark, rewind, release, hold, flush⟩
    unfold State.on
    rw [shown]
    exact State.on_flag_self rfl _ _
  case ready =>
    intro m e n k x s ready
    exact rewindCell_ready ready
  case inUse =>
    intro m e n k x s inUse
    exact rewindCell_inUse inUse
  case spent =>
    intro m e n k x s spent
    exact rewindCell_spent spent
  case cell =>
    intro c n core slot seq ws r x s awake turn idle quiet first entry
    exact exec_cellGrant awake turn idle quiet first entry
  case child =>
    intro e c d s desc
    exact openChild_opens desc e
  case entry =>
    intro k place core slot seq dl delay item ws r x s awake quiet first entry op
    show execStoreEntryGrant k s = _
    unfold execStoreEntryGrant
    rw [event_awake awake]
    simp only [quiet, Bool.false_eq_true, if_false, first, entry, op]
    generalize (State.setChannel _ _ _).post _ _ _ _ _ = posted
    cases posted <;> rfl

end Sys2Proof.Proofs

/-!
The end of a task (R125 to R127, R167, R199, R207): its flow, its item and its children change; the fault register, the events that show, the other slots and the save records stay.
-/

namespace Sys2Proof.Proofs

open Sys2Proof.Machine Sys2Proof.Laws Sys2Proof.Claims

/-- A register field at another place of its page than FT_CORE_FAULT. -/
theorem fault_apart {g : Field} (low : g.lsb < 32) (place : g.addr % 4096 ≠ 0x68) : FT_CORE_FAULT.key ≠ g.key :=
  key_ne_of_addr (by decide) low (by simp only [FT_CORE_FAULT]; omega)

theorem offItems_fault : OffItems FT_CORE_FAULT := by
  simp [OffItems, FT_CORE_FAULT]

/-! ### Items and children (R165 to R167, R173) -/

section

variable {s t : State}

theorem Steady.foldl {f : Field} {γ : Type} {g : State → γ → State} {l : List γ} (h : Steady f s t) (each : ∀ u x, Steady f s u → Steady f s (g u x)) : Steady f s (l.foldl g t) := by
  induction l generalizing t with
  | nil => exact h
  | cons x l ih => exact ih (each t x h)

theorem Steady.watched (c : Nat) {op : State → State} (h : Steady FT_CORE_FAULT s (op t)) : Steady FT_CORE_FAULT s (t.watched c op) :=
  h.trans (Calm.watched offItems_fault c (.refl _ _)).toSteady

theorem Steady.wmEdges (h : Steady FT_CORE_FAULT s t) (c e : Nat) : Steady FT_CORE_FAULT s (t.wmEdges c e) := h.trans (Calm.wmEdges offItems_fault (.refl _ _) c e).toSteady

theorem Steady.setChild {f : Field} (h : Steady f s t) (x : Child) : Steady f s (t.setChild x) := h.upd rfl rfl rfl rfl

theorem Steady.setExp {f : Field} (h : Steady f s t) (x : Expansion) : Steady f s (t.setExp x) := h.upd rfl rfl rfl rfl

theorem Steady.setFlow {f : Field} (h : Steady f s t) (w : Nat) (x : Flow) : Steady f s (t.setFlow w x) := h.upd rfl rfl rfl rfl

theorem Steady.finishCell (h : Steady FT_CORE_FAULT s t) (k : Nat) : Steady FT_CORE_FAULT s (t.finishCell k) := by
  unfold State.finishCell State.finishOf
  split
  · split
    · exact h.upd rfl rfl rfl rfl
    · exact h.trans (Calm.finishHeld offItems_fault (.refl _ _) _ _).toSteady
  · exact h

theorem Steady.voidChildren (h : Steady FT_CORE_FAULT s t) (e : Nat) : Steady FT_CORE_FAULT s (t.voidChildren e) := by
  unfold State.voidChildren
  refine h.foldl fun u x hu => ?_
  split
  · split
    · exact ((Steady.watched x.chain (op := (·.freeCell _)) (hu.upd rfl rfl rfl rfl)).setChild _).wmEdges _ _
    · exact hu
  · exact hu

theorem Steady.childrenEnded (h : Steady FT_CORE_FAULT s t) (e : Nat) : Steady FT_CORE_FAULT s (t.childrenEnded e) := by
  unfold State.childrenEnded
  refine (h.voidChildren e).foldl fun u x hu => ?_
  split
  · exact (hu.set (off_dropCnt offItems_fault x.chain) _).setChild _
  · exact hu

theorem Steady.taskEnded (h : Steady FT_CORE_FAULT s t) (e tidx : Nat) : Steady FT_CORE_FAULT s (t.taskEnded e tidx) := by
  unfold State.taskEnded
  split
  · exact h
  · split
    · exact h
    · dsimp only
      split
      · exact (h.setExp _).childrenEnded _
      · exact h.setExp _

theorem Steady.expFinished (h : Steady FT_CORE_FAULT s t) (e : Expansion) : Steady FT_CORE_FAULT s (t.expFinished e) := by
  have gone : Steady FT_CORE_FAULT s
      { t with work := { t.work with exps := t.work.exps.filter (fun x => x.id != e.id), children := t.work.children.filter (fun x => x.exp != e.id) } } := h.upd rfl rfl rfl rfl
  unfold State.expFinished
  dsimp only
  split
  · exact gone.finishCell _
  · exact gone

theorem Steady.taskDone (h : Steady FT_CORE_FAULT s t) (e tidx : Nat) : Steady FT_CORE_FAULT s (t.taskDone e tidx) := by
  unfold State.taskDone
  have ended := h.taskEnded e tidx
  dsimp only
  split
  · exact ended
  · split
    · exact ended
    · split
      · exact (ended.setExp _).expFinished _
      · exact ended.setExp _

/-! ### Flows (R196 to R199, R229) -/

theorem fault_flowState (w : Nat) : FT_CORE_FAULT.key ≠ (FLOW_STATE w).key := fault_apart (by simp [FLOW_STATE]) (by simp only [FLOW_STATE]; omega)

theorem fault_lastStatus (w : Nat) : FT_CORE_FAULT.key ≠ (FLOW_LAST_STATUS w).key := fault_apart (by simp [FLOW_LAST_STATUS]) (by simp only [FLOW_LAST_STATUS]; omega)

theorem fault_flowAttn (w : Nat) : FT_CORE_FAULT.key ≠ (FLOW_ATTN (1 + w / 512) (w % 512 / 32)).key := fault_apart (by simp [FLOW_ATTN]) (by simp only [FLOW_ATTN]; omega)

theorem Steady.attention (h : Steady FT_CORE_FAULT s t) (w core status tag : Nat) : Steady FT_CORE_FAULT s (t.attention w core status tag) := by
  have refreshed {u : State} (hu : Steady FT_CORE_FAULT s u) : Steady FT_CORE_FAULT s (u.attnRefresh w) := (hu.set (fault_flowAttn w) _).raiseEdge _ _ _ _
  unfold State.attention
  refine refreshed ?_
  split
  · exact h.upd rfl rfl rfl rfl
  · exact h.raise _ _

theorem Steady.unlist {f : Field} (h : Steady f s t) (w : Nat) : Steady f s (t.unlist w) := by
  unfold State.unlist
  split
  · exact h.upd rfl rfl rfl rfl
  · exact h

theorem Steady.refresh (h : Steady FT_CORE_FAULT s t) (w : Nat) : Steady FT_CORE_FAULT s (t.refresh w) := by
  have between : Steady FT_CORE_FAULT s (if t.get (FLOW_STATE w) ≤ 1 then t.set (FLOW_STATE w) (b2n !(t.flow w).queue.isEmpty) else t) := by
    split
    · exact h.set (fault_flowState w) _
    · exact h
  have placed {u : State} (hu : Steady FT_CORE_FAULT s u) : Steady FT_CORE_FAULT s (if !u.flowReady w then u.unlist w else if u.listed w then u else
      let g := u.get (FLOW_GROUP w)
      u.setReadyList g (u.readyList g ++ [⟨w, u.on (FLOW_ANY w), u.get (FLOW_CORE w)⟩])) := by
    split
    · exact hu.unlist w
    · split
      · exact hu
      · exact hu.upd rfl rfl rfl rfl
  exact placed between

theorem Steady.blockFlow (h : Steady FT_CORE_FAULT s t) (w core : Nat) : Steady FT_CORE_FAULT s (t.blockFlow w core) := by
  have blocked : Steady FT_CORE_FAULT s (t.drawFree.2.setFlow w { t.drawFree.2.flow w with notice := false }) := h.upd rfl rfl rfl rfl
  exact (((blocked.set (fault_flowState w) 4).set (fault_lastStatus w) _).unlist w).attention w core _ _

/-- R244. What a flow has lost on the links is forgotten. -/
theorem Steady.lostForgotten {f : Field} (h : Steady f s t) (w : Nat) : Steady f s { t with link := { t.link with lost := t.link.lost.filter (fun e => e.1 != w) } } :=
  h.upd rfl rfl rfl rfl

theorem Steady.flowEnds (h : Steady FT_CORE_FAULT s t) (w core : Nat) (st : Status) (tag : Nat) : Steady FT_CORE_FAULT s (t.flowEnds w core st tag) := by
  have last := h.set (fault_lastStatus w) st.code
  unfold State.flowEnds
  split
  case h_1 => exact h
  case h_2 x _ =>
    dsimp only
    split
    · have served (v : Flow) := (((last.lostForgotten w).setFlow w v).set (fault_flowState w) 0).taskDone x.exp x.tidx
      split
      · exact (served _).blockFlow w core
      · exact (served _).refresh w
    · exact last.set (fault_flowState w) 3
    · exact (((((last.lostForgotten w).setFlow w _).set (fault_flowState w) 4).voidChildren _).taskEnded _ _).attention w core _ _

end

/-! ### Slots (R125 to R127, R144) -/

/-- What the work of one slot keeps: the fault register, events and the other slots. -/
structure SlotOnly (core slot : Nat) (s t : State) : Prop where
  get : t.get FT_CORE_FAULT = s.get FT_CORE_FAULT
  shown : KeepsShown s t
  others : ∀ k, k ≠ core * 4 + slot → Map.find t.work.slots k = Map.find s.work.slots k

/-- What the work of one slot keeps that frees no save record. -/
structure SlotSteady (core slot : Nat) (s t : State) : Prop extends SlotOnly core slot s t where
  saves : t.work.saves = s.work.saves

section

variable {core slot : Nat} {s t u : State}

theorem Steady.atSlot (h : Steady FT_CORE_FAULT s t) (core slot : Nat) : SlotSteady core slot s t := ⟨⟨h.get, h.shown, fun _ _ => by rw [h.slots]⟩, h.saves⟩

theorem SlotOnly.trans (h : SlotOnly core slot s t) (h' : SlotOnly core slot t u) : SlotOnly core slot s u :=
  ⟨h'.get.trans h.get, h.shown.trans h'.shown, fun k hk => (h'.others k hk).trans (h.others k hk)⟩

theorem SlotSteady.trans (h : SlotSteady core slot s t) (h' : SlotSteady core slot t u) : SlotSteady core slot s u :=
  ⟨h.toSlotOnly.trans h'.toSlotOnly, h'.saves.trans h.saves⟩

/-- Another slot of the core keeps its task. -/
theorem SlotOnly.running (h : SlotOnly core slot s t) {i : Nat} (other : i ≠ slot) : t.running core i = s.running core i := h.others _ (by omega)

theorem setRunning_slotSteady (s : State) (core slot : Nat) (r : Option Running) : SlotSteady core slot s (s.setRunning core slot r) := by
  refine ⟨⟨rfl, keepsShown_of_pages rfl, fun k other => ?_⟩, rfl⟩
  cases r with
  | none => exact Map.find_erase_ne other _
  | some v => exact Map.find_insert_ne other _ _

theorem running_of_slots (h : t.work.slots = s.work.slots) (core slot : Nat) : t.running core slot = s.running core slot := by
  unfold State.running
  rw [h]

theorem slotRefresh_running (s : State) (core slot d i : Nat) : (s.slotRefresh core slot).running d i = s.running d i :=
  running_of_slots (congrArg Work.slots (slotRefresh_work s core slot)) d i

theorem fault_slotState (core slot : Nat) : FT_CORE_FAULT.key ≠ (SLOT_STAT_STATE core slot).key := key_ne_of_addr (by decide) (by simp [SLOT_STAT_STATE]) (by simp only [SLOT_STAT_STATE, FT_CORE_FAULT]; omega)

theorem fault_slotInflight (core slot : Nat) : FT_CORE_FAULT.key ≠ (SLOT_STAT_INFLIGHT core slot).key := key_ne_of_addr (by decide) (by simp [SLOT_STAT_INFLIGHT]) (by simp only [SLOT_STAT_INFLIGHT, FT_CORE_FAULT]; omega)

theorem fault_slotFlow (core slot : Nat) : FT_CORE_FAULT.key ≠ (SLOT_STAT_FLOW core slot).key := key_ne_of_addr (by decide) (by simp [SLOT_STAT_FLOW]) (by simp only [SLOT_STAT_FLOW, FT_CORE_FAULT]; omega)

theorem fault_slotStep (core slot : Nat) : FT_CORE_FAULT.key ≠ (SLOT_STEP core slot).key := key_ne_of_addr (by decide) (by simp [SLOT_STEP]) (by simp only [SLOT_STEP, FT_CORE_FAULT]; omega)

theorem fault_slotTag (core slot : Nat) : FT_CORE_FAULT.key ≠ (SLOT_TAG core slot).key := key_ne_of_addr (by decide) (by simp [SLOT_TAG]) (by simp only [SLOT_TAG, FT_CORE_FAULT]; omega)

theorem Steady.slotRefresh (h : Steady FT_CORE_FAULT s t) (core slot : Nat) : Steady FT_CORE_FAULT s (t.slotRefresh core slot) := by
  unfold State.slotRefresh
  dsimp only
  split
  · exact ((h.set (fault_slotState core slot) _).set (fault_slotInflight core slot) _).set (fault_slotStep core slot) _
  · exact (h.set (fault_slotState core slot) _).set (fault_slotInflight core slot) _

theorem Steady.taskFail {f : Field} (h : Steady f s t) (core slot : Nat) (x : Task) (st : Status) (step opcode : Nat) : Steady f s (t.taskFail core slot x st step opcode) :=
  (h.capture _ _ _ _).raise _ _

theorem Steady.drawFree {f : Field} (h : Steady f s t) : Steady f s t.drawFree.2 := h.upd rfl rfl rfl rfl

/-- R125 to R127. Once its task has left the slot, all that follows is steady. -/
theorem taskEnds_steady (s : State) (core slot : Nat) (r : Running) (st : Status) (x : Option StepFail) : Steady FT_CORE_FAULT (s.setRunning core slot none) (s.taskEnds core slot r st x) := by
  have left := Steady.refl FT_CORE_FAULT (s.setRunning core slot none)
  unfold State.taskEnds
  refine Steady.slotRefresh ?_ core slot
  split
  · exact left.flowEnds _ _ _ _
  · split
    · exact ((left.taskFail _ _ _ _ _ _).set (fault_slotTag core slot) _).flowEnds _ _ _ _
    · exact (left.drawFree.drawFree.drawFree.taskFail _ _ _ _ _ _).flowEnds _ _ _ _

theorem taskEnds_running (s : State) (core slot : Nat) (r : Running) (st : Status) (x : Option StepFail) : (s.taskEnds core slot r st x).running core slot = none :=
  (running_of_slots (taskEnds_steady s core slot r st x).slots core slot).trans (State.running_setRunning_self s core slot none)

theorem taskEnds_slotSteady (s : State) (core slot : Nat) (r : Running) (st : Status) (x : Option StepFail) : SlotSteady core slot s (s.taskEnds core slot r st x) :=
  (setRunning_slotSteady s core slot none).trans ((taskEnds_steady s core slot r st x).atSlot core slot)

/-- R125, R126, R151. The check for a task's end changes its slot, or nothing but its registers. -/
theorem endCheck_slotSteady (s : State) (core slot : Nat) : SlotSteady core slot s (s.endCheck core slot) := by
  have refreshed := ((Steady.refl FT_CORE_FAULT s).slotRefresh core slot).atSlot core slot
  unfold State.endCheck
  split
  · exact (Steady.refl _ s).atSlot core slot
  · split
    · exact refreshed
    split
    · exact taskEnds_slotSteady ..
    split
    · exact taskEnds_slotSteady ..
    split
    · exact refreshed
    split
    · split <;> exact taskEnds_slotSteady ..
    · exact refreshed

end

end Sys2Proof.Proofs

/-!
Reads of the stores and of HBM by an engine (R154, R275 to R280, R286 to R295, R313): the line caches, the directory and the counters of memory change; the fault register, the events
that show, the slots and the save records stay.
-/

namespace Sys2Proof.Proofs

open Sys2Proof.Machine Sys2Proof.Laws Sys2Proof.Claims

section

variable {s t : State}

/-- A count or a register at another place of its page than FT_CORE_FAULT takes a value. -/
theorem Steady.put (h : Steady FT_CORE_FAULT s t) {g : Field} (place : g.lsb < 32 ∧ g.addr % 4096 ≠ 0x68) (v : Nat) : Steady FT_CORE_FAULT s (t.set g v) :=
  h.set (fault_apart place.1 place.2) v

theorem Steady.add (h : Steady FT_CORE_FAULT s t) {g : Field} (place : g.lsb < 32 ∧ g.addr % 4096 ≠ 0x68) (n : Nat) : Steady FT_CORE_FAULT s (t.add g n) := h.put place _

theorem Steady.withMem {f : Field} (h : Steady f s t) (m : Memory) : Steady f s { t with mem := m } := h.upd rfl rfl rfl rfl

theorem Steady.withFaults {f : Field} (h : Steady f s t) (l : List FaultEntry) : Steady f s { t with faultLog := l } := h.upd rfl rfl rfl rfl

theorem Steady.ite {f : Field} {u : State} {c : Prop} [Decidable c] (h : Steady f s t) (h' : Steady f s u) : Steady f s (if c then t else u) := by
  split
  · exact h
  · exact h'

theorem Steady.fault (h : Steady FT_CORE_FAULT s t) (cls : Nat) (st : Status) (fn lcore array port index : Nat) : Steady FT_CORE_FAULT s (t.fault cls st fn lcore array port index) := by
  unfold State.fault State.logFault
  split
  · exact (h.withFaults _).raise _ _
  · exact (h.add (by decide) 1).raise _ _

/-! ### Stores (R275) -/

theorem place_stCe (core k : Nat) : (ST_CE_CNT core k).lsb < 32 ∧ (ST_CE_CNT core k).addr % 4096 ≠ 0x68 := by
  simp only [ST_CE_CNT]
  omega

theorem place_stUe (core k : Nat) : (ST_UE_CNT core k).lsb < 32 ∧ (ST_UE_CNT core k).addr % 4096 ≠ 0x68 := by
  simp only [ST_UE_CNT]
  omega

theorem place_stErr (core k : Nat) : (ST_ERR_ADDR core k).lsb < 32 ∧ (ST_ERR_ADDR core k).addr % 4096 ≠ 0x68 := by
  simp only [ST_ERR_ADDR]
  omega

theorem Steady.setStoreErrs {f : Field} (h : Steady f s t) (k : Nat) (m : Map WordErr) : Steady f s (t.setStoreErrs k m) := by
  unfold State.setStoreErrs
  split <;> exact h.upd rfl rfl rfl rfl

theorem Steady.storeCe (h : Steady FT_CORE_FAULT s t) (k core addr : Nat) : Steady FT_CORE_FAULT s (t.storeCe k core addr) :=
  (((h.setStoreErrs k _).add (place_stCe core k) 1).put (place_stErr core k) _).raise _ _

theorem Steady.storeUe (h : Steady FT_CORE_FAULT s t) (k core addr who : Nat) : Steady FT_CORE_FAULT s (t.storeUe k core addr who) :=
  ((((h.add (place_stUe core k) 1).put (place_stErr core k) _).raise _ _).capture _ _ _ _).fault _ _ _ _ _ _ _

theorem Steady.storeCheck (h : Steady FT_CORE_FAULT s t) (k core who : Nat) (words : List Nat) : Steady FT_CORE_FAULT s (t.storeCheck k core who words).1 := by
  induction words generalizing t with
  | nil => exact h
  | cons a words ih =>
    unfold State.storeCheck
    split
    · exact ih h
    · exact ih (h.storeCe k core a)
    · exact h.storeUe k core a who

theorem Steady.storeRead (h : Steady FT_CORE_FAULT s t) (k core addr n who : Nat) : Steady FT_CORE_FAULT s (t.storeRead k core addr n who).1 := h.storeCheck k core who _

/-! ### Lines at their home (R279, R280, R313, R314, R326) -/

theorem place_wrLines (k : Nat) : (MS_WR_LINES k).lsb < 32 ∧ (MS_WR_LINES k).addr % 4096 ≠ 0x68 := by
  simp only [MS_WR_LINES]
  omega

theorem place_rdLines (k : Nat) : (MS_RD_LINES k).lsb < 32 ∧ (MS_RD_LINES k).addr % 4096 ≠ 0x68 := by
  simp only [MS_RD_LINES]
  omega

theorem place_msCe (k : Nat) : (MS_CE_CNT k).lsb < 32 ∧ (MS_CE_CNT k).addr % 4096 ≠ 0x68 := by
  simp only [MS_CE_CNT]
  omega

theorem place_msUe (k : Nat) : (MS_UE_CNT k).lsb < 32 ∧ (MS_UE_CNT k).addr % 4096 ≠ 0x68 := by
  simp only [MS_UE_CNT]
  omega

theorem Steady.setMeta {f : Field} (h : Steady f s t) (l : Nat) (m : LineMeta) : Steady f s (t.setMeta l m) := h.upd rfl rfl rfl rfl

theorem Steady.setStored {f : Field} (h : Steady f s t) (l : Nat) (d : List Byte) : Steady f s (t.setStored l d) := h.upd rfl rfl rfl rfl

theorem Steady.lineCe (h : Steady FT_CORE_FAULT s t) (l : Nat) : Steady FT_CORE_FAULT s (t.lineCe l) :=
  ((((h.setMeta l _).add (place_wrLines _) 1).add (place_msCe _) 1).add (by decide) 1).raise _ _

theorem Steady.lineUe (h : Steady FT_CORE_FAULT s t) (l fn cause : Nat) : Steady FT_CORE_FAULT s (t.lineUe l fn cause) := by
  have counted := ((((h.add (place_msUe (stackOf l)) 1).add (g := MEM_UE_CNT) (by decide) 1).put (g := MEM_UE_ADDR_LO) (by decide) (l * 128 % 2 ^ 32 / 2 ^ MEM_UE_ADDR_LO.lsb)).put
    (g := MEM_UE_ADDR_HI) (by decide) (l * 128 / 2 ^ 32)).raise 0x300 1
  unfold State.lineUe
  dsimp only
  split
  · exact counted.capture _ _ _ _
  · exact (counted.capture _ _ _ _).fault _ _ _ _ _ _ _

theorem Steady.logProt (h : Steady FT_CORE_FAULT s t) (e : ProtEntry) (st : Status) : Steady FT_CORE_FAULT s (t.logProt e st) := by
  unfold State.logProt
  dsimp only
  split
  · exact (h.withMem _).capture _ _ _ _
  · exact ((h.set (show FT_CORE_FAULT.key ≠ PL_LOST.key by decide) _).raise _ _).capture _ _ _ _

theorem Steady.tagFail (h : Steady FT_CORE_FAULT s t) (agent fn core dom l cause : Nat) : Steady FT_CORE_FAULT s (t.tagFail agent fn core dom l cause) :=
  ((h.add (by decide) 1).raise _ _).logProt _ _

theorem Steady.poison (h : Steady FT_CORE_FAULT s t) (l : Nat) : Steady FT_CORE_FAULT s (t.poison l) :=
  (((h.setMeta l _).add (place_wrLines _) 1).add (by decide) 1).raise _ _

theorem Steady.homeRead (h : Steady FT_CORE_FAULT s t) (agent fn core dom l : Nat) : Steady FT_CORE_FAULT s (t.homeRead agent fn core dom l).1 := by
  have counted := h.add (place_rdLines (stackOf l)) 1
  unfold State.homeRead
  split
  · exact h.lineUe l fn 3
  dsimp only
  split
  · exact counted.tagFail agent fn core dom l 3
  · exact counted.lineUe l fn 1
  · have met {c : Prop} [Decidable c] : Steady FT_CORE_FAULT s (if c then (t.add (MS_RD_LINES (stackOf l)) 1).lineCe l else t.add (MS_RD_LINES (stackOf l)) 1) := .ite (counted.lineCe l) counted
    simp only [apply_ite Prod.fst]
    exact .ite met (.ite met (met.tagFail agent fn core dom l 1))

theorem Steady.homeReadForMerge (h : Steady FT_CORE_FAULT s t) (agent fn core dom l : Nat) : Steady FT_CORE_FAULT s (t.homeReadForMerge agent fn core dom l).1 := by
  have counted := h.add (place_rdLines (stackOf l)) 1
  unfold State.homeReadForMerge
  split
  · exact h.lineUe l fn 3
  dsimp only
  split
  · exact counted.tagFail agent fn core dom l 3
  · exact counted.lineUe l fn 1
  · have met {c : Prop} [Decidable c] : Steady FT_CORE_FAULT s (if c then (t.add (MS_RD_LINES (stackOf l)) 1).lineCe l else t.add (MS_RD_LINES (stackOf l)) 1) := .ite (counted.lineCe l) counted
    simp only [apply_ite Prod.fst]
    exact .ite met (.ite met ((met.poison l).tagFail agent fn core dom l 2))

theorem Steady.homeWrite (h : Steady FT_CORE_FAULT s t) (fn dom l : Nat) (d : List Byte) : Steady FT_CORE_FAULT s (t.homeWrite fn dom l d).1 := by
  have counted := h.add (place_wrLines (stackOf l)) 1
  unfold State.homeWrite
  split
  · exact h.lineUe l fn 3
  · have cleared : Steady FT_CORE_FAULT s (if ((t.add (MS_WR_LINES (stackOf l)) 1).lineMeta l).code = .poison then (t.add (MS_WR_LINES (stackOf l)) 1).add POISON_CLR_CNT 1
        else t.add (MS_WR_LINES (stackOf l)) 1) := .ite (counted.add (by decide) 1) counted
    simp only [apply_ite Prod.fst]
    exact .ite ((cleared.setStored l d).setMeta l _) ((cleared.setStored l _).setMeta l _)

/-! ### Caches and directories (R275, R280, R286, R289, R292) -/

theorem place_snoop (core : Nat) : (LC_SNOOP_CNT core).lsb < 32 ∧ (LC_SNOOP_CNT core).addr % 4096 ≠ 0x68 := by
  simp only [LC_SNOOP_CNT]
  omega

theorem place_writeBack (core : Nat) : (LC_WB_CNT core).lsb < 32 ∧ (LC_WB_CNT core).addr % 4096 ≠ 0x68 := by
  simp only [LC_WB_CNT]
  omega

theorem place_crossing (core : Nat) : (LC_XEVICT_CNT core).lsb < 32 ∧ (LC_XEVICT_CNT core).addr % 4096 ≠ 0x68 := by
  simp only [LC_XEVICT_CNT]
  omega

theorem Steady.setCached {f : Field} (h : Steady f s t) (core l : Nat) (v : Option CacheLine) : Steady f s (t.setCached core l v) := h.upd rfl rfl rfl rfl

theorem Steady.setEvicted {f : Field} (h : Steady f s t) (core l : Nat) (v : Option Evicted) : Steady f s (t.setEvicted core l v) := h.upd rfl rfl rfl rfl

theorem Steady.setDir {f : Field} (h : Steady f s t) (l : Nat) (owner : Option Nat) (sharers : List Nat) : Steady f s (t.setDir l owner sharers) := h.upd rfl rfl rfl rfl

theorem Steady.send {f : Field} (h : Steady f s t) (m : Flight) : Steady f s (t.send m) := h.upd rfl rfl rfl rfl

theorem Steady.setTxn {f : Field} (h : Steady f s t) (l : Nat) (v : Option Txn) : Steady f s (t.setTxn l v) := h.upd rfl rfl rfl rfl

theorem Steady.lineFault (h : Steady FT_CORE_FAULT s t) (core : Nat) (x : CacheLine) (w who : Nat) : Steady FT_CORE_FAULT s (t.lineFault core x w who) :=
  ((h.raise _ _).capture _ _ _ _).fault _ _ _ _ _ _ _

theorem Steady.readOut (h : Steady FT_CORE_FAULT s t) (core : Nat) (x : CacheLine) : Steady FT_CORE_FAULT s (t.readOut core x) := by
  unfold State.readOut
  split
  · exact h.lineFault _ _ _ _
  · exact .ite h (h.raise _ _)
  · exact h

theorem Steady.writeBack (h : Steady FT_CORE_FAULT s t) (l fn dom : Nat) (y : Yield) : Steady FT_CORE_FAULT s (t.writeBack l fn dom y) := by
  unfold State.writeBack
  split
  · exact h
  split
  · exact h
  · exact h.homeWrite _ _ _ _
  · exact .ite (h.lineUe _ _ _) ((h.poison l).lineUe _ _ _)

theorem Steady.crossing (h : Steady FT_CORE_FAULT s t) (core : Nat) : Steady FT_CORE_FAULT s (t.crossing core) := (h.add (by decide) 1).add (place_crossing core) 1

theorem Steady.takeFill (h : Steady FT_CORE_FAULT s t) (core l : Nat) : Steady FT_CORE_FAULT s (t.takeFill core l) := by
  unfold State.takeFill
  split
  · exact h
  · exact .ite (h.withMem _) (((h.withMem _).setCached core l none).writeBack _ _ _ _)

theorem Steady.takeCached (h : Steady FT_CORE_FAULT s t) (core l : Nat) : Steady FT_CORE_FAULT s (t.takeCached core l) := by
  unfold State.takeCached
  split
  · exact h
  · exact ((h.readOut core _).setCached core l none).writeBack _ _ _ _

theorem Steady.takeEvicted (h : Steady FT_CORE_FAULT s t) (core l : Nat) : Steady FT_CORE_FAULT s (t.takeEvicted core l) := by
  unfold State.takeEvicted
  split
  · exact h
  · exact .ite h ((((h.setEvicted core l none).writeBack _ _ _ _).add (place_writeBack core) _).crossing core)

theorem Steady.takeBack (h : Steady FT_CORE_FAULT s t) (core l : Nat) : Steady FT_CORE_FAULT s (t.takeBack core l) :=
  (((h.add (place_snoop core) 1).takeFill core l).takeCached core l).takeEvicted core l

theorem Steady.backInvalidate (h : Steady FT_CORE_FAULT s t) (e : DirEntry) : Steady FT_CORE_FAULT s (t.backInvalidate e) :=
  ((h.foldl fun _ c hu => hu.takeBack c e.line).setDir e.line none []).add (by decide) 1

theorem Steady.dirRoom (h : Steady FT_CORE_FAULT s t) (l : Nat) : Steady FT_CORE_FAULT s (t.dirRoom l) := by
  unfold State.dirRoom
  refine .ite h (.ite h ?_)
  split
  · exact h
  · exact h.backInvalidate _

theorem Steady.installDir (h : Steady FT_CORE_FAULT s t) (l : Nat) (owner : Option Nat) (sharers : List Nat) : Steady FT_CORE_FAULT s (t.installDir l owner sharers) :=
  (Steady.ite h (h.dirRoom l)).setDir l owner sharers

theorem Steady.install (h : Steady FT_CORE_FAULT s t) (core : Nat) (x : CacheLine) : Steady FT_CORE_FAULT s (t.install core x) := by
  have room := h.setCached core x.line none
  unfold State.install
  dsimp only
  split
  · exact room.setCached core x.line _
  · exact (((room.readOut core _).setCached core _ none).setEvicted core _ _).setCached core x.line _
  · exact room

end

end Sys2Proof.Proofs

/-!
Transactions of lines (R287 to R295) and what reads through them: images and their steps (R154, R155), the windows of save records (R148, R150).
-/

namespace Sys2Proof.Proofs

open Sys2Proof.Machine Sys2Proof.Laws Sys2Proof.Claims

section

variable {s t : State}

/-! ### Transactions (R287 to R295) -/

theorem Steady.finishTxn (h : Steady FT_CORE_FAULT s t) (x : Txn) : Steady FT_CORE_FAULT s (t.finishTxn x) := by
  have freed := h.setTxn x.line none
  unfold State.finishTxn
  refine Steady.foldl ?_ fun u c hu => hu.send _
  dsimp only
  split
  · split
    · exact ((freed.homeWrite _ _ _ _).send _).installDir _ _ _
    · exact .ite (((freed.homeRead _ _ _ _ _).send _).installDir _ _ _) (((freed.homeRead _ _ _ _ _).send _).setDir _ _ _)
  · refine (Steady.send ?_ _).installDir _ _ _
    split
    · exact freed.homeWrite _ _ _ _
    · exact freed
  · exact (freed.send _).installDir _ _ _
  · split
    · exact (freed.send _).installDir _ _ _
    · exact .ite (((freed.homeReadForMerge _ _ _ _ _).send _).installDir _ _ _) (((freed.homeReadForMerge _ _ _ _ _).send _).setDir _ _ _)

theorem Steady.beginTxn (h : Steady FT_CORE_FAULT s t) (x : Txn) : Steady FT_CORE_FAULT s (t.beginTxn x) := by
  unfold State.beginTxn
  exact .ite ((h.withMem _).finishTxn _) ((h.withMem _).foldl fun u c hu => hu.send _)

theorem Steady.nextTxn (h : Steady FT_CORE_FAULT s t) (l fuel : Nat) : Steady FT_CORE_FAULT s (t.nextTxn l fuel) := by
  induction fuel generalizing t with
  | zero => exact h
  | succ fuel ih =>
    unfold State.nextTxn
    refine .ite h ?_
    split
    · exact h
    · exact ih ((h.withMem _).beginTxn _)

theorem Steady.progress (h : Steady FT_CORE_FAULT s t) (x : Txn) : Steady FT_CORE_FAULT s (t.progress x) := by
  unfold State.progress
  exact .ite (((h.setTxn _ _).finishTxn _).nextTxn _ _) (h.setTxn _ _)

theorem Steady.cross (h : Steady FT_CORE_FAULT s t) (core l : Nat) : Steady FT_CORE_FAULT s (t.cross core l) := by
  unfold State.cross
  split
  · exact .ite h ((h.setEvicted _ _ _).crossing _)
  · exact h

theorem Steady.homeReply (h : Steady FT_CORE_FAULT s t) (m : Flight) : Steady FT_CORE_FAULT s (t.homeReply m) := by
  unfold State.homeReply
  split
  · exact h
  · refine .ite h ?_
    dsimp only
    split
    · exact h.progress _
    · exact .ite (h.progress _) (.ite ((h.cross _ _).progress _) (h.progress _))
    · exact h.progress _

theorem Steady.coreSnoop (h : Steady FT_CORE_FAULT s t) (m : Flight) : Steady FT_CORE_FAULT s (t.coreSnoop m) := by
  have counted := h.add (place_snoop m.core) 1
  unfold State.coreSnoop
  dsimp only
  split
  · split
    · exact ((counted.readOut _ _).setCached _ _ _).send _
    · exact (((counted.readOut _ _).setCached _ _ _).writeBack _ _ _ _).send _
  · exact counted.send _

theorem Steady.homeEvict (h : Steady FT_CORE_FAULT s t) (core l : Nat) : Steady FT_CORE_FAULT s (t.homeEvict core l) := by
  unfold State.homeEvict
  split
  · exact h
  next e _ =>
    refine .ite h ?_
    have taken := (h.setEvicted core l (some { e with arrived := true })).add (place_writeBack core) (b2n e.owned)
    dsimp only
    split
    · exact (Steady.ite ((taken.cross core l).writeBack _ _ _ _) (taken.cross core l)).progress _
    · exact ((taken.writeBack _ _ _ _).setDir _ _ _).send _

theorem Steady.deliverOther (h : Steady FT_CORE_FAULT s t) (m : Flight) : Steady FT_CORE_FAULT s (t.deliverOther m) := by
  unfold State.deliverOther
  split
  · exact h
  · exact h
  · exact h
  · exact h.setEvicted _ _ _
  · exact h.coreSnoop m
  · exact h.coreSnoop m
  all_goals exact h.homeReply m

theorem Steady.settleEvictions (h : Steady FT_CORE_FAULT s t) (l fuel : Nat) : Steady FT_CORE_FAULT s (t.settleEvictions l fuel) := by
  induction fuel generalizing t with
  | zero => exact h
  | succ fuel ih =>
    unfold State.settleEvictions
    split
    · exact ih ((h.withMem _).deliverOther _)
    · split
      · exact ih (h.homeEvict _ l)
      · exact h

theorem Steady.victimRoom (h : Steady FT_CORE_FAULT s t) (core l : Nat) : Steady FT_CORE_FAULT s (t.victimRoom core l) := by
  unfold State.victimRoom
  exact .ite (h.foldl fun u x hu => hu.settleEvictions x _) h

theorem Steady.coreFill (h : Steady FT_CORE_FAULT s t) (m : Flight) : Steady FT_CORE_FAULT s (t.coreFill m) := by
  unfold State.coreFill
  refine .ite h (.ite (h.setCached _ _ _) ?_)
  refine (Steady.victimRoom ?_ _ _).install _ _
  split
  · exact h.drawFree.lineFault _ _ _ _
  · exact h

theorem Steady.deliver (h : Steady FT_CORE_FAULT s t) (m : Flight) : Steady FT_CORE_FAULT s (t.deliver m) := by
  unfold State.deliver
  exact .ite ((h.coreFill m).nextTxn _ _) (h.deliverOther m)

theorem Steady.settled (h : Steady FT_CORE_FAULT s t) (l : Nat) : Steady FT_CORE_FAULT s (t.settled l) := by
  have settle (fuel : Nat) {u : State} (hu : Steady FT_CORE_FAULT s u) : Steady FT_CORE_FAULT s (u.settle l fuel) := by
    induction fuel generalizing u with
    | zero => exact hu
    | succ fuel ih =>
      unfold State.settle
      split
      · exact ih ((hu.withMem _).deliver _)
      · split
        · exact ih (hu.homeEvict _ l)
        · exact hu
  exact settle _ h

/-! ### Reads by an engine (R154, R282, R291) -/

theorem Steady.downgrade (h : Steady FT_CORE_FAULT s t) (l : Nat) : Steady FT_CORE_FAULT s (t.downgrade l).1 := by
  unfold State.downgrade
  split
  · exact h
  next o _ =>
    have counted := h.add (place_snoop o) 1
    dsimp only
    split
    · exact counted.setDir _ _ _
    · split
      · exact (((counted.readOut _ _).setCached _ _ _).writeBack _ _ _ _).setDir _ _ _
      · exact (((counted.readOut _ _).setCached _ _ _).writeBack _ _ _ _).setDir _ _ _

theorem Steady.agentRead (h : Steady FT_CORE_FAULT s t) (agent fn core dom l : Nat) : Steady FT_CORE_FAULT s (t.agentRead agent fn core dom l).1 := by
  have owner := (h.settled l).downgrade l
  unfold State.agentRead State.homeFetch
  split
  next u d eq => rwa [eq] at owner
  next u eq =>
    rw [eq] at owner
    exact owner.homeRead agent fn core dom l

theorem Steady.agentLines (h : Steady FT_CORE_FAULT s t) (agent fn core dom who pa n : Nat) : Steady FT_CORE_FAULT s (t.readLines (.home agent) fn core dom who pa n).1 := by
  have each (l : List (Nat × Nat × Nat)) (x : State × Status × List Byte) (hx : Steady FT_CORE_FAULT s x.1) : Steady FT_CORE_FAULT s
      (l.foldl (fun (t, st, acc) (l, off, k) => let (t1, st1, b) := t.agentRead agent fn core dom l; (t1, firstBad st st1, acc ++ (b.drop off).take k)) x).1 := by
    induction l generalizing x with
    | nil => exact hx
    | cons a l ih => exact ih _ (hx.agentRead agent fn core dom a.1)
  exact each _ (t, .ok, []) h

theorem Steady.agentHbm (h : Steady FT_CORE_FAULT s t) (agent fn core who addr n : Nat) : Steady FT_CORE_FAULT s (t.hbmRead (.home agent) fn core who addr n).1 := by
  unfold State.hbmRead
  split
  · exact h
  split
  · exact h
  split
  · exact h
  · exact h.agentLines _ _ _ _ _ _ _

theorem Steady.engineRead (h : Steady FT_CORE_FAULT s t) (agent fn fuel addr n : Nat) : Steady FT_CORE_FAULT s (t.engineRead agent fn fuel addr n).1 := by
  induction fuel generalizing t addr n with
  | zero => exact h
  | succ fuel ih =>
    have first := h.agentHbm agent fn 0 0 addr (min n (2 ^ 21 - addr % 2 ^ 21))
    unfold State.engineRead
    split
    · exact h
    · dsimp only
      split
      next u b eq =>
        rw [eq] at first
        exact ih first _ _
      next u st b _ eq => rwa [eq] at first

/-! ### Steps of an image (R155) and windows of records (R148, R150) -/

theorem Steady.stepAt (h : Steady FT_CORE_FAULT s t) (core ctx : Nat) (i : Image) (k : Nat) : Steady FT_CORE_FAULT s (t.stepAt core ctx i k).1 := by
  unfold State.stepAt State.imageRead
  split
  · exact h
  · have group := h.engineRead 1 (t.coreHolder core) (64 * min 8 (i.stepCnt - 8 * (k / 8)) / 2 ^ 21 + 2) (i.base + i.stepOff + 512 * (k / 8)) (64 * min 8 (i.stepCnt - 8 * (k / 8)))
    split
    next u b eq =>
      rw [eq] at group
      exact group.upd rfl rfl rfl rfl
    next u st b _ eq =>
      rw [eq] at group
      exact group.engineRead _ _ _ _ _

theorem Steady.stepRead (h : Steady FT_CORE_FAULT s t) (core slot ctx k : Nat) : Steady FT_CORE_FAULT s (t.stepRead core slot ctx k).1 := by
  unfold State.stepRead
  dsimp only
  split
  · exact h.drawFree.drawFree
  next i _ =>
    split
    · exact h.drawFree.drawFree
    · have read := h.stepAt core ctx i k
      split
      next u b eq => rwa [eq] at read
      next u st b _ eq =>
        rw [eq] at read
        exact read.drawFree.drawFree

theorem Steady.withFree {f : Field} (h : Steady f s t) (n : Nat) : Steady f s { t with freeCtr := n } := h.upd rfl rfl rfl rfl

theorem Steady.freeEntry (h : Steady FT_CORE_FAULT s t) (core slot : Nat) (r : Running) (order : Nat) : Steady FT_CORE_FAULT s (t.freeEntry core slot r order).2 :=
  ((h.withFree _).stepRead core slot r.task.ctx _).withFree _

theorem Steady.freeWindow (h : Steady FT_CORE_FAULT s t) (core slot : Nat) (r : Running) : Steady FT_CORE_FAULT s (t.freeWindow core slot r).2 := by
  have entries (l : List Nat) (x : List Entry × State) (hx : Steady FT_CORE_FAULT s x.2) : Steady FT_CORE_FAULT s
      (l.foldl (fun (x : List Entry × State) i => let (e, t) := x.2.freeEntry core slot r (r.order + i); (x.1 ++ [e], t)) x).2 := by
    induction l generalizing x with
    | nil => exact hx
    | cons i l ih => exact ih _ (hx.freeEntry core slot r (r.order + i))
  exact entries _ ([], _) h.drawFree.drawFree

end

end Sys2Proof.Proofs

/-!
Save records (R109, R146 to R150): the reload of one into its slot, the save of a task that is preempted, the start of a resume.
-/

namespace Sys2Proof.Proofs

open Sys2Proof.Machine Sys2Proof.Laws Sys2Proof.Claims

section

variable {s : State} {core slot rk : Nat} {r : Running} {v : Saved}

/-! ### The reload of a record (R109, R150) -/

/-- R150. The state that has freed a save record. -/
def recordFreed (s : State) (rk : Nat) : State := { s with work := { s.work with saves := Map.erase s.work.saves rk } }

/-- R109. The read of the record of a task that is resumed. -/
def recordRead (s : State) (core rk : Nat) (r : Running) : State × Status × List Byte :=
  (recordFreed s rk).storeRead 1 core (s.recordBase core r.task.ctx (rk % 8)) (4096 + 4 * (r.replay.map Entry.accWords).sum) r.task.flow

theorem recordRead_steady (s : State) (core rk : Nat) (r : Running) : Steady FT_CORE_FAULT (recordFreed s rk) (recordRead s core rk r).1 := (Steady.refl _ _).storeRead _ _ _ _ _

/-- R109. A record that cannot be read faults its task. -/
theorem reload_bad (run : s.running core slot = some r) (saved : Map.find s.work.saves rk = some v) (bad : (recordRead s core rk r).2.1 ≠ .ok) : s.reload core slot rk =
    ((recordRead s core rk r).1.setRunning core slot (some { r with restore := none })).taskEnds core slot { r with restore := none } (recordRead s core rk r).2.1 none := by
  unfold State.reload
  rw [run, saved]
  exact if_pos bad

/-- R109, R148, R150. The task that a record which is read describes, and the state that has read it. -/
def recordRestored (s : State) (core slot rk : Nat) (r : Running) (v : Saved) : Running × State :=
  let x := recordRead s core rk r
  let q := restoredHead { r with restore := none } x.2.2
  if (x.2.2.drop 0xA0).take 352 = v.raw then
    ({ q with replay := reloadWords q.replay (unshuffled v.order ((groupsOf 4 (r.replay.map Entry.accWords).sum (x.2.2.drop 4096)).map leNat)) }, x.1)
  else x.1.freeWindow core slot q

theorem recordRestored_steady (s : State) (core slot rk : Nat) (r : Running) (v : Saved) : Steady FT_CORE_FAULT (recordFreed s rk) (recordRestored s core slot rk r v).2 := by
  have read := recordRead_steady s core rk r
  unfold recordRestored
  dsimp only
  split
  · exact read
  · exact read.freeWindow core slot _

/-- R150. A restored task has nothing in flight but what its slot has. -/
theorem recordRestored_window (s : State) (core slot rk : Nat) (r : Running) (v : Saved) : (recordRestored s core slot rk r v).1.window = r.window := by
  unfold recordRestored
  dsimp only
  split <;> rfl

/-- R150. The state in which a slot has its task back. -/
def taskRestored (s : State) (core slot rk : Nat) (r : Running) (v : Saved) : State :=
  (((recordRestored s core slot rk r v).2.setRunning core slot (some (recordRestored s core slot rk r v).1)).set (SLOT_STAT_FLOW core slot)
    (recordRestored s core slot rk r v).1.task.flow).raise (seqPage core) 2

/-- R109, R150. A record that is read gives the slot its task back, and the check for the task's end follows. -/
theorem reload_ok (run : s.running core slot = some r) (saved : Map.find s.work.saves rk = some v) (good : (recordRead s core rk r).2.1 = .ok) :
    s.reload core slot rk = (taskRestored s core slot rk r v).endCheck core slot := by
  unfold State.reload
  rw [run, saved]
  exact if_neg (not_not_intro good)

theorem taskRestored_shows (s : State) (core slot rk : Nat) (r : Running) (v : Saved) : (taskRestored s core slot rk r v).shows 0 (seqPage core) 2 = true := State.raise_shows _ _ _

theorem taskRestored_running (s : State) (core slot rk : Nat) (r : Running) (v : Saved) : (taskRestored s core slot rk r v).running core slot = some (recordRestored s core slot rk r v).1 :=
  (running_of_slots (congrArg Work.slots (State.raise_work _ _ _)) core slot).trans (State.running_setRunning_self _ core slot (some (recordRestored s core slot rk r v).1))

theorem taskRestored_slotSteady (s : State) (core slot rk : Nat) (r : Running) (v : Saved) : SlotSteady core slot (recordFreed s rk) (taskRestored s core slot rk r v) :=
  (((recordRestored_steady s core slot rk r v).atSlot core slot).trans (setRunning_slotSteady _ core slot _)).trans
    ((((Steady.refl _ _).set (fault_slotFlow core slot) _).raise _ _).atSlot core slot)

/-- R109, R150. Beside its slot, a reload frees the record and nothing more. -/
theorem reload_slotSteady (run : s.running core slot = some r) (saved : Map.find s.work.saves rk = some v) : SlotSteady core slot (recordFreed s rk) (s.reload core slot rk) := by
  by_cases good : (recordRead s core rk r).2.1 = .ok
  · rw [reload_ok run saved good]
    exact (taskRestored_slotSteady s core slot rk r v).trans (endCheck_slotSteady _ core slot)
  · rw [reload_bad run saved good]
    exact (((recordRead_steady s core rk r).atSlot core slot).trans (setRunning_slotSteady _ core slot _)).trans (taskEnds_slotSteady ..)

/-! ### What a read of a store meets depends on memory alone -/

theorem storeCheck_status_congr (k core who : Nat) (words : List Nat) {s t : State} (h : t.mem = s.mem) : (t.storeCheck k core who words).2 = (s.storeCheck k core who words).2 := by
  induction words generalizing s t with
  | nil => rfl
  | cons a words ih =>
    have errs : t.storeErrs k = s.storeErrs k := by
      unfold State.storeErrs
      rw [h]
    unfold State.storeCheck
    rw [errs]
    split
    · exact ih h
    · refine ih ?_
      unfold State.storeCe
      rw [State.raise_mem, State.raise_mem, errs]
      show (State.setStoreErrs t k _).mem = (State.setStoreErrs s k _).mem
      unfold State.setStoreErrs
      rw [h]
      split <;> rfl
    · rfl

/-- R109. The record reads as it did before it was freed. -/
theorem recordRead_status (s : State) (core rk : Nat) (r : Running) : (recordRead s core rk r).2.1 =
    (s.storeRead 1 core (s.recordBase core r.task.ctx (rk % 8)) (4096 + 4 * (r.replay.map Entry.accWords).sum) r.task.flow).2.1 :=
  storeCheck_status_congr 1 core _ _ rfl

/-! ### The save of a preempted task (R146 to R149) -/

/-- R149. The first word of a resume token names the core, the context and the record. -/
theorem tokenWords_first {ctx k : Nat} (gen : Nat) (q : Running) (es : List Entry) (hcore : core < 16) (hctx : ctx < 16) (hk : k < 8) :
    (tokenWords core ctx k gen q es).length = 4 ∧ (tokenWords core ctx k gen q es).getD 0 0 % 65536 = core + 16 * ctx + 256 * k := by
  refine ⟨rfl, ?_⟩
  show (core + 16 * ctx + 256 * k + 65536 * gen) % 65536 = _
  omega

/-- R146. The state in which a saved task leaves its slot PREEMPTED. -/
def preemptedEnds (w : State) (core slot : Nat) (r : Running) : State :=
  (((w.setRunning core slot none).raise (seqPage core) 1).flowEnds r.task.flow core .preempted 0).slotRefresh core slot

theorem preemptedEnds_steady (w : State) (core slot : Nat) (r : Running) : Steady FT_CORE_FAULT ((w.setRunning core slot none).raise (seqPage core) 1) (preemptedEnds w core slot r) :=
  ((Steady.refl _ _).flowEnds _ _ _ _).slotRefresh _ _

/-- R107, R146 to R149. A task with nothing in flight is saved: its record takes the rest of its program. -/
theorem exec_preemptSave {k : Nat} (awake : s.Awake (seqPage core)) (run : s.running core slot = some r) (asked : r.preempt = some k) (empty : r.window = []) :
    ∃ w v gen, exec (.preemptSave core slot []) s = .next (preemptedEnds w core slot r) ∧ Map.find w.work.saves (recordKey core r.task.ctx k) = some v ∧
      v.run = { r with window := [], replay := inOrder r.replay, preempt := none } ∧ v.token = tokenWords core r.task.ctx k gen r (inOrder r.replay) := by
  have runs : exec (.preemptSave core slot []) s = execPreemptSave core slot [] s := rfl
  rw [runs]
  unfold execPreemptSave
  rw [event_awake awake]
  simp only [run, asked, empty]
  exact ⟨_, _, _, rfl, Map.find_insert_self _ _ _, rfl, rfl⟩

/-! ### The start of a resume (R150) -/

/-- R150. The state in which a slot holds a task whose record is to be reloaded, before its registers follow. -/
def resumeTaken (s : State) (core slot rk : Nat) (v : Saved) : State :=
  (((({ s with work := { s.work with resumes := s.work.resumes.filter (fun x => x != (core, rk)), gets := s.work.gets.filter (fun g => g != (core, slot)) } }.set
    (SLOT_STAT_CTX core slot) v.run.task.ctx).set (SLOT_STAT_FLOW core slot) v.run.task.flow).set (FLOW_STATE v.run.task.flow) 2).setRunning core slot
    (some { v.run with restore := some rk }))

theorem exec_resumeStart (awake : s.Awake (seqPage core)) (waits : s.work.resumes.find? (fun x => x.1 == core) = some (core, rk)) (saved : Map.find s.work.saves rk = some v)
    (free : (List.range 4).find? (fun i => s.slotState core i == 1) = some slot) : exec (.resumeStart core) s = .next ((resumeTaken s core slot rk v).slotRefresh core slot) := by
  show execResumeStart core s = _
  unfold execResumeStart
  rw [event_awake awake]
  simp only [waits, saved, free]
  rfl

theorem resumeTaken_running (s : State) (core slot rk : Nat) (v : Saved) : (resumeTaken s core slot rk v).running core slot = some { v.run with restore := some rk } :=
  State.running_setRunning_self _ core slot _

/-- R144. A slot whose record is to be reloaded shows RESTORE. -/
theorem slotRefresh_restores {t : State} {q : Running} (run : t.running core slot = some q) (restores : q.restore = some rk) :
    (t.slotRefresh core slot).get (SLOT_STAT_STATE core slot) = 6 := by
  have inflight : (SLOT_STAT_STATE core slot).key ≠ (SLOT_STAT_INFLIGHT core slot).key := by simp [Field.key, SLOT_STAT_STATE, SLOT_STAT_INFLIGHT]
  have index : (SLOT_STAT_STATE core slot).key ≠ (SLOT_STEP core slot).key := by
    simp only [Field.key, SLOT_STAT_STATE, SLOT_STEP]
    omega
  unfold State.slotRefresh
  simp only [run]
  rw [State.get_set_ne index, State.get_set_ne inflight, State.get_set_self]
  unfold State.slotState
  simp only [run, restores]
  rfl

/-- R158. CTX of a slot is no field that follows its task. -/
theorem slotRefresh_ctx (t : State) (core slot : Nat) : (t.slotRefresh core slot).get (SLOT_STAT_CTX core slot) = t.get (SLOT_STAT_CTX core slot) := by
  have state : (SLOT_STAT_CTX core slot).key ≠ (SLOT_STAT_STATE core slot).key := by simp [Field.key, SLOT_STAT_CTX, SLOT_STAT_STATE]
  have inflight : (SLOT_STAT_CTX core slot).key ≠ (SLOT_STAT_INFLIGHT core slot).key := by simp [Field.key, SLOT_STAT_CTX, SLOT_STAT_INFLIGHT]
  have index : (SLOT_STAT_CTX core slot).key ≠ (SLOT_STEP core slot).key := by
    simp only [Field.key, SLOT_STAT_CTX, SLOT_STEP]
    omega
  unfold State.slotRefresh
  dsimp only
  split
  · rw [State.get_set_ne index, State.get_set_ne inflight, State.get_set_ne state]
  · rw [State.get_set_ne inflight, State.get_set_ne state]

theorem resumeTaken_ctx (s : State) (core rk : Nat) (v : Saved) (low : slot < 4) : (resumeTaken s core slot rk v).get (SLOT_STAT_CTX core slot) = v.run.task.ctx % 16 := by
  have flow : (SLOT_STAT_CTX core slot).key ≠ (FLOW_STATE v.run.task.flow).key :=
    key_ne_of_addr (by simp [SLOT_STAT_CTX]) (by simp [FLOW_STATE]) (by simp only [SLOT_STAT_CTX, FLOW_STATE]; omega)
  have word : (SLOT_STAT_CTX core slot).key ≠ (SLOT_STAT_FLOW core slot).key := by simp [Field.key, SLOT_STAT_CTX, SLOT_STAT_FLOW]
  unfold resumeTaken
  rw [State.get_setRunning, State.get_set_ne flow, State.get_set_ne word, State.get_set_self]
  rfl

/-- Settles O11: `exec_preemptSave`, `exec_resumeStart` and the reload of a record (`reload_ok`, `reload_slotSteady`). -/
theorem preemptionSavesAndResumes : Obligations.PreemptionSavesAndResumes := by
  unfold Obligations.PreemptionSavesAndResumes
  refine ⟨?saves, ?resumes, ?reloads⟩
  case saves =>
    intro core slot k r s awake hcore _ hctx hk run asked empty
    obtain ⟨w, v, gen, runs, saved, rest, token⟩ := exec_preemptSave awake run asked empty
    have steady := preemptedEnds_steady w core slot r
    have raised := State.raise_work (w.setRunning core slot none) (seqPage core) 1
    obtain ⟨long, first⟩ := tokenWords_first gen r (inOrder r.replay) hcore hctx hk
    refine .of_next runs ⟨?_, ⟨v, ?_, rest, by rw [token, long], by rw [token, first]⟩, steady.shown _ _ _ (State.raise_shows _ _ _)⟩
    · rw [running_of_slots (steady.slots.trans (congrArg Work.slots raised)), State.running_setRunning_self]
    · rw [steady.saves, raised]
      exact saved
  case resumes =>
    intro core slot rk v s awake _ waits saved free
    have low : slot < 4 := List.mem_range.mp (List.mem_of_find?_eq_some free)
    have runs := exec_resumeStart awake waits saved free
    have work := slotRefresh_work (resumeTaken s core slot rk v) core slot
    have taken := resumeTaken_running s core slot rk v
    refine .of_next runs ⟨?_, ?_, ?_, slotRefresh_restores taken rfl, ?_, ?_, onlyParts_of_exec runs (by simp [mayChange])⟩
    · rw [slotRefresh_running, taken]
    · rw [work]
      exact fun mem => by simpa using (List.mem_filter.mp mem).2
    · rw [work]
      exact fun mem => by simpa using (List.mem_filter.mp mem).2
    · rw [slotRefresh_ctx, resumeTaken_ctx s core rk v low]
    · rw [work]
      rfl
  case reloads =>
    intro core slot rk r v s run saved read
    have good : (recordRead s core rk r).2.1 = .ok := (recordRead_status s core rk r).trans read
    constructor
    · rw [(reload_slotSteady run saved).saves]
      exact Map.find_erase_self _ _
    · rw [reload_ok run saved good]
      exact (endCheck_slotSteady _ core slot).shown _ _ _ (taskRestored_shows s core slot rk r v)

end

end Sys2Proof.Proofs

/-!
Commands of a core's sequencer (R120, R145 to R147, R150 to R152) and the core-fatal fault (R563).
-/

namespace Sys2Proof.Proofs

open Sys2Proof.Machine Sys2Proof.Laws Sys2Proof.Claims

section

variable {s : State} {core slot : Nat} {r : Running}

/-! ### Records that are reloaded first (R146, R150, R151) -/

theorem reloadNow_plain (run : s.running core slot = some r) (plain : r.restore = none) : s.reloadNow core slot = s := by
  unfold State.reloadNow
  rw [run, Option.bind_some, plain]

/-- A slot with no record to reload, or with one that is no more, stays; else the record is reloaded. -/
theorem reloadNow_cases (s : State) (core slot : Nat) :
    s.reloadNow core slot = s ∨ ∃ rk r v, s.running core slot = some r ∧ Map.find s.work.saves rk = some v ∧ s.reloadNow core slot = s.reload core slot rk := by
  unfold State.reloadNow
  split
  next rk restores =>
    obtain ⟨r, run, -⟩ := Option.bind_eq_some_iff.mp restores
    cases saved : Map.find s.work.saves rk with
    | none =>
      left
      unfold State.reload
      rw [run, saved]
    | some v => exact .inr ⟨rk, r, v, run, saved, rfl⟩
  · exact .inl rfl

theorem reloadNow_slotOnly (s : State) (core slot : Nat) : SlotOnly core slot s (s.reloadNow core slot) := by
  obtain same | ⟨rk, r, v, run, saved, eq⟩ := reloadNow_cases s core slot
  · rw [same]
    exact ((Steady.refl _ s).atSlot core slot).toSlotOnly
  · have freed : SlotOnly core slot s (recordFreed s rk) := ⟨rfl, keepsShown_of_pages rfl, fun _ _ => rfl⟩
    rw [eq]
    exact freed.trans (reload_slotSteady run saved).toSlotOnly

/-- R125. The check for a task's end takes the task out of its slot or leaves it there. -/
theorem endCheck_running (s : State) (core slot : Nat) : (s.endCheck core slot).running core slot = none ∨ (s.endCheck core slot).running core slot = s.running core slot := by
  have refreshed := slotRefresh_running s core slot core slot
  unfold State.endCheck
  split
  · exact .inr rfl
  split
  · exact .inr refreshed
  split
  · exact .inl (taskEnds_running ..)
  split
  · exact .inl (taskEnds_running ..)
  split
  · exact .inr refreshed
  split
  · left
    split <;> exact taskEnds_running ..
  · exact .inr refreshed

/-- R150. A slot with nothing in flight has nothing in flight once its record is reloaded. -/
theorem reloadNow_empty (run : s.running core slot = some r) (empty : r.window = []) {q : Running} (after : (s.reloadNow core slot).running core slot = some q) : q.window = [] := by
  obtain same | ⟨rk, p, v, ran, saved, eq⟩ := reloadNow_cases s core slot
  · rw [same, run] at after
    cases after
    exact empty
  · obtain rfl : r = p := Option.some.inj (run.symm.trans ran)
    rw [eq] at after
    by_cases good : (recordRead s core rk r).2.1 = .ok
    · rw [reload_ok run saved good] at after
      obtain gone | kept := endCheck_running (taskRestored s core slot rk r v) core slot
      · rw [gone] at after
        cases after
      · rw [kept, taskRestored_running] at after
        cases after
        exact (recordRestored_window s core slot rk r v).trans empty
    · rw [reload_bad run saved good, taskEnds_running] at after
      cases after

/-! ### Preemption and abort (R146, R147, R151) -/

/-- R146, R147. The task of a slot as a preemption to record `k` leaves it. -/
def preempted (s : State) (core slot : Nat) (r : Running) (k : Nat) : Running :=
  { r with preempt := some k, queue := [], replay := inOrder ((s.withdrawn core slot r).2 ++ r.replay), window := (s.withdrawn core slot r).1 }

theorem preemptSlot_eq {k : Nat} (run : s.running core slot = some r) (plain : r.restore = none) (first : r.preempt = none) (well : r.hard = none) (stays : r.aborting = false)
    (record : s.freeRecord core r.task.ctx = some k) :
    s.preemptSlot core slot = ((s.setRunning core slot (some (preempted s core slot r k))).withdrawWait core slot).slotRefresh core slot := by
  unfold State.preemptSlot
  rw [reloadNow_plain run plain]
  dsimp only
  rw [run]
  dsimp only
  rw [if_neg (by simp [first, well, stays]), record]
  rfl

/-- R146. What stays in the window of a preempted task has started. -/
theorem withdrawn_stays {e : Entry} (stays : e ∈ (s.withdrawn core slot r).1) : e ∈ r.window ∧ e.phase ≠ .queued := by
  unfold State.withdrawn at stays
  obtain ⟨mem, busy⟩ := List.mem_filter.mp stays
  exact ⟨mem, fun queued => by simp [queued] at busy⟩

/-- R151. A task with nothing in flight that is aborted leaves its slot. -/
theorem endCheck_aborted (run : s.running core slot = some r) (empty : r.window = []) (aborted : r.aborting = true) : (s.endCheck core slot).running core slot = none := by
  unfold State.endCheck
  simp only [run, empty, List.isEmpty_nil, Bool.not_true, Bool.false_eq_true, if_false, aborted, if_true]
  exact taskEnds_running ..

theorem withdrawWait_running (s : State) (core slot d i : Nat) : (s.withdrawWait core slot).running d i = s.running d i := rfl

theorem abortSlot_empty (run : s.running core slot = some r) (empty : r.window = []) : (s.abortSlot core slot).running core slot = none := by
  unfold State.abortSlot
  dsimp only
  split
  next gone => exact gone
  next q after =>
    refine endCheck_aborted ((withdrawWait_running _ core slot core slot).trans (State.running_setRunning_self _ core slot (some _))) ?_ rfl
    rw [reloadNow_empty run empty after]
    rfl

/-! ### Tokens (R150) -/

/-- R150. A record that is discarded is free. -/
theorem discardSave_saves (s : State) (core rk : Nat) (v : Saved) : (s.discardSave core rk v).work.saves = Map.erase s.work.saves rk := by
  have drawn : Steady FT_CORE_FAULT (recordFreed s rk) (recordFreed s rk).drawFree.2.drawFree.2.drawFree.2.drawFree.2 := (Steady.refl _ _).drawFree.drawFree.drawFree.drawFree
  unfold State.discardSave
  exact ((drawn.taskFail core _ v.run.task .aborted _ _).flowEnds v.run.task.flow core .aborted _).saves

/-! ### The core-fatal fault (R563) -/

theorem Steady.countAbandoned {t : State} (h : Steady FT_CORE_FAULT s t) (core : Nat) (e : Entry) : Steady FT_CORE_FAULT s (t.countAbandoned core e) := by
  unfold State.countAbandoned
  split
  · refine h.foldl fun u b hu => ?_
    have vec : (MA_VEC_CNT core b).lsb < 32 ∧ (MA_VEC_CNT core b).addr % 4096 ≠ 0x68 := by
      simp only [MA_VEC_CNT]
      omega
    have bubble : (MA_BUBBLE_CNT core b).lsb < 32 ∧ (MA_BUBBLE_CNT core b).addr % 4096 ≠ 0x68 := by
      simp only [MA_BUBBLE_CNT]
      omega
    exact (hu.drawFree.drawFree.add vec _).add bubble _
  · have read : (MVP_READ_CNT core).lsb < 32 ∧ (MVP_READ_CNT core).addr % 4096 ≠ 0x68 := by
      simp only [MVP_READ_CNT]
      omega
    exact h.drawFree.add read _
  · exact h

theorem Steady.withdrawWait {f : Field} {t : State} (h : Steady f s t) (core slot : Nat) : Steady f s (t.withdrawWait core slot) := h.upd rfl rfl rfl rfl

theorem Steady.dropClaims {f : Field} {t : State} (h : Steady f s t) (core : Nat) (p : Nat → Bool) : Steady f s (t.dropClaims core p) := h.upd rfl rfl rfl rfl

/-- R563. A task that a core-fatal fault ends leaves its slot; beside it, registers, events, items and flows follow. -/
theorem fatalSlot_ends (s : State) (core slot : Nat) : (s.fatalSlot core slot).running core slot = none ∧ SlotOnly core slot s (s.fatalSlot core slot) := by
  have reloaded := reloadNow_slotOnly s core slot
  unfold State.fatalSlot
  dsimp only
  split
  next r run =>
    have counted := (((Steady.refl FT_CORE_FAULT (s.reloadNow core slot)).dropClaims core fun _ => true).foldl (l := r.window.filter isMatrix) fun _ e hu =>
      hu.countAbandoned core e).withdrawWait core slot
    exact ⟨taskEnds_running .., reloaded.trans ((counted.atSlot core slot).trans (taskEnds_slotSteady ..)).toSlotOnly⟩
  next gone => exact ⟨gone, reloaded⟩

/-- A slot without a task has none after a core-fatal fault has ended that of any slot of its core. -/
theorem fatalSlot_none {i : Nat} (free : s.running core i = none) (slot : Nat) : (s.fatalSlot core slot).running core i = none := by
  obtain ⟨ended, only⟩ := fatalSlot_ends s core slot
  by_cases same : i = slot
  · rw [same, ended]
  · rw [only.running same, free]

/-- R563. A core-fatal fault ends the tasks of slots one by one. -/
theorem fatalSlots_end (core : Nat) (slots : List Nat) (s : State) : (∀ i, i ∈ slots ∨ s.running core i = none → (slots.foldl (fun t i => t.fatalSlot core i) s).running core i = none) ∧
    (slots.foldl (fun t i => t.fatalSlot core i) s).get FT_CORE_FAULT = s.get FT_CORE_FAULT ∧ KeepsShown s (slots.foldl (fun t i => t.fatalSlot core i) s) := by
  induction slots generalizing s with
  | nil => exact ⟨fun i free => free.resolve_left List.not_mem_nil, rfl, .refl s⟩
  | cons slot slots ih =>
    obtain ⟨ended, only⟩ := fatalSlot_ends s core slot
    obtain ⟨rest, get, shown⟩ := ih (s.fatalSlot core slot)
    refine ⟨fun i free => rest i ?_, get.trans only.get, only.shown.trans shown⟩
    obtain mem | none := free
    · obtain rfl | later := List.mem_cons.mp mem
      · exact .inr ended
      · exact .inl later
    · exact .inr (fatalSlot_none none slot)

theorem settleSlots_steady (s : State) (core : Nat) : Steady FT_CORE_FAULT s (s.settleSlots core) :=
  Steady.foldl ((Steady.refl _ s).upd rfl rfl rfl rfl) fun _ i hu => hu.slotRefresh core i

/-- R563. The state in which a core's fault shows. -/
def faultShown (s : State) (core : Nat) : State :=
  (s.set FT_CORE_FAULT (if bitOf (s.get FT_CORE_FAULT) core then s.get FT_CORE_FAULT else s.get FT_CORE_FAULT + 2 ^ core)).raise 0x700 1

/-- R563. The bit of the faulty core reads 1; a core number above 15 has none. -/
theorem faultShown_bit (s : State) (core : Nat) : bitOf ((faultShown s core).get FT_CORE_FAULT) core = decide (core < 16) := by
  unfold faultShown
  rw [State.raise_get, State.get_set_self, bitOf_eq_testBit, bitOf_eq_testBit, show FT_CORE_FAULT.width = 16 from rfl, Nat.testBit_mod_two_pow]
  have set : (if (s.get FT_CORE_FAULT).testBit core = true then s.get FT_CORE_FAULT else s.get FT_CORE_FAULT + 2 ^ core).testBit core = true := by
    split
    next bit => exact bit
    next clear => rw [Nat.add_comm, Nat.testBit_two_pow_add_eq, Bool.not_eq_true _ |>.mp clear]; rfl
  rw [set, Bool.and_true]

theorem faultShown_shows (s : State) (core : Nat) : (faultShown s core).shows 0 0x700 1 = true := State.raise_shows _ _ _

/-- R563. The state that a core-fatal fault leaves. -/
def fatalEnds (s : State) (core : Nat) : State :=
  ((List.range 4).foldl (fun t i => t.fatalSlot core i) ((faultShown s core).fault 6 .faulted (s.coreHolder core) core 0 0 0)).settleSlots core

theorem exec_coreFatalFault (awake : s.Awake (0x100 + 16 * core)) : exec (.coreFatalFault core) s = .next (fatalEnds s core) := by
  show execCoreFatalFault core s = _
  unfold execCoreFatalFault
  rw [event_awake awake]
  rfl

end

/-- Settles O10: each command's one step, and for the core-fatal fault `fatalSlots_end` over the slots of its core. -/
theorem sequencerCommands : Obligations.SequencerCommands := by
  unfold Obligations.SequencerCommands
  refine ⟨?preempts, ?preempted, ?aborts, ?aborted, ?enables, ?gets, ?resumes, ?discards, ?fatal⟩
  case preempts =>
    intro fn core mask s reach flows
    exact command_runs reach flows _ _
  case preempted =>
    intro core slot k r s run plain first well stays record
    rw [preemptSlot_eq run plain first well stays record]
    refine ⟨⟨preempted s core slot r k, ?_, rfl, rfl, rfl, fun e => withdrawn_stays⟩, ?_⟩
    · rw [slotRefresh_running, withdrawWait_running]
      exact State.running_setRunning_self s core slot (some _)
    · exact onlyParts_of_good (State_slotRefresh_good core slot (State_withdrawWait_good core slot (State_setRunning_good core slot _ (good_self s _) rfl) rfl) rfl)
  case aborts =>
    intro fn core mask s reach flows
    exact command_runs reach flows _ _
  case aborted =>
    intro core slot r s run empty
    exact abortSlot_empty run empty
  case enables =>
    intro fn core mask s reach
    show execSlotEnWrite fn core mask s = _
    unfold execSlotEnWrite
    exact mmio_reaches reach _
  case gets =>
    intro core slot s awake enabled idle gate free new resumes
    show execSlotGet core slot s = _
    unfold execSlotGet
    rw [event_awake (page := 0x107 + 16 * core) awake]
    exact if_pos (by simp [enabled, idle, free, new, resumes, show s.quiet (0x107 + 16 * core) = false from gate])
  case resumes =>
    intro fn core rk v s reach flows token
    show execSeqResGo fn core s = _
    unfold execSeqResGo
    rw [command_runs reach flows, token]
  case discards =>
    intro fn core rk v s reach flows token
    constructor
    · show execSeqResDiscard fn core s = _
      unfold execSeqResDiscard
      rw [command_runs reach flows, token]
    · rw [discardSave_saves]
      exact Map.find_erase_self _ _
  case fatal =>
    intro core s awake
    have runs := exec_coreFatalFault awake
    have logged : Steady FT_CORE_FAULT (faultShown s core) _ := (Steady.refl _ _).fault 6 .faulted (s.coreHolder core) core 0 0 0
    obtain ⟨ended, get, shown⟩ := fatalSlots_end core (List.range 4) ((faultShown s core).fault 6 .faulted (s.coreHolder core) core 0 0 0)
    have settled := settleSlots_steady ((List.range 4).foldl (fun t i => t.fatalSlot core i) ((faultShown s core).fault 6 .faulted (s.coreHolder core) core 0 0 0)) core
    refine .of_next runs ⟨fun i low => ?_, ?_, ?_, onlyParts_of_exec runs (by simp [mayChange])⟩
    · exact (settleSlots_running _ core core i).trans (ended i (.inl (List.mem_range.mpr low)))
    · exact settled.shown _ _ _ (shown _ _ _ (logged.shown _ _ _ (faultShown_shows s core)))
    · rw [show (fatalEnds s core).get FT_CORE_FAULT = _ from settled.get.trans (get.trans logged.get)]
      exact faultShown_bit s core

end Sys2Proof.Proofs

/-!
Chain operations that start (R174 to R182, R190, R191): a CH_CMD by what it finds of its chain, APPLY and ENABLE by their checks.
-/

namespace Sys2Proof.Proofs

open Sys2Proof.Machine Sys2Proof.Laws Sys2Proof.Claims

theorem regs_work_only (s : State) (r : Map Nat) (w : Work) : OnlyParts [.regs, .work] s { s with regs := r, work := w } := by
  intro p hp
  cases p <;> first | exact Eq.refl _ | exact ⟨rfl, rfl, rfl⟩ | exact absurd (by decide) hp

/-! ### A command of a chain (R179, R191, R192) -/

section

variable {fn c op m : Nat} {cmd : Instr} {s : State}

/-- R191, R192. A CH_CMD that no quiesce of its chain records is refused while an operation is in progress, else judged by its own checks. -/
theorem chainCmd_open (reach : s.Reaches fn (0x220 + chainPage c)) (flows : s.Flowing) (quiet : s.chainQuiet c = false) :
    chainCmd fn c op m cmd s = .next (if (s.chain c).busy.isSome then s.chainError c op .badParam
      else if s.chainOpStatus c op m = .ok then s.startChainOp c { op := op, mark := m } else s.chainError c op (s.chainOpStatus c op m)) := by
  unfold chainCmd
  rw [mmio_reaches reach, fabric_flowing flows, quiet]
  simp only [Bool.false_eq_true, if_false]
  split
  · rfl
  · generalize s.chainOpStatus c op m = st
    cases st <;> rfl

/-- R179. A CH_CMD that its checks let pass starts its operation. -/
theorem chainCmd_starts (reach : s.Reaches fn (0x220 + chainPage c)) (flows : s.Flowing) (quiet : s.chainQuiet c = false) (idle : (s.chain c).busy = none)
    (good : s.chainOpStatus c op m = .ok) : chainCmd fn c op m cmd s = .next (s.startChainOp c { op := op, mark := m }) := by
  rw [chainCmd_open reach flows quiet, idle, good]
  rfl

/-- R179, R191. One operation of a chain at a time. -/
theorem chainCmd_busy (reach : s.Reaches fn (0x220 + chainPage c)) (flows : s.Flowing) (quiet : s.chainQuiet c = false) (busy : (s.chain c).busy.isSome = true) :
    chainCmd fn c op m cmd s = .next (s.chainError c op .badParam) := by
  rw [chainCmd_open reach flows quiet, if_pos busy]

/-- R169, R174, R178. MARK and RELEASE need a mark below 8 and a descriptor. -/
theorem chainOpStatus_marked (apart : op ≠ 2) (low : m < 8) (desc : (s.chain c).desc.isSome = true) : s.chainOpStatus c op m = .ok := by
  have some_desc : (s.chain c).desc.isNone = false := by rw [← Option.not_isSome, desc]; rfl
  simp [State.chainOpStatus, apart, some_desc, Nat.not_le.mpr low]

/-- R176. REWIND needs an active mark besides. -/
theorem chainOpStatus_rewind (low : m < 8) (desc : (s.chain c).desc.isSome = true) (active : (Map.find (s.chain c).marks m).isSome = true) : s.chainOpStatus c 2 m = .ok := by
  have some_desc : (s.chain c).desc.isNone = false := by rw [← Option.not_isSome, desc]; rfl
  have some_mark : (Map.find (s.chain c).marks m).isNone = false := by rw [← Option.not_isSome, active]; rfl
  simp [State.chainOpStatus, some_desc, some_mark, Nat.not_le.mpr low]

/-- R182, R191. REPLAY_HELD, DISCARD_HELD and FLUSH name no mark. -/
theorem chainOpStatus_unmarked (high : 3 < op) : s.chainOpStatus c op m = .ok := by
  have three : ¬op ≤ 3 := by omega
  have two : op ≠ 2 := by omega
  simp [State.chainOpStatus, three, two]

/-- R179. An operation that has started stands in its chain, and CMD_BUSY shows it; nothing else changes. -/
theorem startChainOp_spec (s : State) (c : Nat) (o : ChainOp) : ((s.startChainOp c o).chain c).busy = some o ∧ (s.startChainOp c o).on (CH_CMD_BUSY c) = true ∧
    OnlyParts [.regs, .work] s (s.startChainOp c o) ∧ OnlyRegs [CH_CMD_BUSY c] s (s.startChainOp c o) := by
  refine ⟨congrArg Chain.busy (State.chain_setChain_self s c _), State.on_flag_self rfl _ _, regs_work_only s _ _, ?_⟩
  exact onlyRegs_flag (OnlyRegs.refl _ s) (List.mem_singleton_self _) true

end

/-! ### APPLY (R190) -/

/-- R190. The state of a chain that has taken a descriptor. -/
def chainApplied (s : State) (c : Nat) : State :=
  (((s.setChain c { s.chain c with desc := some (s.chainRegs c) }).flag (CH_APPLIED c) true).set (CH_ENQ_SEQ c) 0).set (CH_TAKE_SEQ c) 0

section

variable {fn c : Nat} {s : State}

/-- R190. The three registers of a chain that APPLY writes are apart. -/
theorem applied_apart (c : Nat) : (CH_APPLIED c).key ≠ (CH_ENQ_SEQ c).key ∧ (CH_APPLIED c).key ≠ (CH_TAKE_SEQ c).key ∧ (CH_ENQ_SEQ c).key ≠ (CH_TAKE_SEQ c).key := by
  simp only [Field.key, CH_APPLIED, CH_ENQ_SEQ, CH_TAKE_SEQ]
  omega

theorem chainApplied_spec (s : State) (c : Nat) : ((chainApplied s c).chain c).desc = some (s.chainRegs c) ∧ (chainApplied s c).on (CH_APPLIED c) = true ∧
    (chainApplied s c).get (CH_ENQ_SEQ c) = 0 ∧ (chainApplied s c).get (CH_TAKE_SEQ c) = 0 := by
  obtain ⟨enq, take, counts⟩ := applied_apart c
  refine ⟨congrArg Chain.desc (State.chain_setChain_self s c _), ?_, ?_, State.get_set_self _ _ _⟩
  · unfold chainApplied State.on
    rw [State.get_set_ne take, State.get_set_ne enq]
    exact State.on_flag_self rfl _ _
  · unfold chainApplied
    rw [State.get_set_ne counts]
    exact State.get_set_self _ _ _

theorem chainApplied_onlyRegs (s : State) (c : Nat) : OnlyRegs [CH_APPLIED c, CH_ENQ_SEQ c, CH_TAKE_SEQ c] s (chainApplied s c) :=
  (OnlyRegs.set (onlyRegs_flag (OnlyRegs.of_regs (OnlyRegs.refl _ s) rfl) (by simp) true) (by simp) 0).set (by simp) 0

/-- R190. APPLY by its check of the registers. -/
theorem exec_chApply (reach : s.Reaches fn (0x220 + chainPage c)) (flows : s.Flowing) :
    exec (.chApply fn c) s = .next (if s.applyStatus c = .ok then chainApplied s c else s.chainError c 15 (s.applyStatus c)) := by
  show execChApply fn c s = _
  unfold execChApply
  rw [command_runs reach flows]
  generalize s.applyStatus c = st
  cases st <;> rfl

/-- R183, R190. ENABLE takes its value, where nothing refuses a 1. -/
theorem exec_chEnable (reach : s.Reaches fn (0x220 + chainPage c)) {en : Bool} (good : en = true → s.enableStatus c = .ok) :
    exec (.chEnable fn c en) s = .next ((s.flag (CH_ENABLE c) en).poolWatch s) := by
  show execChEnable fn c en s = _
  unfold execChEnable
  rw [mmio_reaches reach]
  cases en with
  | false => rfl
  | true => rw [good rfl]; rfl

end

/-- Settles O15: each operation by `chainCmd_starts` and its own checks, APPLY and ENABLE by theirs. -/
theorem chainCommandsStart : Obligations.ChainCommandsStart := by
  unfold Obligations.ChainCommandsStart
  refine ⟨?mark, ?rewind, ?release, ?replay, ?discard, ?flush, ?busy, ?applies, ?applyRefused, ?disables, ?enables⟩
  case mark =>
    intro fn c m s reach flows quiet idle low desc
    exact .of_next (chainCmd_starts reach flows quiet idle (chainOpStatus_marked (by decide) low desc)) (startChainOp_spec s c _)
  case rewind =>
    intro fn c m s reach flows quiet idle low desc active
    exact .of_next (chainCmd_starts reach flows quiet idle (chainOpStatus_rewind low desc active)) (startChainOp_spec s c _)
  case release =>
    intro fn c m s reach flows quiet idle low desc
    exact .of_next (chainCmd_starts reach flows quiet idle (chainOpStatus_marked (by decide) low desc)) (startChainOp_spec s c _)
  case replay =>
    intro fn c s reach flows quiet idle
    exact .of_next (chainCmd_starts reach flows quiet idle (chainOpStatus_unmarked (by decide))) (startChainOp_spec s c _)
  case discard =>
    intro fn c s reach flows quiet idle
    exact .of_next (chainCmd_starts reach flows quiet idle (chainOpStatus_unmarked (by decide))) (startChainOp_spec s c _)
  case flush =>
    intro fn c s reach flows quiet idle
    exact .of_next (chainCmd_starts reach flows quiet idle (chainOpStatus_unmarked (by decide))) (startChainOp_spec s c _)
  case busy =>
    intro fn c m s reach flows quiet busy
    exact ⟨chainCmd_busy reach flows quiet busy, chainCmd_busy reach flows quiet busy⟩
  case applies =>
    intro fn c s reach flows good
    have run := exec_chApply reach flows
    rw [if_pos good] at run
    obtain ⟨desc, applied, enq, take⟩ := chainApplied_spec s c
    exact .of_next run ⟨desc, applied, enq, take, regs_work_only s _ _, chainApplied_onlyRegs s c⟩
  case applyRefused =>
    intro fn c s reach flows bad
    rw [exec_chApply reach flows, if_neg bad]
  case disables =>
    intro fn c s reach
    exact exec_chEnable reach (by simp)
  case enables =>
    intro fn c s reach good
    exact exec_chEnable reach fun _ => good

end Sys2Proof.Proofs

/-!
Two statements on Causeway flits that fail (R163, R512; R485, R522). Both speak of every state of the type `State`, which bounds neither the length of a cell's header nor the number that a
register field stands at: in the one, the cell of an arriving item has a header shorter than 64 bytes; in the other, RETRY_CNT stands at a number of more bits than it has.
-/

namespace Sys2Proof.Proofs

open Sys2Proof.Machine Sys2Proof.Claims

/-! ### An item with a short header commits (R163, R512) -/

/-- An item of member 1 without a payload, its cell taken. -/
def shortArrival : Arrival := { member := 1, src := 0, enq := 0, flow := 0, chain := 0, cell := some 0, header := [], len := 0 }

/-- The cell of that item: its header holds no byte, where R163 gives every header 64. -/
def shortCell : Cell := { chain := 0, buf := 0, state := .building, header := [] }

/-- That item is arriving at port 0. -/
def shortArriving : State :=
  { State.reset.setPort 0 { arrival := some shortArrival } with work := { State.reset.work with cells := [(0, shortCell)] } }

/-- R163. The header of a cell that commits is cut from the cell's own; from a header of no byte MEMBER lands 4 bytes low, and byte 12 holds the time. -/
theorem shortArriving_member : (Map.find (shortArriving.itemData 0 []).work.cells 0).map (fun y => hdr y.header 12 1) = some 0 := by
  decide +kernel

/-- Refutes O43: of an item that commits, byte 12 of the header is said to be the sender's member, with no condition on the length of the header that the cell holds. The cell of
`shortArriving` has a header of no byte, and byte 12 of the committed header is 0 where the sender is member 1. -/
theorem not_sequencedFlitsAreAppliedOnceInOrder : ¬ Obligations.SequencedFlitsAreAppliedOnceInOrder := by
  unfold Obligations.SequencedFlitsAreAppliedOnceInOrder
  rintro ⟨-, -, -, -, -, -, -, -, -, -, commits, -⟩
  obtain ⟨-, y, found, -, -, member, -⟩ :=
    commits 0 0 [] shortArrival shortCell shortArriving _ (by decide) rfl rfl rfl rfl rfl rfl rfl rfl (by decide) rfl
  have byte := shortArriving_member
  rw [found] at byte
  exact absurd (member.symm.trans (Option.some.inj byte)) (by decide)

/-! ### A counter past its width (R485, R522) -/

/-- Port 0 is in DATA, and RETRY_CNT stands at 2^32, one more than its 32 bits hold. -/
def wideRetryCnt : State :=
  { (State.reset.setDom 2 .on).set (PORT_STAT_STATE 0) 5 with
    regs := Map.insert ((State.reset.setDom 2 .on).set (PORT_STAT_STATE 0) 5).regs (RETRY_CNT 0).key (2 ^ 32) }

/-- R485, R522. An IDLE goes out and leaves RETRY_CNT as it stands. -/
theorem wideRetryCnt_idle : (match exec (.portTransmit 0 2) wideRetryCnt with | .next t => t.get (RETRY_CNT 0) | _ => 0) = 2 ^ 32 := by
  decide +kernel

/-- Refutes O44: after a flit outside the sequence RETRY_CNT is said to be its old value plus the RETRY sent, modulo 2^32. An IDLE does not write it, so that one that stands at 2^32, as
in `wideRetryCnt`, stays there where the statement gives 0. -/
theorem not_flitsOutsideTheSequenceAndSending : ¬ Obligations.FlitsOutsideTheSequenceAndSending := by
  unfold Obligations.FlitsOutsideTheSequenceAndSending
  rintro ⟨-, -, -, -, -, -, -, -, -, -, -, -, -, -, -, sends, -⟩
  obtain ⟨t, run, -, -, count, -⟩ := sends 0 2 wideRetryCnt (by decide) (by decide) (by decide) (by decide) (by decide)
  have stays := wideRetryCnt_idle
  rw [run] at stays
  exact absurd (stays.symm.trans count) (by decide)

end Sys2Proof.Proofs

/-!
Dispatch (R199, R208, R209, R211, R212): what the oldest get is given, and the start of a task in its slot.
-/

namespace Sys2Proof.Proofs

open Sys2Proof.Machine Sys2Proof.Laws Sys2Proof.Claims

section

variable {core slot : Nat} {s : State}

/-- R211, R212. The oldest get with an eligible group is served. -/
theorem exec_taskDispatch (awake : s.Awake 0x200) (quiet : s.quiet 0x200 = false)
    (oldest : s.work.gets.find? (fun g => bitOf (s.get FT_CORE_ADM) g.1 && s.eligible g.1 g.2) = some (core, slot)) :
    exec .taskDispatch s = .next (match s.select core slot selectFuel with
      | some (w, s1) => dispatched s s1 core slot w
      | none => s) := by
  show execTaskDispatch s = _
  unfold execTaskDispatch
  rw [event_awake awake]
  simp only [quiet, Bool.false_eq_true, if_false, oldest]
  generalize s.select core slot selectFuel = chosen
  cases chosen with
  | none => rfl
  | some p =>
    unfold dispatched
    dsimp only
    cases (p.2.flow p.1).queue <;> rfl

/-! ### The start of a task (R120, R121, R155) -/

/-- R334. The binding of an item changes expansions alone. -/
theorem bindItem_regs (s : State) (core : Nat) (x : Task) : (s.bindItem core x).regs = s.regs := by
  unfold State.bindItem
  split
  · rfl
  · split <;> rfl

theorem bindItem_images (s : State) (core : Nat) (x : Task) : (s.bindItem core x).work.images = s.work.images := by
  unfold State.bindItem
  split
  · rfl
  · split <;> rfl

/-- R158. The state in which a dispatched task's item is bound and the slot names its context and flow. -/
def slotNamed (s : State) (core slot : Nat) (x : Task) : State := ((s.bindItem core x).set (SLOT_STAT_CTX core slot) x.ctx).set (SLOT_STAT_FLOW core slot) x.flow

/-- The registers of a slot are apart from those of the contexts. -/
theorem slotNamed_get {x : Task} {f : Field} (low : f.lsb < 32) (apart : f.addr ≠ (SLOT_STAT_CTX core slot).addr) : (slotNamed s core slot x).get f = s.get f := by
  have ctx : f.key ≠ (SLOT_STAT_CTX core slot).key := key_ne_of_addr low (by simp [SLOT_STAT_CTX]) apart
  have flow : f.key ≠ (SLOT_STAT_FLOW core slot).key := key_ne_of_addr low (by simp [SLOT_STAT_FLOW]) apart
  unfold slotNamed
  rw [State.get_set_ne flow, State.get_set_ne ctx, State.get_of_regs (bindItem_regs s core x)]

/-- R119, R155. The first step of a task is the one found before the slot names it. -/
theorem slotNamed_entryStep {x : Task} (low : slot < 4) : (slotNamed s core slot x).entryStep core x = s.entryStep core x := by
  have enable : (slotNamed s core slot x).on (CTX_CTRL_ENABLE core x.ctx) = s.on (CTX_CTRL_ENABLE core x.ctx) :=
    congrArg (· != 0) (slotNamed_get (by simp [CTX_CTRL_ENABLE]) (by simp only [CTX_CTRL_ENABLE, SLOT_STAT_CTX]; omega))
  have loaded : (slotNamed s core slot x).on (CTX_STAT_LOADED core x.ctx) = s.on (CTX_STAT_LOADED core x.ctx) :=
    congrArg (· != 0) (slotNamed_get (by simp [CTX_STAT_LOADED]) (by simp only [CTX_STAT_LOADED, SLOT_STAT_CTX]; omega))
  have images : (slotNamed s core slot x).work.images = s.work.images := bindItem_images s core x
  unfold State.entryStep
  rw [enable, loaded, images]

/-- R121. A task at its first step: its arguments in the address registers, nothing fetched, nothing in flight. -/
def firstRun (s : State) (core : Nat) (x : Task) (pc : Nat) : Running :=
  { task := x, sel := s.ctxSet core x.ctx, pc := pc, aregs := 0 :: (x.args.map (fun a => a * 128 % 2 ^ 40) ++ List.replicate 11 0) }

/-- R120, R155. A task whose entry is found starts in its slot, which becomes BUSY. -/
theorem startTask_starts {x : Task} {pc : Nat} (low : slot < 4) (right : s.wrongSet core x = false) (entry : s.entryStep core x = some pc) : s.startTask core slot x =
    (((slotNamed s core slot x).setRunning core slot (some (firstRun (slotNamed s core slot x) core x pc))).set (SLOT_STAT_STATE core slot) 2).set (SLOT_STEP core slot) pc := by
  have found := (slotNamed_entryStep (s := s) (x := x) low).trans entry
  unfold State.startTask
  simp only [right, Bool.false_eq_true, if_false]
  rw [← slotNamed, found]
  rfl

/-- R144, R158. A task that has started runs in its slot, which shows BUSY and its flow. -/
theorem startTask_spec {x : Task} {pc : Nat} (low : slot < 4) (right : s.wrongSet core x = false) (entry : s.entryStep core x = some pc) :
    (s.startTask core slot x).running core slot = some (firstRun (slotNamed s core slot x) core x pc) ∧ (s.startTask core slot x).get (SLOT_STAT_STATE core slot) = 2 ∧
      (s.startTask core slot x).get (SLOT_STAT_FLOW core slot) = x.flow % 4096 := by
  have step {f : Field} (low : f.lsb < 32) (stat : f.addr = (SLOT_STAT_STATE core slot).addr) : f.key ≠ (SLOT_STEP core slot).key :=
    key_ne_of_addr low (by simp [SLOT_STEP]) (by rw [stat]; simp [SLOT_STAT_STATE, SLOT_STEP])
  have state : (SLOT_STAT_FLOW core slot).key ≠ (SLOT_STAT_STATE core slot).key := by simp [Field.key, SLOT_STAT_FLOW, SLOT_STAT_STATE]
  rw [startTask_starts low right entry]
  have runs := State.running_setRunning_self (slotNamed s core slot x) core slot (some (firstRun (slotNamed s core slot x) core x pc))
  refine ⟨runs, ?_, ?_⟩
  · rw [State.get_set_ne (step (by simp [SLOT_STAT_STATE]) rfl)]
    exact State.get_set_self _ _ _
  · rw [State.get_set_ne (step (f := SLOT_STAT_FLOW core slot) (by simp [SLOT_STAT_FLOW]) rfl), State.get_set_ne state, State.get_setRunning]
    exact State.get_set_self _ _ _

end

/-- Settles O14: `exec_taskDispatch` for the get that is served, `startTask_spec` for the slot that its task reaches. -/
theorem taskDispatchStartsATask : Obligations.TaskDispatchStartsATask := by
  unfold Obligations.TaskDispatchStartsATask
  refine ⟨?serves, ?starts⟩
  case serves =>
    intro core slot s awake quiet oldest
    exact exec_taskDispatch awake quiet oldest
  case starts =>
    intro core slot pc x s _ low _ right entry
    obtain ⟨runs, busy, flow⟩ := startTask_spec low right entry
    exact ⟨⟨_, runs, rfl, rfl, rfl, rfl, rfl⟩, busy, flow⟩

end Sys2Proof.Proofs

/-!
What enters the scheduler (R204, R205, R217, R228, R229): host posts, bindings, the expansion of a chain's items; and the attention entries that are read from it.
-/

namespace Sys2Proof.Proofs

open Sys2Proof.Machine Sys2Proof.Laws Sys2Proof.Claims

section

variable {fn j c k dl v : Nat} {s : State}

/-! ### Host posts (R214, R217, R228) -/

/-- R459. Who holds a page triple is read from the grants of TENANT page 0 alone. -/
theorem tripleHolder_set (s : State) (j dl : Nat) : (s.set (POST_CTRL_DLIST j) dl).tripleHolder j = s.tripleHolder j := by
  have grants (i : Nat) : (s.set (POST_CTRL_DLIST j) dl).get (TG_PAGES_QPAGES (i + 1)) = s.get (TG_PAGES_QPAGES (i + 1)) :=
    State.get_set_ne (key_ne_of_addr (by simp [TG_PAGES_QPAGES]) (by simp [POST_CTRL_DLIST]) (by simp only [TG_PAGES_QPAGES, POST_CTRL_DLIST]; omega)) s dl
  unfold State.tripleHolder
  simp only [grants]

/-- R228. A host post is handed to the scheduler and ends with its status. -/
theorem exec_hostPost (reach : s.Reaches fn (0x200 + j)) (flows : s.Flowing) (quiet : s.quiet 0x200 = false)
    (room : s.spillHeld (s.get (FN_SCHED_POST_CHAN (s.tripleHolder j))) 1 = false) :
    exec (.hostPost fn j dl) s = .next (match hostPosted s j dl with
      | some (t, st) => t.postEnds fn j dl st
      | none => (s.set (POST_CTRL_DLIST j) dl).postEnds fn j dl .noSpace) := by
  have idle : s.postBusy j = false := by simp [State.postBusy, flows.2]
  show execHostPost fn j dl s = _
  unfold execHostPost
  rw [mmio_reaches reach]
  simp only [idle, quiet, room, Bool.or_self, Bool.false_eq_true, if_false]
  rw [fabric_flowing (s := s.set (POST_CTRL_DLIST j) dl) flows, tripleHolder_set]
  unfold hostPosted
  generalize (State.set _ _ _).post _ _ _ _ _ = posted
  cases posted <;> rfl

/-- R228. A post's status stands in POST_CTRL, and POST_DONE shows. -/
theorem postEnds_spec (t : State) (fn j dl : Nat) (st : Status) : (t.postEnds fn j dl st).get (POST_CTRL_STATUS j) = st.code ∧ (t.postEnds fn j dl st).shows 0 (0x200 + j) 3 = true := by
  refine ⟨?_, State.raise_shows _ _ _⟩
  unfold State.postEnds
  rw [State.raise_get, State.get_set_self]
  exact code_byte st

/-! ### Attention entries (R229) -/

/-- R228, R229. The state in which the oldest attention entry of a flow page has been read. -/
def attentionRead (s : State) (j : Nat) (a : Attention) (q : List Attention) : State :=
  { s with work := { s.work with attention := Map.put [] s.work.attention j q }, readData := a.flow + 2 ^ 12 * a.core + 2 ^ 16 * a.status + 2 ^ 31 }.set (BQ_TAG j) a.tag

theorem exec_bqPop {a : Attention} {q : List Attention} (reach : s.Reaches fn (0x200 + j)) (oldest : Map.get s.work.attention [] j = a :: q) :
    exec (.bqPop fn j) s = .next (attentionRead s j a q) := by
  show execBqPop fn j s = _
  unfold execBqPop
  rw [mmioRead_reaches reach, oldest]
  rfl

/-! ### Bindings (R205) -/

/-- R205. A chain's binding is written: its takes go on. -/
def takesResume (s : State) (c : Nat) : State := s.setChain c { s.chain c with stopped := false }

theorem takesResume_stopped (s : State) (c : Nat) : ((takesResume s c).chain c).stopped = false := congrArg Chain.stopped (State.chain_setChain_self s c _)

/-- R204. BIND_CTL takes a value, field by field. -/
def bindCtl (s : State) (c v : Nat) : State :=
  (((s.set (BIND_CTL_EN c) v).set (BIND_CTL_CTX c) (v / 2 ^ 4)).set (BIND_CTL_CHAN c) (v / 2 ^ 8)).set (BIND_CTL_ENTRY c) (v / 2 ^ 16)

/-- R204. BIND_FLOW takes a value. -/
def bindFlow (s : State) (c v : Nat) : State := (s.set (BIND_FLOW_STRIDE c) v).set (BIND_FLOW_COST c) (v / 2 ^ 16)

theorem bindCtl_spec (s : State) (c v : Nat) : (bindCtl s c v).on (BIND_CTL_EN c) = bitOf v 0 ∧ (bindCtl s c v).get (BIND_CTL_CTX c) = bitsOf v 4 4 ∧
    (bindCtl s c v).get (BIND_CTL_CHAN c) = bitsOf v 8 5 ∧ (bindCtl s c v).get (BIND_CTL_ENTRY c) = bitsOf v 16 16 := by
  have en : (BIND_CTL_EN c).key ≠ (BIND_CTL_CTX c).key ∧ (BIND_CTL_EN c).key ≠ (BIND_CTL_CHAN c).key ∧ (BIND_CTL_EN c).key ≠ (BIND_CTL_ENTRY c).key := by
    simp [Field.key, BIND_CTL_EN, BIND_CTL_CTX, BIND_CTL_CHAN, BIND_CTL_ENTRY]
  have ctx : (BIND_CTL_CTX c).key ≠ (BIND_CTL_CHAN c).key ∧ (BIND_CTL_CTX c).key ≠ (BIND_CTL_ENTRY c).key := by
    simp [Field.key, BIND_CTL_CTX, BIND_CTL_CHAN, BIND_CTL_ENTRY]
  have chan : (BIND_CTL_CHAN c).key ≠ (BIND_CTL_ENTRY c).key := by simp [Field.key, BIND_CTL_CHAN, BIND_CTL_ENTRY]
  refine ⟨?_, ?_, ?_, State.get_set_self _ _ _⟩
  · unfold State.on bindCtl
    rw [State.get_set_ne en.2.2, State.get_set_ne en.2.1, State.get_set_ne en.1, State.get_set_self]
    show (v % 2 ^ 1 != 0) = (v / 2 ^ 0 % 2 == 1)
    rw [Nat.pow_zero, Nat.div_one, Nat.pow_one]
    rcases Nat.mod_two_eq_zero_or_one v with h | h <;> rw [h] <;> rfl
  · unfold bindCtl
    rw [State.get_set_ne ctx.2, State.get_set_ne ctx.1]
    exact State.get_set_self _ _ _
  · unfold bindCtl
    rw [State.get_set_ne chan]
    exact State.get_set_self _ _ _

theorem bindCtl_onlyRegs (s : State) (c v : Nat) : OnlyRegs [BIND_CTL_EN c, BIND_CTL_CTX c, BIND_CTL_CHAN c, BIND_CTL_ENTRY c] s (bindCtl s c v) :=
  ((((OnlyRegs.refl _ s).set (by simp) _).set (by simp) _).set (by simp) _).set (by simp) _

theorem bindFlow_spec (s : State) (c v : Nat) : (bindFlow s c v).get (BIND_FLOW_STRIDE c) = bitsOf v 0 12 ∧ (bindFlow s c v).get (BIND_FLOW_COST c) = bitsOf v 16 12 := by
  refine ⟨?_, State.get_set_self _ _ _⟩
  have apart : (BIND_FLOW_STRIDE c).key ≠ (BIND_FLOW_COST c).key := by simp [Field.key, BIND_FLOW_STRIDE, BIND_FLOW_COST]
  unfold bindFlow bitsOf
  rw [State.get_set_ne apart, State.get_set_self, Nat.pow_zero, Nat.div_one]
  rfl

/-- R205, R217. BIND_CTL names a channel that its chain's holder may use. -/
theorem exec_bindCtl (reach : s.Reaches fn (0x200 + chainPage c)) (mask : bitOf (s.get (FN_CHAN_MASK (s.chainHolder c))) (bitsOf v 8 5) = true) :
    exec (.bindingWrite fn c 0 v) s = .next (takesResume (bindCtl s c v) c) := by
  show execBindingWrite fn c 0 v s = _
  unfold execBindingWrite
  rw [mmio_reaches reach]
  simp only [mask]
  rfl

theorem exec_bindFlow (reach : s.Reaches fn (0x200 + chainPage c)) : exec (.bindingWrite fn c 1 v) s = .next (takesResume (bindFlow s c v) c) := by
  show execBindingWrite fn c 1 v s = _
  unfold execBindingWrite
  rw [mmio_reaches reach]
  rfl

theorem exec_bindArg (reach : s.Reaches fn (0x200 + chainPage c)) : exec (.bindingWrite fn c 2 v) s = .next (takesResume (s.set (BIND_ARG_STRIDE c) v) c) := by
  show execBindingWrite fn c 2 v s = _
  unfold execBindingWrite
  rw [mmio_reaches reach]
  rfl

/-! ### The expansion of an item (R204, R205) -/

/-- R204, R205. The head item of a chain by its FANOUT, the holders of its tasks' flows, and what the chain's channel answers. -/
theorem exec_itemExpand {x : Cell} (turn : ItemTurn s c k x) : exec (.itemExpand c) s = .next (
    if 64 < hdr x.header 5 1 % 128 then s.expandStops c .badDesc
    else if (itemTasks s c k x).any (fun t => s.flowHolder t.flow != s.chainHolder c) then s.expandStops c .badAddr
    else if hdr x.header 5 1 % 128 = 0 then (s.takeCell k x).finishCell k
    else if (itemAccepted s c k x).2 = true then (itemAccepted s c k x).1 else s) := by
  obtain ⟨awake, takes, bound, goes, quiet, pageQuiet, head⟩ := turn
  show execItemExpand c s = _
  unfold execItemExpand
  rw [event_awake awake]
  simp only [takes, bound, goes, quiet, pageQuiet, head, Bool.not_true, Bool.or_self, Bool.false_eq_true, if_false]
  split
  · rfl
  split
  · rfl
  split
  · rfl
  · unfold itemAccepted
    generalize State.accept _ _ _ _ = accepted
    obtain ⟨t, taken⟩ := accepted
    cases taken <;> rfl

/-- R203, R204. Every task of an item goes to a flow of the chain's holder, or one does not. -/
theorem anyForeign_eq_false {l : List Task} (own : ∀ t ∈ l, s.flowHolder t.flow = s.chainHolder c) : l.any (fun t => s.flowHolder t.flow != s.chainHolder c) = false := by
  rw [List.any_eq_false]
  intro t mem
  simp [own t mem]

theorem anyForeign_eq_true {l : List Task} (foreign : ∃ t ∈ l, s.flowHolder t.flow ≠ s.chainHolder c) : l.any (fun t => s.flowHolder t.flow != s.chainHolder c) = true := by
  obtain ⟨t, mem, other⟩ := foreign
  exact List.any_eq_true.mpr ⟨t, mem, by simpa using other⟩

end

/-- Settles O20: `exec_hostPost`, `exec_bqPop`, a lemma for each register of a binding, and `exec_itemExpand` by the item's FANOUT and flows. -/
theorem schedulerPostsItemsAndBindings : Obligations.SchedulerPostsItemsAndBindings := by
  unfold Obligations.SchedulerPostsItemsAndBindings
  refine ⟨?posts, ?postEnd, ?pops, ?ctl, ?flow, ?arg, ?accepted, ?empty, ?foreign, ?long⟩
  case posts =>
    intro fn j dl s reach flows quiet room
    exact exec_hostPost reach flows quiet room
  case postEnd =>
    intro fn j dl st t
    exact postEnds_spec t fn j dl st
  case pops =>
    intro fn j a q s reach oldest
    exact .of_next (exec_bqPop reach oldest) ⟨rfl, State.get_set_self _ _ _, Map.get_put_self _ _ _ _, ((OnlyRegs.refl _ s).of_regs rfl).set (by simp) _⟩
  case ctl =>
    intro fn c v s reach _ mask
    obtain ⟨en, ctx, chan, entry⟩ := bindCtl_spec s c v
    exact .of_next (exec_bindCtl reach mask) ⟨en, ctx, chan, entry, takesResume_stopped _ c, (bindCtl_onlyRegs s c v).of_regs rfl⟩
  case flow =>
    intro fn c v s reach _
    obtain ⟨stride, cost⟩ := bindFlow_spec s c v
    exact .of_next (exec_bindFlow reach) ⟨stride, cost, takesResume_stopped _ c⟩
  case arg =>
    intro fn c v s reach _
    exact .of_next (exec_bindArg reach) ⟨State.get_set_self _ _ _, takesResume_stopped _ c⟩
  case accepted =>
    intro c k x s turn some_task short own
    rw [exec_itemExpand turn, if_neg (by omega), if_neg (by simp [anyForeign_eq_false own]), if_neg (by omega)]
  case empty =>
    intro c k x s turn none
    have tasks : itemTasks s c k x = [] := by simp [none]
    rw [exec_itemExpand turn, if_neg (by omega), tasks, if_neg (by simp), if_pos none]
  case foreign =>
    intro c k x s turn short other
    rw [exec_itemExpand turn, if_neg (by omega), if_pos (anyForeign_eq_true other)]
  case long =>
    intro c k x s turn long
    rw [exec_itemExpand turn, if_pos long]

end Sys2Proof.Proofs

/-!
The done of a task (R167, R173, R207): what it changes are items, chains, expansions and children, and of the registers the two words of a chain that mark and count what happens to its items.
-/

namespace Sys2Proof.Proofs

open Sys2Proof.Machine Sys2Proof.Laws Sys2Proof.Claims

/-! ### Registers by the word that they stand in -/

/-- Of the registers, only fields of words at addresses of a kind differ. -/
def RegsAt (A : Nat → Prop) (s t : State) : Prop := ∀ f : Field, f.lsb < 32 → ¬A f.addr → t.get f = s.get f

section

variable {A : Nat → Prop} {s t u : State}

theorem RegsAt.refl (A : Nat → Prop) (s : State) : RegsAt A s s := fun _ _ _ => rfl

theorem RegsAt.trans (h : RegsAt A s t) (h' : RegsAt A t u) : RegsAt A s u := fun f low off => (h' f low off).trans (h f low off)

theorem RegsAt.of_regs (h : RegsAt A s t) (e : u.regs = t.regs) : RegsAt A s u := fun f low off => (State.get_of_regs e f).trans (h f low off)

theorem RegsAt.set (h : RegsAt A s t) {g : Field} (place : g.lsb < 32 ∧ A g.addr) (v : Nat) : RegsAt A s (t.set g v) :=
  fun f low off => (State.get_set_ne (key_ne_of_addr low place.1 fun e => off (e ▸ place.2)) t v).trans (h f low off)

theorem RegsAt.raise (h : RegsAt A s t) (page bit : Nat) : RegsAt A s (t.raise page bit) := h.of_regs (State.raise_regs t page bit)

end

/-! ### Items (R165 to R167, R173, R186) -/

/-- R186. CH_WM_STAT and CH_DROP_CNT of a chain. -/
def itemWord (a : Nat) : Prop := ∃ c, a = (CH_WM_STAT c).addr ∨ a = (CH_DROP_CNT c).addr

/-- The words of the chains are on the QUEUE pages. -/
theorem itemWord_queue {a : Nat} (h : itemWord a) : 0x221000 ≤ a := by
  obtain ⟨c, h | h⟩ := h
  · rw [h]
    simp only [CH_WM_STAT]
    omega
  · rw [h]
    simp only [CH_DROP_CNT]
    omega

theorem itemWord_wmStat (c : Nat) : (CH_WM_STAT c).lsb < 32 ∧ itemWord (CH_WM_STAT c).addr := ⟨by simp [CH_WM_STAT], c, .inl rfl⟩

theorem itemWord_dropCnt (c : Nat) : (CH_DROP_CNT c).lsb < 32 ∧ itemWord (CH_DROP_CNT c).addr := ⟨by simp [CH_DROP_CNT], c, .inr rfl⟩

/-- The work apart from cells, chains, expansions and children. -/
def besideItems (w : Work) : Work := { w with cells := [], chains := [], exps := [], children := [] }

/-- Of registers and work, only items and what the chains show of them differ. -/
def ItemsOnly (s t : State) : Prop := RegsAt itemWord s t ∧ besideItems t.work = besideItems s.work

section

variable {s t u : State}

theorem ItemsOnly.refl (s : State) : ItemsOnly s s := ⟨.refl _ s, rfl⟩

/-- A part of the work beside the items stays. -/
theorem ItemsOnly.part (h : ItemsOnly s t) {β : Type} (p : Work → β) (beside : ∀ w, p (besideItems w) = p w) : p t.work = p s.work := by
  rw [← beside t.work, h.2, beside]

theorem ItemsOnly.flows (h : ItemsOnly s t) : t.work.flows = s.work.flows := h.part _ fun _ => rfl

theorem ItemsOnly.delayed (h : ItemsOnly s t) : t.work.delayed = s.work.delayed := h.part _ fun _ => rfl

theorem ItemsOnly.channels (h : ItemsOnly s t) : t.work.channels = s.work.channels := h.part _ fun _ => rfl

/-- A register on a page before the QUEUE pages keeps its value. -/
theorem ItemsOnly.get (h : ItemsOnly s t) {f : Field} (low : f.lsb < 32) (before : f.addr < 0x221000) : t.get f = s.get f :=
  h.1 f low fun at_ => by
    have := itemWord_queue at_
    omega

/-- An update of items. -/
theorem ItemsOnly.upd (h : ItemsOnly s t) (regs : u.regs = t.regs) (work : besideItems u.work = besideItems t.work) : ItemsOnly s u := ⟨h.1.of_regs regs, work.trans h.2⟩

theorem ItemsOnly.set (h : ItemsOnly s t) {g : Field} (place : g.lsb < 32 ∧ itemWord g.addr) (v : Nat) : ItemsOnly s (t.set g v) := ⟨h.1.set place v, h.2⟩

theorem ItemsOnly.raise (h : ItemsOnly s t) (page bit : Nat) : ItemsOnly s (t.raise page bit) :=
  h.upd (State.raise_regs t page bit) (congrArg besideItems (State.raise_work t page bit))

theorem ItemsOnly.ite {c : Prop} [Decidable c] (h : ItemsOnly s t) (h' : ItemsOnly s u) : ItemsOnly s (if c then t else u) := by
  split
  · exact h
  · exact h'

theorem ItemsOnly.foldl {γ : Type} {g : State → γ → State} {l : List γ} (h : ItemsOnly s t) (each : ∀ u x, ItemsOnly s u → ItemsOnly s (g u x)) : ItemsOnly s (l.foldl g t) := by
  induction l generalizing t with
  | nil => exact h
  | cons x l ih => exact ih (each t x h)

theorem ItemsOnly.setCells (h : ItemsOnly s t) (m : Map Cell) : ItemsOnly s (t.setCells m) := h.upd rfl rfl

theorem ItemsOnly.setCell (h : ItemsOnly s t) (k : Nat) (x : Cell) : ItemsOnly s (t.setCell k x) := h.setCells _

theorem ItemsOnly.freeCell (h : ItemsOnly s t) (k : Nat) : ItemsOnly s (t.freeCell k) := h.setCells _

theorem ItemsOnly.setChild (h : ItemsOnly s t) (x : Child) : ItemsOnly s (t.setChild x) := h.upd rfl rfl

theorem ItemsOnly.setExp (h : ItemsOnly s t) (x : Expansion) : ItemsOnly s (t.setExp x) := h.upd rfl rfl

theorem ItemsOnly.wmEdges (h : ItemsOnly s t) (c e : Nat) : ItemsOnly s (t.wmEdges c e) := by
  unfold State.wmEdges
  exact .ite h (.ite ((h.set (itemWord_wmStat c) _).raise _ _) (h.set (itemWord_wmStat c) _))

theorem ItemsOnly.dropped (h : ItemsOnly s t) (c n : Nat) : ItemsOnly s (t.dropped c n) := by
  unfold State.dropped
  exact .ite h ((h.set (itemWord_dropCnt c) _).wmEdges c 8)

/-- R186. The edges that an operation on a chain gives are all that is added to it. -/
theorem ItemsOnly.watched (c : Nat) {op : State → State} (h : ItemsOnly s (op t)) : ItemsOnly s (t.watched c op) := by
  unfold State.watched State.poolWatch State.raiseEdge
  exact .ite ((h.wmEdges c _).raise _ _) (h.wmEdges c _)

theorem ItemsOnly.finishItem (h : ItemsOnly s t) (k : Nat) (x : Cell) : ItemsOnly s (t.finishItem k x) := by
  unfold State.finishItem
  refine .ite h (.watched x.chain ?_)
  split
  · exact (h.freeCell k).dropped _ _
  · exact h.setCell _ _
  · exact .ite (h.setCell _ _) (h.freeCell _)

theorem ItemsOnly.finishHeld (h : ItemsOnly s t) (k : Nat) (x : Cell) : ItemsOnly s (t.finishHeld k x) := by
  unfold State.finishHeld
  exact .ite ((h.setCell _ _).finishItem _ _) (h.finishItem k x)

theorem ItemsOnly.finishCell (h : ItemsOnly s t) (k : Nat) : ItemsOnly s (t.finishCell k) := by
  unfold State.finishCell State.finishOf
  split
  · exact .ite (h.upd rfl rfl) (h.finishHeld _ _)
  · exact h

theorem ItemsOnly.voidChildren (h : ItemsOnly s t) (e : Nat) : ItemsOnly s (t.voidChildren e) := by
  unfold State.voidChildren
  refine h.foldl fun u x hu => ?_
  split
  · exact .ite (((ItemsOnly.watched x.chain (hu.freeCell _)).setChild _).wmEdges _ _) hu
  · exact hu

theorem ItemsOnly.childrenEnded (h : ItemsOnly s t) (e : Nat) : ItemsOnly s (t.childrenEnded e) := by
  unfold State.childrenEnded
  exact (h.voidChildren e).foldl fun u x hu => .ite ((hu.set (itemWord_dropCnt x.chain) _).setChild _) hu

/-! ### Tasks of an expansion (R167, R207, R335) -/

theorem ItemsOnly.taskEnded (h : ItemsOnly s t) (e tidx : Nat) : ItemsOnly s (t.taskEnded e tidx) := by
  unfold State.taskEnded
  split
  · exact h
  · exact .ite h (.ite ((h.setExp _).childrenEnded _) (h.setExp _))

theorem ItemsOnly.expFinished (h : ItemsOnly s t) (e : Expansion) : ItemsOnly s (t.expFinished e) := by
  have gone : ItemsOnly s
      { t with work := { t.work with exps := t.work.exps.filter (fun x => x.id != e.id), children := t.work.children.filter (fun x => x.exp != e.id) } } := h.upd rfl rfl
  unfold State.expFinished
  dsimp only
  split
  · exact gone.finishCell _
  · exact gone

theorem ItemsOnly.taskDone (h : ItemsOnly s t) (e tidx : Nat) : ItemsOnly s (t.taskDone e tidx) := by
  have ended := h.taskEnded e tidx
  unfold State.taskDone
  dsimp only
  split
  · exact ended
  · exact .ite ended (.ite ((ended.setExp _).expFinished _) (ended.setExp _))

theorem ItemsOnly.unended (h : ItemsOnly s t) (x : Task) : ItemsOnly s (t.unended x) := by
  unfold State.unended
  split
  · exact h.setExp _
  · exact h

end

end Sys2Proof.Proofs

/-!
Flow commands and delay lists (R196 to R200, R214 to R216, R228, R630): a flow between tasks, tasks that join it, and the commands that release, retry and discard tasks.
-/

namespace Sys2Proof.Proofs

open Sys2Proof.Machine Sys2Proof.Laws Sys2Proof.Claims

section

variable {fn w d op : Nat} {s t : State} {x : Task}

/-! ### A flow between tasks (R196, R198) -/

theorem flow_of_flows (h : t.work.flows = s.work.flows) (w : Nat) : t.flow w = s.flow w := by
  unfold State.flow
  rw [h]

theorem delayList_of_delayed (h : t.work.delayed = s.work.delayed) (d : Nat) : t.delayList d = s.delayList d := by
  unfold State.delayList
  rw [h]

/-- R198. The state in which a flow between tasks shows READY or IDLE, as its queue holds tasks or not. -/
def flowShown (s : State) (w : Nat) : State := if s.get (FLOW_STATE w) ≤ 1 then s.set (FLOW_STATE w) (b2n !(s.flow w).queue.isEmpty) else s

theorem flowShown_work (s : State) (w : Nat) : (flowShown s w).work = s.work := by
  unfold flowShown
  split <;> rfl

theorem unlist_ready (s : State) (w : Nat) : ∃ r, s.unlist w = { s with work := { s.work with ready := r } } := by
  unfold State.unlist
  split
  · exact ⟨_, rfl⟩
  · exact ⟨_, rfl⟩

/-- R196, R198, R209. A refresh shows the flow's state and changes the ready lists. -/
theorem refresh_ready (s : State) (w : Nat) : ∃ r, s.refresh w = { flowShown s w with work := { (flowShown s w).work with ready := r } } := by
  have placed (u : State) : ∃ r, (if !u.flowReady w then u.unlist w else if u.listed w then u else
      let g := u.get (FLOW_GROUP w)
      u.setReadyList g (u.readyList g ++ [⟨w, u.on (FLOW_ANY w), u.get (FLOW_CORE w)⟩])) = { u with work := { u.work with ready := r } } := by
    split
    · exact unlist_ready u w
    · split <;> exact ⟨_, rfl⟩
  exact placed (flowShown s w)

/-- R198. A flow with a queued task and none in service is READY. -/
theorem refresh_ready_state (between : s.get (FLOW_STATE w) ≤ 1) (queued : (s.flow w).queue ≠ []) : (s.refresh w).get (FLOW_STATE w) = 1 := by
  obtain ⟨r, eq⟩ := refresh_ready s w
  have some_task : (!(s.flow w).queue.isEmpty) = true := by simpa using queued
  rw [eq]
  show (flowShown s w).get (FLOW_STATE w) = 1
  unfold flowShown
  rw [if_pos between, some_task]
  exact State.get_set_self _ _ _

theorem refresh_flows (s : State) (w : Nat) : (s.refresh w).work.flows = s.work.flows := by
  obtain ⟨r, eq⟩ := refresh_ready s w
  rw [eq, ← flowShown_work s w]

theorem refresh_delayed (s : State) (w : Nat) : (s.refresh w).work.delayed = s.work.delayed := by
  obtain ⟨r, eq⟩ := refresh_ready s w
  rw [eq, ← flowShown_work s w]

/-! ### FLOW_ATTN (R228, R229) -/

theorem attnRefresh_work (s : State) (w : Nat) : (s.attnRefresh w).work = s.work := (State_attnRefresh_good w (good_self s (· == .work)) rfl rfl rfl).same .work rfl

/-- R229. Of the registers, the flow's FLOW_ATTN word follows. -/
theorem attnRefresh_get {f : Field} (low : f.lsb < 32) (apart : f.addr ≠ (FLOW_ATTN (1 + w / 512) (w % 512 / 32)).addr) : (s.attnRefresh w).get f = s.get f := by
  unfold State.attnRefresh
  dsimp only
  rw [raiseEdge_get, State.get_set_ne (key_ne_of_addr low (by simp [FLOW_ATTN]) apart)]

/-! ### Flow commands (R200, R228) -/

/-- R228. A flow command's status stands in FLOW_CMD_STAT. -/
def flowAnswered (t : State) (w : Nat) (st : Status) : State := t.set (FLOW_CMD_STAT_RESULT (1 + w / 512)) st.code

theorem flowCmd_runs (reach : s.Reaches fn (flowPage w)) (flows : s.Flowing) (c : Instr) (body : State → State × Status) :
    flowCmd fn w op c s body = .next (flowAnswered (body s).1 w (body s).2) := by
  have idle : s.flowBusy (1 + w / 512) = false := by simp [State.flowBusy, flows.2]
  unfold flowCmd
  rw [mmio_reaches reach, idle, fabric_flowing flows]
  rfl

theorem flowAnswered_result (t : State) (w : Nat) (st : Status) : (flowAnswered t w st).get (FLOW_CMD_STAT_RESULT (1 + w / 512)) = st.code :=
  (State.get_set_self _ _ _).trans (code_byte st)

/-- The registers of a flow are apart from the command's and from FLOW_ATTN. -/
theorem flowAnswered_attn_get {f : Field} (low : f.lsb < 32) (place : f.addr = (FLOW_STATE w).addr) (st : Status) : (flowAnswered (t.attnRefresh w) w st).get f = t.get f := by
  have result : f.key ≠ (FLOW_CMD_STAT_RESULT (1 + w / 512)).key :=
    key_ne_of_addr low (by simp [FLOW_CMD_STAT_RESULT]) (by rw [place]; simp only [FLOW_STATE, FLOW_CMD_STAT_RESULT]; omega)
  unfold flowAnswered
  rw [State.get_set_ne result, attnRefresh_get low (by rw [place]; simp only [FLOW_STATE, FLOW_ATTN]; omega)]

theorem flowAnswered_attn_flow (t : State) (w : Nat) (st : Status) : (flowAnswered (t.attnRefresh w) w st).flow w = t.flow w :=
  flow_of_flows (congrArg Work.flows (attnRefresh_work t w)) w

/-- R200. A BLOCKED flow has left its failed task as done. -/
def taskSkipped (s : State) (w : Nat) (x : Task) : State :=
  ((((s.setFlow w { s.flow w with service := none }).set (FLOW_STATE w) 0).taskDone x.exp x.tidx).refresh w).attnRefresh w

theorem exec_releaseSkip (reach : s.Reaches fn (flowPage w)) (flows : s.Flowing) (service : (s.flow w).service = some x) (blocked : s.get (FLOW_STATE w) = 4) :
    exec (.releaseSkip fn w) s = .next (flowAnswered (taskSkipped s w x) w (s.releaseStatus w)) := by
  show execReleaseSkip fn w s = _
  unfold execReleaseSkip
  rw [flowCmd_runs reach flows, service]
  simp only [blocked, ne_eq, not_true_eq_false, if_false]
  rfl

/-- R200. A BLOCKED flow has its failed task at the head of its queue again, and none in service. -/
def taskRequeued (s : State) (w : Nat) (x : Task) : State :=
  ((s.setFlow w { s.flow w with queue := x :: (s.flow w).queue, service := none }).set (FLOW_STATE w) 0).unended x

theorem exec_releaseRetry (reach : s.Reaches fn (flowPage w)) (flows : s.Flowing) (service : (s.flow w).service = some x) (blocked : s.get (FLOW_STATE w) = 4) :
    exec (.releaseRetry fn w) s = .next (flowAnswered (((taskRequeued s w x).refresh w).attnRefresh w) w (s.releaseStatus w)) := by
  show execReleaseRetry fn w s = _
  unfold execReleaseRetry
  rw [flowCmd_runs reach flows, service]
  simp only [blocked, ne_eq, not_true_eq_false, if_false]
  rfl

theorem taskRequeued_flow (s : State) (w : Nat) (x : Task) : (taskRequeued s w x).flow w = { s.flow w with queue := x :: (s.flow w).queue, service := none } :=
  (flow_of_flows (ItemsOnly.unended (.refl _) x).flows w).trans (State.flow_setFlow_self s w _)

theorem taskRequeued_state (low : w < 4096) : (taskRequeued s w x).get (FLOW_STATE w) = 0 :=
  ((ItemsOnly.unended (.refl _) x).get (by simp [FLOW_STATE]) (by simp only [FLOW_STATE]; omega)).trans (State.get_set_self _ _ _)

theorem exec_clearStale (reach : s.Reaches fn (flowPage w)) (flows : s.Flowing) :
    exec (.clearStale fn w) s = .next (flowAnswered (((s.flag (FLOW_STALE w) false).refresh w).attnRefresh w) w .ok) := by
  show execClearStale fn w s = _
  unfold execClearStale
  rw [flowCmd_runs reach flows]

/-- R200. A flow without its queue. -/
def queueTaken (s : State) (w : Nat) : State := (s.setFlow w { s.flow w with queue := [] }).refresh w

theorem queueTaken_flow (s : State) (w : Nat) : (queueTaken s w).flow w = { s.flow w with queue := [] } :=
  (flow_of_flows (refresh_flows _ w) w).trans (State.flow_setFlow_self s w _)

theorem exec_purge (reach : s.Reaches fn (flowPage w)) (flows : s.Flowing) :
    exec (.purge fn w) s = .next (flowAnswered ((s.flow w).queue.foldl (fun t x => t.taskDone x.exp x.tidx) (queueTaken s w)) w .ok) := by
  show execPurge fn w s = _
  unfold execPurge
  rw [flowCmd_runs reach flows]
  rfl

/-! ### Tasks that join their flows (R197, R214, R215) -/

theorem joinFlow_queue (s : State) (x : Task) (w : Nat) : ((s.joinFlow x).flow w).queue = (s.flow w).queue ++ if x.flow = w then [x] else [] := by
  unfold State.joinFlow
  rw [flow_of_flows (refresh_flows _ _) w]
  split
  next same =>
    subst same
    rw [State.flow_setFlow_self]
  next other => rw [State.flow_setFlow_ne (Ne.symm other), List.append_nil]

theorem joinFlow_delayed (s : State) (x : Task) : (s.joinFlow x).work.delayed = s.work.delayed := by
  unfold State.joinFlow
  rw [refresh_delayed]
  rfl

/-- R197, R215. Tasks that join their flows in order stand behind those queued there. -/
theorem joinFlows_queue (l : List (Nat × Task)) (s : State) (w : Nat) :
    ((l.foldl (fun t e => t.joinFlow e.2) s).flow w).queue = (s.flow w).queue ++ (l.filter (fun e => e.2.flow == w)).map (·.2) := by
  induction l generalizing s with
  | nil => simp
  | cons e l ih =>
    rw [List.foldl_cons, ih, joinFlow_queue, List.filter_cons, List.append_assoc]
    by_cases same : e.2.flow = w <;> simp [same]

theorem joinFlows_delayed (l : List (Nat × Task)) (s : State) : (l.foldl (fun t e => t.joinFlow e.2) s).work.delayed = s.work.delayed := by
  induction l generalizing s with
  | nil => rfl
  | cons e l ih => exact (ih _).trans (joinFlow_delayed s e.2)

/-! ### Commands of the delay lists (R216) -/

theorem exec_dlReleaseAll (reach : s.Reaches fn 0x200) (flows : s.Flowing) (quiet : s.quiet 0x200 = false) :
    exec (.dlReleaseAll fn d) s = .next ((s.delayList d).foldl (fun t e => t.joinFlow e.2) (s.setDelayList d [])) := by
  have idle : s.delayBusy d = false := by simp [State.delayBusy, flows.2]
  show execDlReleaseAll fn d s = _
  unfold execDlReleaseAll
  rw [mmio_reaches reach, idle, quiet, fabric_flowing flows]
  rfl

theorem exec_dlPurge (reach : s.Reaches fn 0x200) (flows : s.Flowing) :
    exec (.dlPurge fn d) s = .next ((s.delayList d).foldl (fun t e => t.taskDone e.2.exp e.2.tidx) (s.setDelayList d [])) := by
  have idle : s.delayBusy d = false := by simp [State.delayBusy, flows.2]
  show execDlPurge fn d s = _
  unfold execDlPurge
  rw [mmio_reaches reach, idle, fabric_flowing flows]
  rfl

/-- What leaves the delay lists as they are after list `d` was emptied. -/
theorem delayLists_emptied (kept : t.work.delayed = (s.setDelayList d []).work.delayed) : t.delayList d = [] ∧ ∀ e, e ≠ d → t.delayList e = s.delayList e :=
  ⟨(delayList_of_delayed kept d).trans (State.delayList_setDelayList_self s d []), fun e other => (delayList_of_delayed kept e).trans (State.delayList_setDelayList_ne other s [])⟩

end

/-- Settles O17: each command by `flowCmd_runs`, and what the refreshes of the flow and the done of its tasks leave of it. -/
theorem flowCommands : Obligations.FlowCommands := by
  unfold Obligations.FlowCommands
  refine ⟨?skip, ?retry, ?stale, ?purge⟩
  case skip =>
    intro fn w x s reach flows _ service blocked
    exact exec_releaseSkip reach flows service blocked
  case retry =>
    intro fn w x s reach flows low service blocked
    have flow : (flowAnswered (((taskRequeued s w x).refresh w).attnRefresh w) w (s.releaseStatus w)).flow w = { s.flow w with queue := x :: (s.flow w).queue, service := none } :=
      (flowAnswered_attn_flow _ _ _).trans ((flow_of_flows (refresh_flows _ w) w).trans (taskRequeued_flow s w x))
    have queued : ((taskRequeued s w x).flow w).queue ≠ [] := by simp [taskRequeued_flow]
    have ready : ((taskRequeued s w x).refresh w).get (FLOW_STATE w) = 1 := refresh_ready_state (by rw [taskRequeued_state low]; omega) queued
    exact .of_next (exec_releaseRetry reach flows service blocked)
      ⟨by rw [flow], by rw [flow], (flowAnswered_attn_get (by simp [FLOW_STATE]) rfl _).trans ready, flowAnswered_result _ _ _⟩
  case stale =>
    intro fn w s reach flows _
    have stale : ((s.flag (FLOW_STALE w) false).refresh w).get (FLOW_STALE w) = 0 :=
      (refresh_get (by simp [Field.key, FLOW_STALE, FLOW_STATE]) _).trans (State.get_flag_self _ _ _)
    refine .of_next (exec_clearStale reach flows) ⟨?_, (flowAnswered_attn_flow _ _ _).trans (flow_of_flows (refresh_flows _ w) w), flowAnswered_result _ _ _⟩
    unfold State.on
    rw [flowAnswered_attn_get (f := FLOW_STALE w) (by simp [FLOW_STALE]) rfl, stale]
    rfl
  case purge =>
    intro fn w s reach flows _
    have done : ItemsOnly (queueTaken s w) ((s.flow w).queue.foldl (fun t x => t.taskDone x.exp x.tidx) (queueTaken s w)) :=
      (ItemsOnly.refl _).foldl fun u x hu => hu.taskDone _ _
    have flow : (flowAnswered ((s.flow w).queue.foldl (fun t x => t.taskDone x.exp x.tidx) (queueTaken s w)) w .ok).flow w = { s.flow w with queue := [] } :=
      (flow_of_flows done.flows w).trans (queueTaken_flow s w)
    exact .of_next (exec_purge reach flows) ⟨by rw [flow], by rw [flow], flowAnswered_result _ _ _⟩

/-- Settles O18: a list's tasks join their flows (`joinFlows_queue`) or are done (`ItemsOnly.taskDone`), which leaves the delay lists alone. -/
theorem delayListsReleaseAndPurge : Obligations.DelayListsReleaseAndPurge := by
  unfold Obligations.DelayListsReleaseAndPurge
  refine ⟨?releases, ?purges, ?due⟩
  case releases =>
    intro fn d s reach flows quiet
    obtain ⟨emptied, others⟩ := delayLists_emptied (joinFlows_delayed (s.delayList d) (s.setDelayList d []))
    exact .of_next (exec_dlReleaseAll reach flows quiet) ⟨emptied, others, fun w => joinFlows_queue _ _ w⟩
  case purges =>
    intro fn d s reach flows
    have done : ItemsOnly (s.setDelayList d []) ((s.delayList d).foldl (fun t e => t.taskDone e.2.exp e.2.tidx) (s.setDelayList d [])) :=
      (ItemsOnly.refl _).foldl fun u e hu => hu.taskDone _ _
    obtain ⟨emptied, others⟩ := delayLists_emptied done.delayed
    exact .of_next (exec_dlPurge reach flows) ⟨emptied, others, done.flows⟩
  case due =>
    intro s d tick
    exact (delayList_of_delayed (joinFlows_delayed _ _) d).trans (State.delayList_setDelayList_self s d _)

end Sys2Proof.Proofs

/-!
Writes of HBM by an engine (R275, R279, R280, R287 to R295, R313 to R316): they count on the pages of memory, of the line caches and of faults, and no other register changes. The relation is
`Steady`, here for every field off those pages.
-/

namespace Sys2Proof.Proofs

open Sys2Proof.Machine Sys2Proof.Laws Sys2Proof.Claims

/-- A field of a line cache's page, of a page of memory, or of a page after those. -/
abbrev MemoryField (g : Field) : Prop := g.lsb < 32 ∧ (0x300000 ≤ g.addr ∨ g.addr / 4096 % 16 = 10)

/-- A field of any other page. -/
def OffMemory (f : Field) : Prop := f.lsb < 32 ∧ f.addr < 0x300000 ∧ f.addr / 4096 % 16 ≠ 10

theorem memory_wrLines (k : Nat) : MemoryField (MS_WR_LINES k) := ⟨by simp [MS_WR_LINES], .inl (by simp only [MS_WR_LINES]; omega)⟩

theorem memory_rdLines (k : Nat) : MemoryField (MS_RD_LINES k) := ⟨by simp [MS_RD_LINES], .inl (by simp only [MS_RD_LINES]; omega)⟩

theorem memory_msCe (k : Nat) : MemoryField (MS_CE_CNT k) := ⟨by simp [MS_CE_CNT], .inl (by simp only [MS_CE_CNT]; omega)⟩

theorem memory_msUe (k : Nat) : MemoryField (MS_UE_CNT k) := ⟨by simp [MS_UE_CNT], .inl (by simp only [MS_UE_CNT]; omega)⟩

theorem memory_snoop (core : Nat) : MemoryField (LC_SNOOP_CNT core) := ⟨by simp [LC_SNOOP_CNT], .inr (by simp only [LC_SNOOP_CNT]; omega)⟩

theorem memory_writeBack (core : Nat) : MemoryField (LC_WB_CNT core) := ⟨by simp [LC_WB_CNT], .inr (by simp only [LC_WB_CNT]; omega)⟩

theorem memory_crossing (core : Nat) : MemoryField (LC_XEVICT_CNT core) := ⟨by simp [LC_XEVICT_CNT], .inr (by simp only [LC_XEVICT_CNT]; omega)⟩

section

variable {f : Field} {s t : State}

/-- A fold whose state stands beside a result. -/
theorem Steady.foldl_fst {γ β : Type} {g : State × β → γ → State × β} {l : List γ} {p : State × β} (h : Steady f s p.1)
    (each : ∀ x c, Steady f s x.1 → Steady f s (g x c).1) : Steady f s (l.foldl g p).1 := by
  induction l generalizing p with
  | nil => exact h
  | cons c l ih => exact ih (each p c h)

end

namespace OffMemory

section

variable {f : Field} {s t : State} (off : OffMemory f)

include off

theorem put (h : Steady f s t) {g : Field} (memory : MemoryField g) (v : Nat) : Steady f s (t.set g v) :=
  h.set (key_ne_of_addr off.1 memory.1 fun same => by
    obtain ⟨_, before, page⟩ := off
    obtain ⟨_, place⟩ := memory
    omega) v

theorem add (h : Steady f s t) {g : Field} (memory : MemoryField g) (n : Nat) : Steady f s (t.add g n) := off.put h memory _

theorem fault (h : Steady f s t) (cls : Nat) (st : Status) (fn lcore array port index : Nat) : Steady f s (t.fault cls st fn lcore array port index) := by
  unfold State.fault State.logFault
  exact .ite ((h.withFaults _).raise _ _) ((off.add h (by decide) 1).raise _ _)

/-! ### Lines at their home (R279, R280, R313 to R315, R326) -/

theorem lineCe (h : Steady f s t) (l : Nat) : Steady f s (t.lineCe l) :=
  (off.add (off.add (off.add (h.setMeta l _) (memory_wrLines _) 1) (memory_msCe _) 1) (by decide) 1).raise _ _

theorem lineUe (h : Steady f s t) (l fn cause : Nat) : Steady f s (t.lineUe l fn cause) := by
  have counted : Steady f s (((t.add (MS_UE_CNT (stackOf l)) 1).add MEM_UE_CNT 1).setPair MEM_UE_ADDR_LO MEM_UE_ADDR_HI (l * 128)) :=
    off.put (off.put (off.add (off.add h (memory_msUe _) 1) (by decide) 1) (by decide) _) (by decide) _
  have captured := (counted.raise 0x300 1).capture 0x300 .faulted (stackOf l + 16 * (pchOf l % 32 / 2) + 256 * (pchOf l % 2) + 4096 * cause) fn
  unfold State.lineUe
  exact .ite captured (off.fault captured _ _ _ _ _ _ _)

theorem logProt (h : Steady f s t) (e : ProtEntry) (st : Status) : Steady f s (t.logProt e st) := by
  unfold State.logProt
  exact (Steady.ite (h.withMem _) ((off.add h (by decide) 1).raise _ _)).capture _ _ _ _

theorem tagFail (h : Steady f s t) (agent fn core dom l cause : Nat) : Steady f s (t.tagFail agent fn core dom l cause) :=
  off.logProt ((off.add h (by decide) 1).raise _ _) _ _

theorem poison (h : Steady f s t) (l : Nat) : Steady f s (t.poison l) :=
  (off.add (off.add (h.setMeta l _) (memory_wrLines _) 1) (by decide) 1).raise _ _

theorem homeRead (h : Steady f s t) (agent fn core dom l : Nat) : Steady f s (t.homeRead agent fn core dom l).1 := by
  have counted := off.add h (memory_rdLines (stackOf l)) 1
  unfold State.homeRead
  split
  · exact off.lineUe h l fn 3
  dsimp only
  split
  · exact off.tagFail counted agent fn core dom l 3
  · exact off.lineUe counted l fn 1
  · have met {c : Prop} [Decidable c] : Steady f s (if c then (t.add (MS_RD_LINES (stackOf l)) 1).lineCe l else t.add (MS_RD_LINES (stackOf l)) 1) := .ite (off.lineCe counted l) counted
    simp only [apply_ite Prod.fst]
    exact .ite met (.ite met (off.tagFail met agent fn core dom l 1))

theorem homeReadForMerge (h : Steady f s t) (agent fn core dom l : Nat) : Steady f s (t.homeReadForMerge agent fn core dom l).1 := by
  have counted := off.add h (memory_rdLines (stackOf l)) 1
  unfold State.homeReadForMerge
  split
  · exact off.lineUe h l fn 3
  dsimp only
  split
  · exact off.tagFail counted agent fn core dom l 3
  · exact off.lineUe counted l fn 1
  · have met {c : Prop} [Decidable c] : Steady f s (if c then (t.add (MS_RD_LINES (stackOf l)) 1).lineCe l else t.add (MS_RD_LINES (stackOf l)) 1) := .ite (off.lineCe counted l) counted
    simp only [apply_ite Prod.fst]
    exact .ite met (.ite met (off.tagFail (off.poison met l) agent fn core dom l 2))

theorem homeWrite (h : Steady f s t) (fn dom l : Nat) (d : List Byte) : Steady f s (t.homeWrite fn dom l d).1 := by
  have counted := off.add h (memory_wrLines (stackOf l)) 1
  have cleared : Steady f s (if ((t.add (MS_WR_LINES (stackOf l)) 1).lineMeta l).code = .poison then (t.add (MS_WR_LINES (stackOf l)) 1).add POISON_CLR_CNT 1
      else t.add (MS_WR_LINES (stackOf l)) 1) := .ite (off.add counted (by decide) 1) counted
  unfold State.homeWrite
  simp only [apply_ite Prod.fst]
  exact .ite (off.lineUe h l fn 3) (.ite ((cleared.setStored l d).setMeta l _) ((cleared.setStored l _).setMeta l _))

/-! ### Caches and directories (R275, R280, R286, R289, R292) -/

theorem lineFault (h : Steady f s t) (core : Nat) (x : CacheLine) (w who : Nat) : Steady f s (t.lineFault core x w who) :=
  off.fault ((h.raise _ _).capture _ _ _ _) _ _ _ _ _ _ _

theorem readOut (h : Steady f s t) (core : Nat) (x : CacheLine) : Steady f s (t.readOut core x) := by
  unfold State.readOut
  split
  · exact off.lineFault h _ _ _ _
  · exact .ite h (h.raise _ _)
  · exact h

theorem writeBack (h : Steady f s t) (l fn dom : Nat) (y : Yield) : Steady f s (t.writeBack l fn dom y) := by
  unfold State.writeBack
  refine .ite h ?_
  split
  · exact h
  · exact off.homeWrite h _ _ _ _
  · exact .ite (off.lineUe h _ _ _) (off.lineUe (off.poison h l) _ _ _)

theorem crossing (h : Steady f s t) (core : Nat) : Steady f s (t.crossing core) := off.add (off.add h (by decide) 1) (memory_crossing core) 1

theorem takeFill (h : Steady f s t) (core l : Nat) : Steady f s (t.takeFill core l) := by
  unfold State.takeFill
  split
  · exact h
  · exact .ite (h.withMem _) (off.writeBack ((h.withMem _).setCached core l none) _ _ _ _)

theorem takeCached (h : Steady f s t) (core l : Nat) : Steady f s (t.takeCached core l) := by
  unfold State.takeCached
  split
  · exact h
  · exact off.writeBack ((off.readOut h core _).setCached core l none) _ _ _ _

theorem takeEvicted (h : Steady f s t) (core l : Nat) : Steady f s (t.takeEvicted core l) := by
  unfold State.takeEvicted
  split
  · exact h
  · exact .ite h (off.crossing (off.add (off.writeBack (h.setEvicted core l none) _ _ _ _) (memory_writeBack core) _) core)

theorem takeBack (h : Steady f s t) (core l : Nat) : Steady f s (t.takeBack core l) :=
  off.takeEvicted (off.takeCached (off.takeFill (off.add h (memory_snoop core) 1) core l) core l) core l

theorem backInvalidate (h : Steady f s t) (e : DirEntry) : Steady f s (t.backInvalidate e) :=
  off.add ((h.foldl fun _ c hu => off.takeBack hu c e.line).setDir e.line none []) (by decide) 1

theorem dirRoom (h : Steady f s t) (l : Nat) : Steady f s (t.dirRoom l) := by
  unfold State.dirRoom
  refine .ite h (.ite h ?_)
  split
  · exact h
  · exact off.backInvalidate h _

theorem installDir (h : Steady f s t) (l : Nat) (owner : Option Nat) (sharers : List Nat) : Steady f s (t.installDir l owner sharers) :=
  (Steady.ite h (off.dirRoom h l)).setDir l owner sharers

theorem install (h : Steady f s t) (core : Nat) (x : CacheLine) : Steady f s (t.install core x) := by
  have room := h.setCached core x.line none
  unfold State.install
  dsimp only
  split
  · exact room.setCached core x.line _
  · exact (((off.readOut room core _).setCached core _ none).setEvicted core _ _).setCached core x.line _
  · exact room

/-! ### Transactions (R287 to R295) -/

theorem finishTxn (h : Steady f s t) (x : Txn) : Steady f s (t.finishTxn x) := by
  have freed := h.setTxn x.line none
  unfold State.finishTxn
  refine Steady.foldl ?_ fun u c hu => hu.send _
  dsimp only
  split
  · split
    · exact off.installDir ((off.homeWrite freed _ _ _ _).send _) _ _ _
    · have read := off.homeRead freed 0 x.fn x.core x.dom x.line
      exact .ite (off.installDir (read.send _) _ _ _) ((read.send _).setDir _ _ _)
  · refine off.installDir (Steady.send ?_ _) _ _ _
    split
    · exact off.homeWrite freed _ _ _ _
    · exact freed
  · exact off.installDir (freed.send _) _ _ _
  · split
    · exact off.installDir (freed.send _) _ _ _
    · have read := off.homeReadForMerge freed 0 x.fn x.core x.dom x.line
      exact .ite (off.installDir (read.send _) _ _ _) ((read.send _).setDir _ _ _)

theorem beginTxn (h : Steady f s t) (x : Txn) : Steady f s (t.beginTxn x) := by
  unfold State.beginTxn
  exact .ite (off.finishTxn (h.withMem _) _) ((h.withMem _).foldl fun u c hu => hu.send _)

theorem nextTxn (h : Steady f s t) (l fuel : Nat) : Steady f s (t.nextTxn l fuel) := by
  induction fuel generalizing t with
  | zero => exact h
  | succ fuel ih =>
    unfold State.nextTxn
    refine .ite h ?_
    split
    · exact h
    · exact ih (off.beginTxn (h.withMem _) _)

theorem progress (h : Steady f s t) (x : Txn) : Steady f s (t.progress x) := by
  unfold State.progress
  exact .ite (off.nextTxn (off.finishTxn (h.setTxn _ _) _) _ _) (h.setTxn _ _)

theorem cross (h : Steady f s t) (core l : Nat) : Steady f s (t.cross core l) := by
  unfold State.cross
  split
  · exact .ite h (off.crossing (h.setEvicted _ _ _) _)
  · exact h

theorem homeReply (h : Steady f s t) (m : Flight) : Steady f s (t.homeReply m) := by
  unfold State.homeReply
  split
  · exact h
  · refine .ite h ?_
    dsimp only
    split
    · exact off.progress h _
    · exact .ite (off.progress h _) (.ite (off.progress (off.cross h _ _) _) (off.progress h _))
    · exact off.progress h _

theorem coreSnoop (h : Steady f s t) (m : Flight) : Steady f s (t.coreSnoop m) := by
  have counted := off.add h (memory_snoop m.core) 1
  unfold State.coreSnoop
  dsimp only
  split
  next x _ =>
    have given := (off.readOut counted m.core x).setCached m.core m.line
    split
    · exact (given _).send _
    · exact (off.writeBack (given _) _ _ _ _).send _
  next => exact counted.send _

theorem homeEvict (h : Steady f s t) (core l : Nat) : Steady f s (t.homeEvict core l) := by
  unfold State.homeEvict
  split
  · exact h
  next e _ =>
    have taken := off.add (h.setEvicted core l (some { e with arrived := true })) (memory_writeBack core) (b2n e.owned)
    refine .ite h ?_
    dsimp only
    split
    · exact off.progress (.ite (off.writeBack (off.cross taken core l) _ _ _ _) (off.cross taken core l)) _
    · exact ((off.writeBack taken _ _ _ _).setDir _ _ _).send _

theorem deliverOther (h : Steady f s t) (m : Flight) : Steady f s (t.deliverOther m) := by
  unfold State.deliverOther
  split
  · exact h
  · exact h
  · exact h
  · exact h.setEvicted _ _ _
  · exact off.coreSnoop h m
  · exact off.coreSnoop h m
  all_goals exact off.homeReply h m

theorem settleEvictions (h : Steady f s t) (l fuel : Nat) : Steady f s (t.settleEvictions l fuel) := by
  induction fuel generalizing t with
  | zero => exact h
  | succ fuel ih =>
    unfold State.settleEvictions
    split
    · exact ih (off.deliverOther (h.withMem _) _)
    · split
      · exact ih (off.homeEvict h _ l)
      · exact h

theorem coreFill (h : Steady f s t) (m : Flight) : Steady f s (t.coreFill m) := by
  have room {u : State} (hu : Steady f s u) : Steady f s (u.victimRoom m.core m.line) := by
    unfold State.victimRoom
    exact .ite (hu.foldl fun v x hv => off.settleEvictions hv x _) hu
  unfold State.coreFill
  refine .ite h (.ite (h.setCached _ _ _) (off.install (room ?_) _ _))
  split
  · exact off.lineFault h.drawFree _ _ _ _
  · exact h

theorem deliver (h : Steady f s t) (m : Flight) : Steady f s (t.deliver m) := by
  unfold State.deliver
  exact .ite (off.nextTxn (off.coreFill h m) _ _) (off.deliverOther h m)

theorem settle (h : Steady f s t) (l fuel : Nat) : Steady f s (t.settle l fuel) := by
  induction fuel generalizing t with
  | zero => exact h
  | succ fuel ih =>
    unfold State.settle
    split
    · exact ih (off.deliver (h.withMem _) _)
    · split
      · exact ih (off.homeEvict h _ l)
      · exact h

/-! ### Writes by an engine (R291, R314 to R316) -/

theorem invalidate (h : Steady f s t) (l keep : Nat) : Steady f s (t.invalidate l keep).1 := by
  unfold State.invalidate
  refine Steady.foldl_fst h fun x c hx => ?_
  have counted := off.add hx (memory_snoop c) 1
  dsimp only
  split
  · exact hx
  split
  · exact counted
  next y _ =>
    have given := (off.readOut counted c y).setCached c l none
    split
    · exact given
    · exact off.writeBack given _ _ _ _

theorem agentWrite (h : Steady f s t) (agent fn core dom l at_ : Nat) (bs : List Byte) : Steady f s (t.agentWrite agent fn core dom l at_ bs).1 := by
  have alone := (off.invalidate (off.settle h l t.lineFuel) l noCore).setDir l none []
  have read := off.homeReadForMerge alone agent fn core dom l
  unfold State.agentWrite State.settled
  dsimp only
  split
  · exact off.homeWrite alone _ _ _ _
  split
  · exact off.homeWrite alone _ _ _ _
  split
  next u d eq =>
    rw [eq] at read
    exact off.homeWrite read _ _ _ _
  next u st d _ eq => rwa [eq] at read

theorem agentLines (h : Steady f s t) (agent fn core dom who pa : Nat) (bs : List Byte) : Steady f s (t.writeLines (.home agent) fn core dom who pa bs).1 := by
  unfold State.writeLines
  exact Steady.foldl_fst h fun x a hx => off.agentWrite hx agent fn core dom _ _ _

theorem agentHbmWrite (h : Steady f s t) (agent fn core who addr : Nat) (bs : List Byte) : Steady f s (t.hbmWrite (.home agent) fn core who addr bs).1 := by
  unfold State.hbmWrite
  split
  · exact h
  split
  · exact h
  split
  · exact h
  · exact off.agentLines h _ _ _ _ _ _ _

end

end OffMemory

end Sys2Proof.Proofs

/-!
Channels of the task store (R218, R220 to R222, R225, R226): APPLY and ENABLE by their checks, the flush of a spill area, and the batch that a refill brings back.
-/

namespace Sys2Proof.Proofs

open Sys2Proof.Machine Sys2Proof.Laws Sys2Proof.Claims

section

variable {fn k : Nat} {s t : State}

theorem channel_of_channels (h : t.work.channels = s.work.channels) (k : Nat) : t.channel k = s.channel k := by
  unfold State.channel
  rw [h]

/-! ### APPLY, ENABLE and CLEAR_LOST (R218, R222, R225, R226) -/

/-- R225. The state of a channel that has taken a configuration. -/
def channelApplied (s : State) (k : Nat) : State :=
  (s.setChannel k { s.channel k with cfg := some (s.chanRegs k), prod := 0, cons := 0, flushed := 0 }).flag (CHN_STAT_APPLIED k) true

theorem channelApplied_channel (s : State) (k : Nat) : (channelApplied s k).channel k = { s.channel k with cfg := some (s.chanRegs k), prod := 0, cons := 0, flushed := 0 } :=
  State.channel_setChannel_self s k _

/-- R225. APPLY by its check of the registers. -/
theorem exec_chnApply (reach : s.Reaches fn 0x200) (flows : s.Flowing) : exec (.chnApply fn k) s = .next (
    if s.chanApplyStatus k = .ok then channelApplied s k else s.captureFn fn 0x200 (s.chanApplyStatus k) ((CHN_CTRL_APPLY k).addr % 4096) 2) := by
  show execChnApply fn k s = _
  unfold execChnApply
  rw [command_runs reach flows]
  generalize s.chanApplyStatus k = st
  cases st <;> rfl

/-- R218. ENABLE takes its value, where nothing refuses a 1. -/
theorem exec_chnEnable (reach : s.Reaches fn 0x200) {en : Bool} (good : en = true → s.chanEnableStatus k = .ok) :
    exec (.chnEnable fn k en) s = .next (s.flag (CHN_CTRL_ENABLE k) en) := by
  show execChnEnable fn k en s = _
  unfold execChnEnable
  rw [mmio_reaches reach]
  cases en with
  | false => rfl
  | true => rw [good rfl]; rfl

theorem exec_clearLost (reach : s.Reaches fn 0x200) (flows : s.Flowing) : exec (.clearLost fn k) s = .next (s.flag (CHN_STAT_SPILL_LOST k) false) := by
  show execClearLost fn k s = _
  unfold execClearLost
  exact command_runs reach flows _ _

/-! ### Spill headers (R221, R222) -/

theorem spillHeader_work (s : State) (k : Nat) : (s.spillHeader k).work = s.work :=
  (State_spillHeader_good k (good_self s (· == .work)) rfl rfl rfl rfl rfl rfl rfl rfl).same .work rfl

/-- The count of a channel's lost entries is on SCHED page 0. -/
theorem offMemory_lostCnt (small : k < 32) : OffMemory (CHN_LOST_CNT k) := by
  simp only [OffMemory, CHN_LOST_CNT]
  omega

/-- R222. SPILL_LOST shows; the lost entries are not counted. -/
theorem Steady.loseSpill (h : Steady (CHN_LOST_CNT k) s t) (at_ : Nat) (st : Status) : Steady (CHN_LOST_CNT k) s (t.loseSpill k at_ st) := by
  have apart : (CHN_LOST_CNT k).key ≠ (CHN_STAT_SPILL_LOST k).key := key_ne_of_addr (by simp [CHN_LOST_CNT]) (by simp [CHN_STAT_SPILL_LOST]) (by simp [CHN_LOST_CNT, CHN_STAT_SPILL_LOST])
  exact ((h.set apart _).capture _ _ _ _).raiseEdge _ _ _ _

theorem Steady.headerLines (small : k < 32) (base : Nat) (header : List Byte) (lines : List Nat) (h : Steady (CHN_LOST_CNT k) s t) :
    Steady (CHN_LOST_CNT k) s (t.headerLines k base header lines) := by
  induction lines generalizing t with
  | nil => exact h
  | cons i lines ih =>
    have written := (offMemory_lostCnt small).agentHbmWrite h 4 0 0 0 (base + 128 * i) ((header.drop (128 * i)).take 128)
    unfold State.headerLines
    split
    next u eq =>
      rw [eq] at written
      exact ih written
    next u st _ eq =>
      rw [eq] at written
      exact written.loseSpill _ _

theorem spillHeader_lostCnt (small : k < 32) (s : State) : (s.spillHeader k).get (CHN_LOST_CNT k) = s.get (CHN_LOST_CNT k) := by
  unfold State.spillHeader
  split
  · rfl
  · exact (Steady.headerLines small _ _ _ (.refl _ s)).get

/-! ### The flush of a spill area (R222) -/

/-- R222. The entries of a spill area are discarded and counted as lost. -/
def spillDropped (s : State) (k : Nat) : State :=
  (s.setChannel k { s.channel k with ring := [], cons := ((s.channel k).cons + (s.channel k).ring.length) % 2 ^ 32,
                                     flushed := ((s.channel k).flushed + (s.channel k).ring.length) % 2 ^ 32 }).add (CHN_LOST_CNT k) (s.channel k).ring.length

/-- R222. Their tasks are done. -/
def spillFlushed (s : State) (k : Nat) : State := (s.channel k).ring.foldl (fun t e => t.taskDone e.1 e.2.1) (spillDropped s k)

theorem spillFlushed_items (s : State) (k : Nat) : ItemsOnly (spillDropped s k) (spillFlushed s k) := (ItemsOnly.refl _).foldl fun _ _ hu => hu.taskDone _ _

theorem exec_flushSpill (reach : s.Reaches fn 0x200) (flows : s.Flowing) (some_entry : (s.channel k).ring ≠ []) (free : s.headerHeld k = false) :
    exec (.flushSpill fn k) s = .next ((spillFlushed s k).spillHeader k) := by
  have entries : (s.channel k).ring.isEmpty = false := by simpa using some_entry
  show execFlushSpill fn k s = _
  unfold execFlushSpill
  rw [command_runs reach flows]
  simp only [entries, free, Bool.false_eq_true, if_false]
  rfl

theorem flushed_channel (s : State) (k : Nat) : ((spillFlushed s k).spillHeader k).channel k = (spillDropped s k).channel k :=
  channel_of_channels ((congrArg Work.channels (spillHeader_work _ k)).trans (spillFlushed_items s k).channels) k

theorem spillDropped_channel (s : State) (k : Nat) : ((spillDropped s k).channel k).ring = [] ∧
    ((spillDropped s k).channel k).cons = ((s.channel k).cons + (s.channel k).ring.length) % 2 ^ 32 := by
  have taken := State.channel_setChannel_self s k { s.channel k with ring := [], cons := ((s.channel k).cons + (s.channel k).ring.length) % 2 ^ 32,
                                                                     flushed := ((s.channel k).flushed + (s.channel k).ring.length) % 2 ^ 32 }
  exact ⟨congrArg Channel.ring taken, congrArg Channel.cons taken⟩

/-- R222. The flush counts each entry of the area as lost. -/
theorem flushed_lostCnt (small : k < 32) (s : State) : ((spillFlushed s k).spillHeader k).get (CHN_LOST_CNT k) = (s.get (CHN_LOST_CNT k) + (s.channel k).ring.length) % 2 ^ 32 := by
  rw [spillHeader_lostCnt small, (spillFlushed_items s k).get (by simp [CHN_LOST_CNT]) (by simp only [CHN_LOST_CNT]; omega)]
  exact State.get_add_self _ _ _

/-! ### The refill (R220, R222) -/

/-- R220. A batch of up to 32 entries comes back; with the last entry the header is written. -/
theorem exec_spillRefill (awake : s.Awake 0x200) (quiet : s.quiet 0x200 = false) (kept : s.on (CHN_STAT_SPILL_LOST k) = false) (some_entry : (s.channel k).ring ≠ [])
    (free : s.refillHeld k = false) :
    exec (.spillRefill k) s = .next (let t := s.storeWatched (·.refill k 32); if (t.channel k).ring.isEmpty then t.spillHeader k else t) := by
  have entries : (s.channel k).ring.isEmpty = false := by simpa using some_entry
  show execSpillRefill k s = _
  unfold execSpillRefill
  rw [event_awake awake]
  simp only [quiet, kept, entries, free, Bool.or_self, Bool.false_eq_true, if_false]

/-- R220. The oldest entry of a spill area, read OK, enters the store. -/
theorem refill_enters {n : Nat} {c : ChannelCfg} {own : Nat × Nat × Nat} {rest : List (Nat × Nat × Nat)} (cfg : (s.channel k).cfg = some c) (ring : (s.channel k).ring = own :: rest)
    (live : own.1 ≠ 0) (room : s.chanRoom k 1 = true) (good : (spillRead s k c).2.1 = .ok) : s.refill k (n + 1) =
      (((spillRead s k c).1.setChannel k { s.channel k with cons := ((s.channel k).cons + 1) % 2 ^ 32, ring := rest }).enter
        (spilledTask (spillRead s k c).2.2 k own).1 (spilledTask (spillRead s k c).2.2 k own).2).refill k n := by
  unfold spillRead at good ⊢
  rw [State.refill, cfg, ring]
  simp only [live, room, if_false, Bool.not_true, Bool.false_eq_true]
  generalize s.hbmRead _ _ _ _ _ _ = read at good ⊢
  obtain ⟨u, st, b⟩ := read
  subst good
  simp only [cfg]

end

/-- Settles O19: APPLY and ENABLE by their checks, the flush by `flushed_channel` and `flushed_lostCnt`, the refill entry by entry. -/
theorem schedulerChannels : Obligations.SchedulerChannels := by
  unfold Obligations.SchedulerChannels
  refine ⟨?applies, ?refused, ?disables, ?enables, ?clears, ?flushes, ?refills, ?enters⟩
  case applies =>
    intro fn k s reach flows good
    have run := exec_chnApply (k := k) reach flows
    rw [if_pos good] at run
    have channel := channelApplied_channel s k
    exact .of_next run ⟨congrArg Channel.cfg channel, congrArg Channel.prod channel, congrArg Channel.cons channel, congrArg Channel.flushed channel, State.on_flag_self rfl _ _,
      regs_work_only s _ _, onlyRegs_flag ((OnlyRegs.refl _ s).of_regs rfl) (List.mem_singleton_self _) true⟩
  case refused =>
    intro fn k s reach flows bad
    rw [exec_chnApply reach flows, if_neg bad]
  case disables =>
    intro fn k s reach
    exact exec_chnEnable reach (by simp)
  case enables =>
    intro fn k s reach good
    exact exec_chnEnable reach fun _ => good
  case clears =>
    intro fn k s reach flows
    exact exec_clearLost reach flows
  case flushes =>
    intro fn k s reach flows some_entry small free
    obtain ⟨ring, cons⟩ := spillDropped_channel s k
    exact .of_next (exec_flushSpill reach flows some_entry free) ⟨by rw [flushed_channel, ring], by rw [flushed_channel, cons], flushed_lostCnt small s⟩
  case refills =>
    intro k s awake quiet kept some_entry free
    exact exec_spillRefill awake quiet kept some_entry free
  case enters =>
    intro k n c own rest s cfg ring live room good
    exact refill_enters cfg ring live room good

end Sys2Proof.Proofs

/-!
Counter commands of the host and of the debugger (R235, R237, R250, R251, R254): what a saturation leaves of a counter, what each operation then does to it, and that a command of
the holder of the block, or of the debugger, is that operation.
-/

namespace Sys2Proof.Proofs

open Sys2Proof.Machine Sys2Proof.Laws Sys2Proof.Claims

/-! ### The test of a watch (R251) -/

/-- R251. A watch that fires changes its counter's ARMED and CNT_NOTIFY alone. -/
theorem fireWatch_counter_self (s : State) (c : Nat) : (s.fireWatch c).counter c =
    if (s.counter c).armed ∧ (s.counter c).watch ≤ (s.counter c).value then { s.counter c with armed := false, notify := true } else s.counter c := by
  have sync := fireWatch_sync s c
  split
  next fires =>
    rw [if_pos fires] at sync
    exact (counter_of_sync sync c).trans (State.counter_setCounter_self s c _)
  next silent =>
    rw [if_neg silent] at sync
    exact counter_of_sync sync c

theorem fireWatch_counter_ne {c d : Nat} (other : d ≠ c) (s : State) : (s.fireWatch c).counter d = s.counter d := by
  have sync := fireWatch_sync s c
  split at sync
  · exact (counter_of_sync sync d).trans (State.counter_setCounter_ne other s _)
  · exact counter_of_sync sync d

theorem fireWatch_waits (s : State) (c : Nat) : (s.fireWatch c).sync.waits = s.sync.waits := by
  rw [fireWatch_sync]
  split <;> rfl

/-! ### Saturation (R235) -/

/-- R235. A saturation flag of a counter: SAT_HI or SAT_LO. -/
def satFlag (k : Counter) (high : Bool) : Bool := if high then k.satHi else k.satLo

/-- R235. A counter with a saturation flag set. -/
def saturated (k : Counter) (high : Bool) : Counter := if high then { k with satHi := true } else { k with satLo := true }

/-- R235. A saturation sets its flag, where the flag is not set yet, and raises the page's SAT event. -/
theorem saturate_eq (s : State) (c : Nat) (high : Bool) :
    s.saturate c high = if satFlag (s.counter c) high then s else (s.setCounter c (saturated (s.counter c) high)).raiseCtr c 1 := by
  cases high <;> rfl

/-- A flag that is set already is set to what it is. -/
theorem saturated_of_set {k : Counter} {high : Bool} (isSet : satFlag k high = true) : saturated k high = k := by
  cases k
  cases high <;> cases isSet <;> rfl

theorem saturate_counter_self (s : State) (c : Nat) (high : Bool) : (s.saturate c high).counter c = saturated (s.counter c) high := by
  rw [saturate_eq]
  split
  next isSet => exact (saturated_of_set isSet).symm
  next => exact (counter_of_sync (raiseCtr_sync _ _ _) c).trans (State.counter_setCounter_self s c _)

theorem saturate_counter_ne {c d : Nat} (other : d ≠ c) (s : State) (high : Bool) : (s.saturate c high).counter d = s.counter d := by
  rw [saturate_eq]
  split
  · rfl
  · exact (counter_of_sync (raiseCtr_sync _ _ _) d).trans (State.counter_setCounter_ne other s _)

theorem saturate_waits (s : State) (c : Nat) (high : Bool) : (s.saturate c high).sync.waits = s.sync.waits := by
  rw [saturate_eq]
  split
  · rfl
  · rw [raiseCtr_sync]
    rfl

theorem saturate_only (s : State) (c : Nat) (high : Bool) : OnlyParts [.sync, .pages, .msgs] s (s.saturate c high) :=
  onlyParts_of_good (State_saturate_good c high (good_self s _) rfl rfl rfl)

/-- R235. A counter that takes a value after a saturation takes it as without one: the flag alone differs. -/
theorem saturate_putValue_takes (s : State) (c v : Nat) (high : Bool) : CounterTakes s c v ((s.saturate c high).putValue c v) := by
  obtain ⟨value, waits, watch, fires, silent, others, only⟩ := putValue_takes (s.saturate c high) c v
  have flagOnly : (saturated (s.counter c) high).value = (s.counter c).value ∧ (saturated (s.counter c) high).watch = (s.counter c).watch ∧
      (saturated (s.counter c) high).armed = (s.counter c).armed ∧ (saturated (s.counter c) high).notify = (s.counter c).notify := by
    cases high <;> exact ⟨rfl, rfl, rfl, rfl⟩
  obtain ⟨sameValue, sameWatch, sameArmed, sameNotify⟩ := flagOnly
  rw [saturate_counter_self, saturate_waits, sameValue] at value waits fires silent
  rw [saturate_counter_self] at watch
  rw [sameWatch] at watch fires silent
  rw [sameArmed] at fires silent
  rw [sameNotify] at silent
  exact ⟨value, waits, watch, fires, silent, fun d other => (others d other).trans (saturate_counter_ne other s high), (saturate_only s c high).trans only⟩

/-- R235. Taking a value leaves the saturation flags. -/
theorem putValue_flags (s : State) (c v : Nat) : ((s.putValue c v).counter c).satHi = (s.counter c).satHi ∧ ((s.putValue c v).counter c).satLo = (s.counter c).satLo := by
  rw [putValue_eq, fireWatch_counter_self, valueTaken_self]
  split <;> exact ⟨rfl, rfl⟩

/-! ### The operations (R235, R251) -/

/-- R235. SIGNAL adds, and saturates at 65,535 with SAT_HI. -/
theorem ctrOp_signal_takes (s : State) (c v : Nat) : CounterTakes s c (min ((s.counter c).value + v) 65535) (s.ctrOp .signal c v) ∧
    (65535 < (s.counter c).value + v → ((s.ctrOp .signal c v).counter c).satHi = true) := by
  unfold State.ctrOp
  dsimp only
  by_cases past : 65535 < (s.counter c).value + v
  · rw [if_pos past, (putValue_flags _ _ _).1, saturate_counter_self]
    exact ⟨saturate_putValue_takes s c _ true, fun _ => rfl⟩
  · rw [if_neg past]
    exact ⟨putValue_takes s c _, fun h => absurd h past⟩

/-- R235. SUB subtracts, and saturates at 0 with SAT_LO. -/
theorem ctrOp_sub_takes (s : State) (c v : Nat) : CounterTakes s c ((s.counter c).value - v) (s.ctrOp .sub c v) ∧
    ((s.counter c).value < v → ((s.ctrOp .sub c v).counter c).satLo = true) := by
  unfold State.ctrOp
  dsimp only
  by_cases short : (s.counter c).value < v
  · rw [if_pos short, (putValue_flags _ _ _).2, saturate_counter_self]
    exact ⟨saturate_putValue_takes s c _ false, fun _ => rfl⟩
  · rw [if_neg short]
    exact ⟨putValue_takes s c _, fun h => absurd h short⟩

/-- R235, R251. ARM takes the threshold, and the watch fires at once where the value has reached it. -/
theorem ctrOp_arm_arms (s : State) (c v : Nat) : CounterArms s c v (s.ctrOp .arm c v) := by
  have self := fireWatch_counter_self (s.setCounter c { s.counter c with armed := true, watch := v }) c
  rw [State.counter_setCounter_self] at self
  change (s.ctrOp .arm c v).counter c = _ at self
  have only : OnlyParts [.sync, .pages, .msgs] s (s.ctrOp .arm c v) := onlyParts_of_good (State_ctrOp_good .arm c v (good_self s _) rfl rfl rfl)
  have others : ∀ d, d ≠ c → (s.ctrOp .arm c v).counter d = s.counter d := fun d other =>
    (fireWatch_counter_ne other _).trans (State.counter_setCounter_ne other s _)
  by_cases reached : v ≤ (s.counter c).value
  · rw [if_pos ⟨rfl, reached⟩] at self
    exact ⟨by rw [self], by rw [self], fireWatch_waits _ c, fun _ => by rw [self]; exact ⟨rfl, rfl⟩, fun below => by omega, others, only⟩
  · rw [if_neg fun fires => reached fires.2] at self
    exact ⟨by rw [self], by rw [self], fireWatch_waits _ c, fun h => absurd h reached, fun _ => by rw [self]; exact ⟨rfl, rfl⟩, others, only⟩

/-! ### The commands (R250, R254) -/

/-- R250, R267. A command of the function that holds the counter's block takes effect at once where nothing withholds it. -/
theorem windowCmd_runs {fn c : Nat} {s : State} (reach : s.Reaches fn (ctrPage c)) (holds : s.ctrHolder c = fn) (unquiesced : s.ctrQuiet c = false) (flows : s.Flowing)
    (cmd : Instr) (op : CtrOp) (v : Nat) : windowCmd fn c cmd s (·.ctrOp op c v) = .next (s.ctrOp op c v) := by
  unfold windowCmd
  rw [mmio_reaches reach, if_neg (not_not_intro holds), unquiesced, if_neg Bool.false_ne_true, inOrderOf_flowing flows]

/-- R254. A debugger command acts on the counter that DBG_SEL names. -/
theorem debugCmd_runs {fn : Nat} {s : State} (reach : s.Reaches fn 0x210) (flows : s.Flowing) (cmd : Instr) (op : CtrOp) (v : Nat) :
    debugCmd fn cmd s (fun c s => s.ctrOp op c v) = .next (s.ctrOp op (s.get DBG_SEL) v) := by
  unfold debugCmd
  rw [mmio_reaches reach, inOrderOf_flowing flows]

/-! ### The obligation -/

/-- Settles O4: each command is its operation on the counter, by `windowCmd_runs` and `debugCmd_runs`; what the operation does is said once for both. -/
theorem counterOperations : Obligations.CounterOperations := by
  refine ⟨?signal, ?sub, ?set, ?arm, ?disarm, ?dbgSignal, ?dbgSub, ?dbgSet, ?dbgArm, ?dbgDisarm⟩
  case signal =>
    intro fn c v s reach holds unquiesced flows
    exact .of_next (windowCmd_runs reach holds unquiesced flows (.cntSignal fn c v) .signal _) (ctrOp_signal_takes s c _)
  case sub =>
    intro fn c v s reach holds unquiesced flows
    exact .of_next (windowCmd_runs reach holds unquiesced flows (.cntSub fn c v) .sub _) (ctrOp_sub_takes s c _)
  case set =>
    intro fn c v s reach holds unquiesced flows
    exact .of_next (windowCmd_runs reach holds unquiesced flows (.cntSet fn c v) .set _) (putValue_takes s c _)
  case arm =>
    intro fn c v s reach holds unquiesced flows
    exact .of_next (windowCmd_runs reach holds unquiesced flows (.cntArm fn c v) .arm _) (ctrOp_arm_arms s c _)
  case disarm =>
    intro fn c s reach holds unquiesced flows
    exact windowCmd_runs reach holds unquiesced flows (.cntDisarm fn c) .disarm 0
  case dbgSignal =>
    intro fn v s reach flows
    exact .of_next (debugCmd_runs reach flows (.dbgSignal fn v) .signal _) (ctrOp_signal_takes s _ _)
  case dbgSub =>
    intro fn v s reach flows
    exact .of_next (debugCmd_runs reach flows (.dbgSub fn v) .sub _) (ctrOp_sub_takes s _ _)
  case dbgSet =>
    intro fn v s reach flows
    exact .of_next (debugCmd_runs reach flows (.dbgSet fn v) .set _) (putValue_takes s _ _)
  case dbgArm =>
    intro fn v s reach flows
    exact .of_next (debugCmd_runs reach flows (.dbgArm fn v) .arm _) (ctrOp_arm_arms s _ _)
  case dbgDisarm =>
    intro fn s reach flows
    exact debugCmd_runs reach flows (.dbgDisarm fn) .disarm 0

end Sys2Proof.Proofs

/-!
What an access at the home leaves of memory (R279, R280, R313 to R315, R325, R326): caches, directories, messages, transactions and what the engines have in hand.
-/

namespace Sys2Proof.Proofs

open Sys2Proof.Machine Sys2Proof.Laws Sys2Proof.Claims

/-! ### What accesses at the home leave alone (R279, R280, R313 to R315, R325, R326) -/

/-- Memory apart from what accesses at the home change: the bytes and the side storage of lines, the protection log. -/
def besideLines (m : Memory) : Memory := { m with hbm := [], lineMeta := [], protLog := [] }

/-- Of memory, at most the bytes and the side storage of lines and the protection log differ. -/
def HomeOnly (s t : State) : Prop := besideLines t.mem = besideLines s.mem

section

variable {s t u : State}

theorem HomeOnly.refl (s : State) : HomeOnly s s := rfl

theorem HomeOnly.trans (h : HomeOnly s t) (h' : HomeOnly t u) : HomeOnly s u := Eq.trans h' h

theorem HomeOnly.of_mem (h : HomeOnly s t) (e : u.mem = t.mem) : HomeOnly s u := h.trans (congrArg besideLines e)

theorem HomeOnly.ite {c : Prop} [Decidable c] (h : HomeOnly s t) (h' : HomeOnly s u) : HomeOnly s (if c then t else u) := by
  split
  · exact h
  · exact h'

theorem HomeOnly.caches (h : HomeOnly s t) : t.mem.caches = s.mem.caches := (congrArg Memory.caches h :)

theorem HomeOnly.dir (h : HomeOnly s t) : t.mem.dir = s.mem.dir := (congrArg Memory.dir h :)

theorem HomeOnly.flights (h : HomeOnly s t) : t.mem.flights = s.mem.flights := (congrArg Memory.flights h :)

theorem HomeOnly.add (h : HomeOnly s t) (f : Field) (n : Nat) : HomeOnly s (t.add f n) := h

theorem HomeOnly.raise (h : HomeOnly s t) (page bit : Nat) : HomeOnly s (t.raise page bit) := h.of_mem (t.raise_mem page bit)

theorem HomeOnly.setMeta (h : HomeOnly s t) (l : Nat) (m : LineMeta) : HomeOnly s (t.setMeta l m) := h.trans rfl

theorem HomeOnly.setStored (h : HomeOnly s t) (l : Nat) (d : List Byte) : HomeOnly s (t.setStored l d) := h.trans rfl

end

/-- R562. A fault is logged; memory is as it was. -/
theorem fault_mem (s : State) (cls : Nat) (st : Status) (fn lcore array port index : Nat) : (s.fault cls st fn lcore array port index).mem = s.mem := by
  unfold State.fault State.logFault
  split <;> exact State.raise_mem _ _ _

theorem lineFault_mem (s : State) (core : Nat) (x : CacheLine) (w who : Nat) : (s.lineFault core x w who).mem = s.mem :=
  (fault_mem _ _ _ _ _ _ _ _).trans (s.raise_mem _ _)

theorem readOut_mem (s : State) (core : Nat) (x : CacheLine) : (s.readOut core x).mem = s.mem := by
  unfold State.readOut
  split
  · exact lineFault_mem s core x _ _
  · split
    · rfl
    · exact s.raise_mem _ _
  · rfl

theorem lineUe_mem (s : State) (l fn cause : Nat) : (s.lineUe l fn cause).mem = s.mem := by
  have raised := ((((s.add (MS_UE_CNT (stackOf l)) 1).add MEM_UE_CNT 1).setPair MEM_UE_ADDR_LO MEM_UE_ADDR_HI (l * 128)).raise_mem 0x300 1)
  unfold State.lineUe
  dsimp only
  split
  · exact raised
  · exact (fault_mem _ _ _ _ _ _ _ _).trans raised

section

variable {s t : State}

theorem HomeOnly.lineCe (h : HomeOnly s t) (l : Nat) : HomeOnly s (t.lineCe l) := ((((h.setMeta l _).add _ 1).add _ 1).add _ 1).raise _ _

theorem HomeOnly.lineUe (h : HomeOnly s t) (l fn cause : Nat) : HomeOnly s (t.lineUe l fn cause) := h.of_mem (lineUe_mem t l fn cause)

theorem HomeOnly.logProt (h : HomeOnly s t) (e : ProtEntry) (st : Status) : HomeOnly s (t.logProt e st) := by
  have logged : HomeOnly t { t with mem := { t.mem with protLog := t.mem.protLog ++ [e] } } := rfl
  unfold State.logProt
  exact .ite (u := (t.add PL_LOST 1).raise 0x310 2) (h.trans logged) ((h.add _ 1).raise _ _)

theorem HomeOnly.tagFail (h : HomeOnly s t) (agent fn core dom l cause : Nat) : HomeOnly s (t.tagFail agent fn core dom l cause) :=
  ((h.add _ 1).raise _ _).logProt _ _

theorem HomeOnly.poison (h : HomeOnly s t) (l : Nat) : HomeOnly s (t.poison l) := (((h.setMeta l _).add _ 1).add _ 1).raise _ _

theorem HomeOnly.homeRead (h : HomeOnly s t) (agent fn core dom l : Nat) : HomeOnly s (t.homeRead agent fn core dom l).1 := by
  have counted := h.add (MS_RD_LINES (stackOf l)) 1
  unfold State.homeRead
  split
  · exact h.lineUe l fn 3
  dsimp only
  split
  · exact counted.tagFail agent fn core dom l 3
  · exact counted.lineUe l fn 1
  · have met {c : Prop} [Decidable c] : HomeOnly s (if c then (t.add (MS_RD_LINES (stackOf l)) 1).lineCe l else t.add (MS_RD_LINES (stackOf l)) 1) := .ite (counted.lineCe l) counted
    simp only [apply_ite Prod.fst]
    exact .ite met (.ite met (met.tagFail agent fn core dom l 1))

theorem HomeOnly.homeReadForMerge (h : HomeOnly s t) (agent fn core dom l : Nat) : HomeOnly s (t.homeReadForMerge agent fn core dom l).1 := by
  have counted := h.add (MS_RD_LINES (stackOf l)) 1
  unfold State.homeReadForMerge
  split
  · exact h.lineUe l fn 3
  dsimp only
  split
  · exact counted.tagFail agent fn core dom l 3
  · exact counted.lineUe l fn 1
  · have met {c : Prop} [Decidable c] : HomeOnly s (if c then (t.add (MS_RD_LINES (stackOf l)) 1).lineCe l else t.add (MS_RD_LINES (stackOf l)) 1) := .ite (counted.lineCe l) counted
    simp only [apply_ite Prod.fst]
    exact .ite met (.ite met ((met.poison l).tagFail agent fn core dom l 2))

theorem HomeOnly.homeWrite (h : HomeOnly s t) (fn dom l : Nat) (d : List Byte) : HomeOnly s (t.homeWrite fn dom l d).1 := by
  have counted := h.add (MS_WR_LINES (stackOf l)) 1
  have cleared : HomeOnly s (if ((t.add (MS_WR_LINES (stackOf l)) 1).lineMeta l).code = .poison then (t.add (MS_WR_LINES (stackOf l)) 1).add POISON_CLR_CNT 1
      else t.add (MS_WR_LINES (stackOf l)) 1) := .ite (counted.add _ 1) counted
  unfold State.homeWrite
  simp only [apply_ite Prod.fst]
  exact .ite (h.lineUe l fn 3) (.ite ((cleared.setStored l d).setMeta l _) ((cleared.setStored l _).setMeta l _))

theorem HomeOnly.writeBack (h : HomeOnly s t) (l fn dom : Nat) (y : Yield) : HomeOnly s (t.writeBack l fn dom y) := by
  unfold State.writeBack
  refine .ite h ?_
  split
  · exact h
  · exact h.homeWrite _ _ _ _
  · exact .ite (h.lineUe _ _ _) ((h.poison l).lineUe _ _ _)

end

end Sys2Proof.Proofs

/-!
What the protocol of the lines leaves alone (R281, R284, R288 to R295, R306, R319): the line-cache commands, the segment clears, the scrubber's line, the keys and the fill that are in hand, whatever
transactions, evictions and flushes run meanwhile.
-/

namespace Sys2Proof.Proofs

open Sys2Proof.Machine Sys2Proof.Laws Sys2Proof.Claims

/-- Memory apart from the lines and the protection log, and from what the protocol of the lines changes: caches, directories, messages, transactions. -/
def besideProtocol (m : Memory) : Memory := { besideLines m with caches := [], dir := [], flights := [], txns := [] }

/-- R281, R284, R288, R306, R319. What the engines of the memory system have in hand is the same: line-cache commands, segment clears, the scrubber's line, keys, a fill. -/
def EnginesStay (s t : State) : Prop := besideProtocol t.mem = besideProtocol s.mem

namespace EnginesStay

section

variable {s t u : State}

theorem refl (s : State) : EnginesStay s s := rfl

theorem upd (h : EnginesStay s t) (e : besideProtocol u.mem = besideProtocol t.mem) : EnginesStay s u := e.trans h

/-- What accesses at the home change is none of the engines' affair. -/
theorem home (h : EnginesStay s t) (only : HomeOnly t u) : EnginesStay s u := h.upd (congrArg (fun m : Memory => { m with caches := [], dir := [], flights := [], txns := [] }) only)

theorem of_mem (h : EnginesStay s t) (e : u.mem = t.mem) : EnginesStay s u := h.upd (congrArg besideProtocol e)

theorem lcCmds (h : EnginesStay s t) : t.mem.lcCmds = s.mem.lcCmds := (congrArg Memory.lcCmds h :)

theorem segBusy (h : EnginesStay s t) : t.mem.segBusy = s.mem.segBusy := (congrArg Memory.segBusy h :)

theorem ite {c : Prop} [Decidable c] (h : EnginesStay s t) (h' : EnginesStay s u) : EnginesStay s (if c then t else u) := by
  split
  · exact h
  · exact h'

theorem foldl {γ : Type} {g : State → γ → State} {l : List γ} (h : EnginesStay s t) (each : ∀ u x, EnginesStay s u → EnginesStay s (g u x)) : EnginesStay s (l.foldl g t) := by
  induction l generalizing t with
  | nil => exact h
  | cons x l ih => exact ih (each t x h)

theorem add (h : EnginesStay s t) (f : Field) (n : Nat) : EnginesStay s (t.add f n) := h

theorem crossing (h : EnginesStay s t) (core : Nat) : EnginesStay s (t.crossing core) := (h.add DIR_XEVICT_CNT 1).add (LC_XEVICT_CNT core) 1

theorem withFlights (h : EnginesStay s t) (fl : List Flight) : EnginesStay s { t with mem := { t.mem with flights := fl } } := h.upd rfl

theorem withTxns (h : EnginesStay s t) (xs : List Txn) : EnginesStay s { t with mem := { t.mem with txns := xs } } := h.upd rfl

theorem setCached (h : EnginesStay s t) (core l : Nat) (v : Option CacheLine) : EnginesStay s (t.setCached core l v) := h.upd rfl

theorem setEvicted (h : EnginesStay s t) (core l : Nat) (v : Option Evicted) : EnginesStay s (t.setEvicted core l v) := h.upd rfl

theorem setDir (h : EnginesStay s t) (l : Nat) (owner : Option Nat) (sharers : List Nat) : EnginesStay s (t.setDir l owner sharers) := h.upd rfl

theorem send (h : EnginesStay s t) (m : Flight) : EnginesStay s (t.send m) := h.upd rfl

theorem setTxn (h : EnginesStay s t) (l : Nat) (v : Option Txn) : EnginesStay s (t.setTxn l v) := h.upd rfl

theorem readOut (h : EnginesStay s t) (core : Nat) (x : CacheLine) : EnginesStay s (t.readOut core x) := h.of_mem (readOut_mem t core x)

theorem homeRead (h : EnginesStay s t) (agent fn core dom l : Nat) : EnginesStay s (t.homeRead agent fn core dom l).1 := h.home (.homeRead (.refl t) _ _ _ _ _)

theorem homeReadForMerge (h : EnginesStay s t) (agent fn core dom l : Nat) : EnginesStay s (t.homeReadForMerge agent fn core dom l).1 := h.home (.homeReadForMerge (.refl t) _ _ _ _ _)

theorem homeWrite (h : EnginesStay s t) (fn dom l : Nat) (d : List Byte) : EnginesStay s (t.homeWrite fn dom l d).1 := h.home (.homeWrite (.refl t) _ _ _ _)

theorem writeBack (h : EnginesStay s t) (l fn dom : Nat) (y : Yield) : EnginesStay s (t.writeBack l fn dom y) := h.home (.writeBack (.refl t) _ _ _ _)

/-! ### Caches and directories (R289, R292, R293) -/

theorem takeFill (h : EnginesStay s t) (core l : Nat) : EnginesStay s (t.takeFill core l) := by
  unfold State.takeFill
  split
  · exact h
  · exact .ite (h.withFlights _) (((h.withFlights _).setCached core l none).writeBack _ _ _ _)

theorem takeCached (h : EnginesStay s t) (core l : Nat) : EnginesStay s (t.takeCached core l) := by
  unfold State.takeCached
  split
  · exact h
  · exact ((h.readOut core _).setCached core l none).writeBack _ _ _ _

theorem takeEvicted (h : EnginesStay s t) (core l : Nat) : EnginesStay s (t.takeEvicted core l) := by
  unfold State.takeEvicted
  split
  · exact h
  · exact .ite h ((((h.setEvicted core l none).writeBack _ _ _ _).add _ _).crossing core)

theorem takeBack (h : EnginesStay s t) (core l : Nat) : EnginesStay s (t.takeBack core l) := (((h.add _ 1).takeFill core l).takeCached core l).takeEvicted core l

theorem dirRoom (h : EnginesStay s t) (l : Nat) : EnginesStay s (t.dirRoom l) := by
  have invalidated (e : DirEntry) : EnginesStay s (t.backInvalidate e) := ((h.foldl fun _ c hu => hu.takeBack c e.line).setDir e.line none []).add _ 1
  unfold State.dirRoom
  refine .ite h (.ite h ?_)
  split
  · exact h
  · exact invalidated _

theorem installDir (h : EnginesStay s t) (l : Nat) (owner : Option Nat) (sharers : List Nat) : EnginesStay s (t.installDir l owner sharers) :=
  (EnginesStay.ite h (h.dirRoom l)).setDir l owner sharers

theorem install (h : EnginesStay s t) (core : Nat) (x : CacheLine) : EnginesStay s (t.install core x) := by
  have room := h.setCached core x.line none
  unfold State.install
  dsimp only
  split
  · exact room.setCached core x.line _
  · exact (((room.readOut core _).setCached core _ none).setEvicted core _ _).setCached core x.line _
  · exact room

/-! ### Transactions (R287 to R295) -/

theorem finishTxn (h : EnginesStay s t) (x : Txn) : EnginesStay s (t.finishTxn x) := by
  have freed := h.setTxn x.line none
  unfold State.finishTxn
  refine foldl ?_ fun u c hu => hu.send _
  dsimp only
  split
  · split
    · exact ((freed.homeWrite _ _ _ _).send _).installDir _ _ _
    · have read := (freed.homeRead 0 x.fn x.core x.dom x.line)
      exact .ite ((read.send _).installDir _ _ _) ((read.send _).setDir _ _ _)
  · refine (send ?_ _).installDir _ _ _
    split
    · exact freed.homeWrite _ _ _ _
    · exact freed
  · exact (freed.send _).installDir _ _ _
  · split
    · exact (freed.send _).installDir _ _ _
    · have read := (freed.homeReadForMerge 0 x.fn x.core x.dom x.line)
      exact .ite ((read.send _).installDir _ _ _) ((read.send _).setDir _ _ _)

theorem beginTxn (h : EnginesStay s t) (x : Txn) : EnginesStay s (t.beginTxn x) := by
  unfold State.beginTxn
  exact .ite ((h.withTxns _).finishTxn _) ((h.withTxns _).foldl fun u c hu => hu.send _)

theorem nextTxn (h : EnginesStay s t) (l fuel : Nat) : EnginesStay s (t.nextTxn l fuel) := by
  induction fuel generalizing t with
  | zero => exact h
  | succ fuel ih =>
    unfold State.nextTxn
    refine .ite h ?_
    split
    · exact h
    · exact ih ((h.withTxns _).beginTxn _)

theorem progress (h : EnginesStay s t) (x : Txn) : EnginesStay s (t.progress x) := by
  unfold State.progress
  exact .ite (((h.setTxn _ _).finishTxn _).nextTxn _ _) (h.setTxn _ _)

theorem cross (h : EnginesStay s t) (core l : Nat) : EnginesStay s (t.cross core l) := by
  unfold State.cross
  split
  · exact .ite h ((h.setEvicted _ _ _).crossing _)
  · exact h

theorem homeReply (h : EnginesStay s t) (m : Flight) : EnginesStay s (t.homeReply m) := by
  unfold State.homeReply
  split
  · exact h
  · refine .ite h ?_
    dsimp only
    split
    · exact h.progress _
    · exact .ite (h.progress _) (.ite ((h.cross _ _).progress _) (h.progress _))
    · exact h.progress _

theorem coreSnoop (h : EnginesStay s t) (m : Flight) : EnginesStay s (t.coreSnoop m) := by
  have counted := h.add (LC_SNOOP_CNT m.core) 1
  unfold State.coreSnoop
  dsimp only
  split
  next x _ =>
    have given := (counted.readOut m.core x).setCached m.core m.line
    split
    · exact (given _).send _
    · exact ((given _).writeBack _ _ _ _).send _
  next => exact counted.send _

theorem homeEvict (h : EnginesStay s t) (core l : Nat) : EnginesStay s (t.homeEvict core l) := by
  unfold State.homeEvict
  split
  · exact h
  next e _ =>
    have taken := (h.setEvicted core l (some { e with arrived := true })).add (LC_WB_CNT core) (b2n e.owned)
    refine .ite h ?_
    dsimp only
    split
    · exact progress (.ite ((taken.cross core l).writeBack _ _ _ _) (taken.cross core l)) _
    · exact ((taken.writeBack _ _ _ _).setDir _ _ _).send _

theorem deliverOther (h : EnginesStay s t) (m : Flight) : EnginesStay s (t.deliverOther m) := by
  unfold State.deliverOther
  split
  · exact h
  · exact h
  · exact h
  · exact h.setEvicted _ _ _
  · exact h.coreSnoop m
  · exact h.coreSnoop m
  all_goals exact h.homeReply m

theorem settleEvictions (h : EnginesStay s t) (l fuel : Nat) : EnginesStay s (t.settleEvictions l fuel) := by
  induction fuel generalizing t with
  | zero => exact h
  | succ fuel ih =>
    unfold State.settleEvictions
    split
    · exact ih ((h.withFlights _).deliverOther _)
    · split
      · exact ih (h.homeEvict _ l)
      · exact h

theorem coreFill (h : EnginesStay s t) (m : Flight) : EnginesStay s (t.coreFill m) := by
  have room {u : State} (hu : EnginesStay s u) : EnginesStay s (u.victimRoom m.core m.line) := by
    unfold State.victimRoom
    exact .ite (hu.foldl fun v x hv => hv.settleEvictions x _) hu
  unfold State.coreFill
  refine .ite h (.ite (h.setCached _ _ _) ((room ?_).install _ _))
  split
  · exact h.of_mem (lineFault_mem _ _ _ _ _)
  · exact h

theorem deliver (h : EnginesStay s t) (m : Flight) : EnginesStay s (t.deliver m) := by
  unfold State.deliver
  exact .ite ((h.coreFill m).nextTxn _ _) (h.deliverOther m)

theorem settled (h : EnginesStay s t) (l : Nat) : EnginesStay s (t.settled l) := by
  have settle (fuel : Nat) {u : State} (hu : EnginesStay s u) : EnginesStay s (u.settle l fuel) := by
    induction fuel generalizing u with
    | zero => exact hu
    | succ fuel ih =>
      unfold State.settle
      split
      · exact ih ((hu.withFlights _).deliver _)
      · split
        · exact ih (hu.homeEvict _ l)
        · exact hu
  exact settle _ h

theorem drainEvictions (h : EnginesStay s t) (core : Nat) : EnginesStay s (t.drainEvictions core) := by
  unfold State.drainEvictions
  exact h.foldl fun u l hu => hu.settled l

/-! ### Flushes (R284, R288) -/

theorem flushLine (h : EnginesStay s t) (core l : Nat) (inv : Bool) : EnginesStay s (t.flushLine core l inv) := by
  have done := h.settled l
  unfold State.flushLine
  dsimp only
  split
  · exact done
  next x _ =>
    have written : EnginesStay s (if x.dirty then (((t.settled l).readOut core x).writeBack l x.fn x.dom x.yield).add (LC_WB_CNT core) 1 else t.settled l) :=
      .ite (((done.readOut core x).writeBack _ _ _ _).add _ 1) done
    refine .ite ?_ (written.setCached core l _)
    split
    · exact written.setCached core l none
    · exact (written.setCached core l none).setDir _ _ _

theorem flushInvAll (h : EnginesStay s t) (core : Nat) : EnginesStay s (t.flushInvAll core) := by
  unfold State.flushInvAll
  exact (h.drainEvictions core).foldl fun u l hu => hu.flushLine core l true

theorem flushRange (h : EnginesStay s t) (pbase len : Nat) : EnginesStay s (t.flushRange pbase len) := by
  unfold State.flushRange
  exact (h.foldl fun u l hu => hu.settled l).foldl fun u c hu => (hu.drainEvictions c).foldl fun v l hv => hv.flushLine c l true

end

end EnginesStay

end Sys2Proof.Proofs

/-!
A line at a core and in its directory (R275, R280, R286, R288, R289): what the cache and the eviction buffer hold after an update, what a line brings to its home, and what the flush of a line
does that nothing else is under way for.
-/

namespace Sys2Proof.Proofs

open Sys2Proof.Machine Sys2Proof.Laws Sys2Proof.Claims

/-! ### Copies of a line (R286) -/

@[simp] theorem find?_false {α : Type} (xs : List α) : xs.find? (fun _ => false) = none := List.find?_eq_none.mpr fun _ _ => Bool.false_ne_true

theorem line_of_cached {s : State} {core l : Nat} {x : CacheLine} (holds : s.cached core l = some x) : x.line = l := by
  simpa using List.find?_some holds

theorem cached_of_caches {s t : State} (h : t.mem.caches = s.mem.caches) (core l : Nat) : t.cached core l = s.cached core l := by
  unfold State.cached State.cache
  rw [h]

theorem cached_setCached_some (s : State) (core : Nat) {l : Nat} {x : CacheLine} (place : x.line = l) : (s.setCached core l (some x)).cached core l = some x := by
  simp [State.cached, State.setCached, place]

@[simp] theorem cached_setCached_none (s : State) (core l : Nat) : (s.setCached core l none).cached core l = none := by
  simp [State.cached, State.setCached]

/-- A core that gives up a line keeps its others, and so do the other cores. -/
theorem cached_setCached_other {l m : Nat} (other : m ≠ l) (s : State) (core c : Nat) : (s.setCached core l none).cached c m = s.cached c m := by
  by_cases same : c = core
  · subst same
    simp only [State.cached, State.setCached, State.cache_setCache_self, Option.toList_none, List.nil_append, List.find?_filter]
    congr 1
    funext x
    by_cases here : x.line = m <;> simp [here, other]
  · unfold State.cached State.setCached
    rw [State.cache_setCache_ne same]

/-- The eviction buffer stands beside the lines. -/
@[simp] theorem cached_setEvicted (s : State) (core l : Nat) (v : Option Evicted) (c m : Nat) : (s.setEvicted core l v).cached c m = s.cached c m := by
  by_cases same : c = core
  · subst same
    simp [State.cached, State.setEvicted]
  · unfold State.cached State.setEvicted
    rw [State.cache_setCache_ne same]

@[simp] theorem evictedEntry_setEvicted_none (s : State) (core l : Nat) : (s.setEvicted core l none).evictedEntry core l = none := by
  simp [State.evictedEntry, State.setEvicted]

theorem evictedEntry_setEvicted_some (s : State) (core : Nat) {l : Nat} {e : Evicted} (place : e.line = l) : (s.setEvicted core l (some e)).evictedEntry core l = some e := by
  simp [State.evictedEntry, State.setEvicted, List.find?_append, place]

/-! ### What a line brings to its home (R275, R280) -/

theorem broken_of_clean {x : CacheLine} (clean : x.err = []) : x.broken = false := by
  simp [CacheLine.broken, clean]

theorem yield_shared {x : CacheLine} (shared : x.owned = false) : x.yield = .nothing := by
  simp [CacheLine.yield, shared]

theorem yield_owned {x : CacheLine} (owned : x.owned = true) (clean : x.err = []) : x.yield = .data x.data := by
  simp [CacheLine.yield, owned, broken_of_clean clean]

theorem readOut_shared (s : State) (core : Nat) {x : CacheLine} (shared : x.owned = false) : s.readOut core x = s := by
  simp [State.readOut, yield_shared shared]

theorem readOut_owned (s : State) (core : Nat) {x : CacheLine} (owned : x.owned = true) (clean : x.err = []) : s.readOut core x = s := by
  simp [State.readOut, yield_owned owned clean, clean]

theorem readOut_clean (s : State) (core : Nat) {x : CacheLine} (clean : x.err = []) : s.readOut core x = s := by
  cases owned : x.owned with
  | false => exact readOut_shared s core owned
  | true => exact readOut_owned s core owned clean

/-! ### Who holds a line (R289) -/

theorem dirEntry_of_dir {s t : State} (h : t.mem.dir = s.mem.dir) (l : Nat) : t.dirEntry l = s.dirEntry l := by
  unfold State.dirEntry
  rw [h]

/-- R289. The holders of a line are those that its home was given. -/
@[simp] theorem holders_setDir (s : State) (l : Nat) (owner : Option Nat) (sharers : List Nat) : (s.setDir l owner sharers).holders l = owner.toList ++ sharers := by
  unfold State.holders State.dirEntry State.setDir
  by_cases nobody : (owner.isNone && sharers.isEmpty) = true
  · obtain ⟨rfl, rfl⟩ : owner = none ∧ sharers = [] := by simpa using nobody
    simp
  · simp [nobody]

theorem not_mem_without (core : Nat) (owner : Option Nat) (sharers : List Nat) : core ∉ (owner.filter (· != core)).toList ++ sharers.filter (· != core) := by
  simp [Option.filter_eq_some_iff]

/-! ### Flushes of a line (R288) -/

/-- R290, R293. A line of which nothing is under way is settled. -/
theorem settled_idle {s : State} {l : Nat} (still : s.mem.flights = []) (kept : ∀ c, s.evictedEntry c l = none) : s.settled l = s := by
  unfold State.settled
  cases s.lineFuel with
  | zero => rfl
  | succ fuel => simp [State.settle, still, kept]

/-- R288. The state in which a line's data have been written back, where they are newer than memory's. -/
def writtenBack (s : State) (core l : Nat) (x : CacheLine) : State := if x.dirty then (s.writeBack l x.fn x.dom x.yield).add (LC_WB_CNT core) 1 else s

/-- R288, R289. A core is no longer recorded as holding a line that it has invalidated. -/
def forgotten (s : State) (core l : Nat) : State :=
  match s.dirEntry l with
  | none => s
  | some e => s.setDir l (e.owner.filter (· != core)) (e.sharers.filter (· != core))

theorem forgotten_holders (s : State) (core l : Nat) : core ∉ (forgotten s core l).holders l := by
  unfold forgotten
  split
  next unlisted => simp [State.holders, unlisted]
  next e _ =>
    rw [holders_setDir]
    exact not_mem_without core e.owner e.sharers

theorem forgotten_cached (s : State) (core l c m : Nat) : (forgotten s core l).cached c m = s.cached c m := by
  unfold forgotten
  split <;> rfl

/-- R288. A flush of a line without errors of which nothing is under way. -/
theorem flushLine_idle {s : State} {core l : Nat} {x : CacheLine} (idle : s.settled l = s) (holds : s.cached core l = some x) (clean : x.err = []) (inv : Bool) :
    s.flushLine core l inv = if inv then forgotten ((writtenBack s core l x).setCached core l none) core l
      else (writtenBack s core l x).setCached core l (some { x with dirty := false }) := by
  have kept : { x with dirty := false, err := if x.dirty then [] else x.err } = { x with dirty := false } := by
    cases x
    simp_all
  unfold State.flushLine
  dsimp only
  rw [idle, holds]
  dsimp only
  rw [readOut_clean s core clean, broken_of_clean clean, Bool.and_false, Bool.or_false, kept]
  rfl

end Sys2Proof.Proofs

/-!
The commands of a line cache and the clearing of the memory counts (R288, R298, R299).
-/

namespace Sys2Proof.Proofs

open Sys2Proof.Machine Sys2Proof.Laws Sys2Proof.Claims

/-! ### Fields of one bit -/

/-- A field keeps reading 1 or 0 when another takes a value. -/
theorem on_set_ne {f g : Field} (apart : g.key ≠ f.key) (s : State) (v : Nat) : (s.set f v).on g = s.on g := by
  unfold State.on
  rw [State.get_set_ne apart]

/-! ### Line-cache commands (R288, R299) -/

theorem lcBusy_apart (n : Nat) : (LC_STAT_BUSY n).key ≠ (LC_STAT_RESULT n).key := by
  simp only [Field.key, LC_STAT_BUSY, LC_STAT_RESULT]
  omega

theorem lcStart_refused {s : State} {n : Nat} (busy : s.on (LC_STAT_BUSY n) = true) (fn v : Nat) (inv : Bool) : s.lcStart fn n v inv = s.lcRefused fn n v := by
  unfold State.lcStart
  rw [if_pos busy]

/-- R288. A command that starts: BUSY, with the lines that are dirty now; no line changes. -/
theorem lcStart_starts {s : State} {n : Nat} (idle : s.on (LC_STAT_BUSY n) = false) (fn v : Nat) (inv : Bool) :
    (s.lcStart fn n v inv).on (LC_STAT_BUSY n) = true ∧
      Map.find (s.lcStart fn n v inv).mem.lcCmds n = some ⟨inv, ((s.cache n).lines.filter (·.dirty)).map (·.line)⟩ ∧
      (s.lcStart fn n v inv).mem.caches = s.mem.caches ∧ OnlyRegs [LC_STAT_BUSY n] s (s.lcStart fn n v inv) := by
  unfold State.lcStart
  rw [idle, if_neg Bool.false_ne_true]
  exact ⟨State.on_flag_self rfl _ true, Map.find_insert_self _ _ _, rfl, onlyRegs_flag (OnlyRegs.of_regs (.refl _ s) rfl) List.mem_cons_self true⟩

/-- R288. The work of a line-cache command that ends: the whole cache is flushed and emptied, or the lines that were dirty at its start are flushed. -/
def lcFlushed (s : State) (n : Nat) (c : LcCmd) : State :=
  if c.invalidate then s.flushInvAll n else c.lines.foldl (fun t l => t.flushLine n l false) s

theorem lcFlushed_stays (s : State) (n : Nat) (c : LcCmd) : EnginesStay s (lcFlushed s n c) :=
  .ite ((EnginesStay.refl s).flushInvAll n) ((EnginesStay.refl s).foldl fun _ l h => h.flushLine n l false)

/-- R288. What the end of a line-cache command shows. -/
def lcEnded (s : State) (n : Nat) : State := ((s.flag (LC_STAT_BUSY n) false).set (LC_STAT_RESULT n) Status.ok.code).raise (0x10A + 16 * n) 3

/-- R288. The state in which the command of a line cache is no longer in progress. -/
def lcTaken (s : State) (n : Nat) : State := { s with mem := { s.mem with lcCmds := Map.erase s.mem.lcCmds n } }

theorem lcEnded_shows (s : State) (n : Nat) : (lcEnded s n).on (LC_STAT_BUSY n) = false ∧ (lcEnded s n).get (LC_STAT_RESULT n) = 0 ∧
    (lcEnded s n).shows 0 (0x10A + 16 * n) 3 = true ∧ (lcEnded s n).mem = s.mem := by
  refine ⟨?_, ?_, State.raise_shows _ _ _, State.raise_mem _ _ _⟩
  · unfold lcEnded
    rw [State.raise_on, on_set_ne (lcBusy_apart n), State.on_flag_self rfl]
  · unfold lcEnded
    rw [State.raise_get, State.get_set_self]
    rfl

theorem exec_lcCmdDone {s : State} {n : Nat} {c : LcCmd} (awake : s.Awake (0x10A + 16 * n)) (runs : Map.find s.mem.lcCmds n = some c) :
    exec (.lcCmdDone n) s = .next (lcEnded (lcFlushed (lcTaken s n) n c) n) := by
  show execLcCmdDone n s = _
  unfold execLcCmdDone
  rw [event_awake awake]
  dsimp only
  rw [runs]
  rfl

/-- R288. A flushed line without errors is gone from the core and from its directory entry where the flush invalidates, and clean otherwise. -/
theorem flushLine_flushes {s : State} {core l : Nat} {x : CacheLine} (idle : s.settled l = s) (holds : s.cached core l = some x) (clean : x.err = []) :
    ((s.flushLine core l true).cached core l = none ∧ core ∉ (s.flushLine core l true).holders l) ∧
      (s.flushLine core l false).cached core l = some { x with dirty := false } := by
  have place : x.line = l := line_of_cached holds
  rw [flushLine_idle idle holds clean, flushLine_idle idle holds clean, if_pos rfl, if_neg Bool.false_ne_true]
  exact ⟨⟨(forgotten_cached _ _ _ _ _).trans (cached_setCached_none _ _ _), forgotten_holders _ _ _⟩, cached_setCached_some _ core place⟩

/-- Settles O21: a command starts by `lcStart_starts` or is refused; its end shows what `lcEnded_shows` says, and its flushes leave the commands in progress alone (`EnginesStay`). -/
theorem cacheCommandsAndCounts : Obligations.CacheCommandsAndCounts := by
  refine ⟨?storeCounts, ?cacheCounts, ?flush, ?flushRefused, ?flushInv, ?flushInvRefused, ?done, ?line⟩
  case storeCounts => exact fun fn n k s reach flows => command_runs reach flows _ _
  case cacheCounts => exact fun fn n s reach flows => command_runs reach flows _ _
  case flush => exact fun fn n s reach flows idle => .of_next (command_runs reach flows _ _) (lcStart_starts idle fn 1 false)
  case flushRefused => exact fun fn n s reach flows busy => (command_runs reach flows _ _).trans (congrArg _ (lcStart_refused busy fn 1 false))
  case flushInv => exact fun fn n s reach flows idle => .of_next (command_runs reach flows _ _) (lcStart_starts idle fn 2 true)
  case flushInvRefused => exact fun fn n s reach flows busy => (command_runs reach flows _ _).trans (congrArg _ (lcStart_refused busy fn 2 true))
  case done =>
    intro n c s awake _ runs
    obtain ⟨busy, result, shown, mem⟩ := lcEnded_shows (lcFlushed (lcTaken s n) n c) n
    refine .of_next (exec_lcCmdDone awake runs) ⟨busy, result, shown, ?_⟩
    rw [mem, (lcFlushed_stays (lcTaken s n) n c).lcCmds]
    exact Map.find_erase_self _ _
  case line => exact fun core l x s _ still _ kept holds clean => flushLine_flushes (settled_idle still kept) holds clean

end Sys2Proof.Proofs

/-!
Segments that become valid and that are cleared (R282 to R284, R308).
-/

namespace Sys2Proof.Proofs

open Sys2Proof.Machine Sys2Proof.Laws Sys2Proof.Claims

/-! ### The fields of a segment (R282 to R284) -/

theorem valid_base (f x : Nat) : (SEG_FBASE_VALID f x).key ≠ (SEG_FBASE f x).key := by
  simp only [Field.key, SEG_FBASE_VALID, SEG_FBASE]
  omega

theorem valid_result (f x : Nat) : (SEG_FBASE_VALID f x).key ≠ (SEG_STAT_RESULT f).key := by
  simp only [Field.key, SEG_FBASE_VALID, SEG_STAT_RESULT]
  omega

theorem base_result (f x : Nat) : (SEG_FBASE f x).key ≠ (SEG_STAT_RESULT f).key := by
  simp only [Field.key, SEG_FBASE, SEG_STAT_RESULT]
  omega

theorem valid_busy (f x : Nat) : (SEG_FBASE_VALID f x).key ≠ (SEG_STAT_BUSY f).key := by
  simp only [Field.key, SEG_FBASE_VALID, SEG_STAT_BUSY]
  omega

theorem base_busy (f x : Nat) : (SEG_FBASE f x).key ≠ (SEG_STAT_BUSY f).key := by
  simp only [Field.key, SEG_FBASE, SEG_STAT_BUSY]
  omega

/-! ### A segment becomes valid (R283, R308) -/

/-- R283. The PF's write that sets VALID is refused while a clear is in progress or the segment is valid, and where the segment does not fit or its domain does not allow it. -/
abbrev SegBarred (s : State) (f x v : Nat) : Prop :=
  s.on (SEG_STAT_BUSY f) = true ∨ s.on (SEG_FBASE_VALID f x) = true ∨ s.segFits f x (v % 2 ^ 19) = false ∨ s.segDomain f x = false

/-- R283. The state in which a segment has become valid. -/
def segValid (s : State) (f x v : Nat) : State := ((s.set (SEG_FBASE f x) v).flag (SEG_FBASE_VALID f x) true).set (SEG_STAT_RESULT f) Status.ok.code

theorem exec_segValidSet {s : State} {f : Nat} (on : s.pageOn (0x307 + f) = true) (x v : Nat) :
    exec (.segValidSet 0 f x v) s = .next (if SegBarred s f x v then s.segRefused 0 f x v else segValid s f x v) := by
  show execSegValidSet 0 f x v s = _
  unfold execSegValidSet
  rw [mmio_reaches (reaches_manager on), if_neg (not_not_intro rfl)]
  have said : (s.on (SEG_STAT_BUSY f) || s.on (SEG_FBASE_VALID f x) || !s.segFits f x (v % 2 ^ 19) || !s.segDomain f x) = true ↔ SegBarred s f x v := by
    simp only [Bool.or_eq_true, Bool.not_eq_true', or_assoc]
  by_cases barred : SegBarred s f x v
  · rw [if_pos barred, if_pos (said.mpr barred)]
  · rw [if_neg barred, if_neg fun h => barred (said.mp h)]
    rfl

theorem segValid_shows (s : State) (f x v : Nat) : (segValid s f x v).on (SEG_FBASE_VALID f x) = true ∧ (segValid s f x v).get (SEG_FBASE f x) = v % 2 ^ 19 ∧
    (segValid s f x v).get (SEG_STAT_RESULT f) = 0 ∧ OnlyRegs [SEG_FBASE f x, SEG_FBASE_VALID f x, SEG_STAT_RESULT f] s (segValid s f x v) ∧
    OnlyParts [.regs] s (segValid s f x v) := by
  refine ⟨?_, ?_, ?_, ?_, ((State.set_only _ _ _).trans (State.set_only _ _ _)).trans (State.set_only _ _ _)⟩
  · unfold segValid
    rw [on_set_ne (valid_result f x), State.on_flag_self rfl]
  · unfold segValid
    rw [State.get_set_ne (base_result f x), State.get_flag_ne (valid_base f x).symm, State.get_set_self]
    rfl
  · unfold segValid
    rw [State.get_set_self]
    rfl
  · exact (onlyRegs_flag (OnlyRegs.set (.refl _ s) (by simp) v) (by simp) true).set (by simp) _

/-- R283, R616. A refused segment write shows BAD_PARAM in RESULT and as the page's error. -/
theorem segRefused_shows {x : Nat} (h : x < 64) (s : State) (f v : Nat) : (s.segRefused 0 f x v).on (SEG_FBASE_VALID f x) = s.on (SEG_FBASE_VALID f x) ∧
    (s.segRefused 0 f x v).get (SEG_STAT_RESULT f) = Status.badParam.code ∧ ((s.segRefused 0 f x v).page (0x307 + f)).errCode = Status.badParam.code ∧
    OnlyRegs [SEG_STAT_RESULT f] s (s.segRefused 0 f x v) := by
  have page : (SEG_FBASE f x).addr / 4096 = 0x307 + f := by
    simp only [SEG_FBASE]
    omega
  have regs (g : Field) : (s.segRefused 0 f x v).get g = (s.set (SEG_STAT_RESULT f) Status.badParam.code).get g := rfl
  have only : OnlyRegs [SEG_STAT_RESULT f] s (s.set (SEG_STAT_RESULT f) Status.badParam.code) := OnlyRegs.set (.refl _ s) List.mem_cons_self _
  refine ⟨?_, ?_, ?_, only.of_regs rfl⟩
  · unfold State.on
    rw [regs, State.get_set_ne (valid_result f x)]
  · rw [regs, State.get_set_self]
    rfl
  have captured := State.captureFn_page_self (s.set (SEG_STAT_RESULT f) Status.badParam.code) 0 (0x307 + f) .badParam ((SEG_FBASE f x).addr % 4096) v
  rw [pageKey_manager] at captured
  unfold State.segRefused State.refuseWrite
  rw [page, captured]

/-! ### A segment is cleared (R284) -/

/-- R284. The registers once a valid segment is unmapped and its write-backs are under way. -/
def segUnmapped (s : State) (f x v : Nat) : State :=
  (((s.set (SEG_FBASE f x) v).set (SEG_STAT_RESULT f) Status.ok.code).flag (SEG_FBASE_VALID f x) false).flag (SEG_STAT_BUSY f) true

/-- R284. The state in which a valid segment is unmapped and its write-backs are under way. -/
def segClearing (s : State) (f x v : Nat) : State :=
  { segUnmapped s f x v with mem := { s.mem with segBusy := Map.insert s.mem.segBusy f [(s.get (SEG_PBASE f x), s.get (SEG_LEN f x))] } }

theorem exec_segValidClear {s : State} {f x : Nat} (on : s.pageOn (0x307 + f) = true) (idle : s.on (SEG_STAT_BUSY f) = false) (valid : s.on (SEG_FBASE_VALID f x) = true) (v : Nat) :
    exec (.segValidClear 0 f x v) s = .next (segClearing s f x v) := by
  show execSegValidClear 0 f x v s = _
  unfold execSegValidClear
  rw [mmio_reaches (reaches_manager on), if_neg (not_not_intro rfl), idle, if_neg Bool.false_ne_true, valid]
  rfl

theorem segClearing_shows (s : State) (f x v : Nat) : (segClearing s f x v).on (SEG_FBASE_VALID f x) = false ∧ (segClearing s f x v).get (SEG_FBASE f x) = v % 2 ^ 19 ∧
    (segClearing s f x v).on (SEG_STAT_BUSY f) = true ∧ Map.find (segClearing s f x v).mem.segBusy f = some [(s.get (SEG_PBASE f x), s.get (SEG_LEN f x))] ∧
    OnlyRegs [SEG_FBASE f x, SEG_FBASE_VALID f x, SEG_STAT_BUSY f, SEG_STAT_RESULT f] s (segClearing s f x v) := by
  have regs (g : Field) : (segClearing s f x v).get g = (segUnmapped s f x v).get g := State.get_of_regs (by rw [segClearing]) g
  have only : OnlyRegs [SEG_FBASE f x, SEG_FBASE_VALID f x, SEG_STAT_BUSY f, SEG_STAT_RESULT f] s (segUnmapped s f x v) :=
    onlyRegs_flag (onlyRegs_flag ((OnlyRegs.set (.refl _ s) (by simp) v).set (by simp) _) (by simp) false) (by simp) true
  refine ⟨?_, ?_, ?_, ?_, fun g other => (regs g).trans (only g other)⟩
  · unfold State.on
    rw [regs, segUnmapped, State.get_flag_ne (valid_busy f x), State.get_flag_self]
    rfl
  · rw [regs, segUnmapped, State.get_flag_ne (base_busy f x), State.get_flag_ne (valid_base f x).symm, State.get_set_ne (base_result f x), State.get_set_self]
    rfl
  · unfold State.on
    rw [regs, segUnmapped, State.get_flag_self]
    rfl
  · rw [segClearing, Map.find_insert_self]

/-- R284. The state in which the clear of a function is no longer in progress. -/
def segTaken (s : State) (f : Nat) : State := { s with mem := { s.mem with segBusy := Map.erase s.mem.segBusy f } }

/-- R284. The write-backs of a clear's ranges. -/
def segFlushed (s : State) (rs : List (Nat × Nat)) : State := rs.foldl (fun t r => t.flushRange r.1 r.2) s

/-- R284. What the end of a clear shows. -/
def segEnded (s : State) (f : Nat) : State := (s.flag (SEG_STAT_BUSY f) false).raise (0x307 + f) 0

theorem exec_segDone {s : State} {f : Nat} {rs : List (Nat × Nat)} (awake : s.Awake (0x307 + f)) (runs : Map.find s.mem.segBusy f = some rs) :
    exec (.segDone f) s = .next (segEnded (segFlushed (segTaken s f) rs) f) := by
  show execSegDone f s = _
  unfold execSegDone
  rw [event_awake awake]
  dsimp only
  rw [runs]
  rfl

theorem segFlushed_stays (s : State) (rs : List (Nat × Nat)) : EnginesStay s (segFlushed s rs) :=
  (EnginesStay.refl s).foldl fun _ r h => h.flushRange r.1 r.2

theorem segEnded_shows (s : State) (f : Nat) : (segEnded s f).on (SEG_STAT_BUSY f) = false ∧ (segEnded s f).mem = s.mem ∧ (segEnded s f).shows 0 (0x307 + f) 0 = true := by
  refine ⟨?_, State.raise_mem _ _ _, State.raise_shows _ _ _⟩
  unfold segEnded
  rw [State.raise_on, State.on_flag_self rfl]

/-! ### Writes of a VF (R282) -/

theorem exec_segValidSet_virtual {s : State} {fn f : Nat} (reach : s.Reaches fn (0x307 + f)) (virtual : fn ≠ 0) (x v : Nat) : exec (.segValidSet fn f x v) s = .next s := by
  show execSegValidSet fn f x v s = _
  unfold execSegValidSet
  rw [mmio_reaches reach, if_pos virtual]

theorem exec_segValidClear_virtual {s : State} {fn f : Nat} (reach : s.Reaches fn (0x307 + f)) (virtual : fn ≠ 0) (x v : Nat) : exec (.segValidClear fn f x v) s = .next s := by
  show execSegValidClear fn f x v s = _
  unfold execSegValidClear
  rw [mmio_reaches reach, if_pos virtual]

/-- Settles O22: the PF's write applies the segment (`segValid_shows`), is refused (`segRefused_shows`) or starts the clear (`segClearing_shows`); the write-backs at its end leave the
clears in progress alone (`EnginesStay`). -/
theorem segmentsBecomeValidAndClear : Obligations.SegmentsBecomeValidAndClear := by
  refine ⟨?applied, ?refused, ?cleared, ?ignored, ?done⟩
  case applied =>
    intro f x v s on _ _ idle unmapped fits allows
    have free : ¬ SegBarred s f x v := by simp only [SegBarred, idle, unmapped, fits, allows, Bool.false_eq_true, Bool.true_eq_false, or_self, not_false_eq_true]
    exact .of_next ((exec_segValidSet on x v).trans (congrArg _ (if_neg free))) (segValid_shows s f x v)
  case refused =>
    intro f x v s on _ inRange barred
    exact .of_next ((exec_segValidSet on x v).trans (congrArg _ (if_pos barred))) (segRefused_shows inRange s f v)
  case cleared =>
    intro f x v s on _ _ idle valid
    exact .of_next (exec_segValidClear on idle valid v) (segClearing_shows s f x v)
  case ignored =>
    intro fn f x v s reach virtual
    exact ⟨exec_segValidSet_virtual reach virtual x v, exec_segValidClear_virtual reach virtual x v⟩
  case done =>
    intro f rs s awake _ runs
    obtain ⟨busy, mem, shown⟩ := segEnded_shows (segFlushed (segTaken s f) rs) f
    refine .of_next (exec_segDone awake runs) ⟨busy, ?_, shown⟩
    rw [mem, (segFlushed_stays (segTaken s f) rs).segBusy]
    exact Map.find_erase_self _ _

end Sys2Proof.Proofs

/-!
Lines at their home, the agents that access them and the scrubber (R281, R282, R291, R302, R313, R314).
-/

namespace Sys2Proof.Proofs

open Sys2Proof.Machine Sys2Proof.Laws Sys2Proof.Claims

/-! ### A line at its home (R302, R313, R314) -/

/-- A field at another place of its page than the registers that tell which lines are absent. -/
abbrev OffPresence (g : Field) : Prop := g.lsb < 32 ∧ g.addr % 4096 ≠ 0x40 ∧ g.addr % 4096 ≠ 0x44

/-- R302. Counting elsewhere takes no line away. -/
theorem lineAbsent_add {g : Field} (place : OffPresence g) (s : State) (n l : Nat) : (s.add g n).lineAbsent l = s.lineAbsent l := by
  obtain ⟨low, offTrained, offFail⟩ := place
  have fail : (MS_PCH_FAIL (stackOf l)).key ≠ g.key := key_ne_of_addr (by simp [MS_PCH_FAIL]) low (by simp only [MS_PCH_FAIL]; omega)
  have trained : (MS_STAT_TRAINED (stackOf l)).key ≠ g.key := key_ne_of_addr (by simp [MS_STAT_TRAINED]) low (by simp only [MS_STAT_TRAINED]; omega)
  unfold State.lineAbsent State.on
  rw [State.get_add_ne fail, State.get_add_ne trained]

theorem offPresence_wrLines (t : Nat) : OffPresence (MS_WR_LINES t) := by
  simp only [OffPresence, MS_WR_LINES]
  omega

theorem lineAbsent_of_regs {s t : State} (h : t.regs = s.regs) (l : Nat) : t.lineAbsent l = s.lineAbsent l := by
  unfold State.lineAbsent State.on
  rw [State.get_of_regs h, State.get_of_regs h]

theorem stored_of_hbm {s t : State} (h : t.mem.hbm = s.mem.hbm) (l : Nat) : t.stored l = s.stored l := by
  unfold State.stored
  rw [h]

/-- R280, R314. The counts of a line write: the write itself, and the poison that it clears. -/
def writeCounted (s : State) (l : Nat) : State :=
  if (s.lineMeta l).code = .poison then (s.add (MS_WR_LINES (stackOf l)) 1).add POISON_CLR_CNT 1 else s.add (MS_WR_LINES (stackOf l)) 1

theorem writeCounted_mem (s : State) (l : Nat) : (writeCounted s l).mem = s.mem := by
  unfold writeCounted
  split <;> rfl

theorem writeCounted_absent (s : State) (l m : Nat) : (writeCounted s l).lineAbsent m = s.lineAbsent m := by
  have counted := lineAbsent_add (offPresence_wrLines (stackOf l)) s 1 m
  unfold writeCounted
  split
  · exact (lineAbsent_add (by decide) _ 1 m).trans counted
  · exact counted

/-- R314. A line of the unprotected domain that is there takes the bytes as they are. -/
theorem homeWrite_plain {s : State} {l : Nat} (present : s.lineAbsent l = false) (fn : Nat) (d : List Byte) :
    s.homeWrite fn 15 l d = (((writeCounted s l).setStored l d).setMeta l {}, .ok) := by
  unfold State.homeWrite
  rw [present, if_neg Bool.false_ne_true]
  rfl

@[simp] theorem lineMeta_setMeta_self (s : State) (l : Nat) (m : LineMeta) : (s.setMeta l m).lineMeta l = m := Map.get_put_self _ _ _ _

theorem stored_setStored_self (s : State) (l : Nat) {d : List Byte} (whole : d.length = 128) : (s.setStored l d).stored l = d := by
  unfold State.stored State.setStored
  rw [← whole]
  exact readBytes_writeBytes _ _ _

/-- A line written whole leaves the bytes of the others. -/
theorem stored_setStored_other {l m : Nat} (other : m ≠ l) (s : State) {d : List Byte} (whole : d.length = 128) : (s.setStored l d).stored m = s.stored m := by
  unfold State.stored State.setStored readBytes
  refine List.map_congr_left fun i inLine => ?_
  rw [List.mem_range] at inLine
  exact get_writeBytes_outside d s.mem.hbm (l * 128) (by omega)

theorem stored_setMeta (s : State) (l : Nat) (x : LineMeta) (m : Nat) : (s.setMeta l x).stored m = s.stored m := rfl

/-- R314. What is stored after a write of a whole line of the unprotected domain. -/
theorem homeWrite_stored {s : State} {l : Nat} {d : List Byte} (present : s.lineAbsent l = false) (whole : d.length = 128) (fn : Nat) :
    (s.homeWrite fn 15 l d).1.stored l = d ∧ ∀ m, m ≠ l → (s.homeWrite fn 15 l d).1.stored m = s.stored m := by
  rw [homeWrite_plain present]
  refine ⟨(stored_setMeta _ _ _ _).trans (stored_setStored_self _ l whole), fun m other => ?_⟩
  rw [stored_setMeta, stored_setStored_other other _ whole, stored_of_hbm (congrArg Memory.hbm (writeCounted_mem s l))]

/-- R313. A line of the unprotected domain that is there, with good code, reads as stored. -/
theorem homeRead_plain {s : State} {l : Nat} (present : s.lineAbsent l = false) (good : (s.lineMeta l).code = .good) (agent fn core : Nat) :
    (s.homeRead agent fn core 15 l).2 = (.ok, s.stored l) := by
  have code : ((s.add (MS_RD_LINES (stackOf l)) 1).lineMeta l).code = .good := good
  unfold State.homeRead
  rw [present, if_neg Bool.false_ne_true]
  simp only [code]
  rfl

/-- R313, R314. A whole line of the unprotected domain reads back. -/
theorem homeRead_homeWrite {s : State} {l : Nat} {d : List Byte} (present : s.lineAbsent l = false) (whole : d.length = 128) (fn : Nat) :
    ((s.homeWrite fn 15 l d).1.homeRead 0 fn 0 15 l).2 = (.ok, d) := by
  have absent : (s.homeWrite fn 15 l d).1.lineAbsent l = false := by
    rw [homeWrite_plain present]
    rw [lineAbsent_of_regs (s := writeCounted s l) (by rfl), writeCounted_absent, present]
  have good : ((s.homeWrite fn 15 l d).1.lineMeta l).code = .good := by
    rw [homeWrite_plain present]
    rw [lineMeta_setMeta_self]
  rw [homeRead_plain absent good, (homeWrite_stored present whole fn).1]

/-! ### The agents' accesses (R282, R291) -/

theorem behind_nothing {s : State} (free : s.held = []) (block : Nat) : s.behind block = false := by
  unfold State.behind
  rw [free]
  rfl

theorem exec_homeAgentRead {s : State} {fn addr pa dom : Nat} (maps : s.translate fn addr 1 false = some (pa, dom)) (powered : s.domOn 3 = true)
    (unquiesced : s.memQuiet fn pa 1 = false) (free : s.held = []) (agent core : Nat) :
    exec (.homeAgentRead agent fn core addr) s = .next (s.agentRead agent fn core dom (pa / 128)).1 := by
  show execHomeAgentRead agent fn core addr s = _
  unfold execHomeAgentRead
  rw [maps]
  simp only [powered, unquiesced, behind_nothing free, Bool.not_true, Bool.or_self, Bool.false_eq_true, if_false]

theorem exec_homeAgentWrite {s : State} {fn addr pa dom : Nat} {bytes : List Byte} (maps : s.translate fn addr bytes.length true = some (pa, dom)) (powered : s.domOn 3 = true)
    (unquiesced : s.memQuiet fn pa bytes.length = false) (free : s.held = []) (nonempty : bytes ≠ []) (within : pa % 128 + bytes.length ≤ 128) (agent core : Nat) :
    exec (.homeAgentWrite agent fn core addr bytes) s = .next (s.agentWrite agent fn core dom (pa / 128) (pa % 128) bytes).1 := by
  have inLine : ¬ 128 < pa % 128 + bytes.length := by omega
  have full : bytes.isEmpty = false := by simpa using nonempty
  show execHomeAgentWrite agent fn core addr bytes s = _
  unfold execHomeAgentWrite
  rw [maps]
  simp only [powered, full, inLine, unquiesced, behind_nothing free, Bool.not_true, Bool.or_self, Bool.false_eq_true, decide_false, if_false]

/-! ### The scrubber (R281) -/

/-- R281. The scrubber has visited a line, and the other line of its granule, or the next granule, is next. -/
def scrubbed (s : State) (l : Nat) (half : Bool) : State := { s.scrubLine l with mem := { (s.scrubLine l).mem with scrubHalf := half } }

/-- R281. The granule whose second line has been visited is done: the next one, or the first one of a new pass. -/
def granuleDone (s : State) (g : Nat) : State :=
  if g + 1 < 603979776 then s.set SCRUB_POS (g + 1) else (s.set SCRUB_POS 0).raise 0x300 2

theorem exec_scrubStep {s : State} (awake : s.Awake 0x300) (enabled : s.on SCRUB_CTRL_EN = true) (unquiesced : s.quiet 0x300 = false)
    (stack : s.quiet (0x301 + stackOf (2 * s.get SCRUB_POS + b2n s.mem.scrubHalf)) = false) :
    exec .scrubStep s = .next (if s.mem.scrubHalf then granuleDone (scrubbed s (2 * s.get SCRUB_POS + b2n s.mem.scrubHalf) false) (s.get SCRUB_POS)
      else scrubbed s (2 * s.get SCRUB_POS + b2n s.mem.scrubHalf) true) := by
  show execScrubStep s = _
  unfold execScrubStep
  rw [event_awake awake]
  simp only [enabled, unquiesced, stack, Bool.not_true, Bool.or_self, Bool.false_eq_true, if_false]
  cases s.mem.scrubHalf with
  | false => rfl
  | true =>
    unfold granuleDone
    simp only [Bool.not_true, Bool.false_eq_true, if_false, if_true]
    split <;> rfl

theorem granuleDone_shows (s : State) (g : Nat) : (granuleDone s g).mem = s.mem ∧ (g + 1 < 603979776 → (granuleDone s g).get SCRUB_POS = g + 1) ∧
    (603979776 ≤ g + 1 → (granuleDone s g).get SCRUB_POS = 0 ∧ (granuleDone s g).shows 0 0x300 2 = true) := by
  unfold granuleDone
  split
  next before =>
    refine ⟨rfl, fun _ => ?_, fun past => absurd before (by omega)⟩
    rw [State.get_set_self]
    exact Nat.mod_eq_of_lt (Nat.lt_trans before (by decide))
  next past =>
    refine ⟨State.raise_mem _ _ _, fun before => absurd before past, fun _ => ⟨?_, State.raise_shows _ _ _⟩⟩
    rw [State.raise_get, State.get_set_self]
    rfl

/-- Settles O24: what an agent's access does is the home's; a whole line reads back by `homeRead_homeWrite`; the scrubber visits a line and, after the second of a granule, goes on to the next
(`granuleDone_shows`). -/
theorem homeAgentsAndScrubber : Obligations.HomeAgentsAndScrubber := by
  refine ⟨?read, ?write, ?readBack, ?firstLine, ?secondLine⟩
  case read => exact fun agent fn core addr pa dom s maps powered unquiesced free => exec_homeAgentRead maps powered unquiesced free agent core
  case write => exact fun agent fn core addr pa dom bytes s maps powered unquiesced free nonempty within => exec_homeAgentWrite maps powered unquiesced free nonempty within agent core
  case readBack =>
    intro fn l d s present whole
    have status : (s.homeWrite fn 15 l d).2 = .ok := congrArg Prod.snd (homeWrite_plain present fn d)
    obtain ⟨here, others⟩ := homeWrite_stored present whole fn
    exact ⟨status, here, others, homeRead_homeWrite present whole fn⟩
  case firstLine =>
    intro s awake enabled unquiesced stack first
    rw [exec_scrubStep awake enabled unquiesced (by rw [first]; exact stack), first]
    rfl
  case secondLine =>
    intro s awake enabled unquiesced stack second
    obtain ⟨mem, next, pass⟩ := granuleDone_shows (scrubbed s (2 * s.get SCRUB_POS + 1) false) (s.get SCRUB_POS)
    refine .of_next (t := granuleDone (scrubbed s (2 * s.get SCRUB_POS + 1) false) (s.get SCRUB_POS)) ?_ ⟨congrArg Memory.scrubHalf mem, next, pass⟩
    rw [exec_scrubStep awake enabled unquiesced (by rw [second]; exact stack), second]
    rfl

end Sys2Proof.Proofs

/-!
What a transaction of a line leaves of it (R287 to R295): every core's copy and every message on its way, though its home may take back other lines to make room in a directory set (R292).
-/

namespace Sys2Proof.Proofs

open Sys2Proof.Machine Sys2Proof.Laws Sys2Proof.Claims

/-- R289, R292. Every core's copy of a line is as it was, and no message about the line is lost. -/
structure LineStays (l : Nat) (s t : State) : Prop where
  copies : ∀ core, t.cached core l = s.cached core l
  messages : ∀ m ∈ s.mem.flights, m.line = l → m ∈ t.mem.flights

namespace LineStays

section

variable {l : Nat} {s t u : State}

theorem refl (l : Nat) (s : State) : LineStays l s s := ⟨fun _ => rfl, fun _ h _ => h⟩

theorem trans (h : LineStays l s t) (h' : LineStays l t u) : LineStays l s u :=
  ⟨fun core => (h'.copies core).trans (h.copies core), fun m under about => h'.messages m (h.messages m under about) about⟩

theorem upd (h : LineStays l s t) (caches : u.mem.caches = t.mem.caches) (flights : u.mem.flights = t.mem.flights) : LineStays l s u :=
  h.trans ⟨fun core => cached_of_caches caches core l, fun _ under _ => flights ▸ under⟩

theorem home (h : LineStays l s t) (only : HomeOnly t u) : LineStays l s u := h.upd only.caches only.flights

theorem ite {c : Prop} [Decidable c] (h : LineStays l s t) (h' : LineStays l s u) : LineStays l s (if c then t else u) := by
  split
  · exact h
  · exact h'

theorem foldl {γ : Type} {g : State → γ → State} {xs : List γ} (h : LineStays l s t) (each : ∀ u x, LineStays l s u → LineStays l s (g u x)) : LineStays l s (xs.foldl g t) := by
  induction xs generalizing t with
  | nil => exact h
  | cons x xs ih => exact ih (each t x h)

theorem add (h : LineStays l s t) (f : Field) (n : Nat) : LineStays l s (t.add f n) := h.upd rfl rfl

theorem crossing (h : LineStays l s t) (core : Nat) : LineStays l s (t.crossing core) := (h.add DIR_XEVICT_CNT 1).add (LC_XEVICT_CNT core) 1

theorem withTxns (h : LineStays l s t) (xs : List Txn) : LineStays l s { t with mem := { t.mem with txns := xs } } := h.upd rfl rfl

theorem setTxn (h : LineStays l s t) (m : Nat) (v : Option Txn) : LineStays l s (t.setTxn m v) := h.upd rfl rfl

theorem setDir (h : LineStays l s t) (m : Nat) (owner : Option Nat) (sharers : List Nat) : LineStays l s (t.setDir m owner sharers) := h.upd rfl rfl

theorem send (h : LineStays l s t) (m : Flight) : LineStays l s (t.send m) := h.trans ⟨fun _ => rfl, fun _ under _ => List.mem_append_left [m] under⟩

theorem setEvicted (h : LineStays l s t) (core m : Nat) (v : Option Evicted) : LineStays l s (t.setEvicted core m v) :=
  h.trans ⟨fun c => cached_setEvicted t core m v c l, fun _ under _ => under⟩

theorem readOut (h : LineStays l s t) (core : Nat) (x : CacheLine) : LineStays l s (t.readOut core x) :=
  h.upd (congrArg Memory.caches (readOut_mem t core x)) (congrArg Memory.flights (readOut_mem t core x))

theorem homeRead (h : LineStays l s t) (agent fn core dom m : Nat) : LineStays l s (t.homeRead agent fn core dom m).1 := h.home (.homeRead (.refl t) _ _ _ _ _)

theorem homeReadForMerge (h : LineStays l s t) (agent fn core dom m : Nat) : LineStays l s (t.homeReadForMerge agent fn core dom m).1 := h.home (.homeReadForMerge (.refl t) _ _ _ _ _)

theorem homeWrite (h : LineStays l s t) (fn dom m : Nat) (d : List Byte) : LineStays l s (t.homeWrite fn dom m d).1 := h.home (.homeWrite (.refl t) _ _ _ _)

theorem writeBack (h : LineStays l s t) (m fn dom : Nat) (y : Yield) : LineStays l s (t.writeBack m fn dom y) := h.home (.writeBack (.refl t) _ _ _ _)

theorem takeEvicted (h : LineStays l s t) (core o : Nat) : LineStays l s (t.takeEvicted core o) := by
  unfold State.takeEvicted
  split
  · exact h
  · exact .ite h ((((h.setEvicted core o none).writeBack _ _ _ _).add _ _).crossing core)

/-! ### Another line is taken back (R292) -/

section

variable {o : Nat} (other : l ≠ o)

include other

theorem giveUp (h : LineStays l s t) (core : Nat) : LineStays l s (t.setCached core o none) := h.trans ⟨fun c => cached_setCached_other other t core c, fun _ under _ => under⟩

theorem takeFill (h : LineStays l s t) (core : Nat) : LineStays l s (t.takeFill core o) := by
  unfold State.takeFill
  split
  · exact h
  next m found =>
    have about : m.line = o := by
      have := List.find?_some found
      simp only [Bool.and_eq_true, beq_iff_eq] at this
      exact this.1.2
    have dropped : LineStays l s { t with mem := { t.mem with flights := t.mem.flights.erase m } } :=
      h.trans ⟨fun _ => rfl, fun n under here => (List.mem_erase_of_ne fun same => other (here.symm.trans ((congrArg Flight.line same).trans about))).mpr under⟩
    exact .ite dropped ((giveUp other dropped core).writeBack _ _ _ _)

theorem takeCached (h : LineStays l s t) (core : Nat) : LineStays l s (t.takeCached core o) := by
  unfold State.takeCached
  split
  · exact h
  · exact (giveUp other (h.readOut core _) core).writeBack _ _ _ _

theorem takeBack (h : LineStays l s t) (core : Nat) : LineStays l s (t.takeBack core o) :=
  (takeCached other (takeFill other (h.add (LC_SNOOP_CNT core) 1) core) core).takeEvicted core o

end

theorem backInvalidate (h : LineStays l s t) {e : DirEntry} (other : l ≠ e.line) : LineStays l s (t.backInvalidate e) :=
  ((h.foldl fun _ c hu => takeBack other hu c).setDir e.line none []).add DIR_BINV_CNT 1

/-- R292. Room for a line in its directory set is made by evicting another line. -/
theorem dirRoom (h : LineStays l s t) : LineStays l s (t.dirRoom l) := by
  unfold State.dirRoom
  refine .ite h (.ite h ?_)
  split
  · exact h
  next e last =>
    have candidate := (List.mem_filter.mp (List.mem_filter.mp (List.mem_of_getLast? last)).1).2
    simp only [Bool.and_eq_true, bne_iff_ne] at candidate
    exact h.backInvalidate candidate.2.symm

theorem installDir (h : LineStays l s t) (owner : Option Nat) (sharers : List Nat) : LineStays l s (t.installDir l owner sharers) :=
  (LineStays.ite h h.dirRoom).setDir l owner sharers

end

/-! ### Transactions of the line (R287 to R295) -/

section

variable {s t : State}

theorem finishTxn {x : Txn} (h : LineStays x.line s t) : LineStays x.line s (t.finishTxn x) := by
  have freed := h.setTxn x.line none
  unfold State.finishTxn
  refine foldl ?_ fun u c hu => hu.send _
  dsimp only
  split
  · split
    · exact ((freed.homeWrite _ _ _ _).send _).installDir _ _
    · have read := freed.homeRead 0 x.fn x.core x.dom x.line
      exact .ite ((read.send _).installDir _ _) ((read.send _).setDir _ _ _)
  · refine (send ?_ _).installDir _ _
    split
    · exact freed.homeWrite _ _ _ _
    · exact freed
  · exact (freed.send _).installDir _ _
  · split
    · exact (freed.send _).installDir _ _
    · have read := freed.homeReadForMerge 0 x.fn x.core x.dom x.line
      exact .ite ((read.send _).installDir _ _) ((read.send _).setDir _ _ _)

end

end LineStays

end Sys2Proof.Proofs

/-!
Transactions as they begin (R287, R290, R291, R295), and requests that find their line free.
-/

namespace Sys2Proof.Proofs

open Sys2Proof.Machine Sys2Proof.Laws Sys2Proof.Claims

/-! ### A transaction begins (R290, R291, R295) -/

/-- R290, R295. The form in which a transaction begins: an UPG whose line was invalidated first as an RD_M, with the cores to snoop. -/
def begunTxn (s : State) (t : Txn) : Txn :=
  let t := if t.req = .upg ∧ !(s.holders t.line).contains t.core then { t with req := .rdM } else t
  { t with begun := true, waiting := (if t.req = .rdS then (s.owner t.line).toList else s.holders t.line).filter (· != t.core) }

theorem begunTxn_line (s : State) (t : Txn) : (begunTxn s t).line = t.line := by
  unfold begunTxn
  dsimp only
  split <;> rfl

/-- R291. An RD_S has its home snoop the line's owner alone. -/
theorem begunTxn_rdS (s : State) {t : Txn} (shared : t.req = .rdS) :
    begunTxn s t = { t with begun := true, waiting := (s.owner t.line).toList.filter (· != t.core) } := by
  have plain : ¬ (t.req = .upg ∧ !(s.holders t.line).contains t.core) := by simp [shared]
  unfold begunTxn
  rw [if_neg plain]
  dsimp only
  rw [if_pos shared]

/-- A transaction joins those at the homes. -/
def joined (s : State) (b : Txn) : State := { s with mem := { s.mem with txns := s.mem.txns ++ [b] } }

/-- R291. The snoops of a transaction set out. -/
def snooped (s : State) (b : Txn) : State :=
  b.waiting.foldl (fun u c => u.send { msg := if b.req = .rdS then .snpShr else .snpInv, line := b.line, core := c }) s

theorem beginTxn_eq (s : State) (t : Txn) : s.beginTxn t =
    if (begunTxn s t).waiting.isEmpty then (joined s (begunTxn s t)).finishTxn (begunTxn s t) else snooped (joined s (begunTxn s t)) (begunTxn s t) := rfl

theorem LineStays.beginTxn {s u : State} {t : Txn} (h : LineStays t.line s u) : LineStays t.line s (u.beginTxn t) := by
  have began : LineStays t.line s (joined u (begunTxn u t)) := h.withTxns _
  rw [beginTxn_eq]
  refine .ite ?_ (began.foldl fun v c hv => hv.send _)
  rw [← begunTxn_line u t] at began ⊢
  exact began.finishTxn

theorem LineStays.nextTxn {l : Nat} {s u : State} (h : LineStays l s u) (fuel : Nat) : LineStays l s (u.nextTxn l fuel) := by
  induction fuel generalizing u with
  | zero => exact h
  | succ fuel ih =>
    unfold State.nextTxn
    refine .ite h ?_
    split
    · exact h
    next t found =>
      have about : t.line = l := by simpa using List.find?_some found
      subst about
      exact ih (h.withTxns _).beginTxn

/-! ### A request that finds its line free (R287, R290, R291) -/

theorem flights_free {s : State} {l : Nat} (free : s.lineBusy l = false) : s.mem.flights.any (fun m => m.line == l && m.isFill) = false := by
  unfold State.lineBusy at free
  simp only [Bool.or_eq_false_iff] at free
  exact free.2

/-- R290. A request begins at once where no transaction waits and none of its line is in progress. -/
theorem request_alone {s : State} {t : Txn} (idle : s.mem.txns = []) (free : s.lineBusy t.line = false) (new : t.begun = false) : s.request t = s.beginTxn t := by
  have quiet : ({ s with mem := { s.mem with txns := [t] } } : State).lineBusy t.line = false := by
    unfold State.lineBusy State.txn
    simp [new, flights_free free]
  have back : ({ s with mem := { s.mem with txns := [] } } : State) = s := by
    rw [← idle]
  unfold State.request
  rw [idle]
  simp only [List.nil_append, List.length_nil, State.nextTxn, quiet, Bool.false_eq_true, if_false, List.find?_cons, beq_self_eq_true,
    List.eraseP_cons, cond_true, back]

/-- R287. The reply to an RD_S with what its home has read. -/
def sharedReply (t : Txn) (read : State × Status × List Byte) : Flight :=
  { msg := .dataS, line := t.line, core := t.core, dom := t.dom, fn := t.fn, data := read.2.2, status := read.2.1, off := t.off, bytes := t.bytes, dropped := t.dropped }

/-- R287. An RD_S that finds no data at another core is answered with what the home reads, and the answer is not lost while the home records the sharer. -/
theorem finishTxn_reads {t : Txn} (shared : t.req = .rdS) (unheld : t.data = none) (s : State) :
    sharedReply t ((s.setTxn t.line none).homeRead 0 t.fn t.core t.dom t.line) ∈ (s.finishTxn t).mem.flights := by
  have replied : LineStays t.line (((s.setTxn t.line none).homeRead 0 t.fn t.core t.dom t.line).1.send (sharedReply t ((s.setTxn t.line none).homeRead 0 t.fn t.core t.dom t.line)))
      (s.finishTxn t) := by
    have plain : ¬ (t.req = .upg ∧ t.crossed) := by simp [shared]
    unfold State.finishTxn
    refine LineStays.foldl ?_ fun u c hu => hu.send _
    dsimp only
    rw [if_neg plain]
    simp only [shared, unheld]
    exact .ite ((LineStays.refl _ _).installDir _ _) ((LineStays.refl _ _).setDir _ _ _)
  exact replied.messages _ (List.mem_append_right _ List.mem_cons_self) rfl

theorem joined_setTxn {s : State} (idle : s.mem.txns = []) {b : Txn} (begun : b.begun = true) : (joined s b).setTxn b.line none = s := by
  unfold joined State.setTxn
  simp only [idle, List.nil_append, List.flatMap_cons, List.flatMap_nil, beq_self_eq_true, begun, Bool.and_self, if_true, Option.toList_none, List.append_nil]
  rw [← idle]

/-- R287, R291. An RD_S of a line that no core owns is answered at once with what the home reads. -/
theorem request_unowned {s : State} {t : Txn} (idle : s.mem.txns = []) (free : s.lineBusy t.line = false) (new : t.begun = false) (shared : t.req = .rdS) (unheld : t.data = none)
    (unowned : s.owner t.line = none) : ∃ m ∈ (s.request t).mem.flights, m.msg = .dataS ∧ m.core = t.core ∧ m.line = t.line ∧
      m.status = (s.homeRead 0 t.fn t.core t.dom t.line).2.1 ∧ m.data = (s.homeRead 0 t.fn t.core t.dom t.line).2.2 := by
  have began : begunTxn s t = { t with begun := true, waiting := [] } := by rw [begunTxn_rdS s shared, unowned]; rfl
  have reads := finishTxn_reads (t := { t with begun := true, waiting := [] }) shared unheld (joined s { t with begun := true, waiting := [] })
  rw [joined_setTxn idle rfl] at reads
  rw [request_alone idle free new, beginTxn_eq, began]
  exact ⟨_, reads, rfl, rfl, rfl, rfl, rfl⟩

/-- R291. An RD_S of a line that another core owns has its home snoop that core, and waits for it. -/
theorem request_owned {s : State} {t : Txn} {o : Nat} (idle : s.mem.txns = []) (free : s.lineBusy t.line = false) (new : t.begun = false) (shared : t.req = .rdS)
    (owned : s.owner t.line = some o) (other : o ≠ t.core) :
    s.request t = (joined s { t with begun := true, waiting := [o] }).send { msg := .snpShr, line := t.line, core := o } := by
  have began : begunTxn s t = { t with begun := true, waiting := [o] } := by
    rw [begunTxn_rdS s shared, owned]
    simp [other]
  rw [request_alone idle free new, beginTxn_eq, began]
  simp only [snooped, shared, List.isEmpty_cons, Bool.false_eq_true, if_false, if_true, List.foldl_cons, List.foldl_nil]

theorem owner_unheld {s : State} {l : Nat} (unheld : s.holders l = []) : s.owner l = none := by
  unfold State.holders at unheld
  unfold State.owner
  cases entry : s.dirEntry l with
  | none => rfl
  | some e =>
    rw [entry] at unheld
    obtain ⟨unowned, -⟩ := List.append_eq_nil_iff.mp unheld
    simpa using unowned

end Sys2Proof.Proofs

/-!
The messages of the protocol as they arrive (R275, R282, R286, R287, R289, R291, R293): what a core takes, gives up or answers, and how a request sets out.
-/

namespace Sys2Proof.Proofs

open Sys2Proof.Machine Sys2Proof.Laws Sys2Proof.Claims

/-! ### A core takes a line (R275, R287, R289) -/

/-- R286. An installed line stands in a way of its set: a full set gives one up. -/
theorem install_cached (s : State) (core : Nat) (x : CacheLine) : ∃ w, (s.install core x).cached core x.line = some { x with way := w } := by
  have placed (u : State) (w : Nat) : (u.setCached core x.line (some { x with way := w })).cached core x.line = some { x with way := w } :=
    cached_setCached_some u core (x := { x with way := w }) rfl
  unfold State.install
  dsimp only
  split
  · exact ⟨_, placed _ _⟩
  · exact ⟨_, placed _ _⟩
  next full empty =>
    have first := List.find?_eq_none.mp full 0 (by decide)
    rw [List.getLast?_eq_none_iff.mp empty] at first
    exact absurd rfl first

/-- R275. A line without errors takes the bytes written as they are. -/
theorem written_data {x : CacheLine} (clean : x.err = []) (off : Nat) (bs : List Byte) : (x.written off bs).data = patch x.data off bs := by
  simp [CacheLine.written, CacheLine.stuck, clean]

/-- R289. What a core holds once data have arrived: the data with its step's bytes in them, owned where the message gives ownership, clean where it does not. -/
theorem filled_of_data (s : State) {m : Flight} (data : m.msg ≠ .grant) : (s.filled m).owned = (m.msg != .dataS) ∧ (m.msg = .dataS → (s.filled m).dirty = false) ∧
    (s.filled m).dom = m.dom ∧ (s.filled m).fn = m.fn ∧ (s.filled m).data = patch m.data m.off m.bytes := by
  unfold State.filled
  simp only [if_neg data]
  exact ⟨rfl, fun shared => by simp [CacheLine.written, shared], rfl, rfl, written_data rfl _ _⟩

/-- R289. A fill that is not refused leaves its core with the line, in some way; the next transaction of the line, which then begins, takes it from no core. -/
theorem deliver_fill {s : State} {m : Flight} (fill : m.isFill = true) (served : m.status = .ok) (kept : m.dropped = false) :
    ∃ w, (s.deliver m).cached m.core m.line = some { s.filled m with way := w } := by
  have taken : ∃ w, (s.coreFill m).cached m.core m.line = some { s.filled m with way := w } := by
    unfold State.coreFill
    rw [if_neg (not_not_intro served), kept, if_neg Bool.false_ne_true]
    exact install_cached _ m.core (s.filled m)
  obtain ⟨w, holds⟩ := taken
  unfold State.deliver
  rw [if_pos fill]
  exact ⟨w, (((LineStays.refl m.line (s.coreFill m)).nextTxn _).copies m.core).trans holds⟩

/-! ### A core answers a snoop (R289, R291) -/

/-- R289, R291. A snooped owner returns its data, and gives the line up or shares it. -/
theorem deliver_snoop {s : State} {m : Flight} {x : CacheLine} (snoop : m.msg = .snpInv ∨ m.msg = .snpShr) (holds : s.cached m.core m.line = some x) (owned : x.owned = true)
    (clean : x.err = []) : s.deliver m =
      ((s.add (LC_SNOOP_CNT m.core) 1).setCached m.core m.line (if m.msg = .snpShr then some { x with owned := false, dirty := false } else none)).send
        { msg := .data, line := m.line, core := m.core, data := x.data } := by
  have other : s.deliver m = s.coreSnoop m := by
    unfold State.deliver State.deliverOther Flight.isFill
    rcases snoop with inv | shr
    · simp [inv]
    · simp [shr]
  have shared : { x with owned := false, dirty := false, err := [] } = { x with owned := false, dirty := false } := by rw [← clean]
  have counted : (s.add (LC_SNOOP_CNT m.core) 1).cached m.core m.line = some x := holds
  rw [other]
  unfold State.coreSnoop
  simp only [counted, yield_owned owned clean, readOut_owned _ m.core owned clean, broken_of_clean clean, Bool.not_false, and_true, shared]

theorem deliver_evictAck {s : State} {m : Flight} (ack : m.msg = .evictAck) : s.deliver m = s.setEvicted m.core m.line none := by
  unfold State.deliver State.deliverOther Flight.isFill
  simp [ack]

/-! ### Messages arrive (R48, R289, R293) -/

/-- The state in which a message is no longer on its way. -/
def arrived (s : State) (m : Flight) : State := { s with mem := { s.mem with flights := s.mem.flights.erase m } }

theorem arrive_first {s : State} {k : Msg} {core l : Nat} {m : Flight} (first : s.mem.flights.find? (fun m => m.msg == k && m.core == core && m.line == l) = some m) :
    s.arrive k core l = (arrived s m).deliver m := by
  unfold State.arrive
  rw [first]
  rfl

theorem arrivesAtCore_flowing {s : State} {k : Msg} {core l : Nat} {m : Flight} (flows : s.Flowing)
    (first : s.mem.flights.find? (fun m => m.msg == k && m.core == core && m.line == l) = some m) (c : Instr) : arrivesAtCore k c core l s = .next ((arrived s m).deliver m) := by
  unfold arrivesAtCore
  rw [flows.1, Bool.false_and, if_neg Bool.false_ne_true, arrive_first first]

theorem fillsCore_flowing {s : State} {k : Msg} {core l : Nat} {m : Flight} (flows : s.Flowing) (room : (s.needsVictim core l && s.bufferFull core) = false)
    (first : s.mem.flights.find? (fun m => m.msg == k && m.core == core && m.line == l) = some m) (c : Instr) : fillsCore k c core l s = .next ((arrived s m).deliver m) := by
  unfold fillsCore
  rw [room, if_neg Bool.false_ne_true, arrivesAtCore_flowing flows first]

theorem reply_awake {s : State} {k : Msg} {core l : Nat} {m : Flight} (awake : s.Awake 0x300)
    (first : s.mem.flights.find? (fun m => m.msg == k && m.core == core && m.line == l) = some m) :
    event 0x300 s (fun s => .next (s.arrive k core l)) = .next ((arrived s m).deliver m) := by
  rw [event_awake awake, arrive_first first]

/-! ### Requests (R282, R286, R287) -/

/-- R286, R287. A request that nothing holds back is counted, a hit for an UPG and a miss for any other, and arrives at the home. -/
theorem requestFrom_arrives {s : State} {core addr pa dom : Nat} {req : Req} {bytes : List Byte} {write : Bool}
    (maps : s.translate (s.coreHolder core) addr (max 1 bytes.length) write = some (pa, dom)) (kind : (!bytes.isEmpty || req != .rdS) = write) (powered : s.domOn 3 = true)
    (within : pa % 128 + bytes.length ≤ 128) (goes : s.requestWaits core (s.coreHolder core) pa = false) (c : Instr) :
    s.requestFrom c req core addr bytes = .next ((s.add (if req = .upg then LC_HIT_CNT core else LC_MISS_CNT core) 1).request
      { req := req, core := core, line := pa / 128, fn := s.coreHolder core, dom := dom, off := pa % 128, bytes := bytes }) := by
  have inLine : ¬ 128 < pa % 128 + bytes.length := by omega
  unfold State.requestFrom
  dsimp only
  rw [kind, maps]
  simp only [powered, inLine, goes, Bool.not_true, decide_false, Bool.or_self, Bool.false_eq_true, if_false]

end Sys2Proof.Proofs

/-!
Evictions (R289, R293, R294, R314): the core drops the line, the home takes what it brings and acknowledges.
-/

namespace Sys2Proof.Proofs

open Sys2Proof.Machine Sys2Proof.Laws Sys2Proof.Claims

/-! ### Evictions (R293, R294) -/

/-- R293. The entry of a line in the eviction buffer of the core that dropped it. -/
def evictedOf (x : CacheLine) : Evicted := { line := x.line, owned := x.owned, dom := x.dom, fn := x.fn, out := x.yield }

theorem toBuffer_cached (s : State) (core : Nat) (x : CacheLine) : (s.toBuffer core x).cached core x.line = none :=
  (cached_setEvicted _ _ _ _ _ _).trans (cached_setCached_none s core x.line)

theorem toBuffer_evicted (s : State) (core : Nat) (x : CacheLine) : (s.toBuffer core x).evictedEntry core x.line = some (evictedOf x) :=
  evictedEntry_setEvicted_some (s.setCached core x.line none) core (e := evictedOf x) rfl

/-- R293. A core evicts a line whose data no engine has to correct, and the eviction arrives at the home. -/
theorem evictArrives_drops {s : State} {core : Nat} {x : CacheLine} {owned : Bool} (awake : s.Awake 0x300) (holds : s.cached core x.line = some x) (kind : x.owned = owned)
    (unread : s.readOut core x = s) (room : (s.cache core).evicted.length < 16) :
    evictArrives core x.line owned s = .next ((s.toBuffer core x).homeEvict core x.line) := by
  have evicts : s.evict core x.line owned = s.toBuffer core x := by
    unfold State.evict
    rw [holds]
    simp only [kind, beq_self_eq_true, room, decide_true, Bool.and_self, if_true, unread]
  unfold evictArrives
  rw [event_awake awake]
  dsimp only
  rw [evicts, toBuffer_evicted]
  dsimp only
  rw [if_pos (by simp [evictedOf, kind])]

/-- R293. The home has received an eviction, which is counted. -/
def evictionCounted (s : State) (core : Nat) (x : CacheLine) : State :=
  ((s.toBuffer core x).setEvicted core x.line (some { evictedOf x with arrived := true })).add (LC_WB_CNT core) (b2n x.owned)

/-- R293, R314. What an evicted line brings has reached memory. -/
def evictionTaken (s : State) (core : Nat) (x : CacheLine) : State := (evictionCounted s core x).writeBack x.line x.fn x.dom x.yield

/-- R293. The evicted line's core is no longer recorded as holding it, and EVICT_ACK returns. -/
def evictionAcked (u : State) (core l : Nat) : State :=
  (u.setDir l (((u.dirEntry l).bind (·.owner)).filter (· != core)) ((((u.dirEntry l).map (·.sharers)).getD []).filter (· != core))).send
    { msg := .evictAck, line := l, core := core }

theorem homeEvict_toBuffer {s : State} {core : Nat} {x : CacheLine} (free : s.txn x.line = none) :
    (s.toBuffer core x).homeEvict core x.line = evictionAcked (evictionTaken s core x) core x.line := by
  have alone : (evictionCounted s core x).txn x.line = none := free
  unfold State.homeEvict
  rw [toBuffer_evicted]
  dsimp only [evictedOf, evictionCounted] at alone ⊢
  rw [if_neg Bool.false_ne_true, alone]
  rfl

theorem evictionTaken_home (s : State) (core : Nat) (x : CacheLine) : HomeOnly (evictionCounted s core x) (evictionTaken s core x) := (HomeOnly.refl _).writeBack _ _ _ _

theorem evictionTaken_cached (s : State) (core : Nat) (x : CacheLine) : (evictionTaken s core x).cached core x.line = none := by
  rw [cached_of_caches (evictionTaken_home s core x).caches]
  exact (cached_setEvicted _ _ _ _ _ _).trans (toBuffer_cached s core x)

theorem evictionTaken_dirEntry (s : State) (core : Nat) (x : CacheLine) (l : Nat) : (evictionTaken s core x).dirEntry l = s.dirEntry l :=
  dirEntry_of_dir (evictionTaken_home s core x).dir l

/-- R289, R293. Once its eviction is acknowledged, the core is not among the line's holders. -/
theorem evictionAcked_shows (u : State) (core l : Nat) : (evictionAcked u core l).cached core l = u.cached core l ∧ core ∉ (evictionAcked u core l).holders l ∧
    (∃ m ∈ (evictionAcked u core l).mem.flights, m.msg = .evictAck ∧ m.core = core ∧ m.line = l) ∧ (evictionAcked u core l).mem.hbm = u.mem.hbm := by
  refine ⟨rfl, ?_, ⟨_, List.mem_append_right _ List.mem_cons_self, rfl, rfl, rfl⟩, rfl⟩
  show core ∉ (u.setDir l _ _).holders l
  rw [holders_setDir]
  exact not_mem_without core _ _

/-- R289. A line whose only holder evicts it is held by none. -/
theorem evictionAcked_unheld {u : State} {core l : Nat} (only : u.dirEntry l = some { line := l, owner := none, sharers := [core] }) : (evictionAcked u core l).holders l = [] := by
  show (u.setDir l _ _).holders l = []
  rw [holders_setDir, only]
  simp

/-- R293. An evicted line that its core does not own brings nothing to memory. -/
theorem evictionTaken_shared (s : State) (core : Nat) {x : CacheLine} (shared : x.owned = false) : (evictionTaken s core x).mem.hbm = s.mem.hbm := by
  unfold evictionTaken State.writeBack
  rw [yield_shared shared]
  split <;> rfl

theorem offPresence_writeBack (core : Nat) : OffPresence (LC_WB_CNT core) := by
  simp only [OffPresence, LC_WB_CNT]
  omega

/-- R293, R314. An evicted line that its core owns, of the unprotected domain and without errors, is stored at the home. -/
theorem evictionTaken_owned {s : State} {core : Nat} {x : CacheLine} (powered : s.domOn 3 = true) (owned : x.owned = true) (clean : x.err = []) (present : s.lineAbsent x.line = false)
    (plain : x.dom = 15) (whole : x.data.length = 128) : (evictionTaken s core x).stored x.line = x.data := by
  have on : (evictionCounted s core x).domOn 3 = true := powered
  have here : (evictionCounted s core x).lineAbsent x.line = false := by
    unfold evictionCounted
    rw [lineAbsent_add (offPresence_writeBack core), lineAbsent_of_regs (s := s) (by rfl), present]
  have written : evictionTaken s core x = ((evictionCounted s core x).homeWrite x.fn 15 x.line x.data).1 := by
    unfold evictionTaken State.writeBack
    rw [on, yield_owned owned clean, plain]
    rfl
  rw [written, (homeWrite_stored here whole x.fn).1]

end Sys2Proof.Proofs

/-!
The obligation on the messages of the protocol (R286 to R295).
-/

namespace Sys2Proof.Proofs

open Sys2Proof.Machine Sys2Proof.Laws Sys2Proof.Claims

/-- Settles O23: requests by `requestFrom_arrives` and what follows it, arrivals by `arrive_first`, what a message does to a core's copy by `deliver_fill` and `deliver_snoop`, evictions by
`evictArrives_drops`. -/
theorem coherenceMessages : Obligations.CoherenceMessages := by
  refine ⟨?rdS, ?rdM, ?claim, ?upg, ?unheld, ?owned, ?dataS, ?dataM, ?grant, ?evictAck, ?snpInv, ?snpShr, ?ack, ?data, ?notHeld, ?notHeldEvicting, ?takesShared, ?takesOwned, ?givesUp,
    ?downgrades, ?acked, ?evictS, ?evictM⟩
  case rdS =>
    exact fun core addr pa dom s maps powered goes => requestFrom_arrives (bytes := []) maps rfl powered (Nat.le_of_lt (Nat.mod_lt pa (by decide))) goes _
  case rdM => exact fun core addr pa dom bytes s maps powered within goes => requestFrom_arrives maps (Bool.or_true _) powered within goes _
  case claim =>
    intro core addr pa dom bytes s maps powered within goes whole
    exact (if_pos whole).trans (requestFrom_arrives maps (Bool.or_true _) powered within goes _)
  case upg => exact fun core addr pa dom bytes s maps powered within goes => requestFrom_arrives maps (Bool.or_true _) powered within goes _
  case unheld => exact fun t s idle free unheld shared new nothing => request_unowned idle free new shared nothing (owner_unheld unheld)
  case owned =>
    intro t o s idle free owned other shared new
    rw [request_owned idle free new shared owned other]
    refine ⟨⟨_, List.mem_append_right _ List.mem_cons_self, rfl, rfl, rfl⟩, { t with begun := true, waiting := [o] }, ?_, rfl, rfl⟩
    simp [State.txn, State.send, joined, idle]
  case dataS => exact fun core l m s flows room first => fillsCore_flowing flows room first _
  case dataM => exact fun core l m s flows room first => fillsCore_flowing flows room first _
  case grant => exact fun core l m s flows room first => fillsCore_flowing flows room first _
  case evictAck => exact fun core l m s flows first => arrivesAtCore_flowing flows first _
  case snpInv => exact fun core l m s flows first => arrivesAtCore_flowing flows first _
  case snpShr => exact fun core l m s flows first => arrivesAtCore_flowing flows first _
  case ack => exact fun core l m s awake first => reply_awake awake first
  case data => exact fun core l m s awake first => reply_awake awake first
  case notHeld => exact fun core l m s awake first => reply_awake awake first
  case notHeldEvicting => exact fun core l m s awake first => reply_awake awake first
  case takesShared =>
    intro m s shared served kept
    obtain ⟨owned, dirty, dom, fn, data⟩ := filled_of_data s (m := m) (by rw [shared]; decide)
    obtain ⟨w, holds⟩ := deliver_fill (s := s) (m := m) (by rw [Flight.isFill, shared]; rfl) served kept
    exact ⟨_, holds, owned.trans (by rw [shared]; rfl), dirty shared, dom, fn, data⟩
  case takesOwned =>
    intro m s exclusive served kept
    obtain ⟨owned, _, _, _, data⟩ := filled_of_data s (m := m) (by rw [exclusive]; decide)
    obtain ⟨w, holds⟩ := deliver_fill (s := s) (m := m) (by rw [Flight.isFill, exclusive]; rfl) served kept
    exact ⟨_, holds, owned.trans (by rw [exclusive]; rfl), data⟩
  case givesUp =>
    intro m x s inv holds owned clean
    rw [deliver_snoop (.inl inv) holds owned clean, if_neg (by rw [inv]; decide)]
    exact ⟨cached_setCached_none _ _ _, _, List.mem_append_right _ List.mem_cons_self, rfl, rfl, rfl, rfl⟩
  case downgrades =>
    intro m x s shr holds owned clean
    have place : x.line = m.line := line_of_cached holds
    rw [deliver_snoop (.inr shr) holds owned clean, if_pos shr]
    exact ⟨cached_setCached_some _ m.core place, _, List.mem_append_right _ List.mem_cons_self, rfl, rfl, rfl, rfl⟩
  case acked =>
    intro m s ack
    rw [deliver_evictAck ack, evictedEntry_setEvicted_none]
  case evictS =>
    intro core l x s awake holds shared room _ free only
    obtain rfl := line_of_cached holds
    obtain ⟨copies, _, acked, hbm⟩ := evictionAcked_shows (evictionTaken s core x) core x.line
    refine .of_next ((evictArrives_drops awake holds shared (readOut_shared s core shared) room).trans (congrArg _ (homeEvict_toBuffer free))) ⟨?_, ?_, acked, ?_⟩
    · rw [copies, evictionTaken_cached]
    · exact evictionAcked_unheld ((evictionTaken_dirEntry s core x x.line).trans only)
    · rw [hbm, evictionTaken_shared s core shared]
  case evictM =>
    intro core l x s awake holds owned clean room _ free present plain whole _
    obtain rfl := line_of_cached holds
    obtain ⟨copies, unheld, acked, hbm⟩ := evictionAcked_shows (evictionTaken s core x) core x.line
    refine .of_next ((evictArrives_drops awake holds owned (readOut_clean s core clean) room).trans (congrArg _ (homeEvict_toBuffer free))) ⟨?_, unheld, acked, ?_⟩
    · rw [copies, evictionTaken_cached]
    · rw [stored_of_hbm hbm, evictionTaken_owned awake.1 owned clean present plain whole]

end Sys2Proof.Proofs

/-!
Soundness over every step (R325, R449, R526, R590): every command keeps it (`exec_good`), and so does what the device does by itself on an empty queue.
-/

namespace Sys2Proof.Proofs

open Sys2Proof.Machine Sys2Proof.Laws

/-- R583. A private JTAG instruction answers a next state under the debug lockout alone. -/
theorem locked_of_next {c : Instr} {s t : State} (run : exec c s = .next t) : ∀ n, c = .jtagInstruction (.priv n) → s.on FU_LOCKS_DEBUG = true := by
  rintro n rfl
  by_contra unlocked
  simp [exec, execJtagInstruction, unlocked] at run

/-- A state reached by operations that keep soundness (Laws/Keep*.lean), whatever parts they may change, is sound if the first was. -/
theorem sound_of_good {s t : State} (good : Good ⟨s.pending, s, fun _ => false⟩ t) (sound : s.Sound) : t.Sound := good.sound sound

theorem exec_keepsSound {c : Instr} {s t : State} (sound : s.Sound) (run : exec c s = .next t) : t.Sound := by
  obtain ⟨u, answer, good⟩ := (exec_good c (good_self s fun _ => false) (locked_of_next run) fun _ _ => rfl).next
  cases run.symm.trans answer
  exact sound_of_good good sound

theorem withPending_sound {s : State} (sound : s.Sound) (q : List Instr) : (s.withPending q).Sound :=
  ⟨sound.memory, sound.protLog, sound.abortLog, sound.lateErrors, sound.faultLog⟩

theorem withHeld_sound {s : State} (sound : s.Sound) (q : List (Nat × Instr)) : (s.withHeld q).Sound :=
  ⟨sound.memory, sound.protLog, sound.abortLog, sound.lateErrors, sound.faultLog⟩

theorem rxGo_sound {s : State} (sound : s.Sound) (p : Nat) : (s.rxGo p).Sound := by
  refine sound_of_good ?_ sound
  apply State_rxGo_good
  case h => exact good_self s _
  all_goals rfl

theorem pump_sound {s : State} (sound : s.Sound) (core : Nat) : (s.pump core).Sound := by
  refine sound_of_good ?_ sound
  apply State_pump_good
  case h => exact good_self s _
  all_goals rfl

theorem fetch_sound {s : State} (sound : s.Sound) (core slot : Nat) : (s.fetch core slot).Sound := by
  refine sound_of_good ?_ sound
  apply State_fetch_good
  case h => exact good_self s _
  all_goals rfl

theorem pass_sound {s : State} (sound : s.Sound) (clocks : Nat) : (s.pass clocks).Sound := by
  refine sound_of_good ?_ sound
  apply State_pass_good
  case h => exact good_self s _
  all_goals rfl

/-- With no withheld command that can go on, the links, the cores and the clock keep soundness. -/
theorem idle_keepsSound {s t : State} {before : List (Nat × Instr)} (sound : s.Sound) (run : s.release before [] = .next t) : t.Sound := by
  unfold State.release at run
  split at run
  next p _ =>
    cases run
    exact rxGo_sound sound p
  next =>
    split at run
    next n _ =>
      cases run
      exact pump_sound sound n
    next =>
      split at run
      next n i _ =>
        cases run
        exact pass_sound (fetch_sound sound n i) 1
      next =>
        cases run
        exact pass_sound sound 1

/-- R29. The release of withheld commands keeps soundness: the one that takes effect does (`exec_keepsSound`), those passed over change nothing. -/
theorem release_keepsSound {s t : State} (sound : s.Sound) {before after : List (Nat × Instr)} (run : s.release before after = .next t) : t.Sound := by
  induction after generalizing before with
  | nil => exact idle_keepsSound sound run
  | cons waiting after ih =>
    obtain ⟨block, c⟩ := waiting
    rw [State.release] at run
    split at run
    next u effect =>
      split at run
      next => exact ih run
      next =>
        cases run
        exact withHeld_sound (exec_keepsSound (withHeld_sound sound before) effect) _
    next stops => exact absurd run (stops t)

/-- Settles O56: a step is the front command's effect, or on an empty queue a release. -/
theorem everyStepKeepsSoundness : Obligations.EveryStepKeepsSoundness := by
  intro s t sound run
  unfold step at run
  split at run
  next c q _ => exact exec_keepsSound (withPending_sound sound q) run
  next => exact release_keepsSound sound run

end Sys2Proof.Proofs

/-!
Key sets of protection domains, their rotation, fills and the protection log (R305 to R309, R319 to R327).
-/

namespace Sys2Proof.Proofs

open Sys2Proof.Machine Sys2Proof.Laws Sys2Proof.Claims

/-! ### Values of two words -/

theorem pair_set_ne {lo hi f : Field} (low : lo.key ≠ f.key) (high : hi.key ≠ f.key) (s : State) (v : Nat) : (s.set f v).pair lo hi = s.pair lo hi := by
  unfold State.pair
  rw [State.get_set_ne low, State.get_set_ne high]

/-- A pair of fields that fill their words from the lower one's least bit up holds every value that is aligned to that bit and fits. -/
theorem pair_setPair {lo hi : Field} (apart : lo.key ≠ hi.key) (whole : lo.lsb + lo.width = 32) {v : Nat} (fits : v < 2 ^ (32 + hi.width)) (aligned : 2 ^ lo.lsb ∣ v) (s : State) :
    (s.setPair lo hi v).pair lo hi = v := by
  have word : 2 ^ lo.lsb * 2 ^ lo.width = 2 ^ 32 := by rw [← pow_add, whole]
  have low : v % 2 ^ 32 / 2 ^ lo.lsb < 2 ^ lo.width := Nat.div_lt_of_lt_mul (word.symm ▸ Nat.mod_lt v (Nat.two_pow_pos 32))
  have high : v / 2 ^ 32 < 2 ^ hi.width := Nat.div_lt_of_lt_mul (by rwa [← pow_add])
  have lowAligned : 2 ^ lo.lsb ∣ v % 2 ^ 32 := (Nat.dvd_mod_iff (word ▸ Nat.dvd_mul_right _ _)).mpr aligned
  unfold State.pair State.setPair
  rw [State.get_set_ne apart, State.get_set_self, State.get_set_self, Nat.mod_eq_of_lt low, Nat.mod_eq_of_lt high, Nat.div_mul_cancel lowAligned]
  exact Nat.mod_add_div' v _

/-! ### The fields and the keys of a domain (R305, R306, R320) -/

theorem domState_busy (d : Nat) : (DOM_STAT_STATE d).key ≠ (DOM_STAT_BUSY d).key := by
  simp only [Field.key, DOM_STAT_STATE, DOM_STAT_BUSY]
  omega

theorem domState_result (d : Nat) : (DOM_STAT_STATE d).key ≠ (DOM_STAT_RESULT d).key := by
  simp only [Field.key, DOM_STAT_STATE, DOM_STAT_RESULT]
  omega

theorem domBusy_result (d : Nat) : (DOM_STAT_BUSY d).key ≠ (DOM_STAT_RESULT d).key := by
  simp only [Field.key, DOM_STAT_BUSY, DOM_STAT_RESULT]
  omega

theorem domGen_state (d : Nat) : (DOM_CFG_GEN d).key ≠ (DOM_STAT_STATE d).key := by
  simp only [Field.key, DOM_CFG_GEN, DOM_STAT_STATE]
  omega

theorem rkLines_state (d : Nat) : (RK_LINES d).key ≠ (DOM_STAT_STATE d).key := by
  simp only [Field.key, RK_LINES, DOM_STAT_STATE]
  omega

theorem rkLines_result (d : Nat) : (RK_LINES d).key ≠ (DOM_STAT_RESULT d).key := by
  simp only [Field.key, RK_LINES, DOM_STAT_RESULT]
  omega

/-- R320. The words of the sweep pointer are apart from each other and from the other fields of a sweep. -/
theorem rkPtr_apart (d : Nat) : (RK_PTR_LO d).key ≠ (RK_PTR_HI d).key ∧ ∀ f ∈ [RK_LINES d, DOM_STAT_STATE d, DOM_STAT_RESULT d], (RK_PTR_LO d).key ≠ f.key ∧ (RK_PTR_HI d).key ≠ f.key := by
  simp only [Field.key, RK_PTR_LO, RK_PTR_HI, RK_LINES, DOM_STAT_STATE, DOM_STAT_RESULT, List.forall_mem_cons, List.not_mem_nil, false_imp_iff, implies_true, and_true]
  omega

@[simp] theorem domKeys_setKeys_self (s : State) (d : Nat) (k : DomKeys) : (s.setKeys d k).domKeys d = k := Map.get_put_self _ _ _ _

@[simp] theorem get_setKeys (s : State) (d : Nat) (k : DomKeys) (f : Field) : (s.setKeys d k).get f = s.get f := rfl

@[simp] theorem domKeys_set (s : State) (f : Field) (v d : Nat) : (s.set f v).domKeys d = s.domKeys d := rfl

theorem domKeys_raise (s : State) (page bit d : Nat) : (s.raise page bit).domKeys d = s.domKeys d := by
  unfold State.domKeys
  rw [State.raise_mem]

/-- R322. A domain command in progress holds its outcome, and BUSY shows. -/
theorem domBusy_shows (s : State) (d op : Nat) (st : Status) (ks : List Byte) :
    (s.domBusy d op st ks).domKeys d = { s.domKeys d with busy := some (op, st, ks) } ∧ (s.domBusy d op st ks).on (DOM_STAT_BUSY d) = true :=
  ⟨domKeys_setKeys_self _ _ _, State.on_flag_self rfl _ _⟩

/-! ### Domain commands (R306, R307, R309, R321, R322) -/

/-- R306, R307. A LOAD whose secret is found is in progress with the key set that it derives. -/
theorem domLoad_found {s : State} {d g : Nat} {k : KeySlot} (sluice : s.domOn 4 = true) (secret : s.domSecret d = .found g k) (op gen : Nat) :
    s.domLoad d op gen = s.domBusy d op .ok (s.deriveKeys k.key d gen) := by
  unfold State.domLoad
  rw [sluice, secret]
  rfl

section
variable {s : State} {fn d : Nat} (reach : s.Reaches fn 0x310)
include reach

theorem exec_loadCur_refused (barred : s.on (DOM_STAT_BUSY d) = true ∨ s.get (DOM_STAT_STATE d) ≠ 0) : exec (.loadCur fn d) s = .next (s.domRefused fn d 1) := by
  show execLoadCur fn d s = _
  unfold execLoadCur
  rw [mmio_reaches reach, if_pos (by simpa using barred)]

theorem exec_loadNext_refused (barred : s.on (DOM_STAT_BUSY d) = true ∨ s.get (DOM_STAT_STATE d) ∉ [1, 2]) : exec (.loadNext fn d) s = .next (s.domRefused fn d 2) := by
  show execLoadNext fn d s = _
  unfold execLoadNext
  rw [mmio_reaches reach, if_pos (by simpa using barred)]

theorem exec_rekeyStart_refused (barred : s.on (DOM_STAT_BUSY d) = true ∨ s.get (DOM_STAT_STATE d) ≠ 2) : exec (.rekeyStart fn d) s = .next (s.domRefused fn d 3) := by
  show execRekeyStart fn d s = _
  unfold execRekeyStart
  rw [mmio_reaches reach, if_pos (by simpa using barred)]

theorem exec_domDisable_refused (barred : s.on (DOM_STAT_BUSY d) = true ∨ s.get (DOM_STAT_STATE d) = 3 ∨ s.domInUse d = true) :
    exec (.domDisable fn d) s = .next (s.domRefused fn d 4) := by
  show execDomDisable fn d s = _
  unfold execDomDisable
  rw [mmio_reaches reach, if_pos (by simpa [or_assoc] using barred)]

theorem exec_loadCur (idle : s.on (DOM_STAT_BUSY d) = false) (off : s.get (DOM_STAT_STATE d) = 0) (admitted : s.loadWaits = false) :
    exec (.loadCur fn d) s = .next (s.domLoad d 1 (s.get (DOM_CFG_GEN d))) := by
  show execLoadCur fn d s = _
  unfold execLoadCur
  rw [mmio_reaches reach, idle, off, admitted]
  rfl

theorem exec_loadNext (idle : s.on (DOM_STAT_BUSY d) = false) (keyed : s.get (DOM_STAT_STATE d) = 1 ∨ s.get (DOM_STAT_STATE d) = 2) (admitted : s.loadWaits = false) :
    exec (.loadNext fn d) s = .next (s.domLoad d 2 ((s.get (DOM_CFG_GEN d) + 1) % 256)) := by
  have accepted : [1, 2].contains (s.get (DOM_STAT_STATE d)) = true := by simpa using keyed
  show execLoadNext fn d s = _
  unfold execLoadNext
  rw [mmio_reaches reach, idle, accepted, admitted]
  rfl

/-- R321. The state in which the sweep of a domain has started. -/
def sweepStarted (s : State) (d : Nat) : State :=
  (((s.setPair (RK_PTR_LO d) (RK_PTR_HI d) 0).set (RK_LINES d) 0).set (DOM_STAT_STATE d) 3).set (DOM_STAT_RESULT d) Status.ok.code

theorem exec_rekeyStart (idle : s.on (DOM_STAT_BUSY d) = false) (loaded : s.get (DOM_STAT_STATE d) = 2) : exec (.rekeyStart fn d) s = .next (sweepStarted s d) := by
  show execRekeyStart fn d s = _
  unfold execRekeyStart
  rw [mmio_reaches reach, idle, loaded]
  rfl

/-- R309. The state in which a domain's keys are erased and DISABLE is in progress. -/
def domDisabled (s : State) (d : Nat) : State := ((s.setKeys d {}).set (DOM_STAT_STATE d) 0).domBusy d 4 .ok []

theorem exec_domDisable (idle : s.on (DOM_STAT_BUSY d) = false) (still : s.get (DOM_STAT_STATE d) ≠ 3) (unused : s.domInUse d = false) :
    exec (.domDisable fn d) s = .next (domDisabled s d) := by
  show execDomDisable fn d s = _
  unfold execDomDisable
  rw [mmio_reaches reach, idle, unused, if_neg (by simpa using still)]
  rfl

end

theorem sweepStarted_shows (s : State) (d : Nat) : (sweepStarted s d).get (DOM_STAT_STATE d) = 3 ∧ (sweepStarted s d).pair (RK_PTR_LO d) (RK_PTR_HI d) = 0 ∧
    (sweepStarted s d).get (RK_LINES d) = 0 ∧ (sweepStarted s d).get (DOM_STAT_RESULT d) = 0 ∧ (sweepStarted s d).domKeys d = s.domKeys d ∧
    OnlyRegs [DOM_STAT_STATE d, RK_PTR_LO d, RK_PTR_HI d, RK_LINES d, DOM_STAT_RESULT d] s (sweepStarted s d) ∧ OnlyParts [.regs] s (sweepStarted s d) := by
  obtain ⟨words, apart⟩ := rkPtr_apart d
  simp only [List.forall_mem_cons, List.not_mem_nil, false_imp_iff, implies_true, and_true] at apart
  obtain ⟨lines, state, result⟩ := apart
  unfold sweepStarted
  refine ⟨?state, ?pointer, ?lines, State.get_set_self _ _ _, rfl, ?regs, ?parts⟩
  case state =>
    rw [State.get_set_ne (domState_result d), State.get_set_self]
    rfl
  case pointer =>
    rw [pair_set_ne result.1 result.2, pair_set_ne state.1 state.2, pair_set_ne lines.1 lines.2]
    exact pair_setPair words rfl (by simp [RK_PTR_HI]) (Nat.dvd_zero _) s
  case lines =>
    rw [State.get_set_ne (rkLines_result d), State.get_set_ne (rkLines_state d), State.get_set_self]
    rfl
  case regs => exact ((((OnlyRegs.set (.refl _ s) (by simp) _).set (by simp) _).set (by simp) _).set (by simp) _).set (by simp) _
  case parts => exact ((((State.set_only _ _ _).trans (State.set_only _ _ _)).trans (State.set_only _ _ _)).trans (State.set_only _ _ _)).trans (State.set_only _ _ _)

theorem domDisabled_shows (s : State) (d : Nat) : (domDisabled s d).get (DOM_STAT_STATE d) = 0 ∧ (domDisabled s d).domKeys d = { busy := some (4, .ok, []) } ∧
    (domDisabled s d).on (DOM_STAT_BUSY d) = true ∧ OnlyRegs [DOM_STAT_STATE d, DOM_STAT_BUSY d] s (domDisabled s d) := by
  obtain ⟨keys, busy⟩ := domBusy_shows ((s.setKeys d {}).set (DOM_STAT_STATE d) 0) d 4 .ok []
  refine ⟨?_, ?_, busy, ?_⟩
  · unfold domDisabled State.domBusy
    rw [State.get_flag_ne (domState_busy d), get_setKeys, State.get_set_self]
    rfl
  · rw [domDisabled, keys, domKeys_set, domKeys_setKeys_self]
  · have off : OnlyRegs [DOM_STAT_STATE d, DOM_STAT_BUSY d] s ((s.setKeys d {}).set (DOM_STAT_STATE d) 0) := ((OnlyRegs.refl _ s).of_regs rfl).set List.mem_cons_self 0
    exact onlyRegs_flag (off.of_regs rfl) (by simp) true

/-! ### The end of a domain command (R307, R327) -/

/-- R307. The keys and the state of a domain once its command has ended: a LOAD that ends OK has its set installed. -/
def keysInstalled (s : State) (d op : Nat) (st : Status) (ks : List Byte) : State :=
  if st = .ok ∧ op = 1 then (s.setKeys d { cur := ks }).set (DOM_STAT_STATE d) 1
  else if st = .ok ∧ op = 2 then (s.setKeys d { s.domKeys d with next := ks, busy := none }).set (DOM_STAT_STATE d) 2
  else s.setKeys d { s.domKeys d with busy := none }

/-- R307, R327. What the end of a domain command shows. -/
def domEnded (s : State) (d : Nat) (st : Status) : State := ((s.flag (DOM_STAT_BUSY d) false).set (DOM_STAT_RESULT d) st.code).raise 0x310 5

theorem exec_domCmdDone {s : State} {d op : Nat} {st : Status} {ks : List Byte} (awake : s.Awake 0x310) (busy : (s.domKeys d).busy = some (op, st, ks)) :
    exec (.domCmdDone d) s = .next (domEnded (keysInstalled s d op st ks) d st) := by
  show execDomCmdDone d s = _
  unfold execDomCmdDone
  rw [event_awake awake, busy]
  rfl

theorem keysInstalled_busy (s : State) (d op : Nat) (st : Status) (ks : List Byte) : ((keysInstalled s d op st ks).domKeys d).busy = none := by
  unfold keysInstalled
  split
  · rw [domKeys_set, domKeys_setKeys_self]
  · split
    · rw [domKeys_set, domKeys_setKeys_self]
    · rw [domKeys_setKeys_self]

theorem keysInstalled_cur (s : State) (d : Nat) (ks : List Byte) : ((keysInstalled s d 1 .ok ks).domKeys d).cur = ks ∧ (keysInstalled s d 1 .ok ks).get (DOM_STAT_STATE d) = 1 := by
  rw [keysInstalled, if_pos ⟨rfl, rfl⟩, domKeys_set, domKeys_setKeys_self, State.get_set_self]
  exact ⟨rfl, rfl⟩

theorem keysInstalled_next (s : State) (d : Nat) (ks : List Byte) : ((keysInstalled s d 2 .ok ks).domKeys d).next = ks ∧ ((keysInstalled s d 2 .ok ks).domKeys d).cur = (s.domKeys d).cur ∧
    (keysInstalled s d 2 .ok ks).get (DOM_STAT_STATE d) = 2 := by
  rw [keysInstalled, if_neg (by decide), if_pos ⟨rfl, rfl⟩, domKeys_set, domKeys_setKeys_self, State.get_set_self]
  exact ⟨rfl, rfl, rfl⟩

theorem keysInstalled_failed {st : Status} (failed : st ≠ .ok) (s : State) (d op : Nat) (ks : List Byte) : keysInstalled s d op st ks = s.setKeys d { s.domKeys d with busy := none } := by
  rw [keysInstalled, if_neg fun h => failed h.1, if_neg fun h => failed h.1]

theorem domEnded_keys (s : State) (d : Nat) (st : Status) : (domEnded s d st).domKeys d = s.domKeys d := domKeys_raise _ _ _ _

theorem domEnded_state (s : State) (d : Nat) (st : Status) : (domEnded s d st).get (DOM_STAT_STATE d) = s.get (DOM_STAT_STATE d) := by
  unfold domEnded
  rw [State.raise_get, State.get_set_ne (domState_result d), State.get_flag_ne (domState_busy d)]

theorem domEnded_shows (s : State) (d : Nat) (st : Status) : (domEnded s d st).on (DOM_STAT_BUSY d) = false ∧ (domEnded s d st).get (DOM_STAT_RESULT d) = st.code ∧
    (domEnded s d st).shows 0 0x310 5 = true := by
  have code : st.code % 2 ^ (DOM_STAT_RESULT d).width = st.code := by cases st <;> rfl
  unfold domEnded
  rw [State.raise_on, on_set_ne (domBusy_result d), State.on_flag_self rfl, State.raise_get, State.get_set_self, code]
  exact ⟨rfl, rfl, State.raise_shows _ _ _⟩

/-! ### Key rotation (R320, R321) -/

/-- R321. The sweep of a domain has handled a line: what was read is written back under NEXT, and the pointer stands behind it. -/
def lineWritten (s : State) (d l fn : Nat) : State :=
  let read := s.sweepRead d l fn
  let moved := (read.1.setPair (RK_PTR_LO d) (RK_PTR_HI d) ((l + 1) * 128)).add (RK_LINES d) 1
  match read.2 with
  | some b => (moved.homeWrite fn d l b).1
  | none => moved

/-- R321. The sweep of a domain has handled a line, and ends with the last. -/
def lineSwept (s : State) (d l fn : Nat) : State :=
  if ((lineWritten s d l fn).nextDomLine d (l + 1)).isNone then (lineWritten s d l fn).rekeyDone d else lineWritten s d l fn

/-- R321, R328. What the sweep does, when it is not held, with the line that is next. -/
theorem exec_rekeySweepLine {s : State} {d : Nat} (awake : s.Awake 0x310) (sweeping : s.get (DOM_STAT_STATE d) = 3) (rate : s.get (RK_BW d) ≠ 0) (unquiesced : s.quiet 0x310 = false) :
    exec (.rekeySweepLine d) s = .next ((s.nextDomLine d (s.rkLine d)).elim (s.rekeyDone d) fun line => if s.lineHeld line.1 then s else lineSwept s d line.1 line.2) := by
  show execRekeySweepLine d s = _
  unfold execRekeySweepLine
  rw [event_awake awake, if_neg (by simp [sweeping, rate, unquiesced, awake.2])]
  cases s.nextDomLine d (s.rkLine d) with
  | none => rfl
  | some line =>
    simp only [Option.elim_some]
    split <;> rfl

/-- R321. The end of a sweep: NEXT is installed at the next generation, and REKEY_DONE shows. -/
theorem rekeyDone_shows (s : State) (d : Nat) : (s.rekeyDone d).domKeys d = { s.domKeys d with cur := (s.domKeys d).next, next := [] } ∧
    (s.rekeyDone d).get (DOM_CFG_GEN d) = (s.get (DOM_CFG_GEN d) + 1) % 256 ∧ (s.rekeyDone d).get (DOM_STAT_STATE d) = 1 ∧ (s.rekeyDone d).shows 0 0x310 3 = true := by
  unfold State.rekeyDone
  refine ⟨?_, ?_, ?_, State.raise_shows _ _ _⟩
  · rw [domKeys_raise]
    exact domKeys_setKeys_self _ _ _
  · rw [State.raise_get, State.get_set_ne (domGen_state d), State.get_add_self]
    rfl
  · rw [State.raise_get, State.get_set_self]
    rfl

/-! ### Fills (R319) -/

/-- R319. The state in which a fill has started. -/
def fillStarted (s : State) (l n d : Nat) : State := { s with mem := { s.mem with fill := some (l, n, d) } }.flag FILL_CTRL_BUSY true

theorem exec_protFill {s : State} {fn : Nat} (reach : s.Reaches fn 0x310) (idle : s.on FILL_CTRL_BUSY = false) (nonempty : 0 < s.get FILL_LEN)
    (within : s.pair FILL_PA_LO FILL_PA_HI + s.get FILL_LEN * 2 ^ 21 ≤ 144 * 2 ^ 30) (allowed : s.get FILL_DOM = 15 ∨ s.get (DOM_STAT_STATE (s.get FILL_DOM)) = 1)
    (rate : s.get FILL_BW ≠ 0) :
    exec (.protFill fn) s = .next (fillStarted s (s.pair FILL_PA_LO FILL_PA_HI / 128) (s.get FILL_LEN * 16384) (s.get FILL_DOM)) := by
  have fits : ¬ 144 * 2 ^ 30 < s.pair FILL_PA_LO FILL_PA_HI + s.get FILL_LEN * 2 ^ 21 := Nat.not_lt.mpr within
  have domain : (s.get FILL_DOM != 15 && s.get (DOM_STAT_STATE (s.get FILL_DOM)) != 1) = false := by
    simpa [Classical.or_iff_not_imp_left] using allowed
  show execProtFill fn s = _
  unfold execProtFill
  rw [mmio_reaches reach]
  simp only [idle, fits, domain, rate, Nat.pos_iff_ne_zero.mp nonempty, Bool.false_eq_true, decide_false, Bool.and_false, beq_iff_eq, Bool.or_self, Bool.false_or, if_false]
  rfl

/-- R319. A fill has written its last line. -/
def fillEnded (s : State) : State :=
  (({ s with mem := { s.mem with fill := none } }.flag FILL_CTRL_BUSY false).set FILL_CTRL_RESULT Status.ok.code).raise 0x310 4

/-- R319, R328. A fill that is not held writes its next line with zeros. -/
theorem exec_protFillLine {s : State} {l n d : Nat} (awake : s.Awake 0x310) (unquiesced : s.quiet 0x310 = false) (runs : s.mem.fill = some (l, n, d)) (free : s.lineHeld l = false) :
    exec .protFillLine s = .next (let u := (s.agentWrite 6 0 0 d l 0 (List.replicate 128 0)).1
      if 1 < n then { u with mem := { u.mem with fill := some (l + 1, n - 1, d) } } else fillEnded u) := by
  show execProtFillLine s = _
  unfold execProtFillLine
  rw [event_awake awake, runs]
  simp only [unquiesced, awake.2, free, Bool.or_self, Bool.false_eq_true, if_false]
  split <;> rfl

theorem fillEnded_shows (s : State) : (fillEnded s).mem.fill = none ∧ (fillEnded s).on FILL_CTRL_BUSY = false ∧ (fillEnded s).get FILL_CTRL_RESULT = 0 ∧ (fillEnded s).shows 0 0x310 4 = true := by
  unfold fillEnded
  refine ⟨?_, ?_, ?_, State.raise_shows _ _ _⟩
  · rw [State.raise_mem]
    rfl
  · rw [State.raise_on, on_set_ne (by decide), State.on_flag_self rfl]
  · rw [State.raise_get, State.get_set_self]
    rfl

/-! ### The log (R325) -/

/-- R325. What a pop of the protection log returns. -/
def protWord (e : ProtEntry) : Nat := e.fn + 16 * e.dom + 256 * e.cause + 4096 * e.agent + 65536 * e.core + 2 ^ 31

/-- R325. The oldest entry has left the log, its address and time are captured. -/
def protPopped (s : State) (e : ProtEntry) (es : List ProtEntry) : State :=
  ((({ s with readData := protWord e, mem := { s.mem with protLog := es } }).setPair PL_ADDR_LO PL_ADDR_HI e.pa).set PL_TIME_NS e.time.ns).set PL_TIME_SEC e.time.sec

theorem exec_plPop {s : State} {fn : Nat} {e : ProtEntry} {es : List ProtEntry} (reach : s.Reaches fn 0x310) (log : s.mem.protLog = e :: es) :
    exec (.plPop fn) s = .next (protPopped s e es) := by
  show execPlPop fn s = _
  unfold execPlPop
  rw [mmioRead_reaches reach, log]
  rfl

theorem protPopped_shows (s : State) (e : ProtEntry) (es : List ProtEntry) :
    (e.pa < 2 ^ 40 ∧ e.pa % 128 = 0 → (protPopped s e es).pair PL_ADDR_LO PL_ADDR_HI = e.pa) ∧ (protPopped s e es).get PL_TIME_NS = e.time.ns % 2 ^ 30 ∧
    (protPopped s e es).get PL_TIME_SEC = e.time.sec % 2 ^ 32 ∧ OnlyRegs [PL_ADDR_LO, PL_ADDR_HI, PL_TIME_NS, PL_TIME_SEC] s (protPopped s e es) := by
  unfold protPopped
  refine ⟨fun ⟨fits, aligned⟩ => ?_, ?_, State.get_set_self _ _ _, ?_⟩
  · rw [pair_set_ne (by decide) (by decide), pair_set_ne (by decide) (by decide)]
    exact pair_setPair (by decide) rfl fits (Nat.dvd_of_mod_eq_zero aligned) _
  · rw [State.get_set_ne (by decide), State.get_set_self]
    rfl
  · exact ((((OnlyRegs.refl _ s).of_regs rfl |>.set (by simp) _).set (by simp) _).set (by simp) _).set (by simp) _

/-- Settles O25: a command that its rule allows is in progress with its outcome (`domBusy_shows`, `sweepStarted_shows`, `domDisabled_shows`), and its end installs it (`keysInstalled`); the
sweep's end installs NEXT (`rekeyDone_shows`). -/
theorem protectionDomains : Obligations.ProtectionDomains := by
  refine ⟨?loadCur, ?loadNext, ?inProgress, ?rekey, ?disable, ?refused, ?done, ?sweepOver, ?rekeyed, ?sweepLine, ?fill, ?fillLine, ?fillOver, ?pop⟩
  case loadCur =>
    intro fn d g k s reach _ idle off sluice admitted secret
    rw [exec_loadCur reach idle off admitted, domLoad_found sluice secret]
  case loadNext =>
    intro fn d g k s reach _ idle keyed sluice admitted secret
    rw [exec_loadNext reach idle keyed admitted, domLoad_found sluice secret]
  case inProgress =>
    intro d op ks st s _
    obtain ⟨keys, busy⟩ := domBusy_shows s d op st ks
    exact ⟨congrArg DomKeys.busy keys, busy⟩
  case rekey => exact fun fn d s reach _ idle loaded => .of_next (exec_rekeyStart reach idle loaded) (sweepStarted_shows s d)
  case disable =>
    intro fn d s reach _ idle still unused
    obtain ⟨state, keys, busy, regs⟩ := domDisabled_shows s d
    exact .of_next (exec_domDisable reach idle still unused) ⟨state, congrArg DomKeys.cur keys, congrArg DomKeys.next keys, busy, congrArg DomKeys.busy keys, regs⟩
  case refused =>
    exact fun fn d s reach _ busy => ⟨exec_loadCur_refused reach (.inl busy), exec_loadNext_refused reach (.inl busy), exec_rekeyStart_refused reach (.inl busy),
      exec_domDisable_refused reach (.inl busy)⟩
  case done =>
    intro d op st ks s awake _ busy
    obtain ⟨idle, result, shown⟩ := domEnded_shows (keysInstalled s d op st ks) d st
    refine .of_next (exec_domCmdDone awake busy) ⟨idle, result, ?_, shown, ?_⟩
    · rw [domEnded_keys, keysInstalled_busy]
    rw [domEnded_keys, domEnded_state]
    refine ⟨?cur, ?next, fun failed => ?_⟩
    case cur =>
      rintro ⟨rfl, rfl⟩
      exact keysInstalled_cur s d ks
    case next =>
      rintro ⟨rfl, rfl⟩
      exact keysInstalled_next s d ks
    rw [keysInstalled_failed failed, domKeys_setKeys_self]
    exact ⟨rfl, rfl, get_setKeys s d _ _⟩
  case sweepOver =>
    intro d s awake sweeping rate unquiesced last
    rw [exec_rekeySweepLine awake sweeping rate unquiesced, last, Option.elim_none]
  case rekeyed =>
    intro d s _
    obtain ⟨keys, gen, state, shown⟩ := rekeyDone_shows s d
    exact ⟨congrArg DomKeys.cur keys, congrArg DomKeys.next keys, gen, state, shown⟩
  case sweepLine =>
    intro d l fn s awake _ sweeping rate unquiesced next free
    rw [exec_rekeySweepLine awake sweeping rate unquiesced, next, Option.elim_some, free]
    rfl
  case fill =>
    intro fn s reach idle nonempty within allowed rate
    exact .of_next (exec_protFill reach idle nonempty within allowed rate) ⟨rfl, State.on_flag_self rfl _ _, onlyRegs_flag ((OnlyRegs.refl _ s).of_regs rfl) List.mem_cons_self true⟩
  case fillLine =>
    intro l n d s awake unquiesced runs free more
    rw [exec_protFillLine awake unquiesced runs free, if_pos more]
  case fillOver =>
    intro l n d s awake unquiesced runs free last
    refine .of_next (exec_protFillLine awake unquiesced runs free) ?_
    rw [if_neg (Nat.not_lt.mpr last)]
    exact fillEnded_shows _
  case pop => exact fun fn e es s reach log => .of_next (exec_plPop reach log) ⟨rfl, rfl, protPopped_shows s e es⟩

end Sys2Proof.Proofs

/-!
Reads of memory by an engine and writes of a core's stores (R275, R279, R280, R282, R287 to R295, R313 to R315, R429, R446): whatever the updates keep by which an access is carried out, counted
and logged, the access keeps. The relation of `OffMemory` is one such property; another is the value of any field at none of the words where accesses count.
-/

namespace Sys2Proof.Proofs

open Sys2Proof.Machine Sys2Proof.Laws Sys2Proof.Claims

/-! ### What accesses write -/

/-- The words, by their offset in a page, at which accesses of memory, of stores and of the host are counted and logged. -/
def countWord (a : Nat) : Prop := a % 4096 < 0x70 ∨ a % 4096 = 0x308

/-- A field of such a word. -/
abbrev CountField (g : Field) : Prop := g.lsb < 32 ∧ countWord g.addr

/-- A property that every update keeps of which accesses consist. -/
structure AccessKeeps (P : State → Prop) : Prop where
  set : ∀ {t g}, P t → CountField g → ∀ v, P (t.set g v)
  raise : ∀ {t}, P t → ∀ fn page bit, P (t.raiseFn fn page bit)
  capture : ∀ {t}, P t → ∀ fn page st i j, P (t.captureFn fn page st i j)
  mem : ∀ {t}, P t → ∀ m, P { t with mem := m }
  host : ∀ {t}, P t → ∀ x, P { t with host := x }
  faults : ∀ {t}, P t → ∀ l, P { t with faultLog := l }
  free : ∀ {t}, P t → ∀ n, P { t with freeCtr := n }

/-- The value of a field at another word is such a property. -/
theorem accessKeeps_get {f : Field} (low : f.lsb < 32) (off : ¬countWord f.addr) (v : Nat) : AccessKeeps (fun t => t.get f = v) where
  set h count w := (State.get_set_ne (key_ne_of_addr low count.1 fun same => off (same ▸ count.2)) _ w).trans h
  raise h fn page bit := (State.raiseFn_get _ fn page bit f).trans h
  capture h _ _ _ _ _ := h
  mem h _ := h
  host h _ := h
  faults h _ := h
  free h _ := h

theorem count_wrLines (k : Nat) : CountField (MS_WR_LINES k) := by
  simp only [CountField, countWord, MS_WR_LINES]
  omega

theorem count_rdLines (k : Nat) : CountField (MS_RD_LINES k) := by
  simp only [CountField, countWord, MS_RD_LINES]
  omega

theorem count_msCe (k : Nat) : CountField (MS_CE_CNT k) := by
  simp only [CountField, countWord, MS_CE_CNT]
  omega

theorem count_msUe (k : Nat) : CountField (MS_UE_CNT k) := by
  simp only [CountField, countWord, MS_UE_CNT]
  omega

theorem count_snoop (core : Nat) : CountField (LC_SNOOP_CNT core) := by
  simp only [CountField, countWord, LC_SNOOP_CNT]
  omega

theorem count_writeBack (core : Nat) : CountField (LC_WB_CNT core) := by
  simp only [CountField, countWord, LC_WB_CNT]
  omega

theorem count_crossing (core : Nat) : CountField (LC_XEVICT_CNT core) := by
  simp only [CountField, countWord, LC_XEVICT_CNT]
  omega

theorem count_storeCe (core k : Nat) : CountField (ST_CE_CNT core k) := by
  simp only [CountField, countWord, ST_CE_CNT]
  omega

theorem count_storeUe (core k : Nat) : CountField (ST_UE_CNT core k) := by
  simp only [CountField, countWord, ST_UE_CNT]
  omega

theorem count_storeErr (core k : Nat) : CountField (ST_ERR_ADDR core k) := by
  simp only [CountField, countWord, ST_ERR_ADDR]
  omega

theorem count_abort (fn : Nat) : CountField (FN_ABORT_CNT fn) := by
  simp only [CountField, countWord, FN_ABORT_CNT]
  omega

/-- A count at a fixed word. -/
theorem count_fixed {g : Field} (low : g.lsb < 32) (word : g.addr % 4096 < 0x70) : CountField g := ⟨low, .inl word⟩

/-! ### Folds and branches -/

section

variable {P : State → Prop} {t u : State}

theorem prop_ite {c : Prop} [Decidable c] (h : P t) (h' : P u) : P (if c then t else u) := by
  split
  · exact h
  · exact h'

/-- A fold that carries a result keeps what each of its steps keeps. -/
theorem foldl_fst_of {γ β : Type} {g : State × β → γ → State × β} {l : List γ} {p : State × β} (h : P p.1) (each : ∀ x c, P x.1 → P (g x c).1) : P (l.foldl g p).1 := by
  induction l generalizing p with
  | nil => exact h
  | cons c l ih => exact ih (each p c h)

theorem foldl_of {γ : Type} {g : State → γ → State} {l : List γ} (h : P t) (each : ∀ x c, P x → P (g x c)) : P (l.foldl g t) := by
  induction l generalizing t with
  | nil => exact h
  | cons c l ih => exact ih (each t c h)

end

namespace AccessKeeps

section

variable {P : State → Prop} {t : State} (k : AccessKeeps P)

include k

theorem add (h : P t) {g : Field} (count : CountField g) (n : Nat) : P (t.add g n) := k.set h count _

theorem fault (h : P t) (cls : Nat) (st : Status) (fn lcore array port index : Nat) : P (t.fault cls st fn lcore array port index) := by
  unfold State.fault State.logFault
  exact prop_ite (k.raise (k.faults h _) _ _ _) (k.raise (k.add h (count_fixed (by decide) (by decide)) 1) _ _ _)

/-! ### Lines at their home (R279, R280, R313 to R315, R326) -/

theorem lineCe (h : P t) (l : Nat) : P (t.lineCe l) :=
  k.raise (k.add (k.add (k.add (k.mem h _) (count_wrLines _) 1) (count_msCe _) 1) (count_fixed (by decide) (by decide)) 1) _ _ _

theorem lineUe (h : P t) (l fn cause : Nat) : P (t.lineUe l fn cause) := by
  have counted := k.add (k.add h (count_msUe (stackOf l)) 1) (g := MEM_UE_CNT) (count_fixed (by decide) (by decide)) 1
  have placed : P (((t.add (MS_UE_CNT (stackOf l)) 1).add MEM_UE_CNT 1).setPair MEM_UE_ADDR_LO MEM_UE_ADDR_HI (l * 128)) :=
    k.set (k.set counted (count_fixed (by decide) (by decide)) _) (count_fixed (by decide) (by decide)) _
  have captured := k.capture (k.raise placed 0 0x300 1) 0 0x300 .faulted (stackOf l + 16 * (pchOf l % 32 / 2) + 256 * (pchOf l % 2) + 4096 * cause) fn
  unfold State.lineUe
  exact prop_ite captured (k.fault captured _ _ _ _ _ _ _)

theorem logProt (h : P t) (e : ProtEntry) (st : Status) : P (t.logProt e st) := by
  unfold State.logProt
  exact k.capture (prop_ite (k.mem h _) (k.raise (k.add h (count_fixed (by decide) (by decide)) 1) _ _ _)) _ _ _ _ _

theorem tagFail (h : P t) (agent fn core dom l cause : Nat) : P (t.tagFail agent fn core dom l cause) :=
  k.logProt (k.raise (k.add h (count_fixed (by decide) (by decide)) 1) _ _ _) _ _

theorem poison (h : P t) (l : Nat) : P (t.poison l) :=
  k.raise (k.add (k.add (k.mem h _) (count_wrLines _) 1) (count_fixed (by decide) (by decide)) 1) _ _ _

/-- A line that is met with a correctable error is written back. -/
theorem corrected (h : P t) (l : Nat) {c : Prop} [Decidable c] : P (if c then t.lineCe l else t) := prop_ite (k.lineCe h l) h

theorem homeRead (h : P t) (agent fn core dom l : Nat) : P (t.homeRead agent fn core dom l).1 := by
  have counted := k.add h (count_rdLines (stackOf l)) 1
  unfold State.homeRead
  split
  · exact k.lineUe h l fn 3
  dsimp only
  split
  · exact k.tagFail counted agent fn core dom l 3
  · exact k.lineUe counted l fn 1
  · simp only [apply_ite Prod.fst]
    exact prop_ite (k.corrected counted l) (prop_ite (k.corrected counted l) (k.tagFail (k.corrected counted l) agent fn core dom l 1))

theorem homeReadForMerge (h : P t) (agent fn core dom l : Nat) : P (t.homeReadForMerge agent fn core dom l).1 := by
  have counted := k.add h (count_rdLines (stackOf l)) 1
  unfold State.homeReadForMerge
  split
  · exact k.lineUe h l fn 3
  dsimp only
  split
  · exact k.tagFail counted agent fn core dom l 3
  · exact k.lineUe counted l fn 1
  · simp only [apply_ite Prod.fst]
    exact prop_ite (k.corrected counted l) (prop_ite (k.corrected counted l) (k.tagFail (k.poison (k.corrected counted l) l) agent fn core dom l 2))

theorem homeWrite (h : P t) (fn dom l : Nat) (d : List Byte) : P (t.homeWrite fn dom l d).1 := by
  have counted := k.add h (count_wrLines (stackOf l)) 1
  have cleared : P (if ((t.add (MS_WR_LINES (stackOf l)) 1).lineMeta l).code = .poison then (t.add (MS_WR_LINES (stackOf l)) 1).add POISON_CLR_CNT 1
      else t.add (MS_WR_LINES (stackOf l)) 1) := prop_ite (k.add counted (count_fixed (by decide) (by decide)) 1) counted
  unfold State.homeWrite
  simp only [apply_ite Prod.fst]
  exact prop_ite (k.lineUe h l fn 3) (prop_ite (k.mem cleared _) (k.mem cleared _))

/-! ### Caches and directories (R275, R280, R286, R289, R292) -/

theorem lineFault (h : P t) (core : Nat) (x : CacheLine) (w who : Nat) : P (t.lineFault core x w who) :=
  k.fault (k.capture (k.raise h _ _ _) _ _ _ _ _) _ _ _ _ _ _ _

theorem readOut (h : P t) (core : Nat) (x : CacheLine) : P (t.readOut core x) := by
  unfold State.readOut
  split
  · exact k.lineFault h _ _ _ _
  · exact prop_ite h (k.raise h _ _ _)
  · exact h

theorem writeBack (h : P t) (l fn dom : Nat) (y : Yield) : P (t.writeBack l fn dom y) := by
  unfold State.writeBack
  refine prop_ite h ?_
  split
  · exact h
  · exact k.homeWrite h _ _ _ _
  · exact prop_ite (k.lineUe h _ _ _) (k.lineUe (k.poison h l) _ _ _)

theorem crossing (h : P t) (core : Nat) : P (t.crossing core) := k.add (k.add h (count_fixed (by decide) (by decide)) 1) (count_crossing core) 1

theorem takeFill (h : P t) (core l : Nat) : P (t.takeFill core l) := by
  unfold State.takeFill
  split
  · exact h
  · exact prop_ite (k.mem h _) (k.writeBack (k.mem (k.mem h _) _) _ _ _ _)

theorem takeCached (h : P t) (core l : Nat) : P (t.takeCached core l) := by
  unfold State.takeCached
  split
  · exact h
  · exact k.writeBack (k.mem (k.readOut h core _) _) _ _ _ _

theorem takeEvicted (h : P t) (core l : Nat) : P (t.takeEvicted core l) := by
  unfold State.takeEvicted
  split
  · exact h
  · exact prop_ite h (k.crossing (k.add (k.writeBack (k.mem h _) _ _ _ _) (count_writeBack core) _) core)

theorem takeBack (h : P t) (core l : Nat) : P (t.takeBack core l) :=
  k.takeEvicted (k.takeCached (k.takeFill (k.add h (count_snoop core) 1) core l) core l) core l

theorem backInvalidate (h : P t) (e : DirEntry) : P (t.backInvalidate e) :=
  k.add (k.mem (foldl_of h fun _ c hu => k.takeBack hu c e.line) _) (count_fixed (by decide) (by decide)) 1

theorem installDir (h : P t) (l : Nat) (owner : Option Nat) (sharers : List Nat) : P (t.installDir l owner sharers) := by
  have room : P (t.dirRoom l) := by
    unfold State.dirRoom
    refine prop_ite h (prop_ite h ?_)
    split
    · exact h
    · exact k.backInvalidate h _
  exact k.mem (prop_ite h room) _

theorem install (h : P t) (core : Nat) (x : CacheLine) : P (t.install core x) := by
  have dropped : P (t.setCached core x.line none) := k.mem h _
  unfold State.install
  dsimp only
  split
  · exact k.mem dropped _
  · exact k.mem (k.mem (k.mem (k.readOut dropped core _) _) _) _
  · exact dropped

/-! ### Transactions (R287 to R295) -/

theorem finishTxn (h : P t) (x : Txn) : P (t.finishTxn x) := by
  have freed : P (t.setTxn x.line none) := k.mem h _
  unfold State.finishTxn
  refine foldl_of ?_ fun u c hu => k.mem hu _
  dsimp only
  split
  · split
    · exact k.installDir (k.mem (k.homeWrite freed _ _ _ _) _) _ _ _
    · have read := k.homeRead freed 0 x.fn x.core x.dom x.line
      exact prop_ite (k.installDir (k.mem read _) _ _ _) (k.mem (k.mem read _) _)
  · refine k.installDir (k.mem ?_ _) _ _ _
    split
    · exact k.homeWrite freed _ _ _ _
    · exact freed
  · exact k.installDir (k.mem freed _) _ _ _
  · split
    · exact k.installDir (k.mem freed _) _ _ _
    · have read := k.homeReadForMerge freed 0 x.fn x.core x.dom x.line
      exact prop_ite (k.installDir (k.mem read _) _ _ _) (k.mem (k.mem read _) _)

theorem nextTxn (h : P t) (l fuel : Nat) : P (t.nextTxn l fuel) := by
  have begun {u : State} (hu : P u) (x : Txn) : P (u.beginTxn x) := by
    unfold State.beginTxn
    exact prop_ite (k.finishTxn (k.mem hu _) _) (foldl_of (k.mem hu _) fun v c hv => k.mem hv _)
  induction fuel generalizing t with
  | zero => exact h
  | succ fuel ih =>
    unfold State.nextTxn
    refine prop_ite h ?_
    split
    · exact h
    · exact ih (begun (k.mem h _) _)

theorem progress (h : P t) (x : Txn) : P (t.progress x) := by
  unfold State.progress
  exact prop_ite (k.nextTxn (k.finishTxn (k.mem h _) _) _ _) (k.mem h _)

theorem cross (h : P t) (core l : Nat) : P (t.cross core l) := by
  unfold State.cross
  split
  · exact prop_ite h (k.crossing (k.mem h _) _)
  · exact h

theorem homeReply (h : P t) (m : Flight) : P (t.homeReply m) := by
  unfold State.homeReply
  split
  · exact h
  · refine prop_ite h ?_
    dsimp only
    split
    · exact k.progress h _
    · exact prop_ite (k.progress h _) (prop_ite (k.progress (k.cross h _ _) _) (k.progress h _))
    · exact k.progress h _

theorem coreSnoop (h : P t) (m : Flight) : P (t.coreSnoop m) := by
  have counted := k.add h (count_snoop m.core) 1
  unfold State.coreSnoop
  dsimp only
  split
  next x _ =>
    have read := k.readOut counted m.core x
    split
    · exact k.mem (k.mem read _) _
    · exact k.mem (k.writeBack (k.mem read _) _ _ _ _) _
  next => exact k.mem counted _

theorem homeEvict (h : P t) (core l : Nat) : P (t.homeEvict core l) := by
  unfold State.homeEvict
  split
  · exact h
  next e _ =>
    have taken : P ((t.setEvicted core l (some { e with arrived := true })).add (LC_WB_CNT core) (b2n e.owned)) := k.add (k.mem h _) (count_writeBack core) _
    refine prop_ite h ?_
    dsimp only
    split
    · exact k.progress (prop_ite (k.writeBack (k.cross taken core l) _ _ _ _) (k.cross taken core l)) _
    · exact k.mem (k.mem (k.writeBack taken _ _ _ _) _) _

theorem deliverOther (h : P t) (m : Flight) : P (t.deliverOther m) := by
  unfold State.deliverOther
  split
  · exact h
  · exact h
  · exact h
  · exact k.mem h _
  · exact k.coreSnoop h m
  · exact k.coreSnoop h m
  all_goals exact k.homeReply h m

theorem settleEvictions (h : P t) (l fuel : Nat) : P (t.settleEvictions l fuel) := by
  induction fuel generalizing t with
  | zero => exact h
  | succ fuel ih =>
    unfold State.settleEvictions
    split
    · exact ih (k.deliverOther (k.mem h _) _)
    · split
      · exact ih (k.homeEvict h _ l)
      · exact h

theorem coreFill (h : P t) (m : Flight) : P (t.coreFill m) := by
  have room {u : State} (hu : P u) : P (u.victimRoom m.core m.line) := by
    unfold State.victimRoom
    exact prop_ite (foldl_of hu fun v x hv => k.settleEvictions hv x _) hu
  unfold State.coreFill
  refine prop_ite h (prop_ite (k.mem h _) (k.install (room ?_) _ _))
  split
  · exact k.lineFault (k.free h _) _ _ _ _
  · exact h

theorem settled (h : P t) (l : Nat) : P (t.settled l) := by
  have deliver {u : State} (hu : P u) (m : Flight) : P (u.deliver m) := by
    unfold State.deliver
    exact prop_ite (k.nextTxn (k.coreFill hu m) _ _) (k.deliverOther hu m)
  have settle (fuel : Nat) {u : State} (hu : P u) : P (u.settle l fuel) := by
    induction fuel generalizing u with
    | zero => exact hu
    | succ fuel ih =>
      unfold State.settle
      split
      · exact ih (deliver (k.mem hu _) _)
      · split
        · exact ih (k.homeEvict hu _ l)
        · exact hu
  exact settle _ h

/-! ### Reads by an engine (R282, R291) -/

theorem downgrade (h : P t) (l : Nat) : P (t.downgrade l).1 := by
  unfold State.downgrade
  split
  · exact h
  next o _ =>
    have counted := k.add h (count_snoop o) 1
    dsimp only
    split
    · exact k.mem counted _
    next x _ =>
      have given := k.readOut counted o x
      split
      · exact k.mem (k.writeBack (k.mem given _) _ _ _ _) _
      · exact k.mem (k.writeBack (k.mem given _) _ _ _ _) _

theorem agentRead (h : P t) (agent fn core dom l : Nat) : P (t.agentRead agent fn core dom l).1 := by
  have owner := k.downgrade (k.settled h l) l
  unfold State.agentRead State.homeFetch
  split
  next u d eq => rwa [eq] at owner
  next u eq =>
    rw [eq] at owner
    exact k.homeRead owner agent fn core dom l

theorem agentHbm (h : P t) (agent fn core who addr n : Nat) : P (t.hbmRead (.home agent) fn core who addr n).1 := by
  unfold State.hbmRead
  split
  · exact h
  split
  · exact h
  split
  · exact h
  · exact foldl_fst_of h fun x a hx => k.agentRead hx agent fn core _ a.1

theorem engineRead (h : P t) (agent fn fuel addr n : Nat) : P (t.engineRead agent fn fuel addr n).1 := by
  induction fuel generalizing t addr n with
  | zero => exact h
  | succ fuel ih =>
    have first := k.agentHbm h agent fn 0 0 addr (min n (2 ^ 21 - addr % 2 ^ 21))
    unfold State.engineRead
    split
    · exact h
    · dsimp only
      split
      next u b eq =>
        rw [eq] at first
        exact ih first _ _
      next u st b _ eq => rwa [eq] at first

/-! ### Writes of a store (R275) -/

theorem setStoreErrs (h : P t) (i : Nat) (m : Map WordErr) : P (t.setStoreErrs i m) := by
  unfold State.setStoreErrs
  exact prop_ite (k.mem h _) (k.mem h _)

theorem storePut (h : P t) (i core addr : Nat) (bs : List Byte) : P (t.storePut i core addr bs) := by
  unfold State.storePut
  exact prop_ite (k.mem h _) (k.mem h _)

theorem storeCe (h : P t) (i core addr : Nat) : P (t.storeCe i core addr) :=
  k.raise (k.set (k.add (k.setStoreErrs h i _) (count_storeCe core i) 1) (count_storeErr core i) _) _ _ _

theorem storeUe (h : P t) (i core addr who : Nat) : P (t.storeUe i core addr who) :=
  k.fault (k.capture (k.raise (k.set (k.add h (count_storeUe core i) 1) (count_storeErr core i) _) _ _ _) _ _ _ _ _) _ _ _ _ _ _ _

theorem storeWrite (h : P t) (i core addr who : Nat) (bs : List Byte) : P (t.storeWrite i core addr who bs).1 := by
  have word {u : State} (hu : P u) (a : Nat) (b : List Byte) : P (u.storeWordWrite i core who a b).1 := by
    unfold State.storeWordWrite
    dsimp only
    split
    · exact k.storePut (k.setStoreErrs hu i _) i core a b
    split
    · exact k.storeUe hu i core a who
    · exact k.storePut (k.storeCe hu i core a) i core a b
    · exact k.storePut hu i core a b
  unfold State.storeWrite
  split
  · exact k.storePut h i core addr bs
  · exact foldl_fst_of h fun x a hx => word hx a.1 a.2

/-! ### Reads of host memory (R429, R446, R449) -/

theorem hostAbort (h : P t) (fn agent cause iova : Nat) : P (t.hostAbort fn agent cause iova) := by
  have counted {u : State} (hu : P u) : P ((u.add HI_ABORT_CNT 1).add (FN_ABORT_CNT fn) 1) := k.add (k.add hu (count_fixed (by decide) (by decide)) 1) (count_abort fn) 1
  exact k.capture (k.free (k.free (k.raise (counted (prop_ite (k.host h _) (k.raise h _ _ _))) _ _ _) _) _) _ _ _ _ _

theorem readFailed (h : P t) (fn agent iova : Nat) (o : ReadOutcome) : P (t.readFailed fn agent iova o) := by
  have reported (correctable : Bool) : P (t.aer correctable) := by
    unfold State.aer
    exact prop_ite (k.raise (k.add h (count_fixed (by decide) (by decide)) 1) _ _ _) (k.raise (k.add h (count_fixed (by decide) (by decide)) 1) _ _ _)
  cases o with
  | data => exact h
  | unsupported => exact k.hostAbort (reported true) _ _ _ _
  | timeout => exact k.hostAbort (reported false) _ _ _ _
  | poisoned => exact k.hostAbort (reported true) _ _ _ _

theorem hostFetch (h : P t) (fn agent iova n : Nat) (o : ReadOutcome) : P (t.hostFetch fn agent iova n o).1 := by
  unfold State.hostFetch
  split
  · exact h
  split
  · exact h
  split
  · exact k.hostAbort h _ _ _ _
  split
  · exact k.hostAbort h _ _ _ _
  split
  · exact h
  · exact k.readFailed h _ _ _ _

end

end AccessKeeps

end Sys2Proof.Proofs

/-!
The registers of a weight set and what its commands share (R341, R346, R347, R354, R355, R568): the chip epoch, CUR, the valid masks, a command that is refused or carried out.
-/

namespace Sys2Proof.Proofs

open Sys2Proof.Machine Sys2Proof.Laws Sys2Proof.Claims

/-! ### The fields of a set's page (R354) -/

/-- Where the fields of a set's page stand: for every set in the same order. -/
@[simp] theorem wset_keys (e : Nat) :
    (WSET_CFG_MODE e).key = e * 0x20000 + 0x6420800 ∧ (WSET_CFG_CORES e).key = e * 0x20000 + 0x6420810 ∧ (WSET_LEN e).key = e * 0x20000 + 0x6420880 ∧
    (WSET_BASE0 e).key = e * 0x20000 + 0x6420900 ∧ (WSET_BASE1 e).key = e * 0x20000 + 0x6420980 ∧ (WSET_OPCORES e).key = e * 0x20000 + 0x6420E80 ∧
    (WSET_STAT_STATE e).key = e * 0x20000 + 0x6420F80 ∧ (WSET_STAT_CUR e).key = e * 0x20000 + 0x6420F83 ∧ (WSET_STAT_RESULT e).key = e * 0x20000 + 0x6420F88 ∧
    (WSET_VALID0 e).key = e * 0x20000 + 0x6421000 ∧ (WSET_VALID1 e).key = e * 0x20000 + 0x6421080 ∧ (SW_TICK_LO e).key = e * 0x20000 + 0x6421200 ∧
    (SW_TICK_HI e).key = e * 0x20000 + 0x6421280 ∧ (SW_CNT e).key = e * 0x20000 + 0x6421300 ∧ (SW_TIME_NS e).key = e * 0x20000 + 0x6421380 ∧
    (SW_TIME_SEC e).key = e * 0x20000 + 0x6421400 := by
  simp only [Field.key, WSET_CFG_MODE, WSET_CFG_CORES, WSET_LEN, WSET_BASE0, WSET_BASE1, WSET_OPCORES, WSET_STAT_STATE, WSET_STAT_CUR, WSET_STAT_RESULT, WSET_VALID0, WSET_VALID1,
    SW_TICK_LO, SW_TICK_HI, SW_CNT, SW_TIME_NS, SW_TIME_SEC]
  omega

@[simp] theorem wset_widths (e : Nat) : (WSET_STAT_STATE e).width = 3 ∧ (WSET_STAT_CUR e).width = 1 ∧ (WSET_STAT_RESULT e).width = 8 ∧ (WSET_VALID0 e).width = 16 ∧
    (WSET_VALID1 e).width = 16 ∧ (SW_CNT e).width = 32 ∧ (SW_TIME_NS e).width = 30 := ⟨rfl, rfl, rfl, rfl, rfl, rfl, rfl⟩

/-- A field of the pages of the sets. -/
def OnSets (f : Field) : Prop := 0x6420000 ≤ f.key ∧ f.key < 0x6520000

/-- The fields that a set's commands show are on its page. -/
theorem onSets (e : Nat) (low : e < 8) : OnSets (WSET_STAT_STATE e) ∧ OnSets (WSET_STAT_CUR e) ∧ OnSets (WSET_STAT_RESULT e) ∧ OnSets (WSET_VALID0 e) ∧ OnSets (WSET_VALID1 e) ∧
    OnSets (SW_CNT e) ∧ OnSets (SW_TIME_NS e) ∧ OnSets (SW_TIME_SEC e) := by
  simp only [OnSets, wset_keys]
  omega

/-! ### What stays where only registers change -/

section

variable {s t : State}

theorem SameButRegs.wset (h : SameButRegs s t) (e : Nat) : t.wset e = s.wset e := by
  obtain ⟨r, rfl⟩ := h
  rfl

theorem SameButRegs.shows (h : SameButRegs s t) (fn page bit : Nat) : t.shows fn page bit = s.shows fn page bit := by
  obtain ⟨r, rfl⟩ := h
  rfl

theorem SameButRegs.foldl {γ : Type} {g : State → γ → State} {l : List γ} (each : ∀ u x, SameButRegs u (g u x)) (s : State) : SameButRegs s (l.foldl g s) :=
  foldl_keeps .refl (fun _ _ _ => .trans) (fun u x _ => each u x) s

theorem coreOn_of_power (h : t.power = s.power) : t.coreOn = s.coreOn := by
  funext core
  unfold State.coreOn State.pageOn State.domOn State.dom
  rw [h]

theorem wset_of_work (h : t.work = s.work) (e : Nat) : t.wset e = s.wset e := by
  unfold State.wset
  rw [h]

theorem restState_of_wset {e : Nat} (h : t.wset e = s.wset e) : t.restState e = s.restState e := by
  unfold State.restState
  rw [h]

end

/-! ### The command in progress and a failed reload (R347) -/

@[simp] theorem get_setJob (s : State) (e : Nat) (j : Option SetJob) (f : Field) : (s.setJob e j).get f = s.get f := rfl

@[simp] theorem get_setFailed (s : State) (e : Nat) (b : Bool) (f : Field) : (s.setFailed e b).get f = s.get f := rfl

@[simp] theorem wset_setJob (s : State) (e : Nat) (j : Option SetJob) : (s.setJob e j).wset e = { s.wset e with job := j } := State.wset_setWset_self _ _ _

@[simp] theorem wset_setFailed (s : State) (e : Nat) (b : Bool) : (s.setFailed e b).wset e = { s.wset e with failed := b } := State.wset_setWset_self _ _ _

@[simp] theorem wset_set (s : State) (f : Field) (v e : Nat) : (s.set f v).wset e = s.wset e := rfl

@[simp] theorem wset_raise (s : State) (page bit e : Nat) : (s.raise page bit).wset e = s.wset e := wset_of_work (State.raise_work _ _ _) e

@[simp] theorem restState_setJob (s : State) (e : Nat) (j : Option SetJob) : (s.setJob e j).restState e = s.restState e := by
  unfold State.restState
  rw [wset_setJob]

@[simp] theorem restState_setFailed (s : State) (e : Nat) (b : Bool) : (s.setFailed e b).restState e = if b then 6 else 1 := by
  unfold State.restState
  rw [wset_setFailed]

/-- The code of a set at rest fits STATE. -/
theorem restState_fits (s : State) (e : Nat) : s.restState e % 2 ^ 3 = s.restState e := by
  unfold State.restState
  split <;> rfl

/-! ### The chip epoch (R568) -/

theorem bumpEpoch_same (s : State) : SameButRegs s s.bumpEpoch := (SameButRegs.set s _ _).trans (.foldl (fun u _ => .set u _ _) _)

theorem bumpEpoch_onlyRegs (s : State) : OnlyRegs (CHIP_EPOCH :: (List.range 16).map CORE_EPOCH) s s.bumpEpoch := by
  have first : OnlyRegs (CHIP_EPOCH :: (List.range 16).map CORE_EPOCH) s (s.set CHIP_EPOCH ((s.get CHIP_EPOCH + 1) % 2 ^ 32)) := (OnlyRegs.refl _ s).set List.mem_cons_self _
  refine first.trans (foldl_keeps (.refl _) (fun _ _ _ => .trans) (fun u n hn => (OnlyRegs.refl _ u).set ?_ _) _)
  exact List.mem_cons_of_mem _ (List.mem_map_of_mem (List.mem_of_mem_filter hn))

/-- The epochs of the cores stand below the pages of the sets, that of the chip above them. -/
theorem epoch_off_sets {f : Field} (onSet : OnSets f) : f.key ∉ (CHIP_EPOCH :: (List.range 16).map CORE_EPOCH).map Field.key := by
  obtain ⟨low, high⟩ := onSet
  simp only [List.map_cons, List.map_map, List.mem_cons, List.mem_map, List.mem_range, not_or, not_exists, not_and, Function.comp_apply, Field.key, CHIP_EPOCH, CORE_EPOCH] at low high ⊢
  refine ⟨by omega, fun n _ => by omega⟩

/-- A bump leaves the fields of the sets. -/
theorem bumpEpoch_get {f : Field} (onSet : OnSets f) (s : State) : s.bumpEpoch.get f = s.get f := bumpEpoch_onlyRegs s f (epoch_off_sets onSet)

/-- CHIP_EPOCH is on no page of a set. -/
theorem chip_apart {f : Field} (onSet : OnSets f) : CHIP_EPOCH.key ≠ f.key := by
  rw [show CHIP_EPOCH.key = 0xE000C00 from rfl]
  unfold OnSets at onSet
  omega

theorem bumpEpoch_chip (s : State) : s.bumpEpoch.get CHIP_EPOCH = (s.get CHIP_EPOCH + 1) % 2 ^ 32 := by
  have cores : OnlyRegs ((List.range 16).map CORE_EPOCH) (s.set CHIP_EPOCH ((s.get CHIP_EPOCH + 1) % 2 ^ 32)) s.bumpEpoch :=
    foldl_keeps (.refl _) (fun _ _ _ => .trans) (fun u n hn => (OnlyRegs.refl _ u).set (List.mem_map_of_mem (List.mem_of_mem_filter hn)) _) _
  rw [cores CHIP_EPOCH (by decide), State.get_set_self]
  exact Nat.mod_mod _ _

/-! ### CUR (R354, R568) -/

/-- R354, R568. The fields that a change of CUR writes. -/
def curFields (e : Nat) : List Field := [WSET_STAT_CUR e, SW_TIME_NS e, SW_TIME_SEC e, CHIP_EPOCH] ++ (List.range 16).map CORE_EPOCH

theorem setCur_same (s : State) (e v : Nat) : SameButRegs s (s.setCur e v) := by
  unfold State.setCur
  split
  · exact .refl s
  · exact (((SameButRegs.set _ _ _).trans (.set _ _ _)).trans (.set _ _ _)).trans (bumpEpoch_same _)

theorem setCur_onlyRegs (s : State) (e v : Nat) : OnlyRegs (curFields e) s (s.setCur e v) := by
  unfold State.setCur
  split
  · exact .refl _ s
  · refine OnlyRegs.trans ((((OnlyRegs.refl _ s).set ?_ v).set ?_ _).set ?_ _) (onlyRegs_mono (fun f hf => ?_) (bumpEpoch_onlyRegs _))
    · simp [curFields]
    · simp [curFields]
    · simp [curFields]
    · exact List.mem_append.mpr ((List.mem_cons.mp hf).imp (fun same => by simp [same]) id)

/-- A change of CUR leaves the other fields of a set. -/
theorem setCur_get {e : Nat} {f : Field} (onSet : OnSets f) (cur : f.key ≠ (WSET_STAT_CUR e).key) (ns : f.key ≠ (SW_TIME_NS e).key) (sec : f.key ≠ (SW_TIME_SEC e).key) (s : State) (v : Nat) :
    (s.setCur e v).get f = s.get f := by
  unfold State.setCur
  split
  · rfl
  · rw [bumpEpoch_get onSet, State.get_set_ne sec, State.get_set_ne ns, State.get_set_ne cur]

theorem setCur_cur {e v : Nat} (low : e < 8) (bit : v < 2) (s : State) : (s.setCur e v).get (WSET_STAT_CUR e) = v := by
  obtain ⟨-, onSet, -⟩ := onSets e low
  unfold State.setCur
  split
  next same => exact same
  next =>
    rw [bumpEpoch_get onSet, State.get_set_ne (by simp), State.get_set_ne (by simp), State.get_set_self]
    exact Nat.mod_eq_of_lt bit

/-- R354, R568. A change of CUR is timed and counted in the epoch. -/
theorem setCur_changes {s : State} {e v : Nat} (low : e < 8) (change : s.get (WSET_STAT_CUR e) ≠ v) :
    (s.setCur e v).get (SW_TIME_NS e) = s.time.ns % 2 ^ 30 ∧ (s.setCur e v).get CHIP_EPOCH = (s.get CHIP_EPOCH + 1) % 2 ^ 32 := by
  obtain ⟨-, cur, -, -, -, -, ns, sec⟩ := onSets e low
  unfold State.setCur
  rw [if_neg change, bumpEpoch_get ns, bumpEpoch_chip, State.get_set_ne (by simp), State.get_set_self, State.get_set_ne (chip_apart sec), State.get_set_ne (chip_apart ns),
    State.get_set_ne (chip_apart cur)]
  exact ⟨rfl, rfl⟩

/-! ### The valid masks (R332, R344, R354) -/

/-- The mask of a copy is one of the two. -/
theorem validField_cases (s : State) (e k : Nat) : s.validField e k = WSET_VALID0 e ∨ s.validField e k = WSET_VALID1 e := ite_eq_or_eq _ _ _

theorem setHolds_same (s : State) (e k core : Nat) (b : Bool) : SameButRegs s (s.setHolds e k core b) := .set _ _ _

theorem setHolds_onlyRegs (s : State) (e k core : Nat) (b : Bool) : OnlyRegs [WSET_VALID0 e, WSET_VALID1 e] s (s.setHolds e k core b) := by
  refine (OnlyRegs.refl _ s).set ?_ _
  rcases validField_cases s e k with mask | mask <;> simp [mask]

/-! ### The start of a fill or reload (R341, R345, R347) -/

/-- R341. The valid bits of the cores of a fill or reload are clear. -/
def partsCleared (s : State) (e : Nat) (j : SetJob) : State := j.parts.foldl (fun t n => t.setHolds e j.copy n false) s

theorem startParts_eq (s : State) (e : Nat) (j : SetJob) :
    s.startParts e j = (partsCleared s e j).setJob e (some { j with parts := j.parts.filter s.coreOn, waiting := false }) := rfl

theorem partsCleared_same (s : State) (e : Nat) (j : SetJob) : SameButRegs s (partsCleared s e j) := .foldl (fun u n => setHolds_same u e j.copy n false) s

theorem partsCleared_onlyRegs (s : State) (e : Nat) (j : SetJob) : OnlyRegs [WSET_VALID0 e, WSET_VALID1 e] s (partsCleared s e j) :=
  foldl_keeps (.refl _) (fun _ _ _ => .trans) (fun u n _ => setHolds_onlyRegs u e j.copy n false) s

theorem startParts_job (s : State) (e : Nat) (j : SetJob) : ((s.startParts e j).wset e).job = some { j with parts := j.parts.filter s.coreOn, waiting := false } := by
  rw [startParts_eq, wset_setJob]

/-- The start of a fill or reload shows in the valid masks alone. -/
theorem startParts_get {e : Nat} {f : Field} (zero : f.key ≠ (WSET_VALID0 e).key) (one : f.key ≠ (WSET_VALID1 e).key) (s : State) (j : SetJob) : (s.startParts e j).get f = s.get f := by
  rw [startParts_eq, get_setJob]
  refine partsCleared_onlyRegs s e j f ?_
  simp only [List.map_cons, List.map_nil, List.mem_cons, List.not_mem_nil, or_false, not_or]
  exact ⟨zero, one⟩

/-! ### Commands (R341, R348, R355) -/

section

variable {s : State} {fn e op copy core : Nat} {c : Instr} {check : State → Status} {body : State → State}

theorem wsetCmd_busy (reach : s.Reaches fn (0x321 + e)) (flowing : s.Flowing) (busy : s.wsetBusy e = true) :
    wsetCmd fn e op copy core c s check body = .next (s.wsetError e op copy core 0 .badParam) := by
  unfold wsetCmd
  rw [command_runs reach flowing, if_pos busy]

theorem wsetCmd_idle (reach : s.Reaches fn (0x321 + e)) (flowing : s.Flowing) (idle : s.wsetBusy e = false) : wsetCmd fn e op copy core c s check body =
    .next (if check s = .ok then body (s.set (WSET_STAT_RESULT e) 0) else s.wsetError e op copy core 0 (check s)) := by
  unfold wsetCmd
  rw [command_runs reach flowing, idle]
  split
  · contradiction
  · split
    next ok => exact congrArg Host.Outcome.next (if_pos ok).symm
    next refused => exact congrArg Host.Outcome.next (if_neg refused).symm

/-- A command that its rule allows is carried out, with OK in RESULT. -/
theorem wsetCmd_runs (reach : s.Reaches fn (0x321 + e)) (flowing : s.Flowing) (idle : s.wsetBusy e = false) (allowed : check s = .ok) :
    wsetCmd fn e op copy core c s check body = .next (body (s.set (WSET_STAT_RESULT e) 0)) := by
  rw [wsetCmd_idle reach flowing idle, if_pos allowed]

theorem wsetCmd_refused (reach : s.Reaches fn (0x321 + e)) (flowing : s.Flowing) (idle : s.wsetBusy e = false) (refused : check s ≠ .ok) :
    wsetCmd fn e op copy core c s check body = .next (s.wsetError e op copy core 0 (check s)) := by
  rw [wsetCmd_idle reach flowing idle, if_neg refused]

end

end Sys2Proof.Proofs

/-!
The commands of a weight set (R338, R341, R346 to R348, R352, R355): what each that its rule allows leaves, and the refusals.
-/

namespace Sys2Proof.Proofs

open Sys2Proof.Machine Sys2Proof.Laws Sys2Proof.Claims

section

variable {s : State} {fn e : Nat}

/-! ### APPLY (R352) -/

/-- R352. A set has taken a configuration: CUR and the valid masks are clear. -/
def setApplied (s : State) (e : Nat) (c : SetCfg) : State :=
  ((((s.setCur e 0).setWset e { cfg := if c.mode = 0 then none else some c }).set (WSET_VALID0 e) 0).set (WSET_VALID1 e) 0).set (WSET_STAT_STATE e) (b2n (c.mode != 0))

theorem wsetRegs_result (s : State) (e v : Nat) : (s.set (WSET_STAT_RESULT e) v).wsetRegs e = s.wsetRegs e := by
  unfold State.wsetRegs
  simp [State.get_set_ne]

theorem exec_wsetApply (fn e : Nat) (s : State) :
    exec (.wsetApply fn e) s = wsetCmd fn e 1 0 0 (.wsetApply fn e) s (·.wsetApplyStatus e) fun s => setApplied s e (s.wsetRegs e) := rfl

theorem setApplied_wset (s : State) (e : Nat) (c : SetCfg) : (setApplied s e c).wset e = { cfg := if c.mode = 0 then none else some c } := State.wset_setWset_self _ _ _

/-- R352. Beside the fields of a change of CUR, an APPLY shows in the valid masks and STATE. -/
theorem setApplied_onlyRegs (s : State) (e : Nat) (c : SetCfg) : OnlyRegs ([WSET_VALID0 e, WSET_VALID1 e, WSET_STAT_STATE e] ++ curFields e) s (setApplied s e c) :=
  ((((onlyRegs_mono (fun _ => List.mem_append_right _) (setCur_onlyRegs s e 0)).of_regs rfl).set (by simp) 0).set (by simp) 0).set (by simp) _

theorem setApplied_get {e : Nat} {f : Field} (state : f.key ≠ (WSET_STAT_STATE e).key) (one : f.key ≠ (WSET_VALID1 e).key) (zero : f.key ≠ (WSET_VALID0 e).key) (s : State) (c : SetCfg) :
    (setApplied s e c).get f = (s.setCur e 0).get f := by
  unfold setApplied
  rw [State.get_set_ne state, State.get_set_ne one, State.get_set_ne zero, State.get_setWset]

theorem setApplied_clears {e : Nat} (low : e < 8) (s : State) (c : SetCfg) : (setApplied s e c).get (WSET_VALID0 e) = 0 ∧ (setApplied s e c).get (WSET_VALID1 e) = 0 ∧
    (setApplied s e c).get (WSET_STAT_CUR e) = 0 ∧ (setApplied s e c).get (WSET_STAT_STATE e) = b2n (c.mode != 0) := by
  refine ⟨?zero, ?one, ?cur, ?state⟩
  case cur => rw [setApplied_get (by simp) (by simp) (by simp), setCur_cur low (by decide)]
  all_goals unfold setApplied
  case zero =>
    rw [State.get_set_ne (by simp), State.get_set_ne (by simp), State.get_set_self]
    rfl
  case one =>
    rw [State.get_set_ne (by simp), State.get_set_self]
    rfl
  case state =>
    rw [State.get_set_self]
    cases c.mode != 0 <;> rfl

/-- R568. An APPLY that changes CUR is timed and counted in the epoch. -/
theorem setApplied_changes {s : State} {e : Nat} (low : e < 8) (change : s.get (WSET_STAT_CUR e) ≠ 0) (c : SetCfg) :
    (setApplied s e c).get (SW_TIME_NS e) = s.time.ns % 2 ^ 30 ∧ (setApplied s e c).get CHIP_EPOCH = (s.get CHIP_EPOCH + 1) % 2 ^ 32 := by
  obtain ⟨state, -, -, zero, one, -⟩ := onSets e low
  rw [setApplied_get (by simp) (by simp) (by simp), setApplied_get (chip_apart state) (chip_apart one) (chip_apart zero)]
  exact setCur_changes low change

/-! ### FILL and MAN_APPLY (R338, R341) -/

/-- R341. The fill that a FILL asks for: the cores of the set that OPCORES names. -/
def fillJob (s : State) (e copy : Nat) : SetJob :=
  { op := 2, copy := copy % 2, parts := coresOf (match (s.wset e).cfg with | some c => c.cores &&& s.get (WSET_OPCORES e) | none => 0) }

theorem exec_wsetFill (fn e copy : Nat) (s : State) :
    exec (.wsetFill fn e copy) s = wsetCmd fn e 2 (copy % 2) 0 (.wsetFill fn e copy) s (·.copyStatus e (copy % 2)) fun s => s.acceptJob e (fillJob s e copy) := rfl

theorem fillJob_result {c : SetCfg} (cfg : (s.wset e).cfg = some c) (copy v : Nat) :
    fillJob (s.set (WSET_STAT_RESULT e) v) e copy = { op := 2, copy := copy % 2, parts := coresOf (c.cores &&& s.get (WSET_OPCORES e)) } := by
  unfold fillJob
  rw [wset_set, cfg]
  simp [State.get_set_ne]

theorem exec_manApply (fn e copy core ctx : Nat) (s : State) : exec (.manApply fn e copy core ctx) s =
    wsetCmd fn e 6 (copy % 2) (core % 16) (.manApply fn e copy core ctx) s (·.manStatus e (copy % 2) (core % 16) (ctx % 16))
      fun s => s.acceptJob e { op := 6, copy := copy % 2, core := core % 16, ctx := ctx % 16 } := rfl

/-- R341. A fill of a copy that no item is bound to, with a core that is ON, starts: FILLING, its parts those of the cores that are ON. -/
theorem acceptJob_fills {j : SetJob} {n : Nat} (free : s.boundCnt e j.copy = 0) (fill : j.op = 2) (part : n ∈ j.parts) (isOn : s.coreOn n = true) :
    s.acceptJob e j = (s.set (WSET_STAT_STATE e) 5).startParts e j := by
  have nonempty : (j.parts.filter s.coreOn).isEmpty = false := List.isEmpty_eq_false_iff_exists_mem.mpr ⟨n, List.mem_filter.mpr ⟨part, isOn⟩⟩
  have power : (s.set (WSET_STAT_STATE e) 5).coreOn = s.coreOn := coreOn_of_power rfl
  unfold State.acceptJob State.startJob
  rw [if_pos free, if_neg (by rw [fill]; decide)]
  simp only [startParts_job, power, nonempty, Bool.false_eq_true, if_false]

/-! ### SWITCH (R346, R347) -/

theorem switchOk_dual {c : SetCfg} (cfg : (s.wset e).cfg = some c) (dual : c.mode = 2) :
    s.switchOk e = (coresOf c.cores).all (fun n => !s.coreOn n || s.holds e (1 - s.get (WSET_STAT_CUR e)) n) := by
  unfold State.switchOk
  simp [cfg, dual]

theorem switchOk_single {c : SetCfg} (cfg : (s.wset e).cfg = some c) (single : c.mode ≠ 2) : s.switchOk e = true := by
  unfold State.switchOk
  simp [cfg, single]

/-- R346. A DUAL set has switched. -/
def setSwitched (s : State) (e : Nat) : State := ((((s.flipCur e).add (SW_CNT e) 1).set (WSET_STAT_STATE e) (s.restState e)).raise (0x321 + e) 0)

theorem doSwitch_dual {c : SetCfg} (cfg : (s.wset e).cfg = some c) (dual : c.mode = 2) : s.doSwitch e = setSwitched s e := by
  unfold State.doSwitch
  rw [cfg]
  exact if_pos dual

theorem doSwitch_single {c : SetCfg} (cfg : (s.wset e).cfg = some c) (single : c.mode ≠ 2) : s.doSwitch e = s.set (WSET_STAT_STATE e) 3 := by
  unfold State.doSwitch
  rw [cfg]
  exact if_neg single

theorem exec_wsetSwitch (fn e : Nat) (s : State) :
    exec (.wsetSwitch fn e) s = wsetCmd fn e 3 0 0 (.wsetSwitch fn e) s (fun s => if s.switchOk e then .ok else .badParam) (·.doSwitch e) := rfl

theorem setSwitched_get {e : Nat} {f : Field} (state : f.key ≠ (WSET_STAT_STATE e).key) (cnt : f.key ≠ (SW_CNT e).key) (s : State) : (setSwitched s e).get f = (s.flipCur e).get f := by
  unfold setSwitched
  rw [State.raise_get, State.get_set_ne state, State.get_add_ne cnt]

theorem setSwitched_state (s : State) (e : Nat) : (setSwitched s e).get (WSET_STAT_STATE e) = s.restState e := by
  unfold setSwitched
  rw [State.raise_get, State.get_set_self]
  exact restState_fits s e

theorem setSwitched_cnt {e : Nat} (low : e < 8) (s : State) : (setSwitched s e).get (SW_CNT e) = (s.get (SW_CNT e) + 1) % 2 ^ 32 := by
  obtain ⟨-, -, -, -, -, cnt, -⟩ := onSets e low
  unfold setSwitched State.flipCur
  rw [State.raise_get, State.get_set_ne (by simp), State.get_add_self, setCur_get cnt (by simp) (by simp) (by simp)]
  rfl

/-- R346, R354, R568. A switch flips CUR, which is timed and counted in the epoch; the valid masks stay. -/
theorem setSwitched_flips {e : Nat} (low : e < 8) (s : State) : (setSwitched s e).get (WSET_STAT_CUR e) = 1 - s.get (WSET_STAT_CUR e) ∧
    (setSwitched s e).get CHIP_EPOCH = (s.get CHIP_EPOCH + 1) % 2 ^ 32 ∧ (setSwitched s e).get (SW_TIME_NS e) = s.time.ns % 2 ^ 30 ∧
    (setSwitched s e).get (WSET_VALID0 e) = s.get (WSET_VALID0 e) ∧ (setSwitched s e).get (WSET_VALID1 e) = s.get (WSET_VALID1 e) := by
  obtain ⟨state, -, -, zero, one, cnt, -⟩ := onSets e low
  obtain ⟨time, epoch⟩ := setCur_changes low (s := s) (v := 1 - s.get (WSET_STAT_CUR e)) (by omega)
  refine ⟨?cur, ?epoch, ?time, ?zero, ?one⟩
  case cur => exact (setSwitched_get (by simp) (by simp) s).trans (setCur_cur low (by omega) s)
  case epoch => exact (setSwitched_get (chip_apart state) (chip_apart cnt) s).trans epoch
  case time => exact (setSwitched_get (by simp) (by simp) s).trans time
  case zero => exact (setSwitched_get (by simp) (by simp) s).trans (setCur_get zero (by simp) (by simp) (by simp) s _)
  case one => exact (setSwitched_get (by simp) (by simp) s).trans (setCur_get one (by simp) (by simp) (by simp) s _)

/-! ### ARM and DISARM (R348) -/

/-- R348. A set is armed for its tick. -/
def setArmed (s : State) (e : Nat) : State :=
  (s.setWset e { s.wset e with target := s.pair (SW_TICK_LO e) (SW_TICK_HI e), due := false }).set (WSET_STAT_STATE e) 2

theorem exec_wsetArm (fn e : Nat) (s : State) : exec (.wsetArm fn e) s =
    wsetCmd fn e 4 0 0 (.wsetArm fn e) s (fun s => if (s.wset e).cfg.isSome then .ok else .badParam) fun s => (setArmed s e).armTick s.deliveredTick e := rfl

/-- The ticks delivered are told by the registers and the time of the timebase. -/
theorem deliveredTick_set {f : Field} (onSet : OnSets f) (s : State) (v : Nat) : (s.set f v).deliveredTick = s.deliveredTick := by
  have apart {g : Field} (below : g.key < 0x6420000) : g.key ≠ f.key := Nat.ne_of_lt (Nat.lt_of_lt_of_le below onSet.1)
  unfold State.deliveredTick State.tickIndex
  rw [on_set_ne (apart (by decide)), State.get_set_ne (apart (by decide))]
  rfl

/-- R348. A set whose tick is still to come stays armed. -/
theorem armTick_waits {tick : Nat} (later : tick < s.pair (SW_TICK_LO e) (SW_TICK_HI e)) : (setArmed s e).armTick tick e = setArmed s e := by
  refine if_neg fun passed => ?_
  have recorded := passed.2
  rw [setArmed, wset_set, State.wset_setWset_self] at recorded
  exact absurd recorded (Nat.not_le.mpr later)

/-- R348. DISARM ends ARMED. -/
def setDisarmed (s : State) (e : Nat) : State :=
  ((s.setWset e { s.wset e with due := false }).set (WSET_STAT_STATE e) (s.restState e)).set (WSET_STAT_RESULT e) 0

theorem exec_wsetDisarm (reach : s.Reaches fn (0x321 + e)) (flowing : s.Flowing) (armed : s.get (WSET_STAT_STATE e) = 2) : exec (.wsetDisarm fn e) s = .next (setDisarmed s e) := by
  show execWsetDisarm fn e s = _
  unfold execWsetDisarm
  rw [command_runs reach flowing, if_pos armed]
  rfl

end

/-- Settles O26: a command that its rule allows is carried out with OK in RESULT (`wsetCmd_runs`), one that is refused shows its status (`wsetCmd_refused`, `wsetCmd_busy`). -/
theorem weightSetCommands : Obligations.WeightSetCommands := by
  refine ⟨?apply, ?applyRefused, ?fill, ?man, ?waits, ?starts, ?switch, ?switchRefused, ?drain, ?arm, ?disarm, ?busy⟩
  case apply =>
    intro fn e s reach flowing low idle allowed
    obtain ⟨zero, one, cur, state⟩ := setApplied_clears low (s.set (WSET_STAT_RESULT e) 0) (s.wsetRegs e)
    obtain ⟨-, -, result, -⟩ := onSets e low
    refine .of_next ((exec_wsetApply fn e s).trans (wsetCmd_runs reach flowing idle allowed)) ?_
    rw [wsetRegs_result]
    refine ⟨congrArg WeightSet.cfg (setApplied_wset _ e _), zero, one, cur, state, ?result, fun change => ?change, ?regs⟩
    case result =>
      rw [setApplied_get (by simp) (by simp) (by simp), setCur_get result (by simp) (by simp) (by simp), State.get_set_self]
      rfl
    case change =>
      obtain ⟨time, epoch⟩ := setApplied_changes low (s := s.set (WSET_STAT_RESULT e) 0) (by rwa [State.get_set_ne (by simp)]) (s.wsetRegs e)
      rw [State.get_set_ne (chip_apart result)] at epoch
      exact ⟨time, epoch⟩
    case regs =>
      refine ((OnlyRegs.refl _ s).set (by simp) 0).trans (onlyRegs_mono (fun f hf => ?_) (setApplied_onlyRegs _ e _))
      simp only [curFields, List.mem_append, List.mem_cons, List.not_mem_nil, or_false] at hf ⊢
      tauto
  case applyRefused => exact fun fn e s reach flowing _ idle refused => (exec_wsetApply fn e s).trans (wsetCmd_refused reach flowing idle refused)
  case fill =>
    intro fn e copy c s reach flowing _ idle allowed cfg
    rw [exec_wsetFill, wsetCmd_runs reach flowing idle allowed, fillJob_result cfg]
  case man => exact fun fn e copy core ctx s reach flowing _ idle allowed => (exec_manApply fn e copy core ctx s).trans (wsetCmd_runs reach flowing idle allowed)
  case waits => exact fun e j s bound => if_neg bound
  case starts =>
    intro e n j s _ free fill part isOn
    rw [acceptJob_fills free fill part isOn, startParts_get (by simp) (by simp), State.get_set_self, startParts_job, coreOn_of_power (t := s.set (WSET_STAT_STATE e) 5) rfl]
    exact ⟨rfl, rfl⟩
  case switch =>
    intro fn e c s reach flowing low idle cfg dual held
    obtain ⟨cur, epoch, time, zero, one⟩ := setSwitched_flips low (s.set (WSET_STAT_RESULT e) 0)
    obtain ⟨-, -, result, -⟩ := onSets e low
    refine .of_next ((exec_wsetSwitch fn e s).trans (wsetCmd_runs reach flowing idle (if_pos ((switchOk_dual cfg dual).trans held)))) ?_
    have same {f : Field} (apart : f.key ≠ (WSET_STAT_RESULT e).key) : (s.set (WSET_STAT_RESULT e) 0).get f = s.get f := State.get_set_ne apart s 0
    rw [same (by simp)] at cur zero one
    rw [same (chip_apart result)] at epoch
    rw [doSwitch_dual (s := s.set (WSET_STAT_RESULT e) 0) cfg dual]
    refine ⟨cur, setSwitched_state _ e, ?_, epoch, time, State.raise_shows _ _ _, fun k => ?_⟩
    · rw [setSwitched_cnt low, same (by simp)]
    · rcases validField_cases s e k with mask | mask <;> rw [mask]
      · exact zero
      · exact one
  case switchRefused =>
    intro fn e c s reach flowing _ idle cfg dual held
    have status : (if s.switchOk e then Status.ok else .badParam) = .badParam := if_neg (by simp [switchOk_dual cfg dual, held])
    rw [exec_wsetSwitch, wsetCmd_refused reach flowing idle (by simp [status]), status]
  case drain =>
    intro fn e c s reach flowing _ idle cfg single
    refine .of_next ((exec_wsetSwitch fn e s).trans (wsetCmd_runs reach flowing idle (if_pos (switchOk_single cfg single)))) ?_
    rw [doSwitch_single (s := s.set (WSET_STAT_RESULT e) 0) cfg single]
    simp [State.get_set_ne]
  case arm =>
    intro fn e s reach flowing low idle applied later
    obtain ⟨-, -, result, -⟩ := onSets e low
    refine .of_next ((exec_wsetArm fn e s).trans (wsetCmd_runs reach flowing idle (if_pos applied))) ?_
    rw [deliveredTick_set result, armTick_waits (by rwa [pair_set_ne (by simp) (by simp)])]
    simp [setArmed, State.get_set_ne, pair_set_ne]
  case disarm =>
    intro fn e s reach flowing _ armed
    refine .of_next (exec_wsetDisarm reach flowing armed) ⟨?_, State.get_set_self _ _ _, ?_⟩
    · unfold setDisarmed
      rw [State.get_set_ne (by simp), State.get_set_self]
      exact restState_fits s e
    · exact (((OnlyRegs.refl _ s).of_regs rfl).set (by simp) _).set (by simp) _
  case busy =>
    intro fn e s reach flowing busy
    rw [exec_wsetApply, exec_wsetSwitch, exec_wsetArm]
    exact ⟨wsetCmd_busy reach flowing busy, wsetCmd_busy reach flowing busy, wsetCmd_busy reach flowing busy⟩

end Sys2Proof.Proofs

/-!
The ends of fills, reloads and manifest applies of a weight set (R338, R341 to R345, R347).
-/

namespace Sys2Proof.Proofs

open Sys2Proof.Machine Sys2Proof.Laws Sys2Proof.Claims

/-! ### The part of a core (R340 to R343) -/

/-- R340 to R343. Whatever accesses of memory, stores and the host keep, the part of a fill keeps. -/
theorem AccessKeeps.fillPart {P : State → Prop} (k : AccessKeeps P) {s : State} (h : P s) (e copy core : Nat) (c : SetCfg) (src : ReadOutcome) : P (s.fillPart e copy core c src).1 := by
  have weight {t : State} (ht : P t) (fn addr n : Nat) : P (t.weightRead fn addr n).1 := k.engineRead ht _ _ _ _ _
  have peat {t : State} (ht : P t) (fn agent off n : Nat) : P (t.peatRead fn agent off n src).1 := by
    unfold State.peatRead
    split
    · exact ht
    split
    · exact ht
    · exact k.hostFetch ht _ _ _ _ _
  have read : P (s.fillRead e copy core c src).1 := by
    unfold State.fillRead
    dsimp only
    split
    · exact peat h _ _ _ _
    · exact weight h _ _ _
  have write {t : State} (ht : P t) (b : List Byte) : P (t.fillWrite e copy core c b).1 := by
    have digest : P (t.fillDigest e copy core c).1 := weight ht _ _ _
    unfold State.fillWrite
    split
    · exact ht
    split
    · split
      next u d eq =>
        rw [eq] at digest
        split
        · exact k.storeWrite digest _ _ _ _ _
        · exact digest
      next u st d _ eq => rwa [eq] at digest
    · exact k.storeWrite ht _ _ _ _ _
  unfold State.fillPart
  split
  next t b eq =>
    rw [eq] at read
    exact write read b
  next t st b _ eq => rwa [eq] at read

section

variable {s : State} {e : Nat}

/-- The part of a fill leaves CUR. -/
theorem fillPart_cur (s : State) (e copy core : Nat) (c : SetCfg) (src : ReadOutcome) : (s.fillPart e copy core c src).1.get (WSET_STAT_CUR e) = s.get (WSET_STAT_CUR e) := by
  have off : ¬countWord (WSET_STAT_CUR e).addr := by
    simp only [countWord, WSET_STAT_CUR]
    omega
  exact (accessKeeps_get (by simp [WSET_STAT_CUR]) off _).fillPart rfl e copy core c src

/-- The part of a fill leaves the sets beside their registers. -/
theorem fillPart_wset (s : State) (e copy core : Nat) (c : SetCfg) (src : ReadOutcome) : (s.fillPart e copy core c src).1.wset e = s.wset e :=
  wset_of_work ((State_fillPart_good e copy core c src (good_self s (· == .work)) rfl rfl rfl rfl rfl rfl rfl rfl rfl rfl rfl).same .work rfl) e

/-! ### The end of a fill (R341, R347) -/

/-- A bump of the epoch, where there is one, leaves the fields of the sets. -/
theorem bumped_get {f : Field} (onSet : OnSets f) (s : State) {c : Prop} [Decidable c] : (if c then s.bumpEpoch else s).get f = s.get f := by
  split
  · exact bumpEpoch_get onSet s
  · rfl

theorem bumped_same (s : State) {c : Prop} [Decidable c] : SameButRegs s (if c then s.bumpEpoch else s) := by
  split
  · exact bumpEpoch_same s
  · exact .refl s

/-- R347. A fill of the current copy that went well mends a failed reload. -/
def fillMended (s : State) (e : Nat) (j : SetJob) : State := if j.st = .ok ∧ j.copy = s.get (WSET_STAT_CUR e) then (s.setJob e none).setFailed e false else s.setJob e none

/-- The set of a command that ends shows the state in which it rests (as of `t`), the command's status and an event. -/
def setRests (s t : State) (e : Nat) (st : Status) (bit : Nat) : State := ((s.set (WSET_STAT_STATE e) (t.restState e)).set (WSET_STAT_RESULT e) st.code).raise (0x321 + e) bit

theorem setRests_wset (s t : State) (e : Nat) (st : Status) (bit : Nat) : (setRests s t e st bit).wset e = s.wset e := wset_raise _ _ _ _

theorem setRests_state (s t : State) (e : Nat) (st : Status) (bit : Nat) : (setRests s t e st bit).get (WSET_STAT_STATE e) = t.restState e := by
  unfold setRests
  rw [State.raise_get, State.get_set_ne (by simp), State.get_set_self]
  exact restState_fits t e

theorem setRests_result (s t : State) (e : Nat) (st : Status) (bit : Nat) : (setRests s t e st bit).get (WSET_STAT_RESULT e) = st.code := by
  unfold setRests
  rw [State.raise_get, State.get_set_self]
  exact code_byte st

theorem fillDone_eq (s : State) (e : Nat) (j : SetJob) : s.fillDone e j =
    if j.copy = s.get (WSET_STAT_CUR e) then (setRests (fillMended s e j) (fillMended s e j) e j.st 1).bumpEpoch else setRests (fillMended s e j) (fillMended s e j) e j.st 1 := rfl

/-- R341, R347. A fill that went well ends: no command, OK, FILL_DONE; the set is READY, or FAILED still where a reload failed and the fill is not of the current copy. -/
theorem fillDone_shows (low : e < 8) {j : SetJob} (ok : j.st = .ok) : ((s.fillDone e j).wset e).job = none ∧
    (s.fillDone e j).get (WSET_STAT_STATE e) = (if j.copy = s.get (WSET_STAT_CUR e) then 1 else s.restState e) ∧ (s.fillDone e j).get (WSET_STAT_RESULT e) = 0 ∧
    (s.fillDone e j).shows 0 (0x321 + e) 1 = true := by
  obtain ⟨state, -, result, -⟩ := onSets e low
  have mended : ((fillMended s e j).wset e).job = none ∧ (fillMended s e j).restState e = if j.copy = s.get (WSET_STAT_CUR e) then 1 else s.restState e := by
    unfold fillMended
    simp only [ok, true_and]
    split <;> simp
  rw [fillDone_eq, (bumped_same _).wset, (bumped_same _).shows, bumped_get state, bumped_get result, setRests_wset, setRests_state, setRests_result, ok]
  exact ⟨mended.1, mended.2, rfl, State.raise_shows _ _ _⟩

/-- R341. The part of a core has ended well: one part fewer is to come. -/
def partEnded (j : SetJob) (core : Nat) : SetJob :=
  { j with parts := j.parts.filter (fun n => n != core), st := j.st, stCore := if j.st = .ok then core else j.stCore }

/-- R341, R343. A part is read, checked and written, and sets its core's valid bit; the last part of a fill ends it. -/
theorem exec_fillPartDone {core : Nat} {src : ReadOutcome} {j : SetJob} {c : SetCfg} (awake : s.Awake (0x321 + e)) (job : (s.wset e).job = some j) (cfg : (s.wset e).cfg = some c)
    (started : j.waiting = false) (fill : j.op ≠ 6) (part : core ∈ j.parts) (unquiesced : s.setQuiet e = false) (isOn : s.coreOn core = true) (free : s.fillHeld e j.copy core c = false)
    (ok : (s.fillPart e j.copy core c src).2 = .ok) : exec (.fillPartDone e core src) s =
      .next (let u := ((s.fillPart e j.copy core c src).1.setHolds e j.copy core true).setJob e (some (partEnded j core))
        if j.op = 2 ∧ (partEnded j core).parts.isEmpty then u.fillDone e (partEnded j core) else u) := by
  have status : firstBad j.st .ok = j.st := by
    unfold firstBad
    split
    next same => exact same.symm
    next => rfl
  show execFillPartDone e core src s = _
  unfold execFillPartDone
  rw [event_awake awake, job, cfg]
  simp only [started, unquiesced, isOn, free, beq_eq_false_iff_ne.mpr fill, List.contains_iff_mem.mpr part, Bool.not_true, Bool.and_false, Bool.or_self, Bool.false_eq_true, if_false, if_true, ok, status, partEnded]

/-! ### The reload of a SINGLE set (R344, R347) -/

theorem exec_wsetDrained {c : SetCfg} (awake : s.Awake (0x321 + e)) (cfg : (s.wset e).cfg = some c) (draining : s.get (WSET_STAT_STATE e) = 3)
    (free : s.boundCnt e (s.get (WSET_STAT_CUR e)) = 0) : exec (.wsetDrained e) s =
      .next (((s.raise (0x321 + e) 4).set (WSET_STAT_STATE e) 4).startParts e { op := 3, copy := 1 - s.get (WSET_STAT_CUR e), parts := coresOf c.cores }) := by
  show execWsetDrained e s = _
  unfold execWsetDrained
  rw [event_awake awake, cfg]
  exact if_pos ⟨draining, free⟩

/-- R344. The region's mask becomes that of the other copy. -/
def maskMoved (s : State) (e copy : Nat) : State :=
  if copy = 1 then (s.set (WSET_VALID1 e) (s.get (WSET_VALID0 e))).set (WSET_VALID0 e) 0 else (s.set (WSET_VALID0 e) (s.get (WSET_VALID1 e))).set (WSET_VALID1 e) 0

/-- R344, R347. CUR has flipped after a reload, which failed or not. -/
def reloadTaken (s : State) (e : Nat) (j : SetJob) : State := (((maskMoved s e j.copy).setJob e none).flipCur e).setFailed e (j.st != .ok)

/-- R347. The status of a reload and the state of the set. -/
def reloadShown (s : State) (e : Nat) (st : Status) : State := (s.set (WSET_STAT_RESULT e) st.code).set (WSET_STAT_STATE e) (s.restState e)

theorem exec_reloadDone {j : SetJob} (awake : s.Awake (0x321 + e)) (job : (s.wset e).job = some j) (reload : j.op = 3) (empty : j.parts = []) : exec (.reloadDone e) s =
    .next (let u := reloadShown (reloadTaken s e j) e j.st
      if j.st = .ok then (u.add (SW_CNT e) 1).raise (0x321 + e) 0 else u) := by
  have ended : ¬(j.op ≠ 3 ∨ !j.parts.isEmpty) := by simp [reload, empty]
  show execReloadDone e s = _
  unfold execReloadDone
  rw [event_awake awake, job]
  dsimp only
  rw [if_neg ended]
  unfold reloadTaken maskMoved
  by_cases one : j.copy = 1
  · simp only [if_pos one, reloadShown]
  · simp only [if_neg one, reloadShown]

theorem maskMoved_get {f : Field} (zero : f.key ≠ (WSET_VALID0 e).key) (one : f.key ≠ (WSET_VALID1 e).key) (s : State) (copy : Nat) : (maskMoved s e copy).get f = s.get f := by
  unfold maskMoved
  split
  · rw [State.get_set_ne zero, State.get_set_ne one]
  · rw [State.get_set_ne one, State.get_set_ne zero]

/-- R346, R347. After a reload no command is in progress, CUR is the other copy, and the set is at rest, FAILED where the reload was not OK. -/
theorem reloadTaken_shows (low : e < 8) (s : State) (j : SetJob) : ((reloadTaken s e j).wset e).job = none ∧ (reloadTaken s e j).get (WSET_STAT_CUR e) = 1 - s.get (WSET_STAT_CUR e) ∧
    (reloadTaken s e j).get (SW_CNT e) = s.get (SW_CNT e) ∧ (reloadTaken s e j).restState e = if j.st = .ok then 1 else 6 := by
  obtain ⟨-, -, -, -, -, cnt, -⟩ := onSets e low
  unfold reloadTaken State.flipCur
  rw [wset_setFailed, (setCur_same _ _ _).wset, wset_setJob, restState_setFailed, get_setFailed, get_setFailed, get_setJob, maskMoved_get (by simp) (by simp), setCur_cur low (by omega),
    setCur_get cnt (by simp) (by simp) (by simp), get_setJob, maskMoved_get (by simp) (by simp)]
  refine ⟨rfl, rfl, rfl, ?_⟩
  by_cases ok : j.st = .ok <;> simp [ok]

/-- The status of a reload leaves CUR and the count of switches. -/
theorem reloadShown_shows (s : State) (e : Nat) (st : Status) : (reloadShown s e st).get (WSET_STAT_RESULT e) = st.code ∧ (reloadShown s e st).get (WSET_STAT_STATE e) = s.restState e ∧
    (reloadShown s e st).get (WSET_STAT_CUR e) = s.get (WSET_STAT_CUR e) ∧ (reloadShown s e st).get (SW_CNT e) = s.get (SW_CNT e) := by
  unfold reloadShown
  refine ⟨?_, ?_, ?_, ?_⟩
  · rw [State.get_set_ne (by simp), State.get_set_self]
    exact code_byte st
  · rw [State.get_set_self]
    exact restState_fits s e
  · rw [State.get_set_ne (by simp), State.get_set_ne (by simp)]
  · rw [State.get_set_ne (by simp), State.get_set_ne (by simp)]

/-! ### Manifest applies (R338, R339) -/

theorem exec_manDone {srcs : List ReadOutcome} {j : SetJob} {c : SetCfg} (awake : s.Awake (0x321 + e)) (job : (s.wset e).job = some j) (cfg : (s.wset e).cfg = some c) (man : j.op = 6)
    (started : j.waiting = false) (unquiesced : s.setQuiet e = false) (free : (s.coreOn j.core && s.manHeld e j.core) = false) : exec (.manDone e srcs) s = .next (s.manEnds e j c srcs) := by
  show execManDone e srcs s = _
  unfold execManDone
  rw [event_awake awake, job, cfg]
  simp only [man, started, unquiesced, free]
  rfl

/-- R338. A manifest apply that went well ends: OK, MAN_DONE, the set at rest. -/
theorem manEnds_ok (low : e < 8) {j : SetJob} {c : SetCfg} {img : Image} {srcs : List ReadOutcome} (isOn : s.coreOn j.core = true) (image : Map.find s.work.images (j.core * 16 + j.ctx) = some img)
    (ok : ((s.setJob e none).manifest (s.setHolder e) j.core (c.baseOf j.copy) c.len img srcs img.manCnt 0).2.1 = .ok) :
    (s.manEnds e j c srcs).get (WSET_STAT_STATE e) = s.restState e ∧ (s.manEnds e j c srcs).get (WSET_STAT_RESULT e) = 0 ∧ (s.manEnds e j c srcs).shows 0 (0x321 + e) 2 = true := by
  obtain ⟨state, -, result, -⟩ := onSets e low
  have on' : (s.setJob e none).coreOn j.core = true := (congrFun (coreOn_of_power rfl) j.core).trans isOn
  have image' : Map.find (s.setJob e none).work.images (j.core * 16 + j.ctx) = some img := image
  have holder : (s.setJob e none).setHolder e = s.setHolder e := rfl
  unfold State.manEnds
  dsimp only
  rw [if_neg (by simp [on']), image']
  dsimp only
  rw [holder, if_pos ok, (bumped_same _).shows, bumped_get state, bumped_get result, restState_setJob]
  exact ⟨setRests_state _ s e .ok 2, setRests_result _ s e .ok 2, State.raise_shows _ _ _⟩

end

/-- Settles O27: a part of a fill leaves CUR and the sets (`fillPart_cur`, `fillPart_wset`), so that the last one ends the fill as `fillDone_shows` says; a reload that has ended flips CUR
(`reloadTaken_shows`). -/
theorem weightSetFillsAndReloads : Obligations.WeightSetFillsAndReloads := by
  refine ⟨?freed, ?part, ?last, ?drained, ?reloaded, ?man, ?manEnd⟩
  case freed =>
    intro e j s awake job waiting free
    show execWsetCopyFreed e s = _
    unfold execWsetCopyFreed
    rw [event_awake awake, job]
    exact if_pos (by simp [waiting, free])
  case part =>
    intro e core src j c s awake _ job cfg started fill part unquiesced isOn free ok more
    refine .of_next (exec_fillPartDone awake job cfg started fill part unquiesced isOn free ok) ?_
    dsimp only
    rw [if_neg (fun last => more (List.isEmpty_iff.mp last.2)), wset_setJob]
    exact ⟨rfl, rfl⟩
  case last =>
    intro e core src j c s awake low job cfg started fill part st unquiesced isOn free ok
    have empty : (partEnded j core).parts.isEmpty = true := by simp [partEnded, part]
    have cur : (((s.fillPart e j.copy core c src).1.setHolds e j.copy core true).setJob e (some (partEnded j core))).get (WSET_STAT_CUR e) = s.get (WSET_STAT_CUR e) :=
      (setHolds_onlyRegs _ e j.copy core true _ (by simp)).trans (fillPart_cur s e j.copy core c src)
    have rest : (((s.fillPart e j.copy core c src).1.setHolds e j.copy core true).setJob e (some (partEnded j core))).restState e = s.restState e := by
      rw [restState_setJob]
      exact restState_of_wset (((setHolds_same _ e j.copy core true).wset e).trans (fillPart_wset s e j.copy core c src))
    refine .of_next (exec_fillPartDone awake job cfg started (by omega) (by simp [part]) unquiesced isOn free ok) ?_
    dsimp only
    rw [if_pos ⟨fill, empty⟩, ← cur, ← rest]
    exact fillDone_shows low st
  case drained =>
    intro e c s awake low cfg draining free
    refine .of_next (exec_wsetDrained awake cfg draining free) ⟨?_, ?_, ?_⟩
    · rw [startParts_get (by simp) (by simp), State.get_set_self]
      rfl
    · exact ((partsCleared_same _ e _).shows _ _ _).trans (s.raise_shows _ _)
    · rw [startParts_job, coreOn_of_power (t := (s.raise (0x321 + e) 4).set (WSET_STAT_STATE e) 4) (s.raise_power _ _)]
  case reloaded =>
    intro e j s awake low job reload empty
    obtain ⟨idle, cur, cnt, rest⟩ := reloadTaken_shows low s j
    obtain ⟨result', state', cur', cnt'⟩ := reloadShown_shows (reloadTaken s e j) e j.st
    rw [← rest, ← cur, ← cnt, ← cur', ← result', ← state']
    refine .of_next (exec_reloadDone awake job reload empty) ?_
    dsimp only
    split
    next ok =>
      refine ⟨?_, ?_, ?_, ?_, fun _ => ⟨?_, State.raise_shows _ _ _⟩⟩
      · rw [wset_raise]
        exact idle
      · rw [State.raise_get, State.get_add_ne (by simp)]
      · rw [State.raise_get, State.get_add_ne (by simp)]
      · rw [State.raise_get, State.get_add_ne (by simp)]
      · rw [State.raise_get, State.get_add_self, cnt']
        rfl
    next failed => exact ⟨idle, rfl, rfl, rfl, fun ok => absurd ok failed⟩
  case man => exact fun e srcs j c s awake job cfg man started unquiesced free => exec_manDone awake job cfg man started unquiesced free
  case manEnd => exact fun e j c img srcs s low isOn image ok => manEnds_ok low isOn image ok

end Sys2Proof.Proofs

/-!
The key descriptors of Sluice (R367, R377 to R383, R406, R407): a key that is loaded, unwrapped or derived is installed, one that is generated is drawn or queued, one that
leaves is delivered.
-/

namespace Sys2Proof.Proofs

open Sys2Proof.Machine Sys2Proof.Laws Sys2Proof.Claims

/-! ### Work that is queued or installed -/

/-- A descriptor whose work goes to the public-key engine is queued there. -/
theorem runDesc_queues {op id : Nat} {d : Desc} {s t : State} {checks : State → Desc → List (Bool × Status × Nat)} {work : State → Desc → OpRes} {j : PkeJob}
    (h : DescRuns s id op d) (hp : Passes d (checks s d)) (hw : work s d = (t.enqueue j, none)) :
    runDesc op id s checks work = .next (queued t d j) := by
  obtain ⟨awake, found, isOp, starts, free⟩ := h
  unfold Passes at hp
  unfold runDesc
  rw [event_awake awake]
  simp [found, isOp, starts, free, hp, hw, queued]

/-- R406. Key material of a symmetric class is in its slot when the descriptor ends. -/
theorem keyInstalled_symmetric {d : Desc} (sym : asymmetric d.p0 = false) (s : State) (z : Nat) (wr : Bool) (m : List Byte) :
    keyInstalled s d z wr m = (s.writeSlot z d.p0 wr m []).endDesc d .ok 0 0 := by
  simp [keyInstalled, sym]

/-- R406. Key material of the other classes is first checked by the public-key engine. -/
theorem keyInstalled_asymmetric {d : Desc} (asym : asymmetric d.p0 = true) (s : State) (z : Nat) (wr : Bool) (m : List Byte) :
    keyInstalled s d z wr m = queued s d { use := .desc d.id, fn := d.fn, op := d.op, key := m, cls := d.p0, target := z, wrappable := wr, long := d.p0 == clsRsa } := by
  simp [keyInstalled, asym]

/-- R406. A descriptor whose work installs key material ends with the slot written, or is queued for the check of it. -/
theorem runDesc_installs {op id z : Nat} {d : Desc} {s t : State} {checks : State → Desc → List (Bool × Status × Nat)} {work : State → Desc → OpRes} {wr : Bool} {m : List Byte}
    (h : DescRuns s id op d) (hp : Passes d (checks s d)) (hw : work s d = t.installKey d z d.p0 wr m) :
    runDesc op id s checks work = .next (keyInstalled t d z wr m) := by
  unfold State.installKey at hw
  cases class_ : asymmetric d.p0 with
  | false =>
    rw [keyInstalled_symmetric class_]
    exact runDesc_ends h hp (by simpa [class_] using hw)
  | true =>
    rw [keyInstalled_asymmetric class_]
    exact runDesc_queues h hp (by simpa [class_] using hw)

/-! ### KEY_LOAD (R367, R377, R381) -/

/-- R381. A plaintext key is accepted where the function may load such keys, or of a class whose keys are public. -/
theorem exec_keyLoad {id z : Nat} {d : Desc} {src : ReadOutcome} {s : State} (runs : DescRuns s id 24 d)
    (passes : Passes d (spaceChecks d.srcSp d.src 8 ++ classCheck d ++ [(!lenFits d.p0 d.len, .badParam, 32)] ++ s.chainReads d d.srcSp d.len 32)) (slot : s.target d = .ok z)
    (plain : s.on (FN_WIN_PLAIN_OK d.fn) = true ∨ d.p0 = 9 ∨ d.p0 = 11) (range : firstFail (s.rangeCheck d d.srcSp d.src d.len false) = none)
    (hsrc : (source s d d.len src).2.1 = .ok) :
    exec (.keyLoad id src) s = .next (keyInstalled (source s d d.len src).1 d z (bitOf ((d.iv.headD 0).toNat) 0) (source s d d.len src).2.2) := by
  have accepted : (d.p0 ≠ 9 && d.p0 ≠ 11 && !s.on (FN_WIN_PLAIN_OK d.fn)) = false := by
    obtain h | h | h := plain <;> simp [h]
  show execKeyLoad id src s = _
  unfold execKeyLoad
  refine runDesc_installs runs passes ?_
  simp only [slot, accepted, range, withSrc_ok hsrc, Bool.false_eq_true, if_false]

/-! ### KEY_GEN (R376, R407) -/

@[simp] theorem openLen_on (s : State) (cls : Nat) (f : Field) : (s.openLen cls).2.on f = s.on f := by
  unfold State.openLen
  split
  · rfl
  · split <;> rfl

/-- R376. A healthy generator gives the bytes asked for, and counts the request. -/
theorem random_healthy {s : State} (healthy : s.on RNG_STAT_OK = true) (n : Nat) : s.random n = (some (s.drawRandom n).1, (s.drawRandom n).2.countRandom) := by
  simp [State.random, healthy]

/-- R377. The classes of public keys, 9 and 11, are none of the symmetric ones. -/
theorem not_public_of_symmetric {cls : Nat} (sym : asymmetric cls = false) : cls ≠ 9 ∧ cls ≠ 11 :=
  ⟨fun h => absurd sym (by rw [h]; decide), fun h => absurd sym (by rw [h]; decide)⟩

/-- R407. A key of another class than those of public keys can be generated. -/
theorem generates_of_not_public {cls : Nat} (h : cls ≠ 9 ∧ cls ≠ 11) : (decide (cls = 9) || decide (cls = 11)) = false := by
  simp [h]

/-! ### The obligation -/

/-- Settles O29: each descriptor's work is followed through its key, target, ranges and operands to what it installs, queues or delivers. -/
theorem keyDescriptors : Obligations.KeyDescriptors := by
  refine ⟨?loadSym, ?loadAsym, ?unwrap, ?wrap, ?genSym, ?genAsym, ?derive, ?clear, ?info⟩
  case loadSym =>
    intro id z d src s runs passes slot plain range hsrc sym
    rw [exec_keyLoad runs passes slot plain range hsrc, keyInstalled_symmetric sym]
  case loadAsym =>
    intro id z d src s runs passes slot plain range hsrc asym
    have ⟨_, _, isOp, _⟩ := runs
    rw [exec_keyLoad runs passes slot plain range hsrc, keyInstalled_asymmetric asym, isOp]
  case unwrap =>
    intro id z g d x src s runs passes key slot range hsrc
    show execKeyUnwrap id src s = _
    unfold execKeyUnwrap
    cases plain : kwpUnwrap x.key (source s d d.len src).2.2 with
    | none =>
      refine runDesc_ends runs passes ?_
      rw [withKey_found key]
      simp only [slot, range, withSrc_ok hsrc, plain]
    | some m =>
      dsimp only
      split
      next fits =>
        refine runDesc_installs runs passes ?_
        rw [withKey_found key]
        simp only [slot, range, withSrc_ok hsrc, plain, if_pos fits]
      next misfit =>
        refine runDesc_ends runs passes ?_
        rw [withKey_found key]
        simp only [slot, range, withSrc_ok hsrc, plain, if_neg misfit]
  case wrap =>
    intro id g h d k x s runs passes key wrapped wrappable range out
    show execKeyWrap id s = _
    unfold execKeyWrap
    refine runDesc_delivers runs passes ?_ out
    rw [withKey_found key]
    simp only [wrapped, wrappable, Bool.not_true, Bool.false_eq_true, if_false, range]
  case genSym =>
    intro id z d s runs passes slot sym healthy
    show execKeyGen id s = _
    unfold execKeyGen
    refine runDesc_ends runs passes ?_
    have drawn := random_healthy ((openLen_on s d.p0 _).trans healthy) (s.openLen d.p0).1
    simp only [slot, sym, generates_of_not_public (not_public_of_symmetric sym), Bool.false_eq_true, if_false, drawn]
  case genAsym =>
    intro id z d s runs passes slot asym generable range
    show execKeyGen id s = _
    unfold execKeyGen
    refine runDesc_queues runs passes ?_
    simp only [slot, asym, generates_of_not_public generable, Bool.false_eq_true, if_false, if_true, range]
  case derive =>
    intro id z g d x src aux s runs passes key slot range hsrc haux
    show execKeyDerive id src aux s = _
    unfold execKeyDerive
    refine runDesc_installs runs passes ?_
    rw [withKey_found key]
    simp only [slot, range, withSrc_ok hsrc, withAux_ok haux]
  case clear =>
    intro id g d s runs passes slot
    show execKeyClear id s = _
    unfold execKeyClear
    refine runDesc_ends runs passes ?_
    simp only [slot]
  case info =>
    intro id g d s runs passes slot range sound out
    show execKeyInfo id s = _
    unfold execKeyInfo
    refine runDesc_delivers runs passes ?_ out
    simp only [slot, range, sound, Bool.false_eq_true, if_false]

end Sys2Proof.Proofs

/-!
Posted writes to host memory (R422, R429, R445, R449, R471 to R474): what they change of the registers are counts and the words of TENANT page 0 that the log of dirty pages
shows; the host rings and Sluice stay.
-/

namespace Sys2Proof.Proofs

open Sys2Proof.Machine Sys2Proof.Laws Sys2Proof.Claims

/-- The words at which posted writes are counted and the pages that they touch are logged. -/
def postWord (a : Nat) : Prop := countWord a ∨ 0x510000 ≤ a

/-- A field of such a word. -/
abbrev PostField (g : Field) : Prop := g.lsb < 32 ∧ postWord g.addr

theorem post_count {g : Field} (h : CountField g) : PostField g := ⟨h.1, .inl h.2⟩

theorem post_tenant {g : Field} (low : g.lsb < 32) (page : 0x510000 ≤ g.addr) : PostField g := ⟨low, .inr page⟩

/-- The host rings are among the rest of the host interface. -/
theorem rings_of_rest {s t : State} (h : t.host.rest = s.host.rest) : t.host.rings = s.host.rings := by
  have rings := congrArg HostIf.rings h
  exact rings

/-- What a posted write leaves alone: the registers at other words, the host rings, Sluice. -/
structure Posts (s t : State) : Prop where
  regs : RegsAt postWord s t
  rings : t.host.rings = s.host.rings
  sluice : t.sluice = s.sluice

namespace Posts

variable {s t u : State}

theorem refl (s : State) : Posts s s := ⟨.refl _ s, rfl, rfl⟩

theorem get (h : Posts s t) {f : Field} (low : f.lsb < 32) (off : ¬postWord f.addr) : t.get f = s.get f := h.regs f low off

theorem ring (h : Posts s t) (c : Nat) : t.ring c = s.ring c := by
  unfold State.ring
  rw [h.rings]

/-- An update of other parts. -/
theorem upd (h : Posts s t) (regs : u.regs = t.regs) (rings : u.host.rings = t.host.rings) (sluice : u.sluice = t.sluice) : Posts s u :=
  ⟨h.regs.of_regs regs, rings.trans h.rings, sluice.trans h.sluice⟩

theorem set (h : Posts s t) {g : Field} (word : PostField g) (v : Nat) : Posts s (t.set g v) := ⟨h.regs.set word v, h.rings, h.sluice⟩

theorem add (h : Posts s t) {g : Field} (word : PostField g) (n : Nat) : Posts s (t.add g n) := h.set word _

theorem raiseFn (h : Posts s t) (fn page bit : Nat) : Posts s (t.raiseFn fn page bit) :=
  h.upd (t.raiseFn_regs fn page bit) (rings_of_rest (t.raiseFn_only fn page bit .host (by decide))) (t.raiseFn_sluice fn page bit)

theorem raise (h : Posts s t) (page bit : Nat) : Posts s (t.raise page bit) := h.raiseFn 0 page bit

theorem hostAbort (h : Posts s t) (fn agent cause iova : Nat) : Posts s (t.hostAbort fn agent cause iova) := by
  have counted {u : State} (hu : Posts s u) : Posts s ((u.add HI_ABORT_CNT 1).add (FN_ABORT_CNT fn) 1) :=
    (hu.add (post_count (count_fixed (by decide) (by decide))) 1).add (post_count (count_abort fn)) 1
  have captured {u : State} (hu : Posts s u) : Posts s (u.captureOpen fn 0x500 .aborted) := hu.upd rfl rfl rfl
  refine captured (Posts.raiseFn (counted (prop_ite (P := Posts s) ?_ (h.raise _ _))) _ _ _)
  exact h.upd rfl rfl rfl

theorem postWrite (h : Posts s t) (fn agent iova : Nat) (bs : List Byte) : Posts s (t.postWrite fn agent iova bs).1 := by
  unfold State.postWrite
  split
  · exact h
  split
  · exact h.hostAbort _ _ _ _
  split
  · exact h.hostAbort _ _ _ _
  · exact h.upd rfl rfl rfl

theorem tenantEdge (h : Posts s t) (f bit : Nat) : Posts s (t.tenantEdge f bit) :=
  ((h.upd (u := t.setPage 0x510 { t.page 0x510 with errInfo0 := f }) rfl rfl rfl).set (post_tenant (by decide) (by decide)) _).raise _ _

/-- R471 to R474. A dirty page is logged, or counted as lost, at the words of its ring. -/
theorem dirtyPage (h : Posts s t) (f agent page : Nat) : Posts s (t.dirtyPage f agent page) := by
  have produced : PostField (TDL_PI f) := post_tenant (by simp [TDL_PI]) (by simp only [TDL_PI]; omega)
  have counted : PostField (TDL_CNT f) := post_tenant (by simp [TDL_CNT]) (by simp only [TDL_CNT]; omega)
  have overflow : PostField (TDL_STAT_OVF f) := post_tenant (by simp [TDL_STAT_OVF]) (by simp only [TDL_STAT_OVF]; omega)
  have logged {u : State} (hu : Posts s u) (m : Map (List Nat)) : Posts s (({ u with host := { u.host with dirty := m } }.add (TDL_PI f) 1).add (TDL_CNT f) 1) :=
    ((hu.upd (u := { u with host := { u.host with dirty := m } }) rfl rfl rfl).add produced 1).add counted 1
  unfold State.dirtyPage
  dsimp only
  split
  · exact h
  split
  · split
    · exact h
    · exact (h.set overflow _).tenantEdge f 3
  · split
    · exact (logged (h.postWrite _ _ _ _) _).postWrite _ _ _ _
    · exact logged (h.postWrite _ _ _ _) _

theorem hostWrite (h : Posts s t) (fn agent iova : Nat) (bs : List Byte) : Posts s (t.hostWrite fn agent iova bs).1 := by
  have posted := h.postWrite fn agent iova bs
  unfold State.hostWrite
  split
  next u written =>
    rw [written] at posted
    split
    · exact posted
    · exact foldl_of posted fun x i hx => hx.dirtyPage fn agent _
  · exact posted

theorem ringWriteback (h : Posts s t) (c v : Nat) : Posts s (t.ringWriteback c v) := h.hostWrite _ _ _ _

theorem ringDone (h : Posts s t) (c : Nat) : Posts s (t.ringDone c) := by
  have attn : CountField (HR_ATTN (chainPage c)) := by
    simp only [CountField, countWord, HR_ATTN]
    omega
  unfold State.ringDone
  exact prop_ite ((h.set (post_count attn) _).raise _ _) h

end Posts

end Sys2Proof.Proofs

/-!
The doorbells and controls of host rings (R361, R433, R435, R436, R438): a doorbell moves its index or is rejected, consumed outbound items finish, ENABLE, RESTART and SKIP.
-/

namespace Sys2Proof.Proofs

open Sys2Proof.Machine Sys2Proof.Laws Sys2Proof.Claims

/-! ### The registers of a ring (R451) -/

/-- Where the fields of a ring stand: for every chain in the same order. -/
@[simp] theorem hostRing_keys (c : Nat) :
    (HR_PI c).key = c / 32 * 0x20000 + c % 32 * 0x800 + 0xA022380 ∧ (HR_CI c).key = c / 32 * 0x20000 + c % 32 * 0x800 + 0xA022400 ∧
    (HR_CTRL_ENABLE c).key = c / 32 * 0x20000 + c % 32 * 0x800 + 0xA022480 ∧ (HR_STAT_DIR c).key = c / 32 * 0x20000 + c % 32 * 0x800 + 0xA022500 ∧
    (HR_STAT_STOPPED c).key = c / 32 * 0x20000 + c % 32 * 0x800 + 0xA022501 := by
  simp only [Field.key, HR_PI, HR_CI, HR_CTRL_ENABLE, HR_STAT_DIR, HR_STAT_STOPPED]
  omega

/-- Posted writes leave the index and the status of a ring. -/
theorem ring_off_posts {c : Nat} (low : c < 256) : ¬postWord (HR_CI c).addr ∧ ¬postWord (HR_STAT_STOPPED c).addr := by
  simp only [postWord, countWord, HR_CI, HR_STAT_STOPPED]
  omega

/-! ### The index of an entry in ERR_INFO0 (R451) -/

theorem ringDbErr_page (s : State) (c : Nat) : ((s.ringDbErr c).page (pageKey 0 (ringPage c))).errCode = Status.badParam.code ∧
    ((s.ringDbErr c).page (pageKey 0 (ringPage c))).errInfo0 = (c + 256 * (s.ringIndex c % 256)) % 2 ^ 32 := by
  unfold State.ringDbErr State.raise
  rw [State.raiseFn_page_self]
  unfold State.ringCapture State.capture
  rw [State.captureFn_page_self]
  exact ⟨rfl, rfl⟩

theorem ringDbErr_regs (s : State) (c : Nat) : (s.ringDbErr c).regs = s.regs := State.raise_regs _ _ _

/-- R451. The device's own index of an inbound ring is HR_CI. -/
theorem ringIndex_inbound {s : State} {c : Nat} (inbound : s.on (HR_STAT_DIR c) = false) : s.ringIndex c = s.get (HR_CI c) := by
  simp [State.ringIndex, inbound]

/-! ### Items that are passed (R173, R435) -/

theorem ring_of_rest {s t : State} (h : t.host.rest = s.host.rest) (c : Nat) : t.ring c = s.ring c := by
  unfold State.ring
  rw [rings_of_rest h]

/-- The finish of an item leaves the host rings. -/
theorem finishCell_ring (s : State) (k c : Nat) : (s.finishCell k).ring c = s.ring c :=
  ring_of_rest ((State_finishCell_good k (good_self s (· == .host)) rfl rfl rfl rfl).same .host rfl) c

/-- R435. What HR_CI has passed leaves the ring's list of items delivered. -/
theorem ringPassed_delivered (s : State) (c p : Nat) : ((s.ringPassed c p).ring c).delivered = (s.ring c).delivered.filter (fun e => !(e.1 != p && atOrAfter p e.1)) := by
  unfold State.ringPassed
  dsimp only
  rw [foldl_exists (fun a b => b.ring c = a.ring c) (fun _ => rfl) (fun _ _ _ h h' => h'.trans h) (fun t (e : Nat × Nat) => t.finishCell e.2) (fun t e => finishCell_ring t e.2 c),
    State.ring_setRing_self]

/-- R173. An item that nothing retains frees its cell when its sink finishes it. -/
theorem finishCell_frees {s : State} {k : Nat} {x : Cell} (holds : Map.find s.work.cells k = some x) (taken : x.state = .inUse) (kept : x.rewind = none)
    (unretained : s.retained x = false) (free : s.finishWaits x.chain = false) : Map.find (s.finishCell k).work.cells k = none := by
  have unlinked : x.link = false := by
    unfold State.retained at unretained
    exact (Bool.or_eq_false_iff.mp unretained).1
  have finished : s.finishCell k = s.watched x.chain fun s => if s.retained x then s.setCell k { x with state := .spent } else s.freeCell k := by
    simp [State.finishCell, State.finishOf, State.finishHeld, State.finishItem, holds, free, unlinked, taken, kept]
  rw [finished, watched_work, unretained]
  exact Map.find_erase_self _ k

/-! ### ENABLE (R433) -/

/-- R433. A ring that has been enabled, outbound or inbound. -/
def ringEnabled (s : State) (c : Nat) (out : Bool) : State :=
  ((((s.flag (HR_CTRL_ENABLE c) true).flag (HR_STAT_DIR c) out).set (HR_PI c) 0).set (HR_CI c) 0).setRing c { s.ring c with tags := [], tagged := false, delivered := [] }

/-- R433. A write of ENABLE that is not refused takes the direction from the chain's sink. -/
theorem exec_hrEnable {s : State} {fn c : Nat} (reach : s.Reaches fn (ringPage c)) (off : s.on (HR_CTRL_ENABLE c) = false) (allowed : s.ringEnableBad c = false)
    (idle : (s.ring c).busy = false) : exec (.hrEnable fn c true) s = .next (ringEnabled s c ((s.chain c).desc.elim false (fun d => d.sink == 2))) := by
  show execHrEnable fn c true s = _
  unfold execHrEnable
  rw [mmio_reaches reach]
  cases (s.chain c).desc <;> simp [off, allowed, idle, ringEnabled]

theorem ringEnabled_shows (s : State) (c : Nat) (out : Bool) : (ringEnabled s c out).on (HR_CTRL_ENABLE c) = true ∧ (ringEnabled s c out).on (HR_STAT_DIR c) = out ∧
    (ringEnabled s c out).get (HR_PI c) = 0 ∧ (ringEnabled s c out).get (HR_CI c) = 0 ∧ ((ringEnabled s c out).ring c).tags = [] := by
  unfold ringEnabled
  refine ⟨?_, ?_, ?_, ?_, ?_⟩
  · unfold State.on
    rw [State.get_setRing, State.get_set_ne (by simp), State.get_set_ne (by simp), State.get_flag_ne (by simp)]
    exact State.on_flag_self rfl s true
  · unfold State.on
    rw [State.get_setRing, State.get_set_ne (by simp), State.get_set_ne (by simp)]
    exact State.on_flag_self rfl _ out
  · rw [State.get_setRing, State.get_set_ne (by simp)]
    exact State.get_set_self _ _ _
  · rw [State.get_setRing]
    exact State.get_set_self _ _ _
  · rw [State.ring_setRing_self]

theorem ringEnabled_onlyRegs (s : State) (c : Nat) (out : Bool) : OnlyRegs [HR_CTRL_ENABLE c, HR_STAT_DIR c, HR_PI c, HR_CI c] s (ringEnabled s c out) :=
  have directed : OnlyRegs [HR_CTRL_ENABLE c, HR_STAT_DIR c, HR_PI c, HR_CI c] s ((s.flag (HR_CTRL_ENABLE c) true).flag (HR_STAT_DIR c) out) :=
    onlyRegs_flag (onlyRegs_flag (.refl _ s) (by simp) true) (by simp) out
  ((directed.set (f := HR_PI c) (by simp) 0).set (f := HR_CI c) (by simp) 0).of_regs rfl

/-! ### SKIP (R434, R436) -/

/-- R434, R451. The writeback of a consumed entry and its event leave the ring and its registers as HR_CI's advance does. -/
theorem ringConsume_posts (s : State) (c : Nat) : Posts ((s.setRing c { s.ring c with cell := none, busy := false, tagged := false }).add (HR_CI c) 1) (s.ringConsume c) :=
  ((Posts.refl _).ringWriteback c _).ringDone c

theorem ringConsume_ci {c : Nat} (low : c < 256) (s : State) : (s.ringConsume c).get (HR_CI c) = (s.get (HR_CI c) + 1) % 2 ^ 32 := by
  rw [(ringConsume_posts s c).get (by simp [HR_CI]) (ring_off_posts low).1, State.get_add_self]
  rfl

theorem ringConsume_stopped {c : Nat} (low : c < 256) (s : State) : (s.ringConsume c).on (HR_STAT_STOPPED c) = s.on (HR_STAT_STOPPED c) := by
  unfold State.on
  rw [(ringConsume_posts s c).get (by simp [HR_STAT_STOPPED]) (ring_off_posts low).2, State.get_add_ne (by simp), State.get_setRing]

theorem ringConsume_cell (s : State) (c : Nat) : ((s.ringConsume c).ring c).cell = none := by
  rw [(ringConsume_posts s c).ring c]
  exact congrArg Ring.cell (State.ring_setRing_self s c _)

/-- R436. SKIP consumes the entry that an inbound ring has stopped on. -/
theorem exec_hrSkip {s : State} {fn c : Nat} (reach : s.Reaches fn (ringPage c)) (inbound : s.on (HR_STAT_DIR c) = false) (flowing : s.stall = false)
    (unquiesced : s.quiet (ringPage c) = false) (first : s.behind (ringPage c) = false) (free : s.hostHeld (s.chainHolder c) (s.pair (HR_WB_LO c) (HR_WB_HI c)) 4 = false)
    (stopped : s.on (HR_STAT_STOPPED c) = true) : exec (.hrSkip fn c) s = .next ((s.flag (HR_STAT_STOPPED c) false).ringConsume c) := by
  show execHrSkip fn c s = _
  unfold execHrSkip
  rw [mmio_reaches reach]
  simp [inbound, flowing, unquiesced, first, free, stopped]

/-! ### The obligation -/

/-- Settles O34: each command by its gate and its checks, then what its next state shows. -/
theorem hostRingControls : Obligations.HostRingControls := by
  refine ⟨?accepted, ?rejected, ?consumed, ?finished, ?enabled, ?refused, ?disabled, ?restarted, ?skipped, ?unskipped⟩
  case accepted =>
    intro fn c p s reach low unquiesced first enabled inbound between
    show execHrPiDoorbell fn c p s = _
    unfold execHrPiDoorbell
    rw [mmio_reaches reach]
    simp only [unquiesced, first, enabled, inbound, between, Bool.or_self, Bool.not_true, Bool.false_eq_true, if_false]
  case rejected =>
    intro fn c p s reach low unquiesced first enabled inbound outside
    have run : exec (.hrPiDoorbell fn c p) s = .next (s.ringDbErr c) := by
      show execHrPiDoorbell fn c p s = _
      unfold execHrPiDoorbell
      rw [mmio_reaches reach]
      simp only [unquiesced, first, enabled, inbound, outside, Bool.or_self, Bool.not_true, Bool.false_eq_true, if_false]
    obtain ⟨code, info⟩ := ringDbErr_page s c
    refine .of_next run ⟨State.raise_shows _ _ _, code, ?_, ringDbErr_regs s c⟩
    rw [info, ringIndex_inbound inbound]
    omega
  case consumed =>
    intro fn c p s reach low flowing unquiesced first enabled outbound between
    refine ⟨?_, ringPassed_delivered _ c _⟩
    show execHrCiDoorbell fn c p s = _
    unfold execHrCiDoorbell
    rw [mmio_reaches reach]
    simp only [flowing, unquiesced, first, enabled, outbound, between, Bool.or_self, Bool.not_true, Bool.false_eq_true, if_false]
  case finished => exact fun s k x holds taken kept unretained free => finishCell_frees holds taken kept unretained free
  case enabled =>
    intro fn c s reach low off allowed idle
    obtain ⟨enabled, dir, pi, ci, tags⟩ := ringEnabled_shows s c ((s.chain c).desc.elim false (fun d => d.sink == 2))
    exact .of_next (exec_hrEnable reach off allowed idle) ⟨enabled, dir, pi, ci, tags, ringEnabled_onlyRegs s c _⟩
  case refused =>
    intro fn c s reach low off bad
    show execHrEnable fn c true s = _
    unfold execHrEnable
    rw [mmio_reaches reach]
    simp [off, bad, State.ringRefused, State.ringCapture]
  case disabled =>
    intro fn c s reach low enabled drained
    have drained : (s.on (HR_STAT_DIR c) && s.get (HR_PI c) != s.get (HR_CI c)) = false := by
      obtain h | h := drained <;> simp [h]
    show execHrEnable fn c false s = _
    unfold execHrEnable
    rw [mmio_reaches reach]
    simp [enabled, drained]
  case restarted =>
    intro fn c s reach low
    show execHrRestart fn c s = _
    unfold execHrRestart
    rw [mmio_reaches reach]
  case skipped =>
    intro fn c s reach low inbound flowing unquiesced first free stopped
    refine .of_next (exec_hrSkip reach inbound flowing unquiesced first free stopped) ⟨?_, ?_, ringConsume_cell _ c⟩
    · rw [ringConsume_stopped low]
      exact State.on_flag_self rfl s false
    · rw [ringConsume_ci low, State.get_flag_ne (by simp)]
  case unskipped =>
    intro fn c s reach low outbound
    show execHrSkip fn c s = _
    unfold execHrSkip
    rw [mmio_reaches reach]
    simp only [outbound, if_true]
    rfl

end Sys2Proof.Proofs

/-!
Seals, rings and the generator of Sluice (R361 to R364, R369, R376, R379, R380, R382, R385, R387, R388, R391): what is queued to be signed or checked, how the indexes of request and
completion rings move, what a fetch admits and a record completes, the generator's health, the slots and windows that the manager clears and writes.
-/

namespace Sys2Proof.Proofs

open Sys2Proof.Machine Sys2Proof.Laws Sys2Proof.Claims

/-! ### The registers of the rings and of the windows (R389, R390) -/

/-- Where the fields of request and completion rings stand: for every function and ring in the same order. -/
@[simp] theorem sluiceRing_keys (f r : Nat) :
    (RQ_PI f r).key = f * 0x20000 + r * 0x800 + 0x8022180 ∧ (RQ_CI f r).key = f * 0x20000 + r * 0x800 + 0x8022200 ∧
    (RQ_CFG_CQ f r).key = f * 0x20000 + r * 0x800 + 0x8022280 ∧ (RQ_CFG_ENABLE f r).key = f * 0x20000 + r * 0x800 + 0x8022288 := by
  simp only [Field.key, RQ_PI, RQ_CI, RQ_CFG_CQ, RQ_CFG_ENABLE]
  omega

/-- Where the fields of a function's window stand. -/
@[simp] theorem window_keys (f : Nat) :
    (FN_WIN_BASE f).key = f * 0x80 + 0x8001600 ∧ (FN_WIN_CNT f).key = f * 0x80 + 0x8001610 ∧ (FN_WIN_PLAIN_OK f).key = f * 0x80 + 0x800161F := by
  simp only [Field.key, FN_WIN_BASE, FN_WIN_CNT, FN_WIN_PLAIN_OK]
  omega

/-- The counts that a completed descriptor moves are apart. -/
theorem completion_apart (f r q : Nat) : (CQ_PI f q).key ≠ SL_DONE_CNT.key ∧ (CQ_PI f q).key ≠ (RQ_DUP_CNT f r).key ∧ SL_DONE_CNT.key ≠ (RQ_DUP_CNT f r).key := by
  simp only [Field.key, CQ_PI, SL_DONE_CNT, RQ_DUP_CNT]
  omega

/-- Posted writes leave the index of a completion ring. -/
theorem completion_off_posts {f q : Nat} (fn : f < 9) (cq : q < 4) : ¬postWord (CQ_PI f q).addr := by
  simp only [postWord, countWord, CQ_PI]
  omega

/-- Posted writes leave the count of completed descriptors. -/
theorem doneCount_off_posts : ¬postWord SL_DONE_CNT.addr := by
  simp [postWord, countWord, SL_DONE_CNT]

/-! ### Seals (R385 to R388) -/

/-- R387. With a key of its class, a record read OK and a healthy generator, a seal is ready to be signed. -/
theorem sealPrepare_signs {s t : State} {fn key alg len g : Nat} {k : KeySlot} {b : List Byte} {read : State → State × Status × List Byte}
    (found : s.findKey fn key [if alg = 0 then 8 else 10] = .found g k) (done : read s = (t, .ok, b)) (healthy : t.on RNG_STAT_OK = true) :
    s.sealPrepare fn key alg len read = (t, t.sealHead .ok alg fn (s.namedSlot fn key) len (sha256 b), .ok, some k) := by
  simp [State.sealPrepare, found, done, healthy]

/-! ### Rings (R391) -/

/-- R391. A request ring that has been enabled. -/
def rqEnabled (s : State) (f r cq : Nat) : State :=
  ((((s.set (RQ_CFG_CQ f r) cq).flag (RQ_CFG_ENABLE f r) true).set (RQ_PI f r) 0).set (RQ_CI f r) 0).setReqRing f r {}

@[simp] theorem get_setReqRing (s : State) (f r : Nat) (v : ReqRing) (x : Field) : (s.setReqRing f r v).get x = s.get x := rfl

theorem reqRing_setReqRing_self (s : State) (f r : Nat) (v : ReqRing) : (s.setReqRing f r v).reqRing f r = v := Map.get_put_self _ _ _ _

theorem rqEnabled_shows (s : State) (f r cq : Nat) : (rqEnabled s f r cq).on (RQ_CFG_ENABLE f r) = true ∧ (rqEnabled s f r cq).get (RQ_CFG_CQ f r) = cq % 4 ∧
    (rqEnabled s f r cq).get (RQ_PI f r) = 0 ∧ (rqEnabled s f r cq).get (RQ_CI f r) = 0 ∧ (rqEnabled s f r cq).reqRing f r = {} := by
  unfold rqEnabled
  refine ⟨?_, ?_, ?_, ?_, reqRing_setReqRing_self _ _ _ _⟩
  · unfold State.on
    rw [get_setReqRing, State.get_set_ne (by simp), State.get_set_ne (by simp)]
    exact State.on_flag_self rfl _ true
  · rw [get_setReqRing, State.get_set_ne (by simp), State.get_set_ne (by simp), State.get_flag_ne (by simp)]
    exact State.get_set_self _ _ _
  · rw [get_setReqRing, State.get_set_ne (by simp)]
    exact State.get_set_self _ _ _
  · rw [get_setReqRing]
    exact State.get_set_self _ _ _

theorem rqEnabled_onlyRegs (s : State) (f r cq : Nat) : OnlyRegs [RQ_CFG_CQ f r, RQ_CFG_ENABLE f r, RQ_PI f r, RQ_CI f r] s (rqEnabled s f r cq) := by
  have configured : OnlyRegs [RQ_CFG_CQ f r, RQ_CFG_ENABLE f r, RQ_PI f r, RQ_CI f r] s ((s.set (RQ_CFG_CQ f r) cq).flag (RQ_CFG_ENABLE f r) true) :=
    onlyRegs_flag (OnlyRegs.set (.refl _ s) (by simp) cq) (by simp) true
  exact ((configured.set (f := RQ_PI f r) (by simp) 0).set (f := RQ_CI f r) (by simp) 0).of_regs rfl

/-- R391. A request ring of a size, whose completion ring is enabled, is enabled. -/
theorem exec_rqEnable {s : State} {fn f r cq : Nat} (reach : s.Reaches fn (0x401 + f)) (off : s.on (RQ_CFG_ENABLE f r) = false) (completion : s.on (CQ_CFG_ENABLE f (cq % 4)) = true)
    (sized : s.get (RQ_SIZE f r) ≠ 0) : exec (.rqEnable fn f r cq true) s = .next (rqEnabled s f r cq) := by
  show execRqEnable fn f r cq true s = _
  unfold execRqEnable
  rw [mmio_reaches reach]
  simp [off, completion, sized, rqEnabled]

/-! ### Fetches (R361, R362, R369) -/

/-- R369, R372. An entry outside any chain that asks for no ONCE check is admitted as it is. -/
theorem fetched_alone {s : State} {f r : Nat} {e : List Byte} (often : (s.entryDesc f r e).once = false) : s.fetched f r (s.entryDesc f r e) none = s.entryDesc f r e := by
  simp only [State.fetched, often]
  rfl

/-- R369. An entry without LINK, where no chain is being fetched, is a request of its own. -/
theorem chainOf_alone {s : State} {f r : Nat} {d : Desc} (idle : (s.reqRing f r).chain = none) (unlinked : d.link = false) (es : List (List Byte)) :
    s.chainOf f r d es = some (none, true) := by
  simp [State.chainOf, idle, unlinked]

theorem cqEdge_sluice (s t : State) (f r : Nat) : (s.cqEdge t f r).sluice = s.sluice := by
  unfold State.cqEdge State.raiseEdge
  split
  · exact s.raise_sluice _ _
  · rfl

theorem fetchNext_alone {s : State} {f r : Nat} {e : List Byte} (idle : (s.reqRing f r).chain = none) (unlinked : (s.entryDesc f r e).link = false)
    (often : (s.entryDesc f r e).once = false) (es : List (List Byte)) : s.fetchNext f r (e :: es) = (s.takeRequest f r (s.entryDesc f r e) none true).cqEdge s f r := by
  simp only [State.fetchNext, chainOf_alone idle unlinked, fetched_alone often]

theorem takeRequest_ci (s : State) (f r : Nat) (d : Desc) (c : Option RingChain) (first : Bool) :
    (s.takeRequest f r d c first).get (RQ_CI f r) = (s.get (RQ_CI f r) + 1) % 2 ^ 32 := State.get_add_self _ _ _

/-- R361. The entries read are fetched from, where nothing holds the ring. The outcome of the reads is a variable here, for it is not to be computed. -/
theorem exec_sluiceFetch {s : State} {f r : Nat} {es : List ReadOutcome} {x : State × Status × List (List Byte)} (awake : s.Awake 0x400) (enabled : s.on (RQ_CFG_ENABLE f r) = true)
    (room : s.cqFull f (s.get (RQ_CFG_CQ f r)) = false) (admitted : s.admits f = true) (unquiesced : s.quiet 0x400 = false) (ring : s.quiet (0x401 + f) = false)
    (free : s.hostHeld f (s.entryIova f r (s.get (RQ_CI f r))) 64 = false) (read : requests s f r es = x) (done : x.2.1 = .ok) :
    exec (.sluiceFetch f r es) s = .next (x.1.fetchNext f r x.2.2) := by
  obtain ⟨t, st, l⟩ := x
  cases done
  show execSluiceFetch f r es s = _
  unfold execSluiceFetch
  rw [event_awake awake]
  unfold requests at read
  generalize s.readEntries f r (s.rqPosted f r) (s.get (RQ_CI f r)) es = entries at read ⊢
  subst read
  simp only [enabled, room, admitted, unquiesced, ring, free, Bool.or_self, Bool.not_true, Bool.false_eq_true, if_false]

/-! ### Records (R363, R364) -/

/-- R363, R393. A descriptor that has ended does not start. -/
theorem refuseOpcode_ended {s : State} {id n dt : Nat} {d : Desc} {st : Status} (found : s.desc id = some d) (ended : d.state = .ended st n dt) : s.refuseOpcode id = s := by
  simp [State.refuseOpcode, found, State.mayStart, ended]

/-- R363. The record of a descriptor has been written and counted. -/
def recordCounted (s : State) (d : Desc) (st : Status) (n dt : Nat) : State :=
  let written := (s.hostWrite d.fn 1 (s.recordIova d) (s.record d st n (if st = .badDesc || st = .badParam || st = .authFail then dt else 0))).1
  let counted := (written.add (CQ_PI d.fn d.cq) 1).add SL_DONE_CNT 1
  if st = .duplicate then counted.add (RQ_DUP_CNT d.fn d.ring) 1 else counted

/-- R363. The descriptor's event has occurred where it asks for one. -/
def recordShown (s : State) (d : Desc) (st : Status) (n dt : Nat) : State :=
  if d.irq then (recordCounted s d st n dt).raise (0x401 + d.fn) d.cq else recordCounted s d st n dt

/-- R363, R369. The descriptor has left Sluice, and with it the chain that it was the last of. -/
def descCompleted (s : State) (d : Desc) (id : Nat) (st : Status) (n dt : Nat) : State :=
  let shown := recordShown s d st n dt
  { shown with sluice := { shown.sluice with
    descs := shown.sluice.descs.filter (fun e => e.id != id),
    chains := if d.chain != 0 && d.last then Map.erase shown.sluice.chains d.chain else shown.sluice.chains } }

/-- R363. A record is written once it is its turn, and nothing holds the write. -/
theorem exec_descComplete {s : State} {id n dt : Nat} {d : Desc} {st : Status} (awake : s.Awake 0x400) (found : s.desc id = some d) (ended : d.state = .ended st n dt)
    (alive : s.resetting d.fn = false) (free : s.hostHeld d.fn (s.recordIova d) 32 = false) (due : s.recordDue d = true) :
    exec (.descComplete id) s = .next (descCompleted s d id st n dt) := by
  show execDescComplete id s = _
  unfold execDescComplete
  rw [event_awake awake]
  simp only [refuseOpcode_ended found ended, found, ended, alive, free, due, Bool.not_true, Bool.or_self, Bool.false_eq_true, if_false]
  rfl

/-- R363. The index of the completion ring and the count of the completed have each moved on by one. -/
theorem recordCounted_counts {d : Desc} (fn : d.fn < 9) (cq : d.cq < 4) (s : State) (st : Status) (n dt : Nat) :
    (recordCounted s d st n dt).get (CQ_PI d.fn d.cq) = (s.get (CQ_PI d.fn d.cq) + 1) % 2 ^ 32 ∧
    (recordCounted s d st n dt).get SL_DONE_CNT = (s.get SL_DONE_CNT + 1) % 2 ^ 32 := by
  obtain ⟨apart, dupPi, dupDone⟩ := completion_apart d.fn d.ring d.cq
  have counted {w : State} (h : Posts s w) : ((w.add (CQ_PI d.fn d.cq) 1).add SL_DONE_CNT 1).get (CQ_PI d.fn d.cq) = (s.get (CQ_PI d.fn d.cq) + 1) % 2 ^ 32 ∧
      ((w.add (CQ_PI d.fn d.cq) 1).add SL_DONE_CNT 1).get SL_DONE_CNT = (s.get SL_DONE_CNT + 1) % 2 ^ 32 := by
    rw [State.get_add_ne apart, State.get_add_self, State.get_add_self, State.get_add_ne apart.symm, h.get (by simp [CQ_PI]) (completion_off_posts fn cq), h.get (by decide) doneCount_off_posts]
    exact ⟨rfl, rfl⟩
  have written := (Posts.refl s).hostWrite d.fn 1 (s.recordIova d) (s.record d st n (if st = .badDesc || st = .badParam || st = .authFail then dt else 0))
  unfold recordCounted
  dsimp only
  split
  · rw [State.get_add_ne dupPi, State.get_add_ne dupDone]
    exact counted written
  · exact counted written

theorem recordShown_regs (s : State) (d : Desc) (st : Status) (n dt : Nat) : (recordShown s d st n dt).regs = (recordCounted s d st n dt).regs := by
  unfold recordShown
  split
  · exact State.raise_regs _ _ _
  · rfl

theorem descCompleted_counts {d : Desc} (fn : d.fn < 9) (cq : d.cq < 4) (s : State) (id : Nat) (st : Status) (n dt : Nat) :
    (descCompleted s d id st n dt).get (CQ_PI d.fn d.cq) = (s.get (CQ_PI d.fn d.cq) + 1) % 2 ^ 32 ∧
    (descCompleted s d id st n dt).get SL_DONE_CNT = (s.get SL_DONE_CNT + 1) % 2 ^ 32 := by
  have counts (x : Field) : (descCompleted s d id st n dt).get x = (recordCounted s d st n dt).get x := State.get_of_regs (recordShown_regs s d st n dt) x
  rw [counts, counts]
  exact recordCounted_counts fn cq s st n dt

/-- A completed descriptor is no longer among those of Sluice. -/
theorem descCompleted_desc (s : State) (d : Desc) (id : Nat) (st : Status) (n dt : Nat) : (descCompleted s d id st n dt).desc id = none := by
  unfold State.desc descCompleted
  simp

theorem descCompleted_shows {d : Desc} (asks : d.irq = true) (s : State) (id : Nat) (st : Status) (n dt : Nat) :
    (descCompleted s d id st n dt).shows 0 (0x401 + d.fn) d.cq = true := by
  have shown : (recordShown s d st n dt).shows 0 (0x401 + d.fn) d.cq = true := by
    unfold recordShown
    rw [if_pos asks]
    exact State.raise_shows _ _ _
  exact shown

/-! ### Slots and windows (R379, R380, R382) -/

@[simp] theorem slot_setSlot_self (s : State) (i : Nat) (k : KeySlot) : (s.setSlot i k).slot i = k := Map.get_put_self _ _ _ _

theorem slot_setSlot_ne {i j : Nat} (h : j ≠ i) (s : State) (k : KeySlot) : (s.setSlot i k).slot j = s.slot j := Map.get_put_ne h _ _ _ _

/-- R382. A slot of a class other than RSA is cleared alone. -/
theorem clearSlot_alone {s : State} {i : Nat} (single : (s.slot i).cls ≠ clsRsa) : s.clearSlot i = s.setSlot i {} := by
  unfold State.clearSlot
  rw [if_neg single]

/-- R379, R380. The window of a function that a write has moved. -/
def windowMoved (s : State) (f base cnt : Nat) (ok : Bool) : State := ((s.flag (FN_WIN_PLAIN_OK f) ok).set (FN_WIN_BASE f) (base % 512)).set (FN_WIN_CNT f) (cnt % 1024)

/-- R379. The windows of the other functions that are not empty lie below or above a range. -/
abbrev WindowApart (s : State) (f base cnt : Nat) : Prop :=
  ∀ g, g < 9 → 0 < g → g ≠ f → cnt % 1024 = 0 ∨ s.get (FN_WIN_CNT g) = 0 ∨ base % 512 + cnt % 1024 ≤ s.get (FN_WIN_BASE g) ∨ s.get (FN_WIN_BASE g) + s.get (FN_WIN_CNT g) ≤ base % 512

/-- R380. A write of a window that meets no other, moves no loaded slot to another holder and belongs to an idle function is taken. -/
theorem exec_fnWinWrite {s : State} {fn f base cnt : Nat} {ok : Bool} (reach : s.Reaches fn 0x400) (unlocked : (s.page 0x400).lock = false) (vf : 0 < f)
    (aligned : base % 16 = 0 ∧ cnt % 16 = 0) (inside : base % 512 + cnt % 1024 ≤ 512) (apart : WindowApart s f base cnt)
    (stay : ∀ i, i < 512 → (s.slot i).cls ≠ 0 → (windowMoved s f base cnt ok).slotHolder i = s.slotHolder i) (idle : s.admittedOf f = 0) :
    exec (.fnWinWrite fn f base cnt ok) s = .next (windowMoved s f base cnt ok) := by
  have overlaps : ((List.range 8).any fun i => i + 1 != f && cnt % 1024 != 0 && s.get (FN_WIN_CNT (i + 1)) != 0 &&
      decide (base % 512 < s.get (FN_WIN_BASE (i + 1)) + s.get (FN_WIN_CNT (i + 1))) && decide (s.get (FN_WIN_BASE (i + 1)) < base % 512 + cnt % 1024)) = false := by
    simp only [List.any_eq_false, List.mem_range]
    intro i low meets
    simp only [Bool.and_eq_true, bne_iff_ne, decide_eq_true_eq] at meets
    have := apart (i + 1) (by omega) (by omega)
    omega
  have moved : ((List.range 512).any fun i => (s.slot i).cls != 0 && s.slotHolder i != (windowMoved s f base cnt ok).slotHolder i) = false := by
    simp only [List.any_eq_false, List.mem_range]
    intro i low moves
    simp only [Bool.and_eq_true, bne_iff_ne] at moves
    exact moves.2 (stay i low moves.1).symm
  have base16 : base % 512 % 16 = 0 := by omega
  have cnt16 : cnt % 1024 % 16 = 0 := by omega
  have fits : ¬512 < base % 512 + cnt % 1024 := by omega
  unfold windowMoved at moved ⊢
  show execFnWinWrite fn f base cnt ok s = _
  unfold execFnWinWrite
  rw [mmio_reaches reach]
  simp only [pageKey_manager, unlocked, Nat.ne_of_gt vf, if_false, Bool.false_eq_true, overlaps, moved, base16, cnt16, fits, idle]
  rfl

theorem windowMoved_shows (s : State) (f base cnt : Nat) (ok : Bool) : (windowMoved s f base cnt ok).get (FN_WIN_BASE f) = base % 512 ∧
    (windowMoved s f base cnt ok).get (FN_WIN_CNT f) = cnt % 1024 ∧ (windowMoved s f base cnt ok).on (FN_WIN_PLAIN_OK f) = ok := by
  unfold windowMoved
  refine ⟨?_, ?_, ?_⟩
  · rw [State.get_set_ne (by simp), State.get_set_self]
    exact Nat.mod_mod _ _
  · rw [State.get_set_self]
    exact Nat.mod_mod _ _
  · unfold State.on
    rw [State.get_set_ne (by simp), State.get_set_ne (by simp)]
    exact State.on_flag_self rfl s ok

theorem windowMoved_onlyRegs (s : State) (f base cnt : Nat) (ok : Bool) : OnlyRegs [FN_WIN_BASE f, FN_WIN_CNT f, FN_WIN_PLAIN_OK f] s (windowMoved s f base cnt ok) :=
  OnlyRegs.set (f := FN_WIN_CNT f) (OnlyRegs.set (f := FN_WIN_BASE f) (onlyRegs_flag (.refl _ s) (by simp) ok) (by simp) _) (by simp) _

/-! ### The obligation -/

/-- Settles O30: the work of the two seal descriptors, then each command and event by its gates and what its next state shows. -/
theorem sealsRingsAndGenerator : Obligations.SealsRingsAndGenerator := by
  refine ⟨?seals, ?checks, ?fails, ?reseeds, ?restarts, ?passes, ?requests, ?completions, ?rqOn, ?cqOn, ?fetch, ?admits, ?completes, ?clears, ?empties, ?plain, ?window⟩
  case seals =>
    intro id g d x src s runs passes key len readable writable hsrc healthy
    rcases r : source s d d.len src with ⟨t, st, b⟩
    obtain rfl : st = .ok := by simpa [r] using hsrc
    simp only [sealedHead, r] at healthy ⊢
    show execSealDesc id src s = _
    unfold execSealDesc
    refine runDesc_queues runs passes ?_
    simp only [if_neg len, readable, writable, sealPrepare_signs (read := fun u => u.readOperand d d.srcSp d.src d.len src) key r healthy]
  case checks =>
    intro id g d x src aux s runs passes key len range hsrc haux magic version status alg digest
    show execSealChk id src aux s = _
    unfold execSealChk
    refine runDesc_queues runs passes ?_
    rw [withKey_found key]
    simp only [if_neg len, range, withSrc_ok hsrc, withAux_ok haux, magic, version, status, alg, digest]
    by_cases ecdsa : x.cls = 9 <;> simp [ecdsa]
  case fails =>
    intro s awake healthy
    have run : exec .rngHealthFail s = .next ((s.flag RNG_STAT_OK false).raise 0x400 0) := by
      show execRngHealthFail s = _
      unfold execRngHealthFail
      rw [event_awake awake, if_pos healthy]
    refine .of_next run ⟨?_, State.raise_shows _ _ _, (onlyRegs_flag (.refl _ s) (by simp) false).of_regs (State.raise_regs _ _ _)⟩
    rw [State.raise_on]
    exact State.on_flag_self rfl s false
  case reseeds =>
    intro s awake healthy
    show execRngReseed s = _
    unfold execRngReseed
    rw [event_awake awake, if_pos healthy]
  case restarts =>
    intro fn s reach flowing
    show execRngRestart fn s = _
    unfold execRngRestart
    rw [command_runs reach flowing]
  case passes =>
    intro s awake restarting
    show execRngStartUpTestsPass s = _
    unfold execRngStartUpTestsPass
    rw [event_awake awake, if_pos restarting]
  case requests =>
    intro fn f r p s reach flowing unquiesced ring enabled
    have ⟨stall, held⟩ := flowing
    show execRqDoorbell fn f r p s = _
    unfold execRqDoorbell
    rw [mmio_reaches reach]
    simp only [stall, unquiesced, ring, behind_nothing held, enabled, Bool.or_self, Bool.not_true, Bool.false_eq_true, if_false]
    generalize bell (p % 2 ^ 32) _ _ _ = b
    cases b <;> rfl
  case completions =>
    intro fn f r p s reach flowing unquiesced ring enabled
    have ⟨stall, held⟩ := flowing
    show execCqDoorbell fn f r p s = _
    unfold execCqDoorbell
    rw [mmio_reaches reach]
    simp only [stall, unquiesced, ring, behind_nothing held, enabled, Bool.or_self, Bool.not_true, Bool.false_eq_true, if_false]
    generalize bellConsume (p % 2 ^ 32) _ _ = b
    cases b <;> rfl
  case rqOn =>
    intro fn f r cq s reach _ _ off completion sized
    obtain ⟨enabled, config, pi, ci, ring⟩ := rqEnabled_shows s f r cq
    exact .of_next (exec_rqEnable reach off completion sized) ⟨enabled, config, pi, ci, ring, rqEnabled_onlyRegs s f r cq⟩
  case cqOn =>
    intro fn f r s reach _ _ off sized
    show execCqEnable fn f r true s = _
    unfold execCqEnable
    rw [mmio_reaches reach]
    simp [off, sized]
  case fetch => exact fun f r es s awake enabled room admitted unquiesced ring free done => exec_sluiceFetch awake enabled room admitted unquiesced ring free rfl done
  case admits =>
    intro f r e es s _ _ idle unlinked often
    rw [fetchNext_alone idle unlinked often]
    refine ⟨?_, ?_⟩
    · rw [cqEdge_sluice]
      rfl
    · unfold State.cqEdge
      rw [raiseEdge_get, takeRequest_ci]
  case completes =>
    intro id n dt d st s awake found ended alive free due fn cq
    obtain ⟨index, count⟩ := descCompleted_counts fn cq s id st n dt
    exact .of_next (exec_descComplete awake found ended alive free due) ⟨index, descCompleted_desc s d id st n dt, count, fun asks => descCompleted_shows asks s id st n dt⟩
  case clears =>
    intro fn slot s reach flowing
    show execSlotCmdClear fn slot s = _
    unfold execSlotCmdClear
    rw [command_runs reach flowing]
  case empties =>
    intro slot s single
    rw [clearSlot_alone single]
    exact ⟨slot_setSlot_self s slot {}, fun j other => slot_setSlot_ne other s {}⟩
  case plain =>
    intro fn base cnt ok s reach unlocked idle
    show execFnWinWrite fn 0 base cnt ok s = _
    unfold execFnWinWrite
    rw [mmio_reaches reach]
    simp [unlocked, idle]
  case window =>
    intro fn f base cnt ok s reach unlocked vf _ base16 cnt16 inside apart stay idle
    obtain ⟨newBase, newCnt, newOk⟩ := windowMoved_shows s f base cnt ok
    exact .of_next (exec_fnWinWrite reach unlocked vf ⟨base16, cnt16⟩ inside apart stay idle) ⟨newBase, newCnt, newOk, windowMoved_onlyRegs s f base cnt ok⟩

end Sys2Proof.Proofs

/-!
Every command runs (R425, R583): what `exec_good` says of each command, and that no step ends in a fault.
-/

namespace Sys2Proof.Proofs

open Sys2Proof.Machine Sys2Proof.Laws

/-- A command that is no private JTAG instruction, or that meets the debug lockout, answers a next state with the queue as it was. -/
theorem exec_runs {c : Instr} {s : State} (locked : ∀ n, c = .jtagInstruction (.priv n) → s.on FU_LOCKS_DEBUG = true) : Runs c s (fun t => t.pending = s.pending) := by
  obtain ⟨t, answer, good⟩ := (exec_good c (good_self s fun _ => false) locked fun _ _ => rfl).next
  exact ⟨t, answer, good.queue⟩

/-- R583. Before the lockout a private instruction is refused. -/
theorem exec_private {s : State} (unlocked : s.on FU_LOCKS_DEBUG = false) (n : Nat) : exec (.jtagInstruction (.priv n)) s = .refused .privateTestAccess := by
  simp [exec, execJtagInstruction, unlocked]

theorem exec_ne_fault (c : Instr) (s : State) (f : Fault) : exec c s ≠ .fault f := by
  intro stops
  by_cases locked : ∀ n, c = .jtagInstruction (.priv n) → s.on FU_LOCKS_DEBUG = true
  · obtain ⟨t, answer, _⟩ := exec_runs locked
    cases stops.symm.trans answer
  · push Not at locked
    obtain ⟨n, rfl, unlocked⟩ := locked
    cases stops.symm.trans (exec_private (by simpa using unlocked) n)

/-- R29. The release of withheld commands stops with a fault only where one of them does. -/
theorem release_ne_fault (s : State) (before after : List (Nat × Instr)) (f : Fault) : s.release before after ≠ .fault f := by
  induction after generalizing before with
  | nil =>
    unfold State.release
    split
    · exact nofun
    · split
      · exact nofun
      · split <;> exact nofun
  | cons waiting after ih =>
    obtain ⟨block, c⟩ := waiting
    rw [State.release]
    split
    next =>
      split
      · exact ih _
      · exact nofun
    next => exact exec_ne_fault c _ f

/-- Settles O57: every command by `exec_good`, a step by the command or the release that it is. -/
theorem commandsRunAndOnlyPrivateTestAccessIsRefused : Obligations.CommandsRunAndOnlyPrivateTestAccessIsRefused := by
  refine ⟨?others, ?before, ?after, ?steps⟩
  case others => exact fun c s other => exec_runs fun n isPrivate => absurd isPrivate (other n)
  case before => exact fun n s unlocked => exec_private unlocked n
  case after => exact fun n s locked => exec_runs fun _ _ => locked
  case steps =>
    intro f s
    unfold step
    split
    next c q _ => exact exec_ne_fault c _ f
    next => exact release_ne_fault s [] s.held f

end Sys2Proof.Proofs

/-!
The descriptors of the public-key engine (R394 to R409): a descriptor that runs, passes its checks and reads its operands is queued with them.
-/

namespace Sys2Proof.Proofs

open Sys2Proof.Machine Sys2Proof.Laws Sys2Proof.Claims

/-! ### The work of a public-key operation (R395) -/

/-- R395. The ranges that a public-key operation checks before it reads: of its source, of its auxiliary operand where it has one, of its destination where it has one. -/
def pkeRanges (s : State) (d : Desc) (hasAux : Bool) (dst : Option Nat) : List (Bool × Status × Nat) :=
  s.rangeCheck d d.srcSp d.src d.len false ++ (if hasAux then s.rangeCheck d d.auxSp d.aux d.auxLen false else []) ++ dst.elim [] (fun n => s.rangeCheck d d.dstSp d.dst n true)

/-- An operation on its source alone is queued with what it has read. -/
theorem pkeWork_source {s : State} {d : Desc} {src : ReadOutcome} (aux : ReadOutcome) {dst : Option Nat} (len : d.len ≠ 0) (ranges : firstFail (pkeRanges s d false dst) = none)
    (hsrc : (source s d d.len src).2.1 = .ok) (mk : List Byte → List Byte → PkeJob) :
    s.pkeWork d src aux false dst mk = ((source s d d.len src).1.enqueue (mk (source s d d.len src).2.2 []), none) := by
  unfold State.pkeWork
  unfold pkeRanges at ranges
  cases dst <;> simp_all [withSrc_ok hsrc]

/-- An operation with an auxiliary operand is queued with both. -/
theorem pkeWork_auxiliary {s : State} {d : Desc} {src aux : ReadOutcome} {dst : Option Nat} (len : d.len ≠ 0) (ranges : firstFail (pkeRanges s d true dst) = none)
    (hsrc : (source s d d.len src).2.1 = .ok) (haux : (auxiliary (source s d d.len src).1 d aux).2.1 = .ok) (mk : List Byte → List Byte → PkeJob) :
    s.pkeWork d src aux true dst mk = ((auxiliary (source s d d.len src).1 d aux).1.enqueue
      (mk (source s d d.len src).2.2 (auxiliary (source s d d.len src).1 d aux).2.2), none) := by
  unfold State.pkeWork
  unfold pkeRanges at ranges
  cases dst <;> simp_all [withSrc_ok hsrc, withAux_ok haux]

/-- R400. A shared secret that is delivered names no slot. -/
theorem toSlot_delivers {d : Desc} (delivers : bitOf d.p0 0 = false) (s : State) (k : Nat → Bool → OpRes) : s.toSlot d k = k 0 false := by
  simp [State.toSlot, delivers]

/-- R400. A shared secret that stays is given the slot that the function holds. -/
theorem toSlot_stays {d : Desc} {s : State} {z : Nat} (stays : bitOf d.p0 0 = true) (slot : s.globalSlot d.fn d.p1 = some z) (k : Nat → Bool → OpRes) :
    s.toSlot d k = k z (bitOf ((d.iv.headD 0).toNat) 0) := by
  simp [State.toSlot, stays, slot]

/-- ECDH_P256 and X25519 whose shared secret is delivered. -/
theorem execShared_delivers {op cls n id g : Nat} {d : Desc} {k : KeySlot} {src : ReadOutcome} {s : State} (runs : DescRuns s id op d)
    (passes : Passes d (p0Checks d 1 [0] ++ s.pkeChecks d (d.len == n) none (some 32))) (key : s.findKey d.fn d.key [cls] = .found g k) (delivers : bitOf d.p0 0 = false) (len : d.len ≠ 0)
    (ranges : firstFail (pkeRanges s d false (some 32)) = none) (hsrc : (source s d d.len src).2.1 = .ok) :
    execShared op cls n id src s = .next (queued (source s d d.len src).1 d { use := .desc d.id, fn := d.fn, op := op, key := k.key, src := (source s d d.len src).2.2, p0 := d.p0 }) := by
  unfold execShared runPke
  refine runDesc_queues runs (by simpa [delivers] using passes) ?_
  rw [withKey_found key, toSlot_delivers delivers, if_neg (by simp [delivers]), pkeWork_source src len ranges hsrc]

/-- ECDH_P256 and X25519 whose shared secret goes to a slot. -/
theorem execShared_stays {op cls n id g z : Nat} {d : Desc} {k : KeySlot} {src : ReadOutcome} {s : State} (runs : DescRuns s id op d)
    (passes : Passes d (p0Checks d 1 [0] ++ s.pkeChecks d (d.len == n) none none)) (key : s.findKey d.fn d.key [cls] = .found g k) (stays : bitOf d.p0 0 = true)
    (slot : s.globalSlot d.fn d.p1 = some z) (len : d.len ≠ 0) (ranges : firstFail (pkeRanges s d false none) = none) (hsrc : (source s d d.len src).2.1 = .ok) :
    execShared op cls n id src s = .next (queued (source s d d.len src).1 d
      { use := .desc d.id, fn := d.fn, op := op, key := k.key, src := (source s d d.len src).2.2, p0 := d.p0, target := z, wrappable := bitOf ((d.iv.headD 0).toNat) 0 }) := by
  unfold execShared runPke
  refine runDesc_queues runs (by simpa [stays] using passes) ?_
  rw [withKey_found key, toSlot_stays stays slot, if_pos stays, pkeWork_source src len ranges hsrc]

/-! ### The obligation -/

/-- Settles O31: each descriptor by its key, where it has one, and the work that reads its operands. -/
theorem publicKeyDescriptors : Obligations.PublicKeyDescriptors := by
  refine ⟨?sign, ?verify, ?verifyExt, ?ecdh, ?ecdhSlot, ?edSign, ?edVerify, ?edVerifyExt, ?x25519, ?x25519Slot, ?rsaPriv, ?rsaPub, ?point, ?load, ?clear, ?noWork⟩
  case sign =>
    intro id d g k src s runs passes key len ranges hsrc
    show execEcdsaSign id src s = _
    unfold execEcdsaSign runPke
    refine runDesc_queues runs passes ?_
    rw [withKey_found key, pkeWork_source src len (by simpa [pkeRanges] using ranges) hsrc]
  case verify =>
    intro id d g k src aux s runs passes key len ranges hsrc haux
    show execEcdsaVerify id src aux s = _
    unfold execEcdsaVerify runPke
    refine runDesc_queues runs passes ?_
    rw [withKey_found key, pkeWork_auxiliary len (by simpa [pkeRanges] using ranges) hsrc haux]
  case verifyExt =>
    intro id d src aux s runs passes len ranges hsrc haux
    show execEcdsaVerifyExt id src aux s = _
    unfold execEcdsaVerifyExt runPke
    exact runDesc_queues runs passes (pkeWork_auxiliary (dst := none) len (by simpa [pkeRanges] using ranges) hsrc haux _)
  case ecdh => exact fun id d g k src s runs passes key delivers len ranges hsrc => execShared_delivers runs passes key delivers len (by simpa [pkeRanges] using ranges) hsrc
  case ecdhSlot =>
    exact fun id d g k z src s runs passes key stays slot len ranges hsrc => execShared_stays runs passes key stays slot len (by simpa [pkeRanges] using ranges) hsrc
  case edSign =>
    intro id d g k src s runs passes key len ranges hsrc
    show execEd25519Sign id src s = _
    unfold execEd25519Sign runPke
    refine runDesc_queues runs passes ?_
    rw [withKey_found key, pkeWork_source src len (by simpa [pkeRanges] using ranges) hsrc]
  case edVerify =>
    intro id d g k src aux s runs passes key len ranges hsrc haux
    show execEd25519Verify id src aux s = _
    unfold execEd25519Verify runPke
    refine runDesc_queues runs passes ?_
    rw [withKey_found key, pkeWork_auxiliary len (by simpa [pkeRanges] using ranges) hsrc haux]
  case edVerifyExt =>
    intro id d src aux s runs passes len ranges hsrc haux
    show execEd25519VerifyExt id src aux s = _
    unfold execEd25519VerifyExt runPke
    exact runDesc_queues runs passes (pkeWork_auxiliary (dst := none) len (by simpa [pkeRanges] using ranges) hsrc haux _)
  case x25519 => exact fun id d g k src s runs passes key delivers len ranges hsrc => execShared_delivers runs passes key delivers len (by simpa [pkeRanges] using ranges) hsrc
  case x25519Slot =>
    exact fun id d g k z src s runs passes key stays slot len ranges hsrc => execShared_stays runs passes key stays slot len (by simpa [pkeRanges] using ranges) hsrc
  case rsaPriv =>
    intro id d g k src s runs passes key len ranges hsrc
    show execRsaPriv id src s = _
    unfold execRsaPriv runPke
    refine runDesc_queues runs passes ?_
    rw [withKey_found key, pkeWork_source src len (by simpa [pkeRanges] using ranges) hsrc]
  case rsaPub =>
    intro id d src aux s runs passes len ranges hsrc haux
    show execRsaPub id src aux s = _
    unfold execRsaPub runPke
    exact runDesc_queues runs passes (pkeWork_auxiliary (dst := some d.len) len (by simpa [pkeRanges] using ranges) hsrc haux _)
  case point =>
    intro id d src s runs passes len ranges hsrc
    show execPointCheck id src s = _
    unfold execPointCheck runPke
    exact runDesc_queues runs passes (pkeWork_source src (dst := none) len (by simpa [pkeRanges] using ranges) hsrc _)
  case load =>
    intro id d src s runs passes block len ranges hsrc
    show execCurveLoad id src s = _
    unfold execCurveLoad runPke
    refine runDesc_queues runs passes ?_
    simp only [if_neg len, ranges, withSrc_ok hsrc, if_pos block]
  case clear =>
    intro id d s runs passes len
    show execCurveClear id s = _
    unfold execCurveClear runPke
    refine runDesc_queues runs passes ?_
    simp only [if_neg len]
  case noWork =>
    intro id g d k src s runs passes key len
    show execEd25519Sign id src s = _
    unfold execEd25519Sign runPke
    refine runDesc_ends runs passes ?_
    rw [withKey_found key]
    simp only [State.pkeWork, len, if_true]

end Sys2Proof.Proofs

/-!
Bits of a register that records one bit for each of several units: what a set and a cleared bit leave of the others.
-/

namespace Sys2Proof.Proofs

open Sys2Proof.Machine Sys2Proof.Laws

/-- A bit below a register's width is not cut. -/
theorem bitOf_mod {w i : Nat} (h : i < w) (m : Nat) : bitOf (m % 2 ^ w) i = bitOf m i := by
  rw [bitOf_eq_testBit, bitOf_eq_testBit, Nat.testBit_mod_two_pow, decide_eq_true h, Bool.true_and]

theorem bitOf_or (m n i : Nat) : bitOf (m ||| n) i = (bitOf m i || bitOf n i) := by
  simp only [bitOf_eq_testBit, Nat.testBit_or]

theorem bitOf_two_pow (k i : Nat) : bitOf (2 ^ k) i = decide (k = i) := by
  rw [bitOf_eq_testBit, Nat.testBit_two_pow]

/-- A register whose bit `k` is cleared: the others are as they were. -/
theorem bitOf_cleared (m k i : Nat) : bitOf (if bitOf m k then m - 2 ^ k else m) i = (bitOf m i && decide (k ≠ i)) := by
  have removed : (if bitOf m k then m - 2 ^ k else m) = m - (m &&& 2 ^ k) := by
    rw [Nat.and_two_pow, bitOf_eq_testBit]
    cases m.testBit k <;> simp
  rw [removed, bitOf_eq_testBit, bitOf_eq_testBit, testBit_sub_and, Nat.testBit_two_pow, decide_not]

/-- A register whose bit `k` is set: the others are as they were. -/
theorem bitOf_marked (m k i : Nat) : bitOf (m ||| 2 ^ k) i = (bitOf m i || decide (k = i)) := by
  rw [bitOf_or, bitOf_two_pow]

/-- A field's bits below its width are those that it was given. -/
theorem bitOf_get_set {f : Field} {i : Nat} (h : i < f.width) (s : State) (v : Nat) : bitOf ((s.set f v).get f) i = bitOf v i := by
  rw [State.get_set_self, bitOf_mod h]

end Sys2Proof.Proofs

/-!
The mailboxes of an instance (R461, R462, R477, R479).
-/

namespace Sys2Proof.Proofs

open Sys2Proof.Machine Sys2Proof.Laws Sys2Proof.Claims

/-! ### The registers of a mailbox -/

/-- Where the fields of the mailboxes stand: those of the tenant on its page, those of the manager on TENANT page 0. -/
theorem mailbox_keys (f : Nat) :
    (MB_OUT_CTRL_BUSY f).key = f * 0x20000 + 0xA200901 ∧ (MB_IN_CTRL_VALID f).key = f * 0x20000 + 0xA200981 ∧
    (MB_REQ_ACK_PENDING f).key = (f - 1) * 0x1000 + 0xA202301 ∧ (MB_RSP_CTRL_BUSY f).key = (f - 1) * 0x1000 + 0xA202381 ∧
    TN_MB_PEND.key = 0xA200880 ∧ TN_ATTN.key = 0xA200900 := by
  simp only [Field.key, MB_OUT_CTRL_BUSY, MB_IN_CTRL_VALID, MB_REQ_ACK_PENDING, MB_RSP_CTRL_BUSY, TN_MB_PEND, TN_ATTN, and_true]
  omega

/-- The fields of the mailboxes of a VF are apart. -/
theorem mailbox_apart {f : Nat} (lo : 1 ≤ f) :
    (MB_OUT_CTRL_BUSY f).key ≠ (MB_REQ_ACK_PENDING f).key ∧ (MB_OUT_CTRL_BUSY f).key ≠ TN_MB_PEND.key ∧ (MB_OUT_CTRL_BUSY f).key ≠ TN_ATTN.key ∧
    (MB_REQ_ACK_PENDING f).key ≠ TN_MB_PEND.key ∧ (MB_REQ_ACK_PENDING f).key ≠ TN_ATTN.key ∧ TN_MB_PEND.key ≠ TN_ATTN.key ∧
    (MB_RSP_CTRL_BUSY f).key ≠ (MB_IN_CTRL_VALID f).key ∧ (MB_IN_CTRL_VALID f).key ≠ TN_ATTN.key ∧ (MB_RSP_CTRL_BUSY f).key ≠ TN_ATTN.key := by
  obtain ⟨out, inn, ack, rsp, pend, attn⟩ := mailbox_keys f
  rw [out, inn, ack, rsp, pend, attn]
  omega

theorem attnBit {f : Nat} (hi : f ≤ 8) : f - 1 < TN_ATTN.width := by
  show f - 1 < 8
  omega

/-- R477. The attention bit of an instance is set, and an event of TENANT page 0 occurs. -/
theorem tenantEdge_attends {f : Nat} (hi : f ≤ 8) (s : State) (bit : Nat) : bitOf ((s.tenantEdge f bit).get TN_ATTN) (f - 1) = true := by
  unfold State.tenantEdge
  rw [State.raise_get, bitOf_get_set (attnBit hi), bitOf_marked, decide_eq_true rfl, Bool.or_true]

@[simp] theorem tenantEdge_shows (s : State) (f bit : Nat) : (s.tenantEdge f bit).shows 0 0x510 bit = true := State.raise_shows _ _ _

theorem tenantEdge_get_ne {x : Field} (h : x.key ≠ TN_ATTN.key) (s : State) (f bit : Nat) : (s.tenantEdge f bit).get x = s.get x := by
  unfold State.tenantEdge
  rw [State.raise_get, State.get_set_ne h, State.setPage_get]

theorem tenantEdge_on_ne {x : Field} (h : x.key ≠ TN_ATTN.key) (s : State) (f bit : Nat) : (s.tenantEdge f bit).on x = s.on x := by
  simp only [State.on, tenantEdge_get_ne h]

theorem onlyRegs_tenantEdge {fs : List Field} {s t : State} (h : OnlyRegs fs s t) (attn : TN_ATTN ∈ fs) (f bit : Nat) : OnlyRegs fs s (t.tenantEdge f bit) :=
  ((h.of_regs (State.setPage_regs t _ _)).set attn _).of_regs (State.raise_regs _ _ _)

/-- R461. The manager's list of instances with a message shows that of `f`, or no longer does. -/
theorem setPend_shows {f : Nat} (hi : f ≤ 8) (s : State) (b : Bool) : bitOf ((s.setPend f b).get TN_MB_PEND) (f - 1) = b := by
  refine (bitOf_get_set (f := TN_MB_PEND) (attnBit hi) _ _).trans ?_
  cases b
  · exact (bitOf_cleared _ _ _).trans (by simp)
  · exact (bitOf_marked _ _ _).trans (by simp)

theorem setPend_on_ne {x : Field} (h : x.key ≠ TN_MB_PEND.key) (s : State) (f : Nat) (b : Bool) : (s.setPend f b).on x = s.on x := by
  unfold State.setPend State.on
  rw [State.get_set_ne h]

theorem on_flag_ne {x y : Field} (h : x.key ≠ y.key) (s : State) (b : Bool) : (s.flag y b).on x = s.on x := by
  simp only [State.on, State.get_flag_ne h]

/-! ### OUT: from the tenant to the manager (R461) -/

/-- R461. A tenant has sent. -/
def mailSent (s : State) (f : Nat) : State := (((s.flag (MB_OUT_CTRL_BUSY f) true).flag (MB_REQ_ACK_PENDING f) true).setPend f true).tenantEdge f 0

/-- R461. The manager has acknowledged what a tenant sent. -/
def mailRead (s : State) (f : Nat) : State := (((s.flag (MB_REQ_ACK_PENDING f) false).flag (MB_OUT_CTRL_BUSY f) false).setPend f false).raise (0x510 + f) 1

theorem mailSent_shows {f : Nat} (lo : 1 ≤ f) (hi : f ≤ 8) (s : State) : (mailSent s f).on (MB_OUT_CTRL_BUSY f) = true ∧ (mailSent s f).on (MB_REQ_ACK_PENDING f) = true ∧
    bitOf ((mailSent s f).get TN_MB_PEND) (f - 1) = true ∧ bitOf ((mailSent s f).get TN_ATTN) (f - 1) = true ∧ (mailSent s f).shows 0 0x510 0 = true := by
  obtain ⟨outAck, outPend, outAttn, ackPend, ackAttn, pendAttn, _⟩ := mailbox_apart lo
  unfold mailSent
  refine ⟨?_, ?_, ?_, tenantEdge_attends hi _ _, tenantEdge_shows _ _ _⟩
  · rw [tenantEdge_on_ne outAttn, setPend_on_ne outPend, on_flag_ne outAck, State.on_flag_self rfl]
  · rw [tenantEdge_on_ne ackAttn, setPend_on_ne ackPend, State.on_flag_self rfl]
  · rw [tenantEdge_get_ne pendAttn, setPend_shows hi]

theorem mailSent_onlyRegs (s : State) (f : Nat) : OnlyRegs [MB_OUT_CTRL_BUSY f, MB_REQ_ACK_PENDING f, TN_MB_PEND, TN_ATTN] s (mailSent s f) :=
  onlyRegs_tenantEdge (.set (onlyRegs_flag (onlyRegs_flag (.refl _ s) (by simp) true) (by simp) true) (by simp) _) (by simp) f 0

theorem mailRead_shows {f : Nat} (lo : 1 ≤ f) (hi : f ≤ 8) (s : State) : (mailRead s f).on (MB_OUT_CTRL_BUSY f) = false ∧ (mailRead s f).on (MB_REQ_ACK_PENDING f) = false ∧
    bitOf ((mailRead s f).get TN_MB_PEND) (f - 1) = false ∧ (mailRead s f).shows 0 (0x510 + f) 1 = true := by
  obtain ⟨outAck, outPend, _, ackPend, _⟩ := mailbox_apart lo
  unfold mailRead
  refine ⟨?_, ?_, ?_, State.raise_shows _ _ _⟩
  · rw [State.raise_on, setPend_on_ne outPend, State.on_flag_self rfl]
  · rw [State.raise_on, setPend_on_ne ackPend, on_flag_ne outAck.symm, State.on_flag_self rfl]
  · rw [State.raise_get, setPend_shows hi]

theorem mailRead_onlyRegs (s : State) (f : Nat) : OnlyRegs [MB_OUT_CTRL_BUSY f, MB_REQ_ACK_PENDING f, TN_MB_PEND] s (mailRead s f) :=
  .of_regs (.set (onlyRegs_flag (onlyRegs_flag (.refl _ s) (by simp) false) (by simp) false) (by simp) _) (State.raise_regs _ _ _)

/-! ### IN: from the manager to the tenant (R461, R477) -/

/-- R461. The manager has answered. -/
def answerSent (s : State) (f : Nat) : State := ((s.flag (MB_RSP_CTRL_BUSY f) true).flag (MB_IN_CTRL_VALID f) true).raise (0x510 + f) 0

/-- R461, R477. The tenant has acknowledged the answer. -/
def answerRead (s : State) (f : Nat) : State :=
  ((s.flag (MB_IN_CTRL_VALID f) false).flag (MB_RSP_CTRL_BUSY f) false).set TN_ATTN (s.get TN_ATTN ||| 2 ^ (f - 1))

theorem answerSent_shows {f : Nat} (lo : 1 ≤ f) (s : State) : (answerSent s f).on (MB_RSP_CTRL_BUSY f) = true ∧ (answerSent s f).on (MB_IN_CTRL_VALID f) = true ∧
    (answerSent s f).shows 0 (0x510 + f) 0 = true := by
  obtain ⟨_, _, _, _, _, _, rspIn, _⟩ := mailbox_apart lo
  unfold answerSent
  refine ⟨?_, ?_, State.raise_shows _ _ _⟩
  · rw [State.raise_on, on_flag_ne rspIn, State.on_flag_self rfl]
  · rw [State.raise_on, State.on_flag_self rfl]

theorem answerSent_onlyRegs (s : State) (f : Nat) : OnlyRegs [MB_RSP_CTRL_BUSY f, MB_IN_CTRL_VALID f] s (answerSent s f) :=
  .of_regs (onlyRegs_flag (onlyRegs_flag (.refl _ s) (by simp) true) (by simp) true) (State.raise_regs _ _ _)

theorem answerRead_shows {f : Nat} (lo : 1 ≤ f) (hi : f ≤ 8) (s : State) : (answerRead s f).on (MB_IN_CTRL_VALID f) = false ∧ (answerRead s f).on (MB_RSP_CTRL_BUSY f) = false ∧
    bitOf ((answerRead s f).get TN_ATTN) (f - 1) = true := by
  obtain ⟨_, _, _, _, _, _, rspIn, inAttn, rspAttn⟩ := mailbox_apart lo
  unfold answerRead
  refine ⟨?_, ?_, ?_⟩
  · rw [State.on, State.get_set_ne inAttn, State.get_flag_ne rspIn.symm]
    exact State.on_flag_self rfl _ _
  · rw [State.on, State.get_set_ne rspAttn]
    exact State.on_flag_self rfl _ _
  · rw [bitOf_get_set (attnBit hi), bitOf_marked, decide_eq_true rfl, Bool.or_true]

theorem answerRead_onlyRegs (s : State) (f : Nat) : OnlyRegs [MB_RSP_CTRL_BUSY f, MB_IN_CTRL_VALID f, TN_ATTN] s (answerRead s f) :=
  .set (onlyRegs_flag (onlyRegs_flag (.refl _ s) (by simp) false) (by simp) false) (by simp) _

/-! ### The commands -/

section

variable {fn f : Nat} {s : State}

theorem exec_mbOutSend (reach : s.Reaches fn (0x510 + f)) :
    exec (.mbOutSend fn f) s = if s.on (MB_OUT_CTRL_BUSY f) then .next (s.refuseWrite fn (MB_OUT_CTRL_SEND f).addr 1) else .next (mailSent s f) := by
  show execMbOutSend fn f s = _
  unfold execMbOutSend
  rw [mmio_reaches reach]
  rfl

theorem exec_mbReqAck (reach : s.Reaches fn 0x510) : exec (.mbReqAck fn f) s = if s.on (MB_REQ_ACK_PENDING f) then .next (mailRead s f) else .next s := by
  show execMbReqAck fn f s = _
  unfold execMbReqAck
  rw [mmio_reaches reach]
  rfl

theorem exec_mbRspSend (reach : s.Reaches fn 0x510) :
    exec (.mbRspSend fn f) s = if s.on (MB_RSP_CTRL_BUSY f) then .next (s.refuseWrite fn (MB_RSP_CTRL_SEND f).addr 1) else .next (answerSent s f) := by
  show execMbRspSend fn f s = _
  unfold execMbRspSend
  rw [mmio_reaches reach]
  rfl

theorem exec_mbInAck (reach : s.Reaches fn (0x510 + f)) : exec (.mbInAck fn f) s = if s.on (MB_IN_CTRL_VALID f) then .next (answerRead s f) else .next s := by
  show execMbInAck fn f s = _
  unfold execMbInAck
  rw [mmio_reaches reach]
  rfl

end

/-! ### The obligation -/

/-- Settles O39: each command by whether a message stands, then what its next state shows. -/
theorem mailboxesOfInstances : Obligations.MailboxesOfInstances := by
  refine ⟨?send, ?sendBusy, ?readOut, ?answer, ?answerBusy, ?readIn, ?noOut, ?noIn⟩
  case send =>
    intro fn f s reach lo hi idle
    obtain ⟨busy, pending, shown, attends, event⟩ := mailSent_shows lo hi s
    exact .of_next ((exec_mbOutSend reach).trans (by rw [idle]; rfl)) ⟨busy, pending, shown, attends, event, mailSent_onlyRegs s f⟩
  case sendBusy => exact fun fn f s reach _ _ busy => (exec_mbOutSend reach).trans (by rw [busy]; rfl)
  case readOut =>
    intro fn f s reach lo hi pending
    obtain ⟨busy, waits, shown, event⟩ := mailRead_shows lo hi s
    exact .of_next ((exec_mbReqAck reach).trans (by rw [pending]; rfl)) ⟨busy, waits, shown, event, mailRead_onlyRegs s f⟩
  case answer =>
    intro fn f s reach lo _ idle
    obtain ⟨busy, valid, event⟩ := answerSent_shows lo s
    exact .of_next ((exec_mbRspSend reach).trans (by rw [idle]; rfl)) ⟨busy, valid, event, answerSent_onlyRegs s f⟩
  case answerBusy => exact fun fn f s reach _ _ busy => (exec_mbRspSend reach).trans (by rw [busy]; rfl)
  case readIn =>
    intro fn f s reach lo hi valid
    obtain ⟨read, idle, attends⟩ := answerRead_shows lo hi s
    exact .of_next ((exec_mbInAck reach).trans (by rw [valid]; rfl)) ⟨read, idle, attends, answerRead_onlyRegs s f, rfl⟩
  case noOut => exact fun fn f s reach none => (exec_mbReqAck reach).trans (by rw [none]; rfl)
  case noIn => exact fun fn f s reach none => (exec_mbInAck reach).trans (by rw [none]; rfl)

end Sys2Proof.Proofs

/-!
The commands and the quiesce of an instance (R454, R464, R465, R478, R480).
-/

namespace Sys2Proof.Proofs

open Sys2Proof.Machine Sys2Proof.Laws Sys2Proof.Claims

/-! ### Commands of the manager (R478, R480) -/

section

variable {fn f : Nat} {c : Instr} {s : State}

theorem tenantWrite_open (at_once : TenantOpen s fn) (body : State → Outcome) : tenantWrite fn f c s body = body s := by
  obtain ⟨reach, unquiesced, stall, behind⟩ := at_once
  unfold tenantWrite
  rw [mmio_reaches reach]
  simp [unquiesced, stall, behind]

/-- R478. A command that its check lets pass runs with OK in its result. -/
theorem tnCmd_runs (runs : TenantRuns s fn f) {check : State → Bool} (allowed : check s = true) (body : State → State) :
    tnCmd fn f c s check body = .next (body (s.set (TN_STAT_RESULT f) 0)) := by
  obtain ⟨at_once, idle, alive⟩ := runs
  unfold tnCmd
  rw [tenantWrite_open at_once]
  simp only [idle, beq_eq_false_iff_ne.mpr alive, allowed]
  rfl

/-- R478. A command is refused while another is in progress, in RESETTING, or by its check. -/
theorem tnCmd_refused (at_once : TenantOpen s fn) {check : State → Bool} (refused : s.on (TN_STAT_BUSY f) = true ∨ s.instState f = 4 ∨ check s = false) (body : State → State) :
    tnCmd fn f c s check body = .next (s.instRefused f 0) := by
  unfold tnCmd
  rw [tenantWrite_open at_once, if_pos]
  obtain busy | resetting | unmet := refused
  · simp [busy]
  · simp [resetting]
  · simp [unmet]

end

/-! ### The registers of an instance -/

/-- The state of an instance stands beside what else a command writes. -/
theorem instState_apart (f : Nat) : (TN_STAT_STATE f).key ≠ (TN_STAT_RESULT f).key ∧ (TN_STAT_STATE f).key ≠ (TN_STAT_BUSY f).key ∧ (TN_STAT_STATE f).key ≠ TN_ATTN.key := by
  simp only [Field.key, TN_STAT_STATE, TN_STAT_RESULT, TN_STAT_BUSY, TN_ATTN]
  omega

theorem busy_apart (f : Nat) : (TN_STAT_BUSY f).key ≠ TN_ATTN.key ∧ (TN_STAT_BUSY f).key ≠ (TN_STAT_RESULT f).key := by
  simp only [Field.key, TN_STAT_BUSY, TN_STAT_RESULT, TN_ATTN]
  omega

/-- A command that is accepted leaves the instance in its state. -/
theorem instState_result (s : State) (f v : Nat) : (s.set (TN_STAT_RESULT f) v).instState f = s.instState f := State.get_set_ne (instState_apart f).1 s v

/-- R477. An edge of TENANT page 0 hides no event. -/
theorem tenantEdge_keepsShown (s : State) (f bit : Nat) : KeepsShown s (s.tenantEdge f bit) := by
  refine KeepsShown.trans (fun g p b shown => ?_) (raiseFn_keepsShown _ 0 0x510 bit)
  unfold State.shows at shown ⊢
  by_cases same : pageKey g p = 0x510
  · rw [same] at shown ⊢
    exact (congrArg (fun q : Page => bitOf q.evtStat b) (State.page_setPage_self s 0x510 _)).trans shown
  · exact (congrArg (fun q : Page => bitOf q.evtStat b) (State.page_setPage_ne same s _)).trans shown

@[simp] theorem tenantEdge_inst (s : State) (f bit g : Nat) : (s.tenantEdge f bit).inst g = s.inst g := by
  unfold State.inst State.tenantEdge
  rw [State.raise_tenants]
  rfl

/-! ### The pages of a stage (R464) -/

/-- Pages that are none of the cores' close their own gates alone. -/
theorem closePages_quiet {pages : List Nat} (apart : ∀ p ∈ pages, 0x200 ≤ p) (s : State) (k : Nat) : (pages.foldl State.closePage s).quiet k = (decide (k ∈ pages) || s.quiet k) := by
  induction pages generalizing s with
  | nil => simp
  | cons p pages ih =>
    have outside := apart p List.mem_cons_self
    rw [List.foldl_cons, ih (fun q hq => apart q (List.mem_cons_of_mem p hq)), closePage_gate (by omega), gate_quiet]
    by_cases same : k = p <;> simp [same]

/-- Stages 1 and 3 close no page of a core. -/
theorem stagePages_outside {s : State} {f stage p : Nat} (outer : stage = 1 ∨ stage = 3) (mem : p ∈ s.stagePages f stage) : 0x200 ≤ p := by
  unfold State.stagePages at mem
  obtain ⟨mem, _⟩ := List.mem_filter.mp mem
  obtain rfl | rfl := outer
  · obtain ⟨j, _, mem⟩ := List.mem_flatMap.mp mem
    simp only [List.mem_cons, List.not_mem_nil, or_false] at mem
    omega
  · simp only [if_neg (show ¬3 = 1 by decide), if_neg (show ¬3 = 2 by decide), if_true, List.mem_append, List.mem_map, List.mem_cons, List.not_mem_nil, or_false] at mem
    obtain (⟨j, _, rfl⟩ | rfl | rfl) | ⟨e, _, rfl⟩ := mem <;> omega

theorem closeStage_quiet {s : State} {f stage p : Nat} (outer : stage = 1 ∨ stage = 3) (mem : p ∈ s.stagePages f stage) : (s.closeStage f stage).quiet p = true := by
  unfold State.closeStage
  rw [closePages_quiet (fun q hq => stagePages_outside outer hq), decide_eq_true mem, Bool.true_or]

/-! ### The end of the quiesce and its undoing (R464, R465) -/

/-- R464. The instance is QUIESCED. -/
def instQuiesced (s : State) (f : Nat) : State := (((s.setInst f { s.inst f with stage := 4 }).set (TN_STAT_STATE f) 3).raise (0x510 + f) 2).tenantEdge f 1

theorem exec_tnQuiesceStage {s : State} {f : Nat} (awake : s.Awake 0x510) (quiescing : s.instState f = 2)
    (quiesced : (s.stagePages f (s.inst f).stage).all (fun p => (s.page p).quiesced) = true) :
    exec (.tnQuiesceStage f) s = .next (if (s.inst f).stage < 3 then (s.setInst f { s.inst f with stage := (s.inst f).stage + 1 }).closeStage f ((s.inst f).stage + 1)
      else instQuiesced s f) := by
  show execTnQuiesceStage f s = _
  unfold execTnQuiesceStage
  rw [event_awake awake, if_neg (by simp [quiescing, quiesced]), apply_ite Host.Outcome.next]
  rfl

theorem instQuiesced_shows {f : Nat} (hi : f ≤ 8) (s : State) : (instQuiesced s f).instState f = 3 ∧ ((instQuiesced s f).inst f).stage = 4 ∧
    (instQuiesced s f).shows 0 (0x510 + f) 2 = true ∧ (instQuiesced s f).shows 0 0x510 1 = true ∧ bitOf ((instQuiesced s f).get TN_ATTN) (f - 1) = true := by
  unfold instQuiesced
  refine ⟨?_, ?_, ?_, tenantEdge_shows _ _ _, tenantEdge_attends hi _ _⟩
  · rw [State.instState, tenantEdge_get_ne (instState_apart f).2.2, State.raise_get]
    exact State.get_set_self _ _ _
  · rw [tenantEdge_inst, State.inst, State.raise_tenants]
    exact congrArg Inst.stage (State.inst_setInst_self s f { s.inst f with stage := 4 })
  · exact tenantEdge_keepsShown _ f 1 0 _ 2 (State.raise_shows _ _ _)

theorem instQuiesced_onlyRegs (s : State) (f : Nat) : OnlyRegs [TN_STAT_STATE f, TN_ATTN] s (instQuiesced s f) := by
  have placed : OnlyRegs [TN_STAT_STATE f, TN_ATTN] s (s.setInst f { s.inst f with stage := 4 }) := .of_regs (.refl _ s) rfl
  exact onlyRegs_tenantEdge ((placed.set (f := TN_STAT_STATE f) (by simp) 3).of_regs (State.raise_regs _ _ _)) (by simp) f 1

/-! ### The obligation -/

/-- Settles O37: each command by `tnCmd_runs` or `tnCmd_refused`, the end of a stage by `exec_tnQuiesceStage`. -/
theorem instancesQuiesceInStages : Obligations.InstancesQuiesceInStages := by
  refine ⟨?ready, ?quiescing, ?refused, ?closes, ?next, ?last, ?undone⟩
  case ready =>
    intro fn f pre s runs _ _ ready
    show execTnQuiesce fn f pre s = _
    unfold execTnQuiesce
    refine (tnCmd_runs runs (by simp [ready]) _).trans ?_
    rw [instState_result, ready]
    rfl
  case quiescing =>
    intro fn f pre s runs _ _ quiescing
    show execTnQuiesce fn f pre s = _
    unfold execTnQuiesce
    refine (tnCmd_runs runs (by simp [quiescing]) _).trans ?_
    have stays : ((s.set (TN_STAT_RESULT f) 0).inst f) = s.inst f := rfl
    rw [instState_result, quiescing, stays]
    by_cases closes : pre = true ∧ (s.inst f).stage = 2
    · simp [closes]
    · rw [if_neg closes, if_neg (by decide), if_neg (by simpa using closes)]
  case refused =>
    intro fn f pre s at_once _ _ state
    show execTnQuiesce fn f pre s = _
    unfold execTnQuiesce
    refine tnCmd_refused at_once ?_ _
    obtain busy | resetting | ⟨unready, unquiescing⟩ := state
    · exact .inl busy
    · exact .inr (.inl resetting)
    · exact .inr (.inr (by simp [unready, unquiescing]))
  case closes => exact fun f p stage s outer mem => closeStage_quiet outer mem
  case next =>
    intro f s awake _ _ quiescing early quiesced
    rw [exec_tnQuiesceStage awake quiescing quiesced, if_pos early]
  case last =>
    intro f s awake _ hi quiescing late quiesced
    obtain ⟨state, stage, own, all, attends⟩ := instQuiesced_shows hi s
    exact .of_next ((exec_tnQuiesceStage awake quiescing quiesced).trans (by rw [if_neg (by omega)])) ⟨state, stage, own, all, attends, instQuiesced_onlyRegs s f⟩
  case undone =>
    intro fn f s runs _ _ state
    refine ⟨?_, ?_, State.inst_setInst_self _ f _⟩
    · show execTnUnquiesce fn f s = _
      unfold execTnUnquiesce
      exact tnCmd_runs runs (by simpa using state) _
    · rw [State.instState, State.raise_get]
      exact State.get_set_self _ _ _

end Sys2Proof.Proofs

/-!
The log of dirty pages (R438, R471 to R475).
-/

namespace Sys2Proof.Proofs

open Sys2Proof.Machine Sys2Proof.Laws Sys2Proof.Claims

/-! ### The registers of a log -/

theorem dirtyLog_keys (f : Nat) :
    (TDL_PI f).key = (f - 1) * 0x1000 + 0xA202680 ∧ (TDL_CI f).key = (f - 1) * 0x1000 + 0xA202700 ∧ (TDL_CTRL_EN f).key = (f - 1) * 0x1000 + 0xA202780 ∧
    (TDL_STAT_OVF f).key = (f - 1) * 0x1000 + 0xA202788 ∧ (TDL_CNT f).key = (f - 1) * 0x1000 + 0xA202800 ∧ (TN_STAT_RESULT f).key = (f - 1) * 0x1000 + 0xA202008 := by
  simp only [Field.key, TDL_PI, TDL_CI, TDL_CTRL_EN, TDL_STAT_OVF, TDL_CNT, TN_STAT_RESULT]
  omega

/-- The fields of a log are apart from each other, from the result of a command and from the attention bits. -/
theorem dirtyLog_apart (f : Nat) : (TDL_PI f).key ≠ (TDL_CI f).key ∧ (TDL_CTRL_EN f).key ≠ (TDL_PI f).key ∧ (TDL_CTRL_EN f).key ≠ (TDL_CI f).key ∧
    (TDL_CNT f).key ≠ (TDL_PI f).key ∧ (TDL_STAT_OVF f).key ≠ (TN_STAT_RESULT f).key ∧ (TDL_CTRL_EN f).key ≠ (TN_STAT_RESULT f).key ∧
    (TDL_STAT_OVF f).key ≠ TN_ATTN.key ∧ (TDL_PI f).key ≠ TN_ATTN.key ∧ (TDL_PI f).key ≠ (TDL_STAT_OVF f).key := by
  obtain ⟨pi, ci, en, ovf, cnt, result⟩ := dirtyLog_keys f
  have attn : TN_ATTN.key = 0xA200900 := rfl
  rw [pi, ci, en, ovf, cnt, result, attn]
  omega

/-! ### What has been sent stays sent -/

/-- R440. A message leaves those sent before it. -/
theorem sendMsg_sends {x : HostOut} {s : State} (sent : x ∈ s.host.out) (fn page : Nat) : x ∈ (s.sendMsg fn page).host.out := by
  unfold State.sendMsg
  dsimp only
  split
  · exact sent
  · split
    · split <;> exact sent
    · split
      · split <;> exact sent
      · exact List.mem_append_left _ sent

theorem raise_sends {x : HostOut} {s : State} (sent : x ∈ s.host.out) (page bit : Nat) : x ∈ (s.raise page bit).host.out := by
  unfold State.raise State.raiseFn
  dsimp only
  split
  · exact foldl_of (P := fun t => x ∈ t.host.out) sent fun t f ht => sendMsg_sends ht f page
  · exact sent

theorem tenantEdge_sends {x : HostOut} {s : State} (sent : x ∈ s.host.out) (f bit : Nat) : x ∈ (s.tenantEdge f bit).host.out := by
  unfold State.tenantEdge
  dsimp only
  refine raise_sends ?_ 0x510 bit
  exact sent

theorem dirty_of_rest {s t : State} (h : t.host.rest = s.host.rest) : t.host.dirty = s.host.dirty := by
  have dirty := congrArg HostIf.dirty h
  exact dirty

@[simp] theorem raise_dirty (s : State) (page bit : Nat) : (s.raise page bit).host.dirty = s.host.dirty := dirty_of_rest (s.raise_only page bit .host (by decide))

/-! ### Posted writes of the log (R471, R472) -/

/-- R422. What is posted by the PF goes out, unless the link waits for a reset or a translation denies it. -/
theorem postWrite_manager {s : State} {agent iova : Nat} {bs : List Byte} (some_bytes : bs ≠ []) (link : s.host.waitLinkReset = false) (allowed : s.hostDenied 0 iova bs.length true = false) :
    s.postWrite 0 agent iova bs = ({ s with host := { s.host with out := s.host.out ++ [HostOut.write 0 iova bs] } }, .ok) := by
  have alive : s.resetting 0 = false := rfl
  simp [State.postWrite, some_bytes, alive, link, allowed]

theorem leBytes_length (n v : Nat) : (leBytes n v).length = n := by
  induction n generalizing v with
  | zero => rfl
  | succ n ih => rw [leBytes, List.length_cons, ih]

theorem leBytes_ne_nil {n : Nat} (some_byte : 0 < n) (v : Nat) : leBytes n v ≠ [] := by
  intro empty
  have := leBytes_length n v
  rw [empty] at this
  simp at this
  omega

/-- R472. The index goes to its place in the PF's memory. -/
theorem dirtyIndex_posts {s : State} {f : Nat} (link : s.host.waitLinkReset = false) (allowed : s.hostDenied 0 (s.pair (TDL_WB_LO f) (TDL_WB_HI f)) 4 true = false) (agent : Nat) :
    s.dirtyIndex f agent =
      { s with host := { s.host with out := s.host.out ++ [HostOut.write 0 (s.pair (TDL_WB_LO f) (TDL_WB_HI f)) (leBytes 4 (s.get (TDL_PI f)))] } } := by
  unfold State.dirtyIndex
  rw [postWrite_manager (leBytes_ne_nil (by decide) _) link (by rw [leBytes_length]; exact allowed)]

/-- R471. The log has the entry of a page. -/
def pageLogged (s : State) (f agent page : Nat) : State :=
  let iova := s.pair (TDL_BASE_LO f) (TDL_BASE_HI f) + 8 * (s.get (TDL_PI f) % s.get (TDL_SIZE f))
  (({ s with host := { s.host with out := s.host.out ++ [HostOut.write 0 iova (leBytes 8 (page * 4096 + agent))],
                                   dirty := Map.put [] s.host.dirty f ((page :: Map.get s.host.dirty [] f).take 4096) } }.add (TDL_PI f) 1).add (TDL_CNT f) 1)

/-- R471, R472. A page that is not in the filter is logged at the next position of a ring that has room. -/
theorem dirtyPage_logs {s : State} {f agent page : Nat} (fresh : page ∉ Map.get s.host.dirty [] f)
    (room : (s.get (TDL_PI f) + 2 ^ 32 - s.get (TDL_CI f)) % 2 ^ 32 ≠ s.get (TDL_SIZE f)) (link : s.host.waitLinkReset = false)
    (allowed : s.hostDenied 0 (s.pair (TDL_BASE_LO f) (TDL_BASE_HI f) + 8 * (s.get (TDL_PI f) % s.get (TDL_SIZE f))) 8 true = false) (within : (s.get (TDL_PI f) + 1) % 64 ≠ 0) :
    s.dirtyPage f agent page = pageLogged s f agent page := by
  unfold State.dirtyPage
  dsimp only
  rw [if_neg (by simpa using fresh), if_neg room, postWrite_manager (leBytes_ne_nil (by decide) _) link (by rw [leBytes_length]; exact allowed), if_neg within]
  rfl

/-- R473. A full ring records nothing, and shows it once. -/
theorem dirtyPage_full {s : State} {f page : Nat} (fresh : page ∉ Map.get s.host.dirty [] f)
    (full : (s.get (TDL_PI f) + 2 ^ 32 - s.get (TDL_CI f)) % 2 ^ 32 = s.get (TDL_SIZE f)) (first : s.on (TDL_STAT_OVF f) = false) (agent : Nat) :
    s.dirtyPage f agent page = (s.flag (TDL_STAT_OVF f) true).tenantEdge f 3 := by
  unfold State.dirtyPage
  dsimp only
  rw [if_neg (by simpa using fresh), if_pos full, first]
  rfl

/-! ### Commands of the log -/

/-- R475. The command of an instance that waited for its end has ended, with an event of TENANT page 0. -/
def instDone (s : State) (f bit : Nat) : State := ((s.setInst f { s.inst f with job := 0 }).flag (TN_STAT_BUSY f) false).tenantEdge f bit

theorem instDone_shows (s : State) (f bit : Nat) : (instDone s f bit).on (TN_STAT_BUSY f) = false ∧ ((instDone s f bit).inst f).job = 0 ∧ (instDone s f bit).shows 0 0x510 bit = true := by
  unfold instDone
  refine ⟨?_, ?_, tenantEdge_shows _ _ _⟩
  · rw [tenantEdge_on_ne (busy_apart f).1, State.on_flag_self rfl]
  · rw [tenantEdge_inst]
    exact congrArg Inst.job (State.inst_setInst_self s f _)

theorem instDone_onlyRegs (s : State) (f bit : Nat) : OnlyRegs [TN_STAT_BUSY f, TN_ATTN] s (instDone s f bit) := by
  have placed : OnlyRegs [TN_STAT_BUSY f, TN_ATTN] s (s.setInst f { s.inst f with job := 0 }) := .of_regs (.refl _ s) rfl
  exact onlyRegs_tenantEdge (onlyRegs_flag placed (f := TN_STAT_BUSY f) (by simp) false) (by simp) f bit

/-- R472. The index has been written back; the agent that a refusal would have named was drawn. -/
def indexWritten (s : State) (f : Nat) : State :=
  { s with freeCtr := s.freeCtr + 1,
           host := { s.host with out := s.host.out ++ [.write 0 (s.pair (TDL_WB_LO f) (TDL_WB_HI f)) (leBytes 4 (s.get (TDL_PI f)))] } }

/-- R472, R475. The index has been written back, and the SYNC has ended. -/
theorem exec_dlDone {s : State} {f : Nat} (awake : s.Awake 0x510) (syncing : (s.inst f).job = 4) (free : s.hostHeld 0 (s.pair (TDL_WB_LO f) (TDL_WB_HI f)) 4 = false)
    (link : s.host.waitLinkReset = false) (allowed : s.hostDenied 0 (s.pair (TDL_WB_LO f) (TDL_WB_HI f)) 4 true = false) :
    exec (.dlDone f) s = .next (instDone (indexWritten s f) f 4) := by
  show execDlDone f s = _
  unfold execDlDone
  rw [event_awake awake, if_neg (by simp [syncing, free])]
  exact congrArg (fun x : State => Host.Outcome.next (((x.setInst f { s.inst f with job := 0 }).flag (TN_STAT_BUSY f) false).tenantEdge f 4))
    (dirtyIndex_posts (s := { s with freeCtr := s.freeCtr + 1 }) link allowed _)

/-- R471, R473. Logging begins with an empty ring and an empty filter. -/
def logStarted (s : State) (f : Nat) : State :=
  (({ s with host := { s.host with dirty := Map.erase s.host.dirty f } }.flag (TDL_CTRL_EN f) true).set (TDL_PI f) 0).set (TDL_CI f) 0

/-- R473. A new epoch begins with an empty filter. -/
def logEpoch (s : State) (f : Nat) : State := { s with host := { s.host with dirty := Map.erase s.host.dirty f } }.flag (TDL_STAT_OVF f) false

theorem erased_get {α : Type} (m : Map α) (d : α) (k : Nat) : Map.get (Map.erase m k) d k = d := by
  simp [Map.get]

theorem logStarted_shows (s : State) (f : Nat) : (logStarted s f).on (TDL_CTRL_EN f) = true ∧ (logStarted s f).get (TDL_PI f) = 0 ∧ (logStarted s f).get (TDL_CI f) = 0 ∧
    Map.get (logStarted s f).host.dirty [] f = [] := by
  obtain ⟨piCi, enPi, enCi, _⟩ := dirtyLog_apart f
  unfold logStarted
  refine ⟨?_, ?_, State.get_set_self _ _ _, erased_get _ _ _⟩
  · rw [State.on, State.get_set_ne enCi, State.get_set_ne enPi]
    exact State.on_flag_self rfl _ _
  · rw [State.get_set_ne piCi]
    exact State.get_set_self _ _ _

theorem exec_dlEnable {s : State} {fn f : Nat} (reach : s.Reaches fn 0x510) (en : Bool) :
    exec (.dlEnable fn f en) s = .next (if en && !s.on (TDL_CTRL_EN f) then logStarted s f else s.flag (TDL_CTRL_EN f) en) := by
  show execDlEnable fn f en s = _
  unfold execDlEnable
  rw [mmio_reaches reach]
  split <;> rfl

/-! ### The obligation -/

/-- Settles O41: each command by its rule above, a page by `dirtyPage_logs` or `dirtyPage_full`. -/
theorem dirtyPageLogging : Obligations.DirtyPageLogging := by
  refine ⟨?sync, ?syncOff, ?done, ?epoch, ?on, ?off, ?consumed, ?logs, ?seen, ?full⟩
  case sync =>
    intro fn f s runs _ _ logging
    have stays : (s.set (TN_STAT_RESULT f) 0).on (TDL_CTRL_EN f) = true := by
      rw [State.on, State.get_set_ne (dirtyLog_apart f).2.2.2.2.2.1]
      exact logging
    show execDlSync fn f s = _
    unfold execDlSync
    exact (tnCmd_runs runs rfl _).trans (by rw [if_pos stays])
  case syncOff =>
    intro fn f s runs _ _ logging
    have stays : (s.set (TN_STAT_RESULT f) 0).on (TDL_CTRL_EN f) = false := by
      rw [State.on, State.get_set_ne (dirtyLog_apart f).2.2.2.2.2.1]
      exact logging
    show execDlSync fn f s = _
    unfold execDlSync
    exact (tnCmd_runs runs rfl _).trans (by rw [if_neg (by simp [stays])])
  case done =>
    intro f s awake _ _ syncing free link allowed
    obtain ⟨idle, job, event⟩ := instDone_shows (indexWritten s f) f 4
    exact .of_next (exec_dlDone awake syncing free link allowed) ⟨idle, job, event, tenantEdge_sends (List.mem_append_right _ List.mem_cons_self) f 4⟩
  case epoch =>
    intro fn f s runs _ _
    have ovfResult := (dirtyLog_apart f).2.2.2.2.1
    have run : execDlEpoch fn f s = .next (logEpoch (s.set (TN_STAT_RESULT f) 0) f) := by
      unfold execDlEpoch
      exact tnCmd_runs runs rfl _
    refine .of_next run ⟨State.on_flag_self rfl _ _, erased_get _ _ _, ?_, ?_⟩
    · exact (State.get_flag_ne ovfResult.symm _ _).trans (show (s.set (TN_STAT_RESULT f) 0).get _ = 0 from State.get_set_self _ _ _)
    · exact onlyRegs_flag (.of_regs (OnlyRegs.set (f := TN_STAT_RESULT f) (.refl _ s) (by simp) 0) rfl) (by simp) false
  case on =>
    intro fn f s reach _ _ off
    obtain ⟨en, pi, ci, filter⟩ := logStarted_shows s f
    refine .of_next ((exec_dlEnable reach true).trans (by rw [off]; rfl)) ⟨en, pi, ci, filter, ?_⟩
    exact (OnlyRegs.set (f := TDL_PI f) (onlyRegs_flag (.of_regs (.refl _ s) rfl) (by simp) true) (by simp) 0).set (by simp) 0
  case off => exact fun fn f s reach => exec_dlEnable reach false
  case consumed =>
    intro fn f p s reach logging accepted
    show execDlCiDoorbell fn f p s = _
    unfold execDlCiDoorbell
    rw [mmio_reaches reach, logging, accepted]
    rfl
  case logs =>
    intro f agent page s _ _ fresh _ room link allowed within
    rw [dirtyPage_logs fresh room link allowed within]
    refine ⟨rfl, ?_, ?_⟩
    · exact (State.get_add_ne (dirtyLog_apart f).2.2.2.1.symm _ _).trans (State.get_add_self _ _ _)
    · unfold pageLogged
      exact Map.get_put_self [] s.host.dirty f ((page :: Map.get s.host.dirty [] f).take 4096)
  case seen =>
    intro f agent page s seen
    unfold State.dirtyPage
    rw [if_pos (by simpa using seen)]
  case full =>
    intro f agent page s _ _ fresh full first
    obtain ⟨_, _, _, _, _, _, ovfAttn, piAttn, piOvf⟩ := dirtyLog_apart f
    rw [dirtyPage_full fresh full first]
    refine ⟨?_, tenantEdge_shows _ _ _, ?_, raise_dirty _ _ _⟩
    · rw [tenantEdge_on_ne ovfAttn, State.on_flag_self rfl]
    · rw [tenantEdge_get_ne piAttn, State.get_flag_ne piOvf]

end Sys2Proof.Proofs

/-!
The error set that a read of ERR_CODE captures (R617).
-/

namespace Sys2Proof.Proofs

open Sys2Proof.Machine Sys2Proof.Laws Sys2Proof.Claims

/-- R617. The offsets of the four words that a read of ERR_CODE captures: ERR_INFO0, ERR_INFO1 and both words of the time. -/
def ErrorWord (o : Nat) : Prop := o = 0x28 ∨ o = 0x2C ∨ o = 0x30 ∨ o = 0x34

theorem plainRead_error {o : Nat} (h : ErrorWord o) (page : Nat) : PlainRead page o := by
  unfold ErrorWord at h
  unfold PlainRead
  omega

/-- R9. The live value of a word of the error set is that of the page's common layout. -/
theorem wordAt_error {page o : Nat} (page_there : implemented page = true) (h : ErrorWord o) (s : State) (fn : Nat) : s.wordAt fn (4096 * page + o) = s.commonWord fn page o := by
  unfold ErrorWord at h
  have page_eq : (4096 * page + o) / 4096 = page := by omega
  have off_eq : (4096 * page + o) % 4096 = o := by omega
  unfold State.wordAt
  simp only [page_eq, off_eq, page_there]
  rw [if_neg (by decide), if_pos (by omega)]

/-- R617. The capture of each of the four words is what the reader saw of it. -/
theorem readErr_captured {o : Nat} (h : ErrorWord o) (s : State) (who fn page : Nat) :
    (s.readErr who fn page).captured who (4096 * page + o) = some (s.commonWord fn page o) := by
  obtain ⟨_, info0, info1, ns, sec, _⟩ := readErr_captures s who fn page
  obtain rfl | rfl | rfl | rfl := h
  · exact info0
  · exact info1
  · exact ns
  · exact sec

/-- R5, R355. The first read of a word returns its live value, also where it turns ERR_INFO1. -/
theorem readWord_readData {s : State} {who fn addr : Nat} (h : s.captured who addr = none) : (s.readWord who fn addr).readData = s.wordAt fn addr := by
  unfold State.readWord
  rw [h]
  rfl

/-- What a reader captures is apart from what another reader has captured. -/
theorem captured_setCaptured_other {who g addr x : Nat} (h : g ≠ who) (ha : addr < 2 ^ 27) (hx : x < 2 ^ 27) (s : State) (v : Option Nat) :
    (s.setCaptured who addr v).captured g x = s.captured g x :=
  Map.get_put_ne (by omega) _ _ _ _

theorem readErr_captured_other {who g page x : Nat} (h : g ≠ who) (hp : page < 2 ^ 15) (hx : x < 2 ^ 27) (s : State) (fn : Nat) :
    (s.readErr who fn page).captured g x = s.captured g x := by
  have addr (o : Nat) (ho : o < 4096) : 4096 * page + o < 2 ^ 27 := by omega
  unfold State.readErr
  rw [captured_answer, captured_turnInfo]
  simp only [List.foldl_cons, List.foldl_nil]
  rw [captured_setCaptured_other h (addr _ (by decide)) hx, captured_setCaptured_other h (addr _ (by decide)) hx,
    captured_setCaptured_other h (addr _ (by decide)) hx, captured_setCaptured_other h (addr _ (by decide)) hx]

/-- A read of ERR_CODE changes nothing that decides who reaches a page. -/
theorem reaches_readErr {s : State} {fn page : Nat} (reach : s.Reaches fn page) (who g p : Nat) : (s.readErr who g p).Reaches fn page := by
  have turned (t : State) : (t.turnInfo g p).regs = t.regs ∧ (t.turnInfo g p).host = t.host ∧ (t.turnInfo g p).power = t.power := by
    unfold State.turnInfo
    dsimp only
    split <;> exact ⟨rfl, rfl, rfl⟩
  obtain ⟨regs, host, power⟩ := turned ([0x28, 0x2C, 0x30, 0x34].foldl (fun t o => t.setCaptured who (4096 * p + o) (some (s.commonWord g p o))) s)
  exact reaches_of_parts regs host power reach

/-- Settles O59: the capture outlives a newer error, of which `captureFn` writes the live words alone. -/
theorem errorCodeReadsCaptureTheErrorSet : Obligations.ErrorCodeReadsCaptureTheErrorSet := by
  refine ⟨?captured, ?live, ?others⟩
  case captured =>
    intro fn page g p a b o st s reach page_there word
    have inPage : o < 4096 ∧ o % 4 = 0 := by omega
    have still : ((s.readErr fn fn page).captureFn g p st a b).Reaches fn page := reaches_of_parts (s := s.readErr fn fn page) rfl rfl rfl (reaches_readErr reach _ _ _)
    have held : ((s.readErr fn fn page).captureFn g p st a b).captured fn (4096 * page + o) = some (s.commonWord fn page o) := readErr_captured word s fn fn page
    refine .of_next (exec_errCodeRead reach) (.of_next (exec_lowerWordRead still inPage.1 inPage.2 (plainRead_error word page)) ?_)
    rw [readWord_captured held, readData_answer, wordAt_error page_there word]
  case live =>
    intro fn page o s reach _ word uncaptured
    exact .of_next (exec_lowerWordRead reach (by omega) (by omega) (plainRead_error word page)) (readWord_readData uncaptured)
  case others => exact fun fn g page x s reach other hp hx => .of_next (exec_errCodeRead reach) (readErr_captured_other other hp hx s fn)

end Sys2Proof.Proofs

/-!
Host windows and the translation cache (R427 to R430).
-/

namespace Sys2Proof.Proofs

open Sys2Proof.Machine Sys2Proof.Laws Sys2Proof.Claims

/-! ### Host windows (R427, R428) -/

/-- R428. The attributes of a window have been stored. -/
def windowStored (s : State) (fn e len : Nat) (ro valid : Bool) : State :=
  ((s.set (HW_ATTR_LEN fn e) len).flag (HW_ATTR_RO fn e) ro).flag (HW_ATTR_VALID fn e) valid

theorem windowAttr_apart (fn e : Nat) : (HW_ATTR_LEN fn e).key ≠ (HW_ATTR_RO fn e).key ∧ (HW_ATTR_LEN fn e).key ≠ (HW_ATTR_VALID fn e).key ∧
    (HW_ATTR_RO fn e).key ≠ (HW_ATTR_VALID fn e).key := by
  simp only [Field.key, HW_ATTR_LEN, HW_ATTR_RO, HW_ATTR_VALID]
  omega

theorem windowStored_shows (s : State) (fn e len : Nat) (ro valid : Bool) : (windowStored s fn e len ro valid).get (HW_ATTR_LEN fn e) = len % 2 ^ 24 ∧
    (windowStored s fn e len ro valid).on (HW_ATTR_RO fn e) = ro ∧ (windowStored s fn e len ro valid).on (HW_ATTR_VALID fn e) = valid := by
  obtain ⟨lenRo, lenValid, roValid⟩ := windowAttr_apart fn e
  unfold windowStored
  refine ⟨?_, ?_, State.on_flag_self rfl _ _⟩
  · rw [State.get_flag_ne lenValid, State.get_flag_ne lenRo]
    exact State.get_set_self _ _ _
  · rw [on_flag_ne roValid]
    exact State.on_flag_self rfl _ _

theorem windowStored_onlyRegs (s : State) (fn e len : Nat) (ro valid : Bool) :
    OnlyRegs [HW_ATTR_LEN fn e, HW_ATTR_RO fn e, HW_ATTR_VALID fn e] s (windowStored s fn e len ro valid) := by
  have stored : OnlyRegs [HW_ATTR_LEN fn e, HW_ATTR_RO fn e, HW_ATTR_VALID fn e] s (s.set (HW_ATTR_LEN fn e) len) := OnlyRegs.set (.refl _ s) (by simp) len
  exact onlyRegs_flag (onlyRegs_flag stored (by simp) ro) (by simp) valid

/-- R428. A write of attributes that is stored. -/
theorem exec_hwAttrWrite_stores {fn e len : Nat} {ro valid : Bool} {s : State} (reach : s.Reaches fn 0x500)
    (accepted : valid = false ∨ s.on (HW_ATTR_VALID fn e) = false ∧ s.windowBad fn e (len % 2 ^ 24) = false) :
    exec (.hwAttrWrite fn e len ro valid) s = .next (windowStored s fn e (len % 2 ^ 24) ro valid) := by
  show execHwAttrWrite fn e len ro valid s = _
  unfold execHwAttrWrite
  rw [mmio_reaches reach]
  have accepts : (valid && (s.on (HW_ATTR_VALID fn e) || s.windowBad fn e (len % 2 ^ 24))) = false := by
    obtain rfl | ⟨invalid, fits⟩ := accepted
    · rfl
    · rw [invalid, fits, Bool.or_false, Bool.and_false]
  simp only [accepts]
  rfl

/-- The only member of a list with a property is the one found. -/
theorem find_only {α : Type} {l : List α} {p : α → Bool} {x : α} (mem : x ∈ l) (holds : p x = true) (only : ∀ y ∈ l, p y = true → y = x) : l.find? p = some x := by
  cases found : l.find? p with
  | none => exact absurd holds (List.find?_eq_none.mp found x mem)
  | some y => rw [only y (List.mem_of_find?_eq_some found) (List.find?_some found)]

/-- R427. A valid entry that covers a range, which no other valid entry meets, is the one that is used. -/
theorem hostWindow_covered {s : State} {fn addr n e : Nat} (write : Bool) (mem : e < 16) (valid : s.on (HW_ATTR_VALID fn e) = true) (lower : s.get (HW_OFF fn e) * 4096 ≤ addr)
    (upper : addr + n ≤ (s.get (HW_OFF fn e) + s.get (HW_ATTR_LEN fn e)) * 4096) (some_byte : 0 < n)
    (others : ∀ g, g < 16 → g ≠ e → s.on (HW_ATTR_VALID fn g) = true → addr + n ≤ s.get (HW_OFF fn g) * 4096 ∨ (s.get (HW_OFF fn g) + s.get (HW_ATTR_LEN fn g)) * 4096 ≤ addr) :
    s.hostWindow fn addr n write = if write = true ∧ s.on (HW_ATTR_RO fn e) = true then none else some (s.pair (HW_IOVA_LO fn e) (HW_IOVA_HI fn e) + (addr - s.get (HW_OFF fn e) * 4096)) := by
  have used : (List.range 16).find? (fun g => s.on (HW_ATTR_VALID fn g) && decide (s.get (HW_OFF fn g) * 4096 ≤ addr)
      && decide (addr + n ≤ (s.get (HW_OFF fn g) + s.get (HW_ATTR_LEN fn g)) * 4096)) = some e := by
    refine find_only (List.mem_range.mpr mem) (by simp [valid, lower, upper]) fun g hg covers => ?_
    by_contra other
    simp only [Bool.and_eq_true, decide_eq_true_eq] at covers
    obtain ⟨⟨validG, fromG⟩, toG⟩ := covers
    have apart := others g (List.mem_range.mp hg) other validG
    omega
  unfold State.hostWindow
  rw [used]
  simp only [Bool.and_eq_true]

/-! ### Translations (R429, R430) -/

/-- R429. A translation enters a cache that has room for it. -/
theorem exec_atsTranslation {fn p : Nat} {s : State} (on : s.pageOn 0x500 = true) (free : s.underInvalidation fn p = false) (room : s.host.translations.length < 2048) (read write : Bool) :
    Runs (.atsTranslation fn p read write) s (fun t => t.host.translations = s.host.translations.filter (fun x => !(x.fn == fn && x.page == p)) ++ [⟨fn, p, read, write⟩]) := by
  have fits : (s.host.translations.filter (fun x => !(x.fn == fn && x.page == p))).length < 2048 := (List.length_filter_le _ _).trans_lt room
  show ∃ t, execAtsTranslation fn p read write s = .next t ∧ _
  unfold execAtsTranslation
  rw [if_neg (by simp [on, free])]
  exact ⟨_, rfl, by simp only [if_pos fits]⟩

/-- R430. The completion of an invalidation goes out where no read of its pages is outstanding. -/
def invalidationDone (s : State) (i : Nat × Nat × Nat × Nat) : State :=
  { s with host := { s.host with invalidating := s.host.invalidating.erase i, out := s.host.out ++ [HostOut.invalidated i.1] } }.add HI_ATC_INV_CNT 1

theorem exec_atsInvComplete {tag fn p n : Nat} {s : State} (pending : s.host.invalidating.find? (fun i => i.1 == tag) = some (tag, fn, p, n))
    (done : ∀ r ∈ s.host.reads, r.fn = fn → r.iova / 4096 < p + n → r.iova + r.len ≤ p * 4096) : exec (.atsInvComplete tag) s = .next (invalidationDone s (tag, fn, p, n)) := by
  have none_left : s.host.reads.any (fun r => r.fn == fn && decide (r.iova / 4096 < p + n) && decide (p * 4096 < r.iova + r.len)) = false := by
    rw [List.any_eq_false]
    intro r mem outstanding
    simp only [Bool.and_eq_true, beq_iff_eq, decide_eq_true_eq] at outstanding
    obtain ⟨⟨holder, before⟩, after⟩ := outstanding
    exact absurd (done r mem holder before) (by omega)
  show execAtsInvComplete tag s = _
  unfold execAtsInvComplete
  rw [pending]
  simp only [none_left]
  rfl

/-! ### The obligation -/

/-- Settles O33: each access by its rule above. -/
theorem hostWindowsAndTranslations : Obligations.HostWindowsAndTranslations := by
  refine ⟨?stores, ?refuses, ?translation, ?invalidate, ?complete, ?window⟩
  case stores =>
    intro fn e len ro valid s reach _ _ accepted
    obtain ⟨length, readOnly, validity⟩ := windowStored_shows s fn e (len % 2 ^ 24) ro valid
    exact .of_next (exec_hwAttrWrite_stores reach accepted) ⟨by rw [length, Nat.mod_mod], readOnly, validity, windowStored_onlyRegs _ _ _ _ _ _, rfl⟩
  case refuses =>
    intro fn e len ro s reach bad
    show execHwAttrWrite fn e len ro true s = _
    unfold execHwAttrWrite
    rw [mmio_reaches reach]
    have refused : (true && (s.on (HW_ATTR_VALID fn e) || s.windowBad fn e (len % 2 ^ 24))) = true := by simpa using bad
    simp only [refused]
    rfl
  case translation => exact fun fn p read write s on free room => exec_atsTranslation on free room read write
  case invalidate =>
    intro tag fn p n s on
    show ∃ t, execAtsInvalidate tag fn p n s = .next t ∧ _
    unfold execAtsInvalidate
    rw [if_neg (by simp [on])]
    refine ⟨_, rfl, ?_, ?_, rfl⟩
    · intro x mem ⟨holder, lower, upper⟩
      have kept := (List.mem_filter.mp mem).2
      simp [holder, lower, upper] at kept
    · intro x mem outside
      refine List.mem_filter.mpr ⟨mem, ?_⟩
      by_contra covered
      simp only [Bool.not_eq_true', Bool.not_eq_false, Bool.and_eq_true, beq_iff_eq, decide_eq_true_eq] at covered
      omega
  case complete =>
    intro tag fn p n s _ pending done
    refine .of_next (exec_atsInvComplete pending done) ⟨rfl, rfl, State.get_add_self _ _ _, ?_⟩
    exact OnlyRegs.set (.of_regs (.refl _ s) rfl) (by simp) _
  case window => exact fun fn addr n e write s _ mem valid lower upper some_byte others => hostWindow_covered write mem valid lower upper some_byte others

end Sys2Proof.Proofs

/-!
Message routing, link errors, the abort log and the link (R423, R439 to R442, R447 to R449).
-/

namespace Sys2Proof.Proofs

open Sys2Proof.Machine Sys2Proof.Laws Sys2Proof.Claims

/-! ### Routes and messages (R439 to R442) -/

/-- R439. A page of a function is routed. -/
def routed (s : State) (fn page : Nat) (r : Route) : State := { s with host := { s.host with routes := Map.put {} s.host.routes (fn * 16384 + page) r } }

theorem route_routed_self (s : State) (fn page : Nat) (r : Route) : (routed s fn page r).route fn page = r := Map.get_put_self _ _ _ _

theorem route_routed_ne {p page : Nat} (h : p ≠ page) (s : State) (fn : Nat) (r : Route) : (routed s fn page r).route fn p = s.route fn p :=
  Map.get_put_ne (by omega) _ _ _ _

theorem exec_irqRouteWrite {fn v : Nat} {s : State} (reach : s.Reaches fn 0x500) (en : Bool) :
    exec (.irqRouteWrite fn v en) s = .next (if vectorsOf fn ≤ v ∨ s.sees fn (s.get (IRQ_SEL fn)) = false then s.captureFn fn 0x500 .badParam 0x304 (v % 2048 + 2 ^ 31 * b2n en)
      else routed s fn (s.get (IRQ_SEL fn)) { vector := v, en := en }) := by
  show execIrqRouteWrite fn v en s = _
  unfold execIrqRouteWrite
  rw [mmio_reaches reach]
  simp only [Bool.not_eq_eq_eq_not, Bool.not_true]
  split <;> rfl

/-- R440, R442. A function that may send, and owes the message of no page, sends the messages of its unmasked vectors that are pending. -/
theorem sendOwed_vectors {s : State} {fn : Nat} (awake : fn ∉ s.host.d3hot) (enabled : fn ∈ s.host.msixEnabled) (clear : ∀ k ∈ s.host.owed, k / 16384 ≠ fn) :
    (s.sendOwed fn).host = { s.host with
      owed := s.host.owed.filter (fun k => k / 16384 != fn)
      vecPending := s.host.vecPending.filter (fun k => !(s.host.vecPending.filter (fun k => k / 2048 == fn && s.host.unmasked.contains k)).contains k)
      out := s.host.out ++ (s.host.vecPending.filter (fun k => k / 2048 == fn && s.host.unmasked.contains k)).map (fun k => HostOut.msg fn (k % 2048)) } := by
  have none_owed : s.host.owed.filter (fun k => k / 16384 == fn) = [] := List.filter_eq_nil_iff.mpr fun k mem => by simpa using clear k mem
  unfold State.sendOwed
  rw [if_neg (by simp [awake, enabled])]
  simp only [none_owed, List.foldl_nil]

/-- R440. A vector of a function has been unmasked. -/
def vectorUnmasked (s : State) (k : Nat) : State := { s with host := { s.host with unmasked := s.host.unmasked ++ [k] } }

/-- R440. Of the vectors of a function only the unmasked one is pending, if any is: it alone is sent. -/
theorem vectorUnmasked_sends {s : State} {fn v : Nat} (awake : fn ∉ s.host.d3hot) (enabled : fn ∈ s.host.msixEnabled) (clear : ∀ k ∈ s.host.owed, k / 16384 ≠ fn)
    (only : ∀ k ∈ s.host.vecPending, k / 2048 = fn → k = fn * 2048 + v) (hv : v < 2048) :
    ((vectorUnmasked s (fn * 2048 + v)).sendOwed fn).host.unmasked = s.host.unmasked ++ [fn * 2048 + v] ∧
      ((vectorUnmasked s (fn * 2048 + v)).sendOwed fn).host.out = s.host.out ++ (s.host.vecPending.filter (· == fn * 2048 + v)).map (fun _ => .msg fn v) ∧
      fn * 2048 + v ∉ ((vectorUnmasked s (fn * 2048 + v)).sendOwed fn).host.vecPending := by
  have ready : s.host.vecPending.filter (fun k => k / 2048 == fn && (s.host.unmasked ++ [fn * 2048 + v]).contains k) = s.host.vecPending.filter (· == fn * 2048 + v) := by
    refine List.filter_congr fun k mem => ?_
    by_cases same : k = fn * 2048 + v
    · have own : k / 2048 = fn := by omega
      rw [own, same]
      simp
    · have other : k / 2048 ≠ fn := fun own => same (only k mem own)
      rw [beq_false_of_ne other, beq_false_of_ne same, Bool.false_and]
  have sent := sendOwed_vectors (s := vectorUnmasked s (fn * 2048 + v)) awake enabled clear
  simp only [vectorUnmasked, ready] at sent ⊢
  rw [sent]
  refine ⟨rfl, ?_, ?_⟩
  · refine congrArg (s.host.out ++ ·) (List.map_congr_left fun k mem => ?_)
    have same : k = fn * 2048 + v := by simpa using (List.mem_filter.mp mem).2
    have low : k % 2048 = v := by omega
    rw [low]
  · simp

/-- R440. A function's message has gone out. -/
def messageSent (s : State) (fn v : Nat) : State := { s with host := { s.host with out := s.host.out ++ [.msg fn v] } }

/-- R440. A page's message goes out where its vector is unmasked and nothing blocks the function. -/
theorem sendMsg_unmasked {s : State} {fn page : Nat} (awake : fn ∉ s.host.d3hot) (enabled : fn ∈ s.host.msixEnabled) (alive : s.resetting fn = false) (en : (s.route fn page).en = true)
    (unmasked : fn * 2048 + (s.route fn page).vector ∈ s.host.unmasked) : s.sendMsg fn page = messageSent s fn (s.route fn page).vector := by
  unfold State.sendMsg
  dsimp only
  rw [if_neg (by simp [en, alive]), if_neg (by simp [awake, enabled]), if_neg (by simpa using unmasked)]
  rfl

/-- R440, R442. The one message that a function owes is sent, where its page's summary still stands and its vector is unmasked. -/
theorem sendOwed_page {s : State} {fn page : Nat} (awake : fn ∉ s.host.d3hot) (enabled : fn ∈ s.host.msixEnabled) (hp : page < 16384) (owed : s.host.owed = [fn * 16384 + page])
    (idle : s.host.vecPending = []) (stands : (s.page (pageKey fn page)).summary = true) (alive : s.resetting fn = false) (en : (s.route fn page).en = true)
    (unmasked : fn * 2048 + (s.route fn page).vector ∈ s.host.unmasked) :
    (s.sendOwed fn).host.out = s.host.out ++ [.msg fn (s.route fn page).vector] ∧ (s.sendOwed fn).host.owed = [] := by
  have own : (fn * 16384 + page) / 16384 = fn := by omega
  have low : (fn * 16384 + page) % 16384 = page := by omega
  have mine : s.host.owed.filter (fun k => k / 16384 == fn) = [fn * 16384 + page] := by simp [owed, own]
  have rest : s.host.owed.filter (fun k => k / 16384 != fn) = [] := by simp [owed, own]
  have sent (t : State) (same : t = { s with host := { s.host with owed := [] } }) :
      (if (t.page (pageKey fn page)).summary then t.sendMsg fn page else t) = messageSent t fn (s.route fn page).vector := by
    subst same
    exact (if_pos stands).trans (sendMsg_unmasked awake enabled alive en unmasked)
  unfold State.sendOwed
  rw [if_neg (by simp [awake, enabled])]
  simp only [mine, rest, List.foldl_cons, List.foldl_nil, low]
  rw [sent _ rfl]
  simp [messageSent, idle]

/-! ### Link errors and the abort log (R447 to R449) -/

theorem aer_shows (s : State) : (s.aer true).get HI_CE_CNT = (s.get HI_CE_CNT + 1) % 2 ^ 32 ∧ (s.aer true).shows 0 0x500 2 = true ∧ OnlyRegs [HI_CE_CNT] s (s.aer true) ∧
    (s.aer false).get HI_UE_CNT = (s.get HI_UE_CNT + 1) % 2 ^ 32 ∧ (s.aer false).shows 0 0x500 3 = true ∧ OnlyRegs [HI_UE_CNT] s (s.aer false) := by
  refine ⟨?_, State.raise_shows _ _ _, ?_, ?_, State.raise_shows _ _ _, ?_⟩
  · exact (State.raise_get _ _ _ _).trans (State.get_add_self _ _ _)
  · exact (OnlyRegs.set (.refl _ s) (by simp) _).of_regs (State.raise_regs _ _ _)
  · exact (State.raise_get _ _ _ _).trans (State.get_add_self _ _ _)
  · exact (OnlyRegs.set (.refl _ s) (by simp) _).of_regs (State.raise_regs _ _ _)

/-- R449. An entry of the abort log has been popped, and its words captured. -/
def abortPopped (s : State) (e : AbortEntry) (es : List AbortEntry) : State :=
  ((({ s with readData := e.fn + 16 * e.agent + 256 * e.cause + 4096 * e.status + 2 ^ 31, host := { s.host with abortLog := es } }).setPair HI_AB_IOVA_LO HI_AB_IOVA_HI e.iova).set HI_AB_TIME_NS
    e.time.ns).set HI_AB_TIME_SEC e.time.sec

theorem abortPopped_shows (s : State) (e : AbortEntry) (es : List AbortEntry) : (abortPopped s e es).get HI_AB_IOVA_LO = e.iova % 2 ^ 32 ∧
    (abortPopped s e es).get HI_AB_IOVA_HI = e.iova / 2 ^ 32 % 2 ^ 32 ∧ (abortPopped s e es).get HI_AB_TIME_NS = e.time.ns % 2 ^ 30 ∧
    (abortPopped s e es).get HI_AB_TIME_SEC = e.time.sec % 2 ^ 32 := by
  unfold abortPopped State.setPair
  refine ⟨?_, ?_, ?_, State.get_set_self _ _ _⟩
  · rw [State.get_set_ne (by decide), State.get_set_ne (by decide), State.get_set_ne (by decide), State.get_set_self]
    show e.iova % 2 ^ 32 / 2 ^ 0 % 2 ^ 32 = _
    omega
  · rw [State.get_set_ne (by decide), State.get_set_ne (by decide)]
    exact State.get_set_self _ _ _
  · rw [State.get_set_ne (by decide)]
    exact State.get_set_self _ _ _

theorem abortPopped_onlyRegs (s : State) (e : AbortEntry) (es : List AbortEntry) :
    OnlyRegs [HI_AB_IOVA_LO, HI_AB_IOVA_HI, HI_AB_TIME_NS, HI_AB_TIME_SEC] s (abortPopped s e es) := by
  unfold abortPopped State.setPair
  have popped : OnlyRegs [HI_AB_IOVA_LO, HI_AB_IOVA_HI, HI_AB_TIME_NS, HI_AB_TIME_SEC] s
      { s with readData := e.fn + 16 * e.agent + 256 * e.cause + 4096 * e.status + 2 ^ 31, host := { s.host with abortLog := es } } := .of_regs (.refl _ s) rfl
  exact ((((popped.set (f := HI_AB_IOVA_LO) (by simp) _).set (f := HI_AB_IOVA_HI) (by simp) _).set (f := HI_AB_TIME_NS) (by simp) _).set (f := HI_AB_TIME_SEC) (by simp) _)

/-! ### The link (R423, R449) -/

/-- R421. The registers of a link that stands at a speed and a width. -/
def linkStands (s : State) (v width : Nat) : State := (((s.set HI_LINK_SPEED v).set HI_LINK_WIDTH width).flag HI_LINK_FLIT (v == 6)).flag HI_LINK_DL_ACTIVE true

/-- R421, R423. A link that trains stands at the speed that both sides and MAX_SPEED allow, and at its width. -/
theorem linkTrained_stands {speed width : Nat} (trains : 4 ≤ speed) (hw : width = 1 ∨ width = 2 ∨ width = 4 ∨ width = 8 ∨ width = 16) (s : State) :
    (s.linkTrained speed width).regs = (linkStands s (min (min speed 6) (s.get HI_TARGET_MAX_SPEED)) width).regs ∧ (s.linkTrained speed width).host.linkUp = true := by
  have up : (decide (4 ≤ speed) && widthOk width) = true := by
    obtain rfl | rfl | rfl | rfl | rfl := hw <;> simp [trains, widthOk]
  refine ⟨?_, up⟩
  unfold State.linkTrained
  simp only [up, if_true]
  rfl

theorem linkStands_shows {v width : Nat} (hv : v < 8) (hw : width < 32) (s : State) : (linkStands s v width).get HI_LINK_SPEED = v ∧ (linkStands s v width).get HI_LINK_WIDTH = width ∧
    (linkStands s v width).on HI_LINK_FLIT = decide (v = 6) ∧ (linkStands s v width).on HI_LINK_DL_ACTIVE = true := by
  unfold linkStands
  refine ⟨?_, ?_, ?_, State.on_flag_self rfl _ _⟩
  · rw [State.get_flag_ne (by decide), State.get_flag_ne (by decide), State.get_set_ne (by decide), State.get_set_self]
    exact Nat.mod_eq_of_lt hv
  · rw [State.get_flag_ne (by decide), State.get_flag_ne (by decide), State.get_set_self]
    exact Nat.mod_eq_of_lt hw
  · rw [on_flag_ne (by decide)]
    exact State.on_flag_self rfl _ _

theorem linkTrained_onlyRegs (s : State) (speed width : Nat) :
    OnlyRegs [HI_LINK_SPEED, HI_LINK_WIDTH, HI_LINK_FLIT, HI_LINK_DL_ACTIVE] s (s.linkTrained speed width) := by
  unfold State.linkTrained
  dsimp only
  refine .of_regs ?_ rfl
  exact onlyRegs_flag (onlyRegs_flag ((OnlyRegs.set (f := HI_LINK_SPEED) (.refl _ s) (by simp) _).set (f := HI_LINK_WIDTH) (by simp) _) (f := HI_LINK_FLIT) (by simp) _)
    (f := HI_LINK_DL_ACTIVE) (by simp) _

/-! ### The obligation -/

/-- Settles O36: each access and event by its rule above. -/
theorem hostEventsAndLink : Obligations.HostEventsAndLink := by
  refine ⟨?stored, ?refused, ?unmask, ?enable, ?enters, ?leaves, ?owed, ?correctable, ?nonFatal, ?fatal, ?aborts, ?pop, ?empty, ?retrain⟩
  case stored =>
    intro fn v en s reach within seen _
    refine .of_next ((exec_irqRouteWrite reach en).trans (by rw [if_neg (by simp [seen, within])])) ⟨route_routed_self _ _ _ _, fun p other => route_routed_ne other s fn _, rfl⟩
  case refused => exact fun fn v en s reach bad => (exec_irqRouteWrite reach en).trans (by rw [if_pos bad])
  case unmask =>
    intro fn v s on within masked awake enabled clear only hv
    refine .of_next (t := (vectorUnmasked s (fn * 2048 + v)).sendOwed fn) ?_ (vectorUnmasked_sends awake enabled clear only hv)
    show execMsixUnmask fn (.vector v) s = _
    unfold execMsixUnmask
    rw [if_neg (by simp [on])]
    simp only [List.contains_eq_mem]
    rw [if_neg (by simp [masked, within])]
    rfl
  case enable =>
    intro fn s on blocked
    show execMsixUnmask fn .blockingState s = _
    unfold execMsixUnmask
    rw [if_neg (by simp [on])]
    simp only [List.contains_eq_mem]
    rw [if_neg (by simp [blocked])]
  case enters => exact fun fn s => rfl
  case leaves => exact fun fn s => rfl
  case owed => exact fun fn page s awake enabled hp owed idle stands alive en unmasked => sendOwed_page awake enabled hp owed idle stands alive en unmasked
  case correctable =>
    intro s on
    obtain ⟨count, event, only, _⟩ := aer_shows s
    refine .of_next (t := s.aer true) ?_ ⟨count, event, only⟩
    show execPcieLinkError .correctable s = _
    unfold execPcieLinkError
    rw [if_neg (by simp [on])]
  case nonFatal =>
    intro s on
    obtain ⟨_, _, _, count, event, only⟩ := aer_shows s
    refine .of_next (t := s.aer false) ?_ ⟨count, event, only⟩
    show execPcieLinkError .nonFatal s = _
    unfold execPcieLinkError
    rw [if_neg (by simp [on])]
  case fatal =>
    intro s on
    obtain ⟨_, _, _, count, event, _⟩ := aer_shows s
    refine ⟨?_, count, event⟩
    show execPcieLinkError .fatal s = _
    unfold execPcieLinkError
    rw [if_neg (by simp [on])]
  case aborts =>
    intro c r s reads use
    unfold State.abortAllReads
    rw [reads]
    simp only [List.foldl_cons, List.foldl_nil, reads, List.filter_cons, bne_self_eq_false, List.filter_nil]
    unfold State.readUsed
    rw [use]
    rfl
  case pop =>
    intro e es s reach log
    obtain ⟨lo, hi, ns, sec⟩ := abortPopped_shows s e es
    refine .of_next (t := abortPopped s e es) ?_ ⟨rfl, rfl, lo, hi, ns, sec, abortPopped_onlyRegs s e es⟩
    show execAbPop 0 s = _
    unfold execAbPop
    rw [mmioRead_reaches reach, if_neg (by simp), log]
    rfl
  case empty =>
    intro fn s reach nothing
    show execAbPop fn s = _
    unfold execAbPop
    rw [mmioRead_reaches reach]
    obtain log | tenant := nothing
    · simp only [log, ite_self]
    · rw [if_pos tenant]
  case retrain =>
    intro speed width s reach trains hw
    obtain ⟨regs, up⟩ := linkTrained_stands trains hw s
    obtain ⟨v, w, flit, active⟩ := linkStands_shows (v := min (min speed 6) (s.get HI_TARGET_MAX_SPEED)) (width := width) (by omega) (by omega) s
    have run : execRetrain 0 speed width s = .next (s.linkTrained speed width) := by
      unfold execRetrain
      rw [mmio_reaches reach, if_neg (by simp)]
    refine .of_next run ?_
    simp only [State.on, State.get_of_regs regs] at flit active ⊢
    exact ⟨v, w, v.symm ▸ flit, active, up, linkTrained_onlyRegs s speed width⟩

end Sys2Proof.Proofs

/-!
Grants of cores and page triples (R458 to R460).
-/

namespace Sys2Proof.Proofs

open Sys2Proof.Machine Sys2Proof.Laws Sys2Proof.Claims

/-! ### Refusals -/

/-- R460, R478. A refusal names the instance and the bit at fault on TENANT page 0, and changes the result alone of the registers. -/
theorem instRefused_shows {f bit : Nat} (hf : f ≤ 8) (hb : bit < 16) (s : State) : (s.instRefused f bit).get (TN_STAT_RESULT f) = Status.badParam.code ∧
    ((s.instRefused f bit).page 0x510).errCode = Status.badParam.code ∧ ((s.instRefused f bit).page 0x510).errInfo0 = f + 256 * bit ∧
    OnlyRegs [TN_STAT_RESULT f] s (s.instRefused f bit) := by
  have captured := State.captureFn_page_self (s.set (TN_STAT_RESULT f) Status.badParam.code) 0 0x510 .badParam (f + 256 * bit) 0
  have page : (s.instRefused f bit).page 0x510 = _ := captured
  have regs : (s.instRefused f bit).regs = (s.set (TN_STAT_RESULT f) Status.badParam.code).regs := rfl
  refine ⟨?_, ?_, ?_, (OnlyRegs.set (f := TN_STAT_RESULT f) (.refl _ s) (by simp) _).of_regs regs⟩
  · exact (State.get_of_regs regs _).trans (State.get_set_self _ _ _)
  · rw [page]
  · rw [page]
    exact Nat.mod_eq_of_lt (by omega)

theorem changedBits_lt {a b n i : Nat} {p : Nat → Bool} (h : (changedBits a b n).find? p = some i) : i < n :=
  List.mem_range.mp (List.mem_filter.mp (List.mem_of_find?_eq_some h)).1

theorem grant_apart (f : Nat) : (TG_CORES f).key ≠ (TN_STAT_RESULT f).key ∧ (TG_PAGES_QPAGES f).key ≠ (TN_STAT_RESULT f).key := by
  simp only [Field.key, TG_CORES, TG_PAGES_QPAGES, TN_STAT_RESULT]
  omega

/-! ### A core that changes its holder (R458) -/

/-- Gates that open: those of the list are open, the others as they were. -/
theorem gates_open (base : Nat) (qs : List Nat) (s : State) (k : Nat) :
    (qs.foldl (fun t q => t.gate (base + q) false) s).quiet k = (!decide (k ∈ qs.map (base + ·)) && s.quiet k) := by
  induction qs generalizing s with
  | nil => simp
  | cons q qs ih =>
    rw [List.foldl_cons, ih, gate_quiet]
    by_cases h : k = base + q <;> simp [h]

/-- R51. The core control page of a core opens every gate of the core. -/
theorem openPage_core {n : Nat} (hn : n < 16) (s : State) : (s.openPage (0x100 + 16 * n)).quiet (0x100 + 16 * n) = false := by
  have control : (0x100 + 16 * n) % 16 = 0 := by omega
  unfold State.openPage
  rw [if_pos (by omega)]
  simp only [control, if_true]
  unfold State.quiet
  rw [State.page_of_pages (settleSlots_pages _ _)]
  exact (gates_open _ _ _ _).trans (by simp)

/-- R458. The stores of a core that changes its holder read zero. -/
theorem coreChanges_stores (s : State) (n : Nat) (back : Bool) : (s.coreChanges n back).mem.ws = Map.drop (fun k => k / 2 ^ 25 == n) (s.grantFlush n).mem.ws ∧
    (s.coreChanges n back).mem.act = Map.drop (fun k => k / 2 ^ 23 == n) (s.grantFlush n).mem.act := by
  have good : Good ⟨((s.grantFlush n).zeroStores n).pending, ((s.grantFlush n).zeroStores n), fun x => x == .ws || x == .act⟩ (s.coreChanges n back) := by
    have reset := State_contextsReset_good n (good_self ((s.grantFlush n).zeroStores n) fun x => x == .ws || x == .act) rfl rfl rfl
    unfold State.coreChanges
    refine State_openPage_good (0x100 + 16 * n) ?_ rfl rfl rfl rfl rfl
    exact prop_ite (State_resetCorePages_good n false reset rfl rfl rfl) reset
  exact ⟨good.same .ws rfl, good.same .act rfl⟩

/-- R458. A core that changes its holder is emptied, and its gate opens. -/
theorem coreChanges_empties {n : Nat} (hn : n < 16) (s : State) (back : Bool) : (∀ i, Map.find (s.coreChanges n back).mem.ws (n * 2 ^ 25 + i % 2 ^ 25) = none) ∧
    (∀ i, Map.find (s.coreChanges n back).mem.act (n * 2 ^ 23 + i % 2 ^ 23) = none) ∧ (s.coreChanges n back).quiet (0x100 + 16 * n) = false := by
  obtain ⟨ws, act⟩ := coreChanges_stores s n back
  refine ⟨fun i => ?_, fun i => ?_, openPage_core hn _⟩
  · have own : (n * 2 ^ 25 + i % 2 ^ 25) / 2 ^ 25 = n := by omega
    rw [ws, find_drop, own, beq_self_eq_true, if_pos rfl]
  · have own : (n * 2 ^ 23 + i % 2 ^ 23) / 2 ^ 23 = n := by omega
    rw [act, find_drop, own, beq_self_eq_true, if_pos rfl]

/-! ### A page triple that changes its holder (R459) -/

/-- R459. A register of a triple's pages, past their common layout, returns to its reset value. -/
theorem tripleReset_get {j : Nat} {f : Field} (low : f.lsb < 32) (h : (f.addr / 4096 = 0x220 + j ∨ f.addr / 4096 = 0x200 + j) ∧ 0x100 ≤ f.addr % 4096) (s : State) :
    (s.tripleReset j).get f = f.reset := by
  have addr : f.key / 32 = f.addr := by
    unfold Field.key
    omega
  have mine : ((f.addr / 4096 == 0x220 + j && decide (0x100 ≤ f.addr % 4096)) || (f.addr / 4096 == 0x200 + j && decide (0x100 ≤ f.addr % 4096)) ||
      (f.addr / 4096 == 0x500 + j)) = true := by
    obtain ⟨page | page, offset⟩ := h <;> simp [page, offset]
  unfold State.get State.tripleReset Map.get
  rw [find_drop]
  simp only [addr, mine, if_true, Option.getD_none]

/-- R459. The chains, flows and host rings of a triple that changes its holder are as after reset. -/
theorem tripleReset_empties {c j w : Nat} (chain : chainPage c = j) (flow : 1 + w / 512 = j) (s : State) :
    (s.tripleReset j).ring c = {} ∧ (s.tripleReset j).chain c = {} ∧ (s.tripleReset j).flow w = {} ∧ (s.tripleReset j).on (CH_ENABLE c) = false ∧
      (s.tripleReset j).get (FLOW_STATE w) = 0 := by
  refine ⟨?_, ?_, ?_, ?_, ?_⟩
  · unfold State.ring State.tripleReset Map.get
    rw [find_drop, chain, beq_self_eq_true, if_pos rfl, Option.getD_none]
  · unfold State.chain State.tripleReset Map.get
    rw [find_drop, chain, beq_self_eq_true, if_pos rfl, Option.getD_none]
  · unfold State.flow State.tripleReset Map.get
    rw [find_drop, flow, beq_self_eq_true, if_pos rfl, Option.getD_none]
  · unfold chainPage at chain
    rw [State.on, tripleReset_get (show 0 < 32 by decide) (by simp only [CH_ENABLE]; omega)]
    rfl
  · exact tripleReset_get (show 8 < 32 by decide) (by simp only [FLOW_STATE]; omega) s

/-! ### The obligation -/

/-- Settles O38: each grant write by the first refused bit, what a change empties by the rules above. -/
theorem grantsOfCoresAndPageTriples : Obligations.GrantsOfCoresAndPageTriples := by
  refine ⟨?cores, ?coresRefused, ?core, ?triples, ?triplesRefused, ?triple⟩
  case cores =>
    intro fn f v s at_once _ _ allowed
    show execTgCoresWrite fn f v s = _
    unfold execTgCoresWrite
    rw [tenantWrite_open at_once]
    simp only [allowed]
    rfl
  case coresRefused =>
    intro fn f v n s at_once _ hi bad
    have run : execTgCoresWrite fn f v s = .next (s.instRefused f n) := by
      unfold execTgCoresWrite
      rw [tenantWrite_open at_once]
      simp only [bad]
    obtain ⟨result, code, info, only⟩ := instRefused_shows hi (changedBits_lt bad) s
    exact .of_next run ⟨only _ (by simpa using (grant_apart f).1), result, code, info, only, rfl, rfl⟩
  case core => exact fun n back s hn => coreChanges_empties hn s back
  case triples =>
    intro fn f v s at_once _ _ allowed
    show execTgPagesWrite fn f v s = _
    unfold execTgPagesWrite
    rw [tenantWrite_open at_once]
    simp only [allowed]
    rfl
  case triplesRefused =>
    intro fn f v i s at_once _ hi bad
    have run : execTgPagesWrite fn f v s = .next (s.instRefused f i) := by
      unfold execTgPagesWrite
      rw [tenantWrite_open at_once]
      simp only [bad]
    obtain ⟨result, _, info, only⟩ := instRefused_shows hi ((changedBits_lt bad).trans (by decide)) s
    exact .of_next run ⟨only _ (by simpa using (grant_apart f).2), result, info, only, rfl⟩
  case triple => exact fun c j w s _ _ _ chain _ flow => tripleReset_empties chain flow s

end Sys2Proof.Proofs

/-!
Writes of HBM by an engine (R275, R279, R280, R287 to R295, R313 to R316) beside the other pages: whatever updates of the memory, of events and of the registers on the pages of memory, of the
line caches and of faults keep, such a write keeps. The value of any field of another page is such a property.
-/

namespace Sys2Proof.Proofs

open Sys2Proof.Machine Sys2Proof.Laws Sys2Proof.Claims

/-- The words of the pages of memory, of the line caches and of faults. -/
def memWord (a : Nat) : Prop := 0x300000 ≤ a ∧ a < 0x400000 ∨ a / 4096 % 16 = 10 ∨ 0x700000 ≤ a ∧ a < 0x701000

/-- A field of such a word. -/
abbrev MemField (g : Field) : Prop := g.lsb < 32 ∧ memWord g.addr

/-- A property that every update keeps of which a write of HBM consists. -/
structure WriteKeeps (P : State → Prop) : Prop where
  set : ∀ {t g}, P t → MemField g → ∀ v, P (t.set g v)
  raise : ∀ {t}, P t → ∀ fn page bit, P (t.raiseFn fn page bit)
  capture : ∀ {t}, P t → ∀ fn page st i j, P (t.captureFn fn page st i j)
  mem : ∀ {t}, P t → ∀ m, P { t with mem := m }
  faults : ∀ {t}, P t → ∀ l, P { t with faultLog := l }
  free : ∀ {t}, P t → ∀ n, P { t with freeCtr := n }

/-- The value of a field of another page is such a property. -/
theorem writeKeeps_get {f : Field} (low : f.lsb < 32) (off : ¬memWord f.addr) (v : Nat) : WriteKeeps (fun t => t.get f = v) where
  set h word w := (State.get_set_ne (key_ne_of_addr low word.1 fun same => off (same ▸ word.2)) _ w).trans h
  raise h fn page bit := (State.raiseFn_get _ fn page bit f).trans h
  capture h _ _ _ _ _ := h
  mem h _ := h
  faults h _ := h
  free h _ := h

/-- That the events of a state still show is such a property. -/
theorem writeKeeps_shown (s : State) : WriteKeeps (KeepsShown s) where
  set h _ _ := h
  raise h fn page bit := h.trans (raiseFn_keepsShown _ fn page bit)
  capture h fn page st i j := h.trans (captureFn_keepsShown _ fn page st i j)
  mem h _ := h
  faults h _ := h
  free h _ := h

theorem stackOf_lt (l : Nat) : stackOf l < 6 := by
  unfold stackOf pchOf
  dsimp only
  omega

theorem memWord_wrLines (l : Nat) : MemField (MS_WR_LINES (stackOf l)) := by
  have := stackOf_lt l
  simp only [MemField, memWord, MS_WR_LINES]
  omega

theorem memWord_rdLines (l : Nat) : MemField (MS_RD_LINES (stackOf l)) := by
  have := stackOf_lt l
  simp only [MemField, memWord, MS_RD_LINES]
  omega

theorem memWord_msCe (l : Nat) : MemField (MS_CE_CNT (stackOf l)) := by
  have := stackOf_lt l
  simp only [MemField, memWord, MS_CE_CNT]
  omega

theorem memWord_msUe (l : Nat) : MemField (MS_UE_CNT (stackOf l)) := by
  have := stackOf_lt l
  simp only [MemField, memWord, MS_UE_CNT]
  omega

theorem memWord_snoop (core : Nat) : MemField (LC_SNOOP_CNT core) := by
  simp only [MemField, memWord, LC_SNOOP_CNT]
  omega

theorem memWord_writeBack (core : Nat) : MemField (LC_WB_CNT core) := by
  simp only [MemField, memWord, LC_WB_CNT]
  omega

theorem memWord_crossing (core : Nat) : MemField (LC_XEVICT_CNT core) := by
  simp only [MemField, memWord, LC_XEVICT_CNT]
  omega

/-- A field of a fixed word. -/
theorem memWord_fixed {g : Field} (low : g.lsb < 32) (page : 0x300000 ≤ g.addr ∧ g.addr < 0x400000 ∨ g.addr / 4096 % 16 = 10 ∨ 0x700000 ≤ g.addr ∧ g.addr < 0x701000) :
    MemField g := ⟨low, page⟩

namespace WriteKeeps

section

variable {P : State → Prop} {t : State} (k : WriteKeeps P)

include k

theorem add (h : P t) {g : Field} (count : MemField g) (n : Nat) : P (t.add g n) := k.set h count _

theorem fault (h : P t) (cls : Nat) (st : Status) (fn lcore array port index : Nat) : P (t.fault cls st fn lcore array port index) := by
  unfold State.fault State.logFault
  exact prop_ite (k.raise (k.faults h _) _ _ _) (k.raise (k.add h (memWord_fixed (by decide) (by decide)) 1) _ _ _)

/-! ### Lines at their home (R279, R280, R313 to R315, R326) -/

theorem lineCe (h : P t) (l : Nat) : P (t.lineCe l) :=
  k.raise (k.add (k.add (k.add (k.mem h _) (memWord_wrLines _) 1) (memWord_msCe _) 1) (memWord_fixed (by decide) (by decide)) 1) _ _ _

theorem lineUe (h : P t) (l fn cause : Nat) : P (t.lineUe l fn cause) := by
  have counted := k.add (k.add h (memWord_msUe l) 1) (g := MEM_UE_CNT) (memWord_fixed (by decide) (by decide)) 1
  have placed : P (((t.add (MS_UE_CNT (stackOf l)) 1).add MEM_UE_CNT 1).setPair MEM_UE_ADDR_LO MEM_UE_ADDR_HI (l * 128)) :=
    k.set (k.set counted (memWord_fixed (by decide) (by decide)) _) (memWord_fixed (by decide) (by decide)) _
  have captured := k.capture (k.raise placed 0 0x300 1) 0 0x300 .faulted (stackOf l + 16 * (pchOf l % 32 / 2) + 256 * (pchOf l % 2) + 4096 * cause) fn
  unfold State.lineUe
  exact prop_ite captured (k.fault captured _ _ _ _ _ _ _)

theorem logProt (h : P t) (e : ProtEntry) (st : Status) : P (t.logProt e st) := by
  unfold State.logProt
  exact k.capture (prop_ite (k.mem h _) (k.raise (k.add h (memWord_fixed (by decide) (by decide)) 1) _ _ _)) _ _ _ _ _

theorem tagFail (h : P t) (agent fn core dom l cause : Nat) : P (t.tagFail agent fn core dom l cause) :=
  k.logProt (k.raise (k.add h (memWord_fixed (by decide) (by decide)) 1) _ _ _) _ _

theorem poison (h : P t) (l : Nat) : P (t.poison l) :=
  k.raise (k.add (k.add (k.mem h _) (memWord_wrLines _) 1) (memWord_fixed (by decide) (by decide)) 1) _ _ _

/-- A line that is met with a correctable error is written back. -/
theorem corrected (h : P t) (l : Nat) {c : Prop} [Decidable c] : P (if c then t.lineCe l else t) := prop_ite (k.lineCe h l) h

theorem homeRead (h : P t) (agent fn core dom l : Nat) : P (t.homeRead agent fn core dom l).1 := by
  have counted := k.add h (memWord_rdLines l) 1
  unfold State.homeRead
  split
  · exact k.lineUe h l fn 3
  dsimp only
  split
  · exact k.tagFail counted agent fn core dom l 3
  · exact k.lineUe counted l fn 1
  · simp only [apply_ite Prod.fst]
    exact prop_ite (k.corrected counted l) (prop_ite (k.corrected counted l) (k.tagFail (k.corrected counted l) agent fn core dom l 1))

theorem homeReadForMerge (h : P t) (agent fn core dom l : Nat) : P (t.homeReadForMerge agent fn core dom l).1 := by
  have counted := k.add h (memWord_rdLines l) 1
  unfold State.homeReadForMerge
  split
  · exact k.lineUe h l fn 3
  dsimp only
  split
  · exact k.tagFail counted agent fn core dom l 3
  · exact k.lineUe counted l fn 1
  · simp only [apply_ite Prod.fst]
    exact prop_ite (k.corrected counted l) (prop_ite (k.corrected counted l) (k.tagFail (k.poison (k.corrected counted l) l) agent fn core dom l 2))

theorem homeWrite (h : P t) (fn dom l : Nat) (d : List Byte) : P (t.homeWrite fn dom l d).1 := by
  have counted := k.add h (memWord_wrLines l) 1
  have cleared : P (if ((t.add (MS_WR_LINES (stackOf l)) 1).lineMeta l).code = .poison then (t.add (MS_WR_LINES (stackOf l)) 1).add POISON_CLR_CNT 1
      else t.add (MS_WR_LINES (stackOf l)) 1) := prop_ite (k.add counted (memWord_fixed (by decide) (by decide)) 1) counted
  unfold State.homeWrite
  simp only [apply_ite Prod.fst]
  exact prop_ite (k.lineUe h l fn 3) (prop_ite (k.mem cleared _) (k.mem cleared _))

/-! ### Caches and directories (R275, R280, R286, R289, R292) -/

theorem lineFault (h : P t) (core : Nat) (x : CacheLine) (w who : Nat) : P (t.lineFault core x w who) :=
  k.fault (k.capture (k.raise h _ _ _) _ _ _ _ _) _ _ _ _ _ _ _

theorem readOut (h : P t) (core : Nat) (x : CacheLine) : P (t.readOut core x) := by
  unfold State.readOut
  split
  · exact k.lineFault h _ _ _ _
  · exact prop_ite h (k.raise h _ _ _)
  · exact h

theorem writeBack (h : P t) (l fn dom : Nat) (y : Yield) : P (t.writeBack l fn dom y) := by
  unfold State.writeBack
  refine prop_ite h ?_
  split
  · exact h
  · exact k.homeWrite h _ _ _ _
  · exact prop_ite (k.lineUe h _ _ _) (k.lineUe (k.poison h l) _ _ _)

theorem crossing (h : P t) (core : Nat) : P (t.crossing core) := k.add (k.add h (memWord_fixed (by decide) (by decide)) 1) (memWord_crossing core) 1

theorem takeFill (h : P t) (core l : Nat) : P (t.takeFill core l) := by
  unfold State.takeFill
  split
  · exact h
  · exact prop_ite (k.mem h _) (k.writeBack (k.mem (k.mem h _) _) _ _ _ _)

theorem takeCached (h : P t) (core l : Nat) : P (t.takeCached core l) := by
  unfold State.takeCached
  split
  · exact h
  · exact k.writeBack (k.mem (k.readOut h core _) _) _ _ _ _

theorem takeEvicted (h : P t) (core l : Nat) : P (t.takeEvicted core l) := by
  unfold State.takeEvicted
  split
  · exact h
  · exact prop_ite h (k.crossing (k.add (k.writeBack (k.mem h _) _ _ _ _) (memWord_writeBack core) _) core)

theorem takeBack (h : P t) (core l : Nat) : P (t.takeBack core l) :=
  k.takeEvicted (k.takeCached (k.takeFill (k.add h (memWord_snoop core) 1) core l) core l) core l

theorem backInvalidate (h : P t) (e : DirEntry) : P (t.backInvalidate e) :=
  k.add (k.mem (foldl_of h fun _ c hu => k.takeBack hu c e.line) _) (memWord_fixed (by decide) (by decide)) 1

theorem installDir (h : P t) (l : Nat) (owner : Option Nat) (sharers : List Nat) : P (t.installDir l owner sharers) := by
  have room : P (t.dirRoom l) := by
    unfold State.dirRoom
    refine prop_ite h (prop_ite h ?_)
    split
    · exact h
    · exact k.backInvalidate h _
  exact k.mem (prop_ite h room) _

theorem install (h : P t) (core : Nat) (x : CacheLine) : P (t.install core x) := by
  have dropped : P (t.setCached core x.line none) := k.mem h _
  unfold State.install
  dsimp only
  split
  · exact k.mem dropped _
  · exact k.mem (k.mem (k.mem (k.readOut dropped core _) _) _) _
  · exact dropped

/-! ### Transactions (R287 to R295) -/

theorem finishTxn (h : P t) (x : Txn) : P (t.finishTxn x) := by
  have freed : P (t.setTxn x.line none) := k.mem h _
  unfold State.finishTxn
  refine foldl_of ?_ fun u c hu => k.mem hu _
  dsimp only
  split
  · split
    · exact k.installDir (k.mem (k.homeWrite freed _ _ _ _) _) _ _ _
    · have read := k.homeRead freed 0 x.fn x.core x.dom x.line
      exact prop_ite (k.installDir (k.mem read _) _ _ _) (k.mem (k.mem read _) _)
  · refine k.installDir (k.mem ?_ _) _ _ _
    split
    · exact k.homeWrite freed _ _ _ _
    · exact freed
  · exact k.installDir (k.mem freed _) _ _ _
  · split
    · exact k.installDir (k.mem freed _) _ _ _
    · have read := k.homeReadForMerge freed 0 x.fn x.core x.dom x.line
      exact prop_ite (k.installDir (k.mem read _) _ _ _) (k.mem (k.mem read _) _)

theorem nextTxn (h : P t) (l fuel : Nat) : P (t.nextTxn l fuel) := by
  have begun {u : State} (hu : P u) (x : Txn) : P (u.beginTxn x) := by
    unfold State.beginTxn
    exact prop_ite (k.finishTxn (k.mem hu _) _) (foldl_of (k.mem hu _) fun v c hv => k.mem hv _)
  induction fuel generalizing t with
  | zero => exact h
  | succ fuel ih =>
    unfold State.nextTxn
    refine prop_ite h ?_
    split
    · exact h
    · exact ih (begun (k.mem h _) _)

theorem progress (h : P t) (x : Txn) : P (t.progress x) := by
  unfold State.progress
  exact prop_ite (k.nextTxn (k.finishTxn (k.mem h _) _) _ _) (k.mem h _)

theorem cross (h : P t) (core l : Nat) : P (t.cross core l) := by
  unfold State.cross
  split
  · exact prop_ite h (k.crossing (k.mem h _) _)
  · exact h

theorem homeReply (h : P t) (m : Flight) : P (t.homeReply m) := by
  unfold State.homeReply
  split
  · exact h
  · refine prop_ite h ?_
    dsimp only
    split
    · exact k.progress h _
    · exact prop_ite (k.progress h _) (prop_ite (k.progress (k.cross h _ _) _) (k.progress h _))
    · exact k.progress h _

theorem coreSnoop (h : P t) (m : Flight) : P (t.coreSnoop m) := by
  have counted := k.add h (memWord_snoop m.core) 1
  unfold State.coreSnoop
  dsimp only
  split
  next x _ =>
    have read := k.readOut counted m.core x
    split
    · exact k.mem (k.mem read _) _
    · exact k.mem (k.writeBack (k.mem read _) _ _ _ _) _
  next => exact k.mem counted _

theorem homeEvict (h : P t) (core l : Nat) : P (t.homeEvict core l) := by
  unfold State.homeEvict
  split
  · exact h
  next e _ =>
    have taken : P ((t.setEvicted core l (some { e with arrived := true })).add (LC_WB_CNT core) (b2n e.owned)) := k.add (k.mem h _) (memWord_writeBack core) _
    refine prop_ite h ?_
    dsimp only
    split
    · exact k.progress (prop_ite (k.writeBack (k.cross taken core l) _ _ _ _) (k.cross taken core l)) _
    · exact k.mem (k.mem (k.writeBack taken _ _ _ _) _) _

theorem deliverOther (h : P t) (m : Flight) : P (t.deliverOther m) := by
  unfold State.deliverOther
  split
  · exact h
  · exact h
  · exact h
  · exact k.mem h _
  · exact k.coreSnoop h m
  · exact k.coreSnoop h m
  all_goals exact k.homeReply h m

theorem settleEvictions (h : P t) (l fuel : Nat) : P (t.settleEvictions l fuel) := by
  induction fuel generalizing t with
  | zero => exact h
  | succ fuel ih =>
    unfold State.settleEvictions
    split
    · exact ih (k.deliverOther (k.mem h _) _)
    · split
      · exact ih (k.homeEvict h _ l)
      · exact h

theorem coreFill (h : P t) (m : Flight) : P (t.coreFill m) := by
  have room {u : State} (hu : P u) : P (u.victimRoom m.core m.line) := by
    unfold State.victimRoom
    exact prop_ite (foldl_of hu fun v x hv => k.settleEvictions hv x _) hu
  unfold State.coreFill
  refine prop_ite h (prop_ite (k.mem h _) (k.install (room ?_) _ _))
  split
  · exact k.lineFault (k.free h _) _ _ _ _
  · exact h

theorem settled (h : P t) (l : Nat) : P (t.settled l) := by
  have deliver {u : State} (hu : P u) (m : Flight) : P (u.deliver m) := by
    unfold State.deliver
    exact prop_ite (k.nextTxn (k.coreFill hu m) _ _) (k.deliverOther hu m)
  have settle (fuel : Nat) {u : State} (hu : P u) : P (u.settle l fuel) := by
    induction fuel generalizing u with
    | zero => exact hu
    | succ fuel ih =>
      unfold State.settle
      split
      · exact ih (deliver (k.mem hu _) _)
      · split
        · exact ih (k.homeEvict hu _ l)
        · exact hu
  exact settle _ h

/-! ### Writes by an engine (R291, R314 to R316) -/

theorem invalidate (h : P t) (l keep : Nat) : P (t.invalidate l keep).1 := by
  unfold State.invalidate
  refine foldl_fst_of h fun x c hx => ?_
  have counted := k.add hx (memWord_snoop c) 1
  dsimp only
  split
  · exact hx
  split
  · exact counted
  next y _ =>
    have given : P (((x.1.add (LC_SNOOP_CNT c) 1).readOut c y).setCached c l none) := k.mem (k.readOut counted c y) _
    split
    · exact given
    · exact k.writeBack given _ _ _ _

theorem agentWrite (h : P t) (agent fn core dom l at_ : Nat) (bs : List Byte) : P (t.agentWrite agent fn core dom l at_ bs).1 := by
  have alone : P (((t.settled l).invalidate l noCore).1.setDir l none []) := k.mem (k.invalidate (k.settled h l) l noCore) _
  have read := k.homeReadForMerge alone agent fn core dom l
  unfold State.agentWrite
  dsimp only
  split
  · exact k.homeWrite alone _ _ _ _
  split
  · exact k.homeWrite alone _ _ _ _
  split
  next u d eq =>
    rw [eq] at read
    exact k.homeWrite read _ _ _ _
  next u st d _ eq => rwa [eq] at read

theorem agentHbmWrite (h : P t) (agent fn core who addr : Nat) (bs : List Byte) : P (t.hbmWrite (.home agent) fn core who addr bs).1 := by
  unfold State.hbmWrite
  split
  · exact h
  split
  · exact h
  split
  · exact h
  · exact foldl_fst_of h fun x a hx => k.agentWrite hx agent fn core _ _ _ _

end

end WriteKeeps

end Sys2Proof.Proofs

/-!
Posted writes to host memory (R422, R429, R445, R449, R471 to R474) beside the pages of the host interface and of the tenants: whatever updates of the host interface, of events and of the
registers on those pages keep, such a write keeps.
-/

namespace Sys2Proof.Proofs

open Sys2Proof.Machine Sys2Proof.Laws Sys2Proof.Claims

/-- A property that every update keeps of which a posted write consists. -/
structure PostKeeps (P : State → Prop) : Prop where
  set : ∀ {t} {g : Field}, P t → g.lsb < 32 ∧ 0x500000 ≤ g.addr → ∀ v, P (t.set g v)
  raise : ∀ {t}, P t → ∀ fn page bit, P (t.raiseFn fn page bit)
  capture : ∀ {t}, P t → ∀ fn page st i j, P (t.captureFn fn page st i j)
  edge : ∀ {t}, P t → ∀ f bit, P (t.tenantEdge f bit)
  host : ∀ {t}, P t → ∀ x, P { t with host := x }
  free : ∀ {t}, P t → ∀ n, P { t with freeCtr := n }

/-- The value of a field of an earlier page is such a property. -/
theorem postKeeps_get {f : Field} (low : f.lsb < 32) (early : f.addr < 0x500000) (v : Nat) : PostKeeps (fun t => t.get f = v) where
  set h word w := (State.get_set_ne (key_ne_of_addr low word.1 (by omega)) _ w).trans h
  raise h fn page bit := (State.raiseFn_get _ fn page bit f).trans h
  capture h _ _ _ _ _ := h
  edge h g bit := (tenantEdge_get_ne (key_ne_of_addr low (by decide) (Nat.ne_of_lt (early.trans (by decide)))) _ g bit).trans h
  host h _ := h
  free h _ := h

/-- That the events of a state still show is such a property. -/
theorem postKeeps_shown (s : State) : PostKeeps (KeepsShown s) where
  set h _ _ := h
  raise h fn page bit := h.trans (raiseFn_keepsShown _ fn page bit)
  capture h fn page st i j := h.trans (captureFn_keepsShown _ fn page st i j)
  edge h f bit := h.trans (tenantEdge_keepsShown _ f bit)
  host h _ := h
  free h _ := h

namespace PostKeeps

variable {P : State → Prop} {t : State}

theorem hostAbort (k : PostKeeps P) (h : P t) (fn agent cause iova : Nat) : P (t.hostAbort fn agent cause iova) := by
  have counted {u : State} (hu : P u) : P ((u.add HI_ABORT_CNT 1).add (FN_ABORT_CNT fn) 1) :=
    k.set (k.set hu (by decide) _) ⟨by simp [FN_ABORT_CNT], by simp only [FN_ABORT_CNT]; omega⟩ _
  unfold State.hostAbort State.captureOpen
  exact k.capture (k.free (k.free (k.raise (counted (prop_ite (k.host h _) (k.raise h _ _ _))) _ _ _) _) _) _ _ _ _ _

theorem postWrite (k : PostKeeps P) (h : P t) (fn agent iova : Nat) (bs : List Byte) : P (t.postWrite fn agent iova bs).1 := by
  unfold State.postWrite
  simp only [apply_ite Prod.fst]
  exact prop_ite h (prop_ite (k.hostAbort h _ _ _ _) (prop_ite (k.hostAbort h _ _ _ _) (k.host h _)))

theorem dirtyPage (k : PostKeeps P) (h : P t) (f agent page : Nat) : P (t.dirtyPage f agent page) := by
  have overflowed : P (t.flag (TDL_STAT_OVF f) true) := k.set h ⟨by simp [TDL_STAT_OVF], by simp only [TDL_STAT_OVF]; omega⟩ _
  have logged {u : State} (hu : P u) : P ((u.add (TDL_PI f) 1).add (TDL_CNT f) 1) :=
    k.set (k.set hu ⟨by simp [TDL_PI], by simp only [TDL_PI]; omega⟩ _) ⟨by simp [TDL_CNT], by simp only [TDL_CNT]; omega⟩ _
  unfold State.dirtyPage
  dsimp only
  refine prop_ite h (prop_ite (prop_ite h (k.edge overflowed f 3)) (prop_ite (k.postWrite (logged ?_) _ _ _ _) (logged ?_)))
  all_goals exact k.host (k.postWrite h _ _ _ _) _

theorem hostWrite (k : PostKeeps P) (h : P t) (fn agent iova : Nat) (bs : List Byte) : P (t.hostWrite fn agent iova bs).1 := by
  have posted := k.postWrite h fn agent iova bs
  unfold State.hostWrite
  split
  next u written =>
    rw [written] at posted
    split
    · exact posted
    · exact foldl_of posted fun x i hx => k.dirtyPage hx fn agent _
  · exact posted

end PostKeeps

end Sys2Proof.Proofs

/-!
Host rings process their entries, and host reads complete (R432, R434, R435, R443, R446, R449).
-/

namespace Sys2Proof.Proofs

open Sys2Proof.Machine Sys2Proof.Laws Sys2Proof.Claims

/-! ### The counters and the status of a ring (R451) -/

/-- Where the counters and the last status of a ring stand, beside the fields of `hostRing_keys`. -/
@[simp] theorem hostRing_counts (c : Nat) : (HR_STAT_LAST c).key = c / 32 * 0x20000 + c % 32 * 0x800 + 0xA022508 ∧
    (HR_ERR_CNT c).key = c / 32 * 0x20000 + c % 32 * 0x800 + 0xA022580 ∧ (HR_DUP_CNT c).key = c / 32 * 0x20000 + c % 32 * 0x800 + 0xA022600 := by
  simp only [Field.key, HR_STAT_LAST, HR_ERR_CNT, HR_DUP_CNT]
  omega

/-- A field of a host ring's entry: past the common part of the page, and where no posted write counts. -/
def RingField (f : Field) : Prop := f.lsb < 32 ∧ 0x501000 ≤ f.addr ∧ f.addr < 0x509000 ∧ 0x100 ≤ f.addr % 4096 ∧ f.addr % 4096 ≠ 0x308

section

variable {c : Nat} (low : c < 256)

include low

theorem ringField_pi : RingField (HR_PI c) := by simp only [RingField, HR_PI]; omega

theorem ringField_ci : RingField (HR_CI c) := by simp only [RingField, HR_CI]; omega

theorem ringField_stopped : RingField (HR_STAT_STOPPED c) := by simp only [RingField, HR_STAT_STOPPED]; omega

theorem ringField_last : RingField (HR_STAT_LAST c) := by simp only [RingField, HR_STAT_LAST]; omega

theorem ringField_err : RingField (HR_ERR_CNT c) := by simp only [RingField, HR_ERR_CNT]; omega

theorem ringField_dup : RingField (HR_DUP_CNT c) := by simp only [RingField, HR_DUP_CNT]; omega

end

section

variable {f : Field} {s t : State} (ring : RingField f)

include ring

theorem RingField.posts (h : Posts s t) : t.get f = s.get f := by
  obtain ⟨low, lo, hi, past, off⟩ := ring
  exact h.get low (by simp only [postWord, countWord]; omega)

/-- R186. Edges of a chain's occupancy are counted on the chain's page. -/
theorem RingField.watched {c : Nat} (hc : c < 256) (op : State → State) : (s.watched c op).get f = (op s).get f := by
  have apart : f.key ≠ (CH_WM_STAT c).key := by
    obtain ⟨low, lo, hi, past, off⟩ := ring
    simp only [Field.key, CH_WM_STAT]
    omega
  have edges (e : Nat) : ((op s).wmEdges c e).get f = (op s).get f := by
    unfold State.wmEdges
    split
    · rfl
    · dsimp only
      split
      · exact (State.raise_get _ _ _ _).trans (State.get_set_ne apart _ _)
      · exact State.get_set_ne apart _ _
  unfold State.watched State.poolWatch State.raiseEdge
  dsimp only
  split
  · rw [State.raise_get, edges]
  · exact edges _

theorem RingField.ringEdge (c bit : Nat) : (s.ringEdge c bit).get f = s.get f := by
  unfold State.ringEdge
  refine (State.raise_get _ _ _ _).trans (State.get_set_ne ?_ _ _)
  obtain ⟨low, lo, hi, past, off⟩ := ring
  simp only [Field.key, HR_ATTN]
  omega

theorem RingField.hbmWrite (agent fn core who addr : Nat) (bs : List Byte) : (s.hbmWrite (.home agent) fn core who addr bs).1.get f = s.get f := by
  obtain ⟨low, lo, hi, past, off⟩ := ring
  exact (writeKeeps_get low (by simp only [memWord]; omega) _).agentHbmWrite rfl _ _ _ _ _ _

theorem RingField.hbmRead (agent fn core who addr n : Nat) : (s.hbmRead (.home agent) fn core who addr n).1.get f = s.get f := by
  obtain ⟨low, lo, hi, past, off⟩ := ring
  exact (accessKeeps_get low (by simp only [countWord]; omega) _).agentHbm rfl _ _ _ _ _ _

end

/-- R186. The host interface is left as the operation on a chain leaves it, but for messages. -/
theorem watched_rest (s : State) (c : Nat) (op : State → State) : (s.watched c op).host.rest = (op s).host.rest := by
  have edges (e : Nat) := (State_wmEdges_good c e (good_self (op s) (· == .host)) rfl rfl rfl).same .host rfl
  unfold State.watched State.poolWatch State.raiseEdge
  dsimp only
  split
  · exact (State.raise_only _ _ _ .host (by decide)).trans (edges _)
  · exact edges _

/-! ### An entry that is consumed (R434) -/

theorem ringConsume_work (s : State) (c : Nat) : (s.ringConsume c).work = s.work :=
  (State_ringConsume_good c (good_self s (· == .work)) rfl rfl rfl rfl rfl).same .work rfl

theorem ringConsume_tags (s : State) (c : Nat) : ((s.ringConsume c).ring c).tags = (s.ring c).tags := by
  rw [(ringConsume_posts s c).ring c]
  have own := State.ring_setRing_self s c { s.ring c with cell := none, busy := false, tagged := false }
  exact (congrArg Ring.tags own).trans rfl

theorem ringConsume_get {f : Field} (ring : RingField f) {c : Nat} (other : f.key ≠ (HR_CI c).key) (s : State) : (s.ringConsume c).get f = s.get f := by
  rw [ring.posts (ringConsume_posts s c), State.get_add_ne other, State.get_setRing]

theorem ringEdge_keepsShown (s : State) (c bit : Nat) : KeepsShown s (s.ringEdge c bit) := by
  unfold State.ringEdge
  exact fun fn page b shown => raiseFn_keepsShown _ 0 (ringPage c) bit fn page b shown

theorem ringWriteback_keepsShown {s t : State} (h : KeepsShown s t) (c v : Nat) : KeepsShown s (t.ringWriteback c v) := (postKeeps_shown s).hostWrite h _ _ _ _

theorem ringDone_keepsShown {s t : State} (h : KeepsShown s t) (c : Nat) : KeepsShown s (t.ringDone c) := by
  unfold State.ringDone
  exact prop_ite (h.trans (ringEdge_keepsShown t c 0)) h

theorem ringConsume_keepsShown (s : State) (c : Nat) : KeepsShown s (s.ringConsume c) := by
  unfold State.ringConsume
  dsimp only
  refine ringDone_keepsShown (ringWriteback_keepsShown ?_ c _) c
  exact fun _ _ _ shown => shown

/-- R434. What an inbound ring does with the entry that it has read. -/
theorem exec_hrInboundEntry {s z : State} {c : Nat} {d : ChainDesc} {entry : ReadOutcome} {st : Status} {b : List Byte} (turn : InboundTurn s c d)
    (read : inboundEntry s c entry = (z, st, b)) : exec (.hrInboundEntry c entry) s = .next (if st = .ok then z.ringEntry c d b else z.ringFails c st) := by
  obtain ⟨desc, runs, free, quiet, idle, takes, enabled, inbound, going, ready, some_entry, room⟩ := turn
  have passes : (s.ringHalted c || s.ringHostHeld c d.slot (s.get (HR_CI c)) || s.chainQuiet c || (s.chain c).busy.isSome || !s.on (CH_ENABLE c) || !s.on (HR_CTRL_ENABLE c)
      || s.on (HR_STAT_DIR c) || s.on (HR_STAT_STOPPED c) || (s.ring c).busy || s.get (HR_CI c) == s.get (HR_PI c) || !s.readRoom (s.chainHolder c)) = false := by
    simp [runs, free, quiet, idle, takes, enabled, inbound, going, ready, some_entry, room]
  show execHrInboundEntry c entry s = _
  unfold execHrInboundEntry
  rw [desc]
  simp only [passes, read]
  cases st <;> rfl

/-- R434. An entry longer than the chain's slots has been counted, and named in LAST and on the ring's page. -/
def entryTooLong (s : State) (c : Nat) : State := (((s.add (HR_ERR_CNT c) 1).set (HR_STAT_LAST c) Status.badDesc.code).ringCapture c .badDesc).ringEdge c 1

theorem ringEntry_tooLong {s : State} {c : Nat} {d : ChainDesc} {b : List Byte} (long : d.slot * 4096 < hdr b 0 4 % 2 ^ 28) : s.ringEntry c d b = (entryTooLong s c).ringConsume c := by
  unfold State.ringEntry
  dsimp only
  rw [if_pos long]
  rfl

theorem entryTooLong_get {f : Field} (ring : RingField f) (s : State) (c : Nat) : (entryTooLong s c).get f = ((s.add (HR_ERR_CNT c) 1).set (HR_STAT_LAST c) Status.badDesc.code).get f :=
  ring.ringEdge c 1

/-- R434. An entry that repeats a ONCE tag is counted. -/
theorem ringEntry_repeated {s : State} {c : Nat} {d : ChainDesc} {b : List Byte} (short : hdr b 0 4 % 2 ^ 28 ≤ d.slot * 4096) (once : bitOf (hdr b 68 1) 0 = true)
    (fresh : (s.ring c).tagged = false) (seen : hdr b 64 4 ∈ (s.ring c).tags) : s.ringEntry c d b = (s.add (HR_DUP_CNT c) 1).ringConsume c := by
  unfold State.ringEntry
  dsimp only
  rw [if_neg (by omega), if_pos (by simp [once, fresh, seen])]

/-! ### An entry that takes a cell (R434) -/

/-- R434. The tags that an inbound ring remembers with an entry. -/
def entryTags (r : Ring) (b : List Byte) : List Nat := if bitOf (hdr b 68 1) 0 && !r.tagged then (hdr b 64 4 :: r.tags).take 256 else r.tags

/-- R434. The header of an item that is made of an entry. -/
def entryHeader (b : List Byte) : List Byte := b.take 8 ++ List.replicate 20 0 ++ (b.drop 28).take 36

/-- R434. The chain takes a cell for an entry, in which the ring is to build its item. -/
def entryCell (c : Nat) (d : ChainDesc) (b : List Byte) (s : State) : State :=
  ((((s.pickCell c d.length).2.2.leaveCell c (· == .ring)).setCell (s.pickCell c d.length).1
    { id := s.work.nextCell, chain := c, buf := (s.pickCell c d.length).2.1, state := .building, header := entryHeader b })).setRing c
      { s.ring c with tags := entryTags (s.ring c) b, cell := some (s.pickCell c d.length).1, id := s.work.nextCell, busy := true,
                      tagged := (s.ring c).tagged || bitOf (hdr b 68 1) 0 }

/-- R434. An entry with a payload has its cell, and the read of the payload sets out. -/
theorem ringEntry_reads {s : State} {c : Nat} {d : ChainDesc} {b : List Byte} (payload : 0 < hdr b 0 4 % 2 ^ 28) (short : hdr b 0 4 % 2 ^ 28 ≤ d.slot * 4096)
    (fresh : bitOf (hdr b 68 1) 0 = false ∨ (s.ring c).tagged = true ∨ hdr b 64 4 ∉ (s.ring c).tags) (turn : s.ringTurn c = true) (link : s.host.waitLinkReset = false)
    (allowed : s.hostDenied (s.chainHolder c) (s.ringPayAt c d.slot (s.get (HR_CI c))) (hdr b 0 4 % 2 ^ 28) false = false) :
    s.ringEntry c d b = (s.watched c (entryCell c d b)).hostReadStart (s.chainHolder c) 2 (s.ringPayAt c d.slot (s.get (HR_CI c))) (hdr b 0 4 % 2 ^ 28) (.ringPayload c) := by
  have new : (bitOf (hdr b 68 1) 0 && !(s.ring c).tagged && (s.ring c).tags.contains (hdr b 64 4)) = false := by
    obtain h | h | h := fresh <;> simp [h]
  have header : b.take 4 ++ (b.drop 4).take 4 ++ List.replicate 20 0 ++ (b.drop 28).take 36 = entryHeader b := by
    rw [← List.take_add]
    rfl
  unfold State.ringEntry
  simp only [new, turn, link, allowed, header]
  rw [if_neg (by omega), if_neg (by decide), if_neg (by decide), if_neg (by omega), if_neg (by decide), if_neg (by decide)]
  rfl

theorem entryCell_shows {s t : State} {c : Nat} {d : ChainDesc} {b : List Byte} (work : t.work = (entryCell c d b s).work) (rest : t.host.rest = (entryCell c d b s).host.rest) :
    (t.ring c).busy = true ∧ (t.ring c).tags = entryTags (s.ring c) b ∧ t.host.reads = s.host.reads ∧ t.host.nextRead = s.host.nextRead ∧
      ∃ k x, (t.ring c).cell = some k ∧ Map.find t.work.cells k = some x ∧ x.chain = c ∧ x.state = .building ∧ x.header = entryHeader b := by
  have ring : t.ring c = (entryCell c d b s).ring c := ring_of_rest rest c
  have own := State.ring_setRing_self (((s.pickCell c d.length).2.2.leaveCell c (· == .ring)).setCell (s.pickCell c d.length).1
    { id := s.work.nextCell, chain := c, buf := (s.pickCell c d.length).2.1, state := .building, header := entryHeader b }) c
      { s.ring c with tags := entryTags (s.ring c) b, cell := some (s.pickCell c d.length).1, id := s.work.nextCell, busy := true,
                      tagged := (s.ring c).tagged || bitOf (hdr b 68 1) 0 }
  have cells : t.work.cells = Map.insert (((s.pickCell c d.length).2.2.leaveCell c (· == .ring)).work.cells) (s.pickCell c d.length).1
      { id := s.work.nextCell, chain := c, buf := (s.pickCell c d.length).2.1, state := .building, header := entryHeader b } := congrArg Work.cells work
  have reads := congrArg HostIf.reads rest
  have next := congrArg HostIf.nextRead rest
  rw [ring, show entryCell c d b s = _ from rfl, entryCell, own, cells]
  exact ⟨rfl, rfl, reads, next, _, _, rfl, Map.find_insert_self _ _ _, rfl, rfl, rfl⟩

/-! ### A ring that stops on its entry (R434, R451) -/

theorem code_lt (st : Status) : st.code < 256 := by cases st <;> decide

/-- R434. The cell that an entry has taken goes, where its item is still being built. -/
def entryDropped (s : State) (c : Nat) : State :=
  match (s.ring c).cell with
  | some k =>
    if (s.setRing c { s.ring c with cell := none }).building k (s.ring c).id then (s.setRing c { s.ring c with cell := none }).watched c (·.freeCell k)
    else s.setRing c { s.ring c with cell := none }
  | none => s

theorem ringFails_eq (s : State) (c : Nat) (st : Status) : s.ringFails c st = (((entryDropped s c).ringStop c st).ringCapture c st).ringEdge c 1 := by
  unfold State.ringFails entryDropped
  cases (s.ring c).cell <;> rfl

theorem entryDropped_cell (s : State) (c : Nat) : ((entryDropped s c).ring c).cell = none := by
  have dropped : ((s.setRing c { s.ring c with cell := none }).ring c).cell = none := by rw [State.ring_setRing_self]
  unfold entryDropped
  split
  · split
    · rw [ring_of_rest (watched_rest _ c _)]
      exact dropped
    · exact dropped
  next none_held => exact none_held

theorem entryDropped_get {f : Field} (ring : RingField f) {c : Nat} (low : c < 256) (s : State) : (entryDropped s c).get f = s.get f := by
  unfold entryDropped
  split
  · split
    · exact ring.watched low _
    · rfl
  · rfl

/-- R434, R451. A ring that fails stops with the status in LAST, its entry still to be consumed, and shows it. -/
theorem ringFails_shows {c : Nat} (low : c < 256) (st : Status) (s : State) : (s.ringFails c st).on (HR_STAT_STOPPED c) = true ∧ (s.ringFails c st).get (HR_STAT_LAST c) = st.code ∧
    (s.ringFails c st).get (HR_CI c) = s.get (HR_CI c) ∧ (s.ringFails c st).shows 0 (ringPage c) 1 = true ∧ ((s.ringFails c st).ring c).cell = none := by
  have get {f : Field} (ring : RingField f) : (s.ringFails c st).get f = ((entryDropped s c).ringStop c st).get f := by
    rw [ringFails_eq]
    exact ring.ringEdge c 1
  have ring : (s.ringFails c st).ring c = { (entryDropped s c).ring c with busy := false } := by
    rw [ringFails_eq, ring_of_rest ((State_ringEdge_good c 1 (good_self _ (· == .host)) rfl rfl rfl).same .host rfl)]
    exact State.ring_setRing_self _ c _
  refine ⟨?_, ?_, ?_, ?_, ?_⟩
  · rw [State.on, get (ringField_stopped low)]
    unfold State.ringStop
    rw [State.get_set_ne (by simp)]
    exact State.on_flag_self rfl _ true
  · rw [get (ringField_last low)]
    exact (State.get_set_self _ _ _).trans (Nat.mod_eq_of_lt (code_lt st))
  · rw [get (ringField_ci low)]
    unfold State.ringStop
    rw [State.get_set_ne (by simp), State.get_flag_ne (by simp), State.get_setRing, entryDropped_get (ringField_ci low) low]
  · rw [ringFails_eq]
    exact State.raise_shows _ _ _
  · rw [ring]
    exact entryDropped_cell s c

/-! ### An item that commits (R163, R434) -/

theorem leNat_leBytes (n v : Nat) : leNat (leBytes n v) = v % 256 ^ n := by
  induction n generalizing v with
  | zero => simp [leBytes, leNat, Nat.mod_one]
  | succ n ih =>
    rw [leBytes, leNat, ih, BitVec.toNat_ofNat, show 256 ^ (n + 1) = 256 * 256 ^ n from pow_succ' 256 n, Nat.mod_mul]

/-- R163. An item that commits is READY, with its length in its header. -/
theorem commitCell_ready (s : State) (k : Nat) (x : Cell) (sender : Option (Nat × Nat)) :
    ∃ y, Map.find (s.commitCell k x sender).work.cells k = some y ∧ y.state = .ready ∧ hdr y.header 0 4 = x.top % 2 ^ 32 := by
  refine ⟨_, Map.find_insert_self _ _ _, rfl, ?_⟩
  simp only [hdr, List.drop_zero, List.append_assoc]
  rw [List.take_left' (leBytes_length 4 _), leNat_leBytes]
  rfl

theorem commitCell_get {f : Field} (ring : RingField f) {k : Nat} {x : Cell} (low : x.chain < 256) (s : State) (sender : Option (Nat × Nat)) : (s.commitCell k x sender).get f = s.get f := by
  have apart : f.key ≠ (CH_ENQ_SEQ x.chain).key := by
    obtain ⟨l, lo, hi, past, off⟩ := ring
    simp only [Field.key, CH_ENQ_SEQ]
    omega
  exact State.get_set_ne apart _ _

/-- R434, step 5. The payload of an item in progress has been written. -/
theorem ringCommit_commits {s u : State} {c k : Nat} {x : Cell} {b : List Byte} (cell : (s.ring c).cell = some k) (found : Map.find s.work.cells k = some x) (own : x.id = (s.ring c).id)
    (building : x.state = .building) (written : s.hbmWrite (.home 2) (s.chainHolder c) 0 0 (s.payAddr x 0) (padLines b) = (u, .ok)) :
    s.ringCommit c b = (u.watched c (·.commitCell k { x with top := b.length } none)).ringConsume c := by
  unfold State.ringCommit
  simp only [cell, found, own, building, written]
  rw [if_neg (by simp)]

/-! ### Items that are delivered (R432, R435) -/

theorem headItem_chain {s : State} {c k : Nat} {x : Cell} (head : s.headItem c = some (k, x)) : x.chain = c := by
  have all : ∀ e ∈ (s.cellsOf c).filter (fun e => e.2.state == .ready), e.2.chain = c := by
    intro e mem
    simpa using (List.mem_filter.mp (List.mem_filter.mp mem).1).2
  have fold (l : List (Nat × Cell)) (best : Option (Nat × Cell)) (sound : ∀ e ∈ best, e.2.chain = c) (own : ∀ e ∈ l, e.2.chain = c) :
      ∀ e ∈ l.foldl (fun best e => match best with
        | none => some e
        | some b => if readBefore (s.get (CH_ENQ_SEQ c)) e.2 b.2 then some e else best) best, e.2.chain = c := by
    induction l generalizing best with
    | nil => exact sound
    | cons e l ih =>
      refine ih _ ?_ fun e' mem => own e' (List.mem_cons_of_mem _ mem)
      cases best with
      | none => simpa using own e List.mem_cons_self
      | some b =>
        dsimp only
        split
        · simpa using own e List.mem_cons_self
        · exact sound
  exact fold _ none (by simp) all (k, x) head

/-- R175. The item of a cell that is taken. -/
def takenItem (s : State) (x : Cell) : Cell := { x with state := .inUse, take := s.get (CH_TAKE_SEQ x.chain) }

theorem takeCell_find (s : State) (k : Nat) (x : Cell) : Map.find (s.takeCell k x).work.cells k = some (takenItem s x) := Map.find_insert_self _ _ _

theorem takeCell_get {f : Field} {x : Cell} (apart : f.key ≠ (CH_TAKE_SEQ x.chain).key) (s : State) (k : Nat) : (s.takeCell k x).get f = s.get f := State.get_set_ne apart _ _

/-- The registers that a take leaves: all but the chain's sequence number. -/
theorem takeCell_reads {s : State} {c : Nat} {x : Cell} (own : x.chain = c) (low : c < 256) (k : Nat) : (s.takeCell k x).chainHolder c = s.chainHolder c ∧
    (∀ i, (s.takeCell k x).ringEntryAt c i = s.ringEntryAt c i) ∧ (∀ slot i, (s.takeCell k x).ringPayAt c slot i = s.ringPayAt c slot i) ∧
    (s.takeCell k x).get (HR_PI c) = s.get (HR_PI c) ∧ (s.takeCell k x).on (HR_CTRL_FLUSH c) = s.on (HR_CTRL_FLUSH c) := by
  have get {f : Field} (lsb : f.lsb < 32) (page : 0x500000 ≤ f.addr) : (s.takeCell k x).get f = s.get f := by
    refine takeCell_get ?_ s k
    simp only [Field.key, CH_TAKE_SEQ, own]
    omega
  refine ⟨?_, fun i => ?_, fun slot i => ?_, get (by simp [HR_PI]) (by simp only [HR_PI]; omega), ?_⟩
  · have triples (i : Nat) : (s.takeCell k x).get (TG_PAGES_QPAGES (i + 1)) = s.get (TG_PAGES_QPAGES (i + 1)) := get (by simp [TG_PAGES_QPAGES]) (by simp only [TG_PAGES_QPAGES]; omega)
    simp only [State.chainHolder, State.tripleHolder, triples]
  · simp only [State.ringEntryAt, State.pair, get (f := HR_BASE_LO c) (by simp [HR_BASE_LO]) (by simp only [HR_BASE_LO]; omega),
      get (f := HR_BASE_HI c) (by simp [HR_BASE_HI]) (by simp only [HR_BASE_HI]; omega), get (f := HR_SIZE c) (by simp [HR_SIZE]) (by simp only [HR_SIZE]; omega)]
  · simp only [State.ringPayAt, State.pair, get (f := HR_BUF_LO c) (by simp [HR_BUF_LO]) (by simp only [HR_BUF_LO]; omega),
      get (f := HR_BUF_HI c) (by simp [HR_BUF_HI]) (by simp only [HR_BUF_HI]; omega), get (f := HR_SIZE c) (by simp [HR_SIZE]) (by simp only [HR_SIZE]; omega)]
  · unfold State.on
    rw [get (by simp [HR_CTRL_FLUSH]) (by simp only [HR_CTRL_FLUSH]; omega)]

/-- R435. The item in hand is written, payload and entry, and the ring asks for no flush. -/
theorem ringDeliver_delivers {s t1 t2 t3 : State} {c k fn : Nat} {x : Cell} {d : ChainDesc} {b : List Byte} (holder : s.chainHolder c = fn) (unflushed : s.on (HR_CTRL_FLUSH c) = false)
    (read : (s.setRing c { s.ring c with cell := some k }).hbmRead (.home 2) fn 0 0 (s.payAddr x 0) (hdr x.header 0 4 % 2 ^ 28) = (t1, .ok, b))
    (payload : t1.hostWrite fn 3 (s.ringPayAt c d.slot (s.get (HR_PI c))) b = (t2, .ok))
    (entry : t2.hostWrite fn 3 (s.ringEntryAt c (s.get (HR_PI c))) (t2.ringRecord x) = (t3, .ok)) : s.ringDeliver c k x d = t3.ringDelivered c := by
  unfold State.ringDeliver
  simp only [holder, unflushed, read, payload, entry]
  rfl

/-- R435. An outbound ring takes its chain's next item and writes it. -/
theorem exec_hrOutboundDeliver {s : State} {c k : Nat} {x : Cell} {d : ChainDesc} (turn : OutboundTurn s c d) (none_held : (s.ring c).cell = none) (takes : s.takeOpen c 2 = true)
    (head : s.headItem c = some (k, x)) : exec (.hrOutboundDeliver c) s = .next ((s.takeCell k x).ringDeliver c k (takenItem s x) d) := by
  obtain ⟨desc, runs, free, payload, enabled, outbound, going, ready, room, space⟩ := turn
  have passes : (s.ringHalted c || s.ringHostHeld c d.slot (s.get (HR_PI c)) || !s.on (HR_CTRL_ENABLE c) || !s.on (HR_STAT_DIR c) || s.on (HR_STAT_STOPPED c) || (s.ring c).busy
      || !s.readRoom (s.chainHolder c) || s.deliverHeld c || decide (s.get (HR_SIZE c) ≤ (s.get (HR_PI c) + 2 ^ 32 - s.get (HR_CI c)) % 2 ^ 32)) = false := by
    simp [runs, free, payload, enabled, outbound, going, ready, room]
    omega
  show execHrOutboundDeliver c s = _
  unfold execHrOutboundDeliver
  rw [desc]
  simp only [passes, none_held, takes, head, takeCell_find]
  rfl

/-- R435. An item that has been delivered: HR_PI advances, and its position is remembered. -/
theorem ringDelivered_shows {c k : Nat} {s : State} (low : c < 256) (cell : (s.ring c).cell = some k) : (s.ringDelivered c).get (HR_PI c) = (s.get (HR_PI c) + 1) % 2 ^ 32 ∧
    ((s.ringDelivered c).ring c).delivered = (s.ring c).delivered ++ [(s.get (HR_PI c), k)] ∧ (s.ringDelivered c).work = s.work := by
  let s1 := s.setRing c { s.ring c with cell := none, busy := false, delivered := (s.ring c).delivered ++ [(s.get (HR_PI c), k)] }
  let s2 := (s1.ringWriteback c (s.get (HR_PI c) + 1)).set (HR_PI c) ((s.get (HR_PI c) + 1) % 2 ^ 32)
  have ends : s.ringDelivered c = s2.ringDone c := by
    unfold State.ringDelivered
    simp only [cell]
    rfl
  have done : Posts s2 (s.ringDelivered c) := ends ▸ (Posts.refl s2).ringDone c
  have written : Posts s1 (s1.ringWriteback c (s.get (HR_PI c) + 1)) := (Posts.refl s1).ringWriteback c _
  refine ⟨?_, ?_, (State_ringDelivered_good c (good_self s (· == .work)) rfl rfl rfl rfl rfl).same .work rfl⟩
  · rw [(ringField_pi low).posts done, State.get_set_self]
    exact Nat.mod_mod _ _
  · rw [done.ring c]
    have kept : s2.ring c = s1.ring c := written.ring c
    rw [kept]
    exact congrArg Ring.delivered (State.ring_setRing_self s c { s.ring c with cell := none, busy := false, delivered := (s.ring c).delivered ++ [(s.get (HR_PI c), k)] })

theorem hostWrite_work (s : State) (fn agent iova : Nat) (bs : List Byte) : (s.hostWrite fn agent iova bs).1.work = s.work :=
  (State_hostWrite_good fn agent iova bs (good_self s (· == .work)) rfl rfl rfl rfl rfl).same .work rfl

theorem hbmRead_beside (s : State) (via : Via) (fn core who addr n : Nat) : (s.hbmRead via fn core who addr n).1.work = s.work ∧
    (s.hbmRead via fn core who addr n).1.host.rest = s.host.rest := by
  have good := State_hbmRead_good via fn core who addr n (good_self s fun x => x == .work || x == .host) rfl rfl rfl rfl rfl rfl rfl rfl
  exact ⟨good.same .work rfl, good.same .host rfl⟩

/-- R435. What an outbound ring has of the item that it took, once payload and entry are written. -/
theorem outboundWritten {s t1 t2 t3 : State} {c fn addr n iova iova' : Nat} {b b' : List Byte} (low : c < 256) (read : s.hbmRead (.home 2) fn 0 0 addr n = (t1, .ok, b))
    (payload : t1.hostWrite fn 3 iova b = (t2, .ok)) (entry : t2.hostWrite fn 3 iova' b' = (t3, .ok)) :
    t3.get (HR_PI c) = s.get (HR_PI c) ∧ t3.ring c = s.ring c ∧ t3.work = s.work := by
  have first := (ringField_pi low).hbmRead (s := s) 2 fn 0 0 addr n
  obtain ⟨work, rest⟩ := hbmRead_beside s (.home 2) fn 0 0 addr n
  have second := (Posts.refl t1).hostWrite fn 3 iova b
  have third := (Posts.refl t2).hostWrite fn 3 iova' b'
  have work2 := hostWrite_work t1 fn 3 iova b
  have work3 := hostWrite_work t2 fn 3 iova' b'
  rw [read] at first work rest
  rw [payload] at second work2
  rw [entry] at third work3
  exact ⟨((ringField_pi low).posts third).trans (((ringField_pi low).posts second).trans first), (third.ring c).trans ((second.ring c).trans (ring_of_rest rest c)),
    work3.trans (work2.trans work)⟩

/-! ### Aborts (R449) -/

/-- R449. An abort is logged where the log has room, counted and shown. -/
theorem hostAbort_shows {s : State} {fn : Nat} (room : s.host.abortLog.length < 64) (agent cause iova : Nat) :
    (s.hostAbort fn agent cause iova).host.abortLog = s.host.abortLog ++ [{ fn := fn, agent := agent, cause := cause, status := Status.aborted.code, iova := iova, time := s.now }] ∧
      (s.hostAbort fn agent cause iova).get HI_ABORT_CNT = (s.get HI_ABORT_CNT + 1) % 2 ^ 32 ∧ (s.hostAbort fn agent cause iova).shows fn 0x500 4 = true := by
  have apart : HI_ABORT_CNT.key ≠ (FN_ABORT_CNT fn).key := by
    simp only [Field.key, HI_ABORT_CNT, FN_ABORT_CNT]
    omega
  let e : AbortEntry := { fn := fn, agent := agent, cause := cause, status := Status.aborted.code, iova := iova, time := s.now }
  let logged : State := { s with host := { s.host with abortLog := s.host.abortLog ++ [e] } }
  let raised := ((logged.add HI_ABORT_CNT 1).add (FN_ABORT_CNT fn) 1).raiseFn fn 0x500 4
  have ends : s.hostAbort fn agent cause iova = raised.captureOpen fn 0x500 .aborted := by
    unfold State.hostAbort
    simp only [if_pos room]
    rfl
  rw [ends]
  refine ⟨?_, ?_, ?_⟩
  · exact congrArg HostIf.abortLog (State.raiseFn_only _ fn 0x500 4 .host (by decide))
  · refine (State.raiseFn_get _ _ _ _ _).trans ?_
    rw [State.get_add_ne apart]
    exact State.get_add_self _ _ _
  · exact captureFn_keepsShown _ _ _ _ _ _ _ _ _ (State.raiseFn_shows _ fn 0x500 4)

/-! ### The obligation -/

/-- Settles O35: an entry by what it asks for, an item by its write, a read by its outcome. -/
theorem hostRingProcessing : Obligations.HostRingProcessing := by
  refine ⟨?long, ?repeated, ?reads, ?unread, ?fails, ?completes, ?timeout, ?data, ?failed, ?aborted, ?commits, ?delivers⟩
  case long =>
    intro c d entry b s turn low read long
    refine .of_next ((exec_hrInboundEntry turn read).trans (by rw [if_pos rfl, ringEntry_tooLong long])) ⟨?_, ?_, ?_, ?_, ?_⟩
    · rw [ringConsume_ci low, entryTooLong_get (ringField_ci low), State.get_set_ne (by simp), State.get_add_ne (by simp)]
    · rw [ringConsume_get (ringField_err low) (by simp), entryTooLong_get (ringField_err low), State.get_set_ne (by simp)]
      exact State.get_add_self _ _ _
    · rw [ringConsume_get (ringField_last low) (by simp), entryTooLong_get (ringField_last low)]
      exact State.get_set_self _ _ _
    · exact ringConsume_keepsShown _ c _ _ _ (State.raise_shows _ _ _)
    · exact (ringConsume_work _ c).trans (State.raise_work _ _ _)
  case repeated =>
    intro c d entry b s turn low read short once fresh seen
    refine .of_next (t := (s.add (HR_DUP_CNT c) 1).ringConsume c) ((exec_hrInboundEntry turn read).trans (by rw [if_pos rfl, ringEntry_repeated short once fresh seen])) ⟨?_, ?_, ringConsume_tags _ c, ringConsume_work _ c⟩
    · rw [ringConsume_ci low, State.get_add_ne (by simp)]
    · rw [ringConsume_get (ringField_dup low) (by simp)]
      exact State.get_add_self _ _ _
  case reads =>
    intro c d entry b s turn low read payload short fresh taken link allowed
    obtain ⟨busy, tags, reads, next, cell⟩ := entryCell_shows (s := s) (c := c) (d := d) (b := b) (watched_work s c (entryCell c d b)) (watched_rest s c (entryCell c d b))
    have ci := (ringField_ci low).watched (s := s) low (entryCell c d b)
    have run := exec_hrInboundEntry turn read
    rw [if_pos rfl, ringEntry_reads payload short fresh taken link allowed] at run
    generalize s.watched c (entryCell c d b) = u at busy tags reads next cell ci run
    refine .of_next run ⟨busy, tags, ?_, ci, cell⟩
    rw [← reads, ← next]
    rfl
  case unread => exact fun c d entry b st z s turn read bad => (exec_hrInboundEntry turn read).trans (by rw [if_neg bad])
  case fails => exact fun c st s low => ringFails_shows low st s
  case completes =>
    intro id r o s outstanding flowing first free
    show readCompletion id o _ s = _
    unfold readCompletion
    simp [outstanding, flowing, first, free]
  case timeout =>
    intro id r s outstanding flowing first free
    show readCompletion id .timeout _ s = _
    unfold readCompletion
    simp [outstanding, flowing, first, free]
  case data =>
    intro r b s
    unfold State.readEnds
    rfl
  case failed =>
    intro r o s bad unflushed
    unfold State.readEnds
    cases o with
    | data b => exact absurd rfl (bad b)
    | unsupported | timeout | poisoned => simp only [unflushed]; rfl
  case aborted => exact fun fn agent iova s room _ => hostAbort_shows room agent 4 iova
  case commits =>
    intro c k x b s u cell found own chain building low written
    have ci := (ringField_ci low).hbmWrite (s := s) 2 (s.chainHolder c) 0 0 (s.payAddr x 0) (padLines b)
    rw [written] at ci
    rw [ringCommit_commits cell found own building written]
    refine ⟨rfl, ?_, ?_⟩
    · rw [ringConsume_work, watched_work]
      exact commitCell_ready u k { x with top := b.length } none
    · rw [ringConsume_ci low, (ringField_ci low).watched low, commitCell_get (ringField_ci low) (by rw [chain]; exact low), ci]
  case delivers =>
    intro c k x y d t1 t2 t3 s b turn low none_held takes head unflushed taken read payload entry
    obtain ⟨holder, entryAt, payAt, pi, flush⟩ := takeCell_reads (s := s) (headItem_chain head) low k
    have item : y = takenItem s x := taken
    rw [item] at entry ⊢
    obtain ⟨piKept, ringKept, work⟩ := outboundWritten low read payload entry
    have ring : t3.ring c = { s.ring c with cell := some k } := ringKept.trans (State.ring_setRing_self (s.takeCell k x) c _)
    obtain ⟨advanced, delivered, kept⟩ := ringDelivered_shows (s := t3) (k := k) low (by rw [ring])
    have index : t3.get (HR_PI c) = s.get (HR_PI c) := piKept.trans pi
    refine ⟨(exec_hrOutboundDeliver turn none_held takes head).trans (congrArg _ ?_), by rw [advanced, index], by rw [delivered, ring, index], ?_⟩
    · refine ringDeliver_delivers (t2 := t2) holder (flush.trans unflushed) read ?_ ?_
      · rw [payAt, pi]
        exact payload
      · rw [entryAt, pi]
        exact entry
    · rw [kept, work]
      exact takeCell_find s k x

end Sys2Proof.Proofs

/-!
The units of the public-key engine (R394, R402 to R405, R413 to R419).
-/

namespace Sys2Proof.Proofs

open Sys2Proof.Machine Sys2Proof.Laws Sys2Proof.Claims

/-! ### Units (R413, R414) -/

theorem unit_setUnit (s : State) (u : Nat) (r : PkeRun) : Map.find (s.setUnit u (some r)).sluice.units u = some r := Map.find_insert_self _ _ _

theorem unit_freed (s : State) (u : Nat) : Map.find (s.setUnit u none).sluice.units u = none := Map.find_erase_self _ _

/-- R413. What a free unit takes. -/
theorem exec_pkeUnitStart {s : State} {u : Nat} (awake : s.Awake 0x410) (hu : u < 4) (free : Map.find s.sluice.units u = none) (unquiesced : s.quiet 0x410 = false) :
    exec (.pkeUnitStart u) s = match s.sluice.short, s.sluice.parked, s.sluice.long with
      | j :: js, _, _ => .next (({ s with sluice := { s.sluice with short := js } } : State).startPke u j)
      | [], (_, r) :: rs, _ => .next (({ s with sluice := { s.sluice with parked := rs } } : State).setUnit u (some { r with moving := some true }))
      | [], [], j :: js => if s.longUnits < s.get PKE_CFG_LONG_MAX then .next (({ s with sluice := { s.sluice with long := js } } : State).startPke u j) else .next s
      | [], [], [] => .next s := by
  show execPkeUnitStart u s = _
  unfold execPkeUnitStart
  rw [event_awake awake]
  exact if_neg (by simp [free, unquiesced]; omega)

/-- The outcome that operands fix depends on the curve tables alone. -/
theorem fixedOutcome_of_curves {s t : State} (curves : t.sluice.curves = s.sluice.curves) (j : PkeJob) : t.fixedOutcome j = s.fixedOutcome j := by
  have curve (n : Nat) : t.curve n = s.curve n := by
    unfold State.curve
    rw [curves]
  unfold State.fixedOutcome
  simp only [curve]

/-- R411. The bytes that blind a job change no curve table. -/
theorem blind_curves (s : State) (j : PkeJob) : (s.blind j).sluice.curves = s.sluice.curves := by
  unfold State.blind
  split <;> rfl

/-- R402. A job that nothing refuses occupies its unit with the outcome that its operands fix. -/
theorem startPke_fixed {s : State} {j : PkeJob} {o : PkeOut} (accepted : s.startFault j = none) (fixed : s.fixedOutcome j = some o) (u : Nat) :
    s.startPke u j = (s.blind j).setUnit u (some { job := j, out := o }) := by
  unfold State.startPke State.outcome
  simp only [accepted, (fixedOutcome_of_curves (blind_curves s j) j).trans fixed]

/-- R414. A long operation parks where its page is being quiesced, or a short one waits unserved. -/
theorem exec_pkeYieldPoint {s : State} {u : Nat} {r : PkeRun} (awake : s.Awake 0x410) (hu : u < 4) (runs : Map.find s.sluice.units u = some r) (long : r.job.long = true)
    (still : r.moving = none) (asked : s.quiet 0x410 = true ∨ 0 < s.shortUnserved) :
    exec (.pkeYieldPoint [u]) s = .next ((s.setUnit u (some { r with moving := some false })).add PKE_YIELD_CNT 1) := by
  have only : (List.range 4).filter [u].contains = [u] := by
    obtain rfl | rfl | rfl | rfl : u = 0 ∨ u = 1 ∨ u = 2 ∨ u = 3 := by omega
    all_goals decide
  have yields : (r.job.long && r.moving.isNone && (s.quiet 0x410 || decide (0 < s.shortUnserved))) = true := by simpa [long, still] using asked
  show execPkeYieldPoint [u] s = _
  unfold execPkeYieldPoint
  rw [event_awake awake, only]
  simp only [List.foldl_cons, List.foldl_nil, State.yieldAt, runs, yields, if_true]

/-! ### What an operation's end leaves of the engine -/

/-- The units, the counts of operations and of faults, and the events that show stay. -/
structure PkeStays (s t : State) : Prop where
  units : t.sluice.units = s.sluice.units
  faults : t.get PKE_FCHK_CNT = s.get PKE_FCHK_CNT
  ops : t.get PKE_OPS_CNT = s.get PKE_OPS_CNT
  shown : KeepsShown s t

namespace PkeStays

variable {s t u : State}

theorem refl (s : State) : PkeStays s s := ⟨rfl, rfl, rfl, .refl s⟩

theorem trans (h : PkeStays s t) (h' : PkeStays t u) : PkeStays s u :=
  ⟨h'.units.trans h.units, h'.faults.trans h.faults, h'.ops.trans h.ops, h.shown.trans h'.shown⟩

/-- An update beside the units, the registers and the pages. -/
theorem upd (h : PkeStays s t) (units : u.sluice.units = t.sluice.units) (regs : u.regs = t.regs) (pages : u.pages = t.pages) : PkeStays s u :=
  h.trans ⟨units, State.get_of_regs regs _, State.get_of_regs regs _, fun fn page bit shown => by
    unfold State.shows at shown ⊢
    rw [State.page_of_pages pages]
    exact shown⟩

theorem set (h : PkeStays s t) {f : Field} (low : f.lsb < 32) (other : f.addr < 0x410064 ∨ 0x410070 < f.addr) (v : Nat) : PkeStays s (t.set f v) :=
  h.trans ⟨rfl, State.get_set_ne (key_ne_of_addr (by decide) low (show 0x410070 ≠ f.addr by omega)) t v,
    State.get_set_ne (key_ne_of_addr (by decide) low (show 0x410064 ≠ f.addr by omega)) t v, .refl t⟩

theorem raise (h : PkeStays s t) (page bit : Nat) : PkeStays s (t.raise page bit) :=
  h.trans ⟨congrArg Sluice.units (State.raise_sluice t page bit), State.raise_get _ _ _ _, State.raise_get _ _ _ _, raiseFn_keepsShown t 0 page bit⟩

theorem capture (h : PkeStays s t) (page : Nat) (st : Status) (i j : Nat) : PkeStays s (t.capture page st i j) := h.trans ⟨rfl, rfl, rfl, captureFn_keepsShown t 0 page st i j⟩

theorem fault (h : PkeStays s t) (cls : Nat) (st : Status) (fn lcore array port index : Nat) : PkeStays s (t.fault cls st fn lcore array port index) := by
  unfold State.fault State.logFault
  have logged (l : List FaultEntry) : PkeStays s { t with faultLog := l } := h.upd rfl rfl rfl
  exact prop_ite ((logged _).raise _ _) ((h.set (f := FT_LOST) (by decide) (by decide) _).raise _ _)

theorem hostWrite (h : PkeStays s t) (fn agent iova : Nat) (bs : List Byte) : PkeStays s (t.hostWrite fn agent iova bs).1 :=
  h.trans ⟨congrArg Sluice.units ((Posts.refl t).hostWrite fn agent iova bs).sluice, (postKeeps_get (by decide) (by decide) _).hostWrite rfl fn agent iova bs,
    (postKeeps_get (by decide) (by decide) _).hostWrite rfl fn agent iova bs, (postKeeps_shown t).hostWrite (.refl t) fn agent iova bs⟩

theorem off_memory : ¬memWord PKE_FCHK_CNT.addr ∧ ¬memWord PKE_OPS_CNT.addr := by
  simp only [memWord, PKE_FCHK_CNT, PKE_OPS_CNT]
  omega

theorem hbmWrite (h : PkeStays s t) (agent fn core who addr : Nat) (bs : List Byte) : PkeStays s (t.hbmWrite (.home agent) fn core who addr bs).1 :=
  h.trans ⟨congrArg Sluice.units ((State_hbmWrite_good (.home agent) fn core who addr bs (good_self t (· == .sluice)) rfl rfl rfl rfl rfl rfl rfl rfl).same .sluice rfl),
    (writeKeeps_get (by decide) off_memory.1 _).agentHbmWrite rfl _ _ _ _ _ _, (writeKeeps_get (by decide) off_memory.2 _).agentHbmWrite rfl _ _ _ _ _ _,
    (writeKeeps_shown t).agentHbmWrite (.refl t) _ _ _ _ _ _⟩

/-- R366, R370. The write of an output. -/
theorem writeOutput (h : PkeStays s t) (d : Desc) (sp addr : Nat) (bs : List Byte) : PkeStays s (t.writeOutput d sp addr bs).1 := by
  unfold State.writeOutput
  split
  · exact h
  split
  · exact prop_ite ((h.hostWrite _ _ _ _).upd rfl rfl rfl) (h.hostWrite _ _ _ _)
  split
  · exact h.hbmWrite _ _ _ _ _ _
  · exact h.upd rfl rfl rfl

theorem setEnded (h : PkeStays s t) (d : Desc) (st : Status) (n dt : Nat) : PkeStays s (t.setEnded d st n dt) := h.upd rfl rfl rfl

/-- R369. The end of a descriptor that has its status, and of the later ones of a chain that fails. -/
theorem finishDesc (h : PkeStays s t) (d : Desc) (st : Status) (n dt : Nat) : PkeStays s (t.finishDesc d st n dt) := by
  unfold State.finishDesc
  dsimp only
  refine prop_ite (h.setEnded d st n dt) (foldl_of ?_ fun u e hu => hu.setEnded e .aborted 0 0)
  exact (h.setEnded d st n dt).upd rfl rfl rfl

theorem endDesc (h : PkeStays s t) (d : Desc) (st : Status) (n dt : Nat) : PkeStays s (t.endDesc d st n dt) := by
  have counted : PkeStays s (if st = .authFail then t.add SL_AUTHFAIL_CNT 1 else t) := prop_ite (h.set (by decide) (by decide) _) h
  unfold State.endDesc
  dsimp only
  split
  · exact counted.upd rfl rfl rfl
  · exact counted.finishDesc _ _ _ _

/-- R409. The end of a CURVE_LOAD that made no check. -/
theorem curveEnds (h : PkeStays s t) (j : PkeJob) : PkeStays s (t.curveEnds j { st := .internal }) := by
  have checked := (h.set (f := CURVE_STAT_CHECK j.table) (by simp [CURVE_STAT_CHECK]) (.inr (by simp only [CURVE_STAT_CHECK]; omega)) 0).set (f := CURVE_STAT_RESULT j.table)
    (by simp [CURVE_STAT_RESULT]) (.inr (by simp only [CURVE_STAT_RESULT]; omega)) Status.internal.code
  exact (checked.raise 0x410 2).capture _ _ _ _

/-- R408. The end of a CURVE_CLEAR. -/
theorem curveCleared (h : PkeStays s t) (m : Map Curve) (n v : Nat) :
    PkeStays s ((({ t with sluice := { t.sluice with curves := m } }.set (CURVE_STAT_RESULT n) v).flag (CURVE_STAT_VALID n) false).set (CURVE_STAT_WIDTH n) 0) := by
  have cleared : PkeStays s { t with sluice := { t.sluice with curves := m } } := h.upd rfl rfl rfl
  exact ((cleared.set (by simp [CURVE_STAT_RESULT]) (.inr (by simp only [CURVE_STAT_RESULT]; omega)) v).set (by simp [CURVE_STAT_VALID])
    (.inr (by simp only [CURVE_STAT_VALID]; omega)) _).set (by simp [CURVE_STAT_WIDTH]) (.inr (by simp only [CURVE_STAT_WIDTH]; omega)) 0

/-- R405. An operation that a fault of its unit ended, wherever its result was to go. -/
theorem finishJob_fault (h : PkeStays s (t.add PKE_OPS_CNT 1)) (j : PkeJob) : PkeStays s (t.finishJob j { st := .internal }) := by
  unfold State.finishJob
  simp only [reduceCtorEq, or_self, if_false]
  split
  · exact h.upd rfl rfl rfl
  · exact h.upd rfl rfl rfl
  · split
    · exact h
    · exact h.endDesc _ _ _ _
  · split
    · exact h
    · exact (h.writeOutput _ _ _ _).endDesc _ _ _ _
  · split
    · exact h
    · simp only [ne_eq, reduceCtorEq, not_false_eq_true, if_true]
      exact prop_ite ((h.curveEnds j).endDesc _ _ _ _) (prop_ite ((h.curveCleared _ _ _).endDesc _ _ _ _) (h.endDesc _ _ _ _))

end PkeStays

/-- R404, R405. An operation at a unit that has met a fault of its unit: counted, shown, named on the page and logged. -/
def unitFaulted (s : State) (u : Nat) (r : PkeRun) : State :=
  (((((s.setUnit u none).add PKE_FCHK_CNT 1).raise 0x410 0).capture 0x410 .internal (r.job.op + 256 * r.job.fn + 4096 * u) 0).fault 12 .internal r.job.fn 0 0 0 0)

/-- R405. An operation that completes, or meets a fault of its unit. -/
theorem exec_pkeOpComplete {s : State} {u : Nat} {r : PkeRun} (awake : s.Awake 0x410) (runs : Map.find s.sluice.units u = some r) (still : r.moving = none) (passed : r.refused = false)
    (free : s.outputHeld r = false) (fault : Bool) : exec (.pkeOpComplete u fault) s =
      .next (if fault then (unitFaulted s u r).finishJob r.job { st := .internal } else (s.setUnit u none).finishJob r.job r.out) := by
  show execPkeOpComplete u fault s = _
  unfold execPkeOpComplete
  rw [event_awake awake, runs]
  simp only [still, passed, free]
  cases fault <;> rfl

/-- R405. A fault frees its unit, counts itself and the operation, and shows. -/
theorem unitFaulted_ends (s : State) (u : Nat) (r : PkeRun) : Map.find ((unitFaulted s u r).finishJob r.job { st := .internal }).sluice.units u = none ∧
    ((unitFaulted s u r).finishJob r.job { st := .internal }).get PKE_FCHK_CNT = (s.get PKE_FCHK_CNT + 1) % 2 ^ 32 ∧
    ((unitFaulted s u r).finishJob r.job { st := .internal }).shows 0 0x410 0 = true ∧
    ((unitFaulted s u r).finishJob r.job { st := .internal }).get PKE_OPS_CNT = (s.get PKE_OPS_CNT + 1) % 2 ^ 32 := by
  let counted := (s.setUnit u none).add PKE_FCHK_CNT 1
  have faulted : PkeStays (counted.raise 0x410 0) (unitFaulted s u r) := ((PkeStays.refl _).capture _ _ _ _).fault _ _ _ _ _ _ _
  have ended : PkeStays ((unitFaulted s u r).add PKE_OPS_CNT 1) ((unitFaulted s u r).finishJob r.job { st := .internal }) := (PkeStays.refl _).finishJob_fault r.job
  refine ⟨?_, ?_, ?_, ?_⟩
  · rw [ended.units]
    show Map.find (unitFaulted s u r).sluice.units u = none
    rw [faulted.units, State.raise_sluice]
    exact unit_freed s u
  · rw [ended.faults, State.get_add_ne (by decide), faulted.faults, State.raise_get]
    exact State.get_add_self _ _ _
  · exact ended.shown _ _ _ (faulted.shown _ _ _ (State.raise_shows _ _ _))
  · rw [ended.ops, State.get_add_self, faulted.ops, State.raise_get, State.get_add_ne (by decide)]
    rfl

/-! ### Where the result of an operation goes (R396, R400, R406) -/

/-- R396, R399, R401. The bytes of an operation are written to its descriptor's destination. -/
theorem finishJob_delivers {s : State} {id : Nat} {d : Desc} {j : PkeJob} {o : PkeOut} (found : s.desc id = some d) (use : j.use = .desc id)
    (op : j.op = 0x20 ∨ j.op = 0x24 ∨ j.op = 0x28 ∨ j.op = 0x29) (ok : o.st = .ok) (written : (output (s.add PKE_OPS_CNT 1) d o.out).2 = .ok) :
    s.finishJob j o = delivered (s.add PKE_OPS_CNT 1) d o.out := by
  have found' : (s.add PKE_OPS_CNT 1).desc id = some d := found
  unfold State.finishJob
  obtain h | h | h | h := op <;> simp [use, found', ok, h, PkeJob.loadsKey, written, delivered]

/-- R406. A key that passed its check is written to its slot. -/
theorem finishJob_loads {s : State} {id : Nat} {d : Desc} {j : PkeJob} {o : PkeOut} (found : s.desc id = some d) (use : j.use = .desc id) (loads : j.loadsKey = true) (ok : o.st = .ok) :
    s.finishJob j o = ((s.add PKE_OPS_CNT 1).writeSlot j.target j.cls j.wrappable j.key o.pub).endDesc d .ok 0 0 := by
  have found' : (s.add PKE_OPS_CNT 1).desc id = some d := found
  have op : j.op ≠ 0x2B ∧ j.op ≠ 0x2C := by
    unfold PkeJob.loadsKey at loads
    simp only [Bool.or_eq_true, beq_iff_eq] at loads
    omega
  unfold State.finishJob
  simp [use, found', ok, loads, op]

/-! ### The obligation -/

/-- Settles O32: each event of a unit by its rule, its end by where the result goes. -/
theorem publicKeyUnits : Obligations.PublicKeyUnits := by
  refine ⟨?short, ?parked, ?long, ?fixed, ?yields, ?parks, ?returns, ?invalid, ?completes, ?faults, ?delivers, ?loads⟩
  case short =>
    intro u j js s awake hu free unquiesced waiting
    rw [exec_pkeUnitStart awake hu free unquiesced, waiting]
  case parked =>
    intro u x r rs s awake hu free unquiesced none_short waiting
    refine .of_next (t := ({ s with sluice := { s.sluice with parked := rs } } : State).setUnit u (some { r with moving := some true })) ?_ ⟨unit_setUnit _ u _, rfl, rfl⟩
    rw [exec_pkeUnitStart awake hu free unquiesced, none_short, waiting]
  case long =>
    intro u j js s awake hu free unquiesced none_short none_parked waiting few
    rw [exec_pkeUnitStart awake hu free unquiesced, none_short, none_parked, waiting]
    simp only [if_pos few]
  case fixed => exact fun u j o s accepted fixed => startPke_fixed accepted fixed u
  case yields =>
    intro u r s awake hu runs long still asked
    refine .of_next (exec_pkeYieldPoint awake hu runs long still asked) ⟨unit_setUnit s u _, State.get_add_self _ _ _, ?_⟩
    exact OnlyRegs.set (.of_regs (.refl _ s) rfl) (by simp) _
  case parks =>
    intro u r s awake runs leaving
    show ∃ t, execPkeParkDone u s = .next t ∧ _
    unfold execPkeParkDone
    rw [event_awake awake, runs]
    simp only [leaving]
    exact ⟨_, rfl, unit_freed s u, _, rfl⟩
  case returns =>
    intro u r s awake runs back
    show execPkeParkDone u s = _
    unfold execPkeParkDone
    rw [event_awake awake, runs]
    simp only [back]
  case invalid =>
    intro u r s awake runs still refused
    show execPkeValidationEnd u s = _
    unfold execPkeValidationEnd
    rw [event_awake awake, runs]
    simp [still, refused]
  case completes => exact fun u r s awake runs still passed free => exec_pkeOpComplete awake runs still passed free false
  case faults => exact fun u r s awake runs still passed free => .of_next (exec_pkeOpComplete awake runs still passed free true) (unitFaulted_ends s u r)
  case delivers => exact fun id d j o s found use op ok written => finishJob_delivers found use op ok written
  case loads => exact fun id d j o s found use loads ok => finishJob_loads found use loads ok

end Sys2Proof.Proofs

/-!
The self-test and the reset of a core (R549, R566, R570).
-/

namespace Sys2Proof.Proofs

open Sys2Proof.Machine Sys2Proof.Laws Sys2Proof.Claims

/-! ### What a self-test writes of the registers (R566, R570) -/

/-- The words of the cores' pages and of those after them. -/
def coreWord (a : Nat) : Prop := 0x100000 ≤ a

theorem validField_either (s : State) (e k : Nat) : s.validField e k = WSET_VALID0 e ∨ s.validField e k = WSET_VALID1 e := ite_eq_or_eq _ _ _

theorem clearHolds_regs {s t : State} (h : RegsAt coreWord s t) (core : Nat) : RegsAt coreWord s (t.clearHolds core) := by
  have cleared (e k : Nat) {u : State} (hu : RegsAt coreWord s u) : RegsAt coreWord s (u.setHolds e k core false) := by
    refine hu.set ?_ _
    obtain field | field := validField_either u e k
    · exact field ▸ ⟨by simp [WSET_VALID0], by simp only [coreWord, WSET_VALID0]; omega⟩
    · exact field ▸ ⟨by simp [WSET_VALID1], by simp only [coreWord, WSET_VALID1]; omega⟩
  exact foldl_of h fun u e hu => cleared e 1 (cleared e 0 hu)

section

variable (n a : Nat)

theorem coreWord_colFail : (coreWord (MA_COLFAIL0 n a).addr ∧ coreWord (MA_COLFAIL1 n a).addr) ∧ coreWord (MA_COLFAIL2 n a).addr := by
  simp only [coreWord, MA_COLFAIL0, MA_COLFAIL1, MA_COLFAIL2]
  omega

theorem coreWord_cap : (coreWord (MA_CAP_WIDTH n a).addr ∧ coreWord (MA_CAP_SPARE_IN_USE n a).addr) ∧ coreWord (MA_CAP_IN_SERVICE n a).addr ∧ coreWord (CORE_CAP_ARRAYS n).addr := by
  simp only [coreWord, MA_CAP_WIDTH, MA_CAP_SPARE_IN_USE, MA_CAP_IN_SERVICE, CORE_CAP_ARRAYS]
  omega

theorem coreWord_shadow : coreWord (MA_SHADOW_ACTIVE n a).addr ∧ coreWord (MA_SHADOW_CUR n a).addr := by
  simp only [coreWord, MA_SHADOW_ACTIVE, MA_SHADOW_CUR]
  omega

end

theorem testColumns_regs {s t : State} (h : RegsAt coreWord s t) (core : Nat) (l : List Nat) : RegsAt coreWord s (t.testColumns core l) := by
  have columns (a m : Nat) {u : State} (hu : RegsAt coreWord s u) : RegsAt coreWord s (u.setColumns core a m) := by
    obtain ⟨⟨fail0, fail1⟩, fail2⟩ := coreWord_colFail core a
    obtain ⟨⟨width, spare⟩, _⟩ := coreWord_cap core a
    obtain ⟨active, cur⟩ := coreWord_shadow core a
    have failed := ((hu.set (g := MA_COLFAIL0 core a) ⟨by simp [MA_COLFAIL0], fail0⟩ m).set (g := MA_COLFAIL1 core a) ⟨by simp [MA_COLFAIL1], fail1⟩ (m / 2 ^ 32)).set
      (g := MA_COLFAIL2 core a) ⟨by simp [MA_COLFAIL2], fail2⟩ (m / 2 ^ 64)
    have shown := ((failed.set (g := MA_CAP_WIDTH core a) ⟨by simp [MA_CAP_WIDTH], width⟩ (presented m).length).set (g := MA_CAP_SPARE_IN_USE core a)
      ⟨by simp [MA_CAP_SPARE_IN_USE], spare⟩ (b2n ((presented m).contains 64))).set (g := MA_SHADOW_ACTIVE core a) ⟨by simp [MA_SHADOW_ACTIVE], active⟩
        (b2n (shadowing m && u.on (MA_CAP_IN_SERVICE core a)))
    unfold State.setColumns
    exact prop_ite shown (shown.set ⟨by simp [MA_SHADOW_CUR], cur⟩ _)
  have service (a : Nat) (b : Bool) {u : State} (hu : RegsAt coreWord s u) : RegsAt coreWord s (u.setService core a b) := by
    obtain ⟨_, inService, arrays⟩ := coreWord_cap core a
    obtain ⟨active, _⟩ := coreWord_shadow core a
    exact ((hu.set ⟨by simp [MA_CAP_IN_SERVICE], inService⟩ _).set ⟨by simp [CORE_CAP_ARRAYS], arrays⟩ _).set ⟨by simp [MA_SHADOW_ACTIVE], active⟩ _
  exact foldl_of h fun u a hu => service a _ (columns a _ hu)

/-- R574. The slot that a core fronts is fixed by the fuses, of which no self-test writes. -/
theorem physSlot_of_regs {s t : State} (h : RegsAt coreWord s t) (n : Nat) : t.physSlot n = s.physSlot n := by
  have map (f : Field) (low : f.lsb < 32) (fuse : f.addr < 0x100000) : t.get f = s.get f := h f low (by simp only [coreWord]; omega)
  unfold State.physSlot
  rw [map _ (by split <;> decide) (by split <;> decide)]

/-! ### The pass bit of a slot (R566, R570) -/

/-- A bit of a word takes a value. -/
theorem bitOf_replaced (m k : Nat) (b : Bool) : bitOf ((if bitOf m k then m - 2 ^ k else m) + (if b then 2 ^ k else 0)) k = b := by
  have cleared := bitOf_cleared m k k
  generalize (if bitOf m k then m - 2 ^ k else m) = rest at cleared ⊢
  simp only [ne_eq, not_true_eq_false, decide_false, Bool.and_false] at cleared
  cases b with
  | false => simpa using cleared
  | true =>
    rw [bitOf_eq_testBit] at cleared ⊢
    rw [if_pos rfl, Nat.add_comm, Nat.testBit_two_pow_add_eq, cleared]
    rfl

theorem setSlotPass_bit {s : State} {core : Nat} (slot : s.physSlot core < 18) (b : Bool) : bitOf ((s.setSlotPass core b).get FT_SLOT_PASS) (s.physSlot core) = b := by
  unfold State.setSlotPass
  rw [bitOf_get_set slot]
  exact bitOf_replaced _ _ _

/-! ### The self-test (R570) -/

theorem coreTest_keys (n : Nat) : (CORE_TEST_DONE n).key ≠ (CORE_TEST_PASS n).key ∧ (CORE_TEST_DONE n).key ≠ FT_SLOT_PASS.key ∧ (CORE_TEST_PASS n).key ≠ FT_SLOT_PASS.key := by
  have slots : FT_SLOT_PASS.key = 0x70006C * 32 := rfl
  rw [slots]
  simp only [Field.key, CORE_TEST_DONE, CORE_TEST_PASS]
  omega

/-- With no task and no save record in the chip, no context of a core is active or saved. -/
theorem contexts_idle {s : State} (slots : s.work.slots = []) (saves : s.work.saves = []) (core c : Nat) : s.ctxActive core c = 0 ∧ s.ctxSaved core c = 0 := by
  constructor
  · simp [State.ctxActive, State.running, slots, Map.find]
  · simp [State.ctxSaved, saves, Map.find]

/-- R570. A self-test has begun. -/
def testStarted (s : State) (core : Nat) : State :=
  ({ s with work := { s.work with testing := s.work.testing ++ [core] } }.flag (CORE_TEST_DONE core) false).flag (CORE_TEST_PASS core) false

theorem exec_coreTestStart {s : State} {fn core : Nat} (reach : s.Reaches fn (0x100 + 16 * core)) (flows : s.Flowing) :
    exec (.coreTestStart fn core) s = .next (if bitOf (s.get FT_CORE_ADM) core || !(s.page (0x100 + 16 * core)).quiesced
      || (List.range 16).any (fun c => s.ctxActive core c != 0 || s.ctxSaved core c != 0) || s.work.testing.contains core then s.refuseWrite fn (CORE_TEST_START core).addr 1
      else testStarted s core) := by
  show execCoreTestStart fn core s = _
  unfold execCoreTestStart
  rw [command_runs reach flows]
  split <;> rfl

/-- R566, R570. The outcome of a self-test is recorded: the stores read zero, the arrays and the pass bit follow it. -/
def testRecorded (s : State) (core : Nat) (r : CoreTest) : State :=
  ((((({ s with work := { s.work with testing := s.work.testing.filter (· != core) }, power := { s.power with tests := Map.insert s.power.tests (s.physSlot core) r } }.zeroStores
    core).clearHolds core).testColumns core r.columns).flag (CORE_TEST_DONE core) true).flag (CORE_TEST_PASS core) (testPasses r)).setSlotPass core (testPasses r)

/-- R570. A self-test has ended; a core that failed is reported. -/
def testEnded (s : State) (core : Nat) (r : CoreTest) : State :=
  (if testPasses r then testRecorded s core r else (testRecorded s core r).fault 5 .faulted (s.coreHolder core) core 0 0 0).raise (0x100 + 16 * core) 1

theorem exec_coreTestDone {s : State} {core : Nat} (awake : s.Awake (0x100 + 16 * core)) (runs : core ∈ s.work.testing) (r : CoreTest) :
    exec (.coreTestDone core r) s = .next (testEnded s core r) := by
  show execCoreTestDone core r s = _
  unfold execCoreTestDone
  rw [event_awake awake, if_neg (by simp [runs])]
  rfl

theorem testRecorded_good (s : State) (core : Nat) (r : CoreTest) :
    (testRecorded s core r).work = { s.work with testing := s.work.testing.filter (· != core) } ∧ (testRecorded s core r).mem = (s.zeroStores core).mem := by
  let begun : State := ({ s with work := { s.work with testing := s.work.testing.filter (· != core) }, power := { s.power with tests := Map.insert s.power.tests (s.physSlot core) r } } :
    State).zeroStores core
  have good : Good ⟨begun.pending, begun, fun x => x != .regs⟩ (testRecorded s core r) := by
    have held := State_clearHolds_good core (good_self begun fun x => x != .regs) rfl
    have columns := State_testColumns_good core r.columns held rfl
    exact State_setSlotPass_good core (testPasses r) (State_flag_good _ _ (State_flag_good _ _ columns rfl) rfl) rfl
  exact ⟨good.same .work rfl, mem_of_parts (good.same .ws rfl) (good.same .act rfl) (good.same .hbm rfl) (good.same .caches rfl) (good.same .mem rfl)⟩

theorem testRecorded_shows {s : State} {core : Nat} (slot : s.physSlot core < 18) (r : CoreTest) : (testRecorded s core r).on (CORE_TEST_DONE core) = true ∧
    (testRecorded s core r).on (CORE_TEST_PASS core) = testPasses r ∧ bitOf ((testRecorded s core r).get FT_SLOT_PASS) (s.physSlot core) = testPasses r := by
  obtain ⟨donePass, doneSlot, passSlot⟩ := coreTest_keys core
  let begun : State := ({ s with work := { s.work with testing := s.work.testing.filter (· != core) }, power := { s.power with tests := Map.insert s.power.tests (s.physSlot core) r } } :
    State).zeroStores core
  let tested := (((begun.clearHolds core).testColumns core r.columns).flag (CORE_TEST_DONE core) true).flag (CORE_TEST_PASS core) (testPasses r)
  have regs : RegsAt coreWord s tested := by
    have columns := testColumns_regs (clearHolds_regs ((RegsAt.refl coreWord s).of_regs (u := begun) rfl) core) core r.columns
    exact (columns.set ⟨by simp [CORE_TEST_DONE], by simp only [coreWord, CORE_TEST_DONE]; omega⟩ _).set ⟨by simp [CORE_TEST_PASS], by simp only [coreWord, CORE_TEST_PASS]; omega⟩ _
  have ends : testRecorded s core r = tested.setSlotPass core (testPasses r) := rfl
  have kept {f : Field} (other : f.key ≠ FT_SLOT_PASS.key) : (testRecorded s core r).on f = tested.on f := by
    rw [ends]
    unfold State.on State.setSlotPass
    rw [State.get_set_ne other]
  refine ⟨?_, ?_, ?_⟩
  · rw [kept doneSlot, on_flag_ne donePass]
    exact State.on_flag_self rfl _ _
  · rw [kept passSlot]
    exact State.on_flag_self rfl _ _
  · rw [ends, ← physSlot_of_regs regs core]
    exact setSlotPass_bit (by rw [physSlot_of_regs regs core]; exact slot) _

/-- R590. A fault writes of the registers the count of those that found the log full alone. -/
theorem fault_get_ne {f : Field} (other : f.key ≠ FT_LOST.key) (s : State) (cls : Nat) (st : Status) (fn lcore array port index : Nat) :
    (s.fault cls st fn lcore array port index).get f = s.get f := by
  unfold State.fault State.logFault
  split
  · exact State.raise_get _ _ _ _
  · exact (State.raise_get _ _ _ _).trans (State.get_add_ne other _ _)

/-- R570. The end of a self-test. -/
theorem testEnded_shows {s : State} {core : Nat} (slot : s.physSlot core < 18) (r : CoreTest) : core ∉ (testEnded s core r).work.testing ∧
    (testEnded s core r).on (CORE_TEST_DONE core) = true ∧ (testEnded s core r).on (CORE_TEST_PASS core) = testPasses r ∧
    bitOf ((testEnded s core r).get FT_SLOT_PASS) (s.physSlot core) = testPasses r ∧ (testEnded s core r).mem = (s.zeroStores core).mem ∧
    (testEnded s core r).shows 0 (0x100 + 16 * core) 1 = true := by
  obtain ⟨work, mem⟩ := testRecorded_good s core r
  obtain ⟨done, pass, bit⟩ := testRecorded_shows slot r
  have lost (n : Nat) : (CORE_TEST_DONE n).key ≠ FT_LOST.key ∧ (CORE_TEST_PASS n).key ≠ FT_LOST.key := by
    have key : FT_LOST.key = 0x700050 * 32 := rfl
    rw [key]
    simp only [Field.key, CORE_TEST_DONE, CORE_TEST_PASS]
    omega
  let reported := if testPasses r then testRecorded s core r else (testRecorded s core r).fault 5 .faulted (s.coreHolder core) core 0 0 0
  have get {f : Field} (other : f.key ≠ FT_LOST.key) : reported.get f = (testRecorded s core r).get f :=
    prop_ite (P := fun t => t.get f = (testRecorded s core r).get f) rfl (fault_get_ne other _ _ _ _ _ _ _ _)
  have keptMem : reported.mem = (testRecorded s core r).mem := prop_ite (P := fun t => t.mem = (testRecorded s core r).mem) rfl (fault_mem _ _ _ _ _ _ _ _)
  have keptWork : reported.work = (testRecorded s core r).work := prop_ite (P := fun t => t.work = (testRecorded s core r).work) rfl
    ((State_fault_good _ _ _ _ _ _ _ (good_self _ (· == .work)) rfl rfl rfl rfl).same .work rfl)
  have ends : testEnded s core r = reported.raise (0x100 + 16 * core) 1 := rfl
  rw [ends]
  refine ⟨?_, ?_, ?_, ?_, ?_, State.raise_shows _ _ _⟩
  · rw [State.raise_work, keptWork, work]
    simp
  · rw [State.raise_on, State.on, get (lost core).1]
    exact done
  · rw [State.raise_on, State.on, get (lost core).2]
    exact pass
  · rw [State.raise_get, get (by decide)]
    exact bit
  · rw [State.raise_mem, keptMem, mem]

/-! ### The reset (R549) -/

theorem zeroStores_empty (s : State) (n i : Nat) : Map.find (s.zeroStores n).mem.ws (n * 2 ^ 25 + i % 2 ^ 25) = none ∧ Map.find (s.zeroStores n).mem.act (n * 2 ^ 23 + i % 2 ^ 23) = none := by
  have own (k : Nat) : (n * 2 ^ k + i % 2 ^ k) / 2 ^ k = n := by
    rw [Nat.mul_comm, Nat.mul_add_div (Nat.two_pow_pos k), Nat.div_eq_of_lt (Nat.mod_lt i (Nat.two_pow_pos k)), Nat.add_zero]
  constructor
  · exact (find_drop (fun k => k / 2 ^ 25 == n) _ _).trans (if_pos (by rw [own, beq_self_eq_true]))
  · exact (find_drop (fun k => k / 2 ^ 23 == n) _ _).trans (if_pos (by rw [own, beq_self_eq_true]))

/-- R549. A core that is reset has no task and no image, and its stores read zero. -/
theorem coreReset_empty (s : State) (n : Nat) : (∀ i, i < 4 → (s.coreReset n).running n i = none) ∧ (∀ k, k / 16 = n → Map.find (s.coreReset n).work.images k = none) ∧
    (∀ i, Map.find (s.coreReset n).mem.ws (n * 2 ^ 25 + i % 2 ^ 25) = none) := by
  let emptied := ((s.emptyCache n).coreClear n).zeroStores n
  have good : Good ⟨emptied.pending, emptied, fun x => x == .work || x == .ws⟩ (s.coreReset n) :=
    State_selectNone_good n (State_resetCorePages_good n false (good_self emptied fun x => x == .work || x == .ws) rfl rfl rfl) rfl
  have work : (s.coreReset n).work = emptied.work := good.same .work rfl
  have ws : (s.coreReset n).mem.ws = emptied.mem.ws := good.same .ws rfl
  refine ⟨fun i hi => ?_, fun k hk => ?_, fun i => ?_⟩
  · have own : (n * 4 + i) / 4 = n := by omega
    unfold State.running
    rw [work]
    exact (find_drop (fun k => k / 4 == n) _ _).trans (by rw [own, beq_self_eq_true, if_pos rfl])
  · rw [work]
    exact (find_drop (fun k => k / 16 == n) _ _).trans (by rw [hk, beq_self_eq_true, if_pos rfl])
  · rw [ws]
    exact (zeroStores_empty _ n i).1

/-- R333, R549. A core that is reset selects no weight set. -/
theorem selectNone_shows (s : State) (n : Nat) : (s.selectNone n).get (W_CTX_SET n 0) = 0xFFFFFFFF ∧ (s.selectNone n).get (W_CTX_SET n 1) = 0xFFFFFFFF := by
  have apart : (W_CTX_SET n 0).key ≠ (W_CTX_SET n 1).key := by
    simp only [Field.key, W_CTX_SET]
    omega
  unfold State.selectNone
  refine ⟨?_, State.get_set_self _ _ _⟩
  rw [State.get_set_ne apart]
  exact State.get_set_self _ _ _

/-! ### The obligation -/

/-- Settles O13: each command by its conditions, what an end and a reset leave by the rules above. -/
theorem coresTestAndReset : Obligations.CoresTestAndReset := by
  refine ⟨?starts, ?refused, ?ends, ?resets, ?empty⟩
  case starts =>
    intro fn core s reach flows _ withdrawn quiesced slots saves untested
    have idle : (List.range 16).any (fun c => s.ctxActive core c != 0 || s.ctxSaved core c != 0) = false := by
      simp [contexts_idle slots saves]
    refine .of_next (t := testStarted s core) ((exec_coreTestStart reach flows).trans (by simp [withdrawn, quiesced, untested, idle])) ⟨?_, ?_, State.on_flag_self rfl _ _, rfl⟩
    · exact List.mem_append_right _ List.mem_cons_self
    · unfold testStarted
      rw [on_flag_ne (coreTest_keys core).1]
      exact State.on_flag_self rfl _ _
  case refused =>
    intro fn core s reach flows admitted
    exact (exec_coreTestStart reach flows).trans (by simp [admitted])
  case ends =>
    intro core r s awake _ slot runs
    obtain ⟨ended, done, pass, bit, mem, event⟩ := testEnded_shows slot r
    refine .of_next (exec_coreTestDone awake runs r) ⟨ended, done, pass, bit, fun i => ?_, fun i => ?_, event⟩
    · rw [mem]
      exact (zeroStores_empty s core i).1
    · rw [mem]
      exact (zeroStores_empty s core i).2
  case resets =>
    intro fn mask s reach flows unquiesced
    obtain ⟨flowing, first⟩ := flows
    show execCoreRst fn mask s = _
    unfold execCoreRst
    rw [mmio_reaches reach, if_neg (by simp [flowing, unquiesced, State.behind, first])]
  case empty =>
    intro n s _
    obtain ⟨idle, images, stores⟩ := coreReset_empty s n
    obtain ⟨low, high⟩ := selectNone_shows ((((s.emptyCache n).coreClear n).zeroStores n).resetCorePages n false) n
    exact ⟨idle, images, stores, low, high⟩

end Sys2Proof.Proofs

/-!
The repair commands of the FAULT page (O49; R565, R569, R571 to R573, R589, R590): the rule of every command, then each command by what it checks and what it writes.
-/

namespace Sys2Proof.Proofs
open Sys2Proof.Machine Sys2Proof.Laws Sys2Proof.Claims

/-! ### The rules of every command (R51, R589) -/

section
variable {s : State} {fn word : Nat} {c : Instr} {check : State → Status}

theorem ftCmd_runs (opens : RepairOpen s fn) (allowed : check s = .ok) (body : State → State) : ftCmd fn word c s check body = .next (body s) := by
  obtain ⟨reach, unquiesced, first, idle⟩ := opens
  unfold ftCmd
  rw [mmio_reaches reach, if_neg (by simp [unquiesced, first]), if_neg (by simp [idle])]
  simp only [allowed]

theorem ftCmd_refused (opens : RepairOpen s fn) (refused : check s ≠ .ok) (body : State → State) :
    ftCmd fn word c s check body = .next ((s.set FT_STAT_RESULT (check s).code).capture 0x700 (check s) 0x70 word) := by
  obtain ⟨reach, unquiesced, first, idle⟩ := opens
  unfold ftCmd
  rw [mmio_reaches reach, if_neg (by simp [unquiesced, first]), if_neg (by simp [idle])]
  generalize check s = st at refused
  cases st
  case ok => exact absurd rfl refused
  all_goals rfl

end

theorem ftEnds_ok (s : State) : s.ftEnds .ok = ((s.flag FT_STAT_BUSY false).set FT_STAT_RESULT 0).raise 0x700 3 := rfl

theorem ftEnds_shows (s : State) : (s.ftEnds .ok).get FT_STAT_RESULT = 0 ∧ (s.ftEnds .ok).on FT_STAT_BUSY = false ∧ (s.ftEnds .ok).shows 0 0x700 3 = true := by
  rw [ftEnds_ok]
  refine ⟨?_, ?_, State.raise_shows _ _ _⟩
  · rw [State.raise_get]
    exact State.get_set_self _ _ _
  · rw [State.raise_on, State.on, State.get_set_ne (by decide)]
    exact State.on_flag_self rfl _ _

theorem ftEnds_get_ne {f : Field} (result : f.key ≠ FT_STAT_RESULT.key) (busy : f.key ≠ FT_STAT_BUSY.key) (s : State) : (s.ftEnds .ok).get f = s.get f := by
  rw [ftEnds_ok, State.raise_get, State.get_set_ne result, State.get_flag_ne busy]

theorem ftEnds_onlyRegs {fs : List Field} {s t : State} (h : OnlyRegs fs s t) (busy : FT_STAT_BUSY ∈ fs) (result : FT_STAT_RESULT ∈ fs) : OnlyRegs fs s (t.ftEnds .ok) := by
  rw [ftEnds_ok]
  exact ((onlyRegs_flag h busy false).set result 0).of_regs (State.raise_regs _ _ _)

/-! ### The admission of a core (R569, R573) -/

theorem withdrawn_admission {s : State} {core i : Nat} (bit : i < 16) :
    bitOf ((s.set FT_CORE_ADM (s.get FT_CORE_ADM - (if s.admitted core then 2 ^ core else 0))).get FT_CORE_ADM) i = (bitOf (s.get FT_CORE_ADM) i && decide (core ≠ i)) := by
  rw [bitOf_get_set (show i < FT_CORE_ADM.width from bit), ← bitOf_cleared]
  unfold State.admitted
  split <;> rfl

theorem admitted_admission {s : State} {core i : Nat} (bit : i < 16) :
    bitOf ((s.set FT_CORE_ADM (s.get FT_CORE_ADM ||| 2 ^ core)).get FT_CORE_ADM) i = (bitOf (s.get FT_CORE_ADM) i || decide (core = i)) := by
  rw [bitOf_get_set (show i < FT_CORE_ADM.width from bit), bitOf_marked]

/-! ### A core's valid bit (R332, R571) -/

theorem setHolds_bit {s : State} {set copy core : Nat} (bit : core < 16) (b : Bool) : bitOf ((s.setHolds set copy core b).get (s.validField set copy)) core = b := by
  have width : core < (s.validField set copy).width := by
    rcases validField_either s set copy with e | e <;> rw [e] <;> exact bit
  unfold State.setHolds
  rw [bitOf_get_set width]
  exact bitOf_replaced _ _ _

/-- No valid mask lies on the FAULT page. -/
theorem validField_apart {s : State} {set copy : Nat} (within : set < 8) :
    (s.validField set copy).key ≠ FT_STAT_BUSY.key ∧ (s.validField set copy).key ≠ FT_STAT_RESULT.key := by
  have busy : FT_STAT_BUSY.key = 0x700074 * 32 := rfl
  have result : FT_STAT_RESULT.key = 0x700074 * 32 + 8 := rfl
  rw [busy, result]
  rcases validField_either s set copy with e | e <;> rw [e] <;> simp only [Field.key, WSET_VALID0, WSET_VALID1] <;> omega

/-! ### The fault log (R589, R590) -/

/-- R589. A fault's entry is popped, its unit and time shown. -/
def faultPopped (s : State) (e : FaultEntry) (es : List FaultEntry) : State :=
  let t := { s with readData := e.cls + 256 * e.status + 2 ^ 16 * e.fn + 2 ^ 31, faultLog := es }
  let u := ((((t.set FT_UNIT_LCORE e.lcore).set FT_UNIT_PSLOT e.pslot).set FT_UNIT_ARRAY e.array).set FT_UNIT_PORT e.port).set FT_UNIT_INDEX e.index
  (u.set FT_TIME_NS e.time.ns).set FT_TIME_SEC e.time.sec

theorem exec_ftPop {s : State} {fn : Nat} {e : FaultEntry} {es : List FaultEntry} (reach : s.Reaches fn 0x700) (log : s.faultLog = e :: es) :
    exec (.ftPop fn) s = .next (faultPopped s e es) := by
  show execFtPop fn s = _
  unfold execFtPop
  rw [mmioRead_reaches reach, log]
  rfl

theorem faultPopped_shows (s : State) (e : FaultEntry) (es : List FaultEntry) : (faultPopped s e es).get FT_UNIT_LCORE = e.lcore % 16 ∧
    (faultPopped s e es).get FT_UNIT_PSLOT = e.pslot % 32 ∧ (faultPopped s e es).get FT_UNIT_ARRAY = e.array % 4 ∧ (faultPopped s e es).get FT_UNIT_PORT = e.port % 8 ∧
    (faultPopped s e es).get FT_UNIT_INDEX = e.index % 512 ∧ (faultPopped s e es).get FT_TIME_NS = e.time.ns % 2 ^ 30 ∧ (faultPopped s e es).get FT_TIME_SEC = e.time.sec % 2 ^ 32 := by
  unfold faultPopped
  refine ⟨?_, ?_, ?_, ?_, ?_, ?_, State.get_set_self _ _ _⟩
  · iterate 6 rw [State.get_set_ne (by decide)]
    exact State.get_set_self _ _ _
  · iterate 5 rw [State.get_set_ne (by decide)]
    exact State.get_set_self _ _ _
  · iterate 4 rw [State.get_set_ne (by decide)]
    exact State.get_set_self _ _ _
  · iterate 3 rw [State.get_set_ne (by decide)]
    exact State.get_set_self _ _ _
  · iterate 2 rw [State.get_set_ne (by decide)]
    exact State.get_set_self _ _ _
  · rw [State.get_set_ne (by decide)]
    exact State.get_set_self _ _ _

theorem logFault_room {s : State} (room : s.faultLog.length < 64) (e : FaultEntry) : (s.logFault e).faultLog = s.faultLog ++ [e] ∧ (s.logFault e).shows 0 0x700 0 = true := by
  unfold State.logFault
  rw [if_pos room]
  exact ⟨State.raise_only _ _ _ .faultLog (by decide), State.raise_shows _ _ _⟩

theorem logFault_full {s : State} (full : 64 ≤ s.faultLog.length) (e : FaultEntry) : (s.logFault e).faultLog = s.faultLog ∧
    (s.logFault e).get FT_LOST = (s.get FT_LOST + 1) % 2 ^ 32 ∧ (s.logFault e).shows 0 0x700 2 = true := by
  unfold State.logFault
  rw [if_neg (by omega)]
  refine ⟨State.raise_only _ _ _ .faultLog (by decide), ?_, State.raise_shows _ _ _⟩
  rw [State.raise_get]
  exact State.get_add_self _ _ _

/-! ### The ends of a refill and of an array test (R565, R571) -/

theorem exec_refillDone {s u : State} {core set copy src ctx : Nat} {c : SetCfg} {srcs : List ReadOutcome} (job : s.power.ftJob = some (.refill core set copy src ctx))
    (flows : s.stall = false) (free : s.copyHeld core set copy src = false) (config : (s.wset set).cfg = some c) (on : s.coreOn core = true)
    (filled : ({ s with power := { s.power with ftJob := none } }).refillCore core set copy src ctx c srcs = (u, .ok)) :
    exec (.refillDone srcs) s = .next ((u.setHolds set copy core true).ftEnds .ok) := by
  show execRefillDone srcs s = _
  unfold execRefillDone
  rw [job]
  show (if s.stall || s.copyHeld core set copy src then _ else _) = _
  rw [if_neg (by simp [flows, free])]
  extract_lets unit taken
  have config' : (taken.wset set).cfg = some c := config
  have on' : taken.coreOn core = true := on
  have filled' : taken.refillCore core set copy src ctx c srcs = (u, .ok) := filled
  simp only [config', on', filled', Bool.not_true, Bool.false_eq_true, if_false]

/-- R565. An array test has ended: its failing columns show. -/
def arrayTested (s : State) (columns : Nat) : State :=
  ((({ s with power := { s.power with ftJob := none } }.set (FT_COLRES 0) columns).set (FT_COLRES 1) (columns / 2 ^ 32)).set (FT_COLRES 2) (columns / 2 ^ 64 % 2)).ftEnds .ok

theorem exec_arrayTestDone {s : State} {core a : Nat} (job : s.power.ftJob = some (.arrayTest core a)) (flows : s.stall = false) (on : s.coreOn core = true) (columns : Nat) :
    exec (.arrayTestDone columns) s = .next (arrayTested s columns) := by
  show execArrayTestDone columns s = _
  unfold execArrayTestDone
  rw [job]
  show (if s.stall then _ else if !s.coreOn core then _ else _) = _
  rw [if_neg (by simp [flows]), if_neg (by simp [on])]
  rfl

theorem arrayTested_shows (s : State) (columns : Nat) : (arrayTested s columns).get (FT_COLRES 0) = columns % 2 ^ 32 ∧
    (arrayTested s columns).get (FT_COLRES 1) = columns / 2 ^ 32 % 2 ^ 32 ∧ (arrayTested s columns).get (FT_COLRES 2) = columns / 2 ^ 64 % 2 ∧ (arrayTested s columns).power.ftJob = none := by
  unfold arrayTested
  refine ⟨?_, ?_, ?_, ?_⟩
  · rw [ftEnds_get_ne (by decide) (by decide), State.get_set_ne (by decide), State.get_set_ne (by decide)]
    exact State.get_set_self _ _ _
  · rw [ftEnds_get_ne (by decide) (by decide), State.get_set_ne (by decide)]
    exact State.get_set_self _ _ _
  · rw [ftEnds_get_ne (by decide) (by decide), State.get_set_self]
    show columns / 2 ^ 64 % 2 % 2 ^ 32 = _
    omega
  · rw [ftEnds_ok]
    exact congrArg Power.ftJob (State.raise_only _ _ _ .power (by decide))

/-! ### The obligation -/

/-- Settles O49: each command by `ftCmd_runs` and `ftCmd_refused`, its end by `ftEnds_shows`. -/
theorem repairCommandsOfTheFaultPage : Obligations.RepairCommandsOfTheFaultPage := by
  refine ⟨?withdraw, ?refill, ?refillRefused, ?refilled, ?sync, ?syncRefused, ?admits, ?admitRefused, ?test, ?tested, ?pop, ?logs⟩
  case withdraw =>
    intro fn core s opens within
    have run : execWithdraw fn core s = .next ((s.set FT_CORE_ADM (s.get FT_CORE_ADM - (if s.admitted core then 2 ^ core else 0))).ftEnds .ok) := by
      unfold execWithdraw
      exact ftCmd_runs opens rfl _
    obtain ⟨result, busy, event⟩ := ftEnds_shows (s.set FT_CORE_ADM (s.get FT_CORE_ADM - (if s.admitted core then 2 ^ core else 0)))
    have kept (t : State) : (t.ftEnds .ok).get FT_CORE_ADM = t.get FT_CORE_ADM := ftEnds_get_ne (by decide) (by decide) t
    refine .of_next run ⟨?_, fun i hi other => ?_, result, busy, event, ftEnds_onlyRegs (.set (.refl _ s) (by simp) _) (by simp) (by simp)⟩
    · rw [kept, withdrawn_admission within]
      simp
    · rw [kept, withdrawn_admission hi]
      simp [other.symm]
  case refill =>
    intro fn core set copy src ctx s opens within hset _ allowed
    obtain ⟨busy, _⟩ := validField_apart (s := s) (copy := copy) hset
    have run : execRefill fn core set copy src ctx s = .next ((s.setHolds set copy core false).ftStart (.refill core set copy src ctx)) := by
      unfold execRefill
      exact ftCmd_runs opens allowed _
    have holds : OnlyRegs [FT_STAT_BUSY, s.validField set copy] s (s.setHolds set copy core false) := .set (.refl _ s) (by simp) _
    refine .of_next run ⟨State.on_flag_self rfl _ _, rfl, ?_, onlyRegs_flag (.of_regs holds rfl) (by simp) true⟩
    exact (congrArg (bitOf · core) (State.get_flag_ne busy _ true)).trans (setHolds_bit within false)
  case refillRefused =>
    intro fn core set copy src ctx s opens _ refused
    show execRefill fn core set copy src ctx s = _
    unfold execRefill
    exact ftCmd_refused (check := (·.refillStatus core set copy src ctx)) opens refused _
  case refilled =>
    intro core set copy src ctx c srcs s u job flows free config on filled within hset _
    obtain ⟨busy, result⟩ := validField_apart (s := u) (copy := copy) hset
    obtain ⟨_, idle, event⟩ := ftEnds_shows (u.setHolds set copy core true)
    refine ⟨exec_refillDone job flows free config on filled, ?_, idle, event⟩
    rw [ftEnds_get_ne result busy]
    exact setHolds_bit within true
  case sync =>
    intro fn core s opens within current on
    have run : execEpochSync fn core s = .next ((s.set (CORE_EPOCH core) (s.get CHIP_EPOCH)).ftEnds .ok) := by
      unfold execEpochSync
      exact ftCmd_runs opens (by simp [current, on]) _
    have apart : (CORE_EPOCH core).key ≠ FT_STAT_RESULT.key ∧ (CORE_EPOCH core).key ≠ FT_STAT_BUSY.key := by
      have busy : FT_STAT_BUSY.key = 0x700074 * 32 := rfl
      have result : FT_STAT_RESULT.key = 0x700074 * 32 + 8 := rfl
      rw [busy, result]
      simp only [Field.key, CORE_EPOCH]
      omega
    obtain ⟨result, _, event⟩ := ftEnds_shows (s.set (CORE_EPOCH core) (s.get CHIP_EPOCH))
    refine .of_next run ⟨?_, result, event, ftEnds_onlyRegs (.set (.refl _ s) (by simp) _) (by simp) (by simp)⟩
    rw [ftEnds_get_ne apart.1 apart.2]
    exact State.get_set_self _ _ _
  case syncRefused =>
    intro fn core s opens _ stale
    have refused : (if !s.holdsCurrent core then Status.badParam else if !s.coreOn core then .aborted else .ok) = .badParam := by simp [stale]
    have run := ftCmd_refused (word := 3 + 256 * core) (c := .epochSync fn core) (check := fun s => if !s.holdsCurrent core then .badParam else if !s.coreOn core then .aborted else .ok)
      opens (by rw [refused]; decide) (fun s => (s.set (CORE_EPOCH core) (s.get CHIP_EPOCH)).ftEnds .ok)
    rw [refused] at run
    exact run
  case admits =>
    intro fn core s opens within sound pass on epoch
    have run : execAdmitCore fn core s = .next ((s.set FT_CORE_ADM (s.get FT_CORE_ADM ||| 2 ^ core)).ftEnds .ok) := by
      unfold execAdmitCore
      exact ftCmd_runs opens (by simp [State.admitStatus, sound, pass, on, epoch]) _
    obtain ⟨result, _, event⟩ := ftEnds_shows (s.set FT_CORE_ADM (s.get FT_CORE_ADM ||| 2 ^ core))
    have kept (t : State) : (t.ftEnds .ok).get FT_CORE_ADM = t.get FT_CORE_ADM := ftEnds_get_ne (by decide) (by decide) t
    refine .of_next run ⟨?_, fun i hi other => ?_, result, event, ftEnds_onlyRegs (.set (.refl _ s) (by simp) _) (by simp) (by simp)⟩
    · rw [kept, admitted_admission within]
      simp
    · rw [kept, admitted_admission hi]
      simp [other.symm]
  case admitRefused =>
    intro fn core s opens _ bad
    have refused : s.admitStatus core = .badParam := by
      unfold State.admitStatus
      rw [if_pos (by simpa using bad)]
    have run := ftCmd_refused (word := 4 + 256 * core) (c := .admitCore fn core) (check := (·.admitStatus core)) opens (by rw [refused]; decide)
      (fun s => (s.set FT_CORE_ADM (s.get FT_CORE_ADM ||| 2 ^ core)).ftEnds .ok)
    rw [refused] at run
    exact run
  case test =>
    intro fn core a s opens _ _ on quiesced
    show execArrayTest fn core a s = _
    unfold execArrayTest
    exact ftCmd_runs opens (by simp [on, quiesced]) _
  case tested =>
    intro core a columns s job flows on
    obtain ⟨low, high, spare, ended⟩ := arrayTested_shows s columns
    obtain ⟨result, busy, event⟩ := ftEnds_shows ((({ s with power := { s.power with ftJob := none } }.set (FT_COLRES 0) columns).set (FT_COLRES 1) (columns / 2 ^ 32)).set (FT_COLRES 2)
      (columns / 2 ^ 64 % 2))
    have shown : OnlyRegs [FT_COLRES 0, FT_COLRES 1, FT_COLRES 2, FT_STAT_RESULT, FT_STAT_BUSY] s ({ s with power := { s.power with ftJob := none } }) := .of_regs (.refl _ s) rfl
    exact .of_next (exec_arrayTestDone job flows on columns) ⟨low, high, spare, ended, result, busy, event,
      ftEnds_onlyRegs (((shown.set (by simp) _).set (by simp) _).set (by simp) _) (by simp) (by simp)⟩
  case pop =>
    intro fn e es s reach log
    exact .of_next (exec_ftPop reach log) ⟨rfl, rfl, faultPopped_shows s e es⟩
  case logs => exact fun e s => ⟨fun room => logFault_room room e, fun full => logFault_full full e⟩

end Sys2Proof.Proofs

/-!
The unlock and the fuse-counted settings (O50; R574, R577 to R583, R586, R588): the rule of a write of FU_CMD, the nibbles of a map, the end of a burn.
-/

namespace Sys2Proof.Proofs
open Sys2Proof.Machine Sys2Proof.Laws Sys2Proof.Claims

/-! ### The nibbles of a map (R577) -/

/-- A nibble of a word within 32 bits survives the register's width. -/
theorem bitsOf_mod_word {lane : Nat} (within : lane < 8) (w : Nat) : bitsOf (w % 2 ^ 32) (4 * lane) 4 = bitsOf w (4 * lane) 4 := by
  unfold bitsOf
  rw [show (2 : Nat) ^ 32 = 2 ^ (4 * lane) * 2 ^ (32 - 4 * lane) by rw [← pow_add]; congr 1; omega, Nat.mod_mul_right_div_self]
  exact Nat.mod_mod_of_dvd _ (pow_dvd_pow 2 (by omega))

theorem bitsOf_withNibble (w i : Nat) {v : Nat} (nibble : v < 16) : bitsOf (withNibble w i v) (4 * i) 4 = v := by
  unfold withNibble bitsOf
  rw [show (16 : Nat) ^ i = 2 ^ (4 * i) from (Nat.pow_mul 2 4 i).symm, Nat.mod_eq_of_lt nibble]
  have pos : 0 < 2 ^ (4 * i) := Nat.two_pow_pos _
  generalize 2 ^ (4 * i) = k at pos
  have split : w - w / k % 2 ^ 4 * k + v * k = k * (16 * (w / k / 16) + v) + w % k := by
    have whole := Nat.div_add_mod w k
    have high := Nat.div_add_mod (w / k) 16
    have parts : w = w / k % 16 * k + (k * (16 * (w / k / 16)) + w % k) := by
      conv_lhs => rw [← whole, ← high]
      ring
    rw [show (2 : Nat) ^ 4 = 16 from rfl, Nat.sub_eq_of_eq_add' parts]
    ring
  rw [split, Nat.mul_add_div pos, Nat.div_eq_of_lt (Nat.mod_lt w pos)]
  omega

/-! ### A write of FU_CMD (R578 to R581) -/

/-- R580, R581. The log entry of a burn that begins. -/
def burnEntry (s : State) (op a0 a1 v old left : Nat) : FuseEntry :=
  { op := op, arg0 := a0, arg1 := a1, value := v, old := old, remaining := left - 1, committed := false, time := s.now }

/-- R580, R581. A burn's entry is in the log. -/
def burnLogged (s : State) (op a0 a1 v old left : Nat) : State :=
  { s with fuses := { s.fuses with log := s.fuses.log ++ [burnEntry s op a0 a1 v old left], burning := true } }

theorem burn_fuses (s : State) (op a0 a1 v old left : Nat) : (s.burn op a0 a1 v old left).fuses = (burnLogged s op a0 a1 v old left).fuses := by
  unfold State.burn State.showCounts
  simp only [State.flag_fuses, State.set_fuses]
  rfl

/-- R580, R588. The registers that show a burn that begins. -/
def burnFields : List Field :=
  [FU_REMAIN_CORE, FU_REMAIN_RKE, FU_REMAIN_PROFILE, FU_LANE_REMAIN, FU_LOG_CNT, FU_CMD_OP, FU_CMD_ARG0, FU_CMD_ARG1, FU_CMD_VALUE, FU_STAT_BUSY]

theorem showCounts_onlyRegs {s t : State} (h : OnlyRegs burnFields s t) : OnlyRegs burnFields s t.showCounts := by
  unfold State.showCounts
  dsimp only
  iterate 5 refine OnlyRegs.set ?_ (by simp [burnFields]) _
  exact h

theorem burn_onlyRegs (s : State) (op a0 a1 v old left : Nat) : OnlyRegs burnFields s (s.burn op a0 a1 v old left) := by
  have counted : OnlyRegs burnFields s (burnLogged s op a0 a1 v old left).showCounts := showCounts_onlyRegs (.of_regs (.refl _ s) rfl)
  have begun : s.burn op a0 a1 v old left = (((((burnLogged s op a0 a1 v old left).showCounts.set FU_CMD_OP op).set FU_CMD_ARG0 a0).set FU_CMD_ARG1 a1).set FU_CMD_VALUE v).flag
    FU_STAT_BUSY true := rfl
  rw [begun]
  generalize (burnLogged s op a0 a1 v old left).showCounts = t at counted
  exact onlyRegs_flag ((((counted.set (by simp [burnFields]) op).set (by simp [burnFields]) a0).set (by simp [burnFields]) a1).set (by simp [burnFields]) v) (by simp [burnFields]) true

theorem burn_begun (s : State) (op a0 a1 v old left : Nat) : BurnBegun s op a0 a1 v old left ((s.unlocked false).burn op a0 a1 v old left) := by
  have fuses := burn_fuses (s.unlocked false) op a0 a1 v old left
  exact ⟨congrArg Fuses.log fuses, congrArg Fuses.burning fuses, congrArg Fuses.unlocked fuses, State.on_flag_self rfl _ _⟩

theorem burnBegun_of_fuses {s t u : State} {op a0 a1 v old left : Nat} (begun : BurnBegun s op a0 a1 v old left t) (fuses : u.fuses = t.fuses)
    (busy : u.on FU_STAT_BUSY = t.on FU_STAT_BUSY) : BurnBegun s op a0 a1 v old left u := by
  unfold BurnBegun
  rw [fuses, busy]
  exact begun

section
variable {s : State} {fn op a0 a1 v : Nat} {c : Instr} {check : State → Status} {old left : State → Nat}

theorem fuCmd_burns {o l : Nat} (opens : FuseOpen s fn) (allowed : check (s.unlocked false) = .ok) (before : old (s.unlocked false) = o) (remain : left (s.unlocked false) = l)
    (counted : l ≠ 0) (live : State → State) : fuCmd fn op a0 a1 v c s check old left live = .next (live ((s.unlocked false).burn op a0 a1 v o l)) := by
  obtain ⟨reach, first, unquiesced, unlocked, idle⟩ := opens
  have idle' : (s.unlocked false).on FU_STAT_BUSY = false := idle
  unfold fuCmd
  rw [mmio_reaches reach]
  simp only [first, unquiesced, unlocked, idle', allowed, before, remain, if_neg counted, Bool.or_self, Bool.false_and, Bool.not_true, Bool.false_eq_true, if_false]

theorem fuCmd_begins {o l : Nat} (opens : FuseOpen s fn) (allowed : check (s.unlocked false) = .ok) (before : old (s.unlocked false) = o) (remain : left (s.unlocked false) = l)
    (counted : l ≠ 0) : ∃ t, fuCmd fn op a0 a1 v c s check old left id = .next t ∧ BurnBegun s op a0 a1 v o l t :=
  ⟨_, fuCmd_burns opens allowed before remain counted id, burn_begun s op a0 a1 v o l⟩

theorem fuCmd_refused (opens : FuseOpen s fn) (refused : check (s.unlocked false) ≠ .ok) (live : State → State) :
    fuCmd fn op a0 a1 v c s check old left live = .next ((s.unlocked false).fuRefused (op + 256 * a0 + 4096 * a1 + 65536 * v) (check (s.unlocked false))) := by
  obtain ⟨reach, first, unquiesced, unlocked, idle⟩ := opens
  have idle' : (s.unlocked false).on FU_STAT_BUSY = false := idle
  unfold fuCmd
  rw [mmio_reaches reach]
  simp only [first, unquiesced, unlocked, idle', Bool.or_self, Bool.false_and, Bool.not_true, Bool.false_eq_true, if_false]

theorem fuCmd_locked (reach : s.Reaches fn 3) (first : s.behind 3 = false) (locked : s.fuses.unlocked = false) (live : State → State) :
    fuCmd fn op a0 a1 v c s check old left live = .next (s.capture 3 .badParam 0xA4 (op + 256 * a0 + 4096 * a1 + 65536 * v)) := by
  unfold fuCmd
  rw [mmio_reaches reach]
  simp [first, locked]
  rfl

end

/-- R579, R588. What a refusal shows. -/
theorem fuRefused_shows {s : State} (idle : s.on FU_STAT_BUSY = false) (word : Nat) (st : Status) : (s.fuRefused word st).get FU_STAT_RESULT = st.code ∧
    ((s.fuRefused word st).page 3).errCode = st.code ∧ (s.fuRefused word st).fuses = s.fuses := by
  unfold State.fuRefused
  rw [if_neg (by simp [idle])]
  refine ⟨?_, ?_, rfl⟩
  · exact (State.get_set_self _ _ _).trans (Nat.mod_eq_of_lt (code_lt st))
  · exact congrArg Page.errCode (State.captureFn_page_self _ 0 3 _ _ _)

/-! ### The end of a burn (R580) -/

/-- R580. The fuses once the commit bit of an entry is burned. -/
def fusesBurned (s : State) (log : List FuseEntry) (e : FuseEntry) : Fuses := { s.fuses with burning := false, log := log ++ [{ e with committed := true }] }

/-- R580. A burn has ended: the commit bit of its entry is burned, its value is committed. -/
def burned (s : State) (log : List FuseEntry) (e : FuseEntry) : State := ({ s with fuses := fusesBurned s log e } : State).committed e

/-- R580. BURN_DONE has shown its result. -/
def burnShown (s : State) : State := ((s.flag FU_STAT_BUSY false).set FU_STAT_RESULT 0).raise 3 1

theorem exec_burnDone {s : State} {log : List FuseEntry} {e : FuseEntry} (burning : s.fuses.burning = true) (last : s.fuses.log = log ++ [e]) :
    exec .burnDone s = .next (burnShown (burned s log e)) := by
  show execBurnDone s = _
  unfold execBurnDone
  rw [burning, last, List.getLast?_concat, List.dropLast_concat]
  rfl

theorem burnShown_shows (s : State) : (burnShown s).on FU_STAT_BUSY = false ∧ (burnShown s).get FU_STAT_RESULT = 0 ∧ (burnShown s).shows 0 3 1 = true := by
  unfold burnShown
  refine ⟨?_, ?_, State.raise_shows _ _ _⟩
  · rw [State.raise_on, State.on, State.get_set_ne (by decide)]
    exact State.on_flag_self rfl _ _
  · rw [State.raise_get]
    exact State.get_set_self _ _ _

theorem burnShown_get_ne {f : Field} (busy : f.key ≠ FU_STAT_BUSY.key) (result : f.key ≠ FU_STAT_RESULT.key) (s : State) : (burnShown s).get f = s.get f := by
  unfold burnShown
  rw [State.raise_get, State.get_set_ne result, State.get_flag_ne busy]

theorem burnShown_onlyRegs {fs : List Field} {s t : State} (h : OnlyRegs fs s t) (busy : FU_STAT_BUSY ∈ fs) (result : FU_STAT_RESULT ∈ fs) : OnlyRegs fs s (burnShown t) := by
  unfold burnShown
  exact ((onlyRegs_flag h busy false).set result 0).of_regs (State.raise_regs _ _ _)

@[simp] theorem burnShown_fuses (s : State) : (burnShown s).fuses = s.fuses := State.raise_only _ _ _ .fuses (by decide)

/-! ### The obligation -/

/-- Settles O50: a command by `fuCmd_burns` and `fuCmd_refused`, the end of its burn by `exec_burnDone`. -/
theorem fuseCommandsAndTheirBurns : Obligations.FuseCommandsAndTheirBurns := by
  refine ⟨?unlock, ?locked, ?core, ?lane, ?epoch, ?profile, ?profileLocked, ?lock, ?debug, ?epochBurned, ?settingBurned, ?laneBurned⟩
  case unlock =>
    intro fn v s reach first
    show execFuUnlock fn v s = _
    unfold execFuUnlock
    rw [mmio_reaches reach, if_neg (by simp [first])]
    rfl
  case locked =>
    intro fn s reach first locked
    show execRkeAdvance fn s = _
    unfold execRkeAdvance
    exact fuCmd_locked reach first locked _
  case core =>
    intro fn core slot s opens _ allowed counted
    show ∃ t, execCoreRemap fn core slot s = .next t ∧ _
    unfold execCoreRemap
    exact fuCmd_begins opens allowed rfl rfl counted
  case lane =>
    intro fn port lane phys s opens allowed counted
    have live : port ≤ 7 ∧ lane ≤ 7 ∧ phys ≤ 8 := by
      unfold State.laneRemapStatus at allowed
      simp only [ite_eq_right_iff, reduceCtorEq, imp_false, Bool.not_eq_true, Bool.or_eq_false_iff, decide_eq_false_iff_not, not_lt] at allowed
      obtain ⟨⟨⟨⟨hport, hlane⟩, hphys⟩, _⟩, _⟩ := allowed
      exact ⟨hport, hlane, hphys⟩
    obtain ⟨hport, hlane, hphys⟩ := live
    have run := fuCmd_burns (op := 2) (a0 := port) (a1 := lane) (v := phys) (c := .laneRemap fn port lane phys) (check := (·.laneRemapStatus port lane phys))
      (old := fun s => bitsOf (s.get (FU_LANE_MAP port)) (4 * lane) 4) (left := fun s => s.fuses.laneLeft port) opens allowed rfl rfl counted
      (fun s => s.set (FU_LANE_MAP port) (withNibble (s.get (FU_LANE_MAP port)) lane phys))
    have busy : FU_STAT_BUSY.key ≠ (FU_LANE_MAP port).key := by
      have key : FU_STAT_BUSY.key = 0x30A8 * 32 := rfl
      rw [key]
      simp only [Field.key, FU_LANE_MAP]
      omega
    refine .of_next run ⟨burnBegun_of_fuses (burn_begun _ _ _ _ _ _ _) (State.set_fuses _ _ _) ?_, ?_⟩
    · rw [State.on, State.get_set_ne busy]
      rfl
    · rw [State.get_set_self]
      exact (bitsOf_mod_word (by omega) _).trans (bitsOf_withNibble _ _ (by omega))
  case epoch =>
    intro fn s opens counted
    show ∃ t, execRkeAdvance fn s = .next t ∧ _
    unfold execRkeAdvance
    exact fuCmd_begins opens rfl rfl rfl counted
  case profile =>
    intro fn v s opens open' above within counted
    have allowed : (s.unlocked false).profileStatus v = .ok := by
      show s.profileStatus v = _
      simp [State.profileStatus, open', above, within]
    show ∃ t, execProfileRaise fn v s = .next t ∧ _
    unfold execProfileRaise
    exact fuCmd_begins opens allowed rfl rfl counted
  case profileLocked =>
    intro fn v s opens locked
    have refused : (s.unlocked false).profileStatus v = .refusedCapacity := by
      show s.profileStatus v = _
      simp [State.profileStatus, locked]
    have run := fuCmd_refused (op := 4) (a0 := 0) (a1 := 0) (v := v) (c := .profileRaise fn v) (check := (·.profileStatus v)) (old := fun s => s.get FU_PROFILE_NEXT)
      (left := fun s => s.fuses.left 15 (fun e => e.op == 4)) opens (by rw [refused]; decide) id
    rw [refused] at run
    exact .of_next run (fuRefused_shows (show (s.unlocked false).on FU_STAT_BUSY = false from opens.2.2.2.2) _ _)
  case lock =>
    intro fn s opens open' counted
    have once : s.fuses.left 1 (fun e => e.op == 5) = 1 := by
      unfold Fuses.left at counted ⊢
      omega
    have left : (if (s.unlocked false).on FU_LOCKS_PROFILE then 0 else (s.unlocked false).fuses.left 1 (fun e => e.op == 5)) = 1 := by
      rw [show (s.unlocked false).on FU_LOCKS_PROFILE = false from open', if_neg (by simp)]
      exact once
    have old : (s.unlocked false).get FU_LOCKS_PROFILE = 0 := by
      show s.get FU_LOCKS_PROFILE = 0
      simpa [State.on] using open'
    show ∃ t, execProfileLock fn s = .next t ∧ _
    unfold execProfileLock
    exact fuCmd_begins opens rfl old left (by decide)
  case debug =>
    intro fn s opens counted
    have once : s.fuses.left 1 (fun e => e.op == 6) = 1 := by
      unfold Fuses.left at counted ⊢
      omega
    have run := fuCmd_burns (op := 6) (a0 := 0) (a1 := 0) (v := 0) (c := .debugLock fn) (check := fun _ => .ok) (old := fun s => s.get FU_LOCKS_DEBUG)
      (left := fun s => s.fuses.left 1 (fun e => e.op == 6)) opens rfl rfl once (by decide) (·.flag FU_LOCKS_DEBUG true)
    exact .of_next run ⟨burnBegun_of_fuses (burn_begun _ _ _ _ _ _ _) (State.flag_fuses _ _ _) (on_flag_ne (by decide) _ _), State.on_flag_self rfl _ _⟩
  case epochBurned =>
    intro e log s burning last op
    have committed : burned s log e = ({ s with fuses := { fusesBurned s log e with rkeEpoch := s.fuses.rkeEpoch + 1 } } : State).set
        FU_RKE_EPOCH (s.fuses.rkeEpoch + 1) := by
      unfold burned State.committed
      rw [if_neg (by omega), if_neg (by omega), if_pos op]
      rfl
    obtain ⟨idle, result, event⟩ := burnShown_shows (burned s log e)
    refine .of_next (exec_burnDone burning last) ⟨?_, ?_, idle, result, event, ?_⟩
    · rw [burnShown_fuses, committed]
      rfl
    · rw [burnShown_get_ne (by decide) (by decide), committed]
      exact State.get_set_self _ _ _
    · rw [committed]
      exact burnShown_onlyRegs (.set (.of_regs (.refl _ s) rfl) (by simp) _) (by simp) (by simp)
  case settingBurned =>
    intro e log s burning last op
    obtain ⟨idle, result, _⟩ := burnShown_shows (burned s log e)
    refine .of_next (exec_burnDone burning last) ?_
    rw [burnShown_fuses]
    rcases op with op | op | op
    · have fuses : (burned s log e).fuses = { fusesBurned s log e with profile := max s.fuses.profile e.value } := by
        unfold burned State.committed
        rw [if_neg (by omega), if_neg (by omega), if_neg (by omega), if_pos op]
        rfl
      rw [fuses, if_pos op]
      exact ⟨rfl, fun lock => by omega, fun debug => by omega, rfl, idle, result⟩
    · have committed : burned s log e = ({ s with fuses := { fusesBurned s log e with profileLock := true } } : State).flag
          FU_LOCKS_PROFILE true := by
        unfold burned State.committed
        rw [if_neg (by omega), if_neg (by omega), if_neg (by omega), if_neg (by omega), if_pos op]
      have shown : (burnShown (burned s log e)).on FU_LOCKS_PROFILE = true := by
        rw [State.on, burnShown_get_ne (by decide) (by decide), committed]
        exact State.on_flag_self rfl _ _
      rw [if_neg (by omega)]
      refine ⟨by rw [committed]; rfl, fun _ => ⟨by rw [committed]; rfl, shown⟩, fun debug => by omega, by rw [committed]; rfl, idle, result⟩
    · have committed : burned s log e = { s with fuses := { fusesBurned s log e with debugLock := true } } := by
        unfold burned State.committed
        rw [if_neg (by omega), if_neg (by omega), if_neg (by omega), if_neg (by omega), if_neg (by omega)]
      have fuses : (burned s log e).fuses = { fusesBurned s log e with debugLock := true } := congrArg State.fuses committed
      rw [fuses, if_neg (by omega)]
      exact ⟨rfl, fun lock => by omega, fun _ => rfl, rfl, idle, result⟩
  case laneBurned =>
    intro e log s burning last op
    have committed : burned s log e = { s with fuses := { fusesBurned s log e with
        laneMap := s.fuses.laneMap.set e.arg0 (withNibble (s.fuses.laneMap.getD e.arg0 0) e.arg1 e.value) } } := by
      unfold burned State.committed
      rw [if_neg (by omega), if_pos op]
      rfl
    obtain ⟨idle, _, _⟩ := burnShown_shows (burned s log e)
    refine .of_next (exec_burnDone burning last) ⟨?_, idle, ?_⟩
    · rw [burnShown_fuses, committed]
    · rw [committed]
      exact burnShown_onlyRegs (.of_regs (.refl _ s) rfl) (by simp) (by simp)

end Sys2Proof.Proofs

/-!
The abort of a core's tasks that a function-level reset begins with (O40; R151, R467): a task that is aborted leaves its slot, and beside it no slot changes.
-/

namespace Sys2Proof.Proofs
open Sys2Proof.Machine Sys2Proof.Laws Sys2Proof.Claims

/-! ### The other slots -/

/-- Every slot but one holds what it held. -/
def OtherSlots (core slot : Nat) (s t : State) : Prop := ∀ k, k ≠ core * 4 + slot → Map.find t.work.slots k = Map.find s.work.slots k

section
variable {core slot : Nat} {s t u : State}

theorem OtherSlots.refl (core slot : Nat) (s : State) : OtherSlots core slot s s := fun _ _ => rfl

theorem OtherSlots.trans (h : OtherSlots core slot s t) (h' : OtherSlots core slot t u) : OtherSlots core slot s u := fun k other => (h' k other).trans (h k other)

theorem OtherSlots.of_slots (h : OtherSlots core slot s t) (same : u.work.slots = t.work.slots) : OtherSlots core slot s u := fun k other => by
  rw [same]
  exact h k other

theorem OtherSlots.of_work (h : OtherSlots core slot s t) (same : u.work = t.work) : OtherSlots core slot s u := h.of_slots (congrArg Work.slots same)

/-- Another slot of the core keeps its task. -/
theorem OtherSlots.running (h : OtherSlots core slot s t) {i : Nat} (other : i ≠ slot) : t.running core i = s.running core i := h _ (by omega)

theorem OtherSlots.setRunning (h : OtherSlots core slot s t) (r : Option Running) : OtherSlots core slot s (t.setRunning core slot r) :=
  h.trans (setRunning_slotSteady t core slot r).others

theorem OtherSlots.mapRunning (h : OtherSlots core slot s t) (f : Running → Running) : OtherSlots core slot s (t.mapRunning core slot f) := by
  unfold State.mapRunning
  split
  · exact h.setRunning _
  · exact h

theorem OtherSlots.setEntry (h : OtherSlots core slot s t) (e : Entry) : OtherSlots core slot s (t.setEntry core slot e) := h.mapRunning _

theorem OtherSlots.hostReadStart (h : OtherSlots core slot s t) (fn agent iova n : Nat) (use : ReadUse) : OtherSlots core slot s (t.hostReadStart fn agent iova n use) := h.of_work rfl

theorem OtherSlots.withdrawWait (h : OtherSlots core slot s t) : OtherSlots core slot s (t.withdrawWait core slot) := h.of_work rfl

theorem OtherSlots.endCheck (h : OtherSlots core slot s t) : OtherSlots core slot s (t.endCheck core slot) := h.trans (endCheck_slotSteady t core slot).others

theorem OtherSlots.taskEnds (h : OtherSlots core slot s t) (r : Running) (st : Status) (f : Option StepFail) : OtherSlots core slot s (t.taskEnds core slot r st f) :=
  h.trans (taskEnds_slotSteady t core slot r st f).others

end

/-! ### Writes of memory leave the slots -/

theorem hbmWrite_work (s : State) (via : Via) (fn core who addr : Nat) (bs : List Byte) : (s.hbmWrite via fn core who addr bs).1.work = s.work :=
  (State_hbmWrite_good via fn core who addr bs (good_self s (· == .work)) rfl rfl rfl rfl rfl rfl rfl rfl).same .work rfl

theorem storeWrite_work (s : State) (k core addr who : Nat) (bs : List Byte) : (s.storeWrite k core addr who bs).1.work = s.work :=
  (State_storeWrite_good k core addr who bs (good_self s (· == .work)) rfl rfl rfl rfl rfl rfl rfl).same .work rfl

theorem reedWrite_slots (s : State) (core : Nat) (r : Running) (c off : Nat) (bs : List Byte) : (s.reedWrite core r c off bs).1.work.slots = s.work.slots := by
  unfold State.reedWrite
  split
  · split
    · rfl
    · dsimp only
      exact (congrArg Work.slots (hbmWrite_work _ _ _ _ _ _ _)).trans rfl
  · rfl

theorem writeRow_slots (s : State) (core : Nat) (r : Running) (sp addr : Nat) (bs : List Byte) : (s.writeRow core r sp addr bs).1.work.slots = s.work.slots := by
  have store (k n a : Nat) (l : List Byte) : (s.storeWrite k n a r.task.flow l).1.work.slots = s.work.slots := congrArg Work.slots (storeWrite_work _ _ _ _ _ _)
  have hbm (via : Via) : (s.hbmWrite via (s.coreHolder core) core r.task.flow addr bs).1.work.slots = s.work.slots := congrArg Work.slots (hbmWrite_work _ _ _ _ _ _ _)
  unfold State.writeRow
  dsimp only
  split
  · rfl
  split
  · split
    · exact store _ _ _ _
    · rfl
  · exact store _ _ _ _
  · exact hbm _
  · exact hbm _
  · split
    · exact store _ _ _ _
    · rfl
  · exact reedWrite_slots _ _ _ _ _ _
  · split
    · rfl
    · split
      · exact congrArg Work.slots (hostWrite_work _ _ _ _ _)
      · rfl
  · split
    · exact congrArg Work.slots ((State_linkWrites_good _ rfl s _ _ _ _ (good_self s (· == .work))).same .work rfl)
    · rfl
    · rfl
  · rfl

theorem writeAll_slots (s : State) (core : Nat) (r : Running) (ws : List (Nat × Nat × List Byte)) : (s.writeAll core r ws).1.work.slots = s.work.slots := by
  unfold State.writeAll
  exact foldl_fst_of (P := fun t => t.work.slots = s.work.slots) rfl fun x w hx => (writeRow_slots x.1 core r _ _ _).trans hx

/-! ### The completion of a step -/

section
variable {core slot : Nat} {s t : State}

theorem OtherSlots.abandonClaims (h : OtherSlots core slot s t) (e : Entry) : OtherSlots core slot s (t.abandonClaims core e) :=
  h.of_work ((State_abandonClaims_good core e (good_self t (· == .work)) rfl).same .work rfl)

theorem OtherSlots.countLost (h : OtherSlots core slot s t) (l : List Entry) : OtherSlots core slot s (t.countLost core l) :=
  h.of_work ((State_countLost_good core l (good_self t (· == .work)) rfl rfl rfl).same .work rfl)

theorem OtherSlots.stepDone (h : OtherSlots core slot s t) (r : Running) (e : Entry) (st : Status) : OtherSlots core slot s (t.stepDone core slot r e st) := by
  have counted {u : State} (hu : OtherSlots core slot s u) : OtherSlots core slot s ((u.addFlags core r.task.ctx (contributed st e.flags)).countStep core e none) :=
    hu.of_work ((State_countStep_good core e none (State_addFlags_good core r.task.ctx _ (good_self u (· == .work)) rfl) rfl).same .work rfl)
  have signalled {u : State} (hu : OtherSlots core slot s u) : OtherSlots core slot s (u.ctrOp .signal e.hdr.sigCtr 1) :=
    hu.of_work ((State_ctrOp_good .signal _ 1 (good_self u (· == .work)) rfl rfl rfl).same .work rfl)
  have failed : OtherSlots core slot s (if st ≠ .ok ∧ !softOp e.op then t.abandonClaims core e else t) := prop_ite (h.abandonClaims e) h
  have lost := prop_ite (c := st = .faulted ∧ !softOp e.op) (failed.countLost (r.window.filter (fun x => x.seq != e.seq))) failed
  unfold State.stepDone
  dsimp only
  exact (OtherSlots.mapRunning (prop_ite (signalled (counted lost)) (counted lost)) _).endCheck

theorem OtherSlots.complete (h : OtherSlots core slot s t) (r : Running) (e : Entry) : OtherSlots core slot s (t.complete core slot r e) := by
  have written := h.of_slots (writeAll_slots t core r e.writes)
  unfold State.complete
  dsimp only
  split
  · split
    · exact (written.hostReadStart _ _ _ _ _).setEntry _
    · exact written.stepDone r e _
  · exact written.stepDone r e _

theorem OtherSlots.tryComplete (h : OtherSlots core slot s t) (seq : Nat) : OtherSlots core slot s (t.tryComplete core slot seq) := by
  unfold State.tryComplete
  split
  · exact prop_ite (h.complete _ _) h
  · exact h

/-! ### The abort of a task (R151, R467) -/

theorem abortSlot_others (s : State) (core slot : Nat) : OtherSlots core slot s (s.abortSlot core slot) := by
  have reloaded : OtherSlots core slot s (s.reloadNow core slot) := (reloadNow_slotOnly s core slot).others
  unfold State.abortSlot
  dsimp only
  split
  · exact reloaded
  · exact ((reloaded.countLost _).setRunning _).withdrawWait.endCheck

/-- R151, R467. A task that is aborted at once leaves its slot; beside it no slot changes. -/
theorem abortNow_ends (s : State) (core slot : Nat) : (s.abortNow core slot).running core slot = none ∧ OtherSlots core slot s (s.abortNow core slot) := by
  have aborted := abortSlot_others s core slot
  have completed : OtherSlots core slot s (match (s.abortSlot core slot).running core slot with
      | some r => (inOrder r.window).foldl (fun (u : State) (e : Entry) => u.tryComplete core slot e.seq) (s.abortSlot core slot)
      | none => s.abortSlot core slot) := by
    split
    · exact foldl_of aborted fun x e hx => hx.tryComplete e.seq
    · exact aborted
  unfold State.abortNow
  dsimp only
  split
  · exact ⟨taskEnds_running .., completed.taskEnds _ _ _⟩
  next gone => exact ⟨gone, completed⟩

/-- A slot without a task has none after that of any slot of its core is aborted. -/
theorem abortNow_none {i : Nat} (free : s.running core i = none) (slot : Nat) : (s.abortNow core slot).running core i = none := by
  obtain ⟨ended, others⟩ := abortNow_ends s core slot
  by_cases same : i = slot
  · rw [same, ended]
  · rw [others.running same, free]

end

/-- A step of a fold reaches a property that the steps keep. -/
theorem foldl_reaches {α β : Type} {P : β → Prop} {g : β → α → β} {l : List α} {a : α} {t : β} (mem : a ∈ l) (reaches : ∀ u, P (g u a)) (keeps : ∀ u, ∀ b ∈ l, P u → P (g u b)) :
    P (l.foldl g t) := by
  induction l generalizing t with
  | nil => exact absurd mem List.not_mem_nil
  | cons b l ih =>
    obtain rfl | later := List.mem_cons.mp mem
    · exact List.foldlRecOn (motive := P) l g (reaches t) fun u hu c hc => keeps u c (List.mem_cons_of_mem _ hc) hu
    · exact ih later fun u c hc => keeps u c (List.mem_cons_of_mem _ hc)

theorem discardSave_slots (s : State) (core rk : Nat) (v : Saved) : (s.discardSave core rk v).work.slots = s.work.slots := by
  have drawn : Steady FT_CORE_FAULT (recordFreed s rk) (recordFreed s rk).drawFree.2.drawFree.2.drawFree.2.drawFree.2 := (Steady.refl _ _).drawFree.drawFree.drawFree.drawFree
  unfold State.discardSave
  exact ((drawn.taskFail core _ v.run.task .aborted _ _).flowEnds v.run.task.flow core .aborted _).slots

theorem discardSaves_slots (s : State) (n : Nat) : (s.discardSaves n).work.slots = s.work.slots := by
  unfold State.discardSaves
  exact foldl_of (P := fun t => t.work.slots = s.work.slots) rfl fun t e same => (discardSave_slots t n e.1 e.2).trans same

/-- R467. No slot of a core whose tasks a reset has aborted holds a task. -/
theorem abortCore_running {i : Nat} (slot : i < 4) (s : State) (f n : Nat) : (s.abortCore f n).running n i = none := by
  have ended : ((List.range 4).foldl (fun t j => t.abortNow n j) s).running n i = none :=
    foldl_reaches (P := fun t => t.running n i = none) (List.mem_range.mpr slot) (fun u => (abortNow_ends u n i).1) fun u j _ free => abortNow_none free j
  unfold State.abortCore
  refine (running_of_slots ?_ n i).trans ended
  rw [State.add_work]
  exact discardSaves_slots _ n

end Sys2Proof.Proofs

/-!
Function-level reset, revocation and the VFs that appear and go (O40; R454, R455, R467, R468, R470, R478).
-/

namespace Sys2Proof.Proofs
open Sys2Proof.Machine Sys2Proof.Laws Sys2Proof.Claims

/-! ### What a reset leaves of the instances (R467) -/

theorem closeStage_tenants (s : State) (f stage : Nat) : (s.closeStage f stage).tenants = s.tenants :=
  (State_closeStage_good f stage (good_self s (· == .tenants)) rfl rfl rfl rfl rfl rfl rfl rfl rfl rfl rfl).same .tenants rfl

theorem coreReset_tenants (s : State) (f n : Nat) : (((s.abortCore f n).contextsReset n).emptyCache n).tenants = s.tenants := by
  have aborted := State_abortCore_good f n (good_self s (· == .tenants)) rfl rfl rfl rfl rfl rfl rfl rfl rfl rfl rfl rfl rfl rfl
  exact (State_emptyCache_good n (State_contextsReset_good n aborted rfl rfl rfl) rfl rfl rfl rfl rfl rfl rfl rfl).same .tenants rfl

theorem flushChain_tenants (s : State) (c : Nat) : (s.flushChain c).tenants = s.tenants :=
  (State_flushChain_good c (good_self s (· == .tenants)) rfl rfl rfl rfl rfl).same .tenants rfl

theorem resetFlow_tenants (s : State) (w : Nat) : (s.resetFlow w).tenants = s.tenants :=
  (State_resetFlow_good w (good_self s (· == .tenants)) rfl rfl rfl rfl).same .tenants rfl

theorem flushSpilled_tenants (s : State) (f : Nat) : (s.flushSpilled f).tenants = s.tenants :=
  (State_flushSpilled_good f (good_self s (· == .tenants)) rfl rfl rfl rfl).same .tenants rfl

theorem sluiceReset_tenants (s : State) (f : Nat) : (s.sluiceReset f).tenants = s.tenants :=
  (State_sluiceReset_good f (good_self s (· == .tenants)) rfl rfl).same .tenants rfl

/-- R467. An instance whose reset begins: what it remembers of the quiesce it was in, and whether its VF goes. -/
def resetInst (s : State) (f : Nat) (leaving : Bool) : Inst :=
  { s.inst f with stage := 4, preempt := false, keepQuiet := s.instState f == 2 || s.instState f == 3, leaving := leaving }

/-- R467. The instance is RESETTING. -/
def flrBegun (s : State) (f : Nat) (leaving : Bool) : State := (s.setInst f (resetInst s f leaving)).set (TN_STAT_STATE f) 4

/-- R467, step 6. The host reads of a function are dropped. -/
def readsDropped (s : State) (f : Nat) : State := { s with host := { s.host with reads := s.host.reads.filter (fun r => r.fn != f) } }

@[simp] theorem readsDropped_tenants (s : State) (f : Nat) : (readsDropped s f).tenants = s.tenants := rfl

@[simp] theorem readsDropped_get (s : State) (f : Nat) (x : Field) : (readsDropped s f).get x = s.get x := rfl

@[simp] theorem readsDropped_on (s : State) (f : Nat) (x : Field) : (readsDropped s f).on x = s.on x := rfl

@[simp] theorem setReqRing_get (s : State) (f r : Nat) (v : ReqRing) (x : Field) : (s.setReqRing f r v).get x = s.get x := rfl

@[simp] theorem setReqRing_on (s : State) (f r : Nat) (v : ReqRing) (x : Field) : (s.setReqRing f r v).on x = s.on x := rfl

@[simp] theorem dropPke_get (s : State) (p : PkeJob → Bool) (u : PkeUse → Bool) (x : Field) : (s.dropPke p u).get x = s.get x := rfl

@[simp] theorem dropDescs_get (s : State) (p : Desc → Bool) (x : Field) : (s.dropDescs p).get x = s.get x := rfl

/-- R467. A reset ends with the function's rings of Sluice and its host reads; before that the instances are as it began. -/
theorem flrStart_eq (s : State) (f : Nat) (leaving : Bool) :
    ∃ t : State, t.tenants = (flrBegun s f leaving).tenants ∧ s.flrStart f leaving = readsDropped (t.sluiceReset f) f := by
  refine ⟨_, ?_, rfl⟩
  rw [State.set_tenants, flushSpilled_tenants]
  refine foldl_of (P := fun t => t.tenants = (flrBegun s f leaving).tenants) ?flows fun t c same => (State.flag_tenants t _ _).trans same
  refine foldl_of (P := fun t => t.tenants = (flrBegun s f leaving).tenants) ?chains fun t j same =>
    foldl_of (P := fun t => t.tenants = (flrBegun s f leaving).tenants) same fun u w same => (resetFlow_tenants u w).trans same
  refine foldl_of (P := fun t => t.tenants = (flrBegun s f leaving).tenants) ?cores fun t c same => (flushChain_tenants t c).trans same
  refine foldl_of (P := fun t => t.tenants = (flrBegun s f leaving).tenants) ?_ fun t n same => (coreReset_tenants t f n).trans same
  rw [State.set_tenants, closeStage_tenants, closeStage_tenants]
  rfl

theorem inst_of_tenants {s t : State} (h : t.tenants = s.tenants) (f : Nat) : t.inst f = s.inst f := by
  unfold State.inst
  rw [h]

theorem flrBegun_inst (s : State) (f : Nat) (leaving : Bool) : (flrBegun s f leaving).inst f = resetInst s f leaving :=
  (inst_of_tenants (State.set_tenants _ _ _) f).trans (State.inst_setInst_self _ _ _)

theorem flrStart_inst (s : State) (f : Nat) (leaving : Bool) : (s.flrStart f leaving).inst f = resetInst s f leaving := by
  obtain ⟨t, same, eq⟩ := flrStart_eq s f leaving
  rw [eq, ← flrBegun_inst]
  exact inst_of_tenants ((readsDropped_tenants _ f).trans ((sluiceReset_tenants t f).trans same)) f

theorem flrStart_reads (s : State) (f : Nat) (leaving : Bool) : ∀ r ∈ (s.flrStart f leaving).host.reads, r.fn ≠ f := by
  obtain ⟨t, _, eq⟩ := flrStart_eq s f leaving
  rw [eq]
  intro r mem
  simpa using (List.mem_filter.mp mem).2

/-! ### The rings of Sluice (R467, step 6) -/

/-- The bit of another field of a family that is cleared too stays clear. -/
theorem off_flag {f g : Field} (apart : f = g ∨ f.key ≠ g.key) (width : g.width = 1) {s : State} (off : s.on f = false) : (s.flag g false).on f = false := by
  obtain rfl | other := apart
  · exact State.on_flag_self width s false
  · rw [on_flag_ne other]
    exact off

theorem requestRing_apart {f r : Nat} (ring : r < 4) {q : Nat} (other : q < 4) :
    (RQ_CFG_ENABLE f r = RQ_CFG_ENABLE f q ∨ (RQ_CFG_ENABLE f r).key ≠ (RQ_CFG_ENABLE f q).key) ∧ (RQ_CFG_ENABLE f r).key ≠ (CQ_CFG_ENABLE f q).key := by
  have one : RQ_CFG_ENABLE f r = RQ_CFG_ENABLE f q ∨ (RQ_CFG_ENABLE f r).key ≠ (RQ_CFG_ENABLE f q).key := by
    by_cases same : r = q
    · exact .inl (by rw [same])
    · refine .inr ?_
      simp only [Field.key, RQ_CFG_ENABLE]
      omega
  refine ⟨one, ?_⟩
  simp only [Field.key, RQ_CFG_ENABLE, CQ_CFG_ENABLE]
  omega

theorem sluiceReset_off {r : Nat} (ring : r < 4) (s : State) (f : Nat) : (s.sluiceReset f).on (RQ_CFG_ENABLE f r) = false := by
  have cleared : ((List.range 4).foldl (fun t q => ((t.flag (RQ_CFG_ENABLE f q) false).flag (CQ_CFG_ENABLE f q) false).setReqRing f q {}) s).on (RQ_CFG_ENABLE f r) = false := by
    refine foldl_reaches (P := fun t : State => t.on (RQ_CFG_ENABLE f r) = false) (List.mem_range.mpr ring) (fun u => ?_) fun u q mem off => ?_
    · rw [setReqRing_on, on_flag_ne (requestRing_apart ring ring).2]
      exact State.on_flag_self rfl _ _
    · obtain ⟨own, completion⟩ := requestRing_apart (f := f) ring (List.mem_range.mp mem)
      rw [setReqRing_on, on_flag_ne completion]
      exact off_flag own rfl off
  have count : (RQ_CFG_ENABLE f r).key ≠ (TN_FLR_DESC f).key := by
    simp only [Field.key, RQ_CFG_ENABLE, TN_FLR_DESC]
    omega
  unfold State.sluiceReset State.on
  rw [State.get_set_ne count, dropDescs_get, dropPke_get]
  exact cleared

theorem flrStart_rings {r : Nat} (ring : r < 4) (s : State) (f : Nat) (leaving : Bool) : (s.flrStart f leaving).on (RQ_CFG_ENABLE f r) = false := by
  obtain ⟨t, _, eq⟩ := flrStart_eq s f leaving
  rw [eq, readsDropped_on]
  exact sluiceReset_off ring t f

/-! ### The reset of an instance that holds no cores, triples and channels -/

theorem closePages_regs {pages : List Nat} (apart : ∀ p ∈ pages, 0x200 ≤ p) (s : State) : (pages.foldl State.closePage s).regs = s.regs ∧ (pages.foldl State.closePage s).work = s.work := by
  have gate (t : State) {p : Nat} (outer : 0x200 ≤ p) : t.closePage p = t.gate p true := by
    unfold State.closePage
    rw [if_neg (by omega)]
  refine List.foldlRecOn (motive := fun t => t.regs = s.regs ∧ t.work = s.work) pages State.closePage ⟨rfl, rfl⟩ fun t same p mem => ?_
  rw [gate t (apart p mem)]
  exact same

theorem closeStage_regs {stage : Nat} (outer : stage = 1 ∨ stage = 3) (s : State) (f : Nat) : (s.closeStage f stage).regs = s.regs ∧ (s.closeStage f stage).work = s.work :=
  closePages_regs (fun _ mem => stagePages_outside outer mem) s

theorem sluiceReset_get {x : Field} (low : x.lsb < 32) (manager : 0x510000 ≤ x.addr) {f : Nat} (fn : f ≤ 8) (other : x.key ≠ (TN_FLR_DESC f).key) (s : State) :
    (s.sluiceReset f).get x = s.get x := by
  have apart (q : Nat) (ring : q < 4) : x.key ≠ (RQ_CFG_ENABLE f q).key ∧ x.key ≠ (CQ_CFG_ENABLE f q).key := by
    simp only [Field.key, RQ_CFG_ENABLE, CQ_CFG_ENABLE]
    omega
  unfold State.sluiceReset
  dsimp only
  rw [State.get_set_ne other, dropDescs_get, dropPke_get]
  refine List.foldlRecOn (motive := fun t : State => t.get x = s.get x) (List.range 4) _ rfl fun t same q mem => ?_
  obtain ⟨request, completion⟩ := apart q (List.mem_range.mp mem)
  rw [setReqRing_get, State.get_flag_ne completion, State.get_flag_ne request]
  exact same

/-- R467. The reset of an instance with nothing to abort or flush writes of the manager's words its state and the counts of what the reset found. -/
theorem flrStart_bare {s : State} {f : Nat} (fn : f ≤ 8) (cores : s.get (TG_CORES f) = 0) (triples : s.get (TG_PAGES_QPAGES f) = 0) (channels : s.work.channels = []) (leaving : Bool)
    {x : Field} (low : x.lsb < 32) (manager : 0x510000 ≤ x.addr) (tasks : x.key ≠ (TN_FLR_TASKS f).key) (items : x.key ≠ (TN_FLR_ITEMS f).key) (descs : x.key ≠ (TN_FLR_DESC f).key) :
    (s.flrStart f leaving).get x = (flrBegun s f leaving).get x := by
  have noCores : s.instCores f = [] := by
    unfold State.instCores
    rw [cores]
    rfl
  have noTriples : s.instTriples f = [] := by
    unfold State.instTriples
    rw [triples]
    rfl
  obtain ⟨regs1, work1⟩ := closeStage_regs (.inl rfl) (flrBegun s f leaving) f
  obtain ⟨regs3, work3⟩ := closeStage_regs (.inr rfl) ((flrBegun s f leaving).closeStage f 1) f
  let counted := (((flrBegun s f leaving).closeStage f 1).closeStage f 3).set (TN_FLR_TASKS f) 0
  have noSpill : counted.flushSpilled f = counted := by
    unfold State.flushSpilled
    rw [show counted.work.channels = [] from (congrArg Work.channels (work3.trans work1)).trans channels]
    rfl
  have bare : ∃ n, s.flrStart f leaving = readsDropped ((counted.set (TN_FLR_ITEMS f) n).sluiceReset f) f := by
    unfold State.flrStart
    simp only [noCores, noTriples, List.filter_nil, List.flatMap_nil, List.foldl_nil, List.contains_nil, List.filter_false]
    exact ⟨_, congrArg (fun t : State => readsDropped ((t.set (TN_FLR_ITEMS f) _).sluiceReset f) f) noSpill⟩
  obtain ⟨n, eq⟩ := bare
  rw [eq, readsDropped_get, sluiceReset_get low manager fn descs, State.get_set_ne items, State.get_set_ne tasks]
  exact State.get_of_regs (regs3.trans regs1) x

theorem flr_keys (f : Nat) : ((TN_STAT_STATE f).key ≠ (TN_FLR_TASKS f).key ∧ (TN_STAT_STATE f).key ≠ (TN_FLR_ITEMS f).key ∧ (TN_STAT_STATE f).key ≠ (TN_FLR_DESC f).key) ∧
    ((TN_STAT_BUSY f).key ≠ (TN_FLR_TASKS f).key ∧ (TN_STAT_BUSY f).key ≠ (TN_FLR_ITEMS f).key ∧ (TN_STAT_BUSY f).key ≠ (TN_FLR_DESC f).key) ∧
    (TN_STAT_BUSY f).key ≠ (TN_STAT_STATE f).key := by
  simp only [Field.key, TN_STAT_STATE, TN_STAT_BUSY, TN_FLR_TASKS, TN_FLR_ITEMS, TN_FLR_DESC]
  omega

/-! ### The end of a reset (R468) -/

/-- R468. The state that the end of a reset leaves. -/
theorem flrEnd_shows {f : Nat} (hi : f ≤ 8) (s : State) :
    (s.flrEnd f).instState f = (if (s.inst f).leaving then 0 else if (s.inst f).keepQuiet then 3 else 1) ∧ (s.flrEnd f).shows 0 0x510 2 = true ∧
      bitOf ((s.flrEnd f).get TN_ATTN) (f - 1) = true := by
  unfold State.flrEnd
  dsimp only
  generalize (if (s.inst f).keepQuiet then _ else _) = t
  refine ⟨?_, tenantEdge_shows _ _ _, tenantEdge_attends hi _ _⟩
  unfold State.instState
  rw [tenantEdge_get_ne (instState_apart f).2.2, State.get_set_self]
  refine Nat.mod_eq_of_lt ?_
  show _ < 2 ^ 3
  split
  · decide
  · split <;> decide

/-! ### What a reset clears (R462, R467) -/

theorem mailboxWord_apart (f i : Nat) :
    ((MB_OUT_CTRL_BUSY f).key ≠ (MB_OUT f i).key ∧ (MB_OUT_CTRL_BUSY f).key ≠ (MB_IN f i).key) ∧ (MB_IN_CTRL_VALID f).key ≠ (MB_OUT f i).key ∧ (MB_IN_CTRL_VALID f).key ≠ (MB_IN f i).key := by
  simp only [Field.key, MB_OUT_CTRL_BUSY, MB_IN_CTRL_VALID, MB_OUT, MB_IN]
  omega

/-- R462. The words of the mailboxes are cleared beside another field. -/
theorem mailboxWords_on {x : Field} {f : Nat} (apart : ∀ i, i < 16 → x.key ≠ (MB_OUT f i).key ∧ x.key ≠ (MB_IN f i).key) (s : State) :
    ((List.range 16).foldl (fun t i => (t.set (MB_OUT f i) 0).set (MB_IN f i) 0) s).on x = s.on x := by
  refine List.foldlRecOn (motive := fun t : State => t.on x = s.on x) (List.range 16) _ rfl fun t same i mem => ?_
  obtain ⟨out, inn⟩ := apart i (List.mem_range.mp mem)
  rw [State.on, State.get_set_ne inn, State.get_set_ne out]
  exact same

theorem clearMailboxes_off {f : Nat} (lo : 1 ≤ f) (hi : f ≤ 8) (s : State) :
    (s.clearMailboxes f).on (MB_OUT_CTRL_BUSY f) = false ∧ (s.clearMailboxes f).on (MB_IN_CTRL_VALID f) = false := by
  have apart : ((MB_OUT_CTRL_BUSY f).key ≠ (MB_REQ_ACK_PENDING f).key ∧ (MB_OUT_CTRL_BUSY f).key ≠ (MB_RSP_CTRL_BUSY f).key ∧ (MB_OUT_CTRL_BUSY f).key ≠ (MB_IN_CTRL_VALID f).key ∧
      (MB_OUT_CTRL_BUSY f).key ≠ TN_MB_PEND.key) ∧ (MB_IN_CTRL_VALID f).key ≠ TN_MB_PEND.key := by
    obtain ⟨out, inn, ack, rsp, pend, _⟩ := mailbox_keys f
    rw [out, inn, ack, rsp, pend]
    omega
  obtain ⟨⟨outAck, outRsp, outIn, outPend⟩, inPend⟩ := apart
  unfold State.clearMailboxes
  dsimp only [List.foldl_cons, List.foldl_nil]
  constructor
  · rw [setPend_on_ne outPend, mailboxWords_on fun i _ => (mailboxWord_apart f i).1, on_flag_ne outIn, on_flag_ne outRsp, on_flag_ne outAck]
    exact State.on_flag_self rfl _ _
  · rw [setPend_on_ne inPend, mailboxWords_on fun i _ => (mailboxWord_apart f i).2]
    exact State.on_flag_self rfl _ _

theorem hostWindow_apart (f e d : Nat) : HW_ATTR_VALID f e = HW_ATTR_VALID f d ∨ (HW_ATTR_VALID f e).key ≠ (HW_ATTR_VALID f d).key := by
  by_cases same : e = d
  · exact .inl (by rw [same])
  · refine .inr ?_
    simp only [Field.key, HW_ATTR_VALID]
    omega

theorem on_withHost (s : State) (h : HostIf) (x : Field) : ({ s with host := h } : State).on x = s.on x := rfl

/-- R467, R470. A function whose host side is reset has no valid window. -/
theorem hostSideReset_off {e : Nat} (window : e < 16) (s : State) (f : Nat) : (s.hostSideReset f).on (HW_ATTR_VALID f e) = false := by
  have cleared : ((List.range 16).foldl (fun t d => t.flag (HW_ATTR_VALID f d) false) s).on (HW_ATTR_VALID f e) = false :=
    foldl_reaches (P := fun t : State => t.on (HW_ATTR_VALID f e) = false) (List.mem_range.mpr window) (fun u => State.on_flag_self rfl u false)
      fun u d _ off => off_flag (hostWindow_apart f e d) rfl off
  unfold State.hostSideReset
  dsimp only
  rw [on_withHost]
  exact cleared

theorem pcieReset_masked (s : State) (f : Nat) : ∀ k ∈ (s.pcieReset f).host.unmasked, k / 2048 ≠ f := by
  intro k mem
  simpa using (List.mem_filter.mp mem).2

/-- R467, step 8. The counters of a function's blocks are cleared. -/
theorem functionBlocks_counter {s : State} {f b c : Nat} (block : b < 64) (holder : s.blockHolder b = f) (own : c / 64 = b) : (s.clearBlocks f).counter c = {} := by
  unfold State.clearBlocks
  refine foldl_reaches (P := fun t : State => t.counter c = {}) (a := b) (List.mem_filter.mpr ⟨List.mem_range.mpr block, by simp [holder]⟩) (fun u => ?_) fun u d _ clear => ?_
  · rw [clearBlock_counter, if_pos own]
  · rw [clearBlock_counter, clear, ite_self]

theorem slot_setSlot (s : State) (i j : Nat) : ((s.setSlot j {}).slot i) = if i = j then {} else s.slot i := by
  unfold State.slot State.setSlot
  by_cases same : i = j
  · rw [same, if_pos rfl]
    exact Map.get_put_self ({} : KeySlot) s.sluice.slots j {}
  · rw [if_neg same]
    exact Map.get_put_ne same ({} : KeySlot) {} s.sluice.slots {}

theorem clearSlot_self (s : State) (i : Nat) : (s.clearSlot i).slot i = {} := by
  unfold State.clearSlot
  split
  · refine foldl_reaches (P := fun t : State => t.slot i = {}) (a := i % 16) (List.mem_range.mpr (Nat.mod_lt _ (by omega))) (fun u => ?_) fun u j _ clear => ?_
    · rw [slot_setSlot, if_pos (by omega)]
    · rw [slot_setSlot, clear, ite_self]
  · rw [slot_setSlot, if_pos rfl]

theorem clearSlot_keeps {s : State} {i : Nat} (clear : s.slot i = {}) (j : Nat) : (s.clearSlot j).slot i = {} := by
  have other (t : State) (k : Nat) (empty : t.slot i = {}) : (t.setSlot k {}).slot i = {} := by
    rw [slot_setSlot, empty, ite_self]
  unfold State.clearSlot
  split
  · exact List.foldlRecOn (motive := fun t : State => t.slot i = {}) (List.range 16) _ clear fun t empty k _ => other t _ empty
  · exact other s j clear

/-- R467, step 7. The key slots of a function's window are cleared. -/
theorem clearWindow_slot {s : State} {f i : Nat} (slot : i < 512) (holder : s.slotHolder i = f) : (s.clearWindow f).slot i = {} := by
  unfold State.clearWindow
  exact foldl_reaches (P := fun t : State => t.slot i = {}) (a := i) (List.mem_filter.mpr ⟨List.mem_range.mpr slot, by simp [holder]⟩) (fun u => clearSlot_self u i)
    fun u j _ clear => clearSlot_keeps clear j

/-! ### Holders in nibbles of a word (R249, R470) -/

/-- A nibble of a word takes 15, the others stay. -/
theorem bitsOf_filled {k j : Nat} (hj : j < 8) (w : Nat) :
    bitsOf ((w + (15 - bitsOf w (4 * k) 4) * 2 ^ (4 * k)) % 2 ^ 32) (4 * j) 4 = if j = k then 15 else bitsOf w (4 * j) 4 := by
  rw [bitsOf_mod_word hj]
  unfold bitsOf
  have pos : 0 < 2 ^ (4 * k) := Nat.two_pow_pos _
  have nibble : w / 2 ^ (4 * k) % 2 ^ 4 ≤ 15 := by omega
  obtain same | below | above : j = k ∨ j < k ∨ k < j := by omega
  · rw [if_pos same, same, Nat.add_mul_div_right _ _ pos]
    omega
  · have split : (2 : Nat) ^ (4 * k) = 2 ^ (4 * j) * (2 ^ 4 * 2 ^ (4 * (k - j - 1))) := by
      rw [← pow_add, ← pow_add]
      congr 1
      omega
    rw [if_neg (by omega), split]
    generalize 15 - w / (2 ^ (4 * j) * (2 ^ 4 * 2 ^ (4 * (k - j - 1)))) % 2 ^ 4 = d
    rw [show d * (2 ^ (4 * j) * (2 ^ 4 * 2 ^ (4 * (k - j - 1)))) = d * 2 ^ (4 * (k - j - 1)) * 2 ^ 4 * 2 ^ (4 * j) by ring, Nat.add_mul_div_right _ _ (Nat.two_pow_pos _),
      Nat.add_mul_mod_self_right]
  · have split : (2 : Nat) ^ (4 * j) = 2 ^ (4 * k) * 2 ^ 4 * 2 ^ (4 * (j - k - 1)) := by
      rw [← pow_add, ← pow_add]
      congr 1
      omega
    rw [if_neg (by omega), split, ← Nat.div_div_eq_div_mul, ← Nat.div_div_eq_div_mul, ← Nat.div_div_eq_div_mul, ← Nat.div_div_eq_div_mul, Nat.add_mul_div_right _ _ pos]
    congr 2
    omega

/-- R470, step 4. A block of counters has no holder. -/
def blockFreed (s : State) (f b : Nat) : State := (s.clearBlock b).set (SY_BLK_FN (b / 8)) (s.get (SY_BLK_FN (b / 8)) + (15 - f) * 2 ^ (4 * (b % 8)))

theorem blockFreed_holder {s : State} {f b : Nat} (held : s.blockHolder b = f) (d : Nat) : (blockFreed s f b).blockHolder d = if d = b then 15 else s.blockHolder d := by
  unfold State.blockHolder at held
  unfold State.blockHolder blockFreed
  by_cases word : d / 8 = b / 8
  · rw [word, State.get_set_self, ← held, show (SY_BLK_FN (b / 8)).width = 32 from rfl, bitsOf_filled (Nat.mod_lt _ (by omega)),
      if_congr (show d % 8 = b % 8 ↔ d = b by omega) rfl rfl, ← word]
  · have apart : (SY_BLK_FN (d / 8)).key ≠ (SY_BLK_FN (b / 8)).key := by
      simp only [Field.key, SY_BLK_FN]
      omega
    rw [State.get_set_ne apart, if_neg (by rintro rfl; exact word rfl)]
    rfl

/-- R470, step 4. Blocks of counters that a function holds are freed. -/
theorem blocksFreed_holder {l : List Nat} (distinct : l.Nodup) {s : State} {f : Nat} (held : ∀ b ∈ l, s.blockHolder b = f) (d : Nat) :
    (l.foldl (fun t b => blockFreed t f b) s).blockHolder d = if d ∈ l then 15 else s.blockHolder d := by
  induction l generalizing s with
  | nil => rfl
  | cons b l ih =>
    obtain ⟨fresh, distinct⟩ := List.nodup_cons.mp distinct
    have freed := blockFreed_holder (held b List.mem_cons_self)
    have rest : ∀ c ∈ l, (blockFreed s f b).blockHolder c = f := fun c mem => by
      rw [freed, if_neg (by rintro rfl; exact fresh mem)]
      exact held c (List.mem_cons_of_mem _ mem)
    rw [List.foldl_cons, ih distinct rest, freed]
    by_cases later : d ∈ l
    · simp [later]
    · by_cases now : d = b <;> simp [later, now]

theorem revokeBlocks_holder {s : State} {f b : Nat} (block : b < 64) (holder : s.blockHolder b = f) : (s.revokeBlocks f).blockHolder b = 15 := by
  have held : ∀ d ∈ (List.range 64).filter (fun d => s.blockHolder d == f), s.blockHolder d = f := fun d mem => by simpa using (List.mem_filter.mp mem).2
  refine (blocksFreed_holder (List.nodup_range.filter _) held b).trans (if_pos ?_)
  exact List.mem_filter.mpr ⟨List.mem_range.mpr block, by simp [holder]⟩

/-! ### Domains and weight sets (R470, steps 7 and 8) -/

theorem domain_apart (d e : Nat) : ((DOM_STAT_STATE d).key ≠ (DOM_CFG_FN e).key ∧ (DOM_STAT_STATE d).key ≠ (DOM_STAT_BUSY e).key) ∧
    (d ≠ e → (DOM_STAT_STATE d).key ≠ (DOM_STAT_STATE e).key) := by
  simp only [Field.key, DOM_STAT_STATE, DOM_STAT_BUSY, DOM_CFG_FN]
  omega

theorem setKeys_get (s : State) (d : Nat) (k : DomKeys) (x : Field) : (s.setKeys d k).get x = s.get x := rfl

/-- R470, step 7. A domain is disabled. -/
def domainFreed (s : State) (d : Nat) : State := (((s.setKeys d {}).set (DOM_STAT_STATE d) 0).flag (DOM_STAT_BUSY d) false).set (DOM_CFG_FN d) 0

theorem domainFreed_state (s : State) (d e : Nat) : (domainFreed s e).get (DOM_STAT_STATE d) = if d = e then 0 else s.get (DOM_STAT_STATE d) := by
  obtain ⟨⟨holder, busy⟩, other⟩ := domain_apart d e
  unfold domainFreed
  rw [State.get_set_ne holder, State.get_flag_ne busy]
  by_cases same : d = e
  · rw [same, if_pos rfl]
    exact State.get_set_self _ _ _
  · rw [if_neg same, State.get_set_ne (other same), setKeys_get]

theorem revokeDomains_off {s : State} {f d : Nat} (domain : d < 15) (holder : s.get (DOM_CFG_FN d) = f) : (s.revokeDomains f).get (DOM_STAT_STATE d) = 0 := by
  refine foldl_reaches (P := fun t : State => t.get (DOM_STAT_STATE d) = 0) (g := fun t e => domainFreed t e) (a := d)
    (List.mem_filter.mpr ⟨List.mem_range.mpr domain, by simp [holder]⟩) (fun u => ?_) fun u e _ off => ?_
  · rw [domainFreed_state, if_pos rfl]
  · rw [domainFreed_state, off, ite_self]

/-- R470, step 8. A weight set that is revoked has no holder and no configuration. -/
theorem revokeSet_none {e : Nat} (set : e < 8) (s : State) : (s.revokeSet e).setHolder e = 15 ∧ ((s.revokeSet e).wset e).cfg = none := by
  let emptied : State := [WSET_CFG_MODE e, WSET_VALID0 e, WSET_VALID1 e, WSET_STAT_STATE e].foldl (fun t x => t.set x 0) ((s.setCur e 0).setWset e {})
  have freed : s.revokeSet e = emptied.set W_SET_FN (emptied.get W_SET_FN + (15 - emptied.setHolder e) * 2 ^ (4 * e)) := rfl
  rw [freed]
  constructor
  · unfold State.setHolder
    rw [State.get_set_self, show W_SET_FN.width = 32 from rfl, bitsOf_filled set, if_pos rfl]
  · have empty : ((s.setCur e 0).setWset e {}).wset e = {} := by
      unfold State.wset State.setWset
      exact Map.get_put_self ({} : WeightSet) _ e {}
    rw [wset_of_work (State.set_work _ _ _) e]
    exact congrArg WeightSet.cfg empty

/-! ### What a revocation ends with (R470) -/

/-- R470. The capacities of a function return to their reset values. -/
def capsReset (s : State) (f : Nat) : State := [FN_CELL_CAP f, FN_QOS_WEIGHT f, FN_QOS_DESC_MIN f, FN_DESC_CAP f, FN_RD_CAP f].foldl (fun t x => t.set x x.reset) s

theorem revoke_eq (s : State) (f : Nat) : ∃ t : State, s.revoke f = capsReset ((t.hostSideReset f).clearMailboxes f) f := ⟨_, rfl⟩

theorem capsReset_on {x : Field} (low : x.lsb < 32) (outside : 0x510000 ≤ x.addr) {f : Nat} (hi : f ≤ 8) (s : State) : (capsReset s f).on x = s.on x := by
  have apart : x.key ≠ (FN_CELL_CAP f).key ∧ x.key ≠ (FN_QOS_WEIGHT f).key ∧ x.key ≠ (FN_QOS_DESC_MIN f).key ∧ x.key ≠ (FN_DESC_CAP f).key ∧ x.key ≠ (FN_RD_CAP f).key := by
    simp only [Field.key, FN_CELL_CAP, FN_QOS_WEIGHT, FN_QOS_DESC_MIN, FN_DESC_CAP, FN_RD_CAP]
    omega
  obtain ⟨cells, weight, least, descs, reads⟩ := apart
  unfold capsReset State.on
  dsimp only [List.foldl_cons, List.foldl_nil]
  rw [State.get_set_ne reads, State.get_set_ne descs, State.get_set_ne least, State.get_set_ne weight, State.get_set_ne cells]

theorem clearMailboxes_on {x : Field} (low : x.lsb < 32) (outside : 0x520000 ≤ x.addr) {f : Nat} (hi : f ≤ 8) (s : State) : (s.clearMailboxes f).on x = s.on x := by
  have apart : (x.key ≠ (MB_OUT_CTRL_BUSY f).key ∧ x.key ≠ (MB_REQ_ACK_PENDING f).key ∧ x.key ≠ (MB_RSP_CTRL_BUSY f).key ∧ x.key ≠ (MB_IN_CTRL_VALID f).key) ∧
      x.key ≠ TN_MB_PEND.key ∧ ∀ i, i < 16 → x.key ≠ (MB_OUT f i).key ∧ x.key ≠ (MB_IN f i).key := by
    refine ⟨?_, ?_, fun i word => ?_⟩ <;>
      simp only [Field.key, MB_OUT_CTRL_BUSY, MB_REQ_ACK_PENDING, MB_RSP_CTRL_BUSY, MB_IN_CTRL_VALID, TN_MB_PEND, MB_OUT, MB_IN] <;> omega
  obtain ⟨⟨out, ack, rsp, inn⟩, pend, words⟩ := apart
  unfold State.clearMailboxes
  dsimp only [List.foldl_cons, List.foldl_nil]
  rw [setPend_on_ne pend, mailboxWords_on words, on_flag_ne inn, on_flag_ne rsp, on_flag_ne ack, on_flag_ne out]

/-- R470. What a revocation leaves of the windows, the mailboxes and the capacities of a function. -/
theorem revoke_shows {f : Nat} (lo : 1 ≤ f) (hi : f ≤ 8) (s : State) : (∀ e, e < 16 → (s.revoke f).on (HW_ATTR_VALID f e) = false) ∧ (s.revoke f).get (FN_RD_CAP f) = 768 ∧
    (s.revoke f).on (MB_OUT_CTRL_BUSY f) = false := by
  obtain ⟨t, eq⟩ := revoke_eq s f
  rw [eq]
  refine ⟨fun e window => ?_, State.get_set_self _ _ _, ?_⟩
  · have far : 0x520000 ≤ (HW_ATTR_VALID f e).addr := by
      simp only [HW_ATTR_VALID]
      omega
    rw [capsReset_on (by simp [HW_ATTR_VALID]) (by omega) hi, clearMailboxes_on (by simp [HW_ATTR_VALID]) far hi]
    exact hostSideReset_off window t f
  · rw [capsReset_on (by simp [MB_OUT_CTRL_BUSY]) (by simp only [MB_OUT_CTRL_BUSY]; omega) hi]
    exact (clearMailboxes_off lo hi _).1

/-! ### The VFs that are enabled (R454, R455) -/

theorem instState_other {f g : Nat} (lo : 1 ≤ f) (lo' : 1 ≤ g) (apart : f ≠ g) : (TN_STAT_STATE f).key ≠ (TN_STAT_STATE g).key := by
  simp only [Field.key, TN_STAT_STATE]
  omega

/-- What the enabling of the first `k` VFs changes: their states, and the count of VFs. -/
structure VfsShown (n k : Nat) (s t : State) : Prop where
  count : t.host.vfs = n
  power : t.power = s.power
  tenants : t.tenants = s.tenants
  work : t.work = s.work
  mem : t.mem = s.mem
  states : ∀ f, 1 ≤ f → t.instState f = if f ≤ n ∧ f ≤ k then 1 else s.instState f

/-- R454. One VF that was disabled is enabled. -/
def vfEnabled (s : State) (n f : Nat) : State := if f ≤ n then s.set (TN_STAT_STATE f) 1 else s

theorem VfsShown.next {n k : Nat} {s t : State} (h : VfsShown n k s t) : VfsShown n (k + 1) s (vfEnabled t n (k + 1)) := by
  unfold vfEnabled
  split
  next within =>
    refine ⟨h.count, h.power, h.tenants, h.work, h.mem, fun f lo => ?_⟩
    by_cases own : f = k + 1
    · rw [own, if_pos ⟨within, le_rfl⟩]
      exact State.get_set_self _ _ _
    · have kept : (t.set (TN_STAT_STATE (k + 1)) 1).instState f = t.instState f := State.get_set_ne (instState_other lo (by omega) own) _ _
      rw [kept, h.states f lo]
      exact if_congr (by omega) rfl rfl
  next beyond =>
    refine ⟨h.count, h.power, h.tenants, h.work, h.mem, fun f lo => ?_⟩
    rw [h.states f lo]
    exact if_congr (by omega) rfl rfl

theorem pageOn_of_power {s t : State} (h : t.power = s.power) (page : Nat) : t.pageOn page = s.pageOn page := by
  unfold State.pageOn State.domOn State.dom
  rw [h]

/-- R454, R455, R467. What a change of the count of VFs from `before` to `n` does to one VF. -/
def vfStep (n before : Nat) (t : State) (i : Nat) : State :=
  let f := i + 1
  if n < f ∧ f ≤ before then
    (if !t.pageOn 0x510 then (t.hostSideReset f).pcieReset f
     else if t.instState f = 4 then t.setInst f { t.inst f with leaving := true }
     else t.flrStart f true)
  else if before < f ∧ f ≤ n ∧ t.pageOn 0x510 then
    (if t.instState f = 4 then t.setInst f { t.inst f with leaving := false } else t.set (TN_STAT_STATE f) (if (t.inst f).stage = 4 then 3 else 1))
  else t

/-- R454. Of the VFs, one that was disabled before is enabled, or stays disabled. -/
theorem vfStep_enables {n before : Nat} {t : State} {i : Nat} (none : before = 0) (manager : t.pageOn 0x510 = true) (state : t.instState (i + 1) ≠ 4) (stage : (t.inst (i + 1)).stage ≠ 4) :
    vfStep n before t i = vfEnabled t n (i + 1) := by
  unfold vfStep vfEnabled
  by_cases within : i + 1 ≤ n <;> simp [none, manager, state, stage, within]

/-- R454, R455. With no VF enabled before, VFs 1 to `n` become READY. -/
theorem vfsBecome_shows {s : State} {n : Nat} (none : s.host.vfs = 0) (manager : s.pageOn 0x510 = true)
    (free : ∀ f, f < 9 → 1 ≤ f → (s.inst f).stage ≠ 4 ∧ s.instState f ≠ 4) : VfsShown n 8 s (s.vfsBecome n) := by
  have upTo (k : Nat) (small : k ≤ 8) : VfsShown n k s ((List.range k).foldl (vfStep n s.host.vfs) { s with host := { s.host with vfs := n } }) := by
    induction k with
    | zero => exact ⟨rfl, rfl, rfl, rfl, rfl, fun f lo => (if_neg (by omega)).symm⟩
    | succ k ih =>
      have shown := ih (by omega)
      obtain ⟨opened, ready⟩ := free (k + 1) (by omega) (by omega)
      rw [List.range_succ, List.foldl_append]
      generalize (List.range k).foldl (vfStep n s.host.vfs) _ = t at shown ⊢
      have state : t.instState (k + 1) ≠ 4 := by
        rw [shown.states (k + 1) (by omega), if_neg (by omega)]
        exact ready
      have stage : (t.inst (k + 1)).stage ≠ 4 := by
        rw [inst_of_tenants shown.tenants]
        exact opened
      rw [List.foldl_cons, List.foldl_nil, vfStep_enables none (by rw [pageOn_of_power shown.power, manager]) state stage]
      exact shown.next
  exact upTo 8 le_rfl

/-! ### The obligation -/

/-- Settles O40: a reset's beginning by `flrStart_eq` and `flrStart_bare`, its end by `flrEnd_shows`, a revocation by `revoke_shows` and the rules of each resource. -/
theorem resetsRevocationAndVfEnable : Obligations.ResetsRevocationAndVfEnable := by
  refine ⟨?enable, ?disable, ?begins, ?remembers, ?bare, ?aborts, ?ends, ?cleared, ?revokes, ?revoked, ?done⟩
  case enable =>
    intro n s up within vfs manager free
    have run : execVfEnable n s = .next (s.vfsBecome n) := by
      unfold execVfEnable
      rw [if_neg (by simp [up]; omega)]
    have shown := vfsBecome_shows (n := n) vfs manager free
    refine .of_next run ⟨shown.count, fun f lo hi => ?_, fun f lo hi => ?_, shown.work, shown.mem⟩
    · rw [shown.states f lo, if_pos (by omega)]
    · rw [shown.states f (by omega), if_neg (by omega)]
  case disable =>
    intro s up vfs manager state
    show execVfEnable 0 s = _
    have gone : ({ s with host := { s.host with vfs := 0 } } : State).pageOn 0x510 = true := manager
    have ready : ({ s with host := { s.host with vfs := 0 } } : State).instState 1 ≠ 4 := state
    unfold execVfEnable State.vfsBecome
    rw [if_neg (by simp [up]), vfs]
    generalize ({ s with host := { s.host with vfs := 0 } } : State) = t at gone ready
    simp [List.range_succ, gone, ready]
  case begins =>
    intro f s up manager lo _ enabled flows first state
    show execFlr f s = _
    unfold execFlr
    rw [if_neg (by simp [up]; omega), if_neg (by simp [manager]), if_neg (by simp [flows, first]), if_neg state]
  case remembers =>
    intro f leaving s _ hi
    rw [flrStart_inst]
    exact ⟨rfl, rfl, flrStart_reads s f leaving, fun r ring => flrStart_rings ring s f leaving⟩
  case bare =>
    intro f leaving s _ hi cores triples channels
    obtain ⟨⟨stateTasks, stateItems, stateDescs⟩, ⟨busyTasks, busyItems, busyDescs⟩, apart⟩ := flr_keys f
    have state := flrStart_bare hi cores triples channels leaving (x := TN_STAT_STATE f) (by simp [TN_STAT_STATE]) (by simp only [TN_STAT_STATE]; omega) stateTasks stateItems stateDescs
    have busy := flrStart_bare hi cores triples channels leaving (x := TN_STAT_BUSY f) (by simp [TN_STAT_BUSY]) (by simp only [TN_STAT_BUSY]; omega) busyTasks busyItems busyDescs
    refine ⟨state.trans (State.get_set_self _ _ _), ?_⟩
    unfold State.on
    rw [busy]
    exact congrArg (· != 0) (State.get_set_ne apart _ _)
  case aborts => exact fun f n i s slot => abortCore_running slot s f n
  case ends =>
    intro f s awake lo hi resetting ended
    refine ⟨?_, flrEnd_shows hi s⟩
    show execFlrDone f s = _
    unfold execFlrDone
    have idle : s.sluice.descs.any (fun d => d.fn == f) = false := by simpa using ended
    rw [event_awake awake, if_neg (by simp [resetting, idle]; omega)]
  case cleared =>
    intro f b c i s lo hi block holder own slot window
    obtain ⟨out, inn⟩ := clearMailboxes_off lo hi s
    exact ⟨out, inn, fun e within => hostSideReset_off within s f, pcieReset_masked s f, functionBlocks_counter block holder own, congrArg KeySlot.cls (clearWindow_slot slot window)⟩
  case revokes =>
    intro fn f s runs _ _ state unshared
    show execRevokeAll fn f s = _
    unfold execRevokeAll
    exact tnCmd_runs runs (by rcases state with state | state <;> simp [state, unshared]) _
  case revoked =>
    intro f s lo hi
    obtain ⟨windows, reads, mailbox⟩ := revoke_shows lo hi s
    exact ⟨windows, reads, mailbox, fun b block holder => revokeBlocks_holder block holder, fun d domain holder => revokeDomains_off domain holder, fun e set => revokeSet_none set s⟩
  case done =>
    intro f s awake _ _ job
    have run : execTnDone f s = .next (instDone s f 1) := by
      unfold execTnDone
      rw [event_awake awake, if_neg (by simp [job])]
      rfl
    obtain ⟨idle, job, event⟩ := instDone_shows s f 1
    exact .of_next run ⟨idle, job, event, instDone_onlyRegs s f 1⟩

end Sys2Proof.Proofs

/-!
The ports of Causeway: what a change of a port's state, a discarded replay buffer and an exchange record leave (O42; R493, R499 to R502, R506, R515, R519, R523).
-/

namespace Sys2Proof.Proofs
open Sys2Proof.Machine Sys2Proof.Laws Sys2Proof.Claims

/-! ### What the events of a port leave alone -/

/-- The ports, what has gone out, the work and the events that show stay. -/
structure PortStays (s t : State) : Prop where
  ports : t.link.ports = s.link.ports
  out : t.link.out = s.link.out
  work : t.work = s.work
  shown : KeepsShown s t

section
variable {s t u : State}

theorem PortStays.refl (s : State) : PortStays s s := ⟨rfl, rfl, rfl, .refl s⟩

theorem PortStays.trans (h : PortStays s t) (h' : PortStays t u) : PortStays s u := ⟨h'.ports.trans h.ports, h'.out.trans h.out, h'.work.trans h.work, h.shown.trans h'.shown⟩

theorem PortStays.set (h : PortStays s t) (f : Field) (v : Nat) : PortStays s (t.set f v) := h.trans ⟨rfl, rfl, rfl, keepsShown_of_pages rfl⟩

theorem PortStays.flag (h : PortStays s t) (f : Field) (b : Bool) : PortStays s (t.flag f b) := h.set f _

theorem PortStays.raise (h : PortStays s t) (page bit : Nat) : PortStays s (t.raise page bit) :=
  h.trans ⟨congrArg Link.ports (t.raise_link page bit), congrArg Link.out (t.raise_link page bit), t.raise_work page bit, raiseFn_keepsShown t 0 page bit⟩

theorem PortStays.raiseEdge (h : PortStays s t) (page bit : Nat) (was now : Bool) : PortStays s (t.raiseEdge page bit was now) := by
  unfold State.raiseEdge
  exact prop_ite (h.raise page bit) h

theorem PortStays.raiseAll (h : PortStays s t) (page bit : Nat) : PortStays s (t.raiseAll page bit) :=
  h.trans ⟨congrArg Link.ports (t.raiseAll_link page bit), congrArg Link.out (t.raiseAll_link page bit), State.raiseAll_of t page bit (·.work) (fun u fn => u.raiseFn_work fn page bit),
    raiseFns_keepsShown page bit _ t⟩

theorem PortStays.capture (h : PortStays s t) (page : Nat) (st : Status) (i j : Nat) : PortStays s (t.capture page st i j) :=
  h.trans ⟨rfl, rfl, rfl, captureFn_keepsShown t 0 page st i j⟩

theorem PortStays.groupRefresh (h : PortStays s t) : PortStays s t.groupRefresh := by
  have formed := (h.flag GRP_STAT_FORMED t.formed).raiseEdge 0x680 0 (t.on GRP_STAT_FORMED) t.formed
  unfold State.groupRefresh
  dsimp only
  refine PortStays.raiseEdge ?_ _ _ _ _
  split
  · exact formed.trans ⟨rfl, rfl, rfl, keepsShown_of_pages rfl⟩
  · exact formed

theorem PortStays.skewRefresh (h : PortStays s t) : PortStays s t.skewRefresh := by
  unfold State.skewRefresh
  exact prop_ite ((h.flag _ _).raiseAll _ _) (h.flag _ _)

theorem PortStays.setPortState (h : PortStays s t) (p st : Nat) : PortStays s (t.setPortState p st) := by
  unfold State.setPortState
  exact ((((h.set _ _).raiseEdge _ _ _ _).raiseEdge _ _ _ _).raiseEdge _ _ _ _).groupRefresh.skewRefresh

theorem port_of_ports (h : t.link.ports = s.link.ports) (p : Nat) : t.port p = s.port p := by
  unfold State.port
  rw [h]

theorem PortStays.port (h : PortStays s t) (p : Nat) : t.port p = s.port p := port_of_ports h.ports p

end

@[simp] theorem setPortState_port (s : State) (p st q : Nat) : (s.setPortState p st).port q = s.port q := ((PortStays.refl s).setPortState p st).port q

/-! ### A change of a port's state (R499, R519, R523) -/

theorem skewRefresh_get_ne {f : Field} (h : f.key ≠ TB_STAT_SKEW_HOLD.key) (s : State) : s.skewRefresh.get f = s.get f := by
  unfold State.skewRefresh
  exact prop_ite (P := fun t : State => t.get f = s.get f) ((State.raiseAll_get _ _ _ f).trans (State.get_flag_ne h _ _)) (State.get_flag_ne h _ _)

/-- The fields of the ports are not those that the group and the skew show. -/
theorem port_shown {f : Field} (low : f.lsb < 32) (page : 0x600000 ≤ f.addr ∧ f.addr < 0x680000) : f.key ≠ GRP_STAT_FORMED.key ∧ f.key ≠ TB_STAT_SKEW_HOLD.key := by
  have formed : GRP_STAT_FORMED.key = 0x6800A8 * 32 := rfl
  have hold : TB_STAT_SKEW_HOLD.key = 0x2044 * 32 + 3 := rfl
  rw [formed, hold]
  simp only [Field.key]
  omega

/-- A field of a port beside the state. -/
theorem setPortState_get_ne {f : Field} {p : Nat} (low : f.lsb < 32) (page : 0x600000 ≤ f.addr ∧ f.addr < 0x680000) (other : f.key ≠ (PORT_STAT_STATE p).key) (s : State) (st : Nat) :
    (s.setPortState p st).get f = s.get f := by
  obtain ⟨formed, hold⟩ := port_shown low page
  unfold State.setPortState
  dsimp only
  rw [skewRefresh_get_ne hold, groupRefresh_get_ne formed, raiseEdge_get, raiseEdge_get, raiseEdge_get, State.get_set_ne other]

theorem setPortState_get {p st : Nat} (port : p < 8) (small : st < 7) (s : State) : (s.setPortState p st).get (PORT_STAT_STATE p) = st := by
  obtain ⟨formed, hold⟩ := port_shown (f := PORT_STAT_STATE p) (by simp [PORT_STAT_STATE]) (by simp only [PORT_STAT_STATE]; omega)
  unfold State.setPortState
  dsimp only
  rw [skewRefresh_get_ne hold, groupRefresh_get_ne formed, raiseEdge_get, raiseEdge_get, raiseEdge_get, State.get_set_self]
  exact Nat.mod_eq_of_lt (show st < 2 ^ 3 by omega)

theorem groupRefresh_formed (s : State) : s.groupRefresh.on GRP_STAT_FORMED = s.formed := by
  have flagged (t : State) (b : Bool) : ((s.flag GRP_STAT_FORMED b).raiseEdge 0x680 0 (s.on GRP_STAT_FORMED) b).on GRP_STAT_FORMED = b := by
    unfold State.on
    rw [raiseEdge_get]
    exact State.on_flag_self rfl s b
  unfold State.groupRefresh
  dsimp only
  rw [State.on, raiseEdge_get]
  exact prop_ite (P := fun t : State => t.on GRP_STAT_FORMED = s.formed) (flagged s _) (flagged s _)

theorem formed_of_regs {s t : State} (h : t.regs = s.regs) : t.formed = s.formed := by
  have get (f : Field) : t.get f = s.get f := State.get_of_regs h f
  unfold State.formed State.inData State.on
  simp only [get]

theorem setPortState_formed (s : State) (p st : Nat) : (s.setPortState p st).on GRP_STAT_FORMED = (s.set (PORT_STAT_STATE p) st).formed := by
  unfold State.setPortState
  dsimp only
  rw [State.on, skewRefresh_get_ne (by decide)]
  refine (groupRefresh_formed _).trans (formed_of_regs ?_)
  rw [raiseEdge_regs, raiseEdge_regs, raiseEdge_regs]

/-- R622. The events of a change of state. -/
theorem setPortState_shows (s : State) (p st : Nat) : (st = 5 ∧ s.get (PORT_STAT_STATE p) ≠ 5 → (s.setPortState p st).shows 0 (portPage p) 0 = true) ∧
    (st = 6 ∧ s.get (PORT_STAT_STATE p) ≠ 6 → (s.setPortState p st).shows 0 (portPage p) 1 = true) ∧
    (st = 4 ∧ s.get (PORT_STAT_STATE p) ≠ 4 → (s.setPortState p st).shows 0 (portPage p) 2 = true) := by
  have follow (t : State) : PortStays t t.groupRefresh.skewRefresh := (PortStays.refl t).groupRefresh.skewRefresh
  unfold State.setPortState
  dsimp only
  generalize s.set (PORT_STAT_STATE p) st = moved
  refine ⟨fun ⟨now, was⟩ => ?_, fun ⟨now, was⟩ => ?_, fun ⟨now, was⟩ => ?_⟩
  · refine (follow _).shown _ _ _ (((PortStays.refl _).raiseEdge _ _ _ _).shown _ _ _ (((PortStays.refl _).raiseEdge _ _ _ _).shown _ _ _ ?_))
    exact raiseEdge_shows (by simp [was]) (by simp [now]) _ _ _
  · refine (follow _).shown _ _ _ (((PortStays.refl _).raiseEdge _ _ _ _).shown _ _ _ ?_)
    exact raiseEdge_shows (by simp [was]) (by simp [now]) _ _ _
  · refine (follow _).shown _ _ _ ?_
    exact raiseEdge_shows (by simp [was]) (by simp [now]) _ _ _

/-! ### Late errors and the replay buffer (R244, R515, R516) -/

section
variable {s t : State}

theorem PortStays.logLate (h : PortStays s t) (e : LateErr) : PortStays s (t.logLate e) := by
  have logged : PortStays t { t with link := { t.link with leq := t.link.leq ++ [e] } } := ⟨rfl, rfl, rfl, keepsShown_of_pages rfl⟩
  unfold State.logLate
  exact prop_ite ((h.trans logged).raise _ _) (((h.raise _ _).set LEQ_LOST _).raise _ _)

theorem PortStays.loseWrite (h : PortStays s t) (flow m : Nat) : PortStays s (t.loseWrite flow m) := by
  unfold State.loseWrite
  exact prop_ite (h.trans ⟨rfl, rfl, rfl, keepsShown_of_pages rfl⟩) h

theorem PortStays.lostRef (h : PortStays s t) (r : FlitRef) : PortStays s (t.lostRef r) := by
  have drawn : PortStays t t.drawFree.2 := ⟨rfl, rfl, rfl, keepsShown_of_pages rfl⟩
  unfold State.lostRef
  split
  · exact prop_ite ((h.loseWrite _ _).logLate _) h
  · exact prop_ite ((h.trans drawn).logLate _) h
  · exact h

end

/-- R515. A port whose replay buffer is discarded. -/
def replayGone (v : Port) : Port :=
  { v with replay := [], resend := none, resends := 0, queue := v.queue.filter (fun m => !followsLost v.refs m), txWrite := none, rxWrite := none }

theorem discardReplay_port (s : State) (p : Nat) : (s.discardReplay p).port p = replayGone (s.port p) := by
  have lost : PortStays (s.setPort p (replayGone (s.port p))) (s.discardReplay p) :=
    foldl_of (P := PortStays (s.setPort p (replayGone (s.port p)))) (.refl _) fun t r h => h.lostRef r
  exact (lost.port p).trans (State.port_setPort_self s p _)

/-- R244, R515. The write that a discarded replay buffer held is logged as lost. -/
theorem discardReplay_logs {s : State} {p : Nat} {w : LinkWrite} (refs : (s.port p).refs = [.write w]) (alone : (s.port p).queue.filter (followsLost [.write w]) = [])
    (own : w.origin = s.get GRP_MEMBER) (room : s.link.leq.length < 64) :
    (s.discardReplay p).link.leq = s.link.leq ++
      [{ status := Status.linkLost.code, kind := 1, flow := w.flow, fn := w.fn, member := s.get GRP_MEMBER, ref := w.lf, seq := w.seq, time := s.now }] := by
  have one : s.discardReplay p = (s.setPort p (replayGone (s.port p))).lostRef (.write w) := by
    unfold State.discardReplay
    simp only [refs, alone, List.map_nil, List.append_nil, List.foldl_cons, List.foldl_nil]
    unfold replayGone
    rw [refs]
  have lost (t : State) (flow m : Nat) : (t.loseWrite flow m).link.leq = t.link.leq ∧ (t.loseWrite flow m).time = t.time := by
    unfold State.loseWrite
    split <;> exact ⟨rfl, rfl⟩
  obtain ⟨leq, time⟩ := lost (s.setPort p (replayGone (s.port p))) (w.flow % 4096) w.dest
  rw [one]
  unfold State.lostRef State.logLate
  dsimp only
  rw [if_pos (by exact own), if_pos (by rw [leq]; exact room), State.raise_link, leq]
  rfl

/-! ### Entering DATA (R494, R499, R502) -/

theorem voidItems_one (r : Replay) : (voidItems [r]).head?.map (·.seq) = some r.seq := by
  unfold voidItems
  simp only [List.map_cons, List.map_nil, List.head?_cons, Option.map_some, Option.some.injEq]
  split <;> rfl

/-- R491. With nothing below a number in the replay buffer, its acknowledgement does nothing. -/
theorem ackBelow_none {s : State} {p n : Nat} {r : Replay} (one : (s.port p).replay = [r]) (beyond : n ≤ r.seq) : s.ackBelow p n = s := by
  have none : (s.port p).replay.filter (fun x => decide (x.seq < n)) = [] := by
    rw [one]
    simpa using beyond
  unfold State.ackBelow
  simp only [none, List.isEmpty_nil, if_true]

/-- R494, R502. A port that enters DATA. -/
def dataPort (v : Port) : Port :=
  { v with credits := vcBuffers, owed := (0, 0, 0), resends := 0, matched := false, matchSent := false, resumeOk := false, fresh := false, peerMatch := none, retry := false, echo := none }

/-- R499, R502. The state of a port's registers as it enters DATA. -/
def dataShown (s : State) (p psess mask : Nat) (resume : Bool) (v : Port) : State :=
  (((((s.setPort p (dataPort v)).set (PEER_SESSION p) psess).flag (PORT_STAT_RESUMED p) resume).set (PORT_LANES_LANE_ACTIVE p) mask).set (PORT_STAT_MISMATCH p) 0).setPortState p 5

theorem port_apart (p : Nat) : ((PEER_SESSION p).key ≠ (PORT_STAT_RESUMED p).key ∧ (PEER_SESSION p).key ≠ (PORT_LANES_LANE_ACTIVE p).key ∧ (PEER_SESSION p).key ≠ (PORT_STAT_MISMATCH p).key) ∧
    ((PORT_STAT_RESUMED p).key ≠ (PORT_LANES_LANE_ACTIVE p).key ∧ (PORT_STAT_RESUMED p).key ≠ (PORT_STAT_MISMATCH p).key) ∧ (PORT_LANES_LANE_ACTIVE p).key ≠ (PORT_STAT_MISMATCH p).key := by
  simp only [Field.key, PEER_SESSION, PORT_STAT_RESUMED, PORT_LANES_LANE_ACTIVE, PORT_STAT_MISMATCH]
  omega

/-- The fields of a port are apart from its state. -/
theorem state_apart (p : Nat) : ((PEER_SESSION p).key ≠ (PORT_STAT_STATE p).key ∧ (PORT_STAT_RESUMED p).key ≠ (PORT_STAT_STATE p).key ∧ (PORT_LANES_LANE_ACTIVE p).key ≠ (PORT_STAT_STATE p).key ∧
      (PORT_STAT_MISMATCH p).key ≠ (PORT_STAT_STATE p).key) ∧
    (PORT_LANES_LANE_LOCK p).key ≠ (PORT_STAT_STATE p).key ∧ (SESSION p).key ≠ (PORT_STAT_STATE p).key ∧ (PORT_STAT_STATE p).key ≠ (PORT_STAT_DOWN_CAUSE p).key ∧
    (PORT_STAT_STATE p).key ≠ (DOWN_CNT p).key ∧ (DOWN_CNT p).key ≠ (PORT_STAT_STATE p).key ∧ (PORT_STAT_STATE p).key ≠ (TX_FLITS p).key := by
  simp only [Field.key, PEER_SESSION, PORT_STAT_RESUMED, PORT_LANES_LANE_ACTIVE, PORT_STAT_MISMATCH, PORT_STAT_STATE, PORT_LANES_LANE_LOCK, SESSION, PORT_STAT_DOWN_CAUSE, DOWN_CNT, TX_FLITS]
  omega

theorem dataShown_shows {p : Nat} (port : p < 8) (s : State) (psess mask : Nat) (resume : Bool) (v : Port) : (dataShown s p psess mask resume v).inData p = true ∧
    (dataShown s p psess mask resume v).port p = dataPort v ∧ (dataShown s p psess mask resume v).get (PEER_SESSION p) = psess % 2 ^ 32 ∧
    (dataShown s p psess mask resume v).on (PORT_STAT_RESUMED p) = resume ∧ (dataShown s p psess mask resume v).get (PORT_LANES_LANE_ACTIVE p) = mask % 256 := by
  obtain ⟨⟨sessResumed, sessActive, sessMismatch⟩, ⟨resumedActive, resumedMismatch⟩, activeMismatch⟩ := port_apart p
  obtain ⟨⟨sess, resumed, active, _⟩, _⟩ := state_apart p
  unfold dataShown
  refine ⟨?_, ?_, ?_, ?_, ?_⟩
  · unfold State.inData
    rw [setPortState_get port (by omega)]
    rfl
  · rw [setPortState_port]
    exact State.port_setPort_self s p _
  · rw [setPortState_get_ne (by simp [PEER_SESSION]) (by simp only [PEER_SESSION]; omega) sess, State.get_set_ne sessMismatch, State.get_set_ne sessActive, State.get_flag_ne sessResumed]
    exact State.get_set_self _ _ _
  · rw [State.on, setPortState_get_ne (by simp [PORT_STAT_RESUMED]) (by simp only [PORT_STAT_RESUMED]; omega) resumed, State.get_set_ne resumedMismatch, State.get_set_ne resumedActive]
    exact State.on_flag_self rfl _ _
  · rw [setPortState_get_ne (by simp [PORT_LANES_LANE_ACTIVE]) (by simp only [PORT_LANES_LANE_ACTIVE]; omega) active, State.get_set_ne activeMismatch]
    exact State.get_set_self _ _ _

theorem enterData_fresh (s : State) (p psess pexp : Nat) :
    s.enterData p false psess pexp = dataShown (s.discardReplay p) p psess (s.get (PORT_LANES_LANE_MASK p)) false { (s.discardReplay p).port p with tx := 0, rx := 0 } := rfl

theorem enterData_resumed {s : State} {p pexp : Nat} {r : Replay} (one : (s.port p).replay = [r]) (beyond : pexp ≤ r.seq) (psess : Nat) :
    s.enterData p true psess pexp = dataShown s p psess (s.get (PORT_LANES_LANE_MASK p)) true { s.port p with replay := voidItems [r], resend := some r.seq } := by
  unfold State.enterData
  simp only [if_true, ackBelow_none one beyond, one, voidItems_one]
  rfl

/-! ### Leaving DATA (R181, R493, R514) -/

/-- Beside the messages that wait at them, the ports stay. -/
def QueuesOnly (s t : State) : Prop := ∀ q, ∃ l, t.port q = { s.port q with queue := l }

section
variable {s t u : State}

theorem QueuesOnly.refl (s : State) : QueuesOnly s s := fun _ => ⟨_, rfl⟩

theorem QueuesOnly.of_ports (h : QueuesOnly s t) (same : u.link.ports = t.link.ports) : QueuesOnly s u := fun q => by
  obtain ⟨l, eq⟩ := h q
  exact ⟨l, (port_of_ports same q).trans eq⟩

theorem QueuesOnly.enqueueMsg (h : QueuesOnly s t) (p : Nat) (m : LinkMsg) : QueuesOnly s (t.enqueueMsg p m) := fun q => by
  obtain ⟨l, eq⟩ := h q
  unfold State.enqueueMsg
  by_cases own : q = p
  · subst own
    rw [State.port_setPort_self, eq]
    exact ⟨_, rfl⟩
  · rw [State.port_setPort_ne own]
    exact ⟨l, eq⟩

theorem QueuesOnly.staleFlow (h : QueuesOnly s t) (w : Nat) : QueuesOnly s (t.staleFlow w) :=
  h.of_ports (congrArg Link.ports ((State_staleFlow_good w (good_self t (· == .link)) rfl rfl rfl rfl rfl).same .link rfl))

theorem QueuesOnly.sendNotice (h : QueuesOnly s t) (n : LinkNotice) : QueuesOnly s (t.sendNotice n) := by
  unfold State.sendNotice
  split
  · exact h.enqueueMsg _ _
  · exact h.of_ports ((PortStays.refl t).logLate _).ports

theorem QueuesOnly.staleRef (h : QueuesOnly s t) (r : FlitRef) : QueuesOnly s (t.staleRef r) := by
  unfold State.staleRef
  split
  · exact prop_ite (h.staleFlow _) (h.sendNotice _)
  · exact prop_ite (h.staleFlow _) (QueuesOnly.sendNotice (t := t.drawFree.2) (h.of_ports rfl) _)
  · exact h

end

theorem holdChains_port (s : State) (p q : Nat) : (s.holdChains p).port q = s.port q :=
  port_of_ports (congrArg Link.ports ((State_holdChains_good p (good_self s (· == .link)) rfl rfl rfl rfl rfl).same .link rfl)) q

theorem dropArrival_port (s : State) (p : Nat) : (s.dropArrival p).port p = { s.port p with arrival := none } := by
  unfold State.dropArrival
  split
  next none => rw [← none]
  next a _ =>
    have left : ((s.setPort p { s.port p with arrival := none }).leaveCell a.chain (· == .port p)).port p = { s.port p with arrival := none } :=
      (port_of_ports rfl p).trans (State.port_setPort_self s p _)
    dsimp only
    split
    · split
      next k _ _ =>
        refine (port_of_ports (congrArg Link.ports ?_) p).trans left
        exact (State_watched_good a.chain (·.freeCell k) (good_self _ (· == .link)) (fun x h => State_freeCell_good k h rfl) rfl rfl rfl).same .link rfl
      · exact left
    · exact left

/-- R170, R491. With nothing accepted and the arriving item incomplete, a port that leaves DATA has no arriving item. -/
theorem cutArrival_none {s : State} {p : Nat} (empty : (s.port p).rxBuf = []) (partly : (s.port p).arrival.all (fun a => decide (a.bytes.length < a.len)) = true) :
    ((s.cutArrival p).port p).arrival = none := by
  unfold State.cutArrival
  simp only [empty, List.foldl_nil, List.any_nil, Bool.false_eq_true, if_false]
  cases arriving : (s.port p).arrival with
  | none => exact arriving
  | some a =>
    have more : a.bytes.length < a.len := by simpa [arriving] using partly
    simp only [show ¬(a.len - a.bytes.length = 0) by omega, if_false]
    rw [dropArrival_port]

/-- R181. A port that leaves DATA for a state: its chains enter the link hold. -/
def dataHeld (s : State) (p st : Nat) : State := ((s.setPortState p st).set (PORT_LANES_LANE_ACTIVE p) 0).holdChains p

theorem dataHeld_port (s : State) (p st : Nat) : (dataHeld s p st).port p = s.port p :=
  (holdChains_port _ p p).trans ((((PortStays.refl s).setPortState p st).set _ 0).port p)

/-- R493. A port that has left DATA sends nothing and owes nothing. -/
def portLeft (v : Port) : Port := { v with sending := none, retry := false, leaving := false, leaveSent := false, leaveGot := false, leaveAcked := false, adding := none }

theorem leaveData_queues (s : State) (p st : Nat) :
    QueuesOnly (((dataHeld s p st).cutArrival p).setPort p (portLeft (((dataHeld s p st).cutArrival p).port p))) (s.leaveData p st) := by
  have left : s.leaveData p st = ((((dataHeld s p st).cutArrival p).setPort p (portLeft (((dataHeld s p st).cutArrival p).port p))).port p).refs.foldl State.staleRef
      ((((dataHeld s p st).cutArrival p).setPort p (portLeft (((dataHeld s p st).cutArrival p).port p))).flag (PORT_LANES_LANE_BUSY p) false) := by
    unfold State.leaveData dataHeld portLeft
    dsimp only
  rw [left]
  generalize ((dataHeld s p st).cutArrival p).setPort p _ = t
  have idle : QueuesOnly t (t.flag (PORT_LANES_LANE_BUSY p) false) := (QueuesOnly.refl t).of_ports rfl
  generalize t.flag (PORT_LANES_LANE_BUSY p) false = u at idle ⊢
  exact List.foldlRecOn (motive := QueuesOnly t) _ State.staleRef idle fun v h r _ => h.staleRef r

theorem portLeft_idle (v : Port) (l : List LinkMsg) :
    ({ portLeft v with queue := l }).sending = none ∧ ({ portLeft v with queue := l }).leaving = false ∧ ({ portLeft v with queue := l }).arrival = v.arrival :=
  ⟨rfl, rfl, rfl⟩

/-- R181, R493. What a port that leaves DATA keeps of what it held. -/
theorem leaveData_port (s : State) (p st : Nat) : ((s.leaveData p st).port p).sending = none ∧ ((s.leaveData p st).port p).leaving = false ∧
    ((s.port p).rxBuf = [] → (s.port p).arrival.all (fun a => decide (a.bytes.length < a.len)) = true → ((s.leaveData p st).port p).arrival = none) := by
  obtain ⟨l, eq⟩ := leaveData_queues s p st p
  rw [State.port_setPort_self] at eq
  rw [← dataHeld_port s p st]
  have cut := cutArrival_none (s := dataHeld s p st) (p := p)
  generalize ((dataHeld s p st).cutArrival p).port p = v at eq cut
  generalize (s.leaveData p st).port p = w at eq ⊢
  subst eq
  obtain ⟨sent, going, arrived⟩ := portLeft_idle v l
  exact ⟨sent, going, fun empty partly => arrived.trans (cut empty partly)⟩

/-! ### A link that goes DOWN (R493, R525) -/

theorem cause_apart (p : Nat) : (PORT_STAT_DOWN_CAUSE p).key ≠ (DOWN_CNT p).key := by
  simp only [Field.key, PORT_STAT_DOWN_CAUSE, DOWN_CNT]
  omega

/-- R616. A captured error shows on its page. -/
theorem capture_page (s : State) (page : Nat) (st : Status) (i j : Nat) : (s.capture page st i j).page page = { s.page page with
    errCode := st.code, errCount := min 255 ((s.page page).errCount + 1), errInfo0 := i % 2 ^ 32, errInfo1 := j % 2 ^ 32, errNext := none, errTime := s.now } := by
  have own := State.captureFn_page_self s 0 page st i j
  rw [pageKey_manager] at own
  exact own

theorem linkDown_shows {cause : Nat} (small : cause < 8) (s : State) (p : Nat) : (s.linkDown p cause).get (PORT_STAT_DOWN_CAUSE p) = cause ∧
    ((s.linkDown p cause).page (portPage p)).errCode = Status.linkLost.code ∧ ((s.linkDown p cause).page (portPage p)).errInfo0 = cause := by
  unfold State.linkDown
  dsimp only
  refine ⟨?_, ?_, ?_⟩
  · rw [State.capture_get, State.get_add_ne (cause_apart p), State.get_set_self]
    exact Nat.mod_eq_of_lt (show cause < 2 ^ 4 by omega)
  · rw [capture_page]
  · rw [capture_page]
    exact Nat.mod_eq_of_lt (by omega)

theorem linkDown_port {s : State} {p : Nat} (data : s.inData p = true) (cause : Nat) : (s.linkDown p cause).port p = (s.leaveData p 6).port p := by
  unfold State.linkDown
  rw [if_pos data]
  exact ((((PortStays.refl (s.leaveData p 6)).set (PORT_STAT_DOWN_CAUSE p) cause).set (DOWN_CNT p) _).capture _ _ _ _).port p

theorem linkDown_idle {s : State} {p : Nat} (idle : s.inData p = false) (cause : Nat) :
    s.linkDown p cause = ((((s.setPortState p 6).set (PORT_STAT_DOWN_CAUSE p) cause).add (DOWN_CNT p) 1).capture (portPage p) .linkLost cause 0) := by
  unfold State.linkDown
  rw [if_neg (by simp [idle])]

/-! ### The exchange (R500 to R502) -/

theorem peerDigest_apart (p i : Nat) : (PEER_GROUP p).key ≠ (PEER_DIGEST p i).key ∧ (PORT_STAT_STATE p).key ≠ (PEER_DIGEST p i).key := by
  simp only [Field.key, PEER_GROUP, PORT_STAT_STATE, PEER_DIGEST]
  omega

theorem peer_apart (p : Nat) : ((PEER_GROUP p).key ≠ (PEER_INFO p).key ∧ (PEER_GROUP p).key ≠ (PEER_EPOCH_LO p).key ∧ (PEER_GROUP p).key ≠ (PEER_EPOCH_HI p).key ∧
      (PEER_GROUP p).key ≠ (PEER_SEC_LO p).key ∧ (PEER_GROUP p).key ≠ (PEER_SEC_HI p).key ∧ (PEER_GROUP p).key ≠ (PORT_STAT_MISMATCH p).key ∧ (PEER_GROUP p).key ≠ (PORT_STAT_STATE p).key) ∧
    ((PORT_STAT_STATE p).key ≠ (PEER_ID p).key ∧ (PORT_STAT_STATE p).key ≠ (PEER_GROUP p).key ∧ (PORT_STAT_STATE p).key ≠ (PEER_INFO p).key ∧ (PORT_STAT_STATE p).key ≠ (PEER_EPOCH_LO p).key ∧
      (PORT_STAT_STATE p).key ≠ (PEER_EPOCH_HI p).key ∧ (PORT_STAT_STATE p).key ≠ (PEER_SEC_LO p).key ∧ (PORT_STAT_STATE p).key ≠ (PEER_SEC_HI p).key ∧
      (PORT_STAT_STATE p).key ≠ (PORT_STAT_MISMATCH p).key) := by
  simp only [Field.key, PEER_ID, PEER_GROUP, PEER_INFO, PEER_EPOCH_LO, PEER_EPOCH_HI, PEER_SEC_LO, PEER_SEC_HI, PORT_STAT_MISMATCH, PORT_STAT_STATE]
  omega

theorem leNat_lt (l : List Byte) : leNat l < 256 ^ l.length := by
  induction l with
  | nil => simp [leNat]
  | cons b l ih =>
    have byte := b.isLt
    rw [List.length_cons, pow_succ]
    unfold leNat
    omega

theorem hdr_lt (h : List Byte) (off n : Nat) : hdr h off n < 256 ^ n :=
  (leNat_lt _).trans_le (Nat.pow_le_pow_right (by decide) (List.length_take_le _ _))

/-- R501. What a captured record leaves of the port's state, its group and the ports. -/
theorem capturePeer_shows (s : State) (p : Nat) (r : List Byte) : (s.capturePeer p r).get (PORT_STAT_STATE p) = s.get (PORT_STAT_STATE p) ∧
    (s.capturePeer p r).get (PEER_GROUP p) = hdr r 4 4 ∧ (s.capturePeer p r).port p = s.port p := by
  obtain ⟨⟨info, epochLo, epochHi, secLo, secHi, _⟩, stId, stGroup, stInfo, stEpochLo, stEpochHi, stSecLo, stSecHi, _⟩ := peer_apart p
  have digests (t : State) {f : Field} (apart : ∀ i, f.key ≠ (PEER_DIGEST p i).key) :
      ((List.range 8).foldl (fun t i => t.set (PEER_DIGEST p i) (hdr r (0x2C + 4 * i) 4)) t).get f = t.get f :=
    foldl_of (P := fun u : State => u.get f = t.get f) rfl fun u i same => (State.get_set_ne (apart i) _ _).trans same
  have ports (t : State) : ((List.range 8).foldl (fun t i => t.set (PEER_DIGEST p i) (hdr r (0x2C + 4 * i) 4)) t).link = t.link :=
    foldl_of (P := fun u : State => u.link = t.link) rfl fun u i same => (State.set_link u _ _).trans same
  unfold State.capturePeer
  dsimp only
  refine ⟨?_, ?_, ?_⟩
  · rw [digests _ fun i => (peerDigest_apart p i).2, State.get_set_ne stSecHi, State.get_set_ne stSecLo, State.get_set_ne stEpochHi, State.get_set_ne stEpochLo, State.get_set_ne stInfo,
      State.get_set_ne stGroup, State.get_set_ne stId]
  · rw [digests _ fun i => (peerDigest_apart p i).1, State.get_set_ne secHi, State.get_set_ne secLo, State.get_set_ne epochHi, State.get_set_ne epochLo, State.get_set_ne info,
      State.get_set_self]
    exact Nat.mod_eq_of_lt (hdr_lt r 4 4)
  · refine port_of_ports ?_ p
    rw [ports]
    rfl

/-- R501. The mask of the fields that differ is one of seven bits. -/
theorem mismatch_lt (s : State) (p : Nat) (r : List Byte) : s.mismatch p r < 2 ^ 7 := by
  have bit (b : Bool) : b2n b ≤ 1 := by cases b <;> decide
  unfold State.mismatch
  dsimp only
  generalize (hdr r 0 2 != s.get FU_PROFILE_CUR) = b0
  generalize (hdr r 4 4 != s.get GRP_ID) = b1
  generalize ((s.on (PORT_CTRL_PEER_CHECK p) && hdr r 8 1 != s.get (PORT_CTRL_PEER_EXPECT p)) || hdr r 8 1 == s.get GRP_MEMBER) = b2
  generalize ((r.drop 0x2C).take 32 != (List.range 8).flatMap (fun i => leBytes 4 (s.get (GRP_DIGEST i)))) = b3
  generalize (hdr r 0x1C 8 != s.pair GRP_EPOCH_LO GRP_EPOCH_HI) = b4
  generalize (bitOf (hdr r 11 1) 0 != (s.port p).enc || ((s.port p).enc && (r.drop 0x4C).take 32 != s.exchHmac p (r.take 0x4C))) = b5
  generalize (hdr r 10 1 != s.get (PORT_LANES_LANE_MASK p)) = b6
  have h0 := bit b0
  have h1 := bit b1
  have h2 := bit b2
  have h3 := bit b3
  have h4 := bit b4
  have h5 := bit b5
  have h6 := bit b6
  omega

/-- R501. A port whose record differs. -/
def mismatched (s : State) (p m : Nat) : State :=
  let t := s.set (PORT_STAT_MISMATCH p) m
  ((t.setPort p { t.port p with matched := false, matchSent := false, peerMatch := none }).setPortState p 4).capture (portPage p) .badParam m 0

theorem exchange_differs {s : State} {p : Nat} {r : List Byte} (differs : (s.capturePeer p r).mismatch p r ≠ 0) :
    s.exchange p r = mismatched (s.capturePeer p r) p ((s.capturePeer p r).mismatch p r) := by
  unfold State.exchange
  dsimp only
  rw [if_pos differs]
  rfl

theorem mismatched_shows {p m : Nat} (port : p < 8) (small : m < 2 ^ 7) {s : State} (exchanging : s.get (PORT_STAT_STATE p) = 3) : (mismatched s p m).get (PORT_STAT_STATE p) = 4 ∧
    (mismatched s p m).get (PORT_STAT_MISMATCH p) = m ∧ ((mismatched s p m).port p).matched = false ∧ (mismatched s p m).shows 0 (portPage p) 2 = true ∧
    (mismatched s p m).get (PEER_GROUP p) = s.get (PEER_GROUP p) ∧ ((mismatched s p m).page (portPage p)).errInfo0 = m := by
  obtain ⟨⟨_, _, _, _, _, group, groupState⟩, _, _, _, _, _, _, _, mismatch⟩ := peer_apart p
  obtain ⟨⟨_, _, _, mismatchState⟩, _⟩ := state_apart p
  unfold mismatched
  dsimp only
  refine ⟨?_, ?_, ?_, ?_, ?_, ?_⟩
  · rw [State.capture_get, setPortState_get port (by omega)]
  · rw [State.capture_get, setPortState_get_ne (by simp [PORT_STAT_MISMATCH]) (by simp only [PORT_STAT_MISMATCH]; omega) mismatchState, State.get_setPort, State.get_set_self]
    exact Nat.mod_eq_of_lt small
  · rw [((PortStays.refl _).capture _ _ _ _).port p, setPortState_port, State.port_setPort_self]
  · refine captureFn_keepsShown _ _ _ _ _ _ _ _ _ ((setPortState_shows _ _ _).2.2 ⟨rfl, ?_⟩)
    rw [State.get_setPort, State.get_set_ne mismatch, exchanging]
    decide
  · rw [State.capture_get, setPortState_get_ne (by simp [PEER_GROUP]) (by simp only [PEER_GROUP]; omega) groupState, State.get_setPort, State.get_set_ne group]
  · rw [capture_page]
    exact Nat.mod_eq_of_lt (by omega)

/-! ### A START (R502, R503) -/

/-- R495, R503. A port that starts training. -/
def startedPort (v : Port) (enc : Bool) : Port :=
  { v with enc := enc, matched := false, matchSent := false, resumeOk := false, fresh := false, peerMatch := none, leaving := false, leaveSent := false, leaveGot := false, leaveAcked := false }

/-- R499. What training clears. -/
def training (s : State) (p : Nat) : State := (((s.flag (PORT_STAT_RESUMED p) false).set (PORT_STAT_MISMATCH p) 0).set (PORT_LANES_LANE_LOCK p) 0).setPortState p 1

theorem lock_apart (p : Nat) : ((PORT_STAT_RESUMED p).key ≠ (PORT_LANES_LANE_LOCK p).key ∧ (PORT_STAT_MISMATCH p).key ≠ (PORT_LANES_LANE_LOCK p).key ∧ (SESSION p).key ≠ (PORT_LANES_LANE_LOCK p).key ∧
      (PORT_STAT_STATE p).key ≠ (PORT_LANES_LANE_LOCK p).key) ∧
    (SESSION p).key ≠ (PORT_STAT_MISMATCH p).key ∧ (SESSION p).key ≠ (PORT_STAT_RESUMED p).key := by
  simp only [Field.key, PORT_STAT_RESUMED, PORT_LANES_LANE_LOCK, PORT_STAT_MISMATCH, SESSION, PORT_STAT_STATE]
  omega

theorem training_shows {p : Nat} (port : p < 8) (s : State) : (training s p).get (PORT_STAT_STATE p) = 1 ∧ (training s p).port p = s.port p ∧ (training s p).get (PORT_LANES_LANE_LOCK p) = 0 ∧
    (training s p).on (PORT_STAT_RESUMED p) = false ∧ (training s p).get (PORT_STAT_MISMATCH p) = 0 ∧ (training s p).get (SESSION p) = s.get (SESSION p) := by
  obtain ⟨⟨resumedLock, mismatchLock, sessionLock, _⟩, sessionMismatch, sessionResumed⟩ := lock_apart p
  obtain ⟨⟨_, resumedState, _, mismatchState⟩, lockState, sessionState, _⟩ := state_apart p
  obtain ⟨_, ⟨_, resumedMismatch⟩, _⟩ := port_apart p
  unfold training
  refine ⟨setPortState_get port (by decide) _, ?_, ?_, ?_, ?_, ?_⟩
  · rw [setPortState_port]
    rfl
  · rw [setPortState_get_ne (by simp [PORT_LANES_LANE_LOCK]) (by simp only [PORT_LANES_LANE_LOCK]; omega) lockState, State.get_set_self, Nat.zero_mod]
  · rw [State.on, setPortState_get_ne (by simp [PORT_STAT_RESUMED]) (by simp only [PORT_STAT_RESUMED]; omega) resumedState, State.get_set_ne resumedLock, State.get_set_ne resumedMismatch]
    exact State.on_flag_self rfl _ _
  · rw [setPortState_get_ne (by simp [PORT_STAT_MISMATCH]) (by simp only [PORT_STAT_MISMATCH]; omega) mismatchState, State.get_set_ne mismatchLock, State.get_set_self, Nat.zero_mod]
  · rw [setPortState_get_ne (by simp [SESSION]) (by simp only [SESSION]; omega) sessionState, State.get_set_ne sessionLock, State.get_set_ne sessionMismatch, State.get_flag_ne sessionResumed]

theorem portStart_recorded {fn p : Nat} {s : State} (reach : s.Reaches fn (portPage p)) (ok : s.startStatus p = .ok) (recorded : ¬(s.get (SESSION p) = 0 ∨ s.get (PEER_SESSION p) = 0)) :
    exec (.portStart fn p) s = .next (training (s.setPort p (startedPort (s.port p) (s.on (PORT_CTRL_ENC_EN p)))) p) := by
  show execPortStart fn p s = _
  unfold execPortStart
  rw [mmio_reaches reach, ok]
  dsimp only
  rw [if_neg recorded]
  rfl

theorem portStart_unrecorded {fn p : Nat} {s : State} (reach : s.Reaches fn (portPage p)) (ok : s.startStatus p = .ok) (unrecorded : s.get (SESSION p) = 0 ∨ s.get (PEER_SESSION p) = 0) :
    exec (.portStart fn p) s = .next (training ((s.setPort p (startedPort (s.port p) (s.on (PORT_CTRL_ENC_EN p)))).freshSession p) p) := by
  show execPortStart fn p s = _
  unfold execPortStart
  rw [mmio_reaches reach, ok]
  dsimp only
  rw [if_pos unrecorded]
  rfl

theorem portStart_refused {fn p : Nat} {s : State} (reach : s.Reaches fn (portPage p)) (refused : s.startStatus p ≠ .ok) :
    exec (.portStart fn p) s = .next (s.captureFn fn (portPage p) (s.startStatus p) ((PORT_CTRL_START p).addr % 4096) 1) := by
  show execPortStart fn p s = _
  unfold execPortStart
  rw [mmio_reaches reach]
  generalize s.startStatus p = st at refused ⊢
  cases st with
  | ok => exact absurd rfl refused
  | _ => rfl

/-- R502. A fresh session is not 0. -/
theorem freshSession_shows (s : State) (p : Nat) : ((s.freshSession p).port p).fresh = true ∧ (s.freshSession p).get (SESSION p) ≠ 0 := by
  unfold State.freshSession
  dsimp only
  refine ⟨?_, ?_⟩
  · rw [State.port_setPort_self]
  · rw [State.get_setPort, State.get_set_self]
    show (_ % (2 ^ 32 - 1) + 1) % 2 ^ 32 ≠ 0
    omega

/-! ### The events of training -/

theorem portEvent_in {p st : Nat} {s : State} (awake : s.Awake (portPage p)) (now : s.get (PORT_STAT_STATE p) = st) (body : State → State) : portEvent p st s body = .next (body s) := by
  unfold portEvent
  rw [event_awake awake]
  exact if_pos now

theorem inData_state {s : State} {p st : Nat} (now : s.get (PORT_STAT_STATE p) = st) (other : st ≠ 5) : s.inData p = false := by
  unfold State.inData
  rw [now]
  simpa using other

/-- R493. A training that times out. -/
theorem linkDown_training {s : State} {p cause : Nat} (port : p < 8) (now : s.get (PORT_STAT_STATE p) = 1) : (s.linkDown p cause).get (PORT_STAT_STATE p) = 6 ∧
    (s.linkDown p cause).get (DOWN_CNT p) = (s.get (DOWN_CNT p) + 1) % 2 ^ 32 ∧ (s.linkDown p cause).get (PORT_LANES_LANE_LOCK p) = s.get (PORT_LANES_LANE_LOCK p) ∧
    (s.linkDown p cause).shows 0 (portPage p) 1 = true ∧ (s.linkDown p cause).work = s.work := by
  obtain ⟨_, lockState, _, stateCause, stateDown, downState, _⟩ := state_apart p
  have lockApart : (PORT_LANES_LANE_LOCK p).key ≠ (PORT_STAT_DOWN_CAUSE p).key ∧ (PORT_LANES_LANE_LOCK p).key ≠ (DOWN_CNT p).key ∧ (DOWN_CNT p).key ≠ (PORT_STAT_DOWN_CAUSE p).key := by
    simp only [Field.key, PORT_LANES_LANE_LOCK, PORT_STAT_DOWN_CAUSE, DOWN_CNT]
    omega
  obtain ⟨lockCause, lockDown, downCause⟩ := lockApart
  have stays : PortStays (s.setPortState p 6) ((((s.setPortState p 6).set (PORT_STAT_DOWN_CAUSE p) cause).add (DOWN_CNT p) 1).capture (portPage p) .linkLost cause 0) :=
    ((((PortStays.refl _).set _ _).set _ _).capture _ _ _ _)
  rw [linkDown_idle (inData_state now (by decide))]
  refine ⟨?_, ?_, ?_, ?_, ?_⟩
  · rw [State.capture_get, State.get_add_ne stateDown, State.get_set_ne stateCause, setPortState_get port (by decide)]
  · rw [State.capture_get, State.get_add_self, State.get_set_ne downCause, setPortState_get_ne (by simp [DOWN_CNT]) (by simp only [DOWN_CNT]; omega) downState]
    rfl
  · rw [State.capture_get, State.get_add_ne lockDown, State.get_set_ne lockCause, setPortState_get_ne (by simp [PORT_LANES_LANE_LOCK]) (by simp only [PORT_LANES_LANE_LOCK]; omega) lockState]
  · refine stays.shown _ _ _ ((setPortState_shows s p 6).2.1 ⟨rfl, ?_⟩)
    rw [now]
    decide
  · exact stays.work.trans ((PortStays.refl s).setPortState p 6).work

theorem emit_matched (s : State) (p : Nat) (seq : Option Nat) (body : FlitBody) : ((s.emit p seq body).2.port p).matched = (s.port p).matched :=
  (congrArg Port.matched (State.port_setPort_self s p _)).trans rfl

/-- R500. What sending the exchange record leaves, with no MATCH of the peer. -/
theorem exchSend_shows {s : State} {p : Nat} (awake : s.Awake (portPage p)) (now : s.get (PORT_STAT_STATE p) = 3) (unmatched : (s.port p).peerMatch = none) :
    exec (.exchSend p) s = .next (((s.emit p none (.exch (s.exchRecord p ++ s.exchHmac p (s.exchRecord p)))).2).setPort p
      { ((s.emit p none (.exch (s.exchRecord p ++ s.exchHmac p (s.exchRecord p)))).2).port p with
        matchSent := (((s.emit p none (.exch (s.exchRecord p ++ s.exchHmac p (s.exchRecord p)))).2).port p).matched }) := by
  show execExchSend p s = _
  unfold execExchSend
  rw [portEvent_in awake now]
  dsimp only
  generalize FlitBody.exch (s.exchRecord p ++ s.exchHmac p (s.exchRecord p)) = body
  have sent : ((s.emit p none body).2.port p).peerMatch = none := (congrArg Port.peerMatch (State.port_setPort_self s p _)).trans unmatched
  unfold State.tryData
  rw [State.port_setPort_self]
  dsimp only
  rw [sent]

/-- Settles O42: START, STOP, RECHECK and RESET_SEQ by their branches, training and the exchange by the state that they move the port to, a link that goes DOWN by what leaving DATA keeps. -/
theorem portsTrainExchangeAndGoDown : Obligations.PortsTrainExchangeAndGoDown := by
  refine ⟨?recorded, ?fresh, ?refused, ?moved, ?leaves, ?stopped, ?recheck, ?norecheck, ?resetSeq, ?lostWrite, ?locked, ?timeout, ?aligned, ?sends, ?received, ?differs, ?agrees, ?entersFresh, ?resumes,
    ?lockLost, ?lockDown, ?down, ?left⟩
  case recorded =>
    intro fn p s reach port ok session peer
    obtain ⟨st, own, lock, resumed, mismatch, kept⟩ := training_shows port (s.setPort p (startedPort (s.port p) (s.on (PORT_CTRL_ENC_EN p))))
    rw [State.port_setPort_self] at own
    exact .of_next (portStart_recorded reach ok (by simp [session, peer])) ⟨st, by rw [own]; rfl, by rw [own]; rfl, by rw [own]; rfl, lock, resumed, mismatch, kept, by rw [own]; rfl⟩
  case fresh =>
    intro fn p s reach port ok unrecorded
    obtain ⟨fresh, drawn⟩ := freshSession_shows (s.setPort p (startedPort (s.port p) (s.on (PORT_CTRL_ENC_EN p)))) p
    obtain ⟨st, own, lock, _, _, kept⟩ := training_shows port ((s.setPort p (startedPort (s.port p) (s.on (PORT_CTRL_ENC_EN p)))).freshSession p)
    exact .of_next (portStart_unrecorded reach ok unrecorded) ⟨st, by rw [own, fresh], by rw [kept]; exact drawn, lock⟩
  case refused => exact fun fn p s reach _ refused => portStart_refused reach refused
  case moved =>
    intro p st s port small
    obtain ⟨data, down, mismatch⟩ := setPortState_shows s p st
    exact ⟨setPortState_get port small s, data, down, mismatch, setPortState_formed s p st⟩
  case leaves =>
    intro fn p s reach _ data
    show execPortStop fn p s = _
    unfold execPortStop
    rw [mmio_reaches reach]
    exact if_pos data
  case stopped =>
    intro fn p s reach _ idle
    show execPortStop fn p s = _
    unfold execPortStop
    rw [mmio_reaches reach]
    exact if_neg (by simp [idle])
  case recheck =>
    intro fn p s reach _ now
    show execRecheck fn p s = _
    unfold execRecheck
    rw [mmio_reaches reach]
    exact if_pos now
  case norecheck =>
    intro fn p s reach _ other
    show execRecheck fn p s = _
    unfold execRecheck
    rw [mmio_reaches reach]
    exact if_neg other
  case resetSeq =>
    intro fn p s reach _ now
    refine ⟨?_, by rw [discardReplay_port]; rfl, by rw [discardReplay_port]; rfl⟩
    show execResetSeq fn p s = _
    unfold execResetSeq
    rw [mmio_reaches reach]
    exact if_pos now
  case lostWrite => exact fun p w s refs alone own room => discardReplay_logs refs alone own room
  case locked => exact fun p s awake _ now => portEvent_in awake now fun u => (u.set (PORT_LANES_LANE_LOCK p) (u.get (PORT_LANES_LANE_MASK p))).setPortState p 2
  case timeout =>
    intro p locked s awake port now
    obtain ⟨⟨_, _, _, stateLock⟩, _⟩ := lock_apart p
    have moved : (s.set (PORT_LANES_LANE_LOCK p) locked).get (PORT_STAT_STATE p) = 1 := (State.get_set_ne stateLock _ _).trans now
    obtain ⟨st, count, lock, shown, work⟩ := linkDown_training (cause := 7) port moved
    obtain ⟨cause, code, _⟩ := linkDown_shows (cause := 7) (by decide) (s.set (PORT_LANES_LANE_LOCK p) locked) p
    have downLock : (DOWN_CNT p).key ≠ (PORT_LANES_LANE_LOCK p).key := by
      simp only [Field.key, DOWN_CNT, PORT_LANES_LANE_LOCK]
      omega
    rw [State.get_set_ne downLock] at count
    rw [State.get_set_self] at lock
    exact .of_next (portEvent_in awake now fun u => (u.set (PORT_LANES_LANE_LOCK p) locked).linkDown p 7) ⟨st, cause, count, lock, shown, code, work⟩
  case aligned => exact fun p s awake _ now => portEvent_in awake now fun u => u.setPortState p 3
  case sends =>
    intro p s awake _ now unmatched
    obtain ⟨_, _, _, _, _, _, stateFlits⟩ := state_apart p
    refine .of_next (exchSend_shows awake now unmatched) ?_
    generalize FlitBody.exch (s.exchRecord p ++ s.exchHmac p (s.exchRecord p)) = body
    refine ⟨⟨_, rfl, rfl, rfl, rfl⟩, ?_, State.get_add_self _ _ _, (State.get_add_ne stateFlits _ _).trans now⟩
    rw [State.port_setPort_self]
    exact emit_matched s p none body
  case received => exact fun p hd record s awake _ now => portEvent_in awake now fun u => (u.add (RX_FLITS p) 1).exchange p (takePad 108 record)
  case differs =>
    intro p r s port now differs
    obtain ⟨st, group, _⟩ := capturePeer_shows s p r
    rw [exchange_differs differs, ← group]
    exact mismatched_shows port (mismatch_lt _ p r) (st.trans now)
  case agrees =>
    intro p ps pe pr s peer buffers none matched sent same able
    unfold State.tryData
    have both : ((s.port p).rxBuf.isEmpty && (s.port p).arrival.isNone && (s.port p).matched && (s.port p).matchSent && pr == (s.port p).resumeOk && ((s.port p).resumeOk || (s.port p).fresh)) = true := by
      simpa [buffers, none, matched, sent, same] using able
    simp only [peer]
    exact if_pos both
  case entersFresh =>
    intro p ps pe s port _
    rw [enterData_fresh]
    obtain ⟨data, own, session, resumed, active⟩ := dataShown_shows port (s.discardReplay p) ps (s.get (PORT_LANES_LANE_MASK p)) false { (s.discardReplay p).port p with tx := 0, rx := 0 }
    exact ⟨data, by rw [own]; rfl, by rw [own]; rfl, by rw [own]; rfl, session, resumed, active⟩
  case resumes =>
    intro p ps pe r s port one beyond
    rw [enterData_resumed one beyond]
    obtain ⟨_, own, _, resumed, _⟩ := dataShown_shows port s ps (s.get (PORT_LANES_LANE_MASK p)) true { s.port p with replay := voidItems [r], resend := some r.seq }
    exact ⟨by rw [own]; rfl, by rw [own]; rfl, by rw [own]; rfl, by rw [own]; rfl, resumed⟩
  case lockLost =>
    intro p l s awake _ idle
    have run : exec (.lockLost p l) s = .next (s.set (PORT_LANES_LANE_LOCK p) (if bitOf (s.get (PORT_LANES_LANE_LOCK p)) (l % 8) then s.get (PORT_LANES_LANE_LOCK p) - 2 ^ (l % 8) else s.get (PORT_LANES_LANE_LOCK p))) := by
      show execLockLost p l s = _
      unfold execLockLost
      rw [event_awake awake]
      dsimp only
      rw [if_neg (by rintro ⟨data, active⟩; rcases idle with h | h <;> simp_all)]
    have bit {i : Nat} (small : i < 8) := bitOf_get_set (f := PORT_LANES_LANE_LOCK p) (i := i) small s
      (if bitOf (s.get (PORT_LANES_LANE_LOCK p)) (l % 8) then s.get (PORT_LANES_LANE_LOCK p) - 2 ^ (l % 8) else s.get (PORT_LANES_LANE_LOCK p))
    refine .of_next run ⟨?_, fun i small other => ?_, (OnlyRegs.refl _ s).set (by simp) _, rfl⟩
    · rw [bit (Nat.mod_lt l (by decide)), bitOf_cleared]
      simp
    · rw [bit small, bitOf_cleared]
      simp [Ne.symm other]
  case lockDown =>
    intro p l m s awake _ data active lock
    show execLockLost p l s = _
    unfold execLockLost
    rw [event_awake awake, lock]
    dsimp only
    rw [if_pos ⟨data, active⟩]
  case down =>
    intro p cause s _ small
    obtain ⟨own, code, info⟩ := linkDown_shows small s p
    refine ⟨own, code, info, fun data => ?_⟩
    rw [linkDown_port data]
    exact leaveData_port s p 6
  case left =>
    intro p s data sent got acked empty
    unfold State.leaveCheck
    exact if_pos (by simp [data, sent, got, acked, empty])

end Sys2Proof.Proofs

/-!
The key of a port in a slot that does not exist (O45; R379, R495).
-/

namespace Sys2Proof.Proofs
open Sys2Proof.Machine Sys2Proof.Laws Sys2Proof.Claims

/-- Every domain is ON, port 0 names slot 600, and slot 600, past the 512 that the engine has, holds a key of class 7. -/
def slotBeyond : State :=
  { State.reset with
    regs := [((PORT_KEY_SLOT 0).key, 600)]
    power := { State.reset.power with doms := [(1, .on), (2, .on), (3, .on), (4, .on), (5, .on), (6, .on), (7, .on)] }
    sluice := { State.reset.sluice with slots := [(600, { cls := 7, key := [1] })] } }

/-- R379. A slot past the last one is denied: KEY_DENIED is captured and no key is derived. -/
theorem portKeyLoad_beyond : exec (.portKeyLoad 0 0) slotBeyond = .next (slotBeyond.capture (portPage 0) .keyDenied 600 0) := by
  show execPortKeyLoad 0 0 slotBeyond = _
  have reach : slotBeyond.Reaches 0 (portPage 0) := by decide
  have idle : slotBeyond.on (PORT_KEY_BUSY 0) = false := by decide
  have on : slotBeyond.domOn 4 = true := by decide
  have free : (slotBeyond.sluiceHeld || slotBeyond.behind (portPage 0)) = false := by decide
  have slot : slotBeyond.get (PORT_KEY_SLOT 0) = 600 := by decide
  have denied : slotBeyond.findGlobal 0 600 [7] = .denied := by
    unfold State.findGlobal
    exact if_pos (.inl (by decide))
  unfold execPortKeyLoad
  rw [mmio_reaches reach]
  simp only [idle, on, free, slot, denied, Bool.not_true, Bool.false_eq_true, if_false]

/-- Refutes O45: its eighth clause has PORT_KEY_LOAD derive keys from whatever slot PORT_KEY_SLOT names, and a state whose field names slot 600 meets its conditions, while R379's 512 slots end below it and the
command captures KEY_DENIED. -/
theorem not_lanesKeysAndTheGroup : ¬ Obligations.LanesKeysAndTheGroup := by
  intro holds
  obtain ⟨_, _, _, _, _, _, _, derives, _⟩ := holds
  have loaded := derives 0 0 { cls := 7, key := [1] } slotBeyond (by decide) (by decide) (by decide) (by decide) (by decide) (by decide) (by decide) (by decide) (by decide) (by decide) (by decide)
  rw [portKeyLoad_beyond] at loaded
  injection loaded with same
  have busy := congrArg (fun t : State => t.on (PORT_KEY_BUSY 0)) same
  dsimp only at busy
  rw [State.on_flag_self rfl, State.on, State.capture_get] at busy
  exact absurd busy (by decide)

end Sys2Proof.Proofs

/-!
Power commands (O46; R529, R531, R532, R534, R536, R538, R557, R558): the states of the domains, what a domain loses, READY.
-/

namespace Sys2Proof.Proofs
open Sys2Proof.Machine Sys2Proof.Laws Sys2Proof.Claims

/-! ### The state of a domain -/

theorem dom_of_power {s t : State} (h : t.power = s.power) (d : Nat) : t.dom d = s.dom d := by
  unfold State.dom
  rw [h]

theorem dom_setDom_ne {d e : Nat} (h : e ≠ d) (s : State) (v : Dom) : (s.setDom d v).dom e = s.dom e := by
  unfold State.dom State.setDom
  dsimp only
  rw [Map.get_put_ne h]

theorem get_setDom (s : State) (d : Nat) (v : Dom) (f : Field) : (s.setDom d v).get f = s.get f := State.get_of_regs rfl f

/-! ### READY (R557) -/

theorem readyRefresh_power (s : State) : s.readyRefresh.power = s.power := (State_readyRefresh_good (good_self s (· == .power)) rfl rfl rfl).same .power rfl

theorem readyRefresh_get_ne {f : Field} (other : f.key ≠ SU_STATE.key) (s : State) : s.readyRefresh.get f = s.get f := by
  unfold State.readyRefresh
  split
  · rw [State.raise_get, State.get_set_ne other]
  · exact prop_ite (P := fun t : State => t.get f = s.get f) (State.get_set_ne other _ _) rfl

theorem readyRefresh_onlyRegs {s t : State} {fs : List Field} (h : OnlyRegs fs s t) (state : SU_STATE ∈ fs) : OnlyRegs fs s t.readyRefresh := by
  unfold State.readyRefresh
  exact prop_ite ((h.set state _).of_regs (State.raise_regs _ _ _)) (prop_ite (h.set state _) h)

theorem readyRefresh_keepsShown (s : State) : KeepsShown s s.readyRefresh := by
  have kept (v : Nat) : KeepsShown s (s.set SU_STATE v) := keepsShown_of_pages rfl
  unfold State.readyRefresh
  exact prop_ite ((kept 4).trans (raiseFn_keepsShown _ _ _ _)) (prop_ite (kept 3) (.refl s))

/-- R619. An event leaves what its page has captured. -/
theorem raise_captured (s : State) (page bit k : Nat) : ((s.raise page bit).page k).errInfo0 = (s.page k).errInfo0 ∧ ((s.raise page bit).page k).errCode = (s.page k).errCode := by
  unfold State.raise
  by_cases own : k = pageKey 0 page
  · rw [own, State.raiseFn_page_self]
    exact ⟨rfl, rfl⟩
  · rw [State.raiseFn_page_ne s 0 page bit own]
    exact ⟨rfl, rfl⟩

theorem readyRefresh_info (s : State) (k : Nat) : (s.readyRefresh.page k).errInfo0 = (s.page k).errInfo0 := by
  unfold State.readyRefresh
  split
  · exact (raise_captured _ _ _ _).1
  · exact prop_ite (P := fun t : State => (t.page k).errInfo0 = (s.page k).errInfo0) rfl rfl

/-! ### Commands of the POWER page (R531 to R536, R558) -/

theorem powerCmd_runs {s : State} {fn : Nat} (opened : PowerOpen s fn) (smbus : Bool) (d op : Nat) (force : Bool) (c : Instr) : powerCmd smbus d op force c s = .next (s.pwrBegin smbus d op force) := by
  obtain ⟨_, quiet, stall, behind⟩ := opened
  unfold powerCmd
  simp [quiet, stall, behind]

/-- R558. A refused command leaves its status and captures it. -/
theorem pwrBegin_refused {s : State} {smbus force : Bool} {d op : Nat} (refused : s.pwrStatus smbus d op force ≠ .ok) : s.pwrBegin smbus d op force =
    ((s.set (PWR_RESULT_STATUS d) (s.pwrStatus smbus d op force).code).set (PWR_RESULT_OP d) op).capture 1 (s.pwrStatus smbus d op force) (PWR_CMD_DOMAIN.addr % 4096) (d + 16 * op + 256 * b2n force) := by
  unfold State.pwrBegin
  generalize s.pwrStatus smbus d op force = st at refused ⊢
  cases st with
  | ok => exact absurd rfl refused
  | _ => rfl

/-- R531, R557. A domain begins to come ON; the first ON of PD_SHARED begins bring-up. -/
def turnsOn (s : State) (d : Nat) : State :=
  if d = 7 ∧ (s.setDom d (.transit (s.dom d).code 1 false)).get SU_STATE = 2 then (s.setDom d (.transit (s.dom d).code 1 false)).set SU_STATE 3 else s.setDom d (.transit (s.dom d).code 1 false)

theorem pwrBegin_on {s : State} {smbus force : Bool} {d : Nat} (ok : s.pwrStatus smbus d 1 force = .ok) (off : (s.dom d).code ≠ 1) : s.pwrBegin smbus d 1 force = turnsOn s d := by
  unfold State.pwrBegin turnsOn
  rw [ok]
  simp [off]

/-- R532, R533. A domain that is ON begins to go RETAIN or OFF. -/
theorem pwrBegin_leaves {s : State} {smbus force : Bool} {d op : Nat} (ok : s.pwrStatus smbus d op force = .ok) (on : s.dom d = .on) (leaves : op = 2 ∨ op = 3) : s.pwrBegin smbus d op force =
    (((s.leave d force).lose d (op == 2)).setDom d (.transit 1 op force)).readyRefresh := by
  unfold State.pwrBegin
  rw [ok, on]
  rcases leaves with rfl | rfl <;> rfl

theorem pwrBegin_same {s : State} {smbus force : Bool} {d : Nat} (ok : s.pwrStatus smbus d 3 force = .ok) (off : s.dom d = .off) : s.pwrBegin smbus d 3 force = s.pwrEnds d 3 := by
  unfold State.pwrBegin
  rw [ok, off]
  rfl

/-- R558. A command's result, event and domain show when it ends. -/
theorem pwrEnds_shows {s : State} {d op : Nat} : (s.pwrEnds d op).power = s.power ∧ (s.pwrEnds d op).get (PWR_RESULT_STATUS d) = 0 ∧ (s.pwrEnds d op).get (PWR_RESULT_OP d) = op % 4 ∧
    (s.pwrEnds d op).shows 0 1 3 = true ∧ ((s.pwrEnds d op).page 1).errInfo0 = d ∧ OnlyRegs [PWR_RESULT_STATUS d, PWR_RESULT_OP d, SU_STATE] s (s.pwrEnds d op) := by
  have apart : (PWR_RESULT_STATUS d).key ≠ SU_STATE.key ∧ (PWR_RESULT_OP d).key ≠ SU_STATE.key ∧ (PWR_RESULT_STATUS d).key ≠ (PWR_RESULT_OP d).key := by
    simp only [Field.key, PWR_RESULT_STATUS, PWR_RESULT_OP, SU_STATE]
    omega
  obtain ⟨statusState, opState, statusOp⟩ := apart
  unfold State.pwrEnds
  dsimp only
  refine ⟨?_, ?_, ?_, ?_, ?_, ?_⟩
  · rw [readyRefresh_power, State.raise_power]
    rfl
  · rw [readyRefresh_get_ne statusState, State.raise_get]
    exact (State.get_set_ne statusOp _ _).trans ((State.get_set_self _ _ _).trans rfl)
  · rw [readyRefresh_get_ne opState, State.raise_get]
    exact State.get_set_self _ _ _
  · exact readyRefresh_keepsShown _ _ _ _ (State.raise_shows _ _ _)
  · rw [readyRefresh_info, (raise_captured _ _ _ _).1, State.page_setPage_self]
  · exact readyRefresh_onlyRegs (((((OnlyRegs.refl _ s).set (by simp) _).set (by simp) _).of_regs rfl).of_regs (State.raise_regs _ _ _)) (by simp)

/-! ### What a core loses (R534, R548, R567) -/

/-- R567. A core's bit of a mask is cleared. -/
def dropBit (t : State) (f : Field) (n : Nat) : State := t.set f (if bitOf (t.get f) n then t.get f - 2 ^ n else t.get f)

theorem dropBit_bit {f : Field} {n : Nat} (low : n < f.width) (t : State) : bitOf ((dropBit t f n).get f) n = false := by
  unfold dropBit
  rw [bitOf_get_set low, bitOf_cleared]
  simp

theorem loseCore_eq (s : State) (retain : Bool) (n : Nat) : s.loseCore retain n =
    if retain then dropBit (dropBit (s.coreClear n) FT_CORE_ADM n) FT_CORE_FAULT n else ((dropBit (dropBit (s.coreClear n) FT_CORE_ADM n) FT_CORE_FAULT n).zeroStores n).clearHolds n := rfl

theorem clearHolds_get_ne {f : Field} (other : ∀ e, f.key ≠ (WSET_VALID0 e).key ∧ f.key ≠ (WSET_VALID1 e).key) (s : State) (n : Nat) : (s.clearHolds n).get f = s.get f := by
  have one (t : State) (e copy : Nat) : (t.setHolds e copy n false).get f = t.get f := by
    obtain ⟨first, second⟩ := other e
    exact setHolds_onlyRegs t e copy n false f fun own => (List.mem_cons.mp own).elim first fun own => second (List.mem_singleton.mp own)
  unfold State.clearHolds
  exact foldl_of (P := fun t : State => t.get f = s.get f) rfl fun t e h => (one _ e 1).trans ((one t e 0).trans h)

theorem loseCore_admission {n : Nat} (core : n < 16) (s : State) (retain : Bool) : bitOf ((s.loseCore retain n).get FT_CORE_ADM) n = false := by
  have cleared : bitOf ((dropBit (dropBit (s.coreClear n) FT_CORE_ADM n) FT_CORE_FAULT n).get FT_CORE_ADM) n = false := by
    unfold dropBit
    rw [State.get_set_ne (by decide)]
    exact dropBit_bit core _
  rw [loseCore_eq]
  cases retain with
  | true => exact cleared
  | false =>
    rw [if_neg (by decide), clearHolds_get_ne fun e => ?_]
    · exact cleared
    · have key : FT_CORE_ADM.key = FT_CORE_ADM.addr * 32 + FT_CORE_ADM.lsb := rfl
      simp only [Field.key, FT_CORE_ADM, WSET_VALID0, WSET_VALID1]
      omega

theorem loseCore_running {n i : Nat} (slot : i < 4) (s : State) (retain : Bool) : (s.loseCore retain n).running n i = none := by
  have emptied : (s.coreClear n).running n i = none := (find_drop (fun k => k / 4 == n) _ _).trans (if_pos (by simp; omega))
  rw [loseCore_eq]
  refine (running_of_slots (congrArg Work.slots ?_) n i).trans emptied
  cases retain with
  | true => rfl
  | false => exact (State_clearHolds_good n (good_self (State.zeroStores _ n) (· == .work)) rfl).same .work rfl

theorem loseCore_keeps (s : State) (n : Nat) : (s.loseCore true n).mem.ws = s.mem.ws ∧ (s.loseCore true n).mem.act = s.mem.act := by
  have kept : Good ⟨s.pending, s, fun x => x == .ws || x == .act⟩ (s.coreClear n) := State_coreClear_good n (good_self s fun x => x == .ws || x == .act) rfl rfl rfl rfl rfl
  exact ⟨kept.same .ws rfl, kept.same .act rfl⟩

theorem loseCore_zero (s : State) (n i : Nat) : Map.find (s.loseCore false n).mem.ws (n * 2 ^ 25 + i % 2 ^ 25) = none := by
  have ws (t : State) : (t.clearHolds n).mem.ws = t.mem.ws := (State_clearHolds_good n (good_self t (· == .ws)) rfl).same .ws rfl
  rw [loseCore_eq, if_neg (by decide), ws]
  exact (zeroStores_empty _ n i).1

/-! ### What a start finds (R302, R376, R409, R538) -/

/-- R302, R589. What the training of a stack found shows, whatever it raises and logs. -/
theorem stackStarts_shows (s : State) (i : Nat) (trained : Bool) (pch : Nat) : (s.stackStarts i trained pch).on (MS_STAT_TRAINED i) = trained ∧ (s.stackStarts i trained pch).get (MS_PCH_FAIL i) = pch % 2 ^ 32 ∧
    ∀ f, f.key ≠ FT_LOST.key → f.key ≠ (MS_STAT_TRAINED i).key → f.key ≠ (MS_PCH_FAIL i).key → (s.stackStarts i trained pch).get f = s.get f := by
  have apart : (MS_STAT_TRAINED i).key ≠ FT_LOST.key ∧ (MS_PCH_FAIL i).key ≠ FT_LOST.key ∧ (MS_STAT_TRAINED i).key ≠ (MS_PCH_FAIL i).key := by
    simp only [Field.key, MS_STAT_TRAINED, MS_PCH_FAIL, FT_LOST]
    omega
  obtain ⟨trainedLost, failLost, trainedFail⟩ := apart
  have logged {f : Field} (other : f.key ≠ FT_LOST.key) : (s.stackStarts i trained pch).get f = ((s.flag (MS_STAT_TRAINED i) trained).set (MS_PCH_FAIL i) (pch % 2 ^ 32)).get f := by
    unfold State.stackStarts
    dsimp only
    generalize (s.flag (MS_STAT_TRAINED i) trained).set (MS_PCH_FAIL i) (pch % 2 ^ 32) = shown
    have found : (if trained = true then shown else (shown.raise (769 + i) 1).fault 10 .faulted 0 0 0 i 0).get f = shown.get f :=
      prop_ite (P := fun t : State => t.get f = shown.get f) rfl ((fault_get_ne other _ _ _ _ _ _ _ _).trans (State.raise_get _ _ _ _))
    refine foldl_of (P := fun t : State => t.get f = shown.get f) ?_ fun t k h => (fault_get_ne other _ _ _ _ _ _ _ _).trans h
    exact prop_ite (P := fun t : State => t.get f = shown.get f) found ((State.raise_get _ _ _ _).trans found)
  refine ⟨?_, ?_, fun f other notTrained notFail => ?_⟩
  · rw [State.on, logged trainedLost, State.get_set_ne trainedFail]
    exact State.on_flag_self rfl _ _
  · rw [logged failLost, State.get_set_self]
    exact Nat.mod_mod _ _
  · rw [logged other, State.get_set_ne notFail, State.get_flag_ne notTrained]

/-- R302. Each stack's registers show what its own training found. -/
theorem starts_stacks {i : Nat} (stack : i < 6) (r : StartReport) (s : State) : (s.starts 3 r).on (MS_STAT_TRAINED i) = r.trained.getD i false ∧ (s.starts 3 r).get (MS_PCH_FAIL i) = r.pchFail.getD i 0 % 2 ^ 32 := by
  have apart : (MS_STAT_TRAINED i).key ≠ FT_LOST.key ∧ (MS_PCH_FAIL i).key ≠ FT_LOST.key ∧
      ∀ j, j ≠ i → (MS_STAT_TRAINED i).key ≠ (MS_STAT_TRAINED j).key ∧ (MS_STAT_TRAINED i).key ≠ (MS_PCH_FAIL j).key ∧ (MS_PCH_FAIL i).key ≠ (MS_STAT_TRAINED j).key ∧ (MS_PCH_FAIL i).key ≠ (MS_PCH_FAIL j).key := by
    simp only [Field.key, MS_STAT_TRAINED, MS_PCH_FAIL, FT_LOST]
    refine ⟨by omega, by omega, fun j other => ?_⟩
    omega
  obtain ⟨trainedLost, failLost, others⟩ := apart
  show ((List.range 6).foldl (fun t i => t.stackStarts i (r.trained.getD i false) (r.pchFail.getD i 0)) s).on (MS_STAT_TRAINED i) = _ ∧
    ((List.range 6).foldl (fun t i => t.stackStarts i (r.trained.getD i false) (r.pchFail.getD i 0)) s).get (MS_PCH_FAIL i) = _
  refine foldl_reaches (P := fun t : State => t.on (MS_STAT_TRAINED i) = r.trained.getD i false ∧ t.get (MS_PCH_FAIL i) = r.pchFail.getD i 0 % 2 ^ 32) (List.mem_range.mpr stack) (fun u => ?_)
    (fun u j _ h => ?_)
  · obtain ⟨trained, fail, _⟩ := stackStarts_shows u i (r.trained.getD i false) (r.pchFail.getD i 0)
    exact ⟨trained, fail⟩
  · by_cases own : j = i
    · subst own
      obtain ⟨trained, fail, _⟩ := stackStarts_shows u j (r.trained.getD j false) (r.pchFail.getD j 0)
      exact ⟨trained, fail⟩
    · obtain ⟨_, _, kept⟩ := stackStarts_shows u j (r.trained.getD j false) (r.pchFail.getD j 0)
      obtain ⟨trainedTrained, trainedFail, failTrained, failFail⟩ := others j own
      refine ⟨?_, (kept _ failLost failTrained failFail).trans h.2⟩
      rw [State.on, kept _ trainedLost trainedTrained trainedFail]
      exact h.1

/-- R376, R409. What the start of PD_SLUICE shows. -/
theorem starts_sluice (r : StartReport) (s : State) : (s.starts 4 r).on RNG_STAT_OK = r.rngOk ∧ (s.starts 4 r).power.sluiceSelfTest = r.pkeOk ∧ (s.starts 4 r).sluice.selfTestFailed = !r.pkeOk ∧
    (r.rngOk = false → (s.starts 4 r).shows 0 0x400 0 = true) := by
  show (s.sluiceStarts r).on RNG_STAT_OK = _ ∧ (s.sluiceStarts r).power.sluiceSelfTest = _ ∧ (s.sluiceStarts r).sluice.selfTestFailed = _ ∧ (_ → (s.sluiceStarts r).shows 0 0x400 0 = true)
  have started : ∃ u : State, u.on RNG_STAT_OK = r.rngOk ∧ (r.rngOk = false → u.shows 0 0x400 0 = true) ∧
      s.sluiceStarts r = (if r.pkeOk then { u with sluice := { u.sluice with selfTestFailed := !r.pkeOk }, power := { u.power with sluiceSelfTest := r.pkeOk } } else
        ({ u with sluice := { u.sluice with selfTestFailed := !r.pkeOk }, power := { u.power with sluiceSelfTest := r.pkeOk } } : State).raise 0x410 3) := by
    refine ⟨if r.rngOk then s.flag RNG_STAT_OK r.rngOk else (s.flag RNG_STAT_OK r.rngOk).raise 0x400 0, ?_, fun bad => ?_, rfl⟩
    · exact prop_ite (P := fun t : State => t.on RNG_STAT_OK = r.rngOk) (State.on_flag_self rfl _ _) ((State.raise_on _ _ _ _).trans (State.on_flag_self rfl _ _))
    · rw [if_neg (by simp [bad])]
      exact State.raise_shows _ _ _
  obtain ⟨u, ok, shown, eq⟩ := started
  rw [eq]
  split
  · exact ⟨ok, rfl, rfl, shown⟩
  · refine ⟨(State.raise_on _ _ _ _).trans ok, ?_, ?_, fun bad => ?_⟩
    · rw [State.raise_power]
    · rw [State.raise_only _ _ _ .sluice (by decide)]
    · exact raiseFn_keepsShown _ _ _ _ _ _ _ (shown bad)

theorem turnsOn_shows {d : Nat} (domain : d ≠ 0) (s : State) : (turnsOn s d).dom d = .transit (s.dom d).code 1 false ∧ (∀ e, e ≠ d → (turnsOn s d).dom e = s.dom e) ∧
    (turnsOn s d).get SU_STATE = (if d = 7 ∧ s.get SU_STATE = 2 then 3 else s.get SU_STATE) ∧ OnlyRegs [SU_STATE] s (turnsOn s d) ∧ (turnsOn s d).work = s.work ∧ (turnsOn s d).mem = s.mem := by
  have moved : OnlyRegs [SU_STATE] s (s.setDom d (.transit (s.dom d).code 1 false)) := (OnlyRegs.refl _ s).of_regs rfl
  have power : (turnsOn s d).power = (s.setDom d (.transit (s.dom d).code 1 false)).power := by
    unfold turnsOn
    split <;> rfl
  refine ⟨?_, fun e other => ?_, ?_, ?_, ?_, ?_⟩
  · rw [dom_of_power power, State.dom_setDom_self domain]
  · rw [dom_of_power power, dom_setDom_ne other]
  · unfold turnsOn
    rw [get_setDom]
    split
    · exact State.get_set_self _ _ _
    · exact get_setDom _ _ _ _
  · exact prop_ite (moved.set (by simp) _) moved
  · exact prop_ite (P := fun t : State => t.work = s.work) rfl rfl
  · exact prop_ite (P := fun t : State => t.mem = s.mem) rfl rfl

/-- R310, R529, R548. What the shared domain and the memory domain lose. -/
theorem lose_empties (retain : Bool) (s : State) : (s.lose 7 false).sync = {} ∧ (s.lose 7 false).tenants = [] ∧ (s.lose 7 false).work.flows = [] ∧ (s.lose 3 retain).mem.hbm = (if retain then s.mem.hbm else []) ∧
    (s.lose 3 retain).mem.keys = [] := ⟨rfl, rfl, rfl, rfl, rfl⟩

/-- Settles O46: a power command by what pwrStatus answers and by the state of its domain, its end by pwrEnds, a start by what each stack and test found, READY by readyRefresh. -/
theorem powerCommandsMoveDomains : Obligations.PowerCommandsMoveDomains := by
  refine ⟨?turnOn, ?refused, ?retain, ?turnOff, ?alreadyOff, ?recorded, ?goneOff, ?comeOn, ?sluice, ?trained, ?core, ?empties, ?ready, ?notReady⟩
  case turnOn =>
    intro fn d s opened low _ ok off
    have run : exec (.pwrOn fn d) s = .next (turnsOn s d) := by
      show execPwrOn fn d s = _
      unfold execPwrOn
      rw [mmio_reaches opened.1, powerCmd_runs opened, pwrBegin_on ok off]
    exact .of_next run (turnsOn_shows (by omega) s)
  case refused =>
    intro fn d s opened _ _ refused
    have statusOp : (PWR_RESULT_STATUS d).key ≠ (PWR_RESULT_OP d).key := by
      simp only [Field.key, PWR_RESULT_STATUS, PWR_RESULT_OP]
      omega
    have run : exec (.pwrOn fn d) s = .next (((s.set (PWR_RESULT_STATUS d) (s.pwrStatus false d 1 false).code).set (PWR_RESULT_OP d) 1).capture 1 (s.pwrStatus false d 1 false)
        (PWR_CMD_DOMAIN.addr % 4096) (d + 16 * 1 + 256 * b2n false)) := by
      show execPwrOn fn d s = _
      unfold execPwrOn
      rw [mmio_reaches opened.1, powerCmd_runs opened, pwrBegin_refused refused]
    refine .of_next run ⟨?_, ?_, ?_, rfl, ?_⟩
    · rw [State.capture_get, State.get_set_ne statusOp, State.get_set_self]
      exact Nat.mod_eq_of_lt (code_lt _)
    · rw [State.capture_get, State.get_set_self]
      rfl
    · rw [capture_page]
    · refine OnlyRegs.of_regs (t := (s.set (PWR_RESULT_STATUS d) (s.pwrStatus false d 1 false).code).set (PWR_RESULT_OP d) 1) ?_ rfl
      exact ((OnlyRegs.refl _ s).set (by simp) _).set (by simp) _
  case retain =>
    intro fn d force s opened _ _ ok on
    show execPwrRetain fn d force s = _
    unfold execPwrRetain
    rw [mmio_reaches opened.1, powerCmd_runs opened, pwrBegin_leaves ok on (.inl rfl)]
    rfl
  case turnOff =>
    intro fn d force s reach quiet _ _ free ok on
    show execPwrOff fn d force s = _
    unfold execPwrOff powerCmd
    have now : (s.quiet 1 || ((s.stall || s.behind 1) && !((3 : Nat) == 3 && force))) = false := by
      rcases free with forced | ⟨flows, first⟩
      · simp [quiet, forced]
      · simp [quiet, flows, first]
    rw [mmio_reaches reach, now, pwrBegin_leaves ok on (.inr rfl)]
    rfl
  case alreadyOff =>
    intro fn d force s opened _ _ ok off
    show execPwrOff fn d force s = _
    unfold execPwrOff
    rw [mmio_reaches opened.1, powerCmd_runs opened, pwrBegin_same ok off]
  case recorded =>
    intro fn d s reach withheld
    show execPwrOn fn d s = _
    unfold execPwrOn powerCmd
    have waits : (s.quiet 1 || ((s.stall || s.behind 1) && !((1 : Nat) == 3 && false))) = true := by
      rcases withheld with stalled | quiet
      · simp [stalled]
      · simp [quiet]
    rw [mmio_reaches reach, waits]
    rfl
  case goneOff =>
    intro d x op force r s low _ leaves moving
    have run : exec (.pwrDone d r) s = .next ((s.setDom d (if op = 2 then .retain else .off)).pwrEnds d op) := by
      show execPwrDone d r s = _
      unfold execPwrDone
      rw [moving]
      dsimp only
      rw [if_neg leaves]
    obtain ⟨power, status, result, shown, domain, regs⟩ := pwrEnds_shows (s := s.setDom d (if op = 2 then .retain else .off)) (d := d) (op := op)
    refine .of_next run ⟨?_, status, result, shown, domain, ((OnlyRegs.refl _ s).of_regs rfl).trans regs⟩
    rw [dom_of_power power, State.dom_setDom_self (by omega)]
  case comeOn =>
    intro d x force r s moving
    show execPwrDone d r s = _
    unfold execPwrDone
    rw [moving]
    dsimp only
    rw [if_pos rfl]
  case sluice => exact fun r s => starts_sluice r s
  case trained => exact fun i r s stack => starts_stacks stack r s
  case core =>
    intro n retain s core
    refine ⟨fun kept => ?_, fun lost i => ?_, loseCore_admission core s retain, fun i slot => loseCore_running slot s retain⟩
    · rw [kept]
      exact loseCore_keeps s n
    · rw [lost]
      exact loseCore_zero s n i
  case empties => exact fun retain s => lose_empties retain s
  case ready =>
    intro s bringup ready
    unfold State.readyRefresh
    rw [if_pos ⟨bringup, ready⟩]
    exact ⟨(State.raise_get _ _ _ _).trans (State.get_set_self _ _ _), State.raise_shows _ _ _⟩
  case notReady =>
    intro s up lost
    unfold State.readyRefresh
    rw [if_neg (by simp [lost]), if_pos ⟨up, by simp [lost]⟩]

end Sys2Proof.Proofs

/-!
Supplies, resets and start-up (O47; R537, R546 to R549, R553, R554, R556, R583): what the loss of a domain leaves of the supplies, the logs and the other domains.
-/

namespace Sys2Proof.Proofs
open Sys2Proof.Machine Sys2Proof.Laws Sys2Proof.Claims

/-! ### What the loss of a domain leaves alone -/

/-- R529, R548. Of the power state a loss changes at most the self-test of PD_SLUICE; a reset changes the states of domains as well. The fault log, the fuses and the time stay. -/
structure ResetKeeps (s t : State) : Prop where
  power : ∃ doms seen tested, t.power = { s.power with doms := doms, ringSeen := seen, sluiceSelfTest := tested }
  faultLog : t.faultLog = s.faultLog
  fuses : t.fuses = s.fuses
  time : t.time = s.time

/-- The power state is that of `s`, but for the self-test of PD_SLUICE. -/
def SelfTestOnly (s t : State) : Prop := ∃ tested, t.power = { s.power with sluiceSelfTest := tested }

theorem SelfTestOnly.of_power {s t : State} (h : t.power = s.power) : SelfTestOnly s t := ⟨s.power.sluiceSelfTest, h⟩

theorem SelfTestOnly.dom {s t : State} (h : SelfTestOnly s t) (d : Nat) : t.dom d = s.dom d := by
  obtain ⟨tested, power⟩ := h
  unfold State.dom
  rw [power]

theorem lose_selfTest (s : State) (d : Nat) (retain : Bool) : SelfTestOnly s (s.lose d retain) := by
  unfold State.lose
  dsimp only
  refine prop_ite (.of_power ?_) (prop_ite (.of_power ?_) (prop_ite (.of_power rfl) (prop_ite ⟨false, rfl⟩ (prop_ite (.of_power rfl) (.of_power ?_)))))
  · exact (State_loseHost_good (good_self (s.clearDomain d) (· == .power)) rfl rfl rfl rfl rfl).same .power rfl
  · exact (State_skewRefresh_good (good_self (s.clearDomain d).dropLink (· == .power)) rfl rfl rfl).same .power rfl
  · exact foldl_of (P := fun t : State => t.power = s.power) rfl fun t n h =>
      ((State_loseCore_good retain n (good_self t (· == .power)) rfl rfl rfl rfl rfl rfl rfl rfl).same .power rfl).trans h

theorem lose_dom (s : State) (d : Nat) (retain : Bool) (e : Nat) : (s.lose d retain).dom e = s.dom e := (lose_selfTest s d retain).dom e

theorem transitAborts_power (s : State) (d : Nat) : (s.transitAborts d).power = s.power := (State_transitAborts_good d (good_self s (· == .power)) rfl).same .power rfl

section
variable {s t u : State}

theorem ResetKeeps.refl (s : State) : ResetKeeps s s := ⟨⟨s.power.doms, s.power.ringSeen, s.power.sluiceSelfTest, rfl⟩, rfl, rfl, rfl⟩

theorem ResetKeeps.pins (h : ResetKeeps s t) : t.power.pins = s.power.pins := by
  obtain ⟨_, _, _, power⟩ := h.power
  rw [power]

theorem ResetKeeps.perst (h : ResetKeeps s t) : t.power.perstLow = s.power.perstLow ∧ t.power.offer = s.power.offer := by
  obtain ⟨_, _, _, power⟩ := h.power
  rw [power]
  exact ⟨rfl, rfl⟩

theorem ResetKeeps.thermTrip (h : ResetKeeps s t) : t.power.thermTripLow = s.power.thermTripLow := by
  obtain ⟨_, _, _, power⟩ := h.power
  rw [power]

theorem ResetKeeps.trans (h : ResetKeeps s t) (h' : ResetKeeps t u) : ResetKeeps s u := by
  obtain ⟨doms, seen, tested, power⟩ := h.power
  obtain ⟨doms', seen', tested', power'⟩ := h'.power
  exact ⟨⟨doms', seen', tested', by rw [power', power]⟩, h'.faultLog.trans h.faultLog, h'.fuses.trans h.fuses, h'.time.trans h.time⟩

theorem ResetKeeps.set (h : ResetKeeps s t) (f : Field) (v : Nat) : ResetKeeps s (t.set f v) := h.trans ⟨⟨_, _, _, rfl⟩, rfl, rfl, rfl⟩

theorem ResetKeeps.setDom (h : ResetKeeps s t) (d : Nat) (v : Dom) : ResetKeeps s (t.setDom d v) := h.trans ⟨⟨_, _, _, rfl⟩, rfl, rfl, rfl⟩

theorem ResetKeeps.transitAborts (h : ResetKeeps s t) (d : Nat) : ResetKeeps s (t.transitAborts d) := by
  unfold State.transitAborts
  split
  · exact (h.set _ _).set _ _
  · exact h

theorem ResetKeeps.lose (h : ResetKeeps s t) (d : Nat) (retain : Bool) : ResetKeeps s (t.lose d retain) := by
  obtain ⟨tested, power⟩ := lose_selfTest t d retain
  have good := State_lose_good d retain (good_self t fun x => x == .faultLog || x == .fuses || x == .time) rfl rfl rfl rfl rfl rfl rfl rfl rfl rfl rfl rfl rfl rfl rfl rfl rfl rfl
  exact h.trans ⟨⟨_, _, tested, power⟩, good.same .faultLog rfl, good.same .fuses rfl, good.same .time rfl⟩

theorem ResetKeeps.resetDomain (h : ResetKeeps s t) (d : Nat) : ResetKeeps s (t.resetDomain d) := ((h.transitAborts d).lose d false).setDom d .off

theorem ResetKeeps.resetDomains (h : ResetKeeps s t) (l : List Nat) : ResetKeeps s (l.foldl State.resetDomain t) :=
  foldl_of (P := ResetKeeps s) h fun _ d k => k.resetDomain d

theorem ResetKeeps.resetMem (h : ResetKeeps s t) : ResetKeeps s t.resetMem := ((h.transitAborts 3).lose 3 _).setDom 3 _

theorem ResetKeeps.resetOthers (h : ResetKeeps s t) (cause : Nat) : ResetKeeps s (t.resetOthers cause) := by
  have reset : ResetKeeps s ([2, 4, 5, 6, 7].foldl State.resetDomain t).resetMem := (h.resetDomains _).resetMem
  unfold State.resetOthers
  exact (prop_ite (P := ResetKeeps s) (reset.set _ _) reset).set _ _

theorem ResetKeeps.hostAgain (h : ResetKeeps s t) : ResetKeeps s t.hostAgain := prop_ite (h.setDom _ _) h

theorem ResetKeeps.fundamental (h : ResetKeeps s t) (cause : Nat) : ResetKeeps s (t.fundamental cause) := ((h.resetOthers cause).resetDomain 1).hostAgain

end

/-! ### The states of domains through resets (R547) -/

theorem resetDomain_dom {d : Nat} (domain : d ≠ 0) (s : State) (e : Nat) : (s.resetDomain d).dom e = if e = d then .off else s.dom e := by
  unfold State.resetDomain
  by_cases own : e = d
  · rw [if_pos own, own, State.dom_setDom_self domain]
  · rw [if_neg own, dom_setDom_ne own, lose_dom, dom_of_power (transitAborts_power s d)]

theorem resetDomains_dom {l : List Nat} (domains : ∀ d ∈ l, d ≠ 0) (s : State) (e : Nat) : (l.foldl State.resetDomain s).dom e = if e ∈ l then .off else s.dom e := by
  induction l generalizing s with
  | nil => rfl
  | cons d l ih =>
    rw [List.foldl_cons, ih (fun x mem => domains x (List.mem_cons_of_mem _ mem)), resetDomain_dom (domains d List.mem_cons_self)]
    by_cases later : e ∈ l
    · simp [later]
    · by_cases own : e = d <;> simp [later, own]

theorem resetMem_dom (s : State) (e : Nat) : s.resetMem.dom e = if e = 3 then (if (s.dom 3 = .on ∨ s.dom 3 = .retain) ∧ s.power.pins.mem = true then .retain else .off) else s.dom e := by
  unfold State.resetMem
  dsimp only
  by_cases own : e = 3
  · rw [if_pos own, own, State.dom_setDom_self (by decide)]
    simp
  · rw [if_neg own, dom_setDom_ne own, lose_dom, dom_of_power (transitAborts_power s 3)]

theorem resetOthers_power (s : State) (cause : Nat) : (s.resetOthers cause).power = ([2, 4, 5, 6, 7].foldl State.resetDomain s).resetMem.power := by
  unfold State.resetOthers
  exact prop_ite (P := fun t : State => (t.set RST_CAUSE cause).power = ([2, 4, 5, 6, 7].foldl State.resetDomain s).resetMem.power) rfl rfl

theorem resetOthers_dom (s : State) (cause e : Nat) : (s.resetOthers cause).dom e =
    if e = 3 then (if (s.dom 3 = .on ∨ s.dom 3 = .retain) ∧ s.power.pins.mem = true then .retain else .off) else if e ∈ [2, 4, 5, 6, 7] then .off else s.dom e := by
  have domains : ∀ d ∈ [2, 4, 5, 6, 7], d ≠ 0 := by decide
  rw [dom_of_power (resetOthers_power s cause), resetMem_dom, resetDomains_dom domains, resetDomains_dom domains, ((ResetKeeps.refl s).resetDomains [2, 4, 5, 6, 7]).pins]
  rfl

theorem hostAgain_dom (s : State) (e : Nat) : s.hostAgain.dom e = if e = 1 ∧ s.power.pins.io = true then .on else s.dom e := by
  unfold State.hostAgain
  by_cases supplied : s.power.pins.io = true
  · rw [if_pos supplied]
    by_cases own : e = 1
    · rw [if_pos ⟨own, supplied⟩, own, State.dom_setDom_self (by decide)]
    · rw [if_neg (fun h => own h.1), dom_setDom_ne own]
  · rw [if_neg supplied, if_neg fun h => supplied h.2]

theorem fundamental_dom (s : State) (cause e : Nat) : (s.fundamental cause).dom e =
    if e = 1 ∧ s.power.pins.io = true then .on else if e = 1 then .off else (s.resetOthers cause).dom e := by
  unfold State.fundamental
  rw [hostAgain_dom, resetDomain_dom (by decide), (((ResetKeeps.refl s).resetOthers cause).resetDomain 1).pins]

/-! ### RST_CAUSE, the host interface and the instances through resets -/

theorem resetOthers_cause (s : State) (cause : Nat) : (s.resetOthers cause).get RST_CAUSE = cause % 16 := State.get_set_self _ _ _

theorem patchEnds_get_ne {f : Field} (busy : f.key ≠ PATCH_CTRL_BUSY.key) (result : f.key ≠ PATCH_CTRL_RESULT.key) (patched : f.key ≠ SU_STATE_PATCHED.key) (version : f.key ≠ PATCH_VER.key) (s : State) (st : Status)
    (v : Nat) : (s.patchEnds st v).get f = s.get f := by
  have kept : ((((s.flag PATCH_CTRL_BUSY false).set PATCH_CTRL_RESULT st.code).flag SU_STATE_PATCHED (st == .ok)).set PATCH_VER (if st = .ok then v else 0)).get f = s.get f := by
    rw [State.get_set_ne version, State.get_flag_ne patched, State.get_set_ne result, State.get_flag_ne busy]
  unfold State.patchEnds
  dsimp only
  rw [State.raise_get]
  exact prop_ite (P := fun t : State => t.get f = s.get f) kept kept

/-- R548. The cause of the last reset is on the POWER page, which stays with PD_AON. -/
theorem lose_host_cause (s : State) (retain : Bool) : (s.lose 1 retain).get RST_CAUSE = s.get RST_CAUSE := by
  have cleared : (s.clearDomain 1).get RST_CAUSE = s.get RST_CAUSE := by
    have kept : Map.find (s.clearDomain 1).regs RST_CAUSE.key = Map.find s.regs RST_CAUSE.key := (find_drop (fun k => domainOf (k / 131072 % 32768) == 1) s.regs RST_CAUSE.key).trans (if_neg (by decide))
    unfold State.get Map.get
    rw [kept]
  have strapped : ((s.clearDomain 1).dropHost.strapSpeed).get RST_CAUSE = s.get RST_CAUSE := (State.get_set_ne (by decide) _ _).trans cleared
  show (s.clearDomain 1).loseHost.get RST_CAUSE = _
  unfold State.loseHost
  exact prop_ite (P := fun t : State => t.get RST_CAUSE = s.get RST_CAUSE) ((patchEnds_get_ne (by decide) (by decide) (by decide) (by decide) _ _ _).trans strapped) strapped

theorem transitAborts_get_ne {f : Field} (other : ∀ d, f.key ≠ (PWR_RESULT_STATUS d).key ∧ f.key ≠ (PWR_RESULT_OP d).key) (s : State) (d : Nat) : (s.transitAborts d).get f = s.get f := by
  obtain ⟨status, op⟩ := other d
  unfold State.transitAborts
  split
  · rw [State.get_set_ne op, State.get_set_ne status]
  · rfl

theorem fundamental_cause (s : State) (cause : Nat) : (s.fundamental cause).get RST_CAUSE = cause % 16 := by
  have kept : ((s.resetOthers cause).resetDomain 1).get RST_CAUSE = cause % 16 := by
    unfold State.resetDomain
    rw [get_setDom, lose_host_cause, transitAborts_get_ne, resetOthers_cause]
    intro d
    have key : RST_CAUSE.key = 0x1054 * 32 := rfl
    rw [key]
    simp only [Field.key, PWR_RESULT_STATUS, PWR_RESULT_OP]
    omega
  unfold State.fundamental State.hostAgain
  exact prop_ite (P := fun t : State => t.get RST_CAUSE = cause % 16) kept kept

end Sys2Proof.Proofs

/-!
Supplies, resets and start-up, continued (O47): the host interface and the instances through resets, the loss of a supply, the fuse load, the resets that a command or a pin starts.
-/

namespace Sys2Proof.Proofs
open Sys2Proof.Machine Sys2Proof.Laws Sys2Proof.Claims

/-! ### The host interface and the instances through resets -/

/-- R548. What PD_HOST holds goes; the instances and the counters are not in it. -/
theorem lose_host (s : State) (retain : Bool) : (s.lose 1 retain).tenants = s.tenants ∧ (s.lose 1 retain).sync = s.sync ∧ (s.lose 1 retain).host.reads = [] ∧ (s.lose 1 retain).host.vfs = 0 := by
  have dropped : Good ⟨s.pending, (s.clearDomain 1).dropHost, fun x => x == .tenants || x == .sync || x == .host⟩ (s.clearDomain 1).loseHost := by
    have strapped := State_strapSpeed_good (good_self (s.clearDomain 1).dropHost fun x => x == .tenants || x == .sync || x == .host) rfl
    unfold State.loseHost
    exact prop_ite (P := Good _) (State_patchEnds_good _ _ strapped rfl rfl rfl rfl) strapped
  have rest : (s.lose 1 retain).host.rest = (s.clearDomain 1).dropHost.host.rest := dropped.same .host rfl
  exact ⟨dropped.same .tenants rfl, dropped.same .sync rfl, congrArg HostIf.reads rest, congrArg HostIf.vfs rest⟩

/-- The host reads in flight and the vectors that are unmasked are those of `s`. -/
def ReadsKept (s t : State) : Prop := t.host.reads = s.host.reads ∧ t.host.unmasked = s.host.unmasked

theorem ReadsKept.of_rest {s t : State} (h : t.host.rest = s.host.rest) : ReadsKept s t := by
  have reads := congrArg HostIf.reads h
  have unmasked := congrArg HostIf.unmasked h
  exact ⟨reads, unmasked⟩

theorem lose_reads {d : Nat} (other : d ≠ 1) (s : State) (retain : Bool) : ReadsKept s (s.lose d retain) := by
  unfold State.lose
  dsimp only
  rw [if_neg other]
  refine prop_ite (.of_rest ?_) (prop_ite ⟨rfl, rfl⟩ (prop_ite ⟨rfl, rfl⟩ (prop_ite ⟨rfl, rfl⟩ (.of_rest ?_))))
  · exact (State_skewRefresh_good (good_self (s.clearDomain d).dropLink (· == .host)) rfl rfl rfl).same .host rfl
  · exact foldl_of (P := fun t : State => t.host.rest = s.host.rest) rfl fun t n h =>
      ((State_loseCore_good retain n (good_self t (· == .host)) rfl rfl rfl rfl rfl rfl rfl rfl).same .host rfl).trans h

theorem transitAborts_host (s : State) (d : Nat) : (s.transitAborts d).host = s.host := by
  unfold State.transitAborts
  split <;> rfl

theorem transitAborts_leaves (s : State) (d : Nat) : (s.transitAborts d).tenants = s.tenants ∧ (s.transitAborts d).sync = s.sync := by
  unfold State.transitAborts
  split <;> exact ⟨rfl, rfl⟩

theorem resetDomain_reads {s t : State} (h : ReadsKept s t) {d : Nat} (other : d ≠ 1) : ReadsKept s (t.resetDomain d) := by
  obtain ⟨reads, unmasked⟩ := lose_reads other (t.transitAborts d) false
  rw [transitAborts_host] at reads unmasked
  exact ⟨reads.trans h.1, unmasked.trans h.2⟩

theorem lose_memory (s : State) (retain : Bool) : (s.lose 3 retain).tenants = s.tenants ∧ (s.lose 3 retain).sync = s.sync ∧ (s.lose 3 retain).host = s.host := ⟨rfl, rfl, rfl⟩

/-- R547. The resets of every domain but PD_AON and PD_HOST leave no instance and no counter, and the host reads in flight as they are. -/
theorem resetOthers_leaves (s : State) (cause : Nat) : (s.resetOthers cause).tenants = [] ∧ (s.resetOthers cause).sync = {} ∧ ReadsKept s (s.resetOthers cause) := by
  have early : ReadsKept s ([2, 4, 5, 6].foldl State.resetDomain s) :=
    resetDomain_reads (resetDomain_reads (resetDomain_reads (resetDomain_reads ⟨rfl, rfl⟩ (by decide)) (by decide)) (by decide)) (by decide)
  have shared (t : State) : (t.resetDomain 7).tenants = [] ∧ (t.resetDomain 7).sync = {} := ⟨rfl, rfl⟩
  have memory (t : State) : t.resetMem.tenants = (t.transitAborts 3).tenants ∧ t.resetMem.sync = (t.transitAborts 3).sync ∧ t.resetMem.host = (t.transitAborts 3).host := by
    unfold State.resetMem
    dsimp only [State.setDom_tenants, State.setDom_sync, State.setDom_host]
    exact lose_memory _ _
  have reset : ([2, 4, 5, 6, 7].foldl State.resetDomain s).resetMem.tenants = [] ∧ ([2, 4, 5, 6, 7].foldl State.resetDomain s).resetMem.sync = {} ∧
      ReadsKept s ([2, 4, 5, 6, 7].foldl State.resetDomain s).resetMem := by
    rw [show ([2, 4, 5, 6, 7] : List Nat) = [2, 4, 5, 6] ++ [7] from rfl, List.foldl_append, List.foldl_cons, List.foldl_nil]
    have kept := resetDomain_reads early (show (7 : Nat) ≠ 1 by decide)
    obtain ⟨noTenants, noSync⟩ := shared ([2, 4, 5, 6].foldl State.resetDomain s)
    generalize ([2, 4, 5, 6].foldl State.resetDomain s).resetDomain 7 = t at kept noTenants noSync ⊢
    obtain ⟨tenants, sync, host⟩ := memory t
    obtain ⟨tenantsKept, syncKept⟩ := transitAborts_leaves t 3
    refine ⟨tenants.trans (tenantsKept.trans noTenants), sync.trans (syncKept.trans noSync), ?_⟩
    unfold ReadsKept
    rw [host, transitAborts_host]
    exact kept
  unfold State.resetOthers
  generalize ([2, 4, 5, 6, 7].foldl State.resetDomain s).resetMem = t at reset ⊢
  exact prop_ite (P := fun u : State => (u.set RST_CAUSE cause).tenants = [] ∧ (u.set RST_CAUSE cause).sync = {} ∧ ReadsKept s (u.set RST_CAUSE cause)) reset reset

/-- R547. A fundamental reset leaves no instance, no counter and no host read. -/
theorem fundamental_leaves (s : State) (cause : Nat) : (s.fundamental cause).tenants = [] ∧ (s.fundamental cause).sync = {} ∧ (s.fundamental cause).host.reads = [] := by
  obtain ⟨noTenants, noSync, _⟩ := resetOthers_leaves s cause
  have aborted := transitAborts_leaves (s.resetOthers cause) 1
  obtain ⟨tenants, sync, reads, _⟩ := lose_host ((s.resetOthers cause).transitAborts 1) false
  have reset : ((s.resetOthers cause).resetDomain 1).tenants = [] ∧ ((s.resetOthers cause).resetDomain 1).sync = {} ∧ ((s.resetOthers cause).resetDomain 1).host.reads = [] := by
    unfold State.resetDomain
    rw [State.setDom_tenants, State.setDom_sync, State.setDom_host]
    exact ⟨tenants.trans (aborted.1.trans noTenants), sync.trans (aborted.2.trans noSync), reads⟩
  unfold State.fundamental State.hostAgain
  exact prop_ite (P := fun u : State => u.tenants = [] ∧ u.sync = {} ∧ u.host.reads = []) reset reset

/-! ### The loss of a supply (R537) -/

theorem fault_captured (s : State) (cls : Nat) (st : Status) (fn lcore array port index k : Nat) : ((s.fault cls st fn lcore array port index).page k).errInfo0 = (s.page k).errInfo0 := by
  unfold State.fault State.logFault
  split
  · exact (raise_captured _ _ _ _).1
  · exact (raise_captured _ _ _ _).1

theorem logFault_keepsShown (s : State) (e : FaultEntry) : KeepsShown s (s.logFault e) := by
  have kept {t : State} (h : t.pages = s.pages) (bit : Nat) : KeepsShown s (t.raise 0x700 bit) := (keepsShown_of_pages h).trans (raiseFn_keepsShown t 0 0x700 bit)
  unfold State.logFault
  split
  · exact kept (t := { s with faultLog := s.faultLog ++ [e] }) rfl 0
  · exact kept (t := s.add FT_LOST 1) rfl 2

theorem fault_keepsShown (s : State) (cls : Nat) (st : Status) (fn lcore array port index : Nat) : KeepsShown s (s.fault cls st fn lcore array port index) := logFault_keepsShown s _

theorem fault_power (s : State) (cls : Nat) (st : Status) (fn lcore array port index : Nat) : (s.fault cls st fn lcore array port index).power = s.power :=
  (State_fault_good cls st fn lcore array port index (good_self s (· == .power)) rfl rfl rfl rfl).same .power rfl

/-- R537. A domain in RETAIN that loses its supply. -/
theorem supplyLost_retain {s : State} {d : Nat} (retained : s.dom d = .retain) : s.supplyLost d =
    (((((s.lose d false).setDom d .off).capture 1 .aborted d 0).raise 1 4).fault 13 .aborted 0 0 0 0 0) := by
  unfold State.supplyLost
  rw [retained]
  rfl

theorem supplyLost_shows {s : State} {d : Nat} (low : 1 ≤ d) (high : d ≤ 7) (retained : s.dom d = .retain) : (s.supplyLost d).dom d = .off ∧ (s.supplyLost d).shows 0 1 4 = true ∧
    ((s.supplyLost d).page 1).errInfo0 = d := by
  rw [supplyLost_retain retained]
  generalize s.lose d false = t
  refine ⟨?_, ?_, ?_⟩
  · refine (dom_of_power ((fault_power _ _ _ _ _ _ _ _).trans (State.raise_power _ _ _)) d).trans ?_
    exact State.dom_setDom_self (by omega) t .off
  · exact fault_keepsShown _ _ _ _ _ _ _ _ _ _ _ (State.raise_shows _ _ _)
  · rw [fault_captured, (raise_captured _ _ _ _).1, capture_page]
    exact Nat.mod_eq_of_lt (by omega)

/-! ### The link of a host that trains (R556) -/

/-- R421, R449. The registers of a link that has trained. -/
def linkShown (s : State) (speed width : Nat) (flit up : Bool) : State := (((s.set HI_LINK_SPEED speed).set HI_LINK_WIDTH width).flag HI_LINK_FLIT flit).flag HI_LINK_DL_ACTIVE up

theorem linkTrained_shown (s : State) (speed width : Nat) : ∃ v w flit up, (s.linkTrained speed width).regs = (linkShown s v w flit up).regs := ⟨_, _, _, _, rfl⟩

theorem linkTrained_get_ne {f : Field} (speedNe : f.key ≠ HI_LINK_SPEED.key) (widthNe : f.key ≠ HI_LINK_WIDTH.key) (flitNe : f.key ≠ HI_LINK_FLIT.key) (activeNe : f.key ≠ HI_LINK_DL_ACTIVE.key) (s : State)
    (speed width : Nat) : (s.linkTrained speed width).get f = s.get f := by
  obtain ⟨v, w, flit, up, shown⟩ := linkTrained_shown s speed width
  rw [State.get_of_regs shown, linkShown, State.get_flag_ne activeNe, State.get_flag_ne flitNe, State.get_set_ne widthNe, State.get_set_ne speedNe]

theorem linkTrained_keeps (s : State) (speed width : Nat) : (s.linkTrained speed width).power = s.power ∧ (s.linkTrained speed width).host.vfs = s.host.vfs := ⟨rfl, rfl⟩

theorem tryTrain_released {s : State} (released : s.power.perstLow = false) : s.tryTrain = s.linkTrained s.power.offer.1 s.power.offer.2 := by
  unfold State.tryTrain
  rw [if_neg (by simp [released])]

theorem tryTrain_held {s : State} (low : s.power.perstLow = true) : s.tryTrain = s := by
  unfold State.tryTrain
  rw [if_pos low]

/-! ### The fuse load and HOST_UP (R554, R556) -/

theorem laneMaps_get_ne {f : Field} (other : ∀ p, f.key ≠ (FU_LANE_MAP p).key) (l : List Nat) (s : State) :
    ((List.range 8).foldl (fun t p => t.set (FU_LANE_MAP p) (l.getD p 0)) s).get f = s.get f :=
  foldl_of (P := fun t : State => t.get f = s.get f) rfl fun _ p h => (State.get_set_ne (other p) _ _).trans h

/-- R578, R588. The registers of the changes left. -/
def countFields : List Field := [FU_REMAIN_CORE, FU_REMAIN_RKE, FU_REMAIN_PROFILE, FU_LANE_REMAIN, FU_LOG_CNT]

theorem showCounts_countFields (s : State) : OnlyRegs countFields s s.showCounts := by
  unfold State.showCounts
  dsimp only
  iterate 5 refine OnlyRegs.set ?_ (by simp [countFields]) _
  exact .refl _ s

/-- R554. The shadow registers of identity, profile, locks and epoch. -/
def shadowFirst (s : State) : State :=
  (((((((s.set FU_ID_GRADE s.fuses.grade).set FU_ID_STEPPING s.fuses.stepping).set FU_PROFILE_CUR s.fuses.profile).set FU_PROFILE_MAX s.fuses.profileMax).set FU_PROFILE_NEXT s.fuses.profile).flag FU_LOCKS_PROFILE
    s.fuses.profileLock).flag FU_LOCKS_DEBUG s.fuses.debugLock).set FU_RKE_EPOCH s.fuses.rkeEpoch

theorem fuseShadow_eq (s : State) : s.fuseShadow = ((List.range 8).foldl (fun t p => t.set (FU_LANE_MAP p) (s.fuses.laneMap.getD p 0))
    (((shadowFirst s).set FU_CORE_MAP0 (packNibbles (s.fuses.coreMap.take 8))).set FU_CORE_MAP1 (packNibbles (s.fuses.coreMap.drop 8)))).showCounts := rfl

/-- The maps and the counts are shown beside the first shadow registers. -/
theorem fuseShadow_get {f : Field} (lanes : ∀ p, f.key ≠ (FU_LANE_MAP p).key) (counts : f.key ∉ countFields.map Field.key)
    (low : f.key ≠ FU_CORE_MAP0.key) (high : f.key ≠ FU_CORE_MAP1.key) (s : State) : s.fuseShadow.get f = (shadowFirst s).get f := by
  rw [fuseShadow_eq, showCounts_countFields _ f counts, laneMaps_get_ne lanes, State.get_set_ne high, State.get_set_ne low]

theorem laneMap_apart {k : Nat} (off : k % 32 ≠ 0 ∨ k < 0x3070 * 32) (p : Nat) : k ≠ (FU_LANE_MAP p).key := by
  simp only [Field.key, FU_LANE_MAP]
  omega

/-- R554. What the fuse load shows. -/
theorem fuseShadow_shows (s : State) : s.fuseShadow.get FU_PROFILE_CUR = s.fuses.profile % 2 ^ 16 ∧ s.fuseShadow.get FU_RKE_EPOCH = s.fuses.rkeEpoch % 2 ^ 7 ∧ s.fuseShadow.on FU_LOCKS_DEBUG = s.fuses.debugLock ∧
    s.fuseShadow.get SU_STATE = s.get SU_STATE := by
  refine ⟨?_, ?_, ?_, ?_⟩
  · rw [fuseShadow_get (laneMap_apart (by decide)) (by decide) (by decide) (by decide), shadowFirst, State.get_set_ne (by decide), State.get_flag_ne (by decide), State.get_flag_ne (by decide),
      State.get_set_ne (by decide), State.get_set_ne (by decide)]
    exact State.get_set_self _ _ _
  · rw [fuseShadow_get (laneMap_apart (by decide)) (by decide) (by decide) (by decide)]
    exact State.get_set_self _ _ _
  · rw [State.on, fuseShadow_get (laneMap_apart (by decide)) (by decide) (by decide) (by decide), shadowFirst, State.get_set_ne (by decide)]
    exact State.on_flag_self rfl _ _
  · rw [fuseShadow_get (laneMap_apart (by decide)) (by decide) (by decide) (by decide), shadowFirst, State.get_set_ne (by decide), State.get_flag_ne (by decide), State.get_flag_ne (by decide),
      State.get_set_ne (by decide), State.get_set_ne (by decide), State.get_set_ne (by decide), State.get_set_ne (by decide), State.get_set_ne (by decide)]

theorem fuseShadow_power (s : State) : s.fuseShadow.power = s.power := (State_fuseShadow_good (good_self s (· == .power)) rfl).same .power rfl

/-- R554. The state in which the fuses have been loaded and show. -/
def fusesShown (s : State) : State := ({ s with power := { s.power with fusesLoaded := true } } : State).fuseShadow

theorem fusesShown_power (s : State) : (fusesShown s).power = { s.power with fusesLoaded := true } := fuseShadow_power _

theorem fuseLoad_runs {s : State} (starting : s.get SU_STATE = 1) (unloaded : s.power.fusesLoaded = false) (bad : Bool) : exec (.fuseLoadDone bad) s =
    .next (if bad then (((fusesShown s).flag SU_STATE_FUSE_BAD true).raise 3 0).fault 15 .internal 0 0 0 0 0 else fusesShown s).hostUp := by
  show execFuseLoadDone bad s = _
  unfold execFuseLoadDone
  rw [if_neg (by simp [starting, unloaded])]
  rfl

/-- R556. PD_HOST comes ON at HOST_UP, with its link down where PERST_N is held. -/
theorem hostUp_held {s : State} (starting : s.get SU_STATE = 1) (loaded : s.power.fusesLoaded = true) (supplied : s.power.pins.io = true) (low : s.power.perstLow = true) :
    s.hostUp = ((s.setDom 1 .on).set SU_STATE 2).strapSpeed := by
  unfold State.hostUp
  rw [if_pos ⟨starting, loaded, supplied⟩]
  exact tryTrain_held low

theorem hostUp_unsupplied {s : State} (off : s.power.pins.io = false) : s.hostUp = s := by
  unfold State.hostUp
  rw [if_neg (by simp [off])]

theorem strapSpeed_get_ne {f : Field} (other : f.key ≠ HI_TARGET_MAX_SPEED.key) (s : State) : s.strapSpeed.get f = s.get f := State.get_set_ne other _ _

/-! ### What a power-on reset leaves (R537, R548, R553) -/

theorem powerOff_dom (s : State) {d : Nat} (domain : 1 ≤ d) : s.powerOff.dom d = .off := by
  unfold State.dom
  rw [if_neg (by omega)]
  rfl

theorem powerOff_regs (s : State) : s.powerOff.regs = State.reset.regs := rfl

end Sys2Proof.Proofs

/-!
Supplies, resets and start-up, settled (O47): the resets that a pin, the link or a command starts.
-/

namespace Sys2Proof.Proofs
open Sys2Proof.Machine Sys2Proof.Laws Sys2Proof.Claims

/-! ### A hot reset (R547, R552) -/

/-- A state with what the partner offers. -/
def offered (s : State) (speed width : Nat) : State := { s with power := { s.power with offer := (speed, width) } }

/-- R547. A hot reset whose scope is the host: PD_HOST is reset and comes back ON. -/
def hostReset (s : State) : State := ((s.leaveHost.lose 1 false).set RST_CAUSE 4).hostAgain

theorem hotReset_runs {s : State} (on : s.domOn 1 = true) (released : s.power.perstLow = false) {speed width : Nat} {u : State}
    (reset : (if s.on RST_CFG_HOT_SCOPE then hostReset (offered s speed width) else (offered s speed width).fundamental 3) = u) (again : u.dom 1 = .on) (high : u.power.perstLow = false) :
    exec (.hotReset speed width) s = .next (u.linkTrained u.power.offer.1 u.power.offer.2) := by
  show execHotReset speed width s = _
  have back : u.domOn 1 = true := by
    unfold State.domOn
    rw [again]
    rfl
  unfold execHotReset
  rw [if_neg (by simp [on, released])]
  refine congrArg Host.Outcome.next (Eq.trans (b := if u.domOn 1 then u.tryTrain else u) ?_ ((if_pos back).trans (tryTrain_released high)))
  rw [← reset]
  rfl

/-- The power state of a host reset: PD_HOST is ON where its supply is good, the others as they were. -/
theorem hostReset_power (s : State) : ResetKeeps { s with faultLog := s.leaveHost.faultLog, fuses := s.leaveHost.fuses, time := s.leaveHost.time } (hostReset s) := by
  have left : s.leaveHost.power = s.power := (State_leaveHost_good (good_self s (· == .power)) rfl rfl rfl rfl rfl rfl rfl rfl rfl rfl rfl rfl rfl rfl rfl rfl).same .power rfl
  have started : ResetKeeps { s with faultLog := s.leaveHost.faultLog, fuses := s.leaveHost.fuses, time := s.leaveHost.time } s.leaveHost :=
    ⟨⟨s.power.doms, s.power.ringSeen, s.power.sluiceSelfTest, left⟩, rfl, rfl, rfl⟩
  exact ((started.lose 1 false).set _ _).hostAgain

theorem hostReset_shows {s : State} (supplied : s.power.pins.io = true) : (hostReset s).get RST_CAUSE = 4 ∧ (∀ d, d ≠ 1 → (hostReset s).dom d = s.dom d) ∧ (hostReset s).dom 1 = .on ∧ (hostReset s).host.vfs = 0 ∧
    (hostReset s).power.perstLow = s.power.perstLow ∧ (hostReset s).power.offer = s.power.offer := by
  have left : s.leaveHost.power = s.power := (State_leaveHost_good (good_self s (· == .power)) rfl rfl rfl rfl rfl rfl rfl rfl rfl rfl rfl rfl rfl rfl rfl rfl).same .power rfl
  have pins : (s.leaveHost.lose 1 false).power.pins.io = true := by
    rw [((ResetKeeps.refl s.leaveHost).lose 1 false).pins, left]
    exact supplied
  obtain ⟨perst, offer⟩ := (hostReset_power s).perst
  have eq : hostReset s = ((s.leaveHost.lose 1 false).set RST_CAUSE 4).setDom 1 .on := if_pos pins
  obtain ⟨_, _, _, vfs⟩ := lose_host s.leaveHost false
  refine ⟨?_, fun d other => ?_, ?_, ?_, perst, offer⟩
  · rw [eq, get_setDom]
    exact State.get_set_self _ _ _
  · rw [eq, dom_setDom_ne other]
    exact (lose_dom _ _ _ _).trans (dom_of_power left d)
  · rw [eq, State.dom_setDom_self (by decide)]
  · rw [eq]
    exact vfs

/-! ### The chip reset (R547, R548) -/

/-- R548. No host read is in flight. -/
def readsGone (s : State) : State := { s with host := { s.host with reads := [] } }

theorem readsGone_keeps (s : State) : (readsGone s).host.reads = [] ∧ (readsGone s).host.unmasked = s.host.unmasked ∧ (readsGone s).power = s.power ∧ (readsGone s).faultLog = s.faultLog ∧
    (readsGone s).fuses = s.fuses := ⟨rfl, rfl, rfl, rfl, rfl⟩

theorem chipReset_eq (s : State) : s.chipReset = (readsGone s).resetOthers 5 := rfl

/-! ### CORE_RST (R549) -/

theorem coreRst_one {fn n : Nat} {s : State} (opened : PowerOpen s fn) (core : n < 16) : exec (.coreRst fn (2 ^ n)) s =
    .next (if s.coreOn n && s.coreIdle n then s.coreReset n else s.refuseWrite fn CORE_RST.addr (2 ^ n)) := by
  obtain ⟨reach, quiet, stall, behind⟩ := opened
  have named : ∀ k, k < 16 → coresOf (2 ^ k % 65536) = [k] := by decide
  show execCoreRst fn (2 ^ n) s = _
  unfold execCoreRst
  rw [mmio_reaches reach, if_neg (by simp [quiet, stall, behind]), named n core]
  rfl

/-- The state in which the fuses have been loaded, and do not show yet. -/
def fusesRead (s : State) : State := { s with power := { s.power with fusesLoaded := true } }

theorem fusesRead_keeps (s : State) : (fusesRead s).fuses = s.fuses ∧ (fusesRead s).regs = s.regs := ⟨rfl, rfl⟩

theorem fusesShown_eq (s : State) : fusesShown s = (fusesRead s).fuseShadow := rfl

theorem fusesShown_shows (s : State) : (fusesShown s).get FU_PROFILE_CUR = s.fuses.profile % 2 ^ 16 ∧ (fusesShown s).get FU_RKE_EPOCH = s.fuses.rkeEpoch % 2 ^ 7 ∧
    (fusesShown s).on FU_LOCKS_DEBUG = s.fuses.debugLock ∧ (fusesShown s).get SU_STATE = s.get SU_STATE := by
  have shown := fuseShadow_shows (fusesRead s)
  obtain ⟨fuses, regs⟩ := fusesRead_keeps s
  rw [← fusesShown_eq, fuses, State.get_of_regs regs] at shown
  exact shown

/-! ### HOST_UP (R556) -/

/-- R553, R556. What HOST_UP leaves with the link held in reset. -/
theorem hostUp_shows (t : State) : ((t.setDom 1 .on).set SU_STATE 2).strapSpeed.power.fusesLoaded = t.power.fusesLoaded ∧ ((t.setDom 1 .on).set SU_STATE 2).strapSpeed.get SU_STATE = 2 ∧
    ((t.setDom 1 .on).set SU_STATE 2).strapSpeed.dom 1 = .on ∧
    ∀ f, f.key ≠ HI_TARGET_MAX_SPEED.key → f.key ≠ SU_STATE.key → ((t.setDom 1 .on).set SU_STATE 2).strapSpeed.get f = t.get f := by
  refine ⟨rfl, ?_, State.dom_setDom_self (by decide) _ _, fun f speed state => ?_⟩
  · rw [strapSpeed_get_ne (by decide), State.get_set_self]
    rfl
  · rw [strapSpeed_get_ne speed, State.get_set_ne state, get_setDom]

/-- R554, R556. A fuse load without a bad word, the supply good and PERST_N held. -/
theorem fuseLoad_good {s : State} (starting : s.get SU_STATE = 1) (unloaded : s.power.fusesLoaded = false) (supplied : s.power.pins.io = true) (low : s.power.perstLow = true) :
    Runs (.fuseLoadDone false) s (fun t => t.power.fusesLoaded = true ∧ t.get SU_STATE = 2 ∧ t.dom 1 = .on ∧ t.get FU_PROFILE_CUR = s.fuses.profile % 2 ^ 16 ∧
      t.get FU_RKE_EPOCH = s.fuses.rkeEpoch % 2 ^ 7 ∧ t.on FU_LOCKS_DEBUG = s.fuses.debugLock) := by
  obtain ⟨profile, rke, debug, state⟩ := fusesShown_shows s
  have power := fusesShown_power s
  have up : (fusesShown s).hostUp = (((fusesShown s).setDom 1 .on).set SU_STATE 2).strapSpeed :=
    hostUp_held (state.trans starting) (by rw [power]) (by rw [power]; exact supplied) (by rw [power]; exact low)
  obtain ⟨shadow, bringup, on, kept⟩ := hostUp_shows (fusesShown s)
  refine .of_next (fuseLoad_runs starting unloaded false) ?_
  rw [if_neg (by decide), up]
  refine ⟨?_, bringup, on, (kept _ (by decide) (by decide)).trans profile, (kept _ (by decide) (by decide)).trans rke, ?_⟩
  · rw [shadow, power]
  · rw [State.on, kept _ (by decide) (by decide)]
    exact debug

/-- R554, R589. A bad word of the fuses is shown, raised and logged. -/
def fuseBad (t : State) : State := ((t.flag SU_STATE_FUSE_BAD true).raise 3 0).fault 15 .internal 0 0 0 0 0

theorem fuseBad_shows (t : State) : (fuseBad t).power = t.power ∧ (fuseBad t).on SU_STATE_FUSE_BAD = true ∧ (fuseBad t).shows 0 3 0 = true ∧ (fuseBad t).get SU_STATE = t.get SU_STATE := by
  unfold fuseBad
  refine ⟨(fault_power _ _ _ _ _ _ _ _).trans (State.raise_power _ _ _), ?_, fault_keepsShown _ _ _ _ _ _ _ _ _ _ _ (State.raise_shows _ _ _), ?_⟩
  · rw [State.on, fault_get_ne (by decide), State.raise_get]
    exact State.on_flag_self rfl _ _
  · rw [fault_get_ne (by decide), State.raise_get, State.get_flag_ne (by decide)]

/-- R554, R556. A fuse load with a bad word, the supply not good. -/
theorem fuseLoad_bad {s : State} (starting : s.get SU_STATE = 1) (unloaded : s.power.fusesLoaded = false) (unsupplied : s.power.pins.io = false) :
    Runs (.fuseLoadDone true) s (fun t => t.on SU_STATE_FUSE_BAD = true ∧ t.shows 0 3 0 = true ∧ t.get SU_STATE = 1) := by
  obtain ⟨_, _, _, state⟩ := fusesShown_shows s
  have read := fusesShown_power s
  obtain ⟨power, bad, shown, kept⟩ := fuseBad_shows (fusesShown s)
  have stays : (fuseBad (fusesShown s)).hostUp = fuseBad (fusesShown s) := hostUp_unsupplied (by rw [power, read]; exact unsupplied)
  refine .of_next (fuseLoad_runs starting unloaded true) ?_
  rw [if_pos rfl]
  show (fuseBad (fusesShown s)).hostUp.on SU_STATE_FUSE_BAD = true ∧ (fuseBad (fusesShown s)).hostUp.shows 0 3 0 = true ∧ (fuseBad (fusesShown s)).hostUp.get SU_STATE = 1
  rw [stays]
  exact ⟨bad, shown, kept.trans (state.trans starting)⟩

/-- Settles O47: supplies and start-up by what powerOff, supplyLost and hostUp leave, the resets of domains by their folds, each reset of a pin, the link or a command by the domains that it resets. -/
theorem suppliesResetsAndStartUp : Obligations.SuppliesResetsAndStartUp := by
  refine ⟨?aon, ?retained, ?rail, ?rises, ?powerOn, ?loaded, ?badFuses, ?perst, ?fundamental, ?released, ?trains, ?hotAll, ?hotHost, ?chip, ?chipShows, ?coreRst, ?coreRefused, ?tap, ?mandatory, ?locked⟩
  case aon => exact fun s => ⟨rfl, rfl, rfl, rfl, rfl, rfl, rfl⟩
  case retained => exact fun d s low high retained => supplyLost_shows low high retained
  case rail =>
    intro rail s which
    have one : railDomains rail = [rail + 1 + b2n (rail != 2)] := by rcases which with rfl | rfl | rfl <;> decide
    show execPwrGoodFall rail s = _
    unfold execPwrGoodFall
    rw [if_neg (by omega), one, List.foldl_cons, List.foldl_nil]
  case rises =>
    intro rail s started
    show execPwrGoodRise rail s = _
    unfold execPwrGoodRise State.hostUp
    rw [if_neg fun h => started h.1]
  case powerOn =>
    intro straps s
    refine .of_next rfl ⟨?_, ?_, State.get_set_self _ _ _, fun d domain => powerOff_dom s domain, rfl, rfl, ?_⟩
    · rw [State.get_set_ne (by decide), State.get_set_ne (by decide), State.get_set_self]
      rfl
    · rw [State.get_set_ne (by decide), State.get_set_self]
      rfl
    · have off : OnlyRegs [STRAPS, SU_STATE, RST_CAUSE] State.reset s.powerOff := (OnlyRegs.refl _ _).of_regs (powerOff_regs s)
      exact ((off.set (by simp) _).set (by simp) _).set (by simp) _
  case loaded => exact fun s starting unloaded supplied low => fuseLoad_good starting unloaded supplied low
  case badFuses => exact fun s starting unloaded unsupplied => fuseLoad_bad starting unloaded unsupplied
  case perst =>
    intro s started
    show execPerstAssert s = _
    unfold execPerstAssert
    exact congrArg Host.Outcome.next (if_neg (Nat.not_lt.mpr started))
  case fundamental =>
    intro cause s small
    obtain ⟨tenants, sync, reads⟩ := fundamental_leaves s cause
    refine ⟨(fundamental_cause s cause).trans (Nat.mod_eq_of_lt small), fun d others => ?_, ?_, ?_, ((ResetKeeps.refl s).fundamental cause).faultLog, tenants, sync, reads⟩
    · have apart : d ≠ 1 ∧ d ≠ 3 := by
        constructor <;> rintro rfl <;> exact absurd others (by decide)
      rw [fundamental_dom, if_neg (fun h => apart.1 h.1), if_neg apart.1, resetOthers_dom, if_neg apart.2, if_pos others]
    · rw [fundamental_dom, if_neg (by simp), if_neg (by decide), resetOthers_dom, if_pos rfl]
    · rw [fundamental_dom]
      simp
  case released =>
    intro speed width s supplied off
    show execPerstRelease speed width s = _
    unfold execPerstRelease
    rw [if_neg (by simp [supplied])]
    exact congrArg Host.Outcome.next (if_neg fun on => Bool.false_ne_true (off.symm.trans on))
  case trains =>
    intro speed width s supplied on
    show execPerstRelease speed width s = _
    unfold execPerstRelease
    rw [if_neg (by simp [supplied])]
    exact congrArg Host.Outcome.next (if_pos on)
  case hotAll =>
    intro speed width s on released scope supplied
    have keeps := (ResetKeeps.refl (offered s speed width)).fundamental 3
    have again : ((offered s speed width).fundamental 3).dom 1 = .on := by
      rw [fundamental_dom, if_pos ⟨rfl, supplied⟩]
    refine .of_next (hotReset_runs on released (if_neg (by simp [scope])) again (keeps.perst.1.trans released)) ⟨?_, ?_, ?_, ?_⟩
    · rw [linkTrained_get_ne (by decide) (by decide) (by decide) (by decide), fundamental_cause]
    · rw [dom_of_power (linkTrained_keeps _ _ _).1, again]
    · rw [dom_of_power (linkTrained_keeps _ _ _).1, fundamental_dom, if_neg (by simp), if_neg (by decide), resetOthers_dom, if_neg (by decide), if_pos (by decide)]
    · rw [(linkTrained_keeps _ _ _).1, keeps.perst.2]
      rfl
  case hotHost =>
    intro speed width s on released scope supplied
    obtain ⟨cause, others, again, vfs, perst, offer⟩ := hostReset_shows (s := offered s speed width) supplied
    refine .of_next (hotReset_runs on released (if_pos scope) again (perst.trans released)) ⟨?_, fun d other => ?_, ?_, ?_, ?_⟩
    · rw [linkTrained_get_ne (by decide) (by decide) (by decide) (by decide), cause]
    · rw [dom_of_power (linkTrained_keeps _ _ _).1, others d other]
      rfl
    · rw [dom_of_power (linkTrained_keeps _ _ _).1, again]
    · rw [(linkTrained_keeps _ _ _).2, vfs]
    · rw [(linkTrained_keeps _ _ _).1, offer]
      rfl
  case chip =>
    intro fn v s reach
    show execChipReset fn v s = _
    unfold execChipReset
    rw [mmio_reaches reach]
  case chipShows =>
    intro s
    have keeps := (ResetKeeps.refl (readsGone s)).resetOthers 5
    obtain ⟨_, _, reads, unmasked⟩ := resetOthers_leaves (readsGone s) 5
    obtain ⟨none, vectors, power, log, fuses⟩ := readsGone_keeps s
    rw [chipReset_eq]
    refine ⟨?_, ?_, ?_, ?_, ?_, ?_, ?_, ?_⟩
    · rw [resetOthers_cause]
    · rw [reads, none]
    · rw [resetOthers_dom, if_neg (by decide), if_neg (by decide), dom_of_power power]
    · rw [resetOthers_dom, if_neg (by decide), if_pos (by decide)]
    · rw [resetOthers_dom, if_neg (by decide), if_pos (by decide)]
    · rw [unmasked, vectors]
    · rw [keeps.faultLog, log]
    · rw [keeps.fuses, fuses]
  case coreRst =>
    intro fn n s opened core on idle
    rw [coreRst_one opened core, if_pos (by simp [on, idle])]
  case coreRefused =>
    intro fn n s opened core refused
    rw [coreRst_one opened core, if_neg (by rcases refused with off | busy <;> simp [*])]
  case tap => exact fun s => rfl
  case mandatory =>
    intro i s plain
    cases i with
    | priv n => exact absurd rfl (plain n)
    | _ => rfl
  case locked => exact fun n s locked => if_pos locked

end Sys2Proof.Proofs

/-!
The PMBus master, management patches, temperatures and the thermal trip (O48; R539, R540, R544 to R546, R555, R559).
-/

namespace Sys2Proof.Proofs
open Sys2Proof.Machine Sys2Proof.Laws Sys2Proof.Claims

/-! ### A transfer of the PMBus master begins (R539, R540) -/

/-- R426. The PMBUS page is the manager's alone. -/
theorem reaches_pmbus {s : State} {fn : Nat} (reach : s.Reaches fn 4) : fn = 0 := by
  obtain ⟨_, sees⟩ := reach
  by_contra vf
  unfold State.sees at sees
  rw [if_neg vf] at sees
  split at sees
  · exact absurd sees (by decide)
  · simp at sees
    omega

/-- R539. The address, code and kind of a transfer are recorded. -/
def xferNamed (s : State) (kind a c : Nat) : State := ((s.set PM_XFER_ADDR a).set PM_XFER_CODE c).set PM_XFER_KIND kind

theorem xferNamed_get_ne {f : Field} (addr : f.key ≠ PM_XFER_ADDR.key) (code : f.key ≠ PM_XFER_CODE.key) (kind : f.key ≠ PM_XFER_KIND.key) (s : State) (k a c : Nat) : (xferNamed s k a c).get f = s.get f := by
  rw [xferNamed, State.get_set_ne kind, State.get_set_ne code, State.get_set_ne addr]

/-- R540. Naming a transfer changes no guard and no data. -/
theorem xferNamed_guarded (s : State) (k a c x y : Nat) : (xferNamed s k a c).guarded x y = s.guarded x y := by
  have get {f : Field} (low : f.lsb < 32) (other : 0x4044 < f.addr) : (xferNamed s k a c).get f = s.get f := by
    have apart : f.key ≠ PM_XFER_ADDR.key ∧ f.key ≠ PM_XFER_CODE.key ∧ f.key ≠ PM_XFER_KIND.key := by
      simp only [Field.key, PM_XFER_ADDR, PM_XFER_CODE, PM_XFER_KIND]
      omega
    exact xferNamed_get_ne apart.1 apart.2.1 apart.2.2 s k a c
  have power : (xferNamed s k a c).power = s.power := rfl
  unfold State.guarded
  refine congrArg (fun g : Nat → Bool => y == 0x21 && [0, 1].any g) (funext fun i => ?_)
  rw [power, get (f := PM_GUARD_ADDR i) (by simp [PM_GUARD_ADDR]) (by simp only [PM_GUARD_ADDR]; omega), get (f := PM_GUARD_PAGE i) (by simp [PM_GUARD_PAGE]) (by simp only [PM_GUARD_PAGE]; omega),
    get (f := PM_GUARD_VMIN i) (by simp [PM_GUARD_VMIN]) (by simp only [PM_GUARD_VMIN]; omega), get (f := PM_GUARD_VMAX i) (by simp [PM_GUARD_VMAX]) (by simp only [PM_GUARD_VMAX]; omega),
    get (f := PM_WDATA) (by decide) (by decide)]

/-- R539. A transfer in progress, with the bytes that it writes. -/
def xferBegun (s : State) (bytes : List Byte) : State := { s with power := { s.power with pmWrite := bytes } }.flag PM_STAT_BUSY true

/-- The bytes that a transfer of a kind writes. -/
def xferBytes (kind wdata : Nat) : List Byte := if kind = 1 then (leBytes 2 wdata).take 1 else if kind = 2 then leBytes 2 wdata else []

theorem pmCmd_runs {fn kind addr code : Nat} {s : State} (reach : s.Reaches fn 4) (idle : s.on PM_STAT_BUSY = false) (free : kind = 2 → s.guarded (addr % 128) (code % 256) = false) :
    pmCmd fn kind addr code s = .next (xferBegun (xferNamed s kind (addr % 128) (code % 256)) (xferBytes kind (s.get PM_WDATA))) := by
  have wdata : (xferNamed s kind (addr % 128) (code % 256)).get PM_WDATA = s.get PM_WDATA := xferNamed_get_ne (by decide) (by decide) (by decide) _ _ _ _
  have allowed : ¬(kind = 2 ∧ (xferNamed s kind (addr % 128) (code % 256)).guarded (addr % 128) (code % 256) = true) := by
    rintro ⟨word, guarded⟩
    rw [xferNamed_guarded, free word] at guarded
    exact Bool.false_ne_true guarded
  rw [← wdata]
  unfold pmCmd
  rw [mmio_reaches reach]
  dsimp only
  rw [if_neg (by simp [idle])]
  exact if_neg allowed

theorem xferBegun_shows {kind a c : Nat} (addr : a < 128) (code : c < 256) (small : kind < 8) (s : State) (bytes : List Byte) : (xferBegun (xferNamed s kind a c) bytes).on PM_STAT_BUSY = true ∧
    (xferBegun (xferNamed s kind a c) bytes).get PM_XFER_ADDR = a ∧ (xferBegun (xferNamed s kind a c) bytes).get PM_XFER_CODE = c ∧ (xferBegun (xferNamed s kind a c) bytes).get PM_XFER_KIND = kind ∧
    (xferBegun (xferNamed s kind a c) bytes).power = { s.power with pmWrite := bytes } ∧ OnlyRegs [PM_STAT_BUSY, PM_XFER_ADDR, PM_XFER_CODE, PM_XFER_KIND] s (xferBegun (xferNamed s kind a c) bytes) := by
  have begun {f : Field} (other : f.key ≠ PM_STAT_BUSY.key) : (xferBegun (xferNamed s kind a c) bytes).get f = (xferNamed s kind a c).get f := (State.get_flag_ne other _ _).trans (State.get_of_regs rfl f)
  refine ⟨State.on_flag_self rfl _ _, ?_, ?_, ?_, rfl, ?_⟩
  · rw [begun (by decide), xferNamed, State.get_set_ne (by decide), State.get_set_ne (by decide), State.get_set_self]
    exact Nat.mod_eq_of_lt addr
  · rw [begun (by decide), xferNamed, State.get_set_ne (by decide), State.get_set_self]
    exact Nat.mod_eq_of_lt code
  · rw [begun (by decide), xferNamed, State.get_set_self]
    exact Nat.mod_eq_of_lt small
  · have named : OnlyRegs [PM_STAT_BUSY, PM_XFER_ADDR, PM_XFER_CODE, PM_XFER_KIND] s (xferNamed s kind a c) := (((OnlyRegs.refl _ s).set (by simp) _).set (by simp) _).set (by simp) _
    exact (named.of_regs (u := { xferNamed s kind a c with power := { (xferNamed s kind a c).power with pmWrite := bytes } }) rfl).set (by simp) _

/-- R539. What GO leaves of a transfer that is not refused. -/
theorem pmCmd_shows {cmd : Instr} {fn kind addr code : Nat} {s : State} (own : exec cmd s = pmCmd fn kind addr code s) (reach : s.Reaches fn 4) (idle : s.on PM_STAT_BUSY = false)
    (free : kind = 2 → s.guarded (addr % 128) (code % 256) = false) (small : kind < 8) {bytes : List Byte} (written : xferBytes kind (s.get PM_WDATA) = bytes) :
    Runs cmd s (fun t => t.on PM_STAT_BUSY = true ∧ t.get PM_XFER_ADDR = addr % 128 ∧ t.get PM_XFER_CODE = code % 256 ∧ t.get PM_XFER_KIND = kind ∧ t.power = { s.power with pmWrite := bytes } ∧
      OnlyRegs [PM_STAT_BUSY, PM_XFER_ADDR, PM_XFER_CODE, PM_XFER_KIND] s t) := by
  subst written
  exact .of_next (own.trans (pmCmd_runs reach idle free)) (xferBegun_shows (Nat.mod_lt _ (by decide)) (Nat.mod_lt _ (by decide)) small s _)

/-- R540. A write of VOUT_COMMAND outside a guard of its regulator is refused. -/
theorem pmCmd_guarded {fn addr code : Nat} {s : State} (reach : s.Reaches fn 4) (idle : s.on PM_STAT_BUSY = false) (guarded : s.guarded (addr % 128) (code % 256) = true) :
    pmCmd fn 2 addr code s = .next (((xferNamed s 2 (addr % 128) (code % 256)).set PM_STAT_RESULT Status.badParam.code).refuseWrite fn PM_XFER_ADDR.addr
      (addr % 128 + 256 * (code % 256) + 65536 * 2 + 2 ^ 31)) := by
  unfold pmCmd
  rw [mmio_reaches reach]
  dsimp only
  rw [if_neg (by simp [idle])]
  exact if_pos ⟨rfl, (xferNamed_guarded _ _ _ _ _ _).trans guarded⟩

theorem guarded_of {s : State} {x a c : Nat} (guard : x < 2) (vout : c = 0x21) (used : s.get (PM_GUARD_ADDR x) ≠ 0) (addr : s.get (PM_GUARD_ADDR x) = a)
    (page : s.get (PM_GUARD_PAGE x) = Map.get s.power.pmPages 0 a) (outside : s.get PM_WDATA < s.get (PM_GUARD_VMIN x) ∨ s.get (PM_GUARD_VMAX x) < s.get PM_WDATA) : s.guarded a c = true := by
  have named : x ∈ [0, 1] := by
    rcases x with _ | _ | x
    · simp
    · simp
    · omega
  unfold State.guarded
  rw [vout, beq_self_eq_true, Bool.true_and]
  exact List.any_eq_true.mpr ⟨x, named, by rw [addr] at used ⊢; simp [used, page, outside]⟩

/-! ### A transfer ends (R539) -/

/-- R539. The data of a transfer lands in RDATA or in the block registers. -/
theorem pmData_get_ne {f : Field} (data : f.key ≠ PM_RDATA.key) (block : ∀ i, f.key ≠ (PM_BLK i).key) (s : State) (b : List Byte) : (s.pmData b).get f = s.get f := by
  unfold State.pmData
  dsimp only
  refine prop_ite (P := fun t : State => t.get f = s.get f) (State.get_set_ne data _ _) (prop_ite (P := fun t : State => t.get f = s.get f) (State.get_set_ne data _ _)
    (prop_ite (P := fun t : State => t.get f = s.get f) ?_ (prop_ite (P := fun t : State => t.get f = s.get f) rfl rfl)))
  exact foldl_of (P := fun t : State => t.get f = s.get f) rfl fun t i h => (State.get_set_ne (block i) _ _).trans h

theorem pmData_byte {s : State} (kind : s.get PM_XFER_KIND = 3) (b : List Byte) : s.pmData b = s.set PM_RDATA (leNat (b.take 1)) := if_pos kind

theorem pmData_word {s : State} (kind : s.get PM_XFER_KIND = 4) (b : List Byte) : s.pmData b = s.set PM_RDATA (leNat (b.take 2)) := by
  unfold State.pmData
  dsimp only
  rw [if_neg (by omega), if_pos kind]

theorem leNat_take_lt (b : List Byte) (n : Nat) : leNat (b.take n) < 256 ^ n := (leNat_lt _).trans_le (Nat.pow_le_pow_right (by decide) (List.length_take_le _ _))

theorem pmData_block {s : State} (kind : s.get PM_XFER_KIND = 5) (b : List Byte) {i : Nat} (word : i < 8) : (s.pmData b).get (PM_BLK i) = leNat (((b.take 32).drop (4 * i)).take 4) := by
  have apart {j : Nat} (other : j ≠ i) : (PM_BLK i).key ≠ (PM_BLK j).key := by
    simp only [Field.key, PM_BLK]
    omega
  have stored (u : State) (j : Nat) : (u.set (PM_BLK j) (leNat (((b.take 32).drop (4 * j)).take 4))).get (PM_BLK j) = leNat (((b.take 32).drop (4 * j)).take 4) := by
    rw [State.get_set_self]
    exact Nat.mod_eq_of_lt (leNat_take_lt _ 4)
  unfold State.pmData
  dsimp only
  rw [if_neg (by omega), if_neg (by omega), if_pos kind]
  refine foldl_reaches (P := fun t : State => t.get (PM_BLK i) = leNat (((b.take 32).drop (4 * i)).take 4)) (List.mem_range.mpr word) (fun u => stored u i) fun u j _ h => ?_
  by_cases own : j = i
  · rw [own]
    exact stored u i
  · exact (State.get_set_ne (apart own) _ _).trans h

/-- R539. A transfer that has ended well. -/
def xferDone (s : State) (b : List Byte) : State := ((((s.flag PM_STAT_BUSY false).pmData b).set PM_STAT_RESULT Status.ok.code).set PM_STAT_CAUSE 0).raise 4 0

theorem pmDone_ok {s : State} (busy : s.on PM_STAT_BUSY = true) (b : List Byte) : exec (.pmDone (.ok b)) s = .next (xferDone s b) := by
  show execPmDone (.ok b) s = _
  unfold execPmDone
  rw [if_neg (by simp [busy])]
  rfl

theorem xferDone_get_ne {f : Field} (result : f.key ≠ PM_STAT_RESULT.key) (cause : f.key ≠ PM_STAT_CAUSE.key) (s : State) (b : List Byte) :
    (xferDone s b).get f = ((s.flag PM_STAT_BUSY false).pmData b).get f := by
  rw [xferDone, State.raise_get, State.get_set_ne cause, State.get_set_ne result]

theorem block_apart {k : Nat} (off : k % 32 ≠ 0 ∨ k < 0x4060 * 32) (i : Nat) : k ≠ (PM_BLK i).key := by
  simp only [Field.key, PM_BLK]
  omega

theorem block_status (i : Nat) : (PM_BLK i).key ≠ PM_STAT_RESULT.key ∧ (PM_BLK i).key ≠ PM_STAT_CAUSE.key := by
  simp only [Field.key, PM_BLK, PM_STAT_RESULT, PM_STAT_CAUSE]
  omega

theorem xferDone_shows (s : State) (b : List Byte) : (xferDone s b).on PM_STAT_BUSY = false ∧ (xferDone s b).get PM_STAT_RESULT = 0 ∧ (xferDone s b).get PM_STAT_CAUSE = 0 ∧ (xferDone s b).shows 0 4 0 = true ∧
    (s.get PM_XFER_KIND = 3 → (xferDone s b).get PM_RDATA = leNat (b.take 1)) ∧ (s.get PM_XFER_KIND = 4 → (xferDone s b).get PM_RDATA = leNat (b.take 2)) ∧
    (s.get PM_XFER_KIND = 5 → ∀ i, i < 8 → (xferDone s b).get (PM_BLK i) = leNat (((b.take 32).drop (4 * i)).take 4)) := by
  have kind : (s.flag PM_STAT_BUSY false).get PM_XFER_KIND = s.get PM_XFER_KIND := State.get_flag_ne (by decide) _ _
  refine ⟨?_, ?_, ?_, State.raise_shows _ _ _, fun byte => ?_, fun word => ?_, fun block i low => ?_⟩
  · rw [State.on, xferDone_get_ne (by decide) (by decide), pmData_get_ne (by decide) (block_apart (by decide))]
    exact State.on_flag_self rfl _ _
  · rw [xferDone, State.raise_get, State.get_set_ne (by decide), State.get_set_self]
    rfl
  · rw [xferDone, State.raise_get, State.get_set_self]
    rfl
  · rw [xferDone_get_ne (by decide) (by decide), pmData_byte (kind.trans byte), State.get_set_self]
    exact Nat.mod_eq_of_lt ((leNat_take_lt b 1).trans (by decide))
  · rw [xferDone_get_ne (by decide) (by decide), pmData_word (kind.trans word), State.get_set_self]
    exact Nat.mod_eq_of_lt (leNat_take_lt b 2)
  · rw [xferDone_get_ne (block_status i).1 (block_status i).2, pmData_block (kind.trans block) b low]

/-- R616. An error whose details are open is captured by its code. -/
theorem captureOpen_shows (s : State) (page : Nat) (st : Status) : ((s.captureOpen 0 page st).page page).errCode = st.code ∧ (s.captureOpen 0 page st).regs = s.regs ∧ KeepsShown s (s.captureOpen 0 page st) := by
  unfold State.captureOpen
  dsimp only
  refine ⟨?_, rfl, (keepsShown_of_pages rfl).trans (captureFn_keepsShown s.drawFree.2.drawFree.2 0 page st _ _)⟩
  have own := State.captureFn_page_self s.drawFree.2.drawFree.2 0 page st s.drawFree.1 s.drawFree.2.drawFree.1
  rw [pageKey_manager] at own
  rw [own]

/-- R539. A transfer that has failed. -/
def xferFailed (s : State) (c : Nat) : State := (((s.flag PM_STAT_BUSY false).set PM_STAT_RESULT Status.aborted.code).set PM_STAT_CAUSE c)

theorem pmDone_failed {s : State} (busy : s.on PM_STAT_BUSY = true) (c : Nat) : exec (.pmDone (.failed c)) s = .next (((xferFailed s c).captureOpen 0 4 .aborted).raise 4 0) := by
  show execPmDone (.failed c) s = _
  unfold execPmDone
  rw [if_neg (by simp [busy])]
  rfl

theorem pmFailed_shows (s : State) (c : Nat) : (((xferFailed s c).captureOpen 0 4 .aborted).raise 4 0).on PM_STAT_BUSY = false ∧
    (((xferFailed s c).captureOpen 0 4 .aborted).raise 4 0).get PM_STAT_RESULT = Status.aborted.code ∧ (((xferFailed s c).captureOpen 0 4 .aborted).raise 4 0).get PM_STAT_CAUSE = c % 16 ∧
    (((xferFailed s c).captureOpen 0 4 .aborted).raise 4 0).shows 0 4 0 = true ∧ ((((xferFailed s c).captureOpen 0 4 .aborted).raise 4 0).page 4).errCode = Status.aborted.code ∧
    OnlyRegs [PM_STAT_BUSY, PM_STAT_RESULT, PM_STAT_CAUSE] s (((xferFailed s c).captureOpen 0 4 .aborted).raise 4 0) := by
  obtain ⟨code, regs, _⟩ := captureOpen_shows (xferFailed s c) 4 .aborted
  have get (f : Field) : (((xferFailed s c).captureOpen 0 4 .aborted).raise 4 0).get f = (xferFailed s c).get f := (State.raise_get _ _ _ _).trans (State.get_of_regs regs f)
  refine ⟨?_, ?_, ?_, State.raise_shows _ _ _, (raise_captured _ _ _ _).2.trans code, ?_⟩
  · rw [State.on, get, xferFailed, State.get_set_ne (by decide), State.get_set_ne (by decide)]
    exact State.on_flag_self rfl _ _
  · rw [get, xferFailed, State.get_set_ne (by decide), State.get_set_self]
    rfl
  · rw [get, xferFailed, State.get_set_self]
    rfl
  · have failed : OnlyRegs [PM_STAT_BUSY, PM_STAT_RESULT, PM_STAT_CAUSE] s (xferFailed s c) := ((onlyRegs_flag (.refl _ s) (by simp) _).set (by simp) _).set (by simp) _
    exact (failed.of_regs regs).of_regs (State.raise_regs _ _ _)

end Sys2Proof.Proofs

/-!
Management patches, temperatures and the thermal trip (O48, continued; R544 to R546, R555).
-/

namespace Sys2Proof.Proofs
open Sys2Proof.Machine Sys2Proof.Laws Sys2Proof.Claims

/-! ### Management patches (R555) -/

/-- R555. The registers of a patch load that has ended. -/
def patchShown (s : State) (st : Status) (version : Nat) : State :=
  (((s.flag PATCH_CTRL_BUSY false).set PATCH_CTRL_RESULT st.code).flag SU_STATE_PATCHED (st == .ok)).set PATCH_VER (if st = .ok then version else 0)

theorem patchEnds_regs (s : State) (st : Status) (version : Nat) : (s.patchEnds st version).regs = (patchShown s st version).regs := by
  have open_ : ((patchShown s st version).captureOpen 0 4 st).regs = (patchShown s st version).regs := (captureOpen_shows _ _ _).2.1
  refine (State.raise_regs _ 4 1).trans ?_
  exact prop_ite (P := fun t : State => t.regs = (patchShown s st version).regs) rfl open_

theorem patchEnds_shows (s : State) (st : Status) {version : Nat} (small : version < 65536) : (s.patchEnds st version).on PATCH_CTRL_BUSY = false ∧ (s.patchEnds st version).get PATCH_CTRL_RESULT = st.code ∧
    (s.patchEnds st version).on SU_STATE_PATCHED = (st == .ok) ∧ (s.patchEnds st version).get PATCH_VER = (if st = .ok then version else 0) ∧ (s.patchEnds st version).shows 0 4 1 = true := by
  have get (f : Field) : (s.patchEnds st version).get f = (patchShown s st version).get f := State.get_of_regs (patchEnds_regs s st version) f
  refine ⟨?_, ?_, ?_, ?_, State.raise_shows _ _ _⟩
  · rw [State.on, get, patchShown, State.get_set_ne (by decide), State.get_flag_ne (by decide), State.get_set_ne (by decide)]
    exact State.on_flag_self rfl _ _
  · rw [get, patchShown, State.get_set_ne (by decide), State.get_flag_ne (by decide), State.get_set_self]
    exact Nat.mod_eq_of_lt (code_lt st)
  · rw [State.on, get, patchShown, State.get_set_ne (by decide)]
    exact State.on_flag_self rfl _ _
  · rw [get, patchShown, State.get_set_self]
    exact Nat.mod_eq_of_lt (show (if st = .ok then version else 0) < 65536 by split <;> omega)

/-- R555. A patch that is too short to hold a header and a signature has none. -/
theorem patchVerdict_short (s : State) (profile : Nat) {b : List Byte} (short : b.length < 128) : s.patchVerdict b profile = .authFail := by
  have less : decide (128 ≤ b.length) = false := by simpa using short
  unfold State.patchVerdict
  dsimp only
  rw [less, Bool.false_and, Bool.false_and, Bool.not_false, if_pos rfl]

theorem patchDone_runs {src : ReadOutcome} {version profile a : Nat} {s t z : State} {st : Status} {b : List Byte} (busy : s.on PATCH_CTRL_BUSY = true)
    (free : s.hostHeld 0 (s.pair PATCH_ADDR_LO PATCH_ADDR_HI) (s.get PATCH_LEN) = false) (draw : s.drawFree = (a, t))
    (fetch : t.hostFetch 0 (a % 16) (s.pair PATCH_ADDR_LO PATCH_ADDR_HI) (s.get PATCH_LEN) src = (z, st, b)) :
    exec (.patchDone src version profile) s = .next (z.patchEnds (if st = .ok then z.patchVerdict b profile else st) version) := by
  have regs : t.regs = s.regs := (congrArg (fun d : Nat × State => d.2.regs) draw).symm
  have pair : t.pair PATCH_ADDR_LO PATCH_ADDR_HI = s.pair PATCH_ADDR_LO PATCH_ADDR_HI := by
    unfold State.pair
    rw [State.get_of_regs regs, State.get_of_regs regs]
  show execPatchDone src version profile s = _
  unfold execPatchDone
  rw [if_neg (by simp [busy, free]), draw]
  dsimp only
  rw [pair, State.get_of_regs regs, fetch]
  cases st with
  | ok => rw [if_pos rfl]
  | _ => exact congrArg (fun x => Host.Outcome.next (z.patchEnds x version)) (if_neg (by decide)).symm

/-! ### Temperatures (R544) -/

/-- R544. The die readings have been taken. -/
def sampled (s : State) (a b io : Nat) : State := ((s.set TEMP_A a).set TEMP_B b).set TEMP_IO io

theorem sampled_shows (s : State) (a b io : Nat) : (sampled s a b io).get TEMP_A = a % 65536 ∧ (sampled s a b io).get TEMP_B = b % 65536 ∧ (sampled s a b io).get TEMP_IO = io % 65536 := by
  refine ⟨?_, ?_, State.get_set_self _ _ _⟩
  · rw [sampled, State.get_set_ne (by decide), State.get_set_ne (by decide), State.get_set_self]
    rfl
  · rw [sampled, State.get_set_ne (by decide), State.get_set_self]
    rfl

theorem tempReading_word (v : Nat) : tempReading (v % 65536) = tempReading v := by
  unfold tempReading
  rw [Nat.mod_mod]

theorem sampled_readings (s : State) (a b io : Nat) : (sampled s a b io).readings = [tempReading a, tempReading b, tempReading io] := by
  obtain ⟨first, second, third⟩ := sampled_shows s a b io
  unfold State.readings
  rw [first, second, third, List.map_cons, List.map_cons, List.map_cons, List.map_nil, tempReading_word, tempReading_word, tempReading_word]

/-- R544, R545. A sample, and the alert that it raises. -/
def sampleSeen (s : State) (a b io : Nat) : State := (sampled s a b io).raiseEdge 1 1 s.warm (sampled s a b io).warm

theorem sampleSeen_regs (s : State) (a b io : Nat) : (sampleSeen s a b io).regs = (sampled s a b io).regs := raiseEdge_regs _ _ _ _ _

theorem sampleSeen_readings (s : State) (a b io : Nat) : (sampleSeen s a b io).readings = [tempReading a, tempReading b, tempReading io] := by
  rw [← sampled_readings s]
  unfold State.readings
  rw [State.get_of_regs (sampleSeen_regs s a b io), State.get_of_regs (sampleSeen_regs s a b io), State.get_of_regs (sampleSeen_regs s a b io)]

theorem sampleSeen_keeps (s : State) (a b io : Nat) : (sampleSeen s a b io).power = s.power ∧ (sampleSeen s a b io).time = s.time := by
  unfold sampleSeen State.raiseEdge
  refine prop_ite (P := fun t : State => t.power = s.power ∧ t.time = s.time) ⟨?_, ?_⟩ ⟨rfl, rfl⟩
  · exact (State.raise_power _ _ _).trans rfl
  · exact (State.raise_only _ 1 1 .time (by decide)).trans rfl

theorem thermalSample_runs (a b io : Nat) (s : State) : exec (.thermalSample a b io) s =
    (match [tempReading a, tempReading b, tempReading io].findIdx? (fun x => decide (1920 ≤ x)) with
      | some i => .next (if (sampleSeen s a b io).get SU_STATE = 5 then sampleSeen s a b io else (sampleSeen s a b io).trip (i + 1) 0)
      | none => .next (sampleSeen s a b io)) := by
  rw [← sampleSeen_readings s a b io]
  rfl

/-- R544. A sample below the trip point shows, with its warning. -/
theorem sampleSeen_shows (s : State) (a b io : Nat) : (sampleSeen s a b io).get TEMP_A = a % 65536 ∧ (sampleSeen s a b io).get TEMP_B = b % 65536 ∧ (sampleSeen s a b io).get TEMP_IO = io % 65536 ∧
    OnlyRegs [TEMP_A, TEMP_B, TEMP_IO] s (sampleSeen s a b io) ∧ (sampleSeen s a b io).power = s.power ∧ (s.warm = false → (sampleSeen s a b io).warm = true → (sampleSeen s a b io).shows 0 1 1 = true) := by
  obtain ⟨first, second, third⟩ := sampled_shows s a b io
  have get (f : Field) : (sampleSeen s a b io).get f = (sampled s a b io).get f := State.get_of_regs (sampleSeen_regs s a b io) f
  have only : OnlyRegs [TEMP_A, TEMP_B, TEMP_IO] s (sampled s a b io) := (((OnlyRegs.refl _ s).set (by simp) _).set (by simp) _).set (by simp) _
  refine ⟨(get _).trans first, (get _).trans second, (get _).trans third, only.of_regs (sampleSeen_regs s a b io), (sampleSeen_keeps s a b io).1, fun cool warm => ?_⟩
  exact raiseEdge_shows cool ((raiseEdge_warm _ _ _ _ _).symm.trans warm) _ _ _

/-! ### The thermal trip (R545, R546) -/

/-- R545. The trip's output is low. -/
def tripLow (s : State) : State := { s with power := { s.power with thermTripLow := true } }

theorem tripLow_low (s : State) : (tripLow s).power.thermTripLow = true := rfl

/-- R545. Every domain but PD_AON has been reset by a trip. -/
def tripped (s : State) : State := allDomains.foldl State.resetDomain (tripLow s)

/-- R545. What a trip records. -/
def tripShown (t : State) (die stack ns sec : Nat) : State :=
  (((((t.set SU_STATE 5).flag THERM_STAT_TRIPPED true).set THERM_STAT_DIE die).set THERM_STAT_STACK stack).set TRIP_TIME_NS ns).set TRIP_TIME_SEC sec

theorem trip_eq (s : State) (die stack : Nat) : s.trip die stack = ((tripShown (tripped s) die stack s.time.ns s.time.sec).raise 1 2).fault 14 .aborted 0 0 0 0 0 := rfl

theorem tripped_keeps (s : State) : (tripped s).power.thermTripLow = true ∧ ∀ d, 1 ≤ d → d < 8 → (tripped s).dom d = .off := by
  have keeps : ResetKeeps (tripLow s) (tripped s) := (ResetKeeps.refl (tripLow s)).resetDomains allDomains
  refine ⟨keeps.thermTrip.trans (tripLow_low s), fun d low high => ?_⟩
  have named : d ∈ allDomains := by
    unfold allDomains
    interval_cases d <;> decide
  exact (resetDomains_dom (by decide) _ d).trans (if_pos named)

theorem tripShown_shows (t : State) (die stack ns sec : Nat) : (tripShown t die stack ns sec).get SU_STATE = 5 ∧ (tripShown t die stack ns sec).on THERM_STAT_TRIPPED = true ∧
    (tripShown t die stack ns sec).get THERM_STAT_DIE = die % 8 ∧ (tripShown t die stack ns sec).get THERM_STAT_STACK = stack % 16 ∧ (tripShown t die stack ns sec).get TRIP_TIME_NS = ns % 2 ^ 30 := by
  refine ⟨?_, ?_, ?_, ?_, ?_⟩
  · rw [tripShown, State.get_set_ne (by decide), State.get_set_ne (by decide), State.get_set_ne (by decide), State.get_set_ne (by decide), State.get_flag_ne (by decide), State.get_set_self]
    rfl
  · rw [State.on, tripShown, State.get_set_ne (by decide), State.get_set_ne (by decide), State.get_set_ne (by decide), State.get_set_ne (by decide)]
    exact State.on_flag_self rfl _ _
  · rw [tripShown, State.get_set_ne (by decide), State.get_set_ne (by decide), State.get_set_ne (by decide), State.get_set_self]
    rfl
  · rw [tripShown, State.get_set_ne (by decide), State.get_set_ne (by decide), State.get_set_self]
    rfl
  · rw [tripShown, State.get_set_ne (by decide), State.get_set_self]
    rfl

theorem tripShown_power (t : State) (die stack ns sec : Nat) : (tripShown t die stack ns sec).power = t.power := rfl

theorem trip_shows (s : State) (die stack : Nat) : (s.trip die stack).get SU_STATE = 5 ∧ (s.trip die stack).on THERM_STAT_TRIPPED = true ∧ (s.trip die stack).get THERM_STAT_DIE = die % 8 ∧
    (s.trip die stack).get THERM_STAT_STACK = stack % 16 ∧ (s.trip die stack).power.thermTripLow = true ∧ (∀ d, d < 8 → 1 ≤ d → (s.trip die stack).dom d = .off) ∧ (s.trip die stack).shows 0 1 2 = true ∧
    (s.trip die stack).get TRIP_TIME_NS = s.time.ns % 2 ^ 30 := by
  obtain ⟨low, off⟩ := tripped_keeps s
  rw [trip_eq]
  generalize tripped s = t at low off
  obtain ⟨state, trippedOn, dieNo, stackNo, ns⟩ := tripShown_shows t die stack s.time.ns s.time.sec
  have power : ((((tripShown t die stack s.time.ns s.time.sec).raise 1 2).fault 14 .aborted 0 0 0 0 0)).power = t.power :=
    (fault_power _ _ _ _ _ _ _ _).trans ((State.raise_power _ _ _).trans (tripShown_power _ _ _ _ _))
  have get {f : Field} (other : f.key ≠ FT_LOST.key) : (((tripShown t die stack s.time.ns s.time.sec).raise 1 2).fault 14 .aborted 0 0 0 0 0).get f = (tripShown t die stack s.time.ns s.time.sec).get f :=
    (fault_get_ne other _ _ _ _ _ _ _ _).trans (State.raise_get _ _ _ _)
  refine ⟨(get (by decide)).trans state, ?_, (get (by decide)).trans dieNo, (get (by decide)).trans stackNo, ?_, fun d above below => ?_, fault_keepsShown _ _ _ _ _ _ _ _ _ _ _ (State.raise_shows _ _ _),
    (get (by decide)).trans ns⟩
  · rw [State.on, get (by decide)]
    exact trippedOn
  · rw [power]
    exact low
  · rw [dom_of_power power]
    exact off d below above

/-- R546. A trip that is cleared. -/
def tripCleared (s : State) : State :=
  ({ s with power := { s.power with thermTripLow := false } }.flag THERM_STAT_TRIPPED false).set SU_STATE (if s.power.fusesLoaded then 2 else 1)

theorem tripCleared_shows (s : State) : (tripCleared s).on THERM_STAT_TRIPPED = false ∧ (tripCleared s).power.thermTripLow = false ∧ (tripCleared s).get SU_STATE = (if s.power.fusesLoaded then 2 else 1) ∧
    OnlyRegs [THERM_STAT_TRIPPED, SU_STATE] s (tripCleared s) := by
  refine ⟨?_, rfl, ?_, ?_⟩
  · rw [State.on, tripCleared, State.get_set_ne (by decide)]
    exact State.on_flag_self rfl _ _
  · rw [tripCleared, State.get_set_self]
    exact Nat.mod_eq_of_lt (show (if s.power.fusesLoaded then 2 else 1) < 16 by split <;> omega)
  · exact (onlyRegs_flag ((OnlyRegs.refl _ s).of_regs (u := { s with power := { s.power with thermTripLow := false } }) rfl) (by simp) _).set (by simp) _

/-- Settles O48: a transfer by pmCmd and by the kind that it records, a patch by the branches of its load and the registers that its end writes, a sample by the readings that it leaves, a trip by the resets of every
domain. -/
theorem pmbusPatchesAndTemperatures : Obligations.PmbusPatchesAndTemperatures := by
  refine ⟨?sendByte, ?writeByte, ?writeWord, ?readByte, ?readWord, ?blockRead, ?guarded, ?done, ?failed, ?loads, ?refusedNow, ?patchDone, ?patchEnds, ?short, ?sample, ?trips, ?stack, ?clears, ?tooWarm⟩
  case sendByte => exact fun fn addr code s reach idle => pmCmd_shows (kind := 0) rfl reach idle (fun no => absurd no (by decide)) (by decide) rfl
  case writeByte =>
    intro fn addr code s reach idle
    refine pmCmd_shows (kind := 1) rfl reach idle (fun no => absurd no (by decide)) (by decide) ?_
    have byte : BitVec.ofNat 8 (s.get PM_WDATA) = BitVec.ofNat 8 (s.get PM_WDATA % 256) := BitVec.eq_of_toNat_eq (by simp)
    simp [xferBytes, leBytes, byte]
  case writeWord => exact fun fn addr code s reach idle free => pmCmd_shows (kind := 2) rfl reach idle (fun _ => free) (by decide) rfl
  case readByte => exact fun fn addr code s reach idle => pmCmd_shows (kind := 3) rfl reach idle (fun no => absurd no (by decide)) (by decide) rfl
  case readWord => exact fun fn addr code s reach idle => pmCmd_shows (kind := 4) rfl reach idle (fun no => absurd no (by decide)) (by decide) rfl
  case blockRead => exact fun fn addr code s reach idle => pmCmd_shows (kind := 5) rfl reach idle (fun no => absurd no (by decide)) (by decide) rfl
  case guarded =>
    intro fn addr code x s reach idle guard vout used named page outside
    have manager := reaches_pmbus reach
    subst manager
    refine .of_next (pmCmd_guarded reach idle (guarded_of guard vout used named page outside)) ⟨?_, ?_, ?_, rfl⟩
    · rw [State.on, State.get_of_regs (State.refuseWrite_regs _ _ _ _), State.get_set_ne (by decide), xferNamed_get_ne (by decide) (by decide) (by decide)]
      exact idle
    · rw [State.get_of_regs (State.refuseWrite_regs _ _ _ _), State.get_set_self]
      rfl
    · exact congrArg Page.errCode (capture_page _ 4 .badParam _ _)
  case done => exact fun b s busy => .of_next (pmDone_ok busy b) (xferDone_shows s b)
  case failed => exact fun c s busy => .of_next (pmDone_failed busy c) (pmFailed_shows s c)
  case loads =>
    intro fn s reach idle bringup straps some fits
    show execPatchLoad fn s = _
    unfold execPatchLoad
    rw [mmio_reaches reach, if_neg (by simp [idle]), if_neg (by simp [bringup, straps]), if_neg (by omega), if_neg (by omega)]
  case refusedNow =>
    intro fn s reach idle wrong
    show execPatchLoad fn s = _
    unfold execPatchLoad
    rw [mmio_reaches reach, if_neg (by simp [idle]), if_pos (by rcases wrong with early | straps <;> simp [*])]
  case patchDone => exact fun src version profile a s t z st b busy free draw fetch => patchDone_runs busy free draw fetch
  case patchEnds => exact fun version st s small => patchEnds_shows s st small
  case short => exact fun profile b s short => patchVerdict_short s profile short
  case sample =>
    intro a b io s first second third
    have none : [tempReading a, tempReading b, tempReading io].findIdx? (fun x => decide (1920 ≤ x)) = none := by
      rw [List.findIdx?_eq_none_iff]
      simp [first, second, third]
    have run : exec (.thermalSample a b io) s = .next (sampleSeen s a b io) := by
      rw [thermalSample_runs, none]
    exact .of_next run (sampleSeen_shows s a b io)
  case trips =>
    intro a b io s hot up
    have first : [tempReading a, tempReading b, tempReading io].findIdx? (fun x => decide (1920 ≤ x)) = some 0 := by
      rw [List.findIdx?_cons, if_pos (by simpa using hot)]
    have state : (sampleSeen s a b io).get SU_STATE ≠ 5 := by
      rw [State.get_of_regs (sampleSeen_regs s a b io), sampled, State.get_set_ne (by decide), State.get_set_ne (by decide), State.get_set_ne (by decide)]
      exact up
    have run : exec (.thermalSample a b io) s = .next ((sampleSeen s a b io).trip 1 0) := by
      rw [thermalSample_runs, first]
      dsimp only
      rw [if_neg state]
    have shown := trip_shows (sampleSeen s a b io) 1 0
    rw [(sampleSeen_keeps s a b io).2] at shown
    exact .of_next run shown
  case stack =>
    intro k s stack up on
    show execCatastrophicTemperature k s = _
    unfold execCatastrophicTemperature
    rw [if_pos (by simp [stack, up, on])]
  case clears =>
    intro fn s reach trippedOn cool
    have run : exec (.tripClear fn) s = .next (tripCleared s) := by
      show execTripClear fn s = _
      have none : s.readings.any (fun t => decide (1520 ≤ t)) = false := by
        rw [List.any_eq_false]
        intro x mem
        simpa using cool x mem
      unfold execTripClear
      rw [mmio_reaches reach, none, if_neg (by decide), if_neg (by simp [trippedOn])]
      rfl
    exact .of_next run (tripCleared_shows s)
  case tooWarm =>
    intro fn s reach warm
    show execTripClear fn s = _
    have some : s.readings.any (fun t => decide (1520 ≤ t)) = true := by simpa using warm
    unfold execTripClear
    rw [mmio_reaches reach, if_pos some]

end Sys2Proof.Proofs
